-- ==== Sys2Proof/Word.lean ====
section
/-!
DEFINITION. The word types of the device: 32-bit register and signal words, bytes, and their plainest conversions.
Registers are 32 bits wide and byte addressed (spec/00_scope.md, "Registers"); multi-byte integers are little-endian
wherever a rule does not say otherwise (R41, R364, R475).
-/
namespace Sys2Proof

/-- A register or a signal value. -/
abbrev Word := BitVec 32
/-- A byte of a memory or a frame. -/
abbrev Byte := BitVec 8

/-- The `n` low bytes of `v`, least significant byte first. -/
def leBytes : Nat → Nat → List Byte
  | 0, _ => []
  | n + 1, v => BitVec.ofNat 8 v :: leBytes n (v / 256)

/-- The number a little-endian byte string spells. -/
def ofLe : List Byte → Nat
  | [] => 0
  | b :: t => b.toNat + 256 * ofLe t

/-- The `n` low bytes of `v`, most significant byte first. -/
def beBytes (n v : Nat) : List Byte := (leBytes n v).reverse

/-- The number a big-endian byte string spells. -/
def ofBe (l : List Byte) : Nat := l.foldl (fun a b => 256 * a + b.toNat) 0

/-- Bit `i` of a number. -/
def bit (v i : Nat) : Bool := v / 2 ^ i % 2 = 1

/-- 1 for true and 0 for false. -/
def b2n (b : Bool) : Nat := if b then 1 else 0

/-- Sum of 2^i over the positions that hold: the mask of a list of bits, bit 0 first. -/
def maskOf : List Bool → Nat
  | [] => 0
  | b :: t => b2n b + 2 * maskOf t

/-- The two's complement reading of the low `w` bits of `v`. -/
def toInt (w v : Nat) : Int := if v % 2 ^ w < 2 ^ (w - 1) then (v % 2 ^ w : Nat) else (v % 2 ^ w : Nat) - (2 ^ w : Nat)

/-- The low `w` bits of an integer in two's complement. -/
def ofInt (w : Nat) (i : Int) : Nat := (i % (2 ^ w : Nat)).toNat

/-- Division rounded up. -/
def ceilDiv (a b : Nat) : Nat := (a + b - 1) / b

end Sys2Proof
end

