-- ==== Sys2Proof/Syntax.lean ====
section
/-!
DEFINITION. The commands the block takes: one constructor per row of spec/opcode_table.json, with what the surroundings
supply as operands (the table gives none). Operand structures stand first.
-/
namespace Sys2Proof

/-- A Flue frame as a receiver sees it (R285, R292). [DESIGN CHOICE, log entry 53] -/
structure RawFrame where
  /-- 0 ring A, 1 ring B. -/
  ring : Nat
  /-- The 12 header bytes of R286. -/
  header : List Byte
  payload : List Byte
  /-- The frame CRC as received. -/
  crc : Nat
  /-- The frame ends with EOF rather than ABORT. -/
  eof : Bool
  /-- The two tail bytes of R288. -/
  hops : Nat
  hopsInv : Nat
  /-- Local Flue time in ns at which the SOF reached the receiver. -/
  tRx : Nat
  /-- The node inserts an own frame on this ring (R291). -/
  inserting : Bool
  /-- Code and disparity errors since the previous frame on this ring. -/
  codeErrs : Nat
deriving DecidableEq, Repr, Inhabited

/-- What starts on converters (R259, R265, R266). -/
inductive AdcSeq where
  | regular (v : Nat)
  | injected (v : Nat)
  | group (g : Nat)
  | pair (p : Nat)
deriving DecidableEq, Repr

/-- A CAN frame (R341, R344): identifier, extended format, DLC, FDF, BRS, data bytes. -/
structure CanMsg where
  id : Nat
  ext : Bool
  dlc : Nat
  fdf : Bool := false
  brs : Bool := false
  data : List Byte
deriving DecidableEq, Repr, Inhabited

/-- A bus output in a comparator's FIFO (R426): the tag names the instance and its sample, or the andiron step (sample 0); address,
byte enables, data. -/
structure BusWrite where
  tag : Nat
  sample : Nat := 0
  addr : Nat
  be : Nat
  data : Nat
deriving DecidableEq, Repr, Inhabited

/-- What analogue BIST measures (R507): inputs in µV of the reference check and its repeat as (channel 58, channel 63) by converter;
the Flue time in ns of the conversions; of channels 0 to 8 the eight conversions of the standstill check as (converter, input in
µV); DAC loop-back conversions as (DAC code, input in µV) by converter and for the repeat; whether each gate's SENSE followed CMD,
turn-on delays in ns, droop rates in mV/ms by high side; the conversions of channels 48 to 50 as (converter, input in µV). -/
structure AbistEnv where
  refFirst : List (Int × Int)
  refAgain : List (Int × Int)
  t : Nat
  still : List (List (Nat × Int))
  dac1 : List (List (Nat × Int))
  dac2 : List (List (Nat × Int))
  sense : List Bool
  ton : List Nat
  droop : List Nat
  shunt : List (List (Nat × Int))
deriving DecidableEq, Repr, Inhabited

/-- What the surroundings give a run of LOAD (R53): the strap levels; time from VSUP valid to its end and PLL lock times in µs; counts
of the crystal and PLL windows; failing rows by tile and banks whose spare tile fails; of each flash slot whether the flash
answers, its JEDEC ID and the offset of a read error; ring oscillators in 0.1 MHz; failing bits of the canary tiles; the MRAM's
JEDEC ID and size; of the hold-up measurement the input current in mA, the voltage drop and the starting voltage in mV; the
reference check and its repeat (inputs in µV); differences missed by each comparator's self-test and clean patterns it flagged; restoration steps of
domains that time out as (domain, step, whether the repeat does too). [DESIGN CHOICE, log entry 7] -/
structure LoadEnv where
  strap : Nat
  us : Nat
  lockUs : List Nat
  windows : List Nat
  failRows : List (Nat × List Nat)
  badSpares : List Nat
  flash : List (Bool × Nat × Option Nat)
  ro : List Nat
  canary : List Nat
  mram : Option (Nat × Nat)
  iin : Nat
  dv : Nat
  vload : Nat
  refFirst : List (Int × Int)
  refAgain : List (Int × Int)
  cmpMissed : List Nat
  cmpFlagged : List Nat
  domFails : List (Nat × Nat × Bool) := []
deriving DecidableEq, Repr, Inhabited

/-- A service frame as the port sees it (R537): ADDR and LEN of the header, the host's data words, the CRC-16 that the host sent, the
busy time in µs and in bytes of 0x00, whether it began with SVC_SCK high, and the ns of Flue time and RTC units that have passed since
each was last told. -/
structure SvcFrame where
  addr : Nat
  len : Nat
  data : List Word := []
  crc : Nat := 0
  busyUs : Nat := 0
  busyBytes : Nat := 0
  mode3 : Bool := false
  flueNs : Nat := 0
  rtcUnits : Nat := 0
deriving DecidableEq, Repr, Inhabited

/-- What an instruction loaded through the TAP is (R540): IDCODE, BYPASS, a boundary scan that drives its cells with these bits,
accesses of the debug port, or another. -/
inductive JtagOp where
  | idcode
  | bypass
  | boundary (cells : List Bool)
  | read (addr n : Nat)
  | write (addr : Nat) (data : List Word)
  | other
deriving DecidableEq, Repr, Inhabited

/-- The commands of spec/opcode_table.json, one constructor per row. -/
inductive Instr where
  /-- VSUP_VALID (R58): VSUP rises above its valid threshold, PWR_REQ rises and the device leaves DORMANT for LOAD. -/
  | vsupValid (elapsed : Nat)
  /-- VSUP_LOSS (R58): VSUP falls below its valid threshold while VBAT is present and the device takes the DORMANT edge. -/
  | vsupLoss
  /-- PIN_RESET (R31): RST_N is accepted low and the device resets with cause PIN. -/
  | pinReset (same : Bool)
  /-- CORE_UNDER_VOLTAGE (R458): The core supply falls below 0.72 V for 1 µs and the device resets with cause CORE_UV. -/
  | coreUnderVoltage (same : Bool)
  /-- RESET_RELEASE (R53): Reset is released and the device runs LOAD: supplies, clocks, wipe, MBIST, image checks, re-plan and placement. -/
  | resetRelease (e : LoadEnv)
  /-- LBIST_COMPLETE (R504): LBIST ends, is retried once on failure, and analogue BIST starts or SELF-TEST fails. -/
  | lbistComplete (part1 : Nat) (part2 : Nat)
  /-- ANALOGUE_BIST (R507): Reference, standstill, DAC, gate, bootstrap and shunt steps run and SELF-TEST ends into JOIN, SERVICE or SAFE-HOLD. -/
  | analogueBist (e : AbistEnv)
  /-- JOIN_TIMEOUT (R58): JOIN has not completed 60 ms after entry and the device enters SAFE-HOLD. -/
  | joinTimeout
  /-- LISTEN_TIMEOUT (R331): A kindling node has heard no frame for LISTEN cycles plus its node wait and begins lone kindling. -/
  | listenTimeout (t : Nat)
  /-- COLD_LIMIT_EXPIRY (R331): COLD_LIMIT cycles pass without kindling succeeding and the node stops sending and listens again. -/
  | coldLimitExpiry
  /-- ELECTION (R366): After SETTLE cycles the device enters LEAD or SHADOW from the channel frames heard. -/
  | election
  /-- CYCLE_BOUNDARY (R281): A Flue cycle begins: payloads freeze, mode and schedule changes take effect and sample cycles execute. -/
  | cycleBoundary
  /-- RATE_CORRECTION (R325): Every 16 cycles the rate correction is updated by half the measured error. -/
  | rateCorrection
  /-- CHECKPOINT (R486): At C mod 64 = 0 a checkpoint of the carried set enters the journal ring. -/
  | checkpoint
  /-- SNAPSHOT (R465): Every 1 ms the Ember domain stores a snapshot pair of Flue time and RTC. -/
  | snapshot (elapsed : Nat)
  /-- STATIC_SEGMENT_END (R401): At the end of the static segment safety verdicts, silence, deposition, engagement and fault count are decided. -/
  | staticSegmentEnd
  /-- TICK (R424): A tick starts: the intake record is sampled and slot ends and starts take place. -/
  | tick (measured : List (Nat × Word)) (shown : List (Nat × Word))
  /-- HOB_DISPATCH (R87): An idle hob takes the head of its queue or steals a ready entry. -/
  | hobDispatch (hob : Nat)
  /-- BLOCK_STAGE (R90): A hob finishes an instance and stages its outputs and state. -/
  | blockStage (hob : Nat) (upset : List Word) (tiles : List Nat)
  /-- BUS_OUTPUT_WRITE (R426): A SAFETY or andiron write enters the comparator FIFO and is released when its partner matches. -/
  | busOutputWrite (k : Nat) (side : Bool) (w : BusWrite)
  /-- CMP_TIMEOUT (R427): A partner write has not arrived within CMP_TIMEOUT and counts as a mismatch. -/
  | cmpTimeout (k : Nat) (tag : Nat)
  /-- CMP_VERDICT_DISAGREE (R430): A comparator's dual-rail verdict disagrees over 2 clocks, raising CMP_FAIL or retiring a lane. -/
  | cmpVerdictDisagree (k : Nat) (pairDiffers : Bool)
  /-- TILE_VERIFY (R92): A bank verifier finishes checking a tile, re-reads on failure and repairs a lasting fault. -/
  | tileVerify (tile : Nat) (pass1 : Bool) (pass2 : Bool) (hob : Option Nat) (homed : List Nat)
  /-- COMMIT (R91): A block's sample commits outputs, state and age flags once all conditions hold. -/
  | commit (inst : Nat) (slack : Nat) (wait : Nat)
  /-- DEADLINE_MISS (R95): A slot ends without commit and the block and its dependants miss. -/
  | deadlineMiss (k : Nat)
  /-- SHADOW_COPY_APPLY (R65): A SERVICE write held in a shadow copy takes effect at its owner's sample boundary. -/
  | shadowCopyApply
  /-- FAULT_RAISE (R437): A fault source changes to asserted and the collector records it and takes its action. -/
  | faultRaise (source : Nat) (lasting : Bool) (us : Nat)
  /-- WIRE_FAULT (R436): A source pair disagrees for over 2 clocks and WIRE_FAULT is raised. -/
  | wireFault (source : Nat) (disagrees : Bool)
  /-- CLEAR_WAIT_EXPIRY (R243): CLEAR_WAIT after a fault the held imposition or shutdown is lifted and a try counted. -/
  | clearWaitExpiry (source : Nat) (persists : Bool)
  /-- TRY_COUNT_RESET (R243): After 1 s without recurrence the try count returns to 0. -/
  | tryCountReset (source : Nat)
  /-- FORCE_PULSE_END (R443): A force pulse ends and the source is resampled and raised as real or cleared. -/
  | forcePulseEnd (source : Nat) (real : Bool)
  /-- DESAT (R237): A conducting switch desaturates and OFF is imposed on its bridge. -/
  | desat (gate : Nat)
  /-- OVERCURRENT (R238): The shunt voltage exceeds OC_TH for OC_FILT and OFF is imposed. -/
  | overcurrent (bridge : Nat)
  /-- GATE_STUCK (R231): An opposite gate is not sensed off within 1 µs and OFF is imposed. -/
  | gateStuck (gate : Nat)
  /-- SHOOT_THROUGH_ATTEMPT (R232): Both switches of a half-bridge are commanded on and the later command is ignored. -/
  | shootThroughAttempt (gate : Nat) (both : Bool)
  /-- BOOT_REFRESH (R234): VBS falls to BOOT_REFRESH and a refresh pulse is inserted in the next falling half. -/
  | bootRefresh (gate : Nat)
  /-- BOOT_UV (R235): VBS falls to BOOT_UV, the high side turns off and a lasting repeat imposes OFF. -/
  | bootUv (gate : Nat)
  /-- CHOPPER_SWITCH (R239): The link voltage crosses CH_ON or CH_OFF and the chopper turns on or off. -/
  | chopperSwitch (link : Nat) (u : Nat)
  /-- CHOPPER_FAIL (R240): The chopper gate disagrees or the link stays above OV_ASC and the reaction threshold drops to CH_ON. -/
  | chopperFail (link : Nat)
  /-- LINK_OV (R240): The link reaches its reaction threshold and ASC or OFF is imposed. -/
  | linkOv (link : Nat) (u : Nat)
  /-- LINK_TRIP (R240): The link exceeds OV_TRIP and OFF is imposed on all bridges. -/
  | linkTrip (link : Nat) (u : Nat)
  /-- SOL_SHORT (R246): A solenoid short opens both switches within 1 µs. -/
  | solShort (channel : Nat)
  /-- SOL_OPEN (R246): Current below 20 mA for 5 ms at high duty raises SOL_OPEN. -/
  | solOpen (channel : Nat) (holds : Bool)
  /-- SOL_DEVIATION (R246): The mean current deviates for 20 PWM periods and SOL_DEVIATION is raised. -/
  | solDeviation (channel : Nat) (holds : Bool)
  /-- EN_READBACK (R247): An enable's readback differs for longer than RB_TIME. -/
  | enReadback (enable : Nat) (rb : Bool)
  /-- SS_FAULT (R248): A sensor supply in current limit for 5 ms is switched off. -/
  | ssFault (supply : Nat)
  /-- TEST_PULSE_START (R411): A waiting supply test pulse starts at its staggered cycle or after the previous pulse. -/
  | testPulseStart (low : Bool)
  /-- TEST_PULSE_RELEASE (R249): After 100 µs the pulsed supply is released and recovers. -/
  | testPulseRelease
  /-- HALF_START (R203): A carrier half begins with its high times, repeat or fallback, refresh and sample plan. -/
  | halfStart (n : Nat)
  /-- XDIS_IN_LOW (R242): XDIS_IN is accepted low and the gate enable, solenoids and enables are removed. -/
  | xdisInLow
  /-- XDIS_IN_HIGH (R382): XDIS_IN is accepted high again and the imposition lifts. -/
  | xdisInHigh
  /-- XDIS_GRACE_EXPIRY (R385): XDIS_IN stays low beyond XDIS_GRACE in a lead mode and LEAD_SUPERSEDED is raised. -/
  | xdisGraceExpiry
  /-- HANDOVER_TIMEOUT (R376): No ROLE 2 frame by H + HO_TIMEOUT and the lead cancels the handover. -/
  | handoverTimeout
  /-- ISOLATE_LIMP_EXPIRY (R388): An isolated device in LIMP enters STOPPING after ISOLATE_LIMP. -/
  | isolateLimpExpiry
  /-- GRACE_EXPIRY (R386): REDUNDANCY_LOST has held for GRACE seconds and GRACE_OVER sets. -/
  | graceExpiry
  /-- STANDSTILL_HOLD_EXPIRY (R58): In STOPPING, standstill for 1 s with the release valve off leads to SAFE-HOLD. -/
  | standstillHoldExpiry
  /-- FLUE_FRAME_RECEIVE (R292): A frame arrives on a ring and is forwarded, stripped, accepted or rejected. -/
  | flueFrameReceive (f : RawFrame)
  /-- FRAME_TRANSMIT (R282): At its action point the device inserts an own static or dynamic frame through the damper. -/
  | frameTransmit (slot : Nat) (dev : Int) (fin : Int) (passing : Bool)
  /-- DAMPER_DIVERGE (R294): The damper and transmitter timelines differ by over 125 ns and the damper closes. -/
  | damperDiverge (ns : Nat)
  /-- RECEIVER_LOCK (R280): A ring receiver locks after 64 clean symbols. -/
  | receiverLock (ring : Nat)
  /-- LOCK_LOSS (R280): A ring receiver loses lock and stops forwarding on that ring. -/
  | lockLoss (ring : Nat) (errs : Nat)
  /-- BYPASS_OPEN (R300): With receiver locked and transmitter ready the bypass opens at an idle gap. -/
  | bypassOpen (ring : Nat)
  /-- BYPASS_CLOSE (R299): A bypass condition arises and the switch closes within 2 µs. -/
  | bypassClose (ring : Nat)
  /-- PPS_EDGE (R329): A PPS edge latches Flue time and sets the alignment correction. -/
  | ppsEdge (t : Nat) (rising : Bool)
  /-- PPS_LOST (R329): Three seconds without a PPS edge reset the correction and report PPS lost. -/
  | ppsLost
  /-- COUNT_STEP (R182): An accepted position input change steps COUNT and time-stamps it. -/
  | countStep (i : Nat) (t : Nat) (levels : Nat) (held : Nat)
  /-- INDEX_EDGE (R184): An accepted index edge is judged, held as candidate or realigns COUNT. -/
  | indexEdge (i : Nat) (t : Nat) (rising : Bool) (held : Nat)
  /-- PROBE_EDGE (R192): A probe edge latches count and time, or counts as overrun. -/
  | probeEdge (i : Nat) (t : Nat) (rising : Bool) (held : Nat)
  /-- SERIAL_READ_START (R189): A serial read starts READ_ADV before the tick that begins a slot. -/
  | serialReadStart (i : Nat) (t : Nat) (released : Nat)
  /-- SERIAL_WORD_END (R189): The last bit of a serial word is sampled and the word judged, retried or counted lasting. -/
  | serialWordEnd (i : Nat) (t : Nat) (start : Bool) (data : Nat) (err : Bool) (crc : Nat)
  /-- SERIAL_TIMEOUT (R189): Data does not return to 1 within TIMEOUT. -/
  | serialTimeout (i : Nat)
  /-- PASS_THROUGH_FRAME (R197): The next drive starts a serial frame and the device shifts out its latched word. -/
  | passThroughFrame (i : Nat)
  /-- SEQUENCE_START (R259): A trigger or start bit starts a regular or injected sequence, group or pair. -/
  | sequenceStart (what : AdcSeq) (acq : Nat) (inConv : Nat)
  /-- CONVERSION_COMPLETE (R258): A conversion result is written to its channel. -/
  | conversionComplete (v : Nat) (input : Int) (t : Nat) (settled : Bool)
  /-- REFERENCE_CHECK (R267): Every 10 ms each converter checks bandgap and ground and may become FAILED. -/
  | referenceCheck
  /-- OPEN_WIRE_PERIOD (R270): OW_PERIOD expires and a test cycle starts on the next channel. -/
  | openWirePeriod
  /-- ADC_START (R274): A write to ADC_START sets start bits of regular or injected sequences. -/
  | adcStart (reg : Nat) (inj : Nat)
  /-- CAN_FRAME_RECEIVE (R344): A received CAN frame is filtered, time-stamped and queued. -/
  | canFrameReceive (n : Nat) (f : CanMsg) (t : Nat) (err : Option (Nat × Bool))
  /-- CAN_FRAME_END (R342): A transmit attempt ends and the buffer's held load or cancel resolves. -/
  | canFrameEnd (n : Nat) (how : Nat) (lec : Nat)
  /-- BUS_OFF_RECOVERY (R339): After 128 recessive sequences the controller rejoins. -/
  | busOffRecovery (n : Nat)
  /-- CLAIM_STANDS (R347): 250 ms without contention make the claim stand. -/
  | claimStands
  /-- SECTION_CONTROL_TIMEOUT (R168): No section control for the timeout turns every point off and sets ISO_STALE. -/
  | sectionControlTimeout
  /-- ETH_FRAME_RECEIVE (R350): A received Ethernet frame is filtered and dispatched or dropped. -/
  | ethFrameReceive (p : Nat) (frame : List Byte) (fcs : Bool) (t : Nat)
  /-- PAUSE_REPEAT (R351): Half the pause time passes with fill at or above LOW_WATER and the pause repeats. -/
  | pauseRepeat (p : Nat)
  /-- LOW_WATER (R351): Draining takes the fill below LOW_WATER and a zero pause is sent. -/
  | lowWater (p : Nat)
  /-- PAUSE_EXPIRY (R352): The received pause time runs out and the transmitter resumes. -/
  | pauseExpiry (p : Nat)
  /-- PHY_POLL (R349): Every 10 ms the andiron reads the PHY and resolves link state. -/
  | phyPoll (p : Nat) (regs : List Nat)
  /-- PTP_SYNC (R355): A lead sends two-step Sync and Follow_Up at its interval. -/
  | ptpSync (p : Nat) (t : Nat)
  /-- ANNOUNCE (R355): A lead sends Announce every second. -/
  | announce (p : Nat)
  /-- ARP_EXPIRY (R353): An ARP entry expires 60 s after it was last learned. -/
  | arpExpiry (p : Nat) (entry : Nat)
  /-- HELLO (R150): A HELLO opens a session or adds a port to the present one. -/
  | hello
  /-- POSE (R151): A POSE is accepted or refused with BAD_POSE. -/
  | pose
  /-- TILE (R146): A TILE fragment is accepted under credit and assembled into a tile. -/
  | tile
  /-- EVENTS (R147): Target events are accepted under credit into the event queue or dropped as UNKNOWN discs. -/
  | events
  /-- SETPOINT (R146): Set-point records are offered to set-point channels by key. -/
  | setpoint
  /-- TILE_DROP (R146): Named tile entries are freed after any send-back. -/
  | tileDrop
  /-- BYE (R150): BYE ends the feed session. -/
  | bye
  /-- CREDIT (R147): Every 1 ms the device sends CREDIT with its limits. -/
  | credit
  /-- TILE_REQ (R140): A missing pinned tile is requested again every REQ_REPEAT ms. -/
  | tileReq
  /-- TILE_TIMEOUT (R146): A tile incomplete after ASSEMBLY ms is discarded and becomes UNKNOWN. -/
  | tileTimeout (layer : Nat) (tx : Int) (ty : Int)
  /-- SESSION_TIMEOUT (R150): No accepted message for the session timeout ends the session. -/
  | sessionTimeout
  /-- SETPOINT_TIMEOUT (R126): A set-point source times out and the channel changes source or ages. -/
  | setpointTimeout (channel : Nat) (alt : Bool)
  /-- SHUTDOWN_REQUEST (R464): The shutdown channel holds non-zero for HOLD ms and a shutdown request becomes pending. -/
  | shutdownRequest (holds : Bool)
  /-- DORMANT_RELEASE (R465): With shutdown pending and no Ash commit running the device arms the alarm and releases PWR_REQ. -/
  | dormantRelease (elapsed : Nat) (alarmFires : Bool)
  /-- RTC_ALARM (R466): The RTC alarm fires, raises PWR_REQ and wins over a DORMANT release. -/
  | rtcAlarm (elapsed : Nat)
  /-- WAKE_TIMEOUT (R466): VSUP does not become valid within WAKE_WAIT and PWR_REQ is released. -/
  | wakeTimeout (elapsed : Nat)
  /-- VBAT_LOSS (R454): VBAT falls below 1.8 V and the Ember domain resets. -/
  | vbatLoss
  /-- XT32_FAIL (R454): No 32.768 kHz edge for 100 µs and the RTC runs on the Ember RC. -/
  | xt32Fail (elapsed : Nat)
  /-- XT32_RETURN (R454): The crystal runs 1 s without a gap and the RTC returns to it. -/
  | xt32Return (elapsed : Nat)
  /-- PLL_LOSS (R457): A PLL loses lock or its monitor window fails. -/
  | pllLoss (half : Nat) (lock : Bool) (count : Nat)
  /-- XT25_FAIL (R457): The 25 MHz crystal stops or leaves tolerance. -/
  | xt25Fail (count : Nat)
  /-- VSUP_UV (R458): VSUP stays below its under-voltage threshold for 50 µs. -/
  | vsupUv
  /-- VSUP_OV (R458): VSUP stays above its over-voltage threshold for 50 µs. -/
  | vsupOv
  /-- CORE_OV (R458): The core supply exceeds 0.90 V for 2 µs. -/
  | coreOv
  /-- VIO_FAULT (R458): VIO leaves 3.0-3.6 V for 10 µs. -/
  | vioFault (mv : Nat)
  /-- VGD_FAULT (R458): VGD leaves ±5 % of its setting for 10 µs. -/
  | vgdFault
  /-- VBAT_LOW (R458): VBAT stays below 2.2 V for 1 ms. -/
  | vbatLow
  /-- TEMP_CONVERSION (R458): A 10 ms temperature conversion raises or clears TEMP sources. -/
  | tempConversion (north : Nat) (south : Nat) (power : Nat)
  /-- VOTE_WITHDRAW (R461): A domain's last vote is withdrawn and entry into its low state starts or is refused. -/
  | voteWithdraw (domain : Nat) (client : Nat) (coincident : Option Nat)
  /-- VOTE_SET (R462): A vote on a domain turns it on or aborts its entry. -/
  | voteSet (domain : Nat) (client : Nat)
  /-- DOMAIN_STEP_READY (R463): A restoration or entry step reports ready and the next step starts. -/
  | domainStepReady (domain : Nat)
  /-- DOMAIN_TIMEOUT (R463): A step or handshake exceeds TIMEOUT and is retried or the domain is lost. -/
  | domainTimeout (domain : Nat)
  /-- ROLLING_TEST_START (R510): At C mod 500 the chosen hob finishes its instance and enters its rolling test. -/
  | rollingTestStart
  /-- ROLLING_TEST_END (R511): A 180 µs rolling test ends and the hob returns or goes out of service. -/
  | rollingTestEnd (half : Nat) (pass1 : Bool) (pass2 : Bool)
  /-- CLOCK_MARGIN_MEASURE (R521): Every 100 ms the ring oscillators are measured and an emergency derate may follow. -/
  | clockMarginMeasure (ro : List Nat)
  /-- TRIM_SETTLE (R522): A trim step settles after 20 µs and the monitors report again. -/
  | trimSettle
  /-- SHUNT_DRIFT_MEASURE (R515): Every 1 s in OFF the shunt offset margin is measured. -/
  | shuntDriftMeasure
  /-- FET_MEASURE (R515): Every 1 s in RUN the low-side R_DS(on) margin is measured. -/
  | fetMeasure (bridge : Nat) (fets : List (Option (Nat × Int)))
  /-- CRYSTAL_DRIFT_MEASURE (R515): Every 16 PPS seconds the crystal drift margin is measured. -/
  | crystalDriftMeasure (dev : Int)
  /-- HOLDUP_CHECK (R492): Every 10 ms hold-up energy is compared with E_REQ and HOLDUP_LOW set or cleared. -/
  | holdupCheck (mv : Nat)
  /-- ASH_APPEND (R476): A record is written, read back, committed and its tail slot written. -/
  | ashAppend (ok1 : Bool) (ok2 : Bool) (us : Nat)
  /-- JOURNAL_FREEZE (R489): After POST entries or a graph stop the journal freezes and a WINDOW record is appended. -/
  | journalFreeze
  /-- HOLDUP_RELEASE (R493): JOURNAL withdraws its vote when the power-fail record commits or V_HOLD reaches 4.5 V. -/
  | holdupRelease
  /-- REGISTER_WRITE (R8): A write to a register without its own row acts per its access code or is refused as locked. -/
  | registerWrite (addr : Nat) (value : Word)
  /-- SYS_SWRESET (R32): Writing the key in SERVICE resets the device with cause SERVICE. -/
  | sysSwreset (key : Nat)
  /-- IMG_FLOOR_RAISE (R52): Writing the key in FIELD programs a version floor entry. -/
  | imgFloorRaise (key : Nat)
  /-- IMG_KEY_REVOKE (R70): Writing the key revokes the named key slots. -/
  | imgKeyRevoke (key : Nat) (mask : Nat)
  /-- IMG_LIFECYCLE_REQ (R63): A life-cycle change request appends a LIFECYCLE record or is refused. -/
  | imgLifecycleReq (key : Nat) (target : Nat)
  /-- LIFECYCLE_FUSE (R63): After the record commits the life-cycle e-fuse is programmed and the device resets. -/
  | lifecycleFuse
  /-- BST_FUSE_CMD (R514): Writing the key burns due sighting records into repair entries. -/
  | bstFuseCmd (key : Nat)
  /-- JRN_REPLAY_CMD (R494): Writing the key loads the selected window and enters REPLAY or refuses. -/
  | jrnReplayCmd (key : Nat)
  /-- LAW_EDIT_WORD (R132): A SERVICE write edits a word of a selected gain set or is refused. -/
  | lawEditWord (k : Nat) (value : Word)
  /-- FLT_FORCE (R443): Writing 1 forces a fault source pulse in SELF-TEST or SERVICE. -/
  | fltForce (w : Nat) (mask : Nat)
  /-- SYS_TICK_LO (R33): A read of SYS_TICK_LO latches the upper word. -/
  | sysTickLo
  /-- FLU_TIME_LO (R313): A read of FLU_TIME_LO latches FLU_TIME_HI. -/
  | fluTimeLo (elapsed : Nat)
  /-- CLK_RTC_LO (R471): A read of CLK_RTC_LO latches CLK_RTC_HI. -/
  | clkRtcLo (elapsed : Nat)
  /-- MESSAGE_SEND (R532): The sender's write of MBX_DATA_15 completes a message, sets FULL and rings the doorbell. -/
  | messageSend (side : Nat) (mailbox : Nat) (writes : List (Nat × Word))
  /-- MESSAGE_TAKE (R532): The receiver's read of MBX_DATA_15 takes the message and rings the taken doorbell. -/
  | messageTake (side : Nat) (mailbox : Nat) (coincident : List (Nat × Word))
  /-- MBX_DB_PEND (R533): Writing 1 clears a pending doorbell bit unless a ring coincides. -/
  | mbxDbPend (side : Nat) (value : Nat) (rung : Nat)
  /-- LONG_WAIT (R534): A message waits 32,000 ticks and LONG_WAIT_SEEN sets. -/
  | longWait (mailbox : Nat)
  /-- SERVICE_REQUEST (R535): Andiron N takes a mailbox 14 request in SERVICE and places the reply in mailbox 15. -/
  | serviceRequest
  /-- READ (R538): The service READ command returns register or tile words. -/
  | read (f : SvcFrame) (other : Option Nat)
  /-- WRITE (R538): The service WRITE command writes words in ascending order after its CRC checks. -/
  | write (f : SvcFrame)
  /-- ASH_READ (R497): The service ASH_READ command returns MRAM bytes. -/
  | ashRead (f : SvcFrame)
  /-- ENTER_SERVICE (R538): ENTER_SERVICE with its key moves SAFE-HOLD to SERVICE. -/
  | enterService (f : SvcFrame)
  /-- REPLAY_ABORT (R496): REPLAY_ABORT ends REPLAY at the next boundary with result aborted. -/
  | replayAbort (f : SvcFrame)
  /-- FLASH_ERASE (R538): FLASH_ERASE starts erasing a 64 KB flash sector in SERVICE. -/
  | flashErase (f : SvcFrame)
  /-- FLASH_PROGRAM (R538): FLASH_PROGRAM starts programming words of one flash page in SERVICE. -/
  | flashProgram (f : SvcFrame)
  /-- FLASH_READ (R538): FLASH_READ returns flash words in SERVICE. -/
  | flashRead (f : SvcFrame) (answers : Bool)
  /-- OTP_KEY (R538): OTP_KEY starts programming a key hash into an unprogrammed slot. -/
  | otpKey (f : SvcFrame)
  /-- NVM_OPERATION_COMPLETE (R538): An erase, program or key operation completes and its read-back result is shown. -/
  | nvmOperationComplete (answers : Bool) (good : Bool)
  /-- SVC_ABANDON (R538): A service frame ends before its CRC has checked and does nothing. -/
  | svcAbandon (header : Option (Nat × Nat × Nat)) (mode3 : Bool)
  /-- VBAT_APPLIED (R454): VBAT is applied or returns above its threshold; the Ember domain starts with the RTC at 0, and RTC_VALID stays clear until the next reset. -/
  | vbatApplied
  /-- SUPPLY_MONITOR_CLEAR (R458): VSUP, VGD or VBAT comes back within its monitor limits after the filter; the source's pair clears, so ACTIVE follows it and VGD_OK sets again. -/
  | supplyMonitorClear (source : Nat)
  /-- SERIAL_RETRY (R190): After a failed serial word, once the sensor has released data to 1 and RECOVERY has passed, the device starts its one retry read. -/
  | serialRetry (i : Nat) (t : Nat) (released : Nat)
  /-- CAN_ARBITRATION (R342): With the bus idle after intermission, the highest-ordered pending buffer sends SOF and enters arbitrating. -/
  | canArbitration (n : Nat) (won : Bool)
  /-- JTAG_INSTRUCTION (R540): An instruction loaded through the TAP acts per the life-cycle state: boundary scan and debug access in BLANK, and only IDCODE or BYPASS otherwise. -/
  | jtagInstruction (ir : Nat) (what : JtagOp) (tms : List Bool) (trst : Bool)
deriving DecidableEq, Repr

end Sys2Proof
end

