-- ==== Sys2Proof/Decode.lean ====
section
/-!
DEFINITION. The commands that words spell by the table's bits. No row of spec/opcode_table.json gives any bits (every
`fields` list is empty), so no word spells a command.
-/
namespace Sys2Proof

/-- The command a word of `nbits` bits spells by the table: none, for the table gives no row bits.
[DESIGN CHOICE, log entry 7] -/
def decodeTableWord (_nbits _w : Nat) : Option Instr := none

end Sys2Proof
end

