-- ==== Sys2Proof/Machine/Codes.lean ====
section
/-!
DEFINITION. Checks over byte strings: CRC-16 and CRC-32C (R287), the CRC-6 of serial words (R188), SHA-256 and ECDSA P-256
(R49).
-/
namespace Sys2Proof.Machine

open Sys2Proof

/-- n steps of a function. -/
def iterate {α : Type} (f : α → α) : Nat → α → α
  | 0, x => x
  | n + 1, x => iterate f n (f x)

/-- One bit of the reflected CRC-32C. -/
def crc32cBit (r : Nat) : Nat := if r % 2 = 1 then r / 2 ^^^ 0x82F63B78 else r / 2
/-- CRC-32C: polynomial 0x1EDC6F41 reflected, start and final XOR 0xFFFFFFFF (R287). -/
def crc32c (bs : List Byte) : Nat :=
  bs.foldl (fun r b => iterate crc32cBit 8 (r ^^^ b.toNat)) 0xFFFFFFFF ^^^ 0xFFFFFFFF

/-- One bit of the CRC-16. -/
def crc16Bit (r : Nat) : Nat := if 2 ^ 15 ≤ r then (r * 2 % 2 ^ 16) ^^^ 0x1021 else r * 2
/-- CRC-16: polynomial 0x1021, start 0xFFFF, not reflected (R287). -/
def crc16 (bs : List Byte) : Nat := bs.foldl (fun r b => iterate crc16Bit 8 (r ^^^ b.toNat * 256)) 0xFFFF

/-- CRC-6 with x⁶ + x + 1 over bits, most significant first, inverted at the end (R188). -/
def crc6 (bits : List Bool) : Nat :=
  bits.foldl (fun r b => if (decide (32 ≤ r)) != b then (r * 2 % 64) ^^^ 3 else r * 2 % 64) 0 ^^^ 63

/-- The low n bits of v, most significant first. -/
def bitsOf (n v : Nat) : List Bool := (List.range n).reverse.map (fun i => bit v i)

/-! SHA-256: the spec names the function (R49) and leaves its constants to the standard -/

/-- The primes below 312, of which SHA-256 takes all 64: no n below 361 that is not prime lacks a divisor up to 17.
[PRESUMED, log entry 56] -/
def shaPrimes : List Nat :=
  (List.range 312).filter (fun n => decide (1 < n) && [2, 3, 5, 7, 11, 13, 17].all (fun d => n == d || n % d != 0))

/-- The largest root r with r^e at most n, bit by bit from bit k - 1 down. -/
def rootBits (e n : Nat) : Nat → Nat → Nat
  | 0, r => r
  | k + 1, r => rootBits e n k (if (r + 2 ^ k) ^ e ≤ n then r + 2 ^ k else r)

/-- The first 32 bits behind the point of the e-th root of p. -/
def rootFraction (e p : Nat) : Nat := rootBits e (p * 2 ^ (32 * e)) 36 0 % 2 ^ 32

/-- The XOR of rotations right of a 32-bit number. -/
def rotXor (x : Nat) (places : List Nat) : Nat :=
  places.foldl (fun acc n => acc ^^^ (x / 2 ^ n + x % 2 ^ n * 2 ^ (32 - n))) 0

/-- One round with the constant k: the eight working words, and the window of sixteen schedule words that moves on.
[PRESUMED, log entry 56] -/
def shaStep (vw : List Nat × List Nat) (k : Nat) : List Nat × List Nat :=
  let v := fun i => vw.1.getD i 0
  let w := fun i => vw.2.getD i 0
  let x := k + w 0 + v 7 + rotXor (v 4) [6, 11, 25] + (v 6 ^^^ (v 4 &&& (v 5 ^^^ v 6)))
  let y := rotXor (v 0) [2, 13, 22] + ((v 0 &&& v 1) ||| (v 2 &&& (v 0 ||| v 1)))
  let next := w 0 + (rotXor (w 1) [7, 18] ^^^ w 1 / 8) + w 9 + (rotXor (w 14) [17, 19] ^^^ w 14 / 1024)
  ((x + y) % 2 ^ 32 :: vw.1.take 3 ++ (v 3 + x) % 2 ^ 32 :: (vw.1.drop 4).take 3, vw.2.tail ++ [next % 2 ^ 32])

/-- The blocks of 64 bytes in turn; the fuel bounds their number. -/
def shaBlocks (ks : List Nat) : Nat → List Nat → List Byte → List Nat
  | 0, h, _ => h
  | n + 1, h, bs =>
    if bs.isEmpty then h
    else
      let window := (List.range 16).map (fun i => ofBe ((bs.drop (4 * i)).take 4))
      shaBlocks ks n (List.zipWith (fun a b => (a + b) % 2 ^ 32) h (ks.foldl shaStep (h, window)).1) (bs.drop 64)

/-- SHA-256 of a byte string, 32 bytes. [PRESUMED, log entry 56] -/
def sha256 (bs : List Byte) : List Byte :=
  let n := bs.length
  let filled := bs ++ 0x80 :: List.replicate ((119 - n % 64) % 64) (0 : Byte) ++ beBytes 8 (8 * n)
  (shaBlocks (shaPrimes.map (rootFraction 3)) (n / 64 + 2) ((shaPrimes.take 8).map (rootFraction 2)) filled).flatMap
    (beBytes 4)

/-! ECDSA over P-256: the spec names the curve (R49) and leaves its constants to the standard -/

/-- The field prime, the group order, b and the base point. [PRESUMED, log entry 56] -/
def p256p : Nat := 0xffffffff00000001000000000000000000000000ffffffffffffffffffffffff
def p256n : Nat := 0xffffffff00000000ffffffffffffffffbce6faada7179e84f3b9cac2fc632551
def p256b : Nat := 0x5ac635d8aa3a93e7b3ebbd55769886bc651d06b0cc53b0f63bce3c3e27d2604b
def p256g : Nat × Nat :=
  (0x6b17d1f2e12c4247f8bce6e563a440f277037d812deb33a0f4a13945d898c296,
   0x4fe342e2fe1a7f9b8ee7eb4a7c0f9e162bce33576b315ececbb6406837bf51f5)

/-- x^e mod m, scanning k bits of e from the top. -/
def powMod (x e m : Nat) : Nat → Nat → Nat
  | 0, r => r
  | k + 1, r => powMod x e m k (if bit e k then r * r % m * x % m else r * r % m)

/-- The inverse modulo a 256-bit prime. -/
def invMod (x m : Nat) : Nat := powMod (x % m) (m - 2) m 256 1

/-- Adding points of the curve; none is the point at infinity. -/
def p256Add (a b : Option (Nat × Nat)) : Option (Nat × Nat) :=
  match a, b with
  | none, q => q
  | q, none => q
  | some (x1, y1), some (x2, y2) =>
    let p := p256p
    if x1 = x2 ∧ (y1 + y2) % p = 0 then none
    else
      let l := if x1 = x2 then (3 * x1 * x1 + (p - 3)) * invMod (2 * y1) p % p
               else (y2 + p - y1) * invMod (x2 + p - x1) p % p
      let x := (l * l + 2 * p - x1 - x2) % p
      some (x, (l * (x1 + p - x) + p - y1) % p)

/-- k × P, scanning the bits of k from the top. -/
def p256Mul (q : Option (Nat × Nat)) (e : Nat) : Nat → Option (Nat × Nat) → Option (Nat × Nat)
  | 0, r => r
  | k + 1, r => p256Mul q e k (if bit e k then p256Add (p256Add r r) q else p256Add r r)

/-- Whether (x, y) is a point of the curve. -/
def p256OnCurve (x y : Nat) : Bool :=
  decide (x < p256p) && decide (y < p256p) &&
    decide (y * y % p256p = (x * x % p256p * x + (p256p - 3) * x + p256b) % p256p)

/-- ECDSA P-256: whether (r, s) signs the 256-bit digest e under the public key (x, y). [PRESUMED, log entry 56] -/
def ecdsaVerify (e x y r s : Nat) : Bool :=
  if r = 0 ∨ p256n ≤ r ∨ s = 0 ∨ p256n ≤ s ∨ p256OnCurve x y = false then false
  else
    let w := invMod s p256n
    match p256Add (p256Mul (some p256g) (e * w % p256n) 256 none) (p256Mul (some (x, y)) (r * w % p256n) 256 none) with
    | none => false
    | some (px, _) => decide (px % p256n = r)

end Sys2Proof.Machine
end

