-- ==== Sys2Proof/Config.lean ====
section
/-!
DEFINITION. The free values of the model: constants without a body, so that nothing can be proved of what they are
(log entry 5). A statement that speaks of one holds for every value of it.
-/
namespace Sys2Proof

/-- A free word for each count of the model's own counter `State.free`. [DESIGN CHOICE, log entry 5] -/
opaque Config.freeWord : Nat → Word

/-- The words a block computes where the spec gives its type no formula: a function of the block type, the parameter words,
the inputs with their age flags, the committed state and the number of the word (outputs first, then state words), for
R80 fixes that it depends on nothing else. [DESIGN CHOICE, log entry 5] -/
opaque Config.blockWord : Nat → List Word → List (Word × Bool) → List Word → Nat → Word

/-- SPEED_DIR of a position interface (R182, R183), to which no register table gives a field.
[DESIGN CHOICE, log entries 5 and 41] -/
opaque Config.speedDir : Nat → Bool

/-- The ROM firmware's version and build number, which FW_INFO reports (R535). [DESIGN CHOICE, log entry 5] -/
opaque Config.romVersion : Word
opaque Config.romBuild : Word

end Sys2Proof
end

