-- ==== Sys2Proof/Machine/Fields.lean ====
section
/-!
DEFINITION. The fields of the registers, named BLOCK_REGISTER_FIELD as in the spec's register tables: the address of the
register (R24 and the offset tables) and the field's bit range. An index rule becomes an argument: the instance first,
then the register's index, then the index of a field that repeats inside one word.
-/
namespace Sys2Proof.Machine

/-- A register field: the byte address of its register and its highest and lowest bit. -/
structure Fld where
  addr : Nat
  hi   : Nat
  lo   : Nat
deriving DecidableEq, Repr

/-- The whole register a field lies in. -/
def Fld.word (f : Fld) : Fld := ⟨f.addr, 31, 0⟩

def F.SYS_ID_PART : Fld := ⟨0x40000000, 31, 16⟩
def F.SYS_ID_STEP_LETTER : Fld := ⟨0x40000000, 15, 12⟩
def F.SYS_ID_STEP_DIGIT : Fld := ⟨0x40000000, 11, 8⟩
def F.SYS_UID_0_UID : Fld := ⟨0x40000004, 31, 0⟩
def F.SYS_UID_1_UID : Fld := ⟨0x40000008, 31, 0⟩
def F.SYS_MODE_PREV_MODE : Fld := ⟨0x4000000C, 19, 16⟩
def F.SYS_MODE_CHANNEL_ID : Fld := ⟨0x4000000C, 13, 12⟩
def F.SYS_MODE_LIFECYCLE : Fld := ⟨0x4000000C, 10, 8⟩
def F.SYS_MODE_MODE : Fld := ⟨0x4000000C, 3, 0⟩
def F.SYS_STATUS_PLL_S_LOCK : Fld := ⟨0x40000010, 9, 9⟩
def F.SYS_STATUS_PLL_N_LOCK : Fld := ⟨0x40000010, 8, 8⟩
def F.SYS_STATUS_XT32_OK : Fld := ⟨0x40000010, 7, 7⟩
def F.SYS_STATUS_XT25_OK : Fld := ⟨0x40000010, 6, 6⟩
def F.SYS_STATUS_FORCED_SEEN : Fld := ⟨0x40000010, 5, 5⟩
def F.SYS_STATUS_REDUNDANCY_LOST : Fld := ⟨0x40000010, 4, 4⟩
def F.SYS_STATUS_RTC_VALID : Fld := ⟨0x40000010, 3, 3⟩
def F.SYS_STATUS_TIME_COARSE : Fld := ⟨0x40000010, 2, 2⟩
def F.SYS_STATUS_IMG_VALID : Fld := ⟨0x40000010, 1, 1⟩
def F.SYS_STATUS_IMG_SLOT : Fld := ⟨0x40000010, 0, 0⟩
def F.SYS_STRAP_CHID1 : Fld := ⟨0x40000014, 1, 1⟩
def F.SYS_STRAP_CHID0 : Fld := ⟨0x40000014, 0, 0⟩
def F.SYS_RESET_CAUSE_SERVICE : Fld := ⟨0x40000018, 6, 6⟩
def F.SYS_RESET_CAUSE_LIFECYCLE : Fld := ⟨0x40000018, 5, 5⟩
def F.SYS_RESET_CAUSE_FATAL : Fld := ⟨0x40000018, 4, 4⟩
def F.SYS_RESET_CAUSE_PIN : Fld := ⟨0x40000018, 3, 3⟩
def F.SYS_RESET_CAUSE_CORE_UV : Fld := ⟨0x40000018, 2, 2⟩
def F.SYS_RESET_CAUSE_RTC_WAKE : Fld := ⟨0x40000018, 1, 1⟩
def F.SYS_RESET_CAUSE_POR : Fld := ⟨0x40000018, 0, 0⟩
def F.SYS_SWRESET_KEY : Fld := ⟨0x4000001C, 15, 0⟩
def F.SYS_TICK_LO_TICK : Fld := ⟨0x40000020, 31, 0⟩
def F.SYS_TICK_HI_TICK : Fld := ⟨0x40000024, 31, 0⟩
def F.SYS_LOCKED_WR_CNT_COUNT : Fld := ⟨0x40000028, 15, 0⟩
def F.SYS_LOCKED_WR_ADDR_ADDR : Fld := ⟨0x4000002C, 31, 0⟩
def F.SYS_HALF_ROLLING_HOB (h : Nat) : Fld := ⟨0x40000030 + 0x4 * h, 22, 17⟩
def F.SYS_HALF_ROLLING_BIST (h : Nat) : Fld := ⟨0x40000030 + 0x4 * h, 16, 16⟩
def F.SYS_HALF_CORE_TRIM (h : Nat) : Fld := ⟨0x40000030 + 0x4 * h, 15, 8⟩
def F.SYS_HALF_HOB_CLK_STEP (h : Nat) : Fld := ⟨0x40000030 + 0x4 * h, 6, 4⟩
def F.SYS_HALF_FABRIC_OK (h : Nat) : Fld := ⟨0x40000030 + 0x4 * h, 2, 2⟩
def F.SYS_HALF_ANDIRON_OK (h : Nat) : Fld := ⟨0x40000030 + 0x4 * h, 1, 1⟩
def F.SYS_HALF_ACTIVE (h : Nat) : Fld := ⟨0x40000030 + 0x4 * h, 0, 0⟩
def F.SYS_CLUSTER_SPARE_USED (c : Nat) : Fld := ⟨0x40000040 + 0x4 * c, 26, 16⟩
def F.SYS_CLUSTER_RETIRED (c : Nat) : Fld := ⟨0x40000040 + 0x4 * c, 8, 8⟩
def F.SYS_CLUSTER_HOB_IN_SERVICE (c : Nat) : Fld := ⟨0x40000040 + 0x4 * c, 7, 0⟩
def F.SYS_REGION_USE (r : Nat) : Fld := ⟨0x40000060 + 0x4 * r, 26, 24⟩
def F.SYS_REGION_TILE_COUNT (r : Nat) : Fld := ⟨0x40000060 + 0x4 * r, 22, 12⟩
def F.SYS_REGION_FIRST_TILE (r : Nat) : Fld := ⟨0x40000060 + 0x4 * r, 10, 0⟩
def F.SYS_MODE_ENTRY_TICK (m : Nat) : Fld := ⟨0x40000080 + 0x4 * m, 31, 0⟩
def F.IMG_STATUS_FLOOR_LEFT : Fld := ⟨0x40180000, 14, 8⟩
def F.IMG_STATUS_LC_REFUSED : Fld := ⟨0x40180000, 6, 6⟩
def F.IMG_STATUS_SHADOW_PENDING : Fld := ⟨0x40180000, 5, 5⟩
def F.IMG_STATUS_SKIPPED : Fld := ⟨0x40180000, 4, 4⟩
def F.IMG_STATUS_NO_IMAGE : Fld := ⟨0x40180000, 3, 3⟩
def F.IMG_STATUS_FALLBACK : Fld := ⟨0x40180000, 2, 2⟩
def F.IMG_STATUS_SLOT : Fld := ⟨0x40180000, 1, 1⟩
def F.IMG_STATUS_VALID : Fld := ⟨0x40180000, 0, 0⟩
def F.IMG_RESULT_SECTION (s : Nat) : Fld := ⟨0x40180004 + 0x4 * s, 15, 8⟩
def F.IMG_RESULT_CODE (s : Nat) : Fld := ⟨0x40180004 + 0x4 * s, 7, 0⟩
def F.IMG_VERSION_VERSION (s : Nat) : Fld := ⟨0x4018000C + 0x4 * s, 31, 0⟩
def F.IMG_VERSION_FLOOR_FLOOR : Fld := ⟨0x40180014, 31, 0⟩
def F.IMG_FLOOR_RAISE_KEY : Fld := ⟨0x40180018, 15, 0⟩
def F.IMG_LENGTH_LENGTH : Fld := ⟨0x4018001C, 31, 0⟩
def F.IMG_SECTIONS_PRESENT : Fld := ⟨0x40180020, 10, 1⟩
def F.IMG_GRAPH_SIZE_SIGNALS : Fld := ⟨0x40180024, 30, 16⟩
def F.IMG_GRAPH_SIZE_INSTANCES : Fld := ⟨0x40180024, 12, 0⟩
def F.IMG_CHANNEL_TOPOLOGY : Fld := ⟨0x40180028, 5, 4⟩
def F.IMG_CHANNEL_CHANNEL_ID : Fld := ⟨0x40180028, 1, 0⟩
def F.IMG_KEY_STATE_IN_USE : Fld := ⟨0x4018002C, 9, 8⟩
def F.IMG_KEY_STATE_REVOKED : Fld := ⟨0x4018002C, 7, 4⟩
def F.IMG_KEY_STATE_PROGRAMMED : Fld := ⟨0x4018002C, 3, 0⟩
def F.IMG_KEY_REVOKE_KEY : Fld := ⟨0x40180030, 31, 16⟩
def F.IMG_KEY_REVOKE_MASK : Fld := ⟨0x40180030, 3, 0⟩
def F.IMG_LIFECYCLE_REQ_KEY : Fld := ⟨0x40180034, 31, 16⟩
def F.IMG_LIFECYCLE_REQ_TARGET : Fld := ⟨0x40180034, 2, 0⟩
def F.IMG_LOAD_TIME_TIME : Fld := ⟨0x40180038, 23, 0⟩
def F.IMG_FLASH_ID_JEDEC : Fld := ⟨0x4018003C, 23, 0⟩
def F.IMG_FLASH_CFG_OPCODE : Fld := ⟨0x40180040, 15, 8⟩
def F.IMG_FLASH_CFG_MODE : Fld := ⟨0x40180040, 5, 4⟩
def F.IMG_FLASH_CFG_DUMMY : Fld := ⟨0x40180040, 3, 0⟩
def F.IMG_SCHED_TOTAL_PERMILLE : Fld := ⟨0x40180044, 9, 0⟩
def F.IMG_SCHED_HALF_PERMILLE : Fld := ⟨0x40180048, 9, 0⟩
def F.IMG_CLASS_LOAD_CYCLES (c : Nat) : Fld := ⟨0x4018004C + 0x4 * c, 23, 0⟩
def F.IMG_DIGEST_DIGEST (k : Nat) : Fld := ⟨0x40180060 + 0x4 * k, 31, 0⟩
def F.IMG_MACHINE_ID_ID (k : Nat) : Fld := ⟨0x40180080 + 0x4 * k, 31, 0⟩
def F.IMG_BUILD_TIME_LO_TIME : Fld := ⟨0x40180090, 31, 0⟩
def F.IMG_BUILD_TIME_HI_TIME : Fld := ⟨0x40180094, 31, 0⟩
def F.IMG_FAIL_ADDR_OFFSET (s : Nat) : Fld := ⟨0x40180098 + 0x4 * s, 31, 0⟩
def F.HOB_STATUS_HOBS_IN_SERVICE : Fld := ⟨0x40050000, 22, 16⟩
def F.HOB_STATUS_CROSS_HALF_SEEN : Fld := ⟨0x40050000, 4, 4⟩
def F.HOB_STATUS_LASTING_SEEN : Fld := ⟨0x40050000, 3, 3⟩
def F.HOB_STATUS_RETRY_SEEN : Fld := ⟨0x40050000, 2, 2⟩
def F.HOB_STATUS_MISS_SEEN : Fld := ⟨0x40050000, 1, 1⟩
def F.HOB_STATUS_RUNNING : Fld := ⟨0x40050000, 0, 0⟩
def F.HOB_CFG_STALE_LIMIT : Fld := ⟨0x40050004, 15, 8⟩
def F.HOB_CFG_CROSS_HALF_STEAL : Fld := ⟨0x40050004, 0, 0⟩
def F.HOB_MISS_CNT_COUNT : Fld := ⟨0x40050008, 31, 0⟩
def F.HOB_RETRY_CNT_COUNT : Fld := ⟨0x4005000C, 31, 0⟩
def F.HOB_STEAL_CNT_COUNT : Fld := ⟨0x40050010, 31, 0⟩
def F.HOB_LAST_EVENT_KIND : Fld := ⟨0x40050014, 26, 24⟩
def F.HOB_LAST_EVENT_COPY : Fld := ⟨0x40050014, 23, 23⟩
def F.HOB_LAST_EVENT_HOB : Fld := ⟨0x40050014, 21, 16⟩
def F.HOB_LAST_EVENT_INSTANCE : Fld := ⟨0x40050014, 12, 0⟩
def F.HOB_VERIFY_WAIT_PEAK : Fld := ⟨0x40050018, 15, 0⟩
def F.HOB_QUEUE_PEAK (c : Nat) : Fld := ⟨0x40050020 + 0x4 * c, 28, 16⟩
def F.HOB_QUEUE_DEPTH (c : Nat) : Fld := ⟨0x40050020 + 0x4 * c, 12, 0⟩
def F.HOB_CLASS_SLACK_MIN (k : Nat) : Fld := ⟨0x40050040 + 0x4 * k, 31, 16⟩
def F.HOB_CLASS_MISSES (k : Nat) : Fld := ⟨0x40050040 + 0x4 * k, 15, 0⟩
def F.HOB_ENGINE_BUSY (n : Nat) : Fld := ⟨0x40050100 + 0x4 * n, 25, 16⟩
def F.HOB_ENGINE_STATE (n : Nat) : Fld := ⟨0x40050100 + 0x4 * n, 1, 0⟩
def F.HOB_TYPE_COST_PER_INPUT (t : Nat) : Fld := ⟨0x40050200 + 0x4 * t, 23, 16⟩
def F.HOB_TYPE_COST_BASE (t : Nat) : Fld := ⟨0x40050200 + 0x4 * t, 15, 0⟩
def F.HOB_MISSED_MISSED (w : Nat) : Fld := ⟨0x40050400 + 0x4 * w, 31, 0⟩
def F.LAW_STATUS_SLOTS_USED : Fld := ⟨0x40060000, 13, 8⟩
def F.LAW_STATUS_EDIT_REFUSED : Fld := ⟨0x40060000, 4, 4⟩
def F.LAW_STATUS_VALVE_CONFLICT_SEEN : Fld := ⟨0x40060000, 3, 3⟩
def F.LAW_STATUS_SP_LOSS_SEEN : Fld := ⟨0x40060000, 2, 2⟩
def F.LAW_STATUS_ALT_IN_USE : Fld := ⟨0x40060000, 1, 1⟩
def F.LAW_STATUS_VALVE_MODE : Fld := ⟨0x40060000, 0, 0⟩
def F.LAW_CFG_RETURN_COUNT : Fld := ⟨0x40060004, 7, 0⟩
def F.LAW_SWAP_CNT_COUNT : Fld := ⟨0x40060008, 31, 0⟩
def F.LAW_HELD_CNT_COUNT : Fld := ⟨0x4006000C, 31, 0⟩
def F.LAW_SP_LOSS_CNT_COUNT : Fld := ⟨0x40060010, 31, 0⟩
def F.LAW_STEER_VALVE_B : Fld := ⟨0x40060014, 15, 12⟩
def F.LAW_STEER_VALVE_A : Fld := ⟨0x40060014, 11, 8⟩
def F.LAW_STEER_MODE : Fld := ⟨0x40060014, 0, 0⟩
def F.LAW_LAST_SWAP_CAUSE : Fld := ⟨0x40060018, 24, 24⟩
def F.LAW_LAST_SWAP_OLD_SET : Fld := ⟨0x40060018, 23, 20⟩
def F.LAW_LAST_SWAP_NEW_SET : Fld := ⟨0x40060018, 19, 16⟩
def F.LAW_LAST_SWAP_INSTANCE : Fld := ⟨0x40060018, 12, 0⟩
def F.LAW_EDIT_SEL_SET : Fld := ⟨0x40060020, 19, 16⟩
def F.LAW_EDIT_SEL_INSTANCE : Fld := ⟨0x40060020, 12, 0⟩
def F.LAW_EDIT_WORD_WORD (k : Nat) : Fld := ⟨0x40060040 + 0x4 * k, 31, 0⟩
def F.LAW_SP_SRC_TIMEOUT (s : Nat) : Fld := ⟨0x40060080 + 0x20 * s, 31, 24⟩
def F.LAW_SP_SRC_CAN_BYTE (s : Nat) : Fld := ⟨0x40060080 + 0x20 * s, 21, 16⟩
def F.LAW_SP_SRC_CAN_CTRL (s : Nat) : Fld := ⟨0x40060080 + 0x20 * s, 15, 14⟩
def F.LAW_SP_SRC_FORMAT (s : Nat) : Fld := ⟨0x40060080 + 0x20 * s, 11, 10⟩
def F.LAW_SP_SRC_RETURN (s : Nat) : Fld := ⟨0x40060080 + 0x20 * s, 1, 1⟩
def F.LAW_SP_SRC_ENABLE (s : Nat) : Fld := ⟨0x40060080 + 0x20 * s, 0, 0⟩
def F.LAW_SP_PRI_KIND (s : Nat) : Fld := ⟨0x40060084 + 0x20 * s, 31, 30⟩
def F.LAW_SP_PRI_LOCATOR (s : Nat) : Fld := ⟨0x40060084 + 0x20 * s, 29, 0⟩
def F.LAW_SP_ALT_KIND (s : Nat) : Fld := ⟨0x40060088 + 0x20 * s, 31, 30⟩
def F.LAW_SP_ALT_LOCATOR (s : Nat) : Fld := ⟨0x40060088 + 0x20 * s, 29, 0⟩
def F.LAW_SP_SCALE_SCALE (s : Nat) : Fld := ⟨0x4006008C + 0x20 * s, 31, 0⟩
def F.LAW_SP_STAT_LOSSES (s : Nat) : Fld := ⟨0x40060090 + 0x20 * s, 31, 16⟩
def F.LAW_SP_STAT_ON_ALT (s : Nat) : Fld := ⟨0x40060090 + 0x20 * s, 1, 1⟩
def F.LAW_SP_STAT_AGED (s : Nat) : Fld := ⟨0x40060090 + 0x20 * s, 0, 0⟩
def F.LAW_SLOT_INST_VALID (c : Nat) : Fld := ⟨0x40060200 + 0x20 * c, 31, 31⟩
def F.LAW_SLOT_INST_INSTANCE (c : Nat) : Fld := ⟨0x40060200 + 0x20 * c, 12, 0⟩
def F.LAW_SLOT_STATE_PENDING (c : Nat) : Fld := ⟨0x40060204 + 0x20 * c, 24, 24⟩
def F.LAW_SLOT_STATE_PENDING_SET (c : Nat) : Fld := ⟨0x40060204 + 0x20 * c, 23, 20⟩
def F.LAW_SLOT_STATE_LIMIT (c : Nat) : Fld := ⟨0x40060204 + 0x20 * c, 17, 16⟩
def F.LAW_SLOT_STATE_ACTIVE_SET (c : Nat) : Fld := ⟨0x40060204 + 0x20 * c, 15, 12⟩
def F.LAW_SLOT_STATE_IY (c : Nat) : Fld := ⟨0x40060204 + 0x20 * c, 7, 4⟩
def F.LAW_SLOT_STATE_IX (c : Nat) : Fld := ⟨0x40060204 + 0x20 * c, 3, 0⟩
def F.LAW_SLOT_SWAPS_COUNT (c : Nat) : Fld := ⟨0x40060208 + 0x20 * c, 31, 0⟩
def F.LAW_SLOT_HELD_COUNT (c : Nat) : Fld := ⟨0x4006020C + 0x20 * c, 31, 0⟩
def F.LAW_SLOT_OUT_U (c : Nat) : Fld := ⟨0x40060210 + 0x20 * c, 31, 0⟩
def F.LAW_SLOT_INTEG_I (c : Nat) : Fld := ⟨0x40060214 + 0x20 * c, 31, 0⟩
def F.LAW_SLOT_TICK_TICK (c : Nat) : Fld := ⟨0x40060218 + 0x20 * c, 31, 0⟩
def F.SEC_STATUS_POINTS : Fld := ⟨0x40070000, 25, 16⟩
def F.SEC_STATUS_UNDER_SEEN : Fld := ⟨0x40070000, 7, 7⟩
def F.SEC_STATUS_DROP_SEEN : Fld := ⟨0x40070000, 6, 6⟩
def F.SEC_STATUS_LATE_SEEN : Fld := ⟨0x40070000, 5, 5⟩
def F.SEC_STATUS_ISO_STALE : Fld := ⟨0x40070000, 4, 4⟩
def F.SEC_STATUS_ISO_ACTIVE : Fld := ⟨0x40070000, 3, 3⟩
def F.SEC_STATUS_TRANSMIT : Fld := ⟨0x40070000, 2, 2⟩
def F.SEC_STATUS_POSE_VALID : Fld := ⟨0x40070000, 1, 1⟩
def F.SEC_STATUS_FEED_ACTIVE : Fld := ⟨0x40070000, 0, 0⟩
def F.SEC_CFG_ISO_RATE : Fld := ⟨0x40070004, 11, 8⟩
def F.SEC_CFG_UNKNOWN_RATE : Fld := ⟨0x40070004, 7, 4⟩
def F.SEC_CFG_ISO_FALLBACK : Fld := ⟨0x40070004, 2, 2⟩
def F.SEC_CFG_UNKNOWN_SPOT : Fld := ⟨0x40070004, 1, 1⟩
def F.SEC_CFG_UNKNOWN_BLANKET : Fld := ⟨0x40070004, 0, 0⟩
def F.SEC_TIMING_REPLACE_MIN : Fld := ⟨0x40070008, 31, 24⟩
def F.SEC_TIMING_SEND_AHEAD : Fld := ⟨0x40070008, 23, 8⟩
def F.SEC_TIMING_LEAD_MIN : Fld := ⟨0x40070008, 7, 0⟩
def F.SEC_PWM_DUTY_STEP : Fld := ⟨0x4007000C, 23, 16⟩
def F.SEC_PWM_DUTY_MIN : Fld := ⟨0x4007000C, 15, 8⟩
def F.SEC_PWM_FREQ : Fld := ⟨0x4007000C, 4, 0⟩
def F.SEC_ISO_TIMEOUT : Fld := ⟨0x40070010, 15, 8⟩
def F.SEC_CMD_CNT_COUNT : Fld := ⟨0x40070014, 31, 0⟩
def F.SEC_REPLACE_CNT_COUNT : Fld := ⟨0x40070018, 31, 0⟩
def F.SEC_LATE_CNT_COUNT : Fld := ⟨0x4007001C, 31, 0⟩
def F.SEC_CMD_DROP_CNT_COUNT : Fld := ⟨0x40070020, 31, 0⟩
def F.SEC_MINON_CNT_COUNT : Fld := ⟨0x40070024, 31, 0⟩
def F.SEC_UNDER_CNT_COUNT : Fld := ⟨0x40070028, 31, 0⟩
def F.SEC_BACKWARD_CNT_COUNT : Fld := ⟨0x4007002C, 31, 0⟩
def F.SEC_UNKNOWN_CNT_COUNT : Fld := ⟨0x40070030, 31, 0⟩
def F.SEC_DUTY_CHG_CNT_COUNT : Fld := ⟨0x40070034, 31, 0⟩
def F.SEC_RESEND_CNT_COUNT : Fld := ⟨0x40070038, 31, 0⟩
def F.SEC_QUEUE_PEAK : Fld := ⟨0x4007003C, 26, 16⟩
def F.SEC_QUEUE_DEPTH : Fld := ⟨0x4007003C, 10, 0⟩
def F.SEC_LEAD_MIN_SEEN_MIN : Fld := ⟨0x40070040, 15, 0⟩
def F.SEC_EMIT_PEAK_PEAK : Fld := ⟨0x40070044, 10, 0⟩
def F.SEC_CMD_CAP_CAP : Fld := ⟨0x40070048, 7, 0⟩
def F.SEC_LAST_CMD_DUTY : Fld := ⟨0x4007004C, 19, 10⟩
def F.SEC_LAST_CMD_ON : Fld := ⟨0x4007004C, 9, 9⟩
def F.SEC_LAST_CMD_POINT : Fld := ⟨0x4007004C, 8, 0⟩
def F.SEC_SOLVE_TICK_TICK : Fld := ⟨0x40070050, 31, 0⟩
def F.SEC_GEOM_SEL_POINT : Fld := ⟨0x40070054, 8, 0⟩
def F.SEC_SECTION_0_ON : Fld := ⟨0x40070058, 31, 0⟩
def F.SEC_SECTION_1_ON : Fld := ⟨0x4007005C, 31, 0⟩
def F.SEC_GEOM_WORD (k : Nat) : Fld := ⟨0x40070060 + 0x4 * k, 31, 0⟩
def F.SEC_ON_ON (w : Nat) : Fld := ⟨0x40070080 + 0x4 * w, 31, 0⟩
def F.SEC_POINT_ON (n : Nat) : Fld := ⟨0x40070800 + 0x4 * n, 31, 31⟩
def F.SEC_POINT_PENDING (n : Nat) : Fld := ⟨0x40070800 + 0x4 * n, 30, 30⟩
def F.SEC_POINT_UNKNOWN (n : Nat) : Fld := ⟨0x40070800 + 0x4 * n, 29, 29⟩
def F.SEC_POINT_LATE_SEEN (n : Nat) : Fld := ⟨0x40070800 + 0x4 * n, 28, 28⟩
def F.SEC_POINT_DUTY (n : Nat) : Fld := ⟨0x40070800 + 0x4 * n, 27, 18⟩
def F.SEC_POINT_ACTION (n : Nat) : Fld := ⟨0x40070800 + 0x4 * n, 17, 0⟩
def F.MAP_STATUS_SEQ_GAP_SEEN : Fld := ⟨0x40080000, 6, 6⟩
def F.MAP_STATUS_EVENT_DROP_SEEN : Fld := ⟨0x40080000, 5, 5⟩
def F.MAP_STATUS_TILE_DROP_SEEN : Fld := ⟨0x40080000, 4, 4⟩
def F.MAP_STATUS_STORE_FULL_SEEN : Fld := ⟨0x40080000, 3, 3⟩
def F.MAP_STATUS_EVENTS_ON : Fld := ⟨0x40080000, 2, 2⟩
def F.MAP_STATUS_POSE_VALID : Fld := ⟨0x40080000, 1, 1⟩
def F.MAP_STATUS_SESSION_ACTIVE : Fld := ⟨0x40080000, 0, 0⟩
def F.MAP_CFG_EVENTS_ENABLE : Fld := ⟨0x40080004, 18, 18⟩
def F.MAP_CFG_PORT_MASK : Fld := ⟨0x40080004, 17, 16⟩
def F.MAP_CFG_UDP_PORT : Fld := ⟨0x40080004, 15, 0⟩
def F.MAP_SESSION_CLIENT : Fld := ⟨0x40080008, 31, 16⟩
def F.MAP_SESSION_SESSION : Fld := ⟨0x40080008, 15, 0⟩
def F.MAP_TIMEOUT_REQ_REPEAT : Fld := ⟨0x4008000C, 23, 16⟩
def F.MAP_TIMEOUT_ASSEMBLY : Fld := ⟨0x4008000C, 15, 8⟩
def F.MAP_TIMEOUT_SESSION : Fld := ⟨0x4008000C, 7, 0⟩
def F.MAP_CREDIT_TILE_LIMIT : Fld := ⟨0x40080010, 31, 0⟩
def F.MAP_CREDIT_EVENT_LIMIT : Fld := ⟨0x40080014, 31, 0⟩
def F.MAP_RX_CNT_COUNT : Fld := ⟨0x40080018, 31, 0⟩
def F.MAP_ERR_CNT_COUNT : Fld := ⟨0x4008001C, 31, 0⟩
def F.MAP_DROP_TILE_CNT_COUNT : Fld := ⟨0x40080020, 31, 0⟩
def F.MAP_DROP_EVENT_CNT_COUNT : Fld := ⟨0x40080024, 31, 0⟩
def F.MAP_SEQ_GAP_CNT_COUNT : Fld := ⟨0x40080028, 31, 0⟩
def F.MAP_EVENT_CNT_COUNT : Fld := ⟨0x4008002C, 31, 0⟩
def F.MAP_TILE_IN_CNT_COUNT : Fld := ⟨0x40080030, 31, 0⟩
def F.MAP_TILE_BACK_CNT_COUNT : Fld := ⟨0x40080034, 31, 0⟩
def F.MAP_TILE_REQ_CNT_COUNT : Fld := ⟨0x40080038, 31, 0⟩
def F.MAP_EVICT_CNT_COUNT : Fld := ⟨0x4008003C, 31, 0⟩
def F.MAP_UNKNOWN_CNT_COUNT : Fld := ⟨0x40080040, 31, 0⟩
def F.MAP_LAST_ERR_REF_SEQ : Fld := ⟨0x40080044, 31, 8⟩
def F.MAP_LAST_ERR_CODE : Fld := ⟨0x40080044, 7, 0⟩
def F.MAP_STORE_PINNED : Fld := ⟨0x40080048, 26, 16⟩
def F.MAP_STORE_PRESENT : Fld := ⟨0x40080048, 10, 0⟩
def F.MAP_POSE_AGE : Fld := ⟨0x4008004C, 19, 0⟩
def F.MAP_EVENT_QUEUE_PEAK : Fld := ⟨0x40080050, 28, 16⟩
def F.MAP_EVENT_QUEUE_DEPTH : Fld := ⟨0x40080050, 12, 0⟩
def F.MAP_DIR_SEL_SLOT : Fld := ⟨0x40080054, 9, 0⟩
def F.MAP_DIR_KEY_TY : Fld := ⟨0x40080058, 31, 16⟩
def F.MAP_DIR_KEY_TX : Fld := ⟨0x40080058, 15, 0⟩
def F.MAP_DIR_STATE_VERSION : Fld := ⟨0x4008005C, 31, 16⟩
def F.MAP_DIR_STATE_PINNED : Fld := ⟨0x4008005C, 4, 4⟩
def F.MAP_DIR_STATE_STATE : Fld := ⟨0x4008005C, 3, 2⟩
def F.MAP_DIR_STATE_LAYER : Fld := ⟨0x4008005C, 0, 0⟩
def F.MAP_SLOT_STATE_STATE (w j : Nat) : Fld := ⟨0x40080100 + 0x4 * w, 2 * j + 1, 2 * j + 0⟩
def F.MAP_PINNED_PINNED (w : Nat) : Fld := ⟨0x40080200 + 0x4 * w, 31, 0⟩
def F.POS_CFG_DIR_INVERT (inst : Nat) : Fld := ⟨0x40090000 + 0x1000 * inst, 3, 3⟩
def F.POS_CFG_MODE (inst : Nat) : Fld := ⟨0x40090000 + 0x1000 * inst, 2, 0⟩
def F.POS_FILTER_N_PRB (inst : Nat) : Fld := ⟨0x40090004 + 0x1000 * inst, 31, 24⟩
def F.POS_FILTER_N_I (inst : Nat) : Fld := ⟨0x40090004 + 0x1000 * inst, 23, 16⟩
def F.POS_FILTER_N_B (inst : Nat) : Fld := ⟨0x40090004 + 0x1000 * inst, 15, 8⟩
def F.POS_FILTER_N_A (inst : Nat) : Fld := ⟨0x40090004 + 0x1000 * inst, 7, 0⟩
def F.POS_STATUS_SER_OK (inst : Nat) : Fld := ⟨0x40090008 + 0x1000 * inst, 15, 15⟩
def F.POS_STATUS_SER_LASTING (inst : Nat) : Fld := ⟨0x40090008 + 0x1000 * inst, 14, 14⟩
def F.POS_STATUS_CMP_ARMED (inst : Nat) : Fld := ⟨0x40090008 + 0x1000 * inst, 11, 11⟩
def F.POS_STATUS_CMP_BEHIND (inst : Nat) : Fld := ⟨0x40090008 + 0x1000 * inst, 10, 10⟩
def F.POS_STATUS_PRB_FULL (inst : Nat) : Fld := ⟨0x40090008 + 0x1000 * inst, 9, 9⟩
def F.POS_STATUS_HOMED (inst : Nat) : Fld := ⟨0x40090008 + 0x1000 * inst, 7, 7⟩
def F.POS_STATUS_CAND (inst : Nat) : Fld := ⟨0x40090008 + 0x1000 * inst, 6, 6⟩
def F.POS_STATUS_INDEX_MISMATCH (inst : Nat) : Fld := ⟨0x40090008 + 0x1000 * inst, 5, 5⟩
def F.POS_STATUS_DIR_VALID (inst : Nat) : Fld := ⟨0x40090008 + 0x1000 * inst, 3, 3⟩
def F.POS_STATUS_DIR (inst : Nat) : Fld := ⟨0x40090008 + 0x1000 * inst, 2, 2⟩
def F.POS_STATUS_PT_ACTIVE (inst : Nat) : Fld := ⟨0x40090008 + 0x1000 * inst, 1, 1⟩
def F.POS_STATUS_ACTIVE (inst : Nat) : Fld := ⟨0x40090008 + 0x1000 * inst, 0, 0⟩
def F.POS_EVENT_SEEN (inst : Nat) : Fld := ⟨0x4009000C + 0x1000 * inst, 10, 0⟩
def F.POS_EVENT_MASK_MASK (inst : Nat) : Fld := ⟨0x40090010 + 0x1000 * inst, 10, 0⟩
def F.POS_LEVELS_FILTERED (inst : Nat) : Fld := ⟨0x40090014 + 0x1000 * inst, 6, 3⟩
def F.POS_LEVELS_RAW (inst : Nat) : Fld := ⟨0x40090014 + 0x1000 * inst, 2, 0⟩
def F.POS_COUNT_COUNT (inst : Nat) : Fld := ⟨0x40090018 + 0x1000 * inst, 31, 0⟩
def F.POS_EDGE_TIME_TIME (inst : Nat) : Fld := ⟨0x4009001C + 0x1000 * inst, 31, 0⟩
def F.POS_EDGES_COUNT (inst : Nat) : Fld := ⟨0x40090020 + 0x1000 * inst, 31, 0⟩
def F.POS_CPR_CPR (inst : Nat) : Fld := ⟨0x40090024 + 0x1000 * inst, 29, 0⟩
def F.POS_INDEX_CFG_GATE_EN (inst : Nat) : Fld := ⟨0x40090028 + 0x1000 * inst, 31, 31⟩
def F.POS_INDEX_CFG_GATE_AB (inst : Nat) : Fld := ⟨0x40090028 + 0x1000 * inst, 30, 29⟩
def F.POS_INDEX_CFG_INDEX_POS (inst : Nat) : Fld := ⟨0x40090028 + 0x1000 * inst, 28, 0⟩
def F.POS_INDEX_LAST_COUNT (inst : Nat) : Fld := ⟨0x4009002C + 0x1000 * inst, 31, 0⟩
def F.POS_REALIGN_DELTA_DELTA (inst : Nat) : Fld := ⟨0x40090030 + 0x1000 * inst, 31, 0⟩
def F.POS_HALL_STATE_UVW (inst : Nat) : Fld := ⟨0x40090034 + 0x1000 * inst, 6, 4⟩
def F.POS_HALL_STATE_SECTOR (inst : Nat) : Fld := ⟨0x40090034 + 0x1000 * inst, 2, 0⟩
def F.POS_SER_CFG_SAMPLE_DELAY (inst : Nat) : Fld := ⟨0x40090038 + 0x1000 * inst, 31, 25⟩
def F.POS_SER_CFG_CLK_DIV (inst : Nat) : Fld := ⟨0x40090038 + 0x1000 * inst, 24, 16⟩
def F.POS_SER_CFG_PERIOD (inst : Nat) : Fld := ⟨0x40090038 + 0x1000 * inst, 15, 14⟩
def F.POS_SER_CFG_RETRY (inst : Nat) : Fld := ⟨0x40090038 + 0x1000 * inst, 13, 13⟩
def F.POS_SER_CFG_DATA_BITS (inst : Nat) : Fld := ⟨0x40090038 + 0x1000 * inst, 5, 0⟩
def F.POS_SER_TIMING_TIMEOUT (inst : Nat) : Fld := ⟨0x4009003C + 0x1000 * inst, 31, 24⟩
def F.POS_SER_TIMING_RECOVERY (inst : Nat) : Fld := ⟨0x4009003C + 0x1000 * inst, 23, 16⟩
def F.POS_SER_TIMING_READ_ADV (inst : Nat) : Fld := ⟨0x4009003C + 0x1000 * inst, 15, 8⟩
def F.POS_SER_DATA_DATA (inst : Nat) : Fld := ⟨0x40090040 + 0x1000 * inst, 31, 0⟩
def F.POS_SER_STAT_AGE (inst : Nat) : Fld := ⟨0x40090044 + 0x1000 * inst, 31, 16⟩
def F.POS_SER_STAT_CRC_RX (inst : Nat) : Fld := ⟨0x40090044 + 0x1000 * inst, 13, 8⟩
def F.POS_SER_STAT_ERR_BIT (inst : Nat) : Fld := ⟨0x40090044 + 0x1000 * inst, 7, 7⟩
def F.POS_SER_STAT_RESULT (inst : Nat) : Fld := ⟨0x40090044 + 0x1000 * inst, 3, 0⟩
def F.POS_PRB_CFG_EDGE (inst : Nat) : Fld := ⟨0x40090048 + 0x1000 * inst, 1, 0⟩
def F.POS_PRB_COUNT_VALUE (inst : Nat) : Fld := ⟨0x4009004C + 0x1000 * inst, 31, 0⟩
def F.POS_PRB_TIME_VALUE (inst : Nat) : Fld := ⟨0x40090050 + 0x1000 * inst, 31, 0⟩
def F.POS_CMP_CFG_PULSE (inst : Nat) : Fld := ⟨0x40090054 + 0x1000 * inst, 31, 24⟩
def F.POS_CMP_CFG_AUTO (inst : Nat) : Fld := ⟨0x40090054 + 0x1000 * inst, 0, 0⟩
def F.POS_CMP_POS_POS (inst : Nat) : Fld := ⟨0x40090058 + 0x1000 * inst, 31, 0⟩
def F.POS_CMP_INCR_INCR (inst : Nat) : Fld := ⟨0x4009005C + 0x1000 * inst, 31, 0⟩
def F.POS_CMP_LAST_TIME (inst : Nat) : Fld := ⟨0x40090060 + 0x1000 * inst, 31, 0⟩
def F.POS_PT_CFG_EN (inst : Nat) : Fld := ⟨0x40090064 + 0x1000 * inst, 0, 0⟩
def F.POS_DIR_CNT_COUNT (inst : Nat) : Fld := ⟨0x40090068 + 0x1000 * inst, 31, 0⟩
def F.POS_QUAD_ERR_CNT_COUNT (inst : Nat) : Fld := ⟨0x4009006C + 0x1000 * inst, 31, 0⟩
def F.POS_HALL_ERR_CNT_COUNT (inst : Nat) : Fld := ⟨0x40090070 + 0x1000 * inst, 31, 0⟩
def F.POS_INDEX_MM_CNT_COUNT (inst : Nat) : Fld := ⟨0x40090074 + 0x1000 * inst, 31, 0⟩
def F.POS_REALIGN_CNT_COUNT (inst : Nat) : Fld := ⟨0x40090078 + 0x1000 * inst, 31, 0⟩
def F.POS_SER_CRC_CNT_COUNT (inst : Nat) : Fld := ⟨0x4009007C + 0x1000 * inst, 31, 0⟩
def F.POS_SER_ERRBIT_CNT_COUNT (inst : Nat) : Fld := ⟨0x40090080 + 0x1000 * inst, 31, 0⟩
def F.POS_SER_TIMEOUT_CNT_COUNT (inst : Nat) : Fld := ⟨0x40090084 + 0x1000 * inst, 31, 0⟩
def F.POS_SER_RETRY_CNT_COUNT (inst : Nat) : Fld := ⟨0x40090088 + 0x1000 * inst, 31, 0⟩
def F.POS_SER_LASTING_CNT_COUNT (inst : Nat) : Fld := ⟨0x4009008C + 0x1000 * inst, 31, 0⟩
def F.POS_PRB_CNT_COUNT (inst : Nat) : Fld := ⟨0x40090090 + 0x1000 * inst, 31, 0⟩
def F.POS_PRB_OVR_CNT_COUNT (inst : Nat) : Fld := ⟨0x40090094 + 0x1000 * inst, 31, 0⟩
def F.POS_CMP_FIRE_CNT_COUNT (inst : Nat) : Fld := ⟨0x40090098 + 0x1000 * inst, 31, 0⟩
def F.POS_CMP_BEHIND_CNT_COUNT (inst : Nat) : Fld := ⟨0x4009009C + 0x1000 * inst, 31, 0⟩
def F.POS_EDGE_LOG_TIME (inst k : Nat) : Fld := ⟨0x400900A0 + 0x1000 * inst + 0x4 * k, 31, 0⟩
def F.MOT_CFG_SENSORLESS (inst : Nat) : Fld := ⟨0x400A0000 + 0x1000 * inst, 1, 1⟩
def F.MOT_CFG_ENABLE (inst : Nat) : Fld := ⟨0x400A0000 + 0x1000 * inst, 0, 0⟩
def F.MOT_STATUS_REPEAT_RUN (inst : Nat) : Fld := ⟨0x400A0004 + 0x1000 * inst, 15, 12⟩
def F.MOT_STATUS_PAIR_FRESH (inst : Nat) : Fld := ⟨0x400A0004 + 0x1000 * inst, 7, 7⟩
def F.MOT_STATUS_HALF_KIND (inst : Nat) : Fld := ⟨0x400A0004 + 0x1000 * inst, 6, 6⟩
def F.MOT_STATUS_STALE (inst : Nat) : Fld := ⟨0x400A0004 + 0x1000 * inst, 5, 5⟩
def F.MOT_STATUS_FORCED (inst : Nat) : Fld := ⟨0x400A0004 + 0x1000 * inst, 4, 4⟩
def F.MOT_STATUS_PERMIT (inst : Nat) : Fld := ⟨0x400A0004 + 0x1000 * inst, 3, 3⟩
def F.MOT_STATUS_STATE (inst : Nat) : Fld := ⟨0x400A0004 + 0x1000 * inst, 1, 0⟩
def F.MOT_EVENT_SEEN (inst : Nat) : Fld := ⟨0x400A0008 + 0x1000 * inst, 6, 0⟩
def F.MOT_EVENT_MASK_MASK (inst : Nat) : Fld := ⟨0x400A000C + 0x1000 * inst, 6, 0⟩
def F.MOT_PWM_FALLBACK (inst : Nat) : Fld := ⟨0x400A0010 + 0x1000 * inst, 13, 12⟩
def F.MOT_PWM_REPEAT_MAX (inst : Nat) : Fld := ⟨0x400A0010 + 0x1000 * inst, 11, 8⟩
def F.MOT_PWM_MIN_PULSE (inst : Nat) : Fld := ⟨0x400A0010 + 0x1000 * inst, 7, 0⟩
def F.MOT_SAMPLE_T_SET (inst : Nat) : Fld := ⟨0x400A0014 + 0x1000 * inst, 9, 0⟩
def F.MOT_SHUNT_SCALE_SCALE (inst : Nat) : Fld := ⟨0x400A0018 + 0x1000 * inst, 31, 0⟩
def F.MOT_SHUNT_CFG_GAIN (inst : Nat) : Fld := ⟨0x400A001C + 0x1000 * inst, 1, 0⟩
def F.MOT_MODE_INSTANCE (inst : Nat) : Fld := ⟨0x400A0020 + 0x1000 * inst, 28, 16⟩
def F.MOT_MODE_REQUEST (inst : Nat) : Fld := ⟨0x400A0020 + 0x1000 * inst, 1, 0⟩
def F.MOT_DUTY_HIGH (inst p : Nat) : Fld := ⟨0x400A0024 + 0x1000 * inst + 0x4 * p, 13, 0⟩
def F.MOT_HALF_KIND (inst : Nat) : Fld := ⟨0x400A0030 + 0x1000 * inst, 16, 16⟩
def F.MOT_HALF_LENGTH (inst : Nat) : Fld := ⟨0x400A0030 + 0x1000 * inst, 13, 0⟩
def F.MOT_I_NEW_I (inst : Nat) : Fld := ⟨0x400A0034 + 0x1000 * inst, 31, 0⟩
def F.MOT_I_OLD_I (inst : Nat) : Fld := ⟨0x400A0038 + 0x1000 * inst, 31, 0⟩
def F.MOT_TAG_OLD (inst : Nat) : Fld := ⟨0x400A003C + 0x1000 * inst, 7, 4⟩
def F.MOT_TAG_NEW (inst : Nat) : Fld := ⟨0x400A003C + 0x1000 * inst, 3, 0⟩
def F.MOT_UDC_U (inst : Nat) : Fld := ⟨0x400A0040 + 0x1000 * inst, 31, 0⟩
def F.MOT_UPH_U (inst p : Nat) : Fld := ⟨0x400A0044 + 0x1000 * inst + 0x4 * p, 31, 0⟩
def F.MOT_ZERO_CODE_CODE (inst : Nat) : Fld := ⟨0x400A0050 + 0x1000 * inst, 13, 0⟩
def F.MOT_SAMPLE_LAST_TAKEN (inst : Nat) : Fld := ⟨0x400A0054 + 0x1000 * inst, 16, 16⟩
def F.MOT_SAMPLE_LAST_AT (inst : Nat) : Fld := ⟨0x400A0054 + 0x1000 * inst, 13, 0⟩
def F.MOT_REPEAT_CNT_COUNT (inst : Nat) : Fld := ⟨0x400A0058 + 0x1000 * inst, 31, 0⟩
def F.MOT_NOSAMPLE_CNT_COUNT (inst : Nat) : Fld := ⟨0x400A005C + 0x1000 * inst, 31, 0⟩
def F.MOT_STALE_PAIR_CNT_COUNT (inst : Nat) : Fld := ⟨0x400A0060 + 0x1000 * inst, 31, 0⟩
def F.MOT_MINPULSE_CNT_COUNT (inst : Nat) : Fld := ⟨0x400A0064 + 0x1000 * inst, 31, 0⟩
def F.MOT_STATE_CHG_CNT_COUNT (inst : Nat) : Fld := ⟨0x400A0068 + 0x1000 * inst, 31, 0⟩
def F.MOT_FORCED_CNT_COUNT (inst : Nat) : Fld := ⟨0x400A006C + 0x1000 * inst, 31, 0⟩
def F.MOT_ASC_CNT_COUNT (inst : Nat) : Fld := ⟨0x400A0070 + 0x1000 * inst, 31, 0⟩
def F.MOT_PWM_STALE_CNT_COUNT (inst : Nat) : Fld := ⟨0x400A0074 + 0x1000 * inst, 31, 0⟩
def F.MOT_PEAK_I_I (inst : Nat) : Fld := ⟨0x400A0078 + 0x1000 * inst, 31, 0⟩
def F.MOT_UDC_PEAK_U (inst : Nat) : Fld := ⟨0x400A007C + 0x1000 * inst, 31, 0⟩
def F.MOT_LOG_CODE (inst k : Nat) : Fld := ⟨0x400A0080 + 0x1000 * inst + 0x4 * k, 29, 16⟩
def F.MOT_LOG_TAG (inst k : Nat) : Fld := ⟨0x400A0080 + 0x1000 * inst + 0x4 * k, 15, 12⟩
def F.MOT_LOG_AT (inst k : Nat) : Fld := ⟨0x400A0080 + 0x1000 * inst + 0x4 * k, 11, 0⟩
def F.GDR_STATUS_XDIS_ACTIVE : Fld := ⟨0x400B0000, 7, 7⟩
def F.GDR_STATUS_IMPOSED : Fld := ⟨0x400B0000, 6, 4⟩
def F.GDR_STATUS_LINK_REACT : Fld := ⟨0x400B0000, 3, 2⟩
def F.GDR_STATUS_VGD_OK : Fld := ⟨0x400B0000, 1, 1⟩
def F.GDR_STATUS_ENABLED : Fld := ⟨0x400B0000, 0, 0⟩
def F.GDR_CFG_VGD : Fld := ⟨0x400B0004, 27, 24⟩
def F.GDR_CFG_BOOT_UV : Fld := ⟨0x400B0004, 23, 16⟩
def F.GDR_CFG_BOOT_REFRESH : Fld := ⟨0x400B0004, 15, 8⟩
def F.GDR_EVENT_SEEN : Fld := ⟨0x400B0008, 11, 0⟩
def F.GDR_EVENT_MASK_MASK : Fld := ⟨0x400B000C, 11, 0⟩
def F.GDR_XDIS_FILTER : Fld := ⟨0x400B0010, 15, 8⟩
def F.GDR_XDIS_OUT : Fld := ⟨0x400B0010, 1, 1⟩
def F.GDR_XDIS_IN : Fld := ⟨0x400B0010, 0, 0⟩
def F.GDR_LINK_CFG_OV_TRIP (l : Nat) : Fld := ⟨0x400B0014 + 0x4 * l, 31, 24⟩
def F.GDR_LINK_CFG_OV_ASC (l : Nat) : Fld := ⟨0x400B0014 + 0x4 * l, 23, 16⟩
def F.GDR_LINK_CFG_CH_ON (l : Nat) : Fld := ⟨0x400B0014 + 0x4 * l, 15, 8⟩
def F.GDR_LINK_CFG_CH_OFF (l : Nat) : Fld := ⟨0x400B0014 + 0x4 * l, 7, 0⟩
def F.GDR_LINK_STAT_UDC (l : Nat) : Fld := ⟨0x400B001C + 0x4 * l, 15, 8⟩
def F.GDR_LINK_STAT_TRIP (l : Nat) : Fld := ⟨0x400B001C + 0x4 * l, 3, 3⟩
def F.GDR_LINK_STAT_REACT (l : Nat) : Fld := ⟨0x400B001C + 0x4 * l, 2, 2⟩
def F.GDR_LINK_STAT_CH_FAIL (l : Nat) : Fld := ⟨0x400B001C + 0x4 * l, 1, 1⟩
def F.GDR_LINK_STAT_CH_ON (l : Nat) : Fld := ⟨0x400B001C + 0x4 * l, 0, 0⟩
def F.GDR_REFRESH_CNT_COUNT : Fld := ⟨0x400B0024, 31, 0⟩
def F.GDR_SHOOT_CNT_COUNT : Fld := ⟨0x400B0028, 31, 0⟩
def F.GDR_DESAT_CNT_COUNT : Fld := ⟨0x400B002C, 31, 0⟩
def F.GDR_OC_CNT_COUNT : Fld := ⟨0x400B0030, 31, 0⟩
def F.GDR_CLEAR_CNT_COUNT : Fld := ⟨0x400B0034, 31, 0⟩
def F.GDR_BRIDGE_CFG_SOFT_OFF (b : Nat) : Fld := ⟨0x400B0040 + 0x10 * b, 24, 24⟩
def F.GDR_BRIDGE_CFG_DEADTIME (b : Nat) : Fld := ⟨0x400B0040 + 0x10 * b, 8, 0⟩
def F.GDR_DESAT_BLANK (b : Nat) : Fld := ⟨0x400B0044 + 0x10 * b, 15, 8⟩
def F.GDR_DESAT_VDS_TH (b : Nat) : Fld := ⟨0x400B0044 + 0x10 * b, 7, 0⟩
def F.GDR_OC_OC_FILT (b : Nat) : Fld := ⟨0x400B0048 + 0x10 * b, 15, 8⟩
def F.GDR_OC_OC_TH (b : Nat) : Fld := ⟨0x400B0048 + 0x10 * b, 7, 0⟩
def F.GDR_BRIDGE_STAT_TRIES (b : Nat) : Fld := ⟨0x400B004C + 0x10 * b, 23, 20⟩
def F.GDR_BRIDGE_STAT_CAUSE (b : Nat) : Fld := ⟨0x400B004C + 0x10 * b, 14, 12⟩
def F.GDR_BRIDGE_STAT_IMPOSED (b : Nat) : Fld := ⟨0x400B004C + 0x10 * b, 11, 10⟩
def F.GDR_BRIDGE_STAT_DT_APPLIED (b : Nat) : Fld := ⟨0x400B004C + 0x10 * b, 8, 0⟩
def F.GDR_GATE_VBS (g : Nat) : Fld := ⟨0x400B0080 + 0x4 * g, 23, 16⟩
def F.GDR_GATE_TON (g : Nat) : Fld := ⟨0x400B0080 + 0x4 * g, 15, 8⟩
def F.GDR_GATE_SENSE (g : Nat) : Fld := ⟨0x400B0080 + 0x4 * g, 3, 3⟩
def F.GDR_GATE_CMD (g : Nat) : Fld := ⟨0x400B0080 + 0x4 * g, 2, 2⟩
def F.GDR_GATE_REFRESH (g : Nat) : Fld := ⟨0x400B0080 + 0x4 * g, 1, 1⟩
def F.GDR_GATE_UV (g : Nat) : Fld := ⟨0x400B0080 + 0x4 * g, 0, 0⟩
def F.GDR_SOL_CFG_DEV_TH (k : Nat) : Fld := ⟨0x400B0100 + 0x20 * k, 23, 16⟩
def F.GDR_SOL_CFG_FREQ (k : Nat) : Fld := ⟨0x400B0100 + 0x20 * k, 15, 8⟩
def F.GDR_SOL_CFG_DECAY (k : Nat) : Fld := ⟨0x400B0100 + 0x20 * k, 2, 2⟩
def F.GDR_SOL_CFG_DIAG (k : Nat) : Fld := ⟨0x400B0100 + 0x20 * k, 1, 1⟩
def F.GDR_SOL_CFG_ENABLE (k : Nat) : Fld := ⟨0x400B0100 + 0x20 * k, 0, 0⟩
def F.GDR_SOL_DITHER_AMP (k : Nat) : Fld := ⟨0x400B0104 + 0x20 * k, 15, 8⟩
def F.GDR_SOL_DITHER_FREQ (k : Nat) : Fld := ⟨0x400B0104 + 0x20 * k, 7, 0⟩
def F.GDR_SOL_SET_SET (k : Nat) : Fld := ⟨0x400B0108 + 0x20 * k, 11, 0⟩
def F.GDR_SOL_I_I (k : Nat) : Fld := ⟨0x400B010C + 0x20 * k, 11, 0⟩
def F.GDR_SOL_STAT_DUTY (k : Nat) : Fld := ⟨0x400B0110 + 0x20 * k, 15, 8⟩
def F.GDR_SOL_STAT_STATE (k : Nat) : Fld := ⟨0x400B0110 + 0x20 * k, 7, 6⟩
def F.GDR_SOL_STAT_TRIES (k : Nat) : Fld := ⟨0x400B0110 + 0x20 * k, 5, 4⟩
def F.GDR_SOL_STAT_DEV (k : Nat) : Fld := ⟨0x400B0110 + 0x20 * k, 3, 3⟩
def F.GDR_SOL_STAT_SHORT (k : Nat) : Fld := ⟨0x400B0110 + 0x20 * k, 2, 2⟩
def F.GDR_SOL_STAT_OPEN (k : Nat) : Fld := ⟨0x400B0110 + 0x20 * k, 1, 1⟩
def F.GDR_SOL_STAT_BLOCKED (k : Nat) : Fld := ⟨0x400B0110 + 0x20 * k, 0, 0⟩
def F.GDR_EN_CFG_RB_TIME (e : Nat) : Fld := ⟨0x400B0300 + 0x8 * e, 15, 8⟩
def F.GDR_EN_CFG_RB_INVERT (e : Nat) : Fld := ⟨0x400B0300 + 0x8 * e, 1, 1⟩
def F.GDR_EN_CFG_ENABLE (e : Nat) : Fld := ⟨0x400B0300 + 0x8 * e, 0, 0⟩
def F.GDR_EN_STAT_MISMATCH (e : Nat) : Fld := ⟨0x400B0304 + 0x8 * e, 3, 3⟩
def F.GDR_EN_STAT_RB (e : Nat) : Fld := ⟨0x400B0304 + 0x8 * e, 2, 2⟩
def F.GDR_EN_STAT_OUT (e : Nat) : Fld := ⟨0x400B0304 + 0x8 * e, 1, 1⟩
def F.GDR_EN_STAT_CMD (e : Nat) : Fld := ⟨0x400B0304 + 0x8 * e, 0, 0⟩
def F.GDR_SS_CFG_PULSED (s : Nat) : Fld := ⟨0x400B0340 + 0x8 * s, 1, 1⟩
def F.GDR_SS_CFG_ENABLE (s : Nat) : Fld := ⟨0x400B0340 + 0x8 * s, 0, 0⟩
def F.GDR_SS_STAT_VOLT (s : Nat) : Fld := ⟨0x400B0344 + 0x8 * s, 23, 16⟩
def F.GDR_SS_STAT_CURR (s : Nat) : Fld := ⟨0x400B0344 + 0x8 * s, 15, 8⟩
def F.GDR_SS_STAT_LOW_REACHED (s : Nat) : Fld := ⟨0x400B0344 + 0x8 * s, 4, 4⟩
def F.GDR_SS_STAT_WAITING (s : Nat) : Fld := ⟨0x400B0344 + 0x8 * s, 3, 3⟩
def F.GDR_SS_STAT_PULSING (s : Nat) : Fld := ⟨0x400B0344 + 0x8 * s, 2, 2⟩
def F.GDR_SS_STAT_LIMITING (s : Nat) : Fld := ⟨0x400B0344 + 0x8 * s, 1, 1⟩
def F.GDR_SS_STAT_OK (s : Nat) : Fld := ⟨0x400B0344 + 0x8 * s, 0, 0⟩
def F.ADC_STATUS_OW_CHANNEL : Fld := ⟨0x400C0000, 23, 18⟩
def F.ADC_STATUS_OW_ACTIVE : Fld := ⟨0x400C0000, 17, 17⟩
def F.ADC_STATUS_REF_DONE : Fld := ⟨0x400C0000, 16, 16⟩
def F.ADC_STATUS_BUSY : Fld := ⟨0x400C0000, 15, 8⟩
def F.ADC_STATUS_FAILED : Fld := ⟨0x400C0000, 7, 0⟩
def F.ADC_CFG_OW_PERIOD : Fld := ⟨0x400C0004, 31, 24⟩
def F.ADC_CFG_OW_SETTLE : Fld := ⟨0x400C0004, 23, 16⟩
def F.ADC_CFG_TICK_LEAD : Fld := ⟨0x400C0004, 15, 8⟩
def F.ADC_EVENT_SEEN : Fld := ⟨0x400C0008, 7, 0⟩
def F.ADC_EVENT_MASK_MASK : Fld := ⟨0x400C000C, 7, 0⟩
def F.ADC_REF_CFG_TOL_GND : Fld := ⟨0x400C0010, 15, 8⟩
def F.ADC_REF_CFG_TOL_BG : Fld := ⟨0x400C0010, 7, 0⟩
def F.ADC_DAC_CODE : Fld := ⟨0x400C0014, 11, 0⟩
def F.ADC_START_INJ : Fld := ⟨0x400C0018, 15, 8⟩
def F.ADC_START_REG : Fld := ⟨0x400C0018, 7, 0⟩
def F.ADC_OVR_CNT_COUNT : Fld := ⟨0x400C0040, 31, 0⟩
def F.ADC_OPEN_CNT_COUNT : Fld := ⟨0x400C0044, 31, 0⟩
def F.ADC_PAIR_FAIL_CNT_COUNT : Fld := ⟨0x400C0048, 31, 0⟩
def F.ADC_INJ_CNT_COUNT : Fld := ⟨0x400C004C, 31, 0⟩
def F.ADC_PREEMPT_CNT_COUNT : Fld := ⟨0x400C0050, 31, 0⟩
def F.ADC_TRIG_LOST_CNT_COUNT : Fld := ⟨0x400C0054, 31, 0⟩
def F.ADC_SEQ_OVERRUN_CNT_COUNT : Fld := ⟨0x400C0058, 31, 0⟩
def F.ADC_REF_FAIL_CNT_COUNT : Fld := ⟨0x400C005C, 31, 0⟩
def F.ADC_REF_CHK_CNT_COUNT : Fld := ⟨0x400C0060, 31, 0⟩
def F.ADC_START_CNT_COUNT : Fld := ⟨0x400C0064, 31, 0⟩
def F.ADC_GROUP_CNT_COUNT : Fld := ⟨0x400C0068, 31, 0⟩
def F.ADC_LOOPBACK_FAIL_CNT_COUNT : Fld := ⟨0x400C006C, 31, 0⟩
def F.ADC_CONV_CFG_ENABLE (v : Nat) : Fld := ⟨0x400C0100 + 0x20 * v, 31, 31⟩
def F.ADC_CONV_CFG_CONT (v : Nat) : Fld := ⟨0x400C0100 + 0x20 * v, 16, 16⟩
def F.ADC_CONV_CFG_INJ_LEN (v : Nat) : Fld := ⟨0x400C0100 + 0x20 * v, 10, 8⟩
def F.ADC_CONV_CFG_REG_LEN (v : Nat) : Fld := ⟨0x400C0100 + 0x20 * v, 3, 0⟩
def F.ADC_TRIG_INJ_TRIG (v : Nat) : Fld := ⟨0x400C0104 + 0x20 * v, 12, 8⟩
def F.ADC_TRIG_REG_TRIG (v : Nat) : Fld := ⟨0x400C0104 + 0x20 * v, 4, 0⟩
def F.ADC_RSEQ_LO_ENTRY (v j : Nat) : Fld := ⟨0x400C0108 + 0x20 * v, 8 * j + 5, 8 * j + 0⟩
def F.ADC_RSEQ_HI_ENTRY (v j : Nat) : Fld := ⟨0x400C010C + 0x20 * v, 8 * j + 5, 8 * j + 0⟩
def F.ADC_ISEQ_ENTRY (v j : Nat) : Fld := ⟨0x400C0110 + 0x20 * v, 8 * j + 5, 8 * j + 0⟩
def F.ADC_CONV_STAT_FAILED (v : Nat) : Fld := ⟨0x400C0114 + 0x20 * v, 31, 31⟩
def F.ADC_CONV_STAT_POS (v : Nat) : Fld := ⟨0x400C0114 + 0x20 * v, 19, 16⟩
def F.ADC_CONV_STAT_STATE (v : Nat) : Fld := ⟨0x400C0114 + 0x20 * v, 2, 0⟩
def F.ADC_REF_GND (v : Nat) : Fld := ⟨0x400C0118 + 0x20 * v, 29, 16⟩
def F.ADC_REF_BG (v : Nat) : Fld := ⟨0x400C0118 + 0x20 * v, 13, 0⟩
def F.ADC_CONV_CNT_COUNT (v : Nat) : Fld := ⟨0x400C011C + 0x20 * v, 31, 0⟩
def F.ADC_RESULT_VALID (c : Nat) : Fld := ⟨0x400C0200 + 0x4 * c, 31, 31⟩
def F.ADC_RESULT_OVR_HI (c : Nat) : Fld := ⟨0x400C0200 + 0x4 * c, 30, 30⟩
def F.ADC_RESULT_OVR_LO (c : Nat) : Fld := ⟨0x400C0200 + 0x4 * c, 29, 29⟩
def F.ADC_RESULT_INJ (c : Nat) : Fld := ⟨0x400C0200 + 0x4 * c, 28, 28⟩
def F.ADC_RESULT_CONV (c : Nat) : Fld := ⟨0x400C0200 + 0x4 * c, 27, 25⟩
def F.ADC_RESULT_AGE (c : Nat) : Fld := ⟨0x400C0200 + 0x4 * c, 23, 16⟩
def F.ADC_RESULT_CODE (c : Nat) : Fld := ⟨0x400C0200 + 0x4 * c, 13, 0⟩
def F.ADC_SAMPLE_SAMPLE (w j : Nat) : Fld := ⟨0x400C0300 + 0x4 * w, 4 * j + 3, 4 * j + 0⟩
def F.ADC_OW_CFG_OW (w j : Nat) : Fld := ⟨0x400C0320 + 0x4 * w, 2 * j + 1, 2 * j + 0⟩
def F.ADC_OVR_OVR (w : Nat) : Fld := ⟨0x400C0330 + 0x4 * w, 31, 0⟩
def F.ADC_OPEN_OPEN (w : Nat) : Fld := ⟨0x400C0338 + 0x4 * w, 31, 0⟩
def F.ADC_GROUP_EN (g : Nat) : Fld := ⟨0x400C0340 + 0x4 * g, 31, 31⟩
def F.ADC_GROUP_TRIG (g : Nat) : Fld := ⟨0x400C0340 + 0x4 * g, 12, 8⟩
def F.ADC_GROUP_MEMBERS (g : Nat) : Fld := ⟨0x400C0340 + 0x4 * g, 7, 0⟩
def F.ADC_PAIR_CFG_EN (p : Nat) : Fld := ⟨0x400C0380 + 0x10 * p, 31, 31⟩
def F.ADC_PAIR_CFG_TRIG (p : Nat) : Fld := ⟨0x400C0380 + 0x10 * p, 28, 24⟩
def F.ADC_PAIR_CFG_CHANNEL (p : Nat) : Fld := ⟨0x400C0380 + 0x10 * p, 21, 16⟩
def F.ADC_PAIR_CFG_PERSIST (p : Nat) : Fld := ⟨0x400C0380 + 0x10 * p, 7, 0⟩
def F.ADC_PAIR_WIN_WIN (p : Nat) : Fld := ⟨0x400C0384 + 0x10 * p, 13, 0⟩
def F.ADC_PAIR_STAT_RUN (p : Nat) : Fld := ⟨0x400C0388 + 0x10 * p, 23, 16⟩
def F.ADC_PAIR_STAT_FAIL (p : Nat) : Fld := ⟨0x400C0388 + 0x10 * p, 15, 15⟩
def F.ADC_PAIR_STAT_VIOL (p : Nat) : Fld := ⟨0x400C0388 + 0x10 * p, 14, 14⟩
def F.ADC_PAIR_STAT_DIFF (p : Nat) : Fld := ⟨0x400C0388 + 0x10 * p, 13, 0⟩
def F.ADC_PAIR_LAST_CODE_B (p : Nat) : Fld := ⟨0x400C038C + 0x10 * p, 29, 16⟩
def F.ADC_PAIR_LAST_CODE_A (p : Nat) : Fld := ⟨0x400C038C + 0x10 * p, 13, 0⟩
def F.FLU_STATUS_DAMPER_OPEN_OK : Fld := ⟨0x400D0000, 5, 5⟩
def F.FLU_STATUS_RING_B_OK : Fld := ⟨0x400D0000, 4, 4⟩
def F.FLU_STATUS_RING_A_OK : Fld := ⟨0x400D0000, 3, 3⟩
def F.FLU_STATUS_IN_SYNC : Fld := ⟨0x400D0000, 2, 2⟩
def F.FLU_STATUS_TX_ON : Fld := ⟨0x400D0000, 1, 1⟩
def F.FLU_STATUS_FORWARDING : Fld := ⟨0x400D0000, 0, 0⟩
def F.FLU_CFG_PRECISION : Fld := ⟨0x400D0004, 25, 16⟩
def F.FLU_CFG_RING_B_EN : Fld := ⟨0x400D0004, 1, 1⟩
def F.FLU_CFG_RING_A_EN : Fld := ⟨0x400D0004, 0, 0⟩
def F.FLU_EVENT_SEEN : Fld := ⟨0x400D0008, 11, 0⟩
def F.FLU_EVENT_MASK_MASK : Fld := ⟨0x400D000C, 11, 0⟩
def F.FLU_NODE_SYNC : Fld := ⟨0x400D0010, 9, 9⟩
def F.FLU_NODE_KINDLING : Fld := ⟨0x400D0010, 8, 8⟩
def F.FLU_NODE_NODE_ID : Fld := ⟨0x400D0010, 4, 0⟩
def F.FLU_PORT_A_NODES_HEARD : Fld := ⟨0x400D0014, 15, 8⟩
def F.FLU_PORT_A_BYPASS : Fld := ⟨0x400D0014, 1, 1⟩
def F.FLU_PORT_A_LOCK : Fld := ⟨0x400D0014, 0, 0⟩
def F.FLU_PORT_B_NODES_HEARD : Fld := ⟨0x400D0018, 15, 8⟩
def F.FLU_PORT_B_BYPASS : Fld := ⟨0x400D0018, 1, 1⟩
def F.FLU_PORT_B_LOCK : Fld := ⟨0x400D0018, 0, 0⟩
def F.FLU_TIME_LO_TIME : Fld := ⟨0x400D001C, 31, 0⟩
def F.FLU_TIME_HI_TIME : Fld := ⟨0x400D0020, 31, 0⟩
def F.FLU_CYCLE_C : Fld := ⟨0x400D0024, 31, 0⟩
def F.FLU_SCHED_PENDING : Fld := ⟨0x400D0028, 10, 8⟩
def F.FLU_SCHED_SWITCHING : Fld := ⟨0x400D0028, 7, 7⟩
def F.FLU_SCHED_REQUEST : Fld := ⟨0x400D0028, 6, 4⟩
def F.FLU_SCHED_ACTIVE : Fld := ⟨0x400D0028, 2, 0⟩
def F.FLU_OFFSET_CORR_NS : Fld := ⟨0x400D002C, 31, 0⟩
def F.FLU_RATE_CORR_RATE : Fld := ⟨0x400D0030, 31, 0⟩
def F.FLU_SYNC_STAT_SPREAD : Fld := ⟨0x400D0034, 31, 16⟩
def F.FLU_SYNC_STAT_LOST_CNT : Fld := ⟨0x400D0034, 15, 8⟩
def F.FLU_SYNC_STAT_K : Fld := ⟨0x400D0034, 5, 4⟩
def F.FLU_SYNC_STAT_VALUES : Fld := ⟨0x400D0034, 3, 0⟩
def F.FLU_DYN_ABSTAIN : Fld := ⟨0x400D0038, 24, 24⟩
def F.FLU_DYN_GRANT_LEN : Fld := ⟨0x400D0038, 23, 16⟩
def F.FLU_DYN_GRANT_FIRST : Fld := ⟨0x400D0038, 15, 8⟩
def F.FLU_DYN_REQ : Fld := ⟨0x400D0038, 7, 0⟩
def F.FLU_CMD_SLOTS : Fld := ⟨0x400D003C, 11, 8⟩
def F.FLU_CMD_CAP : Fld := ⟨0x400D003C, 7, 0⟩
def F.FLU_LAST_REJ_REASON : Fld := ⟨0x400D0040, 18, 16⟩
def F.FLU_LAST_REJ_RING : Fld := ⟨0x400D0040, 13, 13⟩
def F.FLU_LAST_REJ_NODE : Fld := ⟨0x400D0040, 12, 8⟩
def F.FLU_LAST_REJ_SLOT : Fld := ⟨0x400D0040, 7, 0⟩
def F.FLU_DAMPER_CLOSED : Fld := ⟨0x400D0044, 16, 16⟩
def F.FLU_DAMPER_DIVERGE_MAX : Fld := ⟨0x400D0044, 15, 0⟩
def F.FLU_RX_A_CNT_COUNT : Fld := ⟨0x400D0080, 31, 0⟩
def F.FLU_RX_B_CNT_COUNT : Fld := ⟨0x400D0084, 31, 0⟩
def F.FLU_HCRC_A_CNT_COUNT : Fld := ⟨0x400D0088, 31, 0⟩
def F.FLU_HCRC_B_CNT_COUNT : Fld := ⟨0x400D008C, 31, 0⟩
def F.FLU_CRC_A_CNT_COUNT : Fld := ⟨0x400D0090, 31, 0⟩
def F.FLU_CRC_B_CNT_COUNT : Fld := ⟨0x400D0094, 31, 0⟩
def F.FLU_WINDOW_A_CNT_COUNT : Fld := ⟨0x400D0098, 31, 0⟩
def F.FLU_WINDOW_B_CNT_COUNT : Fld := ⟨0x400D009C, 31, 0⟩
def F.FLU_CODE_A_CNT_COUNT : Fld := ⟨0x400D00A0, 31, 0⟩
def F.FLU_CODE_B_CNT_COUNT : Fld := ⟨0x400D00A4, 31, 0⟩
def F.FLU_LOCK_A_CNT_COUNT : Fld := ⟨0x400D00A8, 31, 0⟩
def F.FLU_LOCK_B_CNT_COUNT : Fld := ⟨0x400D00AC, 31, 0⟩
def F.FLU_TRUNC_CNT_COUNT : Fld := ⟨0x400D00B0, 31, 0⟩
def F.FLU_BLOCK_CNT_COUNT : Fld := ⟨0x400D00B4, 31, 0⟩
def F.FLU_REPEAT_CNT_COUNT : Fld := ⟨0x400D00B8, 31, 0⟩
def F.FLU_RING_DIFF_CNT_COUNT : Fld := ⟨0x400D00BC, 31, 0⟩
def F.FLU_DYN_DEFER_CNT_COUNT : Fld := ⟨0x400D00C0, 31, 0⟩
def F.FLU_CMD_REC_CNT_COUNT : Fld := ⟨0x400D00C4, 31, 0⟩
def F.FLU_FWD_ABORT_CNT_COUNT : Fld := ⟨0x400D00C8, 31, 0⟩
def F.FLU_TAIL_ERR_CNT_COUNT : Fld := ⟨0x400D00CC, 31, 0⟩
def F.FLU_OWN_VALID (k : Nat) : Fld := ⟨0x400D0100 + 0x4 * k, 31, 31⟩
def F.FLU_OWN_KIND (k : Nat) : Fld := ⟨0x400D0100 + 0x4 * k, 25, 24⟩
def F.FLU_OWN_LEN (k : Nat) : Fld := ⟨0x400D0100 + 0x4 * k, 23, 16⟩
def F.FLU_OWN_AGE_CNT (k : Nat) : Fld := ⟨0x400D0100 + 0x4 * k, 15, 8⟩
def F.FLU_OWN_SLOT (k : Nat) : Fld := ⟨0x400D0100 + 0x4 * k, 5, 0⟩
def F.FLU_SCHED_INFO_VALID (k : Nat) : Fld := ⟨0x400D0120 + 0x4 * k, 31, 31⟩
def F.FLU_SCHED_INFO_CAP (k : Nat) : Fld := ⟨0x400D0120 + 0x4 * k, 23, 16⟩
def F.FLU_SCHED_INFO_CMD_SLOTS (k : Nat) : Fld := ⟨0x400D0120 + 0x4 * k, 11, 8⟩
def F.FLU_SCHED_INFO_OWN_SLOTS (k : Nat) : Fld := ⟨0x400D0120 + 0x4 * k, 5, 0⟩
def F.FLU_HEARD_A_HEARD : Fld := ⟨0x400D0140, 31, 0⟩
def F.FLU_HEARD_B_HEARD : Fld := ⟨0x400D0144, 31, 0⟩
def F.FLU_POSDLY_A_HOPS_NOM (n : Nat) : Fld := ⟨0x400D0200 + 0x4 * n, 20, 16⟩
def F.FLU_POSDLY_A_WIRE_NS (n : Nat) : Fld := ⟨0x400D0200 + 0x4 * n, 15, 0⟩
def F.FLU_POSDLY_B_HOPS_NOM (n : Nat) : Fld := ⟨0x400D0280 + 0x4 * n, 20, 16⟩
def F.FLU_POSDLY_B_WIRE_NS (n : Nat) : Fld := ⟨0x400D0280 + 0x4 * n, 15, 0⟩
def F.FLU_SLOT_RX_GOOD_A (s : Nat) : Fld := ⟨0x400D0300 + 0x4 * s, 31, 31⟩
def F.FLU_SLOT_RX_GOOD_B (s : Nat) : Fld := ⟨0x400D0300 + 0x4 * s, 30, 30⟩
def F.FLU_SLOT_RX_RING_DIFF (s : Nat) : Fld := ⟨0x400D0300 + 0x4 * s, 29, 29⟩
def F.FLU_SLOT_RX_READY (s : Nat) : Fld := ⟨0x400D0300 + 0x4 * s, 28, 28⟩
def F.FLU_SLOT_RX_OWN (s : Nat) : Fld := ⟨0x400D0300 + 0x4 * s, 27, 27⟩
def F.FLU_SLOT_RX_NODE (s : Nat) : Fld := ⟨0x400D0300 + 0x4 * s, 20, 16⟩
def F.FLU_SLOT_RX_AGE_CNT (s : Nat) : Fld := ⟨0x400D0300 + 0x4 * s, 15, 8⟩
def F.FLU_SLOT_RX_LEN (s : Nat) : Fld := ⟨0x400D0300 + 0x4 * s, 7, 0⟩
def F.FLU_BN_STAT_VALID (n : Nat) : Fld := ⟨0x400D0400 + 0x4 * n, 31, 31⟩
def F.FLU_BN_STAT_SYNCED (n : Nat) : Fld := ⟨0x400D0400 + 0x4 * n, 30, 30⟩
def F.FLU_BN_STAT_TIMEOUT (n : Nat) : Fld := ⟨0x400D0400 + 0x4 * n, 29, 29⟩
def F.FLU_BN_STAT_LATE (n : Nat) : Fld := ⟨0x400D0400 + 0x4 * n, 23, 16⟩
def F.FLU_BN_STAT_FAULTS (n : Nat) : Fld := ⟨0x400D0400 + 0x4 * n, 15, 8⟩
def F.FLU_BN_STAT_ON (n : Nat) : Fld := ⟨0x400D0400 + 0x4 * n, 7, 0⟩
def F.CAN_CFG_ENABLE (inst : Nat) : Fld := ⟨0x400E0000 + 0x1000 * inst, 31, 31⟩
def F.CAN_CFG_MODE (inst : Nat) : Fld := ⟨0x400E0000 + 0x1000 * inst, 30, 29⟩
def F.CAN_CFG_FD_EN (inst : Nat) : Fld := ⟨0x400E0000 + 0x1000 * inst, 28, 28⟩
def F.CAN_CFG_TXORDER (inst : Nat) : Fld := ⟨0x400E0000 + 0x1000 * inst, 27, 27⟩
def F.CAN_CFG_TRIPLE (inst : Nat) : Fld := ⟨0x400E0000 + 0x1000 * inst, 26, 26⟩
def F.CAN_CFG_AUTO_RECOVER (inst : Nat) : Fld := ⟨0x400E0000 + 0x1000 * inst, 25, 25⟩
def F.CAN_CFG_SHADOW_TX (inst : Nat) : Fld := ⟨0x400E0000 + 0x1000 * inst, 24, 24⟩
def F.CAN_NBT_TSEG1 (inst : Nat) : Fld := ⟨0x400E0004 + 0x1000 * inst, 31, 24⟩
def F.CAN_NBT_TSEG2 (inst : Nat) : Fld := ⟨0x400E0004 + 0x1000 * inst, 23, 17⟩
def F.CAN_NBT_SJW (inst : Nat) : Fld := ⟨0x400E0004 + 0x1000 * inst, 16, 10⟩
def F.CAN_NBT_BRP (inst : Nat) : Fld := ⟨0x400E0004 + 0x1000 * inst, 9, 0⟩
def F.CAN_DBT_TSEG1 (inst : Nat) : Fld := ⟨0x400E0008 + 0x1000 * inst, 20, 16⟩
def F.CAN_DBT_TSEG2 (inst : Nat) : Fld := ⟨0x400E0008 + 0x1000 * inst, 15, 12⟩
def F.CAN_DBT_SJW (inst : Nat) : Fld := ⟨0x400E0008 + 0x1000 * inst, 11, 8⟩
def F.CAN_DBT_BRP (inst : Nat) : Fld := ⟨0x400E0008 + 0x1000 * inst, 4, 0⟩
def F.CAN_TDC_MEASURED (inst : Nat) : Fld := ⟨0x400E000C + 0x1000 * inst, 23, 16⟩
def F.CAN_TDC_EN (inst : Nat) : Fld := ⟨0x400E000C + 0x1000 * inst, 8, 8⟩
def F.CAN_TDC_OFFSET (inst : Nat) : Fld := ⟨0x400E000C + 0x1000 * inst, 7, 0⟩
def F.CAN_STATUS_STATE (inst : Nat) : Fld := ⟨0x400E0010 + 0x1000 * inst, 9, 8⟩
def F.CAN_STATUS_LISTEN (inst : Nat) : Fld := ⟨0x400E0010 + 0x1000 * inst, 7, 7⟩
def F.CAN_STATUS_TX_PEND (inst : Nat) : Fld := ⟨0x400E0010 + 0x1000 * inst, 6, 4⟩
def F.CAN_STATUS_RECEIVING (inst : Nat) : Fld := ⟨0x400E0010 + 0x1000 * inst, 3, 3⟩
def F.CAN_STATUS_TRANSMITTING (inst : Nat) : Fld := ⟨0x400E0010 + 0x1000 * inst, 2, 2⟩
def F.CAN_STATUS_SYNCED (inst : Nat) : Fld := ⟨0x400E0010 + 0x1000 * inst, 1, 1⟩
def F.CAN_STATUS_ACTIVE (inst : Nat) : Fld := ⟨0x400E0010 + 0x1000 * inst, 0, 0⟩
def F.CAN_EVENT_SEEN (inst : Nat) : Fld := ⟨0x400E0014 + 0x1000 * inst, 7, 0⟩
def F.CAN_EVENT_MASK_MASK (inst : Nat) : Fld := ⟨0x400E0018 + 0x1000 * inst, 7, 0⟩
def F.CAN_ERR_LEC (inst : Nat) : Fld := ⟨0x400E001C + 0x1000 * inst, 26, 24⟩
def F.CAN_ERR_TEC (inst : Nat) : Fld := ⟨0x400E001C + 0x1000 * inst, 15, 8⟩
def F.CAN_ERR_REC (inst : Nat) : Fld := ⟨0x400E001C + 0x1000 * inst, 7, 0⟩
def F.CAN_RXF_STAT_PEAK (inst : Nat) : Fld := ⟨0x400E0020 + 0x1000 * inst, 22, 16⟩
def F.CAN_RXF_STAT_DEPTH (inst : Nat) : Fld := ⟨0x400E0020 + 0x1000 * inst, 6, 0⟩
def F.CAN_ISO_CFG_EN (inst : Nat) : Fld := ⟨0x400E0024 + 0x1000 * inst, 31, 31⟩
def F.CAN_ISO_CFG_SC_ELEMENT (inst : Nat) : Fld := ⟨0x400E0024 + 0x1000 * inst, 27, 16⟩
def F.CAN_ISO_CFG_SC_DEST (inst : Nat) : Fld := ⟨0x400E0024 + 0x1000 * inst, 15, 8⟩
def F.CAN_ISO_CFG_PREF_ADDR (inst : Nat) : Fld := ⟨0x400E0024 + 0x1000 * inst, 7, 0⟩
def F.CAN_ISO_NAME_LO_NAME (inst : Nat) : Fld := ⟨0x400E0028 + 0x1000 * inst, 31, 0⟩
def F.CAN_ISO_NAME_HI_NAME (inst : Nat) : Fld := ⟨0x400E002C + 0x1000 * inst, 31, 0⟩
def F.CAN_ISO_STAT_SC_SEEN (inst : Nat) : Fld := ⟨0x400E0030 + 0x1000 * inst, 10, 10⟩
def F.CAN_ISO_STAT_CANNOT_CLAIM (inst : Nat) : Fld := ⟨0x400E0030 + 0x1000 * inst, 9, 9⟩
def F.CAN_ISO_STAT_CLAIMED (inst : Nat) : Fld := ⟨0x400E0030 + 0x1000 * inst, 8, 8⟩
def F.CAN_ISO_STAT_ADDR (inst : Nat) : Fld := ⟨0x400E0030 + 0x1000 * inst, 7, 0⟩
def F.CAN_TXBUF_RESULT (inst b : Nat) : Fld := ⟨0x400E0034 + 0x1000 * inst + 0x4 * b, 31, 29⟩
def F.CAN_TXBUF_HELD (inst b : Nat) : Fld := ⟨0x400E0034 + 0x1000 * inst + 0x4 * b, 28, 28⟩
def F.CAN_TXBUF_STATE (inst b : Nat) : Fld := ⟨0x400E0034 + 0x1000 * inst + 0x4 * b, 27, 26⟩
def F.CAN_TXBUF_TOO_LATE_CNT (inst b : Nat) : Fld := ⟨0x400E0034 + 0x1000 * inst + 0x4 * b, 23, 16⟩
def F.CAN_TXBUF_CANCEL_CNT (inst b : Nat) : Fld := ⟨0x400E0034 + 0x1000 * inst + 0x4 * b, 15, 8⟩
def F.CAN_TXBUF_REPLACE_CNT (inst b : Nat) : Fld := ⟨0x400E0034 + 0x1000 * inst + 0x4 * b, 7, 0⟩
def F.CAN_CNT_COUNT_H (inst k : Nat) : Fld := ⟨0x400E0040 + 0x1000 * inst + 0x4 * k, 31, 16⟩
def F.CAN_CNT_COUNT_L (inst k : Nat) : Fld := ⟨0x400E0040 + 0x1000 * inst + 0x4 * k, 15, 0⟩
def F.CAN_MASK_IDE (inst m : Nat) : Fld := ⟨0x400E0050 + 0x1000 * inst + 0x4 * m, 31, 31⟩
def F.CAN_MASK_MASK (inst m : Nat) : Fld := ⟨0x400E0050 + 0x1000 * inst + 0x4 * m, 28, 0⟩
def F.CAN_FILT_EN (inst f : Nat) : Fld := ⟨0x400E0080 + 0x1000 * inst + 0x4 * f, 31, 31⟩
def F.CAN_FILT_MASK_SEL (inst f : Nat) : Fld := ⟨0x400E0080 + 0x1000 * inst + 0x4 * f, 30, 29⟩
def F.CAN_FILT_ID (inst f : Nat) : Fld := ⟨0x400E0080 + 0x1000 * inst + 0x4 * f, 28, 0⟩
def F.ETH_CFG_ENABLE (inst : Nat) : Fld := ⟨0x400F0000 + 0x1000 * inst, 31, 31⟩
def F.ETH_CFG_PAUSE_TX (inst : Nat) : Fld := ⟨0x400F0000 + 0x1000 * inst, 30, 30⟩
def F.ETH_CFG_PAUSE_RX (inst : Nat) : Fld := ⟨0x400F0000 + 0x1000 * inst, 29, 29⟩
def F.ETH_CFG_ICMP_EN (inst : Nat) : Fld := ⟨0x400F0000 + 0x1000 * inst, 28, 28⟩
def F.ETH_STATUS_PTP_MASTER (inst : Nat) : Fld := ⟨0x400F0004 + 0x1000 * inst, 3, 3⟩
def F.ETH_STATUS_PAUSING (inst : Nat) : Fld := ⟨0x400F0004 + 0x1000 * inst, 2, 2⟩
def F.ETH_STATUS_PAUSED (inst : Nat) : Fld := ⟨0x400F0004 + 0x1000 * inst, 1, 1⟩
def F.ETH_STATUS_ACTIVE (inst : Nat) : Fld := ⟨0x400F0004 + 0x1000 * inst, 0, 0⟩
def F.ETH_EVENT_SEEN (inst : Nat) : Fld := ⟨0x400F0008 + 0x1000 * inst, 7, 0⟩
def F.ETH_EVENT_MASK_MASK (inst : Nat) : Fld := ⟨0x400F000C + 0x1000 * inst, 7, 0⟩
def F.ETH_MAC_LO_ADDR (inst : Nat) : Fld := ⟨0x400F0010 + 0x1000 * inst, 31, 0⟩
def F.ETH_MAC_HI_ADDR (inst : Nat) : Fld := ⟨0x400F0014 + 0x1000 * inst, 15, 0⟩
def F.ETH_IP_ADDR (inst : Nat) : Fld := ⟨0x400F0018 + 0x1000 * inst, 31, 0⟩
def F.ETH_NETMASK_ADDR (inst : Nat) : Fld := ⟨0x400F001C + 0x1000 * inst, 31, 0⟩
def F.ETH_GATEWAY_ADDR (inst : Nat) : Fld := ⟨0x400F0020 + 0x1000 * inst, 31, 0⟩
def F.ETH_VLAN_EN (inst : Nat) : Fld := ⟨0x400F0024 + 0x1000 * inst, 16, 16⟩
def F.ETH_VLAN_VID (inst : Nat) : Fld := ⟨0x400F0024 + 0x1000 * inst, 11, 0⟩
def F.ETH_PAUSE_HIGH_WATER (inst : Nat) : Fld := ⟨0x400F0028 + 0x1000 * inst, 31, 24⟩
def F.ETH_PAUSE_LOW_WATER (inst : Nat) : Fld := ⟨0x400F0028 + 0x1000 * inst, 23, 16⟩
def F.ETH_PAUSE_QUANTA (inst : Nat) : Fld := ⟨0x400F0028 + 0x1000 * inst, 15, 0⟩
def F.ETH_PTP_CFG_EN (inst : Nat) : Fld := ⟨0x400F002C + 0x1000 * inst, 31, 31⟩
def F.ETH_PTP_CFG_L2 (inst : Nat) : Fld := ⟨0x400F002C + 0x1000 * inst, 30, 30⟩
def F.ETH_PTP_CFG_LOG_SYNC (inst : Nat) : Fld := ⟨0x400F002C + 0x1000 * inst, 26, 24⟩
def F.ETH_PTP_CFG_DOMAIN (inst : Nat) : Fld := ⟨0x400F002C + 0x1000 * inst, 23, 16⟩
def F.ETH_PTP_CFG_TX_LAT (inst : Nat) : Fld := ⟨0x400F002C + 0x1000 * inst, 15, 8⟩
def F.ETH_PTP_CFG_RX_LAT (inst : Nat) : Fld := ⟨0x400F002C + 0x1000 * inst, 7, 0⟩
def F.ETH_PTP_STAT_SYNC_SEQ (inst : Nat) : Fld := ⟨0x400F0030 + 0x1000 * inst, 31, 16⟩
def F.ETH_RXBUF_PEAK (inst : Nat) : Fld := ⟨0x400F0034 + 0x1000 * inst, 24, 16⟩
def F.ETH_RXBUF_DEPTH (inst : Nat) : Fld := ⟨0x400F0034 + 0x1000 * inst, 8, 0⟩
def F.ETH_LAST_DROP_ETYPE (inst : Nat) : Fld := ⟨0x400F0038 + 0x1000 * inst, 31, 16⟩
def F.ETH_LAST_DROP_REASON (inst : Nat) : Fld := ⟨0x400F0038 + 0x1000 * inst, 3, 0⟩
def F.ETH_PHY_PHY_ADDR (inst : Nat) : Fld := ⟨0x400F003C + 0x1000 * inst, 28, 24⟩
def F.ETH_PHY_LINK (inst : Nat) : Fld := ⟨0x400F003C + 0x1000 * inst, 7, 7⟩
def F.ETH_PHY_SPEED (inst : Nat) : Fld := ⟨0x400F003C + 0x1000 * inst, 6, 5⟩
def F.ETH_PHY_DUPLEX (inst : Nat) : Fld := ⟨0x400F003C + 0x1000 * inst, 4, 4⟩
def F.ETH_PHY_PAUSE_OK (inst : Nat) : Fld := ⟨0x400F003C + 0x1000 * inst, 3, 3⟩
def F.ETH_RX_OK_CNT_COUNT (inst : Nat) : Fld := ⟨0x400F0040 + 0x1000 * inst, 31, 0⟩
def F.ETH_TX_OK_CNT_COUNT (inst : Nat) : Fld := ⟨0x400F0044 + 0x1000 * inst, 31, 0⟩
def F.ETH_DROP_CRC_CNT_COUNT (inst : Nat) : Fld := ⟨0x400F0048 + 0x1000 * inst, 31, 0⟩
def F.ETH_DROP_LEN_CNT_COUNT (inst : Nat) : Fld := ⟨0x400F004C + 0x1000 * inst, 31, 0⟩
def F.ETH_DROP_MAC_CNT_COUNT (inst : Nat) : Fld := ⟨0x400F0050 + 0x1000 * inst, 31, 0⟩
def F.ETH_DROP_VLAN_CNT_COUNT (inst : Nat) : Fld := ⟨0x400F0054 + 0x1000 * inst, 31, 0⟩
def F.ETH_DROP_ETYPE_CNT_COUNT (inst : Nat) : Fld := ⟨0x400F0058 + 0x1000 * inst, 31, 0⟩
def F.ETH_DROP_IP_CNT_COUNT (inst : Nat) : Fld := ⟨0x400F005C + 0x1000 * inst, 31, 0⟩
def F.ETH_DROP_PORT_CNT_COUNT (inst : Nat) : Fld := ⟨0x400F0060 + 0x1000 * inst, 31, 0⟩
def F.ETH_DROP_FULL_CNT_COUNT (inst : Nat) : Fld := ⟨0x400F0064 + 0x1000 * inst, 31, 0⟩
def F.ETH_PAUSE_RX_CNT_COUNT (inst : Nat) : Fld := ⟨0x400F0068 + 0x1000 * inst, 31, 0⟩
def F.ETH_PAUSE_TX_CNT_COUNT (inst : Nat) : Fld := ⟨0x400F006C + 0x1000 * inst, 31, 0⟩
def F.ETH_TX_DEFER_CNT_COUNT (inst : Nat) : Fld := ⟨0x400F0070 + 0x1000 * inst, 31, 0⟩
def F.ETH_ARP_MISS_CNT_COUNT (inst : Nat) : Fld := ⟨0x400F0074 + 0x1000 * inst, 31, 0⟩
def F.ETH_ARP_RX_CNT_COUNT (inst : Nat) : Fld := ⟨0x400F0078 + 0x1000 * inst, 31, 0⟩
def F.ETH_ICMP_CNT_COUNT (inst : Nat) : Fld := ⟨0x400F007C + 0x1000 * inst, 31, 0⟩
def F.ETH_PTP_SYNC_CNT_COUNT (inst : Nat) : Fld := ⟨0x400F0080 + 0x1000 * inst, 31, 0⟩
def F.ETH_PTP_DRESP_CNT_COUNT (inst : Nat) : Fld := ⟨0x400F0084 + 0x1000 * inst, 31, 0⟩
def F.ETH_ARP_SEL_ENTRY (inst : Nat) : Fld := ⟨0x400F0088 + 0x1000 * inst, 3, 0⟩
def F.ETH_ARP_IP_ADDR (inst : Nat) : Fld := ⟨0x400F008C + 0x1000 * inst, 31, 0⟩
def F.ETH_ARP_MAC_LO_ADDR (inst : Nat) : Fld := ⟨0x400F0090 + 0x1000 * inst, 31, 0⟩
def F.ETH_ARP_MAC_HI_VALID (inst : Nat) : Fld := ⟨0x400F0094 + 0x1000 * inst, 31, 31⟩
def F.ETH_ARP_MAC_HI_ADDR (inst : Nat) : Fld := ⟨0x400F0094 + 0x1000 * inst, 15, 0⟩
def F.ETH_TXD_IP_ADDR (inst m : Nat) : Fld := ⟨0x400F0100 + 0x1000 * inst + 0x8 * m, 31, 0⟩
def F.ETH_TXD_PORT_EN (inst m : Nat) : Fld := ⟨0x400F0104 + 0x1000 * inst + 0x8 * m, 31, 31⟩
def F.ETH_TXD_PORT_SHADOW_TX (inst m : Nat) : Fld := ⟨0x400F0104 + 0x1000 * inst + 0x8 * m, 30, 30⟩
def F.ETH_TXD_PORT_DEST_PORT (inst m : Nat) : Fld := ⟨0x400F0104 + 0x1000 * inst + 0x8 * m, 15, 0⟩
def F.LDS_STATUS_BRAKE_RELEASED : Fld := ⟨0x40110000, 15, 15⟩
def F.LDS_STATUS_STREAMING : Fld := ⟨0x40110000, 14, 14⟩
def F.LDS_STATUS_RING_B_LOST : Fld := ⟨0x40110000, 13, 13⟩
def F.LDS_STATUS_RING_A_LOST : Fld := ⟨0x40110000, 12, 12⟩
def F.LDS_STATUS_F : Fld := ⟨0x40110000, 11, 10⟩
def F.LDS_STATUS_LEAD_ID : Fld := ⟨0x40110000, 9, 8⟩
def F.LDS_STATUS_HO_PENDING : Fld := ⟨0x40110000, 7, 7⟩
def F.LDS_STATUS_ISOLATED : Fld := ⟨0x40110000, 6, 6⟩
def F.LDS_STATUS_GRACE_OVER : Fld := ⟨0x40110000, 5, 5⟩
def F.LDS_STATUS_REDUNDANCY_LOST : Fld := ⟨0x40110000, 4, 4⟩
def F.LDS_STATUS_XDIS_OK : Fld := ⟨0x40110000, 3, 3⟩
def F.LDS_STATUS_ALIGNED : Fld := ⟨0x40110000, 2, 2⟩
def F.LDS_STATUS_READY : Fld := ⟨0x40110000, 1, 1⟩
def F.LDS_STATUS_LEAD_ROLE : Fld := ⟨0x40110000, 0, 0⟩
def F.LDS_CFG_RELEASE_CH : Fld := ⟨0x40110004, 31, 28⟩
def F.LDS_CFG_RELEASE_EN : Fld := ⟨0x40110004, 27, 27⟩
def F.LDS_CFG_DEGRADED_HO : Fld := ⟨0x40110004, 26, 26⟩
def F.LDS_CFG_SETTLE : Fld := ⟨0x40110004, 23, 16⟩
def F.LDS_CFG_HO_TIMEOUT : Fld := ⟨0x40110004, 15, 8⟩
def F.LDS_CFG_DEPOSE_N : Fld := ⟨0x40110004, 7, 4⟩
def F.LDS_CFG_MISMATCH_LIMIT : Fld := ⟨0x40110004, 3, 0⟩
def F.LDS_TIMING_LOSS_N : Fld := ⟨0x40110008, 23, 16⟩
def F.LDS_TIMING_XDIS_GRACE : Fld := ⟨0x40110008, 15, 8⟩
def F.LDS_TIMING_ALIGN_AGREE : Fld := ⟨0x40110008, 7, 0⟩
def F.LDS_GRACE_GRACE : Fld := ⟨0x4011000C, 25, 16⟩
def F.LDS_GRACE_ISOLATE_LIMP : Fld := ⟨0x4011000C, 15, 0⟩
def F.LDS_EVENT_SEEN : Fld := ⟨0x40110010, 10, 0⟩
def F.LDS_EVENT_MASK_MASK : Fld := ⟨0x40110014, 10, 0⟩
def F.LDS_TAP_0_TAP (j : Nat) : Fld := ⟨0x40110018, 8 * j + 7, 8 * j + 0⟩
def F.LDS_TAP_1_TAP (j : Nat) : Fld := ⟨0x4011001C, 8 * j + 7, 8 * j + 0⟩
def F.LDS_XDIS_WINDOW : Fld := ⟨0x40110020, 4, 4⟩
def F.LDS_XDIS_SEEN_HIGH : Fld := ⟨0x40110020, 3, 3⟩
def F.LDS_XDIS_SEEN_LOW : Fld := ⟨0x40110020, 2, 2⟩
def F.LDS_XDIS_OUT_LOW : Fld := ⟨0x40110020, 1, 1⟩
def F.LDS_XDIS_IN_LOW : Fld := ⟨0x40110020, 0, 0⟩
def F.LDS_LAST_HO_CAUSE : Fld := ⟨0x40110024, 31, 28⟩
def F.LDS_LAST_HO_FROM : Fld := ⟨0x40110024, 27, 26⟩
def F.LDS_LAST_HO_TO : Fld := ⟨0x40110024, 25, 24⟩
def F.LDS_LAST_HO_GAP : Fld := ⟨0x40110024, 15, 0⟩
def F.LDS_INTAKE_W : Fld := ⟨0x40110028, 26, 16⟩
def F.LDS_INTAKE_N1 : Fld := ⟨0x40110028, 8, 0⟩
def F.LDS_ALIGN_PROGRESS : Fld := ⟨0x4011002C, 30, 24⟩
def F.LDS_ALIGN_CARRIED : Fld := ⟨0x4011002C, 23, 0⟩
def F.LDS_SAMPLE_S : Fld := ⟨0x40110030, 31, 0⟩
def F.LDS_DIGEST_OWN_DIGEST : Fld := ⟨0x40110034, 31, 0⟩
def F.LDS_DIGEST_LEAD_DIGEST : Fld := ⟨0x40110038, 31, 0⟩
def F.LDS_DIGEST_CYCLE_S : Fld := ⟨0x4011003C, 31, 0⟩
def F.LDS_PEER_CFG_PRESENT (i : Nat) : Fld := ⟨0x40110040 + 0x10 * i, 31, 31⟩
def F.LDS_PEER_CFG_NODE_ID (i : Nat) : Fld := ⟨0x40110040 + 0x10 * i, 4, 0⟩
def F.LDS_PEER_STAT_HEARD (i : Nat) : Fld := ⟨0x40110044 + 0x10 * i, 31, 31⟩
def F.LDS_PEER_STAT_HEARD_A (i : Nat) : Fld := ⟨0x40110044 + 0x10 * i, 30, 30⟩
def F.LDS_PEER_STAT_HEARD_B (i : Nat) : Fld := ⟨0x40110044 + 0x10 * i, 29, 29⟩
def F.LDS_PEER_STAT_FLAGS (i : Nat) : Fld := ⟨0x40110044 + 0x10 * i, 23, 16⟩
def F.LDS_PEER_STAT_MODE (i : Nat) : Fld := ⟨0x40110044 + 0x10 * i, 15, 8⟩
def F.LDS_PEER_STAT_ROLE (i : Nat) : Fld := ⟨0x40110044 + 0x10 * i, 1, 0⟩
def F.LDS_PEER_DIGEST_VALUE (i : Nat) : Fld := ⟨0x40110048 + 0x10 * i, 31, 0⟩
def F.LDS_PEER_DCYCLE_VALUE (i : Nat) : Fld := ⟨0x4011004C + 0x10 * i, 31, 0⟩
def F.LDS_SCHED_VALID (k : Nat) : Fld := ⟨0x40110080 + 0x4 * k, 31, 31⟩
def F.LDS_SCHED_CH_SLOT (k : Nat) : Fld := ⟨0x40110080 + 0x4 * k, 29, 24⟩
def F.LDS_SCHED_SLOTS (k : Nat) : Fld := ⟨0x40110080 + 0x4 * k, 23, 20⟩
def F.LDS_SCHED_E (k : Nat) : Fld := ⟨0x40110080 + 0x4 * k, 15, 0⟩
def F.LDS_HO_LOG_CAUSE (k : Nat) : Fld := ⟨0x401100A0 + 0x4 * k, 31, 28⟩
def F.LDS_HO_LOG_FROM (k : Nat) : Fld := ⟨0x401100A0 + 0x4 * k, 27, 26⟩
def F.LDS_HO_LOG_TO (k : Nat) : Fld := ⟨0x401100A0 + 0x4 * k, 25, 24⟩
def F.LDS_HO_LOG_CYCLE (k : Nat) : Fld := ⟨0x401100A0 + 0x4 * k, 23, 0⟩
def F.LDS_HO_CMD_CNT_COUNT : Fld := ⟨0x401100C0, 31, 0⟩
def F.LDS_HO_SILENT_CNT_COUNT : Fld := ⟨0x401100C4, 31, 0⟩
def F.LDS_HO_DEPOSE_CNT_COUNT : Fld := ⟨0x401100C8, 31, 0⟩
def F.LDS_HO_FAIL_CNT_COUNT : Fld := ⟨0x401100CC, 31, 0⟩
def F.LDS_MISMATCH_CNT_COUNT : Fld := ⟨0x401100D0, 31, 0⟩
def F.LDS_VOTE_CNT_COUNT : Fld := ⟨0x401100D4, 31, 0⟩
def F.LDS_INTAKE_LOST_CNT_COUNT : Fld := ⟨0x401100D8, 31, 0⟩
def F.LDS_SKIP_CNT_COUNT : Fld := ⟨0x401100DC, 31, 0⟩
def F.LDS_ALIGN_CNT_COUNT : Fld := ⟨0x401100E0, 31, 0⟩
def F.LDS_STREAM_FIX_CNT_COUNT : Fld := ⟨0x401100E4, 31, 0⟩
def F.LDS_CHFRAME_LOST_CNT_COUNT : Fld := ⟨0x401100E8, 31, 0⟩
def F.LDS_XDIS_TEST_CNT_COUNT : Fld := ⟨0x401100EC, 31, 0⟩
def F.LDS_CONFLICT_CNT_COUNT : Fld := ⟨0x401100F0, 31, 0⟩
def F.LDS_ISOLATE_CNT_COUNT : Fld := ⟨0x401100F4, 31, 0⟩
def F.LDS_RING_LOST_CNT_COUNT : Fld := ⟨0x401100F8, 31, 0⟩
def F.LDS_F_RISE_CNT_COUNT : Fld := ⟨0x401100FC, 31, 0⟩
def F.SAF_STATUS_SAFE_DATA_OK : Fld := ⟨0x40100000, 11, 11⟩
def F.SAF_STATUS_PULSE_BLANK : Fld := ⟨0x40100000, 10, 10⟩
def F.SAF_STATUS_SDI_ACT : Fld := ⟨0x40100000, 9, 9⟩
def F.SAF_STATUS_SLP_ACT : Fld := ⟨0x40100000, 8, 8⟩
def F.SAF_STATUS_SLS_IMPLAUS : Fld := ⟨0x40100000, 7, 7⟩
def F.SAF_STATUS_SLS_OVER : Fld := ⟨0x40100000, 6, 6⟩
def F.SAF_STATUS_STANDSTILL : Fld := ⟨0x40100000, 5, 5⟩
def F.SAF_STATUS_GRACE_OVER : Fld := ⟨0x40100000, 4, 4⟩
def F.SAF_STATUS_MODE : Fld := ⟨0x40100000, 3, 0⟩
def F.SAF_CFG_STILL_N : Fld := ⟨0x40100004, 15, 8⟩
def F.SAF_CFG_ENFORCE : Fld := ⟨0x40100004, 0, 0⟩
def F.SAF_EVENT_SEEN : Fld := ⟨0x40100008, 8, 0⟩
def F.SAF_EVENT_MASK_MASK : Fld := ⟨0x4010000C, 8, 0⟩
def F.SAF_PULSE_CFG_STAGGER : Fld := ⟨0x40100010, 0, 0⟩
def F.SAF_SLS_STAT_LIMIT : Fld := ⟨0x40100014, 31, 16⟩
def F.SAF_SLS_STAT_SPEED : Fld := ⟨0x40100014, 15, 0⟩
def F.SAF_SLP_STAT_LIMIT : Fld := ⟨0x40100018, 31, 16⟩
def F.SAF_SLP_STAT_ANGLE : Fld := ⟨0x40100018, 15, 0⟩
def F.SAF_SDI_STAT_RUN : Fld := ⟨0x4010001C, 15, 8⟩
def F.SAF_SDI_STAT_VERDICT : Fld := ⟨0x4010001C, 1, 0⟩
def F.SAF_LIMP_STAT_FLAG : Fld := ⟨0x40100020, 1, 0⟩
def F.SAF_STILL_MS : Fld := ⟨0x40100024, 15, 0⟩
def F.SAF_REACT_LAST_US : Fld := ⟨0x40100028, 15, 0⟩
def F.SAF_REACT_MAX_US : Fld := ⟨0x4010002C, 15, 0⟩
def F.SAF_LAST_RAISE_SHADOW : Fld := ⟨0x40100030, 8, 8⟩
def F.SAF_LAST_RAISE_SOURCE : Fld := ⟨0x40100030, 7, 0⟩
def F.SAF_INST_SLS_VALID : Fld := ⟨0x40100034, 31, 31⟩
def F.SAF_INST_SLS_INSTANCE : Fld := ⟨0x40100034, 12, 0⟩
def F.SAF_INST_SLP_VALID : Fld := ⟨0x40100038, 31, 31⟩
def F.SAF_INST_SLP_INSTANCE : Fld := ⟨0x40100038, 12, 0⟩
def F.SAF_INST_SDI_VALID : Fld := ⟨0x4010003C, 31, 31⟩
def F.SAF_INST_SDI_INSTANCE : Fld := ⟨0x4010003C, 12, 0⟩
def F.SAF_PULSE_NEXT_C : Fld := ⟨0x40100040, 31, 0⟩
def F.SAF_RX_VALID_VALID : Fld := ⟨0x40100044, 5, 0⟩
def F.SAF_RX_CFG_EN (r : Nat) : Fld := ⟨0x40100080 + 0x20 * r, 31, 31⟩
def F.SAF_RX_CFG_SLOT (r : Nat) : Fld := ⟨0x40100080 + 0x20 * r, 29, 24⟩
def F.SAF_RX_CFG_SRC (r : Nat) : Fld := ⟨0x40100080 + 0x20 * r, 20, 16⟩
def F.SAF_RX_CFG_WORD_OFS (r : Nat) : Fld := ⟨0x40100080 + 0x20 * r, 4, 0⟩
def F.SAF_RX_STAT_SEQ_REF (r : Nat) : Fld := ⟨0x40100084 + 0x20 * r, 31, 16⟩
def F.SAF_RX_STAT_AGE_CNT (r : Nat) : Fld := ⟨0x40100084 + 0x20 * r, 15, 8⟩
def F.SAF_RX_STAT_REF_VALID (r : Nat) : Fld := ⟨0x40100084 + 0x20 * r, 7, 7⟩
def F.SAF_RX_STAT_VERDICT (r : Nat) : Fld := ⟨0x40100084 + 0x20 * r, 2, 0⟩
def F.SAF_RX_BOTH_CNT_COUNT (r : Nat) : Fld := ⟨0x40100088 + 0x20 * r, 31, 0⟩
def F.SAF_RX_ONE_CNT_COUNT (r : Nat) : Fld := ⟨0x4010008C + 0x20 * r, 31, 0⟩
def F.SAF_RX_BAD_CNT_COUNT (r : Nat) : Fld := ⟨0x40100090 + 0x20 * r, 31, 0⟩
def F.SAF_RX_LAST_C (r : Nat) : Fld := ⟨0x40100094 + 0x20 * r, 31, 0⟩
def F.SAF_TX_VALID (t : Nat) : Fld := ⟨0x40100180 + 0x4 * t, 31, 31⟩
def F.SAF_TX_SLOT (t : Nat) : Fld := ⟨0x40100180 + 0x4 * t, 29, 24⟩
def F.SAF_TX_SEQ (t : Nat) : Fld := ⟨0x40100180 + 0x4 * t, 15, 0⟩
def F.SAF_SLS_LIMIT_CNT_COUNT : Fld := ⟨0x401001C0, 31, 0⟩
def F.SAF_SLS_OVER_CNT_COUNT : Fld := ⟨0x401001C4, 31, 0⟩
def F.SAF_SLS_PLAUS_CNT_COUNT : Fld := ⟨0x401001C8, 31, 0⟩
def F.SAF_SLP_CLAMP_CNT_COUNT : Fld := ⟨0x401001CC, 31, 0⟩
def F.SAF_SLP_OVER_CNT_COUNT : Fld := ⟨0x401001D0, 31, 0⟩
def F.SAF_SLP_APPROACH_CNT_COUNT : Fld := ⟨0x401001D4, 31, 0⟩
def F.SAF_SDI_TRAVEL_CNT_COUNT : Fld := ⟨0x401001D8, 31, 0⟩
def F.SAF_SDI_STEER_CNT_COUNT : Fld := ⟨0x401001DC, 31, 0⟩
def F.SAF_LIMP_CLAMP_CNT_COUNT : Fld := ⟨0x401001E0, 31, 0⟩
def F.SAF_PULSE_CNT_COUNT : Fld := ⟨0x401001E4, 31, 0⟩
def F.SAF_PULSE_SHORT_CNT_COUNT : Fld := ⟨0x401001E8, 31, 0⟩
def F.SAF_PULSE_NODROP_CNT_COUNT : Fld := ⟨0x401001EC, 31, 0⟩
def F.SAF_RX_DIFF_CNT_COUNT : Fld := ⟨0x401001F0, 31, 0⟩
def F.SAF_RX_SCRC_CNT_COUNT : Fld := ⟨0x401001F4, 31, 0⟩
def F.SAF_RX_SEQ_CNT_COUNT : Fld := ⟨0x401001F8, 31, 0⟩
def F.SAF_REACT_OVERRUN_CNT_COUNT : Fld := ⟨0x401001FC, 31, 0⟩
def F.SAF_PULSE_STAT_MIN_A (s : Nat) : Fld := ⟨0x40100200 + 0x4 * s, 29, 16⟩
def F.SAF_PULSE_STAT_LOW_REACHED (s : Nat) : Fld := ⟨0x40100200 + 0x4 * s, 3, 3⟩
def F.SAF_PULSE_STAT_VERDICT (s : Nat) : Fld := ⟨0x40100200 + 0x4 * s, 2, 0⟩
def F.SAF_DEMAND_LOG_SOURCE (k : Nat) : Fld := ⟨0x40100220 + 0x4 * k, 31, 24⟩
def F.SAF_DEMAND_LOG_C (k : Nat) : Fld := ⟨0x40100220 + 0x4 * k, 23, 0⟩
def F.FLT_STATUS_ACTIVE_COUNT : Fld := ⟨0x40030000, 24, 16⟩
def F.FLT_STATUS_FORCE_RUNNING : Fld := ⟨0x40030000, 1, 1⟩
def F.FLT_STATUS_FORCED_SEEN : Fld := ⟨0x40030000, 0, 0⟩
def F.FLT_CFG_CMP_TIMEOUT : Fld := ⟨0x40030004, 23, 16⟩
def F.FLT_CFG_RETRY_LIMIT : Fld := ⟨0x40030004, 15, 8⟩
def F.FLT_CFG_FORCE_LEN : Fld := ⟨0x40030004, 4, 0⟩
def F.FLT_EVENT_SEEN : Fld := ⟨0x40030008, 5, 0⟩
def F.FLT_EVENT_MASK_MASK : Fld := ⟨0x4003000C, 5, 0⟩
def F.FLT_LAST_TICK : Fld := ⟨0x40030010, 31, 16⟩
def F.FLT_LAST_CLASS : Fld := ⟨0x40030010, 9, 8⟩
def F.FLT_LAST_SOURCE : Fld := ⟨0x40030010, 7, 0⟩
def F.FLT_FIRST_FATAL_VALID : Fld := ⟨0x40030014, 31, 31⟩
def F.FLT_FIRST_FATAL_SOURCE : Fld := ⟨0x40030014, 7, 0⟩
def F.FLT_REACT_SOURCE : Fld := ⟨0x40030018, 15, 8⟩
def F.FLT_REACT_FREEZE : Fld := ⟨0x40030018, 4, 4⟩
def F.FLT_REACT_ACTION : Fld := ⟨0x40030018, 3, 0⟩
def F.FLT_CFG_SUM_FATAL : Fld := ⟨0x4003001C, 26, 18⟩
def F.FLT_CFG_SUM_CONTAINED : Fld := ⟨0x4003001C, 17, 9⟩
def F.FLT_CFG_SUM_CORRECTED : Fld := ⟨0x4003001C, 8, 0⟩
def F.FLT_CORRECTED_CNT_COUNT : Fld := ⟨0x40030020, 31, 0⟩
def F.FLT_CONTAINED_CNT_COUNT : Fld := ⟨0x40030024, 31, 0⟩
def F.FLT_FATAL_CNT_COUNT : Fld := ⟨0x40030028, 31, 0⟩
def F.FLT_TRANSIENT_CNT_COUNT : Fld := ⟨0x4003002C, 31, 0⟩
def F.FLT_LASTING_CNT_COUNT : Fld := ⟨0x40030030, 31, 0⟩
def F.FLT_WIRE_CNT_COUNT : Fld := ⟨0x40030034, 31, 0⟩
def F.FLT_CLEAR_CNT_COUNT : Fld := ⟨0x40030038, 31, 0⟩
def F.FLT_FORCE_CNT_COUNT : Fld := ⟨0x4003003C, 31, 0⟩
def F.FLT_VERIFY_CNT_COUNT : Fld := ⟨0x40030040, 31, 0⟩
def F.FLT_VERIFY_RETRY_CNT_COUNT : Fld := ⟨0x40030044, 31, 0⟩
def F.FLT_SPARE_CNT_COUNT : Fld := ⟨0x40030048, 31, 0⟩
def F.FLT_LANE_CNT_COUNT : Fld := ⟨0x4003004C, 31, 0⟩
def F.FLT_STICKY_STICKY (w : Nat) : Fld := ⟨0x40030080 + 0x4 * w, 31, 0⟩
def F.FLT_ACTIVE_ACTIVE (w : Nat) : Fld := ⟨0x400300A0 + 0x4 * w, 31, 0⟩
def F.FLT_FORCE_FORCE (w : Nat) : Fld := ⟨0x400300C0 + 0x4 * w, 31, 0⟩
def F.FLT_SRC_CLEAR_WAIT (n : Nat) : Fld := ⟨0x40030400 + 0x4 * n, 31, 16⟩
def F.FLT_SRC_REACTION (n : Nat) : Fld := ⟨0x40030400 + 0x4 * n, 15, 8⟩
def F.FLT_SRC_ACTIVE (n : Nat) : Fld := ⟨0x40030400 + 0x4 * n, 7, 7⟩
def F.FLT_SRC_TRIES (n : Nat) : Fld := ⟨0x40030400 + 0x4 * n, 5, 4⟩
def F.FLT_SRC_HELD (n : Nat) : Fld := ⟨0x40030400 + 0x4 * n, 3, 3⟩
def F.FLT_SRC_CLASS (n : Nat) : Fld := ⟨0x40030400 + 0x4 * n, 1, 0⟩
def F.CMP_STAT_DUP (k : Nat) : Fld := ⟨0x40040000 + 0x10 * k, 31, 31⟩
def F.CMP_STAT_RETIRED (k : Nat) : Fld := ⟨0x40040000 + 0x10 * k, 30, 30⟩
def F.CMP_STAT_TESTED (k : Nat) : Fld := ⟨0x40040000 + 0x10 * k, 29, 29⟩
def F.CMP_STAT_PEAK (k : Nat) : Fld := ⟨0x40040000 + 0x10 * k, 24, 16⟩
def F.CMP_STAT_DEPTH (k : Nat) : Fld := ⟨0x40040000 + 0x10 * k, 8, 0⟩
def F.CMP_MISMATCH_CNT_COUNT (k : Nat) : Fld := ⟨0x40040004 + 0x10 * k, 31, 0⟩
def F.CMP_TRANSIENT_CNT_COUNT (k : Nat) : Fld := ⟨0x40040008 + 0x10 * k, 31, 0⟩
def F.CMP_TEST_PASS (k : Nat) : Fld := ⟨0x4004000C + 0x10 * k, 31, 31⟩
def F.CMP_TEST_MISSED (k : Nat) : Fld := ⟨0x4004000C + 0x10 * k, 25, 16⟩
def F.CMP_TEST_INJECTED (k : Nat) : Fld := ⟨0x4004000C + 0x10 * k, 15, 0⟩
def F.PWR_STATUS_WAKE_RTC : Fld := ⟨0x40010000, 25, 25⟩
def F.PWR_STATUS_SD_PENDING : Fld := ⟨0x40010000, 24, 24⟩
def F.PWR_STATUS_DOM_ON : Fld := ⟨0x40010000, 21, 0⟩
def F.PWR_CFG_HOLD : Fld := ⟨0x40010004, 15, 8⟩
def F.PWR_CFG_SD_EN : Fld := ⟨0x40010004, 3, 3⟩
def F.PWR_CFG_SD_CHANNEL : Fld := ⟨0x40010004, 2, 0⟩
def F.PWR_EVENT_SEEN : Fld := ⟨0x40010008, 7, 0⟩
def F.PWR_EVENT_MASK_MASK : Fld := ⟨0x4001000C, 7, 0⟩
def F.PWR_ALARM_WAKE_WAIT : Fld := ⟨0x40010010, 31, 24⟩
def F.PWR_ALARM_PERIOD : Fld := ⟨0x40010010, 23, 0⟩
def F.PWR_MON_CFG_VSUP_OV : Fld := ⟨0x40010014, 31, 24⟩
def F.PWR_MON_CFG_VSUP_UV : Fld := ⟨0x40010014, 23, 16⟩
def F.PWR_TEMP_CFG_HYST : Fld := ⟨0x40010018, 15, 8⟩
def F.PWR_TEMP_CFG_LIMIT : Fld := ⟨0x40010018, 7, 0⟩
def F.PWR_SUPPLY_VSUP : Fld := ⟨0x4001001C, 31, 16⟩
def F.PWR_SUPPLY_VIO : Fld := ⟨0x4001001C, 15, 0⟩
def F.PWR_CORE_CORE_S : Fld := ⟨0x40010020, 31, 16⟩
def F.PWR_CORE_CORE_N : Fld := ⟨0x40010020, 15, 0⟩
def F.PWR_TEMP_POWER : Fld := ⟨0x40010024, 23, 16⟩
def F.PWR_TEMP_SOUTH : Fld := ⟨0x40010024, 15, 8⟩
def F.PWR_TEMP_NORTH : Fld := ⟨0x40010024, 7, 0⟩
def F.PWR_VBAT_VBAT : Fld := ⟨0x40010028, 11, 0⟩
def F.PWR_SLEPT_LO_DELTA : Fld := ⟨0x4001002C, 31, 0⟩
def F.PWR_SLEPT_HI_DELTA : Fld := ⟨0x40010030, 15, 0⟩
def F.PWR_SLEPT_UNC_MS : Fld := ⟨0x40010034, 31, 0⟩
def F.PWR_LAST_REFUSAL_DOMAIN : Fld := ⟨0x40010038, 28, 24⟩
def F.PWR_LAST_REFUSAL_ID : Fld := ⟨0x40010038, 23, 16⟩
def F.PWR_LAST_REFUSAL_ABORT : Fld := ⟨0x40010038, 0, 0⟩
def F.PWR_WAKE_STAT_ELAPSED_RC : Fld := ⟨0x4001003C, 2, 2⟩
def F.PWR_WAKE_STAT_SLEPT_VALID : Fld := ⟨0x4001003C, 1, 1⟩
def F.PWR_WAKE_STAT_RTC_WAKE : Fld := ⟨0x4001003C, 0, 0⟩
def F.PWR_VSUP_UV_CNT_COUNT : Fld := ⟨0x40010040, 31, 0⟩
def F.PWR_VSUP_OV_CNT_COUNT : Fld := ⟨0x40010044, 31, 0⟩
def F.PWR_VIO_CNT_COUNT : Fld := ⟨0x40010048, 31, 0⟩
def F.PWR_VGD_CNT_COUNT : Fld := ⟨0x4001004C, 31, 0⟩
def F.PWR_TEMP_CNT_COUNT : Fld := ⟨0x40010050, 31, 0⟩
def F.PWR_TIMEOUT_CNT_COUNT : Fld := ⟨0x40010054, 31, 0⟩
def F.PWR_SD_ABORT_CNT_COUNT : Fld := ⟨0x40010058, 31, 0⟩
def F.PWR_DORMANT_CNT_COUNT : Fld := ⟨0x4001005C, 31, 0⟩
def F.PWR_WAKE_CNT_COUNT : Fld := ⟨0x40010060, 31, 0⟩
def F.PWR_WAKE_FAIL_CNT_COUNT : Fld := ⟨0x40010064, 31, 0⟩
def F.PWR_DOM_CFG_TIMEOUT (d : Nat) : Fld := ⟨0x40010100 + 0x20 * d, 25, 16⟩
def F.PWR_DOM_CFG_LOW_STATE (d : Nat) : Fld := ⟨0x40010100 + 0x20 * d, 1, 0⟩
def F.PWR_DOM_VOTE_SVC_VOTE (d : Nat) : Fld := ⟨0x40010104 + 0x20 * d, 16, 16⟩
def F.PWR_DOM_VOTE_VOTES (d : Nat) : Fld := ⟨0x40010104 + 0x20 * d, 7, 0⟩
def F.PWR_DOM_STAT_STEP (d : Nat) : Fld := ⟨0x40010108 + 0x20 * d, 3, 2⟩
def F.PWR_DOM_STAT_STATE (d : Nat) : Fld := ⟨0x40010108 + 0x20 * d, 1, 0⟩
def F.PWR_DOM_REFUSE_LAST_ID (d : Nat) : Fld := ⟨0x4001010C + 0x20 * d, 23, 16⟩
def F.PWR_DOM_REFUSE_COUNT (d : Nat) : Fld := ⟨0x4001010C + 0x20 * d, 15, 0⟩
def F.PWR_DOM_ABORT_LAST_ID (d : Nat) : Fld := ⟨0x40010110 + 0x20 * d, 23, 16⟩
def F.PWR_DOM_ABORT_COUNT (d : Nat) : Fld := ⟨0x40010110 + 0x20 * d, 15, 0⟩
def F.PWR_DOM_ENTRY_CNT_COUNT (d : Nat) : Fld := ⟨0x40010114 + 0x20 * d, 31, 0⟩
def F.CLK_STATUS_PPS_LOST : Fld := ⟨0x40020000, 7, 7⟩
def F.CLK_STATUS_RC_RTC : Fld := ⟨0x40020000, 6, 6⟩
def F.CLK_STATUS_PLL_S_LOCK : Fld := ⟨0x40020000, 5, 5⟩
def F.CLK_STATUS_PLL_N_LOCK : Fld := ⟨0x40020000, 4, 4⟩
def F.CLK_STATUS_XT25_OK : Fld := ⟨0x40020000, 3, 3⟩
def F.CLK_STATUS_XT32_OK : Fld := ⟨0x40020000, 2, 2⟩
def F.CLK_STATUS_MON_S_OK : Fld := ⟨0x40020000, 1, 1⟩
def F.CLK_STATUS_MON_N_OK : Fld := ⟨0x40020000, 0, 0⟩
def F.CLK_CFG_MON_TOL : Fld := ⟨0x40020004, 7, 0⟩
def F.CLK_EVENT_SEEN : Fld := ⟨0x40020008, 5, 0⟩
def F.CLK_EVENT_MASK_MASK : Fld := ⟨0x4002000C, 5, 0⟩
def F.CLK_XT25_COUNT : Fld := ⟨0x40020010, 15, 0⟩
def F.CLK_XT32_DEV : Fld := ⟨0x40020014, 15, 0⟩
def F.CLK_DRIFT_DEV : Fld := ⟨0x40020018, 31, 0⟩
def F.CLK_PLL_N_LOCK_TIME : Fld := ⟨0x4002001C, 15, 8⟩
def F.CLK_PLL_N_LOCK : Fld := ⟨0x4002001C, 0, 0⟩
def F.CLK_PLL_S_LOCK_TIME : Fld := ⟨0x40020020, 15, 8⟩
def F.CLK_PLL_S_LOCK : Fld := ⟨0x40020020, 0, 0⟩
def F.CLK_MON_N_COUNT : Fld := ⟨0x40020024, 15, 0⟩
def F.CLK_MON_S_COUNT : Fld := ⟨0x40020028, 15, 0⟩
def F.CLK_HOB_STEP_S : Fld := ⟨0x4002002C, 6, 4⟩
def F.CLK_HOB_STEP_N : Fld := ⟨0x4002002C, 2, 0⟩
def F.CLK_RTC_LO_RTC : Fld := ⟨0x40020030, 31, 0⟩
def F.CLK_RTC_HI_RTC : Fld := ⟨0x40020034, 15, 0⟩
def F.CLK_RTC_STAT_RC : Fld := ⟨0x40020038, 1, 1⟩
def F.CLK_RTC_STAT_VALID : Fld := ⟨0x40020038, 0, 0⟩
def F.CLK_ALARM_LO_ALARM : Fld := ⟨0x4002003C, 31, 0⟩
def F.CLK_ALARM_HI_ARMED : Fld := ⟨0x40020040, 16, 16⟩
def F.CLK_ALARM_HI_ALARM : Fld := ⟨0x40020040, 15, 0⟩
def F.CLK_PPS_LOST : Fld := ⟨0x40020044, 31, 31⟩
def F.CLK_PPS_ALIGNED : Fld := ⟨0x40020044, 30, 30⟩
def F.CLK_PPS_LAST_E : Fld := ⟨0x40020048, 31, 0⟩
def F.CLK_RC_TRIM_TRIM : Fld := ⟨0x4002004C, 7, 0⟩
def F.CLK_PLL_N_LOSS_CNT_COUNT : Fld := ⟨0x40020060, 31, 0⟩
def F.CLK_PLL_S_LOSS_CNT_COUNT : Fld := ⟨0x40020064, 31, 0⟩
def F.CLK_XT25_FAIL_CNT_COUNT : Fld := ⟨0x40020068, 31, 0⟩
def F.CLK_XT32_FAIL_CNT_COUNT : Fld := ⟨0x4002006C, 31, 0⟩
def F.CLK_PPS_EDGE_CNT_COUNT : Fld := ⟨0x40020070, 31, 0⟩
def F.CLK_PPS_ALIGN_CNT_COUNT : Fld := ⟨0x40020074, 31, 0⟩
def F.CLK_PPS_LOST_CNT_COUNT : Fld := ⟨0x40020078, 31, 0⟩
def F.CLK_STEP_CNT_COUNT : Fld := ⟨0x4002007C, 31, 0⟩
def F.CLK_OUT_STAT_RUNNING (i : Nat) : Fld := ⟨0x40020100 + 0x8 * i, 31, 31⟩
def F.CLK_OUT_STAT_NOMINAL (i : Nat) : Fld := ⟨0x40020100 + 0x8 * i, 23, 0⟩
def F.CLK_OUT_MEAS_KHZ (i : Nat) : Fld := ⟨0x40020104 + 0x8 * i, 23, 0⟩
def F.ASH_STATUS_FOREIGN : Fld := ⟨0x40120000, 7, 7⟩
def F.ASH_STATUS_READ_ONLY : Fld := ⟨0x40120000, 6, 6⟩
def F.ASH_STATUS_RESERVE_ONLY : Fld := ⟨0x40120000, 5, 5⟩
def F.ASH_STATUS_HOLDUP_OK : Fld := ⟨0x40120000, 4, 4⟩
def F.ASH_STATUS_PF_ACTIVE : Fld := ⟨0x40120000, 3, 3⟩
def F.ASH_STATUS_COMMITTING : Fld := ⟨0x40120000, 2, 2⟩
def F.ASH_STATUS_STOPPED : Fld := ⟨0x40120000, 1, 1⟩
def F.ASH_STATUS_PRESENT : Fld := ⟨0x40120000, 0, 0⟩
def F.ASH_EVENT_SEEN : Fld := ⟨0x40120004, 5, 0⟩
def F.ASH_EVENT_MASK_MASK : Fld := ⟨0x40120008, 5, 0⟩
def F.ASH_SIZE_BYTES : Fld := ⟨0x4012000C, 31, 0⟩
def F.ASH_TAIL_ADDR : Fld := ⟨0x40120010, 31, 0⟩
def F.ASH_SEQ_SEQ : Fld := ⟨0x40120014, 31, 0⟩
def F.ASH_FREE_BYTES : Fld := ⟨0x40120018, 31, 0⟩
def F.ASH_PENDING_TYPE : Fld := ⟨0x4012001C, 31, 24⟩
def F.ASH_PENDING_REMAIN : Fld := ⟨0x4012001C, 23, 0⟩
def F.ASH_HOLDUP_C_UF : Fld := ⟨0x40120020, 15, 0⟩
def F.ASH_HOLDUP_E_UJ : Fld := ⟨0x40120024, 31, 0⟩
def F.ASH_HOLDUP_REQ_UJ : Fld := ⟨0x40120028, 31, 0⟩
def F.ASH_HOLDUP_V_VNOW : Fld := ⟨0x4012002C, 31, 16⟩
def F.ASH_HOLDUP_V_VLOAD : Fld := ⟨0x4012002C, 15, 0⟩
def F.ASH_LAST_WINDOW_ADDR : Fld := ⟨0x40120030, 31, 0⟩
def F.ASH_LAST_WINDOW_SEQ_SEQ : Fld := ⟨0x40120034, 31, 0⟩
def F.ASH_UID_LO_UID : Fld := ⟨0x40120038, 31, 0⟩
def F.ASH_UID_HI_UID : Fld := ⟨0x4012003C, 31, 0⟩
def F.ASH_JEDEC_JEDEC : Fld := ⟨0x40120040, 23, 0⟩
def F.ASH_COMMIT_TIME_US : Fld := ⟨0x40120044, 15, 0⟩
def F.ASH_TAIL_SLOT_SLOT : Fld := ⟨0x40120048, 7, 0⟩
def F.ASH_RECORD_CNT_COUNT : Fld := ⟨0x40120060, 31, 0⟩
def F.ASH_WINDOW_CNT_COUNT : Fld := ⟨0x40120064, 31, 0⟩
def F.ASH_PF_CNT_COUNT : Fld := ⟨0x40120068, 31, 0⟩
def F.ASH_TORN_CNT_COUNT : Fld := ⟨0x4012006C, 31, 0⟩
def F.ASH_RETRY_CNT_COUNT : Fld := ⟨0x40120070, 31, 0⟩
def F.ASH_DROP_CNT_COUNT : Fld := ⟨0x40120074, 31, 0⟩
def F.ASH_READ_CNT_COUNT : Fld := ⟨0x40120078, 31, 0⟩
def F.ASH_MERGED_CNT_COUNT : Fld := ⟨0x4012007C, 31, 0⟩
def F.ASH_TYPE_CNT_COUNT (t : Nat) : Fld := ⟨0x40120080 + 0x4 * t, 31, 0⟩
def F.ASH_HIST_TYPE (k : Nat) : Fld := ⟨0x401200A0 + 0x4 * k, 31, 24⟩
def F.ASH_HIST_ADDR (k : Nat) : Fld := ⟨0x401200A0 + 0x4 * k, 23, 0⟩
def F.JRN_STATUS_REPLAYING : Fld := ⟨0x40130000, 3, 3⟩
def F.JRN_STATUS_COMMIT_WAIT : Fld := ⟨0x40130000, 2, 2⟩
def F.JRN_STATUS_FROZEN : Fld := ⟨0x40130000, 1, 1⟩
def F.JRN_STATUS_RECORDING : Fld := ⟨0x40130000, 0, 0⟩
def F.JRN_CFG_POST : Fld := ⟨0x40130004, 31, 24⟩
def F.JRN_CFG_MODE_TRIG : Fld := ⟨0x40130004, 23, 12⟩
def F.JRN_CFG_HO_TRIG : Fld := ⟨0x40130004, 1, 1⟩
def F.JRN_CFG_EN : Fld := ⟨0x40130004, 0, 0⟩
def F.JRN_EVENT_SEEN : Fld := ⟨0x40130008, 6, 0⟩
def F.JRN_EVENT_MASK_MASK : Fld := ⟨0x4013000C, 6, 0⟩
def F.JRN_ENTRY_V : Fld := ⟨0x40130010, 31, 16⟩
def F.JRN_ENTRY_P_E : Fld := ⟨0x40130010, 15, 0⟩
def F.JRN_CKPT_K : Fld := ⟨0x40130014, 31, 16⟩
def F.JRN_CKPT_P_C : Fld := ⟨0x40130014, 15, 0⟩
def F.JRN_DEPTH_N_B : Fld := ⟨0x40130018, 31, 24⟩
def F.JRN_DEPTH_WINDOW : Fld := ⟨0x40130018, 15, 0⟩
def F.JRN_HEAD_OFFSET : Fld := ⟨0x4013001C, 19, 0⟩
def F.JRN_OLDEST_S : Fld := ⟨0x40130020, 31, 0⟩
def F.JRN_NEWEST_S : Fld := ⟨0x40130024, 31, 0⟩
def F.JRN_FREEZE_STAT_SOURCE : Fld := ⟨0x40130028, 15, 8⟩
def F.JRN_FREEZE_STAT_KIND : Fld := ⟨0x40130028, 3, 0⟩
def F.JRN_TRIG_CYCLE_C : Fld := ⟨0x4013002C, 31, 0⟩
def F.JRN_REPLAY_SEL_SEQ : Fld := ⟨0x40130030, 31, 0⟩
def F.JRN_REPLAY_CMD_KEY : Fld := ⟨0x40130034, 15, 0⟩
def F.JRN_REPLAY_STAT_INCONCL : Fld := ⟨0x40130038, 31, 16⟩
def F.JRN_REPLAY_STAT_RESULT : Fld := ⟨0x40130038, 3, 0⟩
def F.JRN_REPLAY_CYCLE_S : Fld := ⟨0x4013003C, 31, 0⟩
def F.JRN_REPLAY_FIRST_S : Fld := ⟨0x40130040, 31, 0⟩
def F.JRN_REPLAY_LEN_COUNT : Fld := ⟨0x40130044, 31, 0⟩
def F.JRN_REPLAY_OWN_DIGEST : Fld := ⟨0x40130048, 31, 0⟩
def F.JRN_REPLAY_REC_DIGEST : Fld := ⟨0x4013004C, 31, 0⟩
def F.JRN_ENTRY_CNT_COUNT : Fld := ⟨0x40130060, 31, 0⟩
def F.JRN_CKPT_CNT_COUNT : Fld := ⟨0x40130064, 31, 0⟩
def F.JRN_MARKER_CNT_COUNT : Fld := ⟨0x40130068, 31, 0⟩
def F.JRN_MARKER_DROP_CNT_COUNT : Fld := ⟨0x4013006C, 31, 0⟩
def F.JRN_RETRY_MARK_CNT_COUNT : Fld := ⟨0x40130070, 31, 0⟩
def F.JRN_GAP_CNT_COUNT : Fld := ⟨0x40130074, 31, 0⟩
def F.JRN_FREEZE_CNT_COUNT : Fld := ⟨0x40130078, 31, 0⟩
def F.JRN_MERGED_CNT_COUNT : Fld := ⟨0x4013007C, 31, 0⟩
def F.JRN_PF_CNT_COUNT : Fld := ⟨0x40130080, 31, 0⟩
def F.JRN_REPLAY_CNT_COUNT : Fld := ⟨0x40130084, 31, 0⟩
def F.JRN_REPLAY_MATCH_CNT_COUNT : Fld := ⟨0x40130088, 31, 0⟩
def F.JRN_REPLAY_MISMATCH_CNT_COUNT : Fld := ⟨0x4013008C, 31, 0⟩
def F.JRN_TRIG_LOG_KIND (k : Nat) : Fld := ⟨0x401300A0 + 0x4 * k, 31, 28⟩
def F.JRN_TRIG_LOG_SOURCE (k : Nat) : Fld := ⟨0x401300A0 + 0x4 * k, 23, 16⟩
def F.JRN_TRIG_LOG_C (k : Nat) : Fld := ⟨0x401300A0 + 0x4 * k, 15, 0⟩
def F.JRN_REPLAY_MM_VALID (k : Nat) : Fld := ⟨0x401300C0 + 0x4 * k, 31, 31⟩
def F.JRN_REPLAY_MM_CKPT (k : Nat) : Fld := ⟨0x401300C0 + 0x4 * k, 30, 30⟩
def F.JRN_REPLAY_MM_S (k : Nat) : Fld := ⟨0x401300C0 + 0x4 * k, 29, 0⟩
def F.BST_STATUS_ABIST_SKIPPED : Fld := ⟨0x40150000, 4, 4⟩
def F.BST_STATUS_ABIST_PASS : Fld := ⟨0x40150000, 3, 3⟩
def F.BST_STATUS_LBIST_PASS : Fld := ⟨0x40150000, 2, 2⟩
def F.BST_STATUS_MBIST_PASS : Fld := ⟨0x40150000, 1, 1⟩
def F.BST_STATUS_ROLLING : Fld := ⟨0x40150000, 0, 0⟩
def F.BST_CFG_ROLL_EN : Fld := ⟨0x40150004, 0, 0⟩
def F.BST_EVENT_SEEN : Fld := ⟨0x40150008, 4, 0⟩
def F.BST_EVENT_MASK_MASK : Fld := ⟨0x4015000C, 4, 0⟩
def F.BST_LBIST_FAIL_PART : Fld := ⟨0x40150010, 23, 16⟩
def F.BST_LBIST_RETRIED : Fld := ⟨0x40150010, 1, 1⟩
def F.BST_LBIST_DONE : Fld := ⟨0x40150010, 0, 0⟩
def F.BST_MBIST_SPARE_TILES : Fld := ⟨0x40150014, 31, 24⟩
def F.BST_MBIST_SPARE_ROWS : Fld := ⟨0x40150014, 23, 12⟩
def F.BST_MBIST_UNREPAIRABLE : Fld := ⟨0x40150014, 11, 0⟩
def F.BST_ABIST_DAC_FAIL : Fld := ⟨0x40150018, 31, 24⟩
def F.BST_ABIST_GATE_FAIL : Fld := ⟨0x40150018, 17, 0⟩
def F.BST_ROLL_TESTED : Fld := ⟨0x4015001C, 31, 0⟩
def F.BST_ROLL_LAST_HOB : Fld := ⟨0x40150020, 21, 16⟩
def F.BST_ROLL_LAST_RESULT : Fld := ⟨0x40150020, 1, 0⟩
def F.BST_SIGHT_SEL_RECORD : Fld := ⟨0x40150024, 6, 0⟩
def F.BST_SIGHT_VALID : Fld := ⟨0x40150028, 31, 31⟩
def F.BST_SIGHT_SEEN : Fld := ⟨0x40150028, 30, 28⟩
def F.BST_SIGHT_KIND : Fld := ⟨0x40150028, 27, 27⟩
def F.BST_SIGHT_ROW : Fld := ⟨0x40150028, 26, 19⟩
def F.BST_SIGHT_TILE : Fld := ⟨0x40150028, 18, 8⟩
def F.BST_FUSE_CMD_KEY : Fld := ⟨0x4015002C, 15, 0⟩
def F.BST_FUSE_STAT_SIGHT_LOST : Fld := ⟨0x40150030, 31, 24⟩
def F.BST_FUSE_STAT_REPAIR_FULL : Fld := ⟨0x40150030, 23, 23⟩
def F.BST_FUSE_STAT_DUE : Fld := ⟨0x40150030, 22, 15⟩
def F.BST_FUSE_STAT_SIGHTS_FREE : Fld := ⟨0x40150030, 14, 7⟩
def F.BST_FUSE_STAT_ENTRIES_FREE : Fld := ⟨0x40150030, 6, 0⟩
def F.BST_ROLL_CNT_COUNT : Fld := ⟨0x40150034, 31, 0⟩
def F.BST_ROLL_TRANSIENT_CNT_COUNT : Fld := ⟨0x40150038, 31, 0⟩
def F.BST_ROLL_LASTING_CNT_COUNT : Fld := ⟨0x4015003C, 31, 0⟩
def F.BST_REPAIR_VALID (k : Nat) : Fld := ⟨0x40150100 + 0x4 * k, 31, 31⟩
def F.BST_REPAIR_REPAIR (k : Nat) : Fld := ⟨0x40150100 + 0x4 * k, 27, 8⟩
def F.AGE_STATUS_SOUTH_TESTED : Fld := ⟨0x40140000, 31, 0⟩
def F.AGE_CFG_CANARY_ON : Fld := ⟨0x40140004, 15, 8⟩
def F.AGE_CFG_LOW : Fld := ⟨0x40140004, 7, 0⟩
def F.AGE_EVENT_SEEN : Fld := ⟨0x40140008, 2, 0⟩
def F.AGE_EVENT_MASK_MASK : Fld := ⟨0x4014000C, 2, 0⟩
def F.AGE_PLAN_EXHAUSTED : Fld := ⟨0x40140010, 18, 18⟩
def F.AGE_PLAN_BASELINE_SET : Fld := ⟨0x40140010, 17, 17⟩
def F.AGE_PLAN_READ_ASSIST : Fld := ⟨0x40140010, 16, 16⟩
def F.AGE_PLAN_E_MAX : Fld := ⟨0x40140010, 15, 0⟩
def F.AGE_CANARY_SOUTH : Fld := ⟨0x40140014, 31, 16⟩
def F.AGE_CANARY_NORTH : Fld := ⟨0x40140014, 15, 0⟩
def F.AGE_RETIRED_TILES : Fld := ⟨0x40140018, 7, 0⟩
def F.AGE_DTM_AX : Fld := ⟨0x4014001C, 23, 16⟩
def F.AGE_DTM_BK : Fld := ⟨0x4014001C, 15, 8⟩
def F.AGE_DTM_ST : Fld := ⟨0x4014001C, 7, 0⟩
def F.AGE_CRYSTAL_DRIFT : Fld := ⟨0x40140020, 31, 0⟩
def F.AGE_VDS_ON_AX : Fld := ⟨0x40140024, 23, 16⟩
def F.AGE_VDS_ON_BK : Fld := ⟨0x40140024, 15, 8⟩
def F.AGE_VDS_ON_ST : Fld := ⟨0x40140024, 7, 0⟩
def F.AGE_DERATE_TRIM_STEPS : Fld := ⟨0x40140028, 7, 4⟩
def F.AGE_DERATE_CLK_STEPS : Fld := ⟨0x40140028, 3, 0⟩
def F.AGE_DERATE_CNT_COUNT : Fld := ⟨0x4014002C, 31, 0⟩
def F.AGE_REPLAN_CNT_COUNT : Fld := ⟨0x40140030, 31, 0⟩
def F.AGE_MARGIN_LOW_CNT_COUNT : Fld := ⟨0x40140034, 31, 0⟩
def F.AGE_RO_D (r : Nat) : Fld := ⟨0x40140080 + 0x4 * r, 31, 16⟩
def F.AGE_RO_MHZ (r : Nat) : Fld := ⟨0x40140080 + 0x4 * r, 15, 0⟩
def F.AGE_BASE_BASE (m : Nat) : Fld := ⟨0x40140100 + 0x10 * m, 31, 0⟩
def F.AGE_VALUE_VALUE (m : Nat) : Fld := ⟨0x40140104 + 0x10 * m, 31, 0⟩
def F.AGE_LIMIT_LIMIT (m : Nat) : Fld := ⟨0x40140108 + 0x10 * m, 31, 0⟩
def F.AGE_BUDGET_PERMILLE (m : Nat) : Fld := ⟨0x4014010C + 0x10 * m, 15, 0⟩
def F.MBX_STATUS_FULL : Fld := ⟨0x40160000, 15, 0⟩
def F.MBX_EVENT_SEEN : Fld := ⟨0x40160004, 1, 0⟩
def F.MBX_EVENT_MASK_MASK : Fld := ⟨0x40160008, 1, 0⟩
def F.MBX_DB_PEND_TAKEN : Fld := ⟨0x4016000C, 31, 16⟩
def F.MBX_DB_PEND_FILLED : Fld := ⟨0x4016000C, 15, 0⟩
def F.MBX_DB_MASK_MASK : Fld := ⟨0x40160010, 31, 0⟩
def F.MBX_SEL_MAILBOX : Fld := ⟨0x40160014, 3, 0⟩
def F.MBX_DATA_WORD (k : Nat) : Fld := ⟨0x40160040 + 0x4 * k, 31, 0⟩
def F.MBX_ROUTE_SENDER (m : Nat) : Fld := ⟨0x40160080 + 0x4 * m, 5, 4⟩
def F.MBX_ROUTE_RECEIVER (m : Nat) : Fld := ⟨0x40160080 + 0x4 * m, 1, 0⟩
def F.MBX_STAT_FULL (m : Nat) : Fld := ⟨0x401600C0 + 0x4 * m, 31, 31⟩
def F.MBX_STAT_BLOCKED (m : Nat) : Fld := ⟨0x401600C0 + 0x4 * m, 23, 16⟩
def F.MBX_STAT_TAKEN (m : Nat) : Fld := ⟨0x401600C0 + 0x4 * m, 15, 8⟩
def F.MBX_STAT_SENT (m : Nat) : Fld := ⟨0x401600C0 + 0x4 * m, 7, 0⟩
def F.MBX_WAIT_TICKS (m : Nat) : Fld := ⟨0x40160100 + 0x4 * m, 31, 0⟩
def F.SVC_STATUS_ATTN : Fld := ⟨0x40170000, 4, 4⟩
def F.SVC_STATUS_NVM_BUSY : Fld := ⟨0x40170000, 3, 3⟩
def F.SVC_STATUS_FRAME_OPEN : Fld := ⟨0x40170000, 2, 2⟩
def F.SVC_STATUS_WRITES : Fld := ⟨0x40170000, 1, 1⟩
def F.SVC_STATUS_READY : Fld := ⟨0x40170000, 0, 0⟩
def F.SVC_EVENT_SEEN : Fld := ⟨0x40170004, 4, 0⟩
def F.SVC_EVENT_MASK_MASK : Fld := ⟨0x40170008, 4, 0⟩
def F.SVC_LAST_CMD : Fld := ⟨0x4017000C, 31, 24⟩
def F.SVC_LAST_STATUS : Fld := ⟨0x4017000C, 23, 16⟩
def F.SVC_LAST_LEN : Fld := ⟨0x4017000C, 12, 0⟩
def F.SVC_LAST_ADDR_ADDR : Fld := ⟨0x40170010, 31, 0⟩
def F.SVC_NVM_BUSY : Fld := ⟨0x40170014, 31, 31⟩
def F.SVC_NVM_OP : Fld := ⟨0x40170014, 30, 28⟩
def F.SVC_NVM_RESULT : Fld := ⟨0x40170014, 27, 24⟩
def F.SVC_NVM_ADDR : Fld := ⟨0x40170014, 23, 0⟩
def F.SVC_JTAG_LAST_IR : Fld := ⟨0x40170018, 15, 8⟩
def F.SVC_JTAG_LOCKED : Fld := ⟨0x40170018, 1, 1⟩
def F.SVC_JTAG_ACTIVE : Fld := ⟨0x40170018, 0, 0⟩
def F.SVC_LINK_MODE3 : Fld := ⟨0x4017001C, 16, 16⟩
def F.SVC_LINK_BUSY_MAX : Fld := ⟨0x4017001C, 15, 0⟩
def F.SVC_FRAME_CNT_COUNT : Fld := ⟨0x40170040, 31, 0⟩
def F.SVC_CRC_CNT_COUNT : Fld := ⟨0x40170044, 31, 0⟩
def F.SVC_BAD_CMD_CNT_COUNT : Fld := ⟨0x40170048, 31, 0⟩
def F.SVC_LOCKED_CNT_COUNT : Fld := ⟨0x4017004C, 31, 0⟩
def F.SVC_WRONG_MODE_CNT_COUNT : Fld := ⟨0x40170050, 31, 0⟩
def F.SVC_BAD_KEY_CNT_COUNT : Fld := ⟨0x40170054, 31, 0⟩
def F.SVC_BUSY_CNT_COUNT : Fld := ⟨0x40170058, 31, 0⟩
def F.SVC_ABANDON_CNT_COUNT : Fld := ⟨0x4017005C, 31, 0⟩
def F.SVC_WRITE_WORD_CNT_COUNT : Fld := ⟨0x40170060, 31, 0⟩
def F.SVC_ERASE_CNT_COUNT : Fld := ⟨0x40170064, 31, 0⟩
def F.SVC_PROGRAM_CNT_COUNT : Fld := ⟨0x40170068, 31, 0⟩
def F.SVC_OTP_CNT_COUNT : Fld := ⟨0x4017006C, 31, 0⟩

end Sys2Proof.Machine
end

