-- ==== Sys2Proof/Machine/RegMap.lean ====
section
/-!
DEFINITION. The register map of the device: one row per register kind of the twenty-five blocks of R24, with its offset,
index rule, reset value (the Reset column, R10) and the bit masks of the access codes of R8. A bit in none of the masks
is RO, RS or reserved. What a register reads at release where its Reset column says OTP, Pin, Kept or Cause is given by
the views of those sources (`Machine/Views.lean`); the row gives 0 there.
-/
namespace Sys2Proof.Machine

/-- One register kind: `count` registers at `off + stride * i` within the block (R25 and its like in every chapter). -/
structure RegKind where
  /-- Offset of index 0 within the block (or the instance). -/
  off    : Nat
  /-- Distance between neighbouring indices. -/
  stride : Nat
  /-- Number of indices. -/
  count  : Nat
  /-- Value after reset. -/
  reset  : Nat
  /-- Bits of access RW. -/
  rw     : Nat
  /-- Bits of access RL. -/
  rl     : Nat
  /-- Bits of access W1C. -/
  w1c    : Nat
  /-- Bits of access WO. -/
  wo     : Nat
deriving DecidableEq, Repr

/-- Register kinds of block SYS. -/
def kindsSYS : List RegKind := [
  ⟨0x000, 0x4, 1, 0x94303000, 0x0, 0x0, 0x0, 0x0⟩, -- SYS_ID
  ⟨0x004, 0x4, 1, 0x0, 0x0, 0x0, 0x0, 0x0⟩, -- SYS_UID_0
  ⟨0x008, 0x4, 1, 0x0, 0x0, 0x0, 0x0, 0x0⟩, -- SYS_UID_1
  ⟨0x00C, 0x4, 1, 0x1, 0x0, 0x0, 0x0, 0x0⟩, -- SYS_MODE
  ⟨0x010, 0x4, 1, 0x4, 0x0, 0x0, 0x0, 0x0⟩, -- SYS_STATUS
  ⟨0x014, 0x4, 1, 0x0, 0x0, 0x0, 0x0, 0x0⟩, -- SYS_STRAP
  ⟨0x018, 0x4, 1, 0x0, 0x0, 0x0, 0x0, 0x0⟩, -- SYS_RESET_CAUSE
  ⟨0x01C, 0x4, 1, 0x0, 0x0, 0x0, 0x0, 0xFFFF⟩, -- SYS_SWRESET
  ⟨0x020, 0x4, 1, 0x0, 0x0, 0x0, 0x0, 0x0⟩, -- SYS_TICK_LO
  ⟨0x024, 0x4, 1, 0x0, 0x0, 0x0, 0x0, 0x0⟩, -- SYS_TICK_HI
  ⟨0x028, 0x4, 1, 0x0, 0x0, 0x0, 0x0, 0x0⟩, -- SYS_LOCKED_WR_CNT
  ⟨0x02C, 0x4, 1, 0x0, 0x0, 0x0, 0x0, 0x0⟩, -- SYS_LOCKED_WR_ADDR
  ⟨0x030, 0x4, 2, 0x0, 0x0, 0x0, 0x0, 0x0⟩, -- SYS_HALF_h
  ⟨0x040, 0x4, 8, 0x0, 0x0, 0x0, 0x0, 0x0⟩, -- SYS_CLUSTER_c
  ⟨0x060, 0x4, 6, 0x0, 0x0, 0x0, 0x0, 0x0⟩, -- SYS_REGION_r
  ⟨0x080, 0x4, 12, 0x0, 0x0, 0x0, 0x0, 0x0⟩ -- SYS_MODE_ENTRY_m
]

/-- Register kinds of block PWR, part 0. -/
def kindsPWR_0 : List RegKind := [
  ⟨0x000, 0x4, 1, 0x1, 0x0, 0x0, 0x0, 0x0⟩, -- PWR_STATUS
  ⟨0x004, 0x4, 1, 0x6400, 0x0, 0xFF0F, 0x0, 0x0⟩, -- PWR_CFG
  ⟨0x008, 0x4, 1, 0x0, 0x0, 0x0, 0x0, 0x0⟩, -- PWR_EVENT
  ⟨0x00C, 0x4, 1, 0x0, 0x0, 0xFF, 0x0, 0x0⟩, -- PWR_EVENT_MASK
  ⟨0x010, 0x4, 1, 0xA000000, 0x0, 0xFFFFFFFF, 0x0, 0x0⟩, -- PWR_ALARM
  ⟨0x014, 0x4, 1, 0xA03C0000, 0x0, 0xFFFF0000, 0x0, 0x0⟩, -- PWR_MON_CFG
  ⟨0x018, 0x4, 1, 0x591, 0x0, 0xFFFF, 0x0, 0x0⟩, -- PWR_TEMP_CFG
  ⟨0x01C, 0x4, 1, 0x0, 0x0, 0x0, 0x0, 0x0⟩, -- PWR_SUPPLY
  ⟨0x020, 0x4, 1, 0x0, 0x0, 0x0, 0x0, 0x0⟩, -- PWR_CORE
  ⟨0x024, 0x4, 1, 0x0, 0x0, 0x0, 0x0, 0x0⟩, -- PWR_TEMP
  ⟨0x028, 0x4, 1, 0x0, 0x0, 0x0, 0x0, 0x0⟩, -- PWR_VBAT
  ⟨0x02C, 0x4, 1, 0x0, 0x0, 0x0, 0x0, 0x0⟩, -- PWR_SLEPT_LO
  ⟨0x030, 0x4, 1, 0x0, 0x0, 0x0, 0x0, 0x0⟩, -- PWR_SLEPT_HI
  ⟨0x034, 0x4, 1, 0x0, 0x0, 0x0, 0x0, 0x0⟩, -- PWR_SLEPT_UNC
  ⟨0x038, 0x4, 1, 0x0, 0x0, 0x0, 0x0, 0x0⟩, -- PWR_LAST_REFUSAL
  ⟨0x03C, 0x4, 1, 0x0, 0x0, 0x0, 0x0, 0x0⟩, -- PWR_WAKE_STAT
  ⟨0x040, 0x4, 1, 0x0, 0x0, 0x0, 0x0, 0x0⟩, -- PWR_VSUP_UV_CNT
  ⟨0x044, 0x4, 1, 0x0, 0x0, 0x0, 0x0, 0x0⟩, -- PWR_VSUP_OV_CNT
  ⟨0x048, 0x4, 1, 0x0, 0x0, 0x0, 0x0, 0x0⟩, -- PWR_VIO_CNT
  ⟨0x04C, 0x4, 1, 0x0, 0x0, 0x0, 0x0, 0x0⟩, -- PWR_VGD_CNT
  ⟨0x050, 0x4, 1, 0x0, 0x0, 0x0, 0x0, 0x0⟩, -- PWR_TEMP_CNT
  ⟨0x054, 0x4, 1, 0x0, 0x0, 0x0, 0x0, 0x0⟩, -- PWR_TIMEOUT_CNT
  ⟨0x058, 0x4, 1, 0x0, 0x0, 0x0, 0x0, 0x0⟩, -- PWR_SD_ABORT_CNT
  ⟨0x05C, 0x4, 1, 0x0, 0x0, 0x0, 0x0, 0x0⟩ -- PWR_DORMANT_CNT
]
/-- Register kinds of block PWR, part 1. -/
def kindsPWR_1 : List RegKind := [
  ⟨0x060, 0x4, 1, 0x0, 0x0, 0x0, 0x0, 0x0⟩, -- PWR_WAKE_CNT
  ⟨0x064, 0x4, 1, 0x0, 0x0, 0x0, 0x0, 0x0⟩, -- PWR_WAKE_FAIL_CNT
  ⟨0x100, 0x20, 22, 0xFA0002, 0x0, 0x3FF0003, 0x0, 0x0⟩, -- PWR_DOM_CFG_d
  ⟨0x104, 0x20, 22, 0x0, 0x10000, 0x0, 0x0, 0x0⟩, -- PWR_DOM_VOTE_d
  ⟨0x108, 0x20, 22, 0x0, 0x0, 0x0, 0x0, 0x0⟩, -- PWR_DOM_STAT_d
  ⟨0x10C, 0x20, 22, 0x0, 0x0, 0x0, 0x0, 0x0⟩, -- PWR_DOM_REFUSE_d
  ⟨0x110, 0x20, 22, 0x0, 0x0, 0x0, 0x0, 0x0⟩, -- PWR_DOM_ABORT_d
  ⟨0x114, 0x20, 22, 0x0, 0x0, 0x0, 0x0, 0x0⟩ -- PWR_DOM_ENTRY_CNT_d
]
/-- Register kinds of block PWR. -/
def kindsPWR : List RegKind := kindsPWR_0 ++ kindsPWR_1

/-- Register kinds of block CLK, part 0. -/
def kindsCLK_0 : List RegKind := [
  ⟨0x000, 0x4, 1, 0x0, 0x0, 0x0, 0x0, 0x0⟩, -- CLK_STATUS
  ⟨0x004, 0x4, 1, 0xA, 0x0, 0xFF, 0x0, 0x0⟩, -- CLK_CFG
  ⟨0x008, 0x4, 1, 0x0, 0x0, 0x0, 0x0, 0x0⟩, -- CLK_EVENT
  ⟨0x00C, 0x4, 1, 0x0, 0x0, 0x3F, 0x0, 0x0⟩, -- CLK_EVENT_MASK
  ⟨0x010, 0x4, 1, 0x0, 0x0, 0x0, 0x0, 0x0⟩, -- CLK_XT25
  ⟨0x014, 0x4, 1, 0x0, 0x0, 0x0, 0x0, 0x0⟩, -- CLK_XT32
  ⟨0x018, 0x4, 1, 0x0, 0x0, 0x0, 0x0, 0x0⟩, -- CLK_DRIFT
  ⟨0x01C, 0x4, 1, 0x0, 0x0, 0x0, 0x0, 0x0⟩, -- CLK_PLL_N
  ⟨0x020, 0x4, 1, 0x0, 0x0, 0x0, 0x0, 0x0⟩, -- CLK_PLL_S
  ⟨0x024, 0x4, 1, 0x0, 0x0, 0x0, 0x0, 0x0⟩, -- CLK_MON_N
  ⟨0x028, 0x4, 1, 0x0, 0x0, 0x0, 0x0, 0x0⟩, -- CLK_MON_S
  ⟨0x02C, 0x4, 1, 0x0, 0x0, 0x0, 0x0, 0x0⟩, -- CLK_HOB
  ⟨0x030, 0x4, 1, 0x0, 0x0, 0x0, 0x0, 0x0⟩, -- CLK_RTC_LO
  ⟨0x034, 0x4, 1, 0x0, 0x0, 0x0, 0x0, 0x0⟩, -- CLK_RTC_HI
  ⟨0x038, 0x4, 1, 0x0, 0x0, 0x0, 0x0, 0x0⟩, -- CLK_RTC_STAT
  ⟨0x03C, 0x4, 1, 0x0, 0x0, 0x0, 0x0, 0x0⟩, -- CLK_ALARM_LO
  ⟨0x040, 0x4, 1, 0x0, 0x0, 0x0, 0x0, 0x0⟩, -- CLK_ALARM_HI
  ⟨0x044, 0x4, 1, 0x0, 0x0, 0x0, 0x0, 0x0⟩, -- CLK_PPS
  ⟨0x048, 0x4, 1, 0x0, 0x0, 0x0, 0x0, 0x0⟩, -- CLK_PPS_LAST
  ⟨0x04C, 0x4, 1, 0x0, 0x0, 0x0, 0x0, 0x0⟩, -- CLK_RC_TRIM
  ⟨0x060, 0x4, 1, 0x0, 0x0, 0x0, 0x0, 0x0⟩, -- CLK_PLL_N_LOSS_CNT
  ⟨0x064, 0x4, 1, 0x0, 0x0, 0x0, 0x0, 0x0⟩, -- CLK_PLL_S_LOSS_CNT
  ⟨0x068, 0x4, 1, 0x0, 0x0, 0x0, 0x0, 0x0⟩, -- CLK_XT25_FAIL_CNT
  ⟨0x06C, 0x4, 1, 0x0, 0x0, 0x0, 0x0, 0x0⟩ -- CLK_XT32_FAIL_CNT
]
/-- Register kinds of block CLK, part 1. -/
def kindsCLK_1 : List RegKind := [
  ⟨0x070, 0x4, 1, 0x0, 0x0, 0x0, 0x0, 0x0⟩, -- CLK_PPS_EDGE_CNT
  ⟨0x074, 0x4, 1, 0x0, 0x0, 0x0, 0x0, 0x0⟩, -- CLK_PPS_ALIGN_CNT
  ⟨0x078, 0x4, 1, 0x0, 0x0, 0x0, 0x0, 0x0⟩, -- CLK_PPS_LOST_CNT
  ⟨0x07C, 0x4, 1, 0x0, 0x0, 0x0, 0x0, 0x0⟩, -- CLK_STEP_CNT
  ⟨0x100, 0x8, 16, 0x0, 0x0, 0x0, 0x0, 0x0⟩, -- CLK_OUT_STAT_i
  ⟨0x104, 0x8, 16, 0x0, 0x0, 0x0, 0x0, 0x0⟩ -- CLK_OUT_MEAS_i
]
/-- Register kinds of block CLK. -/
def kindsCLK : List RegKind := kindsCLK_0 ++ kindsCLK_1

/-- Register kinds of block FLT. -/
def kindsFLT : List RegKind := [
  ⟨0x000, 0x4, 1, 0x0, 0x0, 0x0, 0x0, 0x0⟩, -- FLT_STATUS
  ⟨0x004, 0x4, 1, 0x102010, 0x0, 0xFFFF1F, 0x0, 0x0⟩, -- FLT_CFG
  ⟨0x008, 0x4, 1, 0x0, 0x0, 0x0, 0x0, 0x0⟩, -- FLT_EVENT
  ⟨0x00C, 0x4, 1, 0x0, 0x0, 0x3F, 0x0, 0x0⟩, -- FLT_EVENT_MASK
  ⟨0x010, 0x4, 1, 0x0, 0x0, 0x0, 0x0, 0x0⟩, -- FLT_LAST
  ⟨0x014, 0x4, 1, 0x0, 0x0, 0x0, 0x0, 0x0⟩, -- FLT_FIRST_FATAL
  ⟨0x018, 0x4, 1, 0x0, 0x0, 0x0, 0x0, 0x0⟩, -- FLT_REACT
  ⟨0x01C, 0x4, 1, 0x0, 0x0, 0x0, 0x0, 0x0⟩, -- FLT_CFG_SUM
  ⟨0x020, 0x4, 1, 0x0, 0x0, 0x0, 0x0, 0x0⟩, -- FLT_CORRECTED_CNT
  ⟨0x024, 0x4, 1, 0x0, 0x0, 0x0, 0x0, 0x0⟩, -- FLT_CONTAINED_CNT
  ⟨0x028, 0x4, 1, 0x0, 0x0, 0x0, 0x0, 0x0⟩, -- FLT_FATAL_CNT
  ⟨0x02C, 0x4, 1, 0x0, 0x0, 0x0, 0x0, 0x0⟩, -- FLT_TRANSIENT_CNT
  ⟨0x030, 0x4, 1, 0x0, 0x0, 0x0, 0x0, 0x0⟩, -- FLT_LASTING_CNT
  ⟨0x034, 0x4, 1, 0x0, 0x0, 0x0, 0x0, 0x0⟩, -- FLT_WIRE_CNT
  ⟨0x038, 0x4, 1, 0x0, 0x0, 0x0, 0x0, 0x0⟩, -- FLT_CLEAR_CNT
  ⟨0x03C, 0x4, 1, 0x0, 0x0, 0x0, 0x0, 0x0⟩, -- FLT_FORCE_CNT
  ⟨0x040, 0x4, 1, 0x0, 0x0, 0x0, 0x0, 0x0⟩, -- FLT_VERIFY_CNT
  ⟨0x044, 0x4, 1, 0x0, 0x0, 0x0, 0x0, 0x0⟩, -- FLT_VERIFY_RETRY_CNT
  ⟨0x048, 0x4, 1, 0x0, 0x0, 0x0, 0x0, 0x0⟩, -- FLT_SPARE_CNT
  ⟨0x04C, 0x4, 1, 0x0, 0x0, 0x0, 0x0, 0x0⟩, -- FLT_LANE_CNT
  ⟨0x080, 0x4, 8, 0x0, 0x0, 0x0, 0x0, 0x0⟩, -- FLT_STICKY_w
  ⟨0x0A0, 0x4, 8, 0x0, 0x0, 0x0, 0x0, 0x0⟩, -- FLT_ACTIVE_w
  ⟨0x0C0, 0x4, 8, 0x0, 0x0, 0x0, 0x0, 0xFFFFFFFF⟩, -- FLT_FORCE_w
  ⟨0x400, 0x4, 256, 0x602, 0x0, 0xFFFFFF03, 0x0, 0x0⟩ -- FLT_SRC_n
]

/-- Register kinds of block CMP. -/
def kindsCMP : List RegKind := [
  ⟨0x000, 0x10, 24, 0x0, 0x0, 0x0, 0x0, 0x0⟩, -- CMP_STAT_k
  ⟨0x004, 0x10, 24, 0x0, 0x0, 0x0, 0x0, 0x0⟩, -- CMP_MISMATCH_CNT_k
  ⟨0x008, 0x10, 24, 0x0, 0x0, 0x0, 0x0, 0x0⟩, -- CMP_TRANSIENT_CNT_k
  ⟨0x00C, 0x10, 24, 0x0, 0x0, 0x0, 0x0, 0x0⟩ -- CMP_TEST_k
]

/-- Register kinds of block HOB. -/
def kindsHOB : List RegKind := [
  ⟨0x000, 0x4, 1, 0x0, 0x0, 0x0, 0x0, 0x0⟩, -- HOB_STATUS
  ⟨0x004, 0x4, 1, 0x301, 0x0, 0xFF01, 0x0, 0x0⟩, -- HOB_CFG
  ⟨0x008, 0x4, 1, 0x0, 0x0, 0x0, 0x0, 0x0⟩, -- HOB_MISS_CNT
  ⟨0x00C, 0x4, 1, 0x0, 0x0, 0x0, 0x0, 0x0⟩, -- HOB_RETRY_CNT
  ⟨0x010, 0x4, 1, 0x0, 0x0, 0x0, 0x0, 0x0⟩, -- HOB_STEAL_CNT
  ⟨0x014, 0x4, 1, 0x0, 0x0, 0x0, 0x0, 0x0⟩, -- HOB_LAST_EVENT
  ⟨0x018, 0x4, 1, 0x0, 0x0, 0x0, 0x0, 0x0⟩, -- HOB_VERIFY_WAIT
  ⟨0x020, 0x4, 8, 0x0, 0x0, 0x0, 0x0, 0x0⟩, -- HOB_QUEUE_c
  ⟨0x040, 0x4, 5, 0xFFFF0000, 0x0, 0x0, 0x0, 0x0⟩, -- HOB_CLASS_k
  ⟨0x100, 0x4, 64, 0x0, 0x0, 0x0, 0x0, 0x0⟩, -- HOB_ENGINE_n
  ⟨0x200, 0x4, 112, 0x0, 0x0, 0x0, 0x0, 0x0⟩, -- HOB_TYPE_COST_t
  ⟨0x400, 0x4, 128, 0x0, 0x0, 0x0, 0x0, 0x0⟩ -- HOB_MISSED_w
]

/-- Register kinds of block LAW. -/
def kindsLAW : List RegKind := [
  ⟨0x000, 0x4, 1, 0x0, 0x0, 0x0, 0x0, 0x0⟩, -- LAW_STATUS
  ⟨0x004, 0x4, 1, 0x2, 0x0, 0xFF, 0x0, 0x0⟩, -- LAW_CFG
  ⟨0x008, 0x4, 1, 0x0, 0x0, 0x0, 0x0, 0x0⟩, -- LAW_SWAP_CNT
  ⟨0x00C, 0x4, 1, 0x0, 0x0, 0x0, 0x0, 0x0⟩, -- LAW_HELD_CNT
  ⟨0x010, 0x4, 1, 0x0, 0x0, 0x0, 0x0, 0x0⟩, -- LAW_SP_LOSS_CNT
  ⟨0x014, 0x4, 1, 0x0, 0x0, 0xFF01, 0x0, 0x0⟩, -- LAW_STEER
  ⟨0x018, 0x4, 1, 0x0, 0x0, 0x0, 0x0, 0x0⟩, -- LAW_LAST_SWAP
  ⟨0x020, 0x4, 1, 0x0, 0xF1FFF, 0x0, 0x0, 0x0⟩, -- LAW_EDIT_SEL
  ⟨0x040, 0x4, 8, 0x0, 0x0, 0xFFFFFFFF, 0x0, 0x0⟩, -- LAW_EDIT_WORD_k
  ⟨0x080, 0x20, 8, 0x0, 0x0, 0xFF3FCC03, 0x0, 0x0⟩, -- LAW_SP_SRC_s
  ⟨0x084, 0x20, 8, 0x0, 0x0, 0xFFFFFFFF, 0x0, 0x0⟩, -- LAW_SP_PRI_s
  ⟨0x088, 0x20, 8, 0x0, 0x0, 0xFFFFFFFF, 0x0, 0x0⟩, -- LAW_SP_ALT_s
  ⟨0x08C, 0x20, 8, 0x3F800000, 0x0, 0xFFFFFFFF, 0x0, 0x0⟩, -- LAW_SP_SCALE_s
  ⟨0x090, 0x20, 8, 0x0, 0x0, 0x0, 0x0, 0x0⟩, -- LAW_SP_STAT_s
  ⟨0x200, 0x20, 32, 0x0, 0x0, 0x0, 0x0, 0x0⟩, -- LAW_SLOT_INST_c
  ⟨0x204, 0x20, 32, 0x0, 0x0, 0x0, 0x0, 0x0⟩, -- LAW_SLOT_STATE_c
  ⟨0x208, 0x20, 32, 0x0, 0x0, 0x0, 0x0, 0x0⟩, -- LAW_SLOT_SWAPS_c
  ⟨0x20C, 0x20, 32, 0x0, 0x0, 0x0, 0x0, 0x0⟩, -- LAW_SLOT_HELD_c
  ⟨0x210, 0x20, 32, 0x0, 0x0, 0x0, 0x0, 0x0⟩, -- LAW_SLOT_OUT_c
  ⟨0x214, 0x20, 32, 0x0, 0x0, 0x0, 0x0, 0x0⟩, -- LAW_SLOT_INTEG_c
  ⟨0x218, 0x20, 32, 0x0, 0x0, 0x0, 0x0, 0x0⟩ -- LAW_SLOT_TICK_c
]

/-- Register kinds of block SEC, part 0. -/
def kindsSEC_0 : List RegKind := [
  ⟨0x000, 0x4, 1, 0x0, 0x0, 0x0, 0x0, 0x0⟩, -- SEC_STATUS
  ⟨0x004, 0x4, 1, 0x1, 0x0, 0xFF7, 0x0, 0x0⟩, -- SEC_CFG
  ⟨0x008, 0x4, 1, 0x100C864, 0x0, 0xFFFFFFFF, 0x0, 0x0⟩, -- SEC_TIMING
  ⟨0x00C, 0x4, 1, 0xA640F, 0x0, 0xFFFF1F, 0x0, 0x0⟩, -- SEC_PWM
  ⟨0x010, 0x4, 1, 0x1E00, 0x0, 0xFF00, 0x0, 0x0⟩, -- SEC_ISO
  ⟨0x014, 0x4, 1, 0x0, 0x0, 0x0, 0x0, 0x0⟩, -- SEC_CMD_CNT
  ⟨0x018, 0x4, 1, 0x0, 0x0, 0x0, 0x0, 0x0⟩, -- SEC_REPLACE_CNT
  ⟨0x01C, 0x4, 1, 0x0, 0x0, 0x0, 0x0, 0x0⟩, -- SEC_LATE_CNT
  ⟨0x020, 0x4, 1, 0x0, 0x0, 0x0, 0x0, 0x0⟩, -- SEC_CMD_DROP_CNT
  ⟨0x024, 0x4, 1, 0x0, 0x0, 0x0, 0x0, 0x0⟩, -- SEC_MINON_CNT
  ⟨0x028, 0x4, 1, 0x0, 0x0, 0x0, 0x0, 0x0⟩, -- SEC_UNDER_CNT
  ⟨0x02C, 0x4, 1, 0x0, 0x0, 0x0, 0x0, 0x0⟩, -- SEC_BACKWARD_CNT
  ⟨0x030, 0x4, 1, 0x0, 0x0, 0x0, 0x0, 0x0⟩, -- SEC_UNKNOWN_CNT
  ⟨0x034, 0x4, 1, 0x0, 0x0, 0x0, 0x0, 0x0⟩, -- SEC_DUTY_CHG_CNT
  ⟨0x038, 0x4, 1, 0x0, 0x0, 0x0, 0x0, 0x0⟩, -- SEC_RESEND_CNT
  ⟨0x03C, 0x4, 1, 0x0, 0x0, 0x0, 0x0, 0x0⟩, -- SEC_QUEUE
  ⟨0x040, 0x4, 1, 0xFFFF, 0x0, 0x0, 0x0, 0x0⟩, -- SEC_LEAD_MIN_SEEN
  ⟨0x044, 0x4, 1, 0x0, 0x0, 0x0, 0x0, 0x0⟩, -- SEC_EMIT_PEAK
  ⟨0x048, 0x4, 1, 0x0, 0x0, 0x0, 0x0, 0x0⟩, -- SEC_CMD_CAP
  ⟨0x04C, 0x4, 1, 0x0, 0x0, 0x0, 0x0, 0x0⟩, -- SEC_LAST_CMD
  ⟨0x050, 0x4, 1, 0x0, 0x0, 0x0, 0x0, 0x0⟩, -- SEC_SOLVE_TICK
  ⟨0x054, 0x4, 1, 0x0, 0x1FF, 0x0, 0x0, 0x0⟩, -- SEC_GEOM_SEL
  ⟨0x058, 0x4, 1, 0x0, 0x0, 0x0, 0x0, 0x0⟩, -- SEC_SECTION_0
  ⟨0x05C, 0x4, 1, 0x0, 0x0, 0x0, 0x0, 0x0⟩ -- SEC_SECTION_1
]
/-- Register kinds of block SEC, part 1. -/
def kindsSEC_1 : List RegKind := [
  ⟨0x060, 0x4, 8, 0x0, 0x0, 0x0, 0x0, 0x0⟩, -- SEC_GEOM_k
  ⟨0x080, 0x4, 16, 0x0, 0x0, 0x0, 0x0, 0x0⟩, -- SEC_ON_w
  ⟨0x800, 0x4, 512, 0x0, 0x0, 0x0, 0x0, 0x0⟩ -- SEC_POINT_n
]
/-- Register kinds of block SEC. -/
def kindsSEC : List RegKind := kindsSEC_0 ++ kindsSEC_1

/-- Register kinds of block MAP, part 0. -/
def kindsMAP_0 : List RegKind := [
  ⟨0x000, 0x4, 1, 0x0, 0x0, 0x0, 0x0, 0x0⟩, -- MAP_STATUS
  ⟨0x004, 0x4, 1, 0x1B8C0, 0x0, 0x7FFFF, 0x0, 0x0⟩, -- MAP_CFG
  ⟨0x008, 0x4, 1, 0x0, 0x0, 0x0, 0x0, 0x0⟩, -- MAP_SESSION
  ⟨0x00C, 0x4, 1, 0x141414, 0x0, 0xFFFFFF, 0x0, 0x0⟩, -- MAP_TIMEOUT
  ⟨0x010, 0x4, 1, 0x0, 0x0, 0x0, 0x0, 0x0⟩, -- MAP_CREDIT_TILE
  ⟨0x014, 0x4, 1, 0x0, 0x0, 0x0, 0x0, 0x0⟩, -- MAP_CREDIT_EVENT
  ⟨0x018, 0x4, 1, 0x0, 0x0, 0x0, 0x0, 0x0⟩, -- MAP_RX_CNT
  ⟨0x01C, 0x4, 1, 0x0, 0x0, 0x0, 0x0, 0x0⟩, -- MAP_ERR_CNT
  ⟨0x020, 0x4, 1, 0x0, 0x0, 0x0, 0x0, 0x0⟩, -- MAP_DROP_TILE_CNT
  ⟨0x024, 0x4, 1, 0x0, 0x0, 0x0, 0x0, 0x0⟩, -- MAP_DROP_EVENT_CNT
  ⟨0x028, 0x4, 1, 0x0, 0x0, 0x0, 0x0, 0x0⟩, -- MAP_SEQ_GAP_CNT
  ⟨0x02C, 0x4, 1, 0x0, 0x0, 0x0, 0x0, 0x0⟩, -- MAP_EVENT_CNT
  ⟨0x030, 0x4, 1, 0x0, 0x0, 0x0, 0x0, 0x0⟩, -- MAP_TILE_IN_CNT
  ⟨0x034, 0x4, 1, 0x0, 0x0, 0x0, 0x0, 0x0⟩, -- MAP_TILE_BACK_CNT
  ⟨0x038, 0x4, 1, 0x0, 0x0, 0x0, 0x0, 0x0⟩, -- MAP_TILE_REQ_CNT
  ⟨0x03C, 0x4, 1, 0x0, 0x0, 0x0, 0x0, 0x0⟩, -- MAP_EVICT_CNT
  ⟨0x040, 0x4, 1, 0x0, 0x0, 0x0, 0x0, 0x0⟩, -- MAP_UNKNOWN_CNT
  ⟨0x044, 0x4, 1, 0x0, 0x0, 0x0, 0x0, 0x0⟩, -- MAP_LAST_ERR
  ⟨0x048, 0x4, 1, 0x0, 0x0, 0x0, 0x0, 0x0⟩, -- MAP_STORE
  ⟨0x04C, 0x4, 1, 0xFFFFF, 0x0, 0x0, 0x0, 0x0⟩, -- MAP_POSE
  ⟨0x050, 0x4, 1, 0x0, 0x0, 0x0, 0x0, 0x0⟩, -- MAP_EVENT_QUEUE
  ⟨0x054, 0x4, 1, 0x0, 0x3FF, 0x0, 0x0, 0x0⟩, -- MAP_DIR_SEL
  ⟨0x058, 0x4, 1, 0x0, 0x0, 0x0, 0x0, 0x0⟩, -- MAP_DIR_KEY
  ⟨0x05C, 0x4, 1, 0x0, 0x0, 0x0, 0x0, 0x0⟩ -- MAP_DIR_STATE
]
/-- Register kinds of block MAP, part 1. -/
def kindsMAP_1 : List RegKind := [
  ⟨0x100, 0x4, 64, 0x0, 0x0, 0x0, 0x0, 0x0⟩, -- MAP_SLOT_STATE_w
  ⟨0x200, 0x4, 32, 0x0, 0x0, 0x0, 0x0, 0x0⟩ -- MAP_PINNED_w
]
/-- Register kinds of block MAP. -/
def kindsMAP : List RegKind := kindsMAP_0 ++ kindsMAP_1

/-- Register kinds of block POS, part 0. -/
def kindsPOS_0 : List RegKind := [
  ⟨0x000, 0x4, 1, 0x0, 0x0, 0xF, 0x0, 0x0⟩, -- POS_CFG
  ⟨0x004, 0x4, 1, 0xA0A0A0A, 0x0, 0xFFFFFFFF, 0x0, 0x0⟩, -- POS_FILTER
  ⟨0x008, 0x4, 1, 0x0, 0x0, 0x0, 0x0, 0x0⟩, -- POS_STATUS
  ⟨0x00C, 0x4, 1, 0x0, 0x0, 0x0, 0x0, 0x0⟩, -- POS_EVENT
  ⟨0x010, 0x4, 1, 0x0, 0x0, 0x7FF, 0x0, 0x0⟩, -- POS_EVENT_MASK
  ⟨0x014, 0x4, 1, 0x0, 0x0, 0x0, 0x0, 0x0⟩, -- POS_LEVELS
  ⟨0x018, 0x4, 1, 0x0, 0x0, 0x0, 0x0, 0x0⟩, -- POS_COUNT
  ⟨0x01C, 0x4, 1, 0x0, 0x0, 0x0, 0x0, 0x0⟩, -- POS_EDGE_TIME
  ⟨0x020, 0x4, 1, 0x0, 0x0, 0x0, 0x0, 0x0⟩, -- POS_EDGES
  ⟨0x024, 0x4, 1, 0x0, 0x0, 0x3FFFFFFF, 0x0, 0x0⟩, -- POS_CPR
  ⟨0x028, 0x4, 1, 0x0, 0x0, 0xFFFFFFFF, 0x0, 0x0⟩, -- POS_INDEX_CFG
  ⟨0x02C, 0x4, 1, 0x0, 0x0, 0x0, 0x0, 0x0⟩, -- POS_INDEX_LAST
  ⟨0x030, 0x4, 1, 0x0, 0x0, 0x0, 0x0, 0x0⟩, -- POS_REALIGN_DELTA
  ⟨0x034, 0x4, 1, 0x7, 0x0, 0x0, 0x0, 0x0⟩, -- POS_HALL_STATE
  ⟨0x038, 0x4, 1, 0x182018, 0x0, 0xFFFFE03F, 0x0, 0x0⟩, -- POS_SER_CFG
  ⟨0x03C, 0x4, 1, 0x14021800, 0x0, 0xFFFFFF00, 0x0, 0x0⟩, -- POS_SER_TIMING
  ⟨0x040, 0x4, 1, 0x0, 0x0, 0x0, 0x0, 0x0⟩, -- POS_SER_DATA
  ⟨0x044, 0x4, 1, 0xFFFF0005, 0x0, 0x0, 0x0, 0x0⟩, -- POS_SER_STAT
  ⟨0x048, 0x4, 1, 0x0, 0x0, 0x3, 0x0, 0x0⟩, -- POS_PRB_CFG
  ⟨0x04C, 0x4, 1, 0x0, 0x0, 0x0, 0x0, 0x0⟩, -- POS_PRB_COUNT
  ⟨0x050, 0x4, 1, 0x0, 0x0, 0x0, 0x0, 0x0⟩, -- POS_PRB_TIME
  ⟨0x054, 0x4, 1, 0x0, 0x0, 0xFF000001, 0x0, 0x0⟩, -- POS_CMP_CFG
  ⟨0x058, 0x4, 1, 0x0, 0x0, 0x0, 0x0, 0x0⟩, -- POS_CMP_POS
  ⟨0x05C, 0x4, 1, 0x0, 0x0, 0xFFFFFFFF, 0x0, 0x0⟩ -- POS_CMP_INCR
]
/-- Register kinds of block POS, part 1. -/
def kindsPOS_1 : List RegKind := [
  ⟨0x060, 0x4, 1, 0x0, 0x0, 0x0, 0x0, 0x0⟩, -- POS_CMP_LAST
  ⟨0x064, 0x4, 1, 0x0, 0x0, 0x1, 0x0, 0x0⟩, -- POS_PT_CFG
  ⟨0x068, 0x4, 1, 0x0, 0x0, 0x0, 0x0, 0x0⟩, -- POS_DIR_CNT
  ⟨0x06C, 0x4, 1, 0x0, 0x0, 0x0, 0x0, 0x0⟩, -- POS_QUAD_ERR_CNT
  ⟨0x070, 0x4, 1, 0x0, 0x0, 0x0, 0x0, 0x0⟩, -- POS_HALL_ERR_CNT
  ⟨0x074, 0x4, 1, 0x0, 0x0, 0x0, 0x0, 0x0⟩, -- POS_INDEX_MM_CNT
  ⟨0x078, 0x4, 1, 0x0, 0x0, 0x0, 0x0, 0x0⟩, -- POS_REALIGN_CNT
  ⟨0x07C, 0x4, 1, 0x0, 0x0, 0x0, 0x0, 0x0⟩, -- POS_SER_CRC_CNT
  ⟨0x080, 0x4, 1, 0x0, 0x0, 0x0, 0x0, 0x0⟩, -- POS_SER_ERRBIT_CNT
  ⟨0x084, 0x4, 1, 0x0, 0x0, 0x0, 0x0, 0x0⟩, -- POS_SER_TIMEOUT_CNT
  ⟨0x088, 0x4, 1, 0x0, 0x0, 0x0, 0x0, 0x0⟩, -- POS_SER_RETRY_CNT
  ⟨0x08C, 0x4, 1, 0x0, 0x0, 0x0, 0x0, 0x0⟩, -- POS_SER_LASTING_CNT
  ⟨0x090, 0x4, 1, 0x0, 0x0, 0x0, 0x0, 0x0⟩, -- POS_PRB_CNT
  ⟨0x094, 0x4, 1, 0x0, 0x0, 0x0, 0x0, 0x0⟩, -- POS_PRB_OVR_CNT
  ⟨0x098, 0x4, 1, 0x0, 0x0, 0x0, 0x0, 0x0⟩, -- POS_CMP_FIRE_CNT
  ⟨0x09C, 0x4, 1, 0x0, 0x0, 0x0, 0x0, 0x0⟩, -- POS_CMP_BEHIND_CNT
  ⟨0x0A0, 0x4, 8, 0x0, 0x0, 0x0, 0x0, 0x0⟩ -- POS_EDGE_LOG_k
]
/-- Register kinds of block POS. -/
def kindsPOS : List RegKind := kindsPOS_0 ++ kindsPOS_1

/-- Register kinds of block MOT, part 0. -/
def kindsMOT_0 : List RegKind := [
  ⟨0x000, 0x4, 1, 0x0, 0x0, 0x3, 0x0, 0x0⟩, -- MOT_CFG
  ⟨0x004, 0x4, 1, 0x0, 0x0, 0x0, 0x0, 0x0⟩, -- MOT_STATUS
  ⟨0x008, 0x4, 1, 0x0, 0x0, 0x0, 0x0, 0x0⟩, -- MOT_EVENT
  ⟨0x00C, 0x4, 1, 0x0, 0x0, 0x7F, 0x0, 0x0⟩, -- MOT_EVENT_MASK
  ⟨0x010, 0x4, 1, 0x40A, 0x0, 0x3FFF, 0x0, 0x0⟩, -- MOT_PWM
  ⟨0x014, 0x4, 1, 0x55, 0x0, 0x3FF, 0x0, 0x0⟩, -- MOT_SAMPLE
  ⟨0x018, 0x4, 1, 0x0, 0x0, 0xFFFFFFFF, 0x0, 0x0⟩, -- MOT_SHUNT_SCALE
  ⟨0x01C, 0x4, 1, 0x1, 0x0, 0x3, 0x0, 0x0⟩, -- MOT_SHUNT_CFG
  ⟨0x020, 0x4, 1, 0x0, 0x0, 0x0, 0x0, 0x0⟩, -- MOT_MODE
  ⟨0x024, 0x4, 3, 0x0, 0x0, 0x0, 0x0, 0x0⟩, -- MOT_DUTY_p
  ⟨0x030, 0x4, 1, 0x30D4, 0x0, 0x0, 0x0, 0x0⟩, -- MOT_HALF
  ⟨0x034, 0x4, 1, 0x0, 0x0, 0x0, 0x0, 0x0⟩, -- MOT_I_NEW
  ⟨0x038, 0x4, 1, 0x0, 0x0, 0x0, 0x0, 0x0⟩, -- MOT_I_OLD
  ⟨0x03C, 0x4, 1, 0x0, 0x0, 0x0, 0x0, 0x0⟩, -- MOT_TAG
  ⟨0x040, 0x4, 1, 0x0, 0x0, 0x0, 0x0, 0x0⟩, -- MOT_UDC
  ⟨0x044, 0x4, 3, 0x0, 0x0, 0x0, 0x0, 0x0⟩, -- MOT_UPH_p
  ⟨0x050, 0x4, 1, 0x2000, 0x0, 0x0, 0x0, 0x0⟩, -- MOT_ZERO_CODE
  ⟨0x054, 0x4, 1, 0x0, 0x0, 0x0, 0x0, 0x0⟩, -- MOT_SAMPLE_LAST
  ⟨0x058, 0x4, 1, 0x0, 0x0, 0x0, 0x0, 0x0⟩, -- MOT_REPEAT_CNT
  ⟨0x05C, 0x4, 1, 0x0, 0x0, 0x0, 0x0, 0x0⟩, -- MOT_NOSAMPLE_CNT
  ⟨0x060, 0x4, 1, 0x0, 0x0, 0x0, 0x0, 0x0⟩, -- MOT_STALE_PAIR_CNT
  ⟨0x064, 0x4, 1, 0x0, 0x0, 0x0, 0x0, 0x0⟩, -- MOT_MINPULSE_CNT
  ⟨0x068, 0x4, 1, 0x0, 0x0, 0x0, 0x0, 0x0⟩, -- MOT_STATE_CHG_CNT
  ⟨0x06C, 0x4, 1, 0x0, 0x0, 0x0, 0x0, 0x0⟩ -- MOT_FORCED_CNT
]
/-- Register kinds of block MOT, part 1. -/
def kindsMOT_1 : List RegKind := [
  ⟨0x070, 0x4, 1, 0x0, 0x0, 0x0, 0x0, 0x0⟩, -- MOT_ASC_CNT
  ⟨0x074, 0x4, 1, 0x0, 0x0, 0x0, 0x0, 0x0⟩, -- MOT_PWM_STALE_CNT
  ⟨0x078, 0x4, 1, 0x0, 0x0, 0x0, 0x0, 0x0⟩, -- MOT_PEAK_I
  ⟨0x07C, 0x4, 1, 0x0, 0x0, 0x0, 0x0, 0x0⟩, -- MOT_UDC_PEAK
  ⟨0x080, 0x4, 32, 0x0, 0x0, 0x0, 0x0, 0x0⟩ -- MOT_LOG_k
]
/-- Register kinds of block MOT. -/
def kindsMOT : List RegKind := kindsMOT_0 ++ kindsMOT_1

/-- Register kinds of block GDR, part 0. -/
def kindsGDR_0 : List RegKind := [
  ⟨0x000, 0x4, 1, 0x0, 0x0, 0x0, 0x0, 0x0⟩, -- GDR_STATUS
  ⟨0x004, 0x4, 1, 0x44B5A00, 0x0, 0xFFFFF00, 0x0, 0x0⟩, -- GDR_CFG
  ⟨0x008, 0x4, 1, 0x0, 0x0, 0x0, 0x0, 0x0⟩, -- GDR_EVENT
  ⟨0x00C, 0x4, 1, 0x0, 0x0, 0xFFF, 0x0, 0x0⟩, -- GDR_EVENT_MASK
  ⟨0x010, 0x4, 1, 0xA00, 0x0, 0xFF00, 0x0, 0x0⟩, -- GDR_XDIS
  ⟨0x014, 0x4, 2, 0xECE8E0D8, 0x0, 0xFFFFFFFF, 0x0, 0x0⟩, -- GDR_LINK_CFG_l
  ⟨0x01C, 0x4, 2, 0x0, 0x0, 0x0, 0x0, 0x0⟩, -- GDR_LINK_STAT_l
  ⟨0x024, 0x4, 1, 0x0, 0x0, 0x0, 0x0, 0x0⟩, -- GDR_REFRESH_CNT
  ⟨0x028, 0x4, 1, 0x0, 0x0, 0x0, 0x0, 0x0⟩, -- GDR_SHOOT_CNT
  ⟨0x02C, 0x4, 1, 0x0, 0x0, 0x0, 0x0, 0x0⟩, -- GDR_DESAT_CNT
  ⟨0x030, 0x4, 1, 0x0, 0x0, 0x0, 0x0, 0x0⟩, -- GDR_OC_CNT
  ⟨0x034, 0x4, 1, 0x0, 0x0, 0x0, 0x0, 0x0⟩, -- GDR_CLEAR_CNT
  ⟨0x040, 0x10, 3, 0x1000028, 0x0, 0x10001FF, 0x0, 0x0⟩, -- GDR_BRIDGE_CFG_b
  ⟨0x044, 0x10, 3, 0xA64, 0x0, 0xFFFF, 0x0, 0x0⟩, -- GDR_DESAT_b
  ⟨0x048, 0x10, 3, 0x1423, 0x0, 0xFFFF, 0x0, 0x0⟩, -- GDR_OC_b
  ⟨0x04C, 0x10, 3, 0x50, 0x0, 0x0, 0x0, 0x0⟩, -- GDR_BRIDGE_STAT_b
  ⟨0x080, 0x4, 18, 0x0, 0x0, 0x0, 0x0, 0x0⟩, -- GDR_GATE_g
  ⟨0x100, 0x20, 12, 0xA3202, 0x0, 0xFFFF07, 0x0, 0x0⟩, -- GDR_SOL_CFG_k
  ⟨0x104, 0x20, 12, 0x0, 0x0, 0xFFFF, 0x0, 0x0⟩, -- GDR_SOL_DITHER_k
  ⟨0x108, 0x20, 12, 0x0, 0x0, 0x0, 0x0, 0x0⟩, -- GDR_SOL_SET_k
  ⟨0x10C, 0x20, 12, 0x0, 0x0, 0x0, 0x0, 0x0⟩, -- GDR_SOL_I_k
  ⟨0x110, 0x20, 12, 0x0, 0x0, 0x0, 0x0, 0x0⟩, -- GDR_SOL_STAT_k
  ⟨0x300, 0x8, 4, 0x500, 0x0, 0xFF03, 0x0, 0x0⟩, -- GDR_EN_CFG_e
  ⟨0x304, 0x8, 4, 0x0, 0x0, 0x0, 0x0, 0x0⟩ -- GDR_EN_STAT_e
]
/-- Register kinds of block GDR, part 1. -/
def kindsGDR_1 : List RegKind := [
  ⟨0x340, 0x8, 4, 0x0, 0x0, 0x3, 0x0, 0x0⟩, -- GDR_SS_CFG_s
  ⟨0x344, 0x8, 4, 0x0, 0x0, 0x0, 0x0, 0x0⟩ -- GDR_SS_STAT_s
]
/-- Register kinds of block GDR. -/
def kindsGDR : List RegKind := kindsGDR_0 ++ kindsGDR_1

/-- Register kinds of block ADC, part 0. -/
def kindsADC_0 : List RegKind := [
  ⟨0x000, 0x4, 1, 0x0, 0x0, 0x0, 0x0, 0x0⟩, -- ADC_STATUS
  ⟨0x004, 0x4, 1, 0xA280A00, 0x0, 0xFFFFFF00, 0x0, 0x0⟩, -- ADC_CFG
  ⟨0x008, 0x4, 1, 0x0, 0x0, 0x0, 0x0, 0x0⟩, -- ADC_EVENT
  ⟨0x00C, 0x4, 1, 0x0, 0x0, 0xFF, 0x0, 0x0⟩, -- ADC_EVENT_MASK
  ⟨0x010, 0x4, 1, 0x1010, 0x0, 0xFFFF, 0x0, 0x0⟩, -- ADC_REF_CFG
  ⟨0x014, 0x4, 1, 0x0, 0x0, 0x0, 0x0, 0x0⟩, -- ADC_DAC
  ⟨0x018, 0x4, 1, 0x0, 0x0, 0x0, 0x0, 0xFFFF⟩, -- ADC_START
  ⟨0x040, 0x4, 1, 0x0, 0x0, 0x0, 0x0, 0x0⟩, -- ADC_OVR_CNT
  ⟨0x044, 0x4, 1, 0x0, 0x0, 0x0, 0x0, 0x0⟩, -- ADC_OPEN_CNT
  ⟨0x048, 0x4, 1, 0x0, 0x0, 0x0, 0x0, 0x0⟩, -- ADC_PAIR_FAIL_CNT
  ⟨0x04C, 0x4, 1, 0x0, 0x0, 0x0, 0x0, 0x0⟩, -- ADC_INJ_CNT
  ⟨0x050, 0x4, 1, 0x0, 0x0, 0x0, 0x0, 0x0⟩, -- ADC_PREEMPT_CNT
  ⟨0x054, 0x4, 1, 0x0, 0x0, 0x0, 0x0, 0x0⟩, -- ADC_TRIG_LOST_CNT
  ⟨0x058, 0x4, 1, 0x0, 0x0, 0x0, 0x0, 0x0⟩, -- ADC_SEQ_OVERRUN_CNT
  ⟨0x05C, 0x4, 1, 0x0, 0x0, 0x0, 0x0, 0x0⟩, -- ADC_REF_FAIL_CNT
  ⟨0x060, 0x4, 1, 0x0, 0x0, 0x0, 0x0, 0x0⟩, -- ADC_REF_CHK_CNT
  ⟨0x064, 0x4, 1, 0x0, 0x0, 0x0, 0x0, 0x0⟩, -- ADC_START_CNT
  ⟨0x068, 0x4, 1, 0x0, 0x0, 0x0, 0x0, 0x0⟩, -- ADC_GROUP_CNT
  ⟨0x06C, 0x4, 1, 0x0, 0x0, 0x0, 0x0, 0x0⟩, -- ADC_LOOPBACK_FAIL_CNT
  ⟨0x100, 0x20, 8, 0x0, 0x0, 0x8001070F, 0x0, 0x0⟩, -- ADC_CONV_CFG_v
  ⟨0x104, 0x20, 8, 0x0, 0x0, 0x1F1F, 0x0, 0x0⟩, -- ADC_TRIG_v
  ⟨0x108, 0x20, 8, 0x0, 0x0, 0x3F3F3F3F, 0x0, 0x0⟩, -- ADC_RSEQ_LO_v
  ⟨0x10C, 0x20, 8, 0x0, 0x0, 0x3F3F3F3F, 0x0, 0x0⟩, -- ADC_RSEQ_HI_v
  ⟨0x110, 0x20, 8, 0x0, 0x0, 0x3F3F3F3F, 0x0, 0x0⟩ -- ADC_ISEQ_v
]
/-- Register kinds of block ADC, part 1. -/
def kindsADC_1 : List RegKind := [
  ⟨0x114, 0x20, 8, 0x0, 0x0, 0x0, 0x0, 0x0⟩, -- ADC_CONV_STAT_v
  ⟨0x118, 0x20, 8, 0x0, 0x0, 0x0, 0x0, 0x0⟩, -- ADC_REF_v
  ⟨0x11C, 0x20, 8, 0x0, 0x0, 0x0, 0x0, 0x0⟩, -- ADC_CONV_CNT_v
  ⟨0x200, 0x4, 64, 0xFF0000, 0x0, 0x0, 0x0, 0x0⟩, -- ADC_RESULT_c
  ⟨0x300, 0x4, 8, 0x44444444, 0x0, 0xFFFFFFFF, 0x0, 0x0⟩, -- ADC_SAMPLE_w
  ⟨0x320, 0x4, 3, 0x0, 0x0, 0xFFFFFFFF, 0x0, 0x0⟩, -- ADC_OW_CFG_w
  ⟨0x330, 0x4, 2, 0x0, 0x0, 0x0, 0x0, 0x0⟩, -- ADC_OVR_w
  ⟨0x338, 0x4, 2, 0x0, 0x0, 0x0, 0x0, 0x0⟩, -- ADC_OPEN_w
  ⟨0x340, 0x4, 4, 0x0, 0x0, 0x80001FFF, 0x0, 0x0⟩, -- ADC_GROUP_g
  ⟨0x380, 0x10, 4, 0x3, 0x0, 0x9F3F00FF, 0x0, 0x0⟩, -- ADC_PAIR_CFG_p
  ⟨0x384, 0x10, 4, 0x20, 0x0, 0x3FFF, 0x0, 0x0⟩, -- ADC_PAIR_WIN_p
  ⟨0x388, 0x10, 4, 0x0, 0x0, 0x0, 0x0, 0x0⟩, -- ADC_PAIR_STAT_p
  ⟨0x38C, 0x10, 4, 0x0, 0x0, 0x0, 0x0, 0x0⟩ -- ADC_PAIR_LAST_p
]
/-- Register kinds of block ADC. -/
def kindsADC : List RegKind := kindsADC_0 ++ kindsADC_1

/-- Register kinds of block FLU, part 0. -/
def kindsFLU_0 : List RegKind := [
  ⟨0x000, 0x4, 1, 0x0, 0x0, 0x0, 0x0, 0x0⟩, -- FLU_STATUS
  ⟨0x004, 0x4, 1, 0xFA0003, 0x0, 0x3FF0003, 0x0, 0x0⟩, -- FLU_CFG
  ⟨0x008, 0x4, 1, 0x0, 0x0, 0x0, 0x0, 0x0⟩, -- FLU_EVENT
  ⟨0x00C, 0x4, 1, 0x0, 0x0, 0xFFF, 0x0, 0x0⟩, -- FLU_EVENT_MASK
  ⟨0x010, 0x4, 1, 0x0, 0x0, 0x31F, 0x0, 0x0⟩, -- FLU_NODE
  ⟨0x014, 0x4, 1, 0x2, 0x0, 0x0, 0x0, 0x0⟩, -- FLU_PORT_A
  ⟨0x018, 0x4, 1, 0x2, 0x0, 0x0, 0x0, 0x0⟩, -- FLU_PORT_B
  ⟨0x01C, 0x4, 1, 0x0, 0x0, 0x0, 0x0, 0x0⟩, -- FLU_TIME_LO
  ⟨0x020, 0x4, 1, 0x0, 0x0, 0x0, 0x0, 0x0⟩, -- FLU_TIME_HI
  ⟨0x024, 0x4, 1, 0x0, 0x0, 0x0, 0x0, 0x0⟩, -- FLU_CYCLE
  ⟨0x028, 0x4, 1, 0x0, 0x0, 0x0, 0x0, 0x0⟩, -- FLU_SCHED
  ⟨0x02C, 0x4, 1, 0x0, 0x0, 0x0, 0x0, 0x0⟩, -- FLU_OFFSET_CORR
  ⟨0x030, 0x4, 1, 0x0, 0x0, 0x0, 0x0, 0x0⟩, -- FLU_RATE_CORR
  ⟨0x034, 0x4, 1, 0x0, 0x0, 0x0, 0x0, 0x0⟩, -- FLU_SYNC_STAT
  ⟨0x038, 0x4, 1, 0x0, 0x0, 0x0, 0x0, 0x0⟩, -- FLU_DYN
  ⟨0x03C, 0x4, 1, 0x0, 0x0, 0x0, 0x0, 0x0⟩, -- FLU_CMD
  ⟨0x040, 0x4, 1, 0x0, 0x0, 0x0, 0x0, 0x0⟩, -- FLU_LAST_REJ
  ⟨0x044, 0x4, 1, 0x10000, 0x0, 0x0, 0x0, 0x0⟩, -- FLU_DAMPER
  ⟨0x080, 0x4, 1, 0x0, 0x0, 0x0, 0x0, 0x0⟩, -- FLU_RX_A_CNT
  ⟨0x084, 0x4, 1, 0x0, 0x0, 0x0, 0x0, 0x0⟩, -- FLU_RX_B_CNT
  ⟨0x088, 0x4, 1, 0x0, 0x0, 0x0, 0x0, 0x0⟩, -- FLU_HCRC_A_CNT
  ⟨0x08C, 0x4, 1, 0x0, 0x0, 0x0, 0x0, 0x0⟩, -- FLU_HCRC_B_CNT
  ⟨0x090, 0x4, 1, 0x0, 0x0, 0x0, 0x0, 0x0⟩, -- FLU_CRC_A_CNT
  ⟨0x094, 0x4, 1, 0x0, 0x0, 0x0, 0x0, 0x0⟩ -- FLU_CRC_B_CNT
]
/-- Register kinds of block FLU, part 1. -/
def kindsFLU_1 : List RegKind := [
  ⟨0x098, 0x4, 1, 0x0, 0x0, 0x0, 0x0, 0x0⟩, -- FLU_WINDOW_A_CNT
  ⟨0x09C, 0x4, 1, 0x0, 0x0, 0x0, 0x0, 0x0⟩, -- FLU_WINDOW_B_CNT
  ⟨0x0A0, 0x4, 1, 0x0, 0x0, 0x0, 0x0, 0x0⟩, -- FLU_CODE_A_CNT
  ⟨0x0A4, 0x4, 1, 0x0, 0x0, 0x0, 0x0, 0x0⟩, -- FLU_CODE_B_CNT
  ⟨0x0A8, 0x4, 1, 0x0, 0x0, 0x0, 0x0, 0x0⟩, -- FLU_LOCK_A_CNT
  ⟨0x0AC, 0x4, 1, 0x0, 0x0, 0x0, 0x0, 0x0⟩, -- FLU_LOCK_B_CNT
  ⟨0x0B0, 0x4, 1, 0x0, 0x0, 0x0, 0x0, 0x0⟩, -- FLU_TRUNC_CNT
  ⟨0x0B4, 0x4, 1, 0x0, 0x0, 0x0, 0x0, 0x0⟩, -- FLU_BLOCK_CNT
  ⟨0x0B8, 0x4, 1, 0x0, 0x0, 0x0, 0x0, 0x0⟩, -- FLU_REPEAT_CNT
  ⟨0x0BC, 0x4, 1, 0x0, 0x0, 0x0, 0x0, 0x0⟩, -- FLU_RING_DIFF_CNT
  ⟨0x0C0, 0x4, 1, 0x0, 0x0, 0x0, 0x0, 0x0⟩, -- FLU_DYN_DEFER_CNT
  ⟨0x0C4, 0x4, 1, 0x0, 0x0, 0x0, 0x0, 0x0⟩, -- FLU_CMD_REC_CNT
  ⟨0x0C8, 0x4, 1, 0x0, 0x0, 0x0, 0x0, 0x0⟩, -- FLU_FWD_ABORT_CNT
  ⟨0x0CC, 0x4, 1, 0x0, 0x0, 0x0, 0x0, 0x0⟩, -- FLU_TAIL_ERR_CNT
  ⟨0x100, 0x4, 8, 0x0, 0x0, 0x0, 0x0, 0x0⟩, -- FLU_OWN_k
  ⟨0x120, 0x4, 8, 0x0, 0x0, 0x0, 0x0, 0x0⟩, -- FLU_SCHED_INFO_k
  ⟨0x140, 0x4, 1, 0x0, 0x0, 0x0, 0x0, 0x0⟩, -- FLU_HEARD_A
  ⟨0x144, 0x4, 1, 0x0, 0x0, 0x0, 0x0, 0x0⟩, -- FLU_HEARD_B
  ⟨0x200, 0x4, 32, 0x0, 0x0, 0x1FFFFF, 0x0, 0x0⟩, -- FLU_POSDLY_A_n
  ⟨0x280, 0x4, 32, 0x0, 0x0, 0x1FFFFF, 0x0, 0x0⟩, -- FLU_POSDLY_B_n
  ⟨0x300, 0x4, 48, 0x0, 0x0, 0x0, 0x0, 0x0⟩, -- FLU_SLOT_RX_s
  ⟨0x400, 0x4, 32, 0x0, 0x0, 0x0, 0x0, 0x0⟩ -- FLU_BN_STAT_n
]
/-- Register kinds of block FLU. -/
def kindsFLU : List RegKind := kindsFLU_0 ++ kindsFLU_1

/-- Register kinds of block CAN. -/
def kindsCAN : List RegKind := [
  ⟨0x000, 0x4, 1, 0x2000000, 0x0, 0xFF000000, 0x0, 0x0⟩, -- CAN_CFG
  ⟨0x004, 0x4, 1, 0x3F204004, 0x0, 0xFFFFFFFF, 0x0, 0x0⟩, -- CAN_NBT
  ⟨0x008, 0x4, 1, 0x1F8801, 0x0, 0x1FFF1F, 0x0, 0x0⟩, -- CAN_DBT
  ⟨0x00C, 0x4, 1, 0x0, 0x0, 0x1FF, 0x0, 0x0⟩, -- CAN_TDC
  ⟨0x010, 0x4, 1, 0x300, 0x0, 0x0, 0x0, 0x0⟩, -- CAN_STATUS
  ⟨0x014, 0x4, 1, 0x0, 0x0, 0x0, 0x0, 0x0⟩, -- CAN_EVENT
  ⟨0x018, 0x4, 1, 0x0, 0x0, 0xFF, 0x0, 0x0⟩, -- CAN_EVENT_MASK
  ⟨0x01C, 0x4, 1, 0x0, 0x0, 0x0, 0x0, 0x0⟩, -- CAN_ERR
  ⟨0x020, 0x4, 1, 0x0, 0x0, 0x0, 0x0, 0x0⟩, -- CAN_RXF_STAT
  ⟨0x024, 0x4, 1, 0x80, 0x0, 0x8FFFFFFF, 0x0, 0x0⟩, -- CAN_ISO_CFG
  ⟨0x028, 0x4, 1, 0x0, 0x0, 0xFFFFFFFF, 0x0, 0x0⟩, -- CAN_ISO_NAME_LO
  ⟨0x02C, 0x4, 1, 0x0, 0x0, 0xFFFFFFFF, 0x0, 0x0⟩, -- CAN_ISO_NAME_HI
  ⟨0x030, 0x4, 1, 0xFE, 0x0, 0x0, 0x0, 0x0⟩, -- CAN_ISO_STAT
  ⟨0x034, 0x4, 3, 0x0, 0x0, 0x0, 0x0, 0x0⟩, -- CAN_TXBUF_b
  ⟨0x040, 0x4, 4, 0x0, 0x0, 0x0, 0x0, 0x0⟩, -- CAN_CNT_k
  ⟨0x050, 0x4, 4, 0x0, 0x0, 0x9FFFFFFF, 0x0, 0x0⟩, -- CAN_MASK_m
  ⟨0x080, 0x4, 32, 0x0, 0x0, 0xFFFFFFFF, 0x0, 0x0⟩ -- CAN_FILT_f
]

/-- Register kinds of block ETH, part 0. -/
def kindsETH_0 : List RegKind := [
  ⟨0x000, 0x4, 1, 0x70000000, 0x0, 0xF0000000, 0x0, 0x0⟩, -- ETH_CFG
  ⟨0x004, 0x4, 1, 0x0, 0x0, 0x0, 0x0, 0x0⟩, -- ETH_STATUS
  ⟨0x008, 0x4, 1, 0x0, 0x0, 0x0, 0x0, 0x0⟩, -- ETH_EVENT
  ⟨0x00C, 0x4, 1, 0x0, 0x0, 0xFF, 0x0, 0x0⟩, -- ETH_EVENT_MASK
  ⟨0x010, 0x4, 1, 0x0, 0x0, 0xFFFFFFFF, 0x0, 0x0⟩, -- ETH_MAC_LO
  ⟨0x014, 0x4, 1, 0x0, 0x0, 0xFFFF, 0x0, 0x0⟩, -- ETH_MAC_HI
  ⟨0x018, 0x4, 1, 0x0, 0x0, 0xFFFFFFFF, 0x0, 0x0⟩, -- ETH_IP
  ⟨0x01C, 0x4, 1, 0x0, 0x0, 0xFFFFFFFF, 0x0, 0x0⟩, -- ETH_NETMASK
  ⟨0x020, 0x4, 1, 0x0, 0x0, 0xFFFFFFFF, 0x0, 0x0⟩, -- ETH_GATEWAY
  ⟨0x024, 0x4, 1, 0x0, 0x0, 0x10FFF, 0x0, 0x0⟩, -- ETH_VLAN
  ⟨0x028, 0x4, 1, 0x60300200, 0x0, 0xFFFFFFFF, 0x0, 0x0⟩, -- ETH_PAUSE
  ⟨0x02C, 0x4, 1, 0x3000000, 0x0, 0xC7FFFFFF, 0x0, 0x0⟩, -- ETH_PTP_CFG
  ⟨0x030, 0x4, 1, 0x0, 0x0, 0x0, 0x0, 0x0⟩, -- ETH_PTP_STAT
  ⟨0x034, 0x4, 1, 0x0, 0x0, 0x0, 0x0, 0x0⟩, -- ETH_RXBUF
  ⟨0x038, 0x4, 1, 0x0, 0x0, 0x0, 0x0, 0x0⟩, -- ETH_LAST_DROP
  ⟨0x03C, 0x4, 1, 0x0, 0x0, 0x1F000000, 0x0, 0x0⟩, -- ETH_PHY
  ⟨0x040, 0x4, 1, 0x0, 0x0, 0x0, 0x0, 0x0⟩, -- ETH_RX_OK_CNT
  ⟨0x044, 0x4, 1, 0x0, 0x0, 0x0, 0x0, 0x0⟩, -- ETH_TX_OK_CNT
  ⟨0x048, 0x4, 1, 0x0, 0x0, 0x0, 0x0, 0x0⟩, -- ETH_DROP_CRC_CNT
  ⟨0x04C, 0x4, 1, 0x0, 0x0, 0x0, 0x0, 0x0⟩, -- ETH_DROP_LEN_CNT
  ⟨0x050, 0x4, 1, 0x0, 0x0, 0x0, 0x0, 0x0⟩, -- ETH_DROP_MAC_CNT
  ⟨0x054, 0x4, 1, 0x0, 0x0, 0x0, 0x0, 0x0⟩, -- ETH_DROP_VLAN_CNT
  ⟨0x058, 0x4, 1, 0x0, 0x0, 0x0, 0x0, 0x0⟩, -- ETH_DROP_ETYPE_CNT
  ⟨0x05C, 0x4, 1, 0x0, 0x0, 0x0, 0x0, 0x0⟩ -- ETH_DROP_IP_CNT
]
/-- Register kinds of block ETH, part 1. -/
def kindsETH_1 : List RegKind := [
  ⟨0x060, 0x4, 1, 0x0, 0x0, 0x0, 0x0, 0x0⟩, -- ETH_DROP_PORT_CNT
  ⟨0x064, 0x4, 1, 0x0, 0x0, 0x0, 0x0, 0x0⟩, -- ETH_DROP_FULL_CNT
  ⟨0x068, 0x4, 1, 0x0, 0x0, 0x0, 0x0, 0x0⟩, -- ETH_PAUSE_RX_CNT
  ⟨0x06C, 0x4, 1, 0x0, 0x0, 0x0, 0x0, 0x0⟩, -- ETH_PAUSE_TX_CNT
  ⟨0x070, 0x4, 1, 0x0, 0x0, 0x0, 0x0, 0x0⟩, -- ETH_TX_DEFER_CNT
  ⟨0x074, 0x4, 1, 0x0, 0x0, 0x0, 0x0, 0x0⟩, -- ETH_ARP_MISS_CNT
  ⟨0x078, 0x4, 1, 0x0, 0x0, 0x0, 0x0, 0x0⟩, -- ETH_ARP_RX_CNT
  ⟨0x07C, 0x4, 1, 0x0, 0x0, 0x0, 0x0, 0x0⟩, -- ETH_ICMP_CNT
  ⟨0x080, 0x4, 1, 0x0, 0x0, 0x0, 0x0, 0x0⟩, -- ETH_PTP_SYNC_CNT
  ⟨0x084, 0x4, 1, 0x0, 0x0, 0x0, 0x0, 0x0⟩, -- ETH_PTP_DRESP_CNT
  ⟨0x088, 0x4, 1, 0x0, 0xF, 0x0, 0x0, 0x0⟩, -- ETH_ARP_SEL
  ⟨0x08C, 0x4, 1, 0x0, 0x0, 0x0, 0x0, 0x0⟩, -- ETH_ARP_IP
  ⟨0x090, 0x4, 1, 0x0, 0x0, 0x0, 0x0, 0x0⟩, -- ETH_ARP_MAC_LO
  ⟨0x094, 0x4, 1, 0x0, 0x0, 0x0, 0x0, 0x0⟩, -- ETH_ARP_MAC_HI
  ⟨0x100, 0x8, 16, 0x0, 0x0, 0xFFFFFFFF, 0x0, 0x0⟩, -- ETH_TXD_IP_m
  ⟨0x104, 0x8, 16, 0x0, 0x0, 0xC000FFFF, 0x0, 0x0⟩ -- ETH_TXD_PORT_m
]
/-- Register kinds of block ETH. -/
def kindsETH : List RegKind := kindsETH_0 ++ kindsETH_1

/-- Register kinds of block SAF, part 0. -/
def kindsSAF_0 : List RegKind := [
  ⟨0x000, 0x4, 1, 0x1, 0x0, 0x0, 0x0, 0x0⟩, -- SAF_STATUS
  ⟨0x004, 0x4, 1, 0x401, 0x0, 0xFF01, 0x0, 0x0⟩, -- SAF_CFG
  ⟨0x008, 0x4, 1, 0x0, 0x0, 0x0, 0x0, 0x0⟩, -- SAF_EVENT
  ⟨0x00C, 0x4, 1, 0x0, 0x0, 0x1FF, 0x0, 0x0⟩, -- SAF_EVENT_MASK
  ⟨0x010, 0x4, 1, 0x1, 0x0, 0x1, 0x0, 0x0⟩, -- SAF_PULSE_CFG
  ⟨0x014, 0x4, 1, 0x0, 0x0, 0x0, 0x0, 0x0⟩, -- SAF_SLS_STAT
  ⟨0x018, 0x4, 1, 0x0, 0x0, 0x0, 0x0, 0x0⟩, -- SAF_SLP_STAT
  ⟨0x01C, 0x4, 1, 0x0, 0x0, 0x0, 0x0, 0x0⟩, -- SAF_SDI_STAT
  ⟨0x020, 0x4, 1, 0x0, 0x0, 0x0, 0x0, 0x0⟩, -- SAF_LIMP_STAT
  ⟨0x024, 0x4, 1, 0x0, 0x0, 0x0, 0x0, 0x0⟩, -- SAF_STILL
  ⟨0x028, 0x4, 1, 0x0, 0x0, 0x0, 0x0, 0x0⟩, -- SAF_REACT_LAST
  ⟨0x02C, 0x4, 1, 0x0, 0x0, 0x0, 0x0, 0x0⟩, -- SAF_REACT_MAX
  ⟨0x030, 0x4, 1, 0x0, 0x0, 0x0, 0x0, 0x0⟩, -- SAF_LAST_RAISE
  ⟨0x034, 0x4, 1, 0x0, 0x0, 0x0, 0x0, 0x0⟩, -- SAF_INST_SLS
  ⟨0x038, 0x4, 1, 0x0, 0x0, 0x0, 0x0, 0x0⟩, -- SAF_INST_SLP
  ⟨0x03C, 0x4, 1, 0x0, 0x0, 0x0, 0x0, 0x0⟩, -- SAF_INST_SDI
  ⟨0x040, 0x4, 1, 0x0, 0x0, 0x0, 0x0, 0x0⟩, -- SAF_PULSE_NEXT
  ⟨0x044, 0x4, 1, 0x0, 0x0, 0x0, 0x0, 0x0⟩, -- SAF_RX_VALID
  ⟨0x080, 0x20, 6, 0x0, 0x0, 0xBF1F001F, 0x0, 0x0⟩, -- SAF_RX_CFG_r
  ⟨0x084, 0x20, 6, 0x0, 0x0, 0x0, 0x0, 0x0⟩, -- SAF_RX_STAT_r
  ⟨0x088, 0x20, 6, 0x0, 0x0, 0x0, 0x0, 0x0⟩, -- SAF_RX_BOTH_CNT_r
  ⟨0x08C, 0x20, 6, 0x0, 0x0, 0x0, 0x0, 0x0⟩, -- SAF_RX_ONE_CNT_r
  ⟨0x090, 0x20, 6, 0x0, 0x0, 0x0, 0x0, 0x0⟩, -- SAF_RX_BAD_CNT_r
  ⟨0x094, 0x20, 6, 0x0, 0x0, 0x0, 0x0, 0x0⟩ -- SAF_RX_LAST_r
]
/-- Register kinds of block SAF, part 1. -/
def kindsSAF_1 : List RegKind := [
  ⟨0x180, 0x4, 8, 0x0, 0x0, 0x0, 0x0, 0x0⟩, -- SAF_TX_t
  ⟨0x1C0, 0x4, 1, 0x0, 0x0, 0x0, 0x0, 0x0⟩, -- SAF_SLS_LIMIT_CNT
  ⟨0x1C4, 0x4, 1, 0x0, 0x0, 0x0, 0x0, 0x0⟩, -- SAF_SLS_OVER_CNT
  ⟨0x1C8, 0x4, 1, 0x0, 0x0, 0x0, 0x0, 0x0⟩, -- SAF_SLS_PLAUS_CNT
  ⟨0x1CC, 0x4, 1, 0x0, 0x0, 0x0, 0x0, 0x0⟩, -- SAF_SLP_CLAMP_CNT
  ⟨0x1D0, 0x4, 1, 0x0, 0x0, 0x0, 0x0, 0x0⟩, -- SAF_SLP_OVER_CNT
  ⟨0x1D4, 0x4, 1, 0x0, 0x0, 0x0, 0x0, 0x0⟩, -- SAF_SLP_APPROACH_CNT
  ⟨0x1D8, 0x4, 1, 0x0, 0x0, 0x0, 0x0, 0x0⟩, -- SAF_SDI_TRAVEL_CNT
  ⟨0x1DC, 0x4, 1, 0x0, 0x0, 0x0, 0x0, 0x0⟩, -- SAF_SDI_STEER_CNT
  ⟨0x1E0, 0x4, 1, 0x0, 0x0, 0x0, 0x0, 0x0⟩, -- SAF_LIMP_CLAMP_CNT
  ⟨0x1E4, 0x4, 1, 0x0, 0x0, 0x0, 0x0, 0x0⟩, -- SAF_PULSE_CNT
  ⟨0x1E8, 0x4, 1, 0x0, 0x0, 0x0, 0x0, 0x0⟩, -- SAF_PULSE_SHORT_CNT
  ⟨0x1EC, 0x4, 1, 0x0, 0x0, 0x0, 0x0, 0x0⟩, -- SAF_PULSE_NODROP_CNT
  ⟨0x1F0, 0x4, 1, 0x0, 0x0, 0x0, 0x0, 0x0⟩, -- SAF_RX_DIFF_CNT
  ⟨0x1F4, 0x4, 1, 0x0, 0x0, 0x0, 0x0, 0x0⟩, -- SAF_RX_SCRC_CNT
  ⟨0x1F8, 0x4, 1, 0x0, 0x0, 0x0, 0x0, 0x0⟩, -- SAF_RX_SEQ_CNT
  ⟨0x1FC, 0x4, 1, 0x0, 0x0, 0x0, 0x0, 0x0⟩, -- SAF_REACT_OVERRUN_CNT
  ⟨0x200, 0x4, 4, 0x0, 0x0, 0x0, 0x0, 0x0⟩, -- SAF_PULSE_STAT_s
  ⟨0x220, 0x4, 8, 0x0, 0x0, 0x0, 0x0, 0x0⟩ -- SAF_DEMAND_LOG_k
]
/-- Register kinds of block SAF. -/
def kindsSAF : List RegKind := kindsSAF_0 ++ kindsSAF_1

/-- Register kinds of block LDS, part 0. -/
def kindsLDS_0 : List RegKind := [
  ⟨0x000, 0x4, 1, 0x0, 0x0, 0x0, 0x0, 0x0⟩, -- LDS_STATUS
  ⟨0x004, 0x4, 1, 0x4100413, 0x0, 0xFCFFFFFF, 0x0, 0x0⟩, -- LDS_CFG
  ⟨0x008, 0x4, 1, 0x80204, 0x0, 0xFFFFFF, 0x0, 0x0⟩, -- LDS_TIMING
  ⟨0x00C, 0x4, 1, 0x3C00C8, 0x0, 0x3FFFFFF, 0x0, 0x0⟩, -- LDS_GRACE
  ⟨0x010, 0x4, 1, 0x0, 0x0, 0x0, 0x0, 0x0⟩, -- LDS_EVENT
  ⟨0x014, 0x4, 1, 0x0, 0x0, 0x7FF, 0x0, 0x0⟩, -- LDS_EVENT_MASK
  ⟨0x018, 0x4, 1, 0xFFFFFFFF, 0x0, 0xFFFFFFFF, 0x0, 0x0⟩, -- LDS_TAP_0
  ⟨0x01C, 0x4, 1, 0xFFFFFFFF, 0x0, 0xFFFFFFFF, 0x0, 0x0⟩, -- LDS_TAP_1
  ⟨0x020, 0x4, 1, 0x0, 0x0, 0x0, 0x0, 0x0⟩, -- LDS_XDIS
  ⟨0x024, 0x4, 1, 0x0, 0x0, 0x0, 0x0, 0x0⟩, -- LDS_LAST_HO
  ⟨0x028, 0x4, 1, 0x0, 0x0, 0x0, 0x0, 0x0⟩, -- LDS_INTAKE
  ⟨0x02C, 0x4, 1, 0x0, 0x0, 0x0, 0x0, 0x0⟩, -- LDS_ALIGN
  ⟨0x030, 0x4, 1, 0x0, 0x0, 0x0, 0x0, 0x0⟩, -- LDS_SAMPLE
  ⟨0x034, 0x4, 1, 0x0, 0x0, 0x0, 0x0, 0x0⟩, -- LDS_DIGEST_OWN
  ⟨0x038, 0x4, 1, 0x0, 0x0, 0x0, 0x0, 0x0⟩, -- LDS_DIGEST_LEAD
  ⟨0x03C, 0x4, 1, 0x0, 0x0, 0x0, 0x0, 0x0⟩, -- LDS_DIGEST_CYCLE
  ⟨0x040, 0x10, 3, 0x0, 0x0, 0x8000001F, 0x0, 0x0⟩, -- LDS_PEER_CFG_i
  ⟨0x044, 0x10, 3, 0x0, 0x0, 0x0, 0x0, 0x0⟩, -- LDS_PEER_STAT_i
  ⟨0x048, 0x10, 3, 0x0, 0x0, 0x0, 0x0, 0x0⟩, -- LDS_PEER_DIGEST_i
  ⟨0x04C, 0x10, 3, 0x0, 0x0, 0x0, 0x0, 0x0⟩, -- LDS_PEER_DCYCLE_i
  ⟨0x080, 0x4, 8, 0x0, 0x0, 0x0, 0x0, 0x0⟩, -- LDS_SCHED_k
  ⟨0x0A0, 0x4, 8, 0x0, 0x0, 0x0, 0x0, 0x0⟩, -- LDS_HO_LOG_k
  ⟨0x0C0, 0x4, 1, 0x0, 0x0, 0x0, 0x0, 0x0⟩, -- LDS_HO_CMD_CNT
  ⟨0x0C4, 0x4, 1, 0x0, 0x0, 0x0, 0x0, 0x0⟩ -- LDS_HO_SILENT_CNT
]
/-- Register kinds of block LDS, part 1. -/
def kindsLDS_1 : List RegKind := [
  ⟨0x0C8, 0x4, 1, 0x0, 0x0, 0x0, 0x0, 0x0⟩, -- LDS_HO_DEPOSE_CNT
  ⟨0x0CC, 0x4, 1, 0x0, 0x0, 0x0, 0x0, 0x0⟩, -- LDS_HO_FAIL_CNT
  ⟨0x0D0, 0x4, 1, 0x0, 0x0, 0x0, 0x0, 0x0⟩, -- LDS_MISMATCH_CNT
  ⟨0x0D4, 0x4, 1, 0x0, 0x0, 0x0, 0x0, 0x0⟩, -- LDS_VOTE_CNT
  ⟨0x0D8, 0x4, 1, 0x0, 0x0, 0x0, 0x0, 0x0⟩, -- LDS_INTAKE_LOST_CNT
  ⟨0x0DC, 0x4, 1, 0x0, 0x0, 0x0, 0x0, 0x0⟩, -- LDS_SKIP_CNT
  ⟨0x0E0, 0x4, 1, 0x0, 0x0, 0x0, 0x0, 0x0⟩, -- LDS_ALIGN_CNT
  ⟨0x0E4, 0x4, 1, 0x0, 0x0, 0x0, 0x0, 0x0⟩, -- LDS_STREAM_FIX_CNT
  ⟨0x0E8, 0x4, 1, 0x0, 0x0, 0x0, 0x0, 0x0⟩, -- LDS_CHFRAME_LOST_CNT
  ⟨0x0EC, 0x4, 1, 0x0, 0x0, 0x0, 0x0, 0x0⟩, -- LDS_XDIS_TEST_CNT
  ⟨0x0F0, 0x4, 1, 0x0, 0x0, 0x0, 0x0, 0x0⟩, -- LDS_CONFLICT_CNT
  ⟨0x0F4, 0x4, 1, 0x0, 0x0, 0x0, 0x0, 0x0⟩, -- LDS_ISOLATE_CNT
  ⟨0x0F8, 0x4, 1, 0x0, 0x0, 0x0, 0x0, 0x0⟩, -- LDS_RING_LOST_CNT
  ⟨0x0FC, 0x4, 1, 0x0, 0x0, 0x0, 0x0, 0x0⟩ -- LDS_F_RISE_CNT
]
/-- Register kinds of block LDS. -/
def kindsLDS : List RegKind := kindsLDS_0 ++ kindsLDS_1

/-- Register kinds of block ASH, part 0. -/
def kindsASH_0 : List RegKind := [
  ⟨0x000, 0x4, 1, 0x0, 0x0, 0x0, 0x0, 0x0⟩, -- ASH_STATUS
  ⟨0x004, 0x4, 1, 0x0, 0x0, 0x0, 0x0, 0x0⟩, -- ASH_EVENT
  ⟨0x008, 0x4, 1, 0x0, 0x0, 0x3F, 0x0, 0x0⟩, -- ASH_EVENT_MASK
  ⟨0x00C, 0x4, 1, 0x0, 0x0, 0x0, 0x0, 0x0⟩, -- ASH_SIZE
  ⟨0x010, 0x4, 1, 0x0, 0x0, 0x0, 0x0, 0x0⟩, -- ASH_TAIL
  ⟨0x014, 0x4, 1, 0x0, 0x0, 0x0, 0x0, 0x0⟩, -- ASH_SEQ
  ⟨0x018, 0x4, 1, 0x0, 0x0, 0x0, 0x0, 0x0⟩, -- ASH_FREE
  ⟨0x01C, 0x4, 1, 0x0, 0x0, 0x0, 0x0, 0x0⟩, -- ASH_PENDING
  ⟨0x020, 0x4, 1, 0x0, 0x0, 0x0, 0x0, 0x0⟩, -- ASH_HOLDUP_C
  ⟨0x024, 0x4, 1, 0x0, 0x0, 0x0, 0x0, 0x0⟩, -- ASH_HOLDUP_E
  ⟨0x028, 0x4, 1, 0x0, 0x0, 0x0, 0x0, 0x0⟩, -- ASH_HOLDUP_REQ
  ⟨0x02C, 0x4, 1, 0x0, 0x0, 0x0, 0x0, 0x0⟩, -- ASH_HOLDUP_V
  ⟨0x030, 0x4, 1, 0x0, 0x0, 0x0, 0x0, 0x0⟩, -- ASH_LAST_WINDOW
  ⟨0x034, 0x4, 1, 0x0, 0x0, 0x0, 0x0, 0x0⟩, -- ASH_LAST_WINDOW_SEQ
  ⟨0x038, 0x4, 1, 0x0, 0x0, 0x0, 0x0, 0x0⟩, -- ASH_UID_LO
  ⟨0x03C, 0x4, 1, 0x0, 0x0, 0x0, 0x0, 0x0⟩, -- ASH_UID_HI
  ⟨0x040, 0x4, 1, 0x0, 0x0, 0x0, 0x0, 0x0⟩, -- ASH_JEDEC
  ⟨0x044, 0x4, 1, 0x0, 0x0, 0x0, 0x0, 0x0⟩, -- ASH_COMMIT_TIME
  ⟨0x048, 0x4, 1, 0x0, 0x0, 0x0, 0x0, 0x0⟩, -- ASH_TAIL_SLOT
  ⟨0x060, 0x4, 1, 0x0, 0x0, 0x0, 0x0, 0x0⟩, -- ASH_RECORD_CNT
  ⟨0x064, 0x4, 1, 0x0, 0x0, 0x0, 0x0, 0x0⟩, -- ASH_WINDOW_CNT
  ⟨0x068, 0x4, 1, 0x0, 0x0, 0x0, 0x0, 0x0⟩, -- ASH_PF_CNT
  ⟨0x06C, 0x4, 1, 0x0, 0x0, 0x0, 0x0, 0x0⟩, -- ASH_TORN_CNT
  ⟨0x070, 0x4, 1, 0x0, 0x0, 0x0, 0x0, 0x0⟩ -- ASH_RETRY_CNT
]
/-- Register kinds of block ASH, part 1. -/
def kindsASH_1 : List RegKind := [
  ⟨0x074, 0x4, 1, 0x0, 0x0, 0x0, 0x0, 0x0⟩, -- ASH_DROP_CNT
  ⟨0x078, 0x4, 1, 0x0, 0x0, 0x0, 0x0, 0x0⟩, -- ASH_READ_CNT
  ⟨0x07C, 0x4, 1, 0x0, 0x0, 0x0, 0x0, 0x0⟩, -- ASH_MERGED_CNT
  ⟨0x080, 0x4, 7, 0x0, 0x0, 0x0, 0x0, 0x0⟩, -- ASH_TYPE_CNT_t
  ⟨0x0A0, 0x4, 6, 0x0, 0x0, 0x0, 0x0, 0x0⟩ -- ASH_HIST_k
]
/-- Register kinds of block ASH. -/
def kindsASH : List RegKind := kindsASH_0 ++ kindsASH_1

/-- Register kinds of block JRN, part 0. -/
def kindsJRN_0 : List RegKind := [
  ⟨0x000, 0x4, 1, 0x0, 0x0, 0x0, 0x0, 0x0⟩, -- JRN_STATUS
  ⟨0x004, 0x4, 1, 0x10380003, 0x0, 0xFFFFF003, 0x0, 0x0⟩, -- JRN_CFG
  ⟨0x008, 0x4, 1, 0x0, 0x0, 0x0, 0x0, 0x0⟩, -- JRN_EVENT
  ⟨0x00C, 0x4, 1, 0x0, 0x0, 0x7F, 0x0, 0x0⟩, -- JRN_EVENT_MASK
  ⟨0x010, 0x4, 1, 0x0, 0x0, 0x0, 0x0, 0x0⟩, -- JRN_ENTRY
  ⟨0x014, 0x4, 1, 0x0, 0x0, 0x0, 0x0, 0x0⟩, -- JRN_CKPT
  ⟨0x018, 0x4, 1, 0x0, 0x0, 0x0, 0x0, 0x0⟩, -- JRN_DEPTH
  ⟨0x01C, 0x4, 1, 0x0, 0x0, 0x0, 0x0, 0x0⟩, -- JRN_HEAD
  ⟨0x020, 0x4, 1, 0x0, 0x0, 0x0, 0x0, 0x0⟩, -- JRN_OLDEST
  ⟨0x024, 0x4, 1, 0x0, 0x0, 0x0, 0x0, 0x0⟩, -- JRN_NEWEST
  ⟨0x028, 0x4, 1, 0x0, 0x0, 0x0, 0x0, 0x0⟩, -- JRN_FREEZE_STAT
  ⟨0x02C, 0x4, 1, 0x0, 0x0, 0x0, 0x0, 0x0⟩, -- JRN_TRIG_CYCLE
  ⟨0x030, 0x4, 1, 0x0, 0xFFFFFFFF, 0x0, 0x0, 0x0⟩, -- JRN_REPLAY_SEL
  ⟨0x034, 0x4, 1, 0x0, 0x0, 0x0, 0x0, 0xFFFF⟩, -- JRN_REPLAY_CMD
  ⟨0x038, 0x4, 1, 0x0, 0x0, 0x0, 0x0, 0x0⟩, -- JRN_REPLAY_STAT
  ⟨0x03C, 0x4, 1, 0x0, 0x0, 0x0, 0x0, 0x0⟩, -- JRN_REPLAY_CYCLE
  ⟨0x040, 0x4, 1, 0x0, 0x0, 0x0, 0x0, 0x0⟩, -- JRN_REPLAY_FIRST
  ⟨0x044, 0x4, 1, 0x0, 0x0, 0x0, 0x0, 0x0⟩, -- JRN_REPLAY_LEN
  ⟨0x048, 0x4, 1, 0x0, 0x0, 0x0, 0x0, 0x0⟩, -- JRN_REPLAY_OWN
  ⟨0x04C, 0x4, 1, 0x0, 0x0, 0x0, 0x0, 0x0⟩, -- JRN_REPLAY_REC
  ⟨0x060, 0x4, 1, 0x0, 0x0, 0x0, 0x0, 0x0⟩, -- JRN_ENTRY_CNT
  ⟨0x064, 0x4, 1, 0x0, 0x0, 0x0, 0x0, 0x0⟩, -- JRN_CKPT_CNT
  ⟨0x068, 0x4, 1, 0x0, 0x0, 0x0, 0x0, 0x0⟩, -- JRN_MARKER_CNT
  ⟨0x06C, 0x4, 1, 0x0, 0x0, 0x0, 0x0, 0x0⟩ -- JRN_MARKER_DROP_CNT
]
/-- Register kinds of block JRN, part 1. -/
def kindsJRN_1 : List RegKind := [
  ⟨0x070, 0x4, 1, 0x0, 0x0, 0x0, 0x0, 0x0⟩, -- JRN_RETRY_MARK_CNT
  ⟨0x074, 0x4, 1, 0x0, 0x0, 0x0, 0x0, 0x0⟩, -- JRN_GAP_CNT
  ⟨0x078, 0x4, 1, 0x0, 0x0, 0x0, 0x0, 0x0⟩, -- JRN_FREEZE_CNT
  ⟨0x07C, 0x4, 1, 0x0, 0x0, 0x0, 0x0, 0x0⟩, -- JRN_MERGED_CNT
  ⟨0x080, 0x4, 1, 0x0, 0x0, 0x0, 0x0, 0x0⟩, -- JRN_PF_CNT
  ⟨0x084, 0x4, 1, 0x0, 0x0, 0x0, 0x0, 0x0⟩, -- JRN_REPLAY_CNT
  ⟨0x088, 0x4, 1, 0x0, 0x0, 0x0, 0x0, 0x0⟩, -- JRN_REPLAY_MATCH_CNT
  ⟨0x08C, 0x4, 1, 0x0, 0x0, 0x0, 0x0, 0x0⟩, -- JRN_REPLAY_MISMATCH_CNT
  ⟨0x0A0, 0x4, 8, 0x0, 0x0, 0x0, 0x0, 0x0⟩, -- JRN_TRIG_LOG_k
  ⟨0x0C0, 0x4, 10, 0x0, 0x0, 0x0, 0x0, 0x0⟩ -- JRN_REPLAY_MM_k
]
/-- Register kinds of block JRN. -/
def kindsJRN : List RegKind := kindsJRN_0 ++ kindsJRN_1

/-- Register kinds of block AGE. -/
def kindsAGE : List RegKind := [
  ⟨0x000, 0x4, 1, 0x0, 0x0, 0x0, 0x0, 0x0⟩, -- AGE_STATUS
  ⟨0x004, 0x4, 1, 0x819, 0x0, 0xFFFF, 0x0, 0x0⟩, -- AGE_CFG
  ⟨0x008, 0x4, 1, 0x0, 0x0, 0x0, 0x0, 0x0⟩, -- AGE_EVENT
  ⟨0x00C, 0x4, 1, 0x0, 0x0, 0x7, 0x0, 0x0⟩, -- AGE_EVENT_MASK
  ⟨0x010, 0x4, 1, 0x10000, 0x0, 0x0, 0x0, 0x0⟩, -- AGE_PLAN
  ⟨0x014, 0x4, 1, 0x0, 0x0, 0x0, 0x0, 0x0⟩, -- AGE_CANARY
  ⟨0x018, 0x4, 1, 0x0, 0x0, 0x0, 0x0, 0x0⟩, -- AGE_RETIRED
  ⟨0x01C, 0x4, 1, 0x282828, 0x0, 0x0, 0x0, 0x0⟩, -- AGE_DTM
  ⟨0x020, 0x4, 1, 0x0, 0x0, 0x0, 0x0, 0x0⟩, -- AGE_CRYSTAL
  ⟨0x024, 0x4, 1, 0x0, 0x0, 0x0, 0x0, 0x0⟩, -- AGE_VDS_ON
  ⟨0x028, 0x4, 1, 0x0, 0x0, 0x0, 0x0, 0x0⟩, -- AGE_DERATE
  ⟨0x02C, 0x4, 1, 0x0, 0x0, 0x0, 0x0, 0x0⟩, -- AGE_DERATE_CNT
  ⟨0x030, 0x4, 1, 0x0, 0x0, 0x0, 0x0, 0x0⟩, -- AGE_REPLAN_CNT
  ⟨0x034, 0x4, 1, 0x0, 0x0, 0x0, 0x0, 0x0⟩, -- AGE_MARGIN_LOW_CNT
  ⟨0x080, 0x4, 32, 0x0, 0x0, 0x0, 0x0, 0x0⟩, -- AGE_RO_r
  ⟨0x100, 0x10, 7, 0x0, 0x0, 0x0, 0x0, 0x0⟩, -- AGE_BASE_m
  ⟨0x104, 0x10, 7, 0x0, 0x0, 0x0, 0x0, 0x0⟩, -- AGE_VALUE_m
  ⟨0x108, 0x10, 7, 0x0, 0x0, 0xFFFFFFFF, 0x0, 0x0⟩, -- AGE_LIMIT_m
  ⟨0x10C, 0x10, 7, 0x3E8, 0x0, 0x0, 0x0, 0x0⟩ -- AGE_BUDGET_m
]

/-- Register kinds of block BST. -/
def kindsBST : List RegKind := [
  ⟨0x000, 0x4, 1, 0x0, 0x0, 0x0, 0x0, 0x0⟩, -- BST_STATUS
  ⟨0x004, 0x4, 1, 0x1, 0x0, 0x1, 0x0, 0x0⟩, -- BST_CFG
  ⟨0x008, 0x4, 1, 0x0, 0x0, 0x0, 0x0, 0x0⟩, -- BST_EVENT
  ⟨0x00C, 0x4, 1, 0x0, 0x0, 0x1F, 0x0, 0x0⟩, -- BST_EVENT_MASK
  ⟨0x010, 0x4, 1, 0x0, 0x0, 0x0, 0x0, 0x0⟩, -- BST_LBIST
  ⟨0x014, 0x4, 1, 0x0, 0x0, 0x0, 0x0, 0x0⟩, -- BST_MBIST
  ⟨0x018, 0x4, 1, 0x0, 0x0, 0x0, 0x0, 0x0⟩, -- BST_ABIST
  ⟨0x01C, 0x4, 1, 0x0, 0x0, 0x0, 0x0, 0x0⟩, -- BST_ROLL
  ⟨0x020, 0x4, 1, 0x0, 0x0, 0x0, 0x0, 0x0⟩, -- BST_ROLL_LAST
  ⟨0x024, 0x4, 1, 0x0, 0x7F, 0x0, 0x0, 0x0⟩, -- BST_SIGHT_SEL
  ⟨0x028, 0x4, 1, 0x0, 0x0, 0x0, 0x0, 0x0⟩, -- BST_SIGHT
  ⟨0x02C, 0x4, 1, 0x0, 0x0, 0x0, 0x0, 0xFFFF⟩, -- BST_FUSE_CMD
  ⟨0x030, 0x4, 1, 0x0, 0x0, 0x0, 0x0, 0x0⟩, -- BST_FUSE_STAT
  ⟨0x034, 0x4, 1, 0x0, 0x0, 0x0, 0x0, 0x0⟩, -- BST_ROLL_CNT
  ⟨0x038, 0x4, 1, 0x0, 0x0, 0x0, 0x0, 0x0⟩, -- BST_ROLL_TRANSIENT_CNT
  ⟨0x03C, 0x4, 1, 0x0, 0x0, 0x0, 0x0, 0x0⟩, -- BST_ROLL_LASTING_CNT
  ⟨0x100, 0x4, 64, 0x0, 0x0, 0x0, 0x0, 0x0⟩ -- BST_REPAIR_k
]

/-- Register kinds of block MBX. -/
def kindsMBX : List RegKind := [
  ⟨0x000, 0x4, 1, 0x0, 0x0, 0x0, 0x0, 0x0⟩, -- MBX_STATUS
  ⟨0x004, 0x4, 1, 0x0, 0x0, 0x0, 0x0, 0x0⟩, -- MBX_EVENT
  ⟨0x008, 0x4, 1, 0x0, 0x0, 0x3, 0x0, 0x0⟩, -- MBX_EVENT_MASK
  ⟨0x00C, 0x4, 1, 0x0, 0x0, 0x0, 0xFFFFFFFF, 0x0⟩, -- MBX_DB_PEND
  ⟨0x010, 0x4, 1, 0xFFFFFFFF, 0x0, 0xFFFFFFFF, 0x0, 0x0⟩, -- MBX_DB_MASK
  ⟨0x014, 0x4, 1, 0x0, 0xF, 0x0, 0x0, 0x0⟩, -- MBX_SEL
  ⟨0x040, 0x4, 16, 0x0, 0xFFFFFFFF, 0x0, 0x0, 0x0⟩, -- MBX_DATA_k
  ⟨0x080, 0x4, 16, 0x0, 0x0, 0x0, 0x0, 0x0⟩, -- MBX_ROUTE_m
  ⟨0x0C0, 0x4, 16, 0x0, 0x0, 0x0, 0x0, 0x0⟩, -- MBX_STAT_m
  ⟨0x100, 0x4, 16, 0x0, 0x0, 0x0, 0x0, 0x0⟩ -- MBX_WAIT_m
]

/-- Register kinds of block SVC. -/
def kindsSVC : List RegKind := [
  ⟨0x000, 0x4, 1, 0x0, 0x0, 0x0, 0x0, 0x0⟩, -- SVC_STATUS
  ⟨0x004, 0x4, 1, 0x0, 0x0, 0x0, 0x0, 0x0⟩, -- SVC_EVENT
  ⟨0x008, 0x4, 1, 0x0, 0x0, 0x1F, 0x0, 0x0⟩, -- SVC_EVENT_MASK
  ⟨0x00C, 0x4, 1, 0x0, 0x0, 0x0, 0x0, 0x0⟩, -- SVC_LAST
  ⟨0x010, 0x4, 1, 0x0, 0x0, 0x0, 0x0, 0x0⟩, -- SVC_LAST_ADDR
  ⟨0x014, 0x4, 1, 0x0, 0x0, 0x0, 0x0, 0x0⟩, -- SVC_NVM
  ⟨0x018, 0x4, 1, 0x0, 0x0, 0x0, 0x0, 0x0⟩, -- SVC_JTAG
  ⟨0x01C, 0x4, 1, 0x0, 0x0, 0x0, 0x0, 0x0⟩, -- SVC_LINK
  ⟨0x040, 0x4, 1, 0x0, 0x0, 0x0, 0x0, 0x0⟩, -- SVC_FRAME_CNT
  ⟨0x044, 0x4, 1, 0x0, 0x0, 0x0, 0x0, 0x0⟩, -- SVC_CRC_CNT
  ⟨0x048, 0x4, 1, 0x0, 0x0, 0x0, 0x0, 0x0⟩, -- SVC_BAD_CMD_CNT
  ⟨0x04C, 0x4, 1, 0x0, 0x0, 0x0, 0x0, 0x0⟩, -- SVC_LOCKED_CNT
  ⟨0x050, 0x4, 1, 0x0, 0x0, 0x0, 0x0, 0x0⟩, -- SVC_WRONG_MODE_CNT
  ⟨0x054, 0x4, 1, 0x0, 0x0, 0x0, 0x0, 0x0⟩, -- SVC_BAD_KEY_CNT
  ⟨0x058, 0x4, 1, 0x0, 0x0, 0x0, 0x0, 0x0⟩, -- SVC_BUSY_CNT
  ⟨0x05C, 0x4, 1, 0x0, 0x0, 0x0, 0x0, 0x0⟩, -- SVC_ABANDON_CNT
  ⟨0x060, 0x4, 1, 0x0, 0x0, 0x0, 0x0, 0x0⟩, -- SVC_WRITE_WORD_CNT
  ⟨0x064, 0x4, 1, 0x0, 0x0, 0x0, 0x0, 0x0⟩, -- SVC_ERASE_CNT
  ⟨0x068, 0x4, 1, 0x0, 0x0, 0x0, 0x0, 0x0⟩, -- SVC_PROGRAM_CNT
  ⟨0x06C, 0x4, 1, 0x0, 0x0, 0x0, 0x0, 0x0⟩ -- SVC_OTP_CNT
]

/-- Register kinds of block IMG. -/
def kindsIMG : List RegKind := [
  ⟨0x000, 0x4, 1, 0x0, 0x0, 0x0, 0x0, 0x0⟩, -- IMG_STATUS
  ⟨0x004, 0x4, 2, 0x0, 0x0, 0x0, 0x0, 0x0⟩, -- IMG_RESULT_s
  ⟨0x00C, 0x4, 2, 0x0, 0x0, 0x0, 0x0, 0x0⟩, -- IMG_VERSION_s
  ⟨0x014, 0x4, 1, 0x0, 0x0, 0x0, 0x0, 0x0⟩, -- IMG_VERSION_FLOOR
  ⟨0x018, 0x4, 1, 0x0, 0x0, 0x0, 0x0, 0xFFFF⟩, -- IMG_FLOOR_RAISE
  ⟨0x01C, 0x4, 1, 0x0, 0x0, 0x0, 0x0, 0x0⟩, -- IMG_LENGTH
  ⟨0x020, 0x4, 1, 0x0, 0x0, 0x0, 0x0, 0x0⟩, -- IMG_SECTIONS
  ⟨0x024, 0x4, 1, 0x0, 0x0, 0x0, 0x0, 0x0⟩, -- IMG_GRAPH_SIZE
  ⟨0x028, 0x4, 1, 0x0, 0x0, 0x0, 0x0, 0x0⟩, -- IMG_CHANNEL
  ⟨0x02C, 0x4, 1, 0x0, 0x0, 0x0, 0x0, 0x0⟩, -- IMG_KEY_STATE
  ⟨0x030, 0x4, 1, 0x0, 0x0, 0x0, 0x0, 0xFFFF000F⟩, -- IMG_KEY_REVOKE
  ⟨0x034, 0x4, 1, 0x0, 0x0, 0x0, 0x0, 0xFFFF0007⟩, -- IMG_LIFECYCLE_REQ
  ⟨0x038, 0x4, 1, 0x0, 0x0, 0x0, 0x0, 0x0⟩, -- IMG_LOAD_TIME
  ⟨0x03C, 0x4, 1, 0x0, 0x0, 0x0, 0x0, 0x0⟩, -- IMG_FLASH_ID
  ⟨0x040, 0x4, 1, 0x0, 0x0, 0x0, 0x0, 0x0⟩, -- IMG_FLASH_CFG
  ⟨0x044, 0x4, 1, 0x0, 0x0, 0x0, 0x0, 0x0⟩, -- IMG_SCHED_TOTAL
  ⟨0x048, 0x4, 1, 0x0, 0x0, 0x0, 0x0, 0x0⟩, -- IMG_SCHED_HALF
  ⟨0x04C, 0x4, 5, 0x0, 0x0, 0x0, 0x0, 0x0⟩, -- IMG_CLASS_LOAD_c
  ⟨0x060, 0x4, 8, 0x0, 0x0, 0x0, 0x0, 0x0⟩, -- IMG_DIGEST_k
  ⟨0x080, 0x4, 4, 0x0, 0x0, 0x0, 0x0, 0x0⟩, -- IMG_MACHINE_ID_k
  ⟨0x090, 0x4, 1, 0x0, 0x0, 0x0, 0x0, 0x0⟩, -- IMG_BUILD_TIME_LO
  ⟨0x094, 0x4, 1, 0x0, 0x0, 0x0, 0x0, 0x0⟩, -- IMG_BUILD_TIME_HI
  ⟨0x098, 0x4, 2, 0x0, 0x0, 0x0, 0x0, 0x0⟩ -- IMG_FAIL_ADDR_s
]

/-- One block of R24: its register kinds and its number of instances, which lie 0x1000 apart. -/
structure RegBlock where
  kinds : List RegKind
  insts : Nat
deriving DecidableEq, Repr

/-- The blocks of R24 in address order, 64 KB apart from 0x4000_0000. -/
def regBlocks : List RegBlock := [
  ⟨kindsSYS, 1⟩,
  ⟨kindsPWR, 1⟩,
  ⟨kindsCLK, 1⟩,
  ⟨kindsFLT, 1⟩,
  ⟨kindsCMP, 1⟩,
  ⟨kindsHOB, 1⟩,
  ⟨kindsLAW, 1⟩,
  ⟨kindsSEC, 1⟩,
  ⟨kindsMAP, 1⟩,
  ⟨kindsPOS, 4⟩,
  ⟨kindsMOT, 3⟩,
  ⟨kindsGDR, 1⟩,
  ⟨kindsADC, 1⟩,
  ⟨kindsFLU, 1⟩,
  ⟨kindsCAN, 4⟩,
  ⟨kindsETH, 2⟩,
  ⟨kindsSAF, 1⟩,
  ⟨kindsLDS, 1⟩,
  ⟨kindsASH, 1⟩,
  ⟨kindsJRN, 1⟩,
  ⟨kindsAGE, 1⟩,
  ⟨kindsBST, 1⟩,
  ⟨kindsMBX, 1⟩,
  ⟨kindsSVC, 1⟩,
  ⟨kindsIMG, 1⟩]

/-- Block types' costs of R83 as read in HOB_TYPE_COST_t (R106): base cycles and cycles per input, for types 0 … 27. -/
def typeCosts0 : List (Nat × Nat) := [
  (60, 0), (40, 18), (40, 18), (80, 0), (120, 0), (80, 0), (120, 0), (110, 0), (90, 0), (90, 0), (90, 0), (50, 0), (60, 0), (110, 0), (80, 0), (90, 0), (70, 0), (70, 0), (50, 14), (40, 18), (40, 16), (70, 0), (80, 0), (60, 0), (60, 0), (50, 0), (40, 16), (140, 0)]
/-- Costs of types 28 … 55 (R83). -/
def typeCosts1 : List (Nat × Nat) := [
  (260, 0), (110, 0), (220, 0), (280, 0), (360, 0), (420, 0), (260, 0), (120, 0), (90, 0), (900, 0), (300, 0), (150, 0), (90, 0), (90, 0), (160, 0), (160, 0), (70, 0), (200, 0), (180, 0), (220, 0), (240, 0), (180, 0), (70, 0), (260, 0), (90, 0), (150, 0), (620, 0), (240, 0)]
/-- Costs of types 56 … 83 (R83). -/
def typeCosts2 : List (Nat × Nat) := [
  (380, 0), (1400, 0), (130, 0), (300, 0), (160, 0), (220, 0), (110, 0), (160, 0), (60, 30), (70, 0), (60, 20), (90, 0), (240, 0), (60, 0), (420, 0), (360, 0), (240, 0), (200, 0), (150, 0), (180, 0), (900, 0), (180, 0), (24720, 0), (4200, 0), (18500, 0), (6000, 0), (2600, 0), (1900, 0)]
/-- Costs of types 84 … 111 (R83). -/
def typeCosts3 : List (Nat × Nat) := [
  (300, 0), (400, 0), (600, 0), (2400, 0), (90, 0), (60, 0), (60, 0), (60, 16), (80, 16), (80, 16), (50, 0), (60, 0), (60, 0), (60, 0), (60, 0), (50, 0), (40, 12), (40, 12), (180, 0), (90, 0), (120, 0), (60, 0), (50, 0), (20, 0), (240, 0), (320, 0), (280, 0), (60, 0)]
/-- Base cycles and cycles per input of every block type, in type order (R83, R106). -/
def typeCosts : List (Nat × Nat) := typeCosts0 ++ typeCosts1 ++ typeCosts2 ++ typeCosts3

end Sys2Proof.Machine
end

