-- ==== Sys2Proof/Machine/Float.lean ====
section
/-!
DEFINITION. Hob arithmetic (R74): binary32 with round to nearest even, subnormals flushed to zero, one NaN; the sine table of
R209; and the lookup of R82. Values are the 32-bit patterns.
-/
namespace Sys2Proof.Machine

open Sys2Proof

/-- The one NaN (R74). -/
def fNaN : Word := 0x7FC00000
/-- +0. -/
def f0 : Word := 0
/-- 1.0. -/
def f1 : Word := 0x3F800000

/-- Sign bit. -/
def fNeg (x : Word) : Bool := 2 ^ 31 ≤ x.toNat
/-- Biased exponent. -/
def fExp (x : Word) : Nat := x.toNat / 2 ^ 23 % 256
/-- Stored fraction. -/
def fFrac (x : Word) : Nat := x.toNat % 2 ^ 23
/-- NaN. -/
def fIsNaN (x : Word) : Bool := fExp x = 255 && fFrac x ≠ 0
/-- Infinity. -/
def fIsInf (x : Word) : Bool := fExp x = 255 && fFrac x = 0
/-- Zero after the flush of subnormal operands (R74). -/
def fIsZero (x : Word) : Bool := fExp x = 0
/-- Zero or infinity of a sign. -/
def fZero (neg : Bool) : Word := if neg then 0x80000000 else 0
def fInf (neg : Bool) : Word := if neg then 0xFF800000 else 0x7F800000

/-- The integer significand of a finite value, 0 where it is flushed. -/
def fSig (x : Word) : Nat := if fExp x = 0 then 0 else 2 ^ 23 + fFrac x
/-- The exponent e with value = fSig × 2^e. -/
def fE (x : Word) : Int := (fExp x : Int) - 150

/-- Rounding n × 2^e (a little more where `sticky`) to binary32: to 24 bits with ties to even as if the exponent had no lower
bound, then flushed below 2^-126, infinite above the range (R74). -/
def fRound (neg : Bool) (n : Nat) (e : Int) (sticky : Bool) : Word :=
  if n = 0 then fZero neg
  else
    let len := Nat.log2 n + 1
    let r : Nat × Int :=
      if len ≤ 24 then (n * 2 ^ (24 - len), e - ((24 - len : Nat) : Int))
      else
        let k := len - 24
        let q := n / 2 ^ k
        let rem := n % 2 ^ k
        let half := 2 ^ (k - 1)
        let up := decide (half < rem) || (decide (rem = half) && (sticky || decide (q % 2 = 1)))
        (q + b2n up, e + ((k : Nat) : Int))
    let r := if r.1 = 2 ^ 24 then (2 ^ 23, r.2 + 1) else r
    let be : Int := r.2 + 150
    if be ≤ 0 then fZero neg
    else if 255 ≤ be then fInf neg
    else BitVec.ofNat 32 (b2n neg * 2 ^ 31 + be.toNat * 2 ^ 23 + (r.1 - 2 ^ 23))

/-- A signed integer × 2^e as binary32; an exact zero has the given sign. -/
def fOfScaled (i : Int) (e : Int) (zneg : Bool) : Word :=
  if i = 0 then fZero zneg else fRound (decide (i < 0)) i.natAbs e false

/-- The signed significand. -/
def fInt (x : Word) : Int := if fNeg x then -(fSig x : Int) else (fSig x : Int)

/-- The sum of two scaled integers as (integer, exponent). -/
def addScaled (a : Int) (ea : Int) (b : Int) (eb : Int) : Int × Int :=
  if ea ≤ eb then (a + b * ((2 ^ (eb - ea).toNat : Nat) : Int), ea) else (a * ((2 ^ (ea - eb).toNat : Nat) : Int) + b, eb)

/-- a + b. -/
def fAdd (a b : Word) : Word :=
  if fIsNaN a || fIsNaN b then fNaN
  else if fIsInf a then (if fIsInf b && fNeg a != fNeg b then fNaN else fInf (fNeg a))
  else if fIsInf b then fInf (fNeg b)
  else
    let r := addScaled (fInt a) (fE a) (fInt b) (fE b)
    fOfScaled r.1 r.2 (fNeg a && fNeg b)

/-- A value handed on by an operation: subnormals as zeros of their sign, every NaN as the one NaN (R74). -/
def fFlush (a : Word) : Word := if fIsNaN a then fNaN else if fIsZero a then fZero (fNeg a) else a

/-- -a; a NaN stays the one NaN. -/
def fNegate (a : Word) : Word := if fIsNaN a then fNaN else fFlush a ^^^ 0x80000000

/-- a - b. -/
def fSub (a b : Word) : Word := fAdd a (fNegate b)

/-- |a|. -/
def fAbs (a : Word) : Word := fFlush a &&& 0x7FFFFFFF

/-- a × b. -/
def fMul (a b : Word) : Word :=
  let neg := fNeg a != fNeg b
  if fIsNaN a || fIsNaN b then fNaN
  else if fIsInf a || fIsInf b then (if fIsZero a || fIsZero b then fNaN else fInf neg)
  else fRound neg (fSig a * fSig b) (fE a + fE b) false

/-- a × b + c with a single rounding. -/
def fFma (a b c : Word) : Word :=
  let neg := fNeg a != fNeg b
  if fIsNaN a || fIsNaN b || fIsNaN c then fNaN
  else if fIsInf a || fIsInf b then
    (if fIsZero a || fIsZero b then fNaN else if fIsInf c && fNeg c != neg then fNaN else fInf neg)
  else if fIsInf c then fInf (fNeg c)
  else
    let p : Int := if neg then -((fSig a * fSig b : Nat) : Int) else ((fSig a * fSig b : Nat) : Int)
    let r := addScaled p (fE a + fE b) (fInt c) (fE c)
    fOfScaled r.1 r.2 (neg && fNeg c)

/-- a ÷ b, correctly rounded. -/
def fDiv (a b : Word) : Word :=
  let neg := fNeg a != fNeg b
  if fIsNaN a || fIsNaN b then fNaN
  else if fIsInf a then (if fIsInf b then fNaN else fInf neg)
  else if fIsInf b then fZero neg
  else if fIsZero b then (if fIsZero a then fNaN else fInf neg)
  else
    let n := fSig a * 2 ^ 30
    fRound neg (n / fSig b) (fE a - fE b - 30) (decide (n % fSig b ≠ 0))

/-- Integer square root by bisection from the top bit: the largest r with r² ≤ n. -/
def isqrtAux (n : Nat) : Nat → Nat → Nat
  | 0, r => r
  | k + 1, r => isqrtAux n k (if (r + 2 ^ k) * (r + 2 ^ k) ≤ n then r + 2 ^ k else r)

/-- Square root, correctly rounded; of a negative number NaN, of a zero that zero. -/
def fSqrt (a : Word) : Word :=
  if fIsNaN a then fNaN
  else if fIsZero a then fZero (fNeg a)
  else if fNeg a then fNaN
  else if fIsInf a then a
  else
    let odd := fE a % 2 ≠ 0
    let n := fSig a * 2 ^ (if odd then 41 else 40)
    let e := fE a - (if odd then 41 else 40)
    let r := isqrtAux n 34 0
    fRound false r (e / 2) (decide (r * r ≠ n))

/-- a < b, false with a NaN. -/
def fLt (a b : Word) : Bool :=
  if fIsNaN a || fIsNaN b then false
  else if fIsInf a || fIsInf b then
    (if fIsInf a && fIsInf b then fNeg a && !fNeg b else if fIsInf a then fNeg a else !fNeg b)
  else decide ((addScaled (fInt a) (fE a) (-(fInt b)) (fE b)).1 < 0)

/-- a ≤ b, false with a NaN. -/
def fLe (a b : Word) : Bool := !fIsNaN a && !fIsNaN b && !fLt b a

/-- a = b as numbers, false with a NaN. -/
def fEq (a b : Word) : Bool := fLe a b && fLe b a

/-- The larger; a NaN operand gives the NaN. -/
def fMax (a b : Word) : Word := if fIsNaN a || fIsNaN b then fNaN else fFlush (if fLt a b then b else a)
/-- The smaller. -/
def fMin (a b : Word) : Word := if fIsNaN a || fIsNaN b then fNaN else fFlush (if fLt b a then b else a)

/-- x limited to [lo, hi]; a NaN x gives the NaN. -/
def fClamp (x lo hi : Word) : Word := fFlush (if fLt x lo then lo else if fLt hi x then hi else x)

/-- A signed integer rounded to binary32. -/
def fOfInt (i : Int) : Word := fOfScaled i 0 false
/-- A natural number rounded to binary32. -/
def fOfNat (n : Nat) : Word := fOfInt n

/-- The integer nearest to a finite value, ties to even; none for NaN and infinities. -/
def fRint (x : Word) : Option Int :=
  if fExp x = 255 then none
  else if 0 ≤ fE x then some (fInt x * ((2 ^ (fE x).toNat : Nat) : Int))
  else
    let k := (-(fE x)).toNat
    let q := fSig x / 2 ^ k
    let rem := fSig x % 2 ^ k
    let up := decide (2 ^ k < 2 * rem) || (decide (2 ^ k = 2 * rem) && decide (q % 2 = 1))
    let v : Int := ((q + b2n up : Nat) : Int)
    some (if fNeg x then -v else v)

/-- The integer nearest to a finite value of no sign, ties up; 0 below zero; none for NaN and infinities (R204). -/
def fRoundUp (x : Word) : Option Nat :=
  if fExp x = 255 then none
  else if fNeg x then some 0
  else if 0 ≤ fE x then some (fSig x * 2 ^ (fE x).toNat)
  else
    let k := (-(fE x)).toNat
    some ((2 * fSig x + 2 ^ k) / 2 ^ (k + 1))

/-- The value rounded towards minus infinity; none for NaN and infinities. -/
def fFloor (x : Word) : Option Int :=
  if fExp x = 255 then none
  else if 0 ≤ fE x then some (fInt x * ((2 ^ (fE x).toNat : Nat) : Int))
  else some (fInt x / ((2 ^ (-(fE x)).toNat : Nat) : Int))

/-! The sine table (R209) -/

/-- Part 0 of the first quarter of the sine table. -/
def sineRom0 : List Nat :=
  [0x00000000, 0x3BC90F88, 0x3C490E90, 0x3C96C9B6, 0x3CC90AB0, 0x3CFB49BA, 0x3D16C32C, 0x3D2FE007,
   0x3D48FB30, 0x3D621469, 0x3D7B2B74, 0x3D8A200A, 0x3D96A905, 0x3DA3308C, 0x3DAFB680, 0x3DBC3AC3,
   0x3DC8BD36, 0x3DD53DB9, 0x3DE1BC2E, 0x3DEE3876, 0x3DFAB273, 0x3E039502, 0x3E09CF86, 0x3E1008B7,
   0x3E164083, 0x3E1C76DE, 0x3E22ABB6, 0x3E28DEFC, 0x3E2F10A2, 0x3E354098, 0x3E3B6ECF, 0x3E419B37,
   0x3E47C5C2, 0x3E4DEE60, 0x3E541501, 0x3E5A3997, 0x3E605C13, 0x3E667C66, 0x3E6C9A7F, 0x3E72B651,
   0x3E78CFCC, 0x3E7EE6E1, 0x3E827DC0, 0x3E8586CE, 0x3E888E93, 0x3E8B9507, 0x3E8E9A22, 0x3E919DDD,
   0x3E94A031, 0x3E97A117, 0x3E9AA086, 0x3E9D9E78, 0x3EA09AE5, 0x3EA395C5, 0x3EA68F12, 0x3EA986C4,
   0x3EAC7CD4, 0x3EAF713A, 0x3EB263EF, 0x3EB554EC, 0x3EB8442A, 0x3EBB31A0, 0x3EBE1D4A, 0x3EC1071E]

/-- Part 1 of the first quarter of the sine table. -/
def sineRom1 : List Nat :=
  [0x3EC3EF15, 0x3EC6D529, 0x3EC9B953, 0x3ECC9B8B, 0x3ECF7BCA, 0x3ED25A09, 0x3ED53641, 0x3ED8106B,
   0x3EDAE880, 0x3EDDBE79, 0x3EE0924F, 0x3EE363FA, 0x3EE63375, 0x3EE900B7, 0x3EEBCBBB, 0x3EEE9479,
   0x3EF15AEA, 0x3EF41F07, 0x3EF6E0CB, 0x3EF9A02D, 0x3EFC5D27, 0x3EFF17B2, 0x3F00E7E4, 0x3F0242B1,
   0x3F039C3D, 0x3F04F484, 0x3F064B82, 0x3F07A136, 0x3F08F59B, 0x3F0A48AD, 0x3F0B9A6B, 0x3F0CEAD0,
   0x3F0E39DA, 0x3F0F8784, 0x3F10D3CD, 0x3F121EB0, 0x3F13682A, 0x3F14B039, 0x3F15F6D9, 0x3F173C07,
   0x3F187FC0, 0x3F19C200, 0x3F1B02C6, 0x3F1C420C, 0x3F1D7FD1, 0x3F1EBC12, 0x3F1FF6CB, 0x3F212FF9,
   0x3F226799, 0x3F239DA9, 0x3F24D225, 0x3F26050A, 0x3F273656, 0x3F286605, 0x3F299415, 0x3F2AC082,
   0x3F2BEB4A, 0x3F2D1469, 0x3F2E3BDE, 0x3F2F61A5, 0x3F3085BB, 0x3F31A81D, 0x3F32C8C9, 0x3F33E7BC]

/-- Part 2 of the first quarter of the sine table. -/
def sineRom2 : List Nat :=
  [0x3F3504F3, 0x3F36206C, 0x3F373A23, 0x3F385216, 0x3F396842, 0x3F3A7CA4, 0x3F3B8F3B, 0x3F3CA003,
   0x3F3DAEF9, 0x3F3EBC1B, 0x3F3FC767, 0x3F40D0DA, 0x3F41D870, 0x3F42DE29, 0x3F43E200, 0x3F44E3F5,
   0x3F45E403, 0x3F46E22A, 0x3F47DE65, 0x3F48D8B3, 0x3F49D112, 0x3F4AC77F, 0x3F4BBBF8, 0x3F4CAE79,
   0x3F4D9F02, 0x3F4E8D90, 0x3F4F7A1F, 0x3F5064AF, 0x3F514D3D, 0x3F5233C6, 0x3F531849, 0x3F53FAC3,
   0x3F54DB31, 0x3F55B993, 0x3F5695E5, 0x3F577026, 0x3F584853, 0x3F591E6A, 0x3F59F26A, 0x3F5AC450,
   0x3F5B941A, 0x3F5C61C7, 0x3F5D2D53, 0x3F5DF6BE, 0x3F5EBE05, 0x3F5F8327, 0x3F604621, 0x3F6106F2,
   0x3F61C598, 0x3F628210, 0x3F633C5A, 0x3F63F473, 0x3F64AA59, 0x3F655E0B, 0x3F660F88, 0x3F66BECC,
   0x3F676BD8, 0x3F6816A8, 0x3F68BF3C, 0x3F696591, 0x3F6A09A7, 0x3F6AAB7B, 0x3F6B4B0C, 0x3F6BE858]

/-- Part 3 of the first quarter of the sine table. -/
def sineRom3 : List Nat :=
  [0x3F6C835E, 0x3F6D1C1D, 0x3F6DB293, 0x3F6E46BE, 0x3F6ED89E, 0x3F6F6830, 0x3F6FF573, 0x3F708066,
   0x3F710908, 0x3F718F57, 0x3F721352, 0x3F7294F8, 0x3F731447, 0x3F73913F, 0x3F740BDD, 0x3F748422,
   0x3F74FA0B, 0x3F756D97, 0x3F75DEC6, 0x3F764D97, 0x3F76BA07, 0x3F772417, 0x3F778BC5, 0x3F77F110,
   0x3F7853F8, 0x3F78B47B, 0x3F791298, 0x3F796E4E, 0x3F79C79D, 0x3F7A1E84, 0x3F7A7302, 0x3F7AC516,
   0x3F7B14BE, 0x3F7B61FC, 0x3F7BACCD, 0x3F7BF531, 0x3F7C3B28, 0x3F7C7EB0, 0x3F7CBFC9, 0x3F7CFE73,
   0x3F7D3AAC, 0x3F7D7474, 0x3F7DABCC, 0x3F7DE0B1, 0x3F7E1324, 0x3F7E4323, 0x3F7E70B0, 0x3F7E9BC9,
   0x3F7EC46D, 0x3F7EEA9D, 0x3F7F0E58, 0x3F7F2F9D, 0x3F7F4E6D, 0x3F7F6AC7, 0x3F7F84AB, 0x3F7F9C18,
   0x3F7FB10F, 0x3F7FC38F, 0x3F7FD397, 0x3F7FE129, 0x3F7FEC43, 0x3F7FF4E6, 0x3F7FFB11, 0x3F7FFEC4]

/-- Part 4 of the first quarter of the sine table. -/
def sineRom4 : List Nat :=
  [0x3F800000]

/-- The first quarter of the table, entries 0 to 256. -/
def sineQuarter : List Nat := sineRom0 ++ sineRom1 ++ sineRom2 ++ sineRom3 ++ sineRom4

/-- T[i]: sin(2π i ÷ 1,024) rounded to binary32 (R209). -/
def sineRom (i : Nat) : Word :=
  let i := i % 1024
  let q := i % 512
  let v := sineQuarter.getD (if q ≤ 256 then q else 512 - q) 0
  BitVec.ofNat 32 (if 512 < i then v + 2 ^ 31 else v)

/-- Interpolation on a table of 1,024 samples at a 16-bit angle (R209). -/
def tableAt (t : Nat → Word) (θ : Nat) : Word :=
  let i := θ % 65536 / 64
  fFma (fSub (t ((i + 1) % 1024)) (t i)) (fDiv (fOfNat (θ % 64)) (fOfNat 64)) (t i)

/-- sin θ (R209). -/
def fSin (θ : Nat) : Word := tableAt sineRom θ
/-- cos θ (R209). -/
def fCos (θ : Nat) : Word := fSin (θ + 0x4000)

/-! Lookups (R82) -/

/-- A table of the TABLE section. -/
structure Table where
  kind : Nat
  nx : Nat
  ny : Nat
  words : List Word
deriving DecidableEq, Repr, Inhabited

/-- The interval of x among ascending breakpoints: the number of the breakpoint x0 with x0 ≤ x < x1; none beyond the ends. -/
def lutFind (x : Word) : List Word → Nat → Option Nat
  | b0 :: b1 :: t, i => if fLe b0 x && fLt x b1 then some i else lutFind x (b1 :: t) (i + 1)
  | _, _ => none

/-- Linear interpolation y0 to y1 (R82). -/
def lerp (x x0 x1 y0 y1 : Word) : Word := fFma (fSub y1 y0) (fDiv (fSub x x0) (fSub x1 x0)) y0

/-- One-dimensional lookup: the end value beyond the end breakpoints; a NaN input gives the NaN, which no comparison
places. -/
def lut1 (x : Word) (xs ys : List Word) : Word :=
  if fIsNaN x then fNaN
  else if fLt x (xs.getD 0 0) then ys.getD 0 0
  else
    match lutFind x xs 0 with
    | some i => lerp x (xs.getD i 0) (xs.getD (i + 1) 0) (ys.getD i 0) (ys.getD (i + 1) 0)
    | none => ys.getD (xs.length - 1) 0

/-- A lookup in a table of KIND 1. -/
def Table.at1 (t : Table) (x : Word) : Word := lut1 x (t.words.take t.nx) (t.words.drop t.nx)

/-- A lookup in a table of KIND 2: along x in the two neighbouring rows, then along y. -/
def Table.at2 (t : Table) (x y : Word) : Word :=
  let xs := t.words.take t.nx
  let ys := (t.words.drop t.nx).take t.ny
  let row := fun j => (t.words.drop (t.nx + t.ny + j * t.nx)).take t.nx
  if fIsNaN x || fIsNaN y then fNaN
  else if fLt y (ys.getD 0 0) then lut1 x xs (row 0)
  else
    match lutFind y ys 0 with
    | some j => lerp y (ys.getD j 0) (ys.getD (j + 1) 0) (lut1 x xs (row j)) (lut1 x xs (row (j + 1)))
    | none => lut1 x xs (row (t.ny - 1))

end Sys2Proof.Machine
end

