-- ==== Sys2Proof/Machine/State.lean ====
section
/-!
DEFINITION. The state of the device as plain data. Everything a register shows lives in `regs` (one home); the structures
below hold what the spec gives the machine besides its registers. Reasons to stop stand at the end.
-/
namespace Sys2Proof.Machine

open Sys2Proof

/-- The twelve modes of R22, coded as SYS_MODE.MODE (R28). -/
inductive Mode where
  | dormant | load | selfTest | join | shadow | lead | leadDegraded | limp | stopping | safeHold | service | replay
deriving DecidableEq, Repr, Inhabited

/-- The code of a mode in SYS_MODE.MODE (R28). -/
def Mode.code : Mode → Nat
  | .dormant => 0 | .load => 1 | .selfTest => 2 | .join => 3 | .shadow => 4 | .lead => 5 | .leadDegraded => 6
  | .limp => 7 | .stopping => 8 | .safeHold => 9 | .service => 10 | .replay => 11

/-- The mode a code names; codes 0xC to 0xF never occur (R28) and read as LOAD. -/
def Mode.ofCode : Nat → Mode
  | 0 => .dormant | 1 => .load | 2 => .selfTest | 3 => .join | 4 => .shadow | 5 => .lead | 6 => .leadDegraded
  | 7 => .limp | 8 => .stopping | 9 => .safeHold | 10 => .service | 11 => .replay | _ => .load

/-- Whether the digital die is unpowered, held in reset (RESET_RELEASE is due), runs, or is kept on hold-up energy after a
loss of VSUP (R493). -/
inductive Phase where
  | off | held | run | holdup
deriving DecidableEq, Repr, Inhabited

/-- The level of XDIS_OUT (R381). -/
inductive Level where
  | z | low | high
deriving DecidableEq, Repr, Inhabited

/-- The OTP and e-fuse array (R23, R3): what outlives every reset and supply loss. [DESIGN CHOICE, log entry 6] -/
structure Otp where
  /-- Unique die ID (R27). -/
  uid : Nat := 0
  /-- Life-cycle state, coded as SYS_MODE.LIFECYCLE (R28, R63). -/
  lifecycle : Nat := 0
  /-- Flash read protocol (R40, R71): opcode, mode and dummy cycles. -/
  flashOpcode : Nat := 0
  flashMode : Nat := 0
  flashDummy : Nat := 0
  /-- Key hash of each of the four slots, none where unprogrammed (R70). -/
  keys : List (Option Nat) := [none, none, none, none]
  /-- Revoked slots as a mask (R70). -/
  revoked : Nat := 0
  /-- Programmed version floor entries, at most 64 (R52). -/
  floors : List Nat := []
  /-- Burned repair entries, at most 64, as BST_REPAIR words (R514). -/
  repairs : List Nat := []
  /-- The 128 sighting records as BST_SIGHT words; 0 is a free record (R513). -/
  sights : List Nat := []
  /-- Production ring-oscillator baselines in kHz (R515, R517). -/
  baseRo : List Nat := []
  /-- Board baselines once burned (R516): TON in ns of 18 gates, droop in mV/ms of 9 high sides, shunt codes of 3 bridges. -/
  baseBoard : Option (List Nat) := none
  /-- R_DS(on) baselines of the nine low sides in µΩ, 0 where not burned (R516). -/
  baseFet : List Nat := List.replicate 9 0
  /-- Ember RC trim (R472). -/
  rcTrim : Nat := 0
deriving DecidableEq, Repr, Inhabited

/-- The Ember domain (R453): what runs whenever VBAT is present, and every register field marked Kept.
[DESIGN CHOICE, log entry 6] -/
structure Ember where
  /-- VBAT above 1.8 V. -/
  vbat : Bool := true
  /-- The 48-bit RTC in units of 1/32,768 s. -/
  rtc : Nat := 0
  rtcValid : Bool := false
  /-- VBAT was applied since the last reset, so RTC_VALID sets at the next one (R454). -/
  validAtReset : Bool := true
  /-- The 32.768 kHz crystal runs; otherwise the RTC runs on the Ember RC (R454). -/
  xt32Ok : Bool := false
  /-- The RTC ran on the Ember RC at some time since the snapshot (R467). -/
  rcSince : Bool := false
  /-- Snapshot pair of Flue time and RTC value (R465). -/
  snapFlue : Nat := 0
  snapRtc : Nat := 0
  /-- A snapshot pair is stored (R317). -/
  snapSet : Bool := false
  /-- Armed alarm value (R465), none where no alarm is armed. -/
  alarm : Option Nat := none
  /-- The wake period and wait as last seen by the Ember domain (PWR_ALARM, R465, R466). -/
  period : Nat := 0
  /-- PWR_REQ level (R455). -/
  pwrReq : Bool := false
  /-- The RTC alarm raised PWR_REQ and VSUP is not valid yet (R466). -/
  waking : Bool := false
  /-- PWR_DORMANT_CNT, PWR_WAKE_CNT and PWR_WAKE_FAIL_CNT (R470). -/
  dormantCnt : Nat := 0
  wakeCnt : Nat := 0
  wakeFailCnt : Nat := 0
  /-- AGE_CRYSTAL and AGE_VDS_ON for ST, BK and AX, Kept (R530). -/
  crystal : Word := 0
  vdsOn : List Nat := [0, 0, 0]
  /-- First measured R_DS(on) of the nine low sides in µΩ, which wait to be burned as baselines; 0 where none (R516). -/
  fetFirst : List Nat := List.replicate 9 0
deriving DecidableEq, Repr, Inhabited

/-- Device-wide state outside the registers. [DESIGN CHOICE, log entry 6] -/
structure Sys where
  phase : Phase := .held
  /-- SYS_TICK, the 64-bit tick count (R33). -/
  tick : Nat := 0
  /-- Words latched by the reads of SYS_TICK_LO, FLU_TIME_LO and CLK_RTC_LO for the next read of the upper word (R33, R313, R471). -/
  tickLatch : Option Word := none
  flueLatch : Option Word := none
  rtcLatch : Option Word := none
  /-- Modes due at the next Flue cycle boundary (R59), each with its MODE record cause and source. -/
  next : List (Mode × Nat × Nat) := []
  /-- VSUP above its valid threshold (R458). -/
  vsup : Bool := true
  /-- VIO below 2.7 V (R299, R458). -/
  vioLow : Bool := false
  /-- VIO below 3.0 V (R551). -/
  vioUnder : Bool := false
  /-- Strap pins CHID1 and CHID0 (R30, R360). -/
  strap : Nat := 0
  xdisOut : Level := .z
  /-- JOIN has been entered since reset (R381). -/
  joined : Bool := false
  /-- LDS_XDIS_OUT_CNT of R381, which R392 and R396 give no register: changes of XDIS_OUT to low since reset. -/
  xdisOutCnt : Nat := 0
  /-- Banks whose spare tile is in use (R433, R506). -/
  spares : List Nat := []
  /-- Data rows that a spare row of their tile stands in for, as (tile, row); a tile's rows take its spare rows in this order (R506,
  R513). -/
  rowFix : List (Nat × Nat) := []
  /-- SAFE-HOLD has been entered since reset (R464). -/
  heldSafe : Bool := false
  /-- The wipe of LOAD has ended (R16; READY of SVC_STATUS). -/
  wiped : Bool := false
deriving DecidableEq, Repr, Inhabited

/-- A power domain besides its registers (R459 to R463). -/
structure Dom where
  /-- The transition runs towards the low state (an entry) rather than towards on (a restoration). -/
  entering : Bool := false
  /-- The step in hand: 0 regulator, 1 oscillator or PLL, 2 memory, 3 logic (R463). -/
  step : Nat := 0
  /-- The present restoration is the repeat after a timed-out step. -/
  retried : Bool := false
  /-- The low state left by the restoration in hand, or held, was off rather than retention. -/
  wasOff : Bool := true
  /-- The domain is lost: its restoration timed out twice. -/
  lost : Bool := false
deriving DecidableEq, Repr, Inhabited

/-- A journal marker (R485). -/
structure Marker where
  kind : Nat
  j : Nat
  id : Nat
  data : Nat
deriving DecidableEq, Repr, Inhabited

/-- A freeze trigger (R488): kind, source and cycle count. -/
structure Trig where
  kind : Nat
  source : Nat
  cycle : Nat
deriving DecidableEq, Repr, Inhabited

/-- A checkpoint or an entry in the journal ring: its sample cycle, place and length (R484, R486). -/
structure JItem where
  ckpt : Bool
  s : Nat
  off : Nat
  len : Nat
deriving DecidableEq, Repr, Inhabited

/-- The journal besides its registers and its ring in tiles 1793 to 2047 (R482). -/
structure Jrn where
  /-- Markers due for the present entry, in order of arrival (R485). -/
  markers : List Marker := []
  /-- Checkpoints and entries the ring holds, oldest first. -/
  items : List JItem := []
  /-- The trigger that the pending or frozen window answers (R488). -/
  trig : Option Trig := none
  /-- Entries still to record before the freeze (R489). -/
  post : Option Nat := none
  /-- Triggers merged into the pending window (R490). -/
  merged : List Trig := []
  /-- The journal restarts with a checkpoint at the next boundary (R489). -/
  restart : Bool := false
  /-- Replay-set values of the present cycle: T1 group so far, and tick-0 group, with their age flags (R484). -/
  values : List (Word × Bool) := []
  values0 : List (Word × Bool) := []
  /-- T1 taps of the present cycle, by instance in the order of the ticks (R483). -/
  tapT1 : List (Nat × List (Word × Bool)) := []
  /-- REPLAY: the entry in execution, and whether a comparison has differed (R495). -/
  cur : List Byte := []
  differed : Bool := false
  /-- REPLAY: the sample cycle of the window's first checkpoint (R491). -/
  first : Nat := 0
  /-- REPLAY: the window's remaining entries as byte strings, the checkpoints among them marked (R494, R495). -/
  replay : List (Bool × List Byte) := []
  /-- REPLAY_ABORT has been taken and acts at the next boundary (R496). -/
  abort : Bool := false
deriving DecidableEq, Repr, Inhabited

/-- A request to append an Ash record (R475, R481). -/
structure AshReq where
  type : Nat
  flags : Nat
  body : List Byte
  tick : Nat
  time : Nat
deriving DecidableEq, Repr, Inhabited

/-- The Ash record's controller besides its registers and the MRAM. -/
structure Ash where
  /-- Requests in order (R481); the head is appended by ASH_APPEND. -/
  queue : List AshReq := []
  /-- The first writing of the next record is withheld, since the comparators of the pair differ on it (R430). -/
  withhold : Bool := false
  /-- ASH_WRITE was raised for a missing MRAM or a stopped port (R479). -/
  failRaised : Bool := false
  /-- A life-cycle target whose record is being committed, and whether it is committed (R63). -/
  lcTarget : Option Nat := none
  lcDone : Bool := false
deriving DecidableEq, Repr, Inhabited

/-- The fault collector besides its registers (R436 to R444). -/
structure Flt where
  /-- Sources whose unit asserts them (the detectors' levels). -/
  level : List Nat := []
  /-- Source pairs that disagree for more than two clocks (R436). -/
  wire : List Nat := []
  /-- Sources whose force pulse runs (R443). -/
  forced : List Nat := []
  /-- Sources whose clearing wait of R243 runs. -/
  waiting : List Nat := []
  /-- Sources that hold something in their unit now (R441, second case). -/
  unitHold : List Nat := []
  /-- Sources whose action was taken and is in force (R440). -/
  acting : List Nat := []
  /-- FAULT_RAISE blocks whose last applied input was non-zero (R442): (instance, source). -/
  blocks : List (Nat × Nat) := []
  /-- Comparator and verify retries in the present second of R435, none where no window runs. -/
  retries : Option Nat := none
  /-- Tick at which the window of R435 ends. -/
  retryEnd : Nat := 0
deriving DecidableEq, Repr, Inhabited

/-- An imposition on a bridge (R241): its cause code (1 XDIS … 7 LINK_OV) and whether it is ASC rather than OFF. -/
structure Imp where
  bridge : Nat
  cause : Nat
  asc : Bool
  /-- The fault source whose clearing lifts it (R243). -/
  src : Nat
deriving DecidableEq, Repr, Inhabited

/-- Gate drive and power stage besides the registers. -/
structure Gdr where
  imps : List Imp := []
  /-- XDIS_IN accepted low (R242). -/
  xdisIn : Bool := false
  /-- The OFF that an old lead imposes on releasing a commanded handover (R376 step 4). -/
  hoRelease : Bool := false
  /-- Set-points in mA and enable commands as last written by SOL_WRITE and ENABLE_WRITE. -/
  solSet : List Nat := List.replicate 12 0
  /-- Solenoid channels shut down (R246). -/
  solShut : List Nat := []
  /-- Solenoid channel held at 0 until reset by R389. -/
  released : Option Nat := none
  /-- High sides that reached BOOT_UV: (gate, 0) in the half of the first time, (gate, 1) in the second attempt (R235). -/
  bootTry : List (Nat × Nat) := []
  /-- Supplies that are on (R248). -/
  ssOn : List Nat := []
  /-- Gates withheld by a SHOOT_THROUGH_ATTEMPT (R232). -/
  shootHeld : List Nat := []
  /-- Gates sensed on after their turn-off command (GATE_STUCK, R231). -/
  stuck : List Nat := []
  /-- XDIS_IN went high again and the bridges wait for the next half boundary (R382). -/
  resume : Bool := false
  /-- The cycle in which the latest staggered test pulse started (R411). -/
  pulseCycle : Option Nat := none
  /-- The gate enable is off for the rest of the half after a comparator 17 or 20 mismatch (R429). -/
  enOffHalf : Bool := false
  /-- High sides whose forced refresh runs in the present half (R234). -/
  refreshing : List Nat := []
  /-- Link voltages in 0.25 V units as the detectors last saw them (R239, R240). -/
  linkU : List Nat := [0, 0]
deriving DecidableEq, Repr, Inhabited

/-- A bridge's carrier besides its registers (R203 to R212). -/
structure Mot where
  /-- Duties written since the latest half began, clamped to [0, 1] (R205). -/
  duties : Option (List Word) := none
  /-- Number of halves since reset, which tells adjacent halves apart (R212). -/
  half : Nat := 0
  /-- The sample planned in the present half: instant in counts and tag (R211). -/
  plan : Option (Nat × Nat) := none
  /-- The half, current and tag of the latest sample (R212). -/
  prev : Option (Nat × Word × Nat) := none
  /-- Shunt codes at the latest tick starts in OFF, most recent first, at most 64 (R228). -/
  zero : List Nat := []
deriving DecidableEq, Repr, Inhabited

/-- What a conversion serves: a regular entry, an injected or group entry, a pair step, a reference check (R259 to R267). -/
inductive ConvKind where
  | regular | injected | pair | reference
deriving DecidableEq, Repr

/-- A reference check that runs: the codes it has so far, and whether it is the repeat of a failed one (R267). -/
structure RefRun where
  codes : List Nat := []
  again : Bool := false
deriving DecidableEq, Repr, Inhabited

/-- A converter besides its registers. -/
structure Conv where
  /-- Next injected entry. -/
  inj : Nat := 0
  /-- Kind and channel of a conversion that an injected start let complete (R261). -/
  tail : Option (ConvKind × Nat) := none
  /-- The regular sequence is interrupted, or waits for the injected one (R261, R262). -/
  wait : Bool := false
  /-- Result of the present pair step: code and over-range (R266). -/
  pair : Option (Nat × Bool) := none
  /-- A reference check has fallen due and waits for its turn (R262). -/
  refDue : Bool := false
  /-- The reference check in hand (R267). -/
  ref : Option RefRun := none
deriving DecidableEq, Repr, Inhabited

/-- A phase of an open-wire cycle (R270). -/
inductive OwPhase where
  | up | down | recover
deriving DecidableEq, Repr

/-- An open-wire test cycle: channel, phases to come, whether the phases run are the repeat, whether every check passed. -/
structure OwTest where
  chan : Nat
  phases : List OwPhase
  repeating : Bool
  pass : Bool
deriving DecidableEq, Repr

/-- Analogue acquisition besides its registers (R256 to R271). -/
structure Adc where
  conv : List Conv := List.replicate 8 {}
  /-- Start bits set and not yet acted on (R259). -/
  starts : List AdcSeq := []
  /-- Flue time in ns of each channel's latest window end (R275). -/
  times : List Nat := List.replicate 64 0
  ow : Option OwTest := none
  /-- The channel of the latest cycle, and a period that ended while a cycle ran (R270). -/
  owLast : Option Nat := none
  owDue : Bool := false
  /-- Intake values, as before them, of the results written in the fabric cycle of the coming intake point: source, value, age flag
  (R269). -/
  before : List (Nat × Word × Bool) := []
deriving DecidableEq, Repr, Inhabited

/-- A position interface besides its registers (R182 to R197). -/
structure Pos where
  /-- The candidate's count while CAND is set (R184). -/
  cand : Word := 0
  /-- Times of the latest eight count steps, most recent first (R201). -/
  log : List Word := []
  /-- A serial read runs; its latch time in ns. -/
  run : Bool := false
  latch : Nat := 0
  /-- The read in hand is a retry, or serves as one (R190). -/
  retry : Bool := false
  /-- A failed word waits for its retry; `due`: the retry is to start before the tick start. -/
  pend : Bool := false
  due : Bool := false
  /-- The latest word has ended, and data has not been judged for TIMEOUT; it failed already; it was a retry (R190). -/
  ended : Bool := false
  failed : Bool := false
  again : Bool := false
  /-- A read has completed since the latest slot start of PERIOD's class (R189). -/
  got : Bool := false
  /-- Latch time in ns of the latest good word, none before the first. -/
  word : Option Nat := none
  /-- The latest frame shifted out on PT_A (R197). -/
  ptFrame : List Bool := []
  /-- Levels driven on PT_A, PT_B and PT_I in bits 0 to 2, none while the pins do not re-drive (R196). -/
  ptPins : Option Nat := none
  /-- Flue time in ns at which the running pulse on POSn_CMP ends (R193). -/
  cmpEnd : Nat := 0
  /-- Flue time in ns at which the edge held in the probe latch was accepted (R192). -/
  prbAt : Nat := 0
  /-- Flue times in ns at which the present levels of A, B and I were first sampled (R180). -/
  since : List Nat := [0, 0, 0]
  /-- What was accepted in the filter clock of the coming tick start (R191), in the order given. -/
  late : List Instr := []
  /-- Commands of the queue that have taken effect with others of their filter clock (R186, R195). -/
  taken : List Instr := []
  /-- The intake values of the tick start taken before those (R191). -/
  snap : Option (List Word) := none
deriving DecidableEq, Repr, Inhabited

/-- A source of a set-point channel (R125, R126). -/
structure SpSrc where
  /-- The scaled value of its latest message, none before the first. -/
  val : Option Word := none
  /-- Its timer has expired since the latest message. -/
  out : Bool := false
  /-- The loss has been counted. -/
  counted : Bool := false
  /-- Consecutive messages since the channel came to run on the alternate, none later than the timeout. -/
  run : Nat := 0
deriving DecidableEq, Repr, Inhabited

/-- A set-point channel besides its registers. -/
structure Sp where
  pri : SpSrc := {}
  alt : SpSrc := {}
  /-- The value it shows: none while it holds INITIAL. -/
  cur : Option Word := none
deriving DecidableEq, Repr, Inhabited

/-- A transmit buffer (R342): the frame it holds, a held load, a held cancel; `late`: the held write belongs to the table's last row,
the frame it waits for having won arbitration. -/
structure CanBuf where
  frame : Option CanMsg := none
  load : Option CanMsg := none
  cancel : Bool := false
  late : Bool := false
deriving DecidableEq, Repr, Inhabited

/-- A CAN controller besides its registers. -/
structure Can where
  bufs : List CanBuf := [{}, {}, {}]
  /-- Receive FIFO: frames with Flue time ÷ 1 µs and the lowest matching filter (R344). -/
  fifo : List (CanMsg × Nat × Nat) := []
  /-- Transmit and receive error counts (R339); the register shows at most 255. -/
  tec : Nat := 0
  rec' : Nat := 0
  /-- CAN_0: the address being claimed (R347). -/
  claim : Option Nat := none
  /-- The address that is tried next when a claim is contested (R347 step 2). -/
  nextAddr : Nat := 128
  /-- CAN_0: the states of sections 0 to 63 (R348). -/
  sections : Nat := 0
  /-- Frames of the ISOBUS functions that wait to be sent. -/
  iso : List CanMsg := []
deriving DecidableEq, Repr, Inhabited

/-- An ARP entry (R353): address, MAC, and when it was last learned. -/
structure Arp where
  ip : Nat
  mac : List Byte
  stamp : Nat
deriving DecidableEq, Repr, Inhabited

/-- A PTP time-stamp (R354). -/
structure PtpTime where
  sec : Nat
  ns : Nat
deriving DecidableEq, Repr, Inhabited

/-- What every PTP message carries (R355): DOMAIN, the clock identity, and whether its transport is Ethernet 0x88F7 to
01-1B-19-00-00-00 rather than UDP/IPv4 to 224.0.1.129. -/
structure PtpHead where
  domain : Nat
  clock : List Byte
  l2 : Bool
deriving DecidableEq, Repr, Inhabited

/-- What an Ethernet port sends (R351 to R355). -/
inductive EthOut where
  | pause (quanta : Nat)
  | arpReply (ip : Nat) (mac : List Byte)
  | arpRequest (ip : Nat)
  | echoReply (ip : Nat) (data : List Byte)
  /-- A UDP datagram: destination, source port, MAC of the next hop; `feed` tells the tile feed from ETH_TX. -/
  | udp (feed : Bool) (ip port src : Nat) (mac : List Byte) (data : List Byte)
  /-- A two-step Sync, an event message (UDP port 319). -/
  | sync (h : PtpHead) (seq : Nat)
  /-- Follow_Up with the Sync's time-stamp; it, Announce and Delay_Resp are general messages (UDP port 320). -/
  | followUp (h : PtpHead) (seq : Nat) (t : PtpTime)
  /-- Announce: clock class, and whether the timescale is PTP rather than ARB. -/
  | announce (h : PtpHead) (clockClass : Nat) (ptpScale : Bool)
  /-- Delay_Resp: requesting port identity, sequenceId and receive time-stamp. -/
  | delayResp (h : PtpHead) (identity : List Byte) (seq : Nat) (t : PtpTime)
deriving DecidableEq, Repr

/-- A feed datagram in a receive buffer (R351): source, payload, Flue time of arrival in ns, length on the wire. -/
structure Dgram where
  port : Nat
  ip : Nat
  src : Nat
  mac : List Byte
  data : List Byte
  t : Nat
  size : Nat
deriving DecidableEq, Repr, Inhabited

/-- An Ethernet port besides its registers. -/
structure Eth where
  /-- The sixteen ARP entries (R353). -/
  arps : List (Option Arp) := List.replicate 16 none
  /-- Bytes in the receive buffer (R351). -/
  fill : Nat := 0
  /-- Frames sent since the latest tick start, and frames held back by a pause (R352). -/
  sent : List EthOut := []
  held : List EthOut := []
  /-- Tick at which an ARP request for an address last went out, and at which an echo request was last answered. -/
  asked : List (Nat × Nat) := []
  echo : Option Nat := none
deriving DecidableEq, Repr, Inhabited

/-- A tile key: layer, tx, ty (R137, R138). -/
structure TileKey where
  layer : Nat
  tx : Int
  ty : Int
deriving DecidableEq, Repr, Inhabited

/-- A directory entry of an occupied slot (R139): 1 PRESENT, 2 DIRTY, 3 UNKNOWN; when it was last used and last rasterised. -/
structure MapEnt where
  slot : Nat
  key : TileKey
  ver : Nat
  st : Nat
  use : Nat
  raster : Nat
deriving DecidableEq, Repr, Inhabited

/-- A tile in assembly (R146): fragments received so far, and the SEQ of the latest. -/
structure Asm where
  key : TileKey
  ver : Nat
  frags : List (Nat × List Byte)
  seq : Nat
deriving DecidableEq, Repr, Inhabited

/-- A target event, or the disc of a dropped one (R164). -/
structure TEvent where
  x : Int
  y : Int
  radius : Nat
  dose : Nat
  erase : Bool
  unknown : Bool := false
deriving DecidableEq, Repr, Inhabited

/-- An accepted POSE (R146). -/
structure Pose where
  tValid : Nat
  x : Word
  y : Word
  psi : Word
  v : Word
  a : Word
  omega : Word
  qual : Nat
deriving DecidableEq, Repr, Inhabited

/-- A feed session (R143, R147, R148, R150). -/
structure Session where
  id : Nat
  client : Nat
  flags : Nat
  /-- Flue time in ns at which the opening HELLO arrived. -/
  opened : Nat
  /-- Ports served: port, address and UDP port of the HELLO accepted there. -/
  ports : List (Nat × Nat × Nat)
  /-- The last 64 accepted SEQ values, most recent first, and the own next SEQ. -/
  seqs : List Nat
  tx : Nat := 0
  tiles : Nat := 0
  events : Nat := 0
  /-- The rate bucket B in thousandths. -/
  bucket : Nat := 4096000
  pose : Option Pose := none
deriving DecidableEq, Repr, Inhabited

/-- The map store and the tile feed besides their registers and the tile contents (R136 to R165). -/
structure MapSt where
  dir : List MapEnt := []
  /-- Slots removed from the store until reset (R433). -/
  removed : List Nat := []
  asm : List Asm := []
  /-- Tiles installed and visible from the next T16 slot start (R141, R147). -/
  ready : List Asm := []
  /-- What else becomes visible there: cells COVERAGE marks, entries to free, entries to make UNKNOWN, events to rasterise. -/
  marks : List (TileKey × Nat) := []
  drops : List TileKey := []
  lost : List TileKey := []
  /-- Keys whose tile failed its verification lasting in the present T16 slot: read as UNKNOWN (R92). -/
  unread : List TileKey := []
  raster : List TEvent := []
  events : List TEvent := []
  session : Option Session := none
  lastId : Nat := 0
  /-- Error codes and the tick at which an ERROR for each was last sent (R149). -/
  errs : List (Nat × Nat) := []
  /-- Pinned tiles with the T16 samples since a path entered them, and tiles entered in the present sample (R140). -/
  pins : List (TileKey × Nat) := []
  entered : List TileKey := []
deriving DecidableEq, Repr, Inhabited

/-- A point command (R159): state, duty in per mille, rate class, action time in 10 µs units. -/
structure PtCmd where
  on : Bool
  duty : Nat
  cls : Nat
  action : Nat
  /-- It has left the queue of R162. -/
  sent : Bool := false
  /-- Its action time was moved to keep the minimum on-time (R161). -/
  moved : Bool := false
  /-- It changes the duty alone and is no transition (R161, R167). -/
  trim : Bool := false
deriving DecidableEq, Repr, Inhabited

/-- A decision along a point's path (R158): the action time of the change to it, on or off, rate class. -/
structure Cand where
  action : Nat
  on : Bool
  cls : Nat
deriving DecidableEq, Repr, Inhabited

/-- A point of the point table (R156). -/
structure PointRun where
  /-- State that holds once every command whose action time has come is executed; action time of its latest on-action. -/
  on : Bool := false
  duty : Nat := 0
  cls : Nat := 0
  onAct : Nat := 0
  pend : Option PtCmd := none
  /-- Start decision and changes found by the latest CROSSING sample. -/
  cands : List Cand := []
  /-- Layer-0 cells entered on the path, with the time of entry in 10 µs units (R142). -/
  path : List (Nat × TileKey × Nat) := []
  /-- Latest times of spray: from, and to where it ended (R142). -/
  sprays : List (Nat × Option Nat) := []
  /-- TURN_COMP: factor, and a raw factor of 0 or less (R166). -/
  factor : Word := 0x3F800000
  back : Bool := false
  /-- TURN_COMP's enable is 0 (R156). -/
  turnOff : Bool := false
  /-- NOZZLE_PWM: duty by rate class, and its enable is 0 (R167). -/
  duties : List Nat := []
  pwmOff : Bool := false
  /-- POINT_CMD's enable is 0 (R156). -/
  cmdOff : Bool := false
  /-- The off gap ahead is bridged (R161). -/
  bridged : Bool := false
deriving DecidableEq, Repr, Inhabited

/-- An entry of the command queue (R162): point, command, and what held for the point before it was emitted. -/
structure SecEntry where
  point : Nat
  cmd : PtCmd
  prev : Option PtCmd
  word : Word
deriving DecidableEq, Repr, Inhabited

/-- The section logic besides its registers (R152 to R168). -/
structure Sec where
  pts : List PointRun := []
  queue : List SecEntry := []
  /-- VALID of the latest POSE_EXTRAP sample, and its T_REF (R153). -/
  valid : Nat := 0
  /-- SECTION_MASK as a 64-bit mask (R156). -/
  mask : Nat := 0xFFFFFFFFFFFFFFFF
  /-- ISO_SECTION: states of sections 0 to 63 and SECTION_OFFSET, none without a sample (R168). -/
  iso : Option (Nat × Nat) := none
  /-- The first T16 slot end as lead is to come (R163). -/
  resend : Bool := false
  /-- Slot end and the number of commands emitted at it. -/
  emitted : Nat × Nat := (0, 0)
  /-- SYS_TICK_LO at the start of the present T16 slot (R173). -/
  slotTick : Word := 0
deriving DecidableEq, Repr, Inhabited

/-- A safety receive channel besides its registers (R401, R402). -/
structure SafCh where
  /-- SEQ of the candidate held, and the cycle count of the reference. -/
  cand : Option Nat := none
  cRef : Nat := 0
  /-- The four data words with their age flags. -/
  words : List (Word × Bool) := List.replicate 4 (0, true)
deriving DecidableEq, Repr, Inhabited

/-- The safety functions besides their registers (R397 to R412). -/
structure Saf where
  rx : List SafCh := List.replicate 6 {}
  /-- Consecutive standstill verdicts, and the tick at which STANDSTILL set. -/
  still : Nat := 0
  stillTick : Nat := 0
  /-- Supplies whose PULSE_EVAL gave verdict 1. -/
  blank : List Nat := []
deriving DecidableEq, Repr, Inhabited

/-- A comparator's FIFO (R426): side (false A or North, true B or South) and write; what identifies the retries that are due
(`State.retryKey`); writes of a side that stalls while the FIFO is full (R427). -/
structure CmpRun where
  fifo : List (Bool × BusWrite) := []
  retry : List Nat := []
  stalled : List (Bool × BusWrite) := []
  /-- Tags that this comparator of a duplicated pair has released or flagged and its partner has not judged yet (R430). -/
  passed : List Nat := []
  flagged : List Nat := []
deriving DecidableEq, Repr, Inhabited

/-- A channel frame as received (R363). -/
structure ChFrame where
  id : Nat
  role : Nat
  mode : Nat
  flags : Nat
  target : Nat
  f : Nat
  dvalid : Nat
  dcycle : Nat
  digest : Nat
  taps : List Word
  tapAge : Nat
  /-- The bytes of a received payload that no field reads: ID as sent and the reserved ones. -/
  rest : List Byte := []
deriving DecidableEq, Repr, Inhabited

/-- The lead and shadow logic besides its registers (R360 to R391). -/
structure Lds where
  /-- A commanded handover has been asked for and waits for a successor and a boundary (R376 step 1). -/
  hoReq : Bool := false
  /-- Successor named by HO_REQ and the cycle H in which the request went out; 0 while none is in progress. -/
  hoTarget : Nat := 0
  hoCycle : Nat := 0
  /-- This device was named, engages and enters LEAD at the next boundary (R376 step 3). -/
  engage : Bool := false
  /-- Cause of the handover that brings this device to LEAD at the next boundary (R395), and the old lead. -/
  hoCause : Nat := 0
  hoFrom : Nat := 0
  /-- Channel frames accepted in the present cycle, with the ring (0 A, 1 B). -/
  rx : List (Nat × ChFrame) := []
  /-- The own channel frame of the present cycle, as frozen, carries ROLE 1 and READY (R374). -/
  ownReady : Bool := false
  /-- Levels at which XDIS_IN has stood accepted at some time in the present cycle (R384). -/
  inLow : Bool := false
  inHigh : Bool := false
  /-- Frames heard in the latest complete cycle (R363). -/
  prev : List ChFrame := []
  /-- The latest cycle in which the lead's channel frame was heard (R375), and the latest lead's ID, 0 before the first. -/
  leadHeard : Option Nat := none
  leadId : Nat := 0
  /-- Cycles since a channel was heard with ROLE 1 and READY, by ID - 1 (R386). -/
  readyAge : List Nat := [255, 255, 255]
  /-- Consecutive cycles in which a ring was not OK (R386). -/
  ringBad : List Nat := [0, 0]
  /-- Frames accepted from other nodes in the present cycle, and consecutive cycles without one (R388). -/
  anyFrame : Bool := false
  quiet : Nat := 0
  /-- Boundary at which the own lead tenure began, and first cycle with ROLE 2 of each other channel (R380). -/
  tenure : Option Nat := none
  peerTenure : List (Option Nat) := [none, none, none]
  /-- Cycle of the latest test window granted (R384). -/
  window : Option Nat := none
  /-- The fault count F of the latest static segment (R386). -/
  f : Nat := 0
  /-- The tap values of the present sample cycle as intake (R365). -/
  tapIn : List (Nat × Word × Bool) := []
  /-- Own samples of the taps at tick 0 of the present and the previous cycle (R365). -/
  tapNow : List (Word × Bool) := []
  tapPrev : List (Word × Bool) := []
  /-- Own output digests by sample cycle, most recent first (R369). -/
  digests : List (Nat × Word) := []
  /-- Cycles of the mismatches of the latest second (R371). -/
  mismatches : List Nat := []
  /-- DISAGREE of the present cycle's frame (R371). -/
  disagree : Bool := false
  /-- Consecutive sample cycles with a vote against the lead (R372). -/
  votes : Nat := 0
  /-- Agreeing digests since the round was applied (R370). -/
  agree : Nat := 0
  /-- Lead: carried words already sent in the present round. Shadow: words applied in the round in hand (R370). -/
  sent : List Nat := []
  /-- Shadow: a round began after ALIGNED cleared, and one has been applied whole. -/
  inRound : Bool := false
  roundDone : Bool := false
  /-- The device came to LEAD from JOIN, so that FIRST goes out in the cycle after that entry (R370). -/
  first : Bool := false
  /-- Intake values of the present cycle for the record (R364): T1 group so far, and tick-0 group. -/
  values : List (Word × Bool) := []
  values0 : List (Word × Bool) := []
  /-- Channel frames heard in the cycle before the latest complete one (R371). -/
  older : List ChFrame := []
  /-- The lead's record for the next sample cycle, with the FIRST flag that came with it. -/
  lead : Option (List Byte × Bool) := none
  /-- The lead's record in execution, empty where none is. -/
  cur : List Byte := []
  /-- Stream entries of the record in execution: carried-word index, age flag, ROUND_START, value (R364). -/
  stream : List (Nat × Bool × Bool × Word) := []
  /-- This device has yielded the lead (R380) and drives XDIS_OUT high. -/
  yielded : Bool := false
  /-- The mismatch of the present cycle's comparison waits for the votes of the cycle's frames (R371, R372). -/
  undecided : Bool := false
  /-- Sample cycles below this one are skipped after a takeover (R377). -/
  skipTo : Nat := 0
  /-- The first cycle of the lead's request that names this device (R376 step 3). -/
  reqSince : Nat := 0
  /-- Ticks since REDUNDANCY_LOST set, for GRACE (R386), and the cycle isolation began (R388). -/
  isolated : Option Nat := none
deriving DecidableEq, Repr, Inhabited

/-- A static slot of a schedule: owner (255: none), KIND and LEN (R319). -/
structure Slot where
  owner : Nat := 255
  kind : Nat := 0
  len : Nat := 0
deriving DecidableEq, Repr, Inhabited

/-- A schedule record of the FLUE section (R319). -/
structure Sched where
  index : Nat
  dynCmd : Bool
  slots : List Slot
deriving DecidableEq, Repr, Inhabited

/-- The FLUE section of the image in use (R318). -/
structure FlueImg where
  init : Nat := 0
  listen : Nat := 0
  kindleStep : Nat := 0
  kindleCycles : Nat := 0
  syncMin : Nat := 1
  syncNodes : Nat := 0
  kindlingNodes : Nat := 0
  voteNodes : Nat := 0
  lostCycles : Nat := 0
  coldLimit : Nat := 0
  ppsEn : Bool := false
  falling : Bool := false
  extStep : Nat := 0
  ppsDelay : Int := 0
  scheds : List Sched := []
deriving DecidableEq, Repr, Inhabited

/-- A frame header (R286); `flags` holds READY, AGE, SYNC and KINDLING in bits 0 to 3. -/
structure Hdr where
  slot : Nat := 0
  cycle : Nat := 0
  node : Nat := 0
  modeReq : Nat := 0
  flags : Nat := 0
  ptype : Nat := 0
  ageCnt : Nat := 0
  dynReq : Nat := 0
  len : Nat := 0
  sched : Nat := 0
deriving DecidableEq, Repr, Inhabited

/-- A frame accepted on a ring (0 A, 1 B). -/
structure RxFrame where
  ring : Nat
  hdr : Hdr
  payload : List Byte
deriving DecidableEq, Repr, Inhabited

/-- The transmit buffer of an own static slot (R295, R296). -/
structure TxBuf where
  slot : Nat
  data : List Byte
  /-- FLUE_TX instances whose effect was applied since the slot's previous frame. -/
  written : List Nat := []
  ageCnt : Nat := 0
  /-- A fresh payload has been sent since entry into JOIN, or since the slot was newly owned. -/
  ready : Bool := false
  /-- SEQ of the next frame of a KIND 1 slot (R400). -/
  seq : Nat := 0
deriving DecidableEq, Repr, Inhabited

/-- Where integration stands (R330, R331). -/
inductive Integ where
  /-- Not started: before the first entry into JOIN. -/
  | idle
  /-- Listening for a sync frame. -/
  | listen
  /-- Time adopted: complete cycles seen so far (none before the first boundary), and whether every frame carried SCHED. -/
  | check (cycles : Option Nat) (ok : Bool)
  /-- Lone kindling begins at the next boundary. -/
  | kindleDue
  /-- Lone kindling: cycles ended so far, and whether the latest had SYNC_MIN values. -/
  | kindle (cycles : Nat) (prevOk : Bool)
  /-- IN_SYNC. -/
  | synced
deriving DecidableEq, Repr, Inhabited

/-- The Flue besides its registers (R278 to R337). -/
structure Flu where
  /-- The 64-bit cycle count C of the present cycle (R281). -/
  cycle : Nat := 0
  /-- Flue time in ns at the latest command that told it (R316). -/
  time : Nat := 0
  integ : Integ := .idle
  /-- Frames accepted in the present cycle, in order of arrival. -/
  rx : List RxFrame := []
  /-- Ring, SLOT and CYCLE of the frames received in the latest two cycles (R290). -/
  seen : List (Nat × Nat × Nat) := []
  /-- Sync values of the present cycle: node, ring, deviation (R323). -/
  sync : List (Nat × Nat × Int) := []
  /-- SCHED of the sync frames of the present cycle, by node (R337). -/
  syncSched : List (Nat × Nat) := []
  /-- MODE_REQ of the voting sync frames accepted in the present and the previous cycle, by node (R335). -/
  votes : List (Nat × Nat) := []
  votesPrev : List (Nat × Nat) := []
  /-- The own sync frame was sent in the present cycle (R323). -/
  syncSent : Bool := false
  /-- Consecutive cycles with n below SYNC_MIN (R327). -/
  lostRun : Nat := 0
  /-- Sum of -m since the latest update of R325. -/
  sumM : Int := 0
  /-- Remaining PPS correction r, and e of the latest edge since listening began (R329). -/
  ppsR : Int := 0
  ppsE : Option Int := none
  /-- Nodes heard in the previous cycle (R284). -/
  heardPrev : List Nat := []
  tx : List TxBuf := []
  /-- Frames frozen for the present cycle and not sent yet (R295). -/
  out : List (Hdr × List Byte) := []
  /-- Frames sent in the present cycle: header and the rings they left on as a mask. -/
  sent : List (Hdr × Nat) := []
  /-- Bytes of the latest own frame on the wire: header, payload, CRC, tail (R285). -/
  wire : List Byte := []
  /-- Own DYN_REQ frozen for the present cycle (R284). -/
  dynReq : Nat := 0
  /-- The next own frame is withheld after a transmit comparison (R429). -/
  withhold : Bool := false
  /-- Ring and HOPS of the latest frame forwarded, none where the latest was not (R288 to R290). -/
  fwd : Option (Nat × Nat) := none
  /-- Bytes of that forwarded frame: as received but for its tail (R289), or what had left of it when it was ended with ABORT (R291). -/
  fwdFrame : List Byte := []
  fwdAbort : Bool := false
deriving DecidableEq, Repr, Inhabited

/-- A block instance of the image in use (R45, R81). -/
structure Node where
  ty : Nat
  cls : Nat
  rate : Nat
  home : Nat
  /-- Input signals and output signals, in port order. -/
  ins : List Nat
  outs : List Nat
  /-- The parameter words the instance owns. -/
  params : List Word
  stateWords : Nat
deriving DecidableEq, Repr, Inhabited

/-- A signal of the image in use (R46). -/
structure Sig where
  int : Bool
  /-- Producing instance, none for an intake signal. -/
  producer : Option Nat
  /-- Output port, or intake source number. -/
  port : Nat
  initial : Word
deriving DecidableEq, Repr, Inhabited

/-- What a copy of an instance has staged (R90). -/
structure Staged where
  outs : List (Word × Bool)
  st : List Word
  /-- The inputs it read, which a writer's effect applies at the slot end (R94). -/
  ins : List (Word × Bool)
  /-- Fault sources the commit raises (R399, R218, R220). -/
  raises : List Nat
  /-- Integration stopped under R112. -/
  held : Bool
  /-- The set the commit copies into the inactive bank (R118). -/
  swap : Option Nat
  /-- Tiles the copy read (R91 condition 2). -/
  tiles : List Nat
  /-- The hob that ran it. -/
  hob : Nat
deriving DecidableEq, Repr, Inhabited

/-- Where an instance's present sample stands; `failed`: its retry mismatched again (R93 step 4). -/
inductive Sample where
  | idle | due | committed | failed | missed | skipped
deriving DecidableEq, Repr, Inhabited

/-- What a commit replaced, for a slot that turns out to contain a skipped cycle (R368). -/
structure Saved where
  st : List Word
  fresh : Bool
  reseed : Bool
  pend : Option (Nat × List Word × Nat)
  /-- LIMIT and U of the LAW slot, and whether the sample counted as held (R131, R135). -/
  law : Nat × Word := (0, 0)
  held : Bool := false
  /-- The points of a section type with SEC_POINT_n.UNKNOWN, VALID, mask and sections as they stood, and the events RASTER took
  (R156). -/
  pts : List (Nat × PointRun × Bool) := []
  valid : Nat := 0
  mask : Nat := 0
  iso : Option (Nat × Nat) := none
  taken : Nat := 0
  /-- A state reset had marked the sample's outputs (R92). -/
  aged : Bool := false
  /-- What the SAF registers showed of a safety type (R422): fields, addresses of the counters that counted, the standstill run with
  its start, and the supplies blanked. -/
  shown : List Nat := []
  counted : List Nat := []
  still : Nat × Nat := (0, 0)
  blank : List Nat := []
deriving DecidableEq, Repr, Inhabited

/-- An instance at run time. -/
structure InstRun where
  /-- Committed state words. -/
  st : List Word := []
  /-- No sample has committed since LOAD or the last state reset. -/
  fresh : Bool := true
  /-- The gain set in the active bank, and its number (R115). -/
  bank : List Word := []
  act : Nat := 0
  /-- A set copied into the inactive bank: its number, words and swap cause (R118, R120). -/
  pend : Option (Nat × List Word × Nat) := none
  sample : Sample := .idle
  /-- Inputs fixed at the slot start; none where the producer's staged output is read (R78). -/
  fixed : List (Option (Word × Bool)) := []
  /-- The same as copy B reads them, from the SOUTH record (R424). -/
  fixedB : List (Option (Word × Bool)) := []
  /-- Staged work of copy A (or the single execution) and of copy B. -/
  a : Option Staged := none
  b : Option Staged := none
  /-- The sample was retried after a mismatch (R93). -/
  retried : Bool := false
  /-- The comparator whose mismatch brought the retry (R434); none where a lane's retirement did. -/
  cause : Option Nat := none
  /-- The hobs that took copy A and copy B of the sample last (R101). -/
  ranA : Option Nat := none
  ranB : Option Nat := none
  /-- A state reset marks this sample's outputs with the age flag (R92). -/
  aged : Bool := false
  /-- The banks were swapped and no sample has committed since (R119). -/
  reseed : Bool := false
  saved : Option Saved := none
deriving DecidableEq, Repr, Inhabited

/-- A signal at run time. -/
structure SigRun where
  /-- Last committed value and age flag (R79). -/
  v : Word := 0
  age : Bool := true
  /-- The same as they stood at the producer's slot start: sample k - 1 (R78 rule 3). -/
  pv : Word := 0
  page : Bool := true
  /-- The crossing buffer (R78 rule 4). -/
  cv : Word := 0
  cage : Bool := true
  /-- Consecutive aged samples (R96), and the count at the producer's slot start. -/
  aged : Nat := 0
  paged : Nat := 0
deriving DecidableEq, Repr, Inhabited

/-- A hob that executes: hob, instance and whether it runs copy B. -/
structure Exec where
  hob : Nat
  inst : Nat
  copyB : Bool
  /-- What it stages will be dropped: its sample has ended, or its inputs were discarded (R93, R95). -/
  late : Bool := false
deriving DecidableEq, Repr, Inhabited

/-- The block graph at run time. -/
structure Gr where
  /-- In a shadow that heard the lead ask another channel to take over: the boundary B at which that one would, with the instances
  and signals as they stood then, after B - 3 (R376, R377). -/
  before : Option (Nat × List InstRun × List SigRun) := none
  /-- The tick j of the present cycle, 0 to 3 (R77). -/
  j : Nat := 0
  /-- CYCLE_BOUNDARY has been taken and tick 0 has not started yet. -/
  boundary : Bool := false
  /-- The sample cycle S of the present cycle (R367), none while the graph stands. -/
  s : Option Nat := none
  /-- S is skipped (R368). -/
  skipping : Bool := false
  /-- REPLAY: (j, instance) of the NO_COMMIT markers that the slots in progress have met (R495). -/
  noCommit : List (Nat × Nat) := []
  insts : List InstRun := []
  sigs : List SigRun := []
  exec : List Exec := []
  /-- The intake record of the present tick: source, value and age flag, in ascending source number (R424). -/
  intake : List (Nat × Word × Bool) := []
  /-- The SOUTH record, which the delay line copies from it, and the Flue time in ns that both are stamped with (R424). -/
  south : List (Nat × Word × Bool) := []
  stamp : Nat := 0
  /-- Andiron steps that are to be repeated after a repair of a tile: SOUTH or not, and the step (R433). -/
  repeats : List (Bool × Nat) := []
  /-- Tiles verified in the present tick (R92). -/
  verified : List Nat := []
  /-- Slots open per RATE code: started and not yet ended. -/
  open_ : List Bool := [false, false, false, false, false]
  /-- Per RATE code: the open slot contains a skipped cycle (R368). -/
  skip : List Bool := [false, false, false, false, false]
  /-- Per RATE code: slack of the latest commit of the open slot in 125 ns (R104). -/
  slack : List (Option Nat) := [none, none, none, none, none]
  /-- XOR of the digest contributions of the present sample cycle so far (R369). -/
  digest : Word := 0
  /-- JOURNAL_TAP values by instance (R483). -/
  taps : List (Nat × List (Word × Bool)) := []
  /-- The status area that STATUS_TAP writes: word number and value. -/
  status : List (Nat × Word) := []
  /-- SERVICE gain edits that wait in shadow copies: instance, set, word number, word (R120, R132). -/
  edits : List (Nat × Nat × Nat × Word) := []
deriving DecidableEq, Repr, Inhabited

/-- The image in use, as LOAD placed it (R53 step 10). -/
structure Img where
  nodes : List Node := []
  sigs : List Sig := []
  tables : List Table := []
  /-- Instances the REPLAY section names (R483). -/
  replay : List Nat := []
  /-- SHA-256 digest of the signed bytes, 32 bytes. -/
  digest : List Byte := []
  flue : FlueImg := {}
  /-- The POINT records, 32 bytes each (R154). -/
  points : List (List Byte) := []
deriving DecidableEq, Repr, Inhabited

/-- Self-test and ageing besides the registers (R510, R522). -/
structure Age where
  /-- Hobs chosen for a rolling test that still finish an instance (R510). -/
  rollDue : List Nat := []
  /-- A trim step settles and the monitors report nothing (R522). -/
  settling : Bool := false
  /-- SELF-TEST has set its budgets and appended its MARGIN record (R520). -/
  closed : Bool := false
deriving DecidableEq, Repr, Inhabited

/-- The mailbox memory of the MBX block besides its registers (R531, R532). -/
structure Mbx where
  /-- Sixteen words of each mailbox. -/
  data : List (List Word) := List.replicate 16 (List.replicate 16 0)
  /-- MBX_SEL of andiron N, andiron S and the hob scheduler; the SERVICE copy is the register. -/
  sel : List Nat := [0, 0, 0]
  /-- Tick at which FULL set, for each mailbox. -/
  since : List Nat := List.replicate 16 0
  /-- Words that andirons have written and comparator 10 has not released: side, mailbox, word number, word (R531). -/
  held : List (Nat × Nat × Nat × Word) := []
deriving DecidableEq, Repr, Inhabited

/-- A running erase (1), program (2) or key operation (3) of R538: flash address or key slot, and the bytes to write. -/
structure Nvm where
  op : Nat
  addr : Nat
  data : List Byte
deriving DecidableEq, Repr, Inhabited

/-- The states of the TAP controller of IEEE 1149.1 (R540). -/
inductive Tap where
  | testLogicReset | runTestIdle | selectDr | captureDr | shiftDr | exit1Dr | pauseDr | exit2Dr | updateDr
  | selectIr | captureIr | shiftIr | exit1Ir | pauseIr | exit2Ir | updateIr
deriving DecidableEq, Repr, Inhabited

/-- The service port and the JTAG port besides their registers (R536 to R540). -/
structure Svc where
  /-- A frame runs (SVC_CS_N is low). -/
  frame : Bool := false
  nvm : Option Nvm := none
  /-- The status byte of the latest answered frame, and everything sent on SVC_MISO in it (R537). -/
  status : Option Nat := none
  miso : List Byte := []
  /-- SERVICE writes of RL bits that wait in shadow copies, by address (R65). -/
  shadow : List (Nat × Word) := []
  /-- The words the latest JTAG instruction shifts out. -/
  tdo : List Word := []
  /-- The TAP controller's state, and the bits that a boundary scan drives its cells with (R540). -/
  tap : Tap := .testLogicReset
  scan : Option (List Bool) := none
deriving DecidableEq, Repr, Inhabited

/-- The whole state of the device, its non-volatile memories and the queue of waiting commands. [DESIGN CHOICE, log entry 6] -/
structure State where
  /-- Registers that differ from their reset value, canonical (Store.wf over regReset). -/
  regs : List (Nat × Word) := []
  /-- The tile store as bytes at their addresses, whichever row or tile holds them; unlisted bytes read 0 (R16). Header cells and
  spare rows follow from it (`State.tileHeader`, `State.spareRow`). -/
  tiles : List Host.Cell := []
  /-- The external MRAM of the Ash record; unlisted bytes read 0. -/
  mram : List Host.Cell := []
  /-- The external image flash; unlisted bytes read 0xFF. -/
  flash : List Host.Cell := []
  otp : Otp := {}
  ember : Ember := {}
  sys : Sys := {}
  /-- The 22 power domains (R459). -/
  doms : List Dom := List.replicate 22 {}
  flu : Flu := {}
  img : Img := {}
  gr : Gr := {}
  lds : Lds := {}
  flt : Flt := {}
  gdr : Gdr := {}
  /-- The three bridges (R203). -/
  mots : List Mot := [{}, {}, {}]
  adc : Adc := {}
  /-- The four position interfaces. -/
  poss : List Pos := [{}, {}, {}, {}]
  /-- The eight set-point channels (R125). -/
  sps : List Sp := List.replicate 8 {}
  cans : List Can := [{}, {}, {}, {}]
  eths : List Eth := [{}, {}]
  /-- Feed datagrams that wait in the receive buffers, in order of arrival (R350, R351). -/
  feedq : List Dgram := []
  map : MapSt := {}
  sec : Sec := {}
  saf : Saf := {}
  /-- The 24 comparators (R429). -/
  cmps : List CmpRun := List.replicate 24 {}
  jrn : Jrn := {}
  ash : Ash := {}
  age : Age := {}
  mbx : Mbx := {}
  svc : Svc := {}
  /-- Counter of the free values taken so far: the model's own, not the spec's. -/
  free : Nat := 0
  /-- The commands that wait, first in, first out. -/
  pending : List Instr := []
deriving DecidableEq, Repr

/-- Why a step can stop: no command of this block ends in a fault, since no rule of the spec stops the device. -/
inductive Fault where
  /-- Raised by nobody: every command of the spec has an effect or none. Safe. -/
  | unreachable
deriving DecidableEq, Repr

/-- Why a command is turned away. -/
inductive Refusal where
  /-- Answered by an arm of `exec` that has no meaning yet. Safe. -/
  | notModelled (mnemonic : String)
deriving DecidableEq, Repr

/-- The machine right after a power-on reset (R10, R31): every register at its Reset value, SYS_RESET_CAUSE with the one
bit POR, PWR_REQ high since VSUP became valid (R455), memory with nothing listed and no command waiting. Values the spec leaves open are named in the log.
[DESIGN CHOICE, log entries 2 and 6] -/
def State.reset : State := { regs := [(0x40000018, 1)], ember := { pwrReq := true } }

end Sys2Proof.Machine
end

