-- ==== Sys2Proof/Machine/Store.lean ====
section
/-!
DEFINITION. Sparse memories in one canonical form: a list of (address, value) pairs with strictly rising addresses and no
entry equal to what an unlisted address reads as. `Store` serves registers, whose default depends on the address (the
reset value); `Mem` serves byte memories, whose default is one byte.
-/
namespace Sys2Proof.Machine

/-- The value at `a`, or `d` where nothing is listed. [DESIGN CHOICE, log entry 3] -/
def Store.get {α : Type} : List (Nat × α) → α → Nat → α
  | [], d, _ => d
  | (b, w) :: t, d, a => if b = a then w else Store.get t d a

/-- Writing `v` at `a` in canonical form: writing the default `d` removes the entry. [DESIGN CHOICE, log entry 3] -/
def Store.put {α : Type} [DecidableEq α] (m : List (Nat × α)) (d : α) (a : Nat) (v : α) : List (Nat × α) :=
  m.filter (fun c => decide (c.1 < a)) ++ ((if v = d then [] else [(a, v)]) ++ m.filter (fun c => decide (a < c.1)))

/-- Addresses strictly rising. -/
def Store.sorted {α : Type} : List (Nat × α) → Bool
  | [] => true
  | [_] => true
  | (a, _) :: (b, w) :: t => decide (a < b) && Store.sorted ((b, w) :: t)

/-- The canonical form over an address-dependent default. -/
def Store.wf {α : Type} [DecidableEq α] (dflt : Nat → α) (m : List (Nat × α)) : Bool :=
  Store.sorted m && m.all (fun c => decide (c.2 ≠ dflt c.1))

/-- The canonical form of a byte memory whose unlisted bytes read `d`. -/
def Mem.wf (d : Byte) (m : List (Nat × Byte)) : Bool := Store.wf (fun _ => d) m

/-- `n` bytes from `a` of a list already past the addresses below `a`. -/
def Mem.walk (d : Byte) : List (Nat × Byte) → Nat → Nat → List Byte
  | _, _, 0 => []
  | [], a, n + 1 => d :: Mem.walk d [] (a + 1) n
  | (b, v) :: t, a, n + 1 =>
    if b = a then v :: Mem.walk d t (a + 1) n else d :: Mem.walk d ((b, v) :: t) (a + 1) n

/-- `n` bytes from address `a`. [DESIGN CHOICE, log entry 2] -/
def Mem.read (d : Byte) (m : List (Nat × Byte)) (a n : Nat) : List Byte :=
  Mem.walk d (m.dropWhile (fun c => decide (c.1 < a))) a n

/-- One byte. [DESIGN CHOICE, log entries 2 and 3] -/
def Mem.byte (d : Byte) (m : List (Nat × Byte)) (a : Nat) : Byte := Store.get m d a

/-- The cells of a byte string placed at `a`, less those equal to the default. -/
def Mem.cells (d : Byte) : Nat → List Byte → List (Nat × Byte)
  | _, [] => []
  | a, b :: t => if b = d then Mem.cells d (a + 1) t else (a, b) :: Mem.cells d (a + 1) t

/-- Writing a byte string at `a`. [DESIGN CHOICE, log entry 3] -/
def Mem.write (d : Byte) (m : List (Nat × Byte)) (a : Nat) (bs : List Byte) : List (Nat × Byte) :=
  m.filter (fun c => decide (c.1 < a)) ++ (Mem.cells d a bs ++ m.filter (fun c => decide (a + bs.length ≤ c.1)))

/-- The little-endian word of four bytes at `a`. [DESIGN CHOICE, log entry 47] -/
def Mem.word (d : Byte) (m : List (Nat × Byte)) (a : Nat) : Word := BitVec.ofNat 32 (ofLe (Mem.read d m a 4))

end Sys2Proof.Machine
end

