-- ==== Sys2Proof/Machine/Ops.lean ====
section
/-!
DEFINITION. The named operations over registers, memories, events, markers and record requests that every meaning shares.
-/
namespace Sys2Proof.Machine

open Sys2Proof

/-! Registers -/

/-- First address of the register space (R23). -/
def regBase : Nat := 0x40000000
/-- First address past the register space (R23). -/
def regEnd : Nat := 0x40190000

/-- Whether an offset is one of a kind's registers, and with which index. -/
def RegKind.index (k : RegKind) (off : Nat) : Option Nat :=
  if k.off ≤ off ∧ (off - k.off) % k.stride = 0 ∧ (off - k.off) / k.stride < k.count then some ((off - k.off) / k.stride)
  else none

/-- The kind and index of the register at an address, none where no table defines one (R9). [DEDUCED, log entry 4] -/
def findReg (a : Nat) : Option (RegKind × Nat) :=
  if a < regBase ∨ regEnd ≤ a ∨ a % 4 ≠ 0 then none
  else
    match regBlocks[(a - regBase) / 0x10000]? with
    | none => none
    | some b =>
      let off := a % 0x10000
      let o := if b.insts = 1 then off else off % 0x1000
      if b.insts ≠ 1 ∧ b.insts ≤ off / 0x1000 then none
      else b.kinds.findSome? (fun k => (k.index o).map (fun i => (k, i)))

/-- First tile and tile count of the regions of R37. -/
def regionTiles : List (Nat × Nat) := [(0, 384), (384, 1024), (1408, 96), (1504, 96), (1600, 192), (1792, 256)]

/-- Nominal frequencies in kHz of the clock outputs of R456, the hob clocks at 500 MHz. -/
def clockKHz : List Nat :=
  [500000, 500000, 800000, 800000, 400000, 400000, 80000, 400000, 100000, 80000, 125000, 1000000, 1000000, 125000, 200000,
    100000]

/-- Sender and receiver of each mailbox (R531): 0 ANDIRON_N, 1 ANDIRON_S, 2 HOB_SCHED, 3 SERVICE. -/
def mailboxRoutes : List (Nat × Nat) :=
  [(0, 1), (0, 1), (0, 1), (0, 1), (1, 0), (1, 0), (1, 0), (1, 0), (2, 0), (2, 0), (2, 1), (2, 1), (0, 2), (1, 2), (3, 0),
    (0, 3)]

/-- Reset values of the margin limits (R530). -/
def marginLimits : List Nat := [1920, 1000, 100, 120, 64, 50, 500]

/-- Reset values that depend on the index: SYS_REGION_r (R37), HOB_TYPE_COST_t (R106), CMP_STAT_k.DUP (R452),
CLK_OUT_STAT_i (R472), MBX_ROUTE_m (R531) and AGE_LIMIT_m (R530). -/
def fixedReset (a : Nat) : Option Nat :=
  if 0x40000060 ≤ a ∧ a < 0x40000078 then
    (regionTiles[(a - 0x40000060) / 4]?).map (fun r => (a - 0x40000060) / 4 * 0x1000000 + r.2 * 0x1000 + r.1)
  else if 0x40050200 ≤ a ∧ a < 0x400503C0 then
    (typeCosts[(a - 0x40050200) / 4]?).map (fun c => c.2 * 0x10000 + c.1)
  else if 0x40040000 ≤ a ∧ a < 0x40040180 ∧ a % 16 = 0 then
    some (if 16 ≤ (a - 0x40040000) / 16 ∧ (a - 0x40040000) / 16 ≤ 21 then 0x80000000 else 0)
  else if 0x40020100 ≤ a ∧ a < 0x40020180 ∧ a % 8 = 0 then clockKHz[(a - 0x40020100) / 8]?
  else if 0x40160080 ≤ a ∧ a < 0x401600C0 then
    (mailboxRoutes[(a - 0x40160080) / 4]?).map (fun r => r.1 * 16 + r.2)
  else if 0x40140100 ≤ a ∧ a < 0x40140170 ∧ a % 16 = 8 then marginLimits[(a - 0x40140100) / 16]?
  else none

/-- What a register holds after reset (the Reset column, R10); 0 where no table defines a register (R9). -/
def regReset (a : Nat) : Word :=
  match findReg a with
  | none => 0
  | some (k, _) => BitVec.ofNat 32 ((fixedReset a).getD k.reset)

/-- The register at `a` as the device holds it. -/
def State.reg (s : State) (a : Nat) : Word := Store.get s.regs (regReset a) a

/-- Storing a register. [DESIGN CHOICE, log entry 3] -/
def State.setReg (s : State) (a : Nat) (w : Word) : State :=
  { s with regs := Store.put s.regs (regReset a) a w }

/-- Width of a field. -/
def Fld.width (f : Fld) : Nat := f.hi + 1 - f.lo

/-- The field's bits of a word. -/
def Fld.get (f : Fld) (w : Word) : Nat := w.toNat / 2 ^ f.lo % 2 ^ f.width

/-- The word with the field's bits replaced. -/
def Fld.put (f : Fld) (w : Word) (v : Nat) : Word :=
  BitVec.ofNat 32
    (w.toNat % 2 ^ f.lo + v % 2 ^ f.width * 2 ^ f.lo + w.toNat / 2 ^ (f.lo + f.width) * 2 ^ (f.lo + f.width))

/-- Reading a field. -/
def State.getF (s : State) (f : Fld) : Nat := f.get (s.reg f.addr)

/-- Writing a field. -/
def State.setF (s : State) (f : Fld) (v : Nat) : State := s.setReg f.addr (f.put (s.reg f.addr) v)

/-- A one-bit field as a flag. -/
def State.flag (s : State) (f : Fld) : Bool := s.getF f ≠ 0

/-- Writing a flag. -/
def State.setFlag (s : State) (f : Fld) (b : Bool) : State := s.setF f (b2n b)

/-- A two's complement field. -/
def State.getI (s : State) (f : Fld) : Int := toInt f.width (s.getF f)

/-- Adding to a counter that stops at the largest value of its field. -/
def State.addF (s : State) (f : Fld) (n : Nat) : State := s.setF f (min (2 ^ f.width - 1) (s.getF f + n))

/-- Counting one. -/
def State.incF (s : State) (f : Fld) : State := s.addF f 1

/-- A peak register: the larger of what it holds and `v`. -/
def State.peakF (s : State) (f : Fld) (v : Nat) : State := s.setF f (max (s.getF f) (min (2 ^ f.width - 1) v))

/-- An effect under a condition. [DESIGN CHOICE, log entry 1] -/
def State.when (s : State) (c : Bool) (f : State → State) : State := if c then f s else s

/-- One effect per element, in order. -/
def State.each {α : Type} (s : State) (l : List α) (f : State → α → State) : State := l.foldl f s

/-! Modes -/

/-- The present mode (R22, R28): DORMANT while the die is unpowered, else SYS_MODE.MODE. -/
def State.mode (s : State) : Mode :=
  match s.sys.phase with
  | .off => .dormant
  | _ => Mode.ofCode (s.getF F.SYS_MODE_MODE)

/-- LEAD, LEAD-DEGRADED, LIMP or STOPPING: the lead modes, in which the own actuator halves are energised (R22, R363). -/
def Mode.isLead : Mode → Bool
  | .lead | .leadDegraded | .limp | .stopping => true
  | _ => false

/-- The modes in which the block graph runs on live samples (R22). -/
def Mode.runs : Mode → Bool
  | .shadow => true
  | m => m.isLead

/-- Whether the device is powered and out of reset. [DESIGN CHOICE, log entry 1] -/
def State.running (s : State) : Bool := decide (s.sys.phase = .run)

/-- The low 32 bits of a number as a word. -/
def w32 (n : Nat) : Word := BitVec.ofNat 32 n

/-- SYS_TICK_LO (R33). -/
def State.tickLo (s : State) : Nat := s.sys.tick % 2 ^ 32

/-- The Flue cycle count C and the tick j within the cycle (R281, R77). -/
def State.cycle (s : State) : Nat := s.flu.cycle

/-! Free values -/

/-- A free word that nothing constrains; the counter makes each one fresh (log entry 5). [DESIGN CHOICE, log entry 5] -/
def State.fresh (s : State) : Word × State := (Config.freeWord s.free, { s with free := s.free + 1 })

/-! Events and journal markers -/

/-- An event register with its mask: the block's place in R24, its instance, and whether the journal takes its events.
[DESIGN CHOICE, log entry 50] -/
structure EvBlk where
  ev : Fld
  mask : Fld
  blk : Nat
  inst : Nat
  jrn : Bool
deriving DecidableEq, Repr

/-- A marker for the present journal entry (R485), stamped with tick j. -/
def State.marker (s : State) (kind id data : Nat) : State :=
  { s with jrn := { s.jrn with markers := s.jrn.markers ++ [⟨kind, s.gr.j, id % 2 ^ 16, data % 2 ^ 32⟩] } }

/-- Setting an event bit (RS); a masked bit routes the event to the journal as an EVENT marker (R485).
[DESIGN CHOICE, log entry 50] -/
def State.event (s : State) (e : EvBlk) (b : Nat) : State :=
  let s1 := s.setF e.ev (s.getF e.ev ||| 2 ^ b)
  if e.jrn && bit (s.getF e.mask) b then s1.marker 4 (e.blk * 2048 + e.inst * 256 + b) 0 else s1

/-- The event registers of the blocks, with the block index in the order of R24 (R485). -/
def Ev.pwr : EvBlk := ⟨F.PWR_EVENT_SEEN, F.PWR_EVENT_MASK_MASK, 1, 0, true⟩
def Ev.clk : EvBlk := ⟨F.CLK_EVENT_SEEN, F.CLK_EVENT_MASK_MASK, 2, 0, true⟩
def Ev.flt : EvBlk := ⟨F.FLT_EVENT_SEEN, F.FLT_EVENT_MASK_MASK, 3, 0, true⟩
def Ev.pos (i : Nat) : EvBlk := ⟨F.POS_EVENT_SEEN i, F.POS_EVENT_MASK_MASK i, 9, i, true⟩
def Ev.mot (i : Nat) : EvBlk := ⟨F.MOT_EVENT_SEEN i, F.MOT_EVENT_MASK_MASK i, 10, i, true⟩
def Ev.gdr : EvBlk := ⟨F.GDR_EVENT_SEEN, F.GDR_EVENT_MASK_MASK, 11, 0, true⟩
def Ev.adc : EvBlk := ⟨F.ADC_EVENT_SEEN, F.ADC_EVENT_MASK_MASK, 12, 0, true⟩
def Ev.flu : EvBlk := ⟨F.FLU_EVENT_SEEN, F.FLU_EVENT_MASK_MASK, 13, 0, true⟩
def Ev.can (i : Nat) : EvBlk := ⟨F.CAN_EVENT_SEEN i, F.CAN_EVENT_MASK_MASK i, 14, i, true⟩
def Ev.eth (i : Nat) : EvBlk := ⟨F.ETH_EVENT_SEEN i, F.ETH_EVENT_MASK_MASK i, 15, i, true⟩
def Ev.saf : EvBlk := ⟨F.SAF_EVENT_SEEN, F.SAF_EVENT_MASK_MASK, 16, 0, true⟩
def Ev.lds : EvBlk := ⟨F.LDS_EVENT_SEEN, F.LDS_EVENT_MASK_MASK, 17, 0, true⟩
def Ev.ash : EvBlk := ⟨F.ASH_EVENT_SEEN, F.ASH_EVENT_MASK_MASK, 18, 0, true⟩
def Ev.jrn : EvBlk := ⟨F.JRN_EVENT_SEEN, F.JRN_EVENT_MASK_MASK, 19, 0, false⟩
def Ev.age : EvBlk := ⟨F.AGE_EVENT_SEEN, F.AGE_EVENT_MASK_MASK, 20, 0, true⟩
def Ev.bst : EvBlk := ⟨F.BST_EVENT_SEEN, F.BST_EVENT_MASK_MASK, 21, 0, true⟩
def Ev.mbx : EvBlk := ⟨F.MBX_EVENT_SEEN, F.MBX_EVENT_MASK_MASK, 22, 0, true⟩
def Ev.svc : EvBlk := ⟨F.SVC_EVENT_SEEN, F.SVC_EVENT_MASK_MASK, 23, 0, true⟩

/-- The event "write to locked field" (R8): a refused write is counted and its address kept (R34). -/
def State.lockedWrite (s : State) (a : Nat) : State :=
  (s.incF F.SYS_LOCKED_WR_CNT_COUNT).setF F.SYS_LOCKED_WR_ADDR_ADDR a

/-- Shifting a value into a log whose entry 0 is the most recent: `addr k` is the word of entry `k`, `n` entries. -/
def State.pushLog (s : State) (fld : Nat → Fld) : Nat → State
  | 0 => s
  | n + 1 => (s.setReg (fld (n + 1)).addr (s.reg (fld n).addr)).pushLog fld n

/-! Ash record requests -/

/-- A request to append a record (R475, R481); in RETIRED nothing is appended (R479). -/
def State.ashRequest (s : State) (type flags : Nat) (body : List Byte) : State :=
  { s with ash := { s.ash with queue := s.ash.queue ++ [⟨type, flags, body, s.sys.tick, s.flu.time⟩] } }

/-- The body of a MODE record (R480). -/
def modeBody (m prev : Mode) (cause source cycle : Nat) : List Byte :=
  leBytes 1 m.code ++ leBytes 1 prev.code ++ leBytes 1 cause ++ leBytes 1 source ++ leBytes 4 cycle

/-- The body of a TRIGGER record (R480). -/
def triggerBody (t : Trig) (winSeq : Nat) : List Byte :=
  leBytes 1 t.kind ++ leBytes 1 t.source ++ [0, 0] ++ leBytes 4 winSeq ++ leBytes 8 t.cycle

/-- The comparators that guard what the andirons write (R429). -/
def andironCmps : List Nat := [8, 9, 10, 11, 15]

/-! Flue time (R316) -/

/-- Flue time and with it C. [DEDUCED, log entry 20] -/
def State.setTime (s : State) (t : Nat) : State :=
  ({ s with flu := { s.flu with time := t % 2 ^ 64, cycle := t % 2 ^ 64 / 125000 } } : State).setReg F.FLU_CYCLE_C.addr
    (w32 (t % 2 ^ 64 / 125000))

/-- An alignment of the tick to Flue time (R33): the tick in progress is the one in which the time lies.
[DEDUCED, log entry 20] -/
def State.alignTick (s : State) (t : Nat) : State :=
  { s.setTime t with gr := { s.gr with j := t % 125000 / 31250, boundary := false } }

end Sys2Proof.Machine
end

