-- ==== Sys2Proof/Machine/Domains.lean ====
section
/-!
DEFINITION. The power domains of R459 to R463: votes, entry into and restoration from a low state.
-/
namespace Sys2Proof.Machine

open Sys2Proof

/-- What each domain depends on (R459). -/
def domDeps : List (List Nat) :=
  [[], [0], [1], [2], [2], [3], [4], [5], [6], [5], [5], [5], [5], [6], [6], [6], [6], [3, 4], [6], [3], [3], [1]]

/-- The domains that depend on d. -/
def domDependants (d : Nat) : List Nat := (List.range 22).filter (fun e => (domDeps.getD e []).contains d)

/-- Whether retention is among a domain's low states (R459). -/
def domMayRetain (d : Nat) : Bool := d = 5 || d = 6 || (9 ≤ d && d ≤ 16)

/-- A domain's hidden state. -/
def State.dom (s : State) (d : Nat) : Dom := s.doms.getD d {}

/-- Storing it. -/
def State.setDom (s : State) (d : Nat) (x : Dom) : State := { s with doms := s.doms.set d x }

/-- STATE of PWR_DOM_STAT_d: 0 off, 1 retention, 2 on, 3 in transition; domain 0 is always on (R469). -/
def State.domState (s : State) (d : Nat) : Nat := if d = 0 then 2 else s.getF (F.PWR_DOM_STAT_STATE d)

/-- Setting STATE; PWR_STATUS.DOM_ON bit d follows it. -/
def State.setDomState (s : State) (d v : Nat) : State :=
  let s1 := s.setF (F.PWR_DOM_STAT_STATE d) v
  let on := s1.getF F.PWR_STATUS_DOM_ON
  s1.setF F.PWR_STATUS_DOM_ON (if v = 2 then on ||| 2 ^ d else on - on / 2 ^ d % 2 * 2 ^ d)

/-- The client votes of a domain (R461). -/
def State.votes (s : State) (d : Nat) : Nat := s.getF (F.PWR_DOM_VOTE_VOTES d)

/-- Setting or clearing one client's bit; client 3 is SVC_VOTE too (R469). -/
def State.putVote (s : State) (d client : Nat) (b : Bool) : State :=
  let v := s.votes d
  let s1 := s.setF (F.PWR_DOM_VOTE_VOTES d) (if b then v ||| 2 ^ client else v - v / 2 ^ client % 2 * 2 ^ client)
  if client = 3 then s1.setFlag (F.PWR_DOM_VOTE_SVC_VOTE d) b else s1

/-- A refused entry (R462): counted on the domain with the refuser's ID, and shown in PWR_LAST_REFUSAL. -/
def State.domRefuse (s : State) (d id : Nat) : State :=
  ((((((s.incF (F.PWR_DOM_REFUSE_COUNT d)).setF (F.PWR_DOM_REFUSE_LAST_ID d) id).setF F.PWR_LAST_REFUSAL_DOMAIN d).setF
    F.PWR_LAST_REFUSAL_ID id).setF F.PWR_LAST_REFUSAL_ABORT 0)).event Ev.pwr 6

/-- An aborted entry or a timed-out restoration step (R462, R463). -/
def State.domAbort (s : State) (d id : Nat) : State :=
  ((((((s.incF (F.PWR_DOM_ABORT_COUNT d)).setF (F.PWR_DOM_ABORT_LAST_ID d) id).setF F.PWR_LAST_REFUSAL_DOMAIN d).setF
    F.PWR_LAST_REFUSAL_ID id).setF F.PWR_LAST_REFUSAL_ABORT 1)).event Ev.pwr 5

/-- The banks of a domain: half banks with the fabric, a cluster's 3 hob-local and 8 map banks (R14). -/
def domBanks (d : Nat) : List Nat :=
  if d = 5 then List.range' 88 6 ++ List.range' 100 6 ++ List.range' 112 8
  else if d = 6 then List.range' 94 6 ++ List.range' 106 6 ++ List.range' 120 8
  else if 9 ≤ d ∧ d ≤ 16 then List.range' (3 * (d - 9)) 3 ++ List.range' (24 + 8 * (d - 9)) 8
  else []

/-- First address of the tile space (R12). -/
def tileBase : Nat := 0x20000000

/-- The bank of a tile-space address (R12). -/
def bankOf (a : Nat) : Nat := (a - tileBase) / 65536

/-- The CRC-32C in a tile's 32 header cells: every write updates it in its fabric cycle, so it is that of the tile's 128 data rows
(R11, R432). [DEDUCED, log entry 62] -/
def State.tileHeader (s : State) (tile : Nat) : Nat := crc32c (Mem.read 0 s.tiles (tileBase + 4096 * tile) 4096)

/-- The 32 bytes of spare row k of a tile: those of the data row it stands in for, zero while it stands in for none (R11, R16, R506).
[DEDUCED, log entry 62] -/
def State.spareRow (s : State) (tile k : Nat) : List Byte :=
  match (s.sys.rowFix.filter (fun x => decide (x.1 = tile)))[k]? with
  | some x => Mem.read 0 s.tiles (tileBase + 4096 * tile + 32 * x.2) 32
  | none => List.replicate 32 0

/-- Writing zero to every row of the banks of a list: their bytes are no longer listed, their headers are those of zeros (R16). -/
def State.wipeBanks (s : State) (bs : List Nat) : State :=
  { s with tiles := s.tiles.filter (fun c => !bs.contains (bankOf c.1)) }

/-- A dependant that is on or in transition, the lowest-numbered first (R462). -/
def State.domBlocker (s : State) (d : Nat) : Option Nat := (domDependants d).find? (fun e => 2 ≤ s.domState e)

/-- Starting entry into the low state after the last vote has gone: refused under a dependant, else the logic is quiesced
first (R461, R462). -/
def State.domEnter (s : State) (d : Nat) : State :=
  match s.domBlocker d with
  | some e => s.domRefuse d (0x40 + e)
  | none => (s.setDomState d 3).setDom d { s.dom d with entering := true, step := 3 }

/-- Starting a restoration from its first step (R463). -/
def State.domRestore (s : State) (d : Nat) (retried : Bool) : State :=
  ((s.setDomState d 3).setDom d { s.dom d with entering := false, step := 0, retried := retried }).setF
    (F.PWR_DOM_STAT_STEP d) 0

/-- The low state a domain enters: LOW_STATE, and off for a retired cluster (R460); off where retention is not allowed. -/
def State.domLow (s : State) (d : Nat) : Nat :=
  if 9 ≤ d ∧ d ≤ 16 ∧ s.flag (F.SYS_CLUSTER_RETIRED (d - 9)) then 0
  else if s.getF (F.PWR_DOM_CFG_LOW_STATE d) = 1 ∧ domMayRetain d then 1 else 0

/-- Setting a vote (R461, R462): an off domain is restored, an entry is aborted and restored from the step reached. -/
def State.domVote (s : State) (d client : Nat) : State :=
  if d = 0 then s
  else
    let s1 := s.putVote d client true
    let x := s1.dom d
    match s1.domState d with
    | 2 => s1
    | 3 =>
      if x.entering then
        let y : Dom := { x with entering := false, retried := false, wasOff := decide (s1.domLow d = 0) && decide (x.step < 2) }
        ((s1.domAbort d client).setDom d y).setF (F.PWR_DOM_STAT_STEP d) x.step
      else s1
    | _ => if x.lost then s1 else s1.domRestore d false

/-- Withdrawing a vote (R461): the last one starts entry, unless a vote set in the same fabric cycle wins (R462). -/
def State.domUnvote (s : State) (d client : Nat) (coincident : Option Nat) : State :=
  if d = 0 ∨ s.votes d / 2 ^ client % 2 = 0 then s
  else
    let s1 := s.putVote d client false
    match coincident with
    | some c =>
      let s2 := s1.putVote d c true
      if s1.votes d = 0 ∧ s1.domState d = 2 then s2.domRefuse d c else s2
    | none => if s1.votes d = 0 ∧ s1.domState d = 2 then s1.domEnter d else s1

/-- Retrying the entry of the domains a low domain depends on, where their votes are gone (R462). -/
def State.domRetry (s : State) (d : Nat) : State :=
  s.each (domDeps.getD d []) (fun s e => s.when (decide (e ≠ 0) && decide (s.votes e = 0) && decide (s.domState e = 2))
    (fun s => s.domEnter e))

/-- What the logic of a domain holds is lost with its supply (R460): a cluster's hobs forget what they run, the MACs, the CAN
controllers, the position interfaces and the converters their working state. Registers are read and written by the fabric, and keep
what they show. [DESIGN CHOICE, log entry 14] -/
def State.domLogic (s : State) (d : Nat) : State :=
  if 9 ≤ d ∧ d ≤ 16 then
    ({ s with gr := { s.gr with exec := s.gr.exec.filter (fun x => decide (x.hob / 8 ≠ d - 9)) } } : State).each
      ((List.range' (8 * (d - 9)) 8).filter (fun n => decide (s.getF (F.HOB_ENGINE_STATE n) < 3))) (fun s n =>
        s.setF (F.HOB_ENGINE_STATE n) 0)
  else if d = 18 then { s with eths := [{}, {}] }
  else if d = 19 then { s with cans := [{}, {}, {}, {}], poss := [{}, {}, {}, {}] }
  else if d = 20 then
    (({ s with adc := { times := s.adc.times } } : State).each (List.range 8) (fun s v => s.setF (F.ADC_CONV_STAT_STATE v) 0)).setF
      F.ADC_STATUS_BUSY 0
  else s

/-- The step in hand reports ready (R461, R463): an entry runs logic, memory, clock, regulator; a restoration runs the
reverse order, and a domain that was off has its banks wiped before the memory step reports ready (R460). A domain whose last vote
went during its restoration starts entry once it is on. [DESIGN CHOICE, log entry 14] -/
def State.domReady (s : State) (d : Nat) : State :=
  let x := s.dom d
  if d = 0 ∨ s.domState d ≠ 3 then s
  else if x.entering then
    if x.step = 0 then
      let low := s.domLow d
      ((((s.setDomState d low).setDom d { x with entering := false, wasOff := decide (low = 0) }).domLogic d).incF
        (F.PWR_DOM_ENTRY_CNT_COUNT d)).domRetry d
    else s.setDom d { x with step := x.step - 1 }
  else
    let s1 := s.when (decide (x.step = 2) && x.wasOff) (fun s => s.wipeBanks (domBanks d))
    if x.step = 3 then
      ((s1.setDomState d 2).setDom d { x with retried := false, wasOff := false }).when (decide (s.votes d = 0)) (fun s => s.domEnter d)
    else (s1.setDom d { x with step := x.step + 1 }).setF (F.PWR_DOM_STAT_STEP d) (x.step + 1)

/-- A retired cluster's domain goes off, also from retention (R460). -/
def State.domRetired (s : State) (d : Nat) : State :=
  if s.domState d = 1 then (s.setDomState d 0).setDom d { s.dom d with wasOff := true } else s

/-- The domains the mode manager votes on in every powered mode (R459, "As 1"). -/
def modeDoms : List Nat := [1, 2, 3, 4, 5, 6, 7, 8, 17, 20]

/-- The mode manager's votes for a mode (R459): clusters in every mode but DORMANT and SAFE-HOLD unless retired, ETH from
JOIN on while a port is enabled; none in DORMANT. [DESIGN CHOICE, log entry 14] -/
def State.modeVotes (s : State) (m : Mode) : State :=
  let s1 := s.each (List.range 8) (fun s c =>
    if m = .safeHold ∨ m = .dormant ∨ s.flag (F.SYS_CLUSTER_RETIRED c) then s.domUnvote (9 + c) 0 none
    else s.domVote (9 + c) 0)
  let s1 := s1.when (decide (m = .dormant)) (fun s => s.each [18, 19, 21, 20, 17, 8, 7, 6, 5, 4, 3, 2, 1] (fun s d => s.domUnvote d 0 none))
  if s1.sys.joined = true ∧ m ≠ .dormant ∧ (s1.flag (F.ETH_CFG_ENABLE 0) ∨ s1.flag (F.ETH_CFG_ENABLE 1)) then s1.domVote 18 0 else s1

end Sys2Proof.Machine
end

