-- ==== Sys2Proof/Machine/Queues.lean ====
section
/-!
DEFINITION. The block graph's records, inputs, ready-queues and staged work (R77, R78, R86, R90, R93), which the fault collector
and the graph itself read.
-/
namespace Sys2Proof.Machine

open Sys2Proof

/-! Instances, signals and places -/

/-- Ticks in a slot of a RATE code (R77). -/
def ratePeriod (r : Nat) : Nat := 4 ^ r

/-- An instance's record and run-time state, a signal's record and run-time state. -/
def State.node (s : State) (i : Nat) : Node := s.img.nodes.getD i default
def State.inst (s : State) (i : Nat) : InstRun := s.gr.insts.getD i {}
def State.setInst (s : State) (i : Nat) (x : InstRun) : State := { s with gr := { s.gr with insts := s.gr.insts.set i x } }
def State.sigRec (s : State) (k : Nat) : Sig := s.img.sigs.getD k default
def State.sig (s : State) (k : Nat) : SigRun := s.gr.sigs.getD k {}
def State.setSig (s : State) (k : Nat) (x : SigRun) : State := { s with gr := { s.gr with sigs := s.gr.sigs.set k x } }

/-- Whether the graph executes an instance: in REPLAY only SAFETY instances and those the REPLAY section names (R494). -/
def State.graphHas (s : State) (i : Nat) : Bool :=
  decide (s.mode ≠ .replay) || decide ((s.node i).cls = 0) || s.img.replay.contains i

/-- The instances of a rate class that the graph executes, ascending. -/
def State.ofRate (s : State) (r : Nat) : List Nat :=
  (List.range s.img.nodes.length).filter (fun i => decide ((s.node i).rate = r) && s.graphHas i)

/-- The present tick counted from sample cycle 0: 4 S + j (R77, R367). -/
def State.graphTick (s : State) : Nat := 4 * s.gr.s.getD 0 + s.gr.j

/-- The slots that start at tick j of sample cycle S (R77). -/
def slotsStarting (sc j : Nat) : List Nat := (List.range 5).filter (fun r => decide ((4 * sc + j) % ratePeriod r = 0))
/-- The slots that end with tick j of sample cycle S. -/
def slotsEnding (sc j : Nat) : List Nat := (List.range 5).filter (fun r => decide ((4 * sc + j + 1) % ratePeriod r = 0))

/-- The cluster that serves a copy: its home, copy B four further on (R85), the next cluster of the half that is not retired
where that one is (R433). [DESIGN CHOICE, log entry 27] -/
def State.clusterOf (s : State) (i : Nat) (copyB : Bool) : Nat :=
  let h := (s.node i).home % 8 + (if copyB then 4 else 0)
  ((List.range 4).map (fun k => h / 4 * 4 + (h + k) % 4)).find? (fun c => !s.flag (F.SYS_CLUSTER_RETIRED c)) |>.getD h

/-- The commit lane that compares an instance (R429, R430). [DESIGN CHOICE, log entry 27] -/
def State.laneOf (s : State) (i : Nat) : Nat :=
  ((List.range 8).map (fun k => (i + k) % 8)).find? (fun k => !s.flag (F.CMP_STAT_RETIRED k)) |>.getD (i % 8)

/-- The LAW slot bound to an instance (R128). -/
def State.lawSlot (s : State) (i : Nat) : Option Nat :=
  (List.range 32).find? (fun c => s.flag (F.LAW_SLOT_INST_VALID c) && decide (s.getF (F.LAW_SLOT_INST_INSTANCE c) = i))

/-! Inputs (R78) -/

/-- What a signal gives an instance at a slot start (R78): none where the producer's staged output of this sample is read.
[DEDUCED, log entry 28] -/
def State.slotInput (s : State) (i k : Nat) : Option (Word × Bool) :=
  let g := s.sigRec k
  match g.producer with
  | none =>
    match s.gr.intake.find? (fun x => decide (x.1 = g.port)) with
    | some x => some x.2
    | none => some (g.initial, true)
  | some p =>
    if (s.node p).rate = (s.node i).rate then
      (if p < i ∧ s.graphHas p = true then none else some ((s.sig k).v, (s.sig k).age))
    else some ((s.sig k).cv, (s.sig k).cage)

/-- The value of a signal of the present sample for a copy, none while it is not visible to it (R90). [DEDUCED, log entry 28] -/
def State.staged (s : State) (i : Nat) (copyB : Bool) (k : Nat) : Option (Word × Bool) :=
  let g := s.sigRec k
  match g.producer with
  | none => none
  | some p =>
    let x := s.inst p
    match x.sample with
    | .committed => some ((s.sig k).v, (s.sig k).age)
    | .due =>
      if (s.node p).cls = 0 ∧ (s.node i).cls ≠ 0 then none
      else ((if copyB && decide ((s.node p).cls = 0) then x.b else x.a).bind (fun w => w.outs[g.port]?))
    | _ => none

/-- The inputs of a copy, none while one is missing. -/
def State.inputs (s : State) (i : Nat) (copyB : Bool) : Option (List (Word × Bool)) :=
  ((if copyB then (s.inst i).fixedB else (s.inst i).fixed).zip (s.node i).ins).foldr (fun x acc =>
    match acc, x.1 with
    | some l, some v => some (v :: l)
    | some l, none => (s.staged i copyB x.2).map (fun v => v :: l)
    | none, _ => none) (some [])

/-! Ready-queues (R86) -/

/-- Whether a hob runs a copy whose work still counts. -/
def State.inHob (s : State) (i : Nat) (copyB : Bool) : Bool :=
  s.gr.exec.any (fun x => decide (x.inst = i) && decide (x.copyB = copyB) && !x.late)

/-- Whether a copy waits in its ready-queue; a retried copy B follows copy A (R93 step 2). -/
def State.ready (s : State) (i : Nat) (copyB : Bool) : Bool :=
  let x := s.inst i
  decide (x.sample = .due) && (if copyB then x.b else x.a).isNone && !s.inHob i copyB &&
  (!copyB || (decide ((s.node i).cls = 0) && (!x.retried || x.a.isSome || s.inHob i false))) && (s.inputs i copyB).isSome

/-- End of the slot an instance is in, in ticks. -/
def State.slotEndOf (s : State) (i : Nat) : Nat :=
  let n := ratePeriod (s.node i).rate
  (s.graphTick / n + 1) * n

/-- The order of a queue (R86): slot end, class, index. -/
def State.queueBefore (s : State) (a b : Nat × Bool) : Bool :=
  let ka := (s.slotEndOf a.1, (s.node a.1).cls)
  let kb := (s.slotEndOf b.1, (s.node b.1).cls)
  decide (ka.1 < kb.1) || (decide (ka.1 = kb.1) && (decide (ka.2 < kb.2) || (decide (ka.2 = kb.2) && decide (a.1 ≤ b.1))))

/-- Inserting an entry in queue order. -/
def State.queueInsert (s : State) (a : Nat × Bool) : List (Nat × Bool) → List (Nat × Bool)
  | [] => [a]
  | b :: t => if s.queueBefore a b then a :: b :: t else b :: s.queueInsert a t

/-- The ready-queue of a cluster, in order. -/
def State.queueOf (s : State) (c : Nat) : List (Nat × Bool) :=
  let l := (List.range s.img.nodes.length).flatMap (fun i => [(i, false), (i, true)])
  (l.filter (fun x => decide (s.clusterOf x.1 x.2 = c) && s.ready x.1 x.2)).foldr s.queueInsert []

/-- DEPTH and PEAK of HOB_QUEUE_c (R103). -/
def State.refreshQueues (s : State) : State :=
  s.each (List.range 8) (fun s c =>
    let n := (s.queueOf c).length
    (s.setF (F.HOB_QUEUE_DEPTH c) n).peakF (F.HOB_QUEUE_PEAK c) n)

/-- The producers of current-sample inputs (R78 rule 2). -/
def State.producers (s : State) (i : Nat) : List Nat :=
  ((s.inst i).fixed.zip (s.node i).ins).filterMap (fun x => if x.1.isNone then (s.sigRec x.2).producer else none)

/-- The number of the slot that an instance is in, which its tags carry (R77, R426). [DESIGN CHOICE, log entry 27] -/
def State.sampleNo (s : State) (i : Nat) : Nat := s.graphTick / ratePeriod (s.node i).rate

/-! Discarding staged work (R93 step 1) -/

/-- Copies (instance, copy B or not) with every copy whose present sample depends on one of them, in ascending instance index: a copy
reads a SAFETY producer's work of its own side, and the single work of any other. -/
def State.dependants (s : State) (l : List (Nat × Bool)) : List (Nat × Bool) :=
  ((List.range s.img.nodes.length).flatMap (fun i => [(i, false), (i, true)])).foldl (fun acc c =>
    if l.contains c then acc ++ [c]
    else if (s.inst c.1).sample = .due ∧
        (s.producers c.1).any (fun p => acc.contains (p, c.2 && decide ((s.node p).cls = 0))) = true then acc ++ [c]
    else acc) []

/-- Freed entries go to the writes that stall, oldest first (R427); one whose partner is held goes with it where they are equal. -/
def CmpRun.enterStalled (c : CmpRun) : CmpRun :=
  c.stalled.foldl (fun (c : CmpRun) x =>
    match c.fifo.find? (fun e => decide (e.1 ≠ x.1) && decide (e.2.tag = x.2.tag) && decide (e.2.sample = x.2.sample)) with
    | some e => if e.2 = x.2 then { c with fifo := c.fifo.erase e } else { c with stalled := c.stalled ++ [x] }
    | none =>
      if c.fifo.length < 256 && c.stalled.all (fun e => decide (e.1 ≠ x.1)) then { c with fifo := c.fifo ++ [x] }
      else { c with stalled := c.stalled ++ [x] }) { c with stalled := [] }

/-- The writes of the copies `l` leave the comparators of the commit lanes and of the schedulers. -/
def State.dropWrites (s : State) (l : List (Nat × Bool)) : State :=
  let keep := fun (e : Bool × BusWrite) => !l.contains (e.2.tag, e.1)
  s.each [0, 1, 2, 3, 4, 5, 6, 7, 13] (fun s k =>
    let c := s.cmps.getD k {}
    if c.fifo.all keep && c.stalled.all keep then s
    else
      let d := ({ c with fifo := c.fifo.filter keep, stalled := c.stalled.filter keep } : CmpRun).enterStalled
      ({ s with cmps := s.cmps.set k d } : State).setF (F.CMP_STAT_DEPTH k) d.fifo.length)

/-- Discarding the staged work of copies and of their dependants, and their writes in the comparators; what hobs still run on it is
dropped. -/
def State.discardCopies (s : State) (l : List (Nat × Bool)) : State :=
  let all := s.dependants l
  let s1 := s.each all (fun s c =>
    let x := s.inst c.1
    if x.sample = .due then s.setInst c.1 (if c.2 then { x with b := none } else { x with a := none }) else s)
  let exec := s1.gr.exec.map (fun e => if all.contains (e.inst, e.copyB) then { e with late := true } else e)
  (({ s1 with gr := { s1.gr with exec := exec } } : State).dropWrites all).refreshQueues

/-- The same for both copies of the instances of a list. -/
def State.discard (s : State) (l : List Nat) : State := s.discardCopies (l.flatMap (fun i => [(i, false), (i, true)]))

/-- HOB_LAST_EVENT (R101). [DESIGN CHOICE, log entries 27 and 29] -/
def State.lastEvent (s : State) (kind : Nat) (copyB : Bool) (hob i : Nat) : State :=
  s.setReg F.HOB_LAST_EVENT_KIND.addr (w32 (kind * 2 ^ 24 + b2n copyB * 2 ^ 23 + hob % 64 * 2 ^ 16 + i % 8192))

/-- The hob that runs or ran a copy, a free value where no hob did (log entry 5). [DESIGN CHOICE, log entry 27] -/
def State.hobOf (s : State) (i : Nat) (copyB : Bool) : Nat × State :=
  match (if copyB then (s.inst i).ranB else (s.inst i).ranA) with
  | some n => (n, s)
  | none => (s.fresh.1.toNat % 64, s.fresh.2)

end Sys2Proof.Machine
end

