-- ==== Sys2Proof/Machine/Modes.lean ====
section
/-!
DEFINITION. Modes: the power stage that follows from mode, impositions and writes; XDIS_OUT; freeze triggers; entry into a
mode; and reset.
-/
namespace Sys2Proof.Machine

open Sys2Proof

/-! The power stage (R207, R241, R242, R244 to R247) -/

/-- XDIS_IN accepted low, or the OFF of a released handover (R241 item 1). -/
def State.xdisEff (s : State) : Bool := s.gdr.xdisIn || s.gdr.hoRelease

/-- The impositions on a bridge as pairs of cause and ASC flag, XDIS included (R241). -/
def State.imposed (s : State) (b : Nat) : List (Nat × Bool) :=
  (if s.xdisEff then [(1, false)] else []) ++ (s.gdr.imps.filter (fun i => i.bridge = b)).map (fun i => (i.cause, i.asc))

/-- IMPOSED of GDR_BRIDGE_STAT_b: 0 none, 1 OFF, 2 ASC; OFF prevails (R241). -/
def imposedCode (l : List (Nat × Bool)) : Nat :=
  if l.isEmpty then 0 else if l.all (fun c => c.2) then 2 else 1

/-- The first cause in the order of R241, 0 where none holds. -/
def imposedCause (l : List (Nat × Bool)) : Nat := (l.map (fun c => c.1)).foldl (fun a c => if a = 0 then c else min a c) 0

/-- The applied state of a bridge (R207): 0 OFF, 1 RUN, 2 ASC. -/
def State.bridgeState (s : State) (b : Nat) : Nat :=
  if !s.flag (F.MOT_CFG_ENABLE b) || !s.mode.isLead then 0
  else
    match imposedCode (s.imposed b) with
    | 1 => 0
    | 2 => 2
    | _ =>
      if s.gdr.resume then 0
      else if s.flag (F.MOT_STATUS_STALE b) then (if s.getF (F.MOT_PWM_FALLBACK b) = 1 then 2 else 0)
      else
        match s.getF (F.MOT_MODE_REQUEST b) with
        | 1 => 1
        | 2 => if b = 0 then 0 else 2
        | _ => 0

/-- Whether the power stage domain is on (R459, R248). -/
def State.stageOn (s : State) : Bool := s.domState 21 = 2

/-- Whether the gate enable is present (GDR_STATUS.ENABLED, R242, R429). -/
def State.gateEnable (s : State) : Bool := s.stageOn && !s.gdr.xdisIn && !s.gdr.enOffHalf

/-- What the carrier asks of a gate at the start of the present half (R204, R207): in RUN a phase is high from the start of a
falling half where its high time is not 0, and from the start of a rising half where it fills the half. -/
def State.gateAsked (s : State) (g : Nat) : Bool :=
  let b := g / 6
  let p := g % 6 / 2
  let hi := g % 2 = 1
  let h := s.getF (F.MOT_DUTY_HIGH b p)
  let high := if s.flag (F.MOT_HALF_KIND b) then decide (0 < h) else decide (s.getF (F.MOT_HALF_LENGTH b) ≤ h)
  match s.getF (F.MOT_STATUS_STATE b) with
  | 1 => decide (high = hi)
  | 2 => !hi
  | _ => false

/-- The command of a gate: what the carrier asks, under the gate enable, unless the gate is withheld (R232) or its phase waits for
its bootstrap (R235). -/
def State.gateCommand (s : State) (g : Nat) : Bool :=
  s.gateEnable && !s.gdr.shootHeld.contains g && !s.flag (F.GDR_GATE_UV (g / 2 * 2 + 1)) && s.gateAsked g

/-- A bridge's hidden state. -/
def State.mot (s : State) (b : Nat) : Mot := s.mots.getD b {}

/-- Storing it. -/
def State.setMot (s : State) (b : Nat) (m : Mot) : State := { s with mots := s.mots.set b m }

/-- The sample planned in the present half: instant in counts and tag (R211). -/
def State.setPlan (s : State) (b : Nat) (p : Option (Nat × Nat)) : State := s.setMot b { s.mot b with plan := p }

/-- The plan where no vector is sampled (R211): in OFF TICK_LEAD ahead of the next tick start, else none; a bridge that goes OFF
within a half takes it at once. [DESIGN CHOICE, log entry 48] -/
def State.statePlan (s : State) (b : Nat) : State :=
  s.setPlan b (if s.getF (F.MOT_STATUS_STATE b) = 0 then
    some (s.getF (F.MOT_HALF_LENGTH b) - 40 * s.getF F.ADC_CFG_TICK_LEAD, 11) else none)

/-- Bringing one bridge's status in line with mode, impositions and requests (R207, R229, R254). -/
def State.refreshBridge (s : State) (b : Nat) : State :=
  let imp := s.imposed b
  let st := s.bridgeState b
  let old := s.getF (F.MOT_STATUS_STATE b)
  let forced := !imp.isEmpty
  let s1 := (s.setF (F.GDR_BRIDGE_STAT_CAUSE b) (imposedCause imp)).setF (F.GDR_BRIDGE_STAT_IMPOSED b) (imposedCode imp)
  let s2 := s1.when (forced && !s.flag (F.MOT_STATUS_FORCED b))
    (fun s => (s.incF (F.MOT_FORCED_CNT_COUNT b)).event (Ev.mot b) 4)
  let s3 := s2.when (decide (old ≠ st)) (fun s => s.incF (F.MOT_STATE_CHG_CNT_COUNT b))
  let s4 := s3.when (decide (old ≠ st) && decide (st = 2)) (fun s => (s.incF (F.MOT_ASC_CNT_COUNT b)).event (Ev.mot b) 5)
  let s5 := ((s4.setFlag (F.MOT_STATUS_FORCED b) forced).setFlag (F.MOT_STATUS_PERMIT b) s.mode.isLead).setF
    (F.MOT_STATUS_STATE b) st
  (s5.when (decide (old ≠ st)) (fun s => s.statePlan b)).each (List.range' (6 * b) 6) (fun s g =>
    (s.setFlag (F.GDR_GATE_CMD g) (s.gateCommand g)).setFlag (F.GDR_GATE_SENSE g)
      (s.gateCommand g || s.gdr.stuck.contains g))

/-- The set-point a solenoid channel applies in mA (R245, R389). -/
def State.solApplied (s : State) (k : Nat) : Nat :=
  if !s.flag (F.GDR_SOL_CFG_ENABLE k) ∨ s.gdr.released = some k then 0 else s.gdr.solSet.getD k 0

/-- Bringing one solenoid channel's status in line (R244 to R246). -/
def State.refreshSol (s : State) (k : Nat) : State :=
  let blocked := !s.mode.isLead || s.xdisEff
  let set := s.solApplied k
  let st := if s.gdr.solShut.contains k then 2 else if blocked || set = 0 || !s.stageOn then 0 else 1
  let s1 := ((s.setF (F.GDR_SOL_SET_SET k) set).setF (F.GDR_SOL_STAT_STATE k) st).setFlag (F.GDR_SOL_STAT_BLOCKED k) blocked
  s1.when (decide (st ≠ 1)) (fun s => s.setF (F.GDR_SOL_STAT_DUTY k) 0)

/-- Bringing one safe enable's output in line (R247). -/
def State.refreshEn (s : State) (e : Nat) : State :=
  s.setFlag (F.GDR_EN_STAT_OUT e)
    (s.flag (F.GDR_EN_STAT_CMD e) && s.flag (F.GDR_EN_CFG_ENABLE e) && s.mode.isLead && !s.xdisEff && s.stageOn)

/-- OK of a sensor supply: on, no test pulse running, and its output, as last shown in 25 mV units, within ±2 % of 5.0 V (R248,
R254). [DESIGN CHOICE, log entry 49] -/
def State.refreshSupply (s : State) (i : Nat) : State :=
  let v := s.getF (F.GDR_SS_STAT_VOLT i)
  s.setFlag (F.GDR_SS_STAT_OK i)
    (s.gdr.ssOn.contains i && !s.flag (F.GDR_SS_STAT_PULSING i) && decide (196 ≤ v) && decide (v ≤ 204))

/-- Bringing the whole power stage in line with mode, impositions and writes. -/
def State.refreshPower (s : State) : State :=
  let s1 := s.each (List.range 3) State.refreshBridge
  let s2 := s1.each (List.range 12) State.refreshSol
  let s3 := s2.each (List.range 4) State.refreshEn
  let imp := maskOf ((List.range 3).map (fun b => !(s.imposed b).isEmpty))
  ((s3.setF F.GDR_STATUS_IMPOSED imp).setFlag F.GDR_STATUS_XDIS_ACTIVE s.gdr.xdisIn).setFlag F.GDR_STATUS_ENABLED
    s.gateEnable

/-- Adding an imposition; one source imposes once on a bridge. -/
def State.impose (s : State) (i : Imp) : State :=
  if s.gdr.imps.contains i then s.refreshPower
  else (({ s with gdr := { s.gdr with imps := s.gdr.imps ++ [i] } } : State)).refreshPower

/-- Lifting what a source imposes. -/
def State.liftImp (s : State) (src : Nat) : State :=
  (({ s with gdr := { s.gdr with imps := s.gdr.imps.filter (fun i => decide (i.src ≠ src)) } } : State)).refreshPower

/-! XDIS_OUT (R381) -/

/-- The level R381 gives XDIS_OUT. [DESIGN CHOICE, log entry 43] -/
def State.xdisLevel (s : State) : Level :=
  if !s.sys.joined then .z
  else if s.mode.isLead then
    (if s.flag F.LDS_STATUS_HO_PENDING || s.flag F.LDS_XDIS_WINDOW || s.lds.yielded then .high else .low)
  else .high

/-- Driving XDIS_OUT; each change to low is counted. [DESIGN CHOICE, log entry 43] -/
def State.refreshXdis (s : State) : State :=
  let l := s.xdisLevel
  let n := s.sys.xdisOutCnt + b2n (decide (l = .low ∧ s.sys.xdisOut ≠ .low))
  (({ s with sys := { s.sys with xdisOut := l, xdisOutCnt := n } } : State).setFlag F.GDR_XDIS_OUT (decide (l = .high))).setFlag
    F.LDS_XDIS_OUT_LOW (decide (l = .low))

/-! Freeze triggers (R488, R490) -/

/-- Entering a trigger in JRN_TRIG_LOG, the most recent first. -/
def State.logTrigger (s : State) (kind source : Nat) : State :=
  (s.pushLog F.JRN_TRIG_LOG_KIND 7).setReg (F.JRN_TRIG_LOG_KIND 0).addr
    (w32 (kind * 2 ^ 28 + source % 256 * 2 ^ 16 + s.flu.cycle % 2 ^ 16))

/-- A trigger of kind 1 to 3: it starts the post-trigger count, merges into a window that waits, or is logged only. -/
def State.trigger (s : State) (kind source : Nat) : State :=
  let t : Trig := ⟨kind, source, s.flu.cycle⟩
  let s1 := s.logTrigger kind source
  if s.jrn.post.isSome || s.flag F.JRN_STATUS_COMMIT_WAIT then
    ((({ s1 with jrn := { s1.jrn with merged := s1.jrn.merged ++ [t] } } : State).incF F.JRN_MERGED_CNT_COUNT).incF
      F.ASH_MERGED_CNT_COUNT).event Ev.jrn 4
  else if s.flag F.JRN_STATUS_RECORDING then
    ((({ s1 with jrn := { s1.jrn with trig := some t, post := some (s.getF F.JRN_CFG_POST + 1) } } : State).setF
      F.JRN_FREEZE_STAT_KIND kind).setF F.JRN_FREEZE_STAT_SOURCE source).setF F.JRN_TRIG_CYCLE_C (s.flu.cycle % 2 ^ 32)
  else s1

/-! Entry into a mode (R59) -/

/-- HOBS_IN_SERVICE of HOB_STATUS (R98). -/
def State.refreshHobs (s : State) : State :=
  s.setF F.HOB_STATUS_HOBS_IN_SERVICE (((List.range 64).filter (fun n =>
    bit (s.getF (F.SYS_CLUSTER_HOB_IN_SERVICE (n / 8))) (n % 8))).length)

/-- HOB_IN_SERVICE of one hob (R36). -/
def State.hobService (s : State) (n : Nat) (b : Bool) : State :=
  let w := s.getF (F.SYS_CLUSTER_HOB_IN_SERVICE (n / 8))
  (s.setF (F.SYS_CLUSTER_HOB_IN_SERVICE (n / 8)) (if b then w ||| 2 ^ (n % 8) else w - w / 2 ^ (n % 8) % 2 * 2 ^ (n % 8))).refreshHobs

/-- A hob enters its rolling test (R510). -/
def State.rollEnter (s : State) (n : Nat) : State :=
  let s1 : State := { s with age := { s.age with rollDue := s.age.rollDue.filter (fun m => decide (m ≠ n)) } }
  (((s1.setF (F.HOB_ENGINE_STATE n) 2).hobService n false).setF (F.SYS_HALF_ROLLING_HOB (n / 32)) (n % 64)).setFlag
    (F.SYS_HALF_ROLLING_BIST (n / 32)) true

/-- A rolling test is over for its half, and the hob takes work again. -/
def State.rollLeave (s : State) (h : Nat) : State :=
  let n := s.getF (F.SYS_HALF_ROLLING_HOB h)
  let s1 := s.setFlag (F.SYS_HALF_ROLLING_BIST h) false
  if s.flag (F.SYS_CLUSTER_RETIRED (n / 8)) then s1 else (s1.setF (F.HOB_ENGINE_STATE n) 0).hobService n true

/-- The graph stops: a rolling test is abandoned (R512). -/
def State.rollAbandon (s : State) : State :=
  ({ s with age := { s.age with rollDue := [] } } : State).each [0, 1] (fun s h =>
    s.when (s.flag (F.SYS_HALF_ROLLING_BIST h)) (fun s => s.rollLeave h))

/-- The graph stops: nothing staged survives and no slot stays open, the journal records no more and a waiting freeze is due
at once (R489). -/
def State.graphStop (s : State) : State :=
  let closed := [false, false, false, false, false]
  let gr := { s.gr with s := none, skipping := false, exec := [], open_ := closed, skip := closed, noCommit := [],
                        insts := s.gr.insts.map (fun r => { r with sample := .idle, a := none, b := none }) }
  let s1 := s.each s.gr.exec (fun s x => s.when (decide (s.getF (F.HOB_ENGINE_STATE x.hob) = 1))
    (fun s => s.setF (F.HOB_ENGINE_STATE x.hob) 0))
  (({ s1 with gr := gr, jrn := { s1.jrn with post := s1.jrn.post.map (fun _ => 0) } } : State).setFlag
    F.JRN_STATUS_RECORDING false).setFlag F.HOB_STATUS_RUNNING false |>.rollAbandon |>.refreshQueues

/-- Actions that end with the edge into m: a fatal action stays in force only in the mode it brings (R441). -/
def actionStays (m : Mode) (action : Nat) : Bool :=
  match action with
  | 3 => m = .leadDegraded
  | 4 => m = .limp
  | 5 => m = .stopping
  | _ => true

/-- FLT_REACT: the highest action in force and the lowest-numbered source it is in force for (R440, R448).
[DEDUCED, log entry 46] -/
def State.refreshReact (s : State) : State :=
  let act := fun n => s.getF (F.FLT_SRC_REACTION n) % 16
  let top := s.flt.acting.foldl (fun a n => max a (act n)) 0
  let src := (s.flt.acting.filter (fun n => act n = top)).foldl (fun a n => min a n) 255
  (s.setF F.FLT_REACT_ACTION top).setF F.FLT_REACT_SOURCE (if s.flt.acting.isEmpty then 0 else src)

/-- Brake authority is lost (R389): an imposition on BK that R243 no longer lifts, or BRAKE_AUTHORITY active. -/
def State.brakeLost (s : State) : Bool :=
  s.gdr.imps.any (fun i => decide (i.bridge = 1) &&
    (s.flag (F.FLT_SRC_HELD i.src) || decide (s.getF (F.FLT_SRC_CLEAR_WAIT i.src) = 0)
      || decide (2 ≤ s.getF (F.FLT_SRC_CLASS i.src))))
  || bit (s.getF (F.FLT_ACTIVE_ACTIVE 5)) 16

/-- The brake release of R389: in STOPPING with brake authority lost, channel RELEASE_CH is held at 0 until reset. -/
def State.brakeRelease (s : State) : State :=
  if s.mode = .stopping ∧ s.flag F.LDS_CFG_RELEASE_EN = true ∧ s.gdr.released = none ∧ s.brakeLost = true then
    ((({ s with gdr := { s.gdr with released := some (s.getF F.LDS_CFG_RELEASE_CH) } } : State).setFlag
      F.LDS_STATUS_BRAKE_RELEASED true).event Ev.lds 10).refreshPower
  else s

/-- Modes in which R22 allows own Flue frames. -/
def Mode.sends : Mode → Bool
  | .join | .shadow => true
  | m => m.isLead

/-- Whether CAN_0 may send: in use, not listen-only (R339), not bus-off. -/
def State.isoSends (s : State) : Bool :=
  s.flag (F.CAN_STATUS_ACTIVE 0) && !s.flag (F.CAN_STATUS_LISTEN 0) && decide (s.getF (F.CAN_STATUS_STATE 0) ≤ 1)

/-- An ISOBUS function sends an address claim from address `a` (R347; PGN 60928 by ISO 11783-5).
[DESIGN CHOICE, log entry 36] -/
def State.isoSend (s : State) (a : Nat) : State :=
  if !s.isoSends then s
  else
  let name := s.getF (F.CAN_ISO_NAME_LO_NAME 0) + 2 ^ 32 * s.getF (F.CAN_ISO_NAME_HI_NAME 0)
  let c := s.cans.getD 0 {}
  let f : CanMsg := { id := 0x18EEFF00 + a, ext := true, dlc := 8, data := leBytes 8 name }
  ({ s with cans := s.cans.set 0 { c with iso := c.iso ++ [f] } } : State).incF (F.CAN_CNT_COUNT_H 0 0)

/-- Claiming an address (R347); `next` is the one tried after it. -/
def State.isoClaim (s : State) (a next : Nat) : State :=
  if !s.isoSends then s
  else
    let s1 := s.isoSend a
    { s1 with cans := s1.cans.set 0 { s1.cans.getD 0 {} with claim := some a, nextAddr := next } }

/-- SEC_STATUS.TRANSMIT (R171): outside the lead modes no command is sent and none waits; on becoming lead the pending ones are
emitted again (R163). -/
def State.refreshSec (s : State) : State :=
  let lead := s.mode.isLead
  if s.flag F.SEC_STATUS_TRANSMIT = lead then s
  else
    let sec := { s.sec with resend := lead, queue := if lead then s.sec.queue else [] }
    (({ s with sec := sec } : State).setFlag F.SEC_STATUS_TRANSMIT lead).setF F.SEC_QUEUE_DEPTH sec.queue.length

/-- CAN_STATUS.ACTIVE follows ENABLE once JOIN has been entered (R357): a controller starts with STATE leaving "not running" for
what its error counts give (one that went bus-off stays so until reset, R339), or stops with nothing left in its buffers.
[DESIGN CHOICE, log entry 36] -/
def State.startCan (s : State) : State :=
  s.each (List.range 4) (fun s n =>
    let on := s.flag (F.CAN_CFG_ENABLE n) && s.sys.joined && !(s.dom 19).lost
    if s.flag (F.CAN_STATUS_ACTIVE n) = on then s
    else if on then
      let c := s.cans.getD n {}
      (s.setFlag (F.CAN_STATUS_ACTIVE n) true).setF (F.CAN_STATUS_STATE n)
        (if 256 ≤ c.tec then 2 else if 128 ≤ c.tec ∨ 128 ≤ c.rec' then 1 else 0)
    else
      let s1 := (s.setReg (F.CAN_STATUS_ACTIVE n).addr 0).setF (F.CAN_STATUS_STATE n) 3
      let s2 := s1.each (List.range 3) (fun s b => (s.setFlag (F.CAN_TXBUF_HELD n b) false).setF (F.CAN_TXBUF_STATE n b) 0)
      ({ s2 with cans := s2.cans.set n { s2.cans.getD n {} with bufs := [{}, {}, {}], fifo := [] } } : State).setF
        (F.CAN_RXF_STAT_DEPTH n) 0)

/-- ETH_STATUS.ACTIVE: ENABLE is 1, JOIN has been entered and the link is up; with it PTP_MASTER (R355, R359). -/
def State.refreshEth (s : State) (p : Nat) : State :=
  let on := s.flag (F.ETH_CFG_ENABLE p) && s.sys.joined && s.flag (F.ETH_PHY_LINK p) && !(s.dom 18).lost
  (s.setFlag (F.ETH_STATUS_ACTIVE p) on).setFlag (F.ETH_STATUS_PTP_MASTER p) (on && s.flag (F.ETH_PTP_CFG_EN p) && s.mode.isLead)

/-- What the networks take from the mode and the enables (R339, R347, R355, R357, R359): the controllers in use, listen-only, the
address claim, PTP_MASTER. -/
def State.refreshNet (s : State) : State :=
  let lead := s.mode.isLead
  let iso := s.flag (F.CAN_ISO_CFG_EN 0)
  let s1 := s.startCan.each (List.range 4) (fun s n =>
    s.setFlag (F.CAN_STATUS_LISTEN n) (s.flag (F.CAN_STATUS_ACTIVE n) &&
      (decide (s.getF (F.CAN_CFG_MODE n) = 2) || (decide (n = 0) && iso && !lead))))
  let s2 := s1.each [0, 1] State.refreshEth
  let c := s2.cans.getD 0 {}
  if iso && lead then
    (if c.claim.isSome || s2.flag (F.CAN_ISO_STAT_CLAIMED 0) || s2.flag (F.CAN_ISO_STAT_CANNOT_CLAIM 0) then s2
     else s2.isoClaim (s2.getF (F.CAN_ISO_CFG_PREF_ADDR 0)) 128)
  else
    ((({ s2 with cans := s2.cans.set 0 { c with claim := none } } : State).setFlag (F.CAN_ISO_STAT_CLAIMED 0) false).setFlag
      (F.CAN_ISO_STAT_CANNOT_CLAIM 0) false).setF (F.CAN_ISO_STAT_ADDR 0) 0xFE

/-- MON_N_OK and MON_S_OK: the latest window lies within MON_TOL (R472). -/
def State.refreshMon (s : State) : State :=
  let tol := 4 * s.getF F.CLK_CFG_MON_TOL
  let ok := fun n => decide (4000 ≤ n + tol) && decide (n ≤ 4000 + tol)
  (s.setFlag F.CLK_STATUS_MON_N_OK (ok (s.getF F.CLK_MON_N_COUNT))).setFlag F.CLK_STATUS_MON_S_OK (ok (s.getF F.CLK_MON_S_COUNT))

/-- PPS runs: enabled on a sync node that reports no loss (R329, R472). -/
def State.ppsRuns (s : State) : Bool := s.img.flue.ppsEn && s.flag F.FLU_NODE_SYNC && !s.flag F.CLK_PPS_LOST

/-- Entry into JOIN: Flue time is integrated anew from listening, RATE starts at 0 (R325, R330), the safety channels hold no
reference (R402), and XDIS_IN high counts for R384. -/
def State.enterJoin (s : State) : State :=
  let s1 : State := { s with flu := { s.flu with integ := .listen, sumM := 0, lostRun := 0, ppsE := none } }
  let s2 := (s1.setReg F.FLU_RATE_CORR_RATE.addr 0).each (List.range 6) (fun s r => s.setFlag (F.SAF_RX_STAT_REF_VALID r) false)
  s2.when (s2.flag F.GDR_XDIS_IN) (fun s =>
    (s.setFlag F.LDS_XDIS_SEEN_HIGH true).setFlag F.LDS_STATUS_XDIS_OK (s.flag F.LDS_XDIS_SEEN_LOW))

/-- Entering a mode (R59): SYS_MODE, SYS_MODE_ENTRY_m, the MODE record of R480 (cause 0 a condition of R58, 1 a fault source,
2 reset, 3 a service command), the journal's marker and trigger, the votes, XDIS_OUT and the power stage.
[DESIGN CHOICE, log entry 9] -/
def State.enterMode (s : State) (m : Mode) (cause source : Nat) : State :=
  let prev := s.mode
  let s0 : State := { s with sys := { s.sys with joined := s.sys.joined || decide (m = .join),
                                                 heldSafe := s.sys.heldSafe || decide (m = .safeHold),
                                                 next := if m = .safeHold then [] else s.sys.next },
                             flt := { s.flt with acting := s.flt.acting.filter (fun n =>
                               actionStays m (s.getF (F.FLT_SRC_REACTION n) % 16)) } }
  let s1 := ((s0.setF F.SYS_MODE_PREV_MODE prev.code).setF F.SYS_MODE_MODE m.code).setF
    (F.SYS_MODE_ENTRY_TICK m.code) s.tickLo
  let s2 := (s1.ashRequest 2 0 (modeBody m prev cause source (s.flu.cycle % 2 ^ 32))).marker 6 m.code cause
  let s3 := s2.when (bit (s.getF F.JRN_CFG_MODE_TRIG) m.code) (fun s => s.trigger 2 m.code)
  let s4 := (((s3.when (!m.runs) State.graphStop).when (decide (m = .join)) State.enterJoin).setFlag F.FLU_STATUS_TX_ON
    m.sends).setFlag F.FLU_DAMPER_CLOSED (!m.sends) |>.setFlag F.BST_STATUS_ROLLING (m.runs && s3.flag F.BST_CFG_ROLL_EN)
  let s5 := (((s4.modeVotes m).refreshReact.refreshXdis).refreshPower).refreshNet.refreshSec
  s5.brakeRelease

/-- The order of R60: a smaller rank wins. -/
def Mode.rank : Mode → Nat
  | .dormant => 0 | .load => 1 | .safeHold => 2 | .stopping => 3 | .limp => 4 | .leadDegraded => 5 | .shadow => 6
  | .lead => 7 | _ => 8

/-- The edges of R58 that take effect at a Flue cycle boundary (R59). -/
def Mode.boundaryEdge (src dst : Mode) : Bool :=
  match dst with
  | .lead => src = .join || src = .shadow
  | .shadow => src = .join || src = .lead || src = .leadDegraded
  | .leadDegraded => src = .lead
  | .limp => src = .lead || src = .leadDegraded
  | .stopping => src = .lead || src = .leadDegraded || src = .limp
  | _ => false

/-- Asking for a mode at the next boundary. -/
def State.requestMode (s : State) (m : Mode) (cause source : Nat) : State :=
  if s.sys.next.any (fun x => x.1 = m) then s
  else { s with sys := { s.sys with next := s.sys.next ++ [(m, cause, source)] } }

/-! Reset (R10, R31, R58) -/

/-- Causes of reset as bits of SYS_RESET_CAUSE (R31). -/
inductive Cause where
  | por | rtcWake | coreUv | pin | fatal | lifecycle | service
deriving DecidableEq, Repr

/-- The bit of a cause. -/
def Cause.bit : Cause → Nat
  | .por => 0 | .rtcWake => 1 | .coreUv => 2 | .pin => 3 | .fatal => 4 | .lifecycle => 5 | .service => 6

/-- Free bytes in `n` cells of the flash from `a` (log entry 5). [DESIGN CHOICE, log entry 5] -/
def State.freeFlash (s : State) (a n : Nat) : State :=
  { s with flash := Mem.write 0xFF s.flash a ((List.range n).map (fun i => (Config.freeWord (s.free + i)).setWidth 8)), free := s.free + n }

/-- A free hash in key slot k. -/
def State.freeKey (s : State) (k : Nat) : State :=
  { s with otp := { s.otp with keys := s.otp.keys.set k (some (ofBe ((List.range 8).flatMap (fun i =>
      beBytes 4 (Config.freeWord (s.free + i)).toNat)))) }, free := s.free + 8 }

/-- A reset cuts a running flash or key operation short: the cells it works on hold free values. -/
def State.nvmTorn (s : State) : State :=
  match s.svc.nvm with
  | some x => if x.op = 1 then s.freeFlash x.addr 0x10000 else if x.op = 2 then s.freeFlash x.addr x.data.length else s.freeKey x.addr
  | none => s

/-- A reset: everything on the digital die returns to its reset values, held until RESET_RELEASE; OTP, the Ember domain,
the flash and the MRAM, the pins, and the queue of commands stay. LOAD is entered at tick 0 with a MODE record of cause
reset; PREV_MODE keeps the mode the reset left, 0 after a power-up (R28). RTC_VALID sets at the first reset after VBAT was
applied (R454). [DESIGN CHOICE, log entries 9 and 16] -/
def State.resetWith (s : State) (c : Cause) : State :=
  let prev := s.mode
  let t := s.nvmTorn
  let s0 : State :=
    { regs := [], mram := s.mram, flash := t.flash, otp := t.otp,
      ember := { s.ember with rtcValid := s.ember.rtcValid || s.ember.validAtReset, validAtReset := false },
      sys := { vsup := s.sys.vsup, vioLow := s.sys.vioLow, vioUnder := s.sys.vioUnder, strap := s.sys.strap }, free := t.free, pending := s.pending }
  (((s0.setF F.SYS_RESET_CAUSE_POR.word (2 ^ c.bit)).setF F.SYS_MODE_PREV_MODE prev.code)).ashRequest 2 0
    (modeBody .load prev 2 0 0)

/-- A reset where the die is powered; an unpowered die has nothing to reset. -/
def State.doReset (s : State) (c : Cause) : State := if s.sys.phase = .off ∨ s.sys.phase = .holdup then s else s.resetWith c

/-- A reset whose cause arises in the same fabric cycle as that of the reset in which the device is held: the lower-numbered bit is
set, the other cause is not recorded (R31). -/
def State.resetBy (s : State) (c : Cause) (same : Bool) : State :=
  if same ∧ s.sys.phase = .held then
    s.when (decide (2 ^ c.bit < s.getF F.SYS_RESET_CAUSE_POR.word)) (fun s => s.setF F.SYS_RESET_CAUSE_POR.word (2 ^ c.bit))
  else s.doReset c

end Sys2Proof.Machine
end

