-- ==== Sys2Proof/Machine/Margins.lean ====
section
/-!
DEFINITION. The ageing margins as the end of SELF-TEST and the measurements set them: values, budgets, the MARGIN record (R515,
R519, R520, R524).
-/
namespace Sys2Proof.Machine

open Sys2Proof

/-- The remaining budget in per mille (R520). -/
def budgetOf (limit value : Int) : Nat := (min 1000 (max 0 (1000 * (limit - value) / limit))).toNat

/-- Setting a budget (R520, R530): `low` raises MARGIN_LOW where it lies below LOW. -/
def State.setBudgetBy (s : State) (low : State → State) (m b : Nat) : State :=
  let s1 := s.setF (F.AGE_BUDGET_PERMILLE m) b
  if b < 4 * s.getF F.AGE_CFG_LOW then low ((s1.incF F.AGE_MARGIN_LOW_CNT_COUNT).event Ev.age 0) else s1

/-- The value of a margin as a number. -/
def State.marginValue (s : State) (m : Nat) : Int := (s.reg (F.AGE_VALUE_VALUE m).addr).toInt

/-- Setting a value. -/
def State.setValue (s : State) (m : Nat) (v : Int) : State := s.setReg (F.AGE_VALUE_VALUE m).addr (BitVec.ofInt 32 v)

/-- A margin's budget from its value and limit. -/
def State.budget (s : State) (m : Nat) : Nat := budgetOf (s.getF (F.AGE_LIMIT_LIMIT m)) (s.marginValue m)

/-- The largest of a list with its place, none of an empty list. -/
def worst : List Int → Option (Int × Nat)
  | [] => none
  | a :: t =>
    match worst t with
    | none => some (a, 0)
    | some (b, i) => if a < b then some (b, i + 1) else some (a, 0)

/-- The two's complement value of AGE_RO_r.D. -/
def State.roDev (s : State) (r : Nat) : Int := toInt 16 (s.getF (F.AGE_RO_D r))

/-- d of a half: its worst monitor at the latest measurement. -/
def State.halfD (s : State) (h : Nat) : Int :=
  match worst ((List.range' (16 * h) 16).map s.roDev) with
  | some x => x.1
  | none => 0

/-- The body of a MARGIN record (R524). -/
def State.marginBody (s : State) (baseline derate : Bool) : List Byte :=
  let flags := b2n baseline + 2 * b2n (s.flag F.BST_STATUS_ABIST_SKIPPED) + 4 * b2n (s.flag F.AGE_PLAN_EXHAUSTED) + 8 * b2n derate
  leBytes 1 flags ++ leBytes 1 (s.getF (F.SYS_HALF_HOB_CLK_STEP 0)) ++ leBytes 1 (s.getF (F.SYS_HALF_CORE_TRIM 0)) ++
    leBytes 1 (s.getF (F.SYS_HALF_CORE_TRIM 1)) ++ leBytes 1 (s.getF F.AGE_DTM_ST) ++ leBytes 1 (s.getF F.AGE_DTM_BK) ++
    leBytes 1 (s.getF F.AGE_DTM_AX) ++ leBytes 1 (s.getF F.AGE_PLAN_READ_ASSIST) ++ leBytes 2 (ofInt 16 (s.halfD 0)) ++
    leBytes 2 (ofInt 16 (s.halfD 1)) ++ leBytes 2 (max (s.getF F.AGE_CANARY_NORTH) (s.getF F.AGE_CANARY_SOUTH)) ++
    leBytes 2 (s.getF F.AGE_RETIRED_TILES) ++ (List.range 7).flatMap (fun m => leBytes 4 (s.getF (F.AGE_VALUE_VALUE m))) ++
    (List.range 7).flatMap (fun m => leBytes 2 (s.getF (F.AGE_BUDGET_PERMILLE m))) ++ List.replicate 6 0

/-- The Kept values of margins 5 and 6 (R515), 0 for margin 5 before its baselines exist (R516). -/
def State.keptMargins (s : State) : State :=
  (s.setValue 5 (if s.otp.baseFet.all (fun b => decide (b = 0)) then 0 else (s.ember.vdsOn.foldl max 0 : Nat))).setValue 6
    s.ember.crystal.toNat

/-- The end of SELF-TEST, however it goes out: budgets and the MARGIN record, once (R519, R520); `low` raises MARGIN_LOW.
[DEDUCED, log entry 44] -/
def State.closeMargins (s : State) (low : State → State) (baseline : Bool) : State :=
  if s.age.closed then s
  else
    let s1 := ({ s with age := { s.age with closed := true } } : State).keptMargins
    let s2 := s1.each (List.range 7) (fun s m =>
      s.setBudgetBy low m (if m = 2 ∧ s.flag F.BST_STATUS_ABIST_SKIPPED = true then 0xFFFF else s.budget m))
    s2.ashRequest 6 0 (s2.marginBody baseline false)

end Sys2Proof.Machine
end

