-- ==== Sys2Proof/Machine/Collector.lean ====
section
/-!
DEFINITION. The fault collector (R436 to R444): raises, what a source's unit holds, actions by mode, automatic clearing.
Source numbers are those of R446.
-/
namespace Sys2Proof.Machine

open Sys2Proof

/-! Source numbers (R446) -/

def Src.cmpMismatch (k : Nat) : Nat := k
def Src.lastingMismatch : Nat := 0x18
def Src.cmpFail : Nat := 0x19
def Src.cmpLane : Nat := 0x1A
def Src.wireFault : Nat := 0x1B
def Src.tileCorrected (r : Nat) : Nat := 0x1C + r
def Src.tileLasting (r : Nat) : Nat := 0x22 + r
def Src.clusterRetired : Nat := 0x28
def Src.regionLost : Nat := 0x29
def Src.deadline (k : Nat) : Nat := 0x2A + k
def Src.staleSignal : Nat := 0x2F
def Src.retryStorm : Nat := 0x30
def Src.valvePairConflict : Nat := 0x31
/-- k: 0 QUAD_ERROR, 1 HALL_ERROR, 2 INDEX_MISMATCH, 3 SER_WORD, 4 SER_LASTING of POS_i. -/
def Src.pos (i k : Nat) : Nat := 0x32 + 5 * i + k
/-- k: 0 PWM_STALE, 1 OBS_LOST, 2 START_FAIL of bridge b. -/
def Src.mot (b k : Nat) : Nat := 0x46 + 3 * b + k
/-- k: 0 DESAT, 1 OVERCURRENT, 2 GATE_STUCK, 3 SHOOT_THROUGH_ATTEMPT, 4 BOOT_REFRESH, 5 BOOT_UV of bridge b. -/
def Src.gate (b k : Nat) : Nat := 0x4F + 6 * b + k
/-- k: 0 CHOPPER_FAIL, 1 LINK_OV, 2 LINK_TRIP of link l. -/
def Src.link (l k : Nat) : Nat := 0x61 + 3 * l + k
/-- k: 0 SOL_SHORT, 1 SOL_OPEN, 2 SOL_DEVIATION of channel c. -/
def Src.sol (c k : Nat) : Nat := 0x67 + 3 * c + k
def Src.enReadback (e : Nat) : Nat := 0x8B + e
def Src.ssFault (i : Nat) : Nat := 0x8F + i
def Src.adcPair (p : Nat) : Nat := 0x93 + p
def Src.adcRef (v : Nat) : Nat := 0x97 + v
def Src.adcOverRange : Nat := 0x9F
def Src.adcOpenWire : Nat := 0xA0
def Src.adcLoopback : Nat := 0xA1
def Src.lockLoss (ring : Nat) : Nat := 0xA2 + ring
def Src.damperBlock : Nat := 0xA4
def Src.damperDiverge : Nat := 0xA5
def Src.syncLost : Nat := 0xA6
def Src.canBusOff (n : Nat) : Nat := 0xA7 + n
def Src.ethLink (p : Nat) : Nat := 0xAB + p
def Src.leadSuperseded : Nat := 0xAD
def Src.shadowIsolated : Nat := 0xAE
def Src.digestDiverge : Nat := 0xAF
def Src.brakeAuthority : Nat := 0xB0
def Src.safeData (r : Nat) : Nat := 0xB1 + r
def Src.slsOver : Nat := 0xB7
def Src.slsPlaus : Nat := 0xB8
def Src.slpOver : Nat := 0xB9
def Src.slpApproach : Nat := 0xBA
def Src.sdiTravel : Nat := 0xBB
def Src.sdiSteer : Nat := 0xBC
def Src.pulseShort (i : Nat) : Nat := 0xBD + i
def Src.pulseNodrop (i : Nat) : Nat := 0xC1 + i
def Src.reactOverrun : Nat := 0xC5
def Src.pllLoss (h : Nat) : Nat := 0xC6 + h
def Src.xt25Fail : Nat := 0xC8
def Src.xt32Fail : Nat := 0xC9
def Src.vsupUv : Nat := 0xCA
def Src.vsupOv : Nat := 0xCB
def Src.coreOv : Nat := 0xCC
def Src.vioFault : Nat := 0xCD
def Src.vgdFault : Nat := 0xCE
def Src.vbatLow : Nat := 0xCF
/-- t: 0 NORTH, 1 SOUTH, 2 power die. -/
def Src.temp (t : Nat) : Nat := 0xD0 + t
def Src.domainTimeout : Nat := 0xD3
def Src.ppsLost : Nat := 0xD4
def Src.ashWrite : Nat := 0xD5
def Src.ashFull : Nat := 0xD6
def Src.holdupLow : Nat := 0xD7
def Src.rollingBist : Nat := 0xD8
def Src.mbistRepair : Nat := 0xD9
def Src.marginLow : Nat := 0xDA
def Src.emergencyDerate : Nat := 0xDB
def Src.graph (g : Nat) : Nat := 0xDC + g

/-! What the collector knows of a source -/

/-- CLASS: 0 corrected, 1 contained, 2 fatal (R48). -/
def State.fltClass (s : State) (n : Nat) : Nat := s.getF (F.FLT_SRC_CLASS n)
/-- ACTION of the REACTION byte (R438). -/
def State.fltAction (s : State) (n : Nat) : Nat := s.getF (F.FLT_SRC_REACTION n) % 16
/-- FREEZE of the REACTION byte (R438). -/
def State.fltFreeze (s : State) (n : Nat) : Bool := bit (s.getF (F.FLT_SRC_REACTION n)) 4
/-- Whether the collector takes the source as asserted: by its unit, by a disagreeing pair or by a force pulse (R436,
R443). -/
def State.asserted (s : State) (n : Nat) : Bool :=
  s.flt.level.contains n || s.flt.wire.contains n || s.flt.forced.contains n
/-- The ACTIVE bit (R449). -/
def State.active (s : State) (n : Nat) : Bool := bit (s.getF (F.FLT_ACTIVE_ACTIVE (n / 32))) (n % 32)
/-- Whether a corrected or contained source holds something (R441). -/
def State.holds (s : State) (n : Nat) : Bool :=
  decide (s.fltClass n < 2) &&
    (s.flt.unitHold.contains n || (decide (s.fltClass n = 1) && (s.fltAction n = 1 || s.fltAction n = 2)))

/-- Writing ACTIVE in FLT_ACTIVE_w and FLT_SRC_n; ACTIVE_COUNT follows, and an action ends with it. -/
def State.setActive (s : State) (n : Nat) (b : Bool) : State :=
  if s.active n = b then s
  else
    let w := s.getF (F.FLT_ACTIVE_ACTIVE (n / 32))
    let c := s.getF F.FLT_STATUS_ACTIVE_COUNT
    let s1 := ((s.setF (F.FLT_ACTIVE_ACTIVE (n / 32)) (if b then w + 2 ^ (n % 32) else w - 2 ^ (n % 32))).setFlag
      (F.FLT_SRC_ACTIVE n) b).setF F.FLT_STATUS_ACTIVE_COUNT (if b then c + 1 else c - 1)
    if b then s1
    else (({ s1 with flt := { s1.flt with acting := s1.flt.acting.filter (fun m => decide (m ≠ n)) } } : State)).refreshReact

/-- The counter of a class (R450). -/
def classCounter (c : Nat) : Fld :=
  match c with
  | 0 => F.FLT_CORRECTED_CNT_COUNT
  | 1 => F.FLT_CONTAINED_CNT_COUNT
  | _ => F.FLT_FATAL_CNT_COUNT

/-- What a raise records (R437, R439, R448): sticky bit, ACTIVE, the class counter, FLT_LAST, FLT_FIRST_FATAL, the journal
marker. -/
def State.fltRecord (s : State) (n : Nat) : State :=
  let c := s.fltClass n
  let s1 := (s.setF (F.FLT_STICKY_STICKY (n / 32)) (s.getF (F.FLT_STICKY_STICKY (n / 32)) ||| 2 ^ (n % 32))).setActive n true
  let s2 := (s1.incF (classCounter c)).setReg F.FLT_LAST_TICK.addr (w32 (s.tickLo % 2 ^ 16 * 2 ^ 16 + c * 2 ^ 8 + n))
  let s3 := s2.marker 3 n c
  if c = 2 then
    (if s3.flag F.FLT_FIRST_FATAL_VALID then s3
     else (s3.setFlag F.FLT_FIRST_FATAL_VALID true).setF F.FLT_FIRST_FATAL_SOURCE n).event Ev.flt 2
  else s3

/-- The wait of R243 of a source that holds something: it starts, or restarts, at the raise; a recurrence after the third
try leaves the hold in place until reset. -/
def State.startWait (s : State) (n : Nat) : State :=
  if s.holds n && decide (s.getF (F.FLT_SRC_CLEAR_WAIT n) ≠ 0) then
    if s.getF (F.FLT_SRC_TRIES n) = 3 then s.setFlag (F.FLT_SRC_HELD n) true
    else if s.flt.waiting.contains n then s
    else { s with flt := { s.flt with waiting := s.flt.waiting ++ [n] } }
  else s

/-- A freeze asked for by a raise (R438, R488 kind 1). -/
def State.fltFreezeAct (s : State) (n : Nat) : State :=
  s.when (s.fltFreeze n) (fun s =>
    (s.trigger 1 n).when (s.flag F.JRN_STATUS_RECORDING || s.jrn.post.isSome || s.flag F.JRN_STATUS_COMMIT_WAIT)
      (fun s => s.setFlag F.FLT_REACT_FREEZE true))

/-- ACTIVE of a corrected or contained source that holds nothing follows the pair (R441). -/
def State.settle (s : State) (n : Nat) : State :=
  if decide (s.fltClass n < 2) && !s.holds n && !s.asserted n then s.setActive n false else s

/-- A raise while SAFE-HOLD is in force or being entered as a reaction: R439 gives it no action of its own there; it may freeze the
journal. -/
def State.raiseInHold (s : State) (n : Nat) : State :=
  s.when (!s.asserted n) (fun s => (((s.fltRecord n).startWait n).fltFreezeAct n).settle n)

/-- SAF_REACT_LAST and SAF_REACT_MAX (R416): the measured time from a raise to the last switch sensed open, free where no
command supplies it; above 500 µs REACT_OVERRUN is raised. In SAFE-HOLD, which is in force by then, R439 gives it no action; it may
freeze the journal. -/
def State.reactTime (s : State) (us : Option Nat) : State :=
  let r := match us with
    | some v => (v, s)
    | none => (s.fresh.1.toNat % 65536, s.fresh.2)
  let s1 := (r.2.setF F.SAF_REACT_LAST_US (min r.1 65535)).peakF F.SAF_REACT_MAX_US r.1
  s1.when (decide (500 < r.1)) (fun s =>
    ((s.incF F.SAF_REACT_OVERRUN_CNT_COUNT).event Ev.saf 8).raiseInHold Src.reactOverrun)

/-- SAFE-HOLD as a reaction (R416): the mode is entered in the fabric cycle of the raise; where halves were energised the
reaction time is recorded. It ends a SELF-TEST as any end does (R520). -/
def State.reactSafeHold (s : State) (n : Nat) (us : Option Nat) : State :=
  ((s.when (decide (s.mode = .selfTest)) (fun s => s.closeMargins (fun s => s.raiseInHold Src.marginLow) false)).enterMode
    .safeHold 1 n).when s.mode.isLead (fun s => s.reactTime us)

/-- Noting that a source's action is in force (R440). -/
def State.nowActing (s : State) (n : Nat) : State :=
  (({ s with flt := { s.flt with acting := if s.flt.acting.contains n then s.flt.acting else s.flt.acting ++ [n] } }
    : State)).refreshReact

/-- An action a of source n by mode (R439), where it is not weaker than the action in force (R440). -/
def State.takeAction (s : State) (n a : Nat) (us : Option Nat) : State :=
  let m := s.mode
  if a = 0 ∨ a < s.getF F.FLT_REACT_ACTION then s
  else
    match a, m with
    | 1, .shadow | 2, .shadow | 3, .shadow => s.nowActing n
    | 2, .lead | 2, .leadDegraded => (({ s with lds := { s.lds with hoReq := true } } : State)).nowActing n
    | 3, .lead => (s.requestMode .leadDegraded 1 n).nowActing n
    | 4, .lead | 4, .leadDegraded => (s.requestMode .limp 1 n).nowActing n
    | 5, .lead | 5, .leadDegraded | 5, .limp => (s.requestMode .stopping 1 n).nowActing n
    | 6, .lead | 6, .leadDegraded | 6, .limp | 6, .stopping | 6, .shadow | 6, .selfTest =>
      (s.nowActing n).reactSafeHold n us
    | 7, .lead | 7, .leadDegraded | 7, .limp | 7, .stopping | 7, .shadow => s.doReset .fatal
    | _, _ => s

/-- The action of a real raise. -/
def State.fltAct (s : State) (n : Nat) (us : Option Nat) : State := s.takeAction n (s.fltAction n) us

/-- FLT_FIRST_FATAL takes the lowest-numbered fatal source of a fabric cycle (R440): `l` are the sources raised in one together with
that which came first, `before` the state in which the cycle began. [DEDUCED, log entry 46] -/
def State.firstFatal (s before : State) (l : List Nat) : State :=
  if before.flag F.FLT_FIRST_FATAL_VALID || !s.flag F.FLT_FIRST_FATAL_VALID then s
  else s.each (l.filter (fun n => decide (s.fltClass n = 2))) (fun s n =>
    s.when (decide (n < s.getF F.FLT_FIRST_FATAL_SOURCE)) (fun s => s.setF F.FLT_FIRST_FATAL_SOURCE n))

/-- A raise with everything that follows from it (R437 to R440). -/
def State.doRaise (s : State) (n : Nat) (us : Option Nat) : State :=
  ((((s.fltRecord n).startWait n).fltFreezeAct n).fltAct n us).brakeRelease

/-- A source that signals an event asserts for one fabric cycle (R436); it raises unless it is asserted already. `us` is
the reaction time where the command supplies it (R416). [DEDUCED, log entry 46] -/
def State.raiseTimed (s : State) (n : Nat) (us : Option Nat) : State :=
  if s.asserted n then s else (s.doRaise n us).settle n

/-- The same without a supplied reaction time. -/
def State.raise (s : State) (n : Nat) : State := s.raiseTimed n none

/-- A source whose unit asserts it until the condition ends. -/
def State.levelTimed (s : State) (n : Nat) (us : Option Nat) : State :=
  let s1 : State := { s with flt := { s.flt with level := if s.flt.level.contains n then s.flt.level else s.flt.level ++ [n] } }
  if s.asserted n then s1 else s1.doRaise n us

/-- The same without a supplied reaction time. [DEDUCED, log entry 46] -/
def State.raiseLevel (s : State) (n : Nat) : State := s.levelTimed n none

/-- The unit no longer asserts a source. [DEDUCED, log entry 46] -/
def State.clearLevel (s : State) (n : Nat) : State :=
  (({ s with flt := { s.flt with level := s.flt.level.filter (fun m => decide (m ≠ n)) } } : State)).settle n

/-! What units hold (R241, R243, R441) -/

/-- The hold of a source's unit: an imposition, a lowered threshold, a channel or a supply shut down. -/
def State.unitHoldOn (s : State) (n : Nat) : State :=
  let s0 : State := { s with flt := { s.flt with unitHold := if s.flt.unitHold.contains n then s.flt.unitHold
                                                              else s.flt.unitHold ++ [n] } }
  if 0x4F ≤ n ∧ n ≤ 0x60 then
    let b := (n - 0x4F) / 6
    match (n - 0x4F) % 6 with
    | 0 => s0.impose ⟨b, 3, false, n⟩
    | 1 => s0.impose ⟨b, 4, false, n⟩
    | 2 => s0.impose ⟨b, 5, false, n⟩
    | 5 => s0.impose ⟨b, 6, false, n⟩
    | _ => s
  else if n = 0x61 ∨ n = 0x64 then s0.setFlag (F.GDR_LINK_STAT_CH_FAIL ((n - 0x61) / 3)) true
  else if n = 0x62 then (s0.impose ⟨0, 7, false, n⟩).setFlag (F.GDR_LINK_STAT_REACT 0) true
  else if n = 0x65 then ((s0.impose ⟨1, 7, true, n⟩).impose ⟨2, 7, true, n⟩).setFlag (F.GDR_LINK_STAT_REACT 1) true
  else if n = 0x63 ∨ n = 0x66 then
    ((s0.impose ⟨0, 2, false, n⟩).impose ⟨1, 2, false, n⟩).impose ⟨2, 2, false, n⟩
  else if 0x67 ≤ n ∧ n ≤ 0x8A ∧ (n - 0x67) % 3 = 0 then
    let c := (n - 0x67) / 3
    ((({ s0 with gdr := { s0.gdr with solShut := if s0.gdr.solShut.contains c then s0.gdr.solShut
                                                 else s0.gdr.solShut ++ [c] } } : State).setFlag
      (F.GDR_SOL_STAT_SHORT c) true)).refreshPower
  else if 0x8F ≤ n ∧ n ≤ 0x92 then
    let i := n - 0x8F
    ((({ s0 with gdr := { s0.gdr with ssOn := s0.gdr.ssOn.filter (fun m => decide (m ≠ i)) } } : State).setFlag
      (F.GDR_SS_STAT_OK i) false).setF (F.GDR_SS_STAT_VOLT i) 0).setFlag (F.GDR_SS_STAT_LIMITING i) false
  else s

/-- Lifting it (R243 item 1). -/
def State.unitHoldOff (s : State) (n : Nat) : State :=
  if !s.flt.unitHold.contains n then s
  else
    let s0 : State := { s with flt := { s.flt with unitHold := s.flt.unitHold.filter (fun m => decide (m ≠ n)) } }
    if 0x4F ≤ n ∧ n ≤ 0x60 then
      let b := (n - 0x4F) / 6
      let s0 := s0.when (decide ((n - 0x4F) % 6 = 5)) (fun s => s.each [0, 1, 2] (fun s p =>
        s.setFlag (F.GDR_GATE_UV (6 * b + 2 * p + 1)) false))
      (({ s0 with gdr := { s0.gdr with stuck := if (n - 0x4F) % 6 = 2 then s0.gdr.stuck.filter (fun g => decide (g / 6 ≠ b))
                                                else s0.gdr.stuck } } : State)).liftImp n
    else if n = 0x61 ∨ n = 0x64 then s0.setFlag (F.GDR_LINK_STAT_CH_FAIL ((n - 0x61) / 3)) false
    else if n = 0x62 ∨ n = 0x65 then (s0.liftImp n).setFlag (F.GDR_LINK_STAT_REACT ((n - 0x62) / 3)) false
    else if n = 0x63 ∨ n = 0x66 then s0.liftImp n
    else if 0x67 ≤ n ∧ n ≤ 0x8A then
      let c := (n - 0x67) / 3
      ((({ s0 with gdr := { s0.gdr with solShut := s0.gdr.solShut.filter (fun m => decide (m ≠ c)) } } : State).setFlag
        (F.GDR_SOL_STAT_SHORT c) false)).refreshPower
    else if 0x8F ≤ n ∧ n ≤ 0x92 then
      let i := n - 0x8F
      if s0.flag (F.GDR_SS_CFG_ENABLE i) then
        (({ s0 with gdr := { s0.gdr with ssOn := s0.gdr.ssOn ++ [i] } } : State).refreshSupply i)
      else s0
    else s0

/-- What a detector of the power stage records each time it finds its condition (R237, R238, R253). -/
def State.detected (s : State) (n : Nat) : State :=
  if 0x4F ≤ n ∧ n ≤ 0x60 then
    match (n - 0x4F) % 6 with
    | 0 => (s.incF F.GDR_DESAT_CNT_COUNT).event Ev.gdr 0
    | 1 => (s.incF F.GDR_OC_CNT_COUNT).event Ev.gdr 0
    | 2 => s.event Ev.gdr 2
    | 5 => s.event Ev.gdr 4
    | _ => s
  else if n = 0x61 ∨ n = 0x64 then s.event Ev.gdr 6
  else if n = 0x62 ∨ n = 0x65 then s.event Ev.gdr 5
  else if n = 0x63 ∨ n = 0x66 then s.event Ev.gdr 7
  else if 0x67 ≤ n ∧ n ≤ 0x8A ∧ (n - 0x67) % 3 = 0 then s.event Ev.gdr 8
  else if 0x8F ≤ n ∧ n ≤ 0x92 then s.event Ev.gdr 10
  else s

/-- A detector of the power stage finds its condition: it is recorded, the unit holds, and the source is raised. A source that
holds already raises again as a recurrence (R243 item 4). -/
def State.raiseHold (s : State) (n : Nat) : State := ((s.detected n).unitHoldOn n).raise n

/-- The detector finds a condition that outlasted the lift again (R243 item 5): gates sensed on and high sides under voltage before
the lift are so still, and the source is raised as a recurrence. -/
def State.foundAgain (s : State) (n : Nat) (before : State) : State :=
  let s1 := ((s.detected n).unitHoldOn n).each ((List.range 18).filter (fun g => before.flag (F.GDR_GATE_UV g))) (fun s g =>
    s.setFlag (F.GDR_GATE_UV g) true)
  (({ s1 with gdr := { s1.gdr with stuck := before.gdr.stuck } } : State).refreshPower).doRaise n none

/-- LINK_REACT of GDR_STATUS: bit l while a reaction of R240 holds on link l. -/
def State.refreshLinks (s : State) : State :=
  s.setF F.GDR_STATUS_LINK_REACT (maskOf ((List.range 2).map (fun l => s.flag (F.GDR_LINK_STAT_REACT l))))

/-- Whether a link source's lift still waits for the link to fall below CH_OFF (R240). -/
def State.linkHigh (s : State) (n : Nat) : Bool :=
  (n = 0x62 || n = 0x63 || n = 0x65 || n = 0x66) &&
    decide (s.getF (F.GDR_LINK_CFG_CH_OFF ((n - 0x62) / 3)) ≤ s.gdr.linkU.getD ((n - 0x62) / 3) 0)

/-- Showing a source's tries in its unit's status (R243 item 1, R254). -/
def State.showTries (s : State) (n t : Nat) : State :=
  if 0x4F ≤ n ∧ n ≤ 0x60 then s.setF (F.GDR_BRIDGE_STAT_TRIES ((n - 0x4F) / 6)) t
  else if n = 0x62 then s.setF (F.GDR_BRIDGE_STAT_TRIES 0) t
  else if n = 0x65 then (s.setF (F.GDR_BRIDGE_STAT_TRIES 1) t).setF (F.GDR_BRIDGE_STAT_TRIES 2) t
  else if n = 0x63 ∨ n = 0x66 then s.each (List.range 3) (fun s b => s.setF (F.GDR_BRIDGE_STAT_TRIES b) t)
  else if 0x67 ≤ n ∧ n ≤ 0x8A then s.setF (F.GDR_SOL_STAT_TRIES ((n - 0x67) / 3)) t
  else s

/-- The lift that falls due when CLEAR_WAIT has run out (R243): the try is counted, the hold lifted, ACTIVE cleared; a
condition that persists is found again in the next fabric cycle and raises as a recurrence. -/
def State.clearExpiry (s : State) (n : Nat) (persists : Bool) : State :=
  if !s.flt.waiting.contains n || s.linkHigh n then s
  else
    let t := s.getF (F.FLT_SRC_TRIES n) + 1
    let s0 : State := { s with flt := { s.flt with waiting := s.flt.waiting.filter (fun m => decide (m ≠ n)) } }
    let s1 := (((s0.setF (F.FLT_SRC_TRIES n) t).showTries n t).incF F.FLT_CLEAR_CNT_COUNT).event Ev.flt 0
    let s2 := s1.when (decide (0x4F ≤ n) && decide (n ≤ 0x92)) (fun s => s.incF F.GDR_CLEAR_CNT_COUNT)
    let hold := s.flt.unitHold.contains n
    let s3 := ((s2.unitHoldOff n).setActive n false).refreshLinks
    if persists || s3.asserted n then
      (if hold then s3.foundAgain n s else s3.doRaise n none).refreshLinks
    else s3.brakeRelease

/-- The try count returns to 0 after 1 s without recurrence (R243 item 3); a held source stays held until reset. -/
def State.tryReset (s : State) (n : Nat) : State :=
  if s.flag (F.FLT_SRC_HELD n) || s.flt.waiting.contains n || decide (256 ≤ n) then s
  else (s.setF (F.FLT_SRC_TRIES n) 0).showTries n 0

/-! Retries (R434, R435) -/

/-- A retry that a mechanism of R434 makes counts towards RETRY_STORM: more than RETRY_LIMIT within one second. -/
def State.countRetry (s : State) : State :=
  let fresh := s.flt.retries.isNone || decide (s.flt.retryEnd ≤ s.sys.tick)
  let n := if fresh then 1 else s.flt.retries.getD 0 + 1
  let s1 : State := { s with flt := { s.flt with retries := some n,
                                                 retryEnd := if fresh then s.sys.tick + 32000 else s.flt.retryEnd } }
  s1.when (decide (n = s.getF F.FLT_CFG_RETRY_LIMIT + 1)) (fun s => s.raise Src.retryStorm)

/-- A retry that succeeded (R434). -/
def State.transient (s : State) : State := s.incF F.FLT_TRANSIENT_CNT_COUNT

/-- A retry that failed (R434). -/
def State.lasting (s : State) : State := (s.incF F.FLT_LASTING_CNT_COUNT).event Ev.flt 3

/-- Taking a hob out of service: the copies that it staged and that have not committed, and the one that it runs, are discarded with
their dependants and their writes in the comparators; all of it runs again (R89). -/
def State.hobOut (s : State) (n st : Nat) : State :=
  let staged := fun (x : Option Staged) => (x.map (fun w => decide (w.hob = n))).getD false
  let own := (List.range s.img.nodes.length).flatMap (fun i =>
    if (s.inst i).sample = .due then
      (if staged (s.inst i).a then [(i, false)] else []) ++ (if staged (s.inst i).b then [(i, true)] else [])
    else [])
  let s1 := s.discardCopies (own ++ (s.gr.exec.filter (fun x => decide (x.hob = n) && !x.late)).map (fun x => (x.inst, x.copyB)))
  ({ s1 with gr := { s1.gr with exec := s1.gr.exec.filter (fun x => decide (x.hob ≠ n)) },
             age := { s1.age with rollDue := s1.age.rollDue.filter (fun m => decide (m ≠ n)) } } : State).setF
    (F.HOB_ENGINE_STATE n) st

/-- Retiring a cluster (R433): it takes no work, its hobs leave service, its domain goes off, CLUSTER_RETIRED is raised. -/
def State.retireCluster (s : State) (c : Nat) : State :=
  if s.flag (F.SYS_CLUSTER_RETIRED c) ∨ 8 ≤ c then s
  else
    let s1 := ((s.setFlag (F.SYS_CLUSTER_RETIRED c) true).setF (F.SYS_CLUSTER_HOB_IN_SERVICE c) 0).each (List.range' (8 * c) 8)
      (fun s n => s.hobOut n 3)
    ((s1.refreshHobs.domUnvote (9 + c) 0 none).domRetired (9 + c)).refreshQueues.raise Src.clusterRetired

end Sys2Proof.Machine
end

