-- ==== Sys2Proof/Machine/Setpoint.lean ====
section
/-!
DEFINITION. Set-point channels (R125, R126, R133, R134) and the shutdown request (R464).
-/
namespace Sys2Proof.Machine

open Sys2Proof

/-- A channel. -/
def State.sp (s : State) (c : Nat) : Sp := s.sps.getD c {}
/-- Storing it. -/
def State.setSp (s : State) (c : Nat) (x : Sp) : State := { s with sps := s.sps.set c x }

/-- Bytes that a FORMAT reads (R133). -/
def spWidth (fmt : Nat) : Nat := if fmt < 2 then 4 else 2

/-- The raw value in a format as a float (R125). -/
def spRaw (fmt : Nat) (b : List Byte) : Word :=
  match fmt with
  | 0 => BitVec.ofNat 32 (ofLe (b.take 4))
  | 1 => fOfInt (toInt 32 (ofLe (b.take 4)))
  | 2 => fOfInt (toInt 16 (ofLe (b.take 2)))
  | _ => fOfNat (ofLe (b.take 2))

/-- KIND and LOCATOR of a channel's source. -/
def State.spKind (s : State) (c : Nat) (alt : Bool) : Nat := s.getF (if alt then F.LAW_SP_ALT_KIND c else F.LAW_SP_PRI_KIND c)
def State.spLoc (s : State) (c : Nat) (alt : Bool) : Nat :=
  s.getF (if alt then F.LAW_SP_ALT_LOCATOR c else F.LAW_SP_PRI_LOCATOR c)

/-- A message of a source: its value, its timer restarts. A message after the timer has expired begins the run of R126 anew. -/
def SpSrc.message (x : SpSrc) (w : Word) : SpSrc :=
  { val := some w, out := false, counted := false, run := if x.out then 1 else x.run + 1 }

/-- Offering bytes to one source of a channel; too few bytes are no message (R125). [DEDUCED, log entry 37] -/
def State.spMessage (s : State) (c : Nat) (alt : Bool) (b : List Byte) : State :=
  let fmt := s.getF (F.LAW_SP_SRC_FORMAT c)
  if !s.flag (F.LAW_SP_SRC_ENABLE c) || b.length < spWidth fmt then s
  else
    let w := fMul (spRaw fmt b) (s.reg (F.LAW_SP_SCALE_SCALE c).addr)
    let x := s.sp c
    s.setSp c (if alt then { x with alt := x.alt.message w } else { x with pri := x.pri.message w })

/-- The sources of all channels: channel and whether it is the alternate. -/
def spSources : List (Nat × Bool) := (List.range 8).flatMap (fun c => [(c, false), (c, true)])

/-- Offering a Flue payload of a static slot (R125, R133). [DEDUCED, log entry 37] -/
def State.spFlue (s : State) (slot : Nat) (payload : List Byte) : State :=
  s.each (spSources.filter (fun x => decide (s.spKind x.1 x.2 = 1) && decide (s.spLoc x.1 x.2 % 64 = slot))) (fun s x =>
    s.spMessage x.1 x.2 (payload.drop (s.spLoc x.1 x.2 / 65536 % 256)))

/-- The sources that name an Ethernet key. -/
def State.spKeyed (s : State) (key : Nat) : List (Nat × Bool) :=
  spSources.filter (fun x => decide (s.spKind x.1 x.2 = 2) && decide (s.spLoc x.1 x.2 % 65536 = key))

/-- Offering a CAN frame of controller n (R125, R133). -/
def State.spCan (s : State) (n : Nat) (f : CanMsg) : State :=
  let loc := if f.ext then 2 ^ 29 + f.id else f.id
  s.each (spSources.filter (fun x => decide (s.spKind x.1 x.2 = 3) && decide (s.getF (F.LAW_SP_SRC_CAN_CTRL x.1) = n) &&
    decide (s.spLoc x.1 x.2 = loc))) (fun s x => s.spMessage x.1 x.2 (f.data.drop (s.getF (F.LAW_SP_SRC_CAN_BYTE x.1))))

/-- ALT_IN_USE (R129). -/
def State.refreshAlt (s : State) : State :=
  s.setFlag F.LAW_STATUS_ALT_IN_USE ((List.range 8).any (fun c => s.flag (F.LAW_SP_STAT_ON_ALT c)))

/-- Changing a channel to its alternate or primary. [DEDUCED, log entry 37] -/
def State.spUse (s : State) (c : Nat) (alt : Bool) : State :=
  let x := s.sp c
  ((s.setSp c (if alt then { x with pri := { x.pri with run := 0 } } else x)).setFlag (F.LAW_SP_STAT_ON_ALT c) alt).refreshAlt

/-- Counting the loss of a channel's source in use, once. [DEDUCED, log entry 37] -/
def State.spLoss (s : State) (c : Nat) (alt : Bool) : State :=
  let x := s.sp c
  if (if alt then x.alt.counted else x.pri.counted) then s
  else
    (((s.setSp c (if alt then { x with alt := { x.alt with counted := true } } else { x with pri := { x.pri with counted := true } })).incF
      (F.LAW_SP_STAT_LOSSES c)).incF F.LAW_SP_LOSS_CNT_COUNT).setFlag F.LAW_STATUS_SP_LOSS_SEEN true

/-- What an intake point does to a channel (R126): change of source, return, holding with the age flag. AGED stays 0 while
INITIAL is held before the first message and before the timeout. [DEDUCED, log entry 37] -/
def State.spIntake (s : State) (c : Nat) : State :=
  if !s.flag (F.LAW_SP_SRC_ENABLE c) then s
  else
    let alt := s.flag (F.LAW_SP_STAT_ON_ALT c)
    let x := s.sp c
    let src := if alt then x.alt else x.pri
    let other := if alt then x.pri else x.alt
    let s1 := s.when src.out (fun s => s.spLoss c alt)
    let back := alt && s.flag (F.LAW_SP_SRC_RETURN c) && !x.pri.out && decide (max 1 (s.getF F.LAW_CFG_RETURN_COUNT) ≤ x.pri.run)
    let change := (src.out && !other.out && decide (s.spKind c (!alt) ≠ 0)) || back
    let s2 := s1.when change (fun s => s.spUse c (!alt))
    let use := if change then other else src
    match use.out, use.val with
    | false, some w => (s2.setSp c { s2.sp c with cur := some w }).setFlag (F.LAW_SP_STAT_AGED c) false
    | _, _ => s2.setFlag (F.LAW_SP_STAT_AGED c) use.out

/-- The own value of a channel with its age flag; `init` is INITIAL of its intake signal. -/
def State.spValue (s : State) (c : Nat) (init : Word) : Word × Bool :=
  let x := s.sp c
  let src := if s.flag (F.LAW_SP_STAT_ON_ALT c) then x.alt else x.pri
  (if src.val.isNone then init else x.cur.getD init, !s.flag (F.LAW_SP_SRC_ENABLE c) || src.out || src.val.isNone)

/-- SETPOINT_TIMEOUT (R126): a source's timer expires; the channel acts at the next intake point. -/
def State.spTimeout (s : State) (c : Nat) (alt : Bool) : State :=
  if s.running ∧ s.sys.joined = true ∧ c < 8 ∧ s.flag (F.LAW_SP_SRC_ENABLE c) = true ∧ s.getF (F.LAW_SP_SRC_TIMEOUT c) ≠ 0
      ∧ s.spKind c alt ≠ 0 then
    let x := s.sp c
    s.setSp c (if alt then { x with alt := { x.alt with out := true, run := 0 } }
      else { x with pri := { x.pri with out := true, run := 0 } })
  else s

/-- The meaning of SETPOINT_TIMEOUT (R126). -/
def execSetpointTimeout (channel : Nat) (alt : Bool) (s : State) : Host.Outcome State Fault Refusal :=
  .next (s.spTimeout channel alt)

/-- The SAFE-HOLD edge of a pending shutdown at standstill (R58). -/
def State.shutdownEdge (s : State) : State :=
  if s.flag F.PWR_STATUS_SD_PENDING && s.flag F.SAF_STATUS_STANDSTILL &&
      [Mode.shadow, Mode.lead, Mode.leadDegraded, Mode.limp].contains s.mode
  then s.enterMode .safeHold 0 0
  else s

/-- Whether the shutdown channel's own source shows a non-zero value without the age flag (R464). -/
def State.sdNonZero (s : State) : Bool :=
  let v := s.spValue (s.getF F.PWR_CFG_SD_CHANNEL) 0
  s.flag F.PWR_CFG_SD_EN && !v.2 && !fEq v.1 f0

/-- SHUTDOWN_REQUEST (R464): the shutdown channel has held non-zero for HOLD ms, or no longer does; after SAFE-HOLD the request
stays. -/
def State.shutdownRequest (s : State) (holds : Bool) : State :=
  if !s.running then s
  else if holds then
    if s.sdNonZero then (s.setFlag F.PWR_STATUS_SD_PENDING true).shutdownEdge else s
  else if s.sys.heldSafe then s
  else s.setFlag F.PWR_STATUS_SD_PENDING false

/-- The meaning of SHUTDOWN_REQUEST (R464). -/
def execShutdownRequest (holds : Bool) (s : State) : Host.Outcome State Fault Refusal := .next (s.shutdownRequest holds)

end Sys2Proof.Machine
end

