-- ==== Sys2Proof/Machine/Can.lean ====
section
/-!
DEFINITION. The CAN controllers and ISOBUS on CAN_0 (R338 to R348). Frames of the ISOBUS functions are taken as sent at once
and stand in `Can.iso` until the next tick start.
-/
namespace Sys2Proof.Machine

open Sys2Proof

/-- A controller's hidden state. -/
def State.can (s : State) (n : Nat) : Can := s.cans.getD n {}
/-- Storing it. -/
def State.setCan (s : State) (n : Nat) (c : Can) : State := { s with cans := s.cans.set n c }
/-- A transmit buffer. -/
def State.canBuf (s : State) (n b : Nat) : CanBuf := (s.can n).bufs.getD b {}

/-- Storing a buffer: HELD and TX_PEND follow it. -/
def State.setCanBuf (s : State) (n b : Nat) (x : CanBuf) : State :=
  let s1 := s.setCan n { s.can n with bufs := (s.can n).bufs.set b x }
  let p := s1.getF (F.CAN_STATUS_TX_PEND n)
  (s1.setFlag (F.CAN_TXBUF_HELD n b) (x.load.isSome || x.cancel)).setF (F.CAN_STATUS_TX_PEND n)
    (if x.frame.isSome then p ||| 2 ^ b else p - p / 2 ^ b % 2 * 2 ^ b)

/-- STATE of a buffer: 0 empty, 1 pending, 2 arbitrating, 3 arbitration won. -/
def State.bufState (s : State) (n b : Nat) : Nat := s.getF (F.CAN_TXBUF_STATE n b)

/-- RESULT of a buffer (R342). -/
def State.canResult (s : State) (n b r : Nat) : State :=
  let s1 := s.setF (F.CAN_TXBUF_RESULT n b) r
  match r with
  | 2 | 3 => s1.event (Ev.can n) 3
  | 4 => s1.incF (F.CAN_TXBUF_CANCEL_CNT n b)
  | 5 => (s1.incF (F.CAN_TXBUF_TOO_LATE_CNT n b)).event (Ev.can n) 4
  | 6 => s1.event (Ev.can n) 0
  | _ => s1

/-- Bytes of a DLC (R341; ISO 11898-1 for FD). -/
def dlcBytes (fdf : Bool) (dlc : Nat) : Nat :=
  if dlc ≤ 8 then dlc else if fdf then [12, 16, 20, 24, 32, 48, 64].getD (dlc - 9) 64 else 8

/-- The frame a CAN_TX effect loads (R341). -/
def canFrame (id ctl : Nat) (words : List Word) : CanMsg :=
  let fdf := bit ctl 4
  let dlc := ctl % 16
  let len := dlcBytes fdf dlc
  let bytes := words.flatMap (fun w => leBytes 4 w.toNat)
  { id := if bit id 29 then id % 2 ^ 29 else id % 2 ^ 11, ext := bit id 29, dlc := if fdf then dlc else min 8 dlc, fdf := fdf,
    brs := bit ctl 5, data := (bytes ++ List.replicate 64 0).take len }

/-- A load (R342). -/
def State.canLoad (s : State) (n b : Nat) (f : CanMsg) : State :=
  let x := s.canBuf n b
  match s.bufState n b with
  | 0 => (s.setCanBuf n b { frame := some f }).setF (F.CAN_TXBUF_STATE n b) 1
  | 1 =>
    if x.cancel then s
    else ((s.setCanBuf n b { frame := some f }).incF (F.CAN_TXBUF_REPLACE_CNT n b)).event (Ev.can n) 2
  | st => if x.cancel then s else s.setCanBuf n b { x with load := some f, late := decide (st = 3) }

/-- A cancel (R342): a held cancel also discards a held load. -/
def State.canCancel (s : State) (n b : Nat) : State :=
  let x := s.canBuf n b
  match s.bufState n b with
  | 0 => s.canResult n b 7
  | 1 => if x.cancel then s else ((s.setCanBuf n b {}).setF (F.CAN_TXBUF_STATE n b) 0).canResult n b 4
  | st => s.setCanBuf n b { x with load := none, cancel := true, late := decide (st = 3) || (x.cancel && x.late) }

/-- CAN_TX's effect (R341, R347): refused without FD_EN, in listen-only, or while CAN_0 has no claimed address. -/
def State.canTx (s : State) (n b id ctl : Nat) (words : List Word) : State :=
  if !s.flag (F.CAN_STATUS_ACTIVE n) || 4 ≤ n || 3 ≤ b then s
  else if s.mode = .shadow ∧ s.flag (F.CAN_CFG_SHADOW_TX n) = false then s
  else if (bit ctl 4 && !s.flag (F.CAN_CFG_FD_EN n)) || s.flag (F.CAN_STATUS_LISTEN n) ||
      (decide (n = 0) && s.flag (F.CAN_ISO_CFG_EN 0) && !s.flag (F.CAN_ISO_STAT_CLAIMED 0)) then s.canResult n b 6
  else if bit ctl 6 then s.canCancel n b
  else s.canLoad n b (canFrame id ctl words)

/-- Place in the order of R340: an 11-bit identifier ranks ahead of 29-bit ones with the same upper bits. -/
def CanMsg.rank (f : CanMsg) : Nat := if f.ext then 2 * f.id + 1 else f.id * 2 ^ 19

/-- The buffer that arbitrates next (R340). -/
def State.canNext (s : State) (n : Nat) : Option Nat :=
  let pend := (List.range 3).filter (fun b => decide (s.bufState n b = 1))
  if s.flag (F.CAN_CFG_TXORDER n) then pend.head?
  else
    let key := fun b => ((s.canBuf n b).frame.map CanMsg.rank).getD 0
    pend.find? (fun b => pend.all (fun c => decide (key b ≤ key c)))

/-- Whether a controller takes part in bus traffic. -/
def State.canRuns (s : State) (n : Nat) : Bool :=
  s.running && decide (n < 4) && s.flag (F.CAN_STATUS_ACTIVE n) && decide (s.getF (F.CAN_STATUS_STATE n) ≠ 2)

/-- CAN_ARBITRATION (R342, R347): the highest-ordered pending buffer sends SOF; with `won`, the buffer that arbitrates has sent
identifier and RTR bit without loss. [DESIGN CHOICE, log entry 36] -/
def State.canArbitrate (s : State) (n : Nat) (won : Bool) : State :=
  if !s.canRuns n || s.flag (F.CAN_STATUS_LISTEN n) then s
  else
    match (List.range 3).find? (fun b => decide (2 ≤ s.bufState n b)) with
    | some b =>
      let x := s.canBuf n b
      if won ∧ s.bufState n b = 2 then (s.when (x.cancel && !x.late) (fun s => s.setCanBuf n b { x with late := true })).setF (F.CAN_TXBUF_STATE n b) 3 else s
    | none =>
      if won then s
      else
        match s.canNext n with
        | some b =>
          let x := s.canBuf n b
          let addr := s.getF (F.CAN_ISO_STAT_ADDR 0)
          let f := if n = 0 ∧ s.flag (F.CAN_ISO_CFG_EN 0) = true then
              x.frame.map (fun f => { f with id := f.id / 256 * 256 + addr })
            else x.frame
          (((s.setCanBuf n b { x with frame := f }).setF (F.CAN_TXBUF_STATE n b) 2).setFlag (F.CAN_STATUS_TRANSMITTING n)
            true).setFlag (F.CAN_STATUS_SYNCED n) true
        | none => s

/-- The meaning of CAN_ARBITRATION (R342). -/
def execCanArbitration (n : Nat) (won : Bool) (s : State) : Host.Outcome State Fault Refusal := .next (s.canArbitrate n won)

/-- The error counts in CAN_ERR and the state they give (R339). [DESIGN CHOICE, log entry 36] -/
def State.canErr (s : State) (n tec rec' : Nat) : State :=
  let was := s.getF (F.CAN_STATUS_STATE n)
  let s1 := ((s.setCan n { s.can n with tec := tec, rec' := rec' }).setF (F.CAN_ERR_TEC n) (min 255 tec)).setF
    (F.CAN_ERR_REC n) (min 255 rec')
  if 256 ≤ tec then s1
  else if 128 ≤ tec ∨ 128 ≤ rec' then (s1.setF (F.CAN_STATUS_STATE n) 1).when (decide (was = 0)) (fun s => s.event (Ev.can n) 6)
  else s1.setF (F.CAN_STATUS_STATE n) 0

/-- Going bus-off (R339, R342): every buffer that holds a frame empties and reports ERROR. -/
def State.canBusOff (s : State) (n : Nat) : State :=
  let s1 := s.each (List.range 3) (fun s b =>
    s.when (decide (s.bufState n b ≠ 0)) (fun s => ((s.setCanBuf n b {}).setF (F.CAN_TXBUF_STATE n b) 0).canResult n b 3))
  (((((s1.setF (F.CAN_STATUS_STATE n) 2).setFlag (F.CAN_STATUS_TRANSMITTING n) false).setFlag (F.CAN_STATUS_SYNCED n) false).incF
    (F.CAN_CNT_COUNT_L n 3)).event (Ev.can n) 7).raise (Src.canBusOff n)

/-- After an attempt: what the buffer holds next, a held load pending. -/
def State.canThen (s : State) (n b : Nat) (next : Option CanMsg) : State :=
  (s.setCanBuf n b { frame := next }).setF (F.CAN_TXBUF_STATE n b) (if next.isSome then 1 else 0)

/-- An attempt fails by lost arbitration (2) or by an error (3) (R339, R342). -/
def State.canFailed (s : State) (n b r : Nat) : State :=
  let x := s.canBuf n b
  let oneShot := decide (s.getF (F.CAN_CFG_MODE n) = 1)
  if x.cancel ∧ x.late = false then (s.canThen n b none).canResult n b 4
  else if oneShot then (s.canThen n b x.load).canResult n b r
  else if x.cancel then (s.setCanBuf n b x).setF (F.CAN_TXBUF_STATE n b) 1
  else
    match x.load with
    | some f =>
      if x.late then (s.setCanBuf n b x).setF (F.CAN_TXBUF_STATE n b) 1
      else ((s.canThen n b (some f)).incF (F.CAN_TXBUF_REPLACE_CNT n b)).event (Ev.can n) 2
    | none => s.canThen n b x.frame

/-- CAN_FRAME_END (R339, R342): the attempt ends as sent (0), with arbitration lost (1) or in an error (2) of code `lec`. An error
passive transmitter does not count a missing acknowledge, nor does any a stuff error while it arbitrates.
[PRESUMED, log entry 63] -/
def State.canFrameEnd (s : State) (n how lec : Nat) : State :=
  match (List.range 3).find? (fun b => decide (2 ≤ s.bufState n b)) with
  | none => s
  | some b =>
    if !s.canRuns n then s
    else
      let x := s.canBuf n b
      let c := s.can n
      let s0 := s.setFlag (F.CAN_STATUS_TRANSMITTING n) false
      match how with
      | 0 =>
        let s1 := (s0.incF (F.CAN_CNT_COUNT_H n 0)).canErr n (c.tec - 1) c.rec'
        (s1.canThen n b (if x.cancel then none else x.load)).canResult n b (if x.cancel then 5 else 1)
      | 1 => (s0.incF (F.CAN_CNT_COUNT_H n 1)).canFailed n b 2
      | _ =>
        let s1 := (((s0.incF (F.CAN_CNT_COUNT_L n 1)).incF (F.CAN_CNT_COUNT_H n 3)).setF (F.CAN_ERR_LEC n) (lec % 7)).event
          (Ev.can n) 1
        let tec := if (lec % 7 = 3 ∧ s.getF (F.CAN_STATUS_STATE n) = 1) ∨ (lec % 7 = 1 ∧ s.bufState n b = 2) then c.tec else c.tec + 8
        let s2 := s1.canErr n tec c.rec'
        if 256 ≤ tec then s2.canBusOff n else s2.canFailed n b 3

/-- The meaning of CAN_FRAME_END (R342). -/
def execCanFrameEnd (n how lec : Nat) (s : State) : Host.Outcome State Fault Refusal := .next (s.canFrameEnd n how lec)

/-- BUS_OFF_RECOVERY (R339); an address claim that could not go out goes out now. [DESIGN CHOICE, log entry 36] -/
def State.canRecover (s : State) (n : Nat) : State :=
  if s.running ∧ n < 4 ∧ s.getF (F.CAN_STATUS_STATE n) = 2 ∧ s.flag (F.CAN_CFG_AUTO_RECOVER n) = true then
    ((s.canErr n 0 0).setFlag (F.CAN_STATUS_SYNCED n) true).refreshNet
  else s

/-- The meaning of BUS_OFF_RECOVERY (R339). -/
def execBusOffRecovery (n : Nat) (s : State) : Host.Outcome State Fault Refusal := .next (s.canRecover n)

/-! Reception (R344) -/

/-- The lowest matching filter. -/
def State.canFilter (s : State) (n : Nat) (f : CanMsg) : Option Nat :=
  (List.range 32).find? (fun i =>
    let m := s.getF (F.CAN_FILT_MASK_SEL n i)
    s.flag (F.CAN_FILT_EN n i) && decide (s.flag (F.CAN_MASK_IDE n m) = f.ext) &&
      decide ((f.id ^^^ s.getF (F.CAN_FILT_ID n i)) &&& s.getF (F.CAN_MASK_MASK n m) = 0))

/-- The receive error count after a good reception: one less, and from above 127 a value from 119 to 127 that ISO 11898-1 leaves open.
[PRESUMED, log entry 63] -/
def State.recGood (s : State) (n : Nat) : Nat × State :=
  let r := (s.can n).rec'
  if r ≤ 127 then (r - 1, s) else (119 + (Config.freeWord s.free).toNat % 9, { s with free := s.free + 1 })

/-- CAN_FRAME_RECEIVE (R344): a frame of another node with its SOF at Flue time t in ns; `err` is the code of the error in
which it ended, if it did, and whether ISO 11898-1 counts 8 for it in REC instead of 1.
[DESIGN CHOICE, log entry 36; PRESUMED, log entry 63] -/
def State.canReceive (s : State) (n : Nat) (f : CanMsg) (t : Nat) (err : Option (Nat × Bool)) : State :=
  if !s.canRuns n then s
  else
    let c := s.can n
    let s := s.setFlag (F.CAN_STATUS_SYNCED n) true
    match err with
    | some e =>
      (((s.setF (F.CAN_ERR_LEC n) (e.1 % 7)).incF (F.CAN_CNT_COUNT_H n 3)).event (Ev.can n) 1).canErr n c.tec
        (c.rec' + if e.2 then 8 else 1)
    | none =>
      let g := s.recGood n
      let s1 := (g.2.incF (F.CAN_CNT_COUNT_L n 0)).canErr n c.tec g.1
      match s.canFilter n f with
      | none => s1.incF (F.CAN_CNT_COUNT_L n 2)
      | some i =>
        let s2 := s1.spCan n f
        let q := (s2.can n).fifo
        if 64 ≤ q.length then (s2.incF (F.CAN_CNT_COUNT_H n 2)).event (Ev.can n) 5
        else
          ((s2.setCan n { s2.can n with fifo := q ++ [(f, t / 1000, i)] }).setF (F.CAN_RXF_STAT_DEPTH n) (q.length + 1)).peakF
            (F.CAN_RXF_STAT_PEAK n) (q.length + 1)

/-- The meaning of CAN_FRAME_RECEIVE (R344). -/
def execCanFrameReceive (n : Nat) (f : CanMsg) (t : Nat) (err : Option (Nat × Bool)) (s : State) : Host.Outcome State Fault Refusal :=
  .next (s.canReceive n f t err)

/-! ISOBUS (R346 to R348) -/

/-- The own NAME as 8 bytes. -/
def State.isoName (s : State) : Nat := s.getF (F.CAN_ISO_NAME_LO_NAME 0) + 2 ^ 32 * s.getF (F.CAN_ISO_NAME_HI_NAME 0)

/-- A contender with a NAME of higher priority claims the address `a` (R347 step 2): each address from 128 to 247 in turn, `a` itself
left out. [DESIGN CHOICE, log entries 36 and 39] -/
def State.isoContend (s : State) (a : Nat) : State :=
  let c := (s.can 0).nextAddr
  let x := if c = a then c + 1 else c
  let next := if bit s.isoName 63 ∧ x ≤ 247 then some x else none
  let s1 := (s.setFlag (F.CAN_ISO_STAT_CLAIMED 0) false).setF (F.CAN_ISO_STAT_ADDR 0) 0xFE
  match next with
  | some x => s1.isoClaim x (x + 1)
  | none =>
    let s2 := (s1.setFlag (F.CAN_ISO_STAT_CANNOT_CLAIM 0) true).isoSend 254
    s2.setCan 0 { s2.can 0 with claim := none }

/-- An address claim of another node (PGN 60928). -/
def State.isoOther (s : State) (f : CanMsg) : State :=
  let sa := f.id % 256
  let mine := match (s.can 0).claim with
    | some a => some a
    | none => if s.flag (F.CAN_ISO_STAT_CLAIMED 0) then some (s.getF (F.CAN_ISO_STAT_ADDR 0)) else none
  if mine = some sa then
    (if ofLe (f.data.take 8) < s.isoName then s.isoContend sa else s.isoSend sa)
  else s

/-- A request for address claimed (PGN 59904 for 60928), to the own or the global address. -/
def State.isoRequest (s : State) (f : CanMsg) : State :=
  let addr := s.getF (F.CAN_ISO_STAT_ADDR 0)
  let da := f.id / 256 % 256
  if ofLe (f.data.take 3) = 60928 ∧ (da = 255 ∨ da = addr) then
    (if s.flag (F.CAN_ISO_STAT_CLAIMED 0) then s.isoSend addr
     else if s.flag (F.CAN_ISO_STAT_CANNOT_CLAIM 0) then s.isoSend 254 else s)
  else s

/-- The 16 section states that a condensed work state gives (R348): code 01 is on. -/
def condensed (v : Nat) : Nat := maskOf ((List.range 16).map (fun k => decide (v / 4 ^ k % 4 = 1)))

/-- A process data message (R348). -/
def State.isoProcess (s : State) (f : CanMsg) : State :=
  let b := fun k => (f.data.getD k 0).toNat
  let ddi := b 2 + 256 * b 3
  if f.id / 256 % 256 = s.getF (F.CAN_ISO_CFG_SC_DEST 0) ∧ b 0 % 16 = 3 ∧
      b 0 / 16 + 16 * b 1 = s.getF (F.CAN_ISO_CFG_SC_ELEMENT 0) ∧ 290 ≤ ddi ∧ ddi ≤ 293 ∧ 8 ≤ f.data.length then
    let m := 2 ^ (16 * (ddi - 290))
    let old := (s.can 0).sections
    let new := old - old / m % 65536 * m + condensed (ofLe (f.data.drop 4)) * m
    ((s.setCan 0 { s.can 0 with sections := new }).setFlag (F.CAN_ISO_STAT_SC_SEEN 0) true).setFlag F.SEC_STATUS_ISO_STALE false
  else s

/-- A frame drained from CAN_0 (R344, R346): the PGN of a 29-bit identifier, its destination byte left out for PDU 1. -/
def State.isoFrame (s : State) (f : CanMsg) : State :=
  if !f.ext then s
  else
    match f.id / 2 ^ 16 % 2 ^ 10 with
    | 0xEE => s.when s.mode.isLead (fun s => s.isoOther f)
    | 0xEA => s.when s.mode.isLead (fun s => s.isoRequest f)
    | 0xCC => s.isoProcess f
    | _ => s

/-- Draining every FIFO at a tick start (R344). [DESIGN CHOICE, log entry 36] -/
def State.canDrain (s : State) : State :=
  let q := (s.can 0).fifo
  let s1 := s.each (List.range 4) (fun s n =>
    s.when (!(s.can n).fifo.isEmpty) (fun s => (s.setCan n { s.can n with fifo := [] }).setF (F.CAN_RXF_STAT_DEPTH n) 0))
  let s2 := s1.when (!(s1.can 0).iso.isEmpty) (fun s => s.setCan 0 { s.can 0 with iso := [] })
  s2.when (s2.flag (F.CAN_ISO_CFG_EN 0)) (fun s => s.each q (fun s x => s.isoFrame x.1))

/-- CLAIM_STANDS (R347 step 3). -/
def State.claimStands (s : State) : State :=
  match (s.can 0).claim with
  | some a =>
    if s.running ∧ s.mode.isLead = true then
      ((s.setCan 0 { s.can 0 with claim := none, nextAddr := 128 }).setFlag (F.CAN_ISO_STAT_CLAIMED 0) true).setF (F.CAN_ISO_STAT_ADDR 0) a
    else s
  | none => s

/-- The meaning of CLAIM_STANDS (R347). -/
def execClaimStands (s : State) : Host.Outcome State Fault Refusal := .next s.claimStands

/-- CAN_STATUS bits [15:0] as intake values (R345). -/
def State.canIntake (s : State) : List (Nat × Word × Bool) :=
  (List.range 4).map (fun n => (0x9C + n, w32 ((s.reg (F.CAN_STATUS_ACTIVE n).addr).toNat % 65536), false))

end Sys2Proof.Machine
end

