-- ==== Sys2Proof/Machine/Ethernet.lean ====
section
/-!
DEFINITION. The Ethernet MACs (R349 to R355): reception tests, pause, ARP, ICMP, ETH_TX and PTP. Offsets within Ethernet,
ARP, IPv4, UDP and PTP headers are those of their standards (log entry 30).
-/
namespace Sys2Proof.Machine

open Sys2Proof

/-- A port's hidden state. -/
def State.eth (s : State) (p : Nat) : Eth := s.eths.getD p {}
/-- Storing it. -/
def State.setEth (s : State) (p : Nat) (e : Eth) : State := { s with eths := s.eths.set p e }

/-- The port's MAC address, 6 bytes in order of transmission (R359). -/
def State.macOf (s : State) (p : Nat) : List Byte := beBytes 2 (s.getF (F.ETH_MAC_HI_ADDR p)) ++ beBytes 4 (s.getF (F.ETH_MAC_LO_ADDR p))

/-! Transmission (R352) -/

/-- Priority of a frame: pause frames ahead of every queue, then PTP, tile feed, ETH_TX, ARP and ICMP (R351, R352). -/
def EthOut.prio : EthOut → Nat
  | .pause _ => 0
  | .sync _ _ | .followUp _ _ _ | .announce _ _ _ | .delayResp _ _ _ _ => 1
  | .udp feed _ _ _ _ _ => if feed then 2 else 3
  | _ => 4

/-- Sending a frame on a port; a received pause holds back every frame but pause frames. -/
def State.ethSend (s : State) (p : Nat) (o : EthOut) : State :=
  let e := s.eth p
  if !s.flag (F.ETH_STATUS_ACTIVE p) then s
  else if s.flag (F.ETH_STATUS_PAUSED p) ∧ o.prio ≠ 0 then
    (s.setEth p { e with held := e.held ++ [o] }).incF (F.ETH_TX_DEFER_CNT_COUNT p)
  else (s.setEth p { e with sent := e.sent ++ [o] }).incF (F.ETH_TX_OK_CNT_COUNT p)

/-- The transmitter resumes: held frames leave in strict priority, each queue first in first out. -/
def State.ethResume (s : State) (p : Nat) : State :=
  let e := s.eth p
  let l := (List.range 5).flatMap (fun k => e.held.filter (fun o => decide (o.prio = k)))
  (((s.setEth p { e with held := [], sent := e.sent ++ l }).addF (F.ETH_TX_OK_CNT_COUNT p) l.length).setFlag
    (F.ETH_STATUS_PAUSED p) false)

/-- The meaning of PAUSE_EXPIRY (R352). -/
def execPauseExpiry (p : Nat) (s : State) : Host.Outcome State Fault Refusal :=
  .next (if s.running ∧ p < 2 ∧ s.flag (F.ETH_STATUS_PAUSED p) = true then s.ethResume p else s)

/-! Pause sent (R351) -/

/-- Sending a pause frame, on a full-duplex link with PAUSE_TX. -/
def State.pauseSend (s : State) (p quanta : Nat) : State :=
  if !s.flag (F.ETH_PHY_DUPLEX p) || !s.flag (F.ETH_CFG_PAUSE_TX p) then s
  else ((s.ethSend p (.pause quanta)).incF (F.ETH_PAUSE_TX_CNT_COUNT p)).event (Ev.eth p) 5

/-- The fill of a port's receive buffer, with DEPTH, PEAK and the high-water mark. -/
def State.setFill (s : State) (p n : Nat) : State :=
  let kb := ceilDiv n 1024
  let s1 := ((s.setEth p { s.eth p with fill := n }).setF (F.ETH_RXBUF_DEPTH p) (min 128 kb)).peakF (F.ETH_RXBUF_PEAK p) (min 128 kb)
  s1.when (decide (1024 * s.getF (F.ETH_PAUSE_HIGH_WATER p) ≤ n) && !s.flag (F.ETH_STATUS_PAUSING p)) (fun s =>
      (s.setFlag (F.ETH_STATUS_PAUSING p) true).pauseSend p (s.getF (F.ETH_PAUSE_QUANTA p)))

/-- PAUSE_REPEAT (R351 step 2). -/
def State.pauseRepeat (s : State) (p : Nat) : State :=
  if s.running ∧ p < 2 ∧ s.flag (F.ETH_STATUS_PAUSING p) = true ∧ 1024 * s.getF (F.ETH_PAUSE_LOW_WATER p) ≤ (s.eth p).fill then
    s.pauseSend p (s.getF (F.ETH_PAUSE_QUANTA p))
  else s

/-- The meaning of PAUSE_REPEAT (R351). -/
def execPauseRepeat (p : Nat) (s : State) : Host.Outcome State Fault Refusal := .next (s.pauseRepeat p)

/-- LOW_WATER (R351 step 3). -/
def State.lowWater (s : State) (p : Nat) : State :=
  if s.running ∧ p < 2 ∧ s.flag (F.ETH_STATUS_PAUSING p) = true ∧ (s.eth p).fill < 1024 * s.getF (F.ETH_PAUSE_LOW_WATER p) then
    (s.setFlag (F.ETH_STATUS_PAUSING p) false).pauseSend p 0
  else s

/-- The meaning of LOW_WATER (R351). -/
def execLowWater (p : Nat) (s : State) : Host.Outcome State Fault Refusal := .next (s.lowWater p)

/-! ARP (R353) -/

/-- The entry of an address. -/
def State.arpFind (s : State) (p ip : Nat) : Option Arp :=
  ((s.eth p).arps.filterMap id).find? (fun a => decide (a.ip = ip))

/-- The place where an address is kept: its entry, else a free one, else the oldest. -/
def State.arpPlace (s : State) (p ip : Nat) : Nat :=
  let l := (s.eth p).arps
  match l.findIdx? (fun a => decide (a.map (fun a => a.ip) = some ip)), l.findIdx? (fun a => a.isNone) with
  | some i, _ => i
  | none, some i => i
  | none, none =>
    let stamps := l.map (fun a => (a.map (fun a => a.stamp)).getD 0)
    let low := stamps.foldl min (stamps.headD 0)
    (stamps.findIdx? (fun x => decide (x = low))).getD 0

/-- Learning an address. -/
def State.arpLearn (s : State) (p ip : Nat) (mac : List Byte) : State :=
  let e := s.eth p
  s.setEth p { e with arps := e.arps.set (s.arpPlace p ip) (some ⟨ip, mac, s.sys.tick⟩) }

/-- The meaning of ARP_EXPIRY (R353). -/
def execArpExpiry (p entry : Nat) (s : State) : Host.Outcome State Fault Refusal :=
  .next (if s.running ∧ p < 2 ∧ entry < 16 then s.setEth p { s.eth p with arps := (s.eth p).arps.set entry none } else s)

/-- The next hop towards an address: itself in the own subnet, else GATEWAY. -/
def State.nextHop (s : State) (p ip : Nat) : Nat :=
  let m := s.getF (F.ETH_NETMASK_ADDR p)
  if ip &&& m = s.getF (F.ETH_IP_ADDR p) &&& m then ip else s.getF (F.ETH_GATEWAY_ADDR p)

/-- Asking for an address, at most once per 100 ms (3,200 ticks). -/
def State.arpAsk (s : State) (p ip : Nat) : State :=
  let e := s.eth p
  let recent := e.asked.filter (fun x => decide (s.sys.tick < x.2 + 3200))
  if recent.any (fun x => decide (x.1 = ip)) then s.setEth p { e with asked := recent }
  else (s.setEth p { e with asked := recent ++ [(ip, s.sys.tick)] }).ethSend p (.arpRequest ip)

/-- Sending a datagram from MAP_CFG.UDP_PORT to the next hop's MAC; without an ARP entry it is discarded, the miss counts and the
address is asked for. The tile feed sends the same way. [DEDUCED, log entry 64] -/
def State.udpSend (s : State) (p : Nat) (feed : Bool) (ip port : Nat) (data : List Byte) : State :=
  match s.arpFind p (s.nextHop p ip) with
  | some a => s.ethSend p (.udp feed ip port (s.getF F.MAP_CFG_UDP_PORT) a.mac data)
  | none => ((s.incF (F.ETH_ARP_MISS_CNT_COUNT p)).event (Ev.eth p) 4).arpAsk p (s.nextHop p ip)

/-- ETH_TX's effect (R353): one datagram through descriptor m. -/
def State.ethTx (s : State) (p m : Nat) (words : List Word) : State :=
  let ip := s.getF (F.ETH_TXD_IP_ADDR p m)
  if 2 ≤ p || 16 ≤ m || !s.flag (F.ETH_TXD_PORT_EN p m) || (decide (s.mode = .shadow) && !s.flag (F.ETH_TXD_PORT_SHADOW_TX p m))
  then s
  else s.udpSend p false ip (s.getF (F.ETH_TXD_PORT_DEST_PORT p m)) (words.flatMap (fun w => leBytes 4 w.toNat))

/-! Reception (R350) -/

/-- A big-endian field of a frame. -/
def beAt (b : List Byte) (o n : Nat) : Nat := ofBe ((b.drop o).take n)

/-- One's complement sum of 16-bit words, an odd last byte padded with 0. -/
def onesSum : List Byte → Nat
  | [] => 0
  | [a] => a.toNat * 256
  | a :: b :: t => a.toNat * 256 + b.toNat + onesSum t

/-- Folding carries: 0xFFFF where a checksum holds. -/
def foldSum (n : Nat) : Nat :=
  let a := n % 65536 + n / 65536
  let b := a % 65536 + a / 65536
  b % 65536 + b / 65536

/-- Where the EtherType lies: behind the addresses, or behind a VLAN tag. [PRESUMED, log entry 30] -/
def etherOff (b : List Byte) : Nat := if beAt b 12 2 = 0x8100 then 16 else 12

/-- The UDP checksum test: good or 0. [PRESUMED, log entry 30] -/
def udpSumOk (ip : List Byte) : Bool :=
  let len := beAt ip 2 2 - 20
  let seg := (ip.drop 20).take len
  decide (beAt seg 6 2 = 0) ||
    decide (foldSum (onesSum ((ip.drop 12).take 8) + 17 + len + onesSum seg) = 65535)

/-- Step 6 for IPv4. -/
def State.ipOk (s : State) (p : Nat) (ip : List Byte) : Bool :=
  let own := s.getF (F.ETH_IP_ADDR p)
  let mask := s.getF (F.ETH_NETMASK_ADDR p)
  let dst := beAt ip 16 4
  let total := beAt ip 2 2
  decide (20 ≤ ip.length) && decide (beAt ip 0 1 = 0x45) && decide (foldSum (onesSum (ip.take 20)) = 65535) &&
    decide (beAt ip 6 2 % 16384 = 0) && decide (20 ≤ total) && decide (total ≤ ip.length) &&
    (decide (dst = own) || decide (dst = 0xFFFFFFFF) || decide (dst = (own &&& mask) + (0xFFFFFFFF - mask)) ||
      decide (dst = 0xE0000181)) &&
    (match beAt ip 9 1 with
     | 1 => decide (beAt ip 20 1 = 8) && s.flag (F.ETH_CFG_ICMP_EN p)
     | 17 => decide (28 ≤ total) && udpSumOk ip
     | _ => false)

/-- The first test of R350 that a frame fails before step 8, 0 where none does. [PRESUMED, log entry 30] -/
def State.ethReason (s : State) (p : Nat) (fcs : Bool) (b : List Byte) : Nat :=
  let tagged := decide (beAt b 12 2 = 0x8100)
  let len := b.length + 4
  let dst := b.take 6
  let ty := beAt b (etherOff b) 2
  let body := b.drop (etherOff b + 2)
  let ptp := s.flag (F.ETH_PTP_CFG_EN p)
  let l2 := s.flag (F.ETH_PTP_CFG_L2 p)
  if !fcs then 1
  else if len < 64 ∨ (if tagged then 1522 else 1518) < len then 2
  else if !(decide (dst = s.macOf p) || [0xFFFFFFFFFFFF, 0x0180C2000001, 0x011B19000000, 0x01005E000181].contains (ofBe dst)) then 3
  else if tagged && !(s.flag (F.ETH_VLAN_EN p) && decide (beAt b 14 2 % 4096 = s.getF (F.ETH_VLAN_VID p))) then 4
  else if !(decide (ty = 0x0806) || decide (ty = 0x0800) || (decide (ty = 0x8808) && decide (beAt body 0 2 = 1)) ||
      (decide (ty = 0x88F7) && l2)) then 5
  else if ty = 0x0800 then
    if !s.ipOk p body then 6
    else if beAt body 9 1 = 17 then
      let port := beAt body 22 2
      if (port = s.getF F.MAP_CFG_UDP_PORT ∧ bit (s.getF F.MAP_CFG_PORT_MASK) p = true) ∨
          ((port = 319 ∨ port = 320) ∧ ptp = true ∧ l2 = false) then 0 else 7
    else 0
  else 0

/-- The drop counter of a reason. -/
def dropCounter (p r : Nat) : Fld :=
  match r with
  | 1 => F.ETH_DROP_CRC_CNT_COUNT p
  | 2 => F.ETH_DROP_LEN_CNT_COUNT p
  | 3 => F.ETH_DROP_MAC_CNT_COUNT p
  | 4 => F.ETH_DROP_VLAN_CNT_COUNT p
  | 5 => F.ETH_DROP_ETYPE_CNT_COUNT p
  | 6 => F.ETH_DROP_IP_CNT_COUNT p
  | 7 => F.ETH_DROP_PORT_CNT_COUNT p
  | _ => F.ETH_DROP_FULL_CNT_COUNT p

/-- The event bit of a reason: CRC_SEEN, LEN_SEEN, FULL_SEEN, else CLASS_DROP_SEEN. -/
def dropEvent (r : Nat) : Nat :=
  match r with
  | 1 => 2 | 2 => 1 | 8 => 3 | _ => 0

/-- Dropping a frame (R350). -/
def State.ethDrop (s : State) (p r : Nat) (b : List Byte) : State :=
  (((s.incF (dropCounter p r)).setF (F.ETH_LAST_DROP_ETYPE p) (beAt b (etherOff b) 2)).setF (F.ETH_LAST_DROP_REASON p) r).event
    (Ev.eth p) (dropEvent r)

/-- A received pause frame (R352). -/
def State.pauseReceived (s : State) (p : Nat) (body : List Byte) : State :=
  let s1 := (s.incF (F.ETH_PAUSE_RX_CNT_COUNT p)).event (Ev.eth p) 6
  if s.flag (F.ETH_CFG_PAUSE_RX p) && s.flag (F.ETH_PHY_DUPLEX p) then
    (if beAt body 2 2 = 0 then s1.ethResume p else s1.setFlag (F.ETH_STATUS_PAUSED p) true)
  else s1

/-- An ARP packet (R350, R353): a request for the own address is learned from and answered, a reply is learned from.
[PRESUMED, log entry 30] -/
def State.arpReceived (s : State) (p : Nat) (body : List Byte) : State :=
  let op := beAt body 6 2
  let mac := (body.drop 8).take 6
  let ip := beAt body 14 4
  let own := decide (beAt body 24 4 = s.getF (F.ETH_IP_ADDR p))
  let s1 := s.incF (F.ETH_ARP_RX_CNT_COUNT p)
  match op with
  | 1 => if own then (s1.arpLearn p ip mac).ethSend p (.arpReply ip mac) else s1
  | 2 => s1.arpLearn p ip mac
  | _ => s1

/-! PTP messages (R354, R355) -/

/-- What the port's PTP messages carry; the clock identity is the MAC address with 0xFF 0xFE in its middle.
[PRESUMED, log entry 30] -/
def State.ptpHead (s : State) (p : Nat) : PtpHead :=
  { domain := s.getF (F.ETH_PTP_CFG_DOMAIN p), clock := (s.macOf p).take 3 ++ [0xFF, 0xFE] ++ (s.macOf p).drop 3,
    l2 := s.flag (F.ETH_PTP_CFG_L2 p) }

/-- A time-stamp as the MAC takes it at Flue time t: whole multiples of the resolution at the link's speed.
[DEDUCED, log entry 64] -/
def State.ptpStamp (s : State) (p t : Nat) : Nat :=
  let r := [400, 40, 8].getD (s.getF (F.ETH_PHY_SPEED p)) 8
  t / r * r

/-- Flue time in ns as seconds and nanoseconds. -/
def ptpTime (t : Nat) : PtpTime := ⟨t / 1000000000, t % 1000000000⟩

/-- A PTP message with ingress time t in ns (R354, R355): a Delay_Req of the own domain is answered. [PRESUMED, log entry 30] -/
def State.ptpReceived (s : State) (p t : Nat) (m : List Byte) : State :=
  if s.flag (F.ETH_STATUS_PTP_MASTER p) ∧ beAt m 0 1 % 16 = 1 ∧ beAt m 4 1 = s.getF (F.ETH_PTP_CFG_DOMAIN p) then
    (s.incF (F.ETH_PTP_DRESP_CNT_COUNT p)).ethSend p
      (.delayResp (s.ptpHead p) ((m.drop 20).take 10) (beAt m 30 2)
        (ptpTime (s.ptpStamp p t - 4 * s.getF (F.ETH_PTP_CFG_RX_LAT p))))
  else s

/-- ETH_FRAME_RECEIVE (R350): the frame from the destination address to the end of its payload, its FCS good or not, Flue time
in ns at its start. -/
def State.ethReceive (s : State) (p : Nat) (b : List Byte) (fcs : Bool) (t : Nat) : State :=
  if !s.running || 2 ≤ p || !s.flag (F.ETH_STATUS_ACTIVE p) then s
  else
    let r := s.ethReason p fcs b
    if r ≠ 0 then s.ethDrop p r b
    else
      let ty := beAt b (etherOff b) 2
      let body := b.drop (etherOff b + 2)
      let ok := s.incF (F.ETH_RX_OK_CNT_COUNT p)
      let e := s.eth p
      if ty = 0x8808 then ok.pauseReceived p body
      else if 131072 < e.fill + b.length then s.ethDrop p 8 b
      else if ty = 0x0806 then ok.arpReceived p body
      else if ty = 0x88F7 then ok.ptpReceived p t body
      else if beAt body 9 1 = 1 then
        match e.echo with
        | some k =>
          if s.sys.tick < k + 32 then s.ethDrop p 6 b
          else ((ok.setEth p { e with echo := some s.sys.tick }).incF (F.ETH_ICMP_CNT_COUNT p)).ethSend p
            (.echoReply (beAt body 12 4) ((body.take (beAt body 2 2)).drop 24))
        | none =>
          ((ok.setEth p { e with echo := some s.sys.tick }).incF (F.ETH_ICMP_CNT_COUNT p)).ethSend p
            (.echoReply (beAt body 12 4) ((body.take (beAt body 2 2)).drop 24))
      else
        let data := ((body.drop 20).take (beAt body 24 2)).drop 8
        if beAt body 22 2 = s.getF F.MAP_CFG_UDP_PORT ∧ bit (s.getF F.MAP_CFG_PORT_MASK) p = true then
          ({ ok with feedq := ok.feedq ++ [⟨p, beAt body 12 4, beAt body 20 2, (b.drop 6).take 6, data, t, b.length⟩] }
            : State).setFill p (e.fill + b.length)
        else ok.ptpReceived p t data

/-- The meaning of ETH_FRAME_RECEIVE (R350). -/
def execEthFrameReceive (p : Nat) (frame : List Byte) (fcs : Bool) (t : Nat) (s : State) : Host.Outcome State Fault Refusal :=
  .next (s.ethReceive p frame fcs t)

/-! PHY and PTP (R349, R355) -/

/-- Link, SPEED, DUPLEX and pause agreement from Clause 22 registers 0, 1, 4, 5, 9 and 10 (IEEE 802.3, log entry 30).
[PRESUMED, log entry 30] -/
def phyResolve (r : List Nat) : Bool × Nat × Bool × Bool :=
  let g := fun i => r.getD i 0
  let common := g 2 &&& g 3
  let giga := g 4 &&& (g 5 / 4)
  if bit (g 0) 12 then
    let sd := if bit giga 9 then (2, true) else if bit giga 8 then (2, false) else if bit common 8 then (1, true)
      else if bit common 7 then (1, false) else if bit common 6 then (0, true) else (0, false)
    (bit (g 1) 2, sd.1, sd.2, bit common 10)
  else (bit (g 1) 2, if bit (g 0) 6 then 2 else if bit (g 0) 13 then 1 else 0, bit (g 0) 8, false)

/-- PHY_POLL (R349): the six registers read; a loss of link raises ETH_LINK. -/
def State.phyPoll (s : State) (p : Nat) (regs : List Nat) : State :=
  if s.running ∧ s.sys.joined = true ∧ p < 2 ∧ s.flag (F.ETH_CFG_ENABLE p) = true then
    let (link, speed, duplex, pause) := phyResolve regs
    let was := s.flag (F.ETH_PHY_LINK p)
    let s1 := ((((s.setFlag (F.ETH_PHY_LINK p) link).setF (F.ETH_PHY_SPEED p) speed).setFlag (F.ETH_PHY_DUPLEX p) duplex).setFlag
      (F.ETH_PHY_PAUSE_OK p) pause).refreshEth p
    s1.when (was && !link) (fun s => (s.event (Ev.eth p) 7).raise (Src.ethLink p))
  else s

/-- The meaning of PHY_POLL (R349). -/
def execPhyPoll (p : Nat) (regs : List Nat) (s : State) : Host.Outcome State Fault Refusal := .next (s.phyPoll p regs)

/-- PTP_SYNC (R354, R355): a Sync leaves with its first bit behind the delimiter at Flue time t in ns; Follow_Up carries the
time-stamp. -/
def State.ptpSync (s : State) (p t : Nat) : State :=
  if s.running ∧ p < 2 ∧ s.flag (F.ETH_STATUS_PTP_MASTER p) = true then
    let seq := (s.getF (F.ETH_PTP_STAT_SYNC_SEQ p) + 1) % 65536
    let stamp := s.ptpStamp p t + 4 * s.getF (F.ETH_PTP_CFG_TX_LAT p)
    (((s.setF (F.ETH_PTP_STAT_SYNC_SEQ p) seq).incF (F.ETH_PTP_SYNC_CNT_COUNT p)).ethSend p (.sync (s.ptpHead p) seq)).ethSend p
      (.followUp (s.ptpHead p) seq (ptpTime stamp))
  else s

/-- The meaning of PTP_SYNC (R355). -/
def execPtpSync (p t : Nat) (s : State) : Host.Outcome State Fault Refusal := .next (s.ptpSync p t)

/-- The meaning of ANNOUNCE (R355): timescale ARB, clock class 248. -/
def execAnnounce (p : Nat) (s : State) : Host.Outcome State Fault Refusal :=
  .next (if s.running ∧ p < 2 ∧ s.flag (F.ETH_STATUS_PTP_MASTER p) = true then
    s.ethSend p (.announce (s.ptpHead p) 248 false) else s)

/-- A tick start: the list of frames sent begins anew. -/
def State.ethTick (s : State) : State :=
  s.each [0, 1] (fun s p => s.when (!(s.eth p).sent.isEmpty) (fun s => s.setEth p { s.eth p with sent := [] }))

/-- ETH_STATUS bits [15:0] as intake values (R359). -/
def State.ethIntake (s : State) : List (Nat × Word × Bool) :=
  [0, 1].map (fun p => (0xA0 + p, w32 ((s.reg (F.ETH_STATUS_ACTIVE p).addr).toNat % 65536), false))

end Sys2Proof.Machine
end

