-- ==== Sys2Proof/Machine/Feed.lean ====
section
/-!
DEFINITION. The map store (R136 to R142) and the tile feed (R143 to R151). A feed datagram waits in its receive buffer
(`feedq`) until the command of its type takes it.
-/
namespace Sys2Proof.Machine

open Sys2Proof

/-! The field grid and the store (R137 to R141) -/

/-- The tile and cell of a position in mm: key and byte offset (R137). A column or row that does not fit in signed 16 bits stays
an integer of its own in the key, and a message carries its low 16 bits. [DESIGN CHOICE, log entry 38] -/
def tileOf (layer : Nat) (x y : Int) : TileKey × Nat :=
  (⟨layer, x / 3200, y / 3200⟩, (64 * (y % 3200 / 50) + x % 3200 / 50).toNat)

/-- The entry of a key. -/
def State.mapFind (s : State) (k : TileKey) : Option MapEnt := s.map.dir.find? (fun e => decide (e.key = k))

/-- First address of a slot: slot s is memory tile 384 + s (R139). -/
def slotAddr (slot : Nat) : Nat := tileBase + (384 + slot) * 4096

/-- The byte a lookup reads (R139): UNKNOWN and missing tiles read 0x00 in layer 0; in layer 1 an UNKNOWN tile reads 0xF0.
So does, in the slot in which it failed, a tile that verification found lost (R92). -/
def State.cellAt (s : State) (k : TileKey) (off : Nat) : Nat :=
  match s.mapFind k with
  | some e =>
    if e.st = 3 ∨ s.map.unread.contains k = true then (if k.layer = 1 then 0xF0 else 0)
    else (Mem.byte 0 s.tiles (slotAddr e.slot + off)).toNat
  | none => 0

/-- Storing an entry: the directory stays in slot order. -/
def putEnt (e : MapEnt) : List MapEnt → List MapEnt
  | [] => [e]
  | f :: t => if e.slot < f.slot then e :: f :: t else if e.slot = f.slot then e :: t else f :: putEnt e t

/-- The present T16 slot number, for last use. -/
def State.t16 (s : State) : Nat := s.flu.cycle / 4

/-- Whether a tile is pinned. -/
def State.isPinned (s : State) (k : TileKey) : Bool := s.map.pins.any (fun p => decide (p.1 = k))

/-! Sending (R143, R144) -/

/-- A message of the feed: 16-byte header and payload (R144). -/
def feedBytes (ty seq session : Nat) (payload : List Byte) : List Byte :=
  let h := [0x54, 0x46, 0x01] ++ leBytes 1 ty ++ leBytes 4 seq ++ leBytes 2 payload.length ++ leBytes 2 session
  h ++ leBytes 4 (crc32c (h ++ [0, 0, 0, 0] ++ payload)) ++ payload

/-- Storing the session. -/
def State.setSession (s : State) (x : Option Session) : State := { s with map := { s.map with session := x } }

/-- Sending a message on every port of the session that PORT_MASK names (R143). -/
def State.feedSend (s : State) (ty : Nat) (payload : List Byte) : State :=
  match s.map.session with
  | none => s
  | some x =>
    let b := feedBytes ty x.tx x.id payload
    (s.setSession (some { x with tx := (x.tx + 1) % 2 ^ 32 })).each
      (x.ports.filter (fun p => bit (s.getF F.MAP_CFG_PORT_MASK) p.1)) (fun s p => s.udpSend p.1 true p.2.1 p.2.2 b)

/-- A tile key of 8 bytes (R146). -/
def TileKey.bytes (k : TileKey) : List Byte :=
  leBytes 1 k.layer ++ [0, 0, 0] ++ leBytes 2 (ofInt 16 k.tx) ++ leBytes 2 (ofInt 16 k.ty)

/-- Reading one. -/
def TileKey.parse (b : List Byte) : TileKey :=
  ⟨(b.getD 0 0).toNat, toInt 16 (ofLe ((b.drop 4).take 2)), toInt 16 (ofLe ((b.drop 6).take 2))⟩

/-- DETAIL of a tile error: TX in [15:0], TY in [31:16] (R149). -/
def TileKey.detail (k : TileKey) : Nat := ofInt 16 k.tx + 65536 * ofInt 16 k.ty

/-- An error (R149): counted, recorded, and sent at most once per code and 10 ms (320 ticks). -/
def State.feedError (s : State) (code seq detail : Nat) : State :=
  let s1 := ((s.incF F.MAP_ERR_CNT_COUNT).setF F.MAP_LAST_ERR_REF_SEQ seq).setF F.MAP_LAST_ERR_CODE code
  let recent := s.map.errs.filter (fun e => decide (s.sys.tick < e.2 + 320))
  if code < 3 || recent.any (fun e => decide (e.1 = code)) || s.map.session.isNone then s1
  else
    (({ s1 with map := { s1.map with errs := recent ++ [(code, s.sys.tick)] } } : State).feedSend 0x8F
      (leBytes 1 code ++ [0, 0, 0] ++ leBytes 4 seq ++ leBytes 4 detail))

/-- Sending a DIRTY tile back in four TILE_BACK messages (R142). The tile counts, a session being open or not.
[DESIGN CHOICE, log entry 38] -/
def State.sendBack (s : State) (e : MapEnt) : State :=
  let s1 := s.each [0, 1, 2, 3] (fun s f =>
    s.feedSend 0x84 (leBytes 1 e.key.layer ++ leBytes 1 f ++ leBytes 2 e.ver ++ leBytes 2 (ofInt 16 e.key.tx) ++
      leBytes 2 (ofInt 16 e.key.ty) ++ List.replicate 8 0 ++ Mem.read 0 s.tiles (slotAddr e.slot + 1024 * f) 1024))
  s1.incF F.MAP_TILE_BACK_CNT_COUNT

/-- Freeing an entry, after any send-back. [DESIGN CHOICE, log entry 38] -/
def State.mapFree (s : State) (k : TileKey) : State :=
  match s.mapFind k with
  | none => s
  | some e =>
    let s1 := s.when (decide (e.st = 2)) (fun s => s.sendBack e)
    { s1 with map := { s1.map with dir := s1.map.dir.filter (fun f => decide (f.slot ≠ e.slot)) } }

/-- A slot for a new tile (R140): the lowest free one, else the unpinned one with the oldest last use, the lowest among
equals; a DIRTY tile goes back first. None where every slot is pinned, or holds a tile of the keys `keep`. -/
def State.mapSlotBut (s : State) (keep : List TileKey) : Option (Nat × State) :=
  match (List.range 1024).find? (fun n => !s.map.dir.any (fun e => decide (e.slot = n)) && !s.map.removed.contains n) with
  | some n => some (n, s)
  | none =>
    let cand := s.map.dir.filter (fun e => !s.isPinned e.key && !keep.contains e.key)
    match cand.find? (fun e => cand.all (fun f => decide (e.use ≤ f.use))) with
    | some e => some (e.slot, (s.mapFree e.key).incF F.MAP_EVICT_CNT_COUNT)
    | none => none

/-- A slot for a new tile that leaves no tile of its own out of account. -/
def State.mapSlot (s : State) : Option (Nat × State) := s.mapSlotBut []

/-- Writing an entry. [DESIGN CHOICE, log entry 38] -/
def State.mapPut (s : State) (e : MapEnt) : State := { s with map := { s.map with dir := putEnt e s.map.dir } }

/-- Making a key's entry UNKNOWN, or creating it so (R146, R141). Where every slot is pinned no entry is created and no STORE_FULL
raised, for no tile is refused: without an entry layer 0 reads the same (R140). An entry that is UNKNOWN already counts again.
[DESIGN CHOICE, log entry 38] -/
def State.mapUnknown (s : State) (k : TileKey) : State :=
  match s.mapFind k with
  | some e => (s.mapPut { e with st := 3 }).incF F.MAP_UNKNOWN_CNT_COUNT
  | none =>
    match s.mapSlot with
    | some (n, s1) => (s1.mapPut ⟨n, k, 0, 3, s.t16, s.sys.tick⟩).incF F.MAP_UNKNOWN_CNT_COUNT
    | none => s

/-- Whether a version is newer (R141). [DESIGN CHOICE, log entry 38] -/
def verNewer (new old : Nat) : Bool := let d := (new + 65536 - old % 65536) % 65536; decide (1 ≤ d) && decide (d ≤ 32767)

/-- The 4,096 bytes of an assembled tile. -/
def Asm.bytes (a : Asm) : List Byte :=
  (List.range 4).flatMap (fun f => ((a.frags.find? (fun x => decide (x.1 = f))).map (fun x => x.2)).getD [])

/-- Placing the bytes of a tile in a slot. -/
def State.tileWrite (s : State) (slot : Nat) (b : List Byte) : State :=
  { s with tiles := Mem.write 0 s.tiles (slotAddr slot) b }

/-- A complete tile becomes visible (R140 to R142); one that has become older meanwhile raises BAD_TILE, a duplicate is ignored. -/
def State.mapInstall (s : State) (a : Asm) : State :=
  match s.mapFind a.key with
  | some e =>
    if e.st = 3 ∨ verNewer a.ver e.ver then
      let s1 := s.when (decide (e.st = 2)) (fun s => s.sendBack e)
      ((s1.tileWrite e.slot a.bytes).mapPut { e with ver := a.ver, st := 1, use := s.t16 }).incF F.MAP_TILE_IN_CNT_COUNT
    else if a.ver = e.ver then s
    else s.feedError 9 a.seq a.key.detail
  | none =>
    match s.mapSlot with
    | some (n, s1) =>
      ((s1.tileWrite n a.bytes).mapPut ⟨n, a.key, a.ver, 1, s.t16, s.sys.tick⟩).incF F.MAP_TILE_IN_CNT_COUNT
    | none => (s.setFlag F.MAP_STATUS_STORE_FULL_SEEN true).feedError 0x0A a.seq a.key.detail

/-! Events on the spot layer (R164) -/

/-- An event is dropped: counted, and its disc becomes UNKNOWN at the next T16 slot start. -/
def State.eventDrop (s : State) (e : TEvent) : State :=
  ({ s with map := { s.map with raster := s.map.raster ++ [{ e with unknown := true }] } } : State).incF
    F.MAP_DROP_EVENT_CNT_COUNT |>.setFlag F.MAP_STATUS_EVENT_DROP_SEEN true

/-- The cells whose centre lies within the radius of an event. -/
def TEvent.cells (e : TEvent) : List (TileKey × Nat) :=
  let r : Int := e.radius
  let i0 := (e.x - r) / 50
  let j0 := (e.y - r) / 50
  let n := e.radius / 25 + 2
  ((List.range n).flatMap (fun (j : Nat) => (List.range n).map (fun (i : Nat) =>
    ((50 * (i0 + i) + 25 : Int), (50 * (j0 + j) + 25 : Int))))).filter (fun c =>
      decide ((c.1 - e.x) ^ 2 + (c.2 - e.y) ^ 2 ≤ r ^ 2)) |>.map (fun c => tileOf 1 c.1 c.2)

/-- Writing one cell of a present tile. -/
def State.cellWrite (s : State) (e : MapEnt) (off : Nat) (v : Nat) : State :=
  { s with tiles := Store.put s.tiles 0 (slotAddr e.slot + off) (BitVec.ofNat 8 v) }

/-- Applying one event: target at the higher of the cell's dose class and its own, none on ERASE. A missing tile is created with
all cells none, and takes no slot of another tile of the disc; where the store is full the event counts as dropped, and its disc, as
that of one dropped before, becomes UNKNOWN as far as its tiles are there. [DESIGN CHOICE, log entry 38] -/
def State.rasterOne (s : State) (e : TEvent) : State :=
  let cells := e.cells
  let keys := (cells.map (fun c => c.1)).eraseDups
  let missing := keys.filter (fun k => (s.mapFind k).isNone)
  let s1 := missing.foldl (fun (acc : State) k =>
    match acc.mapSlotBut keys with
    | some (n, t) => (t.tileWrite n (List.replicate 4096 0)).mapPut ⟨n, k, 0, 1, acc.t16, acc.sys.tick⟩
    | none => acc) s
  let full := missing.any (fun k => (s1.mapFind k).isNone)
  let s2 := s1.each cells (fun s c =>
    match s.mapFind c.1 with
    | some m =>
      if m.st = 3 then s
      else s.cellWrite m c.2 (if e.unknown || full then 0xF0 else if e.erase then 0 else 16 + max (s.cellAt c.1 c.2 % 16) e.dose)
    | none => s)
  let s3 := s2.each keys (fun s k =>
    match s.mapFind k with
    | some m => s.mapPut { m with raster := s.sys.tick }
    | none => s)
  s3.when (full && !e.unknown) (fun s => (s.incF F.MAP_DROP_EVENT_CNT_COUNT).setFlag F.MAP_STATUS_EVENT_DROP_SEEN true)

/-- COVERAGE marks a cell: state APPLIED, the rate class kept, the tile DIRTY (R142). -/
def State.markOne (s : State) (c : TileKey × Nat) : State :=
  match s.mapFind c.1 with
  | some e => if e.st = 3 then s else (s.cellWrite e c.2 (32 + s.cellAt c.1 c.2 % 16)).mapPut { e with st := 2 }
  | none => s

/-! What becomes visible at the start of a T16 slot (R141, R142) -/

/-- The pinned entries, and MAP_STORE (R177). -/
def State.pinnedEnts (s : State) : List MapEnt := s.map.dir.filter (fun e => s.isPinned e.key)
def State.refreshStore (s : State) : State :=
  (s.setF F.MAP_STORE_PRESENT s.map.dir.length).setF F.MAP_STORE_PINNED s.pinnedEnts.length

/-- MAP_STORE, MAP_SLOT_STATE_w and MAP_PINNED_w (R177). -/
def State.mapSnapshot (s : State) : State :=
  let pinned := s.pinnedEnts
  let s1 := s.refreshStore
  let s2 := (List.range 64).foldl (fun (s : State) w => s.setReg (F.MAP_SLOT_STATE_STATE w 0).addr
    (w32 ((s.map.dir.filter (fun e => decide (e.slot / 16 = w))).foldl (fun a e => a + e.st * 4 ^ (e.slot % 16)) 0))) s1
  (List.range 32).foldl (fun (s : State) w => s.setReg (F.MAP_PINNED_PINNED w).addr
    (w32 ((pinned.filter (fun e => decide (e.slot / 32 = w))).foldl (fun a e => a + 2 ^ (e.slot % 32)) 0))) s2

/-- The entries of slots removed from the store leave the directory (R433). -/
def State.leaveRemoved (s : State) : State :=
  { s with map := { s.map with dir := s.map.dir.filter (fun e => !s.map.removed.contains e.slot) } }

/-- The start of a T16 slot: marks, drops, events, UNKNOWN entries, then tiles that completed assembly.
[DESIGN CHOICE, log entry 38] -/
def State.mapSlotStart (s : State) : State :=
  let m := s.map
  let s0 : State :=
    { s with map := { m with marks := [], drops := [], lost := [], unread := [], raster := [], ready := [] } }
  let s1 := (s0.each m.marks State.markOne).each m.drops State.mapFree
  let s2 := ((s1.each m.raster State.rasterOne).leaveRemoved).each m.lost State.mapUnknown
  (s2.each m.ready State.mapInstall).mapSnapshot

/-- A Flue cycle boundary: up to four complete tiles are installed (R147), and B grows by 32.768 (R148). -/
def State.mapCycle (s : State) : State :=
  let done := (s.map.asm.filter (fun a => decide (a.frags.length = 4))).take 4
  let s1 : State := { s with map := { s.map with asm := s.map.asm.filter (fun a => !done.contains a), ready := s.map.ready ++ done } }
  match s1.map.session with
  | some x => s1.setSession (some { x with bucket := min 4096000 (x.bucket + 32768) })
  | none => s1

/-! Requests (R140) -/

/-- Pinned tiles without an entry, or UNKNOWN. -/
def State.mapMissing (s : State) : List TileKey :=
  (s.map.pins.map (fun p => p.1)).filter (fun k =>
    match s.mapFind k with
    | some e => decide (e.st = 3)
    | none => true)

/-- TILE_REQ messages for a list of keys, 64 each at most. -/
def State.tileReq (s : State) (l : List TileKey) : State :=
  (List.range (ceilDiv l.length 64)).foldl (fun (s : State) i =>
    let part := (l.drop (64 * i)).take 64
    s.when s.map.session.isSome (fun s =>
      (s.feedSend 0x83 (leBytes 2 part.length ++ [0, 0] ++ part.flatMap TileKey.bytes)).incF F.MAP_TILE_REQ_CNT_COUNT)) s

/-- The meaning of TILE_REQ (R140): REQ_REPEAT ms have passed; missing pinned tiles are requested again. -/
def execTileReq (s : State) : Host.Outcome State Fault Refusal := .next (if s.running then s.tileReq s.mapMissing else s)

/-- The end of a T16 sample (R140): tiles that a path entered are pinned, a pin is released after two samples without; tiles
newly pinned and missing are requested. A slot is used, for its last use, when its tile is created or installed and in every
sample in which a path enters it; R140 does not say what a use is. [DESIGN CHOICE, log entry 38] -/
def State.pinUpdate (s : State) : State :=
  let hit := s.map.entered.eraseDups
  let old := (s.map.pins.filter (fun p => !hit.contains p.1)).map (fun p => (p.1, p.2 + 1)) |>.filter (fun p => decide (p.2 < 2))
  let fresh := hit.filter (fun k => !s.isPinned k)
  let s1 : State := { s with map := { s.map with pins := hit.map (fun k => (k, 0)) ++ old, entered := [],
                                                 dir := s.map.dir.map (fun e => if hit.contains e.key then { e with use := s.t16 } else e) } }
  s1.refreshStore.tileReq (s1.mapMissing.filter (fun k => fresh.contains k))

/-! Credits (R147) -/

/-- Fragment buffers in use. -/
def State.fragsUsed (s : State) : Nat := (s.map.asm.map (fun a => a.frags.length)).foldl (· + ·) 0

/-- TILE_LIMIT and EVENT_LIMIT. -/
def State.tileLimit (s : State) (x : Session) : Nat := x.tiles + (128 - s.fragsUsed)
def State.eventRoom (s : State) (x : Session) : Nat := min (x.bucket / 1000) (4096 - s.map.events.length)

/-- A CREDIT at Flue time t in ns. -/
def State.credit (s : State) (t : Nat) : State :=
  match s.map.session with
  | none => s
  | some x =>
    let s1 := (s.setF F.MAP_CREDIT_TILE_LIMIT (s.tileLimit x)).setF F.MAP_CREDIT_EVENT_LIMIT (x.events + s.eventRoom x)
    s1.feedSend 0x82 (leBytes 4 x.tiles ++ leBytes 4 (s.tileLimit x) ++ leBytes 4 x.events ++ leBytes 4 (x.events + s.eventRoom x) ++
      leBytes 8 t ++ leBytes 4 (s.reg F.MAP_STATUS_SESSION_ACTIVE.addr).toNat ++ leBytes 2 (s.getF F.MAP_STORE_PRESENT) ++
      leBytes 2 (s.getF F.MAP_STORE_PINNED))

/-- The meaning of CREDIT (R147): at every boundary with C mod 8 = 0. -/
def execCredit (s : State) : Host.Outcome State Fault Refusal :=
  .next (if s.running ∧ s.flu.cycle % 8 = 0 then s.credit s.flu.time else s)

/-! Receiving (R143 to R150) -/

/-- Whether LENGTH fits a TYPE. -/
def feedLenOk (ty n : Nat) : Bool :=
  match ty with
  | 1 => n = 8
  | 2 => n = 36
  | 3 => n = 1040
  | 4 => decide (16 ≤ n) && decide (n ≤ 1444) && decide ((n - 4) % 12 = 0)
  | 5 => decide (8 ≤ n) && decide (n ≤ 256) && decide (n % 8 = 0)
  | 6 => decide (8 ≤ n) && decide (n ≤ 512) && decide (n % 8 = 0)
  | _ => n = 0

/-- The header tests in the order of R149's codes: code and DETAIL, 0 where the header is good. [DESIGN CHOICE, log entry 38] -/
def feedHeader (b : List Byte) : Nat × Nat :=
  let ty := (b.getD 3 0).toNat
  let len := ofLe ((b.drop 8).take 2)
  if b.length < 16 then (5, b.length)
  else if b.take 2 ≠ [0x54, 0x46] then (1, 0)
  else if ofLe ((b.drop 12).take 4) ≠ crc32c (b.take 12 ++ [0, 0, 0, 0] ++ b.drop 16) then (2, 0)
  else if b.getD 2 0 ≠ 1 then (3, 1)
  else if ty = 0 ∨ 7 < ty then (4, ty)
  else if b.length ≠ 16 + len ∨ feedLenOk ty len = false then (5, b.length)
  else (0, 0)

/-- The datagram at the front leaves its buffer. -/
def State.feedDrain (s : State) (d : Dgram) : State :=
  ({ s with feedq := s.feedq.drop 1 } : State).setFill d.port ((s.eth d.port).fill - d.size)

/-- A message is accepted: counted, its SEQ kept; a skip ahead counts a gap (R143). It is judged against the SEQ accepted last, the
highest or not; R143 does not say. [DESIGN CHOICE, log entry 38] -/
def State.feedAccept (s : State) (x : Session) (seq : Nat) : State :=
  let d := (seq + 2 ^ 32 - x.seqs.headD seq) % 2 ^ 32
  ((s.setSession (some { x with seqs := (seq :: x.seqs).take 64 })).incF F.MAP_RX_CNT_COUNT).when
    (decide (1 < d) && decide (d < 2 ^ 31)) (fun s =>
      (s.incF F.MAP_SEQ_GAP_CNT_COUNT).setFlag F.MAP_STATUS_SEQ_GAP_SEEN true)

/-- Taking the datagram at the front for the command of type `ty`: header errors, BAD_SESSION and duplicates are settled
here; `f` judges a message of the session by its SEQ and payload. A datagram without a whole header records REF_SEQ 0.
[DESIGN CHOICE, log entry 38] -/
def State.feedTake (s : State) (ty : Nat) (f : State → Dgram → Session → Nat → List Byte → State) : State :=
  match s.feedq with
  | [] => s
  | d :: _ =>
    let b := d.data
    let h := feedHeader b
    let seq := ofLe ((b.drop 4).take 4)
    if !s.running then s
    else if h.1 ≠ 0 then (s.feedDrain d).feedError h.1 (if b.length < 16 then 0 else seq) h.2
    else if (b.getD 3 0).toNat ≠ ty then s
    else
      let s1 := s.feedDrain d
      match s1.map.session with
      | none => s1.feedError 6 seq 0
      | some x =>
        if ofLe ((b.drop 10).take 2) ≠ x.id then s1.feedError 6 seq x.id
        else if x.seqs.contains seq then s1
        else f s1 d x seq (b.drop 16)

/-- SEC_STATUS.ISO_ACTIVE (R168): set while no session is open or VALID is 0; cleared where a session is open and VALID is 1.
[DESIGN CHOICE, log entry 39] -/
def State.refreshIso (s : State) : State :=
  let feed := s.flag F.SEC_STATUS_FEED_ACTIVE
  let on := s.flag F.SEC_CFG_ISO_FALLBACK && (!feed || decide (s.sec.valid = 0) ||
    (s.flag F.SEC_STATUS_ISO_ACTIVE && decide (s.sec.valid ≠ 1)))
  s.setFlag F.SEC_STATUS_ISO_ACTIVE on

/-- EVENTS_ON (R146, R177): a session whose HELLO asks for events, while MAP_CFG.EVENTS_ENABLE allows them. -/
def State.refreshEventsOn (s : State) : State :=
  s.setFlag F.MAP_STATUS_EVENTS_ON ((s.map.session.map (fun x => bit x.flags 0)).getD false && s.flag F.MAP_CFG_EVENTS_ENABLE)

/-- The end of a session (R150): POSE stops, the store is kept; the ISOBUS fall-back begins at once (R168). MAP_SESSION.CLIENT keeps
its value, of which R177 says nothing here. [DESIGN CHOICE, log entry 38] -/
def State.sessionEnd (s : State) : State :=
  (((((s.setSession none).setF F.MAP_SESSION_SESSION 0).setFlag F.MAP_STATUS_SESSION_ACTIVE false).setFlag
    F.SEC_STATUS_FEED_ACTIVE false).refreshEventsOn).refreshIso

/-- The WELCOME payload (R146). -/
def State.welcome (s : State) (x : Session) : List Byte :=
  leBytes 2 x.id ++ leBytes 2 s.img.points.length ++ leBytes 2 1024 ++ leBytes 2 128 ++ leBytes 2 4096 ++
    leBytes 1 (s.getF F.SYS_MODE_CHANNEL_ID) ++ leBytes 1 (b2n s.mode.isLead) ++ [0, 0, 0, 0]

/-- A session number that is not 0 and differs from the previous session's; which one the spec leaves open (log entry 5). -/
def State.newSession (s : State) : Nat × State :=
  let n := s.fresh.1.toNat % 65535 + 1
  (if n = s.map.lastId then n % 65535 + 1 else n, s.fresh.2)

/-- HELLO (R150): the second copy of the opening HELLO adds its port; every other one opens a new session. Its header's SESSION is
not looked at; R144 has 0 there and no error for another value. [DESIGN CHOICE, log entry 38] -/
def State.hello (s : State) (d : Dgram) (seq : Nat) (p : List Byte) : State :=
  let client := ofLe ((p.drop 2).take 2)
  let flags := ofLe ((p.drop 4).take 4)
  if p.getD 0 0 ≠ 1 then s.feedError 3 seq 1
  else
    let s1 := (s.arpLearn d.port d.ip d.mac).incF F.MAP_RX_CNT_COUNT
    let port := (d.port, d.ip, d.src)
    let answer := fun (s : State) (x : Session) => (s.feedSend 0x81 (s.welcome x)).credit d.t
    let opens := fun (s : State) =>
      let (n, t) := s.newSession
      let x : Session := { id := n, client := client, flags := flags, opened := d.t, ports := [port], seqs := [seq] }
      let t1 : State := { t with map := { t.map with session := some x, lastId := n, asm := [] } }
      answer (((((t1.setF F.MAP_SESSION_CLIENT client).setF F.MAP_SESSION_SESSION n).setFlag F.MAP_STATUS_SESSION_ACTIVE
        true).setFlag F.SEC_STATUS_FEED_ACTIVE true).refreshEventsOn) x
    match s1.map.session with
    | some x =>
      if !x.ports.any (fun q => decide (q.1 = d.port)) && decide (d.t ≤ x.opened + 100000000) && decide (x.client = client) &&
          decide (x.flags = flags) then
        let y := { x with ports := [port] }
        let s2 := answer (s1.setSession (some y)) y
        match s2.map.session with
        | some z => s2.setSession (some { z with ports := x.ports ++ [port] })
        | none => s2
      else opens s1
    | none => opens s1

/-- The meaning of HELLO (R150). -/
def execHello (s : State) : Host.Outcome State Fault Refusal :=
  .next (match s.feedq with
    | [] => s
    | d :: _ =>
      let h := feedHeader d.data
      let seq := ofLe ((d.data.drop 4).take 4)
      if !s.running then s
      else if h.1 ≠ 0 then (s.feedDrain d).feedError h.1 (if d.data.length < 16 then 0 else seq) h.2
      else if (d.data.getD 3 0).toNat ≠ 1 then s
      else (s.feedDrain d).hello d seq (d.data.drop 16))

/-- A NaN or an infinity. -/
def fBad (w : Word) : Bool := fIsNaN w || fIsInf w

/-- POSE (R146, R149): refused where T_VALID is more than 1 ms ahead of its arrival, or a float is not finite. -/
def State.poseMsg (s : State) (d : Dgram) (x : Session) (seq : Nat) (p : List Byte) : State :=
  let w := fun o => BitVec.ofNat 32 (ofLe ((p.drop o).take 4))
  let tv := ofLe (p.take 8)
  if d.t + 1000000 < tv || fBad (w 16) || fBad (w 20) || fBad (w 24) || fBad (w 28) then s.feedError 0x0C seq 0
  else
    s.feedAccept { x with pose := some ⟨tv, w 8, w 12, w 16, w 20, w 24, w 28, ofLe ((p.drop 32).take 2)⟩ } seq

/-- The meaning of POSE (R151). -/
def execPose (s : State) : Host.Outcome State Fault Refusal := .next (s.feedTake 2 State.poseMsg)

/-- TILE (R141, R146, R147). A fragment that its assembly already holds is accepted as a message and takes no buffer, so it does
not count in TILE_ACCEPTED; R147 does not say. [DESIGN CHOICE, log entry 38] -/
def State.tileMsg (s : State) (_d : Dgram) (x : Session) (seq : Nat) (p : List Byte) : State :=
  let frag := (p.getD 1 0).toNat
  let ver := ofLe ((p.drop 2).take 2)
  let k : TileKey := ⟨(p.getD 0 0).toNat, toInt 16 (ofLe ((p.drop 4).take 2)), toInt 16 (ofLe ((p.drop 6).take 2))⟩
  let asm := s.map.asm.find? (fun a => decide (a.key = k))
  let mixed := match asm with
    | some a => decide (a.ver ≠ ver)
    | none => false
  let old := match s.mapFind k with
    | some e => if e.st = 3 then 0 else if e.ver = ver then 1 else if verNewer ver e.ver then 0 else 2
    | none => 0
  if 1 < k.layer || 3 < frag || mixed || old = 2 then s.feedError 9 seq k.detail
  else if old = 1 then s.feedAccept x seq
  else if 128 ≤ s.fragsUsed then
    ((s.incF F.MAP_DROP_TILE_CNT_COUNT).setFlag F.MAP_STATUS_TILE_DROP_SEEN true).feedError 7 seq (s.tileLimit x)
  else
    let rows := p.drop 16
    let held := match asm with
      | some a => a.frags.any (fun g => decide (g.1 = frag))
      | none => false
    if held then s.feedAccept x seq
    else
      let next : Asm := match asm with
        | some a => { a with frags := a.frags ++ [(frag, rows)], seq := seq }
        | none => ⟨k, ver, [(frag, rows)], seq⟩
      let others := s.map.asm.filter (fun a => decide (a.key ≠ k))
      ({ s with map := { s.map with asm := others ++ [next] } } : State).feedAccept { x with tiles := x.tiles + 1 } seq

/-- The meaning of TILE (R146). -/
def execTile (s : State) : Host.Outcome State Fault Refusal := .next (s.feedTake 3 State.tileMsg)

/-- The meaning of TILE_TIMEOUT (R146): the tile is incomplete ASSEMBLY ms after its first fragment.
[DESIGN CHOICE, log entry 38] -/
def State.tileTimeout (s : State) (k : TileKey) : State :=
  match s.map.asm.find? (fun a => decide (a.key = k)) with
  | some a =>
    if s.running ∧ a.frags.length < 4 then
      ({ s with map := { s.map with asm := s.map.asm.filter (fun b => decide (b.key ≠ k)), lost := s.map.lost ++ [k] } }
        : State).feedError 0x0B a.seq k.detail
    else s
  | none => s

/-- The meaning of TILE_TIMEOUT (R146). -/
def execTileTimeout (layer : Nat) (tx ty : Int) (s : State) : Host.Outcome State Fault Refusal :=
  .next (s.tileTimeout ⟨layer, tx, ty⟩)

/-- One event of an EVENTS message. -/
def parseEvent (b : List Byte) : TEvent :=
  ⟨toInt 32 (ofLe (b.take 4)), toInt 32 (ofLe ((b.drop 4).take 4)), ofLe ((b.drop 8).take 2), (b.getD 10 0).toNat % 16,
    bit (b.getD 11 0).toNat 0, false⟩

/-- DEPTH and PEAK of the event queue. -/
def State.setEvents (s : State) (l : List TEvent) : State :=
  (({ s with map := { s.map with events := l } } : State).setF F.MAP_EVENT_QUEUE_DEPTH l.length).peakF F.MAP_EVENT_QUEUE_PEAK
    l.length

/-- EVENTS (R146, R147, R149). -/
def State.eventsMsg (s : State) (_d : Dgram) (x : Session) (seq : Nat) (p : List Byte) : State :=
  let n := (p.length - 4) / 12
  if !s.flag F.MAP_STATUS_EVENTS_ON then s.feedError 4 seq 4
  else if ofLe (p.take 2) ≠ n then s.feedError 5 seq (p.length + 16)
  else
    let all := (List.range n).map (fun i => (i, parseEvent ((p.drop (4 + 12 * i)).take 12)))
    let bad := all.filter (fun e => decide (1000 < e.2.radius))
    let good := (all.filter (fun e => decide (e.2.radius ≤ 1000))).map (fun e => e.2)
    let room := s.eventRoom x
    let keep := good.take room
    let excess := good.drop room
    let s1 := (s.setEvents (s.map.events ++ keep)).feedAccept
      { x with events := x.events + keep.length, bucket := x.bucket - 1000 * keep.length } seq
    let s2 := (s1.addF F.MAP_EVENT_CNT_COUNT keep.length).each bad (fun s e =>
      ((s.incF F.MAP_DROP_EVENT_CNT_COUNT).setFlag F.MAP_STATUS_EVENT_DROP_SEEN true).feedError 0x0D seq e.1)
    (s2.each excess State.eventDrop).when (!excess.isEmpty) (fun s => s.feedError 8 seq excess.length)

/-- The meaning of EVENTS (R147). -/
def execEvents (s : State) : Host.Outcome State Fault Refusal := .next (s.feedTake 4 State.eventsMsg)

/-- SETPOINT (R125, R146): a KEY that names no channel raises UNKNOWN_KEY. -/
def State.setpointMsg (s : State) (_d : Dgram) (x : Session) (seq : Nat) (p : List Byte) : State :=
  (s.feedAccept x seq).each (List.range (p.length / 8)) (fun s i =>
    let r := (p.drop (8 * i)).take 8
    let key := ofLe (r.take 2)
    let named := s.spKeyed key
    if named.isEmpty then s.feedError 0x0E seq key else s.each named (fun s c => s.spMessage c.1 c.2 (r.drop 4)))

/-- The meaning of SETPOINT (R146). -/
def execSetpoint (s : State) : Host.Outcome State Fault Refusal := .next (s.feedTake 5 State.setpointMsg)

/-- TILE_DROP (R146): the entries are freed at the next T16 slot start; a key with LAYER above 1 raises BAD_TILE (R149). -/
def State.dropMsg (s : State) (_d : Dgram) (x : Session) (seq : Nat) (p : List Byte) : State :=
  let keys := (List.range (p.length / 8)).map (fun i => TileKey.parse (p.drop (8 * i)))
  match keys.find? (fun k => decide (1 < k.layer)) with
  | some k => s.feedError 9 seq k.detail
  | none => ({ s with map := { s.map with drops := s.map.drops ++ keys } } : State).feedAccept x seq

/-- The meaning of TILE_DROP (R146). -/
def execTileDrop (s : State) : Host.Outcome State Fault Refusal := .next (s.feedTake 6 State.dropMsg)

/-- The meaning of BYE (R150). -/
def execBye (s : State) : Host.Outcome State Fault Refusal :=
  .next (s.feedTake 7 (fun s _ x seq _ => (s.feedAccept x seq).sessionEnd))

/-- The meaning of SESSION_TIMEOUT (R150). -/
def execSessionTimeout (s : State) : Host.Outcome State Fault Refusal :=
  .next (if s.running ∧ s.map.session.isSome then s.sessionEnd else s)

/-! Pose in the intake record (R151) -/

/-- 0xE0 to 0xE7 at a tick start of Flue time t in ns. AGE is below 0 where T_VALID is still to come. Without a
pose only AGE is stated; the other values are free (log entry 5). -/
def State.poseIntake (s : State) (t : Nat) : List (Nat × Word × Bool) :=
  let vals : List Word := match s.map.session.bind (fun x => x.pose) with
    | some q => [q.x, q.y, q.psi, q.v, q.a, q.omega, BitVec.ofInt 32 (min (2 ^ 31 - 1) (((t : Int) - q.tValid) / 1000)), w32 q.qual]
    | none =>
      ((List.range 6).map (fun i => Config.freeWord (s.free + i))) ++ [w32 (2 ^ 31 - 1), Config.freeWord (s.free + 6)]
  vals.zipIdx.map (fun x => (0xE0 + x.2, x.1, false))

/-- The free values that an intake without a pose has taken. -/
def State.poseFree (s : State) : State :=
  if (s.map.session.bind (fun x => x.pose)).isSome then s else { s with free := s.free + 7 }

/-- MAP_POSE.AGE at a tick start; 0 where T_VALID is still to come. [DESIGN CHOICE, log entry 38] -/
def State.poseTick (s : State) (t : Nat) : State :=
  s.setF F.MAP_POSE_AGE (match s.map.session.bind (fun x => x.pose) with
    | some q => min 0xFFFFF ((t - q.tValid) / 1000)
    | none => 0xFFFFF)

end Sys2Proof.Machine
end

