-- ==== Sys2Proof/Machine/Motor.lean ====
section
/-!
DEFINITION. The bridges' carriers: duties, halves, repeats and the fallback, refresh pulses, sample plans and sample pairs
(R203 to R212, R234).
-/
namespace Sys2Proof.Machine

open Sys2Proof

/-- High time of a duty in [0, 1]: round(d × N) on the exact product, ties up (R204). -/
def dutyCounts (d : Word) (n : Nat) : Nat :=
  let k := 150 - fExp d
  (2 * fSig d * n + 2 ^ k) / 2 ^ (k + 1)

/-- A high time after MIN_PULSE, given in counts, and whether it changed (R204). [DESIGN CHOICE, log entry 48] -/
def minPulse (h n mp : Nat) : Nat × Bool :=
  if 1 ≤ h ∧ h ≤ mp then (0, true) else if n ≤ h + mp ∧ h + 1 ≤ n then (n, true) else (h, false)

/-- PWM_WRITE (R205): duties clamped to [0, 1]; a write with a NaN is not applied. -/
def State.pwmWrite (s : State) (b : Nat) (d : List Word) : State :=
  if d.any fIsNaN then s else s.setMot b { s.mot b with duties := some (d.map (fun w => fClamp w f0 f1)) }

/-- BRIDGE_MODE (R207, R208): 0 OFF, 1 RUN, 2 ASC, any other value OFF; ASC on ST acts as OFF. -/
def State.bridgeModeWrite (s : State) (b inst : Nat) (v : Word) : State :=
  let r := if v = 1 then 1 else if v = 2 ∧ b ≠ 0 then 2 else 0
  ((s.setF (F.MOT_MODE_INSTANCE b) inst).setF (F.MOT_MODE_REQUEST b) r).refreshPower

/-- The phases in order of high time, largest first, ties U, V, W (R211). -/
def phaseOrder (h : List Nat) : List Nat :=
  let ins := fun (l : List Nat) (p : Nat) =>
    l.takeWhile (fun q => decide (h.getD p 0 ≤ h.getD q 0)) ++ [p] ++ l.dropWhile (fun q => decide (h.getD p 0 ≤ h.getD q 0))
  [0, 1, 2].foldl ins []

/-- The sample of a half in RUN from the final high times: instant and tag, none where the vector is too short (R211).
[DESIGN CHOICE, log entry 48] -/
def samplePlan (falling : Bool) (h : List Nat) (n dead tset : Nat) : Option (Nat × Nat) :=
  let o := phaseOrder h
  let a := o.getD 0 0
  let m := o.getD 1 0
  let z := o.getD 2 0
  let start := if falling then h.getD z 0 else n - h.getD a 0
  let stop := if falling then h.getD m 0 else n - h.getD m 0
  let t := start + dead + tset
  if t + 80 ≤ stop ∧ t + 80 + 120 ≤ n then some (t, if falling then 12 + z else 8 + a) else none

/-- The conditions under which a half without a fresh write is a repeat (R206): entries 1 and 2 of R207 do not hold and
BRIDGE_MODE requests RUN. -/
def State.wouldRun (s : State) (b : Nat) : Bool :=
  s.flag (F.MOT_CFG_ENABLE b) && s.mode.isLead && (s.imposed b).isEmpty && !s.gdr.resume &&
    decide (s.getF (F.MOT_MODE_REQUEST b) = 1)

/-- The write, repeat or fallback with which a half begins (R205, R206). -/
def State.halfWrite (s : State) (b n : Nat) : State :=
  let m := s.mot b
  match m.duties with
  | some d =>
    let mp := 4 * s.getF (F.MOT_PWM_MIN_PULSE b)
    let hs := d.map (fun w => minPulse (dutyCounts w n) n mp)
    let k := (hs.filter (fun x => x.2)).length
    let s1 := (s.setMot b { m with duties := none }).each (List.range 3) (fun s p =>
      s.setF (F.MOT_DUTY_HIGH b p) (hs.getD p (0, false)).1)
    let s2 := s1.when (decide (0 < k)) (fun s => (s.addF (F.MOT_MINPULSE_CNT_COUNT b) k).event (Ev.mot b) 3)
    let s3 := s2.setF (F.MOT_STATUS_REPEAT_RUN b) 0
    s3.when (s3.flag (F.MOT_STATUS_STALE b)) (fun s => (s.setFlag (F.MOT_STATUS_STALE b) false).clearLevel (Src.mot b 0))
  | none =>
    if s.wouldRun b then
      let r := s.getF (F.MOT_STATUS_REPEAT_RUN b)
      let s1 := s.when (decide (max 1 (s.getF (F.MOT_PWM_REPEAT_MAX b)) ≤ r) && !s.flag (F.MOT_STATUS_STALE b)) (fun s =>
        (((s.setFlag (F.MOT_STATUS_STALE b) true).incF (F.MOT_PWM_STALE_CNT_COUNT b)).event (Ev.mot b) 6).raiseLevel
          (Src.mot b 0))
      ((s1.incF (F.MOT_REPEAT_CNT_COUNT b)).incF (F.MOT_STATUS_REPEAT_RUN b)).event (Ev.mot b) 0
    else s.setF (F.MOT_STATUS_REPEAT_RUN b) 0

/-- Forced refresh pulses due in a falling half in RUN (R234): each is counted and runs in this half.
[DESIGN CHOICE, log entry 43] -/
def State.halfRefresh (s : State) (b : Nat) (falling : Bool) : State :=
  if falling ∧ s.getF (F.MOT_STATUS_STATE b) = 1 then
    s.each ([1, 3, 5].map (fun k => 6 * b + k)) (fun s g =>
      s.when (s.flag (F.GDR_GATE_REFRESH g)) (fun s =>
        ({ s with gdr := { s.gdr with refreshing := s.gdr.refreshing ++ [g] } } : State).incF F.GDR_REFRESH_CNT_COUNT))
  else s

/-- The final high times of the present half: those of R204, less 160 + 2 × DT_APPLIED counts for a refreshed phase. -/
def State.finalHigh (s : State) (b : Nat) : List Nat :=
  (List.range 3).map (fun p =>
    let h := s.getF (F.MOT_DUTY_HIGH b p)
    if s.gdr.refreshing.contains (6 * b + 2 * p + 1) then h - (160 + 2 * s.getF (F.GDR_BRIDGE_STAT_DT_APPLIED b)) else h)

/-- The sample plan of the half (R211): in RUN a vector's, else that of the state. [DESIGN CHOICE, log entry 48] -/
def State.halfPlan (s : State) (b n : Nat) (falling : Bool) : State :=
  if s.getF (F.MOT_STATUS_STATE b) = 1 then
    let p := samplePlan falling (s.finalHigh b) n (s.getF (F.GDR_BRIDGE_STAT_DT_APPLIED b)) (4 * s.getF (F.MOT_SAMPLE_T_SET b))
    (s.setPlan b p).when p.isNone (fun s => (s.incF (F.MOT_NOSAMPLE_CNT_COUNT b)).event (Ev.mot b) 1)
  else s.statePlan b

/-- Gates withheld after a SHOOT_THROUGH_ATTEMPT come free with the half in which the carrier asks neither side of their phase as it
did in the half before: one of the commands is withdrawn (R232). [DESIGN CHOICE, log entry 43] -/
def State.shootRelease (s : State) (b : Nat) (before : Nat → Bool) : State :=
  let stays := fun (g : Nat) => before g && s.gateAsked g
  { s with gdr := { s.gdr with shootHeld := s.gdr.shootHeld.filter (fun g =>
      decide (g / 6 ≠ b) || stays (g / 2 * 2) || stays (g / 2 * 2 + 1)) } }

/-- One bridge's half begins (R203 to R211). MOT_SAMPLE_LAST goes on showing the sample of the half before, and no longer says TAKEN where
that had none (R228). [DESIGN CHOICE, log entries 48 and 48] -/
def State.halfBridge (s : State) (n : Nat) (falling : Bool) (b : Nat) : State :=
  let m := s.mot b
  let s0 := s.setFlag (F.MOT_SAMPLE_LAST_TAKEN b) (s.flag (F.MOT_SAMPLE_LAST_TAKEN b) && decide (m.prev.map (fun x => x.1) = some m.half))
  let s1 := (((s0.setMot b { m with half := m.half + 1 }).setFlag (F.MOT_STATUS_HALF_KIND b) falling).setFlag
    (F.MOT_HALF_KIND b) falling).setF (F.MOT_HALF_LENGTH b) n
  let s2 := (s1.halfWrite b n).refreshBridge b
  ((s2.halfRefresh b falling).halfPlan b n falling).shootRelease b s.gateAsked

/-- What ends with the previous half: refresh pulses, the gate enable's rest of the half (R429), the wait
of R382, and the stages of R235. -/
def State.halfEnds (s : State) : State :=
  let s1 := s.each s.gdr.refreshing (fun s g => s.setFlag (F.GDR_GATE_REFRESH g) false)
  let s2 := s1.each (s.gdr.bootTry) (fun s x => s.setFlag (F.GDR_GATE_UV x.1) (s.flt.unitHold.contains (Src.gate (x.1 / 6) 5)))
  let done := s.gdr.bootTry.filter (fun x => decide (x.2 ≠ 0))
  let s3 := s2.each done (fun s _ => s.transient)
  { s3 with gdr := { s3.gdr with refreshing := [], enOffHalf := false, resume := false,
                                 bootTry := (s.gdr.bootTry.filter (fun x => decide (x.2 = 0))).map (fun x => (x.1, 1)) } }

/-- HALF_START (R203): on every bridge a half of `n` counts begins, rising at ticks 0 and 2, falling at ticks 1 and 3. -/
def State.halfStart (s : State) (n : Nat) : State :=
  ((s.halfEnds).each [0, 1, 2] (fun t b => t.halfBridge n (decide (s.gr.j % 2 = 1)) b)).refreshPower

/-- The meaning of HALF_START (R203). -/
def execHalfStart (n : Nat) (s : State) : Host.Outcome State Fault Refusal := .next (if s.running then s.halfStart n else s)

/-- The mean of the latest 64 codes, rounded with ties up (R228, log entry 21). [DESIGN CHOICE, log entry 21] -/
def meanCode (l : List Nat) : Nat := (2 * l.foldl (· + ·) 0 + l.length) / (2 * l.length)

/-- The current of a shunt code: (code - 8,192) × SCALE, in A (R212). -/
def State.shuntAmps (s : State) (b code : Nat) : Word :=
  fMul (fOfInt ((code : Int) - 8192)) (s.reg (F.MOT_SHUNT_SCALE_SCALE b).addr)

/-- A shunt conversion ends (R212, R228): the current with the planned tag; a valid sample pairs with that of the half just before
where it names another phase; in OFF the reading and the previous such reading, which before the first one is what I_OLD held. -/
def State.shuntSample (s : State) (b code : Nat) : State :=
  let m := s.mot b
  match m.plan with
  | none => s
  | some (at', tag) =>
    let i := s.shuntAmps b code
    let s1 := (s.pushLog (F.MOT_LOG_CODE b) 31).setReg (F.MOT_LOG_CODE b 0).addr
      (w32 (code % 2 ^ 14 * 2 ^ 16 + tag * 2 ^ 12 + at' / 4 % 2 ^ 12))
    let s2 := ((s1.setMot b { m with plan := none, prev := some (m.half, i, tag) }).setFlag (F.MOT_SAMPLE_LAST_TAKEN b) true).setF
      (F.MOT_SAMPLE_LAST_AT b) at'
    let pair := fun (s : State) (o : Word) (ot : Nat) =>
      (((s.setReg (F.MOT_I_NEW_I b).addr i).setReg (F.MOT_I_OLD_I b).addr o).setF (F.MOT_TAG_NEW b) tag).setF
        (F.MOT_TAG_OLD b) ot
    if tag = 11 then
      let z := (code :: m.zero).take 64
      let s3 := match m.zero.head? with
        | some c => pair s2 (s.shuntAmps b c) 11
        | none => pair s2 (s.reg (F.MOT_I_OLD_I b).addr) (s.getF (F.MOT_TAG_OLD b))
      (s3.setMot b { s2.mot b with zero := z }).setF (F.MOT_ZERO_CODE_CODE b) (meanCode z)
    else
      let peak := s2.reg (F.MOT_PEAK_I_I b).addr
      let stale := fun (s : State) =>
        ((s.setFlag (F.MOT_STATUS_PAIR_FRESH b) false).incF (F.MOT_STALE_PAIR_CNT_COUNT b)).event (Ev.mot b) 2
      match m.prev with
      | some (h, o, ot) =>
        if h + 1 = m.half ∧ ot % 4 ≠ 3 ∧ ot % 4 ≠ tag % 4 then
          ((pair s2 o ot).setFlag (F.MOT_STATUS_PAIR_FRESH b) true).setReg (F.MOT_PEAK_I_I b).addr
            (if fLt peak (fAbs i) then fAbs i else peak)
        else stale s2
      | none => stale s2

end Sys2Proof.Machine
end

