-- ==== Sys2Proof/Machine/Analogue.lean ====
section
/-!
DEFINITION. Analogue acquisition (R256 to R277): sequences, groups and pairs, results, reference checks and the open-wire
test.
-/
namespace Sys2Proof.Machine

open Sys2Proof

/-! Sequences (R259 to R266) -/

/-- A converter's hidden state. -/
def State.conv (s : State) (v : Nat) : Conv := s.adc.conv.getD v {}

/-- Storing it. -/
def State.setConv (s : State) (v : Nat) (c : Conv) : State := { s with adc := { s.adc with conv := s.adc.conv.set v c } }

/-- STATE of a converter; BUSY follows it. -/
def State.setConvState (s : State) (v st : Nat) : State :=
  let b := s.getF F.ADC_STATUS_BUSY
  (s.setF (F.ADC_CONV_STAT_STATE v) st).setF F.ADC_STATUS_BUSY (if st = 0 then b - b / 2 ^ v % 2 * 2 ^ v else b ||| 2 ^ v)

/-- Entry j of a regular sequence. -/
def State.regEntry (s : State) (v j : Nat) : Nat :=
  s.getF (if j < 4 then F.ADC_RSEQ_LO_ENTRY v j else F.ADC_RSEQ_HI_ENTRY v (j - 4))

/-- The converters a start takes. -/
def State.seqConvs (s : State) : AdcSeq → List Nat
  | .regular v | .injected v => [v]
  | .group g => (List.range 8).filter (fun v => bit (s.getF (F.ADC_GROUP_MEMBERS g)) v)
  | .pair p => [2 * p, 2 * p + 1]

/-- The trigger code routed to a sequence, group or pair; 0 for none or for one not in use. -/
def State.seqTrig (s : State) : AdcSeq → Nat
  | .regular v => if s.getF (F.ADC_CONV_CFG_REG_LEN v) = 0 then 0 else s.getF (F.ADC_TRIG_REG_TRIG v)
  | .injected v => if s.getF (F.ADC_CONV_CFG_INJ_LEN v) = 0 then 0 else s.getF (F.ADC_TRIG_INJ_TRIG v)
  | .group g => if s.flag (F.ADC_GROUP_EN g) then s.getF (F.ADC_GROUP_TRIG g) else 0
  | .pair p => if s.flag (F.ADC_PAIR_CFG_EN p) then s.getF (F.ADC_PAIR_CFG_TRIG p) else 0

/-- Everything that can start. -/
def adcSeqs : List AdcSeq :=
  (List.range 8).map AdcSeq.regular ++ (List.range 8).map AdcSeq.injected ++ (List.range 4).map AdcSeq.group ++
    (List.range 4).map AdcSeq.pair

/-- A trigger sets the start bit of everything it is routed to (R259). -/
def State.adcTrigger (s : State) (code : Nat) : State :=
  let hit := adcSeqs.filter (fun q => decide (s.seqTrig q = code) && !s.adc.starts.contains q)
  { s with adc := { s.adc with starts := s.adc.starts ++ hit } }

/-- Whether a sequence has anything to run on enabled converters. -/
def State.seqUsable (s : State) (q : AdcSeq) : Bool :=
  (s.seqConvs q).all (fun v => decide (v < 8) && s.flag (F.ADC_CONV_CFG_ENABLE v)) &&
    (match q with
     | .regular v => decide (0 < s.getF (F.ADC_CONV_CFG_REG_LEN v))
     | .injected v => decide (0 < s.getF (F.ADC_CONV_CFG_INJ_LEN v))
     | .group g => decide (g < 4) && s.flag (F.ADC_GROUP_EN g)
     | .pair p => decide (p < 4) && s.flag (F.ADC_PAIR_CFG_EN p))

/-- A converter goes on after a step: with a reference check in hand or due, then with the regular sequence that waits, else it is
idle (R261, R262, R267). [DESIGN CHOICE, log entry 42] -/
def State.convResume (s : State) (v : Nat) : State :=
  let c := s.conv v
  if c.refDue || c.ref.isSome then (s.setConv v { c with refDue := false, ref := some (c.ref.getD {}) }).setConvState v 3
  else (s.setConv v { c with wait := false }).setConvState v (if c.wait then 1 else 0)

/-- The channel that a reference check converts next: 58, then 63 (R267). -/
def RefRun.chan (r : RefRun) : Nat := if r.codes.isEmpty then 58 else 63

/-- Whether a converter runs an injected, group or pair step. -/
def State.injRuns (s : State) (v : Nat) : Bool := [2, 4, 5].contains (s.getF (F.ADC_CONV_STAT_STATE v))

/-- An injected step begins on a converter: a regular entry in acquisition is abandoned, one in conversion completes; a reference
check is interrupted in the same way (R261, R262). -/
def State.injBegin (s : State) (st v : Nat) (acq inConv : Bool) : State :=
  let c := s.conv v
  let regular := decide (s.getF (F.ADC_CONV_STAT_STATE v) = 1)
  let pos := s.getF (F.ADC_CONV_STAT_POS v)
  let last := decide (s.getF (F.ADC_CONV_CFG_REG_LEN v) ≤ pos + 1)
  let done := regular && inConv
  let tail := if done then some (.regular, s.regEntry v pos) else if inConv then c.ref.map (fun r => (.reference, r.chan)) else none
  let wait := c.wait || (regular && !(done && last && !s.flag (F.ADC_CONV_CFG_CONT v)))
  let s1 := (s.setF (F.ADC_CONV_STAT_POS v) (if done then (if last then 0 else pos + 1) else pos)).setConv v
    { c with inj := 0, tail := tail, wait := wait, pair := none }
  (s1.setConvState v st).when ((regular || c.ref.isSome) && acq) (fun s => (s.incF F.ADC_PREEMPT_CNT_COUNT).event Ev.adc 0)

/-- A lost start (R262). -/
def State.trigLost (s : State) : State := (s.incF F.ADC_TRIG_LOST_CNT_COUNT).event Ev.adc 1

/-- SEQUENCE_START (R259 to R262, R265, R266): a start bit or a routed trigger starts a sequence, from the entry into JOIN on;
bit v of `acq` and of `inConv` says whether converter v has an entry of a regular sequence or of a check in acquisition and one in
conversion. [DESIGN CHOICE, log entry 42] -/
def State.sequenceStart (s : State) (q : AdcSeq) (acq inConv : Nat) : State :=
  let s1 : State := { s with adc := { s.adc with starts := s.adc.starts.filter (fun x => decide (x ≠ q)) } }
  if !s.running || !s.sys.joined || !s.seqUsable q || !(s.adc.starts.contains q || decide (s.seqTrig q ≠ 0)) then s
  else
    match q with
    | .regular v =>
      if s.getF (F.ADC_CONV_STAT_STATE v) = 1 ∨ (s.conv v).wait then (s1.incF F.ADC_SEQ_OVERRUN_CNT_COUNT).event Ev.adc 2
      else if s.injRuns v ∨ s.getF (F.ADC_CONV_STAT_STATE v) = 3 then s1.setConv v { s1.conv v with wait := true }
      else (s1.setF (F.ADC_CONV_STAT_POS v) 0).setConvState v 1
    | .injected v =>
      if s.injRuns v then s1.trigLost else (s1.incF F.ADC_INJ_CNT_COUNT).injBegin 2 v (bit acq v) (bit inConv v)
    | .group g =>
      if (s.seqConvs q).any s.injRuns then s1.trigLost
      else (s1.incF F.ADC_GROUP_CNT_COUNT).each ((s.seqConvs (.group g)).filter (fun v =>
        decide (0 < s.getF (F.ADC_CONV_CFG_INJ_LEN v)))) (fun s v =>
          (s.incF F.ADC_INJ_CNT_COUNT).injBegin 5 v (bit acq v) (bit inConv v))
    | .pair p =>
      if (s.seqConvs q).any s.injRuns then s1.trigLost
      else s1.each [2 * p, 2 * p + 1] (fun s v => s.injBegin 4 v (bit acq v) (bit inConv v))

/-- The meaning of SEQUENCE_START (R259). -/
def execSequenceStart (what : AdcSeq) (acq inConv : Nat) (s : State) : Host.Outcome State Fault Refusal :=
  .next (s.sequenceStart what acq inConv)

/-- ADC_START (R260, R274): INJ and REG set start bits; one write counts once. [DESIGN CHOICE, log entry 42] -/
def State.adcStart (s : State) (reg inj : Nat) : State :=
  let hit := ((List.range 8).filter (fun v => bit reg v)).map AdcSeq.regular ++
    ((List.range 8).filter (fun v => bit inj v)).map AdcSeq.injected
  ({ s with adc := { s.adc with starts := s.adc.starts ++ hit.filter (fun q => !s.adc.starts.contains q) } } : State).incF
    F.ADC_START_CNT_COUNT

/-- The meaning of ADC_START (R274). -/
def execAdcStart (reg inj : Nat) (s : State) : Host.Outcome State Fault Refusal :=
  .next (if s.running then s.adcStart reg inj else s)

/-! Results (R258, R266, R268, R269) -/

/-- The code of an input in µV: input × 16,384 ÷ 3.000 V to the nearest code, within 0 to 0x3FFF (R256; the examples of R271 round
so: 1.753 V gives 9,574). [DESIGN CHOICE, log entry 42] -/
def adcCode (input : Int) : Nat := min 0x3FFF (((input * 16384 + 1500000) / 3000000).toNat)

/-- OVR_HI and OVR_LO of an input in µV: above 3.015 V and below -0.015 V (R268). -/
def adcHi (input : Int) : Bool := decide (3015000 < input)
/-- OVR_LO (R268). -/
def adcLo (input : Int) : Bool := decide (input < -15000)
/-- Whether a result is flagged (R268). -/
def outOfRange (input : Int) : Bool := adcHi input || adcLo input

/-- A result is written to its channel (R269, R275). -/
def State.publish (s : State) (v c code t : Nat) (hi lo inj : Bool) : State :=
  let w := 2 ^ 31 + b2n hi * 2 ^ 30 + b2n lo * 2 ^ 29 + b2n inj * 2 ^ 28 + v * 2 ^ 25 + code % 2 ^ 14
  ({ s with adc := { s.adc with times := s.adc.times.set c t } } : State).setReg (F.ADC_RESULT_VALID c).addr (w32 w)

/-- An over-range result (R268). -/
def State.overRange (s : State) (c : Nat) : State :=
  (((s.setF (F.ADC_OVR_OVR (c / 32)) (s.getF (F.ADC_OVR_OVR (c / 32)) ||| 2 ^ (c % 32))).incF F.ADC_OVR_CNT_COUNT).event
    Ev.adc 3).raise Src.adcOverRange

/-- Conversions of a converter are counted (R276). -/
def State.convCount (s : State) (v n : Nat) : State := s.setF (F.ADC_CONV_CNT_COUNT v) (s.getF (F.ADC_CONV_CNT_COUNT v) + n)

/-- A conversion that a self-test takes on converter v: counted, flagged beyond the full scale, and written to its channel unless the
converter is FAILED (R267 to R269, R507). [DEDUCED, log entry 44] -/
def State.testConversion (s : State) (t c : Nat) (x : Nat × Int) : State :=
  let on := !s.flag (F.ADC_CONV_STAT_FAILED (x.1 % 8))
  let s1 := s.convCount (x.1 % 8) 1
  (s1.when (outOfRange x.2 && on) (fun s => s.overRange c)).when on (fun s =>
    s.publish (x.1 % 8) c (adcCode x.2) t (adcHi x.2) (adcLo x.2) false)

/-- Whether a channel is under test. -/
def State.owUnder (s : State) (c : Nat) : Bool :=
  match s.adc.ow with
  | some x => decide (x.chan = c)
  | none => false

/-- A comparison of pair p (R266). -/
def State.pairCompare (s : State) (p a b : Nat) (ovr : Bool) : State :=
  let d := max a b - min a b
  let viol := ovr || decide (s.getF (F.ADC_PAIR_WIN_WIN p) < d)
  let fail := s.flag (F.ADC_PAIR_STAT_FAIL p)
  let per := max 1 (s.getF (F.ADC_PAIR_CFG_PERSIST p))
  let run := if viol = fail then 0 else s.getF (F.ADC_PAIR_STAT_RUN p) + 1
  let s1 := ((((s.setF (F.ADC_PAIR_LAST_CODE_A p) a).setF (F.ADC_PAIR_LAST_CODE_B p) b).setF (F.ADC_PAIR_STAT_DIFF p) d).setFlag
    (F.ADC_PAIR_STAT_VIOL p) viol).setF (F.ADC_PAIR_STAT_RUN p) (if per ≤ run then 0 else run)
  if run < per then s1
  else if fail then (s1.setFlag (F.ADC_PAIR_STAT_FAIL p) false).clearLevel (Src.adcPair p)
  else (((s1.setFlag (F.ADC_PAIR_STAT_FAIL p) true).incF F.ADC_PAIR_FAIL_CNT_COUNT).event Ev.adc 5).raiseLevel (Src.adcPair p)

/-- An injected step of a converter ends: what it interrupted resumes (R261). -/
def State.injEnd (s : State) (v : Nat) : State := (s.setConv v { s.conv v with inj := 0, pair := none }).convResume v

/-- Phases that a channel's OW field selects (R270). -/
def owPhases (f : Nat) : List OwPhase :=
  (if f = 1 ∨ f = 2 then [.up] else []) ++ (if f = 1 ∨ f = 3 then [.down] else [])

/-- The OW field of a channel. -/
def State.owField (s : State) (c : Nat) : Nat := if c < 48 then s.getF (F.ADC_OW_CFG_OW (c / 16) (c % 16)) else 0

/-- The next tested channel after the latest, in ascending cyclic order. -/
def State.owNext (s : State) : Option Nat :=
  let start := match s.adc.owLast with
    | some c => c + 1
    | none => 0
  ((List.range 48).map (fun i => (start + i) % 48)).find? (fun c => decide (s.owField c ≠ 0))

/-- A test cycle starts (R270). -/
def State.owStart (s : State) : State :=
  match s.owNext with
  | some c =>
    (({ s with adc := { s.adc with ow := some ⟨c, owPhases (s.owField c) ++ [.recover], false, true⟩, owLast := some c } }
      : State).setFlag F.ADC_STATUS_OW_ACTIVE true).setF F.ADC_STATUS_OW_CHANNEL c
  | none => s

/-- Setting or clearing OPEN of a channel (R271). -/
def State.setOpen (s : State) (c : Nat) (b : Bool) : State :=
  let w := s.getF (F.ADC_OPEN_OPEN (c / 32))
  s.setF (F.ADC_OPEN_OPEN (c / 32)) (if b then w ||| 2 ^ (c % 32) else w - w / 2 ^ (c % 32) % 2 * 2 ^ (c % 32))

/-- The last phase of a cycle ends. [DESIGN CHOICE, log entry 42] -/
def State.owEnd (s : State) : State :=
  let s1 := (({ s with adc := { s.adc with ow := none, owDue := false } } : State).setFlag F.ADC_STATUS_OW_ACTIVE false)
  s1.when s.adc.owDue State.owStart

/-- A conversion of the channel under test completes after OW_SETTLE (R270, R271). -/
def State.owConversion (s : State) (x : OwTest) (code : Nat) : State :=
  let ok := match x.phases with
    | .up :: _ => decide (0x3F00 ≤ code)
    | .down :: _ => decide (code ≤ 0x0100)
    | _ => true
  let pass := x.pass && ok
  let rest := x.phases.drop 1
  let set := fun (s : State) (y : OwTest) => ({ s with adc := { s.adc with ow := some y } } : State)
  match x.phases with
  | .recover :: _ => s.owEnd
  | _ =>
    if rest ≠ [.recover] then set s { x with phases := rest, pass := pass }
    else if !x.repeating then
      if pass then set s { x with phases := owPhases (s.owField x.chan) ++ [.recover], repeating := true, pass := true }
      else (set s { x with phases := rest }).setOpen x.chan false
    else if pass then
      ((((set s { x with phases := rest }).setOpen x.chan true).incF F.ADC_OPEN_CNT_COUNT).event Ev.adc 4).lasting.raise
        Src.adcOpenWire
    else ((set s { x with phases := rest }).incF F.ADC_OPEN_CNT_COUNT).transient

/-- The meaning of OPEN_WIRE_PERIOD (R270): in the operating modes, since the test currents are off up to JOIN (R547). -/
def execOpenWirePeriod (s : State) : Host.Outcome State Fault Refusal :=
  .next (if !s.running || !s.sys.joined || decide (s.mode = .join) then s
    else if s.adc.ow.isSome then { s with adc := { s.adc with owDue := true } } else s.owStart)

/-- The step that completes: its channel, its kind, and the state after its place in the sequence moves on.
[DESIGN CHOICE, log entry 42] -/
def State.convAdvance (s : State) (v : Nat) : Option (Nat × ConvKind × State) :=
  let c := s.conv v
  match c.tail with
  | some (k, ch) => some (ch, k, s.setConv v { c with tail := none })
  | none =>
    match s.getF (F.ADC_CONV_STAT_STATE v) with
    | 1 =>
      let pos := s.getF (F.ADC_CONV_STAT_POS v)
      let more := decide (pos + 1 < s.getF (F.ADC_CONV_CFG_REG_LEN v))
      let s1 := s.setF (F.ADC_CONV_STAT_POS v) (if more then pos + 1 else 0)
      some (s.regEntry v pos, .regular,
        if c.refDue || !(more || s.flag (F.ADC_CONV_CFG_CONT v)) then
          (s1.setConv v { c with wait := more || s.flag (F.ADC_CONV_CFG_CONT v) }).convResume v
        else s1)
    | 2 | 5 =>
      let s1 := s.setConv v { c with inj := c.inj + 1 }
      some (s.getF (F.ADC_ISEQ_ENTRY v c.inj), .injected,
        if c.inj + 1 < s.getF (F.ADC_CONV_CFG_INJ_LEN v) then s1 else s1.injEnd v)
    | 3 => c.ref.map (fun r => (r.chan, .reference, s))
    | 4 => some (s.getF (F.ADC_PAIR_CFG_CHANNEL (v / 2)), .pair, s)
    | _ => none

/-- Whether the step of a converter is one of a group that takes the channel under test in the same step (R270).
[DESIGN CHOICE, log entry 42] -/
def State.owGroup (s : State) (v : Nat) : Bool :=
  decide (s.getF (F.ADC_CONV_STAT_STATE v) = 5) && (List.range 4).any (fun g =>
    s.flag (F.ADC_GROUP_EN g) && (s.seqConvs (.group g)).contains v &&
      (s.seqConvs (.group g)).any (fun u => s.owUnder (s.getF (F.ADC_ISEQ_ENTRY u (s.conv v).inj))))

/-- A pair step of converter v: with both results in, the pair compares, and converter 2p's result is published (R266); neither
happens while the channel is under test, nor from a FAILED converter, which gives no results (R267, R270). -/
def State.pairStep (s : State) (v c code t : Nat) (hi lo under : Bool) : State :=
  let p := v / 2
  let failed := fun (s : State) (v : Nat) => s.flag (F.ADC_CONV_STAT_FAILED v)
  let s1 := s.setConv v { s.conv v with pair := some (code, hi || lo) }
  let s2 := s1.when (decide (v % 2 = 0) && !under && !failed s v) (fun s => s.publish v c code t hi lo true)
  match (s2.conv (2 * p)).pair, (s2.conv (2 * p + 1)).pair with
  | some a, some b =>
    ((s2.when (!under && !failed s (2 * p) && !failed s (2 * p + 1)) (fun s => s.pairCompare p a.1 b.1 (a.2 || b.2))).injEnd
      (2 * p)).injEnd (2 * p + 1)
  | _, _ => s2

/-! Reference checks (R267) -/

/-- Whether a bandgap and a ground code pass. -/
def State.refPass (s : State) (bg gnd : Nat) : Bool :=
  let tol := s.getF F.ADC_REF_CFG_TOL_BG
  decide (6554 ≤ bg + tol) && decide (bg ≤ 6554 + tol) && decide (gnd ≤ s.getF F.ADC_REF_CFG_TOL_GND)

/-- FAILED of a converter. -/
def State.setFailed (s : State) (v : Nat) (b : Bool) : State :=
  let w := s.getF F.ADC_STATUS_FAILED
  (s.setFlag (F.ADC_CONV_STAT_FAILED v) b).setF F.ADC_STATUS_FAILED (if b then w ||| 2 ^ v else w - w / 2 ^ v % 2 * 2 ^ v)

/-- A check of one converter is recorded and judged; `again` says that it is the repeat of a failed one. -/
def State.refJudge (s : State) (v bg gnd : Nat) (again : Bool) : State :=
  let s1 := ((s.setF (F.ADC_REF_GND v) gnd).setF (F.ADC_REF_BG v) bg).incF F.ADC_REF_CHK_CNT_COUNT
  if s.refPass bg gnd then ((s1.setFailed v false).clearLevel (Src.adcRef v)).when again State.transient
  else if !again then s1
  else
    let s2 := s1.lasting
    if s.flag (F.ADC_CONV_STAT_FAILED v) then s2
    else (((s2.setFailed v true).incF F.ADC_REF_FAIL_CNT_COUNT).event Ev.adc 6).raiseLevel (Src.adcRef v)

/-- A conversion of a running check: the second one ends the check or begins its repeat, and the end lets the converter go on. -/
def State.refConversion (s : State) (v code : Nat) : State :=
  let c := s.conv v
  match c.ref with
  | none => s
  | some r =>
    match r.codes with
    | [] => s.setConv v { c with ref := some { r with codes := [code] } }
    | bg :: _ =>
      let s1 := s.refJudge v bg code r.again
      if s.refPass bg code ∨ r.again then
        (s1.setConv v { c with ref := none }).when (decide (s.getF (F.ADC_CONV_STAT_STATE v) = 3)) (fun s => s.convResume v)
      else s1.setConv v { c with ref := some { codes := [], again := true } }

/-- The two conversions of a check of converter v: counted, and flagged beyond the full scale while it is not FAILED (R268). -/
def State.refConverts (s : State) (v : Nat) (inputs : Int × Int) : State :=
  (((s.convCount v 2).when (outOfRange inputs.1 && !s.flag (F.ADC_CONV_STAT_FAILED v)) (fun s => s.overRange 58)).when
    (outOfRange inputs.2 && !s.flag (F.ADC_CONV_STAT_FAILED v)) (fun s => s.overRange 63))

/-- A whole check of one converter at once, as at the end of LOAD and in the self-test: the inputs in µV of the check and of its
immediate repeat as (channel 58, channel 63). -/
def State.refOne (s : State) (v : Nat) (first again : Int × Int) : State :=
  let s1 := (s.refConverts v first).refJudge v (adcCode first.1) (adcCode first.2) false
  if s.refPass (adcCode first.1) (adcCode first.2) then s1
  else (s1.refConverts v again).refJudge v (adcCode again.1) (adcCode again.2) true

/-- The converters in use. -/
def State.convsOn (s : State) : List Nat := (List.range 8).filter (fun v => s.flag (F.ADC_CONV_CFG_ENABLE v))

/-- The checks of every enabled converter at the end of LOAD; REF_DONE shows that all passed (R267, R276). -/
def State.refAll (s : State) (first again : List (Int × Int)) : State :=
  let s1 := s.each s.convsOn (fun s v => s.refOne v (first.getD v (0, 0)) (again.getD v (0, 0)))
  s1.setFlag F.ADC_STATUS_REF_DONE (s.convsOn.all (fun v => !s1.flag (F.ADC_CONV_STAT_FAILED v)))

/-- REFERENCE_CHECK: a check falls due on every enabled converter that runs none; an idle one begins it at once (R262, R267).
[DESIGN CHOICE, log entry 42] -/
def State.referenceCheck (s : State) : State :=
  s.each (s.convsOn.filter (fun v => (s.conv v).ref.isNone)) (fun s v =>
    (s.setConv v { s.conv v with refDue := true }).when (decide (s.getF (F.ADC_CONV_STAT_STATE v) = 0)) (fun s => s.convResume v))

/-- The meaning of REFERENCE_CHECK (R267): every 10 ms from the entry into JOIN. -/
def execReferenceCheck (s : State) : Host.Outcome State Fault Refusal :=
  .next (if s.running && s.sys.joined then s.referenceCheck else s)

/-! The end of a conversion (R256, R258, R268, R269) -/

/-- CONVERSION_COMPLETE (R256, R258, R268, R269): converter v's conversion in hand ends; `input` is the sampled input in µV, `t` the
Flue time in ns of its window's end, `settled` that OW_SETTLE has passed in the phase of a test on its channel. A FAILED converter
gives no result, and a conversion of a check none that is published (R267). -/
def State.conversion (s : State) (v : Nat) (input : Int) (t : Nat) (settled : Bool) : State :=
  if !s.running || 8 ≤ v then s
  else
    match s.convAdvance v with
    | none => s
    | some (c, k, s1) =>
      let code := adcCode input
      let hi := adcHi input
      let lo := adcLo input
      let under := s.owUnder c
      let failed := s.flag (F.ADC_CONV_STAT_FAILED v)
      let s2 := (s1.convCount v 1).when (outOfRange input && !under && !failed) (fun s => s.overRange c)
      let s3 :=
        match k with
        | .reference => s2.refConversion v code
        | .pair => s2.pairStep v c code t hi lo under
        | _ =>
          let shunt := decide (48 ≤ c) && decide (c ≤ 50) && decide (s.getF (F.ADC_TRIG_INJ_TRIG v) = c - 45)
          s2.when (!under && !failed && !(decide (k = .injected) && s.owGroup v)) (fun s =>
            (s.publish v c code t hi lo (decide (k = .injected))).when (decide (k = .injected) && shunt) (fun s =>
              s.shuntSample (c - 48) code))
      match s.adc.ow with
      | some x => s3.when (under && settled) (fun s => s.owConversion x code)
      | none => s3

/-- A channel's voltage: code × 20 × 3.000 V ÷ 16,384, which is code × 15 ÷ 4,096 exactly, as a float (R257). -/
def motVolts (code : Nat) : Word := fMul (fOfInt (15 * code)) 0x39800000

/-! Intake (R269) -/

/-- The result word of channel c with its AGE at Flue time t in ns (R275): `time` is the end of its window. -/
def agedResult (w : Word) (time t : Nat) : Word :=
  if (F.ADC_RESULT_VALID 0).get w = 1 then (F.ADC_RESULT_AGE 0).put w (min 255 ((t - time) / 1000)) else w

/-- The intake values of channels and pairs: source number, value, age flag. -/
def State.adcValues (s : State) (t : Nat) : List (Nat × Word × Bool) :=
  (List.range 64).map (fun c =>
    let w := s.reg (F.ADC_RESULT_CODE c).addr
    (c, agedResult w (s.adc.times.getD c 0) t, !s.flag (F.ADC_RESULT_VALID c) ||
      s.flag (F.ADC_CONV_STAT_FAILED (s.getF (F.ADC_RESULT_CONV c))) || bit (s.getF (F.ADC_OPEN_OPEN (c / 32))) (c % 32))) ++
  (List.range 4).map (fun p => (0x98 + p, w32 ((s.reg (F.ADC_PAIR_STAT_DIFF p).addr).toNat % 65536), false))

/-- The intake at Flue time t: what a conversion of the intake point's fabric cycle changed stands as it was before it. -/
def State.adcIntake (s : State) (t : Nat) : List (Nat × Word × Bool) :=
  (s.adcValues t).map (fun x => (s.adc.before.find? (fun y => decide (y.1 = x.1))).getD x)

/-- Flue time in ns at which the next tick starts. -/
def State.nextTick (s : State) : Nat := s.flu.cycle * 125000 + (if s.gr.boundary then 0 else 31250 * (s.gr.j + 1))

/-- Whether two times in ns lie in one fabric cycle of 2.5 ns. -/
def sameFabric (a b : Nat) : Bool := decide (2 * a / 5 = 2 * b / 5)

/-- The values that a conversion changes are kept for the coming intake: its result belongs to the next one (R269).
[DESIGN CHOICE, log entry 42] -/
def State.keepIntake (s before : State) : State :=
  let t := s.nextTick
  let old := ((before.adcIntake t).zip (s.adcValues t)).filterMap (fun x =>
    if x.1 = x.2 ∨ before.adc.before.any (fun y => decide (y.1 = x.1.1)) then none else some x.1)
  { s with adc := { s.adc with before := before.adc.before ++ old } }

/-- The meaning of CONVERSION_COMPLETE (R258, R269): the result is written 225 ns after the window's end. -/
def execConversionComplete (v : Nat) (input : Int) (t : Nat) (settled : Bool) (s : State) :
    Host.Outcome State Fault Refusal :=
  .next ((s.conversion v input t settled).when (sameFabric (t + 225) s.nextTick) (fun u => u.keepIntake s))

/-- AGE of every published result at a tick start of Flue time t in ns (R275). -/
def State.adcTick (s : State) (t : Nat) : State :=
  s.each ((List.range 64).filter (fun c => s.flag (F.ADC_RESULT_VALID c))) (fun s c =>
    s.setReg (F.ADC_RESULT_AGE c).addr (agedResult (s.reg (F.ADC_RESULT_AGE c).addr) (s.adc.times.getD c 0) t))

end Sys2Proof.Machine
end

