-- ==== Sys2Proof/Machine/GateDrive.lean ====
section
/-!
DEFINITION. The commands of the power die: gate drivers, links and choppers, solenoids, enables, sensor supplies and the
cross-disable input (R231 to R250, R381 to R385).
-/
namespace Sys2Proof.Machine

open Sys2Proof

/-! Gate drivers -/

/-- Whether a gate's detectors watch: a gate of a bridge that is in RUN or ASC. -/
def State.gateLive (s : State) (g : Nat) : Bool := s.running && decide (g < 18) && decide (s.getF (F.MOT_STATUS_STATE (g / 6)) ≠ 0)

/-- DESAT (R237): counted, OFF imposed on the bridge, raised. -/
def State.desat (s : State) (g : Nat) : State :=
  if s.gateLive g then s.raiseHold (Src.gate (g / 6) 0) else s

/-- The meaning of DESAT (R237). -/
def execDesat (gate : Nat) (s : State) : Host.Outcome State Fault Refusal := .next (s.desat gate)

/-- OVERCURRENT (R238): counted, OFF imposed on the bridge, raised; the comparator watches in every bridge state. -/
def State.overcurrent (s : State) (b : Nat) : State :=
  if s.running ∧ b < 3 then s.raiseHold (Src.gate b 1) else s

/-- The meaning of OVERCURRENT (R238). -/
def execOvercurrent (bridge : Nat) (s : State) : Host.Outcome State Fault Refusal := .next (s.overcurrent bridge)

/-- GATE_STUCK (R231): the gate is still sensed on 1 µs after its turn-off command. -/
def State.gateStuck (s : State) (g : Nat) : State :=
  if s.running ∧ g < 18 then
    let s1 : State := { s with gdr := { s.gdr with stuck := if s.gdr.stuck.contains g then s.gdr.stuck else s.gdr.stuck ++ [g] } }
    s1.raiseHold (Src.gate (g / 6) 2)
  else s

/-- The meaning of GATE_STUCK (R231). -/
def execGateStuck (gate : Nat) (s : State) : Host.Outcome State Fault Refusal := .next (s.gateStuck gate)

/-- The other side of a half-bridge (R230). -/
def otherSide (g : Nat) : Nat := if g % 2 = 0 then g + 1 else g - 1

/-- SHOOT_THROUGH_ATTEMPT (R232): the later command is ignored; with both in one clock neither side turns on. -/
def State.shootThrough (s : State) (g : Nat) (both : Bool) : State :=
  if s.running ∧ g < 18 then
    let held := s.gdr.shootHeld ++ [g] ++ (if both then [otherSide g] else [])
    ((({ s with gdr := { s.gdr with shootHeld := held } } : State).incF F.GDR_SHOOT_CNT_COUNT).event Ev.gdr 1).raise
      (Src.gate (g / 6) 3) |>.refreshPower
  else s

/-- The meaning of SHOOT_THROUGH_ATTEMPT (R232). -/
def execShootThroughAttempt (gate : Nat) (both : Bool) (s : State) : Host.Outcome State Fault Refusal :=
  .next (s.shootThrough gate both)

/-- BOOT_REFRESH (R234): VBS of a high side is at the threshold; a pulse is due in the next falling half of the bridge. -/
def State.bootRefresh (s : State) (g : Nat) : State :=
  if s.running ∧ g < 18 ∧ g % 2 = 1 ∧ s.flag (F.GDR_GATE_REFRESH g) = false then
    (((s.setFlag (F.GDR_GATE_REFRESH g) true).setF (F.GDR_GATE_VBS g) (s.getF F.GDR_CFG_BOOT_REFRESH)).event Ev.gdr 3).raise
      (Src.gate (g / 6) 4)
  else s

/-- The meaning of BOOT_REFRESH (R234). -/
def execBootRefresh (gate : Nat) (s : State) : Host.Outcome State Fault Refusal := .next (s.bootRefresh gate)

/-- BOOT_UV (R235): the first time the driver acts alone and the next half is the second attempt; again before that half
ends, the fault is lasting and OFF is imposed. -/
def State.bootUv (s : State) (g : Nat) : State :=
  if s.running ∧ g < 18 ∧ g % 2 = 1 then
    let s1 := (s.setFlag (F.GDR_GATE_UV g) true).setF (F.GDR_GATE_VBS g) (s.getF F.GDR_CFG_BOOT_UV)
    if s.gdr.bootTry.contains (g, 0) then s
    else if s.gdr.bootTry.contains (g, 1) then
      (({ s1 with gdr := { s1.gdr with bootTry := s1.gdr.bootTry.filter (fun x => decide (x.1 ≠ g)) } } : State).lasting).raiseHold
        (Src.gate (g / 6) 5)
    else
      ((({ s1 with gdr := { s1.gdr with bootTry := s1.gdr.bootTry ++ [(g, 0)] } } : State).detected (Src.gate (g / 6) 5)).raise
        (Src.gate (g / 6) 5)).refreshPower
  else s

/-- The meaning of BOOT_UV (R235). -/
def execBootUv (gate : Nat) (s : State) : Host.Outcome State Fault Refusal := .next (s.bootUv gate)

/-! Links and choppers -/

/-- What a detector sees on a link, in 0.25 V units: TRIP ends where the voltage is not above OV_TRIP. -/
def State.linkSeen (s : State) (l u : Nat) : State :=
  let s1 : State := { s with gdr := { s.gdr with linkU := s.gdr.linkU.set l u } }
  s1.when (decide (u ≤ s.getF (F.GDR_LINK_CFG_OV_TRIP l))) (fun s => s.setFlag (F.GDR_LINK_STAT_TRIP l) false)

/-- CHOPPER_SWITCH (R239): on above CH_ON, off below CH_OFF. -/
def State.chopperSwitch (s : State) (l u : Nat) : State :=
  if s.running ∧ l < 2 then
    let s1 := s.linkSeen l u
    if s.getF (F.GDR_LINK_CFG_CH_ON l) < u then s1.setFlag (F.GDR_LINK_STAT_CH_ON l) true
    else if u < s.getF (F.GDR_LINK_CFG_CH_OFF l) then s1.setFlag (F.GDR_LINK_STAT_CH_ON l) false
    else s1
  else s

/-- The meaning of CHOPPER_SWITCH (R239). -/
def execChopperSwitch (link u : Nat) (s : State) : Host.Outcome State Fault Refusal := .next (s.chopperSwitch link u)

/-- CHOPPER_FAIL (R240): the reaction threshold drops to CH_ON while the source holds. -/
def State.chopperFail (s : State) (l : Nat) : State :=
  if s.running ∧ l < 2 then s.raiseHold (Src.link l 0) else s

/-- The meaning of CHOPPER_FAIL (R240). -/
def execChopperFail (link : Nat) (s : State) : Host.Outcome State Fault Refusal := .next (s.chopperFail link)

/-- The reaction threshold of a link: CH_ON while CHOPPER_FAIL holds, else OV_ASC (R240). -/
def State.linkThreshold (s : State) (l : Nat) : Nat :=
  if s.flag (F.GDR_LINK_STAT_CH_FAIL l) then s.getF (F.GDR_LINK_CFG_CH_ON l) else s.getF (F.GDR_LINK_CFG_OV_ASC l)

/-- LINK_OV (R240): at the reaction threshold link 0 imposes OFF on ST, link 1 ASC on BK and AX. -/
def State.linkOv (s : State) (l u : Nat) : State :=
  if s.running ∧ l < 2 then
    let s1 := s.linkSeen l u
    s1.when (decide (s1.linkThreshold l ≤ u)) (fun s => (s.raiseHold (Src.link l 1)).refreshLinks)
  else s

/-- The meaning of LINK_OV (R240). -/
def execLinkOv (link u : Nat) (s : State) : Host.Outcome State Fault Refusal := .next (s.linkOv link u)

/-- LINK_TRIP (R240): above OV_TRIP OFF is imposed on all three bridges. -/
def State.linkTrip (s : State) (l u : Nat) : State :=
  if s.running ∧ l < 2 then
    let s1 := s.linkSeen l u
    s1.when (decide (s1.getF (F.GDR_LINK_CFG_OV_TRIP l) < u)) (fun s =>
      ((s.setFlag (F.GDR_LINK_STAT_TRIP l) true).raiseHold (Src.link l 2)).refreshLinks)
  else s

/-- The meaning of LINK_TRIP (R240). -/
def execLinkTrip (link u : Nat) (s : State) : Host.Outcome State Fault Refusal := .next (s.linkTrip link u)

/-! Solenoids, enables and sensor supplies -/

/-- Whether a channel diagnoses (R246): DIAG = 1. -/
def State.solDiag (s : State) (k : Nat) : Bool := s.running && decide (k < 12) && s.flag (F.GDR_SOL_CFG_DIAG k)

/-- SOL_SHORT (R246): both switches open, cleared per R243. -/
def State.solShort (s : State) (k : Nat) : State :=
  if s.solDiag k then s.raiseHold (Src.sol k 0) else s

/-- The meaning of SOL_SHORT (R246). -/
def execSolShort (channel : Nat) (s : State) : Host.Outcome State Fault Refusal := .next (s.solShort channel)

/-- SOL_OPEN (R246): reported only; the condition begins or ends. -/
def State.solOpen (s : State) (k : Nat) (holds : Bool) : State :=
  if s.solDiag k then
    let s1 := s.setFlag (F.GDR_SOL_STAT_OPEN k) holds
    if holds then (s1.event Ev.gdr 8).raiseLevel (Src.sol k 1) else s1.clearLevel (Src.sol k 1)
  else s

/-- The meaning of SOL_OPEN (R246). -/
def execSolOpen (channel : Nat) (holds : Bool) (s : State) : Host.Outcome State Fault Refusal := .next (s.solOpen channel holds)

/-- SOL_DEVIATION (R246): reported only; the condition begins or ends. -/
def State.solDeviation (s : State) (k : Nat) (holds : Bool) : State :=
  if s.solDiag k then
    let s1 := s.setFlag (F.GDR_SOL_STAT_DEV k) holds
    if holds then (s1.event Ev.gdr 8).raiseLevel (Src.sol k 2) else s1.clearLevel (Src.sol k 2)
  else s

/-- The meaning of SOL_DEVIATION (R246). -/
def execSolDeviation (channel : Nat) (holds : Bool) (s : State) : Host.Outcome State Fault Refusal :=
  .next (s.solDeviation channel holds)

/-- EN_READBACK (R247): the readback has stood at `rb` for longer than RB_TIME; it differs from the output, or agrees again. -/
def State.enReadback (s : State) (e : Nat) (rb : Bool) : State :=
  if s.running ∧ e < 4 then
    let s1 := s.setFlag (F.GDR_EN_STAT_RB e) rb
    let differs := (rb != s.flag (F.GDR_EN_CFG_RB_INVERT e)) != s.flag (F.GDR_EN_STAT_OUT e)
    let s2 := s1.setFlag (F.GDR_EN_STAT_MISMATCH e) differs
    if differs then (s2.event Ev.gdr 9).raiseLevel (Src.enReadback e) else s2.clearLevel (Src.enReadback e)
  else s

/-- The meaning of EN_READBACK (R247). -/
def execEnReadback (enable : Nat) (rb : Bool) (s : State) : Host.Outcome State Fault Refusal := .next (s.enReadback enable rb)

/-- SS_FAULT (R248): a limit held for 5 ms switches the supply off. -/
def State.ssFault (s : State) (i : Nat) : State :=
  if s.running ∧ i < 4 ∧ s.gdr.ssOn.contains i then s.raiseHold (Src.ssFault i) else s

/-- The meaning of SS_FAULT (R248). -/
def execSsFault (supply : Nat) (s : State) : Host.Outcome State Fault Refusal := .next (s.ssFault supply)

/-- SUPPLY_TEST (R249): a request; ignored where PULSED is 0 or a pulse of that supply runs or waits. [DEDUCED, log entry 28] -/
def State.supplyTest (s : State) (i : Nat) : State :=
  if s.flag (F.GDR_SS_CFG_PULSED i) ∧ s.flag (F.GDR_SS_STAT_PULSING i) = false then s.setFlag (F.GDR_SS_STAT_WAITING i) true
  else s

/-- The first waiting supply. -/
def State.ssWaiting (s : State) : Option Nat := [0, 1, 2, 3].find? (fun i => s.flag (F.GDR_SS_STAT_WAITING i))

/-- Whether a pulse may start now (R249, R411): none runs, and with STAGGER tick 0 of a cycle with C mod 8 = 2 × (ID - 1) in
which none has started. -/
def State.pulseMay (s : State) : Bool :=
  [0, 1, 2, 3].all (fun i => !s.flag (F.GDR_SS_STAT_PULSING i)) &&
    (!s.flag F.SAF_PULSE_CFG_STAGGER ||
      (decide (s.gr.j = 0) && decide (s.flu.cycle % 8 = 2 * (s.getF F.SYS_MODE_CHANNEL_ID - 1))
        && decide (s.gdr.pulseCycle ≠ some s.flu.cycle)))

/-- TEST_PULSE_START (R411): the lowest waiting supply is pulled down; `low` says that the output falls below 0.5 V. -/
def State.pulseStart (s : State) (low : Bool) : State :=
  match s.ssWaiting with
  | some i =>
    if s.running && s.pulseMay then
      ((({ s with gdr := { s.gdr with pulseCycle := some s.flu.cycle } } : State).setFlag (F.GDR_SS_STAT_WAITING i) false).setFlag
        (F.GDR_SS_STAT_PULSING i) true).setFlag (F.GDR_SS_STAT_LOW_REACHED i) low |>.refreshSupply i
    else s
  | none => s

/-- The meaning of TEST_PULSE_START (R411). -/
def execTestPulseStart (low : Bool) (s : State) : Host.Outcome State Fault Refusal := .next (s.pulseStart low)

/-- TEST_PULSE_RELEASE (R249): the pulsed supply is released. -/
def State.pulseRelease (s : State) : State :=
  s.each [0, 1, 2, 3] (fun s i => s.setFlag (F.GDR_SS_STAT_PULSING i) false)

/-- The meaning of TEST_PULSE_RELEASE (R249). -/
def execTestPulseRelease (s : State) : Host.Outcome State Fault Refusal :=
  .next (if s.running then s.pulseRelease else s)

/-! The cross-disable input (R242, R382, R384, R385) -/

/-- XDIS_OK and its halves (R384): high accepted in JOIN at once. -/
def State.xdisJoin (s : State) : State :=
  let s1 := s.when (s.flag F.GDR_XDIS_IN && decide (s.mode = .join)) (fun s => s.setFlag F.LDS_XDIS_SEEN_HIGH true)
  s1.setFlag F.LDS_STATUS_XDIS_OK (s1.flag F.LDS_XDIS_SEEN_LOW && s1.flag F.LDS_XDIS_SEEN_HIGH)

/-- At the end of a cycle, with the lead frames heard in it: low accepted while one carries XDIS_LOW; high accepted in a test window,
a cycle whose lead frames carry neither XDIS_LOW nor HO_REQ (R384). [DEDUCED, log entry 26] -/
def State.xdisOkSeen (s : State) (leads : List ChFrame) : State :=
  let low := leads.any (fun f => bit f.flags 4)
  let window := !leads.isEmpty && leads.all (fun f => !bit f.flags 4 && !bit f.flags 3)
  let s1 := s.when (s.lds.inLow && low) (fun s => s.setFlag F.LDS_XDIS_SEEN_LOW true)
  let s2 := (s1.when (s.lds.inHigh && window) (fun s => s.setFlag F.LDS_XDIS_SEEN_HIGH true)).xdisJoin
  { s2 with lds := { s2.lds with inLow := s.gdr.xdisIn, inHigh := s.flag F.GDR_XDIS_IN } }

/-- XDIS_IN_LOW (R242): the gate enable, the solenoids and the enables go; XDIS is imposed on every bridge.
[DESIGN CHOICE, log entry 43] -/
def State.xdisInLow (s : State) : State :=
  if s.running ∧ s.gdr.xdisIn = false then
    let s1 : State := { s with gdr := { s.gdr with xdisIn := true }, lds := { s.lds with inLow := true } }
    ((((s1.setFlag F.GDR_XDIS_IN false).setFlag F.LDS_XDIS_IN_LOW true).event Ev.gdr 11).event Ev.lds 6).refreshPower
  else s

/-- The meaning of XDIS_IN_LOW (R242). -/
def execXdisInLow (s : State) : Host.Outcome State Fault Refusal := .next s.xdisInLow

/-- XDIS_IN_HIGH (R382): the imposition lifts, and each bridge resumes at its next half boundary. -/
def State.xdisInHigh (s : State) : State :=
  if s.running then
    let s1 : State := { s with gdr := { s.gdr with xdisIn := false, resume := s.gdr.resume || s.gdr.xdisIn },
                                lds := { s.lds with inHigh := true } }
    (((s1.setFlag F.GDR_XDIS_IN true).setFlag F.LDS_XDIS_IN_LOW false).xdisJoin).refreshPower
  else s

/-- The meaning of XDIS_IN_HIGH (R382). -/
def execXdisInHigh (s : State) : Host.Outcome State Fault Refusal := .next s.xdisInHigh

/-- XDIS_GRACE_EXPIRY (R385): XDIS_IN is still low in a lead mode, outside a handover that this device commanded. -/
def State.xdisGrace (s : State) : State :=
  if s.running ∧ s.mode.isLead = true ∧ s.gdr.xdisIn = true ∧ s.flag F.LDS_STATUS_HO_PENDING = false then
    s.raise Src.leadSuperseded
  else s

/-- The meaning of XDIS_GRACE_EXPIRY (R385). -/
def execXdisGraceExpiry (s : State) : Host.Outcome State Fault Refusal := .next s.xdisGrace

end Sys2Proof.Machine
end

