-- ==== Sys2Proof/Machine/Position.lean ====
section
/-!
DEFINITION. The position interfaces (R178 to R202): counting, index, serial words, probe, compare and pass-through.
-/
namespace Sys2Proof.Machine

open Sys2Proof

/-- An interface's hidden state. -/
def State.pos (s : State) (i : Nat) : Pos := s.poss.getD i {}

/-- Storing it. -/
def State.setPos (s : State) (i : Nat) (p : Pos) : State := { s with poss := s.poss.set i p }

/-- Whether interface i is active in a MODE. -/
def State.posIn (s : State) (i : Nat) (modes : List Nat) : Bool :=
  s.running && decide (i < 4) && s.flag (F.POS_STATUS_ACTIVE i) && modes.contains (s.getF (F.POS_CFG_MODE i))

/-- COUNT as a number. -/
def State.count (s : State) (i : Nat) : Int := (s.reg (F.POS_COUNT_COUNT i).addr).toInt

/-- Flue time in 10 ns units, 32 bits. -/
def tenNs (t : Nat) : Word := w32 (t / 10)

/-! Compare (R193 to R195) -/

/-- The compare fires at Flue time t in ns (R193); POSn_CMP is high until `cmpEnd`. [DESIGN CHOICE, log entry 41] -/
def State.cmpFire (s : State) (i t : Nat) : State :=
  let s1 := (((s.event (Ev.pos i) 9).setReg (F.POS_CMP_LAST_TIME i).addr (tenNs t)).incF (F.POS_CMP_FIRE_CNT_COUNT i)).setFlag
    (F.POS_STATUS_CMP_BEHIND i) false
  let pulse := s.getF (F.POS_CMP_CFG_PULSE i)
  let s1 := s1.when (decide (0 < pulse)) (fun s => s.setPos i { s.pos i with cmpEnd := t + 10 * pulse })
  let s2 := if s.flag (F.POS_CMP_CFG_AUTO i) then
      s1.setReg (F.POS_CMP_POS_POS i).addr (s.reg (F.POS_CMP_POS_POS i).addr + s.reg (F.POS_CMP_INCR_INCR i).addr)
    else s1.setFlag (F.POS_STATUS_CMP_ARMED i) false
  s2.adcTrigger (0x0A + i)

/-- Whether a step from `old` to the unwrapped `new` reaches or crosses the compare position (R193).
[DESIGN CHOICE, log entry 41] -/
def cmpHit (old new : Int) (pos : Word) : Bool :=
  decide (BitVec.ofInt 32 new = pos) || (decide (old < pos.toInt) && decide (pos.toInt < new)) ||
    (decide (new < pos.toInt) && decide (pos.toInt < old))

/-- POS_COMPARE's effect (R94, R194): the position is armed; behind a moving shaft CMP_BEHIND sets. -/
def State.compareWrite (s : State) (i : Nat) (w : Word) : State :=
  let dir := s.flag (F.POS_STATUS_DIR i)
  let behind := s.flag (F.POS_STATUS_DIR_VALID i) &&
    (if dir then decide (w.toInt < s.count i) else decide (s.count i < w.toInt))
  let s1 := ((s.setReg (F.POS_CMP_POS_POS i).addr w).setFlag (F.POS_STATUS_CMP_ARMED i) true).setFlag
    (F.POS_STATUS_CMP_BEHIND i) behind
  s1.when behind (fun s => (s.event (Ev.pos i) 10).incF (F.POS_CMP_BEHIND_CNT_COUNT i))

/-! Counting (R182, R183) -/

/-- COUNT changes in the filter clock of Flue time t; a probe edge of the same clock that has been latched takes the count after it
(R192). -/
def State.setCount (s : State) (i t : Nat) (w : Word) : State :=
  (s.setReg (F.POS_COUNT_COUNT i).addr w).when (s.flag (F.POS_STATUS_PRB_FULL i) && decide (t / 10 = (s.pos i).prbAt / 10))
    (fun s => s.setReg (F.POS_PRB_COUNT_VALUE i).addr w)

/-- An accepted count step to the unwrapped count `new`: time, POS_EDGES, direction, compare. `setsDir` is false only in speed-pulse mode with SPEED_DIR = 0, where
DIR_VALID stays 0. -/
def State.countStep (s : State) (i t : Nat) (new : Int) (up setsDir : Bool) : State :=
  let old := s.count i
  let p := s.pos i
  let s1 := (((s.setCount i t (BitVec.ofInt 32 new)).setReg (F.POS_EDGE_TIME_TIME i).addr (tenNs t)).setReg
    (F.POS_EDGES_COUNT i).addr (s.reg (F.POS_EDGES_COUNT i).addr + 1)).setPos i { p with log := (tenNs t :: p.log).take 8 }
  let changed := decide (s.flag (F.POS_STATUS_DIR i) ≠ up)
  let s2 := (s1.setFlag (F.POS_STATUS_DIR i) up).when setsDir (fun s => s.setFlag (F.POS_STATUS_DIR_VALID i) true)
  let s3 := s2.when changed (fun s => (s.event (Ev.pos i) 0).incF (F.POS_DIR_CNT_COUNT i))
  s3.when (s.flag (F.POS_STATUS_CMP_ARMED i) && cmpHit old new (s.reg (F.POS_CMP_POS_POS i).addr)) (fun s => s.cmpFire i t)

/-- One step up or down. [DESIGN CHOICE, log entry 41] -/
def State.countOne (s : State) (i t : Nat) (up setsDir : Bool) : State :=
  s.countStep i t (s.count i + (if up then 1 else -1)) up setsDir

/-- For how many filter clocks the levels of A, B and I in bits 0 to 2 have stood at Flue time t in ns: `held` where a level is new,
else since it was first sampled (R180). [DESIGN CHOICE, log entry 41] -/
def State.stood (s : State) (i t v held : Nat) : List Nat :=
  (List.range 3).map (fun k =>
    if bit v k = bit (s.getF (F.POS_LEVELS_RAW i)) k then (t - (s.pos i).since.getD k 0) / 10 + 1 else held)

/-- Synchronised levels of A, B and I that have stood for the given filter clocks at Flue time t: RAW, and the pins of a re-driving
pass-through (R196, R201). -/
def State.setRaw (s : State) (i t v held : Nat) : State :=
  let since := (List.range 3).map (fun k =>
    if bit v k = bit (s.getF (F.POS_LEVELS_RAW i)) k then (s.pos i).since.getD k 0 else t - 10 * (held - 1))
  let s1 := (s.setF (F.POS_LEVELS_RAW i) v).setPos i { s.pos i with since := since }
  s1.when (s.pos i).ptPins.isSome (fun s => s.setPos i { s.pos i with ptPins := some v })

/-- Accepted levels, as FILTERED shows them. -/
def State.setLevels (s : State) (i v : Nat) : State :=
  s.setF (F.POS_LEVELS_FILTERED i) (s.getF (F.POS_LEVELS_FILTERED i) % 2 + 2 * v)

/-- Whether the filter of an input (0 A, 1 B, 2 I, 3 PRB) accepts a level sampled unchanged for `held` filter clocks (R180). -/
def State.accepts (s : State) (i k held : Nat) : Bool :=
  decide (max 1 (s.getF (match k with
    | 0 => F.POS_FILTER_N_A i
    | 1 => F.POS_FILTER_N_B i
    | 2 => F.POS_FILTER_N_I i
    | _ => F.POS_FILTER_N_PRB i)) ≤ held)

/-- The levels the filters pass on: each input its present one where that has stood long enough, else the one accepted before. -/
def State.filterLevels (s : State) (i old v : Nat) (stood : List Nat) : Nat :=
  maskOf ((List.range 3).map (fun k => if s.accepts i k (stood.getD k 0) then bit v k else bit old k))

/-- The accepted levels of A, B and I. -/
def State.levels (s : State) (i : Nat) : Nat := s.getF (F.POS_LEVELS_FILTERED i) / 2

/-- The place of (A, B) in the sequence in which A leads B. -/
def quadPhase (v : Nat) : Nat :=
  match v % 4 with
  | 0 => 0 | 1 => 1 | 3 => 2 | _ => 3

/-- The sector of U, V, W as bits 0 to 2; 7 where invalid (R182, R201). [DESIGN CHOICE, log entry 41] -/
def hallSector (v : Nat) : Nat :=
  match v % 8 with
  | 1 => 0 | 3 => 1 | 2 => 2 | 6 => 3 | 4 => 4 | 5 => 5 | _ => 7

/-- QUAD_ERROR and HALL_ERROR (R182). -/
def State.quadError (s : State) (i : Nat) : State :=
  ((s.incF (F.POS_QUAD_ERR_CNT_COUNT i)).event (Ev.pos i) 1).raise (Src.pos i 0)
def State.hallError (s : State) (i : Nat) : State :=
  ((s.incF (F.POS_HALL_ERR_CNT_COUNT i)).event (Ev.pos i) 2).raise (Src.pos i 1)

/-! Index (R184 to R186) -/

/-- d of a count against INDEX_POS, mapped into -CPR ÷ 2 … CPR ÷ 2 - 1 (R184); with an odd CPR into -(CPR - 1) ÷ 2 …
(CPR - 1) ÷ 2. [DESIGN CHOICE, log entry 41] -/
def indexError (c : Int) (ipos cpr : Nat) : Int :=
  let r := (c - (ipos : Int)) % (cpr : Int)
  if 2 * r < (cpr : Int) then r else r - (cpr : Int)

/-- An index pulse disagrees: INDEX_MISMATCH. [DESIGN CHOICE, log entry 41] -/
def State.indexMismatch (s : State) (i : Nat) : State :=
  (((s.setFlag (F.POS_STATUS_INDEX_MISMATCH i) true).incF (F.POS_INDEX_MM_CNT_COUNT i)).event (Ev.pos i) 3).raise (Src.pos i 2)

/-- Holding c as the candidate. -/
def State.holdCand (s : State) (i : Nat) (c : Word) : State :=
  (s.setPos i { s.pos i with cand := c }).setFlag (F.POS_STATUS_CAND i) true

/-- An accepted rising edge of I in the filter clock of Flue time t, judged against INDEX_POS and the candidate where its gate is open (R184, R185). -/
def State.indexEdge (s : State) (i t : Nat) : State :=
  let cpr := s.getF (F.POS_CPR_CPR i)
  let gated := s.flag (F.POS_INDEX_CFG_GATE_EN i) && decide (s.levels i % 4 ≠ s.getF (F.POS_INDEX_CFG_GATE_AB i))
  if cpr = 0 ∨ gated then s
  else
    let c := s.reg (F.POS_COUNT_COUNT i).addr
    let d := indexError (s.count i) (s.getF (F.POS_INDEX_CFG_INDEX_POS i)) cpr
    let s1 := s.setReg (F.POS_INDEX_LAST_COUNT i).addr c
    let cand := s.flag (F.POS_STATUS_CAND i)
    let homed := s.flag (F.POS_STATUS_HOMED i)
    let gap := c - (s.pos i).cand
    let agree := cand && (decide (gap = 0) || decide (gap = w32 cpr) || decide (gap = 0 - w32 cpr))
    if homed && decide (d = 0) then
      (s1.setFlag (F.POS_STATUS_INDEX_MISMATCH i) false).setFlag (F.POS_STATUS_CAND i) false
    else if agree then
      ((((((s1.setCount i t (c - BitVec.ofInt 32 d)).setReg (F.POS_REALIGN_DELTA_DELTA i).addr
        (BitVec.ofInt 32 (-d))).incF (F.POS_REALIGN_CNT_COUNT i)).event (Ev.pos i) 4).setFlag (F.POS_STATUS_INDEX_MISMATCH i)
        false).setFlag (F.POS_STATUS_CAND i) false).setFlag (F.POS_STATUS_HOMED i) true
    else (s1.holdCand i c).when (homed || cand) (fun s => s.indexMismatch i)

/-- A change of I alone, sampled unchanged for `held` filter clocks up to Flue time t in ns. -/
def State.indexChange (s : State) (i t : Nat) (rising : Bool) (held : Nat) : State :=
  if !s.posIn i [1] then s
  else
    let v := s.getF (F.POS_LEVELS_RAW i) % 4 + 4 * b2n rising
    let s1 := s.setRaw i t v held
    if !s.accepts i 2 ((s.stood i t v held).getD 2 0) then s1
    else
      let s2 := s1.setLevels i (s.levels i % 4 + 4 * b2n rising)
      if rising && !bit (s.levels i) 2 then s2.indexEdge i t else s2

/-! Input changes (R182, R186) -/

/-- Levels of A, B and I at Flue time t in ns, of which the new ones have been sampled unchanged for `held` filter clocks; what the
filters accept of A, B and I in that clock comes together, the count step first, then the index edge. In serial mode data and clock
bypass the filters. [DESIGN CHOICE, log entry 41] -/
def State.inputChange (s : State) (i t v held : Nat) : State :=
  let old := s.levels i
  let acc := s.filterLevels i old (v % 8) (s.stood i t (v % 8) held)
  let s0 := s.setRaw i t (v % 8) held
  if s.posIn i [1] then
    let s1 := s0.setLevels i acc
    let s2 := match (quadPhase acc + 4 - quadPhase old) % 4 with
      | 1 => s1.countOne i t (!s.flag (F.POS_CFG_DIR_INVERT i)) true
      | 3 => s1.countOne i t (s.flag (F.POS_CFG_DIR_INVERT i)) true
      | 2 => s1.quadError i
      | _ => s1
    if !bit old 2 && bit acc 2 then s2.indexEdge i t else s2
  else if s.posIn i [2] then
    let from' := s.getF (F.POS_HALL_STATE_SECTOR i)
    let sector := hallSector acc
    let s1 := ((s0.setLevels i acc).setF (F.POS_HALL_STATE_UVW i) acc).setF (F.POS_HALL_STATE_SECTOR i) sector
    if acc = old then s0
    else if sector = 7 then s1.hallError i
    else if from' = 7 then s1
    else
      match (sector + 6 - from') % 6 with
      | 0 => s1
      | 1 => s1.countOne i t true true
      | 5 => s1.countOne i t false true
      | _ => s1.hallError i
  else if s.posIn i [3] then
    let dir := Config.speedDir i
    (s0.setLevels i acc).when (!bit old 0 && bit acc 0) (fun s => s.countOne i t (!dir || bit acc 1) dir)
  else if s.posIn i [4] then s0
  else s

/-! Probe (R192) -/

/-- When a probe level first sampled at Flue time t was accepted, in ns: at its last of N samples. -/
def State.probeAt (s : State) (i t : Nat) : Nat := t + 10 * (max 1 (s.getF (F.POS_FILTER_N_PRB i)) - 1)

/-- A new probe level, first sampled at Flue time t in ns and unchanged for `held` filter clocks (R192). -/
def State.probeEdge (s : State) (i t : Nat) (rising : Bool) (held : Nat) : State :=
  if !s.posIn i [1, 2, 3, 4] || !s.accepts i 3 held then s
  else
    let f := s.getF (F.POS_LEVELS_FILTERED i)
    let s1 := s.setF (F.POS_LEVELS_FILTERED i) (f - f % 2 + b2n rising)
    if !bit (s.getF (F.POS_PRB_CFG_EDGE i)) (if rising then 0 else 1) then s1
    else
      let s2 := s1.adcTrigger (0x06 + i)
      if s.flag (F.POS_STATUS_PRB_FULL i) then (s2.incF (F.POS_PRB_OVR_CNT_COUNT i)).event (Ev.pos i) 8
      else
        ((((s2.setReg (F.POS_PRB_COUNT_VALUE i).addr (s.reg (F.POS_COUNT_COUNT i).addr)).setReg (F.POS_PRB_TIME_VALUE i).addr
          (tenNs t)).setFlag (F.POS_STATUS_PRB_FULL i) true).incF (F.POS_PRB_CNT_COUNT i)).event (Ev.pos i) 7 |>.setPos i
          { s.pos i with prbAt := s.probeAt i t }

/-! Serial words (R187 to R190) -/

/-- Ticks in a slot of the class that PERIOD names. -/
def serialTicks (period : Nat) : Nat :=
  match period with
  | 0 => 1
  | 1 => 4
  | _ => 16

/-- How far slots begin from where they do in sample cycles that equal the cycle count: in SHADOW two cycles, of 8 ticks
(R77, R367). [DESIGN CHOICE, log entry 41] -/
def State.slotShift (s : State) : Nat := if s.mode = .shadow then 8 else 0

/-- The first tick start after Flue time t in ns that begins a slot of PERIOD's class. -/
def State.serialNext (s : State) (i t : Nat) : Nat :=
  let n := 31250 * serialTicks (s.getF (F.POS_SER_CFG_PERIOD i))
  ((t + 31250 * s.slotShift) / n + 1) * n - 31250 * s.slotShift

/-- Whether a scheduled read starts at Flue time t: READ_ADV before such a tick start (R189). -/
def State.readDue (s : State) (i t : Nat) : Bool :=
  decide ((t + 1000 * s.getF (F.POS_SER_TIMING_READ_ADV i) + 31250 * s.slotShift) %
    (31250 * serialTicks (s.getF (F.POS_SER_CFG_PERIOD i))) = 0)

/-- Whether RECOVERY has passed at t since data returned to 1 (R189). -/
def State.recovered (s : State) (i t released : Nat) : Bool := decide (released + 1000 * s.getF (F.POS_SER_TIMING_RECOVERY i) ≤ t)

/-- When the last bit of a read that starts at t is sampled (R187). -/
def State.lastBit (s : State) (i t : Nat) : Nat :=
  let half := 10 * (s.getF (F.POS_SER_CFG_CLK_DIV i) + 1)
  t + half + 2 * half * (s.getF (F.POS_SER_CFG_DATA_BITS i) + 7) + 10 * s.getF (F.POS_SER_CFG_SAMPLE_DELAY i)

/-- The level of the data pin, as RAW shows it (R201). [DESIGN CHOICE, log entry 41] -/
def State.dataPin (s : State) (i t : Nat) (b : Bool) : State :=
  s.setRaw i t (s.getF (F.POS_LEVELS_RAW i) / 2 * 2 + b2n b) 1

/-- A read starts, with data at 1: the sensor latches at Flue time t in ns; the read serves as the retry of a failed word.
[DESIGN CHOICE, log entry 41] -/
def State.serialStart (s : State) (i t : Nat) : State :=
  let p := s.pos i
  if s.posIn i [4] && !p.run then
    (s.setPos i { p with run := true, latch := t, retry := p.pend, pend := false, due := false, ended := false, failed := false }).dataPin
      i t true
  else s

/-- The meaning of SERIAL_READ_START (R189); `released` is the Flue time at which data last returned to 1. -/
def execSerialReadStart (i t released : Nat) (s : State) : Host.Outcome State Fault Refusal :=
  .next (if s.readDue i t && s.recovered i t released then s.serialStart i t else s)

/-- SERIAL_RETRY (R190): the one retry read starts, where its last bit comes before the tick start that the failed word serves.
[DESIGN CHOICE, log entry 41] -/
def execSerialRetry (i t released : Nat) (s : State) : Host.Outcome State Fault Refusal :=
  .next (if (s.pos i).due && s.recovered i t released && decide (s.lastBit i t < s.serialNext i (s.pos i).latch) then s.serialStart i t
    else s)

/-- A read fails (R190): the retry is due where RETRY = 1; a failed retry makes the fault lasting.
[DESIGN CHOICE, log entry 41] -/
def State.serialFail (s : State) (i : Nat) (again : Bool) : State :=
  let p := s.pos i
  let s1 := s.setFlag (F.POS_STATUS_SER_OK i) false
  if again then
    ((((s1.setPos i { p with failed := true, retry := false, pend := false, due := false }).setFlag
      (F.POS_STATUS_SER_LASTING i) true).incF (F.POS_SER_LASTING_CNT_COUNT i)).event (Ev.pos i) 6).lasting.raiseLevel (Src.pos i 4)
  else
    let r := s.flag (F.POS_SER_CFG_RETRY i)
    s1.setPos i { p with failed := true, pend := r, due := r }

/-- A good word, accepted at Flue time t in ns (R182, R183, R190). -/
def State.serialGood (s : State) (i t data : Nat) : State :=
  let p := s.pos i
  let n := s.getF (F.POS_SER_CFG_DATA_BITS i)
  let d := toInt n ((data + 2 ^ n - s.getF (F.POS_SER_DATA_DATA i) % 2 ^ n) % 2 ^ n)
  let s1 := if p.word.isSome ∧ d ≠ 0 then s.countStep i t (BitVec.ofNat 32 data).toInt (decide (0 < d)) true
    else s.setCount i t (w32 data)
  let s2 := ((s1.setReg (F.POS_SER_DATA_DATA i).addr (w32 data)).setFlag (F.POS_STATUS_SER_OK i) true).setFlag
    (F.POS_STATUS_SER_LASTING i) false
  let s3 := (s2.setPos i { s2.pos i with word := some p.latch, retry := false, pend := false, due := false, failed := false }).clearLevel
    (Src.pos i 4)
  s3.when p.retry (fun s => ((s.incF (F.POS_SER_RETRY_CNT_COUNT i)).event (Ev.pos i) 5).transient.raise (Src.pos i 3))

/-- The last bit of a word is sampled at Flue time t in ns (R187 to R190): start bit, data, error bit and CRC as sampled. -/
def State.serialWord (s : State) (i t : Nat) (start : Bool) (data : Nat) (err : Bool) (crc : Nat) : State :=
  let p := s.pos i
  if s.posIn i [4] && p.run then
    let n := s.getF (F.POS_SER_CFG_DATA_BITS i)
    let data := data % 2 ^ n
    let res := if start then 1 else if crc % 64 ≠ crc6 (bitsOf n data ++ [err]) then 2 else if err then 3 else 0
    let s1 := (((s.dataPin i t (bit crc 0)).setF (F.POS_SER_STAT_CRC_RX i) crc).setFlag (F.POS_SER_STAT_ERR_BIT i) err).setF (F.POS_SER_STAT_RESULT i) res
    let s2 := s1.setPos i { s1.pos i with run := false, ended := true, again := p.retry, got := true }
    match res with
    | 0 => s2.serialGood i t data
    | 1 => (s2.incF (F.POS_SER_TIMEOUT_CNT_COUNT i)).serialFail i p.retry
    | 2 => (s2.incF (F.POS_SER_CRC_CNT_COUNT i)).serialFail i p.retry
    | _ => (s2.incF (F.POS_SER_ERRBIT_CNT_COUNT i)).serialFail i p.retry
  else s

/-- SERIAL_TIMEOUT (R189): data has not returned to 1 within TIMEOUT of the word that ended; a retry that ends so has failed
too (R190). -/
def State.serialTimeout (s : State) (i : Nat) : State :=
  let p := s.pos i
  if s.posIn i [4] && p.ended then
    let s1 := ((s.setPos i { p with ended := false }).setF (F.POS_SER_STAT_RESULT i) 4).incF (F.POS_SER_TIMEOUT_CNT_COUNT i)
    if p.failed then s1 else s1.serialFail i p.again
  else s

/-- The meaning of SERIAL_TIMEOUT (R189). -/
def execSerialTimeout (i : Nat) (s : State) : Host.Outcome State Fault Refusal := .next (s.serialTimeout i)

/-! What a filter clock accepts (R191) -/

/-- An edge, index, probe edge or word takes effect. [DESIGN CHOICE, log entry 41] -/
def State.posAct (s : State) (c : Instr) : State :=
  match c with
  | .countStep i t v held => s.inputChange i t v held
  | .indexEdge i t rising held => s.indexChange i t rising held
  | .probeEdge i t rising held => s.probeEdge i t rising held
  | .serialWordEnd i t start data err crc => s.serialWord i t start data err crc
  | _ => s

/-- Whether what waits for a tick start is a probe edge, which finds the probe armed again (R192). -/
def isProbe (c : Instr) : Bool :=
  match c with
  | .probeEdge _ _ _ _ => true
  | _ => false

/-- Whether it is a count step, which comes before anything else of its filter clock (R186, R195). -/
def isStep (c : Instr) : Bool :=
  match c with
  | .countStep _ _ _ _ => true
  | _ => false

/-- The interface and filter clock of an edge, index, probe edge or word. -/
def State.posClock (s : State) (c : Instr) : Option (Nat × Nat) :=
  match c with
  | .countStep i t _ _ => some (i, t / 10)
  | .indexEdge i t _ _ => some (i, t / 10)
  | .probeEdge i t _ _ => some (i, s.probeAt i t / 10)
  | .serialWordEnd i t _ _ _ _ => some (i, t / 10)
  | _ => none

/-- Commands of the queue that take effect now, ahead of their turn, for they share the filter clock k of interface i. -/
def State.sameClock (s : State) (i k : Nat) : List Instr :=
  s.pending.filter (fun c => decide (s.posClock c = some (i, k)) && !(s.pos i).taken.contains c)

/-- Noting that commands of the queue have taken effect. -/
def State.takeAhead (s : State) (i : Nat) (l : List Instr) : State := s.setPos i { s.pos i with taken := (s.pos i).taken ++ l }

/-- What is accepted at Flue time t in ns. In the filter clock of the next tick start it waits for that tick, whose intake does not
hold it yet (R191). Before an index edge come the count steps of its clock that the queue still holds (R186).
[DESIGN CHOICE, log entry 8] -/
def State.posTake (s : State) (i t : Nat) (c : Instr) : State :=
  if (s.pos i).taken.contains c then s.setPos i { s.pos i with taken := (s.pos i).taken.erase c }
  else if t / 10 = s.nextTick / 10 then s.setPos i { s.pos i with late := (s.pos i).late ++ [c] }
  else
    let first := if isStep c then [] else (s.sameClock i (t / 10)).filter isStep
    ((first.foldl State.posAct s).takeAhead i first).posAct c

/-- The meaning of COUNT_STEP (R182): `levels` holds A, B and I in bits 0 to 2, sampled unchanged for `held` filter clocks. -/
def execCountStep (i t levels held : Nat) (s : State) : Host.Outcome State Fault Refusal :=
  .next (s.posTake i t (.countStep i t levels held))

/-- The meaning of INDEX_EDGE (R184): `rising` is false where I falls, which only changes its level. -/
def execIndexEdge (i t : Nat) (rising : Bool) (held : Nat) (s : State) : Host.Outcome State Fault Refusal :=
  .next (s.posTake i t (.indexEdge i t rising held))

/-- The meaning of PROBE_EDGE (R192): the new level was first sampled at Flue time t in ns. -/
def execProbeEdge (i t : Nat) (rising : Bool) (held : Nat) (s : State) : Host.Outcome State Fault Refusal :=
  .next (s.posTake i (s.probeAt i t) (.probeEdge i t rising held))

/-- The meaning of SERIAL_WORD_END (R189). -/
def execSerialWordEnd (i t : Nat) (start : Bool) (data : Nat) (err : Bool) (crc : Nat) (s : State) :
    Host.Outcome State Fault Refusal := .next (s.posTake i t (.serialWordEnd i t start data err crc))

/-! Pass-through (R197) -/

/-- The frame shown to the next drive: start bit, data, error bit, CRC over the bits sent. -/
def State.ptBits (s : State) (i : Nat) : List Bool :=
  let n := s.getF (F.POS_SER_CFG_DATA_BITS i)
  let err := s.flag (F.POS_STATUS_SER_LASTING i) || decide (s.getF (F.POS_SER_STAT_RESULT i) = 5)
  let body := bitsOf n (s.getF (F.POS_SER_DATA_DATA i)) ++ [err]
  false :: body ++ bitsOf 6 (crc6 body)

/-- The meaning of PASS_THROUGH_FRAME (R197): the next drive's first falling clock edge. -/
def execPassThroughFrame (i : Nat) (s : State) : Host.Outcome State Fault Refusal :=
  .next (if s.posIn i [4] && s.flag (F.POS_STATUS_PT_ACTIVE i) then s.setPos i { s.pos i with ptFrame := s.ptBits i } else s)

/-- An interface is switched on or off by its MODE, and its pass-through by EN (R178, R196, R197): PT_A, PT_B and PT_I re-drive A,
B and I in the modes that count edges. -/
def State.posFollow (s : State) (i : Nat) : State :=
  let mode := s.getF (F.POS_CFG_MODE i)
  let pt := decide (mode ≠ 0) && s.flag (F.POS_PT_CFG_EN i)
  ((s.setFlag (F.POS_STATUS_ACTIVE i) (decide (mode ≠ 0))).setFlag (F.POS_STATUS_PT_ACTIVE i) pt).setPos i
    { s.pos i with ptPins := if pt ∧ mode < 4 then some (s.getF (F.POS_LEVELS_RAW i)) else none }

/-! The tick start (R189 to R192, R201) -/

/-- The values of one interface at a tick start of Flue time t in ns (R191). -/
def State.posVals (s : State) (i t : Nat) : List Word :=
  let serial := decide (s.getF (F.POS_CFG_MODE i) = 4)
  let st := s.reg (F.POS_SER_STAT_RESULT i).addr
  [s.reg (F.POS_COUNT_COUNT i).addr,
   if serial then tenNs ((s.pos i).word.getD 0) else s.reg (F.POS_EDGE_TIME_TIME i).addr,
   s.reg (F.POS_EDGES_COUNT i).addr,
   w32 ((s.reg (F.POS_STATUS_ACTIVE i).addr).toNat % 65536),
   s.reg (F.POS_PRB_COUNT_VALUE i).addr, s.reg (F.POS_PRB_TIME_VALUE i).addr,
   if serial then st else if s.getF (F.POS_CFG_MODE i) = 2 then s.reg (F.POS_HALL_STATE_SECTOR i).addr else 0,
   tenNs t]

/-- The intake values of one interface (R191). -/
def State.posIntake (s : State) (i t : Nat) : List (Nat × Word × Bool) :=
  let serial := decide (s.getF (F.POS_CFG_MODE i) = 4)
  ((s.pos i).snap.getD (s.posVals i t)).zipIdx.map (fun x => (0x40 + 8 * i + x.2, x.1, decide (x.2 = 0) && serial && !s.flag (F.POS_STATUS_SER_OK i)))

/-- What was accepted in the filter clock of the tick start at Flue time t takes effect, but for probe edges: count steps first
(R186, R195). What waits, and what the queue holds of that clock. The intake values stand as they were before (R191).
[DESIGN CHOICE, log entry 8] -/
def State.posLate (s : State) (i t : Nat) : State :=
  let ahead := s.sameClock i (t / 10)
  let all := (s.pos i).late ++ ahead
  if all.isEmpty then s
  else
    let p := s.pos i
    let s1 := (s.setPos i { p with late := all.filter isProbe, snap := some (p.snap.getD (s.posVals i t)) }).takeAhead i ahead
    (all.filter isStep ++ all.filter (fun c => !isStep c && !isProbe c)).foldl State.posAct s1

/-- What a tick start of Flue time t (in ns), the tick's number 4C + j, brings before anything of its filter clock: MISSED where
no word has completed in the slot before, the end of a retry's time, AGE and the edge log. Then what was accepted in that clock takes
effect (R189 to R191, R195, R201). [DESIGN CHOICE, log entry 41] -/
def State.posBefore (s : State) (i t tick : Nat) : State :=
  let p := s.pos i
  let slot := s.posIn i [4] && decide ((tick + s.slotShift) % serialTicks (s.getF (F.POS_SER_CFG_PERIOD i)) = 0)
  let s1 := s.when (slot && !p.got) (fun s => (s.setF (F.POS_SER_STAT_RESULT i) 5).serialFail i (p.retry || (p.pend && !p.run)))
  let s2 := match p.word with
    | some l => s1.setF (F.POS_SER_STAT_AGE i) (min 65535 ((t - l) / 1000))
    | none => s1
  let s3 := s2.when (s.posIn i [1, 2, 3, 4]) (fun s => s.each (List.range 8) (fun s k =>
    s.setReg (F.POS_EDGE_LOG_TIME i k).addr (p.log.getD k 0)))
  (s3.setPos i { s3.pos i with got := p.got && !slot, due := (s3.pos i).due && !slot }).posLate i t

/-- What follows the intake: the probe is armed again, and a probe edge of the tick start's filter clock finds it so (R191, R192). -/
def State.posAfter (s : State) (i : Nat) : State :=
  let l := (s.pos i).late
  let s1 := (s.setFlag (F.POS_STATUS_PRB_FULL i) false).setPos i { s.pos i with late := [], snap := none }
  s1.each l State.posAct

end Sys2Proof.Machine
end

