-- ==== Sys2Proof/Machine/Blocks.lean ====
section
/-!
DEFINITION. What one sample of a block computes (R80): arithmetic, shaping, controllers, motor and safety types. A type whose
formula the spec does not fix gives free words (Config.blockWord, log entry 5); where it fixes the form and leaves a detail
open (the filters, the transforms, BEMF, FLUX_OBS), the detail is a choice with a log entry (57 to 59).
-/
namespace Sys2Proof.Machine

open Sys2Proof

/-- What a sample reads besides the rate class (R80): parameters, inputs with their age flags, committed state. -/
structure BlkIn where
  ty : Nat
  params : List Word
  ins : List (Word × Bool)
  st : List Word
  /-- The first sample after LOAD or a state reset. -/
  fresh : Bool
  /-- The gain set in use and whether this sample follows a swap (R118, R119). -/
  gain : List Word
  reseed : Bool
  act : Nat
  tables : List Table
  /-- INITIAL of the first output's signal, and of the first input's (R83, R109). -/
  init : Word
  inInit : Word
  /-- Position of the sample within the slot of SP_HOLD's outer class, 1 to RATIO (R109). -/
  pos : Nat
  /-- The sample period in s as a float (R404). -/
  period : Word
  /-- INT of the inputs' signals (R46), in port order. -/
  ints : List Bool := []

/-- What a sample gives: outputs with the age flag they carry, the new state, and what its commit does besides. -/
structure BlkOut where
  outs : List (Word × Bool)
  st : List Word
  raises : List Nat := []
  held : Bool := false
  swap : Option Nat := none

/-- Input i. -/
def BlkIn.x (c : BlkIn) (i : Nat) : Word := (c.ins.getD i (0, true)).1
/-- Its age flag. -/
def BlkIn.aged (c : BlkIn) (i : Nat) : Bool := (c.ins.getD i (0, true)).2
/-- Whether input i is zero: an integer signal by its pattern, a float signal as a number, so -0.0 and flushed subnormals are
zero too (INT of R46; R83 says "non-zero" only). [DESIGN CHOICE, log entry 60] -/
def BlkIn.isZero (c : BlkIn) (i : Nat) : Bool := if c.ints.getD i false then c.x i == 0 else fIsZero (c.x i)
/-- Input i as a two's complement integer. -/
def BlkIn.xi (c : BlkIn) (i : Nat) : Int := (c.x i).toInt
/-- Parameter word i. -/
def BlkIn.p (c : BlkIn) (i : Nat) : Word := c.params.getD i 0
/-- An integer parameter. -/
def BlkIn.pn (c : BlkIn) (i : Nat) : Nat := (c.p i).toNat
/-- A signed integer parameter. -/
def BlkIn.pi (c : BlkIn) (i : Nat) : Int := (c.p i).toInt
/-- Committed state word i. -/
def BlkIn.s (c : BlkIn) (i : Nat) : Word := c.st.getD i 0
/-- A state word as a number. -/
def BlkIn.sn (c : BlkIn) (i : Nat) : Nat := (c.s i).toNat
/-- A free word (log entry 5). [DESIGN CHOICE, log entry 5] -/
def BlkIn.free (c : BlkIn) (k : Nat) : Word := Config.blockWord c.ty c.params c.ins c.st k
/-- A table parameter. -/
def BlkIn.table (c : BlkIn) (i : Nat) : Table := c.tables.getD (c.pn i) ⟨1, 0, 1, []⟩


/-- Fresh outputs (R79). -/
def freshOuts (l : List Word) : List (Word × Bool) := l.map (fun w => (w, false))
/-- An integer output. -/
def wNat (n : Nat) : Word := BitVec.ofNat 32 n
/-- A signed integer output. -/
def wInt (i : Int) : Word := BitVec.ofInt 32 i
/-- A flag output. -/
def wBool (b : Bool) : Word := if b then 1 else 0

/-! Arithmetic, shaping and logic -/

/-- SUM (R83): w_1 × x_0 rounded, then fused from left to right. -/
def blkSum (c : BlkIn) : Word :=
  (List.range (c.ins.length - 1)).foldl (fun a i => fFma (c.p (i + 1)) (c.x (i + 1)) a) (fMul (c.p 0) (c.x 0))

/-- PRODUCT (R83). -/
def blkProduct (c : BlkIn) : Word := c.ins.foldl (fun a x => fMul a x.1) (c.p 0)

/-- DIV (R83). -/
def blkDiv (c : BlkIn) : Word := if fLt (fAbs (c.x 1)) (c.p 0) then c.p 1 else fDiv (c.x 0) (c.x 1)

/-- INTEG (R83). -/
def blkInteg (c : BlkIn) : Word :=
  fClamp (if c.isZero 1 then fFma (c.p 0) (c.x 0) (c.s 0) else f0) (c.p 1) (c.p 2)

/-- LPF1 (type 3): y = a·y' + b·x, with y' its state. R83 fixes a linear filter in direct form and the coefficients' names;
the signs, the pole being `a` as in R113, and the order of the roundings are this model's. [PRESUMED, log entry 57] -/
def blkLpf1 (c : BlkIn) : Word := fFma (c.p 0) (c.s 0) (fMul (c.p 1) (c.x 0))

/-- HPF1 (type 5): y = b·(x - x') + a·y' with its one state word a·y' - b·x'. [PRESUMED, log entry 57] -/
def blkHpf1 (c : BlkIn) : BlkOut :=
  let y := fFma (c.p 1) (c.x 0) (c.s 0)
  { outs := freshOuts [y], st := [fFma (c.p 0) y (fNegate (fMul (c.p 1) (c.x 0)))] }

/-- BIQUAD (type 4): y = b0·x + b1·x' + b2·x'' - a1·y' - a2·y'', its state x', x'', y', y''. [PRESUMED, log entry 57] -/
def blkBiquad (c : BlkIn) : BlkOut :=
  let fwd := fFma (c.p 2) (c.s 1) (fFma (c.p 1) (c.s 0) (fMul (c.p 0) (c.x 0)))
  let y := fFma (fNegate (c.p 4)) (c.s 3) (fFma (fNegate (c.p 3)) (c.s 2) fwd)
  { outs := freshOuts [y], st := [c.x 0, c.s 0, y, c.s 2] }

/-- LEAD_LAG (type 35): y = b0·x + b1·x' - a1·y', its state x', y'. [PRESUMED, log entry 57] -/
def blkLeadLag (c : BlkIn) : BlkOut :=
  let y := fFma (fNegate (c.p 2)) (c.s 1) (fFma (c.p 1) (c.s 0) (fMul (c.p 0) (c.x 0)))
  { outs := freshOuts [y], st := [c.x 0, y] }

/-- CLAMP (R123): value and at-limit flag; lo > hi gives lo with flag 3. A NaN lies in no case
of the rule: the NaN of R74 with flag 0. [DESIGN CHOICE, log entry 60] -/
def blkClamp (c : BlkIn) : Word × Nat :=
  let r : Word × Nat :=
    if fLt (c.x 2) (c.x 1) then (c.x 1, 3)
    else if fLt (c.x 2) (c.x 0) then (c.x 2, 1)
    else if fLt (c.x 0) (c.x 1) then (c.x 1, 2)
    else (c.x 0, 0)
  (fFlush r.1, r.2)

/-- RATE_LIMIT (R123): an aged input holds y_prev. -/
def blkRateLimit (c : BlkIn) : Word :=
  if c.aged 0 then c.s 0 else fClamp (c.x 0) (fSub (c.s 0) (c.p 1)) (fAdd (c.s 0) (c.p 0))

/-- SELECT (R83): the passed input with its age flag (R79). -/
def blkSelect (c : BlkIn) : Word × Bool :=
  let m := c.xi 0
  let k := if 0 ≤ m ∧ m < (c.ins.length : Int) - 1 then m.toNat else 0
  (c.x (k + 1), c.aged (k + 1))

/-- AGE_TEST (R83): bit mask of the inputs' age flags. -/
def blkAgeTest (c : BlkIn) : Word := wNat (maskOf (c.ins.map (fun x => x.2)))

/-- Ascending order of MIDVALUE: a NaN above every number, -0 equal to +0 (R83). -/
def midBefore (a b : Word) : Bool := if fIsNaN a then false else if fIsNaN b then true else fLt a b

/-- Inserting behind equal values keeps port order. -/
def midInsert (a : Word) : List Word → List Word
  | [] => [a]
  | b :: t => if midBefore a b then a :: b :: t else b :: midInsert a t

/-- MIDVALUE (R83). -/
def blkMid (c : BlkIn) : Word :=
  let v := (c.ins.foldl (fun l x => midInsert x.1 l) []).getD ((c.ins.length - 1) / 2) 0
  fFlush v

/-- DIGEST (R83): CRC-32C over the input patterns, least significant byte first. -/
def blkDigest (c : BlkIn) : Word := wNat (crc32c (c.ins.flatMap (fun x => leBytes 4 x.1.toNat)))

/-- SP_HOLD (R109): state old, new and m. A slot's first committed sample takes the crossing buffer's value as "new" and the
value it replaced as "old"; so does a later sample that finds by m or by the value that the first samples of its slot did not commit
(missed, skipped, or before a state reset, which sets both to INITIAL). [DESIGN CHOICE, log entry 60] -/
def blkSpHold (c : BlkIn) : BlkOut :=
  let before := if c.fresh then c.inInit else c.s 1
  let take := decide (c.pos = 1) || decide (c.pos ≤ c.sn 2) || decide (c.x 0 ≠ before)
  let old := if take then before else if c.fresh then c.inInit else c.s 0
  let new := c.x 0
  let ratio := c.pn 1
  let q := fDiv (fOfNat c.pos) (fOfNat ratio)
  let y := if c.aged 0 ∨ c.pn 0 = 0 ∨ ratio ≤ c.pos then new else fFma (fSub new old) q old
  { outs := [(y, c.aged 0)], st := [old, new, wNat c.pos] }

/-! Controllers (R111 to R119) -/

/-- The words of a gain set (R114). -/
def gainWord (g : List Word) (i : Nat) : Word := g.getD i 0

/-- One sample of the controller law: u, flag, new integrator; `d` is D, `r` the (prefiltered) set-point (R111, R119). -/
def controlLaw (g : List Word) (r y ff int uPrev d : Word) (reseed : Bool) : Word × Nat × Word :=
  let e := fSub r y
  let ep := fFma (gainWord g 7) r (fNegate y)
  let pt := fMul (gainWord g 0) ep
  let f := fMul (gainWord g 6) ff
  let lo := gainWord g 4
  let hi := gainWord g 5
  if reseed then
    let uc := fClamp uPrev lo hi
    let flag := if fLt hi uPrev then 1 else if fLt uPrev lo then 2 else 0
    (uc, flag, fSub (fSub (fSub uc pt) d) f)
  else
    let ic := fFma (gainWord g 1) e int
    let v := fAdd (fAdd (fAdd pt ic) d) f
    if fIsNaN v then (uPrev, 3, int)
    else if fLt hi v then (hi, 1, int)
    else if fLt v lo then (lo, 2, int)
    else (v, 0, ic)

/-- D of the PID types (R113). -/
def derivative (g : List Word) (dPrev yPrev y : Word) : Word :=
  fFma (gainWord g 3) dPrev (fMul (fMul (fSub f1 (gainWord g 3)) (gainWord g 2)) (fSub yPrev y))

/-- PI and PID (types 30, 31). -/
def blkPid (c : BlkIn) (deriv : Bool) : BlkOut :=
  let yPrev := if c.fresh then c.x 1 else c.s 3
  let d := if deriv then derivative c.gain (c.s 2) yPrev (c.x 1) else f0
  let r := controlLaw c.gain (c.x 0) (c.x 1) (c.x 2) (c.s 0) (c.s 1) d c.reseed
  { outs := freshOuts [r.1, wNat r.2.1], st := [r.2.2, r.1] ++ (if deriv then [d, c.x 1] else []),
    held := !c.reseed && decide (r.2.1 ≠ 0) }

/-- PI_2DOF (type 34, R115). -/
def blkPi2dof (c : BlkIn) : BlkOut :=
  let rf := if c.fresh then c.x 0 else fFma (c.p 8) (fSub (c.x 0) (c.s 2)) (c.s 2)
  let r := controlLaw c.gain rf (c.x 1) (c.x 2) (c.s 0) (c.s 1) f0 c.reseed
  { outs := freshOuts [r.1, wNat r.2.1], st := [r.2.2, r.1, rf], held := !c.reseed && decide (r.2.1 ≠ 0) }

/-- Numbers of edges and sets of a schedule, and its word offsets (R116). -/
def schNSets (p : List Word) : Nat := (p.getD 0 0).toNat
def schNx (p : List Word) : Nat := (p.getD 1 0).toNat
def schNy (p : List Word) : Nat := (p.getD 2 0).toNat
def schInit (p : List Word) : Nat := (p.getD 3 0).toNat
/-- Edge i and half-width of x (axis 0) or y (axis 1). -/
def schEdge (p : List Word) (axis i : Nat) : Word × Word :=
  let o := 4 + (if axis = 0 then 0 else 2 * schNx p) + 2 * i
  (p.getD o 0, p.getD (o + 1) 0)
/-- Map entry of region r. -/
def schMap (p : List Word) (r : Nat) : Nat := (p.getD (4 + 2 * schNx p + 2 * schNy p + r) 0).toNat
/-- Number of regions. -/
def schRegions (p : List Word) : Nat := (schNx p + 1) * (schNy p + 1)
/-- Offset of gain set k. -/
def schSetOff (p : List Word) (k : Nat) : Nat := 4 + 2 * schNx p + 2 * schNy p + schRegions p + 8 * k
/-- Gain set k. -/
def schSet (p : List Word) (k : Nat) : List Word := (p.drop (schSetOff p k)).take 8
/-- Words a schedule owns. -/
def schWords (p : List Word) : Nat := schSetOff p (schNSets p)

/-- Moving an index across the edges of one axis (R117): upwards, then downwards. -/
def moveUp (p : List Word) (axis n : Nat) (x : Word) : Nat → Nat → Nat
  | 0, i => i
  | k + 1, i =>
    let e := schEdge p axis i
    if i < n ∧ fLt (fAdd e.1 e.2) x = true then moveUp p axis n x k (i + 1) else i
def moveDown (p : List Word) (axis : Nat) (x : Word) : Nat → Nat → Nat
  | 0, i => i
  | k + 1, i =>
    let e := schEdge p axis (i - 1)
    if 0 < i ∧ fLt x (fSub e.1 e.2) = true then moveDown p axis x k (i - 1) else i

/-- The new index on one axis; held while the signal is aged or a NaN (R117). -/
def moveIndex (p : List Word) (axis n i : Nat) (x : Word) (aged : Bool) : Nat :=
  if aged || fIsNaN x then i else moveDown p axis x 15 (moveUp p axis n x 15 i)

/-- SCHED of R115 as this model packs it (log entry 12): ix in bits 3 to 0, iy in 7 to 4, the active set in 11 to 8.
[DESIGN CHOICE, log entry 12] -/
def schedPack (ix iy act : Nat) : Word := wNat (ix + 16 * iy + 256 * act)

/-- BANK of R115 as this model packs it: the active bank in bit 0, a pending copy in bit 1, the pending set from bit 2.
[DESIGN CHOICE, log entry 12] -/
def bankPack (c : BlkIn) (swap : Option Nat) : Word :=
  wNat ((if c.reseed then 1 - c.sn 3 % 2 else c.sn 3 % 2) + (match swap with
    | none => 0
    | some k => 2 + 4 * k))

/-- PI_SCHED and PID_SCHED (types 32, 33; R111 to R119). The inputs 3 and 4 arrive as floats. -/
def blkSched (c : BlkIn) (deriv : Bool) : BlkOut :=
  let ini := schInit c.params
  let ix := if c.fresh then ini % (schNx c.params + 1) else c.sn 2 % 16
  let iy := if c.fresh then ini / (schNx c.params + 1) else c.sn 2 / 16 % 16
  let region := ix + (schNx c.params + 1) * iy
  let ix' := moveIndex c.params 0 (schNx c.params) ix (c.x 3) (c.aged 3)
  let iy' := if schNy c.params = 0 then 0 else moveIndex c.params 1 (schNy c.params) iy (c.x 4) (c.aged 4)
  let set' := schMap c.params (ix' + (schNx c.params + 1) * iy')
  let yPrev := if c.fresh then c.x 1 else c.s 5
  let d := if deriv then derivative c.gain (c.s 4) yPrev (c.x 1) else f0
  let r := controlLaw c.gain (c.x 0) (c.x 1) (c.x 2) (c.s 0) (c.s 1) d c.reseed
  let swap := if set' ≠ c.act then some set' else none
  { outs := freshOuts [r.1, wNat r.2.1, wNat region],
    st := [r.2.2, r.1, schedPack ix' iy' c.act, bankPack c swap] ++ (if deriv then [d, c.x 1] else []),
    held := !c.reseed && decide (r.2.1 ≠ 0), swap := swap }

/-- CURVATURE (type 37, R121). R121 does not name the four state words of intermediate values: this model stores κ, the
table's δ, v_e and I_c. A sample counts as held (R131) where the law stops integration, its output at a clamp or a NaN (R112);
one held by input 4 alone is not counted. With a NaN neither clamp acted, so output 1 is 0. [DESIGN CHOICE, log entry 61] -/
def blkCurvature (c : BlkIn) : BlkOut :=
  let ic := fFma (c.p 2) (c.x 1) (c.s 0)
  let ve := fMax (fAbs (c.x 3)) (c.p 3)
  let κ := fSub (fSub (c.x 0) (fDiv (fAdd (fMul (c.p 0) (c.x 1)) ic) (fMul ve ve)))
    (fDiv (fMul (c.p 1) (c.x 2)) ve)
  let δ := (c.table 4).at1 κ
  let lim := (c.table 5).at1 (fAbs (c.x 3))
  let prev := if c.fresh then c.x 5 else c.s 1
  let d1 := fClamp δ (fNegate lim) lim
  let lo := fSub prev (c.p 6)
  let hi := fAdd prev (c.p 6)
  let d2 := fClamp d1 lo hi
  let flag := if fLt hi d1 then 1 else if fLt d1 lo then 2
    else if fLt lim δ then 1 else if fLt δ (fNegate lim) then 2 else 0
  let stop := decide (flag ≠ 0) || fIsNaN d2
  { outs := freshOuts [d2, wNat flag], st := [if stop || c.x 4 != 0 then c.s 0 else ic, d2, κ, δ, ve, ic], held := stop }

/-- PRESSURE (type 38, R122). -/
def blkPressure (c : BlkIn) : BlkOut :=
  let r := controlLaw c.gain (c.x 0) (c.x 1) (c.x 3) (c.s 0) (c.s 1) f0 c.reseed
  let short := fMax f0 (fSub (fAdd (c.x 0) (c.p 8)) (c.x 2))
  let pump := fClamp (fAdd (c.p 10) (fMul (c.p 9) short)) (c.p 10) (c.p 11)
  { outs := freshOuts [r.1, pump], st := [r.2.2, r.1, schedPack 0 0 0, bankPack c none],
    held := !c.reseed && decide (r.2.1 ≠ 0) }

/-! Motor types (R209 to R223) -/

/-- A phase's angle: U at θ, V at θ - 0x5555, W at θ - 0xAAAB (R209). -/
def phaseAngle (θ k : Nat) : Nat := (θ + (match k with | 0 => 0 | 1 => 0x10000 - 0x5555 | _ => 0x10000 - 0xAAAB)) % 65536

/-- Constants as binary32: 0.5, 2.0, 3.0, √3, 31.25, 0.1, 65,536, 2π, 10, 12,500. -/
def fHalf : Word := 0x3F000000
def fTwo : Word := 0x40000000
def fThree : Word := 0x40400000
def fSqrt3 : Word := 0x3FDDB3D7
def fTickUs : Word := 0x41FA0000
def fTenth : Word := 0x3DCCCCCD
def f65536 : Word := 0x47800000
def fTwoPi : Word := 0x40C90FDB
def fTen : Word := 0x41200000
def f12500 : Word := 0x46435000

/-- The amplitude-invariant transform of three phases to α and β, in the order of operations of R219 (type 40, R83).
[DEDUCED, log entry 58] -/
def clarke (u v w : Word) : Word × Word :=
  (fDiv (fSub (fSub (fMul fTwo u) v) w) fThree, fDiv (fSub v w) fSqrt3)

/-- The three phases of α and β, in the order of operations of R210 (type 41, R83). [DEDUCED, log entry 58] -/
def invClarke (α β : Word) : List Word :=
  let half := fNegate (fDiv α fTwo)
  let q := fDiv (fMul β fSqrt3) fTwo
  [α, fAdd half q, fSub half q]

/-- PARK and INV_PARK (types 42, 43) turn a pair of values by an angle, input 2 in bits 15 to 0 (R83, R209): d = α cos θ + β sin θ,
q = β cos θ - α sin θ, and back with -θ; one rounding of each product's sum. [DEDUCED, log entry 58] -/
def turnBack (x y : Word) (θ : Nat) : List Word :=
  [fFma x (fCos θ) (fMul y (fSin θ)), fFma y (fCos θ) (fNegate (fMul x (fSin θ)))]
/-- The inverse turn. [DEDUCED, log entry 58] -/
def turnOn (x y : Word) (θ : Nat) : List Word :=
  [fFma x (fCos θ) (fNegate (fMul y (fSin θ))), fFma y (fCos θ) (fMul x (fSin θ))]

/-- SINPWM (type 46, R210). -/
def blkSinPwm (c : BlkIn) : List Word :=
  let w := if c.pn 0 = 0xFFFFFFFF then sineRom else fun i => (c.table 0).words.getD i 0
  if fLt (c.x 2) f1 then [fHalf, fHalf, fHalf]
  else [0, 1, 2].map (fun k =>
    fClamp (fAdd fHalf (fMul (fDiv (c.x 1) (c.x 2)) (tableAt w (phaseAngle ((c.x 0).toNat % 65536) k)))) f0 f1)

/-- sign(x) as a float, 0 for 0. -/
def fSign (x : Word) : Word := if fLt f0 x then f1 else if fLt x f0 then fNegate f1 else f0

/-- SVPWM with dead-time compensation (type 45, R210). -/
def blkSvPwm (c : BlkIn) : List Word :=
  let u := invClarke (c.x 0) (c.x 1)
  let mx := u.foldl fMax (c.x 0)
  let mn := u.foldl fMin (c.x 0)
  let m := fDiv (fAdd mx mn) fTwo
  if fLt (c.x 2) f1 then [fHalf, fHalf, fHalf]
  else u.map (fun x =>
    let d := fSub x m
    fClamp (fAdd (fAdd fHalf (fDiv d (c.x 2))) (fDiv (fMul (fSign d) (c.p 0)) fTickUs)) f0 f1)

/-- The phases in order of a key, largest first, ties U, V, W (R211, R213). -/
def orderPhases (v : List Word) : List Nat :=
  let g := fun i => v.getD i 0
  let a := if fLt (g 0) (g 1) then [1, 0] else [0, 1]
  match a with
  | [i, j] => if fLt (g i) (g 2) then [2, i, j] else if fLt (g j) (g 2) then [i, 2, j] else [i, j, 2]
  | _ => [0, 1, 2]

/-- A carried amount: phase in [1:0], signed count in [31:16] (R213); phase 3 carries nothing. -/
def carryAmount (w : Word) : Word := fDiv (fOfInt (toInt 16 (w.toNat / 65536))) f12500
/-- The state word of a moved phase and its change. -/
def carryWord (phase : Nat) (change : Word) : Word :=
  wNat (phase + ofInt 16 (-((fRint (fMul change f12500)).getD 0)) * 65536)

/-- EDGE_SHIFT (type 48, R213): steps 1 to 6. -/
def blkEdgeShift (c : BlkIn) : BlkOut :=
  let m := fDiv (c.p 0) fTickUs
  let st := if c.fresh then [wNat 3, wNat 3] else c.st
  let add := fun (d : List Word) (w : Word) =>
    let k := w.toNat % 4
    if k = 3 then d else d.set k (fAdd (d.getD k 0) (carryAmount w))
  let d1 := st.foldl add [c.x 0, c.x 1, c.x 2]
  let d2 := d1.map (fun d => fClamp d f0 f1)
  let lost := (List.zipWith fSub d1 d2).foldl fAdd f0
  let o := orderPhases d2
  let hi := o.getD 0 0
  let mid := o.getD 1 0
  let lo := o.getD 2 0
  let g := fun (d : List Word) k => d.getD k 0
  let a := fSub (g d2 hi) (g d2 mid)
  let r4 : List Word × Nat × Word :=
    if fLt a m then
      let ch := fSub m a
      let up := fAdd (g d2 hi) ch
      if fLt f1 up then
        let rem := fSub up f1
        ((d2.set hi f1).set mid (fSub (g d2 mid) rem), mid, fNegate rem)
      else (d2.set hi up, hi, ch)
    else (d2, 3, f0)
  let b := fSub (g r4.1 mid) (g r4.1 lo)
  let r5 : List Word × Nat × Word :=
    if fLt b m then
      let ch := fSub m b
      let dn := fSub (g r4.1 lo) ch
      if fLt dn f0 then
        let rem := fNegate dn
        ((r4.1.set lo f0).set mid (fAdd (g r4.1 mid) rem), mid, rem)
      else (r4.1.set lo dn, lo, fNegate ch)
    else (r4.1, 3, f0)
  { outs := freshOuts (r5.1 ++ [r4.2.2, r5.2.2, lost]), st := [carryWord r4.2.1 r4.2.2, carryWord r5.2.1 r5.2.2] }

/-- SHUNT_RECON (type 47, R215). -/
def blkShuntRecon (c : BlkIn) : BlkOut :=
  let tag := (c.x 2).toNat
  let new := tag % 16
  let old := tag / 16 % 16
  let state := (c.x 3).toNat % 4
  let o := c.s 0
  if state = 0 ∧ new % 4 = 3 then
    { outs := freshOuts [f0, f0, f0], st := [fFma (c.p 0) (fSub (c.x 0) o) o] }
  else if state = 1 ∧ 8 ≤ new ∧ 8 ≤ old ∧ new % 4 ≠ old % 4 ∧ new % 4 < 3 ∧ old % 4 < 3 then
    let cur := fun (i : Word) (t : Nat) => let d := fSub i o; if bit t 2 then fNegate d else d
    let a := cur (c.x 0) new
    let b := cur (c.x 1) old
    let base := [f0, f0, f0].map (fun _ => fNegate (fAdd a b))
    { outs := freshOuts ((base.set (new % 4) a).set (old % 4) b), st := [o] }
  else { outs := freshOuts [f0, f0, f0], st := [o] }

/-- How far the direction (α, β) lies ahead of θ: its distance across that direction, positive up to half a turn ahead. -/
def aheadOf (α β : Word) (θ : Nat) : Word := fFma β (fCos θ) (fNegate (fMul α (fSin θ)))

/-- The 16-step binary search for the angle of (α, β) on the sine table (R219), from bit 15 down: bit 15 by the sign of β, each
lower bit where the direction is not behind the angle tried. -/
def angleSearch (α β : Word) : Nat → Nat → Nat
  | 0, θ => θ
  | k + 1, θ =>
    let t := θ + 2 ^ k
    let take := if k = 15 then fLt β f0 || (fEq β f0 && fLt α f0) else fLe f0 (aheadOf α β t)
    angleSearch α β k (if take then t else θ)

/-- The angle of (α, β): of the one found and the next the one nearer to it. [DESIGN CHOICE, log entry 59] -/
def angleOf (α β : Word) : Nat :=
  let θ := angleSearch α β 16 0
  if fLt (fAbs (aheadOf α β (θ + 1))) (fAbs (aheadOf α β θ)) then (θ + 1) % 65536 else θ

/-- 2π ÷ 65,536 rad, one count of an angle (R209). -/
def fCount : Word := fDiv fTwoPi f65536

/-- BEMF (type 51, R219): ω is the wrapped change per DT, drawn to its new value by W_A as R115 and R215 draw theirs.
[DESIGN CHOICE, log entry 59] -/
def blkBemf (c : BlkIn) : BlkOut :=
  let ab := clarke (c.x 0) (c.x 1) (c.x 2)
  let amp := fSqrt (fAdd (fMul ab.1 ab.1) (fMul ab.2 ab.2))
  let θ := angleOf (fDiv ab.1 amp) (fDiv ab.2 amp)
  let valid := !fLt amp (c.p 0)
  let raw := fDiv (fMul (fOfInt (toInt 16 ((θ + 65536 - c.sn 0 % 65536) % 65536))) fCount) (c.p 2)
  let ω := if valid && decide (c.s 2 = 1) then fFma (c.p 1) (fSub raw (c.s 1)) (c.s 1) else f0
  { outs := freshOuts [wNat (θ + (if valid then 0 else 2 ^ 31)), ω], st := [wNat θ, ω, wBool valid, amp] }

/-- REGEN_LIMIT (type 53, R223). -/
def blkRegen (c : BlkIn) : BlkOut :=
  let l := fMul (c.p 1) (fClamp (fDiv (fSub (c.p 0) (c.x 0)) (fMul fTenth (c.p 0))) f0 f1)
  let y := if fLt (fMul (c.x 2) (c.x 1)) f0 then fClamp (c.x 2) (fNegate l) l else c.x 2
  { outs := freshOuts [y], st := [l] }

/-- The observer of FLUX_OBS, steps 1 to 4 of R217: θ, ω, the two flux words and the magnitude of one sample. The flux words are
the integral of u - R_S·i, after the pull; the estimate is what is left of them less L_S·i. The pull moves each of them along
the estimate by K_OBS times what the magnitude lacks to PSI_M; the tracker's error is the sine of the angle by which the
estimate leads θ, its integral KI_PLL adds to ω, and θ turns by ω and KP_PLL times the error. R217 gives these steps without
their formulas. [DESIGN CHOICE, log entry 59] -/
def fluxSample (c : BlkIn) : Nat × Word × Word × Word × Word :=
  let dt := c.p 10
  let flux := fun (s u i : Word) => fFma dt (fSub u (fMul (c.p 0) i)) s
  let ψα := flux (c.s 2) (c.x 2) (c.x 0)
  let ψβ := flux (c.s 3) (c.x 3) (c.x 1)
  let a := fSub ψα (fMul (c.p 1) (c.x 0))
  let b := fSub ψβ (fMul (c.p 1) (c.x 1))
  let mag := fSqrt (fAdd (fMul a a) (fMul b b))
  let some' := fLt f0 mag
  let ux := if some' then fDiv a mag else f0
  let uy := if some' then fDiv b mag else f0
  let pull := fMul (c.p 3) (fSub (c.p 2) mag)
  let err := aheadOf ux uy (c.sn 0 % 65536)
  let ω := fFma (fMul (c.p 5) dt) err (c.s 1)
  let turn := fDiv (fMul (fFma (c.p 4) err ω) dt) fCount
  let θ := (((c.sn 0 % 65536 : Nat) : Int) + (fRint turn).getD 0) % 65536
  (θ.toNat, ω, fFma pull ux ψα, fFma pull uy ψβ, fAdd mag pull)

/-- FLUX_OBS (type 54, R217). State: θ, ω, two flux words, the run of passing (bit 31 clear) or failing samples, LOCK, the last
seed applied, the magnitude. -/
def blkFluxObs (c : BlkIn) : BlkOut :=
  let seed := c.x 4
  let apply := decide (2 ^ 31 ≤ seed.toNat) && decide (seed ≠ c.s 6)
  let o := fluxSample c
  let θ := if apply then seed.toNat % 65536 else o.1
  let ω := if apply then fMul (fOfInt (toInt 15 (seed.toNat / 65536))) fTen else o.2.1
  let mag := o.2.2.2.2
  let band := fMul (c.p 2) (c.p 6)
  let pass := fLe (c.p 8) (fAbs ω) && fLe (fSub (c.p 2) band) mag && fLe mag (fAdd (c.p 2) band)
  let run := if apply then 0 else c.sn 4
  let same := decide (run / 2 ^ 31 = (if pass then 0 else 1))
  let n := (if same then run % 2 ^ 31 else 0) + 1
  let lockN := max 1 (c.pn 7)
  let lock := if lockN ≤ n then wBool pass else c.s 5
  { outs := freshOuts [wNat (θ + (if lock = 1 then 0 else 2 ^ 31)), ω, lock],
    st := [wNat θ, ω, o.2.2.1, o.2.2.2.1, wNat (min n 0xFFFF + (if pass then 0 else 2 ^ 31)), lock,
      if apply then seed else c.s 6, mag],
    raises := if c.s 5 = 1 ∧ lock = 0 then [0x46 + 3 * c.pn 9 + 1] else [] }

/-- START_CHECK (type 109, R220). State: RESULT, samples in it, tries, clean samples, LOCK of the last sample, 0. -/
def blkStartCheck (c : BlkIn) : BlkOut :=
  let st := c.sn 0
  let cnt := c.sn 1
  let tries := c.sn 2
  let runReq := c.x 0 ≠ 0
  let lock := c.x 3 ≠ 0
  let v := if c.pi 0 < 0 then fNegate (c.x 2) else c.x 2
  let fail := decide (tries = c.pn 6)
  let try' : Nat × Nat := if fail then (6, tries) else (1, tries + 1)
  let next : Nat × Nat :=
    if !runReq then (if st = 6 then 0 else 0, tries)
    else
      match st with
      | 0 => (1, tries)
      | 1 =>
        if cnt < max 1 (c.pn 3) then (1, tries)
        else if 2 ^ 31 ≤ (c.x 1).toNat ∨ fLt (fAbs (c.x 2)) (c.p 1) = true then (4, tries)
        else if fLe (c.p 2) v then (3, tries)
        else if c.pn 8 = 0 then (4, tries) else (2, tries)
      | 2 => if cnt < max 1 (c.pn 4) then (2, tries) else try'
      | 3 => if lock then (4, tries) else if cnt < max 1 (c.pn 5) then (3, tries) else try'
      | 4 => if !lock && decide (c.s 4 = 1) then (5, tries) else (4, tries)
      | 5 => try'
      | _ => (6, tries)
  let cnt' := if next.1 = st then min (cnt + 1) 0xFFFFFFFF else 1
  let clean := if next.1 = 4 then (if st = 4 then c.sn 3 + 1 else 1) else 0
  let tries' := if next.1 = 4 ∧ c.pn 7 ≤ clean then 0 else next.2
  let mode := match next.1 with | 2 => 2 | 3 => 1 | 4 => 1 | _ => 0
  { outs := freshOuts [wNat mode, wBool (next.1 = 3 || next.1 = 4), wNat next.1],
    st := [wNat next.1, wNat cnt', wNat tries', wNat (min clean 0xFFFFFFFF), wBool lock, 0],
    raises := if next.1 = 6 ∧ st ≠ 6 then [0x46 + 3 * c.pn 8 + 2] else [] }

/-- CATCH_SPIN (type 110, R222). State: RESULT of the last sample, status, seed code, 0. -/
def blkCatchSpin (c : BlkIn) : BlkOut :=
  let result := (c.x 2).toNat
  let lock := c.x 3 ≠ 0
  let first := decide (result = 3) && decide (c.sn 0 ≠ 3)
  let valid := (c.x 0).toNat < 2 ^ 31
  let ok := valid ∧ fLe (fAbs (c.x 1)) (c.p 1) = true
  let adv := (fRint (fDiv (fMul (fMul (c.x 1) (c.p 0)) f65536) fTwoPi)).getD 0
  let θ := (((c.x 0).toNat % 65536 : Nat) + adv) % 65536
  let ω := ofInt 15 ((fRint (fDiv (c.x 1) fTen)).getD 0)
  let r : Nat × Nat :=
    if first then (if ok then (2, θ.toNat + ω * 65536 + 2 ^ 31) else (3, 0))
    else if result = 3 then (c.sn 1, if lock then c.sn 2 % 2 ^ 31 else c.sn 2)
    else (if result = 1 ∨ result = 2 then 1 else 0, c.sn 2 % 2 ^ 31)
  { outs := freshOuts [wNat r.2, wNat r.1], st := [wNat result, wNat r.1, wNat r.2, 0] }

/-! Safety types (R397 to R412) -/

/-- A persistence parameter: 0 acts as 1 (R397). -/
def persist (n : Nat) : Nat := max 1 n

/-- RING_COMPARE (type 68, R403). State: the one-ring run and BAD_RUN. -/
def blkRingCompare (c : BlkIn) : BlkOut :=
  let v := (c.x 0).toNat % 8
  let lds := (c.x 5).toNat
  let aged := c.ins.any (fun x => x.2)
  let one := decide (v = 2) || decide (v = 3)
  let lost := (v = 2 && bit lds 13) || (v = 3 && bit lds 12)
  let good := !aged && (decide (v = 1) || (one && (lost || decide (c.sn 0 < c.pn 2))))
  let oneRun := if !aged && one then min (c.sn 0 + 1) 0xFFFFFFFF else 0
  let bad := if good then 0 else min (c.sn 1 + 1) 0xFFFFFFFF
  { outs := freshOuts [wBool good, wNat (if !good then 0 else if v = 1 then 2 else 1), wNat bad],
    st := [wNat oneRun, wNat bad], raises := if bad = c.pn 1 then [0xB1 + c.pn 0] else [] }

/-- The smallest of the four limits. -/
def slsMin (c : BlkIn) : Word := fMin (fMin (c.p 0) (c.p 1)) (fMin (c.p 2) (c.p 3))

/-- SLS (type 70, R404, R405). State: L, the plausibility run, the over run, 0. -/
def blkSls (c : BlkIn) : BlkOut :=
  let va := fAbs (c.x 0)
  let vb := fAbs (c.x 1)
  let used := fMax va vb
  let saf := (c.x 3).toNat
  let mode := saf % 16
  let grace := bit saf 4
  let sel := c.xi 4
  let lim := if c.aged 4 ∨ sel < 0 ∨ 3 < sel then slsMin c else c.p sel.toNat
  let target := if mode = 7 ∨ mode = 8 then c.p 4 else if grace then fMin lim (c.p 4) else lim
  let l := if c.fresh ∨ fLe (c.s 0) target = true then target
    else fMax target (fSub (c.s 0) (fMul (c.p 13) c.period))
  let abFail := fLt (fAdd (c.p 6) (fMul (c.p 7) used)) (fAbs (fSub (c.x 0) (c.x 1)))
  let poseUsable := !c.aged 2 && !c.aged 5 && decide (c.xi 5 ≤ (c.p 9).toInt)
  let poseFail := poseUsable && fLt (c.p 8) (fAbs (fSub used (fAbs (c.x 2))))
  let fail := c.aged 0 || c.aged 1 || fIsNaN used || abFail || poseFail
  let pr := if fail then min (c.sn 1 + 1) 0xFFFFFFFF else 0
  let above := fLt l used
  let ovr := if fLt (fAdd l (c.p 5)) used then min (c.sn 2 + 1) 0xFFFFFFFF else 0
  let still := fLt va (c.p 10) && fLt vb (c.p 10)
  let verdict := if persist (c.pn 12) ≤ pr then 3 else if above then 1 else if still then 2 else 0
  { outs := freshOuts [used, wNat verdict], st := [l, wNat pr, wNat ovr, 0],
    raises := (if pr = persist (c.pn 12) then [0xB8] else []) ++
      (if ovr = persist (c.pn 11) then [0xB7] else []) }

/-- SLP (type 71, R407). State: the beyond run, the approach run, δ_lim. -/
def blkSlp (c : BlkIn) : BlkOut :=
  let lim0 := (c.table 0).at1 (fAbs (c.x 2))
  let lim := fMin lim0 (c.p 2)
  let out := fClamp (c.x 1) (fNegate lim) lim
  let clamped := fLt lim (c.x 1) || fLt (c.x 1) (fNegate lim)
  let m := fAbs (c.x 0)
  let beyond := fLt (fAdd lim0 (c.p 1)) m
  let appr := fLt (fSub (c.p 2) (c.p 3)) m && fLt (c.p 4) (fMul (c.x 3) (fSign (c.x 0)))
  let b := if beyond then min (c.sn 0 + 1) 0xFFFFFFFF else 0
  let a := if appr then min (c.sn 1 + 1) 0xFFFFFFFF else 0
  { outs := freshOuts [out, wNat (if appr then 3 else if beyond then 2 else if clamped then 1 else 0)],
    st := [wNat b, wNat a, lim],
    raises := (if b = persist (c.pn 5) then [0xB9] else []) ++ (if a = 1 then [0xBA] else []) }

/-- SDI (type 72, R409). State: the travel run and the steer run. -/
def blkSdi (c : BlkIn) : BlkOut :=
  let dir := if c.aged 0 then 0 else c.xi 0
  let rd := if c.aged 3 then 0 else c.xi 3
  let rate := c.x 2
  let tol := c.p 1
  let travel := decide (dir ≠ 0) && fLt (fMul (c.x 1) (fOfInt dir)) (fNegate (c.p 0))
  let steer := (rd = 1 && fLt rate (fNegate tol)) || (rd = -1 && fLt tol rate) || (rd = 2 && fLt tol (fAbs rate))
  let t := if travel then min (c.sn 0 + 1) 0xFFFFFFFF else 0
  let r := if steer then min (c.sn 1 + 1) 0xFFFFFFFF else 0
  { outs := freshOuts [wNat (if travel then 1 else if steer then 2 else 0), wNat (max t r)], st := [wNat t, wNat r],
    raises := (if t = persist (c.pn 2) then [0xBB] else []) ++ (if r = persist (c.pn 2) then [0xBC] else []) }

/-- LIMP_LIMIT (type 74, R410). -/
def blkLimpLimit (c : BlkIn) : List Word :=
  let saf := (c.x 1).toNat
  let mode := saf % 16
  let lim : Option (Word × Word) :=
    if c.x 2 = 0 then none
    else if mode = 7 ∨ mode = 8 then some (c.p 0, c.p 1)
    else if (mode = 5 ∨ mode = 6) ∧ bit saf 4 = true then some (c.p 2, c.p 3)
    else none
  match lim with
  | none => [c.x 0, 0]
  | some (lo, hi) => [fClamp (c.x 0) lo hi, if fLt hi (c.x 0) then 1 else if fLt (c.x 0) lo then 2 else 0]

/-- PULSE_EVAL (type 75, R412). State word 0: the blanked samples left; state word 1: the lowest codes of inputs 1 and 2 in bits 13 to 0
and 27 to 14, bit 28 a pulse was seen and waits for evaluation, bits 30 to 29 the verdict that holds. While its enable is 0 it watches
nothing and gives 0, as LIMP_LIMIT passes its input then (R410); the spec does not say what the enable does here.
[DEDUCED, log entry 40] -/
def blkPulseEval (c : BlkIn) : BlkOut :=
  let stat := (c.x 0).toNat
  let seen := bit (c.sn 1) 28
  let left := c.sn 0
  let hold := c.sn 1 / 2 ^ 29 % 4
  let a := (c.x 1).toNat % 16384
  let b := (c.x 2).toNat % 16384
  let lowA := c.sn 1 % 16384
  let lowB := c.sn 1 / 16384 % 16384
  let mk := fun (v : Nat) (seen : Bool) (hold left lowA lowB : Nat) (r : List Nat) =>
    BlkOut.mk (freshOuts [wNat v]) [wNat left, wNat (lowA + 16384 * lowB + 2 ^ 28 * b2n seen + 2 ^ 29 * hold)] r false none
  if c.x 3 = 0 then mk 0 false 0 0 lowA lowB []
  else if bit stat 2 then
    let restart := !seen || decide (left ≠ c.pn 1)
    mk 1 true hold (c.pn 1) (if restart then a else min lowA a) (if restart then b else min lowB b) []
  else if seen ∧ 0 < left then mk 1 true hold (left - 1) lowA lowB []
  else if seen then
    if !bit stat 4 then mk 2 false 2 0 lowA lowB [0xBD + c.pn 3]
    else if c.pn 0 < lowA ∨ (c.pn 2 = 1 ∧ c.pn 0 < lowB) then mk 3 false 3 0 lowA lowB [0xC1 + c.pn 3]
    else mk 0 false 0 0 lowA lowB []
  else mk hold false hold 0 lowA lowB []

/-! The library -/

/-- Numbers of outputs and state words of a type (R83). -/
def typeShape : List (Nat × Nat) :=
  [(1, 0), (1, 0), (1, 0), (1, 1), (1, 4), (1, 1), (1, 0), (1, 66), (1, 2), (1, 2), (1, 1), (1, 1), (1, 0), (1, 0), (2, 0),
   (1, 1), (1, 1), (1, 0), (1, 0), (2, 0), (1, 0), (1, 1), (1, 1), (1, 1), (1, 1), (1, 0), (1, 0), (1, 0), (1, 0), (1, 0)] ++
  [(2, 2), (2, 4), (3, 4), (3, 6), (2, 3), (1, 2), (1, 3), (2, 6), (2, 4), (2, 0), (2, 0), (3, 0), (2, 0), (2, 0), (2, 0),
   (3, 0), (3, 0), (3, 1), (6, 2), (2, 3), (1, 0), (2, 4), (2, 0), (1, 1), (3, 8), (2, 4), (2, 6), (4, 20), (2, 2), (1, 4)] ++
  [(2, 3), (2, 0), (2, 1), (2, 2), (1, 0), (1, 0), (1, 0), (1, 1), (3, 2), (1, 1), (2, 4), (2, 3), (2, 2), (1, 2), (2, 0),
   (1, 2), (8, 6), (2, 0), (1, 64), (0, 32), (1, 0), (0, 0), (1, 32), (1, 0), (1, 0), (1, 0), (1, 0), (0, 0)] ++
  [(0, 0), (0, 0), (0, 0), (0, 0), (0, 0), (0, 0), (0, 0), (0, 0), (0, 0), (0, 0), (0, 0), (0, 0), (0, 0), (0, 0), (1, 2),
   (1, 1), (3, 4), (1, 2), (1, 1), (1, 0), (2, 4), (3, 6), (2, 4), (2, 0)]

/-- A type without a stated formula: free outputs and free state words. [DESIGN CHOICE, log entry 5] -/
def blkFree (c : BlkIn) : BlkOut :=
  let sh := typeShape.getD c.ty (0, 0)
  { outs := freshOuts ((List.range sh.1).map c.free), st := (List.range sh.2).map (fun k => c.free (sh.1 + k)) }

/-- A sample of any type but the section types 76 to 87 (R83). Writers (88 to 101) have no outputs and no state. -/
def evalBlock (c : BlkIn) : BlkOut :=
  let out := fun (l : List Word) => ({ outs := freshOuts l, st := [] } : BlkOut)
  match c.ty with
  | 0 => out [fMul (c.p 0) (c.x 0)]
  | 1 => out [blkSum c]
  | 2 => out [blkProduct c]
  | 3 => { outs := freshOuts [blkLpf1 c], st := [blkLpf1 c] }
  | 4 => blkBiquad c
  | 5 => blkHpf1 c
  | 6 => out [blkDiv c]
  | 10 => { outs := freshOuts [blkInteg c], st := [blkInteg c] }
  | 11 => { outs := freshOuts [if c.fresh then c.init else c.s 0], st := [c.x 0] }
  | 13 => out [fSqrt (c.x 0)]
  | 14 => out [(blkClamp c).1, wNat (blkClamp c).2]
  | 15 => { outs := freshOuts [blkRateLimit c], st := [blkRateLimit c] }
  | 18 => { outs := [blkSelect c], st := [] }
  | 26 => out [blkAgeTest c]
  | 27 => out [(c.table 0).at1 (c.x 0)]
  | 28 => out [(c.table 0).at2 (c.x 0) (c.x 1)]
  | 30 => blkPid c false
  | 31 => blkPid c true
  | 32 => blkSched c false
  | 33 => blkSched c true
  | 34 => blkPi2dof c
  | 35 => blkLeadLag c
  | 36 => blkSpHold c
  | 37 => blkCurvature c
  | 38 => blkPressure c
  | 40 => out [(clarke (c.x 0) (c.x 1) (c.x 2)).1, (clarke (c.x 0) (c.x 1) (c.x 2)).2]
  | 41 => out (invClarke (c.x 0) (c.x 1))
  | 42 => out (turnBack (c.x 0) (c.x 1) ((c.x 2).toNat % 65536))
  | 43 => out (turnOn (c.x 0) (c.x 1) ((c.x 2).toNat % 65536))
  | 44 => out [fSin ((c.x 0).toNat % 65536), fCos ((c.x 0).toNat % 65536)]
  | 45 => out (blkSvPwm c)
  | 46 => out (blkSinPwm c)
  | 47 => blkShuntRecon c
  | 48 => blkEdgeShift c
  | 51 => blkBemf c
  | 53 => blkRegen c
  | 54 => blkFluxObs c
  | 64 => out [blkMid c]
  | 66 => out [blkDigest c]
  | 68 => blkRingCompare c
  | 70 => blkSls c
  | 71 => blkSlp c
  | 72 => blkSdi c
  | 74 => out (blkLimpLimit c)
  | 75 => blkPulseEval c
  | 107 => out [c.p 0]
  | 109 => blkStartCheck c
  | 110 => blkCatchSpin c
  | t => if 88 ≤ t ∧ t ≤ 101 then out [] else blkFree c

end Sys2Proof.Machine
end

