-- ==== Sys2Proof/Machine/Flue.lean ====
section
/-!
DEFINITION. The Flue: headers, schedules, time, integration, clock correction, bypasses and the damper (R278 to R337).
Reception, freeze and transmission follow in FlueFrames.lean.
-/
namespace Sys2Proof.Machine

open Sys2Proof

/-! Headers (R286) -/

/-- The ten header bytes before HCRC. -/
def Hdr.head (h : Hdr) : List Byte :=
  leBytes 1 h.slot ++ leBytes 2 h.cycle ++ leBytes 1 (h.node % 32 + 32 * (h.modeReq % 8)) ++
    leBytes 1 (h.flags % 16 + 16 * (h.ptype % 16)) ++ leBytes 1 h.ageCnt ++ leBytes 1 h.dynReq ++ leBytes 2 (h.len % 512) ++
    leBytes 1 (h.sched % 8)

/-- The twelve header bytes. -/
def Hdr.bytes (h : Hdr) : List Byte := h.head ++ leBytes 2 (crc16 h.head)

/-- Reading a header's fields. -/
def Hdr.parse (b : List Byte) : Hdr :=
  let f := fun (o n : Nat) => ofLe ((b.drop o).take n)
  { slot := f 0 1, cycle := f 1 2, node := f 3 1 % 32, modeReq := f 3 1 / 32, flags := f 4 1 % 16, ptype := f 4 1 / 16,
    ageCnt := f 5 1, dynReq := f 6 1, len := f 7 2 % 512, sched := f 9 1 % 8 }

/-- Whether HCRC holds (R287). -/
def hcrcOk (b : List Byte) : Bool := decide (b.length = 12) && decide (ofLe (b.drop 10) = crc16 (b.take 10))

/-- The tail: HOPS and its complement (R288). -/
def frameTail (hops : Nat) : List Byte := leBytes 1 hops ++ leBytes 1 (255 - hops % 256)

/-- The bytes of an own frame from the header to the tail, HOPS 0 (R285, R288). -/
def frameBytes (h : Hdr) (payload : List Byte) : List Byte :=
  let b := h.bytes ++ payload
  b ++ leBytes 4 (crc32c b) ++ frameTail 0

/-- The action point of a SLOT within its cycle in ns (R281, R286). -/
def actionPoint (slot : Nat) : Nat := if slot < 48 then 1500 * slot + 250 else 72000 + 250 * (slot - 48) + 250

/-- The full cycle count nearest to C with the low 16 bits of CYCLE. -/
def fullCycle (c cyc : Nat) : Int :=
  let d := (cyc + 65536 - c % 65536) % 65536
  (c : Int) + (if d < 32768 then (d : Int) else (d : Int) - 65536)

/-! Registers per ring -/

/-- Choosing by ring. -/
def byRing {α : Type} (ring : Nat) (a b : α) : α := if ring = 0 then a else b

def ringLock (ring : Nat) : Fld := byRing ring F.FLU_PORT_A_LOCK F.FLU_PORT_B_LOCK
def ringBypass (ring : Nat) : Fld := byRing ring F.FLU_PORT_A_BYPASS F.FLU_PORT_B_BYPASS
def ringEn (ring : Nat) : Fld := byRing ring F.FLU_CFG_RING_A_EN F.FLU_CFG_RING_B_EN
def ringOk (ring : Nat) : Fld := byRing ring F.FLU_STATUS_RING_A_OK F.FLU_STATUS_RING_B_OK
def ringNodes (ring : Nat) : Fld := byRing ring F.FLU_PORT_A_NODES_HEARD F.FLU_PORT_B_NODES_HEARD

/-- RING_x_OK: the ring is locked, and a frame of another node was accepted in the latest cycle (R312). -/
def State.refreshRingOk (s : State) (ring : Nat) : State :=
  s.setFlag (ringOk ring) (s.flag (ringLock ring) && decide (0 < s.getF (ringNodes ring)))

/-- HOPS_NOM and WIRE_NS of a sender on a ring (R292). -/
def State.hopsNom (s : State) (ring n : Nat) : Nat := s.getF (byRing ring (F.FLU_POSDLY_A_HOPS_NOM n) (F.FLU_POSDLY_B_HOPS_NOM n))
def State.wireNs (s : State) (ring n : Nat) : Nat := s.getF (byRing ring (F.FLU_POSDLY_A_WIRE_NS n) (F.FLU_POSDLY_B_WIRE_NS n))

/-! Schedules (R319, R334 to R336) -/

/-- The own node ID. -/
def State.nodeId (s : State) : Nat := s.getF F.FLU_NODE_NODE_ID

/-- Schedule k as loaded. -/
def State.schedOf (s : State) (k : Nat) : Option Sched := s.img.flue.scheds.find? (fun x => x.index = k)

/-- The slots of the schedule in force. -/
def State.slots (s : State) : List Slot := ((s.schedOf (s.getF F.FLU_SCHED_ACTIVE)).map (fun x => x.slots)).getD []

/-- The static slots a node owns under a list of slots, in ascending order. -/
def ownedBy (l : List Slot) (n : Nat) : List Nat :=
  (List.range l.length).filter (fun i => decide ((l.getD i {}).owner = n))

/-- The own static slots in the schedule in force. -/
def State.ownSlots (s : State) : List Nat := ownedBy s.slots s.nodeId

/-- A node's sync slot: its lowest-numbered KIND 0 slot (R322). -/
def syncSlot (l : List Slot) (n : Nat) : Option Nat := (ownedBy l n).find? (fun i => decide ((l.getD i {}).kind = 0))

/-- A node's channel slot: its lowest-numbered KIND 1 slot with LEN 64 (R362). -/
def chSlot (l : List Slot) (n : Nat) : Option Nat :=
  (ownedBy l n).find? (fun i => decide ((l.getD i {}).kind = 1) && decide ((l.getD i {}).len = 64))

/-- A node's intake slots: the lowest twelve of its KIND 0 slots with LEN 128 other than its sync slot (R362). -/
def intakeSlots (l : List Slot) (n : Nat) : List Nat :=
  ((ownedBy l n).filter (fun i => decide ((l.getD i {}).kind = 0) && decide ((l.getD i {}).len = 128) &&
    decide (syncSlot l n ≠ some i))).take 12

/-- The own COMMAND slots. -/
def cmdSlots (l : List Slot) (n : Nat) : List Nat := (ownedBy l n).filter (fun i => decide ((l.getD i {}).kind = 2))

/-- SEC_CMD_CAP under a schedule (R302). -/
def cmdCap (x : Sched) (n : Nat) : Nat := 15 * (cmdSlots x.slots n).length + (if x.dynCmd then 31 else 0)

/-- The registers that follow the schedule in force (R313, R336); buffers of slots no longer owned are dropped, newly owned
slots start as after entry into JOIN, and a kept buffer takes its slot's new LEN. [DESIGN CHOICE, log entry 24] -/
def State.useSched (s : State) (k : Nat) : State :=
  let s1 := s.setF F.FLU_SCHED_ACTIVE k
  let own := s1.ownSlots
  let s2 := s1.each (List.range 8) (fun s i =>
    match own[i]? with
    | some sl =>
      ((((s.setFlag (F.FLU_OWN_VALID i) true).setF (F.FLU_OWN_KIND i) (s.slots.getD sl {}).kind).setF (F.FLU_OWN_LEN i)
        (s.slots.getD sl {}).len).setF (F.FLU_OWN_AGE_CNT i) 0).setF (F.FLU_OWN_SLOT i) sl
    | none => s.setReg (F.FLU_OWN_VALID i).addr 0)
  let cmds := (cmdSlots s2.slots s2.nodeId).length
  let cap := ((s2.schedOf k).map (fun x => cmdCap x s2.nodeId)).getD 0
  let s3 := ((s2.setF F.FLU_CMD_SLOTS cmds).setF F.FLU_CMD_CAP cap).setF F.SEC_CMD_CAP_CAP cap
  let keep := (s3.flu.tx.filter (fun b => own.contains b.slot)).map (fun b =>
    let len := (s3.slots.getD b.slot {}).len
    { b with data := (b.data ++ List.replicate len 0).take len })
  let fresh := (own.filter (fun sl => !keep.any (fun b => decide (b.slot = sl)))).map (fun sl =>
    ({ slot := sl, data := List.replicate (s3.slots.getD sl {}).len 0 } : TxBuf))
  let s4 : State := { s3 with flu := { s3.flu with tx := keep ++ fresh } }
  (List.range 48).foldl (fun s sl => s.setFlag (F.FLU_SLOT_RX_OWN sl) (own.contains sl)) s4

/-- MODE_REQ as written by a MODE_REQ block (R334): other values and schedules not loaded are ignored. -/
def State.modeReqWrite (s : State) (v : Word) : State :=
  if v.toNat < 8 ∧ (s.schedOf v.toNat).isSome then s.setF F.FLU_SCHED_REQUEST v.toNat else s

/-! Flue time (R316, R33) -/

/-! Losing and gaining synchronisation (R327, R330, R331) -/

/-- SYNC_LOST (R327): no own frame, listening again; forwarding continues. -/
def State.syncLost (s : State) : State :=
  let s1 : State := { s with flu := { s.flu with integ := .listen, lostRun := 0, out := [], ppsE := none } }
  (((s1.setFlag F.FLU_STATUS_IN_SYNC false).incF F.FLU_SYNC_STAT_LOST_CNT).event Ev.flu 11).raise Src.syncLost

/-- IN_SYNC sets. -/
def State.gotSync (s : State) : State :=
  ({ s with flu := { s.flu with integ := .synced, lostRun := 0 } } : State).setFlag F.FLU_STATUS_IN_SYNC true

/-- Adopting the ring's time at a sync frame's SOF (R330 step 2). -/
def State.adopt (s : State) (ring hops : Nat) (h : Hdr) (c : Nat) : State :=
  let t := c * 125000 + actionPoint h.slot + s.wireNs ring h.node + 120 * hops
  let s1 := (s.alignTick t).useSched h.sched
  { s1 with flu := { s1.flu with integ := .check none true, rx := [], sync := [], votes := [], votesPrev := [],
                                 syncSched := [], syncSent := false, out := [], ppsE := none } }

/-- Whether the device may kindle (R331): a kindling node that listens, in a mode in which R22 allows own frames. -/
def State.mayKindle (s : State) : Bool :=
  s.running && s.mode.sends && s.flag F.FLU_NODE_KINDLING && decide (s.flu.integ = .listen) && s.flu.rx.isEmpty

/-- LISTEN_TIMEOUT (R331): lone kindling begins at the next boundary of the node's own time `t`; a PPS edge latched while
listening shifts it by -e first (R329 step 7). The tick aligns to the own time. [DEDUCED, log entry 20] -/
def State.listenTimeout (s : State) (t : Nat) : State :=
  if s.mayKindle then
    let e := if s.img.flue.ppsEn && s.flag F.FLU_NODE_SYNC then s.flu.ppsE else none
    let t' := match e with
      | some e => ((t : Int) - e).toNat
      | none => t
    let s1 := (s.alignTick t').useSched s.img.flue.init
    { s1 with flu := { s1.flu with integ := .kindleDue, ppsE := none, ppsR := if e.isSome then 0 else s1.flu.ppsR } }
  else s

/-- The meaning of LISTEN_TIMEOUT (R331). -/
def execListenTimeout (t : Nat) (s : State) : Host.Outcome State Fault Refusal := .next (s.listenTimeout t)

/-- COLD_LIMIT_EXPIRY (R331 step 4): kindling stops, and the node listens again. -/
def State.coldLimit (s : State) : State :=
  match s.flu.integ with
  | .kindle _ _ | .kindleDue => { s with flu := { s.flu with integ := .listen, out := [] } }
  | _ => s

/-- The meaning of COLD_LIMIT_EXPIRY (R331). -/
def execColdLimitExpiry (s : State) : Host.Outcome State Fault Refusal := .next (if s.running then s.coldLimit else s)

/-! Clock correction (R323 to R327, R329) -/

/-- Inserting into an ascending list. -/
def insInt (x : Int) : List Int → List Int
  | [] => [x]
  | y :: t => if x ≤ y then x :: y :: t else y :: insInt x t

/-- The mean rounded towards zero. -/
def meanZero (l : List Int) : Int := (l.foldl (· + ·) 0).tdiv l.length

/-- The sync values of the cycle: the own 0 and one value per other sync node, the mean of both rings' where both qualify
(R323); at most 15. -/
def State.syncValues (s : State) (own : Bool) : List Int :=
  let nodes := (List.range 32).filter (fun n => s.flu.sync.any (fun v => decide (v.1 = n)))
  let vals := nodes.map (fun n => meanZero ((s.flu.sync.filter (fun v => decide (v.1 = n))).map (fun v => v.2.2)))
  ((if own && s.flu.syncSent then [0] else []) ++ vals).take 15

/-- Values discarded at each end. -/
def syncDiscard (n : Nat) : Nat := if n ≤ 2 then 0 else if n ≤ 7 then 1 else 2

/-- The values kept, in ascending order. -/
def syncKept (l : List Int) : List Int :=
  let k := syncDiscard l.length
  ((l.foldl (fun a x => insInt x a) []).drop k).take (l.length - 2 * k)

/-- The PPS step x of a cycle (R329 step 4). -/
def State.ppsStep (s : State) : Int :=
  if s.img.flue.ppsEn && s.flag F.FLU_NODE_SYNC && s.flag F.FLU_STATUS_IN_SYNC then
    max (-(s.img.flue.extStep : Int)) (min (s.img.flue.extStep : Int) s.flu.ppsR)
  else 0

/-- The correction at the end of a cycle: registers, the sum for RATE and the remaining PPS correction (R323 to R325). -/
def State.correct (s : State) (own : Bool) : State :=
  let v := s.syncValues own
  let kept := syncKept v
  let m := if v.isEmpty then 0 else meanZero kept
  let x := s.ppsStep
  let spread := match kept.head?, kept.getLast? with
    | some a, some b => (b - a).toNat
    | _, _ => 0
  let s1 := ((s.setF F.FLU_SYNC_STAT_SPREAD (min 65535 spread)).setF F.FLU_SYNC_STAT_K (syncDiscard v.length)).setF
    F.FLU_SYNC_STAT_VALUES v.length
  let s2 := s1.setReg F.FLU_OFFSET_CORR_NS.addr (BitVec.ofInt 32 (-m + x))
  { s2 with flu := { s2.flu with sumM := s2.flu.sumM - m, ppsR := s2.flu.ppsR - x } }

/-- m of the cycle. -/
def State.syncM (s : State) (own : Bool) : Int :=
  let v := s.syncValues own
  if v.isEmpty then 0 else meanZero (syncKept v)

/-- The schedule mismatch of R337. -/
def State.schedMismatch (s : State) : Bool :=
  let bad := s.flu.syncSched.filter (fun x => decide (x.2 ≠ s.getF F.FLU_SCHED_ACTIVE))
  decide (s.flu.syncSched.length < 2 * bad.length)

/-- The end of a cycle for integration and synchronisation (R327, R330 to R332). -/
def State.syncCycleEnd (s : State) : State :=
  match s.flu.integ with
  | .synced =>
    let n := (s.syncValues true).length
    let m := s.syncM true
    let s1 := s.correct true
    let run := if n < s.img.flue.syncMin then s.flu.lostRun + 1 else 0
    let s2 : State := { s1 with flu := { s1.flu with lostRun := run } }
    if (s.getF F.FLU_CFG_PRECISION : Int) < m ∨ m < -(s.getF F.FLU_CFG_PRECISION : Int) ∨
        (s.img.flue.lostCycles ≤ run ∧ 0 < run) ∨ s.schedMismatch = true then s2.syncLost
    else s2
  | .listen => s.correct false
  | .check none ok =>
    let s1 := s.correct false
    { s1 with flu := { s1.flu with integ := .check (some 0) ok } }
  | .check (some k) ok =>
    let m := s.syncM false
    let good := ok && !(s.syncValues false).isEmpty && decide (-(s.getF F.FLU_CFG_PRECISION : Int) ≤ m) &&
      decide (m ≤ (s.getF F.FLU_CFG_PRECISION : Int))
    let s1 := s.correct false
    if !good then { s1 with flu := { s1.flu with integ := .listen } }
    else if k = 0 then { s1 with flu := { s1.flu with integ := .check (some 1) true } }
    else s1.gotSync
  | .kindleDue =>
    let s1 := s.correct false
    { s1 with flu := { s1.flu with integ := .kindle 0 false } }
  | .kindle k prev =>
    let good := decide (s.img.flue.syncMin ≤ (s.syncValues true).length)
    let s1 := s.correct true
    if s.img.flue.kindleCycles ≤ k + 1 ∧ good = true ∧ prev = true then s1.gotSync
    else { s1 with flu := { s1.flu with integ := .kindle (k + 1) good } }
  | .idle => s

/-- The schedule agreed at the end of a cycle (R335). -/
def State.agreedSched (s : State) : Option Nat :=
  let a := s.flu.votesPrev
  let b := s.flu.votes
  let nodes := fun (l : List (Nat × Nat)) => l.map (fun x => x.1)
  match b.head? with
  | none => none
  | some (_, k) =>
    if !a.isEmpty && (nodes a).all (fun n => (nodes b).contains n) && (nodes b).all (fun n => (nodes a).contains n) &&
        (a ++ b).all (fun x => decide (x.2 = k)) && decide (k ≠ s.getF F.FLU_SCHED_ACTIVE) && (s.schedOf k).isSome
    then some k else none

/-- RATE_CORRECTION (R325, R327): at a boundary with C mod 16 = 0; RATE moves by 25 × S and is held at ±50,000.
[DEDUCED, log entry 20] -/
def State.rateCorrection (s : State) : State :=
  if s.running = false ∨ s.flu.cycle % 16 ≠ 0 then s
  else
    let r := (s.reg F.FLU_RATE_CORR_RATE.addr).toInt + 25 * s.flu.sumM
    let held := max (-50000) (min 50000 r)
    let s1 := ({ s with flu := { s.flu with sumM := 0 } } : State).setReg F.FLU_RATE_CORR_RATE.addr (BitVec.ofInt 32 held)
    s1.when (decide (r ≠ held)) State.syncLost

/-- The meaning of RATE_CORRECTION (R325). -/
def execRateCorrection (s : State) : Host.Outcome State Fault Refusal := .next s.rateCorrection

/-- e of a PPS edge at Flue time t: (t - PPS_DELAY) mod 10⁹ mapped into ±500,000,000 (R329 step 2). -/
def ppsError (t : Nat) (delay : Int) : Int :=
  let r := ((t : Int) - delay) % 1000000000
  if r < 500000000 then r else r - 1000000000

/-- PPS_EDGE (R329): Flue time is latched and the correction set; `rising` is the edge's polarity. -/
def State.ppsEdge (s : State) (t : Nat) (rising : Bool) : State :=
  if s.running && s.img.flue.ppsEn && s.flag F.FLU_NODE_SYNC && decide (rising ≠ s.img.flue.falling) then
    let e := ppsError t s.img.flue.ppsDelay
    let aligned := decide (-(s.getF F.FLU_CFG_PRECISION : Int) ≤ e) && decide (e ≤ (s.getF F.FLU_CFG_PRECISION : Int))
    let s1 : State := { s with flu := { s.flu with ppsR := -e, ppsE := if s.flu.integ = .listen then some e else s.flu.ppsE } }
    let s2 := ((((s1.setReg F.CLK_PPS_LAST_E.addr (BitVec.ofInt 32 e)).incF F.CLK_PPS_EDGE_CNT_COUNT).setFlag
      F.CLK_PPS_ALIGNED aligned).setFlag F.CLK_PPS_LOST false).clearLevel Src.ppsLost
    s2.when aligned (fun s => (s.incF F.CLK_PPS_ALIGN_CNT_COUNT).setFlag F.SYS_STATUS_TIME_COARSE false)
  else s

/-- The meaning of PPS_EDGE (R329). -/
def execPpsEdge (t : Nat) (rising : Bool) (s : State) : Host.Outcome State Fault Refusal := .next (s.ppsEdge t rising)

/-- PPS_LOST (R329 step 6): three seconds without an edge. -/
def State.ppsLost (s : State) : State :=
  if s.running && s.img.flue.ppsEn && s.flag F.FLU_NODE_SYNC then
    (((({ s with flu := { s.flu with ppsR := 0 } } : State).setFlag F.CLK_PPS_LOST true).setReg F.CLK_DRIFT_DEV.addr 0).incF
        F.CLK_PPS_LOST_CNT_COUNT
      |>.event Ev.clk 4).raiseLevel Src.ppsLost
  else s

/-- The meaning of PPS_LOST (R329). -/
def execPpsLost (s : State) : Host.Outcome State Fault Refusal := .next s.ppsLost

/-! Receivers, bypasses and the damper (R280, R293, R294, R299, R300) -/

/-- FORWARDING: on at least one ring the bypass is open and the receiver locked, without which nothing is forwarded (R280, R312). -/
def State.refreshForwarding (s : State) : State :=
  s.setFlag F.FLU_STATUS_FORWARDING ((!s.flag F.FLU_PORT_A_BYPASS && s.flag F.FLU_PORT_A_LOCK) ||
    (!s.flag F.FLU_PORT_B_BYPASS && s.flag F.FLU_PORT_B_LOCK))

/-- RECEIVER_LOCK (R280). -/
def State.receiverLock (s : State) (ring : Nat) : State :=
  if s.running ∧ ring < 2 then ((s.setFlag (ringLock ring) true).refreshRingOk ring).refreshForwarding else s

/-- The meaning of RECEIVER_LOCK (R280). -/
def execReceiverLock (ring : Nat) (s : State) : Host.Outcome State Fault Refusal := .next (s.receiverLock ring)

/-- Closing a ring's bypass (R299). -/
def State.closeBypass (s : State) (ring : Nat) : State := (s.setFlag (ringBypass ring) true).refreshForwarding

/-- LOCK_LOSS (R280): the ring's source is raised; in LOAD the bypass closes (R299). -/
def State.lockLoss (s : State) (ring errs : Nat) : State :=
  if s.running ∧ ring < 2 then
    let s1 := (((s.setFlag (ringLock ring) false).refreshRingOk ring).refreshForwarding).addF (byRing ring F.FLU_CODE_A_CNT_COUNT F.FLU_CODE_B_CNT_COUNT) errs
    let s2 := s1.when (decide (0 < errs)) (fun s => s.event Ev.flu 2)
    let s3 := ((s2.incF (byRing ring F.FLU_LOCK_A_CNT_COUNT F.FLU_LOCK_B_CNT_COUNT)).event Ev.flu 3).raise (Src.lockLoss ring)
    s3.when (decide (s.mode = .load)) (fun s => s.closeBypass ring)
  else s

/-- The meaning of LOCK_LOSS (R280). -/
def execLockLoss (ring errs : Nat) (s : State) : Host.Outcome State Fault Refusal := .next (s.lockLoss ring errs)

/-- Whether a ring's bypass must be closed (R299). -/
def State.bypassDue (s : State) (ring : Nat) : Bool :=
  s.sys.vioLow || !s.running || (decide (s.mode = .load) && !s.flag (ringLock ring))

/-- BYPASS_OPEN (R300): the receiver is locked, the transmitter ready, and nothing of R299 holds. -/
def State.bypassOpen (s : State) (ring : Nat) : State :=
  if ring < 2 ∧ s.flag (ringLock ring) = true ∧ s.domState 17 = 2 ∧ s.bypassDue ring = false then
    (s.setFlag (ringBypass ring) false).refreshForwarding
  else s

/-- The meaning of BYPASS_OPEN (R300). -/
def execBypassOpen (ring : Nat) (s : State) : Host.Outcome State Fault Refusal := .next (s.bypassOpen ring)

/-- BYPASS_CLOSE (R299): a condition of R299 has arisen. -/
def State.bypassClose (s : State) (ring : Nat) : State :=
  if ring < 2 ∧ s.bypassDue ring = true then s.closeBypass ring else s

/-- The meaning of BYPASS_CLOSE (R299). -/
def execBypassClose (ring : Nat) (s : State) : Host.Outcome State Fault Refusal := .next (s.bypassClose ring)

/-- VIO_FAULT (R458): VIO in mV outside 3.0 V to 3.6 V; below 2.7 V both bypasses close. In reset it only holds the device there
(R551). -/
def State.vioFault (s : State) (mv : Nat) : State :=
  if s.sys.phase = .off ∨ s.sys.phase = .holdup ∨ (3000 ≤ mv ∧ mv ≤ 3600) then s
  else
    let s1 : State := { s with sys := { s.sys with vioLow := decide (mv < 2700), vioUnder := decide (mv < 3000) } }
    if !s.running then s1
    else
      let s2 := (((s1.setF F.PWR_SUPPLY_VIO mv).incF F.PWR_VIO_CNT_COUNT).event Ev.pwr 2).raiseLevel Src.vioFault
      if mv < 2700 then (s2.closeBypass 0).closeBypass 1 else s2

/-- The meaning of VIO_FAULT (R458). -/
def execVioFault (mv : Nat) (s : State) : Host.Outcome State Fault Refusal := .next (s.vioFault mv)

/-- DAMPER_DIVERGE (R294): the two timelines differ by `ns`; above 125 ns the damper stays closed until they agree again. -/
def State.damperDiverge (s : State) (ns : Nat) : State :=
  if s.running then
    let s1 := s.peakF F.FLU_DAMPER_DIVERGE_MAX ns
    if 125 < ns then (s1.setFlag F.FLU_STATUS_DAMPER_OPEN_OK false).raiseLevel Src.damperDiverge
    else (s1.setFlag F.FLU_STATUS_DAMPER_OPEN_OK true).clearLevel Src.damperDiverge
  else s

/-- The meaning of DAMPER_DIVERGE (R294). -/
def execDamperDiverge (ns : Nat) (s : State) : Host.Outcome State Fault Refusal := .next (s.damperDiverge ns)

end Sys2Proof.Machine
end

