-- ==== Sys2Proof/Machine/SafetyData.lean ====
section
/-!
DEFINITION. Safety data on the rings (R400 to R402) and what a commit of a safety block shows in the SAF registers (R397 to R423).
-/
namespace Sys2Proof.Machine

open Sys2Proof

/-! Sending (R400) -/

/-- SCRC of a KIND 1 payload without its last four bytes. -/
def scrc (slot node : Nat) (body : List Byte) : Nat := crc32c (leBytes 1 slot ++ leBytes 1 (node % 32) ++ body)

/-- A KIND 1 payload with SEQ, SRC and SCRC written in hardware. -/
def safPayload (slot node seq : Nat) (data : List Byte) : List Byte :=
  let body := leBytes 2 seq ++ leBytes 1 node ++ [0] ++ (data.drop 4).take (data.length - 8)
  body ++ leBytes 4 (scrc slot node body)

/-- The number of channels (R361). -/
def State.topology (s : State) : Nat := s.getF F.IMG_CHANNEL_TOPOLOGY

/-- The own KIND 1 slots other than the channel slot, which a device has with TOPOLOGY 2 or 3 (R362). -/
def State.safSlots (s : State) : List Nat :=
  let c := if 2 ≤ s.topology then chSlot s.slots s.nodeId else none
  s.ownSlots.filter (fun i => decide ((s.slots.getD i {}).kind = 1) && decide (c ≠ some i))

/-- SAF_TX_t under the schedule in force (R422). -/
def State.refreshSafTx (s : State) : State :=
  s.each (List.range 8) (fun s t =>
    match s.safSlots[t]? with
    | some i => (s.setFlag (F.SAF_TX_VALID t) true).setF (F.SAF_TX_SLOT t) i
    | none => s.setReg (F.SAF_TX_VALID t).addr 0)

/-! Receiving (R401, R402) -/

/-- A receive channel. -/
def State.safCh (s : State) (r : Nat) : SafCh := s.saf.rx.getD r {}
/-- Storing it. -/
def State.setSafCh (s : State) (r : Nat) (x : SafCh) : State := { s with saf := { s.saf with rx := s.saf.rx.set r x } }

/-- SCRC holds. -/
def RxFrame.scrcOk (f : RxFrame) : Bool :=
  let n := f.payload.length
  decide (12 ≤ n) && decide (ofLe (f.payload.drop (n - 4)) = scrc f.hdr.slot f.hdr.node (f.payload.take (n - 4)))

/-- SRC and header NODE name the sender. -/
def RxFrame.srcOk (f : RxFrame) (src : Nat) : Bool := decide ((f.payload.getD 2 0).toNat = src) && decide (f.hdr.node = src)

/-- SEQ of a copy. -/
def RxFrame.seq (f : RxFrame) : Nat := ofLe (f.payload.take 2)

/-- The verdict of R401 on the copies of rings A and B, for the expected SEQ (none: no reference). [DEDUCED, log entry 40] -/
def safVerdict (src : Nat) (expect : Option Nat) (a b : Option RxFrame) : Nat :=
  let l := [a, b].filterMap id
  let seqOk := fun (f : RxFrame) => decide (expect = some f.seq)
  if l.any (fun f => !f.scrcOk) then 5
  else if l.any (fun f => !f.srcOk src) then 7
  else if l.any (fun f => !seqOk f) then 6
  else
    match a, b with
    | some x, some y => if x.payload = y.payload then 1 else 4
    | some _, none => 2
    | none, some _ => 3
    | none, none => 0

/-- The delivered data words from word OFS on: beyond the data area 0 with the age flag. -/
def safWords (payload : List Byte) (ofs : Nat) : List (Word × Bool) :=
  (List.range 4).map (fun k =>
    let o := 4 + 4 * (ofs + k)
    if o + 4 ≤ payload.length - 4 then (w32 (ofLe ((payload.drop o).take 4)), false) else (0, true))

/-- One receive channel at the end of the static segment. [DEDUCED, log entry 40] -/
def State.safReceive (s : State) (r : Nat) : State :=
  if !s.flag (F.SAF_RX_CFG_EN r) then s
  else
    let x := s.safCh r
    let src := s.getF (F.SAF_RX_CFG_SRC r)
    let slot := s.getF (F.SAF_RX_CFG_SLOT r)
    let copy := fun ring => s.flu.rx.find? (fun f => decide (f.ring = ring) && decide (f.hdr.slot = slot) && decide (f.hdr.ptype < 4))
    let a := copy 0
    let b := copy 1
    let valid := s.flag (F.SAF_RX_STAT_REF_VALID r)
    let only := ([a, b].filterMap id).filter (fun f => f.scrcOk && f.srcOk src)
    let next := x.cand.map (fun q => (q + 1) % 65536)
    let taken := !valid && only.any (fun f => decide (next = some f.seq))
    let ref := if valid then some (ofInt 16 ((s.getF (F.SAF_RX_STAT_SEQ_REF r) : Int) + s.flu.cycle - x.cRef))
      else if taken then next else none
    let v := safVerdict src ref a b
    let deliver := decide (1 ≤ v) && decide (v ≤ 3)
    let keep := v ≠ 6 && (valid || taken)
    let use := match a with
      | some f => some f
      | none => b
    let cand := if keep || valid then none else (only.filter (fun f => decide (next ≠ some f.seq) || v = 6)).head?.map (fun f => f.seq)
    let words := match deliver, use with
      | true, some f => safWords f.payload (s.getF (F.SAF_RX_CFG_WORD_OFS r))
      | _, _ => x.words.map (fun w => (w.1, true))
    let s1 := s.setSafCh r { cand := cand, cRef := s.flu.cycle, words := words }
    let s2 := (((s1.setF (F.SAF_RX_STAT_VERDICT r) v).setFlag (F.SAF_RX_STAT_REF_VALID r) keep).setF (F.SAF_RX_STAT_SEQ_REF r)
      (ref.getD (s.getF (F.SAF_RX_STAT_SEQ_REF r))))
    let s3 := s2.when deliver (fun s => (s.setF (F.SAF_RX_STAT_AGE_CNT r) ((use.map (fun f => f.hdr.ageCnt)).getD 0)).setReg
      (F.SAF_RX_LAST_C r).addr (w32 s.flu.cycle))
    let s4 := s3.incF (if v = 1 then F.SAF_RX_BOTH_CNT_COUNT r else if v = 2 ∨ v = 3 then F.SAF_RX_ONE_CNT_COUNT r
      else F.SAF_RX_BAD_CNT_COUNT r)
    match v with
    | 2 | 3 => s4.event Ev.saf 0
    | 4 => (s4.incF F.SAF_RX_DIFF_CNT_COUNT).event Ev.saf 1
    | 5 | 7 => (s4.incF F.SAF_RX_SCRC_CNT_COUNT).event Ev.saf 2
    | 6 => (s4.incF F.SAF_RX_SEQ_CNT_COUNT).event Ev.saf 3
    | _ => s4

/-- SAF_STATUS as software and the graph read it (R421): MODE and GRACE_OVER are copies. -/
def State.safStatusWord (s : State) : Word :=
  F.SAF_STATUS_GRACE_OVER.put (F.SAF_STATUS_MODE.put (s.reg F.SAF_STATUS_MODE.addr) s.mode.code)
    (s.getF F.LDS_STATUS_GRACE_OVER)

/-- The intake values 0xA2 + 5r + k and 0xF9 (R397, R401). -/
def State.safIntake (s : State) : List (Nat × Word × Bool) :=
  (0xF9, w32 (s.safStatusWord.toNat % 65536), false) ::
    (List.range 6).flatMap (fun r =>
      (0xA2 + 5 * r, s.reg (F.SAF_RX_STAT_VERDICT r).addr, false) ::
        (List.range 4).map (fun k => let w := (s.safCh r).words.getD k (0, true); (0xA3 + 5 * r + k, w.1, w.2)))

/-! What commits of safety blocks show -/

/-- x × 100 or × 1,000 as a register value, saturating; a NaN gives a free value (log entry 5). [DEDUCED, log entry 40] -/
def BlkIn.scaled (c : BlkIn) (k : Nat) (x m : Word) (bits : Nat) : Nat :=
  let q := fMul x m
  if fIsNaN q then (c.free k).toNat % 2 ^ bits
  else if fIsInf q then (if fNeg q then 0 else 2 ^ bits - 1)
  else min (2 ^ bits - 1) ((fRint q).getD 0).toNat

/-- The counter of a safety source's raises, none for sources without one (R423). -/
def safRaiseCounter (n : Nat) : Option (Fld × Nat) :=
  if n = 0xB7 then some (F.SAF_SLS_OVER_CNT_COUNT, 4)
  else if n = 0xB8 then some (F.SAF_SLS_PLAUS_CNT_COUNT, 4)
  else if n = 0xB9 then some (F.SAF_SLP_OVER_CNT_COUNT, 5)
  else if n = 0xBA then some (F.SAF_SLP_APPROACH_CNT_COUNT, 5)
  else if n = 0xBB then some (F.SAF_SDI_TRAVEL_CNT_COUNT, 6)
  else if n = 0xBC then some (F.SAF_SDI_STEER_CNT_COUNT, 6)
  else if 0xBD ≤ n ∧ n ≤ 0xC0 then some (F.SAF_PULSE_SHORT_CNT_COUNT, 7)
  else if 0xC1 ≤ n ∧ n ≤ 0xC4 then some (F.SAF_PULSE_NODROP_CNT_COUNT, 7)
  else none

/-- Logging a raise by a block of R397 (R399, R422). [DEDUCED, log entry 40] -/
def State.safRaise (s : State) (n : Nat) : State :=
  let s0 := (s.setFlag F.SAF_LAST_RAISE_SHADOW (decide (s.mode = .shadow))).setF F.SAF_LAST_RAISE_SOURCE n
  let s1 := (s0.pushLog F.SAF_DEMAND_LOG_SOURCE 7).setReg (F.SAF_DEMAND_LOG_SOURCE 0).addr (w32 (n % 256 * 2 ^ 24 + s.flu.cycle % 2 ^ 24))
  match safRaiseCounter n with
  | some (f, e) => (s1.incF f).event Ev.saf e
  | none => s1

/-- SLS commits (R405, R422). -/
def State.slsCommit (s : State) (c : BlkIn) (outs : List (Word × Bool)) (st : List Word) : State :=
  let hundred : Word := 0x42C80000
  let v := (outs.getD 1 (0, false)).1.toNat
  let run := if v = 2 then s.saf.still + 1 else 0
  let was := s.flag F.SAF_STATUS_STANDSTILL
  let now := decide (max 1 (s.getF F.SAF_CFG_STILL_N) ≤ run)
  let s1 := ((s.setF F.SAF_SLS_STAT_SPEED (c.scaled 40 (outs.getD 0 (0, false)).1 hundred 16)).setF F.SAF_SLS_STAT_LIMIT
    (c.scaled 41 (st.getD 0 0) hundred 16)).when (decide (v = 1)) (fun s => s.incF F.SAF_SLS_LIMIT_CNT_COUNT)
  let s2 := ((s1.setFlag F.SAF_STATUS_SLS_OVER (decide (v = 1))).setFlag F.SAF_STATUS_SLS_IMPLAUS (decide (v = 3))).setFlag
    F.SAF_STATUS_STANDSTILL now
  let s3 : State := { s2 with saf := { s2.saf with still := run, stillTick := if now && !was then s.sys.tick else s.saf.stillTick } }
  (if now then s3 else s3.setF F.SAF_STILL_MS 0).shutdownEdge

/-- SLP commits. -/
def State.slpCommit (s : State) (c : BlkIn) (outs : List (Word × Bool)) (st : List Word) : State :=
  let v := (outs.getD 1 (0, false)).1.toNat
  let angle := fMul (c.x 0) 0x447A0000
  let a : Nat := if fExp angle = 255 then (c.free 42).toNat % 65536 else ofInt 16 (max (-32768) (min 32767 ((fRint angle).getD 0)))
  (((s.setF F.SAF_SLP_STAT_ANGLE a).setF F.SAF_SLP_STAT_LIMIT (c.scaled 43 (st.getD 2 0) 0x447A0000 16)).setFlag
    F.SAF_STATUS_SLP_ACT (decide (v ≠ 0))).when (decide (v = 1)) (fun s => s.incF F.SAF_SLP_CLAMP_CNT_COUNT)

/-- PULSE_EVAL commits. -/
def State.pulseCommit (s : State) (c : BlkIn) (outs : List (Word × Bool)) (st : List Word) : State :=
  let i := c.pn 3
  let v := (outs.getD 0 (0, false)).1.toNat
  let done := bit (c.sn 1) 28 && !bit (st.getD 1 0).toNat 28 && decide (c.x 3 ≠ 0)
  let blank := if v = 1 then (if s.saf.blank.contains i then s.saf.blank else s.saf.blank ++ [i])
    else s.saf.blank.filter (fun j => decide (j ≠ i))
  let s1 := (({ s with saf := { s.saf with blank := blank } } : State).setFlag F.SAF_STATUS_PULSE_BLANK (!blank.isEmpty)).setF
    (F.SAF_PULSE_STAT_VERDICT i) v
  s1.when done (fun s => ((s.incF F.SAF_PULSE_CNT_COUNT).setF (F.SAF_PULSE_STAT_MIN_A i) (c.sn 1 % 16384)).setFlag
    (F.SAF_PULSE_STAT_LOW_REACHED i) (bit (c.x 0).toNat 4))

/-- SAFE_DATA_OK and SAF_RX_VALID (R421, R422). -/
def State.ringCompareCommit (s : State) (c : BlkIn) (outs : List (Word × Bool)) : State :=
  let r := c.pn 0
  let m := s.getF F.SAF_RX_VALID_VALID
  let m' := if (outs.getD 0 (0, false)).1 = 1 then m ||| 2 ^ r else m - m / 2 ^ r % 2 * 2 ^ r
  (s.setF F.SAF_RX_VALID_VALID m').setFlag F.SAF_STATUS_SAFE_DATA_OK
    ((List.range 6).all (fun i => !s.flag (F.SAF_RX_CFG_EN i) || bit m' i))

/-- What a safety type's commit shows in the SAF registers: fields and counters (R421 to R423). -/
def BlkIn.safShown (c : BlkIn) : List Fld × List Fld :=
  match c.ty with
  | 68 => ([F.SAF_STATUS_SAFE_DATA_OK, ⟨F.SAF_RX_VALID_VALID.addr, c.pn 0 % 8, c.pn 0 % 8⟩], [])
  | 70 => ([F.SAF_SLS_STAT_SPEED, F.SAF_SLS_STAT_LIMIT, F.SAF_STATUS_SLS_OVER, F.SAF_STATUS_SLS_IMPLAUS, F.SAF_STATUS_STANDSTILL,
      F.SAF_STILL_MS], [F.SAF_SLS_LIMIT_CNT_COUNT])
  | 71 => ([F.SAF_SLP_STAT_ANGLE, F.SAF_SLP_STAT_LIMIT, F.SAF_STATUS_SLP_ACT], [F.SAF_SLP_CLAMP_CNT_COUNT])
  | 72 => ([F.SAF_SDI_STAT_VERDICT, F.SAF_SDI_STAT_RUN, F.SAF_STATUS_SDI_ACT], [])
  | 74 => ([F.SAF_LIMP_STAT_FLAG], [F.SAF_LIMP_CLAMP_CNT_COUNT])
  | 75 => ([F.SAF_STATUS_PULSE_BLANK, F.SAF_PULSE_STAT_VERDICT (c.pn 3), F.SAF_PULSE_STAT_MIN_A (c.pn 3),
      F.SAF_PULSE_STAT_LOW_REACHED (c.pn 3)], [F.SAF_PULSE_CNT_COUNT])
  | _ => ([], [])

/-- A counter gives back one that did not count after all. -/
def State.unCount (s : State) (a : Nat) : State :=
  s.when (decide (s.reg a ≠ 0) && decide (s.reg a ≠ 0xFFFFFFFF)) (fun s => s.setReg a (s.reg a - 1))

/-- A safety type's commit is taken back (R368, R495): the SAF registers show again what they showed; what it raised stays raised.
[DEDUCED, log entry 28] -/
def State.safUndo (s : State) (c : BlkIn) (v : Saved) : State :=
  let s1 := (s.each (c.safShown.1.zip v.shown) (fun s x => s.setF x.1 x.2)).each v.counted State.unCount
  match c.ty with
  | 70 => { s1 with saf := { s1.saf with still := v.still.1, stillTick := v.still.2 } }
  | 75 =>
    let rest := s1.saf.blank.filter (fun j => decide (j ≠ c.pn 3))
    let blank := if v.blank.contains (c.pn 3) then rest ++ [c.pn 3] else rest
    ({ s1 with saf := { s1.saf with blank := blank } } : State).setFlag F.SAF_STATUS_PULSE_BLANK (!blank.isEmpty)
  | _ => s1

/-- What a commit of a safety block does besides its outputs, state and raises. -/
def State.safCommit (s : State) (c : BlkIn) (outs : List (Word × Bool)) (st : List Word) (raises : List Nat) : State :=
  let s1 := s.each (raises.filter (fun n => decide (0xB1 ≤ n) && decide (n ≤ 0xC4))) State.safRaise
  let flag := (outs.getD 1 (0, false)).1.toNat
  match c.ty with
  | 68 => s1.ringCompareCommit c outs
  | 70 => s1.slsCommit c outs st
  | 71 => s1.slpCommit c outs st
  | 72 =>
    ((s1.setF F.SAF_SDI_STAT_VERDICT (outs.getD 0 (0, false)).1.toNat).setF F.SAF_SDI_STAT_RUN (min 255 flag)).setFlag
      F.SAF_STATUS_SDI_ACT (decide ((outs.getD 0 (0, false)).1 ≠ 0))
  | 74 => (s1.setF F.SAF_LIMP_STAT_FLAG flag).when (decide (flag ≠ 0)) (fun s => s.incF F.SAF_LIMP_CLAMP_CNT_COUNT)
  | 75 => s1.pulseCommit c outs st
  | _ => s1

/-- A tick start: SAF_STILL counts ms since STANDSTILL set (R422). -/
def State.safTick (s : State) : State :=
  if s.flag F.SAF_STATUS_STANDSTILL then s.setF F.SAF_STILL_MS (min 65535 ((s.sys.tick - s.saf.stillTick) / 32)) else s

/-- A cycle boundary: SAF_PULSE_NEXT (R411). -/
def State.pulseNext (s : State) : State :=
  let want := 2 * (s.getF F.SYS_MODE_CHANNEL_ID - 1)
  let c := s.flu.cycle
  s.setReg F.SAF_PULSE_NEXT_C.addr (w32 (if s.flag F.SAF_PULSE_CFG_STAGGER then c + 1 + (want + 8 - (c + 1) % 8) % 8 else c))

end Sys2Proof.Machine
end

