-- ==== Sys2Proof/Machine/Section.lean ====
section
/-!
DEFINITION. Position-scheduled section actuation (R136, R152 to R168): the block types 76 to 87, the point table, and the queue of
point commands.
-/
namespace Sys2Proof.Machine

open Sys2Proof

/-! The model of R152 -/

/-- The 16-bit angle nearest to an angle in rad, by the conversion of R222 (log entry 31). [DEDUCED, log entry 31] -/
def radAngle (x : Word) : Nat := (((fRint (fDiv (fMul x f65536) fTwoPi)).getD 0) % 65536).toNat

/-- 10^6, 1,000 and 0.01 as binary32. -/
def fMillion : Word := 0x49742400
def fThousand : Word := 0x447A0000
def fCenti : Word := 0x3C23D70A

/-- Displacement and heading after step `k` of length h: vm × h × (cos pm, sin pm), and psi[k + 1]. -/
def poseStep (psi v a w h : Word) (k : Nat) : Word × Word × Word :=
  let tm := fMul h (fAdd (fOfNat k) fHalf)
  let vm0 := fAdd v (fMul a tm)
  let vm := if fLt (fMul vm0 v) f0 then f0 else vm0
  let pm := radAngle (fAdd psi (fMul w tm))
  let d := fMul vm h
  (fMul d (fCos pm), fMul d (fSin pm), fAdd psi (fMul (fMul w h) (fOfNat (k + 1))))

/-- POSE_EXTRAP (type 76, R152, R153); `tref` is T_ref in 10 µs units. X and Y are the input's mm and the displacement in mm rounded
to nearest, ties to even; R156 does not say how. v is V + a·h, and 0 where that has the opposite sign of V.
[DESIGN CHOICE, log entries 39 and 60] -/
def blkPose (c : BlkIn) (tref : Nat) : List Word :=
  let a := fClamp (c.x 4) (fNegate (c.p 2)) (c.p 2)
  let w := fClamp (c.x 5) (fNegate (c.p 3)) (c.p 3)
  let h := fDiv (fOfInt (c.xi 6)) fMillion
  let r := poseStep (c.x 2) (c.x 3) a w h 0
  let mm := fun (d : Word) => (fRint (fMul d fThousand)).getD 0
  let v0 := fAdd (c.x 3) (fMul a h)
  let v := if fLt (fMul v0 (c.x 3)) f0 then f0 else v0
  let aged := c.ins.any (fun x => x.2)
  let valid := if aged ∨ c.pi 0 < c.xi 6 then 0 else if fLt (fAbs (c.x 3)) (c.p 1) then 2 else 1
  [wInt (c.xi 0 + mm r.1), wInt (c.xi 1 + mm r.2.1), r.2.2, v, a, w, wNat tref, wNat valid]

/-! Paths -/

/-- A coordinate of a point in units of 2⁻¹⁴⁹ mm: the reference in mm plus a float in metres. -/
def fixedPos (x : Int) (d : Word) : Int :=
  let e := fE d + 149
  (x * (2 ^ 149 : Nat)) + 1000 * (fInt d * ((2 ^ e.toNat : Nat) : Int)) / ((2 ^ (-e).toNat : Nat) : Int)

/-- The size of a cell in those units. -/
def fixedCell : Int := 50 * (2 ^ 149 : Nat)

/-- A change of cell index on a chord: numerator and denominator of the fraction, axis (false x, true y), new index. -/
structure Edge where
  num : Nat
  den : Nat
  axis : Bool
  idx : Int

/-- The edges that one coordinate meets between n0 and n1, in order (R152). The fraction of the chord is kept exact; R152 asks for the
arithmetic of R74 and does not say in which order it rounds here. [DESIGN CHOICE, log entry 39] -/
def axisEdges (axis : Bool) (n0 n1 : Int) : List Edge :=
  if n0 < n1 then
    let i0 := n0 / fixedCell
    let i1 := n1 / fixedCell
    (List.range (i1 - i0).toNat).map (fun (j : Nat) =>
      let k := i0 + j + 1
      ⟨(k * fixedCell - n0).toNat, (n1 - n0).toNat, axis, k⟩)
  else if n1 < n0 then
    let i0 := n0 / fixedCell
    let i1 := n1 / fixedCell
    (List.range (i0 - i1).toNat).map (fun (j : Nat) =>
      let k := i0 - j
      ⟨(n0 - k * fixedCell).toNat, (n0 - n1).toNat, axis, k - 1⟩)
  else []

/-- a ≤ b as fractions. -/
def Edge.le (a b : Edge) : Bool := decide (a.num * b.den ≤ b.num * a.den)

/-- Inserting an edge behind those not later. -/
def Edge.insert (e : Edge) : List Edge → List Edge
  | [] => [e]
  | f :: t => if f.le e then f :: Edge.insert e t else e :: f :: t

/-- A place on a path: step, fraction, cell column and row. -/
structure Place where
  step : Nat
  num : Nat
  den : Nat
  i : Int
  j : Int

/-- The cells entered along a chord; edges met at one fraction lead to one cell. -/
def chordCells (step : Nat) : List Edge → Int → Int → List Place
  | [], _, _ => []
  | e :: t, i, j =>
    let i' := if e.axis then i else e.idx
    let j' := if e.axis then e.idx else j
    match t with
    | f :: _ => if f.le e then chordCells step t i' j' else ⟨step, e.num, e.den, i', j'⟩ :: chordCells step t i' j'
    | [] => [⟨step, e.num, e.den, i', j'⟩]

/-- A path through its positions: the cell at its start and every cell entered. -/
def pathCells : List (Int × Int) → Nat → List Place
  | p :: q :: t, s =>
    let es := ((axisEdges true p.2 q.2).foldl (fun l e => Edge.insert e l) (axisEdges false p.1 q.1))
    chordCells s es (p.1 / fixedCell) (p.2 / fixedCell) ++ pathCells (q :: t) (s + 1)
  | _, _ => []

/-- P[0] to P[25] and psi[0] to psi[25] (R152), from step `s` on. -/
def poseTrack (psi0 v a w : Word) : Nat → Nat → Word → Word → Word → List (Word × Word × Word)
  | 0, _, x, y, psi => [(x, y, psi)]
  | n + 1, s, x, y, psi =>
    let r := poseStep psi0 v a w fCenti s
    (x, y, psi) :: poseTrack psi0 v a w n (s + 1) (fAdd x r.1) (fAdd y r.2.1) r.2.2

/-! Points -/

/-- A field of a POINT record (R154). -/
def ptField (r : List Byte) (off n : Nat) : Nat := ofLe ((r.drop off).take n)
def State.ptRec (s : State) (p : Nat) : List Byte := s.img.points.getD p []
def State.ptSection (s : State) (p : Nat) : Nat := ptField (s.ptRec p) 14 1
def State.ptLOn (s : State) (p : Nat) : Nat := ptField (s.ptRec p) 8 2
def State.ptLOff (s : State) (p : Nat) : Nat := ptField (s.ptRec p) 10 2
def State.ptPwm (s : State) (p : Nat) : Bool := bit (ptField (s.ptRec p) 23 1) 0

/-- A point of the table, and storing it. -/
def State.pt (s : State) (p : Nat) : PointRun := s.sec.pts.getD p {}
def State.setPt (s : State) (p : Nat) (x : PointRun) : State := { s with sec := { s.sec with pts := s.sec.pts.set p x } }

/-- The points of a range, as far as the image defines them. -/
def State.ptRange (s : State) (first count : Nat) : List Nat :=
  (List.range' first count).filter (fun p => decide (p < s.img.points.length))

/-- The positions of point p over the horizon, from the outputs of POSE_EXTRAP. -/
def State.ptTrack (s : State) (c : BlkIn) (p : Nat) : List (Int × Int) :=
  let ox := fDiv (fOfInt (toInt 32 (ptField (s.ptRec p) 0 4))) fThousand
  let oy := fDiv (fOfInt (toInt 32 (ptField (s.ptRec p) 4 4))) fThousand
  (poseTrack (c.x 2) (c.x 3) (c.x 4) (c.x 5) 25 0 f0 f0 (c.x 2)).map (fun q =>
    let θ := radAngle q.2.2
    let dx := fAdd q.1 (fSub (fMul (fCos θ) ox) (fMul (fSin θ) oy))
    let dy := fAdd q.2.1 (fAdd (fMul (fSin θ) ox) (fMul (fCos θ) oy))
    (fixedPos (c.xi 0) dx, fixedPos (c.xi 1) dy))

/-! Decisions (R157) -/

/-- A decision: on, rate class, made under an unknown policy. -/
structure Decision where
  on : Bool
  cls : Nat
  unknown : Bool
deriving DecidableEq, Repr

/-- The blanket decision. -/
def State.blanket (s : State) (c0 : Nat) : Decision :=
  match c0 / 16 with
  | 1 => ⟨true, c0 % 16, false⟩
  | 0 | 15 => ⟨s.flag F.SEC_CFG_UNKNOWN_BLANKET, s.getF F.SEC_CFG_UNKNOWN_RATE, true⟩
  | _ => ⟨false, 0, false⟩

/-- The spot decision; EXCLUDE and OUTSIDE are off whatever layer 1 holds. -/
def State.spot (s : State) (c0 c1 : Nat) : Decision :=
  if [0, 1, 2, 5, 15].contains (c0 / 16) then
    match c1 / 16 with
    | 1 => ⟨true, c1 % 16, false⟩
    | 15 => ⟨s.flag F.SEC_CFG_UNKNOWN_SPOT, s.getF F.SEC_CFG_UNKNOWN_RATE, true⟩
    | _ => ⟨false, 0, false⟩
  else ⟨false, 0, false⟩

/-- The decision for a point of a MODE over a cell of both layers. [DESIGN CHOICE, log entry 39] -/
def State.decide' (s : State) (mode c0 c1 : Nat) : Decision :=
  let b := s.blanket c0
  let t := s.spot c0 c1
  match mode with
  | 0 => b
  | 1 => t
  | 2 => ⟨b.on || t.on, if b.on && t.on then max b.cls t.cls else if b.on then b.cls else t.cls, b.unknown || t.unknown⟩
  | _ => ⟨false, 0, false⟩

/-- Key and offset of a cell given by column and row of the field. -/
def cellKey (layer : Nat) (i j : Int) : TileKey × Nat :=
  (⟨layer, i / 64, j / 64⟩, (64 * (j % 64) + i % 64).toNat)

/-- The decision at a place. [DESIGN CHOICE, log entry 39] -/
def State.decideAt (s : State) (p : Nat) (i j : Int) : Decision :=
  let k0 := cellKey 0 i j
  let k1 := cellKey 1 i j
  s.decide' (ptField (s.ptRec p) 15 1) (s.cellAt k0.1 k0.2) (s.cellAt k1.1 k1.2)

/-- The full T_ref nearest to its low 32 bits, in the slot of the present sample cycle. -/
def State.fullTref (s : State) (w : Word) : Nat :=
  let base := 50 * (s.gr.s.getD s.flu.cycle / 4)
  ((base : Int) + (w - wNat base).toInt).toNat

/-- The time of a place after T_ref in 10 µs units less a latency, rounded to nearest, ties up (R159). -/
def actionTime (tref lat step num den : Nat) : Nat :=
  tref + (2 * (1000 * step * den + 1000 * num) + den) / (2 * den) - lat

/-- What CROSSING solves for one point: decisions in order of entry, each with its place's entry time.
[DESIGN CHOICE, log entry 39] -/
def State.solve (s : State) (c : BlkIn) (p : Nat) : List (Place × Decision) :=
  let track := s.ptTrack c p
  let start := track.headD (0, 0)
  let places := ⟨0, 0, 1, start.1 / fixedCell, start.2 / fixedCell⟩ :: pathCells track 0
  places.map (fun q => (q, s.decideAt p q.i q.j))

/-- Keeping the start decision and each change of state or rate class (R158). -/
def changes : List (Place × Decision) → Option Decision → List (Place × Decision)
  | [], _ => []
  | (q, d) :: t, none => (q, d) :: changes t (some d)
  | (q, d) :: t, some e =>
    if d.on = e.on ∧ (d.on = false ∨ d.cls = e.cls) then changes t (some d) else (q, d) :: changes t (some d)

/-- The candidates of a point: start and changes with their action times. -/
def State.candidates (s : State) (p tref : Nat) (l : List (Place × Decision)) : List Cand × Nat :=
  let step := fun (acc : List Cand × Bool) (x : Place × Decision) =>
    let lat := if x.2.on && !acc.2 then s.ptLOn p else s.ptLOff p
    (acc.1 ++ [(⟨actionTime tref lat x.1.step x.1.num x.1.den, x.2.on, x.2.cls⟩ : Cand)], x.2.on)
  let r := ((changes l none).foldl step ([], false)).1
  (r, r.length - 1)

/-! Outputs of the section types at staging -/

/-- The duty of a point at a rate class and whether it was clamped at 1,000 (R167). [DESIGN CHOICE, log entry 39] -/
def State.dutyAt (s : State) (c : BlkIn) (p k : Nat) : Nat × Bool :=
  let rate := c.p (2 + k)
  if !s.ptPwm p then (1000, false)
  else
    let w := fOfNat (ptField (s.ptRec p) 20 2)
    let flow := fOfNat (ptField (s.ptRec p) 18 2)
    let n := fMul (fMul (fMul (fMul (fMul (fOfNat 6) rate) (c.x 0)) (c.x 1)) (s.pt p).factor) w
    let q := fDiv n flow
    let d : Int := if fIsNaN q then Int.ofNat ((c.free (1 + 16 * p + k)).toNat % 1001)
      else if fIsInf q then (if fNeg q then 0 else 1001) else (fRint q).getD 0
    if fEq rate f0 ∨ d ≤ 0 then (0, false)
    else if 1000 < d then (1000, true)
    else (max d.toNat (s.getF F.SEC_PWM_DUTY_MIN), false)

/-- A sample of types 76 to 87: its outputs; its state words are free (log entry 5). CROSSING's "transitions found" counts every
change on every path of its range; R156 says no more of it. [DESIGN CHOICE, log entry 39] -/
def State.secEval (s : State) (c : BlkIn) : BlkOut :=
  let free := (blkFree c).st
  let out := fun (l : List Word) => ({ outs := freshOuts l, st := free } : BlkOut)
  let pts := s.ptRange (c.pn 0) (c.pn 1)
  match c.ty with
  | 76 => out (blkPose c (50 * (s.gr.s.getD s.flu.cycle / 4)))
  | 77 =>
    let k := tileOf (c.pn 0) (c.xi 0) (c.xi 1)
    let v := s.cellAt k.1 k.2
    out [wNat (v / 16), wNat (v % 16)]
  | 78 => out [wNat ((pts.map (fun p => (s.candidates p (s.fullTref (c.x 6)) (s.solve c p)).2)).foldl (· + ·) 0)]
  | 80 => out [wNat (if c.x 0 = 0 then 0 else min 64 s.map.events.length)]
  | 82 =>
    let step := max 1 (s.getF F.SEC_PWM_DUTY_STEP)
    out [wNat (pts.filter (fun p =>
      let x := s.pt p
      let last := match x.pend with
        | some q => (q.on, q.duty, q.cls)
        | none => (x.on, x.duty, x.cls)
      let d := (s.dutyAt c p last.2.2).1
      s.ptPwm p && last.1 && decide (step ≤ max d last.2.1 - min d last.2.1))).length]
  | 83 =>
    out [wNat (pts.filter (fun p =>
      let raw := fDiv (fSub (c.x 0) (fDiv (fMul (c.x 1) (fOfInt (toInt 32 (ptField (s.ptRec p) 4 4)))) fThousand)) (c.x 0)
      !fEq (c.x 0) f0 && decide (c.x 2 ≠ 0) && (fLt raw (c.p 2) || fLt (c.p 3) raw))).length]
  | 84 => out [wNat ((List.range 64).filter (fun i => !bit ((c.x 0).toNat + 2 ^ 32 * (c.x 1).toNat) i)).length]
  | 85 => out [if (c.x 0).toNat < 16 then fMul (c.p (c.x 0).toNat) (c.x 1) else c.free 0]
  | 86 => out [wBool (s.flag F.SEC_STATUS_ISO_ACTIVE)]
  | _ => out []

/-! What a commit does besides (the point table, R156) -/

/-- POSE_EXTRAP commits: VALID takes effect. -/
def State.poseCommit (s : State) (valid : Nat) : State :=
  let s1 : State := { s with sec := { s.sec with valid := valid } }
  ((s1.setFlag F.SEC_STATUS_POSE_VALID (decide (valid = 1))).setFlag F.MAP_STATUS_POSE_VALID (decide (valid = 1))).refreshIso

/-- CROSSING commits (R140, R157, R158): candidates, path, UNKNOWN and its count, tiles entered. The latest decision, which UNKNOWN
shows (R174), is that of the farthest place on the path. [DESIGN CHOICE, log entry 39] -/
def State.crossCommit (s : State) (c : BlkIn) : State :=
  let tref := s.fullTref (c.x 6)
  s.each (s.ptRange (c.pn 0) (c.pn 1)) (fun s p =>
    let l := s.solve c p
    let x := s.pt p
    let path := l.map (fun q => (tref + (1000 * q.1.step * q.1.den + 1000 * q.1.num) / q.1.den, cellKey 0 q.1.i q.1.j))
    let old := x.path.filter (fun q => decide (q.1 < tref) && decide (tref < q.1 + 1000))
    let keys := (l.flatMap (fun q => [(cellKey 0 q.1.i q.1.j).1, (cellKey 1 q.1.i q.1.j).1])).eraseDups
    let s1 := s.setPt p { x with cands := (s.candidates p tref l).1, path := old ++ path }
    let s2 := s1.addF F.SEC_UNKNOWN_CNT_COUNT (l.filter (fun q => q.2.unknown)).length
    let s3 := s2.setFlag (F.SEC_POINT_UNKNOWN p) ((l.getLast?.map (fun q => q.2.unknown)).getD false)
    { s3 with map := { s3.map with entered := (s3.map.entered ++ keys).eraseDups } })

/-- RASTER commits (R164): the `n` events of its output leave the queue, in order, for the next T16 slot start. -/
def State.rasterCommit (s : State) (n : Nat) : State :=
  let s1 := s.setEvents (s.map.events.drop n)
  { s1 with map := { s1.map with raster := s1.map.raster ++ s.map.events.take n } }

/-- NOZZLE_PWM commits (R167): duties by class; a duty clamped in the class a point runs at counts. -/
def State.pwmCommit (s : State) (c : BlkIn) : State :=
  s.each (s.ptRange (c.pn 0) (c.pn 1)) (fun s p =>
    let x := s.pt p
    let d := (List.range 16).map (fun k => s.dutyAt c p k)
    let use := match x.pend with
      | some q => if q.on then some q.cls else none
      | none => if x.on then some x.cls else none
    let under := match use with
      | some k => (d.getD k (0, false)).2
      | none => false
    (s.setPt p { x with duties := d.map (fun y => y.1), pwmOff := decide (c.x 3 = 0) }).when under (fun s =>
      (s.incF F.SEC_UNDER_CNT_COUNT).setFlag F.SEC_STATUS_UNDER_SEEN true))

/-- TURN_COMP commits (R166); an enable of 0 also commands its range off (R156). -/
def State.turnCommit (s : State) (c : BlkIn) : State :=
  s.each (s.ptRange (c.pn 0) (c.pn 1)) (fun s p =>
    let x := s.pt p
    if fEq (c.x 0) f0 ∨ c.x 2 = 0 then s.setPt p { x with factor := f1, back := false, turnOff := decide (c.x 2 = 0) }
    else
      let raw := fDiv (fSub (c.x 0) (fDiv (fMul (c.x 1) (fOfInt (toInt 32 (ptField (s.ptRec p) 4 4)))) fThousand)) (c.x 0)
      let back := fLe raw f0
      (s.setPt p { x with factor := fClamp raw (c.p 2) (c.p 3), back := back, turnOff := false }).when back
        (fun s => s.incF F.SEC_BACKWARD_CNT_COUNT))

/-- The commit of a section type; `outs` are the outputs it commits. -/
def State.secCommit (s : State) (c : BlkIn) (outs : List (Word × Bool)) : State :=
  match c.ty with
  | 76 => s.poseCommit ((outs.getD 7 (0, false)).1.toNat)
  | 78 => s.crossCommit c
  | 79 => s.each (s.ptRange (c.pn 0) (c.pn 1)) (fun s p => s.setPt p { s.pt p with cmdOff := decide (c.x 1 = 0) })
  | 80 => s.rasterCommit (outs.getD 0 (0, false)).1.toNat
  | 82 => s.pwmCommit c
  | 83 => s.turnCommit c
  | 84 => { s with sec := { s.sec with mask := (c.x 0).toNat + 2 ^ 32 * (c.x 1).toNat } }
  | 86 => { s with sec := { s.sec with iso := some ((c.x 0).toNat + 2 ^ 32 * (c.x 1).toNat, c.pn 0) } }
  | _ => s

/-- A section type's commit is taken back (R156, R368): each point keeps what the commit set as it stood before, and RASTER's
events return to the head of the queue. -/
def State.secUndo (s : State) (ty : Nat) (v : Saved) : State :=
  let s1 := s.each v.pts (fun s o =>
    let x := s.pt o.1
    match ty with
    | 78 => (s.setPt o.1 { x with cands := o.2.1.cands, path := o.2.1.path }).setFlag (F.SEC_POINT_UNKNOWN o.1) o.2.2
    | 79 => s.setPt o.1 { x with cmdOff := o.2.1.cmdOff }
    | 82 => s.setPt o.1 { x with duties := o.2.1.duties, pwmOff := o.2.1.pwmOff }
    | _ => s.setPt o.1 { x with factor := o.2.1.factor, back := o.2.1.back, turnOff := o.2.1.turnOff })
  match ty with
  | 76 => s1.poseCommit v.valid
  | 80 =>
    let keep := s1.map.raster.length - v.taken
    ({ s1 with map := { s1.map with raster := s1.map.raster.take keep } } : State).setEvents (s1.map.raster.drop keep ++ s1.map.events)
  | 84 => { s1 with sec := { s1.sec with mask := v.mask } }
  | 86 => { s1 with sec := { s1.sec with iso := v.iso } }
  | _ => s1

/-! Emission at a slot end E in 10 µs units (R160 to R163) -/

/-- Executing a pending command whose action time has come. -/
def PointRun.settle (x : PointRun) (e lOn lOff : Nat) : PointRun :=
  match x.pend with
  | some q =>
    if q.action ≤ e then
      let y := { x with on := q.on, duty := q.duty, cls := q.cls, pend := none }
      if q.on && !x.on then { y with onAct := q.action, sprays := ((q.action + lOn, none) :: x.sprays).take 8 }
      else if !q.on && x.on then
        { y with sprays := match x.sprays with
          | (f, none) :: t => (f, some (q.action + lOff)) :: t
          | l => l }
      else y
    else x
  | none => x

/-- SEC_ON_w and SEC_SECTION_0 and 1, all taken at once (R173). -/
def State.refreshOn (s : State) : State :=
  let on := (List.range s.img.points.length).filter (fun p => s.flag (F.SEC_POINT_ON p))
  let word := fun (l : List Nat) (w : Nat) => w32 ((l.filter (fun p => decide (p / 32 = w))).eraseDups.foldl (fun a p => a + 2 ^ (p % 32)) 0)
  let s1 := (List.range 16).foldl (fun (s : State) w => s.setReg (F.SEC_ON_ON w).addr (word on w)) s
  let secs := on.map (fun p => s.ptSection p % 64)
  (s1.setReg F.SEC_SECTION_0_ON.addr (word secs 0)).setReg F.SEC_SECTION_1_ON.addr (word secs 1)

/-- Order of the queue (R162). -/
def SecEntry.before (a b : SecEntry) : Bool :=
  decide (a.cmd.action < b.cmd.action) || (decide (a.cmd.action = b.cmd.action) && decide (a.point < b.point))

/-- Inserting an entry. -/
def SecEntry.insert (e : SecEntry) : List SecEntry → List SecEntry
  | [] => [e]
  | f :: t => if e.before f then e :: f :: t else f :: SecEntry.insert e t

/-- Entering a command in the queue: it supersedes the pending one `old` that it replaces, and no other entry of its point; beyond
1,024 the entry with the latest action time is discarded, and its point's command stands as it did; LATE_SEEN stays set (R8). -/
def State.secQueue (s : State) (e : SecEntry) (old : Option PtCmd) : State :=
  let stays := fun (f : SecEntry) => decide (f.point ≠ e.point) || decide (some f.cmd ≠ old)
  let q := SecEntry.insert e (s.sec.queue.filter stays)
  let s1 : State := { s with sec := { s.sec with queue := q.take 1024 } }
  let s2 := (s1.setF F.SEC_QUEUE_DEPTH (min 1024 q.length)).peakF F.SEC_QUEUE_PEAK (min 1024 q.length)
  match q[1024]? with
  | some d =>
    let late := s2.flag (F.SEC_POINT_LATE_SEEN d.point)
    (((((s2.setPt d.point { s2.pt d.point with pend := d.prev }).setReg (F.SEC_POINT_ON d.point).addr d.word).setFlag
      (F.SEC_POINT_LATE_SEEN d.point) late).setFlag (F.SEC_POINT_UNKNOWN d.point) (s2.flag (F.SEC_POINT_UNKNOWN d.point))).incF
      F.SEC_CMD_DROP_CNT_COUNT).setFlag F.SEC_STATUS_DROP_SEEN true
  | none => s2

/-- Emitting a command for point p at E (R160): clamped to E + LEAD_MIN, recorded, and queued where the device transmits.
[DESIGN CHOICE, log entry 39] -/
def State.emit (s : State) (p e : Nat) (q : PtCmd) : State :=
  let least := e + s.getF F.SEC_TIMING_LEAD_MIN
  let late := decide (q.action < least)
  let c := { q with action := max q.action least }
  let x := s.pt p
  let word := s.reg (F.SEC_POINT_ON p).addr
  let prev := match x.pend with
    | some o => if o.sent then some o else (s.sec.queue.find? (fun f => decide (f.point = p) && decide (f.cmd = o))).bind (fun f => f.prev)
    | none => none
  let n := if s.sec.emitted.1 = e then s.sec.emitted.2 + 1 else 1
  let s1 := (s.setPt p { x with pend := some c }).when late (fun s =>
    ((s.incF F.SEC_LATE_CNT_COUNT).setFlag F.SEC_STATUS_LATE_SEEN true).setFlag (F.SEC_POINT_LATE_SEEN p) true)
  let s2 := (((s1.setFlag (F.SEC_POINT_ON p) c.on).setFlag (F.SEC_POINT_PENDING p) true).setF (F.SEC_POINT_DUTY p)
    (if c.on then c.duty else 0)).setF (F.SEC_POINT_ACTION p) c.action
  let s3 := (((s2.incF F.SEC_CMD_CNT_COUNT).setF F.SEC_LAST_CMD_DUTY (if c.on then c.duty else 0)).setFlag F.SEC_LAST_CMD_ON c.on).setF
    F.SEC_LAST_CMD_POINT p
  let s4 := (s3.setF F.SEC_LEAD_MIN_SEEN_MIN (min (s3.getF F.SEC_LEAD_MIN_SEEN_MIN) (c.action - e))).peakF F.SEC_EMIT_PEAK_PEAK n
  let s5 : State := { s4 with sec := { s4.sec with emitted := (e, n) } }
  if s5.flag F.SEC_STATUS_TRANSMIT then s5.secQueue ⟨p, c, prev, word⟩ x.pend else s5

/-- The next transition after a held state; true where a short off gap was bridged (R161), measured from the off-action as
the minimum on-time `least` moves it. -/
def nextTrans (g least : Nat) (on : Bool) (cls : Nat) : List Cand → Option Cand × Bool
  | [] => (none, false)
  | c :: t =>
    if c.on = on ∧ (on = false ∨ c.cls = cls) then nextTrans g least on cls t
    else if on && !c.on then
      match t with
      | d :: _ => if d.on ∧ d.action < max c.action least + g then ((nextTrans g least on cls t).1, true) else (some c, false)
      | [] => (some c, false)
    else (some c, false)

/-- The candidates after the last one equal to the held state that is past at `lim`. -/
def dropPast (on : Bool) (cls lim : Nat) (l : List Cand) : List Cand :=
  let past := fun (c : Cand) => decide (c.on = on ∧ (on = false ∨ c.cls = cls) ∧ c.action ≤ lim)
  (l.reverse.takeWhile (fun c => !past c)).reverse

/-- What a point is to do next at E: the transition, and whether a gap was bridged. Forced states (R153, R156, R166, R168) act at
E + LEAD_MIN; an off-action is moved to keep the minimum on-time. [DESIGN CHOICE, log entry 39] -/
def State.wanted (s : State) (p e : Nat) : Option (PtCmd) × Bool :=
  let x := s.pt p
  let lead := s.getF F.SEC_TIMING_LEAD_MIN
  let g := lead + 50
  let duty := fun k => if s.ptPwm p then x.duties.getD k 0 else 1000
  let eff := fun (c : Cand) => { c with on := c.on && !x.back && decide (duty c.cls ≠ 0) }
  let sect := s.ptSection p
  let isoOn := match s.sec.iso with
    | some (w, o) => decide (o ≤ sect) && bit w (sect - o) && !s.flag F.SEC_STATUS_ISO_STALE
    | none => false
  let isoAct := s.flag F.SEC_STATUS_ISO_ACTIVE
  let off := x.cmdOff || x.pwmOff || x.turnOff || !bit s.sec.mask sect || (!isoAct && decide (s.sec.valid ≠ 1)) ||
    (isoAct && !isoOn) || decide (ptField (s.ptRec p) 15 1 = 3) || (!isoAct && x.on && (x.back || duty x.cls = 0))
  let iso := eff ⟨e + lead, true, s.getF F.SEC_CFG_ISO_RATE⟩
  let least := x.onAct + max (ptField (s.ptRec p) 12 2) g
  let r : Option Cand × Bool :=
    if off then (if x.on || (x.pend.map (fun q => q.on)).getD false then (some ⟨e + lead, false, 0⟩, false) else (none, false))
    else if isoAct then (if x.on ∧ iso.on ∧ x.cls = iso.cls then (none, false) else (some iso, false))
    else nextTrans g (if x.on then least else 0) x.on x.cls (dropPast x.on x.cls (e + lead) (x.cands.map eff))
  match r.1 with
  | some c =>
    if x.on && !c.on && decide (c.action < least) then (some ⟨false, 0, c.cls, least, false, true, false⟩, r.2)
    else if !x.on && !c.on && !((x.pend.map (fun q => q.on)).getD false) then (none, r.2)
    else (some ⟨c.on, if c.on then duty c.cls else 0, c.cls, c.action, false, false, false⟩, r.2)
  | none => (none, r.2)

/-- One point at a slot end E (R160). A transition of another kind than the pending one means that the pending one has vanished; the
command that then carries the present state keeps the action time of the one it replaces, which R160 does not say. While a duty
change is pending the next transition waits (R161). [DESIGN CHOICE, log entry 39] -/
def State.pointEnd (s : State) (p e : Nat) : State :=
  let s0 := s.setPt p ((s.pt p).settle e (s.ptLOn p) (s.ptLOff p))
  let x := s0.pt p
  let lead := s0.getF F.SEC_TIMING_LEAD_MIN
  let ahead := e + s0.getF F.SEC_TIMING_SEND_AHEAD
  let w := s0.wanted p e
  let s1 := (s0.setPt p { x with bridged := w.2 }).when (w.2 && !x.bridged) (fun s => s.incF F.SEC_MINON_CNT_COUNT)
  let minOn := fun (s : State) (q : PtCmd) (had : Bool) => s.when (q.moved && !had) (fun s => s.incF F.SEC_MINON_CNT_COUNT)
  match x.pend, w.1 with
  | none, some q => if q.action ≤ ahead then (minOn s1 q false).emit p e q else s1
  | none, none => s1
  | some o, want =>
    if o.action < e + lead || o.trim then s1
    else
      match want with
      | some q =>
        if q.on ≠ o.on ∨ (q.on = true ∧ q.cls ≠ o.cls) ∨ max 1 (s1.getF F.SEC_TIMING_REPLACE_MIN) ≤ max q.action o.action - min q.action o.action ∨ ahead < q.action then
          ((minOn s1 q o.moved).incF F.SEC_REPLACE_CNT_COUNT).emit p e q
        else s1
      | none =>
        if o.on = x.on ∧ (x.on = false ∨ o.cls = x.cls) then s1
        else (s1.incF F.SEC_REPLACE_CNT_COUNT).emit p e ⟨x.on, x.duty, x.cls, o.action, false, false, false⟩

/-- POINT_CMD at its slot end; the first one as lead emits again what is pending (R163). -/
def State.pointCmdEnd (s : State) (c : BlkIn) (e : Nat) : State :=
  let pts := s.ptRange (c.pn 0) (c.pn 1)
  let s1 := s.when s.sec.resend (fun s => s.each pts (fun s p =>
    match (s.pt p).pend with
    | some q =>
      if e + s.getF F.SEC_TIMING_LEAD_MIN ≤ q.action then (s.incF F.SEC_RESEND_CNT_COUNT).emit p e { q with sent := false } else s
    | none => s))
  (s1.each pts (fun s p => s.pointEnd p e)).refreshOn

/-- A duty change of NOZZLE_PWM at its slot end (R161, R167). -/
def State.dutyEnd (s : State) (p e : Nat) : State :=
  let s0 := s.setPt p ((s.pt p).settle e (s.ptLOn p) (s.ptLOff p))
  let x := s0.pt p
  let lead := s0.getF F.SEC_TIMING_LEAD_MIN
  let step := max 1 (s0.getF F.SEC_PWM_DUTY_STEP)
  let send := fun (s : State) (q : PtCmd) => (s.incF F.SEC_DUTY_CHG_CNT_COUNT).emit p e q
  let far := fun (d last : Nat) => decide (d ≠ 0) && decide (step ≤ max d last - min d last)
  if !s0.ptPwm p || x.pwmOff then s0
  else
    match x.pend with
    | some q =>
      let d := x.duties.getD q.cls 0
      if q.on && decide (e + lead ≤ q.action) && far d q.duty then send s0 { q with duty := d, sent := false } else s0
    | none =>
      let d := x.duties.getD x.cls 0
      if x.on && far d x.duty then send s0 ⟨true, d, x.cls, e + lead, false, false, true⟩ else s0

/-- Whether a spray interval meets [a, b). -/
def sprayMeets (a b : Nat) (i : Nat × Option Nat) : Bool :=
  decide (i.1 < b) && (match i.2 with
    | some t => decide (a < t)
    | none => true)

/-- Cells with their times of entry and exit along a path. -/
def stays : List (Nat × TileKey × Nat) → List (Nat × Nat × TileKey × Nat)
  | x :: y :: t => (x.1, y.1, x.2) :: stays (y :: t)
  | [x] => [(x.1, x.1 + 1000000, x.2)]
  | [] => []

/-- COVERAGE at its slot end (R142): cells that a point crossed in [e0, e) while its spray was on, to be marked at the next T16
slot start. [DESIGN CHOICE, log entry 39] -/
def State.coverageEnd (s : State) (e0 e : Nat) : State :=
  s.each (List.range s.img.points.length) (fun s p =>
    let s0 := s.setPt p ((s.pt p).settle e (s.ptLOn p) (s.ptLOff p))
    let x := s0.pt p
    let hit := (stays x.path).filter (fun c => decide (c.1 < e) && decide (e0 < c.2.1) &&
      x.sprays.any (sprayMeets (max c.1 e0) (min c.2.1 e)))
    { s0 with map := { s0.map with marks := (s0.map.marks ++ hit.map (fun c => c.2.2)).eraseDups } })

/-- SPOT_AGE at its slot end (R165). -/
def State.spotAgeEnd (s : State) (hold : Nat) : State :=
  let old := s.map.dir.filter (fun m => decide (m.key.layer = 1) && !s.isPinned m.key && decide (m.raster + 32 * hold < s.sys.tick))
  { s with map := { s.map with drops := s.map.drops ++ old.map (fun m => m.key) } }

/-- The effect of a section type at its slot end: [e0, e) is the slot in 10 µs units. -/
def State.secEnd (s : State) (c : BlkIn) (e0 e : Nat) : State :=
  match c.ty with
  | 79 => s.pointCmdEnd c e
  | 81 => if c.x 0 = 0 then s else s.spotAgeEnd (c.pn 0)
  | 82 => (s.each (s.ptRange (c.pn 0) (c.pn 1)) (fun s p => s.dutyEnd p e)).refreshOn
  | 87 => if c.x 0 = 0 then s else s.coverageEnd e0 e
  | _ => s

/-- A tick start at `now` in 10 µs units: PENDING of SEC_POINT_n clears at the action time (R174). -/
def State.secTick (s : State) (now : Nat) : State :=
  (List.range s.img.points.length).foldl (fun (s : State) p =>
    if s.flag (F.SEC_POINT_PENDING p) then
      match (s.pt p).pend with
      | some q => if q.action ≤ now then s.setFlag (F.SEC_POINT_PENDING p) false else s
      | none => s.setFlag (F.SEC_POINT_PENDING p) false
    else s) s

/-- SECTION_CONTROL_TIMEOUT (R168): no section control message for TIMEOUT × 10 ms; every point goes off. -/
def State.sectionTimeout (s : State) : State :=
  if s.running then
    (s.when (s.flag F.SEC_CFG_ISO_FALLBACK) (fun s => s.setFlag F.SEC_STATUS_ISO_STALE true)).setFlag (F.CAN_ISO_STAT_SC_SEEN 0) false
  else s

/-- The meaning of SECTION_CONTROL_TIMEOUT (R168). -/
def execSectionControlTimeout (s : State) : Host.Outcome State Fault Refusal := .next s.sectionTimeout

end Sys2Proof.Machine
end

