-- ==== Sys2Proof/Machine/Graph.lean ====
section
/-!
DEFINITION. The block graph at run time (03_hob_engines): slots, signals, ready-queues, dispatch, staging, commit, misses and
the effects at a slot end. Commands HOB_DISPATCH, BLOCK_STAGE, COMMIT, DEADLINE_MISS.
-/
namespace Sys2Proof.Machine

open Sys2Proof

/-! Dispatch (R87, R88) and the bank swap (R118 step 3) -/

/-- The entry a hob takes, with whether it is stolen and whether across halves. [DESIGN CHOICE, log entry 27] -/
def State.pick (s : State) (hob : Nat) : Option ((Nat × Bool) × Bool × Bool) :=
  let c := hob / 8
  let half := c / 4
  let own := [1, 2, 3].map (fun k => half * 4 + (c + k) % 4)
  let other := [0, 1, 2, 3].map (fun k => (1 - half) * 4 + k)
  match (s.queueOf c).head? with
  | some x => some (x, false, false)
  | none =>
    match (own.flatMap s.queueOf).head? with
    | some x => some (x, true, false)
    | none =>
      if s.flag F.HOB_CFG_CROSS_HALF_STEAL then
        ((other.flatMap s.queueOf).find? (fun x => decide ((s.node x.1).cls ≠ 0))).map (fun x => (x, true, true))
      else none

/-- The first read of a sample after a set was copied swaps the banks (R118 step 3, R131, R135). -/
def State.bankSwap (s : State) (i : Nat) : State :=
  let x := s.inst i
  match x.pend with
  | none => s
  | some (k, words, cause) =>
    let s1 := (s.setInst i { x with bank := words, act := k, pend := none, reseed := true }).incF F.LAW_SWAP_CNT_COUNT
    let s2 := (((s1.setF F.LAW_LAST_SWAP_CAUSE cause).setF F.LAW_LAST_SWAP_OLD_SET x.act).setF F.LAW_LAST_SWAP_NEW_SET k).setF
      F.LAW_LAST_SWAP_INSTANCE i
    match s.lawSlot i with
    | none => s2
    | some c =>
      (((s2.incF (F.LAW_SLOT_SWAPS_COUNT c)).setReg (F.LAW_SLOT_TICK_TICK c).addr (w32 s.tickLo)).setF
        (F.LAW_SLOT_STATE_ACTIVE_SET c) k).setFlag (F.LAW_SLOT_STATE_PENDING c) false |>.setF (F.LAW_SLOT_STATE_PENDING_SET c) 0

/-- An idle hob takes its pick; with `steal` false only from its own cluster's queue. -/
def State.hobTake (s : State) (hob : Nat) (steal : Bool) : State :=
  if s.getF (F.HOB_ENGINE_STATE hob) ≠ 0 then s
  else
    match s.pick hob with
    | none => s
    | some (x, stolen, cross) =>
      if stolen && !steal then s
      else
        let r := s.inst x.1
        let s1 := ({ s with gr := { s.gr with exec := s.gr.exec ++ [⟨hob, x.1, x.2, false⟩] } } : State).setInst x.1
          (if x.2 then { r with ranB := some hob } else { r with ranA := some hob })
        let s2 := (s1.setF (F.HOB_ENGINE_STATE hob) 1).when stolen (fun s => s.incF F.HOB_STEAL_CNT_COUNT)
        let s3 := s2.when cross (fun s => s.setFlag F.HOB_STATUS_CROSS_HALF_SEEN true)
        s3.bankSwap x.1

/-- HOB_DISPATCH: an idle hob takes work in the fabric cycle in which every idle hob does, so those that R88 serves before it
take theirs first: the idle hobs of its cluster up to it; where that leaves it idle, those of every cluster from their own
queues, then the idle hobs up to it as thieves, each in ascending index. [DESIGN CHOICE, log entry 27] -/
def State.hobDispatch (s : State) (hob : Nat) : State :=
  if !s.running || !s.flag F.HOB_STATUS_RUNNING || decide (64 ≤ hob) || decide (s.getF (F.HOB_ENGINE_STATE hob) ≠ 0) then s
  else
    let s1 := s.each (List.range' (8 * (hob / 8)) (hob % 8 + 1)) (fun s n => s.hobTake n false)
    let s2 := if s1.getF (F.HOB_ENGINE_STATE hob) ≠ 0 then s1
      else (s1.each (List.range 64) (fun s n => s.hobTake n false)).each (List.range (hob + 1)) (fun s n => s.hobTake n true)
    s2.refreshQueues

/-- The meaning of HOB_DISPATCH (R87). -/
def execHobDispatch (hob : Nat) (s : State) : Host.Outcome State Fault Refusal := .next (s.hobDispatch hob)

/-! Staging (R90) -/

/-- The gain set of a controller at LOAD and after a state reset (R115, R120): number and words. -/
def Node.initSet (n : Node) : Nat × List Word :=
  if n.ty = 32 ∨ n.ty = 33 then
    let k := schMap n.params (schInit n.params)
    (k, schSet n.params k)
  else (0, n.params.take 8)

/-- Set k of a controller. -/
def Node.gainSet (n : Node) (k : Nat) : List Word := if n.ty = 32 ∨ n.ty = 33 then schSet n.params k else n.params.take 8

/-- The sample period in s as a float. -/
def ratePeriodF (r : Nat) : Word := fDiv (fOfNat (ratePeriod r)) (fOfNat 32000)

/-- What a sample of an instance reads (R80); integer scheduling signals become floats (R117). -/
def State.blkIn (s : State) (i : Nat) (ins : List (Word × Bool)) : BlkIn :=
  let n := s.node i
  let x := s.inst i
  let ins' := if n.ty = 32 ∨ n.ty = 33 then
      (ins.zip (n.ins.zipIdx)).map (fun y =>
        if 3 ≤ y.2.2 ∧ (s.sigRec y.2.1).int = true then (fOfInt y.1.1.toInt, y.1.2) else y.1)
    else ins
  { ty := n.ty, params := n.params, ins := ins', st := x.st, fresh := x.fresh, gain := x.bank, reseed := x.reseed,
    act := x.act, tables := s.img.tables, init := (s.sigRec (n.outs.getD 0 0)).initial,
    inInit := (s.sigRec (n.ins.getD 0 0)).initial,
    pos := s.graphTick / ratePeriod n.rate % max 1 ((n.params.getD 1 0).toNat) + 1, period := ratePeriodF n.rate,
    ints := n.ins.map (fun k => (s.sigRec k).int) }

/-- What a sample computes; an upset flips bits of the outputs, then of the state words. -/
def State.compute (s : State) (i : Nat) (ins : List (Word × Bool)) (upset : List Word) : BlkOut :=
  let c := s.blkIn i ins
  let r := if 76 ≤ c.ty ∧ c.ty ≤ 87 then s.secEval c else evalBlock c
  let outs := r.outs.zipIdx.map (fun o => (o.1.1 ^^^ upset.getD o.2 0, o.1.2))
  { r with outs := outs, st := r.st.zipIdx.map (fun o => o.1 ^^^ upset.getD (outs.length + o.2) 0) }

/-- BLOCK_STAGE: a hob finishes its instance; work whose sample has ended or whose inputs were discarded is dropped.
[DEDUCED, log entry 45] -/
def State.blockStage (s : State) (hob : Nat) (upset : List Word) (tiles : List Nat) : State :=
  match s.gr.exec.find? (fun x => decide (x.hob = hob)) with
  | none => s
  | some x =>
    let s1 := (({ s with gr := { s.gr with exec := s.gr.exec.filter (fun y => decide (y.hob ≠ hob)) } } : State).setF
      (F.HOB_ENGINE_STATE hob) 0).when (s.age.rollDue.contains hob) (fun s => s.rollEnter hob)
    let r := s.inst x.inst
    if x.late || decide (r.sample ≠ .due) then s1.refreshQueues
    else
      match s.inputs x.inst x.copyB with
      | none => s1.refreshQueues
      | some ins =>
        let o := s.compute x.inst ins upset
        let w : Staged := { outs := o.outs, st := o.st, ins := ins, raises := o.raises, held := o.held, swap := o.swap,
                            tiles := tiles, hob := hob }
        (s1.setInst x.inst (if x.copyB then { r with b := some w } else { r with a := some w })).refreshQueues

/-- The meaning of BLOCK_STAGE (R90). -/
def execBlockStage (hob : Nat) (upset : List Word) (tiles : List Nat) (s : State) : Host.Outcome State Fault Refusal :=
  .next (s.blockStage hob upset tiles)

/-! STALE_SIGNAL (R96) -/

/-- The level of STALE_SIGNAL. [DEDUCED, log entry 28] -/
def State.refreshStale (s : State) : State :=
  let lim := s.getF F.HOB_CFG_STALE_LIMIT
  let stale := s.gr.sigs.any (fun x => decide (lim < x.aged))
  if stale then (if s.flt.level.contains Src.staleSignal then s else s.raiseLevel Src.staleSignal)
  else (if s.flt.level.contains Src.staleSignal then s.clearLevel Src.staleSignal else s)

/-! Commit (R91) -/

/-- The conditions of R91; an output beyond OUT_COUNT is not compared (R81), and no sample of a slot with a skipped cycle commits
(R368). -/
def State.mayCommit (s : State) (i : Nat) : Bool :=
  let x := s.inst i
  let n := (s.node i).outs.length
  decide (x.sample = .due) && !s.gr.skip.getD (s.node i).rate false && (s.producers i).all (fun p => decide ((s.inst p).sample = .committed)) &&
  (match x.a with
   | none => false
   | some a =>
     a.tiles.all (fun t => s.gr.verified.contains t) &&
     (if (s.node i).cls = 0 then
        (match x.b with
         | none => false
         | some b => decide (a.outs.take n = b.outs.take n) && decide (a.st = b.st) && b.tiles.all (fun t => s.gr.verified.contains t)) &&
        !(s.cmps.getD (s.laneOf i) {}).fifo.any (fun e => decide (e.2.tag = i))
      else true))

/-- The LAW slot of a committed scheduled controller (R135). -/
def State.lawCommit (s : State) (i : Nat) (w : Staged) : State :=
  match s.lawSlot i with
  | none => s
  | some c =>
    let s1 := ((((s.setF (F.LAW_SLOT_STATE_LIMIT c) (w.outs.getD 1 (0, false)).1.toNat).setF (F.LAW_SLOT_STATE_IX c)
      ((w.st.getD 2 0).toNat % 16)).setF (F.LAW_SLOT_STATE_IY c) ((w.st.getD 2 0).toNat / 16 % 16)).setReg
      (F.LAW_SLOT_OUT_U c).addr (w.outs.getD 0 (0, false)).1).setReg (F.LAW_SLOT_INTEG_I c).addr (w.st.getD 0 0)
    let s2 := s1.when w.held (fun s => s.incF (F.LAW_SLOT_HELD_COUNT c))
    match w.swap with
    | none => s2
    | some k => (s2.setFlag (F.LAW_SLOT_STATE_PENDING c) true).setF (F.LAW_SLOT_STATE_PENDING_SET c) k

/-- The LAW slot's indices, sets and integrator as the instance's state has them (R135). -/
def State.lawShow (s : State) (i : Nat) : State :=
  match s.lawSlot i with
  | none => s
  | some c =>
    let n := s.node i
    let x := s.inst i
    let w := if x.fresh ∧ (n.ty = 32 ∨ n.ty = 33) then
        schInit n.params % (schNx n.params + 1) + 16 * (schInit n.params / (schNx n.params + 1))
      else (x.st.getD 2 0).toNat
    let s1 := ((s.setF (F.LAW_SLOT_STATE_IX c) (w % 16)).setF (F.LAW_SLOT_STATE_IY c) (w / 16 % 16)).setF
      (F.LAW_SLOT_STATE_ACTIVE_SET c) x.act
    let s2 := (s1.setFlag (F.LAW_SLOT_STATE_PENDING c) x.pend.isSome).setF (F.LAW_SLOT_STATE_PENDING_SET c)
      ((x.pend.map (fun p => p.1)).getD 0)
    s2.setReg (F.LAW_SLOT_INTEG_I c).addr (x.st.getD 0 0)

/-- What the commit of an instance replaces, for a slot that turns out not to commit (R95, R368, R495). -/
def State.savedOf (s : State) (i : Nat) (c : BlkIn) (w : Staged) : Saved :=
  let x := s.inst i
  let lim := s.lawSlot i |>.map (fun c => (s.getF (F.LAW_SLOT_STATE_LIMIT c), s.reg (F.LAW_SLOT_OUT_U c).addr))
  let pts := if c.ty = 78 ∨ c.ty = 79 ∨ c.ty = 82 ∨ c.ty = 83 then
      (s.ptRange (c.pn 0) (c.pn 1)).map (fun p => (p, s.pt p, s.flag (F.SEC_POINT_UNKNOWN p)))
    else []
  { st := x.st, fresh := x.fresh, reseed := x.reseed, pend := x.pend, law := lim.getD (0, 0), held := w.held, pts := pts,
    aged := x.aged, shown := c.safShown.1.map s.getF, still := (s.saf.still, s.saf.stillTick), blank := s.saf.blank,
    valid := s.sec.valid, mask := s.sec.mask, iso := s.sec.iso, taken := if c.ty = 80 ∧ c.x 0 ≠ 0 then min 64 s.map.events.length else 0 }

/-- The sample's hold is not counted after all (R131, R135). -/
def State.lawUnheld (s : State) (i : Nat) : State :=
  let s1 := s.unCount F.LAW_HELD_CNT_COUNT.addr
  match s.lawSlot i with
  | none => s1
  | some c => s1.unCount (F.LAW_SLOT_HELD_COUNT c).addr

/-- Taking back what a commit did besides outputs and state: the LAW registers (R131, R135), the point table (R156) and the SAF registers
(R422). What it raised stays raised. [DEDUCED, log entry 28] -/
def State.commitUndo (s : State) (i : Nat) (v : Saved) : State :=
  let ty := (s.node i).ty
  let law := fun (s : State) => match s.lawSlot i with
    | none => s
    | some c => (s.setF (F.LAW_SLOT_STATE_LIMIT c) v.law.1).setReg (F.LAW_SLOT_OUT_U c).addr v.law.2
  let s1 := ((s.lawShow i).when (decide (30 ≤ ty) && decide (ty ≤ 38)) law).when v.held (fun s => s.lawUnheld i)
  (s1.secUndo ty v).safUndo (s.blkIn i []) v

/-- Writing one committed output. -/
def State.commitOut (s : State) (k : Nat) (v : Word) (age : Bool) : State :=
  let x := s.sig k
  s.setSig k { x with v := v, age := age, aged := if age then x.aged else 0 }

/-- What a safety type's commit shows, with a note of the counters that counted. -/
def State.commitShows (s : State) (i : Nat) (c : BlkIn) (w : Staged) : State :=
  let s1 := s.when (decide (c.ty = 68) || (decide (70 ≤ c.ty) && decide (c.ty ≤ 75))) (fun s => s.safCommit c w.outs w.st w.raises)
  let n := (c.safShown.2.map (fun f => f.addr)).filter (fun a => decide (s1.reg a ≠ s.reg a))
  let x := s1.inst i
  if n.isEmpty then s1 else s1.setInst i { x with saved := x.saved.map (fun v => { v with counted := n }) }

/-- What a commit raises, once everything else of it is done (R397, R399). [DEDUCED, log entry 40] -/
def State.commitRaises (s : State) (w : Staged) : State := s.each w.raises (fun s n => s.when s.running (fun s => s.raise n))

/-- The commit of a sample: outputs, state and age flags in one step, and what follows from it; `slack` is the time to the
slot end in 125 ns, `wait` the hold for tile verification in fabric cycles (R102, R104). Where the slot may still turn out not to
commit, in SHADOW and REPLAY, STALE_SIGNAL is judged when it ends (R96, R368). -/
def State.commit (s : State) (i slack wait : Nat) : State :=
  let n := s.node i
  let x := s.inst i
  match x.a with
  | none => s
  | some w =>
    let c := s.blkIn i w.ins
    let outs := (n.outs.zip w.outs).map (fun o => (o.1, o.2.1, o.2.2 || x.aged))
    let pend := match w.swap with
      | some k => some (k, n.gainSet k, 0)
      | none => x.pend
    let s1 := s.each outs (fun s o => s.commitOut o.1 o.2.1 o.2.2)
    let s2 := s1.setInst i { x with st := w.st, fresh := false, sample := .committed, aged := false, reseed := false,
                                    pend := pend, saved := some (s.savedOf i c w) }
    let s3 := (s2.when (w.held && (decide (30 ≤ n.ty ∧ n.ty ≤ 34) || decide (n.ty = 37) || decide (n.ty = 38)))
      (fun s => s.incF F.LAW_HELD_CNT_COUNT)).lawCommit i w
    let s4 := (s3.secCommit c w.outs).commitShows i c w
    let s5 := s4.when (decide (0 < wait)) (fun s => s.peakF F.HOB_VERIFY_WAIT_PEAK wait)
    let s6 := match x.cause with
      | some k => s5.transient.incF (F.CMP_TRANSIENT_CNT_COUNT k)
      | none => s5
    (((({ s6 with gr := { s6.gr with slack := s6.gr.slack.set n.rate (some slack) } } : State)).when
      (decide (s.mode ≠ .shadow) && decide (s.mode ≠ .replay)) State.refreshStale).refreshQueues).commitRaises w

/-- COMMIT: the sample of an instance commits where the conditions of R91 hold. -/
def State.commitDue (s : State) (i slack wait : Nat) : State :=
  if s.running && s.flag F.HOB_STATUS_RUNNING && s.mayCommit i then s.commit i slack wait else s

/-- The meaning of COMMIT (R91). -/
def execCommit (inst slack wait : Nat) (s : State) : Host.Outcome State Fault Refusal := .next (s.commitDue inst slack wait)

/-! Misses and skipped slots (R95, R368) -/

/-- The outputs of an instance carry the age flag; a value and count taken back are those of the slot start. -/
def State.ageOuts (s : State) (i : Nat) (back : Bool) : State :=
  s.each (s.node i).outs (fun s k =>
    let x := s.sig k
    s.setSig k { x with v := if back then x.pv else x.v, age := true, aged := if back then x.paged else x.aged })

/-- Ending an instance's sample without a commit; a commit already made in it is taken back, and its writes leave the comparators
(R95). -/
def State.dropSample (s : State) (i : Nat) (as : Sample) : State :=
  let x := s.inst i
  let back := decide (x.sample = .committed)
  let y := match back, x.saved with
    | true, some v => { x with st := v.st, fresh := v.fresh, reseed := v.reseed, pend := v.pend, aged := v.aged }
    | _, _ => x
  let s0 := (s.ageOuts i back).setInst i { y with sample := as, a := none, b := none, retried := false, saved := none }
  let s1 := match back, x.saved with
    | true, some v => s0.commitUndo i v
    | _, _ => s0
  ({ s1 with gr := { s1.gr with exec := s1.gr.exec.map (fun e => if e.inst = i then { e with late := true } else e) } }
    : State).dropWrites [(i, false), (i, true)]

/-- The instances of a class whose sample has not committed, and the committed ones that a NO_COMMIT marker of REPLAY names,
with their dependants (R95, R495). [DEDUCED, log entry 28] -/
def State.missing (s : State) (r : Nat) : List Nat :=
  (s.ofRate r).foldl (fun l i =>
    let x := s.inst i
    let named := s.gr.noCommit.any (fun m => decide (m.2 = i) && (decide (r ≠ 0) || decide (m.1 = s.gr.j)))
    if x.sample = .due ∨ x.sample = .failed then l ++ [i]
    else if x.sample = .committed ∧ (named = true ∨ (s.producers i).any (fun p => l.contains p) = true) then l ++ [i]
    else l) []

/-- The record of a miss (R95, R100, R101, R104, R107, R485): counters, HOB_MISSED_w, HOB_LAST_EVENT, the NO_COMMIT marker, which a
lasting mismatch has left already. [DESIGN CHOICE, log entry 27] -/
def State.missRecord (s : State) (r : Nat) (l : List Nat) : State :=
  match l.head? with
  | none => s
  | some i =>
    let copyB := (s.inst i).a.isSome && (s.inst i).ranB.isSome
    let f := s.hobOf i copyB
    let s1 := f.2.each l (fun s k => s.setF (F.HOB_MISSED_MISSED (k / 32)) (s.getF (F.HOB_MISSED_MISSED (k / 32)) ||| 2 ^ (k % 32)))
    let s2 := ((s1.addF F.HOB_MISS_CNT_COUNT l.length).incF (F.HOB_CLASS_MISSES r)).setFlag F.HOB_STATUS_MISS_SEEN true
    let s3 := s2.lastEvent 1 copyB f.1 i
    s3.when (decide ((s.inst i).sample ≠ .failed)) (fun s => s.marker 2 i (s.reg F.HOB_LAST_EVENT_KIND.addr).toNat)

/-- A slot of class r ends: samples not committed have missed, and in a slot with a skipped cycle no sample commits. -/
def State.missClass (s : State) (r : Nat) : State :=
  if !s.gr.open_.getD r false then s
  else if s.gr.skip.getD r false then s.each (s.ofRate r) (fun s i => s.dropSample i .skipped)
  else
    let l := s.missing r
    if l.isEmpty then s
    else
      let s1 := s.missRecord r l
      (s1.each l (fun s i => s.dropSample i .missed)).raise (Src.deadline r)

/-- DEADLINE_MISS: the slot of class k has reached its end with samples that have not committed. -/
def State.deadlineMiss (s : State) (k : Nat) : State :=
  if s.running && s.flag F.HOB_STATUS_RUNNING && decide (k < 5) && (s.gr.s.map (fun sc => (slotsEnding sc s.gr.j).contains k)).getD false
  then (s.missClass k).refreshQueues
  else s

/-- The meaning of DEADLINE_MISS (R95). -/
def execDeadlineMiss (k : Nat) (s : State) : Host.Outcome State Fault Refusal := .next (s.deadlineMiss k)

/-! Effects at a slot end (R94) -/

/-- A set-point in A as mA (R245). [DEDUCED, log entry 28] -/
def solMilli (w : Word) : Nat :=
  if fIsNaN w || fLt w f0 then 0
  else if fLt 0x40200000 w then 2500
  else ((fRint (fMul w fThousand)).getD 0).toNat

/-- SOL_WRITE (R245). -/
def State.solWrite (s : State) (k : Nat) (w : Word) : State :=
  (({ s with gdr := { s.gdr with solSet := s.gdr.solSet.set k (solMilli w) } } : State)).refreshSol k

/-- Both pilot coils commanded at once receive 0 (R127). -/
def State.valvePair (s : State) : State :=
  let a := s.getF F.LAW_STEER_VALVE_A
  let b := s.getF F.LAW_STEER_VALVE_B
  if s.flag F.LAW_STEER_MODE && decide (s.gdr.solSet.getD a 0 ≠ 0) && decide (s.gdr.solSet.getD b 0 ≠ 0) then
    let s1 : State := { s with gdr := { s.gdr with solSet := (s.gdr.solSet.set a 0).set b 0 } }
    (((s1.refreshSol a).refreshSol b).setFlag F.LAW_STATUS_VALVE_CONFLICT_SEEN true).raise Src.valvePairConflict
  else s

/-- ENABLE_WRITE (R247). -/
def State.enableWrite (s : State) (e : Nat) (w : Word) : State := (s.setFlag (F.GDR_EN_STAT_CMD e) (decide (w ≠ 0))).refreshEn e

/-- Replacing bytes from an offset on. -/
def putBytes (data : List Byte) (o : Nat) (bs : List Byte) : List Byte :=
  (data.take o ++ bs ++ data.drop (o + bs.length)).take data.length

/-- FLUE_TX (R296): payload bytes written into the slot's transmit buffer. -/
def State.flueTx (s : State) (i slot off : Nat) (words : List Word) : State :=
  let bs := words.flatMap (fun w => leBytes 4 w.toNat)
  { s with flu := { s.flu with tx := s.flu.tx.map (fun b =>
    if b.slot = slot then
      { b with data := putBytes b.data off bs, written := if b.written.contains i then b.written else b.written ++ [i] }
    else b) } }

/-- FAULT_RAISE as a block (R442): the level of its source, from whether its input is zero as its signal's type has it; an aged input
leaves it. -/
def State.faultBlock (s : State) (i src : Nat) (zero aged : Bool) : State :=
  if aged then s
  else
    let rest := s.flt.blocks.filter (fun b => decide (b.1 ≠ i))
    let l := if zero then rest else rest ++ [(i, src)]
    let s1 : State := { s with flt := { s.flt with blocks := l } }
    if l.any (fun b => decide (b.2 = src)) then (if s.flt.level.contains src then s1 else s1.raiseLevel src)
    else (if s.flt.level.contains src then s1.clearLevel src else s1)

/-- Entering words at consecutive keys of an association list. -/
def putWords (l : List (Nat × Word)) (k : Nat) : List Word → List (Nat × Word)
  | [] => l
  | w :: t => putWords (l.filter (fun x => decide (x.1 ≠ k)) ++ [(k, w)]) (k + 1) t

/-- The effect of a committed writer or section block at its slot end; `e0` and `e` bound the slot in 10 µs units.
[DEDUCED, log entry 28] -/
def State.effect (s : State) (e0 e i : Nat) : State :=
  let n := s.node i
  match (s.inst i).a with
  | none => s
  | some w =>
    let c := s.blkIn i w.ins
    let ws := w.ins.map (fun x => x.1)
    match n.ty with
    | 88 => s.pwmWrite (c.pn 0) ws
    | 89 => s.solWrite (c.pn 0) (c.x 0)
    | 90 => s.enableWrite (c.pn 0) (c.x 0)
    | 91 => s.flueTx i (c.pn 0) (c.pn 1) ws
    | 92 => s.canTx (c.pn 0) (c.pn 1) (c.pn 2) (c.x 0).toNat (ws.drop 1)
    | 93 => s.ethTx (c.pn 0) (c.pn 1) ws
    | 94 => s.adcStart (b2n (bit (c.x 0).toNat 0) * 2 ^ c.pn 0) (b2n (bit (c.x 0).toNat 1) * 2 ^ c.pn 0)
    | 95 => s.compareWrite (c.pn 0) (c.x 0)
    | 96 => s.bridgeModeWrite (c.pn 0) i (c.x 0)
    | 97 => if c.x 0 = 0 then s else s.supplyTest (c.pn 0)
    | 98 => s.modeReqWrite (c.x 0)
    | 99 => s.faultBlock i (c.pn 0) (c.isZero 0) (c.aged 0)
    | 100 => { s with gr := { s.gr with taps := s.gr.taps.filter (fun t => decide (t.1 ≠ i)) ++ [(i, w.ins)] } }
    | 101 => { s with gr := { s.gr with status := putWords s.gr.status (c.pn 0) ws } }
    | _ => s.secEnd c e0 e

/-- The contribution of an instance's outputs to D(S) (R369). -/
def State.digestOf (s : State) (i : Nat) : Word :=
  let n := s.node i
  let tick := if n.rate = 0 then s.gr.j else 3
  n.outs.foldl (fun d k => d ^^^ w32 (crc32c (leBytes 2 k ++ leBytes 1 tick ++ leBytes 1 (b2n (s.sig k).age) ++
    leBytes 4 (s.sig k).v.toNat))) 0

/-- Where a slot ends in 10 µs units of Flue time, and where it began (R160); the end is that of the present tick. -/
def State.slotBounds (s : State) (r : Nat) : Nat × Nat :=
  let t := s.flu.cycle * 125000 + 31250 * (s.gr.j + 1)
  ((t - 31250 * ratePeriod r) / 10000, t / 10000)

/-- The end of one class's slot after its effects: crossing buffers, aged counts, digest, slack, skip count.
[DEDUCED, log entry 28] -/
def State.slotClose (s : State) (r : Nat) : State :=
  let skipped := s.gr.skip.getD r false
  let l := s.ofRate r
  let d := (l.filter (fun i => decide ((s.node i).cls = 0) && decide ((s.inst i).sample = .committed))).foldl
    (fun d i => d ^^^ s.digestOf i) s.gr.digest
  let s1 := s.each (l.flatMap (fun i => (s.node i).outs)) (fun s k =>
    let x := s.sig k
    s.setSig k { x with cv := x.v, cage := x.age, aged := if x.age && !skipped then x.aged + 1 else x.aged })
  let left := s1.gr.noCommit.filter (fun m => decide ((s.node m.2).rate ≠ r) || (decide (r = 0) && decide (s.gr.j < m.1)))
  let gr := { s1.gr with digest := d, noCommit := left, open_ := s1.gr.open_.set r false, skip := s1.gr.skip.set r false,
                         slack := s1.gr.slack.set r none }
  let s2 : State := { s1 with gr := gr }
  let s3 := match s.gr.slack.getD r none with
    | some v => if skipped then s2 else s2.setF (F.HOB_CLASS_SLACK_MIN r) (min (s2.getF (F.HOB_CLASS_SLACK_MIN r)) v)
    | none => s2
  let crossing := l.filter (fun i => decide ((s.node i).ty = 78))
  let s4 := s3.when (decide (r = 2) && !crossing.isEmpty && crossing.all (fun i => decide ((s.inst i).sample = .committed)))
    (fun s => s.setReg F.SEC_SOLVE_TICK_TICK.addr s.sec.slotTick)
  s4.when skipped (fun s => s.incF F.LDS_SKIP_CNT_COUNT)

/-- The slots of the classes `rs` end together: misses, then the effects of all of them in ascending instance index (R94; none
in REPLAY, R494), then what each class closes. -/
def State.slotsEnd (s : State) (rs : List Nat) : State :=
  let rs := rs.filter (fun r => s.gr.open_.getD r false)
  if rs.isEmpty then s
  else
    let s1 := s.each rs State.missClass
    let due := (List.range s1.img.nodes.length).filter (fun i =>
      rs.contains (s1.node i).rate && decide ((s1.inst i).sample = .committed))
    let s2 := if s.mode = .replay then s1
      else (s1.each due (fun s i => s.effect (s.slotBounds (s.node i).rate).1 (s.slotBounds (s.node i).rate).2 i)).valvePair
    let s3 := s2.when (rs.contains 2 && decide (s.mode ≠ .replay)) (fun s =>
      let s1 := s.pinUpdate
      { s1 with sec := { s1.sec with resend := s1.sec.resend && s1.gr.skip.getD 2 false } })
    (s3.each rs State.slotClose).refreshStale

/-! Slot starts (R77, R78) -/

/-- SERVICE gain edits of an instance act at its first sample boundary in REPLAY (R120). -/
def State.applyEdits (s : State) (i : Nat) : State :=
  let es := s.gr.edits.filter (fun e => decide (e.1 = i))
  if es.isEmpty then s
  else
    let n := s.node i
    let at' := fun (set word : Nat) => (if n.ty = 32 ∨ n.ty = 33 then schSetOff n.params set else 0) + word
    let n' := { n with params := es.foldl (fun p e => p.set (at' e.2.1 e.2.2.1) e.2.2.2) n.params }
    let x := s.inst i
    let hit := es.any (fun e => decide (e.2.1 = x.act))
    let pend := match x.pend with
      | some (k, _, c) => some (k, n'.gainSet k, c)
      | none => if hit then some (x.act, n'.gainSet x.act, 1) else none
    let s1 : State := { s with img := { s.img with nodes := s.img.nodes.set i n' },
                               gr := { s.gr with edits := s.gr.edits.filter (fun e => decide (e.1 ≠ i)) } }
    let s2 := s1.setInst i { x with pend := pend }
    match pend, s.lawSlot i with
    | some (k, _, _), some c => (s2.setFlag (F.LAW_SLOT_STATE_PENDING c) true).setF (F.LAW_SLOT_STATE_PENDING_SET c) k
    | _, _ => s2

/-- A slot of class r starts: samples fall due and the inputs of R78 that no staged output gives are fixed. -/
def State.slotStart (s : State) (r : Nat) : State :=
  let l := s.ofRate r
  let s1 := s.when (decide (s.mode = .replay)) (fun s => s.each l State.applyEdits)
  let s2 := s1.each (l.flatMap (fun i => (s1.node i).outs)) (fun s k =>
    let x := s.sig k
    s.setSig k { x with pv := x.v, page := x.age, paged := x.aged })
  let s3 := s2.each l (fun s i =>
    let x := s.inst i
    s.setInst i { x with sample := (if s.gr.skipping then .skipped else .due), a := none, b := none, retried := false, saved := none,
                         cause := none, ranA := none, ranB := none,
                         fixed := (s.node i).ins.map (fun k => s2.slotInput i k),
                         fixedB := (s.node i).ins.map (fun k => s2.slotInput i k) })
  { s3 with gr := { s3.gr with open_ := s3.gr.open_.set r true, skip := s3.gr.skip.set r s.gr.skipping,
                               slack := s3.gr.slack.set r none } }

/-- A skipped cycle begins: every open slot contains it (R368). -/
def State.markSkipped (s : State) : State :=
  if s.gr.skipping then
    { s with gr := { s.gr with skip := (s.gr.skip.zip s.gr.open_).map (fun x => x.1 || x.2) } }
  else s

end Sys2Proof.Machine
end

