-- ==== Sys2Proof/Machine/Compare.lean ====
section
/-!
DEFINITION. What comparators find and tile verification (15_self_checking, R92, R93).
-/
namespace Sys2Proof.Machine

open Sys2Proof

/-! Mismatches (R93, R427, R429) -/

/-- A mismatch of commit lane or scheduler comparator k for an instance (R93). -/
def State.laneMismatch (s : State) (k i : Nat) (copyB : Bool) : State :=
  let x := s.inst i
  if x.sample ≠ .due then s
  else
    let h := s.hobOf i copyB
    if x.retried then
      let s1 := ((((h.2.setInst i { x with sample := .failed, a := none, b := none }).discard [i])).lasting.setFlag
        F.HOB_STATUS_LASTING_SEEN true).lastEvent 4 copyB h.1 i
      (s1.marker 2 i (s1.reg F.HOB_LAST_EVENT_KIND.addr).toNat).raise Src.lastingMismatch
    else
      let s1 := ((h.2.discard [i]).setInst i { x with a := none, b := none, retried := true, cause := some k }).countRetry
      (((s1.incF F.HOB_RETRY_CNT_COUNT).setFlag F.HOB_STATUS_RETRY_SEEN true).lastEvent 2 copyB h.1 i).marker 1 i k |>.refreshQueues

/-- The comparator that keeps account of a comparator's retries: one for all whose retry is the andirons' step. -/
def retryHome (k : Nat) : Nat := if andironCmps.contains k then 8 else k

/-- The partner of a comparator of a duplicated pair (R430). -/
def pairOf (k : Nat) : Option Nat :=
  if 16 ≤ k ∧ k ≤ 18 then some (k + 3) else if 19 ≤ k ∧ k ≤ 21 then some (k - 3) else none

/-- What identifies the retry of a write (R429): its tag; of the Flue transmit comparators the cycle, since the next cycle's frame is
the retry; of the comparators whose retry is the next half or tick nothing, there being one. [DESIGN CHOICE, log entry 29] -/
def State.retryKey (s : State) (k tag : Nat) : Nat :=
  if k = 16 ∨ k = 19 then s.flu.cycle else if k = 17 ∨ k = 20 ∨ k = 22 ∨ k = 23 then 0 else tag

/-- The retries due on a comparator, and storing them. -/
def State.retries (s : State) (k : Nat) : List Nat := (s.cmps.getD (retryHome k) {}).retry
def State.setRetries (s : State) (k : Nat) (l : List Nat) : State :=
  { s with cmps := s.cmps.set (retryHome k) { s.cmps.getD (retryHome k) {} with retry := l } }

/-- Whether a write of comparator k is the retry of one that mismatched. -/
def State.isRetry (s : State) (k tag : Nat) : Bool :=
  if k = 16 ∨ k = 19 then (s.retries k).contains (s.flu.cycle - 1) else (s.retries k).contains (s.retryKey k tag)

/-- The retries that stay due once one of comparator k has ended; a Flue frame's only from one cycle to the next. -/
def State.retryRest (s : State) (k tag : Nat) : List Nat :=
  (s.retries k).filter (fun t => if k = 16 ∨ k = 19 then decide (s.flu.cycle ≤ t) else decide (t ≠ s.retryKey k tag))

/-- What a write that a comparator of 16 to 21 withholds leaves undone: the next own frame, the gate enable for the rest of the half, or
the first writing of the next Ash record (R429, R430). -/
def State.withheld (s : State) (k : Nat) : State :=
  let s0 : State := s.when (decide (k = 16) || decide (k = 19)) (fun s => { s with flu := { s.flu with withhold := true } })
  let s1 : State := s0.when (decide (k = 18) || decide (k = 21)) (fun s => { s with ash := { s.ash with withhold := true } })
  s1.when (decide (k = 17) || decide (k = 20)) (fun s =>
    (({ s with gdr := { s.gdr with enOffHalf := true } } : State)).refreshPower)

/-- Storing a comparator's FIFO: DEPTH and PEAK follow. -/
def State.setFifo (s : State) (k : Nat) (fifo : List (Bool × BusWrite)) : State :=
  (({ s with cmps := s.cmps.set k { s.cmps.getD k {} with fifo := fifo } } : State).setF (F.CMP_STAT_DEPTH k)
    fifo.length).peakF (F.CMP_STAT_PEAK k) fifo.length

/-- What was written under a tag leaves a comparator. -/
def State.dropTag (s : State) (k tag : Nat) : State :=
  let c := s.cmps.getD k {}
  let s0 : State := { s with cmps := s.cmps.set k { c with stalled := c.stalled.filter (fun e => decide (e.2.tag ≠ tag)) } }
  s0.setFifo k (c.fifo.filter (fun e => decide (e.2.tag ≠ tag)))

/-- The SOUTH record's word of an intake source is written (R424): copies B that read it at a slot start of this tick read that.
[DESIGN CHOICE, log entry 29; DEDUCED, log entry 46] -/
def State.southWord (s : State) (src : Nat) (v : Word) : State :=
  let gr := s.gr
  let put := fun (i : Nat) (r : InstRun) =>
    if r.sample = .due ∧ s.graphTick % ratePeriod (s.node i).rate = 0 then
      { r with fixedB := (r.fixedB.zip (s.node i).ins).map (fun x =>
        if (s.sigRec x.2).producer.isNone && decide ((s.sigRec x.2).port = src) then x.1.map (fun y => (v, y.2)) else x.1) }
    else r
  { s with gr := { gr with south := gr.south.map (fun x => if x.1 = src then (src, v, x.2.2) else x),
                           insts := gr.insts.zipIdx.map (fun x => put x.2 x.1) } }

/-- What an andiron's, engine's or pin comparator does at a mismatch (R429): the first is retried, with a retry marker (R445, R485), a
second is lasting; a lasting one of the andirons' writes ends ANDIRON_OK of both halves, since it does not tell which andiron is
wrong (R35). Of comparator 23 the stronger of the actions of both sides is taken at once; `data` are theirs, the action as REACTION
codes it, and the tag names the source. Comparator 12 leaves in the SOUTH record what the delay line wrote.
[DESIGN CHOICE, log entry 29] -/
def State.rewriteMismatch (s : State) (k tag : Nat) (data : List BusWrite) : State :=
  let s0 := (s.withheld k).when (decide (k = 23)) (fun s =>
    s.takeAction (tag % 256) ((data.map (fun w => w.data % 16)).foldl max 0) none)
  let s1 := s0.when (decide (k = 12)) (fun s => match data.getLast? with
    | some w => s.southWord w.addr (w32 w.data)
    | none => s)
  if s.isRetry k tag then
    ((s1.setRetries k (s.retryRest k tag)).when (andironCmps.contains k) (fun s =>
      s.each [0, 1] (fun s h => s.setFlag (F.SYS_HALF_ANDIRON_OK h) false))).lasting.raise Src.lastingMismatch
  else
    (((s1.setRetries k (s.retryRest k tag ++ [s.retryKey k tag])).countRetry.incF F.HOB_RETRY_CNT_COUNT).setFlag
      F.HOB_STATUS_RETRY_SEEN true).marker 1 (tag % 65536) k

/-- The verdict of one comparator of a duplicated pair on a write (R430): true where it releases it. Where both have judged and differ
the write is withheld and CMP_FAIL raised. [DESIGN CHOICE, log entry 29] -/
def State.pairVerdict (s : State) (k tag : Nat) (pass : Bool) : State :=
  match pairOf k with
  | none => s
  | some m =>
    let d := s.cmps.getD m {}
    let same := if pass then d.passed else d.flagged
    let other := if pass then d.flagged else d.passed
    let done := fun (s : State) => ({ s with cmps := s.cmps.set m { d with passed := d.passed.filter (fun t => decide (t ≠ tag)),
                                                                           flagged := d.flagged.filter (fun t => decide (t ≠ tag)) } } : State)
    if other.contains tag then ((done s).withheld k).raise Src.cmpFail
    else if same.contains tag then done s
    else
      let c := s.cmps.getD k {}
      { s with cmps := s.cmps.set k (if pass then { c with passed := (tag :: c.passed).take 256 }
                                     else { c with flagged := (tag :: c.flagged).take 256 }) }

/-- A mismatch of comparator k between the writes `data`: its source is raised at every one; what was written under the tag is
discarded, of an andiron's step on all its comparators. -/
def State.mismatch (s : State) (k tag : Nat) (copyB : Bool) (data : List BusWrite) : State :=
  let s1 := (s.each (if andironCmps.contains k then andironCmps else [k]) (fun s n => s.dropTag n tag)).incF (F.CMP_MISMATCH_CNT_COUNT k)
  let s2 := (s1.raise (Src.cmpMismatch k)).pairVerdict k tag false
  if k < 8 ∨ k = 13 then s2.laneMismatch k tag copyB else s2.rewriteMismatch k tag data

/-- The lane a write to lane k is compared on (R430). -/
def State.liveLane (s : State) (k : Nat) : Nat := if k < 8 then s.laneOf k else k

/-- Retiring lane k (R430): staged and uncommitted blocks of the lane are retried. [DESIGN CHOICE, log entry 29] -/
def State.retireLane (s : State) (k : Nat) : State :=
  let l := (List.range s.img.nodes.length).filter (fun i =>
    decide ((s.node i).cls = 0) && decide ((s.inst i).sample = .due) && decide (s.laneOf i = k) &&
      ((s.inst i).a.isSome || (s.inst i).b.isSome))
  let copies := (List.range s.img.nodes.length).map (fun i => match (s.inst i).a, (s.inst i).b with
    | some w, _ => (false, w.hob)
    | none, some w => (true, w.hob)
    | none, none => (false, 0))
  let s1 := (s.discard l).each l (fun s i =>
    let e := copies.getD i (false, 0)
    (((s.setInst i { s.inst i with retried := true }).countRetry.incF F.HOB_RETRY_CNT_COUNT).lastEvent 2 e.1 e.2 i).marker 1 i k)
  let s2 := ({ s1 with cmps := s1.cmps.set k {} } : State).setF (F.CMP_STAT_DEPTH k) 0
  ((s2.when (!l.isEmpty) (fun s => s.setFlag F.HOB_STATUS_RETRY_SEEN true)).setFlag (F.CMP_STAT_RETIRED k) true).incF
    F.FLT_LANE_CNT_COUNT |>.event Ev.flt 5

/-- CMP_VERDICT_DISAGREE (R430): the verdict pair of comparator k disagrees, or the two of a duplicated pair differ and the write is
withheld; that of an Ash record is then written by ASH_APPEND as one whose first writing failed.
[DESIGN CHOICE, log entry 29] -/
def State.verdictDisagree (s : State) (k : Nat) (pairDiffers : Bool) : State :=
  if !s.running || decide (24 ≤ k) then s
  else if pairDiffers then (if 16 ≤ k ∧ k ≤ 21 then (s.withheld k).raise Src.cmpFail else s)
  else if 8 ≤ k then s.raise Src.cmpFail
  else if s.flag (F.CMP_STAT_RETIRED k) then s
  else
    let left := (List.range 8).filter (fun n => !s.flag (F.CMP_STAT_RETIRED n))
    (s.when (decide (1 < left.length)) (fun s => s.retireLane k)).raise Src.cmpLane

/-! Tile verification (R92, R432, R433) -/

/-- The region of a tile (R37). -/
def regionOf (tile : Nat) : Nat := ((List.range 6).filter (fun r => decide ((regionTiles.getD r (0, 0)).1 ≤ tile))).getLast?.getD 0

/-- The cluster and place among its eleven banks of a bank (R14, R36), none for a half bank. -/
def clusterBank (b : Nat) : Option (Nat × Nat) :=
  if b < 24 then some (b / 3, b % 3)
  else if b < 88 then some ((b - 24) / 8, 3 + (b - 24) % 8)
  else none

/-- A state reset of a QUALITY or HOUSE instance (R92, R120): state as after LOAD, outputs committed with the age flag. -/
def State.resetInst (s : State) (i : Nat) : State :=
  let n := s.node i
  let x := s.inst i
  (s.setInst i { x with st := List.replicate n.stateWords 0, fresh := true, bank := n.initSet.2, act := n.initSet.1, pend := none,
                        reseed := false, aged := true }).lawShow i

/-- The instances with state in a failed tile run again: SAFETY ones from the other copy's state, the others reset. -/
def State.restoreState (s : State) (homed : List Nat) : State :=
  let l := homed.filter (fun i => decide (i < s.img.nodes.length))
  (s.discard (l.filter (fun i => decide ((s.inst i).sample = .due)))).each (l.filter (fun i => decide ((s.node i).cls ≠ 0)))
    State.resetInst

/-- The bank's spare tile takes a tile's place; the tile's spare rows stand in no more (R12, R433, R36, FLT_SPARE_CNT). -/
def State.useSpare (s : State) (tile : Nat) : State :=
  let b := tile / 16
  let s1 := (({ s with sys := { s.sys with spares := s.sys.spares ++ [b],
                                           rowFix := s.sys.rowFix.filter (fun x => decide (x.1 ≠ tile)) } } : State).incF F.FLT_SPARE_CNT_COUNT).event Ev.flt 4
  match clusterBank b with
  | some (c, k) => s1.setF (F.SYS_CLUSTER_SPARE_USED c) (s1.getF (F.SYS_CLUSTER_SPARE_USED c) ||| 2 ^ k)
  | none => s1

/-- The content of a tile becomes zero. -/
def State.clearTile (s : State) (tile : Nat) : State :=
  { s with tiles := Mem.write 0 s.tiles (tileBase + 4096 * tile) (List.replicate 4096 0) }

/-- The content of an andiron's tile becomes that of the partner's tile at the same offset (R433). -/
def State.copyPartner (s : State) (tile : Nat) : State :=
  let from' := if regionOf tile = 2 then tile + 96 else tile - 96
  { s with tiles := Mem.write 0 s.tiles (tileBase + 4096 * tile) (Mem.read 0 s.tiles (tileBase + 4096 * from') 4096) }

/-- An andiron's step is repeated after a repair of its tile (R433): what it has written of it and no comparator has released is
discarded, and it writes that again. [DESIGN CHOICE, log entry 29] -/
def State.repeatStep (s : State) (south : Bool) : State :=
  let again := (andironCmps.flatMap (fun k => (s.cmps.getD k {}).fifo)).filter (fun e => decide (e.1 = south)) |>.map (fun e => e.2.tag)
  let s1 := s.each andironCmps (fun s k =>
    let c := s.cmps.getD k {}
    let s0 : State := { s with cmps := s.cmps.set k { c with stalled := c.stalled.filter (fun e => decide (e.1 ≠ south)) } }
    s0.setFifo k (c.fifo.filter (fun e => decide (e.1 ≠ south))))
  { s1 with gr := { s1.gr with repeats := (s1.gr.repeats ++ again.map (fun t => (south, t))).eraseDups } }

/-- The oldest frame in the receive FIFO of CAN_n is lost, and counts as one that found it full (R344).
[DESIGN CHOICE, log entry 29] -/
def State.canLost (s : State) (n : Nat) : State :=
  match (s.can n).fifo with
  | [] => s
  | _ :: t =>
    ((((s.setCan n { s.can n with fifo := t }).setF (F.CAN_RXF_STAT_DEPTH n) t.length).incF (F.CAN_CNT_COUNT_H n 2))).event (Ev.can n) 5

/-- The oldest datagram in the receive buffer of ETH_p is lost, and counts as one that found it full (R350).
[DESIGN CHOICE, log entry 29] -/
def State.ethLost (s : State) (p : Nat) : State :=
  match s.feedq.find? (fun d => decide (d.port = p)) with
  | none => s
  | some d =>
    ((({ s with feedq := s.feedq.erase d } : State).setFill p ((s.eth p).fill - d.size)).incF (dropCounter p 8)).event (Ev.eth p)
      (dropEvent 8)

/-- The frames and datagrams in a network-buffer tile are lost (R433): `l` says whose, 0 to 3 the oldest frame in the receive FIFO of
CAN_n, 4 and 5 the oldest datagram of ETH_0 and ETH_1. They count as that protocol counts what it loses at its buffers.
[DESIGN CHOICE, log entry 29] -/
def State.buffersLost (s : State) (l : List Nat) : State :=
  s.each l (fun s n => if n < 4 then s.canLost n else if n < 6 then s.ethLost (n - 4) else s)

/-- The instances homed in a cluster, of which SAFETY ones have another copy. -/
def State.homedIn (s : State) (c : Nat) : List Nat :=
  (List.range s.img.nodes.length).filter (fun i => decide (s.clusterOf i false = c) || decide (s.clusterOf i true = c) &&
    decide ((s.node i).cls = 0))

/-- A map tile is requested again at once, and its entry is marked UNKNOWN at the next T16 slot start (R141); until then lookups
read it as UNKNOWN (R92). Its slot takes no tile any more where no spare tile is left. [DESIGN CHOICE, log entry 29] -/
def State.mapTileLost (s : State) (slot : Nat) (gone : Bool) : State :=
  let s0 : State := s.when gone (fun s => { s with map := { s.map with removed := s.map.removed ++ [slot] } })
  match s.map.dir.find? (fun e => decide (e.slot = slot)) with
  | none => s0
  | some e =>
    ({ s0 with map := { s0.map with lost := s0.map.lost ++ [e.key], unread := s0.map.unread ++ [e.key] } } : State).tileReq [e.key]

/-- The repair of a lasting verify failure by region (R433). [DESIGN CHOICE, log entry 29] -/
def State.repairTile (s : State) (tile : Nat) (homed : List Nat) : State :=
  let r := regionOf tile
  let b := tile / 16
  if s.sys.spares.contains b then
    match r with
    | 0 => (s.restoreState (homed ++ s.homedIn (b / 3))).retireCluster (b / 3)
    | 1 => (s.mapTileLost (tile - 384) true).discard (homed.filter (fun i => decide ((s.inst i).sample = .due)))
    | _ => s.raise Src.regionLost
  else
    let s1 := s.useSpare tile
    match r with
    | 0 => s1.restoreState homed
    | 1 => (s1.mapTileLost (tile - 384) false).discard (homed.filter (fun i => decide ((s1.inst i).sample = .due)))
    | 2 | 3 => (s1.copyPartner tile).repeatStep (decide (r = 3))
    | 4 => (s1.clearTile tile).buffersLost homed
    | 5 => (s1.clearTile tile).marker 5 5 0
    | _ => s1

/-- HOB_LAST_EVENT at a verify retry (R101): the copy that read the tile, in execution on the hob or staged; free values where no
copy did. [DESIGN CHOICE, log entry 29] -/
def State.verifyEvent (s : State) (tile : Nat) (hob : Option Nat) : State :=
  let staged := fun (i : Nat) (b : Bool) (x : Option Staged) => match x with
    | some w => if some w.hob = hob ∧ w.tiles.contains tile = true then [(b, w.hob, i)] else []
    | none => []
  let readers := ((s.gr.exec.filter (fun e => decide (some e.hob = hob))).map (fun e => (e.copyB, e.hob, e.inst))) ++
    (List.range s.img.nodes.length).flatMap (fun i => staged i false (s.inst i).a ++ staged i true (s.inst i).b)
  match readers.head? with
  | some r => s.lastEvent 3 r.1 r.2.1 r.2.2
  | none =>
    let f := s.fresh
    f.2.lastEvent 3 (bit f.1.toNat 31) (hob.getD (f.1.toNat / 8192)) f.1.toNat

/-- TILE_VERIFY: a verifier finishes a tile at its first read in the tick; `pass2` is the verdict of the re-read, `hob` the
hob whose read asked for it, `homed` the instances whose state the tile holds, or that read it as a map tile.
[DESIGN CHOICE, log entry 29] -/
def State.tileVerify (s : State) (tile : Nat) (pass1 pass2 : Bool) (hob : Option Nat) (homed : List Nat) : State :=
  if !s.running || decide (2048 ≤ tile) || s.gr.verified.contains tile then s
  else
    let r := regionOf tile
    let s1 := ({ s with gr := { s.gr with verified := s.gr.verified ++ [tile] } } : State).incF F.FLT_VERIFY_CNT_COUNT
    if pass1 then s1
    else
      let s2 := (((s1.incF F.FLT_VERIFY_RETRY_CNT_COUNT).incF F.HOB_RETRY_CNT_COUNT).setFlag F.HOB_STATUS_RETRY_SEEN
        true).countRetry
      let s3 := s2.verifyEvent tile hob
      if pass2 then (s3.transient).raise (Src.tileCorrected r)
      else ((s3.lasting.repairTile tile homed).raise (Src.tileLasting r)).firstFatal s3 [Src.tileLasting r]

end Sys2Proof.Machine
end

