-- ==== Sys2Proof/Machine/Ageing.lean ====
section
/-!
DEFINITION. Ageing and the rolling self-test (R510 to R525): ROLLING_TEST_START, ROLLING_TEST_END, CLOCK_MARGIN_MEASURE,
TRIM_SETTLE, SHUNT_DRIFT_MEASURE, FET_MEASURE, CRYSTAL_DRIFT_MEASURE, and the margins that LOAD and SELF-TEST set.
-/
namespace Sys2Proof.Machine

open Sys2Proof

/-! Rolling self-test (R510 to R512, R528) -/

/-- The hob whose test is due in cycle C (R510). [DEDUCED, log entry 45] -/
def rollHob (c : Nat) : Option Nat :=
  if c % 500 = 0 then some (c / 500 % 32) else if c % 500 = 250 then some (32 + c / 500 % 32) else none

/-- ROLLING_TEST_START: the chosen hob enters its test, once it has finished its instance; one that takes no work is passed
over. [DEDUCED, log entry 45] -/
def State.rollStart (s : State) : State :=
  match rollHob s.flu.cycle with
  | none => s
  | some n =>
    if !s.running || !s.mode.runs || !s.flag F.BST_CFG_ROLL_EN || s.flag (F.SYS_HALF_ROLLING_BIST (n / 32)) ||
        !bit (s.getF (F.SYS_CLUSTER_HOB_IN_SERVICE (n / 8))) (n % 8) || s.age.rollDue.contains n then s
    else if s.getF (F.HOB_ENGINE_STATE n) = 1 then { s with age := { s.age with rollDue := s.age.rollDue ++ [n] } }
    else s.rollEnter n

/-- The meaning of ROLLING_TEST_START (R510). -/
def execRollingTestStart (s : State) : Host.Outcome State Fault Refusal := .next s.rollStart

/-- HOB_n has passed a rolling test since reset (R528). -/
def State.rollTested (s : State) (n : Nat) : State :=
  let f := if n < 32 then F.BST_ROLL_TESTED else F.AGE_STATUS_SOUTH_TESTED
  s.setF f (s.getF f ||| 2 ^ (n % 32))

/-- Hobs of a cluster that failed lasting (R511). -/
def State.hobsLost (s : State) (c : Nat) : Nat :=
  ((List.range' (8 * c) 8).filter (fun n => decide (s.getF (F.HOB_ENGINE_STATE n) = 3))).length

/-- A hob failed its test twice (R511). -/
def State.rollLasting (s : State) (n : Nat) : State :=
  let s1 := (s.hobOut n 3).refreshQueues
  let s2 := ((s1.incF F.BST_ROLL_LASTING_CNT_COUNT).event Ev.bst 1).raise Src.rollingBist
  s2.when (decide (2 ≤ s2.hobsLost (n / 8))) (fun s => s.retireCluster (n / 8))

/-- ROLLING_TEST_END: the test of half h ends; `pass2` is the verdict of the repeat that a failure brings.
[DEDUCED, log entry 45] -/
def State.rollEnd (s : State) (h : Nat) (pass1 pass2 : Bool) : State :=
  if !s.running || decide (2 ≤ h) || !s.flag (F.SYS_HALF_ROLLING_BIST h) then s
  else
    let n := s.getF (F.SYS_HALF_ROLLING_HOB h)
    let res := if pass1 then 1 else if pass2 then 2 else 3
    let s1 := ((s.incF F.BST_ROLL_CNT_COUNT).setF F.BST_ROLL_LAST_HOB n).setF F.BST_ROLL_LAST_RESULT res
    if pass1 || pass2 then
      ((s1.rollLeave h).rollTested n).when (!pass1) (fun s => (s.incF F.BST_ROLL_TRANSIENT_CNT_COUNT).event Ev.bst 0)
    else (s1.setFlag (F.SYS_HALF_ROLLING_BIST h) false).rollLasting n

/-- The meaning of ROLLING_TEST_END (R511). -/
def execRollingTestEnd (half : Nat) (pass1 pass2 : Bool) (s : State) : Host.Outcome State Fault Refusal :=
  .next (s.rollEnd half pass1 pass2)

/-! Margins (R515, R520) -/

/-- Setting a budget; one below LOW raises MARGIN_LOW (R520, R530). -/
def State.setBudget (s : State) (m b : Nat) : State := s.setBudgetBy (fun s => s.raise Src.marginLow) m b

/-- d of a ring oscillator in 0.01 % from its baseline in kHz and its frequency in 0.1 MHz (R515). [DEDUCED, log entry 44] -/
def roD (base f : Nat) : Int := ((base : Int) - 100 * f) * 10000 / base

/-- A measurement of the 32 ring oscillators in 0.1 MHz (R515, R530). -/
def State.roTake (s : State) (ro : List Nat) : State :=
  let s1 := s.each (List.range 32) (fun s r =>
    let f := ro.getD r 0
    (s.setF (F.AGE_RO_MHZ r) f).setF (F.AGE_RO_D r) (ofInt 16 (roD (s.otp.baseRo.getD r 0) f)))
  match worst ((List.range 32).map s1.roDev) with
  | some (d, r) => (s1.setValue 0 d).setF (F.AGE_BASE_BASE 0) (s1.otp.baseRo.getD r 0)
  | none => s1

/-- The trim of a half in steps of 10 mV. -/
def State.trim (s : State) (h : Nat) : Int := toInt 8 (s.getF (F.SYS_HALF_CORE_TRIM h))

/-- The effective degradation of a half in 0.01 % (R517). [DEDUCED, log entry 44] -/
def State.effD (s : State) (h : Nat) : Int := s.halfD h - 120 * s.trim h

/-- Setting a half's trim; PWR_CORE reports its voltage (R517). -/
def State.setTrim (s : State) (h : Nat) (t : Int) : State :=
  (s.setF (F.SYS_HALF_CORE_TRIM h) (ofInt 8 t)).setF (if h = 0 then F.PWR_CORE_CORE_N else F.PWR_CORE_CORE_S) (800 + 10 * t).toNat

/-- The hob clock of a step in kHz. -/
def stepKHz (step : Nat) : Nat := match step with | 0 => 500000 | 1 => 475000 | _ => 450000

/-- Setting the hob clock step of both halves (R456, R517). -/
def State.setStep (s : State) (step : Nat) : State :=
  ((s.each [0, 1] (fun s h => (s.setF (F.SYS_HALF_HOB_CLK_STEP h) step).setF (F.CLK_OUT_STAT_NOMINAL h) (stepKHz step))).setF
    F.CLK_HOB_STEP_N step).setF F.CLK_HOB_STEP_S step

/-! Emergency derate (R521, R522) -/

/-- The degradation a hob clock step allows in 0.01 %. -/
def stepAllows (step : Nat) : Int := match step with | 0 => 200 | 1 => 700 | _ => 1200

/-- What every derate does besides its step. [DEDUCED, log entry 44] -/
def State.derated (s : State) : State :=
  let s1 := ((s.incF F.AGE_DERATE_CNT_COUNT).event Ev.age 1).raise Src.emergencyDerate
  s1.ashRequest 6 0 (s1.marginBody false true)

/-- EXHAUSTED (R517, R521). -/
def State.exhaust (s : State) : State :=
  if s.flag F.AGE_PLAN_EXHAUSTED then s else (s.setFlag F.AGE_PLAN_EXHAUSTED true).event Ev.age 2

/-- One trim step in half h. -/
def State.derateTrim (s : State) (h : Nat) : State :=
  let s1 := (s.setTrim h (s.trim h + 1)).incF F.AGE_DERATE_TRIM_STEPS
  ({ s1 with age := { s1.age with settling := true } } : State).derated

/-- One clock step down for both halves; at 450 MHz the device is exhausted. -/
def State.derateClock (s : State) : State :=
  let step := s.getF (F.SYS_HALF_HOB_CLK_STEP 0)
  if 2 ≤ step then s.exhaust
  else ((((s.setStep (step + 1)).incF F.AGE_DERATE_CLK_STEPS).incF F.CLK_STEP_CNT_COUNT).event Ev.clk 5).derated

/-- CLOCK_MARGIN_MEASURE: the ring oscillators are measured, and a half whose e exceeds the allowance of the step derates; the
monitors report nothing while a trim step settles. [DEDUCED, log entry 44] -/
def State.clockMargin (s : State) (ro : List Nat) : State :=
  if !s.running || !s.mode.runs || s.age.settling then s
  else if s.flag F.AGE_PLAN_EXHAUSTED then s.roTake ro
  else
    let s1 := s.roTake ro
    let worn := [0, 1].filter (fun h => decide (stepAllows (s.getF (F.SYS_HALF_HOB_CLK_STEP 0)) < s1.effD h))
    let s2 := s1.each (worn.filter (fun h => decide (s1.trim h < 6))) State.derateTrim
    s2.when (worn.any (fun h => decide (6 ≤ s1.trim h))) State.derateClock

/-- The meaning of CLOCK_MARGIN_MEASURE (R521). -/
def execClockMarginMeasure (ro : List Nat) (s : State) : Host.Outcome State Fault Refusal := .next (s.clockMargin ro)

/-- The meaning of TRIM_SETTLE (R522). -/
def execTrimSettle (s : State) : Host.Outcome State Fault Refusal :=
  .next (if s.running then { s with age := { s.age with settling := false } } else s)

/-! Board margins in operation (R515, R516) -/

/-- The board baseline of unit k: 0 to 17 TON, 18 to 26 droop, 27 to 29 shunt. -/
def State.boardBase (s : State) (k : Nat) : Nat := (s.otp.baseBoard.getD []).getD k 0

/-- A board margin from its rises and the first unit's place: value, and baseline of the worst unit; 0 before the baselines exist
(R516, R530). -/
def State.boardMargin (s : State) (m first : Nat) (rises : List Int) : State :=
  if s.otp.baseBoard.isNone then s
  else
    match worst rises with
    | some (v, i) => (s.setValue m v).setF (F.AGE_BASE_BASE m) (s.boardBase (first + i))
    | none => s

/-- Absolute changes of the three shunt codes against the baselines. -/
def State.shuntRises (s : State) (codes : List Nat) : List Int :=
  (List.range 3).map (fun b => (((codes.getD b 0 : Int) - s.boardBase (27 + b)).natAbs : Int))

/-- SHUNT_DRIFT_MEASURE: the mean codes in OFF are the offsets; no bridge in OFF, no measurement. [DEDUCED, log entry 44] -/
def State.shuntDrift (s : State) : State :=
  if s.running && (List.range 3).any (fun b => decide (s.getF (F.MOT_STATUS_STATE b) = 0)) && s.otp.baseBoard.isSome then
    let s1 := s.boardMargin 4 27 (s.shuntRises ((List.range 3).map (fun b => s.getF (F.MOT_ZERO_CODE_CODE b))))
    s1.setBudget 4 (s1.budget 4)
  else s

/-- The meaning of SHUNT_DRIFT_MEASURE (R515). -/
def execShuntDriftMeasure (s : State) : Host.Outcome State Fault Refusal := .next s.shuntDrift

/-- The rise of a resistance over its baseline in %, 0 without a baseline. -/
def fetRise (base r : Nat) : Nat := (r - base) * 100 / base

/-- R_DS(on) in µΩ from the sensed VDS in µV and the sampled input of the shunt channel in µV (R515): taken where the current lies
between half and the whole of the amplifier's range, ±1.500 V at the converter at every GAIN (R554), and carries no over-range flag;
none where no current in A can be told, with a SHUNT_SCALE that gives zero or no number. [DEDUCED, log entry 44] -/
def State.rdsOn (s : State) (b : Nat) (x : Nat × Int) : Option Nat :=
  let n := ((adcCode x.2 : Int) - 8192).natAbs
  let amps := s.shuntAmps b (adcCode x.2)
  if outOfRange x.2 || decide (n < 4096) || decide (8192 < n) || fIsNaN amps || fIsInf amps || fIsZero amps then none
  else some (x.1 * 2 ^ (-(fE amps)).toNat / (fSig amps * 2 ^ (fE amps).toNat))

/-- Margin 5 from the R_DS(on) of the low sides of bridge b in µΩ where one was taken; the latest rises are Kept. -/
def State.fetTake (s : State) (b : Nat) (rds : List (Option Nat)) : State :=
  let taken := (List.range 3).filterMap (fun p => (rds.getD p none).map (fun r => (3 * b + p, r)))
  let first := taken.foldl (fun l x => if l.getD x.1 0 = 0 then l.set x.1 x.2 else l) s.ember.fetFirst
  let s1 : State := { s with ember := { s.ember with fetFirst := first } }
  let rises := taken.map (fun x => (x.1, fetRise (s.otp.baseFet.getD x.1 0) x.2))
  if taken.all (fun x => decide (s.otp.baseFet.getD x.1 0 = 0)) then s1
  else
    let top := rises.foldl (fun a x => max a x.2) 0
    let on := s.ember.vdsOn.set b top
    let unit := (rises.find? (fun x => decide (x.2 = top))).map (fun x => x.1)
    let s2 : State := { s1 with ember := { s1.ember with vdsOn := on } }
    let v := on.foldl max 0
    let s3 := (s2.setValue 5 v).when (decide (on.getD b 0 = v)) (fun s =>
      s.setF (F.AGE_BASE_BASE 5) (s.otp.baseFet.getD (unit.getD 0) 0))
    s3.setBudget 5 (s3.budget 5)

/-- FET_MEASURE: bridge b in RUN, of each low side the sensed VDS and the sampled phase current, where both were sampled. -/
def State.fetMeasure (s : State) (b : Nat) (fets : List (Option (Nat × Int))) : State :=
  let rds := (List.range 3).map (fun p => (fets.getD p none).bind (s.rdsOn b))
  if !s.running || decide (3 ≤ b) || decide (s.getF (F.MOT_STATUS_STATE b) ≠ 1) || rds.all (fun r => r.isNone) then s
  else s.fetTake b rds

/-- The meaning of FET_MEASURE (R515). -/
def execFetMeasure (bridge : Nat) (fets : List (Option (Nat × Int))) (s : State) : Host.Outcome State Fault Refusal :=
  .next (s.fetMeasure bridge fets)

/-- AGE_BASE_m as LOAD finds the baselines in OTP: of the first unit, since every rise is 0 until it is measured; of margin 5 the
bridge with the largest Kept rise (R530). [DEDUCED, log entry 44] -/
def State.ageBases (s : State) : State :=
  let on := s.ember.vdsOn
  let b := ((List.range 3).find? (fun b => decide (on.getD b 0 = on.foldl max 0))).getD 0
  s.each [(0, s.otp.baseRo.getD 0 0), (2, s.boardBase 0), (3, s.boardBase 18), (4, s.boardBase 27), (5, s.otp.baseFet.getD (3 * b) 0)]
    (fun s x => s.setF (F.AGE_BASE_BASE x.1) x.2)

/-- CRYSTAL_DRIFT_MEASURE: CLK_DRIFT over 16 PPS seconds in 0.01 ppm, its magnitude in 0.1 ppm as margin 6 (R472, R515). -/
def State.crystalDrift (s : State) (dev : Int) : State :=
  if s.running && s.ppsRuns then
    let v := dev.natAbs / 10
    let s1 := ({ s with ember := { s.ember with crystal := w32 v } } : State).setReg F.CLK_DRIFT_DEV.addr (BitVec.ofInt 32 dev)
    let s2 := s1.setValue 6 v
    s2.setBudget 6 (s2.budget 6)
  else s

/-- The meaning of CRYSTAL_DRIFT_MEASURE (R515). -/
def execCrystalDriftMeasure (dev : Int) (s : State) : Host.Outcome State Fault Refusal := .next (s.crystalDrift dev)

end Sys2Proof.Machine
end

