-- ==== Sys2Proof/Machine/Ash.lean ====
section
/-!
DEFINITION. The Ash record in the external MRAM (R473 to R481): records as bytes, the append of ASH_APPEND, and how records
are followed.
-/
namespace Sys2Proof.Machine

open Sys2Proof

/-! Records (R475) -/

/-- The 32-byte header of a record with its HCRC. -/
def ashHeader (r : AshReq) (seq : Nat) : List Byte :=
  let h := [0x41, 0x52] ++ leBytes 1 r.type ++ leBytes 1 r.flags ++ leBytes 4 r.body.length ++ leBytes 4 seq ++ leBytes 8 r.tick ++
    leBytes 8 r.time
  h ++ leBytes 4 (crc32c h)

/-- A record as written: header, body, BCRC and COMMIT. -/
def ashRecord (r : AshReq) (seq commit : Nat) : List Byte :=
  ashHeader r seq ++ r.body ++ leBytes 4 (crc32c r.body) ++ leBytes 4 commit

/-- COMMIT of a committed record (R476). -/
def ashCommit (seq : Nat) : Nat := (seq % 2 ^ 32) ^^^ 0xFFFFFFFF

/-- Bytes of a record on the MRAM. -/
def AshReq.size (r : AshReq) : Nat := 40 + r.body.length

/-- `n` MRAM bytes from address `a`. -/
def State.mramRead (s : State) (a n : Nat) : List Byte := Mem.read 0 s.mram a n

/-- Writing the MRAM. -/
def State.mramWrite (s : State) (a : Nat) (bs : List Byte) : State := { s with mram := Mem.write 0 s.mram a bs }

/-- Whether MAGIC and HCRC of a header are right. -/
def ashHeaderOk (h : List Byte) : Bool :=
  decide (h.take 2 = [0x41, 0x52]) && decide (ofLe ((h.drop 28).take 4) = crc32c (h.take 28))

/-- A record that counts (R476) at address `a` of an MRAM of `size` bytes: TYPE, FLAGS, LEN and SEQ. -/
def State.ashAt (s : State) (size a : Nat) : Option (Nat × Nat × Nat × Nat) :=
  let h := s.mramRead a 32
  let len := ofLe ((h.drop 4).take 4)
  let seq := ofLe ((h.drop 8).take 4)
  if ashHeaderOk h = false ∨ size < a + 40 + len then none
  else
    let body := s.mramRead (a + 32) len
    let t := s.mramRead (a + 32 + len) 8
    if ofLe (t.take 4) = crc32c body ∧ ofLe (t.drop 4) = ashCommit seq then
      some (ofLe ((h.drop 2).take 1), ofLe ((h.drop 3).take 1), len, seq)
    else none

/-- Following records forward for as long as each counts and carries the next SEQ (R477): the address past the last one and
its SEQ. The fuel bounds the number of records. -/
def State.ashFollow (s : State) (size : Nat) : Nat → Nat → Nat → Nat × Nat
  | 0, a, seq => (a, seq)
  | n + 1, a, seq =>
    match s.ashAt size a with
    | some r => if r.2.2.2 = seq + 1 then s.ashFollow size n (a + 40 + r.2.2.1) (seq + 1) else (a, seq)
    | none => (a, seq)

/-- The WINDOW records that count, with their addresses, from address `a` on; an uncommitted record is passed over. -/
def State.ashWindows (s : State) (size : Nat) : Nat → Nat → List (Nat × Nat)
  | 0, _ => []
  | n + 1, a =>
    let h := s.mramRead a 32
    let next := a + 40 + ofLe ((h.drop 4).take 4)
    if ashHeaderOk h = false ∨ size < next then []
    else
      match s.ashAt size a with
      | some r => if r.1 = 4 then (r.2.2.2, a) :: s.ashWindows size n next else s.ashWindows size n next
      | none => s.ashWindows size n next

/-- The valid tail ring slot with the highest SEQ: SEQ, ADDR and its number (R474, R477). -/
def State.ashTailSlot (s : State) : Option (Nat × Nat × Nat) :=
  (List.range 240).foldl (fun best i =>
    let b := s.mramRead (0x100 + 16 * i) 16
    let seq := ofLe (b.take 4)
    let addr := ofLe ((b.drop 4).take 4)
    if ofLe (b.drop 12) = crc32c (b.take 12) ∧ seq % 240 = i ∧ 0x1000 ≤ addr then
      (match best with
       | some x => if x.1 < seq then some (seq, addr, i) else best
       | none => some (seq, addr, i))
    else best) none

/-! Append (R476 to R479) -/

/-- The highest address a record of a type may reach (R474, R479). -/
def ashLimit (size type : Nat) : Nat := if type = 3 then size else if type = 4 then size - 65536 else size - 4096

/-- Whether a record of `n` bytes fits at the tail. [DESIGN CHOICE, log entry 16] -/
def State.ashFits (s : State) (r : AshReq) : Bool :=
  decide (s.getF F.ASH_TAIL_ADDR + r.size ≤ ashLimit (s.getF F.ASH_SIZE_BYTES) r.type)

/-- ASH_TAIL, and ASH_FREE and RESERVE_ONLY that follow from it (R499); the shortest record has 48 bytes. -/
def State.setTail (s : State) (a : Nat) : State :=
  let free := s.getF F.ASH_SIZE_BYTES - 65536 - a
  ((s.setF F.ASH_TAIL_ADDR a).setF F.ASH_FREE_BYTES free).setFlag F.ASH_STATUS_RESERVE_ONLY (decide (free < 48))

/-- The frozen window is committed or dropped: the journal may restart at the next boundary (R489).
[DESIGN CHOICE, log entry 16] -/
def State.windowDone (s : State) : State :=
  ((({ s with jrn := { s.jrn with trig := none, post := none, merged := [] } } : State).setFlag F.JRN_STATUS_FROZEN
    false).setFlag F.JRN_STATUS_COMMIT_WAIT false).setFlag F.FLT_REACT_FREEZE false

/-- A record that is not appended: a window gives its place up, a life-cycle change is refused (R479).
[DESIGN CHOICE, log entry 16] -/
def State.ashGone (s : State) (r : AshReq) : State :=
  let s1 := s.when (decide (r.type = 4)) State.windowDone
  if r.type = 3 then (({ s1 with ash := { s1.ash with lcTarget := none } } : State)).setFlag F.IMG_STATUS_LC_REFUSED true else s1

/-- ASH_WRITE, raised once while no MRAM answers or the port is stopped (R479). [DESIGN CHOICE, log entry 16] -/
def State.ashFail (s : State) : State :=
  if s.ash.failRaised then s
  else ((({ s with ash := { s.ash with failRaised := true } } : State).event Ev.ash 2).raise Src.ashWrite)

/-- What follows from a committed record at address `a` (R476 phase 3, R480, R490, R499, R500). -/
def State.ashCommitted (s : State) (r : AshReq) (a seq us : Nat) : State :=
  let slot := seq % 240
  let entry := leBytes 4 seq ++ leBytes 4 (a + r.size) ++ [0, 0, 0, 0]
  let s1 := (s.mramWrite (0x100 + 16 * slot) (entry ++ leBytes 4 (crc32c entry))).setTail (a + r.size)
  let s2 := (((s1.setF F.ASH_SEQ_SEQ seq).setF F.ASH_TAIL_SLOT_SLOT slot).incF F.ASH_RECORD_CNT_COUNT).incF
    (F.ASH_TYPE_CNT_COUNT (r.type - 1))
  let s3 := (s2.pushLog F.ASH_HIST_TYPE 5).setReg (F.ASH_HIST_TYPE 0).addr (w32 (r.type * 2 ^ 24 + a % 2 ^ 24))
  if r.type = 4 then
    let trigs := s3.jrn.merged.map (fun t => (⟨5, 0, triggerBody t seq, s3.sys.tick, s3.flu.time⟩ : AshReq))
    let s4 := ((((s3.setF F.ASH_LAST_WINDOW_ADDR a).setF F.ASH_LAST_WINDOW_SEQ_SEQ seq).setF F.ASH_COMMIT_TIME_US
      (min us 65535)).incF F.ASH_WINDOW_CNT_COUNT).when (decide (r.flags % 2 = 1)) (fun s => s.incF F.ASH_PF_CNT_COUNT)
    ({ s4 with ash := { s4.ash with queue := s4.ash.queue ++ trigs } } : State).windowDone
  else if r.type = 3 then { s3 with ash := { s3.ash with lcDone := true } }
  else s3

/-- Life-cycle state RETIRED (R28). -/
def State.retired (s : State) : Bool := decide (s.otp.lifecycle = 4)

/-- ASH_APPEND: the request at the head of the queue is appended (R476, R481); `ok1` and `ok2` are the read-backs of the first
writing and of its repeat, `us` the duration. A first writing of which comparators 18 and 21 withheld a write counts as one whose
read-back failed (R429, R430). [DESIGN CHOICE, log entries 16 and 29] -/
def State.ashAppend (s : State) (ok1 ok2 : Bool) (us : Nat) : State :=
  match s.ash.queue with
  | [] => s
  | r :: rest =>
    if s.sys.phase ≠ .run ∧ s.sys.phase ≠ .holdup then s
    else
      let s0 : State := { s with ash := { s.ash with queue := rest, withhold := false } }
      if s.retired || s.flag F.ASH_STATUS_FOREIGN then s0.ashGone r
      else if !s.flag F.ASH_STATUS_PRESENT || s.flag F.ASH_STATUS_STOPPED then s0.ashFail.ashGone r
      else
        let full := fun (s : State) =>
          (s.when (decide (r.type ≠ 3)) (fun s => ((s.incF F.ASH_DROP_CNT_COUNT).event Ev.ash 4).raise Src.ashFull)).ashGone r
        let a := s.getF F.ASH_TAIL_ADDR
        let seq := (s.getF F.ASH_SEQ_SEQ + 1) % 2 ^ 32
        if !s.ashFits r then full s0
        else if ok1 && !s.ash.withhold then (s0.mramWrite a (ashRecord r seq (ashCommit seq))).ashCommitted r a seq us
        else
          let s1 := (((s0.mramWrite a (ashRecord r seq 0)).setTail (a + r.size)).incF F.ASH_RETRY_CNT_COUNT).event Ev.ash 3
          let b := a + r.size
          if !s1.ashFits r then full s1
          else if ok2 then (s1.mramWrite b (ashRecord r seq (ashCommit seq))).ashCommitted r b seq us
          else (((s1.mramWrite b (ashRecord r seq 0)).setFlag F.ASH_STATUS_STOPPED true).ashFail).ashGone r

/-- The meaning of ASH_APPEND (R476). -/
def execAshAppend (ok1 ok2 : Bool) (us : Nat) (s : State) : Host.Outcome State Fault Refusal :=
  .next (s.ashAppend ok1 ok2 us)

/-- The record in progress stays torn (R476): it is written without its COMMIT and the tail stays.
[DESIGN CHOICE, log entry 16] -/
def State.ashTear (s : State) : State :=
  match s.ash.queue with
  | [] => s
  | r :: _ =>
    if s.flag F.ASH_STATUS_PRESENT && !s.retired && !s.flag F.ASH_STATUS_FOREIGN && !s.flag F.ASH_STATUS_STOPPED && s.ashFits r
    then s.mramWrite (s.getF F.ASH_TAIL_ADDR) (ashRecord r ((s.getF F.ASH_SEQ_SEQ + 1) % 2 ^ 32) 0)
    else s

end Sys2Proof.Machine
end

