-- ==== Sys2Proof/Machine/FaultCommands.lean ====
section
/-!
DEFINITION. The collector's commands: FAULT_RAISE, WIRE_FAULT, CLEAR_WAIT_EXPIRY, TRY_COUNT_RESET, FLT_FORCE and
FORCE_PULSE_END.
-/
namespace Sys2Proof.Machine

open Sys2Proof

/-- FAULT_RAISE (R437): a source outside the other commands changes to asserted, for one fabric cycle or until its condition
ends. -/
def State.faultRaise (s : State) (source : Nat) (lasting : Bool) (us : Nat) : State :=
  if !s.running || 256 ≤ source then s
  else if lasting then s.levelTimed source (some us) else s.raiseTimed source (some us)

/-- The meaning of FAULT_RAISE (R437). -/
def execFaultRaise (source : Nat) (lasting : Bool) (us : Nat) (s : State) : Host.Outcome State Fault Refusal :=
  .next (s.faultRaise source lasting us)

/-- WIRE_FAULT (R436): a pair disagrees for more than 2 fabric clocks, or agrees again. Its source is taken as asserted
while the pair disagrees. [DEDUCED, log entry 46] -/
def State.wireFault (s : State) (source : Nat) (disagrees : Bool) : State :=
  if !s.running || 256 ≤ source then s
  else if disagrees then
    if s.flt.wire.contains source then s
    else
      let was := s.asserted source
      let s1 : State := { s with flt := { s.flt with wire := s.flt.wire ++ [source] } }
      let s2 := ((s1.incF F.FLT_WIRE_CNT_COUNT).event Ev.flt 1).raise Src.wireFault
      (s2.when (!was) (fun s => s.doRaise source none)).firstFatal s (if was then [] else [source])
  else
    (({ s with flt := { s.flt with wire := s.flt.wire.filter (fun m => decide (m ≠ source)) } } : State)).settle source

/-- The meaning of WIRE_FAULT (R436). -/
def execWireFault (source : Nat) (disagrees : Bool) (s : State) : Host.Outcome State Fault Refusal :=
  .next (s.wireFault source disagrees)

/-- The meaning of CLEAR_WAIT_EXPIRY (R243). -/
def execClearWaitExpiry (source : Nat) (persists : Bool) (s : State) : Host.Outcome State Fault Refusal :=
  .next (if s.running then s.clearExpiry source persists else s)

/-- The meaning of TRY_COUNT_RESET (R243 item 3). -/
def execTryCountReset (source : Nat) (s : State) : Host.Outcome State Fault Refusal :=
  .next (if s.running then s.tryReset source else s)

/-- Forcing one source (R443): the pair is asserted for the pulse; sticky, ACTIVE, FLT_FORCE_CNT and FORCED_SEEN; no action.
A pulse that runs already is not repeated. -/
def State.forceOne (s : State) (n : Nat) : State :=
  if s.flt.forced.contains n then s
  else
    let s1 : State := { s with flt := { s.flt with forced := s.flt.forced ++ [n] } }
    ((((s1.setF (F.FLT_STICKY_STICKY (n / 32)) (s1.getF (F.FLT_STICKY_STICKY (n / 32)) ||| 2 ^ (n % 32))).setActive n
      true).incF F.FLT_FORCE_CNT_COUNT).setFlag F.FLT_STATUS_FORCED_SEEN true).setFlag F.FLT_STATUS_FORCE_RUNNING true

/-- FLT_FORCE (R443): honoured in SELF-TEST and SERVICE only; elsewhere the write is refused as locked (R8). -/
def State.fltForce (s : State) (w mask : Nat) : State :=
  if !s.running || 8 ≤ w then s
  else if s.mode = .selfTest ∨ s.mode = .service then
    s.each ((List.range 32).filter (fun j => bit mask j)) (fun s j => s.forceOne (32 * w + j))
  else s.lockedWrite (F.FLT_FORCE_FORCE w).addr

/-- The meaning of FLT_FORCE (R443). -/
def execFltForce (w mask : Nat) (s : State) : Host.Outcome State Fault Refusal := .next (s.fltForce w mask)

/-- FORCE_PULSE_END (R443, R444): the source is sampled again; still asserted it is raised as a real fault, else its ACTIVE bit
clears, whatever the class and whatever it holds. -/
def State.forcePulseEnd (s : State) (n : Nat) (real : Bool) : State :=
  if !s.flt.forced.contains n then s
  else
    let rest := s.flt.forced.filter (fun m => decide (m ≠ n))
    let s1 : State := { s with flt := { s.flt with forced := rest } }
    let s2 := s1.setFlag F.FLT_STATUS_FORCE_RUNNING (!rest.isEmpty)
    if real || s2.asserted n then (s2.doRaise n none).settle n
    else s2.setActive n false

/-- The meaning of FORCE_PULSE_END (R443). -/
def execForcePulseEnd (source : Nat) (real : Bool) (s : State) : Host.Outcome State Fault Refusal :=
  .next (s.forcePulseEnd source real)

end Sys2Proof.Machine
end

