-- ==== Sys2Proof/Machine/Journal.lean ====
section
/-!
DEFINITION. The journal (R482 to R503): record and replay sets, entries, checkpoints, the freeze, the power-fail window and
REPLAY. Commands CHECKPOINT, JOURNAL_FREEZE, HOLDUP_CHECK, HOLDUP_RELEASE, VSUP_LOSS, JRN_REPLAY_CMD, REPLAY_ABORT.
-/
namespace Sys2Proof.Machine

open Sys2Proof

/-! Sets (R364, R370, R483) -/

/-- All instances. -/
def State.allInst (s : State) : List Nat := List.range s.img.nodes.length

/-- The intake sources that instances read through an intake signal, ascending. -/
def State.sourcesOf (s : State) (l : List Nat) : List Nat :=
  let used := l.flatMap (fun i => (s.node i).ins.filterMap (fun k =>
    if (s.sigRec k).producer.isNone then some (s.sigRec k).port else none))
  (List.range 256).filter used.contains

/-- The T1 group and the tick-0 group of an intake record (R364). -/
def State.recT1 (s : State) : List Nat := s.sourcesOf (s.allInst.filter (fun i => decide ((s.node i).rate = 0)))
def State.recT0 (s : State) : List Nat :=
  let t1 := s.recT1
  (s.sourcesOf s.allInst).filter (fun n => !t1.contains n)

/-- A member of the replay set (R483). -/
inductive Member where
  | src (n : Nat)
  | sig (k : Nat)
deriving DecidableEq, Repr

/-- The instances whose inputs the replay set holds. -/
def State.readers (s : State) : List Nat :=
  s.allInst.filter (fun i => decide ((s.node i).cls = 0) || s.img.replay.contains i)

/-- Members that instances of a list read: intake sources, then signals of QUALITY or HOUSE producers, each ascending.
[DESIGN CHOICE, log entry 17] -/
def State.membersOf (s : State) (l : List Nat) : List Member :=
  let read := l.flatMap (fun i => (s.node i).ins)
  let sigs := (List.range s.img.sigs.length).filter (fun k => read.contains k && (match (s.sigRec k).producer with
    | some p => decide ((s.node p).cls ≠ 0)
    | none => false))
  (s.sourcesOf l).map .src ++ sigs.map .sig

/-- The T1 group and the tick-0 group of the replay set. -/
def State.setT1 (s : State) : List Member := s.membersOf (s.readers.filter (fun i => decide ((s.node i).rate = 0)))
def State.setT0 (s : State) : List Member :=
  let t1 := s.setT1
  (s.membersOf s.readers).filter (fun m => !t1.contains m)

/-- JOURNAL_TAP instances, ascending. -/
def State.tapInsts (s : State) : List Nat := s.allInst.filter (fun i => decide ((s.node i).ty = 100))

/-- W_J, T and V (R483). -/
def State.setWords (s : State) : Nat := 4 * s.setT1.length + s.setT0.length
def State.tapWords (s : State) : Nat :=
  s.tapInsts.foldl (fun n i => n + (if (s.node i).rate = 0 then 4 else 1) * (s.node i).ins.length) 0
def State.entryWords (s : State) : Nat := s.setWords + s.tapWords

/-- Bytes of an entry (R484), a checkpoint (R486) and the age map of n words. -/
def mapBytes (n : Nat) : Nat := 4 * ceilDiv n 32
def entryBytes (v : Nat) : Nat := 48 + 4 * v + mapBytes v
def ckptBytes (k : Nat) : Nat := 64 + 4 * k + mapBytes k

/-- An age map: bit v is the age flag of value v. -/
def ageMap (l : List Bool) : List Byte := leBytes (mapBytes l.length) (maskOf l)

/-- Words with their age map. -/
def wordsMap (l : List (Word × Bool)) : List Byte := l.flatMap (fun x => leBytes 4 x.1.toNat) ++ ageMap (l.map (fun x => x.2))

/-- Word v of a byte string of n words that is followed by its age map. -/
def wordAt (bs : List Byte) (n v : Nat) : Word × Bool :=
  (w32 (ofLe ((bs.drop (4 * v)).take 4)), bit (ofLe ((bs.drop (4 * n + v / 8)).take 1)) (v % 8))

/-- A carried word (R370): a signal, or a state word. -/
inductive Carry where
  | sig (k : Nat)
  | st (i w : Nat)
deriving DecidableEq, Repr

/-- State words of instances. -/
def State.stateCarries (s : State) (l : List Nat) : List Carry :=
  l.flatMap (fun i => (List.range (s.node i).stateWords).map (.st i))

/-- The carried set (R370), in the order of the carried-word index. -/
def State.carried (s : State) : List Carry :=
  ((List.range s.img.sigs.length).filter (fun k => match (s.sigRec k).producer with
    | some p => decide ((s.node p).cls = 0)
    | none => false)).map .sig ++ s.stateCarries (s.allInst.filter (fun i => decide ((s.node i).cls = 0)))

/-- What a checkpoint holds (R486). -/
def State.ckptSet (s : State) : List Carry := s.carried ++ s.stateCarries s.img.replay

/-- A carried word with its age flag, and writing one. -/
def State.carryVal (s : State) : Carry → Word × Bool
  | .sig k => ((s.sig k).v, (s.sig k).age)
  | .st i w => ((s.inst i).st.getD w 0, false)
def State.carryPut (s : State) (c : Carry) (x : Word × Bool) : State :=
  match c with
  | .sig k => s.setSig k { s.sig k with v := x.1, age := x.2, cv := x.1, cage := x.2 }
  | .st i w => s.setInst i { s.inst i with st := (s.inst i).st.set w x.1 }

/-- What an instance takes from state words written over its own: a scheduled controller's active set and a set that waits in
the inactive bank (SCHED and BANK of R115); the state no longer is that of LOAD. -/
def Node.follow (n : Node) (x : InstRun) : InstRun :=
  if n.ty = 32 ∨ n.ty = 33 then
    let act := (x.st.getD 2 0).toNat / 256 % 16
    let b := (x.st.getD 3 0).toNat
    { x with fresh := false, act := act, bank := schSet n.params act,
             pend := if b / 2 % 2 = 1 then some (b / 4, schSet n.params (b / 4), 0) else none }
  else { x with fresh := false }

/-- The instance of a carried word. [DESIGN CHOICE, log entry 18] -/
def State.carryInst (s : State) : Carry → Nat
  | .sig k => (s.sigRec k).producer.getD 0
  | .st i _ => i

/-! The ring (R482, R484, R486, R487) -/

/-- The ring: tiles 1793 to 2047. -/
def ringBase : Nat := 0x20701000
def ringSize : Nat := 1044480

/-- Writing into and reading from the ring at an offset, wrapping at its end. -/
def State.ringWrite (s : State) (off : Nat) (bs : List Byte) : State :=
  let n := ringSize - off
  { s with tiles := Mem.write 0 (Mem.write 0 s.tiles (ringBase + off) (bs.take n)) ringBase (bs.drop n) }
def State.ringRead (s : State) (off n : Nat) : List Byte :=
  let m := min n (ringSize - off)
  Mem.read 0 s.tiles (ringBase + off) m ++ Mem.read 0 s.tiles ringBase (n - m)

/-- Dropping the oldest items until n bytes fit. [DESIGN CHOICE, log entry 17] -/
def ringEvict (n : Nat) : List JItem → List JItem
  | [] => []
  | x :: t => if ringSize < n + ((x :: t).map (fun y => y.len)).sum then ringEvict n t else x :: t

/-- JRN_OLDEST, JRN_NEWEST and JRN_HEAD. -/
def State.refreshRing (s : State) (head : Nat) : State :=
  let oldest := ((s.jrn.items.find? (fun x => x.ckpt)).map (fun x => x.s)).getD 0
  let newest := ((s.jrn.items.reverse.find? (fun x => !x.ckpt)).map (fun x => x.s)).getD 0
  ((s.setF F.JRN_OLDEST_S (oldest % 2 ^ 32)).setF F.JRN_NEWEST_S (newest % 2 ^ 32)).setF F.JRN_HEAD_OFFSET head

/-- Entering a checkpoint or an entry in the ring. [DESIGN CHOICE, log entry 17] -/
def State.ringPush (s : State) (ckpt : Bool) (sc : Nat) (bs : List Byte) : State :=
  let off := s.getF F.JRN_HEAD_OFFSET % ringSize
  let items := ringEvict bs.length s.jrn.items ++ [⟨ckpt, sc, off, bs.length⟩]
  (({ s with jrn := { s.jrn with items := items } } : State).ringWrite off bs).refreshRing ((off + bs.length) % ringSize)

/-- The checkpoint of sample cycle S (R486). -/
def State.checkpoint (s : State) (sc : Nat) : State :=
  if s.jrn.items.any (fun x => x.ckpt && decide (x.s = sc)) then s
  else
    let ws := s.ckptSet.map s.carryVal
    (s.ringPush true sc (leBytes 4 sc ++ leBytes 4 ws.length ++ List.replicate 56 0 ++ wordsMap ws)).incF F.JRN_CKPT_CNT_COUNT

/-- CHECKPOINT: at a boundary with C mod 64 = 0, ahead of that cycle's entry. -/
def State.checkpointDue (s : State) : State :=
  match s.gr.s with
  | some sc =>
    if s.running ∧ s.flag F.JRN_STATUS_RECORDING = true ∧ s.gr.boundary = true ∧ s.flu.cycle % 64 = 0 then s.checkpoint sc else s
  | none => s

/-- The meaning of CHECKPOINT (R486). -/
def execCheckpoint (s : State) : Host.Outcome State Fault Refusal := .next s.checkpointDue

/-! Entries (R484, R485) -/

/-- n free words with the age flag. -/
def State.freshWords (s : State) : Nat → List (Word × Bool) × State
  | 0 => ([], s)
  | n + 1 =>
    let r := s.fresh.2.freshWords n
    ((s.fresh.1, true) :: r.1, r.2)

/-- The four markers an entry keeps (R485), and how many do not fit. -/
def keepMarkers (l : List Marker) : List Marker × Nat :=
  let p := fun k => l.filter (fun m => decide (m.kind = k))
  let o := p 2 ++ p 1 ++ l.filter (fun m => decide (m.kind ≠ 1) && decide (m.kind ≠ 2))
  (o.take 4, o.length - 4)

/-- A marker's 8 bytes. -/
def Marker.bytes (m : Marker) : List Byte := leBytes 1 m.kind ++ leBytes 1 m.j ++ leBytes 2 m.id ++ leBytes 4 m.data

/-- Tap words of the present cycle (R483). -/
def State.tapValues (s : State) : List (Word × Bool) :=
  s.tapInsts.flatMap (fun i =>
    if (s.node i).rate = 0 then (s.jrn.tapT1.filter (fun x => decide (x.1 = i))).flatMap (fun x => x.2)
    else match s.gr.taps.find? (fun x => decide (x.1 = i)) with
      | some x => x.2
      | none => List.replicate (s.node i).ins.length (0, true))

/-- The entry of the sample cycle that ends (R484); a skipped cycle's values are free. -/
def State.journalEntry (s : State) (sc : Nat) : State :=
  if !s.flag F.JRN_STATUS_RECORDING || s.jrn.post = some 0 then s
  else
    let km := keepMarkers s.jrn.markers
    let vals := s.jrn.values ++ s.jrn.values0 ++ s.tapValues
    let r := if s.gr.skipping then s.freshWords s.entryWords else (vals, s)
    let flags := b2n s.gr.skipping + 2 * b2n (decide (0 < km.2)) + 4 * b2n s.mode.isLead
    let bs := leBytes 4 sc ++ leBytes 1 s.mode.code ++ leBytes 1 flags ++ leBytes 1 km.1.length ++ [0] ++
      leBytes 4 s.gr.digest.toNat ++ [0, 0, 0, 0] ++ km.1.flatMap Marker.bytes ++ List.replicate (32 - 8 * km.1.length) 0 ++
      wordsMap r.1
    let s1 := (r.2.ringPush false sc bs).incF F.JRN_ENTRY_CNT_COUNT
    let gaps := km.1.countP (fun m => decide (m.kind = 5))
    let s2 := ((((s1.addF F.JRN_MARKER_CNT_COUNT km.1.length).addF F.JRN_MARKER_DROP_CNT_COUNT km.2).addF
      F.JRN_RETRY_MARK_CNT_COUNT (km.1.countP (fun m => decide (m.kind = 1)))).addF F.JRN_GAP_CNT_COUNT gaps)
    let s3 := (s2.when (decide (0 < km.2)) (fun s => s.event Ev.jrn 3)).when (decide (0 < gaps)) (fun s => s.event Ev.jrn 2)
    { s3 with jrn := { s3.jrn with post := s3.jrn.post.map (fun n => n - 1) } }

/-- The journal starts or restarts (R482, R489): it records while the graph runs, from a checkpoint on.
[DESIGN CHOICE, log entry 17] -/
def State.journalStart (s : State) : State :=
  match s.gr.s with
  | some sc =>
    if s.mode.runs && s.flag F.JRN_CFG_EN && !s.flag F.JRN_STATUS_RECORDING && !s.flag F.JRN_STATUS_FROZEN &&
        !s.flag F.JRN_STATUS_COMMIT_WAIT && s.jrn.post.isNone then
      (s.setFlag F.JRN_STATUS_RECORDING true).checkpoint sc
    else s
  | none => s

/-! The freeze (R488 to R491) -/

/-- The window header (R491). -/
def State.windowHeader (s : State) (t : Trig) (pf : Bool) (items : List JItem) : List Byte :=
  let v := s.entryWords
  let first := ((items.head?).map (fun x => x.s)).getD 0
  leBytes 1 t.kind ++ leBytes 1 t.source ++ leBytes 2 (b2n pf + 2 * b2n (!s.jrn.merged.isEmpty)) ++ leBytes 2 (entryBytes v) ++
    leBytes 2 v ++ leBytes 4 s.ckptSet.length ++ leBytes 4 (items.countP (fun x => !x.ckpt)) ++ leBytes 8 first ++
    leBytes 8 t.cycle ++ (s.img.digest ++ List.replicate 32 0).take 32

/-- A WINDOW record's body from the items given. -/
def State.windowBody (s : State) (t : Trig) (pf : Bool) (items : List JItem) : List Byte :=
  s.windowHeader t pf items ++ items.flatMap (fun x => s.ringRead x.off x.len)

/-- The journal freezes. -/
def State.freeze (s : State) : State :=
  ((((s.setFlag F.JRN_STATUS_RECORDING false).setFlag F.JRN_STATUS_FROZEN true).setFlag F.JRN_STATUS_COMMIT_WAIT true).incF
    F.JRN_FREEZE_CNT_COUNT).event Ev.jrn 0

/-- The items up to the newest entry. -/
def upToEntry (l : List JItem) : List JItem := (l.reverse.dropWhile (fun x => x.ckpt)).reverse

/-- JOURNAL_FREEZE: the post-trigger entries are recorded, or the graph has stopped; one WINDOW record is requested, from the
oldest checkpoint in the ring to the newest entry. -/
def State.journalFreeze (s : State) : State :=
  if s.running ∧ s.jrn.post = some 0 ∧ s.flag F.JRN_STATUS_FROZEN = false then
    let s1 := s.freeze
    let t := s1.jrn.trig.getD ⟨0, 0, 0⟩
    s1.ashRequest 4 0 (s1.windowBody t false (upToEntry (s1.jrn.items.dropWhile (fun x => !x.ckpt))))
  else s

/-- The meaning of JOURNAL_FREEZE (R489). -/
def execJournalFreeze (s : State) : Host.Outcome State Fault Refusal := .next s.journalFreeze

/-! Hold-up and power failure (R492, R493) -/

/-- E_REQ in µJ, rounded up (R492). [DESIGN CHOICE, log entry 19] -/
def State.holdupReq (s : State) : Nat :=
  1800 + ceilDiv (18 * (4 * s.getF F.JRN_CKPT_P_C + 223 * s.getF F.JRN_ENTRY_P_E + 104)) 1000

/-- E in µJ for V_HOLD in mV (R492). [DESIGN CHOICE, log entry 19] -/
def State.holdupEnergy (s : State) (mv : Nat) : Nat :=
  s.getF F.ASH_HOLDUP_C_UF * (mv * mv - 4500 * 4500) / 2000000

/-- HOLDUP_CHECK: E against E_REQ; HOLDUP_LOW is raised while it is lower. -/
def State.holdupCheck (s : State) (mv : Nat) : State :=
  if s.running then
    let e := s.holdupEnergy mv
    let q := s.holdupReq
    let s1 := (((s.setF F.ASH_HOLDUP_V_VNOW (min mv 65535)).setF F.ASH_HOLDUP_E_UJ (min e (2 ^ 32 - 1))).setF F.ASH_HOLDUP_REQ_UJ
      q).setFlag F.ASH_STATUS_HOLDUP_OK (decide (q ≤ e))
    if e < q then (if s.flt.level.contains Src.holdupLow then s1 else (s1.event Ev.ash 1).raiseLevel Src.holdupLow)
    else s1.clearLevel Src.holdupLow
  else s

/-- The meaning of HOLDUP_CHECK (R492). -/
def execHoldupCheck (mv : Nat) (s : State) : Host.Outcome State Fault Refusal := .next (s.holdupCheck mv)

/-- The items of a power-fail window (R493): from the newest checkpoint whose entries up to the last one are 160 at least, or the
oldest one where none lies that far back, to the last entry. [DESIGN CHOICE, log entries 17 and 17] -/
def pfItems (l : List JItem) : List JItem :=
  let l := upToEntry (l.dropWhile (fun x => !x.ckpt))
  let last := ((l.getLast?).map (fun x => x.s)).getD 0
  match (l.filter (fun x => x.ckpt && decide (x.s + 159 ≤ last))).getLast? with
  | some c => l.dropWhile (fun x => !(x.ckpt && decide (x.s = c.s) && decide (x.off = c.off)))
  | none => l

/-- The domains of the Ash port: its clock comes from PLL_S, its memory from the south fabric (R456, R459).
[DESIGN CHOICE, log entry 16] -/
def ashDoms : List Nat := [1, 2, 4, 6]

/-- The procedure of a trigger of kind 4 (R493), after the journal's share of the DORMANT edge. -/
def State.powerFail (s : State) : State :=
  let t := s.jrn.trig.getD ⟨4, 0, s.flu.cycle⟩
  let s1 := (s.when (!s.flag F.JRN_STATUS_FROZEN) State.freeze).logTrigger 4 0
  let s2 := ((((s1.setF F.JRN_FREEZE_STAT_KIND t.kind).setF F.JRN_FREEZE_STAT_SOURCE t.source).setF F.JRN_TRIG_CYCLE_C
    (t.cycle % 2 ^ 32)).incF F.JRN_PF_CNT_COUNT).event Ev.jrn 1
  let s3 := (s2.setFlag F.ASH_STATUS_PF_ACTIVE true).event Ev.ash 0
  let torn := match s3.ash.queue with
    | r :: _ => s3.when (decide (r.type = 4)) State.ashTear
    | [] => s3
  { torn with ash := { torn.ash with queue := torn.ash.queue.filter (fun r => decide (r.type ≠ 4)) } }

/-- VSUP_LOSS (R58, R493): with VBAT present the device takes the DORMANT edge, and hold-up energy keeps the Ash port alive;
without VBAT the die loses its supply. [DESIGN CHOICE, log entry 19] -/
def State.vsupLoss (s : State) : State :=
  if !s.sys.vsup then s
  else if s.sys.phase = .off then { s with sys := { s.sys with vsup := false } }
  else if !s.ember.vbat || decide (s.sys.phase ≠ .run) then
    let s1 := s.ashTear
    { s1 with sys := { s1.sys with vsup := false, phase := .off },
              ember := { s1.ember with dormantCnt := min (2 ^ 32 - 1) (s1.ember.dormantCnt + b2n s1.ember.vbat) } }
  else
    let waits := s.flag F.JRN_STATUS_RECORDING || s.flag F.JRN_STATUS_COMMIT_WAIT || s.jrn.post.isSome
    let s1 := s.each ashDoms (fun s d => s.domVote d 6)
    let s2 := (s1.when waits State.powerFail).enterMode .dormant 0 0
    let t := s2.jrn.trig.getD ⟨4, 0, s2.flu.cycle⟩
    let s3 := s2.when waits (fun s => s.ashRequest 4 1 (s.windowBody t true (pfItems s.jrn.items)))
    { s3 with sys := { s3.sys with vsup := false, phase := .holdup },
              ember := { s3.ember with dormantCnt := min (2 ^ 32 - 1) (s3.ember.dormantCnt + 1) } }

/-- The meaning of VSUP_LOSS (R58). -/
def execVsupLoss (s : State) : Host.Outcome State Fault Refusal := .next s.vsupLoss

/-- HOLDUP_RELEASE (R493): JOURNAL withdraws its vote and the die loses its supply; a record in progress stays torn.
[DESIGN CHOICE, log entry 19] -/
def State.holdupRelease (s : State) : State :=
  if s.sys.phase = .holdup then
    let s1 := (s.ashTear.each ashDoms (fun s d => s.putVote d 6 false)).setFlag F.ASH_STATUS_PF_ACTIVE false
    { s1 with sys := { s1.sys with phase := .off }, ash := { s1.ash with queue := [] } }
  else s

/-- The meaning of HOLDUP_RELEASE (R493). -/
def execHoldupRelease (s : State) : Host.Outcome State Fault Refusal := .next s.holdupRelease

/-! The cluster pools (R76, R496) -/

/-- Tables an instance references. -/
def Node.tableRefs (n : Node) : List Nat :=
  match n.ty with
  | 27 => [(n.params.getD 0 0).toNat]
  | 28 => [(n.params.getD 0 0).toNat]
  | 37 => [(n.params.getD 4 0).toNat, (n.params.getD 5 0).toNat]
  | 46 => if n.params.getD 0 0 = 0xFFFFFFFF then [] else [(n.params.getD 0 0).toNat]
  | 71 => [(n.params.getD 0 0).toNat]
  | _ => []

/-- Whether an instance has a share in the pool of cluster c. -/
def Node.inPool (n : Node) (c : Nat) : Bool := decide (n.home = c) || (decide (n.cls = 0) && decide (n.home + 4 = c))

/-- An instance's share of a cluster pool, in the order of R76: parameters, committed state, outputs, crossing buffers, gain banks.
[DESIGN CHOICE, log entry 18] -/
def State.shareOf (s : State) (i : Nat) : List Word :=
  let n := s.node i
  let x := s.inst i
  let crossing := n.outs.filter (fun k => s.img.nodes.any (fun m => decide (m.rate ≠ n.rate) && m.ins.contains k))
  let eight := fun (l : List Word) => (l ++ List.replicate 8 0).take 8
  n.params ++ (List.range n.stateWords).map (fun w => x.st.getD w 0) ++ n.outs.map (fun k => (s.sig k).v) ++
    crossing.map (fun k => (s.sig k).cv) ++
    (if (30 ≤ n.ty ∧ n.ty ≤ 34) ∨ n.ty = 38 then eight x.bank ++ eight ((x.pend.map (fun p => p.2.1)).getD []) else [])

/-- The words of cluster c's pool: shares in ascending instance index, then each table referenced with its header.
[DESIGN CHOICE, log entry 18] -/
def State.poolOf (s : State) (c : Nat) : List Word :=
  let l := s.allInst.filter (fun i => (s.node i).inPool c)
  let refs := l.flatMap (fun i => (s.node i).tableRefs)
  l.flatMap s.shareOf ++ (s.img.tables.zipIdx.filter (fun x => refs.contains x.2)).flatMap (fun x =>
    [w32 (x.1.kind + 65536 * x.1.nx), w32 x.1.ny] ++ x.1.words)

/-- The final committed values as they stand in the cluster pools, tiles 6n to 6n + 4 of each hob n of a cluster (R75, R496).
[DESIGN CHOICE, log entry 18] -/
def State.poolWrite (s : State) : State :=
  s.each (List.range 64) (fun s n =>
    let bs := (((s.poolOf (n / 8)).drop (5120 * (n % 8))).take 5120).flatMap (fun w => leBytes 4 w.toNat)
    { s with tiles := Mem.write 0 s.tiles (tileBase + 24576 * n) bs })

/-! REPLAY (R494 to R496) -/

/-- Splitting a window's ring contents into checkpoints and entries: a checkpoint carries K, 56 zero bytes and the sample
cycle of the entry after it. The fuel bounds the number of items. [DESIGN CHOICE, log entry 17] -/
def splitWindow (pe k : Nat) : Nat → List Byte → List (Bool × List Byte)
  | 0, _ => []
  | n + 1, bs =>
    if bs.isEmpty then []
    else
      let pc := ckptBytes k
      let ck := decide (ofLe ((bs.drop 4).take 4) = k) && ((bs.drop 8).take 56).all (fun b => decide (b = 0)) &&
        decide ((bs.drop pc).take 4 = bs.take 4)
      let len := if ck then pc else pe
      (ck, bs.take len) :: splitWindow pe k n (bs.drop len)

/-- Wiping the ring and loading a window into it (R494 step 3). -/
def State.loadRing (s : State) (body : List Byte) : State :=
  let out := fun (c : Host.Cell) => decide (c.1 < ringBase) || decide (ringBase + ringSize ≤ c.1)
  let s1 : State := { s with tiles := s.tiles.filter out, jrn := { s.jrn with items := [] } }
  (s1.ringWrite 0 body).refreshRing (body.length % ringSize)

/-- Placing a checkpoint's words (R494 step 4); every other signal holds INITIAL. [DESIGN CHOICE, log entry 18] -/
def State.placeCheckpoint (s : State) (bs : List Byte) : State :=
  let set := s.ckptSet
  let sigs := s.img.sigs.map (fun g => ({ v := g.initial, pv := g.initial, cv := g.initial } : SigRun))
  let s1 : State := { s with gr := { s.gr with sigs := sigs } }
  let s2 := s1.each set.zipIdx (fun s c => s.carryPut c.1 (wordAt (bs.drop 64) set.length c.2))
  s2.each s2.readers (fun s i => s.setInst i ((s.node i).follow { st := (s.inst i).st, bank := (s.inst i).bank }))

/-- RESULT of JRN_REPLAY_STAT. -/
def State.replayResult (s : State) (r : Nat) : State := s.setF F.JRN_REPLAY_STAT_RESULT r

/-- The window a SEQ selects, 0 for the latest: its address. -/
def State.replayWindow (s : State) (seq : Nat) : Option Nat :=
  let size := s.getF F.ASH_SIZE_BYTES
  let l := s.ashWindows size (size / 40) 0x1000
  if seq = 0 then l.getLast?.map (fun x => x.2) else (l.find? (fun x => decide (x.1 = seq))).map (fun x => x.2)

/-- Starting REPLAY on a window body. -/
def State.replayStart (s : State) (body : List Byte) : State :=
  let f := fun (o n : Nat) => ofLe ((body.drop o).take n)
  let items := splitWindow (f 4 2) (f 8 4) (body.length / 48) (body.drop 64)
  let s1 := s.loadRing (body.drop 64)
  let s2 := (((((s1.setF F.JRN_REPLAY_STAT_INCONCL 0).replayResult 1).setF F.JRN_REPLAY_LEN_COUNT (f 12 4)).setReg
    F.JRN_REPLAY_MATCH_CNT_COUNT.addr 0).setReg F.JRN_REPLAY_MISMATCH_CNT_COUNT.addr 0).incF F.JRN_REPLAY_CNT_COUNT
  let s3 := ((s2.setReg F.JRN_REPLAY_FIRST_S.addr 0).setReg F.JRN_REPLAY_OWN_DIGEST.addr 0).setReg F.JRN_REPLAY_REC_DIGEST.addr 0
  let s4 := (s3.each (List.range 10) (fun s k => s.setReg (F.JRN_REPLAY_MM_VALID k).addr 0)).setFlag F.JRN_STATUS_REPLAYING true
  let s5 := s4.enterMode .replay 3 0
  let s6 : State := { s5 with jrn := { s5.jrn with replay := items.drop 1, cur := [], differed := false, abort := false, first := f 16 8 },
                              gr := { s5.gr with digest := 0, noCommit := [] } }
  match items.head? with
  | some x => s6.placeCheckpoint x.2
  | none => s6

/-- JRN_REPLAY_CMD: writing the key in SERVICE starts REPLAY or is refused (R494). -/
def State.jrnReplayCmd (s : State) (key : Nat) : State :=
  if !s.running then s
  else if s.mode ≠ .service then s.lockedWrite F.JRN_REPLAY_CMD_KEY.addr
  else if key ≠ 0x7E91 then s
  else if !s.flag F.SYS_STATUS_IMG_VALID then s.replayResult 7
  else
    match s.replayWindow (s.getF F.JRN_REPLAY_SEL_SEQ) with
    | none => s.replayResult 6
    | some a =>
      let body := s.mramRead (a + 32) (ofLe (s.mramRead (a + 4) 4))
      if (body.drop 32).take 32 ≠ s.img.digest then s.replayResult 5 else s.replayStart body

/-- The meaning of JRN_REPLAY_CMD (R494). -/
def execJrnReplayCmd (key : Nat) (s : State) : Host.Outcome State Fault Refusal := .next (s.jrnReplayCmd key)

/-- A comparison of REPLAY that differs (R495). -/
def State.replayDiffers (s : State) (ckpt : Bool) (sc own rec : Nat) : State :=
  let n := s.getF F.JRN_REPLAY_MISMATCH_CNT_COUNT
  let s1 := (s.incF F.JRN_REPLAY_MISMATCH_CNT_COUNT).event Ev.jrn 5
  let s2 := s1.when (decide (n < 10)) (fun s =>
    s.setReg (F.JRN_REPLAY_MM_VALID n).addr (w32 (2 ^ 31 + b2n ckpt * 2 ^ 30 + sc % 2 ^ 30)))
  if s.jrn.differed then s2
  else
    let s3 : State := { s2 with jrn := { s2.jrn with differed := true } }
    ((s3.setF F.JRN_REPLAY_FIRST_S (sc % 2 ^ 32)).setF F.JRN_REPLAY_OWN_DIGEST own).setF F.JRN_REPLAY_REC_DIGEST rec

/-- The comparison of the own digest with that of the entry executed (R495). -/
def State.replayCompare (s : State) (sc : Nat) : State :=
  if s.jrn.cur.isEmpty then s
  else
    let rec' := ofLe ((s.jrn.cur.drop 8).take 4)
    let own := s.gr.digest.toNat
    let s1 := if own = rec' then s.incF F.JRN_REPLAY_MATCH_CNT_COUNT
      else if bit (ofLe ((s.jrn.cur.drop 5).take 1)) 1 then
        (s.setF F.JRN_REPLAY_STAT_INCONCL (min 65535 (s.getF F.JRN_REPLAY_STAT_INCONCL + 1))).event Ev.jrn 6
      else s.replayDiffers false sc own rec'
    { s1 with jrn := { s1.jrn with cur := [] } }

/-- The comparison of the carried set with a later checkpoint (R495); a checkpoint carries no digest, so the digests shown at a
first difference are free. [DESIGN CHOICE, log entry 18] -/
def State.replayCheckpoint (s : State) (bs : List Byte) : State :=
  let n := s.ckptSet.length
  let same := s.carried.zipIdx.all (fun c => decide (s.carryVal c.1 = wordAt (bs.drop 64) n c.2))
  if same then s.incF F.JRN_REPLAY_MATCH_CNT_COUNT
  else s.fresh.2.fresh.2.replayDiffers true (ofLe (bs.take 4)) s.fresh.1.toNat s.fresh.2.fresh.1.toNat

/-- The end of REPLAY (R496): SERVICE with its result, the values in the cluster pools. The window's end is a condition of R58, the
abort a service command (R480). -/
def State.replayEnd (s : State) (r : Nat) : State :=
  let s1 := (s.poolWrite.replayResult r).setFlag F.JRN_STATUS_REPLAYING false
  (({ s1 with jrn := { s1.jrn with replay := [], cur := [], abort := false } } : State)).enterMode .service (if r = 4 then 3 else 0) 0

/-- The sample cycle that follows a given one with 32 low bits known. -/
def replayCycle (prev low : Nat) : Nat := prev / 2 ^ 32 * 2 ^ 32 + low + (if low < prev % 2 ^ 32 then 2 ^ 32 else 0)

/-- The next recorded sample cycle (R495): checkpoints ahead of it are compared, its entry is taken; none remain at the end. -/
def State.replayNext (s : State) (prev : Nat) : State :=
  let cks := s.jrn.replay.takeWhile (fun x => x.1)
  let rest := s.jrn.replay.dropWhile (fun x => x.1)
  let s1 := s.each cks (fun s x => s.replayCheckpoint x.2)
  match rest with
  | [] => s1.replayEnd (if s1.getF F.JRN_REPLAY_MISMATCH_CNT_COUNT = 0 then 2 else 3)
  | e :: t =>
    let sc := replayCycle prev (ofLe (e.2.take 4))
    let marks := (List.range 4).map (fun k => (e.2.drop (16 + 8 * k)).take 8)
    let nc := (marks.filter (fun m => decide (ofLe (m.take 1) = 2))).map (fun m => (ofLe ((m.drop 1).take 1), ofLe ((m.drop 2).take 2)))
    let skip := bit (ofLe ((e.2.drop 5).take 1)) 0
    let gr := { s1.gr with s := some sc, skipping := skip, noCommit := s1.gr.noCommit ++ nc, digest := 0 }
    ((({ s1 with jrn := { s1.jrn with replay := t, cur := e.2 }, gr := gr } : State).setF F.JRN_REPLAY_CYCLE_S (sc % 2 ^ 32)).setFlag
      F.HOB_STATUS_RUNNING true)

/-- REPLAY_ABORT: REPLAY ends at the next boundary (R496). -/
def State.replayAbort (s : State) : State :=
  if s.running ∧ s.mode = .replay then { s with jrn := { s.jrn with abort := true } } else s

/-- What a member of the replay set reads as at the present tick. -/
def State.memberVal (s : State) (m : Member) : Word × Bool :=
  match m with
  | .src n =>
    match s.gr.intake.find? (fun x => decide (x.1 = n)) with
    | some x => x.2
    | none => (0, true)
  | .sig k =>
    let p := (s.sigRec k).producer.getD 0
    if s.readers.any (fun i => (s.node i).ins.contains k && decide ((s.node i).rate ≠ (s.node p).rate)) then
      ((s.sig k).cv, (s.sig k).cage)
    else ((s.sig k).v, (s.sig k).age)

/-- Writing a member from an entry of REPLAY: an intake word, or the value of a signal whose producer need not run.
[DESIGN CHOICE, log entry 18] -/
def State.memberPut (s : State) (m : Member) (x : Word × Bool) : State :=
  match m with
  | .src n => { s with gr := { s.gr with intake := s.gr.intake.filter (fun y => decide (y.1 ≠ n)) ++ [(n, x)] } }
  | .sig k =>
    let y := s.sig k
    let p := (s.sigRec k).producer.getD 0
    s.setSig k (if s.graphHas p then { y with cv := x.1, cage := x.2 } else { y with v := x.1, age := x.2, cv := x.1, cage := x.2 })

/-- The inputs of REPLAY at tick j (R494 step 5). -/
def State.replayTick (s : State) (j : Nat) : State :=
  let t1 := s.setT1
  let t0 := s.setT0
  let v := s.entryWords
  let at' := fun (n : Nat) => wordAt (s.jrn.cur.drop 48) v n
  let s1 := s.each t1.zipIdx (fun s m => s.memberPut m.1 (at' (j * t1.length + m.2)))
  if j = 0 then s1.each t0.zipIdx (fun s m => s.memberPut m.1 (at' (4 * t1.length + m.2))) else s1

/-- The words of a tick for the journal (R484) and for the intake record (R364). [DESIGN CHOICE, log entry 17] -/
def State.sampleSets (s : State) (j : Nat) : State :=
  let word := fun (n : Nat) => s.memberVal (.src n)
  let t1 := s.setT1.map s.memberVal
  let r1 := s.recT1.map word
  let jrn := if j = 0 then { s.jrn with values := t1, values0 := s.setT0.map s.memberVal, tapT1 := [] }
    else { s.jrn with values := s.jrn.values ++ t1 }
  let lds := if j = 0 then { s.lds with values := r1, values0 := s.recT0.map word }
    else { s.lds with values := s.lds.values ++ r1 }
  { s with jrn := jrn, lds := lds }

/-- A member's value as a copy A of the present slot has read it, where its reader executes in the producer's own class and reads the
sample in hand (R484). -/
def State.readAs (s : State) : Member → Option (Word × Bool)
  | .src _ => none
  | .sig k =>
    let rate := (s.node ((s.sigRec k).producer.getD 0)).rate
    let l := s.readers.filter (fun i => (s.node i).ins.contains k)
    if l.any (fun i => decide ((s.node i).rate ≠ rate)) then none
    else l.findSome? (fun i => (s.inst i).a.bind (fun w => ((w.ins.zip (s.node i).ins).find? (fun x => decide (x.2 = k))).map (fun x => x.1)))

/-- At the end of a tick the journal's values of the present sample become those that copies A have read (R484).
[DESIGN CHOICE, log entry 17] -/
def State.readSets (s : State) : State :=
  let t1 := s.setT1
  let put := fun (l : List (Word × Bool)) (ms : List Member) => (l.zip ms).map (fun x => (s.readAs x.2).getD x.1)
  let n := s.jrn.values.length - t1.length
  { s with jrn := { s.jrn with values := s.jrn.values.take n ++ put (s.jrn.values.drop n) t1, values0 := put s.jrn.values0 s.setT0 } }

/-- The T1 taps at the end of a tick (R483). -/
def State.sampleTaps (s : State) : State :=
  let l := (s.tapInsts.filter (fun i => decide ((s.node i).rate = 0))).map (fun i =>
    (i, match s.gr.taps.find? (fun x => decide (x.1 = i)) with
      | some x => x.2
      | none => List.replicate (s.node i).ins.length (0, true)))
  { s with jrn := { s.jrn with tapT1 := s.jrn.tapT1 ++ l } }

end Sys2Proof.Machine
end

