-- ==== Sys2Proof/Machine/Power.lean ====
section
/-!
DEFINITION. Supplies, clocks, the Ember domain and power domains: the commands of R454 to R467 but for those that the
journal and the set-point channels decide.
-/
namespace Sys2Proof.Machine

open Sys2Proof

/-! The Ember domain (R453, R454) -/

/-- The RTC counts `n` units of 1/32,768 s, in 48 bits, while VBAT is present. [DESIGN CHOICE, log entry 51] -/
def State.rtcRun (s : State) (n : Nat) : State :=
  if s.ember.vbat then { s with ember := { s.ember with rtc := (s.ember.rtc + n) % 2 ^ 48 } } else s

/-- The alarm at the present RTC value plus PERIOD × 32,768; a PERIOD of 0 leaves none (R465). -/
def State.armAlarm (s : State) : State :=
  let p := s.ember.period
  { s with ember := { s.ember with alarm := if p = 0 then none else some ((s.ember.rtc + p * 32768) % 2 ^ 48) } }

/-- The snapshot pair of Flue time and RTC value (R465). -/
def State.snapshot (s : State) : State :=
  { s with ember := { s.ember with snapFlue := s.flu.time, snapRtc := s.ember.rtc, snapSet := true, rcSince := !s.ember.xt32Ok } }

/-- SNAPSHOT (R465): every 1 ms, at cycle counts with C mod 8 = 0. -/
def State.snapshotDue (s : State) (elapsed : Nat) : State :=
  let s1 := s.rtcRun elapsed
  if s.running ∧ s.flu.cycle % 8 = 0 ∧ s.ember.vbat = true then s1.snapshot else s1

/-- The meaning of SNAPSHOT (R465). [DESIGN CHOICE, log entry 51] -/
def execSnapshot (elapsed : Nat) (s : State) : Host.Outcome State Fault Refusal := .next (s.snapshotDue elapsed)

/-- The power-up after DORMANT (R467, R317): the delta, its uncertainty and the seed of Flue time, which is 0 without a stored pair; `valid` is RTC_VALID as the
wake found it. -/
def State.wakeTime (s : State) (valid : Bool) : State :=
  let d := (s.ember.rtc + 2 ^ 48 - s.ember.snapRtc) % 2 ^ 48
  let rc := s.ember.rcSince || !s.ember.xt32Ok
  let unc := if rc then ceilDiv (50 * d) 32768 else ceilDiv d 327680
  let s1 := ((s.setReg F.PWR_SLEPT_LO_DELTA.addr (w32 d)).setF F.PWR_SLEPT_HI_DELTA (d / 2 ^ 32)).setReg
    F.PWR_SLEPT_UNC_MS.addr (w32 unc)
  let s2 := (s1.setFlag F.PWR_WAKE_STAT_ELAPSED_RC rc).setFlag F.PWR_WAKE_STAT_SLEPT_VALID (valid && s.ember.snapSet)
  s2.alignTick (if valid && s.ember.snapSet then s.ember.snapFlue + d * 1000000000 / 32768 else 0)

/-- VSUP_VALID (R58, R31, R455, R466): PWR_REQ rises and the device leaves DORMANT for LOAD, held until RESET_RELEASE. -/
def State.vsupValid (s : State) (elapsed : Nat) : State :=
  if s.sys.vsup then s
  else
    let s1 := s.rtcRun elapsed
    let wake := s.ember.waking
    let valid := s.ember.rtcValid
    let cnt := min (2 ^ 32 - 1) (s1.ember.wakeCnt + b2n wake)
    let s2 : State := { s1 with sys := { s1.sys with vsup := true },
                                ember := { s1.ember with pwrReq := true, waking := false, wakeCnt := cnt } }
    let s3 := s2.when wake State.armAlarm
    let s4 := s3.resetWith (if wake then .rtcWake else .por)
    ((s4.wakeTime valid).setFlag F.PWR_STATUS_WAKE_RTC wake).setFlag F.PWR_WAKE_STAT_RTC_WAKE wake

/-- The meaning of VSUP_VALID (R58). -/
def execVsupValid (elapsed : Nat) (s : State) : Host.Outcome State Fault Refusal := .next (s.vsupValid elapsed)

/-- PIN_RESET (R31): RST_N is accepted low; `same` as in CORE_UNDER_VOLTAGE. -/
def State.pinReset (s : State) (same : Bool) : State := s.resetBy .pin same

/-- The meaning of PIN_RESET (R31). -/
def execPinReset (same : Bool) (s : State) : Host.Outcome State Fault Refusal := .next (s.pinReset same)

/-- CORE_UNDER_VOLTAGE (R458): a reset with cause CORE_UV; `same` says that it arises in the fabric cycle of the reset in which the
device is held (R31). -/
def State.coreUnderVoltage (s : State) (same : Bool) : State := s.resetBy .coreUv same

/-- The meaning of CORE_UNDER_VOLTAGE (R458). -/
def execCoreUnderVoltage (same : Bool) (s : State) : Host.Outcome State Fault Refusal := .next (s.coreUnderVoltage same)

/-- DORMANT_RELEASE (R465, R61): with a shutdown pending in SAFE-HOLD and no Ash commit running, the alarm is armed, the
snapshot stored and PWR_REQ released; an alarm that fires in the same Ember cycle wins. -/
def State.dormantRelease (s : State) (elapsed : Nat) (alarmFires : Bool) : State :=
  let s1 := s.rtcRun elapsed
  if s.running ∧ s.mode = .safeHold ∧ s.flag F.PWR_STATUS_SD_PENDING = true ∧ s.ash.queue = [] ∧ s.ember.vbat = true then
    if alarmFires ∧ s1.ember.alarm.isSome then
      ((((({ s1 with ember := { s1.ember with alarm := none } } : State).domRefuse 1 0x10).incF
        F.PWR_SD_ABORT_CNT_COUNT).event Ev.pwr 0).setFlag F.PWR_STATUS_SD_PENDING false)
    else
      let s2 := (({ s1 with ember := { s1.ember with period := s1.getF F.PWR_ALARM_PERIOD } } : State).armAlarm).snapshot
      { s2 with ember := { s2.ember with pwrReq := false } }
  else s1

/-- The meaning of DORMANT_RELEASE (R465). -/
def execDormantRelease (elapsed : Nat) (alarmFires : Bool) (s : State) : Host.Outcome State Fault Refusal :=
  .next (s.dormantRelease elapsed alarmFires)

/-- RTC_ALARM (R466): the armed alarm fires once; PWR_REQ rises, and in DORMANT the wake waits for VSUP. -/
def State.rtcAlarm (s : State) (elapsed : Nat) : State :=
  let s1 := s.rtcRun elapsed
  if s1.ember.alarm.isSome ∧ s1.ember.vbat = true then
    { s1 with ember := { s1.ember with alarm := none, pwrReq := true,
                                       waking := s1.ember.waking || decide (s1.sys.phase = .off ∨ s1.sys.phase = .holdup) } }
  else s1

/-- The meaning of RTC_ALARM (R466). -/
def execRtcAlarm (elapsed : Nat) (s : State) : Host.Outcome State Fault Refusal := .next (s.rtcAlarm elapsed)

/-- WAKE_TIMEOUT (R466): VSUP has not become valid within WAKE_WAIT. -/
def State.wakeTimeout (s : State) (elapsed : Nat) : State :=
  let s1 := s.rtcRun elapsed
  if s1.ember.waking ∧ s1.sys.vsup = false then
    ({ s1 with ember := { s1.ember with waking := false, pwrReq := false,
                                        wakeFailCnt := min (2 ^ 32 - 1) (s1.ember.wakeFailCnt + 1) } } : State).armAlarm
  else s1

/-- The meaning of WAKE_TIMEOUT (R466). -/
def execWakeTimeout (elapsed : Nat) (s : State) : Host.Outcome State Fault Refusal := .next (s.wakeTimeout elapsed)

/-- VBAT_LOSS (R454): the Ember domain resets. -/
def State.vbatLoss (s : State) : State := { s with ember := { vbat := false, validAtReset := false } }

/-- The meaning of VBAT_LOSS (R454). -/
def execVbatLoss (s : State) : Host.Outcome State Fault Refusal := .next s.vbatLoss

/-- VBAT_APPLIED (R454): the Ember domain starts with the RTC at 0; RTC_VALID stays clear until the next reset. -/
def State.vbatApplied (s : State) : State :=
  if s.ember.vbat then s else { s with ember := { vbat := true, validAtReset := true } }

/-- The meaning of VBAT_APPLIED (R454). -/
def execVbatApplied (s : State) : Host.Outcome State Fault Refusal := .next s.vbatApplied

/-- XT32_FAIL (R454): the RTC carries on from the Ember RC. -/
def State.xt32Fail (s : State) (elapsed : Nat) : State :=
  let s1 := s.rtcRun elapsed
  if s1.ember.vbat then
    let s2 : State := { s1 with ember := { s1.ember with xt32Ok := false, rcSince := true } }
    s2.when s2.running (fun s => ((s.incF F.CLK_XT32_FAIL_CNT_COUNT).event Ev.clk 3).raiseLevel Src.xt32Fail)
  else s1

/-- The meaning of XT32_FAIL (R454). -/
def execXt32Fail (elapsed : Nat) (s : State) : Host.Outcome State Fault Refusal := .next (s.xt32Fail elapsed)

/-- XT32_RETURN (R454): the RTC returns to the crystal. -/
def State.xt32Return (s : State) (elapsed : Nat) : State :=
  let s1 := s.rtcRun elapsed
  if s1.ember.vbat then
    (({ s1 with ember := { s1.ember with xt32Ok := true } } : State)).when s1.running (fun s => s.clearLevel Src.xt32Fail)
  else s1

/-- The meaning of XT32_RETURN (R454). -/
def execXt32Return (elapsed : Nat) (s : State) : Host.Outcome State Fault Refusal := .next (s.xt32Return elapsed)

/-! Clock monitors (R457) -/

/-- PLL_LOSS (R457): PLL `half` loses lock, or its monitor window counts `count` outside 4,000 ± MON_TOL; after a crystal
loss the monitors report nothing. -/
def State.pllLoss (s : State) (half : Nat) (lock : Bool) (count : Nat) : State :=
  let tol := 4 * s.getF F.CLK_CFG_MON_TOL
  if !s.running || 2 ≤ half || !s.flag F.CLK_STATUS_XT25_OK then s
  else
    let lockF := if half = 0 then F.CLK_PLL_N_LOCK else F.CLK_PLL_S_LOCK
    let okF := if half = 0 then F.CLK_STATUS_MON_N_OK else F.CLK_STATUS_MON_S_OK
    let monF := if half = 0 then F.CLK_MON_N_COUNT else F.CLK_MON_S_COUNT
    let cntF := if half = 0 then F.CLK_PLL_N_LOSS_CNT_COUNT else F.CLK_PLL_S_LOSS_CNT_COUNT
    let lost := fun (s : State) => ((s.incF cntF).event Ev.clk half).raiseLevel (Src.pllLoss half)
    if lock then lost (s.setFlag lockF false)
    else
      let bad := decide (count + tol < 4000) || decide (4000 + tol < count)
      let s1 := (s.setF monF count).setFlag okF (!bad)
      s1.when bad lost

/-- The meaning of PLL_LOSS (R457). -/
def execPllLoss (half : Nat) (lock : Bool) (count : Nat) (s : State) : Host.Outcome State Fault Refusal :=
  .next (s.pllLoss half lock count)

/-- XT25_FAIL (R457): the 25 MHz crystal stops or leaves tolerance; `count` is what the window counted. -/
def State.xt25Fail (s : State) (count : Nat) : State :=
  if s.running then
    ((((s.setF F.CLK_XT25_COUNT count).setFlag F.CLK_STATUS_XT25_OK false).incF F.CLK_XT25_FAIL_CNT_COUNT).event Ev.clk
      2).raiseLevel Src.xt25Fail
  else s

/-- The meaning of XT25_FAIL (R457). -/
def execXt25Fail (count : Nat) (s : State) : Host.Outcome State Fault Refusal := .next (s.xt25Fail count)

/-! Supply and temperature monitors (R458) -/

/-- VSUP_UV (R458). -/
def State.vsupUv (s : State) : State :=
  if s.running then ((s.incF F.PWR_VSUP_UV_CNT_COUNT).event Ev.pwr 1).raiseLevel Src.vsupUv else s

/-- The meaning of VSUP_UV (R458). -/
def execVsupUv (s : State) : Host.Outcome State Fault Refusal := .next s.vsupUv

/-- VSUP_OV (R458). -/
def State.vsupOv (s : State) : State :=
  if s.running then ((s.incF F.PWR_VSUP_OV_CNT_COUNT).event Ev.pwr 1).raiseLevel Src.vsupOv else s

/-- The meaning of VSUP_OV (R458). -/
def execVsupOv (s : State) : Host.Outcome State Fault Refusal := .next s.vsupOv

/-- The meaning of CORE_OV (R458). -/
def execCoreOv (s : State) : Host.Outcome State Fault Refusal :=
  .next (if s.running then s.raiseLevel Src.coreOv else s)

/-- VGD_FAULT (R458): VGD_OK clears. -/
def State.vgdFault (s : State) : State :=
  if s.running then ((s.incF F.PWR_VGD_CNT_COUNT).setFlag F.GDR_STATUS_VGD_OK false).raiseLevel Src.vgdFault else s

/-- The meaning of VGD_FAULT (R458). -/
def execVgdFault (s : State) : Host.Outcome State Fault Refusal := .next s.vgdFault

/-- VBAT_LOW (R458). -/
def State.vbatLow (s : State) : State :=
  if s.running then (s.event Ev.pwr 3).raiseLevel Src.vbatLow else s

/-- The meaning of VBAT_LOW (R458). -/
def execVbatLow (s : State) : Host.Outcome State Fault Refusal := .next s.vbatLow

/-- SUPPLY_MONITOR_CLEAR (R458): a supply source of 0xCA to 0xCF is back within its limits; VIO counts in reset too (R551). -/
def State.supplyClear (s : State) (source : Nat) : State :=
  if s.sys.phase = .off ∨ s.sys.phase = .holdup then s
  else
    let s1 : State := if source = Src.vioFault then { s with sys := { s.sys with vioLow := false, vioUnder := false } } else s
    if s.running ∧ Src.vsupUv ≤ source ∧ source ≤ Src.vbatLow then
      (s1.clearLevel source).when (decide (source = Src.vgdFault)) (fun s => s.setFlag F.GDR_STATUS_VGD_OK true)
    else s1

/-- The meaning of SUPPLY_MONITOR_CLEAR (R458). -/
def execSupplyMonitorClear (source : Nat) (s : State) : Host.Outcome State Fault Refusal := .next (s.supplyClear source)

/-- One temperature (t: 0 NORTH, 1 SOUTH, 2 power die) in °C + 50 against LIMIT and HYST (R458, R469). -/
def State.tempOne (s : State) (t v : Nat) : State :=
  let lim := s.getF F.PWR_TEMP_CFG_LIMIT + 50
  if lim < v then
    if s.flt.level.contains (Src.temp t) then s
    else ((s.incF F.PWR_TEMP_CNT_COUNT).event Ev.pwr 4).raiseLevel (Src.temp t)
  else if v + s.getF F.PWR_TEMP_CFG_HYST ≤ lim then s.clearLevel (Src.temp t)
  else s

/-- The conversions of channels 60 to 62 that come with the reference checks (R458): which converter takes each is nowhere said; it
counts them, and their results, like those of the check, are not published. [DESIGN CHOICE, log entries 5 and 42] -/
def State.tempConverts (s : State) : State :=
  let s1 := s.each (List.range 3) (fun s k => let f := F.ADC_CONV_CNT_COUNT ((Config.freeWord (s.free + k)).toNat % 8)
    s.setF f (s.getF f + 1))
  { s1 with free := s1.free + 3 }

/-- TEMP_CONVERSION (R458): the three temperatures in °C + 50, of NORTH, SOUTH and the power die. -/
def State.tempConversion (s : State) (north south power : Nat) : State :=
  if s.running then
    let s1 := ((s.setF F.PWR_TEMP_NORTH north).setF F.PWR_TEMP_SOUTH south).setF F.PWR_TEMP_POWER power
    ((s1.tempConverts.tempOne 0 north).tempOne 1 south).tempOne 2 power
  else s

/-- The meaning of TEMP_CONVERSION (R458). -/
def execTempConversion (north south power : Nat) (s : State) : Host.Outcome State Fault Refusal :=
  .next (s.tempConversion north south power)

/-! Power domains (R461 to R463) -/

/-- Whether a client's vote may come as a command: the mode manager's bit 0 follows the mode alone (R459).
[DESIGN CHOICE, log entry 14] -/
def voteClient (d client : Nat) : Bool := decide (1 ≤ d) && decide (d < 22) && decide (1 ≤ client) && decide (client < 8)

/-- The meaning of VOTE_WITHDRAW (R461): `coincident` is a client that votes in the same fabric cycle. -/
def execVoteWithdraw (domain client : Nat) (coincident : Option Nat) (s : State) : Host.Outcome State Fault Refusal :=
  .next (if s.running && voteClient domain client then s.domUnvote domain client (coincident.map (fun c => c % 8)) else s)

/-- The meaning of VOTE_SET (R462). -/
def execVoteSet (domain client : Nat) (s : State) : Host.Outcome State Fault Refusal :=
  .next (if s.running && voteClient domain client then s.domVote domain client else s)

/-- The meaning of DOMAIN_STEP_READY (R463). -/
def execDomainStepReady (domain : Nat) (s : State) : Host.Outcome State Fault Refusal :=
  .next (if s.running ∧ domain < 22 then s.domReady domain else s)

/-- What the loss of domains 17 to 21 takes from the device (R463): the transmitters of the Flue unit, the Ethernet ports and their
links, CAN and the positions, the conversions, what the power stage drives. [DESIGN CHOICE, log entry 14] -/
def State.domGone (s : State) (d : Nat) : State :=
  let s1 := s.domLogic d
  match d with
  | 17 => ((s1.setFlag F.FLU_STATUS_TX_ON false).setFlag F.FLU_DAMPER_CLOSED true).setFlag F.FLU_STATUS_FORWARDING false
  | 18 => (s1.each [0, 1] (fun s p => s.setFlag (F.ETH_PHY_LINK p) false)).refreshNet
  | 19 => s1.refreshNet
  | 21 => (({ s1 with gdr := { s1.gdr with ssOn := [] } } : State).each (List.range 4) State.refreshSupply).refreshPower
  | _ => s1

/-- A domain is lost (R463): the source is raised, the domain rests in its low state, a cluster is retired, domains 1 to 8
bring SAFE-HOLD (R19: fatal). -/
def State.domLost (s : State) (d : Nat) : State :=
  let x := s.dom d
  let s1 := ((s.setDomState d (if x.wasOff then 0 else s.domLow d)).setDom d { x with lost := true, retried := false }).domGone d
  let s2 := ((s1.incF F.PWR_TIMEOUT_CNT_COUNT).event Ev.pwr 7).raise Src.domainTimeout
  if 9 ≤ d ∧ d ≤ 16 then s2.retireCluster (d - 9)
  else if d ≤ 8 ∧ (s2.mode.runs = true ∨ s2.mode = .selfTest) then s2.reactSafeHold Src.domainTimeout none
  else s2

/-- LOAD restores a domain in the order of R463, to the end unless `fails` gives a step that times out: (domain, step, whether the
repeat times out too). -/
def State.domUp (s : State) (fails : List (Nat × Nat × Bool)) (d : Nat) : State :=
  let up := fun (s : State) => ((s.setDomState d 2).setDom d { s.dom d with wasOff := false }).setF (F.PWR_DOM_STAT_STEP d) 3
  let s1 := s.putVote d 0 true
  match fails.find? (fun x => decide (x.1 = d)) with
  | none => up s1
  | some (_, k, again) =>
    let s2 := s1.domAbort d (0x20 + k % 4)
    if again then (s2.setF (F.PWR_DOM_STAT_STEP d) (k % 4)).domLost d else up s2

/-- DOMAIN_TIMEOUT (R462, R463): an entry's idle handshake is refused and the domain stays on; a restoration step is counted
and the restoration run once more from the regulator step; the second time the domain is lost. -/
def State.domTimeout (s : State) (d : Nat) : State :=
  let x := s.dom d
  if d = 0 ∨ 22 ≤ d ∨ s.domState d ≠ 3 then s
  else if x.entering then
    if x.step = 3 then ((s.domRefuse d (0x60 + d)).setDomState d 2).setDom d { x with entering := false } else s
  else if x.retried then s.domLost d
  else (s.domAbort d (0x20 + x.step)).domRestore d true

/-- The meaning of DOMAIN_TIMEOUT (R463). -/
def execDomainTimeout (domain : Nat) (s : State) : Host.Outcome State Fault Refusal :=
  .next (if s.running then s.domTimeout domain else s)

end Sys2Proof.Machine
end

