-- ==== Sys2Proof/Machine/Lead.lean ====
section
/-!
DEFINITION. Lead, shadow and switch-over (13_lead_shadow): readiness, election, silence, deposition, commanded handover, fault
count, isolation. Commands STATIC_SEGMENT_END, ELECTION, JOIN_TIMEOUT, HANDOVER_TIMEOUT, ISOLATE_LIMP_EXPIRY, GRACE_EXPIRY,
STANDSTILL_HOLD_EXPIRY.
-/
namespace Sys2Proof.Machine

open Sys2Proof

/-! What a channel knows -/

/-- The channel ID (R360). -/
def State.ownId (s : State) : Nat := s.getF F.SYS_MODE_CHANNEL_ID

/-- A resource of the first item of R19 is lost: a cluster, or a comparator lane. -/
def State.resourceLost (s : State) : Bool :=
  (List.range 8).any (fun k => s.flag (F.SYS_CLUSTER_RETIRED k) || s.flag (F.CMP_STAT_RETIRED k))

/-- READY (R373). -/
def State.readyBit (s : State) : Bool :=
  decide (s.mode = .shadow) && s.flag F.LDS_STATUS_ALIGNED && s.flag F.LDS_STATUS_XDIS_OK && !s.flag F.LDS_STATUS_ISOLATED &&
    !s.resourceLost && !(List.range 256).any (fun n => s.active n && decide (1 ≤ s.fltAction n ∧ s.fltAction n ≤ 3))

/-- LDS_STATUS as software and the graph read it (R394). -/
def State.ldsStatusWord (s : State) : Word :=
  F.LDS_STATUS_LEAD_ROLE.put (F.LDS_STATUS_READY.put (s.reg F.LDS_STATUS_F.addr) (b2n s.readyBit)) (b2n s.mode.isLead)

/-- ROLE of a channel frame (R363). -/
def State.role (s : State) : Nat := if s.mode.isLead then 2 else if s.mode = .shadow then 1 else 0

/-- The channel frames heard (R363): accepted on a ring, and alike where both rings gave one. -/
def heardFrames (rx : List (Nat × ChFrame)) : List ChFrame :=
  [1, 2, 3].filterMap (fun id =>
    match (rx.filter (fun x => decide (x.2.id = id))).map (fun x => x.2) with
    | [] => none
    | f :: t => if t.all (fun g => decide (g = f)) then some f else none)

/-- Heard in the present cycle so far. -/
def State.heardNow (s : State) : List ChFrame := heardFrames s.lds.rx

/-- READY, ALIGNED, FIRST, HO_REQ, XDIS_LOW, XDIS_TEST and DISAGREE of a frame. -/
def ChFrame.ready (f : ChFrame) : Bool := bit f.flags 0
def ChFrame.aligned (f : ChFrame) : Bool := bit f.flags 1
def ChFrame.isFirst (f : ChFrame) : Bool := bit f.flags 2
def ChFrame.hoReq (f : ChFrame) : Bool := bit f.flags 3
def ChFrame.xdisTest (f : ChFrame) : Bool := bit f.flags 5
def ChFrame.disagree (f : ChFrame) : Bool := bit f.flags 6

/-- The lowest ID among the frames with ROLE 1 and READY, 0 for none. -/
def readyId (frames : List ChFrame) : Nat :=
  ((frames.filter (fun f => decide (f.role = 1) && f.ready)).map (fun f => f.id)).foldl (fun a i => if a = 0 then i else min a i) 0

/-- The successor (R374): the lowest ID among a cycle's frames with ROLE 1 and READY, the own frame of that cycle included; 0 for
none. -/
def State.successor (s : State) (frames : List ChFrame) : Nat :=
  let i := readyId frames
  if s.lds.ownReady then (if i = 0 then s.ownId else min i s.ownId) else i

/-! The log of handovers (R395, R396) -/

/-- A handover seen: 1 commanded, 2 silence, 3 deposition, 4 conflict; with HO_TRIG it triggers the journal (R488). -/
def State.logHandover (s : State) (cause old new gap : Nat) : State :=
  let s1 := (s.setReg F.LDS_LAST_HO_CAUSE.addr (w32 (cause * 2 ^ 28 + old % 4 * 2 ^ 26 + new % 4 * 2 ^ 24 + min gap 65535))).pushLog
    F.LDS_HO_LOG_CAUSE 7
  let s2 := (s1.setReg (F.LDS_HO_LOG_CAUSE 0).addr
    (w32 (cause * 2 ^ 28 + old % 4 * 2 ^ 26 + new % 4 * 2 ^ 24 + s.flu.cycle % 2 ^ 24))).event Ev.lds 3
  let s3 := s2.when (s2.flag F.JRN_CFG_HO_TRIG) (fun s => s.trigger 3 0)
  match cause with
  | 1 => s3.incF F.LDS_HO_CMD_CNT_COUNT
  | 2 => s3.incF F.LDS_HO_SILENT_CNT_COUNT
  | 3 => s3.incF F.LDS_HO_DEPOSE_CNT_COUNT
  | _ => s3

/-- Clearing ALIGNED (R370): counted, and a new alignment begins. -/
def State.clearAligned (s : State) : State :=
  let s1 : State := { s with lds := { s.lds with agree := 0, inRound := false, roundDone := false, sent := [] } }
  if s.flag F.LDS_STATUS_ALIGNED then
    ((s1.setFlag F.LDS_STATUS_ALIGNED false).incF F.LDS_ALIGN_CNT_COUNT).event Ev.lds 1
  else s1

/-! End of the static segment -/

/-- Whether a channel's comparison of sample cycle S with another shadow's frame makes a vote against the lead (R372). -/
def votesWith (f : ChFrame) (sc : Nat) (d : Word) : Bool :=
  decide (f.role = 1) && f.aligned && decide (f.dvalid = 1) && decide (f.dcycle = sc % 2 ^ 32) && decide (f.digest = d.toNat)

/-- The own digest of a sample cycle. -/
def State.digestAt (s : State) (sc : Nat) : Option Word := (s.lds.digests.find? (fun x => decide (x.1 = sc))).map (fun x => x.2)

/-- The vote of the present cycle on S = C - 3 (R372): a shadow whose digest differs from the lead's and another shadow that
agrees with it; on the lead and every other channel, both shadows' frames that agree and differ from the lead's digest.
[DEDUCED, log entries 26 and 26] -/
def State.voteCast (s : State) : Bool :=
  let sc := s.flu.cycle - 3
  if s.mode = .shadow then
    s.lds.disagree && s.flag F.LDS_STATUS_ALIGNED && (match s.digestAt sc with
      | some d => s.heardNow.any (fun f => votesWith f sc d)
      | none => false)
  else if s.mode.isLead then
    (match s.heardNow.filter (fun f => decide (f.role = 1) && f.aligned && f.disagree && decide (f.dvalid = 1) &&
        decide (f.dcycle = sc % 2 ^ 32)) with
     | f :: g :: _ => decide (f.digest = g.digest) && decide (s.digestAt sc ≠ some (w32 f.digest))
     | _ => false)
  else false

/-- Deposition (R372): votes in DEPOSE_N consecutive sample cycles; the lead enters SAFE-HOLD, the successor engages. An
undecided mismatch without a vote clears ALIGNED (R371 step 2). [DEDUCED, log entry 26] -/
def State.depose (s : State) : State :=
  let vote := decide (s.topology = 3) && s.voteCast
  let n := if vote then s.lds.votes + 1 else 0
  let s1 : State := { s with lds := { s.lds with votes := n, undecided := false } }
  let s2 := s1.when (vote && decide (s.mode = .shadow)) (fun s => s.incF F.LDS_VOTE_CNT_COUNT)
  let s3 := s2.when (s.lds.undecided && !vote) State.clearAligned
  if vote && decide (max 1 (s.getF F.LDS_CFG_DEPOSE_N) ≤ n) then
    let s4 := ({ s3 with lds := { s3.lds with votes := 0, hoCause := 3, hoFrom := s3.lds.leadId } } : State).event
      Ev.lds 5
    if s.mode.isLead then s4.enterMode .safeHold 0 0
    else if s4.successor s4.heardNow = s4.ownId then
      (({ s4 with lds := { s4.lds with engage := true } } : State)).requestMode .lead 0 0
    else s4
  else s3

/-- A commanded handover's target engages at the static end of H, the first cycle of a request that names it; a deposition in the same
cycle prevails (R376 step 3, R380). A request that outlasts HO_TIMEOUT cycles is a new one, since the lead has cancelled the old.
[DEDUCED, log entries 26 and 26] -/
def State.engageDue (s : State) : State :=
  match s.heardNow.find? (fun f => decide (f.role = 2) && f.hoReq && decide (f.target = s.ownId)) with
  | some f =>
    if s.lds.prev.any (fun g => decide (g.id = f.id) && g.hoReq && decide (g.target = s.ownId)) &&
        decide (s.flu.cycle ≤ s.lds.reqSince + s.getF F.LDS_CFG_HO_TIMEOUT) then s
    else
      let s1 : State := { s with lds := { s.lds with reqSince := s.flu.cycle } }
      if s.mode = .shadow ∧ s.lds.engage = false ∧ s.readyBit = true ∧ s.flag F.GDR_XDIS_IN = true ∧ s.lds.hoCause ≠ 3 then
        (({ s1 with lds := { s1.lds with engage := true, hoCause := 1, hoFrom := f.id } } : State)).requestMode .lead 0 0
      else s1
  | none => s

/-- The lead is silent (R375): its channel frame is not heard while another node's frame is. [DEDUCED, log entry 26] -/
def State.silence (s : State) : State :=
  let heard := s.heardNow.any (fun f => decide (f.role = 2))
  match s.lds.leadHeard with
  | none => s
  | some d =>
    if s.mode = .shadow ∧ heard = false ∧ s.lds.engage = false ∧ d < s.flu.cycle ∧ s.lds.anyFrame = true ∧
        s.successor s.heardNow = s.ownId then
      (({ s with lds := { s.lds with engage := true, hoCause := 2, hoFrom := s.lds.leadId } } : State)).requestMode
        .lead 0 0
    else s

/-- What isolation brings while it lasts (R388): LIMP out of LEAD and LEAD-DEGRADED; out of LIMP STOPPING, ISOLATE_LIMP x 10 ms, 80
cycles each, after it began. -/
def State.isolatedAct (s : State) : State :=
  let long := match s.lds.isolated with
    | some c => decide (c + 80 * s.getF F.LDS_GRACE_ISOLATE_LIMP ≤ s.flu.cycle)
    | none => false
  if s.mode = .lead ∨ s.mode = .leadDegraded then s.requestMode .limp 0 0
  else if s.mode = .limp ∧ long = true then s.requestMode .stopping 0 0
  else s

/-- Isolation (R388). -/
def State.isolation (s : State) : State :=
  let n := if s.lds.anyFrame then 0 else min 255 (s.lds.quiet + 1)
  let s1 : State := { s with lds := { s.lds with quiet := n } }
  if s.getF F.LDS_TIMING_LOSS_N ≤ n then
    if s.flag F.LDS_STATUS_ISOLATED then s1.isolatedAct
    else
      let s2 := ((({ s1 with lds := { s1.lds with isolated := some s.flu.cycle } } : State).setFlag F.LDS_STATUS_ISOLATED
        true).incF F.LDS_ISOLATE_CNT_COUNT).event Ev.lds 8
      if s.mode = .shadow then s2.raise Src.shadowIsolated else s2.isolatedAct
  else if n = 0 then (({ s1 with lds := { s1.lds with isolated := none } } : State)).setFlag F.LDS_STATUS_ISOLATED false
  else s1

/-- Whether a ring counts in R of R386. -/
def State.ringLost (s : State) (r : Nat) : Bool :=
  decide (s.getF F.LDS_TIMING_LOSS_N ≤ s.lds.ringBad.getD r 0) ||
    !s.flag (if r = 0 then F.FLU_CFG_RING_A_EN else F.FLU_CFG_RING_B_EN)

/-- The mode F selects (R387), none where it selects the present one. -/
def faultMode (topology f : Nat) (m : Mode) : Option Mode :=
  if f < 2 then none
  else if topology = 3 ∧ f = 2 then (if m = .lead ∨ m = .leadDegraded then some .limp else none)
  else if m = .lead ∨ m = .leadDegraded ∨ m = .limp then some .stopping
  else none

/-- The fault count (R386) and the mode that follows from it, LEAD-DEGRADED where R19 calls for it (R58, R387). -/
def State.faultCount (s : State) : State :=
  let lossN := s.getF F.LDS_TIMING_LOSS_N
  let heard := s.heardNow
  let ages := s.lds.readyAge.zipIdx.map (fun x =>
    if heard.any (fun f => decide (f.id = x.2 + 1) && decide (f.role = 1) && f.ready) then 0 else min 255 (x.1 + 1))
  let s1 : State := { s with lds := { s.lds with readyAge := ages, f := 0 } }
  if !s.mode.isLead then s1
  else
    let others := (List.range s.topology).filter (fun i => decide (i + 1 ≠ s.ownId))
    let m := (others.filter (fun i => decide (lossN ≤ ages.getD i 255))).length
    let lost := [s.ringLost 0, s.ringLost 1]
    let f := m + lost.countP id + b2n (decide (s.mode = .leadDegraded))
    let newly := b2n (s.ringLost 0 && !s.flag F.LDS_STATUS_RING_A_LOST) + b2n (s.ringLost 1 && !s.flag F.LDS_STATUS_RING_B_LOST)
    let s2 := (s1.setFlag F.LDS_STATUS_RING_A_LOST (s.ringLost 0)).setFlag F.LDS_STATUS_RING_B_LOST (s.ringLost 1)
    let s3 := s2.when (decide (0 < newly)) (fun s => (s.addF F.LDS_RING_LOST_CNT_COUNT newly).event Ev.lds 7)
    let s4 := s3.when (decide (s.lds.f < f)) (fun s => s.incF F.LDS_F_RISE_CNT_COUNT)
    let s4 : State := { s4 with lds := { s4.lds with f := f } }
    let s5 := (s4.setF F.LDS_STATUS_F (min 3 f)).setFlag F.LDS_STATUS_REDUNDANCY_LOST (decide (1 ≤ f))
    let s6 := s5.when (decide (f = 0)) (fun s => s.setFlag F.LDS_STATUS_GRACE_OVER false)
    if s.flag F.LDS_STATUS_ISOLATED then s6
    else
      match faultMode s.topology f s.mode with
      | some t => s6.requestMode t 0 0
      | none => s6.when (decide (s.mode = .lead) && s.resourceLost) (fun s => s.requestMode .leadDegraded 0 0)

/-- Flue set-points of SAFETY slots after the comparison of both rings (R125, R297): a slot that a safety receive channel watches
offers what that channel delivers, any other the copy or copies accepted where they do not differ.
[DEDUCED, log entries 37 and 37] -/
def State.spStatic (s : State) : State :=
  let slots := ((spSources.filter (fun x => decide (s.spKind x.1 x.2 = 1))).map (fun x => s.spLoc x.1 x.2 % 64)).eraseDups
  s.each slots (fun s slot =>
    let copy := fun ring => s.flu.rx.find? (fun f => decide (f.ring = ring) && decide (f.hdr.slot = slot) &&
      decide (f.hdr.ptype = 1))
    let watch := (List.range 6).find? (fun r => s.flag (F.SAF_RX_CFG_EN r) && decide (s.getF (F.SAF_RX_CFG_SLOT r) = slot))
    let ok := match watch with
      | some r => let v := s.getF (F.SAF_RX_STAT_VERDICT r); decide (1 ≤ v ∧ v ≤ 3)
      | none => true
    match ok, copy 0, copy 1 with
    | true, some a, some b => if a.payload = b.payload then s.spFlue slot a.payload else s
    | true, some a, none => s.spFlue slot a.payload
    | true, none, some b => s.spFlue slot b.payload
    | _, _, _ => s)

/-- STATIC_SEGMENT_END (R401): safety verdicts in every cycle, then in the modes that send deposition, engagement, silence, isolation
and fault count, in this order. -/
def State.staticEnd (s : State) : State :=
  if !s.running then s
  else
    let s0 := s.each (List.range 6) State.safReceive
    let s2 := s0.when s.mode.sends (fun s => s.spStatic.depose)
    if !s2.mode.sends then s2
    else
      let s3 := s2.engageDue.silence
      s3.isolation.faultCount

/-- The meaning of STATIC_SEGMENT_END (R401, R372, R375, R376, R386). -/
def execStaticSegmentEnd (s : State) : Host.Outcome State Fault Refusal := .next s.staticEnd

/-! Timers and election -/

/-- ELECTION (R366): SETTLE cycles have passed in JOIN; the role is taken at the next boundary. [DEDUCED, log entry 26] -/
def State.election (s : State) : State :=
  let heard := s.heardNow
  if !s.running || decide (s.mode ≠ .join) || decide (s.flu.integ ≠ .synced) then s
  else if s.topology ≤ 1 then s.requestMode .lead 0 0
  else if heard.any (fun f => decide (f.role = 2)) then s.requestMode .shadow 0 0
  else if heard.any (fun f => decide (f.role < 2) && decide (f.id < s.ownId)) then s.requestMode .shadow 0 0
  else s.requestMode .lead 0 0

/-- The meaning of ELECTION (R366). -/
def execElection (s : State) : Host.Outcome State Fault Refusal := .next s.election

/-- JOIN_TIMEOUT (R58): JOIN has not completed 60 ms after entry. -/
def State.joinTimeout (s : State) : State := if s.running ∧ s.mode = .join then s.enterMode .safeHold 0 0 else s

/-- The meaning of JOIN_TIMEOUT (R58). -/
def execJoinTimeout (s : State) : Host.Outcome State Fault Refusal := .next s.joinTimeout

/-- HANDOVER_TIMEOUT (R376 step 5): the lead cancels its handover. -/
def State.handoverTimeout (s : State) : State :=
  if s.running ∧ s.mode.isLead = true ∧ s.flag F.LDS_STATUS_HO_PENDING = true ∧ s.gdr.hoRelease = false ∧
      s.lds.hoCycle + s.getF F.LDS_CFG_HO_TIMEOUT ≤ s.flu.cycle then
    (((({ s with lds := { s.lds with hoTarget := 0 } } : State).setFlag F.LDS_STATUS_HO_PENDING false).incF
      F.LDS_HO_FAIL_CNT_COUNT).event Ev.lds 4).refreshXdis
  else s

/-- The meaning of HANDOVER_TIMEOUT (R376). -/
def execHandoverTimeout (s : State) : Host.Outcome State Fault Refusal := .next s.handoverTimeout

/-- ISOLATE_LIMP_EXPIRY (R388): an isolated device in LIMP enters STOPPING. -/
def State.isolateLimp (s : State) : State :=
  if s.running ∧ s.mode = .limp ∧ s.flag F.LDS_STATUS_ISOLATED = true then s.requestMode .stopping 0 0 else s

/-- The meaning of ISOLATE_LIMP_EXPIRY (R388). -/
def execIsolateLimpExpiry (s : State) : Host.Outcome State Fault Refusal := .next s.isolateLimp

/-- GRACE_EXPIRY (R386): REDUNDANCY_LOST has held for GRACE seconds. -/
def State.graceExpiry (s : State) : State :=
  if s.running ∧ s.flag F.LDS_STATUS_REDUNDANCY_LOST = true then s.setFlag F.LDS_STATUS_GRACE_OVER true else s

/-- The meaning of GRACE_EXPIRY (R386). -/
def execGraceExpiry (s : State) : Host.Outcome State Fault Refusal := .next s.graceExpiry

/-- The brake-release valve carries no current; with RELEASE_EN = 0 no channel is named. [DEDUCED, log entry 26] -/
def State.valveOff (s : State) : Bool :=
  !s.flag F.LDS_CFG_RELEASE_EN || decide (s.getF (F.GDR_SOL_STAT_STATE (s.getF F.LDS_CFG_RELEASE_CH)) ≠ 1)

/-- STANDSTILL_HOLD_EXPIRY (R58): standstill for 1 s in STOPPING with the brake-release valve off. [DEDUCED, log entry 26] -/
def State.standstillHold (s : State) : State :=
  if s.running ∧ s.mode = .stopping ∧ s.flag F.SAF_STATUS_STANDSTILL = true ∧ s.valveOff = true then s.enterMode .safeHold 0 0
  else s

/-- The meaning of STANDSTILL_HOLD_EXPIRY (R58). -/
def execStandstillHoldExpiry (s : State) : Host.Outcome State Fault Refusal := .next s.standstillHold

end Sys2Proof.Machine
end

