-- ==== Sys2Proof/Machine/FlueFrames.lean ====
section
/-!
DEFINITION. Flue frames: reception, forwarding and stripping, transmission through the damper (R284 to R297). Commands
FLUE_FRAME_RECEIVE and FRAME_TRANSMIT.
-/
namespace Sys2Proof.Machine

open Sys2Proof

/-! Channel frames (R363) -/

/-- The 64 payload bytes. -/
def ChFrame.bytes (f : ChFrame) : List Byte :=
  leBytes 1 f.id ++ leBytes 1 f.role ++ leBytes 1 f.mode ++ leBytes 1 f.flags ++ leBytes 1 f.target ++ leBytes 1 f.f ++
  leBytes 1 f.dvalid ++ [0] ++ leBytes 4 f.dcycle ++ leBytes 4 f.digest ++
  ((List.range 8).flatMap (fun k => leBytes 4 (f.taps.getD k 0).toNat)) ++ leBytes 1 f.tapAge ++ List.replicate 15 0

/-- Reading a payload from the channel with ID `id`. -/
def ChFrame.parse (id : Nat) (b : List Byte) : ChFrame :=
  let n := fun (o k : Nat) => ofLe ((b.drop o).take k)
  { id := id, role := n 1 1, mode := n 2 1, flags := n 3 1, target := n 4 1, f := n 5 1, dvalid := n 6 1, dcycle := n 8 4,
    digest := n 12 4, taps := (List.range 8).map (fun k => w32 (n (16 + 4 * k) 4)), tapAge := n 48 1,
    rest := b.take 1 ++ (b.drop 7).take 1 ++ b.drop 49 }

/-- The channel whose channel slot a frame fills, as its ID: PRESENT, and not the device's own. [DEDUCED, log entry 22] -/
def State.channelOf (s : State) (slot node : Nat) : Option Nat :=
  ([1, 2, 3].filter (fun id => decide (id ≠ s.ownId) && s.flag (F.LDS_PEER_CFG_PRESENT (id - 1)) &&
    decide (s.getF (F.LDS_PEER_CFG_NODE_ID (id - 1)) = node) && decide (chSlot s.slots node = some slot))).head?

/-- The old lead accepts the target's frame with ROLE 2 (R376 step 4): OFF on its outputs, SHADOW at the next boundary. -/
def State.releaseHandover (s : State) (id : Nat) : State :=
  let s1 : State := { s with gdr := { s.gdr with hoRelease := true } }
  ((s1.refreshPower).logHandover 1 s.ownId id 0).requestMode .shadow 0 0

/-- A lead hears another channel's first frame with ROLE 2 outside a handover of its own (R380). [DEDUCED, log entry 26] -/
def State.leadConflict (s : State) (id : Nat) : State :=
  let mine := s.lds.tenure.getD 0
  let c := s.flu.cycle
  let s1 : State := { s with lds := { s.lds with peerTenure := s.lds.peerTenure.set (id - 1) (some c) } }
  if mine < c ∨ (mine = c ∧ id < s.ownId) then
    let s2 := (((({ s1 with lds := { s1.lds with yielded := true } } : State).incF F.LDS_CONFLICT_CNT_COUNT).event Ev.lds
      9).logHandover 4 s.ownId id 0).raise Src.leadSuperseded
    s2.refreshXdis
  else s1

/-- Samples of slots that ended since boundary b, where the graph stood as given, are taken back: those slots contain a skipped cycle
(R368, R377). [DEDUCED, log entry 25] -/
def State.takeBack (s : State) (b : Nat) (insts : List InstRun) (sigs : List SigRun) : State :=
  let t0 := 4 * (b - 2)
  let since := fun (r : Nat) => s.graphTick / ratePeriod r - t0 / ratePeriod r
  let one := fun (s : State) (i : Nat) =>
    let x := insts.getD i {}
    let mid := decide (t0 % ratePeriod (s.node i).rate ≠ 0) && decide (x.sample = .committed)
    let y := match mid, x.saved with
      | true, some v => { x with st := v.st, fresh := v.fresh, reseed := v.reseed, pend := v.pend, aged := v.aged }
      | _, _ => x
    let s1 := s.setInst i { y with sample := .skipped, a := none, b := none, retried := false, saved := none }
    (s1.each (s.node i).outs (fun s k =>
      let g := sigs.getD k {}
      s.setSig k { g with v := if mid then g.pv else g.v, age := true, aged := if mid then g.paged else g.aged })).lawShow i
  let s1 := s.each ((List.range 5).filter (fun r => decide (0 < since r))) (fun s r =>
    (s.each (s.ofRate r) one).addF F.LDS_SKIP_CNT_COUNT (since r))
  { s1 with lds := { s1.lds with digests := s1.lds.digests.filter (fun x => decide (x.1 + 2 < b)) } }

/-- A channel that does not lead accepts the first frame with ROLE 2 of a new lead, after the boundary B of its takeover: it logs the
handover, and a shadow skips the sample cycles B - 2 and B - 1, of which one is in execution (R377, R395). B of a commanded handover
follows from its request; another takeover the shadow has seen at B itself, else the present cycle is B.
[DEDUCED, log entries 25 and 26] -/
def State.newLead (s : State) (f : ChFrame) : State :=
  let old := s.lds.leadId
  let c := s.flu.cycle
  if old = 0 ∨ old = f.id ∨ old = s.ownId ∨ (s.lds.peerTenure.getD (f.id - 1) none).isSome = true then s
  else
    let asked := s.lds.prev.any (fun g => decide (g.id = old) && g.hoReq && decide (g.target = f.id))
    let s1 := s.logHandover (if asked then 1 else if s.lds.hoCause = 3 then 3 else 2) old f.id 0
    let s2 : State := { s1 with lds := { s1.lds with leadId := f.id, hoCause := if s1.lds.engage then s1.lds.hoCause else 0 } }
    if s.mode = .shadow ∧ s.gr.s = some (c - 2) then
      let mark := fun (s : State) (b : Nat) =>
        ({ s with lds := { s.lds with skipTo := b }, gr := { s.gr with skipping := true, before := none } } : State).markSkipped
      match asked, s.gr.before with
      | true, some b => if b.1 ≤ c ∧ c ≤ b.1 + 1 then mark (s2.takeBack b.1 b.2.1 b.2.2) b.1 else mark s2 c
      | _, _ => mark s2 (if s.lds.skipTo + 1 = c then c - 1 else c)
    else s2

/-- What follows from an accepted channel frame (R376, R380, R384). -/
def State.channelFrame (s : State) (ring : Nat) (f : ChFrame) : State :=
  let s1 : State := { s with lds := { s.lds with rx := s.lds.rx ++ [(ring, f)] } }
  if f.role ≠ 2 then { s1 with lds := { s1.lds with peerTenure := s1.lds.peerTenure.set (f.id - 1) none } }
  else if !s1.mode.isLead then
    (if (s1.lds.peerTenure.getD (f.id - 1) none).isSome then s1
     else
      let s2 := s1.newLead f
      { s2 with lds := { s2.lds with peerTenure := s2.lds.peerTenure.set (f.id - 1) (some s2.flu.cycle) } })
  else if s1.flag F.LDS_STATUS_HO_PENDING && decide (f.id = s1.lds.hoTarget) then
    (if s1.gdr.hoRelease then s1 else s1.releaseHandover f.id)
  else if (s1.lds.peerTenure.getD (f.id - 1) none).isSome then s1
  else s1.leadConflict f.id

/-! Delivery (R297, R309) -/

/-- Number of bits set in eight bytes. -/
def popCount (b : List Byte) : Nat := (b.map (fun x => (List.range 8).countP (fun i => bit x.toNat i))).foldl (· + ·) 0

/-- A BOOM payload (R309, R314). -/
def State.boomFrame (s : State) (n : Nat) (p : List Byte) : State :=
  if p.length < 24 then s
  else
    let flags := (p.getD 17 0).toNat
    s.setReg (F.FLU_BN_STAT_VALID n).addr (w32 (2 ^ 31 + b2n (bit flags 0) * 2 ^ 30 + b2n (bit flags 1) * 2 ^ 29 +
      (p.getD 16 0).toNat * 2 ^ 16 + popCount ((p.drop 8).take 8) * 2 ^ 8 + popCount (p.take 8)))

/-- Delivery of an accepted frame: of a kind other than SAFETY the first copy, and ring A's where the copies differ; its payload is
offered to the set-point channels there and then. A frame of a reserved PTYPE is not delivered (R286). -/
def State.deliver (s : State) (f : RxFrame) : State :=
  let other := s.flu.rx.find? (fun g => decide (g.hdr.slot = f.hdr.slot) && decide (g.ring ≠ f.ring))
  let s1 : State := { s with flu := { s.flu with rx := s.flu.rx ++ [f] } }
  if 4 ≤ f.hdr.ptype then s1
  else if f.hdr.ptype = 1 then
    (match s1.channelOf f.hdr.slot f.hdr.node with
     | some id => if f.hdr.len = 64 then s1.channelFrame f.ring (ChFrame.parse id f.payload) else s1
     | none => s1)
  else
    let differs := match other with
      | some g => decide (g.payload ≠ f.payload)
      | none => false
    let s2 := s1.when differs (fun s => (s.incF F.FLU_RING_DIFF_CNT_COUNT).event Ev.flu 7)
    s2.when (other.isNone || (differs && decide (f.ring = 0))) (fun s => s.spFlue f.hdr.slot f.payload)

/-- The delivered copy of a slot in the present cycle; a frame of a reserved PTYPE is not delivered (R286). -/
def State.delivered (s : State) (slot : Nat) : Option RxFrame :=
  let l := s.flu.rx.filter (fun f => decide (f.hdr.slot = slot) && decide (f.hdr.ptype < 4))
  match l.head? with
  | none => none
  | some f =>
    match l.find? (fun g => decide (g.ring ≠ f.ring)) with
    | some g => if g.payload ≠ f.payload ∧ g.ring = 0 then some g else some f
    | none => some f

/-! Reception (R290 to R292) -/

/-- A rejection: the counter of its ring, FLU_LAST_REJ and the event. [DEDUCED, log entry 22] -/
def State.reject (s : State) (f : RawFrame) (h : Hdr) (reason : Nat) : State :=
  let cnt := match reason with
    | 0 => byRing f.ring F.FLU_HCRC_A_CNT_COUNT F.FLU_HCRC_B_CNT_COUNT
    | 1 => byRing f.ring F.FLU_CRC_A_CNT_COUNT F.FLU_CRC_B_CNT_COUNT
    | _ => byRing f.ring F.FLU_WINDOW_A_CNT_COUNT F.FLU_WINDOW_B_CNT_COUNT
  let s1 := (s.incF cnt).setReg F.FLU_LAST_REJ_REASON.addr (w32 (reason * 2 ^ 16 + f.ring % 2 * 2 ^ 13 + h.node * 2 ^ 8 + h.slot))
  if reason = 0 then s1 else s1.event Ev.flu (if reason = 1 then 1 else 0)

/-- The compensated start of a frame less its action point in ns, for a hop count (R292). -/
def State.frameDev (s : State) (f : RawFrame) (h : Hdr) (hops : Nat) : Int :=
  (f.tRx : Int) - s.wireNs f.ring h.node - 120 * hops - (fullCycle s.flu.cycle h.cycle * 125000 + actionPoint h.slot)

/-- Whether the node keeps Flue time that a window can be measured against. -/
def Integ.hasTime : Integ → Bool
  | .check _ _ | .kindle _ _ | .synced => true
  | _ => false

/-- Whether a frame is stripped (R290). [DEDUCED, log entry 22] -/
def State.strips (s : State) (f : RawFrame) (h : Hdr) : Bool :=
  let d := s.frameDev f h (s.hopsNom f.ring h.node)
  decide (h.node = s.nodeId) || (s.flu.integ.hasTime && (decide (1000 < d) || decide (d < -1000))) ||
    s.flu.seen.contains (f.ring, h.slot, h.cycle)

/-- A sync frame of another sync node (R322): in its sync slot under the schedule in force at the sender, with the payload's cycle
count in accord with the header. Under a schedule that is not loaded any slot may be that slot. [DEDUCED, log entry 22] -/
def State.isSyncFrame (s : State) (h : Hdr) (p : List Byte) : Bool :=
  bit h.flags 2 && bit s.img.flue.syncNodes h.node && decide (h.node ≠ s.nodeId) && decide (8 ≤ p.length) &&
    decide (ofLe (p.take 2) = h.cycle) && (match s.schedOf h.sched with
      | some x => decide (syncSlot x.slots h.node = some h.slot)
      | none => true)

/-- Integration by listening, and yielding to a lower kindling node (R330, R332). -/
def State.integrates (s : State) (h : Hdr) (p : List Byte) : Bool :=
  s.isSyncFrame h p &&
    (match s.flu.integ with
     | .listen | .kindleDue => true
     | .kindle _ _ => bit h.flags 3 && bit s.img.flue.kindlingNodes h.node && decide (h.node < s.nodeId)
     | _ => false)

/-- A sync frame with another SCHED than the one adopted fails the check of R330 step 3. -/
def State.syncSchedCheck (s : State) (h : Hdr) : State :=
  match s.flu.integ with
  | .check (some k) _ =>
    if h.sched = s.getF F.FLU_SCHED_ACTIVE then s else { s with flu := { s.flu with integ := .check (some k) false } }
  | _ => s

/-- A sync frame of the present cycle: the value of R323, and what it says of schedules (R335, R337). [DEDUCED, log entry 22] -/
def State.syncFrame (s : State) (f : RawFrame) (h : Hdr) (dev : Int) (accepted : Bool) : State :=
  let s1 : State := if -1000 ≤ dev ∧ dev ≤ 1000 then { s with flu := { s.flu with sync := s.flu.sync ++ [(h.node, f.ring, dev)] } }
    else s
  if !accepted then s1
  else
    let known := s1.flu.syncSched.any (fun x => decide (x.1 = h.node))
    let s2 : State := if known then s1 else { s1 with flu := { s1.flu with syncSched := s1.flu.syncSched ++ [(h.node, h.sched)] } }
    if bit s.img.flue.voteNodes h.node ∧ s2.flu.votes.any (fun x => decide (x.1 = h.node)) = false then
      { s2 with flu := { s2.flu with votes := s2.flu.votes ++ [(h.node, h.modeReq)] } }
    else s2

/-- Whether the two tail bytes of a frame disagree (R288). -/
def badTail (f : RawFrame) : Bool := f.eof && decide (f.hopsInv ≠ 255 - f.hops % 256)

/-- Accepting a frame, or rejecting it (R292). [DEDUCED, log entry 22] -/
def State.judgeFrame (s : State) (f : RawFrame) (h : Hdr) : State :=
  if !hcrcOk f.header then s.reject f h 0
  else if !f.eof || decide (f.crc ≠ crc32c (f.header ++ f.payload)) || decide (f.payload.length ≠ h.len) then s.reject f h 1
  else
    let hops := if badTail f then s.hopsNom f.ring h.node else f.hops
    let isSync := s.isSyncFrame h f.payload
    let s1 := s.when isSync (fun s => s.syncSchedCheck h)
    if s1.integrates h f.payload then s1.adopt f.ring hops h (ofLe (f.payload.take 8))
    else if h.cycle ≠ s1.flu.cycle % 65536 then s1.reject f h 2
    else
      let dev := s1.frameDev f h hops
      let p := (s1.getF F.FLU_CFG_PRECISION : Int)
      let ok := decide (-p ≤ dev) && decide (dev ≤ p)
      let s2 := s1.when isSync (fun s => s.syncFrame f h dev ok)
      if !ok then s2.reject f h 3
      else
        let s3 := s2.incF (byRing f.ring F.FLU_RX_A_CNT_COUNT F.FLU_RX_B_CNT_COUNT)
        let s4 : State := { s3 with lds := { s3.lds with anyFrame := true, quiet := 0 } }
        s4.deliver ⟨f.ring, h, f.payload⟩

/-- The bytes that leave where a frame is forwarded: unchanged but for the tail, whose HOPS is one more (R288, R289). -/
def forwardedBytes (f : RawFrame) : List Byte :=
  f.header ++ f.payload ++ leBytes 4 f.crc ++ frameTail (f.hops + 1)

/-- FLUE_FRAME_RECEIVE: a frame arrives on a ring; it is forwarded or stripped, accepted or rejected.
[DESIGN CHOICE, log entry 53] -/
def State.frameReceive (s : State) (f : RawFrame) : State :=
  if !s.running || decide (2 ≤ f.ring) || !s.flag (ringEn f.ring) || !s.flag (ringLock f.ring) then s
  else
    let h := Hdr.parse f.header
    let s0 := (s.when (decide (0 < f.codeErrs)) (fun s =>
      (s.addF (byRing f.ring F.FLU_CODE_A_CNT_COUNT F.FLU_CODE_B_CNT_COUNT) f.codeErrs).event Ev.flu 2)).when (badTail f)
      (fun s => (s.incF F.FLU_TAIL_ERR_CNT_COUNT).event Ev.flu 9)
    if f.inserting ∧ h.node ≠ s.nodeId then
      (({ s0 with flu := { s0.flu with fwd := none, fwdFrame := [], fwdAbort := false } } : State).incF F.FLU_FWD_ABORT_CNT_COUNT).event Ev.flu 10
    else
      let dup := s0.flu.seen.contains (f.ring, h.slot, h.cycle)
      let fwd := if s0.strips f h || s0.flag (ringBypass f.ring) then none else some (f.ring, (f.hops + 1) % 256)
      let seen := (if dup then [] else [(f.ring, h.slot, h.cycle)]) ++ s0.flu.seen
      let s1 : State := { s0 with flu := { s0.flu with fwd := fwd, fwdFrame := if fwd.isSome then forwardedBytes f else [], fwdAbort := false,
                                                       seen := seen.take 512 } }
      if dup || decide (h.node = s.nodeId) then s1 else s1.judgeFrame f h

/-- The meaning of FLUE_FRAME_RECEIVE (R289 to R297). -/
def execFlueFrameReceive (f : RawFrame) (s : State) : Host.Outcome State Fault Refusal := .next (s.frameReceive f)

/-! Transmission (R293, R294) -/

/-- The damper blocks an insertion (R294). -/
def State.damperBlock (s : State) : State := ((s.incF F.FLU_BLOCK_CNT_COUNT).event Ev.flu 5).raise Src.damperBlock

/-- Rings on which an own frame leaves: in use, with the bypass open. -/
def State.txRings (s : State) : Nat := maskOf ([0, 1].map (fun r => s.flag (ringEn r) && !s.flag (ringBypass r)))

/-- A frame has left through the damper. -/
def State.frameSent (s : State) (h : Hdr) (p : List Byte) : State :=
  let sync := bit h.flags 2
  let own := s.ownSlots.findIdx? (fun k => decide (k = h.slot))
  let votes := if sync ∧ bit s.img.flue.voteNodes h.node = true then s.flu.votes ++ [(h.node, h.modeReq)] else s.flu.votes
  let flu := { s.flu with wire := frameBytes h p, sent := s.flu.sent ++ [(h, s.txRings)],
                          syncSent := s.flu.syncSent || sync, votes := votes }
  let s1 : State := { s with flu := flu }
  let s2 := s1.when (decide (h.ptype = 2)) (fun s => s.addF F.FLU_CMD_REC_CNT_COUNT (p.getD 0 0).toNat)
  let s3 := match own with
    | some k => if k < 8 then s2.setF (F.FLU_OWN_AGE_CNT k) h.ageCnt else s2
    | none => s2
  match s.safSlots.findIdx? (fun k => decide (k = h.slot)) with
  | some t => if t < 8 ∧ h.ptype = 1 then s3.setF (F.SAF_TX_SEQ t) (ofLe (p.take 2)) else s3
  | none => s3

/-- Where the damper's window of an own frame closes, in ns after its action point (R293). -/
def State.windowEnd (s : State) (slot : Nat) : Int :=
  if slot < 48 then 8 * (20 + ((s.slots.getD slot {}).len : Int)) + 125 else 250 * (s.getF F.FLU_DYN_GRANT_LEN : Int) - 375

/-- The frame that passes at the own action point is ended with ABORT (R291): how much of it has left by then is free.
[DESIGN CHOICE, log entry 5] -/
def State.fwdCut (s : State) : State :=
  let n := s.fresh.1.toNat % max 1 s.flu.fwdFrame.length
  let s1 := s.fresh.2
  { s1 with flu := { s1.flu with fwdFrame := s1.flu.fwdFrame.take n, fwdAbort := true } }

/-- FRAME_TRANSMIT: the own frame with this SLOT at its action point; `dev` is its start on the damper's timeline less the
action point in ns, `fin` its end on that timeline less the action point, `passing` says that a forwarded frame passes.
[DESIGN CHOICE, log entry 53] -/
def State.frameTransmit (s : State) (slot : Nat) (dev fin : Int) (passing : Bool) : State :=
  if !s.running then s
  else
    match s.flu.out.find? (fun x => decide (x.1.slot = slot)) with
    | none => s
    | some (h, p) =>
      let s0 : State := { s with flu := { s.flu with out := s.flu.out.filter (fun x => decide (x.1.slot ≠ slot)) } }
      if s.flu.withhold then { s0 with flu := { s0.flu with withhold := false } }
      else if dev < -125 ∨ 125 < dev ∨ s.flag F.FLU_STATUS_DAMPER_OPEN_OK = false ∨ s.flag F.FLU_DAMPER_CLOSED = true then
        s0.damperBlock
      else
        let s1 := s0.when passing (fun s => (s.fwdCut.incF F.FLU_FWD_ABORT_CNT_COUNT).event Ev.flu 10)
        if s.windowEnd slot < fin then ((s1.incF F.FLU_TRUNC_CNT_COUNT).event Ev.flu 4).raise Src.damperBlock else s1.frameSent h p

/-- The meaning of FRAME_TRANSMIT (R282, R293, R294). -/
def execFrameTransmit (slot : Nat) (dev fin : Int) (passing : Bool) (s : State) : Host.Outcome State Fault Refusal :=
  .next (s.frameTransmit slot dev fin passing)

end Sys2Proof.Machine
end

