-- ==== Sys2Proof/Machine/Exchange.lean ====
section
/-!
DEFINITION. What the channels exchange over the Flue (R362 to R371) and the freeze of the own frames at a cycle boundary (R284,
R295, R296, R302, R305).
-/
namespace Sys2Proof.Machine

open Sys2Proof

/-! Intake records (R364) -/

/-- W, the value words of a record. -/
def State.recWords (s : State) : Nat := 4 * s.recT1.length + s.recT0.length

/-- Bytes of a record's header, values and age map. -/
def recBytes (w : Nat) : Nat := 8 + 4 * w + mapBytes w

/-- E_CAP under a list of slots. -/
def State.eCap (s : State) (l : List Slot) : Nat := (128 * (intakeSlots l s.nodeId).length - recBytes s.recWords) / 8

/-- The rate class of a carried word's instance. -/
def State.carryRate (s : State) (c : Carry) : Nat := (s.node (s.carryInst c)).rate

/-- The stream entries of the record of S (R370 step 2): carried-word index, age flag, ROUND_START, value; and the words sent in
the round by then. -/
def State.streamOut (s : State) (sc : Nat) : List (Nat × Bool × Bool × Word) × List Nat :=
  let all := s.carried.zipIdx
  let sent := if all.all (fun c => s.lds.sent.contains c.2) then [] else s.lds.sent
  let due := (all.filter (fun c => !sent.contains c.2 && (slotsEnding sc 3).contains (s.carryRate c.1))).take (s.eCap s.slots)
  (due.zipIdx.map (fun x => (x.1.2, (s.carryVal x.1.1).2, sent.isEmpty && decide (x.2 = 0), (s.carryVal x.1.1).1)),
    sent ++ due.map (fun c => c.2))

/-- A stream entry's 8 bytes. -/
def streamBytes (e : Nat × Bool × Bool × Word) : List Byte :=
  leBytes 4 (e.1 % 2 ^ 24 + b2n e.2.1 * 2 ^ 24 + b2n e.2.2.1 * 2 ^ 25) ++ leBytes 4 e.2.2.2.toNat

/-- Reading an entry. -/
def streamParse (b : List Byte) : Nat × Bool × Bool × Word :=
  let d := ofLe (b.take 4)
  (d % 2 ^ 24, bit d 24, bit d 25, w32 (ofLe ((b.drop 4).take 4)))

/-- The record of a lead for S from the words sampled in it; W = 0 and E = 0 in its first cycle (R370, R377). -/
def recordBytes (sc w : Nat) (vals : List (Word × Bool)) (es : List (Nat × Bool × Bool × Word)) : List Byte :=
  leBytes 4 sc ++ leBytes 2 w ++ leBytes 2 es.length ++ wordsMap vals ++ es.flatMap streamBytes

/-- Whether a record is the complete record of S that this graph reads. -/
def State.recordOk (s : State) (bs : List Byte) (sc : Nat) : Bool :=
  let f := fun (o n : Nat) => ofLe ((bs.drop o).take n)
  decide (f 0 4 = sc % 2 ^ 32) && decide (f 4 2 = s.recWords) && decide (recBytes s.recWords + 8 * f 6 2 ≤ bs.length)

/-- The stream entries a record carries. -/
def State.recordStream (s : State) (bs : List Byte) : List (Nat × Bool × Bool × Word) :=
  (List.range (ofLe ((bs.drop 6).take 2))).map (fun k => streamParse ((bs.drop (recBytes s.recWords + 8 * k)).take 8))

/-- The intake record that a lead's record gives at tick j (R364, R367). -/
def State.recordTick (s : State) (j : Nat) : List (Nat × Word × Bool) :=
  let t1 := s.recT1
  let at' := fun (n : Nat) => wordAt (s.lds.cur.drop 8) s.recWords n
  let now := t1.zipIdx.map (fun x => (x.1, at' (j * t1.length + x.2)))
  if j = 0 then now ++ s.recT0.zipIdx.map (fun x => (x.1, at' (4 * t1.length + x.2)))
  else now ++ s.gr.intake.filter (fun x => !t1.contains x.1)

/-- A shadow writes the entries of the record over its own words (R370 step 3). -/
def State.applyStream (s : State) : State :=
  let set := s.carried
  let s1 := s.each s.lds.stream (fun s e =>
    match set[e.1]? with
    | none => s
    | some c =>
      let new := (e.2.2.2, (match c with
        | .sig _ => e.2.1
        | .st _ _ => false))
      let s1 := (s.when (decide (s.carryVal c ≠ new)) (fun s => s.incF F.LDS_STREAM_FIX_CNT_COUNT)).carryPut c new
      let s2 := match c with
        | .st i _ => s1.setInst i ((s1.node i).follow (s1.inst i))
        | .sig _ => s1
      let l := s2.lds
      let start := e.2.2.1 && !s2.flag F.LDS_STATUS_ALIGNED
      let l1 := if start then { l with inRound := true, sent := [] } else l
      { s2 with lds := if l1.inRound then { l1 with sent := l1.sent ++ [e.1] } else l1 })
  let whole := s1.lds.inRound && (List.range set.length).all (fun k => s1.lds.sent.contains k)
  { s1 with lds := { s1.lds with stream := [], roundDone := s1.lds.roundDone || whole || (set.isEmpty && !s1.lds.cur.isEmpty) } }

/-! End of a cycle for the exchange -/

/-- The peer registers (R395) and the count of frames not heard (R396). [DESIGN CHOICE, log entry 23] -/
def State.peerStat (s : State) (heard : List ChFrame) : State :=
  s.each ([1, 2, 3].filter (fun id => decide (id ≠ s.ownId))) (fun s id =>
    match heard.find? (fun f => decide (f.id = id)) with
    | some f =>
      let on := fun (ring : Nat) => s.lds.rx.any (fun x => decide (x.1 = ring) && decide (x.2.id = id))
      ((s.setReg (F.LDS_PEER_STAT_HEARD (id - 1)).addr (w32 (2 ^ 31 + b2n (on 0) * 2 ^ 30 + b2n (on 1) * 2 ^ 29 +
        f.flags % 256 * 2 ^ 16 + f.mode % 256 * 2 ^ 8 + f.role % 4))).setReg (F.LDS_PEER_DIGEST_VALUE (id - 1)).addr
        (w32 f.digest)).setReg (F.LDS_PEER_DCYCLE_VALUE (id - 1)).addr (w32 f.dcycle)
    | none =>
      (s.setFlag (F.LDS_PEER_STAT_HEARD (id - 1)) false).when
        (s.flag (F.LDS_PEER_CFG_PRESENT (id - 1)) && decide (s.flu.integ = .synced)) (fun s => s.incF F.LDS_CHFRAME_LOST_CNT_COUNT))

/-- The lead among frames: the lead known before, else the lowest ID with ROLE 2. -/
def State.leadAmong (s : State) (l : List ChFrame) : Option ChFrame :=
  let r := l.filter (fun f => decide (f.role = 2))
  match r.find? (fun f => decide (f.id = s.lds.leadId)) with
  | some f => some f
  | none => r.head?

/-- The bytes of a lead's intake slots in the cycle that ends, none where one was not received. -/
def State.leadRecord (s : State) (id : Nat) : Option (List Byte) :=
  let n := s.getF (F.LDS_PEER_CFG_NODE_ID (id - 1))
  let l := (intakeSlots s.slots n).map s.delivered
  if id = 0 ∨ id = s.ownId ∨ l.isEmpty = true then none
  else l.foldr (fun x acc => match x, acc with
    | some f, some bs => if f.hdr.node = n then some (f.payload ++ bs) else none
    | _, _ => none) (some [])

/-- The end of a cycle for the channel frames: who was heard, who leads, and the lead's record for the next cycle.
[DESIGN CHOICE, log entry 23] -/
def State.exchangeEnd (s : State) : State :=
  let heard := s.heardNow
  let lead := s.leadAmong heard
  let s2 := (s.peerStat heard).xdisOkSeen (heard.filter (fun f => decide (f.role = 2)))
  let id := if s.mode.isLead then s.ownId else (lead.map (fun f => f.id)).getD s.lds.leadId
  let first := (lead.map (fun f => f.isFirst)).getD false
  let l := { s2.lds with older := s2.lds.prev, prev := heard, leadId := id, lead := (s.leadRecord id).map (fun b => (b, first)),
                         leadHeard := if lead.isSome then some s.flu.cycle else s2.lds.leadHeard }
  ({ s2 with lds := l } : State).setF F.LDS_STATUS_LEAD_ID (if s.mode.isLead then s.ownId else (lead.map (fun f => f.id)).getD 0)

/-! The digest comparison (R371) -/

/-- A difference found by an aligned shadow; in triplex the votes of the cycle decide whether ALIGNED clears (R372). -/
def State.digestMismatch (s : State) : State :=
  let c := s.flu.cycle
  let ms := c :: s.lds.mismatches.filter (fun m => decide (c < m + 8000))
  let tri := decide (s.topology = 3)
  let s1 := (({ s with lds := { s.lds with mismatches := ms, disagree := true, undecided := tri } } : State).incF
    F.LDS_MISMATCH_CNT_COUNT).event Ev.lds 0
  let s2 := s1.when (!tri) State.clearAligned
  s2.when (decide (max 1 (s.getF F.LDS_CFG_MISMATCH_LIMIT) ≤ ms.length)) (fun s => s.raise Src.digestDiverge)

/-- A shadow compares D(S), S = C - 3, with the lead's frame of S + 1. -/
def State.digestCompare (s : State) : State :=
  let s0 : State := { s with lds := { s.lds with disagree := false, undecided := false } }
  let sc := s.flu.cycle - 3
  match s.digestAt sc, s.leadAmong s.lds.older with
  | some d, some f =>
    if s.mode ≠ .shadow ∨ f.dvalid ≠ 1 ∨ f.dcycle ≠ sc % 2 ^ 32 then s0
    else
      let s1 := ((s0.setReg F.LDS_DIGEST_OWN_DIGEST.addr d).setReg F.LDS_DIGEST_LEAD_DIGEST.addr (w32 f.digest)).setReg
        F.LDS_DIGEST_CYCLE_S.addr (w32 sc)
      let same := decide (f.digest = d.toNat)
      if s.flag F.LDS_STATUS_ALIGNED then (if same then s1 else s1.digestMismatch)
      else if s.lds.roundDone then
        let n := if same then s.lds.agree + 1 else 0
        let s2 : State := { s1 with lds := { s1.lds with agree := n } }
        s2.when (decide (max 1 (s.getF F.LDS_TIMING_ALIGN_AGREE) ≤ n)) (fun s => s.setFlag F.LDS_STATUS_ALIGNED true)
      else s1
  | _, _ => s0

/-! The freeze -/

/-- n free bytes (log entry 5). [DESIGN CHOICE, log entry 5] -/
def State.freeBytes (s : State) (n : Nat) : List Byte × State :=
  (((List.range (ceilDiv n 4)).flatMap (fun i => leBytes 4 (Config.freeWord (s.free + i)).toNat)).take n,
    { s with free := s.free + ceilDiv n 4 })

/-- The own channel frame (R363, R369); DCYCLE and DIGEST are free while DVALID is 0. [DESIGN CHOICE, log entry 24] -/
def State.chFrame (s : State) : ChFrame × State :=
  let lead := s.mode.isLead
  let sc := if lead then s.flu.cycle - 1 else s.flu.cycle - 3
  let d := if s.mode = .join then none else s.digestAt sc
  let first := s.lds.first && decide (s.lds.tenure = some (s.flu.cycle - 1))
  let flags := maskOf [s.readyBit, s.flag F.LDS_STATUS_ALIGNED, first, s.flag F.LDS_STATUS_HO_PENDING, decide (s.sys.xdisOut = .low),
    decide (s.mode = .shadow) && !s.flag F.LDS_STATUS_XDIS_OK, s.lds.disagree, decide (s.mode = .leadDegraded)]
  let tap := fun (k : Nat) => s.lds.tapNow.getD k (0, true)
  ({ id := s.ownId, role := s.role, mode := s.mode.code, flags := flags,
     target := if s.flag F.LDS_STATUS_HO_PENDING then s.lds.hoTarget else 0, f := if lead then s.lds.f else 0,
     dvalid := b2n d.isSome, dcycle := if d.isSome then sc % 2 ^ 32 else (Config.freeWord s.free).toNat,
     digest := (d.getD (Config.freeWord (s.free + 1))).toNat, taps := (List.range 8).map (fun k => (tap k).1),
     tapAge := maskOf ((List.range 8).map (fun k => (tap k).2)) }, { s with free := s.free + 2 })

/-- The stream of the own intake slots (R364): a lead's record of S = C - 1; the spec says nothing of the slots of a channel that
does not lead, so their bytes are free. [DESIGN CHOICE, log entry 24] -/
def State.ownRecord (s : State) : List Byte × State :=
  let n := 128 * (intakeSlots s.slots s.nodeId).length
  if !s.mode.isLead then s.freeBytes n
  else
    let sc := s.flu.cycle - 1
    if s.lds.tenure = some s.flu.cycle ∨ s.lds.tenure = none then ((recordBytes sc 0 [] [] ++ List.replicate n 0).take n, s)
    else
      let w := s.recWords
      let vals := ((s.lds.values ++ s.lds.values0) ++ List.replicate w (0, true)).take w
      let r := s.streamOut sc
      ((recordBytes sc w vals r.1 ++ List.replicate n 0).take n, { s with lds := { s.lds with sent := r.2 } })

/-- A point record (R305). -/
def State.cmdRecord (s : State) (e : SecEntry) : List Byte :=
  let r := s.ptRec e.point
  leBytes 1 (ptField r 0x10 1 % 32 + b2n e.cmd.on * 32) ++
    leBytes 3 (ptField r 0x11 1 % 64 + (if e.cmd.on then e.cmd.duty else 0) * 64 + ptField r 0x16 1 * 65536) ++ leBytes 4 e.cmd.action

/-- Taking up to n commands from the head of the queue: the payload, and each taken command is marked as sent.
[DESIGN CHOICE, log entry 24] -/
def State.takeCmds (s : State) (n : Nat) : List Byte × State :=
  let l := s.sec.queue.take n
  let rest := s.sec.queue.drop n
  let s1 := s.each l (fun s e => match (s.pt e.point).pend with
    | some q => if q = e.cmd then s.setPt e.point { s.pt e.point with pend := some { q with sent := true } } else s
    | none => s)
  (leBytes 1 l.length ++ leBytes 1 (s.getF F.SEC_PWM_FREQ) ++ [0, 0] ++ l.flatMap s.cmdRecord,
    ({ s1 with sec := { s1.sec with queue := rest } } : State).setF F.SEC_QUEUE_DEPTH rest.length)

/-- FLUE_TX instances that target a slot. -/
def State.txWriters (s : State) (slot : Nat) : List Nat :=
  s.allInst.filter (fun i => decide ((s.node i).ty = 91) && decide (((s.node i).params.getD 0 0).toNat = slot))

/-- A frame's header from its slot, kind, length, READY, AGE and AGE_CNT. -/
def State.hdr (s : State) (slot kind len : Nat) (ready age : Bool) (cnt : Nat) : Hdr :=
  let sync := s.flag F.FLU_NODE_SYNC && decide (syncSlot s.slots s.nodeId = some slot)
  { slot := slot, cycle := s.flu.cycle % 65536, node := s.nodeId, modeReq := s.getF F.FLU_SCHED_REQUEST, ptype := kind,
    flags := maskOf [ready, age, sync, s.flag F.FLU_NODE_KINDLING], ageCnt := cnt, len := len,
    dynReq := if s.ownSlots.head? = some slot then s.flu.dynReq else 0, sched := s.getF F.FLU_SCHED_ACTIVE }

/-- An ordinary slot's payload from its transmit buffer (R296, R322, R400). [DESIGN CHOICE, log entry 24] -/
def State.freezeBuf (s : State) (slot : Nat) : (Hdr × List Byte) × State :=
  let k := s.slots.getD slot {}
  let b := (s.flu.tx.find? (fun b => decide (b.slot = slot))).getD { slot := slot, data := List.replicate k.len 0 }
  let sync := s.flag F.FLU_NODE_SYNC && decide (syncSlot s.slots s.nodeId = some slot)
  let fresh := (s.txWriters slot).all (fun i => b.written.contains i)
  let ready := b.ready || fresh
  let cnt := if fresh || !ready then 0 else min 255 (b.ageCnt + 1)
  let data := if ready then b.data else List.replicate k.len 0
  let data := if sync then putBytes data 0 (leBytes 8 s.flu.cycle) else data
  let data := if k.kind = 1 then safPayload slot s.nodeId b.seq data else data
  let b' := { b with written := [], ageCnt := cnt, ready := ready, seq := (b.seq + 1) % 65536 }
  let s1 : State := { s with flu := { s.flu with tx := s.flu.tx.map (fun x => if x.slot = slot then b' else x) } }
  ((s.hdr slot k.kind k.len ready (!fresh) cnt, data),
    s1.when (ready && !fresh) (fun s => (s.incF F.FLU_REPEAT_CNT_COUNT).event Ev.flu 6))

/-- One own static slot at the freeze; `rec` is the stream of the intake slots. -/
def State.freezeSlot (s : State) (stream : List Byte) (slot : Nat) : (Hdr × List Byte) × State :=
  let k := s.slots.getD slot {}
  let mine := intakeSlots s.slots s.nodeId
  let exch := decide (2 ≤ s.topology)
  if exch && decide (chSlot s.slots s.nodeId = some slot) then
    ((s.hdr slot k.kind k.len true false 0, s.chFrame.1.bytes), s.chFrame.2)
  else if exch && mine.contains slot then
    ((s.hdr slot k.kind k.len true false 0, (stream.drop (128 * mine.findIdx (fun x => decide (x = slot)))).take 128), s)
  else if k.kind = 2 then
    let r := s.takeCmds (if s.mode.isLead then min 15 ((k.len - 4) / 8) else 0)
    ((s.hdr slot k.kind k.len true false 0, (r.1 ++ List.replicate k.len 0).take k.len), r.2)
  else s.freezeBuf slot

/-- The static frames, in ascending slot order. -/
def State.freezeStatic (s : State) (stream : List Byte) : List Nat → List (Hdr × List Byte) × State
  | [] => ([], s)
  | slot :: t =>
    let r := s.freezeSlot stream slot
    let rest := r.2.freezeStatic stream t
    (r.1 :: rest.1, rest.2)

/-- Whether the schedule in force permits a dynamic command frame. -/
def State.dynCmd (s : State) : Bool := ((s.schedOf (s.getF F.FLU_SCHED_ACTIVE)).map (fun x => x.dynCmd)).getD false

/-- The dynamic frame in a granted block (R302). [DESIGN CHOICE, log entry 24] -/
def State.freezeDyn (s : State) : List (Hdr × List Byte) × State :=
  let n := s.getF F.FLU_DYN_GRANT_LEN
  if s.mode.isLead && s.dynCmd && decide (0 < n) && !s.flag F.FLU_DYN_ABSTAIN && !s.sec.queue.isEmpty then
    let r := s.takeCmds 31
    ([({ s.hdr (48 + s.getF F.FLU_DYN_GRANT_FIRST) 2 r.1.length true false 0 with dynReq := 0 }, r.1)], r.2)
  else ([], s)

/-- A granted block that stays unused counts once (R315); one left by abstaining has been counted. -/
def State.dynUnused (s : State) : State :=
  let used := s.flu.out.any (fun x => decide (48 ≤ x.1.slot))
  s.when (decide (0 < s.getF F.FLU_DYN_GRANT_LEN) && !s.flag F.FLU_DYN_ABSTAIN && !used) (fun s =>
    (s.incF F.FLU_DYN_DEFER_CNT_COUNT).event Ev.flu 8)

/-- The freeze at a boundary (R295): in IN_SYNC all own frames, in lone kindling the sync frame alone (R331). DYN_REQ is known
once the static frames have taken their commands. -/
def State.freezeFrames (s : State) : State :=
  let slots := match s.flu.integ with
    | .synced => s.ownSlots
    | .kindle _ _ => (syncSlot s.slots s.nodeId).toList
    | _ => []
  let own := match chSlot s.slots s.nodeId with
    | some c => slots.contains c && s.readyBit
    | none => false
  let s : State := { s with lds := { s.lds with ownReady := s.mode.sends && own } }
  if !s.mode.sends || slots.isEmpty then
    (({ s with flu := { s.flu with out := [], dynReq := 0 } } : State).setF F.FLU_DYN_REQ 0).dynUnused
  else
    let r := s.ownRecord
    let st := r.2.freezeStatic r.1 slots
    let s1 := st.2
    let req := if s1.mode.isLead && s1.dynCmd && !s1.sec.queue.isEmpty && decide (s1.flu.integ = .synced) then 11 else 0
    let low := s1.ownSlots.head?
    let frames := st.1.map (fun x => if some x.1.slot = low then ({ x.1 with dynReq := req }, x.2) else x)
    let dy := if s1.flu.integ = .synced then s1.freezeDyn else ([], s1)
    (({ dy.2 with flu := { dy.2.flu with out := frames ++ dy.1, dynReq := req } } : State).setF F.FLU_DYN_REQ req).dynUnused

end Sys2Proof.Machine
end

