-- ==== Sys2Proof/Machine/Image.lean ====
section
/-!
DEFINITION. The Colenquel image (R41 to R57): header, directory, sections, and the graph that LOAD places. The checks of
R50 follow in `Checks.lean` and `RegChecks.lean`.
-/
namespace Sys2Proof.Machine

open Sys2Proof

/-- A failed check (R50): its code, the TYPE of the failing section (0 where none) and the image byte offset. -/
structure Fail where
  code : Nat
  sect : Nat
  addr : Nat
deriving DecidableEq, Repr

/-- A check: the failure where it is bad. -/
def failIf (bad : Bool) (code sect addr : Nat) : Option Fail := if bad then some ⟨code, sect, addr⟩ else none

/-- The first failure of a list of checks. -/
def firstFail (l : List (Option Fail)) : Option Fail := l.findSome? id

/-- `n` bytes at offset `o` as a little-endian number. -/
def le (b : List Byte) (o n : Nat) : Nat := ofLe ((b.drop o).take n)

/-- The same as a two's complement number. -/
def leI (b : List Byte) (o n : Nat) : Int := toInt (8 * n) (le b o n)

/-- Offset of the first byte that is not 0 in [lo, hi), none where all are. -/
def firstSet (b : List Byte) (lo hi : Nat) : Option Nat :=
  (((b.drop lo).take (hi - lo)).findIdx? (fun x => decide (x ≠ 0))).map (fun k => lo + k)

/-- Records of `n` bytes, at most `fuel` of them. -/
def records (n : Nat) : Nat → List Byte → List (List Byte)
  | 0, _ => []
  | k + 1, b => if b.length < n then [] else b.take n :: records n k (b.drop n)

/-- The whole records of a byte string. -/
def recordsOf (n : Nat) (b : List Byte) : List (List Byte) := records n (b.length / n) b

/-- Little-endian words. -/
def wordsOf (b : List Byte) : List Word := (recordsOf 4 b).map (fun r => w32 (ofLe r))

/-! Header and trailer (R42, R49) -/

/-- Fields of the header by offset and size. -/
def hImageLen (h : List Byte) : Nat := le h 0x08 4
def hSignedLen (h : List Byte) : Nat := le h 0x0C 4
def hVersion (h : List Byte) : Nat := le h 0x10 4
def hKeyIndex (h : List Byte) : Nat := le h 0x17 1
def hChannelId (h : List Byte) : Nat := le h 0x18 1
def hTopology (h : List Byte) : Nat := le h 0x19 1
def hSections (h : List Byte) : Nat := le h 0x1A 2

/-- The first 256 bytes of slot k of the flash (R39). -/
def State.slotHeader (s : State) (k : Nat) : List Byte := Mem.read 0xFF s.flash (k * 0x200000) 256

/-- The bytes of the image in slot k, IMAGE_LEN of them. -/
def State.slotBytes (s : State) (k : Nat) : List Byte :=
  Mem.read 0xFF s.flash (k * 0x200000) (hImageLen (s.slotHeader k))

/-- The version floor (R52). -/
def State.versionFloor (s : State) : Nat := s.otp.floors.foldl max 0

/-- SHA-256 of the signed bytes (R49). -/
def imgDigest (b : List Byte) : List Byte := sha256 (b.take (hSignedLen b))

/-- Checks 0x11 to 0x15 on the header; `life` and `otp` are those of the device. -/
def hdrEarly (s : State) (h : List Byte) : Option Fail :=
  firstFail [
    failIf (decide (h.take 4 ≠ [0x43, 0x4C, 0x51, 0x31])) 0x11 0 0,
    failIf (decide (le h 0x04 2 ≠ 1)) 0x12 0 0x04,
    failIf (decide (le h 0x06 2 ≠ 0x100)) 0x12 0 0x06,
    failIf (decide (hImageLen h < 384 ∨ 2097152 < hImageLen h ∨ hImageLen h % 64 ≠ 0)) 0x13 0 0x08,
    failIf (decide (hSignedLen h ≠ hImageLen h - 128)) 0x13 0 0x0C,
    failIf (decide (le h 0x14 2 ≠ 0x9430)) 0x14 0 0x14,
    failIf (decide ((s.reg F.SYS_ID_PART.addr).toNat / 256 % 256 < le h 0x16 1)) 0x14 0 0x16,
    failIf (decide (3 < hKeyIndex h) || (s.otp.keys.getD (hKeyIndex h) none).isNone || bit s.otp.revoked (hKeyIndex h))
      0x15 0 0x17]

/-- Checks 0x16 to 0x18 on the whole image. [DESIGN CHOICE, log entry 10] -/
def imgAuthentic (s : State) (b : List Byte) : Option Fail :=
  let t := hImageLen b - 128
  let num := fun o => ofBe ((b.drop (t + o)).take 32)
  (failIf (decide (some (ofBe (sha256 ((b.drop t).take 64))) ≠ s.otp.keys.getD (hKeyIndex b) none)) 0x16 0 t).or
    ((failIf (!ecdsaVerify (ofBe (imgDigest b)) (num 0) (num 0x20) (num 0x40) (num 0x60)) 0x17 0 (t + 0x40)).or
      (failIf (decide (s.otp.lifecycle = 2) && decide (hVersion b < s.versionFloor)) 0x18 0 0x10))

/-- Check 0x19: reserved bytes, CHANNEL_ID against the straps (R360), TOPOLOGY, SECTION_COUNT. -/
def hdrLate (s : State) (b : List Byte) : Option Fail :=
  firstFail [
    (firstSet b 0x1C 0x20).map (fun o => ⟨0x19, 0, o⟩),
    (firstSet b 0x38 0x100).map (fun o => ⟨0x19, 0, o⟩),
    failIf (decide (hChannelId b = 0 ∨ 3 < hChannelId b ∨ hChannelId b ≠ s.sys.strap)) 0x19 0 0x18,
    failIf (decide (hTopology b = 0 ∨ 3 < hTopology b ∨ hTopology b < hChannelId b)) 0x19 0 0x19,
    failIf (decide (hSections b < 7 ∨ 10 < hSections b)) 0x19 0 0x1A]

/-! Directory (R43, R44) -/

/-- A directory entry. -/
structure Sect where
  ty : Nat
  off : Nat
  len : Nat
  crc : Nat
deriving DecidableEq, Repr

/-- Record size of a section type; FLUE and TABLE are judged by their own rules. -/
def sectUnit (t : Nat) : Nat :=
  match t with
  | 1 => 16 | 2 => 8 | 3 => 4 | 4 => 2 | 5 => 8 | 6 => 4 | 8 => 32 | 9 => 2 | _ => 1

/-- The directory entry at offset `o`. -/
def sectAt (b : List Byte) (o : Nat) : Sect := ⟨le b o 2, le b (o + 4) 4, le b (o + 8) 4, le b (o + 12) 4⟩

/-- The directory as its entries stand. -/
def directory (b : List Byte) : List Sect := (List.range (hSections b)).map (fun i => sectAt b (0x100 + 16 * i))

/-- An entry breaks R41 or R43 after an entry of type `prev` whose section ends at `pos`. -/
def sectBad (b : List Byte) (o prev pos : Nat) : Bool :=
  let x := sectAt b o
  decide (x.ty ≤ prev ∨ 10 < x.ty ∨ le b (o + 2) 2 ≠ 0 ∨ x.off % 64 ≠ 0 ∨ x.off < pos ∨ hSignedLen b < x.off + x.len
    ∨ x.len % sectUnit x.ty ≠ 0) ||
  (decide (x.len = 0) && (decide (x.ty < 3 ∨ 5 < x.ty) || decide (x.crc ≠ 0)))

/-- Check 0x20 from entry i on: the entries, and the padding before each section and after the last. -/
def dirWalk (b : List Byte) : Nat → Nat → Nat → Nat → Option Fail
  | 0, _, _, pos => (firstSet b pos (hSignedLen b)).map (fun o => ⟨0x20, 0, o⟩)
  | n + 1, i, prev, pos =>
    let o := 0x100 + 16 * i
    let x := sectAt b o
    if sectBad b o prev pos then some ⟨0x20, if 1 ≤ x.ty ∧ x.ty ≤ 10 then x.ty else 0, o⟩
    else ((firstSet b pos x.off).map (fun p => (⟨0x20, 0, p⟩ : Fail))).or (dirWalk b n (i + 1) x.ty (x.off + x.len))

/-- Check 0x20. [DESIGN CHOICE, log entry 10] -/
def dirCheck (b : List Byte) : Option Fail :=
  let n := hSections b
  if hSignedLen b < 0x100 + 16 * n then some ⟨0x20, 0, 0x100⟩
  else
    (dirWalk b n 0 0 (0x100 + 16 * n)).or
      (((List.range' 1 7).find? (fun t => !(directory b).any (fun x => decide (x.ty = t)))).map (fun t => ⟨0x20, t, 0x100⟩))

/-- Check 0x21. [DESIGN CHOICE, log entry 10] -/
def crcCheck (b : List Byte) : Option Fail :=
  (directory b).findSome? (fun x => failIf (decide (crc32c ((b.drop x.off).take x.len) ≠ x.crc)) 0x21 x.ty x.off)

/-- Body and start of a section; an absent one is empty. -/
def sect (b : List Byte) (t : Nat) : Option Sect := (directory b).find? (fun x => decide (x.ty = t))
def body (b : List Byte) (t : Nat) : List Byte := ((sect b t).map (fun x => (b.drop x.off).take x.len)).getD []
def start (b : List Byte) (t : Nat) : Nat := ((sect b t).map (fun x => x.off)).getD 0

/-! The block table (R83) -/

/-- Types 0 to 27. -/
def blockTab0 : List (Nat × Nat × Nat × Nat × Nat) :=
  [(1, 1, 1, 0, 1), (2, 32, 1, 0, 0), (2, 8, 1, 0, 1), (1, 1, 1, 1, 2), (1, 1, 1, 4, 5), (1, 1, 1, 1, 2),
    (2, 2, 1, 0, 2), (1, 1, 1, 66, 1), (1, 1, 1, 2, 0), (1, 1, 1, 2, 2), (2, 2, 1, 1, 3), (1, 1, 1, 1, 0),
    (1, 1, 1, 0, 1), (1, 1, 1, 0, 0), (3, 3, 2, 0, 0), (1, 1, 1, 1, 2), (1, 1, 1, 1, 2), (2, 2, 1, 0, 2),
    (2, 32, 1, 0, 0), (2, 16, 2, 0, 0), (2, 8, 1, 0, 1), (2, 2, 1, 1, 1), (1, 1, 1, 1, 2), (1, 1, 1, 1, 1),
    (2, 2, 1, 1, 1), (1, 1, 1, 0, 1), (1, 8, 1, 0, 0), (1, 1, 1, 0, 1)]
/-- Types 28 to 55. -/
def blockTab1 : List (Nat × Nat × Nat × Nat × Nat) :=
  [(2, 2, 1, 0, 1), (1, 1, 1, 0, 8), (3, 3, 2, 2, 8), (3, 3, 2, 4, 8), (5, 5, 3, 4, 0), (5, 5, 3, 6, 0),
    (3, 3, 2, 3, 9), (1, 1, 1, 2, 3), (1, 1, 1, 3, 2), (6, 6, 2, 6, 7), (4, 4, 2, 4, 12), (4, 4, 2, 0, 3),
    (3, 3, 2, 0, 0), (2, 2, 3, 0, 0), (3, 3, 2, 0, 0), (3, 3, 2, 0, 0), (1, 1, 2, 0, 0), (3, 3, 3, 0, 1),
    (3, 3, 3, 0, 1), (4, 4, 3, 1, 1), (3, 3, 6, 2, 1), (1, 1, 2, 3, 2), (1, 1, 1, 0, 2), (3, 3, 2, 4, 3),
    (2, 2, 2, 0, 1), (3, 3, 1, 1, 2), (5, 5, 3, 8, 11), (2, 2, 2, 4, 2)]
/-- Types 56 to 83. -/
def blockTab2 : List (Nat × Nat × Nat × Nat × Nat) :=
  [(2, 2, 2, 6, 11), (4, 4, 4, 20, 64), (2, 2, 2, 2, 3), (3, 3, 1, 4, 3), (2, 2, 2, 3, 2), (3, 3, 2, 0, 2),
    (2, 2, 2, 1, 2), (3, 3, 2, 2, 2), (3, 9, 1, 0, 0), (3, 3, 1, 0, 0), (1, 32, 1, 0, 0), (2, 2, 1, 1, 1),
    (6, 6, 3, 2, 3), (1, 1, 1, 1, 1), (6, 6, 2, 4, 14), (4, 4, 2, 3, 6), (4, 4, 2, 2, 3), (3, 3, 1, 2, 2),
    (3, 3, 2, 0, 4), (4, 4, 1, 2, 4), (8, 8, 8, 6, 4), (2, 2, 2, 0, 1), (8, 8, 1, 64, 2), (2, 2, 0, 32, 2),
    (1, 1, 1, 0, 1), (1, 1, 0, 0, 1), (4, 4, 1, 32, 18), (3, 3, 1, 0, 4)]
/-- Types 84 to 111. -/
def blockTab3 : List (Nat × Nat × Nat × Nat × Nat) :=
  [(2, 2, 1, 0, 0), (2, 2, 1, 0, 16), (2, 2, 1, 0, 1), (1, 1, 0, 0, 1), (3, 3, 0, 0, 1), (1, 1, 0, 0, 1),
    (1, 1, 0, 0, 1), (1, 32, 0, 0, 2), (1, 16, 0, 0, 3), (1, 32, 0, 0, 2), (1, 1, 0, 0, 1), (1, 1, 0, 0, 1),
    (1, 1, 0, 0, 1), (1, 1, 0, 0, 1), (1, 1, 0, 0, 0), (1, 1, 0, 0, 1), (1, 16, 0, 0, 0), (1, 8, 0, 0, 1),
    (3, 3, 1, 2, 2), (1, 1, 1, 1, 2), (1, 1, 3, 4, 1), (1, 1, 1, 2, 0), (1, 1, 1, 1, 0), (0, 0, 1, 0, 1),
    (4, 4, 2, 4, 0), (4, 4, 3, 6, 9), (4, 4, 2, 4, 2), (1, 1, 2, 0, 0)]


/-- Input range, outputs, state words and fixed parameter words of the 112 block types; the parameter words of types 1, 32, 33 and
108 follow from the record. -/
def blockTab : List (Nat × Nat × Nat × Nat × Nat) := blockTab0 ++ blockTab1 ++ blockTab2 ++ blockTab3

/-- The parameter words an instance owns (R81), from the PARAM body at its offset; SEQUENCER owns up to 16 whole steps. -/
def paramWords (ty n : Nat) (p : List Word) : Nat :=
  match ty with
  | 1 => n
  | 32 => schWords p
  | 33 => schWords p
  | 108 => 3 * min 16 (p.length / 3)
  | _ => (blockTab.getD ty (0, 0, 0, 0, 0)).2.2.2.2

/-! The graph as placed (R45, R46) -/

/-- A GRAPH record's fields by offset. -/
def gType (r : List Byte) : Nat := le r 0 1
def gClass (r : List Byte) : Nat := le r 1 1
def gRate (r : List Byte) : Nat := le r 2 1
def gHome (r : List Byte) : Nat := le r 3 1
def gIn (r : List Byte) : Nat := le r 4 1
def gOut (r : List Byte) : Nat := le r 5 1
def gState (r : List Byte) : Nat := le r 6 2
def gParam (r : List Byte) : Nat := le r 8 4
def gIo (r : List Byte) : Nat := le r 12 4

/-- The instance a GRAPH record describes. -/
def nodeOf (params : List Word) (io : List Byte) (r : List Byte) : Node :=
  let p := params.drop (gParam r / 4)
  let sigs := fun o n => (List.range n).map (fun k => le io (o + 2 * k) 2)
  { ty := gType r, cls := gClass r, rate := gRate r, home := gHome r, ins := sigs (gIo r) (gIn r),
    outs := sigs (gIo r + 2 * gIn r) (gOut r), params := p.take (paramWords (gType r) (gIn r) p), stateWords := gState r }

/-- The signal a SIGNAL record describes. -/
def sigOf (r : List Byte) : Sig :=
  let w := le r 0 4
  { int := bit w 31, producer := if w / 2 ^ 16 % 2 ^ 13 = 0x1FFF then none else some (w / 2 ^ 16 % 2 ^ 13),
    port := w / 256 % 256, initial := w32 (le r 4 4) }

/-! Tables (R82) -/

/-- Words after a table's header. -/
def tableWords (kind nx ny : Nat) : Nat :=
  match kind with
  | 1 => 2 * nx
  | 2 => nx + ny + nx * ny
  | _ => nx

/-- Strictly ascending, so free of NaN where there are two at least. -/
def ascending : List Word → Bool
  | a :: b :: t => fLt a b && ascending (b :: t)
  | _ => true

/-- Whether a table obeys R82; `h` is what the section holds from its header on. -/
def tableOk (h : List Byte) (t : Table) : Bool :=
  decide (8 + 4 * tableWords t.kind t.nx t.ny ≤ h.length) && decide (le h 6 2 = 0) &&
    (match t.kind with
     | 1 => decide (2 ≤ t.nx ∧ t.nx ≤ 256 ∧ t.ny = 1) && ascending (t.words.take t.nx)
     | 2 => decide (2 ≤ t.nx ∧ t.nx ≤ 32 ∧ 2 ≤ t.ny ∧ t.ny ≤ 32) && ascending (t.words.take t.nx) &&
         ascending ((t.words.drop t.nx).take t.ny)
     | 3 => decide (t.nx = 1024 ∧ t.ny = 1)
     | _ => false)

/-- The tables of a section body at offset `o`, up to the first that breaks R82: each with its offset and whether it is good. -/
def tablesFrom : Nat → List Byte → Nat → List (Table × Nat × Bool)
  | 0, _, _ => []
  | n + 1, b, o =>
    if b.isEmpty then []
    else
      let kind := le b 0 2
      let nx := le b 2 2
      let ny := le b 4 2
      let size := 8 + 4 * tableWords kind nx ny
      let t : Table := ⟨kind, nx, ny, wordsOf ((b.drop 8).take (size - 8))⟩
      if tableOk b t then (t, o, true) :: tablesFrom n (b.drop size) (o + size) else [(t, o, false)]

/-- The tables of an image. -/
def tablesOf (b : List Byte) : List (Table × Nat × Bool) := tablesFrom ((body b 10).length / 12 + 1) (body b 10) 0

/-! FLUE section (R318, R319) -/

/-- A schedule record. -/
def schedRec (r : List Byte) : Sched :=
  { index := le r 0 1, dynCmd := decide (le r 1 1 ≠ 0),
    slots := (List.range 48).map (fun i =>
      { owner := le r (4 + 4 * i) 1, kind := le r (5 + 4 * i) 1, len := le r (6 + 4 * i) 1 }) }

/-- The FLUE section. -/
def flueOf (f : List Byte) : FlueImg :=
  { init := le f 0x01 1, listen := le f 0x02 2, kindleStep := le f 0x04 2, kindleCycles := le f 0x06 1, syncMin := le f 0x07 1,
    syncNodes := le f 0x08 4, kindlingNodes := le f 0x0C 4, voteNodes := le f 0x10 4, lostCycles := le f 0x14 1,
    coldLimit := le f 0x15 1, ppsEn := bit (le f 0x16 1) 0, falling := bit (le f 0x16 1) 1, extStep := le f 0x17 1,
    ppsDelay := leI f 0x18 4, scheds := (recordsOf 196 (f.drop 32)).map schedRec }

/-! The image as LOAD places it (R53 step 10) -/

/-- The REG records: address and value. -/
def regRecs (b : List Byte) : List (Nat × Nat) := (recordsOf 8 (body b 5)).map (fun r => (le r 0 4, le r 4 4))

/-- Writing the REG records into the RL fields they name (R47). -/
def State.applyRegs (s : State) (l : List (Nat × Nat)) : State :=
  s.each l (fun s x =>
    match findReg x.1 with
    | some (k, _) =>
      let old := (s.reg x.1).toNat
      s.setReg x.1 (w32 ((old &&& (2 ^ 32 - 1 - k.rl)) ||| (x.2 &&& k.rl)))
    | none => s)

/-- The graph, signals, tables, schedules, points and replay list of an image. -/
def imgOf (b : List Byte) : Img :=
  let params := wordsOf (body b 3)
  let io := body b 4
  { nodes := (recordsOf 16 (body b 1)).map (nodeOf params io), sigs := (recordsOf 8 (body b 2)).map sigOf,
    tables := (tablesOf b).map (fun t => t.1), replay := (recordsOf 2 (body b 9)).map ofLe, digest := imgDigest b,
    flue := flueOf (body b 7), points := recordsOf 32 (body b 8) }

/-- A device that holds nothing but an image: what the checks of structure are judged on. -/
def scratch (b : List Byte) : State :=
  (({ img := imgOf b } : State).applyRegs (regRecs b)).setF F.IMG_CHANNEL_TOPOLOGY (hTopology b)

end Sys2Proof.Machine
end

