-- ==== Sys2Proof/Machine/Checks.lean ====
section
/-!
DEFINITION. The checks of an image's structure (R50): 0x22 by section type and record, 0x23, and schedulability 0x30 to 0x32.
A device `t` that holds only the image (`scratch`) stands for the image throughout.
-/
namespace Sys2Proof.Machine

open Sys2Proof

/-! GRAPH records (R45, R81) -/

/-- A GRAPH record breaks the ranges of R45 or the block table. -/
def graphRecBad (b r : List Byte) : Bool :=
  let x := blockTab.getD (gType r) (0, 0, 0, 0, 0)
  let owned := paramWords (gType r) (gIn r) ((wordsOf (body b 3)).drop (gParam r / 4))
  decide (111 < gType r ∨ 2 < gClass r ∨ 4 < gRate r ∨ (if gClass r = 0 then 3 else 7) < gHome r) ||
    decide (gIn r < x.1 ∨ x.2.1 < gIn r ∨ x.2.2.1 < gOut r ∨ gState r ≠ x.2.2.2.1) ||
    decide (gParam r % 4 ≠ 0 ∨ gIo r % 2 ≠ 0 ∨ (0 < owned ∧ (body b 3).length < gParam r + 4 * owned)
      ∨ (body b 4).length < gIo r + 2 * (gIn r + gOut r))

/-- A gain set breaks R114. -/
def gainBad (g : List Word) : Bool :=
  !(fLe f0 (g.getD 3 0) && fLt (g.getD 3 0) f1 && fLt (g.getD 4 0) (g.getD 5 0))

/-- The edges of one axis break R116: a negative half-width, or bands that do not stay apart. [DEDUCED, log entry 11] -/
def edgesBad (p : List Word) (axis n : Nat) : Bool :=
  (List.range n).any (fun i =>
    let e := schEdge p axis i
    let f := schEdge p axis (i + 1)
    !fLe f0 e.2 || (decide (i + 1 < n) && !fLt (fAdd e.1 e.2) (fSub f.1 f.2)))

/-- The counts of a schedule break R116; they fix how many words it owns. -/
def schedCountsBad (p : List Word) : Bool :=
  decide (schNSets p = 0 ∨ 16 < schNSets p ∨ 15 < schNx p ∨ 15 < schNy p ∨ 16 < schRegions p)

/-- A schedule breaks R116. -/
def schedBad (p : List Word) : Bool :=
  schedCountsBad p || edgesBad p 0 (schNx p) || edgesBad p 1 (schNy p) || decide (schRegions p ≤ schInit p) ||
    (List.range (schRegions p)).any (fun r => decide (schNSets p ≤ schMap p r)) ||
    (List.range (schNSets p)).any (fun k => gainBad (schSet p k))

/-- A table of a KIND is missing. -/
def State.noTable (t : State) (w : Word) (kind : Nat) : Bool :=
  match t.img.tables[w.toNat]? with
  | some x => decide (x.kind ≠ kind)
  | none => true

/-- A point range is empty, longer than 32 or beyond the POINT section. [DEDUCED, log entry 11] -/
def State.pointsBad (t : State) (n : Node) : Bool :=
  let first := (n.params.getD 0 0).toNat
  let count := (n.params.getD 1 0).toNat
  decide (count = 0 ∨ 32 < count ∨ t.img.points.length < first + count)

/-- A CAN identifier coded as in R133. -/
def canIdBad (w : Nat) : Bool := if bit w 29 then decide (2 ^ 30 ≤ w) else decide (2 ^ 11 ≤ w)

/-- FLUE_TX breaks R81, R320, R362 or R400 under a schedule. -/
def State.flueTxBad (t : State) (n : Node) (x : Sched) : Bool :=
  let sl := (n.params.getD 0 0).toNat
  let off := (n.params.getD 1 0).toNat
  let stop := off + 4 * n.ins.length
  let d := x.slots.getD sl {}
  decide (d.owner = t.nodeId) &&
    (decide (d.len < stop) ||
      (decide (syncSlot x.slots t.nodeId = some sl) && bit t.img.flue.syncNodes t.nodeId && decide (off < 8)) ||
      (decide (2 ≤ t.topology) && (decide (chSlot x.slots t.nodeId = some sl) || (intakeSlots x.slots t.nodeId).contains sl)) ||
      (decide (d.kind = 1) && decide (off < 4 ∨ d.len < stop + 4)))

/-- A parameter names a unit that does not exist, or lies outside the range its chapter makes a check of (R81, R127, R398,
R442). -/
def State.unitBad (t : State) (n : Node) : Bool :=
  let p := fun k => (n.params.getD k 0).toNat
  match n.ty with
  | 27 => t.noTable (n.params.getD 0 0) 1
  | 28 => t.noTable (n.params.getD 0 0) 2
  | 37 => t.noTable (n.params.getD 4 0) 1 || t.noTable (n.params.getD 5 0) 1
  | 46 => decide (p 0 ≠ 0xFFFFFFFF) && t.noTable (n.params.getD 0 0) 3
  | 54 => decide (2 < p 9)
  | 68 => decide (5 < p 0 ∨ p 1 = 0 ∨ 255 < p 1 ∨ 255 < p 2)
  | 70 => decide (255 < p 11 ∨ 255 < p 12 ∨ 2 < n.rate)
  | 71 => t.noTable (n.params.getD 0 0) 1 || decide (255 < p 5 ∨ 2 < n.rate)
  | 72 => decide (255 < p 2 ∨ 2 < n.rate)
  | 74 => decide (2 < n.rate)
  | 75 => decide (1 < p 2 ∨ 3 < p 3 ∨ n.rate ≠ 0)
  | 78 => t.pointsBad n || decide (n.rate ≠ 2)
  | 79 => t.pointsBad n || decide (n.rate ≠ 2)
  | 80 => decide (p 0 ≠ 1)
  | 82 => t.pointsBad n
  | 83 => t.pointsBad n
  | 87 => decide (p 0 ≠ 0)
  | 88 => decide (2 < p 0) || (t.flag F.LAW_STEER_MODE && decide (p 0 = 0))
  | 89 => decide (11 < p 0)
  | 90 => decide (3 < p 0)
  | 91 => decide (47 < p 0) || t.img.flue.scheds.any (t.flueTxBad n) ||
      !t.img.flue.scheds.any (fun x => decide ((x.slots.getD (p 0) {}).owner = t.nodeId))
  | 92 => decide (3 < p 0 ∨ 2 < p 1) || canIdBad (p 2)
  | 93 => decide (1 < p 0 ∨ 15 < p 1)
  | 94 => decide (7 < p 0)
  | 95 => decide (3 < p 0)
  | 96 => decide (2 < p 0) || (t.flag F.LAW_STEER_MODE && decide (p 0 = 0))
  | 97 => decide (3 < p 0)
  | 99 => decide (p 0 ≠ Src.brakeAuthority ∧ (p 0 < Src.graph 0 ∨ 255 < p 0))
  | 109 => decide (2 < p 8)
  | _ => false

/-- SP_HOLD breaks R110. -/
def State.holdBad (t : State) (n : Node) : Bool :=
  let from' := match (t.sigRec (n.ins.getD 0 0)).producer with
    | some q => ratePeriod (t.node q).rate
    | none => ratePeriod n.rate
  decide (1 < (n.params.getD 0 0).toNat ∨ (n.params.getD 1 0).toNat * ratePeriod n.rate ≠ from')

/-- The gain sets of an instance break R114 or R116, or its F_A its range. -/
def lawBad (n : Node) : Bool :=
  match n.ty with
  | 30 => gainBad n.params
  | 31 => gainBad n.params
  | 32 => schedBad n.params
  | 33 => schedBad n.params
  | 34 => gainBad n.params || !(fLt f0 (n.params.getD 8 0) && fLe (n.params.getD 8 0) f1)
  | 38 => gainBad n.params
  | _ => false

/-- POSE_EXTRAP reads intake sources 0xE0 to 0xE7 in order (R155). -/
def State.poseBad (t : State) (n : Node) : Bool :=
  (List.range 8).any (fun k =>
    let g := t.sigRec (n.ins.getD k 0)
    decide (g.producer.isSome ∨ g.port ≠ 0xE0 + k))

/-- A SAFETY instance reads a QUALITY or HOUSE output of its own rate class (R483). -/
def State.crossBad (t : State) (n : Node) : Bool :=
  decide (n.cls = 0) && n.ins.any (fun k => match (t.sigRec k).producer with
    | some q => decide ((t.node q).cls ≠ 0) && decide ((t.node q).rate = n.rate)
    | none => false)

/-- Another instance of the same type stands before i where the image may hold one only (R155, R398), or one of the same RX or
SUPPLY. -/
def State.secondBad (t : State) (i : Nat) (n : Node) : Bool :=
  let same := (t.img.nodes.take i).filter (fun m => decide (m.ty = n.ty))
  if [70, 71, 72, 76, 80, 81, 86, 87].contains n.ty then !same.isEmpty
  else if n.ty = 68 then same.any (fun m => decide (m.params.getD 0 0 = n.params.getD 0 0))
  else if n.ty = 75 then same.any (fun m => decide (m.params.getD 3 0 = n.params.getD 3 0))
  else if n.ty = 32 ∨ n.ty = 33 then
    decide (32 ≤ ((t.img.nodes.take i).filter (fun m => decide (m.ty = 32 ∨ m.ty = 33))).length)
  else false

/-- CROSSING and the POINT_CMD that consumes it cover different ranges (R155). -/
def State.consumeBad (t : State) (n : Node) : Bool :=
  decide (n.ty = 79) && (match (t.sigRec (n.ins.getD 0 0)).producer with
    | some q => decide ((t.node q).ty = 78) && decide ((t.node q).params.take 2 ≠ n.params.take 2)
    | none => false)

/-- An instance breaks a rule that needs the rest of the image. [DEDUCED, log entry 11] -/
def State.nodeBad (t : State) (i : Nat) (n : Node) : Bool :=
  t.unitBad n || lawBad n || (decide (n.ty = 36) && t.holdBad n) || (decide (n.ty = 76) && t.poseBad n) || t.crossBad n ||
    t.secondBad i n || t.consumeBad n

/-! Signals, faults, points, the FLUE section -/

/-- A SIGNAL record breaks R46, or no port of its producer names it (R50). -/
def State.signalBad (t : State) (k : Nat) (r : List Byte) : Bool :=
  let w := le r 0 4
  let g := t.sigRec k
  decide (w / 2 ^ 29 % 4 ≠ 0 ∨ w % 256 ≠ 0) || (match g.producer with
    | some q => decide (t.img.nodes.length ≤ q ∨ (t.node q).outs[g.port]? ≠ some k)
    | none => false)

/-- An output list names a signal that records another producer or port (R50). -/
def State.outsBad (t : State) (i : Nat) (n : Node) : Bool :=
  n.outs.zipIdx.any (fun x => decide ((t.sigRec x.1).producer ≠ some i ∨ (t.sigRec x.1).port ≠ x.2))

/-- A FAULT record of source n breaks R48 or R438. -/
def faultBad (n : Nat) (r : List Byte) : Bool :=
  let w := le r 0 4
  let cls := w % 4
  let act := w / 256 % 16
  let degr := decide (n = 0x1A ∨ n = 0x28)
  decide (cls = 3 ∨ w / 4 % 64 ≠ 0 ∨ w / 2 ^ 13 % 8 ≠ 0 ∨ 8 ≤ act) ||
    (match cls with
     | 0 => decide (act ≠ 0)
     | 1 => decide (2 < act)
     | _ => decide (act < 3)) ||
    (decide (act = 3) && !degr) || (degr && decide (cls ≠ 2))

/-- A POINT record breaks R154. -/
def pointBad (r : List Byte) : Bool :=
  decide (40000 < (leI r 0 4).natAbs ∨ 40000 < (leI r 4 4).natAbs ∨ 20000 < le r 8 2 ∨ 20000 < le r 0xA 2 ∨ 63 < le r 0xE 1
    ∨ 3 < le r 0xF 1 ∨ 31 < le r 0x10 1 ∨ 63 < le r 0x11 1 ∨ le r 0x12 2 = 0 ∨ le r 0x14 2 = 0 ∨ 5000 < le r 0x14 2
    ∨ 1 < le r 0x17 1 ∨ le r 0x18 8 ≠ 0)

/-- A point lies in other than one range of a type (R155). [DEDUCED, log entry 11] -/
def State.coverBad (t : State) (k ty : Nat) : Bool :=
  decide ((t.img.nodes.filter (fun n => decide (n.ty = ty) && decide ((n.params.getD 0 0).toNat ≤ k) &&
    decide (k < (n.params.getD 0 0).toNat + (n.params.getD 1 0).toNat))).length ≠ 1)

/-- Point k breaks R154 or R155. -/
def State.pointFails (t : State) (k : Nat) (r : List Byte) : Bool :=
  pointBad r || (t.img.points.take k).any (fun q => decide ((q.drop 0x10).take 2 = (r.drop 0x10).take 2)) ||
    [78, 79, 82, 83].any (t.coverBad k)

/-- Bits set in a 32-bit mask, and its highest one. -/
def bitCount (m : Nat) : Nat := ((List.range 32).filter (bit m)).length
def topBit (m : Nat) : Nat := (((List.range 32).filter (bit m)).getLast?).getD 0

/-- The header of the FLUE section breaks R318 or R320. -/
def flueHdrBad (f : List Byte) : Bool :=
  let x := flueOf f
  let mask := le f 0 1
  decide (f.length ≠ 32 + 196 * bitCount mask ∨ mask = 0 ∨ 7 < x.init ∨ bit mask x.init = false ∨ x.listen < 8 ∨ 400 < x.listen
    ∨ x.kindleStep < 50 ∨ 1000 < x.kindleStep ∨ x.kindleCycles < 4 ∨ 64 < x.kindleCycles ∨ x.syncMin = 0 ∨ 15 < x.syncMin) ||
  decide (15 < bitCount x.syncNodes ∨ 3 < bitCount x.kindlingNodes ∨ x.kindlingNodes &&& x.syncNodes ≠ x.kindlingNodes
    ∨ x.voteNodes &&& x.syncNodes ≠ x.voteNodes ∨ x.lostCycles < 2 ∨ 64 < x.lostCycles ∨ x.coldLimit < 16
    ∨ 3 < le f 0x16 1 ∨ x.extStep = 0 ∨ 100 < x.extStep ∨ 100000 < x.ppsDelay.natAbs ∨ le f 0x1C 4 ≠ 0) ||
  decide (x.scheds.map (fun c => c.index) ≠ (List.range 8).filter (bit mask))

/-- A schedule record breaks R319, or one of its slots. -/
def schedRecBad (r : List Byte) : Bool :=
  decide (1 < le r 1 1 ∨ le r 2 2 ≠ 0) || (List.range 48).any (fun i =>
    let o := 4 + 4 * i
    let x : Slot := (schedRec r).slots.getD i {}
    decide (le r (o + 3) 1 ≠ 0 ∨ 3 < x.kind ∨ 128 < x.len) || decide (31 < x.owner ∧ x.owner ≠ 255) ||
      decide (x.owner = 255 ∧ (x.kind ≠ 0 ∨ x.len ≠ 0)) || decide (x.kind = 1 ∧ (x.len < 12 ∨ x.len % 4 ≠ 0)))

/-- A schedule breaks R320 or R362 between nodes. -/
def State.schedUseBad (t : State) (x : Sched) : Bool :=
  let own := t.nodeId
  (ownedBy x.slots own).isEmpty ||
    (List.range 32).any (fun n => bit t.img.flue.syncNodes n &&
      !(ownedBy x.slots n).any (fun i => decide ((x.slots.getD i {}).kind = 0) && decide (8 ≤ (x.slots.getD i {}).len))) ||
    (List.range 32).any (fun n => decide (14 < (cmdSlots x.slots n).length)) ||
    (decide (2 ≤ t.topology) && ((chSlot x.slots own).isNone ||
      decide (128 * (intakeSlots x.slots own).length < recBytes t.recWords + 64)))

/-- J_MAX in µs (R321). -/
def State.jMax (t : State) : Nat :=
  (t.img.flue.listen + t.img.flue.kindleCycles + t.getF F.LDS_CFG_SETTLE + 3) * 125 +
    t.img.flue.kindleStep * topBit t.img.flue.kindlingNodes

/-- The FLUE section breaks R320 or R321 as a whole. [DEDUCED, log entry 11] -/
def State.flueBad (t : State) (f : List Byte) : Bool :=
  flueHdrBad f ||
    (t.flag F.FLU_NODE_SYNC != bit t.img.flue.syncNodes t.nodeId) ||
    (t.flag F.FLU_NODE_KINDLING != bit t.img.flue.kindlingNodes t.nodeId) || decide (60000 < t.jMax)

/-- A REPLAY entry breaks R483: not ascending, no instance, a SAFETY instance, or of types 76 to 87. -/
def State.replayBad (t : State) (k i : Nat) : Bool :=
  decide (t.img.nodes.length ≤ i ∨ (t.node i).cls = 0 ∨ (76 ≤ (t.node i).ty ∧ (t.node i).ty ≤ 87)) ||
    (decide (0 < k) && decide (i ≤ t.img.replay.getD (k - 1) 0))

/-! Check 0x22 -/

/-- The first record of section `ty` that fails, by its place, each record `size` bytes. [DESIGN CHOICE, log entry 10] -/
def recFail {α : Type} (b : List Byte) (ty size : Nat) (l : List α) (bad : Nat → α → Bool) : Option Fail :=
  (l.zipIdx.find? (fun x => bad x.2 x.1)).map (fun x => ⟨0x22, ty, start b ty + size * x.2⟩)

/-- Too many records (R44). [DESIGN CHOICE, log entry 10] -/
def limitFail (b : List Byte) (ty size max : Nat) : Option Fail :=
  failIf (decide (max < (body b ty).length / size)) 0x22 ty (start b ty)

/-- The GRAPH, SIGNAL and IOLIST sections by themselves and against each other. -/
def graphCheck (t : State) (b : List Byte) : Option Fail :=
  firstFail [limitFail b 1 16 4096, recFail b 1 16 (recordsOf 16 (body b 1)) (fun _ r => graphRecBad b r), limitFail b 2 8 16384,
    recFail b 4 2 (recordsOf 2 (body b 4)) (fun _ r => decide (t.img.sigs.length ≤ ofLe r)),
    recFail b 1 16 t.img.nodes t.outsBad, recFail b 2 8 (recordsOf 8 (body b 2)) t.signalBad]

/-- The schedule records of the FLUE section. -/
def schedCheck (t : State) (b : List Byte) : Option Fail :=
  ((recordsOf 196 ((body b 7).drop 32)).zipIdx.find? (fun x => schedRecBad x.1 || t.schedUseBad (schedRec x.1))).map
    (fun x => ⟨0x22, 7, start b 7 + 32 + 196 * x.2⟩)

/-- The tables. -/
def tableCheck (b : List Byte) : Option Fail :=
  ((tablesOf b).find? (fun x => !x.2.2)).map (fun x => ⟨0x22, 10, start b 10 + x.2.1⟩)

/-- With SAF_CFG.ENFORCE = 1 an image lacks SLS, SLP or SDI (R398). -/
def State.lacksSafety (t : State) : Bool :=
  t.flag F.SAF_CFG_ENFORCE && [70, 71, 72].any (fun k => !t.img.nodes.any (fun n => decide (n.ty = k)))

/-- The FAULT, FLUE, POINT and TABLE sections by themselves. [DESIGN CHOICE, log entry 10] -/
def sectionCheck (t : State) (b : List Byte) : Option Fail :=
  firstFail [failIf (decide ((body b 6).length ≠ 1024)) 0x22 6 (start b 6), recFail b 6 4 (recordsOf 4 (body b 6)) faultBad,
    failIf (t.flueBad (body b 7)) 0x22 7 (start b 7), schedCheck t b, limitFail b 8 32 512, tableCheck b]

/-- What joins sections: parameters that name units, points in ranges, the REPLAY list. -/
def jointCheck (t : State) (b : List Byte) : Option Fail :=
  firstFail [recFail b 1 16 t.img.nodes t.nodeBad, failIf t.lacksSafety 0x22 1 (start b 1),
    recFail b 8 32 t.img.points t.pointFails, recFail b 9 2 t.img.replay t.replayBad]

/-- Check 0x22. -/
def recordCheck (t : State) (b : List Byte) : Option Fail :=
  (graphCheck t b).or ((sectionCheck t b).or (jointCheck t b))

/-! Check 0x23 (R76, R115, R487) -/

/-- Words of an instance's share: parameters, state, outputs, crossing buffers, gain banks. -/
def State.shareWords (t : State) (n : Node) : Nat :=
  let crossing := n.outs.filter (fun k => t.img.nodes.any (fun m => decide (m.rate ≠ n.rate) && m.ins.contains k))
  n.params.length + n.stateWords + n.outs.length + crossing.length +
    (if (30 ≤ n.ty ∧ n.ty ≤ 34) ∨ n.ty = 38 then 16 else 0)

/-- Words a cluster pool needs. -/
def State.poolWords (t : State) (c : Nat) : Nat :=
  let l := t.img.nodes.filter (fun n => n.inPool c)
  let refs := l.flatMap Node.tableRefs
  (l.map t.shareWords).foldl (· + ·) 0 +
    ((t.img.tables.zipIdx.filter (fun x => refs.contains x.2)).map (fun x => 2 + x.1.words.length)).foldl (· + ·) 0

/-- N_B (R487). -/
def State.ringBlocks (t : State) : Nat := ringSize / (64 * entryBytes t.entryWords + ckptBytes t.ckptSet.length)

/-- Check 0x23. [DESIGN CHOICE, log entry 10] -/
def poolCheck (t : State) (b : List Byte) : Option Fail :=
  (failIf ((List.range 8).any (fun c => decide (40960 < t.poolWords c))) 0x23 1 (start b 1)).or
    (failIf (decide (t.ringBlocks < 4)) 0x23 (if t.img.replay.isEmpty then 1 else 9)
      (start b (if t.img.replay.isEmpty then 1 else 9)))

/-! Checks 0x30 to 0x32 (R55, R56) -/

/-- Worst-case cost of an instance in cycles (R83). -/
def Node.cost (n : Node) : Nat :=
  let c := typeCosts.getD n.ty (0, 0)
  c.1 + c.2 * n.ins.length

/-- Amortised load of a class over the instances that `p` picks, in 1/256 cycles per tick. -/
def loadOf (l : List Node) (p : Node → Bool) : Nat :=
  (l.filter p).foldl (fun a n => a + n.cost * (256 / ratePeriod n.rate)) 0

/-- 2 × L_S + L_Q + L_H and L_S in 1/256 cycles per tick. -/
def State.totalLoad (t : State) : Nat := loadOf t.img.nodes (fun _ => true) + loadOf t.img.nodes (fun n => decide (n.cls = 0))
def State.halfLoad (t : State) : Nat := loadOf t.img.nodes (fun n => decide (n.cls = 0))

/-- Four times C of one tick in cycles, at a hob clock in kHz. -/
def tickCycles4 (khz : Nat) : Nat := khz / 8

/-- Checks 0x30 to 0x32 at a hob clock step. [DESIGN CHOICE, log entry 10] -/
def loadCheck (t : State) (b : List Byte) (step : Nat) : Option Fail :=
  let c4 := tickCycles4 (stepKHz step)
  firstFail [failIf (decide (131072 * c4 < 40 * t.totalLoad)) 0x30 0 0, failIf (decide (65536 * c4 < 40 * t.halfLoad)) 0x31 0 0,
    (t.img.nodes.zipIdx.find? (fun x => decide (ratePeriod x.1.rate * c4 < 5 * x.1.cost))).map
      (fun x => ⟨0x32, 1, start b 1 + 16 * x.2⟩)]

end Sys2Proof.Machine
end

