-- ==== Sys2Proof/Machine/RegChecks.lean ====
section
/-!
DEFINITION. Check 0x24 of R50: R47 record by record, then the rules the chapters set on the values that the REG records leave in
the registers, block by block in address order.
-/
namespace Sys2Proof.Machine

open Sys2Proof

/-- A rule on a register: its address, and whether it is broken. -/
abbrev RegRule := Nat × Bool

/-- A field must lie in [lo, hi]. -/
def State.inRange (t : State) (f : Fld) (lo hi : Nat) : RegRule := (f.addr, decide (t.getF f < lo ∨ hi < t.getF f))

/-- One rule per index. -/
def perIndex (n : Nat) (f : Nat → List RegRule) : List RegRule := (List.range n).flatMap f

/-- PWR (R469): LOW_STATE is retention or off, and retention only where R459 allows it. -/
def State.pwrRules (t : State) : List RegRule :=
  [t.inRange F.PWR_CFG_HOLD 1 255, t.inRange F.PWR_ALARM_WAKE_WAIT 1 255, t.inRange F.PWR_MON_CFG_VSUP_OV 0x90 0xE0,
    t.inRange F.PWR_MON_CFG_VSUP_UV 0x37 0x64, t.inRange F.PWR_TEMP_CFG_HYST 1 20, t.inRange F.PWR_TEMP_CFG_LIMIT 100 150] ++
  (List.range 22).flatMap (fun d => [t.inRange (F.PWR_DOM_CFG_TIMEOUT d) 1 1000, t.inRange (F.PWR_DOM_CFG_LOW_STATE d) 1 2,
    ((F.PWR_DOM_CFG_LOW_STATE d).addr, decide (t.getF (F.PWR_DOM_CFG_LOW_STATE d) = 1) && !domMayRetain d)])

/-- CLK (R472) and FLT (R448). -/
def State.cfgRules (t : State) : List RegRule :=
  [t.inRange F.CLK_CFG_MON_TOL 5 50, t.inRange F.FLT_CFG_CMP_TIMEOUT 4 64, t.inRange F.FLT_CFG_RETRY_LIMIT 1 255,
    t.inRange F.FLT_CFG_FORCE_LEN 1 16]

/-- LAW (R127, R133). -/
def State.lawRules (t : State) : List RegRule :=
  let a := t.getF F.LAW_STEER_VALVE_A
  let b := t.getF F.LAW_STEER_VALVE_B
  (F.LAW_STEER_MODE.addr, t.flag F.LAW_STEER_MODE && decide (a = b ∨ 11 < a ∨ 11 < b)) ::
  perIndex 8 (fun s => [((F.LAW_SP_ALT_KIND s).addr,
    decide (t.getF (F.LAW_SP_PRI_KIND s) = 3) && decide (t.getF (F.LAW_SP_ALT_KIND s) = 3))])

/-- SEC (R171). -/
def State.secRules (t : State) : List RegRule :=
  [t.inRange F.SEC_TIMING_LEAD_MIN 40 255, t.inRange F.SEC_TIMING_SEND_AHEAD (t.getF F.SEC_TIMING_LEAD_MIN + 50) 5000,
    t.inRange F.SEC_PWM_FREQ 10 30]

/-- Frame time of a serial read in ns (R186), SAMPLE_DELAY in ns, and the read period in ns. [DEDUCED, log entry 11] -/
def State.serFrame (t : State) (i : Nat) : Nat :=
  (t.getF (F.POS_SER_CFG_DATA_BITS i) + 8) * 20 * (t.getF (F.POS_SER_CFG_CLK_DIV i) + 1)
def serPeriod (code : Nat) : Nat := match code with | 0 => 31250 | 1 => 125000 | _ => 500000

/-- POS (R178, R186, R189, R199). -/
def State.posRules (t : State) : List RegRule :=
  perIndex 4 (fun i =>
    let cpr := t.getF (F.POS_CPR_CPR i)
    let adv := 1000 * t.getF (F.POS_SER_TIMING_READ_ADV i)
    [t.inRange (F.POS_CFG_MODE i) 0 4,
      ((F.POS_CPR_CPR i).addr, decide ((0 < cpr ∧ cpr < 4) ∨ 536870912 < cpr)),
      ((F.POS_INDEX_CFG_INDEX_POS i).addr, decide (0 < cpr ∧ cpr ≤ t.getF (F.POS_INDEX_CFG_INDEX_POS i))),
      t.inRange (F.POS_SER_CFG_DATA_BITS i) 8 32, t.inRange (F.POS_SER_CFG_CLK_DIV i) 4 499,
      t.inRange (F.POS_SER_CFG_PERIOD i) 0 2,
      ((F.POS_SER_TIMING_READ_ADV i).addr, decide (adv < t.serFrame i + 10 * t.getF (F.POS_SER_CFG_SAMPLE_DELAY i)
        ∨ serPeriod (t.getF (F.POS_SER_CFG_PERIOD i)) < adv))])

/-- MOT (R208, R218, R226). -/
def State.motRules (t : State) : List RegRule :=
  perIndex 3 (fun b =>
    [((F.MOT_CFG_SENSORLESS b).addr, decide (b = 0) && t.flag (F.MOT_CFG_SENSORLESS b)),
      t.inRange (F.MOT_PWM_FALLBACK b) 0 (if b = 0 then 0 else 1), t.inRange (F.MOT_SHUNT_CFG_GAIN b) 0 2])

/-- GDR (R252). -/
def State.gdrRules (t : State) : List RegRule :=
  [t.inRange F.GDR_CFG_VGD 0 6, t.inRange F.GDR_CFG_BOOT_REFRESH (t.getF F.GDR_CFG_BOOT_UV + 5) (85 + 5 * t.getF F.GDR_CFG_VGD),
    t.inRange F.GDR_XDIS_FILTER 2 20] ++
  perIndex 2 (fun l => [((F.GDR_LINK_CFG_OV_TRIP l).addr, !(decide (t.getF (F.GDR_LINK_CFG_CH_OFF l) < t.getF (F.GDR_LINK_CFG_CH_ON l)) &&
    decide (t.getF (F.GDR_LINK_CFG_CH_ON l) < t.getF (F.GDR_LINK_CFG_OV_ASC l)) &&
    decide (t.getF (F.GDR_LINK_CFG_OV_ASC l) < t.getF (F.GDR_LINK_CFG_OV_TRIP l)) && decide (t.getF (F.GDR_LINK_CFG_OV_TRIP l) ≤ 236)))]) ++
  perIndex 3 (fun b => [t.inRange (F.GDR_BRIDGE_CFG_DEADTIME b) 20 400, t.inRange (F.GDR_DESAT_BLANK b) 5 32,
    t.inRange (F.GDR_DESAT_VDS_TH b) 25 200, t.inRange (F.GDR_OC_OC_FILT b) 5 100, t.inRange (F.GDR_OC_OC_TH b) 5 250]) ++
  perIndex 12 (fun k => [t.inRange (F.GDR_SOL_CFG_FREQ k) 10 200, ((F.GDR_SOL_DITHER_FREQ k).addr,
    decide (t.getF (F.GDR_SOL_DITHER_AMP k) ≠ 0) &&
      decide (t.getF (F.GDR_SOL_DITHER_FREQ k) < 50 ∨ 250 < t.getF (F.GDR_SOL_DITHER_FREQ k)))]) ++
  perIndex 4 (fun e => [t.inRange (F.GDR_EN_CFG_RB_TIME e) 1 255])

/-- A trigger code that no sequence may use; PWM-instant codes are 3 to 5 (R259). -/
def trigBad (code : Nat) (pwm : Bool) : Bool := decide (0x0E ≤ code) || (!pwm && decide (3 ≤ code ∧ code ≤ 5))

/-- Groups and pairs in use that converter v belongs to. -/
def State.convGroups (t : State) (v : Nat) : List Nat :=
  (List.range 4).filter (fun g => t.flag (F.ADC_GROUP_EN g) && bit (t.getF (F.ADC_GROUP_MEMBERS g)) v)
def State.convPaired (t : State) (v : Nat) : Bool := t.flag (F.ADC_PAIR_CFG_EN (v / 2))

/-- Acquisition time in converter cycles of injected entry j of converter v; channels 48 to 50 always take 16 (R258, R265). -/
def State.injSample (t : State) (v j : Nat) : Nat :=
  let c := t.getF (F.ADC_ISEQ_ENTRY v j)
  if 48 ≤ c ∧ c ≤ 50 then 16 else 8 + 2 * t.getF (F.ADC_SAMPLE_SAMPLE (c / 8) (c % 8))

/-- A group breaks R265. -/
def State.groupBad (t : State) (g : Nat) : Bool :=
  let l := (List.range 8).filter (bit (t.getF (F.ADC_GROUP_MEMBERS g)))
  let first := l.headD 0
  t.flag (F.ADC_GROUP_EN g) && l.any (fun v =>
    decide ((t.convGroups v).length ≠ 1 ∨ t.getF (F.ADC_TRIG_INJ_TRIG v) ≠ 0
      ∨ t.getF (F.ADC_CONV_CFG_INJ_LEN v) ≠ t.getF (F.ADC_CONV_CFG_INJ_LEN first)) ||
    (List.range (t.getF (F.ADC_CONV_CFG_INJ_LEN v))).any (fun j => decide (t.injSample v j ≠ t.injSample first j)))

/-- The converters that serve bridge b break R263. [DEDUCED, log entry 11] -/
def State.bridgeConvBad (t : State) (b : Nat) : Bool :=
  let l := (List.range 8).filter (fun v => decide (t.getF (F.ADC_TRIG_INJ_TRIG v) = 3 + b))
  t.flag (F.MOT_CFG_ENABLE b) && !(match l with
    | [v] => decide (t.getF (F.ADC_CONV_CFG_INJ_LEN v) = 1) && decide (t.getF (F.ADC_ISEQ_ENTRY v 0) = 48 + b) &&
        (t.convGroups v).isEmpty && !t.convPaired v
    | _ => false)

/-- Channel c stands in some regular sequence. -/
def State.inRegular (t : State) (c : Nat) : Bool :=
  (List.range 8).any (fun v => (List.range (t.getF (F.ADC_CONV_CFG_REG_LEN v))).any (fun k =>
    decide (t.getF (if k < 4 then F.ADC_RSEQ_LO_ENTRY v k else F.ADC_RSEQ_HI_ENTRY v (k - 4)) = c)))

/-- ADC (R259, R263, R265, R266, R271, R273). -/
def State.adcRules (t : State) : List RegRule :=
  [t.inRange F.ADC_CFG_OW_PERIOD 1 255, t.inRange F.ADC_CFG_OW_SETTLE 1 255, t.inRange F.ADC_CFG_TICK_LEAD 5 200,
    t.inRange F.ADC_REF_CFG_TOL_GND 1 255, t.inRange F.ADC_REF_CFG_TOL_BG 1 255] ++
  perIndex 8 (fun v => [t.inRange (F.ADC_CONV_CFG_INJ_LEN v) 0 4, t.inRange (F.ADC_CONV_CFG_REG_LEN v) 0 8,
    ((F.ADC_TRIG_REG_TRIG v).addr, trigBad (t.getF (F.ADC_TRIG_INJ_TRIG v)) true || trigBad (t.getF (F.ADC_TRIG_REG_TRIG v)) false)]) ++
  perIndex 3 (fun b => [((F.ADC_TRIG_INJ_TRIG 0).addr, t.bridgeConvBad b)]) ++
  perIndex 48 (fun c => [((F.ADC_OW_CFG_OW (c / 16) (c % 16)).addr,
    decide (t.getF (F.ADC_OW_CFG_OW (c / 16) (c % 16)) ≠ 0) && !t.inRegular c)]) ++
  perIndex 4 (fun g => [((F.ADC_GROUP_TRIG g).addr, trigBad (t.getF (F.ADC_GROUP_TRIG g)) false || t.groupBad g)]) ++
  perIndex 4 (fun p => [((F.ADC_PAIR_CFG_TRIG p).addr, trigBad (t.getF (F.ADC_PAIR_CFG_TRIG p)) false ||
    (t.flag (F.ADC_PAIR_CFG_EN p) && [2 * p, 2 * p + 1].any (fun v =>
      decide (t.getF (F.ADC_CONV_CFG_INJ_LEN v) ≠ 0) || !(t.convGroups v).isEmpty)))])

/-- Clock cycles of 80 MHz in a nominal and in a data bit (R338). -/
def State.nomCycles (t : State) (n : Nat) : Nat := t.getF (F.CAN_NBT_BRP n) * (1 + t.getF (F.CAN_NBT_TSEG1 n) + t.getF (F.CAN_NBT_TSEG2 n))
def State.dataCycles (t : State) (n : Nat) : Nat := t.getF (F.CAN_DBT_BRP n) * (1 + t.getF (F.CAN_DBT_TSEG1 n) + t.getF (F.CAN_DBT_TSEG2 n))

/-- FLU (R311) and CAN (R338, R346). -/
def State.canRules (t : State) : List RegRule :=
  t.inRange F.FLU_CFG_PRECISION 50 500 ::
  perIndex 4 (fun n =>
    [(((F.CAN_CFG_MODE n).addr), decide (t.getF (F.CAN_CFG_MODE n) = 3) || (t.flag (F.CAN_CFG_TRIPLE n) && decide (t.nomCycles n < 320))),
      ((F.CAN_NBT_BRP n).addr, decide (t.nomCycles n < 80)),
      ((F.CAN_DBT_BRP n).addr, decide (t.dataCycles n < 10 ∨ t.nomCycles n < t.dataCycles n)),
      ((F.CAN_ISO_CFG_EN n).addr, t.flag (F.CAN_ISO_CFG_EN n) &&
        (decide (n ≠ 0) || decide (t.nomCycles n ≠ 320) || t.flag (F.CAN_CFG_FD_EN n)))])

/-- ETH (R351, R359). -/
def State.ethRules (t : State) : List RegRule :=
  perIndex 2 (fun p =>
    let hi := t.getF (F.ETH_MAC_HI_ADDR p)
    [((F.ETH_PAUSE_HIGH_WATER p).addr, !(decide (t.getF (F.ETH_PAUSE_LOW_WATER p) < t.getF (F.ETH_PAUSE_HIGH_WATER p)) &&
        decide (t.getF (F.ETH_PAUSE_HIGH_WATER p) ≤ 120))),
      ((F.ETH_MAC_LO_ADDR p).addr, t.flag (F.ETH_CFG_ENABLE p) && (decide (hi = 0 ∧ t.getF (F.ETH_MAC_LO_ADDR p) = 0) || bit hi 8)),
      ((F.ETH_IP_ADDR p).addr, t.flag (F.ETH_CFG_ENABLE p) && decide (t.getF (F.ETH_IP_ADDR p) = 0))])

/-- LDS (R361, R393); `id` is the image's CHANNEL_ID. -/
def State.ldsRules (t : State) (id : Nat) : List RegRule :=
  [t.inRange F.LDS_CFG_RELEASE_CH 0 11, t.inRange F.LDS_CFG_SETTLE 4 255, t.inRange F.LDS_CFG_HO_TIMEOUT 2 16,
    t.inRange F.LDS_CFG_DEPOSE_N 1 15, t.inRange F.LDS_CFG_MISMATCH_LIMIT 1 15, t.inRange F.LDS_TIMING_LOSS_N 2 64,
    t.inRange F.LDS_TIMING_XDIS_GRACE 1 50, t.inRange F.LDS_TIMING_ALIGN_AGREE 1 255, t.inRange F.LDS_GRACE_GRACE 0 1000] ++
  perIndex 3 (fun i => [((F.LDS_PEER_CFG_PRESENT i).addr, (t.flag (F.LDS_PEER_CFG_PRESENT i) != decide (i < t.topology)) ||
    (decide (i + 1 = id) && decide (t.getF (F.LDS_PEER_CFG_NODE_ID i) ≠ t.nodeId)))])

/-- JRN (R502) and AGE (R530): MODE_TRIG bits 10 and 11 stay 0, and no limit is 0. -/
def State.jrnRules (t : State) : List RegRule :=
  (F.JRN_CFG_MODE_TRIG.addr, decide (1024 ≤ t.getF F.JRN_CFG_MODE_TRIG)) ::
  perIndex 7 (fun m => [((F.AGE_LIMIT_LIMIT m).addr, decide (t.getF (F.AGE_LIMIT_LIMIT m) = 0))])

/-- Every rule on what the REG records leave in the registers, in address order of the blocks. [DEDUCED, log entry 11] -/
def State.regRules (t : State) (id : Nat) : List RegRule :=
  t.pwrRules ++ t.cfgRules ++ t.lawRules ++ t.secRules ++ t.posRules ++ t.motRules ++ t.gdrRules ++ t.adcRules ++ t.canRules ++
    t.ethRules ++ t.ldsRules id ++ t.jrnRules

/-- A REG record breaks R47 after a record of address `prev`, or sets an AGE_LIMIT_m of m = 0 to 2 (R530). -/
def regRecBad (prev : Option Nat) (x : Nat × Nat) : Bool :=
  decide (prev.getD 0 ≥ x.1 ∧ prev.isSome) || decide ((F.AGE_LIMIT_LIMIT 0).addr ≤ x.1 ∧ x.1 ≤ (F.AGE_LIMIT_LIMIT 2).addr) || (match findReg x.1 with
    | some (k, _) => decide (k.rl = 0) || decide (x.2 &&& k.rl ≠ x.2)
    | none => true)

/-- The first REG record that breaks R47. -/
def regRecFail (at' : Nat) : Option Nat → List (Nat × Nat) → Option Fail
  | _, [] => none
  | prev, x :: l => if regRecBad prev x then some ⟨0x24, 5, at'⟩ else regRecFail (at' + 8) (some x.1) l

/-- Check 0x24: the offset is that of the record that names the register, else that of the section. -/
def regCheck (t : State) (b : List Byte) : Option Fail :=
  let l := regRecs b
  (regRecFail (start b 5) none l).or
    (((t.regRules (hChannelId b)).find? (fun r => r.2)).map (fun r =>
      ⟨0x24, 5, start b 5 + 8 * (((l.findIdx? (fun x => decide (x.1 = r.1))).getD 0))⟩))

/-- Checks 0x19 to 0x32 at a hob clock step (R53 step 8). -/
def structCheck (s : State) (b : List Byte) (step : Nat) : Option Fail :=
  (hdrLate s b).or ((dirCheck b).or ((crcCheck b).or
    (let t := scratch b
     (recordCheck t b).or ((poolCheck t b).or ((regCheck t b).or (loadCheck t b step))))))

end Sys2Proof.Machine
end

