-- ==== Sys2Proof/Machine/SelfTest.lean ====
section
/-!
DEFINITION. SELF-TEST (R504 to R509, R516, R519, R520): the comparator test, LBIST_COMPLETE, ANALOGUE_BIST and the ways out.
-/
namespace Sys2Proof.Machine

open Sys2Proof

/-- The dead-time margin of a bridge in counts (AGE_DTM, R519). -/
def State.dtMargin (s : State) (b : Nat) : Nat :=
  s.getF (match b with
    | 0 => F.AGE_DTM_ST
    | 1 => F.AGE_DTM_BK
    | _ => F.AGE_DTM_AX)

/-- DT_APPLIED of every bridge (R231): DEADTIME plus the margin, at least 20 counts. -/
def State.refreshDeadtime (s : State) : State :=
  s.each (List.range 3) (fun s b =>
    s.setF (F.GDR_BRIDGE_STAT_DT_APPLIED b) (max 20 (s.getF (F.GDR_BRIDGE_CFG_DEADTIME b) + s.dtMargin b)))

/-- The outcome of the comparator test of comparator k: differences missed of 672, and clean patterns flagged of 64
(R431, R452). -/
def State.cmpTest (s : State) (k missed flagged : Nat) : State :=
  (((s.setFlag (F.CMP_STAT_TESTED k) true).setF (F.CMP_TEST_INJECTED k) 672).setF (F.CMP_TEST_MISSED k) (missed + flagged)).setFlag
    (F.CMP_TEST_PASS k) (decide (missed + flagged = 0))

/-! The end of SELF-TEST (R516, R519, R520) -/

/-- The rises of units against their board baselines. -/
def State.boardRises (s : State) (first : Nat) (l : List Nat) : List Int :=
  l.zipIdx.map (fun x => (x.1 : Int) - s.boardBase (first + x.2))

/-- The mean code of the conversions of a channel, (converter, input in µV) each, in sixty-fourths and the like rounded with ties up.
[DEDUCED, log entry 44] -/
def meanInput (l : List (Nat × Int)) : Nat := meanCode (l.map (fun x => adcCode x.2))

/-- The shunt offsets of a run (R507). -/
def shuntOffsets (e : AbistEnv) : List Nat := (List.range 3).map (fun b => meanInput (e.shunt.getD b []))

/-- Burning the board baselines: at the first unskipped analogue BIST in FIELD (R516). [DEDUCED, log entry 44] -/
def State.burnBoard (s : State) (e : AbistEnv) : State :=
  { s with otp := { s.otp with baseBoard := some ((List.range 18).map (fun g => e.ton.getD g 0) ++
      (List.range 9).map (fun h => e.droop.getD h 0) ++ shuntOffsets e) } }

/-- The dead-time margin of a bridge from the rises of its gates (R519). -/
def dtCounts (rises : List Int) (b : Nat) : Nat :=
  match worst ((rises.drop (6 * b)).take 6) with
  | some x => (min 40 (max 0 (-((-(2 * x.1)) / 5)))).toNat
  | none => 40

/-- Setting the three dead-time margins; they enter DT_APPLIED. -/
def State.setDtm (s : State) (m : Nat → Nat) : State :=
  (((s.setF F.AGE_DTM_ST (m 0)).setF F.AGE_DTM_BK (m 1)).setF F.AGE_DTM_AX (m 2)).refreshDeadtime

/-- Board margins and dead-time margins at the end of analogue BIST; `skipped`: the gate loop-back did not run.
[DEDUCED, log entry 44] -/
def State.abistMargins (s : State) (e : AbistEnv) (skipped : Bool) : State :=
  let ton := (List.range 18).map (fun g => e.ton.getD g 0)
  let shunt := s.boardMargin 4 27 (s.shuntRises (shuntOffsets e))
  if skipped || s.otp.baseBoard.isNone then shunt.setDtm (fun _ => 40)
  else
    let rises := shunt.boardRises 0 ton
    let s1 := (shunt.boardMargin 2 0 rises).boardMargin 3 18 (shunt.boardRises 18 ((List.range 9).map (fun h => e.droop.getD h 0)))
    s1.setDtm (dtCounts rises)

/-- A fatal result ends SELF-TEST with the edge to SAFE-HOLD (R504, R58). -/
def State.failSelfTest (s : State) (baseline : Bool) : State :=
  if s.mode ≠ .selfTest then s
  else
    let s1 := s.closeMargins (fun s => s.raise Src.marginLow) baseline
    if s1.mode = .selfTest then s1.enterMode .safeHold 0 0 else s1

/-- The way out after every test (R58, R62): JOIN in PROVISIONED and FIELD, SERVICE in BLANK and RETURNED.
[DEDUCED, log entry 44] -/
def State.passSelfTest (s : State) (baseline : Bool) : State :=
  if s.mode ≠ .selfTest then s
  else
    let s1 := s.closeMargins (fun s => s.raise Src.marginLow) baseline
    if s1.mode ≠ .selfTest then s1
    else if s1.flag F.AGE_PLAN_EXHAUSTED then s1.enterMode .safeHold 0 0
    else if s1.otp.lifecycle = 1 ∨ s1.otp.lifecycle = 2 then s1.enterMode .join 0 0
    else s1.enterMode .service 0 0

/-! LBIST (R504) -/

/-- LBIST_COMPLETE: the failing partition of the run and of its repeat, 0 for none. -/
def State.lbist (s : State) (part1 part2 : Nat) : State :=
  if !s.running || decide (s.mode ≠ .selfTest) || s.flag F.BST_LBIST_DONE then s
  else
    let s1 := (s.setFlag F.BST_LBIST_DONE true).setFlag F.BST_LBIST_RETRIED (decide (part1 ≠ 0))
    if part1 = 0 ∨ part2 = 0 then s1.setFlag F.BST_STATUS_LBIST_PASS true
    else (s1.setF F.BST_LBIST_FAIL_PART part2).failSelfTest false

/-- The meaning of LBIST_COMPLETE (R504). -/
def execLbistComplete (part1 part2 : Nat) (s : State) : Host.Outcome State Fault Refusal := .next (s.lbist part1 part2)

/-! Analogue BIST (R507, R508) -/

/-- The conversions that a self-test takes of channel c. -/
def State.testConversions (s : State) (t c : Nat) (l : List (Nat × Int)) : State := s.each l (fun s x => s.testConversion t c x)

/-- Whether every DAC loop-back result of a converter, (DAC code, input in µV), lies within 4c ± 24. -/
def dacOk (l : List (Nat × Int)) : Bool :=
  l.all (fun x => decide (adcCode x.2 ≤ 4 * x.1 + 24) && decide (4 * x.1 ≤ adcCode x.2 + 24))

/-- The DAC loop-back: the converters that fail the test and its repeat; ADC_DAC holds the latest code.
[DEDUCED, log entry 44] -/
def State.dacTest (s : State) (e : AbistEnv) : State :=
  let bad := (List.range 8).filter (fun v => !dacOk (e.dac1.getD v []) && !dacOk (e.dac2.getD v []))
  let s0 := s.each (List.range 8) (fun s v =>
    s.testConversions e.t 59 ((e.dac1.getD v [] ++ if dacOk (e.dac1.getD v []) then [] else e.dac2.getD v []).map (fun x => (v, x.2))))
  let s1 := (s0.setF F.ADC_DAC_CODE (((e.dac1.getD 0 []).getLast?.map (fun x => x.1)).getD 0)).setF F.BST_ABIST_DAC_FAIL
    (maskOf ((List.range 8).map (fun v => bad.contains v)))
  if bad.isEmpty then s1 else ((s1.incF F.ADC_LOOPBACK_FAIL_CNT_COUNT).event Ev.adc 7).raise Src.adcLoopback

/-- The gate loop-back: TON recorded, and GATE_STUCK of the bridge of every gate that does not follow, which imposes OFF (R231).
[DEDUCED, log entry 44] -/
def State.gateTest (s : State) (e : AbistEnv) : State :=
  let bad := (List.range 18).filter (fun g => e.sense.getD g true = false)
  let s1 := s.each (List.range 18) (fun s g => s.setF (F.GDR_GATE_TON g) (min 255 (e.ton.getD g 0)))
  let s2 := s1.setF F.BST_ABIST_GATE_FAIL (maskOf ((List.range 18).map (fun g => bad.contains g)))
  s2.each ((List.range 3).filter (fun b => bad.any (fun g => decide (g / 6 = b)))) (fun s b =>
    s.raiseHold (Src.gate b 2))

/-- The reference check of every converter, and the conversions of the standstill check (R507). [DEDUCED, log entry 44] -/
def State.refTest (s : State) (e : AbistEnv) : State :=
  (s.each (List.range 8) (fun s v => s.refOne v (e.refFirst.getD v (0, 0)) (e.refAgain.getD v (0, 0)))).each (List.range 9) (fun s c =>
    s.testConversions e.t c (e.still.getD c []))

/-- Whether the amplitude of R219 of a bridge lies below 0.5 V: with u, v and w the sums of its channels' eight codes of
15 ÷ 4,096 V each, ((2u - v - w)² + 3 (v - w)²) ÷ 9 × (15 ÷ 32,768)² < 0.25. [DEDUCED, log entry 44] -/
def stillBridge (e : AbistEnv) (b : Nat) : Bool :=
  let sum := fun (p : Nat) => (((e.still.getD (3 * b + p) []).map (fun x => adcCode x.2)).foldl (· + ·) 0 : Nat)
  let u : Int := sum 0
  let v : Int := sum 1
  let w : Int := sum 2
  decide (100 * ((2 * u - v - w) * (2 * u - v - w) + 3 * ((v - w) * (v - w))) < 2 ^ 30)

/-- The gate steps of R507, unless they are skipped (R508), and the shunt step. -/
def State.boardTest (s : State) (e : AbistEnv) : State :=
  let skipped := s.gdr.xdisIn || !(List.range 3).all (stillBridge e)
  (if skipped then s.setFlag F.BST_STATUS_ABIST_SKIPPED true else s.gateTest e).each (List.range 3) (fun s b =>
    s.testConversions e.t (48 + b) (e.shunt.getD b []))

/-- ANALOGUE_BIST: the steps of R507 in order, and the way out of SELF-TEST; a fault's reaction may end it sooner. -/
def State.analogueBist (s : State) (e : AbistEnv) : State :=
  if !s.running || decide (s.mode ≠ .selfTest) || !s.flag F.BST_STATUS_LBIST_PASS then s
  else
    let s1 := (s.refTest e).dacTest e
    if s1.mode ≠ .selfTest then s1
    else
      let s2 := s1.boardTest e
      if s2.mode ≠ .selfTest then s2
      else
        let skipped := s2.flag F.BST_STATUS_ABIST_SKIPPED
        let stuck := decide (s2.getF F.BST_ABIST_GATE_FAIL ≠ 0)
        let burn := !skipped && !stuck && decide (s2.otp.lifecycle = 2) && s2.otp.baseBoard.isNone
        let s3 := (s2.when burn (fun s => s.burnBoard e)).abistMargins e skipped
        if stuck then s3.failSelfTest burn
        else
          (s3.setFlag F.BST_STATUS_ABIST_PASS (decide (s3.getF F.BST_ABIST_DAC_FAIL = 0) && decide (s3.getF F.ADC_STATUS_FAILED = 0))
            ).passSelfTest burn

/-- The meaning of ANALOGUE_BIST (R507). -/
def execAnalogueBist (e : AbistEnv) (s : State) : Host.Outcome State Fault Refusal := .next (s.analogueBist e)

end Sys2Proof.Machine
end

