-- ==== Sys2Proof/Machine/Load.lean ====
section
/-!
DEFINITION. LOAD (R53): RESET_RELEASE runs its steps in order, from the wipe and MBIST over the checks of both slots and the re-plan
of the margins to the placement of the image, and leaves LOAD by the edge of R58.
-/
namespace Sys2Proof.Machine

open Sys2Proof

/-! MBIST and repair (R505, R506, R513, R525) -/

/-- KIND, ROW and TILE in the bit positions of BST_SIGHT. -/
def repairKey (kind row tile : Nat) : Nat := kind * 2 ^ 27 + row * 2 ^ 19 + tile * 2 ^ 8
/-- Those bits of a BST_SIGHT or BST_REPAIR word, and its tile, row and kind. -/
def keyOf (w : Nat) : Nat := w / 2 ^ 8 % 2 ^ 20 * 2 ^ 8
def keyTile (w : Nat) : Nat := w / 2 ^ 8 % 2 ^ 11
def keyRow (w : Nat) : Nat := w / 2 ^ 19 % 2 ^ 8
def keyKind (w : Nat) : Nat := w / 2 ^ 27 % 2
/-- SEEN of a BST_SIGHT word. -/
def sightSeen (w : Nat) : Nat := w / 2 ^ 28 % 8

/-- A due sighting record: SEEN 0b111 without a burned repair entry (R513). -/
def State.sightDue (s : State) (w : Nat) : Bool :=
  decide (sightSeen w = 7) && !s.otp.repairs.any (fun r => decide (keyOf r = keyOf w))

/-- Recording a soft repair (R513): the next SEEN fuse of its record, or a free record; the word for the REPAIR record.
[DEDUCED, log entry 13] -/
def State.sight (s : State) (key : Nat) : State × Nat :=
  match s.otp.sights.findIdx? (fun w => decide (keyOf w = key)) with
  | some i =>
    let seen := match sightSeen (s.otp.sights.getD i 0) with
      | 1 => 3
      | _ => 7
    let w := 2 ^ 31 + seen * 2 ^ 28 + key
    ({ s with otp := { s.otp with sights := s.otp.sights.set i w } }, w)
  | none =>
    let w := 2 ^ 31 + 2 ^ 28 + key
    if s.otp.sights.length < 128 then ({ s with otp := { s.otp with sights := s.otp.sights ++ [w] } }, w)
    else (s.incF F.BST_FUSE_STAT_SIGHT_LOST, key)

/-- What MBIST has found so far: the device, keys of the soft repairs, spare rows used by tile, tiles beyond repair.
[DEDUCED, log entry 13] -/
structure Mbist where
  s : State
  soft : List Nat
  rows : List (Nat × Nat)
  lost : List Nat

/-- The spare tile of a bank stands in from a burned entry (R514). -/
def State.burnedSpare (s : State) (b : Nat) : State :=
  let s1 : State := { s with sys := { s.sys with spares := s.sys.spares ++ [b] } }
  match clusterBank b with
  | some (c, k) => s1.setF (F.SYS_CLUSTER_SPARE_USED c) (s1.getF (F.SYS_CLUSTER_SPARE_USED c) ||| 2 ^ k)
  | none => s1

/-- Repair of one tile (R506); rows 0 to 127 hold data, 128 to 135 are its spare rows, 136 is the header word.
[DEDUCED, log entry 13] -/
def Mbist.tile (m : Mbist) (bad : List Nat) (x : Nat × List Nat) : Mbist :=
  let data := x.2.filter (fun r => decide (r < 128))
  let hdr := x.2.contains 136
  let burned := (m.s.otp.repairs.filter (fun w => decide (keyKind w = 0 ∧ keyTile w = x.1))).length
  let spare := 8 - burned - (x.2.filter (fun r => decide (128 ≤ r ∧ r < 136))).length
  if (data.isEmpty && !hdr) || decide (2048 ≤ x.1) then m
  else if !hdr && decide (data.length ≤ spare) then
    { m with soft := m.soft ++ data.map (fun r => repairKey 0 r x.1), rows := m.rows ++ [(x.1, data.length)] }
  else if !bad.contains (x.1 / 16) && !m.s.sys.spares.contains (x.1 / 16) then
    { m with s := m.s.useSpare x.1, soft := m.soft ++ [repairKey 1 0 x.1] }
  else { m with lost := m.lost ++ [x.1] }

/-- What an unrepairable tile brings by region (R506): a retired cluster, a removed slot. -/
def State.lostTile (s : State) (t : Nat) : State :=
  match regionOf t with
  | 0 => s.retireCluster (t / 48)
  | 1 => { s with map := { s.map with removed := s.map.removed ++ [t - 384] } }
  | _ => s

/-- MBIST (R505) with soft repair, sightings, BST_MBIST and the REPAIR record. [DEDUCED, log entry 13] -/
def State.mbist (s : State) (e : LoadEnv) : Mbist :=
  let s0 := s.each ((s.otp.repairs.filter (fun w => decide (keyKind w = 1))).map (fun w => keyTile w / 16)) State.burnedSpare
  let m := e.failRows.foldl (fun (m : Mbist) x => m.tile e.badSpares x) (⟨s0, [], [], []⟩ : Mbist)
  let burned := (s.otp.repairs.filter (fun w => decide (keyKind w = 0))).length
  let swapped := (m.soft.filter (fun w => decide (keyKind w = 1))).map keyTile
  let fixed := ((s.otp.repairs ++ m.soft).filter (fun w => decide (keyKind w = 0) && !swapped.contains (keyTile w))).map
    (fun w => (keyTile w, keyRow w))
  let s1 := ((({ m.s with sys := { m.s.sys with rowFix := fixed } } : State).setF F.BST_MBIST_SPARE_TILES m.s.sys.spares.length).setF F.BST_MBIST_SPARE_ROWS
    (burned + (m.rows.map (fun x => x.2)).foldl (· + ·) 0)).setF F.BST_MBIST_UNREPAIRABLE m.lost.length
  let s2 := (s1.setFlag F.BST_STATUS_MBIST_PASS m.lost.isEmpty).when (!m.lost.isEmpty) (fun s => s.event Ev.bst 3)
  let s3 := s2.each m.lost State.lostTile
  let p := m.soft.foldl (fun (p : State × List Nat) k =>
    let r := p.1.sight k
    (r.1, p.2 ++ [r.2])) (s3, [])
  let s4 := p.1.when (!m.soft.isEmpty) (fun s => ((s.event Ev.bst 2).raise Src.mbistRepair).ashRequest 7 0
    (leBytes 2 p.2.length ++ [0, 0] ++ p.2.flatMap (leBytes 4)))
  { m with s := s4 }

/-! The Ash record at LOAD (R473, R474, R477, R479) -/

/-- The MRAM's header as the device writes it. -/
def ashHead (size uid : Nat) : List Byte :=
  let h := [0x41, 0x53, 0x48, 0x31] ++ leBytes 2 1 ++ [0, 0] ++ leBytes 4 size ++ leBytes 8 uid ++ List.replicate 232 (0 : Byte)
  h ++ leBytes 4 (crc32c h)

/-- Whether the MRAM holds a valid header. [DEDUCED, log entry 4] -/
def State.ashHeadOk (s : State) : Bool :=
  let h := s.mramRead 0 256
  decide (h.take 4 = [0x41, 0x53, 0x48, 0x31]) && decide (ofLe ((h.drop 4).take 2) = 1) && decide (ofLe (h.drop 252) = crc32c (h.take 252))

/-- Finding the tail (R477): from the ring's highest SEQ, or from 0x1000; a record that fails there is torn.
[DEDUCED, log entry 15] -/
def State.ashTail (s : State) (size : Nat) : State :=
  let x := (s.ashTailSlot).getD (0, 0x1000, 0)
  let r := s.ashFollow size (size / 40) x.2.1 x.1
  let torn := decide (s.mramRead r.1 2 = [0x41, 0x52])
  ((((s.setTail r.1).setF F.ASH_SEQ_SEQ r.2).setF F.ASH_TAIL_SLOT_SLOT x.2.2).when torn (fun s =>
    (s.incF F.ASH_TORN_CNT_COUNT).event Ev.ash 5))

/-- LOAD's look at the MRAM: JEDEC ID, density, header, tail. [DEDUCED, log entry 15] -/
def State.ashFind (s : State) (m : Option (Nat × Nat)) : State :=
  match m with
  | none => s.setFlag F.ASH_STATUS_READ_ONLY s.retired
  | some (jedec, size) =>
    let s1 := s.setF F.ASH_JEDEC_JEDEC jedec
    if size < 2097152 ∨ 16777216 < size then s1.setFlag F.ASH_STATUS_READ_ONLY s.retired
    else
      let fresh := !s1.ashHeadOk
      let s2 := (s1.when (fresh && !s.retired) (fun s => s.mramWrite 0 (ashHead size s.otp.uid))).setF F.ASH_SIZE_BYTES size
      let uid := ofLe (s2.mramRead 12 8)
      let foreign := s2.ashHeadOk && decide (uid ≠ s.otp.uid)
      let s3 := ((s2.setFlag F.ASH_STATUS_PRESENT s2.ashHeadOk).setFlag F.ASH_STATUS_FOREIGN foreign).setFlag
        F.ASH_STATUS_READ_ONLY (foreign || s.retired)
      let s4 := s3.when s3.ashHeadOk (fun s => (s.setF F.ASH_UID_LO_UID (uid % 2 ^ 32)).setF F.ASH_UID_HI_UID (uid / 2 ^ 32))
      if fresh then s4.setTail 0x1000 else s4.ashTail size

/-- The hold-up measurement (R492): C_H = (0.1 A + I_IN) × 1 ms ÷ ΔV, free where the voltage does not fall.
[DESIGN CHOICE, log entry 19] -/
def State.holdupLoad (s : State) (e : LoadEnv) : State :=
  let s1 := s.setF F.ASH_HOLDUP_V_VLOAD (min e.vload 65535)
  if e.dv = 0 then s1.fresh.2.setF F.ASH_HOLDUP_C_UF (s1.fresh.1.toNat % 65536)
  else s1.setF F.ASH_HOLDUP_C_UF (min 65535 (1000 * (100 + e.iin) / e.dv))

/-- The LOAD record (R480). -/
def State.loadRecord (s : State) : State :=
  let slot := if s.flag F.SYS_STATUS_IMG_VALID then s.getF F.SYS_STATUS_IMG_SLOT else 0xFF
  let ver := if slot = 0xFF then 0 else s.getF (F.IMG_VERSION_VERSION slot)
  s.ashRequest 1 0 (leBytes 1 slot ++ leBytes 1 (s.getF (F.IMG_RESULT_CODE 0)) ++ leBytes 1 (s.getF (F.IMG_RESULT_CODE 1)) ++
    leBytes 1 (s.reg F.SYS_RESET_CAUSE_POR.addr).toNat ++ leBytes 4 ver ++ leBytes 4 (s.getF F.IMG_LENGTH_LENGTH) ++ [0, 0, 0, 0] ++
    (List.range 8).flatMap (fun k => beBytes 4 (s.getF (F.IMG_DIGEST_DIGEST k))))

/-! The re-plan (R516 to R518) -/

/-- The trim of R517 for a degradation d in 0.01 %. -/
def trimFor (d : Int) : Int := max (-2) (min 6 (-((200 - d) / 120)))

/-- The hob clock step for an effective degradation. -/
def stepFor (e : Int) : Nat := if e ≤ 200 then 0 else if e ≤ 700 then 1 else 2

/-- Retirement of a tile with five or more spare rows used to its bank's free spare tile (R518). -/
def State.retireTile (s : State) (bad : List Nat) (t : Nat) : State :=
  if bad.contains (t / 16) || s.sys.spares.contains (t / 16) then s
  else (s.useSpare t).incF F.AGE_RETIRED_TILES

/-- FET baselines burned at the first re-plan after their measurement (R516). -/
def State.burnFet (s : State) : State :=
  { s with otp := { s.otp with baseFet := s.otp.baseFet.zipIdx.map (fun x => if x.1 = 0 then s.ember.fetFirst.getD x.2 0 else x.1) } }

/-- LOAD step 7: plan, read assist, retired tiles, margins 0 and 1. -/
def State.replan (s : State) (e : LoadEnv) (rows : List (Nat × Nat)) : State :=
  let s1 := (s.roTake e.ro).incF F.AGE_REPLAN_CNT_COUNT
  let s2 := s1.each [0, 1] (fun s h => s.setTrim h (trimFor (s.halfD h)))
  let worstE := max (s2.effD 0) (s2.effD 1)
  let s3 := (s2.setStep (stepFor worstE)).setF F.AGE_PLAN_E_MAX (ofInt 16 worstE)
  let s4 := s3.when (decide (1200 < worstE)) State.exhaust
  let north := (e.canary.take 8).foldl max 0
  let south := ((e.canary.drop 8).take 8).foldl max 0
  let s5 := (((s4.setF F.AGE_CANARY_NORTH north).setF F.AGE_CANARY_SOUTH south).setFlag F.AGE_PLAN_READ_ASSIST
    (decide (s4.getF F.AGE_CFG_CANARY_ON < max north south)))
  let s6 := s5.each ((rows.filter (fun x => decide (5 ≤ x.2))).map (fun x => x.1)) (fun s t => s.retireTile e.badSpares t)
  (s6.setValue 1 (max (1000 * s6.sys.spares.length / 128) (1000 * s6.otp.repairs.length / 64) : Nat)).burnFet

/-! Slots (R50, R51) -/

/-- Check 0x10 of slot k: the flash does not answer, its ID is all zeros or ones, or it reports a read error. -/
def flashFail (x : Bool × Nat × Option Nat) : Option Fail :=
  if !x.1 || decide (x.2.1 = 0 ∨ x.2.1 = 0xFFFFFF) then some ⟨0x10, 0, 0⟩ else x.2.2.map (fun o => ⟨0x10, 0, o⟩)

/-- Checks 0x10 to 0x18 of slot k. -/
def State.earlyCheck (s : State) (e : LoadEnv) (k : Nat) : Option Fail :=
  (flashFail (e.flash.getD k (false, 0, none))).or
    ((hdrEarly s (s.slotHeader k)).or (imgAuthentic s (s.slotBytes k)))

/-- The outcome of slot k's check in the registers. -/
def State.showResult (s : State) (k : Nat) (r : Option Fail) : State :=
  match r with
  | some f => ((s.setF (F.IMG_RESULT_SECTION k) f.sect).setF (F.IMG_RESULT_CODE k) f.code).setF (F.IMG_FAIL_ADDR_OFFSET k) f.addr
  | none => (s.setF (F.IMG_RESULT_SECTION k) 0).setF (F.IMG_RESULT_CODE k) 1

/-- What reading slot k shows whatever follows: the JEDEC ID, and VERSION where the header was read. -/
def State.showFlash (s : State) (e : LoadEnv) (k : Nat) : State :=
  let x := e.flash.getD k (false, 0, none)
  let read := match flashFail x with
    | none => true
    | some f => decide (256 ≤ f.addr)
  (s.when x.1 (fun s => s.setF F.IMG_FLASH_ID_JEDEC x.2.1)).when read (fun s =>
    s.setF (F.IMG_VERSION_VERSION k) (hVersion (s.slotHeader k)))

/-- Checks of slot k with the result shown; `plan` runs between check 0x18 and check 0x19 (R53 steps 6 to 8).
[DEDUCED, log entry 15] -/
def State.checkSlot (s : State) (e : LoadEnv) (k : Nat) (plan : State → State) : State × Bool :=
  let s1 := s.showFlash e k
  let early := s1.earlyCheck e k
  let s2 := plan s1
  let r := early.or (structCheck s2 (s2.slotBytes k) (s2.getF (F.SYS_HALF_HOB_CLK_STEP 0)))
  (s2.showResult k r, r.isNone)

/-! Placement (R53 step 10) -/

/-- FLT_SRC_n from the FAULT records, and FLT_CFG_SUM (R48, R448). -/
def State.placeFaults (s : State) (b : List Byte) : State :=
  let recs := recordsOf 4 (body b 6)
  let s1 := s.each recs.zipIdx (fun s x => ((s.setF (F.FLT_SRC_CLASS x.2) (le x.1 0 1 % 4)).setF (F.FLT_SRC_REACTION x.2)
    (le x.1 1 1)).setF (F.FLT_SRC_CLEAR_WAIT x.2) (le x.1 2 2))
  let n := fun c => (recs.filter (fun r => decide (le r 0 1 % 4 = c))).length
  ((s1.setF F.FLT_CFG_SUM_FATAL (n 2)).setF F.FLT_CFG_SUM_CONTAINED (n 1)).setF F.FLT_CFG_SUM_CORRECTED (n 0)

/-- Instances and signals as they stand before the first sample. -/
def Node.init (n : Node) : InstRun :=
  { st := List.replicate n.stateWords 0, act := n.initSet.1, bank := n.initSet.2 }
def Sig.init (g : Sig) : SigRun := { v := g.initial, pv := g.initial, cv := g.initial }

/-- The slot registers of the scheduled controllers (R128, R135). [DESIGN CHOICE, log entry 14] -/
def State.placeLaw (s : State) : State :=
  let l := s.allInst.filter (fun i => decide ((s.node i).ty = 32 ∨ (s.node i).ty = 33))
  (s.setF F.LAW_STATUS_SLOTS_USED l.length).each l.zipIdx (fun s x =>
    let p := (s.node x.1).params
    let s1 := (s.setFlag (F.LAW_SLOT_INST_VALID x.2) true).setF (F.LAW_SLOT_INST_INSTANCE x.2) x.1
    ((s1.setF (F.LAW_SLOT_STATE_ACTIVE_SET x.2) (s.node x.1).initSet.1).setF (F.LAW_SLOT_STATE_IX x.2)
      (schInit p % (schNx p + 1))).setF (F.LAW_SLOT_STATE_IY x.2) (schInit p / (schNx p + 1)))

/-- SAF_INST_SLS, SAF_INST_SLP and SAF_INST_SDI. -/
def State.placeSafety (s : State) : State :=
  s.each [(70, F.SAF_INST_SLS_VALID, F.SAF_INST_SLS_INSTANCE), (71, F.SAF_INST_SLP_VALID, F.SAF_INST_SLP_INSTANCE),
      (72, F.SAF_INST_SDI_VALID, F.SAF_INST_SDI_INSTANCE)] (fun s x =>
    match s.img.nodes.findIdx? (fun n => decide (n.ty = x.1)) with
    | some i => (s.setFlag x.2.1 true).setF x.2.2 i
    | none => s)

/-- What the schedules give (R302, R313, R364, R396). -/
def State.placeScheds (s : State) : State :=
  s.each s.img.flue.scheds (fun s x =>
    let k := x.index
    let s1 := (((s.setFlag (F.FLU_SCHED_INFO_VALID k) true).setF (F.FLU_SCHED_INFO_CAP k) (cmdCap x s.nodeId)).setF
      (F.FLU_SCHED_INFO_CMD_SLOTS k) (cmdSlots x.slots s.nodeId).length).setF (F.FLU_SCHED_INFO_OWN_SLOTS k)
      (ownedBy x.slots s.nodeId).length
    let s2 := s1.setFlag (F.LDS_SCHED_VALID k) true
    if s.topology < 2 then s2
    else ((s2.setF (F.LDS_SCHED_CH_SLOT k) ((chSlot x.slots s.nodeId).getD 0)).setF (F.LDS_SCHED_SLOTS k)
      (intakeSlots x.slots s.nodeId).length).setF (F.LDS_SCHED_E k) (s.eCap x.slots))

/-- Sizes of records, entries and checkpoints (R364, R370, R484, R486, R487). -/
def State.placeSizes (s : State) : State :=
  let k := s.ckptSet.length
  let v := s.entryWords
  let s1 := ((s.setF F.LDS_INTAKE_W s.recWords).setF F.LDS_INTAKE_N1 s.recT1.length).setF F.LDS_ALIGN_CARRIED s.carried.length
  let s2 := (((s1.setF F.JRN_ENTRY_V v).setF F.JRN_ENTRY_P_E (entryBytes v)).setF F.JRN_CKPT_K k).setF F.JRN_CKPT_P_C (ckptBytes k / 4)
  (s2.setF F.JRN_DEPTH_N_B s.ringBlocks).setF F.JRN_DEPTH_WINDOW ((s.ringBlocks - 1) * 64)

/-- What IMG shows of the image in use in slot k (R66 to R72). [DEDUCED, log entry 15] -/
def State.showImage (s : State) (k : Nat) (b : List Byte) : State :=
  let c4 := tickCycles4 (stepKHz (s.getF (F.SYS_HALF_HOB_CLK_STEP 0)))
  let s1 := (((((s.setFlag F.IMG_STATUS_VALID true).setF F.IMG_STATUS_SLOT k).setFlag F.IMG_STATUS_FALLBACK (decide (k = 1))).setFlag
    F.SYS_STATUS_IMG_VALID true).setF F.SYS_STATUS_IMG_SLOT k).setF F.IMG_LENGTH_LENGTH (hImageLen b)
  let s2 := ((s1.setF F.IMG_SECTIONS_PRESENT (maskOf ((List.range 10).map (fun t => (sect b (t + 1)).isSome)))).setF
    F.IMG_GRAPH_SIZE_SIGNALS s.img.sigs.length).setF F.IMG_GRAPH_SIZE_INSTANCES s.img.nodes.length
  let s3 := (((s2.setF F.IMG_CHANNEL_TOPOLOGY (hTopology b)).setF F.IMG_CHANNEL_CHANNEL_ID (hChannelId b)).setF
    F.SYS_MODE_CHANNEL_ID (hChannelId b)).setF F.IMG_KEY_STATE_IN_USE (hKeyIndex b)
  let s4 := (s3.setF F.IMG_SCHED_TOTAL_PERMILLE (ceilDiv (4000 * s.totalLoad) (16384 * c4))).setF F.IMG_SCHED_HALF_PERMILLE
    (ceilDiv (4000 * s.halfLoad) (8192 * c4))
  let s5 := s4.each (List.range 5) (fun s c => s.setF (F.IMG_CLASS_LOAD_CYCLES c)
    (ceilDiv (loadOf s.img.nodes (fun n => decide (n.rate = c)) + loadOf s.img.nodes (fun n => decide (n.rate = c ∧ n.cls = 0))) 256))
  let s6 := s5.each (List.range 8) (fun s j => s.setF (F.IMG_DIGEST_DIGEST j) (ofBe ((s.img.digest.drop (4 * j)).take 4)))
  let s7 := s6.each (List.range 4) (fun s j => s.setF (F.IMG_MACHINE_ID_ID j) (le b (0x20 + 4 * j) 4))
  (s7.setF F.IMG_BUILD_TIME_LO_TIME (le b 0x30 4)).setF F.IMG_BUILD_TIME_HI_TIME (le b 0x34 4)

/-- The units whose use the REG records decide (R178, R197, R248): position interfaces and sensor supplies.
[DESIGN CHOICE, log entry 14] -/
def State.startUnits (s : State) : State :=
  let s1 := s.each (List.range 4) State.posFollow
  let on := (List.range 4).filter (fun i => s1.flag (F.GDR_SS_CFG_ENABLE i))
  ({ s1 with gdr := { s1.gdr with ssOn := on } } : State).each on State.refreshSupply

/-- Step 10: REG records, graph, signals, parameters and schedules of slot k placed. -/
def State.place (s : State) (k : Nat) : State :=
  let b := s.slotBytes k
  let img := imgOf b
  let gr := { s.gr with insts := img.nodes.map Node.init, sigs := img.sigs.map Sig.init }
  let s1 := ({ s with img := img, gr := gr, sec := { s.sec with pts := List.replicate img.points.length {} } } : State).applyRegs
    (regRecs b)
  let s2 := ((s1.placeFaults b).showImage k b).setF F.SEC_STATUS_POINTS img.points.length
  let s3 := (s2.setF F.FLU_SCHED_REQUEST img.flue.init).useSched img.flue.init
  s3.placeLaw.placeSafety.placeScheds.placeSizes.refreshIso

/-! RESET_RELEASE -/

/-- Steps 1 and 2: supplies, clocks and domains run, the tile store is wiped, the straps are sampled (R53, R459). -/
def State.loadStart (s : State) (e : LoadEnv) : State :=
  let s0 : State := { s with tiles := [], sys := { s.sys with phase := .run, strap := e.strap % 4, wiped := true } }
  let s1 := s0.each (List.range' 1 17 ++ [20]) (fun s d => s.domUp e.domFails d)
  let s2 := ((s1.setFlag F.CLK_STATUS_XT25_OK true).setF F.CLK_XT25_COUNT (e.windows.getD 0 0)).each [0, 1] (fun s h =>
    let pll := if h = 0 then (F.CLK_PLL_N_LOCK, F.CLK_PLL_N_LOCK_TIME, F.CLK_MON_N_COUNT, F.CLK_STATUS_MON_N_OK)
               else (F.CLK_PLL_S_LOCK, F.CLK_PLL_S_LOCK_TIME, F.CLK_MON_S_COUNT, F.CLK_STATUS_MON_S_OK)
    let n := e.windows.getD (h + 1) 0
    let tol := 4 * s.getF F.CLK_CFG_MON_TOL
    (((s.setFlag pll.1 true).setF pll.2.1 (min 255 (e.lockUs.getD h 0))).setF pll.2.2.1 n).setFlag pll.2.2.2
      (decide (4000 ≤ n + tol) && decide (n ≤ 4000 + tol)))
  let s3 := s2.each (List.range 16) (fun s i => s.setFlag (F.CLK_OUT_STAT_RUNNING i) true)
  (s3.ageBases.holdupLoad e).ashFind e.mram

/-- The end of LOAD: domains 19 and 21 and the units they feed, the reference checks, IMG_LOAD_TIME (R248, R267, R459).
[DESIGN CHOICE, log entries 9 and 14] -/
def State.loadEnd (s : State) (e : LoadEnv) : State :=
  let units := (List.range 4).any (fun i => s.flag (F.CAN_CFG_ENABLE i) || decide (s.getF (F.POS_CFG_MODE i) ≠ 0))
  let on := fun (s : State) (d : Nat) => s.domUp e.domFails d
  let s1 := (on (s.when units (fun s => on s 19)) 21).startUnits
  let s2 := ((s1.setFlag F.GDR_STATUS_VGD_OK true).setFlag F.FLU_STATUS_DAMPER_OPEN_OK true).refreshMon.refAll e.refFirst e.refAgain
  ((s2.setF F.IMG_LOAD_TIME_TIME (min e.us (2 ^ 24 - 1))).refreshDeadtime).loadRecord

/-- Cluster, andiron and fabric flags at the end of LOAD (R35, R36). -/
def State.startHalves (s : State) : State :=
  let s1 := s.each ((List.range 8).filter (fun c => !s.flag (F.SYS_CLUSTER_RETIRED c))) (fun s c =>
    s.setF (F.SYS_CLUSTER_HOB_IN_SERVICE c) 0xFF)
  (s1.each [0, 1] (fun s h => (s.setFlag (F.SYS_HALF_FABRIC_OK h) true).setFlag (F.SYS_HALF_ANDIRON_OK h) true)).refreshHobs

/-- SELF-TEST is entered, and the comparator test runs at once (R431); a comparator that fails it ends SELF-TEST (R504). -/
def State.toSelfTest (s : State) (e : LoadEnv) : State :=
  let s1 := ((s.loadEnd e).startHalves).enterMode .selfTest 0 0
  let s2 := s1.each (List.range 24) (fun s k => s.cmpTest k (e.cmpMissed.getD k 0) (e.cmpFlagged.getD k 0))
  if (List.range 24).all (fun k => s2.flag (F.CMP_TEST_PASS k)) then s2 else s2.failSelfTest false

/-- LOAD ends in SAFE-HOLD (R58). -/
def State.toSafeHold (s : State) (e : LoadEnv) : State := ((s.loadEnd e).startHalves).enterMode .safeHold 0 0

/-- The fixed settings of BLANK (R509). -/
def State.blankPlan (s : State) : State := (([0, 1].foldl (fun s h => s.setTrim h 0) s).setStep 2).setFlag F.AGE_PLAN_READ_ASSIST true

/-- Steps 5 to 10 (R53, R51). [DEDUCED, log entry 15] -/
def State.loadImage (s : State) (e : LoadEnv) (rows : List (Nat × Nat)) : State :=
  let a := s.checkSlot e 0 (fun s => s.replan e rows)
  if a.2 then (a.1.place 0).toSelfTest e
  else
    let b := a.1.checkSlot e 1 id
    if b.2 then (b.1.place 1).toSelfTest e else (b.1.setFlag F.IMG_STATUS_NO_IMAGE true).toSafeHold e

/-- RESET_RELEASE (R53, R551): LOAD, where the die is held in reset, VSUP is valid and VIO is at least 3.0 V; the command itself says
that the core supply is ready. The loss of one of domains 1 to 8 ends LOAD in SAFE-HOLD (R19, R463).
[DESIGN CHOICE, log entries 7 and 14] -/
def State.resetRelease (s : State) (e : LoadEnv) : State :=
  if s.sys.phase ≠ .held ∨ s.sys.vsup = false ∨ s.sys.vioUnder = true then s
  else
    let m := (s.loadStart e).mbist e
    let lost := m.lost.any (fun t => decide (2 ≤ regionOf t)) || (List.range' 1 8).any (fun d => (m.s.dom d).lost)
    if lost then m.s.toSafeHold e
    else if s.otp.lifecycle = 0 then (m.s.blankPlan.setFlag F.IMG_STATUS_SKIPPED true).toSelfTest e
    else if s.otp.lifecycle = 4 then (m.s.setFlag F.IMG_STATUS_SKIPPED true).toSafeHold e
    else m.s.loadImage e m.rows

/-- The meaning of RESET_RELEASE (R53). [DESIGN CHOICE, log entry 7] -/
def execResetRelease (e : LoadEnv) (s : State) : Host.Outcome State Fault Refusal := .next (s.resetRelease e)

end Sys2Proof.Machine
end

