-- ==== Sys2Proof/Machine/Views.lean ====
section
/-!
DEFINITION. What a register reads (R8, R9, R23): most registers have their one home in `regs`; a field that shows the OTP, the
Ember domain, the ticks, Flue time or another field is given here. Reads that latch or take stand at the end.
-/
namespace Sys2Proof.Machine

open Sys2Proof

/-- A word with fields replaced. -/
def ovl (w : Word) (l : List (Fld × Nat)) : Word := l.foldl (fun w x => x.1.put w x.2) w

/-! Clocks and time -/

/-- PLL of a half locked and inside its monitor window (R29). -/
def State.pllOk (s : State) (h : Nat) : Bool :=
  if h = 0 then s.flag F.CLK_PLL_N_LOCK && s.flag F.CLK_STATUS_MON_N_OK else s.flag F.CLK_PLL_S_LOCK && s.flag F.CLK_STATUS_MON_S_OK

/-- SYS_STATUS with its copies (R29). -/
def State.sysStatus (s : State) (w : Word) : Word :=
  ovl w [(F.SYS_STATUS_PLL_S_LOCK, b2n (s.pllOk 1)), (F.SYS_STATUS_PLL_N_LOCK, b2n (s.pllOk 0)),
    (F.SYS_STATUS_XT32_OK, b2n s.ember.xt32Ok), (F.SYS_STATUS_XT25_OK, s.getF F.CLK_STATUS_XT25_OK),
    (F.SYS_STATUS_FORCED_SEEN, s.getF F.FLT_STATUS_FORCED_SEEN), (F.SYS_STATUS_REDUNDANCY_LOST, s.getF F.LDS_STATUS_REDUNDANCY_LOST),
    (F.SYS_STATUS_RTC_VALID, b2n s.ember.rtcValid)]

/-- CLK_STATUS with its copies (R472). -/
def State.clkStatus (s : State) (w : Word) : Word :=
  ovl w [(F.CLK_STATUS_PPS_LOST, s.getF F.CLK_PPS_LOST), (F.CLK_STATUS_RC_RTC, b2n (!s.ember.xt32Ok)),
    (F.CLK_STATUS_PLL_S_LOCK, b2n (s.pllOk 1)), (F.CLK_STATUS_PLL_N_LOCK, b2n (s.pllOk 0)), (F.CLK_STATUS_XT32_OK, b2n s.ember.xt32Ok)]

/-- SYS_HALF_h (R35): ACTIVE while the graph runs; FABRIC_OK, from its LOAD check on, until the fabric's domain is lost; ANDIRON_OK
while the andiron's domain is on and no write of the andirons waits for its retry (R429, R459). [DESIGN CHOICE, log entry 29] -/
def State.viewHalf (s : State) (h : Nat) (w : Word) : Word :=
  let clean := andironCmps.all (fun k => (s.cmps.getD k {}).retry.isEmpty)
  ovl w [(F.SYS_HALF_FABRIC_OK 0, b2n ((F.SYS_HALF_FABRIC_OK 0).get w = 1 && !(s.dom (5 + h)).lost)),
    (F.SYS_HALF_ANDIRON_OK 0, b2n ((F.SYS_HALF_ANDIRON_OK 0).get w = 1 && decide (s.domState (7 + h) = 2) && clean)),
    (F.SYS_HALF_ACTIVE 0, s.getF F.HOB_STATUS_RUNNING)]

/-- Block SYS (R26 to R37). -/
def State.viewSys (s : State) (off : Nat) (w : Word) : Word :=
  match off with
  | 0x004 => w32 (s.otp.uid % 2 ^ 32)
  | 0x008 => w32 (s.otp.uid / 2 ^ 32)
  | 0x00C => F.SYS_MODE_LIFECYCLE.put w s.otp.lifecycle
  | 0x010 => s.sysStatus w
  | 0x014 => w32 s.sys.strap
  | 0x020 => w32 s.sys.tick
  | 0x024 => s.sys.tickLatch.getD (w32 (s.sys.tick / 2 ^ 32))
  | 0x030 | 0x034 => s.viewHalf (off / 4 % 4) w
  | _ => w

/-- Block PWR: the counters that the Ember domain keeps (R470), and domain 0, which is always on (R459). -/
def State.viewPwr (s : State) (off : Nat) (w : Word) : Word :=
  if off = F.PWR_DORMANT_CNT_COUNT.addr - 0x40010000 then w32 s.ember.dormantCnt
  else if off = F.PWR_WAKE_CNT_COUNT.addr - 0x40010000 then w32 s.ember.wakeCnt
  else if off = F.PWR_WAKE_FAIL_CNT_COUNT.addr - 0x40010000 then w32 s.ember.wakeFailCnt
  else if off = (F.PWR_DOM_STAT_STATE 0).addr - 0x40010000 then (F.PWR_DOM_STAT_STATE 0).put w 2
  else if off = (F.PWR_DOM_CFG_LOW_STATE 0).addr - 0x40010000 then (F.PWR_DOM_CFG_LOW_STATE 0).put w 0
  else w

/-- Block CLK: the RTC, its alarm and trim (R472). -/
def State.viewClk (s : State) (off : Nat) (w : Word) : Word :=
  match off with
  | 0x000 => s.clkStatus w
  | 0x030 => w32 s.ember.rtc
  | 0x034 => s.sys.rtcLatch.getD (w32 (s.ember.rtc / 2 ^ 32))
  | 0x038 => ovl w [(F.CLK_RTC_STAT_RC, b2n (!s.ember.xt32Ok)), (F.CLK_RTC_STAT_VALID, b2n s.ember.rtcValid)]
  | 0x03C => w32 (s.ember.alarm.getD 0)
  | 0x040 => ovl w [(F.CLK_ALARM_HI_ARMED, b2n s.ember.alarm.isSome), (F.CLK_ALARM_HI_ALARM, s.ember.alarm.getD 0 / 2 ^ 32)]
  | 0x04C => w32 (s.otp.rcTrim % 256)
  | _ => w

/-! Windows -/

/-- The selected gain set (R132), none for a selection that names no gain set. -/
def State.editSet (s : State) : Option (Nat × Nat × List Word) :=
  let i := s.getF F.LAW_EDIT_SEL_INSTANCE
  let k := s.getF F.LAW_EDIT_SEL_SET
  let n := s.node i
  if s.img.nodes.length ≤ i then none
  else if n.ty = 32 ∨ n.ty = 33 then (if k < schNSets n.params then some (i, k, n.gainSet k) else none)
  else if n.ty = 30 ∨ n.ty = 31 ∨ n.ty = 34 ∨ n.ty = 38 then (if k = 0 then some (i, k, n.gainSet k) else none)
  else none

/-- Block LAW (R128, R132). -/
def State.viewLaw (s : State) (off : Nat) (w : Word) : Word :=
  if off = 0 then F.LAW_STATUS_VALVE_MODE.put w (s.getF F.LAW_STEER_MODE)
  else if 0x040 ≤ off ∧ off < 0x060 then
    match s.editSet with
    | some (_, _, l) => l.getD ((off - 0x040) / 4) 0
    | none => 0
  else w

/-- Block SEC: the POINT record that SEC_GEOM_SEL selects (R175). -/
def State.viewSec (s : State) (off : Nat) (w : Word) : Word :=
  if 0x060 ≤ off ∧ off < 0x080 then
    w32 (ofLe (((s.img.points.getD (s.getF F.SEC_GEOM_SEL_POINT) []).drop (off - 0x060)).take 4))
  else w

/-- Block MAP: the directory entry that MAP_DIR_SEL selects (R177). -/
def State.viewMap (s : State) (off : Nat) (w : Word) : Word :=
  match off, s.map.dir.find? (fun e => decide (e.slot = s.getF F.MAP_DIR_SEL_SLOT)) with
  | 0x058, some e => ovl 0 [(F.MAP_DIR_KEY_TY, (e.key.ty % 65536).toNat), (F.MAP_DIR_KEY_TX, (e.key.tx % 65536).toNat)]
  | 0x05C, some e => ovl 0 [(F.MAP_DIR_STATE_VERSION, e.ver), (F.MAP_DIR_STATE_PINNED, b2n (s.isPinned e.key)),
      (F.MAP_DIR_STATE_STATE, e.st), (F.MAP_DIR_STATE_LAYER, e.key.layer)]
  | _, _ => w

/-- Block ETH: the ARP entry that ETH_ARP_SEL selects (R359). -/
def State.viewEth (s : State) (p off : Nat) (w : Word) : Word :=
  match off, (s.eth p).arps.getD (s.getF (F.ETH_ARP_SEL_ENTRY p)) none with
  | 0x08C, some a => w32 a.ip
  | 0x090, some a => w32 (ofBe ((a.mac.drop 2).take 4))
  | 0x094, some a => w32 (2 ^ 31 + ofBe (a.mac.take 2))
  | _, _ => w

/-- Block AGE: what is kept in the Ember domain or the OTP (R530). -/
def State.viewAge (s : State) (off : Nat) (w : Word) : Word :=
  if off = F.AGE_PLAN_BASELINE_SET.addr - 0x40140000 then F.AGE_PLAN_BASELINE_SET.put w (b2n s.otp.baseBoard.isSome)
  else if off = F.AGE_CRYSTAL_DRIFT.addr - 0x40140000 then s.ember.crystal
  else if off = F.AGE_VDS_ON_ST.addr - 0x40140000 then
    ovl w [(F.AGE_VDS_ON_ST, min 255 (s.ember.vdsOn.getD 0 0)), (F.AGE_VDS_ON_BK, min 255 (s.ember.vdsOn.getD 1 0)),
      (F.AGE_VDS_ON_AX, min 255 (s.ember.vdsOn.getD 2 0))]
  else w

/-- Due sighting records (R513). -/
def State.dueSights (s : State) : List Nat := s.otp.sights.filter s.sightDue

/-- Block BST: repair entries and sighting records (R528). -/
def State.viewBst (s : State) (off : Nat) (w : Word) : Word :=
  if off = F.BST_SIGHT_VALID.addr - 0x40150000 then w32 (s.otp.sights.getD (s.getF F.BST_SIGHT_SEL_RECORD) 0)
  else if off = F.BST_FUSE_STAT_DUE.addr - 0x40150000 then
    ovl w [(F.BST_FUSE_STAT_DUE, s.dueSights.length), (F.BST_FUSE_STAT_SIGHTS_FREE, 128 - s.otp.sights.length),
      (F.BST_FUSE_STAT_ENTRIES_FREE, 64 - s.otp.repairs.length)]
  else if (F.BST_REPAIR_VALID 0).addr - 0x40150000 ≤ off ∧ off < (F.BST_REPAIR_VALID 64).addr - 0x40150000 then
    w32 (s.otp.repairs.getD ((off - ((F.BST_REPAIR_VALID 0).addr - 0x40150000)) / 4) 0)
  else w

/-- Block ASH: the record being appended (R499). -/
def State.viewAsh (s : State) (off : Nat) (w : Word) : Word :=
  let busy := s.flag F.ASH_STATUS_PRESENT && !s.flag F.ASH_STATUS_STOPPED && !s.flag F.ASH_STATUS_READ_ONLY
  let head := if busy then s.ash.queue.head? else none
  if off = F.ASH_STATUS_COMMITTING.addr - 0x40120000 then F.ASH_STATUS_COMMITTING.put w (b2n head.isSome)
  else if off = F.ASH_PENDING_TYPE.addr - 0x40120000 then
    match head with
    | some r => ovl 0 [(F.ASH_PENDING_TYPE, r.type), (F.ASH_PENDING_REMAIN, min r.size (2 ^ 24 - 1))]
    | none => 0
  else w

/-- Block MBX: the SERVICE window, FULL and the waits (R532, R542). -/
def State.viewMbx (s : State) (off : Nat) (w : Word) : Word :=
  if 0x040 ≤ off ∧ off < 0x080 then (s.mbx.data.getD (s.getF F.MBX_SEL_MAILBOX) []).getD ((off - 0x040) / 4) 0
  else if 0x0C0 ≤ off ∧ off < 0x100 then
    (F.MBX_STAT_FULL 0).put w (b2n (bit (s.getF F.MBX_STATUS_FULL) ((off - 0x0C0) / 4)))
  else if 0x100 ≤ off ∧ off < 0x140 then
    let m := (off - 0x100) / 4
    if bit (s.getF F.MBX_STATUS_FULL) m then w32 (min (s.sys.tick - s.mbx.since.getD m 0) (2 ^ 32 - 1)) else 0
  else w

/-- Block SVC (R544). -/
def State.viewSvc (s : State) (off : Nat) (w : Word) : Word :=
  match off with
  | 0x000 => ovl w [(F.SVC_STATUS_ATTN, b2n (bit (s.getF F.MBX_DB_PEND_FILLED) 15 && bit (s.getF F.MBX_DB_MASK_MASK) 15)),
      (F.SVC_STATUS_NVM_BUSY, s.getF F.SVC_NVM_BUSY), (F.SVC_STATUS_FRAME_OPEN, b2n s.svc.frame),
      (F.SVC_STATUS_WRITES, b2n (decide (s.mode = .service))), (F.SVC_STATUS_READY, b2n s.sys.wiped)]
  | 0x018 => F.SVC_JTAG_LOCKED.put w (b2n (decide (s.otp.lifecycle ≠ 0)))
  | _ => w

/-- Block IMG: what the OTP and the shadow copies give (R67, R70, R71). -/
def State.viewImg (s : State) (off : Nat) (w : Word) : Word :=
  match off with
  | 0x000 => ovl w [(F.IMG_STATUS_FLOOR_LEFT, 64 - s.otp.floors.length),
      (F.IMG_STATUS_SHADOW_PENDING, b2n (!s.svc.shadow.isEmpty || !s.gr.edits.isEmpty))]
  | 0x014 => w32 s.versionFloor
  | 0x02C => ovl w [(F.IMG_KEY_STATE_REVOKED, s.otp.revoked), (F.IMG_KEY_STATE_PROGRAMMED, maskOf (s.otp.keys.map Option.isSome))]
  | 0x040 => ovl w [(F.IMG_FLASH_CFG_OPCODE, s.otp.flashOpcode), (F.IMG_FLASH_CFG_MODE, s.otp.flashMode), (F.IMG_FLASH_CFG_DUMMY, s.otp.flashDummy)]
  | _ => w

/-- The ISO registers of CAN_1 to CAN_3, which read 0 and ignore writes (R356). [DEDUCED, log entry 4] -/
def isoAbsent (a : Nat) : Bool :=
  decide (0x400E1000 ≤ a ∧ a < 0x400E4000) && decide (0x024 ≤ a % 0x1000 ∧ a % 0x1000 < 0x034)

/-- What the register space reads at `a` (R8, R9). [DEDUCED, log entry 4] -/
def State.view (s : State) (a : Nat) : Word :=
  let w := s.reg a
  let off := a % 0x10000
  if (findReg a).isNone || isoAbsent a then 0
  else
    match (a - regBase) / 0x10000 with
    | 0 => s.viewSys off w
    | 1 => s.viewPwr off w
    | 2 => s.viewClk off w
    | 6 => s.viewLaw off w
    | 7 => s.viewSec off w
    | 8 => s.viewMap off w
    | 13 => if a = F.FLU_TIME_LO_TIME.addr then w32 s.flu.time
            else if a = F.FLU_TIME_HI_TIME.addr then s.sys.flueLatch.getD (w32 (s.flu.time / 2 ^ 32)) else w
    | 15 => s.viewEth (off / 0x1000) (off % 0x1000) w
    | 16 => if a = F.SAF_STATUS_MODE.addr then s.safStatusWord else w
    | 17 => if a = F.LDS_STATUS_F.addr then s.ldsStatusWord else w
    | 18 => s.viewAsh off w
    | 20 => s.viewAge off w
    | 21 => s.viewBst off w
    | 22 => s.viewMbx off w
    | 23 => s.viewSvc off w
    | 24 => s.viewImg off w
    | _ => w

/-! Reads that latch the upper word for its next read (R33, R313, R471) -/

/-- A read of SYS_TICK_LO latches the upper word. -/
def State.latchTick (s : State) : State := { s with sys := { s.sys with tickLatch := some (w32 (s.sys.tick / 2 ^ 32)) } }

/-- A read of FLU_TIME_LO latches FLU_TIME_HI; `elapsed` ns have passed since Flue time was last told. -/
def State.latchFlue (s : State) (elapsed : Nat) : State :=
  { s with flu := { s.flu with time := s.flu.time + elapsed },
           sys := { s.sys with flueLatch := some (w32 ((s.flu.time + elapsed) / 2 ^ 32)) } }

/-- A read of CLK_RTC_LO latches CLK_RTC_HI; `elapsed` RTC units have passed since the RTC was last told. -/
def State.latchRtc (s : State) (elapsed : Nat) : State :=
  let s1 := s.rtcRun elapsed
  { s1 with sys := { s1.sys with rtcLatch := some (w32 (s1.ember.rtc / 2 ^ 32)) } }

/-- A read of the upper word uses the latch up. -/
def State.unlatch (s : State) (a : Nat) : State :=
  if a = F.SYS_TICK_HI_TICK.addr then { s with sys := { s.sys with tickLatch := none } }
  else if a = F.FLU_TIME_HI_TIME.addr then { s with sys := { s.sys with flueLatch := none } }
  else if a = F.CLK_RTC_HI_RTC.addr then { s with sys := { s.sys with rtcLatch := none } }
  else s

/-- The meaning of SYS_TICK_LO (R33). -/
def execSysTickLo (s : State) : Host.Outcome State Fault Refusal := .next (if s.running then s.latchTick else s)

/-- The meaning of FLU_TIME_LO (R313). [DEDUCED, log entry 20] -/
def execFluTimeLo (elapsed : Nat) (s : State) : Host.Outcome State Fault Refusal := .next (if s.running then s.latchFlue elapsed else s)

/-- The meaning of CLK_RTC_LO (R471). [DESIGN CHOICE, log entry 51] -/
def execClkRtcLo (elapsed : Nat) (s : State) : Host.Outcome State Fault Refusal := .next (if s.running then s.latchRtc elapsed else s)

end Sys2Proof.Machine
end

