-- ==== Sys2Proof/Machine/Mailbox.lean ====
section
/-!
DEFINITION. Mailboxes and doorbells (R531 to R535): MESSAGE_SEND, MESSAGE_TAKE, MBX_DB_PEND, LONG_WAIT, SERVICE_REQUEST.
-/
namespace Sys2Proof.Machine

open Sys2Proof

/-- Sender and receiver of mailbox m (R531). [DESIGN CHOICE, log entry 34] -/
def mbxSender (m : Nat) : Nat := (mailboxRoutes.getD m (4, 4)).1
def mbxReceiver (m : Nat) : Nat := (mailboxRoutes.getD m (4, 4)).2

/-- FULL of mailbox m. -/
def State.mbxFull (s : State) (m : Nat) : Bool := bit (s.getF F.MBX_STATUS_FULL) m

/-- Setting or clearing it. -/
def State.setFull (s : State) (m : Nat) (b : Bool) : State :=
  let w := s.getF F.MBX_STATUS_FULL
  s.setF F.MBX_STATUS_FULL (if b then w ||| 2 ^ m else w - w / 2 ^ m % 2 * 2 ^ m)

/-- Ringing doorbell bit b (R533). -/
def State.ringDoorbell (s : State) (b : Nat) : State :=
  s.setReg F.MBX_DB_PEND_FILLED.addr (s.reg F.MBX_DB_PEND_FILLED.addr ||| w32 (2 ^ b))

/-- Word k of mailbox m, and storing it. -/
def State.mbxWord (s : State) (m k : Nat) : Word := (s.mbx.data.getD m []).getD k 0
def State.setMbxWord (s : State) (m k : Nat) (w : Word) : State :=
  { s with mbx := { s.mbx with data := s.mbx.data.set m ((s.mbx.data.getD m []).set k w) } }

/-- Step 1 of R532: word 15 completes the message. -/
def State.mbxComplete (s : State) (m : Nat) : State :=
  let s1 : State := { s with mbx := { s.mbx with since := s.mbx.since.set m s.sys.tick } }
  ((s1.setFull m true).setF (F.MBX_STAT_SENT m) ((s1.getF (F.MBX_STAT_SENT m) + 1) % 256)).ringDoorbell m

/-- A write ignored while FULL is set (step 3 of R532). [DESIGN CHOICE, log entry 34] -/
def State.mbxBlocked (s : State) (m : Nat) : State := (s.incF (F.MBX_STAT_BLOCKED m)).event Ev.mbx 0

/-- A side's write of MBX_DATA_k with mailbox m selected (R532). -/
def State.mbxPut (s : State) (side m k : Nat) (w : Word) : State :=
  if side ≠ mbxSender m then s
  else if s.mbxFull m then s.mbxBlocked m
  else (s.setMbxWord m k w).when (decide (k = 15)) (fun s => s.mbxComplete m)

/-- A message is taken (step 2 of R532). -/
def State.mbxTaken (s : State) (m : Nat) : State :=
  ((s.setFull m false).setF (F.MBX_STAT_TAKEN m) ((s.getF (F.MBX_STAT_TAKEN m) + 1) % 256)).ringDoorbell (16 + m)

/-- The receiver's read of MBX_DATA_15 (step 2 of R532); the service host takes in SERVICE only. -/
def State.mbxTake (s : State) (side m : Nat) : State :=
  if side ≠ mbxReceiver m ∨ s.mbxFull m = false ∨ (side = 3 ∧ s.mode ≠ .service) then s else s.mbxTaken m

/-- The line that notifies a side (R533): a pending doorbell bit whose mask bit is set, bit m for the receiver of mailbox m and bit
16 + m for its sender; an andiron's on its event line, the hob scheduler's on its own. The service host polls SVC_STATUS.ATTN.
[DESIGN CHOICE, log entry 50] -/
def State.doorbellLine (s : State) (side : Nat) : Bool :=
  let due := (s.reg F.MBX_DB_PEND_FILLED.addr &&& s.reg F.MBX_DB_MASK_MASK.addr).toNat
  (List.range 16).any (fun m => (decide (mbxReceiver m = side) && bit due m) || (decide (mbxSender m = side) && bit due (16 + m)))

/-- A side selects mailbox m in its own bank of MBX_SEL (R541). [DESIGN CHOICE, log entry 34] -/
def State.mbxSelect (s : State) (side m : Nat) : State :=
  if side < 3 then { s with mbx := { s.mbx with sel := s.mbx.sel.set side m } } else s.setF F.MBX_SEL_MAILBOX m

/-- Whether a side acts: the hob scheduler counts as asleep while the graph is stopped (R534). -/
def State.sideAwake (s : State) (side : Nat) : Bool :=
  s.running && decide (side < 4) && (decide (side ≠ 2) || s.flag F.HOB_STATUS_RUNNING)

/-- Whether comparator 10 holds a write of the andirons back, or waits for a step that is repeated (R429, R531). -/
def State.mbxGated (s : State) : Bool :=
  let c := s.cmps.getD 10 {}
  !c.fifo.isEmpty || !c.stalled.isEmpty || !(s.cmps.getD 8 {}).retry.isEmpty

/-- MESSAGE_SEND: a side selects a mailbox and writes words of its window, in order. Outside SERVICE the service host's writes are
refused as locked (R8); an andiron's wait while comparator 10 holds writes of theirs (R531).
[DESIGN CHOICE, log entries 34 and 55] -/
def State.messageSend (s : State) (side m : Nat) (writes : List (Nat × Word)) : State :=
  if !s.sideAwake side || decide (16 ≤ m) then s
  else if side = 3 ∧ s.mode ≠ .service then
    s.each (F.MBX_SEL_MAILBOX.addr :: writes.map (fun x => (F.MBX_DATA_WORD x.1).addr)) State.lockedWrite
  else
    let l := writes.filter (fun x => decide (x.1 < 16))
    if side < 2 ∧ s.mbxGated = true then
      { s with mbx := { s.mbx with held := s.mbx.held ++ l.map (fun x => (side, m, x.1, x.2)) } }
    else (s.mbxSelect side m).each l (fun s x => s.mbxPut side m x.1 x.2)

/-- The meaning of MESSAGE_SEND (R532). -/
def execMessageSend (side mailbox : Nat) (writes : List (Nat × Word)) (s : State) : Host.Outcome State Fault Refusal :=
  .next (s.messageSend side mailbox writes)

/-- Whether a side's read of MBX_DATA_15 takes: the side acts, the service host reads in SERVICE, and mailbox 14 is served by
SERVICE_REQUEST alone (R532, R535). [DESIGN CHOICE, log entry 34] -/
def State.mayTake (s : State) (side m : Nat) : Bool :=
  s.sideAwake side && !(decide (side = 0) && decide (m = 14)) && (decide (side ≠ 3) || decide (s.mode = .service))

/-- MESSAGE_TAKE: a side reads MBX_DATA_15. The sender's writes in the same fabric cycle see FULL as it stood (R534), whether the read
takes or not. [DESIGN CHOICE, log entries 34 and 55] -/
def State.messageTake (s : State) (side m : Nat) (coincident : List (Nat × Word)) : State :=
  if !s.running || decide (16 ≤ m) then s
  else
    let s1 := s.when (s.mayTake side m) (fun s => s.mbxSelect side m)
    let s2 := s1.when (!coincident.isEmpty) (fun s => s.messageSend (mbxSender m) m coincident)
    if s.mbxFull m && s.mayTake side m then s2.mbxTake side m else s2

/-- The meaning of MESSAGE_TAKE (R532, R534). -/
def execMessageTake (side mailbox : Nat) (coincident : List (Nat × Word)) (s : State) : Host.Outcome State Fault Refusal :=
  .next (s.messageTake side mailbox coincident)

/-- Clearing doorbell bits (R533): a bit rung in the same fabric cycle stays set. [DESIGN CHOICE, log entry 34] -/
def State.doorbellClear (s : State) (value rung : Nat) : State :=
  s.setReg F.MBX_DB_PEND_FILLED.addr (s.reg F.MBX_DB_PEND_FILLED.addr &&& (~~~(w32 value) ||| w32 rung))

/-- MBX_DB_PEND: a side writes 1 to clear bits; the service host's write takes effect in SERVICE only (R8). -/
def State.doorbellWrite (s : State) (side value rung : Nat) : State :=
  if !s.sideAwake side then s
  else if side = 3 ∧ s.mode ≠ .service then s.lockedWrite F.MBX_DB_PEND_FILLED.addr
  else s.doorbellClear value rung

/-- The meaning of MBX_DB_PEND (R533). -/
def execMbxDbPend (side value rung : Nat) (s : State) : Host.Outcome State Fault Refusal := .next (s.doorbellWrite side value rung)

/-- LONG_WAIT: a message has waited 32,000 ticks (R534). -/
def State.longWait (s : State) (m : Nat) : State :=
  if s.running ∧ m < 16 ∧ s.mbxFull m = true ∧ 32000 ≤ s.sys.tick - s.mbx.since.getD m 0 then s.event Ev.mbx 1 else s

/-- The meaning of LONG_WAIT (R534). -/
def execLongWait (mailbox : Nat) (s : State) : Host.Outcome State Fault Refusal := .next (s.longWait mailbox)

/-! Requests to andiron N (R535) -/

/-- SEQ of the committed WINDOW records, newest first. -/
def State.windowSeqs (s : State) : List Nat :=
  if s.flag F.ASH_STATUS_PRESENT then
    ((s.ashWindows (s.getF F.ASH_SIZE_BYTES) (s.getF F.ASH_SIZE_BYTES / 40) 0x1000).map (fun x => x.1)).reverse
  else []

/-- CODE, LEN and payload words of the reply to the request in mailbox 14. A LEN beyond the layout's 56 is answered with a free one.
[DESIGN CHOICE, log entry 34] -/
def State.reply (s : State) : Nat × Word × List Word :=
  let len := s.mbxWord 14 1
  match (s.mbxWord 14 0).toNat % 65536 with
  | 1 => (0x8001, if len.toNat ≤ 56 then len else Config.freeWord s.free,
      (List.range (min 14 (ceilDiv len.toNat 4))).map (fun k => s.mbxWord 14 (2 + k)))
  | 2 => (0x8002, 8, [Config.romVersion, Config.romBuild])
  | 3 =>
    let l := s.windowSeqs
    (0x8003, w32 (4 + 4 * min 13 l.length), w32 l.length :: (l.take 13).map w32)
  | _ => (0xFFFF, 0, [])

/-- SERVICE_REQUEST: in SERVICE and while mailbox 15 is empty, andiron N takes the request and places the reply; words beyond the
payload stay, but for word 15, whose write completes the reply with a free word. -/
def State.serviceRequest (s : State) : State :=
  if !s.running || decide (s.mode ≠ .service) || !s.mbxFull 14 || s.mbxFull 15 then s
  else
    let r := s.reply
    let w0 := w32 ((s.mbxWord 14 0).toNat / 65536 * 65536 + r.1)
    let s1 : State := { s.mbxTake 0 14 with free := s.free + 2 }
    let s2 := (w0 :: r.2.1 :: r.2.2).zipIdx.foldl (fun (s : State) x => s.mbxPut 0 15 x.2 x.1) s1
    if r.2.2.length = 14 then s2 else s2.mbxPut 0 15 15 (Config.freeWord (s.free + 1))

/-- The meaning of SERVICE_REQUEST (R535). -/
def execServiceRequest (s : State) : Host.Outcome State Fault Refusal := .next s.serviceRequest

end Sys2Proof.Machine
end

