-- ==== Sys2Proof/Machine/Registers.lean ====
section
/-!
DEFINITION. Writes of registers and of the tile space (R8, R23, R65): keys, shadow copies, gain edits. Commands REGISTER_WRITE,
SHADOW_COPY_APPLY, SYS_SWRESET, IMG_FLOOR_RAISE, IMG_KEY_REVOKE, IMG_LIFECYCLE_REQ, LIFECYCLE_FUSE, BST_FUSE_CMD, LAW_EDIT_WORD.
-/
namespace Sys2Proof.Machine

open Sys2Proof

/-! Keys (R32, R52, R63, R70, R514) -/

/-- SYS_SWRESET with its key resets with cause SERVICE (R32). -/
def State.swreset (s : State) (key : Nat) : State := if key = 0x9A30 then s.doReset .service else s

/-- IMG_FLOOR_RAISE (R52, R71): in FIELD, with an image in use, VERSION of that image enters a free floor entry.
[DEDUCED, log entry 35] -/
def State.floorRaise (s : State) (key : Nat) : State :=
  if key = 0x5F1E ∧ s.otp.lifecycle = 2 ∧ s.flag F.SYS_STATUS_IMG_VALID = true ∧ s.otp.floors.length < 64 then
    { s with otp := { s.otp with floors := s.otp.floors ++ [s.getF (F.IMG_VERSION_VERSION (s.getF F.IMG_STATUS_SLOT))] } }
  else s

/-- IMG_KEY_REVOKE (R70): in PROVISIONED or FIELD; ignored where it names IN_USE or leaves no unrevoked programmed slot. With
no image in use no slot is IN_USE, though the field reads 0b00. [DEDUCED, log entry 35] -/
def State.keyRevoke (s : State) (key mask : Nat) : State :=
  let m := s.otp.revoked ||| (mask % 16)
  let left := (List.range 4).any (fun k => (s.otp.keys.getD k none).isSome && !bit m k)
  let inUse := s.flag F.SYS_STATUS_IMG_VALID && bit mask (s.getF F.IMG_KEY_STATE_IN_USE)
  if key = 0x4B52 ∧ (s.otp.lifecycle = 1 ∨ s.otp.lifecycle = 2) ∧ inUse = false ∧ left = true then
    { s with otp := { s.otp with revoked := m } }
  else s

/-- Life-cycle changes that R63 allows: 0 BLANK, 1 PROVISIONED, 2 FIELD, 3 RETURNED, 4 RETIRED. -/
def State.lifecycleEdge (s : State) (target : Nat) : Bool :=
  match s.otp.lifecycle, target with
  | 0, 1 => s.otp.keys.any Option.isSome
  | 1, 2 | 2, 3 | 3, 4 | 1, 4 | 2, 4 => true
  | _, _ => false

/-- Steps 1 and 2 of R63: the LIFECYCLE record is asked for, or LC_REFUSED sets. A change in hand is not started again.
[DEDUCED, log entry 35] -/
def State.lifecycleReq (s : State) (key target : Nat) : State :=
  if key ≠ 0x1C5E then s
  else if !s.lifecycleEdge target then s.setFlag F.IMG_STATUS_LC_REFUSED true
  else if s.ash.lcTarget.isSome then s
  else
    let body := leBytes 1 s.otp.lifecycle ++ leBytes 1 target ++ [0, 0] ++ leBytes 4 s.versionFloor ++
      (List.range 32).map (fun k => s.img.digest.getD k 0)
    ({ s with ash := { s.ash with lcTarget := some target, lcDone := false } } : State).ashRequest 3 0 body

/-- Steps 3 and 4 of R63: once the record is committed the e-fuse is programmed, and the device resets with cause LIFECYCLE. -/
def State.lifecycleFuse (s : State) : State :=
  match s.ash.lcTarget with
  | some t =>
    if s.running ∧ s.ash.lcDone = true then ({ s with otp := { s.otp with lifecycle := t } } : State).doReset .lifecycle else s
  | none => s

/-- BST_FUSE_CMD (R514): due records enter free repair entries in ascending order, and a REPAIR record with FUSED follows. -/
def State.fuseCmd (s : State) (key : Nat) : State :=
  if key ≠ 0x3B6D then s
  else
    let due := s.dueSights
    let burn := due.take (64 - s.otp.repairs.length)
    let s1 : State := { s with otp := { s.otp with repairs := s.otp.repairs ++ burn.map (fun w => 2 ^ 31 + keyOf w) } }
    let s2 := s1.when (decide (burn.length < due.length)) (fun s => (s.setFlag F.BST_FUSE_STAT_REPAIR_FULL true).event Ev.bst 4)
    s2.ashRequest 7 0 (leBytes 2 burn.length ++ [1, 0] ++ burn.flatMap (leBytes 4))

/-! Gain edits (R120, R132) -/

/-- LAW_EDIT_WORD_k: the word waits in a shadow copy of the selected set, or EDIT_REFUSED sets. -/
def State.editWord (s : State) (k : Nat) (w : Word) : State :=
  match s.editSet with
  | some (i, set, _) =>
    let rest := s.gr.edits.filter (fun e => decide (e.1 ≠ i ∨ e.2.1 ≠ set ∨ e.2.2.1 ≠ k))
    { s with gr := { s.gr with edits := rest ++ [(i, set, k, w)] } }
  | none => s.setFlag F.LAW_STATUS_EDIT_REFUSED true

/-! The engine of R8 -/


/-- Bits of a word written where a mask allows it. -/
def mixBits (old new : Word) (mask : Nat) : Word := (old &&& ~~~(w32 mask)) ||| (new &&& w32 mask)

/-- A write with SERVICE rights of a register that has a row of its own among the commands; none for any other.
[DEDUCED, log entry 35] -/
def State.writeOwn (s : State) (a : Nat) (v : Word) : Option State :=
  let n := v.toNat
  if a = F.SYS_SWRESET_KEY.addr then some (s.swreset (n % 65536))
  else if a = F.IMG_FLOOR_RAISE_KEY.addr then some (s.floorRaise (n % 65536))
  else if a = F.IMG_KEY_REVOKE_KEY.addr then some (s.keyRevoke (n / 65536) n)
  else if a = F.IMG_LIFECYCLE_REQ_KEY.addr then some (s.lifecycleReq (n / 65536) (n % 8))
  else if a = F.BST_FUSE_CMD_KEY.addr then some (s.fuseCmd (n % 65536))
  else if a = F.JRN_REPLAY_CMD_KEY.addr then some (s.jrnReplayCmd (n % 65536))
  else if a = F.ADC_START_REG.addr then some (s.adcStart (n % 256) (n / 256 % 256))
  else if a = F.MBX_DB_PEND_FILLED.addr then some (s.doorbellClear n 0)
  else if (F.MBX_DATA_WORD 0).addr ≤ a ∧ a < (F.MBX_DATA_WORD 16).addr then
    some (s.mbxPut 3 (s.getF F.MBX_SEL_MAILBOX) ((a - (F.MBX_DATA_WORD 0).addr) / 4) v)
  else if (F.LAW_EDIT_WORD_WORD 0).addr ≤ a ∧ a < (F.LAW_EDIT_WORD_WORD 8).addr then
    some (s.editWord ((a - (F.LAW_EDIT_WORD_WORD 0).addr) / 4) v)
  else none

/-- Whether such a write takes effect, as SVC_WRITE_WORD_CNT counts it (R543): a key that is right and allowed, a message word of the
sender into an empty mailbox, a gain word that is not refused. [DESIGN CHOICE, log entry 32] -/
def State.ownActs (s : State) (a : Nat) (v : Word) : Bool :=
  let n := v.toNat
  if a = F.SYS_SWRESET_KEY.addr then decide (n % 65536 = 0x9A30)
  else if a = F.IMG_FLOOR_RAISE_KEY.addr then decide ((s.floorRaise (n % 65536)).otp ≠ s.otp)
  else if a = F.IMG_KEY_REVOKE_KEY.addr then decide ((s.keyRevoke (n / 65536) n).otp ≠ s.otp)
  else if a = F.IMG_LIFECYCLE_REQ_KEY.addr then
    decide (n / 65536 = 0x1C5E) && s.lifecycleEdge (n % 8) && s.ash.lcTarget.isNone
  else if a = F.BST_FUSE_CMD_KEY.addr then decide (n % 65536 = 0x3B6D)
  else if a = F.JRN_REPLAY_CMD_KEY.addr then decide ((s.jrnReplayCmd (n % 65536)).mode = .replay)
  else if (F.MBX_DATA_WORD 0).addr ≤ a ∧ a < (F.MBX_DATA_WORD 16).addr then
    decide (mbxSender (s.getF F.MBX_SEL_MAILBOX) = 3) && !s.mbxFull (s.getF F.MBX_SEL_MAILBOX)
  else if (F.LAW_EDIT_WORD_WORD 0).addr ≤ a ∧ a < (F.LAW_EDIT_WORD_WORD 8).addr then s.editSet.isSome
  else true

/-- The service host's vote on power domain d (R461, R469). -/
def State.serviceVote (s : State) (d : Nat) (b : Bool) : State :=
  let s1 := if b then s.domVote d 3 else s.domUnvote d 3 none
  s1.setFlag (F.PWR_DOM_VOTE_SVC_VOTE d) b

/-- An RL write goes to the shadow copy; a second write replaces the first (R65). [DEDUCED, log entry 35] -/
def State.shadowWrite (s : State) (a : Nat) (w : Word) : State :=
  { s with svc := { s.svc with shadow := s.svc.shadow.filter (fun x => decide (x.1 ≠ a)) ++ [(a, w)] } }

/-- A write with SERVICE rights of a register without a row of its own: RW bits at once, RL bits to the shadow copy.
[DEDUCED, log entry 35] -/
def State.writePlain (s : State) (k : RegKind) (i a : Nat) (v : Word) : State :=
  let s1 :=
    if k.rw = 0 then s
    else if a = (F.PWR_DOM_VOTE_SVC_VOTE i).addr then s.serviceVote i (bit v.toNat 16)
    else s.setReg a (mixBits (s.reg a) v k.rw)
  s1.when (decide (k.rl ≠ 0)) (fun s => s.shadowWrite a (v &&& w32 k.rl))

/-- FLT_FORCE_w at `a`. -/
def forceWord (a : Nat) : Option Nat :=
  if (F.FLT_FORCE_FORCE 0).addr ≤ a ∧ a < (F.FLT_FORCE_FORCE 8).addr ∧ a % 4 = 0 then some ((a - (F.FLT_FORCE_FORCE 0).addr) / 4)
  else none

/-- A write of word `v` at `a` as R8 and R23 give it, and whether it took effect; `open_`: SERVICE rights outside SERVICE (R540). -/
def State.writeWord (s : State) (open_ : Bool) (a : Nat) (v : Word) : State × Bool :=
  let rights := open_ || decide (s.mode = .service)
  if !s.running then (s, false)
  else if tileBase ≤ a ∧ a < tileBase + 0x800000 then
    if rights then ({ s with tiles := Mem.write 0 s.tiles a (leBytes 4 v.toNat) }, true) else (s.lockedWrite a, false)
  else
    match findReg a with
    | none => (s, false)
    | some (k, i) =>
      if isoAbsent a || decide (k.rw = 0 ∧ k.rl = 0 ∧ k.w1c = 0 ∧ k.wo = 0) then (s, false)
      else
        match forceWord a with
        | some w =>
          if rights ∨ s.mode = .selfTest then
            (s.each ((List.range 32).filter (fun j => bit v.toNat j)) (fun s j => s.forceOne (32 * w + j)), true)
          else (s.lockedWrite a, false)
        | none =>
          if !rights then (s.lockedWrite a, false)
          else ((s.writeOwn a v).getD (s.writePlain k i a v), s.ownActs a v)

/-- The meaning of REGISTER_WRITE (R8, R23, R65). [DEDUCED, log entry 4] -/
def execRegisterWrite (addr : Nat) (value : Word) (s : State) : Host.Outcome State Fault Refusal :=
  .next (s.writeWord false addr value).1

/-- The register's own row: refused as locked outside SERVICE (R8). -/
def State.inService (s : State) (a : Nat) (f : State → State) : State :=
  if !s.running then s else if s.mode = .service then f s else s.lockedWrite a

/-- The meaning of SYS_SWRESET (R32). -/
def execSysSwreset (key : Nat) (s : State) : Host.Outcome State Fault Refusal :=
  .next (s.inService F.SYS_SWRESET_KEY.addr (fun s => s.swreset key))

/-- The meaning of IMG_FLOOR_RAISE (R52). -/
def execImgFloorRaise (key : Nat) (s : State) : Host.Outcome State Fault Refusal :=
  .next (s.inService F.IMG_FLOOR_RAISE_KEY.addr (fun s => s.floorRaise key))

/-- The meaning of IMG_KEY_REVOKE (R70). -/
def execImgKeyRevoke (key mask : Nat) (s : State) : Host.Outcome State Fault Refusal :=
  .next (s.inService F.IMG_KEY_REVOKE_KEY.addr (fun s => s.keyRevoke key mask))

/-- The meaning of IMG_LIFECYCLE_REQ (R63). -/
def execImgLifecycleReq (key target : Nat) (s : State) : Host.Outcome State Fault Refusal :=
  .next (s.inService F.IMG_LIFECYCLE_REQ_KEY.addr (fun s => s.lifecycleReq key target))

/-- The meaning of LIFECYCLE_FUSE (R63). -/
def execLifecycleFuse (s : State) : Host.Outcome State Fault Refusal := .next s.lifecycleFuse

/-- The meaning of BST_FUSE_CMD (R514). -/
def execBstFuseCmd (key : Nat) (s : State) : Host.Outcome State Fault Refusal :=
  .next (s.inService F.BST_FUSE_CMD_KEY.addr (fun s => s.fuseCmd key))

/-- The meaning of LAW_EDIT_WORD (R132). -/
def execLawEditWord (k : Nat) (value : Word) (s : State) : Host.Outcome State Fault Refusal :=
  .next (if k < 8 then s.inService (F.LAW_EDIT_WORD_WORD k).addr (fun s => s.editWord k value) else s)

/-! Shadow copies (R65) -/

/-- A position interface or a sensor supply follows its REG fields; a supply that SS_FAULT holds off stays off (R178, R197, R243, R248).
[DEDUCED, log entry 35] -/
def State.unitFollow (s : State) (a : Nat) : State :=
  let s1 := s.each ((List.range 4).filter (fun i => decide ((F.POS_CFG_MODE i).addr = a ∨ (F.POS_PT_CFG_EN i).addr = a)))
    State.posFollow
  s1.each ((List.range 4).filter (fun i => decide ((F.GDR_SS_CFG_ENABLE i).addr = a))) (fun s i =>
    let on := s.flag (F.GDR_SS_CFG_ENABLE i) && !s.flt.unitHold.contains (Src.ssFault i)
    let rest := s.gdr.ssOn.filter (fun j => decide (j ≠ i))
    ({ s with gdr := { s.gdr with ssOn := if on then rest ++ [i] else rest } } : State).refreshSupply i)

/-- Sources per default class (FLT_CFG_SUM, R448). -/
def State.refreshSum (s : State) : State :=
  let n := fun c => ((List.range 256).filter (fun i => decide (s.getF (F.FLT_SRC_CLASS i) = c))).length
  ((s.setF F.FLT_CFG_SUM_FATAL (n 2)).setF F.FLT_CFG_SUM_CONTAINED (n 1)).setF F.FLT_CFG_SUM_CORRECTED (n 0)

/-- The mode manager's votes on domains 18, from JOIN on, and 19 follow the units enabled (R459). -/
def State.unitVotes (s : State) : State :=
  let can := (List.range 4).any (fun i => s.flag (F.CAN_CFG_ENABLE i) || decide (s.getF (F.POS_CFG_MODE i) ≠ 0))
  let s1 := if can then s.domVote 19 0 else s.domUnvote 19 0 none
  if s.sys.joined && (s1.flag (F.ETH_CFG_ENABLE 0) || s1.flag (F.ETH_CFG_ENABLE 1)) then s1.domVote 18 0 else s1.domUnvote 18 0 none

/-- One shadow copy takes effect. [DEDUCED, log entry 35] -/
def State.shadowOne (s : State) (x : Nat × Word) : State :=
  match findReg x.1 with
  | some (k, _) => (s.setReg x.1 (mixBits (s.reg x.1) x.2 k.rl)).unitFollow x.1
  | none => s

/-- SHADOW_COPY_APPLY: at a Flue cycle start every shadow copy outside the block graph takes effect, and what follows from the
fields follows. [DEDUCED, log entry 35] -/
def State.shadowApply (s : State) : State :=
  if !s.running || s.svc.shadow.isEmpty then s
  else
    let s1 := ({ s with svc := { s.svc with shadow := [] } } : State).each s.svc.shadow State.shadowOne
    ((((s1.unitVotes.refreshSum).refreshMon).refreshDeadtime).refreshPower).refreshNet.refreshEventsOn.refreshIso

/-- The meaning of SHADOW_COPY_APPLY (R65). -/
def execShadowCopyApply (s : State) : Host.Outcome State Fault Refusal := .next s.shadowApply

end Sys2Proof.Machine
end

