-- ==== Sys2Proof/Machine/BusOutput.lean ====
section
/-!
DEFINITION. Bus outputs at the comparators (R426, R427, R430): BUS_OUTPUT_WRITE, CMP_TIMEOUT, CMP_VERDICT_DISAGREE, TILE_VERIFY, and
where a released write goes.
-/
namespace Sys2Proof.Machine

open Sys2Proof

/-! Release (R426) -/

/-- The byte writes of a bus output: byte n of the data at the address plus n where enable n is set.
[DESIGN CHOICE, log entry 47] -/
def busBytes (w : BusWrite) : List (Nat × Byte) :=
  ((List.range 32).filter (fun n => bit w.be n)).map (fun n => (w.addr + n, BitVec.ofNat 8 (w.data / 256 ^ n)))

/-- The words of a bus output: addresses at which all four bytes are enabled, with their data. [DESIGN CHOICE, log entry 47] -/
def busWords (w : BusWrite) : List (Nat × Word) :=
  ((List.range 8).filter (fun n => decide (w.be / 16 ^ n % 16 = 15))).map (fun n => (w.addr + 4 * n, w32 (w.data / 2 ^ (32 * n))))

/-- A released word of the andirons reaches a register: ADC_START starts (R260), a mailbox word goes through the window of the andiron
that sends on the selected mailbox (R531), a doorbell word clears (R533), RW bits take the data; RL bits change through the service
port only (R64), and an RO field is what its own rule makes it. [DESIGN CHOICE, log entry 29] -/
def State.andironWord (s : State) (a : Nat) (v : Word) : State :=
  if a = F.ADC_START_REG.addr then s.adcStart (v.toNat % 256) (v.toNat / 256 % 256)
  else if a = F.MBX_DB_PEND_FILLED.addr then s.doorbellClear v.toNat 0
  else if a = F.MBX_SEL_MAILBOX.addr then (s.mbxSelect 0 (v.toNat % 16)).mbxSelect 1 (v.toNat % 16)
  else if (F.MBX_DATA_WORD 0).addr ≤ a ∧ a < (F.MBX_DATA_WORD 16).addr then
    let m := s.mbx.sel.getD 0 0
    s.when (decide (mbxSender m < 2)) (fun s => s.mbxPut (mbxSender m) m ((a - (F.MBX_DATA_WORD 0).addr) / 4) v)
  else
    match findReg a with
    | some (k, _) => if isoAbsent a || decide (k.rw = 0) then s else s.setReg a (mixBits (s.reg a) v k.rw)
    | none => s

/-- The blocks that comparators 8, 10 and 11 guard (R429), by the upper half of an address. -/
def guards (k a : Nat) : Bool :=
  let b := a / 2 ^ 16
  let own := [0x4000, 0x4003, 0x4011].contains b
  match k with
  | 8 => own
  | 10 => decide (b = 0x4016)
  | 11 => decide (0x4000 ≤ b) && decide (b ≤ 0x4018) && !own && decide (b ≠ 0x4016)
  | _ => false

/-- Where a released write goes: the andirons' to the tiles and registers that their comparator guards, comparator 12's to the SOUTH
record. What a hob's, frame's, gate's, journal or Ash write does is the effect of COMMIT and of the commands of those units.
[DESIGN CHOICE, log entry 29] -/
def State.released (s : State) (k : Nat) (w : BusWrite) : State :=
  if k = 9 then
    s.each ((busBytes w).filter (fun x => decide (tileBase ≤ x.1) && decide (x.1 < tileBase + 0x800000)))
      (fun s x => { s with tiles := Store.put s.tiles 0 x.1 x.2 })
  else if k = 12 then s.southWord w.addr (w32 w.data)
  else s.each ((busWords w).filter (fun x => guards k x.1)) (fun s x => s.andironWord x.1 x.2)

/-! Comparison (R426, R427) -/

/-- Whether a tag names a copy of the present sample: late work is discarded (R95). -/
def State.tagLive (s : State) (k : Nat) (w : BusWrite) : Bool :=
  !(decide (k < 8) || decide (k = 13)) ||
    (decide (w.tag < s.img.nodes.length) && decide ((s.inst w.tag).sample = .due) && decide (w.sample = s.sampleNo w.tag))

/-- Messages of the andirons go out once comparator 10 holds nothing and no retry of theirs is due (R531).
[DESIGN CHOICE, log entry 34] -/
def State.mbxRelease (s : State) (k : Nat) : State :=
  s.when (decide (k = 10) && !s.mbxGated) (fun s =>
    ({ s with mbx := { s.mbx with held := [] } } : State).each s.mbx.held (fun s x => (s.mbxSelect x.1 x.2.1).mbxPut x.1 x.2.1 x.2.2.1 x.2.2.2))

/-- Comparing a write with its partner where that is held; else it is held, or stalls where the FIFO is full. Side false is copy A or
NORTH, true copy B or SOUTH. -/
def State.compare (s : State) (k : Nat) (side : Bool) (w : BusWrite) : State :=
  let c := s.cmps.getD k {}
  match c.fifo.find? (fun e => decide (e.1 ≠ side) && decide (e.2.tag = w.tag) && decide (e.2.sample = w.sample)) with
  | some e =>
    if e.2 = w then
      let s1 := (s.setFifo k (c.fifo.erase e)).setRetries k (s.retryRest k w.tag)
      (((s1.when (s.isRetry k w.tag) (fun s => s.transient.incF (F.CMP_TRANSIENT_CNT_COUNT k))).pairVerdict k w.tag true).released k
        w).mbxRelease k
    else s.mismatch k w.tag side (if side then [e.2, w] else [w, e.2])
  | none =>
    if 256 ≤ c.fifo.length then { s with cmps := s.cmps.set k { c with stalled := c.stalled ++ [(side, w)] } }
    else s.setFifo k (c.fifo ++ [(side, w)])

/-- The writes that stall enter in order as far as there is room or a partner for them (R427). -/
def State.enterStalled (s : State) (k : Nat) : State :=
  s.each (List.range (s.cmps.getD k {}).stalled.length) (fun s _ =>
    let c := s.cmps.getD k {}
    ({ s with cmps := s.cmps.set k { c with stalled := [] } } : State).each c.stalled (fun s e => s.compare k e.1 e.2))

/-- The same on every comparator that a mismatch of comparator k has made room on (R429). -/
def State.enterAll (s : State) (k : Nat) : State := s.each (if andironCmps.contains k then andironCmps else [k]) State.enterStalled

/-- BUS_OUTPUT_WRITE (R426, R427): a copy's or an andiron's write enters comparator k, or the one that serves lane k now. -/
def State.busWrite (s : State) (k : Nat) (side : Bool) (w : BusWrite) : State :=
  if !s.running || decide (24 ≤ k) || !s.tagLive k w then s
  else (s.compare (s.liveLane k) side w).enterAll (s.liveLane k)

/-- The meaning of BUS_OUTPUT_WRITE (R426). -/
def execBusOutputWrite (k : Nat) (side : Bool) (w : BusWrite) (s : State) : Host.Outcome State Fault Refusal :=
  .next (s.busWrite k side w)

/-- CMP_TIMEOUT (R427): the partner of a held write has not arrived. -/
def State.cmpTimeout (s : State) (k tag : Nat) : State :=
  if !s.running || decide (24 ≤ k) then s
  else
    match (s.cmps.getD k {}).fifo.find? (fun e => decide (e.2.tag = tag)) with
    | some e => (s.mismatch k tag e.1 [e.2]).enterAll k
    | none => s

/-- The meaning of CMP_TIMEOUT (R427). -/
def execCmpTimeout (k tag : Nat) (s : State) : Host.Outcome State Fault Refusal := .next (s.cmpTimeout k tag)

/-- The meaning of CMP_VERDICT_DISAGREE (R430). -/
def execCmpVerdictDisagree (k : Nat) (pairDiffers : Bool) (s : State) : Host.Outcome State Fault Refusal :=
  .next (s.verdictDisagree k pairDiffers)

/-- The meaning of TILE_VERIFY (R92, R433): writes of the andirons that stall enter where a repeated step has made room (R427). -/
def execTileVerify (tile : Nat) (pass1 pass2 : Bool) (hob : Option Nat) (homed : List Nat) (s : State) :
    Host.Outcome State Fault Refusal :=
  .next ((s.tileVerify tile pass1 pass2 hob homed).each (if pass1 || pass2 then [] else andironCmps) State.enterStalled)

end Sys2Proof.Machine
end

