-- ==== Sys2Proof/Machine/Cycle.lean ====
section
/-!
DEFINITION. The Flue cycle boundary (R59, R281, R284, R295, R314, R335, R336, R367 to R377, R384, R484, R495): what the ended
cycle closes, the modes and schedule that take effect, the freeze and the next sample cycle. Command CYCLE_BOUNDARY.
-/
namespace Sys2Proof.Machine

open Sys2Proof

/-! The ended cycle on the rings (R284, R312, R314) -/

/-- FLU_SLOT_RX_s: the frame the device sent in an own slot, else the copies accepted. [DESIGN CHOICE, log entry 23] -/
def State.slotRx (s : State) (sl : Nat) : State :=
  let a := (F.FLU_SLOT_RX_GOOD_A sl).addr
  let word := fun (ga gb diff own : Bool) (h : Hdr) => w32 (b2n ga * 2 ^ 31 + b2n gb * 2 ^ 30 + b2n diff * 2 ^ 29 +
    b2n (bit h.flags 0) * 2 ^ 28 + b2n own * 2 ^ 27 + h.node % 32 * 2 ^ 16 + h.ageCnt % 256 * 2 ^ 8 + h.len % 256)
  if s.ownSlots.contains sl then
    match s.flu.sent.find? (fun x => decide (x.1.slot = sl)) with
    | some x => s.setReg a (word (bit x.2 0) (bit x.2 1) false true x.1)
    | none => s.setReg a (word false false false true {})
  else
    let on := fun (r : Nat) => s.flu.rx.find? (fun f => decide (f.ring = r) && decide (f.hdr.slot = sl))
    let diff := match on 0, on 1 with
      | some x, some y => decide (x.payload ≠ y.payload)
      | _, _ => false
    match s.delivered sl with
    | some f => s.setReg a (word (on 0).isSome (on 1).isSome diff false f.hdr)
    | none => s.setReg a (word (on 0).isSome (on 1).isSome diff false {})

/-- FLU_BN_STAT_n: the latest BOOM payload of node n in the ended cycle. [DESIGN CHOICE, log entry 23] -/
def State.bnStat (s : State) (n : Nat) : State :=
  let s0 := s.setReg (F.FLU_BN_STAT_VALID n).addr 0
  match s.flu.rx.find? (fun f => decide (f.hdr.node = n) && decide (f.hdr.ptype = 3)) with
  | some f => s0.boomFrame n (((s.delivered f.hdr.slot).map (fun g => g.payload)).getD f.payload)
  | none => s0

/-- Nodes with a frame accepted on a ring. -/
def State.heardOn (s : State) (r : Nat) : List Nat :=
  (List.range 32).filter (fun n => s.flu.rx.any (fun f => decide (f.ring = r) && decide (f.hdr.node = n)))

/-- The receive registers at the end of a cycle, and how long each ring has not been OK (R386). [DESIGN CHOICE, log entry 23] -/
def State.rxRegs (s : State) : State :=
  let a := s.heardOn 0
  let b := s.heardOn 1
  let okA := s.flag F.FLU_PORT_A_LOCK && !a.isEmpty
  let okB := s.flag F.FLU_PORT_B_LOCK && !b.isEmpty
  let mask := fun (l : List Nat) => w32 (maskOf ((List.range 32).map l.contains))
  let s1 := (s.setReg F.FLU_HEARD_A_HEARD.addr (mask a)).setReg F.FLU_HEARD_B_HEARD.addr (mask b)
  let s2 := (s1.setF F.FLU_PORT_A_NODES_HEARD a.length).setF F.FLU_PORT_B_NODES_HEARD b.length
  let s3 := (s2.setFlag F.FLU_STATUS_RING_A_OK okA).setFlag F.FLU_STATUS_RING_B_OK okB
  let bad := fun (k : Nat) (ok : Bool) => if ok then 0 else min 255 (s.lds.ringBad.getD k 0 + 1)
  let s4 : State := { s3 with lds := { s3.lds with ringBad := [bad 0 okA, bad 1 okB] } }
  (s4.each (List.range 48) State.slotRx).each (List.range 32) State.bnStat

/-- A node's request for the next cycle (R283, R284 rule 1): DYN_REQ of its frame in its lowest static slot. -/
def State.dynRequest (s : State) (n : Nat) : Nat :=
  match (ownedBy s.slots n).head? with
  | none => 0
  | some sl =>
    let r := if n = s.nodeId then ((s.flu.sent.find? (fun x => decide (x.1.slot = sl))).map (fun x => x.1.dynReq)).getD 0
      else match s.delivered sl with
        | some f => if f.hdr.node = n then f.hdr.dynReq else 0
        | none => 0
    if 3 ≤ r ∧ r ≤ 11 then r else 0

/-- The pass of R284 over the nodes in the order given: node, first minislot and length of each grant.
[DESIGN CHOICE, log entry 24] -/
def dynPass (req : Nat → Nat) : Nat → List Nat → List (Nat × Nat × Nat)
  | _, [] => []
  | first, n :: t =>
    if 0 < req n ∧ first + req n ≤ 180 then (n, first, req n) :: dynPass req (first + req n) t else dynPass req first t

/-- A static frame due from a node heard in the previous cycle was received on neither ring (R284 rule 4). -/
def State.missedStatic (s : State) : Bool :=
  (List.range s.slots.length).any (fun sl =>
    let n := (s.slots.getD sl {}).owner
    decide (n ≠ s.nodeId) && s.flu.heardPrev.contains n && !s.flu.rx.any (fun f => decide (f.hdr.slot = sl)))

/-- The grants of the cycle that begins, computed from the requests of the one that ended. -/
def State.dynGrant (s : State) : State :=
  let c := s.flu.cycle + 1
  let grants := dynPass s.dynRequest 0 ((List.range 32).map (fun k => (c + k) % 32))
  let mine := grants.find? (fun g => decide (g.1 = s.nodeId))
  let abstain := s.missedStatic && mine.isSome
  let asked := decide (0 < s.dynRequest s.nodeId)
  let s1 := ((s.setF F.FLU_DYN_GRANT_FIRST ((mine.map (fun g => g.2.1)).getD 0)).setF F.FLU_DYN_GRANT_LEN
    ((mine.map (fun g => g.2.2)).getD 0)).setFlag F.FLU_DYN_ABSTAIN abstain
  let s2 := s1.when ((asked && mine.isNone) || abstain) (fun s => (s.incF F.FLU_DYN_DEFER_CNT_COUNT).event Ev.flu 8)
  { s2 with flu := { s2.flu with heardPrev := (List.range 32).filter (fun n => (s.heardOn 0).contains n || (s.heardOn 1).contains n) } }

/-- The end of cycle C on the rings; the schedule agreed, none without one (R335). -/
def State.ringEnd (s : State) : State × Option Nat :=
  let s1 := s.syncCycleEnd
  let takes := match s1.flu.integ with
    | .synced | .kindle _ _ => true
    | _ => false
  ((s1.rxRegs).dynGrant, if takes then s.agreedSched else none)

/-! The ended sample cycle -/

/-- The end of sample cycle S: the last slots end, the digest is kept, a shadow applies its stream, the journal takes the entry,
and REPLAY compares. -/
def State.sampleEnd (s : State) : State :=
  match s.gr.s with
  | none => { s with jrn := { s.jrn with markers := [] } }
  | some sc =>
    let s1 := (({ s with gr := { s.gr with j := 3 } } : State).readSets.slotsEnd (slotsEnding sc 3)).sampleTaps
    let s2 : State := if s1.gr.skipping then s1
      else { s1 with lds := { s1.lds with digests := ((sc, s1.gr.digest) :: s1.lds.digests).take 8 } }
    let s3 := s2.when (decide (s.mode = .shadow) && !s.gr.skipping) State.applyStream
    let s4 := s3.journalEntry sc
    ({ s4 with jrn := { s4.jrn with markers := [] } } : State).when (decide (s.mode = .replay)) (fun s => s.replayCompare sc)

/-- What happens at a boundary carries tick 0 in the journal's markers (R485). -/
def State.toTick0 (s : State) : State := { s with gr := { s.gr with j := 0 } }

/-- A sample cycle that is executed as skipped at once (R377): its slots start and end, and nothing commits.
[DEDUCED, log entry 25] -/
def State.skipCycle (s : State) (sc : Nat) : State :=
  let s0 := ({ s with gr := { s.gr with s := some sc, skipping := true, digest := 0 } } : State).markSkipped
  let s1 := s0.each (List.range 4) (fun s j =>
    let s1 : State := { s with gr := { s.gr with j := j } }
    let s2 := s1.when (decide (0 < j)) (fun s => s.slotsEnd (slotsEnding sc (j - 1)))
    let s3 := s2.when ((slotsStarting sc j).contains 2) State.mapSlotStart
    s3.each (slotsStarting sc j) State.slotStart)
  s1.sampleEnd

/-! Mode entries at a boundary (R58 to R60, R376, R377) -/

/-- The device's takeover (R377): it logs the handover that brought it to LEAD. [DEDUCED, log entry 25] -/
def State.takeover (s : State) : State :=
  let c := s.flu.cycle
  let cause := s.lds.hoCause
  let gap := if cause = 2 then 125 * (c - s.lds.leadHeard.getD c) else 0
  let s1 := s.when (decide (cause ≠ 0)) (fun s => s.logHandover cause s.lds.hoFrom s.ownId gap)
  { s1 with lds := { s1.lds with engage := false, hoCause := 0, hoFrom := 0, first := false } }

/-- What entry into m at a boundary brings besides R59. -/
def State.boundaryEffects (s : State) (prev m : Mode) : State :=
  let c := s.flu.cycle
  let s1 := s.when (decide (prev = .join)) (fun s => s.setFlag F.SYS_STATUS_TIME_COARSE false)
  let s2 : State := if m.isLead && !prev.isLead then
      { s1 with lds := { s1.lds with tenure := some c, yielded := false, sent := [], leadId := s.ownId, first := decide (prev = .join) } }
    else s1
  match m with
  | .lead => (if prev = .shadow then s2.takeover else s2).setF F.LDS_STATUS_LEAD_ID s.ownId
  | .leadDegraded => s2.when (s.flag F.LDS_CFG_DEGRADED_HO) (fun s => { s with lds := { s.lds with hoReq := true } })
  | .shadow =>
    let skip := if prev.isLead then c - 1 else s2.lds.skipTo
    let s3 : State := { s2 with gdr := { s2.gdr with hoRelease := false },
                                lds := { s2.lds with hoTarget := 0, hoReq := false, tenure := none, engage := false, hoCause := 0, skipTo := skip } }
    ((s3.setFlag F.LDS_STATUS_HO_PENDING false).clearAligned).when (s.flag F.LDS_STATUS_ISOLATED) (fun s => s.raise Src.shadowIsolated)
  | _ => s2

/-- One mode due at the boundary, by the order of R60; a condition whose edge the new mode lacks is dropped.
[DEDUCED, log entry 25] -/
def State.boundaryMode (s : State) : State :=
  let prev := s.mode
  let l := s.sys.next.filter (fun x => prev.boundaryEdge x.1)
  let best := l.foldl (fun (b : Option (Mode × Nat × Nat)) x => match b with
    | some y => if x.1.rank < y.1.rank then some x else b
    | none => some x) none
  match best with
  | none => { s with sys := { s.sys with next := [] } }
  | some (m, cause, src) =>
    let rest := s.sys.next.filter (fun x => decide (x.1 ≠ m) && m.boundaryEdge x.1)
    let s0 := s.when (decide (m = .lead) && decide (prev = .shadow)) (fun s =>
      ((s.skipCycle (s.flu.cycle - 2)).skipCycle (s.flu.cycle - 1)).toTick0)
    let s1 := (s0.enterMode m cause src).boundaryEffects prev m
    let s2 : State := { s1 with sys := { s1.sys with next := rest } }
    (s2.refreshXdis).refreshPower

/-- A shadow sees that another channel takes over at this boundary, from a silent or deposed lead (R372, R375, R377): it skips as the
new lead does. A commanded takeover it sees by the new lead's first frame (`State.newLead`); in case one comes it keeps how the graph
stood at the boundary after the request's first cycle. [DEDUCED, log entries 25 and 25] -/
def State.takeoverSeen (s : State) : State :=
  let c := s.flu.cycle
  let asks := fun (f : ChFrame) => decide (f.role = 2) && f.hoReq && decide (f.target ≠ s.ownId)
  let new := decide (s.mode = .shadow) && s.lds.prev.any (fun f => asks f &&
    !s.lds.older.any (fun g => asks g && decide (g.id = f.id) && decide (g.target = f.target)))
  let kept := match s.gr.before with
    | some b => if c ≤ b.1 + 1 then some b else none
    | none => none
  let s : State := { s with gr := { s.gr with before := if new then some (c, s.gr.insts, s.gr.sigs) else kept } }
  let silent := (match s.lds.leadHeard with
    | some d => decide (d + 2 ≤ c)
    | none => false) && s.lds.anyFrame && decide (s.successor s.lds.prev ≠ 0)
  if s.mode = .shadow ∧ (silent = true ∨ s.lds.hoCause ≠ 0) then { s with lds := { s.lds with skipTo := c } } else s

/-! Lead duties at a boundary (R376 step 1 and 2, R384) -/

/-- A commanded handover starts while a successor exists; without one the request stays. [DEDUCED, log entry 25] -/
def State.startHandover (s : State) : State :=
  let t := readyId s.lds.prev
  if s.lds.hoReq && (decide (s.mode = .lead) || decide (s.mode = .leadDegraded)) && !s.flag F.LDS_STATUS_HO_PENDING &&
      decide (t ≠ 0) then
    (({ s with lds := { s.lds with hoReq := false, hoTarget := t, hoCycle := s.flu.cycle } } : State).setFlag
      F.LDS_STATUS_HO_PENDING true).refreshXdis
  else s

/-- The test window of R384. -/
def State.testWindow (s : State) : State :=
  let c := s.flu.cycle
  let free := match s.lds.window with
    | some w => decide (w + 8 ≤ c)
    | none => true
  let asked := s.lds.prev.any (fun f => decide (f.role = 1) && f.xdisTest)
  let give := s.mode.isLead && !s.flag F.LDS_STATUS_HO_PENDING && asked && free
  let s1 := s.setFlag F.LDS_XDIS_WINDOW give
  (if give then ({ s1 with lds := { s1.lds with window := some c } } : State).incF F.LDS_XDIS_TEST_CNT_COUNT else s1).refreshXdis

/-! The sample cycle that begins (R367, R368) -/

/-- A shadow's sample cycle S = C - 2: executed from the lead's record, skipped without loss where a takeover or W = 0 says so, else
skipped with a loss. -/
def State.shadowSample (s : State) : State :=
  let sc := s.flu.cycle - 2
  let gr := fun (skip : Bool) => { s.gr with s := some sc, skipping := skip, digest := 0 }
  let skip : State := { s with gr := gr true, lds := { s.lds with cur := [], stream := [] } }
  let lost := ((skip.incF F.LDS_INTAKE_LOST_CNT_COUNT).event Ev.lds 2).clearAligned
  if sc < s.lds.skipTo then skip
  else
    match s.lds.lead with
    | none => lost
    | some (bs, first) =>
      if ofLe (bs.take 4) = sc % 2 ^ 32 ∧ ofLe ((bs.drop 4).take 2) = 0 ∧ s.recWords ≠ 0 then skip
      else if s.recordOk bs sc then
        let s1 : State := { s with gr := gr false, lds := { s.lds with cur := bs, stream := s.recordStream bs } }
        s1.when (first && s.lds.digests.isEmpty) (fun s => s.setFlag F.LDS_STATUS_ALIGNED true)
      else lost

/-- The next sample cycle by mode. -/
def State.nextSample (s : State) : State :=
  let prev := s.gr.s.getD s.jrn.first
  match s.mode with
  | .shadow => s.shadowSample
  | .replay => if s.jrn.abort then s.replayEnd 4 else s.replayNext prev
  | m => if m.isLead then { s with gr := { s.gr with s := some s.flu.cycle, skipping := false, digest := 0 } }
    else { s with gr := { s.gr with s := none, skipping := false } }

/-- LDS_SAMPLE, LDS_ALIGN.PROGRESS and LDS_STATUS.STREAMING (R394, R395). -/
def State.sampleRegs (s : State) : State :=
  let n := s.carried.length
  let align := decide (s.mode = .shadow) && !s.flag F.LDS_STATUS_ALIGNED
  let stream := (s.mode.isLead && decide (2 ≤ s.topology)) || align
  let s1 := s.setFlag F.LDS_STATUS_STREAMING stream
  let s2 := s1.when stream (fun s => s.setF F.LDS_ALIGN_PROGRESS (if n = 0 then 100 else min 100 (100 * s.lds.sent.length / n)))
  match s.gr.s with
  | some sc => (s2.setReg F.LDS_SAMPLE_S.addr (w32 sc)).setFlag F.HOB_STATUS_RUNNING true
  | none => s2

/-! The boundary -/

/-- What the ended cycle gathered is cleared. [DEDUCED, log entry 25] -/
def State.clearCycle (s : State) : State :=
  { s with flu := { s.flu with rx := [], sync := [], syncSched := [], votesPrev := s.flu.votes, votes := [], syncSent := false,
                               sent := [] },
           lds := { s.lds with rx := [], anyFrame := false } }

/-- CYCLE_BOUNDARY: cycle C ends and C + 1 begins. [DESIGN CHOICE, log entry 8] -/
def State.cycleBoundary (s : State) : State :=
  let t := (s.flu.cycle + 1) * 125000
  let e := (s.each (List.range 4) (fun s i => s.posBefore i t (4 * (s.flu.cycle + 1)))).ringEnd
  let s1 := (e.1.sampleEnd.toTick0).exchangeEnd.mapCycle
  let s2 := ((s1.setTime t).takeoverSeen).digestCompare
  let s3 := s2.boundaryMode
  let s4 := match e.2 with
    | some k => ((s3.useSched k).setF F.FLU_SCHED_PENDING k).setFlag F.FLU_SCHED_SWITCHING false
    | none => s3
  let s5 := (s4.refreshSafTx.startHandover.testWindow).clearCycle
  let s6 := (s5.freezeFrames).nextSample
  let s7 := ({ s6 with gr := { s6.gr with boundary := true, j := 0 } } : State).markSkipped
  ((s7.sampleRegs).journalStart).pulseNext

/-- The meaning of CYCLE_BOUNDARY (R281). -/
def execCycleBoundary (s : State) : Host.Outcome State Fault Refusal := .next (if s.running then s.cycleBoundary else s)

end Sys2Proof.Machine
end

