-- ==== Sys2Proof/Machine/Service.lean ====
section
/-!
DEFINITION. The SPI service port and the JTAG port (R536 to R540): frames, their status, non-volatile operations, debug access.
-/
namespace Sys2Proof.Machine

open Sys2Proof

/-! Status bytes (R539) -/

/-- The status byte of a frame. -/
inductive SvcStatus where
  | ok | crc | badCmd | locked | wrongMode | badKey | busy | refused
deriving DecidableEq, Repr

/-- Its value. [DESIGN CHOICE, log entry 32] -/
def SvcStatus.code : SvcStatus → Nat
  | .ok => 0 | .crc => 1 | .badCmd => 2 | .locked => 3 | .wrongMode => 4 | .badKey => 5 | .busy => 6 | .refused => 7

/-- The counter of the same name and the SVC_EVENT bit; REFUSED has neither (R543, R544). -/
def State.svcCount (s : State) : SvcStatus → State
  | .ok | .refused => s
  | .crc => (s.incF F.SVC_CRC_CNT_COUNT).event Ev.svc 0
  | .badCmd => (s.incF F.SVC_BAD_CMD_CNT_COUNT).event Ev.svc 1
  | .locked => (s.incF F.SVC_LOCKED_CNT_COUNT).event Ev.svc 2
  | .wrongMode => s.incF F.SVC_WRONG_MODE_CNT_COUNT
  | .badKey => (s.incF F.SVC_BAD_KEY_CNT_COUNT).event Ev.svc 3
  | .busy => s.incF F.SVC_BUSY_CNT_COUNT

/-- SVC_LAST and SVC_LAST_ADDR of a frame with a complete header (R544). [DESIGN CHOICE, log entry 32] -/
def State.svcHeader (s : State) (cmd addr len : Nat) : State :=
  ((s.setF F.SVC_LAST_CMD cmd).setF F.SVC_LAST_LEN len).setF F.SVC_LAST_ADDR_ADDR addr

/-- The port is powered: the die is. On hold-up energy it answers while PF_ACTIVE is set, which R497 and R538 have it answer BUSY for.
In LOAD before the wipe it answers BUSY (R536). [DESIGN CHOICE, log entry 32] -/
def State.svcPowered (s : State) : Bool :=
  decide (s.sys.phase = .run ∨ s.sys.phase = .held) || (decide (s.sys.phase = .holdup) && s.flag F.ASH_STATUS_PF_ACTIVE)

/-- What the host sends before its CRC: CMD, ADDR, LEN, and the data of WRITE, FLASH_PROGRAM and OTP_KEY (R537, R538).
[DESIGN CHOICE, log entry 32] -/
def hostBytes (cmd : Nat) (f : SvcFrame) : List Byte :=
  beBytes 1 cmd ++ beBytes 4 f.addr ++ beBytes 2 f.len ++
    (if cmd = 2 ∨ cmd = 7 ∨ cmd = 9 then f.data.flatMap (fun w => beBytes 4 w.toNat) else [])

/-- Whether the host's CRC-16 checks. -/
def crcChecks (cmd : Nat) (f : SvcFrame) : Bool := decide (f.crc = crc16 (hostBytes cmd f))

/-- What the port drives on SVC_MISO (R537): 0xFF until the CRC has been received, 0x00 while busy, the sync byte, the device's data
with its CRC-16, the status byte. [DESIGN CHOICE, log entry 32] -/
def svcMiso (cmd : Nat) (f : SvcFrame) (data : List Byte) (st : Nat) : List Byte :=
  List.replicate ((hostBytes cmd f).length + 2) 0xFF ++ List.replicate f.busyBytes 0 ++ [0xA5] ++
    (if data.isEmpty then [] else data ++ beBytes 2 (crc16 data)) ++ beBytes 1 st

/-- A frame of command `cmd` (R537, R538): `act` judges and runs it, and gives the status and the data bytes sent. A reset that the
frame brought leaves nothing to answer with. [DESIGN CHOICE, log entry 32] -/
def State.svcFrame (s : State) (cmd : Nat) (f : SvcFrame) (act : State → State × SvcStatus × List Byte) : State :=
  if !s.svcPowered then s
  else
    let s1 := ((s.incF F.SVC_FRAME_CNT_COUNT).svcHeader cmd f.addr f.len).setFlag F.SVC_LINK_MODE3 f.mode3
    let r := if !s.sys.wiped then (s1, SvcStatus.busy, [])
      else if !crcChecks cmd f then (s1, SvcStatus.crc, [])
      else act { s1 with svc := { s1.svc with frame := true } }
    if r.1.sys.phase ≠ s.sys.phase then r.1
    else
      let s2 := ((r.1.svcCount r.2.1).setF F.SVC_LAST_STATUS r.2.1.code).peakF F.SVC_LINK_BUSY_MAX f.busyUs
      { s2 with svc := { s2.svc with frame := false, status := some r.2.1.code, miso := svcMiso cmd f r.2.2 r.2.1.code } }

/-- A refusal of a command. [DESIGN CHOICE, log entry 32] -/
def refuse (s : State) (st : SvcStatus) : State × SvcStatus × List Byte := (s, st, [])

/-- ADDR is word-aligned, and LEN words from it lie in the address space; LEN is 1 to 256 (R538). -/
def wordsOk (f : SvcFrame) : Bool :=
  decide (f.addr % 4 = 0 ∧ 1 ≤ f.len ∧ f.len ≤ 256 ∧ f.addr + 4 * f.len ≤ 2 ^ 32)

/-! READ and WRITE -/

/-- The word at `a` as the service port reads it (R8, R23), with what the read does; `open_` as in `writeWord`. -/
def State.readWord (s : State) (open_ : Bool) (a flueNs rtcUnits : Nat) : State × Word :=
  if tileBase ≤ a ∧ a < tileBase + 0x800000 then
    (s, if open_ ∨ s.mode = .service then Mem.word 0 s.tiles a else 0)
  else if a = F.SYS_TICK_LO_TICK.addr then (s.latchTick, s.view a)
  else if a = F.FLU_TIME_LO_TIME.addr then (s.latchFlue flueNs, (s.latchFlue flueNs).view a)
  else if a = F.CLK_RTC_LO_RTC.addr then (s.latchRtc rtcUnits, (s.latchRtc rtcUnits).view a)
  else if a = (F.MBX_DATA_WORD 15).addr then
    let m := s.getF F.MBX_SEL_MAILBOX
    (if open_ && decide (mbxReceiver m = 3) && s.mbxFull m then s.mbxTaken m else s.mbxTake 3 m, s.view a)
  else (s.unlatch a, if a < regBase then 0 else s.view a)

/-- READ: words from ADDR upwards. -/
def State.readWords (s : State) (open_ : Bool) (a n flueNs rtcUnits : Nat) : State × List Word :=
  (List.range n).foldl (fun (p : State × List Word) k =>
    let r := p.1.readWord open_ (a + 4 * k) (if k = 0 then flueNs else 0) (if k = 0 then rtcUnits else 0)
    (r.1, p.2 ++ [r.2])) (s, [])

/-- READ (R538), and a CMD that names no command (`other`), which is answered BAD_CMD (R539). -/
def State.svcRead (s : State) (f : SvcFrame) (other : Option Nat) : State :=
  s.svcFrame (other.getD 1) f (fun s =>
    if other.isSome || !wordsOk f then refuse s .badCmd
    else
      let r := s.readWords false f.addr f.len f.flueNs f.rtcUnits
      (r.1, .ok, r.2.flatMap (fun w => beBytes 4 w.toNat)))

/-- The meaning of READ (R538). -/
def execRead (f : SvcFrame) (other : Option Nat) (s : State) : Host.Outcome State Fault Refusal := .next (s.svcRead f other)

/-- Writing words from `a` upwards, and how many took effect; a reset among them ends the rest. [DESIGN CHOICE, log entry 32] -/
def State.writeWords (s : State) (open_ : Bool) (a : Nat) (l : List Word) : State × Nat :=
  l.zipIdx.foldl (fun (p : State × Nat) x =>
    let r := p.1.writeWord open_ (a + 4 * x.2) x.1
    (r.1, p.2 + b2n r.2)) (s, 0)

/-- WRITE (R538): outside SERVICE the answer is LOCKED unless every word acts, as FLT_FORCE_w does in SELF-TEST (R443).
[DESIGN CHOICE, log entry 32] -/
def State.svcWrite (s : State) (f : SvcFrame) : State :=
  s.svcFrame 2 f (fun s =>
    if !wordsOk f then refuse s .badCmd
    else
      let r := s.writeWords false f.addr (f.data.take f.len)
      let s1 := r.1.when r.1.running (fun s => s.addF F.SVC_WRITE_WORD_CNT_COUNT r.2)
      (s1, if s.mode ≠ .service ∧ r.2 < f.len then .locked else .ok, []))

/-- The meaning of WRITE (R538). -/
def execWrite (f : SvcFrame) (s : State) : Host.Outcome State Fault Refusal := .next (s.svcWrite f)

/-! ASH_READ, ENTER_SERVICE, REPLAY_ABORT -/

/-- ASH_READ (R497, R538): MRAM bytes below ASH_TAIL, 0 from there on; BUSY while PF_ACTIVE is set. -/
def State.svcAshRead (s : State) (f : SvcFrame) : State :=
  s.svcFrame 3 f (fun s =>
    if f.len = 0 ∨ 4096 < f.len ∨ 2 ^ 32 < f.addr + f.len then refuse s .badCmd
    else if s.flag F.ASH_STATUS_PF_ACTIVE then refuse s .busy
    else
      let n := min f.len (s.getF F.ASH_TAIL_ADDR - f.addr)
      (s.incF F.ASH_READ_CNT_COUNT, .ok, s.mramRead f.addr n ++ List.replicate (f.len - n) 0))

/-- The meaning of ASH_READ (R497). -/
def execAshRead (f : SvcFrame) (s : State) : Host.Outcome State Fault Refusal := .next (s.svcAshRead f)

/-- ENTER_SERVICE (R58, R538): the key is judged before the mode. -/
def State.svcEnter (s : State) (f : SvcFrame) : State :=
  s.svcFrame 4 f (fun s =>
    if f.len ≠ 0 then refuse s .badCmd
    else if f.addr ≠ 0x53C7 then refuse s .badKey
    else if s.mode ≠ .safeHold ∨ s.otp.lifecycle = 4 then refuse s .wrongMode
    else (s.enterMode .service 3 0, .ok, []))

/-- The meaning of ENTER_SERVICE (R538). -/
def execEnterService (f : SvcFrame) (s : State) : Host.Outcome State Fault Refusal := .next (s.svcEnter f)

/-- REPLAY_ABORT (R496, R538): REPLAY ends at the next boundary. -/
def State.svcAbort (s : State) (f : SvcFrame) : State :=
  s.svcFrame 5 f (fun s =>
    if f.len ≠ 0 ∨ f.addr ≠ 0 then refuse s .badCmd
    else if s.mode ≠ .replay then refuse s .wrongMode
    else ({ s with jrn := { s.jrn with abort := true } }, .ok, []))

/-- The meaning of REPLAY_ABORT (R496). -/
def execReplayAbort (f : SvcFrame) (s : State) : Host.Outcome State Fault Refusal := .next (s.svcAbort f)

/-! Non-volatile operations (R538) -/

/-- Commands 0x06 to 0x09: the header holds, the mode is SERVICE, and no operation runs. [DESIGN CHOICE, log entry 32] -/
def State.nvmGate (s : State) (ok : Bool) (go : State → State × SvcStatus × List Byte) : State × SvcStatus × List Byte :=
  if !ok then refuse s .badCmd
  else if s.mode ≠ .service then refuse s .wrongMode
  else if s.svc.nvm.isSome then refuse s .busy
  else go s

/-- Starting an operation: SVC_NVM shows it. [DESIGN CHOICE, log entry 32] -/
def State.nvmStart (s : State) (op addr : Nat) (data : List Byte) : State :=
  ((({ s with svc := { s.svc with nvm := some ⟨op, addr, data⟩ } } : State).setFlag F.SVC_NVM_BUSY true).setF F.SVC_NVM_OP op).setF
    F.SVC_NVM_ADDR addr

/-- The bytes of host words in the order of the wire (R537). [DESIGN CHOICE, log entry 47] -/
def wireBytes (l : List Word) : List Byte := l.flatMap (fun w => beBytes 4 w.toNat)

/-- FLASH_ERASE: a 64 KB-aligned flash address, LEN 0. -/
def State.svcErase (s : State) (f : SvcFrame) : State :=
  s.svcFrame 6 f (fun s =>
    s.nvmGate (decide (f.len = 0 ∧ f.addr % 0x10000 = 0 ∧ f.addr < 0x400000)) (fun s =>
      ((s.nvmStart 1 f.addr []).incF F.SVC_ERASE_CNT_COUNT, .ok, [])))

/-- The meaning of FLASH_ERASE (R538). -/
def execFlashErase (f : SvcFrame) (s : State) : Host.Outcome State Fault Refusal := .next (s.svcErase f)

/-- FLASH_PROGRAM: 1 to 64 words within one 256 B page. [DESIGN CHOICE, log entry 47] -/
def State.svcProgram (s : State) (f : SvcFrame) : State :=
  s.svcFrame 7 f (fun s =>
    s.nvmGate (decide (1 ≤ f.len ∧ f.len ≤ 64 ∧ f.addr + 4 * f.len ≤ 0x400000 ∧
        f.addr / 256 = (f.addr + 4 * f.len - 1) / 256)) (fun s =>
      ((s.nvmStart 2 f.addr (wireBytes (f.data.take f.len))).incF F.SVC_PROGRAM_CNT_COUNT, .ok, [])))

/-- The meaning of FLASH_PROGRAM (R538). -/
def execFlashProgram (f : SvcFrame) (s : State) : Host.Outcome State Fault Refusal := .next (s.svcProgram f)

/-- FLASH_READ: 1 to 256 words; a flash that does not answer gives free bytes. [DESIGN CHOICE, log entries 32 and 47] -/
def State.svcFlashRead (s : State) (f : SvcFrame) (answers : Bool) : State :=
  s.svcFrame 8 f (fun s =>
    s.nvmGate (decide (1 ≤ f.len ∧ f.len ≤ 256 ∧ f.addr + 4 * f.len ≤ 0x400000)) (fun s =>
      if answers then (s, .ok, Mem.read 0xFF s.flash f.addr (4 * f.len))
      else ({ s with free := s.free + f.len }, .ok, wireBytes ((List.range f.len).map (fun k => Config.freeWord (s.free + k))))))

/-- The meaning of FLASH_READ (R538). -/
def execFlashRead (f : SvcFrame) (answers : Bool) (s : State) : Host.Outcome State Fault Refusal := .next (s.svcFlashRead f answers)

/-- OTP_KEY: the hash of R49 for an unprogrammed slot. -/
def State.svcKey (s : State) (f : SvcFrame) : State :=
  s.svcFrame 9 f (fun s =>
    s.nvmGate (decide (f.len = 8 ∧ f.addr < 4)) (fun s =>
      if (s.otp.keys.getD f.addr none).isSome then refuse s .refused
      else ((s.nvmStart 3 f.addr (wireBytes (f.data.take 8))).incF F.SVC_OTP_CNT_COUNT, .ok, [])))

/-- The meaning of OTP_KEY (R538). -/
def execOtpKey (f : SvcFrame) (s : State) : Host.Outcome State Fault Refusal := .next (s.svcKey f)

/-- The effect of a completed operation and whether its read-back matches: an erase sets every byte of its 64 KB, a program clears
bits, a key fills its slot. Where the cells did not take the value (`good` false) they hold free bytes.
[DESIGN CHOICE, log entry 32] -/
def State.nvmEffect (s : State) (x : Nvm) (good : Bool) : State × Bool :=
  match x.op with
  | 1 => (if good then { s with flash := Mem.write 0xFF s.flash x.addr (List.replicate 0x10000 0xFF) }
          else s.freeFlash x.addr 0x10000, true)
  | 2 =>
    let got := (Mem.read 0xFF s.flash x.addr x.data.length).zipWith (fun a b => a &&& b) x.data
    if good then ({ s with flash := Mem.write 0xFF s.flash x.addr got }, decide (got = x.data))
    else (s.freeFlash x.addr x.data.length, false)
  | _ =>
    if good then ({ s with otp := { s.otp with keys := s.otp.keys.set x.addr (some (ofBe x.data)) } }, true)
    else (s.freeKey x.addr, false)

/-- NVM_OPERATION_COMPLETE: RESULT 0 good, 1 verify failed, 2 the flash did not answer. -/
def State.nvmComplete (s : State) (answers good : Bool) : State :=
  match s.svc.nvm with
  | none => s
  | some x =>
    if !s.running then s
    else
      let r := if !answers ∧ x.op ≠ 3 then (s, 2) else
        let e := s.nvmEffect x good
        (e.1, if e.2 then 0 else 1)
      (({ r.1 with svc := { r.1.svc with nvm := none } } : State).setFlag F.SVC_NVM_BUSY false).setF F.SVC_NVM_RESULT r.2

/-- The meaning of NVM_OPERATION_COMPLETE (R538). -/
def execNvmOperationComplete (answers good : Bool) (s : State) : Host.Outcome State Fault Refusal := .next (s.nvmComplete answers good)

/-- SVC_ABANDON: a frame ends before its CRC has checked; a complete header (CMD, ADDR, LEN) still shows, with a free STATUS.
[DESIGN CHOICE, log entry 32] -/
def State.svcAbandon (s : State) (header : Option (Nat × Nat × Nat)) (mode3 : Bool) : State :=
  if !s.svcPowered then s
  else
    let s1 := (((s.incF F.SVC_FRAME_CNT_COUNT).setFlag F.SVC_LINK_MODE3 mode3).incF F.SVC_ABANDON_CNT_COUNT).event Ev.svc 4
    match header with
    | some (cmd, addr, len) => ((s1.svcHeader cmd addr len).setF F.SVC_LAST_STATUS s1.fresh.1.toNat).fresh.2
    | none => s1

/-- The meaning of SVC_ABANDON (R538). -/
def execSvcAbandon (header : Option (Nat × Nat × Nat)) (mode3 : Bool) (s : State) : Host.Outcome State Fault Refusal :=
  .next (s.svcAbandon header mode3)

/-! JTAG (R540) -/

/-- The IDCODE word: version STEP_LETTER, part 0x9430, and the manufacturer field of the pins chapter.
[DESIGN CHOICE, log entry 33] -/
def idcode : Word := 0x39430B87

/-- The next state of the TAP controller at a rising edge of JTAG_TCK (IEEE 1149.1). [DESIGN CHOICE, log entry 33] -/
def Tap.next (t : Tap) (tms : Bool) : Tap :=
  match t, tms with
  | .testLogicReset, true => .testLogicReset
  | .testLogicReset, false | .runTestIdle, false | .updateDr, false | .updateIr, false => .runTestIdle
  | .runTestIdle, true | .updateDr, true | .updateIr, true => .selectDr
  | .selectDr, true => .selectIr
  | .selectDr, false => .captureDr
  | .captureDr, true | .shiftDr, true => .exit1Dr
  | .captureDr, false | .shiftDr, false | .exit2Dr, false => .shiftDr
  | .exit1Dr, true | .exit2Dr, true => .updateDr
  | .exit1Dr, false | .pauseDr, false => .pauseDr
  | .pauseDr, true => .exit2Dr
  | .selectIr, true => .testLogicReset
  | .selectIr, false => .captureIr
  | .captureIr, true | .shiftIr, true => .exit1Ir
  | .captureIr, false | .shiftIr, false | .exit2Ir, false => .shiftIr
  | .exit1Ir, true | .exit2Ir, true => .updateIr
  | .exit1Ir, false | .pauseIr, false => .pauseIr
  | .pauseIr, true => .exit2Ir

/-- What an instruction shifts out and does: in BLANK all of them, later only IDCODE, every other as BYPASS. A boundary scan drives its
cells, and what it captured of the pins is free. [DESIGN CHOICE, log entry 33] -/
def State.jtagDo (s : State) (what : JtagOp) : State × List Word :=
  let blank := decide (s.otp.lifecycle = 0)
  match what with
  | .idcode => (s, [idcode])
  | .read a n => if blank && s.running then s.readWords true a n 0 0 else (s, [0])
  | .write a l => if blank && s.running then ((s.writeWords true a l).1, []) else (s, [0])
  | .boundary cells =>
    if blank then
      let n := ceilDiv cells.length 32
      ({ s with svc := { s.svc with scan := some cells }, free := s.free + n },
        (List.range n).map (fun k => Config.freeWord (s.free + k)))
    else (s, [0])
  | .bypass | .other => (s, [0])

/-- The TAP moves on from Run-Test/Idle by the levels of JTAG_TMS; JTAG_TRST_N low takes it to Test-Logic-Reset, where SVC_JTAG.ACTIVE
is clear and no scan drives a pin (R540, R544). [DESIGN CHOICE, log entry 33] -/
def State.tapMove (s : State) (tms : List Bool) (trst : Bool) : State :=
  let t := if trst then .testLogicReset else tms.foldl Tap.next .runTestIdle
  let up := decide (t ≠ .testLogicReset)
  (({ s with svc := { s.svc with tap := t, scan := if up then s.svc.scan else none } } : State)).setFlag F.SVC_JTAG_ACTIVE up

/-- JTAG_INSTRUCTION: SVC_JTAG shows it, and it acts as the life-cycle state allows; the TAP, in Run-Test/Idle after it, moves by the
levels of JTAG_TMS that follow. [DESIGN CHOICE, log entry 33] -/
def State.jtag (s : State) (ir : Nat) (what : JtagOp) (tms : List Bool) (trst : Bool) : State :=
  if s.sys.phase ≠ .run ∧ s.sys.phase ≠ .held then s
  else
    let s0 : State := { s with svc := { s.svc with scan := none } }
    let r := ((s0.setF F.SVC_JTAG_LAST_IR ir).setFlag F.SVC_JTAG_ACTIVE true).jtagDo what
    ({ r.1 with svc := { r.1.svc with tdo := r.2 } } : State).tapMove tms trst

/-- The meaning of JTAG_INSTRUCTION (R540). -/
def execJtagInstruction (ir : Nat) (what : JtagOp) (tms : List Bool) (trst : Bool) (s : State) : Host.Outcome State Fault Refusal :=
  .next (s.jtag ir what tms trst)

end Sys2Proof.Machine
end

