-- ==== Sys2Proof/Machine/Tick.lean ====
section
/-!
DEFINITION. The tick start (R33, R77, R94, R424): slot ends, the intake record, slot starts. Command TICK.
-/
namespace Sys2Proof.Machine

open Sys2Proof

/-- Register fields that show a quantity measured outside the logic, as the surroundings give it at a tick start (R230, R244, R249,
R105, R254, R342, R456, R469, R472). -/
def measuredFlds : List Fld :=
  [F.PWR_SUPPLY_VSUP, F.PWR_SUPPLY_VIO, F.PWR_CORE_CORE_N, F.PWR_CORE_CORE_S, F.PWR_VBAT_VBAT, F.CLK_XT32_DEV, F.CLK_XT25_COUNT,
    F.CLK_MON_N_COUNT, F.CLK_MON_S_COUNT, F.CLK_DRIFT_DEV] ++
  (List.range 2).map F.GDR_LINK_STAT_UDC ++ (List.range 18).map F.GDR_GATE_TON ++ (List.range 18).map F.GDR_GATE_VBS ++
  (List.range 4).flatMap (fun i => [F.GDR_SS_STAT_VOLT i, F.GDR_SS_STAT_CURR i, F.GDR_SS_STAT_LIMITING i,
    F.GDR_EN_STAT_RB i]) ++ (List.range 12).map F.GDR_SOL_STAT_DUTY ++
  (List.range 4).flatMap (fun n => [F.CAN_STATUS_RECEIVING n, F.CAN_STATUS_SYNCED n, F.CAN_TDC_MEASURED n]) ++ (List.range 16).map F.CLK_OUT_MEAS_KHZ ++
  (List.range 64).map F.HOB_ENGINE_BUSY

/-- Showing measured quantities: registers as pairs of address and word, of which the measured fields are taken. A low side shows no
bootstrap voltage, a solenoid channel that does not regulate no duty, a controller that takes no part in bus traffic is not integrated to it, and OK of
the supplies follows their voltages; MON_N_OK and MON_S_OK follow the window shown, and without PPS there is no drift (R246, R254, R357,
R472). -/
def State.show (s : State) (shown : List (Nat × Word)) : State :=
  let s1 := s.each shown (fun s x => s.each (measuredFlds.filter (fun f => decide (f.addr = x.1))) (fun s f => s.setF f (f.get x.2)))
  let s2 := s1.each (List.range 9) (fun s k => s.setF (F.GDR_GATE_VBS (2 * k)) 0)
  let s3 := s2.each ((List.range 12).filter (fun k => decide (s2.getF (F.GDR_SOL_STAT_STATE k) ≠ 1))) (fun s k =>
    s.setF (F.GDR_SOL_STAT_DUTY k) 0)
  let s4 := s3.each ((List.range 4).filter (fun n => !s3.canRuns n)) (fun s n => s.setFlag (F.CAN_STATUS_SYNCED n) false)
  ((s4.each (List.range 4) State.refreshSupply).refreshMon).when (!s.ppsRuns) (fun s => s.setReg F.CLK_DRIFT_DEV.addr 0)

/-- Intake sources that the power stage measures at the tick start: the solenoid currents (R246). -/
def measuredSrc : List Nat := List.range' 0x80 12

/-- U_DC (k = 0) and the phase voltages (k = 1 to 3) of bridge b in V, from the latest results of their channels: the link sense of
the bridge's link (R239), and channels 3b to 3b + 2 (R216, R256, R257). -/
def State.motVolts (s : State) (b k : Nat) : Word :=
  Sys2Proof.Machine.motVolts (s.getF (F.ADC_RESULT_CODE (if k = 0 then (if b = 0 then 51 else 52) else 3 * b + k - 1)))

/-- A measured source's value; one that the command does not give is free (log entry 5). [DESIGN CHOICE, log entry 49] -/
def State.meas (s : State) (m : List (Nat × Word)) (n : Nat) : Word :=
  match m.find? (fun x => decide (x.1 = n)) with
  | some x => x.2
  | none => Config.freeWord (s.free + measuredSrc.findIdx (fun k => decide (k = n)))

/-- Registers that show the measured sources. -/
def State.showMeasured (s : State) (m : List (Nat × Word)) : State :=
  let s1 := s.each (List.range 3) (fun s b =>
    let u := s.motVolts b 0
    let s1 := s.setReg (F.MOT_UDC_U b).addr u
    let s2 := s1.each (List.range 3) (fun s p => s.setReg (F.MOT_UPH_U b p).addr (s.motVolts b (p + 1)))
    s2.when (fLt (s.reg (F.MOT_UDC_PEAK_U b).addr) u) (fun s => s.setReg (F.MOT_UDC_PEAK_U b).addr u))
  s1.each (List.range 12) (fun s k =>
    s.setF (F.GDR_SOL_I_I k) (if s.getF (F.GDR_SOL_STAT_STATE k) = 1 then min 4095 (solMilli (s.meas m (0x80 + k))) else 0))

/-- The values a bridge places in the record (R216). -/
def State.motIntake (s : State) (b : Nat) : List (Nat × Word × Bool) :=
  [s.reg (F.MOT_I_NEW_I b).addr, s.reg (F.MOT_I_OLD_I b).addr, s.reg (F.MOT_TAG_NEW b).addr,
   w32 ((s.reg (F.MOT_STATUS_STATE b).addr).toNat % 65536), s.motVolts b 0, s.motVolts b 1, s.motVolts b 2,
   s.motVolts b 3].zipIdx.map (fun x => (0x60 + 8 * b + x.2, x.1, false))

/-- The low halves of status registers in the record (R246, R247, R249), and solenoid currents. [DESIGN CHOICE, log entry 43] -/
def State.gdrIntake (s : State) (m : List (Nat × Word)) : List (Nat × Word × Bool) :=
  let low := fun (f : Fld) => w32 ((s.reg f.addr).toNat % 65536)
  (List.range 4).map (fun i => (0x78 + i, low (F.GDR_SS_STAT_OK i), false)) ++
  (List.range 4).map (fun i => (0x7C + i, low (F.GDR_EN_STAT_CMD i), false)) ++
  (List.range 12).map (fun k => (0x80 + k, if s.getF (F.GDR_SOL_STAT_STATE k) = 1 then s.meas m (0x80 + k) else 0, false)) ++
  (List.range 12).map (fun k => (0x8C + k, low (F.GDR_SOL_STAT_STATE k), false))

/-- INITIAL of the intake signal with a source number. -/
def State.intakeInit (s : State) (n : Nat) : Word :=
  ((s.img.sigs.find? (fun g => g.producer.isNone && decide (g.port = n))).map (fun g => g.initial)).getD 0

/-- The tap values of the present sample cycle in a lead mode (R365). -/
def State.tapValuesIn (s : State) : List (Nat × Word × Bool) :=
  [1, 2, 3].flatMap (fun id => (List.range 8).map (fun k =>
    let v : Word × Bool :=
      if id = s.ownId then s.lds.tapPrev.getD k (Config.freeWord (s.free + 8 * (id - 1) + k), true)
      else match s.lds.prev.find? (fun f => decide (f.id = id)) with
        | some f => (f.taps.getD k 0, bit f.tapAge k)
        | none => (Config.freeWord (s.free + 8 * (id - 1) + k), true)
    (0xC0 + 8 * (id - 1) + k, v.1, v.2)))

/-- The own intake at a tick start of Flue time t in ns (R424): every intake source once. -/
def State.ownIntake (s : State) (t : Nat) (m : List (Nat × Word)) : List (Nat × Word × Bool) :=
  let sect := (s.cans.getD 0 {}).sections
  s.adcIntake t ++ (List.range 4).flatMap (fun i => s.posIntake i t) ++ (List.range 3).flatMap s.motIntake ++ s.gdrIntake m ++
    s.canIntake ++ s.ethIntake ++ s.safIntake ++ s.lds.tapIn ++ s.poseIntake t ++
    [(0xE8, w32 sect, false), (0xE9, w32 (sect / 2 ^ 32), false)] ++
    (List.range 8).map (fun c => (0xF0 + c, s.spValue c (s.intakeInit (0xF0 + c)))) ++
    [(0xF8, w32 (s.ldsStatusWord.toNat % 65536), false)]

/-- The source of tap k, 0xFF for none (R393). [DESIGN CHOICE, log entry 49] -/
def State.tapSource (s : State) (k : Nat) : Nat := s.getF (if k < 4 then F.LDS_TAP_0_TAP k else F.LDS_TAP_1_TAP (k - 4))

/-- The taps are sampled at tick 0 (R365); a tap without a source carries the age flag and a free value. -/
def State.sampleOwnTaps (s : State) (own : List (Nat × Word × Bool)) : State :=
  let l := (List.range 8).map (fun k =>
    match s.tapSource k, own.find? (fun x => decide (x.1 = s.tapSource k)) with
    | 0xFF, _ => (Config.freeWord (s.free + k), true)
    | _, some x => x.2
    | _, none => (Config.freeWord (s.free + k), true))
  { s with lds := { s.lds with tapPrev := s.lds.tapNow, tapNow := l }, free := s.free + 8 }

/-- What happens at a tick start before the intake is taken. -/
def State.tickBefore (s : State) (t : Nat) : State :=
  let s1 := ((s.canDrain.ethTick).adcTick t)
  let s3 := (s1.each (List.range 8) State.spIntake).poseTick t
  ((s3.secTick (t / 10000)).safTick)

/-- The intake record of tick j by mode (R367, R424, R494). -/
def State.intakeTick (s : State) (t j : Nat) (m : List (Nat × Word)) : State :=
  let s1 : State := if s.mode.sends && decide (j = 0) then { s with lds := { s.lds with tapIn := s.tapValuesIn }, free := s.free + 24 }
    else s
  let own := if s.mode.sends then s1.ownIntake t m else []
  let s2 := ({ s1 with free := s1.free + 24 } : State).poseFree
  let s3 := s2.when (s.mode.sends && decide (j = 0)) (fun s => s.sampleOwnTaps own)
  let s4 : State := if s.mode = .shadow then { s3 with gr := { s3.gr with intake := s.recordTick j } }
    else if s.mode = .replay then s3.replayTick j
    else { s3 with gr := { s3.gr with intake := own } }
  ({ s4 with gr := { s4.gr with south := s4.gr.intake, stamp := t }, adc := { s4.adc with before := [] } } : State).each (List.range 4) State.posAfter

/-- The slots that start at tick j of sample cycle S; at a T16 slot start the map takes its changes first (R141). -/
def State.startSlots (s : State) (sc j : Nat) : State :=
  let s1 := s.sampleSets j
  let s2 := s1.when ((slotsStarting sc j).contains 2 && decide (s.mode ≠ .replay)) (fun s =>
    ({ s with sec := { s.sec with slotTick := w32 s.tickLo } } : State).mapSlotStart)
  (s2.each (slotsStarting sc j) State.slotStart).refreshQueues

/-- A new tick: no tile is verified in it yet, and none has been read in it (R91 condition 2, R92). -/
def State.forgetTiles (s : State) : State :=
  let none' := fun (x : Option Staged) => x.map (fun w => { w with tiles := [] })
  { s with gr := { s.gr with verified := [], insts := s.gr.insts.map (fun r => { r with a := none' r.a, b := none' r.b }) } }

/-- TICK: the next tick of the cycle starts; a fifth one without a boundary only counts. `measured` gives measured intake sources,
`shown` measured registers. [DESIGN CHOICE, log entries 8 and 49] -/
def State.tickStart (s : State) (measured shown : List (Nat × Word)) : State :=
  let s0 := (({ s with sys := { s.sys with tick := (s.sys.tick + 1) % 2 ^ 64 } } : State).show shown).showMeasured measured
  if s.gr.boundary = false ∧ 3 ≤ s.gr.j then s0
  else
    let j := if s.gr.boundary then 0 else s.gr.j + 1
    let t := s0.flu.cycle * 125000 + 31250 * j
    let s0 := s0.each (List.range 4) (fun s i => if s.gr.boundary then s.posLate i t else s.posBefore i t (4 * s.flu.cycle + j))
    let s1 := match s.gr.s with
      | some sc => s0.when (decide (0 < j)) (fun s => (s.readSets.slotsEnd (slotsEnding sc (j - 1))).sampleTaps)
      | none => s0
    let s2 := (({ s1 with gr := { s1.gr with j := j, boundary := false } } : State).forgetTiles).setTime t
    let s3 := (s2.tickBefore t).intakeTick t j measured
    match s3.gr.s with
    | some sc => s3.startSlots sc j
    | none => s3

/-- The meaning of TICK (R424). -/
def execTick (measured shown : List (Nat × Word)) (s : State) : Host.Outcome State Fault Refusal :=
  .next (if s.running then s.tickStart measured shown else s)

end Sys2Proof.Machine
end

