-- ==== Sys2Proof/Machine/Dispatch.lean ====
section
/-!
DEFINITION. One arm per command: the meaning it calls.
-/
namespace Sys2Proof.Machine

open Sys2Proof

/-- What a command does to everything but the queue (R-rules of the table's rows; one direct call per row). -/
def exec (i : Instr) (s : State) : Host.Outcome State Fault Refusal :=
  match i with
  | .vsupValid elapsed => Sys2Proof.Machine.execVsupValid elapsed s
  | .vsupLoss => Sys2Proof.Machine.execVsupLoss s
  | .pinReset same => Sys2Proof.Machine.execPinReset same s
  | .coreUnderVoltage same => Sys2Proof.Machine.execCoreUnderVoltage same s
  | .resetRelease e => Sys2Proof.Machine.execResetRelease e s
  | .lbistComplete part1 part2 => Sys2Proof.Machine.execLbistComplete part1 part2 s
  | .analogueBist e => Sys2Proof.Machine.execAnalogueBist e s
  | .joinTimeout => Sys2Proof.Machine.execJoinTimeout s
  | .listenTimeout t => Sys2Proof.Machine.execListenTimeout t s
  | .coldLimitExpiry => Sys2Proof.Machine.execColdLimitExpiry s
  | .election => Sys2Proof.Machine.execElection s
  | .cycleBoundary => Sys2Proof.Machine.execCycleBoundary s
  | .rateCorrection => Sys2Proof.Machine.execRateCorrection s
  | .checkpoint => Sys2Proof.Machine.execCheckpoint s
  | .snapshot elapsed => Sys2Proof.Machine.execSnapshot elapsed s
  | .staticSegmentEnd => Sys2Proof.Machine.execStaticSegmentEnd s
  | .tick measured shown => Sys2Proof.Machine.execTick measured shown s
  | .hobDispatch hob => Sys2Proof.Machine.execHobDispatch hob s
  | .blockStage hob upset tiles => Sys2Proof.Machine.execBlockStage hob upset tiles s
  | .busOutputWrite k side w => Sys2Proof.Machine.execBusOutputWrite k side w s
  | .cmpTimeout k tag => Sys2Proof.Machine.execCmpTimeout k tag s
  | .cmpVerdictDisagree k pairDiffers => Sys2Proof.Machine.execCmpVerdictDisagree k pairDiffers s
  | .tileVerify tile pass1 pass2 hob homed => Sys2Proof.Machine.execTileVerify tile pass1 pass2 hob homed s
  | .commit inst slack wait => Sys2Proof.Machine.execCommit inst slack wait s
  | .deadlineMiss k => Sys2Proof.Machine.execDeadlineMiss k s
  | .shadowCopyApply => Sys2Proof.Machine.execShadowCopyApply s
  | .faultRaise source lasting us => Sys2Proof.Machine.execFaultRaise source lasting us s
  | .wireFault source disagrees => Sys2Proof.Machine.execWireFault source disagrees s
  | .clearWaitExpiry source persists => Sys2Proof.Machine.execClearWaitExpiry source persists s
  | .tryCountReset source => Sys2Proof.Machine.execTryCountReset source s
  | .forcePulseEnd source real => Sys2Proof.Machine.execForcePulseEnd source real s
  | .desat gate => Sys2Proof.Machine.execDesat gate s
  | .overcurrent bridge => Sys2Proof.Machine.execOvercurrent bridge s
  | .gateStuck gate => Sys2Proof.Machine.execGateStuck gate s
  | .shootThroughAttempt gate both => Sys2Proof.Machine.execShootThroughAttempt gate both s
  | .bootRefresh gate => Sys2Proof.Machine.execBootRefresh gate s
  | .bootUv gate => Sys2Proof.Machine.execBootUv gate s
  | .chopperSwitch link u => Sys2Proof.Machine.execChopperSwitch link u s
  | .chopperFail link => Sys2Proof.Machine.execChopperFail link s
  | .linkOv link u => Sys2Proof.Machine.execLinkOv link u s
  | .linkTrip link u => Sys2Proof.Machine.execLinkTrip link u s
  | .solShort channel => Sys2Proof.Machine.execSolShort channel s
  | .solOpen channel holds => Sys2Proof.Machine.execSolOpen channel holds s
  | .solDeviation channel holds => Sys2Proof.Machine.execSolDeviation channel holds s
  | .enReadback enable rb => Sys2Proof.Machine.execEnReadback enable rb s
  | .ssFault supply => Sys2Proof.Machine.execSsFault supply s
  | .testPulseStart low => Sys2Proof.Machine.execTestPulseStart low s
  | .testPulseRelease => Sys2Proof.Machine.execTestPulseRelease s
  | .halfStart n => Sys2Proof.Machine.execHalfStart n s
  | .xdisInLow => Sys2Proof.Machine.execXdisInLow s
  | .xdisInHigh => Sys2Proof.Machine.execXdisInHigh s
  | .xdisGraceExpiry => Sys2Proof.Machine.execXdisGraceExpiry s
  | .handoverTimeout => Sys2Proof.Machine.execHandoverTimeout s
  | .isolateLimpExpiry => Sys2Proof.Machine.execIsolateLimpExpiry s
  | .graceExpiry => Sys2Proof.Machine.execGraceExpiry s
  | .standstillHoldExpiry => Sys2Proof.Machine.execStandstillHoldExpiry s
  | .flueFrameReceive f => Sys2Proof.Machine.execFlueFrameReceive f s
  | .frameTransmit slot dev fin passing => Sys2Proof.Machine.execFrameTransmit slot dev fin passing s
  | .damperDiverge ns => Sys2Proof.Machine.execDamperDiverge ns s
  | .receiverLock ring => Sys2Proof.Machine.execReceiverLock ring s
  | .lockLoss ring errs => Sys2Proof.Machine.execLockLoss ring errs s
  | .bypassOpen ring => Sys2Proof.Machine.execBypassOpen ring s
  | .bypassClose ring => Sys2Proof.Machine.execBypassClose ring s
  | .ppsEdge t rising => Sys2Proof.Machine.execPpsEdge t rising s
  | .ppsLost => Sys2Proof.Machine.execPpsLost s
  | .countStep n t levels held => Sys2Proof.Machine.execCountStep n t levels held s
  | .indexEdge n t rising held => Sys2Proof.Machine.execIndexEdge n t rising held s
  | .probeEdge n t rising held => Sys2Proof.Machine.execProbeEdge n t rising held s
  | .serialReadStart n t released => Sys2Proof.Machine.execSerialReadStart n t released s
  | .serialWordEnd n t start data err crc => Sys2Proof.Machine.execSerialWordEnd n t start data err crc s
  | .serialTimeout n => Sys2Proof.Machine.execSerialTimeout n s
  | .passThroughFrame n => Sys2Proof.Machine.execPassThroughFrame n s
  | .sequenceStart what acq inConv => Sys2Proof.Machine.execSequenceStart what acq inConv s
  | .conversionComplete v input t settled => Sys2Proof.Machine.execConversionComplete v input t settled s
  | .referenceCheck => Sys2Proof.Machine.execReferenceCheck s
  | .openWirePeriod => Sys2Proof.Machine.execOpenWirePeriod s
  | .adcStart reg inj => Sys2Proof.Machine.execAdcStart reg inj s
  | .canFrameReceive n f t err => Sys2Proof.Machine.execCanFrameReceive n f t err s
  | .canFrameEnd n how lec => Sys2Proof.Machine.execCanFrameEnd n how lec s
  | .busOffRecovery n => Sys2Proof.Machine.execBusOffRecovery n s
  | .claimStands => Sys2Proof.Machine.execClaimStands s
  | .sectionControlTimeout => Sys2Proof.Machine.execSectionControlTimeout s
  | .ethFrameReceive p frame fcs t => Sys2Proof.Machine.execEthFrameReceive p frame fcs t s
  | .pauseRepeat p => Sys2Proof.Machine.execPauseRepeat p s
  | .lowWater p => Sys2Proof.Machine.execLowWater p s
  | .pauseExpiry p => Sys2Proof.Machine.execPauseExpiry p s
  | .phyPoll p regs => Sys2Proof.Machine.execPhyPoll p regs s
  | .ptpSync p t => Sys2Proof.Machine.execPtpSync p t s
  | .announce p => Sys2Proof.Machine.execAnnounce p s
  | .arpExpiry p entry => Sys2Proof.Machine.execArpExpiry p entry s
  | .hello => Sys2Proof.Machine.execHello s
  | .pose => Sys2Proof.Machine.execPose s
  | .tile => Sys2Proof.Machine.execTile s
  | .events => Sys2Proof.Machine.execEvents s
  | .setpoint => Sys2Proof.Machine.execSetpoint s
  | .tileDrop => Sys2Proof.Machine.execTileDrop s
  | .bye => Sys2Proof.Machine.execBye s
  | .credit => Sys2Proof.Machine.execCredit s
  | .tileReq => Sys2Proof.Machine.execTileReq s
  | .tileTimeout layer tx ty => Sys2Proof.Machine.execTileTimeout layer tx ty s
  | .sessionTimeout => Sys2Proof.Machine.execSessionTimeout s
  | .setpointTimeout channel alt => Sys2Proof.Machine.execSetpointTimeout channel alt s
  | .shutdownRequest holds => Sys2Proof.Machine.execShutdownRequest holds s
  | .dormantRelease elapsed alarmFires => Sys2Proof.Machine.execDormantRelease elapsed alarmFires s
  | .rtcAlarm elapsed => Sys2Proof.Machine.execRtcAlarm elapsed s
  | .wakeTimeout elapsed => Sys2Proof.Machine.execWakeTimeout elapsed s
  | .vbatLoss => Sys2Proof.Machine.execVbatLoss s
  | .xt32Fail elapsed => Sys2Proof.Machine.execXt32Fail elapsed s
  | .xt32Return elapsed => Sys2Proof.Machine.execXt32Return elapsed s
  | .pllLoss half lock count => Sys2Proof.Machine.execPllLoss half lock count s
  | .xt25Fail count => Sys2Proof.Machine.execXt25Fail count s
  | .vsupUv => Sys2Proof.Machine.execVsupUv s
  | .vsupOv => Sys2Proof.Machine.execVsupOv s
  | .coreOv => Sys2Proof.Machine.execCoreOv s
  | .vioFault mv => Sys2Proof.Machine.execVioFault mv s
  | .vgdFault => Sys2Proof.Machine.execVgdFault s
  | .vbatLow => Sys2Proof.Machine.execVbatLow s
  | .tempConversion north south power => Sys2Proof.Machine.execTempConversion north south power s
  | .voteWithdraw domain client coincident => Sys2Proof.Machine.execVoteWithdraw domain client coincident s
  | .voteSet domain client => Sys2Proof.Machine.execVoteSet domain client s
  | .domainStepReady domain => Sys2Proof.Machine.execDomainStepReady domain s
  | .domainTimeout domain => Sys2Proof.Machine.execDomainTimeout domain s
  | .rollingTestStart => Sys2Proof.Machine.execRollingTestStart s
  | .rollingTestEnd half pass1 pass2 => Sys2Proof.Machine.execRollingTestEnd half pass1 pass2 s
  | .clockMarginMeasure ro => Sys2Proof.Machine.execClockMarginMeasure ro s
  | .trimSettle => Sys2Proof.Machine.execTrimSettle s
  | .shuntDriftMeasure => Sys2Proof.Machine.execShuntDriftMeasure s
  | .fetMeasure bridge fets => Sys2Proof.Machine.execFetMeasure bridge fets s
  | .crystalDriftMeasure dev => Sys2Proof.Machine.execCrystalDriftMeasure dev s
  | .holdupCheck mv => Sys2Proof.Machine.execHoldupCheck mv s
  | .ashAppend ok1 ok2 us => Sys2Proof.Machine.execAshAppend ok1 ok2 us s
  | .journalFreeze => Sys2Proof.Machine.execJournalFreeze s
  | .holdupRelease => Sys2Proof.Machine.execHoldupRelease s
  | .registerWrite addr value => Sys2Proof.Machine.execRegisterWrite addr value s
  | .sysSwreset key => Sys2Proof.Machine.execSysSwreset key s
  | .imgFloorRaise key => Sys2Proof.Machine.execImgFloorRaise key s
  | .imgKeyRevoke key mask => Sys2Proof.Machine.execImgKeyRevoke key mask s
  | .imgLifecycleReq key target => Sys2Proof.Machine.execImgLifecycleReq key target s
  | .lifecycleFuse => Sys2Proof.Machine.execLifecycleFuse s
  | .bstFuseCmd key => Sys2Proof.Machine.execBstFuseCmd key s
  | .jrnReplayCmd key => Sys2Proof.Machine.execJrnReplayCmd key s
  | .lawEditWord k value => Sys2Proof.Machine.execLawEditWord k value s
  | .fltForce w mask => Sys2Proof.Machine.execFltForce w mask s
  | .sysTickLo => Sys2Proof.Machine.execSysTickLo s
  | .fluTimeLo elapsed => Sys2Proof.Machine.execFluTimeLo elapsed s
  | .clkRtcLo elapsed => Sys2Proof.Machine.execClkRtcLo elapsed s
  | .messageSend side mailbox writes => Sys2Proof.Machine.execMessageSend side mailbox writes s
  | .messageTake side mailbox coincident => Sys2Proof.Machine.execMessageTake side mailbox coincident s
  | .mbxDbPend side value rung => Sys2Proof.Machine.execMbxDbPend side value rung s
  | .longWait mailbox => Sys2Proof.Machine.execLongWait mailbox s
  | .serviceRequest => Sys2Proof.Machine.execServiceRequest s
  | .read f other => Sys2Proof.Machine.execRead f other s
  | .write f => Sys2Proof.Machine.execWrite f s
  | .ashRead f => Sys2Proof.Machine.execAshRead f s
  | .enterService f => Sys2Proof.Machine.execEnterService f s
  | .replayAbort f => Sys2Proof.Machine.execReplayAbort f s
  | .flashErase f => Sys2Proof.Machine.execFlashErase f s
  | .flashProgram f => Sys2Proof.Machine.execFlashProgram f s
  | .flashRead f answers => Sys2Proof.Machine.execFlashRead f answers s
  | .otpKey f => Sys2Proof.Machine.execOtpKey f s
  | .nvmOperationComplete answers good => Sys2Proof.Machine.execNvmOperationComplete answers good s
  | .svcAbandon header mode3 => Sys2Proof.Machine.execSvcAbandon header mode3 s
  | .vbatApplied => Sys2Proof.Machine.execVbatApplied s
  | .supplyMonitorClear source => Sys2Proof.Machine.execSupplyMonitorClear source s
  | .serialRetry n t released => Sys2Proof.Machine.execSerialRetry n t released s
  | .canArbitration n won => Sys2Proof.Machine.execCanArbitration n won s
  | .jtagInstruction ir what tms trst => Sys2Proof.Machine.execJtagInstruction ir what tms trst s

end Sys2Proof.Machine
end

