-- ==== Sys2Proof/Machine/Step.lean ====
section
/-!
DEFINITION. One step: take the command at the front of the queue and run it on the rest; an empty queue idles.
-/
namespace Sys2Proof.Machine

open Sys2Proof

/-- Take the front command and run it with the queue's rest; with an empty queue the device idles.
[DESIGN CHOICE, log entries 1 and 8 and 54] -/
def step (s : State) : Host.Outcome State Fault Refusal :=
  match s.pending with
  | [] => .next s
  | c :: cs => exec c { s with pending := cs }

/-- The state with the command a table word spells put at the front of its queue; the table gives no row any bits, so no
word spells a command and the state is unchanged. [DESIGN CHOICE, log entry 7] -/
def State.withFetchWord (s : State) (nbits w : Nat) : State :=
  match decodeTableWord nbits w with
  | none => s
  | some c => { s with pending := c :: s.pending }

end Sys2Proof.Machine
end

