-- ==== Sys2Proof/Machine/Pins.lean ====
section
/-!
DEFINITION. The states of the pin groups (R547), which follow from the phase, the mode and the units: they need no field of their own.
-/
namespace Sys2Proof.Machine

open Sys2Proof

/-- The pin groups of R547. -/
inductive PinGroup where
  | flue | gate | chopper | solenoid | enable | sensorSupply | pos | canTx | rgmii | mdio | flash | ash | svcMiso | xdisOut | pwrReq
  | jtagTdo | analogue
deriving DecidableEq, Repr

/-- What a group does: not driven (also high impedance and open), low, high (of a chip select), off, recessive, its bypass closed, as a
boundary scan drives its cells (R540), or as the rules of its unit say. -/
inductive PinUse where
  | notDriven | low | high | off | recessive | bypassClosed | scan | unit
deriving DecidableEq, Repr

/-- VIO below 2.7 V, an absent VSUP, and DORMANT. -/
def State.unpowered (s : State) : Bool := decide (s.sys.phase = .off) || s.sys.vioLow || decide (s.mode = .dormant)

/-- The table of R547; which pins have a boundary-scan cell is the digital die's. [DESIGN CHOICE, log entry 33] -/
def State.pins (s : State) (g : PinGroup) : PinUse :=
  let vgd := fun (u : PinUse) => if s.flag F.GDR_STATUS_VGD_OK then u else .notDriven
  let joined := decide (s.mode ≠ .load) && decide (s.mode ≠ .selfTest)
  if g = .pwrReq then (if !s.ember.vbat then .notDriven else if s.ember.pwrReq then .high else .low)
  else if s.unpowered then (if g = .flue then .bypassClosed else .notDriven)
  else if g = .jtagTdo then (if s.svc.tap = .shiftIr ∨ s.svc.tap = .shiftDr then .unit else .notDriven)
  else if s.svc.scan.isSome && [PinGroup.pos, .canTx, .rgmii, .mdio, .flash, .ash, .svcMiso, .xdisOut].contains g then .scan
  else
    let early := decide (s.mode = .load)
    let test := decide (s.mode = .selfTest) || decide (s.mode = .join)
    match g with
    | .flue | .pwrReq | .jtagTdo => .unit
    | .gate => if early then vgd .low else if test then .low else .unit
    | .chopper => vgd .unit
    | .solenoid => if early || test then .notDriven else .unit
    | .enable => if early || test then .off else .unit
    | .sensorSupply => if early then .off else .unit
    | .pos | .mdio => if early then .notDriven else .unit
    | .canTx => if joined then .unit else .recessive
    | .rgmii => if joined then .unit else .low
    | .flash =>
      let works := s.svc.nvm.any (fun x => decide (x.op < 3))
      if early then (if s.sys.phase = .held then .high else .unit) else if decide (s.mode = .service) && works then .unit else .high
    | .ash => if s.sys.phase = .held then .high else .unit
    | .svcMiso => if s.svc.frame then .unit else .notDriven
    | .xdisOut => match s.sys.xdisOut with
      | .z => .notDriven
      | .low => .low
      | .high => .high
    | .analogue => if s.adc.ow.isSome && !early && !test then .unit else .notDriven

end Sys2Proof.Machine
end

