-- ==== Sys2Proof/Safety.lean ====
section
/-!
DEFINITION. The terms in which statements about the device are made: canonical memories, a sound OTP array, what a command
leaves alone, and quiet fault sources.
-/
namespace Sys2Proof.Machine

open Sys2Proof

/-- The registers, the tile store, the MRAM and the flash hold their canonical form. -/
abbrev State.MemOk (s : State) : Prop :=
  Store.wf regReset s.regs = true ∧ Mem.wf 0 s.tiles = true ∧ Mem.wf 0 s.mram = true ∧ Mem.wf 0xFF s.flash = true

/-- The one-time-programmable array is only ever added to between `s` and `t` (R52, R63, R70, R513, R514, R516): the life cycle does
not move back, a floor entry or repair entry keeps its place, a programmed key slot its hash, a revoked slot stays revoked, a sighting
keeps its key and the SEEN fuses that are blown, a baseline once burned stays, as the unique number and the production baselines do. -/
def Otp.Grows (s t : Otp) : Prop :=
  s.lifecycle ≤ t.lifecycle ∧ s.floors <+: t.floors ∧ s.repairs <+: t.repairs ∧ (∀ k, bit s.revoked k = true → bit t.revoked k = true) ∧
  t.uid = s.uid ∧ (∀ k, (s.keys.getD k none).isSome = true → t.keys.getD k none = s.keys.getD k none) ∧
  s.sights.length ≤ t.sights.length ∧
  (∀ k, k < s.sights.length → keyOf (t.sights.getD k 0) = keyOf (s.sights.getD k 0) ∧
    ∀ b, bit (sightSeen (s.sights.getD k 0)) b = true → bit (sightSeen (t.sights.getD k 0)) b = true) ∧
  (s.baseBoard.isSome = true → t.baseBoard = s.baseBoard) ∧ (∀ k, s.baseFet.getD k 0 ≠ 0 → t.baseFet.getD k 0 = s.baseFet.getD k 0) ∧
  t.baseRo = s.baseRo

/-- Every register that does not lie in one of the listed 64 KB blocks (R24, given by the upper half of the address) reads as
before. -/
def State.SameRegs (blocks : List Nat) (s t : State) : Prop := ∀ a, a / 0x10000 ∉ blocks → t.reg a = s.reg a

/-- The register blocks that a raise without an action may write (R436, R437, R447): the collector's own, those in which a source imposes
an output state, and those of the events, the Ash record and the journal. -/
def raiseBlocks : List Nat := [0x4003, 0x400A, 0x400B, 0x4011, 0x4012, 0x4013]

/-- The registers whose writing is a command of its own: the keys, ADC_START, the doorbells, the mailbox and gain-edit words, FLT_FORCE. -/
def ownWrite (a : Nat) : Bool :=
  [F.SYS_SWRESET_KEY.addr, F.IMG_FLOOR_RAISE_KEY.addr, F.IMG_KEY_REVOKE_KEY.addr, F.IMG_LIFECYCLE_REQ_KEY.addr, F.BST_FUSE_CMD_KEY.addr,
    F.JRN_REPLAY_CMD_KEY.addr, F.ADC_START_REG.addr, F.MBX_DB_PEND_FILLED.addr].contains a ||
  decide ((F.MBX_DATA_WORD 0).addr ≤ a ∧ a < (F.MBX_DATA_WORD 16).addr) ||
  decide ((F.LAW_EDIT_WORD_WORD 0).addr ≤ a ∧ a < (F.LAW_EDIT_WORD_WORD 8).addr) || (forceWord a).isSome

/-- Every register but those at the listed addresses reads as before. -/
def State.OnlyRegs (addrs : List Nat) (s t : State) : Prop := ∀ a, a ∉ addrs → t.reg a = s.reg a

/-- The tile store, the MRAM, the flash and the OTP array are as before. -/
def State.SameStores (s t : State) : Prop :=
  t.tiles = s.tiles ∧ t.mram = s.mram ∧ t.flash = s.flash ∧ t.otp = s.otp

/-- The modes in which every action of a raise is only recorded (the last column of R439, less SELF-TEST). -/
def Mode.recordsOnly : Mode → Bool
  | .dormant | .load | .join | .safeHold | .service | .replay => true
  | _ => false

/-- A raise of source n takes no action: its ACTION is NONE (R438), or the mode only records (R439). -/
abbrev State.Quiet (s : State) (n : Nat) : Prop := s.fltAction n = 0 ∨ s.mode.recordsOnly = true

/-- The sticky bit of a fault source (R437). -/
def State.sticky (s : State) (n : Nat) : Bool := bit (s.getF (F.FLT_STICKY_STICKY (n / 32))) (n % 32)

/-- The datagram at the front of the feed's buffers is a good message of TYPE `ty` in the open session with a SEQ not received
before (R143, R149). -/
abbrev State.FeedFront (s : State) (ty : Nat) (d : Dgram) (rest : List Dgram) (x : Session) : Prop :=
  s.sys.phase = .run ∧ s.feedq = d :: rest ∧ feedHeader d.data = (0, 0) ∧ (d.data.getD 3 0).toNat = ty ∧ s.map.session = some x ∧
  ofLe ((d.data.drop 10).take 2) = x.id ∧ ofLe ((d.data.drop 4).take 4) ∉ x.seqs

/-- A half whose effective degradation, as just measured, lies over what the hob clock step allows (R521). -/
abbrev State.Worn (s : State) (ro : List Nat) (h : Nat) : Prop :=
  stepAllows (s.getF (F.SYS_HALF_HOB_CLK_STEP 0)) < (s.roTake ro).effD h

/-- A life-cycle change in hand leads forward (R52, R63). -/
def State.LifecycleForward (s : State) : Prop := ∀ t, s.ash.lcTarget = some t → s.otp.lifecycle < t

/-- An OTP_KEY in hand names an unprogrammed slot (R538). -/
def State.KeyUnprogrammed (s : State) : Prop :=
  ∀ x, s.svc.nvm = some x → x.op ≠ 1 → x.op ≠ 2 → s.otp.keys.getD x.addr none = none

/-- A die that is off, or on hold-up energy, has no VSUP (R58). -/
def State.SupplySound (s : State) : Prop := s.sys.phase = .off ∨ s.sys.phase = .holdup → s.sys.vsup = false

end Sys2Proof.Machine
end

