-- ==== Sys2Proof/Certificates/Slice0/Obligations.lean ====
section
/-!
DEFINITION. The statements made about the device, each a Prop: results and frames of the commands by family, whole-device
rules, and invariants that every step keeps. `exec` answers `.next` with the state named; conditions are on the state and the
operands alone. `Quiet s n` says that a raise of source n takes no action (R438, R439), `asserted` that the collector already takes it
as asserted (R436).
-/
open Sys2Proof
open Sys2Proof.Machine

/-! The block -/

/-- A step takes the command at the front of the queue and runs it with the queue's rest; with an empty queue the device
idles (the model's choice, log entry 1). -/
def Obligations.StepRunsFrontCommand : Prop :=
  ∀ s : State, (∀ c rest, s.pending = c :: rest → step s = exec c { s with pending := rest }) ∧ (s.pending = [] → step s = .next s)

/-- What reset leaves (R10, R28, R31, R455): LOAD, the part number, one reset cause, POR, PWR_REQ high; and, by the model's choice,
empty memories and a free
queue (log entries 2 and 6). The invariants of StepKeepsMemories and StepGrowsOtp hold there. -/
def Obligations.ResetState : Prop :=
  State.reset.mode = .load ∧ State.reset.sys.phase = .held ∧ State.reset.reg 0x40000000 = 0x94303000 ∧
  State.reset.reg 0x40000018 = 1 ∧ (∀ a, a ≠ 0x40000018 → State.reset.reg a = regReset a) ∧ State.reset.sys.tick = 0 ∧
  State.reset.mram = [] ∧ State.reset.flash = [] ∧ State.reset.tiles = [] ∧ State.reset.pending = [] ∧
  State.reset.ember.pwrReq = true ∧ State.reset.MemOk ∧
  State.reset.LifecycleForward ∧ State.reset.KeyUnprogrammed ∧ State.reset.SupplySound

/-! Resets and supplies -/

/-- Every reset of a powered device (R10, R28, R31): the die is held in LOAD, exactly one bit of SYS_RESET_CAUSE is set, PREV_MODE keeps the
mode that was left, every other register is at its reset value; every Ember value stays, but that RTC_VALID is set again where VBAT was
applied; the MRAM stays, and the OTP and the flash where no flash or key operation runs. PIN_RESET, CORE_UNDER_VOLTAGE, SYS_SWRESET with
its key in SERVICE. Of two causes in one fabric cycle the lower bit
stands and nothing else changes. -/
def Obligations.ResetCommands : Prop :=
  (∀ (s : State) (c : Instr) (bit : Nat),
    (c = .pinReset false ∧ bit = 3 ∨ c = .coreUnderVoltage false ∧ bit = 2 ∨
      c = .pinReset true ∧ bit = 3 ∧ s.sys.phase = .run ∨ c = .coreUnderVoltage true ∧ bit = 2 ∧ s.sys.phase = .run ∨
      c = .sysSwreset 0x9A30 ∧ bit = 6 ∧ s.sys.phase = .run ∧ s.mode = .service) →
    (s.sys.phase = .run ∨ s.sys.phase = .held) →
    ∃ t, exec c s = .next t ∧ t.sys.phase = .held ∧ t.mode = .load ∧ t.reg 0x40000018 = BitVec.ofNat 32 (2 ^ bit) ∧
      t.getF F.SYS_MODE_PREV_MODE = s.mode.code ∧
      (∀ a, a ≠ 0x40000018 → a ≠ 0x4000000C → t.reg a = regReset a) ∧ t.tiles = [] ∧ t.mram = s.mram ∧
      (s.svc.nvm = none → t.flash = s.flash ∧ t.otp = s.otp) ∧
      t.ember = { s.ember with rtcValid := s.ember.rtcValid || s.ember.validAtReset, validAtReset := false }) ∧
  (∀ (s : State) (c : Instr) (bit : Nat), (c = .pinReset true ∧ bit = 3 ∨ c = .coreUnderVoltage true ∧ bit = 2) →
    s.sys.phase = .held →
    ∃ t, exec c s = .next t ∧
      t.reg 0x40000018 = (if 2 ^ bit < (s.reg 0x40000018).toNat then BitVec.ofNat 32 (2 ^ bit) else s.reg 0x40000018) ∧
      s.OnlyRegs [0x40000018] t ∧ { t with regs := s.regs } = s)

/-- VSUP_VALID (R58, R31): out of DORMANT the device is held in LOAD with cause POR, or RTC_WAKE where the alarm raised PWR_REQ, and PWR_REQ
is high.
The model's own choices behind it: log entry 51. -/
def Obligations.PowerUp : Prop :=
  ∀ (s : State) (elapsed : Nat), s.sys.vsup = false →
    ∃ t, exec (.vsupValid elapsed) s = .next t ∧ t.sys.phase = .held ∧ t.mode = .load ∧ t.sys.vsup = true ∧
      t.ember.pwrReq = true ∧ t.ember.waking = false ∧
      t.reg 0x40000018 = (if s.ember.waking = true then 2 else 1) ∧ t.mram = s.mram ∧
      (s.ember.waking = true → s.ember.vbat = true → 0 < s.ember.period →
        t.ember.alarm = some (((s.ember.rtc + elapsed) % 2 ^ 48 + s.ember.period * 32768) % 2 ^ 48))

/-- The Ember domain (R454, R465, R466): its commands change nothing but the Ember values they name.
The model's own choices behind it: log entry 51. -/
def Obligations.EmberCommands : Prop :=
  ∀ (s : State) (elapsed : Nat),
    (s.sys.phase = .run → s.flu.cycle % 8 = 0 → s.ember.vbat = true →
      exec (.snapshot elapsed) s = .next { s with ember := { s.ember with
        rtc := (s.ember.rtc + elapsed) % 2 ^ 48, snapFlue := s.flu.time, snapRtc := (s.ember.rtc + elapsed) % 2 ^ 48, snapSet := true,
        rcSince := !s.ember.xt32Ok } }) ∧
    (s.ember.alarm.isSome = true → s.ember.vbat = true → s.sys.phase = .off →
      exec (.rtcAlarm elapsed) s = .next { s with ember := { s.ember with
        rtc := (s.ember.rtc + elapsed) % 2 ^ 48, alarm := none, pwrReq := true, waking := true } }) ∧
    (s.ember.waking = true → s.sys.vsup = false → s.ember.vbat = true → 0 < s.ember.period →
      exec (.wakeTimeout elapsed) s = .next { s with ember := { s.ember with
        rtc := (s.ember.rtc + elapsed) % 2 ^ 48, waking := false, pwrReq := false,
        wakeFailCnt := min (2 ^ 32 - 1) (s.ember.wakeFailCnt + 1),
        alarm := some (((s.ember.rtc + elapsed) % 2 ^ 48 + s.ember.period * 32768) % 2 ^ 48) } }) ∧
    (∃ t, exec .vbatLoss s = .next t ∧ t.ember = { vbat := false, validAtReset := false } ∧ { t with ember := s.ember } = s) ∧
    (s.ember.vbat = false → ∃ t, exec .vbatApplied s = .next t ∧ t.ember.vbat = true ∧ t.ember.rtc = 0 ∧
      t.ember.rtcValid = false ∧ t.ember.validAtReset = true ∧ { t with ember := s.ember } = s)

/-- XT32_FAIL, XT32_RETURN, PLL_LOSS and XT25_FAIL (R454, R457): the monitor's flag, its counter and its source. Without the 25 MHz
crystal a PLL loss changes nothing, by the model's choice (log entry 1). -/
def Obligations.ClockMonitors : Prop :=
  ∀ s : State, s.sys.phase = .run →
    (∀ elapsed, s.ember.vbat = true → s.Quiet 0xC9 → s.asserted 0xC9 = false →
      ∃ t, exec (.xt32Fail elapsed) s = .next t ∧ t.ember.xt32Ok = false ∧ t.sticky 0xC9 = true ∧
        t.getF F.CLK_XT32_FAIL_CNT_COUNT = min (2 ^ 32 - 1) (s.getF F.CLK_XT32_FAIL_CNT_COUNT + 1) ∧ s.SameRegs (0x4002 :: raiseBlocks) t ∧
        s.SameStores t) ∧
    (∀ elapsed, s.ember.vbat = true →
      ∃ t, exec (.xt32Return elapsed) s = .next t ∧ t.ember.xt32Ok = true ∧ 0xC9 ∉ t.flt.level ∧
        s.SameRegs [0x4003] t ∧ s.SameStores t) ∧
    (s.flag F.CLK_STATUS_XT25_OK = true → s.Quiet 0xC6 → s.asserted 0xC6 = false → ∀ count,
      ∃ t, exec (.pllLoss 0 true count) s = .next t ∧ t.flag F.CLK_PLL_N_LOCK = false ∧ t.sticky 0xC6 = true ∧
        t.getF F.CLK_PLL_N_LOSS_CNT_COUNT = min (2 ^ 32 - 1) (s.getF F.CLK_PLL_N_LOSS_CNT_COUNT + 1) ∧ s.SameRegs (0x4002 :: raiseBlocks) t ∧
        s.SameStores t) ∧
    (s.flag F.CLK_STATUS_XT25_OK = true → s.Quiet 0xC7 → s.asserted 0xC7 = false → ∀ count,
      ∃ t, exec (.pllLoss 1 true count) s = .next t ∧ t.flag F.CLK_PLL_S_LOCK = false ∧ t.sticky 0xC7 = true ∧
        t.getF F.CLK_PLL_S_LOSS_CNT_COUNT = min (2 ^ 32 - 1) (s.getF F.CLK_PLL_S_LOSS_CNT_COUNT + 1) ∧ s.SameRegs (0x4002 :: raiseBlocks) t ∧
        s.SameStores t) ∧
    (s.flag F.CLK_STATUS_XT25_OK = false → ∀ half lock count, exec (.pllLoss half lock count) s = .next s) ∧
    (s.Quiet 0xC8 → s.asserted 0xC8 = false → ∀ count,
      ∃ t, exec (.xt25Fail count) s = .next t ∧ t.flag F.CLK_STATUS_XT25_OK = false ∧ t.sticky 0xC8 = true ∧
        t.getF F.CLK_XT25_FAIL_CNT_COUNT = min (2 ^ 32 - 1) (s.getF F.CLK_XT25_FAIL_CNT_COUNT + 1) ∧ s.SameRegs (0x4002 :: raiseBlocks) t ∧
        s.SameStores t)

/-- The supply monitors (R458): VSUP_UV, VSUP_OV, CORE_OV, VIO_FAULT, VGD_FAULT and VBAT_LOW raise their source and touch nothing outside the
power, Flue and raise blocks; below 2.7 V of VIO both bypasses close; SUPPLY_MONITOR_CLEAR ends the condition.
TEMP_CONVERSION (R458): the three temperatures show; one above LIMIT raises its source, TEMP_NORTH, TEMP_SOUTH or TEMP_POWER, where it
was not above before; one that lies below LIMIT by HYST ends its condition; between the two nothing changes. -/
def Obligations.SupplyMonitors : Prop :=
  (∀ s : State, s.sys.phase = .run →
     (∀ c src, (c, src) ∈ [(Instr.vsupUv, 0xCA), (.vsupOv, 0xCB), (.coreOv, 0xCC), (.vgdFault, 0xCE), (.vbatLow, 0xCF)] →
       s.Quiet src → s.asserted src = false →
       ∃ t, exec c s = .next t ∧ t.sticky src = true ∧ src ∈ t.flt.level ∧ t.mode = s.mode ∧
         s.SameRegs (0x4001 :: raiseBlocks) t ∧ s.SameStores t) ∧
     (∀ mv, mv < 3000 ∨ 3600 < mv → mv < 65536 → s.Quiet 0xCD → s.asserted 0xCD = false →
       ∃ t, exec (.vioFault mv) s = .next t ∧ t.sticky 0xCD = true ∧ t.getF F.PWR_SUPPLY_VIO = mv ∧
         (mv < 2700 → t.flag F.FLU_PORT_A_BYPASS = true ∧ t.flag F.FLU_PORT_B_BYPASS = true) ∧
         s.SameRegs (0x4001 :: 0x400D :: raiseBlocks) t ∧ s.SameStores t) ∧
     (∀ src, 0xCA ≤ src → src ≤ 0xCF →
       ∃ t, exec (.supplyMonitorClear src) s = .next t ∧ src ∉ t.flt.level ∧
         (src = 0xCE → t.flag F.GDR_STATUS_VGD_OK = true) ∧ s.SameRegs [0x4003, 0x400B] t ∧ s.SameStores t)) ∧
  (∀ (s : State) (n o p : Nat), s.sys.phase = .run → n < 256 → o < 256 → p < 256 →
     ((∀ v ∈ [n, o, p], v ≤ s.getF F.PWR_TEMP_CFG_LIMIT + 50) →
       ∃ t, exec (.tempConversion n o p) s = .next t ∧ t.getF F.PWR_TEMP_NORTH = n ∧ t.getF F.PWR_TEMP_SOUTH = o ∧
         t.getF F.PWR_TEMP_POWER = p ∧
         (∀ k, k < 3 → (0xD0 + k ∈ t.flt.level ↔ 0xD0 + k ∈ s.flt.level ∧
           s.getF F.PWR_TEMP_CFG_LIMIT + 50 < [n, o, p].getD k 0 + s.getF F.PWR_TEMP_CFG_HYST)) ∧
         s.SameRegs [0x4001, 0x4003, 0x400C] t ∧ s.SameStores t) ∧
     (∀ k, k < 3 → s.getF F.PWR_TEMP_CFG_LIMIT + 50 < [n, o, p].getD k 0 →
       (∀ j, j < 3 → j ≠ k → [n, o, p].getD j 0 ≤ s.getF F.PWR_TEMP_CFG_LIMIT + 50) →
       s.Quiet (0xD0 + k) → s.asserted (0xD0 + k) = false →
       ∃ t, exec (.tempConversion n o p) s = .next t ∧ t.sticky (0xD0 + k) = true ∧ 0xD0 + k ∈ t.flt.level ∧ t.mode = s.mode ∧
         t.getF F.PWR_TEMP_NORTH = n ∧ t.getF F.PWR_TEMP_SOUTH = o ∧ t.getF F.PWR_TEMP_POWER = p ∧
         t.getF F.PWR_TEMP_CNT_COUNT = min (2 ^ 32 - 1) (s.getF F.PWR_TEMP_CNT_COUNT + 1) ∧
         s.SameRegs (0x4001 :: 0x400C :: raiseBlocks) t ∧ s.SameStores t))

/-- Votes on a power domain (R461, R462): a vote shows in the domain's vote register; on a domain that is off it starts the restoration, on
one that is on it changes nothing else; the withdrawal of the last vote starts entry, unless a dependant is not low or another vote
comes in the same cycle, which are refused with the IDs of R462.
The steps of a domain (R461, R463): a restoration goes from one step to the next and ends on; one whose last vote has gone starts
entry at its end; an entry goes down and rests in its low state, and a
cluster's hobs forget what they ran; a handshake that times out is refused with 0x60 + d and the domain stays on; a timed-out
restoration step is aborted with
0x20 + step and the restoration starts again; after the repeat the domain is lost, and with one of 1 to 8 SAFE-HOLD follows.
The model's own choices behind it: log entry 14. -/
def Obligations.PowerDomains : Prop :=
  (∀ (s : State) (d c : Nat), s.sys.phase = .run → 1 ≤ d → d < 22 → 1 ≤ c → c < 8 →
     (s.domState d = 2 →
       ∃ t, exec (.voteSet d c) s = .next t ∧ t.votes d = s.votes d ||| 2 ^ c ∧ t.domState d = 2 ∧
         s.OnlyRegs [(F.PWR_DOM_VOTE_VOTES d).addr] t ∧ { t with regs := s.regs } = s) ∧
     (s.domState d = 0 → (s.dom d).lost = false → d < s.doms.length →
       ∃ t, exec (.voteSet d c) s = .next t ∧ t.domState d = 3 ∧ (t.dom d).entering = false ∧ (t.dom d).step = 0 ∧
         s.SameRegs [0x4001] t ∧ s.SameStores t) ∧
     (s.votes d = 2 ^ c → s.domState d = 2 → s.domBlocker d = none → d < s.doms.length →
       ∃ t, exec (.voteWithdraw d c none) s = .next t ∧ t.votes d = 0 ∧ t.domState d = 3 ∧ (t.dom d).entering = true ∧
         s.SameRegs [0x4001] t ∧ s.SameStores t) ∧
     (∀ e, s.votes d = 2 ^ c → s.domState d = 2 → s.domBlocker d = some e →
       ∃ t, exec (.voteWithdraw d c none) s = .next t ∧ t.votes d = 0 ∧ t.domState d = 2 ∧
         t.getF (F.PWR_DOM_REFUSE_LAST_ID d) = 0x40 + e ∧
         t.getF (F.PWR_DOM_REFUSE_COUNT d) = min 65535 (s.getF (F.PWR_DOM_REFUSE_COUNT d) + 1) ∧ s.SameRegs [0x4001] t ∧ s.SameStores t) ∧
     (∀ v, v < 8 → v ≠ c → s.votes d = 2 ^ c → s.domState d = 2 →
       ∃ t, exec (.voteWithdraw d c (some v)) s = .next t ∧ t.votes d = 2 ^ v ∧ t.domState d = 2 ∧
         t.getF (F.PWR_DOM_REFUSE_LAST_ID d) = v ∧ s.SameRegs [0x4001] t ∧ s.SameStores t)) ∧
  (∀ (s : State) (d : Nat), s.sys.phase = .run → 1 ≤ d → d < 22 → d < s.doms.length → s.domState d = 3 →
     ((s.dom d).entering = false → (s.dom d).step < 3 →
       ∃ t, exec (.domainStepReady d) s = .next t ∧ (t.dom d).step = (s.dom d).step + 1 ∧ t.domState d = 3 ∧
         t.tiles = (if (s.dom d).step = 2 ∧ (s.dom d).wasOff = true then (s.wipeBanks (domBanks d)).tiles else s.tiles) ∧
         s.SameRegs [0x4001] t ∧ t.mram = s.mram ∧ t.flash = s.flash ∧ t.otp = s.otp) ∧
     ((s.dom d).entering = false → (s.dom d).step = 3 → s.votes d ≠ 0 →
       ∃ t, exec (.domainStepReady d) s = .next t ∧ t.domState d = 2 ∧ bit (t.getF F.PWR_STATUS_DOM_ON) d = true ∧
         s.SameRegs [0x4001] t ∧ s.SameStores t) ∧
     ((s.dom d).entering = false → (s.dom d).step = 3 → s.votes d = 0 → s.domBlocker d = none →
       ∃ t, exec (.domainStepReady d) s = .next t ∧ t.domState d = 3 ∧ (t.dom d).entering = true ∧ (t.dom d).step = 3 ∧
         s.SameRegs [0x4001] t ∧ s.SameStores t) ∧
     ((s.dom d).entering = true → 0 < (s.dom d).step →
       exec (.domainStepReady d) s = .next (s.setDom d { s.dom d with step := (s.dom d).step - 1 })) ∧
     ((s.dom d).entering = true → (s.dom d).step = 0 → (∀ e ∈ domDeps.getD d [], s.votes e ≠ 0) →
       ∃ t, exec (.domainStepReady d) s = .next t ∧ t.domState d = s.domLow d ∧
         t.getF (F.PWR_DOM_ENTRY_CNT_COUNT d) = min (2 ^ 32 - 1) (s.getF (F.PWR_DOM_ENTRY_CNT_COUNT d) + 1) ∧
         (∀ c, d = 9 + c → c < 8 → ∀ n, n / 8 = c → s.getF (F.HOB_ENGINE_STATE n) < 3 → t.getF (F.HOB_ENGINE_STATE n) = 0) ∧
         s.SameRegs [0x4001, 0x4005, 0x400C] t ∧ s.SameStores t) ∧
     ((s.dom d).entering = true → (s.dom d).step = 3 →
       ∃ t, exec (.domainTimeout d) s = .next t ∧ t.domState d = 2 ∧ t.getF (F.PWR_DOM_REFUSE_LAST_ID d) = 0x60 + d ∧
         s.SameRegs [0x4001] t ∧ s.SameStores t) ∧
     ((s.dom d).entering = false → (s.dom d).retried = false → (s.dom d).step < 4 →
       ∃ t, exec (.domainTimeout d) s = .next t ∧ t.domState d = 3 ∧ (t.dom d).step = 0 ∧ (t.dom d).retried = true ∧
         t.getF (F.PWR_DOM_ABORT_LAST_ID d) = 0x20 + (s.dom d).step ∧ s.SameRegs [0x4001] t ∧ s.SameStores t) ∧
     ((s.dom d).entering = false → (s.dom d).retried = true → d ≤ 8 → s.mode.runs = true → s.fltAction 0xD3 = 0 →
       s.asserted 0xD3 = false →
       ∃ t, exec (.domainTimeout d) s = .next t ∧ t.mode = .safeHold ∧ t.sticky 0xD3 = true))

/-! The fault collector -/

/-- A raise (R437): the sticky bit sets, the latest raise is captured with its class, the class counter counts; a raise without an action
changes no mode and no register outside the blocks of the collector, the journal's freeze and the brake release. -/
def Obligations.FaultRaise : Prop :=
  ∀ (s : State) (n us : Nat) (lasting : Bool), s.sys.phase = .run → n < 256 → s.Quiet n → s.asserted n = false →
    ∃ t, exec (.faultRaise n lasting us) s = .next t ∧ t.sticky n = true ∧ t.getF F.FLT_LAST_SOURCE = n ∧
      t.getF F.FLT_LAST_CLASS = s.fltClass n ∧
      t.getF (classCounter (s.fltClass n)) = min (2 ^ 32 - 1) (s.getF (classCounter (s.fltClass n)) + 1) ∧ t.mode = s.mode ∧
      s.SameRegs raiseBlocks t ∧ s.SameStores t

/-- Fatal actions by mode (R439): SAFE_HOLD enters SAFE-HOLD at once from every lead mode, SHADOW and SELF-TEST; LIMP, STOPPING and DEGRADED
are taken at the next boundary; RESET resets with cause FATAL. -/
def Obligations.FaultActions : Prop :=
  ∀ (s : State) (n us : Nat) (lasting : Bool), s.sys.phase = .run → n < 256 → s.asserted n = false →
    s.getF F.FLT_REACT_ACTION ≤ s.fltAction n →
    (s.fltAction n = 6 → s.mode.isLead = true ∨ s.mode = .shadow ∨ s.mode = .selfTest →
      ∃ t, exec (.faultRaise n lasting us) s = .next t ∧ t.mode = .safeHold) ∧
    (s.fltAction n = 3 → s.mode = .lead → s.sys.next = [] →
      ∃ t, exec (.faultRaise n lasting us) s = .next t ∧ t.mode = .lead ∧ t.sys.next = [(.leadDegraded, 1, n)] ∧
        s.SameRegs raiseBlocks t ∧ s.SameStores t) ∧
    (s.fltAction n = 4 → s.mode = .lead ∨ s.mode = .leadDegraded → s.sys.next = [] →
      ∃ t, exec (.faultRaise n lasting us) s = .next t ∧ t.mode = s.mode ∧ t.sys.next = [(.limp, 1, n)] ∧
        s.SameRegs raiseBlocks t ∧ s.SameStores t) ∧
    (s.fltAction n = 5 → s.mode = .lead ∨ s.mode = .leadDegraded ∨ s.mode = .limp → s.sys.next = [] →
      ∃ t, exec (.faultRaise n lasting us) s = .next t ∧ t.mode = s.mode ∧ t.sys.next = [(.stopping, 1, n)] ∧
        s.SameRegs raiseBlocks t ∧ s.SameStores t) ∧
    (s.fltAction n = 7 → s.mode.isLead = true ∨ s.mode = .shadow →
      ∃ t, exec (.faultRaise n lasting us) s = .next t ∧ t.sys.phase = .held ∧ t.mode = .load ∧ t.reg 0x40000018 = 0x10)

/-- The collector's other commands (R243, R436, R443): a disagreeing pair is counted and raises WIRE_FAULT; CLEAR_WAIT's end counts a try and
clears ACTIVE; the try count returns to 0; the sources of a force stay forced until its pulse ends; outside SELF-TEST and SERVICE a
force is refused as a
locked write.
The model's own choices behind it: log entry 46. -/
def Obligations.FaultCollectorCommands : Prop :=
  ∀ (s : State) (n : Nat), s.sys.phase = .run → n < 256 →
    (n ∉ s.flt.wire → s.Quiet n → s.Quiet 0x1B → s.asserted 0x1B = false → n ≠ 0x1B →
      ∃ t, exec (.wireFault n true) s = .next t ∧ n ∈ t.flt.wire ∧ t.sticky 0x1B = true ∧
        t.getF F.FLT_WIRE_CNT_COUNT = min (2 ^ 32 - 1) (s.getF F.FLT_WIRE_CNT_COUNT + 1) ∧ t.mode = s.mode ∧
        s.SameRegs raiseBlocks t ∧ s.SameStores t) ∧
    (∃ t, exec (.wireFault n false) s = .next t ∧ n ∉ t.flt.wire ∧ s.SameRegs [0x4003] t ∧ s.SameStores t) ∧
    (n ∈ s.flt.waiting → s.linkHigh n = false → s.asserted n = false → s.getF (F.FLT_SRC_TRIES n) < 3 → n ∉ s.flt.unitHold →
      ∃ t, exec (.clearWaitExpiry n false) s = .next t ∧ n ∉ t.flt.waiting ∧ t.active n = false ∧
        t.getF (F.FLT_SRC_TRIES n) = s.getF (F.FLT_SRC_TRIES n) + 1 ∧
        t.getF F.FLT_CLEAR_CNT_COUNT = min (2 ^ 32 - 1) (s.getF F.FLT_CLEAR_CNT_COUNT + 1) ∧ t.mode = s.mode ∧
        s.SameRegs [0x4003, 0x400B] t ∧ s.SameStores t) ∧
    (s.flag (F.FLT_SRC_HELD n) = false → n ∉ s.flt.waiting →
      ∃ t, exec (.tryCountReset n) s = .next t ∧ t.getF (F.FLT_SRC_TRIES n) = 0 ∧ s.SameRegs [0x4003, 0x400B] t ∧ s.SameStores t) ∧
    (∀ w mask, w < 8 → s.mode = .selfTest ∨ s.mode = .service →
      ∃ t, exec (.fltForce w mask) s = .next t ∧ (∀ j, j < 32 → bit mask j = true → 32 * w + j ∈ t.flt.forced) ∧
        s.SameRegs [0x4003] t ∧ s.SameStores t) ∧
    (∀ w mask, w < 8 → s.mode ≠ .selfTest → s.mode ≠ .service →
      exec (.fltForce w mask) s = .next (s.lockedWrite (0x400300C0 + 4 * w))) ∧
    (n ∈ s.flt.forced → n ∉ s.flt.level → n ∉ s.flt.wire →
      ∃ t, exec (.forcePulseEnd n false) s = .next t ∧ n ∉ t.flt.forced ∧ t.active n = false ∧
        s.SameRegs [0x4003] t ∧ s.SameStores t)

/-! LOAD, self-test and ageing -/

/-- RESET_RELEASE (R53, R58, R551): with VSUP valid and VIO up LOAD ends in SELF-TEST or SAFE-HOLD; a device in RETIRED goes to
SAFE-HOLD. LBIST_COMPLETE (R504): two failing runs record the partition of the repeat and end SELF-TEST in SAFE-HOLD, else LBIST
passes and nothing else changes.
ANALOGUE_BIST (R507, R62): SELF-TEST ends in JOIN only in PROVISIONED or FIELD, in SERVICE only in BLANK or RETURNED, or in
SAFE-HOLD; a gate that does not follow, with XDIS_IN high and the axes still, brings SAFE-HOLD.
The model's own choices behind it: log entries 7, 14, 44. -/
def Obligations.SelfTestCommands : Prop :=
  ((∀ (s : State) (e : LoadEnv), s.sys.phase = .held → s.sys.vsup = true → s.sys.vioUnder = false →
     ∃ t, exec (.resetRelease e) s = .next t ∧
       (t.getF F.SYS_MODE_MODE = Mode.selfTest.code ∨ t.getF F.SYS_MODE_MODE = Mode.safeHold.code) ∧
       (s.otp.lifecycle = 4 → t.getF F.SYS_MODE_MODE = Mode.safeHold.code)) ∧
   (∀ (s : State) (part1 part2 : Nat), s.sys.phase = .run → s.mode = .selfTest → s.flag F.BST_LBIST_DONE = false →
     (part1 = 0 ∨ part2 = 0 →
       ∃ t, exec (.lbistComplete part1 part2) s = .next t ∧ t.flag F.BST_LBIST_DONE = true ∧ t.flag F.BST_STATUS_LBIST_PASS = true ∧
         t.flag F.BST_LBIST_RETRIED = decide (part1 ≠ 0) ∧ s.OnlyRegs [0x40150000, 0x40150010] t ∧ { t with regs := s.regs } = s) ∧
     (part1 ≠ 0 → part2 ≠ 0 → part2 < 256 →
       ∃ t, exec (.lbistComplete part1 part2) s = .next t ∧ t.flag F.BST_LBIST_DONE = true ∧ t.flag F.BST_LBIST_RETRIED = true ∧
         t.getF F.BST_LBIST_FAIL_PART = part2 ∧ t.getF F.SYS_MODE_MODE = Mode.safeHold.code))) ∧
  (∀ (s : State) (e : AbistEnv), s.sys.phase = .run → s.mode = .selfTest → s.flag F.BST_STATUS_LBIST_PASS = true →
     ∃ t, exec (.analogueBist e) s = .next t ∧
       (t.getF F.SYS_MODE_MODE = Mode.safeHold.code ∨
         (t.getF F.SYS_MODE_MODE = Mode.join.code ∧ (s.otp.lifecycle = 1 ∨ s.otp.lifecycle = 2)) ∨
         (t.getF F.SYS_MODE_MODE = Mode.service.code ∧ s.otp.lifecycle ≠ 1 ∧ s.otp.lifecycle ≠ 2)) ∧
       (∀ g, g < 18 → e.sense.getD g true = false → s.gdr.xdisIn = false → (∀ b, b < 3 → stillBridge e b = true) →
         t.getF F.SYS_MODE_MODE = Mode.safeHold.code))

/-- ROLLING_TEST_START and ROLLING_TEST_END (R510, R511): HOB_n is tested in its own sub-cycle of 16,000 cycles, at once or, while it executes,
after its instance; it takes no work meanwhile; a pass and a failure that the repeat does not confirm are counted and the hob returns; a
confirmed one is ROLLING_BIST.
The model's own choices behind it: log entry 45. -/
def Obligations.RollingTest : Prop :=
  ∀ s : State, s.sys.phase = .run →
    (∀ n, n < 64 → s.mode.runs = true → s.flag F.BST_CFG_ROLL_EN = true →
      s.flu.cycle % 16000 = (if n < 32 then 500 * n else 500 * (n - 32) + 250) → s.flag (F.SYS_HALF_ROLLING_BIST (n / 32)) = false →
      bit (s.getF (F.SYS_CLUSTER_HOB_IN_SERVICE (n / 8))) (n % 8) = true → n ∉ s.age.rollDue →
      (s.getF (F.HOB_ENGINE_STATE n) ≠ 1 →
        ∃ t, exec .rollingTestStart s = .next t ∧ t.getF (F.HOB_ENGINE_STATE n) = 2 ∧
          t.flag (F.SYS_HALF_ROLLING_BIST (n / 32)) = true ∧ t.getF (F.SYS_HALF_ROLLING_HOB (n / 32)) = n ∧
          bit (t.getF (F.SYS_CLUSTER_HOB_IN_SERVICE (n / 8))) (n % 8) = false ∧ s.SameRegs [0x4000, 0x4005] t ∧ s.SameStores t) ∧
      (s.getF (F.HOB_ENGINE_STATE n) = 1 →
        exec .rollingTestStart s = .next { s with age := { s.age with rollDue := s.age.rollDue ++ [n] } })) ∧
    (∀ h, h < 2 → s.flag (F.SYS_HALF_ROLLING_BIST h) = true →
      (∀ pass1 pass2, pass1 = true ∨ pass2 = true →
        ∃ t, exec (.rollingTestEnd h pass1 pass2) s = .next t ∧ t.flag (F.SYS_HALF_ROLLING_BIST h) = false ∧
          t.getF F.BST_ROLL_CNT_COUNT = min (2 ^ 32 - 1) (s.getF F.BST_ROLL_CNT_COUNT + 1) ∧
          t.getF F.BST_ROLL_LAST_HOB = s.getF (F.SYS_HALF_ROLLING_HOB h) ∧ t.getF F.BST_ROLL_LAST_RESULT = (if pass1 = true then 1 else 2) ∧
          t.getF F.BST_ROLL_TRANSIENT_CNT_COUNT =
            min (2 ^ 32 - 1) (s.getF F.BST_ROLL_TRANSIENT_CNT_COUNT + (if pass1 = true then 0 else 1)) ∧
          s.SameRegs [0x4000, 0x4005, 0x4014, 0x4015] t ∧ s.SameStores t) ∧
      (s.Quiet 0xD8 → s.asserted 0xD8 = false →
        (∀ m, m < 64 → m / 8 = s.getF (F.SYS_HALF_ROLLING_HOB h) / 8 → s.getF (F.HOB_ENGINE_STATE m) = 3 →
          m = s.getF (F.SYS_HALF_ROLLING_HOB h)) →
        ∃ t, exec (.rollingTestEnd h false false) s = .next t ∧ t.sticky 0xD8 = true ∧ t.getF F.BST_ROLL_LAST_RESULT = 3 ∧
          t.getF F.BST_ROLL_LASTING_CNT_COUNT = min (2 ^ 32 - 1) (s.getF F.BST_ROLL_LASTING_CNT_COUNT + 1) ∧
          s.SameRegs (0x4000 :: 0x4004 :: 0x4005 :: 0x4015 :: raiseBlocks) t))

/-- CLOCK_MARGIN_MEASURE and TRIM_SETTLE (R515, R521, R522): the oscillators are shown with their degradation; a half over what the
clock step allows gets one trim step of 10 mV, or at trim +6 both halves get the next clock step, each with EMERGENCY_DERATE; with no clock
step left the device is EXHAUSTED, and an exhausted device derates no further; nothing is measured while a trim step settles. A measurement
commanded while a trim step settles does nothing, by the model's choice (log entry 1).
The measurements of the board and the crystal (R515): SHUNT_DRIFT_MEASURE shows the largest change of a zero code as margin 4;
FET_MEASURE takes each low side's resistance where the sampled current lies between half and the whole of the amplifier's range, without an
over-range flag; it records the first resistance, and the latest rise as margin 5 once baselines exist; CRYSTAL_DRIFT_MEASURE shows the
deviation and a tenth of its magnitude as margin 6 while PPS runs.
The model's own choices behind it: log entry 44. -/
def Obligations.AgeingMeasurements : Prop :=
  (∀ (s : State) (ro : List Nat), s.sys.phase = .run → s.mode.runs = true → (∀ x ∈ ro, x < 65536) →
     (s.age.settling = true → exec (.clockMarginMeasure ro) s = .next s) ∧
     (s.age.settling = false → s.flag F.AGE_PLAN_EXHAUSTED = true ∨ ¬s.Worn ro 0 ∧ ¬s.Worn ro 1 →
       ∃ t, exec (.clockMarginMeasure ro) s = .next t ∧ s.SameRegs [0x4014] t ∧ { t with regs := s.regs } = s ∧
         t.getF F.AGE_DERATE_CNT_COUNT = s.getF F.AGE_DERATE_CNT_COUNT ∧
         (∀ r, r < 32 → t.getF (F.AGE_RO_MHZ r) = ro.getD r 0 ∧
           t.getF (F.AGE_RO_D r) = ofInt 16 (roD (s.otp.baseRo.getD r 0) (ro.getD r 0)))) ∧
     (s.age.settling = false → s.flag F.AGE_PLAN_EXHAUSTED = false →
       (∀ h, h < 2 → s.Worn ro h → ¬s.Worn ro (1 - h) → s.trim h < 6 → s.Quiet 0xDB → s.asserted 0xDB = false →
         ∃ t, exec (.clockMarginMeasure ro) s = .next t ∧ t.trim h = s.trim h + 1 ∧ t.trim (1 - h) = s.trim (1 - h) ∧
           t.getF (if h = 0 then F.PWR_CORE_CORE_N else F.PWR_CORE_CORE_S) = (800 + 10 * (s.trim h + 1)).toNat ∧
           t.getF (F.SYS_HALF_HOB_CLK_STEP 0) = s.getF (F.SYS_HALF_HOB_CLK_STEP 0) ∧ t.age.settling = true ∧
           t.sticky 0xDB = true ∧ t.getF F.AGE_DERATE_CNT_COUNT = min (2 ^ 32 - 1) (s.getF F.AGE_DERATE_CNT_COUNT + 1) ∧
           s.SameRegs (0x4000 :: 0x4001 :: 0x4014 :: raiseBlocks) t ∧ s.SameStores t) ∧
       (∀ h, h < 2 → s.Worn ro h → ¬s.Worn ro (1 - h) → 6 ≤ s.trim h → s.getF (F.SYS_HALF_HOB_CLK_STEP 0) < 2 →
         s.Quiet 0xDB → s.asserted 0xDB = false →
         ∃ t, exec (.clockMarginMeasure ro) s = .next t ∧ (∀ g, g < 2 → t.trim g = s.trim g ∧
             t.getF (F.SYS_HALF_HOB_CLK_STEP g) = s.getF (F.SYS_HALF_HOB_CLK_STEP 0) + 1) ∧
           t.getF F.CLK_HOB_STEP_N = s.getF (F.SYS_HALF_HOB_CLK_STEP 0) + 1 ∧
           t.getF F.CLK_HOB_STEP_S = s.getF (F.SYS_HALF_HOB_CLK_STEP 0) + 1 ∧ t.age.settling = false ∧
           t.sticky 0xDB = true ∧ t.getF F.AGE_DERATE_CNT_COUNT = min (2 ^ 32 - 1) (s.getF F.AGE_DERATE_CNT_COUNT + 1) ∧
           s.SameRegs (0x4000 :: 0x4002 :: 0x4014 :: raiseBlocks) t ∧ s.SameStores t) ∧
       (∀ h, h < 2 → s.Worn ro h → ¬s.Worn ro (1 - h) → 6 ≤ s.trim h → 2 ≤ s.getF (F.SYS_HALF_HOB_CLK_STEP 0) →
         ∃ t, exec (.clockMarginMeasure ro) s = .next t ∧ t.flag F.AGE_PLAN_EXHAUSTED = true ∧
           t.getF F.AGE_DERATE_CNT_COUNT = s.getF F.AGE_DERATE_CNT_COUNT ∧ s.SameRegs [0x4013, 0x4014] t ∧ s.SameStores t)) ∧
     (exec .trimSettle s = .next { s with age := { s.age with settling := false } })) ∧
  (∀ s : State, s.sys.phase = .run → s.Quiet 0xDA →
     (∀ b v, b < 3 → s.getF (F.MOT_STATUS_STATE b) = 0 → s.otp.baseBoard.isSome = true → v < 2 ^ 31 →
       (∀ k, k < 3 → ((s.getF (F.MOT_ZERO_CODE_CODE k) : Int) - s.boardBase (27 + k)).natAbs ≤ v) →
       (∃ k, k < 3 ∧ ((s.getF (F.MOT_ZERO_CODE_CODE k) : Int) - s.boardBase (27 + k)).natAbs = v) →
       ∃ t, exec .shuntDriftMeasure s = .next t ∧ t.reg (F.AGE_VALUE_VALUE 4).addr = BitVec.ofNat 32 v ∧
         s.SameRegs (0x4014 :: raiseBlocks) t ∧ s.SameStores t ∧
         (v ≤ s.getF (F.AGE_LIMIT_LIMIT 4) → 0 < s.getF (F.AGE_LIMIT_LIMIT 4) → t.getF (F.AGE_BUDGET_PERMILLE 4) =
           min 1000 (1000 * (s.getF (F.AGE_LIMIT_LIMIT 4) - v) / s.getF (F.AGE_LIMIT_LIMIT 4)))) ∧
     (∀ b x, outOfRange x.2 = true ∨ ((adcCode x.2 : Int) - 8192).natAbs < 4096 ∨ 8192 < ((adcCode x.2 : Int) - 8192).natAbs →
       s.rdsOn b x = none) ∧
     (∀ b fets, (∀ p, p < 3 → (fets.getD p none).bind (s.rdsOn b) = none) → exec (.fetMeasure b fets) s = .next s) ∧
     (∀ b x0 x1 x2 r0 r1 r2, b < 3 → s.getF (F.MOT_STATUS_STATE b) = 1 → s.ember.fetFirst.length = 9 → s.ember.vdsOn.length = 3 →
       s.rdsOn b x0 = some r0 → s.rdsOn b x1 = some r1 → s.rdsOn b x2 = some r2 →
       ((∀ p, p < 3 → s.otp.baseFet.getD (3 * b + p) 0 = 0) →
         ∃ t, exec (.fetMeasure b [some x0, some x1, some x2]) s = .next t ∧
           (∀ p, p < 3 → t.ember.fetFirst.getD (3 * b + p) 0 =
             if s.ember.fetFirst.getD (3 * b + p) 0 = 0 then [r0, r1, r2].getD p 0 else s.ember.fetFirst.getD (3 * b + p) 0) ∧
           { t with ember := s.ember } = s) ∧
       ((∀ p, p < 3 → s.otp.baseFet.getD (3 * b + p) 0 ≠ 0) →
         ∃ t, exec (.fetMeasure b [some x0, some x1, some x2]) s = .next t ∧
           t.ember.vdsOn.getD b 0 = max (fetRise (s.otp.baseFet.getD (3 * b) 0) r0)
             (max (fetRise (s.otp.baseFet.getD (3 * b + 1) 0) r1) (fetRise (s.otp.baseFet.getD (3 * b + 2) 0) r2)) ∧
           s.SameRegs (0x4014 :: raiseBlocks) t ∧ s.SameStores t)) ∧
     (s.ppsRuns = false → ∀ dev : Int, exec (.crystalDriftMeasure dev) s = .next s) ∧
     (s.ppsRuns = true → ∀ dev : Int, -2 ^ 31 ≤ dev → dev < 2 ^ 31 →
       ∃ t, exec (.crystalDriftMeasure dev) s = .next t ∧ t.reg F.CLK_DRIFT_DEV.addr = BitVec.ofInt 32 dev ∧
         t.reg (F.AGE_VALUE_VALUE 6).addr = BitVec.ofNat 32 (dev.natAbs / 10) ∧ t.ember.crystal = BitVec.ofNat 32 (dev.natAbs / 10) ∧
         s.SameRegs (0x4002 :: 0x4014 :: raiseBlocks) t ∧ s.SameStores t))

/-! The Ash record and the journal -/

/-- ASH_APPEND (R476, R478, R479): the record lies at the tail with its COMMIT, ASH_TAIL and ASH_SEQ follow it, and the MRAM is otherwise as
before but for the record's slot of the tail ring. A first writing that fails stays uncommitted and the record lies after it, counted as a
retry; a second that fails sets STOPPED and raises ASH_WRITE. A record that does not fit is dropped and counted with ASH_FULL; a LIFECYCLE
record that does not fit is neither, but its change is refused.
The model's own choices behind it: log entry 16. -/
def Obligations.AshAppend : Prop :=
  ∀ (s : State) (r : AshReq) (rest : List AshReq) (us : Nat), s.sys.phase = .run ∨ s.sys.phase = .holdup →
    s.ash.queue = r :: rest → 1 ≤ r.type → r.type ≤ 7 → s.otp.lifecycle ≠ 4 → s.flag F.ASH_STATUS_FOREIGN = false →
    s.flag F.ASH_STATUS_PRESENT = true → s.flag F.ASH_STATUS_STOPPED = false →
    (∀ ok2, s.ash.withhold = false → s.ashFits r = true → 0x1000 ≤ s.getF F.ASH_TAIL_ADDR →
      ∃ t, exec (.ashAppend true ok2 us) s = .next t ∧
        (∀ i, i < r.size → Mem.byte 0 t.mram (s.getF F.ASH_TAIL_ADDR + i) =
          (ashRecord r ((s.getF F.ASH_SEQ_SEQ + 1) % 2 ^ 32) (ashCommit ((s.getF F.ASH_SEQ_SEQ + 1) % 2 ^ 32))).getD i 0) ∧
        (∀ x, x < s.getF F.ASH_TAIL_ADDR ∨ s.getF F.ASH_TAIL_ADDR + r.size ≤ x →
          x < 0x100 + 16 * ((s.getF F.ASH_SEQ_SEQ + 1) % 2 ^ 32 % 240) ∨ 0x110 + 16 * ((s.getF F.ASH_SEQ_SEQ + 1) % 2 ^ 32 % 240) ≤ x →
          Mem.byte 0 t.mram x = Mem.byte 0 s.mram x) ∧
        t.getF F.ASH_TAIL_ADDR = s.getF F.ASH_TAIL_ADDR + r.size ∧ t.getF F.ASH_SEQ_SEQ = (s.getF F.ASH_SEQ_SEQ + 1) % 2 ^ 32 ∧
        t.getF F.ASH_RECORD_CNT_COUNT = min (2 ^ 32 - 1) (s.getF F.ASH_RECORD_CNT_COUNT + 1) ∧
        t.getF F.ASH_RETRY_CNT_COUNT = s.getF F.ASH_RETRY_CNT_COUNT ∧ (r.type ≠ 4 → t.ash.queue = rest) ∧
        s.SameRegs [0x4003, 0x4012, 0x4013] t ∧ t.flash = s.flash ∧ t.tiles = s.tiles ∧ t.otp = s.otp) ∧
    (∀ ok1, ok1 = false ∨ s.ash.withhold = true → 0x1000 ≤ s.getF F.ASH_TAIL_ADDR →
      s.getF F.ASH_TAIL_ADDR + 2 * r.size ≤ ashLimit (s.getF F.ASH_SIZE_BYTES) r.type →
      (∃ t, exec (.ashAppend ok1 true us) s = .next t ∧
        (∀ i, i < r.size → Mem.byte 0 t.mram (s.getF F.ASH_TAIL_ADDR + i) =
          (ashRecord r ((s.getF F.ASH_SEQ_SEQ + 1) % 2 ^ 32) 0).getD i 0 ∧
          Mem.byte 0 t.mram (s.getF F.ASH_TAIL_ADDR + r.size + i) =
          (ashRecord r ((s.getF F.ASH_SEQ_SEQ + 1) % 2 ^ 32) (ashCommit ((s.getF F.ASH_SEQ_SEQ + 1) % 2 ^ 32))).getD i 0) ∧
        (∀ x, x < s.getF F.ASH_TAIL_ADDR ∨ s.getF F.ASH_TAIL_ADDR + 2 * r.size ≤ x →
          x < 0x100 + 16 * ((s.getF F.ASH_SEQ_SEQ + 1) % 2 ^ 32 % 240) ∨ 0x110 + 16 * ((s.getF F.ASH_SEQ_SEQ + 1) % 2 ^ 32 % 240) ≤ x →
          Mem.byte 0 t.mram x = Mem.byte 0 s.mram x) ∧
        t.getF F.ASH_TAIL_ADDR = s.getF F.ASH_TAIL_ADDR + 2 * r.size ∧ t.getF F.ASH_SEQ_SEQ = (s.getF F.ASH_SEQ_SEQ + 1) % 2 ^ 32 ∧
        t.getF F.ASH_RETRY_CNT_COUNT = min (2 ^ 32 - 1) (s.getF F.ASH_RETRY_CNT_COUNT + 1) ∧ (r.type ≠ 4 → t.ash.queue = rest) ∧
        t.getF F.FLT_TRANSIENT_CNT_COUNT = s.getF F.FLT_TRANSIENT_CNT_COUNT ∧
        s.SameRegs [0x4003, 0x4012, 0x4013] t ∧ t.flash = s.flash ∧ t.tiles = s.tiles ∧ t.otp = s.otp) ∧
      (s.ash.failRaised = false → s.Quiet 0xD5 → s.asserted 0xD5 = false →
        ∃ t, exec (.ashAppend ok1 false us) s = .next t ∧ t.flag F.ASH_STATUS_STOPPED = true ∧ t.sticky 0xD5 = true ∧
          t.getF F.ASH_RETRY_CNT_COUNT = min (2 ^ 32 - 1) (s.getF F.ASH_RETRY_CNT_COUNT + 1) ∧ t.ash.queue = rest ∧
          t.getF F.ASH_SEQ_SEQ = s.getF F.ASH_SEQ_SEQ ∧ (r.type = 3 → t.flag F.IMG_STATUS_LC_REFUSED = true) ∧
          (∀ x, x < s.getF F.ASH_TAIL_ADDR ∨ s.getF F.ASH_TAIL_ADDR + 2 * r.size ≤ x → Mem.byte 0 t.mram x = Mem.byte 0 s.mram x) ∧
          s.SameRegs (0x4018 :: raiseBlocks) t ∧ t.flash = s.flash ∧ t.tiles = s.tiles ∧ t.otp = s.otp)) ∧
    (∀ ok1 ok2, s.ashFits r = false → r.type ≠ 3 → s.Quiet 0xD6 → s.asserted 0xD6 = false →
      ∃ t, exec (.ashAppend ok1 ok2 us) s = .next t ∧ s.SameStores t ∧ t.ash.queue = rest ∧ t.sticky 0xD6 = true ∧
        t.getF F.ASH_DROP_CNT_COUNT = min (2 ^ 32 - 1) (s.getF F.ASH_DROP_CNT_COUNT + 1) ∧
        t.getF F.ASH_TAIL_ADDR = s.getF F.ASH_TAIL_ADDR ∧
        s.SameRegs raiseBlocks t) ∧
    (∀ ok1 ok2, s.ashFits r = false → r.type = 3 →
      ∃ t, exec (.ashAppend ok1 ok2 us) s = .next t ∧ s.SameStores t ∧ t.ash.queue = rest ∧ t.ash.lcTarget = none ∧
        t.flag F.IMG_STATUS_LC_REFUSED = true ∧ s.OnlyRegs [F.IMG_STATUS_LC_REFUSED.addr] t)

/-- CHECKPOINT and JOURNAL_FREEZE (R486, R489): every 64th cycle one checkpoint enters the ring at its head; the freeze stops the recording and
asks for one WINDOW record.
The model's own choices behind it: log entry 17. -/
def Obligations.JournalCommands : Prop :=
  ∀ s : State, s.sys.phase = .run →
    (∀ sc, s.gr.s = some sc → s.flag F.JRN_STATUS_RECORDING = true → s.gr.boundary = true → s.flu.cycle % 64 = 0 →
      (∀ x ∈ s.jrn.items, x.ckpt = true → x.s ≠ sc) →
      ∃ t, exec .checkpoint s = .next t ∧
        t.jrn.items.getLast? = some ⟨true, sc, s.getF F.JRN_HEAD_OFFSET % ringSize, ckptBytes s.ckptSet.length⟩ ∧
        t.getF F.JRN_CKPT_CNT_COUNT = min (2 ^ 32 - 1) (s.getF F.JRN_CKPT_CNT_COUNT + 1) ∧
        s.SameRegs [0x4013] t ∧ t.mram = s.mram ∧ t.flash = s.flash ∧ t.otp = s.otp) ∧
    (s.jrn.post = some 0 → s.flag F.JRN_STATUS_FROZEN = false →
      ∃ t r, exec .journalFreeze s = .next t ∧ t.flag F.JRN_STATUS_FROZEN = true ∧ t.flag F.JRN_STATUS_RECORDING = false ∧
        t.flag F.JRN_STATUS_COMMIT_WAIT = true ∧ t.getF F.JRN_FREEZE_CNT_COUNT = min (2 ^ 32 - 1) (s.getF F.JRN_FREEZE_CNT_COUNT + 1) ∧
        t.ash.queue = s.ash.queue ++ [r] ∧ r.type = 4 ∧ r.tick = s.sys.tick ∧ s.SameRegs [0x4013] t ∧ s.SameStores t)

/-- Hold-up (R492, R493, R58): HOLDUP_CHECK shows E and E_REQ, HOLDUP_LOW where E falls short; VSUP_LOSS with VBAT takes the DORMANT edge on
hold-up energy; HOLDUP_RELEASE ends it.
The model's own choices behind it: log entry 19. -/
def Obligations.HoldUp : Prop :=
  (∀ (s : State) (mv : Nat), s.sys.phase = .run → mv < 65536 → 4500 ≤ mv → s.Quiet 0xD7 →
    ∃ t, exec (.holdupCheck mv) s = .next t ∧ t.getF F.ASH_HOLDUP_V_VNOW = mv ∧
      t.getF F.ASH_HOLDUP_E_UJ = min (2 ^ 32 - 1) (s.getF F.ASH_HOLDUP_C_UF * (mv * mv - 4500 * 4500) / 2000000) ∧
      t.flag F.ASH_STATUS_HOLDUP_OK = decide (s.holdupReq ≤ s.holdupEnergy mv) ∧
      (s.holdupEnergy mv < s.holdupReq → s.asserted 0xD7 = false → t.sticky 0xD7 = true ∧ 0xD7 ∈ t.flt.level) ∧
      (s.holdupReq ≤ s.holdupEnergy mv → 0xD7 ∉ t.flt.level) ∧ s.SameRegs raiseBlocks t ∧ s.SameStores t) ∧
  (∀ s : State, s.sys.vsup = true → s.ember.vbat = true → s.sys.phase = .run →
    ∃ t, exec .vsupLoss s = .next t ∧ t.sys.phase = .holdup ∧ t.sys.vsup = false ∧ t.mode = .dormant ∧
      t.ember.dormantCnt = min (2 ^ 32 - 1) (s.ember.dormantCnt + 1) ∧ t.flash = s.flash ∧ t.otp = s.otp) ∧
  (∀ s : State, s.sys.phase = .holdup →
    ∃ t, exec .holdupRelease s = .next t ∧ t.sys.phase = .off ∧ t.mode = .dormant ∧ t.ash.queue = [] ∧
      t.flag F.ASH_STATUS_PF_ACTIVE = false ∧ t.tiles = s.tiles ∧ t.flash = s.flash ∧ t.otp = s.otp)

/-! The Flue -/

/-- LISTEN_TIMEOUT and COLD_LIMIT_EXPIRY (R331, R329): a kindling node that has heard nothing begins lone kindling on its own time,
shifted by the PPS error latched while it listened; past COLD_LIMIT kindling stops and it listens again. COLD_LIMIT_EXPIRY arrives
as a command (log entry 1).
RATE_CORRECTION (R325, R327): every 16th cycle RATE moves by 25 times the sum of the corrections and is held at 50,000, whatever the
node's integration; a sum past that loses synchronisation; in another cycle nothing moves.
PPS_EDGE and PPS_LOST (R329): the error of the edge becomes the correction, and is latched while the node listens; a lost PPS clears
it and raises PPS_LOST. The other edge
of the pulse does nothing.
The model's own choices behind it: log entry 20. -/
def Obligations.FlueTime : Prop :=
  (∀ (s : State) (t : Nat), s.sys.phase = .run →
     (s.mode.sends = true → s.flag F.FLU_NODE_KINDLING = true → s.flu.integ = .listen → s.flu.rx = [] → s.img.flue.init < 8 →
       (s.flu.ppsE = none →
         ∃ u, exec (.listenTimeout t) s = .next u ∧ u.flu.integ = .kindleDue ∧ u.flu.time = t % 2 ^ 64 ∧
           u.flu.cycle = t % 2 ^ 64 / 125000 ∧ u.getF F.FLU_SCHED_ACTIVE = s.img.flue.init ∧ u.mode = s.mode ∧
           s.SameRegs [0x4007, 0x400D] u ∧ s.SameStores u) ∧
       (∀ e, s.flu.ppsE = some e → s.img.flue.ppsEn = true → s.flag F.FLU_NODE_SYNC = true →
         ∃ u, exec (.listenTimeout t) s = .next u ∧ u.flu.integ = .kindleDue ∧ u.flu.time = ((t : Int) - e).toNat % 2 ^ 64 ∧
           u.flu.ppsR = 0 ∧ u.flu.ppsE = none ∧ s.SameRegs [0x4007, 0x400D] u ∧
           s.SameStores u)) ∧
     (s.flu.integ = .kindleDue ∨ (∃ k p, s.flu.integ = .kindle k p) →
       exec .coldLimitExpiry s = .next { s with flu := { s.flu with integ := .listen, out := [] } })) ∧
  ((∀ s : State, s.sys.phase = .run → s.flu.cycle % 16 ≠ 0 → exec .rateCorrection s = .next s) ∧
   (∀ (s : State) (r : Int), s.sys.phase = .run → s.flu.cycle % 16 = 0 →
     r = (s.reg F.FLU_RATE_CORR_RATE.addr).toInt + 25 * s.flu.sumM →
     (-50000 ≤ r → r ≤ 50000 →
       ∃ t, exec .rateCorrection s = .next t ∧ t.reg F.FLU_RATE_CORR_RATE.addr = BitVec.ofInt 32 r ∧ t.flu = { s.flu with sumM := 0 } ∧
         s.OnlyRegs [F.FLU_RATE_CORR_RATE.addr] t ∧ s.SameStores t) ∧
     (r < -50000 ∨ 50000 < r → s.Quiet 0xA6 → s.asserted 0xA6 = false →
       ∃ t, exec .rateCorrection s = .next t ∧
         t.reg F.FLU_RATE_CORR_RATE.addr = BitVec.ofInt 32 (if r < 0 then -50000 else 50000) ∧ t.flu.sumM = 0 ∧ t.flu.integ = .listen ∧
         t.flag F.FLU_STATUS_IN_SYNC = false ∧ t.sticky 0xA6 = true ∧ t.flu.out = [] ∧
         s.SameRegs (0x400D :: raiseBlocks) t ∧ s.SameStores t))) ∧
  (∀ s : State, s.sys.phase = .run → s.img.flue.ppsEn = true → s.flag F.FLU_NODE_SYNC = true →
     (∀ t : Nat,
       ∃ u, exec (.ppsEdge t (!s.img.flue.falling)) s = .next u ∧ u.flu.ppsR = -ppsError t s.img.flue.ppsDelay ∧
         u.flu.ppsE = (if s.flu.integ = .listen then some (ppsError t s.img.flue.ppsDelay) else s.flu.ppsE) ∧
           u.flag F.CLK_PPS_LOST = false ∧ 0xD4 ∉ u.flt.level ∧
         u.reg F.CLK_PPS_LAST_E.addr = BitVec.ofInt 32 (ppsError t s.img.flue.ppsDelay) ∧
         u.getF F.CLK_PPS_EDGE_CNT_COUNT = min (2 ^ 32 - 1) (s.getF F.CLK_PPS_EDGE_CNT_COUNT + 1) ∧
         s.SameRegs [0x4000, 0x4002, 0x4003] u ∧ s.SameStores u) ∧
     (∀ t : Nat, exec (.ppsEdge t s.img.flue.falling) s = .next s) ∧
     (s.Quiet 0xD4 → s.asserted 0xD4 = false →
       ∃ u, exec .ppsLost s = .next u ∧ u.flu.ppsR = 0 ∧ u.flag F.CLK_PPS_LOST = true ∧ u.sticky 0xD4 = true ∧
         u.getF F.CLK_PPS_LOST_CNT_COUNT = min (2 ^ 32 - 1) (s.getF F.CLK_PPS_LOST_CNT_COUNT + 1) ∧
         s.SameRegs (0x4000 :: 0x4002 :: raiseBlocks) u ∧ s.SameStores u))

/-- Receivers, bypasses and the damper (R280, R294, R299, R300, R312): RECEIVER_LOCK, LOCK_LOSS, BYPASS_OPEN, BYPASS_CLOSE, DAMPER_DIVERGE.
The device forwards where on some ring the bypass is open and the receiver locked. -/
def Obligations.FluePorts : Prop :=
  ∀ (s : State) (ring : Nat), s.sys.phase = .run → ring < 2 →
    (∃ t, exec (.receiverLock ring) s = .next t ∧ t.flag (ringLock ring) = true ∧
      t.flag (ringOk ring) = decide (0 < s.getF (ringNodes ring)) ∧
      (s.flag (ringBypass ring) = false → t.flag F.FLU_STATUS_FORWARDING = true) ∧
      s.OnlyRegs [(ringLock ring).addr, (ringOk ring).addr, F.FLU_STATUS_FORWARDING.addr] t ∧
      { t with regs := s.regs } = s) ∧
    (∀ errs, s.Quiet (0xA2 + ring) → s.asserted (0xA2 + ring) = false →
      ∃ t, exec (.lockLoss ring errs) s = .next t ∧ t.flag (ringLock ring) = false ∧ t.flag (ringOk ring) = false ∧
        t.sticky (0xA2 + ring) = true ∧
        (s.flag (ringBypass (1 - ring)) = true ∨ s.flag (ringLock (1 - ring)) = false → t.flag F.FLU_STATUS_FORWARDING = false) ∧
        (s.mode = .load → t.flag (ringBypass ring) = true) ∧ s.SameRegs (0x400D :: raiseBlocks) t ∧ s.SameStores t) ∧
    (s.flag (ringLock ring) = true → s.domState 17 = 2 → s.sys.vioLow = false →
      ∃ t, exec (.bypassOpen ring) s = .next t ∧ t.flag (ringBypass ring) = false ∧ t.flag F.FLU_STATUS_FORWARDING = true ∧
        s.SameRegs [0x400D] t ∧ { t with regs := s.regs } = s) ∧
    (s.sys.vioLow = true ∨ s.mode = .load ∧ s.flag (ringLock ring) = false →
      ∃ t, exec (.bypassClose ring) s = .next t ∧ t.flag (ringBypass ring) = true ∧ s.SameRegs [0x400D] t ∧
        { t with regs := s.regs } = s) ∧
    (∀ ns, ns ≤ 125 →
      ∃ t, exec (.damperDiverge ns) s = .next t ∧ t.flag F.FLU_STATUS_DAMPER_OPEN_OK = true ∧ 0xA5 ∉ t.flt.level ∧
        s.SameRegs [0x4003, 0x400D] t ∧ s.SameStores t) ∧
    (∀ ns, 125 < ns → s.Quiet 0xA5 → s.asserted 0xA5 = false →
      ∃ t, exec (.damperDiverge ns) s = .next t ∧ t.flag F.FLU_STATUS_DAMPER_OPEN_OK = false ∧ t.sticky 0xA5 = true ∧
        s.SameRegs (0x400D :: raiseBlocks) t ∧ s.SameStores t)

/-- FLUE_FRAME_RECEIVE (R287, R290, R292): a frame in order whose start lies within PRECISION of its action point is accepted, and forwarded where
it is not stripped, unchanged but for its tail; a bad HCRC is counted on its ring; a frame received already is not delivered again; tail bytes that
disagree are counted in any frame.
The model's own choices behind it: log entries 22, 53. -/
def Obligations.FlueFrameReceive : Prop :=
  ∀ (s : State) (f : RawFrame), s.sys.phase = .run → f.ring < 2 → s.flag (ringEn f.ring) = true → s.flag (ringLock f.ring) = true →
    f.codeErrs = 0 → f.inserting = false → (Hdr.parse f.header).node ≠ s.nodeId → s.flag (ringBypass f.ring) = false →
    ((f.ring, (Hdr.parse f.header).slot, (Hdr.parse f.header).cycle) ∉ s.flu.seen →
      (hcrcOk f.header = true → f.eof = true → f.crc = crc32c (f.header ++ f.payload) → f.payload.length = (Hdr.parse f.header).len →
        f.hopsInv = 255 - f.hops % 256 → s.flu.integ = .synced → (Hdr.parse f.header).cycle = s.flu.cycle % 65536 →
        (Hdr.parse f.header).ptype ≠ 1 →
        -(s.getF F.FLU_CFG_PRECISION : Int) ≤ s.frameDev f (Hdr.parse f.header) f.hops →
        s.frameDev f (Hdr.parse f.header) f.hops ≤ s.getF F.FLU_CFG_PRECISION →
        ∃ t, exec (.flueFrameReceive f) s = .next t ∧ t.flu.rx = s.flu.rx ++ [⟨f.ring, Hdr.parse f.header, f.payload⟩] ∧
          t.getF (byRing f.ring F.FLU_RX_A_CNT_COUNT F.FLU_RX_B_CNT_COUNT) =
            min (2 ^ 32 - 1) (s.getF (byRing f.ring F.FLU_RX_A_CNT_COUNT F.FLU_RX_B_CNT_COUNT) + 1) ∧
          (-1000 ≤ s.frameDev f (Hdr.parse f.header) (s.hopsNom f.ring (Hdr.parse f.header).node) →
            s.frameDev f (Hdr.parse f.header) (s.hopsNom f.ring (Hdr.parse f.header).node) ≤ 1000 →
            t.flu.fwd = some (f.ring, (f.hops + 1) % 256) ∧
              t.flu.fwdFrame = f.header ++ f.payload ++ leBytes 4 f.crc ++ frameTail (f.hops + 1)) ∧
          s.SameRegs [0x400D] t ∧ s.SameStores t) ∧
      (hcrcOk f.header = false →
        ∃ t, exec (.flueFrameReceive f) s = .next t ∧ t.flu.rx = s.flu.rx ∧
          t.getF (byRing f.ring F.FLU_HCRC_A_CNT_COUNT F.FLU_HCRC_B_CNT_COUNT) =
            min (2 ^ 32 - 1) (s.getF (byRing f.ring F.FLU_HCRC_A_CNT_COUNT F.FLU_HCRC_B_CNT_COUNT) + 1) ∧
          s.SameRegs [0x400D] t ∧ s.SameStores t)) ∧
    ((f.ring, (Hdr.parse f.header).slot, (Hdr.parse f.header).cycle) ∈ s.flu.seen →
      ∃ t, exec (.flueFrameReceive f) s = .next t ∧ t.flu.rx = s.flu.rx ∧ t.flu.fwd = none ∧ t.flu.fwdFrame = [] ∧ t.flu.fwdAbort = false ∧
        (f.eof = true → f.hopsInv ≠ 255 - f.hops % 256 →
          t.getF F.FLU_TAIL_ERR_CNT_COUNT = min (2 ^ 32 - 1) (s.getF F.FLU_TAIL_ERR_CNT_COUNT + 1)) ∧
        (f.eof = false ∨ f.hopsInv = 255 - f.hops % 256 → t.regs = s.regs) ∧ s.SameRegs [0x400D] t ∧ s.SameStores t)

/-- FRAME_TRANSMIT (R285, R288, R291, R293, R294): a frame that starts within 125 ns of its action point with the damper open leaves as header,
payload, CRC and the tail of HOPS 0 and its complement; one that would pass the end of its window is cut short and counted; otherwise the
damper blocks it. A forwarded frame that passes then ends with ABORT.
The model's own choices behind it: log entries 5, 53. -/
def Obligations.FrameTransmit : Prop :=
  ∀ (s : State) (h : Hdr) (p : List Byte) (dev fin : Int) (passing : Bool), s.sys.phase = .run → s.flu.withhold = false →
    s.flu.out.find? (fun x => decide (x.1.slot = h.slot)) = some (h, p) →
    (-125 ≤ dev → dev ≤ 125 → s.flag F.FLU_STATUS_DAMPER_OPEN_OK = true → s.flag F.FLU_DAMPER_CLOSED = false →
      (h.slot < 48 → fin ≤ 8 * (20 + ((s.slots.getD h.slot {}).len : Int)) + 125) →
      (48 ≤ h.slot → fin ≤ 250 * (s.getF F.FLU_DYN_GRANT_LEN : Int) - 375) →
      ∃ t, exec (.frameTransmit h.slot dev fin passing) s = .next t ∧
        t.flu.wire = h.bytes ++ p ++ leBytes 4 (crc32c (h.bytes ++ p)) ++ [0, 255] ∧
        t.flu.sent = s.flu.sent ++ [(h, s.txRings)] ∧ (∀ x ∈ t.flu.out, x.1.slot ≠ h.slot) ∧
        (passing = true → t.flu.fwdAbort = true ∧ t.flu.fwdFrame <+: s.flu.fwdFrame ∧
          t.getF F.FLU_FWD_ABORT_CNT_COUNT = min (2 ^ 32 - 1) (s.getF F.FLU_FWD_ABORT_CNT_COUNT + 1)) ∧
        (passing = false → t.flu.fwd = s.flu.fwd ∧ t.flu.fwdFrame = s.flu.fwdFrame ∧ t.flu.fwdAbort = s.flu.fwdAbort) ∧
          s.SameRegs [0x400D, 0x4010] t ∧
        s.SameStores t) ∧
    (-125 ≤ dev → dev ≤ 125 → s.flag F.FLU_STATUS_DAMPER_OPEN_OK = true → s.flag F.FLU_DAMPER_CLOSED = false → h.slot < 48 →
      8 * (20 + ((s.slots.getD h.slot {}).len : Int)) + 125 < fin → s.Quiet 0xA4 → s.asserted 0xA4 = false →
      ∃ t, exec (.frameTransmit h.slot dev fin passing) s = .next t ∧ t.flu.sent = s.flu.sent ∧ t.flu.wire = s.flu.wire ∧
        t.sticky 0xA4 = true ∧ t.getF F.FLU_TRUNC_CNT_COUNT = min (2 ^ 32 - 1) (s.getF F.FLU_TRUNC_CNT_COUNT + 1) ∧
        s.SameRegs (0x400D :: raiseBlocks) t ∧ s.SameStores t) ∧
    (dev < -125 ∨ 125 < dev ∨ s.flag F.FLU_STATUS_DAMPER_OPEN_OK = false ∨ s.flag F.FLU_DAMPER_CLOSED = true →
      s.Quiet 0xA4 → s.asserted 0xA4 = false →
      ∃ t, exec (.frameTransmit h.slot dev fin passing) s = .next t ∧ t.flu.sent = s.flu.sent ∧ t.flu.wire = s.flu.wire ∧
        t.sticky 0xA4 = true ∧ t.getF F.FLU_BLOCK_CNT_COUNT = min (2 ^ 32 - 1) (s.getF F.FLU_BLOCK_CNT_COUNT + 1) ∧
        s.SameRegs (0x400D :: 0x4010 :: raiseBlocks) t ∧ s.SameStores t)

/-- TICK (R33, R77): SYS_TICK counts, and the tick of the cycle advances with the time it starts at; a fifth tick before the boundary only
counts. The second clause is for the modes LOAD, JOIN, SAFE-HOLD and SERVICE with no graph running.
CYCLE_BOUNDARY (R59, R281, R366): the cycle count advances; with no mode asked for the mode stays, and out of JOIN the role elected is
taken.
The model's own choices behind it: log entries 20, 49. -/
def Obligations.TicksAndCycles : Prop :=
  (∀ (s : State) (measured shown : List (Nat × Word)), s.sys.phase = .run →
     (s.gr.boundary = false → 3 ≤ s.gr.j →
       ∃ t, exec (.tick measured shown) s = .next t ∧ t.sys.tick = (s.sys.tick + 1) % 2 ^ 64 ∧ t.gr = s.gr ∧ t.flu = s.flu ∧
         s.SameStores t) ∧
     (s.mode = .load ∨ s.mode = .join ∨ s.mode = .safeHold ∨ s.mode = .service → s.gr.s = none → s.gr.boundary = true ∨ s.gr.j < 3 →
       ∃ t, exec (.tick measured shown) s = .next t ∧ t.sys.tick = (s.sys.tick + 1) % 2 ^ 64 ∧ t.mode = s.mode ∧
         t.gr.j = (if s.gr.boundary = true then 0 else s.gr.j + 1) ∧ t.gr.boundary = false ∧
         t.flu.time = (s.flu.cycle * 125000 + 31250 * (if s.gr.boundary = true then 0 else s.gr.j + 1)) % 2 ^ 64)) ∧
  (∀ s : State, s.sys.phase = .run → s.gr.s = none → (s.flu.cycle + 1) * 125000 < 2 ^ 64 →
     (s.mode = .load ∨ s.mode = .join ∨ s.mode = .safeHold ∨ s.mode = .service → s.sys.next = [] →
       ∃ t, exec .cycleBoundary s = .next t ∧ t.flu.cycle = s.flu.cycle + 1 ∧ t.gr.boundary = true ∧ t.gr.j = 0 ∧
         t.gr.s = none ∧ t.mode = s.mode ∧ t.flu.votesPrev = s.flu.votes) ∧
     (∀ m cause src, m = .lead ∨ m = .shadow → s.mode = .join → s.sys.next = [(m, cause, src)] →
       s.flag F.LDS_STATUS_ISOLATED = false →
       ∃ t, exec .cycleBoundary s = .next t ∧ t.flu.cycle = s.flu.cycle + 1 ∧ t.mode = m ∧
         t.getF F.SYS_MODE_PREV_MODE = Mode.join.code ∧
         t.gr.s = some (if m = .lead then s.flu.cycle + 1 else s.flu.cycle - 1)))

/-! Lead and shadow -/

/-- ELECTION (R366): after SETTLE cycles in JOIN a lone channel leads, one that hears a lead or a lower ID is shadow, else it leads; the role is
asked for and taken at the boundary.
The expiries of the mode edges and of the lead's timers (R58, R376, R386, R388).
The model's own choices behind it: log entry 26. -/
def Obligations.ElectionAndExpiries : Prop :=
  (∀ s : State, s.sys.phase = .run → s.mode = .join → s.flu.integ = .synced → s.sys.next = [] →
     (s.topology ≤ 1 → exec .election s = .next { s with sys := { s.sys with next := [(.lead, 0, 0)] } }) ∧
     (2 ≤ s.topology → (∃ f ∈ s.heardNow, f.role = 2 ∨ f.role < 2 ∧ f.id < s.ownId) →
       exec .election s = .next { s with sys := { s.sys with next := [(.shadow, 0, 0)] } }) ∧
     (2 ≤ s.topology → (∀ f ∈ s.heardNow, f.role ≠ 2 ∧ (f.role < 2 → s.ownId ≤ f.id)) →
       exec .election s = .next { s with sys := { s.sys with next := [(.lead, 0, 0)] } })) ∧
  (∀ s : State, s.sys.phase = .run →
     (s.mode = .join → ∃ t, exec .joinTimeout s = .next t ∧ t.mode = .safeHold ∧ t.getF F.SYS_MODE_PREV_MODE = Mode.join.code) ∧
     (s.mode = .stopping → s.flag F.SAF_STATUS_STANDSTILL = true →
       s.getF (F.GDR_SOL_STAT_STATE (s.getF F.LDS_CFG_RELEASE_CH)) ≠ 1 →
       ∃ t, exec .standstillHoldExpiry s = .next t ∧ t.mode = .safeHold) ∧
     (s.mode.isLead = true → s.flag F.LDS_STATUS_HO_PENDING = true → s.gdr.hoRelease = false →
       s.lds.hoCycle + s.getF F.LDS_CFG_HO_TIMEOUT ≤ s.flu.cycle →
       ∃ t, exec .handoverTimeout s = .next t ∧ t.flag F.LDS_STATUS_HO_PENDING = false ∧ t.lds.hoTarget = 0 ∧ t.mode = s.mode ∧
         t.getF F.LDS_HO_FAIL_CNT_COUNT = min (2 ^ 32 - 1) (s.getF F.LDS_HO_FAIL_CNT_COUNT + 1) ∧ s.SameStores t) ∧
     (s.mode = .limp → s.flag F.LDS_STATUS_ISOLATED = true → s.sys.next = [] →
       exec .isolateLimpExpiry s = .next { s with sys := { s.sys with next := [(.stopping, 0, 0)] } }) ∧
     (s.flag F.LDS_STATUS_REDUNDANCY_LOST = true →
       ∃ t, exec .graceExpiry s = .next t ∧ t.flag F.LDS_STATUS_GRACE_OVER = true ∧ s.OnlyRegs [F.LDS_STATUS_GRACE_OVER.addr] t ∧
         { t with regs := s.regs } = s))

/-- STATIC_SEGMENT_END (R375, R388, R401): in JOIN the silence of all channels is counted and shows as isolation; a ready shadow that
hears other nodes but not its lead asks for LEAD.
The model's own choices behind it: log entry 26. -/
def Obligations.StaticSegmentEnd : Prop :=
  ∀ s : State, s.sys.phase = .run →
    (s.mode = .join → 0 < s.getF F.LDS_TIMING_LOSS_N →
      ∃ t, exec .staticSegmentEnd s = .next t ∧ t.mode = .join ∧ t.lds.votes = 0 ∧
        t.lds.quiet = (if s.lds.anyFrame = true then 0 else min 255 (s.lds.quiet + 1)) ∧
        (s.lds.anyFrame = true → t.flag F.LDS_STATUS_ISOLATED = false) ∧
        (s.lds.anyFrame = false → s.getF F.LDS_TIMING_LOSS_N ≤ min 255 (s.lds.quiet + 1) → t.flag F.LDS_STATUS_ISOLATED = true)) ∧
    (∀ d, s.mode = .shadow → s.topology ≠ 3 → s.lds.undecided = false → s.lds.rx = [] → s.lds.leadHeard = some d →
      d < s.flu.cycle → s.lds.anyFrame = true → s.lds.engage = false → s.lds.ownReady = true → s.ownId ≠ 0 → s.sys.next = [] →
      0 < s.getF F.LDS_TIMING_LOSS_N → (∀ r, r < 6 → s.flag (F.SAF_RX_CFG_EN r) = false) →
      ∃ t, exec .staticSegmentEnd s = .next t ∧ t.sys.next = [(.lead, 0, 0)] ∧ t.lds.engage = true ∧ t.lds.hoCause = 2 ∧
        t.mode = .shadow)

/-! The power die -/

/-- DESAT, OVERCURRENT and GATE_STUCK (R231, R237, R238, R241): the source is raised and OFF is imposed on the bridge, whose applied state
becomes OFF.
SHOOT_THROUGH_ATTEMPT, BOOT_REFRESH and BOOT_UV (R232, R234, R235): the later command is withheld; a refresh pulse falls due; a high
side under its
threshold stays off, and the second time the bridge is switched OFF. -/
def Obligations.GateProtection : Prop :=
  (∀ (s : State) (c : Instr) (g n cause : Nat), s.sys.phase = .run → g < 18 →
     (c = .desat g ∧ n = 0x4F + 6 * (g / 6) ∧ cause = 3 ∧ s.getF (F.MOT_STATUS_STATE (g / 6)) ≠ 0 ∨
       c = .overcurrent (g / 6) ∧ n = 0x50 + 6 * (g / 6) ∧ cause = 4 ∨ c = .gateStuck g ∧ n = 0x51 + 6 * (g / 6) ∧ cause = 5) →
     s.Quiet n → s.asserted n = false →
     ∃ t, exec c s = .next t ∧ t.sticky n = true ∧ ⟨g / 6, cause, false, n⟩ ∈ t.gdr.imps ∧
       t.getF (F.MOT_STATUS_STATE (g / 6)) = 0 ∧ t.getF (F.GDR_BRIDGE_STAT_IMPOSED (g / 6)) = 1 ∧ t.mode = s.mode ∧
       s.SameRegs raiseBlocks t ∧ s.SameStores t) ∧
  (∀ (s : State) (g : Nat), s.sys.phase = .run → g < 18 →
     (∀ both, s.Quiet (0x52 + 6 * (g / 6)) → s.asserted (0x52 + 6 * (g / 6)) = false →
       ∃ t, exec (.shootThroughAttempt g both) s = .next t ∧ g ∈ t.gdr.shootHeld ∧ (both = true → otherSide g ∈ t.gdr.shootHeld) ∧
         t.flag (F.GDR_GATE_CMD g) = false ∧ t.sticky (0x52 + 6 * (g / 6)) = true ∧
         t.getF F.GDR_SHOOT_CNT_COUNT = min (2 ^ 32 - 1) (s.getF F.GDR_SHOOT_CNT_COUNT + 1) ∧
         s.SameRegs raiseBlocks t ∧ s.SameStores t) ∧
     (g % 2 = 1 → s.flag (F.GDR_GATE_REFRESH g) = false → s.Quiet (0x53 + 6 * (g / 6)) → s.asserted (0x53 + 6 * (g / 6)) = false →
       ∃ t, exec (.bootRefresh g) s = .next t ∧ t.flag (F.GDR_GATE_REFRESH g) = true ∧
         t.getF (F.GDR_GATE_VBS g) = s.getF F.GDR_CFG_BOOT_REFRESH ∧ t.sticky (0x53 + 6 * (g / 6)) = true ∧
         s.SameRegs raiseBlocks t ∧ s.SameStores t) ∧
     (g % 2 = 1 → s.Quiet (0x54 + 6 * (g / 6)) → s.asserted (0x54 + 6 * (g / 6)) = false → (g, 0) ∉ s.gdr.bootTry →
       ((g, 1) ∉ s.gdr.bootTry →
         ∃ t, exec (.bootUv g) s = .next t ∧ t.flag (F.GDR_GATE_UV g) = true ∧ t.flag (F.GDR_GATE_CMD g) = false ∧
           t.gdr.bootTry = s.gdr.bootTry ++ [(g, 0)] ∧ t.sticky (0x54 + 6 * (g / 6)) = true ∧
           s.SameRegs raiseBlocks t ∧ s.SameStores t) ∧
       ((g, 1) ∈ s.gdr.bootTry →
         ∃ t, exec (.bootUv g) s = .next t ∧ ⟨g / 6, 6, false, 0x54 + 6 * (g / 6)⟩ ∈ t.gdr.imps ∧
           t.getF (F.MOT_STATUS_STATE (g / 6)) = 0 ∧ t.sticky (0x54 + 6 * (g / 6)) = true ∧
           t.getF F.FLT_LASTING_CNT_COUNT = min (2 ^ 32 - 1) (s.getF F.FLT_LASTING_CNT_COUNT + 1) ∧
           s.SameRegs raiseBlocks t ∧ s.SameStores t)))

/-- The links (R239, R240): the chopper switches at its thresholds; CHOPPER_FAIL is held; at the reaction threshold link 0 imposes OFF on ST and
link 1 ASC on BK and AX; above OV_TRIP all three bridges go OFF. -/
def Obligations.LinkCommands : Prop :=
  ∀ (s : State) (l u : Nat), s.sys.phase = .run → l < 2 →
    (s.getF (F.GDR_LINK_CFG_CH_ON l) < u →
      ∃ t, exec (.chopperSwitch l u) s = .next t ∧ t.flag (F.GDR_LINK_STAT_CH_ON l) = true ∧
        s.OnlyRegs [(F.GDR_LINK_STAT_CH_ON l).addr] t ∧ s.SameStores t) ∧
    (u ≤ s.getF (F.GDR_LINK_CFG_CH_ON l) → u < s.getF (F.GDR_LINK_CFG_CH_OFF l) →
      ∃ t, exec (.chopperSwitch l u) s = .next t ∧ t.flag (F.GDR_LINK_STAT_CH_ON l) = false ∧
        s.OnlyRegs [(F.GDR_LINK_STAT_CH_ON l).addr] t ∧ s.SameStores t) ∧
    (s.Quiet (0x61 + 3 * l) → s.asserted (0x61 + 3 * l) = false →
      ∃ t, exec (.chopperFail l) s = .next t ∧ t.flag (F.GDR_LINK_STAT_CH_FAIL l) = true ∧ t.sticky (0x61 + 3 * l) = true ∧
        s.SameRegs raiseBlocks t ∧ s.SameStores t) ∧
    (s.linkThreshold l ≤ u → s.Quiet (0x62 + 3 * l) → s.asserted (0x62 + 3 * l) = false →
      ∃ t, exec (.linkOv l u) s = .next t ∧ t.flag (F.GDR_LINK_STAT_REACT l) = true ∧ t.sticky (0x62 + 3 * l) = true ∧
        (l = 0 → ⟨0, 7, false, 0x62⟩ ∈ t.gdr.imps ∧ t.getF (F.MOT_STATUS_STATE 0) = 0) ∧
        (l = 1 → ⟨1, 7, true, 0x65⟩ ∈ t.gdr.imps ∧ ⟨2, 7, true, 0x65⟩ ∈ t.gdr.imps) ∧
        s.SameRegs raiseBlocks t ∧ s.SameStores t) ∧
    (s.getF (F.GDR_LINK_CFG_OV_TRIP l) < u → s.Quiet (0x63 + 3 * l) → s.asserted (0x63 + 3 * l) = false →
      ∃ t, exec (.linkTrip l u) s = .next t ∧ t.flag (F.GDR_LINK_STAT_TRIP l) = true ∧ t.sticky (0x63 + 3 * l) = true ∧
        (∀ b, b < 3 → ⟨b, 2, false, 0x63 + 3 * l⟩ ∈ t.gdr.imps ∧ t.getF (F.MOT_STATUS_STATE b) = 0) ∧
        s.SameRegs raiseBlocks t ∧ s.SameStores t)

/-- Solenoids, enables and sensor supplies (R246, R247, R248): a short shuts its channel down; an open load or a deviation is reported only, and so
is a readback that differs; an overloaded supply goes off.
Supply test pulses (R249): the lowest waiting supply is pulled down where no pulse runs, and released again. -/
def Obligations.OutputDiagnostics : Prop :=
  (∀ s : State, s.sys.phase = .run →
     (∀ k, k < 12 → s.flag (F.GDR_SOL_CFG_DIAG k) = true →
       (s.Quiet (0x67 + 3 * k) → s.asserted (0x67 + 3 * k) = false →
         ∃ t, exec (.solShort k) s = .next t ∧ t.flag (F.GDR_SOL_STAT_SHORT k) = true ∧ t.getF (F.GDR_SOL_STAT_STATE k) = 2 ∧
           t.sticky (0x67 + 3 * k) = true ∧ s.SameRegs raiseBlocks t ∧ s.SameStores t) ∧
       (s.Quiet (0x68 + 3 * k) → s.asserted (0x68 + 3 * k) = false →
         ∃ t, exec (.solOpen k true) s = .next t ∧ t.flag (F.GDR_SOL_STAT_OPEN k) = true ∧ t.sticky (0x68 + 3 * k) = true ∧
           t.gdr.imps = s.gdr.imps ∧ s.SameRegs raiseBlocks t ∧ s.SameStores t) ∧
       (∃ t, exec (.solOpen k false) s = .next t ∧ t.flag (F.GDR_SOL_STAT_OPEN k) = false ∧ 0x68 + 3 * k ∉ t.flt.level ∧
         s.SameRegs [0x4003, 0x400B] t ∧ s.SameStores t) ∧
       (s.Quiet (0x69 + 3 * k) → s.asserted (0x69 + 3 * k) = false →
         ∃ t, exec (.solDeviation k true) s = .next t ∧ t.flag (F.GDR_SOL_STAT_DEV k) = true ∧ t.sticky (0x69 + 3 * k) = true ∧
           t.gdr.imps = s.gdr.imps ∧ s.SameRegs raiseBlocks t ∧ s.SameStores t) ∧
       (∃ t, exec (.solDeviation k false) s = .next t ∧ t.flag (F.GDR_SOL_STAT_DEV k) = false ∧ 0x69 + 3 * k ∉ t.flt.level ∧
         s.SameRegs [0x4003, 0x400B] t ∧ s.SameStores t)) ∧
     (∀ e rb, e < 4 →
       (xor (xor rb (s.flag (F.GDR_EN_CFG_RB_INVERT e))) (s.flag (F.GDR_EN_STAT_OUT e)) = true → s.Quiet (0x8B + e) →
         s.asserted (0x8B + e) = false →
         ∃ t, exec (.enReadback e rb) s = .next t ∧ t.flag (F.GDR_EN_STAT_MISMATCH e) = true ∧ t.sticky (0x8B + e) = true ∧
           t.flag (F.GDR_EN_STAT_RB e) = rb ∧ t.flag (F.GDR_EN_STAT_OUT e) = s.flag (F.GDR_EN_STAT_OUT e) ∧ t.gdr.imps = s.gdr.imps ∧
           s.SameRegs raiseBlocks t ∧ s.SameStores t) ∧
       (xor (xor rb (s.flag (F.GDR_EN_CFG_RB_INVERT e))) (s.flag (F.GDR_EN_STAT_OUT e)) = false →
         ∃ t, exec (.enReadback e rb) s = .next t ∧ t.flag (F.GDR_EN_STAT_MISMATCH e) = false ∧ 0x8B + e ∉ t.flt.level ∧
           t.flag (F.GDR_EN_STAT_RB e) = rb ∧ t.flag (F.GDR_EN_STAT_OUT e) = s.flag (F.GDR_EN_STAT_OUT e) ∧ t.gdr.imps = s.gdr.imps ∧
             s.SameRegs [0x4003, 0x400B] t ∧ s.SameStores t)) ∧
     (∀ i, i < 4 → i ∈ s.gdr.ssOn → s.Quiet (0x8F + i) → s.asserted (0x8F + i) = false →
       ∃ t, exec (.ssFault i) s = .next t ∧ t.flag (F.GDR_SS_STAT_OK i) = false ∧ i ∉ t.gdr.ssOn ∧ t.sticky (0x8F + i) = true ∧
         s.SameRegs raiseBlocks t ∧ s.SameStores t)) ∧
  (∀ s : State, s.sys.phase = .run →
     (∀ i low, i < 4 → s.flag (F.GDR_SS_STAT_WAITING i) = true → (∀ k, k < i → s.flag (F.GDR_SS_STAT_WAITING k) = false) →
       (∀ k, k < 4 → s.flag (F.GDR_SS_STAT_PULSING k) = false) → s.flag F.SAF_PULSE_CFG_STAGGER = false →
       ∃ t, exec (.testPulseStart low) s = .next t ∧ t.flag (F.GDR_SS_STAT_PULSING i) = true ∧
         t.flag (F.GDR_SS_STAT_WAITING i) = false ∧ t.flag (F.GDR_SS_STAT_LOW_REACHED i) = low ∧
         t.gdr.pulseCycle = some s.flu.cycle ∧ s.OnlyRegs [(F.GDR_SS_STAT_PULSING i).addr] t ∧ s.SameStores t) ∧
     (∃ t, exec .testPulseRelease s = .next t ∧ (∀ i, i < 4 → t.flag (F.GDR_SS_STAT_PULSING i) = false) ∧
       s.SameRegs [0x400B] t ∧ { t with regs := s.regs } = s))

/-- XDIS_IN (R242, R382, R385): low takes the gate enable, the solenoids and the enables and switches every bridge OFF; high lifts it; low for longer
than the grace time in a lead mode raises LEAD_SUPERSEDED.
The model's own choices behind it: log entry 43. -/
def Obligations.CrossDisable : Prop :=
  ∀ s : State, s.sys.phase = .run →
    (s.gdr.xdisIn = false →
      ∃ t, exec .xdisInLow s = .next t ∧ t.gdr.xdisIn = true ∧ (∀ b, b < 3 → t.getF (F.MOT_STATUS_STATE b) = 0) ∧
        t.flag F.GDR_STATUS_ENABLED = false ∧ (∀ k, k < 12 → t.getF (F.GDR_SOL_STAT_STATE k) ≠ 1) ∧
        (∀ e, e < 4 → t.flag (F.GDR_EN_STAT_OUT e) = false) ∧ t.flag F.GDR_XDIS_IN = false ∧ t.mode = s.mode ∧
        s.SameRegs [0x400A, 0x400B, 0x4011] t ∧ s.SameStores t) ∧
    (∃ t, exec .xdisInHigh s = .next t ∧ t.gdr.xdisIn = false ∧ t.gdr.resume = (s.gdr.resume || s.gdr.xdisIn) ∧
      t.flag F.GDR_XDIS_IN = true ∧ t.mode = s.mode ∧ s.SameRegs [0x400A, 0x400B, 0x4011] t ∧ s.SameStores t) ∧
    (s.mode.isLead = true → s.gdr.xdisIn = true → s.flag F.LDS_STATUS_HO_PENDING = false → s.Quiet 0xAD → s.asserted 0xAD = false →
      ∃ t, exec .xdisGraceExpiry s = .next t ∧ t.sticky 0xAD = true ∧ t.mode = s.mode ∧
        s.SameRegs raiseBlocks t ∧ s.SameStores t)

/-- HALF_START (R203, R204, R205): every bridge begins a half of n counts, falling at ticks 1 and 3; a write since the latest half gives the high
times, each duty times n rounded, after MIN_PULSE.
The model's own choices behind it: log entry 48. -/
def Obligations.HalfStart : Prop :=
  ∀ (s : State) (n : Nat), s.sys.phase = .run → n < 16384 → s.mots.length = 3 → (∀ b, b < 3 → s.Quiet (0x46 + 3 * b)) →
    ∃ t, exec (.halfStart n) s = .next t ∧ t.mode = s.mode ∧ s.SameStores t ∧
      s.SameRegs raiseBlocks t ∧
      ∀ b, b < 3 → t.getF (F.MOT_HALF_LENGTH b) = n ∧ t.flag (F.MOT_HALF_KIND b) = decide (s.gr.j % 2 = 1) ∧
        (t.mot b).half = (s.mot b).half + 1 ∧
        (∀ d0 d1 d2, (s.mot b).duties = some [d0, d1, d2] → (t.mot b).duties = none ∧ t.flag (F.MOT_STATUS_STALE b) = false ∧
          ∀ p, p < 3 → (minPulse (dutyCounts ([d0, d1, d2].getD p 0) n) n (4 * s.getF (F.MOT_PWM_MIN_PULSE b))).1 < 16384 →
            t.getF (F.MOT_DUTY_HIGH b p) =
              (minPulse (dutyCounts ([d0, d1, d2].getD p 0) n) n (4 * s.getF (F.MOT_PWM_MIN_PULSE b))).1)

/-! Position interfaces and analogue acquisition -/

/-- COUNT_STEP (R180, R182, R186, R191): once A, B and I have held their level for N filter clocks, one step of the quadrature sequence counts
up or down and a jump over a phase is QUAD_ERROR; in speed-pulse mode every rising edge of A counts, up or by SPEED_DIR as B says. Shorter
levels leave COUNT, the filtered levels and every other register as they are, but show in RAW; the index edge of the same clock finds the stepped
count; what the filter clock of a tick start accepts waits for the tick. A step that an index edge of its clock has taken ahead
does nothing when its turn comes (log entry 41).
INDEX_EDGE (R180, R184, R185, R186): count steps of its filter clock that the queue still holds come before it; the first pulse is
held as candidate, an agreeing one aligns COUNT to INDEX_POS and homes, a disagreeing one of a
homed interface is INDEX_MISMATCH and moves nothing.
PROBE_EDGE (R180, R192): a selected edge captures COUNT and its time; the next one before the tick start is counted as an overrun.
The model's own choices behind it: log entry 41. -/
def Obligations.PositionEdges : Prop :=
  (∀ (s : State) (i t v held : Nat), s.sys.phase = .run → i < 4 → s.poss.length = 4 → s.flag (F.POS_STATUS_ACTIVE i) = true → v < 8 →
     (.countStep i t v held ∈ (s.pos i).taken → exec (.countStep i t v held) s =
       .next (s.setPos i { s.pos i with taken := (s.pos i).taken.erase (.countStep i t v held) })) ∧
     (.countStep i t v held ∉ (s.pos i).taken → t / 10 ≠ s.nextTick / 10 →
       (∀ k, k < 3 → bit v k ≠ bit (s.getF (F.POS_LEVELS_RAW i)) k → (s.stood i t v held).getD k 0 = held) ∧
       ((∀ k, k < 3 → s.accepts i k ((s.stood i t v held).getD k 0) = true) →
         (s.getF (F.POS_CFG_MODE i) = 1 → s.flag (F.POS_CFG_DIR_INVERT i) = false → v / 4 ≤ s.levels i / 4 % 2 →
           ((quadPhase v + 4 - quadPhase (s.levels i)) % 4 = 1 →
             ∃ u, exec (.countStep i t v held) s = .next u ∧ u.reg (F.POS_COUNT_COUNT i).addr = s.reg (F.POS_COUNT_COUNT i).addr + 1 ∧
               u.flag (F.POS_STATUS_DIR i) = true ∧ u.reg (F.POS_EDGE_TIME_TIME i).addr = BitVec.ofNat 32 (t / 10) ∧
               u.reg (F.POS_EDGES_COUNT i).addr = s.reg (F.POS_EDGES_COUNT i).addr + 1 ∧ s.SameRegs [0x4009] u ∧ s.SameStores u) ∧
           ((quadPhase v + 4 - quadPhase (s.levels i)) % 4 = 3 →
             ∃ u, exec (.countStep i t v held) s = .next u ∧ u.reg (F.POS_COUNT_COUNT i).addr = s.reg (F.POS_COUNT_COUNT i).addr - 1 ∧
               u.flag (F.POS_STATUS_DIR i) = false ∧ s.SameRegs [0x4009] u ∧ s.SameStores u) ∧
           ((quadPhase v + 4 - quadPhase (s.levels i)) % 4 = 2 → s.Quiet (0x32 + 5 * i) → s.asserted (0x32 + 5 * i) = false →
             ∃ u, exec (.countStep i t v held) s = .next u ∧ u.reg (F.POS_COUNT_COUNT i).addr = s.reg (F.POS_COUNT_COUNT i).addr ∧
               u.sticky (0x32 + 5 * i) = true ∧
               u.getF (F.POS_QUAD_ERR_CNT_COUNT i) = min (2 ^ 32 - 1) (s.getF (F.POS_QUAD_ERR_CNT_COUNT i) + 1) ∧
               s.SameRegs (0x4009 :: raiseBlocks) u ∧ s.SameStores u)) ∧
         (s.getF (F.POS_CFG_MODE i) = 1 → s.flag (F.POS_CFG_DIR_INVERT i) = false → s.levels i / 4 % 2 = 0 → 4 ≤ v →
          (quadPhase v + 4 - quadPhase (s.levels i)) % 4 = 1 → 0 < s.getF (F.POS_CPR_CPR i) → s.flag (F.POS_INDEX_CFG_GATE_EN i) = false →
          s.flag (F.POS_STATUS_HOMED i) = false → s.flag (F.POS_STATUS_CAND i) = false →
           ∃ u, exec (.countStep i t v held) s = .next u ∧ u.flag (F.POS_STATUS_CAND i) = true ∧
             (u.pos i).cand = s.reg (F.POS_COUNT_COUNT i).addr + 1 ∧ s.SameRegs [0x4009] u ∧ s.SameStores u) ∧
         (s.getF (F.POS_CFG_MODE i) = 3 → s.levels i % 2 = 0 → v % 2 = 1 →
           ∃ u, exec (.countStep i t v held) s = .next u ∧
             u.reg (F.POS_COUNT_COUNT i).addr =
               s.reg (F.POS_COUNT_COUNT i).addr + (if Config.speedDir i = true ∧ v / 2 % 2 = 0 then -1 else 1) ∧
             u.flag (F.POS_STATUS_DIR i) = !(Config.speedDir i && decide (v / 2 % 2 = 0)) ∧
             u.flag (F.POS_STATUS_DIR_VALID i) = (s.flag (F.POS_STATUS_DIR_VALID i) || Config.speedDir i) ∧
             s.SameRegs [0x4009] u ∧ s.SameStores u)) ∧
       (∀ m, s.getF (F.POS_CFG_MODE i) = m → m = 1 ∨ m = 3 →
        (∀ k, k < 3 → s.accepts i k ((s.stood i t v held).getD k 0) = false) →
         ∃ u, exec (.countStep i t v held) s = .next u ∧ u.getF (F.POS_LEVELS_RAW i) = v ∧ u.levels i = s.levels i ∧
           s.OnlyRegs [(F.POS_LEVELS_RAW i).addr] u ∧ s.SameStores u)) ∧
     (.countStep i t v held ∉ (s.pos i).taken → t / 10 = s.nextTick / 10 →
       exec (.countStep i t v held) s = .next (s.setPos i { s.pos i with late := (s.pos i).late ++ [.countStep i t v held] }))) ∧
  (∀ (s : State) (i t' held : Nat) (d : Int), s.sys.phase = .run → i < 4 → s.poss.length = 4 → s.flag (F.POS_STATUS_ACTIVE i) = true →
     s.accepts i 2 ((s.stood i t' (s.getF (F.POS_LEVELS_RAW i) % 4 + 4) held).getD 2 0) = true → s.levels i / 4 % 2 = 0 →
     .indexEdge i t' true held ∉ (s.pos i).taken → t' / 10 ≠ s.nextTick / 10 →
     (∀ c, (s.sameClock i (t' / 10)).filter isStep = [c] →
       exec (.indexEdge i t' true held) s = .next (((s.posAct c).takeAhead i [c]).posAct (.indexEdge i t' true held))) ∧
     ((∀ c ∈ s.pending, isStep c = true → s.posClock c ≠ some (i, t' / 10)) → s.getF (F.POS_CFG_MODE i) = 1 →
       0 < s.getF (F.POS_CPR_CPR i) → s.flag (F.POS_INDEX_CFG_GATE_EN i) = false →
     d = indexError (s.count i) (s.getF (F.POS_INDEX_CFG_INDEX_POS i)) (s.getF (F.POS_CPR_CPR i)) →
     (s.flag (F.POS_STATUS_HOMED i) = false → s.flag (F.POS_STATUS_CAND i) = false →
       ∃ t, exec (.indexEdge i t' true held) s = .next t ∧ t.flag (F.POS_STATUS_CAND i) = true ∧
         (t.pos i).cand = s.reg (F.POS_COUNT_COUNT i).addr ∧ t.reg (F.POS_COUNT_COUNT i).addr = s.reg (F.POS_COUNT_COUNT i).addr ∧
         s.SameRegs [0x4009] t ∧ s.SameStores t) ∧
     (s.flag (F.POS_STATUS_CAND i) = true → s.flag (F.POS_STATUS_HOMED i) = false ∨ d ≠ 0 →
       s.reg (F.POS_COUNT_COUNT i).addr = (s.pos i).cand ∨
         s.reg (F.POS_COUNT_COUNT i).addr = (s.pos i).cand + BitVec.ofNat 32 (s.getF (F.POS_CPR_CPR i)) ∨
         s.reg (F.POS_COUNT_COUNT i).addr = (s.pos i).cand - BitVec.ofNat 32 (s.getF (F.POS_CPR_CPR i)) →
       ∃ t, exec (.indexEdge i t' true held) s = .next t ∧ t.flag (F.POS_STATUS_HOMED i) = true ∧ t.flag (F.POS_STATUS_CAND i) = false ∧
         t.flag (F.POS_STATUS_INDEX_MISMATCH i) = false ∧
         t.reg (F.POS_COUNT_COUNT i).addr = s.reg (F.POS_COUNT_COUNT i).addr - BitVec.ofInt 32 d ∧
         t.getF (F.POS_REALIGN_CNT_COUNT i) = min (2 ^ 32 - 1) (s.getF (F.POS_REALIGN_CNT_COUNT i) + 1) ∧
         s.SameRegs [0x4009] t ∧ s.SameStores t) ∧
     (s.flag (F.POS_STATUS_HOMED i) = true → d ≠ 0 → s.flag (F.POS_STATUS_CAND i) = false → s.Quiet (0x34 + 5 * i) →
       s.asserted (0x34 + 5 * i) = false →
       ∃ t, exec (.indexEdge i t' true held) s = .next t ∧ t.flag (F.POS_STATUS_INDEX_MISMATCH i) = true ∧ t.sticky (0x34 + 5 * i) = true ∧
         t.reg (F.POS_COUNT_COUNT i).addr = s.reg (F.POS_COUNT_COUNT i).addr ∧
         t.getF (F.POS_INDEX_MM_CNT_COUNT i) = min (2 ^ 32 - 1) (s.getF (F.POS_INDEX_MM_CNT_COUNT i) + 1) ∧
         s.SameRegs (0x4009 :: raiseBlocks) t ∧ s.SameStores t))) ∧
  (∀ (s : State) (i t m held : Nat) (rising : Bool), s.sys.phase = .run → i < 4 → s.flag (F.POS_STATUS_ACTIVE i) = true →
     max 1 (s.getF (F.POS_FILTER_N_PRB i)) ≤ held →
     (t + 10 * (max 1 (s.getF (F.POS_FILTER_N_PRB i)) - 1)) / 10 ≠ s.nextTick / 10 → .probeEdge i t rising held ∉ (s.pos i).taken →
     (∀ c ∈ s.pending, isStep c = true → s.posClock c ≠ some (i, s.probeAt i t / 10)) →
     s.getF (F.POS_CFG_MODE i) = m → 1 ≤ m → m ≤ 4 → bit (s.getF (F.POS_PRB_CFG_EDGE i)) (if rising = true then 0 else 1) = true →
     (s.flag (F.POS_STATUS_PRB_FULL i) = false →
       ∃ u, exec (.probeEdge i t rising held) s = .next u ∧ u.reg (F.POS_PRB_COUNT_VALUE i).addr = s.reg (F.POS_COUNT_COUNT i).addr ∧
         u.reg (F.POS_PRB_TIME_VALUE i).addr = BitVec.ofNat 32 (t / 10) ∧ u.flag (F.POS_STATUS_PRB_FULL i) = true ∧
         u.getF (F.POS_PRB_CNT_COUNT i) = min (2 ^ 32 - 1) (s.getF (F.POS_PRB_CNT_COUNT i) + 1) ∧ s.SameRegs [0x4009] u ∧ s.SameStores u) ∧
     (s.flag (F.POS_STATUS_PRB_FULL i) = true →
       ∃ u, exec (.probeEdge i t rising held) s = .next u ∧ u.reg (F.POS_PRB_COUNT_VALUE i).addr = s.reg (F.POS_PRB_COUNT_VALUE i).addr ∧
         u.reg (F.POS_PRB_TIME_VALUE i).addr = s.reg (F.POS_PRB_TIME_VALUE i).addr ∧
         u.getF (F.POS_PRB_OVR_CNT_COUNT i) = min (2 ^ 32 - 1) (s.getF (F.POS_PRB_OVR_CNT_COUNT i) + 1) ∧ s.SameRegs [0x4009] u))

/-- Serial words (R187 to R190, R197): a read starts READ_ADV ahead of its slot, once RECOVERY has passed, and latches; a retry starts
where its last bit
comes before the tick start it serves; a word with its CRC gives SER_DATA and COUNT; a missing start bit fails the read
and leaves a retry where RETRY is set, whose failure is lasting; the next drive is sent the kept word.
The model's own choices behind it: log entry 41. -/
def Obligations.SerialWords : Prop :=
  ∀ (s : State) (i t : Nat), s.sys.phase = .run → i < 4 → s.poss.length = 4 → s.flag (F.POS_STATUS_ACTIVE i) = true →
    s.getF (F.POS_CFG_MODE i) = 4 →
    (∀ released, (s.pos i).run = false → released + 1000 * s.getF (F.POS_SER_TIMING_RECOVERY i) ≤ t →
     (t + 1000 * s.getF (F.POS_SER_TIMING_READ_ADV i) + 31250 * s.slotShift) % (31250 * serialTicks (s.getF (F.POS_SER_CFG_PERIOD i))) = 0 →
      ∃ u, exec (.serialReadStart i t released) s = .next u ∧ (u.pos i).run = true ∧ (u.pos i).latch = t ∧ (u.pos i).retry = (s.pos i).pend ∧
        u.getF (F.POS_LEVELS_RAW i) % 2 = 1 ∧ s.OnlyRegs [(F.POS_LEVELS_RAW i).addr] u ∧ s.SameStores u) ∧
    (∀ released, t < released + 1000 * s.getF (F.POS_SER_TIMING_RECOVERY i) ∨
     (t + 1000 * s.getF (F.POS_SER_TIMING_READ_ADV i) + 31250 * s.slotShift) % (31250 * serialTicks (s.getF (F.POS_SER_CFG_PERIOD i))) ≠ 0 →
      exec (.serialReadStart i t released) s = .next s) ∧
    (∀ released, (s.pos i).run = false → (s.pos i).due = true → (s.pos i).pend = true →
     released + 1000 * s.getF (F.POS_SER_TIMING_RECOVERY i) ≤ t → s.lastBit i t < s.serialNext i (s.pos i).latch →
      ∃ u, exec (.serialRetry i t released) s = .next u ∧ (u.pos i).run = true ∧ (u.pos i).retry = true ∧ (u.pos i).due = false ∧
        s.OnlyRegs [(F.POS_LEVELS_RAW i).addr] u ∧ s.SameStores u) ∧
    (∀ released, s.serialNext i (s.pos i).latch ≤ s.lastBit i t → exec (.serialRetry i t released) s = .next s) ∧
    (∀ data crc, t / 10 ≠ s.nextTick / 10 → .serialWordEnd i t false data false crc ∉ (s.pos i).taken →
      (∀ c ∈ s.pending, isStep c = true → s.posClock c ≠ some (i, t / 10)) → (s.pos i).run = true → (s.pos i).retry = false →
        data < 2 ^ s.getF (F.POS_SER_CFG_DATA_BITS i) →
      crc = crc6 (bitsOf (s.getF (F.POS_SER_CFG_DATA_BITS i)) data ++ [false]) →
      ∃ u, exec (.serialWordEnd i t false data false crc) s = .next u ∧ (u.pos i).run = false ∧
        u.reg (F.POS_SER_DATA_DATA i).addr = BitVec.ofNat 32 data ∧ u.reg (F.POS_COUNT_COUNT i).addr = BitVec.ofNat 32 data ∧
        u.flag (F.POS_STATUS_SER_OK i) = true ∧ u.getF (F.POS_SER_STAT_RESULT i) = 0 ∧ (u.pos i).word = some (s.pos i).latch ∧
        s.SameRegs [0x4003, 0x4009] u ∧ s.SameStores u) ∧
    (∀ data err crc, t / 10 ≠ s.nextTick / 10 → .serialWordEnd i t true data err crc ∉ (s.pos i).taken →
      (∀ c ∈ s.pending, isStep c = true → s.posClock c ≠ some (i, t / 10)) → (s.pos i).run = true → (s.pos i).retry = false →
      ∃ u, exec (.serialWordEnd i t true data err crc) s = .next u ∧ u.flag (F.POS_STATUS_SER_OK i) = false ∧
        u.getF (F.POS_SER_STAT_RESULT i) = 1 ∧ (u.pos i).pend = s.flag (F.POS_SER_CFG_RETRY i) ∧
        u.getF (F.POS_SER_TIMEOUT_CNT_COUNT i) = min (2 ^ 32 - 1) (s.getF (F.POS_SER_TIMEOUT_CNT_COUNT i) + 1) ∧
        s.SameRegs [0x4003, 0x4009] u ∧ s.SameStores u) ∧
    (∀ data err crc, t / 10 ≠ s.nextTick / 10 → .serialWordEnd i t true data err crc ∉ (s.pos i).taken →
      (∀ c ∈ s.pending, isStep c = true → s.posClock c ≠ some (i, t / 10)) → (s.pos i).run = true → (s.pos i).retry = true →
        s.Quiet (0x36 + 5 * i) → s.asserted (0x36 + 5 * i) = false →
      ∃ u, exec (.serialWordEnd i t true data err crc) s = .next u ∧ u.flag (F.POS_STATUS_SER_LASTING i) = true ∧
        u.sticky (0x36 + 5 * i) = true ∧ 0x36 + 5 * i ∈ u.flt.level ∧
        s.SameRegs (0x4009 :: raiseBlocks) u ∧ s.SameStores u) ∧
    ((s.pos i).ended = true → (s.pos i).failed = false → (s.pos i).again = false →
      ∃ u, exec (.serialTimeout i) s = .next u ∧ u.flag (F.POS_STATUS_SER_OK i) = false ∧ u.getF (F.POS_SER_STAT_RESULT i) = 4 ∧
        u.getF (F.POS_SER_TIMEOUT_CNT_COUNT i) = min (2 ^ 32 - 1) (s.getF (F.POS_SER_TIMEOUT_CNT_COUNT i) + 1) ∧
        (u.pos i).ended = false ∧ s.SameRegs [0x4003, 0x4009] u ∧ s.SameStores u) ∧
    (s.flag (F.POS_STATUS_PT_ACTIVE i) = true →
      ∃ u, exec (.passThroughFrame i) s = .next u ∧ (u.pos i).ptFrame = s.ptBits i ∧ u.regs = s.regs ∧ s.SameStores u)

/-- Sequences (R259 to R262, R265, R266): a start bit set by ADC_START begins a regular sequence, an injected one, a group on its members that have
injected entries, or a pair; an injected start while one runs is lost and counted.
The model's own choices behind it: log entry 42. -/
def Obligations.AdcSequences : Prop :=
  ∀ s : State, s.sys.phase = .run →
    (∀ reg inj, ∃ t, exec (.adcStart reg inj) s = .next t ∧
      (∀ v, v < 8 → (bit reg v = true → .regular v ∈ t.adc.starts) ∧ (bit inj v = true → .injected v ∈ t.adc.starts)) ∧
      t.getF F.ADC_START_CNT_COUNT = min (2 ^ 32 - 1) (s.getF F.ADC_START_CNT_COUNT + 1) ∧
      s.OnlyRegs [F.ADC_START_CNT_COUNT.addr] t ∧ s.SameStores t) ∧
    (s.sys.joined = true →
      (∀ v a c, v < 8 → .regular v ∈ s.adc.starts → s.flag (F.ADC_CONV_CFG_ENABLE v) = true → 0 < s.getF (F.ADC_CONV_CFG_REG_LEN v) →
        s.getF (F.ADC_CONV_STAT_STATE v) = 0 → (s.conv v).wait = false →
        ∃ t, exec (.sequenceStart (.regular v) a c) s = .next t ∧ t.getF (F.ADC_CONV_STAT_STATE v) = 1 ∧
          t.getF (F.ADC_CONV_STAT_POS v) = 0 ∧ .regular v ∉ t.adc.starts ∧ s.SameRegs [0x400C] t ∧ s.SameStores t) ∧
      (∀ v a c, v < 8 → .injected v ∈ s.adc.starts → s.flag (F.ADC_CONV_CFG_ENABLE v) = true → 0 < s.getF (F.ADC_CONV_CFG_INJ_LEN v) →
        (s.getF (F.ADC_CONV_STAT_STATE v) < 2 ∨ s.getF (F.ADC_CONV_STAT_STATE v) = 3 →
          ∃ t, exec (.sequenceStart (.injected v) a c) s = .next t ∧ t.getF (F.ADC_CONV_STAT_STATE v) = 2 ∧
            t.getF F.ADC_INJ_CNT_COUNT = min (2 ^ 32 - 1) (s.getF F.ADC_INJ_CNT_COUNT + 1) ∧ s.SameRegs [0x400C] t) ∧
        (s.getF (F.ADC_CONV_STAT_STATE v) = 2 →
          ∃ t, exec (.sequenceStart (.injected v) a c) s = .next t ∧ t.getF (F.ADC_CONV_STAT_STATE v) = 2 ∧
            t.getF F.ADC_TRIG_LOST_CNT_COUNT = min (2 ^ 32 - 1) (s.getF F.ADC_TRIG_LOST_CNT_COUNT + 1) ∧ s.SameRegs [0x400C] t)) ∧
      (∀ p a c, p < 4 → .pair p ∈ s.adc.starts → s.flag (F.ADC_PAIR_CFG_EN p) = true →
        (∀ v, v < 8 → v / 2 = p → s.flag (F.ADC_CONV_CFG_ENABLE v) = true ∧ s.getF (F.ADC_CONV_STAT_STATE v) < 2) →
        ∃ t, exec (.sequenceStart (.pair p) a c) s = .next t ∧
          (∀ v, v < 8 → v / 2 = p → t.getF (F.ADC_CONV_STAT_STATE v) = 4) ∧ s.SameRegs [0x400C] t) ∧
      (∀ g a c, g < 4 → .group g ∈ s.adc.starts → s.flag (F.ADC_GROUP_EN g) = true →
        (∀ v, v < 8 → bit (s.getF (F.ADC_GROUP_MEMBERS g)) v = true →
          s.flag (F.ADC_CONV_CFG_ENABLE v) = true ∧ s.getF (F.ADC_CONV_STAT_STATE v) < 2) →
        ∃ t, exec (.sequenceStart (.group g) a c) s = .next t ∧
          (∀ v, v < 8 → bit (s.getF (F.ADC_GROUP_MEMBERS g)) v = true → t.getF (F.ADC_CONV_STAT_STATE v) =
            if 0 < s.getF (F.ADC_CONV_CFG_INJ_LEN v) then 5 else s.getF (F.ADC_CONV_STAT_STATE v)) ∧
          t.getF F.ADC_GROUP_CNT_COUNT = min (2 ^ 32 - 1) (s.getF F.ADC_GROUP_CNT_COUNT + 1) ∧ s.SameRegs [0x400C] t))

/-- Results and checks (R256, R258, R267, R268, R269, R270): a conversion of a regular sequence publishes input × 16,384 ÷ 3.000 V, held to 14 bits,
and counts; above 3.015 V and below -0.015 V it is recorded and raised; a reference check falls due on every enabled converter and
passes, or fails with
its repeat; the open-wire period starts the next tested channel, and nothing in JOIN, where the test currents are off (R547). Inputs are
in µV; the nearest code is taken, as the examples of R271 show.
The model's own choices behind it: log entry 42. -/
def Obligations.AdcResults : Prop :=
  ∀ s : State, s.sys.phase = .run →
    (∀ v t ch settled (input : Int), v < 8 → s.getF (F.ADC_CONV_STAT_STATE v) = 1 → (s.conv v).tail = none → s.adc.ow = none →
      ch = s.regEntry v (s.getF (F.ADC_CONV_STAT_POS v)) → ch < 64 → s.flag (F.ADC_CONV_STAT_FAILED v) = false →
      (-15000 ≤ input → input ≤ 3015000 →
        ∃ u, exec (.conversionComplete v input t settled) s = .next u ∧ u.flag (F.ADC_RESULT_VALID ch) = true ∧
          u.getF (F.ADC_RESULT_CODE ch) = min 16383 (((input * 16384 + 1500000) / 3000000).toNat) ∧
          u.getF (F.ADC_RESULT_CONV ch) = v ∧ u.flag (F.ADC_RESULT_INJ ch) = false ∧
          u.getF (F.ADC_CONV_CNT_COUNT v) = (s.getF (F.ADC_CONV_CNT_COUNT v) + 1) % 2 ^ 32 ∧ s.SameRegs [0x400C] u ∧ s.SameStores u) ∧
      (input < -15000 ∨ 3015000 < input → s.Quiet 0x9F → s.asserted 0x9F = false →
        ∃ u, exec (.conversionComplete v input t settled) s = .next u ∧ u.flag (F.ADC_RESULT_OVR_HI ch) = decide (3015000 < input) ∧
          u.flag (F.ADC_RESULT_OVR_LO ch) = decide (input < -15000) ∧
          u.getF (F.ADC_RESULT_CODE ch) = (if input < 0 then 0 else 16383) ∧
          bit (u.getF (F.ADC_OVR_OVR (ch / 32))) (ch % 32) = true ∧ u.sticky 0x9F = true ∧
          u.getF F.ADC_OVR_CNT_COUNT = min (2 ^ 32 - 1) (s.getF F.ADC_OVR_CNT_COUNT + 1) ∧
          s.SameRegs (0x400C :: raiseBlocks) u ∧ s.SameStores u)) ∧
    (∀ v bg gnd settled t (input : Int) (again : Bool), v < 8 → bg < 16384 → s.adc.conv.length = 8 →
      s.getF (F.ADC_CONV_STAT_STATE v) = 3 → (s.conv v).tail = none → (s.conv v).ref = some { codes := [bg], again := again } →
      s.adc.ow = none → -15000 ≤ input → input ≤ 3015000 → gnd = min 16383 (((input * 16384 + 1500000) / 3000000).toNat) →
      (s.refPass bg gnd = true →
        ∃ u, exec (.conversionComplete v input t settled) s = .next u ∧ u.getF (F.ADC_REF_BG v) = bg ∧ u.getF (F.ADC_REF_GND v) = gnd ∧
          u.flag (F.ADC_CONV_STAT_FAILED v) = false ∧ 0x97 + v ∉ u.flt.level ∧ (u.conv v).ref = none ∧
          u.getF F.ADC_REF_CHK_CNT_COUNT = min (2 ^ 32 - 1) (s.getF F.ADC_REF_CHK_CNT_COUNT + 1) ∧
          s.SameRegs [0x4003, 0x400C] u ∧ s.SameStores u) ∧
      (s.refPass bg gnd = false → again = false →
        ∃ u, exec (.conversionComplete v input t settled) s = .next u ∧ (u.conv v).ref = some { codes := [], again := true } ∧
          u.flag (F.ADC_CONV_STAT_FAILED v) = s.flag (F.ADC_CONV_STAT_FAILED v) ∧
          u.getF (F.ADC_CONV_STAT_STATE v) = 3 ∧ s.SameRegs [0x400C] u ∧ s.SameStores u) ∧
      (s.refPass bg gnd = false → again = true → s.flag (F.ADC_CONV_STAT_FAILED v) = false →
        s.Quiet (0x97 + v) → s.asserted (0x97 + v) = false →
        ∃ u, exec (.conversionComplete v input t settled) s = .next u ∧ u.flag (F.ADC_CONV_STAT_FAILED v) = true ∧
          u.sticky (0x97 + v) = true ∧ (u.conv v).ref = none ∧
          u.getF F.ADC_REF_FAIL_CNT_COUNT = min (2 ^ 32 - 1) (s.getF F.ADC_REF_FAIL_CNT_COUNT + 1) ∧
          s.SameRegs (0x400C :: raiseBlocks) u ∧ s.SameStores u)) ∧
    (s.sys.joined = true →
      (s.adc.conv.length = 8 →
        ∃ t, exec .referenceCheck s = .next t ∧ s.SameRegs [0x400C] t ∧ s.SameStores t ∧
          (∀ v, v < 8 → s.flag (F.ADC_CONV_CFG_ENABLE v) = true → (s.conv v).ref = none →
            (s.getF (F.ADC_CONV_STAT_STATE v) = 0 → t.getF (F.ADC_CONV_STAT_STATE v) = 3 ∧ (t.conv v).ref = some {}) ∧
            (s.getF (F.ADC_CONV_STAT_STATE v) ≠ 0 →
              t.getF (F.ADC_CONV_STAT_STATE v) = s.getF (F.ADC_CONV_STAT_STATE v) ∧ (t.conv v).refDue = true))) ∧
      (∀ x, s.mode ≠ .join → s.adc.ow = some x → exec .openWirePeriod s = .next { s with adc := { s.adc with owDue := true } }) ∧
      (s.mode = .join → exec .openWirePeriod s = .next s) ∧
      (∀ ch, s.mode ≠ .join → s.adc.ow = none → s.owNext = some ch →
        ∃ t, exec .openWirePeriod s = .next t ∧ t.flag F.ADC_STATUS_OW_ACTIVE = true ∧ t.getF F.ADC_STATUS_OW_CHANNEL = ch ∧
          t.adc.owLast = some ch ∧ s.OnlyRegs [F.ADC_STATUS_OW_ACTIVE.addr] t ∧ s.SameStores t))

/-! Registers, keys and fuses -/

/-- REGISTER_WRITE (R8, R23, R65): it completes for every address and word. In SERVICE the RW bits of a register change at once and its RL
bits wait in a shadow copy, the tile store takes its four bytes, and a register whose writing is a command of its own has that command's effect;
outside, a writable register is not written and the attempt is counted; an address without a register, and a register without a writable
bit, is ignored.
The model's own choices behind it: log entries 4, 35. -/
def Obligations.RegisterWrite : Prop :=
  ∀ (s : State) (a : Nat) (v : Word), s.sys.phase = .run →
    (∀ k i, findReg a = some (k, i) → isoAbsent a = false → 0x40000000 ≤ a →
      (s.mode = .service → ownWrite a = false → a ≠ (F.PWR_DOM_VOTE_SVC_VOTE i).addr →
        (k.rw ≠ 0 → k.rl = 0 →
          ∃ t, exec (.registerWrite a v) s = .next t ∧ t.reg a = (s.reg a &&& ~~~(BitVec.ofNat 32 k.rw)) ||| (v &&& BitVec.ofNat 32 k.rw) ∧
            s.OnlyRegs [a] t ∧ { t with regs := s.regs } = s) ∧
        (k.rw = 0 → k.rl ≠ 0 →
          ∃ t, exec (.registerWrite a v) s = .next t ∧ t.regs = s.regs ∧ (a, v &&& BitVec.ofNat 32 k.rl) ∈ t.svc.shadow ∧
            (∀ x ∈ t.svc.shadow, x.1 = a → x.2 = v &&& BitVec.ofNat 32 k.rl) ∧ s.SameStores t)) ∧
      (s.mode ≠ .service → k.rw ≠ 0 ∨ k.rl ≠ 0 ∨ k.w1c ≠ 0 ∨ k.wo ≠ 0 → forceWord a = none ∨ s.mode ≠ .selfTest →
        ∃ t, exec (.registerWrite a v) s = .next t ∧
          t.getF F.SYS_LOCKED_WR_CNT_COUNT = min (2 ^ F.SYS_LOCKED_WR_CNT_COUNT.width - 1) (s.getF F.SYS_LOCKED_WR_CNT_COUNT + 1) ∧
          s.OnlyRegs [F.SYS_LOCKED_WR_CNT_COUNT.addr, F.SYS_LOCKED_WR_ADDR_ADDR.addr] t ∧ { t with regs := s.regs } = s) ∧
      (k.rw = 0 → k.rl = 0 → k.w1c = 0 → k.wo = 0 → exec (.registerWrite a v) s = .next s)) ∧
    (findReg a = none → a < 0x20000000 ∨ 0x20800000 ≤ a → exec (.registerWrite a v) s = .next s) ∧
    (s.mode = .service → 0x20000000 ≤ a → a < 0x20800000 →
      ∃ t, exec (.registerWrite a v) s = .next t ∧ (∀ i, i < 4 → Mem.byte 0 t.tiles (a + i) = (leBytes 4 v.toNat).getD i 0) ∧
        (∀ x, x < a ∨ a + 4 ≤ x → Mem.byte 0 t.tiles x = Mem.byte 0 s.tiles x) ∧ { t with tiles := s.tiles } = s) ∧
    (∀ c, s.mode = .service →
      (a = F.SYS_SWRESET_KEY.addr ∧ c = .sysSwreset (v.toNat % 65536) ∨ a = F.IMG_FLOOR_RAISE_KEY.addr ∧ c = .imgFloorRaise (v.toNat % 65536) ∨
        a = F.IMG_KEY_REVOKE_KEY.addr ∧ c = .imgKeyRevoke (v.toNat / 65536) v.toNat ∨
        a = F.IMG_LIFECYCLE_REQ_KEY.addr ∧ c = .imgLifecycleReq (v.toNat / 65536) (v.toNat % 8) ∨
        a = F.BST_FUSE_CMD_KEY.addr ∧ c = .bstFuseCmd (v.toNat % 65536) ∨ a = F.JRN_REPLAY_CMD_KEY.addr ∧ c = .jrnReplayCmd (v.toNat % 65536) ∨
        a = F.ADC_START_REG.addr ∧ c = .adcStart (v.toNat % 256) (v.toNat / 256 % 256) ∨
        a = F.MBX_DB_PEND_FILLED.addr ∧ c = .mbxDbPend 3 v.toNat 0 ∨
        (∃ k, k < 8 ∧ a = (F.LAW_EDIT_WORD_WORD k).addr ∧ c = .lawEditWord k v) ∨
        (∃ w, w < 8 ∧ a = (F.FLT_FORCE_FORCE w).addr ∧ c = .fltForce w v.toNat)) →
      ∃ t, exec (.registerWrite a v) s = .next t ∧ exec c s = .next t) ∧
    (∀ d, d < 22 → a = (F.PWR_DOM_VOTE_SVC_VOTE d).addr → s.mode = .service →
      ∃ t, exec (.registerWrite a v) s = .next t ∧ t.flag (F.PWR_DOM_VOTE_SVC_VOTE d) = bit v.toNat 16 ∧ s.SameStores t) ∧
    (∀ m k, m = s.getF F.MBX_SEL_MAILBOX → k < 15 → a = (F.MBX_DATA_WORD k).addr → s.mode = .service → mbxSender m = 3 → s.mbxFull m = false →
      m < s.mbx.data.length → k < (s.mbx.data.getD m []).length →
      ∃ t, exec (.registerWrite a v) s = .next t ∧ t.mbxWord m k = v ∧ { t with mbx := s.mbx } = s)

/-- The keyed commands on the OTP (R52, R63, R70, R514): the version floor, the revoked key slots, the request for a life-cycle change and its fuse,
and the burning of due repairs; outside SERVICE each is refused as a locked write.
The model's own choices behind it: log entry 35. -/
def Obligations.OtpCommands : Prop :=
  ∀ s : State, s.sys.phase = .run →
    (s.mode = .service →
      (s.otp.lifecycle = 2 → s.flag F.SYS_STATUS_IMG_VALID = true → s.otp.floors.length < 64 →
        exec (.imgFloorRaise 0x5F1E) s = .next { s with otp := { s.otp with
          floors := s.otp.floors ++ [s.getF (F.IMG_VERSION_VERSION (s.getF F.IMG_STATUS_SLOT))] } }) ∧
      (∀ mask k, mask < 16 → s.otp.lifecycle = 1 ∨ s.otp.lifecycle = 2 →
        s.flag F.SYS_STATUS_IMG_VALID = false ∨ bit mask (s.getF F.IMG_KEY_STATE_IN_USE) = false → k < 4 →
        (s.otp.keys.getD k none).isSome = true → bit (s.otp.revoked ||| mask) k = false →
        exec (.imgKeyRevoke 0x4B52 mask) s = .next { s with otp := { s.otp with revoked := s.otp.revoked ||| mask } }) ∧
      (∀ target, s.lifecycleEdge target = true → s.ash.lcTarget = none →
        ∃ t r, exec (.imgLifecycleReq 0x1C5E target) s = .next t ∧ t.ash.lcTarget = some target ∧ t.ash.queue = s.ash.queue ++ [r] ∧
          r.type = 3 ∧ t.otp = s.otp ∧ t.regs = s.regs) ∧
      (∀ target, s.lifecycleEdge target = false →
        ∃ t, exec (.imgLifecycleReq 0x1C5E target) s = .next t ∧ t.flag F.IMG_STATUS_LC_REFUSED = true ∧ t.ash = s.ash ∧
          s.SameRegs [0x4018] t ∧ s.SameStores t) ∧
      (∃ t r, exec (.bstFuseCmd 0x3B6D) s = .next t ∧ t.otp.repairs = s.otp.repairs ++
          (s.dueSights.take (64 - s.otp.repairs.length)).map (fun w => 2 ^ 31 + keyOf w) ∧
        t.ash.queue = s.ash.queue ++ [r] ∧ r.type = 7 ∧ s.SameRegs [0x4015] t ∧ t.mram = s.mram)) ∧
    (s.mode ≠ .service → ∀ key mask target,
      exec (.imgFloorRaise key) s = .next (s.lockedWrite 0x40180018) ∧ exec (.imgKeyRevoke key mask) s = .next (s.lockedWrite 0x40180030) ∧
      exec (.imgLifecycleReq key target) s = .next (s.lockedWrite F.IMG_LIFECYCLE_REQ_KEY.addr) ∧
      exec (.bstFuseCmd key) s = .next (s.lockedWrite F.BST_FUSE_CMD_KEY.addr)) ∧
    (∀ target, s.ash.lcTarget = some target → s.ash.lcDone = true →
      ∃ t, exec .lifecycleFuse s = .next t ∧ t.otp.lifecycle = target ∧ t.sys.phase = .held ∧ t.reg 0x40000018 = 0x20)

/-- Gain edits and shadow copies (R65, R120, R132): a word written in SERVICE waits for the selected set, or EDIT_REFUSED sets; a shadow
copy outside the blocks whose units follow takes effect at the cycle start, bit for bit of its RL mask. With no copy waiting nothing
happens (log entry 1).
Reads that latch (R33, R313, R471): the upper word at the read of the lower one is kept for its own read.
The model's own choices behind it: log entries 1, 35, 51. -/
def Obligations.ShadowCopiesAndLatches : Prop :=
  (∀ s : State, s.sys.phase = .run →
     (∀ k (v : Word), k < 8 → s.mode = .service →
       (∀ i set l, s.editSet = some (i, set, l) →
         ∃ t, exec (.lawEditWord k v) s = .next t ∧ (i, set, k, v) ∈ t.gr.edits ∧ t.regs = s.regs ∧ t.gr.insts = s.gr.insts ∧ s.SameStores t) ∧
       (s.editSet = none →
         ∃ t, exec (.lawEditWord k v) s = .next t ∧ t.flag F.LAW_STATUS_EDIT_REFUSED = true ∧ t.gr = s.gr ∧
           s.SameRegs [0x4006] t ∧ s.SameStores t)) ∧
     (s.svc.shadow = [] → exec .shadowCopyApply s = .next s) ∧
     (∀ a (w : Word) k i, s.svc.shadow = [(a, w)] → findReg a = some (k, i) →
       a / 0x10000 ∈ [0x4006, 0x4007, 0x400C, 0x4010, 0x4013, 0x4014] →
       ∃ t, exec .shadowCopyApply s = .next t ∧ t.svc.shadow = [] ∧ s.SameStores t ∧
         t.reg a = (s.reg a &&& ~~~(BitVec.ofNat 32 k.rl)) ||| (w &&& BitVec.ofNat 32 k.rl))) ∧
  (∀ (s : State) (elapsed : Nat), s.sys.phase = .run →
     (∃ t, exec .sysTickLo s = .next t ∧ t.view 0x40000024 = BitVec.ofNat 32 (s.sys.tick / 2 ^ 32) ∧ t.regs = s.regs ∧ t.sys.tick = s.sys.tick) ∧
     (∃ t, exec (.fluTimeLo elapsed) s = .next t ∧ t.flu.time = s.flu.time + elapsed ∧ t.regs = s.regs ∧
       t.sys.flueLatch = some (BitVec.ofNat 32 ((s.flu.time + elapsed) / 2 ^ 32))) ∧
     (s.ember.vbat = true →
       ∃ t, exec (.clkRtcLo elapsed) s = .next t ∧ t.ember.rtc = (s.ember.rtc + elapsed) % 2 ^ 48 ∧ t.regs = s.regs ∧
         t.view 0x40020034 = BitVec.ofNat 32 ((s.ember.rtc + elapsed) % 2 ^ 48 / 2 ^ 32)))

/-! Mailboxes and the service port -/

/-- The mailboxes (R531, R532, R533, R534): the sender's word 15 fills, counts, rings the doorbell and, unmasked, the receiver's line; a write into a
full mailbox is ignored and counted; the receiver's read empties it and rings the other doorbell, and the sender's writes of the same cycle see
it full; doorbell bits are cleared by writing 1; a long wait is an event. Writes of an andiron wait while comparator 10 holds some back.
SERVICE_REQUEST (R535): in SERVICE with mailbox 15 empty the request in mailbox 14 is taken and answered: an echo returns its
payload under 0x8001,
an unknown CODE is answered 0xFFFF.
The model's own choices behind it: log entry 34. -/
def Obligations.MailboxCommands : Prop :=
  (∀ (s : State) (m : Nat), s.sys.phase = .run → m < 14 → s.flag F.HOB_STATUS_RUNNING = true → s.mbx.data.length = 16 →
     (s.mbx.data.getD m []).length = 16 → s.mbx.since.length = 16 →
     (mbxSender m < 2 → s.mbxGated = true → ∀ l : List (Nat × Word), (∀ x ∈ l, x.1 < 16) →
       exec (.messageSend (mbxSender m) m l) s = .next { s with mbx := { s.mbx with
         held := s.mbx.held ++ l.map (fun x => (mbxSender m, m, x.1, x.2)) } }) ∧
     (∀ w : Word, (mbxSender m < 2 → s.mbxGated = false) → bit (s.getF F.MBX_STATUS_FULL) m = false →
       ∃ t, exec (.messageSend (mbxSender m) m [(15, w)]) s = .next t ∧ bit (t.getF F.MBX_STATUS_FULL) m = true ∧
         (t.mbx.data.getD m []).getD 15 0 = w ∧ t.getF (F.MBX_STAT_SENT m) = (s.getF (F.MBX_STAT_SENT m) + 1) % 256 ∧
         bit (t.reg 0x4016000C).toNat m = true ∧ t.mbx.since.getD m 0 = s.sys.tick ∧
         (bit (s.reg F.MBX_DB_MASK_MASK.addr).toNat m = true → t.doorbellLine (mbxReceiver m) = true) ∧ s.SameRegs [0x4016] t ∧ s.SameStores t) ∧
     (∀ k (w : Word), k < 16 → (mbxSender m < 2 → s.mbxGated = false) → bit (s.getF F.MBX_STATUS_FULL) m = true →
       ∃ t, exec (.messageSend (mbxSender m) m [(k, w)]) s = .next t ∧ t.mbx.data = s.mbx.data ∧
         t.getF (F.MBX_STAT_BLOCKED m) = min 255 (s.getF (F.MBX_STAT_BLOCKED m) + 1) ∧ bit (t.getF F.MBX_STATUS_FULL) m = true ∧
         s.SameRegs [0x4016] t ∧ s.SameStores t) ∧
     (bit (s.getF F.MBX_STATUS_FULL) m = true →
       ∃ t, exec (.messageTake (mbxReceiver m) m []) s = .next t ∧ bit (t.getF F.MBX_STATUS_FULL) m = false ∧
         t.getF (F.MBX_STAT_TAKEN m) = (s.getF (F.MBX_STAT_TAKEN m) + 1) % 256 ∧ bit (t.reg 0x4016000C).toNat (16 + m) = true ∧
         t.mbx.data = s.mbx.data ∧ s.SameRegs [0x4016] t ∧ s.SameStores t) ∧
     (∀ k (w : Word), k < 16 → (mbxSender m < 2 → s.mbxGated = false) → bit (s.getF F.MBX_STATUS_FULL) m = true →
       ∃ t, exec (.messageTake (mbxReceiver m) m [(k, w)]) s = .next t ∧ bit (t.getF F.MBX_STATUS_FULL) m = false ∧
         t.getF (F.MBX_STAT_TAKEN m) = (s.getF (F.MBX_STAT_TAKEN m) + 1) % 256 ∧
         t.getF (F.MBX_STAT_BLOCKED m) = min 255 (s.getF (F.MBX_STAT_BLOCKED m) + 1) ∧ t.mbx.data = s.mbx.data ∧
         s.SameRegs [0x4016] t ∧ s.SameStores t) ∧
     (∀ side value rung, side < 3 →
       ∃ t, exec (.mbxDbPend side value rung) s = .next t ∧ { t with regs := s.regs } = s ∧ s.OnlyRegs [0x4016000C] t ∧
         ∀ b, b < 32 → bit (t.reg 0x4016000C).toNat b = (bit (s.reg 0x4016000C).toNat b && (!bit value b || bit rung b))) ∧
     (bit (s.getF F.MBX_STATUS_FULL) m = true → 32000 ≤ s.sys.tick - s.mbx.since.getD m 0 →
       ∃ t, exec (.longWait m) s = .next t ∧ bit (t.getF F.MBX_EVENT_SEEN) 1 = true ∧ s.OnlyRegs [F.MBX_EVENT_SEEN.addr] t ∧
         s.SameStores t)) ∧
  (∀ s : State, s.sys.phase = .run → s.mode = .service → bit (s.getF F.MBX_STATUS_FULL) 14 = true →
     bit (s.getF F.MBX_STATUS_FULL) 15 = false → s.mbx.data.length = 16 → (s.mbx.data.getD 15 []).length = 16 →
     ((s.mbxWord 14 0).toNat % 65536 = 1 → (s.mbxWord 14 1).toNat ≤ 56 →
       ∃ t, exec .serviceRequest s = .next t ∧ bit (t.getF F.MBX_STATUS_FULL) 14 = false ∧ bit (t.getF F.MBX_STATUS_FULL) 15 = true ∧
         (t.mbxWord 15 0).toNat % 65536 = 0x8001 ∧ (t.mbxWord 15 0).toNat / 65536 = (s.mbxWord 14 0).toNat / 65536 ∧
         t.mbxWord 15 1 = s.mbxWord 14 1 ∧
         (∀ k, 4 * k < (s.mbxWord 14 1).toNat → t.mbxWord 15 (2 + k) = s.mbxWord 14 (2 + k)) ∧
         s.SameRegs [0x4016] t ∧ s.SameStores t) ∧
     (4 ≤ (s.mbxWord 14 0).toNat % 65536 →
       ∃ t, exec .serviceRequest s = .next t ∧ bit (t.getF F.MBX_STATUS_FULL) 15 = true ∧
         (t.mbxWord 15 0).toNat % 65536 = 0xFFFF ∧ t.mbxWord 15 1 = 0 ∧
         s.SameRegs [0x4016] t ∧ s.SameStores t))

/-- Frames of the service port (R537, R539): a frame whose CRC does not check is answered CRC and does nothing else.
SVC_ABANDON and the JTAG port (R538, R540, R544): an abandoned frame is counted and answers nothing; IDCODE always shifts out, outside BLANK every
other instruction acts as BYPASS, and in BLANK a boundary scan drives its cells; ACTIVE shows that the TAP is out of Test-Logic-Reset. The moves of
the TAP are those of IEEE 1149.1, presumed (log entry 33).
The model's own choices behind it: log entries 32, 33. -/
def Obligations.ServiceFramesAndJtag : Prop :=
  (∀ (s : State) (f : SvcFrame) (cmd : Nat) (c : Instr), s.sys.phase = .run → s.sys.wiped = true → crcChecks cmd f = false →
     ((cmd, c) ∈ [(1, .read f none), (2, .write f), (3, .ashRead f), (4, .enterService f), (5, .replayAbort f), (6, .flashErase f),
       (7, .flashProgram f), (8, .flashRead f true), (9, .otpKey f)]) →
     ∃ t, exec c s = .next t ∧ t.svc.status = some 1 ∧ t.svc.miso = svcMiso cmd f [] 1 ∧ t.svc.nvm = s.svc.nvm ∧ t.mode = s.mode ∧
       t.getF F.SVC_LAST_STATUS = 1 ∧ t.getF F.SVC_CRC_CNT_COUNT = min (2 ^ 32 - 1) (s.getF F.SVC_CRC_CNT_COUNT + 1) ∧
       t.getF F.SVC_FRAME_CNT_COUNT = min (2 ^ 32 - 1) (s.getF F.SVC_FRAME_CNT_COUNT + 1) ∧ s.SameRegs [0x4017] t ∧ s.SameStores t) ∧
  (∀ s : State, s.sys.phase = .run →
     (∀ header mode3,
       ∃ t, exec (.svcAbandon header mode3) s = .next t ∧ t.getF F.SVC_ABANDON_CNT_COUNT = min (2 ^ 32 - 1) (s.getF F.SVC_ABANDON_CNT_COUNT + 1) ∧
         t.getF F.SVC_FRAME_CNT_COUNT = min (2 ^ 32 - 1) (s.getF F.SVC_FRAME_CNT_COUNT + 1) ∧ t.svc = s.svc ∧ s.SameRegs [0x4017] t ∧
         s.SameStores t) ∧
     (∀ ir tms trst, ir < 256 →
       ∃ t, exec (.jtagInstruction ir .idcode tms trst) s = .next t ∧ t.svc.tdo = [0x39430B87] ∧ t.getF F.SVC_JTAG_LAST_IR = ir ∧
         t.svc.tap = (if trst = true then .testLogicReset else tms.foldl Tap.next .runTestIdle) ∧
         t.flag F.SVC_JTAG_ACTIVE = decide (t.svc.tap ≠ .testLogicReset) ∧ s.OnlyRegs [F.SVC_JTAG_ACTIVE.addr] t ∧ s.SameStores t) ∧
     (∀ ir what tms trst, ir < 256 → s.otp.lifecycle ≠ 0 → what ≠ .idcode →
       ∃ t, exec (.jtagInstruction ir what tms trst) s = .next t ∧ t.svc.tdo = [0] ∧ t.svc.scan = none ∧
         t.flag F.SVC_JTAG_ACTIVE = decide (t.svc.tap ≠ .testLogicReset) ∧ s.OnlyRegs [F.SVC_JTAG_ACTIVE.addr] t ∧ s.SameStores t) ∧
     (∀ ir cells, s.otp.lifecycle = 0 →
       ∃ t, exec (.jtagInstruction ir (.boundary cells) [] false) s = .next t ∧ t.svc.scan = some cells ∧
         t.svc.tdo.length = ceilDiv cells.length 32 ∧ s.OnlyRegs [F.SVC_JTAG_ACTIVE.addr] t ∧ s.SameStores t))

/-- READ, WRITE and ASH_READ (R8, R497, R537, R538): on SVC_MISO 0xFF while the host sends, the fill while busy, the sync byte, the data with words
most significant byte first and its CRC, and the status; the tile space reads 0 outside SERVICE and is not written there, which is answered
LOCKED; the MRAM reads up to the tail, and BUSY while a power-fail window is written, on hold-up energy too.
The model's own choices behind it: log entries 32, 47. -/
def Obligations.ServiceAccess : Prop :=
  ∀ (s : State) (f : SvcFrame), s.sys.wiped = true →
    (s.sys.phase = .run → f.addr % 4 = 0 →
      (f.len = 1 → 0x20000000 ≤ f.addr → f.addr < 0x20800000 →
        (crcChecks 1 f = true →
          ∃ t, exec (.read f none) s = .next t ∧ t.svc.status = some 0 ∧ s.SameRegs [0x4017] t ∧ s.SameStores t ∧
            t.svc.miso = svcMiso 1 f (beBytes 4 (if s.mode = .service then Mem.word 0 s.tiles f.addr else 0).toNat) 0) ∧
        (∀ w, f.data = [w] → crcChecks 2 f = true → s.mode = .service →
          ∃ t, exec (.write f) s = .next t ∧ t.svc.status = some 0 ∧
            (∀ i, i < 4 → Mem.byte 0 t.tiles (f.addr + i) = (leBytes 4 w.toNat).getD i 0) ∧
            (∀ x, x < f.addr ∨ f.addr + 4 ≤ x → Mem.byte 0 t.tiles x = Mem.byte 0 s.tiles x) ∧
            t.getF F.SVC_WRITE_WORD_CNT_COUNT = min (2 ^ 32 - 1) (s.getF F.SVC_WRITE_WORD_CNT_COUNT + 1) ∧ s.SameRegs [0x4017] t) ∧
        (∀ w, f.data = [w] → crcChecks 2 f = true → s.mode ≠ .service →
          ∃ t, exec (.write f) s = .next t ∧ t.svc.status = some 3 ∧ t.tiles = s.tiles ∧
            t.getF F.SVC_LOCKED_CNT_COUNT = min (2 ^ 32 - 1) (s.getF F.SVC_LOCKED_CNT_COUNT + 1) ∧
            t.getF F.SVC_WRITE_WORD_CNT_COUNT = s.getF F.SVC_WRITE_WORD_CNT_COUNT ∧ s.SameRegs [0x4000, 0x4017] t)) ∧
      (f.len = 1 → f.addr / 0x10000 = 0x4005 → (findReg f.addr).isSome = true → crcChecks 1 f = true →
        ∃ t, exec (.read f none) s = .next t ∧ t.svc.status = some 0 ∧ t.svc.miso = svcMiso 1 f (beBytes 4 (s.reg f.addr).toNat) 0 ∧
          s.SameRegs [0x4017] t ∧ s.SameStores t)) ∧
    (1 ≤ f.len → f.len ≤ 4096 → f.addr + f.len ≤ s.getF F.ASH_TAIL_ADDR → crcChecks 3 f = true →
      (s.sys.phase = .run → s.flag F.ASH_STATUS_PF_ACTIVE = false →
        ∃ t, exec (.ashRead f) s = .next t ∧ t.svc.status = some 0 ∧ t.svc.miso = svcMiso 3 f (Mem.read 0 s.mram f.addr f.len) 0 ∧
          t.getF F.ASH_READ_CNT_COUNT = min (2 ^ 32 - 1) (s.getF F.ASH_READ_CNT_COUNT + 1) ∧
          s.SameRegs [0x4012, 0x4017] t ∧ s.SameStores t) ∧
      (s.sys.phase = .run ∨ s.sys.phase = .holdup → s.flag F.ASH_STATUS_PF_ACTIVE = true →
        ∃ t, exec (.ashRead f) s = .next t ∧ t.svc.status = some 6 ∧ t.svc.miso = svcMiso 3 f [] 6 ∧
          t.getF F.SVC_BUSY_CNT_COUNT = min (2 ^ 32 - 1) (s.getF F.SVC_BUSY_CNT_COUNT + 1) ∧
          s.SameRegs [0x4017] t ∧ s.SameStores t))

/-- ENTER_SERVICE, REPLAY_ABORT and JRN_REPLAY_CMD (R58, R494, R496, R538): SERVICE is entered from SAFE-HOLD with its key, not in
RETIRED, not from another
mode nor with another key; an abort takes REPLAY to its end; another key starts no replay; a replay without an image, without its window or of
another image ends with its result.
The model's own choices behind it: log entry 32. -/
def Obligations.ServiceModes : Prop :=
  ∀ (s : State) (f : SvcFrame), s.sys.phase = .run →
    (s.sys.wiped = true → f.len = 0 →
      (f.addr = 0x53C7 → crcChecks 4 f = true → s.mode = .safeHold → s.otp.lifecycle ≠ 4 →
        ∃ t, exec (.enterService f) s = .next t ∧ t.mode = .service ∧ t.svc.status = some 0) ∧
      (f.addr = 0x53C7 → crcChecks 4 f = true → s.mode ≠ .safeHold ∨ s.otp.lifecycle = 4 →
        ∃ t, exec (.enterService f) s = .next t ∧ t.mode = s.mode ∧ t.svc.status = some 4 ∧
          t.getF F.SVC_WRONG_MODE_CNT_COUNT = min (2 ^ 32 - 1) (s.getF F.SVC_WRONG_MODE_CNT_COUNT + 1) ∧
          s.SameRegs [0x4017] t ∧ s.SameStores t) ∧
      (f.addr ≠ 0x53C7 → crcChecks 4 f = true →
        ∃ t, exec (.enterService f) s = .next t ∧ t.mode = s.mode ∧ t.svc.status = some 5 ∧
          t.getF F.SVC_BAD_KEY_CNT_COUNT = min (2 ^ 32 - 1) (s.getF F.SVC_BAD_KEY_CNT_COUNT + 1) ∧
          s.SameRegs [0x4017] t ∧ s.SameStores t) ∧
      (f.addr = 0 → crcChecks 5 f = true → s.mode = .replay →
        ∃ t, exec (.replayAbort f) s = .next t ∧ t.jrn.abort = true ∧ t.svc.status = some 0 ∧ t.mode = .replay ∧
          s.SameRegs [0x4017] t ∧ s.SameStores t) ∧
      (f.addr = 0 → crcChecks 5 f = true → s.mode ≠ .replay →
        ∃ t, exec (.replayAbort f) s = .next t ∧ t.jrn = s.jrn ∧ t.svc.status = some 4 ∧ t.mode = s.mode ∧
          s.SameRegs [0x4017] t ∧ s.SameStores t)) ∧
    (s.mode = .service →
      (∀ key, key ≠ 0x7E91 → exec (.jrnReplayCmd key) s = .next s) ∧
      (s.flag F.SYS_STATUS_IMG_VALID = false →
        ∃ t, exec (.jrnReplayCmd 0x7E91) s = .next t ∧ t.getF F.JRN_REPLAY_STAT_RESULT = 7 ∧ t.mode = .service ∧
          s.OnlyRegs [F.JRN_REPLAY_STAT_RESULT.addr] t ∧ { t with regs := s.regs } = s) ∧
      (s.flag F.SYS_STATUS_IMG_VALID = true → s.replayWindow (s.getF F.JRN_REPLAY_SEL_SEQ) = none →
        ∃ t, exec (.jrnReplayCmd 0x7E91) s = .next t ∧ t.getF F.JRN_REPLAY_STAT_RESULT = 6 ∧ t.mode = .service ∧
          s.OnlyRegs [F.JRN_REPLAY_STAT_RESULT.addr] t ∧ { t with regs := s.regs } = s) ∧
      (∀ a, s.flag F.SYS_STATUS_IMG_VALID = true → s.replayWindow (s.getF F.JRN_REPLAY_SEL_SEQ) = some a →
        (((s.mramRead (a + 32) (ofLe (s.mramRead (a + 4) 4))).drop 32).take 32 = s.img.digest →
          ∃ t, exec (.jrnReplayCmd 0x7E91) s = .next t ∧ t.mode = .replay ∧ t.getF F.JRN_REPLAY_STAT_RESULT = 1 ∧
            t.mram = s.mram ∧ t.flash = s.flash ∧ t.otp = s.otp) ∧
        (((s.mramRead (a + 32) (ofLe (s.mramRead (a + 4) 4))).drop 32).take 32 ≠ s.img.digest →
          ∃ t, exec (.jrnReplayCmd 0x7E91) s = .next t ∧ t.getF F.JRN_REPLAY_STAT_RESULT = 5 ∧ t.mode = .service ∧
            s.OnlyRegs [F.JRN_REPLAY_STAT_RESULT.addr] t ∧ { t with regs := s.regs } = s))) ∧
    (∀ key, s.mode ≠ .service → exec (.jrnReplayCmd key) s = .next (s.lockedWrite F.JRN_REPLAY_CMD_KEY.addr))

/-- The non-volatile commands (R538, R543): in SERVICE with no operation running an erase, a program or a key operation starts and is counted; a flash
read answers its bytes; while one runs each is answered BUSY, and in another mode each is answered WRONG_MODE, and none starts.
NVM_OPERATION_COMPLETE (R538): the erased 64 KB read 0xFF, a program only clears bits, a key fills its slot, and everything else
keeps its bytes.
The model's own choices behind it: log entries 32, 47. -/
def Obligations.NonVolatileMemory : Prop :=
  (∀ (s : State) (f : SvcFrame), s.sys.phase = .run → s.sys.wiped = true →
     (s.mode = .service → s.svc.nvm = none →
       (crcChecks 6 f = true → f.len = 0 → f.addr % 0x10000 = 0 → f.addr < 0x400000 →
         ∃ t, exec (.flashErase f) s = .next t ∧ t.svc.nvm = some ⟨1, f.addr, []⟩ ∧ t.svc.status = some 0 ∧ t.flag F.SVC_NVM_BUSY = true ∧
           t.getF F.SVC_ERASE_CNT_COUNT = min (2 ^ 32 - 1) (s.getF F.SVC_ERASE_CNT_COUNT + 1) ∧
           s.SameRegs [0x4017] t ∧ s.SameStores t) ∧
       (crcChecks 7 f = true → 1 ≤ f.len → f.len ≤ 64 → f.addr + 4 * f.len ≤ 0x400000 → f.addr / 256 = (f.addr + 4 * f.len - 1) / 256 →
         ∃ t, exec (.flashProgram f) s = .next t ∧ t.svc.nvm = some ⟨2, f.addr, wireBytes (f.data.take f.len)⟩ ∧ t.svc.status = some 0 ∧
           t.getF F.SVC_PROGRAM_CNT_COUNT = min (2 ^ 32 - 1) (s.getF F.SVC_PROGRAM_CNT_COUNT + 1) ∧
           s.SameRegs [0x4017] t ∧ s.SameStores t) ∧
       (crcChecks 8 f = true → 1 ≤ f.len → f.len ≤ 256 → f.addr + 4 * f.len ≤ 0x400000 →
         ∃ t, exec (.flashRead f true) s = .next t ∧ t.svc.status = some 0 ∧
           t.svc.miso = svcMiso 8 f (Mem.read 0xFF s.flash f.addr (4 * f.len)) 0 ∧ t.svc.nvm = none ∧
           s.SameRegs [0x4017] t ∧ s.SameStores t) ∧
       (crcChecks 9 f = true → f.len = 8 → f.addr < 4 → s.otp.keys.getD f.addr none = none →
         ∃ t, exec (.otpKey f) s = .next t ∧ t.svc.nvm = some ⟨3, f.addr, wireBytes (f.data.take 8)⟩ ∧ t.svc.status = some 0 ∧
           t.getF F.SVC_OTP_CNT_COUNT = min (2 ^ 32 - 1) (s.getF F.SVC_OTP_CNT_COUNT + 1) ∧
           s.SameRegs [0x4017] t ∧ s.SameStores t)) ∧
     (∀ (cmd : Nat) (c : Instr) (answers : Bool), s.mode ≠ .service ∨ s.svc.nvm.isSome = true → crcChecks cmd f = true →
       (cmd = 6 ∧ c = .flashErase f ∧ f.len = 0 ∧ f.addr % 0x10000 = 0 ∧ f.addr < 0x400000 ∨
         cmd = 7 ∧ c = .flashProgram f ∧ 1 ≤ f.len ∧ f.len ≤ 64 ∧ f.addr + 4 * f.len ≤ 0x400000 ∧
           f.addr / 256 = (f.addr + 4 * f.len - 1) / 256 ∨
         cmd = 8 ∧ c = .flashRead f answers ∧ 1 ≤ f.len ∧ f.len ≤ 256 ∧ f.addr + 4 * f.len ≤ 0x400000 ∨
         cmd = 9 ∧ c = .otpKey f ∧ f.len = 8 ∧ f.addr < 4) →
       ∃ t, exec c s = .next t ∧ t.svc.nvm = s.svc.nvm ∧ t.svc.status = some (if s.mode = .service then 6 else 4) ∧
         t.svc.miso = svcMiso cmd f [] (if s.mode = .service then 6 else 4) ∧
         t.getF F.SVC_ERASE_CNT_COUNT = s.getF F.SVC_ERASE_CNT_COUNT ∧ t.getF F.SVC_PROGRAM_CNT_COUNT = s.getF F.SVC_PROGRAM_CNT_COUNT ∧
         t.getF F.SVC_OTP_CNT_COUNT = s.getF F.SVC_OTP_CNT_COUNT ∧ s.SameRegs [0x4017] t ∧ s.SameStores t)) ∧
  (∀ (s : State) (x : Nvm), s.sys.phase = .run → s.svc.nvm = some x → s.MemOk →
     (x.op = 1 → ∃ t, exec (.nvmOperationComplete true true) s = .next t ∧ t.svc.nvm = none ∧ t.flag F.SVC_NVM_BUSY = false ∧
       t.getF F.SVC_NVM_RESULT = 0 ∧ (∀ a, x.addr ≤ a → a < x.addr + 0x10000 → Mem.byte 0xFF t.flash a = 0xFF) ∧
       (∀ a, a < x.addr ∨ x.addr + 0x10000 ≤ a → Mem.byte 0xFF t.flash a = Mem.byte 0xFF s.flash a) ∧ t.otp = s.otp ∧
         s.SameRegs [0x4017] t) ∧
     (x.op = 2 → ∃ t, exec (.nvmOperationComplete true true) s = .next t ∧ t.svc.nvm = none ∧
       (∀ i, i < x.data.length → Mem.byte 0xFF t.flash (x.addr + i) = Mem.byte 0xFF s.flash (x.addr + i) &&& x.data.getD i 0) ∧
       (∀ a, a < x.addr ∨ x.addr + x.data.length ≤ a → Mem.byte 0xFF t.flash a = Mem.byte 0xFF s.flash a) ∧ t.otp = s.otp ∧
         s.SameRegs [0x4017] t) ∧
     (x.op = 3 → ∃ t, exec (.nvmOperationComplete true true) s = .next t ∧ t.svc.nvm = none ∧ t.flash = s.flash ∧
       t.otp = { s.otp with keys := s.otp.keys.set x.addr (some (ofBe x.data)) } ∧ t.getF F.SVC_NVM_RESULT = 0 ∧
       s.SameRegs [0x4017] t))

/-! Hobs, samples and self-checking -/

/-- HOB_DISPATCH and BLOCK_STAGE (R87, R88, R90, R118): an idle hob that no other idle hob comes before takes the entry that R87 picks,
counts a steal and keeps which hob took the copy, and a set copied into the inactive bank is swapped in; an entry of its own queue it
takes before any thief; what a hob
finishes is staged and nothing of it is visible. Where the condition of a command does
not hold the state stays, by the model's choice (log entry 1).
The model's own choices behind it: log entries 1, 27. -/
def Obligations.HobExecution : Prop :=
  ∀ (s : State) (hob : Nat), s.sys.phase = .run → hob < 64 →
    (∀ i copyB stolen cross, s.flag F.HOB_STATUS_RUNNING = true → s.getF (F.HOB_ENGINE_STATE hob) = 0 →
      s.pick hob = some ((i, copyB), stolen, cross) →
      stolen = false ∧ (∀ n, n < hob → s.getF (F.HOB_ENGINE_STATE n) ≠ 0) ∨ (∀ n, n < 64 → n ≠ hob → s.getF (F.HOB_ENGINE_STATE n) ≠ 0) →
      ∃ t, exec (.hobDispatch hob) s = .next t ∧ t.getF (F.HOB_ENGINE_STATE hob) = 1 ∧
        t.gr.exec = s.gr.exec ++ [⟨hob, i, copyB, false⟩] ∧ t.gr.sigs = s.gr.sigs ∧
        t.getF F.HOB_STEAL_CNT_COUNT = min (2 ^ 32 - 1) (s.getF F.HOB_STEAL_CNT_COUNT + (if stolen = true then 1 else 0)) ∧
        (cross = true → t.flag F.HOB_STATUS_CROSS_HALF_SEEN = true) ∧
        ((s.inst i).pend = none → s.SameRegs [0x4005] t ∧ (i < s.gr.insts.length →
          t.inst i = if copyB = true then { s.inst i with ranB := some hob } else { s.inst i with ranA := some hob })) ∧
        (∀ k, k ≠ i → t.inst k = s.inst k) ∧
        (∀ k words cause, (s.inst i).pend = some (k, words, cause) → i < s.gr.insts.length →
          (t.inst i).bank = words ∧ (t.inst i).act = k ∧ (t.inst i).pend = none) ∧
        s.SameRegs [0x4005, 0x4006] t ∧ s.SameStores t) ∧
    (s.flag F.HOB_STATUS_RUNNING = true → s.getF (F.HOB_ENGINE_STATE hob) = 0 → (∀ c, c < 8 → s.queueOf c = []) →
      ∃ t, exec (.hobDispatch hob) s = .next t ∧ t.gr = s.gr ∧ s.SameRegs [0x4005] t ∧ s.SameStores t) ∧
    (s.getF (F.HOB_ENGINE_STATE hob) ≠ 0 → exec (.hobDispatch hob) s = .next s) ∧
    (∀ e ins upset tiles, s.gr.exec.find? (fun x => decide (x.hob = hob)) = some e → e.late = false →
      (s.inst e.inst).sample = .due → s.inputs e.inst e.copyB = some ins → hob ∉ s.age.rollDue → e.inst < s.gr.insts.length →
      ∃ t w, exec (.blockStage hob upset tiles) s = .next t ∧ t.getF (F.HOB_ENGINE_STATE hob) = 0 ∧
        (∀ x ∈ t.gr.exec, x.hob ≠ hob) ∧ (if e.copyB = true then (t.inst e.inst).b else (t.inst e.inst).a) = some w ∧
        w.ins = ins ∧ w.outs = (s.compute e.inst ins upset).outs ∧ w.st = (s.compute e.inst ins upset).st ∧ w.hob = hob ∧
        (t.inst e.inst).st = (s.inst e.inst).st ∧ (∀ k, k ≠ e.inst → t.inst k = s.inst k) ∧ t.gr.sigs = s.gr.sigs ∧
        s.SameRegs [0x4005] t ∧ s.SameStores t)

/-- COMMIT and DEADLINE_MISS (R91, R95, R99): where the conditions of R91 hold, outputs, state and age flags are written in one step and
no other instance or signal changes; where they do not hold nothing happens; a slot that ends with samples not committed counts them
as missed and raises DEADLINE_MISS; a sample that has committed and misses after all, by a NO_COMMIT marker of REPLAY, gives back the
state words and the outputs of the slot start, these with the age flag. Where the condition of a command does not hold the state stays,
by the model's choice (log entry
1).
The model's own choices behind it: log entries 1, 27, 28. -/
def Obligations.CommitAndMiss : Prop :=
  ∀ s : State, s.sys.phase = .run → s.flag F.HOB_STATUS_RUNNING = true →
    (∀ i slack wait, s.mayCommit i = false → exec (.commit i slack wait) s = .next s) ∧
    (∀ i w slack wait, s.mayCommit i = true → (s.inst i).a = some w → (s.node i).ty < 68 → w.raises = [] → s.Quiet 0x2F →
      i < s.gr.insts.length → (∀ k, (s.inst i).cause = some k → k < 24) →
      ∃ t, exec (.commit i slack wait) s = .next t ∧ (t.inst i).st = w.st ∧ (t.inst i).sample = .committed ∧ t.mode = s.mode ∧
        (∀ m k, (s.node i).outs.Nodup → (s.node i).outs[m]? = some k → m < w.outs.length → k < s.gr.sigs.length →
          (t.sig k).v = (w.outs.getD m (0, false)).1 ∧ (t.sig k).age = ((w.outs.getD m (0, false)).2 || (s.inst i).aged)) ∧
        (∀ k, k ∉ (s.node i).outs → t.sig k = s.sig k) ∧ (∀ k, k ≠ i → t.inst k = s.inst k) ∧
        s.SameRegs (0x4004 :: 0x4005 :: 0x4006 :: raiseBlocks) t ∧ s.SameStores t) ∧
    (∀ k sc, k < 5 → s.gr.s = some sc → k ∈ slotsEnding sc s.gr.j → s.gr.open_.getD k false = true → s.gr.skip.getD k false = false →
      s.img.nodes.length ≤ 8192 →
      (s.missing k = [] → ∃ t, exec (.deadlineMiss k) s = .next t ∧ t.gr = s.gr ∧ s.SameRegs [0x4005] t ∧ s.SameStores t) ∧
      (s.missing k ≠ [] → (∀ i ∈ s.missing k, (s.inst i).sample ≠ .committed) → s.Quiet (0x2A + k) → s.asserted (0x2A + k) = false →
        ∃ t, exec (.deadlineMiss k) s = .next t ∧ t.sticky (0x2A + k) = true ∧ t.flag F.HOB_STATUS_MISS_SEEN = true ∧
          t.getF F.HOB_MISS_CNT_COUNT = min (2 ^ 32 - 1) (s.getF F.HOB_MISS_CNT_COUNT + (s.missing k).length) ∧
          (∀ i ∈ s.missing k, i < s.gr.insts.length → (t.inst i).sample = .missed) ∧
          (∀ i, i ∉ s.missing k → (t.inst i) = s.inst i) ∧ t.mode = s.mode ∧
          s.SameRegs (0x4004 :: 0x4005 :: raiseBlocks) t ∧ s.SameStores t) ∧
      (∀ i v, s.missing k = [i] → (s.inst i).sample = .committed → (s.inst i).saved = some v → i < s.gr.insts.length →
        (s.node i).ty < 30 → v.held = false → v.pts = [] → v.counted = [] → s.Quiet (0x2A + k) → s.asserted (0x2A + k) = false →
        ∃ t, exec (.deadlineMiss k) s = .next t ∧ t.sticky (0x2A + k) = true ∧ (t.inst i).sample = .missed ∧ (t.inst i).st = v.st ∧
          (∀ m ∈ (s.node i).outs, m < s.gr.sigs.length → (t.sig m).v = (s.sig m).pv ∧ (t.sig m).age = true) ∧ t.mode = s.mode ∧
          s.SameRegs (0x4004 :: 0x4005 :: 0x4006 :: raiseBlocks) t ∧ s.SameStores t))

/-- BUS_OUTPUT_WRITE (R426, R427, R429, R430): a write waits for its partner, or stalls where the FIFO is full; an equal pair is released: a tile
write of the andirons to its enabled bytes, a register write to its register, by the model's choice of what a release does here (log
entry 29); a duplicated pair whose other comparator has flagged the write withholds it and is CMP_FAIL.
Mismatches at the comparators (R93, R427, R429): a pair that differs, or a partner that does not arrive, is counted, raised and discarded under
its tag, of the andirons on all their comparators; the first is retried, a second is lasting, as the table of R429 and, of 0 to 7 and 13,
R93 have it; of 23 the stronger action is taken at once. Which comparator keeps account of a retry is the model's choice (log entry 29).
The model's own choices behind it: log entry 29. -/
def Obligations.BusOutputs : Prop :=
  (∀ (s : State) (k : Nat) (side : Bool) (w : BusWrite), s.sys.phase = .run → k < 24 → s.tagLive k w = true → s.liveLane k = k →
     s.cmps.length = 24 → (∀ m ∈ k :: andironCmps, (s.cmps.getD m {}).stalled = []) →
     ((∀ e ∈ (s.cmps.getD k {}).fifo, e.1 = side ∨ e.2.tag ≠ w.tag ∨ e.2.sample ≠ w.sample) →
       ((s.cmps.getD k {}).fifo.length < 256 →
         ∃ t, exec (.busOutputWrite k side w) s = .next t ∧ (t.cmps.getD k {}).fifo = (s.cmps.getD k {}).fifo ++ [(side, w)] ∧
           t.getF (F.CMP_STAT_DEPTH k) = (s.cmps.getD k {}).fifo.length + 1 ∧ s.OnlyRegs [(F.CMP_STAT_DEPTH k).addr] t ∧
           (∀ m, m ≠ k → t.cmps.getD m {} = s.cmps.getD m {}) ∧ { t with regs := s.regs, cmps := s.cmps } = s) ∧
       (256 ≤ (s.cmps.getD k {}).fifo.length →
         ∃ t, exec (.busOutputWrite k side w) s = .next t ∧ (t.cmps.getD k {}).stalled = [(side, w)] ∧
           (t.cmps.getD k {}).fifo = (s.cmps.getD k {}).fifo ∧ { t with cmps := s.cmps } = s)) ∧
     (∀ e, (s.cmps.getD k {}).fifo.find? (fun e => decide (e.1 ≠ side) && decide (e.2.tag = w.tag) && decide (e.2.sample = w.sample)) =
         some e → e.2 = w → (s.cmps.getD k {}).fifo.length ≤ 256 → s.isRetry k w.tag = false →
       ((k < 8 ∨ 13 ≤ k) → (∀ m, pairOf k = some m → (s.cmps.getD m {}).flagged.contains w.tag = false) →
         ∃ t, exec (.busOutputWrite k side w) s = .next t ∧ (t.cmps.getD k {}).fifo = (s.cmps.getD k {}).fifo.erase e ∧
           t.getF (F.CMP_STAT_DEPTH k) = (s.cmps.getD k {}).fifo.length - 1 ∧ s.OnlyRegs [(F.CMP_STAT_DEPTH k).addr] t ∧
           { t with regs := s.regs, cmps := s.cmps } = s) ∧
       (∀ m, pairOf k = some m → (s.cmps.getD m {}).flagged.contains w.tag = true → s.Quiet 0x19 → s.asserted 0x19 = false →
         ∃ t, exec (.busOutputWrite k side w) s = .next t ∧ t.sticky 0x19 = true ∧ (k = 16 ∨ k = 19 → t.flu.withhold = true) ∧
           (k = 17 ∨ k = 20 → t.gdr.enOffHalf = true) ∧ (k = 18 ∨ k = 21 → t.ash.withhold = true) ∧ t.mode = s.mode ∧
           s.SameRegs (0x4004 :: raiseBlocks) t ∧ s.SameStores t) ∧
       (k = 9 →
         ∃ t, exec (.busOutputWrite k side w) s = .next t ∧
           (∀ a, Mem.byte 0 t.tiles a =
             if tileBase ≤ a ∧ a < tileBase + 0x800000 ∧ w.addr ≤ a ∧ a < w.addr + 32 ∧ bit w.be (a - w.addr) = true then
               BitVec.ofNat 8 (w.data / 256 ^ (a - w.addr))
             else Mem.byte 0 s.tiles a) ∧
           s.OnlyRegs [(F.CMP_STAT_DEPTH k).addr] t ∧ { t with regs := s.regs, cmps := s.cmps, tiles := s.tiles } = s) ∧
       (∀ a v kk f, k = 11 → busWords w = [(a, v)] → guards k a = true → findReg a = some (kk, f) → kk.rw ≠ 0 →
         isoAbsent a = false → ownWrite a = false →
         ∃ t, exec (.busOutputWrite k side w) s = .next t ∧ t.reg a = mixBits (s.reg a) v kk.rw ∧
           s.OnlyRegs [(F.CMP_STAT_DEPTH k).addr, a] t ∧ { t with regs := s.regs, cmps := s.cmps } = s))) ∧
  (∀ (s : State) (k : Nat) (side : Bool) (w : BusWrite) (c : Instr) (e : Bool × BusWrite), s.sys.phase = .run → k < 24 →
     s.tagLive k w = true → s.liveLane k = k → s.cmps.length = 24 → (∀ m ∈ k :: andironCmps, (s.cmps.getD m {}).stalled = []) →
     (c = .busOutputWrite k side w ∧
         (s.cmps.getD k {}).fifo.find? (fun e => decide (e.1 ≠ side) && decide (e.2.tag = w.tag) && decide (e.2.sample = w.sample)) = some e ∧
         e.2 ≠ w ∨
       c = .cmpTimeout k w.tag ∧ (s.cmps.getD k {}).fifo.find? (fun e => decide (e.2.tag = w.tag)) = some e) →
     s.Quiet k → s.asserted k = false → s.Quiet 0x18 → s.asserted 0x18 = false → s.Quiet 0x19 → s.Quiet 0x30 →
     (8 ≤ k → k ≠ 13 → (k ≠ 23 ∨ s.mode.recordsOnly = true) →
       ∃ t, exec c s = .next t ∧ t.sticky k = true ∧ t.mode = s.mode ∧
         (∀ m ∈ (if andironCmps.contains k = true then andironCmps else [k]), ∀ x ∈ (t.cmps.getD m {}).fifo, x.2.tag ≠ w.tag) ∧
         t.getF (F.CMP_MISMATCH_CNT_COUNT k) = min (2 ^ 32 - 1) (s.getF (F.CMP_MISMATCH_CNT_COUNT k) + 1) ∧
         (s.isRetry k w.tag = false → s.retryKey k w.tag ∈ t.retries k ∧
           t.getF F.HOB_RETRY_CNT_COUNT = min (2 ^ 32 - 1) (s.getF F.HOB_RETRY_CNT_COUNT + 1) ∧
           s.SameRegs (0x4004 :: 0x4005 :: raiseBlocks) t) ∧
         (s.isRetry k w.tag = true → t.sticky 0x18 = true ∧
           (andironCmps.contains k = true → t.flag (F.SYS_HALF_ANDIRON_OK 0) = false ∧ t.flag (F.SYS_HALF_ANDIRON_OK 1) = false)) ∧
         s.SameRegs (0x4000 :: 0x4004 :: 0x4005 :: raiseBlocks) t ∧ s.SameStores t) ∧
     (k = 23 → s.mode ∈ [.shadow, .lead, .leadDegraded, .limp, .stopping] → c = .busOutputWrite k side w →
       max (w.data % 16) (e.2.data % 16) = 6 → s.getF F.FLT_REACT_ACTION ≤ 6 → s.flt.acting = [] →
       ∃ t, exec c s = .next t ∧ t.mode = .safeHold ∧ t.sticky 23 = true) ∧
     (k < 8 ∨ k = 13 → (s.inst w.tag).sample = .due → w.tag < s.img.nodes.length → w.tag < s.gr.insts.length →
       ∃ t, exec c s = .next t ∧ t.sticky k = true ∧ t.mode = s.mode ∧ (t.inst w.tag).a = none ∧ (t.inst w.tag).b = none ∧
         t.getF (F.CMP_MISMATCH_CNT_COUNT k) = min (2 ^ 32 - 1) (s.getF (F.CMP_MISMATCH_CNT_COUNT k) + 1) ∧
         ((s.inst w.tag).retried = false → (t.inst w.tag).retried = true ∧ (t.inst w.tag).sample = .due ∧
           t.getF F.HOB_RETRY_CNT_COUNT = min (2 ^ 32 - 1) (s.getF F.HOB_RETRY_CNT_COUNT + 1)) ∧
         ((s.inst w.tag).retried = true → (t.inst w.tag).sample = .failed ∧ t.flag F.HOB_STATUS_LASTING_SEEN = true ∧
           t.sticky 0x18 = true) ∧
         s.SameRegs (0x4004 :: 0x4005 :: raiseBlocks) t ∧ s.SameStores t))

/-- CMP_VERDICT_DISAGREE (R430): a lane whose verdict pair disagrees retires, staged blocks of it being retried, and is CMP_LANE; a lane that is
retired already does nothing; any other comparator is CMP_FAIL, and a write on which the two of a duplicated pair differ is withheld.
TILE_VERIFY (R92, R432, R433): a tile that passes at the first or the second read is verified; one that fails both takes its bank's spare
tile where it is free and is handled by its region; else the cluster is retired, the map tile removed, or the region lost. That a tile of
a network buffer holds the frames named, and that an andiron writes its step again, is the model's choice (log entry 29).
The model's own choices behind it: log entry 29. -/
def Obligations.LanesAndTiles : Prop :=
  (∀ s : State, s.sys.phase = .run →
     (∀ k d, (8 ≤ k ∧ k < 24 ∧ d = false ∨ 16 ≤ k ∧ k ≤ 21 ∧ d = true) → s.Quiet 0x19 → s.asserted 0x19 = false →
       ∃ t, exec (.cmpVerdictDisagree k d) s = .next t ∧ t.sticky 0x19 = true ∧ t.mode = s.mode ∧ t.cmps = s.cmps ∧
         (d = true → (k = 16 ∨ k = 19 → t.flu.withhold = true) ∧ (k = 17 ∨ k = 20 → t.gdr.enOffHalf = true) ∧
           (k = 18 ∨ k = 21 → t.ash.withhold = true)) ∧
         s.SameRegs raiseBlocks t ∧ s.SameStores t) ∧
     (∀ k, k < 8 → s.flag (F.CMP_STAT_RETIRED k) = true → exec (.cmpVerdictDisagree k false) s = .next s) ∧
     (∀ k n, k < 8 → n < 8 → n ≠ k → s.flag (F.CMP_STAT_RETIRED k) = false → s.flag (F.CMP_STAT_RETIRED n) = false → s.Quiet 0x1A →
       s.asserted 0x1A = false → s.Quiet 0x30 →
       ∃ t, exec (.cmpVerdictDisagree k false) s = .next t ∧ t.flag (F.CMP_STAT_RETIRED k) = true ∧ t.sticky 0x1A = true ∧
         t.getF F.FLT_LANE_CNT_COUNT = min (2 ^ 32 - 1) (s.getF F.FLT_LANE_CNT_COUNT + 1) ∧ t.mode = s.mode ∧
         (∀ i, i < s.img.nodes.length → i < s.gr.insts.length → (s.node i).cls = 0 → s.laneOf i = k → (s.inst i).sample = .due →
           ((s.inst i).a.isSome || (s.inst i).b.isSome) = true →
           (t.inst i).retried = true ∧ (t.inst i).a = none ∧ (t.inst i).b = none) ∧
         s.SameRegs (0x4004 :: 0x4005 :: raiseBlocks) t ∧ s.SameStores t)) ∧
  (∀ s : State, s.sys.phase = .run →
     (∀ tile pass2 hob homed, tile < 2048 → tile ∉ s.gr.verified →
       ∃ t, exec (.tileVerify tile true pass2 hob homed) s = .next t ∧ t.gr.verified = s.gr.verified ++ [tile] ∧
         t.getF F.FLT_VERIFY_CNT_COUNT = min (2 ^ 32 - 1) (s.getF F.FLT_VERIFY_CNT_COUNT + 1) ∧
         s.OnlyRegs [F.FLT_VERIFY_CNT_COUNT.addr] t ∧ t.gr.insts = s.gr.insts ∧ s.SameStores t) ∧
     (∀ tile hob homed, tile < 2048 → tile ∉ s.gr.verified → s.Quiet 0x30 → s.Quiet (0x1C + regionOf tile) →
       s.asserted (0x1C + regionOf tile) = false →
       ∃ t, exec (.tileVerify tile false true hob homed) s = .next t ∧ t.sticky (0x1C + regionOf tile) = true ∧
         t.getF F.FLT_VERIFY_RETRY_CNT_COUNT = min (2 ^ 32 - 1) (s.getF F.FLT_VERIFY_RETRY_CNT_COUNT + 1) ∧
         t.gr.insts = s.gr.insts ∧ t.mode = s.mode ∧ s.SameRegs (0x4005 :: raiseBlocks) t ∧ s.SameStores t) ∧
     (∀ tile hob homed, tile < 2048 → tile ∉ s.gr.verified → s.Quiet 0x30 → s.Quiet (0x22 + regionOf tile) →
       s.asserted (0x22 + regionOf tile) = false → (∀ m ∈ andironCmps, (s.cmps.getD m {}).stalled = []) →
       (tile / 16 ∉ s.sys.spares →
         ∃ t, exec (.tileVerify tile false false hob homed) s = .next t ∧ t.sticky (0x22 + regionOf tile) = true ∧ t.mode = s.mode ∧
           t.sys.spares = s.sys.spares ++ [tile / 16] ∧
           t.getF F.FLT_SPARE_CNT_COUNT = min (2 ^ 32 - 1) (s.getF F.FLT_SPARE_CNT_COUNT + 1) ∧
           (regionOf tile = 0 → (∀ i ∈ homed, i < s.img.nodes.length → i < s.gr.insts.length → (s.node i).cls ≠ 0 →
             (t.inst i).st = List.replicate (s.node i).stateWords 0 ∧ (t.inst i).fresh = true ∧ (t.inst i).aged = true)) ∧
           (regionOf tile = 1 → ∀ en, s.map.dir.find? (fun x => decide (x.slot = tile - 384)) = some en →
             t.map.lost = s.map.lost ++ [en.key] ∧ t.map.removed = s.map.removed) ∧
           (regionOf tile = 2 ∨ regionOf tile = 3 → Mem.wf 0 s.tiles = true → ∀ a, Mem.byte 0 t.tiles a =
             if tileBase + 4096 * tile ≤ a ∧ a < tileBase + 4096 * tile + 4096 then
               Mem.byte 0 s.tiles (if regionOf tile = 2 then a + 4096 * 96 else a - 4096 * 96)
             else Mem.byte 0 s.tiles a) ∧
           (regionOf tile = 4 ∨ regionOf tile = 5 → ∀ a, Mem.byte 0 t.tiles a =
             if tileBase + 4096 * tile ≤ a ∧ a < tileBase + 4096 * tile + 4096 then 0 else Mem.byte 0 s.tiles a) ∧
           (regionOf tile = 0 ∨ regionOf tile = 1 → t.tiles = s.tiles) ∧ t.mram = s.mram ∧ t.flash = s.flash ∧ t.otp = s.otp ∧
           s.SameRegs (0x4000 :: 0x4004 :: 0x4005 :: 0x4006 :: 0x4008 :: 0x400E :: 0x400F :: raiseBlocks) t) ∧
       (tile / 16 ∈ s.sys.spares → 2 ≤ regionOf tile → s.Quiet 0x29 → s.asserted 0x29 = false →
         ∃ t, exec (.tileVerify tile false false hob homed) s = .next t ∧ t.sticky (0x22 + regionOf tile) = true ∧ t.sticky 0x29 = true ∧
           t.mode = s.mode ∧ s.SameRegs (0x4004 :: 0x4005 :: raiseBlocks) t ∧ s.SameStores t) ∧
       (tile / 16 ∈ s.sys.spares → regionOf tile = 1 →
         ∃ t, exec (.tileVerify tile false false hob homed) s = .next t ∧ t.sticky (0x22 + regionOf tile) = true ∧
           t.map.removed = s.map.removed ++ [tile - 384] ∧ t.mode = s.mode ∧
           s.SameRegs (0x4004 :: 0x4005 :: 0x4008 :: 0x400F :: raiseBlocks) t ∧ s.SameStores t) ∧
       (tile / 16 ∈ s.sys.spares → regionOf tile = 0 → s.flag (F.SYS_CLUSTER_RETIRED (tile / 48)) = false → tile / 48 < 8 →
         s.Quiet 0x28 → s.asserted 0x28 = false →
         ∃ t, exec (.tileVerify tile false false hob homed) s = .next t ∧ t.sticky (0x22 + regionOf tile) = true ∧ t.sticky 0x28 = true ∧
           t.flag (F.SYS_CLUSTER_RETIRED (tile / 48)) = true ∧ t.mode = s.mode ∧ s.SameStores t)))

/-! Set-points, shutdown and buses -/

/-- SETPOINT_TIMEOUT, SHUTDOWN_REQUEST and DORMANT_RELEASE (R126, R464, R465): a source's timer expires; a shutdown channel that holds
makes the request pending, at standstill in SHADOW or a lead mode on to SAFE-HOLD; in SAFE-HOLD with no Ash record waiting PWR_REQ
is released. Where the condition of a command does not hold the state stays, by the model's choice (log entry 1).
The model's own choices behind it: log entries 1, 37. -/
def Obligations.ShutdownSequence : Prop :=
  ∀ s : State, s.sys.phase = .run →
    (∀ c alt, s.sys.joined = true → c < 8 → s.sps.length = 8 → s.flag (F.LAW_SP_SRC_ENABLE c) = true →
      s.getF (F.LAW_SP_SRC_TIMEOUT c) ≠ 0 → s.spKind c alt ≠ 0 →
      ∃ t, exec (.setpointTimeout c alt) s = .next t ∧ (if alt = true then (t.sp c).alt else (t.sp c).pri).out = true ∧
        (if alt = true then (t.sp c).pri = (s.sp c).pri else (t.sp c).alt = (s.sp c).alt) ∧ { t with sps := s.sps } = s) ∧
    (s.sdNonZero = true →
      (s.flag F.SAF_STATUS_STANDSTILL = true → s.mode ∈ [.shadow, .lead, .leadDegraded, .limp] →
        ∃ t, exec (.shutdownRequest true) s = .next t ∧ t.mode = .safeHold) ∧
      (s.flag F.SAF_STATUS_STANDSTILL = false →
        ∃ t, exec (.shutdownRequest true) s = .next t ∧ t.flag F.PWR_STATUS_SD_PENDING = true ∧ t.mode = s.mode ∧
          s.OnlyRegs [F.PWR_STATUS_SD_PENDING.addr] t ∧ { t with regs := s.regs } = s)) ∧
    (s.sys.heldSafe = false →
      ∃ t, exec (.shutdownRequest false) s = .next t ∧ t.flag F.PWR_STATUS_SD_PENDING = false ∧
        s.OnlyRegs [F.PWR_STATUS_SD_PENDING.addr] t ∧ { t with regs := s.regs } = s) ∧
    (s.sys.heldSafe = true → exec (.shutdownRequest false) s = .next s) ∧
    (∀ elapsed, s.mode = .safeHold → s.flag F.PWR_STATUS_SD_PENDING = true → s.ash.queue = [] → s.ember.vbat = true →
      ∃ t, exec (.dormantRelease elapsed false) s = .next t ∧ t.ember.pwrReq = false ∧ { t with ember := s.ember } = s ∧
        t.ember.snapFlue = s.flu.time ∧ t.ember.snapRtc = (s.ember.rtc + elapsed) % 2 ^ 48 ∧
        t.ember.alarm = (if s.getF F.PWR_ALARM_PERIOD = 0 then none else
          some (((s.ember.rtc + elapsed) % 2 ^ 48 + s.getF F.PWR_ALARM_PERIOD * 32768) % 2 ^ 48)))

/-- R61: an alarm that fires in the same Ember cycle in which PWR_REQ would be released wins: the entry is aborted and counted as a refusal with
refuser ID EMBER_RTC (0x10), PWR_REQ stays asserted, SAFE-HOLD stays, the shutdown request is discarded. -/
def Obligations.WakeWins : Prop :=
  ∀ (s : State) (elapsed : Nat), s.sys.phase = .run → s.mode = .safeHold → s.flag F.PWR_STATUS_SD_PENDING = true → s.ash.queue = [] →
    s.ember.vbat = true → s.ember.alarm.isSome = true → s.ember.pwrReq = true →
    ∃ t, exec (.dormantRelease elapsed true) s = .next t ∧ t.ember.pwrReq = true ∧ t.sys.vsup = s.sys.vsup ∧ t.mode = .safeHold ∧
      t.flag F.PWR_STATUS_SD_PENDING = false ∧ t.getF (F.PWR_DOM_REFUSE_LAST_ID 1) = 0x10 ∧
      t.getF (F.PWR_DOM_REFUSE_COUNT 1) = min 65535 (s.getF (F.PWR_DOM_REFUSE_COUNT 1) + 1) ∧
      t.getF F.PWR_SD_ABORT_CNT_COUNT = min (2 ^ 32 - 1) (s.getF F.PWR_SD_ABORT_CNT_COUNT + 1) ∧
      s.SameRegs [0x4001] t ∧ s.SameStores t

/-- CAN reception and recovery (R339, R344): a good frame of another node enters the FIFO behind its lowest filter, or is counted as without
filter or as lost; an error is counted with its code; bus-off ends with both error counts 0.
The model's own choices behind it: log entries 36, 63. -/
def Obligations.CanReception : Prop :=
  ∀ (s : State) (n : Nat) (f : CanMsg) (t : Nat), s.sys.phase = .run → n < 4 → s.cans.length = 4 →
    (s.flag (F.CAN_STATUS_ACTIVE n) = true → s.getF (F.CAN_STATUS_STATE n) ≠ 2 →
      (∀ i, s.canFilter n f = some i → (s.can n).fifo.length < 64 →
        ∃ u, exec (.canFrameReceive n f t none) s = .next u ∧ (u.can n).fifo = (s.can n).fifo ++ [(f, t / 1000, i)] ∧
          u.getF (F.CAN_RXF_STAT_DEPTH n) = (s.can n).fifo.length + 1 ∧
          u.getF (F.CAN_CNT_COUNT_L n 0) = min 65535 (s.getF (F.CAN_CNT_COUNT_L n 0) + 1) ∧ s.SameRegs [0x400E] u ∧ s.SameStores u) ∧
      (∀ i, s.canFilter n f = some i → 64 ≤ (s.can n).fifo.length →
        ∃ u, exec (.canFrameReceive n f t none) s = .next u ∧ (u.can n).fifo = (s.can n).fifo ∧
          u.getF (F.CAN_CNT_COUNT_H n 2) = min 65535 (s.getF (F.CAN_CNT_COUNT_H n 2) + 1) ∧ s.SameRegs [0x400E] u ∧ s.SameStores u) ∧
      (s.canFilter n f = none →
        ∃ u, exec (.canFrameReceive n f t none) s = .next u ∧ (u.can n).fifo = (s.can n).fifo ∧
          u.getF (F.CAN_CNT_COUNT_L n 2) = min 65535 (s.getF (F.CAN_CNT_COUNT_L n 2) + 1) ∧ s.SameRegs [0x400E] u ∧ s.SameStores u) ∧
      (∀ e heavy,
        ∃ u, exec (.canFrameReceive n f t (some (e, heavy))) s = .next u ∧ (u.can n).fifo = (s.can n).fifo ∧
          u.getF (F.CAN_ERR_LEC n) = e % 7 ∧
          u.getF (F.CAN_ERR_REC n) = min 255 ((s.can n).rec' + if heavy = true then 8 else 1) ∧ s.SameRegs [0x400E] u ∧
          s.SameStores u)) ∧
    (s.getF (F.CAN_STATUS_STATE n) = 2 → s.flag (F.CAN_CFG_AUTO_RECOVER n) = true → s.flag (F.CAN_STATUS_ACTIVE n) = true →
      s.flag (F.CAN_CFG_ENABLE n) = true → s.sys.joined = true → (s.dom 19).lost = false →
      ∃ u, exec (.busOffRecovery n) s = .next u ∧ u.getF (F.CAN_STATUS_STATE n) = 0 ∧ u.getF (F.CAN_ERR_TEC n) = 0 ∧
        u.getF (F.CAN_ERR_REC n) = 0 ∧ (u.can n).bufs = (s.can n).bufs ∧ s.SameRegs [0x400E, 0x400F] u ∧ s.SameStores u)

/-- CAN transmission (R340, R342): the pending buffer that R340 orders first arbitrates; a frame sent leaves its buffer empty with result SENT,
a lost arbitration or an error leaves it pending to try again, and past 255 transmit errors the controller is bus-off. That a missing
acknowledge does not count while the controller is error passive, nor a stuff error while it arbitrates, is the model's choice (log entry
63).
CLAIM_STANDS and SECTION_CONTROL_TIMEOUT (R168, R347): a claim that stands makes its address the own one; without section control
messages the section states are stale. Where the condition of a command does not hold the state stays, by the model's choice (log
entry 1).
The model's own choices behind it: log entries 1, 36, 63. -/
def Obligations.CanTransmission : Prop :=
  (∀ (s : State) (n b : Nat) (f : CanMsg), s.sys.phase = .run → n < 4 → b < 3 → s.cans.length = 4 → (s.can n).bufs.length = 3 →
     s.flag (F.CAN_STATUS_ACTIVE n) = true → s.getF (F.CAN_STATUS_STATE n) ≠ 2 → s.canBuf n b = { frame := some f } →
     (s.flag (F.CAN_STATUS_LISTEN n) = false → n ≠ 0 ∨ s.flag (F.CAN_ISO_CFG_EN 0) = false →
       ((∀ c, c < 3 → s.bufState n c < 2) → s.canNext n = some b →
         ∃ u, exec (.canArbitration n false) s = .next u ∧ u.bufState n b = 2 ∧ (u.canBuf n b).frame = some f ∧
           u.flag (F.CAN_STATUS_TRANSMITTING n) = true ∧ s.SameRegs [0x400E] u ∧ s.SameStores u) ∧
       ((∀ c, c < b → s.bufState n c < 2) → s.bufState n b = 2 →
         ∃ u, exec (.canArbitration n true) s = .next u ∧ u.bufState n b = 3 ∧ s.OnlyRegs [(F.CAN_TXBUF_STATE n b).addr] u ∧
           { u with regs := s.regs } = s)) ∧
     ((∀ c, c < b → s.bufState n c < 2) → 2 ≤ s.bufState n b → s.getF (F.CAN_CFG_MODE n) ≠ 1 →
       (∀ lec, ∃ u, exec (.canFrameEnd n 0 lec) s = .next u ∧ u.bufState n b = 0 ∧ (u.canBuf n b).frame = none ∧
         u.getF (F.CAN_TXBUF_RESULT n b) = 1 ∧ u.flag (F.CAN_STATUS_TRANSMITTING n) = false ∧
         u.getF (F.CAN_CNT_COUNT_H n 0) = min 65535 (s.getF (F.CAN_CNT_COUNT_H n 0) + 1) ∧ s.SameRegs [0x400E] u ∧ s.SameStores u) ∧
       (∀ lec, ∃ u, exec (.canFrameEnd n 1 lec) s = .next u ∧ u.bufState n b = 1 ∧ (u.canBuf n b).frame = some f ∧
         u.getF (F.CAN_CNT_COUNT_H n 1) = min 65535 (s.getF (F.CAN_CNT_COUNT_H n 1) + 1) ∧ s.SameRegs [0x400E] u ∧ s.SameStores u) ∧
       (∀ lec, lec % 7 = 3 ∧ s.getF (F.CAN_STATUS_STATE n) = 1 ∨ lec % 7 = 1 ∧ s.bufState n b = 2 → (s.can n).tec < 256 →
         ∃ u, exec (.canFrameEnd n 2 lec) s = .next u ∧ u.bufState n b = 1 ∧ (u.canBuf n b).frame = some f ∧
           u.getF (F.CAN_ERR_TEC n) = min 255 (s.can n).tec ∧ u.getF (F.CAN_ERR_LEC n) = lec % 7 ∧ s.SameRegs [0x400E] u ∧ s.SameStores u) ∧
       (∀ lec, ¬(lec % 7 = 3 ∧ s.getF (F.CAN_STATUS_STATE n) = 1 ∨ lec % 7 = 1 ∧ s.bufState n b = 2) → (s.can n).tec + 8 < 256 →
         ∃ u, exec (.canFrameEnd n 2 lec) s = .next u ∧ u.bufState n b = 1 ∧ (u.canBuf n b).frame = some f ∧
           u.getF (F.CAN_ERR_TEC n) = (s.can n).tec + 8 ∧ u.getF (F.CAN_ERR_LEC n) = lec % 7 ∧ s.SameRegs [0x400E] u ∧ s.SameStores u) ∧
       (∀ lec, ¬(lec % 7 = 3 ∧ s.getF (F.CAN_STATUS_STATE n) = 1 ∨ lec % 7 = 1 ∧ s.bufState n b = 2) → 256 ≤ (s.can n).tec + 8 →
         s.Quiet (0xA7 + n) → s.asserted (0xA7 + n) = false →
         ∃ u, exec (.canFrameEnd n 2 lec) s = .next u ∧ u.getF (F.CAN_STATUS_STATE n) = 2 ∧ (∀ c, c < 3 → u.bufState n c = 0) ∧
           u.getF (F.CAN_TXBUF_RESULT n b) = 3 ∧ u.sticky (0xA7 + n) = true ∧ u.mode = s.mode ∧
           s.SameRegs (0x400E :: raiseBlocks) u ∧ s.SameStores u))) ∧
  (∀ s : State, s.sys.phase = .run →
     (∀ a, (s.can 0).claim = some a → a < 256 → s.mode.isLead = true → s.cans.length = 4 →
       ∃ t, exec .claimStands s = .next t ∧ t.flag (F.CAN_ISO_STAT_CLAIMED 0) = true ∧ t.getF (F.CAN_ISO_STAT_ADDR 0) = a ∧
         (t.can 0).claim = none ∧ s.OnlyRegs [(F.CAN_ISO_STAT_ADDR 0).addr] t ∧ { t with regs := s.regs, cans := s.cans } = s) ∧
     ((s.can 0).claim = none → exec .claimStands s = .next s) ∧
     (s.flag F.SEC_CFG_ISO_FALLBACK = true →
       ∃ t, exec .sectionControlTimeout s = .next t ∧ t.flag F.SEC_STATUS_ISO_STALE = true ∧ t.flag (F.CAN_ISO_STAT_SC_SEEN 0) = false ∧
         s.OnlyRegs [F.SEC_STATUS_ISO_STALE.addr, (F.CAN_ISO_STAT_SC_SEEN 0).addr] t ∧ { t with regs := s.regs } = s) ∧
     (s.flag F.SEC_CFG_ISO_FALLBACK = false →
       ∃ t, exec .sectionControlTimeout s = .next t ∧ t.flag (F.CAN_ISO_STAT_SC_SEEN 0) = false ∧
         s.OnlyRegs [(F.CAN_ISO_STAT_SC_SEEN 0).addr] t ∧ { t with regs := s.regs } = s))

/-- ETH_FRAME_RECEIVE (R350, R353): a frame that fails a test of R350 is dropped with its reason and counted; a datagram of the feed
enters the receive
buffer; an ARP request for the own address is answered.
The Ethernet timers (R349, R351, R352, R353, R354, R355): pause frames repeated and ended where the link is full duplex and PAUSE_TX is set, the
transmitter resumed, the PHY's link, Sync with its Follow_Up, Announce, and an ARP entry that goes. That a time-stamp is a whole
multiple of the resolution, and the clock identity, are the model's choice (log entries 30 and 64).
The model's own choices behind it: log entry 30. -/
def Obligations.EthernetPorts : Prop :=
  (∀ (s : State) (p : Nat) (b : List Byte) (fcs : Bool) (t : Nat), s.sys.phase = .run → p < 2 → s.eths.length = 2 →
     s.flag (F.ETH_STATUS_ACTIVE p) = true →
     (s.ethReason p fcs b ≠ 0 →
       ∃ u, exec (.ethFrameReceive p b fcs t) s = .next u ∧ u.getF (F.ETH_LAST_DROP_REASON p) = s.ethReason p fcs b ∧
         u.getF (dropCounter p (s.ethReason p fcs b)) = min (2 ^ 32 - 1) (s.getF (dropCounter p (s.ethReason p fcs b)) + 1) ∧
         u.eths = s.eths ∧ u.feedq = s.feedq ∧ s.SameRegs [0x400F] u ∧ s.SameStores u) ∧
     (s.ethReason p fcs b = 0 → s.flag (F.ETH_STATUS_PAUSED p) = false → (s.eth p).fill + b.length ≤ 131072 →
       (beAt b (etherOff b) 2 = 0x0800 → beAt (b.drop (etherOff b + 2)) 9 1 = 17 →
         beAt (b.drop (etherOff b + 2)) 22 2 = s.getF F.MAP_CFG_UDP_PORT → bit (s.getF F.MAP_CFG_PORT_MASK) p = true →
         ∃ u, exec (.ethFrameReceive p b fcs t) s = .next u ∧ (u.eth p).fill = (s.eth p).fill + b.length ∧
           u.feedq = s.feedq ++ [⟨p, beAt (b.drop (etherOff b + 2)) 12 4, beAt (b.drop (etherOff b + 2)) 20 2, (b.drop 6).take 6,
             (((b.drop (etherOff b + 2)).drop 20).take (beAt (b.drop (etherOff b + 2)) 24 2)).drop 8, t, b.length⟩] ∧
           u.getF (F.ETH_RX_OK_CNT_COUNT p) = min (2 ^ 32 - 1) (s.getF (F.ETH_RX_OK_CNT_COUNT p) + 1) ∧
           (1024 * s.getF (F.ETH_PAUSE_HIGH_WATER p) ≤ (s.eth p).fill + b.length → u.flag (F.ETH_STATUS_PAUSING p) = true) ∧
           s.SameRegs [0x400F] u ∧ s.SameStores u) ∧
       (beAt b (etherOff b) 2 = 0x0806 → beAt (b.drop (etherOff b + 2)) 6 2 = 1 →
         beAt (b.drop (etherOff b + 2)) 24 4 = s.getF (F.ETH_IP_ADDR p) →
         ∃ u, exec (.ethFrameReceive p b fcs t) s = .next u ∧
           (u.eth p).sent = (s.eth p).sent ++
             [.arpReply (beAt (b.drop (etherOff b + 2)) 14 4) (((b.drop (etherOff b + 2)).drop 8).take 6)] ∧
           u.feedq = s.feedq ∧ s.SameRegs [0x400F] u ∧ s.SameStores u))) ∧
  (∀ (s : State) (p : Nat), s.sys.phase = .run → p < 2 → s.eths.length = 2 → s.flag (F.ETH_STATUS_ACTIVE p) = true →
     (s.flag (F.ETH_STATUS_PAUSING p) = true → 1024 * s.getF (F.ETH_PAUSE_LOW_WATER p) ≤ (s.eth p).fill →
       s.flag (F.ETH_PHY_DUPLEX p) = true → s.flag (F.ETH_CFG_PAUSE_TX p) = true →
       ∃ t, exec (.pauseRepeat p) s = .next t ∧ (t.eth p).sent = (s.eth p).sent ++ [.pause (s.getF (F.ETH_PAUSE_QUANTA p))] ∧
         t.getF (F.ETH_PAUSE_TX_CNT_COUNT p) = min (2 ^ 32 - 1) (s.getF (F.ETH_PAUSE_TX_CNT_COUNT p) + 1) ∧
         t.flag (F.ETH_STATUS_PAUSING p) = true ∧ s.SameRegs [0x400F] t ∧ s.SameStores t) ∧
     (s.flag (F.ETH_STATUS_PAUSING p) = true → (s.eth p).fill < 1024 * s.getF (F.ETH_PAUSE_LOW_WATER p) →
       s.flag (F.ETH_PHY_DUPLEX p) = true → s.flag (F.ETH_CFG_PAUSE_TX p) = true →
       ∃ t, exec (.lowWater p) s = .next t ∧ (t.eth p).sent = (s.eth p).sent ++ [.pause 0] ∧ t.flag (F.ETH_STATUS_PAUSING p) = false ∧
         s.SameRegs [0x400F] t ∧ s.SameStores t) ∧
     (s.flag (F.ETH_PHY_DUPLEX p) = false ∨ s.flag (F.ETH_CFG_PAUSE_TX p) = false →
       exec (.pauseRepeat p) s = .next s ∧
       (s.flag (F.ETH_STATUS_PAUSING p) = true → (s.eth p).fill < 1024 * s.getF (F.ETH_PAUSE_LOW_WATER p) →
         ∃ t, exec (.lowWater p) s = .next t ∧ t.flag (F.ETH_STATUS_PAUSING p) = false ∧
           s.OnlyRegs [(F.ETH_STATUS_PAUSING p).addr] t ∧ { t with regs := s.regs } = s)) ∧
     (s.flag (F.ETH_STATUS_PAUSED p) = true →
       ∃ t, exec (.pauseExpiry p) s = .next t ∧ t.flag (F.ETH_STATUS_PAUSED p) = false ∧ (t.eth p).held = [] ∧
         (∀ o ∈ (s.eth p).held, o ∈ (t.eth p).sent) ∧ s.SameRegs [0x400F] t ∧ s.SameStores t) ∧
     (∀ entry, entry < 16 →
       ∃ t, exec (.arpExpiry p entry) s = .next t ∧ (t.eth p).arps = (s.eth p).arps.set entry none ∧ { t with eths := s.eths } = s) ∧
     (∀ regs, s.sys.joined = true → s.flag (F.ETH_CFG_ENABLE p) = true → s.Quiet (0xAB + p) → s.asserted (0xAB + p) = false →
       ∃ t, exec (.phyPoll p regs) s = .next t ∧ t.flag (F.ETH_PHY_LINK p) = (phyResolve regs).1 ∧
         t.getF (F.ETH_PHY_SPEED p) = (phyResolve regs).2.1 ∧ t.flag (F.ETH_PHY_DUPLEX p) = (phyResolve regs).2.2.1 ∧
         t.flag (F.ETH_STATUS_ACTIVE p) = (phyResolve regs).1 ∧
         (s.flag (F.ETH_PHY_LINK p) = true → (phyResolve regs).1 = false → t.sticky (0xAB + p) = true) ∧ t.eths = s.eths ∧
         s.SameRegs (0x400F :: raiseBlocks) t ∧ s.SameStores t) ∧
     (∀ h : PtpHead, s.flag (F.ETH_STATUS_PTP_MASTER p) = true → s.flag (F.ETH_STATUS_PAUSED p) = false →
       h = ⟨s.getF (F.ETH_PTP_CFG_DOMAIN p), (s.macOf p).take 3 ++ [0xFF, 0xFE] ++ (s.macOf p).drop 3, s.flag (F.ETH_PTP_CFG_L2 p)⟩ →
       (∀ t r stamp, r = (if s.getF (F.ETH_PHY_SPEED p) = 0 then 400 else if s.getF (F.ETH_PHY_SPEED p) = 1 then 40 else 8) →
         stamp = t / r * r + 4 * s.getF (F.ETH_PTP_CFG_TX_LAT p) →
         ∃ u, exec (.ptpSync p t) s = .next u ∧
         u.getF (F.ETH_PTP_STAT_SYNC_SEQ p) = (s.getF (F.ETH_PTP_STAT_SYNC_SEQ p) + 1) % 65536 ∧
         (u.eth p).sent = (s.eth p).sent ++
           [.sync h ((s.getF (F.ETH_PTP_STAT_SYNC_SEQ p) + 1) % 65536),
            .followUp h ((s.getF (F.ETH_PTP_STAT_SYNC_SEQ p) + 1) % 65536) ⟨stamp / 1000000000, stamp % 1000000000⟩] ∧
         s.SameRegs [0x400F] u ∧ s.SameStores u) ∧
       (∃ u, exec (.announce p) s = .next u ∧ (u.eth p).sent = (s.eth p).sent ++ [.announce h 248 false] ∧ s.SameRegs [0x400F] u ∧
         s.SameStores u)))

/-! The tile feed -/

/-- The session of the feed (R147, R150): HELLO opens one under a number that is not 0 and not the previous one; CREDIT sends the limits; BYE and
SESSION_TIMEOUT end it and keep the store.
The model's own choices behind it: log entries 5, 38. -/
def Obligations.FeedSession : Prop :=
  ∀ s : State, s.sys.phase = .run →
    (∀ d rest, s.feedq = d :: rest → feedHeader d.data = (0, 0) → (d.data.getD 3 0).toNat = 1 → (d.data.drop 16).getD 0 0 = 1 →
      s.map.session = none →
      ∃ t x, exec .hello s = .next t ∧ t.map.session = some x ∧ 1 ≤ x.id ∧ x.id < 65536 ∧ x.id ≠ s.map.lastId ∧
        x.client = ofLe (((d.data.drop 16).drop 2).take 2) ∧ x.tiles = 0 ∧ x.events = 0 ∧ t.map.asm = [] ∧ t.feedq = rest ∧
        t.getF F.MAP_SESSION_SESSION = x.id ∧ t.flag F.MAP_STATUS_SESSION_ACTIVE = true ∧ t.flag F.SEC_STATUS_FEED_ACTIVE = true ∧
        t.map.dir = s.map.dir ∧ s.SameRegs [0x4007, 0x4008, 0x400F] t ∧ s.SameStores t) ∧
    (∀ x, s.map.session = some x → s.flu.cycle % 8 = 0 →
      ∃ t, exec .credit s = .next t ∧ t.getF F.MAP_CREDIT_TILE_LIMIT = s.tileLimit x % 2 ^ 32 ∧
        t.getF F.MAP_CREDIT_EVENT_LIMIT = (x.events + s.eventRoom x) % 2 ^ 32 ∧
        t.map.session = some { x with tx := (x.tx + 1) % 2 ^ 32 } ∧ t.map.dir = s.map.dir ∧ s.SameRegs [0x4008, 0x400F] t ∧
        s.SameStores t) ∧
    (∀ c d rest x, s.map.session = some x → (c = .sessionTimeout ∨ c = .bye ∧ s.FeedFront 7 d rest x) →
      ∃ t, exec c s = .next t ∧ t.map.session = none ∧ t.getF F.MAP_SESSION_SESSION = 0 ∧ t.flag F.MAP_STATUS_SESSION_ACTIVE = false ∧
        t.flag F.SEC_STATUS_FEED_ACTIVE = false ∧ t.flag F.MAP_STATUS_EVENTS_ON = false ∧ t.map.dir = s.map.dir ∧
        s.SameRegs [0x4007, 0x4008, 0x400F] t ∧ s.SameStores t)

/-- Tiles of the feed (R140, R141, R146): a fragment is assembled and not visible; TILE_DROP waits for the next T16 slot; the keys of
missing pinned tiles are sent in TILE_REQ; a tile incomplete after ASSEMBLY ms is given up and reported.
The model's own choices behind it: log entry 38. -/
def Obligations.FeedTiles : Prop :=
  ∀ s : State,
    (∀ d rest x layer frag k, s.FeedFront 3 d rest x → layer = ((d.data.drop 16).getD 0 0).toNat → layer ≤ 1 →
      frag = ((d.data.drop 16).getD 1 0).toNat → frag ≤ 3 →
      k = ⟨layer, toInt 16 (ofLe (((d.data.drop 16).drop 4).take 2)), toInt 16 (ofLe (((d.data.drop 16).drop 6).take 2))⟩ →
      (∀ a ∈ s.map.asm, a.key ≠ k) → s.mapFind k = none → s.fragsUsed < 128 →
      ∃ t, exec .tile s = .next t ∧
        t.map.asm = s.map.asm ++ [⟨k, ofLe (((d.data.drop 16).drop 2).take 2), [(frag, d.data.drop 32)], ofLe ((d.data.drop 4).take 4)⟩] ∧
        (t.map.session.map (fun y => y.tiles)) = some (x.tiles + 1) ∧ t.map.dir = s.map.dir ∧ t.feedq = rest ∧
        s.SameRegs [0x4008, 0x400F] t ∧ s.SameStores t) ∧
    (∀ d rest x, s.FeedFront 6 d rest x →
      ∃ t, exec .tileDrop s = .next t ∧ t.map.dir = s.map.dir ∧ t.feedq = rest ∧
        ((∀ i, i < (d.data.drop 16).length / 8 → (TileKey.parse ((d.data.drop 16).drop (8 * i))).layer ≤ 1) →
          t.map.drops = s.map.drops ++ (List.range ((d.data.drop 16).length / 8)).map (fun i => TileKey.parse ((d.data.drop 16).drop (8 * i)))) ∧
        (∀ i, i < (d.data.drop 16).length / 8 → 1 < (TileKey.parse ((d.data.drop 16).drop (8 * i))).layer →
          t.map.drops = s.map.drops ∧ t.getF F.MAP_LAST_ERR_CODE = 9) ∧
        s.SameRegs [0x4008, 0x400F] t ∧ s.SameStores t) ∧
    (∀ x, s.sys.phase = .run → s.map.session = some x → 1 ≤ s.mapMissing.length → s.mapMissing.length ≤ 64 →
      ∃ t, exec .tileReq s = .next t ∧
        (∀ y en, x.ports = [y] → y.1 < 2 → s.eths.length = 2 → bit (s.getF F.MAP_CFG_PORT_MASK) y.1 = true →
          s.flag (F.ETH_STATUS_ACTIVE y.1) = true → s.flag (F.ETH_STATUS_PAUSED y.1) = false →
          s.arpFind y.1 (s.nextHop y.1 y.2.1) = some en →
          (t.eth y.1).sent = (s.eth y.1).sent ++ [.udp true y.2.1 y.2.2 (s.getF F.MAP_CFG_UDP_PORT) en.mac (feedBytes 0x83 x.tx x.id (leBytes 2 s.mapMissing.length ++ [0, 0] ++
            s.mapMissing.flatMap TileKey.bytes))]) ∧ t.getF F.MAP_TILE_REQ_CNT_COUNT = min (2 ^ 32 - 1) (s.getF F.MAP_TILE_REQ_CNT_COUNT + 1) ∧
        t.map.dir = s.map.dir ∧ s.SameRegs [0x4008, 0x400F] t ∧ s.SameStores t) ∧
    (∀ layer tx ty a, s.sys.phase = .run → s.map.asm.find? (fun a => decide (a.key = ⟨layer, tx, ty⟩)) = some a → a.frags.length < 4 →
      ∃ t, exec (.tileTimeout layer tx ty) s = .next t ∧ (∀ b ∈ t.map.asm, b.key ≠ ⟨layer, tx, ty⟩) ∧
        t.map.lost = s.map.lost ++ [⟨layer, tx, ty⟩] ∧ t.getF F.MAP_LAST_ERR_CODE = 0x0B ∧
        t.getF F.MAP_ERR_CNT_COUNT = min (2 ^ 32 - 1) (s.getF F.MAP_ERR_CNT_COUNT + 1) ∧ s.SameRegs [0x4008, 0x400F] t ∧ s.SameStores t)

/-- Data of the feed (R125, R146, R147, R149): a pose with finite values not more than 1 ms ahead is taken, another one is BAD_POSE and
leaves the pose as it was; events within the
limit enter the queue; a set-point of no channel is UNKNOWN_KEY, one of a channel restarts its source.
The model's own choices behind it: log entry 38. -/
def Obligations.FeedData : Prop :=
  ∀ (s : State) (d : Dgram) (rest : List Dgram) (x : Session) (p : List Byte), p = d.data.drop 16 →
    (s.FeedFront 2 d rest x →
      (ofLe (p.take 8) ≤ d.t + 1000000 →
        (∀ o ∈ [16, 20, 24, 28], fBad (BitVec.ofNat 32 (ofLe ((p.drop o).take 4))) = false) →
        ∃ t q, exec .pose s = .next t ∧ t.map.session.bind (fun y => y.pose) = some q ∧ q.tValid = ofLe (p.take 8) ∧
          q.x = BitVec.ofNat 32 (ofLe ((p.drop 8).take 4)) ∧ q.y = BitVec.ofNat 32 (ofLe ((p.drop 12).take 4)) ∧
          t.getF F.MAP_RX_CNT_COUNT = min (2 ^ 32 - 1) (s.getF F.MAP_RX_CNT_COUNT + 1) ∧ t.feedq = rest ∧
          s.SameRegs [0x4008, 0x400F] t ∧ s.SameStores t) ∧
      (d.t + 1000000 < ofLe (p.take 8) →
        ∃ t, exec .pose s = .next t ∧ t.map.session.bind (fun y => y.pose) = x.pose ∧ t.getF F.MAP_LAST_ERR_CODE = 0x0C ∧
          t.feedq = rest ∧ s.SameRegs [0x4008, 0x400F] t ∧ s.SameStores t) ∧
      (∀ o ∈ [16, 20, 24, 28], fBad (BitVec.ofNat 32 (ofLe ((p.drop o).take 4))) = true →
        ∃ t, exec .pose s = .next t ∧ t.map.session.bind (fun y => y.pose) = x.pose ∧ t.getF F.MAP_LAST_ERR_CODE = 0x0C ∧
          t.feedq = rest ∧ s.SameRegs [0x4008, 0x400F] t ∧ s.SameStores t)) ∧
    (∀ n, s.FeedFront 4 d rest x → s.flag F.MAP_STATUS_EVENTS_ON = true → n = (p.length - 4) / 12 → ofLe (p.take 2) = n →
      n ≤ s.eventRoom x → (∀ i, i < n → (parseEvent ((p.drop (4 + 12 * i)).take 12)).radius ≤ 1000) →
      ∃ t, exec .events s = .next t ∧
        t.map.events = s.map.events ++ (List.range n).map (fun i => parseEvent ((p.drop (4 + 12 * i)).take 12)) ∧
        t.getF F.MAP_EVENT_CNT_COUNT = min (2 ^ 32 - 1) (s.getF F.MAP_EVENT_CNT_COUNT + n) ∧
        t.map.session.map (fun y => y.events) = some (x.events + n) ∧ s.SameRegs [0x4008, 0x400F] t ∧ s.SameStores t) ∧
    (s.FeedFront 5 d rest x → p.length = 8 →
      (s.spKeyed (ofLe (p.take 2)) = [] →
        ∃ t, exec .setpoint s = .next t ∧ t.getF F.MAP_LAST_ERR_CODE = 0x0E ∧ t.sps = s.sps ∧ s.SameRegs [0x4008, 0x400F] t ∧
          s.SameStores t) ∧
      (∀ c, s.spKeyed (ofLe (p.take 2)) = [(c, false)] → c < 8 → s.sps.length = 8 → s.flag (F.LAW_SP_SRC_ENABLE c) = true →
        ∃ t, exec .setpoint s = .next t ∧ (t.sp c).pri.out = false ∧ (t.sp c).alt = (s.sp c).alt ∧
          (t.sp c).pri.val = some (fMul (spRaw (s.getF (F.LAW_SP_SRC_FORMAT c)) (p.drop 4)) (s.reg (F.LAW_SP_SCALE_SCALE c).addr)) ∧
          s.SameRegs [0x4008, 0x400F] t ∧ s.SameStores t))

/-! The device as a whole -/

/-- No command stops the device, and none but a step touches the queue of commands (by the model's choice, log entry 1). -/
def Obligations.EveryCommandRuns : Prop :=
  ∀ (c : Instr) (s : State), ∃ t, exec c s = .next t ∧ t.pending = s.pending

/-- SYS_SWRESET (R32): in SERVICE its key resets the device with cause SERVICE, any other value is ignored; the upper bits of a word written to the
register are ignored. -/
def Obligations.SoftwareReset : Prop :=
  ∀ (s : State) (key : Nat), s.sys.phase = .run → s.mode = .service → key < 65536 →
    (key = 0x9A30 → ∃ t, exec (.sysSwreset key) s = .next t ∧ t.sys.phase = .held ∧ t.mode = .load ∧ t.reg 0x40000018 = 0x40) ∧
    (key ≠ 0x9A30 → exec (.sysSwreset key) s = .next s) ∧
    (∀ v : Word, v.toNat % 65536 = key → exec (.registerWrite 0x4000001C v) s = exec (.sysSwreset key) s)

/-- The version floor (R52): the highest entry, or 0; a raise in SERVICE, in FIELD, programs one entry with the VERSION of the image in use, none
past 64; the floor never falls, whatever command comes. -/
def Obligations.VersionFloor : Prop :=
  (∀ s : State, (∀ v ∈ s.otp.floors, v ≤ s.versionFloor) ∧ (s.otp.floors ≠ [] → s.versionFloor ∈ s.otp.floors) ∧
    (s.otp.floors = [] → s.versionFloor = 0)) ∧
  (∀ s : State, s.sys.phase = .run → s.mode = .service → s.otp.lifecycle = 2 → s.flag F.SYS_STATUS_IMG_VALID = true →
    (s.otp.floors.length < 64 →
      exec (.imgFloorRaise 0x5F1E) s = .next { s with otp := { s.otp with
        floors := s.otp.floors ++ [s.getF (F.IMG_VERSION_VERSION (s.getF F.IMG_STATUS_SLOT))] } }) ∧
    (64 ≤ s.otp.floors.length → exec (.imgFloorRaise 0x5F1E) s = .next s)) ∧
  (∀ (c : Instr) (s t : State), exec c s = .next t → s.versionFloor ≤ t.versionFloor ∧
    (s.otp.floors.length ≤ 64 → t.otp.floors.length ≤ 64))

/-- Identity (R27, R30, R558): SYS_UID_0 and SYS_UID_1 hold the halves of the unique die ID, which no command changes; SYS_STRAP shows the straps as
RESET_RELEASE found them; IDCODE shifts out version 3, part 0x9430, manufacturer 0x5C3 and the fixed 1. -/
def Obligations.Identity : Prop :=
  (∀ s : State, s.view 0x40000004 = BitVec.ofNat 32 (s.otp.uid % 2 ^ 32) ∧ s.view 0x40000008 = BitVec.ofNat 32 (s.otp.uid / 2 ^ 32) ∧
    s.view 0x40000014 = BitVec.ofNat 32 s.sys.strap) ∧
  (∀ (c : Instr) (s t : State), exec c s = .next t → t.otp.uid = s.otp.uid ∧ ((∀ e, c ≠ .resetRelease e) → t.sys.strap = s.sys.strap)) ∧
  (∀ (s t : State) (e : LoadEnv), s.sys.phase = .held → s.sys.vsup = true → s.sys.vioUnder = false → exec (.resetRelease e) s = .next t →
    t.sys.strap = e.strap % 4) ∧
  (∀ (s : State) (ir : Nat) (tms : List Bool) (trst : Bool), s.sys.phase = .run →
    ∃ t w, exec (.jtagInstruction ir .idcode tms trst) s = .next t ∧ t.svc.tdo = [w] ∧ w = 0x39430B87 ∧ w / 2 ^ 28 = 3 ∧
      w / 2 ^ 12 % 2 ^ 16 = 0x9430 ∧
      w / 2 % 2 ^ 11 = 0x5C3 ∧ w % 2 = 1)

/-- Every step keeps the canonical form of the registers, the tile store, the MRAM and the flash. -/
def Obligations.StepKeepsMemories : Prop :=
  ∀ s t : State, s.MemOk → step s = .next t → t.MemOk

/-- Every step only adds to the OTP array: life cycle, version floor, key slots, repair entries, sightings and baselines (R52, R63, R70, R513, R514,
R516), and keeps a life-cycle change in hand forward and an OTP_KEY in hand at an unprogrammed slot. -/
def Obligations.StepGrowsOtp : Prop :=
  ∀ s t : State, s.LifecycleForward → s.KeyUnprogrammed → step s = .next t →
    s.otp.Grows t.otp ∧ t.LifecycleForward ∧ t.KeyUnprogrammed

/-- An unpowered die (R454, R547, R551): until VSUP is valid no command changes anything but the Ember domain, which VBAT supplies; no pin
group but PWR_REQ is driven, and the Flue bypass is closed; a die that is off or on hold-up energy has no VSUP, in every state that a
step reaches. That a command sent to a die without supply has no effect is the model's choice of form (log entry 1). -/
def Obligations.UnpoweredDie : Prop :=
  (∀ (c : Instr) (s : State), s.sys.phase = .off → s.sys.vsup = false → (∀ elapsed, c ≠ .vsupValid elapsed) →
    ∃ e, exec c s = .next { s with ember := e }) ∧
  (∀ (s : State) (g : PinGroup), s.sys.phase = .off → g ≠ .pwrReq → s.pins g = if g = .flue then .bypassClosed else .notDriven) ∧
  (∀ s t : State, s.SupplySound → step s = .next t → t.SupplySound)
end

