-- ==== Sys2Proof/Laws/Store.lean ====
section
/-!
SUPPORT. Laws of the sparse memories: a read after a write gives the value written, a write leaves every other address
alone, and every write keeps the canonical form.
-/
namespace Sys2Proof.Machine

open Sys2Proof

theorem Store.get_append_of_not_mem {α : Type} (l r : List (Nat × α)) (d : α) (a : Nat) (h : ∀ c ∈ l, c.1 ≠ a) :
    Store.get (l ++ r) d a = Store.get r d a := by
  induction l with
  | nil => rfl
  | cons c t ih =>
    obtain ⟨b, w⟩ := c
    have hb : b ≠ a := h (b, w) (by simp)
    simp only [List.cons_append, Store.get, hb, if_false]
    exact ih (fun c hc => h c (by simp [hc]))

theorem Store.get_of_not_mem {α : Type} (l : List (Nat × α)) (d : α) (a : Nat) (h : ∀ c ∈ l, c.1 ≠ a) :
    Store.get l d a = d := by
  simpa [Store.get] using Store.get_append_of_not_mem l [] d a h

theorem Store.get_filter_of_keep {α : Type} (l : List (Nat × α)) (r : List (Nat × α)) (d : α) (a : Nat) (p : Nat → Bool)
    (h : p a = true) : Store.get (l.filter (fun c => p c.1) ++ r) d a = Store.get (l ++ r) d a := by
  induction l with
  | nil => rfl
  | cons c t ih =>
    obtain ⟨b, w⟩ := c
    by_cases hb : b = a
    · subst hb; simp [h, Store.get]
    · by_cases hp : p b = true
      · simp [hp, Store.get, hb, ih]
      · simp [hp, Store.get, hb, ih]

/-- A read after a write to the same address gives the value written. -/
@[simp] theorem Store.get_put_same {α : Type} [DecidableEq α] (m : List (Nat × α)) (d : α) (a : Nat) (v : α) :
    Store.get (Store.put m d a v) d a = v := by
  unfold Store.put
  rw [Store.get_append_of_not_mem _ _ _ _ (by intro c hc; simp at hc; omega)]
  by_cases hv : v = d
  · subst hv
    simp only [if_true, List.nil_append]
    exact Store.get_of_not_mem _ _ _ (by intro c hc; simp at hc; omega)
  · simp [hv, Store.get]

/-- A write leaves every other address alone. -/
theorem Store.get_put_other {α : Type} [DecidableEq α] (m : List (Nat × α)) (d e : α) (a b : Nat) (v : α) (h : a ≠ b) :
    Store.get (Store.put m d a v) e b = Store.get m e b := by
  unfold Store.put
  rcases Nat.lt_or_gt_of_ne h with hab | hab
  · rw [Store.get_append_of_not_mem _ _ _ _ (by intro c hc; simp at hc; omega)]
    rw [Store.get_append_of_not_mem _ _ _ _ (by intro c hc; split at hc <;> simp at hc; subst hc; exact h)]
    have := Store.get_filter_of_keep m [] e b (fun x => decide (a < x)) (by simp; omega)
    simpa using this
  · rw [Store.get_filter_of_keep m _ e b (fun x => decide (x < a)) (by simp; omega)]
    have hr : ∀ c ∈ (if v = d then [] else [(a, v)]) ++ m.filter (fun c => decide (a < c.1)), c.1 ≠ b := by
      intro c hc
      rcases List.mem_append.1 hc with hc | hc
      · split at hc <;> simp at hc; subst hc; exact h
      · simp at hc; omega
    clear hab
    induction m with
    | nil => simpa [Store.get] using Store.get_of_not_mem _ e b (by
        intro c hc; split at hc <;> simp at hc; subst hc; exact h)
    | cons c t ih =>
      obtain ⟨x, w⟩ := c
      by_cases hx : x = b
      · simp [hx, Store.get]
      · simp only [List.cons_append, Store.get, hx, if_false]
        have key : ∀ (l r1 r2 : List (Nat × α)), (∀ c ∈ r1, c.1 ≠ b) → (∀ c ∈ r2, c.1 ≠ b) →
            Store.get (l ++ r1) e b = Store.get (l ++ r2) e b := by
          intro l r1 r2 h1 h2
          induction l with
          | nil => simp only [List.nil_append]; rw [Store.get_of_not_mem _ _ _ h1, Store.get_of_not_mem _ _ _ h2]
          | cons c t ih2 => obtain ⟨y, u⟩ := c; simp [Store.get, ih2]
        have := key t _ [] hr (by simp)
        simpa using this

theorem Store.sorted_iff {α : Type} (m : List (Nat × α)) :
    Store.sorted m = true ↔ m.Pairwise (fun c e => c.1 < e.1) := by
  induction m with
  | nil => simp [Store.sorted]
  | cons c t ih =>
    cases t with
    | nil => obtain ⟨a, v⟩ := c; simp [Store.sorted]
    | cons e u =>
      obtain ⟨a, v⟩ := c; obtain ⟨b, w⟩ := e
      simp only [Store.sorted, Bool.and_eq_true, decide_eq_true_eq, ih]
      constructor
      · rintro ⟨h1, h2⟩
        refine List.Pairwise.cons ?_ h2
        intro x hx
        rcases List.mem_cons.1 hx with rfl | hx
        · exact h1
        · exact Nat.lt_trans h1 (List.rel_of_pairwise_cons h2 hx)
      · intro h
        exact ⟨List.rel_of_pairwise_cons h (List.mem_cons_self (a := (b, w))), h.of_cons⟩

theorem Store.wf_iff {α : Type} [DecidableEq α] (dflt : Nat → α) (m : List (Nat × α)) :
    Store.wf dflt m = true ↔ m.Pairwise (fun c e => c.1 < e.1) ∧ ∀ c ∈ m, c.2 ≠ dflt c.1 := by
  simp [Store.wf, Store.sorted_iff]

/-- Replacing what lies between `a` and `z` by a canonical piece keeps the canonical form. -/
theorem Store.wf_splice {α : Type} [DecidableEq α] (dflt : Nat → α) (m p : List (Nat × α)) (a z : Nat) (haz : a ≤ z)
    (hm : Store.wf dflt m = true) (hp : Store.wf dflt p = true) (hlo : ∀ c ∈ p, a ≤ c.1) (hhi : ∀ c ∈ p, c.1 < z) :
    Store.wf dflt (m.filter (fun c => decide (c.1 < a)) ++ (p ++ m.filter (fun c => decide (z ≤ c.1)))) = true := by
  rw [Store.wf_iff] at *
  obtain ⟨hs, hd⟩ := hm
  obtain ⟨ps, pd⟩ := hp
  refine ⟨?_, ?_⟩
  · rw [List.pairwise_append]
    refine ⟨hs.filter _, ?_, ?_⟩
    · rw [List.pairwise_append]
      refine ⟨ps, hs.filter _, ?_⟩
      intro c hc e he
      have := hhi c hc
      simp at he; omega
    · intro c hc e he
      simp at hc
      rcases List.mem_append.1 he with he | he
      · have := hlo e he; omega
      · simp at he; omega
  · intro c hc
    rcases List.mem_append.1 hc with hc | hc
    · exact hd c (List.mem_filter.1 hc).1
    · rcases List.mem_append.1 hc with hc | hc
      · exact pd c hc
      · exact hd c (List.mem_filter.1 hc).1

/-- A write keeps the canonical form. -/
theorem Store.put_wf {α : Type} [DecidableEq α] (dflt : Nat → α) (m : List (Nat × α)) (a : Nat) (v : α)
    (h : Store.wf dflt m = true) : Store.wf dflt (Store.put m (dflt a) a v) = true := by
  have := Store.wf_splice dflt m (if v = dflt a then [] else [(a, v)]) a (a + 1) (by omega) h
    (by split <;> simp_all [Store.wf, Store.sorted])
    (by intro c hc; split at hc <;> simp at hc; subst hc; exact Nat.le_refl a)
    (by intro c hc; split at hc <;> simp at hc; subst hc; exact Nat.lt_succ_self a)
  simpa [Store.put, Nat.succ_le_iff] using this

theorem Mem.cells_mem (d : Byte) (bs : List Byte) : ∀ (a : Nat) (c : Nat × Byte), c ∈ Mem.cells d a bs →
    a ≤ c.1 ∧ c.1 < a + bs.length ∧ c.2 ≠ d := by
  induction bs with
  | nil => intro a c h; simp [Mem.cells] at h
  | cons b t ih =>
    intro a c h
    by_cases hb : b = d
    · simp only [Mem.cells, hb, if_true] at h
      have := ih (a + 1) c h
      simp only [List.length_cons]; exact ⟨by omega, by omega, this.2.2⟩
    · simp only [Mem.cells, hb, if_false, List.mem_cons] at h
      rcases h with rfl | h
      · simp only [List.length_cons]; exact ⟨Nat.le_refl _, by omega, hb⟩
      · have := ih (a + 1) c h
        simp only [List.length_cons]; exact ⟨by omega, by omega, this.2.2⟩

theorem Mem.cells_wf (d : Byte) (bs : List Byte) : ∀ a, Mem.wf d (Mem.cells d a bs) = true := by
  induction bs with
  | nil => intro a; rfl
  | cons b t ih =>
    intro a
    have h := ih (a + 1)
    unfold Mem.wf at *
    by_cases hb : b = d
    · simpa [Mem.cells, hb] using h
    · rw [Store.wf_iff] at *
      simp only [Mem.cells, hb, if_false, List.pairwise_cons, List.mem_cons]
      refine ⟨⟨fun c hc => ?_, h.1⟩, fun c hc => ?_⟩
      · have := Mem.cells_mem d t (a + 1) c hc; omega
      · rcases hc with rfl | hc
        · exact hb
        · exact h.2 c hc

/-- Writing a byte string keeps the canonical form. -/
theorem Mem.write_wf (d : Byte) (m : List (Nat × Byte)) (a : Nat) (bs : List Byte) (h : Mem.wf d m = true) :
    Mem.wf d (Mem.write d m a bs) = true :=
  Store.wf_splice (fun _ => d) m (Mem.cells d a bs) a (a + bs.length) (by omega) h (Mem.cells_wf d bs a)
    (fun c hc => (Mem.cells_mem d bs a c hc).1) (fun c hc => (Mem.cells_mem d bs a c hc).2.1)

theorem Mem.get_cells (d : Byte) (bs : List Byte) : ∀ (a i : Nat), i < bs.length →
    Store.get (Mem.cells d a bs) d (a + i) = bs.getD i d := by
  induction bs with
  | nil => intro a i h; simp at h
  | cons b t ih =>
    intro a i h
    cases i with
    | zero =>
      by_cases hb : b = d
      · simp only [Mem.cells, hb, if_true, Nat.add_zero, List.getD_cons_zero]
        exact Store.get_of_not_mem _ _ _ (fun c hc => by have := Mem.cells_mem d t (a + 1) c hc; omega)
      · simp [Mem.cells, hb, Store.get]
    | succ i =>
      have := ih (a + 1) i (by simpa using h)
      have e : a + (i + 1) = a + 1 + i := by omega
      by_cases hb : b = d
      · simp only [Mem.cells, hb, if_true, List.getD_cons_succ]; rw [e]; exact this
      · have hne : a ≠ a + 1 + i := by omega
        simp only [Mem.cells, hb, if_false, Store.get, List.getD_cons_succ]
        rw [e, if_neg hne]; exact this

theorem Store.get_append_of_not_mem_right {α : Type} (l r : List (Nat × α)) (d : α) (a : Nat) (h : ∀ c ∈ r, c.1 ≠ a) :
    Store.get (l ++ r) d a = Store.get l d a := by
  induction l with
  | nil => simp only [List.nil_append]; rw [Store.get_of_not_mem _ _ _ h]; rfl
  | cons c t ih => obtain ⟨y, u⟩ := c; simp [Store.get, ih]

/-- A byte inside the stored string reads as stored. -/
theorem Mem.byte_write_in (d : Byte) (m : List (Nat × Byte)) (a i : Nat) (bs : List Byte) (h : i < bs.length) :
    Mem.byte d (Mem.write d m a bs) (a + i) = bs.getD i d := by
  unfold Mem.byte Mem.write
  rw [Store.get_append_of_not_mem _ _ _ _ (by intro c hc; simp at hc; omega)]
  rw [Store.get_append_of_not_mem_right _ _ _ _ (by intro c hc; simp at hc; omega)]
  exact Mem.get_cells d bs a i h

/-- A byte outside the stored string is left alone. -/
theorem Mem.byte_write_out (d : Byte) (m : List (Nat × Byte)) (a b : Nat) (bs : List Byte) (h : b < a ∨ a + bs.length ≤ b) :
    Mem.byte d (Mem.write d m a bs) b = Mem.byte d m b := by
  unfold Mem.byte Mem.write
  have hc : ∀ c ∈ Mem.cells d a bs, c.1 ≠ b := fun c hc => by have := Mem.cells_mem d bs a c hc; omega
  rcases h with h | h
  · rw [Store.get_append_of_not_mem_right _ _ _ _ (by
      intro c hm; rcases List.mem_append.1 hm with hm | hm
      · exact hc c hm
      · simp at hm; omega)]
    have := Store.get_filter_of_keep m [] d b (fun x => decide (x < a)) (by simp; omega)
    simpa using this
  · rw [Store.get_append_of_not_mem _ _ _ _ (by intro c hm; simp at hm; omega)]
    rw [Store.get_append_of_not_mem _ _ _ _ hc]
    have := Store.get_filter_of_keep m [] d b (fun x => decide (a + bs.length ≤ x)) (by simp; omega)
    simpa using this

end Sys2Proof.Machine
end

