-- ==== Sys2Proof/Laws/Regs.lean ====
section
/-!
SUPPORT. Laws of the registers and their fields: what a read gives after a write of the same field, of another field of the
same register, and of another register.
-/
namespace Sys2Proof.Machine

open Sys2Proof

/-- A field lies inside its 32-bit register. -/
def Fld.ok (f : Fld) : Bool := decide (f.lo ≤ f.hi) && decide (f.hi < 32)

/-- Two fields share no bit. -/
def Fld.apart (f g : Fld) : Bool := decide (f.addr ≠ g.addr) || decide (f.hi < g.lo) || decide (g.hi < f.lo)

theorem Fld.apart_iff (f g : Fld) : f.apart g = true ↔ f.addr ≠ g.addr ∨ f.hi < g.lo ∨ g.hi < f.lo := by
  simp [Fld.apart, or_assoc]

@[simp] theorem State.reg_setReg_same (s : State) (a : Nat) (w : Word) : (s.setReg a w).reg a = w := by
  simp [State.reg, State.setReg]

theorem State.reg_setReg_other (s : State) (a b : Nat) (w : Word) (h : a ≠ b) : (s.setReg a w).reg b = s.reg b := by
  simp [State.reg, State.setReg, Store.get_put_other _ _ _ _ _ _ h]

/-- Splitting the sum `Fld.put` builds, in numbers. -/
theorem Fld.put_split (w v lo n : Nat) (hw : w < 2 ^ 32) (h : lo + n ≤ 32) :
    w % 2 ^ lo + v % 2 ^ n * 2 ^ lo + w / 2 ^ (lo + n) * 2 ^ (lo + n) < 2 ^ 32 := by
  have h1 : w % 2 ^ lo < 2 ^ lo := Nat.mod_lt _ (by positivity)
  have h2 : v % 2 ^ n < 2 ^ n := Nat.mod_lt _ (by positivity)
  have h3 : w % 2 ^ lo + v % 2 ^ n * 2 ^ lo < 2 ^ (lo + n) := by
    calc w % 2 ^ lo + v % 2 ^ n * 2 ^ lo < 2 ^ lo + v % 2 ^ n * 2 ^ lo := by omega
      _ = (v % 2 ^ n + 1) * 2 ^ lo := by ring
      _ ≤ 2 ^ n * 2 ^ lo := Nat.mul_le_mul_right _ h2
      _ = 2 ^ (lo + n) := by rw [pow_add, Nat.mul_comm]
  have e : (2 : Nat) ^ 32 = 2 ^ (32 - (lo + n)) * 2 ^ (lo + n) := by rw [← pow_add]; congr 1; omega
  have h4 : w / 2 ^ (lo + n) < 2 ^ (32 - (lo + n)) := by
    rw [Nat.div_lt_iff_lt_mul (by positivity), ← e]; exact hw
  calc w % 2 ^ lo + v % 2 ^ n * 2 ^ lo + w / 2 ^ (lo + n) * 2 ^ (lo + n)
      < 2 ^ (lo + n) + w / 2 ^ (lo + n) * 2 ^ (lo + n) := by omega
    _ = (w / 2 ^ (lo + n) + 1) * 2 ^ (lo + n) := by ring
    _ ≤ 2 ^ (32 - (lo + n)) * 2 ^ (lo + n) := Nat.mul_le_mul_right _ h4
    _ = 2 ^ 32 := e.symm

theorem Fld.put_toNat (f : Fld) (w : Word) (v : Nat) (h : f.ok = true) :
    (f.put w v).toNat =
      w.toNat % 2 ^ f.lo + v % 2 ^ f.width * 2 ^ f.lo + w.toNat / 2 ^ (f.lo + f.width) * 2 ^ (f.lo + f.width) := by
  simp only [Fld.ok, Bool.and_eq_true, decide_eq_true_eq] at h
  have hs := Fld.put_split w.toNat v f.lo f.width w.isLt (by unfold Fld.width; omega)
  unfold Fld.put
  rw [BitVec.toNat_ofNat, Nat.mod_eq_of_lt hs]

/-- A field reads as written, less what does not fit. -/
theorem Fld.get_put_same (f : Fld) (w : Word) (v : Nat) (h : f.ok = true) : f.get (f.put w v) = v % 2 ^ f.width := by
  have h1 : w.toNat % 2 ^ f.lo < 2 ^ f.lo := Nat.mod_lt _ (by positivity)
  unfold Fld.get
  rw [Fld.put_toNat f w v h]
  have e : w.toNat % 2 ^ f.lo + v % 2 ^ f.width * 2 ^ f.lo + w.toNat / 2 ^ (f.lo + f.width) * 2 ^ (f.lo + f.width)
      = w.toNat % 2 ^ f.lo + (v % 2 ^ f.width + w.toNat / 2 ^ (f.lo + f.width) * 2 ^ f.width) * 2 ^ f.lo := by
    rw [pow_add]; ring
  rw [e, Nat.add_mul_div_right _ _ (by positivity), Nat.div_eq_of_lt h1, Nat.zero_add, Nat.add_mul_mod_self_right, Nat.mod_mod]

/-- A field that shares no bit with the one written keeps its value. -/
theorem Fld.get_put_apart (f g : Fld) (w : Word) (v : Nat) (hf : f.ok = true) (h : f.hi < g.lo ∨ g.hi < f.lo) :
    g.get (f.put w v) = g.get w := by
  have h1 : w.toNat % 2 ^ f.lo < 2 ^ f.lo := Nat.mod_lt _ (by positivity)
  have h2 : v % 2 ^ f.width < 2 ^ f.width := Nat.mod_lt _ (by positivity)
  unfold Fld.get
  rw [Fld.put_toNat f w v hf]
  have hok := hf
  simp only [Fld.ok, Bool.and_eq_true, decide_eq_true_eq] at hok
  rcases h with h | h
  · obtain ⟨k, hk⟩ : ∃ k, g.lo = f.lo + f.width + k := ⟨g.lo - (f.lo + f.width), by unfold Fld.width; omega⟩
    have h3 : w.toNat % 2 ^ f.lo + v % 2 ^ f.width * 2 ^ f.lo < 2 ^ (f.lo + f.width) := by
      calc w.toNat % 2 ^ f.lo + v % 2 ^ f.width * 2 ^ f.lo < (v % 2 ^ f.width + 1) * 2 ^ f.lo := by
            rw [Nat.add_mul, Nat.one_mul]; omega
        _ ≤ 2 ^ f.width * 2 ^ f.lo := Nat.mul_le_mul_right _ h2
        _ = 2 ^ (f.lo + f.width) := by rw [pow_add, Nat.mul_comm]
    rw [hk, pow_add 2 (f.lo + f.width) k, ← Nat.div_div_eq_div_mul, ← Nat.div_div_eq_div_mul,
      Nat.add_mul_div_right _ _ (by positivity), Nat.div_eq_of_lt h3, Nat.zero_add]
  · by_cases hg : g.hi < g.lo
    · have : g.width = 0 := by unfold Fld.width; omega
      simp [this, Nat.mod_one]
    obtain ⟨k, hk⟩ : ∃ k, f.lo = g.lo + g.width + k := ⟨f.lo - (g.lo + g.width), by unfold Fld.width; omega⟩
    have key : ∀ x : Nat, x / 2 ^ g.lo % 2 ^ g.width = x % 2 ^ (g.lo + g.width) / 2 ^ g.lo := by
      intro x; rw [pow_add, Nat.mod_mul_right_div_self]
    have hd : (2 : Nat) ^ (g.lo + g.width) ∣ 2 ^ f.lo := by rw [hk]; exact pow_dvd_pow 2 (by omega)
    have e1 : (w.toNat % 2 ^ f.lo + v % 2 ^ f.width * 2 ^ f.lo + w.toNat / 2 ^ (f.lo + f.width) * 2 ^ (f.lo + f.width))
        % 2 ^ (g.lo + g.width) = w.toNat % 2 ^ (g.lo + g.width) := by
      have d1 : (2 : Nat) ^ (g.lo + g.width) ∣ v % 2 ^ f.width * 2 ^ f.lo := Dvd.dvd.mul_left hd _
      have d2 : (2 : Nat) ^ (g.lo + g.width) ∣ w.toNat / 2 ^ (f.lo + f.width) * 2 ^ (f.lo + f.width) :=
        Dvd.dvd.mul_left (hd.trans (pow_dvd_pow 2 (by omega))) _
      rw [Nat.add_mod, Nat.mod_eq_zero_of_dvd d2, Nat.add_zero, Nat.mod_mod, Nat.add_mod, Nat.mod_eq_zero_of_dvd d1,
        Nat.add_zero, Nat.mod_mod, Nat.mod_mod_of_dvd _ hd]
    rw [key, key, e1]

/-- A field reads as written, less what does not fit. -/
theorem State.getF_setF_same (s : State) (f : Fld) (v : Nat) (h : f.ok = true) :
    (s.setF f v).getF f = v % 2 ^ f.width := by
  simp [State.getF, State.setF, Fld.get_put_same f _ _ h]

/-- Writing one field leaves every field apart from it alone. -/
theorem State.getF_setF_apart (s : State) (f g : Fld) (v : Nat) (hf : f.ok = true) (h : f.apart g = true) :
    (s.setF f v).getF g = s.getF g := by
  unfold State.getF State.setF
  by_cases ha : f.addr = g.addr
  · rw [← ha, State.reg_setReg_same]
    simp only [Fld.apart, Bool.or_eq_true, decide_eq_true_eq] at h
    exact Fld.get_put_apart f g _ v hf (by omega)
  · rw [State.reg_setReg_other _ _ _ _ ha]

/-- Writing a field leaves every register but its own alone. -/
theorem State.reg_setF_other (s : State) (f : Fld) (v b : Nat) (h : f.addr ≠ b) : (s.setF f v).reg b = s.reg b :=
  State.reg_setReg_other _ _ _ _ h

/-- Setting a register leaves the fields of the others alone. -/
theorem State.getF_setReg_other (s : State) (a : Nat) (w : Word) (g : Fld) (h : a ≠ g.addr) :
    (s.setReg a w).getF g = s.getF g := by
  unfold State.getF; rw [State.reg_setReg_other _ _ _ _ h]

theorem State.getF_setReg_same (s : State) (w : Word) (g : Fld) : (s.setReg g.addr w).getF g = g.get w := by
  unfold State.getF; rw [State.reg_setReg_same]

/-- A field never reads a value wider than itself. -/
theorem State.getF_lt (s : State) (f : Fld) : s.getF f < 2 ^ f.width := Nat.mod_lt _ (by positivity)

/-- A counter counts up to the largest value of its field and stops there. -/
theorem State.getF_addF_same (s : State) (f : Fld) (n : Nat) (h : f.ok = true) :
    (s.addF f n).getF f = min (2 ^ f.width - 1) (s.getF f + n) := by
  unfold State.addF
  rw [State.getF_setF_same _ _ _ h, Nat.mod_eq_of_lt]
  have : 0 < 2 ^ f.width := by positivity
  omega

theorem State.getF_addF_apart (s : State) (f g : Fld) (n : Nat) (hf : f.ok = true) (h : f.apart g = true) :
    (s.addF f n).getF g = s.getF g := State.getF_setF_apart s f g _ hf h

theorem State.getF_incF_same (s : State) (f : Fld) (h : f.ok = true) :
    (s.incF f).getF f = min (2 ^ f.width - 1) (s.getF f + 1) := State.getF_addF_same s f 1 h

theorem State.getF_incF_apart (s : State) (f g : Fld) (hf : f.ok = true) (h : f.apart g = true) :
    (s.incF f).getF g = s.getF g := State.getF_setF_apart s f g _ hf h

/-- Every register write keeps the register store canonical. -/
theorem State.setReg_wf (s : State) (a : Nat) (w : Word) (h : Store.wf regReset s.regs = true) :
    Store.wf regReset (s.setReg a w).regs = true := Store.put_wf regReset s.regs a w h

theorem State.setF_wf (s : State) (f : Fld) (v : Nat) (h : Store.wf regReset s.regs = true) :
    Store.wf regReset (s.setF f v).regs = true := State.setReg_wf s _ _ h

/-- An event leaves every register but its own event register alone. -/
theorem State.reg_event_other (s : State) (e : EvBlk) (b a : Nat) (h : e.ev.addr ≠ a) : (s.event e b).reg a = s.reg a := by
  unfold State.event
  dsimp only
  split
  · exact State.reg_setF_other s e.ev _ a h
  · exact State.reg_setF_other s e.ev _ a h

theorem State.getF_event_other (s : State) (e : EvBlk) (b : Nat) (g : Fld) (h : e.ev.addr ≠ g.addr) :
    (s.event e b).getF g = s.getF g := by
  unfold State.getF; rw [State.reg_event_other _ _ _ _ h]

/-- An event sets its bit and no other (RS). -/
theorem State.getF_event_same (s : State) (e : EvBlk) (b : Nat) (h : e.ev.ok = true) :
    (s.event e b).getF e.ev = (s.getF e.ev ||| 2 ^ b) % 2 ^ e.ev.width := by
  unfold State.event
  dsimp only
  split
  · exact State.getF_setF_same s e.ev _ h
  · exact State.getF_setF_same s e.ev _ h

end Sys2Proof.Machine
end

