-- ==== Sys2Proof/Laws/State.lean ====
section
/-!
SUPPORT. What each named update of State leaves alone, one field at a time.
-/
namespace Sys2Proof.Machine

open Sys2Proof

@[simp] theorem State.setReg_tiles (s : State) (a : Nat) (w : Word) : (s.setReg a w).tiles = s.tiles := rfl
@[simp] theorem State.setReg_mram (s : State) (a : Nat) (w : Word) : (s.setReg a w).mram = s.mram := rfl
@[simp] theorem State.setReg_flash (s : State) (a : Nat) (w : Word) : (s.setReg a w).flash = s.flash := rfl
@[simp] theorem State.setReg_otp (s : State) (a : Nat) (w : Word) : (s.setReg a w).otp = s.otp := rfl
@[simp] theorem State.setReg_ember (s : State) (a : Nat) (w : Word) : (s.setReg a w).ember = s.ember := rfl
@[simp] theorem State.setReg_sys (s : State) (a : Nat) (w : Word) : (s.setReg a w).sys = s.sys := rfl
@[simp] theorem State.setReg_doms (s : State) (a : Nat) (w : Word) : (s.setReg a w).doms = s.doms := rfl
@[simp] theorem State.setReg_flu (s : State) (a : Nat) (w : Word) : (s.setReg a w).flu = s.flu := rfl
@[simp] theorem State.setReg_img (s : State) (a : Nat) (w : Word) : (s.setReg a w).img = s.img := rfl
@[simp] theorem State.setReg_gr (s : State) (a : Nat) (w : Word) : (s.setReg a w).gr = s.gr := rfl
@[simp] theorem State.setReg_lds (s : State) (a : Nat) (w : Word) : (s.setReg a w).lds = s.lds := rfl
@[simp] theorem State.setReg_flt (s : State) (a : Nat) (w : Word) : (s.setReg a w).flt = s.flt := rfl
@[simp] theorem State.setReg_gdr (s : State) (a : Nat) (w : Word) : (s.setReg a w).gdr = s.gdr := rfl
@[simp] theorem State.setReg_mots (s : State) (a : Nat) (w : Word) : (s.setReg a w).mots = s.mots := rfl
@[simp] theorem State.setReg_adc (s : State) (a : Nat) (w : Word) : (s.setReg a w).adc = s.adc := rfl
@[simp] theorem State.setReg_poss (s : State) (a : Nat) (w : Word) : (s.setReg a w).poss = s.poss := rfl
@[simp] theorem State.setReg_sps (s : State) (a : Nat) (w : Word) : (s.setReg a w).sps = s.sps := rfl
@[simp] theorem State.setReg_cans (s : State) (a : Nat) (w : Word) : (s.setReg a w).cans = s.cans := rfl
@[simp] theorem State.setReg_eths (s : State) (a : Nat) (w : Word) : (s.setReg a w).eths = s.eths := rfl
@[simp] theorem State.setReg_feedq (s : State) (a : Nat) (w : Word) : (s.setReg a w).feedq = s.feedq := rfl
@[simp] theorem State.setReg_map (s : State) (a : Nat) (w : Word) : (s.setReg a w).map = s.map := rfl
@[simp] theorem State.setReg_sec (s : State) (a : Nat) (w : Word) : (s.setReg a w).sec = s.sec := rfl
@[simp] theorem State.setReg_saf (s : State) (a : Nat) (w : Word) : (s.setReg a w).saf = s.saf := rfl
@[simp] theorem State.setReg_cmps (s : State) (a : Nat) (w : Word) : (s.setReg a w).cmps = s.cmps := rfl
@[simp] theorem State.setReg_jrn (s : State) (a : Nat) (w : Word) : (s.setReg a w).jrn = s.jrn := rfl
@[simp] theorem State.setReg_ash (s : State) (a : Nat) (w : Word) : (s.setReg a w).ash = s.ash := rfl
@[simp] theorem State.setReg_age (s : State) (a : Nat) (w : Word) : (s.setReg a w).age = s.age := rfl
@[simp] theorem State.setReg_mbx (s : State) (a : Nat) (w : Word) : (s.setReg a w).mbx = s.mbx := rfl
@[simp] theorem State.setReg_svc (s : State) (a : Nat) (w : Word) : (s.setReg a w).svc = s.svc := rfl
@[simp] theorem State.setReg_free (s : State) (a : Nat) (w : Word) : (s.setReg a w).free = s.free := rfl
@[simp] theorem State.setReg_pending (s : State) (a : Nat) (w : Word) : (s.setReg a w).pending = s.pending := rfl

@[simp] theorem State.setF_tiles (s : State) (f : Fld) (v : Nat) : (s.setF f v).tiles = s.tiles := rfl
@[simp] theorem State.setF_mram (s : State) (f : Fld) (v : Nat) : (s.setF f v).mram = s.mram := rfl
@[simp] theorem State.setF_flash (s : State) (f : Fld) (v : Nat) : (s.setF f v).flash = s.flash := rfl
@[simp] theorem State.setF_otp (s : State) (f : Fld) (v : Nat) : (s.setF f v).otp = s.otp := rfl
@[simp] theorem State.setF_ember (s : State) (f : Fld) (v : Nat) : (s.setF f v).ember = s.ember := rfl
@[simp] theorem State.setF_sys (s : State) (f : Fld) (v : Nat) : (s.setF f v).sys = s.sys := rfl
@[simp] theorem State.setF_doms (s : State) (f : Fld) (v : Nat) : (s.setF f v).doms = s.doms := rfl
@[simp] theorem State.setF_flu (s : State) (f : Fld) (v : Nat) : (s.setF f v).flu = s.flu := rfl
@[simp] theorem State.setF_img (s : State) (f : Fld) (v : Nat) : (s.setF f v).img = s.img := rfl
@[simp] theorem State.setF_gr (s : State) (f : Fld) (v : Nat) : (s.setF f v).gr = s.gr := rfl
@[simp] theorem State.setF_lds (s : State) (f : Fld) (v : Nat) : (s.setF f v).lds = s.lds := rfl
@[simp] theorem State.setF_flt (s : State) (f : Fld) (v : Nat) : (s.setF f v).flt = s.flt := rfl
@[simp] theorem State.setF_gdr (s : State) (f : Fld) (v : Nat) : (s.setF f v).gdr = s.gdr := rfl
@[simp] theorem State.setF_mots (s : State) (f : Fld) (v : Nat) : (s.setF f v).mots = s.mots := rfl
@[simp] theorem State.setF_adc (s : State) (f : Fld) (v : Nat) : (s.setF f v).adc = s.adc := rfl
@[simp] theorem State.setF_poss (s : State) (f : Fld) (v : Nat) : (s.setF f v).poss = s.poss := rfl
@[simp] theorem State.setF_sps (s : State) (f : Fld) (v : Nat) : (s.setF f v).sps = s.sps := rfl
@[simp] theorem State.setF_cans (s : State) (f : Fld) (v : Nat) : (s.setF f v).cans = s.cans := rfl
@[simp] theorem State.setF_eths (s : State) (f : Fld) (v : Nat) : (s.setF f v).eths = s.eths := rfl
@[simp] theorem State.setF_feedq (s : State) (f : Fld) (v : Nat) : (s.setF f v).feedq = s.feedq := rfl
@[simp] theorem State.setF_map (s : State) (f : Fld) (v : Nat) : (s.setF f v).map = s.map := rfl
@[simp] theorem State.setF_sec (s : State) (f : Fld) (v : Nat) : (s.setF f v).sec = s.sec := rfl
@[simp] theorem State.setF_saf (s : State) (f : Fld) (v : Nat) : (s.setF f v).saf = s.saf := rfl
@[simp] theorem State.setF_cmps (s : State) (f : Fld) (v : Nat) : (s.setF f v).cmps = s.cmps := rfl
@[simp] theorem State.setF_jrn (s : State) (f : Fld) (v : Nat) : (s.setF f v).jrn = s.jrn := rfl
@[simp] theorem State.setF_ash (s : State) (f : Fld) (v : Nat) : (s.setF f v).ash = s.ash := rfl
@[simp] theorem State.setF_age (s : State) (f : Fld) (v : Nat) : (s.setF f v).age = s.age := rfl
@[simp] theorem State.setF_mbx (s : State) (f : Fld) (v : Nat) : (s.setF f v).mbx = s.mbx := rfl
@[simp] theorem State.setF_svc (s : State) (f : Fld) (v : Nat) : (s.setF f v).svc = s.svc := rfl
@[simp] theorem State.setF_free (s : State) (f : Fld) (v : Nat) : (s.setF f v).free = s.free := rfl
@[simp] theorem State.setF_pending (s : State) (f : Fld) (v : Nat) : (s.setF f v).pending = s.pending := rfl

@[simp] theorem State.setFlag_tiles (s : State) (f : Fld) (b : Bool) : (s.setFlag f b).tiles = s.tiles := rfl
@[simp] theorem State.setFlag_mram (s : State) (f : Fld) (b : Bool) : (s.setFlag f b).mram = s.mram := rfl
@[simp] theorem State.setFlag_flash (s : State) (f : Fld) (b : Bool) : (s.setFlag f b).flash = s.flash := rfl
@[simp] theorem State.setFlag_otp (s : State) (f : Fld) (b : Bool) : (s.setFlag f b).otp = s.otp := rfl
@[simp] theorem State.setFlag_ember (s : State) (f : Fld) (b : Bool) : (s.setFlag f b).ember = s.ember := rfl
@[simp] theorem State.setFlag_sys (s : State) (f : Fld) (b : Bool) : (s.setFlag f b).sys = s.sys := rfl
@[simp] theorem State.setFlag_doms (s : State) (f : Fld) (b : Bool) : (s.setFlag f b).doms = s.doms := rfl
@[simp] theorem State.setFlag_flu (s : State) (f : Fld) (b : Bool) : (s.setFlag f b).flu = s.flu := rfl
@[simp] theorem State.setFlag_img (s : State) (f : Fld) (b : Bool) : (s.setFlag f b).img = s.img := rfl
@[simp] theorem State.setFlag_gr (s : State) (f : Fld) (b : Bool) : (s.setFlag f b).gr = s.gr := rfl
@[simp] theorem State.setFlag_lds (s : State) (f : Fld) (b : Bool) : (s.setFlag f b).lds = s.lds := rfl
@[simp] theorem State.setFlag_flt (s : State) (f : Fld) (b : Bool) : (s.setFlag f b).flt = s.flt := rfl
@[simp] theorem State.setFlag_gdr (s : State) (f : Fld) (b : Bool) : (s.setFlag f b).gdr = s.gdr := rfl
@[simp] theorem State.setFlag_mots (s : State) (f : Fld) (b : Bool) : (s.setFlag f b).mots = s.mots := rfl
@[simp] theorem State.setFlag_adc (s : State) (f : Fld) (b : Bool) : (s.setFlag f b).adc = s.adc := rfl
@[simp] theorem State.setFlag_poss (s : State) (f : Fld) (b : Bool) : (s.setFlag f b).poss = s.poss := rfl
@[simp] theorem State.setFlag_sps (s : State) (f : Fld) (b : Bool) : (s.setFlag f b).sps = s.sps := rfl
@[simp] theorem State.setFlag_cans (s : State) (f : Fld) (b : Bool) : (s.setFlag f b).cans = s.cans := rfl
@[simp] theorem State.setFlag_eths (s : State) (f : Fld) (b : Bool) : (s.setFlag f b).eths = s.eths := rfl
@[simp] theorem State.setFlag_feedq (s : State) (f : Fld) (b : Bool) : (s.setFlag f b).feedq = s.feedq := rfl
@[simp] theorem State.setFlag_map (s : State) (f : Fld) (b : Bool) : (s.setFlag f b).map = s.map := rfl
@[simp] theorem State.setFlag_sec (s : State) (f : Fld) (b : Bool) : (s.setFlag f b).sec = s.sec := rfl
@[simp] theorem State.setFlag_saf (s : State) (f : Fld) (b : Bool) : (s.setFlag f b).saf = s.saf := rfl
@[simp] theorem State.setFlag_cmps (s : State) (f : Fld) (b : Bool) : (s.setFlag f b).cmps = s.cmps := rfl
@[simp] theorem State.setFlag_jrn (s : State) (f : Fld) (b : Bool) : (s.setFlag f b).jrn = s.jrn := rfl
@[simp] theorem State.setFlag_ash (s : State) (f : Fld) (b : Bool) : (s.setFlag f b).ash = s.ash := rfl
@[simp] theorem State.setFlag_age (s : State) (f : Fld) (b : Bool) : (s.setFlag f b).age = s.age := rfl
@[simp] theorem State.setFlag_mbx (s : State) (f : Fld) (b : Bool) : (s.setFlag f b).mbx = s.mbx := rfl
@[simp] theorem State.setFlag_svc (s : State) (f : Fld) (b : Bool) : (s.setFlag f b).svc = s.svc := rfl
@[simp] theorem State.setFlag_free (s : State) (f : Fld) (b : Bool) : (s.setFlag f b).free = s.free := rfl
@[simp] theorem State.setFlag_pending (s : State) (f : Fld) (b : Bool) : (s.setFlag f b).pending = s.pending := rfl

@[simp] theorem State.addF_tiles (s : State) (f : Fld) (n : Nat) : (s.addF f n).tiles = s.tiles := rfl
@[simp] theorem State.addF_mram (s : State) (f : Fld) (n : Nat) : (s.addF f n).mram = s.mram := rfl
@[simp] theorem State.addF_flash (s : State) (f : Fld) (n : Nat) : (s.addF f n).flash = s.flash := rfl
@[simp] theorem State.addF_otp (s : State) (f : Fld) (n : Nat) : (s.addF f n).otp = s.otp := rfl
@[simp] theorem State.addF_ember (s : State) (f : Fld) (n : Nat) : (s.addF f n).ember = s.ember := rfl
@[simp] theorem State.addF_sys (s : State) (f : Fld) (n : Nat) : (s.addF f n).sys = s.sys := rfl
@[simp] theorem State.addF_doms (s : State) (f : Fld) (n : Nat) : (s.addF f n).doms = s.doms := rfl
@[simp] theorem State.addF_flu (s : State) (f : Fld) (n : Nat) : (s.addF f n).flu = s.flu := rfl
@[simp] theorem State.addF_img (s : State) (f : Fld) (n : Nat) : (s.addF f n).img = s.img := rfl
@[simp] theorem State.addF_gr (s : State) (f : Fld) (n : Nat) : (s.addF f n).gr = s.gr := rfl
@[simp] theorem State.addF_lds (s : State) (f : Fld) (n : Nat) : (s.addF f n).lds = s.lds := rfl
@[simp] theorem State.addF_flt (s : State) (f : Fld) (n : Nat) : (s.addF f n).flt = s.flt := rfl
@[simp] theorem State.addF_gdr (s : State) (f : Fld) (n : Nat) : (s.addF f n).gdr = s.gdr := rfl
@[simp] theorem State.addF_mots (s : State) (f : Fld) (n : Nat) : (s.addF f n).mots = s.mots := rfl
@[simp] theorem State.addF_adc (s : State) (f : Fld) (n : Nat) : (s.addF f n).adc = s.adc := rfl
@[simp] theorem State.addF_poss (s : State) (f : Fld) (n : Nat) : (s.addF f n).poss = s.poss := rfl
@[simp] theorem State.addF_sps (s : State) (f : Fld) (n : Nat) : (s.addF f n).sps = s.sps := rfl
@[simp] theorem State.addF_cans (s : State) (f : Fld) (n : Nat) : (s.addF f n).cans = s.cans := rfl
@[simp] theorem State.addF_eths (s : State) (f : Fld) (n : Nat) : (s.addF f n).eths = s.eths := rfl
@[simp] theorem State.addF_feedq (s : State) (f : Fld) (n : Nat) : (s.addF f n).feedq = s.feedq := rfl
@[simp] theorem State.addF_map (s : State) (f : Fld) (n : Nat) : (s.addF f n).map = s.map := rfl
@[simp] theorem State.addF_sec (s : State) (f : Fld) (n : Nat) : (s.addF f n).sec = s.sec := rfl
@[simp] theorem State.addF_saf (s : State) (f : Fld) (n : Nat) : (s.addF f n).saf = s.saf := rfl
@[simp] theorem State.addF_cmps (s : State) (f : Fld) (n : Nat) : (s.addF f n).cmps = s.cmps := rfl
@[simp] theorem State.addF_jrn (s : State) (f : Fld) (n : Nat) : (s.addF f n).jrn = s.jrn := rfl
@[simp] theorem State.addF_ash (s : State) (f : Fld) (n : Nat) : (s.addF f n).ash = s.ash := rfl
@[simp] theorem State.addF_age (s : State) (f : Fld) (n : Nat) : (s.addF f n).age = s.age := rfl
@[simp] theorem State.addF_mbx (s : State) (f : Fld) (n : Nat) : (s.addF f n).mbx = s.mbx := rfl
@[simp] theorem State.addF_svc (s : State) (f : Fld) (n : Nat) : (s.addF f n).svc = s.svc := rfl
@[simp] theorem State.addF_free (s : State) (f : Fld) (n : Nat) : (s.addF f n).free = s.free := rfl
@[simp] theorem State.addF_pending (s : State) (f : Fld) (n : Nat) : (s.addF f n).pending = s.pending := rfl

@[simp] theorem State.incF_tiles (s : State) (f : Fld) : (s.incF f).tiles = s.tiles := rfl
@[simp] theorem State.incF_mram (s : State) (f : Fld) : (s.incF f).mram = s.mram := rfl
@[simp] theorem State.incF_flash (s : State) (f : Fld) : (s.incF f).flash = s.flash := rfl
@[simp] theorem State.incF_otp (s : State) (f : Fld) : (s.incF f).otp = s.otp := rfl
@[simp] theorem State.incF_ember (s : State) (f : Fld) : (s.incF f).ember = s.ember := rfl
@[simp] theorem State.incF_sys (s : State) (f : Fld) : (s.incF f).sys = s.sys := rfl
@[simp] theorem State.incF_doms (s : State) (f : Fld) : (s.incF f).doms = s.doms := rfl
@[simp] theorem State.incF_flu (s : State) (f : Fld) : (s.incF f).flu = s.flu := rfl
@[simp] theorem State.incF_img (s : State) (f : Fld) : (s.incF f).img = s.img := rfl
@[simp] theorem State.incF_gr (s : State) (f : Fld) : (s.incF f).gr = s.gr := rfl
@[simp] theorem State.incF_lds (s : State) (f : Fld) : (s.incF f).lds = s.lds := rfl
@[simp] theorem State.incF_flt (s : State) (f : Fld) : (s.incF f).flt = s.flt := rfl
@[simp] theorem State.incF_gdr (s : State) (f : Fld) : (s.incF f).gdr = s.gdr := rfl
@[simp] theorem State.incF_mots (s : State) (f : Fld) : (s.incF f).mots = s.mots := rfl
@[simp] theorem State.incF_adc (s : State) (f : Fld) : (s.incF f).adc = s.adc := rfl
@[simp] theorem State.incF_poss (s : State) (f : Fld) : (s.incF f).poss = s.poss := rfl
@[simp] theorem State.incF_sps (s : State) (f : Fld) : (s.incF f).sps = s.sps := rfl
@[simp] theorem State.incF_cans (s : State) (f : Fld) : (s.incF f).cans = s.cans := rfl
@[simp] theorem State.incF_eths (s : State) (f : Fld) : (s.incF f).eths = s.eths := rfl
@[simp] theorem State.incF_feedq (s : State) (f : Fld) : (s.incF f).feedq = s.feedq := rfl
@[simp] theorem State.incF_map (s : State) (f : Fld) : (s.incF f).map = s.map := rfl
@[simp] theorem State.incF_sec (s : State) (f : Fld) : (s.incF f).sec = s.sec := rfl
@[simp] theorem State.incF_saf (s : State) (f : Fld) : (s.incF f).saf = s.saf := rfl
@[simp] theorem State.incF_cmps (s : State) (f : Fld) : (s.incF f).cmps = s.cmps := rfl
@[simp] theorem State.incF_jrn (s : State) (f : Fld) : (s.incF f).jrn = s.jrn := rfl
@[simp] theorem State.incF_ash (s : State) (f : Fld) : (s.incF f).ash = s.ash := rfl
@[simp] theorem State.incF_age (s : State) (f : Fld) : (s.incF f).age = s.age := rfl
@[simp] theorem State.incF_mbx (s : State) (f : Fld) : (s.incF f).mbx = s.mbx := rfl
@[simp] theorem State.incF_svc (s : State) (f : Fld) : (s.incF f).svc = s.svc := rfl
@[simp] theorem State.incF_free (s : State) (f : Fld) : (s.incF f).free = s.free := rfl
@[simp] theorem State.incF_pending (s : State) (f : Fld) : (s.incF f).pending = s.pending := rfl

@[simp] theorem State.peakF_tiles (s : State) (f : Fld) (v : Nat) : (s.peakF f v).tiles = s.tiles := rfl
@[simp] theorem State.peakF_mram (s : State) (f : Fld) (v : Nat) : (s.peakF f v).mram = s.mram := rfl
@[simp] theorem State.peakF_flash (s : State) (f : Fld) (v : Nat) : (s.peakF f v).flash = s.flash := rfl
@[simp] theorem State.peakF_otp (s : State) (f : Fld) (v : Nat) : (s.peakF f v).otp = s.otp := rfl
@[simp] theorem State.peakF_ember (s : State) (f : Fld) (v : Nat) : (s.peakF f v).ember = s.ember := rfl
@[simp] theorem State.peakF_sys (s : State) (f : Fld) (v : Nat) : (s.peakF f v).sys = s.sys := rfl
@[simp] theorem State.peakF_doms (s : State) (f : Fld) (v : Nat) : (s.peakF f v).doms = s.doms := rfl
@[simp] theorem State.peakF_flu (s : State) (f : Fld) (v : Nat) : (s.peakF f v).flu = s.flu := rfl
@[simp] theorem State.peakF_img (s : State) (f : Fld) (v : Nat) : (s.peakF f v).img = s.img := rfl
@[simp] theorem State.peakF_gr (s : State) (f : Fld) (v : Nat) : (s.peakF f v).gr = s.gr := rfl
@[simp] theorem State.peakF_lds (s : State) (f : Fld) (v : Nat) : (s.peakF f v).lds = s.lds := rfl
@[simp] theorem State.peakF_flt (s : State) (f : Fld) (v : Nat) : (s.peakF f v).flt = s.flt := rfl
@[simp] theorem State.peakF_gdr (s : State) (f : Fld) (v : Nat) : (s.peakF f v).gdr = s.gdr := rfl
@[simp] theorem State.peakF_mots (s : State) (f : Fld) (v : Nat) : (s.peakF f v).mots = s.mots := rfl
@[simp] theorem State.peakF_adc (s : State) (f : Fld) (v : Nat) : (s.peakF f v).adc = s.adc := rfl
@[simp] theorem State.peakF_poss (s : State) (f : Fld) (v : Nat) : (s.peakF f v).poss = s.poss := rfl
@[simp] theorem State.peakF_sps (s : State) (f : Fld) (v : Nat) : (s.peakF f v).sps = s.sps := rfl
@[simp] theorem State.peakF_cans (s : State) (f : Fld) (v : Nat) : (s.peakF f v).cans = s.cans := rfl
@[simp] theorem State.peakF_eths (s : State) (f : Fld) (v : Nat) : (s.peakF f v).eths = s.eths := rfl
@[simp] theorem State.peakF_feedq (s : State) (f : Fld) (v : Nat) : (s.peakF f v).feedq = s.feedq := rfl
@[simp] theorem State.peakF_map (s : State) (f : Fld) (v : Nat) : (s.peakF f v).map = s.map := rfl
@[simp] theorem State.peakF_sec (s : State) (f : Fld) (v : Nat) : (s.peakF f v).sec = s.sec := rfl
@[simp] theorem State.peakF_saf (s : State) (f : Fld) (v : Nat) : (s.peakF f v).saf = s.saf := rfl
@[simp] theorem State.peakF_cmps (s : State) (f : Fld) (v : Nat) : (s.peakF f v).cmps = s.cmps := rfl
@[simp] theorem State.peakF_jrn (s : State) (f : Fld) (v : Nat) : (s.peakF f v).jrn = s.jrn := rfl
@[simp] theorem State.peakF_ash (s : State) (f : Fld) (v : Nat) : (s.peakF f v).ash = s.ash := rfl
@[simp] theorem State.peakF_age (s : State) (f : Fld) (v : Nat) : (s.peakF f v).age = s.age := rfl
@[simp] theorem State.peakF_mbx (s : State) (f : Fld) (v : Nat) : (s.peakF f v).mbx = s.mbx := rfl
@[simp] theorem State.peakF_svc (s : State) (f : Fld) (v : Nat) : (s.peakF f v).svc = s.svc := rfl
@[simp] theorem State.peakF_free (s : State) (f : Fld) (v : Nat) : (s.peakF f v).free = s.free := rfl
@[simp] theorem State.peakF_pending (s : State) (f : Fld) (v : Nat) : (s.peakF f v).pending = s.pending := rfl

@[simp] theorem State.lockedWrite_tiles (s : State) (a : Nat) : (s.lockedWrite a).tiles = s.tiles := rfl
@[simp] theorem State.lockedWrite_mram (s : State) (a : Nat) : (s.lockedWrite a).mram = s.mram := rfl
@[simp] theorem State.lockedWrite_flash (s : State) (a : Nat) : (s.lockedWrite a).flash = s.flash := rfl
@[simp] theorem State.lockedWrite_otp (s : State) (a : Nat) : (s.lockedWrite a).otp = s.otp := rfl
@[simp] theorem State.lockedWrite_ember (s : State) (a : Nat) : (s.lockedWrite a).ember = s.ember := rfl
@[simp] theorem State.lockedWrite_sys (s : State) (a : Nat) : (s.lockedWrite a).sys = s.sys := rfl
@[simp] theorem State.lockedWrite_doms (s : State) (a : Nat) : (s.lockedWrite a).doms = s.doms := rfl
@[simp] theorem State.lockedWrite_flu (s : State) (a : Nat) : (s.lockedWrite a).flu = s.flu := rfl
@[simp] theorem State.lockedWrite_img (s : State) (a : Nat) : (s.lockedWrite a).img = s.img := rfl
@[simp] theorem State.lockedWrite_gr (s : State) (a : Nat) : (s.lockedWrite a).gr = s.gr := rfl
@[simp] theorem State.lockedWrite_lds (s : State) (a : Nat) : (s.lockedWrite a).lds = s.lds := rfl
@[simp] theorem State.lockedWrite_flt (s : State) (a : Nat) : (s.lockedWrite a).flt = s.flt := rfl
@[simp] theorem State.lockedWrite_gdr (s : State) (a : Nat) : (s.lockedWrite a).gdr = s.gdr := rfl
@[simp] theorem State.lockedWrite_mots (s : State) (a : Nat) : (s.lockedWrite a).mots = s.mots := rfl
@[simp] theorem State.lockedWrite_adc (s : State) (a : Nat) : (s.lockedWrite a).adc = s.adc := rfl
@[simp] theorem State.lockedWrite_poss (s : State) (a : Nat) : (s.lockedWrite a).poss = s.poss := rfl
@[simp] theorem State.lockedWrite_sps (s : State) (a : Nat) : (s.lockedWrite a).sps = s.sps := rfl
@[simp] theorem State.lockedWrite_cans (s : State) (a : Nat) : (s.lockedWrite a).cans = s.cans := rfl
@[simp] theorem State.lockedWrite_eths (s : State) (a : Nat) : (s.lockedWrite a).eths = s.eths := rfl
@[simp] theorem State.lockedWrite_feedq (s : State) (a : Nat) : (s.lockedWrite a).feedq = s.feedq := rfl
@[simp] theorem State.lockedWrite_map (s : State) (a : Nat) : (s.lockedWrite a).map = s.map := rfl
@[simp] theorem State.lockedWrite_sec (s : State) (a : Nat) : (s.lockedWrite a).sec = s.sec := rfl
@[simp] theorem State.lockedWrite_saf (s : State) (a : Nat) : (s.lockedWrite a).saf = s.saf := rfl
@[simp] theorem State.lockedWrite_cmps (s : State) (a : Nat) : (s.lockedWrite a).cmps = s.cmps := rfl
@[simp] theorem State.lockedWrite_jrn (s : State) (a : Nat) : (s.lockedWrite a).jrn = s.jrn := rfl
@[simp] theorem State.lockedWrite_ash (s : State) (a : Nat) : (s.lockedWrite a).ash = s.ash := rfl
@[simp] theorem State.lockedWrite_age (s : State) (a : Nat) : (s.lockedWrite a).age = s.age := rfl
@[simp] theorem State.lockedWrite_mbx (s : State) (a : Nat) : (s.lockedWrite a).mbx = s.mbx := rfl
@[simp] theorem State.lockedWrite_svc (s : State) (a : Nat) : (s.lockedWrite a).svc = s.svc := rfl
@[simp] theorem State.lockedWrite_free (s : State) (a : Nat) : (s.lockedWrite a).free = s.free := rfl
@[simp] theorem State.lockedWrite_pending (s : State) (a : Nat) : (s.lockedWrite a).pending = s.pending := rfl

@[simp] theorem State.marker_regs (s : State) (k i d : Nat) : (s.marker k i d).regs = s.regs := rfl
@[simp] theorem State.marker_tiles (s : State) (k i d : Nat) : (s.marker k i d).tiles = s.tiles := rfl
@[simp] theorem State.marker_mram (s : State) (k i d : Nat) : (s.marker k i d).mram = s.mram := rfl
@[simp] theorem State.marker_flash (s : State) (k i d : Nat) : (s.marker k i d).flash = s.flash := rfl
@[simp] theorem State.marker_otp (s : State) (k i d : Nat) : (s.marker k i d).otp = s.otp := rfl
@[simp] theorem State.marker_ember (s : State) (k i d : Nat) : (s.marker k i d).ember = s.ember := rfl
@[simp] theorem State.marker_sys (s : State) (k i d : Nat) : (s.marker k i d).sys = s.sys := rfl
@[simp] theorem State.marker_doms (s : State) (k i d : Nat) : (s.marker k i d).doms = s.doms := rfl
@[simp] theorem State.marker_flu (s : State) (k i d : Nat) : (s.marker k i d).flu = s.flu := rfl
@[simp] theorem State.marker_img (s : State) (k i d : Nat) : (s.marker k i d).img = s.img := rfl
@[simp] theorem State.marker_gr (s : State) (k i d : Nat) : (s.marker k i d).gr = s.gr := rfl
@[simp] theorem State.marker_lds (s : State) (k i d : Nat) : (s.marker k i d).lds = s.lds := rfl
@[simp] theorem State.marker_flt (s : State) (k i d : Nat) : (s.marker k i d).flt = s.flt := rfl
@[simp] theorem State.marker_gdr (s : State) (k i d : Nat) : (s.marker k i d).gdr = s.gdr := rfl
@[simp] theorem State.marker_mots (s : State) (k i d : Nat) : (s.marker k i d).mots = s.mots := rfl
@[simp] theorem State.marker_adc (s : State) (k i d : Nat) : (s.marker k i d).adc = s.adc := rfl
@[simp] theorem State.marker_poss (s : State) (k i d : Nat) : (s.marker k i d).poss = s.poss := rfl
@[simp] theorem State.marker_sps (s : State) (k i d : Nat) : (s.marker k i d).sps = s.sps := rfl
@[simp] theorem State.marker_cans (s : State) (k i d : Nat) : (s.marker k i d).cans = s.cans := rfl
@[simp] theorem State.marker_eths (s : State) (k i d : Nat) : (s.marker k i d).eths = s.eths := rfl
@[simp] theorem State.marker_feedq (s : State) (k i d : Nat) : (s.marker k i d).feedq = s.feedq := rfl
@[simp] theorem State.marker_map (s : State) (k i d : Nat) : (s.marker k i d).map = s.map := rfl
@[simp] theorem State.marker_sec (s : State) (k i d : Nat) : (s.marker k i d).sec = s.sec := rfl
@[simp] theorem State.marker_saf (s : State) (k i d : Nat) : (s.marker k i d).saf = s.saf := rfl
@[simp] theorem State.marker_cmps (s : State) (k i d : Nat) : (s.marker k i d).cmps = s.cmps := rfl
@[simp] theorem State.marker_ash (s : State) (k i d : Nat) : (s.marker k i d).ash = s.ash := rfl
@[simp] theorem State.marker_age (s : State) (k i d : Nat) : (s.marker k i d).age = s.age := rfl
@[simp] theorem State.marker_mbx (s : State) (k i d : Nat) : (s.marker k i d).mbx = s.mbx := rfl
@[simp] theorem State.marker_svc (s : State) (k i d : Nat) : (s.marker k i d).svc = s.svc := rfl
@[simp] theorem State.marker_free (s : State) (k i d : Nat) : (s.marker k i d).free = s.free := rfl
@[simp] theorem State.marker_pending (s : State) (k i d : Nat) : (s.marker k i d).pending = s.pending := rfl

@[simp] theorem State.ashRequest_regs (s : State) (t n : Nat) (b : List Byte) : (s.ashRequest t n b).regs = s.regs := rfl
@[simp] theorem State.ashRequest_tiles (s : State) (t n : Nat) (b : List Byte) : (s.ashRequest t n b).tiles = s.tiles := rfl
@[simp] theorem State.ashRequest_mram (s : State) (t n : Nat) (b : List Byte) : (s.ashRequest t n b).mram = s.mram := rfl
@[simp] theorem State.ashRequest_flash (s : State) (t n : Nat) (b : List Byte) : (s.ashRequest t n b).flash = s.flash := rfl
@[simp] theorem State.ashRequest_otp (s : State) (t n : Nat) (b : List Byte) : (s.ashRequest t n b).otp = s.otp := rfl
@[simp] theorem State.ashRequest_ember (s : State) (t n : Nat) (b : List Byte) : (s.ashRequest t n b).ember = s.ember := rfl
@[simp] theorem State.ashRequest_sys (s : State) (t n : Nat) (b : List Byte) : (s.ashRequest t n b).sys = s.sys := rfl
@[simp] theorem State.ashRequest_doms (s : State) (t n : Nat) (b : List Byte) : (s.ashRequest t n b).doms = s.doms := rfl
@[simp] theorem State.ashRequest_flu (s : State) (t n : Nat) (b : List Byte) : (s.ashRequest t n b).flu = s.flu := rfl
@[simp] theorem State.ashRequest_img (s : State) (t n : Nat) (b : List Byte) : (s.ashRequest t n b).img = s.img := rfl
@[simp] theorem State.ashRequest_gr (s : State) (t n : Nat) (b : List Byte) : (s.ashRequest t n b).gr = s.gr := rfl
@[simp] theorem State.ashRequest_lds (s : State) (t n : Nat) (b : List Byte) : (s.ashRequest t n b).lds = s.lds := rfl
@[simp] theorem State.ashRequest_flt (s : State) (t n : Nat) (b : List Byte) : (s.ashRequest t n b).flt = s.flt := rfl
@[simp] theorem State.ashRequest_gdr (s : State) (t n : Nat) (b : List Byte) : (s.ashRequest t n b).gdr = s.gdr := rfl
@[simp] theorem State.ashRequest_mots (s : State) (t n : Nat) (b : List Byte) : (s.ashRequest t n b).mots = s.mots := rfl
@[simp] theorem State.ashRequest_adc (s : State) (t n : Nat) (b : List Byte) : (s.ashRequest t n b).adc = s.adc := rfl
@[simp] theorem State.ashRequest_poss (s : State) (t n : Nat) (b : List Byte) : (s.ashRequest t n b).poss = s.poss := rfl
@[simp] theorem State.ashRequest_sps (s : State) (t n : Nat) (b : List Byte) : (s.ashRequest t n b).sps = s.sps := rfl
@[simp] theorem State.ashRequest_cans (s : State) (t n : Nat) (b : List Byte) : (s.ashRequest t n b).cans = s.cans := rfl
@[simp] theorem State.ashRequest_eths (s : State) (t n : Nat) (b : List Byte) : (s.ashRequest t n b).eths = s.eths := rfl
@[simp] theorem State.ashRequest_feedq (s : State) (t n : Nat) (b : List Byte) : (s.ashRequest t n b).feedq = s.feedq := rfl
@[simp] theorem State.ashRequest_map (s : State) (t n : Nat) (b : List Byte) : (s.ashRequest t n b).map = s.map := rfl
@[simp] theorem State.ashRequest_sec (s : State) (t n : Nat) (b : List Byte) : (s.ashRequest t n b).sec = s.sec := rfl
@[simp] theorem State.ashRequest_saf (s : State) (t n : Nat) (b : List Byte) : (s.ashRequest t n b).saf = s.saf := rfl
@[simp] theorem State.ashRequest_cmps (s : State) (t n : Nat) (b : List Byte) : (s.ashRequest t n b).cmps = s.cmps := rfl
@[simp] theorem State.ashRequest_jrn (s : State) (t n : Nat) (b : List Byte) : (s.ashRequest t n b).jrn = s.jrn := rfl
@[simp] theorem State.ashRequest_age (s : State) (t n : Nat) (b : List Byte) : (s.ashRequest t n b).age = s.age := rfl
@[simp] theorem State.ashRequest_mbx (s : State) (t n : Nat) (b : List Byte) : (s.ashRequest t n b).mbx = s.mbx := rfl
@[simp] theorem State.ashRequest_svc (s : State) (t n : Nat) (b : List Byte) : (s.ashRequest t n b).svc = s.svc := rfl
@[simp] theorem State.ashRequest_free (s : State) (t n : Nat) (b : List Byte) : (s.ashRequest t n b).free = s.free := rfl
@[simp] theorem State.ashRequest_pending (s : State) (t n : Nat) (b : List Byte) : (s.ashRequest t n b).pending = s.pending := rfl

@[simp] theorem State.event_tiles (s : State) (e : EvBlk) (b : Nat) : (s.event e b).tiles = s.tiles := by
  unfold State.event; dsimp only; split <;> rfl
@[simp] theorem State.event_mram (s : State) (e : EvBlk) (b : Nat) : (s.event e b).mram = s.mram := by
  unfold State.event; dsimp only; split <;> rfl
@[simp] theorem State.event_flash (s : State) (e : EvBlk) (b : Nat) : (s.event e b).flash = s.flash := by
  unfold State.event; dsimp only; split <;> rfl
@[simp] theorem State.event_otp (s : State) (e : EvBlk) (b : Nat) : (s.event e b).otp = s.otp := by
  unfold State.event; dsimp only; split <;> rfl
@[simp] theorem State.event_ember (s : State) (e : EvBlk) (b : Nat) : (s.event e b).ember = s.ember := by
  unfold State.event; dsimp only; split <;> rfl
@[simp] theorem State.event_sys (s : State) (e : EvBlk) (b : Nat) : (s.event e b).sys = s.sys := by
  unfold State.event; dsimp only; split <;> rfl
@[simp] theorem State.event_doms (s : State) (e : EvBlk) (b : Nat) : (s.event e b).doms = s.doms := by
  unfold State.event; dsimp only; split <;> rfl
@[simp] theorem State.event_flu (s : State) (e : EvBlk) (b : Nat) : (s.event e b).flu = s.flu := by
  unfold State.event; dsimp only; split <;> rfl
@[simp] theorem State.event_img (s : State) (e : EvBlk) (b : Nat) : (s.event e b).img = s.img := by
  unfold State.event; dsimp only; split <;> rfl
@[simp] theorem State.event_gr (s : State) (e : EvBlk) (b : Nat) : (s.event e b).gr = s.gr := by
  unfold State.event; dsimp only; split <;> rfl
@[simp] theorem State.event_lds (s : State) (e : EvBlk) (b : Nat) : (s.event e b).lds = s.lds := by
  unfold State.event; dsimp only; split <;> rfl
@[simp] theorem State.event_flt (s : State) (e : EvBlk) (b : Nat) : (s.event e b).flt = s.flt := by
  unfold State.event; dsimp only; split <;> rfl
@[simp] theorem State.event_gdr (s : State) (e : EvBlk) (b : Nat) : (s.event e b).gdr = s.gdr := by
  unfold State.event; dsimp only; split <;> rfl
@[simp] theorem State.event_mots (s : State) (e : EvBlk) (b : Nat) : (s.event e b).mots = s.mots := by
  unfold State.event; dsimp only; split <;> rfl
@[simp] theorem State.event_adc (s : State) (e : EvBlk) (b : Nat) : (s.event e b).adc = s.adc := by
  unfold State.event; dsimp only; split <;> rfl
@[simp] theorem State.event_poss (s : State) (e : EvBlk) (b : Nat) : (s.event e b).poss = s.poss := by
  unfold State.event; dsimp only; split <;> rfl
@[simp] theorem State.event_sps (s : State) (e : EvBlk) (b : Nat) : (s.event e b).sps = s.sps := by
  unfold State.event; dsimp only; split <;> rfl
@[simp] theorem State.event_cans (s : State) (e : EvBlk) (b : Nat) : (s.event e b).cans = s.cans := by
  unfold State.event; dsimp only; split <;> rfl
@[simp] theorem State.event_eths (s : State) (e : EvBlk) (b : Nat) : (s.event e b).eths = s.eths := by
  unfold State.event; dsimp only; split <;> rfl
@[simp] theorem State.event_feedq (s : State) (e : EvBlk) (b : Nat) : (s.event e b).feedq = s.feedq := by
  unfold State.event; dsimp only; split <;> rfl
@[simp] theorem State.event_map (s : State) (e : EvBlk) (b : Nat) : (s.event e b).map = s.map := by
  unfold State.event; dsimp only; split <;> rfl
@[simp] theorem State.event_sec (s : State) (e : EvBlk) (b : Nat) : (s.event e b).sec = s.sec := by
  unfold State.event; dsimp only; split <;> rfl
@[simp] theorem State.event_saf (s : State) (e : EvBlk) (b : Nat) : (s.event e b).saf = s.saf := by
  unfold State.event; dsimp only; split <;> rfl
@[simp] theorem State.event_cmps (s : State) (e : EvBlk) (b : Nat) : (s.event e b).cmps = s.cmps := by
  unfold State.event; dsimp only; split <;> rfl
@[simp] theorem State.event_ash (s : State) (e : EvBlk) (b : Nat) : (s.event e b).ash = s.ash := by
  unfold State.event; dsimp only; split <;> rfl
@[simp] theorem State.event_age (s : State) (e : EvBlk) (b : Nat) : (s.event e b).age = s.age := by
  unfold State.event; dsimp only; split <;> rfl
@[simp] theorem State.event_mbx (s : State) (e : EvBlk) (b : Nat) : (s.event e b).mbx = s.mbx := by
  unfold State.event; dsimp only; split <;> rfl
@[simp] theorem State.event_svc (s : State) (e : EvBlk) (b : Nat) : (s.event e b).svc = s.svc := by
  unfold State.event; dsimp only; split <;> rfl
@[simp] theorem State.event_free (s : State) (e : EvBlk) (b : Nat) : (s.event e b).free = s.free := by
  unfold State.event; dsimp only; split <;> rfl
@[simp] theorem State.event_pending (s : State) (e : EvBlk) (b : Nat) : (s.event e b).pending = s.pending := by
  unfold State.event; dsimp only; split <;> rfl

@[simp] theorem State.marker_reg (s : State) (k i d a : Nat) : (s.marker k i d).reg a = s.reg a := rfl
@[simp] theorem State.marker_getF (s : State) (k i d : Nat) (f : Fld) : (s.marker k i d).getF f = s.getF f := rfl
@[simp] theorem State.ashRequest_reg (s : State) (t n : Nat) (b : List Byte) (a : Nat) : (s.ashRequest t n b).reg a = s.reg a := rfl
@[simp] theorem State.ashRequest_getF (s : State) (t n : Nat) (b : List Byte) (f : Fld) :
    (s.ashRequest t n b).getF f = s.getF f := rfl

/-! The registers do not change with the hidden state. -/
@[simp] theorem State.reg_tiles (s : State) (x : List Host.Cell) (a : Nat) : State.reg { s with tiles := x } a = s.reg a := rfl
@[simp] theorem State.getF_tiles (s : State) (x : List Host.Cell) (f : Fld) : State.getF { s with tiles := x } f = s.getF f := rfl
@[simp] theorem State.reg_mram (s : State) (x : List Host.Cell) (a : Nat) : State.reg { s with mram := x } a = s.reg a := rfl
@[simp] theorem State.getF_mram (s : State) (x : List Host.Cell) (f : Fld) : State.getF { s with mram := x } f = s.getF f := rfl
@[simp] theorem State.reg_flash (s : State) (x : List Host.Cell) (a : Nat) : State.reg { s with flash := x } a = s.reg a := rfl
@[simp] theorem State.getF_flash (s : State) (x : List Host.Cell) (f : Fld) : State.getF { s with flash := x } f = s.getF f := rfl
@[simp] theorem State.reg_otp (s : State) (x : Otp) (a : Nat) : State.reg { s with otp := x } a = s.reg a := rfl
@[simp] theorem State.getF_otp (s : State) (x : Otp) (f : Fld) : State.getF { s with otp := x } f = s.getF f := rfl
@[simp] theorem State.reg_ember (s : State) (x : Ember) (a : Nat) : State.reg { s with ember := x } a = s.reg a := rfl
@[simp] theorem State.getF_ember (s : State) (x : Ember) (f : Fld) : State.getF { s with ember := x } f = s.getF f := rfl
@[simp] theorem State.reg_sys (s : State) (x : Sys) (a : Nat) : State.reg { s with sys := x } a = s.reg a := rfl
@[simp] theorem State.getF_sys (s : State) (x : Sys) (f : Fld) : State.getF { s with sys := x } f = s.getF f := rfl
@[simp] theorem State.reg_doms (s : State) (x : List Dom) (a : Nat) : State.reg { s with doms := x } a = s.reg a := rfl
@[simp] theorem State.getF_doms (s : State) (x : List Dom) (f : Fld) : State.getF { s with doms := x } f = s.getF f := rfl
@[simp] theorem State.reg_flu (s : State) (x : Flu) (a : Nat) : State.reg { s with flu := x } a = s.reg a := rfl
@[simp] theorem State.getF_flu (s : State) (x : Flu) (f : Fld) : State.getF { s with flu := x } f = s.getF f := rfl
@[simp] theorem State.reg_img (s : State) (x : Img) (a : Nat) : State.reg { s with img := x } a = s.reg a := rfl
@[simp] theorem State.getF_img (s : State) (x : Img) (f : Fld) : State.getF { s with img := x } f = s.getF f := rfl
@[simp] theorem State.reg_gr (s : State) (x : Gr) (a : Nat) : State.reg { s with gr := x } a = s.reg a := rfl
@[simp] theorem State.getF_gr (s : State) (x : Gr) (f : Fld) : State.getF { s with gr := x } f = s.getF f := rfl
@[simp] theorem State.reg_lds (s : State) (x : Lds) (a : Nat) : State.reg { s with lds := x } a = s.reg a := rfl
@[simp] theorem State.getF_lds (s : State) (x : Lds) (f : Fld) : State.getF { s with lds := x } f = s.getF f := rfl
@[simp] theorem State.reg_flt (s : State) (x : Flt) (a : Nat) : State.reg { s with flt := x } a = s.reg a := rfl
@[simp] theorem State.getF_flt (s : State) (x : Flt) (f : Fld) : State.getF { s with flt := x } f = s.getF f := rfl
@[simp] theorem State.reg_gdr (s : State) (x : Gdr) (a : Nat) : State.reg { s with gdr := x } a = s.reg a := rfl
@[simp] theorem State.getF_gdr (s : State) (x : Gdr) (f : Fld) : State.getF { s with gdr := x } f = s.getF f := rfl
@[simp] theorem State.reg_mots (s : State) (x : List Mot) (a : Nat) : State.reg { s with mots := x } a = s.reg a := rfl
@[simp] theorem State.getF_mots (s : State) (x : List Mot) (f : Fld) : State.getF { s with mots := x } f = s.getF f := rfl
@[simp] theorem State.reg_adc (s : State) (x : Adc) (a : Nat) : State.reg { s with adc := x } a = s.reg a := rfl
@[simp] theorem State.getF_adc (s : State) (x : Adc) (f : Fld) : State.getF { s with adc := x } f = s.getF f := rfl
@[simp] theorem State.reg_poss (s : State) (x : List Pos) (a : Nat) : State.reg { s with poss := x } a = s.reg a := rfl
@[simp] theorem State.getF_poss (s : State) (x : List Pos) (f : Fld) : State.getF { s with poss := x } f = s.getF f := rfl
@[simp] theorem State.reg_sps (s : State) (x : List Sp) (a : Nat) : State.reg { s with sps := x } a = s.reg a := rfl
@[simp] theorem State.getF_sps (s : State) (x : List Sp) (f : Fld) : State.getF { s with sps := x } f = s.getF f := rfl
@[simp] theorem State.reg_cans (s : State) (x : List Can) (a : Nat) : State.reg { s with cans := x } a = s.reg a := rfl
@[simp] theorem State.getF_cans (s : State) (x : List Can) (f : Fld) : State.getF { s with cans := x } f = s.getF f := rfl
@[simp] theorem State.reg_eths (s : State) (x : List Eth) (a : Nat) : State.reg { s with eths := x } a = s.reg a := rfl
@[simp] theorem State.getF_eths (s : State) (x : List Eth) (f : Fld) : State.getF { s with eths := x } f = s.getF f := rfl
@[simp] theorem State.reg_feedq (s : State) (x : List Dgram) (a : Nat) : State.reg { s with feedq := x } a = s.reg a := rfl
@[simp] theorem State.getF_feedq (s : State) (x : List Dgram) (f : Fld) : State.getF { s with feedq := x } f = s.getF f := rfl
@[simp] theorem State.reg_map (s : State) (x : MapSt) (a : Nat) : State.reg { s with map := x } a = s.reg a := rfl
@[simp] theorem State.getF_map (s : State) (x : MapSt) (f : Fld) : State.getF { s with map := x } f = s.getF f := rfl
@[simp] theorem State.reg_sec (s : State) (x : Sec) (a : Nat) : State.reg { s with sec := x } a = s.reg a := rfl
@[simp] theorem State.getF_sec (s : State) (x : Sec) (f : Fld) : State.getF { s with sec := x } f = s.getF f := rfl
@[simp] theorem State.reg_saf (s : State) (x : Saf) (a : Nat) : State.reg { s with saf := x } a = s.reg a := rfl
@[simp] theorem State.getF_saf (s : State) (x : Saf) (f : Fld) : State.getF { s with saf := x } f = s.getF f := rfl
@[simp] theorem State.reg_cmps (s : State) (x : List CmpRun) (a : Nat) : State.reg { s with cmps := x } a = s.reg a := rfl
@[simp] theorem State.getF_cmps (s : State) (x : List CmpRun) (f : Fld) : State.getF { s with cmps := x } f = s.getF f := rfl
@[simp] theorem State.reg_jrn (s : State) (x : Jrn) (a : Nat) : State.reg { s with jrn := x } a = s.reg a := rfl
@[simp] theorem State.getF_jrn (s : State) (x : Jrn) (f : Fld) : State.getF { s with jrn := x } f = s.getF f := rfl
@[simp] theorem State.reg_ash (s : State) (x : Ash) (a : Nat) : State.reg { s with ash := x } a = s.reg a := rfl
@[simp] theorem State.getF_ash (s : State) (x : Ash) (f : Fld) : State.getF { s with ash := x } f = s.getF f := rfl
@[simp] theorem State.reg_age (s : State) (x : Age) (a : Nat) : State.reg { s with age := x } a = s.reg a := rfl
@[simp] theorem State.getF_age (s : State) (x : Age) (f : Fld) : State.getF { s with age := x } f = s.getF f := rfl
@[simp] theorem State.reg_mbx (s : State) (x : Mbx) (a : Nat) : State.reg { s with mbx := x } a = s.reg a := rfl
@[simp] theorem State.getF_mbx (s : State) (x : Mbx) (f : Fld) : State.getF { s with mbx := x } f = s.getF f := rfl
@[simp] theorem State.reg_svc (s : State) (x : Svc) (a : Nat) : State.reg { s with svc := x } a = s.reg a := rfl
@[simp] theorem State.getF_svc (s : State) (x : Svc) (f : Fld) : State.getF { s with svc := x } f = s.getF f := rfl
@[simp] theorem State.reg_free (s : State) (x : Nat) (a : Nat) : State.reg { s with free := x } a = s.reg a := rfl
@[simp] theorem State.getF_free (s : State) (x : Nat) (f : Fld) : State.getF { s with free := x } f = s.getF f := rfl
@[simp] theorem State.reg_pending (s : State) (x : List Instr) (a : Nat) : State.reg { s with pending := x } a = s.reg a := rfl
@[simp] theorem State.getF_pending (s : State) (x : List Instr) (f : Fld) : State.getF { s with pending := x } f = s.getF f := rfl

/-- A conditional effect is one of its two outcomes. -/
theorem State.when_cases (s : State) (c : Bool) (f : State → State) :
    (c = true ∧ s.when c f = f s) ∨ (c = false ∧ s.when c f = s) := by
  cases c <;> simp [State.when]

/-- What one effect keeps, one effect per element keeps. -/
theorem State.each_keeps {α : Type} (P : State → Prop) (f : State → α → State) (h : ∀ s a, P s → P (f s a)) (l : List α) :
    ∀ s, P s → P (State.each s l f) := by
  induction l with
  | nil => intro s hs; exact hs
  | cons a t ih => intro s hs; exact ih _ (h s a hs)

theorem State.each_regs {α : Type} (s : State) (l : List α) (f : State → α → State) (h : ∀ u a, (f u a).regs = u.regs) :
    (State.each s l f).regs = s.regs :=
  State.each_keeps (fun t => t.regs = s.regs) f (fun u a hu => (h u a).trans hu) l s rfl
@[simp] theorem State.when_regs (s : State) (c : Bool) (f : State → State) :
    (s.when c f).regs = if c then (f s).regs else s.regs := by cases c <;> rfl
theorem State.each_tiles {α : Type} (s : State) (l : List α) (f : State → α → State) (h : ∀ u a, (f u a).tiles = u.tiles) :
    (State.each s l f).tiles = s.tiles :=
  State.each_keeps (fun t => t.tiles = s.tiles) f (fun u a hu => (h u a).trans hu) l s rfl
@[simp] theorem State.when_tiles (s : State) (c : Bool) (f : State → State) :
    (s.when c f).tiles = if c then (f s).tiles else s.tiles := by cases c <;> rfl
theorem State.each_mram {α : Type} (s : State) (l : List α) (f : State → α → State) (h : ∀ u a, (f u a).mram = u.mram) :
    (State.each s l f).mram = s.mram :=
  State.each_keeps (fun t => t.mram = s.mram) f (fun u a hu => (h u a).trans hu) l s rfl
@[simp] theorem State.when_mram (s : State) (c : Bool) (f : State → State) :
    (s.when c f).mram = if c then (f s).mram else s.mram := by cases c <;> rfl
theorem State.each_flash {α : Type} (s : State) (l : List α) (f : State → α → State) (h : ∀ u a, (f u a).flash = u.flash) :
    (State.each s l f).flash = s.flash :=
  State.each_keeps (fun t => t.flash = s.flash) f (fun u a hu => (h u a).trans hu) l s rfl
@[simp] theorem State.when_flash (s : State) (c : Bool) (f : State → State) :
    (s.when c f).flash = if c then (f s).flash else s.flash := by cases c <;> rfl
theorem State.each_otp {α : Type} (s : State) (l : List α) (f : State → α → State) (h : ∀ u a, (f u a).otp = u.otp) :
    (State.each s l f).otp = s.otp :=
  State.each_keeps (fun t => t.otp = s.otp) f (fun u a hu => (h u a).trans hu) l s rfl
@[simp] theorem State.when_otp (s : State) (c : Bool) (f : State → State) :
    (s.when c f).otp = if c then (f s).otp else s.otp := by cases c <;> rfl
theorem State.each_ember {α : Type} (s : State) (l : List α) (f : State → α → State) (h : ∀ u a, (f u a).ember = u.ember) :
    (State.each s l f).ember = s.ember :=
  State.each_keeps (fun t => t.ember = s.ember) f (fun u a hu => (h u a).trans hu) l s rfl
@[simp] theorem State.when_ember (s : State) (c : Bool) (f : State → State) :
    (s.when c f).ember = if c then (f s).ember else s.ember := by cases c <;> rfl
theorem State.each_sys {α : Type} (s : State) (l : List α) (f : State → α → State) (h : ∀ u a, (f u a).sys = u.sys) :
    (State.each s l f).sys = s.sys :=
  State.each_keeps (fun t => t.sys = s.sys) f (fun u a hu => (h u a).trans hu) l s rfl
@[simp] theorem State.when_sys (s : State) (c : Bool) (f : State → State) :
    (s.when c f).sys = if c then (f s).sys else s.sys := by cases c <;> rfl
theorem State.each_doms {α : Type} (s : State) (l : List α) (f : State → α → State) (h : ∀ u a, (f u a).doms = u.doms) :
    (State.each s l f).doms = s.doms :=
  State.each_keeps (fun t => t.doms = s.doms) f (fun u a hu => (h u a).trans hu) l s rfl
@[simp] theorem State.when_doms (s : State) (c : Bool) (f : State → State) :
    (s.when c f).doms = if c then (f s).doms else s.doms := by cases c <;> rfl
theorem State.each_flu {α : Type} (s : State) (l : List α) (f : State → α → State) (h : ∀ u a, (f u a).flu = u.flu) :
    (State.each s l f).flu = s.flu :=
  State.each_keeps (fun t => t.flu = s.flu) f (fun u a hu => (h u a).trans hu) l s rfl
@[simp] theorem State.when_flu (s : State) (c : Bool) (f : State → State) :
    (s.when c f).flu = if c then (f s).flu else s.flu := by cases c <;> rfl
theorem State.each_img {α : Type} (s : State) (l : List α) (f : State → α → State) (h : ∀ u a, (f u a).img = u.img) :
    (State.each s l f).img = s.img :=
  State.each_keeps (fun t => t.img = s.img) f (fun u a hu => (h u a).trans hu) l s rfl
@[simp] theorem State.when_img (s : State) (c : Bool) (f : State → State) :
    (s.when c f).img = if c then (f s).img else s.img := by cases c <;> rfl
theorem State.each_gr {α : Type} (s : State) (l : List α) (f : State → α → State) (h : ∀ u a, (f u a).gr = u.gr) :
    (State.each s l f).gr = s.gr :=
  State.each_keeps (fun t => t.gr = s.gr) f (fun u a hu => (h u a).trans hu) l s rfl
@[simp] theorem State.when_gr (s : State) (c : Bool) (f : State → State) :
    (s.when c f).gr = if c then (f s).gr else s.gr := by cases c <;> rfl
theorem State.each_lds {α : Type} (s : State) (l : List α) (f : State → α → State) (h : ∀ u a, (f u a).lds = u.lds) :
    (State.each s l f).lds = s.lds :=
  State.each_keeps (fun t => t.lds = s.lds) f (fun u a hu => (h u a).trans hu) l s rfl
@[simp] theorem State.when_lds (s : State) (c : Bool) (f : State → State) :
    (s.when c f).lds = if c then (f s).lds else s.lds := by cases c <;> rfl
theorem State.each_flt {α : Type} (s : State) (l : List α) (f : State → α → State) (h : ∀ u a, (f u a).flt = u.flt) :
    (State.each s l f).flt = s.flt :=
  State.each_keeps (fun t => t.flt = s.flt) f (fun u a hu => (h u a).trans hu) l s rfl
@[simp] theorem State.when_flt (s : State) (c : Bool) (f : State → State) :
    (s.when c f).flt = if c then (f s).flt else s.flt := by cases c <;> rfl
theorem State.each_gdr {α : Type} (s : State) (l : List α) (f : State → α → State) (h : ∀ u a, (f u a).gdr = u.gdr) :
    (State.each s l f).gdr = s.gdr :=
  State.each_keeps (fun t => t.gdr = s.gdr) f (fun u a hu => (h u a).trans hu) l s rfl
@[simp] theorem State.when_gdr (s : State) (c : Bool) (f : State → State) :
    (s.when c f).gdr = if c then (f s).gdr else s.gdr := by cases c <;> rfl
theorem State.each_mots {α : Type} (s : State) (l : List α) (f : State → α → State) (h : ∀ u a, (f u a).mots = u.mots) :
    (State.each s l f).mots = s.mots :=
  State.each_keeps (fun t => t.mots = s.mots) f (fun u a hu => (h u a).trans hu) l s rfl
@[simp] theorem State.when_mots (s : State) (c : Bool) (f : State → State) :
    (s.when c f).mots = if c then (f s).mots else s.mots := by cases c <;> rfl
theorem State.each_adc {α : Type} (s : State) (l : List α) (f : State → α → State) (h : ∀ u a, (f u a).adc = u.adc) :
    (State.each s l f).adc = s.adc :=
  State.each_keeps (fun t => t.adc = s.adc) f (fun u a hu => (h u a).trans hu) l s rfl
@[simp] theorem State.when_adc (s : State) (c : Bool) (f : State → State) :
    (s.when c f).adc = if c then (f s).adc else s.adc := by cases c <;> rfl
theorem State.each_poss {α : Type} (s : State) (l : List α) (f : State → α → State) (h : ∀ u a, (f u a).poss = u.poss) :
    (State.each s l f).poss = s.poss :=
  State.each_keeps (fun t => t.poss = s.poss) f (fun u a hu => (h u a).trans hu) l s rfl
@[simp] theorem State.when_poss (s : State) (c : Bool) (f : State → State) :
    (s.when c f).poss = if c then (f s).poss else s.poss := by cases c <;> rfl
theorem State.each_sps {α : Type} (s : State) (l : List α) (f : State → α → State) (h : ∀ u a, (f u a).sps = u.sps) :
    (State.each s l f).sps = s.sps :=
  State.each_keeps (fun t => t.sps = s.sps) f (fun u a hu => (h u a).trans hu) l s rfl
@[simp] theorem State.when_sps (s : State) (c : Bool) (f : State → State) :
    (s.when c f).sps = if c then (f s).sps else s.sps := by cases c <;> rfl
theorem State.each_cans {α : Type} (s : State) (l : List α) (f : State → α → State) (h : ∀ u a, (f u a).cans = u.cans) :
    (State.each s l f).cans = s.cans :=
  State.each_keeps (fun t => t.cans = s.cans) f (fun u a hu => (h u a).trans hu) l s rfl
@[simp] theorem State.when_cans (s : State) (c : Bool) (f : State → State) :
    (s.when c f).cans = if c then (f s).cans else s.cans := by cases c <;> rfl
theorem State.each_eths {α : Type} (s : State) (l : List α) (f : State → α → State) (h : ∀ u a, (f u a).eths = u.eths) :
    (State.each s l f).eths = s.eths :=
  State.each_keeps (fun t => t.eths = s.eths) f (fun u a hu => (h u a).trans hu) l s rfl
@[simp] theorem State.when_eths (s : State) (c : Bool) (f : State → State) :
    (s.when c f).eths = if c then (f s).eths else s.eths := by cases c <;> rfl
theorem State.each_feedq {α : Type} (s : State) (l : List α) (f : State → α → State) (h : ∀ u a, (f u a).feedq = u.feedq) :
    (State.each s l f).feedq = s.feedq :=
  State.each_keeps (fun t => t.feedq = s.feedq) f (fun u a hu => (h u a).trans hu) l s rfl
@[simp] theorem State.when_feedq (s : State) (c : Bool) (f : State → State) :
    (s.when c f).feedq = if c then (f s).feedq else s.feedq := by cases c <;> rfl
theorem State.each_map {α : Type} (s : State) (l : List α) (f : State → α → State) (h : ∀ u a, (f u a).map = u.map) :
    (State.each s l f).map = s.map :=
  State.each_keeps (fun t => t.map = s.map) f (fun u a hu => (h u a).trans hu) l s rfl
@[simp] theorem State.when_map (s : State) (c : Bool) (f : State → State) :
    (s.when c f).map = if c then (f s).map else s.map := by cases c <;> rfl
theorem State.each_sec {α : Type} (s : State) (l : List α) (f : State → α → State) (h : ∀ u a, (f u a).sec = u.sec) :
    (State.each s l f).sec = s.sec :=
  State.each_keeps (fun t => t.sec = s.sec) f (fun u a hu => (h u a).trans hu) l s rfl
@[simp] theorem State.when_sec (s : State) (c : Bool) (f : State → State) :
    (s.when c f).sec = if c then (f s).sec else s.sec := by cases c <;> rfl
theorem State.each_saf {α : Type} (s : State) (l : List α) (f : State → α → State) (h : ∀ u a, (f u a).saf = u.saf) :
    (State.each s l f).saf = s.saf :=
  State.each_keeps (fun t => t.saf = s.saf) f (fun u a hu => (h u a).trans hu) l s rfl
@[simp] theorem State.when_saf (s : State) (c : Bool) (f : State → State) :
    (s.when c f).saf = if c then (f s).saf else s.saf := by cases c <;> rfl
theorem State.each_cmps {α : Type} (s : State) (l : List α) (f : State → α → State) (h : ∀ u a, (f u a).cmps = u.cmps) :
    (State.each s l f).cmps = s.cmps :=
  State.each_keeps (fun t => t.cmps = s.cmps) f (fun u a hu => (h u a).trans hu) l s rfl
@[simp] theorem State.when_cmps (s : State) (c : Bool) (f : State → State) :
    (s.when c f).cmps = if c then (f s).cmps else s.cmps := by cases c <;> rfl
theorem State.each_jrn {α : Type} (s : State) (l : List α) (f : State → α → State) (h : ∀ u a, (f u a).jrn = u.jrn) :
    (State.each s l f).jrn = s.jrn :=
  State.each_keeps (fun t => t.jrn = s.jrn) f (fun u a hu => (h u a).trans hu) l s rfl
@[simp] theorem State.when_jrn (s : State) (c : Bool) (f : State → State) :
    (s.when c f).jrn = if c then (f s).jrn else s.jrn := by cases c <;> rfl
theorem State.each_ash {α : Type} (s : State) (l : List α) (f : State → α → State) (h : ∀ u a, (f u a).ash = u.ash) :
    (State.each s l f).ash = s.ash :=
  State.each_keeps (fun t => t.ash = s.ash) f (fun u a hu => (h u a).trans hu) l s rfl
@[simp] theorem State.when_ash (s : State) (c : Bool) (f : State → State) :
    (s.when c f).ash = if c then (f s).ash else s.ash := by cases c <;> rfl
theorem State.each_age {α : Type} (s : State) (l : List α) (f : State → α → State) (h : ∀ u a, (f u a).age = u.age) :
    (State.each s l f).age = s.age :=
  State.each_keeps (fun t => t.age = s.age) f (fun u a hu => (h u a).trans hu) l s rfl
@[simp] theorem State.when_age (s : State) (c : Bool) (f : State → State) :
    (s.when c f).age = if c then (f s).age else s.age := by cases c <;> rfl
theorem State.each_mbx {α : Type} (s : State) (l : List α) (f : State → α → State) (h : ∀ u a, (f u a).mbx = u.mbx) :
    (State.each s l f).mbx = s.mbx :=
  State.each_keeps (fun t => t.mbx = s.mbx) f (fun u a hu => (h u a).trans hu) l s rfl
@[simp] theorem State.when_mbx (s : State) (c : Bool) (f : State → State) :
    (s.when c f).mbx = if c then (f s).mbx else s.mbx := by cases c <;> rfl
theorem State.each_svc {α : Type} (s : State) (l : List α) (f : State → α → State) (h : ∀ u a, (f u a).svc = u.svc) :
    (State.each s l f).svc = s.svc :=
  State.each_keeps (fun t => t.svc = s.svc) f (fun u a hu => (h u a).trans hu) l s rfl
@[simp] theorem State.when_svc (s : State) (c : Bool) (f : State → State) :
    (s.when c f).svc = if c then (f s).svc else s.svc := by cases c <;> rfl
theorem State.each_free {α : Type} (s : State) (l : List α) (f : State → α → State) (h : ∀ u a, (f u a).free = u.free) :
    (State.each s l f).free = s.free :=
  State.each_keeps (fun t => t.free = s.free) f (fun u a hu => (h u a).trans hu) l s rfl
@[simp] theorem State.when_free (s : State) (c : Bool) (f : State → State) :
    (s.when c f).free = if c then (f s).free else s.free := by cases c <;> rfl
theorem State.each_pending {α : Type} (s : State) (l : List α) (f : State → α → State) (h : ∀ u a, (f u a).pending = u.pending) :
    (State.each s l f).pending = s.pending :=
  State.each_keeps (fun t => t.pending = s.pending) f (fun u a hu => (h u a).trans hu) l s rfl
@[simp] theorem State.when_pending (s : State) (c : Bool) (f : State → State) :
    (s.when c f).pending = if c then (f s).pending else s.pending := by cases c <;> rfl

end Sys2Proof.Machine
end

