-- ==== Sys2Proof/Laws/Raise.lean ====
section
/-!
SUPPORT. What the fault collector can change: a raise that takes no action (R438 ACTION 0) touches registers of the fault,
journal, Ash, gate drive, motor and lead blocks and the hidden state of the collector, the journal, the gate drive and the bridges, and
nothing else; the source's sticky bit is set.
-/
namespace Sys2Proof.Machine

open Sys2Proof

/-- Nothing but the registers of some blocks and the hidden state of collector, journal, gate drive and bridges differs. -/
def State.Confined (bs : List Nat) (s t : State) : Prop :=
  s.SameRegs bs t ∧ ∃ r f j g m, t = { s with regs := r, flt := f, jrn := j, gdr := g, mots := m }

theorem State.Confined.refl (bs : List Nat) (s : State) : s.Confined bs s :=
  ⟨fun _ _ => rfl, s.regs, s.flt, s.jrn, s.gdr, s.mots, rfl⟩

theorem State.Confined.trans {bs : List Nat} {s t u : State} (h : s.Confined bs t) (k : t.Confined bs u) : s.Confined bs u := by
  obtain ⟨h1, r, f, j, g, m, rfl⟩ := h
  obtain ⟨k1, r', f', j', g', m', rfl⟩ := k
  exact ⟨fun a ha => (k1 a ha).trans (h1 a ha), r', f', j', g', m', rfl⟩

theorem State.Confined.mono {bs cs : List Nat} {s t : State} (h : s.Confined bs t) (k : ∀ b ∈ bs, b ∈ cs) : s.Confined cs t :=
  ⟨fun a ha => h.1 a (fun hb => ha (k _ hb)), h.2⟩

theorem State.confined_setReg (bs : List Nat) (s : State) (a : Nat) (w : Word) (h : a / 0x10000 ∈ bs) :
    s.Confined bs (s.setReg a w) :=
  ⟨fun b hb => State.reg_setReg_other s a b w (fun e => hb (e ▸ h)), _, s.flt, s.jrn, s.gdr, s.mots, rfl⟩

theorem State.confined_setF (bs : List Nat) (s : State) (f : Fld) (v : Nat) (h : f.addr / 0x10000 ∈ bs) :
    s.Confined bs (s.setF f v) := State.confined_setReg bs s _ _ h

theorem State.confined_setFlag (bs : List Nat) (s : State) (f : Fld) (b : Bool) (h : f.addr / 0x10000 ∈ bs) :
    s.Confined bs (s.setFlag f b) := State.confined_setReg bs s _ _ h

theorem State.confined_incF (bs : List Nat) (s : State) (f : Fld) (h : f.addr / 0x10000 ∈ bs) :
    s.Confined bs (s.incF f) := State.confined_setReg bs s _ _ h

theorem State.confined_flt (bs : List Nat) (s : State) (f : Flt) : s.Confined bs { s with flt := f } :=
  ⟨fun _ _ => rfl, s.regs, f, s.jrn, s.gdr, s.mots, rfl⟩

theorem State.confined_jrn (bs : List Nat) (s : State) (j : Jrn) : s.Confined bs { s with jrn := j } :=
  ⟨fun _ _ => rfl, s.regs, s.flt, j, s.gdr, s.mots, rfl⟩

theorem State.confined_gdr (bs : List Nat) (s : State) (g : Gdr) : s.Confined bs { s with gdr := g } :=
  ⟨fun _ _ => rfl, s.regs, s.flt, s.jrn, g, s.mots, rfl⟩

theorem State.confined_mots (bs : List Nat) (s : State) (m : List Mot) : s.Confined bs { s with mots := m } :=
  ⟨fun _ _ => rfl, s.regs, s.flt, s.jrn, s.gdr, m, rfl⟩

theorem State.confined_event (bs : List Nat) (s : State) (e : EvBlk) (b : Nat) (h : e.ev.addr / 0x10000 ∈ bs) :
    s.Confined bs (s.event e b) := by
  unfold State.event
  dsimp only
  split
  · exact (State.confined_setF bs s _ _ h).trans (State.confined_jrn bs _ _)
  · exact State.confined_setF bs s _ _ h

theorem State.confined_when (bs : List Nat) (s : State) (c : Bool) (f : State → State) (h : s.Confined bs (f s)) :
    s.Confined bs (s.when c f) := by
  cases c
  · exact .refl bs s
  · exact h

theorem State.confined_each {α : Type} (bs : List Nat) (s : State) (l : List α) (f : State → α → State)
    (h : ∀ t : State, ∀ x ∈ l, t.Confined bs (f t x)) : s.Confined bs (s.each l f) := by
  unfold State.each
  induction l generalizing s with
  | nil => exact .refl bs s
  | cons a l ih => exact (h s a (by simp)).trans (ih (f s a) (fun t x hx => h t x (by simp [hx])))

theorem State.confined_pushLog (bs : List Nat) (fld : Nat → Fld) (h : ∀ k, k ≤ 15 → (fld k).addr / 0x10000 ∈ bs) :
    ∀ (n : Nat) (s : State), n ≤ 15 → s.Confined bs (s.pushLog fld n)
  | 0, s, _ => .refl bs s
  | n + 1, s, hn => (State.confined_setReg bs s _ _ (h (n + 1) hn)).trans
      (State.confined_pushLog bs fld h n _ (by omega))

theorem State.confined_refreshReact (s : State) : s.Confined [0x4003] s.refreshReact :=
  (State.confined_setF _ _ _ _ (by decide)).trans (State.confined_setF _ _ _ _ (by decide))

theorem Flt.block (n : Nat) (h : n < 256) :
    (F.FLT_SRC_ACTIVE n).addr / 0x10000 = 0x4003 ∧ (F.FLT_ACTIVE_ACTIVE (n / 32)).addr / 0x10000 = 0x4003 ∧
    (F.FLT_STICKY_STICKY (n / 32)).addr / 0x10000 = 0x4003 ∧ (F.FLT_SRC_HELD n).addr / 0x10000 = 0x4003 := by
  simp only [F.FLT_SRC_ACTIVE, F.FLT_ACTIVE_ACTIVE, F.FLT_STICKY_STICKY, F.FLT_SRC_HELD]; omega

theorem State.confined_setActive (s : State) (n : Nat) (b : Bool) (h : n < 256) : s.Confined [0x4003] (s.setActive n b) := by
  obtain ⟨h1, h2, -, -⟩ := Flt.block n h
  have key : ∀ v w : Nat, s.Confined [0x4003] (((s.setF (F.FLT_ACTIVE_ACTIVE (n / 32)) v).setFlag (F.FLT_SRC_ACTIVE n) b).setF
      F.FLT_STATUS_ACTIVE_COUNT w) := fun v w =>
    ((State.confined_setF _ s _ _ (by simp [h2])).trans (State.confined_setFlag _ _ _ _ (by simp [h1]))).trans
      (State.confined_setF _ _ _ _ (by decide))
  unfold State.setActive
  dsimp only
  split
  · exact .refl _ s
  · split
    · exact key _ _
    · exact ((key _ _).trans (State.confined_flt _ _ _)).trans (State.confined_refreshReact _)

/-- The record of a raise stays in the fault block, the journal markers and the collector's hidden state. -/
theorem State.confined_fltRecord (s : State) (n : Nat) (h : n < 256) : s.Confined [0x4003] (s.fltRecord n) := by
  obtain ⟨-, -, h3, -⟩ := Flt.block n h
  have hc : (classCounter (s.fltClass n)).addr / 0x10000 = 0x4003 := by
    unfold classCounter; split <;> decide
  have key : ∀ (v : Nat) (w : Word) (f : Fld), f.addr / 0x10000 = 0x4003 → s.Confined [0x4003]
      ((((((s.setF (F.FLT_STICKY_STICKY (n / 32)) v).setActive n true).incF f).setReg F.FLT_LAST_TICK.addr w)).marker 3 n
        (s.fltClass n)) := fun v w f hf =>
    ((((State.confined_setF _ s _ _ (by simp [h3])).trans (State.confined_setActive _ n true h)).trans
      (State.confined_incF _ _ f (by simp [hf]))).trans (State.confined_setReg _ _ _ w (by decide))).trans
      (State.confined_jrn _ _ _)
  unfold State.fltRecord
  dsimp only
  split
  · refine State.Confined.trans ?_ (State.confined_event _ _ Ev.flt 2 (by decide))
    split
    · exact key _ _ _ hc
    · exact (key _ _ _ hc).trans ((State.confined_setFlag _ _ _ _ (by decide)).trans (State.confined_setF _ _ _ _ (by decide)))
  · exact key _ _ _ hc

theorem State.confined_startWait (s : State) (n : Nat) (h : n < 256) : s.Confined [0x4003] (s.startWait n) := by
  obtain ⟨-, -, -, h4⟩ := Flt.block n h
  unfold State.startWait
  split
  · split
    · exact State.confined_setFlag _ _ _ _ (by simp [h4])
    · split
      · exact .refl _ s
      · exact State.confined_flt _ _ _
  · exact .refl _ s

theorem State.confined_logTrigger (s : State) (k n : Nat) : s.Confined [0x4013] (s.logTrigger k n) := by
  unfold State.logTrigger
  refine (State.confined_pushLog _ _ ?_ 7 s (by decide)).trans (State.confined_setReg _ _ _ _ (by decide))
  intro i hi
  simp only [F.JRN_TRIG_LOG_KIND, List.mem_singleton]; omega

theorem State.confined_trigger (s : State) (k n : Nat) : s.Confined [0x4012, 0x4013] (s.trigger k n) := by
  have hl := (State.confined_logTrigger s k n).mono (cs := [0x4012, 0x4013]) (by simp)
  unfold State.trigger
  dsimp only
  split
  · exact (((hl.trans (State.confined_jrn _ _ _)).trans (State.confined_incF _ _ _ (by decide))).trans
      (State.confined_incF _ _ _ (by decide))).trans (State.confined_event _ _ _ _ (by decide))
  · split
    · exact (((hl.trans (State.confined_jrn _ _ _)).trans (State.confined_setF _ _ _ _ (by decide))).trans
        (State.confined_setF _ _ _ _ (by decide))).trans (State.confined_setF _ _ _ _ (by decide))
    · exact hl

theorem State.confined_fltFreezeAct (s : State) (n : Nat) : s.Confined raiseBlocks (s.fltFreezeAct n) := by
  unfold State.fltFreezeAct
  refine State.confined_when _ _ _ _ ?_
  exact ((State.confined_trigger s 1 n).mono (by decide)).trans
    (State.confined_when _ _ _ _ (State.confined_setFlag _ _ _ _ (by decide)))

/-- A bridge's plan touches its own hidden state alone. -/
theorem State.confined_statePlan (s : State) (b : Nat) : s.Confined [0x400A, 0x400B] (s.statePlan b) := State.confined_mots _ _ _

theorem State.confined_refreshBridge (s : State) (b : Nat) (hb : b < 3) : s.Confined [0x400A, 0x400B] (s.refreshBridge b) := by
  have hg : (F.GDR_BRIDGE_STAT_CAUSE b).addr / 0x10000 = 0x400B ∧ (F.GDR_BRIDGE_STAT_IMPOSED b).addr / 0x10000 = 0x400B := by
    simp only [F.GDR_BRIDGE_STAT_CAUSE, F.GDR_BRIDGE_STAT_IMPOSED]; omega
  have hm : (F.MOT_STATUS_FORCED b).addr / 0x10000 = 0x400A ∧ (F.MOT_STATUS_PERMIT b).addr / 0x10000 = 0x400A ∧
      (F.MOT_STATUS_STATE b).addr / 0x10000 = 0x400A ∧ (F.MOT_FORCED_CNT_COUNT b).addr / 0x10000 = 0x400A ∧
      (F.MOT_STATE_CHG_CNT_COUNT b).addr / 0x10000 = 0x400A ∧ (F.MOT_ASC_CNT_COUNT b).addr / 0x10000 = 0x400A ∧
      (Ev.mot b).ev.addr / 0x10000 = 0x400A := by
    simp only [F.MOT_STATUS_FORCED, F.MOT_STATUS_PERMIT, F.MOT_STATUS_STATE, F.MOT_FORCED_CNT_COUNT, F.MOT_STATE_CHG_CNT_COUNT,
      F.MOT_ASC_CNT_COUNT, Ev.mot, F.MOT_EVENT_SEEN]; omega
  obtain ⟨m1, m2, m3, m4, m5, m6, m7⟩ := hm
  unfold State.refreshBridge
  dsimp only
  refine State.Confined.trans ?_ (State.confined_each _ _ _ _ ?_)
  · refine State.Confined.trans ?_ (State.confined_when _ _ _ _ (State.confined_statePlan _ b))
    refine State.Confined.trans ?_ (State.confined_setF _ _ _ _ (by simp [m3]))
    refine State.Confined.trans ?_ (State.confined_setFlag _ _ _ _ (by simp [m2]))
    refine State.Confined.trans ?_ (State.confined_setFlag _ _ _ _ (by simp [m1]))
    refine State.Confined.trans ?_ (State.confined_when _ _ _ _ ((State.confined_incF _ _ _ (by simp [m6])).trans
      (State.confined_event _ _ _ _ (by simp [m7]))))
    refine State.Confined.trans ?_ (State.confined_when _ _ _ _ (State.confined_incF _ _ _ (by simp [m5])))
    refine State.Confined.trans ?_ (State.confined_when _ _ _ _ ((State.confined_incF _ _ _ (by simp [m4])).trans
      (State.confined_event _ _ _ _ (by simp [m7]))))
    exact (State.confined_setF _ _ _ _ (by simp [hg.1])).trans (State.confined_setF _ _ _ _ (by simp [hg.2]))
  · intro t g hgm
    have hg18 : g < 18 := by
      simp only [List.mem_range'_1] at hgm; omega
    have e : (F.GDR_GATE_CMD g).addr / 0x10000 = 0x400B ∧ (F.GDR_GATE_SENSE g).addr / 0x10000 = 0x400B := by
      simp only [F.GDR_GATE_CMD, F.GDR_GATE_SENSE]; omega
    exact (State.confined_setFlag _ _ _ _ (by simp [e.1])).trans (State.confined_setFlag _ _ _ _ (by simp [e.2]))

theorem State.confined_refreshSol (s : State) (k : Nat) (hk : k < 12) : s.Confined [0x400A, 0x400B] (s.refreshSol k) := by
  have e : (F.GDR_SOL_SET_SET k).addr / 0x10000 = 0x400B ∧ (F.GDR_SOL_STAT_STATE k).addr / 0x10000 = 0x400B ∧
      (F.GDR_SOL_STAT_BLOCKED k).addr / 0x10000 = 0x400B ∧ (F.GDR_SOL_STAT_DUTY k).addr / 0x10000 = 0x400B := by
    simp only [F.GDR_SOL_SET_SET, F.GDR_SOL_STAT_STATE, F.GDR_SOL_STAT_BLOCKED, F.GDR_SOL_STAT_DUTY]; omega
  obtain ⟨e1, e2, e3, e4⟩ := e
  unfold State.refreshSol
  dsimp only
  refine State.Confined.trans ?_ (State.confined_when _ _ _ _ (State.confined_setF _ _ _ _ (by simp [e4])))
  exact ((State.confined_setF _ _ _ _ (by simp [e1])).trans (State.confined_setF _ _ _ _ (by simp [e2]))).trans
    (State.confined_setFlag _ _ _ _ (by simp [e3]))

/-- Bringing the power stage in line touches the motor and gate drive blocks alone. -/
theorem State.confined_refreshPower (s : State) : s.Confined [0x400A, 0x400B] s.refreshPower := by
  unfold State.refreshPower
  dsimp only
  refine State.Confined.trans ?_ (State.confined_setFlag _ _ _ _ (by decide))
  refine State.Confined.trans ?_ (State.confined_setFlag _ _ _ _ (by decide))
  refine State.Confined.trans ?_ (State.confined_setF _ _ _ _ (by decide))
  refine State.Confined.trans (State.Confined.trans (State.confined_each _ _ _ _ ?_) (State.confined_each _ _ _ _ ?_))
    (State.confined_each _ _ _ _ ?_)
  · intro t b hb; exact State.confined_refreshBridge t b (by simpa using hb)
  · intro t b hb; exact State.confined_refreshSol t b (by simpa using hb)
  · intro t b hb
    have hb4 : b < 4 := by simpa using hb
    refine State.confined_setFlag _ _ _ _ ?_
    simp only [F.GDR_EN_STAT_OUT, List.mem_cons]; omega

theorem State.confined_brakeRelease (s : State) : s.Confined raiseBlocks s.brakeRelease := by
  unfold State.brakeRelease
  split
  · exact (((State.confined_gdr _ _ _).trans (State.confined_setFlag _ _ _ _ (by decide))).trans
      (State.confined_event _ _ _ _ (by decide))).trans ((State.confined_refreshPower _).mono (by decide))
  · exact .refl _ s

theorem State.confined_settle (s : State) (n : Nat) (h : n < 256) : s.Confined [0x4003] (s.settle n) := by
  unfold State.settle
  split
  · exact State.confined_setActive s n false h
  · exact .refl _ s

/-- A configuration field of a fault source: REACTION, CLEAR_WAIT and CLASS of FLT_SRC_n. -/
def Fld.srcCfg (g : Fld) : Prop := 0x40030400 ≤ g.addr ∧ g.addr < 0x40030800 ∧ (8 ≤ g.lo ∨ g.hi ≤ 1)

theorem Fld.srcCfg_reaction (n : Nat) (h : n < 256) : (F.FLT_SRC_REACTION n).srcCfg := by
  simp only [Fld.srcCfg, F.FLT_SRC_REACTION]; omega

theorem Fld.srcCfg_class (n : Nat) (h : n < 256) : (F.FLT_SRC_CLASS n).srcCfg := by
  simp only [Fld.srcCfg, F.FLT_SRC_CLASS]; omega

theorem Fld.srcCfg_wait (n : Nat) (h : n < 256) : (F.FLT_SRC_CLEAR_WAIT n).srcCfg := by
  simp only [Fld.srcCfg, F.FLT_SRC_CLEAR_WAIT]; omega

theorem State.Confined.getF {bs : List Nat} {s t : State} (h : s.Confined bs t) (g : Fld) (hg : g.addr / 0x10000 ∉ bs) :
    t.getF g = s.getF g := by unfold State.getF; rw [h.1 _ hg]

theorem State.getF_refreshReact (s : State) (g : Fld) (h : g.addr ≠ 0x40030018) : s.refreshReact.getF g = s.getF g := by
  unfold State.refreshReact
  dsimp only
  rw [State.getF_setF_apart _ _ _ _ (by decide) (by simp only [Fld.apart_iff, F.FLT_REACT_SOURCE]; omega),
    State.getF_setF_apart _ _ _ _ (by decide) (by simp only [Fld.apart_iff, F.FLT_REACT_ACTION]; omega)]

/-- Registers that the change of an ACTIVE bit leaves alone. -/
theorem State.getF_setActive (s : State) (n : Nat) (b : Bool) (g : Fld) (h1 : (F.FLT_ACTIVE_ACTIVE (n / 32)).apart g = true)
    (h2 : (F.FLT_SRC_ACTIVE n).apart g = true) (h3 : g.addr ≠ F.FLT_STATUS_ACTIVE_COUNT.addr) (h4 : g.addr ≠ 0x40030018) :
    (s.setActive n b).getF g = s.getF g := by
  have key : ∀ v w : Nat, (((s.setF (F.FLT_ACTIVE_ACTIVE (n / 32)) v).setFlag (F.FLT_SRC_ACTIVE n) b).setF
      F.FLT_STATUS_ACTIVE_COUNT w).getF g = s.getF g := by
    intro v w
    rw [State.getF_setF_apart _ _ _ _ (by decide) (by simp only [Fld.apart_iff]; omega)]
    unfold State.setFlag
    rw [State.getF_setF_apart _ _ _ _ (by simp [Fld.ok, F.FLT_SRC_ACTIVE]) h2,
      State.getF_setF_apart _ _ _ _ (by simp [Fld.ok, F.FLT_ACTIVE_ACTIVE]) h1]
  unfold State.setActive
  dsimp only
  split
  · rfl
  · split
    · exact key _ _
    · rw [State.getF_refreshReact _ _ h4, State.getF_flt]; exact key _ _

theorem State.getF_setActive_cfg (s : State) (n : Nat) (b : Bool) (g : Fld) (hn : n < 256) (hg : g.srcCfg) :
    (s.setActive n b).getF g = s.getF g := by
  unfold Fld.srcCfg at hg
  refine State.getF_setActive s n b g ?_ ?_ ?_ ?_ <;>
    (try simp only [Fld.apart_iff, F.FLT_ACTIVE_ACTIVE, F.FLT_SRC_ACTIVE, F.FLT_STATUS_ACTIVE_COUNT]) <;> omega

/-- A raise's record leaves the configuration of every source alone. -/
theorem State.getF_fltRecord_cfg (s : State) (n : Nat) (g : Fld) (hn : n < 256) (hg : g.srcCfg) :
    (s.fltRecord n).getF g = s.getF g := by
  have hg' := hg
  unfold Fld.srcCfg at hg'
  have hc : (classCounter (s.fltClass n)).addr ≠ g.addr := by
    unfold classCounter; split <;> simp only [F.FLT_CORRECTED_CNT_COUNT, F.FLT_CONTAINED_CNT_COUNT, F.FLT_FATAL_CNT_COUNT] <;> omega
  have key : ∀ (v : Nat) (w : Word) (f : Fld), f.addr ≠ g.addr →
      ((((((s.setF (F.FLT_STICKY_STICKY (n / 32)) v).setActive n true).incF f).setReg F.FLT_LAST_TICK.addr w)).marker 3 n
        (s.fltClass n)).getF g = s.getF g := by
    intro v w f hf
    rw [State.marker_getF, State.getF_setReg_other _ _ _ _ (by simp only [F.FLT_LAST_TICK]; omega)]
    have : ∀ u : State, (u.incF f).getF g = u.getF g := fun u => by
      unfold State.getF State.incF State.addF; rw [State.reg_setF_other _ _ _ _ hf]
    rw [this, State.getF_setActive_cfg _ _ _ _ hn hg,
      State.getF_setF_apart _ _ _ _ (by simp [Fld.ok, F.FLT_STICKY_STICKY])
        (by simp only [Fld.apart_iff, F.FLT_STICKY_STICKY]; omega)]
  unfold State.fltRecord
  dsimp only
  split
  · rw [State.getF_event_other _ _ _ _ (by simp only [Ev.flt, F.FLT_EVENT_SEEN]; omega)]
    split
    · exact key _ _ _ hc
    · unfold State.setFlag
      rw [State.getF_setF_apart _ _ _ _ (by decide)
          (by simp only [Fld.apart_iff, F.FLT_FIRST_FATAL_SOURCE]; omega),
        State.getF_setF_apart _ _ _ _ (by decide)
          (by simp only [Fld.apart_iff, F.FLT_FIRST_FATAL_VALID]; omega)]
      exact key _ _ _ hc
  · exact key _ _ _ hc

theorem State.getF_startWait_cfg (s : State) (n : Nat) (g : Fld) (hg : g.srcCfg) : (s.startWait n).getF g = s.getF g := by
  unfold Fld.srcCfg at hg
  unfold State.startWait
  split
  · split
    · exact State.getF_setF_apart _ _ _ _ (by simp [Fld.ok, F.FLT_SRC_HELD])
        (by simp only [Fld.apart_iff, F.FLT_SRC_HELD]; omega)
    · split <;> rfl
  · rfl

/-- REACT.FREEZE is the one register of the fault block that a freeze writes. -/
theorem State.getF_fltFreezeAct (s : State) (n : Nat) (g : Fld) (h1 : g.addr / 0x10000 = 0x4003) (h2 : g.addr ≠ 0x40030018) :
    (s.fltFreezeAct n).getF g = s.getF g := by
  have ht : (s.trigger 1 n).getF g = s.getF g := (State.confined_trigger s 1 n).getF g (by simp [h1])
  unfold State.fltFreezeAct
  cases s.fltFreeze n
  · rfl
  · simp only [State.when, if_true]
    split
    · rw [show ∀ u : State, (u.setFlag F.FLT_REACT_FREEZE true).getF g = u.getF g from fun u => by
        unfold State.setFlag
        exact State.getF_setF_apart _ _ _ _ (by decide)
          (by simp only [Fld.apart_iff, F.FLT_REACT_FREEZE]; omega)]
      exact ht
    · exact ht

theorem State.Confined.mode {bs : List Nat} {s t : State} (h : s.Confined bs t) (hb : 0x4000 ∉ bs) : t.mode = s.mode := by
  have hg := h.getF F.SYS_MODE_MODE (by simpa [F.SYS_MODE_MODE] using hb)
  obtain ⟨-, r, f, j, g, m, rfl⟩ := h
  unfold State.mode
  rw [hg]

/-- ACTION 0 does nothing (R439). -/
@[simp] theorem State.takeAction_zero (s : State) (n : Nat) (us : Option Nat) : s.takeAction n 0 us = s := by
  simp [State.takeAction]

/-- A raise that takes no action (R438, R439) records, starts the wait, may freeze, and may release the brake. -/
theorem State.doRaise_quiet (s : State) (n : Nat) (us : Option Nat) (hn : n < 256) (hq : s.Quiet n) :
    s.doRaise n us = (((s.fltRecord n).startWait n).fltFreezeAct n).brakeRelease := by
  have hr := Fld.srcCfg_reaction n hn
  have h : ∀ b ∈ [0x4003], b ∈ raiseBlocks := by decide
  have hc : s.Confined raiseBlocks (((s.fltRecord n).startWait n).fltFreezeAct n) :=
    (((State.confined_fltRecord s n hn).mono h).trans ((State.confined_startWait _ n hn).mono h)).trans
      (State.confined_fltFreezeAct _ n)
  have hm := hc.mode (by decide)
  have h0 : (((s.fltRecord n).startWait n).fltFreezeAct n).fltAction n = s.fltAction n := by
    unfold State.fltAction
    rw [State.getF_fltFreezeAct _ _ _ (by simp only [F.FLT_SRC_REACTION]; omega) (by simp only [F.FLT_SRC_REACTION]; omega),
      State.getF_startWait_cfg _ _ _ hr, State.getF_fltRecord_cfg _ _ _ hn hr]
  unfold State.doRaise State.fltAct
  rcases hq with hq | hq
  · have : s.fltAction n = 0 := hq
    simp [h0, this]
  · unfold State.takeAction
    dsimp only
    rw [h0, hm]
    split
    · rfl
    · split <;> first | rfl | (rename_i hm' ; rw [hm'] at hq; simp [Mode.recordsOnly] at hq)

/-- A raise with ACTION 0 stays in the blocks of `raiseBlocks`. -/
theorem State.confined_doRaise (s : State) (n : Nat) (us : Option Nat) (hn : n < 256) (hq : s.Quiet n) :
    s.Confined raiseBlocks (s.doRaise n us) := by
  rw [State.doRaise_quiet s n us hn hq]
  have h : ∀ b ∈ [0x4003], b ∈ raiseBlocks := by decide
  exact ((((State.confined_fltRecord s n hn).mono h).trans ((State.confined_startWait _ n hn).mono h)).trans
    (State.confined_fltFreezeAct _ n)).trans (State.confined_brakeRelease _)

theorem State.confined_raise (s : State) (n : Nat) (us : Option Nat) (hn : n < 256) (hq : s.Quiet n) :
    s.Confined raiseBlocks (s.raiseTimed n us) := by
  unfold State.raiseTimed
  split
  · exact .refl _ s
  · exact (State.confined_doRaise s n us hn hq).trans ((State.confined_settle _ n hn).mono (by decide))

theorem State.confined_raiseLevel (s : State) (n : Nat) (us : Option Nat) (hn : n < 256) (hq : s.Quiet n) :
    s.Confined raiseBlocks (s.levelTimed n us) := by
  unfold State.levelTimed
  dsimp only
  split
  · exact State.confined_flt _ _ _
  · exact (State.confined_flt raiseBlocks s _).trans (State.confined_doRaise _ n us hn hq)

theorem State.confined_clearLevel (s : State) (n : Nat) (hn : n < 256) : s.Confined [0x4003] (s.clearLevel n) :=
  (State.confined_flt _ s _).trans (State.confined_settle _ n hn)

theorem bit_or_self (v n : Nat) : bit (v ||| 2 ^ n) n = true := by
  have h : (v ||| 2 ^ n).testBit n = true := by simp [Nat.testBit_or, Nat.testBit_two_pow_self]
  unfold bit
  rw [Nat.testBit_eq_decide_div_mod_eq] at h
  simpa using h

/-- The sticky words are written by a raise's record alone. -/
theorem State.sticky_setActive (s : State) (n m : Nat) (b : Bool) (hn : n < 256) (hm : m < 256) :
    (s.setActive n b).sticky m = s.sticky m := by
  unfold State.sticky
  rw [State.getF_setActive]
  all_goals simp only [Fld.apart_iff, F.FLT_ACTIVE_ACTIVE, F.FLT_SRC_ACTIVE, F.FLT_STICKY_STICKY, F.FLT_STATUS_ACTIVE_COUNT]
  all_goals omega

/-- A raise sets the source's sticky bit (R437). -/
theorem State.sticky_fltRecord (s : State) (n : Nat) (hn : n < 256) : (s.fltRecord n).sticky n = true := by
  have hset : ∀ u : State, (u.setF (F.FLT_STICKY_STICKY (n / 32)) (u.getF (F.FLT_STICKY_STICKY (n / 32)) ||| 2 ^ (n % 32))).sticky n = true := by
    intro u
    unfold State.sticky
    rw [State.getF_setF_same _ _ _ (by simp [Fld.ok, F.FLT_STICKY_STICKY])]
    have hw : (F.FLT_STICKY_STICKY (n / 32)).width = 32 := rfl
    have hb : u.getF (F.FLT_STICKY_STICKY (n / 32)) < 2 ^ 32 := State.getF_lt u _
    have hp : 2 ^ (n % 32) < 2 ^ 32 := Nat.pow_lt_pow_right (by decide) (Nat.mod_lt _ (by decide))
    rw [hw, Nat.mod_eq_of_lt (Nat.or_lt_two_pow hb hp)]
    exact bit_or_self _ _
  have other : ∀ (u v : State), v.getF (F.FLT_STICKY_STICKY (n / 32)) = u.getF (F.FLT_STICKY_STICKY (n / 32)) → v.sticky n = u.sticky n := by
    intro u v h; unfold State.sticky; rw [h]
  have hc : (classCounter (s.fltClass n)).addr ≠ (F.FLT_STICKY_STICKY (n / 32)).addr := by
    unfold classCounter; split <;>
      simp only [F.FLT_CORRECTED_CNT_COUNT, F.FLT_CONTAINED_CNT_COUNT, F.FLT_FATAL_CNT_COUNT, F.FLT_STICKY_STICKY] <;> omega
  have key : ∀ (w : Word) (f : Fld), f.addr ≠ (F.FLT_STICKY_STICKY (n / 32)).addr →
      ((((((s.setF (F.FLT_STICKY_STICKY (n / 32)) (s.getF (F.FLT_STICKY_STICKY (n / 32)) ||| 2 ^ (n % 32))).setActive n true).incF
        f).setReg F.FLT_LAST_TICK.addr w)).marker 3 n (s.fltClass n)).sticky n = true := by
    intro w f hf
    rw [other (((s.setF (F.FLT_STICKY_STICKY (n / 32)) (s.getF (F.FLT_STICKY_STICKY (n / 32)) ||| 2 ^ (n % 32))).setActive n true)) _ ?_,
      State.sticky_setActive _ n n true hn hn]
    · exact hset s
    · rw [State.marker_getF, State.getF_setReg_other _ _ _ _ (by simp only [F.FLT_LAST_TICK, F.FLT_STICKY_STICKY]; omega)]
      unfold State.getF State.incF State.addF
      rw [State.reg_setF_other _ _ _ _ hf]
  unfold State.fltRecord
  dsimp only
  split
  · rw [other _ _ (State.getF_event_other _ Ev.flt 2 _ (by simp only [Ev.flt, F.FLT_EVENT_SEEN, F.FLT_STICKY_STICKY]; omega))]
    split
    · exact key _ _ hc
    · refine (other _ _ ?_).trans (key (w32 (s.tickLo % 2 ^ 16 * 2 ^ 16 + s.fltClass n * 2 ^ 8 + n)) _ hc)
      unfold State.setFlag
      rw [State.getF_setF_apart _ _ _ _ (by decide)
          (by simp only [Fld.apart_iff, F.FLT_FIRST_FATAL_SOURCE, F.FLT_STICKY_STICKY]; omega),
        State.getF_setF_apart _ _ _ _ (by decide)
          (by simp only [Fld.apart_iff, F.FLT_FIRST_FATAL_VALID, F.FLT_STICKY_STICKY]; omega)]
  · exact key _ _ hc

theorem State.sticky_confined {s t : State} (h : s.Confined [0x400A, 0x400B, 0x4011, 0x4012, 0x4013] t) (n : Nat) (hn : n < 256) :
    t.sticky n = s.sticky n := by
  unfold State.sticky
  rw [h.getF _ (by simp only [F.FLT_STICKY_STICKY, List.mem_cons, List.not_mem_nil, or_false]; omega)]

theorem State.sticky_doRaise (s : State) (n : Nat) (us : Option Nat) (hn : n < 256) (hq : s.Quiet n) :
    (s.doRaise n us).sticky n = true := by
  rw [State.doRaise_quiet s n us hn hq]
  have h1 : ((s.fltRecord n).startWait n).sticky n = true := by
    rw [← State.sticky_fltRecord s n hn]
    unfold State.startWait
    split
    · split
      · unfold State.sticky State.setFlag
        rw [State.getF_setF_apart _ _ _ _ (by simp [Fld.ok, F.FLT_SRC_HELD])
          (by simp only [Fld.apart_iff, F.FLT_SRC_HELD, F.FLT_STICKY_STICKY]; omega)]
      · split <;> rfl
    · rfl
  have h2 : (((s.fltRecord n).startWait n).fltFreezeAct n).sticky n = true := by
    rw [← h1]; unfold State.sticky
    rw [State.getF_fltFreezeAct _ _ _ (by simp only [F.FLT_STICKY_STICKY]; omega) (by simp only [F.FLT_STICKY_STICKY]; omega)]
  rw [← h2]
  unfold State.brakeRelease
  split
  · refine State.sticky_confined ?_ n hn
    exact (((State.confined_gdr _ _ _).trans (State.confined_setFlag _ _ _ _ (by decide))).trans
      (State.confined_event _ _ _ _ (by decide))).trans ((State.confined_refreshPower _).mono (by decide))
  · rfl

/-- A raise of a source that is not asserted sets its sticky bit (R437); with ACTION 0 the bit is all that need be said of the
mode, which does not change. -/
theorem State.sticky_raise (s : State) (n : Nat) (us : Option Nat) (hn : n < 256) (hq : s.Quiet n) (ha : s.asserted n = false) :
    (s.raiseTimed n us).sticky n = true := by
  unfold State.raiseTimed
  rw [ha]
  simp only [Bool.false_eq_true, if_false]
  unfold State.settle
  split
  · rw [State.sticky_setActive _ _ _ _ hn hn]; exact State.sticky_doRaise s n us hn hq
  · exact State.sticky_doRaise s n us hn hq

theorem State.sticky_raiseLevel (s : State) (n : Nat) (us : Option Nat) (hn : n < 256) (hq : s.Quiet n)
    (ha : s.asserted n = false) : (s.levelTimed n us).sticky n = true := by
  unfold State.levelTimed
  dsimp only
  rw [ha]
  exact State.sticky_doRaise _ n us hn hq

end Sys2Proof.Machine
end

