-- ==== Sys2Proof/WellFormed.lean ====
section
/-!
DEFINITION. Which commands are well formed: every index names something the spec gives the device, every code fits its field. `exec`
answers ill-formed commands too; the statements speak of well-formed ones where it matters.
-/
namespace Sys2Proof

/-- An ADC start names a converter, group or pair. [DESIGN CHOICE, log entry 52] -/
def AdcSeq.ok : AdcSeq → Bool
  | .regular v | .injected v => decide (v < 8)
  | .group g => decide (g < 4)
  | .pair p => decide (p < 4)

/-- Whether a command's operands lie in the ranges the spec gives them. [DESIGN CHOICE, log entry 52] -/
def WellFormed (c : Instr) : Bool :=
  match c with
  | .vsupValid _ => true
  | .vsupLoss => true
  | .pinReset _ => true
  | .coreUnderVoltage _ => true
  | .resetRelease e => decide (e.strap < 4 ∧ e.ro.length = 32 ∧ e.flash.length = 2)
  | .lbistComplete part1 part2 => decide (part1 < 256 ∧ part2 < 256)
  | .analogueBist e => decide (e.ton.length = 18 ∧ e.sense.length = 18 ∧ e.droop.length = 9 ∧ e.shunt.length = 3 ∧ e.still.length = 9 ∧ ∀ l ∈ e.still ++ e.shunt, l ≠ [] ∧ ∀ x ∈ l, x.1 < 8)
  | .joinTimeout => true
  | .listenTimeout _ => true
  | .coldLimitExpiry => true
  | .election => true
  | .cycleBoundary => true
  | .rateCorrection => true
  | .checkpoint => true
  | .snapshot _ => true
  | .staticSegmentEnd => true
  | .tick _ _ => true
  | .hobDispatch hob => decide (hob < 64)
  | .blockStage hob _ _ => decide (hob < 64)
  | .busOutputWrite k _ _ => decide (k < 24)
  | .cmpTimeout k _ => decide (k < 24)
  | .cmpVerdictDisagree k _ => decide (k < 24)
  | .tileVerify tile _ _ _ _ => decide (tile < 2048)
  | .commit inst _ _ => decide (inst < 4096)
  | .deadlineMiss k => decide (k < 5)
  | .shadowCopyApply => true
  | .faultRaise source _ _ => decide (source < 256)
  | .wireFault source _ => decide (source < 256)
  | .clearWaitExpiry source _ => decide (source < 256)
  | .tryCountReset source => decide (source < 256)
  | .forcePulseEnd source _ => decide (source < 256)
  | .desat gate => decide (gate < 18)
  | .overcurrent bridge => decide (bridge < 3)
  | .gateStuck gate => decide (gate < 18)
  | .shootThroughAttempt gate _ => decide (gate < 18)
  | .bootRefresh gate => decide (gate < 18)
  | .bootUv gate => decide (gate < 18)
  | .chopperSwitch link u => decide (link < 2 ∧ u < 256)
  | .chopperFail link => decide (link < 2)
  | .linkOv link u => decide (link < 2 ∧ u < 256)
  | .linkTrip link u => decide (link < 2 ∧ u < 256)
  | .solShort channel => decide (channel < 12)
  | .solOpen channel _ => decide (channel < 12)
  | .solDeviation channel _ => decide (channel < 12)
  | .enReadback enable _ => decide (enable < 4)
  | .ssFault supply => decide (supply < 4)
  | .testPulseStart _ => true
  | .testPulseRelease => true
  | .halfStart n => decide (n < 16384)
  | .xdisInLow => true
  | .xdisInHigh => true
  | .xdisGraceExpiry => true
  | .handoverTimeout => true
  | .isolateLimpExpiry => true
  | .graceExpiry => true
  | .standstillHoldExpiry => true
  | .flueFrameReceive f => decide (f.header.length = 12 ∧ f.ring < 2)
  | .frameTransmit slot _ _ _ => decide (slot < 160)
  | .damperDiverge _ => true
  | .receiverLock ring => decide (ring < 2)
  | .lockLoss ring _ => decide (ring < 2)
  | .bypassOpen ring => decide (ring < 2)
  | .bypassClose ring => decide (ring < 2)
  | .ppsEdge _ _ => true
  | .ppsLost => true
  | .countStep i _ levels _ => decide (i < 4 ∧ levels < 8)
  | .indexEdge i _ _ _ => decide (i < 4)
  | .probeEdge i _ _ _ => decide (i < 4)
  | .serialReadStart i _ _ => decide (i < 4)
  | .serialWordEnd i _ _ _ _ _ => decide (i < 4)
  | .serialTimeout i => decide (i < 4)
  | .passThroughFrame i => decide (i < 4)
  | .sequenceStart what _ _ => decide (what.ok)
  | .conversionComplete v _ _ _ => decide (v < 8)
  | .referenceCheck => true
  | .openWirePeriod => true
  | .adcStart reg inj => decide (reg < 256 ∧ inj < 256)
  | .canFrameReceive n f _ _ => decide (n < 4 ∧ f.id < 2 ^ 29)
  | .canFrameEnd n _ _ => decide (n < 4)
  | .busOffRecovery n => decide (n < 4)
  | .claimStands => true
  | .sectionControlTimeout => true
  | .ethFrameReceive p _ _ _ => decide (p < 2)
  | .pauseRepeat p => decide (p < 2)
  | .lowWater p => decide (p < 2)
  | .pauseExpiry p => decide (p < 2)
  | .phyPoll p _ => decide (p < 2)
  | .ptpSync p _ => decide (p < 2)
  | .announce p => decide (p < 2)
  | .arpExpiry p entry => decide (p < 2 ∧ entry < 16)
  | .hello => true
  | .pose => true
  | .tile => true
  | .events => true
  | .setpoint => true
  | .tileDrop => true
  | .bye => true
  | .credit => true
  | .tileReq => true
  | .tileTimeout layer _ _ => decide (layer < 2)
  | .sessionTimeout => true
  | .setpointTimeout channel _ => decide (channel < 8)
  | .shutdownRequest _ => true
  | .dormantRelease _ _ => true
  | .rtcAlarm _ => true
  | .wakeTimeout _ => true
  | .vbatLoss => true
  | .xt32Fail _ => true
  | .xt32Return _ => true
  | .pllLoss half _ _ => decide (half < 2)
  | .xt25Fail _ => true
  | .vsupUv => true
  | .vsupOv => true
  | .coreOv => true
  | .vioFault mv => decide (mv < 65536)
  | .vgdFault => true
  | .vbatLow => true
  | .tempConversion n o p => decide (n < 256 ∧ o < 256 ∧ p < 256)
  | .voteWithdraw domain client _ => decide (domain < 22 ∧ client < 8)
  | .voteSet domain client => decide (domain < 22 ∧ client < 8)
  | .domainStepReady domain => decide (domain < 22)
  | .domainTimeout domain => decide (domain < 22)
  | .rollingTestStart => true
  | .rollingTestEnd half _ _ => decide (half < 2)
  | .clockMarginMeasure ro => decide (ro.length = 32)
  | .trimSettle => true
  | .shuntDriftMeasure => true
  | .fetMeasure bridge fets => decide (bridge < 3 ∧ fets.length = 3)
  | .crystalDriftMeasure _ => true
  | .holdupCheck mv => decide (mv < 65536)
  | .ashAppend _ _ _ => true
  | .journalFreeze => true
  | .holdupRelease => true
  | .registerWrite addr _ => decide (addr < 4294967296)
  | .sysSwreset key => decide (key < 65536)
  | .imgFloorRaise key => decide (key < 65536)
  | .imgKeyRevoke key mask => decide (key < 65536 ∧ mask < 16)
  | .imgLifecycleReq key target => decide (key < 65536 ∧ target < 8)
  | .lifecycleFuse => true
  | .bstFuseCmd key => decide (key < 65536)
  | .jrnReplayCmd key => decide (key < 65536)
  | .lawEditWord k _ => decide (k < 8)
  | .fltForce w mask => decide (w < 8 ∧ mask < 4294967296)
  | .sysTickLo => true
  | .fluTimeLo _ => true
  | .clkRtcLo _ => true
  | .messageSend side mailbox _ => decide (side < 4 ∧ mailbox < 16)
  | .messageTake side mailbox _ => decide (side < 4 ∧ mailbox < 16)
  | .mbxDbPend side value rung => decide (side < 4 ∧ value < 4294967296 ∧ rung < 4294967296)
  | .longWait mailbox => decide (mailbox < 16)
  | .serviceRequest => true
  | .read f other => decide (f.addr < 2 ^ 32 ∧ f.len < 65536 ∧ ∀ c ∈ other, c < 256 ∧ ¬(1 ≤ c ∧ c ≤ 9))
  | .write f => decide (f.addr < 2 ^ 32 ∧ f.len < 65536 ∧ f.data.length = f.len)
  | .ashRead f => decide (f.addr < 2 ^ 32 ∧ f.len < 65536)
  | .enterService f => decide (f.addr < 2 ^ 32 ∧ f.len < 65536)
  | .replayAbort f => decide (f.addr < 2 ^ 32 ∧ f.len < 65536)
  | .flashErase f => decide (f.addr < 2 ^ 32 ∧ f.len < 65536)
  | .flashProgram f => decide (f.addr < 2 ^ 32 ∧ f.len < 65536 ∧ f.data.length = f.len)
  | .flashRead f _ => decide (f.addr < 2 ^ 32 ∧ f.len < 65536)
  | .otpKey f => decide (f.addr < 2 ^ 32 ∧ f.len < 65536 ∧ f.data.length = f.len)
  | .nvmOperationComplete _ _ => true
  | .svcAbandon _ _ => true
  | .vbatApplied => true
  | .supplyMonitorClear source => decide (source < 256)
  | .serialRetry i _ _ => decide (i < 4)
  | .canArbitration n _ => decide (n < 4)
  | .jtagInstruction ir _ _ _ => decide (ir < 256)

end Sys2Proof
end

