-- ==== Sys2Proof/Tests/Slice0.lean ====
section
/-!
SUPPORT. Tests: ill-formed commands are refused by WellFormed; check values of the codes; and for every statement that has
hypotheses, a state and operands that meet them, at boundary values (the theorems test_hyps_…; where a statement has several
clauses, one conjunct per clause, in order, some clauses with a second witness).
-/
namespace Sys2Proof.Tests

set_option maxRecDepth 10000
set_option Elab.async false

open Sys2Proof Sys2Proof.Machine

/-- A running device in mode m in which the listed fields hold the listed values and all else is as after reset. -/
def at_ (m : Mode) (l : List (Fld × Nat)) : State :=
  (l.foldl (fun (s : State) x => s.setF x.1 x.2)
    { State.reset with sys := { phase := .run, wiped := true, joined := true } }).setF F.SYS_MODE_MODE m.code

/-- n zero bytes. -/
def zeros (n : Nat) : List Byte := List.replicate n 0

/-- An environment of LOAD in which nothing answers. -/
def env : LoadEnv :=
  { strap := 1, us := 0, lockUs := [], windows := [], failRows := [], badSpares := [], flash := [(true, 0, none), (true, 0, none)],
    ro := List.replicate 32 0, canary := [], mram := none, iin := 0, dv := 0, vload := 0, refFirst := [], refAgain := [],
    cmpMissed := [], cmpFlagged := [] }

/-- An environment of the analogue self-test. -/
def abist : AbistEnv :=
  { refFirst := [], refAgain := [], t := 0, still := List.replicate 9 [(0, 1500000)], dac1 := [], dac2 := [], sense := List.replicate 18 true,
    ton := List.replicate 18 50, droop := List.replicate 9 100, shunt := List.replicate 3 [(0, 1500000)] }

/-- A service frame with the CRC that belongs to it (R537). -/
def sealed (cmd : Nat) (f : SvcFrame) : SvcFrame := { f with crc := crc16 (hostBytes cmd f) }

/-- An Ethernet frame to MAC 00:00:22:33:44:55 of the given EtherType: a UDP datagram for 10.0.0.1 port 0x1234, and an ARP
request for 10.0.0.1. -/
def macHdr (ty : List Byte) : List Byte := [0, 0, 0x22, 0x33, 0x44, 0x55, 0, 1, 2, 3, 4, 5] ++ ty
def udpFrame : List Byte :=
  macHdr [8, 0] ++ [0x45, 0, 0, 32, 0, 0, 0, 0, 64, 17, 0x66, 0xCB, 10, 0, 0, 2, 10, 0, 0, 1] ++
    [0, 1, 0x12, 0x34, 0, 12, 0, 0] ++ zeros 18
def arpFrame : List Byte :=
  macHdr [8, 6] ++ [0, 1, 8, 0, 6, 4, 0, 1, 0, 1, 2, 3, 4, 5, 10, 0, 0, 2] ++ zeros 6 ++ [10, 0, 0, 1] ++ zeros 18

/-! Well-formedness: one ill-formed term for each check -/

theorem test_wf_refuses_0 : ∀ c ∈ ([
    .resetRelease { env with strap := 4 }, .resetRelease { env with ro := [] }, .resetRelease { env with flash := [] },
      .lbistComplete 256 0, .lbistComplete 0 256, .analogueBist { abist with ton := [] }, .analogueBist
      { abist with sense := [] }, .analogueBist { abist with droop := [] }, .analogueBist { abist with shunt := [] },
      .analogueBist { abist with still := [] }, .analogueBist { abist with shunt := [[(0, 1)], [], [(0, 1)]] }, .analogueBist
      { abist with still := List.replicate 9 [(8, 1)] }, .hobDispatch 64, .blockStage 64 [] [], .busOutputWrite 24 false
      default, .cmpTimeout 24 0, .cmpVerdictDisagree 24 false, .tileVerify 2048 false false none [], .commit 4096 0 0,
      .deadlineMiss 5, .faultRaise 256 false 0, .wireFault 256 false, .clearWaitExpiry 256 false, .tryCountReset 256,
      .forcePulseEnd 256 false, .desat 18, .overcurrent 3, .gateStuck 18, .shootThroughAttempt 18 false, .bootRefresh 18,
      .bootUv 18, .chopperSwitch 2 0, .chopperSwitch 0 256, .chopperFail 2, .linkOv 2 0, .linkOv 0 256, .linkTrip 2 0,
      .linkTrip 0 256, .solShort 12, .solOpen 12 false] : List Instr), WellFormed c = false := by decide +kernel

theorem test_wf_refuses_1 : ∀ c ∈ ([
    .solDeviation 12 false, .enReadback 4 false, .ssFault 4, .halfStart 16384, .flueFrameReceive
      { (default : RawFrame) with header := zeros 11 }, .flueFrameReceive
      { (default : RawFrame) with header := zeros 12, ring := 2 }, .frameTransmit 160 0 0 false, .receiverLock 2, .lockLoss 2
      0, .bypassOpen 2, .bypassClose 2, .countStep 4 0 0 0, .countStep 0 0 8 0, .indexEdge 4 0 false 0, .probeEdge 4 0 false
      0, .serialReadStart 4 0 0, .serialWordEnd 4 0 false 0 false 0, .serialTimeout 4, .passThroughFrame 4, .sequenceStart
      (.regular 8) 0 0, .sequenceStart (.injected 8) 0 0, .sequenceStart (.group 4) 0 0, .sequenceStart (.pair 4) 0 0,
      .conversionComplete 8 0 0 false, .adcStart 256 0, .adcStart 0 256, .canFrameReceive 4 default 0 none, .canFrameReceive 0
      { (default : CanMsg) with id := 2 ^ 29 } 0 none, .canFrameEnd 4 0 0, .busOffRecovery 4, .ethFrameReceive 2 [] false 0,
      .pauseRepeat 2, .lowWater 2, .pauseExpiry 2, .phyPoll 2 [], .ptpSync 2 0, .announce 2, .arpExpiry 2 0, .arpExpiry 0 16,
      .tileTimeout 2 0 0] : List Instr), WellFormed c = false := by decide +kernel

theorem test_wf_refuses_2 : ∀ c ∈ ([
    .setpointTimeout 8 false, .pllLoss 2 false 0, .vioFault 65536, .tempConversion 256 0 0, .tempConversion 0 256 0,
      .tempConversion 0 0 256, .voteWithdraw 22 0 none, .voteWithdraw 0 8 none, .voteSet 22 0, .voteSet 0 8, .domainStepReady
      22, .domainTimeout 22, .rollingTestEnd 2 false false, .clockMarginMeasure [], .fetMeasure 3 [], .holdupCheck 65536,
      .registerWrite 4294967296 0, .sysSwreset 65536, .imgFloorRaise 65536, .imgKeyRevoke 65536 0, .imgKeyRevoke 0 16,
      .imgLifecycleReq 65536 0, .imgLifecycleReq 0 8, .bstFuseCmd 65536, .jrnReplayCmd 65536, .lawEditWord 8 0, .fltForce 8 0,
      .fltForce 0 4294967296, .messageSend 4 0 [], .messageSend 0 16 [], .messageTake 4 0 [], .messageTake 0 16 [], .mbxDbPend
      4 0 0, .mbxDbPend 0 4294967296 0, .mbxDbPend 0 0 4294967296, .longWait 16, .read { addr := 2 ^ 32, len := 0 } none,
      .read { addr := 0, len := 65536 } none, .read { addr := 0, len := 0 } (some 256), .read { addr := 0, len := 0 } (some 1)] : List Instr), WellFormed c = false := by decide +kernel

theorem test_wf_refuses_3 : ∀ c ∈ ([
    .read { addr := 0, len := 0 } (some 9), .write { addr := 2 ^ 32, len := 0 }, .write { addr := 0, len := 65536 }, .write
      { addr := 0, len := 1 }, .ashRead { addr := 2 ^ 32, len := 0 }, .ashRead { addr := 0, len := 65536 }, .enterService
      { addr := 2 ^ 32, len := 0 }, .enterService { addr := 0, len := 65536 }, .replayAbort { addr := 2 ^ 32, len := 0 },
      .replayAbort { addr := 0, len := 65536 }, .flashErase { addr := 2 ^ 32, len := 0 }, .flashErase
      { addr := 0, len := 65536 }, .flashProgram { addr := 2 ^ 32, len := 0 }, .flashProgram { addr := 0, len := 65536 },
      .flashProgram { addr := 0, len := 1 }, .flashRead { addr := 2 ^ 32, len := 0 } false, .flashRead
      { addr := 0, len := 65536 } false, .otpKey { addr := 2 ^ 32, len := 0 }, .otpKey { addr := 0, len := 65536 }, .otpKey
      { addr := 0, len := 1 }, .supplyMonitorClear 256, .serialRetry 4 0 0, .canArbitration 4 false, .jtagInstruction 256
      .idcode [] false] : List Instr), WellFormed c = false := by decide +kernel

theorem test_wf_accepts : ∀ c ∈ ([.pinReset false, .resetRelease env, .analogueBist abist, .fltForce 7 0xFFFFFFFF, .halfStart 16383,
    .sequenceStart (.group 3) 0 255, .read { addr := 0x20000000, len := 1 } (some 10)] : List Instr), WellFormed c = true := by
  decide +kernel

/-- The table gives no row any bits, so that no word spells a command. -/
theorem test_no_words : decodeTableWord 32 0xFFFFFFFF = none ∧ decodeTableWord 0 0 = none := by decide

/-- Both codes over "123456789" (chapter 10: 0x29B1 and 0xE306_9283). -/
theorem test_check_values :
    crc16 [0x31, 0x32, 0x33, 0x34, 0x35, 0x36, 0x37, 0x38, 0x39] = 0x29B1 ∧
    crc32c [0x31, 0x32, 0x33, 0x34, 0x35, 0x36, 0x37, 0x38, 0x39] = 0xE3069283 := by decide +kernel

/-- Register addresses the spec works out (chapters 3, 5 to 10, 12 and 13), and HOB_1's cost word for SUM. -/
theorem test_addresses :
    (F.HOB_MISSED_MISSED 93).addr = 0x40050574 ∧ (F.MAP_SLOT_STATE_STATE 43 12).addr = 0x400801AC ∧
    (F.POS_CMP_POS_POS 2).addr = 0x40092058 ∧ (F.POS_CMP_BEHIND_CNT_COUNT 3).addr = 0x4009309C ∧
    (F.MOT_LOG_CODE 2 5).addr = 0x400A2094 ∧ (F.GDR_GATE_REFRESH 17).addr = 0x400B00C4 ∧ (F.ADC_RESULT_CODE 20).addr = 0x400C0250 ∧
    (F.FLU_SLOT_RX_LEN 17).addr = 0x400D0344 ∧ (F.CAN_FILT_EN 2 20).addr = 0x400E20D0 ∧ F.LDS_SKIP_CNT_COUNT.addr = 0x401100DC ∧
    State.reset.reg (F.HOB_TYPE_COST_BASE 1).addr = 0x00120028 := by decide +kernel

/-! Hypotheses can be met -/

theorem test_hyps_StepRunsFrontCommand :
    (∃ s : State, ∃ c : Instr, ∃ rest, s.pending = c :: rest) ∧
    (∃ s : State, s.pending = []) :=
  ⟨
    ⟨{ at_ .join [] with pending := [.trimSettle] }, .trimSettle, [], by decide +kernel⟩,
    ⟨State.reset, by decide +kernel⟩⟩

theorem test_hyps_ResetState :
    ∃ a, a ≠ 0x40000018 :=
  ⟨0, by decide +kernel⟩

theorem test_hyps_ResetCommands :
    (∃ s : State, ∃ c : Instr, ∃ bit : Nat, ((c = .pinReset false ∧ bit = 3 ∨ c = .coreUnderVoltage false ∧ bit = 2 ∨ c =
      .pinReset true ∧ bit = 3 ∧ s.sys.phase = .run ∨ c = .coreUnderVoltage true ∧ bit = 2 ∧ s.sys.phase = .run ∨ c =
      .sysSwreset 0x9A30 ∧ bit = 6 ∧ s.sys.phase = .run ∧ s.mode = .service)) ∧ ((s.sys.phase = .run ∨ s.sys.phase = .held))) ∧
    (∃ s : State, ∃ c : Instr, ∃ bit : Nat, ((c = .pinReset false ∧ bit = 3 ∨ c = .coreUnderVoltage false ∧ bit = 2 ∨ c =
      .pinReset true ∧ bit = 3 ∧ s.sys.phase = .run ∨ c = .coreUnderVoltage true ∧ bit = 2 ∧ s.sys.phase = .run ∨ c =
      .sysSwreset 0x9A30 ∧ bit = 6 ∧ s.sys.phase = .run ∧ s.mode = .service)) ∧ ((s.sys.phase = .run ∨ s.sys.phase = .held))) ∧
    (∃ s : State, ∃ c : Instr, ∃ bit : Nat, ((c = .pinReset false ∧ bit = 3 ∨ c = .coreUnderVoltage false ∧ bit = 2 ∨ c =
      .pinReset true ∧ bit = 3 ∧ s.sys.phase = .run ∨ c = .coreUnderVoltage true ∧ bit = 2 ∧ s.sys.phase = .run ∨ c =
      .sysSwreset 0x9A30 ∧ bit = 6 ∧ s.sys.phase = .run ∧ s.mode = .service)) ∧ ((s.sys.phase = .run ∨ s.sys.phase = .held))) ∧
    (∃ s : State, ∃ c : Instr, ∃ bit : Nat, ((c = .pinReset false ∧ bit = 3 ∨ c = .coreUnderVoltage false ∧ bit = 2 ∨ c =
      .pinReset true ∧ bit = 3 ∧ s.sys.phase = .run ∨ c = .coreUnderVoltage true ∧ bit = 2 ∧ s.sys.phase = .run ∨ c =
      .sysSwreset 0x9A30 ∧ bit = 6 ∧ s.sys.phase = .run ∧ s.mode = .service)) ∧ ((s.sys.phase = .run ∨ s.sys.phase = .held))) ∧
    (∃ s : State, ∃ c : Instr, ∃ bit : Nat, ((c = .pinReset true ∧ bit = 3 ∨ c = .coreUnderVoltage true ∧ bit = 2)) ∧
      s.sys.phase = .held) ∧
    (∃ s : State, ∃ c : Instr, ∃ bit : Nat, ((c = .pinReset true ∧ bit = 3 ∨ c = .coreUnderVoltage true ∧ bit = 2)) ∧
      s.sys.phase = .held) :=
  ⟨
    ⟨at_ .join [], .pinReset false, 3, by decide +kernel⟩,
    ⟨State.reset, .coreUnderVoltage false, 2, by decide +kernel⟩,
    ⟨at_ .join [], .coreUnderVoltage true, 2, by decide +kernel⟩,
    ⟨at_ .service [], .sysSwreset 0x9A30, 6, by decide +kernel⟩,
    ⟨State.reset, .pinReset true, 3, by decide +kernel⟩,
    ⟨{ State.reset with regs := [(0x40000018, 8)] }, .coreUnderVoltage true, 2, by decide +kernel⟩⟩

theorem test_hyps_PowerUp :
    ∃ s : State, s.sys.vsup = false :=
  ⟨{ State.reset with sys := { phase := .off, vsup := false } }, by decide +kernel⟩

theorem test_hyps_EmberCommands :
    (∃ s : State, s.sys.phase = .run ∧ s.flu.cycle % 8 = 0 ∧ s.ember.vbat = true) ∧
    (∃ s : State, s.ember.alarm.isSome = true ∧ s.ember.vbat = true ∧ s.sys.phase = .off) ∧
    (∃ s : State, s.ember.waking = true ∧ s.sys.vsup = false ∧ s.ember.vbat = true ∧ 0 < s.ember.period) ∧
    (∃ s : State, s.ember.vbat = false) :=
  ⟨
    ⟨{ at_ .join [] with flu := { cycle := 8 } }, by decide +kernel⟩,
    ⟨{ State.reset with sys := { phase := .off, vsup := false }, ember := { alarm := some 5 } }, by decide +kernel⟩,
    ⟨{ State.reset with sys := { phase := .off, vsup := false }, ember := { waking := true, period := 1 } },
      by decide +kernel⟩,
    ⟨{ State.reset with ember := { vbat := false } }, by decide +kernel⟩⟩

theorem test_hyps_ClockMonitors :
    (∃ s : State, s.sys.phase = .run ∧ s.ember.vbat = true ∧ s.Quiet 0xC9 ∧ s.asserted 0xC9 = false) ∧
    (∃ s : State, s.sys.phase = .run ∧ s.ember.vbat = true) ∧
    (∃ s : State, s.sys.phase = .run ∧ s.flag F.CLK_STATUS_XT25_OK = true ∧ s.Quiet 0xC6 ∧ s.asserted 0xC6 = false) ∧
    (∃ s : State, s.sys.phase = .run ∧ s.flag F.CLK_STATUS_XT25_OK = true ∧ s.Quiet 0xC7 ∧ s.asserted 0xC7 = false) ∧
    (∃ s : State, s.sys.phase = .run ∧ s.flag F.CLK_STATUS_XT25_OK = false) ∧
    (∃ s : State, s.sys.phase = .run ∧ s.Quiet 0xC8 ∧ s.asserted 0xC8 = false) :=
  ⟨
    ⟨at_ .join [], by decide +kernel⟩,
    ⟨at_ .join [], by decide +kernel⟩,
    ⟨at_ .join [(F.CLK_STATUS_XT25_OK, 1)], by decide +kernel⟩,
    ⟨at_ .join [(F.CLK_STATUS_XT25_OK, 1)], by decide +kernel⟩,
    ⟨at_ .join [(F.CLK_STATUS_XT25_OK, 0)], by decide +kernel⟩,
    ⟨at_ .join [], by decide +kernel⟩⟩

theorem test_hyps_SupplyMonitors :
    (∃ s : State, ∃ c : Instr, ∃ src, s.sys.phase = .run ∧ (c, src) ∈ [(Instr.vsupUv, 0xCA), (.vsupOv, 0xCB), (.coreOv, 0xCC),
      (.vgdFault, 0xCE), (.vbatLow, 0xCF)] ∧ s.Quiet src ∧ s.asserted src = false) ∧
    (∃ s : State, ∃ c : Instr, ∃ src, s.sys.phase = .run ∧ (c, src) ∈ [(Instr.vsupUv, 0xCA), (.vsupOv, 0xCB), (.coreOv, 0xCC),
      (.vgdFault, 0xCE), (.vbatLow, 0xCF)] ∧ s.Quiet src ∧ s.asserted src = false) ∧
    (∃ s : State, ∃ mv, s.sys.phase = .run ∧ (mv < 3000 ∨ 3600 < mv) ∧ mv < 65536 ∧ s.Quiet 0xCD ∧ s.asserted 0xCD = false) ∧
    (∃ s : State, ∃ mv, s.sys.phase = .run ∧ (mv < 3000 ∨ 3600 < mv) ∧ mv < 65536 ∧ s.Quiet 0xCD ∧ s.asserted 0xCD = false) ∧
    (∃ s : State, ∃ src, s.sys.phase = .run ∧ 0xCA ≤ src ∧ src ≤ 0xCF) ∧
    (∃ s : State, ∃ src, s.sys.phase = .run ∧ 0xCA ≤ src ∧ src ≤ 0xCF) ∧
    (∃ s : State, ∃ n : Nat, ∃ o : Nat, ∃ p : Nat, s.sys.phase = .run ∧ n < 256 ∧ o < 256 ∧ p < 256 ∧ ((∀ v ∈ [n, o, p], v ≤
      s.getF F.PWR_TEMP_CFG_LIMIT + 50))) ∧
    (∃ s : State, ∃ n : Nat, ∃ o : Nat, ∃ p : Nat, ∃ k, s.sys.phase = .run ∧ n < 256 ∧ o < 256 ∧ p < 256 ∧ k < 3 ∧ s.getF
      F.PWR_TEMP_CFG_LIMIT + 50 < [n, o, p].getD k 0 ∧ ((∀ j, j < 3 → j ≠ k → [n, o, p].getD j 0 ≤ s.getF F.PWR_TEMP_CFG_LIMIT
      + 50)) ∧ s.Quiet (0xD0 + k) ∧ s.asserted (0xD0 + k) = false) ∧
    (∃ s : State, ∃ n : Nat, ∃ o : Nat, ∃ p : Nat, ∃ k, s.sys.phase = .run ∧ n < 256 ∧ o < 256 ∧ p < 256 ∧ k < 3 ∧ s.getF
      F.PWR_TEMP_CFG_LIMIT + 50 < [n, o, p].getD k 0 ∧ ((∀ j, j < 3 → j ≠ k → [n, o, p].getD j 0 ≤ s.getF F.PWR_TEMP_CFG_LIMIT
      + 50)) ∧ s.Quiet (0xD0 + k) ∧ s.asserted (0xD0 + k) = false) :=
  ⟨
    ⟨at_ .join [], .vsupUv, 0xCA, by decide +kernel⟩,
    ⟨at_ .join [], .vbatLow, 0xCF, by decide +kernel⟩,
    ⟨at_ .join [], 2999, by decide +kernel⟩,
    ⟨at_ .join [], 3601, by decide +kernel⟩,
    ⟨at_ .join [], 0xCA, by decide +kernel⟩,
    ⟨at_ .join [], 0xCF, by decide +kernel⟩,
    ⟨at_ .join [(F.PWR_TEMP_CFG_LIMIT, 100)], 0, 0, 150, by decide +kernel⟩,
    ⟨at_ .join [(F.PWR_TEMP_CFG_LIMIT, 100)], 0, 150, 151, 2, by decide +kernel⟩,
    ⟨at_ .join [(F.PWR_TEMP_CFG_LIMIT, 100)], 255, 0, 150, 0, by decide +kernel⟩⟩

theorem test_hyps_PowerDomains :
    (∃ s : State, ∃ d : Nat, ∃ c : Nat, s.sys.phase = .run ∧ 1 ≤ d ∧ d < 22 ∧ 1 ≤ c ∧ c < 8 ∧ s.domState d = 2) ∧
    (∃ s : State, ∃ d : Nat, ∃ c : Nat, s.sys.phase = .run ∧ 1 ≤ d ∧ d < 22 ∧ 1 ≤ c ∧ c < 8 ∧ s.domState d = 0 ∧ (s.dom
      d).lost = false ∧ d < s.doms.length) ∧
    (∃ s : State, ∃ d : Nat, ∃ c : Nat, s.sys.phase = .run ∧ 1 ≤ d ∧ d < 22 ∧ 1 ≤ c ∧ c < 8 ∧ s.votes d = 2 ^ c ∧ s.domState d
      = 2 ∧ s.domBlocker d = none ∧ d < s.doms.length) ∧
    (∃ s : State, ∃ d : Nat, ∃ c : Nat, ∃ e, s.sys.phase = .run ∧ 1 ≤ d ∧ d < 22 ∧ 1 ≤ c ∧ c < 8 ∧ s.votes d = 2 ^ c ∧
      s.domState d = 2 ∧ s.domBlocker d = some e) ∧
    (∃ s : State, ∃ d : Nat, ∃ c : Nat, ∃ v, s.sys.phase = .run ∧ 1 ≤ d ∧ d < 22 ∧ 1 ≤ c ∧ c < 8 ∧ v < 8 ∧ v ≠ c ∧ s.votes d =
      2 ^ c ∧ s.domState d = 2) ∧
    (∃ s : State, ∃ d : Nat, s.sys.phase = .run ∧ 1 ≤ d ∧ d < 22 ∧ d < s.doms.length ∧ s.domState d = 3 ∧ (s.dom d).entering =
      false ∧ (s.dom d).step < 3) ∧
    (∃ s : State, ∃ d : Nat, s.sys.phase = .run ∧ 1 ≤ d ∧ d < 22 ∧ d < s.doms.length ∧ s.domState d = 3 ∧ (s.dom d).entering =
      false ∧ (s.dom d).step = 3 ∧ s.votes d ≠ 0) ∧
    (∃ s : State, ∃ d : Nat, s.sys.phase = .run ∧ 1 ≤ d ∧ d < 22 ∧ d < s.doms.length ∧ s.domState d = 3 ∧ (s.dom d).entering =
      false ∧ (s.dom d).step = 3 ∧ s.votes d = 0 ∧ s.domBlocker d = none) ∧
    (∃ s : State, ∃ d : Nat, s.sys.phase = .run ∧ 1 ≤ d ∧ d < 22 ∧ d < s.doms.length ∧ s.domState d = 3 ∧ (s.dom d).entering =
      true ∧ 0 < (s.dom d).step) ∧
    (∃ s : State, ∃ d : Nat, s.sys.phase = .run ∧ 1 ≤ d ∧ d < 22 ∧ d < s.doms.length ∧ s.domState d = 3 ∧ (s.dom d).entering =
      true ∧ (s.dom d).step = 0 ∧ ((∀ e ∈ domDeps.getD d [], s.votes e ≠ 0))) ∧
    (∃ s : State, ∃ d : Nat, s.sys.phase = .run ∧ 1 ≤ d ∧ d < 22 ∧ d < s.doms.length ∧ s.domState d = 3 ∧ (s.dom d).entering =
      true ∧ (s.dom d).step = 3) ∧
    (∃ s : State, ∃ d : Nat, s.sys.phase = .run ∧ 1 ≤ d ∧ d < 22 ∧ d < s.doms.length ∧ s.domState d = 3 ∧ (s.dom d).entering =
      false ∧ (s.dom d).retried = false ∧ (s.dom d).step < 4) ∧
    (∃ s : State, ∃ d : Nat, s.sys.phase = .run ∧ 1 ≤ d ∧ d < 22 ∧ d < s.doms.length ∧ s.domState d = 3 ∧ (s.dom d).entering =
      false ∧ (s.dom d).retried = true ∧ d ≤ 8 ∧ s.mode.runs = true ∧ s.fltAction 0xD3 = 0 ∧ s.asserted 0xD3 = false) :=
  ⟨
    ⟨at_ .join [(F.PWR_DOM_STAT_STATE 21, 2)], 21, 1, by decide +kernel⟩,
    ⟨at_ .join [(F.PWR_DOM_STAT_STATE 1, 0)], 1, 7, by decide +kernel⟩,
    ⟨at_ .join [(F.PWR_DOM_STAT_STATE 21, 2), (F.PWR_DOM_VOTE_VOTES 21, 128)], 21, 7, by decide +kernel⟩,
    ⟨at_ .join [(F.PWR_DOM_STAT_STATE 1, 2), (F.PWR_DOM_STAT_STATE 2, 2), (F.PWR_DOM_VOTE_VOTES 1, 2)], 1, 1, 2,
      by decide +kernel⟩,
    ⟨at_ .join [(F.PWR_DOM_STAT_STATE 21, 2), (F.PWR_DOM_VOTE_VOTES 21, 2)], 21, 1, 7, by decide +kernel⟩,
    ⟨{ at_ .join [(F.PWR_DOM_STAT_STATE 1, 3)] with doms := List.replicate 22 { step := 2 } }, 1, by decide +kernel⟩,
    ⟨{ at_ .join [(F.PWR_DOM_STAT_STATE 1, 3), (F.PWR_DOM_VOTE_VOTES 1, 2)] with doms := List.replicate 22 { step := 3 } }, 1,
      by decide +kernel⟩,
    ⟨{ at_ .join [(F.PWR_DOM_STAT_STATE 21, 3), (F.PWR_DOM_VOTE_VOTES 21, 0)] with doms := List.replicate 22 { step := 3 } },
      21, by decide +kernel⟩,
    ⟨{ at_ .join [(F.PWR_DOM_STAT_STATE 1, 3)] with doms := List.replicate 22 { entering := true, step := 1 } }, 1,
      by decide +kernel⟩,
    ⟨{ at_ .join [(F.PWR_DOM_STAT_STATE 2, 3), (F.PWR_DOM_VOTE_VOTES 1, 2)] with doms := List.replicate 22 { entering := true, step := 0 } },
      2, by decide +kernel⟩,
    ⟨{ at_ .join [(F.PWR_DOM_STAT_STATE 1, 3)] with doms := List.replicate 22 { entering := true, step := 3 } }, 1,
      by decide +kernel⟩,
    ⟨{ at_ .join [(F.PWR_DOM_STAT_STATE 21, 3)] with doms := List.replicate 22 { step := 3 } }, 21, by decide +kernel⟩,
    ⟨{ at_ .lead [(F.PWR_DOM_STAT_STATE 8, 3), (F.FLT_SRC_REACTION 0xD3, 0)] with doms := List.replicate 22 { step := 3, retried := true } },
      8, by decide +kernel⟩⟩

theorem test_hyps_FaultRaise :
    ∃ s : State, ∃ n : Nat, s.sys.phase = .run ∧ n < 256 ∧ s.Quiet n ∧ s.asserted n = false :=
  ⟨at_ .join [], 255, by decide +kernel⟩

theorem test_hyps_FaultActions :
    (∃ s : State, ∃ n : Nat, s.sys.phase = .run ∧ n < 256 ∧ s.asserted n = false ∧ s.getF F.FLT_REACT_ACTION ≤ s.fltAction n ∧
      s.fltAction n = 6 ∧ (s.mode.isLead = true ∨ s.mode = .shadow ∨ s.mode = .selfTest)) ∧
    (∃ s : State, ∃ n : Nat, s.sys.phase = .run ∧ n < 256 ∧ s.asserted n = false ∧ s.getF F.FLT_REACT_ACTION ≤ s.fltAction n ∧
      s.fltAction n = 6 ∧ (s.mode.isLead = true ∨ s.mode = .shadow ∨ s.mode = .selfTest)) ∧
    (∃ s : State, ∃ n : Nat, s.sys.phase = .run ∧ n < 256 ∧ s.asserted n = false ∧ s.getF F.FLT_REACT_ACTION ≤ s.fltAction n ∧
      s.fltAction n = 3 ∧ s.mode = .lead ∧ s.sys.next = []) ∧
    (∃ s : State, ∃ n : Nat, s.sys.phase = .run ∧ n < 256 ∧ s.asserted n = false ∧ s.getF F.FLT_REACT_ACTION ≤ s.fltAction n ∧
      s.fltAction n = 4 ∧ (s.mode = .lead ∨ s.mode = .leadDegraded) ∧ s.sys.next = []) ∧
    (∃ s : State, ∃ n : Nat, s.sys.phase = .run ∧ n < 256 ∧ s.asserted n = false ∧ s.getF F.FLT_REACT_ACTION ≤ s.fltAction n ∧
      s.fltAction n = 4 ∧ (s.mode = .lead ∨ s.mode = .leadDegraded) ∧ s.sys.next = []) ∧
    (∃ s : State, ∃ n : Nat, s.sys.phase = .run ∧ n < 256 ∧ s.asserted n = false ∧ s.getF F.FLT_REACT_ACTION ≤ s.fltAction n ∧
      s.fltAction n = 5 ∧ (s.mode = .lead ∨ s.mode = .leadDegraded ∨ s.mode = .limp) ∧ s.sys.next = []) ∧
    (∃ s : State, ∃ n : Nat, s.sys.phase = .run ∧ n < 256 ∧ s.asserted n = false ∧ s.getF F.FLT_REACT_ACTION ≤ s.fltAction n ∧
      s.fltAction n = 7 ∧ (s.mode.isLead = true ∨ s.mode = .shadow)) :=
  ⟨
    ⟨at_ .lead [(F.FLT_SRC_REACTION 0, 6)], 0, by decide +kernel⟩,
    ⟨at_ .selfTest [(F.FLT_SRC_REACTION 255, 6)], 255, by decide +kernel⟩,
    ⟨at_ .lead [(F.FLT_SRC_REACTION 0, 3)], 0, by decide +kernel⟩,
    ⟨at_ .lead [(F.FLT_SRC_REACTION 0, 4)], 0, by decide +kernel⟩,
    ⟨at_ .leadDegraded [(F.FLT_SRC_REACTION 0, 4)], 0, by decide +kernel⟩,
    ⟨at_ .limp [(F.FLT_SRC_REACTION 0, 5)], 0, by decide +kernel⟩,
    ⟨at_ .shadow [(F.FLT_SRC_REACTION 0, 7)], 0, by decide +kernel⟩⟩

theorem test_hyps_FaultCollectorCommands :
    (∃ s : State, ∃ n : Nat, s.sys.phase = .run ∧ n < 256 ∧ n ∉ s.flt.wire ∧ s.Quiet n ∧ s.Quiet 0x1B ∧ s.asserted 0x1B =
      false ∧ n ≠ 0x1B) ∧
    (∃ s : State, ∃ n : Nat, s.sys.phase = .run ∧ n < 256) ∧
    (∃ s : State, ∃ n : Nat, s.sys.phase = .run ∧ n < 256 ∧ n ∈ s.flt.waiting ∧ s.linkHigh n = false ∧ s.asserted n = false ∧
      s.getF (F.FLT_SRC_TRIES n) < 3 ∧ n ∉ s.flt.unitHold) ∧
    (∃ s : State, ∃ n : Nat, s.sys.phase = .run ∧ n < 256 ∧ s.flag (F.FLT_SRC_HELD n) = false ∧ n ∉ s.flt.waiting) ∧
    (∃ s : State, ∃ n : Nat, ∃ w, s.sys.phase = .run ∧ n < 256 ∧ w < 8 ∧ (s.mode = .selfTest ∨ s.mode = .service)) ∧
    (∃ s : State, ∃ n : Nat, ∃ w, s.sys.phase = .run ∧ n < 256 ∧ w < 8 ∧ s.mode ≠ .selfTest ∧ s.mode ≠ .service) ∧
    (∃ s : State, ∃ n : Nat, s.sys.phase = .run ∧ n < 256 ∧ n ∈ s.flt.forced ∧ n ∉ s.flt.level ∧ n ∉ s.flt.wire) :=
  ⟨
    ⟨at_ .join [], 255, by decide +kernel⟩,
    ⟨{ at_ .join [] with flt := { wire := [3] } }, 3, by decide +kernel⟩,
    ⟨{ at_ .join [(F.FLT_SRC_TRIES 3, 2)] with flt := { waiting := [3] } }, 3, by decide +kernel⟩,
    ⟨at_ .join [], 3, by decide +kernel⟩,
    ⟨at_ .service [], 3, 7, by decide +kernel⟩,
    ⟨at_ .join [], 3, 7, by decide +kernel⟩,
    ⟨{ at_ .join [] with flt := { forced := [3] } }, 3, by decide +kernel⟩⟩

theorem test_hyps_SelfTestCommands :
    (∃ s : State, s.sys.phase = .held ∧ s.sys.vsup = true ∧ s.sys.vioUnder = false) ∧
    (∃ s : State, ∃ part1 : Nat, ∃ part2 : Nat, s.sys.phase = .run ∧ s.mode = .selfTest ∧ s.flag F.BST_LBIST_DONE = false ∧
      (part1 = 0 ∨ part2 = 0)) ∧
    (∃ s : State, ∃ part1 : Nat, ∃ part2 : Nat, s.sys.phase = .run ∧ s.mode = .selfTest ∧ s.flag F.BST_LBIST_DONE = false ∧
      (part1 = 0 ∨ part2 = 0)) ∧
    (∃ s : State, ∃ part1 : Nat, ∃ part2 : Nat, s.sys.phase = .run ∧ s.mode = .selfTest ∧ s.flag F.BST_LBIST_DONE = false ∧
      part1 ≠ 0 ∧ part2 ≠ 0 ∧ part2 < 256) ∧
    (∃ s : State, s.sys.phase = .run ∧ s.mode = .selfTest ∧ s.flag F.BST_STATUS_LBIST_PASS = true) :=
  ⟨
    ⟨State.reset, by decide +kernel⟩,
    ⟨at_ .selfTest [], 0, 1, by decide +kernel⟩,
    ⟨at_ .selfTest [], 1, 0, by decide +kernel⟩,
    ⟨at_ .selfTest [], 1, 255, by decide +kernel⟩,
    ⟨at_ .selfTest [(F.BST_STATUS_LBIST_PASS, 1)], by decide +kernel⟩⟩

theorem test_hyps_RollingTest :
    (∃ s : State, ∃ n, s.sys.phase = .run ∧ n < 64 ∧ s.mode.runs = true ∧ s.flag F.BST_CFG_ROLL_EN = true ∧ s.flu.cycle %
      16000 = (if n < 32 then 500 * n else 500 * (n - 32) + 250) ∧ s.flag (F.SYS_HALF_ROLLING_BIST (n / 32)) = false ∧ bit
      (s.getF (F.SYS_CLUSTER_HOB_IN_SERVICE (n / 8))) (n % 8) = true ∧ n ∉ s.age.rollDue ∧ s.getF (F.HOB_ENGINE_STATE n) ≠ 1) ∧
    (∃ s : State, ∃ n, s.sys.phase = .run ∧ n < 64 ∧ s.mode.runs = true ∧ s.flag F.BST_CFG_ROLL_EN = true ∧ s.flu.cycle %
      16000 = (if n < 32 then 500 * n else 500 * (n - 32) + 250) ∧ s.flag (F.SYS_HALF_ROLLING_BIST (n / 32)) = false ∧ bit
      (s.getF (F.SYS_CLUSTER_HOB_IN_SERVICE (n / 8))) (n % 8) = true ∧ n ∉ s.age.rollDue ∧ s.getF (F.HOB_ENGINE_STATE n) = 1) ∧
    (∃ s : State, ∃ h, ∃ pass1, ∃ pass2, s.sys.phase = .run ∧ h < 2 ∧ s.flag (F.SYS_HALF_ROLLING_BIST h) = true ∧ (pass1 =
      true ∨ pass2 = true)) ∧
    (∃ s : State, ∃ h, s.sys.phase = .run ∧ h < 2 ∧ s.flag (F.SYS_HALF_ROLLING_BIST h) = true ∧ s.Quiet 0xD8 ∧ s.asserted 0xD8
      = false ∧ ((∀ m, m < 64 → m / 8 = s.getF (F.SYS_HALF_ROLLING_HOB h) / 8 → s.getF (F.HOB_ENGINE_STATE m) = 3 → m = s.getF
      (F.SYS_HALF_ROLLING_HOB h)))) :=
  ⟨
    ⟨{ at_ .lead [(F.BST_CFG_ROLL_EN, 1), (F.SYS_CLUSTER_HOB_IN_SERVICE 7, 128), (F.SYS_CLUSTER_HOB_IN_SERVICE 0, 1)] with flu := { cycle := 15750 } },
      63, by decide +kernel⟩,
    ⟨{ at_ .lead [(F.BST_CFG_ROLL_EN, 1), (F.SYS_CLUSTER_HOB_IN_SERVICE 7, 128), (F.SYS_CLUSTER_HOB_IN_SERVICE 0, 1), (F.HOB_ENGINE_STATE 0, 1)] with flu := { cycle := 16000 } },
      0, by decide +kernel⟩,
    ⟨at_ .join [(F.SYS_HALF_ROLLING_BIST 1, 1), (F.SYS_HALF_ROLLING_HOB 1, 63)], 1, false, true, by decide +kernel⟩,
    ⟨at_ .join [(F.SYS_HALF_ROLLING_BIST 1, 1), (F.SYS_HALF_ROLLING_HOB 1, 63), (F.HOB_ENGINE_STATE 63, 3),
      (F.SYS_CLUSTER_HOB_IN_SERVICE 7, 128)], 1, by decide +kernel⟩⟩

theorem test_hyps_AgeingMeasurements :
    (∃ s : State, ∃ ro : List Nat, s.sys.phase = .run ∧ s.mode.runs = true ∧ ((∀ x ∈ ro, x < 65536)) ∧ s.age.settling = true) ∧
    (∃ s : State, ∃ ro : List Nat, s.sys.phase = .run ∧ s.mode.runs = true ∧ ((∀ x ∈ ro, x < 65536)) ∧ s.age.settling = false
      ∧ (s.flag F.AGE_PLAN_EXHAUSTED = true ∨ ¬s.Worn ro 0 ∧ ¬s.Worn ro 1)) ∧
    (∃ s : State, ∃ ro : List Nat, s.sys.phase = .run ∧ s.mode.runs = true ∧ ((∀ x ∈ ro, x < 65536)) ∧ s.age.settling = false
      ∧ (s.flag F.AGE_PLAN_EXHAUSTED = true ∨ ¬s.Worn ro 0 ∧ ¬s.Worn ro 1)) ∧
    (∃ s : State, ∃ ro : List Nat, ∃ h, s.sys.phase = .run ∧ s.mode.runs = true ∧ ((∀ x ∈ ro, x < 65536)) ∧ s.age.settling =
      false ∧ s.flag F.AGE_PLAN_EXHAUSTED = false ∧ h < 2 ∧ s.Worn ro h ∧ ¬s.Worn ro (1 - h) ∧ s.trim h < 6 ∧ s.Quiet 0xDB ∧
      s.asserted 0xDB = false) ∧
    (∃ s : State, ∃ ro : List Nat, ∃ h, s.sys.phase = .run ∧ s.mode.runs = true ∧ ((∀ x ∈ ro, x < 65536)) ∧ s.age.settling =
      false ∧ s.flag F.AGE_PLAN_EXHAUSTED = false ∧ h < 2 ∧ s.Worn ro h ∧ ¬s.Worn ro (1 - h) ∧ s.trim h < 6 ∧ s.Quiet 0xDB ∧
      s.asserted 0xDB = false) ∧
    (∃ s : State, ∃ ro : List Nat, ∃ h, s.sys.phase = .run ∧ s.mode.runs = true ∧ ((∀ x ∈ ro, x < 65536)) ∧ s.age.settling =
      false ∧ s.flag F.AGE_PLAN_EXHAUSTED = false ∧ h < 2 ∧ s.Worn ro h ∧ ¬s.Worn ro (1 - h) ∧ 6 ≤ s.trim h ∧ s.getF
      (F.SYS_HALF_HOB_CLK_STEP 0) < 2 ∧ s.Quiet 0xDB ∧ s.asserted 0xDB = false) ∧
    (∃ s : State, ∃ ro : List Nat, ∃ h, s.sys.phase = .run ∧ s.mode.runs = true ∧ ((∀ x ∈ ro, x < 65536)) ∧ s.age.settling =
      false ∧ s.flag F.AGE_PLAN_EXHAUSTED = false ∧ h < 2 ∧ s.Worn ro h ∧ ¬s.Worn ro (1 - h) ∧ 6 ≤ s.trim h ∧ 2 ≤ s.getF
      (F.SYS_HALF_HOB_CLK_STEP 0)) ∧
    (∃ s : State, ∃ ro : List Nat, s.sys.phase = .run ∧ s.mode.runs = true ∧ ((∀ x ∈ ro, x < 65536))) ∧
    (∃ s : State, ∃ b, ∃ v, s.sys.phase = .run ∧ s.Quiet 0xDA ∧ b < 3 ∧ s.getF (F.MOT_STATUS_STATE b) = 0 ∧
      s.otp.baseBoard.isSome = true ∧ v < 2 ^ 31 ∧ ((∀ k, k < 3 → ((s.getF (F.MOT_ZERO_CODE_CODE k) : Int) - s.boardBase (27 +
      k)).natAbs ≤ v)) ∧ ((∃ k, k < 3 ∧ ((s.getF (F.MOT_ZERO_CODE_CODE k) : Int) - s.boardBase (27 + k)).natAbs = v))) ∧
    (∃ s : State, ∃ x : Nat × Int, s.sys.phase = .run ∧ s.Quiet 0xDA ∧ (outOfRange x.2 = true ∨ ((adcCode x.2 : Int) -
      8192).natAbs < 4096 ∨ 8192 < ((adcCode x.2 : Int) - 8192).natAbs)) ∧
    (∃ s : State, ∃ x : Nat × Int, s.sys.phase = .run ∧ s.Quiet 0xDA ∧ (outOfRange x.2 = true ∨ ((adcCode x.2 : Int) -
      8192).natAbs < 4096 ∨ 8192 < ((adcCode x.2 : Int) - 8192).natAbs)) ∧
    (∃ s : State, ∃ b, ∃ fets : List (Option (Nat × Int)), s.sys.phase = .run ∧ s.Quiet 0xDA ∧ ((∀ p, p < 3 → (fets.getD p
      none).bind (s.rdsOn b) = none))) ∧
    (∃ s : State, ∃ b, ∃ x0 : Nat × Int, ∃ x1 : Nat × Int, ∃ x2 : Nat × Int, ∃ r0, ∃ r1, ∃ r2, s.sys.phase = .run ∧ s.Quiet
      0xDA ∧ b < 3 ∧ s.getF (F.MOT_STATUS_STATE b) = 1 ∧ s.ember.fetFirst.length = 9 ∧ s.ember.vdsOn.length = 3 ∧ s.rdsOn b x0
      = some r0 ∧ s.rdsOn b x1 = some r1 ∧ s.rdsOn b x2 = some r2 ∧ ((∀ p, p < 3 → s.otp.baseFet.getD (3 * b + p) 0 = 0))) ∧
    (∃ s : State, ∃ b, ∃ x0 : Nat × Int, ∃ x1 : Nat × Int, ∃ x2 : Nat × Int, ∃ r0, ∃ r1, ∃ r2, s.sys.phase = .run ∧ s.Quiet
      0xDA ∧ b < 3 ∧ s.getF (F.MOT_STATUS_STATE b) = 1 ∧ s.ember.fetFirst.length = 9 ∧ s.ember.vdsOn.length = 3 ∧ s.rdsOn b x0
      = some r0 ∧ s.rdsOn b x1 = some r1 ∧ s.rdsOn b x2 = some r2 ∧ ((∀ p, p < 3 → s.otp.baseFet.getD (3 * b + p) 0 ≠ 0))) ∧
    (∃ s : State, s.sys.phase = .run ∧ s.Quiet 0xDA ∧ s.ppsRuns = false) ∧
    (∃ s : State, ∃ dev : Int, s.sys.phase = .run ∧ s.Quiet 0xDA ∧ s.ppsRuns = true ∧ -2 ^ 31 ≤ dev ∧ dev < 2 ^ 31) ∧
    (∃ s : State, ∃ dev : Int, s.sys.phase = .run ∧ s.Quiet 0xDA ∧ s.ppsRuns = true ∧ -2 ^ 31 ≤ dev ∧ dev < 2 ^ 31) :=
  ⟨
    ⟨{ at_ .lead [] with age := { settling := true } }, [65535], by decide +kernel⟩,
    ⟨{ at_ .lead [] with otp := { baseRo := List.replicate 32 1000000 } }, List.replicate 32 9800, by decide +kernel⟩,
    ⟨{ at_ .lead [(F.FLT_SRC_REACTION 0xDB, 0), (F.AGE_PLAN_EXHAUSTED, 1)] with otp := { baseRo := List.replicate 32 1000000 } },
      List.replicate 32 9799, by decide +kernel⟩,
    ⟨{ at_ .lead [(F.FLT_SRC_REACTION 0xDB, 0), (F.AGE_PLAN_EXHAUSTED, 0)] with otp := { baseRo := List.replicate 32 1000000 } },
      List.replicate 16 9799 ++ List.replicate 16 10000, 0, by decide +kernel⟩,
    ⟨{ at_ .lead [(F.FLT_SRC_REACTION 0xDB, 0), (F.AGE_PLAN_EXHAUSTED, 0)] with otp := { baseRo := List.replicate 32 1000000 } },
      List.replicate 16 10000 ++ List.replicate 16 9799, 1, by decide +kernel⟩,
    ⟨{ at_ .lead [(F.FLT_SRC_REACTION 0xDB, 0), (F.AGE_PLAN_EXHAUSTED, 0), (F.SYS_HALF_CORE_TRIM 0, 6), (F.SYS_HALF_CORE_TRIM 1, 6)] with otp := { baseRo := List.replicate 32 1000000 } },
      List.replicate 16 10000 ++ List.replicate 16 9000, 1, by decide +kernel⟩,
    ⟨{ at_ .lead [(F.FLT_SRC_REACTION 0xDB, 0), (F.AGE_PLAN_EXHAUSTED, 0), (F.SYS_HALF_CORE_TRIM 0, 6), (F.SYS_HALF_CORE_TRIM 1, 6), (F.SYS_HALF_HOB_CLK_STEP 0, 2), (F.SYS_HALF_HOB_CLK_STEP 1, 2)] with otp := { baseRo := List.replicate 32 1000000 } },
      List.replicate 16 8000 ++ List.replicate 16 10000, 0, by decide +kernel⟩,
    ⟨{ at_ .lead [] with age := { settling := true } }, [], by decide +kernel⟩,
    ⟨{ at_ .join [(F.MOT_ZERO_CODE_CODE 2, 16383)] with otp := { baseBoard := some (List.replicate 30 4000) } }, 2, 12383,
      by decide +kernel⟩,
    ⟨at_ .join [], (0, 3015001), by decide +kernel⟩,
    ⟨at_ .join [], (0, 1500000), by decide +kernel⟩,
    ⟨at_ .join [(F.MOT_STATUS_STATE 2, 1)], 2, [none], by decide +kernel⟩,
    ⟨at_ .join [(F.MOT_STATUS_STATE 2, 1), (F.MOT_SHUNT_SCALE_SCALE 2, 0x3C23D70A)], 2, (100000, 2500000), (100000, 2500000),
      (100000, 2500000), ((at_ .join [(F.MOT_STATUS_STATE 2, 1), (F.MOT_SHUNT_SCALE_SCALE 2, 0x3C23D70A)]).rdsOn 2 (100000,
      2500000)).getD 0, ((at_ .join [(F.MOT_STATUS_STATE 2, 1), (F.MOT_SHUNT_SCALE_SCALE 2, 0x3C23D70A)]).rdsOn 2 (100000,
      2500000)).getD 0, ((at_ .join [(F.MOT_STATUS_STATE 2, 1), (F.MOT_SHUNT_SCALE_SCALE 2, 0x3C23D70A)]).rdsOn 2 (100000,
      2500000)).getD 0, by decide +kernel⟩,
    ⟨{ at_ .join [(F.MOT_STATUS_STATE 2, 1), (F.MOT_SHUNT_SCALE_SCALE 2, 0x3C23D70A)] with otp := { baseFet := List.replicate 9 1000 } },
      2, (100000, 2500000), (100000, 2500000), (100000, 2500000),
      (({ at_ .join [(F.MOT_STATUS_STATE 2, 1), (F.MOT_SHUNT_SCALE_SCALE 2, 0x3C23D70A)] with otp := { baseFet := List.replicate 9 1000 } }).rdsOn
      2 (100000, 2500000)).getD 0,
      (({ at_ .join [(F.MOT_STATUS_STATE 2, 1), (F.MOT_SHUNT_SCALE_SCALE 2, 0x3C23D70A)] with otp := { baseFet := List.replicate 9 1000 } }).rdsOn
      2 (100000, 2500000)).getD 0,
      (({ at_ .join [(F.MOT_STATUS_STATE 2, 1), (F.MOT_SHUNT_SCALE_SCALE 2, 0x3C23D70A)] with otp := { baseFet := List.replicate 9 1000 } }).rdsOn
      2 (100000, 2500000)).getD 0, by decide +kernel⟩,
    ⟨at_ .join [], by decide +kernel⟩,
    ⟨{ at_ .join [(F.FLU_NODE_SYNC, 1), (F.CLK_PPS_LOST, 0)] with img := { flue := { ppsEn := true } } }, -2147483648,
      by decide +kernel⟩,
    ⟨{ at_ .join [(F.FLU_NODE_SYNC, 1), (F.CLK_PPS_LOST, 0)] with img := { flue := { ppsEn := true } } }, 2147483647,
      by decide +kernel⟩⟩

theorem test_hyps_AshAppend :
    (∃ s : State, ∃ r : AshReq, ∃ rest : List AshReq, (s.sys.phase = .run ∨ s.sys.phase = .holdup) ∧ s.ash.queue = r :: rest ∧
      1 ≤ r.type ∧ r.type ≤ 7 ∧ s.otp.lifecycle ≠ 4 ∧ s.flag F.ASH_STATUS_FOREIGN = false ∧ s.flag F.ASH_STATUS_PRESENT = true
      ∧ s.flag F.ASH_STATUS_STOPPED = false ∧ s.ash.withhold = false ∧ s.ashFits r = true ∧ 0x1000 ≤ s.getF F.ASH_TAIL_ADDR) ∧
    (∃ s : State, ∃ r : AshReq, ∃ rest : List AshReq, (s.sys.phase = .run ∨ s.sys.phase = .holdup) ∧ s.ash.queue = r :: rest ∧
      1 ≤ r.type ∧ r.type ≤ 7 ∧ s.otp.lifecycle ≠ 4 ∧ s.flag F.ASH_STATUS_FOREIGN = false ∧ s.flag F.ASH_STATUS_PRESENT = true
      ∧ s.flag F.ASH_STATUS_STOPPED = false ∧ s.ash.withhold = false ∧ s.ashFits r = true ∧ 0x1000 ≤ s.getF F.ASH_TAIL_ADDR) ∧
    (∃ s : State, ∃ r : AshReq, ∃ rest : List AshReq, ∃ ok1, (s.sys.phase = .run ∨ s.sys.phase = .holdup) ∧ s.ash.queue = r ::
      rest ∧ 1 ≤ r.type ∧ r.type ≤ 7 ∧ s.otp.lifecycle ≠ 4 ∧ s.flag F.ASH_STATUS_FOREIGN = false ∧ s.flag F.ASH_STATUS_PRESENT
      = true ∧ s.flag F.ASH_STATUS_STOPPED = false ∧ (ok1 = false ∨ s.ash.withhold = true) ∧ 0x1000 ≤ s.getF F.ASH_TAIL_ADDR ∧
      s.getF F.ASH_TAIL_ADDR + 2 * r.size ≤ ashLimit (s.getF F.ASH_SIZE_BYTES) r.type) ∧
    (∃ s : State, ∃ r : AshReq, ∃ rest : List AshReq, ∃ ok1, (s.sys.phase = .run ∨ s.sys.phase = .holdup) ∧ s.ash.queue = r ::
      rest ∧ 1 ≤ r.type ∧ r.type ≤ 7 ∧ s.otp.lifecycle ≠ 4 ∧ s.flag F.ASH_STATUS_FOREIGN = false ∧ s.flag F.ASH_STATUS_PRESENT
      = true ∧ s.flag F.ASH_STATUS_STOPPED = false ∧ (ok1 = false ∨ s.ash.withhold = true) ∧ 0x1000 ≤ s.getF F.ASH_TAIL_ADDR ∧
      s.getF F.ASH_TAIL_ADDR + 2 * r.size ≤ ashLimit (s.getF F.ASH_SIZE_BYTES) r.type) ∧
    (∃ s : State, ∃ r : AshReq, ∃ rest : List AshReq, ∃ ok1, (s.sys.phase = .run ∨ s.sys.phase = .holdup) ∧ s.ash.queue = r ::
      rest ∧ 1 ≤ r.type ∧ r.type ≤ 7 ∧ s.otp.lifecycle ≠ 4 ∧ s.flag F.ASH_STATUS_FOREIGN = false ∧ s.flag F.ASH_STATUS_PRESENT
      = true ∧ s.flag F.ASH_STATUS_STOPPED = false ∧ (ok1 = false ∨ s.ash.withhold = true) ∧ 0x1000 ≤ s.getF F.ASH_TAIL_ADDR ∧
      s.getF F.ASH_TAIL_ADDR + 2 * r.size ≤ ashLimit (s.getF F.ASH_SIZE_BYTES) r.type ∧ s.ash.failRaised = false ∧ s.Quiet
      0xD5 ∧ s.asserted 0xD5 = false) ∧
    (∃ s : State, ∃ r : AshReq, ∃ rest : List AshReq, (s.sys.phase = .run ∨ s.sys.phase = .holdup) ∧ s.ash.queue = r :: rest ∧
      1 ≤ r.type ∧ r.type ≤ 7 ∧ s.otp.lifecycle ≠ 4 ∧ s.flag F.ASH_STATUS_FOREIGN = false ∧ s.flag F.ASH_STATUS_PRESENT = true
      ∧ s.flag F.ASH_STATUS_STOPPED = false ∧ s.ashFits r = false ∧ r.type ≠ 3 ∧ s.Quiet 0xD6 ∧ s.asserted 0xD6 = false) ∧
    (∃ s : State, ∃ r : AshReq, ∃ rest : List AshReq, (s.sys.phase = .run ∨ s.sys.phase = .holdup) ∧ s.ash.queue = r :: rest ∧
      1 ≤ r.type ∧ r.type ≤ 7 ∧ s.otp.lifecycle ≠ 4 ∧ s.flag F.ASH_STATUS_FOREIGN = false ∧ s.flag F.ASH_STATUS_PRESENT = true
      ∧ s.flag F.ASH_STATUS_STOPPED = false ∧ s.ashFits r = false ∧ r.type = 3) :=
  ⟨
    ⟨{ at_ .join [(F.ASH_STATUS_PRESENT, 1), (F.ASH_SIZE_BYTES, 0x200000), (F.ASH_TAIL_ADDR, 0x1000)] with ash := { queue := [{ type := 2, flags := 0, body := [1, 2], tick := 0, time := 0 }] }, sys := { phase := .run } },
      { type := 2, flags := 0, body := [1, 2], tick := 0, time := 0 }, [], by decide +kernel⟩,
    ⟨{ at_ .join [(F.ASH_STATUS_PRESENT, 1), (F.ASH_SIZE_BYTES, 0x200000), (F.ASH_TAIL_ADDR, 0x1FEFD6)] with ash := { queue := [{ type := 7, flags := 0, body := [1, 2], tick := 0, time := 0 }] }, sys := { phase := .holdup } },
      { type := 7, flags := 0, body := [1, 2], tick := 0, time := 0 }, [], by decide +kernel⟩,
    ⟨{ at_ .join [(F.ASH_STATUS_PRESENT, 1), (F.ASH_SIZE_BYTES, 0x200000), (F.ASH_TAIL_ADDR, 0x1FEFAC)] with ash := { queue := [{ type := 2, flags := 0, body := [1, 2], tick := 0, time := 0 }] }, sys := { phase := .run } },
      { type := 2, flags := 0, body := [1, 2], tick := 0, time := 0 }, [], false, by decide +kernel⟩,
    ⟨{ at_ .join [(F.ASH_STATUS_PRESENT, 1), (F.ASH_SIZE_BYTES, 0x200000), (F.ASH_TAIL_ADDR, 0x1000)] with ash := { queue := [{ type := 7, flags := 0, body := [1, 2], tick := 0, time := 0 }], withhold := true }, sys := { phase := .run } },
      { type := 7, flags := 0, body := [1, 2], tick := 0, time := 0 }, [], true, by decide +kernel⟩,
    ⟨{ at_ .join [(F.ASH_STATUS_PRESENT, 1), (F.ASH_SIZE_BYTES, 0x200000), (F.ASH_TAIL_ADDR, 0x1000)] with ash := { queue := [{ type := 2, flags := 0, body := [1, 2], tick := 0, time := 0 }] }, sys := { phase := .run } },
      { type := 2, flags := 0, body := [1, 2], tick := 0, time := 0 }, [], false, by decide +kernel⟩,
    ⟨{ at_ .join [(F.ASH_STATUS_PRESENT, 1), (F.ASH_SIZE_BYTES, 0x200000), (F.ASH_TAIL_ADDR, 0x1FEFD7)] with ash := { queue := [{ type := 2, flags := 0, body := [1, 2], tick := 0, time := 0 }] }, sys := { phase := .run } },
      { type := 2, flags := 0, body := [1, 2], tick := 0, time := 0 }, [], by decide +kernel⟩,
    ⟨{ at_ .join [(F.ASH_STATUS_PRESENT, 1), (F.ASH_SIZE_BYTES, 0x200000), (F.ASH_TAIL_ADDR, 0x1FFFD7)] with ash := { queue := [{ type := 3, flags := 0, body := [1, 2], tick := 0, time := 0 }], lcTarget := some 2 }, sys := { phase := .run } },
      { type := 3, flags := 0, body := [1, 2], tick := 0, time := 0 }, [], by decide +kernel⟩⟩

theorem test_hyps_JournalCommands :
    (∃ s : State, ∃ sc, s.sys.phase = .run ∧ s.gr.s = some sc ∧ s.flag F.JRN_STATUS_RECORDING = true ∧ s.gr.boundary = true ∧
      s.flu.cycle % 64 = 0 ∧ ((∀ x ∈ s.jrn.items, x.ckpt = true → x.s ≠ sc))) ∧
    (∃ s : State, s.sys.phase = .run ∧ s.jrn.post = some 0 ∧ s.flag F.JRN_STATUS_FROZEN = false) :=
  ⟨
    ⟨{ at_ .lead [(F.JRN_STATUS_RECORDING, 1)] with gr := { s := some 64, boundary := true }, flu := { cycle := 64 } }, 64,
      by decide +kernel⟩,
    ⟨{ at_ .lead [] with jrn := { post := some 0, trig := some ⟨1, 2, 3⟩ } }, by decide +kernel⟩⟩

theorem test_hyps_HoldUp :
    (∃ s : State, ∃ mv : Nat, s.sys.phase = .run ∧ mv < 65536 ∧ 4500 ≤ mv ∧ s.Quiet 0xD7) ∧
    (∃ s : State, ∃ mv : Nat, s.sys.phase = .run ∧ mv < 65536 ∧ 4500 ≤ mv ∧ s.Quiet 0xD7) ∧
    (∃ s : State, s.sys.vsup = true ∧ s.ember.vbat = true ∧ s.sys.phase = .run) ∧
    (∃ s : State, s.sys.phase = .holdup) :=
  ⟨
    ⟨at_ .join [], 4500, by decide +kernel⟩,
    ⟨at_ .join [], 65535, by decide +kernel⟩,
    ⟨at_ .join [], by decide +kernel⟩,
    ⟨{ State.reset with sys := { phase := .holdup } }, by decide +kernel⟩⟩

theorem test_hyps_FlueTime :
    (∃ s : State, s.sys.phase = .run ∧ s.mode.sends = true ∧ s.flag F.FLU_NODE_KINDLING = true ∧ s.flu.integ = .listen ∧
      s.flu.rx = [] ∧ s.img.flue.init < 8 ∧ s.flu.ppsE = none) ∧
    (∃ s : State, ∃ e, s.sys.phase = .run ∧ s.mode.sends = true ∧ s.flag F.FLU_NODE_KINDLING = true ∧ s.flu.integ = .listen ∧
      s.flu.rx = [] ∧ s.img.flue.init < 8 ∧ s.flu.ppsE = some e ∧ s.img.flue.ppsEn = true ∧ s.flag F.FLU_NODE_SYNC = true) ∧
    (∃ s : State, s.sys.phase = .run ∧ (s.flu.integ = .kindleDue ∨ ∃ k p, s.flu.integ = .kindle k p)) ∧
    (∃ s : State, s.sys.phase = .run ∧ s.flu.cycle % 16 ≠ 0) ∧
    (∃ s : State, ∃ r : Int, s.sys.phase = .run ∧ s.flu.cycle % 16 = 0 ∧ r = (s.reg F.FLU_RATE_CORR_RATE.addr).toInt + 25 *
      s.flu.sumM ∧ -50000 ≤ r ∧ r ≤ 50000) ∧
    (∃ s : State, ∃ r : Int, s.sys.phase = .run ∧ s.flu.cycle % 16 = 0 ∧ r = (s.reg F.FLU_RATE_CORR_RATE.addr).toInt + 25 *
      s.flu.sumM ∧ -50000 ≤ r ∧ r ≤ 50000) ∧
    (∃ s : State, ∃ r : Int, s.sys.phase = .run ∧ s.flu.cycle % 16 = 0 ∧ r = (s.reg F.FLU_RATE_CORR_RATE.addr).toInt + 25 *
      s.flu.sumM ∧ (r < -50000 ∨ 50000 < r) ∧ s.Quiet 0xA6 ∧ s.asserted 0xA6 = false) ∧
    (∃ s : State, s.sys.phase = .run ∧ s.img.flue.ppsEn = true ∧ s.flag F.FLU_NODE_SYNC = true) ∧
    (∃ s : State, s.sys.phase = .run ∧ s.img.flue.ppsEn = true ∧ s.flag F.FLU_NODE_SYNC = true) ∧
    (∃ s : State, s.sys.phase = .run ∧ s.img.flue.ppsEn = true ∧ s.flag F.FLU_NODE_SYNC = true ∧ s.Quiet 0xD4 ∧ s.asserted
      0xD4 = false) :=
  ⟨
    ⟨{ at_ .join [(F.FLU_NODE_KINDLING, 1), (F.FLU_NODE_SYNC, 1)] with flu := { integ := .listen } }, by decide +kernel⟩,
    ⟨{ at_ .join [(F.FLU_NODE_KINDLING, 1), (F.FLU_NODE_SYNC, 1)] with flu := { integ := .listen, ppsE := some (-3) }, img := { flue := { ppsEn := true } } },
      -3, by decide +kernel⟩,
    ⟨{ at_ .join [] with flu := { integ := .kindle 3 true } }, by decide +kernel, .inr ⟨3, true, rfl⟩⟩,
    ⟨{ at_ .join [] with flu := { integ := .listen, cycle := 17, sumM := 5 } }, by decide +kernel⟩,
    ⟨{ at_ .join [] with flu := { integ := .synced, cycle := 16, sumM := 2000 } }, 50000, by decide +kernel⟩,
    ⟨{ at_ .join [] with flu := { integ := .listen, cycle := 16, sumM := -2000 } }, -50000, by decide +kernel⟩,
    ⟨{ at_ .join [] with flu := { integ := .synced, cycle := 16, sumM := 2001 } }, 50025, by decide +kernel⟩,
    ⟨{ at_ .join [(F.FLU_NODE_SYNC, 1)] with img := { flue := { ppsEn := true } } }, by decide +kernel⟩,
    ⟨{ at_ .join [(F.FLU_NODE_SYNC, 1)] with img := { flue := { ppsEn := true, falling := true } } }, by decide +kernel⟩,
    ⟨{ at_ .join [(F.FLU_NODE_SYNC, 1)] with img := { flue := { ppsEn := true } } }, by decide +kernel⟩⟩

theorem test_hyps_FluePorts :
    (∃ s : State, ∃ ring : Nat, s.sys.phase = .run ∧ ring < 2) ∧
    (∃ s : State, ∃ ring : Nat, s.sys.phase = .run ∧ ring < 2 ∧ s.Quiet (0xA2 + ring) ∧ s.asserted (0xA2 + ring) = false) ∧
    (∃ s : State, ∃ ring : Nat, s.sys.phase = .run ∧ ring < 2 ∧ s.flag (ringLock ring) = true ∧ s.domState 17 = 2 ∧
      s.sys.vioLow = false) ∧
    (∃ s : State, ∃ ring : Nat, s.sys.phase = .run ∧ ring < 2 ∧ (s.sys.vioLow = true ∨ s.mode = .load ∧ s.flag (ringLock ring)
      = false)) ∧
    (∃ s : State, ∃ ring : Nat, s.sys.phase = .run ∧ ring < 2 ∧ (s.sys.vioLow = true ∨ s.mode = .load ∧ s.flag (ringLock ring)
      = false)) ∧
    (∃ s : State, ∃ ring : Nat, ∃ ns, s.sys.phase = .run ∧ ring < 2 ∧ ns ≤ 125) ∧
    (∃ s : State, ∃ ring : Nat, ∃ ns, s.sys.phase = .run ∧ ring < 2 ∧ 125 < ns ∧ s.Quiet 0xA5 ∧ s.asserted 0xA5 = false) :=
  ⟨
    ⟨at_ .join [], 1, by decide +kernel⟩,
    ⟨at_ .join [], 1, by decide +kernel⟩,
    ⟨at_ .join [(ringLock 1, 1), (F.PWR_DOM_STAT_STATE 17, 2)], 1, by decide +kernel⟩,
    ⟨{ at_ .join [] with sys := { phase := .run, vioLow := true } }, 0, by decide +kernel⟩,
    ⟨at_ .load [], 1, by decide +kernel⟩,
    ⟨at_ .join [], 0, 125, by decide +kernel⟩,
    ⟨at_ .join [], 0, 126, by decide +kernel⟩⟩

theorem test_hyps_FlueFrameReceive :
    (∃ s : State, ∃ f : RawFrame, s.sys.phase = .run ∧ f.ring < 2 ∧ s.flag (ringEn f.ring) = true ∧ s.flag (ringLock f.ring) =
      true ∧ f.codeErrs = 0 ∧ f.inserting = false ∧ (Hdr.parse f.header).node ≠ s.nodeId ∧ s.flag (ringBypass f.ring) = false
      ∧ (f.ring, (Hdr.parse f.header).slot, (Hdr.parse f.header).cycle) ∉ s.flu.seen ∧ hcrcOk f.header = true ∧ f.eof = true ∧
      f.crc = crc32c (f.header ++ f.payload) ∧ f.payload.length = (Hdr.parse f.header).len ∧ f.hopsInv = 255 - f.hops % 256 ∧
      s.flu.integ = .synced ∧ (Hdr.parse f.header).cycle = s.flu.cycle % 65536 ∧ (Hdr.parse f.header).ptype ≠ 1 ∧ -(s.getF
      F.FLU_CFG_PRECISION : Int) ≤ s.frameDev f (Hdr.parse f.header) f.hops ∧ s.frameDev f (Hdr.parse f.header) f.hops ≤
      s.getF F.FLU_CFG_PRECISION) ∧
    (∃ s : State, ∃ f : RawFrame, s.sys.phase = .run ∧ f.ring < 2 ∧ s.flag (ringEn f.ring) = true ∧ s.flag (ringLock f.ring) =
      true ∧ f.codeErrs = 0 ∧ f.inserting = false ∧ (Hdr.parse f.header).node ≠ s.nodeId ∧ s.flag (ringBypass f.ring) = false
      ∧ (f.ring, (Hdr.parse f.header).slot, (Hdr.parse f.header).cycle) ∉ s.flu.seen ∧ hcrcOk f.header = true ∧ f.eof = true ∧
      f.crc = crc32c (f.header ++ f.payload) ∧ f.payload.length = (Hdr.parse f.header).len ∧ f.hopsInv = 255 - f.hops % 256 ∧
      s.flu.integ = .synced ∧ (Hdr.parse f.header).cycle = s.flu.cycle % 65536 ∧ (Hdr.parse f.header).ptype ≠ 1 ∧ -(s.getF
      F.FLU_CFG_PRECISION : Int) ≤ s.frameDev f (Hdr.parse f.header) f.hops ∧ s.frameDev f (Hdr.parse f.header) f.hops ≤
      s.getF F.FLU_CFG_PRECISION) ∧
    (∃ s : State, ∃ f : RawFrame, s.sys.phase = .run ∧ f.ring < 2 ∧ s.flag (ringEn f.ring) = true ∧ s.flag (ringLock f.ring) =
      true ∧ f.codeErrs = 0 ∧ f.inserting = false ∧ (Hdr.parse f.header).node ≠ s.nodeId ∧ s.flag (ringBypass f.ring) = false
      ∧ (f.ring, (Hdr.parse f.header).slot, (Hdr.parse f.header).cycle) ∉ s.flu.seen ∧ hcrcOk f.header = false) ∧
    (∃ s : State, ∃ f : RawFrame, s.sys.phase = .run ∧ f.ring < 2 ∧ s.flag (ringEn f.ring) = true ∧ s.flag (ringLock f.ring) =
      true ∧ f.codeErrs = 0 ∧ f.inserting = false ∧ (Hdr.parse f.header).node ≠ s.nodeId ∧ s.flag (ringBypass f.ring) = false
      ∧ (f.ring, (Hdr.parse f.header).slot, (Hdr.parse f.header).cycle) ∈ s.flu.seen) :=
  ⟨
    ⟨{ at_ .join [(ringEn 0, 1), (ringLock 0, 1), (ringBypass 0, 0), (F.FLU_CFG_PRECISION, 200)] with flu := { integ := .synced } },
      { ring := 0, header := ([0, 0, 0, 1, 0, 0, 0, 0, 0, 0] ++ leBytes 2 (crc16 [0, 0, 0, 1, 0, 0, 0, 0, 0, 0])), payload := [], crc := crc32c ([0, 0, 0, 1, 0, 0, 0, 0, 0, 0] ++ leBytes 2 (crc16 [0, 0, 0, 1, 0, 0, 0, 0, 0, 0])), eof := true, hops := 0, hopsInv := 255, tRx := 450, inserting := false, codeErrs := 0 },
      by decide +kernel⟩,
    ⟨{ at_ .join [(ringEn 0, 1), (ringLock 0, 1), (ringBypass 0, 0), (F.FLU_CFG_PRECISION, 200)] with flu := { integ := .synced } },
      { ring := 0, header := ([0, 0, 0, 1, 0, 0, 0, 0, 0, 0] ++ leBytes 2 (crc16 [0, 0, 0, 1, 0, 0, 0, 0, 0, 0])), payload := [], crc := crc32c ([0, 0, 0, 1, 0, 0, 0, 0, 0, 0] ++ leBytes 2 (crc16 [0, 0, 0, 1, 0, 0, 0, 0, 0, 0])), eof := true, hops := 0, hopsInv := 255, tRx := 50, inserting := false, codeErrs := 0 },
      by decide +kernel⟩,
    ⟨{ at_ .join [(ringEn 0, 1), (ringLock 0, 1), (ringBypass 0, 0), (F.FLU_CFG_PRECISION, 200)] with flu := { integ := .synced } },
      { ring := 0, header := ([0, 0, 0, 1, 0, 0, 0, 0, 0, 0] ++ [0, 0]), payload := [], crc := crc32c ([0, 0, 0, 1, 0, 0, 0, 0, 0, 0] ++ [0, 0]), eof := true, hops := 0, hopsInv := 255, tRx := 250, inserting := false, codeErrs := 0 },
      by decide +kernel⟩,
    ⟨{ at_ .join [(ringEn 0, 1), (ringLock 0, 1), (ringBypass 0, 0), (F.FLU_CFG_PRECISION, 200)] with flu := { seen := [(0, 0, 0)] } },
      { ring := 0, header := ([0, 0, 0, 1, 0, 0, 0, 0, 0, 0] ++ leBytes 2 (crc16 [0, 0, 0, 1, 0, 0, 0, 0, 0, 0])), payload := [], crc := crc32c ([0, 0, 0, 1, 0, 0, 0, 0, 0, 0] ++ leBytes 2 (crc16 [0, 0, 0, 1, 0, 0, 0, 0, 0, 0])), eof := true, hops := 0, hopsInv := 255, tRx := 250, inserting := false, codeErrs := 0 },
      by decide +kernel⟩⟩

theorem test_hyps_FrameTransmit :
    (∃ s : State, ∃ h : Hdr, ∃ p : List Byte, ∃ dev : Int, ∃ fin : Int, s.sys.phase = .run ∧ s.flu.withhold = false ∧
      s.flu.out.find? (fun x => decide (x.1.slot = h.slot)) = some (h, p) ∧ -125 ≤ dev ∧ dev ≤ 125 ∧ s.flag
      F.FLU_STATUS_DAMPER_OPEN_OK = true ∧ s.flag F.FLU_DAMPER_CLOSED = false ∧ ((h.slot < 48 → fin ≤ 8 * (20 + ((s.slots.getD
      h.slot {}).len : Int)) + 125)) ∧ ((48 ≤ h.slot → fin ≤ 250 * (s.getF F.FLU_DYN_GRANT_LEN : Int) - 375))) ∧
    (∃ s : State, ∃ h : Hdr, ∃ p : List Byte, ∃ dev : Int, ∃ fin : Int, s.sys.phase = .run ∧ s.flu.withhold = false ∧
      s.flu.out.find? (fun x => decide (x.1.slot = h.slot)) = some (h, p) ∧ -125 ≤ dev ∧ dev ≤ 125 ∧ s.flag
      F.FLU_STATUS_DAMPER_OPEN_OK = true ∧ s.flag F.FLU_DAMPER_CLOSED = false ∧ ((h.slot < 48 → fin ≤ 8 * (20 + ((s.slots.getD
      h.slot {}).len : Int)) + 125)) ∧ ((48 ≤ h.slot → fin ≤ 250 * (s.getF F.FLU_DYN_GRANT_LEN : Int) - 375))) ∧
    (∃ s : State, ∃ h : Hdr, ∃ p : List Byte, ∃ dev : Int, ∃ fin : Int, s.sys.phase = .run ∧ s.flu.withhold = false ∧
      s.flu.out.find? (fun x => decide (x.1.slot = h.slot)) = some (h, p) ∧ -125 ≤ dev ∧ dev ≤ 125 ∧ s.flag
      F.FLU_STATUS_DAMPER_OPEN_OK = true ∧ s.flag F.FLU_DAMPER_CLOSED = false ∧ h.slot < 48 ∧ 8 * (20 + ((s.slots.getD h.slot
      {}).len : Int)) + 125 < fin ∧ s.Quiet 0xA4 ∧ s.asserted 0xA4 = false) ∧
    (∃ s : State, ∃ h : Hdr, ∃ p : List Byte, ∃ dev : Int, s.sys.phase = .run ∧ s.flu.withhold = false ∧ s.flu.out.find? (fun
      x => decide (x.1.slot = h.slot)) = some (h, p) ∧ (dev < -125 ∨ 125 < dev ∨ s.flag F.FLU_STATUS_DAMPER_OPEN_OK = false ∨
      s.flag F.FLU_DAMPER_CLOSED = true) ∧ s.Quiet 0xA4 ∧ s.asserted 0xA4 = false) ∧
    (∃ s : State, ∃ h : Hdr, ∃ p : List Byte, ∃ dev : Int, s.sys.phase = .run ∧ s.flu.withhold = false ∧ s.flu.out.find? (fun
      x => decide (x.1.slot = h.slot)) = some (h, p) ∧ (dev < -125 ∨ 125 < dev ∨ s.flag F.FLU_STATUS_DAMPER_OPEN_OK = false ∨
      s.flag F.FLU_DAMPER_CLOSED = true) ∧ s.Quiet 0xA4 ∧ s.asserted 0xA4 = false) :=
  ⟨
    ⟨{ at_ .join [(F.FLU_STATUS_DAMPER_OPEN_OK, 1), (F.FLU_DAMPER_CLOSED, 0), (F.FLU_DYN_GRANT_LEN, 2)] with flu := { out := [({ slot := 159 }, [7])] } },
      { slot := 159 }, [7], -125, 125, by decide +kernel⟩,
    ⟨{ at_ .join [(F.FLU_STATUS_DAMPER_OPEN_OK, 1), (F.FLU_DAMPER_CLOSED, 0)] with flu := { out := [({ slot := 3 }, [])] } },
      { slot := 3 }, [], 125, 285, by decide +kernel⟩,
    ⟨{ at_ .join [(F.FLU_STATUS_DAMPER_OPEN_OK, 1), (F.FLU_DAMPER_CLOSED, 0)] with flu := { out := [({ slot := 3 }, [7])] } },
      { slot := 3 }, [7], 0, 286, by decide +kernel⟩,
    ⟨{ at_ .join [(F.FLU_STATUS_DAMPER_OPEN_OK, 1), (F.FLU_DAMPER_CLOSED, 0)] with flu := { out := [({ slot := 159 }, [7])] } },
      { slot := 159 }, [7], 126, by decide +kernel⟩,
    ⟨{ at_ .join [(F.FLU_STATUS_DAMPER_OPEN_OK, 1), (F.FLU_DAMPER_CLOSED, 1)] with flu := { out := [({ slot := 159 }, [7])] } },
      { slot := 159 }, [7], 0, by decide +kernel⟩⟩

theorem test_hyps_TicksAndCycles :
    (∃ s : State, s.sys.phase = .run ∧ s.gr.boundary = false ∧ 3 ≤ s.gr.j) ∧
    (∃ s : State, s.sys.phase = .run ∧ (s.mode = .load ∨ s.mode = .join ∨ s.mode = .safeHold ∨ s.mode = .service) ∧ s.gr.s =
      none ∧ (s.gr.boundary = true ∨ s.gr.j < 3)) ∧
    (∃ s : State, s.sys.phase = .run ∧ (s.mode = .load ∨ s.mode = .join ∨ s.mode = .safeHold ∨ s.mode = .service) ∧ s.gr.s =
      none ∧ (s.gr.boundary = true ∨ s.gr.j < 3)) ∧
    (∃ s : State, s.sys.phase = .run ∧ s.gr.s = none ∧ (s.flu.cycle + 1) * 125000 < 2 ^ 64 ∧ (s.mode = .load ∨ s.mode = .join
      ∨ s.mode = .safeHold ∨ s.mode = .service) ∧ s.sys.next = []) ∧
    (∃ s : State, ∃ m, ∃ cause, ∃ src, s.sys.phase = .run ∧ s.gr.s = none ∧ (s.flu.cycle + 1) * 125000 < 2 ^ 64 ∧ (m = .lead ∨
      m = .shadow) ∧ s.mode = .join ∧ s.sys.next = [(m, cause, src)] ∧ s.flag F.LDS_STATUS_ISOLATED = false) ∧
    (∃ s : State, ∃ m, ∃ cause, ∃ src, s.sys.phase = .run ∧ s.gr.s = none ∧ (s.flu.cycle + 1) * 125000 < 2 ^ 64 ∧ (m = .lead ∨
      m = .shadow) ∧ s.mode = .join ∧ s.sys.next = [(m, cause, src)] ∧ s.flag F.LDS_STATUS_ISOLATED = false) :=
  ⟨
    ⟨{ at_ .lead [] with gr := { j := 3, s := some 5 } }, by decide +kernel⟩,
    ⟨{ at_ .join [] with gr := { boundary := true } }, by decide +kernel⟩,
    ⟨{ at_ .service [] with gr := { j := 2 } }, by decide +kernel⟩,
    ⟨{ at_ .join [] with flu := { cycle := 5 } }, by decide +kernel⟩,
    ⟨{ at_ .join [] with flu := { cycle := 5 }, sys := { phase := .run, joined := true, next := [(.lead, 2, 0)] } }, .lead, 2,
      0, by decide +kernel⟩,
    ⟨{ at_ .join [] with flu := { cycle := 5 }, sys := { phase := .run, joined := true, next := [(.shadow, 2, 0)] } },
      .shadow, 2, 0, by decide +kernel⟩⟩

theorem test_hyps_ElectionAndExpiries :
    (∃ s : State, s.sys.phase = .run ∧ s.mode = .join ∧ s.flu.integ = .synced ∧ s.sys.next = [] ∧ s.topology ≤ 1) ∧
    (∃ s : State, s.sys.phase = .run ∧ s.mode = .join ∧ s.flu.integ = .synced ∧ s.sys.next = [] ∧ 2 ≤ s.topology ∧ ((∃ f ∈
      s.heardNow, f.role = 2 ∨ f.role < 2 ∧ f.id < s.ownId))) ∧
    (∃ s : State, s.sys.phase = .run ∧ s.mode = .join ∧ s.flu.integ = .synced ∧ s.sys.next = [] ∧ 2 ≤ s.topology ∧ ((∃ f ∈
      s.heardNow, f.role = 2 ∨ f.role < 2 ∧ f.id < s.ownId))) ∧
    (∃ s : State, s.sys.phase = .run ∧ s.mode = .join ∧ s.flu.integ = .synced ∧ s.sys.next = [] ∧ 2 ≤ s.topology ∧ ((∀ f ∈
      s.heardNow, f.role ≠ 2 ∧ (f.role < 2 → s.ownId ≤ f.id)))) ∧
    (∃ s : State, s.sys.phase = .run ∧ s.mode = .join) ∧
    (∃ s : State, s.sys.phase = .run ∧ s.mode = .stopping ∧ s.flag F.SAF_STATUS_STANDSTILL = true ∧ s.getF
      (F.GDR_SOL_STAT_STATE (s.getF F.LDS_CFG_RELEASE_CH)) ≠ 1) ∧
    (∃ s : State, s.sys.phase = .run ∧ s.mode.isLead = true ∧ s.flag F.LDS_STATUS_HO_PENDING = true ∧ s.gdr.hoRelease = false
      ∧ s.lds.hoCycle + s.getF F.LDS_CFG_HO_TIMEOUT ≤ s.flu.cycle) ∧
    (∃ s : State, s.sys.phase = .run ∧ s.mode = .limp ∧ s.flag F.LDS_STATUS_ISOLATED = true ∧ s.sys.next = []) ∧
    (∃ s : State, s.sys.phase = .run ∧ s.flag F.LDS_STATUS_REDUNDANCY_LOST = true) :=
  ⟨
    ⟨{ at_ .join [(F.IMG_CHANNEL_TOPOLOGY, 1)] with flu := { integ := .synced } }, by decide +kernel⟩,
    ⟨{ at_ .join [(F.IMG_CHANNEL_TOPOLOGY, 2), (F.SYS_MODE_CHANNEL_ID, 2)] with flu := { integ := .synced }, lds := { rx := [(0, { (default : ChFrame) with id := 3, role := 2 })] } },
      by decide +kernel⟩,
    ⟨{ at_ .join [(F.IMG_CHANNEL_TOPOLOGY, 2), (F.SYS_MODE_CHANNEL_ID, 2)] with flu := { integ := .synced }, lds := { rx := [(0, { (default : ChFrame) with id := 1, role := 1 })] } },
      by decide +kernel⟩,
    ⟨{ at_ .join [(F.IMG_CHANNEL_TOPOLOGY, 2), (F.SYS_MODE_CHANNEL_ID, 2)] with flu := { integ := .synced }, lds := { rx := [(0, { (default : ChFrame) with id := 3, role := 1 })] } },
      by decide +kernel⟩,
    ⟨at_ .join [], by decide +kernel⟩,
    ⟨at_ .stopping [(F.SAF_STATUS_STANDSTILL, 1)], by decide +kernel⟩,
    ⟨{ at_ .lead [(F.LDS_STATUS_HO_PENDING, 1), (F.LDS_CFG_HO_TIMEOUT, 3)] with lds := { hoCycle := 2 }, flu := { cycle := 5 } },
      by decide +kernel⟩,
    ⟨at_ .limp [(F.LDS_STATUS_ISOLATED, 1)], by decide +kernel⟩,
    ⟨at_ .lead [(F.LDS_STATUS_REDUNDANCY_LOST, 1)], by decide +kernel⟩⟩

theorem test_hyps_StaticSegmentEnd :
    (∃ s : State, s.sys.phase = .run ∧ s.mode = .join ∧ 0 < s.getF F.LDS_TIMING_LOSS_N) ∧
    (∃ s : State, ∃ d, s.sys.phase = .run ∧ s.mode = .shadow ∧ s.topology ≠ 3 ∧ s.lds.undecided = false ∧ s.lds.rx = [] ∧
      s.lds.leadHeard = some d ∧ d < s.flu.cycle ∧ s.lds.anyFrame = true ∧ s.lds.engage = false ∧ s.lds.ownReady = true ∧
      s.ownId ≠ 0 ∧ s.sys.next = [] ∧ 0 < s.getF F.LDS_TIMING_LOSS_N ∧ ((∀ r, r < 6 → s.flag (F.SAF_RX_CFG_EN r) = false))) :=
  ⟨
    ⟨{ at_ .join [(F.LDS_TIMING_LOSS_N, 1)] with flu := { cycle := 5 } }, by decide +kernel⟩,
    ⟨{ at_ .shadow [(F.IMG_CHANNEL_TOPOLOGY, 2), (F.SYS_MODE_CHANNEL_ID, 2), (F.LDS_TIMING_LOSS_N, 2), (F.LDS_STATUS_ALIGNED, 1), (F.LDS_STATUS_XDIS_OK, 1)] with flu := { cycle := 5 }, lds := { leadHeard := some 3, leadId := 1, anyFrame := true, ownReady := true } },
      3, by decide +kernel⟩⟩

theorem test_hyps_GateProtection :
    (∃ s : State, ∃ c : Instr, ∃ g : Nat, ∃ n : Nat, ∃ cause : Nat, s.sys.phase = .run ∧ g < 18 ∧ ((c = .desat g ∧ n = 0x4F +
      6 * (g / 6) ∧ cause = 3 ∧ s.getF (F.MOT_STATUS_STATE (g / 6)) ≠ 0 ∨ c = .overcurrent (g / 6) ∧ n = 0x50 + 6 * (g / 6) ∧
      cause = 4 ∨ c = .gateStuck g ∧ n = 0x51 + 6 * (g / 6) ∧ cause = 5)) ∧ s.Quiet n ∧ s.asserted n = false) ∧
    (∃ s : State, ∃ c : Instr, ∃ g : Nat, ∃ n : Nat, ∃ cause : Nat, s.sys.phase = .run ∧ g < 18 ∧ ((c = .desat g ∧ n = 0x4F +
      6 * (g / 6) ∧ cause = 3 ∧ s.getF (F.MOT_STATUS_STATE (g / 6)) ≠ 0 ∨ c = .overcurrent (g / 6) ∧ n = 0x50 + 6 * (g / 6) ∧
      cause = 4 ∨ c = .gateStuck g ∧ n = 0x51 + 6 * (g / 6) ∧ cause = 5)) ∧ s.Quiet n ∧ s.asserted n = false) ∧
    (∃ s : State, ∃ c : Instr, ∃ g : Nat, ∃ n : Nat, ∃ cause : Nat, s.sys.phase = .run ∧ g < 18 ∧ ((c = .desat g ∧ n = 0x4F +
      6 * (g / 6) ∧ cause = 3 ∧ s.getF (F.MOT_STATUS_STATE (g / 6)) ≠ 0 ∨ c = .overcurrent (g / 6) ∧ n = 0x50 + 6 * (g / 6) ∧
      cause = 4 ∨ c = .gateStuck g ∧ n = 0x51 + 6 * (g / 6) ∧ cause = 5)) ∧ s.Quiet n ∧ s.asserted n = false) ∧
    (∃ s : State, ∃ g : Nat, s.sys.phase = .run ∧ g < 18 ∧ s.Quiet (0x52 + 6 * (g / 6)) ∧ s.asserted (0x52 + 6 * (g / 6)) =
      false) ∧
    (∃ s : State, ∃ g : Nat, s.sys.phase = .run ∧ g < 18 ∧ g % 2 = 1 ∧ s.flag (F.GDR_GATE_REFRESH g) = false ∧ s.Quiet (0x53 +
      6 * (g / 6)) ∧ s.asserted (0x53 + 6 * (g / 6)) = false) ∧
    (∃ s : State, ∃ g : Nat, s.sys.phase = .run ∧ g < 18 ∧ g % 2 = 1 ∧ s.Quiet (0x54 + 6 * (g / 6)) ∧ s.asserted (0x54 + 6 *
      (g / 6)) = false ∧ (g, 0) ∉ s.gdr.bootTry ∧ (g, 1) ∉ s.gdr.bootTry) ∧
    (∃ s : State, ∃ g : Nat, s.sys.phase = .run ∧ g < 18 ∧ g % 2 = 1 ∧ s.Quiet (0x54 + 6 * (g / 6)) ∧ s.asserted (0x54 + 6 *
      (g / 6)) = false ∧ (g, 0) ∉ s.gdr.bootTry ∧ (g, 1) ∈ s.gdr.bootTry) :=
  ⟨
    ⟨at_ .join [(F.MOT_STATUS_STATE 2, 1)], .desat 17, 17, 0x5B, 3, by decide +kernel⟩,
    ⟨at_ .join [], .overcurrent 0, 5, 0x50, 4, by decide +kernel⟩,
    ⟨at_ .join [], .gateStuck 12, 12, 0x5D, 5, by decide +kernel⟩,
    ⟨at_ .join [], 17, by decide +kernel⟩,
    ⟨at_ .join [], 17, by decide +kernel⟩,
    ⟨at_ .join [], 17, by decide +kernel⟩,
    ⟨{ at_ .join [] with gdr := { bootTry := [(17, 1)] } }, 17, by decide +kernel⟩⟩

theorem test_hyps_LinkCommands :
    (∃ s : State, ∃ l : Nat, ∃ u : Nat, s.sys.phase = .run ∧ l < 2 ∧ s.getF (F.GDR_LINK_CFG_CH_ON l) < u) ∧
    (∃ s : State, ∃ l : Nat, ∃ u : Nat, s.sys.phase = .run ∧ l < 2 ∧ u ≤ s.getF (F.GDR_LINK_CFG_CH_ON l) ∧ u < s.getF
      (F.GDR_LINK_CFG_CH_OFF l)) ∧
    (∃ s : State, ∃ l : Nat, s.sys.phase = .run ∧ l < 2 ∧ s.Quiet (0x61 + 3 * l) ∧ s.asserted (0x61 + 3 * l) = false) ∧
    (∃ s : State, ∃ l : Nat, ∃ u : Nat, s.sys.phase = .run ∧ l < 2 ∧ s.linkThreshold l ≤ u ∧ s.Quiet (0x62 + 3 * l) ∧
      s.asserted (0x62 + 3 * l) = false) ∧
    (∃ s : State, ∃ l : Nat, ∃ u : Nat, s.sys.phase = .run ∧ l < 2 ∧ s.linkThreshold l ≤ u ∧ s.Quiet (0x62 + 3 * l) ∧
      s.asserted (0x62 + 3 * l) = false) ∧
    (∃ s : State, ∃ l : Nat, ∃ u : Nat, s.sys.phase = .run ∧ l < 2 ∧ s.getF (F.GDR_LINK_CFG_OV_TRIP l) < u ∧ s.Quiet (0x63 + 3
      * l) ∧ s.asserted (0x63 + 3 * l) = false) :=
  ⟨
    ⟨at_ .join [(F.GDR_LINK_CFG_CH_ON 1, 10), (F.GDR_LINK_CFG_CH_OFF 1, 8), (F.GDR_LINK_CFG_OV_ASC 1, 12),
      (F.GDR_LINK_CFG_OV_TRIP 1, 14)], 1, 11, by decide +kernel⟩,
    ⟨at_ .join [(F.GDR_LINK_CFG_CH_ON 1, 10), (F.GDR_LINK_CFG_CH_OFF 1, 8), (F.GDR_LINK_CFG_OV_ASC 1, 12),
      (F.GDR_LINK_CFG_OV_TRIP 1, 14)], 1, 7, by decide +kernel⟩,
    ⟨at_ .join [(F.GDR_LINK_CFG_CH_ON 1, 10), (F.GDR_LINK_CFG_CH_OFF 1, 8), (F.GDR_LINK_CFG_OV_ASC 1, 12),
      (F.GDR_LINK_CFG_OV_TRIP 1, 14)], 1, by decide +kernel⟩,
    ⟨at_ .join [(F.GDR_LINK_CFG_CH_ON 1, 10), (F.GDR_LINK_CFG_CH_OFF 1, 8), (F.GDR_LINK_CFG_OV_ASC 1, 12),
      (F.GDR_LINK_CFG_OV_TRIP 1, 14)], 1, 12, by decide +kernel⟩,
    ⟨at_ .join [(F.GDR_LINK_CFG_CH_ON 1, 10), (F.GDR_LINK_CFG_CH_OFF 1, 8), (F.GDR_LINK_CFG_OV_ASC 1, 12),
      (F.GDR_LINK_CFG_OV_TRIP 1, 14), (F.GDR_LINK_STAT_CH_FAIL 1, 1)], 1, 10, by decide +kernel⟩,
    ⟨at_ .join [(F.GDR_LINK_CFG_CH_ON 1, 10), (F.GDR_LINK_CFG_CH_OFF 1, 8), (F.GDR_LINK_CFG_OV_ASC 1, 12),
      (F.GDR_LINK_CFG_OV_TRIP 1, 14)], 1, 15, by decide +kernel⟩⟩

theorem test_hyps_OutputDiagnostics :
    (∃ s : State, ∃ k, s.sys.phase = .run ∧ k < 12 ∧ s.flag (F.GDR_SOL_CFG_DIAG k) = true ∧ s.Quiet (0x67 + 3 * k) ∧
      s.asserted (0x67 + 3 * k) = false) ∧
    (∃ s : State, ∃ k, s.sys.phase = .run ∧ k < 12 ∧ s.flag (F.GDR_SOL_CFG_DIAG k) = true ∧ s.Quiet (0x68 + 3 * k) ∧
      s.asserted (0x68 + 3 * k) = false) ∧
    (∃ s : State, ∃ k, s.sys.phase = .run ∧ k < 12 ∧ s.flag (F.GDR_SOL_CFG_DIAG k) = true) ∧
    (∃ s : State, ∃ k, s.sys.phase = .run ∧ k < 12 ∧ s.flag (F.GDR_SOL_CFG_DIAG k) = true ∧ s.Quiet (0x69 + 3 * k) ∧
      s.asserted (0x69 + 3 * k) = false) ∧
    (∃ s : State, ∃ k, s.sys.phase = .run ∧ k < 12 ∧ s.flag (F.GDR_SOL_CFG_DIAG k) = true) ∧
    (∃ s : State, ∃ e, ∃ rb, s.sys.phase = .run ∧ e < 4 ∧ xor (xor rb (s.flag (F.GDR_EN_CFG_RB_INVERT e))) (s.flag
      (F.GDR_EN_STAT_OUT e)) = true ∧ s.Quiet (0x8B + e) ∧ s.asserted (0x8B + e) = false) ∧
    (∃ s : State, ∃ e, ∃ rb, s.sys.phase = .run ∧ e < 4 ∧ xor (xor rb (s.flag (F.GDR_EN_CFG_RB_INVERT e))) (s.flag
      (F.GDR_EN_STAT_OUT e)) = false) ∧
    (∃ s : State, ∃ i, s.sys.phase = .run ∧ i < 4 ∧ i ∈ s.gdr.ssOn ∧ s.Quiet (0x8F + i) ∧ s.asserted (0x8F + i) = false) ∧
    (∃ s : State, ∃ i, s.sys.phase = .run ∧ i < 4 ∧ s.flag (F.GDR_SS_STAT_WAITING i) = true ∧ ((∀ k, k < i → s.flag
      (F.GDR_SS_STAT_WAITING k) = false)) ∧ ((∀ k, k < 4 → s.flag (F.GDR_SS_STAT_PULSING k) = false)) ∧ s.flag
      F.SAF_PULSE_CFG_STAGGER = false) ∧
    (∃ s : State, s.sys.phase = .run) :=
  ⟨
    ⟨at_ .join [(F.GDR_SOL_CFG_DIAG 11, 1)], 11, by decide +kernel⟩,
    ⟨at_ .join [(F.GDR_SOL_CFG_DIAG 11, 1)], 11, by decide +kernel⟩,
    ⟨at_ .join [(F.GDR_SOL_CFG_DIAG 11, 1)], 11, by decide +kernel⟩,
    ⟨at_ .join [(F.GDR_SOL_CFG_DIAG 11, 1)], 11, by decide +kernel⟩,
    ⟨at_ .join [(F.GDR_SOL_CFG_DIAG 11, 1)], 11, by decide +kernel⟩,
    ⟨at_ .join [(F.GDR_EN_CFG_RB_INVERT 3, 1)], 3, false, by decide +kernel⟩,
    ⟨at_ .join [], 3, false, by decide +kernel⟩,
    ⟨{ at_ .join [] with gdr := { ssOn := [0] } }, 0, by decide +kernel⟩,
    ⟨at_ .join [(F.GDR_SS_STAT_WAITING 3, 1), (F.SAF_PULSE_CFG_STAGGER, 0)], 3, by decide +kernel⟩,
    ⟨at_ .join [], by decide +kernel⟩⟩

theorem test_hyps_CrossDisable :
    (∃ s : State, s.sys.phase = .run ∧ s.gdr.xdisIn = false) ∧
    (∃ s : State, s.sys.phase = .run) ∧
    (∃ s : State, s.sys.phase = .run ∧ s.mode.isLead = true ∧ s.gdr.xdisIn = true ∧ s.flag F.LDS_STATUS_HO_PENDING = false ∧
      s.Quiet 0xAD ∧ s.asserted 0xAD = false) :=
  ⟨
    ⟨at_ .join [], by decide +kernel⟩,
    ⟨{ at_ .join [] with gdr := { xdisIn := true } }, by decide +kernel⟩,
    ⟨{ at_ .lead [(F.FLT_SRC_REACTION 173, 0)] with gdr := { xdisIn := true } }, by decide +kernel⟩⟩

theorem test_hyps_HalfStart :
    (∃ s : State, ∃ n : Nat, s.sys.phase = .run ∧ n < 16384 ∧ s.mots.length = 3 ∧ ((∀ b, b < 3 → s.Quiet (0x46 + 3 * b)))) ∧
    (∃ s : State, ∃ n : Nat, s.sys.phase = .run ∧ n < 16384 ∧ s.mots.length = 3 ∧ ((∀ b, b < 3 → s.Quiet (0x46 + 3 * b)))) ∧
    (∃ s : State, ∃ n : Nat, s.sys.phase = .run ∧ n < 16384 ∧ s.mots.length = 3 ∧ ((∀ b, b < 3 → s.Quiet (0x46 + 3 * b)))) :=
  ⟨
    ⟨at_ .join [], 16383, by decide +kernel⟩,
    ⟨{ at_ .join [] with mots := List.replicate 3 { duties := some [0x3E800000, 0x3F000000, 0x3F7FFFFF] } }, 16383,
      by decide +kernel⟩,
    ⟨{ at_ .join [] with mots := List.replicate 3 { duties := some [0x3F800000, 0x3F000000, 0x3F800000] } }, 0,
      by decide +kernel⟩⟩

theorem test_hyps_PositionEdges :
    (∃ s : State, ∃ i : Nat, ∃ t : Nat, ∃ v : Nat, ∃ held : Nat, s.sys.phase = .run ∧ i < 4 ∧ s.poss.length = 4 ∧ s.flag
      (F.POS_STATUS_ACTIVE i) = true ∧ v < 8 ∧ .countStep i t v held ∈ (s.pos i).taken) ∧
    (∃ s : State, ∃ i : Nat, ∃ t : Nat, ∃ v : Nat, ∃ held : Nat, ∃ k, s.sys.phase = .run ∧ i < 4 ∧ s.poss.length = 4 ∧ s.flag
      (F.POS_STATUS_ACTIVE i) = true ∧ v < 8 ∧ .countStep i t v held ∉ (s.pos i).taken ∧ t / 10 ≠ s.nextTick / 10 ∧ k < 3 ∧
      bit v k ≠ bit (s.getF (F.POS_LEVELS_RAW i)) k) ∧
    (∃ s : State, ∃ i : Nat, ∃ t : Nat, ∃ v : Nat, ∃ held : Nat, s.sys.phase = .run ∧ i < 4 ∧ s.poss.length = 4 ∧ s.flag
      (F.POS_STATUS_ACTIVE i) = true ∧ v < 8 ∧ .countStep i t v held ∉ (s.pos i).taken ∧ t / 10 ≠ s.nextTick / 10 ∧ ((∀ k, k <
      3 → s.accepts i k ((s.stood i t v held).getD k 0) = true)) ∧ s.getF (F.POS_CFG_MODE i) = 1 ∧ s.flag
      (F.POS_CFG_DIR_INVERT i) = false ∧ v / 4 ≤ s.levels i / 4 % 2 ∧ (quadPhase v + 4 - quadPhase (s.levels i)) % 4 = 1) ∧
    (∃ s : State, ∃ i : Nat, ∃ t : Nat, ∃ v : Nat, ∃ held : Nat, s.sys.phase = .run ∧ i < 4 ∧ s.poss.length = 4 ∧ s.flag
      (F.POS_STATUS_ACTIVE i) = true ∧ v < 8 ∧ .countStep i t v held ∉ (s.pos i).taken ∧ t / 10 ≠ s.nextTick / 10 ∧ ((∀ k, k <
      3 → s.accepts i k ((s.stood i t v held).getD k 0) = true)) ∧ s.getF (F.POS_CFG_MODE i) = 1 ∧ s.flag
      (F.POS_CFG_DIR_INVERT i) = false ∧ v / 4 ≤ s.levels i / 4 % 2 ∧ (quadPhase v + 4 - quadPhase (s.levels i)) % 4 = 1) ∧
    (∃ s : State, ∃ i : Nat, ∃ t : Nat, ∃ v : Nat, ∃ held : Nat, s.sys.phase = .run ∧ i < 4 ∧ s.poss.length = 4 ∧ s.flag
      (F.POS_STATUS_ACTIVE i) = true ∧ v < 8 ∧ .countStep i t v held ∉ (s.pos i).taken ∧ t / 10 ≠ s.nextTick / 10 ∧ ((∀ k, k <
      3 → s.accepts i k ((s.stood i t v held).getD k 0) = true)) ∧ s.getF (F.POS_CFG_MODE i) = 1 ∧ s.flag
      (F.POS_CFG_DIR_INVERT i) = false ∧ v / 4 ≤ s.levels i / 4 % 2 ∧ (quadPhase v + 4 - quadPhase (s.levels i)) % 4 = 3) ∧
    (∃ s : State, ∃ i : Nat, ∃ t : Nat, ∃ v : Nat, ∃ held : Nat, s.sys.phase = .run ∧ i < 4 ∧ s.poss.length = 4 ∧ s.flag
      (F.POS_STATUS_ACTIVE i) = true ∧ v < 8 ∧ .countStep i t v held ∉ (s.pos i).taken ∧ t / 10 ≠ s.nextTick / 10 ∧ ((∀ k, k <
      3 → s.accepts i k ((s.stood i t v held).getD k 0) = true)) ∧ s.getF (F.POS_CFG_MODE i) = 1 ∧ s.flag
      (F.POS_CFG_DIR_INVERT i) = false ∧ v / 4 ≤ s.levels i / 4 % 2 ∧ (quadPhase v + 4 - quadPhase (s.levels i)) % 4 = 2 ∧
      s.Quiet (0x32 + 5 * i) ∧ s.asserted (0x32 + 5 * i) = false) ∧
    (∃ s : State, ∃ i : Nat, ∃ t : Nat, ∃ v : Nat, ∃ held : Nat, s.sys.phase = .run ∧ i < 4 ∧ s.poss.length = 4 ∧ s.flag
      (F.POS_STATUS_ACTIVE i) = true ∧ v < 8 ∧ .countStep i t v held ∉ (s.pos i).taken ∧ t / 10 ≠ s.nextTick / 10 ∧ ((∀ k, k <
      3 → s.accepts i k ((s.stood i t v held).getD k 0) = true)) ∧ s.getF (F.POS_CFG_MODE i) = 1 ∧ s.flag
      (F.POS_CFG_DIR_INVERT i) = false ∧ s.levels i / 4 % 2 = 0 ∧ 4 ≤ v ∧ (quadPhase v + 4 - quadPhase (s.levels i)) % 4 = 1 ∧
      0 < s.getF (F.POS_CPR_CPR i) ∧ s.flag (F.POS_INDEX_CFG_GATE_EN i) = false ∧ s.flag (F.POS_STATUS_HOMED i) = false ∧
      s.flag (F.POS_STATUS_CAND i) = false) ∧
    (∃ s : State, ∃ i : Nat, ∃ t : Nat, ∃ v : Nat, ∃ held : Nat, s.sys.phase = .run ∧ i < 4 ∧ s.poss.length = 4 ∧ s.flag
      (F.POS_STATUS_ACTIVE i) = true ∧ v < 8 ∧ .countStep i t v held ∉ (s.pos i).taken ∧ t / 10 ≠ s.nextTick / 10 ∧ ((∀ k, k <
      3 → s.accepts i k ((s.stood i t v held).getD k 0) = true)) ∧ s.getF (F.POS_CFG_MODE i) = 3 ∧ s.levels i % 2 = 0 ∧ v % 2
      = 1) ∧
    (∃ s : State, ∃ i : Nat, ∃ t : Nat, ∃ v : Nat, ∃ held : Nat, ∃ m, s.sys.phase = .run ∧ i < 4 ∧ s.poss.length = 4 ∧ s.flag
      (F.POS_STATUS_ACTIVE i) = true ∧ v < 8 ∧ .countStep i t v held ∉ (s.pos i).taken ∧ t / 10 ≠ s.nextTick / 10 ∧ s.getF
      (F.POS_CFG_MODE i) = m ∧ (m = 1 ∨ m = 3) ∧ ((∀ k, k < 3 → s.accepts i k ((s.stood i t v held).getD k 0) = false))) ∧
    (∃ s : State, ∃ i : Nat, ∃ t : Nat, ∃ v : Nat, ∃ held : Nat, ∃ m, s.sys.phase = .run ∧ i < 4 ∧ s.poss.length = 4 ∧ s.flag
      (F.POS_STATUS_ACTIVE i) = true ∧ v < 8 ∧ .countStep i t v held ∉ (s.pos i).taken ∧ t / 10 ≠ s.nextTick / 10 ∧ s.getF
      (F.POS_CFG_MODE i) = m ∧ (m = 1 ∨ m = 3) ∧ ((∀ k, k < 3 → s.accepts i k ((s.stood i t v held).getD k 0) = false))) ∧
    (∃ s : State, ∃ i : Nat, ∃ t : Nat, ∃ v : Nat, ∃ held : Nat, s.sys.phase = .run ∧ i < 4 ∧ s.poss.length = 4 ∧ s.flag
      (F.POS_STATUS_ACTIVE i) = true ∧ v < 8 ∧ .countStep i t v held ∉ (s.pos i).taken ∧ t / 10 = s.nextTick / 10) ∧
    (∃ s : State, ∃ i : Nat, ∃ t' : Nat, ∃ held : Nat, ∃ c : Instr, s.sys.phase = .run ∧ i < 4 ∧ s.poss.length = 4 ∧ s.flag
      (F.POS_STATUS_ACTIVE i) = true ∧ s.accepts i 2 ((s.stood i t' (s.getF (F.POS_LEVELS_RAW i) % 4 + 4) held).getD 2 0) =
      true ∧ s.levels i / 4 % 2 = 0 ∧ .indexEdge i t' true held ∉ (s.pos i).taken ∧ t' / 10 ≠ s.nextTick / 10 ∧ (s.sameClock i
      (t' / 10)).filter isStep = [c]) ∧
    (∃ s : State, ∃ i : Nat, ∃ t' : Nat, ∃ held : Nat, ∃ d : Int, s.sys.phase = .run ∧ i < 4 ∧ s.poss.length = 4 ∧ s.flag
      (F.POS_STATUS_ACTIVE i) = true ∧ s.accepts i 2 ((s.stood i t' (s.getF (F.POS_LEVELS_RAW i) % 4 + 4) held).getD 2 0) =
      true ∧ s.levels i / 4 % 2 = 0 ∧ .indexEdge i t' true held ∉ (s.pos i).taken ∧ t' / 10 ≠ s.nextTick / 10 ∧ ((∀ c ∈
      s.pending, isStep c = true → s.posClock c ≠ some (i, t' / 10))) ∧ s.getF (F.POS_CFG_MODE i) = 1 ∧ 0 < s.getF
      (F.POS_CPR_CPR i) ∧ s.flag (F.POS_INDEX_CFG_GATE_EN i) = false ∧ d = indexError (s.count i) (s.getF
      (F.POS_INDEX_CFG_INDEX_POS i)) (s.getF (F.POS_CPR_CPR i)) ∧ s.flag (F.POS_STATUS_HOMED i) = false ∧ s.flag
      (F.POS_STATUS_CAND i) = false) ∧
    (∃ s : State, ∃ i : Nat, ∃ t' : Nat, ∃ held : Nat, ∃ d : Int, s.sys.phase = .run ∧ i < 4 ∧ s.poss.length = 4 ∧ s.flag
      (F.POS_STATUS_ACTIVE i) = true ∧ s.accepts i 2 ((s.stood i t' (s.getF (F.POS_LEVELS_RAW i) % 4 + 4) held).getD 2 0) =
      true ∧ s.levels i / 4 % 2 = 0 ∧ .indexEdge i t' true held ∉ (s.pos i).taken ∧ t' / 10 ≠ s.nextTick / 10 ∧ ((∀ c ∈
      s.pending, isStep c = true → s.posClock c ≠ some (i, t' / 10))) ∧ s.getF (F.POS_CFG_MODE i) = 1 ∧ 0 < s.getF
      (F.POS_CPR_CPR i) ∧ s.flag (F.POS_INDEX_CFG_GATE_EN i) = false ∧ d = indexError (s.count i) (s.getF
      (F.POS_INDEX_CFG_INDEX_POS i)) (s.getF (F.POS_CPR_CPR i)) ∧ s.flag (F.POS_STATUS_CAND i) = true ∧ (s.flag
      (F.POS_STATUS_HOMED i) = false ∨ d ≠ 0) ∧ (s.reg (F.POS_COUNT_COUNT i).addr = (s.pos i).cand ∨ s.reg (F.POS_COUNT_COUNT
      i).addr = (s.pos i).cand + BitVec.ofNat 32 (s.getF (F.POS_CPR_CPR i)) ∨ s.reg (F.POS_COUNT_COUNT i).addr = (s.pos
      i).cand - BitVec.ofNat 32 (s.getF (F.POS_CPR_CPR i)))) ∧
    (∃ s : State, ∃ i : Nat, ∃ t' : Nat, ∃ held : Nat, ∃ d : Int, s.sys.phase = .run ∧ i < 4 ∧ s.poss.length = 4 ∧ s.flag
      (F.POS_STATUS_ACTIVE i) = true ∧ s.accepts i 2 ((s.stood i t' (s.getF (F.POS_LEVELS_RAW i) % 4 + 4) held).getD 2 0) =
      true ∧ s.levels i / 4 % 2 = 0 ∧ .indexEdge i t' true held ∉ (s.pos i).taken ∧ t' / 10 ≠ s.nextTick / 10 ∧ ((∀ c ∈
      s.pending, isStep c = true → s.posClock c ≠ some (i, t' / 10))) ∧ s.getF (F.POS_CFG_MODE i) = 1 ∧ 0 < s.getF
      (F.POS_CPR_CPR i) ∧ s.flag (F.POS_INDEX_CFG_GATE_EN i) = false ∧ d = indexError (s.count i) (s.getF
      (F.POS_INDEX_CFG_INDEX_POS i)) (s.getF (F.POS_CPR_CPR i)) ∧ s.flag (F.POS_STATUS_CAND i) = true ∧ (s.flag
      (F.POS_STATUS_HOMED i) = false ∨ d ≠ 0) ∧ (s.reg (F.POS_COUNT_COUNT i).addr = (s.pos i).cand ∨ s.reg (F.POS_COUNT_COUNT
      i).addr = (s.pos i).cand + BitVec.ofNat 32 (s.getF (F.POS_CPR_CPR i)) ∨ s.reg (F.POS_COUNT_COUNT i).addr = (s.pos
      i).cand - BitVec.ofNat 32 (s.getF (F.POS_CPR_CPR i)))) ∧
    (∃ s : State, ∃ i : Nat, ∃ t' : Nat, ∃ held : Nat, ∃ d : Int, s.sys.phase = .run ∧ i < 4 ∧ s.poss.length = 4 ∧ s.flag
      (F.POS_STATUS_ACTIVE i) = true ∧ s.accepts i 2 ((s.stood i t' (s.getF (F.POS_LEVELS_RAW i) % 4 + 4) held).getD 2 0) =
      true ∧ s.levels i / 4 % 2 = 0 ∧ .indexEdge i t' true held ∉ (s.pos i).taken ∧ t' / 10 ≠ s.nextTick / 10 ∧ ((∀ c ∈
      s.pending, isStep c = true → s.posClock c ≠ some (i, t' / 10))) ∧ s.getF (F.POS_CFG_MODE i) = 1 ∧ 0 < s.getF
      (F.POS_CPR_CPR i) ∧ s.flag (F.POS_INDEX_CFG_GATE_EN i) = false ∧ d = indexError (s.count i) (s.getF
      (F.POS_INDEX_CFG_INDEX_POS i)) (s.getF (F.POS_CPR_CPR i)) ∧ s.flag (F.POS_STATUS_HOMED i) = true ∧ d ≠ 0 ∧ s.flag
      (F.POS_STATUS_CAND i) = false ∧ s.Quiet (0x34 + 5 * i) ∧ s.asserted (0x34 + 5 * i) = false) ∧
    (∃ s : State, ∃ i : Nat, ∃ t : Nat, ∃ m : Nat, ∃ held : Nat, ∃ rising : Bool, s.sys.phase = .run ∧ i < 4 ∧ s.flag
      (F.POS_STATUS_ACTIVE i) = true ∧ max 1 (s.getF (F.POS_FILTER_N_PRB i)) ≤ held ∧ (t + 10 * (max 1 (s.getF
      (F.POS_FILTER_N_PRB i)) - 1)) / 10 ≠ s.nextTick / 10 ∧ .probeEdge i t rising held ∉ (s.pos i).taken ∧ ((∀ c ∈ s.pending,
      isStep c = true → s.posClock c ≠ some (i, s.probeAt i t / 10))) ∧ s.getF (F.POS_CFG_MODE i) = m ∧ 1 ≤ m ∧ m ≤ 4 ∧ bit
      (s.getF (F.POS_PRB_CFG_EDGE i)) (if rising = true then 0 else 1) = true ∧ s.flag (F.POS_STATUS_PRB_FULL i) = false) ∧
    (∃ s : State, ∃ i : Nat, ∃ t : Nat, ∃ m : Nat, ∃ held : Nat, ∃ rising : Bool, s.sys.phase = .run ∧ i < 4 ∧ s.flag
      (F.POS_STATUS_ACTIVE i) = true ∧ max 1 (s.getF (F.POS_FILTER_N_PRB i)) ≤ held ∧ (t + 10 * (max 1 (s.getF
      (F.POS_FILTER_N_PRB i)) - 1)) / 10 ≠ s.nextTick / 10 ∧ .probeEdge i t rising held ∉ (s.pos i).taken ∧ ((∀ c ∈ s.pending,
      isStep c = true → s.posClock c ≠ some (i, s.probeAt i t / 10))) ∧ s.getF (F.POS_CFG_MODE i) = m ∧ 1 ≤ m ∧ m ≤ 4 ∧ bit
      (s.getF (F.POS_PRB_CFG_EDGE i)) (if rising = true then 0 else 1) = true ∧ s.flag (F.POS_STATUS_PRB_FULL i) = false) ∧
    (∃ s : State, ∃ i : Nat, ∃ t : Nat, ∃ m : Nat, ∃ held : Nat, ∃ rising : Bool, s.sys.phase = .run ∧ i < 4 ∧ s.flag
      (F.POS_STATUS_ACTIVE i) = true ∧ max 1 (s.getF (F.POS_FILTER_N_PRB i)) ≤ held ∧ (t + 10 * (max 1 (s.getF
      (F.POS_FILTER_N_PRB i)) - 1)) / 10 ≠ s.nextTick / 10 ∧ .probeEdge i t rising held ∉ (s.pos i).taken ∧ ((∀ c ∈ s.pending,
      isStep c = true → s.posClock c ≠ some (i, s.probeAt i t / 10))) ∧ s.getF (F.POS_CFG_MODE i) = m ∧ 1 ≤ m ∧ m ≤ 4 ∧ bit
      (s.getF (F.POS_PRB_CFG_EDGE i)) (if rising = true then 0 else 1) = true ∧ s.flag (F.POS_STATUS_PRB_FULL i) = true) :=
  ⟨
    ⟨{ at_ .join [(F.POS_STATUS_ACTIVE 3, 1), (F.POS_CFG_MODE 3, 1), (F.POS_LEVELS_FILTERED 3, 0), (F.POS_FILTER_N_A 3, 5), (F.POS_FILTER_N_B 3, 5), (F.POS_FILTER_N_I 3, 5), (F.POS_FILTER_N_PRB 3, 5)] with poss := List.replicate 4 { taken := [.countStep 3 100 1 5] } },
      3, 100, 1, 5, by decide +kernel⟩,
    ⟨at_ .join [(F.POS_STATUS_ACTIVE 3, 1), (F.POS_CFG_MODE 3, 1), (F.POS_LEVELS_FILTERED 3, 0), (F.POS_FILTER_N_A 3, 5),
      (F.POS_FILTER_N_B 3, 5), (F.POS_FILTER_N_I 3, 5), (F.POS_FILTER_N_PRB 3, 5)], 3, 100, 4, 255, 2, by decide +kernel⟩,
    ⟨at_ .join [(F.POS_STATUS_ACTIVE 3, 1), (F.POS_CFG_MODE 3, 1), (F.POS_LEVELS_FILTERED 3, 0), (F.POS_FILTER_N_A 3, 5),
      (F.POS_FILTER_N_B 3, 5), (F.POS_FILTER_N_I 3, 5), (F.POS_FILTER_N_PRB 3, 5)], 3, 100, 1, 5, by decide +kernel⟩,
    ⟨at_ .join [(F.POS_STATUS_ACTIVE 3, 1), (F.POS_CFG_MODE 3, 1), (F.POS_LEVELS_FILTERED 3, 4), (F.POS_FILTER_N_A 3, 5),
      (F.POS_FILTER_N_B 3, 5), (F.POS_FILTER_N_I 3, 5), (F.POS_FILTER_N_PRB 3, 5)], 3, 100, 0, 5, by decide +kernel⟩,
    ⟨at_ .join [(F.POS_STATUS_ACTIVE 3, 1), (F.POS_CFG_MODE 3, 1), (F.POS_LEVELS_FILTERED 3, 0), (F.POS_FILTER_N_A 3, 5),
      (F.POS_FILTER_N_B 3, 5), (F.POS_FILTER_N_I 3, 5), (F.POS_FILTER_N_PRB 3, 5)], 3, 100, 2, 5, by decide +kernel⟩,
    ⟨at_ .join [(F.POS_STATUS_ACTIVE 3, 1), (F.POS_CFG_MODE 3, 1), (F.POS_LEVELS_FILTERED 3, 0), (F.POS_FILTER_N_A 3, 5),
      (F.POS_FILTER_N_B 3, 5), (F.POS_FILTER_N_I 3, 5), (F.POS_FILTER_N_PRB 3, 5)], 3, 100, 3, 5, by decide +kernel⟩,
    ⟨at_ .join [(F.POS_STATUS_ACTIVE 3, 1), (F.POS_CFG_MODE 3, 1), (F.POS_LEVELS_FILTERED 3, 0), (F.POS_FILTER_N_A 3, 5),
      (F.POS_FILTER_N_B 3, 5), (F.POS_FILTER_N_I 3, 5), (F.POS_FILTER_N_PRB 3, 5), (F.POS_CPR_CPR 3, 4096)], 3, 100, 5, 5,
      by decide +kernel⟩,
    ⟨at_ .join [(F.POS_STATUS_ACTIVE 3, 1), (F.POS_CFG_MODE 3, 3), (F.POS_LEVELS_FILTERED 3, 12), (F.POS_FILTER_N_A 3, 5),
      (F.POS_FILTER_N_B 3, 5), (F.POS_FILTER_N_I 3, 5), (F.POS_FILTER_N_PRB 3, 5)], 3, 100, 7, 5, by decide +kernel⟩,
    ⟨{ at_ .join [(F.POS_STATUS_ACTIVE 3, 1), (F.POS_CFG_MODE 3, 1), (F.POS_LEVELS_FILTERED 3, 0), (F.POS_FILTER_N_A 3, 5), (F.POS_FILTER_N_B 3, 5), (F.POS_FILTER_N_I 3, 5), (F.POS_FILTER_N_PRB 3, 5)] with poss := List.replicate 4 { since := [100, 100, 100] } },
      3, 100, 1, 4, 1, by decide +kernel⟩,
    ⟨{ at_ .join [(F.POS_STATUS_ACTIVE 3, 1), (F.POS_CFG_MODE 3, 3), (F.POS_LEVELS_FILTERED 3, 0), (F.POS_FILTER_N_A 3, 5), (F.POS_FILTER_N_B 3, 5), (F.POS_FILTER_N_I 3, 5), (F.POS_FILTER_N_PRB 3, 5)] with poss := List.replicate 4 { since := [100, 100, 100] } },
      3, 100, 7, 0, 3, by decide +kernel⟩,
    ⟨at_ .join [(F.POS_STATUS_ACTIVE 3, 1), (F.POS_CFG_MODE 3, 1), (F.POS_LEVELS_FILTERED 3, 0), (F.POS_FILTER_N_A 3, 5),
      (F.POS_FILTER_N_B 3, 5), (F.POS_FILTER_N_I 3, 5), (F.POS_FILTER_N_PRB 3, 5)], 3, (at_ .join [(F.POS_STATUS_ACTIVE 3, 1),
      (F.POS_CFG_MODE 3, 1), (F.POS_LEVELS_FILTERED 3, 0), (F.POS_FILTER_N_A 3, 5), (F.POS_FILTER_N_B 3, 5), (F.POS_FILTER_N_I
      3, 5), (F.POS_FILTER_N_PRB 3, 5)]).nextTick, 1, 5, by decide +kernel⟩,
    ⟨{ at_ .join [(F.POS_STATUS_ACTIVE 3, 1), (F.POS_CFG_MODE 3, 1), (F.POS_LEVELS_FILTERED 3, 0), (F.POS_FILTER_N_A 3, 5), (F.POS_FILTER_N_B 3, 5), (F.POS_FILTER_N_I 3, 5), (F.POS_FILTER_N_PRB 3, 5)] with pending := [.countStep 3 105 1 5] },
      3, 100, 5, .countStep 3 105 1 5, by decide +kernel⟩,
    ⟨at_ .join [(F.POS_STATUS_ACTIVE 3, 1), (F.POS_CFG_MODE 3, 1), (F.POS_LEVELS_FILTERED 3, 0), (F.POS_FILTER_N_A 3, 5),
      (F.POS_FILTER_N_B 3, 5), (F.POS_FILTER_N_I 3, 5), (F.POS_FILTER_N_PRB 3, 5), (F.POS_CPR_CPR 3, 4096), (F.POS_COUNT_COUNT
      3, 2048)], 3, 100, 5, -2048, by decide +kernel⟩,
    ⟨{ at_ .join [(F.POS_STATUS_ACTIVE 3, 1), (F.POS_CFG_MODE 3, 1), (F.POS_LEVELS_FILTERED 3, 0), (F.POS_FILTER_N_A 3, 5), (F.POS_FILTER_N_B 3, 5), (F.POS_FILTER_N_I 3, 5), (F.POS_FILTER_N_PRB 3, 5), (F.POS_CPR_CPR 3, 4096), (F.POS_COUNT_COUNT 3, 2047), (F.POS_STATUS_CAND 3, 1)] with poss := List.replicate 4 { cand := 2047 } },
      3, 100, 5, 2047, by decide +kernel⟩,
    ⟨{ at_ .join [(F.POS_STATUS_ACTIVE 3, 1), (F.POS_CFG_MODE 3, 1), (F.POS_LEVELS_FILTERED 3, 0), (F.POS_FILTER_N_A 3, 5), (F.POS_FILTER_N_B 3, 5), (F.POS_FILTER_N_I 3, 5), (F.POS_FILTER_N_PRB 3, 5), (F.POS_CPR_CPR 3, 4096), (F.POS_COUNT_COUNT 3, 4096), (F.POS_STATUS_CAND 3, 1)] with poss := List.replicate 4 { cand := 0 } },
      3, 100, 5, 0, by decide +kernel⟩,
    ⟨at_ .join [(F.POS_STATUS_ACTIVE 3, 1), (F.POS_CFG_MODE 3, 1), (F.POS_LEVELS_FILTERED 3, 0), (F.POS_FILTER_N_A 3, 5),
      (F.POS_FILTER_N_B 3, 5), (F.POS_FILTER_N_I 3, 5), (F.POS_FILTER_N_PRB 3, 5), (F.POS_CPR_CPR 3, 4096), (F.POS_COUNT_COUNT
      3, 4095), (F.POS_STATUS_HOMED 3, 1)], 3, 100, 5, -1, by decide +kernel⟩,
    ⟨at_ .join [(F.POS_STATUS_ACTIVE 3, 1), (F.POS_CFG_MODE 3, 4), (F.POS_LEVELS_FILTERED 3, 0), (F.POS_FILTER_N_A 3, 5),
      (F.POS_FILTER_N_B 3, 5), (F.POS_FILTER_N_I 3, 5), (F.POS_FILTER_N_PRB 3, 5), (F.POS_PRB_CFG_EDGE 3, 2)], 3, 100, 4, 5,
      false, by decide +kernel⟩,
    ⟨at_ .join [(F.POS_STATUS_ACTIVE 3, 1), (F.POS_CFG_MODE 3, 1), (F.POS_LEVELS_FILTERED 3, 0), (F.POS_FILTER_N_A 3, 5),
      (F.POS_FILTER_N_B 3, 5), (F.POS_FILTER_N_I 3, 5), (F.POS_FILTER_N_PRB 3, 5), (F.POS_PRB_CFG_EDGE 3, 1)], 3, 100, 1, 5,
      true, by decide +kernel⟩,
    ⟨at_ .join [(F.POS_STATUS_ACTIVE 3, 1), (F.POS_CFG_MODE 3, 4), (F.POS_LEVELS_FILTERED 3, 0), (F.POS_FILTER_N_A 3, 5),
      (F.POS_FILTER_N_B 3, 5), (F.POS_FILTER_N_I 3, 5), (F.POS_FILTER_N_PRB 3, 5), (F.POS_PRB_CFG_EDGE 3, 2),
      (F.POS_STATUS_PRB_FULL 3, 1)], 3, 100, 4, 5, false, by decide +kernel⟩⟩

theorem test_hyps_SerialWords :
    (∃ s : State, ∃ i : Nat, ∃ t : Nat, ∃ released, s.sys.phase = .run ∧ i < 4 ∧ s.poss.length = 4 ∧ s.flag
      (F.POS_STATUS_ACTIVE i) = true ∧ s.getF (F.POS_CFG_MODE i) = 4 ∧ (s.pos i).run = false ∧ released + 1000 * s.getF
      (F.POS_SER_TIMING_RECOVERY i) ≤ t ∧ (t + 1000 * s.getF (F.POS_SER_TIMING_READ_ADV i) + 31250 * s.slotShift) % (31250 *
      serialTicks (s.getF (F.POS_SER_CFG_PERIOD i))) = 0) ∧
    (∃ s : State, ∃ i : Nat, ∃ t : Nat, ∃ released, s.sys.phase = .run ∧ i < 4 ∧ s.poss.length = 4 ∧ s.flag
      (F.POS_STATUS_ACTIVE i) = true ∧ s.getF (F.POS_CFG_MODE i) = 4 ∧ (s.pos i).run = false ∧ released + 1000 * s.getF
      (F.POS_SER_TIMING_RECOVERY i) ≤ t ∧ (t + 1000 * s.getF (F.POS_SER_TIMING_READ_ADV i) + 31250 * s.slotShift) % (31250 *
      serialTicks (s.getF (F.POS_SER_CFG_PERIOD i))) = 0) ∧
    (∃ s : State, ∃ i : Nat, ∃ t : Nat, ∃ released, s.sys.phase = .run ∧ i < 4 ∧ s.poss.length = 4 ∧ s.flag
      (F.POS_STATUS_ACTIVE i) = true ∧ s.getF (F.POS_CFG_MODE i) = 4 ∧ (t < released + 1000 * s.getF
      (F.POS_SER_TIMING_RECOVERY i) ∨ (t + 1000 * s.getF (F.POS_SER_TIMING_READ_ADV i) + 31250 * s.slotShift) % (31250 *
      serialTicks (s.getF (F.POS_SER_CFG_PERIOD i))) ≠ 0)) ∧
    (∃ s : State, ∃ i : Nat, ∃ t : Nat, ∃ released, s.sys.phase = .run ∧ i < 4 ∧ s.poss.length = 4 ∧ s.flag
      (F.POS_STATUS_ACTIVE i) = true ∧ s.getF (F.POS_CFG_MODE i) = 4 ∧ (t < released + 1000 * s.getF
      (F.POS_SER_TIMING_RECOVERY i) ∨ (t + 1000 * s.getF (F.POS_SER_TIMING_READ_ADV i) + 31250 * s.slotShift) % (31250 *
      serialTicks (s.getF (F.POS_SER_CFG_PERIOD i))) ≠ 0)) ∧
    (∃ s : State, ∃ i : Nat, ∃ t : Nat, ∃ released, s.sys.phase = .run ∧ i < 4 ∧ s.poss.length = 4 ∧ s.flag
      (F.POS_STATUS_ACTIVE i) = true ∧ s.getF (F.POS_CFG_MODE i) = 4 ∧ (s.pos i).run = false ∧ (s.pos i).due = true ∧ (s.pos
      i).pend = true ∧ released + 1000 * s.getF (F.POS_SER_TIMING_RECOVERY i) ≤ t ∧ s.lastBit i t < s.serialNext i (s.pos
      i).latch) ∧
    (∃ s : State, ∃ i : Nat, ∃ t : Nat, s.sys.phase = .run ∧ i < 4 ∧ s.poss.length = 4 ∧ s.flag (F.POS_STATUS_ACTIVE i) = true
      ∧ s.getF (F.POS_CFG_MODE i) = 4 ∧ s.serialNext i (s.pos i).latch ≤ s.lastBit i t) ∧
    (∃ s : State, ∃ i : Nat, ∃ t : Nat, ∃ data, ∃ crc, s.sys.phase = .run ∧ i < 4 ∧ s.poss.length = 4 ∧ s.flag
      (F.POS_STATUS_ACTIVE i) = true ∧ s.getF (F.POS_CFG_MODE i) = 4 ∧ t / 10 ≠ s.nextTick / 10 ∧ .serialWordEnd i t false
      data false crc ∉ (s.pos i).taken ∧ ((∀ c ∈ s.pending, isStep c = true → s.posClock c ≠ some (i, t / 10))) ∧ (s.pos
      i).run = true ∧ (s.pos i).retry = false ∧ data < 2 ^ s.getF (F.POS_SER_CFG_DATA_BITS i) ∧ crc = crc6 (bitsOf (s.getF
      (F.POS_SER_CFG_DATA_BITS i)) data ++ [false])) ∧
    (∃ s : State, ∃ i : Nat, ∃ t : Nat, ∃ data, ∃ err, ∃ crc, s.sys.phase = .run ∧ i < 4 ∧ s.poss.length = 4 ∧ s.flag
      (F.POS_STATUS_ACTIVE i) = true ∧ s.getF (F.POS_CFG_MODE i) = 4 ∧ t / 10 ≠ s.nextTick / 10 ∧ .serialWordEnd i t true data
      err crc ∉ (s.pos i).taken ∧ ((∀ c ∈ s.pending, isStep c = true → s.posClock c ≠ some (i, t / 10))) ∧ (s.pos i).run =
      true ∧ (s.pos i).retry = false) ∧
    (∃ s : State, ∃ i : Nat, ∃ t : Nat, ∃ data, ∃ err, ∃ crc, s.sys.phase = .run ∧ i < 4 ∧ s.poss.length = 4 ∧ s.flag
      (F.POS_STATUS_ACTIVE i) = true ∧ s.getF (F.POS_CFG_MODE i) = 4 ∧ t / 10 ≠ s.nextTick / 10 ∧ .serialWordEnd i t true data
      err crc ∉ (s.pos i).taken ∧ ((∀ c ∈ s.pending, isStep c = true → s.posClock c ≠ some (i, t / 10))) ∧ (s.pos i).run =
      true ∧ (s.pos i).retry = true ∧ s.Quiet (0x36 + 5 * i) ∧ s.asserted (0x36 + 5 * i) = false) ∧
    (∃ s : State, ∃ i : Nat, s.sys.phase = .run ∧ i < 4 ∧ s.poss.length = 4 ∧ s.flag (F.POS_STATUS_ACTIVE i) = true ∧ s.getF
      (F.POS_CFG_MODE i) = 4 ∧ (s.pos i).ended = true ∧ (s.pos i).failed = false ∧ (s.pos i).again = false) ∧
    (∃ s : State, ∃ i : Nat, s.sys.phase = .run ∧ i < 4 ∧ s.poss.length = 4 ∧ s.flag (F.POS_STATUS_ACTIVE i) = true ∧ s.getF
      (F.POS_CFG_MODE i) = 4 ∧ s.flag (F.POS_STATUS_PT_ACTIVE i) = true) :=
  ⟨
    ⟨{ at_ .join [(F.POS_STATUS_ACTIVE 3, 1), (F.POS_CFG_MODE 3, 4), (F.POS_SER_TIMING_RECOVERY 3, 1), (F.POS_SER_TIMING_READ_ADV 3, 1)] with poss := List.replicate 4 {} },
      3, 30250, 29250, by decide +kernel⟩,
    ⟨{ at_ .shadow [(F.POS_STATUS_ACTIVE 3, 1), (F.POS_CFG_MODE 3, 4), (F.POS_SER_TIMING_RECOVERY 3, 1), (F.POS_SER_TIMING_READ_ADV 3, 1)] with poss := List.replicate 4 {} },
      3, 30250, 29250, by decide +kernel⟩,
    ⟨{ at_ .join [(F.POS_STATUS_ACTIVE 3, 1), (F.POS_CFG_MODE 3, 4), (F.POS_SER_TIMING_RECOVERY 3, 1), (F.POS_SER_TIMING_READ_ADV 3, 1)] with poss := List.replicate 4 {} },
      3, 30250, 29251, by decide +kernel⟩,
    ⟨{ at_ .join [(F.POS_STATUS_ACTIVE 3, 1), (F.POS_CFG_MODE 3, 4), (F.POS_SER_TIMING_RECOVERY 3, 1), (F.POS_SER_TIMING_READ_ADV 3, 1)] with poss := List.replicate 4 {} },
      3, 30249, 0, by decide +kernel⟩,
    ⟨{ at_ .join [(F.POS_STATUS_ACTIVE 3, 1), (F.POS_CFG_MODE 3, 4), (F.POS_SER_TIMING_RECOVERY 3, 1), (F.POS_SER_TIMING_READ_ADV 3, 1)] with poss := List.replicate 4 { due := true, pend := true } },
      3, 1000, 0, by decide +kernel⟩,
    ⟨{ at_ .join [(F.POS_STATUS_ACTIVE 3, 1), (F.POS_CFG_MODE 3, 4), (F.POS_SER_TIMING_RECOVERY 3, 1), (F.POS_SER_TIMING_READ_ADV 3, 1)] with poss := List.replicate 4 { due := true, pend := true, latch := 0 } },
      3, 31250, by decide +kernel⟩,
    ⟨{ at_ .join [(F.POS_STATUS_ACTIVE 3, 1), (F.POS_CFG_MODE 3, 4), (F.POS_SER_TIMING_RECOVERY 3, 1), (F.POS_SER_TIMING_READ_ADV 3, 1), (F.POS_SER_CFG_DATA_BITS 3, 20)] with poss := List.replicate 4 { run := true, latch := 5 } },
      3, 100, 1048575, crc6 (bitsOf 20 1048575 ++ [false]), by decide +kernel⟩,
    ⟨{ at_ .join [(F.POS_STATUS_ACTIVE 3, 1), (F.POS_CFG_MODE 3, 4), (F.POS_SER_TIMING_RECOVERY 3, 1), (F.POS_SER_TIMING_READ_ADV 3, 1)] with poss := List.replicate 4 { run := true } },
      3, 100, 5, false, 0, by decide +kernel⟩,
    ⟨{ at_ .join [(F.POS_STATUS_ACTIVE 3, 1), (F.POS_CFG_MODE 3, 4), (F.POS_SER_TIMING_RECOVERY 3, 1), (F.POS_SER_TIMING_READ_ADV 3, 1)] with poss := List.replicate 4 { run := true, retry := true } },
      3, 100, 5, false, 0, by decide +kernel⟩,
    ⟨{ at_ .join [(F.POS_STATUS_ACTIVE 3, 1), (F.POS_CFG_MODE 3, 4), (F.POS_SER_TIMING_RECOVERY 3, 1), (F.POS_SER_TIMING_READ_ADV 3, 1)] with poss := List.replicate 4 { ended := true } },
      3, by decide +kernel⟩,
    ⟨{ at_ .join [(F.POS_STATUS_ACTIVE 3, 1), (F.POS_CFG_MODE 3, 4), (F.POS_SER_TIMING_RECOVERY 3, 1), (F.POS_SER_TIMING_READ_ADV 3, 1), (F.POS_STATUS_PT_ACTIVE 3, 1)] with poss := List.replicate 4 {} },
      3, by decide +kernel⟩⟩

theorem test_hyps_AdcSequences :
    (∃ s : State, s.sys.phase = .run) ∧
    (∃ s : State, ∃ v, s.sys.phase = .run ∧ s.sys.joined = true ∧ v < 8 ∧ .regular v ∈ s.adc.starts ∧ s.flag
      (F.ADC_CONV_CFG_ENABLE v) = true ∧ 0 < s.getF (F.ADC_CONV_CFG_REG_LEN v) ∧ s.getF (F.ADC_CONV_STAT_STATE v) = 0 ∧
      (s.conv v).wait = false) ∧
    (∃ s : State, ∃ v, s.sys.phase = .run ∧ s.sys.joined = true ∧ v < 8 ∧ .injected v ∈ s.adc.starts ∧ s.flag
      (F.ADC_CONV_CFG_ENABLE v) = true ∧ 0 < s.getF (F.ADC_CONV_CFG_INJ_LEN v) ∧ (s.getF (F.ADC_CONV_STAT_STATE v) < 2 ∨
      s.getF (F.ADC_CONV_STAT_STATE v) = 3)) ∧
    (∃ s : State, ∃ v, s.sys.phase = .run ∧ s.sys.joined = true ∧ v < 8 ∧ .injected v ∈ s.adc.starts ∧ s.flag
      (F.ADC_CONV_CFG_ENABLE v) = true ∧ 0 < s.getF (F.ADC_CONV_CFG_INJ_LEN v) ∧ (s.getF (F.ADC_CONV_STAT_STATE v) < 2 ∨
      s.getF (F.ADC_CONV_STAT_STATE v) = 3)) ∧
    (∃ s : State, ∃ v, s.sys.phase = .run ∧ s.sys.joined = true ∧ v < 8 ∧ .injected v ∈ s.adc.starts ∧ s.flag
      (F.ADC_CONV_CFG_ENABLE v) = true ∧ 0 < s.getF (F.ADC_CONV_CFG_INJ_LEN v) ∧ s.getF (F.ADC_CONV_STAT_STATE v) = 2) ∧
    (∃ s : State, ∃ p, s.sys.phase = .run ∧ s.sys.joined = true ∧ p < 4 ∧ .pair p ∈ s.adc.starts ∧ s.flag (F.ADC_PAIR_CFG_EN
      p) = true ∧ ((∀ v, v < 8 → v / 2 = p → s.flag (F.ADC_CONV_CFG_ENABLE v) = true ∧ s.getF (F.ADC_CONV_STAT_STATE v) < 2))) ∧
    (∃ s : State, ∃ g, s.sys.phase = .run ∧ s.sys.joined = true ∧ g < 4 ∧ .group g ∈ s.adc.starts ∧ s.flag (F.ADC_GROUP_EN g)
      = true ∧ ((∀ v, v < 8 → bit (s.getF (F.ADC_GROUP_MEMBERS g)) v = true → s.flag (F.ADC_CONV_CFG_ENABLE v) = true ∧ s.getF
      (F.ADC_CONV_STAT_STATE v) < 2))) :=
  ⟨
    ⟨at_ .join [], by decide +kernel⟩,
    ⟨{ at_ .join [(F.ADC_CONV_CFG_ENABLE 7, 1), (F.ADC_CONV_CFG_REG_LEN 7, 8)] with adc := { starts := [.regular 7] } }, 7,
      by decide +kernel⟩,
    ⟨{ at_ .join [(F.ADC_CONV_CFG_ENABLE 7, 1), (F.ADC_CONV_CFG_INJ_LEN 7, 1), (F.ADC_CONV_STAT_STATE 7, 3)] with adc := { starts := [.injected 7] } },
      7, by decide +kernel⟩,
    ⟨{ at_ .join [(F.ADC_CONV_CFG_ENABLE 7, 1), (F.ADC_CONV_CFG_INJ_LEN 7, 1), (F.ADC_CONV_STAT_STATE 7, 1)] with adc := { starts := [.injected 7] } },
      7, by decide +kernel⟩,
    ⟨{ at_ .join [(F.ADC_CONV_CFG_ENABLE 7, 1), (F.ADC_CONV_CFG_INJ_LEN 7, 1), (F.ADC_CONV_STAT_STATE 7, 2)] with adc := { starts := [.injected 7] } },
      7, by decide +kernel⟩,
    ⟨{ at_ .join [(F.ADC_PAIR_CFG_EN 3, 1), (F.ADC_CONV_CFG_ENABLE 0, 1), (F.ADC_CONV_CFG_ENABLE 1, 1), (F.ADC_CONV_CFG_ENABLE 2, 1), (F.ADC_CONV_CFG_ENABLE 3, 1), (F.ADC_CONV_CFG_ENABLE 4, 1), (F.ADC_CONV_CFG_ENABLE 5, 1), (F.ADC_CONV_CFG_ENABLE 6, 1), (F.ADC_CONV_CFG_ENABLE 7, 1)] with adc := { starts := [.pair 3] } },
      3, by decide +kernel⟩,
    ⟨{ at_ .join [(F.ADC_GROUP_EN 3, 1), (F.ADC_GROUP_MEMBERS 3, 255), (F.ADC_CONV_CFG_ENABLE 0, 1), (F.ADC_CONV_CFG_ENABLE 1, 1), (F.ADC_CONV_CFG_ENABLE 2, 1), (F.ADC_CONV_CFG_ENABLE 3, 1), (F.ADC_CONV_CFG_ENABLE 4, 1), (F.ADC_CONV_CFG_ENABLE 5, 1), (F.ADC_CONV_CFG_ENABLE 6, 1), (F.ADC_CONV_CFG_ENABLE 7, 1)] with adc := { starts := [.group 3] } },
      3, by decide +kernel⟩⟩

theorem test_hyps_AdcResults :
    (∃ s : State, ∃ v, ∃ ch, ∃ input : Int, s.sys.phase = .run ∧ v < 8 ∧ s.getF (F.ADC_CONV_STAT_STATE v) = 1 ∧ (s.conv
      v).tail = none ∧ s.adc.ow = none ∧ ch = s.regEntry v (s.getF (F.ADC_CONV_STAT_POS v)) ∧ ch < 64 ∧ s.flag
      (F.ADC_CONV_STAT_FAILED v) = false ∧ -15000 ≤ input ∧ input ≤ 3015000) ∧
    (∃ s : State, ∃ v, ∃ ch, ∃ input : Int, s.sys.phase = .run ∧ v < 8 ∧ s.getF (F.ADC_CONV_STAT_STATE v) = 1 ∧ (s.conv
      v).tail = none ∧ s.adc.ow = none ∧ ch = s.regEntry v (s.getF (F.ADC_CONV_STAT_POS v)) ∧ ch < 64 ∧ s.flag
      (F.ADC_CONV_STAT_FAILED v) = false ∧ -15000 ≤ input ∧ input ≤ 3015000) ∧
    (∃ s : State, ∃ v, ∃ ch, ∃ input : Int, s.sys.phase = .run ∧ v < 8 ∧ s.getF (F.ADC_CONV_STAT_STATE v) = 1 ∧ (s.conv
      v).tail = none ∧ s.adc.ow = none ∧ ch = s.regEntry v (s.getF (F.ADC_CONV_STAT_POS v)) ∧ ch < 64 ∧ s.flag
      (F.ADC_CONV_STAT_FAILED v) = false ∧ (input < -15000 ∨ 3015000 < input) ∧ s.Quiet 0x9F ∧ s.asserted 0x9F = false) ∧
    (∃ s : State, ∃ v, ∃ ch, ∃ input : Int, s.sys.phase = .run ∧ v < 8 ∧ s.getF (F.ADC_CONV_STAT_STATE v) = 1 ∧ (s.conv
      v).tail = none ∧ s.adc.ow = none ∧ ch = s.regEntry v (s.getF (F.ADC_CONV_STAT_POS v)) ∧ ch < 64 ∧ s.flag
      (F.ADC_CONV_STAT_FAILED v) = false ∧ (input < -15000 ∨ 3015000 < input) ∧ s.Quiet 0x9F ∧ s.asserted 0x9F = false) ∧
    (∃ s : State, ∃ v, ∃ bg, ∃ gnd, ∃ input : Int, ∃ again : Bool, s.sys.phase = .run ∧ v < 8 ∧ bg < 16384 ∧ s.adc.conv.length
      = 8 ∧ s.getF (F.ADC_CONV_STAT_STATE v) = 3 ∧ (s.conv v).tail = none ∧ (s.conv v).ref = some
      { codes := [bg], again := again } ∧ s.adc.ow = none ∧ -15000 ≤ input ∧ input ≤ 3015000 ∧ gnd = min 16383 (((input *
      16384 + 1500000) / 3000000).toNat) ∧ s.refPass bg gnd = true) ∧
    (∃ s : State, ∃ v, ∃ bg, ∃ gnd, ∃ input : Int, ∃ again : Bool, s.sys.phase = .run ∧ v < 8 ∧ bg < 16384 ∧ s.adc.conv.length
      = 8 ∧ s.getF (F.ADC_CONV_STAT_STATE v) = 3 ∧ (s.conv v).tail = none ∧ (s.conv v).ref = some
      { codes := [bg], again := again } ∧ s.adc.ow = none ∧ -15000 ≤ input ∧ input ≤ 3015000 ∧ gnd = min 16383 (((input *
      16384 + 1500000) / 3000000).toNat) ∧ s.refPass bg gnd = false ∧ again = false) ∧
    (∃ s : State, ∃ v, ∃ bg, ∃ gnd, ∃ input : Int, ∃ again : Bool, s.sys.phase = .run ∧ v < 8 ∧ bg < 16384 ∧ s.adc.conv.length
      = 8 ∧ s.getF (F.ADC_CONV_STAT_STATE v) = 3 ∧ (s.conv v).tail = none ∧ (s.conv v).ref = some
      { codes := [bg], again := again } ∧ s.adc.ow = none ∧ -15000 ≤ input ∧ input ≤ 3015000 ∧ gnd = min 16383 (((input *
      16384 + 1500000) / 3000000).toNat) ∧ s.refPass bg gnd = false ∧ again = true ∧ s.flag (F.ADC_CONV_STAT_FAILED v) = false
      ∧ s.Quiet (0x97 + v) ∧ s.asserted (0x97 + v) = false) ∧
    (∃ s : State, s.sys.phase = .run ∧ s.sys.joined = true ∧ s.adc.conv.length = 8) ∧
    (∃ s : State, ∃ x, s.sys.phase = .run ∧ s.sys.joined = true ∧ s.mode ≠ .join ∧ s.adc.ow = some x) ∧
    (∃ s : State, s.sys.phase = .run ∧ s.sys.joined = true ∧ s.mode = .join) ∧
    (∃ s : State, ∃ ch, s.sys.phase = .run ∧ s.sys.joined = true ∧ s.mode ≠ .join ∧ s.adc.ow = none ∧ s.owNext = some ch) :=
  ⟨
    ⟨at_ .join [(F.ADC_CONV_STAT_STATE 7, 1), (F.ADC_RSEQ_LO_ENTRY 7 0, 63)], 7, 63, 3015000, by decide +kernel⟩,
    ⟨at_ .join [(F.ADC_CONV_STAT_STATE 7, 1), (F.ADC_RSEQ_LO_ENTRY 7 0, 63)], 7, 63, (-15000), by decide +kernel⟩,
    ⟨at_ .join [(F.ADC_CONV_STAT_STATE 7, 1), (F.ADC_RSEQ_LO_ENTRY 7 0, 63)], 7, 63, 3015001, by decide +kernel⟩,
    ⟨at_ .join [(F.ADC_CONV_STAT_STATE 7, 1), (F.ADC_RSEQ_LO_ENTRY 7 0, 63)], 7, 63, (-15001), by decide +kernel⟩,
    ⟨{ at_ .join [(F.ADC_CONV_STAT_STATE 7, 3), (F.ADC_CONV_CFG_ENABLE 7, 1), (F.ADC_REF_CFG_TOL_BG, 10), (F.ADC_REF_CFG_TOL_GND, 5)] with adc := { conv := List.replicate 8 { ref := some { codes := [6564], again := false } } } },
      7, 6564, 5, 916, false, by decide +kernel⟩,
    ⟨{ at_ .join [(F.ADC_CONV_STAT_STATE 7, 3), (F.ADC_CONV_CFG_ENABLE 7, 1), (F.ADC_REF_CFG_TOL_BG, 10), (F.ADC_REF_CFG_TOL_GND, 5)] with adc := { conv := List.replicate 8 { ref := some { codes := [6565], again := false } } } },
      7, 6565, 5, 916, false, by decide +kernel⟩,
    ⟨{ at_ .join [(F.ADC_CONV_STAT_STATE 7, 3), (F.ADC_CONV_CFG_ENABLE 7, 1), (F.ADC_REF_CFG_TOL_BG, 10), (F.ADC_REF_CFG_TOL_GND, 5)] with adc := { conv := List.replicate 8 { ref := some { codes := [6565], again := true } } } },
      7, 6565, 5, 916, true, by decide +kernel⟩,
    ⟨at_ .join [(F.ADC_CONV_CFG_ENABLE 7, 1)], by decide +kernel⟩,
    ⟨{ at_ .service [] with adc := { ow := some { chan := 3, phases := [], repeating := false, pass := true } } },
      { chan := 3, phases := [], repeating := false, pass := true }, by decide +kernel⟩,
    ⟨at_ .join [], by decide +kernel⟩,
    ⟨at_ .service [(F.ADC_OW_CFG_OW 2 15, 1)], 47, by decide +kernel⟩⟩

theorem test_hyps_RegisterWrite :
    (∃ s : State, ∃ a : Nat, ∃ k, ∃ i, s.sys.phase = .run ∧ findReg a = some (k, i) ∧ isoAbsent a = false ∧ 0x40000000 ≤ a ∧
      s.mode = .service ∧ ownWrite a = false ∧ a ≠ (F.PWR_DOM_VOTE_SVC_VOTE i).addr ∧ k.rw ≠ 0 ∧ k.rl = 0) ∧
    (∃ s : State, ∃ a : Nat, ∃ k, ∃ i, s.sys.phase = .run ∧ findReg a = some (k, i) ∧ isoAbsent a = false ∧ 0x40000000 ≤ a ∧
      s.mode = .service ∧ ownWrite a = false ∧ a ≠ (F.PWR_DOM_VOTE_SVC_VOTE i).addr ∧ k.rw ≠ 0 ∧ k.rl = 0) ∧
    (∃ s : State, ∃ a : Nat, ∃ k, ∃ i, s.sys.phase = .run ∧ findReg a = some (k, i) ∧ isoAbsent a = false ∧ 0x40000000 ≤ a ∧
      s.mode = .service ∧ ownWrite a = false ∧ a ≠ (F.PWR_DOM_VOTE_SVC_VOTE i).addr ∧ k.rw = 0 ∧ k.rl ≠ 0) ∧
    (∃ s : State, ∃ a : Nat, ∃ k, ∃ i, s.sys.phase = .run ∧ findReg a = some (k, i) ∧ isoAbsent a = false ∧ 0x40000000 ≤ a ∧
      s.mode ≠ .service ∧ (k.rw ≠ 0 ∨ k.rl ≠ 0 ∨ k.w1c ≠ 0 ∨ k.wo ≠ 0) ∧ (forceWord a = none ∨ s.mode ≠ .selfTest)) ∧
    (∃ s : State, ∃ a : Nat, ∃ k, ∃ i, s.sys.phase = .run ∧ findReg a = some (k, i) ∧ isoAbsent a = false ∧ 0x40000000 ≤ a ∧
      s.mode ≠ .service ∧ (k.rw ≠ 0 ∨ k.rl ≠ 0 ∨ k.w1c ≠ 0 ∨ k.wo ≠ 0) ∧ (forceWord a = none ∨ s.mode ≠ .selfTest)) ∧
    (∃ s : State, ∃ a : Nat, ∃ k, ∃ i, s.sys.phase = .run ∧ findReg a = some (k, i) ∧ isoAbsent a = false ∧ 0x40000000 ≤ a ∧
      k.rw = 0 ∧ k.rl = 0 ∧ k.w1c = 0 ∧ k.wo = 0) ∧
    (∃ s : State, ∃ a : Nat, s.sys.phase = .run ∧ findReg a = none ∧ (a < 0x20000000 ∨ 0x20800000 ≤ a)) ∧
    (∃ s : State, ∃ a : Nat, s.sys.phase = .run ∧ findReg a = none ∧ (a < 0x20000000 ∨ 0x20800000 ≤ a)) ∧
    (∃ s : State, ∃ a : Nat, s.sys.phase = .run ∧ s.mode = .service ∧ 0x20000000 ≤ a ∧ a < 0x20800000) ∧
    (∃ s : State, ∃ a : Nat, s.sys.phase = .run ∧ s.mode = .service ∧ 0x20000000 ≤ a ∧ a < 0x20800000) ∧
    (∃ s : State, ∃ a : Nat, ∃ v : Word, ∃ c : Instr, s.sys.phase = .run ∧ s.mode = .service ∧ ((a = F.SYS_SWRESET_KEY.addr ∧
      c = .sysSwreset (v.toNat % 65536) ∨ a = F.IMG_FLOOR_RAISE_KEY.addr ∧ c = .imgFloorRaise (v.toNat % 65536) ∨ a =
      F.IMG_KEY_REVOKE_KEY.addr ∧ c = .imgKeyRevoke (v.toNat / 65536) v.toNat ∨ a = F.IMG_LIFECYCLE_REQ_KEY.addr ∧ c =
      .imgLifecycleReq (v.toNat / 65536) (v.toNat % 8) ∨ a = F.BST_FUSE_CMD_KEY.addr ∧ c = .bstFuseCmd (v.toNat % 65536) ∨ a =
      F.JRN_REPLAY_CMD_KEY.addr ∧ c = .jrnReplayCmd (v.toNat % 65536) ∨ a = F.ADC_START_REG.addr ∧ c = .adcStart (v.toNat %
      256) (v.toNat / 256 % 256) ∨ a = F.MBX_DB_PEND_FILLED.addr ∧ c = .mbxDbPend 3 v.toNat 0 ∨ (∃ k, k < 8 ∧ a =
      (F.LAW_EDIT_WORD_WORD k).addr ∧ c = .lawEditWord k v) ∨ (∃ w, w < 8 ∧ a = (F.FLT_FORCE_FORCE w).addr ∧ c = .fltForce w
      v.toNat)))) ∧
    (∃ s : State, ∃ a : Nat, ∃ v : Word, ∃ c : Instr, s.sys.phase = .run ∧ s.mode = .service ∧ ((a = F.SYS_SWRESET_KEY.addr ∧
      c = .sysSwreset (v.toNat % 65536) ∨ a = F.IMG_FLOOR_RAISE_KEY.addr ∧ c = .imgFloorRaise (v.toNat % 65536) ∨ a =
      F.IMG_KEY_REVOKE_KEY.addr ∧ c = .imgKeyRevoke (v.toNat / 65536) v.toNat ∨ a = F.IMG_LIFECYCLE_REQ_KEY.addr ∧ c =
      .imgLifecycleReq (v.toNat / 65536) (v.toNat % 8) ∨ a = F.BST_FUSE_CMD_KEY.addr ∧ c = .bstFuseCmd (v.toNat % 65536) ∨ a =
      F.JRN_REPLAY_CMD_KEY.addr ∧ c = .jrnReplayCmd (v.toNat % 65536) ∨ a = F.ADC_START_REG.addr ∧ c = .adcStart (v.toNat %
      256) (v.toNat / 256 % 256) ∨ a = F.MBX_DB_PEND_FILLED.addr ∧ c = .mbxDbPend 3 v.toNat 0 ∨ (∃ k, k < 8 ∧ a =
      (F.LAW_EDIT_WORD_WORD k).addr ∧ c = .lawEditWord k v) ∨ (∃ w, w < 8 ∧ a = (F.FLT_FORCE_FORCE w).addr ∧ c = .fltForce w
      v.toNat)))) ∧
    (∃ s : State, ∃ a : Nat, ∃ v : Word, ∃ c : Instr, s.sys.phase = .run ∧ s.mode = .service ∧ ((a = F.SYS_SWRESET_KEY.addr ∧
      c = .sysSwreset (v.toNat % 65536) ∨ a = F.IMG_FLOOR_RAISE_KEY.addr ∧ c = .imgFloorRaise (v.toNat % 65536) ∨ a =
      F.IMG_KEY_REVOKE_KEY.addr ∧ c = .imgKeyRevoke (v.toNat / 65536) v.toNat ∨ a = F.IMG_LIFECYCLE_REQ_KEY.addr ∧ c =
      .imgLifecycleReq (v.toNat / 65536) (v.toNat % 8) ∨ a = F.BST_FUSE_CMD_KEY.addr ∧ c = .bstFuseCmd (v.toNat % 65536) ∨ a =
      F.JRN_REPLAY_CMD_KEY.addr ∧ c = .jrnReplayCmd (v.toNat % 65536) ∨ a = F.ADC_START_REG.addr ∧ c = .adcStart (v.toNat %
      256) (v.toNat / 256 % 256) ∨ a = F.MBX_DB_PEND_FILLED.addr ∧ c = .mbxDbPend 3 v.toNat 0 ∨ (∃ k, k < 8 ∧ a =
      (F.LAW_EDIT_WORD_WORD k).addr ∧ c = .lawEditWord k v) ∨ (∃ w, w < 8 ∧ a = (F.FLT_FORCE_FORCE w).addr ∧ c = .fltForce w
      v.toNat)))) ∧
    (∃ s : State, ∃ a : Nat, ∃ v : Word, ∃ c : Instr, s.sys.phase = .run ∧ s.mode = .service ∧ ((a = F.SYS_SWRESET_KEY.addr ∧
      c = .sysSwreset (v.toNat % 65536) ∨ a = F.IMG_FLOOR_RAISE_KEY.addr ∧ c = .imgFloorRaise (v.toNat % 65536) ∨ a =
      F.IMG_KEY_REVOKE_KEY.addr ∧ c = .imgKeyRevoke (v.toNat / 65536) v.toNat ∨ a = F.IMG_LIFECYCLE_REQ_KEY.addr ∧ c =
      .imgLifecycleReq (v.toNat / 65536) (v.toNat % 8) ∨ a = F.BST_FUSE_CMD_KEY.addr ∧ c = .bstFuseCmd (v.toNat % 65536) ∨ a =
      F.JRN_REPLAY_CMD_KEY.addr ∧ c = .jrnReplayCmd (v.toNat % 65536) ∨ a = F.ADC_START_REG.addr ∧ c = .adcStart (v.toNat %
      256) (v.toNat / 256 % 256) ∨ a = F.MBX_DB_PEND_FILLED.addr ∧ c = .mbxDbPend 3 v.toNat 0 ∨ (∃ k, k < 8 ∧ a =
      (F.LAW_EDIT_WORD_WORD k).addr ∧ c = .lawEditWord k v) ∨ (∃ w, w < 8 ∧ a = (F.FLT_FORCE_FORCE w).addr ∧ c = .fltForce w
      v.toNat)))) ∧
    (∃ s : State, ∃ a : Nat, ∃ v : Word, ∃ c : Instr, s.sys.phase = .run ∧ s.mode = .service ∧ ((a = F.SYS_SWRESET_KEY.addr ∧
      c = .sysSwreset (v.toNat % 65536) ∨ a = F.IMG_FLOOR_RAISE_KEY.addr ∧ c = .imgFloorRaise (v.toNat % 65536) ∨ a =
      F.IMG_KEY_REVOKE_KEY.addr ∧ c = .imgKeyRevoke (v.toNat / 65536) v.toNat ∨ a = F.IMG_LIFECYCLE_REQ_KEY.addr ∧ c =
      .imgLifecycleReq (v.toNat / 65536) (v.toNat % 8) ∨ a = F.BST_FUSE_CMD_KEY.addr ∧ c = .bstFuseCmd (v.toNat % 65536) ∨ a =
      F.JRN_REPLAY_CMD_KEY.addr ∧ c = .jrnReplayCmd (v.toNat % 65536) ∨ a = F.ADC_START_REG.addr ∧ c = .adcStart (v.toNat %
      256) (v.toNat / 256 % 256) ∨ a = F.MBX_DB_PEND_FILLED.addr ∧ c = .mbxDbPend 3 v.toNat 0 ∨ (∃ k, k < 8 ∧ a =
      (F.LAW_EDIT_WORD_WORD k).addr ∧ c = .lawEditWord k v) ∨ (∃ w, w < 8 ∧ a = (F.FLT_FORCE_FORCE w).addr ∧ c = .fltForce w
      v.toNat)))) ∧
    (∃ s : State, ∃ a : Nat, ∃ v : Word, ∃ c : Instr, s.sys.phase = .run ∧ s.mode = .service ∧ ((a = F.SYS_SWRESET_KEY.addr ∧
      c = .sysSwreset (v.toNat % 65536) ∨ a = F.IMG_FLOOR_RAISE_KEY.addr ∧ c = .imgFloorRaise (v.toNat % 65536) ∨ a =
      F.IMG_KEY_REVOKE_KEY.addr ∧ c = .imgKeyRevoke (v.toNat / 65536) v.toNat ∨ a = F.IMG_LIFECYCLE_REQ_KEY.addr ∧ c =
      .imgLifecycleReq (v.toNat / 65536) (v.toNat % 8) ∨ a = F.BST_FUSE_CMD_KEY.addr ∧ c = .bstFuseCmd (v.toNat % 65536) ∨ a =
      F.JRN_REPLAY_CMD_KEY.addr ∧ c = .jrnReplayCmd (v.toNat % 65536) ∨ a = F.ADC_START_REG.addr ∧ c = .adcStart (v.toNat %
      256) (v.toNat / 256 % 256) ∨ a = F.MBX_DB_PEND_FILLED.addr ∧ c = .mbxDbPend 3 v.toNat 0 ∨ (∃ k, k < 8 ∧ a =
      (F.LAW_EDIT_WORD_WORD k).addr ∧ c = .lawEditWord k v) ∨ (∃ w, w < 8 ∧ a = (F.FLT_FORCE_FORCE w).addr ∧ c = .fltForce w
      v.toNat)))) ∧
    (∃ s : State, ∃ a : Nat, ∃ v : Word, ∃ c : Instr, s.sys.phase = .run ∧ s.mode = .service ∧ ((a = F.SYS_SWRESET_KEY.addr ∧
      c = .sysSwreset (v.toNat % 65536) ∨ a = F.IMG_FLOOR_RAISE_KEY.addr ∧ c = .imgFloorRaise (v.toNat % 65536) ∨ a =
      F.IMG_KEY_REVOKE_KEY.addr ∧ c = .imgKeyRevoke (v.toNat / 65536) v.toNat ∨ a = F.IMG_LIFECYCLE_REQ_KEY.addr ∧ c =
      .imgLifecycleReq (v.toNat / 65536) (v.toNat % 8) ∨ a = F.BST_FUSE_CMD_KEY.addr ∧ c = .bstFuseCmd (v.toNat % 65536) ∨ a =
      F.JRN_REPLAY_CMD_KEY.addr ∧ c = .jrnReplayCmd (v.toNat % 65536) ∨ a = F.ADC_START_REG.addr ∧ c = .adcStart (v.toNat %
      256) (v.toNat / 256 % 256) ∨ a = F.MBX_DB_PEND_FILLED.addr ∧ c = .mbxDbPend 3 v.toNat 0 ∨ (∃ k, k < 8 ∧ a =
      (F.LAW_EDIT_WORD_WORD k).addr ∧ c = .lawEditWord k v) ∨ (∃ w, w < 8 ∧ a = (F.FLT_FORCE_FORCE w).addr ∧ c = .fltForce w
      v.toNat)))) ∧
    (∃ s : State, ∃ a : Nat, ∃ v : Word, ∃ c : Instr, s.sys.phase = .run ∧ s.mode = .service ∧ ((a = F.SYS_SWRESET_KEY.addr ∧
      c = .sysSwreset (v.toNat % 65536) ∨ a = F.IMG_FLOOR_RAISE_KEY.addr ∧ c = .imgFloorRaise (v.toNat % 65536) ∨ a =
      F.IMG_KEY_REVOKE_KEY.addr ∧ c = .imgKeyRevoke (v.toNat / 65536) v.toNat ∨ a = F.IMG_LIFECYCLE_REQ_KEY.addr ∧ c =
      .imgLifecycleReq (v.toNat / 65536) (v.toNat % 8) ∨ a = F.BST_FUSE_CMD_KEY.addr ∧ c = .bstFuseCmd (v.toNat % 65536) ∨ a =
      F.JRN_REPLAY_CMD_KEY.addr ∧ c = .jrnReplayCmd (v.toNat % 65536) ∨ a = F.ADC_START_REG.addr ∧ c = .adcStart (v.toNat %
      256) (v.toNat / 256 % 256) ∨ a = F.MBX_DB_PEND_FILLED.addr ∧ c = .mbxDbPend 3 v.toNat 0 ∨ (∃ k, k < 8 ∧ a =
      (F.LAW_EDIT_WORD_WORD k).addr ∧ c = .lawEditWord k v) ∨ (∃ w, w < 8 ∧ a = (F.FLT_FORCE_FORCE w).addr ∧ c = .fltForce w
      v.toNat)))) ∧
    (∃ s : State, ∃ a : Nat, ∃ v : Word, ∃ c : Instr, s.sys.phase = .run ∧ s.mode = .service ∧ ((a = F.SYS_SWRESET_KEY.addr ∧
      c = .sysSwreset (v.toNat % 65536) ∨ a = F.IMG_FLOOR_RAISE_KEY.addr ∧ c = .imgFloorRaise (v.toNat % 65536) ∨ a =
      F.IMG_KEY_REVOKE_KEY.addr ∧ c = .imgKeyRevoke (v.toNat / 65536) v.toNat ∨ a = F.IMG_LIFECYCLE_REQ_KEY.addr ∧ c =
      .imgLifecycleReq (v.toNat / 65536) (v.toNat % 8) ∨ a = F.BST_FUSE_CMD_KEY.addr ∧ c = .bstFuseCmd (v.toNat % 65536) ∨ a =
      F.JRN_REPLAY_CMD_KEY.addr ∧ c = .jrnReplayCmd (v.toNat % 65536) ∨ a = F.ADC_START_REG.addr ∧ c = .adcStart (v.toNat %
      256) (v.toNat / 256 % 256) ∨ a = F.MBX_DB_PEND_FILLED.addr ∧ c = .mbxDbPend 3 v.toNat 0 ∨ (∃ k, k < 8 ∧ a =
      (F.LAW_EDIT_WORD_WORD k).addr ∧ c = .lawEditWord k v) ∨ (∃ w, w < 8 ∧ a = (F.FLT_FORCE_FORCE w).addr ∧ c = .fltForce w
      v.toNat)))) ∧
    (∃ s : State, ∃ a : Nat, ∃ v : Word, ∃ c : Instr, s.sys.phase = .run ∧ s.mode = .service ∧ ((a = F.SYS_SWRESET_KEY.addr ∧
      c = .sysSwreset (v.toNat % 65536) ∨ a = F.IMG_FLOOR_RAISE_KEY.addr ∧ c = .imgFloorRaise (v.toNat % 65536) ∨ a =
      F.IMG_KEY_REVOKE_KEY.addr ∧ c = .imgKeyRevoke (v.toNat / 65536) v.toNat ∨ a = F.IMG_LIFECYCLE_REQ_KEY.addr ∧ c =
      .imgLifecycleReq (v.toNat / 65536) (v.toNat % 8) ∨ a = F.BST_FUSE_CMD_KEY.addr ∧ c = .bstFuseCmd (v.toNat % 65536) ∨ a =
      F.JRN_REPLAY_CMD_KEY.addr ∧ c = .jrnReplayCmd (v.toNat % 65536) ∨ a = F.ADC_START_REG.addr ∧ c = .adcStart (v.toNat %
      256) (v.toNat / 256 % 256) ∨ a = F.MBX_DB_PEND_FILLED.addr ∧ c = .mbxDbPend 3 v.toNat 0 ∨ (∃ k, k < 8 ∧ a =
      (F.LAW_EDIT_WORD_WORD k).addr ∧ c = .lawEditWord k v) ∨ (∃ w, w < 8 ∧ a = (F.FLT_FORCE_FORCE w).addr ∧ c = .fltForce w
      v.toNat)))) ∧
    (∃ s : State, ∃ a : Nat, ∃ d, s.sys.phase = .run ∧ d < 22 ∧ a = (F.PWR_DOM_VOTE_SVC_VOTE d).addr ∧ s.mode = .service) ∧
    (∃ s : State, ∃ a : Nat, ∃ d, s.sys.phase = .run ∧ d < 22 ∧ a = (F.PWR_DOM_VOTE_SVC_VOTE d).addr ∧ s.mode = .service) ∧
    (∃ s : State, ∃ a : Nat, ∃ m, ∃ k, s.sys.phase = .run ∧ m = s.getF F.MBX_SEL_MAILBOX ∧ k < 15 ∧ a = (F.MBX_DATA_WORD
      k).addr ∧ s.mode = .service ∧ mbxSender m = 3 ∧ s.mbxFull m = false ∧ m < s.mbx.data.length ∧ k < (s.mbx.data.getD m
      []).length) :=
  ⟨
    ⟨at_ .service [], 1074135072, ((findReg 1074135072).get (by decide +kernel)).1, ((findReg 1074135072).get
      (by decide +kernel)).2, by decide +kernel⟩,
    ⟨at_ .service [], 1075183636, ((findReg 1075183636).get (by decide +kernel)).1, ((findReg 1075183636).get
      (by decide +kernel)).2, by decide +kernel⟩,
    ⟨at_ .service [], 1073807364, ((findReg 1073807364).get (by decide +kernel)).1, ((findReg 1073807364).get
      (by decide +kernel)).2, by decide +kernel⟩,
    ⟨at_ .join [], 1073807364, ((findReg 1073807364).get (by decide +kernel)).1, ((findReg 1073807364).get
      (by decide +kernel)).2, by decide +kernel⟩,
    ⟨at_ .join [], 0x4000001C, ((findReg 0x4000001C).get (by decide +kernel)).1, ((findReg 0x4000001C).get
      (by decide +kernel)).2, by decide +kernel⟩,
    ⟨at_ .service [], 0x40000004, ((findReg 0x40000004).get (by decide +kernel)).1, ((findReg 0x40000004).get
      (by decide +kernel)).2, by decide +kernel⟩,
    ⟨at_ .join [], 0x1FFFFFFC, by decide +kernel⟩,
    ⟨at_ .join [], 0x20800000, by decide +kernel⟩,
    ⟨at_ .service [], 0x20000000, by decide +kernel⟩,
    ⟨at_ .service [], 0x207FFFFF, by decide +kernel⟩,
    ⟨at_ .service [], F.SYS_SWRESET_KEY.addr, 0x9A30, .sysSwreset 0x9A30, by decide +kernel⟩,
    ⟨at_ .service [], (F.FLT_FORCE_FORCE 7).addr, 0x80000001, .fltForce 7 0x80000001, by decide +kernel⟩,
    ⟨at_ .service [], F.MBX_DB_PEND_FILLED.addr, 1, .mbxDbPend 3 1 0, by decide +kernel⟩,
    ⟨at_ .service [], F.IMG_KEY_REVOKE_KEY.addr, 0x4B520001, .imgKeyRevoke 0x4B52 0x4B520001, by decide +kernel⟩,
    ⟨at_ .service [], F.IMG_LIFECYCLE_REQ_KEY.addr, 0x1C5E0001, .imgLifecycleReq 0x1C5E 1, by decide +kernel⟩,
    ⟨at_ .service [], F.ADC_START_REG.addr, 0x201, .adcStart 1 2, by decide +kernel⟩,
    ⟨at_ .service [], (F.LAW_EDIT_WORD_WORD 7).addr, 5, .lawEditWord 7 5, by decide +kernel⟩,
    ⟨at_ .service [], F.IMG_FLOOR_RAISE_KEY.addr, 0x5F1E, .imgFloorRaise 0x5F1E, by decide +kernel⟩,
    ⟨at_ .service [], F.BST_FUSE_CMD_KEY.addr, 0x3B6D, .bstFuseCmd 0x3B6D, by decide +kernel⟩,
    ⟨at_ .service [], F.JRN_REPLAY_CMD_KEY.addr, 0x7E91, .jrnReplayCmd 0x7E91, by decide +kernel⟩,
    ⟨at_ .service [], (F.PWR_DOM_VOTE_SVC_VOTE 21).addr, 21, by decide +kernel⟩,
    ⟨at_ .service [], (F.PWR_DOM_VOTE_SVC_VOTE 0).addr, 0, by decide +kernel⟩,
    ⟨at_ .service [(F.MBX_SEL_MAILBOX, 14)], (F.MBX_DATA_WORD 14).addr, 14, 14, by decide +kernel⟩⟩

theorem test_hyps_OtpCommands :
    (∃ s : State, s.sys.phase = .run ∧ s.mode = .service ∧ s.otp.lifecycle = 2 ∧ s.flag F.SYS_STATUS_IMG_VALID = true ∧
      s.otp.floors.length < 64) ∧
    (∃ s : State, ∃ mask, ∃ k, s.sys.phase = .run ∧ s.mode = .service ∧ mask < 16 ∧ (s.otp.lifecycle = 1 ∨ s.otp.lifecycle =
      2) ∧ (s.flag F.SYS_STATUS_IMG_VALID = false ∨ bit mask (s.getF F.IMG_KEY_STATE_IN_USE) = false) ∧ k < 4 ∧
      (s.otp.keys.getD k none).isSome = true ∧ bit (s.otp.revoked ||| mask) k = false) ∧
    (∃ s : State, ∃ target, s.sys.phase = .run ∧ s.mode = .service ∧ s.lifecycleEdge target = true ∧ s.ash.lcTarget = none) ∧
    (∃ s : State, ∃ target, s.sys.phase = .run ∧ s.mode = .service ∧ s.lifecycleEdge target = true ∧ s.ash.lcTarget = none) ∧
    (∃ s : State, ∃ target, s.sys.phase = .run ∧ s.mode = .service ∧ s.lifecycleEdge target = false) ∧
    (∃ s : State, ∃ target, s.sys.phase = .run ∧ s.mode = .service ∧ s.lifecycleEdge target = false) ∧
    (∃ s : State, s.sys.phase = .run ∧ s.mode = .service) ∧
    (∃ s : State, s.sys.phase = .run ∧ s.mode ≠ .service) ∧
    (∃ s : State, s.sys.phase = .run ∧ s.mode ≠ .service) ∧
    (∃ s : State, s.sys.phase = .run ∧ s.mode ≠ .service) ∧
    (∃ s : State, s.sys.phase = .run ∧ s.mode ≠ .service) ∧
    (∃ s : State, ∃ target, s.sys.phase = .run ∧ s.ash.lcTarget = some target ∧ s.ash.lcDone = true) :=
  ⟨
    ⟨{ at_ .service [(F.SYS_STATUS_IMG_VALID, 1), (F.IMG_VERSION_VERSION 0, 3)] with otp := { lifecycle := 2, floors := List.replicate 63 1 } },
      by decide +kernel⟩,
    ⟨{ at_ .service [] with otp := { lifecycle := 1, keys := [some 1, none, none, some 4], revoked := 1 } }, 7, 3,
      by decide +kernel⟩,
    ⟨{ at_ .service [] with otp := { lifecycle := 1 } }, 4, by decide +kernel⟩,
    ⟨{ at_ .service [] with otp := { lifecycle := 0, keys := [none, some 9, none, none] } }, 1, by decide +kernel⟩,
    ⟨{ at_ .service [] with otp := { lifecycle := 0 } }, 1, by decide +kernel⟩,
    ⟨{ at_ .service [] with otp := { lifecycle := 4 } }, 5, by decide +kernel⟩,
    ⟨at_ .service [], by decide +kernel⟩,
    ⟨at_ .join [], by decide +kernel⟩,
    ⟨at_ .join [], by decide +kernel⟩,
    ⟨at_ .join [], by decide +kernel⟩,
    ⟨at_ .join [], by decide +kernel⟩,
    ⟨{ at_ .service [] with ash := { lcTarget := some 2, lcDone := true }, otp := { lifecycle := 1 } }, 2, by decide +kernel⟩⟩

theorem test_hyps_ShadowCopiesAndLatches :
    (∃ s : State, ∃ k, ∃ i, ∃ set, ∃ l, s.sys.phase = .run ∧ k < 8 ∧ s.mode = .service ∧ s.editSet = some (i, set, l)) ∧
    (∃ s : State, ∃ k, s.sys.phase = .run ∧ k < 8 ∧ s.mode = .service ∧ s.editSet = none) ∧
    (∃ s : State, s.sys.phase = .run ∧ s.svc.shadow = []) ∧
    (∃ s : State, ∃ a, ∃ w : Word, ∃ k, ∃ i, s.sys.phase = .run ∧ s.svc.shadow = [(a, w)] ∧ findReg a = some (k, i) ∧ a /
      0x10000 ∈ [0x4006, 0x4007, 0x400C, 0x4010, 0x4013, 0x4014]) ∧
    (∃ s : State, s.sys.phase = .run) ∧
    (∃ s : State, s.sys.phase = .run) ∧
    (∃ s : State, s.sys.phase = .run ∧ s.ember.vbat = true) :=
  ⟨
    ⟨{ at_ .service [] with img := { nodes := [{ ty := 30, cls := 1, rate := 0, home := 0, ins := [], outs := [], params := [1, 2, 3, 4, 5, 6, 7, 8], stateWords := 2 }] } },
      7, 0, 0, [1, 2, 3, 4, 5, 6, 7, 8], by decide +kernel⟩,
    ⟨at_ .service [], 7, by decide +kernel⟩,
    ⟨at_ .join [], by decide +kernel⟩,
    ⟨{ at_ .join [] with svc := { shadow := [(1075052904, 5)] } }, 1075052904, 5, ((findReg 1075052904).get
      (by decide +kernel)).1, ((findReg 1075052904).get (by decide +kernel)).2, by decide +kernel⟩,
    ⟨{ at_ .join [] with sys := { phase := .run, tick := 2 ^ 32 + 5 } }, by decide +kernel⟩,
    ⟨at_ .join [], by decide +kernel⟩,
    ⟨at_ .join [], by decide +kernel⟩⟩

theorem test_hyps_MailboxCommands :
    (∃ s : State, ∃ m : Nat, ∃ l : List (Nat × Word), s.sys.phase = .run ∧ m < 14 ∧ s.flag F.HOB_STATUS_RUNNING = true ∧
      s.mbx.data.length = 16 ∧ (s.mbx.data.getD m []).length = 16 ∧ s.mbx.since.length = 16 ∧ mbxSender m < 2 ∧ s.mbxGated =
      true ∧ ((∀ x ∈ l, x.1 < 16))) ∧
    (∃ s : State, ∃ m : Nat, s.sys.phase = .run ∧ m < 14 ∧ s.flag F.HOB_STATUS_RUNNING = true ∧ s.mbx.data.length = 16 ∧
      (s.mbx.data.getD m []).length = 16 ∧ s.mbx.since.length = 16 ∧ ((mbxSender m < 2 → s.mbxGated = false)) ∧ bit (s.getF
      F.MBX_STATUS_FULL) m = false) ∧
    (∃ s : State, ∃ m : Nat, s.sys.phase = .run ∧ m < 14 ∧ s.flag F.HOB_STATUS_RUNNING = true ∧ s.mbx.data.length = 16 ∧
      (s.mbx.data.getD m []).length = 16 ∧ s.mbx.since.length = 16 ∧ ((mbxSender m < 2 → s.mbxGated = false)) ∧ bit (s.getF
      F.MBX_STATUS_FULL) m = false) ∧
    (∃ s : State, ∃ m : Nat, ∃ k, s.sys.phase = .run ∧ m < 14 ∧ s.flag F.HOB_STATUS_RUNNING = true ∧ s.mbx.data.length = 16 ∧
      (s.mbx.data.getD m []).length = 16 ∧ s.mbx.since.length = 16 ∧ k < 16 ∧ ((mbxSender m < 2 → s.mbxGated = false)) ∧ bit
      (s.getF F.MBX_STATUS_FULL) m = true) ∧
    (∃ s : State, ∃ m : Nat, s.sys.phase = .run ∧ m < 14 ∧ s.flag F.HOB_STATUS_RUNNING = true ∧ s.mbx.data.length = 16 ∧
      (s.mbx.data.getD m []).length = 16 ∧ s.mbx.since.length = 16 ∧ bit (s.getF F.MBX_STATUS_FULL) m = true) ∧
    (∃ s : State, ∃ m : Nat, ∃ k, s.sys.phase = .run ∧ m < 14 ∧ s.flag F.HOB_STATUS_RUNNING = true ∧ s.mbx.data.length = 16 ∧
      (s.mbx.data.getD m []).length = 16 ∧ s.mbx.since.length = 16 ∧ k < 16 ∧ ((mbxSender m < 2 → s.mbxGated = false)) ∧ bit
      (s.getF F.MBX_STATUS_FULL) m = true) ∧
    (∃ s : State, ∃ m : Nat, ∃ side, s.sys.phase = .run ∧ m < 14 ∧ s.flag F.HOB_STATUS_RUNNING = true ∧ s.mbx.data.length = 16
      ∧ (s.mbx.data.getD m []).length = 16 ∧ s.mbx.since.length = 16 ∧ side < 3) ∧
    (∃ s : State, ∃ m : Nat, s.sys.phase = .run ∧ m < 14 ∧ s.flag F.HOB_STATUS_RUNNING = true ∧ s.mbx.data.length = 16 ∧
      (s.mbx.data.getD m []).length = 16 ∧ s.mbx.since.length = 16 ∧ bit (s.getF F.MBX_STATUS_FULL) m = true ∧ 32000 ≤
      s.sys.tick - s.mbx.since.getD m 0) ∧
    (∃ s : State, s.sys.phase = .run ∧ s.mode = .service ∧ bit (s.getF F.MBX_STATUS_FULL) 14 = true ∧ bit (s.getF
      F.MBX_STATUS_FULL) 15 = false ∧ s.mbx.data.length = 16 ∧ (s.mbx.data.getD 15 []).length = 16 ∧ (s.mbxWord 14 0).toNat %
      65536 = 1 ∧ (s.mbxWord 14 1).toNat ≤ 56) ∧
    (∃ s : State, s.sys.phase = .run ∧ s.mode = .service ∧ bit (s.getF F.MBX_STATUS_FULL) 14 = true ∧ bit (s.getF
      F.MBX_STATUS_FULL) 15 = false ∧ s.mbx.data.length = 16 ∧ (s.mbx.data.getD 15 []).length = 16 ∧ 4 ≤ (s.mbxWord 14
      0).toNat % 65536) :=
  ⟨
    ⟨{ at_ .join [(F.HOB_STATUS_RUNNING, 1)] with cmps := List.replicate 24 { fifo := [(false, { tag := 9, addr := 1, be := 15, data := 2 })] } },
      0, [(15, 9)], by decide +kernel⟩,
    ⟨at_ .join [(F.HOB_STATUS_RUNNING, 1)], 13, by decide +kernel⟩,
    ⟨at_ .join [(F.HOB_STATUS_RUNNING, 1), (F.MBX_DB_MASK_MASK, 0xFFFFFFFF)], 0, by decide +kernel⟩,
    ⟨at_ .join [(F.HOB_STATUS_RUNNING, 1), (F.MBX_STATUS_FULL, 0xFFFF)], 13, 15, by decide +kernel⟩,
    ⟨at_ .join [(F.HOB_STATUS_RUNNING, 1), (F.MBX_STATUS_FULL, 0xFFFF)], 13, by decide +kernel⟩,
    ⟨at_ .join [(F.HOB_STATUS_RUNNING, 1), (F.MBX_STATUS_FULL, 0xFFFF)], 13, 15, by decide +kernel⟩,
    ⟨at_ .join [(F.HOB_STATUS_RUNNING, 1), (F.MBX_STATUS_FULL, 0xFFFF)], 13, 2, by decide +kernel⟩,
    ⟨{ at_ .join [(F.HOB_STATUS_RUNNING, 1), (F.MBX_STATUS_FULL, 0xFFFF)] with sys := { phase := .run, tick := 32000 } }, 13,
      by decide +kernel⟩,
    ⟨{ at_ .service [(F.MBX_STATUS_FULL, 0x4000)] with mbx := { data := List.replicate 16 ([1, 56] ++ List.replicate 14 7) } },
      by decide +kernel⟩,
    ⟨{ at_ .service [(F.MBX_STATUS_FULL, 0x4000)] with mbx := { data := List.replicate 16 ([4, 57] ++ List.replicate 14 7) } },
      by decide +kernel⟩⟩

theorem test_hyps_ServiceFramesAndJtag :
    (∃ s : State, ∃ f : SvcFrame, ∃ cmd : Nat, ∃ c : Instr, s.sys.phase = .run ∧ s.sys.wiped = true ∧ crcChecks cmd f = false
      ∧ ((cmd, c) ∈ [(1, .read f none), (2, .write f), (3, .ashRead f), (4, .enterService f), (5, .replayAbort f), (6,
      .flashErase f), (7, .flashProgram f), (8, .flashRead f true), (9, .otpKey f)])) ∧
    (∃ s : State, ∃ f : SvcFrame, ∃ cmd : Nat, ∃ c : Instr, s.sys.phase = .run ∧ s.sys.wiped = true ∧ crcChecks cmd f = false
      ∧ ((cmd, c) ∈ [(1, .read f none), (2, .write f), (3, .ashRead f), (4, .enterService f), (5, .replayAbort f), (6,
      .flashErase f), (7, .flashProgram f), (8, .flashRead f true), (9, .otpKey f)])) ∧
    (∃ s : State, s.sys.phase = .run) ∧
    (∃ s : State, ∃ ir, s.sys.phase = .run ∧ ir < 256) ∧
    (∃ s : State, ∃ ir, ∃ what : JtagOp, s.sys.phase = .run ∧ ir < 256 ∧ s.otp.lifecycle ≠ 0 ∧ what ≠ .idcode) ∧
    (∃ s : State, ∃ ir, ∃ what : JtagOp, s.sys.phase = .run ∧ ir < 256 ∧ s.otp.lifecycle ≠ 0 ∧ what ≠ .idcode) ∧
    (∃ s : State, s.sys.phase = .run ∧ s.otp.lifecycle = 0) :=
  ⟨
    ⟨at_ .join [], { addr := 0x53C7, len := 0 }, 1, .read ({ addr := 0x53C7, len := 0 }) none, by decide +kernel⟩,
    ⟨at_ .join [], { addr := 0x53C7, len := 0 }, 9, .otpKey ({ addr := 0x53C7, len := 0 }), by decide +kernel⟩,
    ⟨at_ .join [], by decide +kernel⟩,
    ⟨at_ .join [], 255, by decide +kernel⟩,
    ⟨{ at_ .join [] with otp := { lifecycle := 4 } }, 255, .bypass, by decide +kernel⟩,
    ⟨{ at_ .join [] with otp := { lifecycle := 1 } }, 255, .read 0 1, by decide +kernel⟩,
    ⟨{ at_ .join [] with otp := { lifecycle := 0 } }, by decide +kernel⟩⟩

theorem test_hyps_ServiceAccess :
    (∃ s : State, ∃ f : SvcFrame, s.sys.wiped = true ∧ s.sys.phase = .run ∧ f.addr % 4 = 0 ∧ f.len = 1 ∧ 0x20000000 ≤ f.addr ∧
      f.addr < 0x20800000 ∧ crcChecks 1 f = true) ∧
    (∃ s : State, ∃ f : SvcFrame, s.sys.wiped = true ∧ s.sys.phase = .run ∧ f.addr % 4 = 0 ∧ f.len = 1 ∧ 0x20000000 ≤ f.addr ∧
      f.addr < 0x20800000 ∧ crcChecks 1 f = true) ∧
    (∃ s : State, ∃ f : SvcFrame, ∃ w, s.sys.wiped = true ∧ s.sys.phase = .run ∧ f.addr % 4 = 0 ∧ f.len = 1 ∧ 0x20000000 ≤
      f.addr ∧ f.addr < 0x20800000 ∧ f.data = [w] ∧ crcChecks 2 f = true ∧ s.mode = .service) ∧
    (∃ s : State, ∃ f : SvcFrame, ∃ w, s.sys.wiped = true ∧ s.sys.phase = .run ∧ f.addr % 4 = 0 ∧ f.len = 1 ∧ 0x20000000 ≤
      f.addr ∧ f.addr < 0x20800000 ∧ f.data = [w] ∧ crcChecks 2 f = true ∧ s.mode ≠ .service) ∧
    (∃ s : State, ∃ f : SvcFrame, s.sys.wiped = true ∧ s.sys.phase = .run ∧ f.addr % 4 = 0 ∧ f.len = 1 ∧ f.addr / 0x10000 =
      0x4005 ∧ (findReg f.addr).isSome = true ∧ crcChecks 1 f = true) ∧
    (∃ s : State, ∃ f : SvcFrame, s.sys.wiped = true ∧ 1 ≤ f.len ∧ f.len ≤ 4096 ∧ f.addr + f.len ≤ s.getF F.ASH_TAIL_ADDR ∧
      crcChecks 3 f = true ∧ s.sys.phase = .run ∧ s.flag F.ASH_STATUS_PF_ACTIVE = false) ∧
    (∃ s : State, ∃ f : SvcFrame, s.sys.wiped = true ∧ 1 ≤ f.len ∧ f.len ≤ 4096 ∧ f.addr + f.len ≤ s.getF F.ASH_TAIL_ADDR ∧
      crcChecks 3 f = true ∧ (s.sys.phase = .run ∨ s.sys.phase = .holdup) ∧ s.flag F.ASH_STATUS_PF_ACTIVE = true) :=
  ⟨
    ⟨at_ .join [], (sealed 1 { addr := 0x207FFFFC, len := 1, data := [] }), by decide +kernel⟩,
    ⟨at_ .service [], (sealed 1 { addr := 0x207FFFFC, len := 1, data := [] }), by decide +kernel⟩,
    ⟨at_ .service [], (sealed 2 { addr := 0x207FFFFC, len := 1, data := [9] }), 9, by decide +kernel⟩,
    ⟨at_ .join [], (sealed 2 { addr := 0x20000000, len := 1, data := [9] }), 9, by decide +kernel⟩,
    ⟨at_ .join [], (sealed 1 { addr := 0x40050000, len := 1, data := [] }), by decide +kernel⟩,
    ⟨at_ .join [(F.ASH_TAIL_ADDR, 0x3000)], (sealed 3 { addr := 0x2000, len := 4096, data := [] }), by decide +kernel⟩,
    ⟨{ at_ .join [(F.ASH_TAIL_ADDR, 0x3000), (F.ASH_STATUS_PF_ACTIVE, 1)] with sys := { phase := .holdup, wiped := true, vsup := false } },
      (sealed 3 { addr := 0x2000, len := 4096, data := [] }), by decide +kernel⟩⟩

theorem test_hyps_ServiceModes :
    (∃ s : State, ∃ f : SvcFrame, s.sys.phase = .run ∧ s.sys.wiped = true ∧ f.len = 0 ∧ f.addr = 0x53C7 ∧ crcChecks 4 f = true
      ∧ s.mode = .safeHold ∧ s.otp.lifecycle ≠ 4) ∧
    (∃ s : State, ∃ f : SvcFrame, s.sys.phase = .run ∧ s.sys.wiped = true ∧ f.len = 0 ∧ f.addr = 0x53C7 ∧ crcChecks 4 f = true
      ∧ (s.mode ≠ .safeHold ∨ s.otp.lifecycle = 4)) ∧
    (∃ s : State, ∃ f : SvcFrame, s.sys.phase = .run ∧ s.sys.wiped = true ∧ f.len = 0 ∧ f.addr = 0x53C7 ∧ crcChecks 4 f = true
      ∧ (s.mode ≠ .safeHold ∨ s.otp.lifecycle = 4)) ∧
    (∃ s : State, ∃ f : SvcFrame, s.sys.phase = .run ∧ s.sys.wiped = true ∧ f.len = 0 ∧ f.addr ≠ 0x53C7 ∧ crcChecks 4 f =
      true) ∧
    (∃ s : State, ∃ f : SvcFrame, s.sys.phase = .run ∧ s.sys.wiped = true ∧ f.len = 0 ∧ f.addr = 0 ∧ crcChecks 5 f = true ∧
      s.mode = .replay) ∧
    (∃ s : State, ∃ f : SvcFrame, s.sys.phase = .run ∧ s.sys.wiped = true ∧ f.len = 0 ∧ f.addr = 0 ∧ crcChecks 5 f = true ∧
      s.mode ≠ .replay) ∧
    (∃ s : State, ∃ key, s.sys.phase = .run ∧ s.mode = .service ∧ key ≠ 0x7E91) ∧
    (∃ s : State, s.sys.phase = .run ∧ s.mode = .service ∧ s.flag F.SYS_STATUS_IMG_VALID = false) ∧
    (∃ s : State, s.sys.phase = .run ∧ s.mode = .service ∧ s.flag F.SYS_STATUS_IMG_VALID = true ∧ s.replayWindow (s.getF
      F.JRN_REPLAY_SEL_SEQ) = none) ∧
    (∃ s : State, ∃ a, s.sys.phase = .run ∧ s.mode = .service ∧ s.flag F.SYS_STATUS_IMG_VALID = true ∧ s.replayWindow (s.getF
      F.JRN_REPLAY_SEL_SEQ) = some a ∧ ((s.mramRead (a + 32) (ofLe (s.mramRead (a + 4) 4))).drop 32).take 32 = s.img.digest) ∧
    (∃ s : State, ∃ a, s.sys.phase = .run ∧ s.mode = .service ∧ s.flag F.SYS_STATUS_IMG_VALID = true ∧ s.replayWindow (s.getF
      F.JRN_REPLAY_SEL_SEQ) = some a ∧ ((s.mramRead (a + 32) (ofLe (s.mramRead (a + 4) 4))).drop 32).take 32 ≠ s.img.digest) ∧
    (∃ s : State, s.sys.phase = .run ∧ s.mode ≠ .service) :=
  ⟨
    ⟨at_ .safeHold [], (sealed 4 { addr := 0x53C7, len := 0, data := [] }), by decide +kernel⟩,
    ⟨at_ .join [], (sealed 4 { addr := 0x53C7, len := 0, data := [] }), by decide +kernel⟩,
    ⟨{ at_ .safeHold [] with otp := { lifecycle := 4 } }, (sealed 4 { addr := 0x53C7, len := 0, data := [] }),
      by decide +kernel⟩,
    ⟨at_ .safeHold [], (sealed 4 { addr := 0x53C6, len := 0, data := [] }), by decide +kernel⟩,
    ⟨at_ .replay [], (sealed 5 { addr := 0, len := 0, data := [] }), by decide +kernel⟩,
    ⟨at_ .service [], (sealed 5 { addr := 0, len := 0, data := [] }), by decide +kernel⟩,
    ⟨at_ .service [], 0x7E90, by decide +kernel⟩,
    ⟨at_ .service [(F.SYS_STATUS_IMG_VALID, 0)], by decide +kernel⟩,
    ⟨at_ .service [(F.SYS_STATUS_IMG_VALID, 1), (F.ASH_SIZE_BYTES, 0x12000)], by decide +kernel⟩,
    ⟨{ at_ .service [(F.SYS_STATUS_IMG_VALID, 1), (F.ASH_SIZE_BYTES, 0x12000)] with mram := Mem.write 0 [] 0x1000 (ashRecord { type := 4, flags := 0, body := List.replicate 64 0, tick := 0, time := 0 } 7 (ashCommit 7)), img := { digest := List.replicate 32 0 } },
      0x1000, by decide +kernel⟩,
    ⟨{ at_ .service [(F.SYS_STATUS_IMG_VALID, 1), (F.ASH_SIZE_BYTES, 0x12000)] with mram := Mem.write 0 [] 0x1000 (ashRecord { type := 4, flags := 0, body := List.replicate 64 0, tick := 0, time := 0 } 7 (ashCommit 7)), img := { digest := List.replicate 32 1 } },
      0x1000, by decide +kernel⟩,
    ⟨at_ .join [], by decide +kernel⟩⟩

theorem test_hyps_NonVolatileMemory :
    (∃ s : State, ∃ f : SvcFrame, s.sys.phase = .run ∧ s.sys.wiped = true ∧ s.mode = .service ∧ s.svc.nvm = none ∧ crcChecks 6
      f = true ∧ f.len = 0 ∧ f.addr % 0x10000 = 0 ∧ f.addr < 0x400000) ∧
    (∃ s : State, ∃ f : SvcFrame, s.sys.phase = .run ∧ s.sys.wiped = true ∧ s.mode = .service ∧ s.svc.nvm = none ∧ crcChecks 7
      f = true ∧ 1 ≤ f.len ∧ f.len ≤ 64 ∧ f.addr + 4 * f.len ≤ 0x400000 ∧ f.addr / 256 = (f.addr + 4 * f.len - 1) / 256) ∧
    (∃ s : State, ∃ f : SvcFrame, s.sys.phase = .run ∧ s.sys.wiped = true ∧ s.mode = .service ∧ s.svc.nvm = none ∧ crcChecks 8
      f = true ∧ 1 ≤ f.len ∧ f.len ≤ 256 ∧ f.addr + 4 * f.len ≤ 0x400000) ∧
    (∃ s : State, ∃ f : SvcFrame, s.sys.phase = .run ∧ s.sys.wiped = true ∧ s.mode = .service ∧ s.svc.nvm = none ∧ crcChecks 9
      f = true ∧ f.len = 8 ∧ f.addr < 4 ∧ s.otp.keys.getD f.addr none = none) ∧
    (∃ s : State, ∃ f : SvcFrame, ∃ cmd : Nat, ∃ c : Instr, ∃ answers : Bool, s.sys.phase = .run ∧ s.sys.wiped = true ∧
      (s.mode ≠ .service ∨ s.svc.nvm.isSome = true) ∧ crcChecks cmd f = true ∧ ((cmd = 6 ∧ c = .flashErase f ∧ f.len = 0 ∧
      f.addr % 0x10000 = 0 ∧ f.addr < 0x400000 ∨ cmd = 7 ∧ c = .flashProgram f ∧ 1 ≤ f.len ∧ f.len ≤ 64 ∧ f.addr + 4 * f.len ≤
      0x400000 ∧ f.addr / 256 = (f.addr + 4 * f.len - 1) / 256 ∨ cmd = 8 ∧ c = .flashRead f answers ∧ 1 ≤ f.len ∧ f.len ≤ 256
      ∧ f.addr + 4 * f.len ≤ 0x400000 ∨ cmd = 9 ∧ c = .otpKey f ∧ f.len = 8 ∧ f.addr < 4))) ∧
    (∃ s : State, ∃ f : SvcFrame, ∃ cmd : Nat, ∃ c : Instr, ∃ answers : Bool, s.sys.phase = .run ∧ s.sys.wiped = true ∧
      (s.mode ≠ .service ∨ s.svc.nvm.isSome = true) ∧ crcChecks cmd f = true ∧ ((cmd = 6 ∧ c = .flashErase f ∧ f.len = 0 ∧
      f.addr % 0x10000 = 0 ∧ f.addr < 0x400000 ∨ cmd = 7 ∧ c = .flashProgram f ∧ 1 ≤ f.len ∧ f.len ≤ 64 ∧ f.addr + 4 * f.len ≤
      0x400000 ∧ f.addr / 256 = (f.addr + 4 * f.len - 1) / 256 ∨ cmd = 8 ∧ c = .flashRead f answers ∧ 1 ≤ f.len ∧ f.len ≤ 256
      ∧ f.addr + 4 * f.len ≤ 0x400000 ∨ cmd = 9 ∧ c = .otpKey f ∧ f.len = 8 ∧ f.addr < 4))) ∧
    (∃ s : State, ∃ x : Nvm, s.sys.phase = .run ∧ s.svc.nvm = some x ∧ s.MemOk ∧ x.op = 1) ∧
    (∃ s : State, ∃ x : Nvm, s.sys.phase = .run ∧ s.svc.nvm = some x ∧ s.MemOk ∧ x.op = 2) ∧
    (∃ s : State, ∃ x : Nvm, s.sys.phase = .run ∧ s.svc.nvm = some x ∧ s.MemOk ∧ x.op = 3) :=
  ⟨
    ⟨at_ .service [], (sealed 6 { addr := 0x3F0000, len := 0, data := [] }), by decide +kernel⟩,
    ⟨at_ .service [], (sealed 7 { addr := 0x3FFF00, len := 64, data := List.replicate 64 5 }), by decide +kernel⟩,
    ⟨at_ .service [], (sealed 8 { addr := 0x3FFC00, len := 256, data := [] }), by decide +kernel⟩,
    ⟨at_ .service [], (sealed 9 { addr := 3, len := 8, data := List.replicate 8 5 }), by decide +kernel⟩,
    ⟨at_ .join [], (sealed 6 { addr := 0x10000, len := 0, data := [] }), 6, .flashErase (sealed 6
      { addr := 0x10000, len := 0, data := [] }), true, by decide +kernel⟩,
    ⟨{ at_ .service [] with svc := { nvm := some ⟨1, 0, []⟩ } }, (sealed 9
      { addr := 3, len := 8, data := List.replicate 8 5 }), 9, .otpKey (sealed 9
      { addr := 3, len := 8, data := List.replicate 8 5 }), true, by decide +kernel⟩,
    ⟨{ at_ .service [] with svc := { nvm := some ⟨1, 0x3F0000, []⟩ } }, ⟨1, 0x3F0000, []⟩, by decide +kernel⟩,
    ⟨{ at_ .service [] with svc := { nvm := some ⟨2, 0x3FFFFC, [1, 2, 3, 4]⟩ } }, ⟨2, 0x3FFFFC, [1, 2, 3, 4]⟩,
      by decide +kernel⟩,
    ⟨{ at_ .service [] with svc := { nvm := some ⟨3, 3, List.replicate 32 5⟩ } }, ⟨3, 3, List.replicate 32 5⟩,
      by decide +kernel⟩⟩

theorem test_hyps_HobExecution :
    (∃ s : State, ∃ hob : Nat, ∃ i, ∃ copyB, ∃ stolen, ∃ cross, s.sys.phase = .run ∧ hob < 64 ∧ s.flag F.HOB_STATUS_RUNNING =
      true ∧ s.getF (F.HOB_ENGINE_STATE hob) = 0 ∧ s.pick hob = some ((i, copyB), stolen, cross) ∧ (stolen = false ∧ (∀ n, n <
      hob → s.getF (F.HOB_ENGINE_STATE n) ≠ 0) ∨ (∀ n, n < 64 → n ≠ hob → s.getF (F.HOB_ENGINE_STATE n) ≠ 0))) ∧
    (∃ s : State, ∃ hob : Nat, ∃ i, ∃ copyB, ∃ stolen, ∃ cross, s.sys.phase = .run ∧ hob < 64 ∧ s.flag F.HOB_STATUS_RUNNING =
      true ∧ s.getF (F.HOB_ENGINE_STATE hob) = 0 ∧ s.pick hob = some ((i, copyB), stolen, cross) ∧ (stolen = false ∧ (∀ n, n <
      hob → s.getF (F.HOB_ENGINE_STATE n) ≠ 0) ∨ (∀ n, n < 64 → n ≠ hob → s.getF (F.HOB_ENGINE_STATE n) ≠ 0))) ∧
    (∃ s : State, ∃ hob : Nat, s.sys.phase = .run ∧ hob < 64 ∧ s.flag F.HOB_STATUS_RUNNING = true ∧ s.getF (F.HOB_ENGINE_STATE
      hob) = 0 ∧ ((∀ c, c < 8 → s.queueOf c = []))) ∧
    (∃ s : State, ∃ hob : Nat, s.sys.phase = .run ∧ hob < 64 ∧ s.getF (F.HOB_ENGINE_STATE hob) ≠ 0) ∧
    (∃ s : State, ∃ hob : Nat, ∃ e, ∃ ins, s.sys.phase = .run ∧ hob < 64 ∧ s.gr.exec.find? (fun x => decide (x.hob = hob)) =
      some e ∧ e.late = false ∧ (s.inst e.inst).sample = .due ∧ s.inputs e.inst e.copyB = some ins ∧ hob ∉ s.age.rollDue ∧
      e.inst < s.gr.insts.length) :=
  ⟨
    ⟨{ at_ .lead [(F.HOB_STATUS_RUNNING, 1)] with img := { nodes := [{ ty := 1, cls := 1, rate := 0, home := 0, ins := [], outs := [0], params := [0], stateWords := 0 }], sigs := [{ int := false, producer := some 0, port := 0, initial := 0 }] }, gr := { s := some 5, insts := [{ sample := .due }], sigs := [{}], open_ := [true, true, true, true, true] } },
      0, 0, false, false, false, by decide +kernel⟩,
    ⟨{ at_ .lead [(F.HOB_STATUS_RUNNING, 1), (F.HOB_ENGINE_STATE 0, 1), (F.HOB_ENGINE_STATE 1, 1), (F.HOB_ENGINE_STATE 2, 1), (F.HOB_ENGINE_STATE 3, 1), (F.HOB_ENGINE_STATE 4, 1), (F.HOB_ENGINE_STATE 5, 1), (F.HOB_ENGINE_STATE 6, 1), (F.HOB_ENGINE_STATE 7, 1), (F.HOB_ENGINE_STATE 9, 1), (F.HOB_ENGINE_STATE 10, 1), (F.HOB_ENGINE_STATE 11, 1), (F.HOB_ENGINE_STATE 12, 1), (F.HOB_ENGINE_STATE 13, 1), (F.HOB_ENGINE_STATE 14, 1), (F.HOB_ENGINE_STATE 15, 1), (F.HOB_ENGINE_STATE 16, 1), (F.HOB_ENGINE_STATE 17, 1), (F.HOB_ENGINE_STATE 18, 1), (F.HOB_ENGINE_STATE 19, 1), (F.HOB_ENGINE_STATE 20, 1), (F.HOB_ENGINE_STATE 21, 1), (F.HOB_ENGINE_STATE 22, 1), (F.HOB_ENGINE_STATE 23, 1), (F.HOB_ENGINE_STATE 24, 1), (F.HOB_ENGINE_STATE 25, 1), (F.HOB_ENGINE_STATE 26, 1), (F.HOB_ENGINE_STATE 27, 1), (F.HOB_ENGINE_STATE 28, 1), (F.HOB_ENGINE_STATE 29, 1), (F.HOB_ENGINE_STATE 30, 1), (F.HOB_ENGINE_STATE 31, 1), (F.HOB_ENGINE_STATE 32, 1), (F.HOB_ENGINE_STATE 33, 1), (F.HOB_ENGINE_STATE 34, 1), (F.HOB_ENGINE_STATE 35, 1), (F.HOB_ENGINE_STATE 36, 1), (F.HOB_ENGINE_STATE 37, 1), (F.HOB_ENGINE_STATE 38, 1), (F.HOB_ENGINE_STATE 39, 1), (F.HOB_ENGINE_STATE 40, 1), (F.HOB_ENGINE_STATE 41, 1), (F.HOB_ENGINE_STATE 42, 1), (F.HOB_ENGINE_STATE 43, 1), (F.HOB_ENGINE_STATE 44, 1), (F.HOB_ENGINE_STATE 45, 1), (F.HOB_ENGINE_STATE 46, 1), (F.HOB_ENGINE_STATE 47, 1), (F.HOB_ENGINE_STATE 48, 1), (F.HOB_ENGINE_STATE 49, 1), (F.HOB_ENGINE_STATE 50, 1), (F.HOB_ENGINE_STATE 51, 1), (F.HOB_ENGINE_STATE 52, 1), (F.HOB_ENGINE_STATE 53, 1), (F.HOB_ENGINE_STATE 54, 1), (F.HOB_ENGINE_STATE 55, 1), (F.HOB_ENGINE_STATE 56, 1), (F.HOB_ENGINE_STATE 57, 1), (F.HOB_ENGINE_STATE 58, 1), (F.HOB_ENGINE_STATE 59, 1), (F.HOB_ENGINE_STATE 60, 1), (F.HOB_ENGINE_STATE 61, 1), (F.HOB_ENGINE_STATE 62, 1), (F.HOB_ENGINE_STATE 63, 1)] with img := { nodes := [{ ty := 1, cls := 1, rate := 0, home := 0, ins := [], outs := [0], params := [0], stateWords := 0 }], sigs := [{ int := false, producer := some 0, port := 0, initial := 0 }] }, gr := { s := some 5, insts := [{ sample := .due }], sigs := [{}], open_ := [true, true, true, true, true] } },
      8, 0, false, true, false, by decide +kernel⟩,
    ⟨at_ .lead [(F.HOB_STATUS_RUNNING, 1)], 63, by decide +kernel⟩,
    ⟨at_ .lead [(F.HOB_STATUS_RUNNING, 1), (F.HOB_ENGINE_STATE 5, 1)], 5, by decide +kernel⟩,
    ⟨{ at_ .lead [(F.HOB_STATUS_RUNNING, 1), (F.HOB_ENGINE_STATE 5, 1)] with img := { nodes := [{ ty := 1, cls := 1, rate := 0, home := 0, ins := [], outs := [0], params := [0], stateWords := 0 }], sigs := [{ int := false, producer := some 0, port := 0, initial := 0 }] }, gr := { s := some 5, insts := [{ sample := .due }], sigs := [{}], open_ := [true, true, true, true, true], exec := [{ hob := 5, inst := 0, copyB := false }] } },
      5, { hob := 5, inst := 0, copyB := false }, [], by decide +kernel⟩⟩

theorem test_hyps_CommitAndMiss :
    (∃ s : State, ∃ i, s.sys.phase = .run ∧ s.flag F.HOB_STATUS_RUNNING = true ∧ s.mayCommit i = false) ∧
    (∃ s : State, ∃ i, ∃ w, s.sys.phase = .run ∧ s.flag F.HOB_STATUS_RUNNING = true ∧ s.mayCommit i = true ∧ (s.inst i).a =
      some w ∧ (s.node i).ty < 68 ∧ w.raises = [] ∧ s.Quiet 0x2F ∧ i < s.gr.insts.length ∧ ((∀ k, (s.inst i).cause = some k →
      k < 24))) ∧
    (∃ s : State, ∃ k, ∃ sc, s.sys.phase = .run ∧ s.flag F.HOB_STATUS_RUNNING = true ∧ k < 5 ∧ s.gr.s = some sc ∧ k ∈
      slotsEnding sc s.gr.j ∧ s.gr.open_.getD k false = true ∧ s.gr.skip.getD k false = false ∧ s.img.nodes.length ≤ 8192 ∧
      s.missing k = []) ∧
    (∃ s : State, ∃ k, ∃ sc, s.sys.phase = .run ∧ s.flag F.HOB_STATUS_RUNNING = true ∧ k < 5 ∧ s.gr.s = some sc ∧ k ∈
      slotsEnding sc s.gr.j ∧ s.gr.open_.getD k false = true ∧ s.gr.skip.getD k false = false ∧ s.img.nodes.length ≤ 8192 ∧
      s.missing k ≠ [] ∧ ((∀ i ∈ s.missing k, (s.inst i).sample ≠ .committed)) ∧ s.Quiet (0x2A + k) ∧ s.asserted (0x2A + k) =
      false) ∧
    (∃ s : State, ∃ k, ∃ sc, ∃ i, ∃ v, s.sys.phase = .run ∧ s.flag F.HOB_STATUS_RUNNING = true ∧ k < 5 ∧ s.gr.s = some sc ∧ k
      ∈ slotsEnding sc s.gr.j ∧ s.gr.open_.getD k false = true ∧ s.gr.skip.getD k false = false ∧ s.img.nodes.length ≤ 8192 ∧
      s.missing k = [i] ∧ (s.inst i).sample = .committed ∧ (s.inst i).saved = some v ∧ i < s.gr.insts.length ∧ (s.node i).ty <
      30 ∧ v.held = false ∧ v.pts = [] ∧ v.counted = [] ∧ s.Quiet (0x2A + k) ∧ s.asserted (0x2A + k) = false) :=
  ⟨
    ⟨{ at_ .lead [(F.HOB_STATUS_RUNNING, 1)] with img := { nodes := [{ ty := 1, cls := 1, rate := 0, home := 0, ins := [], outs := [0], params := [0], stateWords := 0 }], sigs := [{ int := false, producer := some 0, port := 0, initial := 0 }] }, gr := { s := some 5, insts := [{ sample := .due }], sigs := [{}], open_ := [true, true, true, true, true] } },
      0, by decide +kernel⟩,
    ⟨{ at_ .join [(F.HOB_STATUS_RUNNING, 1)] with img := { nodes := [{ ty := 1, cls := 1, rate := 0, home := 0, ins := [], outs := [0], params := [0], stateWords := 0 }], sigs := [{ int := false, producer := some 0, port := 0, initial := 0 }] }, gr := { s := some 5, insts := [{ sample := .due, a := some { outs := [(7, false)], st := [], ins := [], raises := [], held := false, swap := none, tiles := [], hob := 0 } }], sigs := [{}], open_ := [true, true, true, true, true] } },
      0, { outs := [(7, false)], st := [], ins := [], raises := [], held := false, swap := none, tiles := [], hob := 0 },
      by decide +kernel⟩,
    ⟨{ at_ .lead [(F.HOB_STATUS_RUNNING, 1)] with img := { nodes := [{ ty := 1, cls := 1, rate := 0, home := 0, ins := [], outs := [0], params := [0], stateWords := 0 }], sigs := [{ int := false, producer := some 0, port := 0, initial := 0 }] }, gr := { s := some 5, insts := [{ sample := .committed }], sigs := [{}], open_ := [true, true, true, true, true], j := 3 } },
      0, 5, by decide +kernel⟩,
    ⟨{ at_ .join [(F.HOB_STATUS_RUNNING, 1)] with img := { nodes := [{ ty := 1, cls := 1, rate := 0, home := 0, ins := [], outs := [0], params := [0], stateWords := 0 }], sigs := [{ int := false, producer := some 0, port := 0, initial := 0 }] }, gr := { s := some 5, insts := [{ sample := .due }], sigs := [{}], open_ := [true, true, true, true, true], j := 3 } },
      0, 5, by decide +kernel⟩,
    ⟨{ at_ .replay [(F.HOB_STATUS_RUNNING, 1)] with img := { nodes := [{ ty := 1, cls := 1, rate := 0, home := 0, ins := [], outs := [0], params := [0], stateWords := 0 }], sigs := [{ int := false, producer := some 0, port := 0, initial := 0 }], replay := [0] }, gr := { s := some 5, insts := [{ sample := .committed, saved := some { st := [5], fresh := false, reseed := false, pend := none } }], sigs := [{}], open_ := [true, true, true, true, true], j := 3, noCommit := [(3, 0)] } },
      0, 5, 0, { st := [5], fresh := false, reseed := false, pend := none }, by decide +kernel⟩⟩

theorem test_hyps_BusOutputs :
    (∃ s : State, ∃ k : Nat, ∃ side : Bool, ∃ w : BusWrite, s.sys.phase = .run ∧ k < 24 ∧ s.tagLive k w = true ∧ s.liveLane k
      = k ∧ s.cmps.length = 24 ∧ ((∀ m ∈ k :: andironCmps, (s.cmps.getD m {}).stalled = [])) ∧ ((∀ e ∈ (s.cmps.getD k
      {}).fifo, e.1 = side ∨ e.2.tag ≠ w.tag ∨ e.2.sample ≠ w.sample)) ∧ (s.cmps.getD k {}).fifo.length < 256) ∧
    (∃ s : State, ∃ k : Nat, ∃ side : Bool, ∃ w : BusWrite, s.sys.phase = .run ∧ k < 24 ∧ s.tagLive k w = true ∧ s.liveLane k
      = k ∧ s.cmps.length = 24 ∧ ((∀ m ∈ k :: andironCmps, (s.cmps.getD m {}).stalled = [])) ∧ ((∀ e ∈ (s.cmps.getD k
      {}).fifo, e.1 = side ∨ e.2.tag ≠ w.tag ∨ e.2.sample ≠ w.sample)) ∧ (s.cmps.getD k {}).fifo.length < 256) ∧
    (∃ s : State, ∃ k : Nat, ∃ side : Bool, ∃ w : BusWrite, s.sys.phase = .run ∧ k < 24 ∧ s.tagLive k w = true ∧ s.liveLane k
      = k ∧ s.cmps.length = 24 ∧ ((∀ m ∈ k :: andironCmps, (s.cmps.getD m {}).stalled = [])) ∧ ((∀ e ∈ (s.cmps.getD k
      {}).fifo, e.1 = side ∨ e.2.tag ≠ w.tag ∨ e.2.sample ≠ w.sample)) ∧ (s.cmps.getD k {}).fifo.length < 256) ∧
    (∃ s : State, ∃ k : Nat, ∃ side : Bool, ∃ w : BusWrite, s.sys.phase = .run ∧ k < 24 ∧ s.tagLive k w = true ∧ s.liveLane k
      = k ∧ s.cmps.length = 24 ∧ ((∀ m ∈ k :: andironCmps, (s.cmps.getD m {}).stalled = [])) ∧ ((∀ e ∈ (s.cmps.getD k
      {}).fifo, e.1 = side ∨ e.2.tag ≠ w.tag ∨ e.2.sample ≠ w.sample)) ∧ 256 ≤ (s.cmps.getD k {}).fifo.length) ∧
    (∃ s : State, ∃ k : Nat, ∃ side : Bool, ∃ w : BusWrite, ∃ e : Bool × BusWrite, s.sys.phase = .run ∧ k < 24 ∧ s.tagLive k w
      = true ∧ s.liveLane k = k ∧ s.cmps.length = 24 ∧ ((∀ m ∈ k :: andironCmps, (s.cmps.getD m {}).stalled = [])) ∧
      (s.cmps.getD k {}).fifo.find? (fun e => decide (e.1 ≠ side) && decide (e.2.tag = w.tag) && decide (e.2.sample =
      w.sample)) = some e ∧ e.2 = w ∧ (s.cmps.getD k {}).fifo.length ≤ 256 ∧ s.isRetry k w.tag = false ∧ ((k < 8 ∨ 13 ≤ k)) ∧
      ((∀ m, pairOf k = some m → (s.cmps.getD m {}).flagged.contains w.tag = false))) ∧
    (∃ s : State, ∃ k : Nat, ∃ side : Bool, ∃ w : BusWrite, ∃ e : Bool × BusWrite, s.sys.phase = .run ∧ k < 24 ∧ s.tagLive k w
      = true ∧ s.liveLane k = k ∧ s.cmps.length = 24 ∧ ((∀ m ∈ k :: andironCmps, (s.cmps.getD m {}).stalled = [])) ∧
      (s.cmps.getD k {}).fifo.find? (fun e => decide (e.1 ≠ side) && decide (e.2.tag = w.tag) && decide (e.2.sample =
      w.sample)) = some e ∧ e.2 = w ∧ (s.cmps.getD k {}).fifo.length ≤ 256 ∧ s.isRetry k w.tag = false ∧ ((k < 8 ∨ 13 ≤ k)) ∧
      ((∀ m, pairOf k = some m → (s.cmps.getD m {}).flagged.contains w.tag = false))) ∧
    (∃ s : State, ∃ k : Nat, ∃ side : Bool, ∃ w : BusWrite, ∃ e : Bool × BusWrite, s.sys.phase = .run ∧ k < 24 ∧ s.tagLive k w
      = true ∧ s.liveLane k = k ∧ s.cmps.length = 24 ∧ ((∀ m ∈ k :: andironCmps, (s.cmps.getD m {}).stalled = [])) ∧
      (s.cmps.getD k {}).fifo.find? (fun e => decide (e.1 ≠ side) && decide (e.2.tag = w.tag) && decide (e.2.sample =
      w.sample)) = some e ∧ e.2 = w ∧ (s.cmps.getD k {}).fifo.length ≤ 256 ∧ s.isRetry k w.tag = false ∧ ((k < 8 ∨ 13 ≤ k)) ∧
      ((∀ m, pairOf k = some m → (s.cmps.getD m {}).flagged.contains w.tag = false))) ∧
    (∃ s : State, ∃ k : Nat, ∃ side : Bool, ∃ w : BusWrite, ∃ e : Bool × BusWrite, ∃ m, s.sys.phase = .run ∧ k < 24 ∧
      s.tagLive k w = true ∧ s.liveLane k = k ∧ s.cmps.length = 24 ∧ ((∀ m ∈ k :: andironCmps, (s.cmps.getD m {}).stalled =
      [])) ∧ (s.cmps.getD k {}).fifo.find? (fun e => decide (e.1 ≠ side) && decide (e.2.tag = w.tag) && decide (e.2.sample =
      w.sample)) = some e ∧ e.2 = w ∧ (s.cmps.getD k {}).fifo.length ≤ 256 ∧ s.isRetry k w.tag = false ∧ pairOf k = some m ∧
      (s.cmps.getD m {}).flagged.contains w.tag = true ∧ s.Quiet 0x19 ∧ s.asserted 0x19 = false) ∧
    (∃ s : State, ∃ k : Nat, ∃ side : Bool, ∃ w : BusWrite, ∃ e : Bool × BusWrite, ∃ m, s.sys.phase = .run ∧ k < 24 ∧
      s.tagLive k w = true ∧ s.liveLane k = k ∧ s.cmps.length = 24 ∧ ((∀ m ∈ k :: andironCmps, (s.cmps.getD m {}).stalled =
      [])) ∧ (s.cmps.getD k {}).fifo.find? (fun e => decide (e.1 ≠ side) && decide (e.2.tag = w.tag) && decide (e.2.sample =
      w.sample)) = some e ∧ e.2 = w ∧ (s.cmps.getD k {}).fifo.length ≤ 256 ∧ s.isRetry k w.tag = false ∧ pairOf k = some m ∧
      (s.cmps.getD m {}).flagged.contains w.tag = true ∧ s.Quiet 0x19 ∧ s.asserted 0x19 = false) ∧
    (∃ s : State, ∃ k : Nat, ∃ side : Bool, ∃ w : BusWrite, ∃ e : Bool × BusWrite, ∃ m, s.sys.phase = .run ∧ k < 24 ∧
      s.tagLive k w = true ∧ s.liveLane k = k ∧ s.cmps.length = 24 ∧ ((∀ m ∈ k :: andironCmps, (s.cmps.getD m {}).stalled =
      [])) ∧ (s.cmps.getD k {}).fifo.find? (fun e => decide (e.1 ≠ side) && decide (e.2.tag = w.tag) && decide (e.2.sample =
      w.sample)) = some e ∧ e.2 = w ∧ (s.cmps.getD k {}).fifo.length ≤ 256 ∧ s.isRetry k w.tag = false ∧ pairOf k = some m ∧
      (s.cmps.getD m {}).flagged.contains w.tag = true ∧ s.Quiet 0x19 ∧ s.asserted 0x19 = false) ∧
    (∃ s : State, ∃ k : Nat, ∃ side : Bool, ∃ w : BusWrite, ∃ e : Bool × BusWrite, ∃ m, s.sys.phase = .run ∧ k < 24 ∧
      s.tagLive k w = true ∧ s.liveLane k = k ∧ s.cmps.length = 24 ∧ ((∀ m ∈ k :: andironCmps, (s.cmps.getD m {}).stalled =
      [])) ∧ (s.cmps.getD k {}).fifo.find? (fun e => decide (e.1 ≠ side) && decide (e.2.tag = w.tag) && decide (e.2.sample =
      w.sample)) = some e ∧ e.2 = w ∧ (s.cmps.getD k {}).fifo.length ≤ 256 ∧ s.isRetry k w.tag = false ∧ pairOf k = some m ∧
      (s.cmps.getD m {}).flagged.contains w.tag = true ∧ s.Quiet 0x19 ∧ s.asserted 0x19 = false) ∧
    (∃ s : State, ∃ k : Nat, ∃ side : Bool, ∃ w : BusWrite, ∃ e : Bool × BusWrite, s.sys.phase = .run ∧ k < 24 ∧ s.tagLive k w
      = true ∧ s.liveLane k = k ∧ s.cmps.length = 24 ∧ ((∀ m ∈ k :: andironCmps, (s.cmps.getD m {}).stalled = [])) ∧
      (s.cmps.getD k {}).fifo.find? (fun e => decide (e.1 ≠ side) && decide (e.2.tag = w.tag) && decide (e.2.sample =
      w.sample)) = some e ∧ e.2 = w ∧ (s.cmps.getD k {}).fifo.length ≤ 256 ∧ s.isRetry k w.tag = false ∧ k = 9) ∧
    (∃ s : State, ∃ k : Nat, ∃ side : Bool, ∃ w : BusWrite, ∃ e : Bool × BusWrite, s.sys.phase = .run ∧ k < 24 ∧ s.tagLive k w
      = true ∧ s.liveLane k = k ∧ s.cmps.length = 24 ∧ ((∀ m ∈ k :: andironCmps, (s.cmps.getD m {}).stalled = [])) ∧
      (s.cmps.getD k {}).fifo.find? (fun e => decide (e.1 ≠ side) && decide (e.2.tag = w.tag) && decide (e.2.sample =
      w.sample)) = some e ∧ e.2 = w ∧ (s.cmps.getD k {}).fifo.length ≤ 256 ∧ s.isRetry k w.tag = false ∧ k = 9) ∧
    (∃ s : State, ∃ k : Nat, ∃ side : Bool, ∃ w : BusWrite, ∃ e : Bool × BusWrite, ∃ a, ∃ v, ∃ kk, ∃ f, s.sys.phase = .run ∧ k
      < 24 ∧ s.tagLive k w = true ∧ s.liveLane k = k ∧ s.cmps.length = 24 ∧ ((∀ m ∈ k :: andironCmps, (s.cmps.getD m
      {}).stalled = [])) ∧ (s.cmps.getD k {}).fifo.find? (fun e => decide (e.1 ≠ side) && decide (e.2.tag = w.tag) && decide
      (e.2.sample = w.sample)) = some e ∧ e.2 = w ∧ (s.cmps.getD k {}).fifo.length ≤ 256 ∧ s.isRetry k w.tag = false ∧ k = 11
      ∧ busWords w = [(a, v)] ∧ guards k a = true ∧ findReg a = some (kk, f) ∧ kk.rw ≠ 0 ∧ isoAbsent a = false ∧ ownWrite a =
      false) ∧
    (∃ s : State, ∃ k : Nat, ∃ side : Bool, ∃ w : BusWrite, ∃ e : Bool × BusWrite, ∃ a, ∃ v, ∃ kk, ∃ f, s.sys.phase = .run ∧ k
      < 24 ∧ s.tagLive k w = true ∧ s.liveLane k = k ∧ s.cmps.length = 24 ∧ ((∀ m ∈ k :: andironCmps, (s.cmps.getD m
      {}).stalled = [])) ∧ (s.cmps.getD k {}).fifo.find? (fun e => decide (e.1 ≠ side) && decide (e.2.tag = w.tag) && decide
      (e.2.sample = w.sample)) = some e ∧ e.2 = w ∧ (s.cmps.getD k {}).fifo.length ≤ 256 ∧ s.isRetry k w.tag = false ∧ k = 11
      ∧ busWords w = [(a, v)] ∧ guards k a = true ∧ findReg a = some (kk, f) ∧ kk.rw ≠ 0 ∧ isoAbsent a = false ∧ ownWrite a =
      false) ∧
    (∃ s : State, ∃ k : Nat, ∃ side : Bool, ∃ w : BusWrite, ∃ c : Instr, ∃ e : Bool × BusWrite, s.sys.phase = .run ∧ k < 24 ∧
      s.tagLive k w = true ∧ s.liveLane k = k ∧ s.cmps.length = 24 ∧ ((∀ m ∈ k :: andironCmps, (s.cmps.getD m {}).stalled =
      [])) ∧ ((c = .busOutputWrite k side w ∧ (s.cmps.getD k {}).fifo.find? (fun e => decide (e.1 ≠ side) && decide (e.2.tag =
      w.tag) && decide (e.2.sample = w.sample)) = some e ∧ e.2 ≠ w ∨ c = .cmpTimeout k w.tag ∧ (s.cmps.getD k {}).fifo.find?
      (fun e => decide (e.2.tag = w.tag)) = some e)) ∧ s.Quiet k ∧ s.asserted k = false ∧ s.Quiet 0x18 ∧ s.asserted 0x18 =
      false ∧ s.Quiet 0x19 ∧ s.Quiet 0x30 ∧ 8 ≤ k ∧ k ≠ 13 ∧ ((k ≠ 23 ∨ s.mode.recordsOnly = true))) ∧
    (∃ s : State, ∃ k : Nat, ∃ side : Bool, ∃ w : BusWrite, ∃ c : Instr, ∃ e : Bool × BusWrite, s.sys.phase = .run ∧ k < 24 ∧
      s.tagLive k w = true ∧ s.liveLane k = k ∧ s.cmps.length = 24 ∧ ((∀ m ∈ k :: andironCmps, (s.cmps.getD m {}).stalled =
      [])) ∧ ((c = .busOutputWrite k side w ∧ (s.cmps.getD k {}).fifo.find? (fun e => decide (e.1 ≠ side) && decide (e.2.tag =
      w.tag) && decide (e.2.sample = w.sample)) = some e ∧ e.2 ≠ w ∨ c = .cmpTimeout k w.tag ∧ (s.cmps.getD k {}).fifo.find?
      (fun e => decide (e.2.tag = w.tag)) = some e)) ∧ s.Quiet k ∧ s.asserted k = false ∧ s.Quiet 0x18 ∧ s.asserted 0x18 =
      false ∧ s.Quiet 0x19 ∧ s.Quiet 0x30 ∧ 8 ≤ k ∧ k ≠ 13 ∧ ((k ≠ 23 ∨ s.mode.recordsOnly = true))) ∧
    (∃ s : State, ∃ k : Nat, ∃ side : Bool, ∃ w : BusWrite, ∃ c : Instr, ∃ e : Bool × BusWrite, s.sys.phase = .run ∧ k < 24 ∧
      s.tagLive k w = true ∧ s.liveLane k = k ∧ s.cmps.length = 24 ∧ ((∀ m ∈ k :: andironCmps, (s.cmps.getD m {}).stalled =
      [])) ∧ ((c = .busOutputWrite k side w ∧ (s.cmps.getD k {}).fifo.find? (fun e => decide (e.1 ≠ side) && decide (e.2.tag =
      w.tag) && decide (e.2.sample = w.sample)) = some e ∧ e.2 ≠ w ∨ c = .cmpTimeout k w.tag ∧ (s.cmps.getD k {}).fifo.find?
      (fun e => decide (e.2.tag = w.tag)) = some e)) ∧ s.Quiet k ∧ s.asserted k = false ∧ s.Quiet 0x18 ∧ s.asserted 0x18 =
      false ∧ s.Quiet 0x19 ∧ s.Quiet 0x30 ∧ 8 ≤ k ∧ k ≠ 13 ∧ ((k ≠ 23 ∨ s.mode.recordsOnly = true))) ∧
    (∃ s : State, ∃ k : Nat, ∃ side : Bool, ∃ w : BusWrite, ∃ c : Instr, ∃ e : Bool × BusWrite, s.sys.phase = .run ∧ k < 24 ∧
      s.tagLive k w = true ∧ s.liveLane k = k ∧ s.cmps.length = 24 ∧ ((∀ m ∈ k :: andironCmps, (s.cmps.getD m {}).stalled =
      [])) ∧ ((c = .busOutputWrite k side w ∧ (s.cmps.getD k {}).fifo.find? (fun e => decide (e.1 ≠ side) && decide (e.2.tag =
      w.tag) && decide (e.2.sample = w.sample)) = some e ∧ e.2 ≠ w ∨ c = .cmpTimeout k w.tag ∧ (s.cmps.getD k {}).fifo.find?
      (fun e => decide (e.2.tag = w.tag)) = some e)) ∧ s.Quiet k ∧ s.asserted k = false ∧ s.Quiet 0x18 ∧ s.asserted 0x18 =
      false ∧ s.Quiet 0x19 ∧ s.Quiet 0x30 ∧ 8 ≤ k ∧ k ≠ 13 ∧ ((k ≠ 23 ∨ s.mode.recordsOnly = true))) ∧
    (∃ s : State, ∃ k : Nat, ∃ side : Bool, ∃ w : BusWrite, ∃ c : Instr, ∃ e : Bool × BusWrite, s.sys.phase = .run ∧ k < 24 ∧
      s.tagLive k w = true ∧ s.liveLane k = k ∧ s.cmps.length = 24 ∧ ((∀ m ∈ k :: andironCmps, (s.cmps.getD m {}).stalled =
      [])) ∧ ((c = .busOutputWrite k side w ∧ (s.cmps.getD k {}).fifo.find? (fun e => decide (e.1 ≠ side) && decide (e.2.tag =
      w.tag) && decide (e.2.sample = w.sample)) = some e ∧ e.2 ≠ w ∨ c = .cmpTimeout k w.tag ∧ (s.cmps.getD k {}).fifo.find?
      (fun e => decide (e.2.tag = w.tag)) = some e)) ∧ s.Quiet k ∧ s.asserted k = false ∧ s.Quiet 0x18 ∧ s.asserted 0x18 =
      false ∧ s.Quiet 0x19 ∧ s.Quiet 0x30 ∧ k = 23 ∧ s.mode ∈ [.shadow, .lead, .leadDegraded, .limp, .stopping] ∧ c =
      .busOutputWrite k side w ∧ max (w.data % 16) (e.2.data % 16) = 6 ∧ s.getF F.FLT_REACT_ACTION ≤ 6 ∧ s.flt.acting = []) ∧
    (∃ s : State, ∃ k : Nat, ∃ side : Bool, ∃ w : BusWrite, ∃ c : Instr, ∃ e : Bool × BusWrite, s.sys.phase = .run ∧ k < 24 ∧
      s.tagLive k w = true ∧ s.liveLane k = k ∧ s.cmps.length = 24 ∧ ((∀ m ∈ k :: andironCmps, (s.cmps.getD m {}).stalled =
      [])) ∧ ((c = .busOutputWrite k side w ∧ (s.cmps.getD k {}).fifo.find? (fun e => decide (e.1 ≠ side) && decide (e.2.tag =
      w.tag) && decide (e.2.sample = w.sample)) = some e ∧ e.2 ≠ w ∨ c = .cmpTimeout k w.tag ∧ (s.cmps.getD k {}).fifo.find?
      (fun e => decide (e.2.tag = w.tag)) = some e)) ∧ s.Quiet k ∧ s.asserted k = false ∧ s.Quiet 0x18 ∧ s.asserted 0x18 =
      false ∧ s.Quiet 0x19 ∧ s.Quiet 0x30 ∧ (k < 8 ∨ k = 13) ∧ (s.inst w.tag).sample = .due ∧ w.tag < s.img.nodes.length ∧
      w.tag < s.gr.insts.length) ∧
    (∃ s : State, ∃ k : Nat, ∃ side : Bool, ∃ w : BusWrite, ∃ c : Instr, ∃ e : Bool × BusWrite, s.sys.phase = .run ∧ k < 24 ∧
      s.tagLive k w = true ∧ s.liveLane k = k ∧ s.cmps.length = 24 ∧ ((∀ m ∈ k :: andironCmps, (s.cmps.getD m {}).stalled =
      [])) ∧ ((c = .busOutputWrite k side w ∧ (s.cmps.getD k {}).fifo.find? (fun e => decide (e.1 ≠ side) && decide (e.2.tag =
      w.tag) && decide (e.2.sample = w.sample)) = some e ∧ e.2 ≠ w ∨ c = .cmpTimeout k w.tag ∧ (s.cmps.getD k {}).fifo.find?
      (fun e => decide (e.2.tag = w.tag)) = some e)) ∧ s.Quiet k ∧ s.asserted k = false ∧ s.Quiet 0x18 ∧ s.asserted 0x18 =
      false ∧ s.Quiet 0x19 ∧ s.Quiet 0x30 ∧ (k < 8 ∨ k = 13) ∧ (s.inst w.tag).sample = .due ∧ w.tag < s.img.nodes.length ∧
      w.tag < s.gr.insts.length) :=
  ⟨
    ⟨at_ .join [], 23, true, { tag := 9, sample := 0, addr := 1, be := 15, data := 2 }, by decide +kernel⟩,
    ⟨{ at_ .join [] with cmps := List.replicate 24 { fifo := [(false, { tag := 9, sample := 0, addr := 1, be := 15, data := 2 })] } },
      8, false, { tag := 9, sample := 0, addr := 1, be := 15, data := 2 }, by decide +kernel⟩,
    ⟨{ at_ .join [] with img := { nodes := [{ ty := 1, cls := 0, rate := 0, home := 0, ins := [], outs := [0], params := [0], stateWords := 0 }], sigs := [{ int := false, producer := some 0, port := 0, initial := 0 }] }, gr := { s := some 5, insts := [{ sample := .due }], sigs := [{}], open_ := [true, true, true, true, true] } },
      0, false, { tag := 0, sample := 20, addr := 1, be := 15, data := 2 }, by decide +kernel⟩,
    ⟨{ at_ .join [] with cmps := List.replicate 24 { fifo := List.replicate 256 (true, { tag := 8, sample := 0, addr := 1, be := 15, data := 2 }) } },
      23, true, { tag := 9, sample := 0, addr := 1, be := 15, data := 2 }, by decide +kernel⟩,
    ⟨{ at_ .join [] with cmps := List.replicate 24 { fifo := [(false, { tag := 9, sample := 0, addr := 1, be := 15, data := 2 })] } },
      23, true, { tag := 9, sample := 0, addr := 1, be := 15, data := 2 }, (false,
      { tag := 9, sample := 0, addr := 1, be := 15, data := 2 }), by decide +kernel⟩,
    ⟨{ at_ .join [] with cmps := List.replicate 24 { fifo := [(false, { tag := 9, sample := 0, addr := 1, be := 15, data := 2 })] } },
      16, true, { tag := 9, sample := 0, addr := 1, be := 15, data := 2 }, (false,
      { tag := 9, sample := 0, addr := 1, be := 15, data := 2 }), by decide +kernel⟩,
    ⟨{ at_ .join [] with cmps := List.replicate 24 { fifo := [(true, { tag := 0, sample := 20, addr := 1, be := 15, data := 2 })] }, img := { nodes := [{ ty := 1, cls := 0, rate := 0, home := 0, ins := [], outs := [0], params := [0], stateWords := 0 }], sigs := [{ int := false, producer := some 0, port := 0, initial := 0 }] }, gr := { s := some 5, insts := [{ sample := .due }], sigs := [{}], open_ := [true, true, true, true, true] } },
      13, false, { tag := 0, sample := 20, addr := 1, be := 15, data := 2 }, (true,
      { tag := 0, sample := 20, addr := 1, be := 15, data := 2 }), by decide +kernel⟩,
    ⟨{ at_ .join [] with cmps := List.replicate 24 { fifo := [(false, { tag := 9, sample := 0, addr := 1, be := 15, data := 2 })], flagged := [9] } },
      16, true, { tag := 9, sample := 0, addr := 1, be := 15, data := 2 }, (false,
      { tag := 9, sample := 0, addr := 1, be := 15, data := 2 }), 19, by decide +kernel⟩,
    ⟨{ at_ .join [] with cmps := List.replicate 24 { fifo := [(false, { tag := 9, sample := 0, addr := 1, be := 15, data := 2 })], flagged := [9] } },
      17, true, { tag := 9, sample := 0, addr := 1, be := 15, data := 2 }, (false,
      { tag := 9, sample := 0, addr := 1, be := 15, data := 2 }), 20, by decide +kernel⟩,
    ⟨{ at_ .join [] with cmps := List.replicate 24 { fifo := [(false, { tag := 9, sample := 0, addr := 1, be := 15, data := 2 })], flagged := [9] } },
      18, true, { tag := 9, sample := 0, addr := 1, be := 15, data := 2 }, (false,
      { tag := 9, sample := 0, addr := 1, be := 15, data := 2 }), 21, by decide +kernel⟩,
    ⟨{ at_ .join [] with cmps := List.replicate 24 { fifo := [(false, { tag := 9, sample := 0, addr := 1, be := 15, data := 2 })], flagged := [9] } },
      21, true, { tag := 9, sample := 0, addr := 1, be := 15, data := 2 }, (false,
      { tag := 9, sample := 0, addr := 1, be := 15, data := 2 }), 18, by decide +kernel⟩,
    ⟨{ at_ .join [] with cmps := List.replicate 24 { fifo := [(false, { tag := 9, sample := 0, addr := 0x207FFFF0, be := 0xFFFF0003, data := 2 ^ 250 + 0x0405 })] } },
      9, true, { tag := 9, sample := 0, addr := 0x207FFFF0, be := 0xFFFF0003, data := 2 ^ 250 + 0x0405 }, (false,
      { tag := 9, sample := 0, addr := 0x207FFFF0, be := 0xFFFF0003, data := 2 ^ 250 + 0x0405 }), by decide +kernel⟩,
    ⟨{ at_ .join [] with cmps := List.replicate 24 { fifo := [(false, { tag := 9, sample := 0, addr := 0x20000000, be := 3, data := 0x0405 })] } },
      9, true, { tag := 9, sample := 0, addr := 0x20000000, be := 3, data := 0x0405 }, (false,
      { tag := 9, sample := 0, addr := 0x20000000, be := 3, data := 0x0405 }), by decide +kernel⟩,
    ⟨{ at_ .join [] with cmps := List.replicate 24 { fifo := [(false, { tag := 9, sample := 0, addr := 0x40070054, be := 0xF, data := 7 })] } },
      11, true, { tag := 9, sample := 0, addr := 0x40070054, be := 0xF, data := 7 }, (false,
      { tag := 9, sample := 0, addr := 0x40070054, be := 0xF, data := 7 }), 0x40070054, 7, ((findReg 0x40070054).get
      (by decide +kernel)).1, ((findReg 0x40070054).get (by decide +kernel)).2, by decide +kernel⟩,
    ⟨{ at_ .join [] with cmps := List.replicate 24 { fifo := [(false, { tag := 9, sample := 0, addr := 0x400F1088, be := 0xF, data := 7 })] } },
      11, true, { tag := 9, sample := 0, addr := 0x400F1088, be := 0xF, data := 7 }, (false,
      { tag := 9, sample := 0, addr := 0x400F1088, be := 0xF, data := 7 }), 0x400F1088, 7, ((findReg 0x400F1088).get
      (by decide +kernel)).1, ((findReg 0x400F1088).get (by decide +kernel)).2, by decide +kernel⟩,
    ⟨{ at_ .join [] with cmps := List.replicate 24 { fifo := [(false, { tag := 9, sample := 0, addr := 1, be := 15, data := 3 })] } },
      23, true, { tag := 9, sample := 0, addr := 1, be := 15, data := 2 }, .busOutputWrite 23 true
      { tag := 9, sample := 0, addr := 1, be := 15, data := 2 }, (false,
      { tag := 9, sample := 0, addr := 1, be := 15, data := 3 }), by decide +kernel⟩,
    ⟨{ at_ .join [] with cmps := List.replicate 24 { fifo := [(true, { tag := 9, sample := 0, addr := 1, be := 15, data := 3 })] } },
      8, true, { tag := 9, sample := 0, addr := 1, be := 15, data := 2 }, .cmpTimeout 8 9, (true,
      { tag := 9, sample := 0, addr := 1, be := 15, data := 3 }), by decide +kernel⟩,
    ⟨{ at_ .join [] with cmps := List.replicate 24 { fifo := [(true, { tag := 9, sample := 0, addr := 1, be := 15, data := 3 })], retry := [9] } },
      11, true, { tag := 9, sample := 0, addr := 1, be := 15, data := 2 }, .cmpTimeout 11 9, (true,
      { tag := 9, sample := 0, addr := 1, be := 15, data := 3 }), by decide +kernel⟩,
    ⟨{ at_ .join [] with cmps := List.replicate 24 { fifo := [(false, { tag := 9, sample := 0, addr := 1, be := 15, data := 3 })], passed := [9] } },
      17, true, { tag := 9, sample := 0, addr := 1, be := 15, data := 2 }, .busOutputWrite 17 true
      { tag := 9, sample := 0, addr := 1, be := 15, data := 2 }, (false,
      { tag := 9, sample := 0, addr := 1, be := 15, data := 3 }), by decide +kernel⟩,
    ⟨{ at_ .lead [(F.FLT_SRC_REACTION 23, 0), (F.FLT_SRC_REACTION 24, 0), (F.FLT_SRC_REACTION 25, 0), (F.FLT_SRC_REACTION 48, 0)] with cmps := List.replicate 24 { fifo := [(false, { tag := 9, sample := 0, addr := 1, be := 15, data := 3 })] } },
      23, true, { tag := 9, sample := 0, addr := 1, be := 15, data := 6 }, .busOutputWrite 23 true
      { tag := 9, sample := 0, addr := 1, be := 15, data := 6 }, (false,
      { tag := 9, sample := 0, addr := 1, be := 15, data := 3 }), by decide +kernel⟩,
    ⟨{ at_ .join [] with cmps := List.replicate 24 { fifo := [(false, { tag := 0, sample := 20, addr := 1, be := 15, data := 3 })] }, img := { nodes := [{ ty := 1, cls := 0, rate := 0, home := 0, ins := [], outs := [0], params := [0], stateWords := 0 }], sigs := [{ int := false, producer := some 0, port := 0, initial := 0 }] }, gr := { s := some 5, insts := [{ sample := .due }], sigs := [{}], open_ := [true, true, true, true, true] } },
      0, true, { tag := 0, sample := 20, addr := 1, be := 15, data := 2 }, .busOutputWrite 0 true
      { tag := 0, sample := 20, addr := 1, be := 15, data := 2 }, (false,
      { tag := 0, sample := 20, addr := 1, be := 15, data := 3 }), by decide +kernel⟩,
    ⟨{ at_ .join [] with cmps := List.replicate 24 { fifo := [(false, { tag := 0, sample := 20, addr := 1, be := 15, data := 3 })] }, img := { nodes := [{ ty := 1, cls := 0, rate := 0, home := 0, ins := [], outs := [0], params := [0], stateWords := 0 }], sigs := [{ int := false, producer := some 0, port := 0, initial := 0 }] }, gr := { s := some 5, insts := [{ sample := .due, retried := true }], sigs := [{}], open_ := [true, true, true, true, true] } },
      13, true, { tag := 0, sample := 20, addr := 1, be := 15, data := 2 }, .cmpTimeout 13 0, (false,
      { tag := 0, sample := 20, addr := 1, be := 15, data := 3 }), by decide +kernel⟩⟩

theorem test_hyps_LanesAndTiles :
    (∃ s : State, ∃ k, ∃ d, s.sys.phase = .run ∧ ((8 ≤ k ∧ k < 24 ∧ d = false ∨ 16 ≤ k ∧ k ≤ 21 ∧ d = true)) ∧ s.Quiet 0x19 ∧
      s.asserted 0x19 = false) ∧
    (∃ s : State, ∃ k, ∃ d, s.sys.phase = .run ∧ ((8 ≤ k ∧ k < 24 ∧ d = false ∨ 16 ≤ k ∧ k ≤ 21 ∧ d = true)) ∧ s.Quiet 0x19 ∧
      s.asserted 0x19 = false) ∧
    (∃ s : State, ∃ k, ∃ d, s.sys.phase = .run ∧ ((8 ≤ k ∧ k < 24 ∧ d = false ∨ 16 ≤ k ∧ k ≤ 21 ∧ d = true)) ∧ s.Quiet 0x19 ∧
      s.asserted 0x19 = false) ∧
    (∃ s : State, ∃ k, ∃ d, s.sys.phase = .run ∧ ((8 ≤ k ∧ k < 24 ∧ d = false ∨ 16 ≤ k ∧ k ≤ 21 ∧ d = true)) ∧ s.Quiet 0x19 ∧
      s.asserted 0x19 = false) ∧
    (∃ s : State, ∃ k, s.sys.phase = .run ∧ k < 8 ∧ s.flag (F.CMP_STAT_RETIRED k) = true) ∧
    (∃ s : State, ∃ k, ∃ n, s.sys.phase = .run ∧ k < 8 ∧ n < 8 ∧ n ≠ k ∧ s.flag (F.CMP_STAT_RETIRED k) = false ∧ s.flag
      (F.CMP_STAT_RETIRED n) = false ∧ s.Quiet 0x1A ∧ s.asserted 0x1A = false ∧ s.Quiet 0x30) ∧
    (∃ s : State, ∃ k, ∃ n, s.sys.phase = .run ∧ k < 8 ∧ n < 8 ∧ n ≠ k ∧ s.flag (F.CMP_STAT_RETIRED k) = false ∧ s.flag
      (F.CMP_STAT_RETIRED n) = false ∧ s.Quiet 0x1A ∧ s.asserted 0x1A = false ∧ s.Quiet 0x30) ∧
    (∃ s : State, ∃ tile, s.sys.phase = .run ∧ tile < 2048 ∧ tile ∉ s.gr.verified) ∧
    (∃ s : State, ∃ tile, s.sys.phase = .run ∧ tile < 2048 ∧ tile ∉ s.gr.verified ∧ s.Quiet 0x30 ∧ s.Quiet (0x1C + regionOf
      tile) ∧ s.asserted (0x1C + regionOf tile) = false) ∧
    (∃ s : State, ∃ tile, s.sys.phase = .run ∧ tile < 2048 ∧ tile ∉ s.gr.verified ∧ s.Quiet 0x30 ∧ s.Quiet (0x22 + regionOf
      tile) ∧ s.asserted (0x22 + regionOf tile) = false ∧ ((∀ m ∈ andironCmps, (s.cmps.getD m {}).stalled = [])) ∧ tile / 16 ∉
      s.sys.spares) ∧
    (∃ s : State, ∃ tile, s.sys.phase = .run ∧ tile < 2048 ∧ tile ∉ s.gr.verified ∧ s.Quiet 0x30 ∧ s.Quiet (0x22 + regionOf
      tile) ∧ s.asserted (0x22 + regionOf tile) = false ∧ ((∀ m ∈ andironCmps, (s.cmps.getD m {}).stalled = [])) ∧ tile / 16 ∉
      s.sys.spares) ∧
    (∃ s : State, ∃ tile, s.sys.phase = .run ∧ tile < 2048 ∧ tile ∉ s.gr.verified ∧ s.Quiet 0x30 ∧ s.Quiet (0x22 + regionOf
      tile) ∧ s.asserted (0x22 + regionOf tile) = false ∧ ((∀ m ∈ andironCmps, (s.cmps.getD m {}).stalled = [])) ∧ tile / 16 ∉
      s.sys.spares) ∧
    (∃ s : State, ∃ tile, s.sys.phase = .run ∧ tile < 2048 ∧ tile ∉ s.gr.verified ∧ s.Quiet 0x30 ∧ s.Quiet (0x22 + regionOf
      tile) ∧ s.asserted (0x22 + regionOf tile) = false ∧ ((∀ m ∈ andironCmps, (s.cmps.getD m {}).stalled = [])) ∧ tile / 16 ∉
      s.sys.spares) ∧
    (∃ s : State, ∃ tile, s.sys.phase = .run ∧ tile < 2048 ∧ tile ∉ s.gr.verified ∧ s.Quiet 0x30 ∧ s.Quiet (0x22 + regionOf
      tile) ∧ s.asserted (0x22 + regionOf tile) = false ∧ ((∀ m ∈ andironCmps, (s.cmps.getD m {}).stalled = [])) ∧ tile / 16 ∉
      s.sys.spares) ∧
    (∃ s : State, ∃ tile, s.sys.phase = .run ∧ tile < 2048 ∧ tile ∉ s.gr.verified ∧ s.Quiet 0x30 ∧ s.Quiet (0x22 + regionOf
      tile) ∧ s.asserted (0x22 + regionOf tile) = false ∧ ((∀ m ∈ andironCmps, (s.cmps.getD m {}).stalled = [])) ∧ tile / 16 ∉
      s.sys.spares) ∧
    (∃ s : State, ∃ tile, s.sys.phase = .run ∧ tile < 2048 ∧ tile ∉ s.gr.verified ∧ s.Quiet 0x30 ∧ s.Quiet (0x22 + regionOf
      tile) ∧ s.asserted (0x22 + regionOf tile) = false ∧ ((∀ m ∈ andironCmps, (s.cmps.getD m {}).stalled = [])) ∧ tile / 16 ∈
      s.sys.spares ∧ 2 ≤ regionOf tile ∧ s.Quiet 0x29 ∧ s.asserted 0x29 = false) ∧
    (∃ s : State, ∃ tile, s.sys.phase = .run ∧ tile < 2048 ∧ tile ∉ s.gr.verified ∧ s.Quiet 0x30 ∧ s.Quiet (0x22 + regionOf
      tile) ∧ s.asserted (0x22 + regionOf tile) = false ∧ ((∀ m ∈ andironCmps, (s.cmps.getD m {}).stalled = [])) ∧ tile / 16 ∈
      s.sys.spares ∧ 2 ≤ regionOf tile ∧ s.Quiet 0x29 ∧ s.asserted 0x29 = false) ∧
    (∃ s : State, ∃ tile, s.sys.phase = .run ∧ tile < 2048 ∧ tile ∉ s.gr.verified ∧ s.Quiet 0x30 ∧ s.Quiet (0x22 + regionOf
      tile) ∧ s.asserted (0x22 + regionOf tile) = false ∧ ((∀ m ∈ andironCmps, (s.cmps.getD m {}).stalled = [])) ∧ tile / 16 ∈
      s.sys.spares ∧ regionOf tile = 1) ∧
    (∃ s : State, ∃ tile, s.sys.phase = .run ∧ tile < 2048 ∧ tile ∉ s.gr.verified ∧ s.Quiet 0x30 ∧ s.Quiet (0x22 + regionOf
      tile) ∧ s.asserted (0x22 + regionOf tile) = false ∧ ((∀ m ∈ andironCmps, (s.cmps.getD m {}).stalled = [])) ∧ tile / 16 ∈
      s.sys.spares ∧ regionOf tile = 0 ∧ s.flag (F.SYS_CLUSTER_RETIRED (tile / 48)) = false ∧ tile / 48 < 8 ∧ s.Quiet 0x28 ∧
      s.asserted 0x28 = false) :=
  ⟨
    ⟨at_ .join [], 8, false, by decide +kernel⟩,
    ⟨at_ .join [], 18, true, by decide +kernel⟩,
    ⟨at_ .join [], 20, true, by decide +kernel⟩,
    ⟨at_ .join [], 16, true, by decide +kernel⟩,
    ⟨at_ .join [(F.CMP_STAT_RETIRED 7, 1)], 7, by decide +kernel⟩,
    ⟨at_ .join [], 0, 7, by decide +kernel⟩,
    ⟨{ at_ .join [] with img := { nodes := [{ ty := 1, cls := 0, rate := 0, home := 0, ins := [], outs := [0], params := [0], stateWords := 0 }], sigs := [{ int := false, producer := some 0, port := 0, initial := 0 }] }, gr := { s := some 5, insts := [{ sample := .due, b := some { outs := [(7, false)], st := [], ins := [], raises := [], held := false, swap := none, tiles := [], hob := 0 } }], sigs := [{}], open_ := [true, true, true, true, true] } },
      0, 7, by decide +kernel⟩,
    ⟨at_ .join [], 2047, by decide +kernel⟩,
    ⟨at_ .join [], 2047, by decide +kernel⟩,
    ⟨at_ .join [], 1599, by decide +kernel⟩,
    ⟨{ at_ .join [] with tiles := [(0x20580000, 5), (0x205E0007, 9)] }, 1408, by decide +kernel⟩,
    ⟨{ at_ .join [] with img := { nodes := [{ ty := 1, cls := 1, rate := 0, home := 0, ins := [], outs := [0], params := [0], stateWords := 0 }], sigs := [{ int := false, producer := some 0, port := 0, initial := 0 }] }, gr := { s := some 5, insts := [{ sample := .due }], sigs := [{}], open_ := [true, true, true, true, true] } },
      0, by decide +kernel⟩,
    ⟨{ at_ .join [] with map := { dir := [{ key := ⟨0, 1, 2⟩, slot := 1023, st := 1, ver := 0, use := 0, raster := 0 }] } },
      1407, by decide +kernel⟩,
    ⟨{ at_ .join [] with cans := List.replicate 4 { fifo := [({ id := 5, ext := false, dlc := 1, data := [7] }, 0, 0)] }, tiles := [(0x206FF000, 5)] },
      1791, by decide +kernel⟩,
    ⟨at_ .join [], 2047, by decide +kernel⟩,
    ⟨{ at_ .join [] with sys := { phase := .run, spares := [127] } }, 2047, by decide +kernel⟩,
    ⟨{ at_ .join [] with sys := { phase := .run, spares := [88] } }, 1408, by decide +kernel⟩,
    ⟨{ at_ .join [] with sys := { phase := .run, spares := [24] } }, 384, by decide +kernel⟩,
    ⟨{ at_ .join [] with sys := { phase := .run, spares := [23] } }, 383, by decide +kernel⟩⟩

theorem test_hyps_ShutdownSequence :
    (∃ s : State, ∃ c, ∃ alt, s.sys.phase = .run ∧ s.sys.joined = true ∧ c < 8 ∧ s.sps.length = 8 ∧ s.flag
      (F.LAW_SP_SRC_ENABLE c) = true ∧ s.getF (F.LAW_SP_SRC_TIMEOUT c) ≠ 0 ∧ s.spKind c alt ≠ 0) ∧
    (∃ s : State, s.sys.phase = .run ∧ s.sdNonZero = true ∧ s.flag F.SAF_STATUS_STANDSTILL = true ∧ s.mode ∈ [.shadow, .lead,
      .leadDegraded, .limp]) ∧
    (∃ s : State, s.sys.phase = .run ∧ s.sdNonZero = true ∧ s.flag F.SAF_STATUS_STANDSTILL = false) ∧
    (∃ s : State, s.sys.phase = .run ∧ s.sys.heldSafe = false) ∧
    (∃ s : State, s.sys.phase = .run ∧ s.sys.heldSafe = true) ∧
    (∃ s : State, s.sys.phase = .run ∧ s.mode = .safeHold ∧ s.flag F.PWR_STATUS_SD_PENDING = true ∧ s.ash.queue = [] ∧
      s.ember.vbat = true) :=
  ⟨
    ⟨at_ .join [(F.LAW_SP_SRC_ENABLE 7, 1), (F.LAW_SP_SRC_TIMEOUT 7, 1), (F.LAW_SP_ALT_KIND 7, 1)], 7, true,
      by decide +kernel⟩,
    ⟨{ at_ .shadow [(F.PWR_CFG_SD_EN, 1), (F.LAW_SP_SRC_ENABLE 0, 1), (F.SAF_STATUS_STANDSTILL, 1)] with sps := List.replicate 8 { pri := { val := some 0x3F800000 }, cur := some 0x3F800000 } },
      by decide +kernel⟩,
    ⟨{ at_ .lead [(F.PWR_CFG_SD_EN, 1), (F.LAW_SP_SRC_ENABLE 0, 1)] with sps := List.replicate 8 { pri := { val := some 0x3F800000 }, cur := some 0x3F800000 } },
      by decide +kernel⟩,
    ⟨at_ .join [], by decide +kernel⟩,
    ⟨{ at_ .safeHold [] with sys := { phase := .run, heldSafe := true } }, by decide +kernel⟩,
    ⟨at_ .safeHold [(F.PWR_STATUS_SD_PENDING, 1)], by decide +kernel⟩⟩

theorem test_hyps_WakeWins :
    ∃ s : State, s.sys.phase = .run ∧ s.mode = .safeHold ∧ s.flag F.PWR_STATUS_SD_PENDING = true ∧ s.ash.queue = [] ∧
      s.ember.vbat = true ∧ s.ember.alarm.isSome = true ∧ s.ember.pwrReq = true :=
  ⟨{ at_ .safeHold [(F.PWR_STATUS_SD_PENDING, 1)] with ember := { alarm := some 5, pwrReq := true } }, by decide +kernel⟩

theorem test_hyps_CanReception :
    (∃ s : State, ∃ n : Nat, ∃ f : CanMsg, ∃ i, s.sys.phase = .run ∧ n < 4 ∧ s.cans.length = 4 ∧ s.flag (F.CAN_STATUS_ACTIVE
      n) = true ∧ s.getF (F.CAN_STATUS_STATE n) ≠ 2 ∧ s.canFilter n f = some i ∧ (s.can n).fifo.length < 64) ∧
    (∃ s : State, ∃ n : Nat, ∃ f : CanMsg, ∃ i, s.sys.phase = .run ∧ n < 4 ∧ s.cans.length = 4 ∧ s.flag (F.CAN_STATUS_ACTIVE
      n) = true ∧ s.getF (F.CAN_STATUS_STATE n) ≠ 2 ∧ s.canFilter n f = some i ∧ 64 ≤ (s.can n).fifo.length) ∧
    (∃ s : State, ∃ n : Nat, ∃ f : CanMsg, s.sys.phase = .run ∧ n < 4 ∧ s.cans.length = 4 ∧ s.flag (F.CAN_STATUS_ACTIVE n) =
      true ∧ s.getF (F.CAN_STATUS_STATE n) ≠ 2 ∧ s.canFilter n f = none) ∧
    (∃ s : State, ∃ n : Nat, s.sys.phase = .run ∧ n < 4 ∧ s.cans.length = 4 ∧ s.flag (F.CAN_STATUS_ACTIVE n) = true ∧ s.getF
      (F.CAN_STATUS_STATE n) ≠ 2) ∧
    (∃ s : State, ∃ n : Nat, s.sys.phase = .run ∧ n < 4 ∧ s.cans.length = 4 ∧ s.flag (F.CAN_STATUS_ACTIVE n) = true ∧ s.getF
      (F.CAN_STATUS_STATE n) ≠ 2) ∧
    (∃ s : State, ∃ n : Nat, s.sys.phase = .run ∧ n < 4 ∧ s.cans.length = 4 ∧ s.getF (F.CAN_STATUS_STATE n) = 2 ∧ s.flag
      (F.CAN_CFG_AUTO_RECOVER n) = true ∧ s.flag (F.CAN_STATUS_ACTIVE n) = true ∧ s.flag (F.CAN_CFG_ENABLE n) = true ∧
      s.sys.joined = true ∧ (s.dom 19).lost = false) :=
  ⟨
    ⟨at_ .join [(F.CAN_STATUS_ACTIVE 3, 1), (F.CAN_FILT_EN 3 31, 1)], 3, { id := 5, ext := false, dlc := 1, data := [7] }, 31,
      by decide +kernel⟩,
    ⟨{ at_ .join [(F.CAN_STATUS_ACTIVE 3, 1), (F.CAN_FILT_EN 3 31, 1)] with cans := List.replicate 4 { fifo := List.replicate 64 ({ id := 5, ext := false, dlc := 1, data := [7] }, 0, 0) } },
      3, { id := 5, ext := false, dlc := 1, data := [7] }, 31, by decide +kernel⟩,
    ⟨at_ .join [(F.CAN_STATUS_ACTIVE 3, 1)], 3, { id := 5, ext := false, dlc := 1, data := [7] }, by decide +kernel⟩,
    ⟨at_ .join [(F.CAN_STATUS_ACTIVE 3, 1)], 3, by decide +kernel⟩,
    ⟨{ at_ .join [(F.CAN_STATUS_ACTIVE 3, 1)] with cans := List.replicate 4 { rec' := 255 } }, 3, by decide +kernel⟩,
    ⟨at_ .join [(F.CAN_STATUS_ACTIVE 3, 1), (F.CAN_CFG_ENABLE 3, 1), (F.CAN_STATUS_STATE 3, 2), (F.CAN_CFG_AUTO_RECOVER 3,
      1)], 3, by decide +kernel⟩⟩

theorem test_hyps_CanTransmission :
    (∃ s : State, ∃ n : Nat, ∃ b : Nat, ∃ f : CanMsg, s.sys.phase = .run ∧ n < 4 ∧ b < 3 ∧ s.cans.length = 4 ∧ (s.can
      n).bufs.length = 3 ∧ s.flag (F.CAN_STATUS_ACTIVE n) = true ∧ s.getF (F.CAN_STATUS_STATE n) ≠ 2 ∧ s.canBuf n b =
      { frame := some f } ∧ s.flag (F.CAN_STATUS_LISTEN n) = false ∧ (n ≠ 0 ∨ s.flag (F.CAN_ISO_CFG_EN 0) = false) ∧ ((∀ c, c
      < 3 → s.bufState n c < 2)) ∧ s.canNext n = some b) ∧
    (∃ s : State, ∃ n : Nat, ∃ b : Nat, ∃ f : CanMsg, s.sys.phase = .run ∧ n < 4 ∧ b < 3 ∧ s.cans.length = 4 ∧ (s.can
      n).bufs.length = 3 ∧ s.flag (F.CAN_STATUS_ACTIVE n) = true ∧ s.getF (F.CAN_STATUS_STATE n) ≠ 2 ∧ s.canBuf n b =
      { frame := some f } ∧ s.flag (F.CAN_STATUS_LISTEN n) = false ∧ (n ≠ 0 ∨ s.flag (F.CAN_ISO_CFG_EN 0) = false) ∧ ((∀ c, c
      < b → s.bufState n c < 2)) ∧ s.bufState n b = 2) ∧
    (∃ s : State, ∃ n : Nat, ∃ b : Nat, ∃ f : CanMsg, s.sys.phase = .run ∧ n < 4 ∧ b < 3 ∧ s.cans.length = 4 ∧ (s.can
      n).bufs.length = 3 ∧ s.flag (F.CAN_STATUS_ACTIVE n) = true ∧ s.getF (F.CAN_STATUS_STATE n) ≠ 2 ∧ s.canBuf n b =
      { frame := some f } ∧ ((∀ c, c < b → s.bufState n c < 2)) ∧ 2 ≤ s.bufState n b ∧ s.getF (F.CAN_CFG_MODE n) ≠ 1) ∧
    (∃ s : State, ∃ n : Nat, ∃ b : Nat, ∃ f : CanMsg, s.sys.phase = .run ∧ n < 4 ∧ b < 3 ∧ s.cans.length = 4 ∧ (s.can
      n).bufs.length = 3 ∧ s.flag (F.CAN_STATUS_ACTIVE n) = true ∧ s.getF (F.CAN_STATUS_STATE n) ≠ 2 ∧ s.canBuf n b =
      { frame := some f } ∧ ((∀ c, c < b → s.bufState n c < 2)) ∧ 2 ≤ s.bufState n b ∧ s.getF (F.CAN_CFG_MODE n) ≠ 1) ∧
    (∃ s : State, ∃ n : Nat, ∃ b : Nat, ∃ f : CanMsg, ∃ lec, s.sys.phase = .run ∧ n < 4 ∧ b < 3 ∧ s.cans.length = 4 ∧ (s.can
      n).bufs.length = 3 ∧ s.flag (F.CAN_STATUS_ACTIVE n) = true ∧ s.getF (F.CAN_STATUS_STATE n) ≠ 2 ∧ s.canBuf n b =
      { frame := some f } ∧ ((∀ c, c < b → s.bufState n c < 2)) ∧ 2 ≤ s.bufState n b ∧ s.getF (F.CAN_CFG_MODE n) ≠ 1 ∧ (lec %
      7 = 3 ∧ s.getF (F.CAN_STATUS_STATE n) = 1 ∨ lec % 7 = 1 ∧ s.bufState n b = 2) ∧ (s.can n).tec < 256) ∧
    (∃ s : State, ∃ n : Nat, ∃ b : Nat, ∃ f : CanMsg, ∃ lec, s.sys.phase = .run ∧ n < 4 ∧ b < 3 ∧ s.cans.length = 4 ∧ (s.can
      n).bufs.length = 3 ∧ s.flag (F.CAN_STATUS_ACTIVE n) = true ∧ s.getF (F.CAN_STATUS_STATE n) ≠ 2 ∧ s.canBuf n b =
      { frame := some f } ∧ ((∀ c, c < b → s.bufState n c < 2)) ∧ 2 ≤ s.bufState n b ∧ s.getF (F.CAN_CFG_MODE n) ≠ 1 ∧ (lec %
      7 = 3 ∧ s.getF (F.CAN_STATUS_STATE n) = 1 ∨ lec % 7 = 1 ∧ s.bufState n b = 2) ∧ (s.can n).tec < 256) ∧
    (∃ s : State, ∃ n : Nat, ∃ b : Nat, ∃ f : CanMsg, ∃ lec, s.sys.phase = .run ∧ n < 4 ∧ b < 3 ∧ s.cans.length = 4 ∧ (s.can
      n).bufs.length = 3 ∧ s.flag (F.CAN_STATUS_ACTIVE n) = true ∧ s.getF (F.CAN_STATUS_STATE n) ≠ 2 ∧ s.canBuf n b =
      { frame := some f } ∧ ((∀ c, c < b → s.bufState n c < 2)) ∧ 2 ≤ s.bufState n b ∧ s.getF (F.CAN_CFG_MODE n) ≠ 1 ∧ (¬(lec
      % 7 = 3 ∧ s.getF (F.CAN_STATUS_STATE n) = 1 ∨ lec % 7 = 1 ∧ s.bufState n b = 2)) ∧ (s.can n).tec + 8 < 256) ∧
    (∃ s : State, ∃ n : Nat, ∃ b : Nat, ∃ f : CanMsg, ∃ lec, s.sys.phase = .run ∧ n < 4 ∧ b < 3 ∧ s.cans.length = 4 ∧ (s.can
      n).bufs.length = 3 ∧ s.flag (F.CAN_STATUS_ACTIVE n) = true ∧ s.getF (F.CAN_STATUS_STATE n) ≠ 2 ∧ s.canBuf n b =
      { frame := some f } ∧ ((∀ c, c < b → s.bufState n c < 2)) ∧ 2 ≤ s.bufState n b ∧ s.getF (F.CAN_CFG_MODE n) ≠ 1 ∧ (¬(lec
      % 7 = 3 ∧ s.getF (F.CAN_STATUS_STATE n) = 1 ∨ lec % 7 = 1 ∧ s.bufState n b = 2)) ∧ (s.can n).tec + 8 < 256) ∧
    (∃ s : State, ∃ n : Nat, ∃ b : Nat, ∃ f : CanMsg, ∃ lec, s.sys.phase = .run ∧ n < 4 ∧ b < 3 ∧ s.cans.length = 4 ∧ (s.can
      n).bufs.length = 3 ∧ s.flag (F.CAN_STATUS_ACTIVE n) = true ∧ s.getF (F.CAN_STATUS_STATE n) ≠ 2 ∧ s.canBuf n b =
      { frame := some f } ∧ ((∀ c, c < b → s.bufState n c < 2)) ∧ 2 ≤ s.bufState n b ∧ s.getF (F.CAN_CFG_MODE n) ≠ 1 ∧ (¬(lec
      % 7 = 3 ∧ s.getF (F.CAN_STATUS_STATE n) = 1 ∨ lec % 7 = 1 ∧ s.bufState n b = 2)) ∧ 256 ≤ (s.can n).tec + 8 ∧ s.Quiet
      (0xA7 + n) ∧ s.asserted (0xA7 + n) = false) ∧
    (∃ s : State, ∃ a, s.sys.phase = .run ∧ (s.can 0).claim = some a ∧ a < 256 ∧ s.mode.isLead = true ∧ s.cans.length = 4) ∧
    (∃ s : State, s.sys.phase = .run ∧ (s.can 0).claim = none) ∧
    (∃ s : State, s.sys.phase = .run ∧ s.flag F.SEC_CFG_ISO_FALLBACK = true) ∧
    (∃ s : State, s.sys.phase = .run ∧ s.flag F.SEC_CFG_ISO_FALLBACK = false) :=
  ⟨
    ⟨{ at_ .join [(F.CAN_STATUS_ACTIVE 3, 1), (F.CAN_TXBUF_STATE 3 2, 1)] with cans := List.replicate 4 { bufs := [{}, {}, { frame := some { id := 5, ext := false, dlc := 1, data := [7] } }], tec := 0 } },
      3, 2, { id := 5, ext := false, dlc := 1, data := [7] }, by decide +kernel⟩,
    ⟨{ at_ .join [(F.CAN_STATUS_ACTIVE 3, 1), (F.CAN_TXBUF_STATE 3 2, 2)] with cans := List.replicate 4 { bufs := [{}, {}, { frame := some { id := 5, ext := false, dlc := 1, data := [7] } }], tec := 0 } },
      3, 2, { id := 5, ext := false, dlc := 1, data := [7] }, by decide +kernel⟩,
    ⟨{ at_ .join [(F.CAN_STATUS_ACTIVE 3, 1), (F.CAN_TXBUF_STATE 3 2, 2)] with cans := List.replicate 4 { bufs := [{}, {}, { frame := some { id := 5, ext := false, dlc := 1, data := [7] } }], tec := 0 } },
      3, 2, { id := 5, ext := false, dlc := 1, data := [7] }, by decide +kernel⟩,
    ⟨{ at_ .join [(F.CAN_STATUS_ACTIVE 3, 1), (F.CAN_TXBUF_STATE 3 2, 3)] with cans := List.replicate 4 { bufs := [{}, {}, { frame := some { id := 5, ext := false, dlc := 1, data := [7] } }], tec := 0 } },
      3, 2, { id := 5, ext := false, dlc := 1, data := [7] }, by decide +kernel⟩,
    ⟨{ at_ .join [(F.CAN_STATUS_ACTIVE 3, 1), (F.CAN_TXBUF_STATE 3 2, 2), (F.CAN_STATUS_STATE 3, 1)] with cans := List.replicate 4 { bufs := [{}, {}, { frame := some { id := 5, ext := false, dlc := 1, data := [7] } }], tec := 255 } },
      3, 2, { id := 5, ext := false, dlc := 1, data := [7] }, 3, by decide +kernel⟩,
    ⟨{ at_ .join [(F.CAN_STATUS_ACTIVE 3, 1), (F.CAN_TXBUF_STATE 3 2, 2)] with cans := List.replicate 4 { bufs := [{}, {}, { frame := some { id := 5, ext := false, dlc := 1, data := [7] } }], tec := 255 } },
      3, 2, { id := 5, ext := false, dlc := 1, data := [7] }, 8, by decide +kernel⟩,
    ⟨{ at_ .join [(F.CAN_STATUS_ACTIVE 3, 1), (F.CAN_TXBUF_STATE 3 2, 3)] with cans := List.replicate 4 { bufs := [{}, {}, { frame := some { id := 5, ext := false, dlc := 1, data := [7] } }], tec := 247 } },
      3, 2, { id := 5, ext := false, dlc := 1, data := [7] }, 1, by decide +kernel⟩,
    ⟨{ at_ .join [(F.CAN_STATUS_ACTIVE 3, 1), (F.CAN_TXBUF_STATE 3 2, 2)] with cans := List.replicate 4 { bufs := [{}, {}, { frame := some { id := 5, ext := false, dlc := 1, data := [7] } }], tec := 247 } },
      3, 2, { id := 5, ext := false, dlc := 1, data := [7] }, 3, by decide +kernel⟩,
    ⟨{ at_ .join [(F.CAN_STATUS_ACTIVE 3, 1), (F.CAN_TXBUF_STATE 3 2, 3)] with cans := List.replicate 4 { bufs := [{}, {}, { frame := some { id := 5, ext := false, dlc := 1, data := [7] } }], tec := 248 } },
      3, 2, { id := 5, ext := false, dlc := 1, data := [7] }, 4, by decide +kernel⟩,
    ⟨{ at_ .leadDegraded [] with cans := List.replicate 4 { claim := some 255 } }, 255, by decide +kernel⟩,
    ⟨at_ .join [], by decide +kernel⟩,
    ⟨at_ .join [(F.SEC_CFG_ISO_FALLBACK, 1)], by decide +kernel⟩,
    ⟨at_ .join [], by decide +kernel⟩⟩

theorem test_hyps_EthernetPorts :
    (∃ s : State, ∃ p : Nat, ∃ b : List Byte, ∃ fcs : Bool, s.sys.phase = .run ∧ p < 2 ∧ s.eths.length = 2 ∧ s.flag
      (F.ETH_STATUS_ACTIVE p) = true ∧ s.ethReason p fcs b ≠ 0) ∧
    (∃ s : State, ∃ p : Nat, ∃ b : List Byte, ∃ fcs : Bool, s.sys.phase = .run ∧ p < 2 ∧ s.eths.length = 2 ∧ s.flag
      (F.ETH_STATUS_ACTIVE p) = true ∧ s.ethReason p fcs b = 0 ∧ s.flag (F.ETH_STATUS_PAUSED p) = false ∧ (s.eth p).fill +
      b.length ≤ 131072 ∧ beAt b (etherOff b) 2 = 0x0800 ∧ beAt (b.drop (etherOff b + 2)) 9 1 = 17 ∧ beAt (b.drop (etherOff b
      + 2)) 22 2 = s.getF F.MAP_CFG_UDP_PORT ∧ bit (s.getF F.MAP_CFG_PORT_MASK) p = true) ∧
    (∃ s : State, ∃ p : Nat, ∃ b : List Byte, ∃ fcs : Bool, s.sys.phase = .run ∧ p < 2 ∧ s.eths.length = 2 ∧ s.flag
      (F.ETH_STATUS_ACTIVE p) = true ∧ s.ethReason p fcs b = 0 ∧ s.flag (F.ETH_STATUS_PAUSED p) = false ∧ (s.eth p).fill +
      b.length ≤ 131072 ∧ beAt b (etherOff b) 2 = 0x0806 ∧ beAt (b.drop (etherOff b + 2)) 6 2 = 1 ∧ beAt (b.drop (etherOff b +
      2)) 24 4 = s.getF (F.ETH_IP_ADDR p)) ∧
    (∃ s : State, ∃ p : Nat, s.sys.phase = .run ∧ p < 2 ∧ s.eths.length = 2 ∧ s.flag (F.ETH_STATUS_ACTIVE p) = true ∧ s.flag
      (F.ETH_STATUS_PAUSING p) = true ∧ 1024 * s.getF (F.ETH_PAUSE_LOW_WATER p) ≤ (s.eth p).fill ∧ s.flag (F.ETH_PHY_DUPLEX p)
      = true ∧ s.flag (F.ETH_CFG_PAUSE_TX p) = true) ∧
    (∃ s : State, ∃ p : Nat, s.sys.phase = .run ∧ p < 2 ∧ s.eths.length = 2 ∧ s.flag (F.ETH_STATUS_ACTIVE p) = true ∧ s.flag
      (F.ETH_STATUS_PAUSING p) = true ∧ (s.eth p).fill < 1024 * s.getF (F.ETH_PAUSE_LOW_WATER p) ∧ s.flag (F.ETH_PHY_DUPLEX p)
      = true ∧ s.flag (F.ETH_CFG_PAUSE_TX p) = true) ∧
    (∃ s : State, ∃ p : Nat, s.sys.phase = .run ∧ p < 2 ∧ s.eths.length = 2 ∧ s.flag (F.ETH_STATUS_ACTIVE p) = true ∧ (s.flag
      (F.ETH_PHY_DUPLEX p) = false ∨ s.flag (F.ETH_CFG_PAUSE_TX p) = false)) ∧
    (∃ s : State, ∃ p : Nat, s.sys.phase = .run ∧ p < 2 ∧ s.eths.length = 2 ∧ s.flag (F.ETH_STATUS_ACTIVE p) = true ∧ (s.flag
      (F.ETH_PHY_DUPLEX p) = false ∨ s.flag (F.ETH_CFG_PAUSE_TX p) = false) ∧ s.flag (F.ETH_STATUS_PAUSING p) = true ∧ (s.eth
      p).fill < 1024 * s.getF (F.ETH_PAUSE_LOW_WATER p)) ∧
    (∃ s : State, ∃ p : Nat, s.sys.phase = .run ∧ p < 2 ∧ s.eths.length = 2 ∧ s.flag (F.ETH_STATUS_ACTIVE p) = true ∧ s.flag
      (F.ETH_STATUS_PAUSED p) = true) ∧
    (∃ s : State, ∃ p : Nat, ∃ entry, s.sys.phase = .run ∧ p < 2 ∧ s.eths.length = 2 ∧ s.flag (F.ETH_STATUS_ACTIVE p) = true ∧
      entry < 16) ∧
    (∃ s : State, ∃ p : Nat, s.sys.phase = .run ∧ p < 2 ∧ s.eths.length = 2 ∧ s.flag (F.ETH_STATUS_ACTIVE p) = true ∧
      s.sys.joined = true ∧ s.flag (F.ETH_CFG_ENABLE p) = true ∧ s.Quiet (0xAB + p) ∧ s.asserted (0xAB + p) = false) ∧
    (∃ s : State, ∃ p : Nat, ∃ h : PtpHead, ∃ t, ∃ r, ∃ stamp, s.sys.phase = .run ∧ p < 2 ∧ s.eths.length = 2 ∧ s.flag
      (F.ETH_STATUS_ACTIVE p) = true ∧ s.flag (F.ETH_STATUS_PTP_MASTER p) = true ∧ s.flag (F.ETH_STATUS_PAUSED p) = false ∧ h
      = ⟨s.getF (F.ETH_PTP_CFG_DOMAIN p), (s.macOf p).take 3 ++ [0xFF, 0xFE] ++ (s.macOf p).drop 3, s.flag (F.ETH_PTP_CFG_L2
      p)⟩ ∧ r = (if s.getF (F.ETH_PHY_SPEED p) = 0 then 400 else if s.getF (F.ETH_PHY_SPEED p) = 1 then 40 else 8) ∧ stamp = t
      / r * r + 4 * s.getF (F.ETH_PTP_CFG_TX_LAT p)) ∧
    (∃ s : State, ∃ p : Nat, ∃ h : PtpHead, s.sys.phase = .run ∧ p < 2 ∧ s.eths.length = 2 ∧ s.flag (F.ETH_STATUS_ACTIVE p) =
      true ∧ s.flag (F.ETH_STATUS_PTP_MASTER p) = true ∧ s.flag (F.ETH_STATUS_PAUSED p) = false ∧ h = ⟨s.getF
      (F.ETH_PTP_CFG_DOMAIN p), (s.macOf p).take 3 ++ [0xFF, 0xFE] ++ (s.macOf p).drop 3, s.flag (F.ETH_PTP_CFG_L2 p)⟩) :=
  ⟨
    ⟨at_ .join [(F.ETH_STATUS_ACTIVE 1, 1)], 1, [], false, by decide +kernel⟩,
    ⟨at_ .join [(F.ETH_STATUS_ACTIVE 1, 1), (F.ETH_IP_ADDR 1, 0x0A000001), (F.MAP_CFG_UDP_PORT, 0x1234), (F.MAP_CFG_PORT_MASK,
      2), (F.ETH_MAC_LO_ADDR 1, 0x22334455)], 1, udpFrame, true, by decide +kernel⟩,
    ⟨at_ .join [(F.ETH_STATUS_ACTIVE 1, 1), (F.ETH_IP_ADDR 1, 0x0A000001), (F.ETH_MAC_LO_ADDR 1, 0x22334455)], 1, arpFrame,
      true, by decide +kernel⟩,
    ⟨{ at_ .join [(F.ETH_STATUS_ACTIVE 1, 1), (F.ETH_STATUS_PAUSING 1, 1), (F.ETH_PAUSE_LOW_WATER 1, 2), (F.ETH_PHY_DUPLEX 1, 1), (F.ETH_CFG_PAUSE_TX 1, 1)] with eths := [{}, { fill := 2048 }] },
      1, by decide +kernel⟩,
    ⟨{ at_ .join [(F.ETH_STATUS_ACTIVE 1, 1), (F.ETH_STATUS_PAUSING 1, 1), (F.ETH_PAUSE_LOW_WATER 1, 2), (F.ETH_PHY_DUPLEX 1, 1), (F.ETH_CFG_PAUSE_TX 1, 1)] with eths := [{}, { fill := 2047 }] },
      1, by decide +kernel⟩,
    ⟨{ at_ .join [(F.ETH_STATUS_ACTIVE 1, 1), (F.ETH_STATUS_PAUSING 1, 1), (F.ETH_PAUSE_LOW_WATER 1, 2), (F.ETH_PHY_DUPLEX 1, 1), (F.ETH_CFG_PAUSE_TX 1, 0)] with eths := [{}, { fill := 2048 }] },
      1, by decide +kernel⟩,
    ⟨{ at_ .join [(F.ETH_STATUS_ACTIVE 1, 1), (F.ETH_STATUS_PAUSING 1, 1), (F.ETH_PAUSE_LOW_WATER 1, 2), (F.ETH_PHY_DUPLEX 1, 0), (F.ETH_CFG_PAUSE_TX 1, 1)] with eths := [{}, { fill := 2047 }] },
      1, by decide +kernel⟩,
    ⟨at_ .join [(F.ETH_STATUS_ACTIVE 1, 1), (F.ETH_STATUS_PAUSED 1, 1)], 1, by decide +kernel⟩,
    ⟨at_ .join [(F.ETH_STATUS_ACTIVE 1, 1)], 1, 15, by decide +kernel⟩,
    ⟨at_ .join [(F.ETH_STATUS_ACTIVE 1, 1), (F.ETH_CFG_ENABLE 1, 1)], 1, by decide +kernel⟩,
    ⟨at_ .join [(F.ETH_STATUS_ACTIVE 1, 1), (F.ETH_STATUS_PTP_MASTER 1, 1), (F.ETH_PTP_CFG_L2 1, 1), (F.ETH_PTP_CFG_TX_LAT 1,
      3), (F.ETH_PHY_SPEED 1, 1), (F.ETH_PTP_CFG_DOMAIN 1, 127)], 1,
      { domain := 127, clock := (State.macOf (at_ .join [(F.ETH_STATUS_ACTIVE 1, 1), (F.ETH_STATUS_PTP_MASTER 1, 1), (F.ETH_PTP_CFG_L2 1, 1), (F.ETH_PTP_CFG_TX_LAT 1, 3), (F.ETH_PHY_SPEED 1, 1), (F.ETH_PTP_CFG_DOMAIN 1, 127)]) 1).take 3 ++ [0xFF, 0xFE] ++ (State.macOf (at_ .join [(F.ETH_STATUS_ACTIVE 1, 1), (F.ETH_STATUS_PTP_MASTER 1, 1), (F.ETH_PTP_CFG_L2 1, 1), (F.ETH_PTP_CFG_TX_LAT 1, 3), (F.ETH_PHY_SPEED 1, 1), (F.ETH_PTP_CFG_DOMAIN 1, 127)]) 1).drop 3, l2 := true },
      1000000039, 40, 1000000012, by decide +kernel⟩,
    ⟨at_ .join [(F.ETH_STATUS_ACTIVE 1, 1), (F.ETH_STATUS_PTP_MASTER 1, 1), (F.ETH_PTP_CFG_L2 1, 1), (F.ETH_PTP_CFG_TX_LAT 1,
      3), (F.ETH_PHY_SPEED 1, 1), (F.ETH_PTP_CFG_DOMAIN 1, 127)], 1,
      { domain := 127, clock := (State.macOf (at_ .join [(F.ETH_STATUS_ACTIVE 1, 1), (F.ETH_STATUS_PTP_MASTER 1, 1), (F.ETH_PTP_CFG_L2 1, 1), (F.ETH_PTP_CFG_TX_LAT 1, 3), (F.ETH_PHY_SPEED 1, 1), (F.ETH_PTP_CFG_DOMAIN 1, 127)]) 1).take 3 ++ [0xFF, 0xFE] ++ (State.macOf (at_ .join [(F.ETH_STATUS_ACTIVE 1, 1), (F.ETH_STATUS_PTP_MASTER 1, 1), (F.ETH_PTP_CFG_L2 1, 1), (F.ETH_PTP_CFG_TX_LAT 1, 3), (F.ETH_PHY_SPEED 1, 1), (F.ETH_PTP_CFG_DOMAIN 1, 127)]) 1).drop 3, l2 := true },
      by decide +kernel⟩⟩

theorem test_hyps_FeedSession :
    (∃ s : State, ∃ d : Dgram, ∃ rest : List Dgram, s.sys.phase = .run ∧ s.feedq = d :: rest ∧ feedHeader d.data = (0, 0) ∧
      (d.data.getD 3 0).toNat = 1 ∧ (d.data.drop 16).getD 0 0 = 1 ∧ s.map.session = none) ∧
    (∃ s : State, ∃ x : Session, s.sys.phase = .run ∧ s.map.session = some x ∧ s.flu.cycle % 8 = 0) ∧
    (∃ s : State, ∃ c : Instr, ∃ d : Dgram, ∃ rest : List Dgram, ∃ x : Session, s.sys.phase = .run ∧ s.map.session = some x ∧
      ((c = .sessionTimeout ∨ c = .bye ∧ s.FeedFront 7 d rest x))) ∧
    (∃ s : State, ∃ c : Instr, ∃ d : Dgram, ∃ rest : List Dgram, ∃ x : Session, s.sys.phase = .run ∧ s.map.session = some x ∧
      ((c = .sessionTimeout ∨ c = .bye ∧ s.FeedFront 7 d rest x))) :=
  ⟨
    ⟨{ at_ .join [] with feedq := [{ port := 0, ip := 1, src := 2, mac := [], data := feedBytes 1 5 0 ([1, 0, 0, 0, 2, 0, 0, 0]), t := 100, size := 60 }] },
      { port := 0, ip := 1, src := 2, mac := [], data := feedBytes 1 5 0 ([1, 0, 0, 0, 2, 0, 0, 0]), t := 100, size := 60 },
      [], by decide +kernel⟩,
    ⟨{ at_ .join [] with map := { session := some { id := 1, client := 2, flags := 1, opened := 0, ports := [(0, 1, 2)], seqs := [], tiles := 3 } }, flu := { cycle := 8 } },
      { id := 1, client := 2, flags := 1, opened := 0, ports := [(0, 1, 2)], seqs := [], tiles := 3 }, by decide +kernel⟩,
    ⟨{ at_ .join [] with map := { session := some { id := 1, client := 2, flags := 1, opened := 0, ports := [(0, 1, 2)], seqs := [], tiles := 3 } } },
      .sessionTimeout, { port := 0, ip := 1, src := 2, mac := [], data := feedBytes 7 5 1 ([]), t := 100, size := 60 }, [],
      { id := 1, client := 2, flags := 1, opened := 0, ports := [(0, 1, 2)], seqs := [], tiles := 3 }, by decide +kernel⟩,
    ⟨{ at_ .join [] with feedq := [{ port := 0, ip := 1, src := 2, mac := [], data := feedBytes 7 5 1 ([]), t := 100, size := 60 }], map := { session := some { id := 1, client := 2, flags := 1, opened := 0, ports := [(0, 1, 2)], seqs := [], tiles := 3 } } },
      .bye, { port := 0, ip := 1, src := 2, mac := [], data := feedBytes 7 5 1 ([]), t := 100, size := 60 }, [],
      { id := 1, client := 2, flags := 1, opened := 0, ports := [(0, 1, 2)], seqs := [], tiles := 3 }, by decide +kernel⟩⟩

theorem test_hyps_FeedTiles :
    (∃ s : State, ∃ d, ∃ rest, ∃ x, ∃ layer, ∃ frag, ∃ k, s.FeedFront 3 d rest x ∧ layer = ((d.data.drop 16).getD 0 0).toNat ∧
      layer ≤ 1 ∧ frag = ((d.data.drop 16).getD 1 0).toNat ∧ frag ≤ 3 ∧ k = ⟨layer, toInt 16 (ofLe (((d.data.drop 16).drop
      4).take 2)), toInt 16 (ofLe (((d.data.drop 16).drop 6).take 2))⟩ ∧ ((∀ a ∈ s.map.asm, a.key ≠ k)) ∧ s.mapFind k = none ∧
      s.fragsUsed < 128) ∧
    (∃ s : State, ∃ d, ∃ rest, ∃ x, s.FeedFront 6 d rest x) ∧
    (∃ s : State, ∃ x, s.sys.phase = .run ∧ s.map.session = some x ∧ 1 ≤ s.mapMissing.length ∧ s.mapMissing.length ≤ 64) ∧
    (∃ s : State, ∃ x, s.sys.phase = .run ∧ s.map.session = some x ∧ 1 ≤ s.mapMissing.length ∧ s.mapMissing.length ≤ 64) ∧
    (∃ s : State, ∃ layer, ∃ tx, ∃ ty, ∃ a, s.sys.phase = .run ∧ s.map.asm.find? (fun a => decide (a.key = ⟨layer, tx, ty⟩)) =
      some a ∧ a.frags.length < 4) :=
  ⟨
    ⟨{ at_ .join [] with feedq := [{ port := 0, ip := 1, src := 2, mac := [], data := feedBytes 3 5 1 ([1, 3, 0, 0, 0xFF, 0xFF, 2, 0] ++ List.replicate 1032 0), t := 100, size := 60 }], map := { session := some { id := 1, client := 2, flags := 1, opened := 0, ports := [(0, 1, 2)], seqs := [], tiles := 3 } } },
      { port := 0, ip := 1, src := 2, mac := [], data := feedBytes 3 5 1 ([1, 3, 0, 0, 0xFF, 0xFF, 2, 0] ++ List.replicate 1032 0), t := 100, size := 60 },
      [], { id := 1, client := 2, flags := 1, opened := 0, ports := [(0, 1, 2)], seqs := [], tiles := 3 }, 1, 3, ⟨1, -1, 2⟩,
      by decide +kernel⟩,
    ⟨{ at_ .join [] with feedq := [{ port := 0, ip := 1, src := 2, mac := [], data := feedBytes 6 5 1 ([0, 0, 0, 0, 1, 0, 2, 0]), t := 100, size := 60 }], map := { session := some { id := 1, client := 2, flags := 1, opened := 0, ports := [(0, 1, 2)], seqs := [], tiles := 3 } } },
      { port := 0, ip := 1, src := 2, mac := [], data := feedBytes 6 5 1 ([0, 0, 0, 0, 1, 0, 2, 0]), t := 100, size := 60 },
      [], { id := 1, client := 2, flags := 1, opened := 0, ports := [(0, 1, 2)], seqs := [], tiles := 3 }, by decide +kernel⟩,
    ⟨{ at_ .join [] with map := { session := some { id := 1, client := 2, flags := 1, opened := 0, ports := [(0, 1, 2)], seqs := [], tiles := 3 }, pins := [(⟨0, 1, 2⟩, 0)] } },
      { id := 1, client := 2, flags := 1, opened := 0, ports := [(0, 1, 2)], seqs := [], tiles := 3 }, by decide +kernel⟩,
    ⟨{ at_ .join [(F.ETH_STATUS_ACTIVE 1, 1), (F.MAP_CFG_PORT_MASK, 3), (F.ETH_IP_ADDR 1, 0x0A000001), (F.ETH_NETMASK_ADDR 1, 0xFF000000)] with map := { session := some { id := 1, client := 2, flags := 1, opened := 0, ports := [(1, 0x0A000002, 77)], seqs := [], tiles := 3 }, pins := [(⟨0, 1, 2⟩, 0), (⟨1, -1, 2⟩, 0)] }, eths := [{}, { arps := [some { ip := 0x0A000002, mac := [1, 2, 3, 4, 5, 6], stamp := 0 }] }] },
      { id := 1, client := 2, flags := 1, opened := 0, ports := [(1, 0x0A000002, 77)], seqs := [], tiles := 3 },
      by decide +kernel⟩,
    ⟨{ at_ .join [] with map := { asm := [⟨⟨1, -1, 2⟩, 1, [], 0⟩] } }, 1, -1, 2, ⟨⟨1, -1, 2⟩, 1, [], 0⟩, by decide +kernel⟩⟩

theorem test_hyps_FeedData :
    (∃ s : State, ∃ d : Dgram, ∃ rest : List Dgram, ∃ x : Session, ∃ p : List Byte, p = d.data.drop 16 ∧ s.FeedFront 2 d rest
      x ∧ ofLe (p.take 8) ≤ d.t + 1000000 ∧ ((∀ o ∈ [16, 20, 24, 28], fBad (BitVec.ofNat 32 (ofLe ((p.drop o).take 4))) =
      false))) ∧
    (∃ s : State, ∃ d : Dgram, ∃ rest : List Dgram, ∃ x : Session, ∃ p : List Byte, p = d.data.drop 16 ∧ s.FeedFront 2 d rest
      x ∧ d.t + 1000000 < ofLe (p.take 8)) ∧
    (∃ s : State, ∃ d : Dgram, ∃ rest : List Dgram, ∃ x : Session, ∃ p : List Byte, ∃ o, p = d.data.drop 16 ∧ s.FeedFront 2 d
      rest x ∧ o ∈ [16, 20, 24, 28] ∧ fBad (BitVec.ofNat 32 (ofLe ((p.drop o).take 4))) = true) ∧
    (∃ s : State, ∃ d : Dgram, ∃ rest : List Dgram, ∃ x : Session, ∃ p : List Byte, ∃ o, p = d.data.drop 16 ∧ s.FeedFront 2 d
      rest x ∧ o ∈ [16, 20, 24, 28] ∧ fBad (BitVec.ofNat 32 (ofLe ((p.drop o).take 4))) = true) ∧
    (∃ s : State, ∃ d : Dgram, ∃ rest : List Dgram, ∃ x : Session, ∃ p : List Byte, ∃ n, p = d.data.drop 16 ∧ s.FeedFront 4 d
      rest x ∧ s.flag F.MAP_STATUS_EVENTS_ON = true ∧ n = (p.length - 4) / 12 ∧ ofLe (p.take 2) = n ∧ n ≤ s.eventRoom x ∧ ((∀
      i, i < n → (parseEvent ((p.drop (4 + 12 * i)).take 12)).radius ≤ 1000))) ∧
    (∃ s : State, ∃ d : Dgram, ∃ rest : List Dgram, ∃ x : Session, ∃ p : List Byte, p = d.data.drop 16 ∧ s.FeedFront 5 d rest
      x ∧ p.length = 8 ∧ s.spKeyed (ofLe (p.take 2)) = []) ∧
    (∃ s : State, ∃ d : Dgram, ∃ rest : List Dgram, ∃ x : Session, ∃ p : List Byte, ∃ c, p = d.data.drop 16 ∧ s.FeedFront 5 d
      rest x ∧ p.length = 8 ∧ s.spKeyed (ofLe (p.take 2)) = [(c, false)] ∧ c < 8 ∧ s.sps.length = 8 ∧ s.flag
      (F.LAW_SP_SRC_ENABLE c) = true) :=
  ⟨
    ⟨{ at_ .join [] with feedq := [{ port := 0, ip := 1, src := 2, mac := [], data := feedBytes 2 5 1 (leBytes 8 1000100 ++ List.replicate 28 0), t := 100, size := 60 }], map := { session := some { id := 1, client := 2, flags := 1, opened := 0, ports := [(0, 1, 2)], seqs := [], tiles := 3 } } },
      { port := 0, ip := 1, src := 2, mac := [], data := feedBytes 2 5 1 (leBytes 8 1000100 ++ List.replicate 28 0), t := 100, size := 60 },
      [], { id := 1, client := 2, flags := 1, opened := 0, ports := [(0, 1, 2)], seqs := [], tiles := 3 },
      (({ port := 0, ip := 1, src := 2, mac := [], data := feedBytes 2 5 1 (leBytes 8 1000100 ++ List.replicate 28 0), t := 100, size := 60 }
      : Dgram)).data.drop 16, by decide +kernel⟩,
    ⟨{ at_ .join [] with feedq := [{ port := 0, ip := 1, src := 2, mac := [], data := feedBytes 2 5 1 (leBytes 8 1000101 ++ List.replicate 28 0), t := 100, size := 60 }], map := { session := some { id := 1, client := 2, flags := 1, opened := 0, ports := [(0, 1, 2)], seqs := [], tiles := 3 } } },
      { port := 0, ip := 1, src := 2, mac := [], data := feedBytes 2 5 1 (leBytes 8 1000101 ++ List.replicate 28 0), t := 100, size := 60 },
      [], { id := 1, client := 2, flags := 1, opened := 0, ports := [(0, 1, 2)], seqs := [], tiles := 3 },
      (({ port := 0, ip := 1, src := 2, mac := [], data := feedBytes 2 5 1 (leBytes 8 1000101 ++ List.replicate 28 0), t := 100, size := 60 }
      : Dgram)).data.drop 16, by decide +kernel⟩,
    ⟨{ at_ .join [] with feedq := [{ port := 0, ip := 1, src := 2, mac := [], data := feedBytes 2 5 1 (leBytes 8 100 ++ List.replicate 8 0 ++ [0, 0, 0x80, 0x7F] ++ List.replicate 16 0), t := 100, size := 60 }], map := { session := some { id := 1, client := 2, flags := 1, opened := 0, ports := [(0, 1, 2)], seqs := [], tiles := 3 } } },
      { port := 0, ip := 1, src := 2, mac := [], data := feedBytes 2 5 1 (leBytes 8 100 ++ List.replicate 8 0 ++ [0, 0, 0x80, 0x7F] ++ List.replicate 16 0), t := 100, size := 60 },
      [], { id := 1, client := 2, flags := 1, opened := 0, ports := [(0, 1, 2)], seqs := [], tiles := 3 },
      (({ port := 0, ip := 1, src := 2, mac := [], data := feedBytes 2 5 1 (leBytes 8 100 ++ List.replicate 8 0 ++ [0, 0, 0x80, 0x7F] ++ List.replicate 16 0), t := 100, size := 60 }
      : Dgram)).data.drop 16, 16, by decide +kernel⟩,
    ⟨{ at_ .join [] with feedq := [{ port := 0, ip := 1, src := 2, mac := [], data := feedBytes 2 5 1 (leBytes 8 100 ++ List.replicate 20 0 ++ [0, 0, 0xC0, 0x7F] ++ List.replicate 4 0), t := 100, size := 60 }], map := { session := some { id := 1, client := 2, flags := 1, opened := 0, ports := [(0, 1, 2)], seqs := [], tiles := 3 } } },
      { port := 0, ip := 1, src := 2, mac := [], data := feedBytes 2 5 1 (leBytes 8 100 ++ List.replicate 20 0 ++ [0, 0, 0xC0, 0x7F] ++ List.replicate 4 0), t := 100, size := 60 },
      [], { id := 1, client := 2, flags := 1, opened := 0, ports := [(0, 1, 2)], seqs := [], tiles := 3 },
      (({ port := 0, ip := 1, src := 2, mac := [], data := feedBytes 2 5 1 (leBytes 8 100 ++ List.replicate 20 0 ++ [0, 0, 0xC0, 0x7F] ++ List.replicate 4 0), t := 100, size := 60 }
      : Dgram)).data.drop 16, 28, by decide +kernel⟩,
    ⟨{ at_ .join [(F.MAP_STATUS_EVENTS_ON, 1)] with feedq := [{ port := 0, ip := 1, src := 2, mac := [], data := feedBytes 4 5 1 ([1, 0, 0, 0] ++ [1, 0, 0, 0, 2, 0, 0, 0, 0xE8, 3, 5, 1]), t := 100, size := 60 }], map := { session := some { id := 1, client := 2, flags := 1, opened := 0, ports := [(0, 1, 2)], seqs := [], tiles := 3 } } },
      { port := 0, ip := 1, src := 2, mac := [], data := feedBytes 4 5 1 ([1, 0, 0, 0] ++ [1, 0, 0, 0, 2, 0, 0, 0, 0xE8, 3, 5, 1]), t := 100, size := 60 },
      [], { id := 1, client := 2, flags := 1, opened := 0, ports := [(0, 1, 2)], seqs := [], tiles := 3 },
      (({ port := 0, ip := 1, src := 2, mac := [], data := feedBytes 4 5 1 ([1, 0, 0, 0] ++ [1, 0, 0, 0, 2, 0, 0, 0, 0xE8, 3, 5, 1]), t := 100, size := 60 }
      : Dgram)).data.drop 16, 1, by decide +kernel⟩,
    ⟨{ at_ .join [] with feedq := [{ port := 0, ip := 1, src := 2, mac := [], data := feedBytes 5 5 1 ([3, 0, 0, 0, 0, 0, 0x80, 0x3F]), t := 100, size := 60 }], map := { session := some { id := 1, client := 2, flags := 1, opened := 0, ports := [(0, 1, 2)], seqs := [], tiles := 3 } } },
      { port := 0, ip := 1, src := 2, mac := [], data := feedBytes 5 5 1 ([3, 0, 0, 0, 0, 0, 0x80, 0x3F]), t := 100, size := 60 },
      [], { id := 1, client := 2, flags := 1, opened := 0, ports := [(0, 1, 2)], seqs := [], tiles := 3 },
      (({ port := 0, ip := 1, src := 2, mac := [], data := feedBytes 5 5 1 ([3, 0, 0, 0, 0, 0, 0x80, 0x3F]), t := 100, size := 60 }
      : Dgram)).data.drop 16, by decide +kernel⟩,
    ⟨{ at_ .join [(F.LAW_SP_SRC_ENABLE 7, 1), (F.LAW_SP_PRI_KIND 7, 2), (F.LAW_SP_PRI_LOCATOR 7, 3)] with feedq := [{ port := 0, ip := 1, src := 2, mac := [], data := feedBytes 5 5 1 ([3, 0, 0, 0, 0, 0, 0x80, 0x3F]), t := 100, size := 60 }], map := { session := some { id := 1, client := 2, flags := 1, opened := 0, ports := [(0, 1, 2)], seqs := [], tiles := 3 } } },
      { port := 0, ip := 1, src := 2, mac := [], data := feedBytes 5 5 1 ([3, 0, 0, 0, 0, 0, 0x80, 0x3F]), t := 100, size := 60 },
      [], { id := 1, client := 2, flags := 1, opened := 0, ports := [(0, 1, 2)], seqs := [], tiles := 3 },
      (({ port := 0, ip := 1, src := 2, mac := [], data := feedBytes 5 5 1 ([3, 0, 0, 0, 0, 0, 0x80, 0x3F]), t := 100, size := 60 }
      : Dgram)).data.drop 16, 7, by decide +kernel⟩⟩

theorem test_hyps_SoftwareReset :
    (∃ s : State, ∃ key : Nat, s.sys.phase = .run ∧ s.mode = .service ∧ key < 65536 ∧ key = 0x9A30) ∧
    (∃ s : State, ∃ key : Nat, s.sys.phase = .run ∧ s.mode = .service ∧ key < 65536 ∧ key ≠ 0x9A30) ∧
    (∃ s : State, ∃ key : Nat, ∃ v : Word, s.sys.phase = .run ∧ s.mode = .service ∧ key < 65536 ∧ v.toNat % 65536 = key) :=
  ⟨
    ⟨at_ .service [], 0x9A30, by decide +kernel⟩,
    ⟨at_ .service [], 65535, by decide +kernel⟩,
    ⟨at_ .service [], 0x9A30, 0xFFFF9A30, by decide +kernel⟩⟩

theorem test_hyps_VersionFloor :
    (∃ s : State, ∃ v, v ∈ s.otp.floors) ∧
    (∃ s : State, s.otp.floors ≠ []) ∧
    (∃ s : State, s.otp.floors = []) ∧
    (∃ s : State, s.sys.phase = .run ∧ s.mode = .service ∧ s.otp.lifecycle = 2 ∧ s.flag F.SYS_STATUS_IMG_VALID = true ∧
      s.otp.floors.length < 64) ∧
    (∃ s : State, s.sys.phase = .run ∧ s.mode = .service ∧ s.otp.lifecycle = 2 ∧ s.flag F.SYS_STATUS_IMG_VALID = true ∧ 64 ≤
      s.otp.floors.length) ∧
    (∃ c : Instr, ∃ s t : State, exec c s = .next t) ∧
    (∃ c : Instr, ∃ s t : State, exec c s = .next t ∧ s.otp.floors.length ≤ 64) :=
  ⟨
    ⟨{ at_ .join [] with otp := { floors := [1, 3, 2] } }, 3, by decide +kernel⟩,
    ⟨{ at_ .join [] with otp := { floors := [1, 3, 2] } }, by decide +kernel⟩,
    ⟨at_ .join [], by decide +kernel⟩,
    ⟨{ at_ .service [(F.SYS_STATUS_IMG_VALID, 1), (F.IMG_VERSION_VERSION 0, 3)] with otp := { lifecycle := 2, floors := List.replicate 63 1 } },
      by decide +kernel⟩,
    ⟨{ at_ .service [(F.SYS_STATUS_IMG_VALID, 1)] with otp := { lifecycle := 2, floors := List.replicate 64 1 } },
      by decide +kernel⟩,
    ⟨.imgFloorRaise 0x5F1E, at_ .service [], _, rfl⟩,
    ⟨.imgFloorRaise 0x5F1E, { at_ .service [] with otp := { floors := List.replicate 64 1 } }, _, rfl, by decide +kernel⟩⟩

theorem test_hyps_Identity :
    (∃ c : Instr, ∃ s t : State, exec c s = .next t) ∧
    (∃ c : Instr, ∃ s t : State, exec c s = .next t ∧ ∀ e, c ≠ .resetRelease e) ∧
    (∃ s t : State, ∃ e, s.sys.phase = .held ∧ s.sys.vsup = true ∧ s.sys.vioUnder = false ∧ exec (.resetRelease e) s = .next
      t) ∧
    (∃ s : State, s.sys.phase = .run) :=
  ⟨
    ⟨.pinReset false, at_ .service [], _, rfl⟩,
    ⟨.pinReset false, at_ .service [], _, rfl, fun _ h => Instr.noConfusion h⟩,
    ⟨State.reset, _, env, rfl, rfl, rfl, rfl⟩,
    ⟨at_ .dormant [], by decide +kernel⟩⟩

theorem test_hyps_StepKeepsMemories :
    ∃ s t : State, s.MemOk ∧ step s = .next t :=
  ⟨{ at_ .join [] with mram := [(0x1000, 5)], flash := [(3, 1)], tiles := [(0x20000000, 9)], pending := [.pinReset false] },
    _, by decide +kernel, rfl⟩

theorem test_hyps_StepGrowsOtp :
    ∃ s t : State, s.LifecycleForward ∧ s.KeyUnprogrammed ∧ step s = .next t :=
  ⟨{ at_ .service [] with otp := { lifecycle := 1 }, ash := { lcTarget := some 2, lcDone := true }, pending := [.lifecycleFuse] },
    _, fun t h => by cases h; decide, fun _ h => (by cases h), rfl⟩

theorem test_hyps_UnpoweredDie :
    (∃ c : Instr, ∃ s : State, s.sys.phase = .off ∧ s.sys.vsup = false ∧ ∀ elapsed, c ≠ .vsupValid elapsed) ∧
    (∃ s : State, ∃ g : PinGroup, s.sys.phase = .off ∧ g ≠ .pwrReq) ∧
    (∃ s t : State, s.SupplySound ∧ step s = .next t) :=
  ⟨
    ⟨.vbatLoss, { State.reset with sys := { phase := .off, vsup := false } }, rfl, rfl, fun _ h => Instr.noConfusion h⟩,
    ⟨{ State.reset with sys := { phase := .off, vsup := false } }, .flue, rfl, by decide⟩,
    ⟨{ State.reset with sys := { phase := .off, vsup := false }, pending := [.vbatLoss] }, _, fun _ => rfl, rfl⟩⟩

end Sys2Proof.Tests
end

section
/-!
# The identity of the device (R27, R30)

The unique die ID stands in the OTP array and the straps in the device-wide state. `State.ident` is the pair of the two. It changes
nowhere but at the start of LOAD, which samples the straps: every other operation of the model keeps it. A lemma `f_ident` says so for each
operation `f` by the lemmas of the operations that `f` calls, in the order of the model's files, up to the commands themselves.
-/
namespace Sys2Proof.Machine

open Sys2Proof

/-- The die ID and the straps (R27, R30). -/
def State.ident (s : State) : Nat × Nat := (s.otp.uid, s.sys.strap)

/-! ### The forms that operations are built of

The lemmas below are proved by `by rfl`, not by the term `rfl`: `simp` then takes them as rewriting steps, and can use them where it
proves a condition of `State.when_ident` or `State.each_ident`. -/

/-- An update of other fields keeps `ident` by this lemma and `State.ident_eta`. -/
@[simp] theorem State.ident_mk (regs tiles mram flash otp ember sys doms flu img gr lds flt gdr mots adc poss sps cans eths feedq map sec saf
    cmps jrn ash age mbx svc free pending) :
    State.ident ⟨regs, tiles, mram, flash, otp, ember, sys, doms, flu, img, gr, lds, flt, gdr, mots, adc, poss, sps, cans, eths, feedq, map,
      sec, saf, cmps, jrn, ash, age, mbx, svc, free, pending⟩ = (otp.uid, sys.strap) := by rfl

@[simp] theorem State.ident_eta (s : State) : (s.otp.uid, s.sys.strap) = s.ident := by rfl

@[simp] theorem State.ite_ident (c : Prop) [Decidable c] (s t : State) :
    (if c then s else t).ident = if c then s.ident else t.ident := apply_ite _ _ _ _

@[simp] theorem State.ite_fst_ident {α : Type} (c : Prop) [Decidable c] (p q : State × α) :
    (if c then p else q).1.ident = if c then p.1.ident else q.1.ident := apply_ite (fun x : State × α => x.1.ident) _ _ _

@[simp] theorem State.ite_snd_ident {α : Type} (c : Prop) [Decidable c] (p q : α × State) :
    (if c then p else q).2.ident = if c then p.2.ident else q.2.ident := apply_ite (fun x : α × State => x.2.ident) _ _ _

@[simp] theorem State.when_ident (s : State) (c : Bool) (f : State → State) (h : (f s).ident = s.ident) : (s.when c f).ident = s.ident := by
  rcases State.when_cases s c f with ⟨-, hw⟩ | ⟨-, hw⟩
  · rw [hw, h]
  · rw [hw]

@[simp] theorem State.each_ident {α : Type} (s : State) (l : List α) (f : State → α → State) (h : ∀ u a, (f u a).ident = u.ident) :
    (s.each l f).ident = s.ident :=
  State.each_keeps (fun t => t.ident = s.ident) f (fun u a hu => (h u a).trans hu) l s rfl

@[simp] theorem State.foldl_ident {α : Type} (s : State) (l : List α) (f : State → α → State) (h : ∀ u a, (f u a).ident = u.ident) :
    (l.foldl f s).ident = s.ident := State.each_ident s l f h

@[simp] theorem State.foldl_fst_ident {α β : Type} (l : List α) (f : State × β → α → State × β) (h : ∀ p a, (f p a).1.ident = p.1.ident)
    (p : State × β) : (l.foldl f p).1.ident = p.1.ident := by
  induction l generalizing p with
  | nil => rfl
  | cons a l ih => exact (ih _).trans (h p a)

/-! ### Registers, events and logs (Machine/Ops.lean) -/

@[simp] theorem State.setReg_ident (s : State) (a : Nat) (w : Word) : (s.setReg a w).ident = s.ident := by simp [State.setReg]
@[simp] theorem State.setF_ident (s : State) (f : Fld) (v : Nat) : (s.setF f v).ident = s.ident := by simp [State.setF]
@[simp] theorem State.setFlag_ident (s : State) (f : Fld) (b : Bool) : (s.setFlag f b).ident = s.ident := by simp [State.setFlag]
@[simp] theorem State.addF_ident (s : State) (f : Fld) (n : Nat) : (s.addF f n).ident = s.ident := by simp [State.addF]
@[simp] theorem State.incF_ident (s : State) (f : Fld) : (s.incF f).ident = s.ident := by simp [State.incF]
@[simp] theorem State.peakF_ident (s : State) (f : Fld) (v : Nat) : (s.peakF f v).ident = s.ident := by simp [State.peakF]
@[simp] theorem State.fresh_ident (s : State) : (s.fresh).2.ident = s.ident := by simp [State.fresh]
@[simp] theorem State.marker_ident (s : State) (kind id data : Nat) : (s.marker kind id data).ident = s.ident := by simp [State.marker]
@[simp] theorem State.event_ident (s : State) (e : EvBlk) (b : Nat) : (s.event e b).ident = s.ident := by simp [State.event]
@[simp] theorem State.lockedWrite_ident (s : State) (a : Nat) : (s.lockedWrite a).ident = s.ident := by simp [State.lockedWrite]

@[simp] theorem State.pushLog_ident (s : State) (fld : Nat → Fld) (n : Nat) : (s.pushLog fld n).ident = s.ident := by
  induction n generalizing s with
  | zero => rfl
  | succ n ih => simp [State.pushLog, ih]

@[simp] theorem State.ashRequest_ident (s : State) (type flags : Nat) (body : List Byte) :
    (s.ashRequest type flags body).ident = s.ident := by
  simp [State.ashRequest]

@[simp] theorem State.setTime_ident (s : State) (t : Nat) : (s.setTime t).ident = s.ident := by simp [State.setTime]
@[simp] theorem State.alignTick_ident (s : State) (t : Nat) : (s.alignTick t).ident = s.ident := by simp [State.alignTick]

/-! ### Power domains (Machine/Domains.lean) -/

@[simp] theorem State.setDom_ident (s : State) (d : Nat) (x : Dom) : (s.setDom d x).ident = s.ident := by simp [State.setDom]
@[simp] theorem State.setDomState_ident (s : State) (d v : Nat) : (s.setDomState d v).ident = s.ident := by simp [State.setDomState]

@[simp] theorem State.putVote_ident (s : State) (d client : Nat) (b : Bool) : (s.putVote d client b).ident = s.ident := by
  simp [State.putVote]

@[simp] theorem State.domRefuse_ident (s : State) (d id : Nat) : (s.domRefuse d id).ident = s.ident := by simp [State.domRefuse]
@[simp] theorem State.domAbort_ident (s : State) (d id : Nat) : (s.domAbort d id).ident = s.ident := by simp [State.domAbort]
@[simp] theorem State.wipeBanks_ident (s : State) (bs : List Nat) : (s.wipeBanks bs).ident = s.ident := by simp [State.wipeBanks]

@[simp] theorem State.domEnter_ident (s : State) (d : Nat) : (s.domEnter d).ident = s.ident := by
  unfold State.domEnter
  split <;> simp

@[simp] theorem State.domRestore_ident (s : State) (d : Nat) (retried : Bool) : (s.domRestore d retried).ident = s.ident := by
  simp [State.domRestore]

@[simp] theorem State.domVote_ident (s : State) (d client : Nat) : (s.domVote d client).ident = s.ident := by
  unfold State.domVote
  dsimp only
  repeat' split
  all_goals simp

@[simp] theorem State.domUnvote_ident (s : State) (d client : Nat) (coincident : Option Nat) :
    (s.domUnvote d client coincident).ident = s.ident := by
  unfold State.domUnvote
  repeat' split
  all_goals simp

@[simp] theorem State.domRetry_ident (s : State) (d : Nat) : (s.domRetry d).ident = s.ident := by simp [State.domRetry]
@[simp] theorem State.domLogic_ident (s : State) (d : Nat) : (s.domLogic d).ident = s.ident := by simp [State.domLogic]
@[simp] theorem State.domReady_ident (s : State) (d : Nat) : (s.domReady d).ident = s.ident := by simp [State.domReady]
@[simp] theorem State.domRetired_ident (s : State) (d : Nat) : (s.domRetired d).ident = s.ident := by simp [State.domRetired]
@[simp] theorem State.modeVotes_ident (s : State) (m : Mode) : (s.modeVotes m).ident = s.ident := by simp [State.modeVotes]

/-! ### Hobs and queues (Machine/Queues.lean) -/

@[simp] theorem State.setInst_ident (s : State) (i : Nat) (x : InstRun) : (s.setInst i x).ident = s.ident := by simp [State.setInst]
@[simp] theorem State.setSig_ident (s : State) (k : Nat) (x : SigRun) : (s.setSig k x).ident = s.ident := by simp [State.setSig]
@[simp] theorem State.refreshQueues_ident (s : State) : s.refreshQueues.ident = s.ident := by simp [State.refreshQueues]
@[simp] theorem State.dropWrites_ident (s : State) (l : List (Nat × Bool)) : (s.dropWrites l).ident = s.ident := by simp [State.dropWrites]

@[simp] theorem State.discardCopies_ident (s : State) (l : List (Nat × Bool)) : (s.discardCopies l).ident = s.ident := by
  simp [State.discardCopies]

@[simp] theorem State.discard_ident (s : State) (l : List Nat) : (s.discard l).ident = s.ident := by simp [State.discard]

@[simp] theorem State.lastEvent_ident (s : State) (kind : Nat) (copyB : Bool) (hob i : Nat) :
    (s.lastEvent kind copyB hob i).ident = s.ident := by
  simp [State.lastEvent]

@[simp] theorem State.hobOf_ident (s : State) (i : Nat) (copyB : Bool) : (s.hobOf i copyB).2.ident = s.ident := by
  unfold State.hobOf
  split <;> simp

/-! ### Modes and reset (Machine/Modes.lean) -/

@[simp] theorem State.setMot_ident (s : State) (b : Nat) (m : Mot) : (s.setMot b m).ident = s.ident := by simp [State.setMot]

@[simp] theorem State.setPlan_ident (s : State) (b : Nat) (p : Option (Nat × Nat)) : (s.setPlan b p).ident = s.ident := by
  simp [State.setPlan]

@[simp] theorem State.statePlan_ident (s : State) (b : Nat) : (s.statePlan b).ident = s.ident := by simp [State.statePlan]
@[simp] theorem State.refreshBridge_ident (s : State) (b : Nat) : (s.refreshBridge b).ident = s.ident := by simp [State.refreshBridge]
@[simp] theorem State.refreshSol_ident (s : State) (k : Nat) : (s.refreshSol k).ident = s.ident := by simp [State.refreshSol]
@[simp] theorem State.refreshEn_ident (s : State) (e : Nat) : (s.refreshEn e).ident = s.ident := by simp [State.refreshEn]
@[simp] theorem State.refreshSupply_ident (s : State) (i : Nat) : (s.refreshSupply i).ident = s.ident := by simp [State.refreshSupply]
@[simp] theorem State.refreshPower_ident (s : State) : s.refreshPower.ident = s.ident := by simp [State.refreshPower]
@[simp] theorem State.impose_ident (s : State) (i : Imp) : (s.impose i).ident = s.ident := by simp [State.impose]
@[simp] theorem State.liftImp_ident (s : State) (src : Nat) : (s.liftImp src).ident = s.ident := by simp [State.liftImp]
@[simp] theorem State.refreshXdis_ident (s : State) : s.refreshXdis.ident = s.ident := by simp [State.refreshXdis]

@[simp] theorem State.logTrigger_ident (s : State) (kind source : Nat) : (s.logTrigger kind source).ident = s.ident := by
  simp [State.logTrigger]

@[simp] theorem State.trigger_ident (s : State) (kind source : Nat) : (s.trigger kind source).ident = s.ident := by simp [State.trigger]
@[simp] theorem State.refreshHobs_ident (s : State) : s.refreshHobs.ident = s.ident := by simp [State.refreshHobs]
@[simp] theorem State.hobService_ident (s : State) (n : Nat) (b : Bool) : (s.hobService n b).ident = s.ident := by simp [State.hobService]
@[simp] theorem State.rollEnter_ident (s : State) (n : Nat) : (s.rollEnter n).ident = s.ident := by simp [State.rollEnter]
@[simp] theorem State.rollLeave_ident (s : State) (h : Nat) : (s.rollLeave h).ident = s.ident := by simp [State.rollLeave]
@[simp] theorem State.rollAbandon_ident (s : State) : s.rollAbandon.ident = s.ident := by simp [State.rollAbandon]
@[simp] theorem State.graphStop_ident (s : State) : s.graphStop.ident = s.ident := by simp [State.graphStop]
@[simp] theorem State.refreshReact_ident (s : State) : s.refreshReact.ident = s.ident := by simp [State.refreshReact]
@[simp] theorem State.brakeRelease_ident (s : State) : s.brakeRelease.ident = s.ident := by simp [State.brakeRelease]
@[simp] theorem State.isoSend_ident (s : State) (a : Nat) : (s.isoSend a).ident = s.ident := by simp [State.isoSend]
@[simp] theorem State.isoClaim_ident (s : State) (a next : Nat) : (s.isoClaim a next).ident = s.ident := by simp [State.isoClaim]
@[simp] theorem State.refreshSec_ident (s : State) : s.refreshSec.ident = s.ident := by simp [State.refreshSec]
@[simp] theorem State.startCan_ident (s : State) : s.startCan.ident = s.ident := by simp [State.startCan]
@[simp] theorem State.refreshEth_ident (s : State) (p : Nat) : (s.refreshEth p).ident = s.ident := by simp [State.refreshEth]
@[simp] theorem State.refreshNet_ident (s : State) : s.refreshNet.ident = s.ident := by simp [State.refreshNet]
@[simp] theorem State.refreshMon_ident (s : State) : s.refreshMon.ident = s.ident := by simp [State.refreshMon]
@[simp] theorem State.enterJoin_ident (s : State) : s.enterJoin.ident = s.ident := by simp [State.enterJoin]

@[simp] theorem State.enterMode_ident (s : State) (m : Mode) (cause source : Nat) : (s.enterMode m cause source).ident = s.ident := by
  simp [State.enterMode]

@[simp] theorem State.requestMode_ident (s : State) (m : Mode) (cause source : Nat) : (s.requestMode m cause source).ident = s.ident := by
  simp [State.requestMode]

@[simp] theorem State.freeFlash_ident (s : State) (a n : Nat) : (s.freeFlash a n).ident = s.ident := by simp [State.freeFlash]
@[simp] theorem State.freeKey_ident (s : State) (k : Nat) : (s.freeKey k).ident = s.ident := by simp [State.freeKey]

@[simp] theorem State.nvmTorn_ident (s : State) : s.nvmTorn.ident = s.ident := by
  unfold State.nvmTorn
  split <;> simp

@[simp] theorem State.resetWith_ident (s : State) (c : Cause) : (s.resetWith c).ident = s.ident := by
  have h : s.nvmTorn.otp.uid = s.otp.uid := congrArg Prod.fst (State.nvmTorn_ident s)
  simp only [State.resetWith, State.ashRequest_ident, State.setF_ident, State.ident_mk, h, State.ident_eta]

@[simp] theorem State.doReset_ident (s : State) (c : Cause) : (s.doReset c).ident = s.ident := by simp [State.doReset]
@[simp] theorem State.resetBy_ident (s : State) (c : Cause) (same : Bool) : (s.resetBy c same).ident = s.ident := by simp [State.resetBy]

/-! ### Margins (Machine/Margins.lean) -/

@[simp] theorem State.setBudgetBy_ident (s : State) (low : State → State) (hlow : ∀ u, (low u).ident = u.ident) (m b : Nat) :
    (s.setBudgetBy low m b).ident = s.ident := by
  simp [State.setBudgetBy, hlow]

@[simp] theorem State.setValue_ident (s : State) (m : Nat) (v : Int) : (s.setValue m v).ident = s.ident := by simp [State.setValue]
@[simp] theorem State.keptMargins_ident (s : State) : s.keptMargins.ident = s.ident := by simp [State.keptMargins]

@[simp] theorem State.closeMargins_ident (s : State) (low : State → State) (hlow : ∀ u, (low u).ident = u.ident) (baseline : Bool) :
    (s.closeMargins low baseline).ident = s.ident := by
  simp [State.closeMargins, hlow]

/-! ### Fault collector (Machine/Collector.lean) -/

@[simp] theorem State.setActive_ident (s : State) (n : Nat) (b : Bool) : (s.setActive n b).ident = s.ident := by simp [State.setActive]
@[simp] theorem State.fltRecord_ident (s : State) (n : Nat) : (s.fltRecord n).ident = s.ident := by simp [State.fltRecord]
@[simp] theorem State.startWait_ident (s : State) (n : Nat) : (s.startWait n).ident = s.ident := by simp [State.startWait]
@[simp] theorem State.fltFreezeAct_ident (s : State) (n : Nat) : (s.fltFreezeAct n).ident = s.ident := by simp [State.fltFreezeAct]
@[simp] theorem State.settle_ident (s : State) (n : Nat) : (s.settle n).ident = s.ident := by simp [State.settle]
@[simp] theorem State.raiseInHold_ident (s : State) (n : Nat) : (s.raiseInHold n).ident = s.ident := by simp [State.raiseInHold]

@[simp] theorem State.reactTime_ident (s : State) (us : Option Nat) : (s.reactTime us).ident = s.ident := by
  unfold State.reactTime
  split <;> simp

@[simp] theorem State.reactSafeHold_ident (s : State) (n : Nat) (us : Option Nat) : (s.reactSafeHold n us).ident = s.ident := by
  simp [State.reactSafeHold]

@[simp] theorem State.nowActing_ident (s : State) (n : Nat) : (s.nowActing n).ident = s.ident := by simp [State.nowActing]

@[simp] theorem State.takeAction_ident (s : State) (n a : Nat) (us : Option Nat) : (s.takeAction n a us).ident = s.ident := by
  unfold State.takeAction
  dsimp only
  repeat' split
  all_goals simp only [State.nowActing_ident, State.requestMode_ident, State.reactSafeHold_ident, State.doReset_ident, State.ident_mk,
    State.ident_eta]

@[simp] theorem State.fltAct_ident (s : State) (n : Nat) (us : Option Nat) : (s.fltAct n us).ident = s.ident := by simp [State.fltAct]

@[simp] theorem State.firstFatal_ident (s before : State) (l : List Nat) : (s.firstFatal before l).ident = s.ident := by
  simp [State.firstFatal]

@[simp] theorem State.doRaise_ident (s : State) (n : Nat) (us : Option Nat) : (s.doRaise n us).ident = s.ident := by simp [State.doRaise]

@[simp] theorem State.raiseTimed_ident (s : State) (n : Nat) (us : Option Nat) : (s.raiseTimed n us).ident = s.ident := by
  simp [State.raiseTimed]

@[simp] theorem State.raise_ident (s : State) (n : Nat) : (s.raise n).ident = s.ident := by simp [State.raise]

@[simp] theorem State.levelTimed_ident (s : State) (n : Nat) (us : Option Nat) : (s.levelTimed n us).ident = s.ident := by
  simp [State.levelTimed]

@[simp] theorem State.raiseLevel_ident (s : State) (n : Nat) : (s.raiseLevel n).ident = s.ident := by simp [State.raiseLevel]
@[simp] theorem State.clearLevel_ident (s : State) (n : Nat) : (s.clearLevel n).ident = s.ident := by simp [State.clearLevel]

@[simp] theorem State.unitHoldOn_ident (s : State) (n : Nat) : (s.unitHoldOn n).ident = s.ident := by
  simp only [State.unitHoldOn, State.impose_ident, State.setFlag_ident, State.setF_ident, State.refreshPower_ident, State.ident_mk,
    State.ident_eta, State.ite_ident, ite_self]
  split
  · split <;> simp only [State.impose_ident, State.ident_mk, State.ident_eta]
  · rfl

@[simp] theorem State.unitHoldOff_ident (s : State) (n : Nat) : (s.unitHoldOff n).ident = s.ident := by
  simp only [State.unitHoldOff, State.setFlag_ident, State.liftImp_ident, State.refreshPower_ident, State.refreshSupply_ident,
    State.ident_mk, State.ident_eta, State.ite_ident, ite_self, State.when_ident, State.each_ident, implies_true]

@[simp] theorem State.detected_ident (s : State) (n : Nat) : (s.detected n).ident = s.ident := by
  unfold State.detected
  repeat' split
  all_goals simp

@[simp] theorem State.raiseHold_ident (s : State) (n : Nat) : (s.raiseHold n).ident = s.ident := by simp [State.raiseHold]

@[simp] theorem State.foundAgain_ident (s : State) (n : Nat) (before : State) : (s.foundAgain n before).ident = s.ident := by
  simp [State.foundAgain]

@[simp] theorem State.refreshLinks_ident (s : State) : s.refreshLinks.ident = s.ident := by simp [State.refreshLinks]
@[simp] theorem State.showTries_ident (s : State) (n t : Nat) : (s.showTries n t).ident = s.ident := by simp [State.showTries]

@[simp] theorem State.clearExpiry_ident (s : State) (n : Nat) (persists : Bool) : (s.clearExpiry n persists).ident = s.ident := by
  simp [State.clearExpiry]

@[simp] theorem State.tryReset_ident (s : State) (n : Nat) : (s.tryReset n).ident = s.ident := by simp [State.tryReset]
@[simp] theorem State.countRetry_ident (s : State) : s.countRetry.ident = s.ident := by simp [State.countRetry]
@[simp] theorem State.transient_ident (s : State) : s.transient.ident = s.ident := by simp [State.transient]
@[simp] theorem State.lasting_ident (s : State) : s.lasting.ident = s.ident := by simp [State.lasting]
@[simp] theorem State.hobOut_ident (s : State) (n st : Nat) : (s.hobOut n st).ident = s.ident := by simp [State.hobOut]
@[simp] theorem State.retireCluster_ident (s : State) (c : Nat) : (s.retireCluster c).ident = s.ident := by simp [State.retireCluster]

/-! ### Set-point sources (Machine/Setpoint.lean) -/

@[simp] theorem State.setSp_ident (s : State) (c : Nat) (x : Sp) : (s.setSp c x).ident = s.ident := by simp [State.setSp]

@[simp] theorem State.spMessage_ident (s : State) (c : Nat) (alt : Bool) (b : List Byte) : (s.spMessage c alt b).ident = s.ident := by
  simp [State.spMessage]

@[simp] theorem State.spFlue_ident (s : State) (slot : Nat) (payload : List Byte) : (s.spFlue slot payload).ident = s.ident := by
  simp [State.spFlue]

@[simp] theorem State.spCan_ident (s : State) (n : Nat) (f : CanMsg) : (s.spCan n f).ident = s.ident := by simp [State.spCan]
@[simp] theorem State.refreshAlt_ident (s : State) : s.refreshAlt.ident = s.ident := by simp [State.refreshAlt]
@[simp] theorem State.spUse_ident (s : State) (c : Nat) (alt : Bool) : (s.spUse c alt).ident = s.ident := by simp [State.spUse]
@[simp] theorem State.spLoss_ident (s : State) (c : Nat) (alt : Bool) : (s.spLoss c alt).ident = s.ident := by simp [State.spLoss]

@[simp] theorem State.spIntake_ident (s : State) (c : Nat) : (s.spIntake c).ident = s.ident := by
  unfold State.spIntake
  dsimp only
  repeat' split
  all_goals simp

@[simp] theorem State.spTimeout_ident (s : State) (c : Nat) (alt : Bool) : (s.spTimeout c alt).ident = s.ident := by simp [State.spTimeout]
@[simp] theorem State.shutdownEdge_ident (s : State) : s.shutdownEdge.ident = s.ident := by simp [State.shutdownEdge]

@[simp] theorem State.shutdownRequest_ident (s : State) (holds : Bool) : (s.shutdownRequest holds).ident = s.ident := by
  simp [State.shutdownRequest]

/-! ### CAN (Machine/Can.lean) -/

@[simp] theorem State.setCan_ident (s : State) (n : Nat) (c : Can) : (s.setCan n c).ident = s.ident := by simp [State.setCan]

@[simp] theorem State.setCanBuf_ident (s : State) (n b : Nat) (x : CanBuf) : (s.setCanBuf n b x).ident = s.ident := by
  simp [State.setCanBuf]

@[simp] theorem State.canResult_ident (s : State) (n b r : Nat) : (s.canResult n b r).ident = s.ident := by
  unfold State.canResult
  split <;> simp

@[simp] theorem State.canLoad_ident (s : State) (n b : Nat) (f : CanMsg) : (s.canLoad n b f).ident = s.ident := by
  unfold State.canLoad
  split <;> simp

@[simp] theorem State.canCancel_ident (s : State) (n b : Nat) : (s.canCancel n b).ident = s.ident := by
  unfold State.canCancel
  split <;> simp

@[simp] theorem State.canTx_ident (s : State) (n b id ctl : Nat) (words : List Word) : (s.canTx n b id ctl words).ident = s.ident := by
  simp [State.canTx]

@[simp] theorem State.canArbitrate_ident (s : State) (n : Nat) (won : Bool) : (s.canArbitrate n won).ident = s.ident := by
  unfold State.canArbitrate
  repeat' split
  all_goals simp

@[simp] theorem State.canErr_ident (s : State) (n tec rec' : Nat) : (s.canErr n tec rec').ident = s.ident := by simp [State.canErr]
@[simp] theorem State.canBusOff_ident (s : State) (n : Nat) : (s.canBusOff n).ident = s.ident := by simp [State.canBusOff]

@[simp] theorem State.canThen_ident (s : State) (n b : Nat) (next : Option CanMsg) : (s.canThen n b next).ident = s.ident := by
  simp [State.canThen]

@[simp] theorem State.canFailed_ident (s : State) (n b r : Nat) : (s.canFailed n b r).ident = s.ident := by
  unfold State.canFailed
  dsimp only
  repeat' split
  all_goals simp

@[simp] theorem State.canFrameEnd_ident (s : State) (n how lec : Nat) : (s.canFrameEnd n how lec).ident = s.ident := by
  unfold State.canFrameEnd
  repeat' split
  all_goals simp

@[simp] theorem State.canRecover_ident (s : State) (n : Nat) : (s.canRecover n).ident = s.ident := by simp [State.canRecover]
@[simp] theorem State.recGood_ident (s : State) (n : Nat) : (s.recGood n).2.ident = s.ident := by simp [State.recGood]

@[simp] theorem State.canReceive_ident (s : State) (n : Nat) (f : CanMsg) (t : Nat) (err : Option (Nat × Bool)) :
    (s.canReceive n f t err).ident = s.ident := by
  unfold State.canReceive
  dsimp only
  repeat' split
  all_goals simp

@[simp] theorem State.isoContend_ident (s : State) (a : Nat) : (s.isoContend a).ident = s.ident := by
  unfold State.isoContend
  dsimp only
  repeat' split
  all_goals simp

@[simp] theorem State.isoOther_ident (s : State) (f : CanMsg) : (s.isoOther f).ident = s.ident := by simp [State.isoOther]
@[simp] theorem State.isoRequest_ident (s : State) (f : CanMsg) : (s.isoRequest f).ident = s.ident := by simp [State.isoRequest]
@[simp] theorem State.isoProcess_ident (s : State) (f : CanMsg) : (s.isoProcess f).ident = s.ident := by simp [State.isoProcess]

@[simp] theorem State.isoFrame_ident (s : State) (f : CanMsg) : (s.isoFrame f).ident = s.ident := by
  unfold State.isoFrame
  repeat' split
  all_goals simp

@[simp] theorem State.canDrain_ident (s : State) : s.canDrain.ident = s.ident := by simp [State.canDrain]

@[simp] theorem State.claimStands_ident (s : State) : s.claimStands.ident = s.ident := by
  unfold State.claimStands
  split <;> simp

/-! ### Ethernet (Machine/Ethernet.lean) -/

@[simp] theorem State.setEth_ident (s : State) (p : Nat) (e : Eth) : (s.setEth p e).ident = s.ident := by simp [State.setEth]
@[simp] theorem State.ethSend_ident (s : State) (p : Nat) (o : EthOut) : (s.ethSend p o).ident = s.ident := by simp [State.ethSend]
@[simp] theorem State.ethResume_ident (s : State) (p : Nat) : (s.ethResume p).ident = s.ident := by simp [State.ethResume]
@[simp] theorem State.pauseSend_ident (s : State) (p quanta : Nat) : (s.pauseSend p quanta).ident = s.ident := by simp [State.pauseSend]
@[simp] theorem State.setFill_ident (s : State) (p n : Nat) : (s.setFill p n).ident = s.ident := by simp [State.setFill]
@[simp] theorem State.pauseRepeat_ident (s : State) (p : Nat) : (s.pauseRepeat p).ident = s.ident := by simp [State.pauseRepeat]
@[simp] theorem State.lowWater_ident (s : State) (p : Nat) : (s.lowWater p).ident = s.ident := by simp [State.lowWater]

@[simp] theorem State.arpLearn_ident (s : State) (p ip : Nat) (mac : List Byte) : (s.arpLearn p ip mac).ident = s.ident := by
  simp [State.arpLearn]

@[simp] theorem State.arpAsk_ident (s : State) (p ip : Nat) : (s.arpAsk p ip).ident = s.ident := by simp [State.arpAsk]

@[simp] theorem State.udpSend_ident (s : State) (p : Nat) (feed : Bool) (ip port : Nat) (data : List Byte) :
    (s.udpSend p feed ip port data).ident = s.ident := by
  unfold State.udpSend
  split <;> simp

@[simp] theorem State.ethTx_ident (s : State) (p m : Nat) (words : List Word) : (s.ethTx p m words).ident = s.ident := by simp [State.ethTx]
@[simp] theorem State.ethDrop_ident (s : State) (p r : Nat) (b : List Byte) : (s.ethDrop p r b).ident = s.ident := by simp [State.ethDrop]

@[simp] theorem State.pauseReceived_ident (s : State) (p : Nat) (body : List Byte) : (s.pauseReceived p body).ident = s.ident := by
  simp [State.pauseReceived]

@[simp] theorem State.arpReceived_ident (s : State) (p : Nat) (body : List Byte) : (s.arpReceived p body).ident = s.ident := by
  unfold State.arpReceived
  dsimp only
  repeat' split
  all_goals simp

@[simp] theorem State.ptpReceived_ident (s : State) (p t : Nat) (m : List Byte) : (s.ptpReceived p t m).ident = s.ident := by
  simp [State.ptpReceived]

@[simp] theorem State.ethReceive_ident (s : State) (p : Nat) (b : List Byte) (fcs : Bool) (t : Nat) :
    (s.ethReceive p b fcs t).ident = s.ident := by
  cases hk : (s.eth p).echo <;>
    simp only [State.ethReceive, hk, State.ethDrop_ident, State.pauseReceived_ident, State.arpReceived_ident, State.ptpReceived_ident,
      State.ethSend_ident, State.setFill_ident, State.setEth_ident, State.incF_ident, State.ite_ident, State.ident_mk, State.ident_eta,
      ite_self]

@[simp] theorem State.phyPoll_ident (s : State) (p : Nat) (regs : List Nat) : (s.phyPoll p regs).ident = s.ident := by simp [State.phyPoll]
@[simp] theorem State.ptpSync_ident (s : State) (p t : Nat) : (s.ptpSync p t).ident = s.ident := by simp [State.ptpSync]
@[simp] theorem State.ethTick_ident (s : State) : s.ethTick.ident = s.ident := by simp [State.ethTick]

/-! ### Tile feed and map store (Machine/Feed.lean) -/

@[simp] theorem State.setSession_ident (s : State) (x : Option Session) : (s.setSession x).ident = s.ident := by simp [State.setSession]

@[simp] theorem State.feedSend_ident (s : State) (ty : Nat) (payload : List Byte) : (s.feedSend ty payload).ident = s.ident := by
  unfold State.feedSend
  split <;> simp

@[simp] theorem State.feedError_ident (s : State) (code seq detail : Nat) : (s.feedError code seq detail).ident = s.ident := by
  simp [State.feedError]

@[simp] theorem State.sendBack_ident (s : State) (e : MapEnt) : (s.sendBack e).ident = s.ident := by simp [State.sendBack]

@[simp] theorem State.mapFree_ident (s : State) (k : TileKey) : (s.mapFree k).ident = s.ident := by
  unfold State.mapFree
  split <;> simp only [State.sendBack_ident, State.ident_mk, State.ident_eta, State.when_ident]

theorem State.mapSlotBut_ident {s t : State} {keep : List TileKey} {n : Nat} (h : s.mapSlotBut keep = some (n, t)) : t.ident = s.ident := by
  unfold State.mapSlotBut at h
  dsimp only at h
  repeat' split at h
  all_goals cases h
  all_goals simp

theorem State.mapSlot_ident {s t : State} {n : Nat} (h : s.mapSlot = some (n, t)) : t.ident = s.ident := State.mapSlotBut_ident h
@[simp] theorem State.mapPut_ident (s : State) (e : MapEnt) : (s.mapPut e).ident = s.ident := by simp [State.mapPut]

@[simp] theorem State.mapUnknown_ident (s : State) (k : TileKey) : (s.mapUnknown k).ident = s.ident := by
  unfold State.mapUnknown
  split
  · simp
  · split
    next h => simp [State.mapSlot_ident h]
    · rfl

@[simp] theorem State.tileWrite_ident (s : State) (slot : Nat) (b : List Byte) : (s.tileWrite slot b).ident = s.ident := by
  simp [State.tileWrite]

@[simp] theorem State.mapInstall_ident (s : State) (a : Asm) : (s.mapInstall a).ident = s.ident := by
  unfold State.mapInstall
  split
  · dsimp only
    split_ifs <;> simp
  · split
    next h => simp [State.mapSlot_ident h]
    · simp

@[simp] theorem State.eventDrop_ident (s : State) (e : TEvent) : (s.eventDrop e).ident = s.ident := by simp [State.eventDrop]

@[simp] theorem State.cellWrite_ident (s : State) (e : MapEnt) (off v : Nat) : (s.cellWrite e off v).ident = s.ident := by
  simp [State.cellWrite]

@[simp] theorem State.rasterOne_ident (s : State) (e : TEvent) : (s.rasterOne e).ident = s.ident := by
  unfold State.rasterOne
  refine (State.when_ident _ _ _ (by rw [State.setFlag_ident, State.incF_ident])).trans
    ((State.each_ident _ _ _ fun u k => ?_).trans ((State.each_ident _ _ _ fun u c => ?_).trans (State.foldl_ident _ _ _ fun u k => ?_)))
  · split
    · exact State.mapPut_ident _ _
    · rfl
  · split
    · split
      · rfl
      · exact State.cellWrite_ident _ _ _ _
    · rfl
  · split
    next h => rw [State.mapPut_ident, State.tileWrite_ident, State.mapSlotBut_ident h]
    · rfl

@[simp] theorem State.markOne_ident (s : State) (c : TileKey × Nat) : (s.markOne c).ident = s.ident := by
  unfold State.markOne
  split <;> simp

@[simp] theorem State.refreshStore_ident (s : State) : s.refreshStore.ident = s.ident := by simp [State.refreshStore]
@[simp] theorem State.mapSnapshot_ident (s : State) : s.mapSnapshot.ident = s.ident := by simp [State.mapSnapshot]
@[simp] theorem State.leaveRemoved_ident (s : State) : s.leaveRemoved.ident = s.ident := by simp [State.leaveRemoved]
@[simp] theorem State.mapSlotStart_ident (s : State) : s.mapSlotStart.ident = s.ident := by simp [State.mapSlotStart]

@[simp] theorem State.mapCycle_ident (s : State) : s.mapCycle.ident = s.ident := by
  unfold State.mapCycle
  dsimp only
  repeat' split
  all_goals simp

@[simp] theorem State.tileReq_ident (s : State) (l : List TileKey) : (s.tileReq l).ident = s.ident := by simp [State.tileReq]
@[simp] theorem State.pinUpdate_ident (s : State) : s.pinUpdate.ident = s.ident := by simp [State.pinUpdate]

@[simp] theorem State.credit_ident (s : State) (t : Nat) : (s.credit t).ident = s.ident := by
  unfold State.credit
  split <;> simp

@[simp] theorem State.feedDrain_ident (s : State) (d : Dgram) : (s.feedDrain d).ident = s.ident := by simp [State.feedDrain]

@[simp] theorem State.feedAccept_ident (s : State) (x : Session) (seq : Nat) : (s.feedAccept x seq).ident = s.ident := by
  simp [State.feedAccept]

@[simp] theorem State.feedTake_ident (s : State) (ty : Nat) (f : State → Dgram → Session → Nat → List Byte → State)
    (hf : ∀ u d x q b, (f u d x q b).ident = u.ident) : (s.feedTake ty f).ident = s.ident := by
  unfold State.feedTake
  dsimp only
  repeat' split
  all_goals simp [hf]

@[simp] theorem State.refreshIso_ident (s : State) : s.refreshIso.ident = s.ident := by simp [State.refreshIso]
@[simp] theorem State.refreshEventsOn_ident (s : State) : s.refreshEventsOn.ident = s.ident := by simp [State.refreshEventsOn]
@[simp] theorem State.sessionEnd_ident (s : State) : s.sessionEnd.ident = s.ident := by simp [State.sessionEnd]
@[simp] theorem State.newSession_ident (s : State) : (s.newSession).2.ident = s.ident := by simp [State.newSession]

@[simp] theorem State.hello_ident (s : State) (d : Dgram) (seq : Nat) (p : List Byte) : (s.hello d seq p).ident = s.ident := by
  unfold State.hello
  dsimp only
  repeat' split
  all_goals simp

@[simp] theorem State.poseMsg_ident (s : State) (d : Dgram) (x : Session) (seq : Nat) (p : List Byte) :
    (s.poseMsg d x seq p).ident = s.ident := by
  simp [State.poseMsg]

@[simp] theorem State.tileMsg_ident (s : State) (d : Dgram) (x : Session) (seq : Nat) (p : List Byte) :
    (s.tileMsg d x seq p).ident = s.ident := by
  simp [State.tileMsg]

@[simp] theorem State.tileTimeout_ident (s : State) (k : TileKey) : (s.tileTimeout k).ident = s.ident := by
  unfold State.tileTimeout
  split <;> simp

@[simp] theorem State.setEvents_ident (s : State) (l : List TEvent) : (s.setEvents l).ident = s.ident := by simp [State.setEvents]

@[simp] theorem State.eventsMsg_ident (s : State) (d : Dgram) (x : Session) (seq : Nat) (p : List Byte) :
    (s.eventsMsg d x seq p).ident = s.ident := by
  simp [State.eventsMsg]

@[simp] theorem State.setpointMsg_ident (s : State) (d : Dgram) (x : Session) (seq : Nat) (p : List Byte) :
    (s.setpointMsg d x seq p).ident = s.ident := by
  simp [State.setpointMsg]

@[simp] theorem State.dropMsg_ident (s : State) (d : Dgram) (x : Session) (seq : Nat) (p : List Byte) :
    (s.dropMsg d x seq p).ident = s.ident := by
  unfold State.dropMsg
  dsimp only
  repeat' split
  all_goals simp

@[simp] theorem State.poseFree_ident (s : State) : s.poseFree.ident = s.ident := by simp [State.poseFree]
@[simp] theorem State.poseTick_ident (s : State) (t : Nat) : (s.poseTick t).ident = s.ident := by simp [State.poseTick]

/-! ### Bridges and carriers (Machine/Motor.lean) -/

@[simp] theorem State.pwmWrite_ident (s : State) (b : Nat) (d : List Word) : (s.pwmWrite b d).ident = s.ident := by simp [State.pwmWrite]

@[simp] theorem State.bridgeModeWrite_ident (s : State) (b inst : Nat) (v : Word) : (s.bridgeModeWrite b inst v).ident = s.ident := by
  simp [State.bridgeModeWrite]

@[simp] theorem State.halfWrite_ident (s : State) (b n : Nat) : (s.halfWrite b n).ident = s.ident := by
  unfold State.halfWrite
  dsimp only
  repeat' split
  all_goals simp

@[simp] theorem State.halfRefresh_ident (s : State) (b : Nat) (falling : Bool) : (s.halfRefresh b falling).ident = s.ident := by
  simp [State.halfRefresh]

@[simp] theorem State.halfPlan_ident (s : State) (b n : Nat) (falling : Bool) : (s.halfPlan b n falling).ident = s.ident := by
  simp [State.halfPlan]

@[simp] theorem State.shootRelease_ident (s : State) (b : Nat) (before : Nat → Bool) : (s.shootRelease b before).ident = s.ident := by
  simp [State.shootRelease]

@[simp] theorem State.halfBridge_ident (s : State) (n : Nat) (falling : Bool) (b : Nat) : (s.halfBridge n falling b).ident = s.ident := by
  simp [State.halfBridge]

@[simp] theorem State.halfEnds_ident (s : State) : s.halfEnds.ident = s.ident := by simp [State.halfEnds]
@[simp] theorem State.halfStart_ident (s : State) (n : Nat) : (s.halfStart n).ident = s.ident := by simp [State.halfStart]

@[simp] theorem State.shuntSample_ident (s : State) (b code : Nat) : (s.shuntSample b code).ident = s.ident := by
  unfold State.shuntSample
  dsimp only
  repeat' split
  all_goals simp

/-! ### Analogue acquisition (Machine/Analogue.lean) -/

@[simp] theorem State.setConv_ident (s : State) (v : Nat) (c : Conv) : (s.setConv v c).ident = s.ident := by simp [State.setConv]
@[simp] theorem State.setConvState_ident (s : State) (v st : Nat) : (s.setConvState v st).ident = s.ident := by simp [State.setConvState]
@[simp] theorem State.adcTrigger_ident (s : State) (code : Nat) : (s.adcTrigger code).ident = s.ident := by simp [State.adcTrigger]
@[simp] theorem State.convResume_ident (s : State) (v : Nat) : (s.convResume v).ident = s.ident := by simp [State.convResume]

@[simp] theorem State.injBegin_ident (s : State) (st v : Nat) (acq inConv : Bool) : (s.injBegin st v acq inConv).ident = s.ident := by
  simp [State.injBegin]

@[simp] theorem State.trigLost_ident (s : State) : s.trigLost.ident = s.ident := by simp [State.trigLost]

@[simp] theorem State.sequenceStart_ident (s : State) (q : AdcSeq) (acq inConv : Nat) : (s.sequenceStart q acq inConv).ident = s.ident := by
  unfold State.sequenceStart
  repeat' split
  all_goals simp

@[simp] theorem State.adcStart_ident (s : State) (reg inj : Nat) : (s.adcStart reg inj).ident = s.ident := by simp [State.adcStart]

@[simp] theorem State.publish_ident (s : State) (v c code t : Nat) (hi lo inj : Bool) :
    (s.publish v c code t hi lo inj).ident = s.ident := by
  simp [State.publish]

@[simp] theorem State.overRange_ident (s : State) (c : Nat) : (s.overRange c).ident = s.ident := by simp [State.overRange]
@[simp] theorem State.convCount_ident (s : State) (v n : Nat) : (s.convCount v n).ident = s.ident := by simp [State.convCount]

@[simp] theorem State.testConversion_ident (s : State) (t c : Nat) (x : Nat × Int) : (s.testConversion t c x).ident = s.ident := by
  simp [State.testConversion]

@[simp] theorem State.pairCompare_ident (s : State) (p a b : Nat) (ovr : Bool) : (s.pairCompare p a b ovr).ident = s.ident := by
  simp [State.pairCompare]

@[simp] theorem State.injEnd_ident (s : State) (v : Nat) : (s.injEnd v).ident = s.ident := by simp [State.injEnd]

@[simp] theorem State.owStart_ident (s : State) : s.owStart.ident = s.ident := by
  unfold State.owStart
  split <;> simp

@[simp] theorem State.setOpen_ident (s : State) (c : Nat) (b : Bool) : (s.setOpen c b).ident = s.ident := by simp [State.setOpen]
@[simp] theorem State.owEnd_ident (s : State) : s.owEnd.ident = s.ident := by simp [State.owEnd]

@[simp] theorem State.owConversion_ident (s : State) (x : OwTest) (code : Nat) : (s.owConversion x code).ident = s.ident := by
  unfold State.owConversion
  repeat' split
  all_goals simp

theorem State.convAdvance_ident (s : State) (v : Nat) : ∀ x ∈ s.convAdvance v, x.2.2.ident = s.ident := by
  unfold State.convAdvance
  dsimp only
  repeat' split
  all_goals simp

@[simp] theorem State.pairStep_ident (s : State) (v c code t : Nat) (hi lo under : Bool) :
    (s.pairStep v c code t hi lo under).ident = s.ident := by
  unfold State.pairStep
  dsimp only
  repeat' split
  all_goals simp

@[simp] theorem State.setFailed_ident (s : State) (v : Nat) (b : Bool) : (s.setFailed v b).ident = s.ident := by simp [State.setFailed]

@[simp] theorem State.refJudge_ident (s : State) (v bg gnd : Nat) (again : Bool) : (s.refJudge v bg gnd again).ident = s.ident := by
  simp [State.refJudge]

@[simp] theorem State.refConversion_ident (s : State) (v code : Nat) : (s.refConversion v code).ident = s.ident := by
  unfold State.refConversion
  dsimp only
  repeat' split
  all_goals simp

@[simp] theorem State.refConverts_ident (s : State) (v : Nat) (inputs : Int × Int) : (s.refConverts v inputs).ident = s.ident := by
  simp [State.refConverts]

@[simp] theorem State.refOne_ident (s : State) (v : Nat) (first again : Int × Int) : (s.refOne v first again).ident = s.ident := by
  simp [State.refOne]

@[simp] theorem State.refAll_ident (s : State) (first again : List (Int × Int)) : (s.refAll first again).ident = s.ident := by
  simp [State.refAll]

@[simp] theorem State.referenceCheck_ident (s : State) : s.referenceCheck.ident = s.ident := by simp [State.referenceCheck]

@[simp] theorem State.conversion_ident (s : State) (v : Nat) (input : Int) (t : Nat) (settled : Bool) :
    (s.conversion v input t settled).ident = s.ident := by
  unfold State.conversion
  split
  · rfl
  split
  · rfl
  next c k s1 h =>
    have h1 : s1.ident = s.ident := State.convAdvance_ident s v _ h
    dsimp only
    split <;> split <;> simp [h1]

@[simp] theorem State.keepIntake_ident (s before : State) : (s.keepIntake before).ident = s.ident := by simp [State.keepIntake]
@[simp] theorem State.adcTick_ident (s : State) (t : Nat) : (s.adcTick t).ident = s.ident := by simp [State.adcTick]

/-! ### Gate drive (Machine/GateDrive.lean) -/

@[simp] theorem State.desat_ident (s : State) (g : Nat) : (s.desat g).ident = s.ident := by simp [State.desat]
@[simp] theorem State.overcurrent_ident (s : State) (b : Nat) : (s.overcurrent b).ident = s.ident := by simp [State.overcurrent]
@[simp] theorem State.gateStuck_ident (s : State) (g : Nat) : (s.gateStuck g).ident = s.ident := by simp [State.gateStuck]

@[simp] theorem State.shootThrough_ident (s : State) (g : Nat) (both : Bool) : (s.shootThrough g both).ident = s.ident := by
  simp [State.shootThrough]

@[simp] theorem State.bootRefresh_ident (s : State) (g : Nat) : (s.bootRefresh g).ident = s.ident := by simp [State.bootRefresh]
@[simp] theorem State.bootUv_ident (s : State) (g : Nat) : (s.bootUv g).ident = s.ident := by simp [State.bootUv]
@[simp] theorem State.linkSeen_ident (s : State) (l u : Nat) : (s.linkSeen l u).ident = s.ident := by simp [State.linkSeen]
@[simp] theorem State.chopperSwitch_ident (s : State) (l u : Nat) : (s.chopperSwitch l u).ident = s.ident := by simp [State.chopperSwitch]
@[simp] theorem State.chopperFail_ident (s : State) (l : Nat) : (s.chopperFail l).ident = s.ident := by simp [State.chopperFail]
@[simp] theorem State.linkOv_ident (s : State) (l u : Nat) : (s.linkOv l u).ident = s.ident := by simp [State.linkOv]
@[simp] theorem State.linkTrip_ident (s : State) (l u : Nat) : (s.linkTrip l u).ident = s.ident := by simp [State.linkTrip]
@[simp] theorem State.solShort_ident (s : State) (k : Nat) : (s.solShort k).ident = s.ident := by simp [State.solShort]
@[simp] theorem State.solOpen_ident (s : State) (k : Nat) (holds : Bool) : (s.solOpen k holds).ident = s.ident := by simp [State.solOpen]

@[simp] theorem State.solDeviation_ident (s : State) (k : Nat) (holds : Bool) : (s.solDeviation k holds).ident = s.ident := by
  simp [State.solDeviation]

@[simp] theorem State.enReadback_ident (s : State) (e : Nat) (rb : Bool) : (s.enReadback e rb).ident = s.ident := by simp [State.enReadback]
@[simp] theorem State.ssFault_ident (s : State) (i : Nat) : (s.ssFault i).ident = s.ident := by simp [State.ssFault]
@[simp] theorem State.supplyTest_ident (s : State) (i : Nat) : (s.supplyTest i).ident = s.ident := by simp [State.supplyTest]

@[simp] theorem State.pulseStart_ident (s : State) (low : Bool) : (s.pulseStart low).ident = s.ident := by
  unfold State.pulseStart
  split <;> simp

@[simp] theorem State.pulseRelease_ident (s : State) : s.pulseRelease.ident = s.ident := by simp [State.pulseRelease]
@[simp] theorem State.xdisJoin_ident (s : State) : s.xdisJoin.ident = s.ident := by simp [State.xdisJoin]

@[simp] theorem State.xdisOkSeen_ident (s : State) (leads : List ChFrame) : (s.xdisOkSeen leads).ident = s.ident := by
  simp [State.xdisOkSeen]

@[simp] theorem State.xdisInLow_ident (s : State) : s.xdisInLow.ident = s.ident := by simp [State.xdisInLow]
@[simp] theorem State.xdisInHigh_ident (s : State) : s.xdisInHigh.ident = s.ident := by simp [State.xdisInHigh]
@[simp] theorem State.xdisGrace_ident (s : State) : s.xdisGrace.ident = s.ident := by simp [State.xdisGrace]

/-! ### Position interfaces (Machine/Position.lean) -/

@[simp] theorem State.setPos_ident (s : State) (i : Nat) (p : Pos) : (s.setPos i p).ident = s.ident := by simp [State.setPos]
@[simp] theorem State.cmpFire_ident (s : State) (i t : Nat) : (s.cmpFire i t).ident = s.ident := by simp [State.cmpFire]

@[simp] theorem State.compareWrite_ident (s : State) (i : Nat) (w : Word) : (s.compareWrite i w).ident = s.ident := by
  simp [State.compareWrite]

@[simp] theorem State.setCount_ident (s : State) (i t : Nat) (w : Word) : (s.setCount i t w).ident = s.ident := by simp [State.setCount]

@[simp] theorem State.countStep_ident (s : State) (i t : Nat) (new : Int) (up setsDir : Bool) :
    (s.countStep i t new up setsDir).ident = s.ident := by
  simp [State.countStep]

@[simp] theorem State.countOne_ident (s : State) (i t : Nat) (up setsDir : Bool) : (s.countOne i t up setsDir).ident = s.ident := by
  simp [State.countOne]

@[simp] theorem State.setRaw_ident (s : State) (i t v held : Nat) : (s.setRaw i t v held).ident = s.ident := by simp [State.setRaw]
@[simp] theorem State.setLevels_ident (s : State) (i v : Nat) : (s.setLevels i v).ident = s.ident := by simp [State.setLevels]
@[simp] theorem State.quadError_ident (s : State) (i : Nat) : (s.quadError i).ident = s.ident := by simp [State.quadError]
@[simp] theorem State.hallError_ident (s : State) (i : Nat) : (s.hallError i).ident = s.ident := by simp [State.hallError]
@[simp] theorem State.indexMismatch_ident (s : State) (i : Nat) : (s.indexMismatch i).ident = s.ident := by simp [State.indexMismatch]
@[simp] theorem State.holdCand_ident (s : State) (i : Nat) (c : Word) : (s.holdCand i c).ident = s.ident := by simp [State.holdCand]
@[simp] theorem State.indexEdge_ident (s : State) (i t : Nat) : (s.indexEdge i t).ident = s.ident := by simp [State.indexEdge]

@[simp] theorem State.indexChange_ident (s : State) (i t : Nat) (rising : Bool) (held : Nat) :
    (s.indexChange i t rising held).ident = s.ident := by
  simp [State.indexChange]

@[simp] theorem State.inputChange_ident (s : State) (i t v held : Nat) : (s.inputChange i t v held).ident = s.ident := by
  unfold State.inputChange
  dsimp only
  repeat' split
  all_goals simp

@[simp] theorem State.probeEdge_ident (s : State) (i t : Nat) (rising : Bool) (held : Nat) :
    (s.probeEdge i t rising held).ident = s.ident := by
  simp [State.probeEdge]

@[simp] theorem State.dataPin_ident (s : State) (i t : Nat) (b : Bool) : (s.dataPin i t b).ident = s.ident := by simp [State.dataPin]
@[simp] theorem State.serialStart_ident (s : State) (i t : Nat) : (s.serialStart i t).ident = s.ident := by simp [State.serialStart]

@[simp] theorem State.serialFail_ident (s : State) (i : Nat) (again : Bool) : (s.serialFail i again).ident = s.ident := by
  simp [State.serialFail]

@[simp] theorem State.serialGood_ident (s : State) (i t data : Nat) : (s.serialGood i t data).ident = s.ident := by simp [State.serialGood]

@[simp] theorem State.serialWord_ident (s : State) (i t : Nat) (start : Bool) (data : Nat) (err : Bool) (crc : Nat) :
    (s.serialWord i t start data err crc).ident = s.ident := by
  unfold State.serialWord
  dsimp only
  repeat' split
  all_goals simp

@[simp] theorem State.serialTimeout_ident (s : State) (i : Nat) : (s.serialTimeout i).ident = s.ident := by simp [State.serialTimeout]

@[simp] theorem State.posAct_ident (s : State) (c : Instr) : (s.posAct c).ident = s.ident := by
  unfold State.posAct
  split <;> simp

@[simp] theorem State.takeAhead_ident (s : State) (i : Nat) (l : List Instr) : (s.takeAhead i l).ident = s.ident := by
  simp [State.takeAhead]

@[simp] theorem State.posTake_ident (s : State) (i t : Nat) (c : Instr) : (s.posTake i t c).ident = s.ident := by simp [State.posTake]
@[simp] theorem State.posFollow_ident (s : State) (i : Nat) : (s.posFollow i).ident = s.ident := by simp [State.posFollow]
@[simp] theorem State.posLate_ident (s : State) (i t : Nat) : (s.posLate i t).ident = s.ident := by simp [State.posLate]

@[simp] theorem State.posBefore_ident (s : State) (i t tick : Nat) : (s.posBefore i t tick).ident = s.ident := by
  unfold State.posBefore
  dsimp only
  repeat' split
  all_goals simp

@[simp] theorem State.posAfter_ident (s : State) (i : Nat) : (s.posAfter i).ident = s.ident := by simp [State.posAfter]

/-! ### Flue timing and rings (Machine/Flue.lean) -/

@[simp] theorem State.refreshRingOk_ident (s : State) (ring : Nat) : (s.refreshRingOk ring).ident = s.ident := by simp [State.refreshRingOk]

@[simp] theorem State.useSched_ident (s : State) (k : Nat) : (s.useSched k).ident = s.ident := by
  unfold State.useSched
  dsimp only
  rw [State.foldl_ident _ _ _ fun _ _ => State.setFlag_ident _ _ _]
  simp only [State.ident_mk, State.ident_eta, State.setF_ident]
  refine (State.each_ident _ _ _ fun u i => ?_).trans (State.setF_ident _ _ _)
  split <;> simp

@[simp] theorem State.modeReqWrite_ident (s : State) (v : Word) : (s.modeReqWrite v).ident = s.ident := by simp [State.modeReqWrite]
@[simp] theorem State.syncLost_ident (s : State) : s.syncLost.ident = s.ident := by simp [State.syncLost]
@[simp] theorem State.gotSync_ident (s : State) : s.gotSync.ident = s.ident := by simp [State.gotSync]

@[simp] theorem State.adopt_ident (s : State) (ring hops : Nat) (h : Hdr) (c : Nat) : (s.adopt ring hops h c).ident = s.ident := by
  simp [State.adopt]

@[simp] theorem State.listenTimeout_ident (s : State) (t : Nat) : (s.listenTimeout t).ident = s.ident := by simp [State.listenTimeout]

@[simp] theorem State.coldLimit_ident (s : State) : s.coldLimit.ident = s.ident := by
  unfold State.coldLimit
  split <;> simp

@[simp] theorem State.correct_ident (s : State) (own : Bool) : (s.correct own).ident = s.ident := by simp [State.correct]

@[simp] theorem State.syncCycleEnd_ident (s : State) : s.syncCycleEnd.ident = s.ident := by
  unfold State.syncCycleEnd
  split <;> simp

@[simp] theorem State.rateCorrection_ident (s : State) : s.rateCorrection.ident = s.ident := by simp [State.rateCorrection]
@[simp] theorem State.ppsEdge_ident (s : State) (t : Nat) (rising : Bool) : (s.ppsEdge t rising).ident = s.ident := by simp [State.ppsEdge]
@[simp] theorem State.ppsLost_ident (s : State) : s.ppsLost.ident = s.ident := by simp [State.ppsLost]
@[simp] theorem State.refreshForwarding_ident (s : State) : s.refreshForwarding.ident = s.ident := by simp [State.refreshForwarding]
@[simp] theorem State.receiverLock_ident (s : State) (ring : Nat) : (s.receiverLock ring).ident = s.ident := by simp [State.receiverLock]
@[simp] theorem State.closeBypass_ident (s : State) (ring : Nat) : (s.closeBypass ring).ident = s.ident := by simp [State.closeBypass]
@[simp] theorem State.lockLoss_ident (s : State) (ring errs : Nat) : (s.lockLoss ring errs).ident = s.ident := by simp [State.lockLoss]
@[simp] theorem State.bypassOpen_ident (s : State) (ring : Nat) : (s.bypassOpen ring).ident = s.ident := by simp [State.bypassOpen]
@[simp] theorem State.bypassClose_ident (s : State) (ring : Nat) : (s.bypassClose ring).ident = s.ident := by simp [State.bypassClose]
@[simp] theorem State.vioFault_ident (s : State) (mv : Nat) : (s.vioFault mv).ident = s.ident := by simp [State.vioFault]
@[simp] theorem State.damperDiverge_ident (s : State) (ns : Nat) : (s.damperDiverge ns).ident = s.ident := by simp [State.damperDiverge]

/-! ### Safety channels (Machine/SafetyData.lean) -/

@[simp] theorem State.refreshSafTx_ident (s : State) : s.refreshSafTx.ident = s.ident := by
  unfold State.refreshSafTx
  refine State.each_ident _ _ _ fun u x => ?_
  split <;> simp

@[simp] theorem State.setSafCh_ident (s : State) (r : Nat) (x : SafCh) : (s.setSafCh r x).ident = s.ident := by simp [State.setSafCh]

@[simp] theorem State.safReceive_ident (s : State) (r : Nat) : (s.safReceive r).ident = s.ident := by
  unfold State.safReceive
  split
  · rfl
  · dsimp only
    split <;> simp only [State.event_ident, State.incF_ident, State.when_ident, State.setReg_ident, State.setF_ident, State.setFlag_ident,
      State.setSafCh_ident]

@[simp] theorem State.safRaise_ident (s : State) (n : Nat) : (s.safRaise n).ident = s.ident := by
  unfold State.safRaise
  split <;> simp

@[simp] theorem State.slsCommit_ident (s : State) (c : BlkIn) (outs : List (Word × Bool)) (st : List Word) :
    (s.slsCommit c outs st).ident = s.ident := by
  simp [State.slsCommit]

@[simp] theorem State.slpCommit_ident (s : State) (c : BlkIn) (outs : List (Word × Bool)) (st : List Word) :
    (s.slpCommit c outs st).ident = s.ident := by
  simp [State.slpCommit]

@[simp] theorem State.pulseCommit_ident (s : State) (c : BlkIn) (outs : List (Word × Bool)) (st : List Word) :
    (s.pulseCommit c outs st).ident = s.ident := by
  simp [State.pulseCommit]

@[simp] theorem State.ringCompareCommit_ident (s : State) (c : BlkIn) (outs : List (Word × Bool)) :
    (s.ringCompareCommit c outs).ident = s.ident := by
  simp [State.ringCompareCommit]

@[simp] theorem State.unCount_ident (s : State) (a : Nat) : (s.unCount a).ident = s.ident := by simp [State.unCount]

@[simp] theorem State.safUndo_ident (s : State) (c : BlkIn) (v : Saved) : (s.safUndo c v).ident = s.ident := by
  unfold State.safUndo
  split <;> simp

@[simp] theorem State.safCommit_ident (s : State) (c : BlkIn) (outs : List (Word × Bool)) (st : List Word) (raises : List Nat) :
    (s.safCommit c outs st raises).ident = s.ident := by
  unfold State.safCommit
  split <;> simp

@[simp] theorem State.safTick_ident (s : State) : s.safTick.ident = s.ident := by simp [State.safTick]
@[simp] theorem State.pulseNext_ident (s : State) : s.pulseNext.ident = s.ident := by simp [State.pulseNext]

/-! ### Section actuation (Machine/Section.lean) -/

@[simp] theorem State.setPt_ident (s : State) (p : Nat) (x : PointRun) : (s.setPt p x).ident = s.ident := by simp [State.setPt]
@[simp] theorem State.poseCommit_ident (s : State) (valid : Nat) : (s.poseCommit valid).ident = s.ident := by simp [State.poseCommit]
@[simp] theorem State.crossCommit_ident (s : State) (c : BlkIn) : (s.crossCommit c).ident = s.ident := by simp [State.crossCommit]
@[simp] theorem State.rasterCommit_ident (s : State) (n : Nat) : (s.rasterCommit n).ident = s.ident := by simp [State.rasterCommit]
@[simp] theorem State.pwmCommit_ident (s : State) (c : BlkIn) : (s.pwmCommit c).ident = s.ident := by simp [State.pwmCommit]
@[simp] theorem State.turnCommit_ident (s : State) (c : BlkIn) : (s.turnCommit c).ident = s.ident := by simp [State.turnCommit]

@[simp] theorem State.secCommit_ident (s : State) (c : BlkIn) (outs : List (Word × Bool)) : (s.secCommit c outs).ident = s.ident := by
  unfold State.secCommit
  split <;> simp

@[simp] theorem State.secUndo_ident (s : State) (ty : Nat) (v : Saved) : (s.secUndo ty v).ident = s.ident := by
  unfold State.secUndo
  repeat' split
  all_goals simp

@[simp] theorem State.refreshOn_ident (s : State) : s.refreshOn.ident = s.ident := by simp [State.refreshOn]

@[simp] theorem State.secQueue_ident (s : State) (e : SecEntry) (old : Option PtCmd) : (s.secQueue e old).ident = s.ident := by
  unfold State.secQueue
  dsimp only
  repeat' split
  all_goals simp

@[simp] theorem State.emit_ident (s : State) (p e : Nat) (q : PtCmd) : (s.emit p e q).ident = s.ident := by simp [State.emit]

@[simp] theorem State.pointEnd_ident (s : State) (p e : Nat) : (s.pointEnd p e).ident = s.ident := by
  unfold State.pointEnd
  dsimp only
  repeat' split
  all_goals simp

@[simp] theorem State.pointCmdEnd_ident (s : State) (c : BlkIn) (e : Nat) : (s.pointCmdEnd c e).ident = s.ident := by
  simp only [State.pointCmdEnd, State.refreshOn_ident]
  rw [State.each_ident _ _ _ (by simp), State.when_ident]
  refine State.each_ident _ _ _ fun u p => ?_
  repeat' split
  all_goals simp

@[simp] theorem State.dutyEnd_ident (s : State) (p e : Nat) : (s.dutyEnd p e).ident = s.ident := by
  unfold State.dutyEnd
  dsimp only
  repeat' split
  all_goals simp

@[simp] theorem State.coverageEnd_ident (s : State) (e0 e : Nat) : (s.coverageEnd e0 e).ident = s.ident := by simp [State.coverageEnd]
@[simp] theorem State.spotAgeEnd_ident (s : State) (hold : Nat) : (s.spotAgeEnd hold).ident = s.ident := by simp [State.spotAgeEnd]

@[simp] theorem State.secEnd_ident (s : State) (c : BlkIn) (e0 e : Nat) : (s.secEnd c e0 e).ident = s.ident := by
  unfold State.secEnd
  split <;> simp

@[simp] theorem State.secTick_ident (s : State) (now : Nat) : (s.secTick now).ident = s.ident := by
  unfold State.secTick
  refine State.foldl_ident _ _ _ fun u p => ?_
  repeat' split
  all_goals simp

@[simp] theorem State.sectionTimeout_ident (s : State) : s.sectionTimeout.ident = s.ident := by simp [State.sectionTimeout]

/-! ### Block graph (Machine/Graph.lean) -/

@[simp] theorem State.bankSwap_ident (s : State) (i : Nat) : (s.bankSwap i).ident = s.ident := by
  unfold State.bankSwap
  dsimp only
  repeat' split
  all_goals simp

@[simp] theorem State.hobTake_ident (s : State) (hob : Nat) (steal : Bool) : (s.hobTake hob steal).ident = s.ident := by
  unfold State.hobTake
  repeat' split
  all_goals simp

@[simp] theorem State.hobDispatch_ident (s : State) (hob : Nat) : (s.hobDispatch hob).ident = s.ident := by simp [State.hobDispatch]

@[simp] theorem State.blockStage_ident (s : State) (hob : Nat) (upset : List Word) (tiles : List Nat) :
    (s.blockStage hob upset tiles).ident = s.ident := by
  unfold State.blockStage
  repeat' split
  all_goals simp

@[simp] theorem State.refreshStale_ident (s : State) : s.refreshStale.ident = s.ident := by simp [State.refreshStale]

@[simp] theorem State.lawCommit_ident (s : State) (i : Nat) (w : Staged) : (s.lawCommit i w).ident = s.ident := by
  unfold State.lawCommit
  repeat' split
  all_goals simp

@[simp] theorem State.lawShow_ident (s : State) (i : Nat) : (s.lawShow i).ident = s.ident := by
  unfold State.lawShow
  split <;> simp

@[simp] theorem State.lawUnheld_ident (s : State) (i : Nat) : (s.lawUnheld i).ident = s.ident := by
  unfold State.lawUnheld
  split <;> simp

@[simp] theorem State.commitUndo_ident (s : State) (i : Nat) (v : Saved) : (s.commitUndo i v).ident = s.ident := by
  simp only [State.commitUndo, State.safUndo_ident, State.secUndo_ident]
  rw [State.when_ident _ _ _ (by simp), State.when_ident]
  · simp
  · split <;> simp

@[simp] theorem State.commitOut_ident (s : State) (k : Nat) (v : Word) (age : Bool) : (s.commitOut k v age).ident = s.ident := by
  simp [State.commitOut]

@[simp] theorem State.commitShows_ident (s : State) (i : Nat) (c : BlkIn) (w : Staged) : (s.commitShows i c w).ident = s.ident := by
  simp [State.commitShows]

@[simp] theorem State.commitRaises_ident (s : State) (w : Staged) : (s.commitRaises w).ident = s.ident := by simp [State.commitRaises]

@[simp] theorem State.commit_ident (s : State) (i slack wait : Nat) : (s.commit i slack wait).ident = s.ident := by
  unfold State.commit
  dsimp only
  repeat' split
  all_goals simp only [State.commitOut_ident, State.setInst_ident, State.lawCommit_ident, State.incF_ident, State.commitShows_ident,
    State.secCommit_ident, State.peakF_ident, State.transient_ident, State.commitRaises_ident, State.refreshQueues_ident,
    State.refreshStale_ident, State.ident_mk, State.ident_eta, State.when_ident, State.each_ident, implies_true]

@[simp] theorem State.commitDue_ident (s : State) (i slack wait : Nat) : (s.commitDue i slack wait).ident = s.ident := by
  simp [State.commitDue]

@[simp] theorem State.ageOuts_ident (s : State) (i : Nat) (back : Bool) : (s.ageOuts i back).ident = s.ident := by simp [State.ageOuts]

@[simp] theorem State.dropSample_ident (s : State) (i : Nat) (as : Sample) : (s.dropSample i as).ident = s.ident := by
  unfold State.dropSample
  dsimp only
  repeat' split
  all_goals simp

@[simp] theorem State.missRecord_ident (s : State) (r : Nat) (l : List Nat) : (s.missRecord r l).ident = s.ident := by
  unfold State.missRecord
  split <;> simp

@[simp] theorem State.missClass_ident (s : State) (r : Nat) : (s.missClass r).ident = s.ident := by simp [State.missClass]
@[simp] theorem State.deadlineMiss_ident (s : State) (k : Nat) : (s.deadlineMiss k).ident = s.ident := by simp [State.deadlineMiss]
@[simp] theorem State.solWrite_ident (s : State) (k : Nat) (w : Word) : (s.solWrite k w).ident = s.ident := by simp [State.solWrite]
@[simp] theorem State.valvePair_ident (s : State) : s.valvePair.ident = s.ident := by simp [State.valvePair]

@[simp] theorem State.enableWrite_ident (s : State) (e : Nat) (w : Word) : (s.enableWrite e w).ident = s.ident := by
  simp [State.enableWrite]

@[simp] theorem State.flueTx_ident (s : State) (i slot off : Nat) (words : List Word) : (s.flueTx i slot off words).ident = s.ident := by
  simp [State.flueTx]

@[simp] theorem State.faultBlock_ident (s : State) (i src : Nat) (zero aged : Bool) : (s.faultBlock i src zero aged).ident = s.ident := by
  simp [State.faultBlock]

@[simp] theorem State.effect_ident (s : State) (e0 e i : Nat) : (s.effect e0 e i).ident = s.ident := by
  unfold State.effect
  dsimp only
  repeat' split
  all_goals simp

@[simp] theorem State.slotClose_ident (s : State) (r : Nat) : (s.slotClose r).ident = s.ident := by
  unfold State.slotClose
  split <;> simp

@[simp] theorem State.slotsEnd_ident (s : State) (rs : List Nat) : (s.slotsEnd rs).ident = s.ident := by simp [State.slotsEnd]

@[simp] theorem State.applyEdits_ident (s : State) (i : Nat) : (s.applyEdits i).ident = s.ident := by
  unfold State.applyEdits
  dsimp only
  repeat' split
  all_goals simp

@[simp] theorem State.slotStart_ident (s : State) (r : Nat) : (s.slotStart r).ident = s.ident := by simp [State.slotStart]
@[simp] theorem State.markSkipped_ident (s : State) : s.markSkipped.ident = s.ident := by simp [State.markSkipped]

/-! ### Comparators and lanes (Machine/Compare.lean) -/

@[simp] theorem State.laneMismatch_ident (s : State) (k i : Nat) (copyB : Bool) : (s.laneMismatch k i copyB).ident = s.ident := by
  simp [State.laneMismatch]

@[simp] theorem State.setRetries_ident (s : State) (k : Nat) (l : List Nat) : (s.setRetries k l).ident = s.ident := by
  simp [State.setRetries]

@[simp] theorem State.withheld_ident (s : State) (k : Nat) : (s.withheld k).ident = s.ident := by
  simp only [State.withheld, State.refreshPower_ident, State.ident_mk, State.ident_eta, State.when_ident]

@[simp] theorem State.setFifo_ident (s : State) (k : Nat) (fifo : List (Bool × BusWrite)) : (s.setFifo k fifo).ident = s.ident := by
  simp [State.setFifo]

@[simp] theorem State.dropTag_ident (s : State) (k tag : Nat) : (s.dropTag k tag).ident = s.ident := by simp [State.dropTag]
@[simp] theorem State.southWord_ident (s : State) (src : Nat) (v : Word) : (s.southWord src v).ident = s.ident := by simp [State.southWord]

@[simp] theorem State.rewriteMismatch_ident (s : State) (k tag : Nat) (data : List BusWrite) :
    (s.rewriteMismatch k tag data).ident = s.ident := by
  unfold State.rewriteMismatch
  split <;> simp

@[simp] theorem State.pairVerdict_ident (s : State) (k tag : Nat) (pass : Bool) : (s.pairVerdict k tag pass).ident = s.ident := by
  unfold State.pairVerdict
  split <;> simp

@[simp] theorem State.mismatch_ident (s : State) (k tag : Nat) (copyB : Bool) (data : List BusWrite) :
    (s.mismatch k tag copyB data).ident = s.ident := by
  simp [State.mismatch]

@[simp] theorem State.retireLane_ident (s : State) (k : Nat) : (s.retireLane k).ident = s.ident := by simp [State.retireLane]

@[simp] theorem State.verdictDisagree_ident (s : State) (k : Nat) (pairDiffers : Bool) :
    (s.verdictDisagree k pairDiffers).ident = s.ident := by
  simp [State.verdictDisagree]

@[simp] theorem State.resetInst_ident (s : State) (i : Nat) : (s.resetInst i).ident = s.ident := by simp [State.resetInst]

@[simp] theorem State.restoreState_ident (s : State) (homed : List Nat) : (s.restoreState homed).ident = s.ident := by
  simp [State.restoreState]

@[simp] theorem State.useSpare_ident (s : State) (tile : Nat) : (s.useSpare tile).ident = s.ident := by
  unfold State.useSpare
  dsimp only
  repeat' split
  all_goals simp

@[simp] theorem State.clearTile_ident (s : State) (tile : Nat) : (s.clearTile tile).ident = s.ident := by
  simp only [State.clearTile, State.ident_mk, State.ident_eta]

@[simp] theorem State.copyPartner_ident (s : State) (tile : Nat) : (s.copyPartner tile).ident = s.ident := by simp [State.copyPartner]
@[simp] theorem State.repeatStep_ident (s : State) (south : Bool) : (s.repeatStep south).ident = s.ident := by simp [State.repeatStep]

@[simp] theorem State.canLost_ident (s : State) (n : Nat) : (s.canLost n).ident = s.ident := by
  unfold State.canLost
  split <;> simp

@[simp] theorem State.ethLost_ident (s : State) (p : Nat) : (s.ethLost p).ident = s.ident := by
  unfold State.ethLost
  split <;> simp

@[simp] theorem State.buffersLost_ident (s : State) (l : List Nat) : (s.buffersLost l).ident = s.ident := by simp [State.buffersLost]

@[simp] theorem State.mapTileLost_ident (s : State) (slot : Nat) (gone : Bool) : (s.mapTileLost slot gone).ident = s.ident := by
  unfold State.mapTileLost
  split <;> simp

@[simp] theorem State.repairTile_ident (s : State) (tile : Nat) (homed : List Nat) : (s.repairTile tile homed).ident = s.ident := by
  unfold State.repairTile
  dsimp only
  repeat' split
  all_goals simp

@[simp] theorem State.verifyEvent_ident (s : State) (tile : Nat) (hob : Option Nat) : (s.verifyEvent tile hob).ident = s.ident := by
  unfold State.verifyEvent
  dsimp only
  repeat' split
  all_goals simp

@[simp] theorem State.tileVerify_ident (s : State) (tile : Nat) (pass1 pass2 : Bool) (hob : Option Nat) (homed : List Nat) :
    (s.tileVerify tile pass1 pass2 hob homed).ident = s.ident := by
  simp [State.tileVerify]

/-! ### Ageing and derating (Machine/Ageing.lean) -/

@[simp] theorem State.rollStart_ident (s : State) : s.rollStart.ident = s.ident := by
  unfold State.rollStart
  split <;> simp

@[simp] theorem State.rollTested_ident (s : State) (n : Nat) : (s.rollTested n).ident = s.ident := by simp [State.rollTested]
@[simp] theorem State.rollLasting_ident (s : State) (n : Nat) : (s.rollLasting n).ident = s.ident := by simp [State.rollLasting]

@[simp] theorem State.rollEnd_ident (s : State) (h : Nat) (pass1 pass2 : Bool) : (s.rollEnd h pass1 pass2).ident = s.ident := by
  simp [State.rollEnd]

@[simp] theorem State.setBudget_ident (s : State) (m b : Nat) : (s.setBudget m b).ident = s.ident := by simp [State.setBudget]

@[simp] theorem State.roTake_ident (s : State) (ro : List Nat) : (s.roTake ro).ident = s.ident := by
  unfold State.roTake
  dsimp only
  repeat' split
  all_goals simp

@[simp] theorem State.setTrim_ident (s : State) (h : Nat) (t : Int) : (s.setTrim h t).ident = s.ident := by simp [State.setTrim]
@[simp] theorem State.setStep_ident (s : State) (step : Nat) : (s.setStep step).ident = s.ident := by simp [State.setStep]
@[simp] theorem State.derated_ident (s : State) : s.derated.ident = s.ident := by simp [State.derated]
@[simp] theorem State.exhaust_ident (s : State) : s.exhaust.ident = s.ident := by simp [State.exhaust]

@[simp] theorem State.derateTrim_ident (s : State) (h : Nat) : (s.derateTrim h).ident = s.ident := by
  simp only [State.derateTrim, State.derated_ident, State.incF_ident, State.setTrim_ident, State.ident_mk, State.ident_eta]

@[simp] theorem State.derateClock_ident (s : State) : s.derateClock.ident = s.ident := by simp [State.derateClock]
@[simp] theorem State.clockMargin_ident (s : State) (ro : List Nat) : (s.clockMargin ro).ident = s.ident := by simp [State.clockMargin]

@[simp] theorem State.boardMargin_ident (s : State) (m first : Nat) (rises : List Int) : (s.boardMargin m first rises).ident = s.ident := by
  unfold State.boardMargin
  repeat' split
  all_goals simp

@[simp] theorem State.shuntDrift_ident (s : State) : s.shuntDrift.ident = s.ident := by simp [State.shuntDrift]

@[simp] theorem State.fetTake_ident (s : State) (b : Nat) (rds : List (Option Nat)) : (s.fetTake b rds).ident = s.ident := by
  simp [State.fetTake]

@[simp] theorem State.fetMeasure_ident (s : State) (b : Nat) (fets : List (Option (Nat × Int))) :
    (s.fetMeasure b fets).ident = s.ident := by
  simp [State.fetMeasure]

@[simp] theorem State.ageBases_ident (s : State) : s.ageBases.ident = s.ident := by simp [State.ageBases]
@[simp] theorem State.crystalDrift_ident (s : State) (dev : Int) : (s.crystalDrift dev).ident = s.ident := by simp [State.crystalDrift]

/-! ### Ash record (Machine/Ash.lean) -/

@[simp] theorem State.mramWrite_ident (s : State) (a : Nat) (bs : List Byte) : (s.mramWrite a bs).ident = s.ident := by
  simp [State.mramWrite]

@[simp] theorem State.setTail_ident (s : State) (a : Nat) : (s.setTail a).ident = s.ident := by simp [State.setTail]
@[simp] theorem State.windowDone_ident (s : State) : s.windowDone.ident = s.ident := by simp [State.windowDone]

@[simp] theorem State.ashGone_ident (s : State) (r : AshReq) : (s.ashGone r).ident = s.ident := by
  simp only [State.ashGone, State.windowDone_ident, State.setFlag_ident, State.ident_mk, State.ident_eta, State.ite_ident, ite_self,
    State.when_ident]

@[simp] theorem State.ashFail_ident (s : State) : s.ashFail.ident = s.ident := by simp [State.ashFail]

@[simp] theorem State.ashCommitted_ident (s : State) (r : AshReq) (a seq us : Nat) : (s.ashCommitted r a seq us).ident = s.ident := by
  simp only [State.ashCommitted, State.setTail_ident, State.mramWrite_ident, State.incF_ident, State.setF_ident, State.setReg_ident,
    State.pushLog_ident, State.windowDone_ident, State.ident_mk, State.ident_eta, State.ite_ident, ite_self, State.when_ident]

@[simp] theorem State.ashAppend_ident (s : State) (ok1 ok2 : Bool) (us : Nat) : (s.ashAppend ok1 ok2 us).ident = s.ident := by
  unfold State.ashAppend
  split <;> simp

@[simp] theorem State.ashTear_ident (s : State) : s.ashTear.ident = s.ident := by
  unfold State.ashTear
  split <;> simp

/-! ### Commands of the fault collector (Machine/FaultCommands.lean) -/

@[simp] theorem State.faultRaise_ident (s : State) (source : Nat) (lasting : Bool) (us : Nat) :
    (s.faultRaise source lasting us).ident = s.ident := by
  simp [State.faultRaise]

@[simp] theorem State.wireFault_ident (s : State) (source : Nat) (disagrees : Bool) : (s.wireFault source disagrees).ident = s.ident := by
  simp [State.wireFault]

@[simp] theorem State.forceOne_ident (s : State) (n : Nat) : (s.forceOne n).ident = s.ident := by simp [State.forceOne]
@[simp] theorem State.fltForce_ident (s : State) (w mask : Nat) : (s.fltForce w mask).ident = s.ident := by simp [State.fltForce]

@[simp] theorem State.forcePulseEnd_ident (s : State) (n : Nat) (real : Bool) : (s.forcePulseEnd n real).ident = s.ident := by
  simp [State.forcePulseEnd]

/-! ### Journal and replay (Machine/Journal.lean) -/

@[simp] theorem State.carryPut_ident (s : State) (c : Carry) (x : Word × Bool) : (s.carryPut c x).ident = s.ident := by
  unfold State.carryPut
  split <;> simp

@[simp] theorem State.ringWrite_ident (s : State) (off : Nat) (bs : List Byte) : (s.ringWrite off bs).ident = s.ident := by
  simp [State.ringWrite]

@[simp] theorem State.refreshRing_ident (s : State) (head : Nat) : (s.refreshRing head).ident = s.ident := by simp [State.refreshRing]

@[simp] theorem State.ringPush_ident (s : State) (ckpt : Bool) (sc : Nat) (bs : List Byte) : (s.ringPush ckpt sc bs).ident = s.ident := by
  simp [State.ringPush]

@[simp] theorem State.checkpoint_ident (s : State) (sc : Nat) : (s.checkpoint sc).ident = s.ident := by simp [State.checkpoint]

@[simp] theorem State.checkpointDue_ident (s : State) : s.checkpointDue.ident = s.ident := by
  unfold State.checkpointDue
  split <;> simp

@[simp] theorem State.freshWords_ident (s : State) (n : Nat) : (s.freshWords n).2.ident = s.ident := by
  induction n generalizing s with
  | zero => rfl
  | succ n ih => simp [State.freshWords, ih]

@[simp] theorem State.journalEntry_ident (s : State) (sc : Nat) : (s.journalEntry sc).ident = s.ident := by
  simp only [State.journalEntry, State.freshWords_ident, State.incF_ident, State.ringPush_ident, State.addF_ident, State.event_ident,
    State.ident_mk, State.ident_eta, State.ite_ident, State.ite_snd_ident, ite_self, State.when_ident]

@[simp] theorem State.journalStart_ident (s : State) : s.journalStart.ident = s.ident := by
  unfold State.journalStart
  split <;> simp

@[simp] theorem State.freeze_ident (s : State) : s.freeze.ident = s.ident := by simp [State.freeze]
@[simp] theorem State.journalFreeze_ident (s : State) : s.journalFreeze.ident = s.ident := by simp [State.journalFreeze]
@[simp] theorem State.holdupCheck_ident (s : State) (mv : Nat) : (s.holdupCheck mv).ident = s.ident := by simp [State.holdupCheck]

@[simp] theorem State.powerFail_ident (s : State) : s.powerFail.ident = s.ident := by
  unfold State.powerFail
  dsimp only
  repeat' split
  all_goals simp only [State.logTrigger_ident, State.freeze_ident, State.event_ident, State.incF_ident, State.setF_ident,
    State.setFlag_ident, State.ashTear_ident, State.ident_mk, State.ident_eta, State.when_ident]

@[simp] theorem State.vsupLoss_ident (s : State) : s.vsupLoss.ident = s.ident := by simp [State.vsupLoss]

@[simp] theorem State.holdupRelease_ident (s : State) : s.holdupRelease.ident = s.ident := by
  simp only [State.holdupRelease, State.setFlag_ident, State.ashTear_ident, State.putVote_ident, State.ident_mk, State.ident_eta,
    State.ite_ident, ite_self, State.each_ident, implies_true]

@[simp] theorem State.poolWrite_ident (s : State) : s.poolWrite.ident = s.ident := by simp [State.poolWrite]
@[simp] theorem State.loadRing_ident (s : State) (body : List Byte) : (s.loadRing body).ident = s.ident := by simp [State.loadRing]

@[simp] theorem State.placeCheckpoint_ident (s : State) (bs : List Byte) : (s.placeCheckpoint bs).ident = s.ident := by
  simp [State.placeCheckpoint]

@[simp] theorem State.replayResult_ident (s : State) (r : Nat) : (s.replayResult r).ident = s.ident := by simp [State.replayResult]

@[simp] theorem State.replayStart_ident (s : State) (body : List Byte) : (s.replayStart body).ident = s.ident := by
  unfold State.replayStart
  dsimp only
  repeat' split
  all_goals simp

@[simp] theorem State.jrnReplayCmd_ident (s : State) (key : Nat) : (s.jrnReplayCmd key).ident = s.ident := by
  unfold State.jrnReplayCmd
  repeat' split
  all_goals simp

@[simp] theorem State.replayDiffers_ident (s : State) (ckpt : Bool) (sc own rec : Nat) :
    (s.replayDiffers ckpt sc own rec).ident = s.ident := by
  simp [State.replayDiffers]

@[simp] theorem State.replayCompare_ident (s : State) (sc : Nat) : (s.replayCompare sc).ident = s.ident := by simp [State.replayCompare]

@[simp] theorem State.replayCheckpoint_ident (s : State) (bs : List Byte) : (s.replayCheckpoint bs).ident = s.ident := by
  simp [State.replayCheckpoint]

@[simp] theorem State.replayEnd_ident (s : State) (r : Nat) : (s.replayEnd r).ident = s.ident := by simp [State.replayEnd]

@[simp] theorem State.replayNext_ident (s : State) (prev : Nat) : (s.replayNext prev).ident = s.ident := by
  unfold State.replayNext
  dsimp only
  repeat' split
  all_goals simp

@[simp] theorem State.memberPut_ident (s : State) (m : Member) (x : Word × Bool) : (s.memberPut m x).ident = s.ident := by
  unfold State.memberPut
  split <;> simp

@[simp] theorem State.replayTick_ident (s : State) (j : Nat) : (s.replayTick j).ident = s.ident := by simp [State.replayTick]
@[simp] theorem State.sampleSets_ident (s : State) (j : Nat) : (s.sampleSets j).ident = s.ident := by simp [State.sampleSets]
@[simp] theorem State.readSets_ident (s : State) : s.readSets.ident = s.ident := by simp [State.readSets]
@[simp] theorem State.sampleTaps_ident (s : State) : s.sampleTaps.ident = s.ident := by simp [State.sampleTaps]

/-! ### Supplies, clocks and wake-up (Machine/Power.lean) -/

@[simp] theorem State.rtcRun_ident (s : State) (n : Nat) : (s.rtcRun n).ident = s.ident := by simp [State.rtcRun]
@[simp] theorem State.armAlarm_ident (s : State) : s.armAlarm.ident = s.ident := by simp [State.armAlarm]
@[simp] theorem State.snapshot_ident (s : State) : s.snapshot.ident = s.ident := by simp [State.snapshot]
@[simp] theorem State.snapshotDue_ident (s : State) (elapsed : Nat) : (s.snapshotDue elapsed).ident = s.ident := by simp [State.snapshotDue]
@[simp] theorem State.wakeTime_ident (s : State) (valid : Bool) : (s.wakeTime valid).ident = s.ident := by simp [State.wakeTime]
@[simp] theorem State.vsupValid_ident (s : State) (elapsed : Nat) : (s.vsupValid elapsed).ident = s.ident := by simp [State.vsupValid]
@[simp] theorem State.pinReset_ident (s : State) (same : Bool) : (s.pinReset same).ident = s.ident := by simp [State.pinReset]

@[simp] theorem State.coreUnderVoltage_ident (s : State) (same : Bool) : (s.coreUnderVoltage same).ident = s.ident := by
  simp [State.coreUnderVoltage]

@[simp] theorem State.dormantRelease_ident (s : State) (elapsed : Nat) (alarmFires : Bool) :
    (s.dormantRelease elapsed alarmFires).ident = s.ident := by
  simp [State.dormantRelease]

@[simp] theorem State.rtcAlarm_ident (s : State) (elapsed : Nat) : (s.rtcAlarm elapsed).ident = s.ident := by simp [State.rtcAlarm]
@[simp] theorem State.wakeTimeout_ident (s : State) (elapsed : Nat) : (s.wakeTimeout elapsed).ident = s.ident := by simp [State.wakeTimeout]
@[simp] theorem State.vbatLoss_ident (s : State) : s.vbatLoss.ident = s.ident := by simp [State.vbatLoss]
@[simp] theorem State.vbatApplied_ident (s : State) : s.vbatApplied.ident = s.ident := by simp [State.vbatApplied]
@[simp] theorem State.xt32Fail_ident (s : State) (elapsed : Nat) : (s.xt32Fail elapsed).ident = s.ident := by simp [State.xt32Fail]
@[simp] theorem State.xt32Return_ident (s : State) (elapsed : Nat) : (s.xt32Return elapsed).ident = s.ident := by simp [State.xt32Return]

@[simp] theorem State.pllLoss_ident (s : State) (half : Nat) (lock : Bool) (count : Nat) : (s.pllLoss half lock count).ident = s.ident := by
  simp [State.pllLoss]

@[simp] theorem State.xt25Fail_ident (s : State) (count : Nat) : (s.xt25Fail count).ident = s.ident := by simp [State.xt25Fail]
@[simp] theorem State.vsupUv_ident (s : State) : s.vsupUv.ident = s.ident := by simp [State.vsupUv]
@[simp] theorem State.vsupOv_ident (s : State) : s.vsupOv.ident = s.ident := by simp [State.vsupOv]
@[simp] theorem State.vgdFault_ident (s : State) : s.vgdFault.ident = s.ident := by simp [State.vgdFault]
@[simp] theorem State.vbatLow_ident (s : State) : s.vbatLow.ident = s.ident := by simp [State.vbatLow]
@[simp] theorem State.supplyClear_ident (s : State) (source : Nat) : (s.supplyClear source).ident = s.ident := by simp [State.supplyClear]
@[simp] theorem State.tempOne_ident (s : State) (t v : Nat) : (s.tempOne t v).ident = s.ident := by simp [State.tempOne]
@[simp] theorem State.tempConverts_ident (s : State) : s.tempConverts.ident = s.ident := by simp [State.tempConverts]

@[simp] theorem State.tempConversion_ident (s : State) (north south power : Nat) :
    (s.tempConversion north south power).ident = s.ident := by
  simp [State.tempConversion]

@[simp] theorem State.domGone_ident (s : State) (d : Nat) : (s.domGone d).ident = s.ident := by
  unfold State.domGone
  split <;> simp

@[simp] theorem State.domLost_ident (s : State) (d : Nat) : (s.domLost d).ident = s.ident := by simp [State.domLost]

@[simp] theorem State.domUp_ident (s : State) (fails : List (Nat × Nat × Bool)) (d : Nat) : (s.domUp fails d).ident = s.ident := by
  unfold State.domUp
  split <;> simp

@[simp] theorem State.domTimeout_ident (s : State) (d : Nat) : (s.domTimeout d).ident = s.ident := by simp [State.domTimeout]

/-! ### Lead and shadow (Machine/Lead.lean) -/

@[simp] theorem State.logHandover_ident (s : State) (cause old new gap : Nat) : (s.logHandover cause old new gap).ident = s.ident := by
  unfold State.logHandover
  split <;> simp

@[simp] theorem State.clearAligned_ident (s : State) : s.clearAligned.ident = s.ident := by simp [State.clearAligned]

@[simp] theorem State.depose_ident (s : State) : s.depose.ident = s.ident := by
  simp only [State.depose, State.incF_ident, State.clearAligned_ident, State.event_ident, State.enterMode_ident, State.requestMode_ident,
    State.ident_mk, State.ident_eta, State.ite_ident, ite_self, State.when_ident]

@[simp] theorem State.engageDue_ident (s : State) : s.engageDue.ident = s.ident := by
  unfold State.engageDue
  split <;> simp

@[simp] theorem State.silence_ident (s : State) : s.silence.ident = s.ident := by
  unfold State.silence
  split <;> simp

@[simp] theorem State.isolatedAct_ident (s : State) : s.isolatedAct.ident = s.ident := by simp [State.isolatedAct]
@[simp] theorem State.isolation_ident (s : State) : s.isolation.ident = s.ident := by simp [State.isolation]

@[simp] theorem State.faultCount_ident (s : State) : s.faultCount.ident = s.ident := by
  unfold State.faultCount
  dsimp only
  repeat' split
  all_goals simp only [State.setFlag_ident, State.event_ident, State.addF_ident, State.incF_ident, State.setF_ident,
    State.requestMode_ident, State.ident_mk, State.ident_eta, State.when_ident]

@[simp] theorem State.spStatic_ident (s : State) : s.spStatic.ident = s.ident := by
  unfold State.spStatic
  refine State.each_ident _ _ _ fun u slot => ?_
  dsimp only
  split
  · split_ifs <;> simp
  all_goals simp

@[simp] theorem State.staticEnd_ident (s : State) : s.staticEnd.ident = s.ident := by simp [State.staticEnd]
@[simp] theorem State.election_ident (s : State) : s.election.ident = s.ident := by simp [State.election]
@[simp] theorem State.joinTimeout_ident (s : State) : s.joinTimeout.ident = s.ident := by simp [State.joinTimeout]
@[simp] theorem State.handoverTimeout_ident (s : State) : s.handoverTimeout.ident = s.ident := by simp [State.handoverTimeout]
@[simp] theorem State.isolateLimp_ident (s : State) : s.isolateLimp.ident = s.ident := by simp [State.isolateLimp]
@[simp] theorem State.graceExpiry_ident (s : State) : s.graceExpiry.ident = s.ident := by simp [State.graceExpiry]
@[simp] theorem State.standstillHold_ident (s : State) : s.standstillHold.ident = s.ident := by simp [State.standstillHold]

/-! ### Flue frames (Machine/FlueFrames.lean) -/

@[simp] theorem State.releaseHandover_ident (s : State) (id : Nat) : (s.releaseHandover id).ident = s.ident := by
  simp [State.releaseHandover]

@[simp] theorem State.leadConflict_ident (s : State) (id : Nat) : (s.leadConflict id).ident = s.ident := by simp [State.leadConflict]

@[simp] theorem State.takeBack_ident (s : State) (b : Nat) (insts : List InstRun) (sigs : List SigRun) :
    (s.takeBack b insts sigs).ident = s.ident := by
  simp only [State.takeBack, State.ident_mk, State.ident_eta]
  refine State.each_ident _ _ _ fun u r => ?_
  rw [State.addF_ident]
  refine State.each_ident _ _ _ fun w i => ?_
  rw [State.lawShow_ident, State.each_ident _ _ _ fun _ _ => State.setSig_ident _ _ _, State.setInst_ident]

@[simp] theorem State.newLead_ident (s : State) (f : ChFrame) : (s.newLead f).ident = s.ident := by
  simp only [State.newLead]
  split
  · rfl
  · split
    · split
      · split_ifs <;> simp only [State.logHandover_ident, State.markSkipped_ident, State.takeBack_ident, State.ident_mk, State.ident_eta]
      · simp only [State.logHandover_ident, State.markSkipped_ident, State.ident_mk, State.ident_eta]
    · simp only [State.logHandover_ident, State.ident_mk, State.ident_eta]

@[simp] theorem State.channelFrame_ident (s : State) (ring : Nat) (f : ChFrame) : (s.channelFrame ring f).ident = s.ident := by
  simp [State.channelFrame]

@[simp] theorem State.boomFrame_ident (s : State) (n : Nat) (p : List Byte) : (s.boomFrame n p).ident = s.ident := by simp [State.boomFrame]

@[simp] theorem State.deliver_ident (s : State) (f : RxFrame) : (s.deliver f).ident = s.ident := by
  unfold State.deliver
  dsimp only
  repeat' split
  all_goals simp

@[simp] theorem State.reject_ident (s : State) (f : RawFrame) (h : Hdr) (reason : Nat) : (s.reject f h reason).ident = s.ident := by
  simp [State.reject]

@[simp] theorem State.syncSchedCheck_ident (s : State) (h : Hdr) : (s.syncSchedCheck h).ident = s.ident := by
  unfold State.syncSchedCheck
  split <;> simp

@[simp] theorem State.syncFrame_ident (s : State) (f : RawFrame) (h : Hdr) (dev : Int) (accepted : Bool) :
    (s.syncFrame f h dev accepted).ident = s.ident := by
  simp [State.syncFrame]

@[simp] theorem State.judgeFrame_ident (s : State) (f : RawFrame) (h : Hdr) : (s.judgeFrame f h).ident = s.ident := by
  simp only [State.judgeFrame, State.reject_ident, State.syncSchedCheck_ident, State.adopt_ident, State.syncFrame_ident, State.incF_ident,
    State.deliver_ident, State.ident_mk, State.ident_eta, State.ite_ident, ite_self, State.when_ident]

@[simp] theorem State.frameReceive_ident (s : State) (f : RawFrame) : (s.frameReceive f).ident = s.ident := by simp [State.frameReceive]
@[simp] theorem State.damperBlock_ident (s : State) : s.damperBlock.ident = s.ident := by simp [State.damperBlock]

@[simp] theorem State.frameSent_ident (s : State) (h : Hdr) (p : List Byte) : (s.frameSent h p).ident = s.ident := by
  unfold State.frameSent
  dsimp only
  repeat' split
  all_goals simp only [State.setF_ident, State.when_ident, State.addF_ident, State.ident_mk, State.ident_eta]

@[simp] theorem State.fwdCut_ident (s : State) : s.fwdCut.ident = s.ident := by simp [State.fwdCut]

@[simp] theorem State.frameTransmit_ident (s : State) (slot : Nat) (dev fin : Int) (passing : Bool) :
    (s.frameTransmit slot dev fin passing).ident = s.ident := by
  unfold State.frameTransmit
  repeat' split
  all_goals simp

/-! ### Exchange between channels (Machine/Exchange.lean) -/

@[simp] theorem State.applyStream_ident (s : State) : s.applyStream.ident = s.ident := by
  simp only [State.applyStream, State.ident_mk, State.ident_eta]
  refine State.each_ident _ _ _ fun u e => ?_
  split
  · rfl
  · split <;> simp

@[simp] theorem State.peerStat_ident (s : State) (heard : List ChFrame) : (s.peerStat heard).ident = s.ident := by
  unfold State.peerStat
  refine State.each_ident _ _ _ fun u x => ?_
  split <;> simp

@[simp] theorem State.exchangeEnd_ident (s : State) : s.exchangeEnd.ident = s.ident := by simp [State.exchangeEnd]
@[simp] theorem State.digestMismatch_ident (s : State) : s.digestMismatch.ident = s.ident := by simp [State.digestMismatch]

@[simp] theorem State.digestCompare_ident (s : State) : s.digestCompare.ident = s.ident := by
  unfold State.digestCompare
  dsimp only
  repeat' split
  all_goals simp only [State.setReg_ident, State.setFlag_ident, State.digestMismatch_ident, State.when_ident, State.ident_mk,
    State.ident_eta]

@[simp] theorem State.freeBytes_ident (s : State) (n : Nat) : (s.freeBytes n).2.ident = s.ident := by simp [State.freeBytes]
@[simp] theorem State.chFrame_ident (s : State) : (s.chFrame).2.ident = s.ident := by simp [State.chFrame]
@[simp] theorem State.ownRecord_ident (s : State) : (s.ownRecord).2.ident = s.ident := by simp [State.ownRecord]

@[simp] theorem State.takeCmds_ident (s : State) (n : Nat) : (s.takeCmds n).2.ident = s.ident := by
  simp only [State.takeCmds, State.setF_ident, State.ident_mk, State.ident_eta]
  refine State.each_ident _ _ _ fun u e => ?_
  split
  · split <;> simp
  · rfl

@[simp] theorem State.freezeBuf_ident (s : State) (slot : Nat) : (s.freezeBuf slot).2.ident = s.ident := by simp [State.freezeBuf]

@[simp] theorem State.freezeSlot_ident (s : State) (stream : List Byte) (slot : Nat) : (s.freezeSlot stream slot).2.ident = s.ident := by
  simp [State.freezeSlot]

@[simp] theorem State.freezeStatic_ident (s : State) (stream : List Byte) (slots : List Nat) :
    (s.freezeStatic stream slots).2.ident = s.ident := by
  induction slots generalizing s with
  | nil => rfl
  | cons slot t ih => simp [State.freezeStatic, ih]

@[simp] theorem State.freezeDyn_ident (s : State) : (s.freezeDyn).2.ident = s.ident := by simp [State.freezeDyn]
@[simp] theorem State.dynUnused_ident (s : State) : s.dynUnused.ident = s.ident := by simp [State.dynUnused]
@[simp] theorem State.freezeFrames_ident (s : State) : s.freezeFrames.ident = s.ident := by simp [State.freezeFrames]

/-! ### Image registers (Machine/Image.lean) -/

@[simp] theorem State.applyRegs_ident (s : State) (l : List (Nat × Nat)) : (s.applyRegs l).ident = s.ident := by
  unfold State.applyRegs
  refine State.each_ident _ _ _ fun u x => ?_
  split <;> simp

/-! ### Self-test (Machine/SelfTest.lean) -/

@[simp] theorem State.refreshDeadtime_ident (s : State) : s.refreshDeadtime.ident = s.ident := by simp [State.refreshDeadtime]

@[simp] theorem State.cmpTest_ident (s : State) (k missed flagged : Nat) : (s.cmpTest k missed flagged).ident = s.ident := by
  simp [State.cmpTest]

@[simp] theorem State.burnBoard_ident (s : State) (e : AbistEnv) : (s.burnBoard e).ident = s.ident := by simp [State.burnBoard]
@[simp] theorem State.setDtm_ident (s : State) (m : Nat → Nat) : (s.setDtm m).ident = s.ident := by simp [State.setDtm]

@[simp] theorem State.abistMargins_ident (s : State) (e : AbistEnv) (skipped : Bool) : (s.abistMargins e skipped).ident = s.ident := by
  simp [State.abistMargins]

@[simp] theorem State.failSelfTest_ident (s : State) (baseline : Bool) : (s.failSelfTest baseline).ident = s.ident := by
  simp [State.failSelfTest]

@[simp] theorem State.passSelfTest_ident (s : State) (baseline : Bool) : (s.passSelfTest baseline).ident = s.ident := by
  simp [State.passSelfTest]

@[simp] theorem State.lbist_ident (s : State) (part1 part2 : Nat) : (s.lbist part1 part2).ident = s.ident := by simp [State.lbist]

@[simp] theorem State.testConversions_ident (s : State) (t c : Nat) (l : List (Nat × Int)) : (s.testConversions t c l).ident = s.ident := by
  simp [State.testConversions]

@[simp] theorem State.dacTest_ident (s : State) (e : AbistEnv) : (s.dacTest e).ident = s.ident := by simp [State.dacTest]
@[simp] theorem State.gateTest_ident (s : State) (e : AbistEnv) : (s.gateTest e).ident = s.ident := by simp [State.gateTest]
@[simp] theorem State.refTest_ident (s : State) (e : AbistEnv) : (s.refTest e).ident = s.ident := by simp [State.refTest]
@[simp] theorem State.boardTest_ident (s : State) (e : AbistEnv) : (s.boardTest e).ident = s.ident := by simp [State.boardTest]
@[simp] theorem State.analogueBist_ident (s : State) (e : AbistEnv) : (s.analogueBist e).ident = s.ident := by simp [State.analogueBist]

/-! ### LOAD (Machine/Load.lean) -/

@[simp] theorem State.sight_ident (s : State) (key : Nat) : (s.sight key).1.ident = s.ident := by
  unfold State.sight
  split <;> simp

@[simp] theorem State.burnedSpare_ident (s : State) (b : Nat) : (s.burnedSpare b).ident = s.ident := by
  unfold State.burnedSpare
  split <;> simp

@[simp] theorem Mbist.tile_ident (m : Mbist) (bad : List Nat) (x : Nat × List Nat) : (m.tile bad x).s.ident = m.s.ident := by
  unfold Mbist.tile
  dsimp only
  split_ifs <;> simp

@[simp] theorem State.lostTile_ident (s : State) (t : Nat) : (s.lostTile t).ident = s.ident := by
  unfold State.lostTile
  split <;> simp

@[simp] theorem Mbist.foldl_tile_ident (bad : List Nat) (l : List (Nat × List Nat)) (m : Mbist) :
    (l.foldl (fun m x => m.tile bad x) m).s.ident = m.s.ident := by
  induction l generalizing m with
  | nil => rfl
  | cons x l ih => exact (ih _).trans (Mbist.tile_ident m bad x)

@[simp] theorem State.mbist_ident (s : State) (e : LoadEnv) : (s.mbist e).s.ident = s.ident := by simp [State.mbist]
@[simp] theorem State.ashTail_ident (s : State) (size : Nat) : (s.ashTail size).ident = s.ident := by simp [State.ashTail]

@[simp] theorem State.ashFind_ident (s : State) (m : Option (Nat × Nat)) : (s.ashFind m).ident = s.ident := by
  unfold State.ashFind
  split <;> simp

@[simp] theorem State.holdupLoad_ident (s : State) (e : LoadEnv) : (s.holdupLoad e).ident = s.ident := by simp [State.holdupLoad]
@[simp] theorem State.loadRecord_ident (s : State) : s.loadRecord.ident = s.ident := by simp [State.loadRecord]

@[simp] theorem State.retireTile_ident (s : State) (bad : List Nat) (t : Nat) : (s.retireTile bad t).ident = s.ident := by
  simp [State.retireTile]

@[simp] theorem State.burnFet_ident (s : State) : s.burnFet.ident = s.ident := by simp [State.burnFet]

@[simp] theorem State.replan_ident (s : State) (e : LoadEnv) (rows : List (Nat × Nat)) : (s.replan e rows).ident = s.ident := by
  simp [State.replan]

@[simp] theorem State.showResult_ident (s : State) (k : Nat) (r : Option Fail) : (s.showResult k r).ident = s.ident := by
  unfold State.showResult
  split <;> simp

@[simp] theorem State.showFlash_ident (s : State) (e : LoadEnv) (k : Nat) : (s.showFlash e k).ident = s.ident := by simp [State.showFlash]

@[simp] theorem State.checkSlot_ident (s : State) (e : LoadEnv) (k : Nat) (plan : State → State) (hplan : ∀ u, (plan u).ident = u.ident) :
    (s.checkSlot e k plan).1.ident = s.ident := by
  simp [State.checkSlot, hplan]

@[simp] theorem State.placeFaults_ident (s : State) (b : List Byte) : (s.placeFaults b).ident = s.ident := by simp [State.placeFaults]
@[simp] theorem State.placeLaw_ident (s : State) : s.placeLaw.ident = s.ident := by simp [State.placeLaw]

@[simp] theorem State.placeSafety_ident (s : State) : s.placeSafety.ident = s.ident := by
  unfold State.placeSafety
  refine State.each_ident _ _ _ fun u x => ?_
  split <;> simp

@[simp] theorem State.placeScheds_ident (s : State) : s.placeScheds.ident = s.ident := by simp [State.placeScheds]
@[simp] theorem State.placeSizes_ident (s : State) : s.placeSizes.ident = s.ident := by simp [State.placeSizes]
@[simp] theorem State.showImage_ident (s : State) (k : Nat) (b : List Byte) : (s.showImage k b).ident = s.ident := by simp [State.showImage]
@[simp] theorem State.startUnits_ident (s : State) : s.startUnits.ident = s.ident := by simp [State.startUnits]
@[simp] theorem State.place_ident (s : State) (k : Nat) : (s.place k).ident = s.ident := by simp [State.place]

@[simp] theorem State.loadStart_ident (s : State) (e : LoadEnv) : (s.loadStart e).ident = (s.otp.uid, e.strap % 4) := by
  simp [State.loadStart]

@[simp] theorem State.loadEnd_ident (s : State) (e : LoadEnv) : (s.loadEnd e).ident = s.ident := by simp [State.loadEnd]
@[simp] theorem State.startHalves_ident (s : State) : s.startHalves.ident = s.ident := by simp [State.startHalves]
@[simp] theorem State.toSelfTest_ident (s : State) (e : LoadEnv) : (s.toSelfTest e).ident = s.ident := by simp [State.toSelfTest]
@[simp] theorem State.toSafeHold_ident (s : State) (e : LoadEnv) : (s.toSafeHold e).ident = s.ident := by simp [State.toSafeHold]
@[simp] theorem State.blankPlan_ident (s : State) : s.blankPlan.ident = s.ident := by simp [State.blankPlan]

@[simp] theorem State.loadImage_ident (s : State) (e : LoadEnv) (rows : List (Nat × Nat)) : (s.loadImage e rows).ident = s.ident := by
  simp [State.loadImage]

@[simp] theorem State.resetRelease_ident (s : State) (e : LoadEnv) (h : s.sys.phase = .held) (hv : s.sys.vsup = true)
    (hu : s.sys.vioUnder = false) : (s.resetRelease e).ident = (s.otp.uid, e.strap % 4) := by
  simp only [State.resetRelease]
  rw [if_neg (by simp [h, hv, hu])]
  simp

/-! ### Reads with an effect (Machine/Views.lean) -/

@[simp] theorem State.latchTick_ident (s : State) : s.latchTick.ident = s.ident := by simp [State.latchTick]
@[simp] theorem State.latchFlue_ident (s : State) (elapsed : Nat) : (s.latchFlue elapsed).ident = s.ident := by simp [State.latchFlue]
@[simp] theorem State.latchRtc_ident (s : State) (elapsed : Nat) : (s.latchRtc elapsed).ident = s.ident := by simp [State.latchRtc]
@[simp] theorem State.unlatch_ident (s : State) (a : Nat) : (s.unlatch a).ident = s.ident := by simp [State.unlatch]

/-! ### Mailboxes (Machine/Mailbox.lean) -/

@[simp] theorem State.setFull_ident (s : State) (m : Nat) (b : Bool) : (s.setFull m b).ident = s.ident := by simp [State.setFull]
@[simp] theorem State.ringDoorbell_ident (s : State) (b : Nat) : (s.ringDoorbell b).ident = s.ident := by simp [State.ringDoorbell]

@[simp] theorem State.setMbxWord_ident (s : State) (m k : Nat) (w : Word) : (s.setMbxWord m k w).ident = s.ident := by
  simp [State.setMbxWord]

@[simp] theorem State.mbxComplete_ident (s : State) (m : Nat) : (s.mbxComplete m).ident = s.ident := by simp [State.mbxComplete]
@[simp] theorem State.mbxBlocked_ident (s : State) (m : Nat) : (s.mbxBlocked m).ident = s.ident := by simp [State.mbxBlocked]
@[simp] theorem State.mbxPut_ident (s : State) (side m k : Nat) (w : Word) : (s.mbxPut side m k w).ident = s.ident := by simp [State.mbxPut]
@[simp] theorem State.mbxTaken_ident (s : State) (m : Nat) : (s.mbxTaken m).ident = s.ident := by simp [State.mbxTaken]
@[simp] theorem State.mbxTake_ident (s : State) (side m : Nat) : (s.mbxTake side m).ident = s.ident := by simp [State.mbxTake]
@[simp] theorem State.mbxSelect_ident (s : State) (side m : Nat) : (s.mbxSelect side m).ident = s.ident := by simp [State.mbxSelect]

@[simp] theorem State.messageSend_ident (s : State) (side m : Nat) (writes : List (Nat × Word)) :
    (s.messageSend side m writes).ident = s.ident := by
  simp [State.messageSend]

@[simp] theorem State.messageTake_ident (s : State) (side m : Nat) (coincident : List (Nat × Word)) :
    (s.messageTake side m coincident).ident = s.ident := by
  simp [State.messageTake]

@[simp] theorem State.doorbellClear_ident (s : State) (value rung : Nat) : (s.doorbellClear value rung).ident = s.ident := by
  simp [State.doorbellClear]

@[simp] theorem State.doorbellWrite_ident (s : State) (side value rung : Nat) : (s.doorbellWrite side value rung).ident = s.ident := by
  simp [State.doorbellWrite]

@[simp] theorem State.longWait_ident (s : State) (m : Nat) : (s.longWait m).ident = s.ident := by simp [State.longWait]
@[simp] theorem State.serviceRequest_ident (s : State) : s.serviceRequest.ident = s.ident := by simp [State.serviceRequest]

/-! ### Register writes (Machine/Registers.lean) -/

@[simp] theorem State.swreset_ident (s : State) (key : Nat) : (s.swreset key).ident = s.ident := by simp [State.swreset]
@[simp] theorem State.floorRaise_ident (s : State) (key : Nat) : (s.floorRaise key).ident = s.ident := by simp [State.floorRaise]
@[simp] theorem State.keyRevoke_ident (s : State) (key mask : Nat) : (s.keyRevoke key mask).ident = s.ident := by simp [State.keyRevoke]

@[simp] theorem State.lifecycleReq_ident (s : State) (key target : Nat) : (s.lifecycleReq key target).ident = s.ident := by
  simp [State.lifecycleReq]

@[simp] theorem State.lifecycleFuse_ident (s : State) : s.lifecycleFuse.ident = s.ident := by
  unfold State.lifecycleFuse
  split <;> simp

@[simp] theorem State.fuseCmd_ident (s : State) (key : Nat) : (s.fuseCmd key).ident = s.ident := by simp [State.fuseCmd]

@[simp] theorem State.editWord_ident (s : State) (k : Nat) (w : Word) : (s.editWord k w).ident = s.ident := by
  unfold State.editWord
  split <;> simp

@[simp] theorem State.writeOwn_getD_ident (s u : State) (a : Nat) (v : Word) (h : u.ident = s.ident) :
    ((s.writeOwn a v).getD u).ident = s.ident := by
  simp only [State.writeOwn, apply_ite (fun o : Option State => (o.getD u).ident), Option.getD_some, Option.getD_none, h,
    State.swreset_ident, State.floorRaise_ident, State.keyRevoke_ident, State.lifecycleReq_ident, State.fuseCmd_ident,
    State.jrnReplayCmd_ident, State.adcStart_ident, State.doorbellClear_ident, State.mbxPut_ident, State.editWord_ident, ite_self]

@[simp] theorem State.serviceVote_ident (s : State) (d : Nat) (b : Bool) : (s.serviceVote d b).ident = s.ident := by
  simp [State.serviceVote]

@[simp] theorem State.shadowWrite_ident (s : State) (a : Nat) (w : Word) : (s.shadowWrite a w).ident = s.ident := by
  simp [State.shadowWrite]

@[simp] theorem State.writePlain_ident (s : State) (k : RegKind) (i a : Nat) (v : Word) : (s.writePlain k i a v).ident = s.ident := by
  simp [State.writePlain]

@[simp] theorem State.writeWord_ident (s : State) (open_ : Bool) (a : Nat) (v : Word) : (s.writeWord open_ a v).1.ident = s.ident := by
  unfold State.writeWord
  dsimp only
  repeat' split
  all_goals simp

@[simp] theorem State.inService_ident (s : State) (a : Nat) (f : State → State) (hf : ∀ u, (f u).ident = u.ident) :
    (s.inService a f).ident = s.ident := by
  simp [State.inService, hf]

@[simp] theorem State.unitFollow_ident (s : State) (a : Nat) : (s.unitFollow a).ident = s.ident := by simp [State.unitFollow]
@[simp] theorem State.refreshSum_ident (s : State) : s.refreshSum.ident = s.ident := by simp [State.refreshSum]
@[simp] theorem State.unitVotes_ident (s : State) : s.unitVotes.ident = s.ident := by simp [State.unitVotes]

@[simp] theorem State.shadowOne_ident (s : State) (x : Nat × Word) : (s.shadowOne x).ident = s.ident := by
  unfold State.shadowOne
  split <;> simp

@[simp] theorem State.shadowApply_ident (s : State) : s.shadowApply.ident = s.ident := by simp [State.shadowApply]

/-! ### Bus outputs (Machine/BusOutput.lean) -/

@[simp] theorem State.andironWord_ident (s : State) (a : Nat) (v : Word) : (s.andironWord a v).ident = s.ident := by
  unfold State.andironWord
  repeat' split
  all_goals simp

@[simp] theorem State.released_ident (s : State) (k : Nat) (w : BusWrite) : (s.released k w).ident = s.ident := by simp [State.released]
@[simp] theorem State.mbxRelease_ident (s : State) (k : Nat) : (s.mbxRelease k).ident = s.ident := by simp [State.mbxRelease]

@[simp] theorem State.compare_ident (s : State) (k : Nat) (side : Bool) (w : BusWrite) : (s.compare k side w).ident = s.ident := by
  unfold State.compare
  dsimp only
  repeat' split
  all_goals simp

@[simp] theorem State.enterStalled_ident (s : State) (k : Nat) : (s.enterStalled k).ident = s.ident := by simp [State.enterStalled]
@[simp] theorem State.enterAll_ident (s : State) (k : Nat) : (s.enterAll k).ident = s.ident := by simp [State.enterAll]

@[simp] theorem State.busWrite_ident (s : State) (k : Nat) (side : Bool) (w : BusWrite) : (s.busWrite k side w).ident = s.ident := by
  simp [State.busWrite]

@[simp] theorem State.cmpTimeout_ident (s : State) (k tag : Nat) : (s.cmpTimeout k tag).ident = s.ident := by
  unfold State.cmpTimeout
  repeat' split
  all_goals simp

/-! ### Cycle boundary (Machine/Cycle.lean) -/

@[simp] theorem State.slotRx_ident (s : State) (sl : Nat) : (s.slotRx sl).ident = s.ident := by
  unfold State.slotRx
  repeat' split
  all_goals simp

@[simp] theorem State.bnStat_ident (s : State) (n : Nat) : (s.bnStat n).ident = s.ident := by
  unfold State.bnStat
  split <;> simp

@[simp] theorem State.rxRegs_ident (s : State) : s.rxRegs.ident = s.ident := by simp [State.rxRegs]
@[simp] theorem State.dynGrant_ident (s : State) : s.dynGrant.ident = s.ident := by simp [State.dynGrant]
@[simp] theorem State.ringEnd_ident (s : State) : (s.ringEnd).1.ident = s.ident := by simp [State.ringEnd]

@[simp] theorem State.sampleEnd_ident (s : State) : s.sampleEnd.ident = s.ident := by
  unfold State.sampleEnd
  split <;> simp

@[simp] theorem State.toTick0_ident (s : State) : s.toTick0.ident = s.ident := by simp [State.toTick0]
@[simp] theorem State.skipCycle_ident (s : State) (sc : Nat) : (s.skipCycle sc).ident = s.ident := by simp [State.skipCycle]

@[simp] theorem State.takeover_ident (s : State) : s.takeover.ident = s.ident := by
  simp only [State.takeover, State.logHandover_ident, State.ident_mk, State.ident_eta, State.when_ident]

@[simp] theorem State.boundaryEffects_ident (s : State) (prev m : Mode) : (s.boundaryEffects prev m).ident = s.ident := by
  unfold State.boundaryEffects
  repeat' split
  all_goals simp

@[simp] theorem State.boundaryMode_ident (s : State) : s.boundaryMode.ident = s.ident := by
  unfold State.boundaryMode
  dsimp only
  repeat' split
  all_goals simp

@[simp] theorem State.takeoverSeen_ident (s : State) : s.takeoverSeen.ident = s.ident := by simp [State.takeoverSeen]
@[simp] theorem State.startHandover_ident (s : State) : s.startHandover.ident = s.ident := by simp [State.startHandover]
@[simp] theorem State.testWindow_ident (s : State) : s.testWindow.ident = s.ident := by simp [State.testWindow]

@[simp] theorem State.shadowSample_ident (s : State) : s.shadowSample.ident = s.ident := by
  unfold State.shadowSample
  split <;> simp

@[simp] theorem State.nextSample_ident (s : State) : s.nextSample.ident = s.ident := by
  unfold State.nextSample
  split <;> simp

@[simp] theorem State.sampleRegs_ident (s : State) : s.sampleRegs.ident = s.ident := by
  unfold State.sampleRegs
  split <;> simp

@[simp] theorem State.clearCycle_ident (s : State) : s.clearCycle.ident = s.ident := by simp [State.clearCycle]

@[simp] theorem State.cycleBoundary_ident (s : State) : s.cycleBoundary.ident = s.ident := by
  unfold State.cycleBoundary
  dsimp only
  repeat' split
  all_goals simp

/-! ### Service port and JTAG (Machine/Service.lean) -/

@[simp] theorem State.svcCount_ident (s : State) (st : SvcStatus) : (s.svcCount st).ident = s.ident := by
  unfold State.svcCount
  split <;> simp

@[simp] theorem State.svcHeader_ident (s : State) (cmd addr len : Nat) : (s.svcHeader cmd addr len).ident = s.ident := by
  simp [State.svcHeader]

@[simp] theorem State.svcFrame_ident (s : State) (cmd : Nat) (f : SvcFrame) (act : State → State × SvcStatus × List Byte)
    (hact : ∀ u, (act u).1.ident = u.ident) : (s.svcFrame cmd f act).ident = s.ident := by
  unfold State.svcFrame
  dsimp only
  repeat' split
  all_goals simp only [hact, State.ident_mk, State.ident_eta, State.svcHeader_ident, State.setFlag_ident, State.incF_ident,
    State.setF_ident, State.peakF_ident, State.svcCount_ident]

@[simp] theorem refuse_ident (s : State) (st : SvcStatus) : (refuse s st).1.ident = s.ident := by simp [refuse]

@[simp] theorem State.readWord_ident (s : State) (open_ : Bool) (a flueNs rtcUnits : Nat) :
    (s.readWord open_ a flueNs rtcUnits).1.ident = s.ident := by
  simp [State.readWord]

@[simp] theorem State.readWords_ident (s : State) (open_ : Bool) (a n flueNs rtcUnits : Nat) :
    (s.readWords open_ a n flueNs rtcUnits).1.ident = s.ident := by
  simp [State.readWords]

@[simp] theorem State.svcRead_ident (s : State) (f : SvcFrame) (other : Option Nat) : (s.svcRead f other).ident = s.ident := by
  simp [State.svcRead]

@[simp] theorem State.writeWords_ident (s : State) (open_ : Bool) (a : Nat) (l : List Word) :
    (s.writeWords open_ a l).1.ident = s.ident := by
  simp [State.writeWords]

@[simp] theorem State.svcWrite_ident (s : State) (f : SvcFrame) : (s.svcWrite f).ident = s.ident := by simp [State.svcWrite]
@[simp] theorem State.svcAshRead_ident (s : State) (f : SvcFrame) : (s.svcAshRead f).ident = s.ident := by simp [State.svcAshRead]
@[simp] theorem State.svcEnter_ident (s : State) (f : SvcFrame) : (s.svcEnter f).ident = s.ident := by simp [State.svcEnter]
@[simp] theorem State.svcAbort_ident (s : State) (f : SvcFrame) : (s.svcAbort f).ident = s.ident := by simp [State.svcAbort]

@[simp] theorem State.nvmGate_ident (s : State) (ok : Bool) (go : State → State × SvcStatus × List Byte)
    (hgo : ∀ u, (go u).1.ident = u.ident) : (s.nvmGate ok go).1.ident = s.ident := by
  unfold State.nvmGate
  split_ifs <;> simp [refuse, hgo]

@[simp] theorem State.nvmStart_ident (s : State) (op addr : Nat) (data : List Byte) : (s.nvmStart op addr data).ident = s.ident := by
  simp [State.nvmStart]

@[simp] theorem State.svcErase_ident (s : State) (f : SvcFrame) : (s.svcErase f).ident = s.ident := by simp [State.svcErase]
@[simp] theorem State.svcProgram_ident (s : State) (f : SvcFrame) : (s.svcProgram f).ident = s.ident := by simp [State.svcProgram]

@[simp] theorem State.svcFlashRead_ident (s : State) (f : SvcFrame) (answers : Bool) : (s.svcFlashRead f answers).ident = s.ident := by
  simp [State.svcFlashRead]

@[simp] theorem State.svcKey_ident (s : State) (f : SvcFrame) : (s.svcKey f).ident = s.ident := by simp [State.svcKey]

@[simp] theorem State.nvmEffect_ident (s : State) (x : Nvm) (good : Bool) : (s.nvmEffect x good).1.ident = s.ident := by
  unfold State.nvmEffect
  split <;> simp only [State.freeFlash_ident, State.freeKey_ident, State.ident_mk, State.ident_eta, State.ite_ident, State.ite_fst_ident,
    ite_self]

@[simp] theorem State.nvmComplete_ident (s : State) (answers good : Bool) : (s.nvmComplete answers good).ident = s.ident := by
  unfold State.nvmComplete
  split <;> simp

@[simp] theorem State.svcAbandon_ident (s : State) (header : Option (Nat × Nat × Nat)) (mode3 : Bool) :
    (s.svcAbandon header mode3).ident = s.ident := by
  unfold State.svcAbandon
  repeat' split
  all_goals simp

@[simp] theorem State.jtagDo_ident (s : State) (what : JtagOp) : (s.jtagDo what).1.ident = s.ident := by
  unfold State.jtagDo
  split <;> simp

@[simp] theorem State.tapMove_ident (s : State) (tms : List Bool) (trst : Bool) : (s.tapMove tms trst).ident = s.ident := by
  simp [State.tapMove]

@[simp] theorem State.jtag_ident (s : State) (ir : Nat) (what : JtagOp) (tms : List Bool) (trst : Bool) :
    (s.jtag ir what tms trst).ident = s.ident := by
  simp [State.jtag]

/-! ### Tick (Machine/Tick.lean) -/

@[simp] theorem State.show_ident (s : State) (shown : List (Nat × Word)) : (s.show shown).ident = s.ident := by simp [State.show]

@[simp] theorem State.showMeasured_ident (s : State) (m : List (Nat × Word)) : (s.showMeasured m).ident = s.ident := by
  simp [State.showMeasured]

@[simp] theorem State.sampleOwnTaps_ident (s : State) (own : List (Nat × Word × Bool)) : (s.sampleOwnTaps own).ident = s.ident := by
  simp [State.sampleOwnTaps]

@[simp] theorem State.tickBefore_ident (s : State) (t : Nat) : (s.tickBefore t).ident = s.ident := by simp [State.tickBefore]

@[simp] theorem State.intakeTick_ident (s : State) (t j : Nat) (m : List (Nat × Word)) : (s.intakeTick t j m).ident = s.ident := by
  simp only [State.intakeTick, State.poseFree_ident, State.sampleOwnTaps_ident, State.replayTick_ident, State.posAfter_ident,
    State.ident_mk, State.ident_eta, State.ite_ident, ite_self, State.when_ident, State.each_ident, implies_true]

@[simp] theorem State.startSlots_ident (s : State) (sc j : Nat) : (s.startSlots sc j).ident = s.ident := by simp [State.startSlots]
@[simp] theorem State.forgetTiles_ident (s : State) : s.forgetTiles.ident = s.ident := by simp [State.forgetTiles]

@[simp] theorem State.tickStart_ident (s : State) (measured shown : List (Nat × Word)) : (s.tickStart measured shown).ident = s.ident := by
  unfold State.tickStart
  dsimp only
  repeat' split
  all_goals simp only [State.show_ident, State.showMeasured_ident, State.each_ident, State.posLate_ident, State.posBefore_ident,
    State.when_ident, State.readSets_ident, State.slotsEnd_ident, State.sampleTaps_ident, State.forgetTiles_ident, State.setTime_ident,
    State.tickBefore_ident, State.intakeTick_ident, State.startSlots_ident, State.ite_ident, ite_self, implies_true, State.ident_mk,
    State.ident_eta]

/-! ### Commands and reads -/

/-- No command but RESET_RELEASE changes the die ID or the straps. -/
theorem exec_ident (c : Instr) (s t : State) (hc : ∀ e, c ≠ .resetRelease e) (h : exec c s = .next t) : t.ident = s.ident := by
  cases c
  case resetRelease e => exact absurd rfl (hc e)
  case hello =>
    cases h
    split
    · rfl
    · split_ifs <;> simp
  all_goals
    cases h
    simp

/-- RESET_RELEASE takes the straps from the pins (R30) and keeps the die ID; where its conditions do not hold it changes nothing. -/
theorem State.resetRelease_uid (s : State) (e : LoadEnv) : (s.resetRelease e).otp.uid = s.otp.uid := by
  by_cases h : s.sys.phase ≠ .held ∨ s.sys.vsup = false ∨ s.sys.vioUnder = true
  · rw [State.resetRelease, if_pos h]
  · simp only [not_or, not_not, Bool.not_eq_false, Bool.not_eq_true] at h
    obtain ⟨hp, hv, hu⟩ := h
    exact congrArg Prod.fst (State.resetRelease_ident s e hp hv hu)

theorem exec_uid (c : Instr) (s t : State) (h : exec c s = .next t) : t.otp.uid = s.otp.uid := by
  by_cases hc : ∃ e, c = .resetRelease e
  · obtain ⟨e, rfl⟩ := hc
    cases h
    exact State.resetRelease_uid s e
  · exact congrArg Prod.fst (exec_ident c s t (fun e he => hc ⟨e, he⟩) h)

/-- The words that SYS_UID_0, SYS_UID_1 and SYS_STRAP read (R27, R30). -/
theorem State.view_ident (s : State) :
    s.view 0x40000004 = BitVec.ofNat 32 (s.ident.1 % 2 ^ 32) ∧ s.view 0x40000008 = BitVec.ofNat 32 (s.ident.1 / 2 ^ 32) ∧
      s.view 0x40000014 = BitVec.ofNat 32 s.ident.2 :=
  ⟨rfl, rfl, rfl⟩

theorem State.jtag_idcode_tdo (s : State) (ir : Nat) (tms : List Bool) (trst : Bool) (h : s.sys.phase = .run) :
    (s.jtag ir .idcode tms trst).svc.tdo = [idcode] := by
  simp [State.jtag, h, State.jtagDo, State.tapMove]

/-- Settles O57: the registers read what `State.ident` holds, which every command but RESET_RELEASE keeps by the lemmas of the
operations; RESET_RELEASE keeps its first half and takes the second from the pins; the IDCODE word is a constant. -/
theorem identity : Obligations.Identity := by
  unfold Obligations.Identity
  refine ⟨State.view_ident, ?changes, ?release, ?idcode⟩
  case changes =>
    intro c s t h
    exact ⟨exec_uid c s t h, fun hc => congrArg Prod.snd (exec_ident c s t hc h)⟩
  case release =>
    intro s t e hp hv hu h
    cases h
    exact congrArg Prod.snd (State.resetRelease_ident s e hp hv hu)
  case idcode =>
    intro s ir tms trst h
    exact ⟨_, _, rfl, State.jtag_idcode_tdo s ir tms trst h, by decide⟩

end Sys2Proof.Machine
end

section
/-!
# The fuses that keyed commands blow (R52, R63, R70, R514)

Of the OTP array, key slots, sightings and baselines are programmed by operations that run deep inside others: LOAD, SELF-TEST, a reset
that cuts an OTP_KEY short. `State.fuses` is the rest of the array: life cycle, revocations, version floor, repair entries, and what
production programmed. A lemma `f_fuses` says that operation `f` keeps it, by the lemmas of the operations that `f` calls, in the order
of the model's files. What is left are the four keyed operations `floorRaise`, `keyRevoke`, `fuseCmd` and `lifecycleFuse`, and the
register writes that reach the first three of them.
-/
namespace Sys2Proof.Machine

open Sys2Proof

/-- The OTP array less what LOAD, SELF-TEST and the key operations program. -/
def State.fuses (s : State) : Otp := { s.otp with keys := [], sights := [], baseBoard := none, baseFet := [] }

/-! ### The forms that operations are built of

The lemmas below are proved by `by rfl`, not by the term `rfl`: `simp` then takes them as rewriting steps, and can use them where it
proves a condition of `State.when_fuses` or `State.each_fuses`. -/

/-- An update of other fields keeps `fuses` by this lemma and `State.fuses_eta`. -/
@[simp] theorem State.fuses_mk (regs tiles mram flash otp ember sys doms flu img gr lds flt gdr mots adc poss sps cans eths feedq map sec saf
    cmps jrn ash age mbx svc free pending) :
    State.fuses ⟨regs, tiles, mram, flash, otp, ember, sys, doms, flu, img, gr, lds, flt, gdr, mots, adc, poss, sps, cans, eths, feedq, map,
      sec, saf, cmps, jrn, ash, age, mbx, svc, free, pending⟩ =
      { otp with keys := [], sights := [], baseBoard := none, baseFet := [] } := by rfl

@[simp] theorem State.fuses_eta (s : State) :
    ({ s.otp with keys := [], sights := [], baseBoard := none, baseFet := [] } : Otp) = s.fuses := by rfl

@[simp] theorem State.ite_fuses (c : Prop) [Decidable c] (s t : State) :
    (if c then s else t).fuses = if c then s.fuses else t.fuses := apply_ite _ _ _ _

@[simp] theorem State.ite_fst_fuses {α : Type} (c : Prop) [Decidable c] (p q : State × α) :
    (if c then p else q).1.fuses = if c then p.1.fuses else q.1.fuses := apply_ite (fun x : State × α => x.1.fuses) _ _ _

@[simp] theorem State.ite_snd_fuses {α : Type} (c : Prop) [Decidable c] (p q : α × State) :
    (if c then p else q).2.fuses = if c then p.2.fuses else q.2.fuses := apply_ite (fun x : α × State => x.2.fuses) _ _ _

@[simp] theorem State.when_fuses (s : State) (c : Bool) (f : State → State) (h : (f s).fuses = s.fuses) : (s.when c f).fuses = s.fuses := by
  rcases State.when_cases s c f with ⟨-, hw⟩ | ⟨-, hw⟩
  · rw [hw, h]
  · rw [hw]

@[simp] theorem State.each_fuses {α : Type} (s : State) (l : List α) (f : State → α → State) (h : ∀ u a, (f u a).fuses = u.fuses) :
    (s.each l f).fuses = s.fuses :=
  State.each_keeps (fun t => t.fuses = s.fuses) f (fun u a hu => (h u a).trans hu) l s rfl

@[simp] theorem State.foldl_fuses {α : Type} (s : State) (l : List α) (f : State → α → State) (h : ∀ u a, (f u a).fuses = u.fuses) :
    (l.foldl f s).fuses = s.fuses := State.each_fuses s l f h

@[simp] theorem State.foldl_fst_fuses {α β : Type} (l : List α) (f : State × β → α → State × β) (h : ∀ p a, (f p a).1.fuses = p.1.fuses)
    (p : State × β) : (l.foldl f p).1.fuses = p.1.fuses := by
  induction l generalizing p with
  | nil => rfl
  | cons a l ih => exact (ih _).trans (h p a)

/-! ### Registers, events and logs (Machine/Ops.lean) -/

@[simp] theorem State.setReg_fuses (s : State) (a : Nat) (w : Word) : (s.setReg a w).fuses = s.fuses := by simp [State.setReg]
@[simp] theorem State.setF_fuses (s : State) (f : Fld) (v : Nat) : (s.setF f v).fuses = s.fuses := by simp [State.setF]
@[simp] theorem State.setFlag_fuses (s : State) (f : Fld) (b : Bool) : (s.setFlag f b).fuses = s.fuses := by simp [State.setFlag]
@[simp] theorem State.addF_fuses (s : State) (f : Fld) (n : Nat) : (s.addF f n).fuses = s.fuses := by simp [State.addF]
@[simp] theorem State.incF_fuses (s : State) (f : Fld) : (s.incF f).fuses = s.fuses := by simp [State.incF]
@[simp] theorem State.peakF_fuses (s : State) (f : Fld) (v : Nat) : (s.peakF f v).fuses = s.fuses := by simp [State.peakF]
@[simp] theorem State.fresh_fuses (s : State) : (s.fresh).2.fuses = s.fuses := by simp [State.fresh]
@[simp] theorem State.marker_fuses (s : State) (kind id data : Nat) : (s.marker kind id data).fuses = s.fuses := by simp [State.marker]
@[simp] theorem State.event_fuses (s : State) (e : EvBlk) (b : Nat) : (s.event e b).fuses = s.fuses := by simp [State.event]
@[simp] theorem State.lockedWrite_fuses (s : State) (a : Nat) : (s.lockedWrite a).fuses = s.fuses := by simp [State.lockedWrite]

@[simp] theorem State.pushLog_fuses (s : State) (fld : Nat → Fld) (n : Nat) : (s.pushLog fld n).fuses = s.fuses := by
  induction n generalizing s with
  | zero => rfl
  | succ n ih => simp [State.pushLog, ih]

@[simp] theorem State.ashRequest_fuses (s : State) (type flags : Nat) (body : List Byte) :
    (s.ashRequest type flags body).fuses = s.fuses := by
  simp [State.ashRequest]

@[simp] theorem State.setTime_fuses (s : State) (t : Nat) : (s.setTime t).fuses = s.fuses := by simp [State.setTime]
@[simp] theorem State.alignTick_fuses (s : State) (t : Nat) : (s.alignTick t).fuses = s.fuses := by simp [State.alignTick]

/-! ### Power domains (Machine/Domains.lean) -/

@[simp] theorem State.setDom_fuses (s : State) (d : Nat) (x : Dom) : (s.setDom d x).fuses = s.fuses := by simp [State.setDom]
@[simp] theorem State.setDomState_fuses (s : State) (d v : Nat) : (s.setDomState d v).fuses = s.fuses := by simp [State.setDomState]

@[simp] theorem State.putVote_fuses (s : State) (d client : Nat) (b : Bool) : (s.putVote d client b).fuses = s.fuses := by
  simp [State.putVote]

@[simp] theorem State.domRefuse_fuses (s : State) (d id : Nat) : (s.domRefuse d id).fuses = s.fuses := by simp [State.domRefuse]
@[simp] theorem State.domAbort_fuses (s : State) (d id : Nat) : (s.domAbort d id).fuses = s.fuses := by simp [State.domAbort]
@[simp] theorem State.wipeBanks_fuses (s : State) (bs : List Nat) : (s.wipeBanks bs).fuses = s.fuses := by simp [State.wipeBanks]

@[simp] theorem State.domEnter_fuses (s : State) (d : Nat) : (s.domEnter d).fuses = s.fuses := by
  unfold State.domEnter
  split <;> simp

@[simp] theorem State.domRestore_fuses (s : State) (d : Nat) (retried : Bool) : (s.domRestore d retried).fuses = s.fuses := by
  simp [State.domRestore]

@[simp] theorem State.domVote_fuses (s : State) (d client : Nat) : (s.domVote d client).fuses = s.fuses := by
  unfold State.domVote
  dsimp only
  repeat' split
  all_goals simp

@[simp] theorem State.domUnvote_fuses (s : State) (d client : Nat) (coincident : Option Nat) :
    (s.domUnvote d client coincident).fuses = s.fuses := by
  unfold State.domUnvote
  repeat' split
  all_goals simp

@[simp] theorem State.domRetry_fuses (s : State) (d : Nat) : (s.domRetry d).fuses = s.fuses := by simp [State.domRetry]
@[simp] theorem State.domLogic_fuses (s : State) (d : Nat) : (s.domLogic d).fuses = s.fuses := by simp [State.domLogic]
@[simp] theorem State.domReady_fuses (s : State) (d : Nat) : (s.domReady d).fuses = s.fuses := by simp [State.domReady]
@[simp] theorem State.domRetired_fuses (s : State) (d : Nat) : (s.domRetired d).fuses = s.fuses := by simp [State.domRetired]
@[simp] theorem State.modeVotes_fuses (s : State) (m : Mode) : (s.modeVotes m).fuses = s.fuses := by simp [State.modeVotes]

/-! ### Hobs and queues (Machine/Queues.lean) -/

@[simp] theorem State.setInst_fuses (s : State) (i : Nat) (x : InstRun) : (s.setInst i x).fuses = s.fuses := by simp [State.setInst]
@[simp] theorem State.setSig_fuses (s : State) (k : Nat) (x : SigRun) : (s.setSig k x).fuses = s.fuses := by simp [State.setSig]
@[simp] theorem State.refreshQueues_fuses (s : State) : s.refreshQueues.fuses = s.fuses := by simp [State.refreshQueues]
@[simp] theorem State.dropWrites_fuses (s : State) (l : List (Nat × Bool)) : (s.dropWrites l).fuses = s.fuses := by simp [State.dropWrites]

@[simp] theorem State.discardCopies_fuses (s : State) (l : List (Nat × Bool)) : (s.discardCopies l).fuses = s.fuses := by
  simp [State.discardCopies]

@[simp] theorem State.discard_fuses (s : State) (l : List Nat) : (s.discard l).fuses = s.fuses := by simp [State.discard]

@[simp] theorem State.lastEvent_fuses (s : State) (kind : Nat) (copyB : Bool) (hob i : Nat) :
    (s.lastEvent kind copyB hob i).fuses = s.fuses := by
  simp [State.lastEvent]

@[simp] theorem State.hobOf_fuses (s : State) (i : Nat) (copyB : Bool) : (s.hobOf i copyB).2.fuses = s.fuses := by
  unfold State.hobOf
  split <;> simp

/-! ### Modes and reset (Machine/Modes.lean) -/

@[simp] theorem State.setMot_fuses (s : State) (b : Nat) (m : Mot) : (s.setMot b m).fuses = s.fuses := by simp [State.setMot]

@[simp] theorem State.setPlan_fuses (s : State) (b : Nat) (p : Option (Nat × Nat)) : (s.setPlan b p).fuses = s.fuses := by
  simp [State.setPlan]

@[simp] theorem State.statePlan_fuses (s : State) (b : Nat) : (s.statePlan b).fuses = s.fuses := by simp [State.statePlan]
@[simp] theorem State.refreshBridge_fuses (s : State) (b : Nat) : (s.refreshBridge b).fuses = s.fuses := by simp [State.refreshBridge]
@[simp] theorem State.refreshSol_fuses (s : State) (k : Nat) : (s.refreshSol k).fuses = s.fuses := by simp [State.refreshSol]
@[simp] theorem State.refreshEn_fuses (s : State) (e : Nat) : (s.refreshEn e).fuses = s.fuses := by simp [State.refreshEn]
@[simp] theorem State.refreshSupply_fuses (s : State) (i : Nat) : (s.refreshSupply i).fuses = s.fuses := by simp [State.refreshSupply]
@[simp] theorem State.refreshPower_fuses (s : State) : s.refreshPower.fuses = s.fuses := by simp [State.refreshPower]
@[simp] theorem State.impose_fuses (s : State) (i : Imp) : (s.impose i).fuses = s.fuses := by simp [State.impose]
@[simp] theorem State.liftImp_fuses (s : State) (src : Nat) : (s.liftImp src).fuses = s.fuses := by simp [State.liftImp]
@[simp] theorem State.refreshXdis_fuses (s : State) : s.refreshXdis.fuses = s.fuses := by simp [State.refreshXdis]

@[simp] theorem State.logTrigger_fuses (s : State) (kind source : Nat) : (s.logTrigger kind source).fuses = s.fuses := by
  simp [State.logTrigger]

@[simp] theorem State.trigger_fuses (s : State) (kind source : Nat) : (s.trigger kind source).fuses = s.fuses := by simp [State.trigger]
@[simp] theorem State.refreshHobs_fuses (s : State) : s.refreshHobs.fuses = s.fuses := by simp [State.refreshHobs]
@[simp] theorem State.hobService_fuses (s : State) (n : Nat) (b : Bool) : (s.hobService n b).fuses = s.fuses := by simp [State.hobService]
@[simp] theorem State.rollEnter_fuses (s : State) (n : Nat) : (s.rollEnter n).fuses = s.fuses := by simp [State.rollEnter]
@[simp] theorem State.rollLeave_fuses (s : State) (h : Nat) : (s.rollLeave h).fuses = s.fuses := by simp [State.rollLeave]
@[simp] theorem State.rollAbandon_fuses (s : State) : s.rollAbandon.fuses = s.fuses := by simp [State.rollAbandon]
@[simp] theorem State.graphStop_fuses (s : State) : s.graphStop.fuses = s.fuses := by simp [State.graphStop]
@[simp] theorem State.refreshReact_fuses (s : State) : s.refreshReact.fuses = s.fuses := by simp [State.refreshReact]
@[simp] theorem State.brakeRelease_fuses (s : State) : s.brakeRelease.fuses = s.fuses := by simp [State.brakeRelease]
@[simp] theorem State.isoSend_fuses (s : State) (a : Nat) : (s.isoSend a).fuses = s.fuses := by simp [State.isoSend]
@[simp] theorem State.isoClaim_fuses (s : State) (a next : Nat) : (s.isoClaim a next).fuses = s.fuses := by simp [State.isoClaim]
@[simp] theorem State.refreshSec_fuses (s : State) : s.refreshSec.fuses = s.fuses := by simp [State.refreshSec]
@[simp] theorem State.startCan_fuses (s : State) : s.startCan.fuses = s.fuses := by simp [State.startCan]
@[simp] theorem State.refreshEth_fuses (s : State) (p : Nat) : (s.refreshEth p).fuses = s.fuses := by simp [State.refreshEth]
@[simp] theorem State.refreshNet_fuses (s : State) : s.refreshNet.fuses = s.fuses := by simp [State.refreshNet]
@[simp] theorem State.refreshMon_fuses (s : State) : s.refreshMon.fuses = s.fuses := by simp [State.refreshMon]
@[simp] theorem State.enterJoin_fuses (s : State) : s.enterJoin.fuses = s.fuses := by simp [State.enterJoin]

@[simp] theorem State.enterMode_fuses (s : State) (m : Mode) (cause source : Nat) : (s.enterMode m cause source).fuses = s.fuses := by
  simp [State.enterMode]

@[simp] theorem State.requestMode_fuses (s : State) (m : Mode) (cause source : Nat) : (s.requestMode m cause source).fuses = s.fuses := by
  simp [State.requestMode]

@[simp] theorem State.freeFlash_fuses (s : State) (a n : Nat) : (s.freeFlash a n).fuses = s.fuses := by simp [State.freeFlash]
@[simp] theorem State.freeKey_fuses (s : State) (k : Nat) : (s.freeKey k).fuses = s.fuses := by simp [State.freeKey]

@[simp] theorem State.nvmTorn_fuses (s : State) : s.nvmTorn.fuses = s.fuses := by
  unfold State.nvmTorn
  split <;> simp

@[simp] theorem State.resetWith_fuses (s : State) (c : Cause) : (s.resetWith c).fuses = s.fuses := by
  simp only [State.resetWith, State.ashRequest_fuses, State.setF_fuses, State.fuses_mk, State.fuses_eta, State.nvmTorn_fuses]

@[simp] theorem State.doReset_fuses (s : State) (c : Cause) : (s.doReset c).fuses = s.fuses := by simp [State.doReset]
@[simp] theorem State.resetBy_fuses (s : State) (c : Cause) (same : Bool) : (s.resetBy c same).fuses = s.fuses := by simp [State.resetBy]

/-! ### Margins (Machine/Margins.lean) -/

@[simp] theorem State.setBudgetBy_fuses (s : State) (low : State → State) (hlow : ∀ u, (low u).fuses = u.fuses) (m b : Nat) :
    (s.setBudgetBy low m b).fuses = s.fuses := by
  simp [State.setBudgetBy, hlow]

@[simp] theorem State.setValue_fuses (s : State) (m : Nat) (v : Int) : (s.setValue m v).fuses = s.fuses := by simp [State.setValue]
@[simp] theorem State.keptMargins_fuses (s : State) : s.keptMargins.fuses = s.fuses := by simp [State.keptMargins]

@[simp] theorem State.closeMargins_fuses (s : State) (low : State → State) (hlow : ∀ u, (low u).fuses = u.fuses) (baseline : Bool) :
    (s.closeMargins low baseline).fuses = s.fuses := by
  simp [State.closeMargins, hlow]

/-! ### Fault collector (Machine/Collector.lean) -/

@[simp] theorem State.setActive_fuses (s : State) (n : Nat) (b : Bool) : (s.setActive n b).fuses = s.fuses := by simp [State.setActive]
@[simp] theorem State.fltRecord_fuses (s : State) (n : Nat) : (s.fltRecord n).fuses = s.fuses := by simp [State.fltRecord]
@[simp] theorem State.startWait_fuses (s : State) (n : Nat) : (s.startWait n).fuses = s.fuses := by simp [State.startWait]
@[simp] theorem State.fltFreezeAct_fuses (s : State) (n : Nat) : (s.fltFreezeAct n).fuses = s.fuses := by simp [State.fltFreezeAct]
@[simp] theorem State.settle_fuses (s : State) (n : Nat) : (s.settle n).fuses = s.fuses := by simp [State.settle]
@[simp] theorem State.raiseInHold_fuses (s : State) (n : Nat) : (s.raiseInHold n).fuses = s.fuses := by simp [State.raiseInHold]

@[simp] theorem State.reactTime_fuses (s : State) (us : Option Nat) : (s.reactTime us).fuses = s.fuses := by
  unfold State.reactTime
  split <;> simp

@[simp] theorem State.reactSafeHold_fuses (s : State) (n : Nat) (us : Option Nat) : (s.reactSafeHold n us).fuses = s.fuses := by
  simp [State.reactSafeHold]

@[simp] theorem State.nowActing_fuses (s : State) (n : Nat) : (s.nowActing n).fuses = s.fuses := by simp [State.nowActing]

@[simp] theorem State.takeAction_fuses (s : State) (n a : Nat) (us : Option Nat) : (s.takeAction n a us).fuses = s.fuses := by
  unfold State.takeAction
  dsimp only
  repeat' split
  all_goals simp only [State.nowActing_fuses, State.requestMode_fuses, State.reactSafeHold_fuses, State.doReset_fuses, State.fuses_mk,
    State.fuses_eta]

@[simp] theorem State.fltAct_fuses (s : State) (n : Nat) (us : Option Nat) : (s.fltAct n us).fuses = s.fuses := by simp [State.fltAct]

@[simp] theorem State.firstFatal_fuses (s before : State) (l : List Nat) : (s.firstFatal before l).fuses = s.fuses := by
  simp [State.firstFatal]

@[simp] theorem State.doRaise_fuses (s : State) (n : Nat) (us : Option Nat) : (s.doRaise n us).fuses = s.fuses := by simp [State.doRaise]

@[simp] theorem State.raiseTimed_fuses (s : State) (n : Nat) (us : Option Nat) : (s.raiseTimed n us).fuses = s.fuses := by
  simp [State.raiseTimed]

@[simp] theorem State.raise_fuses (s : State) (n : Nat) : (s.raise n).fuses = s.fuses := by simp [State.raise]

@[simp] theorem State.levelTimed_fuses (s : State) (n : Nat) (us : Option Nat) : (s.levelTimed n us).fuses = s.fuses := by
  simp [State.levelTimed]

@[simp] theorem State.raiseLevel_fuses (s : State) (n : Nat) : (s.raiseLevel n).fuses = s.fuses := by simp [State.raiseLevel]
@[simp] theorem State.clearLevel_fuses (s : State) (n : Nat) : (s.clearLevel n).fuses = s.fuses := by simp [State.clearLevel]

@[simp] theorem State.unitHoldOn_fuses (s : State) (n : Nat) : (s.unitHoldOn n).fuses = s.fuses := by
  simp only [State.unitHoldOn, State.impose_fuses, State.setFlag_fuses, State.setF_fuses, State.refreshPower_fuses, State.fuses_mk,
    State.fuses_eta, State.ite_fuses, ite_self]
  split
  · split <;> simp only [State.impose_fuses, State.fuses_mk, State.fuses_eta]
  · rfl

@[simp] theorem State.unitHoldOff_fuses (s : State) (n : Nat) : (s.unitHoldOff n).fuses = s.fuses := by
  simp only [State.unitHoldOff, State.setFlag_fuses, State.liftImp_fuses, State.refreshPower_fuses, State.refreshSupply_fuses,
    State.fuses_mk, State.fuses_eta, State.ite_fuses, ite_self, State.when_fuses, State.each_fuses, implies_true]

@[simp] theorem State.detected_fuses (s : State) (n : Nat) : (s.detected n).fuses = s.fuses := by
  unfold State.detected
  repeat' split
  all_goals simp

@[simp] theorem State.raiseHold_fuses (s : State) (n : Nat) : (s.raiseHold n).fuses = s.fuses := by simp [State.raiseHold]

@[simp] theorem State.foundAgain_fuses (s : State) (n : Nat) (before : State) : (s.foundAgain n before).fuses = s.fuses := by
  simp [State.foundAgain]

@[simp] theorem State.refreshLinks_fuses (s : State) : s.refreshLinks.fuses = s.fuses := by simp [State.refreshLinks]
@[simp] theorem State.showTries_fuses (s : State) (n t : Nat) : (s.showTries n t).fuses = s.fuses := by simp [State.showTries]

@[simp] theorem State.clearExpiry_fuses (s : State) (n : Nat) (persists : Bool) : (s.clearExpiry n persists).fuses = s.fuses := by
  simp [State.clearExpiry]

@[simp] theorem State.tryReset_fuses (s : State) (n : Nat) : (s.tryReset n).fuses = s.fuses := by simp [State.tryReset]
@[simp] theorem State.countRetry_fuses (s : State) : s.countRetry.fuses = s.fuses := by simp [State.countRetry]
@[simp] theorem State.transient_fuses (s : State) : s.transient.fuses = s.fuses := by simp [State.transient]
@[simp] theorem State.lasting_fuses (s : State) : s.lasting.fuses = s.fuses := by simp [State.lasting]
@[simp] theorem State.hobOut_fuses (s : State) (n st : Nat) : (s.hobOut n st).fuses = s.fuses := by simp [State.hobOut]
@[simp] theorem State.retireCluster_fuses (s : State) (c : Nat) : (s.retireCluster c).fuses = s.fuses := by simp [State.retireCluster]

/-! ### Set-point sources (Machine/Setpoint.lean) -/

@[simp] theorem State.setSp_fuses (s : State) (c : Nat) (x : Sp) : (s.setSp c x).fuses = s.fuses := by simp [State.setSp]

@[simp] theorem State.spMessage_fuses (s : State) (c : Nat) (alt : Bool) (b : List Byte) : (s.spMessage c alt b).fuses = s.fuses := by
  simp [State.spMessage]

@[simp] theorem State.spFlue_fuses (s : State) (slot : Nat) (payload : List Byte) : (s.spFlue slot payload).fuses = s.fuses := by
  simp [State.spFlue]

@[simp] theorem State.spCan_fuses (s : State) (n : Nat) (f : CanMsg) : (s.spCan n f).fuses = s.fuses := by simp [State.spCan]
@[simp] theorem State.refreshAlt_fuses (s : State) : s.refreshAlt.fuses = s.fuses := by simp [State.refreshAlt]
@[simp] theorem State.spUse_fuses (s : State) (c : Nat) (alt : Bool) : (s.spUse c alt).fuses = s.fuses := by simp [State.spUse]
@[simp] theorem State.spLoss_fuses (s : State) (c : Nat) (alt : Bool) : (s.spLoss c alt).fuses = s.fuses := by simp [State.spLoss]

@[simp] theorem State.spIntake_fuses (s : State) (c : Nat) : (s.spIntake c).fuses = s.fuses := by
  unfold State.spIntake
  dsimp only
  repeat' split
  all_goals simp

@[simp] theorem State.spTimeout_fuses (s : State) (c : Nat) (alt : Bool) : (s.spTimeout c alt).fuses = s.fuses := by simp [State.spTimeout]
@[simp] theorem State.shutdownEdge_fuses (s : State) : s.shutdownEdge.fuses = s.fuses := by simp [State.shutdownEdge]

@[simp] theorem State.shutdownRequest_fuses (s : State) (holds : Bool) : (s.shutdownRequest holds).fuses = s.fuses := by
  simp [State.shutdownRequest]

/-! ### CAN (Machine/Can.lean) -/

@[simp] theorem State.setCan_fuses (s : State) (n : Nat) (c : Can) : (s.setCan n c).fuses = s.fuses := by simp [State.setCan]

@[simp] theorem State.setCanBuf_fuses (s : State) (n b : Nat) (x : CanBuf) : (s.setCanBuf n b x).fuses = s.fuses := by
  simp [State.setCanBuf]

@[simp] theorem State.canResult_fuses (s : State) (n b r : Nat) : (s.canResult n b r).fuses = s.fuses := by
  unfold State.canResult
  split <;> simp

@[simp] theorem State.canLoad_fuses (s : State) (n b : Nat) (f : CanMsg) : (s.canLoad n b f).fuses = s.fuses := by
  unfold State.canLoad
  split <;> simp

@[simp] theorem State.canCancel_fuses (s : State) (n b : Nat) : (s.canCancel n b).fuses = s.fuses := by
  unfold State.canCancel
  split <;> simp

@[simp] theorem State.canTx_fuses (s : State) (n b id ctl : Nat) (words : List Word) : (s.canTx n b id ctl words).fuses = s.fuses := by
  simp [State.canTx]

@[simp] theorem State.canArbitrate_fuses (s : State) (n : Nat) (won : Bool) : (s.canArbitrate n won).fuses = s.fuses := by
  unfold State.canArbitrate
  repeat' split
  all_goals simp

@[simp] theorem State.canErr_fuses (s : State) (n tec rec' : Nat) : (s.canErr n tec rec').fuses = s.fuses := by simp [State.canErr]
@[simp] theorem State.canBusOff_fuses (s : State) (n : Nat) : (s.canBusOff n).fuses = s.fuses := by simp [State.canBusOff]

@[simp] theorem State.canThen_fuses (s : State) (n b : Nat) (next : Option CanMsg) : (s.canThen n b next).fuses = s.fuses := by
  simp [State.canThen]

@[simp] theorem State.canFailed_fuses (s : State) (n b r : Nat) : (s.canFailed n b r).fuses = s.fuses := by
  unfold State.canFailed
  dsimp only
  repeat' split
  all_goals simp

@[simp] theorem State.canFrameEnd_fuses (s : State) (n how lec : Nat) : (s.canFrameEnd n how lec).fuses = s.fuses := by
  unfold State.canFrameEnd
  repeat' split
  all_goals simp

@[simp] theorem State.canRecover_fuses (s : State) (n : Nat) : (s.canRecover n).fuses = s.fuses := by simp [State.canRecover]
@[simp] theorem State.recGood_fuses (s : State) (n : Nat) : (s.recGood n).2.fuses = s.fuses := by simp [State.recGood]

@[simp] theorem State.canReceive_fuses (s : State) (n : Nat) (f : CanMsg) (t : Nat) (err : Option (Nat × Bool)) :
    (s.canReceive n f t err).fuses = s.fuses := by
  unfold State.canReceive
  dsimp only
  repeat' split
  all_goals simp

@[simp] theorem State.isoContend_fuses (s : State) (a : Nat) : (s.isoContend a).fuses = s.fuses := by
  unfold State.isoContend
  dsimp only
  repeat' split
  all_goals simp

@[simp] theorem State.isoOther_fuses (s : State) (f : CanMsg) : (s.isoOther f).fuses = s.fuses := by simp [State.isoOther]
@[simp] theorem State.isoRequest_fuses (s : State) (f : CanMsg) : (s.isoRequest f).fuses = s.fuses := by simp [State.isoRequest]
@[simp] theorem State.isoProcess_fuses (s : State) (f : CanMsg) : (s.isoProcess f).fuses = s.fuses := by simp [State.isoProcess]

@[simp] theorem State.isoFrame_fuses (s : State) (f : CanMsg) : (s.isoFrame f).fuses = s.fuses := by
  unfold State.isoFrame
  repeat' split
  all_goals simp

@[simp] theorem State.canDrain_fuses (s : State) : s.canDrain.fuses = s.fuses := by simp [State.canDrain]

@[simp] theorem State.claimStands_fuses (s : State) : s.claimStands.fuses = s.fuses := by
  unfold State.claimStands
  split <;> simp

/-! ### Ethernet (Machine/Ethernet.lean) -/

@[simp] theorem State.setEth_fuses (s : State) (p : Nat) (e : Eth) : (s.setEth p e).fuses = s.fuses := by simp [State.setEth]
@[simp] theorem State.ethSend_fuses (s : State) (p : Nat) (o : EthOut) : (s.ethSend p o).fuses = s.fuses := by simp [State.ethSend]
@[simp] theorem State.ethResume_fuses (s : State) (p : Nat) : (s.ethResume p).fuses = s.fuses := by simp [State.ethResume]
@[simp] theorem State.pauseSend_fuses (s : State) (p quanta : Nat) : (s.pauseSend p quanta).fuses = s.fuses := by simp [State.pauseSend]
@[simp] theorem State.setFill_fuses (s : State) (p n : Nat) : (s.setFill p n).fuses = s.fuses := by simp [State.setFill]
@[simp] theorem State.pauseRepeat_fuses (s : State) (p : Nat) : (s.pauseRepeat p).fuses = s.fuses := by simp [State.pauseRepeat]
@[simp] theorem State.lowWater_fuses (s : State) (p : Nat) : (s.lowWater p).fuses = s.fuses := by simp [State.lowWater]

@[simp] theorem State.arpLearn_fuses (s : State) (p ip : Nat) (mac : List Byte) : (s.arpLearn p ip mac).fuses = s.fuses := by
  simp [State.arpLearn]

@[simp] theorem State.arpAsk_fuses (s : State) (p ip : Nat) : (s.arpAsk p ip).fuses = s.fuses := by simp [State.arpAsk]

@[simp] theorem State.udpSend_fuses (s : State) (p : Nat) (feed : Bool) (ip port : Nat) (data : List Byte) :
    (s.udpSend p feed ip port data).fuses = s.fuses := by
  unfold State.udpSend
  split <;> simp

@[simp] theorem State.ethTx_fuses (s : State) (p m : Nat) (words : List Word) : (s.ethTx p m words).fuses = s.fuses := by simp [State.ethTx]
@[simp] theorem State.ethDrop_fuses (s : State) (p r : Nat) (b : List Byte) : (s.ethDrop p r b).fuses = s.fuses := by simp [State.ethDrop]

@[simp] theorem State.pauseReceived_fuses (s : State) (p : Nat) (body : List Byte) : (s.pauseReceived p body).fuses = s.fuses := by
  simp [State.pauseReceived]

@[simp] theorem State.arpReceived_fuses (s : State) (p : Nat) (body : List Byte) : (s.arpReceived p body).fuses = s.fuses := by
  unfold State.arpReceived
  dsimp only
  repeat' split
  all_goals simp

@[simp] theorem State.ptpReceived_fuses (s : State) (p t : Nat) (m : List Byte) : (s.ptpReceived p t m).fuses = s.fuses := by
  simp [State.ptpReceived]

@[simp] theorem State.ethReceive_fuses (s : State) (p : Nat) (b : List Byte) (fcs : Bool) (t : Nat) :
    (s.ethReceive p b fcs t).fuses = s.fuses := by
  cases hk : (s.eth p).echo <;>
    simp only [State.ethReceive, hk, State.ethDrop_fuses, State.pauseReceived_fuses, State.arpReceived_fuses, State.ptpReceived_fuses,
      State.ethSend_fuses, State.setFill_fuses, State.setEth_fuses, State.incF_fuses, State.ite_fuses, State.fuses_mk, State.fuses_eta,
      ite_self]

@[simp] theorem State.phyPoll_fuses (s : State) (p : Nat) (regs : List Nat) : (s.phyPoll p regs).fuses = s.fuses := by simp [State.phyPoll]
@[simp] theorem State.ptpSync_fuses (s : State) (p t : Nat) : (s.ptpSync p t).fuses = s.fuses := by simp [State.ptpSync]
@[simp] theorem State.ethTick_fuses (s : State) : s.ethTick.fuses = s.fuses := by simp [State.ethTick]

/-! ### Tile feed and map store (Machine/Feed.lean) -/

@[simp] theorem State.setSession_fuses (s : State) (x : Option Session) : (s.setSession x).fuses = s.fuses := by simp [State.setSession]

@[simp] theorem State.feedSend_fuses (s : State) (ty : Nat) (payload : List Byte) : (s.feedSend ty payload).fuses = s.fuses := by
  unfold State.feedSend
  split <;> simp

@[simp] theorem State.feedError_fuses (s : State) (code seq detail : Nat) : (s.feedError code seq detail).fuses = s.fuses := by
  simp [State.feedError]

@[simp] theorem State.sendBack_fuses (s : State) (e : MapEnt) : (s.sendBack e).fuses = s.fuses := by simp [State.sendBack]

@[simp] theorem State.mapFree_fuses (s : State) (k : TileKey) : (s.mapFree k).fuses = s.fuses := by
  unfold State.mapFree
  split <;> simp only [State.sendBack_fuses, State.fuses_mk, State.fuses_eta, State.when_fuses]

theorem State.mapSlotBut_fuses {s t : State} {keep : List TileKey} {n : Nat} (h : s.mapSlotBut keep = some (n, t)) : t.fuses = s.fuses := by
  unfold State.mapSlotBut at h
  dsimp only at h
  repeat' split at h
  all_goals cases h
  all_goals simp

theorem State.mapSlot_fuses {s t : State} {n : Nat} (h : s.mapSlot = some (n, t)) : t.fuses = s.fuses := State.mapSlotBut_fuses h
@[simp] theorem State.mapPut_fuses (s : State) (e : MapEnt) : (s.mapPut e).fuses = s.fuses := by simp [State.mapPut]

@[simp] theorem State.mapUnknown_fuses (s : State) (k : TileKey) : (s.mapUnknown k).fuses = s.fuses := by
  unfold State.mapUnknown
  split
  · simp
  · split
    next h => simp [State.mapSlot_fuses h]
    · rfl

@[simp] theorem State.tileWrite_fuses (s : State) (slot : Nat) (b : List Byte) : (s.tileWrite slot b).fuses = s.fuses := by
  simp [State.tileWrite]

@[simp] theorem State.mapInstall_fuses (s : State) (a : Asm) : (s.mapInstall a).fuses = s.fuses := by
  unfold State.mapInstall
  split
  · dsimp only
    split_ifs <;> simp
  · split
    next h => simp [State.mapSlot_fuses h]
    · simp

@[simp] theorem State.eventDrop_fuses (s : State) (e : TEvent) : (s.eventDrop e).fuses = s.fuses := by simp [State.eventDrop]

@[simp] theorem State.cellWrite_fuses (s : State) (e : MapEnt) (off v : Nat) : (s.cellWrite e off v).fuses = s.fuses := by
  simp [State.cellWrite]

@[simp] theorem State.rasterOne_fuses (s : State) (e : TEvent) : (s.rasterOne e).fuses = s.fuses := by
  unfold State.rasterOne
  refine (State.when_fuses _ _ _ (by rw [State.setFlag_fuses, State.incF_fuses])).trans
    ((State.each_fuses _ _ _ fun u k => ?_).trans ((State.each_fuses _ _ _ fun u c => ?_).trans (State.foldl_fuses _ _ _ fun u k => ?_)))
  · split
    · exact State.mapPut_fuses _ _
    · rfl
  · split
    · split
      · rfl
      · exact State.cellWrite_fuses _ _ _ _
    · rfl
  · split
    next h => rw [State.mapPut_fuses, State.tileWrite_fuses, State.mapSlotBut_fuses h]
    · rfl

@[simp] theorem State.markOne_fuses (s : State) (c : TileKey × Nat) : (s.markOne c).fuses = s.fuses := by
  unfold State.markOne
  split <;> simp

@[simp] theorem State.refreshStore_fuses (s : State) : s.refreshStore.fuses = s.fuses := by simp [State.refreshStore]
@[simp] theorem State.mapSnapshot_fuses (s : State) : s.mapSnapshot.fuses = s.fuses := by simp [State.mapSnapshot]
@[simp] theorem State.leaveRemoved_fuses (s : State) : s.leaveRemoved.fuses = s.fuses := by simp [State.leaveRemoved]
@[simp] theorem State.mapSlotStart_fuses (s : State) : s.mapSlotStart.fuses = s.fuses := by simp [State.mapSlotStart]

@[simp] theorem State.mapCycle_fuses (s : State) : s.mapCycle.fuses = s.fuses := by
  unfold State.mapCycle
  dsimp only
  repeat' split
  all_goals simp

@[simp] theorem State.tileReq_fuses (s : State) (l : List TileKey) : (s.tileReq l).fuses = s.fuses := by simp [State.tileReq]
@[simp] theorem State.pinUpdate_fuses (s : State) : s.pinUpdate.fuses = s.fuses := by simp [State.pinUpdate]

@[simp] theorem State.credit_fuses (s : State) (t : Nat) : (s.credit t).fuses = s.fuses := by
  unfold State.credit
  split <;> simp

@[simp] theorem State.feedDrain_fuses (s : State) (d : Dgram) : (s.feedDrain d).fuses = s.fuses := by simp [State.feedDrain]

@[simp] theorem State.feedAccept_fuses (s : State) (x : Session) (seq : Nat) : (s.feedAccept x seq).fuses = s.fuses := by
  simp [State.feedAccept]

@[simp] theorem State.feedTake_fuses (s : State) (ty : Nat) (f : State → Dgram → Session → Nat → List Byte → State)
    (hf : ∀ u d x q b, (f u d x q b).fuses = u.fuses) : (s.feedTake ty f).fuses = s.fuses := by
  unfold State.feedTake
  dsimp only
  repeat' split
  all_goals simp [hf]

@[simp] theorem State.refreshIso_fuses (s : State) : s.refreshIso.fuses = s.fuses := by simp [State.refreshIso]
@[simp] theorem State.refreshEventsOn_fuses (s : State) : s.refreshEventsOn.fuses = s.fuses := by simp [State.refreshEventsOn]
@[simp] theorem State.sessionEnd_fuses (s : State) : s.sessionEnd.fuses = s.fuses := by simp [State.sessionEnd]
@[simp] theorem State.newSession_fuses (s : State) : (s.newSession).2.fuses = s.fuses := by simp [State.newSession]

@[simp] theorem State.hello_fuses (s : State) (d : Dgram) (seq : Nat) (p : List Byte) : (s.hello d seq p).fuses = s.fuses := by
  unfold State.hello
  dsimp only
  repeat' split
  all_goals simp

@[simp] theorem State.poseMsg_fuses (s : State) (d : Dgram) (x : Session) (seq : Nat) (p : List Byte) :
    (s.poseMsg d x seq p).fuses = s.fuses := by
  simp [State.poseMsg]

@[simp] theorem State.tileMsg_fuses (s : State) (d : Dgram) (x : Session) (seq : Nat) (p : List Byte) :
    (s.tileMsg d x seq p).fuses = s.fuses := by
  simp [State.tileMsg]

@[simp] theorem State.tileTimeout_fuses (s : State) (k : TileKey) : (s.tileTimeout k).fuses = s.fuses := by
  unfold State.tileTimeout
  split <;> simp

@[simp] theorem State.setEvents_fuses (s : State) (l : List TEvent) : (s.setEvents l).fuses = s.fuses := by simp [State.setEvents]

@[simp] theorem State.eventsMsg_fuses (s : State) (d : Dgram) (x : Session) (seq : Nat) (p : List Byte) :
    (s.eventsMsg d x seq p).fuses = s.fuses := by
  simp [State.eventsMsg]

@[simp] theorem State.setpointMsg_fuses (s : State) (d : Dgram) (x : Session) (seq : Nat) (p : List Byte) :
    (s.setpointMsg d x seq p).fuses = s.fuses := by
  simp [State.setpointMsg]

@[simp] theorem State.dropMsg_fuses (s : State) (d : Dgram) (x : Session) (seq : Nat) (p : List Byte) :
    (s.dropMsg d x seq p).fuses = s.fuses := by
  unfold State.dropMsg
  dsimp only
  repeat' split
  all_goals simp

@[simp] theorem State.poseFree_fuses (s : State) : s.poseFree.fuses = s.fuses := by simp [State.poseFree]
@[simp] theorem State.poseTick_fuses (s : State) (t : Nat) : (s.poseTick t).fuses = s.fuses := by simp [State.poseTick]

/-! ### Bridges and carriers (Machine/Motor.lean) -/

@[simp] theorem State.pwmWrite_fuses (s : State) (b : Nat) (d : List Word) : (s.pwmWrite b d).fuses = s.fuses := by simp [State.pwmWrite]

@[simp] theorem State.bridgeModeWrite_fuses (s : State) (b inst : Nat) (v : Word) : (s.bridgeModeWrite b inst v).fuses = s.fuses := by
  simp [State.bridgeModeWrite]

@[simp] theorem State.halfWrite_fuses (s : State) (b n : Nat) : (s.halfWrite b n).fuses = s.fuses := by
  unfold State.halfWrite
  dsimp only
  repeat' split
  all_goals simp

@[simp] theorem State.halfRefresh_fuses (s : State) (b : Nat) (falling : Bool) : (s.halfRefresh b falling).fuses = s.fuses := by
  simp [State.halfRefresh]

@[simp] theorem State.halfPlan_fuses (s : State) (b n : Nat) (falling : Bool) : (s.halfPlan b n falling).fuses = s.fuses := by
  simp [State.halfPlan]

@[simp] theorem State.shootRelease_fuses (s : State) (b : Nat) (before : Nat → Bool) : (s.shootRelease b before).fuses = s.fuses := by
  simp [State.shootRelease]

@[simp] theorem State.halfBridge_fuses (s : State) (n : Nat) (falling : Bool) (b : Nat) : (s.halfBridge n falling b).fuses = s.fuses := by
  simp [State.halfBridge]

@[simp] theorem State.halfEnds_fuses (s : State) : s.halfEnds.fuses = s.fuses := by simp [State.halfEnds]
@[simp] theorem State.halfStart_fuses (s : State) (n : Nat) : (s.halfStart n).fuses = s.fuses := by simp [State.halfStart]

@[simp] theorem State.shuntSample_fuses (s : State) (b code : Nat) : (s.shuntSample b code).fuses = s.fuses := by
  unfold State.shuntSample
  dsimp only
  repeat' split
  all_goals simp

/-! ### Analogue acquisition (Machine/Analogue.lean) -/

@[simp] theorem State.setConv_fuses (s : State) (v : Nat) (c : Conv) : (s.setConv v c).fuses = s.fuses := by simp [State.setConv]
@[simp] theorem State.setConvState_fuses (s : State) (v st : Nat) : (s.setConvState v st).fuses = s.fuses := by simp [State.setConvState]
@[simp] theorem State.adcTrigger_fuses (s : State) (code : Nat) : (s.adcTrigger code).fuses = s.fuses := by simp [State.adcTrigger]
@[simp] theorem State.convResume_fuses (s : State) (v : Nat) : (s.convResume v).fuses = s.fuses := by simp [State.convResume]

@[simp] theorem State.injBegin_fuses (s : State) (st v : Nat) (acq inConv : Bool) : (s.injBegin st v acq inConv).fuses = s.fuses := by
  simp [State.injBegin]

@[simp] theorem State.trigLost_fuses (s : State) : s.trigLost.fuses = s.fuses := by simp [State.trigLost]

@[simp] theorem State.sequenceStart_fuses (s : State) (q : AdcSeq) (acq inConv : Nat) : (s.sequenceStart q acq inConv).fuses = s.fuses := by
  unfold State.sequenceStart
  repeat' split
  all_goals simp

@[simp] theorem State.adcStart_fuses (s : State) (reg inj : Nat) : (s.adcStart reg inj).fuses = s.fuses := by simp [State.adcStart]

@[simp] theorem State.publish_fuses (s : State) (v c code t : Nat) (hi lo inj : Bool) :
    (s.publish v c code t hi lo inj).fuses = s.fuses := by
  simp [State.publish]

@[simp] theorem State.overRange_fuses (s : State) (c : Nat) : (s.overRange c).fuses = s.fuses := by simp [State.overRange]
@[simp] theorem State.convCount_fuses (s : State) (v n : Nat) : (s.convCount v n).fuses = s.fuses := by simp [State.convCount]

@[simp] theorem State.testConversion_fuses (s : State) (t c : Nat) (x : Nat × Int) : (s.testConversion t c x).fuses = s.fuses := by
  simp [State.testConversion]

@[simp] theorem State.pairCompare_fuses (s : State) (p a b : Nat) (ovr : Bool) : (s.pairCompare p a b ovr).fuses = s.fuses := by
  simp [State.pairCompare]

@[simp] theorem State.injEnd_fuses (s : State) (v : Nat) : (s.injEnd v).fuses = s.fuses := by simp [State.injEnd]

@[simp] theorem State.owStart_fuses (s : State) : s.owStart.fuses = s.fuses := by
  unfold State.owStart
  split <;> simp

@[simp] theorem State.setOpen_fuses (s : State) (c : Nat) (b : Bool) : (s.setOpen c b).fuses = s.fuses := by simp [State.setOpen]
@[simp] theorem State.owEnd_fuses (s : State) : s.owEnd.fuses = s.fuses := by simp [State.owEnd]

@[simp] theorem State.owConversion_fuses (s : State) (x : OwTest) (code : Nat) : (s.owConversion x code).fuses = s.fuses := by
  unfold State.owConversion
  repeat' split
  all_goals simp

theorem State.convAdvance_fuses (s : State) (v : Nat) : ∀ x ∈ s.convAdvance v, x.2.2.fuses = s.fuses := by
  unfold State.convAdvance
  dsimp only
  repeat' split
  all_goals simp

@[simp] theorem State.pairStep_fuses (s : State) (v c code t : Nat) (hi lo under : Bool) :
    (s.pairStep v c code t hi lo under).fuses = s.fuses := by
  unfold State.pairStep
  dsimp only
  repeat' split
  all_goals simp

@[simp] theorem State.setFailed_fuses (s : State) (v : Nat) (b : Bool) : (s.setFailed v b).fuses = s.fuses := by simp [State.setFailed]

@[simp] theorem State.refJudge_fuses (s : State) (v bg gnd : Nat) (again : Bool) : (s.refJudge v bg gnd again).fuses = s.fuses := by
  simp [State.refJudge]

@[simp] theorem State.refConversion_fuses (s : State) (v code : Nat) : (s.refConversion v code).fuses = s.fuses := by
  unfold State.refConversion
  dsimp only
  repeat' split
  all_goals simp

@[simp] theorem State.refConverts_fuses (s : State) (v : Nat) (inputs : Int × Int) : (s.refConverts v inputs).fuses = s.fuses := by
  simp [State.refConverts]

@[simp] theorem State.refOne_fuses (s : State) (v : Nat) (first again : Int × Int) : (s.refOne v first again).fuses = s.fuses := by
  simp [State.refOne]

@[simp] theorem State.refAll_fuses (s : State) (first again : List (Int × Int)) : (s.refAll first again).fuses = s.fuses := by
  simp [State.refAll]

@[simp] theorem State.referenceCheck_fuses (s : State) : s.referenceCheck.fuses = s.fuses := by simp [State.referenceCheck]

@[simp] theorem State.conversion_fuses (s : State) (v : Nat) (input : Int) (t : Nat) (settled : Bool) :
    (s.conversion v input t settled).fuses = s.fuses := by
  unfold State.conversion
  split
  · rfl
  split
  · rfl
  next c k s1 h =>
    have h1 : s1.fuses = s.fuses := State.convAdvance_fuses s v _ h
    dsimp only
    split <;> split <;> simp [h1]

@[simp] theorem State.keepIntake_fuses (s before : State) : (s.keepIntake before).fuses = s.fuses := by simp [State.keepIntake]
@[simp] theorem State.adcTick_fuses (s : State) (t : Nat) : (s.adcTick t).fuses = s.fuses := by simp [State.adcTick]

/-! ### Gate drive (Machine/GateDrive.lean) -/

@[simp] theorem State.desat_fuses (s : State) (g : Nat) : (s.desat g).fuses = s.fuses := by simp [State.desat]
@[simp] theorem State.overcurrent_fuses (s : State) (b : Nat) : (s.overcurrent b).fuses = s.fuses := by simp [State.overcurrent]
@[simp] theorem State.gateStuck_fuses (s : State) (g : Nat) : (s.gateStuck g).fuses = s.fuses := by simp [State.gateStuck]

@[simp] theorem State.shootThrough_fuses (s : State) (g : Nat) (both : Bool) : (s.shootThrough g both).fuses = s.fuses := by
  simp [State.shootThrough]

@[simp] theorem State.bootRefresh_fuses (s : State) (g : Nat) : (s.bootRefresh g).fuses = s.fuses := by simp [State.bootRefresh]
@[simp] theorem State.bootUv_fuses (s : State) (g : Nat) : (s.bootUv g).fuses = s.fuses := by simp [State.bootUv]
@[simp] theorem State.linkSeen_fuses (s : State) (l u : Nat) : (s.linkSeen l u).fuses = s.fuses := by simp [State.linkSeen]
@[simp] theorem State.chopperSwitch_fuses (s : State) (l u : Nat) : (s.chopperSwitch l u).fuses = s.fuses := by simp [State.chopperSwitch]
@[simp] theorem State.chopperFail_fuses (s : State) (l : Nat) : (s.chopperFail l).fuses = s.fuses := by simp [State.chopperFail]
@[simp] theorem State.linkOv_fuses (s : State) (l u : Nat) : (s.linkOv l u).fuses = s.fuses := by simp [State.linkOv]
@[simp] theorem State.linkTrip_fuses (s : State) (l u : Nat) : (s.linkTrip l u).fuses = s.fuses := by simp [State.linkTrip]
@[simp] theorem State.solShort_fuses (s : State) (k : Nat) : (s.solShort k).fuses = s.fuses := by simp [State.solShort]
@[simp] theorem State.solOpen_fuses (s : State) (k : Nat) (holds : Bool) : (s.solOpen k holds).fuses = s.fuses := by simp [State.solOpen]

@[simp] theorem State.solDeviation_fuses (s : State) (k : Nat) (holds : Bool) : (s.solDeviation k holds).fuses = s.fuses := by
  simp [State.solDeviation]

@[simp] theorem State.enReadback_fuses (s : State) (e : Nat) (rb : Bool) : (s.enReadback e rb).fuses = s.fuses := by simp [State.enReadback]
@[simp] theorem State.ssFault_fuses (s : State) (i : Nat) : (s.ssFault i).fuses = s.fuses := by simp [State.ssFault]
@[simp] theorem State.supplyTest_fuses (s : State) (i : Nat) : (s.supplyTest i).fuses = s.fuses := by simp [State.supplyTest]

@[simp] theorem State.pulseStart_fuses (s : State) (low : Bool) : (s.pulseStart low).fuses = s.fuses := by
  unfold State.pulseStart
  split <;> simp

@[simp] theorem State.pulseRelease_fuses (s : State) : s.pulseRelease.fuses = s.fuses := by simp [State.pulseRelease]
@[simp] theorem State.xdisJoin_fuses (s : State) : s.xdisJoin.fuses = s.fuses := by simp [State.xdisJoin]

@[simp] theorem State.xdisOkSeen_fuses (s : State) (leads : List ChFrame) : (s.xdisOkSeen leads).fuses = s.fuses := by
  simp [State.xdisOkSeen]

@[simp] theorem State.xdisInLow_fuses (s : State) : s.xdisInLow.fuses = s.fuses := by simp [State.xdisInLow]
@[simp] theorem State.xdisInHigh_fuses (s : State) : s.xdisInHigh.fuses = s.fuses := by simp [State.xdisInHigh]
@[simp] theorem State.xdisGrace_fuses (s : State) : s.xdisGrace.fuses = s.fuses := by simp [State.xdisGrace]

/-! ### Position interfaces (Machine/Position.lean) -/

@[simp] theorem State.setPos_fuses (s : State) (i : Nat) (p : Pos) : (s.setPos i p).fuses = s.fuses := by simp [State.setPos]
@[simp] theorem State.cmpFire_fuses (s : State) (i t : Nat) : (s.cmpFire i t).fuses = s.fuses := by simp [State.cmpFire]

@[simp] theorem State.compareWrite_fuses (s : State) (i : Nat) (w : Word) : (s.compareWrite i w).fuses = s.fuses := by
  simp [State.compareWrite]

@[simp] theorem State.setCount_fuses (s : State) (i t : Nat) (w : Word) : (s.setCount i t w).fuses = s.fuses := by simp [State.setCount]

@[simp] theorem State.countStep_fuses (s : State) (i t : Nat) (new : Int) (up setsDir : Bool) :
    (s.countStep i t new up setsDir).fuses = s.fuses := by
  simp [State.countStep]

@[simp] theorem State.countOne_fuses (s : State) (i t : Nat) (up setsDir : Bool) : (s.countOne i t up setsDir).fuses = s.fuses := by
  simp [State.countOne]

@[simp] theorem State.setRaw_fuses (s : State) (i t v held : Nat) : (s.setRaw i t v held).fuses = s.fuses := by simp [State.setRaw]
@[simp] theorem State.setLevels_fuses (s : State) (i v : Nat) : (s.setLevels i v).fuses = s.fuses := by simp [State.setLevels]
@[simp] theorem State.quadError_fuses (s : State) (i : Nat) : (s.quadError i).fuses = s.fuses := by simp [State.quadError]
@[simp] theorem State.hallError_fuses (s : State) (i : Nat) : (s.hallError i).fuses = s.fuses := by simp [State.hallError]
@[simp] theorem State.indexMismatch_fuses (s : State) (i : Nat) : (s.indexMismatch i).fuses = s.fuses := by simp [State.indexMismatch]
@[simp] theorem State.holdCand_fuses (s : State) (i : Nat) (c : Word) : (s.holdCand i c).fuses = s.fuses := by simp [State.holdCand]
@[simp] theorem State.indexEdge_fuses (s : State) (i t : Nat) : (s.indexEdge i t).fuses = s.fuses := by simp [State.indexEdge]

@[simp] theorem State.indexChange_fuses (s : State) (i t : Nat) (rising : Bool) (held : Nat) :
    (s.indexChange i t rising held).fuses = s.fuses := by
  simp [State.indexChange]

@[simp] theorem State.inputChange_fuses (s : State) (i t v held : Nat) : (s.inputChange i t v held).fuses = s.fuses := by
  unfold State.inputChange
  dsimp only
  repeat' split
  all_goals simp

@[simp] theorem State.probeEdge_fuses (s : State) (i t : Nat) (rising : Bool) (held : Nat) :
    (s.probeEdge i t rising held).fuses = s.fuses := by
  simp [State.probeEdge]

@[simp] theorem State.dataPin_fuses (s : State) (i t : Nat) (b : Bool) : (s.dataPin i t b).fuses = s.fuses := by simp [State.dataPin]
@[simp] theorem State.serialStart_fuses (s : State) (i t : Nat) : (s.serialStart i t).fuses = s.fuses := by simp [State.serialStart]

@[simp] theorem State.serialFail_fuses (s : State) (i : Nat) (again : Bool) : (s.serialFail i again).fuses = s.fuses := by
  simp [State.serialFail]

@[simp] theorem State.serialGood_fuses (s : State) (i t data : Nat) : (s.serialGood i t data).fuses = s.fuses := by simp [State.serialGood]

@[simp] theorem State.serialWord_fuses (s : State) (i t : Nat) (start : Bool) (data : Nat) (err : Bool) (crc : Nat) :
    (s.serialWord i t start data err crc).fuses = s.fuses := by
  unfold State.serialWord
  dsimp only
  repeat' split
  all_goals simp

@[simp] theorem State.serialTimeout_fuses (s : State) (i : Nat) : (s.serialTimeout i).fuses = s.fuses := by simp [State.serialTimeout]

@[simp] theorem State.posAct_fuses (s : State) (c : Instr) : (s.posAct c).fuses = s.fuses := by
  unfold State.posAct
  split <;> simp

@[simp] theorem State.takeAhead_fuses (s : State) (i : Nat) (l : List Instr) : (s.takeAhead i l).fuses = s.fuses := by
  simp [State.takeAhead]

@[simp] theorem State.posTake_fuses (s : State) (i t : Nat) (c : Instr) : (s.posTake i t c).fuses = s.fuses := by simp [State.posTake]
@[simp] theorem State.posFollow_fuses (s : State) (i : Nat) : (s.posFollow i).fuses = s.fuses := by simp [State.posFollow]
@[simp] theorem State.posLate_fuses (s : State) (i t : Nat) : (s.posLate i t).fuses = s.fuses := by simp [State.posLate]

@[simp] theorem State.posBefore_fuses (s : State) (i t tick : Nat) : (s.posBefore i t tick).fuses = s.fuses := by
  unfold State.posBefore
  dsimp only
  repeat' split
  all_goals simp

@[simp] theorem State.posAfter_fuses (s : State) (i : Nat) : (s.posAfter i).fuses = s.fuses := by simp [State.posAfter]

/-! ### Flue timing and rings (Machine/Flue.lean) -/

@[simp] theorem State.refreshRingOk_fuses (s : State) (ring : Nat) : (s.refreshRingOk ring).fuses = s.fuses := by simp [State.refreshRingOk]

@[simp] theorem State.useSched_fuses (s : State) (k : Nat) : (s.useSched k).fuses = s.fuses := by
  unfold State.useSched
  dsimp only
  rw [State.foldl_fuses _ _ _ fun _ _ => State.setFlag_fuses _ _ _]
  simp only [State.fuses_mk, State.fuses_eta, State.setF_fuses]
  refine (State.each_fuses _ _ _ fun u i => ?_).trans (State.setF_fuses _ _ _)
  split <;> simp

@[simp] theorem State.modeReqWrite_fuses (s : State) (v : Word) : (s.modeReqWrite v).fuses = s.fuses := by simp [State.modeReqWrite]
@[simp] theorem State.syncLost_fuses (s : State) : s.syncLost.fuses = s.fuses := by simp [State.syncLost]
@[simp] theorem State.gotSync_fuses (s : State) : s.gotSync.fuses = s.fuses := by simp [State.gotSync]

@[simp] theorem State.adopt_fuses (s : State) (ring hops : Nat) (h : Hdr) (c : Nat) : (s.adopt ring hops h c).fuses = s.fuses := by
  simp [State.adopt]

@[simp] theorem State.listenTimeout_fuses (s : State) (t : Nat) : (s.listenTimeout t).fuses = s.fuses := by simp [State.listenTimeout]

@[simp] theorem State.coldLimit_fuses (s : State) : s.coldLimit.fuses = s.fuses := by
  unfold State.coldLimit
  split <;> simp

@[simp] theorem State.correct_fuses (s : State) (own : Bool) : (s.correct own).fuses = s.fuses := by simp [State.correct]

@[simp] theorem State.syncCycleEnd_fuses (s : State) : s.syncCycleEnd.fuses = s.fuses := by
  unfold State.syncCycleEnd
  split <;> simp

@[simp] theorem State.rateCorrection_fuses (s : State) : s.rateCorrection.fuses = s.fuses := by simp [State.rateCorrection]
@[simp] theorem State.ppsEdge_fuses (s : State) (t : Nat) (rising : Bool) : (s.ppsEdge t rising).fuses = s.fuses := by simp [State.ppsEdge]
@[simp] theorem State.ppsLost_fuses (s : State) : s.ppsLost.fuses = s.fuses := by simp [State.ppsLost]
@[simp] theorem State.refreshForwarding_fuses (s : State) : s.refreshForwarding.fuses = s.fuses := by simp [State.refreshForwarding]
@[simp] theorem State.receiverLock_fuses (s : State) (ring : Nat) : (s.receiverLock ring).fuses = s.fuses := by simp [State.receiverLock]
@[simp] theorem State.closeBypass_fuses (s : State) (ring : Nat) : (s.closeBypass ring).fuses = s.fuses := by simp [State.closeBypass]
@[simp] theorem State.lockLoss_fuses (s : State) (ring errs : Nat) : (s.lockLoss ring errs).fuses = s.fuses := by simp [State.lockLoss]
@[simp] theorem State.bypassOpen_fuses (s : State) (ring : Nat) : (s.bypassOpen ring).fuses = s.fuses := by simp [State.bypassOpen]
@[simp] theorem State.bypassClose_fuses (s : State) (ring : Nat) : (s.bypassClose ring).fuses = s.fuses := by simp [State.bypassClose]
@[simp] theorem State.vioFault_fuses (s : State) (mv : Nat) : (s.vioFault mv).fuses = s.fuses := by simp [State.vioFault]
@[simp] theorem State.damperDiverge_fuses (s : State) (ns : Nat) : (s.damperDiverge ns).fuses = s.fuses := by simp [State.damperDiverge]

/-! ### Safety channels (Machine/SafetyData.lean) -/

@[simp] theorem State.refreshSafTx_fuses (s : State) : s.refreshSafTx.fuses = s.fuses := by
  unfold State.refreshSafTx
  refine State.each_fuses _ _ _ fun u x => ?_
  split <;> simp

@[simp] theorem State.setSafCh_fuses (s : State) (r : Nat) (x : SafCh) : (s.setSafCh r x).fuses = s.fuses := by simp [State.setSafCh]

@[simp] theorem State.safReceive_fuses (s : State) (r : Nat) : (s.safReceive r).fuses = s.fuses := by
  unfold State.safReceive
  split
  · rfl
  · dsimp only
    split <;> simp only [State.event_fuses, State.incF_fuses, State.when_fuses, State.setReg_fuses, State.setF_fuses, State.setFlag_fuses,
      State.setSafCh_fuses]

@[simp] theorem State.safRaise_fuses (s : State) (n : Nat) : (s.safRaise n).fuses = s.fuses := by
  unfold State.safRaise
  split <;> simp

@[simp] theorem State.slsCommit_fuses (s : State) (c : BlkIn) (outs : List (Word × Bool)) (st : List Word) :
    (s.slsCommit c outs st).fuses = s.fuses := by
  simp [State.slsCommit]

@[simp] theorem State.slpCommit_fuses (s : State) (c : BlkIn) (outs : List (Word × Bool)) (st : List Word) :
    (s.slpCommit c outs st).fuses = s.fuses := by
  simp [State.slpCommit]

@[simp] theorem State.pulseCommit_fuses (s : State) (c : BlkIn) (outs : List (Word × Bool)) (st : List Word) :
    (s.pulseCommit c outs st).fuses = s.fuses := by
  simp [State.pulseCommit]

@[simp] theorem State.ringCompareCommit_fuses (s : State) (c : BlkIn) (outs : List (Word × Bool)) :
    (s.ringCompareCommit c outs).fuses = s.fuses := by
  simp [State.ringCompareCommit]

@[simp] theorem State.unCount_fuses (s : State) (a : Nat) : (s.unCount a).fuses = s.fuses := by simp [State.unCount]

@[simp] theorem State.safUndo_fuses (s : State) (c : BlkIn) (v : Saved) : (s.safUndo c v).fuses = s.fuses := by
  unfold State.safUndo
  split <;> simp

@[simp] theorem State.safCommit_fuses (s : State) (c : BlkIn) (outs : List (Word × Bool)) (st : List Word) (raises : List Nat) :
    (s.safCommit c outs st raises).fuses = s.fuses := by
  unfold State.safCommit
  split <;> simp

@[simp] theorem State.safTick_fuses (s : State) : s.safTick.fuses = s.fuses := by simp [State.safTick]
@[simp] theorem State.pulseNext_fuses (s : State) : s.pulseNext.fuses = s.fuses := by simp [State.pulseNext]

/-! ### Section actuation (Machine/Section.lean) -/

@[simp] theorem State.setPt_fuses (s : State) (p : Nat) (x : PointRun) : (s.setPt p x).fuses = s.fuses := by simp [State.setPt]
@[simp] theorem State.poseCommit_fuses (s : State) (valid : Nat) : (s.poseCommit valid).fuses = s.fuses := by simp [State.poseCommit]
@[simp] theorem State.crossCommit_fuses (s : State) (c : BlkIn) : (s.crossCommit c).fuses = s.fuses := by simp [State.crossCommit]
@[simp] theorem State.rasterCommit_fuses (s : State) (n : Nat) : (s.rasterCommit n).fuses = s.fuses := by simp [State.rasterCommit]
@[simp] theorem State.pwmCommit_fuses (s : State) (c : BlkIn) : (s.pwmCommit c).fuses = s.fuses := by simp [State.pwmCommit]
@[simp] theorem State.turnCommit_fuses (s : State) (c : BlkIn) : (s.turnCommit c).fuses = s.fuses := by simp [State.turnCommit]

@[simp] theorem State.secCommit_fuses (s : State) (c : BlkIn) (outs : List (Word × Bool)) : (s.secCommit c outs).fuses = s.fuses := by
  unfold State.secCommit
  split <;> simp

@[simp] theorem State.secUndo_fuses (s : State) (ty : Nat) (v : Saved) : (s.secUndo ty v).fuses = s.fuses := by
  unfold State.secUndo
  repeat' split
  all_goals simp

@[simp] theorem State.refreshOn_fuses (s : State) : s.refreshOn.fuses = s.fuses := by simp [State.refreshOn]

@[simp] theorem State.secQueue_fuses (s : State) (e : SecEntry) (old : Option PtCmd) : (s.secQueue e old).fuses = s.fuses := by
  unfold State.secQueue
  dsimp only
  repeat' split
  all_goals simp

@[simp] theorem State.emit_fuses (s : State) (p e : Nat) (q : PtCmd) : (s.emit p e q).fuses = s.fuses := by simp [State.emit]

@[simp] theorem State.pointEnd_fuses (s : State) (p e : Nat) : (s.pointEnd p e).fuses = s.fuses := by
  unfold State.pointEnd
  dsimp only
  repeat' split
  all_goals simp

@[simp] theorem State.pointCmdEnd_fuses (s : State) (c : BlkIn) (e : Nat) : (s.pointCmdEnd c e).fuses = s.fuses := by
  simp only [State.pointCmdEnd, State.refreshOn_fuses]
  rw [State.each_fuses _ _ _ (by simp), State.when_fuses]
  refine State.each_fuses _ _ _ fun u p => ?_
  repeat' split
  all_goals simp

@[simp] theorem State.dutyEnd_fuses (s : State) (p e : Nat) : (s.dutyEnd p e).fuses = s.fuses := by
  unfold State.dutyEnd
  dsimp only
  repeat' split
  all_goals simp

@[simp] theorem State.coverageEnd_fuses (s : State) (e0 e : Nat) : (s.coverageEnd e0 e).fuses = s.fuses := by simp [State.coverageEnd]
@[simp] theorem State.spotAgeEnd_fuses (s : State) (hold : Nat) : (s.spotAgeEnd hold).fuses = s.fuses := by simp [State.spotAgeEnd]

@[simp] theorem State.secEnd_fuses (s : State) (c : BlkIn) (e0 e : Nat) : (s.secEnd c e0 e).fuses = s.fuses := by
  unfold State.secEnd
  split <;> simp

@[simp] theorem State.secTick_fuses (s : State) (now : Nat) : (s.secTick now).fuses = s.fuses := by
  unfold State.secTick
  refine State.foldl_fuses _ _ _ fun u p => ?_
  repeat' split
  all_goals simp

@[simp] theorem State.sectionTimeout_fuses (s : State) : s.sectionTimeout.fuses = s.fuses := by simp [State.sectionTimeout]

/-! ### Block graph (Machine/Graph.lean) -/

@[simp] theorem State.bankSwap_fuses (s : State) (i : Nat) : (s.bankSwap i).fuses = s.fuses := by
  unfold State.bankSwap
  dsimp only
  repeat' split
  all_goals simp

@[simp] theorem State.hobTake_fuses (s : State) (hob : Nat) (steal : Bool) : (s.hobTake hob steal).fuses = s.fuses := by
  unfold State.hobTake
  repeat' split
  all_goals simp

@[simp] theorem State.hobDispatch_fuses (s : State) (hob : Nat) : (s.hobDispatch hob).fuses = s.fuses := by simp [State.hobDispatch]

@[simp] theorem State.blockStage_fuses (s : State) (hob : Nat) (upset : List Word) (tiles : List Nat) :
    (s.blockStage hob upset tiles).fuses = s.fuses := by
  unfold State.blockStage
  repeat' split
  all_goals simp

@[simp] theorem State.refreshStale_fuses (s : State) : s.refreshStale.fuses = s.fuses := by simp [State.refreshStale]

@[simp] theorem State.lawCommit_fuses (s : State) (i : Nat) (w : Staged) : (s.lawCommit i w).fuses = s.fuses := by
  unfold State.lawCommit
  repeat' split
  all_goals simp

@[simp] theorem State.lawShow_fuses (s : State) (i : Nat) : (s.lawShow i).fuses = s.fuses := by
  unfold State.lawShow
  split <;> simp

@[simp] theorem State.lawUnheld_fuses (s : State) (i : Nat) : (s.lawUnheld i).fuses = s.fuses := by
  unfold State.lawUnheld
  split <;> simp

@[simp] theorem State.commitUndo_fuses (s : State) (i : Nat) (v : Saved) : (s.commitUndo i v).fuses = s.fuses := by
  simp only [State.commitUndo, State.safUndo_fuses, State.secUndo_fuses]
  rw [State.when_fuses _ _ _ (by simp), State.when_fuses]
  · simp
  · split <;> simp

@[simp] theorem State.commitOut_fuses (s : State) (k : Nat) (v : Word) (age : Bool) : (s.commitOut k v age).fuses = s.fuses := by
  simp [State.commitOut]

@[simp] theorem State.commitShows_fuses (s : State) (i : Nat) (c : BlkIn) (w : Staged) : (s.commitShows i c w).fuses = s.fuses := by
  simp [State.commitShows]

@[simp] theorem State.commitRaises_fuses (s : State) (w : Staged) : (s.commitRaises w).fuses = s.fuses := by simp [State.commitRaises]

@[simp] theorem State.commit_fuses (s : State) (i slack wait : Nat) : (s.commit i slack wait).fuses = s.fuses := by
  unfold State.commit
  dsimp only
  repeat' split
  all_goals simp only [State.commitOut_fuses, State.setInst_fuses, State.lawCommit_fuses, State.incF_fuses, State.commitShows_fuses,
    State.secCommit_fuses, State.peakF_fuses, State.transient_fuses, State.commitRaises_fuses, State.refreshQueues_fuses,
    State.refreshStale_fuses, State.fuses_mk, State.fuses_eta, State.when_fuses, State.each_fuses, implies_true]

@[simp] theorem State.commitDue_fuses (s : State) (i slack wait : Nat) : (s.commitDue i slack wait).fuses = s.fuses := by
  simp [State.commitDue]

@[simp] theorem State.ageOuts_fuses (s : State) (i : Nat) (back : Bool) : (s.ageOuts i back).fuses = s.fuses := by simp [State.ageOuts]

@[simp] theorem State.dropSample_fuses (s : State) (i : Nat) (as : Sample) : (s.dropSample i as).fuses = s.fuses := by
  unfold State.dropSample
  dsimp only
  repeat' split
  all_goals simp

@[simp] theorem State.missRecord_fuses (s : State) (r : Nat) (l : List Nat) : (s.missRecord r l).fuses = s.fuses := by
  unfold State.missRecord
  split <;> simp

@[simp] theorem State.missClass_fuses (s : State) (r : Nat) : (s.missClass r).fuses = s.fuses := by simp [State.missClass]
@[simp] theorem State.deadlineMiss_fuses (s : State) (k : Nat) : (s.deadlineMiss k).fuses = s.fuses := by simp [State.deadlineMiss]
@[simp] theorem State.solWrite_fuses (s : State) (k : Nat) (w : Word) : (s.solWrite k w).fuses = s.fuses := by simp [State.solWrite]
@[simp] theorem State.valvePair_fuses (s : State) : s.valvePair.fuses = s.fuses := by simp [State.valvePair]

@[simp] theorem State.enableWrite_fuses (s : State) (e : Nat) (w : Word) : (s.enableWrite e w).fuses = s.fuses := by
  simp [State.enableWrite]

@[simp] theorem State.flueTx_fuses (s : State) (i slot off : Nat) (words : List Word) : (s.flueTx i slot off words).fuses = s.fuses := by
  simp [State.flueTx]

@[simp] theorem State.faultBlock_fuses (s : State) (i src : Nat) (zero aged : Bool) : (s.faultBlock i src zero aged).fuses = s.fuses := by
  simp [State.faultBlock]

@[simp] theorem State.effect_fuses (s : State) (e0 e i : Nat) : (s.effect e0 e i).fuses = s.fuses := by
  unfold State.effect
  dsimp only
  repeat' split
  all_goals simp

@[simp] theorem State.slotClose_fuses (s : State) (r : Nat) : (s.slotClose r).fuses = s.fuses := by
  unfold State.slotClose
  split <;> simp

@[simp] theorem State.slotsEnd_fuses (s : State) (rs : List Nat) : (s.slotsEnd rs).fuses = s.fuses := by simp [State.slotsEnd]

@[simp] theorem State.applyEdits_fuses (s : State) (i : Nat) : (s.applyEdits i).fuses = s.fuses := by
  unfold State.applyEdits
  dsimp only
  repeat' split
  all_goals simp

@[simp] theorem State.slotStart_fuses (s : State) (r : Nat) : (s.slotStart r).fuses = s.fuses := by simp [State.slotStart]
@[simp] theorem State.markSkipped_fuses (s : State) : s.markSkipped.fuses = s.fuses := by simp [State.markSkipped]

/-! ### Comparators and lanes (Machine/Compare.lean) -/

@[simp] theorem State.laneMismatch_fuses (s : State) (k i : Nat) (copyB : Bool) : (s.laneMismatch k i copyB).fuses = s.fuses := by
  simp [State.laneMismatch]

@[simp] theorem State.setRetries_fuses (s : State) (k : Nat) (l : List Nat) : (s.setRetries k l).fuses = s.fuses := by
  simp [State.setRetries]

@[simp] theorem State.withheld_fuses (s : State) (k : Nat) : (s.withheld k).fuses = s.fuses := by
  simp only [State.withheld, State.refreshPower_fuses, State.fuses_mk, State.fuses_eta, State.when_fuses]

@[simp] theorem State.setFifo_fuses (s : State) (k : Nat) (fifo : List (Bool × BusWrite)) : (s.setFifo k fifo).fuses = s.fuses := by
  simp [State.setFifo]

@[simp] theorem State.dropTag_fuses (s : State) (k tag : Nat) : (s.dropTag k tag).fuses = s.fuses := by simp [State.dropTag]
@[simp] theorem State.southWord_fuses (s : State) (src : Nat) (v : Word) : (s.southWord src v).fuses = s.fuses := by simp [State.southWord]

@[simp] theorem State.rewriteMismatch_fuses (s : State) (k tag : Nat) (data : List BusWrite) :
    (s.rewriteMismatch k tag data).fuses = s.fuses := by
  unfold State.rewriteMismatch
  split <;> simp

@[simp] theorem State.pairVerdict_fuses (s : State) (k tag : Nat) (pass : Bool) : (s.pairVerdict k tag pass).fuses = s.fuses := by
  unfold State.pairVerdict
  split <;> simp

@[simp] theorem State.mismatch_fuses (s : State) (k tag : Nat) (copyB : Bool) (data : List BusWrite) :
    (s.mismatch k tag copyB data).fuses = s.fuses := by
  simp [State.mismatch]

@[simp] theorem State.retireLane_fuses (s : State) (k : Nat) : (s.retireLane k).fuses = s.fuses := by simp [State.retireLane]

@[simp] theorem State.verdictDisagree_fuses (s : State) (k : Nat) (pairDiffers : Bool) :
    (s.verdictDisagree k pairDiffers).fuses = s.fuses := by
  simp [State.verdictDisagree]

@[simp] theorem State.resetInst_fuses (s : State) (i : Nat) : (s.resetInst i).fuses = s.fuses := by simp [State.resetInst]

@[simp] theorem State.restoreState_fuses (s : State) (homed : List Nat) : (s.restoreState homed).fuses = s.fuses := by
  simp [State.restoreState]

@[simp] theorem State.useSpare_fuses (s : State) (tile : Nat) : (s.useSpare tile).fuses = s.fuses := by
  unfold State.useSpare
  dsimp only
  repeat' split
  all_goals simp

@[simp] theorem State.clearTile_fuses (s : State) (tile : Nat) : (s.clearTile tile).fuses = s.fuses := by
  simp only [State.clearTile, State.fuses_mk, State.fuses_eta]

@[simp] theorem State.copyPartner_fuses (s : State) (tile : Nat) : (s.copyPartner tile).fuses = s.fuses := by simp [State.copyPartner]
@[simp] theorem State.repeatStep_fuses (s : State) (south : Bool) : (s.repeatStep south).fuses = s.fuses := by simp [State.repeatStep]

@[simp] theorem State.canLost_fuses (s : State) (n : Nat) : (s.canLost n).fuses = s.fuses := by
  unfold State.canLost
  split <;> simp

@[simp] theorem State.ethLost_fuses (s : State) (p : Nat) : (s.ethLost p).fuses = s.fuses := by
  unfold State.ethLost
  split <;> simp

@[simp] theorem State.buffersLost_fuses (s : State) (l : List Nat) : (s.buffersLost l).fuses = s.fuses := by simp [State.buffersLost]

@[simp] theorem State.mapTileLost_fuses (s : State) (slot : Nat) (gone : Bool) : (s.mapTileLost slot gone).fuses = s.fuses := by
  unfold State.mapTileLost
  split <;> simp

@[simp] theorem State.repairTile_fuses (s : State) (tile : Nat) (homed : List Nat) : (s.repairTile tile homed).fuses = s.fuses := by
  unfold State.repairTile
  dsimp only
  repeat' split
  all_goals simp

@[simp] theorem State.verifyEvent_fuses (s : State) (tile : Nat) (hob : Option Nat) : (s.verifyEvent tile hob).fuses = s.fuses := by
  unfold State.verifyEvent
  dsimp only
  repeat' split
  all_goals simp

@[simp] theorem State.tileVerify_fuses (s : State) (tile : Nat) (pass1 pass2 : Bool) (hob : Option Nat) (homed : List Nat) :
    (s.tileVerify tile pass1 pass2 hob homed).fuses = s.fuses := by
  simp [State.tileVerify]

/-! ### Ageing and derating (Machine/Ageing.lean) -/

@[simp] theorem State.rollStart_fuses (s : State) : s.rollStart.fuses = s.fuses := by
  unfold State.rollStart
  split <;> simp

@[simp] theorem State.rollTested_fuses (s : State) (n : Nat) : (s.rollTested n).fuses = s.fuses := by simp [State.rollTested]
@[simp] theorem State.rollLasting_fuses (s : State) (n : Nat) : (s.rollLasting n).fuses = s.fuses := by simp [State.rollLasting]

@[simp] theorem State.rollEnd_fuses (s : State) (h : Nat) (pass1 pass2 : Bool) : (s.rollEnd h pass1 pass2).fuses = s.fuses := by
  simp [State.rollEnd]

@[simp] theorem State.setBudget_fuses (s : State) (m b : Nat) : (s.setBudget m b).fuses = s.fuses := by simp [State.setBudget]

@[simp] theorem State.roTake_fuses (s : State) (ro : List Nat) : (s.roTake ro).fuses = s.fuses := by
  unfold State.roTake
  dsimp only
  repeat' split
  all_goals simp

@[simp] theorem State.setTrim_fuses (s : State) (h : Nat) (t : Int) : (s.setTrim h t).fuses = s.fuses := by simp [State.setTrim]
@[simp] theorem State.setStep_fuses (s : State) (step : Nat) : (s.setStep step).fuses = s.fuses := by simp [State.setStep]
@[simp] theorem State.derated_fuses (s : State) : s.derated.fuses = s.fuses := by simp [State.derated]
@[simp] theorem State.exhaust_fuses (s : State) : s.exhaust.fuses = s.fuses := by simp [State.exhaust]

@[simp] theorem State.derateTrim_fuses (s : State) (h : Nat) : (s.derateTrim h).fuses = s.fuses := by
  simp only [State.derateTrim, State.derated_fuses, State.incF_fuses, State.setTrim_fuses, State.fuses_mk, State.fuses_eta]

@[simp] theorem State.derateClock_fuses (s : State) : s.derateClock.fuses = s.fuses := by simp [State.derateClock]
@[simp] theorem State.clockMargin_fuses (s : State) (ro : List Nat) : (s.clockMargin ro).fuses = s.fuses := by simp [State.clockMargin]

@[simp] theorem State.boardMargin_fuses (s : State) (m first : Nat) (rises : List Int) : (s.boardMargin m first rises).fuses = s.fuses := by
  unfold State.boardMargin
  repeat' split
  all_goals simp

@[simp] theorem State.shuntDrift_fuses (s : State) : s.shuntDrift.fuses = s.fuses := by simp [State.shuntDrift]

@[simp] theorem State.fetTake_fuses (s : State) (b : Nat) (rds : List (Option Nat)) : (s.fetTake b rds).fuses = s.fuses := by
  simp [State.fetTake]

@[simp] theorem State.fetMeasure_fuses (s : State) (b : Nat) (fets : List (Option (Nat × Int))) :
    (s.fetMeasure b fets).fuses = s.fuses := by
  simp [State.fetMeasure]

@[simp] theorem State.ageBases_fuses (s : State) : s.ageBases.fuses = s.fuses := by simp [State.ageBases]
@[simp] theorem State.crystalDrift_fuses (s : State) (dev : Int) : (s.crystalDrift dev).fuses = s.fuses := by simp [State.crystalDrift]

/-! ### Ash record (Machine/Ash.lean) -/

@[simp] theorem State.mramWrite_fuses (s : State) (a : Nat) (bs : List Byte) : (s.mramWrite a bs).fuses = s.fuses := by
  simp [State.mramWrite]

@[simp] theorem State.setTail_fuses (s : State) (a : Nat) : (s.setTail a).fuses = s.fuses := by simp [State.setTail]
@[simp] theorem State.windowDone_fuses (s : State) : s.windowDone.fuses = s.fuses := by simp [State.windowDone]

@[simp] theorem State.ashGone_fuses (s : State) (r : AshReq) : (s.ashGone r).fuses = s.fuses := by
  simp only [State.ashGone, State.windowDone_fuses, State.setFlag_fuses, State.fuses_mk, State.fuses_eta, State.ite_fuses, ite_self,
    State.when_fuses]

@[simp] theorem State.ashFail_fuses (s : State) : s.ashFail.fuses = s.fuses := by simp [State.ashFail]

@[simp] theorem State.ashCommitted_fuses (s : State) (r : AshReq) (a seq us : Nat) : (s.ashCommitted r a seq us).fuses = s.fuses := by
  simp only [State.ashCommitted, State.setTail_fuses, State.mramWrite_fuses, State.incF_fuses, State.setF_fuses, State.setReg_fuses,
    State.pushLog_fuses, State.windowDone_fuses, State.fuses_mk, State.fuses_eta, State.ite_fuses, ite_self, State.when_fuses]

@[simp] theorem State.ashAppend_fuses (s : State) (ok1 ok2 : Bool) (us : Nat) : (s.ashAppend ok1 ok2 us).fuses = s.fuses := by
  unfold State.ashAppend
  split <;> simp

@[simp] theorem State.ashTear_fuses (s : State) : s.ashTear.fuses = s.fuses := by
  unfold State.ashTear
  split <;> simp

/-! ### Commands of the fault collector (Machine/FaultCommands.lean) -/

@[simp] theorem State.faultRaise_fuses (s : State) (source : Nat) (lasting : Bool) (us : Nat) :
    (s.faultRaise source lasting us).fuses = s.fuses := by
  simp [State.faultRaise]

@[simp] theorem State.wireFault_fuses (s : State) (source : Nat) (disagrees : Bool) : (s.wireFault source disagrees).fuses = s.fuses := by
  simp [State.wireFault]

@[simp] theorem State.forceOne_fuses (s : State) (n : Nat) : (s.forceOne n).fuses = s.fuses := by simp [State.forceOne]
@[simp] theorem State.fltForce_fuses (s : State) (w mask : Nat) : (s.fltForce w mask).fuses = s.fuses := by simp [State.fltForce]

@[simp] theorem State.forcePulseEnd_fuses (s : State) (n : Nat) (real : Bool) : (s.forcePulseEnd n real).fuses = s.fuses := by
  simp [State.forcePulseEnd]

/-! ### Journal and replay (Machine/Journal.lean) -/

@[simp] theorem State.carryPut_fuses (s : State) (c : Carry) (x : Word × Bool) : (s.carryPut c x).fuses = s.fuses := by
  unfold State.carryPut
  split <;> simp

@[simp] theorem State.ringWrite_fuses (s : State) (off : Nat) (bs : List Byte) : (s.ringWrite off bs).fuses = s.fuses := by
  simp [State.ringWrite]

@[simp] theorem State.refreshRing_fuses (s : State) (head : Nat) : (s.refreshRing head).fuses = s.fuses := by simp [State.refreshRing]

@[simp] theorem State.ringPush_fuses (s : State) (ckpt : Bool) (sc : Nat) (bs : List Byte) : (s.ringPush ckpt sc bs).fuses = s.fuses := by
  simp [State.ringPush]

@[simp] theorem State.checkpoint_fuses (s : State) (sc : Nat) : (s.checkpoint sc).fuses = s.fuses := by simp [State.checkpoint]

@[simp] theorem State.checkpointDue_fuses (s : State) : s.checkpointDue.fuses = s.fuses := by
  unfold State.checkpointDue
  split <;> simp

@[simp] theorem State.freshWords_fuses (s : State) (n : Nat) : (s.freshWords n).2.fuses = s.fuses := by
  induction n generalizing s with
  | zero => rfl
  | succ n ih => simp [State.freshWords, ih]

@[simp] theorem State.journalEntry_fuses (s : State) (sc : Nat) : (s.journalEntry sc).fuses = s.fuses := by
  simp only [State.journalEntry, State.freshWords_fuses, State.incF_fuses, State.ringPush_fuses, State.addF_fuses, State.event_fuses,
    State.fuses_mk, State.fuses_eta, State.ite_fuses, State.ite_snd_fuses, ite_self, State.when_fuses]

@[simp] theorem State.journalStart_fuses (s : State) : s.journalStart.fuses = s.fuses := by
  unfold State.journalStart
  split <;> simp

@[simp] theorem State.freeze_fuses (s : State) : s.freeze.fuses = s.fuses := by simp [State.freeze]
@[simp] theorem State.journalFreeze_fuses (s : State) : s.journalFreeze.fuses = s.fuses := by simp [State.journalFreeze]
@[simp] theorem State.holdupCheck_fuses (s : State) (mv : Nat) : (s.holdupCheck mv).fuses = s.fuses := by simp [State.holdupCheck]

@[simp] theorem State.powerFail_fuses (s : State) : s.powerFail.fuses = s.fuses := by
  unfold State.powerFail
  dsimp only
  repeat' split
  all_goals simp only [State.logTrigger_fuses, State.freeze_fuses, State.event_fuses, State.incF_fuses, State.setF_fuses,
    State.setFlag_fuses, State.ashTear_fuses, State.fuses_mk, State.fuses_eta, State.when_fuses]

@[simp] theorem State.vsupLoss_fuses (s : State) : s.vsupLoss.fuses = s.fuses := by simp [State.vsupLoss]

@[simp] theorem State.holdupRelease_fuses (s : State) : s.holdupRelease.fuses = s.fuses := by
  simp only [State.holdupRelease, State.setFlag_fuses, State.ashTear_fuses, State.putVote_fuses, State.fuses_mk, State.fuses_eta,
    State.ite_fuses, ite_self, State.each_fuses, implies_true]

@[simp] theorem State.poolWrite_fuses (s : State) : s.poolWrite.fuses = s.fuses := by simp [State.poolWrite]
@[simp] theorem State.loadRing_fuses (s : State) (body : List Byte) : (s.loadRing body).fuses = s.fuses := by simp [State.loadRing]

@[simp] theorem State.placeCheckpoint_fuses (s : State) (bs : List Byte) : (s.placeCheckpoint bs).fuses = s.fuses := by
  simp [State.placeCheckpoint]

@[simp] theorem State.replayResult_fuses (s : State) (r : Nat) : (s.replayResult r).fuses = s.fuses := by simp [State.replayResult]

@[simp] theorem State.replayStart_fuses (s : State) (body : List Byte) : (s.replayStart body).fuses = s.fuses := by
  unfold State.replayStart
  dsimp only
  repeat' split
  all_goals simp

@[simp] theorem State.jrnReplayCmd_fuses (s : State) (key : Nat) : (s.jrnReplayCmd key).fuses = s.fuses := by
  unfold State.jrnReplayCmd
  repeat' split
  all_goals simp

@[simp] theorem State.replayDiffers_fuses (s : State) (ckpt : Bool) (sc own rec : Nat) :
    (s.replayDiffers ckpt sc own rec).fuses = s.fuses := by
  simp [State.replayDiffers]

@[simp] theorem State.replayCompare_fuses (s : State) (sc : Nat) : (s.replayCompare sc).fuses = s.fuses := by simp [State.replayCompare]

@[simp] theorem State.replayCheckpoint_fuses (s : State) (bs : List Byte) : (s.replayCheckpoint bs).fuses = s.fuses := by
  simp [State.replayCheckpoint]

@[simp] theorem State.replayEnd_fuses (s : State) (r : Nat) : (s.replayEnd r).fuses = s.fuses := by simp [State.replayEnd]

@[simp] theorem State.replayNext_fuses (s : State) (prev : Nat) : (s.replayNext prev).fuses = s.fuses := by
  unfold State.replayNext
  dsimp only
  repeat' split
  all_goals simp

@[simp] theorem State.memberPut_fuses (s : State) (m : Member) (x : Word × Bool) : (s.memberPut m x).fuses = s.fuses := by
  unfold State.memberPut
  split <;> simp

@[simp] theorem State.replayTick_fuses (s : State) (j : Nat) : (s.replayTick j).fuses = s.fuses := by simp [State.replayTick]
@[simp] theorem State.sampleSets_fuses (s : State) (j : Nat) : (s.sampleSets j).fuses = s.fuses := by simp [State.sampleSets]
@[simp] theorem State.readSets_fuses (s : State) : s.readSets.fuses = s.fuses := by simp [State.readSets]
@[simp] theorem State.sampleTaps_fuses (s : State) : s.sampleTaps.fuses = s.fuses := by simp [State.sampleTaps]

/-! ### Supplies, clocks and wake-up (Machine/Power.lean) -/

@[simp] theorem State.rtcRun_fuses (s : State) (n : Nat) : (s.rtcRun n).fuses = s.fuses := by simp [State.rtcRun]
@[simp] theorem State.armAlarm_fuses (s : State) : s.armAlarm.fuses = s.fuses := by simp [State.armAlarm]
@[simp] theorem State.snapshot_fuses (s : State) : s.snapshot.fuses = s.fuses := by simp [State.snapshot]
@[simp] theorem State.snapshotDue_fuses (s : State) (elapsed : Nat) : (s.snapshotDue elapsed).fuses = s.fuses := by simp [State.snapshotDue]
@[simp] theorem State.wakeTime_fuses (s : State) (valid : Bool) : (s.wakeTime valid).fuses = s.fuses := by simp [State.wakeTime]
@[simp] theorem State.vsupValid_fuses (s : State) (elapsed : Nat) : (s.vsupValid elapsed).fuses = s.fuses := by simp [State.vsupValid]
@[simp] theorem State.pinReset_fuses (s : State) (same : Bool) : (s.pinReset same).fuses = s.fuses := by simp [State.pinReset]

@[simp] theorem State.coreUnderVoltage_fuses (s : State) (same : Bool) : (s.coreUnderVoltage same).fuses = s.fuses := by
  simp [State.coreUnderVoltage]

@[simp] theorem State.dormantRelease_fuses (s : State) (elapsed : Nat) (alarmFires : Bool) :
    (s.dormantRelease elapsed alarmFires).fuses = s.fuses := by
  simp [State.dormantRelease]

@[simp] theorem State.rtcAlarm_fuses (s : State) (elapsed : Nat) : (s.rtcAlarm elapsed).fuses = s.fuses := by simp [State.rtcAlarm]
@[simp] theorem State.wakeTimeout_fuses (s : State) (elapsed : Nat) : (s.wakeTimeout elapsed).fuses = s.fuses := by simp [State.wakeTimeout]
@[simp] theorem State.vbatLoss_fuses (s : State) : s.vbatLoss.fuses = s.fuses := by simp [State.vbatLoss]
@[simp] theorem State.vbatApplied_fuses (s : State) : s.vbatApplied.fuses = s.fuses := by simp [State.vbatApplied]
@[simp] theorem State.xt32Fail_fuses (s : State) (elapsed : Nat) : (s.xt32Fail elapsed).fuses = s.fuses := by simp [State.xt32Fail]
@[simp] theorem State.xt32Return_fuses (s : State) (elapsed : Nat) : (s.xt32Return elapsed).fuses = s.fuses := by simp [State.xt32Return]

@[simp] theorem State.pllLoss_fuses (s : State) (half : Nat) (lock : Bool) (count : Nat) : (s.pllLoss half lock count).fuses = s.fuses := by
  simp [State.pllLoss]

@[simp] theorem State.xt25Fail_fuses (s : State) (count : Nat) : (s.xt25Fail count).fuses = s.fuses := by simp [State.xt25Fail]
@[simp] theorem State.vsupUv_fuses (s : State) : s.vsupUv.fuses = s.fuses := by simp [State.vsupUv]
@[simp] theorem State.vsupOv_fuses (s : State) : s.vsupOv.fuses = s.fuses := by simp [State.vsupOv]
@[simp] theorem State.vgdFault_fuses (s : State) : s.vgdFault.fuses = s.fuses := by simp [State.vgdFault]
@[simp] theorem State.vbatLow_fuses (s : State) : s.vbatLow.fuses = s.fuses := by simp [State.vbatLow]
@[simp] theorem State.supplyClear_fuses (s : State) (source : Nat) : (s.supplyClear source).fuses = s.fuses := by simp [State.supplyClear]
@[simp] theorem State.tempOne_fuses (s : State) (t v : Nat) : (s.tempOne t v).fuses = s.fuses := by simp [State.tempOne]
@[simp] theorem State.tempConverts_fuses (s : State) : s.tempConverts.fuses = s.fuses := by simp [State.tempConverts]

@[simp] theorem State.tempConversion_fuses (s : State) (north south power : Nat) :
    (s.tempConversion north south power).fuses = s.fuses := by
  simp [State.tempConversion]

@[simp] theorem State.domGone_fuses (s : State) (d : Nat) : (s.domGone d).fuses = s.fuses := by
  unfold State.domGone
  split <;> simp

@[simp] theorem State.domLost_fuses (s : State) (d : Nat) : (s.domLost d).fuses = s.fuses := by simp [State.domLost]

@[simp] theorem State.domUp_fuses (s : State) (fails : List (Nat × Nat × Bool)) (d : Nat) : (s.domUp fails d).fuses = s.fuses := by
  unfold State.domUp
  split <;> simp

@[simp] theorem State.domTimeout_fuses (s : State) (d : Nat) : (s.domTimeout d).fuses = s.fuses := by simp [State.domTimeout]

/-! ### Lead and shadow (Machine/Lead.lean) -/

@[simp] theorem State.logHandover_fuses (s : State) (cause old new gap : Nat) : (s.logHandover cause old new gap).fuses = s.fuses := by
  unfold State.logHandover
  split <;> simp

@[simp] theorem State.clearAligned_fuses (s : State) : s.clearAligned.fuses = s.fuses := by simp [State.clearAligned]

@[simp] theorem State.depose_fuses (s : State) : s.depose.fuses = s.fuses := by
  simp only [State.depose, State.incF_fuses, State.clearAligned_fuses, State.event_fuses, State.enterMode_fuses, State.requestMode_fuses,
    State.fuses_mk, State.fuses_eta, State.ite_fuses, ite_self, State.when_fuses]

@[simp] theorem State.engageDue_fuses (s : State) : s.engageDue.fuses = s.fuses := by
  unfold State.engageDue
  split <;> simp

@[simp] theorem State.silence_fuses (s : State) : s.silence.fuses = s.fuses := by
  unfold State.silence
  split <;> simp

@[simp] theorem State.isolatedAct_fuses (s : State) : s.isolatedAct.fuses = s.fuses := by simp [State.isolatedAct]
@[simp] theorem State.isolation_fuses (s : State) : s.isolation.fuses = s.fuses := by simp [State.isolation]

@[simp] theorem State.faultCount_fuses (s : State) : s.faultCount.fuses = s.fuses := by
  unfold State.faultCount
  dsimp only
  repeat' split
  all_goals simp only [State.setFlag_fuses, State.event_fuses, State.addF_fuses, State.incF_fuses, State.setF_fuses,
    State.requestMode_fuses, State.fuses_mk, State.fuses_eta, State.when_fuses]

@[simp] theorem State.spStatic_fuses (s : State) : s.spStatic.fuses = s.fuses := by
  unfold State.spStatic
  refine State.each_fuses _ _ _ fun u slot => ?_
  dsimp only
  split
  · split_ifs <;> simp
  all_goals simp

@[simp] theorem State.staticEnd_fuses (s : State) : s.staticEnd.fuses = s.fuses := by simp [State.staticEnd]
@[simp] theorem State.election_fuses (s : State) : s.election.fuses = s.fuses := by simp [State.election]
@[simp] theorem State.joinTimeout_fuses (s : State) : s.joinTimeout.fuses = s.fuses := by simp [State.joinTimeout]
@[simp] theorem State.handoverTimeout_fuses (s : State) : s.handoverTimeout.fuses = s.fuses := by simp [State.handoverTimeout]
@[simp] theorem State.isolateLimp_fuses (s : State) : s.isolateLimp.fuses = s.fuses := by simp [State.isolateLimp]
@[simp] theorem State.graceExpiry_fuses (s : State) : s.graceExpiry.fuses = s.fuses := by simp [State.graceExpiry]
@[simp] theorem State.standstillHold_fuses (s : State) : s.standstillHold.fuses = s.fuses := by simp [State.standstillHold]

/-! ### Flue frames (Machine/FlueFrames.lean) -/

@[simp] theorem State.releaseHandover_fuses (s : State) (id : Nat) : (s.releaseHandover id).fuses = s.fuses := by
  simp [State.releaseHandover]

@[simp] theorem State.leadConflict_fuses (s : State) (id : Nat) : (s.leadConflict id).fuses = s.fuses := by simp [State.leadConflict]

@[simp] theorem State.takeBack_fuses (s : State) (b : Nat) (insts : List InstRun) (sigs : List SigRun) :
    (s.takeBack b insts sigs).fuses = s.fuses := by
  simp only [State.takeBack, State.fuses_mk, State.fuses_eta]
  refine State.each_fuses _ _ _ fun u r => ?_
  rw [State.addF_fuses]
  refine State.each_fuses _ _ _ fun w i => ?_
  rw [State.lawShow_fuses, State.each_fuses _ _ _ fun _ _ => State.setSig_fuses _ _ _, State.setInst_fuses]

@[simp] theorem State.newLead_fuses (s : State) (f : ChFrame) : (s.newLead f).fuses = s.fuses := by
  simp only [State.newLead]
  split
  · rfl
  · split
    · split
      · split_ifs <;> simp only [State.logHandover_fuses, State.markSkipped_fuses, State.takeBack_fuses, State.fuses_mk, State.fuses_eta]
      · simp only [State.logHandover_fuses, State.markSkipped_fuses, State.fuses_mk, State.fuses_eta]
    · simp only [State.logHandover_fuses, State.fuses_mk, State.fuses_eta]

@[simp] theorem State.channelFrame_fuses (s : State) (ring : Nat) (f : ChFrame) : (s.channelFrame ring f).fuses = s.fuses := by
  simp [State.channelFrame]

@[simp] theorem State.boomFrame_fuses (s : State) (n : Nat) (p : List Byte) : (s.boomFrame n p).fuses = s.fuses := by simp [State.boomFrame]

@[simp] theorem State.deliver_fuses (s : State) (f : RxFrame) : (s.deliver f).fuses = s.fuses := by
  unfold State.deliver
  dsimp only
  repeat' split
  all_goals simp

@[simp] theorem State.reject_fuses (s : State) (f : RawFrame) (h : Hdr) (reason : Nat) : (s.reject f h reason).fuses = s.fuses := by
  simp [State.reject]

@[simp] theorem State.syncSchedCheck_fuses (s : State) (h : Hdr) : (s.syncSchedCheck h).fuses = s.fuses := by
  unfold State.syncSchedCheck
  split <;> simp

@[simp] theorem State.syncFrame_fuses (s : State) (f : RawFrame) (h : Hdr) (dev : Int) (accepted : Bool) :
    (s.syncFrame f h dev accepted).fuses = s.fuses := by
  simp [State.syncFrame]

@[simp] theorem State.judgeFrame_fuses (s : State) (f : RawFrame) (h : Hdr) : (s.judgeFrame f h).fuses = s.fuses := by
  simp only [State.judgeFrame, State.reject_fuses, State.syncSchedCheck_fuses, State.adopt_fuses, State.syncFrame_fuses, State.incF_fuses,
    State.deliver_fuses, State.fuses_mk, State.fuses_eta, State.ite_fuses, ite_self, State.when_fuses]

@[simp] theorem State.frameReceive_fuses (s : State) (f : RawFrame) : (s.frameReceive f).fuses = s.fuses := by simp [State.frameReceive]
@[simp] theorem State.damperBlock_fuses (s : State) : s.damperBlock.fuses = s.fuses := by simp [State.damperBlock]

@[simp] theorem State.frameSent_fuses (s : State) (h : Hdr) (p : List Byte) : (s.frameSent h p).fuses = s.fuses := by
  unfold State.frameSent
  dsimp only
  repeat' split
  all_goals simp only [State.setF_fuses, State.when_fuses, State.addF_fuses, State.fuses_mk, State.fuses_eta]

@[simp] theorem State.fwdCut_fuses (s : State) : s.fwdCut.fuses = s.fuses := by simp [State.fwdCut]

@[simp] theorem State.frameTransmit_fuses (s : State) (slot : Nat) (dev fin : Int) (passing : Bool) :
    (s.frameTransmit slot dev fin passing).fuses = s.fuses := by
  unfold State.frameTransmit
  repeat' split
  all_goals simp

/-! ### Exchange between channels (Machine/Exchange.lean) -/

@[simp] theorem State.applyStream_fuses (s : State) : s.applyStream.fuses = s.fuses := by
  simp only [State.applyStream, State.fuses_mk, State.fuses_eta]
  refine State.each_fuses _ _ _ fun u e => ?_
  split
  · rfl
  · split <;> simp

@[simp] theorem State.peerStat_fuses (s : State) (heard : List ChFrame) : (s.peerStat heard).fuses = s.fuses := by
  unfold State.peerStat
  refine State.each_fuses _ _ _ fun u x => ?_
  split <;> simp

@[simp] theorem State.exchangeEnd_fuses (s : State) : s.exchangeEnd.fuses = s.fuses := by simp [State.exchangeEnd]
@[simp] theorem State.digestMismatch_fuses (s : State) : s.digestMismatch.fuses = s.fuses := by simp [State.digestMismatch]

@[simp] theorem State.digestCompare_fuses (s : State) : s.digestCompare.fuses = s.fuses := by
  unfold State.digestCompare
  dsimp only
  repeat' split
  all_goals simp only [State.setReg_fuses, State.setFlag_fuses, State.digestMismatch_fuses, State.when_fuses, State.fuses_mk,
    State.fuses_eta]

@[simp] theorem State.freeBytes_fuses (s : State) (n : Nat) : (s.freeBytes n).2.fuses = s.fuses := by simp [State.freeBytes]
@[simp] theorem State.chFrame_fuses (s : State) : (s.chFrame).2.fuses = s.fuses := by simp [State.chFrame]
@[simp] theorem State.ownRecord_fuses (s : State) : (s.ownRecord).2.fuses = s.fuses := by simp [State.ownRecord]

@[simp] theorem State.takeCmds_fuses (s : State) (n : Nat) : (s.takeCmds n).2.fuses = s.fuses := by
  simp only [State.takeCmds, State.setF_fuses, State.fuses_mk, State.fuses_eta]
  refine State.each_fuses _ _ _ fun u e => ?_
  split
  · split <;> simp
  · rfl

@[simp] theorem State.freezeBuf_fuses (s : State) (slot : Nat) : (s.freezeBuf slot).2.fuses = s.fuses := by simp [State.freezeBuf]

@[simp] theorem State.freezeSlot_fuses (s : State) (stream : List Byte) (slot : Nat) : (s.freezeSlot stream slot).2.fuses = s.fuses := by
  simp [State.freezeSlot]

@[simp] theorem State.freezeStatic_fuses (s : State) (stream : List Byte) (slots : List Nat) :
    (s.freezeStatic stream slots).2.fuses = s.fuses := by
  induction slots generalizing s with
  | nil => rfl
  | cons slot t ih => simp [State.freezeStatic, ih]

@[simp] theorem State.freezeDyn_fuses (s : State) : (s.freezeDyn).2.fuses = s.fuses := by simp [State.freezeDyn]
@[simp] theorem State.dynUnused_fuses (s : State) : s.dynUnused.fuses = s.fuses := by simp [State.dynUnused]
@[simp] theorem State.freezeFrames_fuses (s : State) : s.freezeFrames.fuses = s.fuses := by simp [State.freezeFrames]

/-! ### Image registers (Machine/Image.lean) -/

@[simp] theorem State.applyRegs_fuses (s : State) (l : List (Nat × Nat)) : (s.applyRegs l).fuses = s.fuses := by
  unfold State.applyRegs
  refine State.each_fuses _ _ _ fun u x => ?_
  split <;> simp

/-! ### Self-test (Machine/SelfTest.lean) -/

@[simp] theorem State.refreshDeadtime_fuses (s : State) : s.refreshDeadtime.fuses = s.fuses := by simp [State.refreshDeadtime]

@[simp] theorem State.cmpTest_fuses (s : State) (k missed flagged : Nat) : (s.cmpTest k missed flagged).fuses = s.fuses := by
  simp [State.cmpTest]

@[simp] theorem State.burnBoard_fuses (s : State) (e : AbistEnv) : (s.burnBoard e).fuses = s.fuses := by simp [State.burnBoard]
@[simp] theorem State.setDtm_fuses (s : State) (m : Nat → Nat) : (s.setDtm m).fuses = s.fuses := by simp [State.setDtm]

@[simp] theorem State.abistMargins_fuses (s : State) (e : AbistEnv) (skipped : Bool) : (s.abistMargins e skipped).fuses = s.fuses := by
  simp [State.abistMargins]

@[simp] theorem State.failSelfTest_fuses (s : State) (baseline : Bool) : (s.failSelfTest baseline).fuses = s.fuses := by
  simp [State.failSelfTest]

@[simp] theorem State.passSelfTest_fuses (s : State) (baseline : Bool) : (s.passSelfTest baseline).fuses = s.fuses := by
  simp [State.passSelfTest]

@[simp] theorem State.lbist_fuses (s : State) (part1 part2 : Nat) : (s.lbist part1 part2).fuses = s.fuses := by simp [State.lbist]

@[simp] theorem State.testConversions_fuses (s : State) (t c : Nat) (l : List (Nat × Int)) : (s.testConversions t c l).fuses = s.fuses := by
  simp [State.testConversions]

@[simp] theorem State.dacTest_fuses (s : State) (e : AbistEnv) : (s.dacTest e).fuses = s.fuses := by simp [State.dacTest]
@[simp] theorem State.gateTest_fuses (s : State) (e : AbistEnv) : (s.gateTest e).fuses = s.fuses := by simp [State.gateTest]
@[simp] theorem State.refTest_fuses (s : State) (e : AbistEnv) : (s.refTest e).fuses = s.fuses := by simp [State.refTest]
@[simp] theorem State.boardTest_fuses (s : State) (e : AbistEnv) : (s.boardTest e).fuses = s.fuses := by simp [State.boardTest]
@[simp] theorem State.analogueBist_fuses (s : State) (e : AbistEnv) : (s.analogueBist e).fuses = s.fuses := by simp [State.analogueBist]

/-! ### LOAD (Machine/Load.lean) -/

@[simp] theorem State.sight_fuses (s : State) (key : Nat) : (s.sight key).1.fuses = s.fuses := by
  unfold State.sight
  split <;> simp

@[simp] theorem State.burnedSpare_fuses (s : State) (b : Nat) : (s.burnedSpare b).fuses = s.fuses := by
  unfold State.burnedSpare
  split <;> simp

@[simp] theorem Mbist.tile_fuses (m : Mbist) (bad : List Nat) (x : Nat × List Nat) : (m.tile bad x).s.fuses = m.s.fuses := by
  unfold Mbist.tile
  dsimp only
  split_ifs <;> simp

@[simp] theorem State.lostTile_fuses (s : State) (t : Nat) : (s.lostTile t).fuses = s.fuses := by
  unfold State.lostTile
  split <;> simp

@[simp] theorem Mbist.foldl_tile_fuses (bad : List Nat) (l : List (Nat × List Nat)) (m : Mbist) :
    (l.foldl (fun m x => m.tile bad x) m).s.fuses = m.s.fuses := by
  induction l generalizing m with
  | nil => rfl
  | cons x l ih => exact (ih _).trans (Mbist.tile_fuses m bad x)

@[simp] theorem State.mbist_fuses (s : State) (e : LoadEnv) : (s.mbist e).s.fuses = s.fuses := by simp [State.mbist]
@[simp] theorem State.ashTail_fuses (s : State) (size : Nat) : (s.ashTail size).fuses = s.fuses := by simp [State.ashTail]

@[simp] theorem State.ashFind_fuses (s : State) (m : Option (Nat × Nat)) : (s.ashFind m).fuses = s.fuses := by
  unfold State.ashFind
  split <;> simp

@[simp] theorem State.holdupLoad_fuses (s : State) (e : LoadEnv) : (s.holdupLoad e).fuses = s.fuses := by simp [State.holdupLoad]
@[simp] theorem State.loadRecord_fuses (s : State) : s.loadRecord.fuses = s.fuses := by simp [State.loadRecord]

@[simp] theorem State.retireTile_fuses (s : State) (bad : List Nat) (t : Nat) : (s.retireTile bad t).fuses = s.fuses := by
  simp [State.retireTile]

@[simp] theorem State.burnFet_fuses (s : State) : s.burnFet.fuses = s.fuses := by simp [State.burnFet]

@[simp] theorem State.replan_fuses (s : State) (e : LoadEnv) (rows : List (Nat × Nat)) : (s.replan e rows).fuses = s.fuses := by
  simp [State.replan]

@[simp] theorem State.showResult_fuses (s : State) (k : Nat) (r : Option Fail) : (s.showResult k r).fuses = s.fuses := by
  unfold State.showResult
  split <;> simp

@[simp] theorem State.showFlash_fuses (s : State) (e : LoadEnv) (k : Nat) : (s.showFlash e k).fuses = s.fuses := by simp [State.showFlash]

@[simp] theorem State.checkSlot_fuses (s : State) (e : LoadEnv) (k : Nat) (plan : State → State) (hplan : ∀ u, (plan u).fuses = u.fuses) :
    (s.checkSlot e k plan).1.fuses = s.fuses := by
  simp [State.checkSlot, hplan]

@[simp] theorem State.placeFaults_fuses (s : State) (b : List Byte) : (s.placeFaults b).fuses = s.fuses := by simp [State.placeFaults]
@[simp] theorem State.placeLaw_fuses (s : State) : s.placeLaw.fuses = s.fuses := by simp [State.placeLaw]

@[simp] theorem State.placeSafety_fuses (s : State) : s.placeSafety.fuses = s.fuses := by
  unfold State.placeSafety
  refine State.each_fuses _ _ _ fun u x => ?_
  split <;> simp

@[simp] theorem State.placeScheds_fuses (s : State) : s.placeScheds.fuses = s.fuses := by simp [State.placeScheds]
@[simp] theorem State.placeSizes_fuses (s : State) : s.placeSizes.fuses = s.fuses := by simp [State.placeSizes]
@[simp] theorem State.showImage_fuses (s : State) (k : Nat) (b : List Byte) : (s.showImage k b).fuses = s.fuses := by simp [State.showImage]
@[simp] theorem State.startUnits_fuses (s : State) : s.startUnits.fuses = s.fuses := by simp [State.startUnits]
@[simp] theorem State.place_fuses (s : State) (k : Nat) : (s.place k).fuses = s.fuses := by simp [State.place]

@[simp] theorem State.loadStart_fuses (s : State) (e : LoadEnv) : (s.loadStart e).fuses = s.fuses := by
  simp [State.loadStart]

@[simp] theorem State.loadEnd_fuses (s : State) (e : LoadEnv) : (s.loadEnd e).fuses = s.fuses := by simp [State.loadEnd]
@[simp] theorem State.startHalves_fuses (s : State) : s.startHalves.fuses = s.fuses := by simp [State.startHalves]
@[simp] theorem State.toSelfTest_fuses (s : State) (e : LoadEnv) : (s.toSelfTest e).fuses = s.fuses := by simp [State.toSelfTest]
@[simp] theorem State.toSafeHold_fuses (s : State) (e : LoadEnv) : (s.toSafeHold e).fuses = s.fuses := by simp [State.toSafeHold]
@[simp] theorem State.blankPlan_fuses (s : State) : s.blankPlan.fuses = s.fuses := by simp [State.blankPlan]

@[simp] theorem State.loadImage_fuses (s : State) (e : LoadEnv) (rows : List (Nat × Nat)) : (s.loadImage e rows).fuses = s.fuses := by
  simp [State.loadImage]

@[simp] theorem State.resetRelease_fuses (s : State) (e : LoadEnv) : (s.resetRelease e).fuses = s.fuses := by simp [State.resetRelease]

/-! ### Reads with an effect (Machine/Views.lean) -/

@[simp] theorem State.latchTick_fuses (s : State) : s.latchTick.fuses = s.fuses := by simp [State.latchTick]
@[simp] theorem State.latchFlue_fuses (s : State) (elapsed : Nat) : (s.latchFlue elapsed).fuses = s.fuses := by simp [State.latchFlue]
@[simp] theorem State.latchRtc_fuses (s : State) (elapsed : Nat) : (s.latchRtc elapsed).fuses = s.fuses := by simp [State.latchRtc]
@[simp] theorem State.unlatch_fuses (s : State) (a : Nat) : (s.unlatch a).fuses = s.fuses := by simp [State.unlatch]

/-! ### Mailboxes (Machine/Mailbox.lean) -/

@[simp] theorem State.setFull_fuses (s : State) (m : Nat) (b : Bool) : (s.setFull m b).fuses = s.fuses := by simp [State.setFull]
@[simp] theorem State.ringDoorbell_fuses (s : State) (b : Nat) : (s.ringDoorbell b).fuses = s.fuses := by simp [State.ringDoorbell]

@[simp] theorem State.setMbxWord_fuses (s : State) (m k : Nat) (w : Word) : (s.setMbxWord m k w).fuses = s.fuses := by
  simp [State.setMbxWord]

@[simp] theorem State.mbxComplete_fuses (s : State) (m : Nat) : (s.mbxComplete m).fuses = s.fuses := by simp [State.mbxComplete]
@[simp] theorem State.mbxBlocked_fuses (s : State) (m : Nat) : (s.mbxBlocked m).fuses = s.fuses := by simp [State.mbxBlocked]
@[simp] theorem State.mbxPut_fuses (s : State) (side m k : Nat) (w : Word) : (s.mbxPut side m k w).fuses = s.fuses := by simp [State.mbxPut]
@[simp] theorem State.mbxTaken_fuses (s : State) (m : Nat) : (s.mbxTaken m).fuses = s.fuses := by simp [State.mbxTaken]
@[simp] theorem State.mbxTake_fuses (s : State) (side m : Nat) : (s.mbxTake side m).fuses = s.fuses := by simp [State.mbxTake]
@[simp] theorem State.mbxSelect_fuses (s : State) (side m : Nat) : (s.mbxSelect side m).fuses = s.fuses := by simp [State.mbxSelect]

@[simp] theorem State.messageSend_fuses (s : State) (side m : Nat) (writes : List (Nat × Word)) :
    (s.messageSend side m writes).fuses = s.fuses := by
  simp [State.messageSend]

@[simp] theorem State.messageTake_fuses (s : State) (side m : Nat) (coincident : List (Nat × Word)) :
    (s.messageTake side m coincident).fuses = s.fuses := by
  simp [State.messageTake]

@[simp] theorem State.doorbellClear_fuses (s : State) (value rung : Nat) : (s.doorbellClear value rung).fuses = s.fuses := by
  simp [State.doorbellClear]

@[simp] theorem State.doorbellWrite_fuses (s : State) (side value rung : Nat) : (s.doorbellWrite side value rung).fuses = s.fuses := by
  simp [State.doorbellWrite]

@[simp] theorem State.longWait_fuses (s : State) (m : Nat) : (s.longWait m).fuses = s.fuses := by simp [State.longWait]
@[simp] theorem State.serviceRequest_fuses (s : State) : s.serviceRequest.fuses = s.fuses := by simp [State.serviceRequest]

/-! ### Register writes (Machine/Registers.lean) -/

@[simp] theorem State.swreset_fuses (s : State) (key : Nat) : (s.swreset key).fuses = s.fuses := by simp [State.swreset]
/-- A free floor entry is all that IMG_FLOOR_RAISE programs (R52). -/
theorem State.floorRaise_fuses (s : State) (key : Nat) : (s.floorRaise key).fuses = s.fuses ∨
    s.otp.floors.length < 64 ∧ ∃ v, (s.floorRaise key).fuses = { s.fuses with floors := s.otp.floors ++ [v] } := by
  unfold State.floorRaise
  split_ifs with h
  · exact .inr ⟨h.2.2.2, _, rfl⟩
  · exact .inl rfl

/-- Revocations are all that IMG_KEY_REVOKE programs (R70). -/
theorem State.keyRevoke_fuses (s : State) (key mask : Nat) :
    ∃ m, (s.keyRevoke key mask).fuses = { s.fuses with revoked := s.otp.revoked ||| m } := by
  unfold State.keyRevoke
  dsimp only
  split_ifs
  · exact ⟨mask % 16, rfl⟩
  · exact ⟨0, by rw [Nat.or_zero]; rfl⟩

@[simp] theorem State.lifecycleReq_fuses (s : State) (key target : Nat) : (s.lifecycleReq key target).fuses = s.fuses := by
  simp [State.lifecycleReq]

/-- The life cycle in hand is all that LIFECYCLE_FUSE programs (R63). -/
theorem State.lifecycleFuse_fuses (s : State) : s.lifecycleFuse.fuses = s.fuses ∨
    ∃ t, s.ash.lcTarget = some t ∧ s.lifecycleFuse.fuses = { s.fuses with lifecycle := t } := by
  unfold State.lifecycleFuse
  split
  next t ht =>
    split_ifs
    · exact .inr ⟨t, ht, State.doReset_fuses _ _⟩
    · exact .inl rfl
  · exact .inl rfl

/-- Repair entries behind those there are is all that BST_FUSE_CMD programs (R514). -/
theorem State.fuseCmd_fuses (s : State) (key : Nat) :
    ∃ l, (s.fuseCmd key).fuses = { s.fuses with repairs := s.otp.repairs ++ l } := by
  unfold State.fuseCmd
  split_ifs
  · exact ⟨[], by rw [List.append_nil]; rfl⟩
  · exact ⟨_, (State.ashRequest_fuses _ _ _ _).trans (State.when_fuses _ _ _ (by simp))⟩

@[simp] theorem State.editWord_fuses (s : State) (k : Nat) (w : Word) : (s.editWord k w).fuses = s.fuses := by
  unfold State.editWord
  split <;> simp

@[simp] theorem State.serviceVote_fuses (s : State) (d : Nat) (b : Bool) : (s.serviceVote d b).fuses = s.fuses := by
  simp [State.serviceVote]

@[simp] theorem State.shadowWrite_fuses (s : State) (a : Nat) (w : Word) : (s.shadowWrite a w).fuses = s.fuses := by
  simp [State.shadowWrite]

@[simp] theorem State.writePlain_fuses (s : State) (k : RegKind) (i a : Nat) (v : Word) : (s.writePlain k i a v).fuses = s.fuses := by
  simp [State.writePlain]

@[simp] theorem State.inService_fuses (s : State) (a : Nat) (f : State → State) (hf : ∀ u, (f u).fuses = u.fuses) :
    (s.inService a f).fuses = s.fuses := by
  simp [State.inService, hf]

@[simp] theorem State.unitFollow_fuses (s : State) (a : Nat) : (s.unitFollow a).fuses = s.fuses := by simp [State.unitFollow]
@[simp] theorem State.refreshSum_fuses (s : State) : s.refreshSum.fuses = s.fuses := by simp [State.refreshSum]
@[simp] theorem State.unitVotes_fuses (s : State) : s.unitVotes.fuses = s.fuses := by simp [State.unitVotes]

@[simp] theorem State.shadowOne_fuses (s : State) (x : Nat × Word) : (s.shadowOne x).fuses = s.fuses := by
  unfold State.shadowOne
  split <;> simp

@[simp] theorem State.shadowApply_fuses (s : State) : s.shadowApply.fuses = s.fuses := by simp [State.shadowApply]

/-! ### Bus outputs (Machine/BusOutput.lean) -/

@[simp] theorem State.andironWord_fuses (s : State) (a : Nat) (v : Word) : (s.andironWord a v).fuses = s.fuses := by
  unfold State.andironWord
  repeat' split
  all_goals simp

@[simp] theorem State.released_fuses (s : State) (k : Nat) (w : BusWrite) : (s.released k w).fuses = s.fuses := by simp [State.released]
@[simp] theorem State.mbxRelease_fuses (s : State) (k : Nat) : (s.mbxRelease k).fuses = s.fuses := by simp [State.mbxRelease]

@[simp] theorem State.compare_fuses (s : State) (k : Nat) (side : Bool) (w : BusWrite) : (s.compare k side w).fuses = s.fuses := by
  unfold State.compare
  dsimp only
  repeat' split
  all_goals simp

@[simp] theorem State.enterStalled_fuses (s : State) (k : Nat) : (s.enterStalled k).fuses = s.fuses := by simp [State.enterStalled]
@[simp] theorem State.enterAll_fuses (s : State) (k : Nat) : (s.enterAll k).fuses = s.fuses := by simp [State.enterAll]

@[simp] theorem State.busWrite_fuses (s : State) (k : Nat) (side : Bool) (w : BusWrite) : (s.busWrite k side w).fuses = s.fuses := by
  simp [State.busWrite]

@[simp] theorem State.cmpTimeout_fuses (s : State) (k tag : Nat) : (s.cmpTimeout k tag).fuses = s.fuses := by
  unfold State.cmpTimeout
  repeat' split
  all_goals simp

/-! ### Cycle boundary (Machine/Cycle.lean) -/

@[simp] theorem State.slotRx_fuses (s : State) (sl : Nat) : (s.slotRx sl).fuses = s.fuses := by
  unfold State.slotRx
  repeat' split
  all_goals simp

@[simp] theorem State.bnStat_fuses (s : State) (n : Nat) : (s.bnStat n).fuses = s.fuses := by
  unfold State.bnStat
  split <;> simp

@[simp] theorem State.rxRegs_fuses (s : State) : s.rxRegs.fuses = s.fuses := by simp [State.rxRegs]
@[simp] theorem State.dynGrant_fuses (s : State) : s.dynGrant.fuses = s.fuses := by simp [State.dynGrant]
@[simp] theorem State.ringEnd_fuses (s : State) : (s.ringEnd).1.fuses = s.fuses := by simp [State.ringEnd]

@[simp] theorem State.sampleEnd_fuses (s : State) : s.sampleEnd.fuses = s.fuses := by
  unfold State.sampleEnd
  split <;> simp

@[simp] theorem State.toTick0_fuses (s : State) : s.toTick0.fuses = s.fuses := by simp [State.toTick0]
@[simp] theorem State.skipCycle_fuses (s : State) (sc : Nat) : (s.skipCycle sc).fuses = s.fuses := by simp [State.skipCycle]

@[simp] theorem State.takeover_fuses (s : State) : s.takeover.fuses = s.fuses := by
  simp only [State.takeover, State.logHandover_fuses, State.fuses_mk, State.fuses_eta, State.when_fuses]

@[simp] theorem State.boundaryEffects_fuses (s : State) (prev m : Mode) : (s.boundaryEffects prev m).fuses = s.fuses := by
  unfold State.boundaryEffects
  repeat' split
  all_goals simp

@[simp] theorem State.boundaryMode_fuses (s : State) : s.boundaryMode.fuses = s.fuses := by
  unfold State.boundaryMode
  dsimp only
  repeat' split
  all_goals simp

@[simp] theorem State.takeoverSeen_fuses (s : State) : s.takeoverSeen.fuses = s.fuses := by simp [State.takeoverSeen]
@[simp] theorem State.startHandover_fuses (s : State) : s.startHandover.fuses = s.fuses := by simp [State.startHandover]
@[simp] theorem State.testWindow_fuses (s : State) : s.testWindow.fuses = s.fuses := by simp [State.testWindow]

@[simp] theorem State.shadowSample_fuses (s : State) : s.shadowSample.fuses = s.fuses := by
  unfold State.shadowSample
  split <;> simp

@[simp] theorem State.nextSample_fuses (s : State) : s.nextSample.fuses = s.fuses := by
  unfold State.nextSample
  split <;> simp

@[simp] theorem State.sampleRegs_fuses (s : State) : s.sampleRegs.fuses = s.fuses := by
  unfold State.sampleRegs
  split <;> simp

@[simp] theorem State.clearCycle_fuses (s : State) : s.clearCycle.fuses = s.fuses := by simp [State.clearCycle]

@[simp] theorem State.cycleBoundary_fuses (s : State) : s.cycleBoundary.fuses = s.fuses := by
  unfold State.cycleBoundary
  dsimp only
  repeat' split
  all_goals simp

/-! ### Service port and JTAG (Machine/Service.lean) -/

@[simp] theorem State.svcCount_fuses (s : State) (st : SvcStatus) : (s.svcCount st).fuses = s.fuses := by
  unfold State.svcCount
  split <;> simp

@[simp] theorem State.svcHeader_fuses (s : State) (cmd addr len : Nat) : (s.svcHeader cmd addr len).fuses = s.fuses := by
  simp [State.svcHeader]

/-- A frame does to the fuses what its command does, or nothing. -/
theorem State.svcFrame_fuses_cases (s : State) (cmd : Nat) (f : SvcFrame) (act : State → State × SvcStatus × List Byte) :
    (s.svcFrame cmd f act).fuses = s.fuses ∨ ∃ u, u.fuses = s.fuses ∧ (s.svcFrame cmd f act).fuses = (act u).1.fuses := by
  unfold State.svcFrame
  split
  · exact .inl rfl
  · extract_lets s1 _ r s2
    have h1 : s1.fuses = s.fuses := by simp [s1]
    have hr : r.1.fuses = s.fuses ∨ ∃ u, u.fuses = s.fuses ∧ r.1.fuses = (act u).1.fuses := by
      unfold r
      split_ifs
      · exact .inl h1
      · exact .inl h1
      · exact .inr ⟨_, by rw [State.fuses_mk, State.fuses_eta, h1], rfl⟩
    have h2 : s2.fuses = r.1.fuses := by simp [s2]
    split
    · exact hr
    · rw [State.fuses_mk, State.fuses_eta, h2]
      exact hr

@[simp] theorem State.svcFrame_fuses (s : State) (cmd : Nat) (f : SvcFrame) (act : State → State × SvcStatus × List Byte)
    (hact : ∀ u, (act u).1.fuses = u.fuses) : (s.svcFrame cmd f act).fuses = s.fuses := by
  rcases State.svcFrame_fuses_cases s cmd f act with h | ⟨u, hu, h⟩
  · exact h
  · rw [h, hact, hu]

@[simp] theorem refuse_fuses (s : State) (st : SvcStatus) : (refuse s st).1.fuses = s.fuses := by simp [refuse]

@[simp] theorem State.readWord_fuses (s : State) (open_ : Bool) (a flueNs rtcUnits : Nat) :
    (s.readWord open_ a flueNs rtcUnits).1.fuses = s.fuses := by
  simp [State.readWord]

@[simp] theorem State.readWords_fuses (s : State) (open_ : Bool) (a n flueNs rtcUnits : Nat) :
    (s.readWords open_ a n flueNs rtcUnits).1.fuses = s.fuses := by
  simp [State.readWords]

@[simp] theorem State.svcRead_fuses (s : State) (f : SvcFrame) (other : Option Nat) : (s.svcRead f other).fuses = s.fuses := by
  simp [State.svcRead]

@[simp] theorem State.svcAshRead_fuses (s : State) (f : SvcFrame) : (s.svcAshRead f).fuses = s.fuses := by simp [State.svcAshRead]
@[simp] theorem State.svcEnter_fuses (s : State) (f : SvcFrame) : (s.svcEnter f).fuses = s.fuses := by simp [State.svcEnter]
@[simp] theorem State.svcAbort_fuses (s : State) (f : SvcFrame) : (s.svcAbort f).fuses = s.fuses := by simp [State.svcAbort]

@[simp] theorem State.nvmGate_fuses (s : State) (ok : Bool) (go : State → State × SvcStatus × List Byte)
    (hgo : ∀ u, (go u).1.fuses = u.fuses) : (s.nvmGate ok go).1.fuses = s.fuses := by
  unfold State.nvmGate
  split_ifs <;> simp [refuse, hgo]

@[simp] theorem State.nvmStart_fuses (s : State) (op addr : Nat) (data : List Byte) : (s.nvmStart op addr data).fuses = s.fuses := by
  simp [State.nvmStart]

@[simp] theorem State.svcErase_fuses (s : State) (f : SvcFrame) : (s.svcErase f).fuses = s.fuses := by simp [State.svcErase]
@[simp] theorem State.svcProgram_fuses (s : State) (f : SvcFrame) : (s.svcProgram f).fuses = s.fuses := by simp [State.svcProgram]

@[simp] theorem State.svcFlashRead_fuses (s : State) (f : SvcFrame) (answers : Bool) : (s.svcFlashRead f answers).fuses = s.fuses := by
  simp [State.svcFlashRead]

@[simp] theorem State.svcKey_fuses (s : State) (f : SvcFrame) : (s.svcKey f).fuses = s.fuses := by simp [State.svcKey]

@[simp] theorem State.nvmEffect_fuses (s : State) (x : Nvm) (good : Bool) : (s.nvmEffect x good).1.fuses = s.fuses := by
  unfold State.nvmEffect
  split <;> simp only [State.freeFlash_fuses, State.freeKey_fuses, State.fuses_mk, State.fuses_eta, State.ite_fuses, State.ite_fst_fuses,
    ite_self]

@[simp] theorem State.nvmComplete_fuses (s : State) (answers good : Bool) : (s.nvmComplete answers good).fuses = s.fuses := by
  unfold State.nvmComplete
  split <;> simp

@[simp] theorem State.svcAbandon_fuses (s : State) (header : Option (Nat × Nat × Nat)) (mode3 : Bool) :
    (s.svcAbandon header mode3).fuses = s.fuses := by
  unfold State.svcAbandon
  repeat' split
  all_goals simp

@[simp] theorem State.tapMove_fuses (s : State) (tms : List Bool) (trst : Bool) : (s.tapMove tms trst).fuses = s.fuses := by
  simp [State.tapMove]

/-! ### Tick (Machine/Tick.lean) -/

@[simp] theorem State.show_fuses (s : State) (shown : List (Nat × Word)) : (s.show shown).fuses = s.fuses := by simp [State.show]

@[simp] theorem State.showMeasured_fuses (s : State) (m : List (Nat × Word)) : (s.showMeasured m).fuses = s.fuses := by
  simp [State.showMeasured]

@[simp] theorem State.sampleOwnTaps_fuses (s : State) (own : List (Nat × Word × Bool)) : (s.sampleOwnTaps own).fuses = s.fuses := by
  simp [State.sampleOwnTaps]

@[simp] theorem State.tickBefore_fuses (s : State) (t : Nat) : (s.tickBefore t).fuses = s.fuses := by simp [State.tickBefore]

@[simp] theorem State.intakeTick_fuses (s : State) (t j : Nat) (m : List (Nat × Word)) : (s.intakeTick t j m).fuses = s.fuses := by
  simp only [State.intakeTick, State.poseFree_fuses, State.sampleOwnTaps_fuses, State.replayTick_fuses, State.posAfter_fuses,
    State.fuses_mk, State.fuses_eta, State.ite_fuses, ite_self, State.when_fuses, State.each_fuses, implies_true]

@[simp] theorem State.startSlots_fuses (s : State) (sc j : Nat) : (s.startSlots sc j).fuses = s.fuses := by simp [State.startSlots]
@[simp] theorem State.forgetTiles_fuses (s : State) : s.forgetTiles.fuses = s.fuses := by simp [State.forgetTiles]

@[simp] theorem State.tickStart_fuses (s : State) (measured shown : List (Nat × Word)) : (s.tickStart measured shown).fuses = s.fuses := by
  unfold State.tickStart
  dsimp only
  repeat' split
  all_goals simp only [State.show_fuses, State.showMeasured_fuses, State.each_fuses, State.posLate_fuses, State.posBefore_fuses,
    State.when_fuses, State.readSets_fuses, State.slotsEnd_fuses, State.sampleTaps_fuses, State.forgetTiles_fuses, State.setTime_fuses,
    State.tickBefore_fuses, State.intakeTick_fuses, State.startSlots_fuses, State.ite_fuses, ite_self, implies_true, State.fuses_mk,
    State.fuses_eta]

/-! ### Commands -/

/-- The commands that reach a keyed operation. -/
def blowsFuses : Instr → Bool
  | .registerWrite .. | .imgFloorRaise .. | .imgKeyRevoke .. | .bstFuseCmd .. | .lifecycleFuse | .write .. | .jtagInstruction .. => true
  | _ => false

theorem exec_fuses (c : Instr) (s t : State) (hc : blowsFuses c = false) (h : exec c s = .next t) : t.fuses = s.fuses := by
  cases c
  case registerWrite | imgFloorRaise | imgKeyRevoke | bstFuseCmd | lifecycleFuse | write | jtagInstruction => cases hc
  case hello =>
    cases h
    split
    · rfl
    · split_ifs <;> simp
  all_goals
    cases h
    simp

end Sys2Proof.Machine
end

section
/-!
# The version floor (R52)

`Otp.FloorGrows` says what may become of the floor entries: more of them behind those there are, and no more than 64. It holds of every
command: most keep all the fuses (`exec_fuses`), IMG_KEY_REVOKE, BST_FUSE_CMD and LIFECYCLE_FUSE blow others, and a register write, which
the service port and JTAG can ask for too, programs a floor entry by `State.floorRaise` alone.
-/
namespace Sys2Proof.Machine

open Sys2Proof

/-- From `o` to `p` floor entries are only added, and at most 64 stay at most 64 (R52). -/
def Otp.FloorGrows (o p : Otp) : Prop := o.floors <+: p.floors ∧ (o.floors.length ≤ 64 → p.floors.length ≤ 64)

theorem Otp.FloorGrows.of_floors {o p : Otp} (h : p.floors = o.floors) : o.FloorGrows p :=
  ⟨h ▸ List.prefix_rfl, fun hl => h ▸ hl⟩

theorem Otp.FloorGrows.of_eq {o p : Otp} (h : p = o) : o.FloorGrows p := .of_floors (congrArg Otp.floors h)

theorem Otp.FloorGrows.trans {o p q : Otp} (h : o.FloorGrows p) (k : p.FloorGrows q) : o.FloorGrows q :=
  ⟨h.1.trans k.1, fun hl => k.2 (h.2 hl)⟩

/-! ### The highest entry -/

theorem State.versionFloor_eq_foldr (s : State) : s.versionFloor = s.otp.floors.foldr max ⊥ := List.foldl_eq_foldr

theorem State.le_versionFloor (s : State) (v : Nat) (h : v ∈ s.otp.floors) : v ≤ s.versionFloor := by
  rw [State.versionFloor_eq_foldr]
  exact List.le_max_of_le h le_rfl

theorem State.versionFloor_mem (s : State) (h : s.otp.floors ≠ []) : s.versionFloor ∈ s.otp.floors := by
  rw [State.versionFloor_eq_foldr]
  exact List.maximum_mem (List.foldr_max_of_ne_nil h).symm

theorem State.versionFloor_nil (s : State) (h : s.otp.floors = []) : s.versionFloor = 0 := by
  rw [State.versionFloor, h, List.foldl_nil]

theorem State.versionFloor_mono (s t : State) (h : s.otp.floors ⊆ t.otp.floors) : s.versionFloor ≤ t.versionFloor := by
  rw [s.versionFloor_eq_foldr]
  exact List.max_le_of_forall_le _ _ fun v hv => t.le_versionFloor v (h hv)

/-! ### The keyed operations -/

theorem State.floorRaise_floorGrows (s : State) (key : Nat) : s.fuses.FloorGrows (s.floorRaise key).fuses := by
  rcases State.floorRaise_fuses s key with h | ⟨hl, v, h⟩
  · exact .of_eq h
  · rw [h]
    refine ⟨List.prefix_append _ _, fun _ => ?_⟩
    rw [List.length_append, List.length_singleton]
    exact hl

theorem State.keyRevoke_floorGrows (s : State) (key mask : Nat) : s.fuses.FloorGrows (s.keyRevoke key mask).fuses := by
  obtain ⟨m, h⟩ := State.keyRevoke_fuses s key mask
  rw [h]
  exact .of_floors rfl

theorem State.fuseCmd_floorGrows (s : State) (key : Nat) : s.fuses.FloorGrows (s.fuseCmd key).fuses := by
  obtain ⟨l, h⟩ := State.fuseCmd_fuses s key
  rw [h]
  exact .of_floors rfl

theorem State.lifecycleFuse_floorGrows (s : State) : s.fuses.FloorGrows s.lifecycleFuse.fuses := by
  rcases State.lifecycleFuse_fuses s with h | ⟨t, -, h⟩
  · exact .of_eq h
  · rw [h]
    exact .of_floors rfl

theorem State.inService_floorGrows (s : State) (a : Nat) (f : State → State) (hf : ∀ u : State, u.fuses.FloorGrows (f u).fuses) :
    s.fuses.FloorGrows (s.inService a f).fuses := by
  unfold State.inService
  split_ifs
  · exact .of_eq rfl
  · exact hf s
  · exact .of_eq (State.lockedWrite_fuses s a)

/-! ### Register writes -/

/-- Of the registers with a row of their own, three lead to keyed operations; the others keep the fuses. -/
theorem State.writeOwn_floorGrows {s t : State} {a : Nat} {v : Word} (h : s.writeOwn a v = some t) : s.fuses.FloorGrows t.fuses := by
  unfold State.writeOwn at h
  dsimp only at h
  split_ifs at h <;> cases h
  · exact .of_eq (State.swreset_fuses s _)
  · exact State.floorRaise_floorGrows s _
  · exact State.keyRevoke_floorGrows s _ _
  · exact .of_eq (State.lifecycleReq_fuses s _ _)
  · exact State.fuseCmd_floorGrows s _
  all_goals exact .of_eq (by simp)

theorem State.writeWord_floorGrows (s : State) (open_ : Bool) (a : Nat) (v : Word) :
    s.fuses.FloorGrows (s.writeWord open_ a v).1.fuses := by
  have locked : s.fuses.FloorGrows (s.lockedWrite a).fuses := .of_eq (State.lockedWrite_fuses s a)
  unfold State.writeWord
  dsimp only
  split
  · exact .of_eq rfl
  split
  · split
    · exact .of_eq rfl
    · exact locked
  split
  · exact .of_eq rfl
  next k i _ =>
    split
    · exact .of_eq rfl
    split
    · split
      · exact .of_eq (State.each_fuses _ _ _ fun u j => State.forceOne_fuses u _)
      · exact locked
    split
    · exact locked
    · cases h : s.writeOwn a v with
      | some t => exact State.writeOwn_floorGrows h
      | none => exact .of_eq (State.writePlain_fuses s k i a v)

theorem State.foldl_fst_floorGrows {α β : Type} (l : List α) (f : State × β → α → State × β)
    (h : ∀ (p : State × β) a, p.1.fuses.FloorGrows (f p a).1.fuses) (p : State × β) : p.1.fuses.FloorGrows (l.foldl f p).1.fuses := by
  induction l generalizing p with
  | nil => exact .of_eq rfl
  | cons a l ih => exact (h p a).trans (ih _)

theorem State.writeWords_floorGrows (s : State) (open_ : Bool) (a : Nat) (l : List Word) :
    s.fuses.FloorGrows (s.writeWords open_ a l).1.fuses := by
  refine State.foldl_fst_floorGrows _ _ (fun p x => ?_) (s, 0)
  exact State.writeWord_floorGrows p.1 open_ (a + 4 * x.2) x.1

theorem State.svcFrame_floorGrows (s : State) (cmd : Nat) (f : SvcFrame) (act : State → State × SvcStatus × List Byte)
    (hact : ∀ u : State, u.fuses.FloorGrows (act u).1.fuses) : s.fuses.FloorGrows (s.svcFrame cmd f act).fuses := by
  rcases State.svcFrame_fuses_cases s cmd f act with h | ⟨u, hu, h⟩
  · exact .of_eq h
  · rw [h, ← hu]
    exact hact u

theorem State.svcWrite_floorGrows (s : State) (f : SvcFrame) : s.fuses.FloorGrows (s.svcWrite f).fuses := by
  refine State.svcFrame_floorGrows s 2 f _ fun u => ?_
  split
  · exact .of_eq rfl
  · exact (State.writeWords_floorGrows u false f.addr _).trans (.of_eq (State.when_fuses _ _ _ (State.addF_fuses _ _ _)))

theorem State.jtagDo_floorGrows (s : State) (what : JtagOp) : s.fuses.FloorGrows (s.jtagDo what).1.fuses := by
  unfold State.jtagDo
  dsimp only
  split
  case h_3 a l =>
    split_ifs
    · exact State.writeWords_floorGrows s true a l
    · exact .of_eq rfl
  all_goals exact .of_eq (by simp)

theorem State.jtag_floorGrows (s : State) (ir : Nat) (what : JtagOp) (tms : List Bool) (trst : Bool) :
    s.fuses.FloorGrows (s.jtag ir what tms trst).fuses := by
  unfold State.jtag
  split_ifs
  · exact .of_eq rfl
  · dsimp only
    rw [State.tapMove_fuses, State.fuses_mk, State.fuses_eta]
    refine .trans (.of_eq ?_) (State.jtagDo_floorGrows _ what)
    simp

/-! ### Commands -/

theorem exec_floorGrows (c : Instr) (s t : State) (h : exec c s = .next t) : s.fuses.FloorGrows t.fuses := by
  cases hc : blowsFuses c with
  | false => exact .of_eq (exec_fuses c s t hc h)
  | true =>
    cases c
    case registerWrite addr value => cases h; exact State.writeWord_floorGrows s _ _ _
    case imgFloorRaise key => cases h; exact State.inService_floorGrows s _ _ fun u => State.floorRaise_floorGrows u key
    case imgKeyRevoke key mask => cases h; exact State.inService_floorGrows s _ _ fun u => State.keyRevoke_floorGrows u key mask
    case bstFuseCmd key => cases h; exact State.inService_floorGrows s _ _ fun u => State.fuseCmd_floorGrows u key
    case lifecycleFuse => cases h; exact State.lifecycleFuse_floorGrows s
    case write f => cases h; exact State.svcWrite_floorGrows s f
    case jtagInstruction ir what tms trst => cases h; exact State.jtag_floorGrows s ir what tms trst
    all_goals cases hc

/-- In SERVICE a register's own row acts (R8). -/
theorem State.inService_of_service (s : State) (a : Nat) (f : State → State) (hp : s.sys.phase = .run) (hm : s.mode = .service) :
    s.inService a f = f s := by
  simp [State.inService, State.running, hp, hm]

/-- Settles O56: the floor is the maximum of the entries; in SERVICE the key leads to `State.floorRaise`, whose condition the hypotheses
decide; and every command only adds behind the entries there are, so the maximum does not fall. -/
theorem versionFloor : Obligations.VersionFloor := by
  unfold Obligations.VersionFloor
  refine ⟨fun s => ⟨s.le_versionFloor, s.versionFloor_mem, s.versionFloor_nil⟩, ?raise, ?step⟩
  case raise =>
    intro s hp hm hl hi
    have hx : exec (.imgFloorRaise 0x5F1E) s = .next (s.floorRaise 0x5F1E) :=
      congrArg _ (State.inService_of_service s _ _ hp hm)
    rw [hx]
    refine ⟨fun hn => ?_, fun hn => ?_⟩
    · rw [State.floorRaise, if_pos ⟨rfl, hl, hi, hn⟩]
    · rw [State.floorRaise, if_neg fun h => absurd h.2.2.2 hn.not_gt]
  case step =>
    intro c s t h
    obtain ⟨hpre, hlen⟩ := exec_floorGrows c s t h
    exact ⟨State.versionFloor_mono s t hpre.subset, hlen⟩

end Sys2Proof.Machine
end

section
/-!
# The wake that meets the release (R61)

The branch of DORMANT_RELEASE in which the alarm fires differs from the state before in the Ember domain and, by the rules of
Laws/Raise.lean, in the registers of the power block. What it leaves in that block is read off with the rules of Laws/Regs.lean.
-/
namespace Sys2Proof.Machine

open Sys2Proof

/-! ### Fields of other registers -/

theorem State.getF_setF_other (s : State) (f g : Fld) (v : Nat) (h : f.addr ≠ g.addr) : (s.setF f v).getF g = s.getF g :=
  State.getF_setReg_other s _ _ g h

theorem State.getF_incF_other (s : State) (f g : Fld) (h : f.addr ≠ g.addr) : (s.incF f).getF g = s.getF g :=
  State.getF_setReg_other s _ _ g h

/-! ### The refusal of a power domain -/

theorem State.confined_domRefuse (s : State) (d id : Nat) (hd : d < 22) : s.Confined [0x4001] (s.domRefuse d id) := by
  have hb : (F.PWR_DOM_REFUSE_COUNT d).addr / 0x10000 = 0x4001 ∧ (F.PWR_DOM_REFUSE_LAST_ID d).addr / 0x10000 = 0x4001 := by
    simp only [F.PWR_DOM_REFUSE_COUNT, F.PWR_DOM_REFUSE_LAST_ID]
    omega
  refine .trans ?_ (State.confined_event _ _ Ev.pwr 6 (by decide))
  refine .trans ?_ (State.confined_setF _ _ F.PWR_LAST_REFUSAL_ABORT _ (by decide))
  refine .trans ?_ (State.confined_setF _ _ F.PWR_LAST_REFUSAL_ID _ (by decide))
  refine .trans ?_ (State.confined_setF _ _ F.PWR_LAST_REFUSAL_DOMAIN _ (by decide))
  exact (State.confined_incF _ _ _ (by simp [hb.1])).trans (State.confined_setF _ _ _ _ (by simp [hb.2]))

/-- The shared part of a refusal, PWR_LAST_REFUSAL and the event, leaves the other registers alone. -/
theorem State.getF_lastRefusal_other (s : State) (d id : Nat) (g : Fld) (h1 : F.PWR_LAST_REFUSAL_ID.addr ≠ g.addr)
    (h2 : F.PWR_EVENT_SEEN.addr ≠ g.addr) :
    ((((s.setF F.PWR_LAST_REFUSAL_DOMAIN d).setF F.PWR_LAST_REFUSAL_ID id).setF F.PWR_LAST_REFUSAL_ABORT 0).event Ev.pwr 6).getF g =
      s.getF g := by
  rw [State.getF_event_other _ _ _ _ h2, State.getF_setF_other _ F.PWR_LAST_REFUSAL_ABORT _ _ h1,
    State.getF_setF_other _ F.PWR_LAST_REFUSAL_ID _ _ h1, State.getF_setF_other _ F.PWR_LAST_REFUSAL_DOMAIN _ _ h1]

/-- The registers of a domain's refusals lie apart from PWR_LAST_REFUSAL and the event register. -/
theorem F.refuse_addr (d : Nat) : F.PWR_LAST_REFUSAL_ID.addr ≠ (F.PWR_DOM_REFUSE_COUNT d).addr ∧
    F.PWR_EVENT_SEEN.addr ≠ (F.PWR_DOM_REFUSE_COUNT d).addr := by
  simp only [F.PWR_LAST_REFUSAL_ID, F.PWR_EVENT_SEEN, F.PWR_DOM_REFUSE_COUNT]
  omega

/-- A refusal keeps the refuser's ID on the domain (R462). -/
theorem State.domRefuse_lastId (s : State) (d id : Nat) :
    (s.domRefuse d id).getF (F.PWR_DOM_REFUSE_LAST_ID d) = id % 256 := by
  obtain ⟨h1, h2⟩ := F.refuse_addr d
  rw [State.domRefuse, State.getF_lastRefusal_other _ _ _ (F.PWR_DOM_REFUSE_LAST_ID d) h1 h2, State.getF_setF_same _ _ _ rfl]
  rfl

/-- A refusal counts on the domain (R462). -/
theorem State.domRefuse_count (s : State) (d id : Nat) :
    (s.domRefuse d id).getF (F.PWR_DOM_REFUSE_COUNT d) = min 65535 (s.getF (F.PWR_DOM_REFUSE_COUNT d) + 1) := by
  obtain ⟨h1, h2⟩ := F.refuse_addr d
  have hapart : (F.PWR_DOM_REFUSE_LAST_ID d).apart (F.PWR_DOM_REFUSE_COUNT d) = true := by
    simp [Fld.apart, F.PWR_DOM_REFUSE_LAST_ID, F.PWR_DOM_REFUSE_COUNT]
  rw [State.domRefuse, State.getF_lastRefusal_other _ _ _ _ h1 h2, State.getF_setF_apart _ _ _ _ rfl hapart,
    State.getF_incF_same _ _ rfl]
  rfl

/-- A refusal leaves the fields of other registers alone. -/
theorem State.domRefuse_getF_other (s : State) (d id : Nat) (g : Fld) (h : (F.PWR_DOM_REFUSE_COUNT d).addr ≠ g.addr)
    (h1 : F.PWR_LAST_REFUSAL_ID.addr ≠ g.addr) (h2 : F.PWR_EVENT_SEEN.addr ≠ g.addr) : (s.domRefuse d id).getF g = s.getF g := by
  rw [State.domRefuse, State.getF_lastRefusal_other _ _ _ _ h1 h2,
    State.getF_setF_other _ (F.PWR_DOM_REFUSE_LAST_ID d) _ _ h, State.getF_incF_other _ _ _ h]

/-! ### The release refused -/

/-- What the wake does to the entry into DORMANT (R61): the refusal of PD_CORE by EMBER_RTC, the aborted shutdown and its event, and the
end of the shutdown request. -/
def State.refuseDormant (s : State) : State :=
  (((s.domRefuse 1 0x10).incF F.PWR_SD_ABORT_CNT_COUNT).event Ev.pwr 0).setFlag F.PWR_STATUS_SD_PENDING false

/-- With the alarm in the cycle of the release, the Ember domain counts on and spends the alarm, and the entry is refused. -/
theorem State.dormantRelease_alarm (s : State) (elapsed : Nat) (hp : s.sys.phase = .run) (hm : s.mode = .safeHold)
    (hsd : s.flag F.PWR_STATUS_SD_PENDING = true) (hq : s.ash.queue = []) (hv : s.ember.vbat = true) (ha : s.ember.alarm.isSome = true) :
    s.dormantRelease elapsed true =
      State.refuseDormant { s with ember := { s.ember with rtc := (s.ember.rtc + elapsed) % 2 ^ 48, alarm := none } } := by
  have hrun : s.running = true := decide_eq_true hp
  rw [State.dormantRelease, if_pos ⟨hrun, hm, hsd, hq, hv⟩, State.rtcRun, if_pos hv, if_pos ⟨rfl, ha⟩]
  rfl

theorem State.confined_refuseDormant (s : State) : s.Confined [0x4001] s.refuseDormant := by
  refine .trans ?_ (State.confined_setFlag _ _ F.PWR_STATUS_SD_PENDING false (by decide))
  refine .trans ?_ (State.confined_event _ _ Ev.pwr 0 (by decide))
  exact (State.confined_domRefuse s 1 0x10 (by decide)).trans (State.confined_incF _ _ F.PWR_SD_ABORT_CNT_COUNT (by decide))

theorem State.refuseDormant_pending (s : State) : s.refuseDormant.flag F.PWR_STATUS_SD_PENDING = false := by
  rw [State.flag, State.refuseDormant, State.setFlag, State.getF_setF_same _ _ _ rfl]
  rfl

/-- Behind the refusal come the count of aborted shutdowns, the event and the status. -/
theorem State.refuseDormant_getF (s : State) (g : Fld) (h1 : F.PWR_STATUS_SD_PENDING.addr ≠ g.addr)
    (h2 : F.PWR_EVENT_SEEN.addr ≠ g.addr) :
    s.refuseDormant.getF g = ((s.domRefuse 1 0x10).incF F.PWR_SD_ABORT_CNT_COUNT).getF g := by
  rw [State.refuseDormant, State.setFlag, State.getF_setF_other _ _ _ _ h1, State.getF_event_other _ _ _ _ h2]

theorem State.refuseDormant_lastId (s : State) : s.refuseDormant.getF (F.PWR_DOM_REFUSE_LAST_ID 1) = 0x10 := by
  rw [State.refuseDormant_getF _ _ (by decide) (by decide), State.getF_incF_apart _ _ _ rfl rfl, State.domRefuse_lastId]

theorem State.refuseDormant_count (s : State) :
    s.refuseDormant.getF (F.PWR_DOM_REFUSE_COUNT 1) = min 65535 (s.getF (F.PWR_DOM_REFUSE_COUNT 1) + 1) := by
  rw [State.refuseDormant_getF _ _ (by decide) (by decide), State.getF_incF_apart _ _ _ rfl rfl, State.domRefuse_count]

theorem State.refuseDormant_aborts (s : State) :
    s.refuseDormant.getF F.PWR_SD_ABORT_CNT_COUNT = min (2 ^ 32 - 1) (s.getF F.PWR_SD_ABORT_CNT_COUNT + 1) := by
  rw [State.refuseDormant_getF _ _ (by decide) (by decide), State.getF_incF_same _ _ rfl,
    State.domRefuse_getF_other _ _ _ _ (by decide) (by decide) (by decide)]
  rfl

/-- Settles O47: the alarm leads to `State.refuseDormant` on a state that differs in the Ember domain alone; there the refusal shows, and
what is confined to the power block keeps mode, supply and stores. -/
theorem wakeWins : Obligations.WakeWins := by
  unfold Obligations.WakeWins
  intro s elapsed hp hm hsd hq hv ha hr
  let u : State := { s with ember := { s.ember with rtc := (s.ember.rtc + elapsed) % 2 ^ 48, alarm := none } }
  have hx : exec (.dormantRelease elapsed true) s = .next u.refuseDormant :=
    congrArg _ (State.dormantRelease_alarm s elapsed hp hm hsd hq hv ha)
  have hc : u.Confined [0x4001] u.refuseDormant := State.confined_refuseDormant u
  have hmode : u.refuseDormant.mode = .safeHold := (hc.mode (by decide)).trans hm
  obtain ⟨hregs, r, f, j, g, m, ht⟩ := hc
  refine ⟨_, hx, ?_, ?_, hmode, u.refuseDormant_pending, u.refuseDormant_lastId, u.refuseDormant_count, u.refuseDormant_aborts, hregs, ?_⟩
  · rw [ht]
    exact hr
  · rw [ht]
  · rw [ht]
    exact ⟨rfl, rfl, rfl, rfl⟩

end Sys2Proof.Machine
end

section
/-!
# What every step keeps (R11, R16, R52, R58, R63, R70, R513, R514, R516)

`State.Leads r t` collects what the whole device keeps from a state `r` to a later one `t`: the queue of commands, the canonical form of the
four memories, the OTP array but for what is programmed into it, and the absence of VSUP on a die that is off. It is closed under the
writing of registers and of hidden state; the section below follows it through the operations of the model, in the order of its files, by
the lemmas of the operations that each one calls. A lemma `State.Leads.f` says: where `r` leads to `s`, it leads to `s.f`.
-/
namespace Sys2Proof.Machine

open Sys2Proof

/-! ### The sparse memories -/

/-- Fewer cells are still in order, and none of them holds what an absent one reads. -/
theorem Mem.filter_wf (d : Byte) (m : List Host.Cell) (p : Host.Cell → Bool) (h : Mem.wf d m = true) : Mem.wf d (m.filter p) = true := by
  obtain ⟨hs, hd⟩ := (Store.wf_iff (α := Byte) (fun _ => d) m).1 h
  exact (Store.wf_iff (α := Byte) _ _).2 ⟨hs.filter _, fun p hp => hd p (List.mem_of_mem_filter hp)⟩

/-! ### The OTP array -/

theorem Otp.Grows.refl (o : Otp) : o.Grows o :=
  ⟨Nat.le_refl _, List.prefix_refl _, List.prefix_refl _, fun _ h => h, rfl, fun _ _ => rfl, Nat.le_refl _,
    fun _ _ => ⟨rfl, fun _ h => h⟩, fun _ => rfl, fun _ _ => rfl, rfl⟩

theorem Otp.Grows.trans {o p q : Otp} (h : o.Grows p) (k : p.Grows q) : o.Grows q := by
  obtain ⟨lc, floors, repairs, revoked, uid, keys, len, sights, board, fet, ro⟩ := h
  obtain ⟨lc', floors', repairs', revoked', uid', keys', len', sights', board', fet', ro'⟩ := k
  refine ⟨lc.trans lc', floors.trans floors', repairs.trans repairs', fun k h => revoked' k (revoked k h), uid'.trans uid, ?_,
    len.trans len', ?_, ?_, ?_, ro'.trans ro⟩
  · intro k h
    rw [keys' k (by rw [keys k h]; exact h), keys k h]
  · intro k h
    obtain ⟨key, seen⟩ := sights k h
    obtain ⟨key', seen'⟩ := sights' k (h.trans_le len)
    exact ⟨key'.trans key, fun b hb => seen' b (seen b hb)⟩
  · intro h
    rw [board' (by rw [board h]; exact h), board h]
  · intro k h
    rw [fet' k (by rw [fet k h]; exact h), fet k h]

/-- The two operations on the OTP array in hand name fuses that are not blown. -/
def State.OtpSound (s : State) : Prop := s.LifecycleForward ∧ s.KeyUnprogrammed

/-! ### The relation -/

/-- What the device keeps from `r` to `t`. -/
structure State.Leads (r t : State) : Prop where
  pending : t.pending = r.pending
  mem : r.MemOk → t.MemOk
  otp : r.OtpSound → r.otp.Grows t.otp ∧ t.OtpSound
  supply : r.SupplySound → t.SupplySound

theorem State.Leads.refl (s : State) : s.Leads s := ⟨rfl, id, fun h => ⟨.refl _, h⟩, id⟩

theorem State.Leads.trans {r s t : State} (h : r.Leads s) (k : s.Leads t) : r.Leads t where
  pending := k.pending.trans h.pending
  mem hr := k.mem (h.mem hr)
  otp hr := ⟨(h.otp hr).1.trans (k.otp (h.otp hr).2).1, (k.otp (h.otp hr).2).2⟩
  supply hr := k.supply (h.supply hr)

section
variable {old s : State} (hs : old.Leads s)
include hs

/-- New hidden state where the phase, VSUP, the life-cycle change in hand and the key operation in hand stay. -/
theorem State.Leads.hidden (ember : Ember) (tick : Nat) (tickLatch flueLatch rtcLatch : Option Word) (next : List (Mode × Nat × Nat))
    (vioLow vioUnder : Bool) (strap : Nat) (xdisOut : Level) (joined : Bool) (xdisOutCnt : Nat) (spares : List Nat) (rowFix : List (Nat × Nat))
    (heldSafe wiped : Bool) (doms : List Dom) (flu : Flu) (img : Img) (gr : Gr) (lds : Lds) (flt : Flt) (gdr : Gdr) (mots : List Mot)
    (adc : Adc) (poss : List Pos) (sps : List Sp) (cans : List Can) (eths : List Eth) (feedq : List Dgram) (map : MapSt) (sec : Sec)
    (saf : Saf) (cmps : List CmpRun) (jrn : Jrn) (queue : List AshReq) (withhold failRaised lcDone : Bool) (age : Age) (mbx : Mbx)
    (frame : Bool) (status : Option Nat) (miso : List Byte) (shadow : List (Nat × Word)) (tdo : List Word) (tap : Tap)
    (scan : Option (List Bool)) (free : Nat) :
    old.Leads ⟨s.regs, s.tiles, s.mram, s.flash, s.otp, ember, ⟨s.sys.phase, tick, tickLatch, flueLatch, rtcLatch, next, s.sys.vsup, vioLow,
      vioUnder, strap, xdisOut, joined, xdisOutCnt, spares, rowFix, heldSafe, wiped⟩, doms, flu, img, gr, lds, flt, gdr, mots, adc, poss, sps,
      cans, eths, feedq, map, sec, saf, cmps, jrn, ⟨queue, withhold, failRaised, s.ash.lcTarget, lcDone⟩, age, mbx,
      ⟨frame, s.svc.nvm, status, miso, shadow, tdo, tap, scan⟩, free, s.pending⟩ :=
  hs.trans ⟨rfl, id, fun ho => ⟨.refl _, ho⟩, id⟩

/-- New hidden state that holds neither phase nor keyed operation. -/
theorem State.Leads.fields (ember : Ember) (doms : List Dom) (flu : Flu) (img : Img) (gr : Gr) (lds : Lds) (flt : Flt) (gdr : Gdr)
    (mots : List Mot) (adc : Adc) (poss : List Pos) (sps : List Sp) (cans : List Can) (eths : List Eth) (feedq : List Dgram) (map : MapSt)
    (sec : Sec) (saf : Saf) (cmps : List CmpRun) (jrn : Jrn) (age : Age) (mbx : Mbx) (free : Nat) :
    old.Leads ⟨s.regs, s.tiles, s.mram, s.flash, s.otp, ember, s.sys, doms, flu, img, gr, lds, flt, gdr, mots, adc, poss, sps, cans, eths,
      feedq, map, sec, saf, cmps, jrn, s.ash, age, mbx, s.svc, free, s.pending⟩ :=
  hs.hidden ..

/-- New tiles in canonical form. -/
theorem State.Leads.tiles (ts : List Host.Cell) (hw : Mem.wf 0 s.tiles = true → Mem.wf 0 ts = true) : old.Leads { s with tiles := ts } := by
  refine hs.trans ⟨rfl, ?_, fun ho => ⟨.refl _, ho⟩, id⟩
  rintro ⟨hr, ht, hm, hf⟩
  exact ⟨hr, hw ht, hm, hf⟩

theorem State.Leads.ite (c : Prop) [Decidable c] {t : State} (k : old.Leads t) : old.Leads (if c then s else t) := by
  split
  · exact hs
  · exact k

theorem State.Leads.when (c : Bool) (f : State → State) (hf : ∀ u, old.Leads u → old.Leads (f u)) : old.Leads (s.when c f) := by
  rcases State.when_cases s c f with ⟨-, hw⟩ | ⟨-, hw⟩
  · rw [hw]
    exact hf s hs
  · rw [hw]
    exact hs

theorem State.Leads.each {α : Type} (l : List α) (f : State → α → State) (hf : ∀ u a, old.Leads u → old.Leads (f u a)) : old.Leads
    (s.each l f) :=
  State.each_keeps (fun t => old.Leads t) f hf l s hs

theorem State.Leads.foldl {α : Type} (l : List α) (f : State → α → State) (hf : ∀ u a, old.Leads u → old.Leads (f u a)) :
    old.Leads (l.foldl f s) := hs.each l f hf

/-! ### Registers (Machine/Ops.lean) -/

theorem State.Leads.setReg (a : Nat) (w : Word) : old.Leads (s.setReg a w) := by
  refine hs.trans ⟨rfl, ?_, fun ho => ⟨.refl _, ho⟩, id⟩
  rintro ⟨hr, hm⟩
  exact ⟨State.setReg_wf s a w hr, hm⟩

theorem State.Leads.setF (f : Fld) (v : Nat) : old.Leads (s.setF f v) := hs.setReg _ _
theorem State.Leads.setFlag (f : Fld) (b : Bool) : old.Leads (s.setFlag f b) := hs.setReg _ _
theorem State.Leads.addF (f : Fld) (n : Nat) : old.Leads (s.addF f n) := hs.setReg _ _
theorem State.Leads.incF (f : Fld) : old.Leads (s.incF f) := hs.setReg _ _
theorem State.Leads.peakF (f : Fld) (v : Nat) : old.Leads (s.peakF f v) := hs.setReg _ _

end

theorem State.Leads.foldl_fst {old : State} {α β : Type} (l : List α) (f : State × β → α → State × β)
    (hf : ∀ p a, old.Leads p.1 → old.Leads (f p a).1) (p : State × β) (hs : old.Leads p.1) : old.Leads (l.foldl f p).1 := by
  induction l generalizing p with
  | nil => exact hs
  | cons a l ih => exact ih _ (hf p a hs)

/-! ### Registers, events and logs (Machine/Ops.lean) -/

theorem State.Leads.fresh {old s : State} (hs : old.Leads s) : old.Leads (s.fresh).2 := hs.fields ..
theorem State.Leads.marker {old s : State} (hs : old.Leads s) (kind id data : Nat) : old.Leads (s.marker kind id data) := hs.fields ..

theorem State.Leads.event {old s : State} (hs : old.Leads s) (e : EvBlk) (b : Nat) : old.Leads (s.event e b) :=
  ((hs.setF ..).marker ..).ite _ (hs.setF ..)

theorem State.Leads.lockedWrite {old s : State} (hs : old.Leads s) (a : Nat) : old.Leads (s.lockedWrite a) := (hs.incF ..).setF ..

theorem State.Leads.pushLog {old s : State} (hs : old.Leads s) (fld : Nat → Fld) (n : Nat) : old.Leads (s.pushLog fld n) := by
  induction n generalizing s with
  | zero => exact hs
  | succ n ih => exact ih (hs.setReg ..)

theorem State.Leads.ashRequest {old s : State} (hs : old.Leads s) (type flags : Nat) (body : List Byte) :
    old.Leads (s.ashRequest type flags body) :=
  hs.hidden ..

theorem State.Leads.setTime {old s : State} (hs : old.Leads s) (t : Nat) : old.Leads (s.setTime t) := (hs.fields ..).setReg ..
theorem State.Leads.alignTick {old s : State} (hs : old.Leads s) (t : Nat) : old.Leads (s.alignTick t) := (hs.setTime ..).fields ..

/-! ### Power domains (Machine/Domains.lean) -/

theorem State.Leads.setDom {old s : State} (hs : old.Leads s) (d : Nat) (x : Dom) : old.Leads (s.setDom d x) := hs.fields ..
theorem State.Leads.setDomState {old s : State} (hs : old.Leads s) (d v : Nat) : old.Leads (s.setDomState d v) := (hs.setF ..).setF ..

theorem State.Leads.putVote {old s : State} (hs : old.Leads s) (d client : Nat) (b : Bool) : old.Leads (s.putVote d client b) :=
  ((hs.setF ..).setFlag ..).ite _ (hs.setF ..)

theorem State.putVote_sys (s : State) (d client : Nat) (b : Bool) : (s.putVote d client b).sys = s.sys := by
  unfold State.putVote
  dsimp only
  split <;> split <;> rfl

theorem State.Leads.domRefuse {old s : State} (hs : old.Leads s) (d id : Nat) : old.Leads (s.domRefuse d id) :=
  (((((hs.incF ..).setF ..).setF ..).setF ..).setF ..).event ..

theorem State.Leads.domAbort {old s : State} (hs : old.Leads s) (d id : Nat) : old.Leads (s.domAbort d id) :=
  (((((hs.incF ..).setF ..).setF ..).setF ..).setF ..).event ..

theorem State.Leads.wipeBanks {old s : State} (hs : old.Leads s) (bs : List Nat) : old.Leads (s.wipeBanks bs) :=
  hs.tiles _ (Mem.filter_wf 0 _ _)

theorem State.Leads.domEnter {old s : State} (hs : old.Leads s) (d : Nat) : old.Leads (s.domEnter d) := by
  unfold State.domEnter
  dsimp only
  split
  · exact hs.domRefuse ..
  · exact (hs.setDomState ..).setDom ..

theorem State.Leads.domRestore {old s : State} (hs : old.Leads s) (d : Nat) (retried : Bool) : old.Leads (s.domRestore d retried) :=
  ((hs.setDomState ..).setDom ..).setF ..

theorem State.Leads.domVote {old s : State} (hs : old.Leads s) (d client : Nat) : old.Leads (s.domVote d client) := by
  unfold State.domVote
  dsimp only
  split
  · exact hs
  · split
    · exact hs.putVote ..
    · exact ((((hs.putVote ..).domAbort ..).setDom ..).setF ..).ite _ (hs.putVote ..)
    · exact (hs.putVote ..).ite _ ((hs.putVote ..).domRestore ..)

theorem State.Leads.domUnvote {old s : State} (hs : old.Leads s) (d client : Nat) (coincident : Option Nat) :
    old.Leads (s.domUnvote d client coincident) := by
  unfold State.domUnvote
  dsimp only
  split
  · exact hs
  · split
    · exact (((hs.putVote ..).putVote ..).domRefuse ..).ite _ ((hs.putVote ..).putVote ..)
    · exact ((hs.putVote ..).domEnter ..).ite _ (hs.putVote ..)

theorem State.Leads.domRetry {old s : State} (hs : old.Leads s) (d : Nat) : old.Leads (s.domRetry d) :=
  hs.each _ _ fun _ _ hu => hu.when _ _ fun _ hu1 => hu1.domEnter ..

theorem State.Leads.domLogic {old s : State} (hs : old.Leads s) (d : Nat) : old.Leads (s.domLogic d) :=
  ((hs.fields ..).each _ _ fun _ _ hu => hu.setF ..).ite _ ((hs.fields ..).ite _ ((hs.fields ..).ite _ ((((hs.fields ..).each _ _ fun _ _
    hu => hu.setF ..).setF ..).ite _ hs)))

theorem State.Leads.domReady {old s : State} (hs : old.Leads s) (d : Nat) : old.Leads (s.domReady d) :=
  hs.ite _ (((((((hs.setDomState ..).setDom ..).domLogic ..).incF ..).domRetry ..).ite _ (hs.setDom ..)).ite _ (((((hs.when _ _ fun _ hu =>
    hu.wipeBanks ..).setDomState ..).setDom ..).when _ _ fun _ hu => hu.domEnter ..).ite _ (((hs.when _ _ fun _ hu => hu.wipeBanks
    ..).setDom ..).setF ..)))

theorem State.Leads.domRetired {old s : State} (hs : old.Leads s) (d : Nat) : old.Leads (s.domRetired d) :=
  ((hs.setDomState ..).setDom ..).ite _ hs

theorem State.Leads.modeVotes {old s : State} (hs : old.Leads s) (m : Mode) : old.Leads (s.modeVotes m) :=
  (((hs.each _ _ fun _ _ hu => (hu.domUnvote ..).ite _ (hu.domVote ..)).when _ _ fun _ hu => hu.each _ _ fun _ _ hu1 => hu1.domUnvote
    ..).domVote ..).ite _ ((hs.each _ _ fun _ _ hu => (hu.domUnvote ..).ite _ (hu.domVote ..)).when _ _ fun _ hu => hu.each _ _ fun _ _ hu1
    => hu1.domUnvote ..)

/-! ### Hobs and queues (Machine/Queues.lean) -/

theorem State.Leads.setInst {old s : State} (hs : old.Leads s) (i : Nat) (x : InstRun) : old.Leads (s.setInst i x) := hs.fields ..
theorem State.Leads.setSig {old s : State} (hs : old.Leads s) (k : Nat) (x : SigRun) : old.Leads (s.setSig k x) := hs.fields ..

theorem State.Leads.refreshQueues {old s : State} (hs : old.Leads s) : old.Leads s.refreshQueues :=
  hs.each _ _ fun _ _ hu => (hu.setF ..).peakF ..

theorem State.Leads.dropWrites {old s : State} (hs : old.Leads s) (l : List (Nat × Bool)) : old.Leads (s.dropWrites l) :=
  hs.each _ _ fun _ _ hu => hu.ite _ ((hu.fields ..).setF ..)

theorem State.Leads.discardCopies {old s : State} (hs : old.Leads s) (l : List (Nat × Bool)) : old.Leads (s.discardCopies l) :=
  (((hs.each _ _ fun _ _ hu => (hu.setInst ..).ite _ hu).fields ..).dropWrites ..).refreshQueues ..

theorem State.Leads.discard {old s : State} (hs : old.Leads s) (l : List Nat) : old.Leads (s.discard l) := hs.discardCopies ..

theorem State.Leads.lastEvent {old s : State} (hs : old.Leads s) (kind : Nat) (copyB : Bool) (hob i : Nat) :
    old.Leads (s.lastEvent kind copyB hob i) :=
  hs.setReg ..

theorem State.Leads.hobOf {old s : State} (hs : old.Leads s) (i : Nat) (copyB : Bool) : old.Leads (s.hobOf i copyB).2 := by
  unfold State.hobOf
  split
  · exact hs
  · exact hs.fresh ..

/-! ### Modes and reset (Machine/Modes.lean) -/

theorem State.Leads.setMot {old s : State} (hs : old.Leads s) (b : Nat) (m : Mot) : old.Leads (s.setMot b m) := hs.fields ..

theorem State.Leads.setPlan {old s : State} (hs : old.Leads s) (b : Nat) (p : Option (Nat × Nat)) : old.Leads (s.setPlan b p) :=
  hs.setMot ..

theorem State.Leads.statePlan {old s : State} (hs : old.Leads s) (b : Nat) : old.Leads (s.statePlan b) := hs.setPlan ..

theorem State.Leads.refreshBridge {old s : State} (hs : old.Leads s) (b : Nat) : old.Leads (s.refreshBridge b) :=
  (((((((((hs.setF ..).setF ..).when _ _ fun _ hu => (hu.incF ..).event ..).when _ _ fun _ hu => hu.incF ..).when _ _ fun _ hu => (hu.incF
    ..).event ..).setFlag ..).setFlag ..).setF ..).when _ _ fun _ hu => hu.statePlan ..).each _ _ fun _ _ hu => (hu.setFlag ..).setFlag ..

theorem State.Leads.refreshSol {old s : State} (hs : old.Leads s) (k : Nat) : old.Leads (s.refreshSol k) :=
  (((hs.setF ..).setF ..).setFlag ..).when _ _ fun _ hu => hu.setF ..

theorem State.Leads.refreshEn {old s : State} (hs : old.Leads s) (e : Nat) : old.Leads (s.refreshEn e) := hs.setFlag ..
theorem State.Leads.refreshSupply {old s : State} (hs : old.Leads s) (i : Nat) : old.Leads (s.refreshSupply i) := hs.setFlag ..

theorem State.Leads.refreshPower {old s : State} (hs : old.Leads s) : old.Leads s.refreshPower :=
  (((((hs.each _ _ fun _ _ hu => hu.refreshBridge ..).each _ _ fun _ _ hu => hu.refreshSol ..).each _ _ fun _ _ hu => hu.refreshEn ..).setF
    ..).setFlag ..).setFlag ..

theorem State.Leads.impose {old s : State} (hs : old.Leads s) (i : Imp) : old.Leads (s.impose i) :=
  (hs.refreshPower ..).ite _ ((hs.fields ..).refreshPower ..)

theorem State.Leads.liftImp {old s : State} (hs : old.Leads s) (src : Nat) : old.Leads (s.liftImp src) := (hs.fields ..).refreshPower ..
theorem State.Leads.refreshXdis {old s : State} (hs : old.Leads s) : old.Leads s.refreshXdis := ((hs.hidden ..).setFlag ..).setFlag ..

theorem State.Leads.logTrigger {old s : State} (hs : old.Leads s) (kind source : Nat) : old.Leads (s.logTrigger kind source) :=
  (hs.pushLog ..).setReg ..

theorem State.Leads.trigger {old s : State} (hs : old.Leads s) (kind source : Nat) : old.Leads (s.trigger kind source) :=
  (((((hs.logTrigger ..).fields ..).incF ..).incF ..).event ..).ite _ ((((((hs.logTrigger ..).fields ..).setF ..).setF ..).setF ..).ite _
    (hs.logTrigger ..))

theorem State.Leads.refreshHobs {old s : State} (hs : old.Leads s) : old.Leads s.refreshHobs := hs.setF ..

theorem State.Leads.hobService {old s : State} (hs : old.Leads s) (n : Nat) (b : Bool) : old.Leads (s.hobService n b) :=
  (hs.setF ..).refreshHobs ..

theorem State.Leads.rollEnter {old s : State} (hs : old.Leads s) (n : Nat) : old.Leads (s.rollEnter n) :=
  ((((hs.fields ..).setF ..).hobService ..).setF ..).setFlag ..

theorem State.Leads.rollLeave {old s : State} (hs : old.Leads s) (h : Nat) : old.Leads (s.rollLeave h) :=
  (hs.setFlag ..).ite _ (((hs.setFlag ..).setF ..).hobService ..)

theorem State.Leads.rollAbandon {old s : State} (hs : old.Leads s) : old.Leads s.rollAbandon :=
  (hs.fields ..).each _ _ fun _ _ hu => hu.when _ _ fun _ hu1 => hu1.rollLeave ..

theorem State.Leads.graphStop {old s : State} (hs : old.Leads s) : old.Leads s.graphStop :=
  (((((hs.each _ _ fun _ _ hu => hu.when _ _ fun _ hu1 => hu1.setF ..).fields ..).setFlag ..).setFlag ..).rollAbandon ..).refreshQueues ..

theorem State.Leads.refreshReact {old s : State} (hs : old.Leads s) : old.Leads s.refreshReact := (hs.setF ..).setF ..

theorem State.Leads.brakeRelease {old s : State} (hs : old.Leads s) : old.Leads s.brakeRelease :=
  ((((hs.fields ..).setFlag ..).event ..).refreshPower ..).ite _ hs

theorem State.Leads.isoSend {old s : State} (hs : old.Leads s) (a : Nat) : old.Leads (s.isoSend a) := hs.ite _ ((hs.fields ..).incF ..)

theorem State.Leads.isoClaim {old s : State} (hs : old.Leads s) (a next : Nat) : old.Leads (s.isoClaim a next) :=
  hs.ite _ ((hs.isoSend ..).fields ..)

theorem State.Leads.refreshSec {old s : State} (hs : old.Leads s) : old.Leads s.refreshSec := hs.ite _ (((hs.fields ..).setFlag ..).setF ..)

theorem State.Leads.startCan {old s : State} (hs : old.Leads s) : old.Leads s.startCan :=
  hs.each _ _ fun _ _ hu => hu.ite _ (((hu.setFlag ..).setF ..).ite _ (((((hu.setReg ..).setF ..).each _ _ fun _ _ hu1 => (hu1.setFlag
    ..).setF ..).fields ..).setF ..))

theorem State.Leads.refreshEth {old s : State} (hs : old.Leads s) (p : Nat) : old.Leads (s.refreshEth p) := (hs.setFlag ..).setFlag ..

theorem State.Leads.refreshNet {old s : State} (hs : old.Leads s) : old.Leads s.refreshNet :=
  ((((hs.startCan ..).each _ _ fun _ _ hu => hu.setFlag ..).each _ _ fun _ _ hu => hu.refreshEth ..).ite _ ((((hs.startCan ..).each _ _ fun
    _ _ hu => hu.setFlag ..).each _ _ fun _ _ hu => hu.refreshEth ..).isoClaim ..)).ite _ (((((((hs.startCan ..).each _ _ fun _ _ hu =>
    hu.setFlag ..).each _ _ fun _ _ hu => hu.refreshEth ..).fields ..).setFlag ..).setFlag ..).setF ..)

theorem State.Leads.refreshMon {old s : State} (hs : old.Leads s) : old.Leads s.refreshMon := (hs.setFlag ..).setFlag ..

theorem State.Leads.enterJoin {old s : State} (hs : old.Leads s) : old.Leads s.enterJoin := by
  unfold State.enterJoin
  refine .when ?_ _ _ fun _ hu => (hu.setFlag ..).setFlag ..
  exact ((hs.fields ..).setReg ..).each _ _ fun _ _ hu => hu.setFlag ..

theorem State.Leads.enterMode {old s : State} (hs : old.Leads s) (m : Mode) (cause source : Nat) : old.Leads (s.enterMode m cause source) :=
  ((((((((((((((((((hs.hidden ..).setF ..).setF ..).setF ..).ashRequest ..).marker ..).when _ _ fun _ hu => hu.trigger ..).when _ _ fun _
    hu => hu.graphStop ..).when _ _ fun _ hu => hu.enterJoin ..).setFlag ..).setFlag ..).setFlag ..).modeVotes ..).refreshReact
    ..).refreshXdis ..).refreshPower ..).refreshNet ..).refreshSec ..).brakeRelease ..

theorem State.Leads.requestMode {old s : State} (hs : old.Leads s) (m : Mode) (cause source : Nat) :
    old.Leads (s.requestMode m cause source) :=
  hs.ite _ (hs.hidden ..)

/-- Flash bytes that a cut or failed operation leaves, and any other new flash in canonical form. -/
theorem State.Leads.flash {old s : State} (hs : old.Leads s) (fs : List Host.Cell) (n : Nat)
    (hw : Mem.wf 0xFF s.flash = true → Mem.wf 0xFF fs = true) : old.Leads { s with flash := fs, free := n } := by
  refine hs.trans ⟨rfl, ?_, fun ho => ⟨.refl _, ho⟩, id⟩
  rintro ⟨hr, ht, hm, hf⟩
  exact ⟨hr, ht, hm, hw hf⟩

theorem State.Leads.freeFlash {old s : State} (hs : old.Leads s) (a n : Nat) : old.Leads (s.freeFlash a n) :=
  hs.flash _ _ (Mem.write_wf _ _ _ _)

/-- A key slot that an OTP_KEY in hand names is not programmed: the array only grows where its hash comes. -/
theorem State.KeyUnprogrammed.grows {s : State} {x : Nvm} (h : s.KeyUnprogrammed) (hx : s.svc.nvm = some x) (h1 : x.op ≠ 1) (h2 : x.op ≠ 2)
    (w : Nat) : s.otp.Grows { s.otp with keys := s.otp.keys.set x.addr (some w) } := by
  refine ⟨Nat.le_refl _, List.prefix_refl _, List.prefix_refl _, fun _ h => h, rfl, fun k hk => ?_, Nat.le_refl _,
    fun _ _ => ⟨rfl, fun _ h => h⟩, fun _ => rfl, fun _ _ => rfl, rfl⟩
  have hne : x.addr ≠ k := by
    rintro rfl
    rw [h x hx h1 h2] at hk
    exact Bool.noConfusion hk
  simp [List.getD_eq_getElem?_getD, List.getElem?_set_ne hne]

/-- A reset keeps the memories canonical but for what it cuts short, and programs at most the key slot in hand. -/
theorem State.nvmTorn_keeps (s : State) :
    (Mem.wf 0xFF s.flash = true → Mem.wf 0xFF s.nvmTorn.flash = true) ∧ (s.KeyUnprogrammed → s.otp.Grows s.nvmTorn.otp) := by
  unfold State.nvmTorn
  split
  next x hx =>
    split
    · exact ⟨Mem.write_wf _ _ _ _, fun _ => .refl _⟩
    · split
      · exact ⟨Mem.write_wf _ _ _ _, fun _ => .refl _⟩
      next h1 h2 => exact ⟨id, fun hk => hk.grows hx h1 h2 _⟩
  · exact ⟨id, fun _ => .refl _⟩

/-- A reset needs less of the state it leaves than `Leads` says: what is in hand is dropped, and the die is held. -/
theorem State.Leads.of_reset {old s : State} (c : Cause) (hp : s.pending = old.pending) (hm : old.MemOk → s.MemOk)
    (ho : old.OtpSound → old.otp.Grows s.otp ∧ s.KeyUnprogrammed) : old.Leads (s.resetWith c) := by
  obtain ⟨hf, hk⟩ := s.nvmTorn_keeps
  unfold State.resetWith
  dsimp only
  refine .ashRequest (.setF (.setF ?_ ..) ..) ..
  refine ⟨hp, fun h => ?_, fun h => ⟨(ho h).1.trans (hk (ho h).2), ?_, ?_⟩, fun _ hoff => ?_⟩
  · obtain ⟨-, -, hmram, hflash⟩ := hm h
    exact ⟨rfl, rfl, hmram, hf hflash⟩
  · intro t ht
    cases ht
  · intro x hx
    cases hx
  · rcases hoff with hoff | hoff <;> cases hoff

theorem State.Leads.resetWith {old s : State} (hs : old.Leads s) (c : Cause) : old.Leads (s.resetWith c) :=
  .of_reset c hs.pending hs.mem fun ho => ⟨(hs.otp ho).1, (hs.otp ho).2.2⟩

theorem State.Leads.doReset {old s : State} (hs : old.Leads s) (c : Cause) : old.Leads (s.doReset c) := hs.ite _ (hs.resetWith ..)

theorem State.Leads.resetBy {old s : State} (hs : old.Leads s) (c : Cause) (same : Bool) : old.Leads (s.resetBy c same) :=
  (hs.when _ _ fun _ hu => hu.setF ..).ite _ (hs.doReset ..)

/-! ### Margins (Machine/Margins.lean) -/

theorem State.Leads.setBudgetBy {old s : State} (hs : old.Leads s) (low : State → State) (hlow : ∀ u, old.Leads u → old.Leads (low u))
    (m b : Nat) :
    old.Leads (s.setBudgetBy low m b) :=
  (hlow _ (((hs.setF ..).incF ..).event ..)).ite _ (hs.setF ..)

theorem State.Leads.setValue {old s : State} (hs : old.Leads s) (m : Nat) (v : Int) : old.Leads (s.setValue m v) := hs.setReg ..
theorem State.Leads.keptMargins {old s : State} (hs : old.Leads s) : old.Leads s.keptMargins := (hs.setValue ..).setValue ..

theorem State.Leads.closeMargins {old s : State} (hs : old.Leads s) (low : State → State) (hlow : ∀ u, old.Leads u → old.Leads (low u))
    (baseline : Bool) : old.Leads (s.closeMargins low baseline) := by
  unfold State.closeMargins
  refine hs.ite _ (.ashRequest (.each (.keptMargins (hs.fields ..)) _ _ fun _ _ hu => ?_) ..)
  exact hu.setBudgetBy low hlow _ _

/-! ### Fault collector (Machine/Collector.lean) -/

theorem State.Leads.setActive {old s : State} (hs : old.Leads s) (n : Nat) (b : Bool) : old.Leads (s.setActive n b) :=
  hs.ite _ ((((hs.setF ..).setFlag ..).setF ..).ite _ (((((hs.setF ..).setFlag ..).setF ..).fields ..).refreshReact ..))

theorem State.Leads.fltRecord {old s : State} (hs : old.Leads s) (n : Nat) : old.Leads (s.fltRecord n) :=
  (((((((hs.setF ..).setActive ..).incF ..).setReg ..).marker ..).ite _ (((((((hs.setF ..).setActive ..).incF ..).setReg ..).marker
    ..).setFlag ..).setF ..)).event ..).ite _ (((((hs.setF ..).setActive ..).incF ..).setReg ..).marker ..)

theorem State.Leads.startWait {old s : State} (hs : old.Leads s) (n : Nat) : old.Leads (s.startWait n) :=
  ((hs.setFlag ..).ite _ (hs.ite _ (hs.fields ..))).ite _ hs

theorem State.Leads.fltFreezeAct {old s : State} (hs : old.Leads s) (n : Nat) : old.Leads (s.fltFreezeAct n) :=
  hs.when _ _ fun _ hu => (hu.trigger ..).when _ _ fun _ hu1 => hu1.setFlag ..

theorem State.Leads.settle {old s : State} (hs : old.Leads s) (n : Nat) : old.Leads (s.settle n) := (hs.setActive ..).ite _ hs

theorem State.Leads.raiseInHold {old s : State} (hs : old.Leads s) (n : Nat) : old.Leads (s.raiseInHold n) :=
  hs.when _ _ fun _ hu => (((hu.fltRecord ..).startWait ..).fltFreezeAct ..).settle ..

theorem State.Leads.reactTime {old s : State} (hs : old.Leads s) (us : Option Nat) : old.Leads (s.reactTime us) := by
  unfold State.reactTime
  dsimp only
  refine .when (.peakF (.setF ?_ ..) ..) _ _ fun _ hu => ((hu.incF ..).event ..).raiseInHold ..
  split
  · exact hs
  · exact hs.fresh ..

theorem State.Leads.reactSafeHold {old s : State} (hs : old.Leads s) (n : Nat) (us : Option Nat) : old.Leads (s.reactSafeHold n us) := by
  unfold State.reactSafeHold
  refine .when (.enterMode (.when hs _ _ fun _ hu => ?_) ..) _ _ fun _ hu => hu.reactTime ..
  exact hu.closeMargins (fun s => s.raiseInHold Src.marginLow) (fun _ hw => hw.raiseInHold ..) _

theorem State.Leads.nowActing {old s : State} (hs : old.Leads s) (n : Nat) : old.Leads (s.nowActing n) := (hs.fields ..).refreshReact ..

theorem State.Leads.takeAction {old s : State} (hs : old.Leads s) (n a : Nat) (us : Option Nat) : old.Leads (s.takeAction n a us) := by
  unfold State.takeAction
  dsimp only
  split
  · exact hs
  · split
    · exact hs.nowActing ..
    · exact hs.nowActing ..
    · exact hs.nowActing ..
    · exact (hs.fields ..).nowActing ..
    · exact (hs.fields ..).nowActing ..
    · exact (hs.requestMode ..).nowActing ..
    · exact (hs.requestMode ..).nowActing ..
    · exact (hs.requestMode ..).nowActing ..
    · exact (hs.requestMode ..).nowActing ..
    · exact (hs.requestMode ..).nowActing ..
    · exact (hs.requestMode ..).nowActing ..
    · exact (hs.nowActing ..).reactSafeHold ..
    · exact (hs.nowActing ..).reactSafeHold ..
    · exact (hs.nowActing ..).reactSafeHold ..
    · exact (hs.nowActing ..).reactSafeHold ..
    · exact (hs.nowActing ..).reactSafeHold ..
    · exact (hs.nowActing ..).reactSafeHold ..
    · exact hs.doReset ..
    · exact hs.doReset ..
    · exact hs.doReset ..
    · exact hs.doReset ..
    · exact hs.doReset ..
    · exact hs

theorem State.Leads.fltAct {old s : State} (hs : old.Leads s) (n : Nat) (us : Option Nat) : old.Leads (s.fltAct n us) := hs.takeAction ..

theorem State.Leads.firstFatal {old s : State} (hs : old.Leads s) (before : State) (l : List Nat) : old.Leads (s.firstFatal before l) :=
  hs.ite _ (hs.each _ _ fun _ _ hu => hu.when _ _ fun _ hu1 => hu1.setF ..)

theorem State.Leads.doRaise {old s : State} (hs : old.Leads s) (n : Nat) (us : Option Nat) : old.Leads (s.doRaise n us) :=
  ((((hs.fltRecord ..).startWait ..).fltFreezeAct ..).fltAct ..).brakeRelease ..

theorem State.Leads.raiseTimed {old s : State} (hs : old.Leads s) (n : Nat) (us : Option Nat) : old.Leads (s.raiseTimed n us) :=
  hs.ite _ ((hs.doRaise ..).settle ..)

theorem State.Leads.raise {old s : State} (hs : old.Leads s) (n : Nat) : old.Leads (s.raise n) := hs.raiseTimed ..

theorem State.Leads.levelTimed {old s : State} (hs : old.Leads s) (n : Nat) (us : Option Nat) : old.Leads (s.levelTimed n us) :=
  (hs.fields ..).ite _ ((hs.fields ..).doRaise ..)

theorem State.Leads.raiseLevel {old s : State} (hs : old.Leads s) (n : Nat) : old.Leads (s.raiseLevel n) := hs.levelTimed ..
theorem State.Leads.clearLevel {old s : State} (hs : old.Leads s) (n : Nat) : old.Leads (s.clearLevel n) := (hs.fields ..).settle ..

theorem State.Leads.unitHoldOn {old s : State} (hs : old.Leads s) (n : Nat) : old.Leads (s.unitHoldOn n) := by
  unfold State.unitHoldOn
  dsimp only
  split
  · split
    · exact (hs.fields ..).impose ..
    · exact (hs.fields ..).impose ..
    · exact (hs.fields ..).impose ..
    · exact (hs.fields ..).impose ..
    · exact hs
  · exact ((hs.fields ..).setFlag ..).ite _ ((((hs.fields ..).impose ..).setFlag ..).ite _ (((((hs.fields ..).impose ..).impose ..).setFlag
      ..).ite _ (((((hs.fields ..).impose ..).impose ..).impose ..).ite _ (((((hs.fields ..).fields ..).setFlag ..).refreshPower ..).ite _
      ((((((hs.fields ..).fields ..).setFlag ..).setF ..).setFlag ..).ite _ hs)))))

theorem State.Leads.unitHoldOff {old s : State} (hs : old.Leads s) (n : Nat) : old.Leads (s.unitHoldOff n) :=
  hs.ite _ (((((hs.fields ..).when _ _ fun _ hu => hu.each _ _ fun _ _ hu1 => hu1.setFlag ..).fields ..).liftImp ..).ite _ (((hs.fields
    ..).setFlag ..).ite _ ((((hs.fields ..).liftImp ..).setFlag ..).ite _ (((hs.fields ..).liftImp ..).ite _ (((((hs.fields ..).fields
    ..).setFlag ..).refreshPower ..).ite _ (((((hs.fields ..).fields ..).refreshSupply ..).ite _ (hs.fields ..)).ite _ (hs.fields ..)))))))

theorem State.Leads.detected {old s : State} (hs : old.Leads s) (n : Nat) : old.Leads (s.detected n) := by
  unfold State.detected
  split
  · split
    · exact (hs.incF ..).event ..
    · exact (hs.incF ..).event ..
    · exact hs.event ..
    · exact hs.event ..
    · exact hs
  · exact (hs.event ..).ite _ ((hs.event ..).ite _ ((hs.event ..).ite _ ((hs.event ..).ite _ ((hs.event ..).ite _ hs))))

theorem State.Leads.raiseHold {old s : State} (hs : old.Leads s) (n : Nat) : old.Leads (s.raiseHold n) :=
  ((hs.detected ..).unitHoldOn ..).raise ..

theorem State.Leads.foundAgain {old s : State} (hs : old.Leads s) (n : Nat) (before : State) : old.Leads (s.foundAgain n before) :=
  (((((hs.detected ..).unitHoldOn ..).each _ _ fun _ _ hu => hu.setFlag ..).fields ..).refreshPower ..).doRaise ..

theorem State.Leads.refreshLinks {old s : State} (hs : old.Leads s) : old.Leads s.refreshLinks := hs.setF ..

theorem State.Leads.showTries {old s : State} (hs : old.Leads s) (n t : Nat) : old.Leads (s.showTries n t) :=
  (hs.setF ..).ite _ ((hs.setF ..).ite _ (((hs.setF ..).setF ..).ite _ ((hs.each _ _ fun _ _ hu => hu.setF ..).ite _ ((hs.setF ..).ite _
    hs))))

theorem State.Leads.clearExpiry {old s : State} (hs : old.Leads s) (n : Nat) (persists : Bool) : old.Leads (s.clearExpiry n persists) :=
  hs.ite _ (((((((((((((hs.fields ..).setF ..).showTries ..).incF ..).event ..).when _ _ fun _ hu => hu.incF ..).unitHoldOff ..).setActive
    ..).refreshLinks ..).foundAgain ..).ite _ ((((((((((hs.fields ..).setF ..).showTries ..).incF ..).event ..).when _ _ fun _ hu =>
    hu.incF ..).unitHoldOff ..).setActive ..).refreshLinks ..).doRaise ..)).refreshLinks ..).ite _ ((((((((((hs.fields ..).setF
    ..).showTries ..).incF ..).event ..).when _ _ fun _ hu => hu.incF ..).unitHoldOff ..).setActive ..).refreshLinks ..).brakeRelease ..))

theorem State.Leads.tryReset {old s : State} (hs : old.Leads s) (n : Nat) : old.Leads (s.tryReset n) := hs.ite _ ((hs.setF ..).showTries ..)

theorem State.Leads.countRetry {old s : State} (hs : old.Leads s) : old.Leads s.countRetry :=
  (hs.fields ..).when _ _ fun _ hu => hu.raise ..

theorem State.Leads.transient {old s : State} (hs : old.Leads s) : old.Leads s.transient := hs.incF ..
theorem State.Leads.lasting {old s : State} (hs : old.Leads s) : old.Leads s.lasting := (hs.incF ..).event ..

theorem State.Leads.hobOut {old s : State} (hs : old.Leads s) (n st : Nat) : old.Leads (s.hobOut n st) :=
  ((hs.discardCopies ..).fields ..).setF ..

theorem State.Leads.retireCluster {old s : State} (hs : old.Leads s) (c : Nat) : old.Leads (s.retireCluster c) :=
  hs.ite _ ((((((((hs.setFlag ..).setF ..).each _ _ fun _ _ hu => hu.hobOut ..).refreshHobs ..).domUnvote ..).domRetired ..).refreshQueues
    ..).raise ..)

/-! ### Set-point sources (Machine/Setpoint.lean) -/

theorem State.Leads.setSp {old s : State} (hs : old.Leads s) (c : Nat) (x : Sp) : old.Leads (s.setSp c x) := hs.fields ..

theorem State.Leads.spMessage {old s : State} (hs : old.Leads s) (c : Nat) (alt : Bool) (b : List Byte) : old.Leads (s.spMessage c alt b) :=
  hs.ite _ (hs.setSp ..)

theorem State.Leads.spFlue {old s : State} (hs : old.Leads s) (slot : Nat) (payload : List Byte) : old.Leads (s.spFlue slot payload) :=
  hs.each _ _ fun _ _ hu => hu.spMessage ..

theorem State.Leads.spCan {old s : State} (hs : old.Leads s) (n : Nat) (f : CanMsg) : old.Leads (s.spCan n f) :=
  hs.each _ _ fun _ _ hu => hu.spMessage ..

theorem State.Leads.refreshAlt {old s : State} (hs : old.Leads s) : old.Leads s.refreshAlt := hs.setFlag ..

theorem State.Leads.spUse {old s : State} (hs : old.Leads s) (c : Nat) (alt : Bool) : old.Leads (s.spUse c alt) :=
  ((hs.setSp ..).setFlag ..).refreshAlt ..

theorem State.Leads.spLoss {old s : State} (hs : old.Leads s) (c : Nat) (alt : Bool) : old.Leads (s.spLoss c alt) :=
  hs.ite _ ((((hs.setSp ..).incF ..).incF ..).setFlag ..)

theorem State.Leads.spIntake {old s : State} (hs : old.Leads s) (c : Nat) : old.Leads (s.spIntake c) := by
  unfold State.spIntake
  dsimp only
  split
  · exact hs
  · split
    · exact (((hs.when _ _ fun _ hu => hu.spLoss ..).when _ _ fun _ hu => hu.spUse ..).setSp ..).setFlag ..
    · exact ((hs.when _ _ fun _ hu => hu.spLoss ..).when _ _ fun _ hu => hu.spUse ..).setFlag ..

theorem State.Leads.spTimeout {old s : State} (hs : old.Leads s) (c : Nat) (alt : Bool) : old.Leads (s.spTimeout c alt) :=
  (hs.setSp ..).ite _ hs

theorem State.Leads.shutdownEdge {old s : State} (hs : old.Leads s) : old.Leads s.shutdownEdge := (hs.enterMode ..).ite _ hs

theorem State.Leads.shutdownRequest {old s : State} (hs : old.Leads s) (holds : Bool) : old.Leads (s.shutdownRequest holds) :=
  hs.ite _ ((((hs.setFlag ..).shutdownEdge ..).ite _ hs).ite _ (hs.ite _ (hs.setFlag ..)))

/-! ### CAN (Machine/Can.lean) -/

theorem State.Leads.setCan {old s : State} (hs : old.Leads s) (n : Nat) (c : Can) : old.Leads (s.setCan n c) := hs.fields ..

theorem State.Leads.setCanBuf {old s : State} (hs : old.Leads s) (n b : Nat) (x : CanBuf) : old.Leads (s.setCanBuf n b x) :=
  ((hs.setCan ..).setFlag ..).setF ..

theorem State.Leads.canResult {old s : State} (hs : old.Leads s) (n b r : Nat) : old.Leads (s.canResult n b r) := by
  unfold State.canResult
  dsimp only
  split
  · exact (hs.setF ..).event ..
  · exact (hs.setF ..).event ..
  · exact (hs.setF ..).incF ..
  · exact ((hs.setF ..).incF ..).event ..
  · exact (hs.setF ..).event ..
  · exact hs.setF ..

theorem State.Leads.canLoad {old s : State} (hs : old.Leads s) (n b : Nat) (f : CanMsg) : old.Leads (s.canLoad n b f) := by
  unfold State.canLoad
  dsimp only
  split
  · exact (hs.setCanBuf ..).setF ..
  · exact hs.ite _ (((hs.setCanBuf ..).incF ..).event ..)
  · exact hs.ite _ (hs.setCanBuf ..)

theorem State.Leads.canCancel {old s : State} (hs : old.Leads s) (n b : Nat) : old.Leads (s.canCancel n b) := by
  unfold State.canCancel
  dsimp only
  split
  · exact hs.canResult ..
  · exact hs.ite _ (((hs.setCanBuf ..).setF ..).canResult ..)
  · exact hs.setCanBuf ..

theorem State.Leads.canTx {old s : State} (hs : old.Leads s) (n b id ctl : Nat) (words : List Word) :
    old.Leads (s.canTx n b id ctl words) :=
  hs.ite _ (hs.ite _ ((hs.canResult ..).ite _ ((hs.canCancel ..).ite _ (hs.canLoad ..))))

theorem State.Leads.canArbitrate {old s : State} (hs : old.Leads s) (n : Nat) (won : Bool) : old.Leads (s.canArbitrate n won) := by
  unfold State.canArbitrate
  dsimp only
  split
  · exact hs
  · split
    · exact ((hs.when _ _ fun _ hu => hu.setCanBuf ..).setF ..).ite _ hs
    · split
      · exact hs
      · split
        · exact (((hs.setCanBuf ..).setF ..).setFlag ..).setFlag ..
        · exact hs

theorem State.Leads.canErr {old s : State} (hs : old.Leads s) (n tec rec' : Nat) : old.Leads (s.canErr n tec rec') :=
  (((hs.setCan ..).setF ..).setF ..).ite _ ((((((hs.setCan ..).setF ..).setF ..).setF ..).when _ _ fun _ hu => hu.event ..).ite _
    ((((hs.setCan ..).setF ..).setF ..).setF ..))

theorem State.Leads.canBusOff {old s : State} (hs : old.Leads s) (n : Nat) : old.Leads (s.canBusOff n) :=
  ((((((hs.each _ _ fun _ _ hu => hu.when _ _ fun _ hu1 => ((hu1.setCanBuf ..).setF ..).canResult ..).setF ..).setFlag ..).setFlag ..).incF
    ..).event ..).raise ..

theorem State.Leads.canThen {old s : State} (hs : old.Leads s) (n b : Nat) (next : Option CanMsg) : old.Leads (s.canThen n b next) :=
  (hs.setCanBuf ..).setF ..

theorem State.Leads.canFailed {old s : State} (hs : old.Leads s) (n b r : Nat) : old.Leads (s.canFailed n b r) := by
  unfold State.canFailed
  dsimp only
  split
  · exact (hs.canThen ..).canResult ..
  · split
    · exact (hs.canThen ..).canResult ..
    · split
      · exact (hs.setCanBuf ..).setF ..
      · split
        · exact ((hs.setCanBuf ..).setF ..).ite _ (((hs.canThen ..).incF ..).event ..)
        · exact hs.canThen ..

theorem State.Leads.canFrameEnd {old s : State} (hs : old.Leads s) (n how lec : Nat) : old.Leads (s.canFrameEnd n how lec) := by
  unfold State.canFrameEnd
  dsimp only
  split
  · exact hs
  · split
    · exact hs
    · split
      · exact ((((hs.setFlag ..).incF ..).canErr ..).canThen ..).canResult ..
      · exact ((hs.setFlag ..).incF ..).canFailed ..
      · exact (((((((hs.setFlag ..).incF ..).incF ..).setF ..).event ..).canErr ..).canBusOff ..).ite _ (((((((hs.setFlag ..).incF ..).incF
          ..).setF ..).event ..).canErr ..).canFailed ..)

theorem State.Leads.canRecover {old s : State} (hs : old.Leads s) (n : Nat) : old.Leads (s.canRecover n) :=
  (((hs.canErr ..).setFlag ..).refreshNet ..).ite _ hs

theorem State.Leads.recGood {old s : State} (hs : old.Leads s) (n : Nat) : old.Leads (s.recGood n).2 := by
  unfold State.recGood
  dsimp only
  split
  · exact hs
  · exact hs.fields ..

theorem State.Leads.canReceive {old s : State} (hs : old.Leads s) (n : Nat) (f : CanMsg) (t : Nat) (err : Option (Nat × Bool)) :
    old.Leads (s.canReceive n f t err) := by
  unfold State.canReceive
  dsimp only
  split
  · exact hs
  · split
    · exact ((((hs.setFlag ..).setF ..).incF ..).event ..).canErr ..
    · split
      · exact ((((hs.setFlag ..).recGood ..).incF ..).canErr ..).incF ..
      · exact (((((((hs.setFlag ..).recGood ..).incF ..).canErr ..).spCan ..).incF ..).event ..).ite _ ((((((((hs.setFlag ..).recGood
          ..).incF ..).canErr ..).spCan ..).setCan ..).setF ..).peakF ..)

theorem State.Leads.isoContend {old s : State} (hs : old.Leads s) (a : Nat) : old.Leads (s.isoContend a) := by
  unfold State.isoContend
  dsimp only
  split
  · exact ((hs.setFlag ..).setF ..).isoClaim ..
  · exact ((((hs.setFlag ..).setF ..).setFlag ..).isoSend ..).setCan ..

theorem State.Leads.isoOther {old s : State} (hs : old.Leads s) (f : CanMsg) : old.Leads (s.isoOther f) :=
  ((hs.isoContend ..).ite _ (hs.isoSend ..)).ite _ hs

theorem State.Leads.isoRequest {old s : State} (hs : old.Leads s) (f : CanMsg) : old.Leads (s.isoRequest f) :=
  ((hs.isoSend ..).ite _ ((hs.isoSend ..).ite _ hs)).ite _ hs

theorem State.Leads.isoProcess {old s : State} (hs : old.Leads s) (f : CanMsg) : old.Leads (s.isoProcess f) :=
  (((hs.setCan ..).setFlag ..).setFlag ..).ite _ hs

theorem State.Leads.isoFrame {old s : State} (hs : old.Leads s) (f : CanMsg) : old.Leads (s.isoFrame f) := by
  unfold State.isoFrame
  split
  · exact hs
  · split
    · exact hs.when _ _ fun _ hu => hu.isoOther ..
    · exact hs.when _ _ fun _ hu => hu.isoRequest ..
    · exact hs.isoProcess ..
    · exact hs

theorem State.Leads.canDrain {old s : State} (hs : old.Leads s) : old.Leads s.canDrain := by
  unfold State.canDrain
  refine .when (.when (.each hs _ _ fun _ _ hu => ?_) _ _ fun _ hu => ?_) _ _ fun _ hu => ?_
  · exact hu.when _ _ fun _ hw => (hw.setCan ..).setF ..
  · exact hu.setCan ..
  · exact hu.each _ _ fun _ _ hw => hw.isoFrame ..

theorem State.Leads.claimStands {old s : State} (hs : old.Leads s) : old.Leads s.claimStands := by
  unfold State.claimStands
  dsimp only
  split
  · exact (((hs.setCan ..).setFlag ..).setF ..).ite _ hs
  · exact hs

/-! ### Ethernet (Machine/Ethernet.lean) -/

theorem State.Leads.setEth {old s : State} (hs : old.Leads s) (p : Nat) (e : Eth) : old.Leads (s.setEth p e) := hs.fields ..

theorem State.Leads.ethSend {old s : State} (hs : old.Leads s) (p : Nat) (o : EthOut) : old.Leads (s.ethSend p o) :=
  hs.ite _ (((hs.setEth ..).incF ..).ite _ ((hs.setEth ..).incF ..))

theorem State.Leads.ethResume {old s : State} (hs : old.Leads s) (p : Nat) : old.Leads (s.ethResume p) :=
  ((hs.setEth ..).addF ..).setFlag ..

theorem State.Leads.pauseSend {old s : State} (hs : old.Leads s) (p quanta : Nat) : old.Leads (s.pauseSend p quanta) :=
  hs.ite _ (((hs.ethSend ..).incF ..).event ..)

theorem State.Leads.setFill {old s : State} (hs : old.Leads s) (p n : Nat) : old.Leads (s.setFill p n) := by
  unfold State.setFill
  exact .when (((hs.setEth ..).setF ..).peakF ..) _ _ fun _ hu => (hu.setFlag ..).pauseSend ..

theorem State.Leads.pauseRepeat {old s : State} (hs : old.Leads s) (p : Nat) : old.Leads (s.pauseRepeat p) := (hs.pauseSend ..).ite _ hs

theorem State.Leads.lowWater {old s : State} (hs : old.Leads s) (p : Nat) : old.Leads (s.lowWater p) :=
  ((hs.setFlag ..).pauseSend ..).ite _ hs

theorem State.Leads.arpLearn {old s : State} (hs : old.Leads s) (p ip : Nat) (mac : List Byte) : old.Leads (s.arpLearn p ip mac) :=
  hs.setEth ..

theorem State.Leads.arpAsk {old s : State} (hs : old.Leads s) (p ip : Nat) : old.Leads (s.arpAsk p ip) :=
  (hs.setEth ..).ite _ ((hs.setEth ..).ethSend ..)

theorem State.Leads.udpSend {old s : State} (hs : old.Leads s) (p : Nat) (feed : Bool) (ip port : Nat) (data : List Byte) :
    old.Leads (s.udpSend p feed ip port data) := by
  unfold State.udpSend
  split
  · exact hs.ethSend ..
  · exact ((hs.incF ..).event ..).arpAsk ..

theorem State.Leads.ethTx {old s : State} (hs : old.Leads s) (p m : Nat) (words : List Word) : old.Leads (s.ethTx p m words) :=
  hs.ite _ (hs.udpSend ..)

theorem State.Leads.ethDrop {old s : State} (hs : old.Leads s) (p r : Nat) (b : List Byte) : old.Leads (s.ethDrop p r b) :=
  (((hs.incF ..).setF ..).setF ..).event ..

theorem State.Leads.pauseReceived {old s : State} (hs : old.Leads s) (p : Nat) (body : List Byte) : old.Leads (s.pauseReceived p body) :=
  ((((hs.incF ..).event ..).ethResume ..).ite _ (((hs.incF ..).event ..).setFlag ..)).ite _ ((hs.incF ..).event ..)

theorem State.Leads.arpReceived {old s : State} (hs : old.Leads s) (p : Nat) (body : List Byte) : old.Leads (s.arpReceived p body) := by
  unfold State.arpReceived
  dsimp only
  split
  · exact (((hs.incF ..).arpLearn ..).ethSend ..).ite _ (hs.incF ..)
  · exact (hs.incF ..).arpLearn ..
  · exact hs.incF ..

theorem State.Leads.ptpReceived {old s : State} (hs : old.Leads s) (p t : Nat) (m : List Byte) : old.Leads (s.ptpReceived p t m) :=
  ((hs.incF ..).ethSend ..).ite _ hs

theorem State.Leads.ethReceive {old s : State} (hs : old.Leads s) (p : Nat) (b : List Byte) (fcs : Bool) (t : Nat) :
    old.Leads (s.ethReceive p b fcs t) := by
  unfold State.ethReceive
  dsimp only
  split
  · exact hs
  · split
    · exact hs.ethDrop ..
    · split
      · exact (hs.incF ..).pauseReceived ..
      · split
        · exact hs.ethDrop ..
        · split
          · exact (hs.incF ..).arpReceived ..
          · split
            · exact (hs.incF ..).ptpReceived ..
            · split
              · split
                · exact (hs.ethDrop ..).ite _ ((((hs.incF ..).setEth ..).incF ..).ethSend ..)
                · exact (((hs.incF ..).setEth ..).incF ..).ethSend ..
              · exact (((hs.incF ..).fields ..).setFill ..).ite _ ((hs.incF ..).ptpReceived ..)

theorem State.Leads.phyPoll {old s : State} (hs : old.Leads s) (p : Nat) (regs : List Nat) : old.Leads (s.phyPoll p regs) :=
  ((((((hs.setFlag ..).setF ..).setFlag ..).setFlag ..).refreshEth ..).when _ _ fun _ hu => (hu.event ..).raise ..).ite _ hs

theorem State.Leads.ptpSync {old s : State} (hs : old.Leads s) (p t : Nat) : old.Leads (s.ptpSync p t) :=
  ((((hs.setF ..).incF ..).ethSend ..).ethSend ..).ite _ hs

theorem State.Leads.ethTick {old s : State} (hs : old.Leads s) : old.Leads s.ethTick :=
  hs.each _ _ fun _ _ hu => hu.when _ _ fun _ hu1 => hu1.setEth ..

/-! ### Tile feed and map store (Machine/Feed.lean) -/

theorem State.Leads.setSession {old s : State} (hs : old.Leads s) (x : Option Session) : old.Leads (s.setSession x) := hs.fields ..

theorem State.Leads.feedSend {old s : State} (hs : old.Leads s) (ty : Nat) (payload : List Byte) : old.Leads (s.feedSend ty payload) := by
  unfold State.feedSend
  dsimp only
  split
  · exact hs
  · exact (hs.setSession ..).each _ _ fun _ _ hu => hu.udpSend ..

theorem State.Leads.feedError {old s : State} (hs : old.Leads s) (code seq detail : Nat) : old.Leads (s.feedError code seq detail) :=
  (((hs.incF ..).setF ..).setF ..).ite _ (((((hs.incF ..).setF ..).setF ..).fields ..).feedSend ..)

theorem State.Leads.sendBack {old s : State} (hs : old.Leads s) (e : MapEnt) : old.Leads (s.sendBack e) :=
  (hs.each _ _ fun _ _ hu => hu.feedSend ..).incF ..

theorem State.Leads.mapFree {old s : State} (hs : old.Leads s) (k : TileKey) : old.Leads (s.mapFree k) := by
  unfold State.mapFree
  dsimp only
  split
  · exact hs
  · exact (hs.when _ _ fun _ hu => hu.sendBack ..).fields ..

theorem State.Leads.mapSlotBut {old s : State} (hs : old.Leads s) {t : State} {keep : List TileKey} {n : Nat}
    (ht : s.mapSlotBut keep = some (n, t)) : old.Leads t := by
  unfold State.mapSlotBut at ht
  split at ht
  · cases ht
    exact hs
  · dsimp only at ht
    split at ht
    · cases ht
      exact (hs.mapFree ..).incF ..
    · cases ht

theorem State.Leads.mapSlot {old s : State} (hs : old.Leads s) {t : State} {n : Nat} (ht : s.mapSlot = some (n, t)) : old.Leads t :=
  hs.mapSlotBut ht

theorem State.Leads.mapPut {old s : State} (hs : old.Leads s) (e : MapEnt) : old.Leads (s.mapPut e) := hs.fields ..

theorem State.Leads.mapUnknown {old s : State} (hs : old.Leads s) (k : TileKey) : old.Leads (s.mapUnknown k) := by
  unfold State.mapUnknown
  split
  · exact (hs.mapPut ..).incF ..
  · split
    next ht => exact ((hs.mapSlot ht).mapPut ..).incF ..
    · exact hs

theorem State.Leads.tileWrite {old s : State} (hs : old.Leads s) (slot : Nat) (b : List Byte) : old.Leads (s.tileWrite slot b) :=
  hs.tiles _ (Mem.write_wf _ _ _ _)

theorem State.Leads.mapInstall {old s : State} (hs : old.Leads s) (a : Asm) : old.Leads (s.mapInstall a) := by
  unfold State.mapInstall
  split
  · exact .ite (.incF (.mapPut (.tileWrite (.when hs _ _ fun _ hu => hu.sendBack ..) ..) ..) ..) _ (.ite hs _ (hs.feedError ..))
  · split
    next ht => exact (((hs.mapSlot ht).tileWrite ..).mapPut ..).incF ..
    · exact (hs.setFlag ..).feedError ..

theorem State.Leads.eventDrop {old s : State} (hs : old.Leads s) (e : TEvent) : old.Leads (s.eventDrop e) :=
  ((hs.fields ..).incF ..).setFlag ..

theorem State.Leads.cellWrite {old s : State} (hs : old.Leads s) (e : MapEnt) (off v : Nat) : old.Leads (s.cellWrite e off v) :=
  hs.tiles _ (Store.put_wf (fun _ => 0) _ _ _)

theorem State.Leads.rasterOne {old s : State} (hs : old.Leads s) (e : TEvent) : old.Leads (s.rasterOne e) := by
  unfold State.rasterOne
  refine .when (.each (.each (.foldl hs _ _ fun _ _ hu => ?_) _ _ fun _ _ hu => ?_) _ _ fun _ _ hu => ?_) _ _ fun _ hu => ?_
  · split
    next ht => exact ((hu.mapSlotBut ht).tileWrite ..).mapPut ..
    · exact hu
  · split
    · exact hu.ite _ (hu.cellWrite ..)
    · exact hu
  · split
    · exact hu.mapPut ..
    · exact hu
  · exact (hu.incF ..).setFlag ..

theorem State.Leads.markOne {old s : State} (hs : old.Leads s) (c : TileKey × Nat) : old.Leads (s.markOne c) := by
  unfold State.markOne
  split
  · exact hs.ite _ ((hs.cellWrite ..).mapPut ..)
  · exact hs

theorem State.Leads.refreshStore {old s : State} (hs : old.Leads s) : old.Leads s.refreshStore := (hs.setF ..).setF ..

theorem State.Leads.mapSnapshot {old s : State} (hs : old.Leads s) : old.Leads s.mapSnapshot :=
  ((hs.refreshStore ..).foldl _ _ fun _ _ hu => hu.setReg ..).foldl _ _ fun _ _ hu => hu.setReg ..

theorem State.Leads.leaveRemoved {old s : State} (hs : old.Leads s) : old.Leads s.leaveRemoved := hs.fields ..

theorem State.Leads.mapSlotStart {old s : State} (hs : old.Leads s) : old.Leads s.mapSlotStart := by
  unfold State.mapSlotStart
  refine .mapSnapshot (.each (.each (.leaveRemoved (.each (.each (.each (hs.fields ..) _ _ fun _ _ hu => ?_) _ _ fun _ _ hu => ?_) _ _
    fun _ _ hu => ?_)) _ _ fun _ _ hu => ?_) _ _ fun _ _ hu => ?_)
  · exact hu.markOne ..
  · exact hu.mapFree ..
  · exact hu.rasterOne ..
  · exact hu.mapUnknown ..
  · exact hu.mapInstall ..

theorem State.Leads.mapCycle {old s : State} (hs : old.Leads s) : old.Leads s.mapCycle := by
  unfold State.mapCycle
  dsimp only
  split
  · exact (hs.fields ..).setSession ..
  · exact hs.fields ..

theorem State.Leads.tileReq {old s : State} (hs : old.Leads s) (l : List TileKey) : old.Leads (s.tileReq l) :=
  hs.foldl _ _ fun _ _ hu => hu.when _ _ fun _ hu1 => (hu1.feedSend ..).incF ..

theorem State.Leads.pinUpdate {old s : State} (hs : old.Leads s) : old.Leads s.pinUpdate := ((hs.fields ..).refreshStore ..).tileReq ..

theorem State.Leads.credit {old s : State} (hs : old.Leads s) (t : Nat) : old.Leads (s.credit t) := by
  unfold State.credit
  dsimp only
  split
  · exact hs
  · exact ((hs.setF ..).setF ..).feedSend ..

theorem State.Leads.feedDrain {old s : State} (hs : old.Leads s) (d : Dgram) : old.Leads (s.feedDrain d) := (hs.fields ..).setFill ..

theorem State.Leads.feedAccept {old s : State} (hs : old.Leads s) (x : Session) (seq : Nat) : old.Leads (s.feedAccept x seq) :=
  ((hs.setSession ..).incF ..).when _ _ fun _ hu => (hu.incF ..).setFlag ..

theorem State.Leads.feedTake {old s : State} (hs : old.Leads s) (ty : Nat) (f : State → Dgram → Session → Nat → List Byte → State)
    (hf : ∀ u d x q b, old.Leads u → old.Leads (f u d x q b)) : old.Leads (s.feedTake ty f) := by
  unfold State.feedTake
  split
  · exact hs
  · dsimp only
    refine hs.ite _ (.ite ((hs.feedDrain ..).feedError ..) _ (hs.ite _ ?_))
    split
    · exact (hs.feedDrain ..).feedError ..
    · exact .ite ((hs.feedDrain ..).feedError ..) _ (.ite (hs.feedDrain ..) _ (hf _ _ _ _ _ (hs.feedDrain ..)))

theorem State.Leads.refreshIso {old s : State} (hs : old.Leads s) : old.Leads s.refreshIso := hs.setFlag ..
theorem State.Leads.refreshEventsOn {old s : State} (hs : old.Leads s) : old.Leads s.refreshEventsOn := hs.setFlag ..

theorem State.Leads.sessionEnd {old s : State} (hs : old.Leads s) : old.Leads s.sessionEnd :=
  (((((hs.setSession ..).setF ..).setFlag ..).setFlag ..).refreshEventsOn ..).refreshIso ..

theorem State.Leads.newSession {old s : State} (hs : old.Leads s) : old.Leads (s.newSession).2 := hs.fresh ..

theorem State.Leads.hello {old s : State} (hs : old.Leads s) (d : Dgram) (seq : Nat) (p : List Byte) : old.Leads (s.hello d seq p) := by
  unfold State.hello
  dsimp only
  split
  · exact hs.feedError ..
  · split
    · split
      · split
        · exact (((((hs.arpLearn ..).incF ..).setSession ..).feedSend ..).credit ..).setSession ..
        · exact ((((hs.arpLearn ..).incF ..).setSession ..).feedSend ..).credit ..
      · exact ((((((((((hs.arpLearn ..).incF ..).newSession ..).fields ..).setF ..).setF ..).setFlag ..).setFlag ..).refreshEventsOn
          ..).feedSend ..).credit ..
    · exact ((((((((((hs.arpLearn ..).incF ..).newSession ..).fields ..).setF ..).setF ..).setFlag ..).setFlag ..).refreshEventsOn
        ..).feedSend ..).credit ..

theorem State.Leads.poseMsg {old s : State} (hs : old.Leads s) (d : Dgram) (x : Session) (seq : Nat) (p : List Byte) :
    old.Leads (s.poseMsg d x seq p) :=
  (hs.feedError ..).ite _ (hs.feedAccept ..)

theorem State.Leads.tileMsg {old s : State} (hs : old.Leads s) (d : Dgram) (x : Session) (seq : Nat) (p : List Byte) :
    old.Leads (s.tileMsg d x seq p) :=
  (hs.feedError ..).ite _ ((hs.feedAccept ..).ite _ ((((hs.incF ..).setFlag ..).feedError ..).ite _ ((hs.feedAccept ..).ite _ ((hs.fields
    ..).feedAccept ..))))

theorem State.Leads.tileTimeout {old s : State} (hs : old.Leads s) (k : TileKey) : old.Leads (s.tileTimeout k) := by
  unfold State.tileTimeout
  dsimp only
  split
  · exact ((hs.fields ..).feedError ..).ite _ hs
  · exact hs

theorem State.Leads.setEvents {old s : State} (hs : old.Leads s) (l : List TEvent) : old.Leads (s.setEvents l) :=
  ((hs.fields ..).setF ..).peakF ..

theorem State.Leads.eventsMsg {old s : State} (hs : old.Leads s) (d : Dgram) (x : Session) (seq : Nat) (p : List Byte) :
    old.Leads (s.eventsMsg d x seq p) :=
  (hs.feedError ..).ite _ ((hs.feedError ..).ite _ ((((((hs.setEvents ..).feedAccept ..).addF ..).each _ _ fun _ _ hu => ((hu.incF
    ..).setFlag ..).feedError ..).each _ _ fun _ _ hu => hu.eventDrop ..).when _ _ fun _ hu => hu.feedError ..))

theorem State.Leads.setpointMsg {old s : State} (hs : old.Leads s) (d : Dgram) (x : Session) (seq : Nat) (p : List Byte) :
    old.Leads (s.setpointMsg d x seq p) :=
  (hs.feedAccept ..).each _ _ fun _ _ hu => (hu.feedError ..).ite _ (hu.each _ _ fun _ _ hu1 => hu1.spMessage ..)

theorem State.Leads.dropMsg {old s : State} (hs : old.Leads s) (d : Dgram) (x : Session) (seq : Nat) (p : List Byte) :
    old.Leads (s.dropMsg d x seq p) := by
  unfold State.dropMsg
  dsimp only
  split
  · exact hs.feedError ..
  · exact (hs.fields ..).feedAccept ..

theorem State.Leads.poseFree {old s : State} (hs : old.Leads s) : old.Leads s.poseFree := hs.ite _ (hs.fields ..)
theorem State.Leads.poseTick {old s : State} (hs : old.Leads s) (t : Nat) : old.Leads (s.poseTick t) := hs.setF ..

/-! ### Bridges and carriers (Machine/Motor.lean) -/

theorem State.Leads.pwmWrite {old s : State} (hs : old.Leads s) (b : Nat) (d : List Word) : old.Leads (s.pwmWrite b d) :=
  hs.ite _ (hs.setMot ..)

theorem State.Leads.bridgeModeWrite {old s : State} (hs : old.Leads s) (b inst : Nat) (v : Word) : old.Leads (s.bridgeModeWrite b inst v) :=
  ((hs.setF ..).setF ..).refreshPower ..

theorem State.Leads.halfWrite {old s : State} (hs : old.Leads s) (b n : Nat) : old.Leads (s.halfWrite b n) := by
  unfold State.halfWrite
  dsimp only
  split
  · exact ((((hs.setMot ..).each _ _ fun _ _ hu => hu.setF ..).when _ _ fun _ hu => (hu.addF ..).event ..).setF ..).when _ _ fun _ hu =>
      (hu.setFlag ..).clearLevel ..
  · exact ((((hs.when _ _ fun _ hu => (((hu.setFlag ..).incF ..).event ..).raiseLevel ..).incF ..).incF ..).event ..).ite _ (hs.setF ..)

theorem State.Leads.halfRefresh {old s : State} (hs : old.Leads s) (b : Nat) (falling : Bool) : old.Leads (s.halfRefresh b falling) :=
  (hs.each _ _ fun _ _ hu => hu.when _ _ fun _ hu1 => (hu1.fields ..).incF ..).ite _ hs

theorem State.Leads.halfPlan {old s : State} (hs : old.Leads s) (b n : Nat) (falling : Bool) : old.Leads (s.halfPlan b n falling) :=
  ((hs.setPlan ..).when _ _ fun _ hu => (hu.incF ..).event ..).ite _ (hs.statePlan ..)

theorem State.Leads.shootRelease {old s : State} (hs : old.Leads s) (b : Nat) (before : Nat → Bool) : old.Leads (s.shootRelease b before) :=
  hs.fields ..

theorem State.Leads.halfBridge {old s : State} (hs : old.Leads s) (n : Nat) (falling : Bool) (b : Nat) :
    old.Leads (s.halfBridge n falling b) :=
  (((((((((hs.setFlag ..).setMot ..).setFlag ..).setFlag ..).setF ..).halfWrite ..).refreshBridge ..).halfRefresh ..).halfPlan
    ..).shootRelease ..

theorem State.Leads.halfEnds {old s : State} (hs : old.Leads s) : old.Leads s.halfEnds :=
  (((hs.each _ _ fun _ _ hu => hu.setFlag ..).each _ _ fun _ _ hu => hu.setFlag ..).each _ _ fun _ _ hu => hu.transient ..).fields ..

theorem State.Leads.halfStart {old s : State} (hs : old.Leads s) (n : Nat) : old.Leads (s.halfStart n) :=
  ((hs.halfEnds ..).each _ _ fun _ _ hu => hu.halfBridge ..).refreshPower ..

theorem State.Leads.shuntSample {old s : State} (hs : old.Leads s) (b code : Nat) : old.Leads (s.shuntSample b code) := by
  unfold State.shuntSample
  dsimp only
  split
  · exact hs
  · split
    · refine .setF (.setMot ?_ ..) ..
      split
      · exact ((((((((hs.pushLog ..).setReg ..).setMot ..).setFlag ..).setF ..).setReg ..).setReg ..).setF ..).setF ..
      · exact ((((((((hs.pushLog ..).setReg ..).setMot ..).setFlag ..).setF ..).setReg ..).setReg ..).setF ..).setF ..
    · split
      · exact (((((((((((hs.pushLog ..).setReg ..).setMot ..).setFlag ..).setF ..).setReg ..).setReg ..).setF ..).setF ..).setFlag
          ..).setReg ..).ite _ ((((((((hs.pushLog ..).setReg ..).setMot ..).setFlag ..).setF ..).setFlag ..).incF ..).event ..)
      · exact (((((((hs.pushLog ..).setReg ..).setMot ..).setFlag ..).setF ..).setFlag ..).incF ..).event ..

/-! ### Analogue acquisition (Machine/Analogue.lean) -/

theorem State.Leads.setConv {old s : State} (hs : old.Leads s) (v : Nat) (c : Conv) : old.Leads (s.setConv v c) := hs.fields ..
theorem State.Leads.setConvState {old s : State} (hs : old.Leads s) (v st : Nat) : old.Leads (s.setConvState v st) := (hs.setF ..).setF ..
theorem State.Leads.adcTrigger {old s : State} (hs : old.Leads s) (code : Nat) : old.Leads (s.adcTrigger code) := hs.fields ..

theorem State.Leads.convResume {old s : State} (hs : old.Leads s) (v : Nat) : old.Leads (s.convResume v) :=
  ((hs.setConv ..).setConvState ..).ite _ ((hs.setConv ..).setConvState ..)

theorem State.Leads.injBegin {old s : State} (hs : old.Leads s) (st v : Nat) (acq inConv : Bool) : old.Leads (s.injBegin st v acq inConv) :=
  (((hs.setF ..).setConv ..).setConvState ..).when _ _ fun _ hu => (hu.incF ..).event ..

theorem State.Leads.trigLost {old s : State} (hs : old.Leads s) : old.Leads s.trigLost := (hs.incF ..).event ..

theorem State.Leads.sequenceStart {old s : State} (hs : old.Leads s) (q : AdcSeq) (acq inConv : Nat) :
    old.Leads (s.sequenceStart q acq inConv) := by
  unfold State.sequenceStart
  dsimp only
  split
  · exact hs
  · split
    · exact (((hs.fields ..).incF ..).event ..).ite _ (((hs.fields ..).setConv ..).ite _ (((hs.fields ..).setF ..).setConvState ..))
    · exact ((hs.fields ..).trigLost ..).ite _ (((hs.fields ..).incF ..).injBegin ..)
    · exact ((hs.fields ..).trigLost ..).ite _ (((hs.fields ..).incF ..).each _ _ fun _ _ hu => (hu.incF ..).injBegin ..)
    · exact ((hs.fields ..).trigLost ..).ite _ ((hs.fields ..).each _ _ fun _ _ hu => hu.injBegin ..)

theorem State.Leads.adcStart {old s : State} (hs : old.Leads s) (reg inj : Nat) : old.Leads (s.adcStart reg inj) := (hs.fields ..).incF ..

theorem State.Leads.publish {old s : State} (hs : old.Leads s) (v c code t : Nat) (hi lo inj : Bool) :
    old.Leads (s.publish v c code t hi lo inj) :=
  (hs.fields ..).setReg ..

theorem State.Leads.overRange {old s : State} (hs : old.Leads s) (c : Nat) : old.Leads (s.overRange c) :=
  (((hs.setF ..).incF ..).event ..).raise ..

theorem State.Leads.convCount {old s : State} (hs : old.Leads s) (v n : Nat) : old.Leads (s.convCount v n) := hs.setF ..

theorem State.Leads.testConversion {old s : State} (hs : old.Leads s) (t c : Nat) (x : Nat × Int) : old.Leads (s.testConversion t c x) :=
  ((hs.convCount ..).when _ _ fun _ hu => hu.overRange ..).when _ _ fun _ hu => hu.publish ..

theorem State.Leads.pairCompare {old s : State} (hs : old.Leads s) (p a b : Nat) (ovr : Bool) : old.Leads (s.pairCompare p a b ovr) :=
  (((((hs.setF ..).setF ..).setF ..).setFlag ..).setF ..).ite _ ((((((((hs.setF ..).setF ..).setF ..).setFlag ..).setF ..).setFlag
    ..).clearLevel ..).ite _ (((((((((hs.setF ..).setF ..).setF ..).setFlag ..).setF ..).setFlag ..).incF ..).event ..).raiseLevel ..))

theorem State.Leads.injEnd {old s : State} (hs : old.Leads s) (v : Nat) : old.Leads (s.injEnd v) := (hs.setConv ..).convResume ..

theorem State.Leads.owStart {old s : State} (hs : old.Leads s) : old.Leads s.owStart := by
  unfold State.owStart
  dsimp only
  split
  · exact ((hs.fields ..).setFlag ..).setF ..
  · exact hs

theorem State.Leads.setOpen {old s : State} (hs : old.Leads s) (c : Nat) (b : Bool) : old.Leads (s.setOpen c b) := hs.setF ..

theorem State.Leads.owEnd {old s : State} (hs : old.Leads s) : old.Leads s.owEnd :=
  ((hs.fields ..).setFlag ..).when _ _ fun _ hu => hu.owStart ..

theorem State.Leads.owConversion {old s : State} (hs : old.Leads s) (x : OwTest) (code : Nat) : old.Leads (s.owConversion x code) := by
  unfold State.owConversion
  dsimp only
  split
  · exact hs.owEnd ..
  · exact (hs.fields ..).ite _ (((hs.fields ..).ite _ ((hs.fields ..).setOpen ..)).ite _ (((((((hs.fields ..).setOpen ..).incF ..).event
      ..).lasting ..).raise ..).ite _ (((hs.fields ..).incF ..).transient ..)))

theorem State.Leads.pairStep {old s : State} (hs : old.Leads s) (v c code t : Nat) (hi lo under : Bool) :
    old.Leads (s.pairStep v c code t hi lo under) := by
  unfold State.pairStep
  dsimp only
  split
  · exact ((((hs.setConv ..).when _ _ fun _ hu => hu.publish ..).when _ _ fun _ hu => hu.pairCompare ..).injEnd ..).injEnd ..
  · exact (hs.setConv ..).when _ _ fun _ hu => hu.publish ..

theorem State.Leads.setFailed {old s : State} (hs : old.Leads s) (v : Nat) (b : Bool) : old.Leads (s.setFailed v b) :=
  (hs.setFlag ..).setF ..

theorem State.Leads.refJudge {old s : State} (hs : old.Leads s) (v bg gnd : Nat) (again : Bool) : old.Leads (s.refJudge v bg gnd again) :=
  ((((((hs.setF ..).setF ..).incF ..).setFailed ..).clearLevel ..).when _ _ fun _ hu => hu.transient ..).ite _ ((((hs.setF ..).setF
    ..).incF ..).ite _ (((((hs.setF ..).setF ..).incF ..).lasting ..).ite _ ((((((((hs.setF ..).setF ..).incF ..).lasting ..).setFailed
    ..).incF ..).event ..).raiseLevel ..)))

theorem State.Leads.refConversion {old s : State} (hs : old.Leads s) (v code : Nat) : old.Leads (s.refConversion v code) := by
  unfold State.refConversion
  dsimp only
  split
  · exact hs
  · split
    · exact hs.setConv ..
    · exact (((hs.refJudge ..).setConv ..).when _ _ fun _ hu => hu.convResume ..).ite _ ((hs.refJudge ..).setConv ..)

theorem State.Leads.refConverts {old s : State} (hs : old.Leads s) (v : Nat) (inputs : Int × Int) : old.Leads (s.refConverts v inputs) :=
  ((hs.convCount ..).when _ _ fun _ hu => hu.overRange ..).when _ _ fun _ hu => hu.overRange ..

theorem State.Leads.refOne {old s : State} (hs : old.Leads s) (v : Nat) (first again : Int × Int) : old.Leads (s.refOne v first again) :=
  ((hs.refConverts ..).refJudge ..).ite _ ((((hs.refConverts ..).refJudge ..).refConverts ..).refJudge ..)

theorem State.Leads.refAll {old s : State} (hs : old.Leads s) (first again : List (Int × Int)) : old.Leads (s.refAll first again) :=
  (hs.each _ _ fun _ _ hu => hu.refOne ..).setFlag ..

theorem State.Leads.referenceCheck {old s : State} (hs : old.Leads s) : old.Leads s.referenceCheck :=
  hs.each _ _ fun _ _ hu => (hu.setConv ..).when _ _ fun _ hu1 => hu1.convResume ..

theorem State.Leads.convAdvance {old s : State} (hs : old.Leads s) {v c : Nat} {k : ConvKind} {t : State}
    (ht : s.convAdvance v = some (c, k, t)) : old.Leads t := by
  unfold State.convAdvance at ht
  dsimp only at ht
  split at ht
  · cases ht
    exact hs.setConv ..
  · split at ht
    · cases ht
      exact .ite (((hs.setF ..).setConv ..).convResume ..) _ (hs.setF ..)
    · cases ht
      exact .ite (hs.setConv ..) _ ((hs.setConv ..).injEnd ..)
    · cases ht
      exact .ite (hs.setConv ..) _ ((hs.setConv ..).injEnd ..)
    · obtain ⟨_, _, ht⟩ := Option.map_eq_some_iff.1 ht
      cases ht
      exact hs
    · cases ht
      exact hs
    · cases ht

theorem State.Leads.conversion {old s : State} (hs : old.Leads s) (v : Nat) (input : Int) (t : Nat) (settled : Bool) :
    old.Leads (s.conversion v input t settled) := by
  unfold State.conversion
  refine hs.ite _ ?_
  split
  · exact hs
  next c k s1 ht =>
    have h1 : old.Leads s1 := hs.convAdvance ht
    extract_lets code hi lo under failed s2 shunt s3
    have h2 : old.Leads s2 := .when (h1.convCount ..) _ _ fun _ hu => hu.overRange ..
    have h3 : old.Leads s3 := by
      unfold s3
      split
      · exact h2.refConversion ..
      · exact h2.pairStep ..
      · exact .when h2 _ _ fun _ hu => .when (hu.publish ..) _ _ fun _ hw => hw.shuntSample ..
    split
    · exact h3.when _ _ fun _ hu => hu.owConversion ..
    · exact h3

theorem State.Leads.keepIntake {old s : State} (hs : old.Leads s) (before : State) : old.Leads (s.keepIntake before) := hs.fields ..
theorem State.Leads.adcTick {old s : State} (hs : old.Leads s) (t : Nat) : old.Leads (s.adcTick t) := hs.each _ _ fun _ _ hu => hu.setReg ..

/-! ### Gate drive (Machine/GateDrive.lean) -/

theorem State.Leads.desat {old s : State} (hs : old.Leads s) (g : Nat) : old.Leads (s.desat g) := (hs.raiseHold ..).ite _ hs
theorem State.Leads.overcurrent {old s : State} (hs : old.Leads s) (b : Nat) : old.Leads (s.overcurrent b) := (hs.raiseHold ..).ite _ hs

theorem State.Leads.gateStuck {old s : State} (hs : old.Leads s) (g : Nat) : old.Leads (s.gateStuck g) :=
  ((hs.fields ..).raiseHold ..).ite _ hs

theorem State.Leads.shootThrough {old s : State} (hs : old.Leads s) (g : Nat) (both : Bool) : old.Leads (s.shootThrough g both) :=
  (((((hs.fields ..).incF ..).event ..).raise ..).refreshPower ..).ite _ hs

theorem State.Leads.bootRefresh {old s : State} (hs : old.Leads s) (g : Nat) : old.Leads (s.bootRefresh g) :=
  ((((hs.setFlag ..).setF ..).event ..).raise ..).ite _ hs

theorem State.Leads.bootUv {old s : State} (hs : old.Leads s) (g : Nat) : old.Leads (s.bootUv g) :=
  (hs.ite _ ((((((hs.setFlag ..).setF ..).fields ..).lasting ..).raiseHold ..).ite _ ((((((hs.setFlag ..).setF ..).fields ..).detected
    ..).raise ..).refreshPower ..))).ite _ hs

theorem State.Leads.linkSeen {old s : State} (hs : old.Leads s) (l u : Nat) : old.Leads (s.linkSeen l u) :=
  (hs.fields ..).when _ _ fun _ hu => hu.setFlag ..

theorem State.Leads.chopperSwitch {old s : State} (hs : old.Leads s) (l u : Nat) : old.Leads (s.chopperSwitch l u) :=
  (((hs.linkSeen ..).setFlag ..).ite _ (((hs.linkSeen ..).setFlag ..).ite _ (hs.linkSeen ..))).ite _ hs

theorem State.Leads.chopperFail {old s : State} (hs : old.Leads s) (l : Nat) : old.Leads (s.chopperFail l) := (hs.raiseHold ..).ite _ hs

theorem State.Leads.linkOv {old s : State} (hs : old.Leads s) (l u : Nat) : old.Leads (s.linkOv l u) :=
  ((hs.linkSeen ..).when _ _ fun _ hu => (hu.raiseHold ..).refreshLinks ..).ite _ hs

theorem State.Leads.linkTrip {old s : State} (hs : old.Leads s) (l u : Nat) : old.Leads (s.linkTrip l u) :=
  ((hs.linkSeen ..).when _ _ fun _ hu => ((hu.setFlag ..).raiseHold ..).refreshLinks ..).ite _ hs

theorem State.Leads.solShort {old s : State} (hs : old.Leads s) (k : Nat) : old.Leads (s.solShort k) := (hs.raiseHold ..).ite _ hs

theorem State.Leads.solOpen {old s : State} (hs : old.Leads s) (k : Nat) (holds : Bool) : old.Leads (s.solOpen k holds) :=
  ((((hs.setFlag ..).event ..).raiseLevel ..).ite _ ((hs.setFlag ..).clearLevel ..)).ite _ hs

theorem State.Leads.solDeviation {old s : State} (hs : old.Leads s) (k : Nat) (holds : Bool) : old.Leads (s.solDeviation k holds) :=
  ((((hs.setFlag ..).event ..).raiseLevel ..).ite _ ((hs.setFlag ..).clearLevel ..)).ite _ hs

theorem State.Leads.enReadback {old s : State} (hs : old.Leads s) (e : Nat) (rb : Bool) : old.Leads (s.enReadback e rb) :=
  (((((hs.setFlag ..).setFlag ..).event ..).raiseLevel ..).ite _ (((hs.setFlag ..).setFlag ..).clearLevel ..)).ite _ hs

theorem State.Leads.ssFault {old s : State} (hs : old.Leads s) (i : Nat) : old.Leads (s.ssFault i) := (hs.raiseHold ..).ite _ hs
theorem State.Leads.supplyTest {old s : State} (hs : old.Leads s) (i : Nat) : old.Leads (s.supplyTest i) := (hs.setFlag ..).ite _ hs

theorem State.Leads.pulseStart {old s : State} (hs : old.Leads s) (low : Bool) : old.Leads (s.pulseStart low) := by
  unfold State.pulseStart
  dsimp only
  split
  · exact (((((hs.fields ..).setFlag ..).setFlag ..).setFlag ..).refreshSupply ..).ite _ hs
  · exact hs

theorem State.Leads.pulseRelease {old s : State} (hs : old.Leads s) : old.Leads s.pulseRelease := hs.each _ _ fun _ _ hu => hu.setFlag ..
theorem State.Leads.xdisJoin {old s : State} (hs : old.Leads s) : old.Leads s.xdisJoin := (hs.when _ _ fun _ hu => hu.setFlag ..).setFlag ..

theorem State.Leads.xdisOkSeen {old s : State} (hs : old.Leads s) (leads : List ChFrame) : old.Leads (s.xdisOkSeen leads) :=
  (((hs.when _ _ fun _ hu => hu.setFlag ..).when _ _ fun _ hu => hu.setFlag ..).xdisJoin ..).fields ..

theorem State.Leads.xdisInLow {old s : State} (hs : old.Leads s) : old.Leads s.xdisInLow :=
  ((((((hs.fields ..).setFlag ..).setFlag ..).event ..).event ..).refreshPower ..).ite _ hs

theorem State.Leads.xdisInHigh {old s : State} (hs : old.Leads s) : old.Leads s.xdisInHigh :=
  (((((hs.fields ..).setFlag ..).setFlag ..).xdisJoin ..).refreshPower ..).ite _ hs

theorem State.Leads.xdisGrace {old s : State} (hs : old.Leads s) : old.Leads s.xdisGrace := (hs.raise ..).ite _ hs

/-! ### Position interfaces (Machine/Position.lean) -/

theorem State.Leads.setPos {old s : State} (hs : old.Leads s) (i : Nat) (p : Pos) : old.Leads (s.setPos i p) := hs.fields ..

theorem State.Leads.cmpFire {old s : State} (hs : old.Leads s) (i t : Nat) : old.Leads (s.cmpFire i t) :=
  (((((((hs.event ..).setReg ..).incF ..).setFlag ..).when _ _ fun _ hu => hu.setPos ..).setReg ..).ite _ ((((((hs.event ..).setReg
    ..).incF ..).setFlag ..).when _ _ fun _ hu => hu.setPos ..).setFlag ..)).adcTrigger ..

theorem State.Leads.compareWrite {old s : State} (hs : old.Leads s) (i : Nat) (w : Word) : old.Leads (s.compareWrite i w) :=
  (((hs.setReg ..).setFlag ..).setFlag ..).when _ _ fun _ hu => (hu.event ..).incF ..

theorem State.Leads.setCount {old s : State} (hs : old.Leads s) (i t : Nat) (w : Word) : old.Leads (s.setCount i t w) :=
  (hs.setReg ..).when _ _ fun _ hu => hu.setReg ..

theorem State.Leads.countStep {old s : State} (hs : old.Leads s) (i t : Nat) (new : Int) (up setsDir : Bool) :
    old.Leads (s.countStep i t new up setsDir) :=
  (((((((hs.setCount ..).setReg ..).setReg ..).setPos ..).setFlag ..).when _ _ fun _ hu => hu.setFlag ..).when _ _ fun _ hu => (hu.event
    ..).incF ..).when _ _ fun _ hu => hu.cmpFire ..

theorem State.Leads.countOne {old s : State} (hs : old.Leads s) (i t : Nat) (up setsDir : Bool) : old.Leads (s.countOne i t up setsDir) :=
  hs.countStep ..

theorem State.Leads.setRaw {old s : State} (hs : old.Leads s) (i t v held : Nat) : old.Leads (s.setRaw i t v held) :=
  ((hs.setF ..).setPos ..).when _ _ fun _ hu => hu.setPos ..

theorem State.Leads.setLevels {old s : State} (hs : old.Leads s) (i v : Nat) : old.Leads (s.setLevels i v) := hs.setF ..
theorem State.Leads.quadError {old s : State} (hs : old.Leads s) (i : Nat) : old.Leads (s.quadError i) := ((hs.incF ..).event ..).raise ..
theorem State.Leads.hallError {old s : State} (hs : old.Leads s) (i : Nat) : old.Leads (s.hallError i) := ((hs.incF ..).event ..).raise ..

theorem State.Leads.indexMismatch {old s : State} (hs : old.Leads s) (i : Nat) : old.Leads (s.indexMismatch i) :=
  (((hs.setFlag ..).incF ..).event ..).raise ..

theorem State.Leads.holdCand {old s : State} (hs : old.Leads s) (i : Nat) (c : Word) : old.Leads (s.holdCand i c) :=
  (hs.setPos ..).setFlag ..

theorem State.Leads.indexEdge {old s : State} (hs : old.Leads s) (i t : Nat) : old.Leads (s.indexEdge i t) :=
  hs.ite _ ((((hs.setReg ..).setFlag ..).setFlag ..).ite _ (((((((((hs.setReg ..).setCount ..).setReg ..).incF ..).event ..).setFlag
    ..).setFlag ..).setFlag ..).ite _ (((hs.setReg ..).holdCand ..).when _ _ fun _ hu => hu.indexMismatch ..)))

theorem State.Leads.indexChange {old s : State} (hs : old.Leads s) (i t : Nat) (rising : Bool) (held : Nat) :
    old.Leads (s.indexChange i t rising held) :=
  hs.ite _ ((hs.setRaw ..).ite _ ((((hs.setRaw ..).setLevels ..).indexEdge ..).ite _ ((hs.setRaw ..).setLevels ..)))

theorem State.Leads.inputChange {old s : State} (hs : old.Leads s) (i t v held : Nat) : old.Leads (s.inputChange i t v held) := by
  unfold State.inputChange
  dsimp only
  split
  · split
    · refine .indexEdge ?_ ..
      split
      · exact ((hs.setRaw ..).setLevels ..).countOne ..
      · exact ((hs.setRaw ..).setLevels ..).countOne ..
      · exact ((hs.setRaw ..).setLevels ..).quadError ..
      · exact (hs.setRaw ..).setLevels ..
    · split
      · exact ((hs.setRaw ..).setLevels ..).countOne ..
      · exact ((hs.setRaw ..).setLevels ..).countOne ..
      · exact ((hs.setRaw ..).setLevels ..).quadError ..
      · exact (hs.setRaw ..).setLevels ..
  · split
    · split
      · exact hs.setRaw ..
      · split
        · exact ((((hs.setRaw ..).setLevels ..).setF ..).setF ..).hallError ..
        · split
          · exact (((hs.setRaw ..).setLevels ..).setF ..).setF ..
          · split
            · exact (((hs.setRaw ..).setLevels ..).setF ..).setF ..
            · exact ((((hs.setRaw ..).setLevels ..).setF ..).setF ..).countOne ..
            · exact ((((hs.setRaw ..).setLevels ..).setF ..).setF ..).countOne ..
            · exact ((((hs.setRaw ..).setLevels ..).setF ..).setF ..).hallError ..
    · exact (((hs.setRaw ..).setLevels ..).when _ _ fun _ hu => hu.countOne ..).ite _ ((hs.setRaw ..).ite _ hs)

theorem State.Leads.probeEdge {old s : State} (hs : old.Leads s) (i t : Nat) (rising : Bool) (held : Nat) :
    old.Leads (s.probeEdge i t rising held) :=
  hs.ite _ ((hs.setF ..).ite _ (((((hs.setF ..).adcTrigger ..).incF ..).event ..).ite _ ((((((((hs.setF ..).adcTrigger ..).setReg
    ..).setReg ..).setFlag ..).incF ..).event ..).setPos ..)))

theorem State.Leads.dataPin {old s : State} (hs : old.Leads s) (i t : Nat) (b : Bool) : old.Leads (s.dataPin i t b) := hs.setRaw ..

theorem State.Leads.serialStart {old s : State} (hs : old.Leads s) (i t : Nat) : old.Leads (s.serialStart i t) :=
  ((hs.setPos ..).dataPin ..).ite _ hs

theorem State.Leads.serialFail {old s : State} (hs : old.Leads s) (i : Nat) (again : Bool) : old.Leads (s.serialFail i again) :=
  (((((((hs.setFlag ..).setPos ..).setFlag ..).incF ..).event ..).lasting ..).raiseLevel ..).ite _ ((hs.setFlag ..).setPos ..)

theorem State.Leads.serialGood {old s : State} (hs : old.Leads s) (i t data : Nat) : old.Leads (s.serialGood i t data) := by
  unfold State.serialGood
  refine .when ?_ _ _ fun _ hu => (((hu.incF ..).event ..).transient ..).raise ..
  refine .clearLevel (.setPos (.setFlag (.setFlag (.setReg ?_ ..) ..) ..) ..) ..
  exact .ite (hs.countStep ..) _ (hs.setCount ..)

theorem State.Leads.serialWord {old s : State} (hs : old.Leads s) (i t : Nat) (start : Bool) (data : Nat) (err : Bool) (crc : Nat) :
    old.Leads (s.serialWord i t start data err crc) := by
  unfold State.serialWord
  dsimp only
  split
  · split
    · exact (((((hs.dataPin ..).setF ..).setFlag ..).setF ..).setPos ..).serialGood ..
    · exact ((((((hs.dataPin ..).setF ..).setFlag ..).setF ..).setPos ..).incF ..).serialFail ..
    · exact ((((((hs.dataPin ..).setF ..).setFlag ..).setF ..).setPos ..).incF ..).serialFail ..
    · exact ((((((hs.dataPin ..).setF ..).setFlag ..).setF ..).setPos ..).incF ..).serialFail ..
  · exact hs

theorem State.Leads.serialTimeout {old s : State} (hs : old.Leads s) (i : Nat) : old.Leads (s.serialTimeout i) :=
  ((((hs.setPos ..).setF ..).incF ..).ite _ ((((hs.setPos ..).setF ..).incF ..).serialFail ..)).ite _ hs

theorem State.Leads.posAct {old s : State} (hs : old.Leads s) (c : Instr) : old.Leads (s.posAct c) := by
  unfold State.posAct
  split
  · exact hs.inputChange ..
  · exact hs.indexChange ..
  · exact hs.probeEdge ..
  · exact hs.serialWord ..
  · exact hs

theorem State.Leads.takeAhead {old s : State} (hs : old.Leads s) (i : Nat) (l : List Instr) : old.Leads (s.takeAhead i l) := hs.setPos ..

theorem State.Leads.posTake {old s : State} (hs : old.Leads s) (i t : Nat) (c : Instr) : old.Leads (s.posTake i t c) :=
  (hs.setPos ..).ite _ ((hs.setPos ..).ite _ (((hs.foldl _ _ fun _ _ hu => hu.posAct ..).takeAhead ..).posAct ..))

theorem State.Leads.posFollow {old s : State} (hs : old.Leads s) (i : Nat) : old.Leads (s.posFollow i) :=
  ((hs.setFlag ..).setFlag ..).setPos ..

theorem State.Leads.posLate {old s : State} (hs : old.Leads s) (i t : Nat) : old.Leads (s.posLate i t) :=
  hs.ite _ (((hs.setPos ..).takeAhead ..).foldl _ _ fun _ _ hu => hu.posAct ..)

theorem State.Leads.posBefore {old s : State} (hs : old.Leads s) (i t tick : Nat) : old.Leads (s.posBefore i t tick) := by
  unfold State.posBefore
  dsimp only
  refine .posLate (.setPos (.when ?_ _ _ fun _ hu => hu.each _ _ fun _ _ hu1 => hu1.setReg ..) ..) ..
  split
  · exact (hs.when _ _ fun _ hu => (hu.setF ..).serialFail ..).setF ..
  · exact hs.when _ _ fun _ hu => (hu.setF ..).serialFail ..

theorem State.Leads.posAfter {old s : State} (hs : old.Leads s) (i : Nat) : old.Leads (s.posAfter i) :=
  ((hs.setFlag ..).setPos ..).each _ _ fun _ _ hu => hu.posAct ..

/-! ### Flue timing and rings (Machine/Flue.lean) -/

theorem State.Leads.refreshRingOk {old s : State} (hs : old.Leads s) (ring : Nat) : old.Leads (s.refreshRingOk ring) := hs.setFlag ..

theorem State.Leads.useSched {old s : State} (hs : old.Leads s) (k : Nat) : old.Leads (s.useSched k) := by
  unfold State.useSched
  dsimp only
  refine ((((((hs.setF ..).each _ _ fun _ _ hu => ?_).setF ..).setF ..).setF ..).fields ..).foldl _ _ fun _ _ hu => hu.setFlag ..
  split
  · exact ((((hu.setFlag ..).setF ..).setF ..).setF ..).setF ..
  · exact hu.setReg ..

theorem State.Leads.modeReqWrite {old s : State} (hs : old.Leads s) (v : Word) : old.Leads (s.modeReqWrite v) := (hs.setF ..).ite _ hs

theorem State.Leads.syncLost {old s : State} (hs : old.Leads s) : old.Leads s.syncLost :=
  ((((hs.fields ..).setFlag ..).incF ..).event ..).raise ..

theorem State.Leads.gotSync {old s : State} (hs : old.Leads s) : old.Leads s.gotSync := (hs.fields ..).setFlag ..

theorem State.Leads.adopt {old s : State} (hs : old.Leads s) (ring hops : Nat) (h : Hdr) (c : Nat) : old.Leads (s.adopt ring hops h c) :=
  ((hs.alignTick ..).useSched ..).fields ..

theorem State.Leads.listenTimeout {old s : State} (hs : old.Leads s) (t : Nat) : old.Leads (s.listenTimeout t) :=
  (((hs.alignTick ..).useSched ..).fields ..).ite _ hs

theorem State.Leads.coldLimit {old s : State} (hs : old.Leads s) : old.Leads s.coldLimit := by
  unfold State.coldLimit
  dsimp only
  split
  · exact hs.fields ..
  · exact hs.fields ..
  · exact hs

theorem State.Leads.correct {old s : State} (hs : old.Leads s) (own : Bool) : old.Leads (s.correct own) :=
  ((((hs.setF ..).setF ..).setF ..).setReg ..).fields ..

theorem State.Leads.syncCycleEnd {old s : State} (hs : old.Leads s) : old.Leads s.syncCycleEnd := by
  unfold State.syncCycleEnd
  dsimp only
  split
  · exact (((hs.correct ..).fields ..).syncLost ..).ite _ ((hs.correct ..).fields ..)
  · exact hs.correct ..
  · exact (hs.correct ..).fields ..
  · exact ((hs.correct ..).fields ..).ite _ (((hs.correct ..).fields ..).ite _ ((hs.correct ..).gotSync ..))
  · exact (hs.correct ..).fields ..
  · exact ((hs.correct ..).gotSync ..).ite _ ((hs.correct ..).fields ..)
  · exact hs

theorem State.Leads.rateCorrection {old s : State} (hs : old.Leads s) : old.Leads s.rateCorrection :=
  hs.ite _ (((hs.fields ..).setReg ..).when _ _ fun _ hu => hu.syncLost ..)

theorem State.Leads.ppsEdge {old s : State} (hs : old.Leads s) (t : Nat) (rising : Bool) : old.Leads (s.ppsEdge t rising) :=
  (((((((hs.fields ..).setReg ..).incF ..).setFlag ..).setFlag ..).clearLevel ..).when _ _ fun _ hu => (hu.incF ..).setFlag ..).ite _ hs

theorem State.Leads.ppsLost {old s : State} (hs : old.Leads s) : old.Leads s.ppsLost :=
  ((((((hs.fields ..).setFlag ..).setReg ..).incF ..).event ..).raiseLevel ..).ite _ hs

theorem State.Leads.refreshForwarding {old s : State} (hs : old.Leads s) : old.Leads s.refreshForwarding := hs.setFlag ..

theorem State.Leads.receiverLock {old s : State} (hs : old.Leads s) (ring : Nat) : old.Leads (s.receiverLock ring) :=
  (((hs.setFlag ..).refreshRingOk ..).refreshForwarding ..).ite _ hs

theorem State.Leads.closeBypass {old s : State} (hs : old.Leads s) (ring : Nat) : old.Leads (s.closeBypass ring) :=
  (hs.setFlag ..).refreshForwarding ..

theorem State.Leads.lockLoss {old s : State} (hs : old.Leads s) (ring errs : Nat) : old.Leads (s.lockLoss ring errs) :=
  (((((((((hs.setFlag ..).refreshRingOk ..).refreshForwarding ..).addF ..).when _ _ fun _ hu => hu.event ..).incF ..).event ..).raise
    ..).when _ _ fun _ hu => hu.closeBypass ..).ite _ hs

theorem State.Leads.bypassOpen {old s : State} (hs : old.Leads s) (ring : Nat) : old.Leads (s.bypassOpen ring) :=
  ((hs.setFlag ..).refreshForwarding ..).ite _ hs

theorem State.Leads.bypassClose {old s : State} (hs : old.Leads s) (ring : Nat) : old.Leads (s.bypassClose ring) :=
  (hs.closeBypass ..).ite _ hs

theorem State.Leads.vioFault {old s : State} (hs : old.Leads s) (mv : Nat) : old.Leads (s.vioFault mv) :=
  hs.ite _ ((hs.hidden ..).ite _ ((((((((hs.hidden ..).setF ..).incF ..).event ..).raiseLevel ..).closeBypass ..).closeBypass ..).ite _
    (((((hs.hidden ..).setF ..).incF ..).event ..).raiseLevel ..)))

theorem State.Leads.damperDiverge {old s : State} (hs : old.Leads s) (ns : Nat) : old.Leads (s.damperDiverge ns) :=
  ((((hs.peakF ..).setFlag ..).raiseLevel ..).ite _ (((hs.peakF ..).setFlag ..).clearLevel ..)).ite _ hs

/-! ### Safety channels (Machine/SafetyData.lean) -/

theorem State.Leads.refreshSafTx {old s : State} (hs : old.Leads s) : old.Leads s.refreshSafTx := by
  unfold State.refreshSafTx
  refine hs.each _ _ fun _ _ hu => ?_
  split
  · exact (hu.setFlag ..).setF ..
  · exact hu.setReg ..

theorem State.Leads.setSafCh {old s : State} (hs : old.Leads s) (r : Nat) (x : SafCh) : old.Leads (s.setSafCh r x) := hs.fields ..

theorem State.Leads.safReceive {old s : State} (hs : old.Leads s) (r : Nat) : old.Leads (s.safReceive r) := by
  unfold State.safReceive
  dsimp only
  split
  · exact hs
  · split
    · exact ((((((hs.setSafCh ..).setF ..).setFlag ..).setF ..).when _ _ fun _ hu => (hu.setF ..).setReg ..).incF ..).event ..
    · exact ((((((hs.setSafCh ..).setF ..).setFlag ..).setF ..).when _ _ fun _ hu => (hu.setF ..).setReg ..).incF ..).event ..
    · exact (((((((hs.setSafCh ..).setF ..).setFlag ..).setF ..).when _ _ fun _ hu => (hu.setF ..).setReg ..).incF ..).incF ..).event ..
    · exact (((((((hs.setSafCh ..).setF ..).setFlag ..).setF ..).when _ _ fun _ hu => (hu.setF ..).setReg ..).incF ..).incF ..).event ..
    · exact (((((((hs.setSafCh ..).setF ..).setFlag ..).setF ..).when _ _ fun _ hu => (hu.setF ..).setReg ..).incF ..).incF ..).event ..
    · exact (((((((hs.setSafCh ..).setF ..).setFlag ..).setF ..).when _ _ fun _ hu => (hu.setF ..).setReg ..).incF ..).incF ..).event ..
    · exact (((((hs.setSafCh ..).setF ..).setFlag ..).setF ..).when _ _ fun _ hu => (hu.setF ..).setReg ..).incF ..

theorem State.Leads.safRaise {old s : State} (hs : old.Leads s) (n : Nat) : old.Leads (s.safRaise n) := by
  unfold State.safRaise
  dsimp only
  split
  · exact (((((hs.setFlag ..).setF ..).pushLog ..).setReg ..).incF ..).event ..
  · exact (((hs.setFlag ..).setF ..).pushLog ..).setReg ..

theorem State.Leads.slsCommit {old s : State} (hs : old.Leads s) (c : BlkIn) (outs : List (Word × Bool)) (st : List Word) :
    old.Leads (s.slsCommit c outs st) :=
  ((((((((hs.setF ..).setF ..).when _ _ fun _ hu => hu.incF ..).setFlag ..).setFlag ..).setFlag ..).fields ..).ite _ ((((((((hs.setF
    ..).setF ..).when _ _ fun _ hu => hu.incF ..).setFlag ..).setFlag ..).setFlag ..).fields ..).setF ..)).shutdownEdge ..

theorem State.Leads.slpCommit {old s : State} (hs : old.Leads s) (c : BlkIn) (outs : List (Word × Bool)) (st : List Word) :
    old.Leads (s.slpCommit c outs st) :=
  (((hs.setF ..).setF ..).setFlag ..).when _ _ fun _ hu => hu.incF ..

theorem State.Leads.pulseCommit {old s : State} (hs : old.Leads s) (c : BlkIn) (outs : List (Word × Bool)) (st : List Word) :
    old.Leads (s.pulseCommit c outs st) :=
  (((hs.fields ..).setFlag ..).setF ..).when _ _ fun _ hu => ((hu.incF ..).setF ..).setFlag ..

theorem State.Leads.ringCompareCommit {old s : State} (hs : old.Leads s) (c : BlkIn) (outs : List (Word × Bool)) :
    old.Leads (s.ringCompareCommit c outs) :=
  (hs.setF ..).setFlag ..

theorem State.Leads.unCount {old s : State} (hs : old.Leads s) (a : Nat) : old.Leads (s.unCount a) := hs.when _ _ fun _ hu => hu.setReg ..

theorem State.Leads.safUndo {old s : State} (hs : old.Leads s) (c : BlkIn) (v : Saved) : old.Leads (s.safUndo c v) := by
  unfold State.safUndo
  dsimp only
  split
  · exact ((hs.each _ _ fun _ _ hu => hu.setF ..).each _ _ fun _ _ hu => hu.unCount ..).fields ..
  · exact (((hs.each _ _ fun _ _ hu => hu.setF ..).each _ _ fun _ _ hu => hu.unCount ..).fields ..).setFlag ..
  · exact (hs.each _ _ fun _ _ hu => hu.setF ..).each _ _ fun _ _ hu => hu.unCount ..

theorem State.Leads.safCommit {old s : State} (hs : old.Leads s) (c : BlkIn) (outs : List (Word × Bool)) (st : List Word)
    (raises : List Nat) :
    old.Leads (s.safCommit c outs st raises) := by
  unfold State.safCommit
  dsimp only
  split
  · exact (hs.each _ _ fun _ _ hu => hu.safRaise ..).ringCompareCommit ..
  · exact (hs.each _ _ fun _ _ hu => hu.safRaise ..).slsCommit ..
  · exact (hs.each _ _ fun _ _ hu => hu.safRaise ..).slpCommit ..
  · exact (((hs.each _ _ fun _ _ hu => hu.safRaise ..).setF ..).setF ..).setFlag ..
  · exact ((hs.each _ _ fun _ _ hu => hu.safRaise ..).setF ..).when _ _ fun _ hu => hu.incF ..
  · exact (hs.each _ _ fun _ _ hu => hu.safRaise ..).pulseCommit ..
  · exact hs.each _ _ fun _ _ hu => hu.safRaise ..

theorem State.Leads.safTick {old s : State} (hs : old.Leads s) : old.Leads s.safTick := (hs.setF ..).ite _ hs
theorem State.Leads.pulseNext {old s : State} (hs : old.Leads s) : old.Leads s.pulseNext := hs.setReg ..

/-! ### Section actuation (Machine/Section.lean) -/

theorem State.Leads.setPt {old s : State} (hs : old.Leads s) (p : Nat) (x : PointRun) : old.Leads (s.setPt p x) := hs.fields ..

theorem State.Leads.poseCommit {old s : State} (hs : old.Leads s) (valid : Nat) : old.Leads (s.poseCommit valid) :=
  (((hs.fields ..).setFlag ..).setFlag ..).refreshIso ..

theorem State.Leads.crossCommit {old s : State} (hs : old.Leads s) (c : BlkIn) : old.Leads (s.crossCommit c) :=
  hs.each _ _ fun _ _ hu => (((hu.setPt ..).addF ..).setFlag ..).fields ..

theorem State.Leads.rasterCommit {old s : State} (hs : old.Leads s) (n : Nat) : old.Leads (s.rasterCommit n) := (hs.setEvents ..).fields ..

theorem State.Leads.pwmCommit {old s : State} (hs : old.Leads s) (c : BlkIn) : old.Leads (s.pwmCommit c) :=
  hs.each _ _ fun _ _ hu => (hu.setPt ..).when _ _ fun _ hu1 => (hu1.incF ..).setFlag ..

theorem State.Leads.turnCommit {old s : State} (hs : old.Leads s) (c : BlkIn) : old.Leads (s.turnCommit c) :=
  hs.each _ _ fun _ _ hu => (hu.setPt ..).ite _ ((hu.setPt ..).when _ _ fun _ hu1 => hu1.incF ..)

theorem State.Leads.secCommit {old s : State} (hs : old.Leads s) (c : BlkIn) (outs : List (Word × Bool)) :
    old.Leads (s.secCommit c outs) := by
  unfold State.secCommit
  dsimp only
  split
  · exact hs.poseCommit ..
  · exact hs.crossCommit ..
  · exact hs.each _ _ fun _ _ hu => hu.setPt ..
  · exact hs.rasterCommit ..
  · exact hs.pwmCommit ..
  · exact hs.turnCommit ..
  · exact hs.fields ..
  · exact hs.fields ..
  · exact hs

theorem State.Leads.secUndo {old s : State} (hs : old.Leads s) (ty : Nat) (v : Saved) : old.Leads (s.secUndo ty v) := by
  unfold State.secUndo
  dsimp only
  split
  · refine (hs.each _ _ fun _ _ hu => ?_).poseCommit ..
    split
    · exact (hu.setPt ..).setFlag ..
    · exact hu.setPt ..
    · exact hu.setPt ..
    · exact hu.setPt ..
  · refine ((hs.each _ _ fun _ _ hu => ?_).fields ..).setEvents ..
    split
    · exact (hu.setPt ..).setFlag ..
    · exact hu.setPt ..
    · exact hu.setPt ..
    · exact hu.setPt ..
  · refine (hs.each _ _ fun _ _ hu => ?_).fields ..
    split
    · exact (hu.setPt ..).setFlag ..
    · exact hu.setPt ..
    · exact hu.setPt ..
    · exact hu.setPt ..
  · refine (hs.each _ _ fun _ _ hu => ?_).fields ..
    split
    · exact (hu.setPt ..).setFlag ..
    · exact hu.setPt ..
    · exact hu.setPt ..
    · exact hu.setPt ..
  · refine hs.each _ _ fun _ _ hu => ?_
    split
    · exact (hu.setPt ..).setFlag ..
    · exact hu.setPt ..
    · exact hu.setPt ..
    · exact hu.setPt ..

theorem State.Leads.refreshOn {old s : State} (hs : old.Leads s) : old.Leads s.refreshOn :=
  ((hs.foldl _ _ fun _ _ hu => hu.setReg ..).setReg ..).setReg ..

theorem State.Leads.secQueue {old s : State} (hs : old.Leads s) (e : SecEntry) (was : Option PtCmd) : old.Leads (s.secQueue e was) := by
  unfold State.secQueue
  dsimp only
  split
  · exact ((((((((hs.fields ..).setF ..).peakF ..).setPt ..).setReg ..).setFlag ..).setFlag ..).incF ..).setFlag ..
  · exact ((hs.fields ..).setF ..).peakF ..

theorem State.Leads.emit {old s : State} (hs : old.Leads s) (p e : Nat) (q : PtCmd) : old.Leads (s.emit p e q) :=
  ((((((((((((((hs.setPt ..).when _ _ fun _ hu => ((hu.incF ..).setFlag ..).setFlag ..).setFlag ..).setFlag ..).setF ..).setF ..).incF
    ..).setF ..).setFlag ..).setF ..).setF ..).peakF ..).fields ..).secQueue ..).ite _ (((((((((((((hs.setPt ..).when _ _ fun _ hu =>
    ((hu.incF ..).setFlag ..).setFlag ..).setFlag ..).setFlag ..).setF ..).setF ..).incF ..).setF ..).setFlag ..).setF ..).setF ..).peakF
    ..).fields ..)

theorem State.Leads.pointEnd {old s : State} (hs : old.Leads s) (p e : Nat) : old.Leads (s.pointEnd p e) := by
  unfold State.pointEnd
  dsimp only
  split
  · exact (((((hs.setPt ..).setPt ..).when _ _ fun _ hu => hu.incF ..).when _ _ fun _ hu => hu.incF ..).emit ..).ite _ (((hs.setPt
      ..).setPt ..).when _ _ fun _ hu => hu.incF ..)
  · exact ((hs.setPt ..).setPt ..).when _ _ fun _ hu => hu.incF ..
  · split
    · exact ((hs.setPt ..).setPt ..).when _ _ fun _ hu => hu.incF ..
    · split
      · exact ((((((hs.setPt ..).setPt ..).when _ _ fun _ hu => hu.incF ..).when _ _ fun _ hu => hu.incF ..).incF ..).emit ..).ite _
          (((hs.setPt ..).setPt ..).when _ _ fun _ hu => hu.incF ..)
      · exact (((hs.setPt ..).setPt ..).when _ _ fun _ hu => hu.incF ..).ite _ (((((hs.setPt ..).setPt ..).when _ _ fun _ hu => hu.incF
          ..).incF ..).emit ..)

theorem State.Leads.pointCmdEnd {old s : State} (hs : old.Leads s) (c : BlkIn) (e : Nat) : old.Leads (s.pointCmdEnd c e) := by
  unfold State.pointCmdEnd
  dsimp only
  refine ((hs.when _ _ fun _ hu => hu.each _ _ fun _ _ hu1 => ?_).each _ _ fun _ _ hu => hu.pointEnd ..).refreshOn ..
  split
  · exact ((hu1.incF ..).emit ..).ite _ hu1
  · exact hu1

theorem State.Leads.dutyEnd {old s : State} (hs : old.Leads s) (p e : Nat) : old.Leads (s.dutyEnd p e) := by
  unfold State.dutyEnd
  dsimp only
  split
  · exact hs.setPt ..
  · split
    · exact (((hs.setPt ..).incF ..).emit ..).ite _ (hs.setPt ..)
    · exact (((hs.setPt ..).incF ..).emit ..).ite _ (hs.setPt ..)

theorem State.Leads.coverageEnd {old s : State} (hs : old.Leads s) (e0 e : Nat) : old.Leads (s.coverageEnd e0 e) :=
  hs.each _ _ fun _ _ hu => (hu.setPt ..).fields ..

theorem State.Leads.spotAgeEnd {old s : State} (hs : old.Leads s) (hold : Nat) : old.Leads (s.spotAgeEnd hold) := hs.fields ..

theorem State.Leads.secEnd {old s : State} (hs : old.Leads s) (c : BlkIn) (e0 e : Nat) : old.Leads (s.secEnd c e0 e) := by
  unfold State.secEnd
  split
  · exact hs.pointCmdEnd ..
  · exact hs.ite _ (hs.spotAgeEnd ..)
  · exact (hs.each _ _ fun _ _ hu => hu.dutyEnd ..).refreshOn ..
  · exact hs.ite _ (hs.coverageEnd ..)
  · exact hs

theorem State.Leads.secTick {old s : State} (hs : old.Leads s) (now : Nat) : old.Leads (s.secTick now) := by
  unfold State.secTick
  refine hs.foldl _ _ fun _ _ hu => ?_
  split
  · split
    · exact (hu.setFlag ..).ite _ hu
    · exact hu.setFlag ..
  · exact hu

theorem State.Leads.sectionTimeout {old s : State} (hs : old.Leads s) : old.Leads s.sectionTimeout :=
  ((hs.when _ _ fun _ hu => hu.setFlag ..).setFlag ..).ite _ hs

/-! ### Block graph (Machine/Graph.lean) -/

theorem State.Leads.bankSwap {old s : State} (hs : old.Leads s) (i : Nat) : old.Leads (s.bankSwap i) := by
  unfold State.bankSwap
  dsimp only
  split
  · exact hs
  · split
    · exact (((((hs.setInst ..).incF ..).setF ..).setF ..).setF ..).setF ..
    · exact ((((((((((hs.setInst ..).incF ..).setF ..).setF ..).setF ..).setF ..).incF ..).setReg ..).setF ..).setFlag ..).setF ..

theorem State.Leads.hobTake {old s : State} (hs : old.Leads s) (hob : Nat) (steal : Bool) : old.Leads (s.hobTake hob steal) := by
  unfold State.hobTake
  dsimp only
  split
  · exact hs
  · split
    · exact hs
    · exact hs.ite _ ((((((hs.fields ..).setInst ..).setF ..).when _ _ fun _ hu => hu.incF ..).when _ _ fun _ hu => hu.setFlag ..).bankSwap
        ..)

theorem State.Leads.hobDispatch {old s : State} (hs : old.Leads s) (hob : Nat) : old.Leads (s.hobDispatch hob) :=
  hs.ite _ (((hs.each _ _ fun _ _ hu => hu.hobTake ..).ite _ (((hs.each _ _ fun _ _ hu => hu.hobTake ..).each _ _ fun _ _ hu => hu.hobTake
    ..).each _ _ fun _ _ hu => hu.hobTake ..)).refreshQueues ..)

theorem State.Leads.blockStage {old s : State} (hs : old.Leads s) (hob : Nat) (upset : List Word) (tiles : List Nat) :
    old.Leads (s.blockStage hob upset tiles) := by
  unfold State.blockStage
  dsimp only
  split
  · exact hs
  · split
    · exact (((hs.fields ..).setF ..).when _ _ fun _ hu => hu.rollEnter ..).refreshQueues ..
    · split
      · exact (((hs.fields ..).setF ..).when _ _ fun _ hu => hu.rollEnter ..).refreshQueues ..
      · exact ((((hs.fields ..).setF ..).when _ _ fun _ hu => hu.rollEnter ..).setInst ..).refreshQueues ..

theorem State.Leads.refreshStale {old s : State} (hs : old.Leads s) : old.Leads s.refreshStale :=
  (hs.ite _ (hs.raiseLevel ..)).ite _ ((hs.clearLevel ..).ite _ hs)

theorem State.Leads.lawCommit {old s : State} (hs : old.Leads s) (i : Nat) (w : Staged) : old.Leads (s.lawCommit i w) := by
  unfold State.lawCommit
  dsimp only
  split
  · exact hs
  · split
    · exact (((((hs.setF ..).setF ..).setF ..).setReg ..).setReg ..).when _ _ fun _ hu => hu.incF ..
    · exact (((((((hs.setF ..).setF ..).setF ..).setReg ..).setReg ..).when _ _ fun _ hu => hu.incF ..).setFlag ..).setF ..

theorem State.Leads.lawShow {old s : State} (hs : old.Leads s) (i : Nat) : old.Leads (s.lawShow i) := by
  unfold State.lawShow
  dsimp only
  split
  · exact hs
  · exact (((((hs.setF ..).setF ..).setF ..).setFlag ..).setF ..).setReg ..

theorem State.Leads.lawUnheld {old s : State} (hs : old.Leads s) (i : Nat) : old.Leads (s.lawUnheld i) := by
  unfold State.lawUnheld
  dsimp only
  split
  · exact hs.unCount ..
  · exact (hs.unCount ..).unCount ..

theorem State.Leads.commitUndo {old s : State} (hs : old.Leads s) (i : Nat) (v : Saved) : old.Leads (s.commitUndo i v) := by
  unfold State.commitUndo
  dsimp only
  refine ((((hs.lawShow ..).when _ _ fun _ hu => ?_).when _ _ fun _ hu => hu.lawUnheld ..).secUndo ..).safUndo ..
  split
  · exact hu
  · exact (hu.setF ..).setReg ..

theorem State.Leads.commitOut {old s : State} (hs : old.Leads s) (k : Nat) (v : Word) (age : Bool) : old.Leads (s.commitOut k v age) :=
  hs.setSig ..

theorem State.Leads.commitShows {old s : State} (hs : old.Leads s) (i : Nat) (c : BlkIn) (w : Staged) : old.Leads (s.commitShows i c w) :=
  (hs.when _ _ fun _ hu => hu.safCommit ..).ite _ ((hs.when _ _ fun _ hu => hu.safCommit ..).setInst ..)

theorem State.Leads.commitRaises {old s : State} (hs : old.Leads s) (w : Staged) : old.Leads (s.commitRaises w) :=
  hs.each _ _ fun _ _ hu => hu.when _ _ fun _ hu1 => hu1.raise ..

theorem State.Leads.commit {old s : State} (hs : old.Leads s) (i slack wait : Nat) : old.Leads (s.commit i slack wait) := by
  unfold State.commit
  dsimp only
  split
  · exact hs
  · refine .commitRaises (.refreshQueues (.when (.fields ?_ ..) _ _ fun _ hu => hu.refreshStale ..) ..) ..
    split
    · exact ((((((((hs.each _ _ fun _ _ hu => hu.commitOut ..).setInst ..).when _ _ fun _ hu => hu.incF ..).lawCommit ..).secCommit
        ..).commitShows ..).when _ _ fun _ hu => hu.peakF ..).transient ..).incF ..
    · exact ((((((hs.each _ _ fun _ _ hu => hu.commitOut ..).setInst ..).when _ _ fun _ hu => hu.incF ..).lawCommit ..).secCommit
        ..).commitShows ..).when _ _ fun _ hu => hu.peakF ..

theorem State.Leads.commitDue {old s : State} (hs : old.Leads s) (i slack wait : Nat) : old.Leads (s.commitDue i slack wait) :=
  (hs.commit ..).ite _ hs

theorem State.Leads.ageOuts {old s : State} (hs : old.Leads s) (i : Nat) (back : Bool) : old.Leads (s.ageOuts i back) :=
  hs.each _ _ fun _ _ hu => hu.setSig ..

theorem State.Leads.dropSample {old s : State} (hs : old.Leads s) (i : Nat) (as : Sample) : old.Leads (s.dropSample i as) := by
  unfold State.dropSample
  dsimp only
  refine .dropWrites (.fields ?_ ..) ..
  split
  · exact ((hs.ageOuts ..).setInst ..).commitUndo ..
  · exact (hs.ageOuts ..).setInst ..

theorem State.Leads.missRecord {old s : State} (hs : old.Leads s) (r : Nat) (l : List Nat) : old.Leads (s.missRecord r l) := by
  unfold State.missRecord
  dsimp only
  split
  · exact hs
  · exact ((((((hs.hobOf ..).each _ _ fun _ _ hu => hu.setF ..).addF ..).incF ..).setFlag ..).lastEvent ..).when _ _ fun _ hu => hu.marker
      ..

theorem State.Leads.missClass {old s : State} (hs : old.Leads s) (r : Nat) : old.Leads (s.missClass r) :=
  hs.ite _ ((hs.each _ _ fun _ _ hu => hu.dropSample ..).ite _ (hs.ite _ (((hs.missRecord ..).each _ _ fun _ _ hu => hu.dropSample
    ..).raise ..)))

theorem State.Leads.deadlineMiss {old s : State} (hs : old.Leads s) (k : Nat) : old.Leads (s.deadlineMiss k) :=
  ((hs.missClass ..).refreshQueues ..).ite _ hs

theorem State.Leads.solWrite {old s : State} (hs : old.Leads s) (k : Nat) (w : Word) : old.Leads (s.solWrite k w) :=
  (hs.fields ..).refreshSol ..

theorem State.Leads.valvePair {old s : State} (hs : old.Leads s) : old.Leads s.valvePair :=
  (((((hs.fields ..).refreshSol ..).refreshSol ..).setFlag ..).raise ..).ite _ hs

theorem State.Leads.enableWrite {old s : State} (hs : old.Leads s) (e : Nat) (w : Word) : old.Leads (s.enableWrite e w) :=
  (hs.setFlag ..).refreshEn ..

theorem State.Leads.flueTx {old s : State} (hs : old.Leads s) (i slot off : Nat) (words : List Word) :
    old.Leads (s.flueTx i slot off words) :=
  hs.fields ..

theorem State.Leads.faultBlock {old s : State} (hs : old.Leads s) (i src : Nat) (zero aged : Bool) :
    old.Leads (s.faultBlock i src zero aged) :=
  hs.ite _ (((hs.fields ..).ite _ ((hs.fields ..).raiseLevel ..)).ite _ (((hs.fields ..).clearLevel ..).ite _ (hs.fields ..)))

theorem State.Leads.effect {old s : State} (hs : old.Leads s) (e0 e i : Nat) : old.Leads (s.effect e0 e i) := by
  unfold State.effect
  dsimp only
  split
  · exact hs
  · split
    · exact hs.pwmWrite ..
    · exact hs.solWrite ..
    · exact hs.enableWrite ..
    · exact hs.flueTx ..
    · exact hs.canTx ..
    · exact hs.ethTx ..
    · exact hs.adcStart ..
    · exact hs.compareWrite ..
    · exact hs.bridgeModeWrite ..
    · exact hs.ite _ (hs.supplyTest ..)
    · exact hs.modeReqWrite ..
    · exact hs.faultBlock ..
    · exact hs.fields ..
    · exact hs.fields ..
    · exact hs.secEnd ..

theorem State.Leads.slotClose {old s : State} (hs : old.Leads s) (r : Nat) : old.Leads (s.slotClose r) := by
  unfold State.slotClose
  dsimp only
  refine .when (.when ?_ _ _ fun _ hu => hu.setReg ..) _ _ fun _ hu => hu.incF ..
  split
  · exact ((hs.each _ _ fun _ _ hu => hu.setSig ..).fields ..).ite _ (((hs.each _ _ fun _ _ hu => hu.setSig ..).fields ..).setF ..)
  · exact (hs.each _ _ fun _ _ hu => hu.setSig ..).fields ..

theorem State.Leads.slotsEnd {old s : State} (hs : old.Leads s) (rs : List Nat) : old.Leads (s.slotsEnd rs) :=
  hs.ite _ (((((hs.each _ _ fun _ _ hu => hu.missClass ..).ite _ (((hs.each _ _ fun _ _ hu => hu.missClass ..).each _ _ fun _ _ hu =>
    hu.effect ..).valvePair ..)).when _ _ fun _ hu => (hu.pinUpdate ..).fields ..).each _ _ fun _ _ hu => hu.slotClose ..).refreshStale ..)

theorem State.Leads.applyEdits {old s : State} (hs : old.Leads s) (i : Nat) : old.Leads (s.applyEdits i) := by
  unfold State.applyEdits
  dsimp only
  split
  · exact hs
  · split
    · exact (((hs.fields ..).setInst ..).setFlag ..).setF ..
    · exact (hs.fields ..).setInst ..

theorem State.Leads.slotStart {old s : State} (hs : old.Leads s) (r : Nat) : old.Leads (s.slotStart r) :=
  (((hs.when _ _ fun _ hu => hu.each _ _ fun _ _ hu1 => hu1.applyEdits ..).each _ _ fun _ _ hu => hu.setSig ..).each _ _ fun _ _ hu =>
    hu.setInst ..).fields ..

theorem State.Leads.markSkipped {old s : State} (hs : old.Leads s) : old.Leads s.markSkipped := (hs.fields ..).ite _ hs

/-! ### Comparators and lanes (Machine/Compare.lean) -/

theorem State.Leads.laneMismatch {old s : State} (hs : old.Leads s) (k i : Nat) (copyB : Bool) : old.Leads (s.laneMismatch k i copyB) :=
  hs.ite _ (((((((((hs.hobOf ..).setInst ..).discard ..).lasting ..).setFlag ..).lastEvent ..).marker ..).raise ..).ite _ (((((((((hs.hobOf
    ..).discard ..).setInst ..).countRetry ..).incF ..).setFlag ..).lastEvent ..).marker ..).refreshQueues ..))

theorem State.Leads.setRetries {old s : State} (hs : old.Leads s) (k : Nat) (l : List Nat) : old.Leads (s.setRetries k l) := hs.fields ..

theorem State.Leads.withheld {old s : State} (hs : old.Leads s) (k : Nat) : old.Leads (s.withheld k) := by
  unfold State.withheld
  refine .when (.when (.when hs _ _ fun _ hu => ?_) _ _ fun _ hu => ?_) _ _ fun _ hu => ?_
  · exact hu.fields ..
  · exact hu.hidden ..
  · exact (hu.fields ..).refreshPower ..

theorem State.Leads.setFifo {old s : State} (hs : old.Leads s) (k : Nat) (fifo : List (Bool × BusWrite)) : old.Leads (s.setFifo k fifo) :=
  ((hs.fields ..).setF ..).peakF ..

theorem State.Leads.dropTag {old s : State} (hs : old.Leads s) (k tag : Nat) : old.Leads (s.dropTag k tag) := (hs.fields ..).setFifo ..
theorem State.Leads.southWord {old s : State} (hs : old.Leads s) (src : Nat) (v : Word) : old.Leads (s.southWord src v) := hs.fields ..

theorem State.Leads.rewriteMismatch {old s : State} (hs : old.Leads s) (k tag : Nat) (data : List BusWrite) :
    old.Leads (s.rewriteMismatch k tag data) := by
  unfold State.rewriteMismatch
  dsimp only
  split
  · refine ((((((hs.withheld ..).when _ _ fun _ hu => hu.takeAction ..).when _ _ fun _ hu => ?_).setRetries ..).when _ _ fun _ hu =>
      hu.each _ _ fun _ _ hu1 => hu1.setFlag ..).lasting ..).raise ..
    split
    · exact hu.southWord ..
    · exact hu
  · refine (((((((hs.withheld ..).when _ _ fun _ hu => hu.takeAction ..).when _ _ fun _ hu => ?_).setRetries ..).countRetry ..).incF
      ..).setFlag ..).marker ..
    split
    · exact hu.southWord ..
    · exact hu

theorem State.Leads.pairVerdict {old s : State} (hs : old.Leads s) (k tag : Nat) (pass : Bool) : old.Leads (s.pairVerdict k tag pass) := by
  unfold State.pairVerdict
  dsimp only
  split
  · exact hs
  · exact (((hs.fields ..).withheld ..).raise ..).ite _ ((hs.fields ..).ite _ (hs.fields ..))

theorem State.Leads.mismatch {old s : State} (hs : old.Leads s) (k tag : Nat) (copyB : Bool) (data : List BusWrite) :
    old.Leads (s.mismatch k tag copyB data) :=
  (((((hs.each _ _ fun _ _ hu => hu.dropTag ..).incF ..).raise ..).pairVerdict ..).laneMismatch ..).ite _ (((((hs.each _ _ fun _ _ hu =>
    hu.dropTag ..).incF ..).raise ..).pairVerdict ..).rewriteMismatch ..)

theorem State.Leads.retireLane {old s : State} (hs : old.Leads s) (k : Nat) : old.Leads (s.retireLane k) :=
  (((((((hs.discard ..).each _ _ fun _ _ hu => ((((hu.setInst ..).countRetry ..).incF ..).lastEvent ..).marker ..).fields ..).setF ..).when
    _ _ fun _ hu => hu.setFlag ..).setFlag ..).incF ..).event ..

theorem State.Leads.verdictDisagree {old s : State} (hs : old.Leads s) (k : Nat) (pairDiffers : Bool) :
    old.Leads (s.verdictDisagree k pairDiffers) :=
  hs.ite _ ((((hs.withheld ..).raise ..).ite _ hs).ite _ ((hs.raise ..).ite _ (hs.ite _ ((hs.when _ _ fun _ hu => hu.retireLane ..).raise
    ..))))

theorem State.Leads.resetInst {old s : State} (hs : old.Leads s) (i : Nat) : old.Leads (s.resetInst i) := (hs.setInst ..).lawShow ..

theorem State.Leads.restoreState {old s : State} (hs : old.Leads s) (homed : List Nat) : old.Leads (s.restoreState homed) :=
  (hs.discard ..).each _ _ fun _ _ hu => hu.resetInst ..

theorem State.Leads.useSpare {old s : State} (hs : old.Leads s) (tile : Nat) : old.Leads (s.useSpare tile) := by
  unfold State.useSpare
  dsimp only
  split
  · exact (((hs.hidden ..).incF ..).event ..).setF ..
  · exact ((hs.hidden ..).incF ..).event ..

theorem State.Leads.clearTile {old s : State} (hs : old.Leads s) (tile : Nat) : old.Leads (s.clearTile tile) :=
  hs.tiles _ (Mem.write_wf _ _ _ _)

theorem State.Leads.copyPartner {old s : State} (hs : old.Leads s) (tile : Nat) : old.Leads (s.copyPartner tile) :=
  hs.tiles _ (Mem.write_wf _ _ _ _)

theorem State.Leads.repeatStep {old s : State} (hs : old.Leads s) (south : Bool) : old.Leads (s.repeatStep south) :=
  (hs.each _ _ fun _ _ hu => (hu.fields ..).setFifo ..).fields ..

theorem State.Leads.canLost {old s : State} (hs : old.Leads s) (n : Nat) : old.Leads (s.canLost n) := by
  unfold State.canLost
  dsimp only
  split
  · exact hs
  · exact (((hs.setCan ..).setF ..).incF ..).event ..

theorem State.Leads.ethLost {old s : State} (hs : old.Leads s) (p : Nat) : old.Leads (s.ethLost p) := by
  unfold State.ethLost
  split
  · exact hs
  · exact (((hs.fields ..).setFill ..).incF ..).event ..

theorem State.Leads.buffersLost {old s : State} (hs : old.Leads s) (l : List Nat) : old.Leads (s.buffersLost l) :=
  hs.each _ _ fun _ _ hu => (hu.canLost ..).ite _ ((hu.ethLost ..).ite _ hu)

theorem State.Leads.mapTileLost {old s : State} (hs : old.Leads s) (slot : Nat) (gone : Bool) : old.Leads (s.mapTileLost slot gone) := by
  unfold State.mapTileLost
  dsimp only
  split
  · exact hs.when _ _ fun _ hu => hu.fields ..
  · exact ((hs.when _ _ fun _ hu => hu.fields ..).fields ..).tileReq ..

theorem State.Leads.repairTile {old s : State} (hs : old.Leads s) (tile : Nat) (homed : List Nat) :
    old.Leads (s.repairTile tile homed) := by
  unfold State.repairTile
  dsimp only
  split
  · split
    · exact (hs.restoreState ..).retireCluster ..
    · exact (hs.mapTileLost ..).discard ..
    · exact hs.raise ..
  · split
    · exact (hs.useSpare ..).restoreState ..
    · exact ((hs.useSpare ..).mapTileLost ..).discard ..
    · exact ((hs.useSpare ..).copyPartner ..).repeatStep ..
    · exact ((hs.useSpare ..).copyPartner ..).repeatStep ..
    · exact ((hs.useSpare ..).clearTile ..).buffersLost ..
    · exact ((hs.useSpare ..).clearTile ..).marker ..
    · exact hs.useSpare ..

theorem State.Leads.verifyEvent {old s : State} (hs : old.Leads s) (tile : Nat) (hob : Option Nat) :
    old.Leads (s.verifyEvent tile hob) := by
  unfold State.verifyEvent
  dsimp only
  split
  · exact hs.lastEvent ..
  · exact (hs.fresh ..).lastEvent ..

theorem State.Leads.tileVerify {old s : State} (hs : old.Leads s) (tile : Nat) (pass1 pass2 : Bool) (hob : Option Nat) (homed : List Nat) :
    old.Leads (s.tileVerify tile pass1 pass2 hob homed) :=
  hs.ite _ (((hs.fields ..).incF ..).ite _ ((((((((((hs.fields ..).incF ..).incF ..).incF ..).setFlag ..).countRetry ..).verifyEvent
    ..).transient ..).raise ..).ite _ (((((((((((hs.fields ..).incF ..).incF ..).incF ..).setFlag ..).countRetry ..).verifyEvent
    ..).lasting ..).repairTile ..).raise ..).firstFatal ..)))

/-! ### Ageing and derating (Machine/Ageing.lean) -/

theorem State.Leads.rollStart {old s : State} (hs : old.Leads s) : old.Leads s.rollStart := by
  unfold State.rollStart
  dsimp only
  split
  · exact hs
  · exact hs.ite _ ((hs.fields ..).ite _ (hs.rollEnter ..))

theorem State.Leads.rollTested {old s : State} (hs : old.Leads s) (n : Nat) : old.Leads (s.rollTested n) := hs.setF ..

theorem State.Leads.rollLasting {old s : State} (hs : old.Leads s) (n : Nat) : old.Leads (s.rollLasting n) := by
  unfold State.rollLasting
  exact .when (((((hs.hobOut ..).refreshQueues ..).incF ..).event ..).raise ..) _ _ fun _ hu => hu.retireCluster ..

theorem State.Leads.rollEnd {old s : State} (hs : old.Leads s) (h : Nat) (pass1 pass2 : Bool) : old.Leads (s.rollEnd h pass1 pass2) :=
  hs.ite _ (((((((hs.incF ..).setF ..).setF ..).rollLeave ..).rollTested ..).when _ _ fun _ hu => (hu.incF ..).event ..).ite _ (((((hs.incF
    ..).setF ..).setF ..).setFlag ..).rollLasting ..))

theorem State.Leads.setBudget {old s : State} (hs : old.Leads s) (m b : Nat) : old.Leads (s.setBudget m b) :=
  hs.setBudgetBy (fun s => s.raise Src.marginLow) (fun _ hu => hu.raise ..) m b

theorem State.Leads.roTake {old s : State} (hs : old.Leads s) (ro : List Nat) : old.Leads (s.roTake ro) := by
  unfold State.roTake
  dsimp only
  split
  · exact ((hs.each _ _ fun _ _ hu => (hu.setF ..).setF ..).setValue ..).setF ..
  · exact hs.each _ _ fun _ _ hu => (hu.setF ..).setF ..

theorem State.Leads.setTrim {old s : State} (hs : old.Leads s) (h : Nat) (t : Int) : old.Leads (s.setTrim h t) := (hs.setF ..).setF ..

theorem State.Leads.setStep {old s : State} (hs : old.Leads s) (step : Nat) : old.Leads (s.setStep step) :=
  ((hs.each _ _ fun _ _ hu => (hu.setF ..).setF ..).setF ..).setF ..

theorem State.Leads.derated {old s : State} (hs : old.Leads s) : old.Leads s.derated := (((hs.incF ..).event ..).raise ..).ashRequest ..
theorem State.Leads.exhaust {old s : State} (hs : old.Leads s) : old.Leads s.exhaust := hs.ite _ ((hs.setFlag ..).event ..)

theorem State.Leads.derateTrim {old s : State} (hs : old.Leads s) (h : Nat) : old.Leads (s.derateTrim h) :=
  (((hs.setTrim ..).incF ..).fields ..).derated ..

theorem State.Leads.derateClock {old s : State} (hs : old.Leads s) : old.Leads s.derateClock :=
  (hs.exhaust ..).ite _ (((((hs.setStep ..).incF ..).incF ..).event ..).derated ..)

theorem State.Leads.clockMargin {old s : State} (hs : old.Leads s) (ro : List Nat) : old.Leads (s.clockMargin ro) :=
  hs.ite _ ((hs.roTake ..).ite _ (((hs.roTake ..).each _ _ fun _ _ hu => hu.derateTrim ..).when _ _ fun _ hu => hu.derateClock ..))

theorem State.Leads.boardMargin {old s : State} (hs : old.Leads s) (m first : Nat) (rises : List Int) :
    old.Leads (s.boardMargin m first rises) := by
  unfold State.boardMargin
  split
  · exact hs
  · split
    · exact (hs.setValue ..).setF ..
    · exact hs

theorem State.Leads.shuntDrift {old s : State} (hs : old.Leads s) : old.Leads s.shuntDrift := ((hs.boardMargin ..).setBudget ..).ite _ hs

theorem State.Leads.fetTake {old s : State} (hs : old.Leads s) (b : Nat) (rds : List (Option Nat)) : old.Leads (s.fetTake b rds) :=
  (hs.fields ..).ite _ (((((hs.fields ..).fields ..).setValue ..).when _ _ fun _ hu => hu.setF ..).setBudget ..)

theorem State.Leads.fetMeasure {old s : State} (hs : old.Leads s) (b : Nat) (fets : List (Option (Nat × Int))) :
    old.Leads (s.fetMeasure b fets) :=
  hs.ite _ (hs.fetTake ..)

theorem State.Leads.ageBases {old s : State} (hs : old.Leads s) : old.Leads s.ageBases := hs.each _ _ fun _ _ hu => hu.setF ..

theorem State.Leads.crystalDrift {old s : State} (hs : old.Leads s) (dev : Int) : old.Leads (s.crystalDrift dev) :=
  ((((hs.fields ..).setReg ..).setValue ..).setBudget ..).ite _ hs

/-! ### Ash record (Machine/Ash.lean) -/

theorem State.Leads.mramWrite {old s : State} (hs : old.Leads s) (a : Nat) (bs : List Byte) : old.Leads (s.mramWrite a bs) := by
  refine hs.trans ⟨rfl, ?_, fun ho => ⟨.refl _, ho⟩, id⟩
  rintro ⟨hr, ht, hm, hf⟩
  exact ⟨hr, ht, Mem.write_wf _ _ _ _ hm, hf⟩

theorem State.Leads.setTail {old s : State} (hs : old.Leads s) (a : Nat) : old.Leads (s.setTail a) := ((hs.setF ..).setF ..).setFlag ..

theorem State.Leads.windowDone {old s : State} (hs : old.Leads s) : old.Leads s.windowDone :=
  (((hs.fields ..).setFlag ..).setFlag ..).setFlag ..

/-- A life-cycle change in hand may be dropped, or taken up where it leads forward. -/
theorem State.Leads.lcTarget {old s : State} (hs : old.Leads s) (a : Ash) (hf : ∀ t, a.lcTarget = some t → s.otp.lifecycle < t) :
    old.Leads { s with ash := a } :=
  hs.trans ⟨rfl, id, fun ho => ⟨.refl _, hf, ho.2⟩, id⟩

theorem State.Leads.ashGone {old s : State} (hs : old.Leads s) (r : AshReq) : old.Leads (s.ashGone r) := by
  unfold State.ashGone
  have h1 : old.Leads (s.when (decide (r.type = 4)) State.windowDone) := hs.when _ _ fun _ hu => hu.windowDone ..
  exact .ite (.setFlag (h1.lcTarget _ fun _ ht => by cases ht) ..) _ h1

theorem State.Leads.ashFail {old s : State} (hs : old.Leads s) : old.Leads s.ashFail := hs.ite _ (((hs.hidden ..).event ..).raise ..)

theorem State.Leads.ashCommitted {old s : State} (hs : old.Leads s) (r : AshReq) (a seq us : Nat) : old.Leads (s.ashCommitted r a seq us) :=
  (((((((((((((((hs.mramWrite ..).setTail ..).setF ..).setF ..).incF ..).incF ..).pushLog ..).setReg ..).setF ..).setF ..).setF ..).incF
    ..).when _ _ fun _ hu => hu.incF ..).hidden ..).windowDone ..).ite _ ((((((((((hs.mramWrite ..).setTail ..).setF ..).setF ..).incF
    ..).incF ..).pushLog ..).setReg ..).hidden ..).ite _ ((((((((hs.mramWrite ..).setTail ..).setF ..).setF ..).incF ..).incF ..).pushLog
    ..).setReg ..))

theorem State.Leads.ashAppend {old s : State} (hs : old.Leads s) (ok1 ok2 : Bool) (us : Nat) : old.Leads (s.ashAppend ok1 ok2 us) := by
  unfold State.ashAppend
  dsimp only
  split
  · exact hs
  · exact hs.ite _ (((hs.hidden ..).ashGone ..).ite _ ((((hs.hidden ..).ashFail ..).ashGone ..).ite _ ((((hs.hidden ..).when _ _ fun _ hu
      => ((hu.incF ..).event ..).raise ..).ashGone ..).ite _ ((((hs.hidden ..).mramWrite ..).ashCommitted ..).ite _ ((((((((hs.hidden
      ..).mramWrite ..).setTail ..).incF ..).event ..).when _ _ fun _ hu => ((hu.incF ..).event ..).raise ..).ashGone ..).ite _
      ((((((((hs.hidden ..).mramWrite ..).setTail ..).incF ..).event ..).mramWrite ..).ashCommitted ..).ite _ (((((((((hs.hidden
      ..).mramWrite ..).setTail ..).incF ..).event ..).mramWrite ..).setFlag ..).ashFail ..).ashGone ..)))))))

theorem State.Leads.ashTear {old s : State} (hs : old.Leads s) : old.Leads s.ashTear := by
  unfold State.ashTear
  split
  · exact hs
  · exact (hs.mramWrite ..).ite _ hs

/-! ### Commands of the fault collector (Machine/FaultCommands.lean) -/

theorem State.Leads.faultRaise {old s : State} (hs : old.Leads s) (source : Nat) (lasting : Bool) (us : Nat) :
    old.Leads (s.faultRaise source lasting us) :=
  hs.ite _ ((hs.levelTimed ..).ite _ (hs.raiseTimed ..))

theorem State.Leads.wireFault {old s : State} (hs : old.Leads s) (source : Nat) (disagrees : Bool) :
    old.Leads (s.wireFault source disagrees) :=
  hs.ite _ ((hs.ite _ ((((((hs.fields ..).incF ..).event ..).raise ..).when _ _ fun _ hu => hu.doRaise ..).firstFatal ..)).ite _
    ((hs.fields ..).settle ..))

theorem State.Leads.forceOne {old s : State} (hs : old.Leads s) (n : Nat) : old.Leads (s.forceOne n) :=
  hs.ite _ ((((((hs.fields ..).setF ..).setActive ..).incF ..).setFlag ..).setFlag ..)

theorem State.Leads.fltForce {old s : State} (hs : old.Leads s) (w mask : Nat) : old.Leads (s.fltForce w mask) :=
  hs.ite _ ((hs.each _ _ fun _ _ hu => hu.forceOne ..).ite _ (hs.lockedWrite ..))

theorem State.Leads.forcePulseEnd {old s : State} (hs : old.Leads s) (n : Nat) (real : Bool) : old.Leads (s.forcePulseEnd n real) :=
  hs.ite _ (((((hs.fields ..).setFlag ..).doRaise ..).settle ..).ite _ (((hs.fields ..).setFlag ..).setActive ..))

/-! ### Journal and replay (Machine/Journal.lean) -/

theorem State.Leads.carryPut {old s : State} (hs : old.Leads s) (c : Carry) (x : Word × Bool) : old.Leads (s.carryPut c x) := by
  unfold State.carryPut
  dsimp only
  split
  · exact hs.setSig ..
  · exact hs.setInst ..

theorem State.Leads.ringWrite {old s : State} (hs : old.Leads s) (off : Nat) (bs : List Byte) : old.Leads (s.ringWrite off bs) :=
  hs.tiles _ fun h => Mem.write_wf _ _ _ _ (Mem.write_wf _ _ _ _ h)

theorem State.Leads.refreshRing {old s : State} (hs : old.Leads s) (head : Nat) : old.Leads (s.refreshRing head) :=
  ((hs.setF ..).setF ..).setF ..

theorem State.Leads.ringPush {old s : State} (hs : old.Leads s) (ckpt : Bool) (sc : Nat) (bs : List Byte) :
    old.Leads (s.ringPush ckpt sc bs) :=
  ((hs.fields ..).ringWrite ..).refreshRing ..

theorem State.Leads.checkpoint {old s : State} (hs : old.Leads s) (sc : Nat) : old.Leads (s.checkpoint sc) :=
  hs.ite _ ((hs.ringPush ..).incF ..)

theorem State.Leads.checkpointDue {old s : State} (hs : old.Leads s) : old.Leads s.checkpointDue := by
  unfold State.checkpointDue
  split
  · exact (hs.checkpoint ..).ite _ hs
  · exact hs

theorem State.Leads.freshWords {old s : State} (hs : old.Leads s) (n : Nat) : old.Leads (s.freshWords n).2 := by
  induction n generalizing s with
  | zero => exact hs
  | succ n ih => exact ih (hs.fresh ..)

theorem State.Leads.journalEntry {old s : State} (hs : old.Leads s) (sc : Nat) : old.Leads (s.journalEntry sc) := by
  unfold State.journalEntry
  dsimp only
  split
  · exact hs
  · refine .fields (.when (.when (.addF (.addF (.addF (.addF (.incF (.ringPush
      ?_ ..) ..) ..) ..) ..) ..) _ _ fun _ hu => hu.event ..) _ _ fun _ hu => hu.event ..) ..
    split
    · exact hs.freshWords ..
    · exact hs

theorem State.Leads.journalStart {old s : State} (hs : old.Leads s) : old.Leads s.journalStart := by
  unfold State.journalStart
  split
  · exact ((hs.setFlag ..).checkpoint ..).ite _ hs
  · exact hs

theorem State.Leads.freeze {old s : State} (hs : old.Leads s) : old.Leads s.freeze :=
  ((((hs.setFlag ..).setFlag ..).setFlag ..).incF ..).event ..

theorem State.Leads.journalFreeze {old s : State} (hs : old.Leads s) : old.Leads s.journalFreeze := ((hs.freeze ..).ashRequest ..).ite _ hs

theorem State.Leads.holdupCheck {old s : State} (hs : old.Leads s) (mv : Nat) : old.Leads (s.holdupCheck mv) :=
  ((((((hs.setF ..).setF ..).setF ..).setFlag ..).ite _ ((((((hs.setF ..).setF ..).setF ..).setFlag ..).event ..).raiseLevel ..)).ite _
    (((((hs.setF ..).setF ..).setF ..).setFlag ..).clearLevel ..)).ite _ hs

theorem State.Leads.powerFail {old s : State} (hs : old.Leads s) : old.Leads s.powerFail := by
  unfold State.powerFail
  dsimp only
  refine .hidden ?_ ..
  split
  · exact (((((((((hs.when _ _ fun _ hu => hu.freeze ..).logTrigger ..).setF ..).setF ..).setF ..).incF ..).event ..).setFlag ..).event
      ..).when _ _ fun _ hu => hu.ashTear ..
  · exact ((((((((hs.when _ _ fun _ hu => hu.freeze ..).logTrigger ..).setF ..).setF ..).setF ..).incF ..).event ..).setFlag ..).event ..

theorem State.ashTear_sys (s : State) : s.ashTear.sys = s.sys := by
  unfold State.ashTear
  split
  · rfl
  · split <;> rfl

/-- A supply that goes leaves the die off, or on hold-up energy, without VSUP (R58, R493). -/
theorem State.Leads.unpowered {old s : State} (hs : old.Leads s) (y : Sys) (e : Ember) (a : Ash) (hv : old.SupplySound → y.vsup = false)
    (ha : a.lcTarget = s.ash.lcTarget) : old.Leads { s with sys := y, ember := e, ash := a } where
  pending := hs.pending
  mem := hs.mem
  otp ho := ⟨(hs.otp ho).1, fun t ht => (hs.otp ho).2.1 t (ha.symm.trans ht), (hs.otp ho).2.2⟩
  supply ho _ := hv ho

theorem State.Leads.vsupLoss {old s : State} (hs : old.Leads s) : old.Leads s.vsupLoss := by
  unfold State.vsupLoss
  refine hs.ite _ (.ite (hs.unpowered _ _ _ (fun _ => rfl) rfl) _ (.ite ((hs.ashTear ..).unpowered _ _ _ (fun _ => rfl) rfl) _ ?_))
  refine .unpowered (.when (.enterMode (.when (.each hs _ _ fun _ _ hu => hu.domVote ..) _ _ fun _ hu => hu.powerFail ..) ..) _ _
    fun _ hu => hu.ashRequest ..) _ _ _ (fun _ => rfl) rfl

theorem State.Leads.holdupRelease {old s : State} (hs : old.Leads s) : old.Leads s.holdupRelease := by
  unfold State.holdupRelease
  split
  next hp =>
    refine .unpowered (.setFlag (.each (hs.ashTear ..) _ _ fun _ _ hu => hu.putVote ..) ..) _ _ _ (fun ho => ?_) rfl
    rw [State.setFlag_sys, State.each_sys _ _ _ fun u d => State.putVote_sys u d 6 false, State.ashTear_sys]
    exact hs.supply ho (.inr hp)
  · exact hs

theorem State.Leads.poolWrite {old s : State} (hs : old.Leads s) : old.Leads s.poolWrite :=
  hs.each _ _ fun _ _ hu => hu.tiles _ (Mem.write_wf _ _ _ _)

theorem State.Leads.loadRing {old s : State} (hs : old.Leads s) (body : List Byte) : old.Leads (s.loadRing body) :=
  (((hs.tiles _ (Mem.filter_wf 0 _ _)).fields ..).ringWrite ..).refreshRing ..

theorem State.Leads.placeCheckpoint {old s : State} (hs : old.Leads s) (bs : List Byte) : old.Leads (s.placeCheckpoint bs) :=
  ((hs.fields ..).each _ _ fun _ _ hu => hu.carryPut ..).each _ _ fun _ _ hu => hu.setInst ..

theorem State.Leads.replayResult {old s : State} (hs : old.Leads s) (r : Nat) : old.Leads (s.replayResult r) := hs.setF ..

theorem State.Leads.replayStart {old s : State} (hs : old.Leads s) (body : List Byte) : old.Leads (s.replayStart body) := by
  unfold State.replayStart
  dsimp only
  split
  · exact ((((((((((((((hs.loadRing ..).setF ..).replayResult ..).setF ..).setReg ..).setReg ..).incF ..).setReg ..).setReg ..).setReg
      ..).each _ _ fun _ _ hu => hu.setReg ..).setFlag ..).enterMode ..).fields ..).placeCheckpoint ..
  · exact (((((((((((((hs.loadRing ..).setF ..).replayResult ..).setF ..).setReg ..).setReg ..).incF ..).setReg ..).setReg ..).setReg
      ..).each _ _ fun _ _ hu => hu.setReg ..).setFlag ..).enterMode ..).fields ..

theorem State.Leads.jrnReplayCmd {old s : State} (hs : old.Leads s) (key : Nat) : old.Leads (s.jrnReplayCmd key) := by
  unfold State.jrnReplayCmd
  dsimp only
  split
  · exact hs
  · split
    · exact hs.lockedWrite ..
    · split
      · exact hs
      · split
        · exact hs.replayResult ..
        · split
          · exact hs.replayResult ..
          · exact (hs.replayResult ..).ite _ (hs.replayStart ..)

theorem State.Leads.replayDiffers {old s : State} (hs : old.Leads s) (ckpt : Bool) (sc own rec : Nat) :
    old.Leads (s.replayDiffers ckpt sc own rec) :=
  (((hs.incF ..).event ..).when _ _ fun _ hu => hu.setReg ..).ite _ (((((((hs.incF ..).event ..).when _ _ fun _ hu => hu.setReg ..).fields
    ..).setF ..).setF ..).setF ..)

theorem State.Leads.replayCompare {old s : State} (hs : old.Leads s) (sc : Nat) : old.Leads (s.replayCompare sc) :=
  hs.ite _ (((hs.incF ..).ite _ (((hs.setF ..).event ..).ite _ (hs.replayDiffers ..))).fields ..)

theorem State.Leads.replayCheckpoint {old s : State} (hs : old.Leads s) (bs : List Byte) : old.Leads (s.replayCheckpoint bs) :=
  (hs.incF ..).ite _ (((hs.fresh ..).fresh ..).replayDiffers ..)

theorem State.Leads.replayEnd {old s : State} (hs : old.Leads s) (r : Nat) : old.Leads (s.replayEnd r) :=
  ((((hs.poolWrite ..).replayResult ..).setFlag ..).fields ..).enterMode ..

theorem State.Leads.replayNext {old s : State} (hs : old.Leads s) (prev : Nat) : old.Leads (s.replayNext prev) := by
  unfold State.replayNext
  dsimp only
  split
  · exact (hs.each _ _ fun _ _ hu => hu.replayCheckpoint ..).replayEnd ..
  · exact (((hs.each _ _ fun _ _ hu => hu.replayCheckpoint ..).fields ..).setF ..).setFlag ..

theorem State.Leads.memberPut {old s : State} (hs : old.Leads s) (m : Member) (x : Word × Bool) : old.Leads (s.memberPut m x) := by
  unfold State.memberPut
  dsimp only
  split
  · exact hs.fields ..
  · exact hs.setSig ..

theorem State.Leads.replayTick {old s : State} (hs : old.Leads s) (j : Nat) : old.Leads (s.replayTick j) :=
  ((hs.each _ _ fun _ _ hu => hu.memberPut ..).each _ _ fun _ _ hu => hu.memberPut ..).ite _ (hs.each _ _ fun _ _ hu => hu.memberPut ..)

theorem State.Leads.sampleSets {old s : State} (hs : old.Leads s) (j : Nat) : old.Leads (s.sampleSets j) := hs.fields ..
theorem State.Leads.readSets {old s : State} (hs : old.Leads s) : old.Leads s.readSets := hs.fields ..
theorem State.Leads.sampleTaps {old s : State} (hs : old.Leads s) : old.Leads s.sampleTaps := hs.fields ..

/-! ### Supplies, clocks and wake-up (Machine/Power.lean) -/

theorem State.Leads.rtcRun {old s : State} (hs : old.Leads s) (n : Nat) : old.Leads (s.rtcRun n) := (hs.fields ..).ite _ hs
theorem State.Leads.armAlarm {old s : State} (hs : old.Leads s) : old.Leads s.armAlarm := hs.fields ..
theorem State.Leads.snapshot {old s : State} (hs : old.Leads s) : old.Leads s.snapshot := hs.fields ..

theorem State.Leads.snapshotDue {old s : State} (hs : old.Leads s) (elapsed : Nat) : old.Leads (s.snapshotDue elapsed) :=
  ((hs.rtcRun ..).snapshot ..).ite _ (hs.rtcRun ..)

theorem State.Leads.wakeTime {old s : State} (hs : old.Leads s) (valid : Bool) : old.Leads (s.wakeTime valid) :=
  (((((hs.setReg ..).setF ..).setReg ..).setFlag ..).setFlag ..).alignTick ..

theorem State.Leads.vsupValid {old s : State} (hs : old.Leads s) (elapsed : Nat) : old.Leads (s.vsupValid elapsed) := by
  unfold State.vsupValid
  refine hs.ite _ ?_
  have h1 : old.Leads (s.rtcRun elapsed) := hs.rtcRun ..
  refine .setFlag (.setFlag (.wakeTime (.of_reset _ ?_ ?_ ?_) ..) ..) ..
  · rw [State.when_pending]
    exact (ite_self _).trans h1.pending
  · intro ho
    cases s.ember.waking <;> exact h1.mem ho
  · intro ho
    cases s.ember.waking <;> exact ⟨(h1.otp ho).1, (h1.otp ho).2.2⟩

theorem State.Leads.pinReset {old s : State} (hs : old.Leads s) (same : Bool) : old.Leads (s.pinReset same) := hs.resetBy ..
theorem State.Leads.coreUnderVoltage {old s : State} (hs : old.Leads s) (same : Bool) : old.Leads (s.coreUnderVoltage same) := hs.resetBy ..

theorem State.Leads.dormantRelease {old s : State} (hs : old.Leads s) (elapsed : Nat) (alarmFires : Bool) :
    old.Leads (s.dormantRelease elapsed alarmFires) :=
  (((((((hs.rtcRun ..).fields ..).domRefuse ..).incF ..).event ..).setFlag ..).ite _ (((((hs.rtcRun ..).fields ..).armAlarm ..).snapshot
    ..).fields ..)).ite _ (hs.rtcRun ..)

theorem State.Leads.rtcAlarm {old s : State} (hs : old.Leads s) (elapsed : Nat) : old.Leads (s.rtcAlarm elapsed) :=
  ((hs.rtcRun ..).fields ..).ite _ (hs.rtcRun ..)

theorem State.Leads.wakeTimeout {old s : State} (hs : old.Leads s) (elapsed : Nat) : old.Leads (s.wakeTimeout elapsed) :=
  (((hs.rtcRun ..).fields ..).armAlarm ..).ite _ (hs.rtcRun ..)

theorem State.Leads.vbatLoss {old s : State} (hs : old.Leads s) : old.Leads s.vbatLoss := hs.fields ..
theorem State.Leads.vbatApplied {old s : State} (hs : old.Leads s) : old.Leads s.vbatApplied := hs.ite _ (hs.fields ..)

theorem State.Leads.xt32Fail {old s : State} (hs : old.Leads s) (elapsed : Nat) : old.Leads (s.xt32Fail elapsed) :=
  (((hs.rtcRun ..).fields ..).when _ _ fun _ hu => ((hu.incF ..).event ..).raiseLevel ..).ite _ (hs.rtcRun ..)

theorem State.Leads.xt32Return {old s : State} (hs : old.Leads s) (elapsed : Nat) : old.Leads (s.xt32Return elapsed) :=
  (((hs.rtcRun ..).fields ..).when _ _ fun _ hu => hu.clearLevel ..).ite _ (hs.rtcRun ..)

theorem State.Leads.pllLoss {old s : State} (hs : old.Leads s) (half : Nat) (lock : Bool) (count : Nat) :
    old.Leads (s.pllLoss half lock count) :=
  hs.ite _ (((((hs.setFlag ..).incF ..).event ..).raiseLevel ..).ite _ (((hs.setF ..).setFlag ..).when _ _ fun _ hu => ((hu.incF ..).event
    ..).raiseLevel ..))

theorem State.Leads.xt25Fail {old s : State} (hs : old.Leads s) (count : Nat) : old.Leads (s.xt25Fail count) :=
  (((((hs.setF ..).setFlag ..).incF ..).event ..).raiseLevel ..).ite _ hs

theorem State.Leads.vsupUv {old s : State} (hs : old.Leads s) : old.Leads s.vsupUv := (((hs.incF ..).event ..).raiseLevel ..).ite _ hs
theorem State.Leads.vsupOv {old s : State} (hs : old.Leads s) : old.Leads s.vsupOv := (((hs.incF ..).event ..).raiseLevel ..).ite _ hs
theorem State.Leads.vgdFault {old s : State} (hs : old.Leads s) : old.Leads s.vgdFault := (((hs.incF ..).setFlag ..).raiseLevel ..).ite _ hs
theorem State.Leads.vbatLow {old s : State} (hs : old.Leads s) : old.Leads s.vbatLow := ((hs.event ..).raiseLevel ..).ite _ hs

theorem State.Leads.supplyClear {old s : State} (hs : old.Leads s) (source : Nat) : old.Leads (s.supplyClear source) :=
  hs.ite _ (((((hs.hidden ..).ite _ hs).clearLevel ..).when _ _ fun _ hu => hu.setFlag ..).ite _ ((hs.hidden ..).ite _ hs))

theorem State.Leads.tempOne {old s : State} (hs : old.Leads s) (t v : Nat) : old.Leads (s.tempOne t v) :=
  (hs.ite _ (((hs.incF ..).event ..).raiseLevel ..)).ite _ ((hs.clearLevel ..).ite _ hs)

theorem State.Leads.tempConverts {old s : State} (hs : old.Leads s) : old.Leads s.tempConverts :=
  (hs.each _ _ fun _ _ hu => hu.setF ..).fields ..

theorem State.Leads.tempConversion {old s : State} (hs : old.Leads s) (north south power : Nat) :
    old.Leads (s.tempConversion north south power) :=
  (((((((hs.setF ..).setF ..).setF ..).tempConverts ..).tempOne ..).tempOne ..).tempOne ..).ite _ hs

theorem State.Leads.domGone {old s : State} (hs : old.Leads s) (d : Nat) : old.Leads (s.domGone d) := by
  unfold State.domGone
  dsimp only
  split
  · exact (((hs.domLogic ..).setFlag ..).setFlag ..).setFlag ..
  · exact ((hs.domLogic ..).each _ _ fun _ _ hu => hu.setFlag ..).refreshNet ..
  · exact (hs.domLogic ..).refreshNet ..
  · exact (((hs.domLogic ..).fields ..).each _ _ fun _ _ hu => hu.refreshSupply ..).refreshPower ..
  · exact hs.domLogic ..

theorem State.Leads.domLost {old s : State} (hs : old.Leads s) (d : Nat) : old.Leads (s.domLost d) :=
  (((((((hs.setDomState ..).setDom ..).domGone ..).incF ..).event ..).raise ..).retireCluster ..).ite _ ((((((((hs.setDomState ..).setDom
    ..).domGone ..).incF ..).event ..).raise ..).reactSafeHold ..).ite _ ((((((hs.setDomState ..).setDom ..).domGone ..).incF ..).event
    ..).raise ..))

theorem State.Leads.domUp {old s : State} (hs : old.Leads s) (fails : List (Nat × Nat × Bool)) (d : Nat) : old.Leads (s.domUp fails d) := by
  unfold State.domUp
  dsimp only
  split
  · exact (((hs.putVote ..).setDomState ..).setDom ..).setF ..
  · exact ((((hs.putVote ..).domAbort ..).setF ..).domLost ..).ite _ (((((hs.putVote ..).domAbort ..).setDomState ..).setDom ..).setF ..)

theorem State.Leads.domTimeout {old s : State} (hs : old.Leads s) (d : Nat) : old.Leads (s.domTimeout d) :=
  hs.ite _ (((((hs.domRefuse ..).setDomState ..).setDom ..).ite _ hs).ite _ ((hs.domLost ..).ite _ ((hs.domAbort ..).domRestore ..)))

/-! ### Lead and shadow (Machine/Lead.lean) -/

theorem State.Leads.logHandover {old s : State} (hs : old.Leads s) (cause was new gap : Nat) :
    old.Leads (s.logHandover cause was new gap) := by
  unfold State.logHandover
  dsimp only
  split
  · exact (((((hs.setReg ..).pushLog ..).setReg ..).event ..).when _ _ fun _ hu => hu.trigger ..).incF ..
  · exact (((((hs.setReg ..).pushLog ..).setReg ..).event ..).when _ _ fun _ hu => hu.trigger ..).incF ..
  · exact (((((hs.setReg ..).pushLog ..).setReg ..).event ..).when _ _ fun _ hu => hu.trigger ..).incF ..
  · exact ((((hs.setReg ..).pushLog ..).setReg ..).event ..).when _ _ fun _ hu => hu.trigger ..

theorem State.Leads.clearAligned {old s : State} (hs : old.Leads s) : old.Leads s.clearAligned :=
  ((((hs.fields ..).setFlag ..).incF ..).event ..).ite _ (hs.fields ..)

theorem State.Leads.depose {old s : State} (hs : old.Leads s) : old.Leads s.depose :=
  (((((((hs.fields ..).when _ _ fun _ hu => hu.incF ..).when _ _ fun _ hu => hu.clearAligned ..).fields ..).event ..).enterMode ..).ite _
    ((((((((hs.fields ..).when _ _ fun _ hu => hu.incF ..).when _ _ fun _ hu => hu.clearAligned ..).fields ..).event ..).fields
    ..).requestMode ..).ite _ (((((hs.fields ..).when _ _ fun _ hu => hu.incF ..).when _ _ fun _ hu => hu.clearAligned ..).fields ..).event
    ..))).ite _ (((hs.fields ..).when _ _ fun _ hu => hu.incF ..).when _ _ fun _ hu => hu.clearAligned ..)

theorem State.Leads.engageDue {old s : State} (hs : old.Leads s) : old.Leads s.engageDue := by
  unfold State.engageDue
  dsimp only
  split
  · exact hs.ite _ ((((hs.fields ..).fields ..).requestMode ..).ite _ (hs.fields ..))
  · exact hs

theorem State.Leads.silence {old s : State} (hs : old.Leads s) : old.Leads s.silence := by
  unfold State.silence
  dsimp only
  split
  · exact hs
  · exact ((hs.fields ..).requestMode ..).ite _ hs

theorem State.Leads.isolatedAct {old s : State} (hs : old.Leads s) : old.Leads s.isolatedAct :=
  (hs.requestMode ..).ite _ ((hs.requestMode ..).ite _ hs)

theorem State.Leads.isolation {old s : State} (hs : old.Leads s) : old.Leads s.isolation :=
  (((hs.fields ..).isolatedAct ..).ite _ (((((((hs.fields ..).fields ..).setFlag ..).incF ..).event ..).raise ..).ite _ ((((((hs.fields
    ..).fields ..).setFlag ..).incF ..).event ..).isolatedAct ..))).ite _ ((((hs.fields ..).fields ..).setFlag ..).ite _ (hs.fields ..))

theorem State.Leads.faultCount {old s : State} (hs : old.Leads s) : old.Leads s.faultCount := by
  unfold State.faultCount
  dsimp only
  split
  · exact hs.fields ..
  · split
    · exact ((((((((hs.fields ..).setFlag ..).setFlag ..).when _ _ fun _ hu => (hu.addF ..).event ..).when _ _ fun _ hu => hu.incF
        ..).fields ..).setF ..).setFlag ..).when _ _ fun _ hu => hu.setFlag ..
    · split
      · exact (((((((((hs.fields ..).setFlag ..).setFlag ..).when _ _ fun _ hu => (hu.addF ..).event ..).when _ _ fun _ hu => hu.incF
          ..).fields ..).setF ..).setFlag ..).when _ _ fun _ hu => hu.setFlag ..).requestMode ..
      · exact (((((((((hs.fields ..).setFlag ..).setFlag ..).when _ _ fun _ hu => (hu.addF ..).event ..).when _ _ fun _ hu => hu.incF
          ..).fields ..).setF ..).setFlag ..).when _ _ fun _ hu => hu.setFlag ..).when _ _ fun _ hu => hu.requestMode ..

theorem State.Leads.spStatic {old s : State} (hs : old.Leads s) : old.Leads s.spStatic := by
  unfold State.spStatic
  dsimp only
  refine hs.each _ _ fun _ _ hu => ?_
  split
  · exact (hu.spFlue ..).ite _ hu
  · exact hu.spFlue ..
  · exact hu.spFlue ..
  · exact hu

theorem State.Leads.staticEnd {old s : State} (hs : old.Leads s) : old.Leads s.staticEnd :=
  hs.ite _ (((hs.each _ _ fun _ _ hu => hu.safReceive ..).when _ _ fun _ hu => (hu.spStatic ..).depose ..).ite _ ((((((hs.each _ _ fun _ _
    hu => hu.safReceive ..).when _ _ fun _ hu => (hu.spStatic ..).depose ..).engageDue ..).silence ..).isolation ..).faultCount ..))

theorem State.Leads.election {old s : State} (hs : old.Leads s) : old.Leads s.election :=
  hs.ite _ ((hs.requestMode ..).ite _ ((hs.requestMode ..).ite _ ((hs.requestMode ..).ite _ (hs.requestMode ..))))

theorem State.Leads.joinTimeout {old s : State} (hs : old.Leads s) : old.Leads s.joinTimeout := (hs.enterMode ..).ite _ hs

theorem State.Leads.handoverTimeout {old s : State} (hs : old.Leads s) : old.Leads s.handoverTimeout :=
  (((((hs.fields ..).setFlag ..).incF ..).event ..).refreshXdis ..).ite _ hs

theorem State.Leads.isolateLimp {old s : State} (hs : old.Leads s) : old.Leads s.isolateLimp := (hs.requestMode ..).ite _ hs
theorem State.Leads.graceExpiry {old s : State} (hs : old.Leads s) : old.Leads s.graceExpiry := (hs.setFlag ..).ite _ hs
theorem State.Leads.standstillHold {old s : State} (hs : old.Leads s) : old.Leads s.standstillHold := (hs.enterMode ..).ite _ hs

/-! ### Flue frames (Machine/FlueFrames.lean) -/

theorem State.Leads.releaseHandover {old s : State} (hs : old.Leads s) (id : Nat) : old.Leads (s.releaseHandover id) :=
  (((hs.fields ..).refreshPower ..).logHandover ..).requestMode ..

theorem State.Leads.leadConflict {old s : State} (hs : old.Leads s) (id : Nat) : old.Leads (s.leadConflict id) :=
  (((((((hs.fields ..).fields ..).incF ..).event ..).logHandover ..).raise ..).refreshXdis ..).ite _ (hs.fields ..)

theorem State.Leads.takeBack {old s : State} (hs : old.Leads s) (b : Nat) (insts : List InstRun) (sigs : List SigRun) :
    old.Leads (s.takeBack b insts sigs) :=
  (hs.each _ _ fun _ _ hu => (hu.each _ _ fun _ _ hu1 => ((hu1.setInst ..).each _ _ fun _ _ hu2 => hu2.setSig ..).lawShow ..).addF
    ..).fields ..

theorem State.Leads.newLead {old s : State} (hs : old.Leads s) (f : ChFrame) : old.Leads (s.newLead f) := by
  unfold State.newLead
  dsimp only
  split
  · exact hs
  · split
    · split
      · exact (((((hs.logHandover ..).fields ..).takeBack ..).fields ..).markSkipped ..).ite _ ((((hs.logHandover ..).fields ..).fields
          ..).markSkipped ..)
      · exact (((hs.logHandover ..).fields ..).fields ..).markSkipped ..
    · exact (hs.logHandover ..).fields ..

theorem State.Leads.channelFrame {old s : State} (hs : old.Leads s) (ring : Nat) (f : ChFrame) : old.Leads (s.channelFrame ring f) :=
  ((hs.fields ..).fields ..).ite _ (((hs.fields ..).ite _ (((hs.fields ..).newLead ..).fields ..)).ite _ (((hs.fields ..).ite _ ((hs.fields
    ..).releaseHandover ..)).ite _ ((hs.fields ..).ite _ ((hs.fields ..).leadConflict ..))))

theorem State.Leads.boomFrame {old s : State} (hs : old.Leads s) (n : Nat) (p : List Byte) : old.Leads (s.boomFrame n p) :=
  hs.ite _ (hs.setReg ..)

theorem State.Leads.deliver {old s : State} (hs : old.Leads s) (f : RxFrame) : old.Leads (s.deliver f) := by
  unfold State.deliver
  dsimp only
  split
  · exact hs.fields ..
  · split
    · split
      · exact ((hs.fields ..).channelFrame ..).ite _ (hs.fields ..)
      · exact hs.fields ..
    · exact ((hs.fields ..).when _ _ fun _ hu => (hu.incF ..).event ..).when _ _ fun _ hu => hu.spFlue ..

theorem State.Leads.reject {old s : State} (hs : old.Leads s) (f : RawFrame) (h : Hdr) (reason : Nat) : old.Leads (s.reject f h reason) :=
  ((hs.incF ..).setReg ..).ite _ (((hs.incF ..).setReg ..).event ..)

theorem State.Leads.syncSchedCheck {old s : State} (hs : old.Leads s) (h : Hdr) : old.Leads (s.syncSchedCheck h) := by
  unfold State.syncSchedCheck
  dsimp only
  split
  · exact hs.ite _ (hs.fields ..)
  · exact hs

theorem State.Leads.syncFrame {old s : State} (hs : old.Leads s) (f : RawFrame) (h : Hdr) (dev : Int) (accepted : Bool) :
    old.Leads (s.syncFrame f h dev accepted) :=
  ((hs.fields ..).ite _ hs).ite _ (((((hs.fields ..).ite _ hs).ite _ (((hs.fields ..).ite _ hs).fields ..)).fields ..).ite _ (((hs.fields
    ..).ite _ hs).ite _ (((hs.fields ..).ite _ hs).fields ..)))

theorem State.Leads.judgeFrame {old s : State} (hs : old.Leads s) (f : RawFrame) (h : Hdr) : old.Leads (s.judgeFrame f h) :=
  (hs.reject ..).ite _ ((hs.reject ..).ite _ (((hs.when _ _ fun _ hu => hu.syncSchedCheck ..).adopt ..).ite _ (((hs.when _ _ fun _ hu =>
    hu.syncSchedCheck ..).reject ..).ite _ ((((hs.when _ _ fun _ hu => hu.syncSchedCheck ..).when _ _ fun _ hu => hu.syncFrame ..).reject
    ..).ite _ (((((hs.when _ _ fun _ hu => hu.syncSchedCheck ..).when _ _ fun _ hu => hu.syncFrame ..).incF ..).fields ..).deliver ..)))))

theorem State.Leads.frameReceive {old s : State} (hs : old.Leads s) (f : RawFrame) : old.Leads (s.frameReceive f) :=
  hs.ite _ ((((((hs.when _ _ fun _ hu => (hu.addF ..).event ..).when _ _ fun _ hu => (hu.incF ..).event ..).fields ..).incF ..).event
    ..).ite _ ((((hs.when _ _ fun _ hu => (hu.addF ..).event ..).when _ _ fun _ hu => (hu.incF ..).event ..).fields ..).ite _ ((((hs.when _
    _ fun _ hu => (hu.addF ..).event ..).when _ _ fun _ hu => (hu.incF ..).event ..).fields ..).judgeFrame ..)))

theorem State.Leads.damperBlock {old s : State} (hs : old.Leads s) : old.Leads s.damperBlock := ((hs.incF ..).event ..).raise ..

theorem State.Leads.frameSent {old s : State} (hs : old.Leads s) (h : Hdr) (p : List Byte) : old.Leads (s.frameSent h p) := by
  unfold State.frameSent
  dsimp only
  split
  · split
    · refine .setF ?_ ..
      split
      · exact (((hs.fields ..).when _ _ fun _ hu => hu.addF ..).setF ..).ite _ ((hs.fields ..).when _ _ fun _ hu => hu.addF ..)
      · exact (hs.fields ..).when _ _ fun _ hu => hu.addF ..
    · split
      · exact (((hs.fields ..).when _ _ fun _ hu => hu.addF ..).setF ..).ite _ ((hs.fields ..).when _ _ fun _ hu => hu.addF ..)
      · exact (hs.fields ..).when _ _ fun _ hu => hu.addF ..
  · split
    · exact (((hs.fields ..).when _ _ fun _ hu => hu.addF ..).setF ..).ite _ ((hs.fields ..).when _ _ fun _ hu => hu.addF ..)
    · exact (hs.fields ..).when _ _ fun _ hu => hu.addF ..

theorem State.Leads.fwdCut {old s : State} (hs : old.Leads s) : old.Leads s.fwdCut := (hs.fresh ..).fields ..

theorem State.Leads.frameTransmit {old s : State} (hs : old.Leads s) (slot : Nat) (dev fin : Int) (passing : Bool) :
    old.Leads (s.frameTransmit slot dev fin passing) := by
  unfold State.frameTransmit
  dsimp only
  split
  · exact hs
  · split
    · exact hs
    · exact ((hs.fields ..).fields ..).ite _ (((hs.fields ..).damperBlock ..).ite _ ((((((hs.fields ..).when _ _ fun _ hu => ((hu.fwdCut
        ..).incF ..).event ..).incF ..).event ..).raise ..).ite _ (((hs.fields ..).when _ _ fun _ hu => ((hu.fwdCut ..).incF ..).event
        ..).frameSent ..)))

/-! ### Exchange between channels (Machine/Exchange.lean) -/

theorem State.Leads.applyStream {old s : State} (hs : old.Leads s) : old.Leads s.applyStream := by
  unfold State.applyStream
  dsimp only
  refine (hs.each _ _ fun _ _ hu => ?_).fields ..
  split
  · exact hu
  · refine .fields ?_ ..
    split
    · exact ((hu.when _ _ fun _ hu1 => hu1.incF ..).carryPut ..).setInst ..
    · exact (hu.when _ _ fun _ hu1 => hu1.incF ..).carryPut ..

theorem State.Leads.peerStat {old s : State} (hs : old.Leads s) (heard : List ChFrame) : old.Leads (s.peerStat heard) := by
  unfold State.peerStat
  dsimp only
  refine hs.each _ _ fun _ _ hu => ?_
  split
  · exact ((hu.setReg ..).setReg ..).setReg ..
  · exact (hu.setFlag ..).when _ _ fun _ hu1 => hu1.incF ..

theorem State.Leads.exchangeEnd {old s : State} (hs : old.Leads s) : old.Leads s.exchangeEnd :=
  (((hs.peerStat ..).xdisOkSeen ..).fields ..).setF ..

theorem State.Leads.digestMismatch {old s : State} (hs : old.Leads s) : old.Leads s.digestMismatch :=
  ((((hs.fields ..).incF ..).event ..).when _ _ fun _ hu => hu.clearAligned ..).when _ _ fun _ hu => hu.raise ..

theorem State.Leads.digestCompare {old s : State} (hs : old.Leads s) : old.Leads s.digestCompare := by
  unfold State.digestCompare
  dsimp only
  split
  · exact (hs.fields ..).ite _ ((((((hs.fields ..).setReg ..).setReg ..).setReg ..).ite _ (((((hs.fields ..).setReg ..).setReg ..).setReg
      ..).digestMismatch ..)).ite _ (((((((hs.fields ..).setReg ..).setReg ..).setReg ..).fields ..).when _ _ fun _ hu => hu.setFlag
      ..).ite _ ((((hs.fields ..).setReg ..).setReg ..).setReg ..)))
  · exact hs.fields ..

theorem State.Leads.freeBytes {old s : State} (hs : old.Leads s) (n : Nat) : old.Leads (s.freeBytes n).2 := hs.fields ..
theorem State.Leads.chFrame {old s : State} (hs : old.Leads s) : old.Leads (s.chFrame).2 := hs.fields ..

theorem State.Leads.ownRecord {old s : State} (hs : old.Leads s) : old.Leads (s.ownRecord).2 := by
  unfold State.ownRecord
  dsimp only
  split
  · exact hs.freeBytes ..
  · split
    · exact hs
    · exact hs.fields ..

theorem State.Leads.takeCmds {old s : State} (hs : old.Leads s) (n : Nat) : old.Leads (s.takeCmds n).2 := by
  unfold State.takeCmds
  dsimp only
  refine ((hs.each _ _ fun _ _ hu => ?_).fields ..).setF ..
  split
  · exact (hu.setPt ..).ite _ hu
  · exact hu

theorem State.Leads.freezeBuf {old s : State} (hs : old.Leads s) (slot : Nat) : old.Leads (s.freezeBuf slot).2 :=
  (hs.fields ..).when _ _ fun _ hu => (hu.incF ..).event ..

theorem State.Leads.freezeSlot {old s : State} (hs : old.Leads s) (stream : List Byte) (slot : Nat) :
    old.Leads (s.freezeSlot stream slot).2 := by
  unfold State.freezeSlot
  dsimp only
  split
  · exact hs.chFrame ..
  · split
    · exact hs
    · split
      · exact hs.takeCmds ..
      · exact hs.freezeBuf ..

theorem State.Leads.freezeStatic {old s : State} (hs : old.Leads s) (stream : List Byte) (slots : List Nat) :
    old.Leads (s.freezeStatic stream slots).2 := by
  induction slots generalizing s with
  | nil => exact hs
  | cons slot t ih => exact ih (hs.freezeSlot ..)

theorem State.Leads.freezeDyn {old s : State} (hs : old.Leads s) : old.Leads (s.freezeDyn).2 := by
  unfold State.freezeDyn
  dsimp only
  split
  · exact hs.takeCmds ..
  · exact hs

theorem State.Leads.dynUnused {old s : State} (hs : old.Leads s) : old.Leads s.dynUnused := hs.when _ _ fun _ hu => (hu.incF ..).event ..

theorem State.Leads.freezeFrames {old s : State} (hs : old.Leads s) : old.Leads s.freezeFrames := by
  unfold State.freezeFrames
  extract_lets slots own lds s0 flu r st s1 req low frames dy s2 flu2
  have h0 : old.Leads s0 := hs.fields ..
  have h1 : old.Leads s1 := (h0.ownRecord ..).freezeStatic ..
  have hd : old.Leads dy.2 := by
    unfold dy
    split
    · exact h1.freezeDyn ..
    · exact h1
  exact .ite (((h0.fields ..).setF ..).dynUnused ..) _ (((hd.fields ..).setF ..).dynUnused ..)

/-! ### Image registers (Machine/Image.lean) -/

theorem State.Leads.applyRegs {old s : State} (hs : old.Leads s) (l : List (Nat × Nat)) : old.Leads (s.applyRegs l) := by
  unfold State.applyRegs
  dsimp only
  refine hs.each _ _ fun _ _ hu => ?_
  split
  · exact hu.setReg ..
  · exact hu

/-! ### Self-test (Machine/SelfTest.lean) -/

theorem State.Leads.refreshDeadtime {old s : State} (hs : old.Leads s) : old.Leads s.refreshDeadtime := hs.each _ _ fun _ _ hu => hu.setF ..

theorem State.Leads.cmpTest {old s : State} (hs : old.Leads s) (k missed flagged : Nat) : old.Leads (s.cmpTest k missed flagged) :=
  (((hs.setFlag ..).setF ..).setF ..).setFlag ..

theorem State.Leads.burnBoard_of_none {old s : State} (hs : old.Leads s) (e : AbistEnv) (hb : s.otp.baseBoard = none) : old.Leads
    (s.burnBoard e) := by
  refine hs.trans ⟨rfl, id, fun ho => ⟨⟨Nat.le_refl _, List.prefix_refl _, List.prefix_refl _, fun _ h => h, rfl, fun _ _ => rfl, Nat.le_refl _,
    fun _ _ => ⟨rfl, fun _ h => h⟩, fun h => ?_, fun _ _ => rfl, rfl⟩, ho⟩, id⟩
  rw [hb] at h
  cases h

theorem State.Leads.setDtm {old s : State} (hs : old.Leads s) (m : Nat → Nat) : old.Leads (s.setDtm m) :=
  (((hs.setF ..).setF ..).setF ..).refreshDeadtime ..

theorem State.Leads.abistMargins {old s : State} (hs : old.Leads s) (e : AbistEnv) (skipped : Bool) :
    old.Leads (s.abistMargins e skipped) :=
  ((hs.boardMargin ..).setDtm ..).ite _ ((((hs.boardMargin ..).boardMargin ..).boardMargin ..).setDtm ..)

theorem State.Leads.failSelfTest {old s : State} (hs : old.Leads s) (baseline : Bool) : old.Leads (s.failSelfTest baseline) := by
  unfold State.failSelfTest
  have h1 := hs.closeMargins (fun s => s.raise Src.marginLow) (fun _ hu => hu.raise ..) baseline
  exact hs.ite _ (.ite (h1.enterMode ..) _ h1)

theorem State.Leads.passSelfTest {old s : State} (hs : old.Leads s) (baseline : Bool) : old.Leads (s.passSelfTest baseline) := by
  unfold State.passSelfTest
  have h1 := hs.closeMargins (fun s => s.raise Src.marginLow) (fun _ hu => hu.raise ..) baseline
  exact hs.ite _ (h1.ite _ (.ite (h1.enterMode ..) _ (.ite (h1.enterMode ..) _ (h1.enterMode ..))))

theorem State.Leads.lbist {old s : State} (hs : old.Leads s) (part1 part2 : Nat) : old.Leads (s.lbist part1 part2) :=
  hs.ite _ ((((hs.setFlag ..).setFlag ..).setFlag ..).ite _ ((((hs.setFlag ..).setFlag ..).setF ..).failSelfTest ..))

theorem State.Leads.testConversions {old s : State} (hs : old.Leads s) (t c : Nat) (l : List (Nat × Int)) :
    old.Leads (s.testConversions t c l) :=
  hs.each _ _ fun _ _ hu => hu.testConversion ..

theorem State.Leads.dacTest {old s : State} (hs : old.Leads s) (e : AbistEnv) : old.Leads (s.dacTest e) :=
  (((hs.each _ _ fun _ _ hu => hu.testConversions ..).setF ..).setF ..).ite _ ((((((hs.each _ _ fun _ _ hu => hu.testConversions ..).setF
    ..).setF ..).incF ..).event ..).raise ..)

theorem State.Leads.gateTest {old s : State} (hs : old.Leads s) (e : AbistEnv) : old.Leads (s.gateTest e) :=
  ((hs.each _ _ fun _ _ hu => hu.setF ..).setF ..).each _ _ fun _ _ hu => hu.raiseHold ..

theorem State.Leads.refTest {old s : State} (hs : old.Leads s) (e : AbistEnv) : old.Leads (s.refTest e) :=
  (hs.each _ _ fun _ _ hu => hu.refOne ..).each _ _ fun _ _ hu => hu.testConversions ..

theorem State.Leads.boardTest {old s : State} (hs : old.Leads s) (e : AbistEnv) : old.Leads (s.boardTest e) :=
  ((hs.setFlag ..).ite _ (hs.gateTest ..)).each _ _ fun _ _ hu => hu.testConversions ..

theorem State.Leads.analogueBist {old s : State} (hs : old.Leads s) (e : AbistEnv) : old.Leads (s.analogueBist e) := by
  unfold State.analogueBist
  extract_lets s1 s2 skipped stuck burn s3
  have h1 : old.Leads s1 := (hs.refTest ..).dacTest ..
  have h2 : old.Leads s2 := h1.boardTest ..
  have h3 : old.Leads s3 := by
    refine .abistMargins ?_ ..
    rcases State.when_cases s2 burn fun s => s.burnBoard e with ⟨hb, hw⟩ | ⟨-, hw⟩
    · rw [hw]
      simp only [burn, Bool.and_eq_true, Option.isNone_iff_eq_none] at hb
      exact h2.burnBoard_of_none e hb.2
    · rw [hw]
      exact h2
  exact hs.ite _ (h1.ite _ (h2.ite _ (.ite (h3.failSelfTest ..) _ ((h3.setFlag ..).passSelfTest ..))))

/-! ### LOAD (Machine/Load.lean) -/

/-- A record of a sighting in canonical words: its key and its SEEN fuses read back. -/
theorem keyOf_sightWord (seen w : Nat) (hs : seen < 8) :
    keyOf (2 ^ 31 + seen * 2 ^ 28 + keyOf w) = keyOf w ∧ sightSeen (2 ^ 31 + seen * 2 ^ 28 + keyOf w) = seen := by
  unfold keyOf sightSeen
  omega

/-- The SEEN fuses of a record (R513): three bits. -/
theorem bit_lt_three {seen b : Nat} (hs : seen < 8) (hb : bit seen b = true) : b < 3 := by
  by_contra hge
  have hle : 2 ^ 3 ≤ 2 ^ b := Nat.pow_le_pow_right (by decide) (by omega)
  simp [bit, Nat.div_eq_of_lt (show seen < 2 ^ b by omega)] at hb

theorem bit_seven_of_bit {seen b : Nat} (hs : seen < 8) (hb : bit seen b = true) : bit 7 b = true := by
  have hlt := bit_lt_three hs hb
  interval_cases b <;> rfl

theorem bit_three_of_bit_one {b : Nat} (hb : bit 1 b = true) : bit 3 b = true := by
  have hlt := bit_lt_three (by decide) hb
  have hall : ∀ b < 3, bit 1 b = true → bit 3 b = true := by decide
  exact hall b hlt hb

/-- New sightings: a record keeps its key and its blown SEEN fuses, and none goes. -/
theorem State.Leads.sights {old s : State} (hs : old.Leads s) (l : List Nat) (hl : s.otp.sights.length ≤ l.length)
    (hk : ∀ k, k < s.otp.sights.length → keyOf (l.getD k 0) = keyOf (s.otp.sights.getD k 0) ∧
      ∀ b, bit (sightSeen (s.otp.sights.getD k 0)) b = true → bit (sightSeen (l.getD k 0)) b = true) :
    old.Leads { s with otp := { s.otp with sights := l } } :=
  hs.trans ⟨rfl, id, fun ho => ⟨⟨Nat.le_refl _, List.prefix_refl _, List.prefix_refl _, fun _ h => h, rfl, fun _ _ => rfl, hl, hk,
    fun _ => rfl, fun _ _ => rfl, rfl⟩, ho⟩, id⟩

/-- A record found takes more SEEN fuses. -/
theorem State.Leads.sightMore {old s : State} (hs : old.Leads s) (i key seen : Nat) (hlt : i < s.otp.sights.length)
    (hkey : keyOf (s.otp.sights.getD i 0) = key) (hseen : seen < 8)
    (hb : ∀ b, bit (sightSeen (s.otp.sights.getD i 0)) b = true → bit seen b = true) :
    old.Leads { s with otp := { s.otp with sights := s.otp.sights.set i (2 ^ 31 + seen * 2 ^ 28 + key) } } := by
  subst hkey
  obtain ⟨hk1, hs1⟩ := keyOf_sightWord seen (s.otp.sights.getD i 0) hseen
  refine hs.sights _ (by simp) fun k hk => ?_
  by_cases hik : i = k
  · subst hik
    rw [List.getD_eq_getElem (List.set _ _ _) _ (by simpa using hlt), List.getElem_set_self, hk1, hs1]
    exact ⟨rfl, hb⟩
  · rw [List.getD_eq_getElem?_getD, List.getElem?_set_ne hik, ← List.getD_eq_getElem?_getD]
    exact ⟨rfl, fun _ h => h⟩

theorem State.Leads.sight {old s : State} (hs : old.Leads s) (key : Nat) : old.Leads (s.sight key).1 := by
  unfold State.sight
  split
  next i hi =>
    obtain ⟨hlt, hkey, -⟩ := List.findIdx?_eq_some_iff_getElem.1 hi
    have hkey : keyOf (s.otp.sights.getD i 0) = key := by
      rw [List.getD_eq_getElem _ _ hlt]
      exact of_decide_eq_true hkey
    have hseen : sightSeen (s.otp.sights.getD i 0) < 8 := Nat.mod_lt _ (by decide)
    refine hs.sightMore i key _ hlt hkey ?_ fun b hb => ?_
    · split <;> decide
    · split
      next h1 => exact bit_three_of_bit_one (h1 ▸ hb)
      · exact bit_seven_of_bit hseen hb
  · dsimp only
    split
    · refine hs.sights _ (by simp) fun k hk => ?_
      rw [List.getD_append _ _ _ _ hk]
      exact ⟨rfl, fun _ h => h⟩
    · exact hs.incF ..

theorem State.Leads.burnedSpare {old s : State} (hs : old.Leads s) (b : Nat) : old.Leads (s.burnedSpare b) := by
  unfold State.burnedSpare
  dsimp only
  split
  · exact (hs.hidden ..).setF ..
  · exact hs.hidden ..

theorem State.Leads.lostTile {old s : State} (hs : old.Leads s) (t : Nat) : old.Leads (s.lostTile t) := by
  unfold State.lostTile
  dsimp only
  split
  · exact hs.retireCluster ..
  · exact hs.fields ..
  · exact hs

theorem Mbist.tile_leads {old : State} {m : Mbist} (hm : old.Leads m.s) (bad : List Nat) (x : Nat × List Nat) : old.Leads
    (m.tile bad x).s := by
  unfold Mbist.tile
  dsimp only
  split
  · exact hm
  · split
    · exact hm
    · split
      · exact hm.useSpare ..
      · exact hm

theorem Mbist.foldl_tile_leads {old : State} (bad : List Nat) (l : List (Nat × List Nat)) {m : Mbist} (hm : old.Leads m.s) :
    old.Leads (l.foldl (fun m x => m.tile bad x) m).s := by
  induction l generalizing m with
  | nil => exact hm
  | cons x l ih => exact ih (hm := Mbist.tile_leads hm bad x)

theorem State.Leads.mbist {old s : State} (hs : old.Leads s) (e : LoadEnv) : old.Leads (s.mbist e).s := by
  unfold State.mbist
  extract_lets s0 m burned swapped fixed ms sys s1 s2 s3 p s4
  have h0 : old.Leads s0 := hs.each _ _ fun _ _ hu => hu.burnedSpare ..
  have hm : old.Leads m.s := Mbist.foldl_tile_leads e.badSpares e.failRows (m := ⟨s0, [], [], []⟩) h0
  have h1 : old.Leads s1 := (((hm.hidden ..).setF ..).setF ..).setF ..
  have h3 : old.Leads s3 := .each (.when (h1.setFlag ..) _ _ fun _ hu => hu.event ..) _ _ fun _ _ hu => hu.lostTile ..
  have hp : old.Leads p.1 := by
    refine .foldl_fst _ _ (fun _ _ hu => ?_) _ h3
    exact hu.sight ..
  exact hp.when _ _ fun _ hu => ((hu.event ..).raise ..).ashRequest ..

theorem State.Leads.ashTail {old s : State} (hs : old.Leads s) (size : Nat) : old.Leads (s.ashTail size) :=
  (((hs.setTail ..).setF ..).setF ..).when _ _ fun _ hu => (hu.incF ..).event ..

theorem State.Leads.ashFind {old s : State} (hs : old.Leads s) (m : Option (Nat × Nat)) : old.Leads (s.ashFind m) := by
  unfold State.ashFind
  dsimp only
  split
  · exact hs.setFlag ..
  · exact ((hs.setF ..).setFlag ..).ite _ (((((((((hs.setF ..).when _ _ fun _ hu => hu.mramWrite ..).setF ..).setFlag ..).setFlag
      ..).setFlag ..).when _ _ fun _ hu => (hu.setF ..).setF ..).setTail ..).ite _ ((((((((hs.setF ..).when _ _ fun _ hu => hu.mramWrite
      ..).setF ..).setFlag ..).setFlag ..).setFlag ..).when _ _ fun _ hu => (hu.setF ..).setF ..).ashTail ..))

theorem State.Leads.holdupLoad {old s : State} (hs : old.Leads s) (e : LoadEnv) : old.Leads (s.holdupLoad e) :=
  (((hs.setF ..).fresh ..).setF ..).ite _ ((hs.setF ..).setF ..)

theorem State.Leads.loadRecord {old s : State} (hs : old.Leads s) : old.Leads s.loadRecord := hs.ashRequest ..

theorem State.Leads.retireTile {old s : State} (hs : old.Leads s) (bad : List Nat) (t : Nat) : old.Leads (s.retireTile bad t) :=
  hs.ite _ ((hs.useSpare ..).incF ..)

theorem State.Leads.burnFet {old s : State} (hs : old.Leads s) : old.Leads s.burnFet := by
  refine hs.trans ⟨rfl, id, fun ho => ⟨⟨Nat.le_refl _, List.prefix_refl _, List.prefix_refl _, fun _ h => h, rfl, fun _ _ => rfl,
    Nat.le_refl _, fun _ _ => ⟨rfl, fun _ h => h⟩, fun _ => rfl, fun k hk => ?_, rfl⟩, ho⟩, id⟩
  by_cases hlt : k < s.otp.baseFet.length
  · rw [List.getD_eq_getElem _ _ hlt] at hk
    simp [State.burnFet, hlt, hk]
  · exact absurd (List.getD_eq_default _ _ (Nat.le_of_not_lt hlt)) hk

theorem State.Leads.replan {old s : State} (hs : old.Leads s) (e : LoadEnv) (rows : List (Nat × Nat)) : old.Leads (s.replan e rows) :=
  (((((((((((hs.roTake ..).incF ..).each _ _ fun _ _ hu => hu.setTrim ..).setStep ..).setF ..).when _ _ fun _ hu => hu.exhaust ..).setF
    ..).setF ..).setFlag ..).each _ _ fun _ _ hu => hu.retireTile ..).setValue ..).burnFet ..

theorem State.Leads.showResult {old s : State} (hs : old.Leads s) (k : Nat) (r : Option Fail) : old.Leads (s.showResult k r) := by
  unfold State.showResult
  split
  · exact ((hs.setF ..).setF ..).setF ..
  · exact (hs.setF ..).setF ..

theorem State.Leads.showFlash {old s : State} (hs : old.Leads s) (e : LoadEnv) (k : Nat) : old.Leads (s.showFlash e k) := by
  unfold State.showFlash
  extract_lets x read
  exact .when (.when hs _ _ fun _ hu => hu.setF ..) _ _ fun _ hu => hu.setF ..

theorem State.Leads.checkSlot {old s : State} (hs : old.Leads s) (e : LoadEnv) (k : Nat) (plan : State → State)
    (hplan : ∀ u, old.Leads u → old.Leads (plan u)) :
    old.Leads (s.checkSlot e k plan).1 :=
  (hplan _ (hs.showFlash ..)).showResult ..

theorem State.Leads.placeFaults {old s : State} (hs : old.Leads s) (b : List Byte) : old.Leads (s.placeFaults b) :=
  (((hs.each _ _ fun _ _ hu => ((hu.setF ..).setF ..).setF ..).setF ..).setF ..).setF ..

theorem State.Leads.placeLaw {old s : State} (hs : old.Leads s) : old.Leads s.placeLaw :=
  (hs.setF ..).each _ _ fun _ _ hu => ((((hu.setFlag ..).setF ..).setF ..).setF ..).setF ..

theorem State.Leads.placeSafety {old s : State} (hs : old.Leads s) : old.Leads s.placeSafety := by
  unfold State.placeSafety
  refine hs.each _ _ fun _ _ hu => ?_
  split
  · exact (hu.setFlag ..).setF ..
  · exact hu

theorem State.Leads.placeScheds {old s : State} (hs : old.Leads s) : old.Leads s.placeScheds :=
  hs.each _ _ fun _ _ hu => (((((hu.setFlag ..).setF ..).setF ..).setF ..).setFlag ..).ite _ ((((((((hu.setFlag ..).setF ..).setF ..).setF
    ..).setFlag ..).setF ..).setF ..).setF ..)

theorem State.Leads.placeSizes {old s : State} (hs : old.Leads s) : old.Leads s.placeSizes :=
  ((((((((hs.setF ..).setF ..).setF ..).setF ..).setF ..).setF ..).setF ..).setF ..).setF ..

theorem State.Leads.showImage {old s : State} (hs : old.Leads s) (k : Nat) (b : List Byte) : old.Leads (s.showImage k b) :=
  (((((((((((((((((((hs.setFlag ..).setF ..).setFlag ..).setFlag ..).setF ..).setF ..).setF ..).setF ..).setF ..).setF ..).setF ..).setF
    ..).setF ..).setF ..).setF ..).each _ _ fun _ _ hu => hu.setF ..).each _ _ fun _ _ hu => hu.setF ..).each _ _ fun _ _ hu => hu.setF
    ..).setF ..).setF ..

theorem State.Leads.startUnits {old s : State} (hs : old.Leads s) : old.Leads s.startUnits :=
  ((hs.each _ _ fun _ _ hu => hu.posFollow ..).fields ..).each _ _ fun _ _ hu => hu.refreshSupply ..

theorem State.Leads.place {old s : State} (hs : old.Leads s) (k : Nat) : old.Leads (s.place k) :=
  (((((((((((hs.fields ..).applyRegs ..).placeFaults ..).showImage ..).setF ..).setF ..).useSched ..).placeLaw ..).placeSafety
    ..).placeScheds ..).placeSizes ..).refreshIso ..

theorem State.Leads.loadEnd {old s : State} (hs : old.Leads s) (e : LoadEnv) : old.Leads (s.loadEnd e) :=
  (((((((((hs.when _ _ fun _ hu => hu.domUp ..).domUp ..).startUnits ..).setFlag ..).setFlag ..).refreshMon ..).refAll ..).setF
    ..).refreshDeadtime ..).loadRecord ..

theorem State.Leads.startHalves {old s : State} (hs : old.Leads s) : old.Leads s.startHalves :=
  ((hs.each _ _ fun _ _ hu => hu.setF ..).each _ _ fun _ _ hu => (hu.setFlag ..).setFlag ..).refreshHobs ..

theorem State.Leads.toSelfTest {old s : State} (hs : old.Leads s) (e : LoadEnv) : old.Leads (s.toSelfTest e) :=
  ((((hs.loadEnd ..).startHalves ..).enterMode ..).each _ _ fun _ _ hu => hu.cmpTest ..).ite _ (((((hs.loadEnd ..).startHalves
    ..).enterMode ..).each _ _ fun _ _ hu => hu.cmpTest ..).failSelfTest ..)

theorem State.Leads.toSafeHold {old s : State} (hs : old.Leads s) (e : LoadEnv) : old.Leads (s.toSafeHold e) :=
  ((hs.loadEnd ..).startHalves ..).enterMode ..

theorem State.Leads.blankPlan {old s : State} (hs : old.Leads s) : old.Leads s.blankPlan :=
  ((hs.foldl _ _ fun _ _ hu => hu.setTrim ..).setStep ..).setFlag ..

theorem State.Leads.loadImage {old s : State} (hs : old.Leads s) (e : LoadEnv) (rows : List (Nat × Nat)) : old.Leads
    (s.loadImage e rows) := by
  unfold State.loadImage
  extract_lets a b
  have ha : old.Leads a.1 := hs.checkSlot e 0 (fun s => s.replan e rows) fun _ hu => hu.replan ..
  have hb : old.Leads b.1 := ha.checkSlot e 1 id fun _ hu => hu
  exact .ite ((ha.place ..).toSelfTest ..) _ (.ite ((hb.place ..).toSelfTest ..) _ ((hb.setFlag ..).toSafeHold ..))

theorem State.Leads.loadStart {old s : State} (hs : old.Leads s) (e : LoadEnv) : old.Leads (s.loadStart e) := by
  unfold State.loadStart
  extract_lets y s0 s1 s2 s3
  have h0 : old.Leads s0 := by
    refine hs.trans ⟨rfl, ?_, fun ho => ⟨.refl _, ho⟩, fun _ hoff => ?_⟩
    · rintro ⟨hr, -, hm, hf⟩
      exact ⟨hr, rfl, hm, hf⟩
    · rcases hoff with hoff | hoff <;> cases hoff
  have h1 : old.Leads s1 := h0.each _ _ fun _ _ hu => hu.domUp ..
  have h2 : old.Leads s2 := .each ((h1.setFlag ..).setF ..) _ _ fun _ _ hu => (((hu.setFlag ..).setF ..).setF ..).setFlag ..
  have h3 : old.Leads s3 := h2.each _ _ fun _ _ hu => hu.setFlag ..
  exact ((h3.ageBases ..).holdupLoad ..).ashFind ..

theorem State.Leads.resetRelease {old s : State} (hs : old.Leads s) (e : LoadEnv) : old.Leads (s.resetRelease e) := by
  unfold State.resetRelease
  have hm : old.Leads ((s.loadStart e).mbist e).s := (hs.loadStart ..).mbist ..
  exact hs.ite _ (.ite (hm.toSafeHold ..) _ (.ite (((hm.blankPlan ..).setFlag ..).toSelfTest ..) _
    (.ite ((hm.setFlag ..).toSafeHold ..) _ (hm.loadImage ..))))

/-! ### Reads with an effect (Machine/Views.lean) -/

theorem State.Leads.latchTick {old s : State} (hs : old.Leads s) : old.Leads s.latchTick := hs.hidden ..
theorem State.Leads.latchFlue {old s : State} (hs : old.Leads s) (elapsed : Nat) : old.Leads (s.latchFlue elapsed) := hs.hidden ..
theorem State.Leads.latchRtc {old s : State} (hs : old.Leads s) (elapsed : Nat) : old.Leads (s.latchRtc elapsed) := (hs.rtcRun ..).hidden ..

theorem State.Leads.unlatch {old s : State} (hs : old.Leads s) (a : Nat) : old.Leads (s.unlatch a) :=
  (hs.hidden ..).ite _ ((hs.hidden ..).ite _ ((hs.hidden ..).ite _ hs))

/-! ### Mailboxes (Machine/Mailbox.lean) -/

theorem State.Leads.setFull {old s : State} (hs : old.Leads s) (m : Nat) (b : Bool) : old.Leads (s.setFull m b) := hs.setF ..
theorem State.Leads.ringDoorbell {old s : State} (hs : old.Leads s) (b : Nat) : old.Leads (s.ringDoorbell b) := hs.setReg ..
theorem State.Leads.setMbxWord {old s : State} (hs : old.Leads s) (m k : Nat) (w : Word) : old.Leads (s.setMbxWord m k w) := hs.fields ..

theorem State.Leads.mbxComplete {old s : State} (hs : old.Leads s) (m : Nat) : old.Leads (s.mbxComplete m) :=
  (((hs.fields ..).setFull ..).setF ..).ringDoorbell ..

theorem State.Leads.mbxBlocked {old s : State} (hs : old.Leads s) (m : Nat) : old.Leads (s.mbxBlocked m) := (hs.incF ..).event ..

theorem State.Leads.mbxPut {old s : State} (hs : old.Leads s) (side m k : Nat) (w : Word) : old.Leads (s.mbxPut side m k w) :=
  hs.ite _ ((hs.mbxBlocked ..).ite _ ((hs.setMbxWord ..).when _ _ fun _ hu => hu.mbxComplete ..))

theorem State.Leads.mbxTaken {old s : State} (hs : old.Leads s) (m : Nat) : old.Leads (s.mbxTaken m) :=
  ((hs.setFull ..).setF ..).ringDoorbell ..

theorem State.Leads.mbxTake {old s : State} (hs : old.Leads s) (side m : Nat) : old.Leads (s.mbxTake side m) := hs.ite _ (hs.mbxTaken ..)

theorem State.Leads.mbxSelect {old s : State} (hs : old.Leads s) (side m : Nat) : old.Leads (s.mbxSelect side m) :=
  (hs.fields ..).ite _ (hs.setF ..)

theorem State.Leads.messageSend {old s : State} (hs : old.Leads s) (side m : Nat) (writes : List (Nat × Word)) :
    old.Leads (s.messageSend side m writes) :=
  hs.ite _ ((hs.each _ _ fun _ _ hu => hu.lockedWrite ..).ite _ ((hs.fields ..).ite _ ((hs.mbxSelect ..).each _ _ fun _ _ hu => hu.mbxPut
    ..)))

theorem State.Leads.messageTake {old s : State} (hs : old.Leads s) (side m : Nat) (coincident : List (Nat × Word)) :
    old.Leads (s.messageTake side m coincident) :=
  hs.ite _ ((((hs.when _ _ fun _ hu => hu.mbxSelect ..).when _ _ fun _ hu => hu.messageSend ..).mbxTake ..).ite _ ((hs.when _ _ fun _ hu =>
    hu.mbxSelect ..).when _ _ fun _ hu => hu.messageSend ..))

theorem State.Leads.doorbellClear {old s : State} (hs : old.Leads s) (value rung : Nat) : old.Leads (s.doorbellClear value rung) :=
  hs.setReg ..

theorem State.Leads.doorbellWrite {old s : State} (hs : old.Leads s) (side value rung : Nat) :
    old.Leads (s.doorbellWrite side value rung) :=
  hs.ite _ ((hs.lockedWrite ..).ite _ (hs.doorbellClear ..))

theorem State.Leads.longWait {old s : State} (hs : old.Leads s) (m : Nat) : old.Leads (s.longWait m) := (hs.event ..).ite _ hs

theorem State.Leads.serviceRequest {old s : State} (hs : old.Leads s) : old.Leads s.serviceRequest :=
  hs.ite _ ((((hs.mbxTake ..).fields ..).foldl _ _ fun _ _ hu => hu.mbxPut ..).ite _ ((((hs.mbxTake ..).fields ..).foldl _ _ fun _ _ hu =>
    hu.mbxPut ..).mbxPut ..))

/-! ### Register writes (Machine/Registers.lean) -/

theorem State.Leads.swreset {old s : State} (hs : old.Leads s) (key : Nat) : old.Leads (s.swreset key) := (hs.doReset ..).ite _ hs

/-- New version floors after the ones burned, burned repair entries after the ones burned, revoked keys among the revoked. -/
theorem State.Leads.fuses {old s : State} (hs : old.Leads s) (floors repairs : List Nat) (revoked : Nat) (hf : s.otp.floors <+: floors)
    (hr : s.otp.repairs <+: repairs) (hv : ∀ k, bit s.otp.revoked k = true → bit revoked k = true) :
    old.Leads { s with otp := { s.otp with floors := floors, repairs := repairs, revoked := revoked } } :=
  hs.trans ⟨rfl, id, fun ho => ⟨⟨Nat.le_refl _, hf, hr, hv, rfl, fun _ _ => rfl, Nat.le_refl _, fun _ _ => ⟨rfl, fun _ h => h⟩, fun _ => rfl,
    fun _ _ => rfl, rfl⟩, ho⟩, id⟩

theorem State.Leads.floorRaise {old s : State} (hs : old.Leads s) (key : Nat) : old.Leads (s.floorRaise key) := by
  unfold State.floorRaise
  exact .ite (hs.fuses _ _ _ (List.prefix_append ..) (List.prefix_refl _) fun _ h => h) _ hs

theorem bit_or_left (m n k : Nat) (h : bit m k = true) : bit (m ||| n) k = true := by
  simp only [bit, ← Nat.testBit_eq_decide_div_mod_eq, Nat.testBit_or, Bool.or_eq_true] at *
  exact .inl h

theorem State.Leads.keyRevoke {old s : State} (hs : old.Leads s) (key mask : Nat) : old.Leads (s.keyRevoke key mask) := by
  unfold State.keyRevoke
  extract_lets m left inUse
  exact .ite (hs.fuses _ _ _ (List.prefix_refl _) (List.prefix_refl _) fun k h => bit_or_left _ _ k h) _ hs

/-- A transition of the life cycle leads forward (R63). -/
theorem State.lifecycle_lt_of_edge (s : State) (target : Nat) (h : s.lifecycleEdge target = true) : s.otp.lifecycle < target := by
  unfold State.lifecycleEdge at h
  split at h <;> simp_all

theorem State.Leads.lifecycleReq {old s : State} (hs : old.Leads s) (key target : Nat) : old.Leads (s.lifecycleReq key target) := by
  unfold State.lifecycleReq
  refine hs.ite _ ?_
  split
  · exact hs.setFlag ..
  next he =>
    refine hs.ite _ (.ashRequest (hs.lcTarget _ fun t ht => ?_) ..)
    cases ht
    exact s.lifecycle_lt_of_edge target (by simpa using he)

theorem State.Leads.lifecycleFuse {old s : State} (hs : old.Leads s) : old.Leads s.lifecycleFuse := by
  unfold State.lifecycleFuse
  split
  next t ht =>
    split
    · unfold State.doReset
      split
      next hrun hoff => exact absurd hrun.1 (by
          rcases hoff with h | h <;> simp [State.running, show s.sys.phase = _ from h])
      · refine .of_reset _ hs.pending hs.mem fun ho => ⟨(hs.otp ho).1.trans ?_, (hs.otp ho).2.2⟩
        exact ⟨Nat.le_of_lt ((hs.otp ho).2.1 t ht), List.prefix_refl _, List.prefix_refl _, fun _ h => h, rfl, fun _ _ => rfl, Nat.le_refl _,
          fun _ _ => ⟨rfl, fun _ h => h⟩, fun _ => rfl, fun _ _ => rfl, rfl⟩
    · exact hs
  · exact hs

theorem State.Leads.fuseCmd {old s : State} (hs : old.Leads s) (key : Nat) : old.Leads (s.fuseCmd key) := by
  unfold State.fuseCmd
  refine hs.ite _ (.ashRequest (.when ?_ _ _ fun _ hu => (hu.setFlag ..).event ..) ..)
  exact hs.fuses _ _ _ (List.prefix_refl _) (List.prefix_append ..) fun _ h => h

theorem State.Leads.editWord {old s : State} (hs : old.Leads s) (k : Nat) (w : Word) : old.Leads (s.editWord k w) := by
  unfold State.editWord
  dsimp only
  split
  · exact hs.fields ..
  · exact hs.setFlag ..

theorem State.Leads.serviceVote {old s : State} (hs : old.Leads s) (d : Nat) (b : Bool) : old.Leads (s.serviceVote d b) :=
  ((hs.domVote ..).ite _ (hs.domUnvote ..)).setFlag ..

theorem State.Leads.shadowWrite {old s : State} (hs : old.Leads s) (a : Nat) (w : Word) : old.Leads (s.shadowWrite a w) := hs.hidden ..

theorem State.Leads.writePlain {old s : State} (hs : old.Leads s) (k : RegKind) (i a : Nat) (v : Word) : old.Leads (s.writePlain k i a v) :=
  (hs.ite _ ((hs.serviceVote ..).ite _ (hs.setReg ..))).when _ _ fun _ hu => hu.shadowWrite ..

theorem State.Leads.writeOwn_getD {old s u : State} (hs : old.Leads s) (hu : old.Leads u) (a : Nat) (v : Word) :
    old.Leads ((s.writeOwn a v).getD u) := by
  unfold State.writeOwn
  dsimp only
  split
  · exact hs.swreset ..
  split
  · exact hs.floorRaise ..
  split
  · exact hs.keyRevoke ..
  split
  · exact hs.lifecycleReq ..
  split
  · exact hs.fuseCmd ..
  split
  · exact hs.jrnReplayCmd ..
  split
  · exact hs.adcStart ..
  split
  · exact hs.doorbellClear ..
  split
  · exact hs.mbxPut ..
  split
  · exact hs.editWord ..
  · exact hu

theorem State.Leads.writeWord {old s : State} (hs : old.Leads s) (open_ : Bool) (a : Nat) (v : Word) : old.Leads
    (s.writeWord open_ a v).1 := by
  unfold State.writeWord
  dsimp only
  split
  · exact hs
  split
  · split
    · exact hs.tiles _ (Mem.write_wf _ _ _ _)
    · exact hs.lockedWrite ..
  split
  · exact hs
  split
  · exact hs
  split
  · split
    · exact hs.each _ _ fun _ _ hu => hu.forceOne ..
    · exact hs.lockedWrite ..
  · split
    · exact hs.lockedWrite ..
    · exact hs.writeOwn_getD (hs.writePlain ..) ..

theorem State.Leads.inService {old s : State} (hs : old.Leads s) (a : Nat) (f : State → State) (hf : ∀ u, old.Leads u → old.Leads (f u)) :
    old.Leads (s.inService a f) :=
  hs.ite _ ((hf _ hs).ite _ (hs.lockedWrite ..))

theorem State.Leads.unitFollow {old s : State} (hs : old.Leads s) (a : Nat) : old.Leads (s.unitFollow a) :=
  (hs.each _ _ fun _ _ hu => hu.posFollow ..).each _ _ fun _ _ hu => (hu.fields ..).refreshSupply ..

theorem State.Leads.refreshSum {old s : State} (hs : old.Leads s) : old.Leads s.refreshSum := ((hs.setF ..).setF ..).setF ..

theorem State.Leads.unitVotes {old s : State} (hs : old.Leads s) : old.Leads s.unitVotes :=
  (((hs.domVote ..).ite _ (hs.domUnvote ..)).domVote ..).ite _ (((hs.domVote ..).ite _ (hs.domUnvote ..)).domUnvote ..)

theorem State.Leads.shadowOne {old s : State} (hs : old.Leads s) (x : Nat × Word) : old.Leads (s.shadowOne x) := by
  unfold State.shadowOne
  split
  · exact (hs.setReg ..).unitFollow ..
  · exact hs

theorem State.Leads.shadowApply {old s : State} (hs : old.Leads s) : old.Leads s.shadowApply :=
  hs.ite _ ((((((((((hs.hidden ..).each _ _ fun _ _ hu => hu.shadowOne ..).unitVotes ..).refreshSum ..).refreshMon ..).refreshDeadtime
    ..).refreshPower ..).refreshNet ..).refreshEventsOn ..).refreshIso ..)

/-! ### Bus outputs (Machine/BusOutput.lean) -/

theorem State.Leads.andironWord {old s : State} (hs : old.Leads s) (a : Nat) (v : Word) : old.Leads (s.andironWord a v) := by
  unfold State.andironWord
  dsimp only
  split
  · exact hs.adcStart ..
  · split
    · exact hs.doorbellClear ..
    · split
      · exact (hs.mbxSelect ..).mbxSelect ..
      · split
        · exact hs.when _ _ fun _ hu => hu.mbxPut ..
        · split
          · exact hs.ite _ (hs.setReg ..)
          · exact hs

theorem State.Leads.released {old s : State} (hs : old.Leads s) (k : Nat) (w : BusWrite) : old.Leads (s.released k w) := by
  unfold State.released
  refine .ite (hs.each _ _ fun _ _ hu => ?_) _ (.ite (hs.southWord ..) _ (hs.each _ _ fun _ _ hu => hu.andironWord ..))
  exact hu.tiles _ (Store.put_wf (fun _ => 0) _ _ _)

theorem State.Leads.mbxRelease {old s : State} (hs : old.Leads s) (k : Nat) : old.Leads (s.mbxRelease k) :=
  hs.when _ _ fun _ hu => (hu.fields ..).each _ _ fun _ _ hu1 => (hu1.mbxSelect ..).mbxPut ..

theorem State.Leads.compare {old s : State} (hs : old.Leads s) (k : Nat) (side : Bool) (w : BusWrite) : old.Leads (s.compare k side w) := by
  unfold State.compare
  dsimp only
  split
  · exact ((((((hs.setFifo ..).setRetries ..).when _ _ fun _ hu => (hu.transient ..).incF ..).pairVerdict ..).released ..).mbxRelease
      ..).ite _ (hs.mismatch ..)
  · exact (hs.fields ..).ite _ (hs.setFifo ..)

theorem State.Leads.enterStalled {old s : State} (hs : old.Leads s) (k : Nat) : old.Leads (s.enterStalled k) :=
  hs.each _ _ fun _ _ hu => (hu.fields ..).each _ _ fun _ _ hu1 => hu1.compare ..

theorem State.Leads.enterAll {old s : State} (hs : old.Leads s) (k : Nat) : old.Leads (s.enterAll k) :=
  hs.each _ _ fun _ _ hu => hu.enterStalled ..

theorem State.Leads.busWrite {old s : State} (hs : old.Leads s) (k : Nat) (side : Bool) (w : BusWrite) : old.Leads (s.busWrite k side w) :=
  hs.ite _ ((hs.compare ..).enterAll ..)

theorem State.Leads.cmpTimeout {old s : State} (hs : old.Leads s) (k tag : Nat) : old.Leads (s.cmpTimeout k tag) := by
  unfold State.cmpTimeout
  split
  · exact hs
  · split
    · exact (hs.mismatch ..).enterAll ..
    · exact hs

/-! ### Cycle boundary (Machine/Cycle.lean) -/

theorem State.Leads.slotRx {old s : State} (hs : old.Leads s) (sl : Nat) : old.Leads (s.slotRx sl) := by
  unfold State.slotRx
  dsimp only
  split
  · split
    · exact hs.setReg ..
    · exact hs.setReg ..
  · split
    · exact hs.setReg ..
    · exact hs.setReg ..

theorem State.Leads.bnStat {old s : State} (hs : old.Leads s) (n : Nat) : old.Leads (s.bnStat n) := by
  unfold State.bnStat
  dsimp only
  split
  · exact (hs.setReg ..).boomFrame ..
  · exact hs.setReg ..

theorem State.Leads.rxRegs {old s : State} (hs : old.Leads s) : old.Leads s.rxRegs :=
  ((((((((hs.setReg ..).setReg ..).setF ..).setF ..).setFlag ..).setFlag ..).fields ..).each _ _ fun _ _ hu => hu.slotRx ..).each _ _ fun _
    _ hu => hu.bnStat ..

theorem State.Leads.dynGrant {old s : State} (hs : old.Leads s) : old.Leads s.dynGrant :=
  ((((hs.setF ..).setF ..).setFlag ..).when _ _ fun _ hu => (hu.incF ..).event ..).fields ..

theorem State.Leads.ringEnd {old s : State} (hs : old.Leads s) : old.Leads (s.ringEnd).1 := ((hs.syncCycleEnd ..).rxRegs ..).dynGrant ..

theorem State.Leads.sampleEnd {old s : State} (hs : old.Leads s) : old.Leads s.sampleEnd := by
  unfold State.sampleEnd
  dsimp only
  split
  · exact hs.fields ..
  · exact ((((((((hs.fields ..).readSets ..).slotsEnd ..).sampleTaps ..).ite _ (((((hs.fields ..).readSets ..).slotsEnd ..).sampleTaps
      ..).fields ..)).when _ _ fun _ hu => hu.applyStream ..).journalEntry ..).fields ..).when _ _ fun _ hu => hu.replayCompare ..

theorem State.Leads.toTick0 {old s : State} (hs : old.Leads s) : old.Leads s.toTick0 := hs.fields ..

theorem State.Leads.skipCycle {old s : State} (hs : old.Leads s) (sc : Nat) : old.Leads (s.skipCycle sc) :=
  (((hs.fields ..).markSkipped ..).each _ _ fun _ _ hu => (((hu.fields ..).when _ _ fun _ hu1 => hu1.slotsEnd ..).when _ _ fun _ hu1 =>
    hu1.mapSlotStart ..).each _ _ fun _ _ hu1 => hu1.slotStart ..).sampleEnd ..

theorem State.Leads.takeover {old s : State} (hs : old.Leads s) : old.Leads s.takeover :=
  (hs.when _ _ fun _ hu => hu.logHandover ..).fields ..

theorem State.Leads.boundaryEffects {old s : State} (hs : old.Leads s) (prev m : Mode) : old.Leads (s.boundaryEffects prev m) := by
  unfold State.boundaryEffects
  dsimp only
  split
  · exact (((((hs.when _ _ fun _ hu => hu.setFlag ..).fields ..).ite _ (hs.when _ _ fun _ hu => hu.setFlag ..)).takeover ..).ite _
      (((hs.when _ _ fun _ hu => hu.setFlag ..).fields ..).ite _ (hs.when _ _ fun _ hu => hu.setFlag ..))).setF ..
  · exact (((hs.when _ _ fun _ hu => hu.setFlag ..).fields ..).ite _ (hs.when _ _ fun _ hu => hu.setFlag ..)).when _ _ fun _ hu =>
      hu.fields ..
  · exact ((((((hs.when _ _ fun _ hu => hu.setFlag ..).fields ..).ite _ (hs.when _ _ fun _ hu => hu.setFlag ..)).fields ..).setFlag
      ..).clearAligned ..).when _ _ fun _ hu => hu.raise ..
  · exact ((hs.when _ _ fun _ hu => hu.setFlag ..).fields ..).ite _ (hs.when _ _ fun _ hu => hu.setFlag ..)

theorem State.Leads.boundaryMode {old s : State} (hs : old.Leads s) : old.Leads s.boundaryMode := by
  unfold State.boundaryMode
  dsimp only
  split
  · exact hs.hidden ..
  · exact (((((hs.when _ _ fun _ hu => ((hu.skipCycle ..).skipCycle ..).toTick0 ..).enterMode ..).boundaryEffects ..).hidden
      ..).refreshXdis ..).refreshPower ..

theorem State.Leads.takeoverSeen {old s : State} (hs : old.Leads s) : old.Leads s.takeoverSeen :=
  ((hs.fields ..).fields ..).ite _ (hs.fields ..)

theorem State.Leads.startHandover {old s : State} (hs : old.Leads s) : old.Leads s.startHandover :=
  (((hs.fields ..).setFlag ..).refreshXdis ..).ite _ hs

theorem State.Leads.testWindow {old s : State} (hs : old.Leads s) : old.Leads s.testWindow :=
  ((((hs.setFlag ..).fields ..).incF ..).ite _ (hs.setFlag ..)).refreshXdis ..

theorem State.Leads.shadowSample {old s : State} (hs : old.Leads s) : old.Leads s.shadowSample := by
  unfold State.shadowSample
  dsimp only
  split
  · exact hs.fields ..
  · split
    · exact (((hs.fields ..).incF ..).event ..).clearAligned ..
    · exact (hs.fields ..).ite _ (((hs.fields ..).when _ _ fun _ hu => hu.setFlag ..).ite _ ((((hs.fields ..).incF ..).event
        ..).clearAligned ..))

theorem State.Leads.nextSample {old s : State} (hs : old.Leads s) : old.Leads s.nextSample := by
  unfold State.nextSample
  dsimp only
  split
  · exact hs.shadowSample ..
  · exact (hs.replayEnd ..).ite _ (hs.replayNext ..)
  · exact (hs.fields ..).ite _ (hs.fields ..)

theorem State.Leads.sampleRegs {old s : State} (hs : old.Leads s) : old.Leads s.sampleRegs := by
  unfold State.sampleRegs
  dsimp only
  split
  · exact (((hs.setFlag ..).when _ _ fun _ hu => hu.setF ..).setReg ..).setFlag ..
  · exact (hs.setFlag ..).when _ _ fun _ hu => hu.setF ..

theorem State.Leads.clearCycle {old s : State} (hs : old.Leads s) : old.Leads s.clearCycle := hs.fields ..

theorem State.Leads.cycleBoundary {old s : State} (hs : old.Leads s) : old.Leads s.cycleBoundary := by
  unfold State.cycleBoundary
  dsimp only
  refine .pulseNext (.journalStart (.sampleRegs (.markSkipped (.fields (.nextSample (.freezeFrames (.clearCycle (.testWindow
      (.startHandover (.refreshSafTx ?_ ..) ..) ..) ..) ..) ..) ..) ..) ..) ..) ..
  split
  · exact ((((((((((((hs.each _ _ fun _ _ hu => hu.posBefore ..).ringEnd ..).sampleEnd ..).toTick0 ..).exchangeEnd ..).mapCycle ..).setTime
      ..).takeoverSeen ..).digestCompare ..).boundaryMode ..).useSched ..).setF ..).setFlag ..
  · exact (((((((((hs.each _ _ fun _ _ hu => hu.posBefore ..).ringEnd ..).sampleEnd ..).toTick0 ..).exchangeEnd ..).mapCycle ..).setTime
      ..).takeoverSeen ..).digestCompare ..).boundaryMode ..

/-! ### Service port and JTAG (Machine/Service.lean) -/

theorem State.Leads.svcCount {old s : State} (hs : old.Leads s) (st : SvcStatus) : old.Leads (s.svcCount st) := by
  unfold State.svcCount
  split
  · exact hs
  · exact hs
  · exact (hs.incF ..).event ..
  · exact (hs.incF ..).event ..
  · exact (hs.incF ..).event ..
  · exact hs.incF ..
  · exact (hs.incF ..).event ..
  · exact hs.incF ..

theorem State.Leads.svcHeader {old s : State} (hs : old.Leads s) (cmd addr len : Nat) : old.Leads (s.svcHeader cmd addr len) :=
  ((hs.setF ..).setF ..).setF ..

theorem State.Leads.svcFrame {old s : State} (hs : old.Leads s) (cmd : Nat) (f : SvcFrame) (act : State → State × SvcStatus × List Byte)
    (hact : ∀ u, old.Leads u → old.Leads (act u).1) : old.Leads (s.svcFrame cmd f act) := by
  unfold State.svcFrame
  extract_lets s1 svc r s2 svc2
  have h1 : old.Leads s1 := ((hs.incF ..).svcHeader ..).setFlag ..
  have hr : old.Leads r.1 := by
    unfold r
    split
    · exact h1
    split
    · exact h1
    · exact hact _ (h1.hidden ..)
  have h2 : old.Leads s2 := ((hr.svcCount ..).setF ..).peakF ..
  split
  · exact hs
  split
  · exact hr
  · exact h2.hidden ..

theorem State.Leads.refuse {old s : State} (hs : old.Leads s) (st : SvcStatus) : old.Leads (refuse s st).1 := hs

theorem State.Leads.readWord {old s : State} (hs : old.Leads s) (open_ : Bool) (a flueNs rtcUnits : Nat) :
    old.Leads (s.readWord open_ a flueNs rtcUnits).1 := by
  unfold State.readWord
  dsimp only
  split
  · exact hs
  · split
    · exact hs.latchTick ..
    · split
      · exact hs.latchFlue ..
      · split
        · exact hs.latchRtc ..
        · split
          · exact (hs.mbxTaken ..).ite _ (hs.mbxTake ..)
          · exact hs.unlatch ..

theorem State.Leads.readWords {old s : State} (hs : old.Leads s) (open_ : Bool) (a n flueNs rtcUnits : Nat) :
    old.Leads (s.readWords open_ a n flueNs rtcUnits).1 := by
  unfold State.readWords
  refine .foldl_fst _ _ (fun _ _ hu => ?_) _ hs
  exact hu.readWord ..

theorem State.Leads.svcRead {old s : State} (hs : old.Leads s) (f : SvcFrame) (other : Option Nat) : old.Leads (s.svcRead f other) := by
  refine hs.svcFrame _ _ _ fun u hu => ?_
  split
  · exact hu
  · exact hu.readWords ..

theorem State.Leads.writeWords {old s : State} (hs : old.Leads s) (open_ : Bool) (a : Nat) (l : List Word) :
    old.Leads (s.writeWords open_ a l).1 := by
  unfold State.writeWords
  refine .foldl_fst _ _ (fun _ _ hu => ?_) _ hs
  exact hu.writeWord ..

theorem State.Leads.svcWrite {old s : State} (hs : old.Leads s) (f : SvcFrame) : old.Leads (s.svcWrite f) := by
  refine hs.svcFrame _ _ _ fun u hu => ?_
  split
  · exact hu
  · exact (hu.writeWords ..).when _ _ fun _ hw => hw.addF ..

theorem State.Leads.svcAshRead {old s : State} (hs : old.Leads s) (f : SvcFrame) : old.Leads (s.svcAshRead f) := by
  refine hs.svcFrame _ _ _ fun u hu => ?_
  split
  · exact hu
  split
  · exact hu
  · exact hu.incF ..

theorem State.Leads.svcEnter {old s : State} (hs : old.Leads s) (f : SvcFrame) : old.Leads (s.svcEnter f) := by
  refine hs.svcFrame _ _ _ fun u hu => ?_
  split
  · exact hu
  split
  · exact hu
  split
  · exact hu
  · exact hu.enterMode ..

theorem State.Leads.svcAbort {old s : State} (hs : old.Leads s) (f : SvcFrame) : old.Leads (s.svcAbort f) := by
  refine hs.svcFrame _ _ _ fun u hu => ?_
  split
  · exact hu
  split
  · exact hu
  · exact hu.fields ..

theorem State.Leads.nvmGate {old s : State} (hs : old.Leads s) (ok : Bool) (go : State → State × SvcStatus × List Byte)
    (hgo : ∀ u, old.Leads u → old.Leads (go u).1) : old.Leads (s.nvmGate ok go).1 := by
  unfold State.nvmGate
  split
  · exact hs
  split
  · exact hs
  split
  · exact hs
  · exact hgo s hs

theorem State.Leads.nvmStart_of_unprogrammed {old s : State} (hs : old.Leads s) (op addr : Nat) (data : List Byte)
    (h : op ≠ 1 → op ≠ 2 → s.otp.keys.getD addr none = none) : old.Leads (s.nvmStart op addr data) := by
  unfold State.nvmStart
  refine .setF (.setF (.setFlag ?_ ..) ..) ..
  refine hs.trans ⟨rfl, id, fun ho => ⟨.refl _, ho.1, fun x hx h1 h2 => ?_⟩, id⟩
  cases hx
  exact h h1 h2

theorem State.Leads.svcErase {old s : State} (hs : old.Leads s) (f : SvcFrame) : old.Leads (s.svcErase f) :=
  hs.svcFrame _ _ _ fun _ hu => hu.nvmGate _ _ fun _ hw => (hw.nvmStart_of_unprogrammed _ _ _ fun h => absurd rfl h).incF ..

theorem State.Leads.svcProgram {old s : State} (hs : old.Leads s) (f : SvcFrame) : old.Leads (s.svcProgram f) :=
  hs.svcFrame _ _ _ fun _ hu => hu.nvmGate _ _ fun _ hw => (hw.nvmStart_of_unprogrammed _ _ _ fun _ h => absurd rfl h).incF ..

theorem State.Leads.svcFlashRead {old s : State} (hs : old.Leads s) (f : SvcFrame) (answers : Bool) :
    old.Leads (s.svcFlashRead f answers) := by
  refine hs.svcFrame _ _ _ fun _ hu => hu.nvmGate _ _ fun w hw => ?_
  split
  · exact hw
  · exact hw.fields ..

theorem State.Leads.svcKey {old s : State} (hs : old.Leads s) (f : SvcFrame) : old.Leads (s.svcKey f) := by
  refine hs.svcFrame _ _ _ fun _ hu => hu.nvmGate _ _ fun w hw => ?_
  split
  · exact hw
  next hn => exact (hw.nvmStart_of_unprogrammed _ _ _ fun _ _ => by simpa using hn).incF ..

/-- An operation in hand that ends: the flash stays canonical, and a key comes into the slot in hand alone. -/
theorem State.nvmEffect_keeps (s : State) (x : Nvm) (good : Bool) (hx : s.svc.nvm = some x) :
    (s.nvmEffect x good).1.pending = s.pending ∧ (s.MemOk → (s.nvmEffect x good).1.MemOk) ∧
      (s.KeyUnprogrammed → s.otp.Grows (s.nvmEffect x good).1.otp) ∧ (s.nvmEffect x good).1.ash = s.ash ∧
      (s.nvmEffect x good).1.otp.lifecycle = s.otp.lifecycle ∧ (s.nvmEffect x good).1.sys = s.sys := by
  have hflash (bs : List Byte) : s.MemOk → ({ s with flash := Mem.write 0xFF s.flash x.addr bs } : State).MemOk := by
    rintro ⟨hr, ht, hm, hf⟩
    exact ⟨hr, ht, hm, Mem.write_wf _ _ _ _ hf⟩
  unfold State.nvmEffect
  split
  · cases good <;> exact ⟨rfl, hflash _, fun _ => .refl _, rfl, rfl, rfl⟩
  · cases good <;> exact ⟨rfl, hflash _, fun _ => .refl _, rfl, rfl, rfl⟩
  next h1 h2 => cases good <;> exact ⟨rfl, id, fun hk => hk.grows hx h1 h2 _, rfl, rfl, rfl⟩

/-- An end of the operation in hand that keeps what `State.nvmEffect_keeps` says. -/
theorem State.Leads.nvmDone {old s t : State} (hs : old.Leads s) (hp : t.pending = s.pending) (hm : s.MemOk → t.MemOk)
    (ho : s.KeyUnprogrammed → s.otp.Grows t.otp) (ha : t.ash = s.ash) (hl : t.otp.lifecycle = s.otp.lifecycle) (hy : t.sys = s.sys) :
    old.Leads { t with svc := { t.svc with nvm := none } } := by
  refine hs.trans ⟨hp, hm, fun h => ⟨ho h.2, fun v hv => ?_, fun x hx => ?_⟩, fun h hoff => ?_⟩
  · exact hl.trans_lt (h.1 v ((congrArg Ash.lcTarget ha).symm.trans hv))
  · cases hx
  · exact (congrArg Sys.vsup hy).trans (h ((congrArg Sys.phase hy) ▸ hoff))

theorem State.Leads.nvmComplete {old s : State} (hs : old.Leads s) (answers good : Bool) : old.Leads (s.nvmComplete answers good) := by
  unfold State.nvmComplete
  split
  · exact hs
  next x hx =>
    obtain ⟨hp, hm, ho, ha, hl, hy⟩ := s.nvmEffect_keeps x good hx
    refine hs.ite _ (.setF (.setFlag ?_ ..) ..)
    split
    · exact hs.nvmDone rfl id (fun _ => .refl _) rfl rfl rfl
    · exact hs.nvmDone hp hm ho ha hl hy

theorem State.Leads.svcAbandon {old s : State} (hs : old.Leads s) (header : Option (Nat × Nat × Nat)) (mode3 : Bool) :
    old.Leads (s.svcAbandon header mode3) := by
  unfold State.svcAbandon
  dsimp only
  split
  · exact hs
  · split
    · exact ((((((hs.incF ..).setFlag ..).incF ..).event ..).svcHeader ..).setF ..).fresh ..
    · exact (((hs.incF ..).setFlag ..).incF ..).event ..

theorem State.Leads.jtagDo {old s : State} (hs : old.Leads s) (what : JtagOp) : old.Leads (s.jtagDo what).1 := by
  unfold State.jtagDo
  dsimp only
  split
  · exact hs
  · split
    · exact hs.readWords ..
    · exact hs
  · split
    · exact hs.writeWords ..
    · exact hs
  · split
    · exact hs.hidden ..
    · exact hs
  · exact hs
  · exact hs

theorem State.Leads.tapMove {old s : State} (hs : old.Leads s) (tms : List Bool) (trst : Bool) : old.Leads (s.tapMove tms trst) :=
  (hs.hidden ..).setFlag ..

theorem State.Leads.jtag {old s : State} (hs : old.Leads s) (ir : Nat) (what : JtagOp) (tms : List Bool) (trst : Bool) :
    old.Leads (s.jtag ir what tms trst) :=
  hs.ite _ ((((((hs.hidden ..).setF ..).setFlag ..).jtagDo ..).hidden ..).tapMove ..)

/-! ### Tick (Machine/Tick.lean) -/

theorem State.Leads.show {old s : State} (hs : old.Leads s) (shown : List (Nat × Word)) : old.Leads (s.show shown) :=
  ((((((hs.each _ _ fun _ _ hu => hu.each _ _ fun _ _ hu1 => hu1.setF ..).each _ _ fun _ _ hu => hu.setF ..).each _ _ fun _ _ hu => hu.setF
    ..).each _ _ fun _ _ hu => hu.setFlag ..).each _ _ fun _ _ hu => hu.refreshSupply ..).refreshMon ..).when _ _ fun _ hu => hu.setReg ..

theorem State.Leads.showMeasured {old s : State} (hs : old.Leads s) (m : List (Nat × Word)) : old.Leads (s.showMeasured m) :=
  (hs.each _ _ fun _ _ hu => ((hu.setReg ..).each _ _ fun _ _ hu1 => hu1.setReg ..).when _ _ fun _ hu1 => hu1.setReg ..).each _ _ fun _ _
    hu => hu.setF ..

theorem State.Leads.sampleOwnTaps {old s : State} (hs : old.Leads s) (own : List (Nat × Word × Bool)) : old.Leads (s.sampleOwnTaps own) :=
  hs.fields ..

theorem State.Leads.tickBefore {old s : State} (hs : old.Leads s) (t : Nat) : old.Leads (s.tickBefore t) :=
  ((((((hs.canDrain ..).ethTick ..).adcTick ..).each _ _ fun _ _ hu => hu.spIntake ..).poseTick ..).secTick ..).safTick ..

theorem State.Leads.intakeTick {old s : State} (hs : old.Leads s) (t j : Nat) (m : List (Nat × Word)) : old.Leads (s.intakeTick t j m) :=
  ((((((((hs.fields ..).ite _ hs).fields ..).poseFree ..).when _ _ fun _ hu => hu.sampleOwnTaps ..).fields ..).ite _ (((((((hs.fields
    ..).ite _ hs).fields ..).poseFree ..).when _ _ fun _ hu => hu.sampleOwnTaps ..).replayTick ..).ite _ ((((((hs.fields ..).ite _
    hs).fields ..).poseFree ..).when _ _ fun _ hu => hu.sampleOwnTaps ..).fields ..))).fields ..).each _ _ fun _ _ hu => hu.posAfter ..

theorem State.Leads.startSlots {old s : State} (hs : old.Leads s) (sc j : Nat) : old.Leads (s.startSlots sc j) :=
  (((hs.sampleSets ..).when _ _ fun _ hu => (hu.fields ..).mapSlotStart ..).each _ _ fun _ _ hu => hu.slotStart ..).refreshQueues ..

theorem State.Leads.forgetTiles {old s : State} (hs : old.Leads s) : old.Leads s.forgetTiles := hs.fields ..

theorem State.Leads.tickStart {old s : State} (hs : old.Leads s) (measured shown : List (Nat × Word)) :
    old.Leads (s.tickStart measured shown) := by
  unfold State.tickStart
  dsimp only
  split
  · exact ((hs.hidden ..).show ..).showMeasured ..
  · split
    · refine .startSlots (.intakeTick (.tickBefore (.setTime (.forgetTiles (.fields ?_ ..) ..) ..) ..) ..) ..
      split
      · exact ((((hs.hidden ..).show ..).showMeasured ..).each _ _ fun _ _ hu => (hu.posLate ..).ite _ (hu.posBefore ..)).when _ _ fun _ hu
          => ((hu.readSets ..).slotsEnd ..).sampleTaps ..
      · exact (((hs.hidden ..).show ..).showMeasured ..).each _ _ fun _ _ hu => (hu.posLate ..).ite _ (hu.posBefore ..)
    · refine .intakeTick (.tickBefore (.setTime (.forgetTiles (.fields ?_ ..) ..) ..) ..) ..
      split
      · exact ((((hs.hidden ..).show ..).showMeasured ..).each _ _ fun _ _ hu => (hu.posLate ..).ite _ (hu.posBefore ..)).when _ _ fun _ hu
          => ((hu.readSets ..).slotsEnd ..).sampleTaps ..
      · exact (((hs.hidden ..).show ..).showMeasured ..).each _ _ fun _ _ hu => (hu.posLate ..).ite _ (hu.posBefore ..)

/-! ### Commands and steps -/

theorem exec_leads (c : Instr) (s t : State) (ht : exec c s = .next t) : s.Leads t := by
  have h := State.Leads.refl s
  cases c <;> cases ht
  case vsupValid => exact h.vsupValid ..
  case vsupLoss => exact h.vsupLoss ..
  case pinReset => exact h.pinReset ..
  case coreUnderVoltage => exact h.coreUnderVoltage ..
  case resetRelease => exact h.resetRelease ..
  case lbistComplete => exact h.lbist ..
  case analogueBist => exact h.analogueBist ..
  case joinTimeout => exact h.joinTimeout ..
  case listenTimeout => exact h.listenTimeout ..
  case coldLimitExpiry => exact .ite (h.coldLimit ..) _ h
  case election => exact h.election ..
  case cycleBoundary => exact .ite (h.cycleBoundary ..) _ h
  case rateCorrection => exact h.rateCorrection ..
  case checkpoint => exact h.checkpointDue ..
  case snapshot => exact h.snapshotDue ..
  case staticSegmentEnd => exact h.staticEnd ..
  case tick => exact .ite (h.tickStart ..) _ h
  case hobDispatch => exact h.hobDispatch ..
  case blockStage => exact h.blockStage ..
  case busOutputWrite => exact h.busWrite ..
  case cmpTimeout => exact h.cmpTimeout ..
  case cmpVerdictDisagree => exact h.verdictDisagree ..
  case tileVerify => exact .each (h.tileVerify ..) _ _ fun _ _ hu => hu.enterStalled ..
  case commit => exact h.commitDue ..
  case deadlineMiss => exact h.deadlineMiss ..
  case shadowCopyApply => exact h.shadowApply ..
  case faultRaise => exact h.faultRaise ..
  case wireFault => exact h.wireFault ..
  case clearWaitExpiry => exact .ite (h.clearExpiry ..) _ h
  case tryCountReset => exact .ite (h.tryReset ..) _ h
  case forcePulseEnd => exact h.forcePulseEnd ..
  case desat => exact h.desat ..
  case overcurrent => exact h.overcurrent ..
  case gateStuck => exact h.gateStuck ..
  case shootThroughAttempt => exact h.shootThrough ..
  case bootRefresh => exact h.bootRefresh ..
  case bootUv => exact h.bootUv ..
  case chopperSwitch => exact h.chopperSwitch ..
  case chopperFail => exact h.chopperFail ..
  case linkOv => exact h.linkOv ..
  case linkTrip => exact h.linkTrip ..
  case solShort => exact h.solShort ..
  case solOpen => exact h.solOpen ..
  case solDeviation => exact h.solDeviation ..
  case enReadback => exact h.enReadback ..
  case ssFault => exact h.ssFault ..
  case testPulseStart => exact h.pulseStart ..
  case testPulseRelease => exact .ite (h.pulseRelease ..) _ h
  case halfStart => exact .ite (h.halfStart ..) _ h
  case xdisInLow => exact h.xdisInLow ..
  case xdisInHigh => exact h.xdisInHigh ..
  case xdisGraceExpiry => exact h.xdisGrace ..
  case handoverTimeout => exact h.handoverTimeout ..
  case isolateLimpExpiry => exact h.isolateLimp ..
  case graceExpiry => exact h.graceExpiry ..
  case standstillHoldExpiry => exact h.standstillHold ..
  case flueFrameReceive => exact h.frameReceive ..
  case frameTransmit => exact h.frameTransmit ..
  case damperDiverge => exact h.damperDiverge ..
  case receiverLock => exact h.receiverLock ..
  case lockLoss => exact h.lockLoss ..
  case bypassOpen => exact h.bypassOpen ..
  case bypassClose => exact h.bypassClose ..
  case ppsEdge => exact h.ppsEdge ..
  case ppsLost => exact h.ppsLost ..
  case countStep => exact h.posTake ..
  case indexEdge => exact h.posTake ..
  case probeEdge => exact h.posTake ..
  case serialReadStart => exact .ite (h.serialStart ..) _ h
  case serialWordEnd => exact h.posTake ..
  case serialTimeout => exact h.serialTimeout ..
  case passThroughFrame => exact .ite (h.setPos ..) _ h
  case sequenceStart => exact h.sequenceStart ..
  case conversionComplete => exact .when (h.conversion ..) _ _ fun _ hu => hu.keepIntake ..
  case referenceCheck => exact .ite (h.referenceCheck ..) _ h
  case openWirePeriod => exact h.ite _ (.ite (h.fields ..) _ (h.owStart ..))
  case adcStart => exact .ite (h.adcStart ..) _ h
  case canFrameReceive => exact h.canReceive ..
  case canFrameEnd => exact h.canFrameEnd ..
  case busOffRecovery => exact h.canRecover ..
  case claimStands => exact h.claimStands ..
  case sectionControlTimeout => exact h.sectionTimeout ..
  case ethFrameReceive => exact h.ethReceive ..
  case pauseRepeat => exact h.pauseRepeat ..
  case lowWater => exact h.lowWater ..
  case pauseExpiry => exact .ite (h.ethResume ..) _ h
  case phyPoll => exact h.phyPoll ..
  case ptpSync => exact h.ptpSync ..
  case announce => exact .ite (h.ethSend ..) _ h
  case arpExpiry => exact .ite (h.setEth ..) _ h
  case hello =>
    dsimp only
    split
    · exact h
    · exact h.ite _ (.ite ((h.feedDrain ..).feedError ..) _ (h.ite _ ((h.feedDrain ..).hello ..)))
  case pose => exact h.feedTake _ _ fun _ _ _ _ _ hu => hu.poseMsg ..
  case tile => exact h.feedTake _ _ fun _ _ _ _ _ hu => hu.tileMsg ..
  case events => exact h.feedTake _ _ fun _ _ _ _ _ hu => hu.eventsMsg ..
  case setpoint => exact h.feedTake _ _ fun _ _ _ _ _ hu => hu.setpointMsg ..
  case tileDrop => exact h.feedTake _ _ fun _ _ _ _ _ hu => hu.dropMsg ..
  case bye => exact h.feedTake _ _ fun _ _ _ _ _ hu => (hu.feedAccept ..).sessionEnd
  case credit => exact .ite (h.credit ..) _ h
  case tileReq => exact .ite (h.tileReq ..) _ h
  case tileTimeout => exact h.tileTimeout ..
  case sessionTimeout => exact .ite (h.sessionEnd ..) _ h
  case setpointTimeout => exact h.spTimeout ..
  case shutdownRequest => exact h.shutdownRequest ..
  case dormantRelease => exact h.dormantRelease ..
  case rtcAlarm => exact h.rtcAlarm ..
  case wakeTimeout => exact h.wakeTimeout ..
  case vbatLoss => exact h.vbatLoss ..
  case xt32Fail => exact h.xt32Fail ..
  case xt32Return => exact h.xt32Return ..
  case pllLoss => exact h.pllLoss ..
  case xt25Fail => exact h.xt25Fail ..
  case vsupUv => exact h.vsupUv ..
  case vsupOv => exact h.vsupOv ..
  case coreOv => exact .ite (h.raiseLevel ..) _ h
  case vioFault => exact h.vioFault ..
  case vgdFault => exact h.vgdFault ..
  case vbatLow => exact h.vbatLow ..
  case tempConversion => exact h.tempConversion ..
  case voteWithdraw => exact .ite (h.domUnvote ..) _ h
  case voteSet => exact .ite (h.domVote ..) _ h
  case domainStepReady => exact .ite (h.domReady ..) _ h
  case domainTimeout => exact .ite (h.domTimeout ..) _ h
  case rollingTestStart => exact h.rollStart ..
  case rollingTestEnd => exact h.rollEnd ..
  case clockMarginMeasure => exact h.clockMargin ..
  case trimSettle => exact .ite (h.fields ..) _ h
  case shuntDriftMeasure => exact h.shuntDrift ..
  case fetMeasure => exact h.fetMeasure ..
  case crystalDriftMeasure => exact h.crystalDrift ..
  case holdupCheck => exact h.holdupCheck ..
  case ashAppend => exact h.ashAppend ..
  case journalFreeze => exact h.journalFreeze ..
  case holdupRelease => exact h.holdupRelease ..
  case registerWrite => exact h.writeWord ..
  case sysSwreset => exact h.inService _ _ fun _ hu => hu.swreset ..
  case imgFloorRaise => exact h.inService _ _ fun _ hu => hu.floorRaise ..
  case imgKeyRevoke => exact h.inService _ _ fun _ hu => hu.keyRevoke ..
  case imgLifecycleReq => exact h.inService _ _ fun _ hu => hu.lifecycleReq ..
  case lifecycleFuse => exact h.lifecycleFuse ..
  case bstFuseCmd => exact h.inService _ _ fun _ hu => hu.fuseCmd ..
  case jrnReplayCmd => exact h.jrnReplayCmd ..
  case lawEditWord => exact .ite (h.inService _ _ fun _ hu => hu.editWord ..) _ h
  case fltForce => exact h.fltForce ..
  case sysTickLo => exact .ite (h.latchTick ..) _ h
  case fluTimeLo => exact .ite (h.latchFlue ..) _ h
  case clkRtcLo => exact .ite (h.latchRtc ..) _ h
  case messageSend => exact h.messageSend ..
  case messageTake => exact h.messageTake ..
  case mbxDbPend => exact h.doorbellWrite ..
  case longWait => exact h.longWait ..
  case serviceRequest => exact h.serviceRequest ..
  case read => exact h.svcRead ..
  case write => exact h.svcWrite ..
  case ashRead => exact h.svcAshRead ..
  case enterService => exact h.svcEnter ..
  case replayAbort => exact h.svcAbort ..
  case flashErase => exact h.svcErase ..
  case flashProgram => exact h.svcProgram ..
  case flashRead => exact h.svcFlashRead ..
  case otpKey => exact h.svcKey ..
  case nvmOperationComplete => exact h.nvmComplete ..
  case svcAbandon => exact h.svcAbandon ..
  case vbatApplied => exact h.vbatApplied ..
  case supplyMonitorClear => exact h.supplyClear ..
  case serialRetry => exact .ite (h.serialStart ..) _ h
  case canArbitration => exact h.canArbitrate ..
  case jtagInstruction => exact h.jtag ..

theorem step_leads (s t : State) (ht : step s = .next t) : { s with pending := s.pending.tail }.Leads t := by
  unfold step at ht
  split at ht
  next hp =>
    cases ht
    rw [show s.pending.tail = s.pending by rw [hp]; rfl]
    exact .refl s
  next c cs hp =>
    rw [hp]
    exact exec_leads _ _ _ ht

/-- Settles O58: a step leads on from the state with the queue's rest, whose memories are the same. -/
theorem stepKeepsMemories : Obligations.StepKeepsMemories := by
  unfold Obligations.StepKeepsMemories
  exact fun s t hs ht => (step_leads s t ht).mem hs

/-- Settles O59: a step leads on from the state with the queue's rest, whose OTP array and operations in hand are the same. -/
theorem stepGrowsOtp : Obligations.StepGrowsOtp := by
  unfold Obligations.StepGrowsOtp
  exact fun s t hl hk ht => (step_leads s t ht).otp ⟨hl, hk⟩

/-- No command is refused. -/
theorem exec_runs (c : Instr) (s : State) : ∃ t, exec c s = .next t := by
  cases c <;> exact ⟨_, rfl⟩

/-- Settles O54: every arm of `exec` answers a next state, and what it leads to has the same queue. -/
theorem everyCommandRuns : Obligations.EveryCommandRuns := by
  unfold Obligations.EveryCommandRuns
  intro c s
  obtain ⟨t, ht⟩ := exec_runs c s
  exact ⟨t, ht, (exec_leads c s t ht).pending⟩

/-- A die without supply. -/
def State.dark : State := { State.reset with sys := { phase := .off, vsup := false } }

/-- Refutes O60: a COUNT_STEP sampled at the next tick start, sent to a die that is off, is kept for that tick in the hidden state of its
position interface, which is not of the Ember domain. -/
theorem not_unpoweredDie : ¬ Obligations.UnpoweredDie := by
  unfold Obligations.UnpoweredDie
  rintro ⟨h, -, -⟩
  obtain ⟨e, he⟩ := h (.countStep 0 31250 0 0) State.dark rfl rfl fun _ => Instr.noConfusion
  have hlate : [Instr.countStep 0 31250 0 0] = [] := congrArg (fun t : State => (t.pos 0).late) (Host.Outcome.next.inj he)
  exact absurd hlate (by simp)

end Sys2Proof.Machine
end

section
/-!
# What a command leaves alone

`State.Within bs r t` says that from `r` to `t` no register outside the 64 KB blocks `bs` changes, and none of the four memories and fuses.
Like `State.Leads` it is followed backwards through a chain of updates: a lemma `State.Within.f` says that where `r` stands so to `s`, it
stands so to `s.f`. `State.Only as r t` is the same for a list of register addresses, without the memories.
-/
namespace Sys2Proof.Machine

open Sys2Proof

/-- The outcome of a command whose next state is known under another name. -/
theorem next_congr {s t : State} (h : s = t) : (.next s : Host.Outcome State Fault Refusal) = .next t := congrArg _ h

/-! ### Flags and fields -/

theorem State.flag_eq (s : State) (f : Fld) : s.flag f = decide (s.getF f ≠ 0) := rfl

theorem State.flag_congr {s t : State} {f : Fld} (h : t.getF f = s.getF f) : t.flag f = s.flag f := by
  rw [State.flag_eq, State.flag_eq, h]

theorem State.getF_congr {s t : State} {f : Fld} (h : t.reg f.addr = s.reg f.addr) : t.getF f = s.getF f := congrArg f.get h

theorem Fld.two_le_of_ok {f : Fld} (h : f.ok = true) : 2 ≤ 2 ^ f.width := by
  simp only [Fld.ok, Bool.and_eq_true, decide_eq_true_eq] at h
  have hw : 1 ≤ f.width := by unfold Fld.width; omega
  calc 2 = 2 ^ 1 := rfl
    _ ≤ 2 ^ f.width := Nat.pow_le_pow_right (by decide) hw

theorem State.getF_setFlag_same (s : State) (f : Fld) (b : Bool) (h : f.ok = true) : (s.setFlag f b).getF f = b2n b := by
  have hw := Fld.two_le_of_ok h
  rw [State.setFlag, State.getF_setF_same _ _ _ h]
  cases b
  · exact Nat.zero_mod _
  · exact Nat.mod_eq_of_lt (show 1 < 2 ^ f.width from hw)

theorem State.flag_setFlag_same (s : State) (f : Fld) (b : Bool) (h : f.ok = true) : (s.setFlag f b).flag f = b := by
  rw [State.flag_eq, State.getF_setFlag_same _ _ _ h]
  cases b <;> rfl

theorem State.getF_setFlag_apart (s : State) (f g : Fld) (b : Bool) (hf : f.ok = true) (h : f.apart g = true) :
    (s.setFlag f b).getF g = s.getF g :=
  State.getF_setF_apart s f g _ hf h

theorem State.flag_setFlag_apart (s : State) (f g : Fld) (b : Bool) (hf : f.ok = true) (h : f.apart g = true) :
    (s.setFlag f b).flag g = s.flag g :=
  State.flag_congr (State.getF_setF_apart s f g _ hf h)

theorem State.flag_setF_apart (s : State) (f g : Fld) (v : Nat) (hf : f.ok = true) (h : f.apart g = true) : (s.setF f v).flag g = s.flag g :=
  State.flag_congr (State.getF_setF_apart s f g _ hf h)

theorem State.flag_incF_apart (s : State) (f g : Fld) (hf : f.ok = true) (h : f.apart g = true) : (s.incF f).flag g = s.flag g :=
  State.flag_congr (State.getF_incF_apart s f g hf h)

theorem State.flag_event_other (s : State) (e : EvBlk) (b : Nat) (g : Fld) (h : e.ev.addr ≠ g.addr) : (s.event e b).flag g = s.flag g :=
  State.flag_congr (State.getF_event_other s e b g h)

theorem State.getF_when (s : State) (c : Bool) (f : State → State) (g : Fld) (h : (f s).getF g = s.getF g) : (s.when c f).getF g = s.getF g := by
  cases c
  · rfl
  · exact h

theorem State.getF_each {α : Type} (s : State) (l : List α) (f : State → α → State) (g : Fld) (h : ∀ u a, (f u a).getF g = u.getF g) :
    (s.each l f).getF g = s.getF g :=
  State.each_keeps (fun t => t.getF g = s.getF g) f (fun u a hu => (h u a).trans hu) l s rfl

/-- New hidden state leaves the fields alone. -/
theorem State.getF_mk (s : State) (f : Fld) (tiles mram flash otp ember sys doms flu img gr lds flt gdr mots adc poss sps cans eths feedq map
    sec saf cmps jrn ash age mbx svc free pending) :
    State.getF ⟨s.regs, tiles, mram, flash, otp, ember, sys, doms, flu, img, gr, lds, flt, gdr, mots, adc, poss, sps, cans, eths, feedq, map,
      sec, saf, cmps, jrn, ash, age, mbx, svc, free, pending⟩ f = s.getF f := rfl

/-! ### Registers by block, with the memories -/

/-- No register outside the blocks `bs` differs, and no memory. -/
def State.Within (bs : List Nat) (r t : State) : Prop := r.SameRegs bs t ∧ r.SameStores t

theorem State.Within.refl (bs : List Nat) (s : State) : s.Within bs s := ⟨fun _ _ => rfl, rfl, rfl, rfl, rfl⟩

theorem State.Within.trans {bs : List Nat} {r s t : State} (h : r.Within bs s) (k : s.Within bs t) : r.Within bs t := by
  obtain ⟨hr, h1, h2, h3, h4⟩ := h
  obtain ⟨kr, k1, k2, k3, k4⟩ := k
  exact ⟨fun a ha => (kr a ha).trans (hr a ha), k1.trans h1, k2.trans h2, k3.trans h3, k4.trans h4⟩

theorem State.Within.mono {bs cs : List Nat} {r t : State} (h : r.Within bs t) (hc : ∀ b ∈ bs, b ∈ cs) : r.Within cs t :=
  ⟨fun a ha => h.1 a fun hb => ha (hc _ hb), h.2⟩

theorem State.Confined.within {bs : List Nat} {s t : State} (h : s.Confined bs t) : s.Within bs t := by
  obtain ⟨hr, r, f, j, g, m, rfl⟩ := h
  exact ⟨hr, rfl, rfl, rfl, rfl⟩

theorem State.Within.getF {bs : List Nat} {r t : State} (h : r.Within bs t) (g : Fld) (hg : g.addr / 0x10000 ∉ bs) : t.getF g = r.getF g :=
  State.getF_congr (h.1 _ hg)

theorem State.Within.flag {bs : List Nat} {r t : State} (h : r.Within bs t) (g : Fld) (hg : g.addr / 0x10000 ∉ bs) : t.flag g = r.flag g :=
  State.flag_congr (h.getF g hg)

theorem State.mode_congr {s t : State} (hp : t.sys.phase = s.sys.phase) (h : t.getF F.SYS_MODE_MODE = s.getF F.SYS_MODE_MODE) :
    t.mode = s.mode := by
  unfold State.mode
  rw [hp, h]

theorem State.Within.mode {bs : List Nat} {r t : State} (h : r.Within bs t) (h0 : 0x4000 ∉ bs) (hp : t.sys.phase = r.sys.phase) :
    t.mode = r.mode :=
  State.mode_congr hp (h.getF _ h0)

theorem State.fltAction_congr {s t : State} {n : Nat} (h : t.getF (F.FLT_SRC_REACTION n) = s.getF (F.FLT_SRC_REACTION n)) :
    t.fltAction n = s.fltAction n := by
  unfold State.fltAction
  rw [h]

theorem FLT_SRC_REACTION_block (n : Nat) (hn : n < 256) : (F.FLT_SRC_REACTION n).addr / 0x10000 = 0x4003 := by
  simp only [F.FLT_SRC_REACTION]
  omega

theorem State.Within.fltAction {bs : List Nat} {r t : State} (h : r.Within bs t) (h3 : 0x4003 ∉ bs) (n : Nat) (hn : n < 256) :
    t.fltAction n = r.fltAction n :=
  State.fltAction_congr (h.getF _ (by rwa [FLT_SRC_REACTION_block n hn]))

/-- A source stays quiet where neither the mode nor the collector's registers change. -/
theorem State.Within.quiet {bs : List Nat} {r t : State} (h : r.Within bs t) (h0 : 0x4000 ∉ bs) (h3 : 0x4003 ∉ bs)
    (hp : t.sys.phase = r.sys.phase) {n : Nat} (hn : n < 256) (hq : r.Quiet n) : t.Quiet n := by
  unfold State.Quiet
  rwa [h.fltAction h3 n hn, h.mode h0 hp]

section
variable {bs : List Nat} {r s : State} (hs : r.Within bs s)
include hs

theorem State.Within.setReg (a : Nat) (w : Word) (h : a / 0x10000 ∈ bs) : r.Within bs (s.setReg a w) :=
  hs.trans ⟨fun b hb => State.reg_setReg_other s a b w fun e => hb (e ▸ h), rfl, rfl, rfl, rfl⟩

theorem State.Within.setF (f : Fld) (v : Nat) (h : f.addr / 0x10000 ∈ bs) : r.Within bs (s.setF f v) := hs.setReg _ _ h
theorem State.Within.setFlag (f : Fld) (b : Bool) (h : f.addr / 0x10000 ∈ bs) : r.Within bs (s.setFlag f b) := hs.setReg _ _ h
theorem State.Within.addF (f : Fld) (n : Nat) (h : f.addr / 0x10000 ∈ bs) : r.Within bs (s.addF f n) := hs.setReg _ _ h
theorem State.Within.incF (f : Fld) (h : f.addr / 0x10000 ∈ bs) : r.Within bs (s.incF f) := hs.setReg _ _ h
theorem State.Within.peakF (f : Fld) (v : Nat) (h : f.addr / 0x10000 ∈ bs) : r.Within bs (s.peakF f v) := hs.setReg _ _ h

theorem State.Within.event (e : EvBlk) (b : Nat) (h : e.ev.addr / 0x10000 ∈ bs) : r.Within bs (s.event e b) :=
  hs.trans (State.confined_event bs s e b h).within

/-- New hidden state. -/
theorem State.Within.hidden (ember sys doms flu img gr lds flt gdr mots adc poss sps cans eths feedq map sec saf cmps jrn ash age mbx svc free
    pending) :
    r.Within bs ⟨s.regs, s.tiles, s.mram, s.flash, s.otp, ember, sys, doms, flu, img, gr, lds, flt, gdr, mots, adc, poss, sps, cans, eths,
      feedq, map, sec, saf, cmps, jrn, ash, age, mbx, svc, free, pending⟩ :=
  hs.trans ⟨fun _ _ => rfl, rfl, rfl, rfl, rfl⟩

theorem State.Within.ashRequest (type flags : Nat) (body : List Byte) : r.Within bs (s.ashRequest type flags body) := hs.hidden ..

theorem State.Within.marker (kind id data : Nat) : r.Within bs (s.marker kind id data) := hs.hidden ..

theorem State.Within.ite (c : Prop) [Decidable c] {t : State} (k : r.Within bs t) : r.Within bs (if c then s else t) := by
  split
  · exact hs
  · exact k

theorem State.Within.when (c : Bool) (f : State → State) (hf : ∀ u, r.Within bs u → r.Within bs (f u)) : r.Within bs (s.when c f) := by
  cases c
  · exact hs
  · exact hf s hs

theorem State.Within.each {α : Type} (l : List α) (f : State → α → State) (hf : ∀ u, ∀ a ∈ l, r.Within bs u → r.Within bs (f u a)) :
    r.Within bs (s.each l f) := by
  unfold State.each
  induction l generalizing s with
  | nil => exact hs
  | cons a l ih =>
    exact ih (hf s a List.mem_cons_self hs) fun u b hb => hf u b (List.mem_cons_of_mem a hb)

theorem State.Within.raiseTimed (n : Nat) (us : Option Nat) (hb : ∀ b ∈ raiseBlocks, b ∈ bs) (hn : n < 256) (hq : s.Quiet n) :
    r.Within bs (s.raiseTimed n us) :=
  hs.trans ((State.confined_raise s n us hn hq).within.mono hb)

theorem State.Within.raise (n : Nat) (hb : ∀ b ∈ raiseBlocks, b ∈ bs) (hn : n < 256) (hq : s.Quiet n) : r.Within bs (s.raise n) :=
  hs.raiseTimed n none hb hn hq

theorem State.Within.raiseLevel (n : Nat) (hb : ∀ b ∈ raiseBlocks, b ∈ bs) (hn : n < 256) (hq : s.Quiet n) : r.Within bs (s.raiseLevel n) :=
  hs.trans ((State.confined_raiseLevel s n none hn hq).within.mono hb)

theorem State.Within.clearLevel (n : Nat) (hb : 0x4003 ∈ bs) (hn : n < 256) : r.Within bs (s.clearLevel n) :=
  hs.trans ((State.confined_clearLevel s n hn).within.mono (by simpa using hb))

end

/-! ### Registers by address -/

theorem State.OnlyRegs.refl (as : List Nat) (s : State) : s.OnlyRegs as s := fun _ _ => rfl

section
variable {as : List Nat} {r s : State} (hs : r.OnlyRegs as s)
include hs

theorem State.OnlyRegs.setReg (a : Nat) (w : Word) (h : a ∈ as) : r.OnlyRegs as (s.setReg a w) :=
  fun b hb => (State.reg_setReg_other s a b w fun e => hb (e ▸ h)).trans (hs b hb)

theorem State.OnlyRegs.setF (f : Fld) (v : Nat) (h : f.addr ∈ as) : r.OnlyRegs as (s.setF f v) := hs.setReg _ _ h
theorem State.OnlyRegs.setFlag (f : Fld) (b : Bool) (h : f.addr ∈ as) : r.OnlyRegs as (s.setFlag f b) := hs.setReg _ _ h
theorem State.OnlyRegs.incF (f : Fld) (h : f.addr ∈ as) : r.OnlyRegs as (s.incF f) := hs.setReg _ _ h

/-- New hidden state and memories. -/
theorem State.OnlyRegs.of_regs {t : State} (h : t.regs = s.regs) : r.OnlyRegs as t := fun a ha =>
  (show t.reg a = s.reg a by unfold State.reg; rw [h]).trans (hs a ha)

end

end Sys2Proof.Machine
end

section
/-!
# Resets, supplies and the whole device
-/
namespace Sys2Proof.Machine

open Sys2Proof

/-! ### A reset -/

theorem Cause.bit_le (c : Cause) : c.bit ≤ 6 := by cases c <;> decide

theorem Mode.code_lt (m : Mode) : m.code < 16 := by cases m <;> decide

/-- What a reset keeps of a state, before it writes the cause and the mode that was left. -/
def State.cleared (s : State) : State :=
  { regs := [], mram := s.mram, flash := s.nvmTorn.flash, otp := s.nvmTorn.otp,
    ember := { s.ember with rtcValid := s.ember.rtcValid || s.ember.validAtReset, validAtReset := false },
    sys := { vsup := s.sys.vsup, vioLow := s.sys.vioLow, vioUnder := s.sys.vioUnder, strap := s.sys.strap }, free := s.nvmTorn.free,
    pending := s.pending }

theorem State.resetWith_eq (s : State) (c : Cause) :
    s.resetWith c = ((s.cleared.setF F.SYS_RESET_CAUSE_POR.word (2 ^ c.bit)).setF F.SYS_MODE_PREV_MODE s.mode.code).ashRequest 2 0
      (modeBody .load s.mode 2 0 0) := rfl

theorem State.cleared_reg (s : State) (a : Nat) : s.cleared.reg a = regReset a := rfl

theorem Fld.put_word (f : Fld) (w : Word) (v : Nat) : f.word.put w v = BitVec.ofNat 32 v := by
  apply BitVec.eq_of_toNat_eq
  simp only [Fld.put, Fld.word, Fld.width, BitVec.toNat_ofNat]
  have := w.isLt
  omega

theorem State.reg_ashRequest (s : State) (type flags : Nat) (body : List Byte) (a : Nat) : (s.ashRequest type flags body).reg a = s.reg a := rfl

theorem State.resetWith_reg (s : State) (c : Cause) (a : Nat) :
    (s.resetWith c).reg a = ((s.cleared.setF F.SYS_RESET_CAUSE_POR.word (2 ^ c.bit)).setF F.SYS_MODE_PREV_MODE s.mode.code).reg a := by
  rw [State.resetWith_eq, State.reg_ashRequest]

theorem State.resetWith_reg_other (s : State) (c : Cause) (a : Nat) (h1 : a ≠ 0x40000018) (h2 : a ≠ 0x4000000C) :
    (s.resetWith c).reg a = regReset a := by
  rw [State.resetWith_reg, State.reg_setF_other _ _ _ _ (Ne.symm h2), State.reg_setF_other _ _ _ _ (Ne.symm h1), State.cleared_reg]

theorem State.resetWith_cause (s : State) (c : Cause) : (s.resetWith c).reg 0x40000018 = BitVec.ofNat 32 (2 ^ c.bit) := by
  rw [State.resetWith_reg, State.reg_setF_other _ _ _ _ (by decide), State.setF, Fld.put_word]
  exact State.reg_setReg_same _ 0x40000018 _

theorem State.resetWith_getF (s : State) (c : Cause) (f : Fld) :
    (s.resetWith c).getF f = ((s.cleared.setF F.SYS_RESET_CAUSE_POR.word (2 ^ c.bit)).setF F.SYS_MODE_PREV_MODE s.mode.code).getF f :=
  State.getF_congr (s.resetWith_reg c f.addr)

theorem State.resetWith_prev (s : State) (c : Cause) : (s.resetWith c).getF F.SYS_MODE_PREV_MODE = s.mode.code := by
  rw [State.resetWith_getF, State.getF_setF_same _ _ _ (by decide)]
  exact Nat.mod_eq_of_lt s.mode.code_lt

theorem State.resetWith_phase (s : State) (c : Cause) : (s.resetWith c).sys.phase = .held := by
  rw [State.resetWith_eq]
  rfl

theorem State.resetWith_mode (s : State) (c : Cause) : (s.resetWith c).mode = .load := by
  have h : (s.resetWith c).getF F.SYS_MODE_MODE = ({} : State).getF F.SYS_MODE_MODE := by
    rw [State.resetWith_getF, State.getF_setF_apart _ _ _ _ (by decide) (by decide), State.getF_setF_apart _ _ _ _ (by decide) (by decide)]
    rfl
  unfold State.mode
  rw [State.resetWith_phase, h]
  rfl

theorem State.doReset_powered (s : State) (c : Cause) (h : s.sys.phase = .run ∨ s.sys.phase = .held) : s.doReset c = s.resetWith c := by
  unfold State.doReset
  rw [if_neg]
  rcases h with h | h <;> simp [h]


theorem State.resetWith_ember (s : State) (c : Cause) :
    (s.resetWith c).ember = { s.ember with rtcValid := s.ember.rtcValid || s.ember.validAtReset, validAtReset := false } := by
  rw [State.resetWith_eq, State.ashRequest_ember, State.setF_ember, State.setF_ember]
  rfl

theorem State.resetWith_tiles (s : State) (c : Cause) : (s.resetWith c).tiles = [] := by
  rw [State.resetWith_eq, State.ashRequest_tiles, State.setF_tiles, State.setF_tiles]
  rfl

theorem State.resetWith_mram (s : State) (c : Cause) : (s.resetWith c).mram = s.mram := by
  rw [State.resetWith_eq, State.ashRequest_mram, State.setF_mram, State.setF_mram]
  rfl

theorem State.resetWith_vsup (s : State) (c : Cause) : (s.resetWith c).sys.vsup = s.sys.vsup := by
  rw [State.resetWith_eq, State.ashRequest_sys, State.setF_sys, State.setF_sys]
  rfl

/-- With no operation running a reset tears nothing. -/
theorem State.resetWith_nvm (s : State) (c : Cause) (h : s.svc.nvm = none) : (s.resetWith c).flash = s.flash ∧ (s.resetWith c).otp = s.otp := by
  have hn : s.nvmTorn = s := by
    unfold State.nvmTorn
    rw [h]
  rw [State.resetWith_eq, State.ashRequest_flash, State.setF_flash, State.setF_flash, State.ashRequest_otp, State.setF_otp, State.setF_otp]
  exact ⟨show s.nvmTorn.flash = s.flash by rw [hn], show s.nvmTorn.otp = s.otp by rw [hn]⟩

theorem State.resetBy_powered (s : State) (c : Cause) (same : Bool) (hp : s.sys.phase = .run ∨ s.sys.phase = .held)
    (h : same = true → s.sys.phase = .run) : s.resetBy c same = s.resetWith c := by
  unfold State.resetBy
  rw [if_neg, State.doReset_powered s c hp]
  rintro ⟨hs, hh⟩
  rw [h hs] at hh
  exact absurd hh (by decide)

theorem State.setF_word (s : State) (f : Fld) (v : Nat) : s.setF f.word v = s.setReg f.addr (BitVec.ofNat 32 v) :=
  congrArg (s.setReg f.addr) (f.put_word _ v)

theorem State.getF_word (s : State) (f : Fld) : s.getF f.word = (s.reg f.addr).toNat := by
  have := (s.reg f.addr).isLt
  simp only [State.getF, Fld.get, Fld.word, Fld.width]
  omega

/-- Of two causes in one fabric cycle the lower bit stands (R31). -/
theorem State.resetBy_same (s : State) (c : Cause) (h : s.sys.phase = .held) :
    s.resetBy c true =
      if 2 ^ c.bit < (s.reg 0x40000018).toNat then s.setReg 0x40000018 (BitVec.ofNat 32 (2 ^ c.bit)) else s := by
  unfold State.resetBy
  simp only [h, State.getF_word, State.setF_word, State.when, decide_eq_true_eq, and_self, if_true]
  rfl

theorem State.inService_service (s : State) (a : Nat) (f : State → State) (hr : s.sys.phase = .run) (hm : s.mode = .service) :
    s.inService a f = f s := by
  simp [State.inService, State.running, hr, hm]

theorem exec_sysSwreset (s : State) (key : Nat) (hr : s.sys.phase = .run) (hm : s.mode = .service) :
    exec (.sysSwreset key) s = .next (s.swreset key) := next_congr (s.inService_service _ _ hr hm)

theorem State.swreset_key (s : State) : s.swreset 0x9A30 = s.doReset .service := if_pos rfl

/-- The commands of ResetCommands that reset whatever went before, with their cause. -/
theorem exec_resets (s : State) (c : Instr) (bit : Nat)
    (hc : c = .pinReset false ∧ bit = 3 ∨ c = .coreUnderVoltage false ∧ bit = 2 ∨
      c = .pinReset true ∧ bit = 3 ∧ s.sys.phase = .run ∨ c = .coreUnderVoltage true ∧ bit = 2 ∧ s.sys.phase = .run ∨
      c = .sysSwreset 0x9A30 ∧ bit = 6 ∧ s.sys.phase = .run ∧ s.mode = .service)
    (hp : s.sys.phase = .run ∨ s.sys.phase = .held) : ∃ x : Cause, x.bit = bit ∧ exec c s = .next (s.resetWith x) := by
  rcases hc with ⟨rfl, rfl⟩ | ⟨rfl, rfl⟩ | ⟨rfl, rfl, hr⟩ | ⟨rfl, rfl, hr⟩ | ⟨rfl, rfl, hr, hm⟩
  · exact ⟨.pin, rfl, next_congr (s.resetBy_powered .pin false hp nofun)⟩
  · exact ⟨.coreUv, rfl, next_congr (s.resetBy_powered .coreUv false hp nofun)⟩
  · exact ⟨.pin, rfl, next_congr (s.resetBy_powered .pin true hp fun _ => hr)⟩
  · exact ⟨.coreUv, rfl, next_congr (s.resetBy_powered .coreUv true hp fun _ => hr)⟩
  · exact ⟨.service, rfl, (exec_sysSwreset s _ hr hm).trans (next_congr (s.swreset_key.trans (s.doReset_powered .service hp)))⟩

/-- Settles O3: each command is `State.resetWith` under its cause, or adds its cause to a reset in hand. -/
theorem resetCommands : Obligations.ResetCommands := by
  unfold Obligations.ResetCommands
  refine ⟨fun s c bit hc hp => ?_, fun s c bit hc hh => ?_⟩
  · obtain ⟨x, rfl, hx⟩ := exec_resets s c bit hc hp
    exact ⟨_, hx, s.resetWith_phase x, s.resetWith_mode x, s.resetWith_cause x, s.resetWith_prev x, s.resetWith_reg_other x,
      s.resetWith_tiles x, s.resetWith_mram x, s.resetWith_nvm x, s.resetWith_ember x⟩
  · have hx : ∃ x : Cause, x.bit = bit ∧ exec c s = .next (s.resetBy x true) := by
      rcases hc with ⟨rfl, rfl⟩ | ⟨rfl, rfl⟩
      · exact ⟨.pin, rfl, rfl⟩
      · exact ⟨.coreUv, rfl, rfl⟩
    obtain ⟨x, rfl, hx⟩ := hx
    refine ⟨_, hx, ?_⟩
    rw [s.resetBy_same x hh]
    split
    · exact ⟨State.reg_setReg_same .., (State.OnlyRegs.refl _ s).setReg _ _ (by decide), rfl⟩
    · exact ⟨rfl, State.OnlyRegs.refl _ s, rfl⟩

/-! ### The supply comes -/

theorem State.Within.alignTick {bs : List Nat} {r s : State} (hs : r.Within bs s) (hb : 0x400D ∈ bs) (t : Nat) : r.Within bs (s.alignTick t) :=
  ((hs.hidden ..).setReg _ _ hb).hidden ..

theorem State.wakeTime_within (s : State) (valid : Bool) : s.Within [0x4001, 0x400D] (s.wakeTime valid) :=
  ((((((State.Within.refl _ s).setReg _ _ (by decide)).setF _ _ (by decide)).setReg _ _ (by decide)).setFlag _ _ (by decide)).setFlag _ _
    (by decide)).alignTick (by decide) _

/-- What VSUP_VALID writes after the reset. -/
def State.woken (s : State) (valid wake : Bool) : State :=
  ((s.wakeTime valid).setFlag F.PWR_STATUS_WAKE_RTC wake).setFlag F.PWR_WAKE_STAT_RTC_WAKE wake

theorem State.woken_within (s : State) (valid wake : Bool) : s.Within [0x4001, 0x400D] (s.woken valid wake) :=
  ((s.wakeTime_within valid).setFlag _ _ (by decide)).setFlag _ _ (by decide)

theorem State.woken_keeps (s : State) (valid wake : Bool) : (s.woken valid wake).sys = s.sys ∧ (s.woken valid wake).ember = s.ember ∧
    (s.woken valid wake).mram = s.mram := by
  simp only [State.woken, State.wakeTime, State.alignTick, State.setTime, State.setFlag_sys, State.setFlag_ember, State.setFlag_mram,
    State.setReg_sys, State.setReg_ember, State.setReg_mram, State.setF_sys, State.setF_ember, State.setF_mram, and_self]

theorem State.rtcRun_vbat (s : State) (n : Nat) (h : s.ember.vbat = true) :
    s.rtcRun n = { s with ember := { s.ember with rtc := (s.ember.rtc + n) % 2 ^ 48 } } := if_pos h

theorem State.rtcRun_mram (s : State) (n : Nat) : (s.rtcRun n).mram = s.mram := by
  unfold State.rtcRun
  split <;> rfl

/-- The Ember domain and the supply as VSUP_VALID leaves them, before the reset. -/
def State.supplied (s : State) (elapsed : Nat) : State :=
  let s1 := s.rtcRun elapsed
  let s2 : State := { s1 with sys := { s1.sys with vsup := true },
                              ember := { s1.ember with pwrReq := true, waking := false,
                                                       wakeCnt := min (2 ^ 32 - 1) (s1.ember.wakeCnt + b2n s.ember.waking) } }
  s2.when s.ember.waking State.armAlarm

theorem State.vsupValid_eq (s : State) (elapsed : Nat) (h : s.sys.vsup = false) :
    s.vsupValid elapsed =
      ((s.supplied elapsed).resetWith (if s.ember.waking then .rtcWake else .por)).woken s.ember.rtcValid s.ember.waking := by
  unfold State.vsupValid
  rw [if_neg (by simp [h])]
  rfl

theorem State.supplied_ember (s : State) (elapsed : Nat) :
    (s.supplied elapsed).sys.vsup = true ∧ (s.supplied elapsed).ember.pwrReq = true ∧ (s.supplied elapsed).ember.waking = false ∧
      (s.supplied elapsed).mram = s.mram := by
  refine ⟨?_, ?_, ?_, ?_⟩ <;> unfold State.supplied State.when State.armAlarm <;> cases s.ember.waking <;> simp [State.rtcRun_mram]

theorem State.supplied_alarm (s : State) (elapsed : Nat) (hw : s.ember.waking = true) (hv : s.ember.vbat = true) (hp : 0 < s.ember.period) :
    (s.supplied elapsed).ember.alarm = some (((s.ember.rtc + elapsed) % 2 ^ 48 + s.ember.period * 32768) % 2 ^ 48) := by
  unfold State.supplied State.when State.armAlarm
  simp [hw, State.rtcRun_vbat s elapsed hv, Nat.ne_of_gt hp]

/-- Settles O4: what follows the reset writes only the times of PWR and FLU. -/
theorem powerUp : Obligations.PowerUp := by
  unfold Obligations.PowerUp
  intro s elapsed h
  refine ⟨_, next_congr (s.vsupValid_eq elapsed h), ?_⟩
  generalize hu : s.supplied elapsed = u
  obtain ⟨hvs, hreq, hwk, hmram⟩ := s.supplied_ember elapsed
  have halarm := s.supplied_alarm elapsed
  rw [hu] at hvs hreq hwk hmram halarm
  have hphase := u.resetWith_phase (if s.ember.waking then .rtcWake else .por)
  have hmode := u.resetWith_mode (if s.ember.waking then .rtcWake else .por)
  have hcause := u.resetWith_cause (if s.ember.waking then .rtcWake else .por)
  have hvsup := u.resetWith_vsup (if s.ember.waking then .rtcWake else .por)
  have hvmram := u.resetWith_mram (if s.ember.waking then .rtcWake else .por)
  have hember := u.resetWith_ember (if s.ember.waking then .rtcWake else .por)
  generalize u.resetWith (if s.ember.waking then .rtcWake else .por) = v at *
  have hw := v.woken_within s.ember.rtcValid s.ember.waking
  obtain ⟨hsys, hkeep, hwmram⟩ := v.woken_keeps s.ember.rtcValid s.ember.waking
  rw [hsys, hkeep, hwmram, hember, hw.1 _ (by decide), hw.mode (by decide) (by rw [hsys])]
  refine ⟨hphase, hmode, hvsup.trans hvs, hreq, hwk, ?_, hvmram.trans hmram, halarm⟩
  rw [hcause]
  cases s.ember.waking <;> rfl

/-! ### The Ember domain -/

/-- Settles O5: each command is its one update of the Ember values. -/
theorem emberCommands : Obligations.EmberCommands := by
  unfold Obligations.EmberCommands
  refine fun s elapsed => ⟨fun hr hc hv => ?_, fun ha hv ho => ?_, fun hw hs hv hp => ?_, ⟨_, rfl, rfl, rfl⟩, fun hv => ?_⟩
  · refine next_congr (?_ : s.snapshotDue elapsed = _)
    simp [State.snapshotDue, State.snapshot, State.running, hr, hc, hv, State.rtcRun_vbat]
  · refine next_congr (?_ : s.rtcAlarm elapsed = _)
    simp [State.rtcAlarm, State.rtcRun_vbat, ha, hv, ho]
  · refine next_congr (?_ : s.wakeTimeout elapsed = _)
    simp [State.wakeTimeout, State.armAlarm, State.rtcRun_vbat, hw, hs, hv, Nat.ne_of_gt hp]
  · refine ⟨_, next_congr (if_neg (by simp [hv]) : s.vbatApplied = _), rfl, rfl, rfl, rfl, rfl⟩

/-! ### The whole device -/

/-- Settles O1: `step` looks at the front of the queue only. -/
theorem stepRunsFrontCommand : Obligations.StepRunsFrontCommand := by
  unfold Obligations.StepRunsFrontCommand
  refine fun s => ⟨fun c rest h => ?_, fun h => ?_⟩ <;> unfold step <;> rw [h]

theorem State.reset_reg (a : Nat) (h : a ≠ 0x40000018) : State.reset.reg a = regReset a :=
  State.reg_setReg_other ({} : State) 0x40000018 a 1 (Ne.symm h)

/-- Settles O2: the reset state lists SYS_RESET_CAUSE alone. -/
theorem resetState : Obligations.ResetState := by
  unfold Obligations.ResetState
  refine ⟨by decide, rfl, rfl, rfl, State.reset_reg, rfl, rfl, rfl, rfl, rfl, rfl, ⟨by decide, rfl, rfl, rfl⟩, nofun, nofun, ?_⟩
  intro h
  rcases h with h | h <;> exact absurd h (by decide)

/-! ### SYS_SWRESET -/

/-- A write in SERVICE of a register that has a row of its own is that row's command. -/
theorem State.writeWord_own (s : State) (a : Nat) (v : Word) (k : RegKind) (i : Nat) (t : State) (hr : s.sys.phase = .run)
    (hm : s.mode = .service) (ht : ¬(tileBase ≤ a ∧ a < tileBase + 0x800000)) (hk : findReg a = some (k, i))
    (hw : isoAbsent a = false ∧ ¬(k.rw = 0 ∧ k.rl = 0 ∧ k.w1c = 0 ∧ k.wo = 0)) (hf : forceWord a = none)
    (ho : s.writeOwn a v = some t) : (s.writeWord false a v).1 = t := by
  obtain ⟨hi, hw⟩ := hw
  unfold State.writeWord
  rw [if_neg (by simp [State.running, hr]), if_neg ht, hk]
  simp only [hi, hw, decide_false, Bool.or_self, if_neg Bool.false_ne_true, hf, hm, decide_true, Bool.or_true, Bool.not_true, ho,
    Option.getD_some]

theorem findReg_swreset : ∃ k i, findReg 0x4000001C = some (k, i) ∧ ¬(k.rw = 0 ∧ k.rl = 0 ∧ k.w1c = 0 ∧ k.wo = 0) := by
  refine ⟨_, _, rfl, by decide⟩

/-- Settles O55: the key alone resets, and the register's row takes the lower 16 bits. -/
theorem softwareReset : Obligations.SoftwareReset := by
  unfold Obligations.SoftwareReset
  intro s key hr hm _
  have hexec := exec_sysSwreset s key hr hm
  refine ⟨fun hkey => ?_, fun hkey => hexec.trans (next_congr (if_neg hkey)), fun v hv => ?_⟩
  · have hres : s.swreset key = s.resetWith .service := (if_pos hkey).trans (s.doReset_powered .service (.inl hr))
    exact ⟨_, hexec.trans (next_congr hres), s.resetWith_phase _, s.resetWith_mode _, s.resetWith_cause _⟩
  · obtain ⟨k, i, hk, hw⟩ := findReg_swreset
    refine (next_congr ?_).trans hexec.symm
    refine s.writeWord_own _ v k i _ hr hm (by decide) hk ⟨by decide, hw⟩ (by decide) ?_
    unfold State.writeOwn
    rw [if_pos (by decide), hv]

end Sys2Proof.Machine
end

section
/-!
# Raises: what the collector holds afterwards
-/
namespace Sys2Proof.Machine

open Sys2Proof

/-! ### What a raise leaves in the collector -/

@[simp] theorem State.setPlan_flt (s : State) (b : Nat) (p : Option (Nat × Nat)) : (s.setPlan b p).flt = s.flt := rfl
@[simp] theorem State.refreshReact_flt (s : State) : s.refreshReact.flt = s.flt := rfl
@[simp] theorem State.refreshBridge_flt (s : State) (b : Nat) : (s.refreshBridge b).flt = s.flt := by
  unfold State.refreshBridge State.statePlan
  dsimp only
  refine (State.each_flt _ _ _ fun u g => ?_).trans ?_
  · rw [State.setFlag_flt, State.setFlag_flt]
  · simp
@[simp] theorem State.refreshSol_flt (s : State) (k : Nat) : (s.refreshSol k).flt = s.flt := by simp [State.refreshSol]
@[simp] theorem State.refreshEn_flt (s : State) (e : Nat) : (s.refreshEn e).flt = s.flt := by simp [State.refreshEn]
@[simp] theorem State.refreshPower_flt (s : State) : s.refreshPower.flt = s.flt := by
  unfold State.refreshPower
  dsimp only
  rw [State.setFlag_flt, State.setFlag_flt, State.setF_flt, State.each_flt _ _ _ State.refreshEn_flt,
    State.each_flt _ _ _ State.refreshSol_flt, State.each_flt _ _ _ State.refreshBridge_flt]
@[simp] theorem State.brakeRelease_flt (s : State) : s.brakeRelease.flt = s.flt := by
  unfold State.brakeRelease
  split <;> simp
@[simp] theorem State.pushLog_flt (fld : Nat → Fld) (n : Nat) (s : State) : (s.pushLog fld n).flt = s.flt := by
  induction n generalizing s with
  | zero => rfl
  | succ n ih => exact ih _
@[simp] theorem State.logTrigger_flt (s : State) (k n : Nat) : (s.logTrigger k n).flt = s.flt := by
  rw [State.logTrigger, State.setReg_flt, State.pushLog_flt]
@[simp] theorem State.trigger_flt (s : State) (k n : Nat) : (s.trigger k n).flt = s.flt := by
  unfold State.trigger
  split
  · simp
  · split <;> simp
@[simp] theorem State.fltFreezeAct_flt (s : State) (n : Nat) : (s.fltFreezeAct n).flt = s.flt := by simp [State.fltFreezeAct]

/-- The sources asserted for the collector: levels, wires and forces. -/
def State.asserting (s : State) : List Nat × List Nat × List Nat := (s.flt.level, s.flt.wire, s.flt.forced)

theorem State.asserting_congr {s t : State} (h : t.flt = s.flt) : t.asserting = s.asserting := by
  unfold State.asserting
  rw [h]

theorem State.level_of_asserting {s t : State} (h : t.asserting = s.asserting) : t.flt.level = s.flt.level := congrArg Prod.fst h

theorem State.asserted_of_asserting {s t : State} (h : t.asserting = s.asserting) (n : Nat) : t.asserted n = s.asserted n := by
  simp only [State.asserting, Prod.mk.injEq] at h
  obtain ⟨h1, h2, h3⟩ := h
  unfold State.asserted
  rw [h1, h2, h3]

theorem State.setActive_asserting (s : State) (n : Nat) (b : Bool) : (s.setActive n b).asserting = s.asserting := by
  unfold State.setActive
  split
  · rfl
  · cases b <;> rfl

theorem State.settle_asserting (s : State) (n : Nat) : (s.settle n).asserting = s.asserting := by
  unfold State.settle
  split
  · exact s.setActive_asserting n false
  · rfl

theorem State.fltRecord_asserting (s : State) (n : Nat) : (s.fltRecord n).asserting = s.asserting := by
  have h (u : State) : (((u.setActive n true).incF (classCounter (s.fltClass n))).setReg F.FLT_LAST_TICK.addr
      (w32 (s.tickLo % 2 ^ 16 * 2 ^ 16 + s.fltClass n * 2 ^ 8 + n))).asserting = u.asserting :=
    (State.asserting_congr (by rw [State.setReg_flt, State.incF_flt])).trans (u.setActive_asserting n true)
  unfold State.fltRecord
  dsimp only
  split
  · refine (State.asserting_congr (State.event_flt ..)).trans ?_
    split
    · exact h _
    · exact (State.asserting_congr (by rw [State.setF_flt, State.setFlag_flt, State.marker_flt])).trans (h (s.setF _ _))
  · exact h _

theorem State.startWait_asserting (s : State) (n : Nat) : (s.startWait n).asserting = s.asserting := by
  unfold State.startWait
  split
  · split
    · rfl
    · split <;> rfl
  · rfl

theorem State.doRaise_asserting (s : State) (n : Nat) (us : Option Nat) (hn : n < 256) (hq : s.Quiet n) :
    (s.doRaise n us).asserting = s.asserting := by
  rw [State.doRaise_quiet s n us hn hq]
  refine (State.asserting_congr (by simp)).trans ((State.startWait_asserting _ n).trans (s.fltRecord_asserting n))

theorem State.raiseTimed_asserting (s : State) (n : Nat) (us : Option Nat) (hn : n < 256) (hq : s.Quiet n) :
    (s.raiseTimed n us).asserting = s.asserting := by
  unfold State.raiseTimed
  split
  · rfl
  · exact (State.settle_asserting _ n).trans (s.doRaise_asserting n us hn hq)

theorem State.raise_asserting (s : State) (n : Nat) (hn : n < 256) (hq : s.Quiet n) : (s.raise n).asserting = s.asserting :=
  s.raiseTimed_asserting n none hn hq

theorem State.doRaise_level (s : State) (n : Nat) (us : Option Nat) (hn : n < 256) (hq : s.Quiet n) :
    (s.doRaise n us).flt.level = s.flt.level := State.level_of_asserting (s.doRaise_asserting n us hn hq)

theorem State.levelTimed_level (s : State) (n : Nat) (us : Option Nat) (hn : n < 256) (hq : s.Quiet n) :
    (s.levelTimed n us).flt.level = if s.flt.level.contains n then s.flt.level else s.flt.level ++ [n] := by
  unfold State.levelTimed
  dsimp only
  split
  · rfl
  · exact State.doRaise_level _ n us hn hq

theorem State.mem_raiseLevel_level (s : State) (n m : Nat) (hn : n < 256) (hq : s.Quiet n) :
    m ∈ (s.raiseLevel n).flt.level ↔ m = n ∨ m ∈ s.flt.level := by
  rw [State.raiseLevel, State.levelTimed_level s n none hn hq]
  split <;> rename_i h
  · simp only [List.contains_eq_mem, decide_eq_true_eq] at h
    constructor
    · exact Or.inr
    · rintro (rfl | h')
      · exact h
      · exact h'
  · simp [or_comm]

theorem State.clearLevel_level (s : State) (n : Nat) : (s.clearLevel n).flt.level = s.flt.level.filter (fun m => decide (m ≠ n)) :=
  State.level_of_asserting (State.settle_asserting _ n)

theorem State.mem_clearLevel_level (s : State) (n m : Nat) : m ∈ (s.clearLevel n).flt.level ↔ m ≠ n ∧ m ∈ s.flt.level := by
  rw [State.clearLevel_level, List.mem_filter, decide_eq_true_eq, and_comm]

theorem State.Confined.sys {bs : List Nat} {s t : State} (h : s.Confined bs t) : t.sys = s.sys := by
  obtain ⟨-, r, f, j, g, m, rfl⟩ := h
  rfl

theorem State.Confined.ember {bs : List Nat} {s t : State} (h : s.Confined bs t) : t.ember = s.ember := by
  obtain ⟨-, r, f, j, g, m, rfl⟩ := h
  rfl

/-- A level that comes to a source that was not asserted, after updates of blocks that do not bear on it: the collector records it, and what
changes stays in those blocks and in `raiseBlocks`. -/
theorem State.Within.raised {bs : List Nat} {r s : State} (hs : r.Within bs s) (h0 : 0x4000 ∉ bs) (h3 : 0x4003 ∉ bs) (hsys : s.sys = r.sys)
    (hflt : s.flt = r.flt) {n : Nat} (hn : n < 256) (hq : r.Quiet n) (ha : r.asserted n = false) :
    (s.raiseLevel n).sticky n = true ∧ n ∈ (s.raiseLevel n).flt.level ∧ (s.raiseLevel n).mode = r.mode ∧
      r.Within (bs ++ raiseBlocks) (s.raiseLevel n) ∧ s.Confined raiseBlocks (s.raiseLevel n) := by
  have hq' : s.Quiet n := hs.quiet h0 h3 (by rw [hsys]) hn hq
  have ha' : s.asserted n = false := (State.asserted_of_asserting (State.asserting_congr hflt) n).trans ha
  have hc := State.confined_raiseLevel s n none hn hq'
  have hw : r.Within (bs ++ raiseBlocks) (s.raiseLevel n) :=
    (hs.mono fun _ => List.mem_append_left _).raiseLevel n (fun _ => List.mem_append_right _) hn hq'
  refine ⟨s.sticky_raiseLevel n none hn hq' ha', (s.mem_raiseLevel_level n n hn hq').2 (.inl rfl), ?_, hw, hc⟩
  refine hw.mode ?_ ((congrArg Sys.phase hc.sys).trans (congrArg Sys.phase hsys))
  simp only [List.mem_append, not_or]
  exact ⟨h0, by decide⟩

end Sys2Proof.Machine
end

section
/-!
# Clock and supply monitors
-/
namespace Sys2Proof.Machine

open Sys2Proof

/-! ### Clock monitors -/

theorem State.running_of_run {s : State} (h : s.sys.phase = .run) : s.running = true := decide_eq_true h

theorem State.when_true (s : State) (c : Bool) (f : State → State) (h : c = true) : s.when c f = f s := by
  rw [h]
  rfl

/-- A counter after its increment and an event of another register. -/
theorem State.getF_incF_event (s : State) (f : Fld) (e : EvBlk) (b : Nat) (h : f.ok = true) (he : e.ev.addr ≠ f.addr) :
    ((s.incF f).event e b).getF f = min (2 ^ f.width - 1) (s.getF f + 1) :=
  (State.getF_event_other _ e b f he).trans (State.getF_incF_same s f h)

theorem State.xt32Fail_vbat (s : State) (elapsed : Nat) (hr : s.sys.phase = .run) (hv : s.ember.vbat = true) :
    ∃ e : Ember, e.xt32Ok = false ∧
      s.xt32Fail elapsed = ((({ s with ember := e } : State).incF F.CLK_XT32_FAIL_CNT_COUNT).event Ev.clk 3).raiseLevel Src.xt32Fail := by
  refine ⟨{ s.ember with rtc := (s.ember.rtc + elapsed) % 2 ^ 48, xt32Ok := false, rcSince := true }, rfl, ?_⟩
  unfold State.xt32Fail
  rw [State.rtcRun_vbat s elapsed hv]
  exact (if_pos hv).trans (State.when_true _ _ _ (State.running_of_run hr))

theorem State.xt32Return_vbat (s : State) (elapsed : Nat) (hr : s.sys.phase = .run) (hv : s.ember.vbat = true) :
    ∃ e : Ember, e.xt32Ok = true ∧ s.xt32Return elapsed = ({ s with ember := e } : State).clearLevel Src.xt32Fail := by
  refine ⟨{ s.ember with rtc := (s.ember.rtc + elapsed) % 2 ^ 48, xt32Ok := true }, rfl, ?_⟩
  unfold State.xt32Return
  rw [State.rtcRun_vbat s elapsed hv]
  exact (if_pos hv).trans (State.when_true _ _ _ (State.running_of_run hr))

/-- A PLL that loses its lock, on either half. -/
theorem State.pllLoss_lock (s : State) (half count : Nat) (lockF cntF : Fld) (hh : half < 2) (hr : s.sys.phase = .run)
    (hx : s.flag F.CLK_STATUS_XT25_OK = true) (hl : lockF = if half = 0 then F.CLK_PLL_N_LOCK else F.CLK_PLL_S_LOCK)
    (hn : cntF = if half = 0 then F.CLK_PLL_N_LOSS_CNT_COUNT else F.CLK_PLL_S_LOSS_CNT_COUNT) :
    s.pllLoss half true count = (((s.setFlag lockF false).incF cntF).event Ev.clk half).raiseLevel (Src.pllLoss half) := by
  unfold State.pllLoss
  rw [if_neg (by simp [State.running_of_run hr, hx, hh]), hl, hn]
  rfl

theorem State.pllLoss_half (s : State) (half count : Nat) (lockF cntF : Fld) (hh : half < 2) (hr : s.sys.phase = .run)
    (hx : s.flag F.CLK_STATUS_XT25_OK = true) (hl : lockF = if half = 0 then F.CLK_PLL_N_LOCK else F.CLK_PLL_S_LOCK)
    (hn : cntF = if half = 0 then F.CLK_PLL_N_LOSS_CNT_COUNT else F.CLK_PLL_S_LOSS_CNT_COUNT)
    (hq : s.Quiet (0xC6 + half)) (ha : s.asserted (0xC6 + half) = false) :
    (s.pllLoss half true count).flag lockF = false ∧ (s.pllLoss half true count).sticky (0xC6 + half) = true ∧
      (s.pllLoss half true count).getF cntF = min (2 ^ 32 - 1) (s.getF cntF + 1) ∧
      s.SameRegs (0x4002 :: raiseBlocks) (s.pllLoss half true count) ∧ s.SameStores (s.pllLoss half true count) := by
  rw [s.pllLoss_lock half count lockF cntF hh hr hx hl hn]
  have hb : lockF.addr / 0x10000 = 0x4002 ∧ cntF.addr / 0x10000 = 0x4002 ∧ lockF.ok = true ∧ cntF.ok = true ∧ cntF.width = 32 ∧
      lockF.apart cntF = true ∧ cntF.apart lockF = true ∧ Ev.clk.ev.addr ≠ cntF.addr ∧ Ev.clk.ev.addr ≠ lockF.addr := by
    rw [hl, hn]
    split <;> decide
  obtain ⟨hlb, hcb, hlo, hco, hcw, hlc, hcl, hec, hel⟩ := hb
  have hw : s.Within [0x4002] (((s.setFlag lockF false).incF cntF).event Ev.clk half) :=
    (((State.Within.refl _ s).setFlag _ _ (by simp [hlb])).incF _ (by simp [hcb])).event _ _ (by decide)
  obtain ⟨hst, -, -, ⟨hreg, hmem⟩, hc⟩ := hw.raised (by decide) (by decide) (by simp) (by simp) (show 0xC6 + half < 256 by omega) hq ha
  refine ⟨?_, hst, ?_, hreg, hmem⟩
  · refine (State.flag_congr (hc.within.getF lockF (by simp [hlb, raiseBlocks]))).trans ?_
    rw [State.flag_event_other _ _ _ _ hel, State.flag_incF_apart _ _ _ hco hcl, State.flag_setFlag_same _ _ _ hlo]
  · refine (hc.within.getF cntF (by simp [hcb, raiseBlocks])).trans ?_
    rw [State.getF_incF_event _ _ _ _ hco hec, State.getF_setFlag_apart _ _ _ _ hlo hlc, hcw]

/-- Settles O6: each monitor writes its own block and raises its level. -/
theorem clockMonitors : Obligations.ClockMonitors := by
  unfold Obligations.ClockMonitors
  refine fun s hr => ⟨fun elapsed hv hq ha => ?_, fun elapsed hv => ?_, fun hx hq ha count => ?_, fun hx hq ha count => ?_,
    fun hx half lock count => ?_, fun hq ha count => ?_⟩
  · obtain ⟨e, he, heq⟩ := s.xt32Fail_vbat elapsed hr hv
    refine ⟨_, next_congr heq, ?_⟩
    have hw : s.Within [0x4002] ((({ s with ember := e } : State).incF F.CLK_XT32_FAIL_CNT_COUNT).event Ev.clk 3) :=
      (((State.Within.refl _ s).hidden ..).incF _ (by decide)).event _ _ (by decide)
    obtain ⟨hst, -, -, ⟨hreg, hmem⟩, hc⟩ := hw.raised (n := 0xC9) (by decide) (by decide) (by simp) (by simp) (by decide) hq ha
    refine ⟨(congrArg Ember.xt32Ok hc.ember).trans ?_, hst,
      (hc.within.getF _ (by decide)).trans (State.getF_incF_event _ _ _ _ (by decide) (by decide)), hreg, hmem⟩
    rw [State.event_ember, State.incF_ember]
    exact he
  · obtain ⟨e, he, heq⟩ := s.xt32Return_vbat elapsed hr hv
    refine ⟨_, next_congr heq, ?_⟩
    obtain ⟨hreg, hmem⟩ : s.Within [0x4003] (({ s with ember := e } : State).clearLevel Src.xt32Fail) :=
      ((State.Within.refl _ s).hidden ..).clearLevel _ (by decide) (by decide)
    exact ⟨(congrArg Ember.xt32Ok (State.confined_clearLevel _ _ (by decide)).ember).trans he,
      fun h => ((State.mem_clearLevel_level _ _ _).1 h).1 rfl, hreg, hmem⟩
  · exact ⟨_, rfl, s.pllLoss_half 0 count _ _ (by decide) hr hx rfl rfl hq ha⟩
  · exact ⟨_, rfl, s.pllLoss_half 1 count _ _ (by decide) hr hx rfl rfl hq ha⟩
  · refine next_congr (?_ : s.pllLoss half lock count = s)
    unfold State.pllLoss
    rw [if_pos (by simp [hx])]
  · refine ⟨_, next_congr (if_pos (State.running_of_run hr) : s.xt25Fail count = _), ?_⟩
    have hw : s.Within [0x4002] ((((s.setF F.CLK_XT25_COUNT count).setFlag F.CLK_STATUS_XT25_OK false).incF
        F.CLK_XT25_FAIL_CNT_COUNT).event Ev.clk 2) :=
      ((((State.Within.refl _ s).setF _ _ (by decide)).setFlag _ _ (by decide)).incF _ (by decide)).event _ _ (by decide)
    obtain ⟨hst, -, -, ⟨hreg, hmem⟩, hc⟩ := hw.raised (n := 0xC8) (by decide) (by decide) (by simp) (by simp) (by decide) hq ha
    refine ⟨(State.flag_congr (hc.within.getF _ (by decide))).trans ?_, hst, (hc.within.getF _ (by decide)).trans ?_, hreg, hmem⟩
    · rw [State.flag_event_other _ _ _ _ (by decide), State.flag_incF_apart _ _ _ (by decide) (by decide),
        State.flag_setFlag_same _ _ _ (by decide)]
    · rw [State.getF_incF_event _ _ _ _ (by decide) (by decide), State.getF_setFlag_apart _ _ _ _ (by decide) (by decide),
        State.getF_setF_apart _ _ _ _ (by decide) (by decide)]
      rfl


/-! ### Supply monitors -/

/-- The supply monitors that only count and raise. -/
theorem exec_supplyMonitor (s : State) (c : Instr) (src : Nat) (hr : s.sys.phase = .run)
    (hc : (c, src) ∈ [(Instr.vsupUv, 0xCA), (.vsupOv, 0xCB), (.coreOv, 0xCC), (.vgdFault, 0xCE), (.vbatLow, 0xCF)]) :
    ∃ u : State, exec c s = .next (u.raiseLevel src) ∧ s.Within [0x4001, 0x400B] u ∧ u.sys = s.sys ∧ u.flt = s.flt ∧ src < 256 := by
  have hrun := State.running_of_run hr
  have h0 := State.Within.refl [0x4001, 0x400B] s
  simp only [List.mem_cons, Prod.mk.injEq, List.not_mem_nil, or_false] at hc
  rcases hc with ⟨rfl, rfl⟩ | ⟨rfl, rfl⟩ | ⟨rfl, rfl⟩ | ⟨rfl, rfl⟩ | ⟨rfl, rfl⟩
  · exact ⟨_, next_congr (if_pos hrun), (h0.incF _ (by decide)).event _ _ (by decide), by simp, by simp, by decide⟩
  · exact ⟨_, next_congr (if_pos hrun), (h0.incF _ (by decide)).event _ _ (by decide), by simp, by simp, by decide⟩
  · exact ⟨_, next_congr (if_pos hrun), h0, rfl, rfl, by decide⟩
  · exact ⟨_, next_congr (if_pos hrun), (h0.incF _ (by decide)).setFlag _ _ (by decide), by simp, by simp, by decide⟩
  · exact ⟨_, next_congr (if_pos hrun), h0.event _ _ (by decide), by simp, by simp, by decide⟩

theorem ringBypass_cases (ring : Nat) : ringBypass ring = F.FLU_PORT_A_BYPASS ∨ ringBypass ring = F.FLU_PORT_B_BYPASS := by
  unfold ringBypass byRing
  split <;> simp

theorem State.Within.closeBypass {bs : List Nat} {r s : State} (hs : r.Within bs s) (hb : 0x400D ∈ bs) (ring : Nat) :
    r.Within bs (s.closeBypass ring) := by
  refine (hs.setFlag _ _ ?_).setFlag _ _ hb
  rcases ringBypass_cases ring with h | h <;> rw [h] <;> exact hb

theorem State.flag_closeBypass (s : State) (ring : Nat) (g : Fld) (hg : g = F.FLU_PORT_A_BYPASS ∨ g = F.FLU_PORT_B_BYPASS)
    (h : g = ringBypass ring ∨ s.flag g = true) : (s.closeBypass ring).flag g = true := by
  have hok : g.ok = true ∧ F.FLU_STATUS_FORWARDING.apart g = true := by rcases hg with rfl | rfl <;> decide
  obtain ⟨hok, hap⟩ := hok
  rw [State.closeBypass, State.refreshForwarding, State.flag_setFlag_apart _ _ _ _ (by decide) hap]
  by_cases he : g = ringBypass ring
  · rw [he, State.flag_setFlag_same _ _ _ (he ▸ hok)]
  · have hne : (ringBypass ring).ok = true ∧ (ringBypass ring).apart g = true := by
      rcases ringBypass_cases ring with hr | hr <;> rcases hg with rfl | rfl
      · exact absurd hr.symm he
      · rw [hr]; decide
      · rw [hr]; decide
      · exact absurd hr.symm he
    rw [State.flag_setFlag_apart _ _ _ _ hne.1 hne.2]
    exact h.resolve_left he

/-! ### Temperatures -/

/-- What the end of another source's condition keeps of source n. -/
structure State.Beside (n : Nat) (s t : State) : Prop where
  within : s.Within [0x4003] t
  sys : t.sys = s.sys
  action : t.fltAction n = s.fltAction n
  sticky : t.sticky n = s.sticky n
  asserted : t.asserted n = s.asserted n
  level : n ∈ t.flt.level ↔ n ∈ s.flt.level

theorem State.Beside.refl (n : Nat) (s : State) : State.Beside n s s := ⟨State.Within.refl _ s, rfl, rfl, rfl, rfl, Iff.rfl⟩

theorem State.Beside.mode {n : Nat} {s t : State} (h : State.Beside n s t) : t.mode = s.mode :=
  h.within.mode (by decide) (by rw [h.sys])

theorem State.clearLevel_asserted_other (s : State) (m n : Nat) (h : n ≠ m) : (s.clearLevel m).asserted n = s.asserted n := by
  have hset := State.settle_asserting { s with flt := { s.flt with level := s.flt.level.filter (fun k => decide (k ≠ m)) } } m
  have ha := State.asserted_of_asserting hset n
  refine ha.trans ?_
  simp [State.asserted, h]

theorem State.clearLevel_beside (s : State) (m n : Nat) (hm : m < 256) (hn : n < 256) (h : n ≠ m) : State.Beside n s (s.clearLevel m) where
  within := (State.Within.refl _ s).clearLevel m (by decide) hm
  sys := (State.confined_clearLevel s m hm).sys
  action := by
    refine State.fltAction_congr ?_
    unfold State.clearLevel State.settle
    split
    · exact State.getF_setActive_cfg _ m false _ hm (Fld.srcCfg_reaction n hn)
    · rfl
  sticky := by
    unfold State.clearLevel State.settle
    split
    · exact State.sticky_setActive _ m n false hm hn
    · rfl
  asserted := s.clearLevel_asserted_other m n h
  level := by rw [State.mem_clearLevel_level]; simp [h]

/-- The limit a temperature is compared with, in the code of the conversion. -/
def State.tempLimit (s : State) : Nat := s.getF F.PWR_TEMP_CFG_LIMIT + 50

/-- A temperature that is not above its limit touches only its own source. -/
theorem State.tempOne_beside (s : State) (t v n : Nat) (ht : t < 3) (hv : v ≤ s.tempLimit) (hn : n < 256) (h : n ≠ Src.temp t) :
    State.Beside n s (s.tempOne t v) := by
  unfold State.tempOne
  rw [if_neg (by unfold State.tempLimit at hv; omega)]
  split
  · exact s.clearLevel_beside _ n (by unfold Src.temp; omega) hn h
  · exact State.Beside.refl n s

theorem State.tempOne_cool (s : State) (t v : Nat) (ht : t < 3) (hv : v ≤ s.tempLimit) :
    s.Within [0x4003] (s.tempOne t v) ∧ ∀ m, m ∈ (s.tempOne t v).flt.level ↔
      m ∈ s.flt.level ∧ (m = Src.temp t → s.tempLimit < v + s.getF F.PWR_TEMP_CFG_HYST) := by
  unfold State.tempOne
  rw [if_neg (by unfold State.tempLimit at hv; omega)]
  split
  · rename_i hc
    refine ⟨(State.Within.refl _ s).clearLevel _ (by decide) (by unfold Src.temp; omega), fun m => ?_⟩
    rw [State.mem_clearLevel_level]
    constructor
    · rintro ⟨hne, hm⟩
      exact ⟨hm, fun e => absurd e hne⟩
    · rintro ⟨hm, he⟩
      exact ⟨fun e => absurd (he e) (by unfold State.tempLimit; omega), hm⟩
  · rename_i hc
    refine ⟨State.Within.refl _ s, fun m => ⟨fun hm => ⟨hm, fun _ => by unfold State.tempLimit; omega⟩, fun h => h.1⟩⟩

/-- The state of TEMP_CONVERSION before the three comparisons. -/
def State.tempShown (s : State) (n o p : Nat) : State :=
  (((s.setF F.PWR_TEMP_NORTH n).setF F.PWR_TEMP_SOUTH o).setF F.PWR_TEMP_POWER p).tempConverts

theorem State.tempConversion_eq (s : State) (n o p : Nat) (hr : s.sys.phase = .run) :
    s.tempConversion n o p = (((s.tempShown n o p).tempOne 0 n).tempOne 1 o).tempOne 2 p := if_pos (State.running_of_run hr)

theorem State.tempConverts_eq (s : State) : ∃ u : State, s.tempConverts = { u with free := u.free + 3 } ∧ u.sys = s.sys ∧ u.flt = s.flt ∧
    s.Within [0x400C] u := by
  have h (v : Nat) (hv : v < 8) : (F.ADC_CONV_CNT_COUNT v).addr / 0x10000 = 0x400C := by
    simp only [F.ADC_CONV_CNT_COUNT]
    omega
  refine ⟨_, rfl, State.each_sys _ _ _ fun _ _ => State.setF_sys .., State.each_flt _ _ _ fun _ _ => State.setF_flt ..,
    (State.Within.refl _ s).each _ _ fun u k _ hu => hu.setF _ _ ?_⟩
  rw [h _ (Nat.mod_lt _ (by decide))]
  decide

theorem State.tempShown_within (s : State) (n o p : Nat) :
    s.Within [0x4001, 0x400C] (s.tempShown n o p) ∧ (s.tempShown n o p).sys = s.sys ∧ (s.tempShown n o p).flt = s.flt := by
  obtain ⟨u, hu, hsys, hflt, hw⟩ := (((s.setF F.PWR_TEMP_NORTH n).setF F.PWR_TEMP_SOUTH o).setF F.PWR_TEMP_POWER p).tempConverts_eq
  have hs : s.Within [0x4001, 0x400C] (((s.setF F.PWR_TEMP_NORTH n).setF F.PWR_TEMP_SOUTH o).setF F.PWR_TEMP_POWER p) :=
    (((State.Within.refl _ s).setF _ _ (by decide)).setF _ _ (by decide)).setF _ _ (by decide)
  rw [State.tempShown, hu]
  exact ⟨(hs.trans (hw.mono (by decide))).hidden .., hsys.trans (by simp), hflt.trans (by simp)⟩

/-- Before the comparisons the three temperatures show and nothing else of PWR has changed. -/
theorem State.getF_tempShown (s : State) (n o p : Nat) (g : Fld) (hg : g.addr / 0x10000 ≠ 0x400C) :
    (s.tempShown n o p).getF g = (((s.setF F.PWR_TEMP_NORTH n).setF F.PWR_TEMP_SOUTH o).setF F.PWR_TEMP_POWER p).getF g := by
  obtain ⟨u, hu, -, -, hw⟩ := (((s.setF F.PWR_TEMP_NORTH n).setF F.PWR_TEMP_SOUTH o).setF F.PWR_TEMP_POWER p).tempConverts_eq
  rw [State.tempShown, hu, State.getF_mk]
  exact hw.getF g (by simpa using hg)

theorem State.tempShown_temps (s : State) (n o p : Nat) (hn : n < 256) (ho : o < 256) (hp : p < 256) :
    (s.tempShown n o p).getF F.PWR_TEMP_NORTH = n ∧ (s.tempShown n o p).getF F.PWR_TEMP_SOUTH = o ∧
      (s.tempShown n o p).getF F.PWR_TEMP_POWER = p := by
  refine ⟨?_, ?_, ?_⟩ <;> rw [State.getF_tempShown _ _ _ _ _ (by decide)]
  · rw [State.getF_setF_apart _ _ _ _ (by decide) (by decide), State.getF_setF_apart _ _ _ _ (by decide) (by decide),
      State.getF_setF_same _ _ _ (by decide)]
    exact Nat.mod_eq_of_lt hn
  · rw [State.getF_setF_apart _ _ _ _ (by decide) (by decide), State.getF_setF_same _ _ _ (by decide)]
    exact Nat.mod_eq_of_lt ho
  · rw [State.getF_setF_same _ _ _ (by decide)]
    exact Nat.mod_eq_of_lt hp

theorem State.getF_tempShown_other (s : State) (n o p : Nat) (g : Fld) (hg : g.addr / 0x10000 ≠ 0x400C) (ha : g.addr ≠ 0x40010024) :
    (s.tempShown n o p).getF g = s.getF g := by
  rw [State.getF_tempShown _ _ _ _ _ hg]
  exact State.getF_congr ((State.reg_setF_other _ _ _ _ ha.symm).trans ((State.reg_setF_other _ _ _ _ ha.symm).trans
    (State.reg_setF_other _ _ _ _ ha.symm)))

theorem State.tempLimit_congr {s t : State} (h : s.Within [0x4003] t) : t.tempLimit = s.tempLimit :=
  congrArg (· + 50) (h.getF _ (by decide))


theorem State.Beside.trans {n : Nat} {r s t : State} (h : State.Beside n r s) (k : State.Beside n s t) : State.Beside n r t :=
  ⟨h.within.trans k.within, k.sys.trans h.sys, k.action.trans h.action, k.sticky.trans h.sticky, k.asserted.trans h.asserted,
    k.level.trans h.level⟩

/-- A temperature above its limit, whose source is quiet and not asserted, is counted and raises its level. -/
theorem State.tempOne_hot (s : State) (t v : Nat) (ht : t < 3) (hv : s.tempLimit < v) (hq : s.Quiet (Src.temp t))
    (ha : s.asserted (Src.temp t) = false) :
    (s.tempOne t v).sticky (Src.temp t) = true ∧ Src.temp t ∈ (s.tempOne t v).flt.level ∧ (s.tempOne t v).mode = s.mode ∧
      s.Within (0x4001 :: raiseBlocks) (s.tempOne t v) ∧
      (s.tempOne t v).getF F.PWR_TEMP_CNT_COUNT = min (2 ^ 32 - 1) (s.getF F.PWR_TEMP_CNT_COUNT + 1) ∧
      (∀ f ∈ [F.PWR_TEMP_NORTH, F.PWR_TEMP_SOUTH, F.PWR_TEMP_POWER, F.PWR_TEMP_CFG_LIMIT], (s.tempOne t v).getF f = s.getF f) := by
  have hl : s.flt.level.contains (Src.temp t) = false := by
    simp only [State.asserted, Bool.or_eq_false_iff] at ha
    exact ha.1.1
  have he : s.tempOne t v = ((s.incF F.PWR_TEMP_CNT_COUNT).event Ev.pwr 4).raiseLevel (Src.temp t) := by
    unfold State.tempOne
    exact (if_pos hv).trans (if_neg (by rw [hl]; exact Bool.false_ne_true))
  have hw : s.Within [0x4001] ((s.incF F.PWR_TEMP_CNT_COUNT).event Ev.pwr 4) :=
    ((State.Within.refl _ s).incF _ (by decide)).event _ _ (by decide)
  obtain ⟨hst, hlv, hmode, hwr, hc⟩ :=
    hw.raised (by decide) (by decide) (by simp) (by simp) (show Src.temp t < 256 by unfold Src.temp; omega) hq ha
  rw [he]
  refine ⟨hst, hlv, hmode, hwr, (hc.within.getF _ (by decide)).trans (State.getF_incF_event _ _ _ _ (by decide) (by decide)), fun f hf => ?_⟩
  have hf' : f.addr / 0x10000 ∉ raiseBlocks ∧ Ev.pwr.ev.addr ≠ f.addr ∧ F.PWR_TEMP_CNT_COUNT.apart f = true := by
    simp only [List.mem_cons, List.not_mem_nil, or_false] at hf
    rcases hf with rfl | rfl | rfl | rfl <;> decide
  obtain ⟨hb, hev, hap⟩ := hf'
  rw [hc.within.getF f hb, State.getF_event_other _ _ _ _ hev, State.getF_incF_apart _ _ _ (by decide) hap]

/-- One temperature above the limit, with the other two compared before and after it. -/
theorem State.temp_one_above {s b u w : State} {k v n o p : Nat} (hk : k < 3) (hn : n < 256) (ho : o < 256) (hp : p < 256)
    (hb : b = s.tempShown n o p) (hbu : State.Beside (Src.temp k) b u)
    (huw : (u.tempOne k v).tempLimit = b.tempLimit → State.Beside (Src.temp k) (u.tempOne k v) w)
    (hv : s.tempLimit < v) (hq : s.Quiet (Src.temp k)) (ha : s.asserted (Src.temp k) = false) :
    w.sticky (Src.temp k) = true ∧ Src.temp k ∈ w.flt.level ∧ w.mode = s.mode ∧
      w.getF F.PWR_TEMP_NORTH = n ∧ w.getF F.PWR_TEMP_SOUTH = o ∧ w.getF F.PWR_TEMP_POWER = p ∧
      w.getF F.PWR_TEMP_CNT_COUNT = min (2 ^ 32 - 1) (s.getF F.PWR_TEMP_CNT_COUNT + 1) ∧
      s.SameRegs (0x4001 :: 0x400C :: raiseBlocks) w ∧ s.SameStores w := by
  obtain ⟨hw, hsys, hflt⟩ := s.tempShown_within n o p
  obtain ⟨hN, hS, hP⟩ := s.tempShown_temps n o p hn ho hp
  have hlim : b.tempLimit = s.tempLimit := hb ▸ congrArg (· + 50) (s.getF_tempShown_other n o p _ (by decide) (by decide))
  have hcnt : b.getF F.PWR_TEMP_CNT_COUNT = s.getF F.PWR_TEMP_CNT_COUNT := hb ▸ s.getF_tempShown_other n o p _ (by decide) (by decide)
  rw [← hb] at hw hsys hflt hN hS hP
  have h256 : Src.temp k < 256 := by unfold Src.temp; omega
  have hqb : b.Quiet (Src.temp k) := hw.quiet (by decide) (by decide) (by rw [hsys]) h256 hq
  have hqu : u.Quiet (Src.temp k) := by
    unfold State.Quiet at hqb ⊢
    rwa [hbu.action, hbu.mode]
  have hau : u.asserted (Src.temp k) = false := hbu.asserted.trans ((State.asserted_of_asserting (State.asserting_congr hflt) _).trans ha)
  obtain ⟨hst, hlv, hmode, hwr, hc, htemps⟩ := u.tempOne_hot k v hk (by rw [State.tempLimit_congr hbu.within, hlim]; exact hv) hqu hau
  replace huw := huw ((congrArg (· + 50) (htemps F.PWR_TEMP_CFG_LIMIT (by simp))).trans (State.tempLimit_congr hbu.within))
  have hall : s.Within (0x4001 :: 0x400C :: raiseBlocks) w :=
    (((hw.mono (by decide)).trans (hbu.within.mono (by decide))).trans (hwr.mono (by decide))).trans (huw.within.mono (by decide))
  have hshow (f : Fld) (hf : f ∈ [F.PWR_TEMP_NORTH, F.PWR_TEMP_SOUTH, F.PWR_TEMP_POWER]) : w.getF f = b.getF f := by
    have hf' : f.addr / 0x10000 ∉ [0x4003] := by
      simp only [List.mem_cons, List.not_mem_nil, or_false] at hf
      rcases hf with rfl | rfl | rfl <;> decide
    rw [huw.within.getF f hf', htemps f (List.mem_append_left [F.PWR_TEMP_CFG_LIMIT] hf), hbu.within.getF f hf']
  refine ⟨huw.sticky.trans hst, huw.level.2 hlv, huw.mode.trans (hmode.trans (hbu.mode.trans (hw.mode (by decide) (by rw [hsys])))),
    (hshow _ (by simp)).trans hN, (hshow _ (by simp)).trans hS, (hshow _ (by simp)).trans hP, ?_, hall.1, hall.2⟩
  rw [huw.within.getF _ (by decide), hc, hbu.within.getF _ (by decide), hcnt]

/-- With no temperature above the limit the three conditions end or stay. -/
theorem State.tempConversion_cool (s : State) (n o p : Nat) (hr : s.sys.phase = .run) (hn : n < 256) (ho : o < 256) (hp : p < 256)
    (h0 : n ≤ s.tempLimit) (h1 : o ≤ s.tempLimit) (h2 : p ≤ s.tempLimit) :
    (s.tempConversion n o p).getF F.PWR_TEMP_NORTH = n ∧ (s.tempConversion n o p).getF F.PWR_TEMP_SOUTH = o ∧
      (s.tempConversion n o p).getF F.PWR_TEMP_POWER = p ∧
      (∀ k, k < 3 → (Src.temp k ∈ (s.tempConversion n o p).flt.level ↔ Src.temp k ∈ s.flt.level ∧
        s.tempLimit < [n, o, p].getD k 0 + s.getF F.PWR_TEMP_CFG_HYST)) ∧
      s.Within [0x4001, 0x4003, 0x400C] (s.tempConversion n o p) := by
  obtain ⟨hw, hsys, hflt⟩ := s.tempShown_within n o p
  obtain ⟨hN, hS, hP⟩ := s.tempShown_temps n o p hn ho hp
  have hlim : (s.tempShown n o p).tempLimit = s.tempLimit := congrArg (· + 50) (s.getF_tempShown_other n o p _ (by decide) (by decide))
  have hhyst : (s.tempShown n o p).getF F.PWR_TEMP_CFG_HYST = s.getF F.PWR_TEMP_CFG_HYST :=
    s.getF_tempShown_other n o p _ (by decide) (by decide)
  rw [s.tempConversion_eq n o p hr]
  generalize s.tempShown n o p = b at *
  obtain ⟨w1, l1⟩ := b.tempOne_cool 0 n (by decide) (hlim ▸ h0)
  have hlim1 := (State.tempLimit_congr w1).trans hlim
  obtain ⟨w2, l2⟩ := (b.tempOne 0 n).tempOne_cool 1 o (by decide) (hlim1 ▸ h1)
  have hlim2 := (State.tempLimit_congr w2).trans hlim1
  obtain ⟨w3, l3⟩ := ((b.tempOne 0 n).tempOne 1 o).tempOne_cool 2 p (by decide) (hlim2 ▸ h2)
  have w13 := (w1.trans w2).trans w3
  refine ⟨(w13.getF _ (by decide)).trans hN, (w13.getF _ (by decide)).trans hS, (w13.getF _ (by decide)).trans hP, fun k hk => ?_,
    (hw.mono (by decide)).trans (w13.mono (by decide))⟩
  rw [l3, l2, l1, hlim2, hlim1, hlim, (w1.trans w2).getF _ (by decide), w1.getF _ (by decide), hhyst, hflt]
  interval_cases k <;> simp [Src.temp]

/-- The state of VIO_FAULT before the raise. -/
def State.vioShown (s : State) (mv : Nat) : State :=
  ((({ s with sys := { s.sys with vioLow := decide (mv < 2700), vioUnder := decide (mv < 3000) } } : State).setF F.PWR_SUPPLY_VIO mv).incF
    F.PWR_VIO_CNT_COUNT).event Ev.pwr 2

theorem State.vioFault_eq (s : State) (mv : Nat) (hr : s.sys.phase = .run) (hmv : mv < 3000 ∨ 3600 < mv) :
    s.vioFault mv =
      if mv < 2700 then (((s.vioShown mv).raiseLevel 0xCD).closeBypass 0).closeBypass 1 else (s.vioShown mv).raiseLevel 0xCD := by
  unfold State.vioFault
  rw [if_neg (by rw [hr]; simp; omega)]
  exact if_neg (by simp [State.running, hr])

theorem State.vioFault_raised (s : State) (mv : Nat) (hr : s.sys.phase = .run) (hmv : mv < 3000 ∨ 3600 < mv) (hlt : mv < 65536)
    (hq : s.Quiet 0xCD) (ha : s.asserted 0xCD = false) :
    (s.vioFault mv).sticky 0xCD = true ∧ (s.vioFault mv).getF F.PWR_SUPPLY_VIO = mv ∧
      (mv < 2700 → (s.vioFault mv).flag F.FLU_PORT_A_BYPASS = true ∧ (s.vioFault mv).flag F.FLU_PORT_B_BYPASS = true) ∧
      s.Within (0x4001 :: 0x400D :: raiseBlocks) (s.vioFault mv) := by
  have hclosed (u : State) : ((u.closeBypass 0).closeBypass 1).sticky 0xCD = u.sticky 0xCD ∧
      ((u.closeBypass 0).closeBypass 1).getF F.PWR_SUPPLY_VIO = u.getF F.PWR_SUPPLY_VIO ∧
      ((u.closeBypass 0).closeBypass 1).flag F.FLU_PORT_A_BYPASS = true ∧ ((u.closeBypass 0).closeBypass 1).flag F.FLU_PORT_B_BYPASS = true ∧
      u.Within [0x400D] ((u.closeBypass 0).closeBypass 1) := by
    have hw : u.Within [0x400D] ((u.closeBypass 0).closeBypass 1) :=
      ((State.Within.refl _ u).closeBypass (by decide) 0).closeBypass (by decide) 1
    refine ⟨?_, hw.getF _ (by decide), ?_, ?_, hw⟩
    · unfold State.sticky
      rw [hw.getF _ (by decide)]
    · exact State.flag_closeBypass _ 1 _ (.inl rfl) (.inr (State.flag_closeBypass _ 0 _ (.inl rfl) (.inl rfl)))
    · exact State.flag_closeBypass _ 1 _ (.inr rfl) (.inl rfl)
  have hu : s.Within [0x4001] (s.vioShown mv) := 
    ((((State.Within.refl _ s).hidden ..).setF _ _ (by decide)).incF _ (by decide)).event _ _ (by decide)
  have hvio : (s.vioShown mv).getF F.PWR_SUPPLY_VIO = mv := by
    unfold State.vioShown
    rw [State.getF_event_other _ _ _ _ (by decide), State.getF_incF_apart _ _ _ (by decide) (by decide),
      State.getF_setF_same _ _ _ (by decide)]
    exact Nat.mod_eq_of_lt hlt
  have hp : (s.vioShown mv).sys.phase = s.sys.phase := by simp [State.vioShown]
  have hflt : (s.vioShown mv).flt = s.flt := by simp [State.vioShown]
  have heq := s.vioFault_eq mv hr hmv
  generalize s.vioShown mv = u at *
  have hqu : u.Quiet 0xCD := hu.quiet (by decide) (by decide) hp (by decide) hq
  have hau : u.asserted 0xCD = false := (State.asserted_of_asserting (State.asserting_congr hflt) _).trans ha
  have hst := u.sticky_raiseLevel 0xCD none (by decide) hqu hau
  have hc := (State.confined_raiseLevel u 0xCD none (by decide) hqu).within
  have hw : s.Within (0x4001 :: 0x400D :: raiseBlocks) (u.raiseLevel 0xCD) := (hu.mono (by decide)).trans (hc.mono (by decide))
  have hv : (u.raiseLevel 0xCD).getF F.PWR_SUPPLY_VIO = mv := (hc.getF _ (by decide)).trans hvio
  rw [heq]
  split
  · obtain ⟨cst, cv, cA, cB, cw⟩ := hclosed (u.raiseLevel 0xCD)
    exact ⟨cst.trans hst, cv.trans hv, fun _ => ⟨cA, cB⟩, hw.trans (cw.mono (by decide))⟩
  · rename_i h
    exact ⟨hst, hv, fun h' => absurd h' h, hw⟩

theorem State.supplyClear_within (s : State) (src : Nat) (hr : s.sys.phase = .run) (h1 : 0xCA ≤ src) (h2 : src ≤ 0xCF) :
    src ∉ (s.supplyClear src).flt.level ∧ (src = 0xCE → (s.supplyClear src).flag F.GDR_STATUS_VGD_OK = true) ∧
      s.Within [0x4003, 0x400B] (s.supplyClear src) := by
  have heq : s.supplyClear src = ((if src = Src.vioFault then { s with sys := { s.sys with vioLow := false, vioUnder := false } } else
      s).clearLevel src).when (decide (src = Src.vgdFault)) (fun s => s.setFlag F.GDR_STATUS_VGD_OK true) := by
    unfold State.supplyClear
    rw [if_neg (by simp [hr])]
    exact if_pos ⟨State.running_of_run hr, h1, h2⟩
  have hu : s.Within [] (if src = Src.vioFault then { s with sys := { s.sys with vioLow := false, vioUnder := false } } else s) :=
    ((State.Within.refl _ s).hidden ..).ite _ (State.Within.refl _ s)
  generalize (if src = Src.vioFault then { s with sys := { s.sys with vioLow := false, vioUnder := false } } else s) = u at *
  have hw : s.Within [0x4003, 0x400B] (u.clearLevel src) := (hu.mono (by simp)).clearLevel src (by decide) (by omega)
  have hl : src ∉ (u.clearLevel src).flt.level := fun h => ((State.mem_clearLevel_level _ _ _).1 h).1 rfl
  rw [heq]
  refine ⟨?_, fun h => ?_, hw.when _ _ fun v hv => hv.setFlag _ _ (by decide)⟩
  · rw [State.when_flt, State.setFlag_flt, ite_self]
    exact hl
  · rw [State.when_true _ _ _ (decide_eq_true (show src = Src.vgdFault from h)), State.flag_setFlag_same _ _ _ (by decide)]

/-- Settles O7: the raises of `State.Within.raised` for the supplies; for the temperatures three comparisons, each of which keeps what the
others recorded. -/
theorem supplyMonitors : Obligations.SupplyMonitors := by
  unfold Obligations.SupplyMonitors
  refine ⟨fun s hr => ⟨fun c src hc hq ha => ?_, fun mv hmv hlt hq ha => ?_, fun src h1 h2 => ?_⟩,
    fun s n o p hr hn ho hp => ⟨fun hv => ?_, fun k hk hv hj hq ha => ?_⟩⟩
  · obtain ⟨u, hu, hw, hsys, hflt, h256⟩ := exec_supplyMonitor s c src hr hc
    obtain ⟨hst, hlv, hmode, hwr, -⟩ := hw.raised (by decide) (by decide) hsys hflt h256 hq ha
    have hwr' := hwr.mono (cs := 0x4001 :: raiseBlocks) (by decide)
    exact ⟨_, hu, hst, hlv, hmode, hwr'.1, hwr'.2⟩
  · obtain ⟨hst, hvio, hbyp, hw⟩ := s.vioFault_raised mv hr hmv hlt hq ha
    exact ⟨_, rfl, hst, hvio, hbyp, hw.1, hw.2⟩
  · obtain ⟨hlv, hvgd, hw⟩ := s.supplyClear_within src hr h1 h2
    exact ⟨_, rfl, hlv, hvgd, hw.1, hw.2⟩
  · have hl (v : Nat) (h : v ∈ [n, o, p]) : v ≤ s.tempLimit := hv v h
    obtain ⟨hN, hS, hP, hlv, hw⟩ := s.tempConversion_cool n o p hr hn ho hp (hl n (by simp)) (hl o (by simp)) (hl p (by simp))
    exact ⟨_, rfl, hN, hS, hP, hlv, hw.1, hw.2⟩
  · refine ⟨_, next_congr (s.tempConversion_eq n o p hr), ?_⟩
    have hlim : (s.tempShown n o p).tempLimit = s.tempLimit := congrArg (· + 50) (s.getF_tempShown_other n o p _ (by decide) (by decide))
    generalize hb : s.tempShown n o p = b at hlim
    have hcool (j : Nat) (h3 : j < 3) (hjk : j ≠ k) : [n, o, p].getD j 0 ≤ s.tempLimit := hj j h3 hjk
    have hcool (j : Nat) (h3 : j < 3) (hjk : j ≠ k) : [n, o, p].getD j 0 ≤ b.tempLimit := (hj j h3 hjk).trans (Nat.le_of_eq hlim.symm)
    interval_cases k
    · refine State.temp_one_above (u := b) (by decide) hn ho hp hb.symm (State.Beside.refl _ b) (fun hl => ?_) hv hq ha
      have h1 := (b.tempOne 0 n).tempOne_beside 1 o (Src.temp 0) (by decide) (hl ▸ hcool 1 (by decide) (by decide)) (by decide) (by decide)
      exact h1.trans (State.tempOne_beside _ 2 p (Src.temp 0) (by decide)
        (((hcool 2 (by decide) (by decide)).trans (Nat.le_of_eq hl.symm)).trans (Nat.le_of_eq (State.tempLimit_congr h1.within).symm))
        (by decide) (by decide))
    · have h0 := b.tempOne_beside 0 n (Src.temp 1) (by decide) (hcool 0 (by decide) (by decide)) (by decide) (by decide)
      refine State.temp_one_above (by decide) hn ho hp hb.symm h0 (fun hl => ?_) hv hq ha
      exact State.tempOne_beside _ 2 p (Src.temp 1) (by decide) (hl ▸ hcool 2 (by decide) (by decide)) (by decide) (by decide)
    · have h0 := b.tempOne_beside 0 n (Src.temp 2) (by decide) (hcool 0 (by decide) (by decide)) (by decide) (by decide)
      have h1 := (b.tempOne 0 n).tempOne_beside 1 o (Src.temp 2) (by decide)
        ((hcool 1 (by decide) (by decide)).trans (Nat.le_of_eq (State.tempLimit_congr h0.within).symm)) (by decide) (by decide)
      exact State.temp_one_above (by decide) hn ho hp hb.symm (h0.trans h1) (fun _ => State.Beside.refl _ _) hv hq ha

end Sys2Proof.Machine
end

section
/-!
# The fault collector
-/
namespace Sys2Proof.Machine

open Sys2Proof

/-! ### What a raise records -/

/-- A running device in mode m in which the listed fields hold the listed values and all else is as after reset. -/
def State.inMode (m : Mode) (l : List (Fld × Nat)) : State :=
  (l.foldl (fun (s : State) x => s.setF x.1 x.2) { State.reset with sys := { phase := .run } }).setF F.SYS_MODE_MODE m.code

theorem State.getF_startWait_low (s : State) (n : Nat) (g : Fld) (hg : g.addr < 0x40030400) : (s.startWait n).getF g = s.getF g := by
  unfold State.startWait
  split
  · split
    · exact State.getF_setF_apart _ _ _ _ (by simp [Fld.ok, F.FLT_SRC_HELD])
        ((Fld.apart_iff _ _).2 (.inl (by simp only [F.FLT_SRC_HELD]; omega)))
    · split <;> rfl
  · rfl

theorem State.brakeRelease_within (s : State) : s.Within [0x400A, 0x400B, 0x4011, 0x4012, 0x4013] s.brakeRelease := by
  unfold State.brakeRelease
  split
  · exact ((((State.Within.refl _ s).hidden ..).setFlag _ _ (by decide)).event _ _ (by decide)).trans
      ((State.confined_refreshPower _).within.mono (by decide))
  · exact State.Within.refl _ s

/-- The collector's registers that only a raise's record writes: below the ACTIVE words, but for STATUS and REACT. -/
def Fld.recordOnly (g : Fld) : Prop := 0x40030000 < g.addr ∧ g.addr < 0x400300A0 ∧ g.addr ≠ 0x40030018

theorem Fld.recordOnly.block {g : Fld} (h : g.recordOnly) : g.addr / 0x10000 = 0x4003 := by
  obtain ⟨h1, h2, -⟩ := h
  omega

theorem State.getF_setActive_record (s : State) (n : Nat) (b : Bool) (g : Fld) (hg : g.recordOnly) :
    (s.setActive n b).getF g = s.getF g := by
  obtain ⟨h1, h2, h3⟩ := hg
  refine State.getF_setActive s n b g ((Fld.apart_iff _ _).2 (.inl ?_)) ((Fld.apart_iff _ _).2 (.inl ?_)) ?_ h3
  · simp only [F.FLT_ACTIVE_ACTIVE]; omega
  · simp only [F.FLT_SRC_ACTIVE]; omega
  · simp only [F.FLT_STATUS_ACTIVE_COUNT]; omega

/-- What the record wrote stays through the rest of a raise without an action. -/
theorem State.getF_doRaise_record (s : State) (n : Nat) (us : Option Nat) (g : Fld) (hn : n < 256) (hq : s.Quiet n) (hg : g.recordOnly) :
    (s.doRaise n us).getF g = (s.fltRecord n).getF g := by
  rw [State.doRaise_quiet s n us hn hq, (State.brakeRelease_within _).getF g (by rw [hg.block]; decide),
    State.getF_fltFreezeAct _ _ _ hg.block hg.2.2, State.getF_startWait_low _ _ _ (by have := hg.2.1; omega)]

theorem State.getF_settle_record (s : State) (n : Nat) (g : Fld) (hg : g.recordOnly) : (s.settle n).getF g = s.getF g := by
  unfold State.settle
  split
  · exact State.getF_setActive_record s n false g hg
  · rfl

/-- The record of a raise, up to the marker. -/
def State.recorded (s : State) (n : Nat) : State :=
  (((s.setF (F.FLT_STICKY_STICKY (n / 32)) (s.getF (F.FLT_STICKY_STICKY (n / 32)) ||| 2 ^ (n % 32))).setActive n true).incF
    (classCounter (s.fltClass n))).setReg F.FLT_LAST_TICK.addr (w32 (s.tickLo % 2 ^ 16 * 2 ^ 16 + s.fltClass n * 2 ^ 8 + n))

/-- After the marker the record writes only the first fatal source and the collector's event. -/
theorem State.getF_fltRecord_low (s : State) (n : Nat) (g : Fld) (h1 : g.addr ≠ 0x40030008) (h2 : g.addr ≠ 0x40030014) :
    (s.fltRecord n).getF g = (s.recorded n).getF g := by
  have hm (c : Nat) : ((s.recorded n).marker 3 n c).getF g = (s.recorded n).getF g := rfl
  unfold State.fltRecord
  dsimp only
  split
  · refine (State.getF_event_other _ _ _ _ h1.symm).trans ?_
    split
    · exact hm _
    · rw [State.getF_setF_apart _ _ _ _ (by decide) ((Fld.apart_iff _ _).2 (.inl h2.symm)),
        State.getF_setFlag_apart _ _ _ _ (by decide) ((Fld.apart_iff _ _).2 (.inl h2.symm))]
      exact hm _
  · exact hm _

theorem classCounter_cases (c : Nat) : classCounter c ∈ [F.FLT_CORRECTED_CNT_COUNT, F.FLT_CONTAINED_CNT_COUNT, F.FLT_FATAL_CNT_COUNT] := by
  unfold classCounter
  split <;> simp

theorem State.getF_recorded_last (s : State) (n : Nat) (hn : n < 256) :
    (s.recorded n).getF F.FLT_LAST_SOURCE = n ∧ (s.recorded n).getF F.FLT_LAST_CLASS = s.fltClass n := by
  have hc : s.fltClass n < 4 := State.getF_lt s (F.FLT_SRC_CLASS n)
  have hr : (s.recorded n).reg F.FLT_LAST_TICK.addr = w32 (s.tickLo % 2 ^ 16 * 2 ^ 16 + s.fltClass n * 2 ^ 8 + n) :=
    State.reg_setReg_same ..
  have hw : (w32 (s.tickLo % 2 ^ 16 * 2 ^ 16 + s.fltClass n * 2 ^ 8 + n)).toNat =
      s.tickLo % 2 ^ 16 * 2 ^ 16 + s.fltClass n * 2 ^ 8 + n := by
    simp only [w32, BitVec.toNat_ofNat]
    omega
  constructor
  · refine (congrArg F.FLT_LAST_SOURCE.get hr).trans ?_
    simp only [Fld.get, hw, F.FLT_LAST_SOURCE, Fld.width]
    omega
  · refine (congrArg F.FLT_LAST_CLASS.get hr).trans ?_
    simp only [Fld.get, hw, F.FLT_LAST_CLASS, Fld.width]
    omega

/-- The registers that a raise's record writes, of those that nothing else writes. -/
def Fld.unrecorded (g : Fld) : Prop :=
  g.recordOnly ∧ (g.addr < 0x40030008 ∨ 0x4003002C ≤ g.addr) ∧ g.addr < 0x40030080

theorem State.getF_recorded_unrecorded (s : State) (n : Nat) (g : Fld) (hg : g.unrecorded) : (s.recorded n).getF g = s.getF g := by
  obtain ⟨hr, ha, hb⟩ := hg
  have hc : (classCounter (s.fltClass n)).addr ≠ g.addr := by
    have := classCounter_cases (s.fltClass n)
    simp only [List.mem_cons, List.not_mem_nil, or_false] at this
    rcases this with h | h | h <;> rw [h] <;> simp only [F.FLT_CORRECTED_CNT_COUNT, F.FLT_CONTAINED_CNT_COUNT, F.FLT_FATAL_CNT_COUNT] <;> omega
  have hl : F.FLT_LAST_TICK.addr ≠ g.addr := by simp only [F.FLT_LAST_TICK]; omega
  have hs : (F.FLT_STICKY_STICKY (n / 32)).addr ≠ g.addr := by simp only [F.FLT_STICKY_STICKY]; omega
  unfold State.recorded
  rw [State.getF_setReg_other _ _ _ _ hl]
  refine (State.getF_congr (State.reg_setF_other _ _ _ _ hc)).trans ((State.getF_setActive_record _ n true g hr).trans ?_)
  exact State.getF_congr (State.reg_setF_other _ _ _ _ hs)

theorem State.getF_recorded_count (s : State) (n : Nat) :
    (s.recorded n).getF (classCounter (s.fltClass n)) = min (2 ^ 32 - 1) (s.getF (classCounter (s.fltClass n)) + 1) := by
  have hf : (classCounter (s.fltClass n)).recordOnly ∧ F.FLT_LAST_TICK.addr ≠ (classCounter (s.fltClass n)).addr ∧
      (classCounter (s.fltClass n)).ok = true ∧ (classCounter (s.fltClass n)).addr < 0x40030080 ∧
      (classCounter (s.fltClass n)).width = 32 := by
    have := classCounter_cases (s.fltClass n)
    simp only [List.mem_cons, List.not_mem_nil, or_false] at this
    rcases this with h | h | h <;> rw [h] <;> exact ⟨by unfold Fld.recordOnly; decide, by decide, by decide, by decide, rfl⟩
  obtain ⟨hr, hl, hok, hb, hw⟩ := hf
  have hs : (F.FLT_STICKY_STICKY (n / 32)).addr ≠ (classCounter (s.fltClass n)).addr := by
    simp only [F.FLT_STICKY_STICKY]
    omega
  unfold State.recorded
  rw [State.getF_setReg_other _ _ _ _ hl, State.getF_incF_same _ _ hok, hw, State.getF_setActive_record _ _ _ _ hr]
  rw [State.getF_congr (State.reg_setF_other _ _ _ _ hs)]

theorem State.levelTimed_eq (s : State) (n : Nat) (us : Option Nat) (ha : s.asserted n = false) :
    ∃ l, s.levelTimed n us = ({ s with flt := l } : State).doRaise n us :=
  ⟨_, if_neg (by rw [ha]; exact Bool.false_ne_true)⟩

/-- Settles O9: the record of a raise, which nothing after it overwrites. -/
theorem faultRaise : Obligations.FaultRaise := by
  unfold Obligations.FaultRaise
  intro s n us lasting hr hn hq ha
  have hexec : ∃ t, exec (.faultRaise n lasting us) s = .next t ∧ t.sticky n = true ∧ s.Confined raiseBlocks t ∧
      ∃ l, ∀ g : Fld, g.recordOnly → t.getF g = (({ s with flt := l } : State).fltRecord n).getF g := by
    refine ⟨_, next_congr (if_neg (by simp [State.running, hr, hn]) : s.faultRaise n lasting us = _), ?_⟩
    cases lasting
    · refine ⟨s.sticky_raise n _ hn hq ha, State.confined_raise s n _ hn hq, s.flt, fun g hg => ?_⟩
      rw [if_neg Bool.false_ne_true, State.raiseTimed, if_neg (by simp [ha]), State.getF_settle_record _ _ _ hg,
        State.getF_doRaise_record _ _ _ _ hn hq hg]
    · refine ⟨s.sticky_raiseLevel n _ hn hq ha, State.confined_raiseLevel s n _ hn hq, ?_⟩
      obtain ⟨l, hl⟩ := s.levelTimed_eq n (some us) ha
      exact ⟨l, fun g hg => (congrArg (State.getF · g) hl).trans (State.getF_doRaise_record { s with flt := l } n _ g hn hq hg)⟩
  obtain ⟨t, ht, hst, hc, l, hg⟩ := hexec
  obtain ⟨hsrc, hcls⟩ := State.getF_recorded_last { s with flt := l } n hn
  refine ⟨t, ht, hst, ?_, ?_, ?_, hc.mode (by decide), hc.within.1, hc.within.2⟩
  · rw [hg _ (by unfold Fld.recordOnly; decide), State.getF_fltRecord_low _ _ _ (by decide) (by decide)]
    exact hsrc
  · rw [hg _ (by unfold Fld.recordOnly; decide), State.getF_fltRecord_low _ _ _ (by decide) (by decide)]
    exact hcls
  · have hf : (classCounter (s.fltClass n)).recordOnly ∧ (classCounter (s.fltClass n)).addr ≠ 0x40030008 ∧
        (classCounter (s.fltClass n)).addr ≠ 0x40030014 := by
      have := classCounter_cases (s.fltClass n)
      simp only [List.mem_cons, List.not_mem_nil, or_false] at this
      rcases this with h | h | h <;> rw [h] <;> exact ⟨by unfold Fld.recordOnly; decide, by decide, by decide⟩
    obtain ⟨hf, h8, h14⟩ := hf
    rw [hg _ hf, State.getF_fltRecord_low _ _ _ h8 h14]
    exact State.getF_recorded_count { s with flt := l } n

/-! ### The collector's other commands -/

/-- STOPPING with the shutdown of the brake pending, source 3 waiting for its clear. -/
def State.brakeDue : State :=
  { State.inMode .stopping [(F.LDS_CFG_RELEASE_EN, 1), (F.FLT_ACTIVE_ACTIVE 5, 2 ^ 16)] with flt := { waiting := [3] } }

/-- Refutes O11: at the end of a clearing wait in STOPPING a brake release that is due goes out and shows in LDS_STATUS, which lies outside the
blocks of the collector and the gate driver. -/
theorem not_faultCollectorCommands : ¬ Obligations.FaultCollectorCommands := by
  unfold Obligations.FaultCollectorCommands
  intro h
  obtain ⟨-, -, h3, -⟩ := h State.brakeDue 3 (by decide +kernel) (by decide)
  obtain ⟨t, ht, -, -, -, -, -, hregs, -⟩ :=
    h3 (by decide +kernel) (by decide +kernel) (by decide +kernel) (by decide +kernel) (by decide +kernel)
  rw [← Host.Outcome.next.inj ht] at hregs
  exact absurd (hregs 0x40110000 (by decide)) (by decide +kernel)

end Sys2Proof.Machine
end

section
/-!
# Output diagnostics and carrier halves
-/
namespace Sys2Proof.Machine

open Sys2Proof

/-! ### Output diagnostics -/

/-- STOPPING with the shutdown of the brake pending, enable 0 shown on although it is not commanded, its readback without action. -/
def State.enableShown : State :=
  State.inMode .stopping [(F.LDS_CFG_RELEASE_EN, 1), (F.FLT_ACTIVE_ACTIVE 5, 2 ^ 16), (F.GDR_EN_STAT_OUT 0, 1), (F.FLT_SRC_REACTION 0x8B, 0)]

/-- Refutes O27: the raise of a readback that differs lets a brake release that is due go out, which refreshes the outputs and with them the
state shown of the enable. -/
theorem not_outputDiagnostics : ¬ Obligations.OutputDiagnostics := by
  unfold Obligations.OutputDiagnostics
  rintro ⟨h, -⟩
  obtain ⟨-, hen, -⟩ := h State.enableShown (by decide +kernel)
  obtain ⟨t, ht, -, -, -, hout, -⟩ :=
    (hen 0 false (by decide)).1 (by decide +kernel) (by decide +kernel) (by decide +kernel)
  rw [← Host.Outcome.next.inj ht] at hout
  exact absurd hout (by decide +kernel)

/-! ### Carrier halves -/

/-- JOIN with a refresh pulse running on a gate that the device does not have, its flag set in the word that the gate's number selects. -/
def State.strayRefresh : State :=
  { State.inMode .join [(F.GDR_GATE_REFRESH 0x10000, 1)] with gdr := { refreshing := [0x10000] }, mots := [{}, {}, {}] }

/-- Refutes O29: the end of the refresh pulses of a half clears the flag of whatever gates the list names, and outside the power blocks where a
gate's number lies past them. -/
theorem not_halfStart : ¬ Obligations.HalfStart := by
  unfold Obligations.HalfStart
  intro h
  obtain ⟨t, ht, -, -, hregs, -⟩ := h State.strayRefresh 0 (by decide +kernel) (by decide) (by decide +kernel) (by decide +kernel)
  rw [← Host.Outcome.next.inj ht] at hregs
  exact absurd (hregs (F.GDR_GATE_REFRESH 0x10000).addr (by decide)) (by decide +kernel)

end Sys2Proof.Machine
end

section
/-!
# Reference checks, shadow copies, network ports and the tile feed
-/
namespace Sys2Proof.Machine

open Sys2Proof

/-! ### A reference check that falls due again -/

/-- JOIN with a check of converter 0 before its second conversion, and another check due on that converter. -/
def State.checkDueAgain : State :=
  { State.inMode .join [(F.ADC_CONV_STAT_STATE 0, 3)] with
    adc := { conv := { ref := some { codes := [6554] }, refDue := true } :: List.replicate 7 {} } }

/-- Refutes O33: the end of a check that passes begins the check that is due on the converter, which then does not run none. -/
theorem not_adcResults : ¬ Obligations.AdcResults := by
  unfold Obligations.AdcResults
  intro h
  obtain ⟨-, href, -⟩ := h State.checkDueAgain (by decide +kernel)
  obtain ⟨hpass, -⟩ := href 0 6554 0 false 0 0 false (by decide) (by decide) (by decide +kernel) (by decide +kernel)
    (by decide +kernel) rfl rfl (by decide) (by decide) (by decide)
  obtain ⟨u, hu, -, -, -, -, hnone, -⟩ := hpass (by decide +kernel)
  rw [← Host.Outcome.next.inj hu] at hnone
  exact absurd (congrArg Option.isNone hnone) (by decide +kernel)

/-! ### A shadow copy beside a state that follows -/

/-- JOIN with a copy for the section engine's status word, which shows the fallback active although it is not configured. -/
def State.statusCopy : State :=
  { State.inMode .join [(F.SEC_STATUS_ISO_ACTIVE, 1)] with svc := { shadow := [(F.SEC_STATUS_ISO_ACTIVE.addr, 0)] } }

/-- Refutes O36: the status word of the section engine has no RL bit and lies in a block of the statement, yet the cycle start lets
ISO_ACTIVE follow the configuration. -/
theorem not_shadowCopiesAndLatches : ¬ Obligations.ShadowCopiesAndLatches := by
  unfold Obligations.ShadowCopiesAndLatches
  rintro ⟨h, -⟩
  obtain ⟨-, -, happly⟩ := h State.statusCopy (by decide +kernel)
  obtain ⟨⟨k, i⟩, hfind, hrl⟩ : ∃ x, findReg F.SEC_STATUS_ISO_ACTIVE.addr = some x ∧ x.1.rl = 0 :=
    ⟨(findReg F.SEC_STATUS_ISO_ACTIVE.addr).get (by decide +kernel), (Option.some_get _).symm, by decide +kernel⟩
  obtain ⟨t, ht, -, -, hreg⟩ := happly _ 0 k i rfl hfind (by decide)
  rw [← Host.Outcome.next.inj ht, show k.rl = 0 from hrl] at hreg
  exact absurd hreg (by decide +kernel)

/-! ### A port that runs while its power domain is lost -/

/-- JOIN with port 0 enabled and active, and the domain of the network interfaces lost. -/
def State.portWithoutDomain : State :=
  let s := State.inMode .join [(F.ETH_CFG_ENABLE 0, 1), (F.ETH_STATUS_ACTIVE 0, 1)]
  { s with sys := { s.sys with joined := true }, eths := [{}, {}], doms := List.replicate 18 {} ++ [{ lost := true }] }

/-- Refutes O50: a poll that finds the link up leaves a port inactive whose power domain is lost. -/
theorem not_ethernetPorts : ¬ Obligations.EthernetPorts := by
  unfold Obligations.EthernetPorts
  rintro ⟨-, h⟩
  obtain ⟨-, -, -, -, -, hpoll, -⟩ := h State.portWithoutDomain 0 (by decide +kernel) (by decide) rfl (by decide +kernel)
  obtain ⟨t, ht, -, -, -, hactive, -⟩ :=
    hpoll [0, 4] (by decide +kernel) (by decide +kernel) (by decide +kernel) (by decide +kernel)
  rw [← Host.Outcome.next.inj ht] at hactive
  exact absurd hactive (by decide +kernel)

/-! ### Datagrams of a port that the device does not have -/

/-- A datagram of the feed under port number 16. -/
def strayDgram (ty session : Nat) (payload : List Byte) : Dgram :=
  { port := 16, ip := 0, src := 0, mac := [], data := feedBytes ty 0 session payload, t := 0, size := 0 }

/-- JOIN with a word set where a seventeenth port would show its buffer, and a datagram of that port in front. -/
def State.strayPort (session : Option Session) (d : Dgram) : State :=
  { State.inMode .join [(F.ETH_RXBUF_DEPTH 16, 1)] with feedq := [d], map := { session := session } }

/-- A session under number 1 that has accepted nothing yet. -/
def strayClient : Session := { id := 1, client := 0, flags := 0, opened := 0, ports := [], seqs := [] }

/-- Refutes O51: taking the BYE sets the buffer's depth in the word that the port's number selects, which lies past the ports' block. -/
theorem not_feedSession : ¬ Obligations.FeedSession := by
  unfold Obligations.FeedSession
  intro h
  obtain ⟨-, -, hend⟩ := h (State.strayPort (some strayClient) (strayDgram 7 1 [])) (by decide +kernel)
  obtain ⟨t, ht, -, -, -, -, -, -, hregs, -⟩ := hend .bye (strayDgram 7 1 []) [] strayClient rfl
    (.inr ⟨rfl, by decide +kernel, rfl, by decide +kernel, by decide +kernel, rfl, by decide +kernel, by decide +kernel⟩)
  rw [← Host.Outcome.next.inj ht] at hregs
  exact absurd (hregs (F.ETH_RXBUF_DEPTH 16).addr (by decide)) (by decide +kernel)

/-- Refutes O52: taking the TILE_DROP sets the buffer's depth in the word that the port's number selects. -/
theorem not_feedTiles : ¬ Obligations.FeedTiles := by
  unfold Obligations.FeedTiles
  intro h
  obtain ⟨-, hdrop, -⟩ := h (State.strayPort (some strayClient) (strayDgram 6 1 [0, 0, 0, 0, 0, 0, 0, 0]))
  obtain ⟨t, ht, -, -, -, -, hregs, -⟩ :=
    hdrop _ [] strayClient ⟨by decide +kernel, rfl, by decide +kernel, by decide +kernel, rfl, by decide +kernel, by decide +kernel⟩
  rw [← Host.Outcome.next.inj ht] at hregs
  exact absurd (hregs (F.ETH_RXBUF_DEPTH 16).addr (by decide)) (by decide +kernel)

/-- Refutes O53: taking the POSE sets the buffer's depth in the word that the port's number selects. -/
theorem not_feedData : ¬ Obligations.FeedData := by
  unfold Obligations.FeedData
  intro h
  obtain ⟨hpose, -⟩ :=
    h (State.strayPort (some strayClient) (strayDgram 2 1 (List.replicate 36 0))) (strayDgram 2 1 (List.replicate 36 0)) [] strayClient _ rfl
  obtain ⟨hgood, -⟩ :=
    hpose ⟨by decide +kernel, rfl, by decide +kernel, by decide +kernel, rfl, by decide +kernel, by decide +kernel⟩
  obtain ⟨t, q, ht, -, -, -, -, -, -, hregs, -⟩ := hgood (by decide +kernel) (by decide +kernel)
  rw [← Host.Outcome.next.inj ht] at hregs
  exact absurd (hregs (F.ETH_RXBUF_DEPTH 16).addr (by decide)) (by decide +kernel)

end Sys2Proof.Machine
end

section
/-!
# What a command leaves alone, with a view of the hidden state
-/
namespace Sys2Proof.Machine

open Sys2Proof

/-- The view `π` sees nothing of what writes to registers, the collector, the journal's markers and the bridges change. -/
def State.Blind {α : Type} (π : State → α) : Prop := ∀ bs s t, State.Confined bs s t → π t = π s

/-- The addresses of the 64 KB blocks `bs`. -/
abbrev inBlocks (bs : List Nat) (a : Nat) : Prop := a / 0x10000 ∈ bs

/-- No register differs but at addresses of which `P` holds, no memory, and the blind view `π` shows the same. -/
structure State.Touches {α : Type} (P : Nat → Prop) (π : State → α) (r t : State) : Prop where
  blind : State.Blind π
  regs : ∀ a, ¬P a → t.reg a = r.reg a
  stores : r.SameStores t
  same : π t = π r

section
variable {α : Type} {π : State → α} {P : Nat → Prop} {r s : State}

theorem State.Touches.refl (hπ : State.Blind π) (P : Nat → Prop) (s : State) : s.Touches P π s :=
  ⟨hπ, fun _ _ => rfl, ⟨rfl, rfl, rfl, rfl⟩, rfl⟩

theorem State.Touches.mono {Q : Nat → Prop} (h : r.Touches P π s) (hc : ∀ a, P a → Q a) : r.Touches Q π s :=
  ⟨h.blind, fun a ha => h.regs a fun hp => ha (hc a hp), h.stores, h.same⟩

theorem State.Touches.within {bs : List Nat} (h : r.Touches (inBlocks bs) π s) : r.Within bs s := ⟨h.regs, h.stores⟩

theorem State.Touches.sameRegs {bs : List Nat} (h : r.Touches P π s) (hc : ∀ a, P a → a / 0x10000 ∈ bs) : r.SameRegs bs s :=
  (h.mono (Q := inBlocks bs) hc).regs

theorem State.Touches.getF (h : r.Touches P π s) (g : Fld) (hg : ¬P g.addr) : s.getF g = r.getF g := State.getF_congr (h.regs _ hg)

theorem State.Touches.flag (h : r.Touches P π s) (g : Fld) (hg : ¬P g.addr) : s.flag g = r.flag g := State.flag_congr (h.getF g hg)

theorem State.Touches.mode (h : r.Touches P π s) (h0 : ¬P F.SYS_MODE_MODE.addr) (hp : s.sys.phase = r.sys.phase) : s.mode = r.mode :=
  State.mode_congr hp (h.getF _ h0)

/-- A source stays quiet where neither the mode nor its REACTION changes. -/
theorem State.Touches.quiet (h : r.Touches P π s) (h0 : ¬P F.SYS_MODE_MODE.addr) (hp : s.sys.phase = r.sys.phase) {n : Nat}
    (h3 : ¬P (F.FLT_SRC_REACTION n).addr) (hq : r.Quiet n) : s.Quiet n := by
  unfold State.Quiet
  rwa [State.fltAction_congr (h.getF _ h3), h.mode h0 hp]

theorem State.Touches.trans {t : State} (h : r.Touches P π s) (k : s.Touches P π t) : r.Touches P π t := by
  obtain ⟨hb, hr, ⟨h1, h2, h3, h4⟩, hv⟩ := h
  obtain ⟨-, kr, ⟨k1, k2, k3, k4⟩, kv⟩ := k
  exact ⟨hb, fun a ha => (kr a ha).trans (hr a ha), ⟨k1.trans h1, k2.trans h2, k3.trans h3, k4.trans h4⟩, kv.trans hv⟩

variable (hs : r.Touches P π s)
include hs

theorem State.Touches.confined {bs : List Nat} {t : State} (h : s.Confined bs t) (hc : ∀ a, a / 0x10000 ∈ bs → P a) : r.Touches P π t :=
  hs.trans ⟨hs.blind, fun a ha => h.within.1 a fun hb => ha (hc a hb), h.within.2, hs.blind bs s t h⟩

/-- New hidden state that the view does not see. -/
theorem State.Touches.hidden {t : State} (h : s.Within [] t) (hv : π t = π s) : r.Touches P π t :=
  hs.trans ⟨hs.blind, fun a _ => h.1 a List.not_mem_nil, h.2, hv⟩

theorem State.Touches.setReg (a : Nat) (w : Word) (h : P a) : r.Touches P π (s.setReg a w) :=
  hs.trans ⟨hs.blind, fun b hb => State.reg_setReg_other s a b w fun e => hb (e ▸ h), ⟨rfl, rfl, rfl, rfl⟩,
    hs.blind _ s _ (State.confined_setReg [a / 0x10000] s a w (List.mem_singleton.2 rfl))⟩

theorem State.Touches.setF (f : Fld) (v : Nat) (h : P f.addr) : r.Touches P π (s.setF f v) := hs.setReg _ _ h
theorem State.Touches.setFlag (f : Fld) (b : Bool) (h : P f.addr) : r.Touches P π (s.setFlag f b) := hs.setReg _ _ h
theorem State.Touches.addF (f : Fld) (n : Nat) (h : P f.addr) : r.Touches P π (s.addF f n) := hs.setReg _ _ h
theorem State.Touches.incF (f : Fld) (h : P f.addr) : r.Touches P π (s.incF f) := hs.setReg _ _ h
theorem State.Touches.peakF (f : Fld) (v : Nat) (h : P f.addr) : r.Touches P π (s.peakF f v) := hs.setReg _ _ h

theorem State.Touches.marker (kind id data : Nat) : r.Touches P π (s.marker kind id data) :=
  hs.confined (State.confined_jrn [] s _) (by simp)

theorem State.Touches.event (e : EvBlk) (b : Nat) (h : P e.ev.addr) : r.Touches P π (s.event e b) := by
  unfold State.event
  dsimp only
  split
  · exact (hs.setF _ _ h).marker _ _ _
  · exact hs.setF _ _ h

theorem State.Touches.raise (n : Nat) (hb : ∀ a, a / 0x10000 ∈ raiseBlocks → P a) (hn : n < 256) (hq : s.Quiet n) :
    r.Touches P π (s.raise n) := hs.confined (State.confined_raise s n none hn hq) hb

theorem State.Touches.raiseLevel (n : Nat) (hb : ∀ a, a / 0x10000 ∈ raiseBlocks → P a) (hn : n < 256) (hq : s.Quiet n) :
    r.Touches P π (s.raiseLevel n) := hs.confined (State.confined_raiseLevel s n none hn hq) hb

theorem State.Touches.clearLevel (n : Nat) (hb : ∀ a, a / 0x10000 = 0x4003 → P a) (hn : n < 256) : r.Touches P π (s.clearLevel n) :=
  hs.confined (State.confined_clearLevel s n hn) fun a ha => hb a (List.mem_singleton.1 ha)

theorem State.Touches.ite (c : Prop) [Decidable c] {t : State} (k : r.Touches P π t) : r.Touches P π (if c then s else t) := by
  split
  · exact hs
  · exact k

theorem State.Touches.when (c : Bool) (f : State → State) (hf : ∀ u, r.Touches P π u → r.Touches P π (f u)) :
    r.Touches P π (s.when c f) := by
  cases c
  · exact hs
  · exact hf s hs

theorem State.Touches.each {β : Type} (l : List β) (f : State → β → State) (hf : ∀ u, ∀ a ∈ l, r.Touches P π u → r.Touches P π (f u a)) :
    r.Touches P π (s.each l f) := by
  unfold State.each
  induction l generalizing s with
  | nil => exact hs
  | cons a l ih => exact ih (hf s a List.mem_cons_self hs) fun u b hb => hf u b (List.mem_cons_of_mem a hb)

end

end Sys2Proof.Machine
end

section
/-!
## The end of the static segment (O24)
-/
namespace Sys2Proof.Machine

open Sys2Proof

/-! ### The end of the static segment -/

/-- What the lead and shadow timers go by besides registers. -/
def State.timers (s : State) : Lds × Sys × Flu := (s.lds, s.sys, s.flu)

theorem State.blind_timers : State.Blind State.timers := by
  rintro bs s _ ⟨-, r, f, j, g, m, rfl⟩
  rfl

theorem State.timers_eq {s t : State} (h : t.timers = s.timers) : t.lds = s.lds ∧ t.sys = s.sys ∧ t.flu = s.flu :=
  ⟨congrArg Prod.fst h, congrArg (fun x => x.2.1) h, congrArg (fun x => x.2.2) h⟩

theorem State.safReceive_touches (s : State) (r : Nat) (hr : r < 6) : s.Touches (inBlocks [0x4010]) State.timers (s.safReceive r) := by
  unfold State.safReceive
  split
  · exact .refl State.blind_timers _ s
  · extract_lets x src slot copy a b valid only next taken ref v deliver keep use cand words s1 s2 s3 s4
    have hb : ∀ a, a / 0x10000 = 0x4010 → inBlocks [0x4010] a := fun a h => List.mem_singleton.2 h
    have h1 : s.Touches (inBlocks [0x4010]) State.timers s1 := (State.Touches.refl State.blind_timers _ s).hidden ((State.Within.refl _ s).hidden ..) rfl
    have h2 : s.Touches (inBlocks [0x4010]) State.timers s2 :=
      ((h1.setF _ _ (hb _ (by simp only [F.SAF_RX_STAT_VERDICT]; omega))).setFlag _ _
        (hb _ (by simp only [F.SAF_RX_STAT_REF_VALID]; omega))).setF _ _ (hb _ (by simp only [F.SAF_RX_STAT_SEQ_REF]; omega))
    have h3 : s.Touches (inBlocks [0x4010]) State.timers s3 := h2.when _ _ fun u hu =>
      (hu.setF _ _ (hb _ (by simp only [F.SAF_RX_STAT_AGE_CNT]; omega))).setReg _ _ (hb _ (by simp only [F.SAF_RX_LAST_C]; omega))
    have h4 : s.Touches (inBlocks [0x4010]) State.timers s4 := h3.incF _ (hb _ (by
      split
      · simp only [F.SAF_RX_BOTH_CNT_COUNT]
        omega
      · split
        · simp only [F.SAF_RX_ONE_CNT_COUNT]
          omega
        · simp only [F.SAF_RX_BAD_CNT_COUNT]
          omega))
    clear_value s4 v
    split
    · exact h4.event _ _ (by decide)
    · exact h4.event _ _ (by decide)
    · exact (h4.incF _ (by decide)).event _ _ (by decide)
    · exact (h4.incF _ (by decide)).event _ _ (by decide)
    · exact (h4.incF _ (by decide)).event _ _ (by decide)
    · exact (h4.incF _ (by decide)).event _ _ (by decide)
    · exact h4

/-- Set-point messages change the set-points only. -/
theorem State.spMessage_touches (s : State) (c : Nat) (alt : Bool) (b : List Byte) :
    s.Touches (inBlocks []) State.timers (s.spMessage c alt b) := by
  unfold State.spMessage
  dsimp only
  split
  · exact .refl State.blind_timers _ s
  · exact (State.Touches.refl State.blind_timers _ s).hidden ((State.Within.refl _ s).hidden ..) rfl

theorem State.spFlue_touches (s : State) (slot : Nat) (p : List Byte) : s.Touches (inBlocks []) State.timers (s.spFlue slot p) :=
  (State.Touches.refl State.blind_timers _ s).each _ _ fun u _ _ hu => hu.trans (State.spMessage_touches u _ _ _)

theorem State.spStatic_touches (s : State) : s.Touches (inBlocks []) State.timers s.spStatic := by
  refine (State.Touches.refl State.blind_timers _ s).each _ _ fun u slot _ hu => ?_
  dsimp only
  split
  · split
    · exact hu.trans (State.spFlue_touches u _ _)
    · exact hu
  · exact hu.trans (State.spFlue_touches u _ _)
  · exact hu.trans (State.spFlue_touches u _ _)
  · exact hu

/-- Where nobody votes against the lead the count of votes is cleared. -/
theorem State.depose_unvoted (s : State) (h : (decide (s.topology = 3) && s.voteCast) = false) :
    s.depose = ({ s with lds := { s.lds with votes := 0, undecided := false } } : State).when s.lds.undecided State.clearAligned := by
  unfold State.depose
  rw [h]
  show State.when _ (s.lds.undecided && !false) _ = _
  rw [Bool.not_false, Bool.and_true]
  rfl

/-- What the count of silence goes by, and the count of votes. -/
def State.listening (s : State) : Phase × Nat × Bool × Nat := (s.sys.phase, s.lds.quiet, s.lds.anyFrame, s.lds.votes)

theorem State.blind_listening : State.Blind State.listening := by
  rintro bs s _ ⟨-, r, f, j, g, m, rfl⟩
  rfl

theorem State.Touches.listening {P : Nat → Prop} {s t : State} (h : s.Touches P State.timers t) : s.Touches P State.listening t := by
  obtain ⟨hl, hs, -⟩ := State.timers_eq h.same
  refine ⟨State.blind_listening, h.regs, h.stores, ?_⟩
  unfold State.listening
  rw [hl, hs]

theorem State.clearAligned_touches (s : State) :
    s.Touches (fun a => a ∈ [0x40110000, 0x40110010, 0x401100E0]) State.listening s.clearAligned := by
  unfold State.clearAligned
  have h0 := (State.Touches.refl State.blind_listening (fun a => a ∈ [0x40110000, 0x40110010, 0x401100E0]) s).hidden
    (t := { s with lds := { s.lds with agree := 0, inRound := false, roundDone := false, sent := [] } }) ((State.Within.refl _ s).hidden ..) rfl
  dsimp only
  split
  · exact ((h0.setFlag _ _ (by decide)).incF _ (by decide)).event _ _ (by decide)
  · exact h0

/-- Isolation changes no mode but LEAD, LEAD-DEGRADED and LIMP. -/
theorem State.isolatedAct_join (s : State) (hm : s.mode = .join) : s.isolatedAct = s := by
  simp [State.isolatedAct, hm]

/-- How long no channel has been heard. -/
def State.silentFor (s : State) : Nat := if s.lds.anyFrame = true then 0 else min 255 (s.lds.quiet + 1)

/-- The count of silence goes on. -/
def State.countSilence (s : State) : State := { s with lds := { s.lds with quiet := s.silentFor } }

theorem State.isolation_heard (s : State) (hN : 0 < s.getF F.LDS_TIMING_LOSS_N) (h : s.silentFor = 0) :
    s.isolation = ({ s.countSilence with lds := { s.countSilence.lds with isolated := none } } : State).setFlag F.LDS_STATUS_ISOLATED false :=
  (if_neg (by show ¬_ ≤ s.silentFor; omega)).trans (if_pos h)

theorem State.isolation_quiet (s : State) (hN : ¬s.getF F.LDS_TIMING_LOSS_N ≤ s.silentFor) (h : s.silentFor ≠ 0) : s.isolation = s.countSilence :=
  (if_neg hN).trans (if_neg h)

theorem State.isolation_known (s : State) (hN : s.getF F.LDS_TIMING_LOSS_N ≤ s.silentFor) (h : s.flag F.LDS_STATUS_ISOLATED = true) :
    s.isolation = s.countSilence.isolatedAct := (if_pos hN).trans (if_pos h)

/-- Isolation begins. -/
def State.isolatedNow (s : State) : State :=
  ((({ s.countSilence with lds := { s.countSilence.lds with isolated := some s.flu.cycle } } : State).setFlag F.LDS_STATUS_ISOLATED true).incF
    F.LDS_ISOLATE_CNT_COUNT).event Ev.lds 8

theorem State.isolation_new (s : State) (hN : s.getF F.LDS_TIMING_LOSS_N ≤ s.silentFor) (h : s.flag F.LDS_STATUS_ISOLATED = false)
    (hm : s.mode ≠ .shadow) : s.isolation = s.isolatedNow.isolatedAct :=
  (if_pos hN).trans ((if_neg (by simp [h])).trans (if_neg hm))

theorem State.isolatedNow_touches (s : State) :
    s.countSilence.Touches (inBlocks [0x4011]) State.listening s.isolatedNow ∧ s.isolatedNow.flag F.LDS_STATUS_ISOLATED = true := by
  have h0 := (State.Touches.refl State.blind_listening (inBlocks [0x4011]) s.countSilence).hidden
    (t := { s.countSilence with lds := { s.countSilence.lds with isolated := some s.flu.cycle } }) ((State.Within.refl _ _).hidden ..) rfl
  refine ⟨((h0.setFlag _ _ (by decide)).incF _ (by decide)).event _ _ (by decide), ?_⟩
  rw [State.isolatedNow, State.flag_event_other _ _ _ _ (by decide), State.flag_incF_apart _ _ _ (by decide) (by decide),
    State.flag_setFlag_same _ _ _ (by decide)]

/-- In JOIN the silence of all channels is counted and shows as isolation. -/
theorem State.isolation_join (s : State) (hm : s.mode = .join) (hN : 0 < s.getF F.LDS_TIMING_LOSS_N) :
    s.countSilence.Touches (inBlocks [0x4011]) State.listening s.isolation ∧
      (s.silentFor = 0 → s.isolation.flag F.LDS_STATUS_ISOLATED = false) ∧
      (s.getF F.LDS_TIMING_LOSS_N ≤ s.silentFor → s.isolation.flag F.LDS_STATUS_ISOLATED = true) := by
  have h0 := State.Touches.refl State.blind_listening (inBlocks [0x4011]) s.countSilence
  by_cases hle : s.getF F.LDS_TIMING_LOSS_N ≤ s.silentFor
  · refine (fun h => ⟨h.1, fun h0 => by omega, fun _ => h.2⟩ :
      s.countSilence.Touches (inBlocks [0x4011]) State.listening s.isolation ∧ s.isolation.flag F.LDS_STATUS_ISOLATED = true → _) ?_
    cases hi : s.flag F.LDS_STATUS_ISOLATED with
    | true =>
      rw [State.isolation_known s hle hi, State.isolatedAct_join s.countSilence hm]
      exact ⟨h0, hi⟩
    | false =>
      obtain ⟨ht, hf⟩ := s.isolatedNow_touches
      rw [State.isolation_new s hle hi (by simp [hm]),
        State.isolatedAct_join _ ((ht.mode (by decide) (congrArg Prod.fst ht.same)).trans hm)]
      exact ⟨ht, hf⟩
  · refine (fun h => ⟨h.1, h.2, fun h0 => absurd h0 hle⟩ :
      s.countSilence.Touches (inBlocks [0x4011]) State.listening s.isolation ∧
        (s.silentFor = 0 → s.isolation.flag F.LDS_STATUS_ISOLATED = false) → _) ?_
    by_cases hz : s.silentFor = 0
    · rw [State.isolation_heard s hN hz]
      exact ⟨(h0.hidden (t := { s.countSilence with lds := { s.countSilence.lds with isolated := none } })
        ((State.Within.refl _ _).hidden ..) rfl).setFlag _ _ (by decide), fun _ => State.flag_setFlag_same _ _ _ (by decide)⟩
    · rw [State.isolation_quiet s hle hz]
      exact ⟨h0, fun h => absurd h hz⟩

/-- The faults of a lead are not counted elsewhere. -/
theorem State.faultCount_other (s : State) (h : s.mode.isLead = false) : ∃ ages,
    s.faultCount = { s with lds := { s.lds with readyAge := ages, f := 0 } } :=
  ⟨_, if_pos (by simp [h])⟩

theorem State.engageDue_join (s : State) (hm : s.mode ≠ .shadow) : ∃ n, s.engageDue = { s with lds := { s.lds with reqSince := n } } := by
  unfold State.engageDue
  split
  · split
    · exact ⟨_, rfl⟩
    · exact ⟨_, if_neg fun h => hm h.1⟩
  · exact ⟨_, rfl⟩

theorem State.silence_other (s : State) (hm : s.mode ≠ .shadow) : s.silence = s := by
  unfold State.silence
  split
  · rfl
  · exact if_neg fun h => hm h.1

/-- The channel in JOIN up to the count of silence. -/
theorem State.staticEnd_join (s : State) (hr : s.sys.phase = .run) (hm : s.mode = .join) :
    ∃ u : State, s.staticEnd = u.isolation.faultCount ∧
      u.mode = .join ∧ u.lds.quiet = s.lds.quiet ∧ u.lds.anyFrame = s.lds.anyFrame ∧ u.lds.votes = 0 ∧
      u.getF F.LDS_TIMING_LOSS_N = s.getF F.LDS_TIMING_LOSS_N := by
  have h0 : s.Touches (inBlocks [0x4010]) State.timers (s.each (List.range 6) State.safReceive) :=
    (State.Touches.refl State.blind_timers _ s).each _ _ fun u r hr hu => hu.trans (State.safReceive_touches u r (List.mem_range.1 hr))
  generalize hs0 : s.each (List.range 6) State.safReceive = s0 at h0
  have h1 : s.Touches (inBlocks [0x4010]) State.timers s0.spStatic := h0.trans ((State.spStatic_touches s0).mono (by simp [inBlocks]))
  generalize hs1 : s0.spStatic = s1 at h1
  have hm1 : s1.mode = .join := (h1.mode (by decide) (congrArg Sys.phase (State.timers_eq h1.same).2.1)).trans hm
  have hd : s1.depose = ({ s1 with lds := { s1.lds with votes := 0, undecided := false } } : State).when s1.lds.undecided State.clearAligned :=
    s1.depose_unvoted (by simp [State.voteCast, hm1, Mode.isLead])
  have h2 : ({ s1 with lds := { s1.lds with votes := 0, undecided := false } } : State).Touches
      (fun a => a ∈ [0x40110000, 0x40110010, 0x401100E0]) State.listening s1.depose := by
    rw [hd]
    exact (State.Touches.refl State.blind_listening _ _).when _ _ fun u hu => hu.trans (State.clearAligned_touches u)
  generalize hs2 : s1.depose = s2 at h2
  have hm2 : s2.mode = .join := (h2.mode (by decide) (congrArg Prod.fst h2.same)).trans hm1
  obtain ⟨n, hn⟩ := s2.engageDue_join (by simp [hm2])
  refine ⟨{ s2 with lds := { s2.lds with reqSince := n } }, ?_, ?_⟩
  · have hi : s2.engageDue.silence = { s2 with lds := { s2.lds with reqSince := n } } := by
      rw [hn]
      exact State.silence_other _ (by show s2.mode ≠ _; simp [hm2])
    rw [← hi, ← hs2, ← hs1, ← hs0]
    rw [← hs1, ← hs0] at hs2
    unfold State.staticEnd
    rw [if_neg (by simp [running_of_run hr])]
    simp only [hm, when_true, Mode.sends]
    rw [hs2, hm2]
    rfl
  · obtain ⟨hlds, -, -⟩ := State.timers_eq h1.same
    have hl := h2.same
    refine ⟨hm2, ?_, ?_, congrArg (fun x => x.2.2.2) hl, ?_⟩
    · rw [← hlds]
      exact congrArg (fun x => x.2.1) hl
    · rw [← hlds]
      exact congrArg (fun x => x.2.2.1) hl
    · exact (h2.getF _ (by decide)).trans (h1.getF _ (by decide))

/-- Where no message of the safety port is expected none is taken. -/
theorem State.safReceive_off (s : State) (h : ∀ r, r < 6 → s.flag (F.SAF_RX_CFG_EN r) = false) :
    s.each (List.range 6) State.safReceive = s := by
  have hfix : ∀ l : List Nat, (∀ r ∈ l, r < 6) → s.each l State.safReceive = s := by
    intro l
    induction l with
    | nil => exact fun _ => rfl
    | cons r l ih =>
      intro hl
      have h1 : s.safReceive r = s := if_pos (by simp [h r (hl r List.mem_cons_self)])
      show State.each (s.safReceive r) l State.safReceive = s
      rw [h1]
      exact ih fun x hx => hl x (List.mem_cons_of_mem _ hx)
  exact hfix _ fun r hr => List.mem_range.1 hr

/-- A ready shadow that hears other nodes, but not its lead, asks for LEAD. -/
theorem State.silence_lead (s : State) (d : Nat) (hm : s.mode = .shadow) (hrx : s.lds.rx = []) (hd : s.lds.leadHeard = some d)
    (hc : d < s.flu.cycle) (ha : s.lds.anyFrame = true) (he : s.lds.engage = false) (hr : s.lds.ownReady = true)
    (hn : s.sys.next = []) :
    s.silence = { s with lds := { s.lds with engage := true, hoCause := 2, hoFrom := s.lds.leadId }, sys := { s.sys with next := [(.lead, 0, 0)] } } := by
  have hh : s.heardNow = [] := by rw [State.heardNow, hrx]; rfl
  unfold State.silence
  rw [hd]
  refine (if_pos ⟨hm, by rw [hh]; rfl, he, hc, ha, by rw [hh, State.successor, hr]; rfl⟩).trans ?_
  refine (if_neg (by simp [hn])).trans ?_
  simp only [hn, List.nil_append]

/-- A shadow that hears other nodes, but not its lead, up to its request. -/
theorem State.staticEnd_shadow (s : State) (d : Nat) (hr : s.sys.phase = .run) (hm : s.mode = .shadow) (ht : s.topology ≠ 3)
    (hu : s.lds.undecided = false) (hrx : s.lds.rx = []) (hd : s.lds.leadHeard = some d) (hc : d < s.flu.cycle)
    (ha : s.lds.anyFrame = true) (he : s.lds.engage = false) (ho : s.lds.ownReady = true) (hn : s.sys.next = [])
    (hN : 0 < s.getF F.LDS_TIMING_LOSS_N) (hen : ∀ r, r < 6 → s.flag (F.SAF_RX_CFG_EN r) = false) :
    ∃ t, exec .staticSegmentEnd s = .next t ∧ t.sys.next = [(.lead, 0, 0)] ∧ t.lds.engage = true ∧ t.lds.hoCause = 2 ∧ t.mode = .shadow := by
  have h1 : s.Touches (inBlocks []) State.timers s.spStatic := State.spStatic_touches s
  generalize hs1 : s.spStatic = s1 at h1
  obtain ⟨hlds, hsys, hflu⟩ := State.timers_eq h1.same
  have hm1 : s1.mode = .shadow := (h1.mode (by decide) (congrArg Sys.phase hsys)).trans hm
  have hd1 := s1.depose_unvoted (by rw [show s1.topology = s.topology from h1.getF _ (by decide)]; simp [ht])
  rw [hlds, hu] at hd1
  have hdm : s1.depose.mode = .shadow := hd1 ▸ hm1
  have he1 : s1.depose.engageDue = s1.depose := by
    rw [State.engageDue, show s1.depose.heardNow = [] by rw [hd1]; show heardFrames s.lds.rx = _; rw [hrx]; rfl]
    rfl
  have hq1 := s1.depose.silence_lead d (by rw [hd1]; exact hm1) (by rw [hd1]; exact hrx) (by rw [hd1]; exact hd)
    (by rw [hd1]; show d < s1.flu.cycle; rw [hflu]; exact hc) (by rw [hd1]; exact ha) (by rw [hd1]; exact he)
    (by rw [hd1]; exact ho) (by rw [hd1]; show s1.sys.next = _; rw [hsys]; exact hn)
  generalize hb : s1.depose.silence = b at hq1
  have hst : s.staticEnd = b.isolation.faultCount := by
    unfold State.staticEnd
    rw [if_neg (by simp [State.running_of_run hr]), State.safReceive_off s hen]
    simp only [hm, when_true, Mode.sends]
    rw [hs1]
    refine (if_neg ?_).trans (by rw [he1, hb])
    show ¬(!s1.depose.mode.sends) = true
    rw [hdm]
    decide
  have hbm : b.mode = .shadow := hq1 ▸ hdm
  have hbq : b.silentFor = 0 := if_pos (by rw [hq1, hd1]; exact ha)
  have hbN : b.getF F.LDS_TIMING_LOSS_N = s.getF F.LDS_TIMING_LOSS_N := by
    rw [hq1, hd1]
    exact h1.getF _ (by decide)
  have hiso := b.isolation_heard (by rw [hbN]; exact hN) hbq
  have him : b.isolation.mode = .shadow := by
    rw [hiso]
    exact (((State.Within.refl [0x4011] _).setFlag _ _ (by decide)).mode (by decide) rfl).trans hbm
  obtain ⟨ages, hages⟩ := b.isolation.faultCount_other (by rw [him]; rfl)
  refine ⟨s.staticEnd, rfl, ?_⟩
  rw [hst, hages]
  refine ⟨?_, ?_, ?_, him⟩
  · show b.isolation.sys.next = _
    rw [hiso, hq1]
    rfl
  · show b.isolation.lds.engage = _
    rw [hiso, hq1]
    rfl
  · show b.isolation.lds.hoCause = _
    rw [hiso, hq1]
    rfl

/-- Settles O24, by following the channel in JOIN to its count of silence and a shadow to its request. -/
theorem staticSegmentEnd : Obligations.StaticSegmentEnd := by
  refine fun s hr => ⟨fun hm hN => ?_, fun d hm ht hu hrx hd hc ha he ho _ hn hN hen => ?_⟩
  · obtain ⟨u, hu, hum, hq, hf, hv, hl⟩ := s.staticEnd_join hr hm
    have hsil : u.silentFor = s.silentFor := by rw [State.silentFor, State.silentFor, hq, hf]
    obtain ⟨ht, hheard, hsilent⟩ := u.isolation_join hum (hl ▸ hN)
    have htm : u.isolation.mode = .join := (ht.mode (by decide) (congrArg Prod.fst ht.same)).trans hum
    obtain ⟨ages, hages⟩ := u.isolation.faultCount_other (by rw [htm]; rfl)
    refine ⟨s.staticEnd, rfl, ?_⟩
    rw [hu, hages]
    refine ⟨htm, (congrArg (fun x => x.2.2.2) ht.same).trans hv, (congrArg (fun x => x.2.1) ht.same).trans hsil, ?_, ?_⟩
    · exact fun ha => hheard (by rw [hsil, State.silentFor, if_pos ha])
    · exact fun ha hle => hsilent (by rwa [hl, hsil, State.silentFor, if_neg (by simp [ha])])
  · exact State.staticEnd_shadow s d hr hm ht hu hrx hd hc ha he ho hn hN hen

end Sys2Proof.Machine
end

section
/-!
# Frames of the service port and JTAG
-/
namespace Sys2Proof.Machine

open Sys2Proof

/-! ### Frames of the service port -/

theorem State.blind_svc : State.Blind State.svc := by
  rintro bs s _ ⟨-, r, f, j, g, m, rfl⟩
  rfl

/-- What a frame's header and answer leave besides registers. -/
def State.behindPort (s : State) : Sys × Option Nvm × List Mode := (s.sys, s.svc.nvm, [])

theorem State.blind_behindPort : State.Blind State.behindPort := by
  rintro bs s _ ⟨-, r, f, j, g, m, rfl⟩
  rfl

/-- A frame whose header shows, before its CRC is judged. -/
def State.svcShown (s : State) (cmd : Nat) (f : SvcFrame) : State :=
  ((s.incF F.SVC_FRAME_CNT_COUNT).svcHeader cmd f.addr f.len).setFlag F.SVC_LINK_MODE3 f.mode3

/-- A frame that runs its command. -/
def State.openFrame (s : State) : State := { s with svc := { s.svc with frame := true } }

/-- A frame whose command runs. -/
def State.svcOpen (s : State) (cmd : Nat) (f : SvcFrame) : State := (s.svcShown cmd f).openFrame

/-- A frame that has ended. -/
def State.closeFrame (s : State) (cmd : Nat) (f : SvcFrame) (st : SvcStatus) (data : List Byte) : State :=
  { s with svc := { s.svc with frame := false, status := some st.code, miso := svcMiso cmd f data st.code } }

/-- The answer of a frame. -/
def State.svcAnswer (s : State) (cmd : Nat) (f : SvcFrame) (st : SvcStatus) (data : List Byte) : State :=
  (((s.svcCount st).setF F.SVC_LAST_STATUS st.code).peakF F.SVC_LINK_BUSY_MAX f.busyUs).closeFrame cmd f st data

/-- The counter of a status and the event register, where it has them. -/
def SvcStatus.counts : SvcStatus → List Nat
  | .ok | .refused => []
  | .crc => [0x40170004, 0x40170044]
  | .badCmd => [0x40170004, 0x40170048]
  | .locked => [0x40170004, 0x4017004C]
  | .wrongMode => [0x40170050]
  | .badKey => [0x40170004, 0x40170054]
  | .busy => [0x40170058]

theorem State.behindPort_openFrame (s : State) : s.openFrame.behindPort = s.behindPort := rfl

theorem State.behindPort_closeFrame (s : State) (cmd : Nat) (f : SvcFrame) (st : SvcStatus) (data : List Byte) :
    (s.closeFrame cmd f st data).behindPort = s.behindPort := rfl

theorem State.svcPowered_run (s : State) (h : s.sys.phase = .run) : s.svcPowered = true := by simp [State.svcPowered, h]

section
variable (s : State) (cmd : Nat) (f : SvcFrame) (act : State → State × SvcStatus × List Byte)

theorem State.svcFrame_crc (hp : s.svcPowered = true) (hw : s.sys.wiped = true) (hc : crcChecks cmd f = false) :
    s.svcFrame cmd f act = (s.svcShown cmd f).svcAnswer cmd f .crc [] := by
  unfold State.svcFrame
  rw [hp, hw, hc]
  exact if_neg fun h : s.sys.phase ≠ s.sys.phase => h rfl

theorem State.svcFrame_act (hp : s.svcPowered = true) (hw : s.sys.wiped = true) (hc : crcChecks cmd f = true) (u : State) (st : SvcStatus)
    (data : List Byte) (ha : act (s.svcOpen cmd f) = (u, st, data)) (hu : u.sys.phase = s.sys.phase) :
    s.svcFrame cmd f act = u.svcAnswer cmd f st data := by
  unfold State.svcFrame
  rw [hp, hw, hc]
  show (if (act (s.svcOpen cmd f)).1.sys.phase ≠ s.sys.phase then _ else State.svcAnswer (act (s.svcOpen cmd f)).1 cmd f (act (s.svcOpen cmd f)).2.1
    (act (s.svcOpen cmd f)).2.2) = _
  rw [ha]
  exact if_neg fun h => h hu

theorem State.svcShown_touches :
    s.Touches (fun a => a ∈ [0x4017000C, 0x40170010, 0x4017001C, 0x40170040]) State.behindPort (s.svcShown cmd f) := by
  unfold State.svcShown State.svcHeader
  exact (((((State.Touches.refl State.blind_behindPort _ s).incF F.SVC_FRAME_CNT_COUNT (by decide)).setF F.SVC_LAST_CMD _ (by decide)).setF
    F.SVC_LAST_LEN _ (by decide)).setF F.SVC_LAST_ADDR_ADDR _ (by decide)).setFlag F.SVC_LINK_MODE3 _ (by decide)

theorem State.svcOpen_touches :
    s.Touches (fun a => a ∈ [0x4017000C, 0x40170010, 0x4017001C, 0x40170040]) State.behindPort (s.svcOpen cmd f) :=
  (s.svcShown_touches cmd f).hidden ((State.Within.refl [] _).hidden ..) (State.behindPort_openFrame _)

theorem State.svcCount_touches (st : SvcStatus) : s.Touches (fun a => a ∈ st.counts) State.behindPort (s.svcCount st) := by
  have h0 := State.Touches.refl State.blind_behindPort (fun a => a ∈ st.counts) s
  cases st
  case ok | refused => exact h0
  case crc => exact (h0.incF F.SVC_CRC_CNT_COUNT (by decide)).event Ev.svc _ (by decide)
  case badCmd => exact (h0.incF F.SVC_BAD_CMD_CNT_COUNT (by decide)).event Ev.svc _ (by decide)
  case locked => exact (h0.incF F.SVC_LOCKED_CNT_COUNT (by decide)).event Ev.svc _ (by decide)
  case badKey => exact (h0.incF F.SVC_BAD_KEY_CNT_COUNT (by decide)).event Ev.svc _ (by decide)
  case wrongMode => exact h0.incF F.SVC_WRONG_MODE_CNT_COUNT (by decide)
  case busy => exact h0.incF F.SVC_BUSY_CNT_COUNT (by decide)

theorem State.svcAnswer_touches (st : SvcStatus) (data : List Byte) :
    s.Touches (fun a => a ∈ st.counts ∨ a = 0x4017000C ∨ a = 0x4017001C) State.behindPort (s.svcAnswer cmd f st data) := by
  unfold State.svcAnswer
  exact ((((s.svcCount_touches st).mono fun _ h => .inl h).setF F.SVC_LAST_STATUS _ (.inr (.inl rfl))).peakF F.SVC_LINK_BUSY_MAX _
    (.inr (.inr rfl))).hidden ((State.Within.refl [] _).hidden ..) (State.behindPort_closeFrame ..)

theorem State.svcAnswer_shows (st : SvcStatus) (data : List Byte) :
    (s.svcAnswer cmd f st data).svc.status = some st.code ∧ (s.svcAnswer cmd f st data).svc.miso = svcMiso cmd f data st.code := ⟨rfl, rfl⟩

end

/-- A frame answered after its command wrote within block 0x4017 only. -/
theorem State.svcAnswer_within {bs : List Nat} {r : State} (s : State) (cmd : Nat) (f : SvcFrame) (st : SvcStatus) (data : List Byte)
    (h : r.Within bs s) (hb : 0x4017 ∈ bs) : r.Within bs (s.svcAnswer cmd f st data) := by
  refine h.trans (((s.svcAnswer_touches cmd f st data).mono (Q := inBlocks [0x4017]) fun a ha => ?_).within.mono (by simpa using hb))
  have hc : ∀ b ∈ st.counts, b / 0x10000 ∈ [0x4017] := by cases st <;> decide
  rcases ha with h | rfl | rfl
  · exact hc a h
  · decide
  · decide

theorem State.svcShown_counted (s : State) (cmd : Nat) (f : SvcFrame) :
    (s.svcShown cmd f).getF F.SVC_FRAME_CNT_COUNT = min (2 ^ 32 - 1) (s.getF F.SVC_FRAME_CNT_COUNT + 1) := by
  unfold State.svcShown State.svcHeader
  rw [State.getF_setFlag_apart _ _ _ _ (by decide) (by decide), State.getF_setF_apart _ _ _ _ (by decide) (by decide),
    State.getF_setF_apart _ _ _ _ (by decide) (by decide), State.getF_setF_apart _ _ _ _ (by decide) (by decide)]
  exact State.getF_incF_same _ _ (by decide)

theorem State.getF_peakF_apart (s : State) (f g : Fld) (v : Nat) (hf : f.ok = true) (h : f.apart g = true) : (s.peakF f v).getF g = s.getF g :=
  State.getF_setF_apart _ _ _ _ hf h

theorem State.getF_closeFrame (s : State) (cmd : Nat) (f : SvcFrame) (st : SvcStatus) (data : List Byte) (g : Fld) :
    (s.closeFrame cmd f st data).getF g = s.getF g := rfl

theorem State.svcAnswer_status (s : State) (cmd : Nat) (f : SvcFrame) (st : SvcStatus) (data : List Byte) :
    (s.svcAnswer cmd f st data).getF F.SVC_LAST_STATUS = st.code := by
  have hb : st.code < 2 ^ F.SVC_LAST_STATUS.width := by cases st <;> decide
  have hs := State.getF_setF_same (s.svcCount st) F.SVC_LAST_STATUS st.code (by decide)
  rw [Nat.mod_eq_of_lt hb] at hs
  rw [State.svcAnswer, State.getF_closeFrame, State.getF_peakF_apart _ _ _ _ (by decide) (by decide)]
  exact hs

/-- The counter of a status counts. -/
theorem State.svcAnswer_counted (s : State) (cmd : Nat) (f : SvcFrame) (st : SvcStatus) (data : List Byte) (g : Fld)
    (hg : (st, g) ∈ [(SvcStatus.crc, F.SVC_CRC_CNT_COUNT), (.locked, F.SVC_LOCKED_CNT_COUNT), (.busy, F.SVC_BUSY_CNT_COUNT)]) :
    (s.svcAnswer cmd f st data).getF g = min (2 ^ 32 - 1) (s.getF g + 1) := by
  have h (t : State) (g : Fld) (h1 : F.SVC_LINK_BUSY_MAX.apart g = true) (h2 : F.SVC_LAST_STATUS.apart g = true) :
      (((t.setF F.SVC_LAST_STATUS st.code).peakF F.SVC_LINK_BUSY_MAX f.busyUs).closeFrame cmd f st data).getF g = t.getF g := by
    rw [State.getF_closeFrame, State.getF_peakF_apart _ _ _ _ (by decide) h1, State.getF_setF_apart _ _ _ _ (by decide) h2]
  simp only [List.mem_cons, List.not_mem_nil, or_false, Prod.mk.injEq] at hg
  rcases hg with ⟨rfl, rfl⟩ | ⟨rfl, rfl⟩ | ⟨rfl, rfl⟩
  · exact (h _ _ (by decide) (by decide)).trans (State.getF_incF_event s _ Ev.svc 0 (by decide) (by decide))
  · exact (h _ _ (by decide) (by decide)).trans (State.getF_incF_event s _ Ev.svc 2 (by decide) (by decide))
  · exact (h _ _ (by decide) (by decide)).trans (State.getF_incF_same s _ (by decide))

/-! ### The JTAG port -/

/-- An instruction loaded through the TAP, before it acts. -/
def State.jtagShown (s : State) (ir : Nat) : State :=
  (({ s with svc := { s.svc with scan := none } } : State).setF F.SVC_JTAG_LAST_IR ir).setFlag F.SVC_JTAG_ACTIVE true

/-- What an instruction shifts out. -/
def State.shiftsOut (s : State) (tdo : List Word) : State := { s with svc := { s.svc with tdo := tdo } }

theorem State.jtag_eq (s : State) (ir : Nat) (what : JtagOp) (tms : List Bool) (trst : Bool) (h : s.sys.phase = .run) :
    s.jtag ir what tms trst = (((s.jtagShown ir).jtagDo what).1.shiftsOut ((s.jtagShown ir).jtagDo what).2).tapMove tms trst :=
  if_neg fun hn => hn.1 h

/-- An instruction acts as BYPASS: nothing but IDCODE acts outside BLANK. -/
theorem State.jtagDo_locked (s : State) (what : JtagOp) (h : s.otp.lifecycle ≠ 0) (hw : what ≠ .idcode) : s.jtagDo what = (s, [0]) := by
  unfold State.jtagDo
  simp only [h, decide_false, Bool.false_and]
  cases what
  case idcode => exact absurd rfl hw
  all_goals rfl

theorem State.tapMove_shows (s : State) (tms : List Bool) (trst : Bool) :
    (s.tapMove tms trst).svc.tdo = s.svc.tdo ∧
      (s.tapMove tms trst).svc.tap = (if trst = true then .testLogicReset else tms.foldl Tap.next .runTestIdle) ∧
      (s.tapMove tms trst).flag F.SVC_JTAG_ACTIVE = decide ((s.tapMove tms trst).svc.tap ≠ .testLogicReset) :=
  ⟨rfl, rfl, State.flag_setFlag_same _ _ _ (by decide)⟩

theorem State.OnlyRegs.tapMove {r s : State} (h : r.OnlyRegs [F.SVC_JTAG_ACTIVE.addr] s) (tms : List Bool) (trst : Bool) :
    r.OnlyRegs [F.SVC_JTAG_ACTIVE.addr] (s.tapMove tms trst) :=
  State.OnlyRegs.setFlag (s := { s with svc := _ }) h _ _ (by decide)

theorem State.jtagShown_regs (s : State) (ir : Nat) :
    s.OnlyRegs [F.SVC_JTAG_ACTIVE.addr] (s.jtagShown ir) ∧ s.SameStores (s.jtagShown ir) :=
  ⟨((State.OnlyRegs.refl _ { s with svc := { s.svc with scan := none } }).setF _ _ (by decide)).setFlag _ _ (by decide), rfl, rfl, rfl, rfl⟩

theorem State.jtag_ir (s : State) (ir : Nat) (tms : List Bool) (trst : Bool) (tdo : List Word) (h : ir < 256) :
    (((s.jtagShown ir).shiftsOut tdo).tapMove tms trst).getF F.SVC_JTAG_LAST_IR = ir := by
  refine (State.getF_setFlag_apart _ F.SVC_JTAG_ACTIVE _ _ (by decide) (by decide)).trans
    ((State.getF_setFlag_apart _ F.SVC_JTAG_ACTIVE _ _ (by decide) (by decide)).trans ?_)
  exact (State.getF_setF_same _ F.SVC_JTAG_LAST_IR ir (by decide)).trans (Nat.mod_eq_of_lt h)

/-- The latest frame shows a status that nothing fixes. -/
def State.withStatus (s : State) : State := (s.setF F.SVC_LAST_STATUS s.fresh.1.toNat).fresh.2

theorem State.svcHeader_touches (s : State) (cmd addr len : Nat) :
    s.Touches (fun a => a ∈ [0x4017000C, 0x40170010]) State.svc (s.svcHeader cmd addr len) := by
  unfold State.svcHeader
  exact (((State.Touches.refl State.blind_svc _ s).setF F.SVC_LAST_CMD _ (by decide)).setF F.SVC_LAST_LEN _ (by decide)).setF
    F.SVC_LAST_ADDR_ADDR _ (by decide)

theorem State.withStatus_touches (s : State) : s.Touches (fun a => a ∈ [0x4017000C, 0x40170010]) State.svc s.withStatus := by
  unfold State.withStatus
  generalize s.fresh.1.toNat = v
  have h := (State.Touches.refl State.blind_svc (fun a => a ∈ [0x4017000C, 0x40170010]) s).setF F.SVC_LAST_STATUS v (by decide)
  generalize s.setF F.SVC_LAST_STATUS v = t at h
  exact h.hidden ((State.Within.refl [] t).hidden ..) rfl

/-- What an abandoned frame counts, before its header shows. -/
def State.abandoned (s : State) (mode3 : Bool) : State :=
  (((s.incF F.SVC_FRAME_CNT_COUNT).setFlag F.SVC_LINK_MODE3 mode3).incF F.SVC_ABANDON_CNT_COUNT).event Ev.svc 4

theorem State.abandoned_shows (s : State) (mode3 : Bool) :
    (s.abandoned mode3).getF F.SVC_ABANDON_CNT_COUNT = min (2 ^ 32 - 1) (s.getF F.SVC_ABANDON_CNT_COUNT + 1) ∧
      (s.abandoned mode3).getF F.SVC_FRAME_CNT_COUNT = min (2 ^ 32 - 1) (s.getF F.SVC_FRAME_CNT_COUNT + 1) ∧
      (s.abandoned mode3).svc = s.svc ∧ s.Within [0x4017] (s.abandoned mode3) := by
  unfold State.abandoned
  refine ⟨?_, ?_, by simp, ((((State.Within.refl _ s).incF _ (by decide)).setFlag _ _ (by decide)).incF _ (by decide)).event _ _ (by decide)⟩
  · rw [State.getF_incF_event _ _ _ _ (by decide) (by decide), State.getF_setFlag_apart _ _ _ _ (by decide) (by decide),
      State.getF_incF_apart _ _ _ (by decide) (by decide)]
    rfl
  · rw [State.getF_event_other _ _ _ _ (by decide), State.getF_incF_apart _ _ _ (by decide) (by decide),
      State.getF_setFlag_apart _ _ _ _ (by decide) (by decide)]
    exact State.getF_incF_same _ _ (by decide)

theorem State.svcAbandon_shows (s : State) (header : Option (Nat × Nat × Nat)) (mode3 : Bool) (hr : s.sys.phase = .run) :
    ∃ t, exec (.svcAbandon header mode3) s = .next t ∧
      t.getF F.SVC_ABANDON_CNT_COUNT = min (2 ^ 32 - 1) (s.getF F.SVC_ABANDON_CNT_COUNT + 1) ∧
      t.getF F.SVC_FRAME_CNT_COUNT = min (2 ^ 32 - 1) (s.getF F.SVC_FRAME_CNT_COUNT + 1) ∧ t.svc = s.svc ∧ s.SameRegs [0x4017] t ∧
      s.SameStores t := by
  have hexec : s.svcAbandon header mode3 = match header with
      | some (cmd, addr, len) => ((s.abandoned mode3).svcHeader cmd addr len).withStatus
      | none => s.abandoned mode3 := by
    unfold State.svcAbandon
    rw [s.svcPowered_run hr]
    rfl
  obtain ⟨h1, h2, h3, h4⟩ := s.abandoned_shows mode3
  generalize s.abandoned mode3 = u at h1 h2 h3 h4 hexec
  cases header with
  | none => exact ⟨_, next_congr hexec, h1, h2, h3, h4⟩
  | some x =>
    obtain ⟨cmd, addr, len⟩ := x
    have hw := (u.svcHeader_touches cmd addr len).trans (u.svcHeader cmd addr len).withStatus_touches
    have hb := (hw.mono (Q := inBlocks [0x4017]) (by decide)).within
    refine ⟨_, next_congr hexec, (hw.getF _ (by decide)).trans h1, (hw.getF _ (by decide)).trans h2, hw.same.trans h3, ?_⟩
    exact h4.trans hb

/-- Settles O38, by the answer of a frame and by what the TAP's instructions shift out. -/
theorem serviceFramesAndJtag : Obligations.ServiceFramesAndJtag := by
  refine ⟨fun s f cmd c hr hw hc hcmd => ?_, fun s hr => ⟨fun header mode3 => ?_, fun ir tms trst hir => ?_, fun ir what tms trst hir hl hwhat => ?_,
    fun ir cells hl => ?_⟩⟩
  · have hexec : exec c s = .next ((s.svcShown cmd f).svcAnswer cmd f .crc []) := by
      simp only [List.mem_cons, List.not_mem_nil, or_false, Prod.mk.injEq] at hcmd
      have h := fun act => next_congr (s.svcFrame_crc cmd f act (s.svcPowered_run hr) hw hc)
      rcases hcmd with ⟨rfl, rfl⟩ | ⟨rfl, rfl⟩ | ⟨rfl, rfl⟩ | ⟨rfl, rfl⟩ | ⟨rfl, rfl⟩ | ⟨rfl, rfl⟩ | ⟨rfl, rfl⟩ | ⟨rfl, rfl⟩ | ⟨rfl, rfl⟩
      all_goals exact h _
    have h1 := s.svcShown_touches cmd f
    have h2 := (s.svcShown cmd f).svcAnswer_touches cmd f .crc []
    have hv := h2.same.trans h1.same
    have hwi := State.svcAnswer_within (s.svcShown cmd f) cmd f .crc [] (h1.mono (Q := inBlocks [0x4017]) (by decide)).within (by decide)
    refine ⟨_, hexec, rfl, rfl, congrArg (fun x => x.2.1) hv, hwi.mode (by decide) (congrArg (fun x => x.1.phase) hv),
      State.svcAnswer_status .., ?_, ?_, hwi.1, hwi.2⟩
    · rw [State.svcAnswer_counted _ _ _ _ _ _ (by simp), h1.getF _ (by decide)]
    · rw [h2.getF _ (by decide), State.svcShown_counted]
  · exact s.svcAbandon_shows header mode3 hr
  · have hj := s.jtag_eq ir .idcode tms trst hr
    obtain ⟨hreg, hst⟩ := s.jtagShown_regs ir
    obtain ⟨htdo, htap, hact⟩ := ((s.jtagShown ir).shiftsOut [idcode]).tapMove_shows tms trst
    exact ⟨_, next_congr hj, htdo, s.jtag_ir ir tms trst _ hir, htap, hact, State.OnlyRegs.tapMove hreg tms trst, hst⟩
  · have hd := (s.jtagShown ir).jtagDo_locked what hl hwhat
    have hj := s.jtag_eq ir what tms trst hr
    rw [hd] at hj
    obtain ⟨hreg, hst⟩ := s.jtagShown_regs ir
    obtain ⟨htdo, -, hact⟩ := ((s.jtagShown ir).shiftsOut [0]).tapMove_shows tms trst
    exact ⟨_, next_congr hj, htdo, ite_self none, hact, State.OnlyRegs.tapMove hreg tms trst, hst⟩
  · have hj := s.jtag_eq ir (.boundary cells) [] false hr
    have hd : (s.jtagShown ir).jtagDo (.boundary cells) = _ := if_pos (decide_eq_true hl)
    rw [hd] at hj
    obtain ⟨hreg, hst⟩ := s.jtagShown_regs ir
    exact ⟨_, next_congr hj, rfl, (List.length_map _).trans List.length_range, State.OnlyRegs.tapMove hreg _ _, hst⟩

end Sys2Proof.Machine
end

section
/-!
# READ, WRITE and ASH_READ
-/
namespace Sys2Proof.Machine

open Sys2Proof

/-! ### READ, WRITE and ASH_READ -/

section
variable (s : State) (cmd : Nat) (f : SvcFrame)

theorem State.svcOpen_within : s.Within [0x4017] (s.svcOpen cmd f) := ((s.svcOpen_touches cmd f).mono (Q := inBlocks [0x4017]) (by decide)).within

theorem State.svcOpen_phase : (s.svcOpen cmd f).sys.phase = s.sys.phase := congrArg (fun x => x.1.phase) (s.svcOpen_touches cmd f).same

theorem State.svcOpen_mode : (s.svcOpen cmd f).mode = s.mode := (s.svcOpen_within cmd f).mode (by decide) (s.svcOpen_phase cmd f)

/-- A frame whose command changes nothing but what the port shows. -/
theorem State.svcFrame_still (act : State → State × SvcStatus × List Byte) (hp : s.svcPowered = true) (hw : s.sys.wiped = true)
    (hc : crcChecks cmd f = true) (st : SvcStatus) (data : List Byte) (ha : act (s.svcOpen cmd f) = (s.svcOpen cmd f, st, data)) :
    s.svcFrame cmd f act = (s.svcOpen cmd f).svcAnswer cmd f st data ∧
      s.Within [0x4017] ((s.svcOpen cmd f).svcAnswer cmd f st data) :=
  ⟨s.svcFrame_act cmd f act hp hw hc _ st data ha (s.svcOpen_phase cmd f), State.svcAnswer_within _ cmd f st data (s.svcOpen_within cmd f) (by decide)⟩

end

/-- One word read. -/
theorem State.readWords_one (s : State) (a flueNs rtcUnits : Nat) :
    s.readWords false a 1 flueNs rtcUnits = ((s.readWord false a flueNs rtcUnits).1, [(s.readWord false a flueNs rtcUnits).2]) := rfl

theorem State.readWord_tile (s : State) (a flueNs rtcUnits : Nat) (h1 : 0x20000000 ≤ a) (h2 : a < 0x20800000) :
    s.readWord false a flueNs rtcUnits = (s, if s.mode = .service then Mem.word 0 s.tiles a else 0) := by
  refine (if_pos ⟨h1, h2⟩).trans ?_
  simp

/-- Block HOB shows its registers as they are. -/
theorem State.readWord_hob (s : State) (a flueNs rtcUnits : Nat) (h : a / 0x10000 = 0x4005) (hf : (findReg a).isSome = true) :
    s.readWord false a flueNs rtcUnits = (s, s.reg a) := by
  have hne (b : Nat) (hb : b / 0x10000 ≠ 0x4005) : ¬a = b := fun e => hb (e ▸ h)
  have hu : s.unlatch a = s := by
    unfold State.unlatch
    rw [if_neg (hne _ (by decide)), if_neg (hne _ (by decide)), if_neg (hne _ (by decide))]
  have hv : s.view a = s.reg a := by
    have hi : isoAbsent a = false := by
      have : ¬(0x400E1000 ≤ a ∧ a < 0x400E4000) := by omega
      simp [isoAbsent, this]
    have hb : (a - regBase) / 0x10000 = 5 := by
      simp only [regBase]
      omega
    unfold State.view
    rw [if_neg (by simp [hi, Option.isNone_eq_false_iff.2 hf]), hb]
    rfl
  unfold State.readWord
  rw [if_neg (by simp only [tileBase]; omega), if_neg (hne _ (by decide)), if_neg (hne _ (by decide)), if_neg (hne _ (by decide)),
    if_neg (hne _ (by decide)), hu, hv, if_neg (by simp only [regBase]; omega)]

theorem State.writeWords_one (s : State) (a : Nat) (w : Word) :
    s.writeWords false a [w] = ((s.writeWord false a w).1, b2n (s.writeWord false a w).2) := by
  simp [State.writeWords, List.zipIdx]

theorem State.writeWord_tile (s : State) (a : Nat) (w : Word) (hr : s.running = true) (h1 : 0x20000000 ≤ a) (h2 : a < 0x20800000) :
    s.writeWord false a w = if s.mode = .service then ({ s with tiles := Mem.write 0 s.tiles a (leBytes 4 w.toNat) }, true)
      else (s.lockedWrite a, false) := by
  refine (if_neg (by simp [hr])).trans ((if_pos ⟨h1, h2⟩).trans ?_)
  simp

theorem wordsOk_one (f : SvcFrame) (h4 : f.addr % 4 = 0) (h1 : f.len = 1) (h : f.addr < 0x50000000) : wordsOk f = true := by
  unfold wordsOk
  rw [h1]
  refine decide_eq_true ⟨h4, by decide, by decide, by omega⟩

/-- A good READ of one word that does not change what it reads. -/
theorem State.svcRead_one (s : State) (f : SvcFrame) (w : Word) (hr : s.sys.phase = .run) (hw : s.sys.wiped = true)
    (hc : crcChecks 1 f = true) (hok : wordsOk f = true) (h1 : f.len = 1)
    (hread : (s.svcOpen 1 f).readWord false f.addr f.flueNs f.rtcUnits = (s.svcOpen 1 f, w)) :
    ∃ t, exec (.read f none) s = .next t ∧ t.svc.status = some 0 ∧ t.svc.miso = svcMiso 1 f (beBytes 4 w.toNat) 0 ∧
      s.SameRegs [0x4017] t ∧ s.SameStores t := by
  obtain ⟨he, hi⟩ := s.svcFrame_still 1 f (fun s => if (none : Option Nat).isSome || !wordsOk f then refuse s .badCmd
    else ((s.readWords false f.addr f.len f.flueNs f.rtcUnits).1, .ok,
      (s.readWords false f.addr f.len f.flueNs f.rtcUnits).2.flatMap (fun w => beBytes 4 w.toNat))) (s.svcPowered_run hr) hw hc .ok (beBytes 4 w.toNat)
    (by
      rw [if_neg (by simp [hok]), h1, State.readWords_one, hread]
      simp)
  exact ⟨_, next_congr he, rfl, rfl, hi⟩

/-- A good WRITE of one word. -/
theorem State.svcWrite_one (s : State) (f : SvcFrame) (w : Word) (hr : s.sys.phase = .run) (hw : s.sys.wiped = true)
    (hc : crcChecks 2 f = true) (hok : wordsOk f = true) (h1 : f.len = 1) (hd : f.data = [w]) (u : State) (took : Bool)
    (hwrite : (s.svcOpen 2 f).writeWord false f.addr w = (u, took)) (hu : u.sys.phase = .run) :
    exec (.write f) s = .next ((u.addF F.SVC_WRITE_WORD_CNT_COUNT (b2n took)).svcAnswer 2 f
      (if s.mode ≠ .service ∧ b2n took < 1 then .locked else .ok) []) := by
  refine next_congr (s.svcFrame_act 2 f _ (s.svcPowered_run hr) hw hc _ _ _ ?_ (hu.trans hr.symm))
  dsimp only
  rw [if_neg (by simp [hok]), h1, hd]
  have hws : (s.svcOpen 2 f).writeWords false f.addr (List.take 1 [w]) = (u, b2n took) :=
    (State.writeWords_one _ _ _).trans (by rw [hwrite])
  rw [hws, s.svcOpen_mode 2 f]
  show (u.when u.running _, _, _) = _
  rw [State.when_true _ _ _ (State.running_of_run hu)]

theorem State.lockedWrite_touches (s : State) (a : Nat) :
    s.Touches (fun b => b ∈ [F.SYS_LOCKED_WR_CNT_COUNT.addr, F.SYS_LOCKED_WR_ADDR_ADDR.addr]) State.behindPort (s.lockedWrite a) := by
  unfold State.lockedWrite
  exact ((State.Touches.refl State.blind_behindPort _ s).incF F.SYS_LOCKED_WR_CNT_COUNT (by decide)).setF F.SYS_LOCKED_WR_ADDR_ADDR _ (by decide)

/-- ASH_READ of bytes below the tail, and while a power-fail window is written. -/
def State.ashReadAct (f : SvcFrame) (s : State) : State × SvcStatus × List Byte :=
  if f.len = 0 ∨ 4096 < f.len ∨ 2 ^ 32 < f.addr + f.len then refuse s .badCmd
  else if s.flag F.ASH_STATUS_PF_ACTIVE then refuse s .busy
  else
    let n := min f.len (s.getF F.ASH_TAIL_ADDR - f.addr)
    (s.incF F.ASH_READ_CNT_COUNT, .ok, s.mramRead f.addr n ++ List.replicate (f.len - n) 0)

theorem State.svcAshRead_eq (s : State) (f : SvcFrame) : s.svcAshRead f = s.svcFrame 3 f (State.ashReadAct f) := rfl

theorem State.ashReadAct_ok (s : State) (f : SvcFrame) (h1 : 1 ≤ f.len) (h2 : f.len ≤ 4096) (ht : f.addr + f.len ≤ s.getF F.ASH_TAIL_ADDR)
    (hpf : s.flag F.ASH_STATUS_PF_ACTIVE = false) :
    s.ashReadAct f = (s.incF F.ASH_READ_CNT_COUNT, .ok, Mem.read 0 s.mram f.addr f.len) := by
  have htl : s.getF F.ASH_TAIL_ADDR < 2 ^ 32 := State.getF_lt s _
  have hn : min f.len (s.getF F.ASH_TAIL_ADDR - f.addr) = f.len := by omega
  unfold State.ashReadAct
  rw [if_neg (by omega), if_neg (by simp [hpf]), hn]
  dsimp only
  rw [Nat.sub_self, List.replicate_zero, List.append_nil]
  rfl

theorem State.ashReadAct_busy (s : State) (f : SvcFrame) (h1 : 1 ≤ f.len) (h2 : f.len ≤ 4096) (ht : f.addr + f.len ≤ s.getF F.ASH_TAIL_ADDR)
    (hpf : s.flag F.ASH_STATUS_PF_ACTIVE = true) : s.ashReadAct f = (s, .busy, []) := by
  have htl : s.getF F.ASH_TAIL_ADDR < 2 ^ 32 := State.getF_lt s _
  unfold State.ashReadAct
  rw [if_neg (by omega), if_pos hpf]
  rfl

theorem State.svcAshRead_ok (s : State) (f : SvcFrame) (hp : s.svcPowered = true) (hw : s.sys.wiped = true) (h1 : 1 ≤ f.len)
    (h2 : f.len ≤ 4096) (ht : f.addr + f.len ≤ s.getF F.ASH_TAIL_ADDR) (hc : crcChecks 3 f = true)
    (hpf : s.flag F.ASH_STATUS_PF_ACTIVE = false) :
    exec (.ashRead f) s = .next (((s.svcOpen 3 f).incF F.ASH_READ_CNT_COUNT).svcAnswer 3 f .ok (Mem.read 0 s.mram f.addr f.len)) := by
  have hin := s.svcOpen_touches 3 f
  have ha := (s.svcOpen 3 f).ashReadAct_ok f h1 h2 (by rwa [hin.getF _ (by decide)]) ((hin.flag _ (by decide)).trans hpf)
  rw [hin.stores.2.1] at ha
  refine next_congr (s.svcAshRead_eq f |>.trans (s.svcFrame_act 3 f _ hp hw hc _ .ok _ ha ?_))
  rw [State.incF_sys]
  exact s.svcOpen_phase 3 f

theorem State.svcAshRead_busy (s : State) (f : SvcFrame) (hp : s.svcPowered = true) (hw : s.sys.wiped = true) (h1 : 1 ≤ f.len)
    (h2 : f.len ≤ 4096) (ht : f.addr + f.len ≤ s.getF F.ASH_TAIL_ADDR) (hc : crcChecks 3 f = true)
    (hpf : s.flag F.ASH_STATUS_PF_ACTIVE = true) :
    exec (.ashRead f) s = .next ((s.svcOpen 3 f).svcAnswer 3 f .busy []) ∧ s.Within [0x4017] ((s.svcOpen 3 f).svcAnswer 3 f .busy []) := by
  have hin := s.svcOpen_touches 3 f
  have ha := (s.svcOpen 3 f).ashReadAct_busy f h1 h2 (by rwa [hin.getF _ (by decide)]) ((hin.flag _ (by decide)).trans hpf)
  obtain ⟨he, hi⟩ := s.svcFrame_still 3 f _ hp hw hc .busy [] ha
  exact ⟨next_congr he, hi⟩

/-- Settles O39, by the answer of a frame whose command touches what it names. -/
theorem serviceAccess : Obligations.ServiceAccess := by
  refine fun s f hw => ⟨fun hr h4 => ⟨fun h1 hlo hhi => ⟨fun hc => ?_, fun w hd hc hm => ?_, fun w hd hc hm => ?_⟩, fun h1 hb hf hc => ?_⟩,
    fun hl1 hl2 htail hc => ⟨fun hr hpf => ?_, fun hr hpf => ?_⟩⟩
  · obtain ⟨t, ht, hst, hmi, hregs, hstore⟩ := s.svcRead_one f (if s.mode = .service then Mem.word 0 s.tiles f.addr else 0) hr hw hc
      (wordsOk_one f h4 h1 (by omega)) h1 ((State.readWord_tile _ _ _ _ hlo hhi).trans (by rw [s.svcOpen_mode 1 f]; rfl))
    exact ⟨t, ht, hst, hregs, hstore, hmi⟩
  · have hwr := (s.svcOpen 2 f).writeWord_tile f.addr w (State.running_of_run ((s.svcOpen_phase 2 f).trans hr)) hlo hhi
    rw [s.svcOpen_mode 2 f, if_pos hm] at hwr
    have he := s.svcWrite_one f w hr hw hc (wordsOk_one f h4 h1 (by omega)) h1 hd _ _ hwr ((s.svcOpen_phase 2 f).trans hr)
    rw [if_neg (fun h => h.1 hm)] at he
    have hin := s.svcOpen_touches 2 f
    generalize hu : ({ s.svcOpen 2 f with tiles := Mem.write 0 (s.svcOpen 2 f).tiles f.addr (leBytes 4 w.toNat) } : State) = u at he
    have htile : u.tiles = Mem.write 0 s.tiles f.addr (leBytes 4 w.toNat) := by
      rw [← hu]
      exact congrArg (Mem.write 0 · f.addr _) hin.stores.1
    have hregs : ∀ a, u.reg a = (s.svcOpen 2 f).reg a := fun a => by rw [← hu]; rfl
    have hans := (u.addF F.SVC_WRITE_WORD_CNT_COUNT 1).svcAnswer_touches 2 f .ok []
    have htl : ((u.addF F.SVC_WRITE_WORD_CNT_COUNT 1).svcAnswer 2 f .ok []).tiles = Mem.write 0 s.tiles f.addr (leBytes 4 w.toNat) :=
      hans.stores.1.trans htile
    refine ⟨_, he, rfl, fun i hi => ?_, fun x hx => ?_, ?_, fun a ha => ?_⟩
    · exact (congrArg (Mem.byte 0 · _) htl).trans (Mem.byte_write_in 0 s.tiles f.addr i _ hi)
    · exact (congrArg (Mem.byte 0 · _) htl).trans (Mem.byte_write_out 0 s.tiles f.addr x _ hx)
    · refine (hans.getF _ (by decide)).trans ((State.getF_addF_same _ _ _ (by decide)).trans ?_)
      rw [State.getF_congr (hregs _), hin.getF _ (by decide)]
      rfl
    · refine ((State.svcAnswer_within _ 2 f .ok [] (State.Within.refl [0x4017] _) (by decide)).1 a ha).trans ?_
      refine (State.reg_setF_other _ F.SVC_WRITE_WORD_CNT_COUNT _ a fun e => ha (by rw [← e]; decide)).trans ?_
      rw [hregs, (s.svcOpen_within 2 f).1 a ha]
  · have hwr := (s.svcOpen 2 f).writeWord_tile f.addr w (State.running_of_run ((s.svcOpen_phase 2 f).trans hr)) hlo hhi
    rw [s.svcOpen_mode 2 f, if_neg hm] at hwr
    have he := s.svcWrite_one f w hr hw hc (wordsOk_one f h4 h1 (by omega)) h1 hd _ _ hwr ((s.svcOpen_phase 2 f).trans hr)
    rw [if_pos ⟨hm, by decide⟩] at he
    have hin := s.svcOpen_touches 2 f
    have hlock := (s.svcOpen 2 f).lockedWrite_touches f.addr
    generalize (s.svcOpen 2 f).lockedWrite f.addr = u at he hlock
    have hans := (u.addF F.SVC_WRITE_WORD_CNT_COUNT (b2n false)).svcAnswer_touches 2 f .locked []
    have hall : s.Within [0x4000, 0x4017] u :=
      ((s.svcOpen_within 2 f).mono (by decide)).trans ((hlock.mono (Q := inBlocks [0x4000, 0x4017]) (by decide)).within)
    have hend := State.svcAnswer_within _ 2 f .locked [] (hall.addF F.SVC_WRITE_WORD_CNT_COUNT (b2n false) (by decide)) (by decide)
    have hlt : s.getF F.SVC_WRITE_WORD_CNT_COUNT < 2 ^ 32 := State.getF_lt s _
    refine ⟨_, he, rfl, hend.2.1, ?_, ?_, hend.1⟩
    · rw [State.svcAnswer_counted _ _ _ _ _ _ (by simp), State.getF_addF_apart _ _ _ _ (by decide) (by decide), hlock.getF _ (by decide),
        hin.getF _ (by decide)]
    · rw [hans.getF _ (by decide), State.getF_addF_same _ _ _ (by decide), hlock.getF _ (by decide), hin.getF _ (by decide)]
      show min (2 ^ 32 - 1) (_ + 0) = _
      omega
  · obtain ⟨t, ht, hst, hmi, hregs, hstore⟩ := s.svcRead_one f (s.reg f.addr) hr hw hc (wordsOk_one f h4 h1 (by omega)) h1
      ((State.readWord_hob _ _ _ _ hb hf).trans (by rw [(s.svcOpen_within 1 f).1 _ (by rw [hb]; decide)]))
    exact ⟨t, ht, hst, hmi, hregs, hstore⟩
  · have hin := s.svcOpen_touches 3 f
    have htl : (s.svcOpen 3 f).getF F.ASH_TAIL_ADDR = s.getF F.ASH_TAIL_ADDR := hin.getF _ (by decide)
    have he := s.svcAshRead_ok f (s.svcPowered_run hr) hw hl1 hl2 htail hc hpf
    have hans := ((s.svcOpen 3 f).incF F.ASH_READ_CNT_COUNT).svcAnswer_touches 3 f .ok (Mem.read 0 s.mram f.addr f.len)
    have hend := State.svcAnswer_within _ 3 f .ok (Mem.read 0 s.mram f.addr f.len) (bs := [0x4012, 0x4017])
      (((s.svcOpen_within 3 f).mono (by decide)).incF F.ASH_READ_CNT_COUNT (by decide)) (by decide)
    refine ⟨_, he, rfl, rfl, ?_, hend⟩
    rw [hans.getF _ (by decide), State.getF_incF_same _ _ (by decide), hin.getF _ (by decide)]
    rfl
  · have hp : s.svcPowered = true := by
      rcases hr with h | h <;> simp [State.svcPowered, h, hpf]
    have hin := s.svcOpen_touches 3 f
    obtain ⟨he, hi⟩ := s.svcAshRead_busy f hp hw hl1 hl2 htail hc hpf
    refine ⟨_, he, rfl, rfl, ?_, hi⟩
    rw [State.svcAnswer_counted _ _ _ _ _ _ (by simp), hin.getF _ (by decide)]

end Sys2Proof.Machine
end

section
/-!
# Non-volatile operations
-/
namespace Sys2Proof.Machine

open Sys2Proof

/-! ### Non-volatile operations -/

/-- A command of the flash or the keys whose header holds starts where the mode is SERVICE and no operation runs. -/
theorem State.nvmGate_open (s : State) (ok : Bool) (go : State → State × SvcStatus × List Byte) (hok : ok = true) (hm : s.mode = .service)
    (hn : s.svc.nvm = none) : s.nvmGate ok go = go s := by
  simp [State.nvmGate, hok, hm, hn]

theorem State.nvmGate_shut (s : State) (ok : Bool) (go : State → State × SvcStatus × List Byte) (hok : ok = true)
    (h : s.mode ≠ .service ∨ s.svc.nvm.isSome = true) : s.nvmGate ok go = (s, if s.mode = .service then .busy else .wrongMode, []) := by
  unfold State.nvmGate
  rw [if_neg (by simp [hok])]
  by_cases hm : s.mode = .service
  · rw [if_neg (fun h => h hm), if_pos (h.resolve_left fun h => h hm), if_pos hm]
    rfl
  · rw [if_pos hm, if_neg hm]
    rfl

theorem State.svcOpen_nvm (s : State) (cmd : Nat) (f : SvcFrame) : (s.svcOpen cmd f).svc.nvm = s.svc.nvm :=
  congrArg (fun x => x.2.1) (s.svcOpen_touches cmd f).same

/-- An operation that starts shows as busy and counts. -/
theorem State.nvmStart_shows (s : State) (op addr : Nat) (data : List Byte) (g : Fld)
    (hg : g ∈ [F.SVC_ERASE_CNT_COUNT, F.SVC_PROGRAM_CNT_COUNT, F.SVC_OTP_CNT_COUNT]) :
    let t := (s.nvmStart op addr data).incF g
    t.svc.nvm = some ⟨op, addr, data⟩ ∧ t.flag F.SVC_NVM_BUSY = true ∧ t.getF g = min (2 ^ 32 - 1) (s.getF g + 1) ∧ s.Within [0x4017] t ∧
      t.sys = s.sys := by
  have hw : s.Within [0x4017] ((s.nvmStart op addr data).incF g) := by
    unfold State.nvmStart
    refine ((((State.Within.hidden (State.Within.refl _ s) ..).setFlag F.SVC_NVM_BUSY _ (by decide)).setF F.SVC_NVM_OP _ (by decide)).setF
      F.SVC_NVM_ADDR _ (by decide)).incF _ ?_
    exact (by decide : ∀ g ∈ [F.SVC_ERASE_CNT_COUNT, F.SVC_PROGRAM_CNT_COUNT, F.SVC_OTP_CNT_COUNT], g.addr / 0x10000 ∈ [0x4017]) g hg
  have hg : g.ok = true ∧ g.addr ≠ 0x40170014 ∧ 2 ^ g.width - 1 = 2 ^ 32 - 1 :=
    (by decide : ∀ g ∈ [F.SVC_ERASE_CNT_COUNT, F.SVC_PROGRAM_CNT_COUNT, F.SVC_OTP_CNT_COUNT],
      g.ok = true ∧ g.addr ≠ 0x40170014 ∧ 2 ^ g.width - 1 = 2 ^ 32 - 1) g hg
  obtain ⟨hok, hne, hwd⟩ := hg
  have hap (h : Fld) (ha : h.addr = 0x40170014) : h.apart g = true := (Fld.apart_iff _ _).2 (.inl fun e => hne (e ▸ ha))
  have hpa (h : Fld) (ha : h.addr = 0x40170014) : g.apart h = true := (Fld.apart_iff _ _).2 (.inl fun e => hne (e ▸ ha))
  refine ⟨rfl, ?_, ?_, hw, rfl⟩
  · rw [State.flag_incF_apart _ _ _ hok (hpa _ rfl), State.nvmStart, State.flag_setF_apart _ _ _ _ (by decide) (by decide),
      State.flag_setF_apart _ _ _ _ (by decide) (by decide), State.flag_setFlag_same _ _ _ (by decide)]
  · rw [State.getF_incF_same _ _ hok, hwd, State.nvmStart, State.getF_setF_apart _ _ _ _ (by decide) (hap _ rfl),
      State.getF_setF_apart _ _ _ _ (by decide) (hap _ rfl), State.getF_setFlag_apart _ _ _ _ (by decide) (hap _ rfl)]
    rfl

/-- A frame that starts an operation. -/
theorem State.svcFrame_start (s : State) (cmd : Nat) (f : SvcFrame) (ok : Bool) (go : State → State × SvcStatus × List Byte) (op addr : Nat)
    (data : List Byte) (g : Fld) (hok : ok = true) (hg : g ∈ [F.SVC_ERASE_CNT_COUNT, F.SVC_PROGRAM_CNT_COUNT, F.SVC_OTP_CNT_COUNT])
    (hgo : go (s.svcOpen cmd f) = (((s.svcOpen cmd f).nvmStart op addr data).incF g, .ok, [])) (hr : s.sys.phase = .run)
    (hw : s.sys.wiped = true) (hc : crcChecks cmd f = true) (hm : s.mode = .service) (hn : s.svc.nvm = none) :
    let t := s.svcFrame cmd f (fun s => s.nvmGate ok go)
    t.svc.nvm = some ⟨op, addr, data⟩ ∧ t.svc.status = some 0 ∧ t.flag F.SVC_NVM_BUSY = true ∧
      t.getF g = min (2 ^ 32 - 1) (s.getF g + 1) ∧ s.SameRegs [0x4017] t ∧ s.SameStores t := by
  have hact := ((s.svcOpen cmd f).nvmGate_open ok go hok ((s.svcOpen_mode cmd f).trans hm) ((s.svcOpen_nvm cmd f).trans hn)).trans hgo
  obtain ⟨h1, h2, h3, h4, h5⟩ := (s.svcOpen cmd f).nvmStart_shows op addr data g hg
  have hphase : (((s.svcOpen cmd f).nvmStart op addr data).incF g).sys.phase = s.sys.phase := by rw [h5, s.svcOpen_phase cmd f]
  have he := s.svcFrame_act cmd f (fun s => s.nvmGate ok go) (s.svcPowered_run hr) hw hc _ .ok [] hact hphase
  generalize ((s.svcOpen cmd f).nvmStart op addr data).incF g = u at *
  have hans := u.svcAnswer_touches cmd f .ok []
  have hin := s.svcOpen_touches cmd f
  have hend := State.svcAnswer_within u cmd f .ok [] ((s.svcOpen_within cmd f).trans h4) (by decide)
  have hgo : g.addr ∉ [0x4017000C, 0x40170010, 0x4017001C, 0x40170040] :=
    (by decide : ∀ g ∈ [F.SVC_ERASE_CNT_COUNT, F.SVC_PROGRAM_CNT_COUNT, F.SVC_OTP_CNT_COUNT],
      g.addr ∉ [0x4017000C, 0x40170010, 0x4017001C, 0x40170040]) g hg
  have hga : ¬(g.addr ∈ SvcStatus.ok.counts ∨ g.addr = 0x4017000C ∨ g.addr = 0x4017001C) := by
    simp only [List.mem_cons, not_or] at hgo
    simp [SvcStatus.counts, hgo]
  intro t
  have ht : t = u.svcAnswer cmd f .ok [] := he
  rw [ht]
  refine ⟨(congrArg (fun x => x.2.1) hans.same).trans h1, rfl, (hans.flag _ (by decide)).trans h2, ?_, hend⟩
  rw [hans.getF g hga, h3, hin.getF g hgo]

/-- A frame that is not to start an operation is answered, and none starts. -/
theorem State.svcFrame_shut (s : State) (cmd : Nat) (f : SvcFrame) (ok : Bool) (go : State → State × SvcStatus × List Byte) (hok : ok = true)
    (h : s.mode ≠ .service ∨ s.svc.nvm.isSome = true) (hr : s.sys.phase = .run) (hw : s.sys.wiped = true) (hc : crcChecks cmd f = true) :
    let t := s.svcFrame cmd f (fun s => s.nvmGate ok go)
    t.svc.nvm = s.svc.nvm ∧ t.svc.status = some (if s.mode = .service then 6 else 4) ∧
      t.svc.miso = svcMiso cmd f [] (if s.mode = .service then 6 else 4) ∧
      t.getF F.SVC_ERASE_CNT_COUNT = s.getF F.SVC_ERASE_CNT_COUNT ∧ t.getF F.SVC_PROGRAM_CNT_COUNT = s.getF F.SVC_PROGRAM_CNT_COUNT ∧
      t.getF F.SVC_OTP_CNT_COUNT = s.getF F.SVC_OTP_CNT_COUNT ∧ s.SameRegs [0x4017] t ∧ s.SameStores t := by
  have hm := s.svcOpen_mode cmd f
  have hn := s.svcOpen_nvm cmd f
  have hact : (s.svcOpen cmd f).nvmGate ok go = (s.svcOpen cmd f, if s.mode = .service then .busy else .wrongMode, []) := by
    rw [State.nvmGate_shut _ ok go hok (by rwa [hm, hn]), hm]
  obtain ⟨he, hi⟩ := s.svcFrame_still cmd f (fun s => s.nvmGate ok go) (s.svcPowered_run hr) hw hc _ [] hact
  have hcode : (if s.mode = .service then SvcStatus.busy else .wrongMode).code = if s.mode = .service then 6 else 4 := by split <;> rfl
  have hin := s.svcOpen_touches cmd f
  have hans := (s.svcOpen cmd f).svcAnswer_touches cmd f (if s.mode = .service then .busy else .wrongMode) []
  intro t
  have ht : t = _ := he
  rw [ht, ← hcode]
  have hcnt (g : Fld) (hg : g ∈ [F.SVC_ERASE_CNT_COUNT, F.SVC_PROGRAM_CNT_COUNT, F.SVC_OTP_CNT_COUNT]) :
      ((s.svcOpen cmd f).svcAnswer cmd f (if s.mode = .service then .busy else .wrongMode) []).getF g = s.getF g := by
    have hgo : g.addr ∉ [0x4017000C, 0x40170010, 0x4017001C, 0x40170040] ∧
        ¬(g.addr ∈ SvcStatus.busy.counts ∨ g.addr = 0x4017000C ∨ g.addr = 0x4017001C) ∧
        ¬(g.addr ∈ SvcStatus.wrongMode.counts ∨ g.addr = 0x4017000C ∨ g.addr = 0x4017001C) :=
      (by decide : ∀ g ∈ [F.SVC_ERASE_CNT_COUNT, F.SVC_PROGRAM_CNT_COUNT, F.SVC_OTP_CNT_COUNT],
        g.addr ∉ [0x4017000C, 0x40170010, 0x4017001C, 0x40170040] ∧
        ¬(g.addr ∈ SvcStatus.busy.counts ∨ g.addr = 0x4017000C ∨ g.addr = 0x4017001C) ∧
        ¬(g.addr ∈ SvcStatus.wrongMode.counts ∨ g.addr = 0x4017000C ∨ g.addr = 0x4017001C)) g hg
    obtain ⟨h1, h2, h3⟩ := hgo
    refine (hans.getF g ?_).trans (hin.getF g h1)
    split
    · exact h2
    · exact h3
  exact ⟨(congrArg (fun x => x.2.1) hans.same).trans hn, rfl, rfl, hcnt _ (by decide), hcnt _ (by decide), hcnt _ (by decide), hi⟩

/-! ### The end of an operation -/

theorem Mem.length_walk (d : Byte) (m : List (Nat × Byte)) (a n : Nat) : (Mem.walk d m a n).length = n := by
  induction n generalizing m a with
  | zero => cases m <;> rfl
  | succ n ih =>
    cases m with
    | nil => simp [Mem.walk, ih]
    | cons c t =>
      simp only [Mem.walk]
      split <;> simp [ih]

theorem Mem.length_read (d : Byte) (m : List (Nat × Byte)) (a n : Nat) : (Mem.read d m a n).length = n := Mem.length_walk ..

/-- A string read from a rising list holds each address's value. -/
theorem Mem.walk_getD (d : Byte) (n : Nat) : ∀ (m : List (Nat × Byte)) (a i : Nat), m.Pairwise (fun c e => c.1 < e.1) →
    (∀ c ∈ m, a ≤ c.1) → i < n → (Mem.walk d m a n).getD i 0 = Store.get m d (a + i) := by
  induction n with
  | zero => exact fun _ _ i _ _ hi => absurd hi (Nat.not_lt_zero i)
  | succ n ih =>
    intro m a i hm ha hi
    cases m with
    | nil =>
      cases i with
      | zero => rfl
      | succ i => exact (ih [] (a + 1) i List.Pairwise.nil (fun c hc => by simp at hc) (by omega))
    | cons c t =>
      obtain ⟨b, v⟩ := c
      obtain ⟨hbt, ht⟩ := List.pairwise_cons.1 hm
      have hab : a ≤ b := ha (b, v) List.mem_cons_self
      simp only [Mem.walk, Store.get]
      by_cases hb : b = a
      · rw [if_pos hb]
        cases i with
        | zero => simp [hb]
        | succ i =>
          rw [if_neg (by omega), List.getD_cons_succ, show a + (i + 1) = a + 1 + i by omega]
          exact ih t (a + 1) i ht (fun c hc => by have := hbt c hc; omega) (by omega)
      · rw [if_neg hb]
        cases i with
        | zero =>
          rw [if_neg (by omega)]
          exact (Store.get_of_not_mem _ _ _ (fun c hc => by have := hbt c hc; omega)).symm
        | succ i =>
          rw [List.getD_cons_succ, show a + (i + 1) = a + 1 + i by omega]
          exact ih ((b, v) :: t) (a + 1) i hm (fun c hc => by
            rcases List.mem_cons.1 hc with rfl | hc
            · show a + 1 ≤ b
              omega
            · have := hbt c hc
              omega) (by omega)

theorem Store.get_dropWhile {α : Type} (m : List (Nat × α)) (d : α) (a b : Nat) (h : a ≤ b) :
    Store.get (m.dropWhile (fun c => decide (c.1 < a))) d b = Store.get m d b := by
  induction m with
  | nil => rfl
  | cons c t ih =>
    by_cases hc : c.1 < a
    · rw [List.dropWhile_cons_of_pos (by simpa using hc), ih]
      exact (if_neg (show ¬c.1 = b by omega)).symm
    · rw [List.dropWhile_cons_of_neg (by simpa using hc)]

theorem Store.le_of_mem_dropWhile {α : Type} (m : List (Nat × α)) (a : Nat) (h : m.Pairwise (fun c e => c.1 < e.1)) :
    ∀ c ∈ m.dropWhile (fun c => decide (c.1 < a)), a ≤ c.1 := by
  induction m with
  | nil => exact fun c hc => absurd hc List.not_mem_nil
  | cons e t ih =>
    obtain ⟨he, ht⟩ := List.pairwise_cons.1 h
    by_cases hlt : e.1 < a
    · rw [List.dropWhile_cons_of_pos (by simpa using hlt)]
      exact ih ht
    · rw [List.dropWhile_cons_of_neg (by simpa using hlt)]
      intro c hc
      rcases List.mem_cons.1 hc with rfl | hc
      · omega
      · have := he c hc
        omega

theorem Mem.read_getD (d : Byte) (m : List (Nat × Byte)) (a n i : Nat) (h : Mem.wf d m = true) (hi : i < n) :
    (Mem.read d m a n).getD i 0 = Mem.byte d m (a + i) := by
  obtain ⟨hs, -⟩ := (Store.wf_iff _ m).1 h
  have hd := hs.sublist (List.dropWhile_sublist (fun c => decide (c.1 < a)))
  exact (Mem.walk_getD d n _ a i hd (Store.le_of_mem_dropWhile m a hs) hi).trans (Store.get_dropWhile m d a (a + i) (by omega))

/-- How an operation ends whose flash or fuses answered. -/
def State.nvmEnded (s : State) (result : Nat) : State :=
  (({ s with svc := { s.svc with nvm := none } } : State).setFlag F.SVC_NVM_BUSY false).setF F.SVC_NVM_RESULT result

theorem State.nvmComplete_eq (s : State) (x : Nvm) (hr : s.sys.phase = .run) (hx : s.svc.nvm = some x) :
    s.nvmComplete true true = (s.nvmEffect x true).1.nvmEnded (if (s.nvmEffect x true).2 then 0 else 1) := by
  unfold State.nvmComplete
  rw [hx]
  refine (if_neg (by simp [State.running_of_run hr])).trans ?_
  rfl

theorem State.nvmEnded_shows (s : State) (result : Nat) (h : result < 16) :
    (s.nvmEnded result).svc.nvm = none ∧ (s.nvmEnded result).flag F.SVC_NVM_BUSY = false ∧ (s.nvmEnded result).getF F.SVC_NVM_RESULT = result ∧
      s.SameRegs [0x4017] (s.nvmEnded result) ∧ (s.nvmEnded result).flash = s.flash ∧ (s.nvmEnded result).otp = s.otp := by
  have hw : s.Within [0x4017] (s.nvmEnded result) :=
    ((State.Within.hidden (State.Within.refl _ s) ..).setFlag F.SVC_NVM_BUSY _ (by decide)).setF F.SVC_NVM_RESULT _ (by decide)
  refine ⟨rfl, ?_, ?_, hw.1, rfl, rfl⟩
  · rw [State.nvmEnded, State.flag_setF_apart _ _ _ _ (by decide) (by decide), State.flag_setFlag_same _ _ _ (by decide)]
  · exact (State.getF_setF_same _ _ _ (by decide)).trans (Nat.mod_eq_of_lt h)

/-- A program clears bits of the flash. -/
def State.programmed (s : State) (x : Nvm) : State :=
  { s with flash := Mem.write 0xFF s.flash x.addr ((Mem.read 0xFF s.flash x.addr x.data.length).zipWith (fun a b => a &&& b) x.data) }

theorem State.length_programmed (s : State) (x : Nvm) :
    ((Mem.read 0xFF s.flash x.addr x.data.length).zipWith (fun a b => a &&& b) x.data).length = x.data.length := by
  rw [List.length_zipWith, Mem.length_read, Nat.min_self]

theorem State.programmed_in (s : State) (x : Nvm) (i : Nat) (h : Mem.wf 0xFF s.flash = true) (hi : i < x.data.length) :
    Mem.byte 0xFF (s.programmed x).flash (x.addr + i) = Mem.byte 0xFF s.flash (x.addr + i) &&& x.data.getD i 0 := by
  have hl := s.length_programmed x
  refine (Mem.byte_write_in 0xFF s.flash x.addr i _ (by rwa [hl])).trans ?_
  rw [← Mem.read_getD 0xFF s.flash x.addr x.data.length i h hi]
  have hr : i < (Mem.read 0xFF s.flash x.addr x.data.length).length := by rwa [Mem.length_read]
  rw [List.getD_eq_getElem _ _ (by rwa [hl]), List.getElem_zipWith, List.getD_eq_getElem _ _ hr, List.getD_eq_getElem _ _ hi]

theorem State.programmed_out (s : State) (x : Nvm) (a : Nat) (h : a < x.addr ∨ x.addr + x.data.length ≤ a) :
    Mem.byte 0xFF (s.programmed x).flash a = Mem.byte 0xFF s.flash a :=
  Mem.byte_write_out 0xFF s.flash x.addr a _ (by rwa [s.length_programmed x])

/-- Settles O41, by the gate of the four commands and by the effect of each operation. -/
theorem nonVolatileMemory : Obligations.NonVolatileMemory := by
  refine ⟨fun s f hr hw => ⟨fun hm hn => ⟨fun hc hlen hal hlt => ?_, fun hc h1 h64 hlt hpage => ?_, fun hc h1 h256 hlt => ?_, fun hc h8 h4 hkey => ?_⟩,
    fun cmd c answers hshut hc hcmd => ?_⟩, fun s x hr hx hok => ⟨fun hop => ?_, fun hop => ?_, fun hop => ?_⟩⟩
  · obtain ⟨h1, h2, h3, h4, h5⟩ := s.svcFrame_start 6 f _ (fun s => ((s.nvmStart 1 f.addr []).incF F.SVC_ERASE_CNT_COUNT, .ok, [])) 1 f.addr []
      F.SVC_ERASE_CNT_COUNT (decide_eq_true (⟨hlen, hal, hlt⟩ : f.len = 0 ∧ f.addr % 0x10000 = 0 ∧ f.addr < 0x400000)) (by simp) rfl hr hw hc hm hn
    exact ⟨s.svcErase f, rfl, h1, h2, h3, h4, h5⟩
  · obtain ⟨h1', h2, h3, h4, h5⟩ := s.svcFrame_start 7 f _ (fun s =>
        ((s.nvmStart 2 f.addr (wireBytes (f.data.take f.len))).incF F.SVC_PROGRAM_CNT_COUNT, .ok, [])) 2 f.addr (wireBytes (f.data.take f.len))
      F.SVC_PROGRAM_CNT_COUNT (decide_eq_true (⟨h1, h64, hlt, hpage⟩ : 1 ≤ f.len ∧ f.len ≤ 64 ∧ f.addr + 4 * f.len ≤ 0x400000 ∧
        f.addr / 256 = (f.addr + 4 * f.len - 1) / 256)) (by simp) rfl hr hw hc hm hn
    exact ⟨s.svcProgram f, rfl, h1', h2, h4, h5⟩
  · obtain ⟨he, hi⟩ := s.svcFrame_still 8 f (fun s => s.nvmGate (decide (1 ≤ f.len ∧ f.len ≤ 256 ∧ f.addr + 4 * f.len ≤ 0x400000)) (fun s =>
        if true then (s, .ok, Mem.read 0xFF s.flash f.addr (4 * f.len))
        else ({ s with free := s.free + f.len }, .ok, wireBytes ((List.range f.len).map (fun k => Config.freeWord (s.free + k))))))
      (s.svcPowered_run hr) hw hc .ok (Mem.read 0xFF (s.svcOpen 8 f).flash f.addr (4 * f.len))
      (State.nvmGate_open _ _ _ (decide_eq_true ⟨h1, h256, hlt⟩) ((s.svcOpen_mode 8 f).trans hm) ((s.svcOpen_nvm 8 f).trans hn))
    refine ⟨_, next_congr he, rfl, ?_, ?_, hi⟩
    · rw [← (s.svcOpen_touches 8 f).stores.2.2.1]
      rfl
    · exact (congrArg (fun x => x.2.1) ((s.svcOpen 8 f).svcAnswer_touches 8 f .ok (Mem.read 0xFF (s.svcOpen 8 f).flash f.addr (4 * f.len))).same).trans ((s.svcOpen_nvm 8 f).trans hn)
  · obtain ⟨h1, h2, h3, h4', h5⟩ := s.svcFrame_start 9 f _ (fun s => if (s.otp.keys.getD f.addr none).isSome then refuse s .refused
        else ((s.nvmStart 3 f.addr (wireBytes (f.data.take 8))).incF F.SVC_OTP_CNT_COUNT, .ok, [])) 3 f.addr (wireBytes (f.data.take 8))
      F.SVC_OTP_CNT_COUNT (decide_eq_true (⟨h8, h4⟩ : f.len = 8 ∧ f.addr < 4)) (by simp)
      (if_neg (by rw [(s.svcOpen_touches 9 f).stores.2.2.2, hkey]; decide)) hr hw hc hm hn
    exact ⟨s.svcKey f, rfl, h1, h2, h4', h5⟩
  · rcases hcmd with ⟨rfl, rfl, h1, h2, h3⟩ | ⟨rfl, rfl, h1, h2, h3, h4⟩ | ⟨rfl, rfl, h1, h2, h3⟩ | ⟨rfl, rfl, h1, h2⟩
    · exact ⟨s.svcErase f, rfl, s.svcFrame_shut 6 f _ _ (decide_eq_true (⟨h1, h2, h3⟩ : f.len = 0 ∧ f.addr % 0x10000 = 0 ∧ f.addr < 0x400000))
        hshut hr hw hc⟩
    · exact ⟨s.svcProgram f, rfl, s.svcFrame_shut 7 f _ _ (decide_eq_true (⟨h1, h2, h3, h4⟩ : 1 ≤ f.len ∧ f.len ≤ 64 ∧
        f.addr + 4 * f.len ≤ 0x400000 ∧ f.addr / 256 = (f.addr + 4 * f.len - 1) / 256)) hshut hr hw hc⟩
    · exact ⟨s.svcFlashRead f answers, rfl, s.svcFrame_shut 8 f _ _
        (decide_eq_true (⟨h1, h2, h3⟩ : 1 ≤ f.len ∧ f.len ≤ 256 ∧ f.addr + 4 * f.len ≤ 0x400000)) hshut hr hw hc⟩
    · exact ⟨s.svcKey f, rfl, s.svcFrame_shut 9 f _ _ (decide_eq_true (⟨h1, h2⟩ : f.len = 8 ∧ f.addr < 4)) hshut hr hw hc⟩
  · have hf : s.nvmEffect x true = ({ s with flash := Mem.write 0xFF s.flash x.addr (List.replicate 0x10000 0xFF) }, true) := by
      unfold State.nvmEffect
      rw [hop]
      rfl
    have he := s.nvmComplete_eq x hr hx
    rw [hf] at he
    obtain ⟨h1, h2, h3, h4, h5, h6⟩ :=
      State.nvmEnded_shows { s with flash := Mem.write 0xFF s.flash x.addr (List.replicate 0x10000 0xFF) } 0 (by decide)
    refine ⟨_, next_congr he, h1, h2, h3, fun a hlo hhi => ?_, fun a ha => ?_, h6, h4⟩
    · obtain ⟨i, rfl⟩ := Nat.exists_eq_add_of_le hlo
      have hi : i < (List.replicate 0x10000 (0xFF : Byte)).length := by
        rw [List.length_replicate]
        omega
      refine (congrArg (Mem.byte 0xFF · _) h5).trans ((Mem.byte_write_in 0xFF s.flash x.addr i _ hi).trans ?_)
      exact List.getD_replicate _ (by rwa [List.length_replicate] at hi)
    · refine (congrArg (Mem.byte 0xFF · _) h5).trans (Mem.byte_write_out 0xFF s.flash x.addr a _ ?_)
      rwa [List.length_replicate]
  · have hf : ∃ b, s.nvmEffect x true = (s.programmed x, b) := by
      unfold State.nvmEffect
      rw [hop]
      exact ⟨_, rfl⟩
    obtain ⟨b, hf⟩ := hf
    have he := s.nvmComplete_eq x hr hx
    rw [hf] at he
    obtain ⟨h1, -, -, h4, h5, h6⟩ := State.nvmEnded_shows (s.programmed x) (if b then 0 else 1) (by cases b <;> decide)
    refine ⟨_, next_congr he, h1, fun i hi => ?_, fun a ha => ?_, h6, h4⟩
    · exact (congrArg (Mem.byte 0xFF · _) h5).trans (s.programmed_in x i hok.2.2.2 hi)
    · exact (congrArg (Mem.byte 0xFF · _) h5).trans (s.programmed_out x a ha)
  · have hf : s.nvmEffect x true = ({ s with otp := { s.otp with keys := s.otp.keys.set x.addr (some (ofBe x.data)) } }, true) := by
      unfold State.nvmEffect
      rw [hop]
      rfl
    have he := s.nvmComplete_eq x hr hx
    rw [hf] at he
    obtain ⟨h1, -, h3, h4, h5, h6⟩ :=
      State.nvmEnded_shows { s with otp := { s.otp with keys := s.otp.keys.set x.addr (some (ofBe x.data)) } } 0 (by decide)
    exact ⟨_, next_congr he, h1, h5, h6, h3, h4⟩

end Sys2Proof.Machine
end

section
/-!
# Keyed commands on the OTP
-/
namespace Sys2Proof.Machine

open Sys2Proof

/-! ### The keyed commands on the OTP -/

theorem State.inService_locked (s : State) (a : Nat) (f : State → State) (hr : s.sys.phase = .run) (hm : s.mode ≠ .service) :
    s.inService a f = s.lockedWrite a := by
  unfold State.inService
  rw [if_neg (by simp [State.running_of_run hr]), if_neg hm]

theorem State.floorRaise_key (s : State) (hl : s.otp.lifecycle = 2) (hv : s.flag F.SYS_STATUS_IMG_VALID = true) (hf : s.otp.floors.length < 64) :
    s.floorRaise 0x5F1E = { s with otp := { s.otp with
      floors := s.otp.floors ++ [s.getF (F.IMG_VERSION_VERSION (s.getF F.IMG_STATUS_SLOT))] } } :=
  if_pos ⟨rfl, hl, hv, hf⟩

theorem State.keyRevoke_key (s : State) (mask k : Nat) (hmask : mask < 16) (hl : s.otp.lifecycle = 1 ∨ s.otp.lifecycle = 2)
    (hu : s.flag F.SYS_STATUS_IMG_VALID = false ∨ bit mask (s.getF F.IMG_KEY_STATE_IN_USE) = false) (hk : k < 4)
    (hp : (s.otp.keys.getD k none).isSome = true) (hb : bit (s.otp.revoked ||| mask) k = false) :
    s.keyRevoke 0x4B52 mask = { s with otp := { s.otp with revoked := s.otp.revoked ||| mask } } := by
  unfold State.keyRevoke
  rw [Nat.mod_eq_of_lt hmask]
  refine if_pos ⟨rfl, hl, ?_, List.any_eq_true.2 ⟨k, List.mem_range.2 hk, by rw [hp, hb]; rfl⟩⟩
  rcases hu with h | h <;> simp [h]

theorem State.ashRequest_queue (s : State) (type flags : Nat) (body : List Byte) :
    ∃ r, (s.ashRequest type flags body).ash.queue = s.ash.queue ++ [r] ∧ r.type = type := ⟨_, rfl, rfl⟩

/-- A life-cycle change allowed asks for its LIFECYCLE record. -/
theorem State.lifecycleReq_edge (s : State) (target : Nat) (he : s.lifecycleEdge target = true) (hn : s.ash.lcTarget = none) :
    ∃ r, (s.lifecycleReq 0x1C5E target).ash.lcTarget = some target ∧ (s.lifecycleReq 0x1C5E target).ash.queue = s.ash.queue ++ [r] ∧
      r.type = 3 ∧ (s.lifecycleReq 0x1C5E target).otp = s.otp ∧ (s.lifecycleReq 0x1C5E target).regs = s.regs := by
  unfold State.lifecycleReq
  rw [if_neg (fun h => h rfl), if_neg (by simp [he]), if_neg (by simp [hn])]
  exact ⟨_, rfl, rfl, rfl, rfl, rfl⟩

/-- The repairs that a burn adds, before it is recorded. -/
def State.burned (s : State) : State :=
  { s with otp := { s.otp with repairs := s.otp.repairs ++
      (s.dueSights.take (64 - s.otp.repairs.length)).map (fun w => 2 ^ 31 + keyOf w) } }

theorem State.fuseCmd_key (s : State) : ∃ full body,
    s.fuseCmd 0x3B6D = (s.burned.when full (fun s => (s.setFlag F.BST_FUSE_STAT_REPAIR_FULL true).event Ev.bst 4)).ashRequest 7 0 body :=
  ⟨_, _, if_neg fun h => h rfl⟩

theorem State.burned_full (s : State) (full : Bool) :
    let t := s.burned.when full (fun s => (s.setFlag F.BST_FUSE_STAT_REPAIR_FULL true).event Ev.bst 4)
    t.otp = s.burned.otp ∧ t.ash = s.ash ∧ s.burned.SameRegs [0x4015] t ∧ t.mram = s.mram := by
  have hw : s.burned.Within [0x4015] (s.burned.when full (fun s => (s.setFlag F.BST_FUSE_STAT_REPAIR_FULL true).event Ev.bst 4)) :=
    (State.Within.refl _ _).when _ _ fun u hu => (hu.setFlag _ _ (by decide)).event _ _ (by decide)
  refine ⟨hw.2.2.2.2, ?_, hw.1, hw.2.2.1⟩
  cases full
  · rfl
  · rw [State.when_true _ _ _ rfl, State.event_ash]
    rfl

theorem State.resetWith_lifecycle (s : State) (c : Cause) : (s.resetWith c).otp.lifecycle = s.otp.lifecycle := by
  have hn : s.nvmTorn.otp.lifecycle = s.otp.lifecycle := by
    unfold State.nvmTorn
    split
    · split
      · rfl
      · split <;> rfl
    · rfl
  rw [State.resetWith_eq, State.ashRequest_otp, State.setF_otp, State.setF_otp]
  exact hn

/-- Settles O35, command by command: each acts in SERVICE and is refused as a locked write elsewhere. -/
theorem otpCommands : Obligations.OtpCommands := by
  refine fun s hr => ⟨fun hm => ⟨fun hl hv hf => ?_, fun mask k hmask hl hu hk hp hb => ?_, fun target he hn => ?_, fun target he => ?_, ?_⟩,
    fun hm key mask target => ?_, fun target ht hd => ?_⟩
  · exact next_congr ((s.inService_service _ _ hr hm).trans (s.floorRaise_key hl hv hf))
  · exact next_congr ((s.inService_service _ _ hr hm).trans (s.keyRevoke_key mask k hmask hl hu hk hp hb))
  · obtain ⟨r, h⟩ := s.lifecycleReq_edge target he hn
    exact ⟨_, r, next_congr (s.inService_service _ _ hr hm), h⟩
  · refine ⟨_, next_congr ((s.inService_service _ _ hr hm).trans ((if_neg fun h => h rfl).trans (if_pos (by simp [he])))), ?_, rfl, ?_⟩
    · exact State.flag_setFlag_same _ _ _ (by decide)
    · exact (State.Within.refl _ s).setFlag _ _ (by decide)
  · obtain ⟨full, body, hf⟩ := s.fuseCmd_key
    obtain ⟨h1, h2, h3, h4⟩ := s.burned_full full
    obtain ⟨r, hq, ht⟩ := State.ashRequest_queue
      (s.burned.when full (fun s => (s.setFlag F.BST_FUSE_STAT_REPAIR_FULL true).event Ev.bst 4)) 7 0 body
    exact ⟨_, r, next_congr ((s.inService_service _ _ hr hm).trans hf), congrArg Otp.repairs h1, hq.trans (by rw [h2]), ht, h3, h4⟩
  · exact ⟨next_congr (s.inService_locked _ _ hr hm), next_congr (s.inService_locked _ _ hr hm), next_congr (s.inService_locked _ _ hr hm),
      next_congr (s.inService_locked _ _ hr hm)⟩
  · have he : s.lifecycleFuse = ({ s with otp := { s.otp with lifecycle := target } } : State).resetWith .lifecycle := by
      unfold State.lifecycleFuse
      rw [ht]
      exact (if_pos ⟨State.running_of_run hr, hd⟩).trans (State.doReset_powered _ _ (.inl hr))
    exact ⟨_, next_congr he, State.resetWith_lifecycle _ _, State.resetWith_phase _ _, State.resetWith_cause _ _⟩

end Sys2Proof.Machine
end

section
/-!
# CAN reception
-/
namespace Sys2Proof.Machine

open Sys2Proof

/-! ### The CAN controllers -/

/-- A register of controller `n`. -/
def canReg (n o : Nat) : Nat := 0x400E0000 + o + 0x1000 * n

theorem canReg_block (n o : Nat) (hn : n < 4) (ho : o < 0x1000) : canReg n o / 0x10000 = 0x400E := by
  unfold canReg
  omega

theorem canReg_inj (n o p : Nat) (h : o ≠ p) : canReg n o ≠ canReg n p := by
  unfold canReg
  omega

/-- The registers of controller `n` at offsets of which `P` holds. -/
def canRegs (n : Nat) (P : Nat → Prop) (a : Nat) : Prop := ∃ o, P o ∧ o < 0x1000 ∧ a = canReg n o

theorem canRegs_block {n : Nat} {P : Nat → Prop} (hn : n < 4) : ∀ a, canRegs n P a → inBlocks [0x400E] a := by
  rintro a ⟨o, -, ho, rfl⟩
  exact List.mem_singleton.2 (canReg_block n o hn ho)

theorem not_canRegs {n o : Nat} {P : Nat → Prop} (h : ¬P o) : ¬canRegs n P (canReg n o) := by
  rintro ⟨p, hp, -, he⟩
  have : o = p := by
    unfold canReg at he
    omega
  exact h (this ▸ hp)

/-- Fields of two registers of a controller. -/
theorem canApart {f g : Fld} {n o p : Nat} (hf : f.addr = canReg n o) (hg : g.addr = canReg n p) (h : o ≠ p) : f.apart g = true :=
  (Fld.apart_iff _ _).2 (.inl (by rw [hf, hg]; exact canReg_inj n o p h))

/-- The address of a count of a controller. -/
theorem canCnt (n k : Nat) : (F.CAN_CNT_COUNT_H n k).addr = canReg n (0x40 + 4 * k) := by
  simp only [F.CAN_CNT_COUNT_H, canReg]
  omega

/-- The address of a transmit buffer. -/
theorem canTxBuf (n b : Nat) : (F.CAN_TXBUF_STATE n b).addr = canReg n (0x34 + 4 * b) := by
  simp only [F.CAN_TXBUF_STATE, canReg]
  omega

/-- A register of controller `n` by its offset. -/
theorem canAt {f : Fld} {n o : Nat} (hn : n < 4) (hf : f.addr = canReg n o) (ho : o < 0x1000) : f.addr / 0x10000 ∈ [0x400E] := by
  rw [hf, canReg_block n o hn ho]
  exact List.mem_singleton.2 rfl

theorem canAtEq {f : Fld} {n o : Nat} (hn : n < 4) (hf : f.addr = canReg n o) (ho : o < 0x1000) : f.addr / 0x10000 = 0x400E :=
  List.mem_singleton.1 (canAt hn hf ho)

theorem canNe {f g : Fld} {n o p : Nat} (hf : f.addr = canReg n o) (hg : g.addr = canReg n p) (h : o ≠ p) : f.addr ≠ g.addr := by
  rw [hf, hg]
  exact canReg_inj n o p h

theorem canOther {g : Fld} {n o : Nat} {P : Nat → Prop} (hg : g.addr = canReg n o) (h : ¬P o) : ¬canRegs n P g.addr := by
  rw [hg]
  exact not_canRegs h

/-- What the controllers go by besides registers. -/
def State.busView (s : State) : Sys × List Can := (s.sys, s.cans)

theorem State.blind_busView : State.Blind State.busView := by
  rintro bs s _ ⟨-, r, f, j, g, m, rfl⟩
  rfl

theorem State.blind_sys : State.Blind State.sys := by
  rintro bs s _ ⟨-, r, f, j, g, m, rfl⟩
  rfl

theorem State.blind_cans : State.Blind State.cans := by
  rintro bs s _ ⟨-, r, f, j, g, m, rfl⟩
  rfl

/-- A register of controller `n` among those named by offset. -/
theorem canRegs_mem (n o : Nat) (os : List Nat) (h : o ∈ os) (ho : o < 0x1000) : canRegs n (· ∈ os) (canReg n o) := ⟨o, h, ho, rfl⟩

theorem State.can_of_cans {s t : State} (h : t.cans = s.cans) (n : Nat) : t.can n = s.can n := by
  unfold State.can
  rw [h]

theorem State.can_set {s t : State} {n : Nat} {c : Can} (h : t.cans = s.cans.set n c) (hn : n < s.cans.length) : t.can n = c := by
  unfold State.can
  rw [h, List.getD_eq_getElem _ _ (by simpa using hn), List.getElem_set_self]

/-! ### The error counts -/

section
variable (s : State) (n tec rec' : Nat)

theorem State.canErr_cans : (s.canErr n tec rec').cans = s.cans.set n { s.can n with tec := tec, rec' := rec' } := by
  unfold State.canErr
  dsimp only
  split
  · rfl
  · split
    · rw [State.when_cans, State.event_cans, ite_self]
      rfl
    · rfl

theorem State.canErr_touches : s.Touches (canRegs n (· ∈ [0x10, 0x14, 0x1C])) State.sys (s.canErr n tec rec') := by
  have h (o : Nat) (ho : o ∈ [0x10, 0x14, 0x1C]) : canRegs n (· ∈ [0x10, 0x14, 0x1C]) (canReg n o) :=
    canRegs_mem n o _ ho (by simp at ho; omega)
  have h1 := (((State.Touches.refl State.blind_sys (canRegs n (· ∈ [0x10, 0x14, 0x1C])) s).hidden
    (t := s.setCan n { s.can n with tec := tec, rec' := rec' }) ((State.Within.refl [] s).hidden ..) rfl).setF (F.CAN_ERR_TEC n) (min 255 tec)
      (h 0x1C (by decide))).setF (F.CAN_ERR_REC n) (min 255 rec') (h 0x1C (by decide))
  unfold State.canErr
  dsimp only
  split
  · exact h1
  · split
    · exact (h1.setF (F.CAN_STATUS_STATE n) _ (h 0x10 (by decide))).when _ _ fun u hu => hu.event (Ev.can n) 6 (h 0x14 (by decide))
    · exact h1.setF (F.CAN_STATUS_STATE n) _ (h 0x10 (by decide))

/-- Fields of other registers and of other bits stay. -/
theorem State.getF_canErr (g : Fld) (h1 : (F.CAN_STATUS_STATE n).apart g = true) (h2 : (F.CAN_ERR_TEC n).apart g = true)
    (h3 : (F.CAN_ERR_REC n).apart g = true) (h4 : (Ev.can n).ev.addr ≠ g.addr) : (s.canErr n tec rec').getF g = s.getF g := by
  have h0 : (((s.setCan n { s.can n with tec := tec, rec' := rec' }).setF (F.CAN_ERR_TEC n) (min 255 tec)).setF (F.CAN_ERR_REC n)
      (min 255 rec')).getF g = s.getF g := by
    rw [State.getF_setF_apart _ _ _ _ rfl h3, State.getF_setF_apart _ _ _ _ rfl h2]
    rfl
  unfold State.canErr
  dsimp only
  split
  · exact h0
  · split
    · rw [State.getF_when _ _ _ _ (State.getF_event_other _ _ _ _ h4), State.getF_setF_apart _ _ _ _ rfl h1]
      exact h0
    · rw [State.getF_setF_apart _ _ _ _ rfl h1]
      exact h0

theorem State.getF_canErr_counts : (s.canErr n tec rec').getF (F.CAN_ERR_TEC n) = min 255 tec ∧
    (s.canErr n tec rec').getF (F.CAN_ERR_REC n) = min 255 rec' := by
  have hne (g : Fld) (hg : g.addr = canReg n 0x1C) : (F.CAN_STATUS_STATE n).apart g = true :=
    (Fld.apart_iff _ _).2 (.inl (by rw [hg]; exact canReg_inj n 0x10 0x1C (by decide)))
  have hev (g : Fld) (hg : g.addr = canReg n 0x1C) : (Ev.can n).ev.addr ≠ g.addr := by
    rw [hg]
    exact canReg_inj n 0x14 0x1C (by decide)
  have h0 (g : Fld) (hg : g.addr = canReg n 0x1C) : (s.canErr n tec rec').getF g =
      (((s.setCan n { s.can n with tec := tec, rec' := rec' }).setF (F.CAN_ERR_TEC n) (min 255 tec)).setF (F.CAN_ERR_REC n)
        (min 255 rec')).getF g := by
    unfold State.canErr
    dsimp only
    split
    · rfl
    · split
      · rw [State.getF_when _ _ _ _ (State.getF_event_other _ _ _ _ (hev g hg)), State.getF_setF_apart _ _ _ _ rfl (hne g hg)]
      · rw [State.getF_setF_apart _ _ _ _ rfl (hne g hg)]
  constructor
  · rw [h0 _ rfl, State.getF_setF_apart _ _ _ _ rfl (by simp [Fld.apart_iff, F.CAN_ERR_REC, F.CAN_ERR_TEC]), State.getF_setF_same _ _ _ rfl]
    exact Nat.mod_eq_of_lt (by simp only [Fld.width, F.CAN_ERR_TEC]; omega)
  · rw [h0 _ rfl, State.getF_setF_same _ _ _ rfl]
    exact Nat.mod_eq_of_lt (by simp only [Fld.width, F.CAN_ERR_REC]; omega)

end

/-! ### Reception -/

theorem State.spMessage_bus (s : State) (c : Nat) (alt : Bool) (b : List Byte) : s.Touches (inBlocks []) State.busView (s.spMessage c alt b) := by
  unfold State.spMessage
  dsimp only
  split
  · exact .refl State.blind_busView _ s
  · exact (State.Touches.refl State.blind_busView _ s).hidden ((State.Within.refl _ s).hidden ..) rfl

theorem State.spCan_touches (s : State) (n : Nat) (f : CanMsg) : s.Touches (inBlocks []) State.busView (s.spCan n f) :=
  (State.Touches.refl State.blind_busView _ s).each _ _ fun u _ _ hu => hu.trans (State.spMessage_bus u _ _ _)

theorem State.canRuns_iff (s : State) (n : Nat) (hr : s.sys.phase = .run) (hn : n < 4) (ha : s.flag (F.CAN_STATUS_ACTIVE n) = true)
    (hs : s.getF (F.CAN_STATUS_STATE n) ≠ 2) : s.canRuns n = true := by
  simp [State.canRuns, State.running_of_run hr, hn, ha, hs]

/-- The filters do not see the controller's status. -/
theorem State.canFilter_congr {s t : State} (n : Nat) (f : CanMsg) (h : ∀ o, 0x50 ≤ o → t.reg (canReg n o) = s.reg (canReg n o)) :
    t.canFilter n f = s.canFilter n f := by
  have hf (g : Fld) (o : Nat) (ho : 0x50 ≤ o) (hg : g.addr = canReg n o) : t.getF g = s.getF g := State.getF_congr (by rw [hg]; exact h o ho)
  have hcond (i : Nat) : t.getF (F.CAN_FILT_MASK_SEL n i) = s.getF (F.CAN_FILT_MASK_SEL n i) :=
    hf _ (0x80 + 4 * i) (by omega) (by simp only [F.CAN_FILT_MASK_SEL, canReg]; omega)
  unfold State.canFilter
  refine congrArg (fun p => (List.range 32).find? p) (funext fun i => ?_)
  have h1 : t.flag (F.CAN_FILT_EN n i) = s.flag (F.CAN_FILT_EN n i) :=
    State.flag_congr (hf _ (0x80 + 4 * i) (by omega) (by simp only [F.CAN_FILT_EN, canReg]; omega))
  have h2 : t.getF (F.CAN_FILT_ID n i) = s.getF (F.CAN_FILT_ID n i) :=
    hf _ (0x80 + 4 * i) (by omega) (by simp only [F.CAN_FILT_ID, canReg]; omega)
  have h3 (m : Nat) : t.flag (F.CAN_MASK_IDE n m) = s.flag (F.CAN_MASK_IDE n m) :=
    State.flag_congr (hf _ (0x50 + 4 * m) (by omega) (by simp only [F.CAN_MASK_IDE, canReg]; omega))
  have h4 (m : Nat) : t.getF (F.CAN_MASK_MASK n m) = s.getF (F.CAN_MASK_MASK n m) :=
    hf _ (0x50 + 4 * m) (by omega) (by simp only [F.CAN_MASK_MASK, canReg]; omega)
  simp only [hcond, h1, h2, h3, h4]

/-- A controller that hears a frame is in step with its bus. -/
def State.canHears (s : State) (n : Nat) : State := s.setFlag (F.CAN_STATUS_SYNCED n) true

/-- A good frame heard, before its filter. -/
def State.canHeard (s : State) (n : Nat) : State :=
  (((s.canHears n).recGood n).2.incF (F.CAN_CNT_COUNT_L n 0)).canErr n (s.can n).tec ((s.canHears n).recGood n).1

theorem State.canReceive_good (s : State) (n : Nat) (f : CanMsg) (t : Nat) (h : s.canRuns n = true) :
    s.canReceive n f t none = match s.canFilter n f with
      | none => (s.canHeard n).incF (F.CAN_CNT_COUNT_L n 2)
      | some i =>
        let s2 := (s.canHeard n).spCan n f
        let q := (s2.can n).fifo
        if 64 ≤ q.length then (s2.incF (F.CAN_CNT_COUNT_H n 2)).event (Ev.can n) 5
        else
          ((s2.setCan n { s2.can n with fifo := q ++ [(f, t / 1000, i)] }).setF (F.CAN_RXF_STAT_DEPTH n) (q.length + 1)).peakF
            (F.CAN_RXF_STAT_PEAK n) (q.length + 1) := by
  have hf : (s.canHears n).canFilter n f = s.canFilter n f :=
    State.canFilter_congr n f fun o ho => State.reg_setF_other _ _ _ _ (canReg_inj n 0x10 o (by omega))
  unfold State.canReceive
  refine (if_neg (by simp [h])).trans ?_
  show (match (s.canHears n).canFilter n f with | none => _ | some i => _) = _
  rw [hf]
  rfl

theorem State.recGood_keeps (s : State) (n : Nat) : ∃ k, (s.recGood n).2 = { s with free := k } := by
  unfold State.recGood
  dsimp only
  split
  · exact ⟨s.free, rfl⟩
  · exact ⟨_, rfl⟩

theorem State.canHeard_touches (s : State) (n : Nat) :
    s.Touches (canRegs n (· ∈ [0x10, 0x14, 0x1C, 0x40])) State.sys (s.canHeard n) := by
  obtain ⟨k, hk⟩ := (s.canHears n).recGood_keeps n
  have h1 : s.Touches (canRegs n (· ∈ [0x10, 0x14, 0x1C, 0x40])) State.sys (s.canHears n) :=
    (State.Touches.refl State.blind_sys _ s).setFlag (F.CAN_STATUS_SYNCED n) _ (canRegs_mem n 0x10 _ (by decide) (by decide))
  have h2 : s.Touches (canRegs n (· ∈ [0x10, 0x14, 0x1C, 0x40])) State.sys ((s.canHears n).recGood n).2 := by
    rw [hk]
    exact h1.hidden ((State.Within.refl [] _).hidden ..) rfl
  unfold State.canHeard
  refine (h2.incF (F.CAN_CNT_COUNT_L n 0) (canRegs_mem n 0x40 _ (by decide) (by decide))).trans ((State.canErr_touches _ n _ _).mono ?_)
  rintro a ⟨o, ho, hlt, rfl⟩
  simp only [List.mem_cons, List.not_mem_nil, or_false] at ho
  rcases ho with rfl | rfl | rfl <;> exact canRegs_mem n _ _ (by decide) (by decide)

theorem State.canHeard_can (s : State) (n : Nat) : ∃ r,
    (s.canHeard n).cans = s.cans.set n { s.can n with rec' := r } := by
  obtain ⟨k, hk⟩ := (s.canHears n).recGood_keeps n
  refine ⟨((s.canHears n).recGood n).1, ?_⟩
  unfold State.canHeard
  rw [State.canErr_cans, hk]
  rfl

theorem State.canHeard_count (s : State) (n : Nat) :
    (s.canHeard n).getF (F.CAN_CNT_COUNT_L n 0) = min 65535 (s.getF (F.CAN_CNT_COUNT_L n 0) + 1) := by
  obtain ⟨k, hk⟩ := (s.canHears n).recGood_keeps n
  unfold State.canHeard
  rw [(State.canErr_touches _ n _ _).getF (F.CAN_CNT_COUNT_L n 0) (not_canRegs (o := 0x40) (by decide)), State.getF_incF_same _ _ rfl, hk]
  exact congrArg (fun x => min 65535 (x + 1)) (State.getF_setFlag_apart s (F.CAN_STATUS_SYNCED n) _ _ rfl
    (canApart (o := 0x10) (p := 0x40) rfl rfl (by decide)))

/-- A frame heard keeps what reception already holds. -/
theorem State.canHeard_fifo (s : State) (n : Nat) (hn : n < s.cans.length) : ((s.canHeard n).can n).fifo = (s.can n).fifo := by
  obtain ⟨r, hr⟩ := s.canHeard_can n
  rw [State.can_set hr hn]

theorem State.canHeard_length (s : State) (n : Nat) : (s.canHeard n).cans.length = s.cans.length := by
  obtain ⟨r, hr⟩ := s.canHeard_can n
  rw [hr, List.length_set]

/-- A frame ends in an error of another node. -/
theorem State.canReceive_bad (s : State) (n : Nat) (f : CanMsg) (t e : Nat) (heavy : Bool) (h : s.canRuns n = true) :
    s.canReceive n f t (some (e, heavy)) = ((((s.canHears n).setF (F.CAN_ERR_LEC n) (e % 7)).incF (F.CAN_CNT_COUNT_H n 3)).event
      (Ev.can n) 1).canErr n (s.can n).tec ((s.can n).rec' + if heavy = true then 8 else 1) :=
  if_neg (by simp [h])

theorem State.canReception_frame (s : State) (n : Nat) (f : CanMsg) (t : Nat) (h : s.canRuns n = true) (hl : s.cans.length = 4) (hn : n < 4) :
    (∀ i, s.canFilter n f = some i → (s.can n).fifo.length < 64 →
      ∃ u, exec (.canFrameReceive n f t none) s = .next u ∧ (u.can n).fifo = (s.can n).fifo ++ [(f, t / 1000, i)] ∧
        u.getF (F.CAN_RXF_STAT_DEPTH n) = (s.can n).fifo.length + 1 ∧
        u.getF (F.CAN_CNT_COUNT_L n 0) = min 65535 (s.getF (F.CAN_CNT_COUNT_L n 0) + 1) ∧ s.SameRegs [0x400E] u ∧ s.SameStores u) ∧
    (∀ i, s.canFilter n f = some i → 64 ≤ (s.can n).fifo.length →
      ∃ u, exec (.canFrameReceive n f t none) s = .next u ∧ (u.can n).fifo = (s.can n).fifo ∧
        u.getF (F.CAN_CNT_COUNT_H n 2) = min 65535 (s.getF (F.CAN_CNT_COUNT_H n 2) + 1) ∧ s.SameRegs [0x400E] u ∧ s.SameStores u) := by
  have he := s.canReceive_good n f t h
  have h1 := s.canHeard_touches n
  have h2 := (s.canHeard n).spCan_touches n f
  have hcans : ((s.canHeard n).spCan n f).cans = (s.canHeard n).cans := congrArg Prod.snd h2.same
  have hfifo : (((s.canHeard n).spCan n f).can n).fifo = (s.can n).fifo := by
    rw [State.can_of_cans hcans, s.canHeard_fifo n (by omega)]
  have hlen : n < ((s.canHeard n).spCan n f).cans.length := by
    rw [hcans, s.canHeard_length n]
    omega
  have hreg (g : Fld) : ((s.canHeard n).spCan n f).getF g = (s.canHeard n).getF g := h2.getF g List.not_mem_nil
  have hw : s.Within [0x400E] ((s.canHeard n).spCan n f) := (h1.mono (canRegs_block hn)).within.trans (h2.within.mono (by simp))
  have hb (g : Fld) (o : Nat) (ho : o < 0x1000) (hg : g.addr = canReg n o) : g.addr / 0x10000 ∈ [0x400E] := by
    rw [hg, canReg_block n o hn ho]
    exact List.mem_singleton.2 rfl
  generalize (s.canHeard n).spCan n f = u at *
  refine ⟨fun i hi hlt => ?_, fun i hi hge => ?_⟩
  · rw [hi] at he
    have he' := he.trans (if_neg (by rw [hfifo]; omega))
    rw [hfifo] at he'
    refine ⟨_, next_congr he', ?_, ?_, ?_, ?_⟩
    · exact congrArg Can.fifo (State.can_set (s := u) (t := (State.setF (u.setCan n _) _ _).peakF _ _) rfl hlen)
    · rw [State.getF_peakF_apart _ _ _ _ rfl (by simp [Fld.apart_iff, F.CAN_RXF_STAT_PEAK, F.CAN_RXF_STAT_DEPTH]),
        State.getF_setF_same _ _ _ rfl]
      exact Nat.mod_eq_of_lt (by simp only [Fld.width, F.CAN_RXF_STAT_DEPTH]; omega)
    · rw [State.getF_peakF_apart _ _ _ _ rfl (canApart (n := n) (o := 0x20) (p := 0x40) rfl rfl (by decide)),
        State.getF_setF_apart _ _ _ _ rfl (canApart (n := n) (o := 0x20) (p := 0x40) rfl rfl (by decide))]
      exact (hreg _).trans (s.canHeard_count n)
    · exact ((hw.hidden ..).setF _ _ (hb _ 0x20 (by decide) rfl)).peakF _ _ (hb _ 0x20 (by decide) rfl)
  · rw [hi] at he
    have he' := he.trans (if_pos (by rw [hfifo]; omega))
    refine ⟨_, next_congr he', ?_, ?_, ?_⟩
    · exact (congrArg Can.fifo (State.can_of_cans (State.event_cans _ _ _) n)).trans hfifo
    · rw [State.getF_incF_event _ _ _ _ rfl (canNe (n := n) (o := 0x14) rfl (canCnt n 2) (by decide)), hreg,
        h1.getF (F.CAN_CNT_COUNT_H n 2) (canOther (canCnt n 2) (by decide))]
      rfl
    · exact (hw.incF _ (hb _ _ (by decide) (canCnt n 2))).event _ _ (hb _ 0x14 (by decide) rfl)

theorem State.canReception_unmatched (s : State) (n : Nat) (f : CanMsg) (t : Nat) (h : s.canRuns n = true) (hl : s.cans.length = 4)
    (hn : n < 4) (hi : s.canFilter n f = none) :
    ∃ u, exec (.canFrameReceive n f t none) s = .next u ∧ (u.can n).fifo = (s.can n).fifo ∧
      u.getF (F.CAN_CNT_COUNT_L n 2) = min 65535 (s.getF (F.CAN_CNT_COUNT_L n 2) + 1) ∧ s.SameRegs [0x400E] u ∧ s.SameStores u := by
  have he := s.canReceive_good n f t h
  rw [hi] at he
  have h1 := s.canHeard_touches n
  refine ⟨_, next_congr he, s.canHeard_fifo n (by omega), ?_, ((h1.mono (canRegs_block hn)).within).incF _ ?_⟩
  · rw [State.getF_incF_same _ _ rfl, h1.getF (F.CAN_CNT_COUNT_L n 2) (canOther (canCnt n 2) (by decide))]
    rfl
  · exact canAt (f := F.CAN_CNT_COUNT_L n 2) hn (canCnt n 2) (by decide)

theorem State.canReception_error (s : State) (n : Nat) (f : CanMsg) (t : Nat) (h : s.canRuns n = true) (hl : s.cans.length = 4)
    (hn : n < 4) (e : Nat) (heavy : Bool) :
    ∃ u, exec (.canFrameReceive n f t (some (e, heavy))) s = .next u ∧ (u.can n).fifo = (s.can n).fifo ∧
      u.getF (F.CAN_ERR_LEC n) = e % 7 ∧ u.getF (F.CAN_ERR_REC n) = min 255 ((s.can n).rec' + if heavy = true then 8 else 1) ∧
      s.SameRegs [0x400E] u ∧ s.SameStores u := by
  have hb (o : Nat) (ho : o < 0x1000) : canReg n o / 0x10000 ∈ [0x400E] := List.mem_singleton.2 (canReg_block n o hn ho)
  have hw := ((((State.Within.refl [0x400E] s).setFlag (F.CAN_STATUS_SYNCED n) true (hb 0x10 (by decide))).setF (F.CAN_ERR_LEC n) (e % 7)
    (hb 0x1C (by decide))).incF (F.CAN_CNT_COUNT_H n 3) (canAt hn (canCnt n 3) (by decide))).event (Ev.can n) 1 (hb 0x14 (by decide))
  have hcans : (((((s.setFlag (F.CAN_STATUS_SYNCED n) true).setF (F.CAN_ERR_LEC n) (e % 7)).incF (F.CAN_CNT_COUNT_H n 3)).event
      (Ev.can n) 1)).cans = s.cans := by rw [State.event_cans]; rfl
  have hlec : (((((s.setFlag (F.CAN_STATUS_SYNCED n) true).setF (F.CAN_ERR_LEC n) (e % 7)).incF (F.CAN_CNT_COUNT_H n 3)).event
      (Ev.can n) 1)).getF (F.CAN_ERR_LEC n) = e % 7 := by
    rw [State.getF_event_other _ _ _ _ (canReg_inj n 0x14 0x1C (by decide)), State.getF_incF_apart _ _ _ rfl
      (canApart (n := n) (p := 0x1C) (canCnt n 3) rfl (by decide)), State.getF_setF_same _ _ _ rfl]
    exact Nat.mod_eq_of_lt (by simp only [Fld.width, F.CAN_ERR_LEC]; omega)
  refine ⟨_, next_congr (s.canReceive_bad n f t e heavy h), ?_⟩
  show (State.can (State.canErr _ n _ _) n).fifo = _ ∧ _
  unfold State.canHears
  generalize ((((s.setFlag (F.CAN_STATUS_SYNCED n) true).setF (F.CAN_ERR_LEC n) (e % 7)).incF (F.CAN_CNT_COUNT_H n 3)).event (Ev.can n) 1) = u at *
  refine ⟨?_, ?_, (u.getF_canErr_counts n _ _).2, hw.trans ((u.canErr_touches n _ _).mono (canRegs_block hn)).within⟩
  · rw [State.can_set (u.canErr_cans n _ _) (by rw [hcans]; omega)]
    show (u.can n).fifo = _
    rw [State.can_of_cans hcans n]
  · rw [State.getF_canErr u n _ _ (F.CAN_ERR_LEC n) (canApart (n := n) (o := 0x10) (p := 0x1C) rfl rfl (by decide))
      (by simp [Fld.apart_iff, F.CAN_ERR_TEC, F.CAN_ERR_LEC]) (by simp [Fld.apart_iff, F.CAN_ERR_REC, F.CAN_ERR_LEC])
      (canReg_inj n 0x14 0x1C (by decide)), hlec]

/-! ### Recovery from bus-off -/

/-- Controller `n` stays in use as it is: its state, error counts, enables and buffers; the mode and the domains too. -/
structure State.CanStays (n : Nat) (r t : State) : Prop where
  state : t.getF (F.CAN_STATUS_STATE n) = r.getF (F.CAN_STATUS_STATE n)
  active : t.flag (F.CAN_STATUS_ACTIVE n) = r.flag (F.CAN_STATUS_ACTIVE n)
  regs : ∀ o, o < 0x20 → o ≠ 0x10 → t.reg (canReg n o) = r.reg (canReg n o)
  bufs : (t.can n).bufs = (r.can n).bufs
  sys : t.sys = r.sys
  doms : t.doms = r.doms
  within : r.Within [0x400E, 0x400F] t

theorem State.CanStays.refl (n : Nat) (s : State) : State.CanStays n s s := ⟨rfl, rfl, fun _ _ _ => rfl, rfl, rfl, rfl, .refl _ s⟩

section
variable {n : Nat} {r s : State} (hs : State.CanStays n r s)
include hs

/-- A register elsewhere in the networks. -/
theorem State.CanStays.setReg (a : Nat) (w : Word) (ha : a / 0x10000 ∈ [0x400E, 0x400F]) (h : ∀ o, o < 0x20 → a ≠ canReg n o) :
    State.CanStays n r (s.setReg a w) where
  state := (State.getF_congr (State.reg_setReg_other _ _ _ _ (h 0x10 (by decide)))).trans hs.state
  active := (State.flag_congr (State.getF_congr (State.reg_setReg_other _ _ _ _ (h 0x10 (by decide))))).trans hs.active
  regs o ho hne := (State.reg_setReg_other _ _ _ _ (h o ho)).trans (hs.regs o ho hne)
  bufs := hs.bufs
  sys := hs.sys
  doms := hs.doms
  within := hs.within.setReg _ _ ha

theorem State.CanStays.setF (f : Fld) (v : Nat) (ha : f.addr / 0x10000 ∈ [0x400E, 0x400F]) (h : ∀ o, o < 0x20 → f.addr ≠ canReg n o) :
    State.CanStays n r (s.setF f v) := hs.setReg _ _ ha h

theorem State.CanStays.setFlag (f : Fld) (b : Bool) (ha : f.addr / 0x10000 ∈ [0x400E, 0x400F]) (h : ∀ o, o < 0x20 → f.addr ≠ canReg n o) :
    State.CanStays n r (s.setFlag f b) := hs.setReg _ _ ha h

theorem State.CanStays.cans (l : List Can) (h : (l.getD n {}).bufs = (s.can n).bufs) : State.CanStays n r { s with cans := l } :=
  ⟨hs.state, hs.active, hs.regs, h.trans hs.bufs, hs.sys, hs.doms, hs.within.hidden ..⟩

/-- LISTEN is no part of it. -/
theorem State.CanStays.listen (m : Nat) (b : Bool) (hm : m < 4) : State.CanStays n r (s.setFlag (F.CAN_STATUS_LISTEN m) b) := by
  have ha : (F.CAN_STATUS_LISTEN m).apart (F.CAN_STATUS_STATE n) = true ∧ (F.CAN_STATUS_LISTEN m).apart (F.CAN_STATUS_ACTIVE n) = true := by
    simp [Fld.apart_iff, F.CAN_STATUS_LISTEN, F.CAN_STATUS_STATE, F.CAN_STATUS_ACTIVE]
  exact ⟨(State.getF_setFlag_apart _ _ _ _ rfl ha.1).trans hs.state, (State.flag_setFlag_apart _ _ _ _ rfl ha.2).trans hs.active,
    fun o ho hne => (State.reg_setF_other _ _ _ _ (by simp only [F.CAN_STATUS_LISTEN, canReg]; omega)).trans (hs.regs o ho hne),
    hs.bufs, hs.sys, hs.doms, hs.within.setFlag _ _ (by simp only [F.CAN_STATUS_LISTEN, List.mem_cons]; omega)⟩

theorem State.CanStays.each {α : Type} (l : List α) (f : State → α → State)
    (hf : ∀ u, ∀ a ∈ l, State.CanStays n r u → State.CanStays n r (f u a)) : State.CanStays n r (s.each l f) := by
  unfold State.each
  induction l generalizing s with
  | nil => exact hs
  | cons a l ih => exact ih (hf s a List.mem_cons_self hs) fun u b hb => hf u b (List.mem_cons_of_mem a hb)

end

/-- One controller of `startCan`. -/
def State.startOne (s : State) (n : Nat) : State :=
  let on := s.flag (F.CAN_CFG_ENABLE n) && s.sys.joined && !(s.dom 19).lost
  if s.flag (F.CAN_STATUS_ACTIVE n) = on then s
  else if on then
    let c := s.cans.getD n {}
    (s.setFlag (F.CAN_STATUS_ACTIVE n) true).setF (F.CAN_STATUS_STATE n)
      (if 256 ≤ c.tec then 2 else if 128 ≤ c.tec ∨ 128 ≤ c.rec' then 1 else 0)
  else
    let s1 := (s.setReg (F.CAN_STATUS_ACTIVE n).addr 0).setF (F.CAN_STATUS_STATE n) 3
    let s2 := s1.each (List.range 3) (fun s b => (s.setFlag (F.CAN_TXBUF_HELD n b) false).setF (F.CAN_TXBUF_STATE n b) 0)
    ({ s2 with cans := s2.cans.set n { s2.cans.getD n {} with bufs := [{}, {}, {}], fifo := [] } } : State).setF
      (F.CAN_RXF_STAT_DEPTH n) 0

theorem State.startCan_eq (s : State) : s.startCan = s.each (List.range 4) State.startOne := rfl

theorem getD_set_other {α : Type} (l : List α) (m n : Nat) (x d : α) (h : m ≠ n) : (l.set m x).getD n d = l.getD n d := by
  simp [List.getD, h]

/-- Starting or stopping another controller. -/
theorem State.CanStays.startOther {n m : Nat} {r s : State} (hs : State.CanStays n r s) (hm : m < 4) (h : m ≠ n) :
    State.CanStays n r (s.startOne m) := by
  have hb (f : Fld) (o : Nat) (hf : f.addr = canReg m o) (ho : o < 0x1000) :
      f.addr / 0x10000 ∈ [0x400E, 0x400F] ∧ ∀ p, p < 0x20 → f.addr ≠ canReg n p := by
    rw [hf]
    refine ⟨by rw [canReg_block m o hm ho]; decide, fun p hp => ?_⟩
    unfold canReg
    omega
  have hstat := hb (F.CAN_STATUS_ACTIVE m) 0x10 rfl (by decide)
  unfold State.startOne
  dsimp only
  split
  · exact hs
  · split
    · exact (hs.setFlag _ _ hstat.1 hstat.2).setF _ _ hstat.1 hstat.2
    · have h1 := ((hs.setReg (F.CAN_STATUS_ACTIVE m).addr 0 hstat.1 hstat.2).setF (F.CAN_STATUS_STATE m) 3 hstat.1 hstat.2).each (List.range 3)
        (fun s b => (s.setFlag (F.CAN_TXBUF_HELD m b) false).setF (F.CAN_TXBUF_STATE m b) 0) fun u b hb3 hu => by
          have hlt : b < 3 := List.mem_range.1 hb3
          have ht := hb (F.CAN_TXBUF_STATE m b) _ (canTxBuf m b) (by omega)
          exact (hu.setFlag (F.CAN_TXBUF_HELD m b) _ ht.1 ht.2).setF (F.CAN_TXBUF_STATE m b) _ ht.1 ht.2
      generalize State.each _ (List.range 3) _ = v at h1 ⊢
      have hd := hb (F.CAN_RXF_STAT_DEPTH m) 0x20 rfl (by decide)
      exact (h1.cans _ (by rw [getD_set_other _ _ _ _ _ h]; rfl)).setF _ _ hd.1 hd.2

theorem State.startOne_on (s : State) (n : Nat) (ha : s.flag (F.CAN_STATUS_ACTIVE n) = true) (he : s.flag (F.CAN_CFG_ENABLE n) = true)
    (hj : s.sys.joined = true) (hd : (s.dom 19).lost = false) : s.startOne n = s := by
  refine if_pos ?_
  rw [ha, he, hj, hd]
  rfl

theorem State.CanStays.refreshEth {n p : Nat} {r s : State} (hs : State.CanStays n r s) (hn : n < 4) (hp : p < 2) :
    State.CanStays n r (s.refreshEth p) := by
  have hb : (F.ETH_STATUS_ACTIVE p).addr / 0x10000 ∈ [0x400E, 0x400F] ∧ ∀ o, o < 0x20 → (F.ETH_STATUS_ACTIVE p).addr ≠ canReg n o := by
    simp only [F.ETH_STATUS_ACTIVE, canReg, List.mem_cons]
    refine ⟨by omega, fun o ho => by omega⟩
  exact (hs.setFlag (F.ETH_STATUS_ACTIVE p) _ hb.1 hb.2).setFlag (F.ETH_STATUS_PTP_MASTER p) _ hb.1 hb.2

/-- A controller stored with the buffers it had. -/
theorem bufs_set (l : List Can) (m n : Nat) (c : Can) (h : c.bufs = (l.getD m {}).bufs) : ((l.set m c).getD n {}).bufs = (l.getD n {}).bufs := by
  by_cases hmn : m = n
  · subst hmn
    by_cases hl : m < l.length
    · rw [List.getD_eq_getElem _ _ (by simpa using hl), List.getElem_set_self, h]
    · rw [List.set_eq_of_length_le (by omega)]
  · rw [getD_set_other l m n c {} hmn]

theorem State.CanStays.isoSend {n : Nat} {r s : State} (hs : State.CanStays n r s) (a : Nat) : State.CanStays n r (s.isoSend a) := by
  unfold State.isoSend
  split
  · exact hs
  · refine (hs.cans _ (bufs_set _ 0 n _ ?_)).setF (F.CAN_CNT_COUNT_H 0 0) _ (by decide) (fun o ho => ?_)
    · rfl
    · simp only [F.CAN_CNT_COUNT_H, canReg]
      omega

theorem State.CanStays.isoClaim {n : Nat} {r s : State} (hs : State.CanStays n r s) (a next : Nat) : State.CanStays n r (s.isoClaim a next) := by
  unfold State.isoClaim
  split
  · exact hs
  · exact (hs.isoSend a).cans _ (bufs_set _ 0 n _ rfl)

/-- What the networks take from the mode and the enables leaves a controller in use as it is. -/
theorem State.refreshNet_stays (s : State) (n : Nat) (hn : n < 4) (ha : s.flag (F.CAN_STATUS_ACTIVE n) = true)
    (he : s.flag (F.CAN_CFG_ENABLE n) = true) (hj : s.sys.joined = true) (hd : (s.dom 19).lost = false) : State.CanStays n s s.refreshNet := by
  have hstart : State.CanStays n s s.startCan := by
    rw [State.startCan_eq]
    refine (State.CanStays.refl n s).each _ _ fun u m hm hu => ?_
    by_cases h : m = n
    · subst h
      have hen : u.flag (F.CAN_CFG_ENABLE m) = true := (State.flag_congr (State.getF_congr (hu.regs 0 (by decide) (by decide)))).trans he
      rw [u.startOne_on m (hu.active.trans ha) hen (by rw [hu.sys]; exact hj) (by unfold State.dom; rw [hu.doms]; exact hd)]
      exact hu
    · exact hu.startOther (List.mem_range.1 hm) h
  unfold State.refreshNet
  dsimp only
  have h1 := hstart.each (List.range 4) (fun s_1 n => s_1.setFlag (F.CAN_STATUS_LISTEN n) (s_1.flag (F.CAN_STATUS_ACTIVE n) &&
    (decide (s_1.getF (F.CAN_CFG_MODE n) = 2) || (decide (n = 0) && s.flag (F.CAN_ISO_CFG_EN 0) && !s.mode.isLead))))
    fun u m hm hu => hu.listen m _ (List.mem_range.1 hm)
  generalize State.each s.startCan _ _ = v at h1 ⊢
  have h2 := h1.each [0, 1] State.refreshEth fun u p hp hu => hu.refreshEth hn (by simp at hp; omega)
  generalize State.each v [0, 1] _ = w at h2 ⊢
  have hiso : (F.CAN_ISO_STAT_ADDR 0).addr / 0x10000 ∈ [0x400E, 0x400F] ∧ ∀ o, o < 0x20 → (F.CAN_ISO_STAT_ADDR 0).addr ≠ canReg n o := by
    refine ⟨by decide, fun o ho => ?_⟩
    simp only [F.CAN_ISO_STAT_ADDR, canReg]
    omega
  split
  · split
    · exact h2
    · exact h2.isoClaim _ _
  · exact (((h2.cans _ (bufs_set w.cans 0 n { w.cans.getD 0 {} with claim := none } rfl)).setFlag (F.CAN_ISO_STAT_CLAIMED 0) _ hiso.1 hiso.2).setFlag (F.CAN_ISO_STAT_CANNOT_CLAIM 0) _
      hiso.1 hiso.2).setF (F.CAN_ISO_STAT_ADDR 0) _ hiso.1 hiso.2

/-- The device without the error counts, back on its bus. -/
theorem State.canRecover_eq (s : State) (n : Nat) (hr : s.sys.phase = .run) (hn : n < 4) (hs : s.getF (F.CAN_STATUS_STATE n) = 2)
    (ha : s.flag (F.CAN_CFG_AUTO_RECOVER n) = true) :
    s.canRecover n = ((s.canErr n 0 0).setFlag (F.CAN_STATUS_SYNCED n) true).refreshNet :=
  if_pos ⟨State.running_of_run hr, hn, hs, ha⟩

theorem State.canErr_zero (s : State) (n : Nat) : (s.canErr n 0 0).getF (F.CAN_STATUS_STATE n) = 0 :=
  State.getF_setF_same _ _ _ rfl

/-- Settles O48, case by case of the filter and of the error. -/
theorem canReception : Obligations.CanReception := by
  refine fun s n f t hr hn hl => ⟨fun ha hs => ?_, fun hs hrec ha he hj hd => ?_⟩
  · have h := s.canRuns_iff n hr hn ha hs
    obtain ⟨h1, h2⟩ := s.canReception_frame n f t h hl hn
    exact ⟨h1, h2, s.canReception_unmatched n f t h hl hn, fun e heavy => s.canReception_error n f t h hl hn e heavy⟩
  · have hc := s.canErr_touches n 0 0
    have hbusy : (F.CAN_STATUS_SYNCED n).apart (F.CAN_STATUS_STATE n) = true ∧ (F.CAN_STATUS_SYNCED n).apart (F.CAN_STATUS_ACTIVE n) = true ∧
        (F.CAN_STATUS_STATE n).apart (F.CAN_STATUS_ACTIVE n) = true := by
      simp [Fld.apart_iff, F.CAN_STATUS_SYNCED, F.CAN_STATUS_STATE, F.CAN_STATUS_ACTIVE]
    obtain ⟨hb1, hb2, hb3⟩ := hbusy
    have hact : ((s.canErr n 0 0).setFlag (F.CAN_STATUS_SYNCED n) true).flag (F.CAN_STATUS_ACTIVE n) = true := by
      rw [State.flag_setFlag_apart _ _ _ _ rfl hb2]
      refine (State.flag_congr (State.getF_canErr s n 0 0 _ hb3 ?_ ?_ ?_)).trans ha
      · exact canApart (o := 0x1C) (p := 0x10) rfl rfl (by decide)
      · exact canApart (o := 0x1C) (p := 0x10) rfl rfl (by decide)
      · exact canNe (f := F.CAN_EVENT_SEEN n) (o := 0x14) (p := 0x10) rfl rfl (by decide)
    have hen : ((s.canErr n 0 0).setFlag (F.CAN_STATUS_SYNCED n) true).flag (F.CAN_CFG_ENABLE n) = true := by
      rw [State.flag_setFlag_apart _ _ _ _ rfl (canApart (n := n) (o := 0x10) (p := 0) rfl rfl (by decide))]
      exact (hc.flag _ (canOther (o := 0) rfl (by decide))).trans he
    have hdom : (s.canErr n 0 0).doms = s.doms := rfl
    have hnet := State.refreshNet_stays ((s.canErr n 0 0).setFlag (F.CAN_STATUS_SYNCED n) true) n hn hact hen
      ((congrArg Sys.joined hc.same).trans hj) (by unfold State.dom; exact hd)
    obtain ⟨htec, hrec'⟩ := s.getF_canErr_counts n 0 0
    have h1C (g : Fld) (hg : g.addr = canReg n 0x1C) :
        ((s.canErr n 0 0).setFlag (F.CAN_STATUS_SYNCED n) true).refreshNet.getF g = (s.canErr n 0 0).getF g := by
      refine (State.getF_congr (s := (s.canErr n 0 0).setFlag (F.CAN_STATUS_SYNCED n) true) (by rw [hg]; exact hnet.regs 0x1C (by decide) (by decide))).trans ?_
      exact State.getF_setFlag_apart _ (F.CAN_STATUS_SYNCED n) g _ rfl (canApart (o := 0x10) rfl hg (by decide))
    refine ⟨_, next_congr (s.canRecover_eq n hr hn hs hrec), ?_, (h1C _ rfl).trans htec, (h1C _ rfl).trans hrec', ?_, ?_⟩
    · rw [hnet.state, State.getF_setFlag_apart _ _ _ _ rfl hb1, s.canErr_zero n]
    · rw [hnet.bufs]
      show ((s.canErr n 0 0).can n).bufs = _
      rw [State.can_set (s.canErr_cans n 0 0) (by omega)]
    · exact (((hc.mono (canRegs_block hn)).within.mono (by simp)).setFlag (F.CAN_STATUS_SYNCED n) true
        (by rw [canAtEq (o := 0x10) hn rfl (by decide)]; decide)).trans hnet.within

end Sys2Proof.Machine
end

section
/-!
# CAN transmission
-/
namespace Sys2Proof.Machine

open Sys2Proof

/-! ### Transmit buffers -/

theorem find_range_three {p : Nat → Bool} {b : Nat} (hb : b < 3) (hp : p b = true) (hl : ∀ c, c < b → p c = false) :
    (List.range 3).find? p = some b :=
  List.find?_range_eq_some.2 ⟨hp, List.mem_range.2 hb, fun c hc => by simp [hl c hc]⟩

theorem find_range_none {p : Nat → Bool} (hl : ∀ c, c < 3 → p c = false) : (List.range 3).find? p = none :=
  List.find?_eq_none.2 fun c hc => by simp [hl c (List.mem_range.1 hc)]

theorem State.canBuf_of_cans {s t : State} (h : t.cans = s.cans) (n b : Nat) : t.canBuf n b = s.canBuf n b := by
  unfold State.canBuf
  rw [State.can_of_cans h]

/-- The status, the events and one transmit buffer of a controller. -/
abbrev bufRegs (n b : Nat) : Nat → Prop := canRegs n (· ∈ [0x10, 0x14, 0x34 + 4 * b])

theorem bufRegs_at (n b o : Nat) (h : o ∈ [0x10, 0x14, 0x34 + 4 * b]) (hb : b < 3) : bufRegs n b (canReg n o) :=
  canRegs_mem n o _ h (by simp only [List.mem_cons, List.not_mem_nil, or_false] at h; omega)

theorem bufRegs_tx (n b : Nat) (hb : b < 3) : bufRegs n b (F.CAN_TXBUF_STATE n b).addr := by
  rw [canTxBuf n b]
  exact bufRegs_at n b _ (by simp) hb

/-- Another buffer's register. -/
theorem bufRegs_other (n b c : Nat) (h : c ≠ b) : ¬bufRegs n b (F.CAN_TXBUF_STATE n c).addr := by
  rw [canTxBuf n c]
  exact not_canRegs (by simp only [List.mem_cons, List.not_mem_nil, or_false]; omega)

section
variable (s : State) (n b : Nat)

theorem State.canBuf_set {t : State} {x : CanBuf} (h : t.cans = s.cans.set n { s.can n with bufs := (s.can n).bufs.set b x })
    (hn : n < s.cans.length) (hl : b < (s.can n).bufs.length) : t.canBuf n b = x := by
  unfold State.canBuf
  rw [State.can_set h hn]
  show ((s.can n).bufs.set b x).getD b {} = x
  rw [List.getD_eq_getElem _ _ (by simpa using hl), List.getElem_set_self]

theorem State.setCanBuf_touches (hb : b < 3) (x : CanBuf) : s.Touches (bufRegs n b) State.sys (s.setCanBuf n b x) :=
  (((State.Touches.refl State.blind_sys _ s).hidden (t := s.setCan n { s.can n with bufs := (s.can n).bufs.set b x })
    ((State.Within.refl [] s).hidden ..) rfl).setFlag (F.CAN_TXBUF_HELD n b) _ (bufRegs_tx n b hb)).setF (F.CAN_STATUS_TX_PEND n) _
      (bufRegs_at n b 0x10 (by simp) hb)

/-- Fields of the status besides TX_PEND, and of the buffer besides HELD, stay. -/
theorem State.getF_setCanBuf (x : CanBuf) (g : Fld) (h1 : (F.CAN_TXBUF_HELD n b).apart g = true) (h2 : (F.CAN_STATUS_TX_PEND n).apart g = true) :
    (s.setCanBuf n b x).getF g = s.getF g := by
  unfold State.setCanBuf
  dsimp only
  rw [State.getF_setF_apart _ _ _ _ rfl h2, State.getF_setFlag_apart _ _ _ _ rfl h1]
  rfl

theorem State.canThen_touches (hb : b < 3) (next : Option CanMsg) : s.Touches (bufRegs n b) State.sys (s.canThen n b next) :=
  (s.setCanBuf_touches n b hb _).setF (F.CAN_TXBUF_STATE n b) _ (bufRegs_tx n b hb)

theorem State.canThen_state (next : Option CanMsg) : (s.canThen n b next).bufState n b = if next.isSome then 1 else 0 := by
  refine (State.getF_setF_same _ _ _ rfl).trans (Nat.mod_eq_of_lt ?_)
  show _ < 4
  split <;> decide

theorem State.canThen_buf (next : Option CanMsg) (hn : n < s.cans.length) (hl : b < (s.can n).bufs.length) :
    (s.canThen n b next).canBuf n b = { frame := next } :=
  State.canBuf_set s n b (t := s.canThen n b next) rfl hn hl

theorem State.getF_canThen (next : Option CanMsg) (g : Fld) (h1 : (F.CAN_TXBUF_HELD n b).apart g = true)
    (h2 : (F.CAN_STATUS_TX_PEND n).apart g = true) (h3 : (F.CAN_TXBUF_STATE n b).apart g = true) :
    (s.canThen n b next).getF g = s.getF g := by
  unfold State.canThen
  rw [State.getF_setF_apart _ _ _ _ rfl h3, s.getF_setCanBuf n b _ g h1 h2]

/-- A failed attempt of a buffer with nothing held leaves its frame pending. -/
theorem State.canFailed_again (r : Nat) (f : CanMsg) (hx : s.canBuf n b = { frame := some f }) (hm : s.getF (F.CAN_CFG_MODE n) ≠ 1) :
    s.canFailed n b r = s.canThen n b (some f) := by
  unfold State.canFailed
  rw [hx]
  dsimp only
  rw [if_neg (by simp), if_neg (by simp [hm]), if_neg (by simp)]

end

/-! ### Arbitration -/

section
variable (s : State) (n b : Nat) (f : CanMsg) (hr : s.canRuns n = true) (hlis : s.flag (F.CAN_STATUS_LISTEN n) = false)
include hr hlis

theorem State.canArbitrate_start (hiso : n ≠ 0 ∨ s.flag (F.CAN_ISO_CFG_EN 0) = false) (hx : s.canBuf n b = { frame := some f })
    (hidle : ∀ c, c < 3 → s.bufState n c < 2) (hnext : s.canNext n = some b) :
    s.canArbitrate n false = (((s.setCanBuf n b { frame := some f }).setF (F.CAN_TXBUF_STATE n b) 2).setFlag (F.CAN_STATUS_TRANSMITTING n)
      true).setFlag (F.CAN_STATUS_SYNCED n) true := by
  unfold State.canArbitrate
  rw [if_neg (by simp [hr, hlis]), find_range_none (fun c hc => by have := hidle c hc; simp; omega)]
  dsimp only
  rw [if_neg (by decide), hnext]
  dsimp only
  rw [if_neg (by rintro ⟨h, h'⟩; rcases hiso with hi | hi <;> simp_all), hx]

theorem State.canArbitrate_won (hb : b < 3) (hx : s.canBuf n b = { frame := some f }) (hlow : ∀ c, c < b → s.bufState n c < 2)
    (hst : s.bufState n b = 2) : s.canArbitrate n true = s.setF (F.CAN_TXBUF_STATE n b) 3 := by
  unfold State.canArbitrate
  rw [if_neg (by simp [hr, hlis]), find_range_three hb (by simp [hst]) (fun c hc => by have := hlow c hc; simp; omega)]
  dsimp only
  rw [if_pos ⟨rfl, hst⟩, hx]
  rfl

end

theorem canApart_tx {n b p : Nat} {g : Fld} (hb : b < 3) (hg : g.addr = canReg n p) (h : p ∉ [0x34, 0x38, 0x3C]) :
    (F.CAN_TXBUF_STATE n b).apart g = true :=
  canApart (canTxBuf n b) hg (by simp only [List.mem_cons, List.not_mem_nil, or_false, not_or] at h; omega)

/-- The buffer that arbitrates next begins. -/
theorem State.canArbitration_start (s : State) (n b : Nat) (f : CanMsg) (hn : n < 4) (hb : b < 3) (hl : s.cans.length = 4)
    (hbl : (s.can n).bufs.length = 3) (hr : s.canRuns n = true) (hlis : s.flag (F.CAN_STATUS_LISTEN n) = false)
    (hiso : n ≠ 0 ∨ s.flag (F.CAN_ISO_CFG_EN 0) = false) (hx : s.canBuf n b = { frame := some f })
    (hidle : ∀ c, c < 3 → s.bufState n c < 2) (hnext : s.canNext n = some b) :
    ∃ u, exec (.canArbitration n false) s = .next u ∧ u.bufState n b = 2 ∧ (u.canBuf n b).frame = some f ∧
      u.flag (F.CAN_STATUS_TRANSMITTING n) = true ∧ s.SameRegs [0x400E] u ∧ s.SameStores u := by
  refine ⟨_, next_congr (s.canArbitrate_start n b f hr hlis hiso hx hidle hnext), ?_, ?_, ?_, ?_⟩
  · have hap (g : Fld) (hg : g.addr = canReg n 0x10) : g.apart (F.CAN_TXBUF_STATE n b) = true := canApart hg (canTxBuf n b) (by omega)
    show State.getF _ (F.CAN_TXBUF_STATE n b) = 2
    rw [State.getF_setFlag_apart _ _ _ _ rfl (hap _ rfl), State.getF_setFlag_apart _ _ _ _ rfl (hap _ rfl), State.getF_setF_same _ _ _ rfl]
    rfl
  · refine congrArg CanBuf.frame (State.canBuf_set s n b (x := { frame := some f }) ?_ (by omega) (by omega))
    rfl
  · rw [State.flag_setFlag_apart _ _ _ _ rfl (by simp [Fld.apart_iff, F.CAN_STATUS_SYNCED, F.CAN_STATUS_TRANSMITTING]),
      State.flag_setFlag_same _ _ _ rfl]
  · have ht := (s.setCanBuf_touches n b hb { frame := some f }).mono (canRegs_block hn)
    exact ((ht.within.setF (F.CAN_TXBUF_STATE n b) 2 (canAt hn (canTxBuf n b) (by omega))).setFlag (F.CAN_STATUS_TRANSMITTING n) true
      (canAt hn (o := 0x10) rfl (by decide))).setFlag (F.CAN_STATUS_SYNCED n) true (canAt hn (o := 0x10) rfl (by decide))

/-! ### The end of an attempt -/

/-- An attempt that has ended. -/
def State.canOver (s : State) (n : Nat) : State := s.setFlag (F.CAN_STATUS_TRANSMITTING n) false

theorem State.canFrameEnd_eq (s : State) (n b how lec : Nat) (hb : b < 3) (hr : s.canRuns n = true) (hlow : ∀ c, c < b → s.bufState n c < 2)
    (hst : 2 ≤ s.bufState n b) (f : CanMsg) (hx : s.canBuf n b = { frame := some f }) :
    s.canFrameEnd n how lec = match how with
      | 0 => ((((s.canOver n).incF (F.CAN_CNT_COUNT_H n 0)).canErr n ((s.can n).tec - 1) (s.can n).rec').canThen n b none).canResult n b 1
      | 1 => ((s.canOver n).incF (F.CAN_CNT_COUNT_H n 1)).canFailed n b 2
      | _ =>
        let tec := if (lec % 7 = 3 ∧ s.getF (F.CAN_STATUS_STATE n) = 1) ∨ (lec % 7 = 1 ∧ s.bufState n b = 2) then (s.can n).tec
          else (s.can n).tec + 8
        let s2 := (((((s.canOver n).incF (F.CAN_CNT_COUNT_L n 1)).incF (F.CAN_CNT_COUNT_H n 3)).setF (F.CAN_ERR_LEC n) (lec % 7)).event
          (Ev.can n) 1).canErr n tec (s.can n).rec'
        if 256 ≤ tec then s2.canBusOff n else s2.canFailed n b 3 := by
  unfold State.canFrameEnd
  rw [find_range_three hb (by simpa using hst) (fun c hc => by have := hlow c hc; simp; omega)]
  dsimp only
  rw [if_neg (by simp [hr]), hx]
  rfl

/-- Beginning of a field's life: what the end of an attempt leaves of the fields of other registers than the buffer's and the status. -/
theorem State.canThen_other (s : State) (n b : Nat) (next : Option CanMsg) (hb : b < 3) (g : Fld) (p : Nat) (hg : g.addr = canReg n p)
    (hp : p ∉ [0x10, 0x34, 0x38, 0x3C]) : (s.canThen n b next).getF g = s.getF g := by
  simp only [List.mem_cons, List.not_mem_nil, or_false, not_or] at hp
  exact s.getF_canThen n b next g (canApart (canTxBuf n b) hg (by omega)) (canApart (o := 0x10) rfl hg (by omega))
    (canApart (canTxBuf n b) hg (by omega))

theorem State.canThen_transmitting (s : State) (n b : Nat) (next : Option CanMsg) (hb : b < 3) :
    (s.canThen n b next).flag (F.CAN_STATUS_TRANSMITTING n) = s.flag (F.CAN_STATUS_TRANSMITTING n) :=
  State.flag_congr (s.getF_canThen n b next _ (canApart (p := 0x10) (canTxBuf n b) rfl (by omega))
    (by simp [Fld.apart_iff, F.CAN_STATUS_TX_PEND, F.CAN_STATUS_TRANSMITTING]) (canApart (p := 0x10) (canTxBuf n b) rfl (by omega)))

theorem State.canErr_transmitting (s : State) (n tec rec' : Nat) :
    (s.canErr n tec rec').flag (F.CAN_STATUS_TRANSMITTING n) = s.flag (F.CAN_STATUS_TRANSMITTING n) :=
  State.flag_congr (s.getF_canErr n tec rec' _ (by simp [Fld.apart_iff, F.CAN_STATUS_STATE, F.CAN_STATUS_TRANSMITTING])
    (canApart (o := 0x1C) (p := 0x10) rfl rfl (by decide)) (canApart (o := 0x1C) (p := 0x10) rfl rfl (by decide))
    (canNe (f := F.CAN_EVENT_SEEN n) (o := 0x14) (p := 0x10) rfl rfl (by decide)))

theorem State.canErr_bufs (s : State) (n tec rec' : Nat) (hn : n < s.cans.length) :
    (s.canErr n tec rec').cans.length = s.cans.length ∧ ((s.canErr n tec rec').can n).bufs = (s.can n).bufs := by
  refine ⟨by rw [s.canErr_cans n tec rec', List.length_set], ?_⟩
  rw [State.can_set (s.canErr_cans n tec rec') hn]

/-- The end of an attempt counts in one of the controller's counts. -/
theorem State.canOver_touches (s : State) (n : Nat) (g : Fld) (o : Nat) (hg : g.addr = canReg n o) (ho : o < 0x1000) :
    s.Touches (canRegs n (· ∈ [0x10, o])) State.busView ((s.canOver n).incF g) :=
  ((State.Touches.refl State.blind_busView _ s).setFlag (F.CAN_STATUS_TRANSMITTING n) false
    (canRegs_mem n 0x10 _ (by simp) (by decide))).incF g (by rw [hg]; exact canRegs_mem n o _ (by simp) ho)

section
variable (s : State) (n b : Nat) (f : CanMsg) (hn : n < 4) (hb : b < 3) (hl : s.cans.length = 4) (hbl : (s.can n).bufs.length = 3)
include hn hb hl hbl

/-- A frame sent. -/
theorem State.canSent_shows (t : State) (ht : t =
      ((((s.canOver n).incF (F.CAN_CNT_COUNT_H n 0)).canErr n ((s.can n).tec - 1) (s.can n).rec').canThen n b none).canResult n b 1) :
    t.bufState n b = 0 ∧ (t.canBuf n b).frame = none ∧ t.getF (F.CAN_TXBUF_RESULT n b) = 1 ∧ t.flag (F.CAN_STATUS_TRANSMITTING n) = false ∧
      t.getF (F.CAN_CNT_COUNT_H n 0) = min 65535 (s.getF (F.CAN_CNT_COUNT_H n 0) + 1) ∧ s.SameRegs [0x400E] t ∧ s.SameStores t := by
  have h1 := s.canOver_touches n (F.CAN_CNT_COUNT_H n 0) 0x40 (canCnt n 0) (by decide)
  have hcnt : ((s.canOver n).incF (F.CAN_CNT_COUNT_H n 0)).getF (F.CAN_CNT_COUNT_H n 0) = min 65535 (s.getF (F.CAN_CNT_COUNT_H n 0) + 1) := by
    rw [State.getF_incF_same _ _ rfl, State.canOver, State.getF_setFlag_apart _ _ _ _ rfl (canApart (o := 0x10) rfl (canCnt n 0) (by decide))]
    rfl
  have htr : ((s.canOver n).incF (F.CAN_CNT_COUNT_H n 0)).flag (F.CAN_STATUS_TRANSMITTING n) = false := by
    rw [State.flag_incF_apart _ _ _ rfl (canApart (p := 0x10) (canCnt n 0) rfl (by decide))]
    exact State.flag_setFlag_same _ _ _ rfl
  have hcans : ((s.canOver n).incF (F.CAN_CNT_COUNT_H n 0)).cans = s.cans := congrArg Prod.snd h1.same
  generalize (s.canOver n).incF (F.CAN_CNT_COUNT_H n 0) = u at *
  have h2 := u.canErr_touches n ((s.can n).tec - 1) (s.can n).rec'
  have htr2 := u.canErr_transmitting n ((s.can n).tec - 1) (s.can n).rec'
  obtain ⟨hlen, hbufs⟩ := u.canErr_bufs n ((s.can n).tec - 1) (s.can n).rec' (by rw [hcans]; omega)
  generalize u.canErr n ((s.can n).tec - 1) (s.can n).rec' = v at *
  have h3 := v.canThen_touches n b hb none
  have hbv := v.canThen_buf n b none (by rw [hlen, hcans]; omega) (by rw [hbufs, State.can_of_cans hcans]; omega)
  have hst := v.canThen_state n b none
  have htr3 := v.canThen_transmitting n b none hb
  have hcnt3 := v.canThen_other n b none hb (F.CAN_CNT_COUNT_H n 0) _ (canCnt n 0) (by decide)
  have hset : t = (v.canThen n b none).setF (F.CAN_TXBUF_RESULT n b) 1 := ht
  generalize v.canThen n b none = w at *
  have hres (g : Fld) (hg : (F.CAN_TXBUF_RESULT n b).apart g = true) : t.getF g = w.getF g := by
    rw [hset, State.getF_setF_apart _ _ _ _ rfl hg]
  have hbuf : t.canBuf n b = w.canBuf n b := by
    rw [hset]
    exact State.canBuf_of_cans (State.setF_cans _ _ _) n b
  refine ⟨?_, (congrArg CanBuf.frame hbuf).trans (congrArg CanBuf.frame hbv), by rw [hset]; exact State.getF_setF_same _ _ _ rfl, ?_, ?_, ?_⟩
  · exact (hres _ (by simp [Fld.apart_iff, F.CAN_TXBUF_RESULT, F.CAN_TXBUF_STATE])).trans hst
  · exact (State.flag_congr (hres _ (canApart (p := 0x10) (canTxBuf n b) rfl (by omega)))).trans
      (htr3.trans (htr2.trans htr))
  · refine (hres _ (canApart (canTxBuf n b) (canCnt n 0) (by omega))).trans (hcnt3.trans ?_)
    exact (h2.getF _ (canOther (canCnt n 0) (by decide))).trans hcnt
  · rw [hset]
    exact ((((h1.mono (canRegs_block hn)).within.trans (h2.mono (canRegs_block hn)).within).trans (h3.mono (canRegs_block hn)).within).setF
      (F.CAN_TXBUF_RESULT n b) 1 (canAt hn (canTxBuf n b) (by omega)))

/-- A lost arbitration. -/
theorem State.canLost_shows (hx : s.canBuf n b = { frame := some f }) (hm : s.getF (F.CAN_CFG_MODE n) ≠ 1) :
    let t := ((s.canOver n).incF (F.CAN_CNT_COUNT_H n 1)).canFailed n b 2
    t.bufState n b = 1 ∧ (t.canBuf n b).frame = some f ∧
      t.getF (F.CAN_CNT_COUNT_H n 1) = min 65535 (s.getF (F.CAN_CNT_COUNT_H n 1) + 1) ∧ s.SameRegs [0x400E] t ∧ s.SameStores t := by
  have h1 := s.canOver_touches n (F.CAN_CNT_COUNT_H n 1) 0x44 (canCnt n 1) (by decide)
  have hcnt : ((s.canOver n).incF (F.CAN_CNT_COUNT_H n 1)).getF (F.CAN_CNT_COUNT_H n 1) = min 65535 (s.getF (F.CAN_CNT_COUNT_H n 1) + 1) := by
    rw [State.getF_incF_same _ _ rfl, State.canOver, State.getF_setFlag_apart _ _ _ _ rfl (canApart (o := 0x10) rfl (canCnt n 1) (by decide))]
    rfl
  have hcans : ((s.canOver n).incF (F.CAN_CNT_COUNT_H n 1)).cans = s.cans := congrArg Prod.snd h1.same
  have hmode := h1.getF (F.CAN_CFG_MODE n) (canOther (o := 0) rfl (by decide))
  generalize (s.canOver n).incF (F.CAN_CNT_COUNT_H n 1) = u at *
  have hxu : u.canBuf n b = { frame := some f } := by
    unfold State.canBuf
    rw [State.can_of_cans hcans]
    exact hx
  rw [u.canFailed_again n b 2 f hxu (by rwa [hmode])]
  have h3 := u.canThen_touches n b hb (some f)
  have hbv := u.canThen_buf n b (some f) (by rw [hcans]; omega) (by rw [State.can_of_cans hcans]; omega)
  refine ⟨u.canThen_state n b (some f), congrArg CanBuf.frame hbv, ?_, (h1.mono (canRegs_block hn)).within.trans (h3.mono (canRegs_block hn)).within⟩
  exact (u.canThen_other n b (some f) hb _ _ (canCnt n 1) (by decide)).trans hcnt

/-- An attempt that ended in an error, up to the error counts. -/
def State.canErred (s : State) (n lec : Nat) : State :=
  ((((s.canOver n).incF (F.CAN_CNT_COUNT_L n 1)).incF (F.CAN_CNT_COUNT_H n 3)).setF (F.CAN_ERR_LEC n) (lec % 7)).event (Ev.can n) 1

omit hn hb hl hbl in
theorem State.canErred_touches (lec : Nat) :
    s.Touches (canRegs n (· ∈ [0x10, 0x14, 0x1C, 0x44, 0x4C])) State.busView (s.canErred n lec) := by
  have h0 : s.Touches (canRegs n (· ∈ [0x10, 0x14, 0x1C, 0x44, 0x4C])) State.busView (s.canOver n) :=
    (State.Touches.refl State.blind_busView _ s).setFlag (F.CAN_STATUS_TRANSMITTING n) false (canRegs_mem n 0x10 _ (by simp) (by decide))
  have h1 := h0.incF (F.CAN_CNT_COUNT_L n 1)
    (by rw [show (F.CAN_CNT_COUNT_L n 1).addr = _ from canCnt n 1]; exact canRegs_mem n _ _ (by decide) (by decide))
  have h2 := h1.incF (F.CAN_CNT_COUNT_H n 3) (by rw [canCnt n 3]; exact canRegs_mem n _ _ (by decide) (by decide))
  unfold State.canErred
  exact (h2.setF (F.CAN_ERR_LEC n) (lec % 7) (canRegs_mem n 0x1C _ (by decide) (by decide))).event (Ev.can n) 1
    (canRegs_mem n 0x14 _ (by decide) (by decide))

omit hn hb hl hbl in
theorem State.canErred_lec (lec : Nat) : (s.canErred n lec).getF (F.CAN_ERR_LEC n) = lec % 7 := by
  unfold State.canErred
  rw [State.getF_event_other _ _ _ _ (canNe (f := F.CAN_EVENT_SEEN n) (n := n) (o := 0x14) (p := 0x1C) rfl rfl (by decide)),
    State.getF_setF_same _ _ _ rfl]
  exact Nat.mod_eq_of_lt (by simp only [Fld.width, F.CAN_ERR_LEC]; omega)

/-- An error that does not bring bus-off leaves the frame pending. -/
theorem State.canError_shows (hx : s.canBuf n b = { frame := some f }) (hm : s.getF (F.CAN_CFG_MODE n) ≠ 1) (lec tec : Nat) (t : State)
    (ht : t = ((s.canErred n lec).canErr n tec (s.can n).rec').canFailed n b 3) :
    t.bufState n b = 1 ∧ (t.canBuf n b).frame = some f ∧ t.getF (F.CAN_ERR_TEC n) = min 255 tec ∧ t.getF (F.CAN_ERR_LEC n) = lec % 7 ∧
      s.SameRegs [0x400E] t ∧ s.SameStores t := by
  have h1 := s.canErred_touches n lec
  have hlec := s.canErred_lec n lec
  have hcans : (s.canErred n lec).cans = s.cans := congrArg Prod.snd h1.same
  generalize s.canErred n lec = u at *
  have h2 := u.canErr_touches n tec (s.can n).rec'
  obtain ⟨hlen, hbufs⟩ := u.canErr_bufs n tec (s.can n).rec' (by rw [hcans]; omega)
  obtain ⟨htec, -⟩ := u.getF_canErr_counts n tec (s.can n).rec'
  have hlec2 : (u.canErr n tec (s.can n).rec').getF (F.CAN_ERR_LEC n) = lec % 7 :=
    (u.getF_canErr n tec _ _ (canApart (o := 0x10) (p := 0x1C) rfl rfl (by decide)) (by simp [Fld.apart_iff, F.CAN_ERR_TEC, F.CAN_ERR_LEC])
      (by simp [Fld.apart_iff, F.CAN_ERR_REC, F.CAN_ERR_LEC])
      (canNe (f := F.CAN_EVENT_SEEN n) (o := 0x14) (p := 0x1C) rfl rfl (by decide))).trans hlec
  generalize u.canErr n tec (s.can n).rec' = v at *
  have hbv : (v.can n).bufs = (s.can n).bufs := by rw [hbufs, State.can_of_cans hcans]
  have hxv : v.canBuf n b = { frame := some f } := by
    unfold State.canBuf at hx ⊢
    rw [hbv, hx]
  have hmv : v.getF (F.CAN_CFG_MODE n) ≠ 1 := by
    rwa [h2.getF _ (canOther (o := 0) rfl (by decide)), h1.getF _ (canOther (o := 0) rfl (by decide))]
  rw [v.canFailed_again n b 3 f hxv hmv] at ht
  have h3 := v.canThen_touches n b hb (some f)
  rw [ht]
  refine ⟨v.canThen_state n b (some f), congrArg CanBuf.frame (v.canThen_buf n b (some f) (by rw [hlen, hcans]; omega) (by rw [hbv]; omega)), ?_, ?_, ?_⟩
  · exact (v.canThen_other n b (some f) hb _ 0x1C rfl (by decide)).trans htec
  · exact (v.canThen_other n b (some f) hb _ 0x1C rfl (by decide)).trans hlec2
  · exact ((h1.mono (canRegs_block hn)).within.trans (h2.mono (canRegs_block hn)).within).trans (h3.mono (canRegs_block hn)).within

end

/-! ### Bus-off -/

/-- One buffer as the controller goes bus-off. -/
def State.busOffBuf (s : State) (n b : Nat) : State :=
  s.when (decide (s.bufState n b ≠ 0)) (fun s => ((s.setCanBuf n b {}).setF (F.CAN_TXBUF_STATE n b) 0).canResult n b 3)

theorem State.busOffBuf_touches (s : State) (n b : Nat) (hb : b < 3) : s.Touches (bufRegs n b) State.sys (s.busOffBuf n b) := by
  unfold State.busOffBuf
  refine (State.Touches.refl State.blind_sys _ s).when _ _ fun u hu => ?_
  have h1 := (hu.trans (u.setCanBuf_touches n b hb {})).setF (F.CAN_TXBUF_STATE n b) 0 (bufRegs_tx n b hb)
  exact (h1.setF (F.CAN_TXBUF_RESULT n b) 3 (bufRegs_tx n b hb)).event (Ev.can n) 3 (bufRegs_at n b 0x14 (by simp) hb)

theorem State.busOffBuf_empty (s : State) (n b : Nat) (hb : b < 3) :
    (s.busOffBuf n b).bufState n b = 0 ∧ (s.bufState n b ≠ 0 → (s.busOffBuf n b).getF (F.CAN_TXBUF_RESULT n b) = 3) := by
  have hev (g : Fld) (hg : g.addr = canReg n (0x34 + 4 * b)) : (Ev.can n).ev.addr ≠ g.addr :=
    canNe (f := F.CAN_EVENT_SEEN n) (o := 0x14) rfl hg (by omega)
  by_cases h : s.bufState n b = 0
  · have he : s.busOffBuf n b = s := by
      unfold State.busOffBuf
      rw [h]
      rfl
    rw [he]
    exact ⟨h, fun hn => absurd h hn⟩
  · have he : s.busOffBuf n b = ((s.setCanBuf n b {}).setF (F.CAN_TXBUF_STATE n b) 0).canResult n b 3 :=
      State.when_true _ _ _ (decide_eq_true h)
    rw [he]
    generalize s.setCanBuf n b {} = u
    refine ⟨?_, fun _ => ?_⟩
    · refine (State.getF_event_other _ _ _ _ (hev _ (canTxBuf n b))).trans ?_
      rw [State.getF_setF_apart _ _ _ _ rfl (by simp [Fld.apart_iff, F.CAN_TXBUF_RESULT, F.CAN_TXBUF_STATE]), State.getF_setF_same _ _ _ rfl]
      rfl
    · refine (State.getF_event_other _ _ _ (F.CAN_TXBUF_RESULT n b) (hev _ (canTxBuf n b))).trans ?_
      rw [State.getF_setF_same _ _ _ rfl]
      rfl

/-- The buffers of a controller that goes bus-off. -/
def State.busOffBufs (s : State) (n : Nat) : State := ((s.busOffBuf n 0).busOffBuf n 1).busOffBuf n 2

theorem State.busOffBufs_touches (s : State) (n : Nat) :
    s.Touches (canRegs n (· ∈ [0x10, 0x14, 0x34, 0x38, 0x3C])) State.sys (s.busOffBufs n) := by
  have hm (b : Nat) (hb : b < 3) : ∀ a, bufRegs n b a → canRegs n (· ∈ [0x10, 0x14, 0x34, 0x38, 0x3C]) a := by
    rintro a ⟨o, ho, hlt, rfl⟩
    simp only [List.mem_cons, List.not_mem_nil, or_false] at ho
    exact canRegs_mem n o _ (by simp only [List.mem_cons, List.not_mem_nil, or_false]; omega) hlt
  exact ((s.busOffBuf_touches n 0 (by decide)).mono (hm 0 (by decide))).trans
    (((State.busOffBuf_touches _ n 1 (by decide)).mono (hm 1 (by decide))).trans
      ((State.busOffBuf_touches _ n 2 (by decide)).mono (hm 2 (by decide))))

theorem State.busOffBufs_empty (s : State) (n b : Nat) (hb : b < 3) :
    (s.busOffBufs n).bufState n b = 0 ∧ (s.bufState n b ≠ 0 → (s.busOffBufs n).getF (F.CAN_TXBUF_RESULT n b) = 3) := by
  have hkeep (u : State) (c d : Nat) (hd : d < 3) (h : c ≠ d) (g : Fld) (hg : g.addr = (F.CAN_TXBUF_STATE n c).addr) :
      (u.busOffBuf n d).getF g = u.getF g := (u.busOffBuf_touches n d hd).getF g (by rw [hg]; exact bufRegs_other n d c h)
  unfold State.busOffBufs State.bufState
  rcases (by omega : b = 0 ∨ b = 1 ∨ b = 2) with rfl | rfl | rfl
  · obtain ⟨h1, h2⟩ := s.busOffBuf_empty n 0 (by decide)
    have h (g : Fld) (hg : g.addr = (F.CAN_TXBUF_STATE n 0).addr) :
        (((s.busOffBuf n 0).busOffBuf n 1).busOffBuf n 2).getF g = (s.busOffBuf n 0).getF g :=
      (hkeep _ 0 2 (by decide) (by decide) g hg).trans (hkeep _ 0 1 (by decide) (by decide) g hg)
    exact ⟨(h _ rfl).trans h1, fun hn => (h (F.CAN_TXBUF_RESULT n 0) rfl).trans (h2 hn)⟩
  · obtain ⟨h1, h2⟩ := (s.busOffBuf n 0).busOffBuf_empty n 1 (by decide)
    have h (g : Fld) (hg : g.addr = (F.CAN_TXBUF_STATE n 1).addr) :
        (((s.busOffBuf n 0).busOffBuf n 1).busOffBuf n 2).getF g = ((s.busOffBuf n 0).busOffBuf n 1).getF g :=
      hkeep _ 1 2 (by decide) (by decide) g hg
    have h0 : (s.busOffBuf n 0).bufState n 1 = s.bufState n 1 := hkeep s 1 0 (by decide) (by decide) (F.CAN_TXBUF_STATE n 1) rfl
    exact ⟨(h _ rfl).trans h1, fun hn => (h (F.CAN_TXBUF_RESULT n 1) rfl).trans (h2 (by rw [h0]; exact hn))⟩
  · obtain ⟨h1, h2⟩ := ((s.busOffBuf n 0).busOffBuf n 1).busOffBuf_empty n 2 (by decide)
    have h0 : ((s.busOffBuf n 0).busOffBuf n 1).bufState n 2 = s.bufState n 2 :=
      (hkeep _ 2 1 (by decide) (by decide) (F.CAN_TXBUF_STATE n 2) rfl).trans (hkeep s 2 0 (by decide) (by decide) (F.CAN_TXBUF_STATE n 2) rfl)
    exact ⟨h1, fun hn => h2 (by rw [h0]; exact hn)⟩

/-- A controller gone bus-off, before the collector hears of it. -/
def State.busOffShown (s : State) (n : Nat) : State :=
  (((((s.busOffBufs n).setF (F.CAN_STATUS_STATE n) 2).setFlag (F.CAN_STATUS_TRANSMITTING n) false).setFlag (F.CAN_STATUS_SYNCED n) false).incF
    (F.CAN_CNT_COUNT_L n 3)).event (Ev.can n) 7

theorem State.canBusOff_eq (s : State) (n : Nat) : s.canBusOff n = (s.busOffShown n).raise (Src.canBusOff n) := rfl

theorem State.busOffBuf_flt (s : State) (n b : Nat) : (s.busOffBuf n b).flt = s.flt := by
  unfold State.busOffBuf
  rw [State.when_flt]
  split
  · refine (State.event_flt _ _ _).trans ?_
    rfl
  · rfl

theorem State.busOffShown_flt (s : State) (n : Nat) : (s.busOffShown n).flt = s.flt := by
  unfold State.busOffShown
  rw [State.event_flt, State.incF_flt, State.setFlag_flt, State.setFlag_flt, State.setF_flt]
  unfold State.busOffBufs
  rw [State.busOffBuf_flt, State.busOffBuf_flt, State.busOffBuf_flt]

theorem State.canErr_flt (s : State) (n tec rec' : Nat) : (s.canErr n tec rec').flt = s.flt := by
  unfold State.canErr
  dsimp only
  split
  · rfl
  · split
    · rw [State.when_flt, State.event_flt, ite_self]
      rfl
    · rfl

theorem State.canErred_flt (s : State) (n lec : Nat) : (s.canErred n lec).flt = s.flt := by
  unfold State.canErred
  rw [State.event_flt]
  rfl

theorem State.busOffShown_shows (s : State) (n b : Nat) (hn : n < 4) (hb : b < 3) (hst : s.bufState n b ≠ 0) :
    let t := s.busOffShown n
    t.getF (F.CAN_STATUS_STATE n) = 2 ∧ (∀ c, c < 3 → t.bufState n c = 0) ∧ t.getF (F.CAN_TXBUF_RESULT n b) = 3 ∧ s.Within [0x400E] t ∧
      t.sys = s.sys := by
  have h0 := s.busOffBufs_touches n
  have hemp (c : Nat) (hc : c < 3) := s.busOffBufs_empty n c hc
  have hsys : (s.busOffShown n).sys = s.sys := by
    unfold State.busOffShown
    rw [State.event_sys]
    exact h0.same
  unfold State.busOffShown at *
  generalize s.busOffBufs n = u at *
  have hev (g : Fld) (p : Nat) (hg : g.addr = canReg n p) (hp : 0x14 ≠ p) : (Ev.can n).ev.addr ≠ g.addr :=
    canNe (f := F.CAN_EVENT_SEEN n) (o := 0x14) rfl hg hp
  have hcnt (g : Fld) (p : Nat) (hg : g.addr = canReg n p) (hp : 0x4C ≠ p) : (F.CAN_CNT_COUNT_L n 3).apart g = true :=
    canApart (canCnt n 3) hg hp
  have htx (g : Fld) (c : Nat) (hc : c < 3) (hg : g.addr = (F.CAN_TXBUF_STATE n c).addr) :
      (((((u.setF (F.CAN_STATUS_STATE n) 2).setFlag (F.CAN_STATUS_TRANSMITTING n) false).setFlag (F.CAN_STATUS_SYNCED n) false).incF
        (F.CAN_CNT_COUNT_L n 3)).event (Ev.can n) 7).getF g = u.getF g := by
    rw [canTxBuf n c] at hg
    have h10 (f : Fld) (hf : f.addr = canReg n 0x10) : f.apart g = true := canApart hf hg (by omega)
    rw [State.getF_event_other _ _ _ _ (hev g _ hg (by omega)), State.getF_incF_apart _ _ _ rfl (hcnt g _ hg (by omega)),
      State.getF_setFlag_apart _ _ _ _ rfl (h10 _ rfl), State.getF_setFlag_apart _ _ _ _ rfl (h10 _ rfl),
      State.getF_setF_apart _ _ _ _ rfl (h10 _ rfl)]
  refine ⟨?_, fun c hc => (htx _ c hc rfl).trans (hemp c hc).1, (htx (F.CAN_TXBUF_RESULT n b) b hb rfl).trans ((hemp b hb).2 hst), ?_, hsys⟩
  · rw [State.getF_event_other _ _ _ _ (hev (F.CAN_STATUS_STATE n) 0x10 rfl (by decide)),
      State.getF_incF_apart _ _ _ rfl (hcnt (F.CAN_STATUS_STATE n) 0x10 rfl (by decide)),
      State.getF_setFlag_apart _ _ _ _ rfl (by simp [Fld.apart_iff, F.CAN_STATUS_SYNCED, F.CAN_STATUS_STATE]),
      State.getF_setFlag_apart _ _ _ _ rfl (by simp [Fld.apart_iff, F.CAN_STATUS_TRANSMITTING, F.CAN_STATUS_STATE]),
      State.getF_setF_same _ _ _ rfl]
    rfl
  · have h10 := canAt (f := F.CAN_STATUS_STATE n) hn (o := 0x10) rfl (by decide)
    exact (((((h0.mono (canRegs_block hn)).within.setF (F.CAN_STATUS_STATE n) 2 h10).setFlag (F.CAN_STATUS_TRANSMITTING n) false h10).setFlag
      (F.CAN_STATUS_SYNCED n) false h10).incF (F.CAN_CNT_COUNT_L n 3) (canAt hn (canCnt n 3) (by decide))).event (Ev.can n) 7
      (canAt (f := F.CAN_EVENT_SEEN n) hn (o := 0x14) rfl (by decide))

/-- Past 255 transmit errors the controller is bus-off. -/
theorem State.canBusOff_shows (s : State) (n b lec tec : Nat) (hn : n < 4) (hb : b < 3) (hst : 2 ≤ s.bufState n b) (hq : s.Quiet (0xA7 + n))
    (ha : s.asserted (0xA7 + n) = false) :
    let t := ((s.canErred n lec).canErr n tec (s.can n).rec').canBusOff n
    t.getF (F.CAN_STATUS_STATE n) = 2 ∧ (∀ c, c < 3 → t.bufState n c = 0) ∧ t.getF (F.CAN_TXBUF_RESULT n b) = 3 ∧
      t.sticky (0xA7 + n) = true ∧ t.mode = s.mode ∧ s.SameRegs (0x400E :: raiseBlocks) t ∧ s.SameStores t := by
  have h1 := s.canErred_touches n lec
  have h2 := (s.canErred n lec).canErr_touches n tec (s.can n).rec'
  have hflt : ((s.canErred n lec).canErr n tec (s.can n).rec').flt = s.flt := (State.canErr_flt _ n tec _).trans (s.canErred_flt n lec)
  have hsys : ((s.canErred n lec).canErr n tec (s.can n).rec').sys = s.sys := h2.same.trans (congrArg Prod.fst h1.same)
  have hw : s.Within [0x400E] ((s.canErred n lec).canErr n tec (s.can n).rec') :=
    (h1.mono (canRegs_block hn)).within.trans (h2.mono (canRegs_block hn)).within
  have hb1 : ((s.canErred n lec).canErr n tec (s.can n).rec').bufState n b = s.bufState n b :=
    (h2.getF _ (canOther (canTxBuf n b) (by simp only [List.mem_cons, List.not_mem_nil, or_false]; omega))).trans
      (h1.getF _ (canOther (canTxBuf n b) (by simp only [List.mem_cons, List.not_mem_nil, or_false]; omega)))
  generalize (s.canErred n lec).canErr n tec (s.can n).rec' = v at *
  obtain ⟨h3, h4, h5, h6, h7⟩ := v.busOffShown_shows n b hn hb (by omega)
  rw [v.canBusOff_eq n, show Src.canBusOff n = 0xA7 + n from rfl]
  have hflt2 : (v.busOffShown n).flt = s.flt := (v.busOffShown_flt n).trans hflt
  have hw2 := hw.trans h6
  have hsys2 := h7.trans hsys
  generalize v.busOffShown n = w at *
  have hq2 : w.Quiet (0xA7 + n) := hw2.quiet (by decide) (by decide) (by rw [hsys2]) (by omega) hq
  have ha2 : w.asserted (0xA7 + n) = false := (State.asserted_of_asserting (State.asserting_congr hflt2) _).trans ha
  have hc := State.confined_raise w (0xA7 + n) none (by omega) hq2
  have hkeep (g : Fld) (o : Nat) (hg : g.addr = canReg n o) (ho : o < 0x1000) : (w.raise (0xA7 + n)).getF g = w.getF g :=
    hc.getF g (by rw [hg, canReg_block n o hn ho]; decide)
  refine ⟨(hkeep _ 0x10 rfl (by decide)).trans h3, fun c hc3 => (hkeep _ _ (canTxBuf n c) (by omega)).trans (h4 c hc3),
    (hkeep (F.CAN_TXBUF_RESULT n b) _ (canTxBuf n b) (by omega)).trans h5, w.sticky_raise _ _ (by omega) hq2 ha2,
    (hc.mode (by decide)).trans (hw2.mode (by decide) (by rw [hsys2])), (hw2.mono (by simp)).trans (hc.within.mono fun _ => List.mem_cons_of_mem _)⟩

/-! ### Claims and the section control time-out -/

theorem State.claimStands_claim (s : State) (a : Nat) (hr : s.sys.phase = .run) (hm : s.mode.isLead = true) (h : (s.can 0).claim = some a) :
    s.claimStands = ((s.setCan 0 { s.can 0 with claim := none, nextAddr := 128 }).setFlag (F.CAN_ISO_STAT_CLAIMED 0) true).setF
      (F.CAN_ISO_STAT_ADDR 0) a := by
  unfold State.claimStands
  rw [h]
  exact if_pos ⟨State.running_of_run hr, hm⟩

/-- Settles O49, by the end of each attempt and the claim that stands. -/
theorem canTransmission : Obligations.CanTransmission := by
  refine ⟨fun s n b f hr hn hb hl hbl ha hs hx => ?_, fun s hr => ⟨fun a hc ha hm hl => ?_, fun hc => ?_, fun hf => ?_, fun hf => ?_⟩⟩
  · have h := s.canRuns_iff n hr hn ha hs
    refine ⟨fun hlis hiso => ⟨fun hidle hnext => ?_, fun hlow hst => ?_⟩, fun hlow hst hm => ?_⟩
    · exact s.canArbitration_start n b f hn hb hl hbl h hlis hiso hx hidle hnext
    · have he := s.canArbitrate_won n b f h hlis hb hx hlow hst
      refine ⟨_, next_congr he, State.getF_setF_same _ _ _ rfl, ?_, rfl⟩
      exact (State.OnlyRegs.refl _ s).setF _ _ (List.mem_singleton.2 rfl)
    · have he (how lec : Nat) := s.canFrameEnd_eq n b how lec hb h hlow hst f hx
      refine ⟨fun lec => ?_, fun lec => ?_, fun lec hcond htec => ?_, fun lec hcond htec => ?_, fun lec hcond htec hq has => ?_⟩
      · obtain ⟨h1, h2, h3, h4, h5, h6⟩ := s.canSent_shows n b hn hb hl hbl _ (he 0 lec)
        exact ⟨_, rfl, h1, h2, h3, h4, h5, h6⟩
      · exact ⟨_, next_congr (he 1 lec), s.canLost_shows n b f hn hb hl hbl hx hm⟩
      · have he2 := he 2 lec
        dsimp only at he2
        rw [if_pos hcond, if_neg (by omega)] at he2
        exact ⟨_, rfl, s.canError_shows n b f hn hb hl hbl hx hm lec _ _ he2⟩
      · have he2 := he 2 lec
        dsimp only at he2
        rw [if_neg hcond, if_neg (by omega)] at he2
        obtain ⟨h1, h2, h3, h4, h5⟩ := s.canError_shows n b f hn hb hl hbl hx hm lec _ _ he2
        exact ⟨_, rfl, h1, h2, h3.trans (by omega), h4, h5⟩
      · have he2 := he 2 lec
        dsimp only at he2
        rw [if_neg hcond, if_pos htec] at he2
        exact ⟨_, next_congr he2, s.canBusOff_shows n b lec _ hn hb hst hq has⟩
  · have he := s.claimStands_claim a hr hm hc
    refine ⟨_, next_congr he, ?_, ?_, ?_, ?_, rfl⟩
    · rw [State.flag_setF_apart _ _ _ _ rfl (by decide), State.flag_setFlag_same _ _ _ rfl]
    · exact (State.getF_setF_same _ _ _ rfl).trans (Nat.mod_eq_of_lt ha)
    · exact congrArg Can.claim (State.can_set (s := s) (t := State.setF (State.setFlag (s.setCan 0 _) _ _) _ _) rfl (by omega))
    · exact ((State.OnlyRegs.refl _ (s.setCan 0 { s.can 0 with claim := none, nextAddr := 128 })).setFlag (F.CAN_ISO_STAT_CLAIMED 0) true
        (by decide)).setF (F.CAN_ISO_STAT_ADDR 0) a (by decide)
  · refine next_congr ?_
    unfold State.claimStands
    rw [hc]
  · refine ⟨_, next_congr (if_pos (State.running_of_run hr)), ?_, ?_, ?_, ?_⟩
    all_goals rw [hf, State.when_true _ _ _ rfl]
    · rw [State.flag_setFlag_apart _ _ _ _ rfl (by decide), State.flag_setFlag_same _ _ _ rfl]
    · exact State.flag_setFlag_same _ _ _ rfl
    · exact ((State.OnlyRegs.refl _ s).setFlag F.SEC_STATUS_ISO_STALE true (by decide)).setFlag (F.CAN_ISO_STAT_SC_SEEN 0) false (by decide)
    · rfl
  · refine ⟨_, next_congr (if_pos (State.running_of_run hr)), ?_, ?_, ?_⟩
    all_goals rw [hf]
    · exact State.flag_setFlag_same _ _ _ rfl
    · exact (State.OnlyRegs.refl _ s).setFlag _ _ (by decide)
    · rfl

end Sys2Proof.Machine
end

section
/-!
# Sequences of the converters
-/
namespace Sys2Proof.Machine

open Sys2Proof

/-! ### Sequences of the converters -/

/-- A start taken from the list. -/
def State.startTaken (s : State) (q : AdcSeq) : State :=
  { s with adc := { s.adc with starts := s.adc.starts.filter (fun x => decide (x ≠ q)) } }

/-- The registers of a converter's step: its status, the converters busy, the events and the preemptions. -/
abbrev stepRegs (v a : Nat) : Prop := a = (F.ADC_CONV_STAT_STATE v).addr ∨ a ∈ [0x400C0000, 0x400C0008, 0x400C0050]

theorem stepRegs_block (v : Nat) (hv : v < 8) : ∀ a, stepRegs v a → inBlocks [0x400C] a := by
  rintro a (rfl | h)
  · simp only [inBlocks, F.ADC_CONV_STAT_STATE, List.mem_singleton]
    omega
  · exact (by decide : ∀ a ∈ [0x400C0000, 0x400C0008, 0x400C0050], inBlocks [0x400C] a) a h

/-- The status of another converter. -/
theorem stepRegs_other (v u : Nat) (h : u ≠ v) : ¬stepRegs v (F.ADC_CONV_STAT_STATE u).addr := by
  simp only [stepRegs, F.ADC_CONV_STAT_STATE, List.mem_cons, List.not_mem_nil, or_false]
  omega

/-- The counts of starts. -/
theorem stepRegs_count (v a : Nat) (h : a ∈ [0x400C004C, 0x400C0054, 0x400C0068]) : ¬stepRegs v a := by
  simp only [List.mem_cons, List.not_mem_nil, or_false] at h
  simp only [stepRegs, F.ADC_CONV_STAT_STATE, List.mem_cons, List.not_mem_nil, or_false]
  omega

theorem State.setConvState_touches (s : State) (v st : Nat) : s.Touches (stepRegs v) State.sys (s.setConvState v st) :=
  ((State.Touches.refl State.blind_sys _ s).setF (F.ADC_CONV_STAT_STATE v) _ (.inl rfl)).setF F.ADC_STATUS_BUSY _ (.inr (by decide))

/-- BUSY is no part of a converter's status. -/
theorem adcBusy_apart (v : Nat) (g : Fld) (hg : g.addr = (F.ADC_CONV_STAT_STATE v).addr) : F.ADC_STATUS_BUSY.apart g = true :=
  (Fld.apart_iff _ _).2 (.inl (by rw [hg]; simp only [F.ADC_STATUS_BUSY, F.ADC_CONV_STAT_STATE]; omega))

theorem State.setConvState_state (s : State) (v st : Nat) (h : st < 8) :
    (s.setConvState v st).getF (F.ADC_CONV_STAT_STATE v) = st ∧ (s.setConvState v st).getF (F.ADC_CONV_STAT_POS v) = s.getF (F.ADC_CONV_STAT_POS v) := by
  unfold State.setConvState
  dsimp only
  rw [State.getF_setF_apart _ _ _ _ rfl (adcBusy_apart v (F.ADC_CONV_STAT_STATE v) rfl),
    State.getF_setF_apart _ _ _ _ rfl (adcBusy_apart v (F.ADC_CONV_STAT_POS v) rfl),
    State.getF_setF_same _ _ _ rfl, State.getF_setF_apart _ _ _ _ rfl (by simp [Fld.apart_iff, F.ADC_CONV_STAT_STATE, F.ADC_CONV_STAT_POS])]
  exact ⟨Nat.mod_eq_of_lt h, rfl⟩

theorem State.injBegin_touches (s : State) (st v : Nat) (acq inConv : Bool) : s.Touches (stepRegs v) State.sys (s.injBegin st v acq inConv) := by
  unfold State.injBegin
  extract_lets c regular pos last done tail wait s1
  have h1 : s.Touches (stepRegs v) State.sys s1 :=
    ((State.Touches.refl State.blind_sys _ s).setF (F.ADC_CONV_STAT_POS v) _ (.inl rfl)).hidden ((State.Within.refl [] _).hidden ..) rfl
  exact (h1.trans (s1.setConvState_touches v st)).when _ _ fun u hu =>
    (hu.incF F.ADC_PREEMPT_CNT_COUNT (.inr (by decide))).event Ev.adc 0 (.inr (by decide))

theorem State.injBegin_state (s : State) (st v : Nat) (acq inConv : Bool) (h : st < 8) :
    (s.injBegin st v acq inConv).getF (F.ADC_CONV_STAT_STATE v) = st := by
  have hne (a : Nat) (ha : a ∈ [0x400C0008, 0x400C0050]) : a ≠ (F.ADC_CONV_STAT_STATE v).addr := by
    simp only [List.mem_cons, List.not_mem_nil, or_false] at ha
    simp only [F.ADC_CONV_STAT_STATE]
    omega
  unfold State.injBegin
  extract_lets c regular pos last done tail wait s1
  refine (State.getF_when _ _ _ _ ?_).trans (s1.setConvState_state v st h).1
  rw [State.getF_event_other _ _ _ _ (hne _ (by decide)), State.getF_incF_apart _ _ _ (by decide) ((Fld.apart_iff _ _).2 (.inl (hne _ (by decide))))]

theorem State.injRuns_low (s : State) (v : Nat) (h : s.getF (F.ADC_CONV_STAT_STATE v) < 2 ∨ s.getF (F.ADC_CONV_STAT_STATE v) = 3) :
    s.injRuns v = false := by
  unfold State.injRuns
  simp only [List.contains_eq_mem, List.mem_cons, List.not_mem_nil, or_false, decide_eq_false_iff_not]
  omega

theorem State.sequenceStart_eq (s : State) (q : AdcSeq) (acq inConv : Nat) (hr : s.sys.phase = .run) (hj : s.sys.joined = true)
    (hu : s.seqUsable q = true) (hq : q ∈ s.adc.starts) :
    s.sequenceStart q acq inConv = match q with
    | .regular v =>
      if s.getF (F.ADC_CONV_STAT_STATE v) = 1 ∨ (s.conv v).wait then ((s.startTaken q).incF F.ADC_SEQ_OVERRUN_CNT_COUNT).event Ev.adc 2
      else if s.injRuns v ∨ s.getF (F.ADC_CONV_STAT_STATE v) = 3 then (s.startTaken q).setConv v { (s.startTaken q).conv v with wait := true }
      else ((s.startTaken q).setF (F.ADC_CONV_STAT_POS v) 0).setConvState v 1
    | .injected v =>
      if s.injRuns v then (s.startTaken q).trigLost else ((s.startTaken q).incF F.ADC_INJ_CNT_COUNT).injBegin 2 v (bit acq v) (bit inConv v)
    | .group g =>
      if (s.seqConvs q).any s.injRuns then (s.startTaken q).trigLost
      else ((s.startTaken q).incF F.ADC_GROUP_CNT_COUNT).each ((s.seqConvs (.group g)).filter (fun v =>
        decide (0 < s.getF (F.ADC_CONV_CFG_INJ_LEN v)))) (fun s v => (s.incF F.ADC_INJ_CNT_COUNT).injBegin 5 v (bit acq v) (bit inConv v))
    | .pair p =>
      if (s.seqConvs q).any s.injRuns then (s.startTaken q).trigLost
      else (s.startTaken q).each [2 * p, 2 * p + 1] (fun s v => s.injBegin 4 v (bit acq v) (bit inConv v)) := by
  unfold State.sequenceStart
  refine (if_neg (by simp [State.running_of_run hr, hj, hu, hq])).trans ?_
  cases q <;> rfl

/-- A regular sequence begins on an idle converter. -/
theorem State.regularStart_shows (s : State) (v : Nat) (hv : v < 8) :
    let t := ((s.startTaken (.regular v)).setF (F.ADC_CONV_STAT_POS v) 0).setConvState v 1
    t.getF (F.ADC_CONV_STAT_STATE v) = 1 ∧ t.getF (F.ADC_CONV_STAT_POS v) = 0 ∧ .regular v ∉ t.adc.starts ∧ s.SameRegs [0x400C] t ∧
      s.SameStores t := by
  obtain ⟨h1, h2⟩ := ((s.startTaken (.regular v)).setF (F.ADC_CONV_STAT_POS v) 0).setConvState_state v 1 (by decide)
  refine ⟨h1, h2.trans (State.getF_setF_same _ _ _ rfl), by simp [State.setConvState, State.startTaken], ?_⟩
  have h0 : s.Touches (stepRegs v) State.sys (s.startTaken (.regular v)) :=
    (State.Touches.refl State.blind_sys _ s).hidden ((State.Within.refl [] s).hidden ..) rfl
  exact (((h0.setF (F.ADC_CONV_STAT_POS v) 0 (.inl rfl)).trans (State.setConvState_touches _ v 1)).mono (stepRegs_block v hv)).within

theorem State.trigLost_shows (s : State) : s.trigLost.getF F.ADC_TRIG_LOST_CNT_COUNT = min (2 ^ 32 - 1) (s.getF F.ADC_TRIG_LOST_CNT_COUNT + 1) ∧
    s.Touches (fun a => a ∈ [0x400C0054, 0x400C0008]) State.sys s.trigLost :=
  ⟨State.getF_incF_event s _ Ev.adc 1 (by decide) (by decide),
    ((State.Touches.refl State.blind_sys _ s).incF F.ADC_TRIG_LOST_CNT_COUNT (by decide)).event Ev.adc 1 (by decide)⟩

/-- Injected steps on the converters of a list. -/
def State.injEach (s : State) (st : Nat) (count : Bool) (l : List Nat) (acq inConv : Nat) : State :=
  s.each l (fun s v => (s.when count (fun s => s.incF F.ADC_INJ_CNT_COUNT)).injBegin st v (bit acq v) (bit inConv v))

theorem State.injEach_shows (st : Nat) (count : Bool) (acq inConv : Nat) (hst : st < 8) (l : List Nat) : ∀ (s : State), (∀ v ∈ l, v < 8) → l.Nodup →
    (∀ v, (s.injEach st count l acq inConv).getF (F.ADC_CONV_STAT_STATE v) = if v ∈ l then st else s.getF (F.ADC_CONV_STAT_STATE v)) ∧
      (s.injEach st count l acq inConv).getF F.ADC_GROUP_CNT_COUNT = s.getF F.ADC_GROUP_CNT_COUNT ∧
      s.Within [0x400C] (s.injEach st count l acq inConv) := by
  induction l with
  | nil => exact fun s _ _ => ⟨fun v => (if_neg List.not_mem_nil).symm, rfl, State.Within.refl _ s⟩
  | cons v l ih =>
    intro s hl hnd
    obtain ⟨hv, hnd⟩ := List.nodup_cons.1 hnd
    have hv8 := hl v List.mem_cons_self
    have h1 : s.Touches (fun a => stepRegs v a ∨ a = 0x400C004C) State.sys
        ((s.when count (fun s => s.incF F.ADC_INJ_CNT_COUNT)).injBegin st v (bit acq v) (bit inConv v)) :=
      ((State.Touches.refl State.blind_sys _ s).when _ _ fun u hu => hu.incF F.ADC_INJ_CNT_COUNT (.inr rfl)).trans
        ((State.injBegin_touches _ st v _ _).mono fun _ => .inl)
    have h2 := State.injBegin_state (s.when count (fun s => s.incF F.ADC_INJ_CNT_COUNT)) st v (bit acq v) (bit inConv v) hst
    obtain ⟨k1, k2, k3⟩ := ih ((s.when count (fun s => s.incF F.ADC_INJ_CNT_COUNT)).injBegin st v (bit acq v) (bit inConv v))
      (fun u hu => hl u (List.mem_cons_of_mem _ hu)) hnd
    have hcons : s.injEach st count (v :: l) acq inConv =
      State.injEach ((s.when count (fun s => s.incF F.ADC_INJ_CNT_COUNT)).injBegin st v (bit acq v) (bit inConv v)) st count l acq inConv := rfl
    rw [hcons]
    refine ⟨fun u => ?_, k2.trans (h1.getF _ ?_), State.Within.trans ?_ k3⟩
    · rw [k1 u]
      by_cases hu : u = v
      · subst hu
        rw [if_neg hv, if_pos List.mem_cons_self, h2]
      · have ho : ¬(stepRegs v (F.ADC_CONV_STAT_STATE u).addr ∨ (F.ADC_CONV_STAT_STATE u).addr = 0x400C004C) := by
          rintro (h | h)
          · exact stepRegs_other v u hu h
          · simp only [F.ADC_CONV_STAT_STATE] at h
            omega
        rw [h1.getF _ ho]
        simp [hu]
    · rintro (h | h)
      · exact stepRegs_count v _ (by decide) h
      · exact absurd h (by decide)
    · refine (h1.mono (Q := inBlocks [0x400C]) ?_).within
      rintro a (h | rfl)
      · exact stepRegs_block v hv8 a h
      · decide

theorem State.startTaken_within (s : State) (q : AdcSeq) : s.Within [0x400C] (s.startTaken q) := (State.Within.refl _ s).hidden ..

/-- The converters of a pair. -/
theorem pair_converters (p v : Nat) (hv : v / 2 = p) : v ∈ [2 * p, 2 * p + 1] := by
  simp only [List.mem_cons, List.not_mem_nil, or_false]
  omega

/-- A start asked for stands in the list, once. -/
theorem mem_append_new (l hit : List AdcSeq) (q : AdcSeq) (h : q ∈ hit) : q ∈ l ++ hit.filter (fun q => !l.contains q) := by
  by_cases hl : q ∈ l
  · exact List.mem_append_left _ hl
  · exact List.mem_append_right _ (List.mem_filter.2 ⟨h, by simp [hl]⟩)

/-- Settles O32, sequence by sequence. -/
theorem adcSequences : Obligations.AdcSequences := by
  refine fun s hr => ⟨fun reg inj => ?_, fun hj => ⟨fun v a c hv hq hen hlen hst hw => ?_, fun v a c hv hq hen hlen => ⟨fun hst => ?_, fun hst => ?_⟩,
    fun p a c hp hq hen hmem => ?_, fun g a c hg hq hen hmem => ?_⟩⟩
  · refine ⟨_, next_congr (if_pos (State.running_of_run hr)), fun v hv => ⟨fun hb => ?_, fun hb => ?_⟩, ?_, ?_, rfl, rfl, rfl, rfl⟩
    · exact mem_append_new _ _ _ (List.mem_append_left _ (List.mem_map.2 ⟨v, List.mem_filter.2 ⟨List.mem_range.2 hv, hb⟩, rfl⟩))
    · exact mem_append_new _ _ _ (List.mem_append_right _ (List.mem_map.2 ⟨v, List.mem_filter.2 ⟨List.mem_range.2 hv, hb⟩, rfl⟩))
    · exact State.getF_incF_same _ _ (by decide)
    · exact State.OnlyRegs.incF (s := { s with adc := _ }) (State.OnlyRegs.refl _ s) _ (by decide)
  · have he := s.sequenceStart_eq (.regular v) a c hr hj (by simp [State.seqUsable, State.seqConvs, hv, hen, hlen]) hq
    dsimp only at he
    rw [if_neg (by simp [hst, hw]), if_neg (by simp [s.injRuns_low v (by omega), hst])] at he
    exact ⟨_, next_congr he, s.regularStart_shows v hv⟩
  · have he := s.sequenceStart_eq (.injected v) a c hr hj (by simp [State.seqUsable, State.seqConvs, hv, hen, hlen]) hq
    dsimp only at he
    rw [if_neg (by simp [s.injRuns_low v hst])] at he
    have ht := ((s.startTaken (.injected v)).incF F.ADC_INJ_CNT_COUNT).injBegin_touches 2 v (bit a v) (bit c v)
    refine ⟨_, next_congr he, State.injBegin_state _ 2 v _ _ (by decide), ?_, ?_⟩
    · rw [ht.getF _ (stepRegs_count v _ (by decide)), State.getF_incF_same _ _ (by decide)]
      rfl
    · exact (((s.startTaken_within _).incF F.ADC_INJ_CNT_COUNT (by decide)).trans (ht.mono (stepRegs_block v hv)).within).1
  · have he := s.sequenceStart_eq (.injected v) a c hr hj (by simp [State.seqUsable, State.seqConvs, hv, hen, hlen]) hq
    dsimp only at he
    rw [if_pos (by simp [State.injRuns, hst])] at he
    obtain ⟨h1, h2⟩ := (s.startTaken (.injected v)).trigLost_shows
    refine ⟨_, next_congr he, ?_, h1, ?_⟩
    · refine (h2.getF _ ?_).trans hst
      simp only [F.ADC_CONV_STAT_STATE, List.mem_cons, List.not_mem_nil, or_false]
      omega
    · exact ((s.startTaken_within _).trans (h2.mono (Q := inBlocks [0x400C]) (by decide)).within).1
  · have hall (v : Nat) (hv : v ∈ [2 * p, 2 * p + 1]) : v < 8 ∧ v / 2 = p := by
      simp only [List.mem_cons, List.not_mem_nil, or_false] at hv
      omega
    have he := s.sequenceStart_eq (.pair p) a c hr hj (by
      simp only [State.seqUsable, State.seqConvs, hen, hp, decide_true, Bool.and_true, List.all_eq_true]
      intro v hv
      simp [(hall v hv).1, (hmem v (hall v hv).1 (hall v hv).2).1]) hq
    dsimp only at he
    rw [if_neg (by
      rw [List.any_eq_true]
      rintro ⟨v, hv, h⟩
      rw [s.injRuns_low v (.inl (hmem v (hall v hv).1 (hall v hv).2).2)] at h
      exact absurd h (by decide))] at he
    obtain ⟨h1, -, h3⟩ := State.injEach_shows 4 false a c (by decide) [2 * p, 2 * p + 1] (s.startTaken (.pair p)) (fun v hv => (hall v hv).1) (by simp)
    refine ⟨_, next_congr he, fun v hv hvp => ?_, ((s.startTaken_within _).trans h3).1⟩
    exact (h1 v).trans (if_pos (pair_converters p v hvp))
  · have hall (v : Nat) : v ∈ s.seqConvs (.group g) ↔ v < 8 ∧ bit (s.getF (F.ADC_GROUP_MEMBERS g)) v = true := by
      simp [State.seqConvs]
    have he := s.sequenceStart_eq (.group g) a c hr hj (by
      simp only [State.seqUsable, hen, hg, decide_true, Bool.and_true, List.all_eq_true]
      intro v hv
      obtain ⟨h8, hb⟩ := (hall v).1 hv
      simp [h8, (hmem v h8 hb).1]) hq
    dsimp only at he
    rw [if_neg (by
      rw [List.any_eq_true]
      rintro ⟨v, hv, h⟩
      obtain ⟨h8, hb⟩ := (hall v).1 hv
      rw [s.injRuns_low v (.inl (hmem v h8 hb).2)] at h
      exact absurd h (by decide))] at he
    have hnd : ((s.seqConvs (.group g)).filter (fun v => decide (0 < s.getF (F.ADC_CONV_CFG_INJ_LEN v)))).Nodup :=
      (List.nodup_range.filter _).filter _
    obtain ⟨h1, h2, h3⟩ := State.injEach_shows 5 true a c (by decide) _ ((s.startTaken (.group g)).incF F.ADC_GROUP_CNT_COUNT)
      (fun v hv => ((hall v).1 (List.mem_filter.1 hv).1).1) hnd
    refine ⟨_, next_congr he, fun v hv hb => (h1 v).trans ?_, h2.trans (State.getF_incF_same _ _ (by decide)),
      (((s.startTaken_within _).incF F.ADC_GROUP_CNT_COUNT (by decide)).trans h3).1⟩
    have hin : v ∈ s.seqConvs (.group g) := (hall v).2 ⟨hv, hb⟩
    simp only [List.mem_filter, hin, true_and, decide_eq_true_eq]
    split
    · rfl
    · refine (State.getF_incF_apart _ _ _ (by decide) ((Fld.apart_iff _ _).2 (.inl ?_))).trans rfl
      simp only [F.ADC_GROUP_CNT_COUNT, F.ADC_CONV_STAT_STATE]
      omega

end Sys2Proof.Machine
end

section
/-!
# The position interfaces
-/
namespace Sys2Proof.Machine

open Sys2Proof

/-! ### The registers of a position interface -/

/-- A register of interface `i`. -/
def posReg (i o : Nat) : Nat := 0x40090000 + o + 0x1000 * i

/-- The registers of interface `i` at the offsets `os`. -/
def posRegs (i : Nat) (os : List Nat) (a : Nat) : Prop := ∃ o ∈ os, o < 0x1000 ∧ a = posReg i o

theorem posReg_block (i o : Nat) (hi : i < 4) (ho : o < 0x1000) : posReg i o / 0x10000 = 0x4009 := by
  unfold posReg
  omega

theorem posReg_inj (i o p : Nat) (h : o ≠ p) : posReg i o ≠ posReg i p := by
  unfold posReg
  omega

theorem posRegs_mem (i o : Nat) (os : List Nat) (h : o ∈ os) (ho : o < 0x1000) : posRegs i os (posReg i o) := ⟨o, h, ho, rfl⟩

theorem posRegs_mono {i : Nat} {os ps : List Nat} (h : ∀ o ∈ os, o ∈ ps) : ∀ a, posRegs i os a → posRegs i ps a := by
  rintro a ⟨o, ho, hlt, rfl⟩
  exact ⟨o, h o ho, hlt, rfl⟩

theorem posRegs_block {i : Nat} (os : List Nat) (hi : i < 4) : ∀ a, posRegs i os a → inBlocks [0x4009] a := by
  rintro a ⟨o, -, ho, rfl⟩
  exact List.mem_singleton.2 (posReg_block i o hi ho)

theorem not_posRegs {i o : Nat} {os : List Nat} (h : o ∉ os) : ¬posRegs i os (posReg i o) := by
  rintro ⟨p, hp, -, he⟩
  have : o = p := by
    unfold posReg at he
    omega
  exact h (this ▸ hp)

/-- Fields of two registers of an interface. -/
theorem posApart {f g : Fld} {i o p : Nat} (hf : f.addr = posReg i o) (hg : g.addr = posReg i p) (h : o ≠ p) : f.apart g = true :=
  (Fld.apart_iff _ _).2 (.inl (by rw [hf, hg]; exact posReg_inj i o p h))

/-! ### An interface's hidden state -/

/-- What an interface keeps, but for the log of its steps and the compare pulse. -/
def State.posView (i : Nat) (s : State) : Sys × Nat × Pos := (s.sys, s.poss.length, { s.pos i with log := [], cmpEnd := 0 })

theorem State.blind_posView (i : Nat) : State.Blind (State.posView i) := by
  rintro bs s _ ⟨-, r, f, j, g, m, rfl⟩
  rfl

theorem State.pos_of_poss {s t : State} (h : t.poss = s.poss) (i : Nat) : t.pos i = s.pos i := by
  unfold State.pos
  rw [h]

theorem State.pos_setPos (s : State) (i : Nat) (p : Pos) (hi : i < s.poss.length) : (s.setPos i p).pos i = p := by
  unfold State.pos State.setPos
  rw [List.getD_eq_getElem _ _ (by simpa using hi), List.getElem_set_self]

theorem State.getF_setPos (s : State) (i : Nat) (p : Pos) (g : Fld) : (s.setPos i p).getF g = s.getF g := rfl

theorem State.posView_setPos (s : State) (i : Nat) (p : Pos)
    (h : ({ p with log := [], cmpEnd := 0 } : Pos) = { s.pos i with log := [], cmpEnd := 0 }) : (s.setPos i p).posView i = s.posView i := by
  have hl : (s.setPos i p).poss.length = s.poss.length := List.length_set
  by_cases hi : i < s.poss.length
  · simp only [State.posView, s.pos_setPos i p hi, hl, h]
    rfl
  · have : s.setPos i p = s := by
      unfold State.setPos
      rw [List.set_eq_of_length_le (by omega)]
    rw [this]

theorem State.Touches.setPos {α : Type} {π : State → α} {P : Nat → Prop} {r s : State} (hs : r.Touches P π s) (i : Nat) (p : Pos)
    (h : π (s.setPos i p) = π s) : r.Touches P π (s.setPos i p) := hs.hidden ((State.Within.refl [] s).hidden ..) h

theorem State.Touches.adcTrigger {P : Nat → Prop} {r s : State} {i : Nat} (hs : r.Touches P (State.posView i) s) (code : Nat) :
    r.Touches P (State.posView i) (s.adcTrigger code) := hs.hidden ((State.Within.refl [] s).hidden ..) rfl

theorem State.takeAhead_nil (s : State) (i : Nat) : s.takeAhead i [] = s := by
  unfold State.takeAhead State.setPos
  rw [List.append_nil]
  refine (congrArg (fun l => { s with poss := l }) ?_).trans (rfl : { s with poss := s.poss } = s)
  by_cases hi : i < s.poss.length
  · show s.poss.set i (s.poss.getD i {}) = s.poss
    rw [List.getD_eq_getElem _ _ hi, List.set_getElem_self]
  · exact List.set_eq_of_length_le (by omega)

theorem State.posIn_iff (s : State) (i m : Nat) (hr : s.sys.phase = .run) (hi : i < 4) (ha : s.flag (F.POS_STATUS_ACTIVE i) = true)
    (hm : s.getF (F.POS_CFG_MODE i) = m) (l : List Nat) : s.posIn i l = l.contains m := by
  simp [State.posIn, State.running_of_run hr, hi, ha, hm]

/-! ### What comes at once -/

theorem State.posTake_eq (s : State) (i t : Nat) (c : Instr) (hl : t / 10 ≠ s.nextTick / 10) (ht : c ∉ (s.pos i).taken)
    (hc : isStep c = true ∨ ∀ d ∈ s.pending, isStep d = true → s.posClock d ≠ some (i, t / 10)) : s.posTake i t c = s.posAct c := by
  have hfirst : (if isStep c then [] else (s.sameClock i (t / 10)).filter isStep) = [] := by
    rcases hc with h | h
    · exact if_pos h
    · rw [ite_eq_left_iff, List.filter_eq_nil_iff]
      intro _ d hd hs
      obtain ⟨hd, hk⟩ := List.mem_filter.1 hd
      simp only [Bool.and_eq_true, decide_eq_true_eq] at hk
      exact h d hd hs hk.1
  unfold State.posTake
  rw [if_neg (by simpa using ht), if_neg hl]
  show (State.takeAhead (List.foldl State.posAct s (if isStep c then [] else (s.sameClock i (t / 10)).filter isStep)) i
    (if isStep c then [] else (s.sameClock i (t / 10)).filter isStep)).posAct c = _
  rw [hfirst]
  exact congrArg (fun u => State.posAct u c) (s.takeAhead_nil i)

/-! ### Counting -/

section
variable (s : State) (i t : Nat)

/-- The compare before its position and its trigger. -/
def State.cmpShown : State :=
  (((((s.event (Ev.pos i) 9).setReg (F.POS_CMP_LAST_TIME i).addr (tenNs t)).incF (F.POS_CMP_FIRE_CNT_COUNT i)).setFlag
    (F.POS_STATUS_CMP_BEHIND i) false).when (decide (0 < s.getF (F.POS_CMP_CFG_PULSE i)))
      (fun u => u.setPos i { u.pos i with cmpEnd := t + 10 * s.getF (F.POS_CMP_CFG_PULSE i) }))

theorem State.cmpFire_eq : s.cmpFire i t = (if s.flag (F.POS_CMP_CFG_AUTO i) then
    (s.cmpShown i t).setReg (F.POS_CMP_POS_POS i).addr (s.reg (F.POS_CMP_POS_POS i).addr + s.reg (F.POS_CMP_INCR_INCR i).addr)
    else (s.cmpShown i t).setFlag (F.POS_STATUS_CMP_ARMED i) false).adcTrigger (0x0A + i) := rfl

theorem State.getF_adcTrigger (code : Nat) (g : Fld) : (s.adcTrigger code).getF g = s.getF g := rfl

theorem State.cmpFire_touches : s.Touches (posRegs i [0x8, 0xC, 0x58, 0x60, 0x98]) (State.posView i) (s.cmpFire i t) := by
  have h (o : Nat) (ho : o ∈ [0x8, 0xC, 0x58, 0x60, 0x98]) : posRegs i [0x8, 0xC, 0x58, 0x60, 0x98] (posReg i o) :=
    posRegs_mem i o _ ho (by simp at ho; omega)
  have h1 : s.Touches (posRegs i [0x8, 0xC, 0x58, 0x60, 0x98]) (State.posView i) (s.cmpShown i t) :=
    (((((State.Touches.refl (State.blind_posView i) _ s).event (Ev.pos i) 9 (h 0xC (by decide))).setReg _ (tenNs t)
      (h 0x60 (by decide))).incF _ (h 0x98 (by decide))).setFlag _ false (h 0x8 (by decide))).when _ _
      fun u hu => hu.setPos i _ (u.posView_setPos i _ rfl)
  rw [s.cmpFire_eq]
  refine State.Touches.adcTrigger ?_ _
  split
  · exact h1.setReg _ _ (h 0x58 (by decide))
  · exact h1.setFlag _ _ (h 0x8 (by decide))

/-- The bits of STATUS that the compare leaves. -/
theorem State.getF_cmpFire (g : Fld) (hg : g.addr = posReg i 0x8) (h1 : (F.POS_STATUS_CMP_BEHIND i).apart g = true)
    (h2 : (F.POS_STATUS_CMP_ARMED i).apart g = true) : (s.cmpFire i t).getF g = s.getF g := by
  have hne (o : Nat) (ho : o ≠ 0x8) : posReg i o ≠ g.addr := by
    rw [hg]
    exact posReg_inj i o 0x8 ho
  have h0 : (s.cmpShown i t).getF g = s.getF g := by
    rw [State.cmpShown, State.getF_when _ _ _ _ (State.getF_setPos ..), State.getF_setFlag_apart _ _ _ _ rfl h1,
      State.getF_incF_apart _ _ _ rfl (posApart (o := 0x98) rfl hg (by decide))]
    exact (State.getF_congr (State.reg_setReg_other _ _ _ _ (hne 0x60 (by decide)))).trans (State.getF_event_other _ _ _ _ (hne 0xC (by decide)))
  rw [s.cmpFire_eq, State.getF_adcTrigger]
  split
  · exact (State.getF_congr (State.reg_setReg_other _ _ _ _ (hne 0x58 (by decide)))).trans h0
  · exact (State.getF_setFlag_apart _ _ _ _ rfl h2).trans h0

theorem State.setCount_touches (w : Word) : s.Touches (posRegs i [0x18, 0x4C]) (State.posView i) (s.setCount i t w) :=
  ((State.Touches.refl (State.blind_posView i) (posRegs i [0x18, 0x4C]) s).setReg _ w (posRegs_mem i 0x18 _ (by decide) (by decide))).when _ _
    fun _ hu => hu.setReg _ _ (posRegs_mem i 0x4C _ (by decide) (by decide))

theorem State.setCount_count (w : Word) : (s.setCount i t w).reg (posReg i 0x18) = w := by
  unfold State.setCount State.when
  split
  · exact (State.reg_setReg_other _ _ _ _ (posReg_inj i 0x4C 0x18 (by decide))).trans (State.reg_setReg_same _ _ _)
  · exact State.reg_setReg_same _ _ _

variable (new : Int) (up setsDir : Bool)

/-- A count step before its direction. -/
def State.countMove : State :=
  (((s.setCount i t (BitVec.ofInt 32 new)).setReg (F.POS_EDGE_TIME_TIME i).addr (tenNs t)).setReg
    (F.POS_EDGES_COUNT i).addr (s.reg (F.POS_EDGES_COUNT i).addr + 1)).setPos i { s.pos i with log := (tenNs t :: (s.pos i).log).take 8 }

/-- A count step before the compare. -/
def State.countTurn : State :=
  (((s.countMove i t new).setFlag (F.POS_STATUS_DIR i) up).when setsDir (fun s => s.setFlag (F.POS_STATUS_DIR_VALID i) true)).when
    (decide (s.flag (F.POS_STATUS_DIR i) ≠ up)) (fun s => (s.event (Ev.pos i) 0).incF (F.POS_DIR_CNT_COUNT i))

theorem State.countStep_eq : s.countStep i t new up setsDir = (s.countTurn i t new up setsDir).when
    (s.flag (F.POS_STATUS_CMP_ARMED i) && cmpHit (s.count i) new (s.reg (F.POS_CMP_POS_POS i).addr)) (fun s => s.cmpFire i t) := rfl

theorem State.countMove_touches : s.Touches (posRegs i [0x18, 0x1C, 0x20, 0x4C]) (State.posView i) (s.countMove i t new) := by
  have h1 : s.Touches (posRegs i [0x18, 0x1C, 0x20, 0x4C]) (State.posView i) (s.setCount i t (BitVec.ofInt 32 new)) :=
    (s.setCount_touches i t _).mono (posRegs_mono (by decide))
  refine ((h1.setReg _ (tenNs t) (posRegs_mem i 0x1C _ (by decide) (by decide))).setReg _ _ (posRegs_mem i 0x20 _ (by decide) (by decide))).setPos i _ ?_
  exact State.posView_setPos _ i _ (congrArg (fun p : Sys × Nat × Pos => p.2.2) h1.same.symm)

theorem State.countMove_shows : (s.countMove i t new).reg (posReg i 0x18) = BitVec.ofInt 32 new ∧
    (s.countMove i t new).reg (posReg i 0x1C) = tenNs t ∧ (s.countMove i t new).reg (posReg i 0x20) = s.reg (posReg i 0x20) + 1 := by
  refine ⟨?_, ?_, State.reg_setReg_same _ _ _⟩
  · refine (State.reg_setReg_other _ _ _ _ (posReg_inj i 0x20 0x18 (by decide))).trans ?_
    exact (State.reg_setReg_other _ _ _ _ (posReg_inj i 0x1C 0x18 (by decide))).trans (s.setCount_count i t _)
  · exact (State.reg_setReg_other _ _ _ _ (posReg_inj i 0x20 0x1C (by decide))).trans (State.reg_setReg_same _ _ _)

/-- The registers of a count step. -/
abbrev stepOffs : List Nat := [0x8, 0xC, 0x18, 0x1C, 0x20, 0x4C, 0x58, 0x60, 0x68, 0x98]

theorem State.countTurn_touches : s.Touches (posRegs i [0x8, 0xC, 0x18, 0x1C, 0x20, 0x4C, 0x68]) (State.posView i) (s.countTurn i t new up setsDir) := by
  have h1 : s.Touches (posRegs i [0x8, 0xC, 0x18, 0x1C, 0x20, 0x4C, 0x68]) (State.posView i) (s.countMove i t new) :=
    (s.countMove_touches i t new).mono (posRegs_mono (by decide))
  have h (o : Nat) (ho : o ∈ [0x8, 0xC, 0x68]) : posRegs i [0x8, 0xC, 0x18, 0x1C, 0x20, 0x4C, 0x68] (posReg i o) := by
    refine posRegs_mem i o _ ?_ (by simp at ho; omega)
    simp only [List.mem_cons, List.not_mem_nil, or_false] at ho ⊢
    omega
  exact ((h1.setFlag _ _ (h 0x8 (by decide))).when _ _ fun _ hu => hu.setFlag _ _ (h 0x8 (by decide))).when _ _
    fun _ hu => (hu.event _ _ (h 0xC (by decide))).incF _ (h 0x68 (by decide))

theorem State.countStep_touches : s.Touches (posRegs i stepOffs) (State.posView i) (s.countStep i t new up setsDir) := by
  rw [s.countStep_eq]
  exact ((s.countTurn_touches i t new up setsDir).mono (posRegs_mono (by decide))).when _ _
    fun u hu => hu.trans ((u.cmpFire_touches i t).mono (posRegs_mono (by decide)))

theorem State.countStep_shows : (s.countStep i t new up setsDir).reg (posReg i 0x18) = BitVec.ofInt 32 new ∧
    (s.countStep i t new up setsDir).reg (posReg i 0x1C) = tenNs t ∧
    (s.countStep i t new up setsDir).reg (posReg i 0x20) = s.reg (posReg i 0x20) + 1 := by
  obtain ⟨h1, h2, h3⟩ := s.countMove_shows i t new
  have hk (o : Nat) (h : o ∉ [0x8, 0xC, 0x58, 0x60, 0x68, 0x98]) :
      (s.countStep i t new up setsDir).reg (posReg i o) = (s.countMove i t new).reg (posReg i o) := by
    have hk1 : (s.countMove i t new).Touches (posRegs i [0x8, 0xC, 0x58, 0x60, 0x68, 0x98]) (State.posView i)
        (s.countTurn i t new up setsDir) := by
      have h (o : Nat) (ho : o ∈ [0x8, 0xC, 0x58, 0x60, 0x68, 0x98]) : posRegs i [0x8, 0xC, 0x58, 0x60, 0x68, 0x98] (posReg i o) :=
        posRegs_mem i o _ ho (by simp at ho; omega)
      exact (((State.Touches.refl (State.blind_posView i) _ _).setFlag _ _ (h 0x8 (by decide))).when _ _
        fun _ hu => hu.setFlag _ _ (h 0x8 (by decide))).when _ _ fun _ hu => (hu.event _ _ (h 0xC (by decide))).incF _ (h 0x68 (by decide))
    rw [s.countStep_eq]
    exact (hk1.when _ _ fun u hu => hu.trans ((u.cmpFire_touches i t).mono (posRegs_mono (by decide)))).regs _ (not_posRegs h)
  exact ⟨(hk _ (by decide)).trans h1, (hk _ (by decide)).trans h2, (hk _ (by decide)).trans h3⟩

/-- The bits of STATUS that a count step leaves once its direction shows. -/
theorem State.getF_countStep_turn (g : Fld) (hg : g.addr = posReg i 0x8) (h1 : (F.POS_STATUS_CMP_BEHIND i).apart g = true)
    (h2 : (F.POS_STATUS_CMP_ARMED i).apart g = true) : (s.countStep i t new up setsDir).getF g =
      (((s.countMove i t new).setFlag (F.POS_STATUS_DIR i) up).when setsDir (fun s => s.setFlag (F.POS_STATUS_DIR_VALID i) true)).getF g := by
  rw [s.countStep_eq, State.getF_when _ _ _ _ (State.getF_cmpFire _ i t g hg h1 h2), State.countTurn, State.getF_when]
  rw [State.getF_incF_apart _ _ _ rfl (posApart (o := 0x68) rfl hg (by decide)), State.getF_event_other _ _ _ _ (by rw [hg]; exact posReg_inj i 0xC 0x8 (by decide))]

theorem State.countStep_dir : (s.countStep i t new up setsDir).flag (F.POS_STATUS_DIR i) = up ∧
    (s.countStep i t new up setsDir).flag (F.POS_STATUS_DIR_VALID i) = (s.flag (F.POS_STATUS_DIR_VALID i) || setsDir) := by
  have hm : (s.countMove i t new).flag (F.POS_STATUS_DIR_VALID i) = s.flag (F.POS_STATUS_DIR_VALID i) :=
    (s.countMove_touches i t new).flag _ (not_posRegs (o := 0x8) (by decide))
  constructor
  · rw [State.flag_congr (s.getF_countStep_turn i t new up setsDir (F.POS_STATUS_DIR i) rfl
      (by simp [Fld.apart_iff, F.POS_STATUS_CMP_BEHIND, F.POS_STATUS_DIR]) (by simp [Fld.apart_iff, F.POS_STATUS_CMP_ARMED, F.POS_STATUS_DIR])),
      State.flag_congr (State.getF_when _ _ _ _ (State.getF_setFlag_apart _ _ _ _ rfl
        (by simp [Fld.apart_iff, F.POS_STATUS_DIR_VALID, F.POS_STATUS_DIR]))), State.flag_setFlag_same _ _ _ rfl]
  · rw [State.flag_congr (s.getF_countStep_turn i t new up setsDir (F.POS_STATUS_DIR_VALID i) rfl
      (by simp [Fld.apart_iff, F.POS_STATUS_CMP_BEHIND, F.POS_STATUS_DIR_VALID])
      (by simp [Fld.apart_iff, F.POS_STATUS_CMP_ARMED, F.POS_STATUS_DIR_VALID]))]
    cases setsDir
    · rw [Bool.or_false]
      exact (State.flag_setFlag_apart _ _ _ _ rfl (by simp [Fld.apart_iff, F.POS_STATUS_DIR_VALID, F.POS_STATUS_DIR])).trans hm
    · rw [Bool.or_true]
      exact State.flag_setFlag_same _ _ _ rfl

/-- The bits of STATUS that a count step leaves. -/
theorem State.flag_countStep (g : Fld) (hg : g.addr = posReg i 0x8) (h1 : (F.POS_STATUS_CMP_BEHIND i).apart g = true)
    (h2 : (F.POS_STATUS_CMP_ARMED i).apart g = true) (h3 : (F.POS_STATUS_DIR i).apart g = true) (h4 : (F.POS_STATUS_DIR_VALID i).apart g = true) :
    (s.countStep i t new up setsDir).flag g = s.flag g := by
  rw [State.flag_congr (s.getF_countStep_turn i t new up setsDir g hg h1 h2),
    State.flag_congr (State.getF_when _ _ _ _ (State.getF_setFlag_apart _ _ _ _ rfl h4)), State.flag_setFlag_apart _ _ _ _ rfl h3]
  exact (s.countMove_touches i t new).flag _ (by rw [hg]; exact not_posRegs (o := 0x8) (by decide))

end

end Sys2Proof.Machine
end

section
/-!
# Serial words of the position interfaces (O31)
-/
namespace Sys2Proof.Machine

open Sys2Proof

theorem crc6_lt (bits : List Bool) : crc6 bits < 64 := by
  have h (l : List Bool) : ∀ r, r < 64 → l.foldl (fun r b => if (decide (32 ≤ r)) != b then (r * 2 % 64) ^^^ 3 else r * 2 % 64) r < 64 := by
    induction l with
    | nil => exact fun r hr => hr
    | cons b l ih =>
      intro r hr
      refine ih _ ?_
      dsimp only
      split
      · exact Nat.xor_lt_two_pow (n := 6) (Nat.mod_lt _ (by decide)) (by decide)
      · exact Nat.mod_lt _ (by decide)
  exact Nat.xor_lt_two_pow (n := 6) (h bits 0 (by decide)) (by decide)

/-! ### What counting a transient or a lasting mismatch leaves -/

/-- The registers that count mismatches. -/
abbrev mismatchRegs (a : Nat) : Prop := a = F.FLT_LASTING_CNT_COUNT.addr ∨ a = F.FLT_TRANSIENT_CNT_COUNT.addr ∨ a = Ev.flt.ev.addr

/-- A register of the collector's counts is none of a source. -/
theorem not_mismatchRegs (n : Nat) : ¬mismatchRegs (F.FLT_SRC_REACTION n).addr := by
  simp only [mismatchRegs, F.FLT_SRC_REACTION, F.FLT_LASTING_CNT_COUNT, F.FLT_TRANSIENT_CNT_COUNT, Ev.flt, F.FLT_EVENT_SEEN]
  omega

section
variable {α : Type} {π : State → α} {P : Nat → Prop} {r s : State} (hs : r.Touches P π s) (hP : ∀ a, mismatchRegs a → P a)
include hs hP

theorem State.Touches.lasting : r.Touches P π s.lasting := (hs.incF _ (hP _ (.inl rfl))).event _ _ (hP _ (.inr (.inr rfl)))

theorem State.Touches.transient : r.Touches P π s.transient := hs.incF _ (hP _ (.inr (.inl rfl)))

end

theorem State.lasting_asserted (s : State) (n : Nat) : s.lasting.asserted n = s.asserted n :=
  State.asserted_of_asserting (State.asserting_congr ((State.event_flt ..).trans (State.incF_flt ..))) n

section
variable (s : State) (i t : Nat)

/-! ### The data pin -/

/-- An interface but for what its pins show. -/
def State.serView (i : Nat) (s : State) : Sys × Nat × Pos :=
  (s.sys, s.poss.length, { s.pos i with log := [], cmpEnd := 0, since := [], ptPins := none })

theorem State.blind_serView (i : Nat) : State.Blind (State.serView i) := by
  rintro bs s _ ⟨-, r, f, j, g, m, rfl⟩
  rfl

theorem State.serView_of_posView {s t : State} {i : Nat} (h : t.posView i = s.posView i) : t.serView i = s.serView i :=
  congrArg (fun v : Sys × Nat × Pos => (v.1, v.2.1, { v.2.2 with since := [], ptPins := none })) h

theorem State.serView_setPos (p : Pos) (hi : i < s.poss.length) :
    (s.setPos i p).serView i = (s.sys, s.poss.length, { p with log := [], cmpEnd := 0, since := [], ptPins := none }) := by
  have hl : (s.setPos i p).poss.length = s.poss.length := List.length_set
  unfold State.serView
  rw [s.pos_setPos i p hi, hl]
  rfl

/-- What one of the pins shows is no part of it. -/
theorem State.serView_pins (p : Pos) (hi : i < s.poss.length) (h : ({ p with log := [], cmpEnd := 0, since := [], ptPins := none } : Pos) =
    { s.pos i with log := [], cmpEnd := 0, since := [], ptPins := none }) : (s.setPos i p).serView i = s.serView i := by
  rw [s.serView_setPos i p hi, h]
  rfl

variable (v held : Nat)

/-- When A, B and I were first sampled, with new levels. -/
def State.rawSince : List Nat := (List.range 3).map (fun k =>
  if bit v k = bit (s.getF (F.POS_LEVELS_RAW i)) k then (s.pos i).since.getD k 0 else t - 10 * (held - 1))

theorem State.setRaw_eq : s.setRaw i t v held =
    ((s.setF (F.POS_LEVELS_RAW i) v).setPos i { s.pos i with since := s.rawSince i t v held }).when (s.pos i).ptPins.isSome
      (fun s => s.setPos i { s.pos i with ptPins := some v }) := rfl

theorem State.setRaw_touches (hi : i < s.poss.length) : s.Touches (posRegs i [0x14]) (State.serView i) (s.setRaw i t v held) := by
  have h1 : s.Touches (posRegs i [0x14]) (State.serView i) ((s.setF (F.POS_LEVELS_RAW i) v).setPos i
      { s.pos i with since := s.rawSince i t v held }) :=
    ((State.Touches.refl (State.blind_serView i) _ s).setF _ v (posRegs_mem i 0x14 _ (by decide) (by decide))).setPos i _
      (State.serView_pins _ i _ hi rfl)
  rw [s.setRaw_eq]
  refine h1.when _ _ fun u hu => hu.setPos i _ (State.serView_pins _ i _ ?_ rfl)
  have : u.poss.length = s.poss.length := congrArg (fun w : Sys × Nat × Pos => w.2.1) hu.same
  omega

theorem State.setRaw_levels : (s.setRaw i t v held).getF (F.POS_LEVELS_RAW i) = v % 8 ∧
    (s.setRaw i t v held).getF (F.POS_LEVELS_FILTERED i) = s.getF (F.POS_LEVELS_FILTERED i) := by
  rw [s.setRaw_eq, State.getF_when _ _ _ _ (State.getF_setPos ..), State.getF_when _ _ _ _ (State.getF_setPos ..), State.getF_setPos,
    State.getF_setPos]
  exact ⟨State.getF_setF_same _ _ _ rfl, State.getF_setF_apart _ _ _ _ rfl (by simp [Fld.apart_iff, F.POS_LEVELS_RAW, F.POS_LEVELS_FILTERED])⟩

theorem State.dataPin_touches (b : Bool) (hi : i < s.poss.length) : s.Touches (posRegs i [0x14]) (State.serView i) (s.dataPin i t b) :=
  s.setRaw_touches i t _ _ hi

/-! ### Starts -/

/-- An interface whose read starts. -/
def Pos.starting (p : Pos) (t : Nat) : Pos := { p with run := true, latch := t, retry := p.pend, pend := false, due := false, ended := false, failed := false }

theorem State.serialStart_shows (hi : i < s.poss.length) (hp : s.posIn i [4] = true) (hr : (s.pos i).run = false) :
    (s.serialStart i t).getF (F.POS_LEVELS_RAW i) % 2 = 1 ∧
    (s.serialStart i t).serView i = (s.setPos i ((s.pos i).starting t)).serView i ∧
    s.OnlyRegs [(F.POS_LEVELS_RAW i).addr] (s.serialStart i t) ∧ s.SameStores (s.serialStart i t) := by
  have he : s.serialStart i t = (s.setPos i ((s.pos i).starting t)).dataPin i t true := if_pos (by simp [hp, hr])
  have ht := (s.setPos i ((s.pos i).starting t)).dataPin_touches i t true (by show i < (s.poss.set _ _).length; rwa [List.length_set])
  rw [he]
  refine ⟨?_, ht.same, fun a ha => ht.regs a ?_, ht.stores⟩
  · rw [State.dataPin, (State.setRaw_levels _ i t _ _).1]
    simp only [b2n, if_true]
    omega
  · rintro ⟨o, ho, -, rfl⟩
    exact ha (by rw [List.mem_singleton.1 ho]; exact List.mem_singleton.2 rfl)

/-! ### Words -/

/-- An interface whose word has ended. -/
def Pos.wordEnded (p : Pos) : Pos := { p with run := false, ended := true, again := p.retry, got := true }

/-- A word as sampled, with its result. -/
def State.wordShown (err : Bool) (crc res : Nat) : State :=
  let u := (((s.dataPin i t (bit crc 0)).setF (F.POS_SER_STAT_CRC_RX i) crc).setFlag (F.POS_SER_STAT_ERR_BIT i) err).setF (F.POS_SER_STAT_RESULT i) res
  u.setPos i { u.pos i with run := false, ended := true, again := (s.pos i).retry, got := true }

theorem State.wordShown_shows (err : Bool) (crc res : Nat) (hi : i < s.poss.length) :
    s.Touches (posRegs i [0x14, 0x44]) State.sys (s.wordShown i t err crc res) ∧
    (s.wordShown i t err crc res).getF (F.POS_SER_STAT_RESULT i) = res % 16 ∧
    (s.wordShown i t err crc res).serView i = (s.setPos i (s.pos i).wordEnded).serView i := by
  have hd := s.dataPin_touches i t (bit crc 0) hi
  generalize hu : (((s.dataPin i t (bit crc 0)).setF (F.POS_SER_STAT_CRC_RX i) crc).setFlag (F.POS_SER_STAT_ERR_BIT i) err).setF
    (F.POS_SER_STAT_RESULT i) res = u
  have h1 : s.Touches (posRegs i [0x14, 0x44]) (State.serView i) u := by
    have h (o : Nat) (ho : o ∈ [0x14, 0x44]) : posRegs i [0x14, 0x44] (posReg i o) := posRegs_mem i o _ ho (by simp at ho; omega)
    rw [← hu]
    exact (((hd.mono (posRegs_mono (by decide))).setF _ _ (h 0x44 (by decide))).setFlag _ _ (h 0x44 (by decide))).setF _ _ (h 0x44 (by decide))
  have he : s.wordShown i t err crc res = u.setPos i { u.pos i with run := false, ended := true, again := (s.pos i).retry, got := true } := by
    rw [← hu]
    rfl
  have hres : u.getF (F.POS_SER_STAT_RESULT i) = res % 16 := by
    rw [← hu, State.getF_setF_same _ _ _ rfl]
    rfl
  have hview := h1.same
  have hlen : u.poss.length = s.poss.length := congrArg (fun w : Sys × Nat × Pos => w.2.1) hview
  rw [he]
  refine ⟨⟨State.blind_sys, h1.regs, h1.stores, congrArg Prod.fst hview⟩, (State.getF_setPos ..).trans hres, ?_⟩
  rw [State.serView_setPos _ i _ (by omega), State.serView_setPos _ i _ hi]
  exact congrArg (fun w : Sys × Nat × Pos =>
    (w.1, w.2.1, { w.2.2 with run := false, ended := true, again := (s.pos i).retry, got := true })) hview

theorem State.setPos_flt (p : Pos) : (s.setPos i p).flt = s.flt := rfl

theorem State.wordShown_flt (err : Bool) (crc res : Nat) : (s.wordShown i t err crc res).flt = s.flt := by
  have hd : (s.dataPin i t (bit crc 0)).flt = s.flt := by
    rw [State.dataPin, s.setRaw_eq, State.when_flt, State.setPos_flt, State.setPos_flt, ite_self]
    rfl
  rw [State.wordShown]
  dsimp only
  rw [State.setPos_flt, State.setF_flt, State.setFlag_flt, State.setF_flt, hd]

/-- What a word comes to by its result. -/
def State.wordJudged (err : Bool) (data crc res : Nat) : State :=
  match res with
  | 0 => (s.wordShown i t err crc res).serialGood i t (data % 2 ^ s.getF (F.POS_SER_CFG_DATA_BITS i))
  | 1 => ((s.wordShown i t err crc res).incF (F.POS_SER_TIMEOUT_CNT_COUNT i)).serialFail i (s.pos i).retry
  | 2 => ((s.wordShown i t err crc res).incF (F.POS_SER_CRC_CNT_COUNT i)).serialFail i (s.pos i).retry
  | _ => ((s.wordShown i t err crc res).incF (F.POS_SER_ERRBIT_CNT_COUNT i)).serialFail i (s.pos i).retry

/-- The result of a word as sampled. -/
def State.wordResult (start err : Bool) (data crc : Nat) : Nat :=
  if start then 1
  else if crc % 64 ≠ crc6 (bitsOf (s.getF (F.POS_SER_CFG_DATA_BITS i)) (data % 2 ^ s.getF (F.POS_SER_CFG_DATA_BITS i)) ++ [err]) then 2
  else if err then 3 else 0

theorem State.serialWord_eq (start err : Bool) (data crc : Nat) (hp : s.posIn i [4] = true) (hr : (s.pos i).run = true) :
    s.serialWord i t start data err crc = s.wordJudged i t err data crc (s.wordResult i start err data crc) := if_pos (by simp [hp, hr])

theorem State.wordResult_good (data crc : Nat) (hd : data < 2 ^ s.getF (F.POS_SER_CFG_DATA_BITS i))
    (hc : crc = crc6 (bitsOf (s.getF (F.POS_SER_CFG_DATA_BITS i)) data ++ [false])) : s.wordResult i false false data crc = 0 := by
  unfold State.wordResult
  rw [Nat.mod_eq_of_lt hd, ← hc, Nat.mod_eq_of_lt (hc ▸ crc6_lt _)]
  simp

end

/-! ### Good words -/

section
variable (u : State) (i t data : Nat)

/-- The difference of a word to the latest one. -/
def State.wordDiff : Int :=
  toInt (u.getF (F.POS_SER_CFG_DATA_BITS i)) ((data + 2 ^ u.getF (F.POS_SER_CFG_DATA_BITS i) - u.getF (F.POS_SER_DATA_DATA i) %
    2 ^ u.getF (F.POS_SER_CFG_DATA_BITS i)) % 2 ^ u.getF (F.POS_SER_CFG_DATA_BITS i))

/-- A word in COUNT. -/
def State.wordCount : State :=
  if (u.pos i).word.isSome ∧ u.wordDiff i data ≠ 0 then
    u.countStep i t (BitVec.ofNat 32 data).toInt (decide (0 < u.wordDiff i data)) true
  else u.setCount i t (w32 data)

/-- A word in its registers. -/
def State.wordStored : State :=
  (((u.wordCount i t data).setReg (F.POS_SER_DATA_DATA i).addr (w32 data)).setFlag (F.POS_STATUS_SER_OK i) true).setFlag (F.POS_STATUS_SER_LASTING i) false

/-- An interface with a good word. -/
def State.wordKept : State := (u.wordStored i t data).setPos i
  { (u.wordStored i t data).pos i with word := some (u.pos i).latch, retry := false, pend := false, due := false, failed := false }

theorem State.serialGood_eq (h : (u.pos i).retry = false) : u.serialGood i t data = (u.wordKept i t data).clearLevel (Src.pos i 4) := by
  unfold State.serialGood
  dsimp only
  rw [h]
  rfl

theorem State.wordCount_shows : u.Touches (posRegs i stepOffs) (State.posView i) (u.wordCount i t data) ∧
    (u.wordCount i t data).reg (posReg i 0x18) = w32 data := by
  unfold State.wordCount
  split
  · refine ⟨u.countStep_touches i t _ _ _, (u.countStep_shows i t _ _ _).1.trans ?_⟩
    rw [BitVec.ofInt_toInt]
    rfl
  · exact ⟨(u.setCount_touches i t _).mono (posRegs_mono (by decide)), u.setCount_count i t _⟩

theorem State.wordKept_shows (hi : i < u.poss.length) :
    u.Touches (posRegs i (0x40 :: stepOffs)) State.sys (u.wordKept i t data) ∧
    (u.wordKept i t data).reg (posReg i 0x18) = w32 data ∧ (u.wordKept i t data).reg (posReg i 0x40) = w32 data ∧
    (u.wordKept i t data).flag (F.POS_STATUS_SER_OK i) = true ∧
    ((u.wordKept i t data).pos i).run = (u.pos i).run ∧ ((u.wordKept i t data).pos i).word = some (u.pos i).latch := by
  obtain ⟨ht, hc⟩ := u.wordCount_shows i t data
  generalize hw : u.wordCount i t data = w at *
  have hs : u.Touches (posRegs i (0x40 :: stepOffs)) (State.posView i) (u.wordStored i t data) := by
    unfold State.wordStored
    rw [hw]
    exact (((ht.mono (posRegs_mono (by decide))).setReg _ _ (posRegs_mem i 0x40 _ (by decide) (by decide))).setFlag _ _
      (posRegs_mem i 0x8 _ (by decide) (by decide))).setFlag _ _ (posRegs_mem i 0x8 _ (by decide) (by decide))
  have hreg (o : Nat) (ho : o ≠ 0x8) : (u.wordStored i t data).reg (posReg i o) = (w.setReg (F.POS_SER_DATA_DATA i).addr (w32 data)).reg (posReg i o) := by
    unfold State.wordStored
    rw [hw]
    exact (State.reg_setF_other _ _ _ _ (posReg_inj i 0x8 o ho.symm)).trans (State.reg_setF_other _ _ _ _ (posReg_inj i 0x8 o ho.symm))
  have hok : (u.wordStored i t data).flag (F.POS_STATUS_SER_OK i) = true := by
    unfold State.wordStored
    rw [State.flag_setFlag_apart _ _ _ _ rfl (by simp [Fld.apart_iff, F.POS_STATUS_SER_LASTING, F.POS_STATUS_SER_OK]), State.flag_setFlag_same _ _ _ rfl]
  have hlen : (u.wordStored i t data).poss.length = u.poss.length := congrArg (fun w : Sys × Nat × Pos => w.2.1) hs.same
  have hpos := (u.wordStored i t data).pos_setPos i { (u.wordStored i t data).pos i with
    word := some (u.pos i).latch, retry := false, pend := false, due := false, failed := false } (by omega)
  have hrun : ((u.wordStored i t data).pos i).run = (u.pos i).run := congrArg (fun w : Sys × Nat × Pos => w.2.2.run) hs.same
  unfold State.wordKept
  generalize u.wordStored i t data = x at *
  refine ⟨⟨State.blind_sys, hs.regs, hs.stores, congrArg Prod.fst hs.same⟩, ?_, ?_, hok, (congrArg Pos.run hpos).trans hrun, congrArg Pos.word hpos⟩
  · exact (hreg 0x18 (by decide)).trans ((State.reg_setReg_other _ _ _ _ (posReg_inj i 0x40 0x18 (by decide))).trans hc)
  · exact (hreg 0x40 (by decide)).trans (State.reg_setReg_same _ _ _)

end

/-! ### Failures -/

section
variable (u : State) (i : Nat)

/-- An interface whose read has failed, with its retry due or not. -/
def Pos.failing (p : Pos) (r : Bool) : Pos := { p with failed := true, pend := r, due := r }

/-- An interface whose retry has failed. -/
def Pos.failedAgain (p : Pos) : Pos := { p with failed := true, retry := false, pend := false, due := false }

theorem State.serialFail_first : u.serialFail i false =
    (u.setFlag (F.POS_STATUS_SER_OK i) false).setPos i ((u.pos i).failing (u.flag (F.POS_SER_CFG_RETRY i))) := rfl

/-- A lasting failure before its level. -/
def State.serialLasting : State :=
  (((((u.setFlag (F.POS_STATUS_SER_OK i) false).setPos i (u.pos i).failedAgain).setFlag (F.POS_STATUS_SER_LASTING i) true).incF
    (F.POS_SER_LASTING_CNT_COUNT i)).event (Ev.pos i) 6).lasting

theorem State.serialFail_again : u.serialFail i true = (u.serialLasting i).raiseLevel (Src.pos i 4) := rfl

theorem State.serialFail_shows (hi : i < u.poss.length) : u.Touches (posRegs i [0x8]) State.sys (u.serialFail i false) ∧
    (u.serialFail i false).flag (F.POS_STATUS_SER_OK i) = false ∧
    (u.serialFail i false).pos i = (u.pos i).failing (u.flag (F.POS_SER_CFG_RETRY i)) := by
  rw [u.serialFail_first]
  refine ⟨?_, ?_, (u.setFlag (F.POS_STATUS_SER_OK i) false).pos_setPos i _ hi⟩
  · exact ((State.Touches.refl State.blind_sys _ u).setFlag _ false (posRegs_mem i 0x8 _ (by decide) (by decide))).setPos i _ rfl
  · exact (State.flag_congr (State.getF_setPos ..)).trans (State.flag_setFlag_same _ _ _ rfl)

theorem State.serialLasting_shows :
    u.Touches (fun a => posRegs i [0x8, 0xC, 0x8C] a ∨ mismatchRegs a) State.sys (u.serialLasting i) ∧
    (u.serialLasting i).flag (F.POS_STATUS_SER_LASTING i) = true ∧ (∀ n, (u.serialLasting i).asserted n = u.asserted n) := by
  have h (o : Nat) (ho : o ∈ [0x8, 0xC, 0x8C]) : posRegs i [0x8, 0xC, 0x8C] (posReg i o) := posRegs_mem i o _ ho (by simp at ho; omega)
  have h1 : u.Touches (fun a => posRegs i [0x8, 0xC, 0x8C] a ∨ mismatchRegs a) State.sys
      ((u.setFlag (F.POS_STATUS_SER_OK i) false).setPos i (u.pos i).failedAgain) :=
    ((State.Touches.refl State.blind_sys _ u).setFlag _ false (.inl (h 0x8 (by decide)))).setPos i _ rfl
  have hf : ((u.setFlag (F.POS_STATUS_SER_OK i) false).setPos i (u.pos i).failedAgain).flt = u.flt := rfl
  unfold State.serialLasting
  generalize (u.setFlag (F.POS_STATUS_SER_OK i) false).setPos i (u.pos i).failedAgain = w at *
  refine ⟨(((h1.setFlag _ true (.inl (h 0x8 (by decide)))).incF _ (.inl (h 0x8C (by decide)))).event _ _ (.inl (h 0xC (by decide)))).lasting fun _ => .inr,
    ?_, fun n => ?_⟩
  · have hl (x : State) : x.lasting.flag (F.POS_STATUS_SER_LASTING i) = x.flag (F.POS_STATUS_SER_LASTING i) := by
      refine ((State.Touches.refl State.blind_sys mismatchRegs x).lasting fun _ => id).flag _ ?_
      simp only [mismatchRegs, F.POS_STATUS_SER_LASTING, F.FLT_LASTING_CNT_COUNT, F.FLT_TRANSIENT_CNT_COUNT, Ev.flt, F.FLT_EVENT_SEEN]
      omega
    rw [hl, State.flag_event_other _ _ _ _ (posReg_inj i 0xC 0x8 (by decide)),
      State.flag_incF_apart _ _ _ rfl (posApart (i := i) (o := 0x8C) (p := 0x8) rfl rfl (by decide)), State.flag_setFlag_same _ _ _ rfl]
  · rw [State.lasting_asserted]
    refine State.asserted_of_asserting (State.asserting_congr ?_) n
    rw [State.event_flt, State.incF_flt, State.setFlag_flt, hf]

end

section
variable (s : State) (i t : Nat)

/-- A word with no start bit, before it fails. -/
def State.wordSilent (err : Bool) (crc : Nat) : State := (s.wordShown i t err crc 1).incF (F.POS_SER_TIMEOUT_CNT_COUNT i)

theorem State.wordSilent_shows (err : Bool) (crc : Nat) (hi : i < s.poss.length) :
    s.Touches (posRegs i [0x14, 0x44, 0x84]) State.sys (s.wordSilent i t err crc) ∧
    (s.wordSilent i t err crc).getF (F.POS_SER_STAT_RESULT i) = 1 ∧
    (s.wordSilent i t err crc).getF (F.POS_SER_TIMEOUT_CNT_COUNT i) = min (2 ^ 32 - 1) (s.getF (F.POS_SER_TIMEOUT_CNT_COUNT i) + 1) ∧
    i < (s.wordSilent i t err crc).poss.length ∧ (s.wordSilent i t err crc).flt = s.flt := by
  obtain ⟨h1, h2, h3⟩ := s.wordShown_shows i t err crc 1 hi
  have hlen : (s.wordShown i t err crc 1).poss.length = s.poss.length :=
    (congrArg (fun w : Sys × Nat × Pos => w.2.1) h3).trans List.length_set
  have hflt := s.wordShown_flt i t err crc 1
  unfold State.wordSilent
  generalize s.wordShown i t err crc 1 = w at *
  refine ⟨(h1.mono (posRegs_mono (by decide))).incF _ (posRegs_mem i 0x84 _ (by decide) (by decide)), ?_, ?_, ?_, hflt⟩
  · exact (State.getF_incF_apart _ _ _ rfl (posApart (i := i) (o := 0x84) (p := 0x44) rfl rfl (by decide))).trans h2
  · rw [State.getF_incF_same _ _ rfl, h1.getF _ (not_posRegs (o := 0x84) (by decide))]
    rfl
  · show i < w.poss.length
    omega

theorem State.serialWord_silent (err : Bool) (data crc : Nat) (hp : s.posIn i [4] = true) (hrun : (s.pos i).run = true) :
    s.serialWord i t true data err crc = (s.wordSilent i t err crc).serialFail i (s.pos i).retry :=
  s.serialWord_eq i t true err data crc hp hrun

/-- An interface whose data did not return in time. -/
def State.timedOut : State :=
  ((s.setPos i { s.pos i with ended := false }).setF (F.POS_SER_STAT_RESULT i) 4).incF (F.POS_SER_TIMEOUT_CNT_COUNT i)

variable (hi : i < 4) (hl : s.poss.length = 4)
include hi hl

theorem State.serialWord_good (data crc : Nat) (hp : s.posIn i [4] = true) (hrun : (s.pos i).run = true) (hretry : (s.pos i).retry = false)
    (hd : data < 2 ^ s.getF (F.POS_SER_CFG_DATA_BITS i)) (hc : crc = crc6 (bitsOf (s.getF (F.POS_SER_CFG_DATA_BITS i)) data ++ [false])) :
    ((s.serialWord i t false data false crc).pos i).run = false ∧
    (s.serialWord i t false data false crc).reg (posReg i 0x40) = w32 data ∧ (s.serialWord i t false data false crc).reg (posReg i 0x18) = w32 data ∧
    (s.serialWord i t false data false crc).flag (F.POS_STATUS_SER_OK i) = true ∧
    (s.serialWord i t false data false crc).getF (F.POS_SER_STAT_RESULT i) = 0 ∧
    ((s.serialWord i t false data false crc).pos i).word = some (s.pos i).latch ∧ s.Within [0x4003, 0x4009] (s.serialWord i t false data false crc) := by
  obtain ⟨h1, h2, h3⟩ := s.wordShown_shows i t false crc 0 (by omega)
  have hpos : s.serialWord i t false data false crc = (s.wordShown i t false crc 0).serialGood i t data := by
    rw [s.serialWord_eq i t false false data crc hp hrun, s.wordResult_good i data crc hd hc]
    show (s.wordShown i t false crc 0).serialGood i t (data % 2 ^ s.getF (F.POS_SER_CFG_DATA_BITS i)) = _
    rw [Nat.mod_eq_of_lt hd]
  have hview := h3.trans (s.serView_setPos i _ (by omega))
  generalize s.wordShown i t false crc 0 = u at *
  have hlen : u.poss.length = s.poss.length := congrArg (fun w : Sys × Nat × Pos => w.2.1) hview
  have hr : (u.pos i).run = false := congrArg (fun w : Sys × Nat × Pos => w.2.2.run) hview
  have hlatch : (u.pos i).latch = (s.pos i).latch := congrArg (fun w : Sys × Nat × Pos => w.2.2.latch) hview
  rw [hpos, u.serialGood_eq i t data ((congrArg (fun w : Sys × Nat × Pos => w.2.2.retry) hview).trans hretry)]
  obtain ⟨k1, k2, k3, k4, k5, k6⟩ := u.wordKept_shows i t data (by omega)
  have hsrc : Src.pos i 4 < 256 := by
    unfold Src.pos
    omega
  have hc := State.confined_clearLevel (u.wordKept i t data) _ hsrc
  have hposs : ((u.wordKept i t data).clearLevel (Src.pos i 4)).posView i = (u.wordKept i t data).posView i := State.blind_posView i _ _ _ hc
  have hb (o : Nat) (ho : o < 0x1000) : posReg i o / 0x10000 ∉ [0x4003] := by
    rw [posReg_block i o hi ho]
    decide
  refine ⟨(congrArg (fun w : Sys × Nat × Pos => w.2.2.run) hposs).trans (k5.trans hr), (hc.within.1 _ (hb _ (by decide))).trans k3,
    (hc.within.1 _ (hb _ (by decide))).trans k2, (hc.within.flag _ (hb 0x8 (by decide))).trans k4,
    (hc.within.getF _ (hb 0x44 (by decide))).trans ((k1.getF _ (not_posRegs (o := 0x44) (by decide))).trans h2),
    (congrArg (fun w : Sys × Nat × Pos => w.2.2.word) hposs).trans (k6.trans (congrArg some hlatch)), ?_⟩
  exact (((h1.mono (posRegs_block _ hi)).within.trans (k1.mono (posRegs_block _ hi)).within).mono (by decide)).trans (hc.within.mono (by decide))

theorem State.serialWord_silent_first (err : Bool) (data crc : Nat) (hp : s.posIn i [4] = true) (hrun : (s.pos i).run = true)
    (hretry : (s.pos i).retry = false) :
    (s.serialWord i t true data err crc).flag (F.POS_STATUS_SER_OK i) = false ∧
    (s.serialWord i t true data err crc).getF (F.POS_SER_STAT_RESULT i) = 1 ∧
    ((s.serialWord i t true data err crc).pos i).pend = s.flag (F.POS_SER_CFG_RETRY i) ∧
    (s.serialWord i t true data err crc).getF (F.POS_SER_TIMEOUT_CNT_COUNT i) = min (2 ^ 32 - 1) (s.getF (F.POS_SER_TIMEOUT_CNT_COUNT i) + 1) ∧
    s.Within [0x4003, 0x4009] (s.serialWord i t true data err crc) := by
  rw [s.serialWord_silent i t err data crc hp hrun, hretry]
  obtain ⟨h1, h2, h3, h4, -⟩ := s.wordSilent_shows i t err crc (by omega)
  obtain ⟨k1, k2, k3⟩ := (s.wordSilent i t err crc).serialFail_shows i h4
  refine ⟨k2, (k1.getF _ (not_posRegs (o := 0x44) (by decide))).trans h2, ?_, (k1.getF _ (not_posRegs (o := 0x84) (by decide))).trans h3, ?_⟩
  · exact (congrArg Pos.pend k3).trans (h1.flag _ (not_posRegs (o := 0x38) (by decide)))
  · exact ((h1.mono (posRegs_block _ hi)).within.trans (k1.mono (posRegs_block _ hi)).within).mono (by decide)

theorem State.serialWord_silent_again (err : Bool) (data crc : Nat) (hp : s.posIn i [4] = true) (hrun : (s.pos i).run = true)
    (hretry : (s.pos i).retry = true) (hq : s.Quiet (0x36 + 5 * i)) (ha : s.asserted (0x36 + 5 * i) = false) :
    (s.serialWord i t true data err crc).flag (F.POS_STATUS_SER_LASTING i) = true ∧
    (s.serialWord i t true data err crc).sticky (0x36 + 5 * i) = true ∧
    0x36 + 5 * i ∈ (s.serialWord i t true data err crc).flt.level ∧
    s.Within (0x4009 :: raiseBlocks) (s.serialWord i t true data err crc) := by
  have hsrc : Src.pos i 4 = 0x36 + 5 * i := by
    unfold Src.pos
    omega
  rw [s.serialWord_silent i t err data crc hp hrun, hretry, State.serialFail_again, hsrc]
  obtain ⟨h1, -, -, -, h5⟩ := s.wordSilent_shows i t err crc (by omega)
  obtain ⟨k1, k2, k3⟩ := (s.wordSilent i t err crc).serialLasting_shows i
  generalize s.wordSilent i t err crc = u at *
  have ht : s.Touches (fun a => posRegs i [0x8, 0xC, 0x14, 0x44, 0x84, 0x8C] a ∨ mismatchRegs a) State.sys (u.serialLasting i) :=
    (h1.mono fun a h => .inl (posRegs_mono (by decide) a h)).trans (k1.mono fun a h => h.imp (posRegs_mono (by decide) a) id)
  have hblk (a : Nat) (h : posRegs i [0x8, 0xC, 0x14, 0x44, 0x84, 0x8C] a ∨ mismatchRegs a) : inBlocks (0x4009 :: raiseBlocks) a := by
    rcases h with h | h
    · exact List.mem_cons.2 (.inl (List.mem_singleton.1 (posRegs_block _ hi a h)))
    · rcases h with rfl | rfl | rfl <;> decide
  have hq' : (u.serialLasting i).Quiet (0x36 + 5 * i) := by
    refine ht.quiet (fun h => absurd (hblk _ h) (by decide)) (congrArg Sys.phase ht.same) (fun h => ?_) hq
    rcases h with ⟨o, -, ho, h⟩ | h
    · simp only [F.FLT_SRC_REACTION, posReg] at h
      omega
    · exact not_mismatchRegs _ h
  have ha' : (u.serialLasting i).asserted (0x36 + 5 * i) = false :=
    (k3 _).trans ((State.asserted_of_asserting (State.asserting_congr h5) _).trans ha)
  have hn : 0x36 + 5 * i < 256 := by omega
  refine ⟨?_, State.sticky_raiseLevel _ _ none hn hq' ha', (State.mem_raiseLevel_level _ _ _ hn hq').2 (.inl rfl), ?_⟩
  · refine ((State.confined_raiseLevel _ _ none hn hq').within.flag _ ?_).trans k2
    rw [show (F.POS_STATUS_SER_LASTING i).addr = posReg i 0x8 from rfl, posReg_block i _ hi (by decide)]
    decide
  · exact (ht.mono hblk).within.raiseLevel _ (fun b => List.mem_cons_of_mem _) hn hq'

theorem State.serialTimeout_shows (hp : s.posIn i [4] = true) (he : (s.pos i).ended = true) (hf : (s.pos i).failed = false)
    (ha : (s.pos i).again = false) :
    (s.serialTimeout i).flag (F.POS_STATUS_SER_OK i) = false ∧ (s.serialTimeout i).getF (F.POS_SER_STAT_RESULT i) = 4 ∧
    (s.serialTimeout i).getF (F.POS_SER_TIMEOUT_CNT_COUNT i) = min (2 ^ 32 - 1) (s.getF (F.POS_SER_TIMEOUT_CNT_COUNT i) + 1) ∧
    ((s.serialTimeout i).pos i).ended = false ∧ s.Within [0x4003, 0x4009] (s.serialTimeout i) := by
  have heq : s.serialTimeout i = (s.timedOut i).serialFail i (s.pos i).again :=
    (if_pos (by simp [hp, he])).trans (if_neg (by simp [hf]))
  rw [ha] at heq
  generalize hu : s.timedOut i = u at heq
  unfold State.timedOut at hu
  have h1 : s.Touches (posRegs i [0x44, 0x84]) State.sys u := by
    rw [← hu]
    exact (((State.Touches.refl State.blind_sys _ s).setPos i _ rfl).setF _ 4 (posRegs_mem i 0x44 _ (by decide) (by decide))).incF _
      (posRegs_mem i 0x84 _ (by decide) (by decide))
  have h2 : u.getF (F.POS_SER_STAT_RESULT i) = 4 := by
    rw [← hu, State.getF_incF_apart _ _ _ rfl (posApart (i := i) (o := 0x84) (p := 0x44) rfl rfl (by decide)), State.getF_setF_same _ _ _ rfl]
    rfl
  have h3 : u.getF (F.POS_SER_TIMEOUT_CNT_COUNT i) = min (2 ^ 32 - 1) (s.getF (F.POS_SER_TIMEOUT_CNT_COUNT i) + 1) := by
    rw [← hu, State.getF_incF_same _ _ rfl, State.getF_setF_apart _ _ _ _ rfl (posApart (i := i) (o := 0x44) (p := 0x84) rfl rfl (by decide)),
      State.getF_setPos]
    rfl
  have hposs : u.poss = (s.setPos i { s.pos i with ended := false }).poss := by
    rw [← hu, State.incF_poss, State.setF_poss]
  have hlen : u.poss.length = s.poss.length := by rw [hposs]; exact List.length_set
  have hend : (u.pos i).ended = false := by rw [State.pos_of_poss hposs, s.pos_setPos i _ (by omega)]
  obtain ⟨k1, k2, k3⟩ := u.serialFail_shows i (by omega)
  rw [heq]
  refine ⟨k2, (k1.getF _ (not_posRegs (o := 0x44) (by decide))).trans h2, (k1.getF _ (not_posRegs (o := 0x84) (by decide))).trans h3,
    (congrArg Pos.ended k3).trans hend, ?_⟩
  exact ((h1.mono (posRegs_block _ hi)).within.trans (k1.mono (posRegs_block _ hi)).within).mono (by decide)

end

/-- Settles O31, command by command. -/
theorem serialWords : Obligations.SerialWords := by
  intro s i t hr hi hl hact hm
  have hp : s.posIn i [4] = true := (s.posIn_iff i 4 hr hi hact hm [4]).trans rfl
  refine ⟨fun released hrun hrec hdue => ?_, fun released h => next_congr (if_neg ?_), fun released hrun hdue hpend hrec hlast => ?_,
    fun released h => next_congr (if_neg ?_), fun data crc hlate htaken hq hrun hretry hd hc => ?_,
    fun data err crc hlate htaken hq hrun hretry => ?_, fun data err crc hlate htaken hq hrun hretry hquiet hasrt => ?_,
    fun he hf ha => ?_, fun hpt => ?_⟩
  · obtain ⟨h1, h2, h3, h4⟩ := s.serialStart_shows i t (by omega) hp hrun
    have hv := h2.trans (s.serView_setPos i _ (by omega))
    refine ⟨_, next_congr (if_pos (by simp [State.readDue, State.recovered, hdue, hrec])), ?_, ?_, ?_, h1, h3, h4⟩
    · exact congrArg (fun w : Sys × Nat × Pos => w.2.2.run) hv
    · exact congrArg (fun w : Sys × Nat × Pos => w.2.2.latch) hv
    · exact congrArg (fun w : Sys × Nat × Pos => w.2.2.retry) hv
  · simp only [State.readDue, State.recovered, Bool.and_eq_true, decide_eq_true_eq]
    omega
  · obtain ⟨-, h2, h3, h4⟩ := s.serialStart_shows i t (by omega) hp hrun
    have hv := h2.trans (s.serView_setPos i _ (by omega))
    refine ⟨_, next_congr (if_pos (by simp [State.recovered, hdue, hrec, hlast])), ?_, ?_, ?_, h3, h4⟩
    · exact congrArg (fun w : Sys × Nat × Pos => w.2.2.run) hv
    · exact (congrArg (fun w : Sys × Nat × Pos => w.2.2.retry) hv).trans hpend
    · exact congrArg (fun w : Sys × Nat × Pos => w.2.2.due) hv
  · simp only [Bool.and_eq_true, decide_eq_true_eq]
    omega
  · obtain ⟨h1, h2, h3, h4, h5, h6, h7⟩ := s.serialWord_good i t hi hl data crc hp hrun hretry hd hc
    exact ⟨_, next_congr (s.posTake_eq i t _ hlate htaken (.inr hq)), h1, h2, h3, h4, h5, h6, h7⟩
  · obtain ⟨h1, h2, h3, h4, h5⟩ := s.serialWord_silent_first i t hi hl err data crc hp hrun hretry
    exact ⟨_, next_congr (s.posTake_eq i t _ hlate htaken (.inr hq)), h1, h2, h3, h4, h5⟩
  · obtain ⟨h1, h2, h3, h4⟩ := s.serialWord_silent_again i t hi hl err data crc hp hrun hretry hquiet hasrt
    exact ⟨_, next_congr (s.posTake_eq i t _ hlate htaken (.inr hq)), h1, h2, h3, h4⟩
  · obtain ⟨h1, h2, h3, h4, h5⟩ := s.serialTimeout_shows i hi hl hp he hf ha
    exact ⟨_, rfl, h1, h2, h3, h4, h5⟩
  · refine ⟨_, next_congr (if_pos (by simp [hp, hpt])), congrArg Pos.ptFrame (s.pos_setPos i _ (by omega)), rfl, rfl, rfl, rfl, rfl⟩

end Sys2Proof.Machine
end

section
/-!
# Count steps, index edges and probe edges (O30)
-/
namespace Sys2Proof.Machine

open Sys2Proof

section
variable (s : State) (i t : Nat)

/-! ### Accepted levels -/

theorem State.levels_lt : s.levels i < 8 := by
  have := State.getF_lt s (F.POS_LEVELS_FILTERED i)
  simp only [Fld.width, F.POS_LEVELS_FILTERED] at this
  unfold State.levels F.POS_LEVELS_FILTERED
  omega

theorem maskOf_three (v : Nat) (h : v < 8) : maskOf [bit v 0, bit v 1, bit v 2] = v := by
  interval_cases v <;> decide

theorem State.filterLevels_all (old v : Nat) (l : List Nat) (hv : v < 8) (h : ∀ k, k < 3 → s.accepts i k (l.getD k 0) = true) :
    s.filterLevels i old v l = v := by
  refine Eq.trans ?_ (maskOf_three v hv)
  refine congrArg maskOf ?_
  simp only [List.range_succ, List.range_zero, List.nil_append, List.cons_append, List.map_cons, List.map_nil]
  rw [if_pos (h 0 (by decide)), if_pos (h 1 (by decide)), if_pos (h 2 (by decide))]

theorem State.filterLevels_none (old v : Nat) (l : List Nat) (ho : old < 8) (h : ∀ k, k < 3 → s.accepts i k (l.getD k 0) = false) :
    s.filterLevels i old v l = old := by
  refine Eq.trans ?_ (maskOf_three old ho)
  refine congrArg maskOf ?_
  simp only [List.range_succ, List.range_zero, List.nil_append, List.cons_append, List.map_cons, List.map_nil]
  rw [if_neg (by rw [h 0 (by decide)]; decide), if_neg (by rw [h 1 (by decide)]; decide), if_neg (by rw [h 2 (by decide)]; decide)]

theorem State.setLevels_shows (v : Nat) (hv : v < 8) : s.Touches (posRegs i [0x14]) (State.posView i) (s.setLevels i v) ∧
    (s.setLevels i v).levels i = v ∧ (s.setLevels i v).getF (F.POS_LEVELS_RAW i) = s.getF (F.POS_LEVELS_RAW i) := by
  refine ⟨(State.Touches.refl (State.blind_posView i) _ s).setF _ _ (posRegs_mem i 0x14 _ (by decide) (by decide)), ?_,
    State.getF_setF_apart _ _ _ _ rfl (by simp [Fld.apart_iff, F.POS_LEVELS_RAW, F.POS_LEVELS_FILTERED])⟩
  unfold State.levels State.setLevels
  rw [State.getF_setF_same _ _ _ rfl]
  show (s.getF (F.POS_LEVELS_FILTERED i) % 2 + 2 * v) % 16 / 2 = v
  omega

/-! ### Index pulses -/

/-- An index pulse with no candidate on an interface that is not homed is held. -/
theorem State.indexEdge_held (hc : 0 < s.getF (F.POS_CPR_CPR i)) (hg : s.flag (F.POS_INDEX_CFG_GATE_EN i) = false)
    (hh : s.flag (F.POS_STATUS_HOMED i) = false) (hn : s.flag (F.POS_STATUS_CAND i) = false) :
    s.indexEdge i t = (s.setReg (F.POS_INDEX_LAST_COUNT i).addr (s.reg (F.POS_COUNT_COUNT i).addr)).holdCand i (s.reg (F.POS_COUNT_COUNT i).addr) := by
  refine (if_neg (by simp [hg]; omega)).trans ((if_neg (by simp [hh])).trans ((if_neg (by simp [hn])).trans ?_))
  rw [hh, hn]
  rfl

/-- An agreeing pulse aligns. -/
def State.indexAligned (d : Int) : State :=
  (((((((s.setReg (F.POS_INDEX_LAST_COUNT i).addr (s.reg (F.POS_COUNT_COUNT i).addr)).setCount i t
    (s.reg (F.POS_COUNT_COUNT i).addr - BitVec.ofInt 32 d)).setReg (F.POS_REALIGN_DELTA_DELTA i).addr
    (BitVec.ofInt 32 (-d))).incF (F.POS_REALIGN_CNT_COUNT i)).event (Ev.pos i) 4).setFlag (F.POS_STATUS_INDEX_MISMATCH i) false).setFlag
    (F.POS_STATUS_CAND i) false).setFlag (F.POS_STATUS_HOMED i) true

theorem State.indexEdge_aligned (hc : 0 < s.getF (F.POS_CPR_CPR i)) (hg : s.flag (F.POS_INDEX_CFG_GATE_EN i) = false)
    (hn : s.flag (F.POS_STATUS_CAND i) = true)
    (hd : s.flag (F.POS_STATUS_HOMED i) = false ∨ indexError (s.count i) (s.getF (F.POS_INDEX_CFG_INDEX_POS i)) (s.getF (F.POS_CPR_CPR i)) ≠ 0)
    (ha : s.reg (F.POS_COUNT_COUNT i).addr = (s.pos i).cand ∨
      s.reg (F.POS_COUNT_COUNT i).addr = (s.pos i).cand + BitVec.ofNat 32 (s.getF (F.POS_CPR_CPR i)) ∨
      s.reg (F.POS_COUNT_COUNT i).addr = (s.pos i).cand - BitVec.ofNat 32 (s.getF (F.POS_CPR_CPR i))) :
    s.indexEdge i t = s.indexAligned i t (indexError (s.count i) (s.getF (F.POS_INDEX_CFG_INDEX_POS i)) (s.getF (F.POS_CPR_CPR i))) := by
  refine (if_neg (by simp [hg]; omega)).trans ((if_neg ?_).trans (if_pos ?_))
  · rcases hd with h | h <;> simp [h]
  · simp only [hn, Bool.true_and, Bool.or_eq_true, decide_eq_true_eq, or_assoc]
    rcases ha with h | h | h
    · exact .inl (by rw [h, BitVec.sub_self]; rfl)
    · exact .inr (.inl (by rw [h]; unfold w32; bv_omega))
    · exact .inr (.inr (by rw [h]; unfold w32; bv_omega))

/-- A pulse that disagrees on a homed interface with no candidate. -/
theorem State.indexEdge_mismatch (hc : 0 < s.getF (F.POS_CPR_CPR i)) (hg : s.flag (F.POS_INDEX_CFG_GATE_EN i) = false)
    (hh : s.flag (F.POS_STATUS_HOMED i) = true) (hn : s.flag (F.POS_STATUS_CAND i) = false)
    (hd : indexError (s.count i) (s.getF (F.POS_INDEX_CFG_INDEX_POS i)) (s.getF (F.POS_CPR_CPR i)) ≠ 0) :
    s.indexEdge i t = ((s.setReg (F.POS_INDEX_LAST_COUNT i).addr (s.reg (F.POS_COUNT_COUNT i).addr)).holdCand i
      (s.reg (F.POS_COUNT_COUNT i).addr)).indexMismatch i := by
  refine (if_neg (by simp [hg]; omega)).trans ((if_neg (by simp [hd])).trans ((if_neg (by simp [hn])).trans ?_))
  rw [hh]
  rfl

theorem State.holdCand_shows (c : Word) (hi : i < s.poss.length) : s.Touches (posRegs i [0x8]) State.sys (s.holdCand i c) ∧
    (s.holdCand i c).flag (F.POS_STATUS_CAND i) = true ∧ ((s.holdCand i c).pos i).cand = c ∧ (s.holdCand i c).flt = s.flt := by
  unfold State.holdCand
  exact ⟨((State.Touches.refl State.blind_sys _ s).setPos i _ rfl).setFlag _ true (posRegs_mem i 0x8 _ (by decide) (by decide)),
    State.flag_setFlag_same _ _ _ rfl, congrArg Pos.cand ((State.pos_of_poss (State.setFlag_poss ..) i).trans (s.pos_setPos i _ hi)), rfl⟩

theorem State.indexHeld_shows (hi : i < s.poss.length) (hc : 0 < s.getF (F.POS_CPR_CPR i)) (hg : s.flag (F.POS_INDEX_CFG_GATE_EN i) = false)
    (hh : s.flag (F.POS_STATUS_HOMED i) = false) (hn : s.flag (F.POS_STATUS_CAND i) = false) :
    s.Touches (posRegs i [0x8, 0x2C]) State.sys (s.indexEdge i t) ∧
    (s.indexEdge i t).flag (F.POS_STATUS_CAND i) = true ∧ ((s.indexEdge i t).pos i).cand = s.reg (posReg i 0x18) := by
  rw [s.indexEdge_held i t hc hg hh hn]
  have h1 : s.Touches (posRegs i [0x8, 0x2C]) State.sys (s.setReg (F.POS_INDEX_LAST_COUNT i).addr (s.reg (F.POS_COUNT_COUNT i).addr)) :=
    (State.Touches.refl State.blind_sys _ s).setReg _ _ (posRegs_mem i 0x2C _ (by decide) (by decide))
  obtain ⟨h2, h3, h4, -⟩ := (s.setReg (F.POS_INDEX_LAST_COUNT i).addr (s.reg (F.POS_COUNT_COUNT i).addr)).holdCand_shows i
    (s.reg (F.POS_COUNT_COUNT i).addr) hi
  exact ⟨h1.trans (h2.mono (posRegs_mono (by decide))), h3, h4⟩

theorem State.indexAligned_shows (d : Int) :
    s.Touches (posRegs i [0x8, 0xC, 0x18, 0x2C, 0x30, 0x4C, 0x78]) State.sys (s.indexAligned i t d) ∧
    (s.indexAligned i t d).flag (F.POS_STATUS_HOMED i) = true ∧ (s.indexAligned i t d).flag (F.POS_STATUS_CAND i) = false ∧
    (s.indexAligned i t d).flag (F.POS_STATUS_INDEX_MISMATCH i) = false ∧
    (s.indexAligned i t d).reg (posReg i 0x18) = s.reg (posReg i 0x18) - BitVec.ofInt 32 d ∧
    (s.indexAligned i t d).getF (F.POS_REALIGN_CNT_COUNT i) = min (2 ^ 32 - 1) (s.getF (F.POS_REALIGN_CNT_COUNT i) + 1) := by
  have h (o : Nat) (ho : o ∈ [0x8, 0xC, 0x18, 0x2C, 0x30, 0x4C, 0x78]) :
      posRegs i [0x8, 0xC, 0x18, 0x2C, 0x30, 0x4C, 0x78] (posReg i o) := posRegs_mem i o _ ho (by simp at ho; omega)
  have h1 : s.Touches (posRegs i [0x8, 0xC, 0x18, 0x2C, 0x30, 0x4C, 0x78]) State.sys
      (s.setReg (F.POS_INDEX_LAST_COUNT i).addr (s.reg (F.POS_COUNT_COUNT i).addr)) :=
    (State.Touches.refl State.blind_sys _ s).setReg _ _ (h 0x2C (by decide))
  have hr : (s.setReg (F.POS_INDEX_LAST_COUNT i).addr (s.reg (F.POS_COUNT_COUNT i).addr)).getF (F.POS_REALIGN_CNT_COUNT i) =
      s.getF (F.POS_REALIGN_CNT_COUNT i) := State.getF_congr (State.reg_setReg_other _ _ _ _ (posReg_inj i 0x2C 0x78 (by decide)))
  unfold State.indexAligned
  generalize s.setReg (F.POS_INDEX_LAST_COUNT i).addr (s.reg (F.POS_COUNT_COUNT i).addr) = u at *
  have h2 := u.setCount_touches i t (s.reg (F.POS_COUNT_COUNT i).addr - BitVec.ofInt 32 d)
  have h3 : s.Touches (posRegs i [0x8, 0xC, 0x18, 0x2C, 0x30, 0x4C, 0x78]) State.sys
      (u.setCount i t (s.reg (F.POS_COUNT_COUNT i).addr - BitVec.ofInt 32 d)) :=
    h1.trans ⟨State.blind_sys, fun a ha => h2.regs a fun h => ha (posRegs_mono (by decide) a h), h2.stores, congrArg Prod.fst h2.same⟩
  have hcount := u.setCount_count i t (s.reg (F.POS_COUNT_COUNT i).addr - BitVec.ofInt 32 d)
  have hr2 := h2.getF (F.POS_REALIGN_CNT_COUNT i) (not_posRegs (o := 0x78) (by decide))
  generalize u.setCount i t (s.reg (F.POS_COUNT_COUNT i).addr - BitVec.ofInt 32 d) = w at *
  refine ⟨(((((h3.setReg _ _ (h 0x30 (by decide))).incF _ (h 0x78 (by decide))).event _ _ (h 0xC (by decide))).setFlag _ _ (h 0x8 (by decide))).setFlag _ _
    (h 0x8 (by decide))).setFlag _ _ (h 0x8 (by decide)), State.flag_setFlag_same _ _ _ rfl, ?_, ?_, ?_, ?_⟩
  · rw [State.flag_setFlag_apart _ _ _ _ rfl (by simp [Fld.apart_iff, F.POS_STATUS_HOMED, F.POS_STATUS_CAND]), State.flag_setFlag_same _ _ _ rfl]
  · rw [State.flag_setFlag_apart _ _ _ _ rfl (by simp [Fld.apart_iff, F.POS_STATUS_HOMED, F.POS_STATUS_INDEX_MISMATCH]),
      State.flag_setFlag_apart _ _ _ _ rfl (by simp [Fld.apart_iff, F.POS_STATUS_CAND, F.POS_STATUS_INDEX_MISMATCH]),
      State.flag_setFlag_same _ _ _ rfl]
  · rw [State.setFlag, State.setFlag, State.setFlag, State.reg_setF_other _ _ _ _ (posReg_inj i 0x8 0x18 (by decide)),
      State.reg_setF_other _ _ _ _ (posReg_inj i 0x8 0x18 (by decide)), State.reg_setF_other _ _ _ _ (posReg_inj i 0x8 0x18 (by decide)),
      State.reg_event_other _ _ _ _ (posReg_inj i 0xC 0x18 (by decide)), State.incF, State.addF,
      State.reg_setF_other _ _ _ _ (posReg_inj i 0x78 0x18 (by decide))]
    exact (State.reg_setReg_other _ _ _ _ (posReg_inj i 0x30 0x18 (by decide))).trans hcount
  · have hne : posReg i 0x8 ≠ posReg i 0x78 := posReg_inj i _ _ (by decide)
    rw [State.getF_setFlag_apart _ _ _ _ rfl (posApart (i := i) (o := 0x8) (p := 0x78) rfl rfl (by decide)),
      State.getF_setFlag_apart _ _ _ _ rfl (posApart (i := i) (o := 0x8) (p := 0x78) rfl rfl (by decide)),
      State.getF_setFlag_apart _ _ _ _ rfl (posApart (i := i) (o := 0x8) (p := 0x78) rfl rfl (by decide)),
      State.getF_incF_event _ _ _ _ rfl (posReg_inj i 0xC 0x78 (by decide)),
      State.getF_congr (State.reg_setReg_other _ _ _ _ (posReg_inj i 0x30 0x78 (by decide))), hr2, hr]
    rfl

/-- A disagreeing pulse before its raise. -/
def State.mismatchShown : State :=
  ((s.setFlag (F.POS_STATUS_INDEX_MISMATCH i) true).incF (F.POS_INDEX_MM_CNT_COUNT i)).event (Ev.pos i) 3

/-- A raise of an interface's source after updates of its own registers. -/
theorem State.Touches.posRaise {u : State} {os : List Nat} {n : Nat} (h : s.Touches (posRegs i os) State.sys u) (hf : u.flt = s.flt) (hi : i < 4)
    (hn : n < 256) (hq : s.Quiet n) (ha : s.asserted n = false) :
    (u.raise n).sticky n = true ∧ s.Within (0x4009 :: raiseBlocks) (u.raise n) ∧
      ∀ o, o < 0x1000 → (u.raise n).reg (posReg i o) = u.reg (posReg i o) := by
  have hw : s.Within [0x4009] u := (h.mono (posRegs_block os hi)).within
  have hq' : u.Quiet n := hw.quiet (by decide) (by decide) (congrArg Sys.phase h.same) hn hq
  have ha' : u.asserted n = false := (State.asserted_of_asserting (State.asserting_congr hf) n).trans ha
  refine ⟨u.sticky_raise n none hn hq' ha', (hw.mono (by decide)).raise n (fun b => List.mem_cons_of_mem _) hn hq', fun o ho => ?_⟩
  refine (u.confined_raise n none hn hq').within.1 _ ?_
  rw [posReg_block i o hi ho]
  decide

/-! ### Input changes -/

/-- New levels with what the filters accept of them. -/
def State.rawTaken (v held acc : Nat) : State := (s.setRaw i t v held).setLevels i acc

theorem State.rawTaken_shows (v held acc : Nat) (hi : i < s.poss.length) (hv : v < 8) (ha : acc < 8) :
    s.Touches (posRegs i [0x14]) (State.serView i) (s.rawTaken i t v held acc) ∧ (s.rawTaken i t v held acc).levels i = acc ∧
    (s.rawTaken i t v held acc).getF (F.POS_LEVELS_RAW i) = v := by
  obtain ⟨h1, h2, h3⟩ := (s.setRaw i t v held).setLevels_shows i acc ha
  have h4 := s.setRaw_touches i t v held hi
  refine ⟨h4.trans ⟨State.blind_serView i, h1.regs, h1.stores, State.serView_of_posView h1.same⟩, h2, h3.trans ?_⟩
  rw [(s.setRaw_levels i t v held).1, Nat.mod_eq_of_lt hv]

/-- What a change of A and B does to COUNT in quadrature mode. -/
def State.quadMove (d : Nat) (inv : Bool) : State :=
  match d with
  | 1 => s.countOne i t (!inv) true
  | 3 => s.countOne i t inv true
  | 2 => s.quadError i
  | _ => s

theorem State.inputChange_quad (v held acc : Nat) (hp : s.posIn i [1] = true) (hv : v < 8)
    (ha : s.filterLevels i (s.levels i) v (s.stood i t v held) = acc) : s.inputChange i t v held =
      if !bit (s.levels i) 2 && bit acc 2 then
        ((s.rawTaken i t v held acc).quadMove i t ((quadPhase acc + 4 - quadPhase (s.levels i)) % 4) (s.flag (F.POS_CFG_DIR_INVERT i))).indexEdge i t
      else (s.rawTaken i t v held acc).quadMove i t ((quadPhase acc + 4 - quadPhase (s.levels i)) % 4) (s.flag (F.POS_CFG_DIR_INVERT i)) := by
  unfold State.inputChange
  dsimp only
  rw [Nat.mod_eq_of_lt hv, ha, if_pos hp]
  rfl

theorem State.inputChange_pulse (v held acc : Nat) (h1 : s.posIn i [1] = false) (h2 : s.posIn i [2] = false) (hp : s.posIn i [3] = true) (hv : v < 8)
    (ha : s.filterLevels i (s.levels i) v (s.stood i t v held) = acc) : s.inputChange i t v held =
      (s.rawTaken i t v held acc).when (!bit (s.levels i) 0 && bit acc 0)
        (fun s => s.countOne i t (!Config.speedDir i || bit acc 1) (Config.speedDir i)) := by
  unfold State.inputChange
  dsimp only
  rw [Nat.mod_eq_of_lt hv, ha, if_neg (by simp [h1]), if_neg (by simp [h2]), if_pos hp]
  rfl

theorem State.countOne_shows (up setsDir : Bool) : s.Touches (posRegs i stepOffs) (State.posView i) (s.countOne i t up setsDir) ∧
    (s.countOne i t up setsDir).reg (posReg i 0x18) = s.reg (posReg i 0x18) + (if up then 1 else -1) ∧
    (s.countOne i t up setsDir).reg (posReg i 0x1C) = tenNs t ∧
    (s.countOne i t up setsDir).reg (posReg i 0x20) = s.reg (posReg i 0x20) + 1 ∧
    (s.countOne i t up setsDir).flag (F.POS_STATUS_DIR i) = up ∧
    (s.countOne i t up setsDir).flag (F.POS_STATUS_DIR_VALID i) = (s.flag (F.POS_STATUS_DIR_VALID i) || setsDir) := by
  obtain ⟨h1, h2, h3⟩ := s.countStep_shows i t (s.count i + (if up then 1 else -1)) up setsDir
  obtain ⟨h4, h5⟩ := s.countStep_dir i t (s.count i + (if up then 1 else -1)) up setsDir
  refine ⟨s.countStep_touches i t _ up setsDir, h1.trans ?_, h2, h3, h4, h5⟩
  show BitVec.ofInt 32 ((s.reg (posReg i 0x18)).toInt + _) = _
  rw [BitVec.ofInt_add, BitVec.ofInt_toInt]
  cases up <;> rfl

end

/-! ### Count steps -/

section
variable (s : State) (i t v held : Nat) (hr : s.sys.phase = .run) (hi : i < 4) (hl : s.poss.length = 4)
  (hact : s.flag (F.POS_STATUS_ACTIVE i) = true) (hv : v < 8)
include hr hi hl hact hv

theorem State.inputChange_none (m : Nat) (hm : s.getF (F.POS_CFG_MODE i) = m) (h13 : m = 1 ∨ m = 3)
    (ha : ∀ k, k < 3 → s.accepts i k ((s.stood i t v held).getD k 0) = false) :
    (s.inputChange i t v held).getF (F.POS_LEVELS_RAW i) = v ∧ (s.inputChange i t v held).levels i = s.levels i ∧
      s.OnlyRegs [(F.POS_LEVELS_RAW i).addr] (s.inputChange i t v held) ∧ s.SameStores (s.inputChange i t v held) := by
  have hacc := s.filterLevels_none i (s.levels i) v (s.stood i t v held) (s.levels_lt i) ha
  have hin := s.posIn_iff i m hr hi hact hm
  have he : s.inputChange i t v held = s.rawTaken i t v held (s.levels i) := by
    rcases h13 with rfl | rfl
    · rw [s.inputChange_quad i t v held _ (hin [1]) hv hacc, if_neg (by simp), show ∀ x, (x + 4 - x) % 4 = 0 from fun x => by omega]
      rfl
    · rw [s.inputChange_pulse i t v held _ (hin [1]) (hin [2]) (hin [3]) hv hacc]
      cases bit (s.levels i) 0 <;> rfl
  rw [he]
  obtain ⟨h1, h2, h3⟩ := s.rawTaken_shows i t v held (s.levels i) (by omega) hv (s.levels_lt i)
  refine ⟨h3, h2, fun a h => h1.regs a ?_, h1.stores⟩
  rintro ⟨o, ho, -, rfl⟩
  exact h (by rw [List.mem_singleton.1 ho]; exact List.mem_singleton.2 rfl)

variable (ha : ∀ k, k < 3 → s.accepts i k ((s.stood i t v held).getD k 0) = true)
include ha

/-- A rising edge of A in speed-pulse mode. -/
theorem State.inputChange_pulses (hm : s.getF (F.POS_CFG_MODE i) = 3) (ho : s.levels i % 2 = 0) (hn : v % 2 = 1) :
    (s.inputChange i t v held).reg (posReg i 0x18) =
      s.reg (posReg i 0x18) + (if Config.speedDir i = true ∧ v / 2 % 2 = 0 then -1 else 1) ∧
    (s.inputChange i t v held).flag (F.POS_STATUS_DIR i) = !(Config.speedDir i && decide (v / 2 % 2 = 0)) ∧
    (s.inputChange i t v held).flag (F.POS_STATUS_DIR_VALID i) = (s.flag (F.POS_STATUS_DIR_VALID i) || Config.speedDir i) ∧
    s.Within [0x4009] (s.inputChange i t v held) := by
  have hacc := s.filterLevels_all i (s.levels i) v (s.stood i t v held) hv ha
  have hin := s.posIn_iff i 3 hr hi hact hm
  have hrise : (!bit (s.levels i) 0 && bit v 0) = true := by
    simp only [bit, Bool.and_eq_true, Bool.not_eq_true', decide_eq_false_iff_not, decide_eq_true_eq]
    omega
  rw [s.inputChange_pulse i t v held v (hin [1]) (hin [2]) (hin [3]) hv hacc, State.when_true _ _ _ hrise]
  obtain ⟨h1, -, -⟩ := s.rawTaken_shows i t v held v (by omega) hv hv
  generalize s.rawTaken i t v held v = u at *
  obtain ⟨k1, k2, -, -, k3, k4⟩ := u.countOne_shows i t (!Config.speedDir i || bit v 1) (Config.speedDir i)
  have hup : (!Config.speedDir i || bit v 1) = !(Config.speedDir i && decide (v / 2 % 2 = 0)) := by
    have hb : bit v 1 = !decide (v / 2 % 2 = 0) := by
      rw [bit, pow_one, ← decide_not]
      exact decide_eq_decide.2 (by omega)
    rw [hb, Bool.not_and]
  refine ⟨k2.trans ?_, k3.trans hup, k4.trans ?_, (h1.mono (posRegs_block _ hi)).within.trans (k1.mono (posRegs_block _ hi)).within⟩
  · rw [h1.regs _ (not_posRegs (by decide)), hup]
    cases Config.speedDir i <;> simp
    by_cases hz : v / 2 % 2 = 0 <;> simp [hz]
  · rw [h1.flag _ (not_posRegs (o := 0x8) (by decide))]

variable (hm : s.getF (F.POS_CFG_MODE i) = 1) (hinv : s.flag (F.POS_CFG_DIR_INVERT i) = false)
include hm hinv

omit hl in
theorem State.inputChange_still (hidx : v / 4 ≤ s.levels i / 4 % 2) (d : Nat) (hd : (quadPhase v + 4 - quadPhase (s.levels i)) % 4 = d) :
    s.inputChange i t v held = (s.rawTaken i t v held v).quadMove i t d false := by
  have hacc := s.filterLevels_all i (s.levels i) v (s.stood i t v held) hv ha
  rw [s.inputChange_quad i t v held v (s.posIn_iff i 1 hr hi hact hm [1]) hv hacc, if_neg, hd, hinv]
  simp only [bit, Bool.and_eq_true, Bool.not_eq_true', decide_eq_false_iff_not, decide_eq_true_eq]
  omega

theorem State.inputChange_up (hidx : v / 4 ≤ s.levels i / 4 % 2) (hd : (quadPhase v + 4 - quadPhase (s.levels i)) % 4 = 1) :
    (s.inputChange i t v held).reg (posReg i 0x18) = s.reg (posReg i 0x18) + 1 ∧
    (s.inputChange i t v held).flag (F.POS_STATUS_DIR i) = true ∧ (s.inputChange i t v held).reg (posReg i 0x1C) = tenNs t ∧
    (s.inputChange i t v held).reg (posReg i 0x20) = s.reg (posReg i 0x20) + 1 ∧ s.Within [0x4009] (s.inputChange i t v held) := by
  rw [s.inputChange_still i t v held hr hi hact hv ha hm hinv hidx 1 hd]
  obtain ⟨h1, -, -⟩ := s.rawTaken_shows i t v held v (by omega) hv hv
  generalize s.rawTaken i t v held v = u at *
  obtain ⟨k1, k2, k3, k4, k5, -⟩ := u.countOne_shows i t true true
  refine ⟨k2.trans ?_, k5, k3, k4.trans ?_, (h1.mono (posRegs_block _ hi)).within.trans (k1.mono (posRegs_block _ hi)).within⟩
  · rw [h1.regs _ (not_posRegs (by decide)), if_pos rfl]
  · rw [h1.regs _ (not_posRegs (by decide))]

theorem State.inputChange_down (hidx : v / 4 ≤ s.levels i / 4 % 2) (hd : (quadPhase v + 4 - quadPhase (s.levels i)) % 4 = 3) :
    (s.inputChange i t v held).reg (posReg i 0x18) = s.reg (posReg i 0x18) - 1 ∧
    (s.inputChange i t v held).flag (F.POS_STATUS_DIR i) = false ∧ s.Within [0x4009] (s.inputChange i t v held) := by
  rw [s.inputChange_still i t v held hr hi hact hv ha hm hinv hidx 3 hd]
  obtain ⟨h1, -, -⟩ := s.rawTaken_shows i t v held v (by omega) hv hv
  generalize s.rawTaken i t v held v = u at *
  obtain ⟨k1, k2, -, -, k5, -⟩ := u.countOne_shows i t false true
  refine ⟨k2.trans ?_, k5, (h1.mono (posRegs_block _ hi)).within.trans (k1.mono (posRegs_block _ hi)).within⟩
  rw [h1.regs _ (not_posRegs (by decide)), if_neg (by decide), BitVec.sub_eq_add_neg]

theorem State.inputChange_jump (hidx : v / 4 ≤ s.levels i / 4 % 2) (hd : (quadPhase v + 4 - quadPhase (s.levels i)) % 4 = 2)
    (hq : s.Quiet (0x32 + 5 * i)) (hasrt : s.asserted (0x32 + 5 * i) = false) :
    (s.inputChange i t v held).reg (posReg i 0x18) = s.reg (posReg i 0x18) ∧ (s.inputChange i t v held).sticky (0x32 + 5 * i) = true ∧
    (s.inputChange i t v held).getF (F.POS_QUAD_ERR_CNT_COUNT i) = min (2 ^ 32 - 1) (s.getF (F.POS_QUAD_ERR_CNT_COUNT i) + 1) ∧
    s.Within (0x4009 :: raiseBlocks) (s.inputChange i t v held) := by
  rw [s.inputChange_still i t v held hr hi hact hv ha hm hinv hidx 2 hd]
  obtain ⟨h1, -, -⟩ := s.rawTaken_shows i t v held v (by omega) hv hv
  have hf : (s.rawTaken i t v held v).flt = s.flt := by
    rw [State.rawTaken, State.setLevels, State.setF_flt, s.setRaw_eq, State.when_flt, State.setPos_flt, State.setPos_flt, ite_self]
    rfl
  generalize s.rawTaken i t v held v = u at *
  have h2 : s.Touches (posRegs i [0xC, 0x14, 0x6C]) State.sys ((u.incF (F.POS_QUAD_ERR_CNT_COUNT i)).event (Ev.pos i) 1) := by
    have h3 : s.Touches (posRegs i [0xC, 0x14, 0x6C]) State.sys u :=
      ⟨State.blind_sys, fun a h => h1.regs a fun h' => h (posRegs_mono (by decide) a h'), h1.stores, congrArg Prod.fst h1.same⟩
    exact (h3.incF _ (posRegs_mem i 0x6C _ (by decide) (by decide))).event _ _ (posRegs_mem i 0xC _ (by decide) (by decide))
  obtain ⟨k1, k2, k3⟩ := h2.posRaise s i (((State.event_flt ..).trans (State.incF_flt ..)).trans hf) hi (by omega) hq hasrt
  refine ⟨(k3 _ (by decide)).trans (h2.regs _ (not_posRegs (by decide))), k1, (State.getF_congr (k3 0x6C (by decide))).trans ?_, k2⟩
  rw [State.getF_incF_event _ _ _ _ rfl (posReg_inj i 0xC 0x6C (by decide)), h1.getF _ (not_posRegs (o := 0x6C) (by decide))]
  rfl

/-- A step up with the index edge of its clock. -/
theorem State.inputChange_index (ho : s.levels i / 4 % 2 = 0) (h4 : 4 ≤ v) (hd : (quadPhase v + 4 - quadPhase (s.levels i)) % 4 = 1)
    (hc : 0 < s.getF (F.POS_CPR_CPR i)) (hg : s.flag (F.POS_INDEX_CFG_GATE_EN i) = false)
    (hh : s.flag (F.POS_STATUS_HOMED i) = false) (hn : s.flag (F.POS_STATUS_CAND i) = false) :
    (s.inputChange i t v held).flag (F.POS_STATUS_CAND i) = true ∧ ((s.inputChange i t v held).pos i).cand = s.reg (posReg i 0x18) + 1 ∧
    s.Within [0x4009] (s.inputChange i t v held) := by
  have hacc := s.filterLevels_all i (s.levels i) v (s.stood i t v held) hv ha
  have hup : (!bit (s.levels i) 2 && bit v 2) = true := by
    simp only [bit, Bool.and_eq_true, Bool.not_eq_true', decide_eq_false_iff_not, decide_eq_true_eq]
    omega
  rw [s.inputChange_quad i t v held v (s.posIn_iff i 1 hr hi hact hm [1]) hv hacc, if_pos hup, hd, hinv]
  obtain ⟨h1, -, -⟩ := s.rawTaken_shows i t v held v (by omega) hv hv
  rw [show (s.rawTaken i t v held v).quadMove i t 1 false = (s.rawTaken i t v held v).countOne i t true true from rfl]
  generalize s.rawTaken i t v held v = u at *
  obtain ⟨k1, k2, -⟩ := u.countOne_shows i t true true
  have hstat (g : Fld) (hg : g.addr = posReg i 0x8) (h1' : (F.POS_STATUS_CMP_BEHIND i).apart g = true)
      (h2 : (F.POS_STATUS_CMP_ARMED i).apart g = true) (h3 : (F.POS_STATUS_DIR i).apart g = true) (h4 : (F.POS_STATUS_DIR_VALID i).apart g = true) :
      (u.countOne i t true true).flag g = s.flag g :=
    (u.flag_countStep i t _ true true g hg h1' h2 h3 h4).trans (h1.flag _ (by rw [hg]; exact not_posRegs (by decide)))
  have hh' := (hstat (F.POS_STATUS_HOMED i) rfl (by simp [Fld.apart_iff, F.POS_STATUS_CMP_BEHIND, F.POS_STATUS_HOMED])
    (by simp [Fld.apart_iff, F.POS_STATUS_CMP_ARMED, F.POS_STATUS_HOMED]) (by simp [Fld.apart_iff, F.POS_STATUS_DIR, F.POS_STATUS_HOMED])
    (by simp [Fld.apart_iff, F.POS_STATUS_DIR_VALID, F.POS_STATUS_HOMED])).trans hh
  have hn' := (hstat (F.POS_STATUS_CAND i) rfl (by simp [Fld.apart_iff, F.POS_STATUS_CMP_BEHIND, F.POS_STATUS_CAND])
    (by simp [Fld.apart_iff, F.POS_STATUS_CMP_ARMED, F.POS_STATUS_CAND]) (by simp [Fld.apart_iff, F.POS_STATUS_DIR, F.POS_STATUS_CAND])
    (by simp [Fld.apart_iff, F.POS_STATUS_DIR_VALID, F.POS_STATUS_CAND])).trans hn
  have hkeep (o : Nat) (ho : o ∉ 0x14 :: stepOffs) : (u.countOne i t true true).reg (posReg i o) = s.reg (posReg i o) := by
    simp only [List.mem_cons, not_or] at ho
    exact (k1.regs _ (not_posRegs (by simp only [List.mem_cons, not_or]; exact ho.2))).trans (h1.regs _ (not_posRegs (by simpa using ho.1)))
  have hc' : 0 < (u.countOne i t true true).getF (F.POS_CPR_CPR i) := by
    rw [State.getF_congr (hkeep 0x24 (by decide))]
    exact hc
  have hg' : (u.countOne i t true true).flag (F.POS_INDEX_CFG_GATE_EN i) = false :=
    (State.flag_congr (State.getF_congr (hkeep 0x28 (by decide)))).trans hg
  have hlen : (u.countOne i t true true).poss.length = s.poss.length :=
    (congrArg (fun w : Sys × Nat × Pos => w.2.1) k1.same).trans (congrArg (fun w : Sys × Nat × Pos => w.2.1) h1.same)
  obtain ⟨m1, m2, m3⟩ := (u.countOne i t true true).indexHeld_shows i t (by omega) hc' hg' hh' hn'
  refine ⟨m2, m3.trans (k2.trans ?_), ((h1.mono (posRegs_block _ hi)).within.trans (k1.mono (posRegs_block _ hi)).within).trans
    (m1.mono (posRegs_block _ hi)).within⟩
  rw [h1.regs _ (not_posRegs (by decide)), if_pos rfl]

end

/-! ### Index edges -/

section
variable (s : State) (i t held : Nat) (hr : s.sys.phase = .run) (hi : i < 4) (hl : s.poss.length = 4)
  (hact : s.flag (F.POS_STATUS_ACTIVE i) = true) (hm : s.getF (F.POS_CFG_MODE i) = 1)
  (ha : s.accepts i 2 ((s.stood i t (s.getF (F.POS_LEVELS_RAW i) % 4 + 4) held).getD 2 0) = true) (ho : s.levels i / 4 % 2 = 0)

/-- The levels with I at 1. -/
def State.indexTaken : State := s.rawTaken i t (s.getF (F.POS_LEVELS_RAW i) % 4 + 4) held (s.levels i % 4 + 4)

section
include hr hi hact hm ha ho

theorem State.indexChange_eq : s.indexChange i t true held = (s.indexTaken i t held).indexEdge i t := by
  refine (if_neg (by simp [s.posIn_iff i 1 hr hi hact hm])).trans ((if_neg (by rw [show b2n true = 1 from rfl, Nat.mul_one, ha]; decide)).trans (if_pos ?_))
  simp only [bit, Bool.true_and, Bool.not_eq_true', decide_eq_false_iff_not]
  omega

end

include hi hl

theorem State.indexTaken_shows : s.Touches (posRegs i [0x14]) (State.serView i) (s.indexTaken i t held) ∧
    (s.indexTaken i t held).flt = s.flt ∧ i < (s.indexTaken i t held).poss.length ∧ ((s.indexTaken i t held).pos i).cand = (s.pos i).cand := by
  obtain ⟨h1, -, -⟩ := s.rawTaken_shows i t (s.getF (F.POS_LEVELS_RAW i) % 4 + 4) held (s.levels i % 4 + 4) (by omega) (by omega) (by omega)
  refine ⟨h1, ?_, ?_, congrArg (fun w : Sys × Nat × Pos => w.2.2.cand) h1.same⟩
  · rw [State.indexTaken, State.rawTaken, State.setLevels, State.setF_flt, s.setRaw_eq, State.when_flt, State.setPos_flt, State.setPos_flt, ite_self]
    rfl
  · have : (s.indexTaken i t held).poss.length = s.poss.length := congrArg (fun w : Sys × Nat × Pos => w.2.1) h1.same
    omega

include hr hact hm ha ho
variable (hc : 0 < s.getF (F.POS_CPR_CPR i)) (hg : s.flag (F.POS_INDEX_CFG_GATE_EN i) = false)
include hc hg

theorem State.indexChange_held (hh : s.flag (F.POS_STATUS_HOMED i) = false) (hn : s.flag (F.POS_STATUS_CAND i) = false) :
    (s.indexChange i t true held).flag (F.POS_STATUS_CAND i) = true ∧
    ((s.indexChange i t true held).pos i).cand = s.reg (posReg i 0x18) ∧
    (s.indexChange i t true held).reg (posReg i 0x18) = s.reg (posReg i 0x18) ∧ s.Within [0x4009] (s.indexChange i t true held) := by
  rw [s.indexChange_eq i t held hr hi hact hm ha ho]
  obtain ⟨h1, -, h3, -⟩ := s.indexTaken_shows i t held hi hl
  generalize s.indexTaken i t held = u at *
  obtain ⟨k1, k2, k3⟩ := u.indexHeld_shows i t h3 (by rw [h1.getF _ (not_posRegs (o := 0x24) (by decide))]; exact hc)
    ((h1.flag _ (not_posRegs (o := 0x28) (by decide))).trans hg) ((h1.flag _ (not_posRegs (o := 0x8) (by decide))).trans hh)
    ((h1.flag _ (not_posRegs (o := 0x8) (by decide))).trans hn)
  have hcount := h1.regs (posReg i 0x18) (not_posRegs (by decide))
  exact ⟨k2, k3.trans hcount, (k1.regs _ (not_posRegs (by decide))).trans hcount,
    (h1.mono (posRegs_block _ hi)).within.trans (k1.mono (posRegs_block _ hi)).within⟩

variable (d : Int) (hd : d = indexError (s.count i) (s.getF (F.POS_INDEX_CFG_INDEX_POS i)) (s.getF (F.POS_CPR_CPR i)))
include hd

theorem State.indexChange_aligned (hn : s.flag (F.POS_STATUS_CAND i) = true) (hh : s.flag (F.POS_STATUS_HOMED i) = false ∨ d ≠ 0)
    (hagree : s.reg (F.POS_COUNT_COUNT i).addr = (s.pos i).cand ∨
      s.reg (F.POS_COUNT_COUNT i).addr = (s.pos i).cand + BitVec.ofNat 32 (s.getF (F.POS_CPR_CPR i)) ∨
      s.reg (F.POS_COUNT_COUNT i).addr = (s.pos i).cand - BitVec.ofNat 32 (s.getF (F.POS_CPR_CPR i))) :
    (s.indexChange i t true held).flag (F.POS_STATUS_HOMED i) = true ∧ (s.indexChange i t true held).flag (F.POS_STATUS_CAND i) = false ∧
    (s.indexChange i t true held).flag (F.POS_STATUS_INDEX_MISMATCH i) = false ∧
    (s.indexChange i t true held).reg (posReg i 0x18) = s.reg (posReg i 0x18) - BitVec.ofInt 32 d ∧
    (s.indexChange i t true held).getF (F.POS_REALIGN_CNT_COUNT i) = min (2 ^ 32 - 1) (s.getF (F.POS_REALIGN_CNT_COUNT i) + 1) ∧
    s.Within [0x4009] (s.indexChange i t true held) := by
  rw [s.indexChange_eq i t held hr hi hact hm ha ho]
  obtain ⟨h1, -, -, h4⟩ := s.indexTaken_shows i t held hi hl
  generalize s.indexTaken i t held = u at *
  have hcount : u.reg (F.POS_COUNT_COUNT i).addr = s.reg (F.POS_COUNT_COUNT i).addr := h1.regs (posReg i 0x18) (not_posRegs (by decide))
  have hcpr := h1.getF (F.POS_CPR_CPR i) (not_posRegs (o := 0x24) (by decide))
  have hd' : indexError (u.count i) (u.getF (F.POS_INDEX_CFG_INDEX_POS i)) (u.getF (F.POS_CPR_CPR i)) = d := by
    rw [hd, hcpr, h1.getF _ (not_posRegs (o := 0x28) (by decide)), State.count, hcount, State.count]
  rw [u.indexEdge_aligned i t (by rw [hcpr]; exact hc) ((h1.flag _ (not_posRegs (o := 0x28) (by decide))).trans hg)
    ((h1.flag _ (not_posRegs (o := 0x8) (by decide))).trans hn)
    (by rw [hd', h1.flag (F.POS_STATUS_HOMED i) (not_posRegs (o := 0x8) (by decide))]; exact hh) (by rw [hcount, hcpr, h4]; exact hagree), hd']
  obtain ⟨k1, k2, k3, k4, k5, k6⟩ := u.indexAligned_shows i t d
  refine ⟨k2, k3, k4, k5.trans (congrArg (· - BitVec.ofInt 32 d) hcount), k6.trans ?_,
    (h1.mono (posRegs_block _ hi)).within.trans (k1.mono (posRegs_block _ hi)).within⟩
  rw [h1.getF _ (not_posRegs (o := 0x78) (by decide))]

theorem State.indexChange_mismatch (hh : s.flag (F.POS_STATUS_HOMED i) = true) (hz : d ≠ 0) (hn : s.flag (F.POS_STATUS_CAND i) = false)
    (hq : s.Quiet (0x34 + 5 * i)) (hasrt : s.asserted (0x34 + 5 * i) = false) :
    (s.indexChange i t true held).flag (F.POS_STATUS_INDEX_MISMATCH i) = true ∧ (s.indexChange i t true held).sticky (0x34 + 5 * i) = true ∧
    (s.indexChange i t true held).reg (posReg i 0x18) = s.reg (posReg i 0x18) ∧
    (s.indexChange i t true held).getF (F.POS_INDEX_MM_CNT_COUNT i) = min (2 ^ 32 - 1) (s.getF (F.POS_INDEX_MM_CNT_COUNT i) + 1) ∧
    s.Within (0x4009 :: raiseBlocks) (s.indexChange i t true held) := by
  rw [s.indexChange_eq i t held hr hi hact hm ha ho]
  obtain ⟨h1, h2, h3, -⟩ := s.indexTaken_shows i t held hi hl
  generalize s.indexTaken i t held = u at *
  have hcount : u.reg (F.POS_COUNT_COUNT i).addr = s.reg (F.POS_COUNT_COUNT i).addr := h1.regs (posReg i 0x18) (not_posRegs (by decide))
  have hcpr := h1.getF (F.POS_CPR_CPR i) (not_posRegs (o := 0x24) (by decide))
  have hd' : indexError (u.count i) (u.getF (F.POS_INDEX_CFG_INDEX_POS i)) (u.getF (F.POS_CPR_CPR i)) = d := by
    rw [hd, hcpr, h1.getF _ (not_posRegs (o := 0x28) (by decide)), State.count, hcount, State.count]
  rw [u.indexEdge_mismatch i t (by rw [hcpr]; exact hc) ((h1.flag _ (not_posRegs (o := 0x28) (by decide))).trans hg)
    ((h1.flag _ (not_posRegs (o := 0x8) (by decide))).trans hh) ((h1.flag _ (not_posRegs (o := 0x8) (by decide))).trans hn) (by rw [hd']; exact hz)]
  have h5 : s.Touches (posRegs i [0x8, 0x14, 0x2C]) State.sys (u.setReg (F.POS_INDEX_LAST_COUNT i).addr (u.reg (F.POS_COUNT_COUNT i).addr)) := by
    have h6 : s.Touches (posRegs i [0x8, 0x14, 0x2C]) State.sys u :=
      ⟨State.blind_sys, fun a h => h1.regs a fun h' => h (posRegs_mono (by decide) a h'), h1.stores, congrArg Prod.fst h1.same⟩
    exact h6.setReg _ _ (posRegs_mem i 0x2C _ (by decide) (by decide))
  obtain ⟨k1, -, -, k4⟩ := (u.setReg (F.POS_INDEX_LAST_COUNT i).addr (u.reg (F.POS_COUNT_COUNT i).addr)).holdCand_shows i
    (u.reg (F.POS_COUNT_COUNT i).addr) h3
  have h7 := h5.trans (k1.mono (posRegs_mono (by decide)))
  have hf := (k4.trans (State.setReg_flt ..)).trans h2
  generalize (u.setReg (F.POS_INDEX_LAST_COUNT i).addr (u.reg (F.POS_COUNT_COUNT i).addr)).holdCand i (u.reg (F.POS_COUNT_COUNT i).addr) = w at *
  have h8 : s.Touches (posRegs i [0x8, 0xC, 0x14, 0x2C, 0x74]) State.sys (w.mismatchShown i) :=
    (((h7.mono (posRegs_mono (by decide))).setFlag _ _ (posRegs_mem i 0x8 _ (by decide) (by decide))).incF _
      (posRegs_mem i 0x74 _ (by decide) (by decide))).event _ _ (posRegs_mem i 0xC _ (by decide) (by decide))
  have hf' : (w.mismatchShown i).flt = s.flt := by
    rw [State.mismatchShown, State.event_flt, State.incF_flt, State.setFlag_flt, hf]
  have hmis : w.indexMismatch i = (w.mismatchShown i).raise (0x34 + 5 * i) := by
    show (w.mismatchShown i).raise (0x32 + 5 * i + 2) = _
    rw [show 0x32 + 5 * i + 2 = 0x34 + 5 * i by omega]
  rw [hmis]
  obtain ⟨m1, m2, m3⟩ := h8.posRaise s i hf' hi (by omega) hq hasrt
  refine ⟨(State.flag_congr (State.getF_congr (m3 0x8 (by decide)))).trans ?_, m1, (m3 _ (by decide)).trans (h8.regs _ (not_posRegs (by decide))),
    (State.getF_congr (m3 0x74 (by decide))).trans ?_, m2⟩
  · rw [State.mismatchShown, State.flag_event_other _ _ _ _ (posReg_inj i 0xC 0x8 (by decide)),
      State.flag_incF_apart _ _ _ rfl (posApart (i := i) (o := 0x74) (p := 0x8) rfl rfl (by decide)), State.flag_setFlag_same _ _ _ rfl]
  · rw [State.mismatchShown, State.getF_incF_event _ _ _ _ rfl (posReg_inj i 0xC 0x74 (by decide)),
      State.getF_setFlag_apart _ _ _ _ rfl (posApart (i := i) (o := 0x8) (p := 0x74) rfl rfl (by decide)),
      h7.getF _ (not_posRegs (o := 0x74) (by decide))]
    rfl

end

/-! ### Probe edges -/

section
variable (s : State) (i t m held : Nat) (rising : Bool) (hr : s.sys.phase = .run) (hi : i < 4)
  (hact : s.flag (F.POS_STATUS_ACTIVE i) = true) (hh : max 1 (s.getF (F.POS_FILTER_N_PRB i)) ≤ held) (hm : s.getF (F.POS_CFG_MODE i) = m)
  (h1 : 1 ≤ m) (h4 : m ≤ 4) (he : bit (s.getF (F.POS_PRB_CFG_EDGE i)) (if rising = true then 0 else 1) = true)

/-- The level of a probe that starts a conversion. -/
def State.probeTaken : State :=
  (s.setF (F.POS_LEVELS_FILTERED i) (s.getF (F.POS_LEVELS_FILTERED i) - s.getF (F.POS_LEVELS_FILTERED i) % 2 + b2n rising)).adcTrigger (0x06 + i)

theorem State.probeTaken_touches : s.Touches (posRegs i [0x14]) (State.posView i) (s.probeTaken i rising) :=
  ((State.Touches.refl (State.blind_posView i) _ s).setF _ _ (posRegs_mem i 0x14 _ (by decide) (by decide))).adcTrigger _

/-- An edge in the probe latch. -/
def State.probeLatched : State :=
  (((((s.probeTaken i rising).setReg (F.POS_PRB_COUNT_VALUE i).addr (s.reg (F.POS_COUNT_COUNT i).addr)).setReg (F.POS_PRB_TIME_VALUE i).addr
    (tenNs t)).setFlag (F.POS_STATUS_PRB_FULL i) true).incF (F.POS_PRB_CNT_COUNT i)).event (Ev.pos i) 7

include hr hi hact hh hm h1 h4 he

theorem State.probeEdge_eq : s.probeEdge i t rising held =
    if s.flag (F.POS_STATUS_PRB_FULL i) then ((s.probeTaken i rising).incF (F.POS_PRB_OVR_CNT_COUNT i)).event (Ev.pos i) 8
    else (s.probeLatched i t rising).setPos i { s.pos i with prbAt := s.probeAt i t } := by
  have hin : s.posIn i [1, 2, 3, 4] = true := by
    rw [s.posIn_iff i m hr hi hact hm]
    simp only [List.contains_eq_mem, List.mem_cons, List.not_mem_nil, or_false, decide_eq_true_eq]
    omega
  have hacc : s.accepts i 3 held = true := decide_eq_true hh
  exact (if_neg (by simp [hin, hacc])).trans (if_neg (by simp [he]))

theorem State.probeEdge_latched (hf : s.flag (F.POS_STATUS_PRB_FULL i) = false) :
    (s.probeEdge i t rising held).reg (posReg i 0x4C) = s.reg (posReg i 0x18) ∧ (s.probeEdge i t rising held).reg (posReg i 0x50) = tenNs t ∧
    (s.probeEdge i t rising held).flag (F.POS_STATUS_PRB_FULL i) = true ∧
    (s.probeEdge i t rising held).getF (F.POS_PRB_CNT_COUNT i) = min (2 ^ 32 - 1) (s.getF (F.POS_PRB_CNT_COUNT i) + 1) ∧
    s.Within [0x4009] (s.probeEdge i t rising held) := by
  rw [s.probeEdge_eq i t m held rising hr hi hact hh hm h1 h4 he, if_neg (by simp [hf])]
  have h5 := s.probeTaken_touches i rising
  have hreg (o : Nat) (ho : o ∉ [0x8, 0xC, 0x90]) : (s.probeLatched i t rising).reg (posReg i o) =
      (((s.probeTaken i rising).setReg (F.POS_PRB_COUNT_VALUE i).addr (s.reg (F.POS_COUNT_COUNT i).addr)).setReg (F.POS_PRB_TIME_VALUE i).addr
        (tenNs t)).reg (posReg i o) := by
    simp only [List.mem_cons, List.not_mem_nil, or_false, not_or] at ho
    rw [State.probeLatched, State.reg_event_other _ _ _ _ (posReg_inj i 0xC o (Ne.symm ho.2.1)), State.incF, State.addF,
      State.reg_setF_other _ _ _ _ (posReg_inj i 0x90 o (Ne.symm ho.2.2)), State.setFlag, State.reg_setF_other _ _ _ _ (posReg_inj i 0x8 o (Ne.symm ho.1))]
  refine ⟨?_, ?_, ?_, ?_, ?_⟩
  · exact ((hreg 0x4C (by decide)).trans (State.reg_setReg_other _ _ _ _ (posReg_inj i 0x50 0x4C (by decide)))).trans (State.reg_setReg_same _ _ _)
  · exact (hreg 0x50 (by decide)).trans (State.reg_setReg_same _ _ _)
  · rw [State.flag_congr (State.getF_setPos ..), State.probeLatched, State.flag_event_other _ _ _ _ (posReg_inj i 0xC 0x8 (by decide)),
      State.flag_incF_apart _ _ _ rfl (posApart (i := i) (o := 0x90) (p := 0x8) rfl rfl (by decide)), State.flag_setFlag_same _ _ _ rfl]
  · rw [State.getF_setPos, State.probeLatched, State.getF_incF_event _ _ _ _ rfl (posReg_inj i 0xC 0x90 (by decide)),
      State.getF_setFlag_apart _ _ _ _ rfl (posApart (i := i) (o := 0x8) (p := 0x90) rfl rfl (by decide)),
      State.getF_congr (State.reg_setReg_other _ _ _ _ (posReg_inj i 0x50 0x90 (by decide))),
      State.getF_congr (State.reg_setReg_other _ _ _ _ (posReg_inj i 0x4C 0x90 (by decide))), h5.getF _ (not_posRegs (o := 0x90) (by decide))]
    rfl
  · have h (o : Nat) (ho : o ∈ [0x8, 0xC, 0x14, 0x4C, 0x50, 0x90]) : posRegs i [0x8, 0xC, 0x14, 0x4C, 0x50, 0x90] (posReg i o) :=
      posRegs_mem i o _ ho (by simp at ho; omega)
    exact (((((((h5.mono (posRegs_mono (by decide))).setReg _ _ (h 0x4C (by decide))).setReg _ _ (h 0x50 (by decide))).setFlag _ _
      (h 0x8 (by decide))).incF _ (h 0x90 (by decide))).event _ _ (h 0xC (by decide))).mono (posRegs_block _ hi)).within.hidden ..

theorem State.probeEdge_overrun (hf : s.flag (F.POS_STATUS_PRB_FULL i) = true) :
    (s.probeEdge i t rising held).reg (posReg i 0x4C) = s.reg (posReg i 0x4C) ∧
    (s.probeEdge i t rising held).reg (posReg i 0x50) = s.reg (posReg i 0x50) ∧
    (s.probeEdge i t rising held).getF (F.POS_PRB_OVR_CNT_COUNT i) = min (2 ^ 32 - 1) (s.getF (F.POS_PRB_OVR_CNT_COUNT i) + 1) ∧
    s.Within [0x4009] (s.probeEdge i t rising held) := by
  rw [s.probeEdge_eq i t m held rising hr hi hact hh hm h1 h4 he, if_pos hf]
  have h5 := s.probeTaken_touches i rising
  have h6 : s.Touches (posRegs i [0xC, 0x14, 0x94]) (State.posView i) (((s.probeTaken i rising).incF (F.POS_PRB_OVR_CNT_COUNT i)).event (Ev.pos i) 8) :=
    ((h5.mono (posRegs_mono (by decide))).incF _ (posRegs_mem i 0x94 _ (by decide) (by decide))).event _ _ (posRegs_mem i 0xC _ (by decide) (by decide))
  refine ⟨h6.regs _ (not_posRegs (by decide)), h6.regs _ (not_posRegs (by decide)), ?_, (h6.mono (posRegs_block _ hi)).within⟩
  rw [State.getF_incF_event _ _ _ _ rfl (posReg_inj i 0xC 0x94 (by decide)), h5.getF _ (not_posRegs (o := 0x94) (by decide))]
  rfl

end

theorem State.stood_new (s : State) (i t v held k : Nat) (hk : k < 3) (h : bit v k ≠ bit (s.getF (F.POS_LEVELS_RAW i)) k) :
    (s.stood i t v held).getD k 0 = held := by
  unfold State.stood
  rw [List.getD_eq_getElem _ _ (by simpa using hk), List.getElem_map, List.getElem_range]
  exact if_neg h

/-- Settles O30, by command: count steps, index edges, probe edges. -/
theorem positionEdges : Obligations.PositionEdges := by
  refine ⟨fun s i t v held hr hi hl hact hv => ⟨fun ht => ?_, fun ht hlate => ⟨fun k hk hb => s.stood_new i t v held k hk hb,
      fun ha => ⟨fun hm hinv hidx => ⟨fun hd => ?_, fun hd => ?_, fun hd hq hasrt => ?_⟩, fun hm hinv ho h4 hd hc hg hh hn => ?_, fun hm ho hn => ?_⟩,
      fun m hm h13 ha => ?_⟩, fun ht hlate => ?_⟩,
    fun s i t held d hr hi hl hact ha ho ht hlate => ⟨fun c hc => ?_, fun hnone hm hc hg hd => ⟨fun hh hn => ?_, fun hn hh hagree => ?_,
      fun hh hz hn hq hasrt => ?_⟩⟩,
    fun s i t m held rising hr hi hact hh hlate ht hnone hm h1 h4 he => ⟨fun hf => ?_, fun hf => ?_⟩⟩
  · exact next_congr (if_pos (by simpa using ht))
  · obtain ⟨h1, h2, h3, h4, h5⟩ := s.inputChange_up i t v held hr hi hl hact hv ha hm hinv hidx hd
    exact ⟨_, next_congr (s.posTake_eq i t _ hlate ht (.inl rfl)), h1, h2, h3, h4, h5⟩
  · obtain ⟨h1, h2, h3⟩ := s.inputChange_down i t v held hr hi hl hact hv ha hm hinv hidx hd
    exact ⟨_, next_congr (s.posTake_eq i t _ hlate ht (.inl rfl)), h1, h2, h3⟩
  · obtain ⟨h1, h2, h3, h4⟩ := s.inputChange_jump i t v held hr hi hl hact hv ha hm hinv hidx hd hq hasrt
    exact ⟨_, next_congr (s.posTake_eq i t _ hlate ht (.inl rfl)), h1, h2, h3, h4⟩
  · obtain ⟨h1, h2, h3⟩ := s.inputChange_index i t v held hr hi hl hact hv ha hm hinv ho h4 hd hc hg hh hn
    exact ⟨_, next_congr (s.posTake_eq i t _ hlate ht (.inl rfl)), h1, h2, h3⟩
  · obtain ⟨h1, h2, h3, h4⟩ := s.inputChange_pulses i t v held hr hi hl hact hv ha hm ho hn
    exact ⟨_, next_congr (s.posTake_eq i t _ hlate ht (.inl rfl)), h1, h2, h3, h4⟩
  · exact ⟨_, next_congr (s.posTake_eq i t _ hlate ht (.inl rfl)), s.inputChange_none i t v held hr hi hl hact hv m hm h13 ha⟩
  · exact next_congr ((if_neg (by simpa using ht)).trans (if_pos hlate))
  · have hposTake : s.posTake i t (.indexEdge i t true held) = (State.takeAhead (List.foldl State.posAct s
        ((s.sameClock i (t / 10)).filter isStep)) i ((s.sameClock i (t / 10)).filter isStep)).posAct (.indexEdge i t true held) :=
      (if_neg (by simpa using ht)).trans (if_neg hlate)
    rw [hc] at hposTake
    exact next_congr hposTake
  · obtain ⟨h1, h2, h3, h4⟩ := s.indexChange_held i t held hr hi hl hact hm ha ho hc hg hh hn
    exact ⟨_, next_congr (s.posTake_eq i t _ hlate ht (.inr hnone)), h1, h2, h3, h4⟩
  · obtain ⟨h1, h2, h3, h4, h5, h6⟩ := s.indexChange_aligned i t held hr hi hl hact hm ha ho hc hg d hd hn hh hagree
    exact ⟨_, next_congr (s.posTake_eq i t _ hlate ht (.inr hnone)), h1, h2, h3, h4, h5, h6⟩
  · obtain ⟨h1, h2, h3, h4, h5⟩ := s.indexChange_mismatch i t held hr hi hl hact hm ha ho hc hg d hd hh hz hn hq hasrt
    exact ⟨_, next_congr (s.posTake_eq i t _ hlate ht (.inr hnone)), h1, h2, h3, h4, h5⟩
  · obtain ⟨k1, k2, k3, k4, k5⟩ := s.probeEdge_latched i t m held rising hr hi hact hh hm h1 h4 he hf
    exact ⟨_, next_congr (s.posTake_eq i _ _ hlate ht (.inr hnone)), k1, k2, k3, k4, k5⟩
  · obtain ⟨k1, k2, k3, k4⟩ := s.probeEdge_overrun i t m held rising hr hi hact hh hm h1 h4 he hf
    exact ⟨_, next_congr (s.posTake_eq i _ _ hlate ht (.inr hnone)), k1, k2, k3, k4.1⟩

end Sys2Proof.Machine
end

section
/-!
# Mailboxes, doorbells and service requests (O37)
-/
namespace Sys2Proof.Machine

open Sys2Proof

/-! ### FULL and the doorbells -/

theorem bit_eq_testBit (v i : Nat) : bit v i = v.testBit i := by
  rw [Nat.testBit_eq_decide_div_mod_eq]
  rfl

theorem bit_clear (w m : Nat) : bit (w - w / 2 ^ m % 2 * 2 ^ m) m = false := by
  have h : (w - w / 2 ^ m % 2 * 2 ^ m) / 2 ^ m = w / 2 ^ m - w / 2 ^ m % 2 := by
    rw [Nat.mul_comm, Nat.sub_mul_div]
  unfold bit
  rw [h]
  exact decide_eq_false (by omega)

theorem State.event_seen (s : State) (e : EvBlk) (b : Nat) (hf : e.ev.ok = true) (hb : b < e.ev.width) :
    bit ((s.event e b).getF e.ev) b = true := by
  have h : bit ((s.setF e.ev (s.getF e.ev ||| 2 ^ b)).getF e.ev) b = true := by
    rw [State.getF_setF_same _ _ _ hf, Nat.mod_eq_of_lt (Nat.or_lt_two_pow (State.getF_lt s e.ev) (Nat.pow_lt_pow_right (by decide) hb))]
    exact bit_or_self _ b
  unfold State.event
  dsimp only
  split
  · exact h
  · exact h

section
variable (s : State) (m : Nat)

theorem State.setFull_full (hm : m < 16) (j : Nat) : bit ((s.setFull m true).getF F.MBX_STATUS_FULL) j =
    (bit (s.getF F.MBX_STATUS_FULL) j || decide (j = m)) := by
  have hw := State.getF_lt s F.MBX_STATUS_FULL
  rw [State.setFull, if_pos rfl, State.getF_setF_same _ _ _ rfl, Nat.mod_eq_of_lt (Nat.or_lt_two_pow hw (Nat.pow_lt_pow_right (by decide) hm)),
    bit_eq_testBit, bit_eq_testBit, Nat.testBit_or, Nat.testBit_two_pow]
  simp only [eq_comm]

theorem State.setFull_clear : bit ((s.setFull m false).getF F.MBX_STATUS_FULL) m = false := by
  have hw := State.getF_lt s F.MBX_STATUS_FULL
  rw [State.setFull, if_neg (by decide), State.getF_setF_same _ _ _ rfl, Nat.mod_eq_of_lt (by omega)]
  exact bit_clear _ m

theorem State.mbxStat_apart (f g : Fld) (hf : f.addr = 0x401600C0 + 4 * m) (hg : g.addr < 0x401600C0) : f.apart g = true :=
  (Fld.apart_iff _ _).2 (.inl (by rw [hf]; omega))

/-! ### A message completed, blocked, taken -/

/-- The registers of mailbox `m` with the shared ones. -/
abbrev mbxRegs (m a : Nat) : Prop := a ∈ [0x40160000, 0x40160004, 0x4016000C] ∨ a = 0x401600C0 + 4 * m

theorem mbxRegs_block (hm : m < 16) : ∀ a, mbxRegs m a → inBlocks [0x4016] a := by
  rintro a (h | rfl)
  · exact (by decide : ∀ a ∈ [0x40160000, 0x40160004, 0x4016000C], inBlocks [0x4016] a) a h
  · exact List.mem_singleton.2 (by omega)

/-- What no update of registers shows. -/
def State.mbxView (s : State) : Sys × Mbx := (s.sys, s.mbx)

theorem State.blind_mbxView : State.Blind State.mbxView := by
  rintro bs s _ ⟨-, r, f, j, g, m, rfl⟩
  rfl

/-- A message with the time it came. -/
def State.mbxStamped : State := { s with mbx := { s.mbx with since := s.mbx.since.set m s.sys.tick } }

theorem State.mbxComplete_eq : s.mbxComplete m =
    (((s.mbxStamped m).setFull m true).setF (F.MBX_STAT_SENT m) ((s.getF (F.MBX_STAT_SENT m) + 1) % 256)).ringDoorbell m := rfl

theorem State.ringDoorbell_shows (b : Nat) : (s.ringDoorbell b).reg 0x4016000C = s.reg 0x4016000C ||| w32 (2 ^ b) ∧
    (∀ a, a ≠ 0x4016000C → (s.ringDoorbell b).reg a = s.reg a) :=
  ⟨State.reg_setReg_same _ _ _, fun _ ha => State.reg_setReg_other _ _ _ _ fun h => ha h.symm⟩

theorem State.ringDoorbell_bit (b : Nat) (hb : b < 32) : bit ((s.ringDoorbell b).reg 0x4016000C).toNat b = true := by
  rw [(s.ringDoorbell_shows b).1, BitVec.toNat_or, w32, BitVec.toNat_ofNat, Nat.mod_eq_of_lt (Nat.pow_lt_pow_right (by decide) hb)]
  exact bit_or_self _ b

theorem State.mbxComplete_touches : (s.mbxStamped m).Touches (mbxRegs m) State.mbxView (s.mbxComplete m) := by
  rw [s.mbxComplete_eq]
  exact (((State.Touches.refl State.blind_mbxView _ _).setF _ _ (.inl (by decide))).setF _ _ (.inr rfl)).setReg _ _ (.inl (by decide))

theorem State.mbxComplete_within (hm : m < 16) : s.Within [0x4016] (s.mbxComplete m) :=
  ((State.Within.refl _ s).hidden ..).trans ((s.mbxComplete_touches m).mono (mbxRegs_block m hm)).within

theorem State.mbxComplete_full (hm : m < 16) (j : Nat) : bit ((s.mbxComplete m).getF F.MBX_STATUS_FULL) j =
    (bit (s.getF F.MBX_STATUS_FULL) j || decide (j = m)) := by
  rw [s.mbxComplete_eq, State.getF_congr ((State.ringDoorbell_shows _ m).2 _ (by decide)),
    State.getF_setF_apart _ _ _ _ rfl (State.mbxStat_apart m _ _ rfl (by decide)), State.setFull_full _ m hm]
  rfl

theorem State.mbxComplete_sent (hm : m < 16) : (s.mbxComplete m).getF (F.MBX_STAT_SENT m) = (s.getF (F.MBX_STAT_SENT m) + 1) % 256 := by
  rw [s.mbxComplete_eq, State.getF_congr ((State.ringDoorbell_shows _ m).2 _ (by simp only [F.MBX_STAT_SENT]; omega)), State.getF_setF_same _ _ _ rfl]
  exact Nat.mod_mod _ _

theorem State.mbxBlocked_touches : s.Touches (mbxRegs m) State.mbxView (s.mbxBlocked m) :=
  ((State.Touches.refl State.blind_mbxView _ s).incF _ (.inr rfl)).event _ _ (.inl (by decide))

theorem State.mbxBlocked_shows : (s.mbxBlocked m).getF F.MBX_STATUS_FULL = s.getF F.MBX_STATUS_FULL ∧
    (s.mbxBlocked m).getF (F.MBX_STAT_TAKEN m) = s.getF (F.MBX_STAT_TAKEN m) ∧
    (s.mbxBlocked m).getF (F.MBX_STAT_BLOCKED m) = min 255 (s.getF (F.MBX_STAT_BLOCKED m) + 1) := by
  unfold State.mbxBlocked
  have hne : Ev.mbx.ev.addr ≠ (F.MBX_STAT_TAKEN m).addr := by
    simp only [Ev.mbx, F.MBX_EVENT_SEEN, F.MBX_STAT_TAKEN]
    omega
  refine ⟨?_, ?_, State.getF_incF_event _ _ _ _ rfl hne⟩
  · rw [State.getF_event_other _ _ _ _ (by decide), State.getF_incF_apart _ _ _ rfl (State.mbxStat_apart m _ _ rfl (by decide))]
  · rw [State.getF_event_other _ _ _ _ hne, State.getF_incF_apart _ _ _ rfl (by simp [Fld.apart_iff, F.MBX_STAT_BLOCKED, F.MBX_STAT_TAKEN])]

theorem State.mbxTaken_touches : s.Touches (mbxRegs m) State.mbxView (s.mbxTaken m) :=
  (((State.Touches.refl State.blind_mbxView _ s).setF _ _ (.inl (by decide))).setF _ _ (.inr rfl)).setReg _ _ (.inl (by decide))

theorem State.mbxTaken_shows (hm : m < 16) : bit ((s.mbxTaken m).getF F.MBX_STATUS_FULL) m = false ∧
    (s.mbxTaken m).getF (F.MBX_STAT_TAKEN m) = (s.getF (F.MBX_STAT_TAKEN m) + 1) % 256 ∧
    (s.mbxTaken m).getF (F.MBX_STAT_BLOCKED m) = s.getF (F.MBX_STAT_BLOCKED m) ∧
    bit ((s.mbxTaken m).reg 0x4016000C).toNat (16 + m) = true := by
  have hne (f : Fld) (hf : f.addr = 0x401600C0 + 4 * m) : (s.mbxTaken m).getF f =
      ((s.setFull m false).setF (F.MBX_STAT_TAKEN m) ((s.getF (F.MBX_STAT_TAKEN m) + 1) % 256)).getF f :=
    State.getF_congr ((State.ringDoorbell_shows _ _).2 _ (by rw [hf]; omega))
  refine ⟨?_, ?_, ?_, State.ringDoorbell_bit _ _ (by omega)⟩
  · rw [show (s.mbxTaken m).getF F.MBX_STATUS_FULL = (s.setFull m false).getF F.MBX_STATUS_FULL from
      (State.getF_congr ((State.ringDoorbell_shows _ _).2 _ (by decide))).trans
        (State.getF_setF_apart _ _ _ _ rfl (State.mbxStat_apart m _ _ rfl (by decide)))]
    exact s.setFull_clear m
  · rw [hne _ rfl, State.getF_setF_same _ _ _ rfl]
    exact Nat.mod_mod _ _
  · rw [hne _ rfl, State.getF_setF_apart _ _ _ _ rfl (by simp [Fld.apart_iff, F.MBX_STAT_BLOCKED, F.MBX_STAT_TAKEN])]
    exact State.getF_setF_apart _ _ _ _ rfl ((Fld.apart_iff _ _).2 (.inl (by simp only [F.MBX_STATUS_FULL, F.MBX_STAT_BLOCKED]; omega)))

/-! ### The senders and receivers -/

theorem mbxSides (m : Nat) (hm : m < 14) : mbxSender m < 3 ∧ mbxReceiver m < 3 := by
  interval_cases m <;> decide

theorem State.sideAwake_run (side : Nat) (hr : s.sys.phase = .run) (hs : side < 3) (hg : s.flag F.HOB_STATUS_RUNNING = true) :
    s.sideAwake side = true := by
  simp [State.sideAwake, State.running_of_run hr, hg]
  omega

/-- A side's bank of MBX_SEL. -/
def State.mbxSelected (side : Nat) : State := { s with mbx := { s.mbx with sel := s.mbx.sel.set side m } }

theorem State.mbxSelect_low (side : Nat) (hs : side < 3) : s.mbxSelect side m = s.mbxSelected m side := if_pos hs

theorem State.messageSend_gated (side : Nat) (l : List (Nat × Word)) (ha : s.sideAwake side = true) (hm : m < 16) (hs : side < 2)
    (hg : s.mbxGated = true) (hl : ∀ x ∈ l, x.1 < 16) :
    s.messageSend side m l = { s with mbx := { s.mbx with held := s.mbx.held ++ l.map (fun x => (side, m, x.1, x.2)) } } := by
  refine (if_neg (by simp [ha, hm])).trans ((if_neg (by omega)).trans ((if_pos ⟨hs, hg⟩).trans ?_))
  rw [List.filter_eq_self.2 fun x hx => decide_eq_true (hl x hx)]

theorem State.messageSend_one (side k : Nat) (w : Word) (ha : s.sideAwake side = true) (hm : m < 16) (hs : side < 3)
    (hg : side < 2 → s.mbxGated = false) (hk : k < 16) : s.messageSend side m [(k, w)] = (s.mbxSelected m side).mbxPut side m k w := by
  refine (if_neg (by simp [ha, hm])).trans ((if_neg (by omega)).trans ((if_neg ?_).trans ?_))
  · rintro ⟨h1, h2⟩
    rw [hg h1] at h2
    exact absurd h2 (by decide)
  · rw [List.filter_eq_self.2 (by simpa using hk), s.mbxSelect_low m side hs]
    rfl

end

/-! ### Words of a window -/

section
variable (s : State) (m : Nat)

theorem getD_set_self {α : Type} (l : List α) (i : Nat) (x d : α) (h : i < l.length) : (l.set i x).getD i d = x := by
  rw [List.getD_eq_getElem _ _ (by rwa [List.length_set]), List.getElem_set_self]

theorem State.mbxWord_set (k j : Nat) (w : Word) (hm : m < s.mbx.data.length) (hk : k < (s.mbx.data.getD m []).length) :
    (s.setMbxWord m k w).mbxWord m j = if j = k then w else s.mbxWord m j := by
  show ((s.mbx.data.set m ((s.mbx.data.getD m []).set k w)).getD m []).getD j 0 = _
  rw [getD_set_self _ _ _ _ hm]
  split <;> rename_i h
  · rw [h, getD_set_self _ _ _ _ hk]
  · rw [List.getD_eq_getElem?_getD, List.getElem?_set_ne (fun h' => h h'.symm), ← List.getD_eq_getElem?_getD]
    rfl

theorem State.setMbxWord_lengths (k : Nat) (w : Word) (hm : m < s.mbx.data.length) :
    (s.setMbxWord m k w).mbx.data.length = s.mbx.data.length ∧
    ((s.setMbxWord m k w).mbx.data.getD m []).length = (s.mbx.data.getD m []).length := by
  refine ⟨List.length_set, ?_⟩
  show ((s.mbx.data.set m ((s.mbx.data.getD m []).set k w)).getD m []).length = _
  rw [getD_set_self _ _ _ _ hm, List.length_set]

theorem State.mbxPut_empty (k : Nat) (w : Word) (side : Nat) (hs : side = mbxSender m) (hf : s.mbxFull m = false) :
    s.mbxPut side m k w = (s.setMbxWord m k w).when (decide (k = 15)) (fun s => s.mbxComplete m) :=
  (if_neg (by simp [hs])).trans (if_neg (by simp [hf]))

theorem State.mbxPut_full (k : Nat) (w : Word) (side : Nat) (hs : side = mbxSender m) (hf : s.mbxFull m = true) :
    s.mbxPut side m k w = s.mbxBlocked m :=
  (if_neg (by simp [hs])).trans (if_pos hf)

/-- The word that completes a message. -/
theorem State.mbxPut_last (w : Word) (side : Nat) (hs : side = mbxSender m) (hf : s.mbxFull m = false) :
    s.mbxPut side m 15 w = (s.setMbxWord m 15 w).mbxComplete m := s.mbxPut_empty m 15 w side hs hf

theorem State.mbxComplete_mbx : (s.mbxComplete m).mbx = { s.mbx with since := s.mbx.since.set m s.sys.tick } :=
  congrArg Prod.snd (s.mbxComplete_touches m).same

/-- An awake side's doorbell, masked in, is on its line. -/
theorem State.doorbellLine_of (hm : m < 16) (h1 : bit (s.reg F.MBX_DB_PEND_FILLED.addr).toNat m = true)
    (h2 : bit (s.reg F.MBX_DB_MASK_MASK.addr).toNat m = true) : s.doorbellLine (mbxReceiver m) = true := by
  unfold State.doorbellLine
  rw [List.any_eq_true]
  refine ⟨m, List.mem_range.2 hm, ?_⟩
  rw [bit_eq_testBit] at h1 h2
  simp [bit_eq_testBit, BitVec.toNat_and, Nat.testBit_and, h1, h2]

end

/-! ### The clauses of a mailbox -/

section
variable (s : State) (m : Nat) (hr : s.sys.phase = .run) (hm : m < 14) (hrun : s.flag F.HOB_STATUS_RUNNING = true)
include hr hm hrun

theorem State.messageSend_last (w : Word) (hd : s.mbx.data.length = 16) (hl : (s.mbx.data.getD m []).length = 16) (hn : s.mbx.since.length = 16)
    (hg : mbxSender m < 2 → s.mbxGated = false) (hf : bit (s.getF F.MBX_STATUS_FULL) m = false) :
    ∃ t, s.messageSend (mbxSender m) m [(15, w)] = t ∧ bit (t.getF F.MBX_STATUS_FULL) m = true ∧
      (t.mbx.data.getD m []).getD 15 0 = w ∧ t.getF (F.MBX_STAT_SENT m) = (s.getF (F.MBX_STAT_SENT m) + 1) % 256 ∧
      bit (t.reg 0x4016000C).toNat m = true ∧ t.mbx.since.getD m 0 = s.sys.tick ∧
      (bit (s.reg F.MBX_DB_MASK_MASK.addr).toNat m = true → t.doorbellLine (mbxReceiver m) = true) ∧ s.Within [0x4016] t := by
  have hside := (mbxSides m hm).1
  rw [s.messageSend_one m (mbxSender m) 15 w (s.sideAwake_run _ hr hside hrun) (by omega) hside hg (by decide),
    (s.mbxSelected m (mbxSender m)).mbxPut_last m w (mbxSender m) rfl hf]
  have hword := (s.mbxSelected m (mbxSender m)).mbxWord_set m 15 15 w (show m < s.mbx.data.length by omega)
    (show 15 < (s.mbx.data.getD m []).length by omega)
  rw [if_pos rfl] at hword
  have hu : s.Within [0x4016] ((s.mbxSelected m (mbxSender m)).setMbxWord m 15 w) := (State.Within.refl _ s).hidden ..
  have hregs : ((s.mbxSelected m (mbxSender m)).setMbxWord m 15 w).regs = s.regs := rfl
  have htick : ((s.mbxSelected m (mbxSender m)).setMbxWord m 15 w).sys.tick = s.sys.tick := rfl
  have hsince : ((s.mbxSelected m (mbxSender m)).setMbxWord m 15 w).mbx.since = s.mbx.since := rfl
  generalize (s.mbxSelected m (mbxSender m)).setMbxWord m 15 w = u at *
  have hreg (a : Nat) : u.reg a = s.reg a := by
    unfold State.reg
    rw [hregs]
  have hbit : bit ((u.mbxComplete m).reg 0x4016000C).toNat m = true := State.ringDoorbell_bit _ m (by omega)
  refine ⟨_, rfl, ?_, ?_, ?_, hbit, ?_, fun hmask => State.doorbellLine_of _ m (by omega) hbit ?_, hu.trans (u.mbxComplete_within m (by omega))⟩
  · rw [u.mbxComplete_full m (by omega)]
    simp
  · rw [u.mbxComplete_mbx]
    exact hword
  · rw [u.mbxComplete_sent m (by omega), State.getF_congr (hreg _)]
  · rw [u.mbxComplete_mbx, hsince, htick, getD_set_self _ _ _ _ (by omega)]
  · rw [(u.mbxComplete_touches m).regs F.MBX_DB_MASK_MASK.addr (by simp only [mbxRegs, F.MBX_DB_MASK_MASK]; simp; omega)]
    exact (congrArg (fun x : Word => bit x.toNat m) (hreg _)).trans hmask

theorem State.messageSend_blocked (k : Nat) (w : Word) (hk : k < 16) (hg : mbxSender m < 2 → s.mbxGated = false)
    (hf : bit (s.getF F.MBX_STATUS_FULL) m = true) :
    s.messageSend (mbxSender m) m [(k, w)] = (s.mbxSelected m (mbxSender m)).mbxBlocked m := by
  have hside := (mbxSides m hm).1
  rw [s.messageSend_one m (mbxSender m) k w (s.sideAwake_run _ hr hside hrun) (by omega) hside hg hk]
  exact State.mbxPut_full _ m k w _ rfl hf

/-- The receiver reads word 15, with what its sender writes at once. -/
theorem State.messageTake_full (l : List (Nat × Word)) (hf : bit (s.getF F.MBX_STATUS_FULL) m = true) :
    s.messageTake (mbxReceiver m) m l =
      ((s.mbxSelected m (mbxReceiver m)).when (!l.isEmpty) (fun s => s.messageSend (mbxSender m) m l)).mbxTake (mbxReceiver m) m := by
  have hside := (mbxSides m hm).2
  have hmay : s.mayTake (mbxReceiver m) m = true := by
    have h14 : m ≠ 14 := by omega
    have h3 : mbxReceiver m ≠ 3 := by omega
    simp [State.mayTake, s.sideAwake_run _ hr hside hrun, h14, h3]
  have hsel : s.when (s.mayTake (mbxReceiver m) m) (fun s => s.mbxSelect (mbxReceiver m) m) = s.mbxSelected m (mbxReceiver m) := by
    rw [State.when_true _ _ _ hmay, s.mbxSelect_low m _ hside]
  have hfull : (s.mbxFull m && s.mayTake (mbxReceiver m) m) = true := by
    rw [hmay, Bool.and_true]
    exact hf
  unfold State.messageTake
  rw [if_neg (by simp [State.running_of_run hr]; omega)]
  dsimp only
  rw [hsel, if_pos hfull]

omit hr hrun in
theorem State.mbxTake_receiver (hf : s.mbxFull m = true) : s.mbxTake (mbxReceiver m) m = s.mbxTaken m := by
  have hside := (mbxSides m hm).2
  refine if_neg ?_
  rw [hf]
  simp
  omega

end

theorem State.doorbellClear_bit (s : State) (value rung b : Nat) (hb : b < 32) :
    bit ((s.doorbellClear value rung).reg 0x4016000C).toNat b = (bit (s.reg 0x4016000C).toNat b && (!bit value b || bit rung b)) := by
  rw [State.doorbellClear, show (0x4016000C : Nat) = F.MBX_DB_PEND_FILLED.addr from rfl, State.reg_setReg_same]
  simp only [bit_eq_testBit, BitVec.toNat_and, BitVec.toNat_or, Nat.testBit_and, Nat.testBit_or, BitVec.testBit_toNat, BitVec.getLsbD_not, w32,
    BitVec.getLsbD_ofNat, hb, decide_true, Bool.true_and]

/-! ### Requests to andiron N -/

section
variable (s : State)

/-- Other words in the mailboxes. -/
def State.withWords (d : List (List Word)) : State := { s with mbx := { s.mbx with data := d } }

/-- Words of the reply before the one that completes it. -/
theorem State.replyWords (l : List Word) : ∀ (s : State) (n : Nat), n + l.length ≤ 15 → s.mbxFull 15 = false → s.mbx.data.length = 16 →
    (s.mbx.data.getD 15 []).length = 16 →
    ∃ d, (l.zipIdx n).foldl (fun (s : State) x => s.mbxPut 0 15 x.2 x.1) s = s.withWords d ∧ d.length = 16 ∧
      (d.getD 15 []).length = 16 ∧ ∀ k, (d.getD 15 []).getD k 0 = if n ≤ k ∧ k < n + l.length then l.getD (k - n) 0 else s.mbxWord 15 k := by
  induction l with
  | nil =>
    intro s n _ _ hd hl
    exact ⟨s.mbx.data, rfl, hd, hl, fun k => (if_neg (by simp)).symm⟩
  | cons w l ih =>
    intro s n hn hf hd hl
    rw [List.length_cons] at hn
    have hput : s.mbxPut 0 15 n w = s.setMbxWord 15 n w := by
      rw [s.mbxPut_empty 15 n w 0 rfl hf, show decide (n = 15) = false from decide_eq_false (by omega)]
      rfl
    obtain ⟨h1, h2⟩ := s.setMbxWord_lengths 15 n w (by omega)
    obtain ⟨d, hd1, hd2, hd3, hd4⟩ := ih (s.setMbxWord 15 n w) (n + 1) (by omega) hf (h1.trans hd) (h2.trans hl)
    refine ⟨d, ?_, hd2, hd3, fun k => (hd4 k).trans ?_⟩
    · rw [List.zipIdx_cons, List.foldl_cons, hput, hd1]
      rfl
    · rw [s.mbxWord_set 15 n k w (by omega) (by omega), List.length_cons]
      by_cases hk : k = n
      · subst hk
        rw [if_neg (by omega), if_pos rfl, if_pos (by omega), Nat.sub_self]
        rfl
      · rw [if_neg hk]
        by_cases hr : n + 1 ≤ k ∧ k < n + 1 + l.length
        · rw [if_pos hr, if_pos (by omega), show k - n = (k - (n + 1)) + 1 by omega]
          rfl
        · rw [if_neg hr, if_neg (by omega)]

/-- A reply of the words `l`, completed by its own last word or by `w`. -/
def State.replied (l : List Word) (w : Word) : State :=
  if l.length = 16 then l.zipIdx.foldl (fun (s : State) x => s.mbxPut 0 15 x.2 x.1) s
  else (l.zipIdx.foldl (fun (s : State) x => s.mbxPut 0 15 x.2 x.1) s).mbxPut 0 15 15 w

theorem State.replied_eq (l : List Word) (w : Word) (h2 : l.length ≤ 16) (hf : s.mbxFull 15 = false) (hd : s.mbx.data.length = 16)
    (hl : (s.mbx.data.getD 15 []).length = 16) :
    ∃ d, s.replied l w = (s.withWords d).mbxComplete 15 ∧
      ∀ k, k < l.length → (d.getD 15 []).getD k 0 = l.getD k 0 := by
  have key (p : List Word) (x : Word) (hp : p.length ≤ 15) : ∃ d, (p.zipIdx.foldl (fun (s : State) x => s.mbxPut 0 15 x.2 x.1) s).mbxPut 0 15 15 x =
      (s.withWords d).mbxComplete 15 ∧ (∀ k, k < p.length → (d.getD 15 []).getD k 0 = p.getD k 0) ∧
        (d.getD 15 []).getD 15 0 = x := by
    obtain ⟨d, hd1, hd2, hd3, hd4⟩ := State.replyWords p s 0 (by omega) hf hd hl
    have hset (k : Nat) := (s.withWords d).mbxWord_set 15 15 k x (show 15 < d.length by omega) (show 15 < (d.getD 15 []).length by omega)
    refine ⟨d.set 15 ((d.getD 15 []).set 15 x), ?_, fun k hk => ?_, ?_⟩
    · rw [hd1, (s.withWords d).mbxPut_last 15 x 0 rfl hf]
      rfl
    · exact (hset k).trans ((if_neg (by omega)).trans ((hd4 k).trans (if_pos ⟨by omega, by omega⟩)))
    · exact (hset 15).trans (if_pos rfl)
  unfold State.replied
  split <;> rename_i h
  · have hsplit : l = l.take 15 ++ [l.getD 15 0] := by
      conv_lhs => rw [← List.take_append_drop 15 l, List.drop_eq_getElem_cons (by omega), List.drop_of_length_le (by omega)]
      rw [List.getD_eq_getElem _ _ (by omega)]
    obtain ⟨d, hd1, hd2, hd3⟩ := key (l.take 15) (l.getD 15 0) (by simp)
    refine ⟨d, ?_, fun k hk => ?_⟩
    · rw [← hd1]
      conv_lhs => rw [hsplit, List.zipIdx_append, List.foldl_append]
      simp [h]
    · by_cases hk15 : k = 15
      · rw [hk15, hd3]
      · rw [hd2 k (by simp; omega)]
        simp [List.getD_eq_getElem?_getD, show k < 15 by omega]
  · obtain ⟨d, hd1, hd2, -⟩ := key l w (by omega)
    exact ⟨d, hd1, hd2⟩

/-- The state in which a reply is placed. -/
def State.requestTaken : State := { s.mbxTaken 14 with free := s.free + 2 }

/-- The words of the reply. -/
def State.replyList : List Word :=
  w32 ((s.mbxWord 14 0).toNat / 65536 * 65536 + s.reply.1) :: s.reply.2.1 :: s.reply.2.2

theorem State.serviceRequest_eq (hr : s.sys.phase = .run) (hm : s.mode = .service) (h14 : bit (s.getF F.MBX_STATUS_FULL) 14 = true)
    (h15 : bit (s.getF F.MBX_STATUS_FULL) 15 = false) :
    s.serviceRequest = s.requestTaken.replied s.replyList (Config.freeWord (s.free + 1)) := by
  have htake : s.mbxTake 0 14 = s.mbxTaken 14 := by
    have hf : s.mbxFull 14 = true := h14
    exact if_neg (by simp [hf, show mbxReceiver 14 = 0 from rfl])
  have hlen : s.replyList.length = 16 ↔ s.reply.2.2.length = 14 := by simp [State.replyList]
  unfold State.serviceRequest
  rw [if_neg (by simp [State.running_of_run hr, hm, State.mbxFull, h14, h15])]
  dsimp only
  rw [htake]
  unfold State.replied
  split <;> rename_i h
  · rw [if_pos (hlen.2 h)]
    rfl
  · rw [if_neg fun h' => h (hlen.1 h')]
    rfl

theorem State.requestTaken_full (h15 : bit (s.getF F.MBX_STATUS_FULL) 15 = false) :
    bit (s.requestTaken.getF F.MBX_STATUS_FULL) 14 = false ∧ bit (s.requestTaken.getF F.MBX_STATUS_FULL) 15 = false := by
  refine ⟨(s.mbxTaken_shows 14 (by decide)).1, ?_⟩
  have hw := State.getF_lt s F.MBX_STATUS_FULL
  have hv : s.requestTaken.getF F.MBX_STATUS_FULL = (s.setFull 14 false).getF F.MBX_STATUS_FULL :=
    (State.getF_congr ((State.ringDoorbell_shows _ _).2 _ (by decide))).trans
      (State.getF_setF_apart _ _ _ _ rfl (State.mbxStat_apart 14 _ _ rfl (by decide)))
  rw [hv, State.setFull, if_neg (by decide), State.getF_setF_same _ _ _ rfl]
  generalize s.getF F.MBX_STATUS_FULL = w at hw h15
  have h := of_decide_eq_false h15
  refine decide_eq_false ?_
  simp only [Fld.width, F.MBX_STATUS_FULL] at hw h ⊢
  omega

/-- What a reply shows. -/
theorem State.serviceRequest_shows (hr : s.sys.phase = .run) (hm : s.mode = .service) (h14 : bit (s.getF F.MBX_STATUS_FULL) 14 = true)
    (h15 : bit (s.getF F.MBX_STATUS_FULL) 15 = false) (hd : s.mbx.data.length = 16) (hl : (s.mbx.data.getD 15 []).length = 16)
    (hlen : s.reply.2.2.length ≤ 14) :
    bit (s.serviceRequest.getF F.MBX_STATUS_FULL) 14 = false ∧ bit (s.serviceRequest.getF F.MBX_STATUS_FULL) 15 = true ∧
    (∀ k, k < s.reply.2.2.length + 2 → s.serviceRequest.mbxWord 15 k = s.replyList.getD k 0) ∧ s.Within [0x4016] s.serviceRequest := by
  obtain ⟨f14, f15⟩ := s.requestTaken_full h15
  have hmbx : s.requestTaken.mbx = s.mbx := congrArg Prod.snd (s.mbxTaken_touches 14).same
  have hw : s.Within [0x4016] s.requestTaken := ((s.mbxTaken_touches 14).mono (mbxRegs_block 14 (by decide))).within.hidden ..
  obtain ⟨d, hd1, hd2⟩ := s.requestTaken.replied_eq s.replyList (Config.freeWord (s.free + 1))
    (by show s.reply.2.2.length + 1 + 1 ≤ 16; omega) f15 (by rw [hmbx, hd]) (by rw [hmbx, hl])
  rw [s.serviceRequest_eq hr hm h14 h15, hd1]
  refine ⟨?_, ?_, fun k hk => ?_, (hw.hidden ..).trans (State.mbxComplete_within _ 15 (by decide))⟩
  · rw [State.mbxComplete_full _ 15 (by decide)]
    exact (Bool.or_eq_false_iff.2 ⟨f14, by decide⟩)
  · rw [State.mbxComplete_full _ 15 (by decide)]
    simp
  · unfold State.mbxWord
    rw [State.mbxComplete_mbx]
    exact hd2 k hk

theorem State.replyList_head (h : s.reply.1 < 65536) : (s.replyList.getD 0 0).toNat % 65536 = s.reply.1 ∧
    (s.replyList.getD 0 0).toNat / 65536 = (s.mbxWord 14 0).toNat / 65536 := by
  have hw : (s.replyList.getD 0 0).toNat = (s.mbxWord 14 0).toNat / 65536 * 65536 + s.reply.1 := by
    refine (BitVec.toNat_ofNat ..).trans (Nat.mod_eq_of_lt ?_)
    have := (s.mbxWord 14 0).isLt
    omega
  rw [hw]
  omega

theorem State.reply_echo (hc : (s.mbxWord 14 0).toNat % 65536 = 1) (hn : (s.mbxWord 14 1).toNat ≤ 56) :
    s.reply = (0x8001, s.mbxWord 14 1, (List.range (min 14 (ceilDiv (s.mbxWord 14 1).toNat 4))).map (fun k => s.mbxWord 14 (2 + k))) := by
  unfold State.reply
  rw [hc]
  dsimp only
  rw [if_pos hn]
  rfl

theorem State.reply_unknown (hc : 4 ≤ (s.mbxWord 14 0).toNat % 65536) : s.reply = (0xFFFF, 0, []) := by
  unfold State.reply
  dsimp only
  split
  · omega
  · omega
  · omega
  · rfl

end

/-- Settles O37: the clauses of one mailbox, then the requests. -/
theorem mailboxCommands : Obligations.MailboxCommands := by
  refine ⟨fun s m hr hm hrun hd hl hn => ⟨fun hs hg l hlt => ?_, fun w hg hf => ?_, fun k w hk hg hf => ?_, fun hf => ?_, fun k w hk hg hf => ?_,
      fun side value rung hs => ?_, fun hf ht => ?_⟩,
    fun s hr hm h14 h15 hd hl => ⟨fun hc hlen => ?_, fun hc => ?_⟩⟩
  · exact next_congr (s.messageSend_gated m _ l (s.sideAwake_run _ hr (by omega) hrun) (by omega) hs hg hlt)
  · obtain ⟨t, ht, h⟩ := s.messageSend_last m hr hm hrun w hd hl hn hg hf
    exact ⟨t, next_congr ht, h⟩
  · obtain ⟨h1, h2, h3⟩ := (s.mbxSelected m (mbxSender m)).mbxBlocked_shows m
    have ht := (s.mbxSelected m (mbxSender m)).mbxBlocked_touches m
    refine ⟨_, next_congr (s.messageSend_blocked m hr hm hrun k w hk hg hf), congrArg (fun v : Sys × Mbx => v.2.data) ht.same, h3, ?_, ?_⟩
    · rw [h1]
      exact hf
    · exact ((State.Within.refl [0x4016] s).hidden ..).trans (ht.mono (mbxRegs_block m (by omega))).within
  · have he := (s.messageTake_full m hr hm hrun [] hf).trans ((s.mbxSelected m (mbxReceiver m)).mbxTake_receiver m hm hf)
    obtain ⟨h1, h2, -, h4⟩ := (s.mbxSelected m (mbxReceiver m)).mbxTaken_shows m (by omega)
    have ht := (s.mbxSelected m (mbxReceiver m)).mbxTaken_touches m
    exact ⟨_, next_congr he, h1, h2, h4, congrArg (fun v : Sys × Mbx => v.2.data) ht.same,
      ((State.Within.refl [0x4016] s).hidden ..).trans (ht.mono (mbxRegs_block m (by omega))).within⟩
  · have he := s.messageTake_full m hr hm hrun [(k, w)] hf
    rw [State.when_true _ (! List.isEmpty [(k, w)]) _ rfl, State.messageSend_blocked (s.mbxSelected m (mbxReceiver m)) m hr hm hrun k w hk hg hf] at he
    have hb := ((s.mbxSelected m (mbxReceiver m)).mbxSelected m (mbxSender m)).mbxBlocked_shows m
    have htb := ((s.mbxSelected m (mbxReceiver m)).mbxSelected m (mbxSender m)).mbxBlocked_touches m
    have hu : s.Within [0x4016] (((s.mbxSelected m (mbxReceiver m)).mbxSelected m (mbxSender m)).mbxBlocked m) :=
      ((State.Within.refl [0x4016] s).hidden ..).trans (htb.mono (mbxRegs_block m (by omega))).within
    have hdata := congrArg (fun v : Sys × Mbx => v.2.data) htb.same
    generalize ((s.mbxSelected m (mbxReceiver m)).mbxSelected m (mbxSender m)).mbxBlocked m = u at *
    obtain ⟨b1, b2, b3⟩ := hb
    have he' := he.trans (u.mbxTake_receiver m hm ((congrArg (fun x => bit x m) b1).trans hf))
    obtain ⟨h1, h2, h3, -⟩ := u.mbxTaken_shows m (by omega)
    have ht := u.mbxTaken_touches m
    exact ⟨_, next_congr he', h1, h2.trans (congrArg (fun x => (x + 1) % 256) b2), h3.trans b3,
      (congrArg (fun v : Sys × Mbx => v.2.data) ht.same).trans hdata, hu.trans (ht.mono (mbxRegs_block m (by omega))).within⟩
  · have ha := s.sideAwake_run side hr hs hrun
    refine ⟨_, next_congr ((if_neg (by simp [ha])).trans (if_neg (by omega))), rfl,
      (State.OnlyRegs.refl _ s).setReg _ _ (by decide), fun b hb => s.doorbellClear_bit value rung b hb⟩
  · have hw : s.Touches (· = F.MBX_EVENT_SEEN.addr) State.sys (s.event Ev.mbx 1) := (State.Touches.refl State.blind_sys _ s).event _ _ rfl
    exact ⟨_, next_congr (if_pos ⟨State.running_of_run hr, by omega, hf, ht⟩), s.event_seen Ev.mbx 1 rfl (by decide),
      fun a ha => hw.regs a fun h => ha (List.mem_singleton.2 h), hw.stores⟩
  · have hrep := s.reply_echo hc hlen
    obtain ⟨h1, h2, h3, h4⟩ := s.serviceRequest_shows hr hm h14 h15 hd hl (by rw [hrep]; simp)
    obtain ⟨k1, k2⟩ := s.replyList_head (by rw [hrep]; exact (by decide : 0x8001 < 65536))
    rw [hrep] at k1
    refine ⟨_, rfl, h1, h2, ?_, ?_, ?_, fun k hk => ?_, h4⟩
    · rw [h3 0 (by omega)]
      exact k1
    · rw [h3 0 (by omega)]
      exact k2
    · rw [h3 1 (by omega), State.replyList, hrep]
      rfl
    · have hn : k < min 14 (ceilDiv (s.mbxWord 14 1).toNat 4) := by
        unfold ceilDiv
        omega
      rw [h3 (2 + k) (by rw [hrep]; simp; omega), State.replyList, hrep, Nat.add_comm 2 k]
      show (List.map _ (List.range _)).getD k 0 = _
      rw [List.getD_eq_getElem _ _ (by simpa using hn), List.getElem_map, List.getElem_range, Nat.add_comm]
  · have hrep := s.reply_unknown hc
    obtain ⟨h1, h2, h3, h4⟩ := s.serviceRequest_shows hr hm h14 h15 hd hl (by rw [hrep]; simp)
    obtain ⟨k1, k2⟩ := s.replyList_head (by rw [hrep]; decide)
    rw [hrep] at k1
    refine ⟨_, rfl, h2, ?_, ?_, h4⟩
    · rw [h3 0 (by omega)]
      exact k1
    · rw [h3 1 (by omega), State.replyList, hrep]
      rfl

end Sys2Proof.Machine
end

section
/-!
# Checkpoints and the freeze (O16)
-/
namespace Sys2Proof.Machine

open Sys2Proof

/-! ### Checkpoints -/

theorem length_leBytes (n : Nat) : ∀ v, (leBytes n v).length = n := by
  induction n with
  | zero => exact fun _ => rfl
  | succ n ih => exact fun v => congrArg (· + 1) (ih _)

theorem length_wordsMap (l : List (Word × Bool)) : (wordsMap l).length = 4 * l.length + mapBytes l.length := by
  have h : (l.flatMap (fun x => leBytes 4 x.1.toNat)).length = 4 * l.length := by
    rw [List.length_flatMap]
    simp [length_leBytes, Nat.mul_comm]
  unfold wordsMap ageMap
  rw [List.length_append, h, length_leBytes, List.length_map]

section
variable (s : State)

/-- The ring with an item more, before its registers. -/
def State.ringWith (ckpt : Bool) (sc : Nat) (bs : List Byte) : State :=
  State.ringWrite { s with jrn := { s.jrn with items := ringEvict bs.length s.jrn.items ++
    [⟨ckpt, sc, s.getF F.JRN_HEAD_OFFSET % ringSize, bs.length⟩] } } (s.getF F.JRN_HEAD_OFFSET % ringSize) bs

theorem State.ringPush_eq (ckpt : Bool) (sc : Nat) (bs : List Byte) : s.ringPush ckpt sc bs =
    (s.ringWith ckpt sc bs).refreshRing ((s.getF F.JRN_HEAD_OFFSET % ringSize + bs.length) % ringSize) := rfl

theorem State.refreshRing_within (head : Nat) : s.Within [0x4013] (s.refreshRing head) := by
  unfold State.refreshRing
  exact (((State.Within.refl [0x4013] s).setF _ _ (by decide)).setF _ _ (by decide)).setF _ _ (by decide)

theorem State.refreshRing_jrn (head : Nat) : (s.refreshRing head).jrn = s.jrn := by
  rw [State.refreshRing, State.setF_jrn, State.setF_jrn, State.setF_jrn]

theorem State.ringPush_last (ckpt : Bool) (sc : Nat) (bs : List Byte) :
    (s.ringPush ckpt sc bs).jrn.items.getLast? = some ⟨ckpt, sc, s.getF F.JRN_HEAD_OFFSET % ringSize, bs.length⟩ := by
  rw [s.ringPush_eq, State.refreshRing_jrn]
  exact List.getLast?_concat

theorem State.ringPush_frame (ckpt : Bool) (sc : Nat) (bs : List Byte) : s.SameRegs [0x4013] (s.ringPush ckpt sc bs) ∧
    (s.ringPush ckpt sc bs).mram = s.mram ∧ (s.ringPush ckpt sc bs).flash = s.flash ∧ (s.ringPush ckpt sc bs).otp = s.otp ∧
    (s.ringPush ckpt sc bs).getF F.JRN_CKPT_CNT_COUNT = s.getF F.JRN_CKPT_CNT_COUNT := by
  have hreg : (s.ringWith ckpt sc bs).regs = s.regs := rfl
  obtain ⟨h1, -, h3, h4, h5⟩ := (s.ringWith ckpt sc bs).refreshRing_within ((s.getF F.JRN_HEAD_OFFSET % ringSize + bs.length) % ringSize)
  have hcnt (u : State) (head : Nat) : (u.refreshRing head).getF F.JRN_CKPT_CNT_COUNT = u.getF F.JRN_CKPT_CNT_COUNT := by
    rw [State.refreshRing, State.getF_setF_apart _ _ _ _ rfl (by decide), State.getF_setF_apart _ _ _ _ rfl (by decide),
      State.getF_setF_apart _ _ _ _ rfl (by decide)]
  rw [s.ringPush_eq]
  exact ⟨fun a ha => (h1 a ha).trans (congrFun (congrArg (fun r => fun a => State.reg { s with regs := r } a) hreg) a), h3, h4, h5, hcnt _ _⟩

theorem State.checkpoint_eq (sc : Nat) (h : ∀ x ∈ s.jrn.items, x.ckpt = true → x.s ≠ sc) : s.checkpoint sc =
    (s.ringPush true sc (leBytes 4 sc ++ leBytes 4 (s.ckptSet.map s.carryVal).length ++ List.replicate 56 0 ++
      wordsMap (s.ckptSet.map s.carryVal))).incF F.JRN_CKPT_CNT_COUNT := by
  refine if_neg ?_
  simpa using fun x hx hc => h x hx hc

/-! ### The freeze -/

theorem State.freeze_shows : s.freeze.flag F.JRN_STATUS_FROZEN = true ∧ s.freeze.flag F.JRN_STATUS_RECORDING = false ∧
    s.freeze.flag F.JRN_STATUS_COMMIT_WAIT = true ∧
    s.freeze.getF F.JRN_FREEZE_CNT_COUNT = min (2 ^ 32 - 1) (s.getF F.JRN_FREEZE_CNT_COUNT + 1) ∧ s.Within [0x4013] s.freeze := by
  unfold State.freeze
  refine ⟨?_, ?_, ?_, ?_, ?_⟩
  · rw [State.flag_event_other _ _ _ _ (by decide), State.flag_incF_apart _ _ _ rfl (by decide), State.flag_setFlag_apart _ _ _ _ rfl (by decide),
      State.flag_setFlag_same _ _ _ rfl]
  · rw [State.flag_event_other _ _ _ _ (by decide), State.flag_incF_apart _ _ _ rfl (by decide), State.flag_setFlag_apart _ _ _ _ rfl (by decide),
      State.flag_setFlag_apart _ _ _ _ rfl (by decide), State.flag_setFlag_same _ _ _ rfl]
  · rw [State.flag_event_other _ _ _ _ (by decide), State.flag_incF_apart _ _ _ rfl (by decide), State.flag_setFlag_same _ _ _ rfl]
  · rw [State.getF_incF_event _ _ _ _ rfl (by decide), State.getF_setFlag_apart _ _ _ _ rfl (by decide),
      State.getF_setFlag_apart _ _ _ _ rfl (by decide), State.getF_setFlag_apart _ _ _ _ rfl (by decide)]
    rfl
  · exact (((((State.Within.refl [0x4013] s).setFlag _ _ (by decide)).setFlag _ _ (by decide)).setFlag _ _ (by decide)).incF _ (by decide)).event _ _ (by decide)

/-- What a freeze does not see. -/
def State.ashView (s : State) : Sys × List AshReq := (s.sys, s.ash.queue)

theorem State.blind_ashView : State.Blind State.ashView := by
  rintro bs s _ ⟨-, r, f, j, g, m, rfl⟩
  rfl

theorem State.freeze_touches : s.Touches (inBlocks [0x4013]) State.ashView s.freeze :=
  (((((State.Touches.refl State.blind_ashView (inBlocks [0x4013]) s).setFlag _ _ (by decide)).setFlag _ _ (by decide)).setFlag _ _
    (by decide)).incF _ (by decide)).event _ _ (by decide)

/-- The record that a freeze asks for. -/
def State.freezeRecord : AshReq :=
  ⟨4, 0, s.freeze.windowBody (s.freeze.jrn.trig.getD ⟨0, 0, 0⟩) false (upToEntry (s.freeze.jrn.items.dropWhile (fun x => !x.ckpt))),
    s.freeze.sys.tick, s.freeze.flu.time⟩

theorem State.journalFreeze_eq (hr : s.sys.phase = .run) (hp : s.jrn.post = some 0) (hf : s.flag F.JRN_STATUS_FROZEN = false) :
    s.journalFreeze = { s.freeze with ash := { s.freeze.ash with queue := s.freeze.ash.queue ++ [s.freezeRecord] } } :=
  if_pos ⟨State.running_of_run hr, hp, hf⟩

theorem State.checkpoint_shows (sc : Nat) (h : ∀ x ∈ s.jrn.items, x.ckpt = true → x.s ≠ sc) :
    (s.checkpoint sc).jrn.items.getLast? = some ⟨true, sc, s.getF F.JRN_HEAD_OFFSET % ringSize, ckptBytes s.ckptSet.length⟩ ∧
    (s.checkpoint sc).getF F.JRN_CKPT_CNT_COUNT = min (2 ^ 32 - 1) (s.getF F.JRN_CKPT_CNT_COUNT + 1) ∧
    s.SameRegs [0x4013] (s.checkpoint sc) ∧ (s.checkpoint sc).mram = s.mram ∧ (s.checkpoint sc).flash = s.flash ∧ (s.checkpoint sc).otp = s.otp := by
  have hlen : (leBytes 4 sc ++ leBytes 4 (s.ckptSet.map s.carryVal).length ++ List.replicate 56 0 ++
      wordsMap (s.ckptSet.map s.carryVal)).length = ckptBytes s.ckptSet.length := by
    simp only [List.length_append, length_leBytes, length_wordsMap, List.length_replicate, List.length_map, ckptBytes]
    omega
  rw [s.checkpoint_eq sc h, ← hlen]
  generalize leBytes 4 sc ++ leBytes 4 (s.ckptSet.map s.carryVal).length ++ List.replicate 56 0 ++ wordsMap (s.ckptSet.map s.carryVal) = bs
  obtain ⟨h1, h2, h3, h4, h5⟩ := s.ringPush_frame true sc bs
  have hlast := s.ringPush_last true sc bs
  generalize s.ringPush true sc bs = u at *
  obtain ⟨k1, -, k2, k3, k4⟩ := (State.Within.refl [0x4013] u).incF F.JRN_CKPT_CNT_COUNT (by decide)
  refine ⟨(congrArg (fun j : Jrn => j.items.getLast?) (State.incF_jrn ..)).trans hlast, ?_, fun a ha => (k1 a ha).trans (h1 a ha), k2.trans h2,
    k3.trans h3, k4.trans h4⟩
  rw [State.getF_incF_same _ _ rfl, h5]
  rfl

end

/-- Settles O16: the checkpoint, then the freeze. -/
theorem journalCommands : Obligations.JournalCommands := by
  refine fun s hr => ⟨fun sc hsc hrec hb hc hnew => ?_, fun hp hf => ?_⟩
  · have he : s.checkpointDue = s.checkpoint sc := by
      unfold State.checkpointDue
      rw [hsc]
      exact if_pos ⟨State.running_of_run hr, hrec, hb, hc⟩
    exact ⟨_, next_congr he, s.checkpoint_shows sc hnew⟩
  · obtain ⟨h1, h2, h3, h4, h5⟩ := s.freeze_shows
    have hv := s.freeze_touches.same
    have htick : s.freezeRecord.tick = s.sys.tick := congrArg (fun v : Sys × List AshReq => v.1.tick) hv
    have hqueue : s.freeze.ash.queue ++ [s.freezeRecord] = s.ash.queue ++ [s.freezeRecord] :=
      congrArg (fun v : Sys × List AshReq => v.2 ++ [s.freezeRecord]) hv
    have he := s.journalFreeze_eq hr hp hf
    have ht : s.freezeRecord.type = 4 := rfl
    have hw : s.freeze.Within [] { s.freeze with ash := { s.freeze.ash with queue := s.freeze.ash.queue ++ [s.freezeRecord] } } :=
      (State.Within.refl [] s.freeze).hidden ..
    obtain ⟨k1, k2⟩ := h5.trans (hw.mono (by simp))
    exact ⟨_, s.freezeRecord, next_congr he, (hw.flag _ (by decide)).trans h1, (hw.flag _ (by decide)).trans h2, (hw.flag _ (by decide)).trans h3,
      (hw.getF _ (by decide)).trans h4, hqueue, ht, htick, k1, k2⟩

end Sys2Proof.Machine
end

section
/-!
# Receivers, bypasses and the damper (O19)
-/
namespace Sys2Proof.Machine

open Sys2Proof

/-! ### The fields of a ring -/

/-- What holds of ring 0 and of ring 1. -/
theorem ring_cases {P : Nat → Prop} (h0 : P 0) (h1 : P 1) (ring : Nat) (h : ring < 2) : P ring := by
  interval_cases ring
  · exact h0
  · exact h1

section
variable (ring : Nat) (h : ring < 2)
include h

theorem ringFields_ok : (ringLock ring).ok = true ∧ (ringOk ring).ok = true ∧ (ringBypass ring).ok = true :=
  ring_cases (P := fun ring => (ringLock ring).ok = true ∧ (ringOk ring).ok = true ∧ (ringBypass ring).ok = true) (by decide) (by decide) ring h

theorem ringFields_block : (ringLock ring).addr / 0x10000 = 0x400D ∧ (ringOk ring).addr / 0x10000 = 0x400D ∧ (ringBypass ring).addr / 0x10000 = 0x400D :=
  ring_cases (P := fun ring => (ringLock ring).addr / 0x10000 = 0x400D ∧ (ringOk ring).addr / 0x10000 = 0x400D ∧
    (ringBypass ring).addr / 0x10000 = 0x400D) (by decide) (by decide) ring h

/-- The lock and what it does not bear on. -/
theorem ringLock_apart : (ringLock ring).apart (ringNodes ring) = true ∧ (ringLock ring).apart (ringBypass ring) = true ∧
    (ringLock ring).apart (ringLock (1 - ring)) = true ∧ (ringLock ring).apart (ringBypass (1 - ring)) = true ∧
    (ringOk ring).apart (ringLock ring) = true :=
  ring_cases (P := fun ring => (ringLock ring).apart (ringNodes ring) = true ∧ (ringLock ring).apart (ringBypass ring) = true ∧
    (ringLock ring).apart (ringLock (1 - ring)) = true ∧ (ringLock ring).apart (ringBypass (1 - ring)) = true ∧
    (ringOk ring).apart (ringLock ring) = true) (by decide) (by decide) ring h

/-- The bits of STATUS are apart from the ports. -/
theorem ringOk_apart (r : Nat) (hr : r < 2) : (ringOk ring).apart (ringLock r) = true ∧ (ringOk ring).apart (ringBypass r) = true ∧
    (ringOk ring).apart F.FLU_STATUS_FORWARDING = true ∧ F.FLU_STATUS_FORWARDING.apart (ringOk ring) = true ∧
    F.FLU_STATUS_FORWARDING.apart (ringLock r) = true ∧ F.FLU_STATUS_FORWARDING.apart (ringBypass r) = true :=
  ring_cases (P := fun ring => ∀ r, r < 2 → (ringOk ring).apart (ringLock r) = true ∧ (ringOk ring).apart (ringBypass r) = true ∧
    (ringOk ring).apart F.FLU_STATUS_FORWARDING = true ∧ F.FLU_STATUS_FORWARDING.apart (ringOk ring) = true ∧
    F.FLU_STATUS_FORWARDING.apart (ringLock r) = true ∧ F.FLU_STATUS_FORWARDING.apart (ringBypass r) = true) (by decide) (by decide) ring h r hr

end

section
variable (s : State) (ring : Nat) (h : ring < 2)

/-- Whether ring `r` forwards. -/
def State.ringPasses (r : Nat) : Bool := !s.flag (ringBypass r) && s.flag (ringLock r)

include h

theorem State.refreshForwarding_ring : s.refreshForwarding.flag F.FLU_STATUS_FORWARDING = (s.ringPasses ring || s.ringPasses (1 - ring)) := by
  refine (State.flag_setFlag_same _ _ _ rfl).trans ?_
  interval_cases ring
  · rfl
  · exact Bool.or_comm _ _

/-- The lock of a ring changes. -/
def State.lockSet (s : State) (ring : Nat) (b : Bool) : State := ((s.setFlag (ringLock ring) b).refreshRingOk ring).refreshForwarding

theorem State.lockSet_shows (b : Bool) : (s.lockSet ring b).flag (ringLock ring) = b ∧
    (s.lockSet ring b).flag (ringOk ring) = (b && decide (0 < s.getF (ringNodes ring))) ∧
    (s.lockSet ring b).flag F.FLU_STATUS_FORWARDING = (!s.flag (ringBypass ring) && b || s.ringPasses (1 - ring)) ∧
    (s.lockSet ring b).ringPasses (1 - ring) = s.ringPasses (1 - ring) := by
  obtain ⟨k1, k2, -⟩ := ringFields_ok ring h
  obtain ⟨a1, a2, a3, a4, a5⟩ := ringLock_apart ring h
  obtain ⟨b1, b2, b3, b4, b5, b6⟩ := ringOk_apart ring h ring h
  obtain ⟨c1, c2, -, -, c5, c6⟩ := ringOk_apart ring h (1 - ring) (by omega)
  have hl : ((s.setFlag (ringLock ring) b).refreshRingOk ring).flag (ringLock ring) = b :=
    (State.flag_setFlag_apart _ _ _ _ k2 b1).trans (State.flag_setFlag_same _ _ _ k1)
  refine ⟨(State.flag_setFlag_apart _ _ _ _ rfl b5).trans hl, ?_, ?_, ?_⟩
  · refine (State.flag_setFlag_apart _ _ _ _ rfl b4).trans ((State.flag_setFlag_same _ _ _ k2).trans ?_)
    rw [State.flag_setFlag_same _ _ _ k1, State.getF_setFlag_apart _ _ _ _ k1 a1]
  · refine (State.refreshForwarding_ring _ ring h).trans ?_
    unfold State.ringPasses
    rw [hl, State.refreshRingOk, State.flag_setFlag_apart _ _ _ _ k2 b2, State.flag_setFlag_apart _ _ _ _ k2 c1,
      State.flag_setFlag_apart _ _ _ _ k2 c2, State.flag_setFlag_apart _ _ _ _ k1 a2, State.flag_setFlag_apart _ _ _ _ k1 a3,
      State.flag_setFlag_apart _ _ _ _ k1 a4]
  · unfold State.ringPasses State.lockSet State.refreshForwarding
    rw [State.flag_setFlag_apart _ _ (ringBypass (1 - ring)) _ rfl c6, State.flag_setFlag_apart _ _ (ringLock (1 - ring)) _ rfl c5, State.refreshRingOk,
      State.flag_setFlag_apart _ _ _ _ k2 c1, State.flag_setFlag_apart _ _ _ _ k2 c2, State.flag_setFlag_apart _ _ _ _ k1 a3,
      State.flag_setFlag_apart _ _ _ _ k1 a4]

omit h in
theorem State.lockSet_touches (b : Bool) : s.Touches (fun a => a ∈ [(ringLock ring).addr, (ringOk ring).addr, F.FLU_STATUS_FORWARDING.addr])
    State.sys (s.lockSet ring b) :=
  (((State.Touches.refl State.blind_sys _ s).setFlag _ _ List.mem_cons_self).setFlag _ _ (List.mem_cons_of_mem _ List.mem_cons_self)).setFlag _ _
    (List.mem_cons_of_mem _ (List.mem_cons_of_mem _ List.mem_cons_self))

/-- The bypass of a ring moves. -/
def State.bypassSet (s : State) (ring : Nat) (b : Bool) : State := (s.setFlag (ringBypass ring) b).refreshForwarding

theorem State.bypassSet_shows (b : Bool) : (s.bypassSet ring b).flag (ringBypass ring) = b ∧
    (s.bypassSet ring b).flag F.FLU_STATUS_FORWARDING = (!b && s.flag (ringLock ring) || s.ringPasses (1 - ring)) ∧
    (s.bypassSet ring b).flag (ringLock ring) = s.flag (ringLock ring) ∧ (s.bypassSet ring b).flag (ringOk ring) = s.flag (ringOk ring) ∧
    s.Within [0x400D] (s.bypassSet ring b) := by
  obtain ⟨-, -, k3⟩ := ringFields_ok ring h
  obtain ⟨-, -, d3⟩ := ringFields_block ring h
  obtain ⟨-, -, b3, b4, b5, b6⟩ := ringOk_apart ring h ring h
  have ha : (ringBypass ring).apart (ringLock ring) = true ∧ (ringBypass ring).apart (ringOk ring) = true ∧
      (ringBypass ring).apart (ringBypass (1 - ring)) = true ∧ (ringBypass ring).apart (ringLock (1 - ring)) = true :=
    ring_cases (P := fun ring => (ringBypass ring).apart (ringLock ring) = true ∧ (ringBypass ring).apart (ringOk ring) = true ∧
      (ringBypass ring).apart (ringBypass (1 - ring)) = true ∧ (ringBypass ring).apart (ringLock (1 - ring)) = true) (by decide) (by decide) ring h
  obtain ⟨a1, a2, a3, a4⟩ := ha
  refine ⟨(State.flag_setFlag_apart _ _ _ _ rfl b6).trans (State.flag_setFlag_same _ _ _ k3), ?_,
    (State.flag_setFlag_apart _ _ _ _ rfl b5).trans (State.flag_setFlag_apart _ _ _ _ k3 a1),
    (State.flag_setFlag_apart _ _ _ _ rfl b4).trans (State.flag_setFlag_apart _ _ _ _ k3 a2),
    ((State.Within.refl _ s).setFlag _ _ (by rw [d3]; decide)).setFlag _ _ (by decide)⟩
  refine (State.refreshForwarding_ring _ ring h).trans ?_
  unfold State.ringPasses
  rw [State.flag_setFlag_same _ _ _ k3, State.flag_setFlag_apart _ _ _ _ k3 a1, State.flag_setFlag_apart _ _ _ _ k3 a3,
    State.flag_setFlag_apart _ _ _ _ k3 a4]

/-! ### The loss of a lock -/

/-- A ring's lock lost, before its raise. -/
def State.lockLost (s : State) (ring errs : Nat) : State :=
  ((((s.lockSet ring false).addF (byRing ring F.FLU_CODE_A_CNT_COUNT F.FLU_CODE_B_CNT_COUNT) errs).when (decide (0 < errs))
    (fun s => s.event Ev.flu 2)).incF (byRing ring F.FLU_LOCK_A_CNT_COUNT F.FLU_LOCK_B_CNT_COUNT)).event Ev.flu 3

/-- The registers of a loss that are not of the lock. -/
abbrev lossRegs (a : Nat) : Prop := a ∈ [Ev.flu.ev.addr, 0x400D00A0, 0x400D00A4, 0x400D00A8, 0x400D00AC]

theorem State.lockLost_touches (errs : Nat) : (s.lockSet ring false).Touches lossRegs State.sys (s.lockLost ring errs) := by
  have hc : lossRegs (byRing ring F.FLU_CODE_A_CNT_COUNT F.FLU_CODE_B_CNT_COUNT).addr ∧ lossRegs (byRing ring F.FLU_LOCK_A_CNT_COUNT F.FLU_LOCK_B_CNT_COUNT).addr :=
    ring_cases (P := fun ring => lossRegs (byRing ring F.FLU_CODE_A_CNT_COUNT F.FLU_CODE_B_CNT_COUNT).addr ∧
      lossRegs (byRing ring F.FLU_LOCK_A_CNT_COUNT F.FLU_LOCK_B_CNT_COUNT).addr) (by decide) (by decide) ring h
  exact ((((State.Touches.refl State.blind_sys _ _).addF _ _ hc.1).when _ _ fun u hu => hu.event _ _ (by decide)).incF _ hc.2).event _ _ (by decide)

omit h in
theorem State.lockLost_flt (errs : Nat) : (s.lockLost ring errs).flt = s.flt := by
  have hl : (s.lockSet ring false).flt = s.flt := rfl
  unfold State.lockLost
  rw [State.event_flt, State.incF_flt, State.when_flt, State.event_flt, ite_self, State.addF_flt, hl]

theorem State.lockLost_flags (errs : Nat) : (s.lockLost ring errs).flag (ringLock ring) = false ∧ (s.lockLost ring errs).flag (ringOk ring) = false ∧
    (s.lockLost ring errs).flag F.FLU_STATUS_FORWARDING = s.ringPasses (1 - ring) ∧
    (s.lockLost ring errs).ringPasses (1 - ring) = s.ringPasses (1 - ring) ∧ s.Within [0x400D] (s.lockLost ring errs) := by
  have ht := s.lockLost_touches ring h errs
  have hn : ¬lossRegs (ringLock ring).addr ∧ ¬lossRegs (ringOk ring).addr ∧ ¬lossRegs (ringLock (1 - ring)).addr ∧
      ¬lossRegs (ringBypass (1 - ring)).addr :=
    ring_cases (P := fun ring => ¬lossRegs (ringLock ring).addr ∧ ¬lossRegs (ringOk ring).addr ∧ ¬lossRegs (ringLock (1 - ring)).addr ∧
      ¬lossRegs (ringBypass (1 - ring)).addr) (by decide) (by decide) ring h
  obtain ⟨n1, n2, n3, n4⟩ := hn
  obtain ⟨h1, h2, h3, h4⟩ := s.lockSet_shows ring h false
  obtain ⟨d1, d2, -⟩ := ringFields_block ring h
  rw [Bool.and_false, Bool.false_or] at h3
  refine ⟨(ht.flag _ n1).trans h1, (ht.flag _ n2).trans h2, (ht.flag _ (by decide)).trans h3, Eq.trans ?_ h4, ?_⟩
  · unfold State.ringPasses
    rw [ht.flag _ n3, ht.flag _ n4]
  refine ((s.lockSet_touches ring false).mono (Q := inBlocks [0x400D]) ?_).within.trans (ht.mono (Q := inBlocks [0x400D]) (by decide)).within
  intro a ha
  simp only [List.mem_cons, List.not_mem_nil, or_false] at ha
  rcases ha with rfl | rfl | rfl
  · exact List.mem_singleton.2 d1
  · exact List.mem_singleton.2 d2
  · decide

theorem State.lockLoss_eq (errs : Nat) (hr : s.sys.phase = .run) : s.lockLoss ring errs =
    ((s.lockLost ring errs).raise (0xA2 + ring)).when (decide (s.mode = .load)) (fun s => s.bypassSet ring true) :=
  (if_pos ⟨State.running_of_run hr, h⟩ : s.lockLoss ring errs = _)

theorem State.lockLoss_shows (errs : Nat) (hr : s.sys.phase = .run) (hq : s.Quiet (0xA2 + ring)) (ha : s.asserted (0xA2 + ring) = false) :
    (s.lockLoss ring errs).flag (ringLock ring) = false ∧ (s.lockLoss ring errs).flag (ringOk ring) = false ∧
    (s.lockLoss ring errs).sticky (0xA2 + ring) = true ∧
    (s.flag (ringBypass (1 - ring)) = true ∨ s.flag (ringLock (1 - ring)) = false → (s.lockLoss ring errs).flag F.FLU_STATUS_FORWARDING = false) ∧
    (s.mode = .load → (s.lockLoss ring errs).flag (ringBypass ring) = true) ∧ s.Within (0x400D :: raiseBlocks) (s.lockLoss ring errs) := by
  obtain ⟨h1, h2, h3, h4, h5⟩ := s.lockLost_flags ring h errs
  have hn : 0xA2 + ring < 256 := by omega
  have hsys : (s.lockLost ring errs).sys = s.sys := (s.lockLost_touches ring h errs).same
  have hq' : (s.lockLost ring errs).Quiet (0xA2 + ring) := h5.quiet (by decide) (by decide) (congrArg Sys.phase hsys) hn hq
  have ha' := (State.asserted_of_asserting (State.asserting_congr (s.lockLost_flt ring errs)) (0xA2 + ring)).trans ha
  have hst : ((s.lockLost ring errs).raise (0xA2 + ring)).sticky (0xA2 + ring) = true := State.sticky_raise _ _ none hn hq' ha'
  have hc : (s.lockLost ring errs).Confined raiseBlocks ((s.lockLost ring errs).raise (0xA2 + ring)) := State.confined_raise _ _ none hn hq'
  have hw := (h5.mono (cs := 0x400D :: raiseBlocks) (by decide)).raise (0xA2 + ring) (fun b => List.mem_cons_of_mem _) hn hq'
  have hpass : s.flag (ringBypass (1 - ring)) = true ∨ s.flag (ringLock (1 - ring)) = false → s.ringPasses (1 - ring) = false := by
    rintro (h | h) <;> simp [State.ringPasses, h]
  rw [s.lockLoss_eq ring h errs hr]
  generalize (s.lockLost ring errs).raise (0xA2 + ring) = u at *
  obtain ⟨d1, d2, -⟩ := ringFields_block ring h
  obtain ⟨e1, -, e3⟩ := ringFields_block (1 - ring) (by omega)
  have hfl (g : Fld) (hg : g.addr / 0x10000 = 0x400D) : u.flag g = (s.lockLost ring errs).flag g := hc.within.flag g (by rw [hg]; decide)
  by_cases hl : s.mode = .load
  · rw [State.when_true _ _ _ (decide_eq_true hl)]
    obtain ⟨b1, b2, b3, b4, b5⟩ := u.bypassSet_shows ring h true
    refine ⟨b3.trans ((hfl _ d1).trans h1), b4.trans ((hfl _ d2).trans h2), ?_, fun hp => b2.trans ?_, fun _ => b1, hw.trans (b5.mono (by decide))⟩
    · unfold State.sticky
      rw [b5.getF (F.FLT_STICKY_STICKY ((0xA2 + ring) / 32)) (by simp only [F.FLT_STICKY_STICKY, List.mem_singleton]; omega)]
      exact hst
    · have h0 : u.ringPasses (1 - ring) = s.ringPasses (1 - ring) := by
        rw [← h4]
        unfold State.ringPasses
        rw [hfl _ e1, hfl _ e3]
      rw [h0, hpass hp]
      rfl
  · rw [decide_eq_false hl]
    exact ⟨(hfl _ d1).trans h1, (hfl _ d2).trans h2, hst, fun hp => (hfl _ (by decide)).trans (h3.trans (hpass hp)), fun h => absurd h hl, hw⟩

end

/-! ### The damper -/

theorem State.damperAgrees_shows (s : State) (ns : Nat) (hr : s.sys.phase = .run) (h : ns ≤ 125) :
    (s.damperDiverge ns).flag F.FLU_STATUS_DAMPER_OPEN_OK = true ∧ 0xA5 ∉ (s.damperDiverge ns).flt.level ∧
    s.Within [0x4003, 0x400D] (s.damperDiverge ns) := by
  have he : s.damperDiverge ns = ((s.peakF F.FLU_DAMPER_DIVERGE_MAX ns).setFlag F.FLU_STATUS_DAMPER_OPEN_OK true).clearLevel 0xA5 :=
    (if_pos (State.running_of_run hr) : s.damperDiverge ns = _).trans (if_neg (by omega))
  have hw : s.Within [0x4003, 0x400D] ((s.peakF F.FLU_DAMPER_DIVERGE_MAX ns).setFlag F.FLU_STATUS_DAMPER_OPEN_OK true) :=
    ((State.Within.refl _ s).peakF _ _ (by decide)).setFlag _ _ (by decide)
  have hf : ((s.peakF F.FLU_DAMPER_DIVERGE_MAX ns).setFlag F.FLU_STATUS_DAMPER_OPEN_OK true).flag F.FLU_STATUS_DAMPER_OPEN_OK = true :=
    State.flag_setFlag_same _ _ _ rfl
  rw [he]
  generalize (s.peakF F.FLU_DAMPER_DIVERGE_MAX ns).setFlag F.FLU_STATUS_DAMPER_OPEN_OK true = u at *
  exact ⟨((State.confined_clearLevel u 0xA5 (by decide)).within.flag _ (by decide)).trans hf,
    fun hm => ((u.mem_clearLevel_level 0xA5 0xA5).1 hm).1 rfl, hw.clearLevel 0xA5 (by decide) (by decide)⟩

theorem State.damperParts_shows (s : State) (ns : Nat) (hr : s.sys.phase = .run) (h : 125 < ns) (hq : s.Quiet 0xA5) (ha : s.asserted 0xA5 = false) :
    (s.damperDiverge ns).flag F.FLU_STATUS_DAMPER_OPEN_OK = false ∧ (s.damperDiverge ns).sticky 0xA5 = true ∧
    s.Within (0x400D :: raiseBlocks) (s.damperDiverge ns) := by
  have he : s.damperDiverge ns = ((s.peakF F.FLU_DAMPER_DIVERGE_MAX ns).setFlag F.FLU_STATUS_DAMPER_OPEN_OK false).raiseLevel 0xA5 :=
    (if_pos (State.running_of_run hr) : s.damperDiverge ns = _).trans (if_pos h)
  have hw : s.Within [0x400D] ((s.peakF F.FLU_DAMPER_DIVERGE_MAX ns).setFlag F.FLU_STATUS_DAMPER_OPEN_OK false) :=
    ((State.Within.refl _ s).peakF _ _ (by decide)).setFlag _ _ (by decide)
  have hf : ((s.peakF F.FLU_DAMPER_DIVERGE_MAX ns).setFlag F.FLU_STATUS_DAMPER_OPEN_OK false).flag F.FLU_STATUS_DAMPER_OPEN_OK = false :=
    State.flag_setFlag_same _ _ _ rfl
  obtain ⟨h1, -, -, h4, h5⟩ := hw.raised (by decide) (by decide) (by simp) (by simp) (n := 0xA5) (by decide) hq ha
  rw [he]
  exact ⟨(h5.within.flag _ (by decide)).trans hf, h1, h4.mono (by decide)⟩

/-- Settles O19, command by command. -/
theorem fluePorts : Obligations.FluePorts := by
  intro s ring hr h
  obtain ⟨d1, d2, d3⟩ := ringFields_block ring h
  refine ⟨?_, fun errs hq ha => ?_, fun hl hd hv => ?_, fun hdue => ?_, fun ns hns => ?_, fun ns hns hq ha => ?_⟩
  · have he : s.receiverLock ring = s.lockSet ring true := if_pos ⟨State.running_of_run hr, h⟩
    obtain ⟨h1, h2, h3, -⟩ := s.lockSet_shows ring h true
    refine ⟨_, next_congr he, h1, h2, fun hb => ?_, (s.lockSet_touches ring true).regs, rfl⟩
    rw [h3, hb]
    rfl
  · obtain ⟨h1, h2, h3, h4, h5, h6⟩ := s.lockLoss_shows ring h errs hr hq ha
    exact ⟨_, rfl, h1, h2, h3, h4, h5, h6⟩
  · have hdue : s.bypassDue ring = false := by simp [State.bypassDue, hv, State.running_of_run hr, hl]
    have he : s.bypassOpen ring = s.bypassSet ring false := if_pos ⟨h, hl, hd, hdue⟩
    obtain ⟨h1, h2, -, -, h5⟩ := s.bypassSet_shows ring h false
    rw [hl] at h2
    exact ⟨_, next_congr he, h1, h2, h5.1, rfl⟩
  · have hdue' : s.bypassDue ring = true := by
      rcases hdue with hv | ⟨hm, hl⟩
      · simp [State.bypassDue, hv]
      · simp [State.bypassDue, hm, hl]
    have he : s.bypassClose ring = s.bypassSet ring true := if_pos ⟨h, hdue'⟩
    obtain ⟨h1, -, -, -, h5⟩ := s.bypassSet_shows ring h true
    exact ⟨_, next_congr he, h1, h5.1, rfl⟩
  · obtain ⟨h1, h2, h3⟩ := s.damperAgrees_shows ns hr hns
    exact ⟨_, rfl, h1, h2, h3⟩
  · obtain ⟨h1, h2, h3⟩ := s.damperParts_shows ns hr hns hq ha
    exact ⟨_, rfl, h1, h2, h3⟩

end Sys2Proof.Machine
end

section
/-!
# Lone kindling, rate correction and PPS (O18)
-/
namespace Sys2Proof.Machine

open Sys2Proof

/-! ### The schedule in force -/

/-- The Flue unit but for its buffers. -/
def State.flueView (s : State) : Sys × Flu := (s.sys, { s.flu with tx := [] })

theorem State.blind_flueView : State.Blind State.flueView := by
  rintro bs s _ ⟨-, r, f, j, g, m, rfl⟩
  rfl

theorem State.blind_flu : State.Blind State.flu := by
  rintro bs s _ ⟨-, r, f, j, g, m, rfl⟩
  rfl

/-- The registers that follow a schedule. -/
abbrev schedRegs (a : Nat) : Prop := inBlocks [0x4007, 0x400D] a ∧ a ≠ F.FLU_SCHED_ACTIVE.addr

/-- An own slot in its register. -/
def State.ownShown (own : List Nat) (s : State) (i : Nat) : State :=
  match own[i]? with
  | some sl =>
    ((((s.setFlag (F.FLU_OWN_VALID i) true).setF (F.FLU_OWN_KIND i) (s.slots.getD sl {}).kind).setF (F.FLU_OWN_LEN i)
      (s.slots.getD sl {}).len).setF (F.FLU_OWN_AGE_CNT i) 0).setF (F.FLU_OWN_SLOT i) sl
  | none => s.setReg (F.FLU_OWN_VALID i).addr 0

/-- What a schedule allows the node to send. -/
def State.capsShown (s : State) (k : Nat) : State :=
  ((s.setF F.FLU_CMD_SLOTS (cmdSlots s.slots s.nodeId).length).setF F.FLU_CMD_CAP (((s.schedOf k).map (fun x => cmdCap x s.nodeId)).getD 0)).setF
    F.SEC_CMD_CAP_CAP (((s.schedOf k).map (fun x => cmdCap x s.nodeId)).getD 0)

/-- The buffers of the own slots. -/
def State.txKept (s : State) (own : List Nat) : State :=
  let keep := (s.flu.tx.filter (fun b => own.contains b.slot)).map (fun b =>
    let len := (s.slots.getD b.slot {}).len
    { b with data := (b.data ++ List.replicate len 0).take len })
  let fresh := (own.filter (fun sl => !keep.any (fun b => decide (b.slot = sl)))).map (fun sl =>
    ({ slot := sl, data := List.replicate (s.slots.getD sl {}).len 0 } : TxBuf))
  { s with flu := { s.flu with tx := keep ++ fresh } }

/-- A schedule's slots and what the node may send. -/
def State.schedShown (s : State) (k : Nat) (own : List Nat) : State := (s.each (List.range 8) (State.ownShown own)).capsShown k

theorem State.useSched_eq (s : State) (k : Nat) : s.useSched k =
    State.each (State.txKept (State.schedShown (s.setF F.FLU_SCHED_ACTIVE k) k (s.setF F.FLU_SCHED_ACTIVE k).ownSlots)
      (s.setF F.FLU_SCHED_ACTIVE k).ownSlots) (List.range 48) (fun u sl => u.setFlag (F.FLU_SLOT_RX_OWN sl)
        ((s.setF F.FLU_SCHED_ACTIVE k).ownSlots.contains sl)) := rfl

section
variable (s : State)

theorem State.ownShown_touches (own : List Nat) (i : Nat) (hi : i < 8) : s.Touches schedRegs State.flueView (State.ownShown own s i) := by
  have hown (f : Fld) (hf : f.addr = 0x400D0100 + 4 * i) : schedRegs f.addr := by
    simp only [schedRegs, inBlocks, hf, List.mem_cons, List.not_mem_nil, or_false, F.FLU_SCHED_ACTIVE]
    omega
  have h0 := State.Touches.refl State.blind_flueView schedRegs s
  unfold State.ownShown
  split
  · exact ((((h0.setFlag _ _ (hown _ rfl)).setF _ _ (hown _ rfl)).setF _ _ (hown _ rfl)).setF _ _ (hown _ rfl)).setF _ _ (hown _ rfl)
  · exact h0.setReg _ _ (hown _ rfl)

theorem State.capsShown_touches (k : Nat) : s.Touches schedRegs State.flueView (s.capsShown k) :=
  (((State.Touches.refl State.blind_flueView schedRegs s).setF F.FLU_CMD_SLOTS _ (by decide)).setF F.FLU_CMD_CAP _ (by decide)).setF
    F.SEC_CMD_CAP_CAP _ (by decide)

theorem State.txKept_touches (own : List Nat) : s.Touches schedRegs State.flueView (s.txKept own) :=
  (State.Touches.refl State.blind_flueView schedRegs s).hidden ((State.Within.refl [] s).hidden ..) rfl

theorem State.useSched_touches (k : Nat) : (s.setF F.FLU_SCHED_ACTIVE k).Touches schedRegs State.flueView (s.useSched k) := by
  have hrx (sl : Nat) (h : sl < 48) : schedRegs (F.FLU_SLOT_RX_OWN sl).addr := by
    simp only [schedRegs, inBlocks, F.FLU_SLOT_RX_OWN, List.mem_cons, List.not_mem_nil, or_false, F.FLU_SCHED_ACTIVE]
    omega
  rw [s.useSched_eq]
  generalize (s.setF F.FLU_SCHED_ACTIVE k).ownSlots = own
  have h1 : (s.setF F.FLU_SCHED_ACTIVE k).Touches schedRegs State.flueView (State.schedShown (s.setF F.FLU_SCHED_ACTIVE k) k own) :=
    ((State.Touches.refl State.blind_flueView schedRegs _).each _ _ fun u i hi hu =>
      hu.trans (u.ownShown_touches own i (List.mem_range.1 hi))).trans (State.capsShown_touches _ k)
  exact (h1.trans (State.txKept_touches _ own)).each _ _ fun u sl hsl hu => hu.setFlag _ _ (hrx sl (List.mem_range.1 hsl))

end

theorem State.useSched_shows (s : State) (k : Nat) (hk : k < 8) : (s.useSched k).flueView = s.flueView ∧
    (s.useSched k).getF F.FLU_SCHED_ACTIVE = k ∧ s.Within [0x4007, 0x400D] (s.useSched k) := by
  have h := s.useSched_touches k
  refine ⟨h.same, ?_, ((State.Within.refl _ s).setF _ _ (by decide)).trans (h.mono fun a ha => ha.1).within⟩
  rw [h.getF _ (by simp), State.getF_setF_same _ _ _ rfl]
  exact Nat.mod_eq_of_lt hk

/-! ### Lone kindling -/

theorem State.mayKindle_of (s : State) (hr : s.sys.phase = .run) (hm : s.mode.sends = true) (hk : s.flag F.FLU_NODE_KINDLING = true)
    (hl : s.flu.integ = .listen) (hx : s.flu.rx = []) : s.mayKindle = true := by
  simp [State.mayKindle, State.running_of_run hr, hm, hk, hl, hx]

/-- A listening node on its own time `t`, under its first schedule. -/
def State.kindled (s : State) (t : Nat) : State := (s.alignTick t).useSched s.img.flue.init

theorem State.kindled_shows (s : State) (t : Nat) (hi : s.img.flue.init < 8) : (s.kindled t).flu.time = t % 2 ^ 64 ∧
    (s.kindled t).flu.cycle = t % 2 ^ 64 / 125000 ∧ (s.kindled t).getF F.FLU_SCHED_ACTIVE = s.img.flue.init ∧
    (s.kindled t).sys = s.sys ∧ s.Within [0x4007, 0x400D] (s.kindled t) := by
  obtain ⟨h1, h2, h3⟩ := (s.alignTick t).useSched_shows s.img.flue.init hi
  have hw : s.Within [0x4007, 0x400D] (s.alignTick t) := (State.Within.refl _ s).alignTick (by decide) t
  have hs : (s.alignTick t).sys = s.sys := rfl
  have ht : (s.alignTick t).flu.time = t % 2 ^ 64 ∧ (s.alignTick t).flu.cycle = t % 2 ^ 64 / 125000 := ⟨rfl, rfl⟩
  unfold State.kindled
  generalize (s.alignTick t).useSched s.img.flue.init = u at *
  generalize s.alignTick t = v at *
  exact ⟨(congrArg (fun v : Sys × Flu => v.2.time) h1).trans ht.1, (congrArg (fun v : Sys × Flu => v.2.cycle) h1).trans ht.2, h2,
    (congrArg Prod.fst h1).trans hs, hw.trans h3⟩

/-- Kindling is due, with the PPS error used or not. -/
def State.kindleDue (s : State) (used : Bool) : State :=
  { s with flu := { s.flu with integ := .kindleDue, ppsE := none, ppsR := if used then 0 else s.flu.ppsR } }

/-- Kindling on the node's own time. -/
def State.kindling (s : State) (t : Nat) (used : Bool) : State := (s.kindled t).kindleDue used

theorem State.listenTimeout_plain (s : State) (t : Nat) (hm : s.mayKindle = true) (he : s.flu.ppsE = none) :
    s.listenTimeout t = s.kindling t false := by
  unfold State.listenTimeout
  rw [if_pos hm, he, ite_self]
  rfl

theorem State.listenTimeout_shifted (s : State) (t : Nat) (e : Int) (hm : s.mayKindle = true) (he : s.flu.ppsE = some e)
    (hp : s.img.flue.ppsEn = true) (hn : s.flag F.FLU_NODE_SYNC = true) : s.listenTimeout t = s.kindling ((t : Int) - e).toNat true := by
  unfold State.listenTimeout
  rw [if_pos hm, he, if_pos (by simp [hp, hn])]
  rfl

theorem State.kindleDue_frame (u : State) (r : Bool) : (u.kindleDue r).sys = u.sys ∧ u.Within [] (u.kindleDue r) :=
  ⟨rfl, (State.Within.refl [] u).hidden ..⟩

theorem State.kindling_frame (s : State) (t : Nat) (r : Bool) (hi : s.img.flue.init < 8) : s.Within [0x4007, 0x400D] (s.kindling t r) ∧
    (s.kindling t r).getF F.FLU_SCHED_ACTIVE = s.img.flue.init ∧ (s.kindling t r).mode = s.mode := by
  obtain ⟨-, -, h3, h4, h5⟩ := s.kindled_shows t hi
  obtain ⟨hp, hw⟩ := (s.kindled t).kindleDue_frame r
  have hw' : s.Within [0x4007, 0x400D] (s.kindling t r) := h5.trans (hw.mono (by simp))
  exact ⟨hw', (hw.getF _ (by decide)).trans h3, hw'.mode (by decide) (congrArg Sys.phase (hp.trans h4))⟩

/-! ### Rate correction -/

/-- RATE moved, with the sum taken. -/
def State.rateMoved (s : State) (held : Int) : State :=
  ({ s with flu := { s.flu with sumM := 0 } } : State).setReg F.FLU_RATE_CORR_RATE.addr (BitVec.ofInt 32 held)

theorem State.rateMoved_shows (s : State) (held : Int) : (s.rateMoved held).reg F.FLU_RATE_CORR_RATE.addr = BitVec.ofInt 32 held ∧
    s.OnlyRegs [F.FLU_RATE_CORR_RATE.addr] (s.rateMoved held) ∧ s.Within [0x400D] (s.rateMoved held) :=
  ⟨State.reg_setReg_same _ _ _, (State.OnlyRegs.refl _ s).setReg _ _ (by decide), ((State.Within.refl _ s).hidden ..).setReg _ _ (by decide)⟩

theorem State.rateCorrection_eq (s : State) (r : Int) (hr : s.sys.phase = .run) (hc : s.flu.cycle % 16 = 0)
    (h : r = (s.reg F.FLU_RATE_CORR_RATE.addr).toInt + 25 * s.flu.sumM) :
    s.rateCorrection = (s.rateMoved (max (-50000) (min 50000 r))).when (decide (r ≠ max (-50000) (min 50000 r))) State.syncLost := by
  subst h
  exact if_neg (by simp [State.running_of_run hr, hc])

/-- Synchronisation lost, before its raise. -/
def State.syncDropped (s : State) : State :=
  ((({ s with flu := { s.flu with integ := .listen, lostRun := 0, out := [], ppsE := none } } : State).setFlag F.FLU_STATUS_IN_SYNC false).incF
    F.FLU_SYNC_STAT_LOST_CNT).event Ev.flu 11

theorem State.syncLost_eq (s : State) : s.syncLost = s.syncDropped.raise 0xA6 := rfl

theorem State.syncDropped_shows (s : State) : s.syncDropped.flu = { s.flu with integ := .listen, lostRun := 0, out := [], ppsE := none } ∧
    s.syncDropped.flag F.FLU_STATUS_IN_SYNC = false ∧ s.syncDropped.sys = s.sys ∧ s.syncDropped.flt = s.flt ∧ s.Within [0x400D] s.syncDropped ∧
    s.syncDropped.reg F.FLU_RATE_CORR_RATE.addr = s.reg F.FLU_RATE_CORR_RATE.addr := by
  unfold State.syncDropped
  refine ⟨?_, ?_, ?_, ?_, ((((State.Within.refl _ s).hidden ..).setFlag _ _ (by decide)).incF _ (by decide)).event _ _ (by decide), ?_⟩
  · rw [State.event_flu, State.incF_flu, State.setFlag_flu]
  · rw [State.flag_event_other _ _ _ _ (by decide), State.flag_incF_apart _ _ _ rfl (by decide), State.flag_setFlag_same _ _ _ rfl]
  · rw [State.event_sys, State.incF_sys, State.setFlag_sys]
  · rw [State.event_flt, State.incF_flt, State.setFlag_flt]
  · rw [State.reg_event_other _ _ _ _ (by decide), State.incF, State.addF, State.reg_setF_other _ _ _ _ (by decide), State.setFlag,
      State.reg_setF_other _ _ _ _ (by decide)]
    rfl

theorem State.syncLost_shows (s r : State) (hs : r.Within [0x400D] s) (hsys : s.sys = r.sys) (hflt : s.flt = r.flt) (hq : r.Quiet 0xA6)
    (ha : r.asserted 0xA6 = false) : s.syncLost.flu = { s.flu with integ := .listen, lostRun := 0, out := [], ppsE := none } ∧
    s.syncLost.flag F.FLU_STATUS_IN_SYNC = false ∧ s.syncLost.sticky 0xA6 = true ∧
    s.syncLost.reg F.FLU_RATE_CORR_RATE.addr = s.reg F.FLU_RATE_CORR_RATE.addr ∧ r.Within (0x400D :: raiseBlocks) s.syncLost := by
  obtain ⟨h1, h2, h3, h4, h5, h6⟩ := s.syncDropped_shows
  have hw : r.Within [0x400D] s.syncDropped := hs.trans h5
  have hq' : s.syncDropped.Quiet 0xA6 := hw.quiet (by decide) (by decide) (congrArg Sys.phase (h3.trans hsys)) (by decide) hq
  have ha' := (State.asserted_of_asserting (State.asserting_congr (h4.trans hflt)) 0xA6).trans ha
  have hc := State.confined_raise s.syncDropped 0xA6 none (by decide) hq'
  rw [s.syncLost_eq]
  exact ⟨(State.blind_flu _ _ _ hc).trans h1, (hc.within.flag _ (by decide)).trans h2, State.sticky_raise _ _ none (by decide) hq' ha',
    (hc.within.1 _ (by decide)).trans h6, (hw.mono (by decide)).raise 0xA6 (fun b => List.mem_cons_of_mem _) (by decide) hq'⟩

/-! ### PPS -/

/-- An edge latched, before the source clears. -/
def State.ppsLatched (s : State) (e : Int) (aligned : Bool) : State :=
  (((({ s with flu := { s.flu with ppsR := -e, ppsE := if s.flu.integ = .listen then some e else s.flu.ppsE } } : State).setReg F.CLK_PPS_LAST_E.addr
    (BitVec.ofInt 32 e)).incF F.CLK_PPS_EDGE_CNT_COUNT).setFlag F.CLK_PPS_ALIGNED aligned).setFlag F.CLK_PPS_LOST false

/-- Whether an edge lies within PRECISION of the second. -/
def State.ppsAligned (s : State) (e : Int) : Bool :=
  decide (-(s.getF F.FLU_CFG_PRECISION : Int) ≤ e) && decide (e ≤ (s.getF F.FLU_CFG_PRECISION : Int))

/-- An aligned edge is counted and makes the time exact. -/
def State.ppsCounted (s : State) (aligned : Bool) : State :=
  s.when aligned (fun s => (s.incF F.CLK_PPS_ALIGN_CNT_COUNT).setFlag F.SYS_STATUS_TIME_COARSE false)

theorem State.ppsCounted_shows (s : State) (aligned : Bool) : (s.ppsCounted aligned).flu = s.flu ∧ (s.ppsCounted aligned).flt = s.flt ∧
    s.Touches (fun a => a ∈ [F.CLK_PPS_ALIGN_CNT_COUNT.addr, F.SYS_STATUS_TIME_COARSE.addr]) State.sys (s.ppsCounted aligned) := by
  unfold State.ppsCounted
  refine ⟨?_, ?_, (State.Touches.refl State.blind_sys _ s).when _ _ fun u hu => (hu.incF _ (by decide)).setFlag _ _ (by decide)⟩
  · rw [State.when_flu, State.setFlag_flu, State.incF_flu, ite_self]
  · rw [State.when_flt, State.setFlag_flt, State.incF_flt, ite_self]

theorem State.ppsEdge_eq (s : State) (t : Nat) (hr : s.sys.phase = .run) (hp : s.img.flue.ppsEn = true) (hn : s.flag F.FLU_NODE_SYNC = true) :
    s.ppsEdge t (!s.img.flue.falling) =
      ((s.ppsLatched (ppsError t s.img.flue.ppsDelay) (s.ppsAligned (ppsError t s.img.flue.ppsDelay))).clearLevel 0xD4).ppsCounted
        (s.ppsAligned (ppsError t s.img.flue.ppsDelay)) :=
  if_pos (by simp [State.running_of_run hr, hp, hn])

theorem State.ppsLatched_shows (s : State) (e : Int) (aligned : Bool) :
    (s.ppsLatched e aligned).flu = { s.flu with ppsR := -e, ppsE := if s.flu.integ = .listen then some e else s.flu.ppsE } ∧
    (s.ppsLatched e aligned).flag F.CLK_PPS_LOST = false ∧ (s.ppsLatched e aligned).reg F.CLK_PPS_LAST_E.addr = BitVec.ofInt 32 e ∧
    (s.ppsLatched e aligned).getF F.CLK_PPS_EDGE_CNT_COUNT = min (2 ^ 32 - 1) (s.getF F.CLK_PPS_EDGE_CNT_COUNT + 1) ∧
    s.Within [0x4002] (s.ppsLatched e aligned) := by
  unfold State.ppsLatched
  refine ⟨rfl, State.flag_setFlag_same _ _ _ rfl, ?_, ?_,
    ((((((State.Within.refl _ s).hidden ..).setReg _ _ (by decide)).incF _ (by decide)).setFlag _ _ (by decide)).setFlag _ _ (by decide))⟩
  · rw [State.setFlag, State.reg_setF_other _ _ _ _ (by decide), State.setFlag, State.reg_setF_other _ _ _ _ (by decide), State.incF, State.addF,
      State.reg_setF_other _ _ _ _ (by decide), State.reg_setReg_same]
  · rw [State.getF_setFlag_apart _ _ _ _ rfl (by decide), State.getF_setFlag_apart _ _ _ _ rfl (by decide), State.getF_incF_same _ _ rfl,
      State.getF_congr (State.reg_setReg_other _ _ _ _ (by decide))]
    rfl

theorem State.ppsEdge_shows (s : State) (t : Nat) (hr : s.sys.phase = .run) (hp : s.img.flue.ppsEn = true) (hn : s.flag F.FLU_NODE_SYNC = true) :
    ∃ u, s.ppsEdge t (!s.img.flue.falling) = u ∧ u.flu.ppsR = -ppsError t s.img.flue.ppsDelay ∧
      u.flu.ppsE = (if s.flu.integ = .listen then some (ppsError t s.img.flue.ppsDelay) else s.flu.ppsE) ∧
      u.flag F.CLK_PPS_LOST = false ∧ 0xD4 ∉ u.flt.level ∧ u.reg F.CLK_PPS_LAST_E.addr = BitVec.ofInt 32 (ppsError t s.img.flue.ppsDelay) ∧
      u.getF F.CLK_PPS_EDGE_CNT_COUNT = min (2 ^ 32 - 1) (s.getF F.CLK_PPS_EDGE_CNT_COUNT + 1) ∧ s.Within [0x4000, 0x4002, 0x4003] u := by
  rw [s.ppsEdge_eq t hr hp hn]
  generalize ppsError t s.img.flue.ppsDelay = e
  generalize s.ppsAligned e = aligned
  obtain ⟨h1, h2, h3, h4, h5⟩ := s.ppsLatched_shows e aligned
  have hc := State.confined_clearLevel (s.ppsLatched e aligned) 0xD4 (by decide)
  have hl := ((s.ppsLatched e aligned).mem_clearLevel_level 0xD4 0xD4)
  have hflu := State.blind_flu _ _ _ hc
  have hw := (h5.mono (cs := [0x4000, 0x4002, 0x4003]) (by decide)).trans (hc.within.mono (by decide))
  generalize s.ppsLatched e aligned = v at *
  generalize v.clearLevel 0xD4 = w at *
  obtain ⟨k1, k2, k3⟩ := w.ppsCounted_shows aligned
  have hv : (w.ppsCounted aligned).flu = { s.flu with ppsR := -e, ppsE := if s.flu.integ = .listen then some e else s.flu.ppsE } :=
    k1.trans (hflu.trans h1)
  refine ⟨_, rfl, congrArg Flu.ppsR hv, congrArg Flu.ppsE hv, (k3.flag _ (by decide)).trans ((hc.within.flag _ (by decide)).trans h2), ?_,
    (k3.regs _ (by decide)).trans ((hc.within.1 _ (by decide)).trans h3), (k3.getF _ (by decide)).trans ((hc.within.getF _ (by decide)).trans h4),
    hw.trans (k3.mono (Q := inBlocks [0x4000, 0x4002, 0x4003]) (by decide)).within⟩
  rw [k2]
  exact fun hm => (hl.1 hm).1 rfl

/-- PPS missing, before its raise. -/
def State.ppsMissed (s : State) : State :=
  (((({ s with flu := { s.flu with ppsR := 0 } } : State).setFlag F.CLK_PPS_LOST true).setReg F.CLK_DRIFT_DEV.addr 0).incF
    F.CLK_PPS_LOST_CNT_COUNT).event Ev.clk 4

theorem State.ppsMissed_shows (s : State) : s.ppsMissed.flu = { s.flu with ppsR := 0 } ∧ s.ppsMissed.flag F.CLK_PPS_LOST = true ∧
    s.ppsMissed.getF F.CLK_PPS_LOST_CNT_COUNT = min (2 ^ 32 - 1) (s.getF F.CLK_PPS_LOST_CNT_COUNT + 1) ∧
    s.ppsMissed.sys = s.sys ∧ s.ppsMissed.flt = s.flt ∧ s.Within [0x4002] s.ppsMissed := by
  unfold State.ppsMissed
  refine ⟨?_, ?_, ?_, ?_, ?_,
    (((((State.Within.refl _ s).hidden ..).setFlag _ _ (by decide)).setReg _ _ (by decide)).incF _ (by decide)).event _ _ (by decide)⟩
  · rw [State.event_flu, State.incF_flu, State.setReg_flu, State.setFlag_flu]
  · rw [State.flag_event_other _ _ _ _ (by decide), State.flag_incF_apart _ _ _ rfl (by decide),
      State.flag_congr (State.getF_congr (State.reg_setReg_other _ _ _ _ (by decide))), State.flag_setFlag_same _ _ _ rfl]
  · rw [State.getF_incF_event _ _ _ _ rfl (by decide), State.getF_congr (State.reg_setReg_other _ _ _ _ (by decide)),
      State.getF_setFlag_apart _ _ _ _ rfl (by decide)]
    rfl
  · rw [State.event_sys, State.incF_sys, State.setReg_sys, State.setFlag_sys]
  · rw [State.event_flt, State.incF_flt, State.setReg_flt, State.setFlag_flt]

theorem State.ppsLost_eq (s : State) (hr : s.sys.phase = .run) (hp : s.img.flue.ppsEn = true) (hn : s.flag F.FLU_NODE_SYNC = true) :
    s.ppsLost = s.ppsMissed.raiseLevel 0xD4 := if_pos (by simp [State.running_of_run hr, hp, hn])

theorem State.ppsLost_shows (s : State) (hr : s.sys.phase = .run) (hp : s.img.flue.ppsEn = true) (hn : s.flag F.FLU_NODE_SYNC = true)
    (hq : s.Quiet 0xD4) (ha : s.asserted 0xD4 = false) : s.ppsLost.flu.ppsR = 0 ∧ s.ppsLost.flag F.CLK_PPS_LOST = true ∧
    s.ppsLost.sticky 0xD4 = true ∧ s.ppsLost.getF F.CLK_PPS_LOST_CNT_COUNT = min (2 ^ 32 - 1) (s.getF F.CLK_PPS_LOST_CNT_COUNT + 1) ∧
    s.Within (0x4000 :: 0x4002 :: raiseBlocks) s.ppsLost := by
  obtain ⟨h1, h2, h3, h4, h5, h6⟩ := s.ppsMissed_shows
  obtain ⟨k1, -, -, k4, k5⟩ := h6.raised (by decide) (by decide) h4 h5 (n := 0xD4) (by decide) hq ha
  rw [s.ppsLost_eq hr hp hn]
  exact ⟨(congrArg Flu.ppsR (State.blind_flu _ _ _ k5)).trans (congrArg Flu.ppsR h1), (k5.within.flag _ (by decide)).trans h2, k1,
    (k5.within.getF _ (by decide)).trans h3, k4.mono (by decide)⟩

/-- Settles O18: kindling, rate correction, PPS. -/
theorem flueTime : Obligations.FlueTime := by
  refine ⟨fun s t hr => ⟨fun hm hk hl hx hi => ⟨fun he => ?_, fun e he hp hn => ?_⟩, fun hk => ?_⟩,
    ⟨fun s hr hc => next_congr (if_pos (.inr hc)), fun s r hr hc hrate => ⟨fun hlo hhi => ?_, fun hout hq ha => ?_⟩⟩,
    fun s hr hp hn => ⟨fun t => ?_, fun t => next_congr (if_neg (by simp)), fun hq ha => ?_⟩⟩
  · obtain ⟨h1, h2, h3⟩ := s.kindling_frame t false hi
    obtain ⟨k1, k2, -⟩ := s.kindled_shows t hi
    exact ⟨_, next_congr (s.listenTimeout_plain t (s.mayKindle_of hr hm hk hl hx) he), rfl, k1, k2, h2, h3, h1⟩
  · obtain ⟨h1, -, -⟩ := s.kindling_frame ((t : Int) - e).toNat true hi
    obtain ⟨k1, -⟩ := s.kindled_shows ((t : Int) - e).toNat hi
    exact ⟨_, next_congr (s.listenTimeout_shifted t e (s.mayKindle_of hr hm hk hl hx) he hp hn), rfl, k1, rfl, rfl, h1⟩
  · have he : s.coldLimit = { s with flu := { s.flu with integ := .listen, out := [] } } := by
      unfold State.coldLimit
      rcases hk with h | ⟨k, p, h⟩
      · rw [h]
      · rw [h]
    exact next_congr ((if_pos (State.running_of_run hr)).trans he)
  · have heq := s.rateCorrection_eq r hr hc hrate
    have hheld : max (-50000) (min 50000 r) = r := by omega
    rw [hheld, decide_eq_false (fun h => h rfl)] at heq
    obtain ⟨h1, h2, h3⟩ := s.rateMoved_shows r
    exact ⟨_, next_congr heq, h1, rfl, h2, h3.2⟩
  · have heq := s.rateCorrection_eq r hr hc hrate
    have hne : r ≠ max (-50000) (min 50000 r) := by omega
    have hheld : max (-50000) (min 50000 r) = if r < 0 then -50000 else 50000 := by
      split <;> omega
    rw [State.when_true _ _ _ (decide_eq_true hne), hheld] at heq
    obtain ⟨h1, -, h3⟩ := s.rateMoved_shows (if r < 0 then -50000 else 50000)
    have hf : (s.rateMoved (if r < 0 then -50000 else 50000)).flu = { s.flu with sumM := 0 } := rfl
    obtain ⟨k1, k2, k3, k4, k5⟩ := State.syncLost_shows _ s h3 rfl rfl hq ha
    rw [hf] at k1
    exact ⟨_, next_congr heq, k4.trans h1, congrArg Flu.sumM k1, congrArg Flu.integ k1, k2, k3, congrArg Flu.out k1, k5⟩
  · obtain ⟨u, hu, h⟩ := s.ppsEdge_shows t hr hp hn
    exact ⟨u, next_congr hu, h⟩
  · obtain ⟨h1, h2, h3, h4, h5⟩ := s.ppsLost_shows hr hp hn hq ha
    exact ⟨_, rfl, h1, h2, h3, h4, h5⟩

end Sys2Proof.Machine
end

section
/-!
# The power stage
-/
namespace Sys2Proof.Machine

open Sys2Proof

/-! ### Fields that an operation writes -/

/-- Every field that shares no bit with the listed ones reads as before. -/
def State.OnlyFlds (fs : List Fld) (r t : State) : Prop := ∀ g : Fld, fs.all (·.apart g) = true → t.getF g = r.getF g

theorem State.OnlyFlds.refl (fs : List Fld) (s : State) : s.OnlyFlds fs s := fun _ _ => rfl

theorem State.OnlyFlds.trans {fs : List Fld} {r s t : State} (h : r.OnlyFlds fs s) (k : s.OnlyFlds fs t) : r.OnlyFlds fs t :=
  fun g hg => (k g hg).trans (h g hg)

theorem Fld.apart_of_all {fs : List Fld} {f g : Fld} (h : fs.all (·.apart g) = true) (hf : f ∈ fs) : f.apart g = true :=
  List.all_eq_true.1 h f hf

section
variable {fs : List Fld} {r s : State} (hs : r.OnlyFlds fs s)
include hs

theorem State.OnlyFlds.setF (f : Fld) (v : Nat) (hf : f ∈ fs) (hok : f.ok = true) : r.OnlyFlds fs (s.setF f v) := fun g hg =>
  (State.getF_setF_apart s f g v hok (Fld.apart_of_all hg hf)).trans (hs g hg)

theorem State.OnlyFlds.setFlag (f : Fld) (b : Bool) (hf : f ∈ fs) (hok : f.ok = true) : r.OnlyFlds fs (s.setFlag f b) :=
  hs.setF f _ hf hok

theorem State.OnlyFlds.incF (f : Fld) (hf : f ∈ fs) (hok : f.ok = true) : r.OnlyFlds fs (s.incF f) := hs.setF f _ hf hok

omit hs in
theorem State.getF_of_regs {t : State} (h : t.regs = s.regs) (g : Fld) : t.getF g = s.getF g :=
  State.getF_congr (by unfold State.reg; rw [h])

theorem State.OnlyFlds.hidden {t : State} (h : t.regs = s.regs) : r.OnlyFlds fs t := fun g hg =>
  (State.getF_of_regs h g).trans (hs g hg)

theorem State.OnlyFlds.event (e : EvBlk) (b : Nat) (hf : e.ev ∈ fs) (hok : e.ev.ok = true) : r.OnlyFlds fs (s.event e b) := by
  unfold State.event
  dsimp only
  split
  · exact (hs.setF _ _ hf hok).hidden rfl
  · exact hs.setF _ _ hf hok

theorem State.OnlyFlds.when (c : Bool) (f : State → State) (hf : ∀ u, r.OnlyFlds fs u → r.OnlyFlds fs (f u)) :
    r.OnlyFlds fs (s.when c f) := by
  cases c
  · exact hs
  · exact hf s hs

theorem State.OnlyFlds.each {α : Type} (l : List α) (f : State → α → State)
    (hf : ∀ u, ∀ a ∈ l, r.OnlyFlds fs u → r.OnlyFlds fs (f u a)) : r.OnlyFlds fs (s.each l f) := by
  unfold State.each
  induction l generalizing s with
  | nil => exact hs
  | cons a l ih => exact ih (hf s a (by simp) hs) fun u x hx => hf u x (by simp [hx])

end

/-- What an item's turn establishes under an invariant of the loop, and every turn keeps, holds after the loop. -/
theorem State.each_establishes {α : Type} {I P : State → Prop} {l : List α} {f : State → α → State} {b : α} (hb : b ∈ l)
    (hI : ∀ u, ∀ a ∈ l, I u → I (f u a)) (hset : ∀ u, I u → P (f u b)) (hkeep : ∀ u, ∀ a ∈ l, I u → P u → P (f u a))
    (s : State) (hs : I s) : P (s.each l f) := by
  have keep : ∀ (l' : List α) (u : State), (∀ a ∈ l', a ∈ l) → I u → P u → P (u.each l' f) := by
    intro l'
    induction l' with
    | nil => exact fun _ _ _ h => h
    | cons a l' ih =>
      exact fun u hl hi hp => ih (f u a) (fun x hx => hl x (by simp [hx])) (hI u a (hl a (by simp)) hi) (hkeep u a (hl a (by simp)) hi hp)
  have main : ∀ (l' : List α) (u : State), (∀ a ∈ l', a ∈ l) → b ∈ l' → I u → P (u.each l' f) := by
    intro l'
    induction l' with
    | nil => exact fun _ _ h _ => absurd h (by simp)
    | cons a l' ih =>
      intro u hl hm hi
      have hrest : ∀ x ∈ l', x ∈ l := fun x hx => hl x (by simp [hx])
      rcases List.mem_cons.1 hm with rfl | hm
      · exact keep l' _ hrest (hI u b hb hi) (hset u hi)
      · exact ih (f u a) hrest hm (hI u a (hl a (by simp)) hi)
  exact main l s (fun _ h => h) hb hs

/-! ### Bringing the power stage in line -/

/-- The status fields that bringing a bridge in line writes (R207, R229, R254). -/
def bridgeStatusFlds (b : Nat) : List Fld :=
  [F.GDR_BRIDGE_STAT_CAUSE b, F.GDR_BRIDGE_STAT_IMPOSED b, F.MOT_FORCED_CNT_COUNT b, (Ev.mot b).ev, F.MOT_STATE_CHG_CNT_COUNT b,
    F.MOT_ASC_CNT_COUNT b, F.MOT_STATUS_FORCED b, F.MOT_STATUS_PERMIT b, F.MOT_STATUS_STATE b]

/-- The fields of its gates. -/
def gateFlds (b : Nat) : List Fld := (List.range' (6 * b) 6).flatMap fun g => [F.GDR_GATE_CMD g, F.GDR_GATE_SENSE g]

/-- The fields that bringing a bridge in line writes. -/
def bridgeFlds (b : Nat) : List Fld := bridgeStatusFlds b ++ gateFlds b

/-- The fields that bringing a solenoid channel in line writes (R244 to R246). -/
def solFlds (k : Nat) : List Fld := [F.GDR_SOL_SET_SET k, F.GDR_SOL_STAT_STATE k, F.GDR_SOL_STAT_BLOCKED k, F.GDR_SOL_STAT_DUTY k]

/-- The fields that bringing the power stage in line writes. -/
def powerFlds : List Fld :=
  (List.range 3).flatMap bridgeFlds ++ (List.range 12).flatMap solFlds ++ (List.range 4).map F.GDR_EN_STAT_OUT ++
    [F.GDR_STATUS_IMPOSED, F.GDR_STATUS_XDIS_ACTIVE, F.GDR_STATUS_ENABLED]

/-- The gates of a bridge brought in line. -/
def State.refreshGates (s : State) (b : Nat) : State :=
  s.each (List.range' (6 * b) 6) (fun s g =>
    (s.setFlag (F.GDR_GATE_CMD g) (s.gateCommand g)).setFlag (F.GDR_GATE_SENSE g) (s.gateCommand g || s.gdr.stuck.contains g))

/-- The status of a bridge brought in line, before its plan and its gates. -/
def State.bridgeShown (s : State) (b : Nat) : State :=
  let imp := s.imposed b
  let st := s.bridgeState b
  let old := s.getF (F.MOT_STATUS_STATE b)
  let forced := !imp.isEmpty
  let s1 := (s.setF (F.GDR_BRIDGE_STAT_CAUSE b) (imposedCause imp)).setF (F.GDR_BRIDGE_STAT_IMPOSED b) (imposedCode imp)
  let s2 := s1.when (forced && !s.flag (F.MOT_STATUS_FORCED b)) (fun s => (s.incF (F.MOT_FORCED_CNT_COUNT b)).event (Ev.mot b) 4)
  let s3 := s2.when (decide (old ≠ st)) (fun s => s.incF (F.MOT_STATE_CHG_CNT_COUNT b))
  let s4 := s3.when (decide (old ≠ st) && decide (st = 2)) (fun s => (s.incF (F.MOT_ASC_CNT_COUNT b)).event (Ev.mot b) 5)
  ((s4.setFlag (F.MOT_STATUS_FORCED b) forced).setFlag (F.MOT_STATUS_PERMIT b) s.mode.isLead).setF (F.MOT_STATUS_STATE b) st

/-- The plan of a bridge whose state changes is made anew. -/
def State.bridgePlanned (s : State) (b : Nat) : State :=
  (s.bridgeShown b).when (decide (s.getF (F.MOT_STATUS_STATE b) ≠ s.bridgeState b)) (fun s => s.statePlan b)

theorem State.refreshBridge_eq (s : State) (b : Nat) : s.refreshBridge b = (s.bridgePlanned b).refreshGates b := rfl

theorem State.bridgePlanned_plain (s : State) (b : Nat) :
    (s.bridgePlanned b).regs = (s.bridgeShown b).regs ∧ (s.bridgePlanned b).gdr = (s.bridgeShown b).gdr := by
  unfold State.bridgePlanned
  generalize decide (s.getF (F.MOT_STATUS_STATE b) ≠ s.bridgeState b) = c
  generalize s.bridgeShown b = u
  cases c <;> exact ⟨rfl, rfl⟩

theorem State.bridgeShown_gdr (s : State) (b : Nat) : (s.bridgeShown b).gdr = s.gdr := by simp [State.bridgeShown]

theorem State.refreshGates_gdr (s : State) (b : Nat) : (s.refreshGates b).gdr = s.gdr := State.each_gdr _ _ _ fun u g => by simp

theorem State.refreshBridge_gdr (s : State) (b : Nat) : (s.refreshBridge b).gdr = s.gdr := by
  rw [State.refreshBridge_eq, State.refreshGates_gdr, (s.bridgePlanned_plain b).2, State.bridgeShown_gdr]

theorem State.refreshSol_gdr (s : State) (k : Nat) : (s.refreshSol k).gdr = s.gdr := by simp [State.refreshSol]

theorem State.refreshEn_gdr (s : State) (e : Nat) : (s.refreshEn e).gdr = s.gdr := rfl

/-- Bringing bridges, solenoid channels and safe enables in line, one after the other. -/
def State.powerStages (s : State) : State :=
  ((s.each (List.range 3) State.refreshBridge).each (List.range 12) State.refreshSol).each (List.range 4) State.refreshEn

theorem State.refreshPower_eq (s : State) : s.refreshPower =
    ((s.powerStages.setF F.GDR_STATUS_IMPOSED (maskOf ((List.range 3).map (fun b => !(s.imposed b).isEmpty)))).setFlag
      F.GDR_STATUS_XDIS_ACTIVE s.gdr.xdisIn).setFlag F.GDR_STATUS_ENABLED s.gateEnable := rfl

theorem State.powerStages_gdr (s : State) : s.powerStages.gdr = s.gdr := by
  unfold State.powerStages
  rw [State.each_gdr _ _ _ State.refreshEn_gdr, State.each_gdr _ _ _ State.refreshSol_gdr, State.each_gdr _ _ _ State.refreshBridge_gdr]

theorem State.refreshPower_gdr (s : State) : s.refreshPower.gdr = s.gdr := by
  rw [State.refreshPower_eq, State.setFlag_gdr, State.setFlag_gdr, State.setF_gdr, State.powerStages_gdr]

theorem State.OnlyFlds.mono {fs gs : List Fld} {r t : State} (h : r.OnlyFlds fs t) (hsub : ∀ f ∈ fs, f ∈ gs) : r.OnlyFlds gs t :=
  fun g hg => h g (List.all_eq_true.2 fun f hf => List.all_eq_true.1 hg f (hsub f hf))

theorem State.bridgeShown_flds (s : State) (b : Nat) : s.OnlyFlds (bridgeStatusFlds b) (s.bridgeShown b) := by
  unfold State.bridgeShown bridgeStatusFlds
  dsimp only
  refine State.OnlyFlds.setF (State.OnlyFlds.setFlag (State.OnlyFlds.setFlag ?_ _ _ (by simp) rfl) _ _ (by simp) rfl) _ _ (by simp) rfl
  refine State.OnlyFlds.when ?_ _ _ fun u hu => (hu.incF _ (by simp) rfl).event _ _ (by simp) rfl
  refine State.OnlyFlds.when ?_ _ _ fun u hu => hu.incF _ (by simp) rfl
  refine State.OnlyFlds.when ?_ _ _ fun u hu => (hu.incF _ (by simp) rfl).event _ _ (by simp) rfl
  exact ((State.OnlyFlds.refl _ s).setF _ _ (by simp) rfl).setF _ _ (by simp) rfl

theorem State.refreshGates_flds (s : State) (b : Nat) : s.OnlyFlds (gateFlds b) (s.refreshGates b) :=
  (State.OnlyFlds.refl _ s).each _ _ fun u g hg hu => (hu.setFlag _ _ (List.mem_flatMap.2 ⟨g, hg, by simp⟩) rfl).setFlag _ _
    (List.mem_flatMap.2 ⟨g, hg, by simp⟩) rfl

theorem State.bridgePlanned_flds (s : State) (b : Nat) : s.OnlyFlds (bridgeStatusFlds b) (s.bridgePlanned b) :=
  (s.bridgeShown_flds b).hidden (s.bridgePlanned_plain b).1

theorem State.refreshBridge_flds (s : State) (b : Nat) : s.OnlyFlds (bridgeFlds b) (s.refreshBridge b) := by
  rw [State.refreshBridge_eq]
  exact ((s.bridgePlanned_flds b).mono fun f hf => List.mem_append_left _ hf).trans
    ((State.refreshGates_flds _ b).mono fun f hf => List.mem_append_right _ hf)

theorem State.refreshSol_flds (s : State) (k : Nat) : s.OnlyFlds (solFlds k) (s.refreshSol k) := by
  unfold State.refreshSol
  dsimp only
  refine State.OnlyFlds.when ?_ _ _ fun u hu => hu.setF _ _ (by simp [solFlds]) rfl
  exact (((State.OnlyFlds.refl _ s).setF _ _ (by simp [solFlds]) rfl).setF _ _ (by simp [solFlds]) rfl).setFlag _ _ (by simp [solFlds]) rfl

theorem mem_powerFlds {f : Fld} : f ∈ powerFlds ↔ (∃ b < 3, f ∈ bridgeFlds b) ∨ (∃ k < 12, f ∈ solFlds k) ∨
    (∃ e < 4, F.GDR_EN_STAT_OUT e = f) ∨ f ∈ [F.GDR_STATUS_IMPOSED, F.GDR_STATUS_XDIS_ACTIVE, F.GDR_STATUS_ENABLED] := by
  simp only [powerFlds, List.mem_append, List.mem_flatMap, List.mem_map, List.mem_range, or_assoc]

theorem State.powerStages_flds (s : State) : s.OnlyFlds powerFlds s.powerStages := by
  have h1 : s.OnlyFlds powerFlds (s.each (List.range 3) State.refreshBridge) := (State.OnlyFlds.refl _ s).each _ _ fun u b hb hu =>
    hu.trans ((u.refreshBridge_flds b).mono fun f hf => mem_powerFlds.2 (.inl ⟨b, List.mem_range.1 hb, hf⟩))
  have h2 := h1.each (List.range 12) State.refreshSol fun u k hk hu =>
    hu.trans ((u.refreshSol_flds k).mono fun f hf => mem_powerFlds.2 (.inr (.inl ⟨k, List.mem_range.1 hk, hf⟩)))
  exact h2.each (List.range 4) State.refreshEn fun u e he hu =>
    hu.setFlag _ _ (mem_powerFlds.2 (.inr (.inr (.inl ⟨e, List.mem_range.1 he, rfl⟩)))) rfl

/-- Bringing the power stage in line writes its status fields alone. -/
theorem State.refreshPower_flds (s : State) : s.OnlyFlds powerFlds s.refreshPower := by
  have h := s.powerStages_flds
  have hm (f : Fld) (hf : f ∈ [F.GDR_STATUS_IMPOSED, F.GDR_STATUS_XDIS_ACTIVE, F.GDR_STATUS_ENABLED]) : f ∈ powerFlds :=
    mem_powerFlds.2 (.inr (.inr (.inr hf)))
  rw [State.refreshPower_eq]
  generalize s.powerStages = u at h ⊢
  exact ((h.setF _ _ (hm _ (by simp)) rfl).setFlag _ _ (hm _ (by simp)) rfl).setFlag _ _ (hm _ (by simp)) rfl


/-! ### What the power stage shows -/

theorem State.imposed_congr {s t : State} (h : t.gdr = s.gdr) (b : Nat) : t.imposed b = s.imposed b := by
  unfold State.imposed State.xdisEff
  rw [h]

/-- OFF is imposed on a bridge: a cause holds that does not ask for ASC (R241). -/
def State.offHeld (s : State) (b : Nat) : Prop := ∃ c ∈ s.imposed b, c.2 = false

theorem imposedCode_off {l : List (Nat × Bool)} (h : ∃ c ∈ l, c.2 = false) : imposedCode l = 1 := by
  obtain ⟨c, hc, hf⟩ := h
  unfold imposedCode
  rw [if_neg (by simpa using List.ne_nil_of_mem hc), if_neg]
  intro ha
  exact absurd (List.all_eq_true.1 ha c hc) (by rw [hf]; decide)

theorem State.bridgeState_off {s : State} {b : Nat} (h : s.offHeld b) : s.bridgeState b = 0 := by
  unfold State.bridgeState
  rw [imposedCode_off h]
  split <;> rfl

theorem State.offHeld_of_imp {s : State} {i : Imp} (h : i ∈ s.gdr.imps) (ha : i.asc = false) : s.offHeld i.bridge :=
  ⟨(i.cause, i.asc), List.mem_append_right _ (List.mem_map.2 ⟨i, List.mem_filter.2 ⟨h, by simp⟩, rfl⟩), ha⟩

theorem State.offHeld_of_xdis {s : State} (h : s.xdisEff = true) (b : Nat) : s.offHeld b :=
  ⟨(1, false), List.mem_append_left _ (by rw [if_pos h]; simp), rfl⟩

/-- Bringing a bridge in line shows its state and the code of its impositions. -/
theorem State.refreshBridge_shows (s : State) (b : Nat) (hb : b < 3) :
    (s.refreshBridge b).getF (F.MOT_STATUS_STATE b) = s.bridgeState b % 4 ∧
      (s.refreshBridge b).getF (F.GDR_BRIDGE_STAT_IMPOSED b) = imposedCode (s.imposed b) % 4 := by
  have hrest (f : Fld) (hf : (gateFlds b).all (·.apart f) = true) : (s.refreshBridge b).getF f = (s.bridgeShown b).getF f := by
    rw [State.refreshBridge_eq, State.refreshGates_flds _ b f hf]
    exact State.getF_of_regs (s.bridgePlanned_plain b).1 f
  have hgates : ∀ b < 3, (gateFlds b).all (·.apart (F.MOT_STATUS_STATE b)) = true ∧
      (gateFlds b).all (·.apart (F.GDR_BRIDGE_STAT_IMPOSED b)) = true := by decide +kernel
  have hlate : ∀ b < 3, [F.MOT_FORCED_CNT_COUNT b, F.MOT_STATE_CHG_CNT_COUNT b, F.MOT_ASC_CNT_COUNT b, F.MOT_STATUS_FORCED b,
      F.MOT_STATUS_PERMIT b, F.MOT_STATUS_STATE b, (Ev.mot b).ev].all (·.apart (F.GDR_BRIDGE_STAT_IMPOSED b)) = true := by decide
  obtain ⟨hg1, hg2⟩ := hgates b hb
  refine ⟨(hrest _ hg1).trans (State.getF_setF_same _ _ _ rfl), (hrest _ hg2).trans ?_⟩
  have hshown : ((s.setF (F.GDR_BRIDGE_STAT_CAUSE b) (imposedCause (s.imposed b))).setF (F.GDR_BRIDGE_STAT_IMPOSED b)
      (imposedCode (s.imposed b))).OnlyFlds [F.MOT_FORCED_CNT_COUNT b, F.MOT_STATE_CHG_CNT_COUNT b, F.MOT_ASC_CNT_COUNT b,
        F.MOT_STATUS_FORCED b, F.MOT_STATUS_PERMIT b, F.MOT_STATUS_STATE b, (Ev.mot b).ev] (s.bridgeShown b) := by
    unfold State.bridgeShown
    dsimp only
    refine State.OnlyFlds.setF (State.OnlyFlds.setFlag (State.OnlyFlds.setFlag ?_ _ _ (by simp) rfl) _ _ (by simp) rfl) _ _ (by simp) rfl
    refine State.OnlyFlds.when ?_ _ _ fun u hu => (hu.incF _ (by simp) rfl).event _ _ (by simp) rfl
    refine State.OnlyFlds.when ?_ _ _ fun u hu => hu.incF _ (by simp) rfl
    exact (State.OnlyFlds.refl _ _).when _ _ fun u hu => (hu.incF _ (by simp) rfl).event _ _ (by simp) rfl
  exact (hshown _ (hlate b hb)).trans (State.getF_setF_same _ _ _ rfl)

/-- The fields that bringing solenoid channels, safe enables and the stage's status in line writes. -/
def stageFlds : List Fld := (List.range 12).flatMap solFlds ++ (List.range 4).map F.GDR_EN_STAT_OUT ++
  [F.GDR_STATUS_IMPOSED, F.GDR_STATUS_XDIS_ACTIVE, F.GDR_STATUS_ENABLED]

/-- The bridges brought in line. -/
def State.bridgesShown (s : State) : State := s.each (List.range 3) State.refreshBridge

theorem State.bridgesShown_gdr (s : State) : s.bridgesShown.gdr = s.gdr := State.each_gdr _ _ _ State.refreshBridge_gdr

theorem State.refreshPower_stage (s : State) : s.bridgesShown.OnlyFlds stageFlds s.refreshPower := by
  have h1 := (State.OnlyFlds.refl stageFlds s.bridgesShown).each (List.range 12) State.refreshSol fun u k hk hu =>
    hu.trans ((u.refreshSol_flds k).mono fun f hf => List.mem_append_left _ (List.mem_append_left _ (List.mem_flatMap.2 ⟨k, hk, hf⟩)))
  have h2 := h1.each (List.range 4) State.refreshEn fun u e he hu =>
    hu.setFlag _ _ (List.mem_append_left _ (List.mem_append_right _ (List.mem_map.2 ⟨e, he, rfl⟩))) rfl
  have h : s.bridgesShown.OnlyFlds stageFlds s.powerStages := h2
  have hm (f : Fld) (hf : f ∈ [F.GDR_STATUS_IMPOSED, F.GDR_STATUS_XDIS_ACTIVE, F.GDR_STATUS_ENABLED]) : f ∈ stageFlds :=
    List.mem_append_right _ hf
  rw [State.refreshPower_eq]
  generalize s.powerStages = u at h ⊢
  exact ((h.setF _ _ (hm _ (by simp)) rfl).setFlag _ _ (hm _ (by simp)) rfl).setFlag _ _ (hm _ (by simp)) rfl

/-- A bridge's registers show OFF and an imposition of OFF. -/
def State.showsOff (s : State) (b : Nat) : Prop :=
  s.getF (F.MOT_STATUS_STATE b) = 0 ∧ s.getF (F.GDR_BRIDGE_STAT_IMPOSED b) = 1

/-- A bridge on which OFF is imposed shows OFF and the imposition (R207, R241). -/
theorem State.refreshPower_off (s : State) (b : Nat) (hb : b < 3) (h : s.offHeld b) : s.refreshPower.showsOff b := by
  have hst : ∀ b < 3, stageFlds.all (·.apart (F.MOT_STATUS_STATE b)) = true ∧ stageFlds.all (·.apart (F.GDR_BRIDGE_STAT_IMPOSED b)) = true := by
    decide +kernel
  have hothers : ∀ b < 3, ∀ a < 3, a ≠ b → (bridgeFlds a).all (·.apart (F.MOT_STATUS_STATE b)) = true ∧
      (bridgeFlds a).all (·.apart (F.GDR_BRIDGE_STAT_IMPOSED b)) = true := by decide +kernel
  have hset (u : State) (hu : u.gdr = s.gdr) : (u.refreshBridge b).showsOff b := by
    have hoff : u.offHeld b := by unfold State.offHeld; rw [State.imposed_congr hu]; exact h
    obtain ⟨h1, h2⟩ := u.refreshBridge_shows b hb
    exact ⟨h1.trans (by rw [State.bridgeState_off hoff]), h2.trans (by rw [imposedCode_off hoff])⟩
  have hkeep (u : State) (a : Nat) (ha : a ∈ List.range 3) (hu : u.gdr = s.gdr) (hp : u.showsOff b) : (u.refreshBridge a).showsOff b := by
    obtain ⟨h1, h2⟩ := hp
    by_cases hab : a = b
    · subst hab
      exact hset u hu
    · obtain ⟨k1, k2⟩ := hothers b hb a (List.mem_range.1 ha) hab
      exact ⟨(u.refreshBridge_flds a _ k1).trans h1, (u.refreshBridge_flds a _ k2).trans h2⟩
  have hb1 : s.bridgesShown.showsOff b := State.each_establishes (I := fun u => u.gdr = s.gdr) (P := fun u => u.showsOff b)
    (List.mem_range.2 hb) (fun u a _ hu => (u.refreshBridge_gdr a).trans hu) hset hkeep s rfl
  obtain ⟨k1, k2⟩ := hst b hb
  exact ⟨(s.refreshPower_stage _ k1).trans hb1.1, (s.refreshPower_stage _ k2).trans hb1.2⟩

/-- A gate that its driver withholds: held after a shoot-through attempt, or its phase under its bootstrap threshold (R232, R235). -/
def State.gateHeld (s : State) (g : Nat) : Prop := g ∈ s.gdr.shootHeld ∨ s.flag (F.GDR_GATE_UV (g / 2 * 2 + 1)) = true

theorem State.gateCommand_held {s : State} {g : Nat} (h : s.gateHeld g) : s.gateCommand g = false := by
  unfold State.gateCommand
  rcases h with h | h
  · rw [List.contains_iff_mem.2 h]
    simp
  · rw [h]
    simp

theorem State.gateHeld_congr {s t : State} {g : Nat} (h : s.gateHeld g) (hgdr : t.gdr = s.gdr)
    (huv : t.getF (F.GDR_GATE_UV (g / 2 * 2 + 1)) = s.getF (F.GDR_GATE_UV (g / 2 * 2 + 1))) : t.gateHeld g := by
  unfold State.gateHeld
  rw [hgdr, State.flag_congr huv]
  exact h

/-- One gate brought in line with its command and its sense. -/
def State.gateShown (s : State) (g : Nat) : State :=
  (s.setFlag (F.GDR_GATE_CMD g) (s.gateCommand g)).setFlag (F.GDR_GATE_SENSE g) (s.gateCommand g || s.gdr.stuck.contains g)

theorem State.gateShown_flds (s : State) (g : Nat) : s.OnlyFlds [F.GDR_GATE_CMD g, F.GDR_GATE_SENSE g] (s.gateShown g) :=
  ((State.OnlyFlds.refl _ s).setFlag _ _ (by simp) rfl).setFlag _ _ (by simp) rfl

theorem State.gateShown_held {s : State} {g : Nat} (h : s.gateHeld g) : (s.gateShown g).flag (F.GDR_GATE_CMD g) = false := by
  refine (State.flag_setFlag_apart _ _ _ _ rfl ((Fld.apart_iff _ _).2 (.inr (.inr (by decide : 2 < 3))))).trans ?_
  exact (State.flag_setFlag_same _ _ _ rfl).trans (State.gateCommand_held h)

/-- The gates of its bridge brought in line, a gate that is held is commanded off. -/
theorem State.refreshGates_held (s : State) (g : Nat) (h : s.gateHeld g) :
    (s.refreshGates (g / 6)).flag (F.GDR_GATE_CMD g) = false := by
  have hI (u : State) (a : Nat) (_ : a ∈ List.range' (6 * (g / 6)) 6) (hu : u.gateHeld g) : (u.gateShown a).gateHeld g := by
    refine State.gateHeld_congr hu rfl (State.gateShown_flds u a _ ?_)
    simp only [List.all_cons, List.all_nil, Bool.and_eq_true, Fld.apart_iff, F.GDR_GATE_CMD, F.GDR_GATE_SENSE, F.GDR_GATE_UV, and_true]
    omega
  have hkeep (u : State) (a : Nat) (_ : a ∈ List.range' (6 * (g / 6)) 6) (hu : u.gateHeld g) (hp : u.flag (F.GDR_GATE_CMD g) = false) :
      (u.gateShown a).flag (F.GDR_GATE_CMD g) = false := by
    by_cases hag : a = g
    · subst hag
      exact State.gateShown_held hu
    · refine (State.flag_congr (State.gateShown_flds u a _ ?_)).trans hp
      simp only [List.all_cons, List.all_nil, Bool.and_eq_true, Fld.apart_iff, F.GDR_GATE_CMD, F.GDR_GATE_SENSE, and_true]
      omega
  exact State.each_establishes (I := fun u => u.gateHeld g) (P := fun u => u.flag (F.GDR_GATE_CMD g) = false)
    (List.mem_range'_1.2 (by omega)) hI (fun _ => State.gateShown_held) hkeep s h

/-- A gate that is held is commanded off once the power stage is in line (R232, R235). -/
theorem State.refreshPower_gateHeld (s : State) (g : Nat) (hg : g < 18) (h : s.gateHeld g) :
    s.refreshPower.flag (F.GDR_GATE_CMD g) = false := by
  have huv : ∀ g < 18, ∀ b < 3, (bridgeFlds b).all (·.apart (F.GDR_GATE_UV (g / 2 * 2 + 1))) = true := by decide +kernel
  have hcmd : ∀ g < 18, stageFlds.all (·.apart (F.GDR_GATE_CMD g)) = true := by decide +kernel
  have hother : ∀ g < 18, ∀ b < 3, b ≠ g / 6 → (bridgeFlds b).all (·.apart (F.GDR_GATE_CMD g)) = true := by decide +kernel
  have hst : ∀ g < 18, (bridgeStatusFlds (g / 6)).all (·.apart (F.GDR_GATE_UV (g / 2 * 2 + 1))) = true := by decide +kernel
  have hI (u : State) (b : Nat) (hb : b ∈ List.range 3) (hu : u.gateHeld g) : (u.refreshBridge b).gateHeld g :=
    State.gateHeld_congr hu (u.refreshBridge_gdr b) (u.refreshBridge_flds b _ (huv g hg b (List.mem_range.1 hb)))
  have hset (u : State) (hu : u.gateHeld g) : (u.refreshBridge (g / 6)).flag (F.GDR_GATE_CMD g) = false := by
    rw [State.refreshBridge_eq]
    refine State.refreshGates_held _ g (State.gateHeld_congr hu ?_ ?_)
    · exact (u.bridgePlanned_plain _).2.trans (u.bridgeShown_gdr _)
    · exact u.bridgePlanned_flds _ _ (hst g hg)
  have hkeep (u : State) (b : Nat) (hb : b ∈ List.range 3) (hu : u.gateHeld g) (hp : u.flag (F.GDR_GATE_CMD g) = false) :
      (u.refreshBridge b).flag (F.GDR_GATE_CMD g) = false := by
    by_cases hbg : b = g / 6
    · subst hbg
      exact hset u hu
    · exact (State.flag_congr (u.refreshBridge_flds b _ (hother g hg b (List.mem_range.1 hb) hbg))).trans hp
  have h1 : s.bridgesShown.flag (F.GDR_GATE_CMD g) = false := State.each_establishes (I := fun u => u.gateHeld g)
    (P := fun u => u.flag (F.GDR_GATE_CMD g) = false) (List.mem_range.2 (by omega)) hI hset hkeep s h
  exact (State.flag_congr (s.refreshPower_stage _ (hcmd g hg))).trans h1

theorem State.xdisEff_of {s u : State} (hu : u.gdr = s.gdr) (h : s.gdr.xdisIn = true) : u.xdisEff = true := by
  unfold State.xdisEff
  rw [hu, h]
  rfl

/-- A blocked solenoid channel is not driven (R242, R246). -/
theorem State.refreshSol_blocked (s : State) (k : Nat) (h : s.xdisEff = true) : (s.refreshSol k).getF (F.GDR_SOL_STAT_STATE k) ≠ 1 := by
  unfold State.refreshSol
  rw [h]
  simp only [Bool.or_true, Bool.true_or, if_true]
  rw [State.getF_when _ _ _ _ (State.getF_setF_apart _ _ _ _ rfl (by simp [Fld.apart_iff, F.GDR_SOL_STAT_DUTY, F.GDR_SOL_STAT_STATE])),
    State.getF_setFlag_apart _ _ _ _ rfl (by simp [Fld.apart_iff, F.GDR_SOL_STAT_BLOCKED, F.GDR_SOL_STAT_STATE]),
    State.getF_setF_same _ _ _ rfl]
  split
  · exact (by decide : 2 % 2 ^ 2 ≠ 1)
  · exact (by decide : 0 % 2 ^ 2 ≠ 1)

/-- The solenoid channels brought in line. -/
def State.solsShown (s : State) : State := s.bridgesShown.each (List.range 12) State.refreshSol

theorem State.powerStages_eq (s : State) : s.powerStages = s.solsShown.each (List.range 4) State.refreshEn := rfl

theorem State.solsShown_gdr (s : State) : s.solsShown.gdr = s.gdr :=
  (State.each_gdr _ _ _ State.refreshSol_gdr).trans s.bridgesShown_gdr

theorem State.solsShown_blocked (s : State) (k : Nat) (hk : k < 12) (h : s.gdr.xdisIn = true) :
    s.solsShown.getF (F.GDR_SOL_STAT_STATE k) ≠ 1 := by
  have hother : ∀ k < 12, ∀ j < 12, j ≠ k → (solFlds j).all (·.apart (F.GDR_SOL_STAT_STATE k)) = true := by decide +kernel
  have hset (u : State) (hu : u.gdr = s.gdr) : (u.refreshSol k).getF (F.GDR_SOL_STAT_STATE k) ≠ 1 :=
    u.refreshSol_blocked k (State.xdisEff_of hu h)
  have hkeep (u : State) (j : Nat) (hj : j ∈ List.range 12) (hu : u.gdr = s.gdr) (hp : u.getF (F.GDR_SOL_STAT_STATE k) ≠ 1) :
      (u.refreshSol j).getF (F.GDR_SOL_STAT_STATE k) ≠ 1 := by
    by_cases hjk : j = k
    · subst hjk
      exact hset u hu
    · rw [u.refreshSol_flds j _ (hother k hk j (List.mem_range.1 hj) hjk)]
      exact hp
  exact State.each_establishes (I := fun u => u.gdr = s.gdr) (P := fun u => u.getF (F.GDR_SOL_STAT_STATE k) ≠ 1)
    (List.mem_range.2 hk) (fun u j _ hu => (u.refreshSol_gdr j).trans hu) hset hkeep s.bridgesShown s.bridgesShown_gdr

theorem State.powerStages_enables (s : State) (e : Nat) (he : e < 4) (h : s.gdr.xdisIn = true) :
    s.powerStages.flag (F.GDR_EN_STAT_OUT e) = false := by
  have hset (u : State) (hu : u.gdr = s.gdr) : (u.refreshEn e).flag (F.GDR_EN_STAT_OUT e) = false := by
    refine (State.flag_setFlag_same _ _ _ rfl).trans ?_
    rw [State.xdisEff_of hu h]
    simp
  have hkeep (u : State) (j : Nat) (_ : j ∈ List.range 4) (hu : u.gdr = s.gdr) (hp : u.flag (F.GDR_EN_STAT_OUT e) = false) :
      (u.refreshEn j).flag (F.GDR_EN_STAT_OUT e) = false := by
    by_cases hje : j = e
    · subst hje
      exact hset u hu
    · refine (State.flag_setFlag_apart _ _ _ _ rfl ?_).trans hp
      simp only [Fld.apart_iff, F.GDR_EN_STAT_OUT]
      omega
  rw [State.powerStages_eq]
  exact State.each_establishes (I := fun u => u.gdr = s.gdr) (P := fun u => u.flag (F.GDR_EN_STAT_OUT e) = false)
    (f := State.refreshEn) (List.mem_range.2 he) (fun u j _ hu => (u.refreshEn_gdr j).trans hu) hset hkeep s.solsShown s.solsShown_gdr

/-- With XDIS_IN accepted low the gate enable, the solenoid channels and the safe enables are off (R242). -/
theorem State.refreshPower_xdis (s : State) (h : s.gdr.xdisIn = true) :
    s.refreshPower.flag F.GDR_STATUS_ENABLED = false ∧ (∀ k < 12, s.refreshPower.getF (F.GDR_SOL_STAT_STATE k) ≠ 1) ∧
      ∀ e < 4, s.refreshPower.flag (F.GDR_EN_STAT_OUT e) = false := by
  have hlast (g : Fld) (hg : [F.GDR_STATUS_IMPOSED, F.GDR_STATUS_XDIS_ACTIVE, F.GDR_STATUS_ENABLED].all (·.apart g) = true) :
      s.refreshPower.getF g = s.powerStages.getF g := by
    rw [State.refreshPower_eq]
    generalize s.powerStages = u
    exact (((State.OnlyFlds.refl _ u).setF _ _ (by simp) rfl).setFlag _ _ (by simp) rfl).setFlag _ _ (by simp) rfl g hg
  have hens : ∀ k < 12, ((List.range 4).map F.GDR_EN_STAT_OUT).all (·.apart (F.GDR_SOL_STAT_STATE k)) = true ∧
      [F.GDR_STATUS_IMPOSED, F.GDR_STATUS_XDIS_ACTIVE, F.GDR_STATUS_ENABLED].all (·.apart (F.GDR_SOL_STAT_STATE k)) = true := by decide +kernel
  have hen : ∀ e < 4, [F.GDR_STATUS_IMPOSED, F.GDR_STATUS_XDIS_ACTIVE, F.GDR_STATUS_ENABLED].all (·.apart (F.GDR_EN_STAT_OUT e)) = true := by
    decide +kernel
  refine ⟨?_, fun k hk => ?_, fun e he => ?_⟩
  · rw [State.refreshPower_eq, State.flag_setFlag_same _ _ _ rfl]
    simp [State.gateEnable, h]
  · obtain ⟨h1, h2⟩ := hens k hk
    have hu : s.solsShown.OnlyFlds ((List.range 4).map F.GDR_EN_STAT_OUT) s.powerStages := by
      rw [State.powerStages_eq]
      exact (State.OnlyFlds.refl _ _).each _ _ fun u e he hu => hu.setFlag _ _ (List.mem_map.2 ⟨e, he, rfl⟩) rfl
    rw [hlast _ h2, hu _ h1]
    exact s.solsShown_blocked k hk h
  · rw [State.flag_congr (hlast _ (hen e he))]
    exact s.powerStages_enables e he h


/-! ### What a quiet raise leaves of the power stage -/

/-- The gate drive's hidden state is as before but for the released channel (R389). -/
def State.SameGdr (s t : State) : Prop := ∃ x, t.gdr = { s.gdr with released := x }

theorem State.SameGdr.of_eq {s t : State} (h : t.gdr = s.gdr) : s.SameGdr t := ⟨s.gdr.released, h⟩

theorem State.SameGdr.trans {r s t : State} (h : r.SameGdr s) (k : s.SameGdr t) : r.SameGdr t := by
  obtain ⟨x, hx⟩ := h
  obtain ⟨y, hy⟩ := k
  exact ⟨y, by rw [hy, hx]⟩

@[simp] theorem State.refreshReact_gdr (s : State) : s.refreshReact.gdr = s.gdr := rfl

@[simp] theorem State.setActive_gdr (s : State) (n : Nat) (b : Bool) : (s.setActive n b).gdr = s.gdr := by
  unfold State.setActive
  dsimp only
  split
  · rfl
  · split
    · rw [State.setF_gdr, State.setFlag_gdr, State.setF_gdr]
    · rw [State.refreshReact_gdr, State.setF_gdr, State.setFlag_gdr, State.setF_gdr]

@[simp] theorem State.settle_gdr (s : State) (n : Nat) : (s.settle n).gdr = s.gdr := by
  unfold State.settle
  split
  · exact State.setActive_gdr ..
  · rfl

@[simp] theorem State.fltRecord_gdr (s : State) (n : Nat) : (s.fltRecord n).gdr = s.gdr := by
  unfold State.fltRecord
  dsimp only
  split
  · rw [State.event_gdr]
    split
    · rw [State.marker_gdr, State.setReg_gdr, State.incF_gdr, State.setActive_gdr, State.setF_gdr]
    · rw [State.setF_gdr, State.setFlag_gdr, State.marker_gdr, State.setReg_gdr, State.incF_gdr, State.setActive_gdr, State.setF_gdr]
  · rw [State.marker_gdr, State.setReg_gdr, State.incF_gdr, State.setActive_gdr, State.setF_gdr]

@[simp] theorem State.startWait_gdr (s : State) (n : Nat) : (s.startWait n).gdr = s.gdr := by
  unfold State.startWait
  split
  · split
    · rfl
    · split <;> rfl
  · rfl

theorem State.pushLog_gdr (s : State) (fld : Nat → Fld) (n : Nat) : (s.pushLog fld n).gdr = s.gdr := by
  induction n generalizing s with
  | zero => rfl
  | succ n ih => exact (ih _).trans (State.setReg_gdr ..)

@[simp] theorem State.trigger_gdr (s : State) (k n : Nat) : (s.trigger k n).gdr = s.gdr := by
  have hl : (s.logTrigger k n).gdr = s.gdr := by
    unfold State.logTrigger
    rw [State.setReg_gdr, State.pushLog_gdr]
  unfold State.trigger
  dsimp only
  generalize s.logTrigger k n = u at hl ⊢
  split
  · rw [State.event_gdr, State.incF_gdr, State.incF_gdr]
    exact hl
  · split
    · rw [State.setF_gdr, State.setF_gdr, State.setF_gdr]
      exact hl
    · exact hl

@[simp] theorem State.fltFreezeAct_gdr (s : State) (n : Nat) : (s.fltFreezeAct n).gdr = s.gdr := by
  unfold State.fltFreezeAct
  simp

theorem State.fltFreezeAct_within (s : State) (n : Nat) : s.Within [0x4003, 0x4011, 0x4012, 0x4013] (s.fltFreezeAct n) := by
  unfold State.fltFreezeAct
  refine (State.Within.refl _ s).when _ _ fun u hu => ?_
  exact ((hu.trans ((State.confined_trigger u 1 n).within.mono (by decide))).when _ _ fun v hv => hv.setFlag _ _ (by decide))

/-- A property that the power stage and the blocks of the collector, the events and the journal leave alone survives a quiet raise. -/
theorem State.doRaise_keeps {P : State → Prop}
    (hother : ∀ u t, P u → u.Within [0x4003, 0x4011, 0x4012, 0x4013] t → u.SameGdr t → P t) (hpower : ∀ u, P u → P u.refreshPower)
    (s : State) (n : Nat) (us : Option Nat) (hn : n < 256) (hq : s.Quiet n) (h : P s) : P (s.doRaise n us) := by
  have hsub : ∀ b ∈ [0x4003], b ∈ [0x4003, 0x4011, 0x4012, 0x4013] := by decide
  rw [State.doRaise_quiet s n us hn hq]
  have h1 : P (s.fltRecord n) := hother _ _ h ((State.confined_fltRecord s n hn).within.mono hsub) (.of_eq (s.fltRecord_gdr n))
  have h2 : P ((s.fltRecord n).startWait n) :=
    hother _ _ h1 ((State.confined_startWait _ n hn).within.mono hsub) (.of_eq (State.startWait_gdr _ n))
  have h3 : P (((s.fltRecord n).startWait n).fltFreezeAct n) :=
    hother _ _ h2 (State.fltFreezeAct_within _ n) (.of_eq (State.fltFreezeAct_gdr _ n))
  generalize ((s.fltRecord n).startWait n).fltFreezeAct n = u at h3 ⊢
  unfold State.brakeRelease
  split
  · refine hpower _ (hother u _ h3 ((((State.Within.refl _ u).hidden ..).setFlag _ _ (by decide)).event _ _ (by decide)) ?_)
    exact ⟨_, by rw [State.event_gdr, State.setFlag_gdr]⟩
  · exact h3

theorem State.raise_keeps {P : State → Prop}
    (hother : ∀ u t, P u → u.Within [0x4003, 0x4011, 0x4012, 0x4013] t → u.SameGdr t → P t) (hpower : ∀ u, P u → P u.refreshPower)
    (s : State) (n : Nat) (hn : n < 256) (hq : s.Quiet n) (h : P s) : P (s.raise n) := by
  unfold State.raise State.raiseTimed
  split
  · exact h
  · exact hother _ _ (State.doRaise_keeps hother hpower s n none hn hq h) ((State.confined_settle _ n hn).within.mono (by decide))
      (.of_eq (State.settle_gdr _ n))

theorem State.SameGdr.offHeld {s t : State} (h : s.SameGdr t) {b : Nat} (hs : s.offHeld b) : t.offHeld b := by
  obtain ⟨x, hx⟩ := h
  have hi : t.imposed b = s.imposed b := by
    unfold State.imposed State.xdisEff
    rw [hx]
  unfold State.offHeld
  rw [hi]
  exact hs

/-- A quiet raise leaves the gate drive's hidden state but for the released channel. -/
theorem State.raise_sameGdr (s : State) (n : Nat) (hn : n < 256) (hq : s.Quiet n) : s.SameGdr (s.raise n) :=
  State.raise_keeps (P := fun u => s.SameGdr u) (fun _ _ hu _ ht => hu.trans ht) (fun u hu => hu.trans (.of_eq u.refreshPower_gdr)) s n hn hq
    (.of_eq rfl)

/-- A bridge on which OFF is imposed stays OFF through a quiet raise. -/
theorem State.raise_showsOff (s : State) (n b : Nat) (hn : n < 256) (hq : s.Quiet n) (hb : b < 3) (h : s.offHeld b) (hs : s.showsOff b) :
    (s.raise n).showsOff b := by
  have hblock : ∀ b < 3, (F.MOT_STATUS_STATE b).addr / 0x10000 ∉ [0x4003, 0x4011, 0x4012, 0x4013] ∧
      (F.GDR_BRIDGE_STAT_IMPOSED b).addr / 0x10000 ∉ [0x4003, 0x4011, 0x4012, 0x4013] := by decide
  obtain ⟨k1, k2⟩ := hblock b hb
  refine (State.raise_keeps (P := fun u => u.offHeld b ∧ u.showsOff b) ?_ ?_ s n hn hq ⟨h, hs⟩).2
  · rintro u t ⟨hu, h1, h2⟩ hw hg
    exact ⟨hg.offHeld hu, (hw.getF _ k1).trans h1, (hw.getF _ k2).trans h2⟩
  · rintro u ⟨hu, -⟩
    exact ⟨(State.SameGdr.of_eq u.refreshPower_gdr).offHeld hu, u.refreshPower_off b hb hu⟩

/-- A field of the motor and gate drive blocks that bringing the power stage in line leaves alone. -/
def Fld.besidePower (g : Fld) : Prop := powerFlds.all (·.apart g) = true ∧ g.addr / 0x10000 ∉ [0x4003, 0x4011, 0x4012, 0x4013]

theorem State.raise_getF_besidePower (s : State) (n : Nat) (hn : n < 256) (hq : s.Quiet n) {g : Fld} (hg : g.besidePower) :
    (s.raise n).getF g = s.getF g := by
  obtain ⟨h1, h2⟩ := hg
  exact State.raise_keeps (P := fun u => u.getF g = s.getF g) (fun _ _ hu hw _ => (hw.getF g h2).trans hu)
    (fun u hu => (u.refreshPower_flds g h1).trans hu) s n hn hq rfl

/-- What a unit of the power stage writes ahead of its raise (R243, R427): the registers of bridges and gate drive, the count of lasting
faults and the collector's event. -/
abbrev holdRegs (a : Nat) : Prop := a / 0x10000 ∈ [0x400A, 0x400B] ∨ mismatchRegs a

/-- A unit of the power stage acts ahead of its raise. -/
structure State.Prepares (r s : State) : Prop where
  touches : r.Touches holdRegs State.sys s
  asserting : s.asserting = r.asserting

theorem State.Prepares.refl (s : State) : s.Prepares s := ⟨.refl blind_sys _ s, rfl⟩

section
variable {r s : State} (hs : r.Prepares s)
include hs

theorem State.Prepares.setF (f : Fld) (v : Nat) (h : holdRegs f.addr) : r.Prepares (s.setF f v) :=
  ⟨hs.touches.setF _ _ h, hs.asserting⟩

theorem State.Prepares.setFlag (f : Fld) (b : Bool) (h : holdRegs f.addr) : r.Prepares (s.setFlag f b) := hs.setF _ _ h

theorem State.Prepares.incF (f : Fld) (h : holdRegs f.addr) : r.Prepares (s.incF f) := hs.setF _ _ h

theorem State.Prepares.event (e : EvBlk) (b : Nat) (h : holdRegs e.ev.addr) : r.Prepares (s.event e b) :=
  ⟨hs.touches.event _ _ h, (State.asserting_congr (State.event_flt ..)).trans hs.asserting⟩

theorem State.Prepares.gdr (g : Gdr) : r.Prepares { s with gdr := g } := ⟨hs.touches.hidden ((State.Within.refl _ s).hidden ..) rfl, hs.asserting⟩

theorem State.Prepares.flt (x : Flt) (h : (x.level, x.wire, x.forced) = s.asserting) : r.Prepares { s with flt := x } :=
  ⟨hs.touches.hidden ((State.Within.refl _ s).hidden ..) rfl, Eq.trans h hs.asserting⟩

theorem State.Prepares.refreshPower : r.Prepares s.refreshPower :=
  ⟨hs.touches.confined (State.confined_refreshPower s) fun _ ha => .inl ha,
    (State.asserting_congr s.refreshPower_flt).trans hs.asserting⟩

theorem State.Prepares.when (c : Bool) (f : State → State) (hf : ∀ u, r.Prepares u → r.Prepares (f u)) : r.Prepares (s.when c f) := by
  cases c
  · exact hs
  · exact hf s hs

theorem State.Prepares.quiet {n : Nat} (hn : n < 256) (hq : r.Quiet n) : s.Quiet n := by
  have h3 := FLT_SRC_REACTION_block n hn
  refine hs.touches.quiet (by decide) (congrArg Sys.phase hs.touches.same) ?_ hq
  rintro (h | h)
  · rw [h3] at h
    exact absurd h (by decide)
  · exact not_mismatchRegs n h

/-- The raise that follows records its source and stays in the blocks of a raise. -/
theorem State.Prepares.raise {n : Nat} (hn : n < 256) (hq : r.Quiet n) (ha : r.asserted n = false) :
    (s.raise n).sticky n = true ∧ (s.raise n).mode = r.mode ∧ r.SameRegs raiseBlocks (s.raise n) ∧ r.SameStores (s.raise n) := by
  have hq' := hs.quiet hn hq
  have hblocks : ∀ a, holdRegs a → a / 0x10000 ∈ raiseBlocks := by
    rintro a (h | rfl | rfl | rfl)
    · simp only [List.mem_cons, List.not_mem_nil, or_false] at h
      rcases h with h | h <;> rw [h] <;> decide
    · decide
    · decide
    · decide
  have ht : r.Touches (inBlocks raiseBlocks) State.sys (s.raise n) :=
    (hs.touches.mono hblocks).raise n (fun _ ha => ha) hn hq'
  exact ⟨s.sticky_raise n none hn hq' ((State.asserted_of_asserting hs.asserting n).trans ha),
    ht.mode (by decide) (congrArg Sys.phase ht.same), ht.regs, ht.stores⟩

end


/-! ### A unit of the power stage holds its source -/

/-- A state to whose impositions one is added (R241). -/
def State.imposing (s : State) (i : Imp) : State :=
  { s with gdr := { s.gdr with imps := if s.gdr.imps.contains i then s.gdr.imps else s.gdr.imps ++ [i] } }

theorem State.impose_eq (s : State) (i : Imp) : s.impose i = (s.imposing i).refreshPower := by
  unfold State.impose State.imposing
  split <;> rfl

theorem State.mem_imposing (s : State) (i : Imp) : i ∈ (s.imposing i).gdr.imps ∧ ∀ j ∈ s.gdr.imps, j ∈ (s.imposing i).gdr.imps := by
  unfold State.imposing
  dsimp only
  split
  · next h => exact ⟨List.contains_iff_mem.1 h, fun _ hj => hj⟩
  · exact ⟨by simp, fun _ hj => List.mem_append_left _ hj⟩

theorem State.mem_impose (s : State) (i : Imp) : i ∈ (s.impose i).gdr.imps ∧ ∀ j ∈ s.gdr.imps, j ∈ (s.impose i).gdr.imps := by
  rw [State.impose_eq, State.refreshPower_gdr]
  exact s.mem_imposing i

/-- What is imposed on a bridge with OFF shows at once. -/
theorem State.impose_off (s : State) (i : Imp) (b : Nat) (hb : b < 3) (h : s.offHeld b ∨ i.bridge = b ∧ i.asc = false) :
    (s.impose i).offHeld b ∧ (s.impose i).showsOff b := by
  have ho : (s.imposing i).offHeld b := by
    rcases h with ⟨c, hc, hf⟩ | ⟨rfl, ha⟩
    · refine ⟨c, ?_, hf⟩
      rcases List.mem_append.1 hc with hx | hi
      · exact List.mem_append_left _ hx
      · obtain ⟨j, hj, rfl⟩ := List.mem_map.1 hi
        obtain ⟨hj, hjb⟩ := List.mem_filter.1 hj
        exact List.mem_append_right _ (List.mem_map.2 ⟨j, List.mem_filter.2 ⟨(s.mem_imposing i).2 j hj, hjb⟩, rfl⟩)
    · exact State.offHeld_of_imp (s.mem_imposing i).1 ha
  rw [State.impose_eq]
  exact ⟨(State.SameGdr.of_eq (State.refreshPower_gdr _)).offHeld ho, State.refreshPower_off _ b hb ho⟩

/-- The collector notes that the unit holds the source (R243). -/
def State.noting (s : State) (n : Nat) : State :=
  { s with flt := { s.flt with unitHold := if s.flt.unitHold.contains n then s.flt.unitHold else s.flt.unitHold ++ [n] } }

/-- The sources by which a bridge is switched OFF: their offset within the bridge's six, with the cause that R241 gives each. -/
def offCauses : List (Nat × Nat) := [(0, 3), (1, 4), (2, 5), (5, 6)]

theorem State.unitHoldOn_bridge (s : State) {b k c : Nat} (hb : b < 3) (hk : (k, c) ∈ offCauses) :
    s.unitHoldOn (0x4F + 6 * b + k) = (s.noting (0x4F + 6 * b + k)).impose ⟨b, c, false, 0x4F + 6 * b + k⟩ := by
  have hk6 : k < 6 := by
    simp only [offCauses, List.mem_cons, Prod.mk.injEq, List.not_mem_nil, or_false] at hk
    omega
  have hd : (0x4F + 6 * b + k - 0x4F) / 6 = b := by omega
  have hm : (0x4F + 6 * b + k - 0x4F) % 6 = k := by omega
  unfold State.unitHoldOn
  rw [if_pos ⟨by omega, by omega⟩]
  dsimp only
  rw [hd, hm]
  simp only [offCauses, List.mem_cons, Prod.mk.injEq, List.not_mem_nil, or_false] at hk
  rcases hk with ⟨rfl, rfl⟩ | ⟨rfl, rfl⟩ | ⟨rfl, rfl⟩ | ⟨rfl, rfl⟩ <;> rfl

/-- What a detector records is a count and an event of the gate drive, an event alone, or nothing (R237, R238, R253). -/
theorem State.detected_cases (s : State) (n : Nat) :
    (∃ f ∈ [F.GDR_DESAT_CNT_COUNT, F.GDR_OC_CNT_COUNT], s.detected n = (s.incF f).event Ev.gdr 0) ∨
      (∃ k, s.detected n = s.event Ev.gdr k) ∨ s.detected n = s := by
  unfold State.detected
  split
  · split
    · exact .inl ⟨_, by simp, rfl⟩
    · exact .inl ⟨_, by simp, rfl⟩
    · exact .inr (.inl ⟨_, rfl⟩)
    · exact .inr (.inl ⟨_, rfl⟩)
    · exact .inr (.inr rfl)
  · split
    · exact .inr (.inl ⟨_, rfl⟩)
    · split
      · exact .inr (.inl ⟨_, rfl⟩)
      · split
        · exact .inr (.inl ⟨_, rfl⟩)
        · split
          · exact .inr (.inl ⟨_, rfl⟩)
          · split
            · exact .inr (.inl ⟨_, rfl⟩)
            · exact .inr (.inr rfl)

theorem State.detected_gdr (s : State) (n : Nat) : (s.detected n).gdr = s.gdr := by
  rcases s.detected_cases n with ⟨f, -, h⟩ | ⟨k, h⟩ | h
  · rw [h, State.event_gdr, State.incF_gdr]
  · rw [h, State.event_gdr]
  · rw [h]

theorem State.getF_detected (s : State) (n : Nat) (g : Fld)
    (hg : g.addr ∉ [F.GDR_DESAT_CNT_COUNT.addr, F.GDR_OC_CNT_COUNT.addr, Ev.gdr.ev.addr]) : (s.detected n).getF g = s.getF g := by
  simp only [List.mem_cons, List.not_mem_nil, or_false, not_or] at hg
  obtain ⟨h1, h2, h3⟩ := hg
  rcases s.detected_cases n with ⟨f, hf, h⟩ | ⟨k, h⟩ | h
  · simp only [List.mem_cons, List.not_mem_nil, or_false] at hf
    rw [h, State.getF_event_other _ _ _ _ (Ne.symm h3)]
    rcases hf with rfl | rfl
    · exact State.getF_incF_apart _ _ _ rfl ((Fld.apart_iff _ _).2 (.inl (Ne.symm h1)))
    · exact State.getF_incF_apart _ _ _ rfl ((Fld.apart_iff _ _).2 (.inl (Ne.symm h2)))
  · rw [h, State.getF_event_other _ _ _ _ (Ne.symm h3)]
  · rw [h]

section
variable {r s : State} (hs : r.Prepares s)
include hs

theorem State.Prepares.detected (n : Nat) : r.Prepares (s.detected n) := by
  have he (u : State) (hu : r.Prepares u) (k : Nat) : r.Prepares (u.event Ev.gdr k) := hu.event _ _ (.inl (by decide))
  rcases s.detected_cases n with ⟨f, hf, h⟩ | ⟨k, h⟩ | h
  · simp only [List.mem_cons, List.not_mem_nil, or_false] at hf
    rw [h]
    rcases hf with rfl | rfl <;> exact he _ (hs.incF _ (.inl (by decide))) _
  · rw [h]
    exact he _ hs k
  · rw [h]
    exact hs

theorem State.Prepares.noting (n : Nat) : r.Prepares (s.noting n) := hs.flt _ rfl

theorem State.Prepares.impose (i : Imp) : r.Prepares (s.impose i) := by
  rw [State.impose_eq]
  exact (hs.gdr _).refreshPower

/-- A unit that switches a bridge OFF, and the raise that follows it (R237, R238, R231, R235, R241). -/
theorem State.Prepares.raiseHold_off {b k c : Nat} (hb : b < 3) (hk : (k, c) ∈ offCauses) {n : Nat} (hn : n = 0x4F + 6 * b + k)
    (hq : r.Quiet n) (ha : r.asserted n = false) :
    (s.raiseHold n).sticky n = true ∧ ⟨b, c, false, n⟩ ∈ (s.raiseHold n).gdr.imps ∧ (s.raiseHold n).showsOff b ∧
      (s.raiseHold n).mode = r.mode ∧ r.SameRegs raiseBlocks (s.raiseHold n) ∧ r.SameStores (s.raiseHold n) := by
  have hn256 : n < 256 := by
    simp only [offCauses, List.mem_cons, Prod.mk.injEq, List.not_mem_nil, or_false] at hk
    omega
  have hu : (s.detected n).unitHoldOn n = ((s.detected n).noting n).impose ⟨b, c, false, n⟩ := by
    rw [hn]
    exact State.unitHoldOn_bridge _ hb hk
  have hp : r.Prepares (((s.detected n).noting n).impose ⟨b, c, false, n⟩) := ((hs.detected n).noting n).impose _
  obtain ⟨ho, hoff⟩ := ((s.detected n).noting n).impose_off ⟨b, c, false, n⟩ b hb (.inr ⟨rfl, rfl⟩)
  have hm := (((s.detected n).noting n).mem_impose ⟨b, c, false, n⟩).1
  obtain ⟨x, hx⟩ := State.raise_sameGdr _ n hn256 (hp.quiet hn256 hq)
  unfold State.raiseHold
  rw [hu]
  obtain ⟨h1, h2, h3, h4⟩ := hp.raise hn256 hq ha
  exact ⟨h1, by rw [hx]; exact hm, State.raise_showsOff _ n b hn256 (hp.quiet hn256 hq) hb ho hoff, h2, h3, h4⟩

end

end Sys2Proof.Machine
end

section
/-!
# Gate protection
-/
namespace Sys2Proof.Machine

open Sys2Proof

/-! ### Gate protection -/

theorem State.getF_raise_unrecorded (s : State) (n : Nat) (g : Fld) (hn : n < 256) (hq : s.Quiet n) (hg : g.unrecorded) :
    (s.raise n).getF g = s.getF g := by
  have h8 : g.addr ≠ 0x40030008 := by
    have := hg.2.1
    omega
  have h14 : g.addr ≠ 0x40030014 := by
    have := hg.2.1
    omega
  unfold State.raise State.raiseTimed
  split
  · rfl
  · rw [State.getF_settle_record _ _ _ hg.1, State.getF_doRaise_record _ _ _ _ hn hq hg.1, State.getF_fltRecord_low _ _ _ h8 h14,
      State.getF_recorded_unrecorded _ _ _ hg]

/-- Bringing the power stage in line after a raise leaves what the raise recorded. -/
theorem State.Prepares.raise_refreshed {r s : State} (hs : r.Prepares s) {n : Nat} (hn : n < 256) (hq : r.Quiet n) (ha : r.asserted n = false) :
    ((s.raise n).refreshPower).sticky n = true ∧ r.SameRegs raiseBlocks (s.raise n).refreshPower ∧
      r.SameStores (s.raise n).refreshPower ∧ s.SameGdr (s.raise n).refreshPower := by
  obtain ⟨h1, -, h3, h4⟩ := hs.raise hn hq ha
  have hc := State.confined_refreshPower (s.raise n)
  have hw := (show r.Within raiseBlocks (s.raise n) from ⟨h3, h4⟩).trans (hc.within.mono (by decide))
  exact ⟨(State.sticky_confined (hc.mono (by decide)) n hn).trans h1, hw.1, hw.2,
    (s.raise_sameGdr n hn (hs.quiet hn hq)).trans (.of_eq (State.refreshPower_gdr _))⟩

/-- The fields of a gate beside its command and its sense. -/
theorem gate_besidePower {g : Nat} (hg : g < 18) :
    (F.GDR_GATE_UV g).besidePower ∧ (F.GDR_GATE_REFRESH g).besidePower ∧ (F.GDR_GATE_VBS g).besidePower := by
  have h : ∀ g < 18, (powerFlds.all (·.apart (F.GDR_GATE_UV g)) = true ∧ powerFlds.all (·.apart (F.GDR_GATE_REFRESH g)) = true ∧
      powerFlds.all (·.apart (F.GDR_GATE_VBS g)) = true) ∧ (F.GDR_GATE_UV g).addr / 0x10000 = 0x400B := by decide +kernel
  obtain ⟨⟨h1, h2, h3⟩, hb⟩ := h g hg
  have hn : (F.GDR_GATE_UV g).addr / 0x10000 ∉ [0x4003, 0x4011, 0x4012, 0x4013] := by rw [hb]; decide
  exact ⟨⟨h1, hn⟩, ⟨h2, hn⟩, ⟨h3, hn⟩⟩

theorem holdRegs_gate {g : Nat} (hg : g < 18) : holdRegs (F.GDR_GATE_UV g).addr := .inl (by
  simp only [F.GDR_GATE_UV, List.mem_cons, List.not_mem_nil, or_false]
  omega)

section
variable {s : State} {g : Nat} (hr : s.sys.phase = .run) (hg : g < 18)
include hr hg

theorem exec_desat_eq (hst : s.getF (F.MOT_STATUS_STATE (g / 6)) ≠ 0) :
    exec (.desat g) s = .next (s.raiseHold (0x4F + 6 * (g / 6))) := by
  have hl : s.gateLive g = true := by
    unfold State.gateLive
    rw [State.running_of_run hr, decide_eq_true hg, decide_eq_true hst]
    rfl
  exact next_congr (if_pos hl)

theorem exec_overcurrent_eq : exec (.overcurrent (g / 6)) s = .next (s.raiseHold (0x50 + 6 * (g / 6))) := by
  have h : s.overcurrent (g / 6) = s.raiseHold (0x4F + 6 * (g / 6) + 1) := if_pos ⟨State.running_of_run hr, by omega⟩
  exact next_congr (h.trans (congrArg s.raiseHold (by omega)))

/-- A gate noted as stuck on (R231). -/
def State.stuckOn (s : State) (g : Nat) : State :=
  { s with gdr := { s.gdr with stuck := if s.gdr.stuck.contains g then s.gdr.stuck else s.gdr.stuck ++ [g] } }

theorem exec_gateStuck_eq : exec (.gateStuck g) s = .next ((s.stuckOn g).raiseHold (0x51 + 6 * (g / 6))) := by
  have h : s.gateStuck g = (s.stuckOn g).raiseHold (0x4F + 6 * (g / 6) + 2) := if_pos ⟨State.running_of_run hr, hg⟩
  exact next_congr (h.trans (congrArg (s.stuckOn g).raiseHold (by omega)))

theorem State.bridgeFault_shows {c : Instr} {n cause : Nat}
    (hc : c = .desat g ∧ n = 0x4F + 6 * (g / 6) ∧ cause = 3 ∧ s.getF (F.MOT_STATUS_STATE (g / 6)) ≠ 0 ∨
      c = .overcurrent (g / 6) ∧ n = 0x50 + 6 * (g / 6) ∧ cause = 4 ∨ c = .gateStuck g ∧ n = 0x51 + 6 * (g / 6) ∧ cause = 5)
    (hq : s.Quiet n) (ha : s.asserted n = false) :
    ∃ t, exec c s = .next t ∧ t.sticky n = true ∧ ⟨g / 6, cause, false, n⟩ ∈ t.gdr.imps ∧ t.showsOff (g / 6) ∧ t.mode = s.mode ∧
      s.SameRegs raiseBlocks t ∧ s.SameStores t := by
  have hb : g / 6 < 3 := by omega
  rcases hc with ⟨rfl, hn, rfl, hst⟩ | ⟨rfl, hn, rfl⟩ | ⟨rfl, hn, rfl⟩
  · exact ⟨_, hn ▸ exec_desat_eq hr hg hst, (State.Prepares.refl s).raiseHold_off (k := 0) hb (by decide) hn hq ha⟩
  · exact ⟨_, hn ▸ exec_overcurrent_eq hr hg, (State.Prepares.refl s).raiseHold_off (k := 1) hb (by decide) (by omega) hq ha⟩
  · exact ⟨_, hn ▸ exec_gateStuck_eq hr hg, ((State.Prepares.refl s).gdr _).raiseHold_off (k := 2) hb (by decide) (by omega) hq ha⟩

/-- The hidden state and the count of a shoot-through attempt, before its raise (R232). -/
def State.shootCounted (s : State) (g : Nat) (both : Bool) : State :=
  (({ s with gdr := { s.gdr with shootHeld := s.gdr.shootHeld ++ [g] ++ (if both then [otherSide g] else []) } } : State).incF
    F.GDR_SHOOT_CNT_COUNT).event Ev.gdr 1

theorem exec_shootThrough_eq (both : Bool) : exec (.shootThroughAttempt g both) s =
    .next (((s.shootCounted g both).raise (0x52 + 6 * (g / 6))).refreshPower) := by
  have h : s.shootThrough g both = ((s.shootCounted g both).raise (0x4F + 6 * (g / 6) + 3)).refreshPower :=
    if_pos ⟨State.running_of_run hr, hg⟩
  exact next_congr (h.trans (congrArg (fun n => ((s.shootCounted g both).raise n).refreshPower) (by omega)))

theorem State.shootThrough_shows (both : Bool) (hq : s.Quiet (0x52 + 6 * (g / 6))) (ha : s.asserted (0x52 + 6 * (g / 6)) = false) :
    ∃ t, exec (.shootThroughAttempt g both) s = .next t ∧ g ∈ t.gdr.shootHeld ∧ (both = true → otherSide g ∈ t.gdr.shootHeld) ∧
      t.flag (F.GDR_GATE_CMD g) = false ∧ t.sticky (0x52 + 6 * (g / 6)) = true ∧
      t.getF F.GDR_SHOOT_CNT_COUNT = min (2 ^ 32 - 1) (s.getF F.GDR_SHOOT_CNT_COUNT + 1) ∧ s.SameRegs raiseBlocks t ∧ s.SameStores t := by
  have hn256 : 0x52 + 6 * (g / 6) < 256 := by omega
  have hp : s.Prepares (s.shootCounted g both) :=
    (((State.Prepares.refl s).gdr _).incF _ (.inl (by decide))).event _ _ (.inl (by decide))
  have hgdr : (s.shootCounted g both).gdr.shootHeld = s.gdr.shootHeld ++ [g] ++ (if both then [otherSide g] else []) := by
    unfold State.shootCounted
    rw [State.event_gdr, State.incF_gdr]
  have hcount : (s.shootCounted g both).getF F.GDR_SHOOT_CNT_COUNT = min (2 ^ 32 - 1) (s.getF F.GDR_SHOOT_CNT_COUNT + 1) :=
    State.getF_incF_event _ _ _ _ rfl (by decide)
  have hbeside : F.GDR_SHOOT_CNT_COUNT.besidePower := ⟨by decide +kernel, by decide⟩
  obtain ⟨h1, h2, h3, x, hx⟩ := hp.raise_refreshed hn256 hq ha
  have hmem : g ∈ ((s.shootCounted g both).raise (0x52 + 6 * (g / 6))).gdr.shootHeld := by
    obtain ⟨y, hy⟩ := State.raise_sameGdr _ _ hn256 (hp.quiet hn256 hq)
    rw [hy, hgdr]
    simp
  generalize he : ((s.shootCounted g both).raise (0x52 + 6 * (g / 6))).refreshPower = t at h1 h2 h3 hx
  have hsh : t.gdr.shootHeld = s.gdr.shootHeld ++ [g] ++ (if both then [otherSide g] else []) := by rw [hx, ← hgdr]
  refine ⟨t, he ▸ exec_shootThrough_eq hr hg both, by rw [hsh]; simp, fun hb => by rw [hsh, hb]; simp, ?_, h1, ?_, h2, h3⟩
  · exact he ▸ State.refreshPower_gateHeld _ g hg (.inl hmem)
  · rw [← he, State.refreshPower_flds _ _ hbeside.1, State.raise_getF_besidePower _ _ hn256 (hp.quiet hn256 hq) hbeside, hcount]

/-- A gate whose refresh pulse falls due (R234). -/
def State.refreshDue (s : State) (g : Nat) : State :=
  ((s.setFlag (F.GDR_GATE_REFRESH g) true).setF (F.GDR_GATE_VBS g) (s.getF F.GDR_CFG_BOOT_REFRESH)).event Ev.gdr 3

theorem exec_bootRefresh_eq (hodd : g % 2 = 1) (hf : s.flag (F.GDR_GATE_REFRESH g) = false) :
    exec (.bootRefresh g) s = .next ((s.refreshDue g).raise (0x53 + 6 * (g / 6))) := by
  have h : s.bootRefresh g = (s.refreshDue g).raise (0x4F + 6 * (g / 6) + 4) := if_pos ⟨State.running_of_run hr, hg, hodd, hf⟩
  exact next_congr (h.trans (congrArg (s.refreshDue g).raise (by omega)))

theorem State.bootRefresh_shows (hodd : g % 2 = 1) (hf : s.flag (F.GDR_GATE_REFRESH g) = false)
    (hq : s.Quiet (0x53 + 6 * (g / 6))) (ha : s.asserted (0x53 + 6 * (g / 6)) = false) :
    ∃ t, exec (.bootRefresh g) s = .next t ∧ t.flag (F.GDR_GATE_REFRESH g) = true ∧
      t.getF (F.GDR_GATE_VBS g) = s.getF F.GDR_CFG_BOOT_REFRESH ∧ t.sticky (0x53 + 6 * (g / 6)) = true ∧
      s.SameRegs raiseBlocks t ∧ s.SameStores t := by
  have hn256 : 0x53 + 6 * (g / 6) < 256 := by omega
  have hreg := holdRegs_gate hg
  obtain ⟨-, hbr, hbv⟩ := gate_besidePower hg
  have hp : s.Prepares (s.refreshDue g) :=
    (((State.Prepares.refl s).setFlag (F.GDR_GATE_REFRESH g) true hreg).setF (F.GDR_GATE_VBS g) _ hreg).event _ _ (.inl (by decide))
  have hq' := hp.quiet hn256 hq
  have hev (f : Fld) (hf : f.addr = (F.GDR_GATE_UV g).addr) : Ev.gdr.ev.addr ≠ f.addr := by
    rw [hf]
    simp only [Ev.gdr, F.GDR_EVENT_SEEN, F.GDR_GATE_UV]
    omega
  have hdue : (s.refreshDue g).flag (F.GDR_GATE_REFRESH g) = true ∧
      (s.refreshDue g).getF (F.GDR_GATE_VBS g) = s.getF F.GDR_CFG_BOOT_REFRESH := by
    unfold State.refreshDue
    refine ⟨?_, ?_⟩
    · rw [State.flag_event_other _ _ _ _ (hev (F.GDR_GATE_REFRESH g) rfl),
        State.flag_setF_apart _ _ _ _ rfl (by simp [Fld.apart_iff, F.GDR_GATE_VBS, F.GDR_GATE_REFRESH]), State.flag_setFlag_same _ _ _ rfl]
    · rw [State.getF_event_other _ _ _ _ (hev (F.GDR_GATE_VBS g) rfl), State.getF_setF_same _ _ _ rfl]
      exact Nat.mod_eq_of_lt (State.getF_lt s F.GDR_CFG_BOOT_REFRESH)
  obtain ⟨h1, -, h3, h4⟩ := hp.raise hn256 hq ha
  have he := exec_bootRefresh_eq hr hg hodd hf
  generalize s.refreshDue g = u at hdue hq' h1 h3 h4 he
  exact ⟨_, he, (State.flag_congr (State.raise_getF_besidePower _ _ hn256 hq' hbr)).trans hdue.1,
    (State.raise_getF_besidePower _ _ hn256 hq' hbv).trans hdue.2, h1, h3, h4⟩

end


section
variable {s : State} {g : Nat} (hr : s.sys.phase = .run) (hg : g < 18)
include hr hg

/-- A high side under its threshold (R235). -/
def State.bootLow (s : State) (g : Nat) : State :=
  (s.setFlag (F.GDR_GATE_UV g) true).setF (F.GDR_GATE_VBS g) (s.getF F.GDR_CFG_BOOT_UV)

omit hr hg in
theorem State.bootLow_uv : (s.bootLow g).flag (F.GDR_GATE_UV g) = true :=
  (State.flag_setF_apart _ _ _ _ rfl ((Fld.apart_iff _ _).2 (.inr (.inr (by decide : 0 < 16))))).trans (State.flag_setFlag_same _ _ _ rfl)

omit hr in
theorem State.bootLow_prepares : s.Prepares (s.bootLow g) :=
  ((State.Prepares.refl s).setFlag (F.GDR_GATE_UV g) true (holdRegs_gate hg)).setF (F.GDR_GATE_VBS g) _ (holdRegs_gate hg)

/-- The first attempt of the driver after an undervoltage (R235). -/
def State.bootTried (s : State) (g : Nat) : State :=
  { s.bootLow g with gdr := { (s.bootLow g).gdr with bootTry := (s.bootLow g).gdr.bootTry ++ [(g, 0)] } }

/-- The attempts of a gate over (R235). -/
def State.bootSpent (s : State) (g : Nat) : State :=
  { s.bootLow g with gdr := { (s.bootLow g).gdr with bootTry := (s.bootLow g).gdr.bootTry.filter (fun x => decide (x.1 ≠ g)) } }

/-- The fault of a gate whose second attempt fails is lasting (R235). -/
def State.bootFailed (s : State) (g : Nat) : State := (s.bootSpent g).lasting

omit hr hg in
theorem State.bootLow_gdr : (s.bootLow g).gdr = s.gdr := by
  unfold State.bootLow
  rw [State.setF_gdr, State.setFlag_gdr]

omit hr hg in
theorem State.bootTried_try : (s.bootTried g).gdr.bootTry = s.gdr.bootTry ++ [(g, 0)] :=
  congrArg (fun x : Gdr => x.bootTry ++ [(g, 0)]) s.bootLow_gdr

omit hr hg in
theorem State.bootTried_uv : (s.bootTried g).flag (F.GDR_GATE_UV g) = true :=
  (State.flag_congr (State.getF_gdr _ _ _)).trans s.bootLow_uv

omit hr in
theorem State.bootTried_prepares : s.Prepares (s.bootTried g) := (s.bootLow_prepares hg).gdr _

theorem exec_bootUv_first (hodd : g % 2 = 1) (h0 : (g, 0) ∉ s.gdr.bootTry) (h1 : (g, 1) ∉ s.gdr.bootTry) :
    exec (.bootUv g) s =
      .next ((((s.bootTried g).detected (0x54 + 6 * (g / 6))).raise (0x54 + 6 * (g / 6))).refreshPower) := by
  have h : s.bootUv g = (((s.bootTried g).detected (0x4F + 6 * (g / 6) + 5)).raise (0x4F + 6 * (g / 6) + 5)).refreshPower := by
    refine (if_pos ⟨State.running_of_run hr, hg, hodd⟩).trans ?_
    dsimp only
    rw [if_neg (by simpa using h0), if_neg (by simpa using h1)]
    rfl
  exact next_congr (h.trans (congrArg (fun n => (((s.bootTried g).detected n).raise n).refreshPower) (by omega)))

theorem exec_bootUv_second (hodd : g % 2 = 1) (h0 : (g, 0) ∉ s.gdr.bootTry) (h1 : (g, 1) ∈ s.gdr.bootTry) :
    exec (.bootUv g) s = .next ((s.bootFailed g).raiseHold (0x54 + 6 * (g / 6))) := by
  have h : s.bootUv g = (s.bootFailed g).raiseHold (0x4F + 6 * (g / 6) + 5) := by
    refine (if_pos ⟨State.running_of_run hr, hg, hodd⟩).trans ?_
    dsimp only
    rw [if_neg (by simpa using h0), if_pos (by simpa using h1)]
    rfl
  exact next_congr (h.trans (congrArg (s.bootFailed g).raiseHold (by omega)))

theorem State.bootUv_first_shows (hodd : g % 2 = 1) (hq : s.Quiet (0x54 + 6 * (g / 6))) (ha : s.asserted (0x54 + 6 * (g / 6)) = false)
    (h0 : (g, 0) ∉ s.gdr.bootTry) (h1 : (g, 1) ∉ s.gdr.bootTry) :
    ∃ t, exec (.bootUv g) s = .next t ∧ t.flag (F.GDR_GATE_UV g) = true ∧ t.flag (F.GDR_GATE_CMD g) = false ∧
      t.gdr.bootTry = s.gdr.bootTry ++ [(g, 0)] ∧ t.sticky (0x54 + 6 * (g / 6)) = true ∧ s.SameRegs raiseBlocks t ∧ s.SameStores t := by
  have hn256 : 0x54 + 6 * (g / 6) < 256 := by omega
  have hbu := (gate_besidePower hg).1
  have hp : s.Prepares ((s.bootTried g).detected (0x54 + 6 * (g / 6))) := (s.bootTried_prepares hg).detected _
  have hq' := hp.quiet hn256 hq
  have hgdr : ((s.bootTried g).detected (0x54 + 6 * (g / 6))).gdr.bootTry = s.gdr.bootTry ++ [(g, 0)] := by
    rw [State.detected_gdr, State.bootTried_try]
  have huv : ((s.bootTried g).detected (0x54 + 6 * (g / 6))).flag (F.GDR_GATE_UV g) = true := by
    refine (State.flag_congr (State.getF_detected _ _ _ ?_)).trans s.bootTried_uv
    simp only [F.GDR_GATE_UV, F.GDR_DESAT_CNT_COUNT, F.GDR_OC_CNT_COUNT, Ev.gdr, F.GDR_EVENT_SEEN, List.mem_cons, List.not_mem_nil, or_false]
    omega
  have he := exec_bootUv_first hr hg hodd h0 h1
  generalize (s.bootTried g).detected (0x54 + 6 * (g / 6)) = u at hp hq' hgdr huv he
  obtain ⟨k1, k2, k3, x, hx⟩ := hp.raise_refreshed hn256 hq ha
  have huvr : (u.raise (0x54 + 6 * (g / 6))).flag (F.GDR_GATE_UV g) = true :=
    (State.flag_congr (State.raise_getF_besidePower _ _ hn256 hq' hbu)).trans huv
  have hheld : (u.raise (0x54 + 6 * (g / 6))).gateHeld g := .inr (by rw [show g / 2 * 2 + 1 = g by omega]; exact huvr)
  exact ⟨_, he, (State.flag_congr (State.refreshPower_flds _ _ hbu.1)).trans huvr, State.refreshPower_gateHeld _ g hg hheld,
    (congrArg Gdr.bootTry hx).trans hgdr, k1, k2, k3⟩

omit hr in
theorem State.bootFailed_prepares : s.Prepares (s.bootFailed g) :=
  (((s.bootLow_prepares hg).gdr _).incF F.FLT_LASTING_CNT_COUNT (.inr (.inl rfl))).event Ev.flt 3 (.inr (.inr (.inr rfl)))

omit hr in
theorem State.bootFailed_lasting :
    (s.bootFailed g).getF F.FLT_LASTING_CNT_COUNT = min (2 ^ 32 - 1) (s.getF F.FLT_LASTING_CNT_COUNT + 1) := by
  have hlow : (s.bootLow g).getF F.FLT_LASTING_CNT_COUNT = s.getF F.FLT_LASTING_CNT_COUNT := by
    have ha : (F.GDR_GATE_UV g).addr ≠ F.FLT_LASTING_CNT_COUNT.addr := by
      simp only [F.GDR_GATE_UV, F.FLT_LASTING_CNT_COUNT]
      omega
    exact (State.getF_setF_apart _ (F.GDR_GATE_VBS g) _ _ rfl ((Fld.apart_iff _ _).2 (.inl ha))).trans
      (State.getF_setFlag_apart _ (F.GDR_GATE_UV g) _ _ rfl ((Fld.apart_iff _ _).2 (.inl ha)))
  have hspent : (s.bootSpent g).getF F.FLT_LASTING_CNT_COUNT = s.getF F.FLT_LASTING_CNT_COUNT := (State.getF_gdr _ _ _).trans hlow
  rw [← hspent]
  exact State.getF_incF_event _ _ _ _ rfl (by decide)

theorem State.bootUv_second_shows (hodd : g % 2 = 1) (hq : s.Quiet (0x54 + 6 * (g / 6))) (ha : s.asserted (0x54 + 6 * (g / 6)) = false)
    (h0 : (g, 0) ∉ s.gdr.bootTry) (h1 : (g, 1) ∈ s.gdr.bootTry) :
    ∃ t, exec (.bootUv g) s = .next t ∧ ⟨g / 6, 6, false, 0x54 + 6 * (g / 6)⟩ ∈ t.gdr.imps ∧
      t.getF (F.MOT_STATUS_STATE (g / 6)) = 0 ∧ t.sticky (0x54 + 6 * (g / 6)) = true ∧
      t.getF F.FLT_LASTING_CNT_COUNT = min (2 ^ 32 - 1) (s.getF F.FLT_LASTING_CNT_COUNT + 1) ∧ s.SameRegs raiseBlocks t ∧ s.SameStores t := by
  have hn256 : 0x54 + 6 * (g / 6) < 256 := by omega
  have hp : s.Prepares (s.bootFailed g) := State.bootFailed_prepares hg
  have hl := s.bootFailed_lasting hg
  have he := exec_bootUv_second hr hg hodd h0 h1
  generalize s.bootFailed g = u at hp hl he
  obtain ⟨k1, k2, ⟨k3, -⟩, -, k5, k6⟩ :=
    hp.raiseHold_off (b := g / 6) (k := 5) (c := 6) (by omega) (by decide) (n := 0x54 + 6 * (g / 6)) (by omega) hq ha
  refine ⟨_, he, k2, k3, k1, ?_, k5, k6⟩
  have hu : (u.detected (0x54 + 6 * (g / 6))).unitHoldOn (0x54 + 6 * (g / 6)) = ((u.detected (0x54 + 6 * (g / 6))).noting
      (0x54 + 6 * (g / 6))).impose ⟨g / 6, 6, false, 0x54 + 6 * (g / 6)⟩ := by
    have h := (u.detected (0x54 + 6 * (g / 6))).unitHoldOn_bridge (b := g / 6) (k := 5) (c := 6) (by omega) (by decide)
    rwa [show 0x4F + 6 * (g / 6) + 5 = 0x54 + 6 * (g / 6) by omega] at h
  have hp' := (((hp.detected (0x54 + 6 * (g / 6))).noting (0x54 + 6 * (g / 6))).impose ⟨g / 6, 6, false, 0x54 + 6 * (g / 6)⟩).quiet hn256 hq
  unfold State.raiseHold
  rw [hu, State.getF_raise_unrecorded _ _ _ hn256 hp' (by unfold Fld.unrecorded Fld.recordOnly; decide), State.impose_eq,
    (State.confined_refreshPower _).getF _ (by decide), ← hl]
  exact u.getF_detected _ _ (by decide)

end

/-- Settles O25, case by case of the fault: what a unit does ahead of its raise prepares it, and OFF, once imposed, stays through the raise. -/
theorem gateProtection : Obligations.GateProtection := by
  unfold Obligations.GateProtection
  refine ⟨fun s c g n cause hr hg hc hq ha => ?_, fun s g hr hg =>
    ⟨fun both hq ha => ?_, fun hodd hf hq ha => ?_, fun hodd hq ha h0 => ⟨fun h1 => ?_, fun h1 => ?_⟩⟩⟩
  · obtain ⟨t, ht, h1, h2, ⟨h3, h4⟩, h5⟩ := State.bridgeFault_shows hr hg hc hq ha
    exact ⟨t, ht, h1, h2, h3, h4, h5⟩
  · exact State.shootThrough_shows hr hg both hq ha
  · exact State.bootRefresh_shows hr hg hodd hf hq ha
  · exact State.bootUv_first_shows hr hg hodd hq ha h0 h1
  · exact State.bootUv_second_shows hr hg hodd hq ha h0 h1

end Sys2Proof.Machine
end

section
/-!
# Links and the cross-disable input
-/
namespace Sys2Proof.Machine

open Sys2Proof

/-! ### Chopper and links -/

theorem linkStat_besidePower {l : Nat} (hl : l < 2) : (F.GDR_LINK_STAT_CH_FAIL l).besidePower ∧ (F.GDR_LINK_STAT_REACT l).besidePower ∧
    (F.GDR_LINK_STAT_TRIP l).besidePower := by
  have h : ∀ l < 2, (powerFlds.all (·.apart (F.GDR_LINK_STAT_CH_FAIL l)) = true ∧ powerFlds.all (·.apart (F.GDR_LINK_STAT_REACT l)) = true ∧
      powerFlds.all (·.apart (F.GDR_LINK_STAT_TRIP l)) = true) ∧ (F.GDR_LINK_STAT_TRIP l).addr / 0x10000 = 0x400B := by decide +kernel
  obtain ⟨⟨h1, h2, h3⟩, hb⟩ := h l hl
  have hn : (F.GDR_LINK_STAT_TRIP l).addr / 0x10000 ∉ [0x4003, 0x4011, 0x4012, 0x4013] := by rw [hb]; decide
  exact ⟨⟨h1, hn⟩, ⟨h2, hn⟩, ⟨h3, hn⟩⟩

theorem holdRegs_link {l : Nat} (hl : l < 2) : holdRegs (F.GDR_LINK_STAT_TRIP l).addr := .inl (by
  simp only [F.GDR_LINK_STAT_TRIP, List.mem_cons, List.not_mem_nil, or_false]
  omega)

theorem State.unitHoldOn_chopper (s : State) {l : Nat} (hl : l < 2) :
    s.unitHoldOn (0x61 + 3 * l) = (s.noting (0x61 + 3 * l)).setFlag (F.GDR_LINK_STAT_CH_FAIL l) true := by
  have hd : (0x61 + 3 * l - 0x61) / 3 = l := by omega
  unfold State.unitHoldOn
  rw [if_neg (by omega), if_pos (by omega)]
  dsimp only
  rw [hd]
  rfl

theorem State.unitHoldOn_reactOff (s : State) :
    s.unitHoldOn 0x62 = ((s.noting 0x62).impose ⟨0, 7, false, 0x62⟩).setFlag (F.GDR_LINK_STAT_REACT 0) true := rfl

theorem State.unitHoldOn_reactAsc (s : State) : s.unitHoldOn 0x65 =
    (((s.noting 0x65).impose ⟨1, 7, true, 0x65⟩).impose ⟨2, 7, true, 0x65⟩).setFlag (F.GDR_LINK_STAT_REACT 1) true := rfl

theorem State.unitHoldOn_trip (s : State) {l : Nat} (hl : l < 2) : s.unitHoldOn (0x63 + 3 * l) =
    (((s.noting (0x63 + 3 * l)).impose ⟨0, 2, false, 0x63 + 3 * l⟩).impose ⟨1, 2, false, 0x63 + 3 * l⟩).impose
      ⟨2, 2, false, 0x63 + 3 * l⟩ := by
  unfold State.unitHoldOn
  rw [if_neg (by omega), if_neg (by omega), if_neg (by omega), if_neg (by omega), if_pos (by omega)]
  rfl

/-- The gate drive's summary of the links after a raise leaves what was raised. -/
theorem State.Prepares.raise_linked {r s : State} (hs : r.Prepares s) {n : Nat} (hn : n < 256) (hq : r.Quiet n) (ha : r.asserted n = false) :
    (s.raise n).refreshLinks.sticky n = true ∧ s.SameGdr (s.raise n).refreshLinks ∧
      (∀ g : Fld, g.besidePower → g.addr ≠ 0x400B0000 → (s.raise n).refreshLinks.getF g = s.getF g) ∧
      (∀ b < 3, s.offHeld b → s.showsOff b → (s.raise n).refreshLinks.showsOff b) ∧
      r.SameRegs raiseBlocks (s.raise n).refreshLinks ∧ r.SameStores (s.raise n).refreshLinks := by
  obtain ⟨h1, -, h3, h4⟩ := hs.raise hn hq ha
  have hq' := hs.quiet hn hq
  have hgdr := s.raise_sameGdr n hn hq'
  have hbeside (g : Fld) (hg : g.besidePower) := s.raise_getF_besidePower n hn hq' hg
  have hoff (b : Nat) (hb : b < 3) := s.raise_showsOff n b hn hq' hb
  generalize s.raise n = u at h1 h3 h4 hgdr hbeside hoff
  have hc : u.Confined [0x400B] u.refreshLinks := State.confined_setF _ _ _ _ (by decide)
  have hf (g : Fld) (hg : g.addr ≠ 0x400B0000) : u.refreshLinks.getF g = u.getF g :=
    State.getF_setF_apart _ _ _ _ rfl ((Fld.apart_iff _ _).2 (.inl (Ne.symm hg)))
  have hw := (show r.Within raiseBlocks u from ⟨h3, h4⟩).trans (hc.within.mono (by decide))
  refine ⟨(State.sticky_confined (hc.mono (by decide)) n hn).trans h1, hgdr.trans (.of_eq (State.setF_gdr ..)),
    fun g hg ha => (hf g ha).trans (hbeside g hg), fun b hb ho hs => ?_, hw.1, hw.2⟩
  obtain ⟨k1, k2⟩ := hoff b hb ho hs
  exact ⟨(hf _ (by simp only [F.MOT_STATUS_STATE]; omega)).trans k1, (hf _ (by simp only [F.GDR_BRIDGE_STAT_IMPOSED]; omega)).trans k2⟩

theorem State.getF_linkSeen (s : State) (l u : Nat) (g : Fld) (hg : (F.GDR_LINK_STAT_TRIP l).apart g = true) :
    (s.linkSeen l u).getF g = s.getF g :=
  (State.getF_when _ _ _ _ (State.getF_setFlag_apart _ _ _ _ rfl hg)).trans (State.getF_gdr _ _ _)

theorem State.linkSeen_prepares (s : State) {l : Nat} (u : Nat) (hl : l < 2) : s.Prepares (s.linkSeen l u) :=
  ((State.Prepares.refl s).gdr _).when _ _ fun _ hv => hv.setFlag (F.GDR_LINK_STAT_TRIP l) false (holdRegs_link hl)

theorem State.linkSeen_only (s : State) (l u : Nat) :
    s.OnlyRegs [(F.GDR_LINK_STAT_CH_ON l).addr] (s.linkSeen l u) ∧ s.SameStores (s.linkSeen l u) := by
  unfold State.linkSeen
  dsimp only
  rcases State.when_cases { s with gdr := { s.gdr with linkU := s.gdr.linkU.set l u } } (decide (u ≤ s.getF (F.GDR_LINK_CFG_OV_TRIP l)))
    (fun s => s.setFlag (F.GDR_LINK_STAT_TRIP l) false) with ⟨-, h⟩ | ⟨-, h⟩ <;> rw [h]
  · exact ⟨(State.OnlyRegs.of_regs (State.OnlyRegs.refl _ s) rfl).setFlag (F.GDR_LINK_STAT_TRIP l) _ (by simp [F.GDR_LINK_STAT_TRIP, F.GDR_LINK_STAT_CH_ON]),
      rfl, rfl, rfl, rfl⟩
  · exact ⟨State.OnlyRegs.of_regs (State.OnlyRegs.refl _ s) rfl, rfl, rfl, rfl, rfl⟩

theorem State.impose_flds (s : State) (i : Imp) : s.OnlyFlds powerFlds (s.impose i) := by
  rw [State.impose_eq]
  exact ((State.OnlyFlds.refl _ s).hidden (t := s.imposing i) rfl).trans (State.refreshPower_flds _)

/-- OFF imposed on the three bridges in turn (R240). -/
def State.imposeAll (s : State) (c n : Nat) : State :=
  ((s.impose ⟨0, c, false, n⟩).impose ⟨1, c, false, n⟩).impose ⟨2, c, false, n⟩

theorem State.imposeAll_shows (s : State) (c n b : Nat) (hb : b < 3) :
    ⟨b, c, false, n⟩ ∈ (s.imposeAll c n).gdr.imps ∧ (s.imposeAll c n).offHeld b ∧ (s.imposeAll c n).showsOff b := by
  obtain ⟨h0, -⟩ := s.mem_impose ⟨0, c, false, n⟩
  obtain ⟨h1, k1⟩ := (s.impose ⟨0, c, false, n⟩).mem_impose ⟨1, c, false, n⟩
  obtain ⟨h2, k2⟩ := ((s.impose ⟨0, c, false, n⟩).impose ⟨1, c, false, n⟩).mem_impose ⟨2, c, false, n⟩
  have o0 := s.impose_off ⟨0, c, false, n⟩ 0 (by decide) (.inr ⟨rfl, rfl⟩)
  have o1 := (s.impose ⟨0, c, false, n⟩).impose_off ⟨1, c, false, n⟩
  have o2 := ((s.impose ⟨0, c, false, n⟩).impose ⟨1, c, false, n⟩).impose_off ⟨2, c, false, n⟩ b hb
  obtain rfl | rfl | rfl : b = 0 ∨ b = 1 ∨ b = 2 := by omega
  · exact ⟨k2 _ (k1 _ h0), o2 (.inl (o1 0 (by decide) (.inl o0.1)).1)⟩
  · exact ⟨k2 _ h1, o2 (.inl (o1 1 (by decide) (.inr ⟨rfl, rfl⟩)).1)⟩
  · exact ⟨h2, o2 (.inr ⟨rfl, rfl⟩)⟩

theorem State.imposeAll_flds (s : State) (c n : Nat) : s.OnlyFlds powerFlds (s.imposeAll c n) :=
  ((s.impose_flds _).trans (State.impose_flds _ _)).trans (State.impose_flds _ _)

section
variable {s : State} {l u : Nat} (hr : s.sys.phase = .run) (hl : l < 2)
include hr hl

omit hr hl in
/-- The chopper switched to a state (R239). -/
theorem State.chopperSet_shows (b : Bool) {t : State} (ht : exec (.chopperSwitch l u) s = .next t)
    (he : t = (s.linkSeen l u).setFlag (F.GDR_LINK_STAT_CH_ON l) b) :
    ∃ t, exec (.chopperSwitch l u) s = .next t ∧ t.flag (F.GDR_LINK_STAT_CH_ON l) = b ∧
        s.OnlyRegs [(F.GDR_LINK_STAT_CH_ON l).addr] t ∧ s.SameStores t := by
  obtain ⟨h1, h2⟩ := s.linkSeen_only l u
  subst he
  exact ⟨_, ht, State.flag_setFlag_same _ _ _ rfl, h1.setFlag _ _ (by simp), h2⟩

theorem exec_chopperOn_eq (h : s.getF (F.GDR_LINK_CFG_CH_ON l) < u) :
    exec (.chopperSwitch l u) s = .next ((s.linkSeen l u).setFlag (F.GDR_LINK_STAT_CH_ON l) true) := by
  refine next_congr ((if_pos ⟨State.running_of_run hr, hl⟩).trans ?_)
  dsimp only
  rw [if_pos h]

theorem exec_chopperOff_eq (h : u ≤ s.getF (F.GDR_LINK_CFG_CH_ON l)) (h' : u < s.getF (F.GDR_LINK_CFG_CH_OFF l)) :
    exec (.chopperSwitch l u) s = .next ((s.linkSeen l u).setFlag (F.GDR_LINK_STAT_CH_ON l) false) := by
  refine next_congr ((if_pos ⟨State.running_of_run hr, hl⟩).trans ?_)
  dsimp only
  rw [if_neg (by omega), if_pos h']

theorem exec_chopperFail_eq : exec (.chopperFail l) s = .next (s.raiseHold (0x61 + 3 * l)) :=
  next_congr (if_pos ⟨State.running_of_run hr, hl⟩)

theorem exec_linkOv_eq (h : s.linkThreshold l ≤ u) :
    exec (.linkOv l u) s = .next (((s.linkSeen l u).raiseHold (0x62 + 3 * l)).refreshLinks) := by
  have hap : (F.GDR_LINK_STAT_TRIP l).apart (F.GDR_LINK_STAT_CH_FAIL l) = true ∧
      (F.GDR_LINK_STAT_TRIP l).apart (F.GDR_LINK_CFG_CH_ON l) = true ∧ (F.GDR_LINK_STAT_TRIP l).apart (F.GDR_LINK_CFG_OV_ASC l) = true := by
    simp only [Fld.apart_iff, F.GDR_LINK_STAT_TRIP, F.GDR_LINK_STAT_CH_FAIL, F.GDR_LINK_CFG_CH_ON, F.GDR_LINK_CFG_OV_ASC]
    omega
  obtain ⟨h1, h2, h3⟩ := hap
  have ht : (s.linkSeen l u).linkThreshold l = s.linkThreshold l := by
    unfold State.linkThreshold
    rw [State.flag_congr (s.getF_linkSeen l u _ h1), s.getF_linkSeen l u _ h2, s.getF_linkSeen l u _ h3]
  have hn : 0x61 + 3 * l + 1 = 0x62 + 3 * l := by omega
  refine next_congr ((if_pos ⟨State.running_of_run hr, hl⟩).trans ?_)
  refine (State.when_true _ _ _ (decide_eq_true (ht.le.trans h))).trans ?_
  rw [← hn]
  rfl

/-- A link seen above its trip threshold (R240). -/
def State.linkTripped (s : State) (l u : Nat) : State := (s.linkSeen l u).setFlag (F.GDR_LINK_STAT_TRIP l) true

theorem exec_linkTrip_eq (h : s.getF (F.GDR_LINK_CFG_OV_TRIP l) < u) :
    exec (.linkTrip l u) s = .next (((s.linkTripped l u).raiseHold (0x63 + 3 * l)).refreshLinks) := by
  have hap : (F.GDR_LINK_STAT_TRIP l).apart (F.GDR_LINK_CFG_OV_TRIP l) = true := by
    simp only [Fld.apart_iff, F.GDR_LINK_STAT_TRIP, F.GDR_LINK_CFG_OV_TRIP]
    omega
  have hn : 0x61 + 3 * l + 2 = 0x63 + 3 * l := by omega
  refine next_congr ((if_pos ⟨State.running_of_run hr, hl⟩).trans ?_)
  refine (State.when_true _ _ _ (decide_eq_true ((s.getF_linkSeen l u _ hap).trans_lt h))).trans ?_
  rw [← hn]
  rfl

theorem State.chopperFail_shows (hq : s.Quiet (0x61 + 3 * l)) (ha : s.asserted (0x61 + 3 * l) = false) :
    ∃ t, exec (.chopperFail l) s = .next t ∧ t.flag (F.GDR_LINK_STAT_CH_FAIL l) = true ∧ t.sticky (0x61 + 3 * l) = true ∧
      s.SameRegs raiseBlocks t ∧ s.SameStores t := by
  have hn : 0x61 + 3 * l < 256 := by omega
  have hp := (((State.Prepares.refl s).detected (0x61 + 3 * l)).noting (0x61 + 3 * l)).setFlag (F.GDR_LINK_STAT_CH_FAIL l) true (holdRegs_link hl)
  obtain ⟨h1, -, h3, h4⟩ := hp.raise hn hq ha
  refine ⟨_, exec_chopperFail_eq hr hl, ?_⟩
  unfold State.raiseHold
  rw [State.unitHoldOn_chopper _ hl]
  exact ⟨(State.flag_congr (State.raise_getF_besidePower _ _ hn (hp.quiet hn hq) (linkStat_besidePower hl).1)).trans
    (State.flag_setFlag_same _ _ _ rfl), h1, h3, h4⟩

omit hr hl in
/-- A status flag of a link leaves what a bridge shows. -/
theorem State.setReact_showsOff {v : State} {b : Nat} (x : Bool) (_ : b < 3) (h : v.offHeld b ∧ v.showsOff b) :
    (v.setFlag (F.GDR_LINK_STAT_REACT l) x).offHeld b ∧ (v.setFlag (F.GDR_LINK_STAT_REACT l) x).showsOff b := by
  obtain ⟨ho, h1, h2⟩ := h
  refine ⟨(State.SameGdr.of_eq (State.setFlag_gdr ..)).offHeld ho, ?_, ?_⟩
  · refine (State.getF_setFlag_apart _ _ _ _ rfl ((Fld.apart_iff _ _).2 ?_)).trans h1
    simp only [F.GDR_LINK_STAT_REACT, F.MOT_STATUS_STATE]
    omega
  · refine (State.getF_setFlag_apart _ _ _ _ rfl ((Fld.apart_iff _ _).2 ?_)).trans h2
    simp only [F.GDR_LINK_STAT_REACT, F.GDR_BRIDGE_STAT_IMPOSED]
    omega

omit hr in
/-- The link's unit reacts, and its raise follows (R240). -/
theorem State.linkReacted_shows {v : State} (hp : s.Prepares v) (hq : s.Quiet (0x62 + 3 * l)) (ha : s.asserted (0x62 + 3 * l) = false) :
    ((v.setFlag (F.GDR_LINK_STAT_REACT l) true).raise (0x62 + 3 * l)).refreshLinks.flag (F.GDR_LINK_STAT_REACT l) = true ∧
      ((v.setFlag (F.GDR_LINK_STAT_REACT l) true).raise (0x62 + 3 * l)).refreshLinks.sticky (0x62 + 3 * l) = true ∧
      v.SameGdr ((v.setFlag (F.GDR_LINK_STAT_REACT l) true).raise (0x62 + 3 * l)).refreshLinks ∧
      (∀ b < 3, v.offHeld b ∧ v.showsOff b → ((v.setFlag (F.GDR_LINK_STAT_REACT l) true).raise (0x62 + 3 * l)).refreshLinks.showsOff b) ∧
      s.SameRegs raiseBlocks ((v.setFlag (F.GDR_LINK_STAT_REACT l) true).raise (0x62 + 3 * l)).refreshLinks ∧
      s.SameStores ((v.setFlag (F.GDR_LINK_STAT_REACT l) true).raise (0x62 + 3 * l)).refreshLinks := by
  have hne : (F.GDR_LINK_STAT_REACT l).addr ≠ 0x400B0000 := by simp only [F.GDR_LINK_STAT_REACT]; omega
  have hflag : (v.setFlag (F.GDR_LINK_STAT_REACT l) true).flag (F.GDR_LINK_STAT_REACT l) = true := State.flag_setFlag_same _ _ _ rfl
  have hgdr : v.SameGdr (v.setFlag (F.GDR_LINK_STAT_REACT l) true) := .of_eq (State.setFlag_gdr ..)
  have hoff (b : Nat) (hb : b < 3) (h : v.offHeld b ∧ v.showsOff b) := State.setReact_showsOff (l := l) true hb h
  have hp' := hp.setFlag (F.GDR_LINK_STAT_REACT l) true (holdRegs_link hl)
  generalize v.setFlag (F.GDR_LINK_STAT_REACT l) true = w at hflag hgdr hoff hp'
  obtain ⟨h1, h2, h3, h4, h5, h6⟩ := hp'.raise_linked (by omega) hq ha
  exact ⟨(State.flag_congr (h3 _ (linkStat_besidePower hl).2.1 hne)).trans hflag, h1, hgdr.trans h2,
    fun b hb h => h4 b hb (hoff b hb h).1 (hoff b hb h).2, h5, h6⟩

theorem State.linkOv_shows (h : s.linkThreshold l ≤ u) (hq : s.Quiet (0x62 + 3 * l)) (ha : s.asserted (0x62 + 3 * l) = false) :
    ∃ t, exec (.linkOv l u) s = .next t ∧ t.flag (F.GDR_LINK_STAT_REACT l) = true ∧ t.sticky (0x62 + 3 * l) = true ∧
      (l = 0 → ⟨0, 7, false, 0x62⟩ ∈ t.gdr.imps ∧ t.getF (F.MOT_STATUS_STATE 0) = 0) ∧
      (l = 1 → ⟨1, 7, true, 0x65⟩ ∈ t.gdr.imps ∧ ⟨2, 7, true, 0x65⟩ ∈ t.gdr.imps) ∧ s.SameRegs raiseBlocks t ∧ s.SameStores t := by
  have hp := (((s.linkSeen_prepares u hl).detected (0x62 + 3 * l)).noting (0x62 + 3 * l))
  have he := exec_linkOv_eq hr hl h
  unfold State.raiseHold at he
  generalize (s.linkSeen l u).detected (0x62 + 3 * l) = v at hp he
  obtain rfl | rfl : l = 0 ∨ l = 1 := by omega
  · rw [State.unitHoldOn_reactOff] at he
    obtain ⟨hm, -⟩ := (v.noting 0x62).mem_impose ⟨0, 7, false, 0x62⟩
    have ho := (v.noting 0x62).impose_off ⟨0, 7, false, 0x62⟩ 0 (by decide) (.inr ⟨rfl, rfl⟩)
    obtain ⟨h1, h2, ⟨x, hx⟩, h4, h5, h6⟩ := State.linkReacted_shows hl (hp.impose ⟨0, 7, false, 0x62⟩) hq ha
    exact ⟨_, he, h1, h2, fun _ => ⟨by rw [hx]; exact hm, (h4 0 (by decide) ho).1⟩, fun h => absurd h (by decide), h5, h6⟩
  · rw [State.unitHoldOn_reactAsc] at he
    obtain ⟨hm1, -⟩ := (v.noting 0x65).mem_impose ⟨1, 7, true, 0x65⟩
    obtain ⟨hm2, hkeep⟩ := ((v.noting 0x65).impose ⟨1, 7, true, 0x65⟩).mem_impose ⟨2, 7, true, 0x65⟩
    obtain ⟨h1, h2, ⟨x, hx⟩, -, h5, h6⟩ :=
      State.linkReacted_shows hl ((hp.impose ⟨1, 7, true, 0x65⟩).impose ⟨2, 7, true, 0x65⟩) hq ha
    exact ⟨_, he, h1, h2, fun h => absurd h (by decide), fun _ => ⟨by rw [hx]; exact hkeep _ hm1, by rw [hx]; exact hm2⟩, h5, h6⟩

theorem State.linkTrip_shows (h : s.getF (F.GDR_LINK_CFG_OV_TRIP l) < u) (hq : s.Quiet (0x63 + 3 * l)) (ha : s.asserted (0x63 + 3 * l) = false) :
    ∃ t, exec (.linkTrip l u) s = .next t ∧ t.flag (F.GDR_LINK_STAT_TRIP l) = true ∧ t.sticky (0x63 + 3 * l) = true ∧
      (∀ b, b < 3 → ⟨b, 2, false, 0x63 + 3 * l⟩ ∈ t.gdr.imps ∧ t.getF (F.MOT_STATUS_STATE b) = 0) ∧
      s.SameRegs raiseBlocks t ∧ s.SameStores t := by
  have hn : 0x63 + 3 * l < 256 := by omega
  obtain ⟨-, -, hbeside⟩ := linkStat_besidePower hl
  have hne : (F.GDR_LINK_STAT_TRIP l).addr ≠ 0x400B0000 := by simp only [F.GDR_LINK_STAT_TRIP]; omega
  have hp : s.Prepares ((s.linkTripped l u).detected (0x63 + 3 * l)) :=
    ((s.linkSeen_prepares u hl).setFlag (F.GDR_LINK_STAT_TRIP l) true (holdRegs_link hl)).detected _
  have hset : (s.linkTripped l u).flag (F.GDR_LINK_STAT_TRIP l) = true := State.flag_setFlag_same _ _ _ rfl
  have hflag : ((s.linkTripped l u).detected (0x63 + 3 * l)).flag (F.GDR_LINK_STAT_TRIP l) = true := by
    refine (State.flag_congr (State.getF_detected _ _ _ ?_)).trans hset
    simp only [F.GDR_LINK_STAT_TRIP, F.GDR_DESAT_CNT_COUNT, F.GDR_OC_CNT_COUNT, Ev.gdr, F.GDR_EVENT_SEEN, List.mem_cons, List.not_mem_nil, or_false]
    omega
  have he := exec_linkTrip_eq hr hl h
  unfold State.raiseHold at he
  generalize (s.linkTripped l u).detected (0x63 + 3 * l) = v at hp he hflag
  rw [State.unitHoldOn_trip _ hl] at he
  have hp3 : s.Prepares ((v.noting (0x63 + 3 * l)).imposeAll 2 (0x63 + 3 * l)) := (((hp.noting _).impose _).impose _).impose _
  have hall (b : Nat) (hb : b < 3) := (v.noting (0x63 + 3 * l)).imposeAll_shows 2 (0x63 + 3 * l) b hb
  have hflag3 : ((v.noting (0x63 + 3 * l)).imposeAll 2 (0x63 + 3 * l)).flag (F.GDR_LINK_STAT_TRIP l) = true :=
    (State.flag_congr ((State.imposeAll_flds _ _ _ _ hbeside.1).trans (State.getF_flt _ _ _))).trans hflag
  change exec (.linkTrip l u) s = .next ((((v.noting (0x63 + 3 * l)).imposeAll 2 (0x63 + 3 * l)).raise (0x63 + 3 * l)).refreshLinks) at he
  generalize (v.noting (0x63 + 3 * l)).imposeAll 2 (0x63 + 3 * l) = w at hp3 hall hflag3 he
  obtain ⟨h1, ⟨x, hx⟩, h3, h4, h5, h6⟩ := hp3.raise_linked hn hq ha
  refine ⟨_, he, (State.flag_congr (h3 _ hbeside hne)).trans hflag3, h1, fun b hb => ?_, h5, h6⟩
  obtain ⟨k1, k2, k3⟩ := hall b hb
  exact ⟨by rw [hx]; exact k1, (h4 b hb k2 k3).1⟩

end

/-- Settles O26: the chopper by the two thresholds; the links by what their units impose, which stays through the raise. -/
theorem linkCommands : Obligations.LinkCommands := by
  unfold Obligations.LinkCommands
  intro s l u hr hl
  refine ⟨fun h => ?_, fun h h' => ?_, fun hq ha => ?_, fun h hq ha => ?_, fun h hq ha => ?_⟩
  · exact State.chopperSet_shows true (exec_chopperOn_eq hr hl h) rfl
  · exact State.chopperSet_shows false (exec_chopperOff_eq hr hl h h') rfl
  · exact State.chopperFail_shows hr hl hq ha
  · exact State.linkOv_shows hr hl h hq ha
  · exact State.linkTrip_shows hr hl h hq ha

/-! ### The cross-disable input -/

/-- XDIS_IN accepted low, before the power stage follows (R242). -/
def State.xdisLow (s : State) : State :=
  (((({ s with gdr := { s.gdr with xdisIn := true }, lds := { s.lds with inLow := true } } : State).setFlag F.GDR_XDIS_IN false).setFlag
    F.LDS_XDIS_IN_LOW true).event Ev.gdr 11).event Ev.lds 6

/-- XDIS_IN accepted high in the hidden state (R382, R384). -/
def State.xdisLifted (s : State) : State :=
  { s with gdr := { s.gdr with xdisIn := false, resume := s.gdr.resume || s.gdr.xdisIn }, lds := { s.lds with inHigh := true } }

/-- XDIS_IN accepted high, before the power stage follows (R382). -/
def State.xdisHigh (s : State) : State :=
  ((s.xdisLifted.setFlag F.GDR_XDIS_IN true).setFlag F.LDS_XDIS_IN_LOW false).xdisJoin

theorem State.Within.refreshPower {r s : State} (h : r.Within [0x400A, 0x400B, 0x4011] s) : r.Within [0x400A, 0x400B, 0x4011] s.refreshPower :=
  h.trans ((State.confined_refreshPower s).within.mono (by decide))

theorem State.xdisLow_shows (s : State) : s.xdisLow.gdr.xdisIn = true ∧ s.xdisLow.flag F.GDR_XDIS_IN = false ∧
    s.Within [0x400A, 0x400B, 0x4011] s.xdisLow ∧ s.xdisLow.sys = s.sys := by
  have h0 : s.Within [0x400A, 0x400B, 0x4011]
      { s with gdr := { s.gdr with xdisIn := true }, lds := { s.lds with inLow := true } } := (State.Within.refl _ s).hidden ..
  unfold State.xdisLow
  refine ⟨?_, ?_, (((h0.setFlag _ _ (by decide)).setFlag _ _ (by decide)).event _ _ (by decide)).event _ _ (by decide), ?_⟩
  · rw [State.event_gdr, State.event_gdr, State.setFlag_gdr, State.setFlag_gdr]
  · rw [State.flag_event_other _ _ _ _ (by decide), State.flag_event_other _ _ _ _ (by decide),
      State.flag_setFlag_apart _ _ _ _ rfl (by decide), State.flag_setFlag_same _ _ _ rfl]
  · rw [State.event_sys, State.event_sys, State.setFlag_sys, State.setFlag_sys]

theorem State.xdisJoin_shows (s : State) : s.xdisJoin.gdr = s.gdr ∧ s.xdisJoin.sys = s.sys ∧ s.Within [0x400A, 0x400B, 0x4011] s.xdisJoin := by
  unfold State.xdisJoin
  refine ⟨by simp, by simp, ?_⟩
  exact ((State.Within.refl _ s).when _ _ fun u hu => hu.setFlag _ _ (by decide)).setFlag _ _ (by decide)

theorem State.xdisHigh_shows (s : State) : s.xdisHigh.gdr = { s.gdr with xdisIn := false, resume := s.gdr.resume || s.gdr.xdisIn } ∧
    s.xdisHigh.flag F.GDR_XDIS_IN = true ∧ s.Within [0x400A, 0x400B, 0x4011] s.xdisHigh ∧ s.xdisHigh.sys = s.sys := by
  have h0 : s.Within [0x400A, 0x400B, 0x4011] s.xdisLifted := (State.Within.refl _ s).hidden ..
  have hset := (h0.setFlag F.GDR_XDIS_IN true (by decide)).setFlag F.LDS_XDIS_IN_LOW false (by decide)
  unfold State.xdisHigh
  obtain ⟨h1, h2, h3⟩ := ((s.xdisLifted.setFlag F.GDR_XDIS_IN true).setFlag F.LDS_XDIS_IN_LOW false).xdisJoin_shows
  refine ⟨?_, ?_, hset.trans h3, ?_⟩
  · rw [h1, State.setFlag_gdr, State.setFlag_gdr]
    rfl
  · have hj (u : State) : u.xdisJoin.flag F.GDR_XDIS_IN = u.flag F.GDR_XDIS_IN := by
      unfold State.xdisJoin
      dsimp only
      rw [State.flag_setFlag_apart _ _ _ _ rfl (by decide)]
      exact State.flag_congr (State.getF_when _ _ _ _ (State.getF_setFlag_apart _ _ _ _ rfl (by decide)))
    rw [hj, State.flag_setFlag_apart _ _ _ _ rfl (by decide), State.flag_setFlag_same _ _ _ rfl]
  · rw [h2, State.setFlag_sys, State.setFlag_sys]
    rfl

theorem xdisIn_besidePower : powerFlds.all (·.apart F.GDR_XDIS_IN) = true := by decide +kernel

section
variable {s : State} (hr : s.sys.phase = .run)
include hr

theorem State.xdisInLow_shows (hx : s.gdr.xdisIn = false) :
    ∃ t, exec .xdisInLow s = .next t ∧ t.gdr.xdisIn = true ∧ (∀ b, b < 3 → t.getF (F.MOT_STATUS_STATE b) = 0) ∧
      t.flag F.GDR_STATUS_ENABLED = false ∧ (∀ k, k < 12 → t.getF (F.GDR_SOL_STAT_STATE k) ≠ 1) ∧
      (∀ e, e < 4 → t.flag (F.GDR_EN_STAT_OUT e) = false) ∧ t.flag F.GDR_XDIS_IN = false ∧ t.mode = s.mode ∧
      s.SameRegs [0x400A, 0x400B, 0x4011] t ∧ s.SameStores t := by
  have he : exec .xdisInLow s = .next s.xdisLow.refreshPower := next_congr (if_pos ⟨State.running_of_run hr, hx⟩)
  obtain ⟨h1, h2, h3, h4⟩ := s.xdisLow_shows
  generalize s.xdisLow = u at he h1 h2 h3 h4
  obtain ⟨k1, k2, k3⟩ := u.refreshPower_xdis h1
  have hsys : u.refreshPower.sys = s.sys := (State.confined_refreshPower u).sys.trans h4
  have hw := h3.refreshPower
  exact ⟨_, he, (congrArg Gdr.xdisIn u.refreshPower_gdr).trans h1,
    fun b hb => (u.refreshPower_off b hb (State.offHeld_of_xdis (State.xdisEff_of rfl h1) b)).1, k1, k2, k3,
    (State.flag_congr (u.refreshPower_flds _ xdisIn_besidePower)).trans h2, hw.mode (by decide) (congrArg Sys.phase hsys), hw.1, hw.2⟩

theorem State.xdisInHigh_shows :
    ∃ t, exec .xdisInHigh s = .next t ∧ t.gdr.xdisIn = false ∧ t.gdr.resume = (s.gdr.resume || s.gdr.xdisIn) ∧
      t.flag F.GDR_XDIS_IN = true ∧ t.mode = s.mode ∧ s.SameRegs [0x400A, 0x400B, 0x4011] t ∧ s.SameStores t := by
  have he : exec .xdisInHigh s = .next s.xdisHigh.refreshPower := next_congr (if_pos (State.running_of_run hr))
  obtain ⟨h1, h2, h3, h4⟩ := s.xdisHigh_shows
  generalize s.xdisHigh = u at he h1 h2 h3 h4
  have hgdr := u.refreshPower_gdr.trans h1
  have hsys : u.refreshPower.sys = s.sys := (State.confined_refreshPower u).sys.trans h4
  have hw := h3.refreshPower
  exact ⟨_, he, congrArg Gdr.xdisIn hgdr, congrArg Gdr.resume hgdr,
    (State.flag_congr (u.refreshPower_flds _ xdisIn_besidePower)).trans h2, hw.mode (by decide) (congrArg Sys.phase hsys), hw.1, hw.2⟩

end

/-- Settles O28: what the gate drive's hidden state shows of XDIS_IN, the power stage brought in line shows on every output. -/
theorem crossDisable : Obligations.CrossDisable := by
  unfold Obligations.CrossDisable
  intro s hr
  refine ⟨State.xdisInLow_shows hr, State.xdisInHigh_shows hr, fun hm hx hp hq ha => ?_⟩
  obtain ⟨h1, h2, h3, h4⟩ := (State.Prepares.refl s).raise (n := 0xAD) (by decide) hq ha
  exact ⟨_, next_congr (if_pos ⟨State.running_of_run hr, hm, hx, hp⟩), h1, h2, h3, h4⟩

end Sys2Proof.Machine
end

section
/-!
# Entry into a mode
-/
namespace Sys2Proof.Machine

open Sys2Proof

/-! ### What entry into a mode leaves alone -/

/-- The registers behind SYS_MODE. -/
abbrev behindMode (a : Nat) : Prop := 0x4000000C < a

/-- The registers that entry into a mode may write, whatever the graph left: those behind SYS_MODE but for the results of LBIST
and the sticky bits of the sources 0 to 0x1F and 0xC0 to 0xDF. -/
abbrev entryRegs (a : Nat) : Prop :=
  0x4000000C < a ∧ a ≠ F.BST_LBIST_DONE.addr ∧ a ≠ (F.FLT_STICKY_STICKY 6).addr ∧ a ≠ (F.FLT_STICKY_STICKY 0).addr

/-- A view that sees nothing of the hidden state that entry into a mode changes besides SYS_MODE (R59): power domains, CAN, sections and the
drive of XDIS_OUT. -/
structure State.EnterBlind {α : Type} (π : State → α) : Prop where
  blind : State.Blind π
  doms : ∀ s x, π { s with doms := x } = π s
  cans : ∀ s x, π { s with cans := x } = π s
  sec : ∀ s x, π { s with sec := x } = π s
  xdis : ∀ (s : State) l n, π { s with sys := { s.sys with xdisOut := l, xdisOutCnt := n } } = π s

theorem behindMode_of_blocks {bs : List Nat} (h : ∀ b ∈ bs, 0x4001 ≤ b) (a : Nat) (ha : a / 0x10000 ∈ bs) : behindMode a := by
  have := h _ ha
  simp only [behindMode]
  omega

theorem entryRegs_of_blocks {bs : List Nat} (h : ∀ b ∈ bs, 0x4001 ≤ b ∧ b ≠ 0x4015 ∧ b ≠ 0x4003) (a : Nat) (ha : a / 0x10000 ∈ bs) :
    entryRegs a := by
  have := h _ ha
  simp only [entryRegs, F.BST_LBIST_DONE, F.FLT_STICKY_STICKY]
  omega

section
variable {α : Type} {π : State → α} {r s : State} (hπ : State.EnterBlind π) (hs : r.Touches entryRegs π s)
include hπ hs

theorem State.Touches.setDom (d : Nat) (x : Dom) : r.Touches entryRegs π (s.setDom d x) :=
  hs.hidden ((State.Within.refl _ s).hidden ..) (hπ.doms s _)

omit hπ in
theorem State.Touches.setDomState (d v : Nat) : r.Touches entryRegs π (s.setDomState d v) :=
  (hs.setF _ _ (by simp only [entryRegs, F.BST_LBIST_DONE, F.FLT_STICKY_STICKY, F.PWR_DOM_STAT_STATE]; omega)).setF _ _ (by decide)

omit hπ in
theorem State.Touches.putVote (d c : Nat) (b : Bool) : r.Touches entryRegs π (s.putVote d c b) := by
  have h : entryRegs (F.PWR_DOM_VOTE_VOTES d).addr := by simp only [entryRegs, F.BST_LBIST_DONE, F.FLT_STICKY_STICKY, F.PWR_DOM_VOTE_VOTES]; omega
  unfold State.putVote
  dsimp only
  split
  · exact (hs.setF (F.PWR_DOM_VOTE_VOTES d) _ h).setFlag (F.PWR_DOM_VOTE_SVC_VOTE d) b h
  · exact hs.setF _ _ h

omit hπ in
theorem State.Touches.domRefuse (d n : Nat) : r.Touches entryRegs π (s.domRefuse d n) := by
  have h : entryRegs (F.PWR_DOM_REFUSE_COUNT d).addr := by simp only [entryRegs, F.BST_LBIST_DONE, F.FLT_STICKY_STICKY, F.PWR_DOM_REFUSE_COUNT]; omega
  exact (((((hs.incF _ h).setF (F.PWR_DOM_REFUSE_LAST_ID d) n h).setF _ _ (by decide)).setF _ _ (by decide)).setF _ _ (by decide)).event _ _
    (by decide)

omit hπ in
theorem State.Touches.domAbort (d n : Nat) (hd : d < 22) : r.Touches entryRegs π (s.domAbort d n) := by
  have h : entryRegs (F.PWR_DOM_ABORT_COUNT d).addr := by simp only [entryRegs, F.BST_LBIST_DONE, F.FLT_STICKY_STICKY, F.PWR_DOM_ABORT_COUNT]; omega
  exact (((((hs.incF _ h).setF (F.PWR_DOM_ABORT_LAST_ID d) n h).setF _ _ (by decide)).setF _ _ (by decide)).setF _ _ (by decide)).event _ _
    (by decide)

omit hπ hs in
theorem entryRegs_step (d : Nat) : entryRegs (F.PWR_DOM_STAT_STEP d).addr := by
  simp only [entryRegs, F.BST_LBIST_DONE, F.FLT_STICKY_STICKY, F.PWR_DOM_STAT_STEP]
  omega

theorem State.Touches.domEnter (d : Nat) : r.Touches entryRegs π (s.domEnter d) := by
  unfold State.domEnter
  split
  · exact hs.domRefuse _ _
  · exact (hs.setDomState _ _).setDom hπ _ _

theorem State.Touches.domRestore (d : Nat) (b : Bool) : r.Touches entryRegs π (s.domRestore d b) :=
  ((hs.setDomState _ _).setDom hπ _ _).setF _ _ (entryRegs_step d)

theorem State.Touches.domVote (d c : Nat) (hd : d < 22) : r.Touches entryRegs π (s.domVote d c) := by
  have h := hs.putVote d c true
  unfold State.domVote
  split
  · exact hs
  · dsimp only
    generalize s.putVote d c true = u at h ⊢
    split
    · exact h
    · split
      · exact ((h.domAbort d c hd).setDom hπ _ _).setF _ _ (entryRegs_step d)
      · exact h
    · split
      · exact h
      · exact h.domRestore hπ _ _

theorem State.Touches.domUnvote (d c : Nat) (o : Option Nat) : r.Touches entryRegs π (s.domUnvote d c o) := by
  have h := hs.putVote d c false
  unfold State.domUnvote
  split
  · exact hs
  · dsimp only
    generalize s.putVote d c false = u at h ⊢
    split
    · next c' =>
      have h2 := h.putVote d c' true
      split
      · exact h2.domRefuse _ _
      · exact h2
    · split
      · exact h.domEnter hπ d
      · exact h

theorem State.Touches.modeVotes (m : Mode) : r.Touches entryRegs π (s.modeVotes m) := by
  have h1 : r.Touches entryRegs π (s.each (List.range 8) (fun s c =>
      if m = .safeHold ∨ m = .dormant ∨ s.flag (F.SYS_CLUSTER_RETIRED c) then s.domUnvote (9 + c) 0 none else s.domVote (9 + c) 0)) :=
    hs.each _ _ fun u c hc hu => (hu.domUnvote hπ _ _ _).ite _ (hu.domVote hπ _ _ (by have := List.mem_range.1 hc; omega))
  have h2 := h1.when (decide (m = .dormant)) (fun s => s.each [18, 19, 21, 20, 17, 8, 7, 6, 5, 4, 3, 2, 1] (fun s d => s.domUnvote d 0 none))
    fun u hu => hu.each _ _ fun v d _ hv => hv.domUnvote hπ _ _ _
  unfold State.modeVotes
  exact (h2.domVote hπ 18 0 (by decide)).ite _ h2

end


section
variable {α : Type} {π : State → α} {r s : State} (hs : r.Touches entryRegs π s)
include hs

theorem State.Touches.brakeRelease : r.Touches entryRegs π s.brakeRelease := by
  unfold State.brakeRelease
  split
  · have h1 := hs.confined (State.confined_gdr [] s { s.gdr with released := some (s.getF F.LDS_CFG_RELEASE_CH) }) (by simp)
    exact ((h1.setFlag F.LDS_STATUS_BRAKE_RELEASED true (by decide)).event Ev.lds 10 (by decide)).confined (State.confined_refreshPower _)
      (entryRegs_of_blocks (by decide))
  · exact hs

theorem State.Touches.refreshReact : r.Touches entryRegs π s.refreshReact := (hs.setF _ _ (by decide)).setF _ _ (by decide)

theorem State.Touches.refreshHobs : r.Touches entryRegs π s.refreshHobs := hs.setF _ _ (by decide)

theorem State.Touches.hobService (n : Nat) (b : Bool) (hn : n < 64) : r.Touches entryRegs π (s.hobService n b) :=
  (hs.setF _ _ (by simp only [entryRegs, F.BST_LBIST_DONE, F.FLT_STICKY_STICKY, F.SYS_CLUSTER_HOB_IN_SERVICE]; omega)).refreshHobs

theorem State.Touches.rollLeave (h : Nat) (hh : h < 2) : r.Touches entryRegs π (s.rollLeave h) := by
  have h1 := hs.setFlag (F.SYS_HALF_ROLLING_BIST h) false
    (by simp only [entryRegs, F.BST_LBIST_DONE, F.FLT_STICKY_STICKY, F.SYS_HALF_ROLLING_BIST]; omega)
  have hn : s.getF (F.SYS_HALF_ROLLING_HOB h) < 64 := State.getF_lt _ _
  unfold State.rollLeave
  dsimp only
  generalize s.getF (F.SYS_HALF_ROLLING_HOB h) = n at hn ⊢
  exact h1.ite _ ((h1.setF _ _ (by simp only [entryRegs, F.BST_LBIST_DONE, F.FLT_STICKY_STICKY, F.HOB_ENGINE_STATE]; omega)).hobService _ _ hn)

theorem State.Touches.refreshQueues : r.Touches entryRegs π s.refreshQueues :=
  by
  refine hs.each _ _ fun u c hc hu => ?_
  have hq : c < 8 := List.mem_range.1 hc
  exact (hu.setF (F.HOB_QUEUE_DEPTH c) _ (by simp only [entryRegs, F.BST_LBIST_DONE, F.FLT_STICKY_STICKY, F.HOB_QUEUE_DEPTH]; omega)).peakF
    (F.HOB_QUEUE_PEAK c) _ (by simp only [entryRegs, F.BST_LBIST_DONE, F.FLT_STICKY_STICKY, F.HOB_QUEUE_PEAK]; omega)

theorem State.Touches.rollAbandon (hage : ∀ s x, π { s with age := x } = π s) : r.Touches entryRegs π s.rollAbandon :=
  (hs.hidden (t := { s with age := { s.age with rollDue := [] } }) ((State.Within.refl _ s).hidden ..) (hage s _)).each _ _ fun _ h hm hu =>
    hu.when _ _ fun _ hv => hv.rollLeave h (by simp only [List.mem_cons, List.not_mem_nil, or_false] at hm; omega)

omit hs in
/-- Stopping the graph writes, besides the registers that every entry may write, the state of an engine that executes. -/
theorem State.Touches.graphStop {P : Nat → Prop} (hP : ∀ a, entryRegs a → P a) (hs : r.Touches P π s)
    (hexec : ∀ u n, r.Touches P π u → u.getF (F.HOB_ENGINE_STATE n) = 1 → P (F.HOB_ENGINE_STATE n).addr)
    (hgr : ∀ s x, π { s with gr := x } = π s) (hage : ∀ s x, π { s with age := x } = π s) : r.Touches P π s.graphStop := by
  have h1 : r.Touches P π (s.each s.gr.exec (fun s x => s.when (decide (s.getF (F.HOB_ENGINE_STATE x.hob) = 1))
      (fun s => s.setF (F.HOB_ENGINE_STATE x.hob) 0))) := by
    refine hs.each _ _ fun u x _ hu => ?_
    rcases State.when_cases u (decide (u.getF (F.HOB_ENGINE_STATE x.hob) = 1)) (fun s => s.setF (F.HOB_ENGINE_STATE x.hob) 0) with
      ⟨h, he⟩ | ⟨-, he⟩ <;> rw [he]
    · exact hu.setF _ _ (hexec u x.hob hu (of_decide_eq_true h))
    · exact hu
  unfold State.graphStop
  dsimp only
  generalize s.each s.gr.exec _ = u at h1 ⊢
  refine h1.trans (State.Touches.mono ?_ hP)
  refine State.Touches.refreshQueues (State.Touches.rollAbandon ?_ hage)
  refine State.Touches.setFlag (State.Touches.setFlag ?_ _ _ (by decide)) _ _ (by decide)
  have hj := (State.Touches.refl hs.blind entryRegs u).confined (State.confined_jrn [] u { u.jrn with post := u.jrn.post.map (fun _ => 0) }) (by simp)
  exact hj.hidden ((State.Within.refl _ _).hidden ..) (hgr { u with jrn := { u.jrn with post := u.jrn.post.map (fun _ => 0) } } _)

theorem State.Touches.enterJoin (hflu : ∀ s x, π { s with flu := x } = π s) : r.Touches entryRegs π s.enterJoin := by
  have h1 := (hs.hidden (t := { s with flu := { s.flu with integ := .listen, sumM := 0, lostRun := 0, ppsE := none } })
    ((State.Within.refl _ s).hidden ..) (hflu s _)).setReg F.FLU_RATE_CORR_RATE.addr 0 (by decide)
  have h2 := h1.each (List.range 6) (fun s r => s.setFlag (F.SAF_RX_STAT_REF_VALID r) false) fun u k hk hu =>
    have hk := List.mem_range.1 hk
    hu.setFlag _ _ (by simp only [entryRegs, F.BST_LBIST_DONE, F.FLT_STICKY_STICKY, F.SAF_RX_STAT_REF_VALID]; omega)
  unfold State.enterJoin
  dsimp only
  exact h2.when _ _ fun u hu => (hu.setFlag _ _ (by decide)).setFlag _ _ (by decide)

theorem State.Touches.startCan (hπ : State.EnterBlind π) : r.Touches entryRegs π s.startCan := by
  refine hs.each _ _ fun u n hn hu => ?_
  have hn := List.mem_range.1 hn
  have ha : entryRegs (F.CAN_STATUS_ACTIVE n).addr := by simp only [entryRegs, F.BST_LBIST_DONE, F.FLT_STICKY_STICKY, F.CAN_STATUS_ACTIVE]; omega
  dsimp only
  split
  · exact hu
  · split
    · exact (hu.setFlag _ _ ha).setF (F.CAN_STATUS_STATE n) _ ha
    · have h1 := (hu.setReg _ 0 ha).setF (F.CAN_STATUS_STATE n) 3 ha
      have h2 := h1.each (List.range 3) (fun s b => (s.setFlag (F.CAN_TXBUF_HELD n b) false).setF (F.CAN_TXBUF_STATE n b) 0) fun v b hb hv =>
        have hb := List.mem_range.1 hb
        (hv.setFlag (F.CAN_TXBUF_HELD n b) _ (by simp only [entryRegs, F.BST_LBIST_DONE, F.FLT_STICKY_STICKY, F.CAN_TXBUF_HELD]; omega)).setF
          (F.CAN_TXBUF_STATE n b) _ (by simp only [entryRegs, F.BST_LBIST_DONE, F.FLT_STICKY_STICKY, F.CAN_TXBUF_STATE]; omega)
      exact (h2.hidden ((State.Within.refl _ _).hidden ..) (hπ.cans _ _)).setF _ _
        (by simp only [entryRegs, F.BST_LBIST_DONE, F.FLT_STICKY_STICKY, F.CAN_RXF_STAT_DEPTH]; omega)

theorem State.Touches.refreshEth (p : Nat) : r.Touches entryRegs π (s.refreshEth p) :=
  (hs.setFlag (F.ETH_STATUS_ACTIVE p) _ (by simp only [entryRegs, F.BST_LBIST_DONE, F.FLT_STICKY_STICKY, F.ETH_STATUS_ACTIVE]; omega)).setFlag
    (F.ETH_STATUS_PTP_MASTER p) _ (by simp only [entryRegs, F.BST_LBIST_DONE, F.FLT_STICKY_STICKY, F.ETH_STATUS_PTP_MASTER]; omega)

theorem State.Touches.isoSend (hπ : State.EnterBlind π) (a : Nat) : r.Touches entryRegs π (s.isoSend a) := by
  unfold State.isoSend
  exact hs.ite _ ((hs.hidden ((State.Within.refl _ s).hidden ..) (hπ.cans s _)).incF _ (by decide))

theorem State.Touches.isoClaim (hπ : State.EnterBlind π) (a n : Nat) : r.Touches entryRegs π (s.isoClaim a n) := by
  have h := hs.isoSend hπ a
  unfold State.isoClaim
  exact hs.ite _ (h.hidden ((State.Within.refl _ _).hidden ..) (hπ.cans _ _))

theorem State.Touches.refreshNet (hπ : State.EnterBlind π) : r.Touches entryRegs π s.refreshNet := by
  unfold State.refreshNet
  dsimp only
  have h1 := (hs.startCan hπ).each (List.range 4) (fun u n => u.setFlag (F.CAN_STATUS_LISTEN n) (u.flag (F.CAN_STATUS_ACTIVE n) &&
      (decide (u.getF (F.CAN_CFG_MODE n) = 2) || (decide (n = 0) && s.flag (F.CAN_ISO_CFG_EN 0) && !s.mode.isLead)))) fun u n hn hu =>
    have hn := List.mem_range.1 hn
    hu.setFlag _ _ (by simp only [entryRegs, F.BST_LBIST_DONE, F.FLT_STICKY_STICKY, F.CAN_STATUS_LISTEN]; omega)
  have h2 := h1.each [0, 1] State.refreshEth fun u p _ hu => hu.refreshEth p
  generalize State.each (State.each s.startCan _ _) [0, 1] State.refreshEth = u at h2 ⊢
  split
  · exact h2.ite _ (h2.isoClaim hπ _ _)
  · exact (((h2.hidden ((State.Within.refl _ u).hidden ..) (hπ.cans u _)).setFlag _ _ (by decide)).setFlag _ _ (by decide)).setF _ _ (by decide)

theorem State.Touches.refreshSec (hπ : State.EnterBlind π) : r.Touches entryRegs π s.refreshSec := by
  unfold State.refreshSec
  exact hs.ite _ (((hs.hidden ((State.Within.refl _ s).hidden ..) (hπ.sec s _)).setFlag _ _ (by decide)).setF _ _ (by decide))

theorem State.Touches.refreshXdis (hπ : State.EnterBlind π) : r.Touches entryRegs π s.refreshXdis :=
  ((hs.hidden ((State.Within.refl _ s).hidden ..) (hπ.xdis s _ _)).setFlag _ _ (by decide)).setFlag _ _ (by decide)

end



/-- Entry into a mode up to its record and its marker (R59). -/
def State.modeEntered (s : State) (m : Mode) (cause source : Nat) : State :=
  let prev := s.mode
  let s0 : State := { s with sys := { s.sys with joined := s.sys.joined || decide (m = .join),
                                                 heldSafe := s.sys.heldSafe || decide (m = .safeHold),
                                                 next := if m = .safeHold then [] else s.sys.next },
                             flt := { s.flt with acting := s.flt.acting.filter (fun n =>
                               actionStays m (s.getF (F.FLT_SRC_REACTION n) % 16)) } }
  let s1 := ((s0.setF F.SYS_MODE_PREV_MODE prev.code).setF F.SYS_MODE_MODE m.code).setF (F.SYS_MODE_ENTRY_TICK m.code) s.tickLo
  (s1.ashRequest 2 0 (modeBody m prev cause source (s.flu.cycle % 2 ^ 32))).marker 6 m.code cause

/-- The trigger that an entry into a mode may give the journal (R490). -/
def State.entryTrigger (s : State) (on : Bool) (m : Mode) : State := s.when on (fun s => s.trigger 2 m.code)

/-- The units that an entry into a mode starts or stops (R59). -/
def State.entryUnits (s : State) (m : Mode) : State :=
  ((((s.when (!m.runs) State.graphStop).when (decide (m = .join)) State.enterJoin).setFlag F.FLU_STATUS_TX_ON m.sends).setFlag
    F.FLU_DAMPER_CLOSED (!m.sends)).setFlag F.BST_STATUS_ROLLING (m.runs && s.flag F.BST_CFG_ROLL_EN)

/-- The votes and outputs that follow a mode (R59). -/
def State.entryOutputs (s : State) (m : Mode) : State :=
  ((((s.modeVotes m).refreshReact.refreshXdis).refreshPower).refreshNet.refreshSec).brakeRelease

theorem State.enterMode_eq (s : State) (m : Mode) (cause source : Nat) :
    s.enterMode m cause source =
      (((s.modeEntered m cause source).entryTrigger (bit (s.getF F.JRN_CFG_MODE_TRIG) m.code) m).entryUnits m).entryOutputs m := rfl

section
variable {α : Type} {π : State → α} {r s : State} (m : Mode)

theorem State.Touches.entryTrigger (hs : r.Touches entryRegs π s) (b : Bool) : r.Touches entryRegs π (s.entryTrigger b m) :=
  hs.when _ _ fun u hu => hu.confined (State.confined_trigger u 2 m.code) (entryRegs_of_blocks (by decide))

theorem State.Touches.entryUnits {P : Nat → Prop} (hP : ∀ a, entryRegs a → P a) (hs : r.Touches P π s)
    (hexec : m.runs = true ∨ ∀ u n, r.Touches P π u → u.getF (F.HOB_ENGINE_STATE n) = 1 → P (F.HOB_ENGINE_STATE n).addr)
    (hstop : m.runs = true ∨ (∀ s x, π { s with gr := x } = π s) ∧ ∀ s x, π { s with age := x } = π s)
    (hjoin : m ≠ .join ∨ ∀ s x, π { s with flu := x } = π s) : r.Touches P π (s.entryUnits m) := by
  have h4 : r.Touches P π (s.when (!m.runs) State.graphStop) := by
    rcases hexec with hm | he
    · rw [hm]
      exact hs
    · rcases hstop with hm | ⟨hg, ha⟩
      · rw [hm]
        exact hs
      · exact hs.when _ _ fun v hv => State.Touches.graphStop hP hv he hg ha
  have h5 : r.Touches P π ((s.when (!m.runs) State.graphStop).when (decide (m = .join)) State.enterJoin) := by
    rcases hjoin with hm | hf
    · rw [decide_eq_false hm]
      exact h4
    · exact h4.when _ _ fun w hw => hw.trans (((State.Touches.refl hs.blind _ w).enterJoin hf).mono hP)
  exact ((h5.setFlag _ _ (hP _ (by decide))).setFlag _ _ (hP _ (by decide))).setFlag _ _ (hP _ (by decide))

theorem State.Touches.entryOutputs (hπ : State.EnterBlind π) (hs : r.Touches entryRegs π s) : r.Touches entryRegs π (s.entryOutputs m) := by
  have h7 := ((hs.modeVotes hπ m).refreshReact).refreshXdis hπ
  have h8 := h7.confined (State.confined_refreshPower _) (entryRegs_of_blocks (by decide))
  exact ((h8.refreshNet hπ).refreshSec hπ).brakeRelease

/-- What follows an entry into a mode leaves the memories, every view that the units entered do not show, and what lies neither in their
registers nor at an engine that executes. -/
theorem State.enterMode_confines {P : Nat → Prop} (hP : ∀ a, entryRegs a → P a) (hπ : State.EnterBlind π) (s : State) (cause source : Nat)
    (hexec : m.runs = true ∨ ∀ u n, (s.modeEntered m cause source).Touches P π u → u.getF (F.HOB_ENGINE_STATE n) = 1 →
      P (F.HOB_ENGINE_STATE n).addr)
    (hstop : m.runs = true ∨ (∀ s x, π { s with gr := x } = π s) ∧ ∀ s x, π { s with age := x } = π s)
    (hjoin : m ≠ .join ∨ ∀ s x, π { s with flu := x } = π s) :
    (s.modeEntered m cause source).Touches P π (s.enterMode m cause source) := by
  rw [State.enterMode_eq]
  have h1 := ((State.Touches.refl hπ.blind entryRegs (s.modeEntered m cause source)).entryTrigger m
    (bit (s.getF F.JRN_CFG_MODE_TRIG) m.code)).mono hP
  have h2 := State.Touches.entryUnits m hP h1 hexec hstop hjoin
  exact h2.trans (((State.Touches.refl hπ.blind entryRegs _).entryOutputs m hπ).mono hP)

end

/-- What follows an entry into a mode leaves SYS_MODE, the memories and every view that the units entered do not show. -/
theorem State.enterMode_touches {α : Type} {π : State → α} (hπ : State.EnterBlind π) (s : State) (m : Mode) (cause source : Nat)
    (hstop : m.runs = true ∨ (∀ s x, π { s with gr := x } = π s) ∧ ∀ s x, π { s with age := x } = π s)
    (hjoin : m ≠ .join ∨ ∀ s x, π { s with flu := x } = π s) :
    (s.modeEntered m cause source).Touches behindMode π (s.enterMode m cause source) :=
  State.enterMode_confines m (fun _ h => h.1) hπ s cause source
    (.inr fun _ _ _ _ => by simp only [F.HOB_ENGINE_STATE]; omega) hstop hjoin

/-- SYS_MODE shows the mode entered and the mode left; the die stays in its phase, and the memories stay. -/
theorem State.modeEntered_shows (s : State) (m : Mode) (cause source : Nat) :
    (s.modeEntered m cause source).getF F.SYS_MODE_MODE = m.code ∧ (s.modeEntered m cause source).getF F.SYS_MODE_PREV_MODE = s.mode.code ∧
      s.Within [0x4000] (s.modeEntered m cause source) := by
  have hap : (F.SYS_MODE_ENTRY_TICK m.code).apart F.SYS_MODE_MODE = true ∧ (F.SYS_MODE_ENTRY_TICK m.code).apart F.SYS_MODE_PREV_MODE = true := by
    simp only [Fld.apart_iff, F.SYS_MODE_ENTRY_TICK, F.SYS_MODE_MODE, F.SYS_MODE_PREV_MODE]
    omega
  have hblock : (F.SYS_MODE_ENTRY_TICK m.code).addr / 0x10000 ∈ [0x4000] := by
    have := m.code_lt
    simp only [F.SYS_MODE_ENTRY_TICK, List.mem_cons, List.not_mem_nil, or_false]
    omega
  unfold State.modeEntered
  dsimp only
  refine ⟨?_, ?_, ?_⟩
  · rw [State.marker_getF, State.ashRequest_getF, State.getF_setF_apart _ _ _ _ rfl hap.1, State.getF_setF_same _ _ _ rfl]
    exact Nat.mod_eq_of_lt m.code_lt
  · rw [State.marker_getF, State.ashRequest_getF, State.getF_setF_apart _ _ _ _ rfl hap.2, State.getF_setF_apart _ _ _ _ rfl (by decide),
      State.getF_setF_same _ _ _ rfl]
    exact Nat.mod_eq_of_lt s.mode.code_lt
  · exact ((((((State.Within.refl _ s).hidden ..).setF _ _ (by decide)).setF _ _ (by decide)).setF _ _ hblock).ashRequest _ _ _).marker _ _ _

theorem Mode.ofCode_code (m : Mode) : Mode.ofCode m.code = m := by cases m <;> rfl

theorem State.mode_of_code {s : State} {m : Mode} (hp : s.sys.phase ≠ .off) (h : s.getF F.SYS_MODE_MODE = m.code) : s.mode = m := by
  unfold State.mode
  split
  · next ho => exact absurd ho hp
  · rw [h, m.ofCode_code]

/-- A blind view of the hidden state that nothing but a command of its own changes. -/
theorem enterBlind_phase : State.EnterBlind (fun s : State => s.sys.phase) where
  blind _ _ _ h := congrArg Sys.phase h.sys
  doms _ _ := rfl
  cans _ _ := rfl
  sec _ _ := rfl
  xdis _ _ _ := rfl

theorem State.modeEntered_phase (s : State) (m : Mode) (cause source : Nat) : (s.modeEntered m cause source).sys.phase = s.sys.phase := by
  unfold State.modeEntered
  simp only [State.marker_sys, State.ashRequest_sys, State.setF_sys]

/-- Entry into SAFE-HOLD keeps the results of LBIST where their two lowest bits do not read as an engine that executes. -/
theorem State.enterMode_lbist (s : State) (cause source : Nat) (h : s.getF (F.HOB_ENGINE_STATE 0x3FFC4) ≠ 1) :
    (s.enterMode .safeHold cause source).reg F.BST_LBIST_DONE.addr = s.reg F.BST_LBIST_DONE.addr := by
  obtain ⟨-, -, hw⟩ := s.modeEntered_shows .safeHold cause source
  have hr : (s.modeEntered .safeHold cause source).reg F.BST_LBIST_DONE.addr = s.reg F.BST_LBIST_DONE.addr := hw.1 _ (by decide)
  have ht : (s.modeEntered .safeHold cause source).Touches entryRegs (fun s : State => s.sys.phase) (s.enterMode .safeHold cause source) := by
    refine State.enterMode_confines _ (fun _ h => h) enterBlind_phase s cause source (.inr fun u n hu hn => ?_)
      (.inr ⟨fun _ _ => rfl, fun _ _ => rfl⟩) (.inr fun _ _ => rfl)
    refine ⟨by simp only [F.HOB_ENGINE_STATE]; omega, fun ha => h ?_, by simp only [F.HOB_ENGINE_STATE, F.FLT_STICKY_STICKY]; omega⟩
    have hreg : u.reg F.BST_LBIST_DONE.addr = s.reg F.BST_LBIST_DONE.addr := (hu.regs _ (by simp [entryRegs])).trans hr
    have hidx : n = 0x3FFC4 := by
      simp only [F.HOB_ENGINE_STATE, F.BST_LBIST_DONE] at ha
      omega
    rw [hidx] at hn
    exact (State.getF_congr (f := F.HOB_ENGINE_STATE 0x3FFC4) hreg).symm.trans hn
  exact (ht.regs _ (by simp [entryRegs])).trans hr

/-- Entry into a mode leaves it in SYS_MODE, with the mode that was left; the phase and the memories stay (R28, R59). -/
theorem State.enterMode_shows (s : State) (m : Mode) (cause source : Nat) :
    (s.enterMode m cause source).getF F.SYS_MODE_MODE = m.code ∧ (s.enterMode m cause source).getF F.SYS_MODE_PREV_MODE = s.mode.code ∧
      (s.enterMode m cause source).sys.phase = s.sys.phase ∧ s.SameStores (s.enterMode m cause source) := by
  have ht := State.enterMode_touches enterBlind_phase s m cause source (.inr ⟨fun _ _ => rfl, fun _ _ => rfl⟩) (.inr fun _ _ => rfl)
  obtain ⟨h1, h2, h3⟩ := s.modeEntered_shows m cause source
  have hp := s.modeEntered_phase m cause source
  generalize s.modeEntered m cause source = u at ht h1 h2 h3 hp
  obtain ⟨k1, k2, k3, k4⟩ := ht.stores
  obtain ⟨j1, j2, j3, j4⟩ := h3.2
  exact ⟨(ht.getF _ (by decide)).trans h1, (ht.getF _ (by decide)).trans h2, ht.same.trans hp,
    k1.trans j1, k2.trans j2, k3.trans j3, k4.trans j4⟩

theorem State.enterMode_mode (s : State) (m : Mode) (cause source : Nat) (hp : s.sys.phase ≠ .off) : (s.enterMode m cause source).mode = m := by
  obtain ⟨h1, -, h3, -⟩ := s.enterMode_shows m cause source
  exact State.mode_of_code (by rw [h3]; exact hp) h1

end Sys2Proof.Machine
end

section
/-!
# Set-points and the shutdown
-/
namespace Sys2Proof.Machine

open Sys2Proof

/-! ### Set-points, shutdown and the release of PWR_REQ -/

theorem State.sp_setSp (s : State) {c : Nat} (x : Sp) (hc : c < s.sps.length) : (s.setSp c x).sp c = x := by
  unfold State.sp State.setSp
  simp [List.getD_eq_getElem?_getD, hc]

section
variable {s : State} (hr : s.sys.phase = .run)
include hr

theorem State.spTimeout_shows {c : Nat} {alt : Bool} (hj : s.sys.joined = true) (hc : c < 8) (hl : s.sps.length = 8)
    (he : s.flag (F.LAW_SP_SRC_ENABLE c) = true) (ht : s.getF (F.LAW_SP_SRC_TIMEOUT c) ≠ 0) (hk : s.spKind c alt ≠ 0) :
    ∃ t, exec (.setpointTimeout c alt) s = .next t ∧ (if alt = true then (t.sp c).alt else (t.sp c).pri).out = true ∧
      (if alt = true then (t.sp c).pri = (s.sp c).pri else (t.sp c).alt = (s.sp c).alt) ∧ { t with sps := s.sps } = s := by
  have hlen : c < s.sps.length := by omega
  refine ⟨_, next_congr (if_pos ⟨State.running_of_run hr, hj, hc, he, ht, hk⟩), ?_⟩
  dsimp only
  rw [State.sp_setSp s _ hlen]
  cases alt <;> exact ⟨rfl, rfl, rfl⟩

theorem exec_shutdownHeld_eq (h : s.sdNonZero = true) :
    exec (.shutdownRequest true) s = .next (s.setFlag F.PWR_STATUS_SD_PENDING true).shutdownEdge :=
  next_congr ((if_neg (by rw [State.running_of_run hr]; decide)).trans ((if_pos rfl).trans (if_pos h)))

omit hr in
/-- The state in which a shutdown is pending. -/
theorem State.sdPending_shows (b : Bool) : (s.setFlag F.PWR_STATUS_SD_PENDING b).flag F.PWR_STATUS_SD_PENDING = b ∧
    (s.setFlag F.PWR_STATUS_SD_PENDING b).flag F.SAF_STATUS_STANDSTILL = s.flag F.SAF_STATUS_STANDSTILL ∧
    (s.setFlag F.PWR_STATUS_SD_PENDING b).mode = s.mode ∧
    s.OnlyRegs [F.PWR_STATUS_SD_PENDING.addr] (s.setFlag F.PWR_STATUS_SD_PENDING b) ∧
    { s.setFlag F.PWR_STATUS_SD_PENDING b with regs := s.regs } = s :=
  ⟨State.flag_setFlag_same _ _ _ rfl, State.flag_setFlag_apart _ _ _ _ rfl (by decide),
    State.mode_congr rfl (State.getF_setFlag_apart _ _ _ _ rfl (by decide)), (State.OnlyRegs.refl _ s).setFlag _ _ (by simp), rfl⟩

theorem State.shutdownStill_shows (h : s.sdNonZero = true) (hs : s.flag F.SAF_STATUS_STANDSTILL = true)
    (hm : s.mode ∈ [.shadow, .lead, .leadDegraded, .limp]) : ∃ t, exec (.shutdownRequest true) s = .next t ∧ t.mode = .safeHold := by
  obtain ⟨h1, h2, h3, -, h5⟩ := State.sdPending_shows (s := s) true
  have hp : (s.setFlag F.PWR_STATUS_SD_PENDING true).sys.phase = .run := hr
  refine ⟨_, exec_shutdownHeld_eq hr h, ?_⟩
  generalize s.setFlag F.PWR_STATUS_SD_PENDING true = u at h1 h2 h3 h5 hp
  unfold State.shutdownEdge
  rw [if_pos (by rw [h1, h2, hs, h3, List.contains_iff_mem.2 hm]; rfl)]
  exact u.enterMode_mode _ _ _ (by rw [hp]; decide)

theorem State.shutdownMoving_shows (h : s.sdNonZero = true) (hs : s.flag F.SAF_STATUS_STANDSTILL = false) :
    ∃ t, exec (.shutdownRequest true) s = .next t ∧ t.flag F.PWR_STATUS_SD_PENDING = true ∧ t.mode = s.mode ∧
      s.OnlyRegs [F.PWR_STATUS_SD_PENDING.addr] t ∧ { t with regs := s.regs } = s := by
  obtain ⟨h1, h2, h3, h4, h5⟩ := State.sdPending_shows (s := s) true
  refine ⟨_, exec_shutdownHeld_eq hr h, ?_⟩
  generalize s.setFlag F.PWR_STATUS_SD_PENDING true = u at h1 h2 h3 h4 h5
  unfold State.shutdownEdge
  rw [if_neg (by rw [h2, hs]; simp)]
  exact ⟨h1, h3, h4, h5⟩

/-- What the release of PWR_REQ stores in the Ember domain (R465). -/
theorem State.dormantRelease_shows (elapsed : Nat) (hm : s.mode = .safeHold) (hp : s.flag F.PWR_STATUS_SD_PENDING = true)
    (hq : s.ash.queue = []) (hv : s.ember.vbat = true) :
    ∃ t, exec (.dormantRelease elapsed false) s = .next t ∧ t.ember.pwrReq = false ∧ { t with ember := s.ember } = s ∧
      t.ember.snapFlue = s.flu.time ∧ t.ember.snapRtc = (s.ember.rtc + elapsed) % 2 ^ 48 ∧
      t.ember.alarm = (if s.getF F.PWR_ALARM_PERIOD = 0 then none else
        some (((s.ember.rtc + elapsed) % 2 ^ 48 + s.getF F.PWR_ALARM_PERIOD * 32768) % 2 ^ 48)) := by
  have hrtc : s.rtcRun elapsed = { s with ember := { s.ember with rtc := (s.ember.rtc + elapsed) % 2 ^ 48 } } := if_pos hv
  refine ⟨_, next_congr ((if_pos ⟨State.running_of_run hr, hm, hp, hq, hv⟩).trans (if_neg (by simp))), ?_⟩
  dsimp only
  rw [hrtc]
  exact ⟨rfl, rfl, rfl, rfl, rfl⟩

end

/-- Settles O46: each command by its condition; the shutdown at standstill by what entry into a mode shows. -/
theorem shutdownSequence : Obligations.ShutdownSequence := by
  unfold Obligations.ShutdownSequence
  intro s hr
  have hrun := State.running_of_run hr
  refine ⟨fun c alt hj hc hl he ht hk => State.spTimeout_shows hr hj hc hl he ht hk,
    fun h => ⟨fun hs hm => State.shutdownStill_shows hr h hs hm, fun hs => State.shutdownMoving_shows hr h hs⟩, fun hh => ?_, fun hh => ?_,
    fun elapsed hm hp hq hv => State.dormantRelease_shows hr elapsed hm hp hq hv⟩
  · obtain ⟨h1, -, -, h4, h5⟩ := State.sdPending_shows (s := s) false
    exact ⟨_, next_congr ((if_neg (by rw [hrun]; decide)).trans ((if_neg (by simp)).trans (if_neg (by simp [hh])))), h1, h4, h5⟩
  · exact next_congr ((if_neg (by rw [hrun]; decide)).trans ((if_neg (by simp)).trans (if_pos hh)))

end Sys2Proof.Machine
end

section
/-!
# The election and the timed edges
-/
namespace Sys2Proof.Machine

open Sys2Proof

/-! ### The election and the timed edges -/

theorem State.requestMode_first (s : State) (m : Mode) (c n : Nat) (h : s.sys.next = []) :
    s.requestMode m c n = { s with sys := { s.sys with next := [(m, c, n)] } } := by
  unfold State.requestMode
  rw [h]
  rfl

section
variable {s : State} (hr : s.sys.phase = .run)
include hr

section
variable (hm : s.mode = .join) (hf : s.flu.integ = .synced)
include hm hf

theorem exec_election_synced : exec .election s = .next (if s.topology ≤ 1 then s.requestMode .lead 0 0
    else if s.heardNow.any (fun f => decide (f.role = 2)) then s.requestMode .shadow 0 0
    else if s.heardNow.any (fun f => decide (f.role < 2) && decide (f.id < s.ownId)) then s.requestMode .shadow 0 0
    else s.requestMode .lead 0 0) := by
  refine next_congr (if_neg ?_)
  rw [State.running_of_run hr, hm, hf]
  decide

theorem State.election_lone (hn : s.sys.next = []) (ht : s.topology ≤ 1) :
    exec .election s = .next { s with sys := { s.sys with next := [(.lead, 0, 0)] } } := by
  rw [exec_election_synced hr hm hf, if_pos ht, State.requestMode_first _ _ _ _ hn]

theorem State.election_shadow (hn : s.sys.next = []) (ht : 2 ≤ s.topology)
    (h : ∃ f ∈ s.heardNow, f.role = 2 ∨ f.role < 2 ∧ f.id < s.ownId) :
    exec .election s = .next { s with sys := { s.sys with next := [(.shadow, 0, 0)] } } := by
  rw [exec_election_synced hr hm hf, if_neg (by omega), ← State.requestMode_first _ _ _ _ hn]
  split
  · rfl
  · next hlead =>
    refine congrArg _ (if_pos ?_)
    obtain ⟨f, hmem, hrole⟩ := h
    rcases hrole with h2 | ⟨h2, hid⟩
    · exact absurd (List.any_eq_true.2 ⟨f, hmem, decide_eq_true h2⟩) hlead
    · exact List.any_eq_true.2 ⟨f, hmem, by rw [decide_eq_true h2, decide_eq_true hid]; rfl⟩

theorem State.election_lead (hn : s.sys.next = []) (ht : 2 ≤ s.topology)
    (h : ∀ f ∈ s.heardNow, f.role ≠ 2 ∧ (f.role < 2 → s.ownId ≤ f.id)) :
    exec .election s = .next { s with sys := { s.sys with next := [(.lead, 0, 0)] } } := by
  have h1 : ¬ s.heardNow.any (fun f => decide (f.role = 2)) = true := by
    rw [List.any_eq_true]
    rintro ⟨f, hmem, hrole⟩
    exact (h f hmem).1 (of_decide_eq_true hrole)
  have h2 : ¬ s.heardNow.any (fun f => decide (f.role < 2) && decide (f.id < s.ownId)) = true := by
    rw [List.any_eq_true]
    rintro ⟨f, hmem, hrole⟩
    rw [Bool.and_eq_true, decide_eq_true_eq, decide_eq_true_eq] at hrole
    have := (h f hmem).2 hrole.1
    omega
  rw [exec_election_synced hr hm hf, if_neg (by omega), if_neg h1, if_neg h2, State.requestMode_first _ _ _ _ hn]

end

theorem State.joinTimeout_shows (hm : s.mode = .join) :
    ∃ t, exec .joinTimeout s = .next t ∧ t.mode = .safeHold ∧ t.getF F.SYS_MODE_PREV_MODE = Mode.join.code := by
  obtain ⟨-, h2, -⟩ := s.enterMode_shows .safeHold 0 0
  exact ⟨_, next_congr (if_pos ⟨State.running_of_run hr, hm⟩), s.enterMode_mode _ _ _ (by rw [hr]; decide), h2.trans (by rw [hm])⟩

theorem State.standstillHold_shows (hm : s.mode = .stopping) (hs : s.flag F.SAF_STATUS_STANDSTILL = true)
    (hv : s.getF (F.GDR_SOL_STAT_STATE (s.getF F.LDS_CFG_RELEASE_CH)) ≠ 1) :
    ∃ t, exec .standstillHoldExpiry s = .next t ∧ t.mode = .safeHold := by
  have hoff : s.valveOff = true := by
    unfold State.valveOff
    rw [decide_eq_true hv, Bool.or_true]
  exact ⟨_, next_congr (if_pos ⟨State.running_of_run hr, hm, hs, hoff⟩), s.enterMode_mode _ _ _ (by rw [hr]; decide)⟩

/-- A handover that timed out, before XDIS_OUT follows (R376). -/
def State.handoverFailed (s : State) : State :=
  ((({ s with lds := { s.lds with hoTarget := 0 } } : State).setFlag F.LDS_STATUS_HO_PENDING false).incF F.LDS_HO_FAIL_CNT_COUNT).event
    Ev.lds 4

theorem State.handoverTimeout_shows (hm : s.mode.isLead = true) (hp : s.flag F.LDS_STATUS_HO_PENDING = true) (hh : s.gdr.hoRelease = false)
    (hc : s.lds.hoCycle + s.getF F.LDS_CFG_HO_TIMEOUT ≤ s.flu.cycle) :
    ∃ t, exec .handoverTimeout s = .next t ∧ t.flag F.LDS_STATUS_HO_PENDING = false ∧ t.lds.hoTarget = 0 ∧ t.mode = s.mode ∧
      t.getF F.LDS_HO_FAIL_CNT_COUNT = min (2 ^ 32 - 1) (s.getF F.LDS_HO_FAIL_CNT_COUNT + 1) ∧ s.SameStores t := by
  have hw : s.Within [0x4011] s.handoverFailed :=
    ((((State.Within.refl _ s).hidden ..).setFlag _ _ (by decide)).incF _ (by decide)).event _ _ (by decide)
  have hflag : s.handoverFailed.flag F.LDS_STATUS_HO_PENDING = false := by
    unfold State.handoverFailed
    rw [State.flag_event_other _ _ _ _ (by decide), State.flag_incF_apart _ _ _ rfl (by decide), State.flag_setFlag_same _ _ _ rfl]
  have hcount : s.handoverFailed.getF F.LDS_HO_FAIL_CNT_COUNT = min (2 ^ 32 - 1) (s.getF F.LDS_HO_FAIL_CNT_COUNT + 1) := by
    refine (State.getF_incF_event _ _ _ _ rfl (by decide)).trans ?_
    rw [State.getF_setFlag_apart _ _ _ _ rfl (by decide)]
    rfl
  have hlds : s.handoverFailed.lds.hoTarget = 0 := by
    unfold State.handoverFailed
    rw [State.event_lds, State.incF_lds, State.setFlag_lds]
  have hphase : s.handoverFailed.sys.phase = s.sys.phase := by
    unfold State.handoverFailed
    rw [State.event_sys, State.incF_sys, State.setFlag_sys]
  refine ⟨s.handoverFailed.refreshXdis, next_congr (if_pos ⟨State.running_of_run hr, hm, hp, hh, hc⟩), ?_⟩
  generalize s.handoverFailed = u at hw hflag hcount hlds hphase
  have hx (g : Fld) (h1 : F.GDR_XDIS_OUT.apart g = true) (h2 : F.LDS_XDIS_OUT_LOW.apart g = true) : u.refreshXdis.getF g = u.getF g :=
    (State.getF_setFlag_apart _ _ _ _ rfl h2).trans (State.getF_setFlag_apart _ _ _ _ rfl h1)
  have hxw : u.Within [0x400B, 0x4011] u.refreshXdis := (((State.Within.refl _ u).hidden ..).setFlag _ _ (by decide)).setFlag _ _ (by decide)
  have hall := (hw.mono (cs := [0x400B, 0x4011]) (by decide)).trans hxw
  exact ⟨(State.flag_congr (hx _ (by decide) (by decide))).trans hflag, hlds, hall.mode (by decide) hphase,
    (hx _ (by decide) (by decide)).trans hcount, hall.2⟩

end

/-- Settles O23: the election by its four cases, the timed edges by what entry into SAFE-HOLD shows. -/
theorem electionAndExpiries : Obligations.ElectionAndExpiries := by
  unfold Obligations.ElectionAndExpiries
  refine ⟨fun s hr hm hf hn => ⟨State.election_lone hr hm hf hn, State.election_shadow hr hm hf hn, State.election_lead hr hm hf hn⟩,
    fun s hr => ⟨State.joinTimeout_shows hr, State.standstillHold_shows hr, State.handoverTimeout_shows hr, fun hm hi hn => ?_, fun hl => ?_⟩⟩
  · exact next_congr ((if_pos ⟨State.running_of_run hr, hm, hi⟩).trans (State.requestMode_first _ _ _ _ hn))
  · exact ⟨_, next_congr (if_pos ⟨State.running_of_run hr, hl⟩), State.flag_setFlag_same _ _ _ rfl, (State.OnlyRegs.refl _ s).setFlag _ _ (by simp), rfl⟩

end Sys2Proof.Machine
end

section
/-!
# A raise with its action
-/
namespace Sys2Proof.Machine

open Sys2Proof

/-! ### A raise with its action -/

/-- A raise before its action (R437, R438): recorded, its wait begun, the journal frozen where the source asks for it. -/
def State.raiseNoted (s : State) (n : Nat) : State := ((s.fltRecord n).startWait n).fltFreezeAct n

theorem State.doRaise_eq (s : State) (n : Nat) (us : Option Nat) : s.doRaise n us = ((s.raiseNoted n).fltAct n us).brakeRelease := rfl

theorem State.confined_raiseNoted (s : State) (n : Nat) (hn : n < 256) : s.Confined raiseBlocks (s.raiseNoted n) := by
  have h : ∀ b ∈ [0x4003], b ∈ raiseBlocks := by decide
  exact (((State.confined_fltRecord s n hn).mono h).trans ((State.confined_startWait _ n hn).mono h)).trans (State.confined_fltFreezeAct _ n)

theorem State.raiseNoted_action (s : State) (n : Nat) (hn : n < 256) : (s.raiseNoted n).fltAction n = s.fltAction n := by
  have hr := Fld.srcCfg_reaction n hn
  refine State.fltAction_congr ?_
  unfold State.raiseNoted
  rw [State.getF_fltFreezeAct _ _ _ (by simp only [F.FLT_SRC_REACTION]; omega) (by simp only [F.FLT_SRC_REACTION]; omega),
    State.getF_startWait_cfg _ _ _ hr, State.getF_fltRecord_cfg _ _ _ hn hr]

/-- A source that comes to be active leaves FLT_REACT. -/
theorem State.getF_setActive_react (s : State) (n : Nat) : (s.setActive n true).getF F.FLT_REACT_ACTION = s.getF F.FLT_REACT_ACTION := by
  have h1 : (F.FLT_ACTIVE_ACTIVE (n / 32)).addr ≠ F.FLT_REACT_ACTION.addr := by simp only [F.FLT_ACTIVE_ACTIVE, F.FLT_REACT_ACTION]; omega
  have h2 : (F.FLT_SRC_ACTIVE n).addr ≠ F.FLT_REACT_ACTION.addr := by simp only [F.FLT_SRC_ACTIVE, F.FLT_REACT_ACTION]; omega
  unfold State.setActive
  dsimp only
  split
  · rfl
  · rw [if_pos rfl, State.getF_setF_apart _ _ _ _ (by decide) (by decide),
      State.getF_setFlag_apart _ _ _ _ rfl ((Fld.apart_iff _ _).2 (.inl h2)),
      State.getF_setF_apart _ _ _ _ rfl ((Fld.apart_iff _ _).2 (.inl h1))]

theorem State.raiseNoted_react (s : State) (n : Nat) : (s.raiseNoted n).getF F.FLT_REACT_ACTION = s.getF F.FLT_REACT_ACTION := by
  have hc : (classCounter (s.fltClass n)).addr ≠ F.FLT_REACT_ACTION.addr := by
    have := classCounter_cases (s.fltClass n)
    simp only [List.mem_cons, List.not_mem_nil, or_false] at this
    rcases this with h | h | h <;> rw [h] <;> decide
  have hs : (F.FLT_STICKY_STICKY (n / 32)).addr ≠ F.FLT_REACT_ACTION.addr := by simp only [F.FLT_STICKY_STICKY, F.FLT_REACT_ACTION]; omega
  have hfreeze (u : State) : (u.fltFreezeAct n).getF F.FLT_REACT_ACTION = u.getF F.FLT_REACT_ACTION := by
    have ht : (u.trigger 1 n).getF F.FLT_REACT_ACTION = u.getF F.FLT_REACT_ACTION := (State.confined_trigger u 1 n).getF _ (by decide)
    unfold State.fltFreezeAct
    refine State.getF_when _ _ _ _ ((State.getF_when _ _ _ _ ?_).trans ht)
    exact State.getF_setFlag_apart _ _ _ _ (by decide) (by decide)
  unfold State.raiseNoted
  rw [hfreeze, State.getF_startWait_low _ _ _ (by decide), State.getF_fltRecord_low _ _ _ (by decide) (by decide)]
  unfold State.recorded
  rw [State.getF_setReg_other _ _ _ _ (by decide)]
  exact (State.getF_congr (State.reg_setF_other _ _ _ _ hc)).trans
    ((State.getF_setActive_react _ n).trans (State.getF_congr (State.reg_setF_other _ _ _ _ hs)))

/-- What the action of a raise makes of the noted state, it makes of it through the brake release and the settling. -/
theorem State.faultRaise_cases (s : State) (n us : Nat) (lasting : Bool) (hr : s.sys.phase = .run) (hn : n < 256) (ha : s.asserted n = false) :
    ∃ u, (∃ l, u = { s with flt := l }) ∧ (exec (.faultRaise n lasting us) s = .next (u.doRaise n (some us)) ∨
      exec (.faultRaise n lasting us) s = .next ((u.doRaise n (some us)).settle n)) := by
  have he : exec (.faultRaise n lasting us) s = .next (if lasting then s.levelTimed n (some us) else s.raiseTimed n (some us)) :=
    next_congr (if_neg (by rw [State.running_of_run hr]; simpa using hn))
  rw [he]
  cases lasting
  · have hd : s.raiseTimed n (some us) = (s.doRaise n (some us)).settle n := if_neg (by rw [ha]; decide)
    exact ⟨s, ⟨s.flt, rfl⟩, .inr (congrArg _ hd)⟩
  · obtain ⟨l, hl⟩ := s.levelTimed_eq n (some us) ha
    exact ⟨_, ⟨l, rfl⟩, .inl (congrArg _ hl)⟩

theorem State.brakeRelease_still {s : State} (h : s.mode ≠ .stopping) : s.brakeRelease = s := if_neg fun k => h k.1

/-- A source whose raise takes an action, and what is so before the action (R439, R440). -/
structure State.Acts (s v : State) (n a : Nat) : Prop where
  within : s.Within raiseBlocks v
  sys : v.sys = s.sys
  mode : v.mode = s.mode
  action : v.fltAction n = a
  react : v.getF F.FLT_REACT_ACTION ≤ a

/-- A raise runs to the action of the source from a state that its record alone has changed. -/
theorem State.faultRaise_acts (s : State) (n us a : Nat) (lasting : Bool) (hr : s.sys.phase = .run) (hn : n < 256) (ha : s.asserted n = false)
    (hact : s.fltAction n = a) (hre : s.getF F.FLT_REACT_ACTION ≤ a) :
    ∃ v, s.Acts v n a ∧ (exec (.faultRaise n lasting us) s = .next (v.takeAction n a (some us)).brakeRelease ∨
      exec (.faultRaise n lasting us) s = .next ((v.takeAction n a (some us)).brakeRelease.settle n)) := by
  obtain ⟨u, ⟨l, rfl⟩, he⟩ := s.faultRaise_cases n us lasting hr hn ha
  have hc := State.confined_raiseNoted { s with flt := l } n hn
  have hacts : s.Acts (State.raiseNoted { s with flt := l } n) n a :=
    { within := ((State.Within.refl _ s).hidden ..).trans hc.within
      sys := hc.sys
      mode := hc.mode (by decide)
      action := (State.raiseNoted_action _ n hn).trans hact
      react := (State.raiseNoted_react { s with flt := l } n).trans_le hre }
  refine ⟨_, hacts, ?_⟩
  rw [State.doRaise_eq] at he
  unfold State.fltAct at he
  rwa [hacts.action] at he

theorem State.takeAction_taken (v : State) {n a : Nat} (us : Option Nat) (h0 : a ≠ 0) (hre : v.getF F.FLT_REACT_ACTION ≤ a) :
    (a = 6 → v.mode.isLead = true ∨ v.mode = .shadow ∨ v.mode = .selfTest → v.takeAction n a us = (v.nowActing n).reactSafeHold n us) ∧
      (a = 3 → v.mode = .lead → v.takeAction n a us = (v.requestMode .leadDegraded 1 n).nowActing n) ∧
      (a = 4 → v.mode = .lead ∨ v.mode = .leadDegraded → v.takeAction n a us = (v.requestMode .limp 1 n).nowActing n) ∧
      (a = 5 → v.mode = .lead ∨ v.mode = .leadDegraded ∨ v.mode = .limp → v.takeAction n a us = (v.requestMode .stopping 1 n).nowActing n) ∧
      (a = 7 → v.mode.isLead = true ∨ v.mode = .shadow → v.takeAction n a us = v.doReset .fatal) := by
  have hnot : ¬(a = 0 ∨ a < v.getF F.FLT_REACT_ACTION) := by omega
  unfold State.takeAction
  rw [if_neg hnot]
  refine ⟨?_, ?_, ?_, ?_, ?_⟩ <;> rintro rfl
  · generalize v.mode = m
    cases m <;> simp [Mode.isLead]
  · intro hm
    rw [hm]
    rfl
  · rintro (hm | hm) <;> rw [hm] <;> rfl
  · rintro (hm | hm | hm) <;> rw [hm] <;> rfl
  · generalize v.mode = m
    cases m <;> simp [Mode.isLead]

theorem State.nowActing_shows (s : State) (n : Nat) :
    s.Within raiseBlocks (s.nowActing n) ∧ (s.nowActing n).sys = s.sys ∧ (s.nowActing n).mode = s.mode := by
  have hc : s.Confined [0x4003] (s.nowActing n) := (State.confined_flt _ s _).trans (State.confined_refreshReact _)
  exact ⟨hc.within.mono (by decide), hc.sys, hc.mode (by decide)⟩

/-- After an action that neither resets nor leaves STOPPING to the brake, the source settles. -/
theorem State.settled_shows {s t : State} {n : Nat} {i : Instr} (hn : n < 256) (hm : t.mode ≠ .stopping)
    (he : exec i s = .next t.brakeRelease ∨ exec i s = .next (t.brakeRelease.settle n)) :
    ∃ w, exec i s = .next w ∧ t.Confined [0x4003] w := by
  rw [State.brakeRelease_still hm] at he
  rcases he with he | he
  · exact ⟨_, he, .refl _ t⟩
  · exact ⟨_, he, State.confined_settle t n hn⟩

/-- A raise whose action asks for a mode at the next boundary (R439). -/
theorem State.requests_shows {s v : State} {n us a : Nat} {lasting : Bool} {m : Mode} (hn : n < 256) (hv : s.Acts v n a) (hm : s.mode ≠ .stopping)
    (hnext : s.sys.next = []) (ht : v.takeAction n a (some us) = (v.requestMode m 1 n).nowActing n)
    (he : exec (.faultRaise n lasting us) s = .next (v.takeAction n a (some us)).brakeRelease ∨
      exec (.faultRaise n lasting us) s = .next ((v.takeAction n a (some us)).brakeRelease.settle n)) :
    ∃ t, exec (.faultRaise n lasting us) s = .next t ∧ t.mode = s.mode ∧ t.sys.next = [(m, 1, n)] ∧
      s.SameRegs raiseBlocks t ∧ s.SameStores t := by
  have hreq : v.requestMode m 1 n = { v with sys := { v.sys with next := [(m, 1, n)] } } :=
    State.requestMode_first _ _ _ _ (by rw [hv.sys]; exact hnext)
  have hw : v.Within raiseBlocks (v.requestMode m 1 n) := by
    rw [hreq]
    exact (State.Within.refl _ v).hidden ..
  have hmode : (v.requestMode m 1 n).mode = v.mode := by
    rw [hreq]
    rfl
  have hnx : (v.requestMode m 1 n).sys.next = [(m, 1, n)] := by rw [hreq]
  rw [ht] at he
  generalize v.requestMode m 1 n = u at he hw hmode hnx
  obtain ⟨k1, k2, k3⟩ := u.nowActing_shows n
  have hum : (u.nowActing n).mode = s.mode := k3.trans (hmode.trans hv.mode)
  obtain ⟨w, hw1, hw2⟩ := State.settled_shows hn (by rw [hum]; exact hm) he
  have hall := ((hv.within.trans hw).trans k1).trans (hw2.within.mono (by decide))
  exact ⟨w, hw1, (hw2.mode (by decide)).trans hum, (congrArg Sys.next hw2.sys).trans ((congrArg Sys.next k2).trans hnx), hall.1, hall.2⟩

/-- A raise that resets (R439, R31). -/
theorem State.resets_shows {s v : State} {n us : Nat} {lasting : Bool} (hr : s.sys.phase = .run) (hn : n < 256) (hv : s.Acts v n 7)
    (ht : v.takeAction n 7 (some us) = v.doReset .fatal)
    (he : exec (.faultRaise n lasting us) s = .next (v.takeAction n 7 (some us)).brakeRelease ∨
      exec (.faultRaise n lasting us) s = .next ((v.takeAction n 7 (some us)).brakeRelease.settle n)) :
    ∃ t, exec (.faultRaise n lasting us) s = .next t ∧ t.sys.phase = .held ∧ t.mode = .load ∧ t.reg 0x40000018 = 0x10 := by
  rw [ht, State.doReset_powered v .fatal (.inl (by rw [hv.sys]; exact hr))] at he
  have hm := v.resetWith_mode .fatal
  obtain ⟨w, hw1, hw2⟩ := State.settled_shows hn (by rw [hm]; decide) he
  exact ⟨w, hw1, (congrArg Sys.phase hw2.sys).trans (v.resetWith_phase .fatal), (hw2.mode (by decide)).trans hm,
    (hw2.1 _ (by decide)).trans (v.resetWith_cause .fatal)⟩

theorem AGE_blocks (m : Nat) (hm : m < 7) : (F.AGE_VALUE_VALUE m).addr / 0x10000 = 0x4014 ∧ (F.AGE_BUDGET_PERMILLE m).addr / 0x10000 = 0x4014 := by
  simp only [F.AGE_VALUE_VALUE, F.AGE_BUDGET_PERMILLE]
  omega

theorem State.raiseInHold_confined (s : State) (n : Nat) (hn : n < 256) : s.Confined raiseBlocks (s.raiseInHold n) :=
  State.confined_when _ _ _ _ ((State.confined_raiseNoted s n hn).trans ((State.confined_settle _ n hn).mono (by decide)))

/-- The end of SELF-TEST sets margins, budgets and the record, and raises what `low` raises (R519, R520). -/
theorem State.Touches.closeMargins {α : Type} {π : State → α} {P : Nat → Prop} {r s : State} (hs : r.Touches P π s)
    (hage : ∀ s x, π { s with age := x } = π s) (hash : ∀ s x, π { s with ash := x } = π s) (hP : ∀ a, a / 0x10000 = 0x4014 → P a)
    {low : State → State} (hlow : ∀ u, r.Touches P π u → r.Touches P π (low u)) (b : Bool) : r.Touches P π (s.closeMargins low b) := by
  have hbudget (m v : Nat) (hm : m < 7) (u : State) (hu : r.Touches P π u) : r.Touches P π (u.setBudgetBy low m v) := by
    have h1 := hu.setF (F.AGE_BUDGET_PERMILLE m) v (hP _ (AGE_blocks m hm).2)
    unfold State.setBudgetBy
    dsimp only
    split
    · exact hlow _ ((h1.incF _ (hP _ (by decide))).event _ _ (hP _ (by decide)))
    · exact h1
  unfold State.closeMargins
  split
  · exact hs
  · dsimp only
    refine State.Touches.hidden ?_ ((State.Within.refl _ _).hidden ..) (hash _ _)
    refine State.Touches.each ?_ _ _ fun u m hm hu => hbudget m _ (List.mem_range.1 hm) u hu
    refine State.Touches.setReg (State.Touches.setReg ?_ _ _ (hP _ (by decide))) _ _ (hP _ (by decide))
    exact hs.hidden ((State.Within.refl _ s).hidden ..) (hage s _)


theorem State.reactTime_mode (s : State) (us : Option Nat) : (s.reactTime us).mode = s.mode := by
  have hnote (u : State) (a b : Nat) (c : Bool) (hu : u.mode = s.mode) : (((u.setF F.SAF_REACT_LAST_US a).peakF F.SAF_REACT_MAX_US b).when c (fun s =>
      ((s.incF F.SAF_REACT_OVERRUN_CNT_COUNT).event Ev.saf 8).raiseInHold Src.reactOverrun)).mode = s.mode := by
    have h0 := ((State.Touches.refl blind_sys behindMode u).setF F.SAF_REACT_LAST_US a (by decide)).peakF F.SAF_REACT_MAX_US b (by decide)
    have h1 := h0.when c (fun s => ((s.incF F.SAF_REACT_OVERRUN_CNT_COUNT).event Ev.saf 8).raiseInHold Src.reactOverrun) fun v hv =>
      ((hv.incF _ (by decide)).event _ _ (by decide)).confined (State.raiseInHold_confined _ _ (by decide)) (behindMode_of_blocks (by decide))
    exact (h1.mode (by decide) (congrArg Sys.phase h1.same)).trans hu
  unfold State.reactTime
  cases us with
  | some v => exact hnote s _ _ _ rfl
  | none => exact hnote { s with free := s.free + 1 } _ _ _ rfl

/-- The end of SELF-TEST under a SAFE-HOLD reaction leaves the phase. -/
theorem State.closeMargins_phase (s : State) (b : Bool) :
    (s.closeMargins (fun s => s.raiseInHold Src.marginLow) b).sys.phase = s.sys.phase := by
  have h := (State.Touches.refl blind_sys (fun _ => True) s).closeMargins (fun _ _ => rfl) (fun _ _ => rfl) (fun _ _ => trivial)
    (low := fun s => s.raiseInHold Src.marginLow) (fun u hu => hu.confined (State.raiseInHold_confined u _ (by decide)) fun _ _ => trivial) b
  exact congrArg Sys.phase h.same

theorem State.reactSafeHold_mode (s : State) (n : Nat) (us : Option Nat) (hp : s.sys.phase = .run) : (s.reactSafeHold n us).mode = .safeHold := by
  have hclosed : (s.when (decide (s.mode = .selfTest)) (fun s => s.closeMargins (fun s => s.raiseInHold Src.marginLow) false)).sys.phase ≠ .off := by
    rcases State.when_cases s (decide (s.mode = .selfTest)) (fun s => s.closeMargins (fun s => s.raiseInHold Src.marginLow) false) with
      ⟨-, h⟩ | ⟨-, h⟩ <;> rw [h]
    · rw [State.closeMargins_phase, hp]
      decide
    · rw [hp]
      decide
  unfold State.reactSafeHold
  generalize s.when (decide (s.mode = .selfTest)) (fun s => s.closeMargins (fun s => s.raiseInHold Src.marginLow) false) = u at hclosed ⊢
  have hm := u.enterMode_mode .safeHold 1 n hclosed
  generalize u.enterMode .safeHold 1 n = v at hm ⊢
  rcases State.when_cases v s.mode.isLead (fun s => s.reactTime us) with ⟨-, h⟩ | ⟨-, h⟩ <;> rw [h]
  · exact (v.reactTime_mode us).trans hm
  · exact hm

/-- A raise whose action is SAFE_HOLD (R439, R416). -/
theorem State.holds_shows {s v : State} {n us : Nat} {lasting : Bool} (hr : s.sys.phase = .run) (hn : n < 256) (hv : s.Acts v n 6)
    (ht : v.takeAction n 6 (some us) = (v.nowActing n).reactSafeHold n (some us))
    (he : exec (.faultRaise n lasting us) s = .next (v.takeAction n 6 (some us)).brakeRelease ∨
      exec (.faultRaise n lasting us) s = .next ((v.takeAction n 6 (some us)).brakeRelease.settle n)) :
    ∃ t, exec (.faultRaise n lasting us) s = .next t ∧ t.mode = .safeHold := by
  obtain ⟨-, k2, -⟩ := v.nowActing_shows n
  have hm := (v.nowActing n).reactSafeHold_mode n (some us) (by rw [k2, hv.sys]; exact hr)
  rw [ht] at he
  obtain ⟨w, hw1, hw2⟩ := State.settled_shows hn (by rw [hm]; decide) he
  exact ⟨w, hw1, (hw2.mode (by decide)).trans hm⟩

/-- Settles O10: the raise runs to its action from the recorded state; by the action it enters SAFE-HOLD, asks for a mode or resets. -/
theorem faultActions : Obligations.FaultActions := by
  unfold Obligations.FaultActions
  intro s n us lasting hr hn ha hre
  have acts (a : Nat) (h : s.fltAction n = a) := s.faultRaise_acts n us a lasting hr hn ha h (h ▸ hre)
  have taken {v : State} {a : Nat} (hv : s.Acts v n a) (h0 : a ≠ 0) := v.takeAction_taken (n := n) (some us) h0 hv.react
  refine ⟨fun h hm => ?_, fun h hm hx => ?_, fun h hm hx => ?_, fun h hm hx => ?_, fun h hm => ?_⟩
  · obtain ⟨v, hv, he⟩ := acts 6 h
    exact State.holds_shows hr hn hv ((taken hv (by decide)).1 rfl (by rw [hv.mode]; exact hm)) he
  · obtain ⟨v, hv, he⟩ := acts 3 h
    obtain ⟨t, h1, h2, h3⟩ := State.requests_shows hn hv (by rw [hm]; decide) hx ((taken hv (by decide)).2.1 rfl (hv.mode.trans hm)) he
    exact ⟨t, h1, h2.trans hm, h3⟩
  · obtain ⟨v, hv, he⟩ := acts 4 h
    exact State.requests_shows hn hv (by rcases hm with h | h <;> rw [h] <;> decide) hx
      ((taken hv (by decide)).2.2.1 rfl (by rw [hv.mode]; exact hm)) he
  · obtain ⟨v, hv, he⟩ := acts 5 h
    exact State.requests_shows hn hv (by rcases hm with h | h | h <;> rw [h] <;> decide) hx
      ((taken hv (by decide)).2.2.2.1 rfl (by rw [hv.mode]; exact hm)) he
  · obtain ⟨v, hv, he⟩ := acts 7 h
    exact State.resets_shows hr hn hv ((taken hv (by decide)).2.2.2.2 rfl (by rw [hv.mode]; exact hm)) he

end Sys2Proof.Machine
end

section
/-!
# REPLAY entered with a stray execution
-/
namespace Sys2Proof.Machine

open Sys2Proof

/-- A device in SERVICE with one empty WINDOW record on the MRAM, and in its graph an execution on a hob it has not: the
engine state word of hob 229326 would stand at JRN_REPLAY_STAT. -/
def State.strayExec : State :=
  { State.inMode .service [(F.SYS_STATUS_IMG_VALID, 1), (F.ASH_SIZE_BYTES, 0x2000)] with
    mram := Mem.write 0 [] 0x1000 (ashRecord { type := 4, flags := 0, body := [], tick := 0, time := 0 } 1 (ashCommit 1))
    gr := { exec := [{ hob := 229326, inst := 0, copyB := false }] } }

/-- Refutes O40: REPLAY is entered with RESULT 1, but the graph stops as the mode is entered, and an execution recorded on a hob
outside the array is set idle at an address that is RESULT's own. -/
theorem not_serviceModes : ¬ Obligations.ServiceModes := by
  unfold Obligations.ServiceModes
  intro h
  obtain ⟨-, hservice, -⟩ := h State.strayExec default (by decide +kernel)
  obtain ⟨-, -, -, hwindow⟩ := hservice (by decide +kernel)
  obtain ⟨hdigest, -⟩ := hwindow 0x1000 (by decide +kernel) (by decide +kernel)
  obtain ⟨t, ht, -, hresult, -⟩ := hdigest (by decide +kernel)
  rw [← Host.Outcome.next.inj ht] at hresult
  exact absurd hresult (by decide +kernel)

end Sys2Proof.Machine
end

section
/-!
# SELF-TEST and its ends
-/
namespace Sys2Proof.Machine

open Sys2Proof

/-! ### SELF-TEST ends where it is, or in SAFE-HOLD -/

/-- The blocks that the units of a self-test write: collector, comparators, motors, gate drive, converters, safety, Ash record, journal and
ageing. -/
def testBlocks : List Nat := [0x4003, 0x4004, 0x400A, 0x400B, 0x400C, 0x4011, 0x4012, 0x4013, 0x4014]

/-- What a self-test keeps in view: `K` depends on nothing that the units write, which stay within the registers `P`, outside SYS_MODE. -/
structure State.Watch (P : Nat → Prop) (K : State → Prop) : Prop where
  blocks : ∀ a, a / 0x10000 ∈ testBlocks → P a
  mode : ¬P F.SYS_MODE_MODE.addr
  lbist : ¬P F.BST_LBIST_DONE.addr
  keeps : ∀ u t, u.Touches P (fun s => s.sys.phase) t → t.gdr.xdisIn = u.gdr.xdisIn → K u → K t

/-- SYS_MODE shows SELF-TEST, with `K`, or a fault has ended it in SAFE-HOLD (R504); the die stays in its phase, and the results of LBIST
stay where entry into SAFE-HOLD cannot take them for an engine that executes. -/
structure State.InTest (p : Phase) (lb : Word) (K : State → Prop) (s : State) : Prop where
  phase : s.sys.phase = p
  shows : s.getF F.SYS_MODE_MODE = Mode.safeHold.code ∨ s.getF F.SYS_MODE_MODE = Mode.selfTest.code ∧ K s
  lbist : lb.toNat % 4 ≠ 1 → s.reg F.BST_LBIST_DONE.addr = lb

theorem State.mode_eq_ofCode (s : State) : s.mode = .dormant ∨ s.mode = Mode.ofCode (s.getF F.SYS_MODE_MODE) := by
  unfold State.mode
  split
  · exact .inl rfl
  · exact .inr rfl

theorem blind_phase : State.Blind (fun s : State => s.sys.phase) := enterBlind_phase.blind

theorem testBlocks_of_raise {b : Nat} (h : b ∈ raiseBlocks) : b ∈ testBlocks :=
  (show ∀ b ∈ raiseBlocks, b ∈ testBlocks by decide) b h

/-- Where SYS_MODE shows SELF-TEST or SAFE-HOLD, an action is none, or SAFE_HOLD in SELF-TEST (R439). -/
theorem State.takeAction_inTest (v : State) (n a : Nat) (us : Option Nat)
    (h : v.getF F.SYS_MODE_MODE = Mode.safeHold.code ∨ v.getF F.SYS_MODE_MODE = Mode.selfTest.code) :
    v.takeAction n a us = v ∨ v.takeAction n a us = (v.nowActing n).reactSafeHold n us ∧ v.mode = .selfTest := by
  have hm : v.mode = .dormant ∨ v.mode = .safeHold ∨ v.mode = .selfTest := by
    rcases v.mode_eq_ofCode with hm | hm
    · exact .inl hm
    · rcases h with h | h <;> rw [hm, h]
      · exact .inr (.inl rfl)
      · exact .inr (.inr rfl)
  unfold State.takeAction
  split
  · exact .inl rfl
  · rcases hm with hm | hm | hm <;> rw [hm] <;> dsimp only
    · split <;> simp_all
    · split <;> simp_all
    · split <;> simp_all

theorem State.getF_lbistEngine (s : State) : s.getF (F.HOB_ENGINE_STATE 0x3FFC4) = (s.reg F.BST_LBIST_DONE.addr).toNat % 4 := by
  unfold State.getF Fld.get
  exact congrArg (· % 4) (Nat.div_one _)

/-- The reaction of SELF-TEST enters SAFE-HOLD in the phase it finds, and keeps the results of LBIST. -/
theorem State.reactSafeHold_inTest (s : State) (n : Nat) (us : Option Nat) (hm : s.mode = .selfTest) :
    (s.reactSafeHold n us).getF F.SYS_MODE_MODE = Mode.safeHold.code ∧ (s.reactSafeHold n us).sys.phase = s.sys.phase ∧
      ((s.reg F.BST_LBIST_DONE.addr).toNat % 4 ≠ 1 → (s.reactSafeHold n us).reg F.BST_LBIST_DONE.addr = s.reg F.BST_LBIST_DONE.addr) := by
  have hc : s.Touches (fun a => a ≠ F.BST_LBIST_DONE.addr) (fun s => s.sys.phase)
      (s.closeMargins (fun s => s.raiseInHold Src.marginLow) false) :=
    (State.Touches.refl blind_phase _ s).closeMargins (fun _ _ => rfl) (fun _ _ => rfl) (fun _ ha h => absurd (h ▸ ha) (by decide))
      (fun u hu => hu.confined (State.raiseInHold_confined u _ (by decide)) fun _ ha h => absurd (h ▸ ha) (by decide)) false
  have hreg := hc.regs F.BST_LBIST_DONE.addr (fun h => h rfl)
  unfold State.reactSafeHold
  rw [hm]
  have hp := s.closeMargins_phase false
  obtain ⟨h1, -, h2, -⟩ := State.enterMode_shows (s.closeMargins (fun s => s.raiseInHold Src.marginLow) false) .safeHold 1 n
  refine ⟨h1, h2.trans hp, fun hb => ?_⟩
  refine (State.enterMode_lbist (s.closeMargins (fun s => s.raiseInHold Src.marginLow) false) 1 n ?_).trans hreg
  rw [State.getF_lbistEngine, hreg]
  exact hb

section
variable {P : Nat → Prop} {K : State → Prop} {p : Phase} {lb : Word} (hK : State.Watch P K) {s : State} (hs : s.InTest p lb K)
include hK hs

theorem State.InTest.step {t : State} (h : s.Touches P (fun s => s.sys.phase) t) (hg : t.gdr.xdisIn = s.gdr.xdisIn) : t.InTest p lb K where
  phase := h.same.trans hs.phase
  shows := by
    rw [h.getF _ hK.mode]
    exact hs.shows.imp id fun hs => ⟨hs.1, hK.keeps _ _ h hg hs.2⟩
  lbist hb := (h.regs _ hK.lbist).trans (hs.lbist hb)

theorem State.InTest.confined {bs : List Nat} {t : State} (h : s.Confined bs t) (hb : ∀ b ∈ bs, b ∈ testBlocks)
    (hg : t.gdr.xdisIn = s.gdr.xdisIn) : t.InTest p lb K :=
  State.InTest.step hK hs ((State.Touches.refl blind_phase P s).confined h fun a ha => hK.blocks a (hb _ ha)) hg

theorem State.InTest.setReg (a : Nat) (w : Word) (h : P a) : (s.setReg a w).InTest p lb K :=
  State.InTest.step hK hs ((State.Touches.refl blind_phase P s).setReg a w h) rfl

theorem State.InTest.setF (f : Fld) (v : Nat) (h : P f.addr) : (s.setF f v).InTest p lb K := State.InTest.setReg hK hs _ _ h

theorem State.InTest.setFlag (f : Fld) (b : Bool) (h : P f.addr) : (s.setFlag f b).InTest p lb K := State.InTest.setReg hK hs _ _ h

theorem State.InTest.incF (f : Fld) (h : P f.addr) : (s.incF f).InTest p lb K := State.InTest.setReg hK hs _ _ h

theorem State.InTest.event (e : EvBlk) (b : Nat) (h : P e.ev.addr) : (s.event e b).InTest p lb K :=
  State.InTest.step hK hs ((State.Touches.refl blind_phase P s).event e b h) (congrArg Gdr.xdisIn (s.event_gdr e b))

theorem State.InTest.flt (l : Flt) : ({ s with flt := l } : State).InTest p lb K :=
  State.InTest.step hK hs ((State.Touches.refl blind_phase P s).hidden ((State.Within.refl _ s).hidden ..) rfl) rfl

omit hK hs in
theorem State.InTest.each {α : Type} {s : State} (hs : s.InTest p lb K) (l : List α) (f : State → α → State)
    (hf : ∀ u x, x ∈ l → u.InTest p lb K → (f u x).InTest p lb K) : (s.each l f).InTest p lb K := by
  induction l generalizing s with
  | nil => exact hs
  | cons x l ih => exact ih (hf s x List.mem_cons_self hs) fun u y hy => hf u y (List.mem_cons_of_mem _ hy)

omit hK hs in
theorem State.InTest.when {s : State} (hs : s.InTest p lb K) (c : Bool) (f : State → State) (hf : ∀ u, u.InTest p lb K → (f u).InTest p lb K) :
    (s.when c f).InTest p lb K := by
  rcases State.when_cases s c f with ⟨-, h⟩ | ⟨-, h⟩ <;> rw [h]
  · exact hf s hs
  · exact hs

/-- A raise in SELF-TEST leaves it where it is, or ends it in SAFE-HOLD. -/
theorem State.InTest.doRaise (n : Nat) (us : Option Nat) (hn : n < 256) : (s.doRaise n us).InTest p lb K := by
  have h1 : (s.raiseNoted n).InTest p lb K :=
    State.InTest.confined hK hs (s.confined_raiseNoted n hn) (fun _ h => testBlocks_of_raise h) (by
      unfold State.raiseNoted
      simp only [State.fltFreezeAct_gdr, State.startWait_gdr, State.fltRecord_gdr])
  rw [State.doRaise_eq]
  generalize s.raiseNoted n = v at h1
  have h2 : (v.fltAct n us).InTest p lb K ∧ (v.fltAct n us).mode ≠ .stopping := by
    have hmode (u : State) (hu : u.InTest p lb K) : u.mode ≠ .stopping := by
      rcases u.mode_eq_ofCode with hm | hm <;> rw [hm]
      · decide
      · rcases hu.shows with h | ⟨h, -⟩ <;> rw [h] <;> decide
    suffices h : (v.fltAct n us).InTest p lb K from ⟨h, hmode _ h⟩
    rcases v.takeAction_inTest n (v.fltAction n) us (h1.shows.imp id And.left) with h | ⟨h, hm⟩
    · unfold State.fltAct
      rw [h]
      exact h1
    · unfold State.fltAct
      rw [h]
      obtain ⟨k1, k2, k3⟩ := v.nowActing_shows n
      obtain ⟨j1, j2, j3⟩ := (v.nowActing n).reactSafeHold_inTest n us (k3.trans hm)
      refine ⟨j2.trans ((congrArg Sys.phase k2).trans h1.phase), .inl j1, fun hb => ?_⟩
      have hreg : (v.nowActing n).reg F.BST_LBIST_DONE.addr = lb := (k1.1 _ (by decide)).trans (h1.lbist hb)
      exact (j3 (by rw [hreg]; exact hb)).trans hreg
  rw [State.brakeRelease_still h2.2]
  exact h2.1

theorem State.InTest.settle (n : Nat) (hn : n < 256) : (s.settle n).InTest p lb K :=
  State.InTest.confined hK hs (s.confined_settle n hn) (by decide) (congrArg Gdr.xdisIn (s.settle_gdr n))

theorem State.InTest.raise (n : Nat) (hn : n < 256) : (s.raise n).InTest p lb K := by
  unfold State.raise State.raiseTimed
  split
  · exact hs
  · exact State.InTest.settle hK (State.InTest.doRaise hK hs n _ hn) n hn

theorem State.InTest.raiseLevel (n : Nat) (hn : n < 256) : (s.raiseLevel n).InTest p lb K := by
  have h := State.InTest.flt hK hs { s.flt with level := if s.flt.level.contains n then s.flt.level else s.flt.level ++ [n] }
  unfold State.raiseLevel State.levelTimed
  dsimp only
  split
  · exact h
  · exact State.InTest.doRaise hK h n _ hn

theorem State.InTest.clearLevel (n : Nat) (hn : n < 256) : (s.clearLevel n).InTest p lb K :=
  State.InTest.settle hK (State.InTest.flt hK hs { s.flt with level := s.flt.level.filter (fun m => decide (m ≠ n)) }) n hn

end

/-! ### The units of the self-tests -/

section
variable {P : Nat → Prop} {K : State → Prop} {p : Phase} {lb : Word} (hK : State.Watch P K) {s : State} (hs : s.InTest p lb K)
include hK hs

theorem State.InTest.convCount {v : Nat} (n : Nat) (hv : v < 8) : (s.convCount v n).InTest p lb K :=
  State.InTest.setF hK hs _ _ (hK.blocks _ (by
    have : (F.ADC_CONV_CNT_COUNT v).addr / 0x10000 = 0x400C := by simp only [F.ADC_CONV_CNT_COUNT]; omega
    rw [this]
    decide))

theorem State.InTest.overRange {c : Nat} (hc : c < 64) : (s.overRange c).InTest p lb K := by
  have ha : P (F.ADC_OVR_OVR (c / 32)).addr := hK.blocks _ (by
    have : (F.ADC_OVR_OVR (c / 32)).addr / 0x10000 = 0x400C := by simp only [F.ADC_OVR_OVR]; omega
    rw [this]
    decide)
  have h1 := State.InTest.incF hK (State.InTest.setF hK hs _ (s.getF (F.ADC_OVR_OVR (c / 32)) ||| 2 ^ (c % 32)) ha) F.ADC_OVR_CNT_COUNT
    (hK.blocks _ (by decide))
  exact State.InTest.raise hK (State.InTest.event hK h1 Ev.adc 3 (hK.blocks _ (by decide))) _ (by decide)

theorem State.InTest.publish (v : Nat) {c : Nat} (code t : Nat) (hi lo inj : Bool) (hc : c < 64) :
    (s.publish v c code t hi lo inj).InTest p lb K := by
  have h1 : ({ s with adc := { s.adc with times := s.adc.times.set c t } } : State).InTest p lb K :=
    State.InTest.step hK hs ((State.Touches.refl blind_phase P s).hidden ((State.Within.refl _ s).hidden ..) rfl) rfl
  exact State.InTest.setReg hK h1 _ _ (hK.blocks _ (by
    have : (F.ADC_RESULT_VALID c).addr / 0x10000 = 0x400C := by simp only [F.ADC_RESULT_VALID]; omega
    rw [this]
    decide))

theorem State.InTest.testConversions (t : Nat) {c : Nat} (l : List (Nat × Int)) (hc : c < 64) : (s.testConversions t c l).InTest p lb K := by
  refine State.InTest.each hs _ _ fun u x _ hu => ?_
  have h1 := State.InTest.convCount hK hu (v := x.1 % 8) 1 (Nat.mod_lt _ (by decide))
  unfold State.testConversion
  exact (h1.when _ _ fun w hw => State.InTest.overRange hK hw hc).when _ _ fun w hw => State.InTest.publish hK hw _ _ _ _ _ _ hc

theorem State.InTest.refConverts {v : Nat} (x : Int × Int) (hv : v < 8) : (s.refConverts v x).InTest p lb K :=
  ((State.InTest.convCount hK hs 2 hv).when _ _ fun _ hu => State.InTest.overRange hK hu (by decide)).when _ _ fun _ hu =>
    State.InTest.overRange hK hu (by decide)

theorem State.InTest.setFailed {v : Nat} (b : Bool) (hv : v < 8) : (s.setFailed v b).InTest p lb K := by
  have ha : P (F.ADC_CONV_STAT_FAILED v).addr := hK.blocks _ (by
    have : (F.ADC_CONV_STAT_FAILED v).addr / 0x10000 = 0x400C := by simp only [F.ADC_CONV_STAT_FAILED]; omega
    rw [this]
    decide)
  exact State.InTest.setF hK (State.InTest.setFlag hK hs _ _ ha) _ _ (hK.blocks _ (by decide))

theorem State.InTest.lasting : s.lasting.InTest p lb K :=
  State.InTest.event hK (State.InTest.incF hK hs _ (hK.blocks _ (by decide))) _ _ (hK.blocks _ (by decide))

theorem State.InTest.refJudge {v : Nat} (bg gnd : Nat) (again : Bool) (hv : v < 8) : (s.refJudge v bg gnd again).InTest p lb K := by
  have ha : P (F.ADC_REF_GND v).addr := hK.blocks _ (by
    have : (F.ADC_REF_GND v).addr / 0x10000 = 0x400C := by simp only [F.ADC_REF_GND]; omega
    rw [this]
    decide)
  have hn : Src.adcRef v < 256 := by simp only [Src.adcRef]; omega
  have h1 := State.InTest.incF hK (State.InTest.setF hK (State.InTest.setF hK hs (F.ADC_REF_GND v) gnd ha) (F.ADC_REF_BG v) bg ha)
    F.ADC_REF_CHK_CNT_COUNT (hK.blocks _ (by decide))
  unfold State.refJudge
  dsimp only
  split
  · exact (State.InTest.clearLevel hK (State.InTest.setFailed hK h1 false hv) _ hn).when _ _ fun _ hu =>
      State.InTest.incF hK hu _ (hK.blocks _ (by decide))
  · split
    · exact h1
    · have h2 := State.InTest.lasting hK h1
      split
      · exact h2
      · have h3 := State.InTest.incF hK (State.InTest.setFailed hK h2 true hv) F.ADC_REF_FAIL_CNT_COUNT (hK.blocks _ (by decide))
        exact State.InTest.raiseLevel hK (State.InTest.event hK h3 _ _ (hK.blocks _ (by decide))) _ hn

theorem State.InTest.refOne {v : Nat} (first again : Int × Int) (hv : v < 8) : (s.refOne v first again).InTest p lb K := by
  have h1 := State.InTest.refJudge hK (State.InTest.refConverts hK hs first hv) (adcCode first.1) (adcCode first.2) false hv
  unfold State.refOne
  dsimp only
  split
  · exact h1
  · exact State.InTest.refJudge hK (State.InTest.refConverts hK h1 again hv) _ _ _ hv

theorem State.InTest.refTest (e : AbistEnv) : (s.refTest e).InTest p lb K :=
  (hs.each _ _ fun _ _ hv hu => State.InTest.refOne hK hu _ _ (List.mem_range.1 hv)).each _ _ fun _ _ hc hu =>
    State.InTest.testConversions hK hu _ _ (by have := List.mem_range.1 hc; omega)

theorem State.InTest.dacTest (e : AbistEnv) (hd : P F.BST_ABIST_DAC_FAIL.addr) : (s.dacTest e).InTest p lb K := by
  have h0 := hs.each (List.range 8) (fun s v => s.testConversions e.t 59 ((e.dac1.getD v [] ++ if dacOk (e.dac1.getD v []) then [] else
    e.dac2.getD v []).map (fun x => (v, x.2)))) fun u v _ hu => State.InTest.testConversions hK hu _ _ (by decide)
  have h1 := State.InTest.setF hK (State.InTest.setF hK h0 F.ADC_DAC_CODE (((e.dac1.getD 0 []).getLast?.map (fun x => x.1)).getD 0)
    (hK.blocks _ (by decide))) F.BST_ABIST_DAC_FAIL (maskOf ((List.range 8).map (fun v => ((List.range 8).filter (fun v =>
      !dacOk (e.dac1.getD v []) && !dacOk (e.dac2.getD v []))).contains v))) hd
  unfold State.dacTest
  dsimp only
  split
  · exact h1
  · exact State.InTest.raise hK (State.InTest.event hK (State.InTest.incF hK h1 _ (hK.blocks _ (by decide))) _ _ (hK.blocks _ (by decide))) _
      (by decide)

theorem State.InTest.shuntStep (e : AbistEnv) :
    (s.each (List.range 3) (fun s b => s.testConversions e.t (48 + b) (e.shunt.getD b []))).InTest p lb K :=
  hs.each _ _ fun _ _ hb hu => State.InTest.testConversions hK hu _ _ (by have := List.mem_range.1 hb; omega)

theorem State.InTest.stuckGate {b : Nat} (hb : b < 3) : (s.raiseHold (Src.gate b 2)).InTest p lb K := by
  have hn : Src.gate b 2 < 256 := by simp only [Src.gate]; omega
  have h1 : (s.detected (Src.gate b 2)).InTest p lb K := by
    have hg := congrArg Gdr.xdisIn (s.detected_gdr (Src.gate b 2))
    rcases s.detected_cases (Src.gate b 2) with ⟨f, hf, h⟩ | ⟨k, h⟩ | h <;> rw [h]
    · simp only [List.mem_cons, List.not_mem_nil, or_false] at hf
      have hfP : P f.addr := hK.blocks _ (by rcases hf with rfl | rfl <;> decide)
      exact State.InTest.event hK (State.InTest.incF hK hs f hfP) _ _ (hK.blocks _ (by decide))
    · exact State.InTest.event hK hs _ _ (hK.blocks _ (by decide))
    · exact hs
  have hu : (s.detected (Src.gate b 2)).unitHoldOn (Src.gate b 2) =
      ((s.detected (Src.gate b 2)).noting (Src.gate b 2)).impose ⟨b, 5, false, Src.gate b 2⟩ := by
    have h1 : 0x4F ≤ Src.gate b 2 ∧ Src.gate b 2 ≤ 0x60 := by simp only [Src.gate]; omega
    have h2 : (Src.gate b 2 - 0x4F) % 6 = 2 := by simp only [Src.gate]; omega
    have h3 : (Src.gate b 2 - 0x4F) / 6 = b := by simp only [Src.gate]; omega
    unfold State.unitHoldOn
    rw [if_pos h1, h2, h3]
    rfl
  unfold State.raiseHold
  rw [hu]
  generalize s.detected (Src.gate b 2) = u at h1
  have h2 : (u.noting (Src.gate b 2)).InTest p lb K := State.InTest.flt hK h1 _
  refine State.InTest.raise hK ?_ _ hn
  rw [State.impose_eq]
  refine State.InTest.confined hK ?_ (State.confined_refreshPower _) (by decide) (congrArg Gdr.xdisIn (State.refreshPower_gdr _))
  exact State.InTest.step hK h2 ((State.Touches.refl blind_phase P _).hidden ((State.Within.refl _ _).hidden ..) rfl) rfl

end

/-! ### The ways out of SELF-TEST -/

section
variable {P : Nat → Prop} {K : State → Prop} {p : Phase} {lb : Word} (hK : State.Watch P K) {s : State} (hs : s.InTest p lb K)
include hK hs

theorem State.InTest.setValue {m : Nat} (v : Int) (hm : m < 7) : (s.setValue m v).InTest p lb K :=
  State.InTest.setReg hK hs _ _ (hK.blocks _ (by rw [(AGE_blocks m hm).1]; decide))

theorem State.InTest.boardMargin {m : Nat} (first : Nat) (rises : List Int) (hm : m < 7) : (s.boardMargin m first rises).InTest p lb K := by
  have ha : P (F.AGE_BASE_BASE m).addr := hK.blocks _ (by
    have : (F.AGE_BASE_BASE m).addr / 0x10000 = 0x4014 := by simp only [F.AGE_BASE_BASE]; omega
    rw [this]
    decide)
  unfold State.boardMargin
  split
  · exact hs
  · split
    · exact State.InTest.setF hK (State.InTest.setValue hK hs _ hm) _ _ ha
    · exact hs

theorem State.InTest.setDtm (m : Nat → Nat) : (s.setDtm m).InTest p lb K := by
  have h1 := State.InTest.setF hK (State.InTest.setF hK (State.InTest.setF hK hs F.AGE_DTM_ST (m 0) (hK.blocks _ (by decide))) F.AGE_DTM_BK (m 1)
    (hK.blocks _ (by decide))) F.AGE_DTM_AX (m 2) (hK.blocks _ (by decide))
  refine h1.each _ _ fun u b hb hu => State.InTest.setF hK hu _ _ (hK.blocks _ ?_)
  have hb := List.mem_range.1 hb
  have : (F.GDR_BRIDGE_STAT_DT_APPLIED b).addr / 0x10000 = 0x400B := by simp only [F.GDR_BRIDGE_STAT_DT_APPLIED]; omega
  rw [this]
  decide

theorem State.InTest.abistMargins (e : AbistEnv) (skipped : Bool) : (s.abistMargins e skipped).InTest p lb K := by
  have h1 := State.InTest.boardMargin hK hs 27 (s.shuntRises (shuntOffsets e)) (m := 4) (by decide)
  unfold State.abistMargins
  dsimp only
  split
  · exact State.InTest.setDtm hK h1 _
  · exact State.InTest.setDtm hK (State.InTest.boardMargin hK (State.InTest.boardMargin hK h1 _ _ (by decide)) _ _ (by decide)) _

theorem State.InTest.closeMargins (b : Bool) : (s.closeMargins (fun s => s.raise Src.marginLow) b).InTest p lb K := by
  have hbudget (m v : Nat) (hm : m < 7) (u : State) (hu : u.InTest p lb K) : (u.setBudgetBy (fun s => s.raise Src.marginLow) m v).InTest p lb K := by
    have h1 := State.InTest.setF hK hu (F.AGE_BUDGET_PERMILLE m) v (hK.blocks _ (by rw [(AGE_blocks m hm).2]; decide))
    unfold State.setBudgetBy
    dsimp only
    split
    · exact State.InTest.raise hK (State.InTest.event hK (State.InTest.incF hK h1 _ (hK.blocks _ (by decide))) _ _ (hK.blocks _ (by decide))) _
        (by decide)
    · exact h1
  have h0 : ({ s with age := { s.age with closed := true } } : State).InTest p lb K :=
    State.InTest.step hK hs ((State.Touches.refl blind_phase P s).hidden ((State.Within.refl _ s).hidden ..) rfl) rfl
  have h1 := State.InTest.setValue hK (State.InTest.setValue hK h0 (if s.otp.baseFet.all (fun b => decide (b = 0)) then 0 else
    (s.ember.vdsOn.foldl max 0 : Nat)) (m := 5) (by decide)) s.ember.crystal.toNat (m := 6) (by decide)
  unfold State.closeMargins
  split
  · exact hs
  · have h2 := h1.each (List.range 7) (fun s m => s.setBudgetBy (fun s => s.raise Src.marginLow) m
      (if m = 2 ∧ s.flag F.BST_STATUS_ABIST_SKIPPED = true then 0xFFFF else s.budget m)) fun u m hm hu => hbudget m _ (List.mem_range.1 hm) u hu
    exact State.InTest.step hK h2 ((State.Touches.refl blind_phase P _).hidden ((State.Within.refl _ _).hidden ..) rfl) rfl

end

/-- The registers but SYS_MODE and the results of LBIST. -/
abbrev besideTest (a : Nat) : Prop := a ≠ F.SYS_MODE_MODE.addr ∧ a ≠ F.BST_LBIST_DONE.addr

/-- SELF-TEST in progress, or ended in SAFE-HOLD, with nothing else in view. -/
theorem State.watch_mode : State.Watch besideTest (fun _ => True) where
  blocks a ha := ⟨fun h => absurd (h ▸ ha) (by decide), fun h => absurd (h ▸ ha) (by decide)⟩
  mode h := h.1 rfl
  lbist h := h.2 rfl
  keeps _ _ _ _ h := h

/-- Before the gate steps: XDIS_IN stays high. -/
theorem State.watch_xdis : State.Watch besideTest (fun s => s.gdr.xdisIn = false) where
  blocks := State.watch_mode.blocks
  mode h := h.1 rfl
  lbist h := h.2 rfl
  keeps _ _ _ hg h := hg.trans h

/-- After the gate steps: the gates that did not follow stay shown. -/
theorem State.watch_gates (v : Nat) : State.Watch (fun a => besideTest a ∧ a ≠ F.BST_ABIST_GATE_FAIL.addr)
    (fun s => s.getF F.BST_ABIST_GATE_FAIL = v) where
  blocks a ha := ⟨State.watch_mode.blocks a ha, fun h => absurd (h ▸ ha) (by decide)⟩
  mode h := h.1.1 rfl
  lbist h := h.1.2 rfl
  keeps _ _ ht _ h := (ht.getF _ fun h => h.2 rfl).trans h

section
variable {K : State → Prop} {lb : Word} {s : State} (hs : s.InTest .run lb K)
include hs

theorem State.InTest.open : s.InTest .run lb (fun _ => True) := ⟨hs.phase, hs.shows.imp id fun h => ⟨h.1, trivial⟩, hs.lbist⟩

theorem State.InTest.selfTest (hm : s.mode = .selfTest) : s.getF F.SYS_MODE_MODE = Mode.selfTest.code ∧ K s := by
  rcases hs.shows with h | h
  · have h1 : s.mode = .safeHold := State.mode_of_code (by rw [hs.phase]; decide) h
    rw [h1] at hm
    exact absurd hm (by decide)
  · exact h

theorem State.InTest.safeHold (hm : s.mode ≠ .selfTest) : s.getF F.SYS_MODE_MODE = Mode.safeHold.code := by
  rcases hs.shows with h | ⟨h, -⟩
  · exact h
  · exact absurd (State.mode_of_code (by rw [hs.phase]; decide) h) hm

theorem State.InTest.failSelfTest (b : Bool) : (s.failSelfTest b).getF F.SYS_MODE_MODE = Mode.safeHold.code := by
  have h1 := State.InTest.closeMargins State.watch_mode hs.open b
  unfold State.failSelfTest
  dsimp only
  split
  · next hm => exact hs.safeHold hm
  · split
    · exact (State.enterMode_shows _ _ _ _).1
    · next hm => exact h1.safeHold hm

end

theorem maskOf_lt (l : List Bool) : maskOf l < 2 ^ l.length := by
  induction l with
  | nil => decide
  | cons b l ih =>
    have hb : b2n b ≤ 1 := by cases b <;> decide
    simp only [maskOf, List.length_cons, pow_succ]
    omega

theorem maskOf_ne_zero {l : List Bool} (h : true ∈ l) : maskOf l ≠ 0 := by
  induction l with
  | nil => simp at h
  | cons b l ih =>
    simp only [maskOf]
    rcases List.mem_cons.1 h with rfl | h
    · simp [b2n]
    · have := ih h
      omega

/-- The gates that do not follow, as BST_ABIST shows them (R507). -/
def stuckGates (e : AbistEnv) : Nat :=
  maskOf ((List.range 18).map (fun g => ((List.range 18).filter (fun g => decide (e.sense.getD g true = false))).contains g))

theorem stuckGates_lt (e : AbistEnv) : stuckGates e < 2 ^ 18 := by
  have h := maskOf_lt ((List.range 18).map (fun g => ((List.range 18).filter (fun g => decide (e.sense.getD g true = false))).contains g))
  rwa [List.length_map, List.length_range] at h

theorem stuckGates_ne_zero (e : AbistEnv) {g : Nat} (hg : g < 18) (h : e.sense.getD g true = false) : stuckGates e ≠ 0 := by
  refine maskOf_ne_zero (List.mem_map.2 ⟨g, List.mem_range.2 hg, ?_⟩)
  exact List.contains_iff_mem.2 (List.mem_filter.2 ⟨List.mem_range.2 hg, decide_eq_true h⟩)

/-- The gate steps: TON of each gate, the gates that do not follow, and the bridges they switch OFF. -/
theorem State.gateTest_eq (s : State) (e : AbistEnv) :
    s.gateTest e = ((s.each (List.range 18) (fun s g => s.setF (F.GDR_GATE_TON g) (min 255 (e.ton.getD g 0)))).setF F.BST_ABIST_GATE_FAIL
      (stuckGates e)).each ((List.range 3).filter (fun b => ((List.range 18).filter (fun g => decide (e.sense.getD g true = false))).any
        (fun g => decide (g / 6 = b)))) (fun s b => s.raiseHold (Src.gate b 2)) := rfl

theorem State.InTest.stuckShown {K : State → Prop} {lb : Word} {s : State} (hs : s.InTest .run lb K) {v : Nat} (hv : v < 2 ^ 18) :
    (s.setF F.BST_ABIST_GATE_FAIL v).InTest .run lb (fun u => u.getF F.BST_ABIST_GATE_FAIL = v) := by
  have hmode : (s.setF F.BST_ABIST_GATE_FAIL v).getF F.SYS_MODE_MODE = s.getF F.SYS_MODE_MODE := State.getF_setF_apart _ _ _ _ rfl (by decide)
  have hfail : (s.setF F.BST_ABIST_GATE_FAIL v).getF F.BST_ABIST_GATE_FAIL = v :=
    (State.getF_setF_same _ _ _ rfl).trans (Nat.mod_eq_of_lt hv)
  have hlb : (s.setF F.BST_ABIST_GATE_FAIL v).reg F.BST_LBIST_DONE.addr = s.reg F.BST_LBIST_DONE.addr := State.reg_setF_other _ _ _ _ (by decide)
  exact ⟨hs.phase, hs.shows.imp hmode.trans fun h => ⟨hmode.trans h.1, hfail⟩, fun hb => hlb.trans (hs.lbist hb)⟩

section
variable {K : State → Prop} {lb : Word} {s : State} (e : AbistEnv)

theorem State.InTest.gateTest (hs : s.InTest .run lb K) : (s.gateTest e).InTest .run lb (fun u => u.getF F.BST_ABIST_GATE_FAIL = stuckGates e) := by
  have h1 : (s.each (List.range 18) (fun s g => s.setF (F.GDR_GATE_TON g) (min 255 (e.ton.getD g 0)))).InTest .run lb (fun _ => True) := by
    refine hs.open.each _ _ fun u g hg hu => State.InTest.setF State.watch_mode hu _ _ (State.watch_mode.blocks _ ?_)
    have hg := List.mem_range.1 hg
    have : (F.GDR_GATE_TON g).addr / 0x10000 = 0x400B := by simp only [F.GDR_GATE_TON]; omega
    rw [this]
    decide
  have hv := stuckGates_lt e
  rw [State.gateTest_eq]
  generalize stuckGates e = v at hv ⊢
  exact (h1.stuckShown hv).each _ _ fun w b hb hw => State.InTest.stuckGate (State.watch_gates v) hw (List.mem_range.1 (List.mem_filter.1 hb).1)

theorem State.InTest.boardTest (hs : s.InTest .run lb K) : (s.boardTest e).InTest .run lb (fun _ => True) := by
  unfold State.boardTest
  dsimp only
  refine State.InTest.shuntStep State.watch_mode ?_ e
  split
  · exact State.InTest.setFlag State.watch_mode hs.open _ _ (by decide)
  · exact (hs.gateTest e).open

/-- With XDIS_IN high and the axes still the gate steps run. -/
theorem State.InTest.boardTest_gates (hs : s.InTest .run lb K) (hx : s.gdr.xdisIn = false) (hb : ∀ b, b < 3 → stillBridge e b = true) :
    (s.boardTest e).InTest .run lb (fun u => u.getF F.BST_ABIST_GATE_FAIL = stuckGates e) := by
  have hrun : (s.gdr.xdisIn || !(List.range 3).all (stillBridge e)) = false := by
    rw [hx, List.all_eq_true.2 fun b h => hb b (List.mem_range.1 h)]
    rfl
  unfold State.boardTest
  dsimp only
  rw [hrun, if_neg (by decide)]
  exact State.InTest.shuntStep (State.watch_gates _) (hs.gateTest e) e

end

theorem State.lifecycle_of_fuses {s t : State} (h : t.fuses = s.fuses) : t.otp.lifecycle = s.otp.lifecycle :=
  (congrArg Otp.lifecycle h : t.fuses.lifecycle = s.fuses.lifecycle)

/-- The mode that ends SELF-TEST: SAFE-HOLD, or by the life cycle JOIN or SERVICE (R58, R62). -/
def State.Exits (lifecycle : Nat) (t : State) : Prop :=
  t.getF F.SYS_MODE_MODE = Mode.safeHold.code ∨
    (t.getF F.SYS_MODE_MODE = Mode.join.code ∧ (lifecycle = 1 ∨ lifecycle = 2)) ∨
    (t.getF F.SYS_MODE_MODE = Mode.service.code ∧ lifecycle ≠ 1 ∧ lifecycle ≠ 2)

theorem State.InTest.passSelfTest {K : State → Prop} {lb : Word} {s : State} (hs : s.InTest .run lb K) (b : Bool) :
    State.Exits s.otp.lifecycle (s.passSelfTest b) := by
  have h1 := State.InTest.closeMargins State.watch_mode hs.open b
  have hl : (s.closeMargins (fun s => s.raise Src.marginLow) b).otp.lifecycle = s.otp.lifecycle := State.lifecycle_of_fuses (by simp)
  unfold State.passSelfTest
  dsimp only
  generalize s.closeMargins (fun s => s.raise Src.marginLow) b = u at h1 hl
  split
  · next hm => exact .inl (hs.safeHold hm)
  · split
    · next hm => exact .inl (h1.safeHold hm)
    · split
      · exact .inl (State.enterMode_shows _ _ _ _).1
      · rw [hl]
        split
        · next h => exact .inr (.inl ⟨(State.enterMode_shows _ _ _ _).1, h⟩)
        · next h => exact .inr (.inr ⟨(State.enterMode_shows _ _ _ _).1, not_or.1 h⟩)

theorem State.burnBoard_inTest {K : State → Prop} {lb : Word} {s : State} (hs : s.InTest .run lb K) (e : AbistEnv) :
    (s.burnBoard e).InTest .run lb (fun _ => True) := ⟨hs.phase, hs.shows.imp id fun h => ⟨h.1, trivial⟩, hs.lbist⟩

/-- Analogue BIST from its gate steps on (R507). -/
def State.abistEnd (s : State) (e : AbistEnv) : State :=
  let skipped := s.flag F.BST_STATUS_ABIST_SKIPPED
  let stuck := decide (s.getF F.BST_ABIST_GATE_FAIL ≠ 0)
  let burn := !skipped && !stuck && decide (s.otp.lifecycle = 2) && s.otp.baseBoard.isNone
  let s3 := (s.when burn (fun s => s.burnBoard e)).abistMargins e skipped
  if stuck then s3.failSelfTest burn
  else (s3.setFlag F.BST_STATUS_ABIST_PASS (decide (s3.getF F.BST_ABIST_DAC_FAIL = 0) && decide (s3.getF F.ADC_STATUS_FAILED = 0))).passSelfTest burn

theorem State.InTest.abistEnd {K : State → Prop} {lb : Word} {s : State} (hs : s.InTest .run lb K) (e : AbistEnv) :
    State.Exits s.otp.lifecycle (s.abistEnd e) ∧
      (s.getF F.BST_ABIST_GATE_FAIL ≠ 0 → (s.abistEnd e).getF F.SYS_MODE_MODE = Mode.safeHold.code) := by
  have h3 (c k : Bool) : ((s.when c (fun s => s.burnBoard e)).abistMargins e k).InTest .run lb (fun _ => True) :=
    State.InTest.abistMargins State.watch_mode (hs.open.when _ _ fun _ hu => State.burnBoard_inTest hu e) e k
  have hl (c k : Bool) : ((s.when c (fun s => s.burnBoard e)).abistMargins e k).otp.lifecycle = s.otp.lifecycle :=
    State.lifecycle_of_fuses (by cases c <;> simp [State.when])
  unfold State.abistEnd
  dsimp only
  generalize (!s.flag F.BST_STATUS_ABIST_SKIPPED && !decide (s.getF F.BST_ABIST_GATE_FAIL ≠ 0) && decide (s.otp.lifecycle = 2) &&
    s.otp.baseBoard.isNone) = c
  have hv := h3 c (s.flag F.BST_STATUS_ABIST_SKIPPED)
  have hvl := hl c (s.flag F.BST_STATUS_ABIST_SKIPPED)
  generalize (s.when c (fun s => s.burnBoard e)).abistMargins e (s.flag F.BST_STATUS_ABIST_SKIPPED) = v at hv hvl
  split
  · exact ⟨.inl (hv.failSelfTest c), fun _ => hv.failSelfTest c⟩
  · next hz =>
    refine ⟨?_, fun h => absurd (decide_eq_true h) hz⟩
    have hp := (State.InTest.setFlag State.watch_mode hv F.BST_STATUS_ABIST_PASS
      (decide (v.getF F.BST_ABIST_DAC_FAIL = 0) && decide (v.getF F.ADC_STATUS_FAILED = 0)) (by decide)).passSelfTest c
    rw [← hvl]
    exact hp

theorem State.analogueBist_eq (s : State) (e : AbistEnv) (hr : s.sys.phase = .run) (hm : s.mode = .selfTest)
    (hl : s.flag F.BST_STATUS_LBIST_PASS = true) :
    s.analogueBist e =
      let s1 := (s.refTest e).dacTest e
      if s1.mode ≠ .selfTest then s1
      else if (s1.boardTest e).mode ≠ .selfTest then s1.boardTest e else (s1.boardTest e).abistEnd e :=
  if_neg (by simp [State.running_of_run hr, hm, hl])

theorem State.inTest_of_mode {K : State → Prop} {s : State} (hr : s.sys.phase = .run) (hm : s.mode = .selfTest) (hk : K s) :
    s.InTest .run (s.reg F.BST_LBIST_DONE.addr) K where
  phase := hr
  lbist _ := rfl
  shows := by
    refine .inr ⟨?_, hk⟩
    have h : Mode.ofCode (s.getF F.SYS_MODE_MODE) = .selfTest := by
      rcases s.mode_eq_ofCode with h | h
      · rw [h] at hm
        exact absurd hm (by decide)
      · exact h.symm.trans hm
    have hlt : s.getF F.SYS_MODE_MODE < 16 := State.getF_lt _ _
    generalize s.getF F.SYS_MODE_MODE = c at h hlt
    have hall : ∀ c < 16, Mode.ofCode c = .selfTest → c = Mode.selfTest.code := by decide
    exact hall c hlt h

/-- Where ANALOGUE_BIST ends (R507, R62), and that a gate which does not follow brings SAFE-HOLD. -/
theorem State.analogueBist_exits (s : State) (e : AbistEnv) (hr : s.sys.phase = .run) (hm : s.mode = .selfTest)
    (hl : s.flag F.BST_STATUS_LBIST_PASS = true) :
    State.Exits s.otp.lifecycle (s.analogueBist e) ∧
      (∀ g, g < 18 → e.sense.getD g true = false → s.gdr.xdisIn = false → (∀ b, b < 3 → stillBridge e b = true) →
        (s.analogueBist e).getF F.SYS_MODE_MODE = Mode.safeHold.code) := by
  have tested {K : State → Prop} (hK : State.Watch besideTest K) (hk : K s) :
      ((s.refTest e).dacTest e).InTest .run (s.reg F.BST_LBIST_DONE.addr) K :=
    State.InTest.dacTest hK (State.InTest.refTest hK (State.inTest_of_mode hr hm hk) e) e (by decide)
  have h1 := tested State.watch_mode trivial
  have hx (h : s.gdr.xdisIn = false) := tested State.watch_xdis h
  have hl1 : ((s.refTest e).dacTest e).otp.lifecycle = s.otp.lifecycle := State.lifecycle_of_fuses (by simp)
  rw [s.analogueBist_eq e hr hm hl]
  dsimp only
  generalize (s.refTest e).dacTest e = u at h1 hx hl1
  split
  · next hu => exact ⟨.inl (h1.safeHold hu), fun _ _ _ _ _ => h1.safeHold hu⟩
  · next hu =>
    have h2 := h1.boardTest e
    have hl2 : (u.boardTest e).otp.lifecycle = s.otp.lifecycle := (State.lifecycle_of_fuses (by simp)).trans hl1
    split
    · next hb => exact ⟨.inl (h2.safeHold hb), fun _ _ _ _ _ => h2.safeHold hb⟩
    · next hb =>
      obtain ⟨k1, k2⟩ := h2.abistEnd e
      refine ⟨hl2 ▸ k1, fun g hg hsense hxd hstill => k2 ?_⟩
      have hgates := (h1.boardTest_gates e ((hx hxd).selfTest (not_not.1 hu)).2 hstill).selfTest (not_not.1 hb)
      rw [hgates.2]
      exact stuckGates_ne_zero e hg hsense


/-! ### LOAD and LBIST -/

theorem State.InTest.failed_shows {p : Phase} {lb : Word} {K : State → Prop} {s : State} (hs : s.InTest p lb K) (b : Bool) :
    ((s.failSelfTest b).getF F.SYS_MODE_MODE = Mode.selfTest.code ∨ (s.failSelfTest b).getF F.SYS_MODE_MODE = Mode.safeHold.code) ∧
      (lb.toNat % 4 ≠ 1 → (s.failSelfTest b).reg F.BST_LBIST_DONE.addr = lb) := by
  have h0 : s.InTest p lb (fun _ => True) := ⟨hs.phase, hs.shows.imp id fun h => ⟨h.1, trivial⟩, hs.lbist⟩
  have h1 := State.InTest.closeMargins State.watch_mode h0 b
  unfold State.failSelfTest
  dsimp only
  generalize s.closeMargins (fun s => s.raise Src.marginLow) b = u at h1
  split
  · exact ⟨h0.shows.symm.imp And.left id, h0.lbist⟩
  · split
    · refine ⟨.inr (State.enterMode_shows _ _ _ _).1, fun hb => (State.enterMode_lbist _ _ _ ?_).trans (h1.lbist hb)⟩
      rw [State.getF_lbistEngine, h1.lbist hb]
      exact hb
    · exact ⟨h1.shows.symm.imp And.left id, h1.lbist⟩

theorem State.InTest.cmpTest {p : Phase} {lb : Word} {s : State} (hs : s.InTest p lb (fun _ => True)) {k : Nat} (missed flagged : Nat)
    (hk : k < 24) : (s.cmpTest k missed flagged).InTest p lb (fun _ => True) := by
  have hb : (F.CMP_STAT_TESTED k).addr / 0x10000 = 0x4004 ∧ (F.CMP_TEST_PASS k).addr / 0x10000 = 0x4004 := by
    simp only [F.CMP_STAT_TESTED, F.CMP_TEST_PASS]
    omega
  have h1 : besideTest (F.CMP_STAT_TESTED k).addr := State.watch_mode.blocks _ (by rw [hb.1]; decide)
  have h2 : besideTest (F.CMP_TEST_PASS k).addr := State.watch_mode.blocks _ (by rw [hb.2]; decide)
  exact State.InTest.setFlag State.watch_mode (State.InTest.setF State.watch_mode (State.InTest.setF State.watch_mode
    (State.InTest.setFlag State.watch_mode hs _ _ h1) (F.CMP_TEST_INJECTED k) _ h2) (F.CMP_TEST_MISSED k) _ h2) _ _ h2

theorem State.toSelfTest_shows (s : State) (e : LoadEnv) :
    (s.toSelfTest e).getF F.SYS_MODE_MODE = Mode.selfTest.code ∨ (s.toSelfTest e).getF F.SYS_MODE_MODE = Mode.safeHold.code := by
  unfold State.toSelfTest
  dsimp only
  have h1 := (State.enterMode_shows (s.loadEnd e).startHalves .selfTest 0 0).1
  generalize (s.loadEnd e).startHalves.enterMode .selfTest 0 0 = u at h1
  have h2 : (u.each (List.range 24) (fun s k => s.cmpTest k (e.cmpMissed.getD k 0) (e.cmpFlagged.getD k 0))).InTest u.sys.phase
      (u.reg F.BST_LBIST_DONE.addr) (fun _ => True) :=
    State.InTest.each ⟨rfl, .inr ⟨h1, trivial⟩, fun _ => rfl⟩ _ _ fun v k hk hv => hv.cmpTest _ _ (List.mem_range.1 hk)
  split
  · exact h2.shows.symm.imp And.left id
  · exact (h2.failed_shows false).1

theorem State.toSafeHold_shows (s : State) (e : LoadEnv) : (s.toSafeHold e).getF F.SYS_MODE_MODE = Mode.safeHold.code :=
  (State.enterMode_shows _ _ _ _).1

/-- Where LOAD ends (R53, R58). -/
theorem State.resetRelease_shows (s : State) (e : LoadEnv) (hh : s.sys.phase = .held) (hv : s.sys.vsup = true) (hu : s.sys.vioUnder = false) :
    ((s.resetRelease e).getF F.SYS_MODE_MODE = Mode.selfTest.code ∨ (s.resetRelease e).getF F.SYS_MODE_MODE = Mode.safeHold.code) ∧
      (s.otp.lifecycle = 4 → (s.resetRelease e).getF F.SYS_MODE_MODE = Mode.safeHold.code) := by
  have hl : ((s.loadStart e).mbist e).s.otp.lifecycle = s.otp.lifecycle := State.lifecycle_of_fuses (by simp)
  have hstart : ¬(s.sys.phase ≠ .held ∨ s.sys.vsup = false ∨ s.sys.vioUnder = true) := by
    rw [hh, hv, hu]
    decide
  unfold State.resetRelease
  rw [if_neg hstart]
  dsimp only
  generalize (s.loadStart e).mbist e = m at hl
  split
  · exact ⟨.inr (State.toSafeHold_shows _ e), fun _ => State.toSafeHold_shows _ e⟩
  · split
    · next h0 => exact ⟨State.toSelfTest_shows _ e, fun h4 => absurd (h0.symm.trans h4) (by decide)⟩
    · split
      · exact ⟨.inr (State.toSafeHold_shows _ e), fun _ => State.toSafeHold_shows _ e⟩
      · next h4 =>
        refine ⟨?_, fun h => absurd h h4⟩
        unfold State.loadImage
        dsimp only
        split
        · exact State.toSelfTest_shows _ e
        · split
          · exact State.toSelfTest_shows _ e
          · exact .inr (State.toSafeHold_shows _ e)

section
variable {s : State} (hr : s.sys.phase = .run) (hm : s.mode = .selfTest) (hd : s.flag F.BST_LBIST_DONE = false)
include hr hm hd

theorem State.lbist_eq (part1 part2 : Nat) : s.lbist part1 part2 =
    if part1 = 0 ∨ part2 = 0 then
      ((s.setFlag F.BST_LBIST_DONE true).setFlag F.BST_LBIST_RETRIED (decide (part1 ≠ 0))).setFlag F.BST_STATUS_LBIST_PASS true
    else
      (((s.setFlag F.BST_LBIST_DONE true).setFlag F.BST_LBIST_RETRIED (decide (part1 ≠ 0))).setF F.BST_LBIST_FAIL_PART part2).failSelfTest
        false :=
  if_neg (by simp [State.running_of_run hr, hm, hd])

theorem State.lbist_passes {part1 part2 : Nat} (h : part1 = 0 ∨ part2 = 0) :
    ∃ t, exec (.lbistComplete part1 part2) s = .next t ∧ t.flag F.BST_LBIST_DONE = true ∧ t.flag F.BST_STATUS_LBIST_PASS = true ∧
      t.flag F.BST_LBIST_RETRIED = decide (part1 ≠ 0) ∧ s.OnlyRegs [0x40150000, 0x40150010] t ∧ { t with regs := s.regs } = s := by
  have he : exec (.lbistComplete part1 part2) s = .next (s.lbist part1 part2) := rfl
  rw [he, State.lbist_eq hr hm hd, if_pos h]
  refine ⟨_, rfl, ?_, flag_setFlag_same _ _ _ rfl, ?_, ?_, rfl⟩
  · rw [flag_setFlag_apart _ _ _ _ rfl (by decide), flag_setFlag_apart _ _ _ _ rfl (by decide), flag_setFlag_same _ _ _ rfl]
  · rw [flag_setFlag_apart _ _ _ _ rfl (by decide), flag_setFlag_same _ _ _ rfl]
  · exact (((State.OnlyRegs.refl _ s).setFlag _ _ (by decide)).setFlag _ _ (by decide)).setFlag _ _ (by decide)

theorem State.lbist_fails {part1 part2 : Nat} (h1 : part1 ≠ 0) (h2 : part2 ≠ 0) (hlt : part2 < 256) :
    ∃ t, exec (.lbistComplete part1 part2) s = .next t ∧ t.flag F.BST_LBIST_DONE = true ∧ t.flag F.BST_LBIST_RETRIED = true ∧
      t.getF F.BST_LBIST_FAIL_PART = part2 ∧ t.getF F.SYS_MODE_MODE = Mode.safeHold.code := by
  have he : exec (.lbistComplete part1 part2) s = .next (s.lbist part1 part2) := rfl
  rw [he, State.lbist_eq hr hm hd, if_neg (by simp [h1, h2]), decide_eq_true h1]
  have k1 : (((s.setFlag F.BST_LBIST_DONE true).setFlag F.BST_LBIST_RETRIED true).setF F.BST_LBIST_FAIL_PART part2).flag F.BST_LBIST_DONE =
      true := by
    rw [flag_setF_apart _ _ _ _ rfl (by decide), flag_setFlag_apart _ _ _ _ rfl (by decide), flag_setFlag_same _ _ _ rfl]
  have k2 : (((s.setFlag F.BST_LBIST_DONE true).setFlag F.BST_LBIST_RETRIED true).setF F.BST_LBIST_FAIL_PART part2).flag F.BST_LBIST_RETRIED =
      true := by
    rw [flag_setF_apart _ _ _ _ rfl (by decide), flag_setFlag_same _ _ _ rfl]
  have k3 : (((s.setFlag F.BST_LBIST_DONE true).setFlag F.BST_LBIST_RETRIED true).setF F.BST_LBIST_FAIL_PART part2).getF F.BST_LBIST_FAIL_PART =
      part2 := (State.getF_setF_same _ _ _ rfl).trans (Nat.mod_eq_of_lt hlt)
  have hu : (((s.setFlag F.BST_LBIST_DONE true).setFlag F.BST_LBIST_RETRIED true).setF F.BST_LBIST_FAIL_PART part2).InTest .run
      ((((s.setFlag F.BST_LBIST_DONE true).setFlag F.BST_LBIST_RETRIED true).setF F.BST_LBIST_FAIL_PART part2).reg F.BST_LBIST_DONE.addr)
      (fun _ => True) := by
    refine State.inTest_of_mode hr (Eq.trans ?_ hm) trivial
    exact State.Within.mode ((((State.Within.refl [0x4015] s).setFlag _ _ (by decide)).setFlag _ _ (by decide)).setF _ _ (by decide)) (by decide) rfl
  generalize ((s.setFlag F.BST_LBIST_DONE true).setFlag F.BST_LBIST_RETRIED true).setF F.BST_LBIST_FAIL_PART part2 = u at k1 k2 k3 hu
  have hidle : (u.reg F.BST_LBIST_DONE.addr).toNat % 4 ≠ 1 := by
    have hbit : (u.reg F.BST_LBIST_DONE.addr).toNat / 2 ^ 1 % 2 ^ 1 ≠ 0 := of_decide_eq_true k2
    omega
  have hreg := (hu.failed_shows false).2 hidle
  exact ⟨_, rfl, (State.flag_congr (State.getF_congr (f := F.BST_LBIST_DONE) hreg)).trans k1,
    (State.flag_congr (State.getF_congr (f := F.BST_LBIST_RETRIED) hreg)).trans k2,
    (State.getF_congr (f := F.BST_LBIST_FAIL_PART) hreg).trans k3, hu.failSelfTest false⟩

end

/-- Settles O12: a fault's reaction ends SELF-TEST in SAFE-HOLD or not at all, so the modes that the units leave are these two until the way
out; the LBIST results survive the entry into SAFE-HOLD because they do not read as an engine that executes. -/
theorem selfTestCommands : Obligations.SelfTestCommands := by
  unfold Obligations.SelfTestCommands
  refine ⟨⟨fun s e hh hv hu => ⟨_, rfl, s.resetRelease_shows e hh hv hu⟩, fun s part1 part2 hr hm hd =>
    ⟨State.lbist_passes hr hm hd, State.lbist_fails hr hm hd⟩⟩, fun s e hr hm hl => ⟨_, rfl, s.analogueBist_exits e hr hm hl⟩⟩

end Sys2Proof.Machine
end

section
/-!
# Hold-up
-/
namespace Sys2Proof.Machine

open Sys2Proof

/-! ### The hold-up check -/

/-- The brake release writes the power stage and the lead's own registers alone (R389). -/
theorem State.brakeRelease_beside (s : State) : s.Within [0x400A, 0x400B, 0x4011] s.brakeRelease := by
  unfold State.brakeRelease
  split
  · exact ((((State.Within.refl _ s).hidden ..).setFlag _ _ (by decide)).event _ _ (by decide)).trans
      ((State.confined_refreshPower _).within.mono (by decide))
  · exact .refl _ s

/-- A raise leaves every register of the Ash record but the count of merged triggers (R490). -/
theorem State.getF_trigger_ash (s : State) (k n : Nat) (g : Fld) (hb : g.addr / 0x10000 = 0x4012) (hg : g.addr ≠ F.ASH_MERGED_CNT_COUNT.addr) :
    (s.trigger k n).getF g = s.getF g := by
  have hj (u t : State) (h : u.Confined [0x4013] t) : t.getF g = u.getF g := h.getF g (by rw [hb]; decide)
  have hl := hj _ _ (State.confined_logTrigger s k n)
  unfold State.trigger
  dsimp only
  split
  · rw [hj _ _ (State.confined_event _ _ _ _ (by decide)), State.getF_incF_apart _ _ _ (by decide) ((Fld.apart_iff _ _).2 (.inl (Ne.symm hg))),
      hj _ _ (State.confined_incF _ _ _ (by decide))]
    exact (hj _ _ (State.confined_jrn _ _ _)).trans hl
  · split
    · refine (hj _ _ (((State.confined_jrn _ _ _).trans (State.confined_setF _ _ _ _ (by decide))).trans
        ((State.confined_setF _ _ _ _ (by decide)).trans (State.confined_setF _ _ _ _ (by decide))))).trans hl
    · exact hl

theorem State.getF_doRaise_ash (s : State) (n : Nat) (g : Fld) (hn : n < 256) (hq : s.Quiet n) (hb : g.addr / 0x10000 = 0x4012)
    (hg : g.addr ≠ F.ASH_MERGED_CNT_COUNT.addr) : (s.doRaise n none).getF g = s.getF g := by
  have hc (u t : State) (h : u.Confined [0x4003] t) : t.getF g = u.getF g := h.getF g (by rw [hb]; decide)
  have hfreeze (u : State) : (u.fltFreezeAct n).getF g = u.getF g := by
    unfold State.fltFreezeAct
    refine State.getF_when _ _ _ _ ?_
    exact (State.getF_when _ _ _ _ (hc _ _ (State.confined_setFlag _ _ _ _ (by decide)))).trans (State.getF_trigger_ash u 1 n g hb hg)
  rw [State.doRaise_quiet s n none hn hq, (State.brakeRelease_beside _).getF g (by rw [hb]; decide), hfreeze,
    hc _ _ (State.confined_startWait _ n hn), hc _ _ (State.confined_fltRecord s n hn)]

theorem State.getF_raiseLevel_ash (s : State) (n : Nat) (g : Fld) (hn : n < 256) (hq : s.Quiet n) (hb : g.addr / 0x10000 = 0x4012)
    (hg : g.addr ≠ F.ASH_MERGED_CNT_COUNT.addr) : (s.raiseLevel n).getF g = s.getF g := by
  unfold State.raiseLevel State.levelTimed
  dsimp only
  split
  · rfl
  · exact State.getF_doRaise_ash _ n g hn hq hb hg

/-- What HOLDUP_CHECK shows (R492). -/
def State.holdupShown (s : State) (mv : Nat) : State :=
  (((s.setF F.ASH_HOLDUP_V_VNOW (min mv 65535)).setF F.ASH_HOLDUP_E_UJ (min (s.holdupEnergy mv) (2 ^ 32 - 1))).setF F.ASH_HOLDUP_REQ_UJ
    s.holdupReq).setFlag F.ASH_STATUS_HOLDUP_OK (decide (s.holdupReq ≤ s.holdupEnergy mv))

theorem State.holdupShown_shows (s : State) (mv : Nat) (hmv : mv < 65536) :
    (s.holdupShown mv).getF F.ASH_HOLDUP_V_VNOW = mv ∧ (s.holdupShown mv).getF F.ASH_HOLDUP_E_UJ = min (2 ^ 32 - 1) (s.holdupEnergy mv) ∧
      (s.holdupShown mv).flag F.ASH_STATUS_HOLDUP_OK = decide (s.holdupReq ≤ s.holdupEnergy mv) ∧ s.Within [0x4012] (s.holdupShown mv) := by
  unfold State.holdupShown
  generalize s.holdupReq = q
  generalize s.holdupEnergy mv = e
  refine ⟨?_, ?_, flag_setFlag_same _ _ _ rfl, ?_⟩
  · rw [getF_setFlag_apart _ _ _ _ rfl (by decide), State.getF_setF_apart _ _ _ _ rfl (by decide),
      State.getF_setF_apart _ _ _ _ rfl (by decide), State.getF_setF_same _ _ _ rfl]
    exact (Nat.mod_eq_of_lt (show min mv 65535 < 2 ^ 16 by omega)).trans (by omega)
  · rw [getF_setFlag_apart _ _ _ _ rfl (by decide), State.getF_setF_apart _ _ _ _ rfl (by decide), State.getF_setF_same _ _ _ rfl]
    exact (Nat.mod_eq_of_lt (show min e (2 ^ 32 - 1) < 2 ^ 32 by omega)).trans (Nat.min_comm _ _)
  · exact ((((State.Within.refl _ s).setF _ _ (by decide)).setF _ _ (by decide)).setF _ _ (by decide)).setFlag _ _ (by decide)

theorem State.holdupCheck_eq (s : State) (mv : Nat) (hr : s.sys.phase = .run) : s.holdupCheck mv =
    if s.holdupEnergy mv < s.holdupReq then
      (if s.flt.level.contains Src.holdupLow then s.holdupShown mv else ((s.holdupShown mv).event Ev.ash 1).raiseLevel Src.holdupLow)
    else (s.holdupShown mv).clearLevel Src.holdupLow := if_pos (State.running_of_run hr)

/-- HOLDUP_CHECK (R492). -/
theorem State.holdupCheck_shows (s : State) (mv : Nat) (hr : s.sys.phase = .run) (hmv : mv < 65536) (hq : s.Quiet 0xD7) :
    (s.holdupCheck mv).getF F.ASH_HOLDUP_V_VNOW = mv ∧
      (s.holdupCheck mv).getF F.ASH_HOLDUP_E_UJ = min (2 ^ 32 - 1) (s.holdupEnergy mv) ∧
      (s.holdupCheck mv).flag F.ASH_STATUS_HOLDUP_OK = decide (s.holdupReq ≤ s.holdupEnergy mv) ∧
      (s.holdupEnergy mv < s.holdupReq → s.asserted 0xD7 = false →
        (s.holdupCheck mv).sticky 0xD7 = true ∧ 0xD7 ∈ (s.holdupCheck mv).flt.level) ∧
      (s.holdupReq ≤ s.holdupEnergy mv → 0xD7 ∉ (s.holdupCheck mv).flt.level) ∧
      s.SameRegs raiseBlocks (s.holdupCheck mv) ∧ s.SameStores (s.holdupCheck mv) := by
  obtain ⟨k1, k2, k3, kw⟩ := s.holdupShown_shows mv hmv
  have ksys : (s.holdupShown mv).sys = s.sys := rfl
  have kflt : (s.holdupShown mv).flt = s.flt := rfl
  rw [s.holdupCheck_eq mv hr]
  generalize s.holdupShown mv = u at k1 k2 k3 kw ksys kflt
  split
  · next hlow =>
    split
    · next hl =>
      have hw := kw.mono (cs := raiseBlocks) (by decide)
      refine ⟨k1, k2, k3, fun _ ha => ?_, fun h => absurd h (by omega), hw.1, hw.2⟩
      simp only [State.asserted, Bool.or_eq_false_iff] at ha
      exact absurd (hl.symm.trans ha.1.1) (by decide)
    · have hw := kw.event Ev.ash 1 (by decide)
      have hqe : (u.event Ev.ash 1).Quiet 0xD7 := hw.quiet (by decide) (by decide) (by rw [State.event_sys, ksys]) (by decide) hq
      have hall := (hw.mono (cs := raiseBlocks) (by decide)).raiseLevel 0xD7 (fun _ h => h) (by decide) hqe
      have hget (g : Fld) (hb : g.addr / 0x10000 = 0x4012) (hg : g.addr ≠ F.ASH_MERGED_CNT_COUNT.addr) (hev : Ev.ash.ev.addr ≠ g.addr) :
          ((u.event Ev.ash 1).raiseLevel Src.holdupLow).getF g = u.getF g :=
        (State.getF_raiseLevel_ash _ 0xD7 g (by decide) hqe hb hg).trans (State.getF_event_other _ _ _ _ hev)
      refine ⟨(hget _ (by decide) (by decide) (by decide)).trans k1, (hget _ (by decide) (by decide) (by decide)).trans k2,
        (State.flag_congr (hget _ (by decide) (by decide) (by decide))).trans k3, fun _ ha => ?_, fun h => absurd h (by omega), hall.1, hall.2⟩
      obtain ⟨h1, h2, -⟩ := hw.raised (by decide) (by decide) (by rw [State.event_sys, ksys]) (by rw [State.event_flt, kflt]) (n := 0xD7)
        (by decide) hq ha
      exact ⟨h1, h2⟩
  · next hok =>
    have hall := (kw.mono (cs := raiseBlocks) (by decide)).clearLevel 0xD7 (by decide) (by decide)
    have hget (g : Fld) (hb : g.addr / 0x10000 = 0x4012) : (u.clearLevel Src.holdupLow).getF g = u.getF g :=
      ((State.Within.refl _ u).clearLevel (bs := [0x4003]) 0xD7 (by decide) (by decide)).getF g (by rw [hb]; decide)
    exact ⟨(hget _ (by decide)).trans k1, (hget _ (by decide)).trans k2, (State.flag_congr (hget _ (by decide))).trans k3,
      fun h => absurd h hok, fun _ h => ((State.mem_clearLevel_level _ _ _).1 h).1 rfl, hall.1, hall.2⟩

/-! ### The loss of VSUP and the end of the hold-up -/

/-- The Ember domain, the flash and the OTP are as they were: a power-fail record is torn on the MRAM alone. -/
def State.KeepsEmber (s t : State) : Prop := t.ember = s.ember ∧ t.flash = s.flash ∧ t.otp = s.otp

theorem State.KeepsEmber.refl (s : State) : s.KeepsEmber s := ⟨rfl, rfl, rfl⟩

theorem State.KeepsEmber.trans {r s t : State} (h : r.KeepsEmber s) (k : s.KeepsEmber t) : r.KeepsEmber t := by
  obtain ⟨h1, h2, h3⟩ := h
  obtain ⟨k1, k2, k3⟩ := k
  exact ⟨k1.trans h1, k2.trans h2, k3.trans h3⟩

theorem enterBlind_ember : State.EnterBlind (fun s : State => s.ember) where
  blind _ s t h := by
    obtain ⟨-, r, f, j, g, m, rfl⟩ := h
    rfl
  doms _ _ := rfl
  cans _ _ := rfl
  sec _ _ := rfl
  xdis _ _ _ := rfl

theorem State.Touches.keepsEmber {P : Nat → Prop} {s t : State} (h : s.Touches P (fun s => s.ember) t) : s.KeepsEmber t := by
  obtain ⟨-, -, hf, ho⟩ := h.stores
  exact ⟨h.same, hf, ho⟩

theorem State.ashTear_keepsEmber (s : State) : s.KeepsEmber s.ashTear := by
  unfold State.ashTear
  split
  · exact .refl s
  · split <;> exact .refl s

theorem State.powerFail_keepsEmber (s : State) : s.KeepsEmber s.powerFail := by
  have hr := State.Touches.refl enterBlind_ember.blind (fun _ => True) s
  have hfreeze : s.Touches (fun _ => True) (fun s => s.ember) (s.when (!s.flag F.JRN_STATUS_FROZEN) State.freeze) :=
    hr.when _ _ fun u hu => ((((hu.setFlag _ _ trivial).setFlag _ _ trivial).setFlag _ _ trivial).incF _ trivial).event _ _ trivial
  have hlog := hfreeze.confined (State.confined_logTrigger _ 4 0) fun _ _ => trivial
  unfold State.powerFail
  dsimp only
  generalize (s.when (!s.flag F.JRN_STATUS_FROZEN) State.freeze).logTrigger 4 0 = u at hlog
  have h3 := (((((((hlog.setF F.JRN_FREEZE_STAT_KIND (s.jrn.trig.getD ⟨4, 0, s.flu.cycle⟩).kind trivial).setF F.JRN_FREEZE_STAT_SOURCE
    (s.jrn.trig.getD ⟨4, 0, s.flu.cycle⟩).source trivial).setF F.JRN_TRIG_CYCLE_C ((s.jrn.trig.getD ⟨4, 0, s.flu.cycle⟩).cycle % 2 ^ 32)
    trivial).incF F.JRN_PF_CNT_COUNT trivial).event Ev.jrn 1 trivial).setFlag F.ASH_STATUS_PF_ACTIVE true trivial).event Ev.ash 0 trivial).keepsEmber
  revert h3
  generalize State.event (State.setFlag _ _ _) Ev.ash 0 = v
  intro h3
  split
  · exact h3.trans (State.KeepsEmber.trans (by
      rcases State.when_cases v (decide (_ = 4)) State.ashTear with ⟨-, h⟩ | ⟨-, h⟩ <;> rw [h]
      · exact v.ashTear_keepsEmber
      · exact .refl v) ⟨rfl, rfl, rfl⟩)
  · exact h3.trans ⟨rfl, rfl, rfl⟩

/-- Whether a window waits to be written as VSUP goes (R493). -/
def State.pfWaits (s : State) : Bool := s.flag F.JRN_STATUS_RECORDING || s.flag F.JRN_STATUS_COMMIT_WAIT || s.jrn.post.isSome

/-- The DORMANT edge on a supply loss, up to the request for the power-fail window (R58, R493). -/
def State.pfDormant (s : State) (waits : Bool) : State :=
  ((s.each ashDoms (fun s d => s.domVote d 6)).when waits State.powerFail).enterMode .dormant 0 0

/-- The request for the power-fail window. -/
def State.pfRequest (s : State) (waits : Bool) : State :=
  s.when waits (fun u => u.ashRequest 4 1 (u.windowBody (s.jrn.trig.getD ⟨4, 0, s.flu.cycle⟩) true (pfItems u.jrn.items)))

theorem State.vsupLoss_eq (s : State) (hv : s.sys.vsup = true) (hb : s.ember.vbat = true) (hr : s.sys.phase = .run) :
    s.vsupLoss = { (s.pfDormant s.pfWaits).pfRequest s.pfWaits with
      sys := { ((s.pfDormant s.pfWaits).pfRequest s.pfWaits).sys with vsup := false, phase := .holdup },
      ember := { ((s.pfDormant s.pfWaits).pfRequest s.pfWaits).ember with
        dormantCnt := min (2 ^ 32 - 1) (((s.pfDormant s.pfWaits).pfRequest s.pfWaits).ember.dormantCnt + 1) } } := by
  unfold State.vsupLoss
  rw [if_neg (by rw [hv]; decide), if_neg (by rw [hr]; decide), if_neg (by rw [hr, hb]; decide)]
  rfl

theorem State.pfDormant_shows (s : State) (waits : Bool) :
    s.KeepsEmber (s.pfDormant waits) ∧ (s.pfDormant waits).getF F.SYS_MODE_MODE = Mode.dormant.code := by
  have h1 : s.KeepsEmber (s.each ashDoms (fun s d => s.domVote d 6)) :=
    ((State.Touches.refl enterBlind_ember.blind entryRegs s).each _ _ fun u d hd hu => hu.domVote enterBlind_ember d 6 (by
      simp only [ashDoms, List.mem_cons, List.not_mem_nil, or_false] at hd
      omega)).keepsEmber
  have h2 : s.KeepsEmber ((s.each ashDoms (fun s d => s.domVote d 6)).when waits State.powerFail) := by
    rcases State.when_cases (s.each ashDoms (fun s d => s.domVote d 6)) waits State.powerFail with ⟨-, h⟩ | ⟨-, h⟩ <;> rw [h]
    · exact h1.trans (State.powerFail_keepsEmber _)
    · exact h1
  unfold State.pfDormant
  generalize (s.each ashDoms (fun s d => s.domVote d 6)).when waits State.powerFail = u at h2
  have h3 : u.KeepsEmber (u.modeEntered .dormant 0 0) := by
    obtain ⟨-, -, hw⟩ := u.modeEntered_shows .dormant 0 0
    obtain ⟨-, -, hf, ho⟩ := hw.2
    refine ⟨?_, hf, ho⟩
    unfold State.modeEntered
    simp only [State.marker_ember, State.ashRequest_ember, State.setF_ember]
  have h4 := State.enterMode_touches enterBlind_ember u .dormant 0 0 (.inr ⟨fun _ _ => rfl, fun _ _ => rfl⟩) (.inr fun _ _ => rfl)
  exact ⟨(h2.trans h3).trans h4.keepsEmber, (State.enterMode_shows _ _ _ _).1⟩

theorem State.pfRequest_shows (s : State) (waits : Bool) :
    s.KeepsEmber (s.pfRequest waits) ∧ (s.pfRequest waits).getF F.SYS_MODE_MODE = s.getF F.SYS_MODE_MODE := by
  cases waits
  · exact ⟨.refl s, rfl⟩
  · exact ⟨⟨rfl, rfl, rfl⟩, rfl⟩

theorem State.vsupLoss_shows (s : State) (hv : s.sys.vsup = true) (hb : s.ember.vbat = true) (hr : s.sys.phase = .run) :
    s.vsupLoss.sys.phase = .holdup ∧ s.vsupLoss.sys.vsup = false ∧ s.vsupLoss.mode = .dormant ∧
      s.vsupLoss.ember.dormantCnt = min (2 ^ 32 - 1) (s.ember.dormantCnt + 1) ∧ s.vsupLoss.flash = s.flash ∧ s.vsupLoss.otp = s.otp := by
  obtain ⟨h1, h2⟩ := s.pfDormant_shows s.pfWaits
  obtain ⟨k1, k2⟩ := (s.pfDormant s.pfWaits).pfRequest_shows s.pfWaits
  rw [s.vsupLoss_eq hv hb hr]
  obtain ⟨j1, j2, j3⟩ := h1.trans k1
  have hm := k2.trans h2
  generalize (s.pfDormant s.pfWaits).pfRequest s.pfWaits = u at j1 j2 j3 hm
  refine ⟨rfl, rfl, State.mode_of_code (by simp) hm, ?_, j2, j3⟩
  rw [← j1]

theorem State.ashTear_tiles (s : State) : s.ashTear.tiles = s.tiles := by
  unfold State.ashTear
  split
  · rfl
  · split <;> rfl

/-- The votes that the Ash record holds while it writes are withdrawn at the end of the hold-up (R493). -/
def State.pfUnvoted (s : State) : State := s.ashTear.each ashDoms (fun s d => s.putVote d 6 false)

theorem State.pfUnvoted_stores (s : State) : s.pfUnvoted.tiles = s.tiles ∧ s.pfUnvoted.flash = s.flash ∧ s.pfUnvoted.otp = s.otp := by
  obtain ⟨-, hflash, hotp⟩ := s.ashTear_keepsEmber
  have htiles := s.ashTear_tiles
  unfold State.pfUnvoted
  generalize s.ashTear = u at hflash hotp htiles
  have hw : u.Within [0x4001] (u.each ashDoms (fun s d => s.putVote d 6 false)) := by
    refine (State.Within.refl _ u).each _ _ fun v d hd hv => ?_
    have hb : (F.PWR_DOM_VOTE_VOTES d).addr / 0x10000 ∈ [0x4001] := by
      simp only [ashDoms, List.mem_cons, List.not_mem_nil, or_false] at hd
      rcases hd with rfl | rfl | rfl | rfl <;> decide
    exact hv.setF _ _ hb
  obtain ⟨h1, -, h3, h4⟩ := hw.2
  exact ⟨h1.trans htiles, h3.trans hflash, h4.trans hotp⟩

/-- The die goes off, and what waited for the MRAM is lost (R493). -/
def State.holdupEnded (s : State) : State :=
  let u := s.setFlag F.ASH_STATUS_PF_ACTIVE false
  { u with sys := { u.sys with phase := .off }, ash := { u.ash with queue := [] } }

theorem State.holdupRelease_eq (s : State) (hp : s.sys.phase = .holdup) : s.holdupRelease = s.pfUnvoted.holdupEnded := if_pos hp

theorem State.mode_of_off {s : State} (h : s.sys.phase = .off) : s.mode = .dormant := by
  unfold State.mode
  rw [h]

theorem State.holdupEnded_shows (s : State) :
    s.holdupEnded.sys.phase = .off ∧ s.holdupEnded.ash.queue = [] ∧ s.holdupEnded.flag F.ASH_STATUS_PF_ACTIVE = false ∧
      s.SameStores s.holdupEnded :=
  ⟨rfl, rfl, State.flag_setFlag_same s F.ASH_STATUS_PF_ACTIVE false rfl, rfl, rfl, rfl, rfl⟩

theorem State.holdupRelease_shows (s : State) (hp : s.sys.phase = .holdup) :
    s.holdupRelease.sys.phase = .off ∧ s.holdupRelease.mode = .dormant ∧ s.holdupRelease.ash.queue = [] ∧
      s.holdupRelease.flag F.ASH_STATUS_PF_ACTIVE = false ∧ s.holdupRelease.tiles = s.tiles ∧ s.holdupRelease.flash = s.flash ∧
      s.holdupRelease.otp = s.otp := by
  obtain ⟨h1, h2, h3⟩ := s.pfUnvoted_stores
  obtain ⟨k1, k2, k3, kt, -, kf, ko⟩ := s.pfUnvoted.holdupEnded_shows
  rw [s.holdupRelease_eq hp]
  exact ⟨k1, State.mode_of_off k1, k2, k3, kt.trans h1, kf.trans h2, ko.trans h3⟩

/-- Settles O17: the check shows its energies and raises or clears HOLDUP_LOW; a supply loss enters DORMANT and leaves the Ember domain, flash and
OTP; the release tears what waits and clears the queue. -/
theorem holdUp : Obligations.HoldUp := by
  unfold Obligations.HoldUp
  exact ⟨fun s mv hr hmv _ hq => ⟨_, rfl, s.holdupCheck_shows mv hr hmv hq⟩, fun s hv hb hr => ⟨_, rfl, s.vsupLoss_shows hv hb hr⟩,
    fun s hp => ⟨_, rfl, s.holdupRelease_shows hp⟩⟩

end Sys2Proof.Machine
end

section
/-!
# An own frame at its action point
-/
namespace Sys2Proof.Machine

open Sys2Proof

/-! ### An own frame at its action point -/

theorem blind_flu : State.Blind (fun s : State => s.flu) := by
  intro _ s t h
  obtain ⟨-, r, f, j, g, m, rfl⟩ := h
  rfl

/-- The registers that a frame which has left writes: the counts of the Flue and of the safety messages. -/
abbrev sentRegs (a : Nat) : Prop := a / 0x10000 ∈ [0x400D, 0x4010] ∧ a ≠ F.FLU_FWD_ABORT_CNT_COUNT.addr

/-- A frame has left: its bytes, its rings, its vote. -/
def State.frameGone (s : State) (h : Hdr) (p : List Byte) : State :=
  { s with flu := { s.flu with
      wire := frameBytes h p, sent := s.flu.sent ++ [(h, s.txRings)], syncSent := s.flu.syncSent || bit h.flags 2,
      votes := if bit h.flags 2 ∧ bit s.img.flue.voteNodes h.node = true then s.flu.votes ++ [(h.node, h.modeReq)] else s.flu.votes } }

theorem State.frameSent_touches (s : State) (h : Hdr) (p : List Byte) :
    (s.frameGone h p).Touches sentRegs (fun s => s.flu) (s.frameSent h p) := by
  have h2 := (State.Touches.refl blind_flu sentRegs (s.frameGone h p)).when (decide (h.ptype = 2))
    (fun s => s.addF F.FLU_CMD_REC_CNT_COUNT (p.getD 0 0).toNat) fun u hu => hu.addF _ _ (by decide)
  have hown (k : Nat) (hk : k < 8) : sentRegs (F.FLU_OWN_AGE_CNT k).addr := by
    simp only [sentRegs, F.FLU_OWN_AGE_CNT, F.FLU_FWD_ABORT_CNT_COUNT, List.mem_cons, List.not_mem_nil, or_false]
    omega
  have hsaf (k : Nat) (hk : k < 8) : sentRegs (F.SAF_TX_SEQ k).addr := by
    simp only [sentRegs, F.SAF_TX_SEQ, F.FLU_FWD_ABORT_CNT_COUNT, List.mem_cons, List.not_mem_nil, or_false]
    omega
  unfold State.frameSent
  dsimp only
  generalize hu : State.when _ _ _ = u
  have h3 : (s.frameGone h p).Touches sentRegs (fun s => s.flu) u := hu ▸ h2
  have h4 : (s.frameGone h p).Touches sentRegs (fun s => s.flu) (match s.ownSlots.findIdx? (fun k => decide (k = h.slot)) with
      | some k => if k < 8 then u.setF (F.FLU_OWN_AGE_CNT k) h.ageCnt else u
      | none => u) := by
    split
    · split
      · next hk => exact h3.setF _ _ (hown _ hk)
      · exact h3
    · exact h3
  split
  · split
    · next hk => exact h4.setF _ _ (hsaf _ hk.1)
    · exact h4
  · exact h4

theorem State.raised_block {s u : State} (hs : s.Within [0x400D] u) (hsys : u.sys = s.sys) (hflt : u.flt = s.flt) (hq : s.Quiet 0xA4)
    (ha : s.asserted 0xA4 = false) {f : Fld} (hf : f.addr / 0x10000 = 0x400D) :
    (u.raise Src.damperBlock).sticky 0xA4 = true ∧ (u.raise Src.damperBlock).flu = u.flu ∧ (u.raise Src.damperBlock).getF f = u.getF f ∧
      s.Within (0x400D :: raiseBlocks) (u.raise Src.damperBlock) := by
  have hqu : u.Quiet 0xA4 := hs.quiet (by decide) (by decide) (by rw [hsys]) (by decide) hq
  have hau : u.asserted 0xA4 = false := (State.asserted_of_asserting (State.asserting_congr hflt) _).trans ha
  have hc : u.Confined raiseBlocks (u.raise Src.damperBlock) := State.confined_raise u 0xA4 none (by decide) hqu
  refine ⟨u.sticky_raise 0xA4 none (by decide) hqu hau, blind_flu _ _ _ hc, hc.within.getF _ (by rw [hf]; decide), ?_⟩
  exact (hs.mono (by decide)).trans (hc.within.mono (by decide))

section
variable {s : State} {h : Hdr} {p : List Byte} {dev fin : Int} {passing : Bool} (hr : s.sys.phase = .run) (hw : s.flu.withhold = false)
  (ho : s.flu.out.find? (fun x => decide (x.1.slot = h.slot)) = some (h, p))

/-- The own frame is taken out of the frames frozen for the cycle. -/
def State.frameTaken (s : State) (slot : Nat) : State :=
  { s with flu := { s.flu with out := s.flu.out.filter (fun x => decide (x.1.slot ≠ slot)) } }

/-- A forwarded frame that passes at the action point ends with ABORT (R291). -/
def State.passingCut (s : State) (passing : Bool) : State :=
  s.when passing (fun s => (s.fwdCut.incF F.FLU_FWD_ABORT_CNT_COUNT).event Ev.flu 10)

include hr hw ho in
theorem State.frameTransmit_eq : exec (.frameTransmit h.slot dev fin passing) s = .next (
    if dev < -125 ∨ 125 < dev ∨ s.flag F.FLU_STATUS_DAMPER_OPEN_OK = false ∨ s.flag F.FLU_DAMPER_CLOSED = true then
      (s.frameTaken h.slot).damperBlock
    else if s.windowEnd h.slot < fin then
      ((((s.frameTaken h.slot).passingCut passing).incF F.FLU_TRUNC_CNT_COUNT).event Ev.flu 4).raise Src.damperBlock
    else ((s.frameTaken h.slot).passingCut passing).frameSent h p) := by
  have hrun : (!s.running) = false := by rw [State.running_of_run hr]; rfl
  refine next_congr ?_
  unfold State.frameTransmit
  rw [hrun, if_neg (by decide), ho]
  dsimp only
  rw [if_neg (show ¬s.flu.withhold = true by rw [hw]; decide)]
  rfl

theorem State.passingCut_touches (s : State) (slot : Nat) (passing : Bool) :
    s.Within [0x400D] ((s.frameTaken slot).passingCut passing) ∧ ((s.frameTaken slot).passingCut passing).sys = s.sys ∧
      ((s.frameTaken slot).passingCut passing).flt = s.flt ∧
      ((s.frameTaken slot).passingCut passing).flu.sent = s.flu.sent ∧ ((s.frameTaken slot).passingCut passing).flu.wire = s.flu.wire := by
  have h0 : s.Within [0x400D] (s.frameTaken slot) := (State.Within.refl _ s).hidden ..
  cases passing
  · exact ⟨h0, rfl, rfl, rfl, rfl⟩
  · have h1 : s.Within [0x400D] (s.frameTaken slot).fwdCut := h0.hidden ..
    have he : (s.frameTaken slot).passingCut true = ((s.frameTaken slot).fwdCut.incF F.FLU_FWD_ABORT_CNT_COUNT).event Ev.flu 10 := rfl
    rw [he]
    refine ⟨(h1.incF _ (by decide)).event _ _ (by decide), ?_, ?_, ?_, ?_⟩
    · rw [State.event_sys]
      rfl
    · rw [State.event_flt]
      rfl
    · rw [State.event_flu]
      rfl
    · rw [State.event_flu]
      rfl

end

section
variable {s : State} {h : Hdr} {p : List Byte} {dev fin : Int} {passing : Bool} (hr : s.sys.phase = .run) (hw : s.flu.withhold = false)
  (ho : s.flu.out.find? (fun x => decide (x.1.slot = h.slot)) = some (h, p))
include hr hw ho

/-- The damper blocks an insertion (R294). -/
theorem State.frameTransmit_blocked
    (hb : dev < -125 ∨ 125 < dev ∨ s.flag F.FLU_STATUS_DAMPER_OPEN_OK = false ∨ s.flag F.FLU_DAMPER_CLOSED = true) (hq : s.Quiet 0xA4)
    (ha : s.asserted 0xA4 = false) :
    ∃ t, exec (.frameTransmit h.slot dev fin passing) s = .next t ∧ t.flu.sent = s.flu.sent ∧ t.flu.wire = s.flu.wire ∧
      t.sticky 0xA4 = true ∧ t.getF F.FLU_BLOCK_CNT_COUNT = min (2 ^ 32 - 1) (s.getF F.FLU_BLOCK_CNT_COUNT + 1) ∧
      s.Within (0x400D :: raiseBlocks) t := by
  rw [State.frameTransmit_eq hr hw ho, if_pos hb]
  have h0 : s.Within [0x400D] (s.frameTaken h.slot) := (State.Within.refl _ s).hidden ..
  have h1 := (h0.incF F.FLU_BLOCK_CNT_COUNT (by decide)).event Ev.flu 5 (by decide)
  obtain ⟨k1, k2, k3, k4⟩ := State.raised_block h1 (by rw [State.event_sys]; rfl) (by rw [State.event_flt]; rfl) hq ha
    (f := F.FLU_BLOCK_CNT_COUNT) (by decide)
  have hflu : (((s.frameTaken h.slot).incF F.FLU_BLOCK_CNT_COUNT).event Ev.flu 5).flu = (s.frameTaken h.slot).flu := State.event_flu _ _ _
  refine ⟨_, rfl, ?_, ?_, k1, k3.trans (State.getF_incF_event _ _ _ _ (by decide) (by decide)), k4⟩
  · exact (congrArg Flu.sent (k2.trans hflu)).trans rfl
  · exact (congrArg Flu.wire (k2.trans hflu)).trans rfl

/-- A frame that would pass the end of its window is cut short (R293). -/
theorem State.frameTransmit_cut (h1 : -125 ≤ dev) (h2 : dev ≤ 125) (h3 : s.flag F.FLU_STATUS_DAMPER_OPEN_OK = true)
    (h4 : s.flag F.FLU_DAMPER_CLOSED = false) (hf : s.windowEnd h.slot < fin) (hq : s.Quiet 0xA4) (ha : s.asserted 0xA4 = false) :
    ∃ t, exec (.frameTransmit h.slot dev fin passing) s = .next t ∧ t.flu.sent = s.flu.sent ∧ t.flu.wire = s.flu.wire ∧
      t.sticky 0xA4 = true ∧ t.getF F.FLU_TRUNC_CNT_COUNT = min (2 ^ 32 - 1) (s.getF F.FLU_TRUNC_CNT_COUNT + 1) ∧
      s.Within (0x400D :: raiseBlocks) t := by
  rw [State.frameTransmit_eq hr hw ho, if_neg (by rw [h3, h4]; simp; omega), if_pos hf]
  obtain ⟨j1, j2, j3, j4, j5⟩ := s.passingCut_touches h.slot passing
  have jc : ((s.frameTaken h.slot).passingCut passing).getF F.FLU_TRUNC_CNT_COUNT = s.getF F.FLU_TRUNC_CNT_COUNT := by
    cases passing
    · rfl
    · exact (State.getF_event_other _ _ _ _ (by decide)).trans (State.getF_incF_apart _ _ _ rfl (by decide))
  generalize (s.frameTaken h.slot).passingCut passing = u at j1 j2 j3 j4 j5 jc
  have h5 := (j1.incF F.FLU_TRUNC_CNT_COUNT (by decide)).event Ev.flu 4 (by decide)
  obtain ⟨k1, k2, k3, k4⟩ := State.raised_block h5 (by rw [State.event_sys, State.incF_sys, j2]) (by rw [State.event_flt, State.incF_flt, j3]) hq ha
    (f := F.FLU_TRUNC_CNT_COUNT) (by decide)
  have hflu : ((u.incF F.FLU_TRUNC_CNT_COUNT).event Ev.flu 4).flu = u.flu := by rw [State.event_flu, State.incF_flu]
  refine ⟨_, rfl, (congrArg Flu.sent (k2.trans hflu)).trans j4, (congrArg Flu.wire (k2.trans hflu)).trans j5, k1, ?_, k4⟩
  rw [← jc]
  exact k3.trans (State.getF_incF_event _ _ _ _ (by decide) (by decide))

/-- A frame within its window leaves (R285, R288, R291, R293). -/
theorem State.frameTransmit_leaves (h1 : -125 ≤ dev) (h2 : dev ≤ 125) (h3 : s.flag F.FLU_STATUS_DAMPER_OPEN_OK = true)
    (h4 : s.flag F.FLU_DAMPER_CLOSED = false) (hf : ¬s.windowEnd h.slot < fin) :
    ∃ t, exec (.frameTransmit h.slot dev fin passing) s = .next t ∧
      t.flu.wire = h.bytes ++ p ++ leBytes 4 (crc32c (h.bytes ++ p)) ++ [0, 255] ∧
      t.flu.sent = s.flu.sent ++ [(h, s.txRings)] ∧ (∀ x ∈ t.flu.out, x.1.slot ≠ h.slot) ∧
      (passing = true → t.flu.fwdAbort = true ∧ t.flu.fwdFrame <+: s.flu.fwdFrame ∧
        t.getF F.FLU_FWD_ABORT_CNT_COUNT = min (2 ^ 32 - 1) (s.getF F.FLU_FWD_ABORT_CNT_COUNT + 1)) ∧
      (passing = false → t.flu.fwd = s.flu.fwd ∧ t.flu.fwdFrame = s.flu.fwdFrame ∧ t.flu.fwdAbort = s.flu.fwdAbort) ∧
      s.SameRegs [0x400D, 0x4010] t ∧ s.SameStores t := by
  rw [State.frameTransmit_eq hr hw ho, if_neg (by rw [h3, h4]; simp; omega), if_neg hf]
  obtain ⟨j1, -, -, j4, -⟩ := s.passingCut_touches h.slot passing
  have jrings : ((s.frameTaken h.slot).passingCut passing).txRings = s.txRings := by
    cases passing
    · rfl
    · have hflag (g : Fld) (hg : g ∈ [ringEn 0, ringEn 1, ringBypass 0, ringBypass 1]) :
          ((s.frameTaken h.slot).passingCut true).flag g = s.flag g := by
        have hap : Ev.flu.ev.addr ≠ g.addr ∧ F.FLU_FWD_ABORT_CNT_COUNT.apart g = true := by
          simp only [List.mem_cons, List.not_mem_nil, or_false] at hg
          rcases hg with rfl | rfl | rfl | rfl <;> decide
        exact (State.flag_event_other _ _ _ _ hap.1).trans (State.flag_incF_apart _ _ _ rfl hap.2)
      unfold State.txRings
      simp only [List.map_cons, List.map_nil]
      rw [hflag _ (by simp), hflag _ (by simp), hflag _ (by simp), hflag _ (by simp)]
  have jout : ((s.frameTaken h.slot).passingCut passing).flu.out = s.flu.out.filter (fun x => decide (x.1.slot ≠ h.slot)) := by
    cases passing
    · rfl
    · exact congrArg Flu.out ((State.event_flu _ _ _).trans (State.incF_flu _ _))
  have jpass : passing = true → ((s.frameTaken h.slot).passingCut passing).flu.fwdAbort = true ∧
      ((s.frameTaken h.slot).passingCut passing).flu.fwdFrame <+: s.flu.fwdFrame ∧
      ((s.frameTaken h.slot).passingCut passing).getF F.FLU_FWD_ABORT_CNT_COUNT =
        min (2 ^ 32 - 1) (s.getF F.FLU_FWD_ABORT_CNT_COUNT + 1) := by
    rintro rfl
    have hflu : ((s.frameTaken h.slot).passingCut true).flu = (s.frameTaken h.slot).fwdCut.flu := (State.event_flu _ _ _).trans (State.incF_flu _ _)
    refine ⟨congrArg Flu.fwdAbort hflu, ?_, State.getF_incF_event _ _ _ _ (by decide) (by decide)⟩
    rw [hflu]
    exact List.take_prefix _ _
  have jstay : passing = false → ((s.frameTaken h.slot).passingCut passing).flu.fwd = s.flu.fwd ∧
      ((s.frameTaken h.slot).passingCut passing).flu.fwdFrame = s.flu.fwdFrame ∧
      ((s.frameTaken h.slot).passingCut passing).flu.fwdAbort = s.flu.fwdAbort := by
    rintro rfl
    exact ⟨rfl, rfl, rfl⟩
  generalize (s.frameTaken h.slot).passingCut passing = u at j1 j4 jrings jout jpass jstay
  have ht := u.frameSent_touches h p
  have hflu : (u.frameSent h p).flu = (u.frameGone h p).flu := ht.same
  have hcnt : (u.frameSent h p).getF F.FLU_FWD_ABORT_CNT_COUNT = u.getF F.FLU_FWD_ABORT_CNT_COUNT := ht.getF _ (by simp [sentRegs])
  have hg : s.Within [0x400D, 0x4010] (u.frameGone h p) := (j1.mono (by decide)).hidden ..
  have hall := hg.trans (ht.mono fun _ ha => ha.1).within
  refine ⟨_, rfl, ?_, ?_, ?_, fun hp => ?_, fun hp => ?_, hall.1, hall.2⟩
  · rw [hflu]
    rfl
  · rw [hflu]
    exact congrArg₂ (fun l r => l ++ [(h, r)]) j4 jrings
  · rw [hflu]
    intro x hx
    have hm : x ∈ u.flu.out := hx
    rw [jout] at hm
    exact of_decide_eq_true (List.mem_filter.1 hm).2
  · obtain ⟨k1, k2, k3⟩ := jpass hp
    rw [hflu]
    exact ⟨k1, k2, hcnt.trans k3⟩
  · rw [hflu]
    exact jstay hp

end

theorem State.windowEnd_static (s : State) {slot : Nat} (h : slot < 48) :
    s.windowEnd slot = 8 * (20 + ((s.slots.getD slot {}).len : Int)) + 125 := if_pos h

theorem State.windowEnd_dynamic (s : State) {slot : Nat} (h : 48 ≤ slot) :
    s.windowEnd slot = 250 * (s.getF F.FLU_DYN_GRANT_LEN : Int) - 375 :=
  if_neg (by omega)

/-- Settles O21: the frame frozen for the slot is taken out; by its start and its window it leaves, is cut short, or is blocked. -/
theorem frameTransmit : Obligations.FrameTransmit := by
  unfold Obligations.FrameTransmit
  intro s h p dev fin passing hr hw ho
  refine ⟨fun h1 h2 h3 h4 hs hd => State.frameTransmit_leaves hr hw ho h1 h2 h3 h4 ?_, fun h1 h2 h3 h4 hs hf hq ha => ?_, fun hb hq ha => ?_⟩
  · rcases Nat.lt_or_ge h.slot 48 with hl | hl
    · rw [s.windowEnd_static hl]
      exact not_lt.2 (hs hl)
    · rw [s.windowEnd_dynamic hl]
      exact not_lt.2 (hd hl)
  · obtain ⟨t, k1, k2, k3, k4, k5, k6⟩ := State.frameTransmit_cut hr hw ho h1 h2 h3 h4 (by rw [s.windowEnd_static hs]; exact hf) hq ha
    exact ⟨t, k1, k2, k3, k4, k5, k6.1, k6.2⟩
  · obtain ⟨t, k1, k2, k3, k4, k5, k6⟩ := State.frameTransmit_blocked hr hw ho hb hq ha
    exact ⟨t, k1, k2, k3, k4, k5, (k6.mono (by decide)).1, k6.2⟩

end Sys2Proof.Machine
end

section
/-!
# A frame that arrives on a ring
-/
namespace Sys2Proof.Machine

open Sys2Proof

/-! ### A frame that arrives on a ring -/

/-- The registers of the Flue but the counts of accepted frames. -/
abbrev deliverRegs (a : Nat) : Prop :=
  a / 0x10000 = 0x400D ∧ a ≠ F.FLU_RX_A_CNT_COUNT.addr ∧ a ≠ F.FLU_RX_B_CNT_COUNT.addr

theorem State.spFlue_flu (s : State) (slot : Nat) (p : List Byte) : s.Touches deliverRegs (fun s => s.flu) (s.spFlue slot p) := by
  refine (State.Touches.refl blind_flu deliverRegs s).each _ _ fun u x _ hu => hu.trans ?_
  unfold State.spMessage
  dsimp only
  split
  · exact .refl blind_flu _ u
  · exact (State.Touches.refl blind_flu _ u).hidden ((State.Within.refl _ u).hidden ..) rfl

/-- Delivery of a frame other than a safety message appends it to the frames received and leaves every other field of the Flue (R297). -/
theorem State.deliver_shows (s : State) (f : RxFrame) (hp : f.hdr.ptype ≠ 1) :
    ({ s with flu := { s.flu with rx := s.flu.rx ++ [f] } } : State).Touches deliverRegs (fun s => s.flu) (s.deliver f) := by
  have h1 := State.Touches.refl blind_flu deliverRegs ({ s with flu := { s.flu with rx := s.flu.rx ++ [f] } } : State)
  unfold State.deliver
  dsimp only
  generalize ({ s with flu := { s.flu with rx := s.flu.rx ++ [f] } } : State) = u at h1 ⊢
  split
  · exact h1
  · exact (h1.when _ _ fun v hv => (hv.incF _ (by decide)).event _ _ (by decide)).when _ _ fun v hv => hv.trans (v.spFlue_flu _ _)

/-- Only the clock, the schedules and the votes of the Flue differ (R323, R335, R337). -/
def State.SyncOnly (s t : State) : Prop :=
  ∃ x : Flu, t = { s with flu := x } ∧ x.cycle = s.flu.cycle ∧ x.rx = s.flu.rx ∧ x.fwd = s.flu.fwd ∧ x.fwdFrame = s.flu.fwdFrame

theorem State.SyncOnly.refl (s : State) : s.SyncOnly s := ⟨s.flu, rfl, rfl, rfl, rfl, rfl⟩

theorem State.SyncOnly.trans {r s t : State} (h : r.SyncOnly s) (k : s.SyncOnly t) : r.SyncOnly t := by
  obtain ⟨x, rfl, h1, h2, h3, h4⟩ := h
  obtain ⟨y, rfl, k1, k2, k3, k4⟩ := k
  exact ⟨y, rfl, k1.trans h1, k2.trans h2, k3.trans h3, k4.trans h4⟩

theorem State.syncFrame_only (s : State) (f : RawFrame) (h : Hdr) (dev : Int) (ok : Bool) : s.SyncOnly (s.syncFrame f h dev ok) := by
  have h1 : s.SyncOnly (if -1000 ≤ dev ∧ dev ≤ 1000 then { s with flu := { s.flu with sync := s.flu.sync ++ [(h.node, f.ring, dev)] } }
      else s) := by
    split
    · exact ⟨_, rfl, rfl, rfl, rfl, rfl⟩
    · exact .refl s
  unfold State.syncFrame
  dsimp only
  generalize (if -1000 ≤ dev ∧ dev ≤ 1000 then ({ s with flu := { s.flu with sync := s.flu.sync ++ [(h.node, f.ring, dev)] } } : State)
      else s) = u at h1 ⊢
  have h2 : s.SyncOnly (if u.flu.syncSched.any (fun x => decide (x.1 = h.node)) = true then u
      else { u with flu := { u.flu with syncSched := u.flu.syncSched ++ [(h.node, h.sched)] } }) := by
    split
    · exact h1
    · exact h1.trans ⟨_, rfl, rfl, rfl, rfl, rfl⟩
  generalize (if u.flu.syncSched.any (fun x => decide (x.1 = h.node)) = true then u
      else { u with flu := { u.flu with syncSched := u.flu.syncSched ++ [(h.node, h.sched)] } }) = v at h2 ⊢
  split
  · exact h1
  · split
    · exact h2.trans ⟨_, rfl, rfl, rfl, rfl, rfl⟩
    · exact h2

/-- The counter of the frames accepted on a ring. -/
abbrev rxCount (ring : Nat) : Fld := byRing ring F.FLU_RX_A_CNT_COUNT F.FLU_RX_B_CNT_COUNT

theorem rxCount_cases (ring : Nat) : rxCount ring = F.FLU_RX_A_CNT_COUNT ∨ rxCount ring = F.FLU_RX_B_CNT_COUNT := by
  unfold rxCount byRing
  split
  · exact .inl rfl
  · exact .inr rfl

/-- Where the node is in sync no frame is taken for integration (R330, R332). -/
theorem State.integrates_synced {s : State} (hi : s.flu.integ = .synced) (h : Hdr) (p : List Byte) : s.integrates h p = false := by
  unfold State.integrates
  rw [hi]
  exact Bool.and_false _

theorem State.syncSchedCheck_synced {s : State} (hi : s.flu.integ = .synced) (h : Hdr) : s.syncSchedCheck h = s := by
  unfold State.syncSchedCheck
  rw [hi]

/-- What a frame tells about the clock and the votes, as it is accepted (R323). -/
def State.syncTold (s : State) (f : RawFrame) (h : Hdr) : State :=
  s.when (s.isSyncFrame h f.payload) (fun u => u.syncFrame f h (s.frameDev f h f.hops) true)

/-- The frame is counted on its ring and ends the silence. -/
def State.frameCounted (s : State) (ring : Nat) : State :=
  let u := s.incF (rxCount ring)
  { u with lds := { u.lds with anyFrame := true, quiet := 0 } }

section
variable {s : State} {f : RawFrame} {h : Hdr}

theorem State.syncTold_only (s : State) (f : RawFrame) (h : Hdr) : s.SyncOnly (s.syncTold f h) := by
  unfold State.syncTold
  rcases State.when_cases s (s.isSyncFrame h f.payload) (fun u => u.syncFrame f h (s.frameDev f h f.hops) true) with ⟨-, he⟩ | ⟨-, he⟩ <;> rw [he]
  · exact s.syncFrame_only _ _ _ _
  · exact .refl s

theorem State.frameCounted_shows (s : State) (ring : Nat) :
    (s.frameCounted ring).flu = s.flu ∧ (s.frameCounted ring).getF (rxCount ring) = min (2 ^ 32 - 1) (s.getF (rxCount ring) + 1) ∧
      s.Within [0x400D] (s.frameCounted ring) := by
  have hok : (rxCount ring).ok = true ∧ (rxCount ring).addr / 0x10000 ∈ [0x400D] ∧ (rxCount ring).width = 32 := by
    rcases rxCount_cases ring with h | h <;> rw [h] <;> decide
  obtain ⟨h1, h2, h3⟩ := hok
  refine ⟨rfl, (State.getF_incF_same s (rxCount ring) h1).trans (by rw [h3]), ?_⟩
  exact ((State.Within.refl _ s).incF _ h2).hidden ..

theorem State.judgeFrame_eq (h1 : hcrcOk f.header = true) (h2 : f.eof = true)
    (h3 : f.crc = crc32c (f.header ++ f.payload)) (h4 : f.payload.length = h.len) (h5 : f.hopsInv = 255 - f.hops % 256)
    (hi : s.flu.integ = .synced) (hc : h.cycle = s.flu.cycle % 65536)
    (hlo : -(s.getF F.FLU_CFG_PRECISION : Int) ≤ s.frameDev f h f.hops) (hhi : s.frameDev f h f.hops ≤ s.getF F.FLU_CFG_PRECISION) :
    s.judgeFrame f h = ((s.syncTold f h).frameCounted f.ring).deliver ⟨f.ring, h, f.payload⟩ := by
  have htail : badTail f = false := by
    unfold badTail
    rw [h5]
    simp
  have hcrc : (!f.eof || decide (f.crc ≠ crc32c (f.header ++ f.payload)) || decide (f.payload.length ≠ h.len)) = false := by
    rw [h2, h3, h4]
    simp
  have hok : (decide (-(s.getF F.FLU_CFG_PRECISION : Int) ≤ s.frameDev f h f.hops) &&
      decide (s.frameDev f h f.hops ≤ (s.getF F.FLU_CFG_PRECISION : Int))) = true := by
    rw [decide_eq_true hlo, decide_eq_true hhi]
    rfl
  have hsame : s.when (s.isSyncFrame h f.payload) (fun s => s.syncSchedCheck h) = s := by
    rcases State.when_cases s (s.isSyncFrame h f.payload) (fun s => s.syncSchedCheck h) with ⟨-, he⟩ | ⟨-, he⟩ <;> rw [he]
    exact State.syncSchedCheck_synced hi h
  unfold State.judgeFrame
  rw [h1, hcrc, htail]
  dsimp only
  rw [if_neg (by decide), if_neg (by decide), hsame, State.integrates_synced hi, if_neg Bool.false_ne_true, if_neg (not_not.2 hc),
    if_neg (α := Nat) Bool.false_ne_true, hok, if_neg (by decide)]
  rfl

/-- A frame in order whose start lies within PRECISION of its action point is accepted (R292). -/
theorem State.frameAccepted_shows (s : State) (f : RawFrame) (h : Hdr) (ht : h.ptype ≠ 1) :
    ∃ t, ((s.syncTold f h).frameCounted f.ring).deliver ⟨f.ring, h, f.payload⟩ = t ∧ t.flu.rx = s.flu.rx ++ [⟨f.ring, h, f.payload⟩] ∧
      t.getF (rxCount f.ring) = min (2 ^ 32 - 1) (s.getF (rxCount f.ring) + 1) ∧
      t.flu.fwd = s.flu.fwd ∧ t.flu.fwdFrame = s.flu.fwdFrame ∧ s.Within [0x400D] t := by
  obtain ⟨x, hx, -, hrx, hfwd, hframe⟩ := s.syncTold_only f h
  have hw : s.Within [0x400D] (s.syncTold f h) := hx ▸ (State.Within.refl _ s).hidden ..
  have hcnt0 : (s.syncTold f h).getF (rxCount f.ring) = s.getF (rxCount f.ring) := by
    rw [hx]
    rfl
  have hflu0 : (s.syncTold f h).flu = x := by rw [hx]
  generalize s.syncTold f h = u at hw hcnt0 hflu0
  obtain ⟨k1, k2, k3⟩ := u.frameCounted_shows f.ring
  have hww := hw.trans k3
  generalize u.frameCounted f.ring = w at k1 k2 hww
  have hd := w.deliver_shows ⟨f.ring, h, f.payload⟩ ht
  have hflu : (w.deliver ⟨f.ring, h, f.payload⟩).flu = { w.flu with rx := w.flu.rx ++ [⟨f.ring, h, f.payload⟩] } := hd.same
  have hcount : (w.deliver ⟨f.ring, h, f.payload⟩).getF (rxCount f.ring) = w.getF (rxCount f.ring) := hd.getF (rxCount f.ring) (by
    rcases rxCount_cases f.ring with h | h <;> rw [h] <;> simp [deliverRegs])
  have hwithin : s.Within [0x400D] (w.deliver ⟨f.ring, h, f.payload⟩) :=
    State.Within.trans (hww.hidden ..) (hd.mono (Q := inBlocks [0x400D]) fun a ha => by simp [inBlocks, ha.1]).within
  refine ⟨_, rfl, ?_, hcount.trans (k2.trans (by rw [hcnt0])), ?_, ?_, hwithin⟩
  · rw [hflu, k1, hflu0, hrx]
  · rw [hflu, k1, hflu0]
    exact hfwd
  · rw [hflu, k1, hflu0]
    exact hframe

end

/-- Tail bytes that disagree are counted in any frame (R288). -/
def State.tailChecked (s : State) (f : RawFrame) : State :=
  s.when (badTail f) (fun s => (s.incF F.FLU_TAIL_ERR_CNT_COUNT).event Ev.flu 9)

/-- A frame on a ring is forwarded or stripped, and remembered (R287, R290). -/
def State.frameSeen (s : State) (f : RawFrame) (h : Hdr) : State :=
  let fwd := if s.strips f h || s.flag (ringBypass f.ring) then none else some (f.ring, (f.hops + 1) % 256)
  { s with flu := { s.flu with
      fwd := fwd, fwdFrame := if fwd.isSome then forwardedBytes f else [], fwdAbort := false
      seen := ((if s.flu.seen.contains (f.ring, h.slot, h.cycle) then [] else [(f.ring, h.slot, h.cycle)]) ++ s.flu.seen).take 512 } }

theorem State.tailChecked_good (s : State) {f : RawFrame} (h : f.hopsInv = 255 - f.hops % 256) : s.tailChecked f = s := by
  have hb : badTail f = false := by
    unfold badTail
    rw [h]
    simp
  unfold State.tailChecked
  rw [hb]
  rfl

theorem State.tailChecked_shows (s : State) (f : RawFrame) : (s.tailChecked f).flu = s.flu ∧ s.Within [0x400D] (s.tailChecked f) ∧
    (∀ g ∈ [ringBypass 0, ringBypass 1, F.FLU_HCRC_A_CNT_COUNT, F.FLU_HCRC_B_CNT_COUNT], (s.tailChecked f).getF g = s.getF g) ∧
    (badTail f = true → (s.tailChecked f).getF F.FLU_TAIL_ERR_CNT_COUNT = min (2 ^ 32 - 1) (s.getF F.FLU_TAIL_ERR_CNT_COUNT + 1)) ∧
    (badTail f = false → (s.tailChecked f).regs = s.regs) := by
  unfold State.tailChecked
  cases badTail f
  · exact ⟨rfl, .refl _ s, fun _ _ => rfl, fun h => absurd h (by decide), fun _ => rfl⟩
  · refine ⟨(State.event_flu _ _ _).trans (State.incF_flu _ _), ((State.Within.refl _ s).incF _ (by decide)).event _ _ (by decide), fun g hg => ?_,
      fun _ => State.getF_incF_event _ _ _ _ (by decide) (by decide), fun h => absurd h (by decide)⟩
    have hap : Ev.flu.ev.addr ≠ g.addr ∧ F.FLU_TAIL_ERR_CNT_COUNT.apart g = true := by
      simp only [List.mem_cons, List.not_mem_nil, or_false] at hg
      rcases hg with rfl | rfl | rfl | rfl <;> decide
    exact (State.getF_event_other _ _ _ _ hap.1).trans (State.getF_incF_apart _ _ _ rfl hap.2)

/-- A bad header is counted on its ring (R292). -/
theorem State.reject_hcrc (s : State) (f : RawFrame) (h : Hdr) :
    (s.reject f h 0).flu = s.flu ∧ s.Within [0x400D] (s.reject f h 0) ∧
      (s.reject f h 0).getF (byRing f.ring F.FLU_HCRC_A_CNT_COUNT F.FLU_HCRC_B_CNT_COUNT) =
        min (2 ^ 32 - 1) (s.getF (byRing f.ring F.FLU_HCRC_A_CNT_COUNT F.FLU_HCRC_B_CNT_COUNT) + 1) := by
  have hc : byRing f.ring F.FLU_HCRC_A_CNT_COUNT F.FLU_HCRC_B_CNT_COUNT = F.FLU_HCRC_A_CNT_COUNT ∨
      byRing f.ring F.FLU_HCRC_A_CNT_COUNT F.FLU_HCRC_B_CNT_COUNT = F.FLU_HCRC_B_CNT_COUNT := by
    unfold byRing
    split
    · exact .inl rfl
    · exact .inr rfl
  unfold State.reject
  dsimp only
  rw [if_pos rfl]
  generalize byRing f.ring F.FLU_HCRC_A_CNT_COUNT F.FLU_HCRC_B_CNT_COUNT = c at hc ⊢
  have hok : c.ok = true ∧ c.addr / 0x10000 ∈ [0x400D] ∧ c.width = 32 ∧ c.addr ≠ F.FLU_LAST_REJ_REASON.addr := by
    rcases hc with h | h <;> rw [h] <;> decide
  obtain ⟨h1, h2, h3, h4⟩ := hok
  refine ⟨rfl, ((State.Within.refl _ s).incF _ h2).setReg _ _ (by decide), ?_⟩
  exact (State.getF_setReg_other _ _ _ _ (Ne.symm h4)).trans ((State.getF_incF_same _ _ h1).trans (by rw [h3]))

section
variable {s : State} {f : RawFrame} (hr : s.sys.phase = .run) (hring : f.ring < 2) (hen : s.flag (ringEn f.ring) = true)
  (hlock : s.flag (ringLock f.ring) = true) (hce : f.codeErrs = 0) (hins : f.inserting = false) (hn : (Hdr.parse f.header).node ≠ s.nodeId)
include hr hring hen hlock hce hins hn

theorem State.frameReceive_eq : exec (.flueFrameReceive f) s = .next (
    if s.flu.seen.contains (f.ring, (Hdr.parse f.header).slot, (Hdr.parse f.header).cycle) = true then
      (s.tailChecked f).frameSeen f (Hdr.parse f.header)
    else ((s.tailChecked f).frameSeen f (Hdr.parse f.header)).judgeFrame f (Hdr.parse f.header)) := by
  have hgo : (!s.running || decide (2 ≤ f.ring) || !s.flag (ringEn f.ring) || !s.flag (ringLock f.ring)) = false := by
    rw [State.running_of_run hr, hen, hlock, decide_eq_false (by omega)]
    rfl
  have hcode : s.when (decide (0 < f.codeErrs)) (fun s =>
      (s.addF (byRing f.ring F.FLU_CODE_A_CNT_COUNT F.FLU_CODE_B_CNT_COUNT) f.codeErrs).event Ev.flu 2) = s := by
    rw [hce]
    rfl
  have htail : (s.tailChecked f).flu = s.flu := (s.tailChecked_shows f).1
  refine next_congr ?_
  unfold State.frameReceive
  rw [hgo, if_neg (by decide)]
  dsimp only
  rw [hcode, if_neg (by rw [hins]; simp)]
  have hdup : (s.flu.seen.contains (f.ring, (Hdr.parse f.header).slot, (Hdr.parse f.header).cycle) ||
      decide ((Hdr.parse f.header).node = s.nodeId)) = s.flu.seen.contains (f.ring, (Hdr.parse f.header).slot, (Hdr.parse f.header).cycle) := by
    rw [decide_eq_false hn, Bool.or_false]
  rw [← hdup, ← htail]
  rfl

/-- A frame received already is not delivered and not forwarded again (R290). -/
theorem State.frameReceive_again (hdup : (f.ring, (Hdr.parse f.header).slot, (Hdr.parse f.header).cycle) ∈ s.flu.seen) :
    ∃ t, exec (.flueFrameReceive f) s = .next t ∧ t.flu.rx = s.flu.rx ∧ t.flu.fwd = none ∧ t.flu.fwdFrame = [] ∧ t.flu.fwdAbort = false ∧
      (f.eof = true → f.hopsInv ≠ 255 - f.hops % 256 →
        t.getF F.FLU_TAIL_ERR_CNT_COUNT = min (2 ^ 32 - 1) (s.getF F.FLU_TAIL_ERR_CNT_COUNT + 1)) ∧
      (f.eof = false ∨ f.hopsInv = 255 - f.hops % 256 → t.regs = s.regs) ∧ s.SameRegs [0x400D] t ∧ s.SameStores t := by
  have hc : s.flu.seen.contains (f.ring, (Hdr.parse f.header).slot, (Hdr.parse f.header).cycle) = true := List.contains_iff_mem.2 hdup
  rw [State.frameReceive_eq hr hring hen hlock hce hins hn, if_pos hc]
  obtain ⟨h1, h2, -, h4, h5⟩ := s.tailChecked_shows f
  generalize s.tailChecked f = u at h1 h2 h4 h5
  have hfwd : (u.frameSeen f (Hdr.parse f.header)).flu.fwd = none := by
    have hs : u.strips f (Hdr.parse f.header) = true := by
      unfold State.strips
      rw [h1, hc]
      simp
    unfold State.frameSeen
    dsimp only
    rw [hs]
    rfl
  have hframe : (u.frameSeen f (Hdr.parse f.header)).flu.fwdFrame =
      if (u.frameSeen f (Hdr.parse f.header)).flu.fwd.isSome then forwardedBytes f else [] := rfl
  have hw : s.Within [0x400D] (u.frameSeen f (Hdr.parse f.header)) := h2.hidden ..
  have hrx : (u.frameSeen f (Hdr.parse f.header)).flu.rx = s.flu.rx := by
    rw [← h1]
    rfl
  refine ⟨_, rfl, hrx, hfwd, by rw [hframe, hfwd]; rfl, rfl, fun he hi => h4 ?_, fun hg => h5 ?_, hw.1, hw.2⟩
  · unfold badTail
    rw [he, decide_eq_true hi]
    rfl
  · unfold badTail
    rcases hg with he | he <;> rw [he] <;> simp

/-- A bad header is counted, whatever its tail (R292). -/
theorem State.frameReceive_header (hnew : (f.ring, (Hdr.parse f.header).slot, (Hdr.parse f.header).cycle) ∉ s.flu.seen)
    (hbad : hcrcOk f.header = false) :
    ∃ t, exec (.flueFrameReceive f) s = .next t ∧ t.flu.rx = s.flu.rx ∧
      t.getF (byRing f.ring F.FLU_HCRC_A_CNT_COUNT F.FLU_HCRC_B_CNT_COUNT) =
        min (2 ^ 32 - 1) (s.getF (byRing f.ring F.FLU_HCRC_A_CNT_COUNT F.FLU_HCRC_B_CNT_COUNT) + 1) ∧
      s.SameRegs [0x400D] t ∧ s.SameStores t := by
  rw [State.frameReceive_eq hr hring hen hlock hce hins hn, if_neg (fun h => hnew (List.contains_iff_mem.1 h))]
  obtain ⟨h1, h2, h3, -, -⟩ := s.tailChecked_shows f
  have hcnt : (s.tailChecked f).getF (byRing f.ring F.FLU_HCRC_A_CNT_COUNT F.FLU_HCRC_B_CNT_COUNT) =
      s.getF (byRing f.ring F.FLU_HCRC_A_CNT_COUNT F.FLU_HCRC_B_CNT_COUNT) := by
    refine h3 _ ?_
    unfold byRing
    split <;> simp
  generalize s.tailChecked f = u at h1 h2 hcnt
  have hj : (u.frameSeen f (Hdr.parse f.header)).judgeFrame f (Hdr.parse f.header) =
      (u.frameSeen f (Hdr.parse f.header)).reject f (Hdr.parse f.header) 0 := by
    unfold State.judgeFrame
    rw [hbad]
    exact if_pos rfl
  have hrx : (u.frameSeen f (Hdr.parse f.header)).flu.rx = s.flu.rx := by
    rw [← h1]
    rfl
  have hw : s.Within [0x400D] (u.frameSeen f (Hdr.parse f.header)) := h2.hidden ..
  have hcnt' : (u.frameSeen f (Hdr.parse f.header)).getF (byRing f.ring F.FLU_HCRC_A_CNT_COUNT F.FLU_HCRC_B_CNT_COUNT) =
      s.getF (byRing f.ring F.FLU_HCRC_A_CNT_COUNT F.FLU_HCRC_B_CNT_COUNT) := hcnt
  rw [hj]
  generalize u.frameSeen f (Hdr.parse f.header) = v at hrx hw hcnt'
  obtain ⟨k1, k2, k3⟩ := v.reject_hcrc f (Hdr.parse f.header)
  have hall := hw.trans k2
  exact ⟨_, rfl, (congrArg Flu.rx k1).trans hrx, k3.trans (by rw [hcnt']), hall.1, hall.2⟩

/-- A frame in order is accepted once, and goes on unchanged but for its tail (R287, R288, R292). -/
theorem State.frameReceive_good (hbyp : s.flag (ringBypass f.ring) = false)
    (hnew : (f.ring, (Hdr.parse f.header).slot, (Hdr.parse f.header).cycle) ∉ s.flu.seen)
    (h1 : hcrcOk f.header = true) (h2 : f.eof = true) (h3 : f.crc = crc32c (f.header ++ f.payload))
    (h4 : f.payload.length = (Hdr.parse f.header).len) (h5 : f.hopsInv = 255 - f.hops % 256) (hi : s.flu.integ = .synced)
    (hc : (Hdr.parse f.header).cycle = s.flu.cycle % 65536) (ht : (Hdr.parse f.header).ptype ≠ 1)
    (hlo : -(s.getF F.FLU_CFG_PRECISION : Int) ≤ s.frameDev f (Hdr.parse f.header) f.hops)
    (hhi : s.frameDev f (Hdr.parse f.header) f.hops ≤ s.getF F.FLU_CFG_PRECISION) :
    ∃ t, exec (.flueFrameReceive f) s = .next t ∧ t.flu.rx = s.flu.rx ++ [⟨f.ring, Hdr.parse f.header, f.payload⟩] ∧
      t.getF (rxCount f.ring) = min (2 ^ 32 - 1) (s.getF (rxCount f.ring) + 1) ∧
      (-1000 ≤ s.frameDev f (Hdr.parse f.header) (s.hopsNom f.ring (Hdr.parse f.header).node) →
        s.frameDev f (Hdr.parse f.header) (s.hopsNom f.ring (Hdr.parse f.header).node) ≤ 1000 →
        t.flu.fwd = some (f.ring, (f.hops + 1) % 256) ∧
          t.flu.fwdFrame = f.header ++ f.payload ++ leBytes 4 f.crc ++ frameTail (f.hops + 1)) ∧
      s.SameRegs [0x400D] t ∧ s.SameStores t := by
  have hnc : s.flu.seen.contains (f.ring, (Hdr.parse f.header).slot, (Hdr.parse f.header).cycle) = false :=
    Bool.eq_false_iff.2 fun h => hnew (List.contains_iff_mem.1 h)
  rw [State.frameReceive_eq hr hring hen hlock hce hins hn, hnc, if_neg Bool.false_ne_true, s.tailChecked_good h5]
  have hj := State.judgeFrame_eq (s := s.frameSeen f (Hdr.parse f.header)) h1 h2 h3 h4 h5 hi hc hlo hhi
  obtain ⟨t, ht', k1, k2, k3, k4, k5⟩ := (s.frameSeen f (Hdr.parse f.header)).frameAccepted_shows f (Hdr.parse f.header) ht
  have hseen : s.Within [0x400D] (s.frameSeen f (Hdr.parse f.header)) := (State.Within.refl _ s).hidden ..
  have hall := hseen.trans k5
  refine ⟨t, congrArg _ (hj.trans ht'), k1, k2, fun hl hu => ?_, hall.1, hall.2⟩
  have hs : s.strips f (Hdr.parse f.header) = false := by
    unfold State.strips
    dsimp only
    rw [hnc, decide_eq_false hn, decide_eq_false (not_lt.2 hu), decide_eq_false (not_lt.2 hl)]
    simp
  have hfwd : (s.frameSeen f (Hdr.parse f.header)).flu.fwd = some (f.ring, (f.hops + 1) % 256) := by
    unfold State.frameSeen
    dsimp only
    rw [hs, hbyp]
    rfl
  have hframe : (s.frameSeen f (Hdr.parse f.header)).flu.fwdFrame =
      if (s.frameSeen f (Hdr.parse f.header)).flu.fwd.isSome then forwardedBytes f else [] := rfl
  refine ⟨k3.trans hfwd, k4.trans ?_⟩
  rw [hframe, hfwd]
  rfl

end

/-- Settles O20: a frame is forwarded or stripped by what the ring has seen, and judged once by its header, its CRC and its start. -/
theorem flueFrameReceive : Obligations.FlueFrameReceive := by
  unfold Obligations.FlueFrameReceive
  intro s f hr hring hen hlock hce hins hn hbyp
  exact ⟨fun hnew => ⟨fun h1 h2 h3 h4 h5 hi hc ht hlo hhi =>
      State.frameReceive_good hr hring hen hlock hce hins hn hbyp hnew h1 h2 h3 h4 h5 hi hc ht hlo hhi,
    fun hbad => State.frameReceive_header hr hring hen hlock hce hins hn hnew hbad⟩,
    fun hdup => State.frameReceive_again hr hring hen hlock hce hins hn hdup⟩

end Sys2Proof.Machine
end

section
/-!
# The power domains
-/
namespace Sys2Proof.Machine

open Sys2Proof

/-! ### The registers of a power domain -/

theorem PWR_DOM_block {d : Nat} (hd : d < 22) :
    (F.PWR_DOM_VOTE_VOTES d).addr / 0x10000 ∈ [0x4001] ∧ (F.PWR_DOM_STAT_STATE d).addr / 0x10000 ∈ [0x4001] ∧
      (F.PWR_DOM_REFUSE_COUNT d).addr / 0x10000 ∈ [0x4001] ∧ (F.PWR_DOM_ABORT_COUNT d).addr / 0x10000 ∈ [0x4001] ∧
      (F.PWR_DOM_ENTRY_CNT_COUNT d).addr / 0x10000 ∈ [0x4001] := by
  simp only [F.PWR_DOM_VOTE_VOTES, F.PWR_DOM_STAT_STATE, F.PWR_DOM_REFUSE_COUNT, F.PWR_DOM_ABORT_COUNT, F.PWR_DOM_ENTRY_CNT_COUNT, List.mem_cons,
    List.not_mem_nil, or_false]
  omega

section
variable (s : State) (d : Nat)

theorem State.domState_pos (hd : 1 ≤ d) : s.domState d = s.getF (F.PWR_DOM_STAT_STATE d) := if_neg (by omega)

/-! Votes (R461) -/

theorem State.putVote_only (c : Nat) (b : Bool) :
    s.OnlyRegs [(F.PWR_DOM_VOTE_VOTES d).addr] (s.putVote d c b) ∧ ({ s.putVote d c b with regs := s.regs } : State) = s := by
  have ha : (F.PWR_DOM_VOTE_SVC_VOTE d).addr = (F.PWR_DOM_VOTE_VOTES d).addr := rfl
  unfold State.putVote
  dsimp only
  split
  · exact ⟨((State.OnlyRegs.refl _ s).setF _ _ (by simp)).setFlag _ _ (by simp [ha]), rfl⟩
  · exact ⟨(State.OnlyRegs.refl _ s).setF _ _ (by simp), rfl⟩

theorem State.putVote_getF (c : Nat) (b : Bool) (g : Fld) (hg : g.addr ≠ (F.PWR_DOM_VOTE_VOTES d).addr) :
    (s.putVote d c b).getF g = s.getF g := State.getF_congr ((s.putVote_only d c b).1 _ (by simpa using hg))

theorem State.votes_lt : s.votes d < 2 ^ 8 := State.getF_lt s _

theorem State.putVote_votes (c : Nat) (b : Bool) (hc : c < 8) :
    (s.putVote d c b).votes d = if b then s.votes d ||| 2 ^ c else s.votes d - s.votes d / 2 ^ c % 2 * 2 ^ c := by
  have hlt : (if b then s.votes d ||| 2 ^ c else s.votes d - s.votes d / 2 ^ c % 2 * 2 ^ c) < 2 ^ 8 := by
    have hv := s.votes_lt d
    cases b
    · exact (Nat.sub_le _ _).trans_lt hv
    · exact Nat.or_lt_two_pow hv (Nat.pow_lt_pow_right (by decide) hc)
  have hset (u : State) (w : Nat) (hw : w < 2 ^ 8) : (u.setF (F.PWR_DOM_VOTE_VOTES d) w).getF (F.PWR_DOM_VOTE_VOTES d) = w :=
    (State.getF_setF_same _ _ _ rfl).trans (Nat.mod_eq_of_lt hw)
  unfold State.putVote
  dsimp only
  split
  · exact (getF_setFlag_apart _ _ _ _ rfl ((Fld.apart_iff _ _).2 (.inr (by simp [F.PWR_DOM_VOTE_VOTES, F.PWR_DOM_VOTE_SVC_VOTE])))).trans
      (hset _ _ hlt)
  · exact hset _ _ hlt

end

section
variable (s : State) {d : Nat} (hd : 1 ≤ d) (hd2 : d < 22)
include hd hd2

/-! States and steps (R461, R463) -/

/-- The parts of a power domain that a command may change: the registers of the block and the hidden states of the domains. -/
structure State.InPower (s t : State) : Prop where
  within : s.Within [0x4001] t
  sys : t.sys = s.sys
  flt : t.flt = s.flt
  img : t.img = s.img

omit hd hd2 in
theorem State.InPower.refl : s.InPower s := ⟨.refl _ s, rfl, rfl, rfl⟩

omit hd hd2 in
theorem State.InPower.trans {r s t : State} (h : r.InPower s) (k : s.InPower t) : r.InPower t :=
  ⟨h.within.trans k.within, k.sys.trans h.sys, k.flt.trans h.flt, k.img.trans h.img⟩

omit hd in
theorem State.putVote_power (c : Nat) (b : Bool) : s.InPower (s.putVote d c b) ∧ (s.putVote d c b).doms = s.doms := by
  obtain ⟨h1, h2, h3, h4, h5⟩ := PWR_DOM_block hd2
  obtain ⟨k1, k2⟩ := s.putVote_only d c b
  have hw : s.Within [0x4001] (s.putVote d c b) := by
    unfold State.putVote
    dsimp only
    split
    · exact ((State.Within.refl _ s).setF _ _ h1).setFlag (F.PWR_DOM_VOTE_SVC_VOTE d) _ h1
    · exact (State.Within.refl _ s).setF _ _ h1
  have hsys := congrArg State.sys k2
  have hflt := congrArg State.flt k2
  have himg := congrArg State.img k2
  have hdoms := congrArg State.doms k2
  exact ⟨⟨hw, hsys, hflt, himg⟩, hdoms⟩

theorem State.setDomState_shows {v : Nat} (hv : v < 4) :
    (s.setDomState d v).domState d = v ∧ (v = 2 → bit ((s.setDomState d v).getF F.PWR_STATUS_DOM_ON) d = true) ∧
      s.InPower (s.setDomState d v) ∧ (s.setDomState d v).doms = s.doms ∧
      ∀ g : Fld, g.addr ≠ (F.PWR_DOM_STAT_STATE d).addr → g.addr ≠ F.PWR_STATUS_DOM_ON.addr → (s.setDomState d v).getF g = s.getF g := by
  have hap : F.PWR_STATUS_DOM_ON.apart (F.PWR_DOM_STAT_STATE d) = true := by
    simp only [Fld.apart_iff, F.PWR_STATUS_DOM_ON, F.PWR_DOM_STAT_STATE]
    omega
  obtain ⟨-, hb, -⟩ := PWR_DOM_block hd2
  unfold State.setDomState
  dsimp only
  refine ⟨?_, ?_, ⟨?_, rfl, rfl, rfl⟩, rfl, fun g h1 h2 => ?_⟩
  · rw [State.domState_pos _ d hd, State.getF_setF_apart _ _ _ _ rfl hap, State.getF_setF_same _ _ _ rfl]
    exact Nat.mod_eq_of_lt hv
  · rintro rfl
    have hon : (s.setF (F.PWR_DOM_STAT_STATE d) 2).getF F.PWR_STATUS_DOM_ON < 2 ^ 22 := State.getF_lt _ _
    rw [if_pos rfl, State.getF_setF_same _ _ _ rfl]
    have hm : ((s.setF (F.PWR_DOM_STAT_STATE d) 2).getF F.PWR_STATUS_DOM_ON ||| 2 ^ d) % 2 ^ F.PWR_STATUS_DOM_ON.width =
        (s.setF (F.PWR_DOM_STAT_STATE d) 2).getF F.PWR_STATUS_DOM_ON ||| 2 ^ d :=
      Nat.mod_eq_of_lt (Nat.or_lt_two_pow hon (Nat.pow_lt_pow_right (by decide) hd2))
    rw [hm]
    exact bit_or_self _ _
  · exact ((State.Within.refl _ s).setF _ _ hb).setF _ _ (by decide)
  · exact State.getF_congr ((State.reg_setF_other _ _ _ _ (Ne.symm h2)).trans (State.reg_setF_other _ _ _ _ (Ne.symm h1)))

omit hd hd2 in
theorem State.setDom_shows (x : Dom) (hl : d < s.doms.length) :
    (s.setDom d x).dom d = x ∧ s.InPower (s.setDom d x) ∧ ∀ g : Fld, (s.setDom d x).getF g = s.getF g :=
  ⟨by simp [State.dom, State.setDom, hl], ⟨(State.Within.refl _ s).hidden .., rfl, rfl, rfl⟩, fun _ => rfl⟩

theorem State.setStep_shows (k : Nat) :
    (s.setF (F.PWR_DOM_STAT_STEP d) k).domState d = s.domState d ∧ s.InPower (s.setF (F.PWR_DOM_STAT_STEP d) k) ∧
      ∀ g : Fld, g.addr ≠ (F.PWR_DOM_STAT_STATE d).addr → (s.setF (F.PWR_DOM_STAT_STEP d) k).getF g = s.getF g := by
  obtain ⟨-, hb, -⟩ := PWR_DOM_block hd2
  refine ⟨?_, ⟨(State.Within.refl _ s).setF (F.PWR_DOM_STAT_STEP d) _ hb, rfl, rfl, rfl⟩, fun g hg => ?_⟩
  · rw [State.domState_pos _ d hd, State.domState_pos _ d hd]
    exact State.getF_setF_apart _ _ _ _ rfl ((Fld.apart_iff _ _).2 (.inr (by simp [F.PWR_DOM_STAT_STEP, F.PWR_DOM_STAT_STATE])))
  · exact State.getF_congr (State.reg_setF_other _ _ _ _ (Ne.symm hg))

/-! Refusals and aborts (R462) -/

/-- The registers behind which a refusal or an abort shows besides the domain's own. -/
def noteRegs : List Nat := [F.PWR_LAST_REFUSAL_DOMAIN.addr, Ev.pwr.ev.addr]

theorem State.domRefuse_shows {n : Nat} (hn : n < 256) :
    (s.domRefuse d n).getF (F.PWR_DOM_REFUSE_LAST_ID d) = n ∧
      (s.domRefuse d n).getF (F.PWR_DOM_REFUSE_COUNT d) = min 65535 (s.getF (F.PWR_DOM_REFUSE_COUNT d) + 1) ∧
      s.InPower (s.domRefuse d n) ∧ (s.domRefuse d n).doms = s.doms ∧
      ∀ g : Fld, g.addr ≠ (F.PWR_DOM_REFUSE_COUNT d).addr → g.addr ∉ noteRegs → (s.domRefuse d n).getF g = s.getF g := by
  obtain ⟨-, -, hb, -⟩ := PWR_DOM_block hd2
  have hfar : F.PWR_LAST_REFUSAL_DOMAIN.addr ≠ (F.PWR_DOM_REFUSE_COUNT d).addr ∧ Ev.pwr.ev.addr ≠ (F.PWR_DOM_REFUSE_COUNT d).addr := by
    simp only [F.PWR_LAST_REFUSAL_DOMAIN, Ev.pwr, F.PWR_EVENT_SEEN, F.PWR_DOM_REFUSE_COUNT]
    omega
  obtain ⟨hf1, hf2⟩ := hfar
  have hnote (u : State) (a b e : Nat) (g : Fld) (h1 : F.PWR_LAST_REFUSAL_DOMAIN.addr ≠ g.addr) (h2 : Ev.pwr.ev.addr ≠ g.addr) :
      ((((u.setF F.PWR_LAST_REFUSAL_DOMAIN a).setF F.PWR_LAST_REFUSAL_ID b).setF F.PWR_LAST_REFUSAL_ABORT e).event Ev.pwr 6).getF g = u.getF g :=
    (State.getF_event_other _ _ _ _ h2).trans (State.getF_congr ((State.reg_setF_other _ F.PWR_LAST_REFUSAL_ABORT _ _ h1).trans
      ((State.reg_setF_other _ F.PWR_LAST_REFUSAL_ID _ _ h1).trans (State.reg_setF_other _ F.PWR_LAST_REFUSAL_DOMAIN _ _ h1))))
  unfold State.domRefuse
  refine ⟨?_, ?_, ⟨?_, ?_, ?_, ?_⟩, ?_, fun g h1 h2 => ?_⟩
  · rw [hnote _ _ _ _ (F.PWR_DOM_REFUSE_LAST_ID d) hf1 hf2, State.getF_setF_same _ _ _ rfl]
    exact Nat.mod_eq_of_lt hn
  · rw [hnote _ _ _ _ (F.PWR_DOM_REFUSE_COUNT d) hf1 hf2, State.getF_setF_apart _ _ _ _ rfl ((Fld.apart_iff _ _).2
      (.inr (by simp [F.PWR_DOM_REFUSE_LAST_ID, F.PWR_DOM_REFUSE_COUNT])))]
    exact State.getF_incF_same _ _ rfl
  · exact ((((((State.Within.refl _ s).incF _ hb).setF (F.PWR_DOM_REFUSE_LAST_ID d) _ hb).setF _ _ (by decide)).setF _ _ (by decide)).setF _ _
      (by decide)).event _ _ (by decide)
  · simp only [State.event_sys, State.setF_sys, State.incF_sys]
  · simp only [State.event_flt, State.setF_flt, State.incF_flt]
  · simp only [State.event_img, State.setF_img, State.incF_img]
  · simp only [State.event_doms, State.setF_doms, State.incF_doms]
  · simp only [noteRegs, List.mem_cons, List.not_mem_nil, or_false, not_or] at h2
    rw [hnote _ _ _ _ g (Ne.symm h2.1) (Ne.symm h2.2)]
    exact State.getF_congr ((State.reg_setF_other _ (F.PWR_DOM_REFUSE_LAST_ID d) _ _ (Ne.symm h1)).trans
      (State.reg_setF_other _ (F.PWR_DOM_REFUSE_COUNT d) _ _ (Ne.symm h1)))

theorem State.domAbort_shows {n : Nat} (hn : n < 256) :
    (s.domAbort d n).getF (F.PWR_DOM_ABORT_LAST_ID d) = n ∧ s.InPower (s.domAbort d n) ∧ (s.domAbort d n).doms = s.doms := by
  obtain ⟨-, -, -, hb, -⟩ := PWR_DOM_block hd2
  have hfar : F.PWR_LAST_REFUSAL_DOMAIN.addr ≠ (F.PWR_DOM_ABORT_LAST_ID d).addr ∧ Ev.pwr.ev.addr ≠ (F.PWR_DOM_ABORT_LAST_ID d).addr := by
    simp only [F.PWR_LAST_REFUSAL_DOMAIN, Ev.pwr, F.PWR_EVENT_SEEN, F.PWR_DOM_ABORT_LAST_ID]
    omega
  obtain ⟨h1, h2⟩ := hfar
  unfold State.domAbort
  refine ⟨?_, ⟨?_, ?_, ?_, ?_⟩, ?_⟩
  · rw [State.getF_event_other _ _ _ _ h2, State.getF_congr (State.reg_setF_other _ F.PWR_LAST_REFUSAL_ABORT _ _ h1),
      State.getF_congr (State.reg_setF_other _ F.PWR_LAST_REFUSAL_ID _ _ h1),
      State.getF_congr (State.reg_setF_other _ F.PWR_LAST_REFUSAL_DOMAIN _ _ h1), State.getF_setF_same _ _ _ rfl]
    exact Nat.mod_eq_of_lt hn
  · exact ((((((State.Within.refl _ s).incF _ hb).setF (F.PWR_DOM_ABORT_LAST_ID d) _ hb).setF _ _ (by decide)).setF _ _ (by decide)).setF _ _
      (by decide)).event _ _ (by decide)
  · simp only [State.event_sys, State.setF_sys, State.incF_sys]
  · simp only [State.event_flt, State.setF_flt, State.incF_flt]
  · simp only [State.event_img, State.setF_img, State.incF_img]
  · simp only [State.event_doms, State.setF_doms, State.incF_doms]

end

section
variable {s : State} {d : Nat} (hd : 1 ≤ d) (hd2 : d < 22)
include hd hd2

omit hd hd2 in
theorem State.putVote_domState (e c : Nat) (b : Bool) : (s.putVote d c b).domState e = s.domState e := by
  unfold State.domState
  rw [State.putVote_getF _ _ _ _ _ (by simp only [F.PWR_DOM_STAT_STATE, F.PWR_DOM_VOTE_VOTES]; omega)]

omit hd in
/-- Only the domains that depend on a domain block its entry, and it is not one of them. -/
theorem State.domBlocker_congr {t : State} (h : ∀ e, e ≠ d → t.domState e = s.domState e) : t.domBlocker d = s.domBlocker d := by
  have hself : ∀ d < 22, ∀ e ∈ domDependants d, e ≠ d := by decide +kernel
  exact List.find?_congr fun e he => by rw [h e (hself d hd2 e he)]

/-- The hidden state and the step of a domain, as they are stored together. -/
theorem State.setDomStep_shows (x : Dom) (k : Nat) (hl : d < s.doms.length) :
    ((s.setDom d x).setF (F.PWR_DOM_STAT_STEP d) k).domState d = s.domState d ∧
      ((s.setDom d x).setF (F.PWR_DOM_STAT_STEP d) k).dom d = x ∧ s.InPower ((s.setDom d x).setF (F.PWR_DOM_STAT_STEP d) k) ∧
      ∀ g : Fld, g.addr ≠ (F.PWR_DOM_STAT_STATE d).addr → ((s.setDom d x).setF (F.PWR_DOM_STAT_STEP d) k).getF g = s.getF g := by
  obtain ⟨k1, k2, k3⟩ := s.setDom_shows x hl
  obtain ⟨j1, j2, j3⟩ := (s.setDom d x).setStep_shows hd hd2 k
  refine ⟨j1.trans ?_, k1, k2.trans j2, fun g hg => (j3 g hg).trans (k3 g)⟩
  rw [State.domState_pos _ d hd, State.domState_pos _ d hd, k3]

omit hd hd2 in
theorem State.domRestore_eq (s : State) (d : Nat) (b : Bool) : s.domRestore d b =
    ((s.setDomState d 3).setDom d { s.dom d with entering := false, step := 0, retried := b }).setF (F.PWR_DOM_STAT_STEP d) 0 := rfl

theorem State.domRestore_shows (b : Bool) (hl : d < s.doms.length) :
    (s.domRestore d b).domState d = 3 ∧ (s.domRestore d b).dom d = { s.dom d with entering := false, step := 0, retried := b } ∧
      s.InPower (s.domRestore d b) ∧
      ∀ g : Fld, g.addr ≠ (F.PWR_DOM_STAT_STATE d).addr → g.addr ≠ F.PWR_STATUS_DOM_ON.addr → (s.domRestore d b).getF g = s.getF g := by
  obtain ⟨h1, -, h3, h4, h5⟩ := s.setDomState_shows hd hd2 (v := 3) (by decide)
  rw [State.domRestore_eq]
  generalize ({ s.dom d with entering := false, step := 0, retried := b } : Dom) = x
  obtain ⟨k1, k2, k3, k4⟩ := State.setDomStep_shows (s := s.setDomState d 3) hd hd2 x 0 (by rw [h4]; exact hl)
  exact ⟨k1.trans h1, k2, h3.trans k3, fun g hg hg2 => (k4 g hg).trans (h5 g hg hg2)⟩

theorem State.domEnter_shows (hl : d < s.doms.length) (hb : s.domBlocker d = none) :
    (s.domEnter d).domState d = 3 ∧ (s.domEnter d).dom d = { s.dom d with entering := true, step := 3 } ∧ s.InPower (s.domEnter d) ∧
      ∀ g : Fld, g.addr ≠ (F.PWR_DOM_STAT_STATE d).addr → g.addr ≠ F.PWR_STATUS_DOM_ON.addr → (s.domEnter d).getF g = s.getF g := by
  obtain ⟨h1, -, h3, h4, h5⟩ := s.setDomState_shows hd hd2 (v := 3) (by decide)
  unfold State.domEnter
  rw [hb]
  dsimp only
  generalize s.setDomState d 3 = u at h1 h3 h4 h5
  obtain ⟨k1, k2, k3⟩ := u.setDom_shows { s.dom d with entering := true, step := 3 } (d := d) (by rw [h4]; exact hl)
  refine ⟨?_, k1, h3.trans k2, fun g hg hg2 => (k3 g).trans (h5 g hg hg2)⟩
  rw [State.domState_pos _ d hd, k3, ← State.domState_pos _ d hd]
  exact h1

end

section
variable {s : State} {d c : Nat} (hr : s.sys.phase = .run) (hd : 1 ≤ d) (hd2 : d < 22) (hc : 1 ≤ c) (hc2 : c < 8)

theorem voteClient_of {d c : Nat} (hd : 1 ≤ d) (hd2 : d < 22) (hc : 1 ≤ c) (hc2 : c < 8) : voteClient d c = true := by
  unfold voteClient
  rw [decide_eq_true hd, decide_eq_true hd2, decide_eq_true hc, decide_eq_true hc2]
  rfl

include hr hd hd2 hc hc2

/-- A vote on a domain that is on shows, and nothing else changes (R461). -/
theorem State.voteSet_on (h : s.domState d = 2) :
    ∃ t, exec (.voteSet d c) s = .next t ∧ t.votes d = s.votes d ||| 2 ^ c ∧ t.domState d = 2 ∧
      s.OnlyRegs [(F.PWR_DOM_VOTE_VOTES d).addr] t ∧ { t with regs := s.regs } = s := by
  obtain ⟨k1, k2⟩ := s.putVote_only d c true
  have hst : (s.putVote d c true).domState d = 2 := (State.putVote_domState d c true).trans h
  have he : s.domVote d c = s.putVote d c true := by
    unfold State.domVote
    rw [if_neg (by omega)]
    dsimp only
    simp only [hst]
  refine ⟨s.putVote d c true, next_congr ((if_pos ?_).trans he), s.putVote_votes d c true hc2, hst, k1, k2⟩
  rw [State.running_of_run hr, voteClient_of hd hd2 hc hc2]
  rfl

/-- A vote on a domain that is off starts its restoration (R463). -/
theorem State.voteSet_off (h : s.domState d = 0) (hlost : (s.dom d).lost = false) (hl : d < s.doms.length) :
    ∃ t, exec (.voteSet d c) s = .next t ∧ t.domState d = 3 ∧ (t.dom d).entering = false ∧ (t.dom d).step = 0 ∧
      s.SameRegs [0x4001] t ∧ s.SameStores t := by
  obtain ⟨k1, k2⟩ := s.putVote_power hd2 c true
  have hst : (s.putVote d c true).domState d = 0 := (State.putVote_domState d c true).trans h
  have hdom : (s.putVote d c true).dom d = s.dom d := congrArg (fun l : List Dom => l.getD d {}) k2
  have he : s.domVote d c = (s.putVote d c true).domRestore d false := by
    unfold State.domVote
    rw [if_neg (by omega)]
    dsimp only
    rw [hst, hdom, hlost]
    rfl
  obtain ⟨j1, j2, j3, -⟩ := State.domRestore_shows (s := s.putVote d c true) hd hd2 false (by rw [k2]; exact hl)
  refine ⟨_, next_congr ((if_pos ?_).trans he), j1, by rw [j2], by rw [j2], (k1.trans j3).within.1, (k1.trans j3).within.2⟩
  rw [State.running_of_run hr, voteClient_of hd hd2 hc hc2]
  rfl

omit hr hc hd in
/-- The last vote is taken back (R461). -/
theorem State.lastVote_gone (hv : s.votes d = 2 ^ c) (h : s.domState d = 2) :
    (s.putVote d c false).votes d = 0 ∧ (s.putVote d c false).domState d = 2 ∧ (s.putVote d c false).domBlocker d = s.domBlocker d := by
  refine ⟨?_, (State.putVote_domState d c false).trans h, State.domBlocker_congr hd2 fun e _ => State.putVote_domState e c false⟩
  rw [s.putVote_votes d c false hc2, hv, Nat.div_self (Nat.two_pow_pos c)]
  simp

theorem State.voteWithdraw_eq (hv : s.votes d = 2 ^ c) (o : Option Nat) : exec (.voteWithdraw d c o) s = .next (
    match o.map (fun c => c % 8) with
    | some v => if (s.putVote d c false).votes d = 0 ∧ (s.putVote d c false).domState d = 2 then
        ((s.putVote d c false).putVote d v true).domRefuse d v else (s.putVote d c false).putVote d v true
    | none => if (s.putVote d c false).votes d = 0 ∧ (s.putVote d c false).domState d = 2 then (s.putVote d c false).domEnter d
      else s.putVote d c false) := by
  have hset : ¬(d = 0 ∨ s.votes d / 2 ^ c % 2 = 0) := by
    rw [hv, Nat.div_self (Nat.two_pow_pos c)]
    omega
  refine next_congr ((if_pos ?_).trans (if_neg hset))
  rw [State.running_of_run hr, voteClient_of hd hd2 hc hc2]
  rfl

theorem State.voteWithdraw_enters (hv : s.votes d = 2 ^ c) (h : s.domState d = 2) (hb : s.domBlocker d = none) (hl : d < s.doms.length) :
    ∃ t, exec (.voteWithdraw d c none) s = .next t ∧ t.votes d = 0 ∧ t.domState d = 3 ∧ (t.dom d).entering = true ∧
      s.SameRegs [0x4001] t ∧ s.SameStores t := by
  obtain ⟨h1, h2, h3⟩ := State.lastVote_gone hd2 hc2 hv h
  obtain ⟨k1, k2⟩ := s.putVote_power hd2 c false
  rw [State.voteWithdraw_eq hr hd hd2 hc hc2 hv]
  obtain ⟨j1, j2, j3, j4⟩ := State.domEnter_shows (s := s.putVote d c false) hd hd2 (by rw [k2]; exact hl) (h3.trans hb)
  refine ⟨_, congrArg _ (if_pos ⟨h1, h2⟩), (j4 (F.PWR_DOM_VOTE_VOTES d) ?_ ?_).trans h1, j1, by rw [j2], (k1.trans j3).within.1,
    (k1.trans j3).within.2⟩
  · simp only [F.PWR_DOM_VOTE_VOTES, F.PWR_DOM_STAT_STATE]
    omega
  · simp only [F.PWR_DOM_VOTE_VOTES, F.PWR_STATUS_DOM_ON]
    omega

omit hr hc hc2 hd2 in
theorem refuse_beside : (F.PWR_DOM_VOTE_VOTES d).addr ≠ (F.PWR_DOM_REFUSE_COUNT d).addr ∧ (F.PWR_DOM_VOTE_VOTES d).addr ∉ noteRegs ∧
    (F.PWR_DOM_STAT_STATE d).addr ≠ (F.PWR_DOM_REFUSE_COUNT d).addr ∧ (F.PWR_DOM_STAT_STATE d).addr ∉ noteRegs := by
  simp only [F.PWR_DOM_VOTE_VOTES, F.PWR_DOM_STAT_STATE, F.PWR_DOM_REFUSE_COUNT, noteRegs, F.PWR_LAST_REFUSAL_DOMAIN, Ev.pwr, F.PWR_EVENT_SEEN,
    List.mem_cons, List.not_mem_nil, or_false]
  omega

omit hr hc hc2 in
/-- A refused entry leaves the votes and the state (R462). -/
theorem State.domRefuse_keeps {u : State} {n : Nat} (hn : n < 256) :
    (u.domRefuse d n).votes d = u.votes d ∧ (u.domRefuse d n).domState d = u.domState d := by
  obtain ⟨-, -, -, -, h5⟩ := u.domRefuse_shows hd hd2 hn
  obtain ⟨k1, k2, k3, k4⟩ := refuse_beside hd
  refine ⟨h5 _ k1 k2, ?_⟩
  rw [State.domState_pos _ d hd, State.domState_pos _ d hd]
  exact h5 _ k3 k4

theorem State.voteWithdraw_blocked {e : Nat} (hv : s.votes d = 2 ^ c) (h : s.domState d = 2) (hb : s.domBlocker d = some e) :
    ∃ t, exec (.voteWithdraw d c none) s = .next t ∧ t.votes d = 0 ∧ t.domState d = 2 ∧ t.getF (F.PWR_DOM_REFUSE_LAST_ID d) = 0x40 + e ∧
      t.getF (F.PWR_DOM_REFUSE_COUNT d) = min 65535 (s.getF (F.PWR_DOM_REFUSE_COUNT d) + 1) ∧ s.SameRegs [0x4001] t ∧ s.SameStores t := by
  obtain ⟨h1, h2, h3⟩ := State.lastVote_gone hd2 hc2 hv h
  obtain ⟨k1, -⟩ := s.putVote_power hd2 c false
  have he : e < 22 := List.mem_range.1 (List.mem_filter.1 (List.mem_of_find?_eq_some hb)).1
  have hcnt : (s.putVote d c false).getF (F.PWR_DOM_REFUSE_COUNT d) = s.getF (F.PWR_DOM_REFUSE_COUNT d) :=
    s.putVote_getF d c false _ (by simp only [F.PWR_DOM_REFUSE_COUNT, F.PWR_DOM_VOTE_VOTES]; omega)
  rw [State.voteWithdraw_eq hr hd hd2 hc hc2 hv]
  have hen : (s.putVote d c false).domEnter d = (s.putVote d c false).domRefuse d (0x40 + e) := by
    unfold State.domEnter
    rw [h3, hb]
  obtain ⟨j1, j2, j3, -⟩ := (s.putVote d c false).domRefuse_shows hd hd2 (n := 0x40 + e) (by omega)
  obtain ⟨j4, j5⟩ := State.domRefuse_keeps hd hd2 (u := s.putVote d c false) (n := 0x40 + e) (by omega)
  exact ⟨_, congrArg _ ((if_pos ⟨h1, h2⟩).trans hen), j4.trans h1, j5.trans h2, j1, by rw [j2, hcnt], (k1.trans j3).within.1,
    (k1.trans j3).within.2⟩

theorem State.voteWithdraw_coincident {v : Nat} (hv8 : v < 8) (hv : s.votes d = 2 ^ c) (h : s.domState d = 2) :
    ∃ t, exec (.voteWithdraw d c (some v)) s = .next t ∧ t.votes d = 2 ^ v ∧ t.domState d = 2 ∧ t.getF (F.PWR_DOM_REFUSE_LAST_ID d) = v ∧
      s.SameRegs [0x4001] t ∧ s.SameStores t := by
  obtain ⟨h1, h2, -⟩ := State.lastVote_gone hd2 hc2 hv h
  obtain ⟨k1, -⟩ := s.putVote_power hd2 c false
  obtain ⟨i1, -⟩ := (s.putVote d c false).putVote_power hd2 v true
  have hvotes : ((s.putVote d c false).putVote d v true).votes d = 2 ^ v := by
    rw [State.putVote_votes _ d v true hv8, h1]
    exact Nat.zero_or _
  have hstate : ((s.putVote d c false).putVote d v true).domState d = 2 := (State.putVote_domState d v true).trans h2
  rw [State.voteWithdraw_eq hr hd hd2 hc hc2 hv]
  dsimp only [Option.map_some]
  rw [Nat.mod_eq_of_lt hv8, if_pos ⟨h1, h2⟩]
  obtain ⟨j1, -, j3, -⟩ := ((s.putVote d c false).putVote d v true).domRefuse_shows hd hd2 (n := v) (by omega)
  obtain ⟨j4, j5⟩ := State.domRefuse_keeps hd hd2 (u := (s.putVote d c false).putVote d v true) (n := v) (by omega)
  have hall := ((k1.trans i1).trans j3).within
  exact ⟨_, rfl, j4.trans hvotes, j5.trans hstate, j1, hall.1, hall.2⟩

end

/-! Steps that report ready (R460, R461, R463) -/

@[simp] theorem State.when_false (s : State) (f : State → State) : s.when false f = s := rfl

/-- A domain goes on: its state, its bit in PWR_STATUS and what the model keeps of it beside the registers. -/
theorem State.setDomOn_shows (s : State) {d : Nat} (hd : 1 ≤ d) (hd2 : d < 22) (hl : d < s.doms.length) (x : Dom) :
    ((s.setDomState d 2).setDom d x).domState d = 2 ∧ bit (((s.setDomState d 2).setDom d x).getF F.PWR_STATUS_DOM_ON) d = true ∧
      ((s.setDomState d 2).setDom d x).dom d = x ∧ d < ((s.setDomState d 2).setDom d x).doms.length ∧
      s.InPower ((s.setDomState d 2).setDom d x) ∧ ((s.setDomState d 2).setDom d x).domBlocker d = s.domBlocker d := by
  obtain ⟨k1, k2, k3, k4, k5⟩ := s.setDomState_shows hd hd2 (v := 2) (by decide)
  have hother (e : Nat) (hne : e ≠ d) : (s.setDomState d 2).domState e = s.domState e := by
    unfold State.domState
    split
    · rfl
    · refine k5 _ ?_ ?_
      · simp only [F.PWR_DOM_STAT_STATE]
        omega
      · simp only [F.PWR_DOM_STAT_STATE, F.PWR_STATUS_DOM_ON]
        omega
  generalize s.setDomState d 2 = u at k1 k2 k3 k4 hother ⊢
  obtain ⟨j1, j2, j3⟩ := u.setDom_shows (d := d) x (by rw [k4]; exact hl)
  have hst (e : Nat) : (u.setDom d x).domState e = u.domState e := by
    unfold State.domState
    rw [j3]
  have hlen : (u.setDom d x).doms.length = u.doms.length := List.length_set
  exact ⟨(hst d).trans k1, (congrArg (fun n => bit n d) (j3 _)).trans (k2 rfl), j1, by rw [hlen, k4]; exact hl, k3.trans j2,
    State.domBlocker_congr hd2 fun e hne => (hst e).trans (hother e hne)⟩

section
variable {s : State} {d : Nat} (hr : s.sys.phase = .run) (hd : 1 ≤ d) (hd2 : d < 22) (hl : d < s.doms.length) (h3 : s.domState d = 3)
include hr hd hd2 hl h3

omit hl in
theorem State.stepReady_eq : exec (.domainStepReady d) s = .next (
    if (s.dom d).entering then
      if (s.dom d).step = 0 then
        ((((s.setDomState d (s.domLow d)).setDom d { s.dom d with entering := false, wasOff := decide (s.domLow d = 0) }).domLogic d).incF
          (F.PWR_DOM_ENTRY_CNT_COUNT d)).domRetry d
      else s.setDom d { s.dom d with step := (s.dom d).step - 1 }
    else if (s.dom d).step = 3 then
      (((s.when (decide ((s.dom d).step = 2) && (s.dom d).wasOff) (fun s => s.wipeBanks (domBanks d))).setDomState d 2).setDom d
        { s.dom d with retried := false, wasOff := false }).when (decide (s.votes d = 0)) (fun s => s.domEnter d)
    else
      ((s.when (decide ((s.dom d).step = 2) && (s.dom d).wasOff) (fun s => s.wipeBanks (domBanks d))).setDom d
        { s.dom d with step := (s.dom d).step + 1 }).setF (F.PWR_DOM_STAT_STEP d) ((s.dom d).step + 1)) := by
  have h0 : ¬(d = 0 ∨ s.domState d ≠ 3) := by
    rw [h3]
    omega
  exact next_congr ((if_pos ⟨State.running_of_run hr, hd2⟩).trans (if_neg h0))

theorem State.stepReady_restores (he : (s.dom d).entering = false) (hs : (s.dom d).step < 3) :
    ∃ t, exec (.domainStepReady d) s = .next t ∧ (t.dom d).step = (s.dom d).step + 1 ∧ t.domState d = 3 ∧
      t.tiles = (if (s.dom d).step = 2 ∧ (s.dom d).wasOff = true then (s.wipeBanks (domBanks d)).tiles else s.tiles) ∧
      s.SameRegs [0x4001] t ∧ t.mram = s.mram ∧ t.flash = s.flash ∧ t.otp = s.otp := by
  have hwipe (c : Bool) : (s.when c (fun s => s.wipeBanks (domBanks d))).doms = s.doms ∧
      (∀ e, (s.when c (fun s => s.wipeBanks (domBanks d))).domState e = s.domState e) ∧
      (s.when c (fun s => s.wipeBanks (domBanks d))).tiles = (if c then (s.wipeBanks (domBanks d)).tiles else s.tiles) ∧
      s.SameRegs [0x4001] (s.when c (fun s => s.wipeBanks (domBanks d))) ∧ (s.when c (fun s => s.wipeBanks (domBanks d))).mram = s.mram ∧
      (s.when c (fun s => s.wipeBanks (domBanks d))).flash = s.flash ∧ (s.when c (fun s => s.wipeBanks (domBanks d))).otp = s.otp := by
    cases c <;> exact ⟨rfl, fun _ => rfl, rfl, fun _ _ => rfl, rfl, rfl, rfl⟩
  obtain ⟨w1, w2, w3, w4, w5, w6, w7⟩ := hwipe (decide ((s.dom d).step = 2) && (s.dom d).wasOff)
  have hcond : (decide ((s.dom d).step = 2) && (s.dom d).wasOff) = decide ((s.dom d).step = 2 ∧ (s.dom d).wasOff = true) := by
    rw [Bool.decide_and, Bool.decide_eq_true]
  rw [State.stepReady_eq hr hd hd2 h3, he, if_neg Bool.false_ne_true, if_neg (by omega)]
  generalize s.when (decide ((s.dom d).step = 2) && (s.dom d).wasOff) (fun s => s.wipeBanks (domBanks d)) = u at w1 w2 w3 w4 w5 w6 w7 ⊢
  obtain ⟨k1, k2, k3, -⟩ := State.setDomStep_shows (s := u) hd hd2 { s.dom d with step := (s.dom d).step + 1 } ((s.dom d).step + 1)
    (by rw [w1]; exact hl)
  obtain ⟨m1, m2, m3, m4⟩ := k3.within.2
  refine ⟨_, rfl, by rw [k2], k1.trans ((w2 d).trans h3), m1.trans ?_, fun a ha => (k3.within.1 a ha).trans (w4 a ha), m2.trans w5, m3.trans w6,
    m4.trans w7⟩
  rw [w3, hcond]
  simp only [decide_eq_true_eq]

omit hl in
theorem State.stepReady_last (he : (s.dom d).entering = false) (hs : (s.dom d).step = 3) :
    exec (.domainStepReady d) s = .next (((s.setDomState d 2).setDom d { s.dom d with retried := false, wasOff := false }).when
      (decide (s.votes d = 0)) (fun s => s.domEnter d)) := by
  have hnot : (decide ((s.dom d).step = 2) && (s.dom d).wasOff) = false := by
    rw [hs]
    rfl
  rw [State.stepReady_eq hr hd hd2 h3, he, if_neg Bool.false_ne_true, if_pos hs, hnot, State.when_false]

theorem State.stepReady_on (he : (s.dom d).entering = false) (hs : (s.dom d).step = 3) (hv : s.votes d ≠ 0) :
    ∃ t, exec (.domainStepReady d) s = .next t ∧ t.domState d = 2 ∧ bit (t.getF F.PWR_STATUS_DOM_ON) d = true ∧
      s.SameRegs [0x4001] t ∧ s.SameStores t := by
  obtain ⟨h1, h2, -, -, h5, -⟩ := s.setDomOn_shows hd hd2 hl { s.dom d with retried := false, wasOff := false }
  rw [State.stepReady_last hr hd hd2 h3 he hs, decide_eq_false hv, State.when_false]
  exact ⟨_, rfl, h1, h2, h5.within⟩

theorem State.stepReady_reenters (he : (s.dom d).entering = false) (hs : (s.dom d).step = 3) (hv : s.votes d = 0) (hb : s.domBlocker d = none) :
    ∃ t, exec (.domainStepReady d) s = .next t ∧ t.domState d = 3 ∧ (t.dom d).entering = true ∧ (t.dom d).step = 3 ∧
      s.SameRegs [0x4001] t ∧ s.SameStores t := by
  obtain ⟨-, -, -, h4, h5, h6⟩ := s.setDomOn_shows hd hd2 hl { s.dom d with retried := false, wasOff := false }
  rw [State.stepReady_last hr hd hd2 h3 he hs, decide_eq_true hv, State.when_true _ _ _ rfl]
  generalize (s.setDomState d 2).setDom d { s.dom d with retried := false, wasOff := false } = u at h4 h5 h6 ⊢
  obtain ⟨j1, j2, j3, -⟩ := State.domEnter_shows (s := u) hd hd2 h4 (h6.trans hb)
  exact ⟨_, rfl, j1, by rw [j2], by rw [j2], (h5.trans j3).within.1, (h5.trans j3).within.2⟩

omit hl in
theorem State.stepReady_enters (he : (s.dom d).entering = true) (hs : 0 < (s.dom d).step) :
    exec (.domainStepReady d) s = .next (s.setDom d { s.dom d with step := (s.dom d).step - 1 }) := by
  rw [State.stepReady_eq hr hd hd2 h3, if_pos he, if_neg (by omega)]

end


/-! ### What a domain that goes low forgets, and its time-outs -/

theorem domHobs_lt {d n : Nat} (hd : 9 ≤ d ∧ d ≤ 16) (hn : n ∈ List.range' (8 * (d - 9)) 8) : n < 64 := by
  rw [List.mem_range'_1] at hn
  omega

theorem State.domLogic_within (s : State) (d : Nat) : s.Within [0x4005, 0x400C] (s.domLogic d) := by
  unfold State.domLogic
  split
  · rename_i hd
    refine ((State.Within.refl _ s).hidden ..).each _ _ fun u n hn hu => hu.setF _ _ ?_
    have := domHobs_lt hd (List.mem_filter.1 hn).1
    simp only [F.HOB_ENGINE_STATE, List.mem_cons, List.not_mem_nil, or_false]
    omega
  · split
    · exact (State.Within.refl _ s).hidden ..
    · split
      · exact (State.Within.refl _ s).hidden ..
      · split
        · refine (((State.Within.refl _ s).hidden ..).each _ _ fun u v hv hu => hu.setF _ _ ?_).setF _ _ (by decide)
          have := List.mem_range.1 hv
          simp only [F.ADC_CONV_STAT_STATE, List.mem_cons, List.not_mem_nil, or_false]
          omega
        · exact State.Within.refl _ s

/-- The hobs of a cluster that goes low are idle, but for those out of service (R461). -/
theorem State.domLogic_hobs (s : State) {c n : Nat} (hc : c < 8) (hn : n / 8 = c) (h : s.getF (F.HOB_ENGINE_STATE n) < 3) :
    (s.domLogic (9 + c)).getF (F.HOB_ENGINE_STATE n) = 0 := by
  unfold State.domLogic
  rw [if_pos (by omega)]
  refine State.each_establishes (I := fun _ => True) (P := fun u => u.getF (F.HOB_ENGINE_STATE n) = 0) (b := n)
    (List.mem_filter.2 ⟨List.mem_range'_1.2 (by omega), decide_eq_true h⟩)
    (fun _ _ _ _ => trivial) (fun u _ => State.getF_setF_same _ _ _ rfl) (fun u m _ _ hu => ?_) _ trivial
  by_cases hm : m = n
  · rw [hm]
    exact State.getF_setF_same _ _ _ rfl
  · exact (State.getF_congr (State.reg_setF_other _ _ _ _ (by simp only [F.HOB_ENGINE_STATE]; omega))).trans hu

theorem State.domRetry_idle (s : State) (d : Nat) (h : ∀ e ∈ domDeps.getD d [], s.votes e ≠ 0) : s.domRetry d = s := by
  unfold State.domRetry State.each
  generalize domDeps.getD d [] = l at h
  induction l with
  | nil => rfl
  | cons e l ih =>
      have he : (decide (e ≠ 0) && decide (s.votes e = 0) && decide (s.domState e = 2)) = false := by
        rw [decide_eq_false (h e (by simp)), Bool.and_false, Bool.false_and]
      rw [List.foldl_cons, he]
      exact ih fun x hx => h x (by simp [hx])

theorem State.domLow_lt (s : State) (d : Nat) : s.domLow d < 4 := by
  unfold State.domLow
  split
  · decide
  · split <;> decide

/-- What an entry of a domain leaves, before it tries the domains it depends on. -/
def State.domRested (s : State) (d : Nat) (x : Dom) : State :=
  (((s.setDomState d (s.domLow d)).setDom d x).domLogic d).incF (F.PWR_DOM_ENTRY_CNT_COUNT d)

section
variable {s : State} {d : Nat} (hr : s.sys.phase = .run) (hd : 1 ≤ d) (hd2 : d < 22) (hl : d < s.doms.length) (h3 : s.domState d = 3)
include hd hd2

theorem State.domRested_shows (x : Dom) (hl : d < s.doms.length) :
    (s.domRested d x).domState d = s.domLow d ∧
      (s.domRested d x).getF (F.PWR_DOM_ENTRY_CNT_COUNT d) = min (2 ^ 32 - 1) (s.getF (F.PWR_DOM_ENTRY_CNT_COUNT d) + 1) ∧
      (∀ c, d = 9 + c → c < 8 → ∀ n, n / 8 = c → s.getF (F.HOB_ENGINE_STATE n) < 3 → (s.domRested d x).getF (F.HOB_ENGINE_STATE n) = 0) ∧
      (∀ e < 22, (s.domRested d x).votes e = s.votes e) ∧ s.Within [0x4001, 0x4005, 0x400C] (s.domRested d x) := by
  obtain ⟨k1, -, k3, k4, k5⟩ := s.setDomState_shows hd hd2 (s.domLow_lt d)
  unfold State.domRested
  generalize s.setDomState d (s.domLow d) = u at k1 k3 k4 k5 ⊢
  obtain ⟨-, j2, j3⟩ := u.setDom_shows (d := d) x (by rw [k4]; exact hl)
  generalize u.setDom d x = v at j2 j3 ⊢
  have hw := v.domLogic_within d
  have hkeep (g : Fld) (hg : g.addr / 0x10000 = 0x4001) : (v.domLogic d).getF g = u.getF g :=
    (hw.getF g (by rw [hg]; decide)).trans (j3 g)
  obtain ⟨-, -, -, -, hb⟩ := PWR_DOM_block hd2
  have hentry : (F.PWR_DOM_ENTRY_CNT_COUNT d).addr / 0x10000 = 0x4001 := by simpa using hb
  refine ⟨?_, ?_, fun c hdc hc n hn hs => ?_, fun e he => ?_, ?_⟩
  · rw [State.domState_pos _ d hd] at k1 ⊢
    refine (State.getF_congr (State.reg_setF_other _ _ _ _ ?_)).trans ((hkeep _ ?_).trans k1) <;>
      simp only [F.PWR_DOM_ENTRY_CNT_COUNT, F.PWR_DOM_STAT_STATE] <;> omega
  · refine (State.getF_incF_same _ _ rfl).trans ?_
    rw [hkeep _ hentry, k5] <;> simp only [F.PWR_DOM_ENTRY_CNT_COUNT, F.PWR_DOM_STAT_STATE, F.PWR_STATUS_DOM_ON, Fld.width, ne_eq] <;> omega
  · subst hdc
    have hhob : v.getF (F.HOB_ENGINE_STATE n) < 3 := by
      rw [j3, k5]
      · exact hs
      · simp only [F.HOB_ENGINE_STATE, F.PWR_DOM_STAT_STATE]
        omega
      · simp only [F.HOB_ENGINE_STATE, F.PWR_STATUS_DOM_ON]
        omega
    refine (State.getF_congr (State.reg_setF_other _ _ _ _ ?_)).trans (v.domLogic_hobs hc hn hhob)
    simp only [F.PWR_DOM_ENTRY_CNT_COUNT, F.HOB_ENGINE_STATE]
    omega
  · have hvote := (PWR_DOM_block he).1
    refine (State.getF_congr (State.reg_setF_other _ _ _ _ ?_)).trans ((hkeep _ (by simpa using hvote)).trans (k5 _ ?_ ?_)) <;>
      simp only [F.PWR_DOM_ENTRY_CNT_COUNT, F.PWR_DOM_STAT_STATE, F.PWR_STATUS_DOM_ON, F.PWR_DOM_VOTE_VOTES] <;> omega
  · exact (((k3.trans j2).within.mono (by decide)).trans (hw.mono (by decide))).incF _ (by rw [hentry]; decide)

include hr h3 hl

theorem State.stepReady_rests (he : (s.dom d).entering = true) (hs : (s.dom d).step = 0) (hv : ∀ e ∈ domDeps.getD d [], s.votes e ≠ 0) :
    ∃ t, exec (.domainStepReady d) s = .next t ∧ t.domState d = s.domLow d ∧
      t.getF (F.PWR_DOM_ENTRY_CNT_COUNT d) = min (2 ^ 32 - 1) (s.getF (F.PWR_DOM_ENTRY_CNT_COUNT d) + 1) ∧
      (∀ c, d = 9 + c → c < 8 → ∀ n, n / 8 = c → s.getF (F.HOB_ENGINE_STATE n) < 3 → t.getF (F.HOB_ENGINE_STATE n) = 0) ∧
      s.SameRegs [0x4001, 0x4005, 0x400C] t ∧ s.SameStores t := by
  have hdeps : ∀ d < 22, ∀ e ∈ domDeps.getD d [], e < 22 := by decide +kernel
  have heq : exec (.domainStepReady d) s =
      .next ((s.domRested d { s.dom d with entering := false, wasOff := decide (s.domLow d = 0) }).domRetry d) := by
    rw [State.stepReady_eq hr hd hd2 h3, if_pos he, if_pos hs]
    rfl
  obtain ⟨k1, k2, k3, k4, k5⟩ := State.domRested_shows hd hd2 { s.dom d with entering := false, wasOff := decide (s.domLow d = 0) } hl
  rw [State.domRetry_idle _ d fun e hm => by rw [k4 e (hdeps d hd2 e hm)]; exact hv e hm] at heq
  exact ⟨_, heq, k1, k2, k3, k5⟩

omit hl in
theorem State.domainTimeout_eq : exec (.domainTimeout d) s = .next (
    if (s.dom d).entering then
      if (s.dom d).step = 3 then ((s.domRefuse d (0x60 + d)).setDomState d 2).setDom d { s.dom d with entering := false } else s
    else if (s.dom d).retried then s.domLost d
    else (s.domAbort d (0x20 + (s.dom d).step)).domRestore d true) :=
  next_congr ((if_pos (State.running_of_run hr)).trans (if_neg (by rw [h3]; omega)))

theorem State.domainTimeout_enters (he : (s.dom d).entering = true) (hs : (s.dom d).step = 3) :
    ∃ t, exec (.domainTimeout d) s = .next t ∧ t.domState d = 2 ∧ t.getF (F.PWR_DOM_REFUSE_LAST_ID d) = 0x60 + d ∧
      s.SameRegs [0x4001] t ∧ s.SameStores t := by
  rw [State.domainTimeout_eq hr hd hd2 h3, if_pos he, if_pos hs]
  obtain ⟨k1, -, k3, k4, -⟩ := s.domRefuse_shows hd hd2 (n := 0x60 + d) (by omega)
  generalize s.domRefuse d (0x60 + d) = u at k1 k3 k4 ⊢
  obtain ⟨j1, -, j3, j4, j5⟩ := u.setDomState_shows hd hd2 (v := 2) (by decide)
  generalize u.setDomState d 2 = v at j1 j3 j4 j5 ⊢
  obtain ⟨-, i2, i3⟩ := v.setDom_shows (d := d) { s.dom d with entering := false } (by rw [j4, k4]; exact hl)
  generalize v.setDom d { s.dom d with entering := false } = w at i2 i3 ⊢
  refine ⟨w, rfl, ?_, ?_, ((k3.trans j3).trans i2).within⟩
  · rw [State.domState_pos _ d hd] at j1 ⊢
    exact (i3 _).trans j1
  · rw [i3, j5, k1] <;> simp only [F.PWR_DOM_REFUSE_LAST_ID, F.PWR_DOM_STAT_STATE, F.PWR_STATUS_DOM_ON, ne_eq] <;> omega

theorem State.domainTimeout_restores (he : (s.dom d).entering = false) (ht : (s.dom d).retried = false) (hs : (s.dom d).step < 4) :
    ∃ t, exec (.domainTimeout d) s = .next t ∧ t.domState d = 3 ∧ (t.dom d).step = 0 ∧ (t.dom d).retried = true ∧
      t.getF (F.PWR_DOM_ABORT_LAST_ID d) = 0x20 + (s.dom d).step ∧ s.SameRegs [0x4001] t ∧ s.SameStores t := by
  rw [State.domainTimeout_eq hr hd hd2 h3, he, ht, if_neg Bool.false_ne_true, if_neg Bool.false_ne_true]
  obtain ⟨k1, k2, k3⟩ := s.domAbort_shows hd hd2 (n := 0x20 + (s.dom d).step) (by omega)
  generalize s.domAbort d (0x20 + (s.dom d).step) = u at k1 k2 k3 ⊢
  obtain ⟨j1, j2, j3, j4⟩ := State.domRestore_shows (s := u) hd hd2 true (by rw [k3]; exact hl)
  refine ⟨_, rfl, j1, by rw [j2], by rw [j2], ?_, (k2.trans j3).within⟩
  rw [j4, k1] <;> simp only [F.PWR_DOM_ABORT_LAST_ID, F.PWR_DOM_STAT_STATE, F.PWR_STATUS_DOM_ON, ne_eq] <;> omega

end


/-! ### A domain that is lost takes the device to SAFE-HOLD -/

theorem bit_or_keeps {v k : Nat} (w : Nat) (h : bit v k = true) : bit (v ||| w) k = true := by
  have hbit (x : Nat) : bit x k = x.testBit k := by
    unfold bit
    rw [Nat.testBit_eq_decide_div_mod_eq]
  rw [hbit] at h ⊢
  rw [Nat.testBit_or, h, Bool.true_or]

/-- The record of a raise takes no sticky bit away. -/
theorem State.fltRecord_keeps (s : State) {n k : Nat} (hn : n < 256) (hk : k < 256) (h : s.sticky n = true) : (s.fltRecord k).sticky n = true := by
  have hc : (classCounter (s.fltClass k)).addr ≠ (F.FLT_STICKY_STICKY (n / 32)).addr := by
    have := classCounter_cases (s.fltClass k)
    simp only [List.mem_cons, List.not_mem_nil, or_false] at this
    rcases this with h | h | h <;> rw [h] <;>
      simp only [F.FLT_CORRECTED_CNT_COUNT, F.FLT_CONTAINED_CNT_COUNT, F.FLT_FATAL_CNT_COUNT, F.FLT_STICKY_STICKY] <;> omega
  have hset : (s.setF (F.FLT_STICKY_STICKY (k / 32)) (s.getF (F.FLT_STICKY_STICKY (k / 32)) ||| 2 ^ (k % 32))).sticky n = true := by
    unfold State.sticky at h ⊢
    by_cases hw : k / 32 = n / 32
    · have hlt : s.getF (F.FLT_STICKY_STICKY (n / 32)) < 2 ^ 32 := State.getF_lt s _
      rw [hw, State.getF_setF_same _ _ _ rfl, show (F.FLT_STICKY_STICKY (n / 32)).width = 32 from rfl,
        Nat.mod_eq_of_lt (Nat.or_lt_two_pow hlt (Nat.pow_lt_pow_right (by decide) (Nat.mod_lt _ (by decide))))]
      exact bit_or_keeps _ h
    · rw [State.getF_congr (State.reg_setF_other _ _ _ _ (by simp only [F.FLT_STICKY_STICKY]; omega))]
      exact h
  refine (congrArg (fun x => bit x (n % 32)) ?_).trans ((State.sticky_setActive _ k n true hk hn).trans hset)
  refine (State.getF_fltRecord_low s k _ ?_ ?_).trans ?_
  · simp only [F.FLT_STICKY_STICKY]
    omega
  · simp only [F.FLT_STICKY_STICKY]
    omega
  · refine (State.getF_setReg_other _ _ _ _ (by simp only [F.FLT_LAST_TICK, F.FLT_STICKY_STICKY]; omega)).trans ?_
    exact State.getF_congr (State.reg_setF_other _ _ _ _ hc)

theorem State.raiseInHold_keeps (s : State) {n k : Nat} (hn : n < 256) (hk : k < 256) (h : s.sticky n = true) : (s.raiseInHold k).sticky n = true := by
  have hfld : (F.FLT_STICKY_STICKY (n / 32)).recordOnly := by
    refine ⟨?_, ?_, ?_⟩ <;> simp only [F.FLT_STICKY_STICKY] <;> omega
  refine (State.when_cases s (!s.asserted k) _).elim (fun hw => ?_) fun hw => (congrArg (State.sticky · n) hw.2).trans h
  refine (congrArg (State.sticky · n) hw.2).trans ?_
  have hkeep : ((((s.fltRecord k).startWait k).fltFreezeAct k).settle k).getF (F.FLT_STICKY_STICKY (n / 32)) =
      (s.fltRecord k).getF (F.FLT_STICKY_STICKY (n / 32)) := by
    rw [State.getF_settle_record _ _ _ hfld, State.getF_fltFreezeAct _ _ _ hfld.block hfld.2.2,
      State.getF_startWait_low _ _ _ (by have := hfld.2.1; omega)]
  exact (congrArg (fun x => bit x (n % 32)) hkeep).trans (s.fltRecord_keeps hn hk h)

theorem State.sticky_within {r s : State} {bs : List Nat} (h : r.Within bs s) (hb : 0x4003 ∉ bs) {n : Nat} (hn : n < 256) : s.sticky n = r.sticky n := by
  refine congrArg (fun x => bit x (n % 32)) (h.getF _ ?_)
  have : (F.FLT_STICKY_STICKY (n / 32)).addr / 0x10000 = 0x4003 := by
    simp only [F.FLT_STICKY_STICKY]
    omega
  rw [this]
  exact hb

theorem State.reactTime_keeps (s : State) (us : Option Nat) {n : Nat} (hn : n < 256) (h : s.sticky n = true) : (s.reactTime us).sticky n = true := by
  have hnote (u : State) (a b : Nat) (c : Bool) (hu : u.sticky n = true) :
      (((u.setF F.SAF_REACT_LAST_US a).peakF F.SAF_REACT_MAX_US b).when c (fun s =>
        ((s.incF F.SAF_REACT_OVERRUN_CNT_COUNT).event Ev.saf 8).raiseInHold Src.reactOverrun)).sticky n = true := by
    have h0 := ((State.Within.refl [0x4010] u).setF F.SAF_REACT_LAST_US a (by decide)).peakF F.SAF_REACT_MAX_US b (by decide)
    rcases State.when_cases ((u.setF F.SAF_REACT_LAST_US a).peakF F.SAF_REACT_MAX_US b) c _ with ⟨-, hw⟩ | ⟨-, hw⟩
    · refine (congrArg (State.sticky · n) hw).trans (State.raiseInHold_keeps _ hn (by decide) ?_)
      exact (State.sticky_within ((h0.incF F.SAF_REACT_OVERRUN_CNT_COUNT (by decide)).event Ev.saf 8 (by decide)) (by decide) hn).trans hu
    · exact (congrArg (State.sticky · n) hw).trans ((State.sticky_within h0 (by decide) hn).trans hu)
  unfold State.reactTime
  cases us with
  | some v => exact hnote s _ _ _ h
  | none => exact hnote { s with free := s.free + 1 } _ _ _ h

/-- SAFE-HOLD taken as a reaction leaves the sticky bits of the sources 0 to 0x1F and 0xC0 to 0xDF. -/
theorem State.reactSafeHold_sticky (s : State) (k : Nat) (us : Option Nat) {n : Nat} (hn : n / 32 = 6 ∨ n / 32 = 0) (hm : s.mode ≠ .selfTest)
    (h : s.sticky n = true) : (s.reactSafeHold k us).sticky n = true := by
  have ht : (s.modeEntered .safeHold 1 k).Touches (fun a => a ≠ (F.FLT_STICKY_STICKY (n / 32)).addr) (fun s : State => s.sys.phase)
      (s.enterMode .safeHold 1 k) := by
    refine State.enterMode_confines _ (fun a ha => ?_) enterBlind_phase s 1 k (.inr fun u m hu hm => ?_)
      (.inr ⟨fun _ _ => rfl, fun _ _ => rfl⟩) (.inr fun _ _ => rfl)
    · obtain ⟨-, -, h6, h0⟩ := ha
      rcases hn with hn | hn <;> rw [hn] <;> assumption
    · simp only [F.HOB_ENGINE_STATE, F.FLT_STICKY_STICKY]
      omega
  have he : (s.enterMode .safeHold 1 k).sticky n = true := by
    obtain ⟨-, -, hw⟩ := s.modeEntered_shows .safeHold 1 k
    refine (congrArg (fun x => bit x (n % 32)) ?_).trans ((State.sticky_within hw (by decide) (by omega)).trans h)
    exact State.getF_congr (ht.regs _ fun hne => hne rfl)
  unfold State.reactSafeHold
  rw [decide_eq_false hm, State.when_false]
  generalize s.enterMode .safeHold 1 k = v at he ⊢
  rcases State.when_cases v s.mode.isLead (fun s => s.reactTime us) with ⟨-, hv⟩ | ⟨-, hv⟩ <;> rw [hv]
  · exact v.reactTime_keeps us (by omega) he
  · exact he

theorem State.domGone_low (s : State) {d : Nat} (h : d ≤ 8) : s.domGone d = s := by
  have hid : s.domLogic d = s := by
    unfold State.domLogic
    rw [if_neg (by omega), if_neg (by omega), if_neg (by omega), if_neg (by omega)]
  unfold State.domGone
  rw [hid]
  split
  · exact absurd h (by decide)
  · exact absurd h (by decide)
  · exact absurd h (by decide)
  · exact absurd h (by decide)
  · rfl

section
variable {s : State} {d : Nat} (hr : s.sys.phase = .run) (hd : 1 ≤ d) (hd2 : d < 22) (h3 : s.domState d = 3)
include hr hd hd2 h3

/-- What is noted of a lost domain before its time-out is raised. -/
def State.domNoted (s : State) (d v : Nat) (x : Dom) : State :=
  (((s.setDomState d v).setDom d x).incF F.PWR_TIMEOUT_CNT_COUNT).event Ev.pwr 7

omit hr hd hd2 h3 in
theorem State.setDom_inPower (s : State) (d : Nat) (x : Dom) : s.InPower (s.setDom d x) := ⟨(State.Within.refl _ s).hidden .., rfl, rfl, rfl⟩

omit hr hd hd2 h3 in
theorem State.timeoutCounted_inPower (s : State) : s.InPower ((s.incF F.PWR_TIMEOUT_CNT_COUNT).event Ev.pwr 7) :=
  ⟨((State.Within.refl _ s).incF _ (by decide)).event _ _ (by decide), by simp, by simp, by simp⟩

omit hr h3 in
theorem State.domNoted_shows {v : Nat} (hv : v < 4) (x : Dom) : s.InPower (s.domNoted d v x) := by
  obtain ⟨-, -, k3, -, -⟩ := s.setDomState_shows hd hd2 hv
  exact (k3.trans (State.setDom_inPower _ d x)).trans (State.timeoutCounted_inPower _)

omit hr hd hd2 h3 in
theorem State.domLost_low (s : State) (hlow : d ≤ 8) :
    s.domLost d = if ((s.domNoted d (if (s.dom d).wasOff then 0 else s.domLow d) { s.dom d with lost := true, retried := false }).raise
        Src.domainTimeout).mode.runs = true ∨ ((s.domNoted d (if (s.dom d).wasOff then 0 else s.domLow d)
          { s.dom d with lost := true, retried := false }).raise Src.domainTimeout).mode = .selfTest
      then ((s.domNoted d (if (s.dom d).wasOff then 0 else s.domLow d) { s.dom d with lost := true, retried := false }).raise
        Src.domainTimeout).reactSafeHold Src.domainTimeout none
      else (s.domNoted d (if (s.dom d).wasOff then 0 else s.domLow d) { s.dom d with lost := true, retried := false }).raise
        Src.domainTimeout := by
  unfold State.domLost State.domNoted
  dsimp only
  rw [State.domGone_low _ hlow, if_neg (by omega)]
  simp only [hlow, true_and]

omit hd hd2 h3 in
theorem State.InPower.lost {u : State} (h : s.InPower u) (hm : s.mode.runs = true) (ha : s.fltAction 0xD3 = 0) (hn : s.asserted 0xD3 = false) :
    (u.raise 0xD3).mode.runs = true ∧ ((u.raise 0xD3).reactSafeHold 0xD3 none).mode = .safeHold ∧
      ((u.raise 0xD3).reactSafeHold 0xD3 none).sticky 0xD3 = true := by
  have hphase : u.sys.phase = s.sys.phase := congrArg Sys.phase h.sys
  have hq : u.Quiet 0xD3 := h.within.quiet (by decide) (by decide) hphase (by decide) (.inl ha)
  have hn' : u.asserted 0xD3 = false := (State.asserted_of_asserting (State.asserting_congr h.flt) _).trans hn
  have hc : u.Confined raiseBlocks (u.raise 0xD3) := State.confined_raise u 0xD3 none (by decide) hq
  have hs := State.sticky_raise u 0xD3 none (by decide) hq hn'
  have hmode : (u.raise 0xD3).mode = s.mode := (hc.mode (by decide)).trans (h.within.mode (by decide) hphase)
  have hrun : (u.raise 0xD3).sys.phase = .run := (congrArg Sys.phase hc.sys).trans (hphase.trans hr)
  have hself : (u.raise 0xD3).mode ≠ .selfTest := by
    rw [hmode]
    intro h
    rw [h] at hm
    exact absurd hm (by decide)
  exact ⟨by rw [hmode]; exact hm, State.reactSafeHold_mode _ _ _ hrun, State.reactSafeHold_sticky _ _ _ (.inl rfl) hself hs⟩

/-- A lost domain of 1 to 8: the time-out is counted and raised, and the device goes to SAFE-HOLD (R463). -/
theorem State.domainTimeout_lost (he : (s.dom d).entering = false) (ht : (s.dom d).retried = true) (hlow : d ≤ 8) (hm : s.mode.runs = true)
    (ha : s.fltAction 0xD3 = 0) (hn : s.asserted 0xD3 = false) :
    ∃ t, exec (.domainTimeout d) s = .next t ∧ t.mode = .safeHold ∧ t.sticky 0xD3 = true := by
  have hst : (if (s.dom d).wasOff then 0 else s.domLow d) < 4 := by
    split
    · decide
    · exact s.domLow_lt d
  rw [State.domainTimeout_eq hr hd hd2 h3, he, ht, if_neg Bool.false_ne_true, if_pos rfl, s.domLost_low hlow]
  have hin := State.domNoted_shows (s := s) hd hd2 hst { s.dom d with lost := true, retried := false }
  generalize s.domNoted d _ _ = u at hin ⊢
  obtain ⟨h1, h2, h3⟩ := hin.lost hr hm ha hn
  have hsrc : Src.domainTimeout = 0xD3 := rfl
  rw [hsrc, if_pos (.inl h1)]
  exact ⟨_, rfl, h2, h3⟩

end

/-- Settles O8, clause by clause from what each step of a power domain shows (R461, R462, R463). -/
theorem powerDomains : Obligations.PowerDomains := by
  unfold Obligations.PowerDomains
  refine ⟨fun s d c hr hd hd2 hc hc2 => ⟨?_, ?_, ?_, ?_, ?_⟩, fun s d hr hd hd2 hl h3 => ⟨?_, ?_, ?_, ?_, ?_, ?_, ?_, ?_⟩⟩
  · exact State.voteSet_on hr hd hd2 hc hc2
  · exact State.voteSet_off hr hd hd2 hc hc2
  · exact State.voteWithdraw_enters hr hd hd2 hc hc2
  · exact fun e => State.voteWithdraw_blocked hr hd hd2 hc hc2
  · exact fun v hv _ => State.voteWithdraw_coincident hr hd hd2 hc hc2 hv
  · exact State.stepReady_restores hr hd hd2 hl h3
  · exact State.stepReady_on hr hd hd2 hl h3
  · exact State.stepReady_reenters hr hd hd2 hl h3
  · exact State.stepReady_enters hr hd hd2 h3
  · exact State.stepReady_rests hr hd hd2 hl h3
  · exact State.domainTimeout_enters hr hd hd2 hl h3
  · exact State.domainTimeout_restores hr hd hd2 hl h3
  · exact State.domainTimeout_lost hr hd hd2 h3

end Sys2Proof.Machine
end

section
/-!
# Appending Ash records
-/
namespace Sys2Proof.Machine

open Sys2Proof

/-! ### The append of an Ash record -/

theorem length_ashRecord (r : AshReq) (seq commit : Nat) : (ashRecord r seq commit).length = r.size := by
  simp only [ashRecord, ashHeader, AshReq.size, List.length_append, length_leBytes, List.length_cons, List.length_nil]
  omega

/-- The entry of the tail ring that names the end `e` of the record `seq`. -/
def ashEntry (seq e : Nat) : List Byte :=
  leBytes 4 seq ++ leBytes 4 e ++ [0, 0, 0, 0] ++ leBytes 4 (crc32c (leBytes 4 seq ++ leBytes 4 e ++ [0, 0, 0, 0]))

theorem length_ashEntry (seq e : Nat) : (ashEntry seq e).length = 16 := by
  simp only [ashEntry, List.length_append, length_leBytes, List.length_cons, List.length_nil]

/-- The MRAM with the tail ring's slot of the record `seq` that ends at `e`. -/
def ashRing (m : List (Nat × Byte)) (seq e : Nat) : List (Nat × Byte) := Mem.write 0 m (0x100 + 16 * (seq % 240)) (ashEntry seq e)

theorem ashRing_byte (m : List (Nat × Byte)) (seq e : Nat) {x : Nat} (hx : x < 0x100 + 16 * (seq % 240) ∨ 0x110 + 16 * (seq % 240) ≤ x) :
    Mem.byte 0 (ashRing m seq e) x = Mem.byte 0 m x :=
  Mem.byte_write_out 0 m _ x _ (by rw [length_ashEntry]; omega)

theorem State.OnlyRegs.mono {as bs : List Nat} {r s : State} (h : r.OnlyRegs as s) (hsub : ∀ a ∈ as, a ∈ bs) : r.OnlyRegs bs s :=
  fun a ha => h a fun hm => ha (hsub a hm)

theorem State.OnlyRegs.event {as : List Nat} {r s : State} (hs : r.OnlyRegs as s) (e : EvBlk) (b : Nat) (h : e.ev.addr ∈ as) :
    r.OnlyRegs as (s.event e b) := by
  unfold State.event
  dsimp only
  split
  · exact (hs.setF _ _ h).of_regs rfl
  · exact hs.setF _ _ h

theorem State.OnlyRegs.pushLog {as : List Nat} (fld : Nat → Fld) (n : Nat) (h : ∀ k ≤ n, (fld k).addr ∈ as) {r : State} :
    ∀ {s : State}, r.OnlyRegs as s → r.OnlyRegs as (s.pushLog fld n) := by
  induction n with
  | zero => exact fun hs => hs
  | succ n ih => exact fun hs => ih (fun k hk => h k (by omega)) (hs.setReg _ _ (h (n + 1) (by omega)))

theorem State.pushLog_rest (fld : Nat → Fld) (n : Nat) {bs : List Nat} (h : ∀ k ≤ n, (fld k).addr / 0x10000 ∈ bs) :
    ∀ {r s : State}, r.Within bs s → s.ash = r.ash → r.Within bs (s.pushLog fld n) ∧ (s.pushLog fld n).ash = r.ash := by
  induction n with
  | zero => exact fun hw ha => ⟨hw, ha⟩
  | succ n ih => exact fun hw ha => ih (fun k hk => h k (by omega)) (hw.setReg _ _ (h (n + 1) (by omega))) ha

section
variable (s : State) (r : AshReq) (a seq us : Nat)

/-- A committed record's end and number, as its registers show them. -/
def State.ashNumbered : State :=
  ((((s.setTail (a + r.size)).setF F.ASH_SEQ_SEQ seq).setF F.ASH_TAIL_SLOT_SLOT (seq % 240)).incF F.ASH_RECORD_CNT_COUNT)

/-- A committed record in the history as well. -/
def State.ashLogged : State :=
  (((s.ashNumbered r a seq).incF (F.ASH_TYPE_CNT_COUNT (r.type - 1))).pushLog F.ASH_HIST_TYPE 5).setReg (F.ASH_HIST_TYPE 0).addr
    (w32 (r.type * 2 ^ 24 + a % 2 ^ 24))

/-- What a WINDOW record shows of itself. -/
def State.ashWindowShown : State :=
  ((((s.setF F.ASH_LAST_WINDOW_ADDR a).setF F.ASH_LAST_WINDOW_SEQ_SEQ seq).setF F.ASH_COMMIT_TIME_US
    (min us 65535)).incF F.ASH_WINDOW_CNT_COUNT).when (decide (r.flags % 2 = 1)) (fun s => s.incF F.ASH_PF_CNT_COUNT)

/-- A state whose tail ring names the record. -/
def State.ashRung : State := { s with mram := ashRing s.mram seq (a + r.size) }

/-- A committed WINDOW record queues the TRIGGER records of its merged triggers and gives its place up. -/
def State.ashWindowEnd (trigs : List AshReq) : State :=
  ({ s with ash := { s.ash with queue := s.ash.queue ++ trigs } } : State).windowDone

theorem State.ashCommitted_eq : s.ashCommitted r a seq us =
    if r.type = 4 then
      (((s.ashRung r a seq).ashLogged r a seq).ashWindowShown r a seq us).ashWindowEnd
        (((s.ashRung r a seq).ashLogged r a seq).jrn.merged.map (fun t => (⟨5, 0, triggerBody t seq, ((s.ashRung r a seq).ashLogged r a seq).sys.tick,
          ((s.ashRung r a seq).ashLogged r a seq).flu.time⟩ : AshReq)))
    else if r.type = 3 then { (s.ashRung r a seq).ashLogged r a seq with ash := { ((s.ashRung r a seq).ashLogged r a seq).ash with lcDone := true } }
    else (s.ashRung r a seq).ashLogged r a seq := rfl

/-- The Ash registers that tell of the latest record. -/
def ashShownRegs : List Nat :=
  [F.ASH_LAST_WINDOW_ADDR.addr, F.ASH_LAST_WINDOW_SEQ_SEQ.addr, F.ASH_COMMIT_TIME_US.addr, F.ASH_WINDOW_CNT_COUNT.addr, F.ASH_PF_CNT_COUNT.addr]

omit r seq us in
theorem State.setTail_shows (h : a < 2 ^ 32) :
    (s.setTail a).getF F.ASH_TAIL_ADDR = a ∧
      s.OnlyRegs [F.ASH_STATUS_FOREIGN.addr, F.ASH_TAIL_ADDR.addr, F.ASH_FREE_BYTES.addr] (s.setTail a) := by
  unfold State.setTail
  dsimp only
  refine ⟨?_, (((State.OnlyRegs.refl _ s).setF _ _ (by decide)).setF _ _ (by decide)).setFlag _ _ (by decide)⟩
  rw [State.getF_setFlag_apart _ _ _ _ (by decide) (by decide), State.getF_setF_apart _ _ _ _ (by decide) (by decide),
    State.getF_setF_same _ _ _ (by decide)]
  exact Nat.mod_eq_of_lt h

theorem State.ashNumbered_shows (hseq : seq < 2 ^ 32) (ha : a + r.size < 2 ^ 32) :
    (s.ashNumbered r a seq).getF F.ASH_TAIL_ADDR = a + r.size ∧ (s.ashNumbered r a seq).getF F.ASH_SEQ_SEQ = seq ∧
      (s.ashNumbered r a seq).getF F.ASH_RECORD_CNT_COUNT = min (2 ^ 32 - 1) (s.getF F.ASH_RECORD_CNT_COUNT + 1) ∧
      (s.ashNumbered r a seq).getF F.ASH_RETRY_CNT_COUNT = s.getF F.ASH_RETRY_CNT_COUNT ∧ s.Within [0x4012] (s.ashNumbered r a seq) := by
  obtain ⟨h1, h3⟩ := s.setTail_shows (a + r.size) ha
  have h4 : s.Within [0x4012] (s.setTail (a + r.size)) :=
    (((State.Within.refl _ s).setF _ _ (by decide)).setF _ _ (by decide)).setFlag _ _ (by decide)
  unfold State.ashNumbered
  generalize s.setTail (a + r.size) = u at h1 h3 h4 ⊢
  have hlast : (u.setF F.ASH_SEQ_SEQ seq).OnlyRegs [F.ASH_TAIL_SLOT_SLOT.addr, F.ASH_RECORD_CNT_COUNT.addr]
      (((u.setF F.ASH_SEQ_SEQ seq).setF F.ASH_TAIL_SLOT_SLOT (seq % 240)).incF F.ASH_RECORD_CNT_COUNT) :=
    ((State.OnlyRegs.refl _ _).setF _ _ (by decide)).incF _ (by decide)
  have hall (g : Fld) (hg : F.ASH_SEQ_SEQ.apart g = true) (hg2 : g.addr ∉ [F.ASH_TAIL_SLOT_SLOT.addr, F.ASH_RECORD_CNT_COUNT.addr]) :
      (((u.setF F.ASH_SEQ_SEQ seq).setF F.ASH_TAIL_SLOT_SLOT (seq % 240)).incF F.ASH_RECORD_CNT_COUNT).getF g = u.getF g :=
    (State.getF_congr (hlast _ hg2)).trans (State.getF_setF_apart _ _ _ _ (by decide) hg)
  refine ⟨(hall _ (by decide) (by decide)).trans h1, ?_, ?_, (hall _ (by decide) (by decide)).trans (State.getF_congr (h3 _ (by decide))),
    ((h4.setF _ _ (by decide)).setF _ _ (by decide)).incF _ (by decide)⟩
  · refine (State.getF_congr (hlast _ (by decide))).trans ((State.getF_setF_same _ _ _ (by decide)).trans ?_)
    exact Nat.mod_eq_of_lt hseq
  · refine (State.getF_incF_same _ _ (by decide)).trans (congrArg (fun n => min (2 ^ 32 - 1) (n + 1)) ?_)
    rw [State.getF_setF_apart _ _ _ _ (by decide) (by decide), State.getF_setF_apart _ _ _ _ (by decide) (by decide)]
    exact State.getF_congr (h3 _ (by decide))

omit r seq us in
theorem State.setTail_ash : (s.setTail a).ash = s.ash :=
  (State.setFlag_ash _ _ _).trans ((State.setF_ash _ _ _).trans (State.setF_ash _ _ _))

theorem State.ashNumbered_ash : (s.ashNumbered r a seq).ash = s.ash := by
  unfold State.ashNumbered
  rw [State.incF_ash, State.setF_ash, State.setF_ash, State.setTail_ash]

theorem State.ashLogged_shows (ht : 1 ≤ r.type) (ht2 : r.type ≤ 7) (hseq : seq < 2 ^ 32) (ha : a + r.size < 2 ^ 32) :
    (s.ashLogged r a seq).getF F.ASH_TAIL_ADDR = a + r.size ∧ (s.ashLogged r a seq).getF F.ASH_SEQ_SEQ = seq ∧
      (s.ashLogged r a seq).getF F.ASH_RECORD_CNT_COUNT = min (2 ^ 32 - 1) (s.getF F.ASH_RECORD_CNT_COUNT + 1) ∧
      (s.ashLogged r a seq).getF F.ASH_RETRY_CNT_COUNT = s.getF F.ASH_RETRY_CNT_COUNT ∧ s.Within [0x4012] (s.ashLogged r a seq) ∧
      (s.ashLogged r a seq).ash = s.ash := by
  obtain ⟨h1, h2, h3, h4, h5⟩ := s.ashNumbered_shows r a seq hseq ha
  have h6 := s.ashNumbered_ash r a seq
  unfold State.ashLogged
  generalize s.ashNumbered r a seq = u at h1 h2 h3 h4 h5 h6 ⊢
  have hhist : ∀ k ≤ 5, (F.ASH_HIST_TYPE k).addr ∈ [0x401200A0, 0x401200A4, 0x401200A8, 0x401200AC, 0x401200B0, 0x401200B4] := by decide
  have hcnt : ∀ t, 1 ≤ t → t ≤ 7 → (F.ASH_TYPE_CNT_COUNT (t - 1)).addr ∈
      [0x40120080, 0x40120084, 0x40120088, 0x4012008C, 0x40120090, 0x40120094, 0x40120098] := by
    intro t h1 h2
    interval_cases t <;> decide
  have hlog : u.OnlyRegs ([0x40120080, 0x40120084, 0x40120088, 0x4012008C, 0x40120090, 0x40120094, 0x40120098] ++
      [0x401200A0, 0x401200A4, 0x401200A8, 0x401200AC, 0x401200B0, 0x401200B4])
      (((u.incF (F.ASH_TYPE_CNT_COUNT (r.type - 1))).pushLog F.ASH_HIST_TYPE 5).setReg (F.ASH_HIST_TYPE 0).addr
        (w32 (r.type * 2 ^ 24 + a % 2 ^ 24))) :=
    (((State.OnlyRegs.refl _ _).incF _ (List.mem_append_left _ (hcnt _ ht ht2))).pushLog _ 5
      fun k hk => List.mem_append_right _ (hhist k hk)).setReg _ _ (List.mem_append_right _ (hhist 0 (by decide)))
  have hblock : (F.ASH_TYPE_CNT_COUNT (r.type - 1)).addr / 0x10000 ∈ [0x4012] := by
    simp only [F.ASH_TYPE_CNT_COUNT, List.mem_cons, List.not_mem_nil, or_false]
    omega
  obtain ⟨i1, i2⟩ := State.pushLog_rest F.ASH_HIST_TYPE 5 (by decide) (h5.incF (F.ASH_TYPE_CNT_COUNT (r.type - 1)) hblock)
    ((State.incF_ash _ _).trans h6)
  have hget (g : Fld) (hg : g.addr ∉ _) := State.getF_congr (f := g) (hlog _ hg)
  exact ⟨(hget _ (by decide)).trans h1, (hget _ (by decide)).trans h2, (hget _ (by decide)).trans h3, (hget _ (by decide)).trans h4,
    i1.setReg _ _ (by decide), (State.setReg_ash _ _ _).trans i2⟩

/-- A committed WINDOW record shows itself in Ash registers that say nothing of the tail. -/
theorem State.ashWindowShown_shows : s.OnlyRegs ashShownRegs (s.ashWindowShown r a seq us) ∧ s.Within [0x4012] (s.ashWindowShown r a seq us) ∧
    (s.ashWindowShown r a seq us).ash = s.ash := by
  unfold State.ashWindowShown
  rcases State.when_cases ((((s.setF F.ASH_LAST_WINDOW_ADDR a).setF F.ASH_LAST_WINDOW_SEQ_SEQ seq).setF F.ASH_COMMIT_TIME_US
    (min us 65535)).incF F.ASH_WINDOW_CNT_COUNT) (decide (r.flags % 2 = 1)) (fun s => s.incF F.ASH_PF_CNT_COUNT) with ⟨-, h⟩ | ⟨-, h⟩ <;> rw [h]
  · exact ⟨(((((State.OnlyRegs.refl _ s).setF _ _ (by decide)).setF _ _ (by decide)).setF _ _ (by decide)).incF _ (by decide)).incF _ (by decide),
      (((((State.Within.refl _ s).setF _ _ (by decide)).setF _ _ (by decide)).setF _ _ (by decide)).incF _ (by decide)).incF _ (by decide), by simp⟩
  · exact ⟨((((State.OnlyRegs.refl _ s).setF _ _ (by decide)).setF _ _ (by decide)).setF _ _ (by decide)).incF _ (by decide),
      ((((State.Within.refl _ s).setF _ _ (by decide)).setF _ _ (by decide)).setF _ _ (by decide)).incF _ (by decide), by simp⟩

omit r a seq us in
theorem State.windowDone_shows : s.Within [0x4003, 0x4013] s.windowDone ∧ s.windowDone.ash = s.ash ∧
    s.OnlyRegs [F.JRN_STATUS_FROZEN.addr, F.FLT_REACT_FREEZE.addr] s.windowDone :=
  ⟨((((State.Within.refl _ s).hidden ..).setFlag _ _ (by decide)).setFlag _ _ (by decide)).setFlag _ _ (by decide), rfl,
    ((((State.OnlyRegs.refl _ s).of_regs rfl).setFlag _ _ (by decide)).setFlag _ _ (by decide)).setFlag _ _ (by decide)⟩

omit r a seq us in
theorem State.ashWindowEnd_shows (trigs : List AshReq) : s.Within [0x4003, 0x4013] (s.ashWindowEnd trigs) ∧
    s.OnlyRegs [F.JRN_STATUS_FROZEN.addr, F.FLT_REACT_FREEZE.addr] (s.ashWindowEnd trigs) := by
  unfold State.ashWindowEnd
  obtain ⟨h1, -, h3⟩ := ({ s with ash := { s.ash with queue := s.ash.queue ++ trigs } } : State).windowDone_shows
  exact ⟨((State.Within.refl _ s).hidden ..).trans h1, h3⟩

/-- What a committed record `r` at `a` with the number `seq` shows, and what it leaves (R476 phase 3, R480). -/
structure State.AshCommits (s : State) (r : AshReq) (a seq : Nat) (t : State) : Prop where
  ring : t.mram = ashRing s.mram seq (a + r.size)
  tail : t.getF F.ASH_TAIL_ADDR = a + r.size
  number : t.getF F.ASH_SEQ_SEQ = seq
  count : t.getF F.ASH_RECORD_CNT_COUNT = min (2 ^ 32 - 1) (s.getF F.ASH_RECORD_CNT_COUNT + 1)
  retry : t.getF F.ASH_RETRY_CNT_COUNT = s.getF F.ASH_RETRY_CNT_COUNT
  queue : r.type ≠ 4 → t.ash.queue = s.ash.queue
  transient : t.getF F.FLT_TRANSIENT_CNT_COUNT = s.getF F.FLT_TRANSIENT_CNT_COUNT
  regs : s.SameRegs [0x4003, 0x4012, 0x4013] t
  flash : t.flash = s.flash
  tiles : t.tiles = s.tiles
  otp : t.otp = s.otp

omit us in
theorem State.ashLogged_commits (ht : 1 ≤ r.type) (ht2 : r.type ≤ 7) (hseq : seq < 2 ^ 32) (ha : a + r.size < 2 ^ 32) :
    s.AshCommits r a seq ((s.ashRung r a seq).ashLogged r a seq) := by
  have hring : (s.ashRung r a seq).mram = ashRing s.mram seq (a + r.size) := rfl
  have hreg (x : Nat) : (s.ashRung r a seq).reg x = s.reg x := rfl
  have hrest : (s.ashRung r a seq).flash = s.flash ∧ (s.ashRung r a seq).tiles = s.tiles ∧ (s.ashRung r a seq).otp = s.otp ∧
    (s.ashRung r a seq).ash = s.ash := ⟨rfl, rfl, rfl, rfl⟩
  generalize s.ashRung r a seq = z at hring hreg hrest ⊢
  obtain ⟨z1, z2, z3, z4⟩ := hrest
  obtain ⟨h1, h2, h3, h4, h5, h6⟩ := z.ashLogged_shows r a seq ht ht2 hseq ha
  generalize z.ashLogged r a seq = u at h1 h2 h3 h4 h5 h6 ⊢
  obtain ⟨m3, m1, m4, m5⟩ := h5.2
  replace h3 := h3.trans (congrArg (fun n => min (2 ^ 32 - 1) (n + 1)) (State.getF_congr (hreg _)))
  replace h4 := h4.trans (State.getF_congr (hreg _))
  have hflt : u.getF F.FLT_TRANSIENT_CNT_COUNT = s.getF F.FLT_TRANSIENT_CNT_COUNT :=
    (h5.getF _ (by decide)).trans (State.getF_congr (hreg _))
  have hlog : s.SameRegs [0x4003, 0x4012, 0x4013] u := fun x hx => (h5.1 x fun hm => hx (by simp_all)).trans (hreg x)
  exact ⟨m1.trans hring, h1, h2, h3, h4, fun _ => congrArg Ash.queue (h6.trans z4), hflt, hlog, m4.trans z1, m3.trans z2, m5.trans z3⟩

omit us in
theorem State.AshCommits.beside {t u : State} (h : s.AshCommits r a seq u) (hw : u.Within [0x4003, 0x4012, 0x4013] t)
    (hg : ∀ g ∈ [F.ASH_TAIL_ADDR, F.ASH_SEQ_SEQ, F.ASH_RECORD_CNT_COUNT, F.ASH_RETRY_CNT_COUNT, F.FLT_TRANSIENT_CNT_COUNT], t.getF g = u.getF g)
    (hq : r.type ≠ 4 → t.ash.queue = u.ash.queue) : s.AshCommits r a seq t where
  ring := hw.2.2.1.trans h.ring
  tail := (hg _ (by simp)).trans h.tail
  number := (hg _ (by simp)).trans h.number
  count := (hg _ (by simp)).trans h.count
  retry := (hg _ (by simp)).trans h.retry
  queue ht := (hq ht).trans (h.queue ht)
  transient := (hg _ (by simp)).trans h.transient
  regs x hx := (hw.1 x hx).trans (h.regs x hx)
  flash := hw.2.2.2.1.trans h.flash
  tiles := hw.2.1.trans h.tiles
  otp := hw.2.2.2.2.trans h.otp

omit us in
theorem State.AshCommits.marked {s u : State} {r : AshReq} {a seq : Nat} (h : s.AshCommits r a seq u) :
    s.AshCommits r a seq { u with ash := { u.ash with lcDone := true } } :=
  h.beside _ _ _ _ ((State.Within.refl _ u).hidden ..) (fun g _ => State.getF_of_regs rfl g) fun _ => rfl

theorem State.ashCommitted_commits (ht : 1 ≤ r.type) (ht2 : r.type ≤ 7) (hseq : seq < 2 ^ 32) (ha : a + r.size < 2 ^ 32) :
    s.AshCommits r a seq (s.ashCommitted r a seq us) := by
  have hu := s.ashLogged_commits r a seq ht ht2 hseq ha
  rw [State.ashCommitted_eq]
  generalize (s.ashRung r a seq).ashLogged r a seq = u at hu ⊢
  split
  · next h4 =>
    obtain ⟨k1, k2, k3⟩ := u.ashWindowShown_shows r a seq us
    generalize u.ashWindowShown r a seq us = v at k1 k2 k3 ⊢
    obtain ⟨w1, w2⟩ := v.ashWindowEnd_shows (u.jrn.merged.map (fun t => (⟨5, 0, triggerBody t seq, u.sys.tick, u.flu.time⟩ : AshReq)))
    refine hu.beside _ _ _ _ ((k2.mono (by decide)).trans (w1.mono (by decide))) (fun g hg => ?_) fun h => absurd h4 h
    have hfar : ∀ g ∈ [F.ASH_TAIL_ADDR, F.ASH_SEQ_SEQ, F.ASH_RECORD_CNT_COUNT, F.ASH_RETRY_CNT_COUNT, F.FLT_TRANSIENT_CNT_COUNT],
        g.addr ∉ [F.JRN_STATUS_FROZEN.addr, F.FLT_REACT_FREEZE.addr] ∧ g.addr ∉ ashShownRegs := by decide
    exact (State.getF_congr (w2 _ (hfar g hg).1)).trans (State.getF_congr (k1 _ (hfar g hg).2))
  · split
    · exact hu.marked
    · exact hu

end

/-! ### The head of the queue -/

theorem State.getF_raise_ash (s : State) (n : Nat) (g : Fld) (hn : n < 256) (hq : s.Quiet n) (hb : g.addr / 0x10000 = 0x4012)
    (hg : g.addr ≠ F.ASH_MERGED_CNT_COUNT.addr) : (s.raise n).getF g = s.getF g := by
  unfold State.raise State.raiseTimed
  split
  · rfl
  · exact ((State.confined_settle _ n hn).getF g (by rw [hb]; decide)).trans (State.getF_doRaise_ash s n g hn hq hb hg)

theorem State.Confined.ash {bs : List Nat} {s t : State} (h : s.Confined bs t) : t.ash = s.ash := by
  obtain ⟨-, r, f, j, g, m, rfl⟩ := h
  rfl

/-- The request taken from the queue. -/
def State.ashTaken (s : State) (rest : List AshReq) : State := { s with ash := { s.ash with queue := rest, withhold := false } }

/-- A record for which there is no room. -/
def State.ashFull (s : State) (r : AshReq) : State :=
  (s.when (decide (r.type ≠ 3)) (fun s => ((s.incF F.ASH_DROP_CNT_COUNT).event Ev.ash 4).raise Src.ashFull)).ashGone r

/-- The tail behind a first writing that failed. -/
def State.ashRetried (s : State) (e : Nat) : State := ((s.setTail e).incF F.ASH_RETRY_CNT_COUNT).event Ev.ash 3

section
variable {s : State} {r : AshReq} {rest : List AshReq} (us : Nat) (hp : s.sys.phase = .run ∨ s.sys.phase = .holdup) (hq : s.ash.queue = r :: rest)
  (hlc : s.otp.lifecycle ≠ 4) (hf : s.flag F.ASH_STATUS_FOREIGN = false) (hpr : s.flag F.ASH_STATUS_PRESENT = true)
  (hst : s.flag F.ASH_STATUS_STOPPED = false)
include hp hq hlc hf hpr hst

theorem State.ashAppend_eq (ok1 ok2 : Bool) : s.ashAppend ok1 ok2 us =
    if !s.ashFits r then (s.ashTaken rest).ashFull r
    else if ok1 && !s.ash.withhold then
      ((s.ashTaken rest).mramWrite (s.getF F.ASH_TAIL_ADDR) (ashRecord r ((s.getF F.ASH_SEQ_SEQ + 1) % 2 ^ 32)
        (ashCommit ((s.getF F.ASH_SEQ_SEQ + 1) % 2 ^ 32)))).ashCommitted r (s.getF F.ASH_TAIL_ADDR) ((s.getF F.ASH_SEQ_SEQ + 1) % 2 ^ 32) us
    else if !(((s.ashTaken rest).mramWrite (s.getF F.ASH_TAIL_ADDR) (ashRecord r ((s.getF F.ASH_SEQ_SEQ + 1) % 2 ^ 32) 0)).ashRetried
        (s.getF F.ASH_TAIL_ADDR + r.size)).ashFits r then
      (((s.ashTaken rest).mramWrite (s.getF F.ASH_TAIL_ADDR) (ashRecord r ((s.getF F.ASH_SEQ_SEQ + 1) % 2 ^ 32) 0)).ashRetried
        (s.getF F.ASH_TAIL_ADDR + r.size)).ashFull r
    else if ok2 then
      ((((s.ashTaken rest).mramWrite (s.getF F.ASH_TAIL_ADDR) (ashRecord r ((s.getF F.ASH_SEQ_SEQ + 1) % 2 ^ 32) 0)).ashRetried
        (s.getF F.ASH_TAIL_ADDR + r.size)).mramWrite (s.getF F.ASH_TAIL_ADDR + r.size) (ashRecord r ((s.getF F.ASH_SEQ_SEQ + 1) % 2 ^ 32)
          (ashCommit ((s.getF F.ASH_SEQ_SEQ + 1) % 2 ^ 32)))).ashCommitted r (s.getF F.ASH_TAIL_ADDR + r.size)
            ((s.getF F.ASH_SEQ_SEQ + 1) % 2 ^ 32) us
    else
      ((((((s.ashTaken rest).mramWrite (s.getF F.ASH_TAIL_ADDR) (ashRecord r ((s.getF F.ASH_SEQ_SEQ + 1) % 2 ^ 32) 0)).ashRetried
        (s.getF F.ASH_TAIL_ADDR + r.size)).mramWrite (s.getF F.ASH_TAIL_ADDR + r.size)
          (ashRecord r ((s.getF F.ASH_SEQ_SEQ + 1) % 2 ^ 32) 0)).setFlag F.ASH_STATUS_STOPPED true).ashFail).ashGone r := by
  have h1 : ¬(s.sys.phase ≠ .run ∧ s.sys.phase ≠ .holdup) := fun h => hp.elim h.1 h.2
  have h2 : (s.retired || s.flag F.ASH_STATUS_FOREIGN) = false := by
    rw [hf, Bool.or_false]
    exact decide_eq_false hlc
  have h3 : (!s.flag F.ASH_STATUS_PRESENT || s.flag F.ASH_STATUS_STOPPED) = false := by
    rw [hpr, hst]
    rfl
  unfold State.ashAppend
  rw [hq]
  dsimp only
  rw [if_neg h1, h2, h3, if_neg Bool.false_ne_true, if_neg Bool.false_ne_true]
  rfl

end


/-! What a record that is not appended leaves -/

/-- The registers that a record which is not appended writes. -/
def ashGoneRegs : List Nat := [F.JRN_STATUS_FROZEN.addr, F.FLT_REACT_FREEZE.addr, F.IMG_STATUS_LC_REFUSED.addr]

theorem State.ashGone_shows (s : State) (r : AshReq) :
    s.Within [0x4003, 0x4013, 0x4018] (s.ashGone r) ∧ s.OnlyRegs ashGoneRegs (s.ashGone r) ∧ (s.ashGone r).ash.queue = s.ash.queue ∧
      (r.type ≠ 3 → s.Within [0x4003, 0x4013] (s.ashGone r)) ∧
      (r.type = 3 → s.Within [0x4018] (s.ashGone r) ∧ (s.ashGone r).flag F.IMG_STATUS_LC_REFUSED = true ∧ (s.ashGone r).ash.lcTarget = none ∧
        s.OnlyRegs [F.IMG_STATUS_LC_REFUSED.addr] (s.ashGone r)) := by
  obtain ⟨w1, w2, w3⟩ := s.windowDone_shows
  unfold State.ashGone
  dsimp only
  split
  · next h3 =>
    rw [decide_eq_false (by omega : ¬r.type = 4), State.when_false]
    have hx : s.Within [0x4018] ({ s with ash := { s.ash with lcTarget := none } } : State) := (State.Within.refl _ s).hidden ..
    have ho (as : List Nat) : s.OnlyRegs as ({ s with ash := { s.ash with lcTarget := none } } : State) := (State.OnlyRegs.refl _ s).of_regs rfl
    have hqu : ({ s with ash := { s.ash with lcTarget := none } } : State).ash.queue = s.ash.queue := rfl
    have hlc : ({ s with ash := { s.ash with lcTarget := none } } : State).ash.lcTarget = none := rfl
    generalize ({ s with ash := { s.ash with lcTarget := none } } : State) = u at hx ho hqu hlc ⊢
    have hset := hx.setFlag F.IMG_STATUS_LC_REFUSED true (by decide)
    refine ⟨hset.mono (by decide), (ho _).setFlag _ _ (by decide), (congrArg Ash.queue (State.setFlag_ash _ _ _)).trans hqu, fun h => absurd h3 h,
      fun _ => ⟨hset, flag_setFlag_same _ _ _ (by decide), (congrArg Ash.lcTarget (State.setFlag_ash _ _ _)).trans hlc,
        (ho _).setFlag _ _ (by decide)⟩⟩
  · next h3 =>
    rcases State.when_cases s (decide (r.type = 4)) State.windowDone with ⟨-, hw⟩ | ⟨-, hw⟩ <;> rw [hw]
    · exact ⟨w1.mono (by decide), w3.mono (by decide), congrArg Ash.queue w2, fun _ => w1, fun h => absurd h h3⟩
    · exact ⟨.refl _ s, .refl _ s, rfl, fun _ => .refl _ s, fun h => absurd h h3⟩

/-- A record without room is counted and raised, unless it is a life-cycle record (R479). -/
theorem State.ashFull_drops (s : State) (r : AshReq) (ht : r.type ≠ 3) (hq : s.Quiet 0xD6) (ha : s.asserted 0xD6 = false) :
    s.Within raiseBlocks (s.ashFull r) ∧ (s.ashFull r).ash.queue = s.ash.queue ∧ (s.ashFull r).sticky 0xD6 = true ∧
      (s.ashFull r).getF F.ASH_DROP_CNT_COUNT = min (2 ^ 32 - 1) (s.getF F.ASH_DROP_CNT_COUNT + 1) ∧
      (s.ashFull r).getF F.ASH_TAIL_ADDR = s.getF F.ASH_TAIL_ADDR := by
  unfold State.ashFull
  rw [State.when_true _ _ _ (decide_eq_true ht), show Src.ashFull = 0xD6 from rfl]
  have hu : s.Within [0x4012] ((s.incF F.ASH_DROP_CNT_COUNT).event Ev.ash 4) :=
    ((State.Within.refl _ s).incF _ (by decide)).event _ _ (by decide)
  have hdrop := s.getF_incF_event F.ASH_DROP_CNT_COUNT Ev.ash 4 (by decide) (by decide)
  have htail : ((s.incF F.ASH_DROP_CNT_COUNT).event Ev.ash 4).getF F.ASH_TAIL_ADDR = s.getF F.ASH_TAIL_ADDR :=
    State.getF_congr ((((State.OnlyRegs.refl [F.ASH_DROP_CNT_COUNT.addr, Ev.ash.ev.addr] s).incF _ (by decide)).event _ _ (by decide)) _ (by decide))
  have hsys : ((s.incF F.ASH_DROP_CNT_COUNT).event Ev.ash 4).sys = s.sys := by rw [State.event_sys, State.incF_sys]
  have hflt : ((s.incF F.ASH_DROP_CNT_COUNT).event Ev.ash 4).flt = s.flt := by rw [State.event_flt, State.incF_flt]
  have hash : ((s.incF F.ASH_DROP_CNT_COUNT).event Ev.ash 4).ash = s.ash := by rw [State.event_ash, State.incF_ash]
  generalize (s.incF F.ASH_DROP_CNT_COUNT).event Ev.ash 4 = u at hu hdrop htail hsys hflt hash ⊢
  have hqu : u.Quiet 0xD6 := hu.quiet (by decide) (by decide) (congrArg Sys.phase hsys) (by decide) hq
  have hau : u.asserted 0xD6 = false := (State.asserted_of_asserting (State.asserting_congr hflt) _).trans ha
  have hs := u.sticky_raise 0xD6 none (by decide) hqu hau
  have hc : u.Confined raiseBlocks (u.raise 0xD6) := u.confined_raise 0xD6 none (by decide) hqu
  have hget (g : Fld) (hb : g.addr / 0x10000 = 0x4012) (hg : g.addr ≠ F.ASH_MERGED_CNT_COUNT.addr) := u.getF_raise_ash 0xD6 g (by decide) hqu hb hg
  obtain ⟨-, g2, g3, g4, -⟩ := (u.raise 0xD6).ashGone_shows r
  have hsame (g : Fld) (hg : g.addr ∉ ashGoneRegs) := State.getF_congr (f := g) (g2 _ hg)
  refine ⟨((hu.mono (by decide)).trans hc.within).trans ((g4 ht).mono (by decide)), g3.trans ((congrArg Ash.queue hc.ash).trans (congrArg Ash.queue hash)),
    (congrArg (fun n => bit n 22) (hsame (F.FLT_STICKY_STICKY 6) (by decide))).trans hs, ?_, ?_⟩
  · exact (hsame _ (by decide)).trans ((hget _ (by decide) (by decide)).trans hdrop)
  · exact (hsame _ (by decide)).trans ((hget _ (by decide) (by decide)).trans htail)



/-! The first writing, its repeat, and a port that stops -/

theorem ashLimit_le (size type : Nat) : ashLimit size type ≤ size := by
  unfold ashLimit
  split
  · exact le_rfl
  · split <;> exact Nat.sub_le _ _

theorem State.ashRetried_shows (s : State) {e : Nat} (he : e < 2 ^ 32) :
    (s.ashRetried e).getF F.ASH_TAIL_ADDR = e ∧ (s.ashRetried e).getF F.ASH_RETRY_CNT_COUNT = min (2 ^ 32 - 1) (s.getF F.ASH_RETRY_CNT_COUNT + 1) ∧
      s.Within [0x4012] (s.ashRetried e) ∧ s.OnlyRegs [F.ASH_STATUS_FOREIGN.addr, F.ASH_TAIL_ADDR.addr, F.ASH_FREE_BYTES.addr,
        F.ASH_RETRY_CNT_COUNT.addr, Ev.ash.ev.addr] (s.ashRetried e) ∧ (s.ashRetried e).ash = s.ash ∧ (s.ashRetried e).sys = s.sys ∧
      (s.ashRetried e).flt = s.flt := by
  obtain ⟨h1, h2⟩ := s.setTail_shows e he
  have hw : s.Within [0x4012] (s.setTail e) := (((State.Within.refl _ s).setF _ _ (by decide)).setF _ _ (by decide)).setFlag _ _ (by decide)
  have hash := s.setTail_ash e
  have hsys : (s.setTail e).sys = s.sys := (State.setFlag_sys _ _ _).trans ((State.setF_sys _ _ _).trans (State.setF_sys _ _ _))
  have hflt : (s.setTail e).flt = s.flt := (State.setFlag_flt _ _ _).trans ((State.setF_flt _ _ _).trans (State.setF_flt _ _ _))
  unfold State.ashRetried
  generalize s.setTail e = u at h1 h2 hw hash hsys hflt ⊢
  refine ⟨?_, ?_, (hw.incF _ (by decide)).event _ _ (by decide), ((h2.mono (by decide)).incF _ (by decide)).event _ _ (by decide), ?_, ?_, ?_⟩
  · rw [State.getF_event_other _ _ _ _ (by decide), State.getF_incF_apart _ _ _ (by decide) (by decide)]
    exact h1
  · refine (State.getF_incF_event u _ _ _ (by decide) (by decide)).trans (congrArg (fun n => min (2 ^ 32 - 1) (n + 1)) ?_)
    exact State.getF_congr (h2 _ (by decide))
  · rw [State.event_ash, State.incF_ash, hash]
  · rw [State.event_sys, State.incF_sys, hsys]
  · rw [State.event_flt, State.incF_flt, hflt]

/-- The failure of the MRAM is raised (R479). -/
theorem State.ashFail_raises (s : State) (hn : s.ash.failRaised = false) (hq : s.Quiet 0xD5) (ha : s.asserted 0xD5 = false) :
    s.Within raiseBlocks s.ashFail ∧ s.ashFail.ash.queue = s.ash.queue ∧ s.ashFail.sticky 0xD5 = true ∧
      ∀ g : Fld, g.addr / 0x10000 = 0x4012 → g.addr ≠ F.ASH_MERGED_CNT_COUNT.addr → g.addr ≠ Ev.ash.ev.addr → s.ashFail.getF g = s.getF g := by
  unfold State.ashFail
  rw [hn, if_neg Bool.false_ne_true, show Src.ashWrite = 0xD5 from rfl]
  have hx : s.Within [0x4012] ({ s with ash := { s.ash with failRaised := true } } : State) := (State.Within.refl _ s).hidden ..
  have hg (g : Fld) : ({ s with ash := { s.ash with failRaised := true } } : State).getF g = s.getF g := State.getF_of_regs rfl g
  have hrest : ({ s with ash := { s.ash with failRaised := true } } : State).ash.queue = s.ash.queue ∧
    ({ s with ash := { s.ash with failRaised := true } } : State).sys = s.sys ∧
    ({ s with ash := { s.ash with failRaised := true } } : State).flt = s.flt := ⟨rfl, rfl, rfl⟩
  generalize ({ s with ash := { s.ash with failRaised := true } } : State) = v at hx hg hrest ⊢
  obtain ⟨hqueue, hsys, hflt⟩ := hrest
  have hu := hx.event Ev.ash 2 (by decide)
  have hget (g : Fld) (he : g.addr ≠ Ev.ash.ev.addr) : (v.event Ev.ash 2).getF g = s.getF g :=
    (State.getF_event_other _ _ _ _ he.symm).trans (hg g)
  replace hqueue := (congrArg Ash.queue (State.event_ash v Ev.ash 2)).trans hqueue
  replace hsys := (State.event_sys v Ev.ash 2).trans hsys
  replace hflt := (State.event_flt v Ev.ash 2).trans hflt
  generalize v.event Ev.ash 2 = u at hu hget hqueue hsys hflt ⊢
  have hqu : u.Quiet 0xD5 := hu.quiet (by decide) (by decide) (congrArg Sys.phase hsys) (by decide) hq
  have hau : u.asserted 0xD5 = false := (State.asserted_of_asserting (State.asserting_congr hflt) _).trans ha
  have hc : u.Confined raiseBlocks (u.raise 0xD5) := u.confined_raise 0xD5 none (by decide) hqu
  exact ⟨(hu.mono (by decide)).trans hc.within, (congrArg Ash.queue hc.ash).trans hqueue, u.sticky_raise 0xD5 none (by decide) hqu hau,
    fun g hb hm he => (u.getF_raise_ash 0xD5 g (by decide) hqu hb hm).trans (hget g he)⟩

/-- Writing a record leaves what lies beside it. -/
theorem State.mramWrite_byte (s : State) (a x : Nat) (r : AshReq) (seq c : Nat) (hx : x < a ∨ a + r.size ≤ x) :
    Mem.byte 0 (s.mramWrite a (ashRecord r seq c)).mram x = Mem.byte 0 s.mram x :=
  Mem.byte_write_out 0 s.mram a x _ (by rw [length_ashRecord]; exact hx)

theorem State.mramWrite_record (s : State) (a i : Nat) (r : AshReq) (seq c : Nat) (hi : i < r.size) :
    Mem.byte 0 (s.mramWrite a (ashRecord r seq c)).mram (a + i) = (ashRecord r seq c).getD i 0 :=
  Mem.byte_write_in 0 s.mram a i _ (by rw [length_ashRecord]; exact hi)

/-- The tail ring lies below the records. -/
theorem State.AshCommits.byte {s t : State} {r : AshReq} {a seq : Nat} (h : s.AshCommits r a seq t) {x : Nat} (hx : 0x1000 ≤ x) :
    Mem.byte 0 t.mram x = Mem.byte 0 s.mram x := by
  rw [h.ring]
  exact ashRing_byte _ _ _ (.inr (by omega))

section
variable {s : State} {r : AshReq} {rest : List AshReq} {us : Nat} (hp : s.sys.phase = .run ∨ s.sys.phase = .holdup) (hq : s.ash.queue = r :: rest)
  (ht : 1 ≤ r.type) (ht2 : r.type ≤ 7) (hlc : s.otp.lifecycle ≠ 4) (hf : s.flag F.ASH_STATUS_FOREIGN = false)
  (hpr : s.flag F.ASH_STATUS_PRESENT = true) (hst : s.flag F.ASH_STATUS_STOPPED = false)
include hp hq ht ht2 hlc hf hpr hst

theorem State.ashAppend_first {ok2 : Bool} (hwh : s.ash.withhold = false) (hfit : s.ashFits r = true) (hlow : 0x1000 ≤ s.getF F.ASH_TAIL_ADDR) :
    ∃ t, exec (.ashAppend true ok2 us) s = .next t ∧
      (∀ i, i < r.size → Mem.byte 0 t.mram (s.getF F.ASH_TAIL_ADDR + i) =
        (ashRecord r ((s.getF F.ASH_SEQ_SEQ + 1) % 2 ^ 32) (ashCommit ((s.getF F.ASH_SEQ_SEQ + 1) % 2 ^ 32))).getD i 0) ∧
      (∀ x, x < s.getF F.ASH_TAIL_ADDR ∨ s.getF F.ASH_TAIL_ADDR + r.size ≤ x →
        x < 0x100 + 16 * ((s.getF F.ASH_SEQ_SEQ + 1) % 2 ^ 32 % 240) ∨ 0x110 + 16 * ((s.getF F.ASH_SEQ_SEQ + 1) % 2 ^ 32 % 240) ≤ x →
        Mem.byte 0 t.mram x = Mem.byte 0 s.mram x) ∧
      t.getF F.ASH_TAIL_ADDR = s.getF F.ASH_TAIL_ADDR + r.size ∧ t.getF F.ASH_SEQ_SEQ = (s.getF F.ASH_SEQ_SEQ + 1) % 2 ^ 32 ∧
      t.getF F.ASH_RECORD_CNT_COUNT = min (2 ^ 32 - 1) (s.getF F.ASH_RECORD_CNT_COUNT + 1) ∧
      t.getF F.ASH_RETRY_CNT_COUNT = s.getF F.ASH_RETRY_CNT_COUNT ∧ (r.type ≠ 4 → t.ash.queue = rest) ∧
      s.SameRegs [0x4003, 0x4012, 0x4013] t ∧ t.flash = s.flash ∧ t.tiles = s.tiles ∧ t.otp = s.otp := by
  have heq := State.ashAppend_eq us hp hq hlc hf hpr hst true ok2
  have hlim := of_decide_eq_true hfit
  have hle := ashLimit_le (s.getF F.ASH_SIZE_BYTES) r.type
  have hsize : s.getF F.ASH_SIZE_BYTES < 2 ^ 32 := State.getF_lt s F.ASH_SIZE_BYTES
  rw [hfit, hwh] at heq
  replace heq := heq.trans ((if_neg Bool.false_ne_true).trans (if_pos rfl))
  generalize s.getF F.ASH_TAIL_ADDR = a at *
  have hseq : (s.getF F.ASH_SEQ_SEQ + 1) % 2 ^ 32 < 2 ^ 32 := Nat.mod_lt _ (by decide)
  generalize (s.getF F.ASH_SEQ_SEQ + 1) % 2 ^ 32 = seq at *
  have hin (i : Nat) (hi : i < r.size) := (s.ashTaken rest).mramWrite_record a i r seq (ashCommit seq) hi
  have hout (x : Nat) (hx : x < a ∨ a + r.size ≤ x) := (s.ashTaken rest).mramWrite_byte a x r seq (ashCommit seq) hx
  have hrest : ((s.ashTaken rest).mramWrite a (ashRecord r seq (ashCommit seq))).regs = s.regs ∧
      ((s.ashTaken rest).mramWrite a (ashRecord r seq (ashCommit seq))).ash.queue = rest ∧
      ((s.ashTaken rest).mramWrite a (ashRecord r seq (ashCommit seq))).flash = s.flash ∧
      ((s.ashTaken rest).mramWrite a (ashRecord r seq (ashCommit seq))).tiles = s.tiles ∧
      ((s.ashTaken rest).mramWrite a (ashRecord r seq (ashCommit seq))).otp = s.otp := ⟨rfl, rfl, rfl, rfl, rfl⟩
  generalize (s.ashTaken rest).mramWrite a (ashRecord r seq (ashCommit seq)) = u at heq hin hout hrest
  obtain ⟨r1, r2, r3, r4, r5⟩ := hrest
  have hC := u.ashCommitted_commits r a seq us ht ht2 hseq (by omega)
  have hg (g : Fld) : u.getF g = s.getF g := State.getF_of_regs r1 g
  refine ⟨_, congrArg Host.Outcome.next heq, fun i hi => (hC.byte (by omega)).trans (hin i hi), fun x hx hslot => ?_, hC.tail, hC.number, ?_,
    hC.retry.trans (hg _), fun h => (hC.queue h).trans r2, fun x hx => (hC.regs x hx).trans ?_, hC.flash.trans r3, hC.tiles.trans r4,
    hC.otp.trans r5⟩
  · rw [hC.ring, ashRing_byte _ _ _ hslot]
    exact hout x hx
  · rw [hC.count, hg]
  · unfold State.reg
    rw [r1]

omit hp hq ht ht2 hlc hf hpr hst in
/-- The state behind a first writing that failed. -/
def State.ashTorn (s : State) (r : AshReq) (rest : List AshReq) : State :=
  ((s.ashTaken rest).mramWrite (s.getF F.ASH_TAIL_ADDR) (ashRecord r ((s.getF F.ASH_SEQ_SEQ + 1) % 2 ^ 32) 0)).ashRetried
    (s.getF F.ASH_TAIL_ADDR + r.size)

omit hp hq ht ht2 hlc hf hpr hst in
theorem State.ashTorn_shows (he : s.getF F.ASH_TAIL_ADDR + r.size < 2 ^ 32) :
    (s.ashTorn r rest).mram = ((s.ashTaken rest).mramWrite (s.getF F.ASH_TAIL_ADDR) (ashRecord r ((s.getF F.ASH_SEQ_SEQ + 1) % 2 ^ 32) 0)).mram ∧
      (s.ashTorn r rest).getF F.ASH_TAIL_ADDR = s.getF F.ASH_TAIL_ADDR + r.size ∧
      (s.ashTorn r rest).getF F.ASH_RETRY_CNT_COUNT = min (2 ^ 32 - 1) (s.getF F.ASH_RETRY_CNT_COUNT + 1) ∧
      (∀ g ∈ [F.ASH_SEQ_SEQ, F.ASH_SIZE_BYTES, F.FLT_TRANSIENT_CNT_COUNT], (s.ashTorn r rest).getF g = s.getF g) ∧
      s.SameRegs [0x4012] (s.ashTorn r rest) ∧ (s.ashTorn r rest).ash.queue = rest ∧ (s.ashTorn r rest).ash.failRaised = s.ash.failRaised ∧
      (s.ashTorn r rest).sys = s.sys ∧ (s.ashTorn r rest).flt = s.flt ∧ (s.ashTorn r rest).flash = s.flash ∧
      (s.ashTorn r rest).tiles = s.tiles ∧ (s.ashTorn r rest).otp = s.otp := by
  unfold State.ashTorn
  generalize s.getF F.ASH_TAIL_ADDR = a at *
  generalize (s.getF F.ASH_SEQ_SEQ + 1) % 2 ^ 32 = seq
  have hrest : ((s.ashTaken rest).mramWrite a (ashRecord r seq 0)).regs = s.regs ∧
      ((s.ashTaken rest).mramWrite a (ashRecord r seq 0)).ash.queue = rest ∧
      ((s.ashTaken rest).mramWrite a (ashRecord r seq 0)).ash.failRaised = s.ash.failRaised ∧
      ((s.ashTaken rest).mramWrite a (ashRecord r seq 0)).sys = s.sys ∧ ((s.ashTaken rest).mramWrite a (ashRecord r seq 0)).flt = s.flt ∧
      ((s.ashTaken rest).mramWrite a (ashRecord r seq 0)).flash = s.flash ∧
      ((s.ashTaken rest).mramWrite a (ashRecord r seq 0)).tiles = s.tiles ∧
      ((s.ashTaken rest).mramWrite a (ashRecord r seq 0)).otp = s.otp := ⟨rfl, rfl, rfl, rfl, rfl, rfl, rfl, rfl⟩
  generalize (s.ashTaken rest).mramWrite a (ashRecord r seq 0) = u at hrest ⊢
  obtain ⟨r1, r2, r3, r4, r5, r6, r7, r8⟩ := hrest
  have hg (g : Fld) : u.getF g = s.getF g := State.getF_of_regs r1 g
  obtain ⟨h1, h2, h3, h4, h5, h6, h7⟩ := u.ashRetried_shows he
  obtain ⟨m1, m2, m3, m4⟩ := h3.2
  have hreg (x : Nat) : u.reg x = s.reg x := by
    unfold State.reg
    rw [r1]
  refine ⟨m2, h1, h2.trans (by rw [hg]), fun g hm => (State.getF_congr (h4 _ ?_)).trans (hg g), fun x hx => (h3.1 x hx).trans (hreg x),
    (congrArg Ash.queue h5).trans r2, (congrArg Ash.failRaised h5).trans r3, h6.trans r4, h7.trans r5, m3.trans r6, m1.trans r7, m4.trans r8⟩
  have hfar : ∀ g ∈ [F.ASH_SEQ_SEQ, F.ASH_SIZE_BYTES, F.FLT_TRANSIENT_CNT_COUNT], g.addr ∉ [F.ASH_STATUS_FOREIGN.addr, F.ASH_TAIL_ADDR.addr,
      F.ASH_FREE_BYTES.addr, F.ASH_RETRY_CNT_COUNT.addr, Ev.ash.ev.addr] := by decide
  exact hfar g hm

section
variable {ok1 : Bool} (hbad : ok1 = false ∨ s.ash.withhold = true) (hlow : 0x1000 ≤ s.getF F.ASH_TAIL_ADDR)
  (hroom : s.getF F.ASH_TAIL_ADDR + 2 * r.size ≤ ashLimit (s.getF F.ASH_SIZE_BYTES) r.type)
include hroom

omit hp hq ht ht2 hlc hf hpr hst in
theorem State.ashRoom : s.getF F.ASH_TAIL_ADDR + 2 * r.size < 2 ^ 32 := by
  have hle := ashLimit_le (s.getF F.ASH_SIZE_BYTES) r.type
  have hsize : s.getF F.ASH_SIZE_BYTES < 2 ^ 32 := State.getF_lt s F.ASH_SIZE_BYTES
  omega

include hbad

omit ht ht2 in
theorem State.ashAppend_again (ok2 : Bool) : s.ashAppend ok1 ok2 us =
    if ok2 then
      ((s.ashTorn r rest).mramWrite (s.getF F.ASH_TAIL_ADDR + r.size) (ashRecord r ((s.getF F.ASH_SEQ_SEQ + 1) % 2 ^ 32)
        (ashCommit ((s.getF F.ASH_SEQ_SEQ + 1) % 2 ^ 32)))).ashCommitted r (s.getF F.ASH_TAIL_ADDR + r.size)
          ((s.getF F.ASH_SEQ_SEQ + 1) % 2 ^ 32) us
    else
      ((((s.ashTorn r rest).mramWrite (s.getF F.ASH_TAIL_ADDR + r.size) (ashRecord r ((s.getF F.ASH_SEQ_SEQ + 1) % 2 ^ 32) 0)).setFlag
        F.ASH_STATUS_STOPPED true).ashFail).ashGone r := by
  have hfit : s.ashFits r = true := decide_eq_true (by omega)
  have hwrite : (ok1 && !s.ash.withhold) = false := by
    rcases hbad with h | h <;> rw [h]
    · rfl
    · exact Bool.and_false _
  have htwice : (s.ashTorn r rest).ashFits r = true := by
    have hroom' := State.ashRoom hroom
    obtain ⟨-, h2, -, h4, -⟩ := s.ashTorn_shows (r := r) (rest := rest) (by omega)
    refine decide_eq_true ?_
    rw [h2, h4 F.ASH_SIZE_BYTES (by simp)]
    omega
  have heq := State.ashAppend_eq us hp hq hlc hf hpr hst ok1 ok2
  rw [hfit, hwrite] at heq
  refine heq.trans ((if_neg Bool.false_ne_true).trans ((if_neg Bool.false_ne_true).trans (if_neg ?_)))
  rw [← State.ashTorn, htwice]
  exact Bool.false_ne_true

end
end


theorem State.quiet_mram (s : State) (m : List (Nat × Byte)) (n : Nat) : ({ s with mram := m } : State).Quiet n ↔ s.Quiet n := Iff.rfl

section
variable {s : State} {r : AshReq} {rest : List AshReq} {us : Nat} (hp : s.sys.phase = .run ∨ s.sys.phase = .holdup) (hq : s.ash.queue = r :: rest)
  (ht : 1 ≤ r.type) (ht2 : r.type ≤ 7) (hlc : s.otp.lifecycle ≠ 4) (hf : s.flag F.ASH_STATUS_FOREIGN = false)
  (hpr : s.flag F.ASH_STATUS_PRESENT = true) (hst : s.flag F.ASH_STATUS_STOPPED = false)
include hp hq hlc hf hpr hst

/-- A record that does not fit (R479). -/
theorem State.ashAppend_nowhere (hfit : s.ashFits r = false) (ok1 ok2 : Bool) :
    exec (.ashAppend ok1 ok2 us) s = .next ((s.ashTaken rest).ashFull r) := by
  have heq := State.ashAppend_eq us hp hq hlc hf hpr hst ok1 ok2
  rw [hfit] at heq
  exact congrArg Host.Outcome.next (heq.trans (if_pos rfl))

theorem State.ashAppend_drops (hfit : s.ashFits r = false) (h3 : r.type ≠ 3) (hquiet : s.Quiet 0xD6) (ha : s.asserted 0xD6 = false)
    (ok1 ok2 : Bool) :
    ∃ t, exec (.ashAppend ok1 ok2 us) s = .next t ∧ s.SameStores t ∧ t.ash.queue = rest ∧ t.sticky 0xD6 = true ∧
      t.getF F.ASH_DROP_CNT_COUNT = min (2 ^ 32 - 1) (s.getF F.ASH_DROP_CNT_COUNT + 1) ∧ t.getF F.ASH_TAIL_ADDR = s.getF F.ASH_TAIL_ADDR ∧
      s.SameRegs raiseBlocks t := by
  have hw : s.Within [] (s.ashTaken rest) := (State.Within.refl _ s).hidden ..
  have hg (g : Fld) : (s.ashTaken rest).getF g = s.getF g := State.getF_of_regs rfl g
  have hrest : (s.ashTaken rest).ash.queue = rest ∧ (s.ashTaken rest).sys = s.sys ∧ (s.ashTaken rest).flt = s.flt := ⟨rfl, rfl, rfl⟩
  rw [State.ashAppend_nowhere hp hq hlc hf hpr hst hfit]
  generalize s.ashTaken rest = u at hw hg hrest ⊢
  obtain ⟨r1, r2, r3⟩ := hrest
  obtain ⟨k1, k2, k3, k4, k5⟩ := u.ashFull_drops r h3 (hw.quiet (by decide) (by decide) (congrArg Sys.phase r2) (by decide) hquiet)
    ((State.asserted_of_asserting (State.asserting_congr r3) _).trans ha)
  exact ⟨_, rfl, ((hw.mono (by decide)).trans k1).2, k2.trans r1, k3, k4.trans (by rw [hg]), k5.trans (hg _), ((hw.mono (by decide)).trans k1).1⟩

theorem State.ashAppend_refuses (hfit : s.ashFits r = false) (h3 : r.type = 3) (ok1 ok2 : Bool) :
    ∃ t, exec (.ashAppend ok1 ok2 us) s = .next t ∧ s.SameStores t ∧ t.ash.queue = rest ∧ t.ash.lcTarget = none ∧
      t.flag F.IMG_STATUS_LC_REFUSED = true ∧ s.OnlyRegs [F.IMG_STATUS_LC_REFUSED.addr] t := by
  have hw : s.Within [0x4018] (s.ashTaken rest) := (State.Within.refl _ s).hidden ..
  have ho : s.OnlyRegs [F.IMG_STATUS_LC_REFUSED.addr] (s.ashTaken rest) := (State.OnlyRegs.refl _ s).of_regs rfl
  have hqueue : (s.ashTaken rest).ash.queue = rest := rfl
  have hfull : (s.ashTaken rest).ashFull r = (s.ashTaken rest).ashGone r := by
    unfold State.ashFull
    rw [decide_eq_false (not_not.2 h3), State.when_false]
  rw [State.ashAppend_nowhere hp hq hlc hf hpr hst hfit, hfull]
  generalize s.ashTaken rest = u at hw ho hqueue ⊢
  obtain ⟨-, -, k3, -, k5⟩ := u.ashGone_shows r
  obtain ⟨j1, j2, j3, j4⟩ := k5 h3
  exact ⟨_, rfl, (hw.trans j1).2, k3.trans hqueue, j3, j2, fun x hx => (j4 x hx).trans (ho x hx)⟩

variable {ok1 : Bool} (hbad : ok1 = false ∨ s.ash.withhold = true) (hlow : 0x1000 ≤ s.getF F.ASH_TAIL_ADDR)
  (hroom : s.getF F.ASH_TAIL_ADDR + 2 * r.size ≤ ashLimit (s.getF F.ASH_SIZE_BYTES) r.type)
include hbad hroom

include ht ht2 hlow in
theorem State.ashAppend_repeats :
    ∃ t, exec (.ashAppend ok1 true us) s = .next t ∧
      (∀ i, i < r.size → Mem.byte 0 t.mram (s.getF F.ASH_TAIL_ADDR + i) =
        (ashRecord r ((s.getF F.ASH_SEQ_SEQ + 1) % 2 ^ 32) 0).getD i 0 ∧
        Mem.byte 0 t.mram (s.getF F.ASH_TAIL_ADDR + r.size + i) =
        (ashRecord r ((s.getF F.ASH_SEQ_SEQ + 1) % 2 ^ 32) (ashCommit ((s.getF F.ASH_SEQ_SEQ + 1) % 2 ^ 32))).getD i 0) ∧
      (∀ x, x < s.getF F.ASH_TAIL_ADDR ∨ s.getF F.ASH_TAIL_ADDR + 2 * r.size ≤ x →
        x < 0x100 + 16 * ((s.getF F.ASH_SEQ_SEQ + 1) % 2 ^ 32 % 240) ∨ 0x110 + 16 * ((s.getF F.ASH_SEQ_SEQ + 1) % 2 ^ 32 % 240) ≤ x →
        Mem.byte 0 t.mram x = Mem.byte 0 s.mram x) ∧
      t.getF F.ASH_TAIL_ADDR = s.getF F.ASH_TAIL_ADDR + 2 * r.size ∧ t.getF F.ASH_SEQ_SEQ = (s.getF F.ASH_SEQ_SEQ + 1) % 2 ^ 32 ∧
      t.getF F.ASH_RETRY_CNT_COUNT = min (2 ^ 32 - 1) (s.getF F.ASH_RETRY_CNT_COUNT + 1) ∧ (r.type ≠ 4 → t.ash.queue = rest) ∧
      t.getF F.FLT_TRANSIENT_CNT_COUNT = s.getF F.FLT_TRANSIENT_CNT_COUNT ∧
      s.SameRegs [0x4003, 0x4012, 0x4013] t ∧ t.flash = s.flash ∧ t.tiles = s.tiles ∧ t.otp = s.otp := by
  have heq := State.ashAppend_again hp hq hlc hf hpr hst (us := us) hbad hroom true
  replace heq := heq.trans (if_pos rfl)
  have hend := State.ashRoom hroom
  obtain ⟨v1, v2, v3, v4, v5, v6, -, -, -, v10, v11, v12⟩ := s.ashTorn_shows (r := r) (rest := rest) (by omega)
  have hseq : (s.getF F.ASH_SEQ_SEQ + 1) % 2 ^ 32 < 2 ^ 32 := Nat.mod_lt _ (by decide)
  generalize s.ashTorn r rest = v at heq v1 v2 v3 v4 v5 v6 v10 v11 v12
  generalize s.getF F.ASH_TAIL_ADDR = a at *
  generalize (s.getF F.ASH_SEQ_SEQ + 1) % 2 ^ 32 = seq at *
  have hin0 (i : Nat) (hi : i < r.size) := (s.ashTaken rest).mramWrite_record a i r seq 0 hi
  have hout0 (x : Nat) (hx : x < a ∨ a + r.size ≤ x) := (s.ashTaken rest).mramWrite_byte a x r seq 0 hx
  have hin (i : Nat) (hi : i < r.size) := v.mramWrite_record (a + r.size) i r seq (ashCommit seq) hi
  have hout (x : Nat) (hx : x < a + r.size ∨ a + r.size + r.size ≤ x) := v.mramWrite_byte (a + r.size) x r seq (ashCommit seq) hx
  have hrest : (v.mramWrite (a + r.size) (ashRecord r seq (ashCommit seq))).regs = v.regs ∧
      (v.mramWrite (a + r.size) (ashRecord r seq (ashCommit seq))).ash = v.ash ∧
      (v.mramWrite (a + r.size) (ashRecord r seq (ashCommit seq))).flash = v.flash ∧
      (v.mramWrite (a + r.size) (ashRecord r seq (ashCommit seq))).tiles = v.tiles ∧
      (v.mramWrite (a + r.size) (ashRecord r seq (ashCommit seq))).otp = v.otp := ⟨rfl, rfl, rfl, rfl, rfl⟩
  generalize v.mramWrite (a + r.size) (ashRecord r seq (ashCommit seq)) = u at heq hin hout hrest
  obtain ⟨r1, r2, r3, r4, r5⟩ := hrest
  have hC := u.ashCommitted_commits r (a + r.size) seq us ht ht2 hseq (by omega)
  have hg (g : Fld) : u.getF g = v.getF g := State.getF_of_regs r1 g
  refine ⟨_, congrArg Host.Outcome.next heq, fun i hi => ⟨?_, (hC.byte (by omega)).trans (hin i hi)⟩, fun x hx hslot => ?_,
    hC.tail.trans (by omega), hC.number, (hC.retry.trans (hg _)).trans v3, fun h => (hC.queue h).trans ((congrArg Ash.queue r2).trans v6),
    (hC.transient.trans (hg _)).trans (v4 _ (by simp)), fun x hx => (hC.regs x hx).trans ?_, (hC.flash.trans r3).trans v10,
    (hC.tiles.trans r4).trans v11, (hC.otp.trans r5).trans v12⟩
  · rw [hC.byte (by omega), hout _ (by omega), v1]
    exact hin0 i hi
  · rw [hC.ring, ashRing_byte _ _ _ hslot, hout _ (by omega), v1]
    exact hout0 x (by omega)
  · refine (show u.reg x = v.reg x by unfold State.reg; rw [r1]).trans (v5 x fun hm => hx ?_)
    simp_all

theorem State.ashAppend_stops (hn : s.ash.failRaised = false) (hquiet : s.Quiet 0xD5) (ha : s.asserted 0xD5 = false) :
    ∃ t, exec (.ashAppend ok1 false us) s = .next t ∧ t.flag F.ASH_STATUS_STOPPED = true ∧ t.sticky 0xD5 = true ∧
      t.getF F.ASH_RETRY_CNT_COUNT = min (2 ^ 32 - 1) (s.getF F.ASH_RETRY_CNT_COUNT + 1) ∧ t.ash.queue = rest ∧
      t.getF F.ASH_SEQ_SEQ = s.getF F.ASH_SEQ_SEQ ∧ (r.type = 3 → t.flag F.IMG_STATUS_LC_REFUSED = true) ∧
      (∀ x, x < s.getF F.ASH_TAIL_ADDR ∨ s.getF F.ASH_TAIL_ADDR + 2 * r.size ≤ x → Mem.byte 0 t.mram x = Mem.byte 0 s.mram x) ∧
      s.SameRegs (0x4018 :: raiseBlocks) t ∧ t.flash = s.flash ∧ t.tiles = s.tiles ∧ t.otp = s.otp := by
  have heq := State.ashAppend_again hp hq hlc hf hpr hst (us := us) hbad hroom false
  replace heq := heq.trans (if_neg Bool.false_ne_true)
  have hend := State.ashRoom hroom
  obtain ⟨v1, v2, v3, v4, v5, v6, v7, v8, v9, v10, v11, v12⟩ := s.ashTorn_shows (r := r) (rest := rest) (by omega)
  generalize s.ashTorn r rest = v at heq v1 v2 v3 v4 v5 v6 v7 v8 v9 v10 v11 v12
  generalize s.getF F.ASH_TAIL_ADDR = a at *
  generalize (s.getF F.ASH_SEQ_SEQ + 1) % 2 ^ 32 = seq at *
  have hout0 (x : Nat) (hx : x < a ∨ a + r.size ≤ x) := (s.ashTaken rest).mramWrite_byte a x r seq 0 hx
  have hout (x : Nat) (hx : x < a + r.size ∨ a + r.size + r.size ≤ x) := v.mramWrite_byte (a + r.size) x r seq 0 hx
  have hrest : (v.mramWrite (a + r.size) (ashRecord r seq 0)).regs = v.regs ∧ (v.mramWrite (a + r.size) (ashRecord r seq 0)).ash = v.ash ∧
      (v.mramWrite (a + r.size) (ashRecord r seq 0)).sys = v.sys ∧ (v.mramWrite (a + r.size) (ashRecord r seq 0)).flt = v.flt ∧
      (v.mramWrite (a + r.size) (ashRecord r seq 0)).flash = v.flash ∧ (v.mramWrite (a + r.size) (ashRecord r seq 0)).tiles = v.tiles ∧
      (v.mramWrite (a + r.size) (ashRecord r seq 0)).otp = v.otp := ⟨rfl, rfl, rfl, rfl, rfl, rfl, rfl⟩
  generalize v.mramWrite (a + r.size) (ashRecord r seq 0) = u at heq hout hrest
  obtain ⟨r1, r2, r3, r4, r5, r6, r7⟩ := hrest
  have hreg : s.SameRegs [0x4012] u := fun x hx => (show u.reg x = v.reg x by unfold State.reg; rw [r1]).trans (v5 x hx)
  have hg (g : Fld) : u.getF g = v.getF g := State.getF_of_regs r1 g
  have hw : u.Within [0x4012] (u.setFlag F.ASH_STATUS_STOPPED true) := (State.Within.refl _ u).setFlag _ _ (by decide)
  have hstop : (u.setFlag F.ASH_STATUS_STOPPED true).flag F.ASH_STATUS_STOPPED = true := flag_setFlag_same _ _ _ (by decide)
  have hapart (g : Fld) (h : F.ASH_STATUS_STOPPED.apart g = true) := State.getF_setFlag_apart u F.ASH_STATUS_STOPPED g true (by decide) h
  have hash : (u.setFlag F.ASH_STATUS_STOPPED true).ash = v.ash := (State.setFlag_ash _ _ _).trans r2
  have hsys : (u.setFlag F.ASH_STATUS_STOPPED true).sys = s.sys := (State.setFlag_sys _ _ _).trans (r3.trans v8)
  have hflt : (u.setFlag F.ASH_STATUS_STOPPED true).flt = s.flt := (State.setFlag_flt _ _ _).trans (r4.trans v9)
  generalize u.setFlag F.ASH_STATUS_STOPPED true = x at heq hw hstop hapart hash hsys hflt
  obtain ⟨w1, w2, w3, w4⟩ := hw.2
  have hx : ({ s with mram := x.mram } : State).Within [0x4012] x :=
    ⟨fun y hy => (hw.1 y hy).trans (hreg y hy), w1.trans (r6.trans v11), rfl, w3.trans (r5.trans v10), w4.trans (r7.trans v12)⟩
  have hquiet' : x.Quiet 0xD5 := hx.quiet (by decide) (by decide) (congrArg Sys.phase hsys) (by decide) ((s.quiet_mram _ _).2 hquiet)
  have ha' : x.asserted 0xD5 = false := (State.asserted_of_asserting (State.asserting_congr hflt) _).trans ha
  obtain ⟨k1, k2, k3, k4⟩ := x.ashFail_raises ((congrArg Ash.failRaised hash).trans (v7.trans hn)) hquiet' ha'
  generalize x.ashFail = y at heq k1 k2 k3 k4
  obtain ⟨g1, g2, g3, -, g5⟩ := y.ashGone_shows r
  have hget (g : Fld) (hm : g.addr ∉ ashGoneRegs) : (y.ashGone r).getF g = y.getF g := State.getF_congr (g2 _ hm)
  obtain ⟨i1, i2, i3, i4⟩ := k1.2
  obtain ⟨j1, j2, j3, j4⟩ := g1.2
  refine ⟨_, congrArg Host.Outcome.next heq, ?_, (congrArg (fun n => bit n 21) (hget (F.FLT_STICKY_STICKY 6) (by decide))).trans k3, ?_,
    g3.trans (k2.trans ((congrArg Ash.queue hash).trans v6)), ?_, fun h3 => (g5 h3).2.1, fun z hz => ?_, fun z hz => ?_,
    (j3.trans i3).trans (w3.trans (r5.trans v10)), (j1.trans i1).trans (w1.trans (r6.trans v11)), (j4.trans i4).trans (w4.trans (r7.trans v12))⟩
  · exact (State.flag_congr ((hget _ (by decide)).trans (k4 _ (by decide) (by decide) (by decide)))).trans hstop
  · refine ((hget _ (by decide)).trans (k4 _ (by decide) (by decide) (by decide))).trans ((hapart _ (by decide)).trans ((hg _).trans v3))
  · exact ((hget _ (by decide)).trans (k4 _ (by decide) (by decide) (by decide))).trans ((hapart _ (by decide)).trans ((hg _).trans (v4 _ (by simp))))
  · rw [j2, i2, w2, hout z (by omega), v1, hout0 z (by omega)]
    rfl
  · rw [List.mem_cons, not_or] at hz
    obtain ⟨hz1, hz2⟩ := hz
    refine (g1.1 z fun hm => ?_).trans ((k1.1 z hz2).trans (hx.1 z fun hm => hz2 ?_))
    · rw [List.mem_cons, List.mem_cons, List.mem_singleton] at hm
      rcases hm with hm | hm | hm
      · exact hz2 (by rw [hm]; decide)
      · exact hz2 (by rw [hm]; decide)
      · exact hz1 hm
    · rw [List.mem_singleton.1 hm]
      decide

end

/-- Settles O15, by the outcomes of ASH_APPEND: a record committed at once, at its repeat, a stopped port, and no room. -/
theorem ashAppend : Obligations.AshAppend := by
  unfold Obligations.AshAppend
  intro s r rest us hp hq ht ht2 hlc hf hpr hst
  refine ⟨fun ok2 hwh hfit hlow => ?_, fun ok1 hbad hlow hroom => ⟨?_, fun hn hquiet ha => ?_⟩, fun ok1 ok2 hfit h3 hquiet ha => ?_,
    fun ok1 ok2 hfit h3 => ?_⟩
  · exact State.ashAppend_first hp hq ht ht2 hlc hf hpr hst hwh hfit hlow
  · exact State.ashAppend_repeats hp hq ht ht2 hlc hf hpr hst hbad hlow hroom
  · exact State.ashAppend_stops hp hq hlc hf hpr hst hbad hroom hn hquiet ha
  · exact State.ashAppend_drops hp hq hlc hf hpr hst hfit h3 hquiet ha ok1 ok2
  · exact State.ashAppend_refuses hp hq hlc hf hpr hst hfit h3 ok1 ok2

end Sys2Proof.Machine
end

section
/-!
# Writes of registers
-/
namespace Sys2Proof.Machine

open Sys2Proof

/-! ### Writes of registers -/

/-- A register with a bit that can be written. -/
def writable (a : Nat) : Bool :=
  !isoAbsent a && (findReg a).any (fun x => !decide (x.1.rw = 0 ∧ x.1.rl = 0 ∧ x.1.w1c = 0 ∧ x.1.wo = 0))

theorem findReg_of_writable {a : Nat} (h : writable a = true) :
    ∃ k i, findReg a = some (k, i) ∧ isoAbsent a = false ∧ ¬(k.rw = 0 ∧ k.rl = 0 ∧ k.w1c = 0 ∧ k.wo = 0) := by
  unfold writable at h
  rw [Bool.and_eq_true, Bool.not_eq_true', Option.any_eq_true] at h
  obtain ⟨hi, ⟨k, i⟩, hk, hw⟩ := h
  refine ⟨k, i, hk, hi, ?_⟩
  intro hz
  rw [decide_eq_true hz] at hw
  exact Bool.false_ne_true hw

/-- The addresses of the registers of writing of their own without an index. -/
def ownAddrs : List Nat :=
  [F.SYS_SWRESET_KEY.addr, F.IMG_FLOOR_RAISE_KEY.addr, F.IMG_KEY_REVOKE_KEY.addr, F.IMG_LIFECYCLE_REQ_KEY.addr, F.BST_FUSE_CMD_KEY.addr,
    F.JRN_REPLAY_CMD_KEY.addr, F.ADC_START_REG.addr, F.MBX_DB_PEND_FILLED.addr]

section
variable {s : State} {a : Nat} {v : Word} (hr : s.sys.phase = .run)
include hr

theorem State.writeWord_open {t : State} (hm : s.mode = .service) (hreg : 0x40000000 ≤ a) (hw : writable a = true) (hf : forceWord a = none)
    (ho : s.writeOwn a v = some t) : exec (.registerWrite a v) s = .next t := by
  obtain ⟨k, i, hk, hiw⟩ := findReg_of_writable hw
  refine next_congr (s.writeWord_own a v k i t hr hm ?_ hk hiw hf ho)
  simp only [tileBase]
  omega

variable {k : RegKind} {i : Nat} (hk : findReg a = some (k, i)) (hi : isoAbsent a = false)

omit hr in
theorem tileSpace_far (hreg : 0x40000000 ≤ a) : ¬(tileBase ≤ a ∧ a < tileBase + 0x800000) := by
  simp only [tileBase]
  omega

include hk hi

omit hi in
theorem State.writeWord_none (hreg : 0x40000000 ≤ a) (hz : k.rw = 0 ∧ k.rl = 0 ∧ k.w1c = 0 ∧ k.wo = 0) :
    exec (.registerWrite a v) s = .next s := by
  refine next_congr ?_
  unfold State.writeWord
  rw [if_neg (by simp [State.running, hr]), if_neg (tileSpace_far hreg), hk]
  dsimp only
  rw [decide_eq_true hz, Bool.or_true, if_pos rfl]

theorem State.writeWord_locked (hreg : 0x40000000 ≤ a) (hz : ¬(k.rw = 0 ∧ k.rl = 0 ∧ k.w1c = 0 ∧ k.wo = 0)) (hm : s.mode ≠ .service)
    (hf : forceWord a = none ∨ s.mode ≠ .selfTest) : exec (.registerWrite a v) s = .next (s.lockedWrite a) := by
  have hright : (false || decide (s.mode = .service)) = false := decide_eq_false hm
  refine next_congr ?_
  unfold State.writeWord
  rw [if_neg (by simp [State.running, hr]), if_neg (tileSpace_far hreg), hk]
  dsimp only
  rw [hi, decide_eq_false hz, if_neg (by decide), hright]
  cases hw : forceWord a with
  | none => rfl
  | some w =>
      have hself : s.mode ≠ .selfTest := hf.resolve_left (by rw [hw]; exact nofun)
      dsimp only
      rw [if_neg fun h => h.elim Bool.false_ne_true hself]

theorem State.writeWord_plain (hreg : 0x40000000 ≤ a) (hz : ¬(k.rw = 0 ∧ k.rl = 0 ∧ k.w1c = 0 ∧ k.wo = 0)) (hm : s.mode = .service)
    (hf : forceWord a = none) (ho : s.writeOwn a v = none) : exec (.registerWrite a v) s = .next (s.writePlain k i a v) := by
  have hright : (false || decide (s.mode = .service)) = true := decide_eq_true hm
  refine next_congr ?_
  unfold State.writeWord
  rw [if_neg (by simp [State.running, hr]), if_neg (tileSpace_far hreg), hk]
  dsimp only
  rw [hi, decide_eq_false hz, if_neg (by decide), hright, hf]
  dsimp only
  rw [ho]
  rfl

theorem State.writeWord_force (hreg : 0x40000000 ≤ a) (hz : ¬(k.rw = 0 ∧ k.rl = 0 ∧ k.w1c = 0 ∧ k.wo = 0)) (hm : s.mode = .service) {w : Nat}
    (hf : forceWord a = some w) :
    exec (.registerWrite a v) s = .next (s.each ((List.range 32).filter (fun j => bit v.toNat j)) (fun s j => s.forceOne (32 * w + j))) := by
  have hright : (false || decide (s.mode = .service)) = true := decide_eq_true hm
  refine next_congr ?_
  unfold State.writeWord
  rw [if_neg (by simp [State.running, hr]), if_neg (tileSpace_far hreg), hk]
  dsimp only
  rw [hi, decide_eq_false hz, if_neg (by decide), hright, hf]
  rfl

omit hr hk hi in
theorem ownWrite_apart (h : ownWrite a = false) : forceWord a = none ∧ s.writeOwn a v = none := by
  unfold ownWrite at h
  simp only [Bool.or_eq_false_iff, decide_eq_false_iff_not, List.contains_eq_mem, List.mem_cons, List.not_mem_nil, or_false, not_or] at h
  obtain ⟨⟨⟨⟨h1, h2, h3, h4, h5, h6, h7, h8⟩, hmbx⟩, hlaw⟩, hforce⟩ := h
  refine ⟨Option.not_isSome_iff_eq_none.1 (by rw [hforce]; exact Bool.false_ne_true), ?_⟩
  unfold State.writeOwn
  dsimp only
  rw [if_neg h1, if_neg h2, if_neg h3, if_neg h4, if_neg h5, if_neg h6, if_neg h7, if_neg h8, if_neg hmbx, if_neg hlaw]

/-- The RW bits of a plain register change at once (R8). -/
theorem State.registerWrite_rw (hreg : 0x40000000 ≤ a) (hm : s.mode = .service) (how : ownWrite a = false)
    (hvote : a ≠ (F.PWR_DOM_VOTE_SVC_VOTE i).addr) (hrw : k.rw ≠ 0) (hrl : k.rl = 0) :
    ∃ t, exec (.registerWrite a v) s = .next t ∧ t.reg a = (s.reg a &&& ~~~(BitVec.ofNat 32 k.rw)) ||| (v &&& BitVec.ofNat 32 k.rw) ∧
      s.OnlyRegs [a] t ∧ { t with regs := s.regs } = s := by
  obtain ⟨hf, ho⟩ := ownWrite_apart (s := s) (v := v) how
  have hplain : s.writePlain k i a v = s.setReg a (mixBits (s.reg a) v k.rw) := by
    unfold State.writePlain
    dsimp only
    rw [if_neg hrw, if_neg hvote, decide_eq_false (not_not.2 hrl), State.when_false]
  refine ⟨_, (State.writeWord_plain hr hk hi hreg (fun h => hrw h.1) hm hf ho).trans (congrArg _ hplain), State.reg_setReg_same .., ?_, rfl⟩
  exact (State.OnlyRegs.refl _ s).setReg _ _ (by simp)

/-- The RL bits of a plain register wait in its one shadow copy (R65). -/
theorem State.registerWrite_rl (hreg : 0x40000000 ≤ a) (hm : s.mode = .service) (how : ownWrite a = false) (hrw : k.rw = 0) (hrl : k.rl ≠ 0) :
    ∃ t, exec (.registerWrite a v) s = .next t ∧ t.regs = s.regs ∧ (a, v &&& BitVec.ofNat 32 k.rl) ∈ t.svc.shadow ∧
      (∀ x ∈ t.svc.shadow, x.1 = a → x.2 = v &&& BitVec.ofNat 32 k.rl) ∧ s.SameStores t := by
  obtain ⟨hf, ho⟩ := ownWrite_apart (s := s) (v := v) how
  have hplain : s.writePlain k i a v = s.shadowWrite a (v &&& w32 k.rl) := by
    unfold State.writePlain
    dsimp only
    rw [if_pos hrw, State.when_true _ _ _ (decide_eq_true hrl)]
  refine ⟨_, (State.writeWord_plain hr hk hi hreg (fun h => hrl h.2.1) hm hf ho).trans (congrArg _ hplain), rfl, ?_, fun x hx hxa => ?_,
    rfl, rfl, rfl, rfl⟩
  · exact List.mem_append_right _ (List.mem_singleton.2 rfl)
  · rcases List.mem_append.1 hx with h | h
    · exact absurd hxa (of_decide_eq_true (List.mem_filter.1 h).2)
    · rw [List.mem_singleton.1 h]
      rfl

end

theorem State.lockedWrite_shows (s : State) (a : Nat) :
    (s.lockedWrite a).getF F.SYS_LOCKED_WR_CNT_COUNT = min (2 ^ F.SYS_LOCKED_WR_CNT_COUNT.width - 1) (s.getF F.SYS_LOCKED_WR_CNT_COUNT + 1) ∧
      s.OnlyRegs [F.SYS_LOCKED_WR_CNT_COUNT.addr, F.SYS_LOCKED_WR_ADDR_ADDR.addr] (s.lockedWrite a) ∧
      ({ s.lockedWrite a with regs := s.regs } : State) = s := by
  refine ⟨?_, ((State.OnlyRegs.refl _ s).incF _ (by decide)).setF _ _ (by decide), rfl⟩
  exact (State.getF_setF_apart _ _ _ _ (by decide) (by decide)).trans (State.getF_incF_same _ _ (by decide))



section
variable {s : State} {a : Nat} {v : Word} (hr : s.sys.phase = .run)
include hr

theorem State.registerWrite_nowhere (hk : findReg a = none) (ht : a < 0x20000000 ∨ 0x20800000 ≤ a) : exec (.registerWrite a v) s = .next s := by
  have hfar : ¬(tileBase ≤ a ∧ a < tileBase + 0x800000) := by
    simp only [tileBase]
    omega
  refine next_congr ?_
  unfold State.writeWord
  rw [if_neg (by simp [State.running, hr]), if_neg hfar, hk]

theorem State.registerWrite_tile (hm : s.mode = .service) (h1 : 0x20000000 ≤ a) (h2 : a < 0x20800000) :
    ∃ t, exec (.registerWrite a v) s = .next t ∧ (∀ i, i < 4 → Mem.byte 0 t.tiles (a + i) = (leBytes 4 v.toNat).getD i 0) ∧
      (∀ x, x < a ∨ a + 4 ≤ x → Mem.byte 0 t.tiles x = Mem.byte 0 s.tiles x) ∧ { t with tiles := s.tiles } = s := by
  have hin : tileBase ≤ a ∧ a < tileBase + 0x800000 := by
    simp only [tileBase]
    omega
  have hright : (false || decide (s.mode = .service)) = true := decide_eq_true hm
  have heq : exec (.registerWrite a v) s = .next { s with tiles := Mem.write 0 s.tiles a (leBytes 4 v.toNat) } := by
    refine next_congr ?_
    unfold State.writeWord
    rw [if_neg (by simp [State.running, hr]), if_pos hin, if_pos hright]
  refine ⟨_, heq, fun i hi => ?_, fun x hx => ?_, rfl⟩
  · exact Mem.byte_write_in 0 s.tiles a i _ (by rw [length_leBytes]; exact hi)
  · exact Mem.byte_write_out 0 s.tiles a x _ (by rw [length_leBytes]; exact hx)

/-! Registers whose writing is a command of its own -/

omit hr in
theorem own_writable : ∀ a ∈ ownAddrs, 0x40000000 ≤ a ∧ writable a = true ∧ forceWord a = none := by decide +kernel

theorem State.registerWrite_own (hm : s.mode = .service) {t : State} (ha : a ∈ ownAddrs) (ho : s.writeOwn a v = some t) :
    exec (.registerWrite a v) s = .next t := by
  obtain ⟨h1, h2, h3⟩ := own_writable a ha
  exact State.writeWord_open hr hm h1 h2 h3 ho

theorem State.registerWrite_edit (hm : s.mode = .service) {k : Nat} (hk : k < 8) :
    exec (.registerWrite (F.LAW_EDIT_WORD_WORD k).addr v) s = exec (.lawEditWord k v) s := by
  have hreg : ∀ k < 8, 0x40000000 ≤ (F.LAW_EDIT_WORD_WORD k).addr ∧ writable (F.LAW_EDIT_WORD_WORD k).addr = true ∧
      forceWord (F.LAW_EDIT_WORD_WORD k).addr = none ∧ (F.LAW_EDIT_WORD_WORD k).addr ∉ ownAddrs := by decide +kernel
  obtain ⟨h1, h2, h3, h4⟩ := hreg k hk
  have hidx : ((F.LAW_EDIT_WORD_WORD k).addr - (F.LAW_EDIT_WORD_WORD 0).addr) / 4 = k := by
    simp only [F.LAW_EDIT_WORD_WORD]
    omega
  simp only [ownAddrs, List.mem_cons, List.not_mem_nil, or_false, not_or] at h4
  obtain ⟨n1, n2, n3, n4, n5, n6, n7, n8⟩ := h4
  have hexec : exec (.lawEditWord k v) s = .next (s.editWord k v) := next_congr ((if_pos hk).trans (s.inService_service _ _ hr hm))
  refine (State.writeWord_open hr hm h1 h2 h3 ?_).trans hexec.symm
  unfold State.writeOwn
  dsimp only
  rw [if_neg n1, if_neg n2, if_neg n3, if_neg n4, if_neg n5, if_neg n6, if_neg n7, if_neg n8, if_neg, if_pos, hidx]
  · simp only [F.LAW_EDIT_WORD_WORD]
    omega
  · simp only [F.LAW_EDIT_WORD_WORD, F.MBX_DATA_WORD]
    omega

theorem State.registerWrite_force (hm : s.mode = .service) {w : Nat} (hw : w < 8) :
    exec (.registerWrite (F.FLT_FORCE_FORCE w).addr v) s = exec (.fltForce w v.toNat) s := by
  have hreg : ∀ w < 8, 0x40000000 ≤ (F.FLT_FORCE_FORCE w).addr ∧ writable (F.FLT_FORCE_FORCE w).addr = true ∧
      forceWord (F.FLT_FORCE_FORCE w).addr = some w := by decide +kernel
  obtain ⟨h1, h2, h3⟩ := hreg w hw
  obtain ⟨k, i, hk, hi, hz⟩ := findReg_of_writable h2
  have hgo : ¬((!s.running || decide (8 ≤ w)) = true) := by
    rw [State.running_of_run hr, decide_eq_false (by omega)]
    decide
  exact (State.writeWord_force hr hk hi h1 hz hm h3).trans (next_congr ((if_neg hgo).trans (if_pos (.inr hm)))).symm

theorem State.registerWrite_row (hm : s.mode = .service) (c : Instr)
    (h : a = F.SYS_SWRESET_KEY.addr ∧ c = .sysSwreset (v.toNat % 65536) ∨ a = F.IMG_FLOOR_RAISE_KEY.addr ∧ c = .imgFloorRaise (v.toNat % 65536) ∨
      a = F.IMG_KEY_REVOKE_KEY.addr ∧ c = .imgKeyRevoke (v.toNat / 65536) v.toNat ∨
      a = F.IMG_LIFECYCLE_REQ_KEY.addr ∧ c = .imgLifecycleReq (v.toNat / 65536) (v.toNat % 8) ∨
      a = F.BST_FUSE_CMD_KEY.addr ∧ c = .bstFuseCmd (v.toNat % 65536) ∨ a = F.JRN_REPLAY_CMD_KEY.addr ∧ c = .jrnReplayCmd (v.toNat % 65536) ∨
      a = F.ADC_START_REG.addr ∧ c = .adcStart (v.toNat % 256) (v.toNat / 256 % 256) ∨
      a = F.MBX_DB_PEND_FILLED.addr ∧ c = .mbxDbPend 3 v.toNat 0 ∨
      (∃ k, k < 8 ∧ a = (F.LAW_EDIT_WORD_WORD k).addr ∧ c = .lawEditWord k v) ∨
      (∃ w, w < 8 ∧ a = (F.FLT_FORCE_FORCE w).addr ∧ c = .fltForce w v.toNat)) :
    ∃ t, exec (.registerWrite a v) s = .next t ∧ exec c s = .next t := by
  have hserv (x : Nat) (f : State → State) := s.inService_service x f hr hm
  rcases h with ⟨rfl, rfl⟩ | ⟨rfl, rfl⟩ | ⟨rfl, rfl⟩ | ⟨rfl, rfl⟩ | ⟨rfl, rfl⟩ | ⟨rfl, rfl⟩ | ⟨rfl, rfl⟩ | ⟨rfl, rfl⟩ | ⟨k, hk, rfl, rfl⟩ |
    ⟨w, hw, rfl, rfl⟩
  · exact ⟨_, State.registerWrite_own hr hm (by decide) rfl, next_congr (hserv _ _)⟩
  · exact ⟨_, State.registerWrite_own hr hm (by decide) rfl, next_congr (hserv _ _)⟩
  · exact ⟨_, State.registerWrite_own hr hm (by decide) rfl, next_congr (hserv _ _)⟩
  · exact ⟨_, State.registerWrite_own hr hm (by decide) rfl, next_congr (hserv _ _)⟩
  · exact ⟨_, State.registerWrite_own hr hm (by decide) rfl, next_congr (hserv _ _)⟩
  · exact ⟨_, State.registerWrite_own hr hm (by decide) rfl, rfl⟩
  · exact ⟨_, State.registerWrite_own hr hm (by decide) rfl, next_congr (if_pos (State.running_of_run hr))⟩
  · refine ⟨_, State.registerWrite_own hr hm (by decide) rfl, next_congr ?_⟩
    have hawake : ¬((!s.sideAwake 3) = true) := by
      unfold State.sideAwake
      rw [State.running_of_run hr]
      exact Bool.false_ne_true
    exact (if_neg hawake).trans (if_neg fun h => h.2 hm)
  · rw [State.registerWrite_edit hr hm hk]
    exact ⟨_, rfl, rfl⟩
  · rw [State.registerWrite_force hr hm hw]
    exact ⟨_, rfl, rfl⟩

/-- The service host's vote shows in its own flag, and no store changes (R461, R469). -/
theorem State.registerWrite_vote {d : Nat} (hd : d < 22) (hm : s.mode = .service) :
    ∃ t, exec (.registerWrite (F.PWR_DOM_VOTE_SVC_VOTE d).addr v) s = .next t ∧ t.flag (F.PWR_DOM_VOTE_SVC_VOTE d) = bit v.toNat 16 ∧
      s.SameStores t := by
  have hreg : ∀ d < 22, 0x40000000 ≤ (F.PWR_DOM_VOTE_SVC_VOTE d).addr ∧ isoAbsent (F.PWR_DOM_VOTE_SVC_VOTE d).addr = false ∧
      ownWrite (F.PWR_DOM_VOTE_SVC_VOTE d).addr = false ∧
      (findReg (F.PWR_DOM_VOTE_SVC_VOTE d).addr).any (fun x => decide (x.2 = d ∧ x.1.rw ≠ 0 ∧ x.1.rl = 0)) = true := by decide +kernel
  obtain ⟨h1, h2, h3, h4⟩ := hreg d hd
  obtain ⟨⟨k, i⟩, hk, hx⟩ := (Option.any_eq_true ..).1 h4
  obtain ⟨rfl, hrw, hrl⟩ := of_decide_eq_true hx
  obtain ⟨hf, ho⟩ := ownWrite_apart (s := s) (v := v) h3
  have hplain : s.writePlain k i (F.PWR_DOM_VOTE_SVC_VOTE i).addr v = s.serviceVote i (bit v.toNat 16) := by
    unfold State.writePlain
    dsimp only at hrw hrl ⊢
    rw [if_neg hrw, if_pos rfl, decide_eq_false (not_not.2 hrl), State.when_false]
  have hvoted : s.SameStores (if bit v.toNat 16 then s.domVote i 3 else s.domUnvote i 3 none) := by
    have h := State.Touches.refl enterBlind_phase.blind entryRegs s
    split
    · exact (State.Touches.domVote enterBlind_phase h i 3 hd).stores
    · exact (State.Touches.domUnvote enterBlind_phase h i 3 none).stores
  refine ⟨_, (State.writeWord_plain hr hk h2 h1 (fun h => hrw h.1) hm hf ho).trans (congrArg _ hplain), flag_setFlag_same _ _ _ rfl, ?_⟩
  exact hvoted

/-- A message word of the service host into an empty mailbox (R531). -/
theorem State.registerWrite_message {k : Nat} (hk : k < 15) (hm : s.mode = .service) (hside : mbxSender (s.getF F.MBX_SEL_MAILBOX) = 3)
    (hfull : s.mbxFull (s.getF F.MBX_SEL_MAILBOX) = false) (hl : s.getF F.MBX_SEL_MAILBOX < s.mbx.data.length)
    (hl2 : k < (s.mbx.data.getD (s.getF F.MBX_SEL_MAILBOX) []).length) :
    ∃ t, exec (.registerWrite (F.MBX_DATA_WORD k).addr v) s = .next t ∧ t.mbxWord (s.getF F.MBX_SEL_MAILBOX) k = v ∧ { t with mbx := s.mbx } = s := by
  have hreg : ∀ k < 15, 0x40000000 ≤ (F.MBX_DATA_WORD k).addr ∧ writable (F.MBX_DATA_WORD k).addr = true ∧
      forceWord (F.MBX_DATA_WORD k).addr = none ∧ (F.MBX_DATA_WORD k).addr ∉ ownAddrs := by decide +kernel
  obtain ⟨h1, h2, h3, h4⟩ := hreg k hk
  have hidx : ((F.MBX_DATA_WORD k).addr - (F.MBX_DATA_WORD 0).addr) / 4 = k := by
    simp only [F.MBX_DATA_WORD]
    omega
  simp only [ownAddrs, List.mem_cons, List.not_mem_nil, or_false, not_or] at h4
  obtain ⟨n1, n2, n3, n4, n5, n6, n7, n8⟩ := h4
  have hput : s.mbxPut 3 (s.getF F.MBX_SEL_MAILBOX) k v = s.setMbxWord (s.getF F.MBX_SEL_MAILBOX) k v := by
    unfold State.mbxPut
    rw [if_neg (not_not.2 hside.symm), hfull, if_neg Bool.false_ne_true, decide_eq_false (by omega), State.when_false]
  refine ⟨s.setMbxWord (s.getF F.MBX_SEL_MAILBOX) k v, State.writeWord_open hr hm h1 h2 h3 ?_, ?_, rfl⟩
  · unfold State.writeOwn
    dsimp only
    rw [if_neg n1, if_neg n2, if_neg n3, if_neg n4, if_neg n5, if_neg n6, if_neg n7, if_neg n8, if_pos, hidx, hput]
    simp only [F.MBX_DATA_WORD]
    omega
  · unfold State.mbxWord State.setMbxWord
    rw [List.getD_eq_getElem?_getD, List.getD_eq_getElem?_getD (l := List.set ..), List.getElem?_set_self hl, Option.getD_some,
      List.getElem?_set_self hl2, Option.getD_some]

end

/-- Settles O34, by the kind of address written: plain, locked, absent, tile space, or a row among the commands. -/
theorem registerWrite : Obligations.RegisterWrite := by
  unfold Obligations.RegisterWrite
  refine fun s a v hr => ⟨fun k i hk hi hreg => ⟨fun hm how hvote => ⟨?_, ?_⟩, fun hm hsome hf => ?_, fun h1 h2 h3 h4 => ?_⟩, ?_, ?_, ?_, ?_, ?_⟩
  · exact State.registerWrite_rw hr hk hi hreg hm how hvote
  · exact State.registerWrite_rl hr hk hi hreg hm how
  · have hz : ¬(k.rw = 0 ∧ k.rl = 0 ∧ k.w1c = 0 ∧ k.wo = 0) := by
      rintro ⟨z1, z2, z3, z4⟩
      rcases hsome with h | h | h | h <;> contradiction
    obtain ⟨h1, h2, h3⟩ := s.lockedWrite_shows a
    exact ⟨_, State.writeWord_locked hr hk hi hreg hz hm hf, h1, h2, h3⟩
  · exact State.writeWord_none hr hk hreg ⟨h1, h2, h3, h4⟩
  · exact State.registerWrite_nowhere hr
  · exact State.registerWrite_tile hr
  · exact fun c hm => State.registerWrite_row hr hm c
  · rintro d hd rfl hm
    exact State.registerWrite_vote hr hd hm
  · rintro m k rfl hk rfl hm hside hfull hl hl2
    exact State.registerWrite_message hr hk hm hside hfull hl hl2

end Sys2Proof.Machine
end

section
/-!
# Hobs dispatch and stage
-/
namespace Sys2Proof.Machine

open Sys2Proof

/-! ### Hobs take work -/

theorem State.each_none {α : Type} (s : State) (l : List α) (f : State → α → State) (h : ∀ x ∈ l, f s x = s) : s.each l f = s := by
  unfold State.each
  induction l with
  | nil => rfl
  | cons x l ih =>
      rw [List.foldl_cons, h x (by simp)]
      exact ih fun y hy => h y (by simp [hy])

theorem State.each_last {α : Type} (s : State) (l : List α) (b : α) (f : State → α → State) (h : ∀ x ∈ l, f s x = s) :
    s.each (l ++ [b]) f = f s b := by
  have hl := s.each_none l f h
  unfold State.each at hl ⊢
  rw [List.foldl_append, hl]
  rfl

/-- The registers that show the queues. -/
def queueRegs : List Nat := (List.range 8).map fun c => (F.HOB_QUEUE_DEPTH c).addr

theorem State.refreshQueues_shows (s : State) :
    s.OnlyRegs queueRegs s.refreshQueues ∧ s.Within [0x4005] s.refreshQueues ∧ s.refreshQueues.gr = s.gr := by
  have hq (c : Nat) (hc : c ∈ List.range 8) : (F.HOB_QUEUE_DEPTH c).addr ∈ queueRegs := List.mem_map.2 ⟨c, hc, rfl⟩
  have hb : ∀ c ∈ List.range 8, (F.HOB_QUEUE_DEPTH c).addr / 0x10000 ∈ [0x4005] := by decide
  have hall : ∀ (l : List Nat), (∀ c ∈ l, c ∈ List.range 8) → ∀ u : State, s.OnlyRegs queueRegs u → s.Within [0x4005] u → u.gr = s.gr →
      let t := u.each l (fun s c => (s.setF (F.HOB_QUEUE_DEPTH c) (s.queueOf c).length).peakF (F.HOB_QUEUE_PEAK c) (s.queueOf c).length)
      s.OnlyRegs queueRegs t ∧ s.Within [0x4005] t ∧ t.gr = s.gr := by
    intro l
    induction l with
    | nil => exact fun _ _ h1 h2 h3 => ⟨h1, h2, h3⟩
    | cons c l ih =>
        intro hl u h1 h2 h3
        have hc := hl c (by simp)
        exact ih (fun x hx => hl x (by simp [hx])) _ ((h1.setF _ _ (hq c hc)).setF (F.HOB_QUEUE_PEAK c) _ (hq c hc))
          ((h2.setF _ _ (hb c hc)).setF (F.HOB_QUEUE_PEAK c) _ (hb c hc)) h3
  exact hall _ (fun _ h => h) s (.refl _ s) (.refl _ s) rfl

theorem queueRegs_apart {g : Fld} (h : g.addr < 0x40050020 ∨ 0x40050040 ≤ g.addr) : g.addr ∉ queueRegs := by
  have : ∀ x ∈ queueRegs, 0x40050020 ≤ x ∧ x < 0x40050040 := by decide
  intro hm
  have := this _ hm
  omega

section
variable (s : State) (hob : Nat)

theorem State.hobTake_busy (steal : Bool) (h : s.getF (F.HOB_ENGINE_STATE hob) ≠ 0) : s.hobTake hob steal = s := if_pos h

theorem State.hobTake_none (steal : Bool) (h : s.pick hob = none) : s.hobTake hob steal = s := by
  unfold State.hobTake
  rw [h]
  split <;> rfl

theorem State.hobTake_own {x : Nat × Bool} {cross : Bool} (h : s.pick hob = some (x, true, cross)) : s.hobTake hob false = s := by
  unfold State.hobTake
  rw [h]
  split <;> rfl

/-- The instance as its hob notes it. -/
def InstRun.ran (r : InstRun) (copyB : Bool) (hob : Nat) : InstRun :=
  if copyB then { r with ranB := some hob } else { r with ranA := some hob }

/-- The graph with the entry x at its hob. -/
def State.hobEntered (x : Nat × Bool) : State :=
  ({ s with gr := { s.gr with exec := s.gr.exec ++ [⟨hob, x.1, x.2, false⟩] } } : State).setInst x.1 ((s.inst x.1).ran x.2 hob)

/-- An idle hob with the entry x, before the bank of the instance is swapped. -/
def State.hobTaken (x : Nat × Bool) (stolen cross : Bool) : State :=
  (((s.hobEntered hob x).setF (F.HOB_ENGINE_STATE hob) 1).when stolen (fun s => s.incF F.HOB_STEAL_CNT_COUNT)).when cross
    (fun s => s.setFlag F.HOB_STATUS_CROSS_HALF_SEEN true)

theorem State.hobTake_takes {x : Nat × Bool} {stolen cross : Bool} (steal : Bool) (h0 : s.getF (F.HOB_ENGINE_STATE hob) = 0)
    (h : s.pick hob = some (x, stolen, cross)) (hs : stolen = true → steal = true) :
    s.hobTake hob steal = (s.hobTaken hob x stolen cross).bankSwap x.1 := by
  have hgo : (stolen && !steal) = false := by
    cases stolen
    · rfl
    · rw [hs rfl]
      rfl
  unfold State.hobTake
  rw [if_neg (not_not.2 h0), h]
  dsimp only
  rw [hgo, if_neg Bool.false_ne_true]
  rfl

end


/-- A state with one instance of the graph changed. -/
theorem State.inst_set {s t : State} {i : Nat} {r : InstRun} (h : t.gr.insts = s.gr.insts.set i r) :
    (i < s.gr.insts.length → t.inst i = r) ∧ ∀ k, k ≠ i → t.inst k = s.inst k := by
  unfold State.inst
  rw [h]
  refine ⟨fun hi => ?_, fun k hk => ?_⟩
  · rw [List.getD_eq_getElem?_getD, List.getElem?_set_self hi, Option.getD_some]
  · rw [List.getD_eq_getElem?_getD, List.getD_eq_getElem?_getD, List.getElem?_set_ne (Ne.symm hk)]

section
variable (s : State) (hob : Nat) (x : Nat × Bool) (stolen cross : Bool)

theorem InstRun.ran_pend (r : InstRun) (b : Bool) (h : Nat) : (r.ran b h).pend = r.pend := by
  cases b <;> rfl

theorem State.hobEntered_shows : s.Within [0x4005] (s.hobEntered hob x) ∧ (∀ g : Fld, (s.hobEntered hob x).getF g = s.getF g) ∧
    (s.hobEntered hob x).gr.exec = s.gr.exec ++ [⟨hob, x.1, x.2, false⟩] ∧ (s.hobEntered hob x).gr.sigs = s.gr.sigs ∧
    (s.hobEntered hob x).gr.insts = s.gr.insts.set x.1 ((s.inst x.1).ran x.2 hob) :=
  ⟨(State.Within.refl _ s).hidden .., fun g => State.getF_of_regs rfl g, rfl, rfl, rfl⟩

/-- What a hob that takes an entry shows and leaves (R87, R88), before the bank of its instance is swapped. -/
theorem State.hobTaken_shows (hh : hob < 64) :
    (s.hobTaken hob x stolen cross).getF (F.HOB_ENGINE_STATE hob) = 1 ∧
      (s.hobTaken hob x stolen cross).getF F.HOB_STEAL_CNT_COUNT =
        min (2 ^ 32 - 1) (s.getF F.HOB_STEAL_CNT_COUNT + (if stolen = true then 1 else 0)) ∧
      (cross = true → (s.hobTaken hob x stolen cross).flag F.HOB_STATUS_CROSS_HALF_SEEN = true) ∧
      s.Within [0x4005] (s.hobTaken hob x stolen cross) ∧
      (s.hobTaken hob x stolen cross).gr = (s.hobEntered hob x).gr := by
  have hst : (F.HOB_ENGINE_STATE hob).addr / 0x10000 ∈ [0x4005] := by
    simp only [F.HOB_ENGINE_STATE, List.mem_cons, List.not_mem_nil, or_false]
    omega
  have hapart (a : Nat) (ha : a < 0x40050100) : (F.HOB_ENGINE_STATE hob).addr ≠ a := by
    simp only [F.HOB_ENGINE_STATE]
    omega
  have hlt : s.getF F.HOB_STEAL_CNT_COUNT < 2 ^ 32 := State.getF_lt s F.HOB_STEAL_CNT_COUNT
  unfold State.hobTaken
  obtain ⟨hv, hg, -⟩ := s.hobEntered_shows hob x
  generalize s.hobEntered hob x = v at hv hg ⊢
  have h1 : (v.setF (F.HOB_ENGINE_STATE hob) 1).getF (F.HOB_ENGINE_STATE hob) = 1 := State.getF_setF_same _ _ _ rfl
  have h2 (g : Fld) (ha : g.addr < 0x40050100) : (v.setF (F.HOB_ENGINE_STATE hob) 1).getF g = s.getF g :=
    (State.getF_congr (State.reg_setF_other _ _ _ _ (hapart _ ha))).trans (hg g)
  have h3 : s.Within [0x4005] (v.setF (F.HOB_ENGINE_STATE hob) 1) := hv.setF _ _ hst
  have h4 := State.setF_gr v (F.HOB_ENGINE_STATE hob) 1
  generalize v.setF (F.HOB_ENGINE_STATE hob) 1 = u at h1 h2 h3 h4 ⊢
  have hw : (u.when stolen (fun s => s.incF F.HOB_STEAL_CNT_COUNT)).getF (F.HOB_ENGINE_STATE hob) = 1 ∧
      (u.when stolen (fun s => s.incF F.HOB_STEAL_CNT_COUNT)).getF F.HOB_STEAL_CNT_COUNT =
        min (2 ^ 32 - 1) (s.getF F.HOB_STEAL_CNT_COUNT + (if stolen = true then 1 else 0)) ∧
      s.Within [0x4005] (u.when stolen (fun s => s.incF F.HOB_STEAL_CNT_COUNT)) ∧
      (u.when stolen (fun s => s.incF F.HOB_STEAL_CNT_COUNT)).gr = u.gr := by
    cases stolen with
    | false =>
        rw [State.when_false, if_neg Bool.false_ne_true, h2 F.HOB_STEAL_CNT_COUNT (by decide)]
        exact ⟨h1, by omega, h3, rfl⟩
    | true =>
        rw [State.when_true _ _ _ rfl, if_pos rfl, State.getF_incF_same u F.HOB_STEAL_CNT_COUNT (by decide), h2 F.HOB_STEAL_CNT_COUNT (by decide)]
        exact ⟨(State.getF_congr (State.reg_setF_other _ F.HOB_STEAL_CNT_COUNT _ _ (hapart _ (by decide)).symm)).trans h1, rfl, h3.incF _ (by decide), State.incF_gr ..⟩
  obtain ⟨w1, w2, w3, w4⟩ := hw
  generalize u.when stolen (fun s => s.incF F.HOB_STEAL_CNT_COUNT) = w at w1 w2 w3 w4 ⊢
  cases cross with
  | false =>
      rw [State.when_false]
      exact ⟨w1, w2, nofun, w3, w4.trans h4⟩
  | true =>
      rw [State.when_true _ _ _ rfl, State.getF_setFlag_apart w F.HOB_STATUS_CROSS_HALF_SEEN F.HOB_STEAL_CNT_COUNT true (by decide) (by decide)]
      exact ⟨(State.getF_congr (State.reg_setF_other _ F.HOB_STATUS_CROSS_HALF_SEEN _ _ (hapart _ (by decide)).symm)).trans w1, w2, fun _ => flag_setFlag_same _ _ _ (by decide),
        w3.setFlag _ _ (by decide), (State.setFlag_gr ..).trans (w4.trans h4)⟩

theorem State.bankSwap_none (i : Nat) (h : (s.inst i).pend = none) : s.bankSwap i = s := by
  unfold State.bankSwap
  dsimp only
  rw [h]

theorem State.bankSwap_shows (i : Nat) : s.Within [0x4006] (s.bankSwap i) ∧ (s.bankSwap i).gr.exec = s.gr.exec ∧ (s.bankSwap i).gr.sigs = s.gr.sigs ∧
    (∀ k, k ≠ i → (s.bankSwap i).inst k = s.inst k) ∧
    ∀ k words cause, (s.inst i).pend = some (k, words, cause) → i < s.gr.insts.length →
      ((s.bankSwap i).inst i).bank = words ∧ ((s.bankSwap i).inst i).act = k ∧ ((s.bankSwap i).inst i).pend = none := by
  cases hp : (s.inst i).pend with
  | none =>
      rw [s.bankSwap_none i hp]
      exact ⟨.refl _ s, rfl, rfl, fun _ _ => rfl, nofun⟩
  | some y =>
      obtain ⟨k, words, cause⟩ := y
      have hbase : s.Within [0x4006] (s.setInst i { s.inst i with bank := words, act := k, pend := none, reseed := true }) :=
        (State.Within.refl _ s).hidden ..
      have hgr : (s.setInst i { s.inst i with bank := words, act := k, pend := none, reseed := true }).gr.exec = s.gr.exec ∧
          (s.setInst i { s.inst i with bank := words, act := k, pend := none, reseed := true }).gr.sigs = s.gr.sigs ∧
          (s.setInst i { s.inst i with bank := words, act := k, pend := none, reseed := true }).gr.insts =
            s.gr.insts.set i { s.inst i with bank := words, act := k, pend := none, reseed := true } := ⟨rfl, rfl, rfl⟩
      have hall : s.Within [0x4006] (s.bankSwap i) ∧ (s.bankSwap i).gr.exec = s.gr.exec ∧ (s.bankSwap i).gr.sigs = s.gr.sigs ∧
          (s.bankSwap i).gr.insts = s.gr.insts.set i { s.inst i with bank := words, act := k, pend := none, reseed := true } := by
        unfold State.bankSwap
        dsimp only
        rw [hp]
        dsimp only
        generalize s.setInst i { s.inst i with bank := words, act := k, pend := none, reseed := true } = u at hbase hgr ⊢
        have h2 := ((((hbase.incF F.LAW_SWAP_CNT_COUNT (by decide)).setF F.LAW_LAST_SWAP_CAUSE cause (by decide)).setF F.LAW_LAST_SWAP_OLD_SET
          (s.inst i).act (by decide)).setF F.LAW_LAST_SWAP_NEW_SET k (by decide)).setF F.LAW_LAST_SWAP_INSTANCE i (by decide)
        have g2 : (((((u.incF F.LAW_SWAP_CNT_COUNT).setF F.LAW_LAST_SWAP_CAUSE cause).setF F.LAW_LAST_SWAP_OLD_SET (s.inst i).act).setF
          F.LAW_LAST_SWAP_NEW_SET k).setF F.LAW_LAST_SWAP_INSTANCE i).gr = u.gr := by simp
        generalize ((((u.incF F.LAW_SWAP_CNT_COUNT).setF F.LAW_LAST_SWAP_CAUSE cause).setF F.LAW_LAST_SWAP_OLD_SET (s.inst i).act).setF
          F.LAW_LAST_SWAP_NEW_SET k).setF F.LAW_LAST_SWAP_INSTANCE i = v at h2 g2 ⊢
        cases hc : s.lawSlot i with
        | none => exact ⟨h2, by rw [g2]; exact hgr⟩
        | some c =>
            have hlt : c < 32 := List.mem_range.1 (List.mem_of_find?_eq_some hc)
            have hblock : (F.LAW_SLOT_SWAPS_COUNT c).addr / 0x10000 ∈ [0x4006] ∧ (F.LAW_SLOT_TICK_TICK c).addr / 0x10000 ∈ [0x4006] ∧
                (F.LAW_SLOT_STATE_ACTIVE_SET c).addr / 0x10000 ∈ [0x4006] := by
              simp only [F.LAW_SLOT_SWAPS_COUNT, F.LAW_SLOT_TICK_TICK, F.LAW_SLOT_STATE_ACTIVE_SET, List.mem_cons, List.not_mem_nil, or_false]
              omega
            obtain ⟨b1, b2, b3⟩ := hblock
            refine ⟨((((h2.incF _ b1).setReg _ _ b2).setF _ _ b3).setFlag (F.LAW_SLOT_STATE_PENDING c) _ b3).setF (F.LAW_SLOT_STATE_PENDING_SET c) _ b3, ?_⟩
            rw [State.setF_gr, State.setFlag_gr, State.setF_gr, State.setReg_gr, State.incF_gr, g2]
            exact hgr
      obtain ⟨h1, he, hs, hi⟩ := hall
      have hset := State.inst_set (s := s) (t := s.bankSwap i) hi
      refine ⟨h1, he, hs, hset.2, fun k' words' cause' he hlen => ?_⟩
      obtain ⟨rfl, rfl, rfl⟩ : k = k' ∧ words = words' ∧ cause = cause' := by simpa using he
      rw [hset.1 hlen]
      exact ⟨rfl, rfl, rfl⟩

end


section
variable {s : State} {hob : Nat} (hr : s.sys.phase = .run) (hh : hob < 64)

/-- The idle hobs of a cluster that R88 serves up to `hob`. -/
theorem range_cluster (hob : Nat) : List.range' (8 * (hob / 8)) (hob % 8 + 1) = List.range' (8 * (hob / 8)) (hob % 8) ++ [hob] := by
  rw [List.range'_concat]
  congr 2
  omega

include hr hh

theorem State.hobDispatch_eq (hrun : s.flag F.HOB_STATUS_RUNNING = true) (h0 : s.getF (F.HOB_ENGINE_STATE hob) = 0) :
    exec (.hobDispatch hob) s = .next ((
      if (s.each (List.range' (8 * (hob / 8)) (hob % 8 + 1)) (fun s n => s.hobTake n false)).getF (F.HOB_ENGINE_STATE hob) ≠ 0 then
        s.each (List.range' (8 * (hob / 8)) (hob % 8 + 1)) (fun s n => s.hobTake n false)
      else ((s.each (List.range' (8 * (hob / 8)) (hob % 8 + 1)) (fun s n => s.hobTake n false)).each (List.range 64)
        (fun s n => s.hobTake n false)).each (List.range (hob + 1)) (fun s n => s.hobTake n true)).refreshQueues) := by
  refine next_congr (if_neg ?_)
  rw [State.running_of_run hr, hrun, decide_eq_false (by omega : ¬64 ≤ hob), decide_eq_false (not_not.2 h0)]
  decide

theorem State.hobDispatch_takes (hrun : s.flag F.HOB_STATUS_RUNNING = true) (h0 : s.getF (F.HOB_ENGINE_STATE hob) = 0) {x : Nat × Bool}
    {stolen cross : Bool} (hp : s.pick hob = some (x, stolen, cross))
    (hfirst : stolen = false ∧ (∀ n, n < hob → s.getF (F.HOB_ENGINE_STATE n) ≠ 0) ∨
      (∀ n, n < 64 → n ≠ hob → s.getF (F.HOB_ENGINE_STATE n) ≠ 0)) :
    exec (.hobDispatch hob) s = .next ((s.hobTaken hob x stolen cross).bankSwap x.1).refreshQueues := by
  have hbelow (n : Nat) (hn : n < hob) : s.getF (F.HOB_ENGINE_STATE n) ≠ 0 := by
    rcases hfirst with ⟨-, h⟩ | h
    · exact h n hn
    · exact h n (by omega) (by omega)
  have hcluster : s.each (List.range' (8 * (hob / 8)) (hob % 8 + 1)) (fun s n => s.hobTake n false) = s.hobTake hob false := by
    rw [range_cluster]
    refine s.each_last _ _ _ fun n hn => s.hobTake_busy n false (hbelow n ?_)
    rw [List.mem_range'_1] at hn
    omega
  rw [State.hobDispatch_eq hr hh hrun h0, hcluster]
  cases stolen with
  | false =>
      have htake := s.hobTake_takes hob false h0 hp nofun
      obtain ⟨k1, -⟩ := s.hobTaken_shows hob x false cross hh
      have hone : (s.hobTake hob false).getF (F.HOB_ENGINE_STATE hob) ≠ 0 := by
        rw [htake, (State.bankSwap_shows _ x.1).1.getF _ ?_, k1]
        · decide
        · simp only [F.HOB_ENGINE_STATE, List.mem_cons, List.not_mem_nil, or_false]
          omega
      rw [if_pos hone, htake]
  | true =>
      have hothers (n : Nat) (hn : n < 64) (hne : n ≠ hob) : s.getF (F.HOB_ENGINE_STATE n) ≠ 0 := by
        rcases hfirst with ⟨h, -⟩ | h
        · exact absurd h nofun
        · exact h n hn hne
      have hall : s.each (List.range 64) (fun s n => s.hobTake n false) = s := by
        refine s.each_none _ _ fun n hn => ?_
        by_cases hne : n = hob
        · rw [hne]
          exact s.hobTake_own hob hp
        · exact s.hobTake_busy n false (hothers n (List.mem_range.1 hn) hne)
      rw [s.hobTake_own hob hp, if_neg (not_not.2 h0), hall, List.range_succ]
      rw [s.each_last _ _ _ fun n hn => s.hobTake_busy n true (hbelow n (List.mem_range.1 hn))]
      rw [s.hobTake_takes hob true h0 hp fun _ => rfl]

/-- HOB_DISPATCH of an idle hob that no other comes before (R87, R88). -/
theorem State.hobDispatch_shows (hrun : s.flag F.HOB_STATUS_RUNNING = true) (h0 : s.getF (F.HOB_ENGINE_STATE hob) = 0) {i : Nat} {copyB : Bool}
    {stolen cross : Bool} (hp : s.pick hob = some ((i, copyB), stolen, cross))
    (hfirst : stolen = false ∧ (∀ n, n < hob → s.getF (F.HOB_ENGINE_STATE n) ≠ 0) ∨
      (∀ n, n < 64 → n ≠ hob → s.getF (F.HOB_ENGINE_STATE n) ≠ 0)) :
    ∃ t, exec (.hobDispatch hob) s = .next t ∧ t.getF (F.HOB_ENGINE_STATE hob) = 1 ∧
      t.gr.exec = s.gr.exec ++ [⟨hob, i, copyB, false⟩] ∧ t.gr.sigs = s.gr.sigs ∧
      t.getF F.HOB_STEAL_CNT_COUNT = min (2 ^ 32 - 1) (s.getF F.HOB_STEAL_CNT_COUNT + (if stolen = true then 1 else 0)) ∧
      (cross = true → t.flag F.HOB_STATUS_CROSS_HALF_SEEN = true) ∧
      ((s.inst i).pend = none → s.SameRegs [0x4005] t ∧ (i < s.gr.insts.length →
        t.inst i = if copyB = true then { s.inst i with ranB := some hob } else { s.inst i with ranA := some hob })) ∧
      (∀ k, k ≠ i → t.inst k = s.inst k) ∧
      (∀ k words cause, (s.inst i).pend = some (k, words, cause) → i < s.gr.insts.length →
        (t.inst i).bank = words ∧ (t.inst i).act = k ∧ (t.inst i).pend = none) ∧
      s.SameRegs [0x4005, 0x4006] t ∧ s.SameStores t := by
  rw [State.hobDispatch_takes hr hh hrun h0 hp hfirst]
  obtain ⟨u1, u2, u3, u4, u5⟩ := s.hobTaken_shows hob (i, copyB) stolen cross hh
  obtain ⟨-, -, e1, e2, e3⟩ := s.hobEntered_shows hob (i, copyB)
  rw [← u5] at e1 e2 e3
  generalize s.hobTaken hob (i, copyB) stolen cross = u at u1 u2 u3 u4 e1 e2 e3 ⊢
  have hset := State.inst_set e3
  obtain ⟨v1, v2, v3, v4, v5⟩ := u.bankSwap_shows i
  have hnone := u.bankSwap_none i
  generalize u.bankSwap i = v at v1 v2 v3 v4 v5 hnone ⊢
  obtain ⟨w1, w2, w3⟩ := v.refreshQueues_shows
  generalize v.refreshQueues = w at w1 w2 w3 ⊢
  have hget (g : Fld) (hb : g.addr / 0x10000 = 0x4005) (hg : g.addr < 0x40050020 ∨ 0x40050040 ≤ g.addr) : w.getF g = u.getF g :=
    (State.getF_congr (w1 _ (queueRegs_apart hg))).trans (v1.getF g (by rw [hb]; decide))
  have hst : (F.HOB_ENGINE_STATE hob).addr / 0x10000 = 0x4005 ∧ 0x40050040 ≤ (F.HOB_ENGINE_STATE hob).addr := by
    simp only [F.HOB_ENGINE_STATE]
    omega
  have hpend : i < s.gr.insts.length → (u.inst i).pend = (s.inst i).pend := fun hi => by
    rw [hset.1 hi]
    exact InstRun.ran_pend ..
  have hinst (k : Nat) : w.inst k = v.inst k := by
    unfold State.inst
    rw [w3]
  have hwithin := ((u4.mono (by decide)).trans (v1.mono (by decide))).trans (w2.mono (cs := [0x4005, 0x4006]) (by decide))
  have hlen : u.gr.insts.length = s.gr.insts.length := by
    rw [e3, List.length_set]
  refine ⟨w, rfl, (hget _ hst.1 (.inr hst.2)).trans u1, ?_, ?_, (hget _ (by decide) (by decide)).trans u2,
    fun hc => (State.flag_congr (hget _ (by decide) (by decide))).trans (u3 hc), fun hn => ⟨?_, fun hi => ?_⟩, fun k hk => ?_, fun k words cause hk hi => ?_,
    hwithin.1, hwithin.2⟩
  · rw [w3, v2, e1]
  · rw [w3, v3, e2]
  · by_cases hi : i < s.gr.insts.length
    · rw [hnone ((hpend hi).trans hn)] at w2
      exact (u4.trans w2).1
    · have hdef : (u.inst i).pend = none := by
        unfold State.inst
        rw [List.getD_eq_default _ _ (by omega)]
      rw [hnone hdef] at w2
      exact (u4.trans w2).1
  · rw [hinst, hnone ((hpend hi).trans hn), hset.1 hi]
    rfl
  · rw [hinst, v4 k hk, hset.2 k hk]
  · rw [hinst]
    exact v5 k words cause ((hpend hi).trans hk) (by omega)

omit hr hh in
theorem State.pick_none (h : ∀ c, c < 8 → s.queueOf c = []) {n : Nat} (hn : n < 64) : s.pick n = none := by
  have hown : ([1, 2, 3].map (fun k => n / 8 / 4 * 4 + (n / 8 + k) % 4)).flatMap s.queueOf = [] := by
    refine List.flatMap_eq_nil_iff.2 fun c hc => h c ?_
    obtain ⟨k, -, rfl⟩ := List.mem_map.1 hc
    omega
  have hother : ([0, 1, 2, 3].map (fun k => (1 - n / 8 / 4) * 4 + k)).flatMap s.queueOf = [] := by
    refine List.flatMap_eq_nil_iff.2 fun c hc => h c ?_
    obtain ⟨k, hk, rfl⟩ := List.mem_map.1 hc
    have : k < 4 := by
      simp only [List.mem_cons, List.not_mem_nil, or_false] at hk
      omega
    omega
  unfold State.pick
  dsimp only
  rw [h (n / 8) (by omega), hown, hother]
  dsimp only [List.head?_nil]
  split <;> rfl

theorem State.hobDispatch_idles (hrun : s.flag F.HOB_STATUS_RUNNING = true) (h0 : s.getF (F.HOB_ENGINE_STATE hob) = 0)
    (hq : ∀ c, c < 8 → s.queueOf c = []) :
    ∃ t, exec (.hobDispatch hob) s = .next t ∧ t.gr = s.gr ∧ s.SameRegs [0x4005] t ∧ s.SameStores t := by
  have htake (b : Bool) (l : List Nat) (hl : ∀ n ∈ l, n < 64) : s.each l (fun s n => s.hobTake n b) = s :=
    s.each_none l _ fun n hn => s.hobTake_none n b (State.pick_none hq (hl n hn))
  have h1 := htake false (List.range' (8 * (hob / 8)) (hob % 8 + 1)) fun n hn => by
    rw [List.mem_range'_1] at hn
    omega
  have h2 := htake false (List.range 64) fun n hn => List.mem_range.1 hn
  have h3 := htake true (List.range (hob + 1)) fun n hn => by
    have := List.mem_range.1 hn
    omega
  obtain ⟨-, w2, w3⟩ := s.refreshQueues_shows
  rw [State.hobDispatch_eq hr hh hrun h0, h1, if_neg (not_not.2 h0), h2, h3]
  exact ⟨_, rfl, w3, w2.1, w2.2⟩

end

/-! What a hob stages -/

/-- The graph after hob `hob` has left, and its instance's new staging. -/
def State.hobStaged (s : State) (hob i : Nat) (r : InstRun) : State :=
  (({ s with gr := { s.gr with exec := s.gr.exec.filter (fun y => decide (y.hob ≠ hob)) } } : State).setF (F.HOB_ENGINE_STATE hob) 0).setInst i r

theorem State.hobStaged_shows (s : State) {hob : Nat} (hh : hob < 64) (i : Nat) (r : InstRun) :
    (s.hobStaged hob i r).getF (F.HOB_ENGINE_STATE hob) = 0 ∧ s.Within [0x4005] (s.hobStaged hob i r) ∧
      (s.hobStaged hob i r).gr.exec = s.gr.exec.filter (fun y => decide (y.hob ≠ hob)) ∧ (s.hobStaged hob i r).gr.sigs = s.gr.sigs ∧
      (s.hobStaged hob i r).gr.insts = s.gr.insts.set i r := by
  have hst : (F.HOB_ENGINE_STATE hob).addr / 0x10000 ∈ [0x4005] := by
    simp only [F.HOB_ENGINE_STATE, List.mem_cons, List.not_mem_nil, or_false]
    omega
  refine ⟨?_, (((State.Within.refl _ s).hidden ..).setF (F.HOB_ENGINE_STATE hob) 0 hst).trans ((State.Within.refl _ _).hidden ..), rfl, rfl, rfl⟩
  exact (State.getF_of_regs rfl _).trans (State.getF_setF_same _ _ _ rfl)

/-- What a block's results stage. -/
def BlkOut.staged (o : BlkOut) (ins : List (Word × Bool)) (tiles : List Nat) (hob : Nat) : Staged where
  outs := o.outs
  st := o.st
  ins := ins
  raises := o.raises
  held := o.held
  swap := o.swap
  tiles := tiles
  hob := hob

/-- The staging of a block's results (R90): nothing of it is visible. -/
theorem State.blockStage_shows {s : State} {hob : Nat} (hh : hob < 64) {e : Exec} {ins : List (Word × Bool)} (upset : List Word) (tiles : List Nat)
    (hfind : s.gr.exec.find? (fun x => decide (x.hob = hob)) = some e) (hlate : e.late = false) (hdue : (s.inst e.inst).sample = .due)
    (hins : s.inputs e.inst e.copyB = some ins) (hroll : hob ∉ s.age.rollDue) (hi : e.inst < s.gr.insts.length) :
    ∃ t w, exec (.blockStage hob upset tiles) s = .next t ∧ t.getF (F.HOB_ENGINE_STATE hob) = 0 ∧
      (∀ x ∈ t.gr.exec, x.hob ≠ hob) ∧ (if e.copyB = true then (t.inst e.inst).b else (t.inst e.inst).a) = some w ∧
      w.ins = ins ∧ w.outs = (s.compute e.inst ins upset).outs ∧ w.st = (s.compute e.inst ins upset).st ∧ w.hob = hob ∧
      (t.inst e.inst).st = (s.inst e.inst).st ∧ (∀ k, k ≠ e.inst → t.inst k = s.inst k) ∧ t.gr.sigs = s.gr.sigs ∧
      s.SameRegs [0x4005] t ∧ s.SameStores t := by
  generalize hout : s.compute e.inst ins upset = o
  obtain ⟨w, hw⟩ : ∃ w : Staged, w = o.staged ins tiles hob := ⟨_, rfl⟩
  obtain ⟨r, hrun⟩ : ∃ r : InstRun, r = if e.copyB then { s.inst e.inst with b := some w } else { s.inst e.inst with a := some w } := ⟨_, rfl⟩
  have heq : exec (.blockStage hob upset tiles) s = .next (s.hobStaged hob e.inst r).refreshQueues := by
    refine next_congr ?_
    have hcond : (e.late || decide ((s.inst e.inst).sample ≠ .due)) = false := by
      rw [hlate, hdue]
      rfl
    have hr : s.age.rollDue.contains hob = false := by simpa using hroll
    unfold State.blockStage
    rw [hfind]
    dsimp only
    rw [hcond, hins, hr, State.when_false, if_neg Bool.false_ne_true]
    dsimp only
    rw [hout, hrun, hw]
    rfl
  obtain ⟨k1, k2, k3, k4, k5⟩ := s.hobStaged_shows hh e.inst r
  generalize s.hobStaged hob e.inst r = u at heq k1 k2 k3 k4 k5
  obtain ⟨w1, w2, w3⟩ := u.refreshQueues_shows
  generalize u.refreshQueues = t at heq w1 w2 w3
  have hset := State.inst_set (k5.symm ▸ congrArg Gr.insts w3 : t.gr.insts = s.gr.insts.set e.inst r)
  have hst : (F.HOB_ENGINE_STATE hob).addr < 0x40050020 ∨ 0x40050040 ≤ (F.HOB_ENGINE_STATE hob).addr := by
    simp only [F.HOB_ENGINE_STATE]
    omega
  refine ⟨t, w, heq, (State.getF_congr (w1 _ (queueRegs_apart hst))).trans k1, fun x hx => ?_, ?_, by rw [hw]; rfl, by rw [hw]; rfl, by rw [hw]; rfl, by rw [hw]; rfl, ?_,
    hset.2, by rw [w3, k4], (k2.trans w2).1, (k2.trans w2).2⟩
  · rw [w3, k3] at hx
    exact of_decide_eq_true (List.mem_filter.1 hx).2
  · rw [hset.1 hi, hrun]
    cases e.copyB <;> rfl
  · rw [hset.1 hi, hrun]
    cases e.copyB <;> rfl

/-- Settles O42: the hob that no other comes before takes its pick, and what it stages stays out of sight. -/
theorem hobExecution : Obligations.HobExecution := by
  unfold Obligations.HobExecution
  refine fun s hob hr hh => ⟨fun i copyB stolen cross hrun h0 hp hfirst => ?_, fun hrun h0 hq => ?_, fun h0 => ?_,
    fun e ins upset tiles hfind hlate hdue hins hroll hi => ?_⟩
  · exact State.hobDispatch_shows hr hh hrun h0 hp hfirst
  · exact State.hobDispatch_idles hr hh hrun h0 hq
  · refine next_congr (if_pos ?_)
    rw [decide_eq_true h0, Bool.or_true]
  · exact State.blockStage_shows hh upset tiles hfind hlate hdue hins hroll hi

end Sys2Proof.Machine
end

section
/-!
# Commits and misses
-/
namespace Sys2Proof.Machine

open Sys2Proof

/-! ### Commits -/

/-- t is s but for registers of the blocks and for hidden state outside the mode, the collector, the image and the graph. -/
structure State.GraphKept (bs : List Nat) (s t : State) : Prop where
  within : s.Within bs t
  sys : t.sys = s.sys
  flt : t.flt = s.flt
  img : t.img = s.img
  gr : t.gr = s.gr

section
variable {bs : List Nat} {r s t : State}

theorem State.GraphKept.refl (bs : List Nat) (s : State) : s.GraphKept bs s := ⟨.refl _ s, rfl, rfl, rfl, rfl⟩

theorem State.GraphKept.trans (h : r.GraphKept bs s) (k : s.GraphKept bs t) : r.GraphKept bs t :=
  ⟨h.within.trans k.within, k.sys.trans h.sys, k.flt.trans h.flt, k.img.trans h.img, k.gr.trans h.gr⟩

theorem State.GraphKept.mono {cs : List Nat} (h : r.GraphKept bs s) (hsub : ∀ b ∈ bs, b ∈ cs) : r.GraphKept cs s :=
  ⟨h.within.mono hsub, h.sys, h.flt, h.img, h.gr⟩

theorem State.GraphKept.inst (h : r.GraphKept bs s) (i : Nat) : s.inst i = r.inst i := by
  unfold State.inst
  rw [h.gr]

theorem State.GraphKept.sig (h : r.GraphKept bs s) (k : Nat) : s.sig k = r.sig k := by
  unfold State.sig
  rw [h.gr]

theorem State.GraphKept.node (h : r.GraphKept bs s) (i : Nat) : s.node i = r.node i := by
  unfold State.node
  rw [h.img]

variable (h : r.GraphKept bs s)
include h

theorem State.GraphKept.setReg (a : Nat) (w : Word) (ha : a / 0x10000 ∈ bs) : r.GraphKept bs (s.setReg a w) :=
  ⟨h.within.setReg a w ha, h.sys, h.flt, h.img, h.gr⟩

theorem State.GraphKept.setF (f : Fld) (v : Nat) (ha : f.addr / 0x10000 ∈ bs) : r.GraphKept bs (s.setF f v) := h.setReg _ _ ha
theorem State.GraphKept.setFlag (f : Fld) (b : Bool) (ha : f.addr / 0x10000 ∈ bs) : r.GraphKept bs (s.setFlag f b) := h.setReg _ _ ha
theorem State.GraphKept.incF (f : Fld) (ha : f.addr / 0x10000 ∈ bs) : r.GraphKept bs (s.incF f) := h.setReg _ _ ha
theorem State.GraphKept.addF (f : Fld) (n : Nat) (ha : f.addr / 0x10000 ∈ bs) : r.GraphKept bs (s.addF f n) := h.setReg _ _ ha
theorem State.GraphKept.peakF (f : Fld) (n : Nat) (ha : f.addr / 0x10000 ∈ bs) : r.GraphKept bs (s.peakF f n) := h.setReg _ _ ha

theorem State.GraphKept.marker (k i d : Nat) : r.GraphKept bs (s.marker k i d) :=
  ⟨h.within.trans ((State.Within.refl bs s).hidden ..), h.sys, h.flt, h.img, h.gr⟩

theorem State.GraphKept.setCmps (x : List CmpRun) : r.GraphKept bs { s with cmps := x } :=
  ⟨h.within.trans ((State.Within.refl bs s).hidden ..), h.sys, h.flt, h.img, h.gr⟩

theorem State.GraphKept.when (c : Bool) (f : State → State) (hf : ∀ u, r.GraphKept bs u → r.GraphKept bs (f u)) : r.GraphKept bs (s.when c f) := by
  rcases State.when_cases s c f with ⟨-, hw⟩ | ⟨-, hw⟩ <;> rw [hw]
  · exact hf s h
  · exact h

theorem State.GraphKept.each {α : Type} (l : List α) (f : State → α → State)
    (hf : ∀ u, ∀ x ∈ l, r.GraphKept bs u → r.GraphKept bs (f u x)) : r.GraphKept bs (s.each l f) := by
  unfold State.each
  induction l generalizing s with
  | nil => exact h
  | cons x l ih => exact ih (hf s x (by simp) h) fun u y hy => hf u y (by simp [hy])

theorem State.GraphKept.refreshQueues (hb : 0x4005 ∈ bs) : r.GraphKept bs s.refreshQueues := by
  have hblock : ∀ c ∈ List.range 8, (F.HOB_QUEUE_DEPTH c).addr / 0x10000 = 0x4005 := by decide
  refine h.each _ _ fun u c hc hu => (hu.setF _ _ ?_).peakF (F.HOB_QUEUE_PEAK c) _ ?_ <;> exact (hblock c hc).symm ▸ hb

end

/-! What a commit shows in its LAW slot -/

theorem State.lawSlot_lt {s : State} {i c : Nat} (h : s.lawSlot i = some c) : c < 32 := List.mem_range.1 (List.mem_of_find?_eq_some h)

theorem LAW_SLOT_block {c : Nat} (hc : c < 32) : (F.LAW_SLOT_STATE_ACTIVE_SET c).addr / 0x10000 ∈ [0x4006] ∧
    (F.LAW_SLOT_OUT_U c).addr / 0x10000 ∈ [0x4006] ∧ (F.LAW_SLOT_INTEG_I c).addr / 0x10000 ∈ [0x4006] ∧
    (F.LAW_SLOT_HELD_COUNT c).addr / 0x10000 ∈ [0x4006] := by
  simp only [F.LAW_SLOT_STATE_ACTIVE_SET, F.LAW_SLOT_OUT_U, F.LAW_SLOT_INTEG_I, F.LAW_SLOT_HELD_COUNT, List.mem_cons, List.not_mem_nil, or_false]
  omega

theorem State.lawCommit_kept (s : State) (i : Nat) (w : Staged) : s.GraphKept [0x4006] (s.lawCommit i w) := by
  unfold State.lawCommit
  split
  · exact .refl _ s
  · next c hc =>
    obtain ⟨b1, b2, b3, b4⟩ := LAW_SLOT_block (State.lawSlot_lt hc)
    have h1 := ((((((State.GraphKept.refl [0x4006] s).setF (F.LAW_SLOT_STATE_LIMIT c) (w.outs.getD 1 (0, false)).1.toNat b1).setF
      (F.LAW_SLOT_STATE_IX c) ((w.st.getD 2 0).toNat % 16) b1).setF (F.LAW_SLOT_STATE_IY c) ((w.st.getD 2 0).toNat / 16 % 16) b1).setReg
      (F.LAW_SLOT_OUT_U c).addr (w.outs.getD 0 (0, false)).1 b2).setReg (F.LAW_SLOT_INTEG_I c).addr (w.st.getD 0 0) b3).when w.held
      (fun s => s.incF (F.LAW_SLOT_HELD_COUNT c)) fun u hu => hu.incF _ b4
    dsimp only
    split
    · exact h1
    · exact (h1.setFlag (F.LAW_SLOT_STATE_PENDING c) _ b1).setF (F.LAW_SLOT_STATE_PENDING_SET c) _ b1

theorem State.lawShow_kept (s : State) (i : Nat) : s.GraphKept [0x4006] (s.lawShow i) := by
  unfold State.lawShow
  split
  · exact .refl _ s
  · next c hc =>
    obtain ⟨b1, -, b3, -⟩ := LAW_SLOT_block (State.lawSlot_lt hc)
    exact ((((((State.GraphKept.refl [0x4006] s).setF (F.LAW_SLOT_STATE_IX c) _ b1).setF (F.LAW_SLOT_STATE_IY c) _ b1).setF
      (F.LAW_SLOT_STATE_ACTIVE_SET c) _ b1).setFlag (F.LAW_SLOT_STATE_PENDING c) _ b1).setF (F.LAW_SLOT_STATE_PENDING_SET c) _ b1).setReg _ _ b3

/-! The outputs that a commit writes -/

theorem State.setSig_sig (s : State) (k : Nat) (x : SigRun) :
    (k < s.gr.sigs.length → (s.setSig k x).sig k = x) ∧ ∀ j, j ≠ k → (s.setSig k x).sig j = s.sig j := by
  unfold State.sig State.setSig
  refine ⟨fun hk => ?_, fun j hj => ?_⟩
  · rw [List.getD_eq_getElem?_getD, List.getElem?_set_self hk, Option.getD_some]
  · rw [List.getD_eq_getElem?_getD, List.getD_eq_getElem?_getD, List.getElem?_set_ne (Ne.symm hj)]

/-- t is s but for the signals of the graph. -/
structure State.OnlySigs (s t : State) : Prop where
  rest : ∃ g, t = { s with gr := { s.gr with sigs := g } }
  length : t.gr.sigs.length = s.gr.sigs.length

theorem State.OnlySigs.refl (s : State) : s.OnlySigs s := ⟨⟨_, rfl⟩, rfl⟩

theorem State.OnlySigs.trans {r s t : State} (h : r.OnlySigs s) (k : s.OnlySigs t) : r.OnlySigs t := by
  obtain ⟨⟨g, rfl⟩, hl⟩ := h
  obtain ⟨⟨g', rfl⟩, kl⟩ := k
  exact ⟨⟨g', rfl⟩, kl.trans hl⟩

theorem State.setSig_only (s : State) (k : Nat) (x : SigRun) : s.OnlySigs (s.setSig k x) := ⟨⟨_, rfl⟩, List.length_set⟩

theorem State.each_onlySigs {α : Type} (l : List α) (f : State → α → State) (hf : ∀ u a, State.OnlySigs u (f u a)) (s : State) :
    s.OnlySigs (s.each l f) := by
  unfold State.each
  induction l generalizing s with
  | nil => exact .refl s
  | cons a l ih => exact (hf s a).trans (ih _)

/-- The outputs named, each written once. -/
theorem State.commitOuts_shows (l : List (Nat × Word × Bool)) : ∀ s : State,
    (∀ k, k ∉ l.map Prod.fst → (s.each l (fun s o => s.commitOut o.1 o.2.1 o.2.2)).sig k = s.sig k) ∧
      ((l.map Prod.fst).Nodup → ∀ o ∈ l, o.1 < s.gr.sigs.length →
        ((s.each l (fun s o => s.commitOut o.1 o.2.1 o.2.2)).sig o.1).v = o.2.1 ∧
        ((s.each l (fun s o => s.commitOut o.1 o.2.1 o.2.2)).sig o.1).age = o.2.2) := by
  induction l with
  | nil => exact fun _ => ⟨fun _ _ => rfl, fun _ => nofun⟩
  | cons p l ih =>
      intro s
      obtain ⟨h1, h2⟩ := s.setSig_sig p.1 { s.sig p.1 with v := p.2.1, age := p.2.2, aged := if p.2.2 then (s.sig p.1).aged else 0 }
      obtain ⟨i1, i2⟩ := ih (s.commitOut p.1 p.2.1 p.2.2)
      refine ⟨fun k hk => ?_, fun hnd o ho hlt => ?_⟩
      · simp only [List.map_cons, List.mem_cons, not_or] at hk
        exact (i1 k hk.2).trans (h2 k hk.1)
      · rw [List.map_cons, List.nodup_cons] at hnd
        have hlen : (s.commitOut p.1 p.2.1 p.2.2).gr.sigs.length = s.gr.sigs.length := List.length_set
        rcases List.mem_cons.1 ho with rfl | ho
        · have hsig : (s.each (o :: l) (fun s o => s.commitOut o.1 o.2.1 o.2.2)).sig o.1 = (s.commitOut o.1 o.2.1 o.2.2).sig o.1 := i1 o.1 hnd.1
          rw [hsig]
          have := h1 hlt
          exact ⟨congrArg SigRun.v this, congrArg SigRun.age this⟩
        · exact i2 hnd.2 o ho (hlen.symm ▸ hlt)



theorem State.secCommit_block (s : State) (c : BlkIn) (outs : List (Word × Bool)) (h : c.ty < 68) : s.secCommit c outs = s := by
  unfold State.secCommit
  split
  iterate 8 next hty => exact absurd hty (by omega)
  rfl

theorem State.commitShows_block (s : State) (i : Nat) (c : BlkIn) (w : Staged) (h : c.ty < 68) : s.commitShows i c w = s := by
  have hno : (decide (c.ty = 68) || (decide (70 ≤ c.ty) && decide (c.ty ≤ 75))) = false := by
    rw [decide_eq_false (by omega), decide_eq_false (by omega)]
    rfl
  have hsame : (c.safShown.2.map (fun f => f.addr)).filter (fun a => decide (s.reg a ≠ s.reg a)) = [] := by
    refine List.filter_eq_nil_iff.2 fun a _ => ?_
    rw [decide_eq_false (not_not.2 rfl)]
    exact Bool.false_ne_true
  unfold State.commitShows
  rw [hno, State.when_false]
  dsimp only
  rw [hsame]
  rfl

theorem State.Confined.gr {bs : List Nat} {s t : State} (h : s.Confined bs t) : t.gr = s.gr := by
  obtain ⟨-, r, f, j, g, m, rfl⟩ := h
  rfl

theorem State.refreshStale_confined (s : State) (h : s.Quiet 0x2F) : s.Confined raiseBlocks s.refreshStale := by
  have hraise : s.Confined raiseBlocks (s.raiseLevel Src.staleSignal) := s.confined_raiseLevel 0x2F none (by decide) h
  have hclear : s.Confined raiseBlocks (s.clearLevel Src.staleSignal) := (s.confined_clearLevel 0x2F (by decide)).mono (by decide)
  unfold State.refreshStale
  dsimp only
  split
  · split
    · exact .refl _ s
    · exact hraise
  · split
    · exact hclear
    · exact .refl _ s

theorem State.commitRaises_none (s : State) (w : Staged) (h : w.raises = []) : s.commitRaises w = s := by
  unfold State.commitRaises
  rw [h]
  rfl

/-- A commit after a retry counts a transient mismatch, which bears on no reaction. -/
theorem State.commitCause_kept (s : State) (x : Option Nat) (hx : ∀ k, x = some k → k < 24) (u : State)
    (hnone : x = none → u = s) (hsome : ∀ k, x = some k → u = s.transient.incF (F.CMP_TRANSIENT_CNT_COUNT k)) :
    s.GraphKept [0x4003, 0x4004] u ∧ u.fltAction 0x2F = s.fltAction 0x2F := by
  cases hc : x with
  | none =>
      rw [hnone hc]
      exact ⟨.refl _ s, rfl⟩
  | some k =>
      have hb : (F.CMP_TRANSIENT_CNT_COUNT k).addr / 0x10000 = 0x4004 := by
        have := hx k hc
        simp only [F.CMP_TRANSIENT_CNT_COUNT]
        omega
      rw [hsome k hc]
      refine ⟨((State.GraphKept.refl _ s).incF F.FLT_TRANSIENT_CNT_COUNT (by decide)).incF _ (by rw [hb]; decide), ?_⟩
      refine congrArg (· % 16) ((State.getF_congr (State.reg_setF_other _ _ _ _ ?_)).trans (State.getF_congr (State.reg_setF_other _ _ _ _ (by decide))))
      simp only [F.CMP_TRANSIENT_CNT_COUNT, F.FLT_SRC_REACTION]
      omega

/-! The commit of a sample (R91) -/

/-- What a commit of w writes: the state and the outputs of the instance i. -/
structure State.CommitData (s : State) (i : Nat) (w : Staged) (t : State) : Prop where
  st : (t.inst i).st = w.st
  sample : (t.inst i).sample = .committed
  others : ∀ k, k ≠ i → t.inst k = s.inst k
  outs : ∀ m k, (s.node i).outs.Nodup → (s.node i).outs[m]? = some k → m < w.outs.length → k < s.gr.sigs.length →
    (t.sig k).v = (w.outs.getD m (0, false)).1 ∧ (t.sig k).age = ((w.outs.getD m (0, false)).2 || (s.inst i).aged)
  sigs : ∀ k, k ∉ (s.node i).outs → t.sig k = s.sig k

section
variable {s : State} {i : Nat} {w : Staged}

theorem State.CommitData.of_gr {t u : State} (h : s.CommitData i w u) (hi : t.gr.insts = u.gr.insts) (hs : t.gr.sigs = u.gr.sigs) :
    s.CommitData i w t := by
  have hinst (k : Nat) : t.inst k = u.inst k := by
    unfold State.inst
    rw [hi]
  have hsig (k : Nat) : t.sig k = u.sig k := by
    unfold State.sig
    rw [hs]
  refine ⟨by rw [hinst]; exact h.st, by rw [hinst]; exact h.sample, fun k hk => (hinst k).trans (h.others k hk), fun m k h1 h2 h3 h4 => ?_,
    fun k hk => (hsig k).trans (h.sigs k hk)⟩
  rw [hsig]
  exact h.outs m k h1 h2 h3 h4

theorem commitKeys (l : List Nat) (outs : List (Word × Bool)) (aged : Bool) :
    (((l.zip outs).map (fun o => (o.1, o.2.1, o.2.2 || aged))).map Prod.fst).Sublist l := by
  induction l generalizing outs with
  | nil => exact List.Sublist.slnil
  | cons k l ih =>
      cases outs with
      | nil => exact List.nil_sublist _
      | cons o outs => exact (ih outs).cons_cons k

theorem State.commitData_of_outs (hi : i < s.gr.insts.length) (r : InstRun) (hst : r.st = w.st) (hsample : r.sample = .committed) :
    s.CommitData i w ((s.each (((s.node i).outs.zip w.outs).map (fun o => (o.1, o.2.1, o.2.2 || (s.inst i).aged)))
      (fun s o => s.commitOut o.1 o.2.1 o.2.2)).setInst i r) := by
  have hkeys := commitKeys (s.node i).outs w.outs (s.inst i).aged
  obtain ⟨h1, h2⟩ := State.commitOuts_shows (((s.node i).outs.zip w.outs).map (fun o => (o.1, o.2.1, o.2.2 || (s.inst i).aged))) s
  have hmem (m k : Nat) (hm : (s.node i).outs[m]? = some k) (hlt : m < w.outs.length) :
      (k, (w.outs.getD m (0, false)).1, (w.outs.getD m (0, false)).2 || (s.inst i).aged) ∈
        ((s.node i).outs.zip w.outs).map (fun o => (o.1, o.2.1, o.2.2 || (s.inst i).aged)) := by
    refine List.mem_map.2 ⟨(k, w.outs.getD m (0, false)), List.mem_of_getElem? (i := m) ?_, rfl⟩
    rw [List.getElem?_zip_eq_some]
    exact ⟨hm, by rw [List.getD_eq_getElem?_getD, List.getElem?_eq_getElem hlt, Option.getD_some]⟩
  have honly := State.each_onlySigs (((s.node i).outs.zip w.outs).map (fun o => (o.1, o.2.1, o.2.2 || (s.inst i).aged)))
    (fun s o => s.commitOut o.1 o.2.1 o.2.2) (fun u o => u.setSig_only o.1 _) s
  generalize ((s.node i).outs.zip w.outs).map (fun o => (o.1, o.2.1, o.2.2 || (s.inst i).aged)) = l at hkeys h1 h2 hmem honly ⊢
  generalize s.each l (fun s o => s.commitOut o.1 o.2.1 o.2.2) = u at h1 h2 honly ⊢
  obtain ⟨⟨g, rfl⟩, -⟩ := honly
  have hset := State.inst_set (s := s) (t := ({ s with gr := { s.gr with sigs := g } } : State).setInst i r) rfl
  refine ⟨(congrArg InstRun.st (hset.1 hi)).trans hst, (congrArg InstRun.sample (hset.1 hi)).trans hsample, hset.2, fun m k hnd hm hlt hk => ?_,
    fun k hk => h1 k fun hm => hk (hkeys.subset hm)⟩
  exact h2 (hnd.sublist hkeys) _ (hmem m k hm hlt) hk

end

/-- The slack of the class. -/
def State.commitSlack (s : State) (rate slack : Nat) : State := { s with gr := { s.gr with slack := s.gr.slack.set rate (some slack) } }

theorem State.commit_shows {s : State} {i : Nat} {w : Staged} (slack wait : Nat) (ha : (s.inst i).a = some w) (hty : (s.node i).ty < 68)
    (hr : w.raises = []) (hq : s.Quiet 0x2F) (hi : i < s.gr.insts.length) (hcause : ∀ k, (s.inst i).cause = some k → k < 24) :
    s.CommitData i w (s.commit i slack wait) ∧ (s.commit i slack wait).mode = s.mode ∧
      s.Within (0x4004 :: 0x4005 :: 0x4006 :: raiseBlocks) (s.commit i slack wait) := by
  generalize h : s.commit i slack wait = t
  unfold State.commit at h
  extract_lets n x at h
  split at h
  · next hx => exact absurd (hx.symm.trans ha) nofun
  · next w' hx =>
    obtain rfl : w = w' := Option.some.inj (ha.symm.trans hx)
    extract_lets c outs pend s1 s2 s3 s4 s5 s6 at h
    have hdata : s.CommitData i w s2 := State.commitData_of_outs hi _ rfl rfl
    have h1 : ∃ g, s1 = { s with gr := { s.gr with sigs := g } } := (State.each_onlySigs outs _ (fun u o => u.setSig_only o.1 _) s).rest
    have h2 : s.Within [0x4005, 0x4006] s2 ∧ s2.sys = s.sys ∧ s2.fltAction 0x2F = s.fltAction 0x2F := by
      obtain ⟨g, hg⟩ := h1
      have hs : s2 = ({ s with gr := { s.gr with sigs := g } } : State).setInst i _ := congrArg (fun u : State => u.setInst i _) hg
      rw [hs]
      exact ⟨(State.Within.refl _ s).hidden .., rfl, rfl⟩
    have h4 : s4 = s3 := (State.commitShows_block _ i c w hty).trans (State.secCommit_block s3 c w.outs hty)
    have h5 : s2.GraphKept [0x4005, 0x4006] s5 := by
      refine State.GraphKept.when ?_ _ _ fun u hu => hu.peakF _ _ (by decide)
      rw [h4]
      have hheld := (State.GraphKept.refl [0x4005, 0x4006] s2).when (w.held && (decide (30 ≤ n.ty ∧ n.ty ≤ 34) || decide (n.ty = 37) ||
        decide (n.ty = 38))) (fun s => s.incF F.LAW_HELD_CNT_COUNT) fun u hu => hu.incF _ (by decide)
      exact hheld.trans ((State.lawCommit_kept _ i w).mono (by decide))
    have h6 : s5.GraphKept [0x4003, 0x4004] s6 ∧ s6.fltAction 0x2F = s5.fltAction 0x2F := by
      refine s5.commitCause_kept x.cause hcause s6 (fun hc => ?_) fun k hc => ?_
      · simp only [s6, hc]
      · simp only [s6, hc]
    clear_value s6 s5 s2
    change ((((s6.commitSlack n.rate slack).when (decide (s.mode ≠ .shadow) && decide (s.mode ≠ .replay)) State.refreshStale).refreshQueues).commitRaises
      w) = t at h
    rw [State.commitRaises_none _ w hr] at h
    obtain ⟨h2w, h2s, h2f⟩ := h2
    obtain ⟨h6k, h6f⟩ := h6
    have hslack : s6.Within (0x4004 :: 0x4005 :: 0x4006 :: raiseBlocks) (s6.commitSlack n.rate slack) := (State.Within.refl _ s6).hidden ..
    have hbs : s.Within (0x4004 :: 0x4005 :: 0x4006 :: raiseBlocks) (s6.commitSlack n.rate slack) :=
      (((h2w.mono (by decide)).trans (h5.within.mono (by decide))).trans (h6k.within.mono (by decide))).trans hslack
    have hsys : (s6.commitSlack n.rate slack).sys = s.sys := h6k.sys.trans (h5.sys.trans h2s)
    have hact : (s6.commitSlack n.rate slack).fltAction 0x2F = s.fltAction 0x2F := by
      refine Eq.trans (congrArg (· % 16) (State.getF_of_regs rfl _)) (h6f.trans (Eq.trans ?_ h2f))
      exact congrArg (· % 16) (h5.within.getF _ (by decide))
    have hgr : (s6.commitSlack n.rate slack).gr.insts = s2.gr.insts ∧ (s6.commitSlack n.rate slack).gr.sigs = s2.gr.sigs :=
      ⟨show s6.gr.insts = _ by rw [h6k.gr, h5.gr], show s6.gr.sigs = _ by rw [h6k.gr, h5.gr]⟩
    generalize s6.commitSlack n.rate slack = u at h hbs hsys hact hgr
    have hmode : u.mode = s.mode := hbs.mode (by decide) (congrArg Sys.phase hsys)
    have hquiet : u.Quiet 0x2F := by
      unfold State.Quiet at hq ⊢
      rw [hact, hmode]
      exact hq
    have hstale : u.Confined raiseBlocks (u.when (decide (s.mode ≠ .shadow) && decide (s.mode ≠ .replay)) State.refreshStale) := by
      rcases State.when_cases u (decide (s.mode ≠ .shadow) && decide (s.mode ≠ .replay)) State.refreshStale with ⟨-, hw⟩ | ⟨-, hw⟩ <;> rw [hw]
      · exact u.refreshStale_confined hquiet
      · exact .refl _ u
    generalize u.when (decide (s.mode ≠ .shadow) && decide (s.mode ≠ .replay)) State.refreshStale = v at h hstale
    obtain ⟨-, q2, q3⟩ := v.refreshQueues_shows
    rw [h] at q2 q3
    have hall : s.Within (0x4004 :: 0x4005 :: 0x4006 :: raiseBlocks) t := hbs.trans ((hstale.within.mono (by decide)).trans (q2.mono (by decide)))
    refine ⟨hdata.of_gr ?_ ?_, hall.mode (by decide) ?_, hall⟩
    · rw [q3, hstale.gr, hgr.1]
    · rw [q3, hstale.gr, hgr.2]
    · rw [← h, (State.GraphKept.refl [0x4005] v).refreshQueues (by decide) |>.sys, hstale.sys, hsys]

theorem State.commit_due {s : State} (i slack wait : Nat) (hr : s.sys.phase = .run) (hrun : s.flag F.HOB_STATUS_RUNNING = true) :
    exec (.commit i slack wait) s = .next (if s.mayCommit i then s.commit i slack wait else s) := by
  refine next_congr ?_
  unfold State.commitDue
  rw [State.running_of_run hr, hrun]
  rfl



/-! ### Samples that do not commit (R95) -/

theorem State.dropWrites_kept (s : State) (l : List (Nat × Bool)) : s.GraphKept [0x4004] (s.dropWrites l) := by
  have hb : ∀ k ∈ [0, 1, 2, 3, 4, 5, 6, 7, 13], (F.CMP_STAT_DEPTH k).addr / 0x10000 ∈ [0x4004] := by decide
  unfold State.dropWrites
  dsimp only
  refine (State.GraphKept.refl _ s).each _ _ fun u k hk hu => ?_
  split
  · exact hu
  · exact (hu.setCmps _).setF _ _ (hb k hk)

theorem State.hobOf_kept (s : State) (i : Nat) (b : Bool) : s.GraphKept [] (s.hobOf i b).2 ∧ (s.hobOf i b).2.regs = s.regs := by
  unfold State.hobOf
  split
  · exact ⟨.refl _ s, rfl⟩
  · exact ⟨⟨(State.Within.refl _ s).hidden .., rfl, rfl, rfl, rfl⟩, rfl⟩

/-- The counters of a miss. -/
def State.missCounted (s : State) (r n : Nat) : State :=
  ((s.addF F.HOB_MISS_CNT_COUNT n).incF (F.HOB_CLASS_MISSES r)).setFlag F.HOB_STATUS_MISS_SEEN true

theorem State.missCounted_shows (s : State) {r : Nat} (hr : r < 5) (n : Nat) :
    s.GraphKept [0x4005] (s.missCounted r n) ∧ (s.missCounted r n).flag F.HOB_STATUS_MISS_SEEN = true ∧
      (s.missCounted r n).getF F.HOB_MISS_CNT_COUNT = min (2 ^ 32 - 1) (s.getF F.HOB_MISS_CNT_COUNT + n) := by
  have hclass : (F.HOB_CLASS_MISSES r).addr / 0x10000 ∈ [0x4005] ∧ (F.HOB_CLASS_MISSES r).addr ≠ F.HOB_MISS_CNT_COUNT.addr := by
    simp only [F.HOB_CLASS_MISSES, F.HOB_MISS_CNT_COUNT, List.mem_cons, List.not_mem_nil, or_false]
    omega
  have h1 := (State.GraphKept.refl [0x4005] s).addF F.HOB_MISS_CNT_COUNT n (by decide)
  have h2 : (s.addF F.HOB_MISS_CNT_COUNT n).getF F.HOB_MISS_CNT_COUNT = min (2 ^ 32 - 1) (s.getF F.HOB_MISS_CNT_COUNT + n) :=
    State.getF_addF_same _ _ _ (by decide)
  unfold State.missCounted
  generalize s.addF F.HOB_MISS_CNT_COUNT n = u at h1 h2 ⊢
  refine ⟨(h1.incF _ hclass.1).setFlag _ _ (by decide), flag_setFlag_same _ _ _ (by decide), ?_⟩
  exact (State.getF_setFlag_apart _ _ _ _ (by decide) (by decide)).trans ((State.getF_congr (State.reg_setF_other _ _ _ _ hclass.2)).trans h2)

/-- The record of a miss counts the samples and shows that one was seen (R95, R107). -/
theorem State.missRecord_shows (s : State) {r : Nat} (hr : r < 5) {l : List Nat} (hl : ∀ i ∈ l, i < 8192) (hne : l ≠ []) :
    s.GraphKept [0x4005] (s.missRecord r l) ∧ (s.missRecord r l).flag F.HOB_STATUS_MISS_SEEN = true ∧
      (s.missRecord r l).getF F.HOB_MISS_CNT_COUNT = min (2 ^ 32 - 1) (s.getF F.HOB_MISS_CNT_COUNT + l.length) := by
  have hword (i : Nat) (hi : i ∈ l) : (F.HOB_MISSED_MISSED (i / 32)).addr / 0x10000 ∈ [0x4005] := by
    have := hl i hi
    simp only [F.HOB_MISSED_MISSED, List.mem_cons, List.not_mem_nil, or_false]
    omega
  generalize h : s.missRecord r l = t
  unfold State.missRecord at h
  split at h
  · next hh => exact absurd (List.head?_eq_none_iff.1 hh) hne
  · next i hh =>
    extract_lets copyB f s1 s2 s3 at h
    obtain ⟨k1, k2⟩ := s.hobOf_kept i copyB
    have h1 : s.GraphKept [0x4005] s1 :=
      (k1.mono (by decide)).trans ((State.GraphKept.refl _ _).each _ _ fun u k hk hu => hu.setF _ _ (hword k hk))
    have hcnt : s1.getF F.HOB_MISS_CNT_COUNT = s.getF F.HOB_MISS_CNT_COUNT := by
      have hsame : f.2.getF F.HOB_MISS_CNT_COUNT = s.getF F.HOB_MISS_CNT_COUNT := State.getF_of_regs k2 _
      refine State.each_keeps (fun u => u.getF F.HOB_MISS_CNT_COUNT = s.getF F.HOB_MISS_CNT_COUNT) _ (fun u k hu => ?_) l f.2 hsame
      refine (State.getF_congr (State.reg_setF_other _ _ _ _ ?_)).trans hu
      simp only [F.HOB_MISSED_MISSED, F.HOB_MISS_CNT_COUNT]
      omega
    obtain ⟨c1, h2f, h2c⟩ := s1.missCounted_shows hr l.length
    have h2 := h1.trans c1
    rw [hcnt] at h2c
    have h2e : s2 = s1.missCounted r l.length := rfl
    rw [← h2e] at h2 h2f h2c
    have h3 : s.GraphKept [0x4005] s3 := h2.setReg _ _ (by decide)
    have h3g (g : Fld) (hg : F.HOB_LAST_EVENT_KIND.addr ≠ g.addr) : s3.getF g = s2.getF g := State.getF_setReg_other _ _ _ _ hg
    clear_value s3 s2
    have ht (g : Fld) : t.getF g = s3.getF g := by
      rw [← h]
      exact State.getF_when _ _ _ _ (State.marker_getF ..)
    refine ⟨h ▸ h3.when _ _ fun u hu => hu.marker _ _ _, ?_, (ht _).trans ((h3g _ (by decide)).trans h2c)⟩
    exact (State.flag_congr ((ht _).trans (h3g _ (by decide)))).trans h2f

/-! A sample that ends without a commit -/

/-- An output that carries the age flag; a commit taken back gives the value of the slot start. -/
def State.ageOut (s : State) (b : Bool) (k : Nat) : State :=
  s.setSig k { s.sig k with v := if b then (s.sig k).pv else (s.sig k).v, age := true, aged := if b then (s.sig k).paged else (s.sig k).aged }

theorem State.ageOuts_eq (s : State) (i : Nat) (b : Bool) : s.ageOuts i b = s.each (s.node i).outs (fun s k => s.ageOut b k) := rfl

theorem State.each_ageOut (b : Bool) (l : List Nat) : ∀ s : State,
    (∀ k, k ∉ l → (s.each l (fun s k => s.ageOut b k)).sig k = s.sig k) ∧
      ∀ k ∈ l, k < s.gr.sigs.length → b = true →
        ((s.each l (fun s k => s.ageOut b k)).sig k).v = (s.sig k).pv ∧ ((s.each l (fun s k => s.ageOut b k)).sig k).age = true := by
  induction l with
  | nil => exact fun _ => ⟨fun _ _ => rfl, nofun⟩
  | cons p l ih =>
      intro s
      obtain ⟨h1, h2⟩ := s.setSig_sig p { s.sig p with v := if b then (s.sig p).pv else (s.sig p).v, age := true,
                                                       aged := if b then (s.sig p).paged else (s.sig p).aged }
      obtain ⟨i1, i2⟩ := ih (s.ageOut b p)
      refine ⟨fun k hk => ?_, fun k hk hlt hb => ?_⟩
      · rw [List.mem_cons, not_or] at hk
        exact (i1 k hk.2).trans (h2 k hk.1)
      · have hlen : k < (s.ageOut b p).gr.sigs.length := lt_of_lt_of_eq hlt List.length_set.symm
        have hpv : ((s.ageOut b p).sig k).pv = (s.sig k).pv := by
          by_cases hp : k = p
          · subst hp
            exact (congrArg SigRun.pv (h1 hlt)).trans rfl
          · exact congrArg SigRun.pv (h2 k hp)
        by_cases hm : k ∈ l
        · obtain ⟨j1, j2⟩ := i2 k hm hlen hb
          exact ⟨j1.trans hpv, j2⟩
        · obtain rfl : k = p := (List.mem_cons.1 hk).resolve_right hm
          have hsig : (s.each (k :: l) (fun s k => s.ageOut b k)).sig k = (s.ageOut b k).sig k := i1 k hm
          refine ⟨(congrArg SigRun.v (hsig.trans (h1 hlt))).trans ?_, congrArg SigRun.age (hsig.trans (h1 hlt))⟩
          rw [hb]
          rfl

/-- What ending a sample does to the graph: the instance i takes the record r, outputs change, the rest of the state stays but in the blocks. -/
structure State.SampleEnds (bs : List Nat) (s : State) (i : Nat) (r : InstRun) (t : State) : Prop where
  within : s.Within bs t
  sys : t.sys = s.sys
  flt : t.flt = s.flt
  img : t.img = s.img
  insts : t.gr.insts = s.gr.insts.set i r

/-- Marks of an instance that come after the end of its sample count as late (R95). -/
def State.markLate (s : State) (i : Nat) : State :=
  { s with gr := { s.gr with exec := s.gr.exec.map (fun e => if e.inst = i then { e with late := true } else e) } }

/-- What follows the change of the instance's record: its hobs are late, its writes go. -/
def State.sampleGone (s : State) (i : Nat) : State := (s.markLate i).dropWrites [(i, false), (i, true)]

theorem State.sampleGone_kept (s : State) (i : Nat) :
    s.Within [0x4004] (s.sampleGone i) ∧ (s.sampleGone i).sys = s.sys ∧ (s.sampleGone i).flt = s.flt ∧ (s.sampleGone i).img = s.img ∧
      (s.sampleGone i).gr.insts = s.gr.insts ∧ (s.sampleGone i).gr.sigs = s.gr.sigs := by
  have hm : s.Within [0x4004] (s.markLate i) ∧ (s.markLate i).sys = s.sys ∧ (s.markLate i).flt = s.flt ∧ (s.markLate i).img = s.img ∧
      (s.markLate i).gr.insts = s.gr.insts ∧ (s.markLate i).gr.sigs = s.gr.sigs :=
    ⟨(State.Within.refl _ s).hidden .., rfl, rfl, rfl, rfl, rfl⟩
  unfold State.sampleGone
  generalize s.markLate i = u at hm ⊢
  obtain ⟨m1, m2, m3, m4, m5, m6⟩ := hm
  have hd := u.dropWrites_kept [(i, false), (i, true)]
  exact ⟨m1.trans hd.within, hd.sys.trans m2, hd.flt.trans m3, hd.img.trans m4, (congrArg Gr.insts hd.gr).trans m5,
    (congrArg Gr.sigs hd.gr).trans m6⟩

/-- The outputs are aged and the record is replaced. -/
def State.sampleAged (s : State) (i : Nat) (b : Bool) (r : InstRun) : State := (s.ageOuts i b).setInst i r

theorem State.sampleAged_shows (s : State) (i : Nat) (b : Bool) (r : InstRun) (bs : List Nat) :
    s.SampleEnds bs i r (s.sampleAged i b r) ∧ (s.sampleAged i b r).gr.sigs = (s.ageOuts i b).gr.sigs := by
  obtain ⟨⟨g, hg⟩, -⟩ := State.each_onlySigs (s.node i).outs (fun s k => s.ageOut b k) (fun u k => u.setSig_only k _) s
  have hage : s.ageOuts i b = { s with gr := { s.gr with sigs := g } } := hg
  unfold State.sampleAged
  rw [hage]
  exact ⟨⟨(State.Within.refl _ s).hidden .., rfl, rfl, rfl, rfl⟩, rfl⟩

/-- Ending a sample after the commit of it, if any, has been taken back. -/
theorem State.sampleEnds_drop {s u : State} {bs : List Nat} {i : Nat} (b : Bool) (r : InstRun) (hb : 0x4004 ∈ bs)
    (hu : (s.sampleAged i b r).GraphKept bs u) :
    s.SampleEnds bs i r (u.sampleGone i) ∧ (u.sampleGone i).gr.sigs = (s.ageOuts i b).gr.sigs := by
  obtain ⟨hset, hsig⟩ := s.sampleAged_shows i b r bs
  obtain ⟨d1, d2, d3, d4, d5, d6⟩ := u.sampleGone_kept i
  have hd : u.Within bs (u.sampleGone i) := d1.mono fun x hx => (List.mem_singleton.1 hx).symm ▸ hb
  exact ⟨⟨(hset.within.trans hu.within).trans hd, d2.trans (hu.sys.trans hset.sys), d3.trans (hu.flt.trans hset.flt),
    d4.trans (hu.img.trans hset.img), d5.trans ((congrArg Gr.insts hu.gr).trans hset.insts)⟩, d6.trans ((congrArg Gr.sigs hu.gr).trans hsig)⟩

/-- The record of an instance whose sample ended as `a`. -/
def InstRun.ended (r : InstRun) (a : Sample) : InstRun := { r with sample := a, a := none, b := none, retried := false, saved := none }

theorem State.dropSample_eq_of_due {s : State} {i : Nat} (as : Sample) (h : (s.inst i).sample ≠ .committed) :
    s.dropSample i as = (s.sampleAged i false ((s.inst i).ended as)).sampleGone i := by
  have hback : decide ((s.inst i).sample = .committed) = false := decide_eq_false h
  generalize ht : s.dropSample i as = t
  unfold State.dropSample at ht
  extract_lets x back y s0 s1 at ht
  have hb : back = false := hback
  have hy : y = x := by
    simp only [y, hb]
  have h0 : s0 = s.sampleAged i false (x.ended as) := by
    have h0' : s0 = s.sampleAged i back (y.ended as) := rfl
    rw [h0', hb, hy]
  have h1 : s1 = s.sampleAged i false (x.ended as) := by
    rw [← h0]
    simp only [s1, hb]
  clear_value s1
  rw [← ht, ← h1]
  rfl

theorem State.dropSample_due (s : State) (i : Nat) (as : Sample) (h : (s.inst i).sample ≠ .committed) :
    s.SampleEnds [0x4004] i ((s.inst i).ended as) (s.dropSample i as) := by
  rw [State.dropSample_eq_of_due as h]
  exact (State.sampleEnds_drop false _ (by decide) (.refl _ _)).1

theorem State.secUndo_block (s : State) (ty : Nat) (v : Saved) (h : ty < 76) (hp : v.pts = []) : s.secUndo ty v = s := by
  unfold State.secUndo
  rw [hp]
  dsimp only
  split
  iterate 4 exact absurd h (by decide)
  rfl

theorem State.safUndo_block (s : State) (c : BlkIn) (v : Saved) (h : c.ty < 68) (hc : v.counted = []) : s.safUndo c v = s := by
  have hshown : c.safShown = ([], []) := by
    unfold BlkIn.safShown
    split
    iterate 6 next hty => exact absurd hty (by omega)
    rfl
  unfold State.safUndo
  rw [hshown, hc]
  dsimp only
  split
  iterate 2 next hty => exact absurd hty (by omega)
  rfl

theorem State.commitUndo_kept (s : State) (i : Nat) (v : Saved) (hty : (s.node i).ty < 30) (hh : v.held = false) (hp : v.pts = [])
    (hc : v.counted = []) : s.GraphKept [0x4006] (s.commitUndo i v) := by
  have hno : (decide (30 ≤ (s.node i).ty) && decide ((s.node i).ty ≤ 38)) = false := by
    rw [decide_eq_false (by omega)]
    rfl
  unfold State.commitUndo
  dsimp only
  rw [hno, hh, State.when_false, State.when_false, State.secUndo_block _ _ _ (by omega) hp,
    State.safUndo_block _ _ _ (show (s.node i).ty < 68 by omega) hc]
  exact s.lawShow_kept i

/-- The record of an instance whose commit has been taken back. -/
def InstRun.undone (r : InstRun) (v : Saved) : InstRun :=
  { r with st := v.st, fresh := v.fresh, reseed := v.reseed, pend := v.pend, aged := v.aged }

theorem State.dropSample_eq_of_committed {s : State} {i : Nat} (as : Sample) {v : Saved} (h : (s.inst i).sample = .committed)
    (hv : (s.inst i).saved = some v) :
    s.dropSample i as = ((s.sampleAged i true (((s.inst i).undone v).ended as)).commitUndo i v).sampleGone i := by
  have hback : decide ((s.inst i).sample = .committed) = true := decide_eq_true h
  generalize ht : s.dropSample i as = t
  unfold State.dropSample at ht
  extract_lets x back y s0 s1 at ht
  have hb : back = true := hback
  have hx : x.saved = some v := hv
  have hy : y = x.undone v := by
    simp only [y, hb, hx, InstRun.undone]
  have h0 : s0 = s.sampleAged i true ((x.undone v).ended as) := by
    have h0' : s0 = s.sampleAged i back (y.ended as) := rfl
    rw [h0', hb, hy]
  have h1 : s1 = (s.sampleAged i true ((x.undone v).ended as)).commitUndo i v := by
    rw [← h0]
    simp only [s1, hb, hx]
  clear_value s1
  rw [← ht, ← h1]
  rfl

theorem State.dropSample_committed (s : State) (i : Nat) (as : Sample) {v : Saved} (h : (s.inst i).sample = .committed)
    (hv : (s.inst i).saved = some v) (hty : (s.node i).ty < 30) (hh : v.held = false) (hp : v.pts = []) (hc : v.counted = []) :
    s.SampleEnds [0x4004, 0x4006] i (((s.inst i).undone v).ended as) (s.dropSample i as) ∧
      (s.dropSample i as).gr.sigs = (s.ageOuts i true).gr.sigs := by
  obtain ⟨haged, -⟩ := s.sampleAged_shows i true (((s.inst i).undone v).ended as) []
  have hnode : ((s.sampleAged i true (((s.inst i).undone v).ended as)).node i).ty < 30 := by
    have hsame : (s.sampleAged i true (((s.inst i).undone v).ended as)).node i = s.node i := congrArg (fun g : Img => g.nodes.getD i default) haged.img
    rw [hsame]
    exact hty
  rw [State.dropSample_eq_of_committed as h hv]
  have hundo := (State.commitUndo_kept _ i v hnode hh hp hc).mono (cs := [0x4004, 0x4006]) (by decide)
  exact State.sampleEnds_drop true _ (by decide) hundo

/-! The end of a slot -/

/-- Samples that have not committed end one after another. -/
theorem State.each_sampleEnds (f : State → Nat → State)
    (hf : ∀ (u : State) (i : Nat), (u.inst i).sample ≠ .committed → u.SampleEnds [0x4004] i ((u.inst i).ended .missed) (f u i)) (l : List Nat) :
    ∀ s : State, (∀ i ∈ l, (s.inst i).sample ≠ .committed) →
      s.Within [0x4004] (s.each l f) ∧ (s.each l f).sys = s.sys ∧ (s.each l f).flt = s.flt ∧
        (∀ i ∈ l, i < s.gr.insts.length → ((s.each l f).inst i).sample = .missed) ∧ ∀ i, i ∉ l → (s.each l f).inst i = s.inst i := by
  induction l with
  | nil => exact fun s _ => ⟨.refl _ s, rfl, rfl, nofun, fun _ _ => rfl⟩
  | cons p l ih =>
      intro s hdue
      have h := hf s p (hdue p (by simp))
      obtain ⟨h1, h2⟩ := State.inst_set h.insts
      have hlen : (f s p).gr.insts.length = s.gr.insts.length := by
        rw [h.insts, List.length_set]
      have hnext (i : Nat) (hi : i ∈ l) : ((f s p).inst i).sample ≠ .committed := by
        by_cases hp : i = p
        · subst hp
          by_cases hlt : i < s.gr.insts.length
          · rw [h1 hlt]
            exact nofun
          · have hdef : (f s i).inst i = {} := by
              unfold State.inst
              rw [List.getD_eq_default _ _ (by omega)]
            rw [hdef]
            exact nofun
        · rw [h2 i hp]
          exact hdue i (by simp [hi])
      obtain ⟨i1, i2, i3, i4, i5⟩ := ih (f s p) hnext
      refine ⟨h.within.trans i1, i2.trans h.sys, i3.trans h.flt, fun i hi hlt => ?_, fun i hi => ?_⟩
      · by_cases hm : i ∈ l
        · exact i4 i hm (hlen.symm ▸ hlt)
        · obtain rfl : i = p := (List.mem_cons.1 hi).resolve_right hm
          exact congrArg InstRun.sample ((i5 i hm).trans (h1 hlt))
      · rw [List.mem_cons, not_or] at hi
        exact (i5 i hi.2).trans (h2 i hi.1)



/-! ### The end of a slot with samples that did not commit (R95, R99) -/

/-- A raise without an action, and the depths of the queues shown anew. -/
theorem State.raise_refreshQueues {s u : State} {bs : List Nat} (hu : s.Within bs u) (hb : 0x4000 ∉ bs) (hb3 : 0x4003 ∉ bs) (hsys : u.sys = s.sys)
    (hflt : u.flt = s.flt) {n : Nat} (hn : n < 256) (hq : s.Quiet n) (ha : s.asserted n = false) :
    (u.raise n).refreshQueues.sticky n = true ∧ (u.raise n).refreshQueues.mode = s.mode ∧ (u.raise n).refreshQueues.gr = u.gr ∧
      u.Within (0x4005 :: raiseBlocks) (u.raise n).refreshQueues ∧
      ∀ g : Fld, g.addr / 0x10000 ∉ raiseBlocks → g.addr ∉ queueRegs → (u.raise n).refreshQueues.getF g = u.getF g := by
  have hquiet : u.Quiet n := hu.quiet hb hb3 (congrArg Sys.phase hsys) hn hq
  have hc : u.Confined raiseBlocks (u.raise n) := u.confined_raise n none hn hquiet
  have hs : (u.raise n).sticky n = true :=
    u.sticky_raise n none hn hquiet ((State.asserted_of_asserting (State.asserting_congr hflt) n).trans ha)
  obtain ⟨q1, q2, q3⟩ := (u.raise n).refreshQueues_shows
  have hqs : (u.raise n).refreshQueues.sys = (u.raise n).sys := (State.GraphKept.refl [0x4005] _).refreshQueues (by decide) |>.sys
  exact ⟨(State.sticky_within q2 (by decide) hn).trans hs,
    (q2.mode (by decide) (congrArg Sys.phase hqs)).trans ((hc.mode (by decide)).trans (hu.mode hb (congrArg Sys.phase hsys))), q3.trans hc.gr,
    (hc.within.mono fun x hx => List.mem_cons_of_mem _ hx).trans (q2.mono (by decide)),
    fun g hg hqg => (State.getF_congr (q1 _ hqg)).trans (hc.getF g hg)⟩

/-- A fold that appends some of the elements it meets lists only these. -/
theorem mem_foldl_of_appends {f : List Nat → Nat → List Nat} (hf : ∀ l i, f l i = l ++ [i] ∨ f l i = l) {rest : List Nat} (l : List Nat) :
    ∀ acc : List Nat, (∀ i ∈ acc, i ∈ rest) → (∀ i ∈ l, i ∈ rest) → ∀ i ∈ l.foldl f acc, i ∈ rest := by
  induction l with
  | nil => exact fun _ hacc _ => hacc
  | cons p l ih =>
      intro acc hacc hl
      refine ih (f acc p) (fun i hi => ?_) fun i hi => hl i (by simp [hi])
      rcases hf acc p with h | h <;> rw [h] at hi
      · rcases List.mem_append.1 hi with h | h
        · exact hacc i h
        · exact hl i (by simp [List.mem_singleton.1 h])
      · exact hacc i hi

theorem State.missing_subset (s : State) (r : Nat) : ∀ i ∈ s.missing r, i ∈ s.ofRate r := by
  unfold State.missing
  refine mem_foldl_of_appends (fun l i => ?_) _ _ nofun fun i hi => hi
  dsimp only
  split_ifs
  · exact .inl rfl
  · exact .inl rfl
  · exact .inr rfl

theorem State.missing_lt (s : State) (r : Nat) : ∀ i ∈ s.missing r, i < s.img.nodes.length :=
  fun i hi => List.mem_range.1 (List.mem_filter.1 (s.missing_subset r i hi)).1

/-- A slot that ends with samples missing records them, ends them and raises DEADLINE_MISS. -/
theorem State.deadlineMiss_due {s : State} {k sc : Nat} (hr : s.sys.phase = .run) (hrun : s.flag F.HOB_STATUS_RUNNING = true) (hk : k < 5)
    (hs : s.gr.s = some sc) (hend : k ∈ slotsEnding sc s.gr.j) (hopen : s.gr.open_.getD k false = true) (hskip : s.gr.skip.getD k false = false) :
    exec (.deadlineMiss k) s = .next (if s.missing k = [] then s.refreshQueues
      else (((s.missRecord k (s.missing k)).each (s.missing k) (fun s i => s.dropSample i .missed)).raise (0x2A + k)).refreshQueues) := by
  have hcond : (s.running && s.flag F.HOB_STATUS_RUNNING && decide (k < 5) &&
      (s.gr.s.map (fun sc => (slotsEnding sc s.gr.j).contains k)).getD false) = true := by
    rw [State.running_of_run hr, hrun, hs, decide_eq_true hk]
    simpa using hend
  have hclass : s.missClass k = if s.missing k = [] then s
      else ((s.missRecord k (s.missing k)).each (s.missing k) (fun s i => s.dropSample i .missed)).raise (0x2A + k) := by
    unfold State.missClass
    rw [hopen, hskip]
    simp only [List.isEmpty_iff, Bool.not_true, Bool.false_eq_true, if_false]
    rfl
  have hexec : exec (.deadlineMiss k) s = .next (s.deadlineMiss k) := rfl
  rw [hexec, State.deadlineMiss, if_pos hcond, hclass]
  split <;> rfl

theorem queueRegs_missed {g : Fld} (hg : g = F.HOB_STATUS_MISS_SEEN ∨ g = F.HOB_MISS_CNT_COUNT) : g.addr / 0x10000 ∉ raiseBlocks ∧
    g.addr ∉ queueRegs ∧ g.addr / 0x10000 ∉ [0x4004, 0x4006] := by
  rcases hg with rfl | rfl <;> exact ⟨by decide, queueRegs_apart (by decide), by decide⟩

/-- Samples that were never committed: they are counted and end as missed. -/
theorem State.deadlineMiss_uncommitted {s : State} {k : Nat} (hk : k < 5) (hn : s.img.nodes.length ≤ 8192) (hne : s.missing k ≠ [])
    (hdue : ∀ i ∈ s.missing k, (s.inst i).sample ≠ .committed) (hq : s.Quiet (0x2A + k)) (ha : s.asserted (0x2A + k) = false) {t : State}
    (ht : (((s.missRecord k (s.missing k)).each (s.missing k) (fun s i => s.dropSample i .missed)).raise (0x2A + k)).refreshQueues = t) :
    t.sticky (0x2A + k) = true ∧ t.flag F.HOB_STATUS_MISS_SEEN = true ∧
      t.getF F.HOB_MISS_CNT_COUNT = min (2 ^ 32 - 1) (s.getF F.HOB_MISS_CNT_COUNT + (s.missing k).length) ∧
      (∀ i ∈ s.missing k, i < s.gr.insts.length → (t.inst i).sample = .missed) ∧ (∀ i, i ∉ s.missing k → t.inst i = s.inst i) ∧
      t.mode = s.mode ∧ s.Within (0x4004 :: 0x4005 :: raiseBlocks) t := by
  obtain ⟨m1, m2, m3⟩ := s.missRecord_shows hk (fun i hi => (s.missing_lt k i hi).trans_le hn) hne
  have hinst (i : Nat) : (s.missRecord k (s.missing k)).inst i = s.inst i := m1.inst i
  generalize s.missRecord k (s.missing k) = u at m1 m2 m3 hinst ht
  obtain ⟨e1, e2, e3, e4, e5⟩ := State.each_sampleEnds (fun s i => s.dropSample i .missed) (fun u i h => u.dropSample_due i .missed h) (s.missing k) u
    fun i hi => (congrArg InstRun.sample (hinst i)).trans_ne (hdue i hi)
  generalize u.each (s.missing k) (fun s i => s.dropSample i .missed) = v at e1 e2 e3 e4 e5 ht
  have hv : s.Within [0x4004, 0x4005] v := (m1.within.mono (by decide)).trans (e1.mono (by decide))
  obtain ⟨r1, r2, r3, r4, r5⟩ := State.raise_refreshQueues hv (by decide) (by decide) (e2.trans m1.sys) (e3.trans m1.flt) (by omega) hq ha
  rw [ht] at r1 r2 r3 r4 r5
  have hti (i : Nat) : t.inst i = v.inst i := congrArg (fun g : Gr => g.insts.getD i default) r3
  have hkeep (g : Fld) (hg : g = F.HOB_STATUS_MISS_SEEN ∨ g = F.HOB_MISS_CNT_COUNT) : t.getF g = u.getF g := by
    obtain ⟨g1, g2, g3⟩ := queueRegs_missed hg
    exact (r5 g g1 g2).trans (e1.getF g fun hm => g3 (by simp [List.mem_singleton.1 hm]))
  refine ⟨r1, (State.flag_congr (hkeep _ (.inl rfl))).trans m2, (hkeep _ (.inr rfl)).trans m3, fun i hi hlt => ?_, fun i hi => ?_, r2,
    (hv.mono (by decide)).trans (r4.mono (by decide))⟩
  · rw [hti]
    exact e4 i hi (m1.gr ▸ hlt)
  · rw [hti, e5 i hi, hinst]

theorem State.each_one {α : Type} (s : State) (f : State → α → State) (i : α) : s.each [i] f = f s i := rfl

/-- A sample that has committed gives back what it changed (R95). -/
theorem State.deadlineMiss_committed {s : State} {k i : Nat} {v : Saved} (hk : k < 5) (hn : s.img.nodes.length ≤ 8192) (hl : s.missing k = [i])
    (hi : i < s.gr.insts.length) (hcom : (s.inst i).sample = .committed) (hv : (s.inst i).saved = some v) (hty : (s.node i).ty < 30)
    (hh : v.held = false) (hp : v.pts = []) (hc : v.counted = []) (hq : s.Quiet (0x2A + k)) (ha : s.asserted (0x2A + k) = false) {t : State}
    (ht : (((s.missRecord k [i]).each [i] (fun s i => s.dropSample i .missed)).raise (0x2A + k)).refreshQueues = t) :
    t.sticky (0x2A + k) = true ∧ (t.inst i).sample = .missed ∧ (t.inst i).st = v.st ∧
      (∀ m ∈ (s.node i).outs, m < s.gr.sigs.length → (t.sig m).v = (s.sig m).pv ∧ (t.sig m).age = true) ∧
      t.mode = s.mode ∧ s.Within (0x4004 :: 0x4005 :: 0x4006 :: raiseBlocks) t := by
  obtain ⟨m1, -, -⟩ := s.missRecord_shows hk (l := [i]) (fun j hj => (s.missing_lt k j (hl ▸ hj)).trans_le hn) (by simp)
  have hinst : (s.missRecord k [i]).inst i = s.inst i := m1.inst i
  have hnode : (s.missRecord k [i]).node i = s.node i := congrArg (fun g : Img => g.nodes.getD i default) m1.img
  have hone : (s.missRecord k [i]).each [i] (fun s i => s.dropSample i .missed) = (s.missRecord k [i]).dropSample i .missed :=
    State.each_one _ _ _
  rw [hone] at ht
  generalize s.missRecord k [i] = u at m1 hinst hnode ht
  obtain ⟨hend, hsigs⟩ := u.dropSample_committed i .missed (v := v) (by rw [hinst]; exact hcom) (by rw [hinst]; exact hv)
    (by rw [hnode]; exact hty) hh hp hc
  generalize u.dropSample i .missed = w at hend hsigs ht
  have hw : s.Within [0x4004, 0x4005, 0x4006] w := (m1.within.mono (by decide)).trans (hend.within.mono (by decide))
  obtain ⟨r1, r2, r3, r4, -⟩ := State.raise_refreshQueues hw (by decide) (by decide) (hend.sys.trans m1.sys) (hend.flt.trans m1.flt) (by omega) hq ha
  rw [ht] at r1 r2 r3 r4
  have hti : t.inst i = ((u.inst i).undone v).ended .missed :=
    (congrArg (fun g : Gr => g.insts.getD i default) r3).trans ((State.inst_set hend.insts).1 (m1.gr ▸ hi))
  have hsig (m : Nat) : t.sig m = (u.ageOuts i true).sig m :=
    congrArg (fun l : List SigRun => l.getD m default) ((congrArg Gr.sigs r3).trans hsigs)
  refine ⟨r1, congrArg InstRun.sample hti, congrArg InstRun.st hti, fun m hm hlt => ?_, r2, (hw.mono (by decide)).trans (r4.mono (by decide))⟩
  rw [hsig, u.ageOuts_eq i true, hnode]
  obtain ⟨j1, j2⟩ := (u.each_ageOut true (s.node i).outs).2 m hm (m1.gr ▸ hlt) rfl
  exact ⟨j1.trans (congrArg SigRun.pv (m1.sig m)), j2⟩

/-- Settles O43, by what the commit writes and by the samples that end at the end of their slot, committed or not. -/
theorem commitAndMiss : Obligations.CommitAndMiss := by
  unfold Obligations.CommitAndMiss
  intro s hr hrun
  refine ⟨fun i slack wait hm => ?_, fun i w slack wait hm ha hty hw hq hi hcause => ?_, fun k sc hk hs hend hopen hskip hn => ?_⟩
  · rw [State.commit_due i slack wait hr hrun, hm]
    rfl
  · obtain ⟨d, hmode, hwith⟩ := State.commit_shows slack wait ha hty hw hq hi hcause
    rw [State.commit_due i slack wait hr hrun, if_pos hm]
    exact ⟨_, rfl, d.st, d.sample, hmode, d.outs, d.sigs, d.others, hwith.1, hwith.2⟩
  · have hexec := State.deadlineMiss_due hr hrun hk hs hend hopen hskip
    refine ⟨fun hnone => ?_, fun hne hdue hq ha => ?_, fun i v hl hcom hv hi hty hh hp hc hq ha => ?_⟩
    · rw [if_pos hnone] at hexec
      obtain ⟨-, q2, q3⟩ := s.refreshQueues_shows
      exact ⟨_, hexec, q3, q2.1, q2.2⟩
    · rw [if_neg hne] at hexec
      obtain ⟨a1, a2, a3, a4, a5, a6, a7⟩ := State.deadlineMiss_uncommitted hk hn hne hdue hq ha rfl
      exact ⟨_, hexec, a1, a2, a3, a4, a5, a6, a7.1, a7.2⟩
    · rw [if_neg (by rw [hl]; simp), hl] at hexec
      obtain ⟨a1, a2, a3, a4, a5, a6⟩ := State.deadlineMiss_committed hk hn hl hi hcom hv hty hh hp hc hq ha rfl
      exact ⟨_, hexec, a1, a2, a3, a4, a5, a6.1, a6.2⟩

end Sys2Proof.Machine
end

section
/-!
# The rolling test
-/
namespace Sys2Proof.Machine

open Sys2Proof

/-! ### Discarding staged work (R93) -/

/-- A copy that has not committed loses its staged work. -/
def State.copyGone (s : State) (c : Nat × Bool) : State :=
  let x := s.inst c.1
  if x.sample = .due then s.setInst c.1 (if c.2 then { x with b := none } else { x with a := none }) else s

/-- The state in which hobs still run on copies of a list, marked as late. -/
def State.lateCopies (s : State) (l : List (Nat × Bool)) : State :=
  { s with gr := { s.gr with exec := s.gr.exec.map (fun e => if l.contains (e.inst, e.copyB) then { e with late := true } else e) } }

theorem State.discardCopies_eq (s : State) (l : List (Nat × Bool)) :
    s.discardCopies l =
      ((((s.each (s.dependants l) State.copyGone).lateCopies (s.dependants l)).dropWrites (s.dependants l)).refreshQueues) := rfl

/-- A record that keeps all but staged work, which it keeps or loses. -/
structure InstRun.Unstaged (r x : InstRun) : Prop where
  rest : x = { r with a := x.a, b := x.b }
  a : x.a = none ∨ x.a = r.a
  b : x.b = none ∨ x.b = r.b

theorem InstRun.Unstaged.refl (r : InstRun) : r.Unstaged r := ⟨rfl, .inr rfl, .inr rfl⟩

theorem InstRun.Unstaged.trans {r x y : InstRun} (h : r.Unstaged x) (k : x.Unstaged y) : r.Unstaged y := by
  obtain ⟨h1, h2, h3⟩ := h
  obtain ⟨k1, k2, k3⟩ := k
  refine ⟨?_, ?_, ?_⟩
  · rw [k1, h1]
  · rcases k2 with k | k
    · exact .inl k
    · rw [k]
      exact h2
  · rcases k3 with k | k
    · exact .inl k
    · rw [k]
      exact h3

theorem InstRun.Unstaged.sample {r x : InstRun} (h : r.Unstaged x) : x.sample = r.sample := by
  rw [h.rest]

theorem InstRun.Unstaged.retried {r x : InstRun} (h : r.Unstaged x) : x.retried = r.retried := by
  rw [h.rest]

theorem State.copyGone_shows (s : State) (c : Nat × Bool) :
    (∃ l, l.length = s.gr.insts.length ∧ s.copyGone c = { s with gr := { s.gr with insts := l } }) ∧
      (∀ i, (s.inst i).Unstaged ((s.copyGone c).inst i)) ∧
      ((s.inst c.1).sample = .due → (if c.2 = true then ((s.copyGone c).inst c.1).b else ((s.copyGone c).inst c.1).a) = none) := by
  have hstay (h : (s.inst c.1).sample ≠ .due) : s.copyGone c = s := if_neg h
  have hgone (h : (s.inst c.1).sample = .due) : s.copyGone c =
      s.setInst c.1 (if c.2 then { s.inst c.1 with b := none } else { s.inst c.1 with a := none }) := if_pos h
  by_cases h : (s.inst c.1).sample = .due
  · rw [hgone h]
    have hun : (s.inst c.1).Unstaged (if c.2 then { s.inst c.1 with b := none } else { s.inst c.1 with a := none }) := by
      cases c.2
      · exact ⟨rfl, .inl rfl, .inr rfl⟩
      · exact ⟨rfl, .inr rfl, .inl rfl⟩
    have hnone : (if c.2 = true then (if c.2 then { s.inst c.1 with b := none } else { s.inst c.1 with a := none } : InstRun).b
        else (if c.2 then { s.inst c.1 with b := none } else { s.inst c.1 with a := none } : InstRun).a) = none := by
      cases c.2 <;> rfl
    generalize (if c.2 then { s.inst c.1 with b := none } else { s.inst c.1 with a := none } : InstRun) = x at hun hnone ⊢
    obtain ⟨h1, h2⟩ := State.inst_set (s := s) (t := s.setInst c.1 x) (i := c.1) (r := x) rfl
    have hbeyond (hlt : ¬c.1 < s.gr.insts.length) : (s.setInst c.1 x).inst c.1 = {} ∧ s.inst c.1 = {} := by
      unfold State.inst
      rw [List.getD_eq_default _ _ (by have := List.length_set (as := s.gr.insts) (i := c.1) (a := x); exact this.le.trans (by omega)),
        List.getD_eq_default _ _ (by omega)]
      exact ⟨rfl, rfl⟩
    refine ⟨⟨_, List.length_set, rfl⟩, fun i => ?_, fun _ => ?_⟩
    · by_cases hi : i = c.1
      · subst hi
        by_cases hlt : c.1 < s.gr.insts.length
        · rw [h1 hlt]
          exact hun
        · rw [(hbeyond hlt).1, (hbeyond hlt).2]
          exact .refl _
      · rw [h2 i hi]
        exact .refl _
    · by_cases hlt : c.1 < s.gr.insts.length
      · rw [h1 hlt]
        exact hnone
      · rw [(hbeyond hlt).1]
        cases c.2 <;> rfl
  · rw [hstay h]
    exact ⟨⟨_, rfl, rfl⟩, fun i => .refl _, fun hd => absurd hd h⟩

theorem State.each_copyGone (l : List (Nat × Bool)) : ∀ s : State,
    (∃ x, x.length = s.gr.insts.length ∧ s.each l State.copyGone = { s with gr := { s.gr with insts := x } }) ∧
      (∀ i, (s.inst i).Unstaged ((s.each l State.copyGone).inst i)) ∧
      ∀ c ∈ l, (s.inst c.1).sample = .due →
        (if c.2 = true then ((s.each l State.copyGone).inst c.1).b else ((s.each l State.copyGone).inst c.1).a) = none := by
  induction l with
  | nil => exact fun s => ⟨⟨_, rfl, rfl⟩, fun i => .refl _, nofun⟩
  | cons p l ih =>
      intro s
      obtain ⟨⟨x, hx, hs⟩, h2, h3⟩ := s.copyGone_shows p
      have hcons : s.each (p :: l) State.copyGone = (s.copyGone p).each l State.copyGone := rfl
      rw [hcons]
      obtain ⟨⟨y, hy, hrest⟩, i2, i3⟩ := ih (s.copyGone p)
      refine ⟨⟨y, ?_, ?_⟩, fun i => (h2 i).trans (i2 i), fun c hc hd => ?_⟩
      · rw [hy, hs]
        exact hx
      · rw [hrest, hs]
      · by_cases hm : c ∈ l
        · exact i3 c hm ((h2 c.1).sample.trans hd)
        · obtain rfl : c = p := (List.mem_cons.1 hc).resolve_right hm
          have hnone := h3 hd
          have hun := i2 c.1
          cases hb : c.2
          · rw [hb] at hnone
            exact hun.a.elim id fun h => h.trans hnone
          · rw [hb] at hnone
            exact hun.b.elim id fun h => h.trans hnone

/-- What discarding copies changes. -/
structure State.CopiesGone (s : State) (l : List (Nat × Bool)) (t : State) : Prop where
  within : s.Within [0x4004, 0x4005] t
  regs : ∀ a, a ∉ queueRegs → a / 0x10000 ≠ 0x4004 → t.reg a = s.reg a
  sys : t.sys = s.sys
  flt : t.flt = s.flt
  img : t.img = s.img
  insts : t.gr.insts.length = s.gr.insts.length
  inst : ∀ i, (s.inst i).Unstaged (t.inst i)
  gone : ∀ c ∈ s.dependants l, (s.inst c.1).sample = .due → (if c.2 = true then (t.inst c.1).b else (t.inst c.1).a) = none

theorem State.discardCopies_shows (s : State) (l : List (Nat × Bool)) : s.CopiesGone l (s.discardCopies l) := by
  rw [s.discardCopies_eq l]
  obtain ⟨⟨x, hx, hs⟩, h2, h3⟩ := s.each_copyGone (s.dependants l)
  generalize s.each (s.dependants l) State.copyGone = u at hs h2 h3
  have hu : s.Within [0x4004, 0x4005] (u.lateCopies (s.dependants l)) ∧ (u.lateCopies (s.dependants l)).sys = s.sys ∧
      (u.lateCopies (s.dependants l)).flt = s.flt ∧ (u.lateCopies (s.dependants l)).img = s.img ∧
      (u.lateCopies (s.dependants l)).gr.insts = u.gr.insts ∧ (u.lateCopies (s.dependants l)).regs = s.regs := by
    rw [hs]
    exact ⟨(State.Within.refl _ s).hidden .., rfl, rfl, rfl, rfl, rfl⟩
  have hlen : u.gr.insts.length = s.gr.insts.length := by
    rw [hs]
    exact hx
  generalize u.lateCopies (s.dependants l) = v at hu
  obtain ⟨u1, u2, u3, u4, u5, u6⟩ := hu
  have hd := v.dropWrites_kept (s.dependants l)
  generalize v.dropWrites (s.dependants l) = w at hd
  obtain ⟨q1, q2, q3⟩ := w.refreshQueues_shows
  have hq := (State.GraphKept.refl [0x4005] w).refreshQueues (by decide)
  have hinst (i : Nat) : w.refreshQueues.inst i = u.inst i := congrArg (fun l : List InstRun => l.getD i default)
    ((congrArg Gr.insts (q3.trans hd.gr)).trans u5)
  refine ⟨(u1.trans (hd.within.mono (by decide))).trans (q2.mono (by decide)), fun a ha hb => ?_, hq.sys.trans (hd.sys.trans u2),
    hq.flt.trans (hd.flt.trans u3), hq.img.trans (hd.img.trans u4), ?_, fun i => ?_, fun c hc hdue => ?_⟩
  · refine (q1 a ha).trans ((hd.within.1 a (by simpa using hb)).trans ?_)
    unfold State.reg
    rw [u6]
  · rw [q3, hd.gr, u5, hlen]
  · rw [hinst]
    exact h2 i
  · rw [hinst]
    exact h3 c hc hdue

/-- A fold that only appends keeps what it has. -/
theorem mem_foldl_of_mem {α : Type} {f : List α → α → List α} (hf : ∀ l i, f l i = l ++ [i] ∨ f l i = l) {x : α} (l : List α) :
    ∀ acc : List α, x ∈ acc → x ∈ l.foldl f acc := by
  induction l with
  | nil => exact fun _ h => h
  | cons p l ih =>
      intro acc h
      refine ih _ ?_
      rcases hf acc p with he | he <;> rw [he]
      · exact List.mem_append_left _ h
      · exact h

/-- A fold that appends an element whenever it meets it lists it. -/
theorem mem_foldl_of_append {α : Type} {f : List α → α → List α} (hf : ∀ l i, f l i = l ++ [i] ∨ f l i = l) {x : α}
    (hx : ∀ l, f l x = l ++ [x]) (l : List α) : ∀ acc : List α, x ∈ l → x ∈ l.foldl f acc := by
  induction l with
  | nil => exact nofun
  | cons p l ih =>
      intro acc h
      by_cases hm : x ∈ l
      · exact ih _ hm
      · obtain rfl : x = p := (List.mem_cons.1 h).resolve_right hm
        exact mem_foldl_of_mem hf l _ ((hx acc).symm ▸ List.mem_append_right _ (List.mem_singleton.2 rfl))

theorem State.mem_dependants (s : State) {l : List (Nat × Bool)} {c : Nat × Bool} (hc : c ∈ l) (hi : c.1 < s.img.nodes.length) :
    c ∈ s.dependants l := by
  unfold State.dependants
  refine mem_foldl_of_append (fun acc x => ?_) (fun acc => ?_) _ _ ?_
  · split_ifs
    · exact .inl rfl
    · exact .inl rfl
    · exact .inr rfl
  · exact if_pos (List.contains_iff_mem.2 hc)
  · obtain ⟨i, b⟩ := c
    exact List.mem_flatMap.2 ⟨i, List.mem_range.2 hi, by cases b <;> simp⟩



/-! ### The rolling test of a hob (R510, R511) -/

/-- The registers of one hob and of the halves lie apart. -/
theorem hobRegs_apart {n h : Nat} (hn : n < 64) (hh : h < 2) :
    (F.HOB_ENGINE_STATE n).addr / 0x10000 = 0x4005 ∧ 0x40050040 ≤ (F.HOB_ENGINE_STATE n).addr ∧
      (F.SYS_CLUSTER_HOB_IN_SERVICE (n / 8)).addr / 0x10000 = 0x4000 ∧ (F.SYS_HALF_ROLLING_BIST h).addr / 0x10000 = 0x4000 ∧
      (F.SYS_CLUSTER_HOB_IN_SERVICE (n / 8)).addr ≠ (F.SYS_HALF_ROLLING_BIST h).addr ∧
      (F.HOB_ENGINE_STATE n).addr ≠ F.HOB_STATUS_HOBS_IN_SERVICE.addr := by
  simp only [F.HOB_ENGINE_STATE, F.SYS_CLUSTER_HOB_IN_SERVICE, F.SYS_HALF_ROLLING_BIST, F.HOB_STATUS_HOBS_IN_SERVICE]
  omega

theorem State.hobService_shows (s : State) {n : Nat} (hn : n < 64) (b : Bool) :
    s.Within [0x4000, 0x4005] (s.hobService n b) ∧ bit ((s.hobService n false).getF (F.SYS_CLUSTER_HOB_IN_SERVICE (n / 8))) (n % 8) = false ∧
      ∀ g : Fld, g.addr ≠ (F.SYS_CLUSTER_HOB_IN_SERVICE (n / 8)).addr → g.addr ≠ F.HOB_STATUS_HOBS_IN_SERVICE.addr →
        (s.hobService n b).getF g = s.getF g := by
  obtain ⟨-, -, hc, -, -, -⟩ := hobRegs_apart hn (h := 0) (by decide)
  have hne : F.HOB_STATUS_HOBS_IN_SERVICE.addr ≠ (F.SYS_CLUSTER_HOB_IN_SERVICE (n / 8)).addr := by
    intro he
    rw [← he] at hc
    exact absurd hc (by decide)
  have hw (w : Nat) : (w - w / 2 ^ (n % 8) % 2 * 2 ^ (n % 8)) ≤ w := Nat.sub_le _ _
  unfold State.hobService State.refreshHobs
  dsimp only
  refine ⟨((State.Within.refl _ s).setF _ _ (by rw [hc]; decide)).setF _ _ (by decide), ?_, fun g h1 h2 => ?_⟩
  · have hlt := s.getF_lt (F.SYS_CLUSTER_HOB_IN_SERVICE (n / 8))
    rw [State.getF_setF_other _ _ _ _ hne, State.getF_setF_same _ _ _ (by rfl), if_neg (by decide)]
    rw [Nat.mod_eq_of_lt (lt_of_le_of_lt (hw _) hlt)]
    exact bit_clear _ _
  · rw [State.getF_setF_other _ _ _ _ h2.symm, State.getF_setF_other _ _ _ _ h1.symm]

/-- A hob that enters its test (R510). -/
theorem State.rollEnter_shows (s : State) {n : Nat} (hn : n < 64) {t : State} (ht : s.rollEnter n = t) :
    t.getF (F.HOB_ENGINE_STATE n) = 2 ∧ t.flag (F.SYS_HALF_ROLLING_BIST (n / 32)) = true ∧ t.getF (F.SYS_HALF_ROLLING_HOB (n / 32)) = n ∧
      bit (t.getF (F.SYS_CLUSTER_HOB_IN_SERVICE (n / 8))) (n % 8) = false ∧ s.Within [0x4000, 0x4005] t := by
  obtain ⟨a1, a2, a3, a4, a5, a6⟩ := hobRegs_apart hn (h := n / 32) (by omega)
  unfold State.rollEnter at ht
  extract_lets src s1 at ht
  have h1 : s.Within [0x4000, 0x4005] s1 := (State.Within.refl _ s).hidden ..
  clear_value s1
  obtain ⟨b1, b2, b3⟩ := (s1.setF (F.HOB_ENGINE_STATE n) 2).hobService_shows hn false
  have he : ((s1.setF (F.HOB_ENGINE_STATE n) 2).hobService n false).getF (F.HOB_ENGINE_STATE n) = 2 := by
    rw [b3 _ (fun he => by rw [he, a3] at a1; exact absurd a1 (by decide)) a6, State.getF_setF_same _ _ _ (by rfl)]
    rfl
  have hw := (h1.setF (F.HOB_ENGINE_STATE n) 2 (by rw [a1]; decide)).trans b1
  generalize (s1.setF (F.HOB_ENGINE_STATE n) 2).hobService n false = u at ht he b2 hw
  have hadr : (F.SYS_HALF_ROLLING_HOB (n / 32)).addr = (F.SYS_HALF_ROLLING_BIST (n / 32)).addr := rfl
  have hkeep (g : Fld) (hg : (F.SYS_HALF_ROLLING_BIST (n / 32)).addr ≠ g.addr) : t.getF g = u.getF g := by
    rw [← ht]
    exact (State.getF_setF_other _ _ _ _ hg).trans (State.getF_setF_other _ _ _ _ hg)
  refine ⟨(hkeep _ fun h => ?_).trans he, ?_, ?_, ?_, ?_⟩
  · rw [← h, a4] at a1
    exact absurd a1 (by decide)
  · rw [← ht]
    exact State.flag_setFlag_same _ _ _ (by rfl)
  · rw [← ht, State.getF_setFlag_apart _ _ _ _ (by rfl) (by simp [Fld.apart, F.SYS_HALF_ROLLING_BIST, F.SYS_HALF_ROLLING_HOB]),
      State.getF_setF_same _ _ _ (by rfl)]
    have hwid : 2 ^ (F.SYS_HALF_ROLLING_HOB (n / 32)).width = 64 := rfl
    rw [hwid]
    omega
  · rw [hkeep _ a5.symm]
    exact b2
  · rw [← ht]
    exact (hw.setF _ _ (by rw [hadr, a4]; decide)).setFlag _ _ (by rw [a4]; decide)

/-- The registers of the rolling test (R511). -/
def rollRegs : List Nat := [F.BST_ROLL_CNT_COUNT.addr, F.BST_ROLL_LAST_HOB.addr]

/-- A test that has ended is counted and shown. -/
def State.rollCounted (s : State) (n res : Nat) : State :=
  ((s.incF F.BST_ROLL_CNT_COUNT).setF F.BST_ROLL_LAST_HOB n).setF F.BST_ROLL_LAST_RESULT res

theorem State.rollCounted_shows (s : State) {n res : Nat} (hn : n < 64) (hres : res < 4) :
    (s.rollCounted n res).getF F.BST_ROLL_CNT_COUNT = min (2 ^ 32 - 1) (s.getF F.BST_ROLL_CNT_COUNT + 1) ∧
      (s.rollCounted n res).getF F.BST_ROLL_LAST_HOB = n ∧ (s.rollCounted n res).getF F.BST_ROLL_LAST_RESULT = res ∧
      s.OnlyRegs rollRegs (s.rollCounted n res) ∧ s.GraphKept [0x4015] (s.rollCounted n res) := by
  unfold State.rollCounted
  refine ⟨?_, ?_, ?_, (((State.OnlyRegs.refl _ s).setF F.BST_ROLL_CNT_COUNT _ (by decide)).setF F.BST_ROLL_LAST_HOB _ (by decide)).setF
    F.BST_ROLL_LAST_RESULT _ (by decide), (((State.GraphKept.refl _ s).incF _ (by decide)).setF _ _ (by decide)).setF _ _ (by decide)⟩
  · rw [State.getF_setF_other _ _ _ _ (by decide), State.getF_setF_other _ _ _ _ (by decide), State.getF_incF_same _ _ (by decide)]
    rfl
  · rw [State.getF_setF_apart _ _ _ _ (by decide) (by decide), State.getF_setF_same _ _ _ (by decide)]
    exact Nat.mod_eq_of_lt hn
  · rw [State.getF_setF_same _ _ _ (by decide)]
    exact Nat.mod_eq_of_lt hres

/-- The end of a test that gives the hob back, or finds its cluster retired. -/
theorem State.rollLeave_shows (s : State) {h : Nat} (hh : h < 2) :
    s.Within [0x4000, 0x4005] (s.rollLeave h) ∧ (s.rollLeave h).flag (F.SYS_HALF_ROLLING_BIST h) = false := by
  have hn : s.getF (F.SYS_HALF_ROLLING_HOB h) < 64 := s.getF_lt _
  unfold State.rollLeave
  dsimp only
  generalize s.getF (F.SYS_HALF_ROLLING_HOB h) = n at hn ⊢
  obtain ⟨a1, a2, a3, a4, a5, a6⟩ := hobRegs_apart hn hh
  have h1 : s.Within [0x4000, 0x4005] (s.setFlag (F.SYS_HALF_ROLLING_BIST h) false) := (State.Within.refl _ s).setFlag _ _ (by rw [a4]; decide)
  have h2 : (s.setFlag (F.SYS_HALF_ROLLING_BIST h) false).flag (F.SYS_HALF_ROLLING_BIST h) = false := State.flag_setFlag_same _ _ _ (by rfl)
  generalize s.setFlag (F.SYS_HALF_ROLLING_BIST h) false = u at h1 h2 ⊢
  have hother : ∀ x : Nat, x / 0x10000 = 0x4005 → (F.SYS_HALF_ROLLING_BIST h).addr ≠ x := fun x hx he => by
    rw [← he, a4] at hx
    exact absurd hx (by decide)
  split
  · exact ⟨h1, h2⟩
  · obtain ⟨b1, -, b3⟩ := (u.setF (F.HOB_ENGINE_STATE n) 0).hobService_shows hn true
    refine ⟨(h1.setF _ _ (by rw [a1]; decide)).trans b1, (State.flag_congr ?_).trans h2⟩
    rw [b3 _ a5.symm (hother _ (by decide)), State.getF_setF_other _ _ _ _ (hother _ a1).symm]

/-- A test that passes, or whose failure the repeat does not confirm. -/
theorem State.rollEnd_passed {s : State} {h : Nat} (hr : s.sys.phase = .run) (hh : h < 2) (hf : s.flag (F.SYS_HALF_ROLLING_BIST h) = true)
    (pass1 pass2 : Bool) (hp : pass1 = true ∨ pass2 = true) {t : State} (ht : s.rollEnd h pass1 pass2 = t) :
    t.flag (F.SYS_HALF_ROLLING_BIST h) = false ∧ t.getF F.BST_ROLL_CNT_COUNT = min (2 ^ 32 - 1) (s.getF F.BST_ROLL_CNT_COUNT + 1) ∧
      t.getF F.BST_ROLL_LAST_HOB = s.getF (F.SYS_HALF_ROLLING_HOB h) ∧ t.getF F.BST_ROLL_LAST_RESULT = (if pass1 = true then 1 else 2) ∧
      t.getF F.BST_ROLL_TRANSIENT_CNT_COUNT =
        min (2 ^ 32 - 1) (s.getF F.BST_ROLL_TRANSIENT_CNT_COUNT + (if pass1 = true then 0 else 1)) ∧
      s.Within [0x4000, 0x4005, 0x4014, 0x4015] t := by
  have hn : s.getF (F.SYS_HALF_ROLLING_HOB h) < 64 := s.getF_lt _
  have hcond : (!s.running || decide (2 ≤ h) || !s.flag (F.SYS_HALF_ROLLING_BIST h)) = false := by
    rw [State.running_of_run hr, hf, decide_eq_false (by omega)]
    rfl
  have hpass : (pass1 || pass2) = true := by simpa using hp
  unfold State.rollEnd at ht
  rw [if_neg (by rw [hcond]; decide)] at ht
  extract_lets n res s1 at ht
  rw [if_pos hpass] at ht
  have hres : res = if pass1 = true then 1 else 2 := by
    rcases hp with rfl | rfl
    · rfl
    · cases pass1 <;> rfl
  have hres4 : res < 4 := by
    rw [hres]
    split <;> decide
  obtain ⟨c1, c2, c3, c4, c5⟩ := s.rollCounted_shows hn hres4
  have h1 : s1 = s.rollCounted (s.getF (F.SYS_HALF_ROLLING_HOB h)) res := rfl
  rw [← h1] at c1 c2 c3 c4 c5
  clear_value s1
  obtain ⟨l1, l2⟩ := s1.rollLeave_shows hh
  generalize s1.rollLeave h = u at l1 l2 ht
  have hu (g : Fld) (hg : g.addr / 0x10000 = 0x4015) : u.getF g = s1.getF g := l1.getF g (by rw [hg]; decide)
  have htested : (u.rollTested n).flag (F.SYS_HALF_ROLLING_BIST h) = false ∧ u.Within [0x4014, 0x4015] (u.rollTested n) ∧
      ∀ g : Fld, F.BST_ROLL_TESTED.addr ≠ g.addr → F.AGE_STATUS_SOUTH_TESTED.addr ≠ g.addr → (u.rollTested n).getF g = u.getF g := by
    obtain ⟨-, -, -, a4, -, -⟩ := hobRegs_apart hn hh
    unfold State.rollTested
    dsimp only
    split
    · refine ⟨(State.flag_congr (State.getF_setF_other _ _ _ _ fun he => ?_)).trans l2, (State.Within.refl _ u).setF _ _ (by decide),
        fun g g1 _ => State.getF_setF_other _ _ _ _ g1⟩
      rw [← he] at a4
      exact absurd a4 (by decide)
    · refine ⟨(State.flag_congr (State.getF_setF_other _ _ _ _ fun he => ?_)).trans l2, (State.Within.refl _ u).setF _ _ (by decide),
        fun g _ g2 => State.getF_setF_other _ _ _ _ g2⟩
      rw [← he] at a4
      exact absurd a4 (by decide)
  generalize u.rollTested n = v at htested ht
  obtain ⟨v1, v2, v3⟩ := htested
  have hv : s.Within [0x4000, 0x4005, 0x4014, 0x4015] v :=
    ((c5.within.mono (by decide)).trans (l1.mono (by decide))).trans (v2.mono (by decide))
  have hget (g : Fld) (hg : g.addr / 0x10000 = 0x4015) (hne : F.BST_ROLL_TESTED.addr ≠ g.addr) (hne' : F.AGE_STATUS_SOUTH_TESTED.addr ≠ g.addr) :
      v.getF g = s1.getF g := (v3 g hne hne').trans (hu g hg)
  have htrans : v.getF F.BST_ROLL_TRANSIENT_CNT_COUNT = s.getF F.BST_ROLL_TRANSIENT_CNT_COUNT :=
    (hget _ (by decide) (by decide) (by decide)).trans (State.getF_congr (c4 _ (by decide)))
  cases pass1
  · rw [Bool.not_false, State.when_true _ _ _ rfl] at ht
    have hev (g : Fld) (hg : Ev.bst.ev.addr ≠ g.addr) (hg' : F.BST_ROLL_TRANSIENT_CNT_COUNT.addr ≠ g.addr) : t.getF g = v.getF g := by
      rw [← ht, State.getF_event_other _ _ _ _ hg, State.getF_incF_other _ _ _ hg']
    refine ⟨(State.flag_congr (hev _ ?_ ?_)).trans v1, ?_, ?_, ?_, ?_, ?_⟩
    iterate 2
      obtain ⟨-, -, -, a4, -, -⟩ := hobRegs_apart hn hh
      intro he
      rw [← he] at a4
      exact absurd a4 (by decide)
    · exact (hev _ (by decide) (by decide)).trans ((hget _ (by decide) (by decide) (by decide)).trans c1)
    · exact (hev _ (by decide) (by decide)).trans ((hget _ (by decide) (by decide) (by decide)).trans c2)
    · exact (hev _ (by decide) (by decide)).trans ((hget _ (by decide) (by decide) (by decide)).trans (c3.trans hres))
    · rw [← ht, State.getF_event_other _ _ _ _ (by decide), State.getF_incF_same _ _ (by decide), htrans]
      rfl
    · rw [← ht]
      exact (hv.incF _ (by decide)).event _ _ (by decide)
  · rw [Bool.not_true, State.when_false] at ht
    rw [← ht]
    refine ⟨v1, (hget _ (by decide) (by decide) (by decide)).trans c1, (hget _ (by decide) (by decide) (by decide)).trans c2,
      (hget _ (by decide) (by decide) (by decide)).trans (c3.trans hres), htrans.trans ?_, hv⟩
    have hlt : s.getF F.BST_ROLL_TRANSIENT_CNT_COUNT < 2 ^ 32 := s.getF_lt _
    rw [if_pos rfl]
    omega

theorem State.GraphKept.event {bs : List Nat} {r s : State} (h : r.GraphKept bs s) (e : EvBlk) (b : Nat) (hb : e.ev.addr / 0x10000 ∈ bs) :
    r.GraphKept bs (s.event e b) := by
  unfold State.event
  dsimp only
  split
  · exact (h.setF _ _ hb).marker _ _ _
  · exact h.setF _ _ hb

/-- A hob taken out: its work is discarded, its engine shows the state given. -/
theorem State.hobOut_shows (s : State) {n st : Nat} (hn : n < 64) (hst : st < 4) :
    s.Within [0x4004, 0x4005] (s.hobOut n st) ∧ (s.hobOut n st).sys = s.sys ∧ (s.hobOut n st).flt = s.flt ∧
      (s.hobOut n st).getF (F.HOB_ENGINE_STATE n) = st ∧
      ∀ m, m < 64 → m ≠ n → (s.hobOut n st).getF (F.HOB_ENGINE_STATE m) = s.getF (F.HOB_ENGINE_STATE m) := by
  generalize ht : s.hobOut n st = t
  unfold State.hobOut at ht
  extract_lets staged own s1 at ht
  have h1 : s.CopiesGone _ s1 := s.discardCopies_shows _
  clear_value s1 own
  generalize hu : ({ s1 with gr := { s1.gr with exec := s1.gr.exec.filter (fun x => decide (x.hob ≠ n)) },
                             age := { s1.age with rollDue := s1.age.rollDue.filter (fun m => decide (m ≠ n)) } } : State) = u at ht
  have hw : s.Within [0x4004, 0x4005] u := hu ▸ h1.within.hidden ..
  have hsys : u.sys = s.sys := hu ▸ h1.sys
  have hflt : u.flt = s.flt := hu ▸ h1.flt
  have hregs : u.regs = s1.regs := by rw [← hu]
  obtain ⟨a1, a2, -, -, -, -⟩ := hobRegs_apart hn (h := 0) (by decide)
  refine ⟨?_, ?_, ?_, ?_, fun m hm hne => ?_⟩
  · rw [← ht]
    exact hw.setF _ _ (by rw [a1]; decide)
  · rw [← ht]
    exact hsys
  · rw [← ht]
    exact hflt
  · rw [← ht, State.getF_setF_same _ _ _ (by rfl)]
    exact Nat.mod_eq_of_lt hst
  · obtain ⟨b1, b2, -, -, -, -⟩ := hobRegs_apart hm (h := 0) (by decide)
    rw [← ht, State.getF_setF_other _ _ _ _ (by simp only [F.HOB_ENGINE_STATE]; omega), State.getF_of_regs hregs]
    exact State.getF_congr (h1.regs _ (queueRegs_apart (.inr b2)) (by rw [b1]; decide))

/-- At most one hob of a cluster has failed where only `n` can have. -/
theorem State.hobsLost_le_one {s : State} {n : Nat} (hn : n < 64)
    (h : ∀ m, m < 64 → m / 8 = n / 8 → s.getF (F.HOB_ENGINE_STATE m) = 3 → m = n) : s.hobsLost (n / 8) ≤ 1 := by
  have hsub : (List.range' (8 * (n / 8)) 8).filter (fun m => decide (s.getF (F.HOB_ENGINE_STATE m) = 3)) ⊆ [n] := by
    intro m hm
    obtain ⟨h1, h2⟩ := List.mem_filter.1 hm
    obtain ⟨hlo, hhi⟩ := List.mem_range'_1.1 h1
    exact List.mem_singleton.2 (h m (by omega) (by omega) (of_decide_eq_true h2))
  exact (List.subperm_of_subset (List.Nodup.filter _ (List.nodup_range' (s := 8 * (n / 8)) (n := 8))) hsub).length_le

/-- A hob that fails lasting while no other hob of its cluster has failed. -/
theorem State.rollLasting_shows {s : State} {n : Nat} (hn : n < 64) (hq : s.Quiet 0xD8) (ha : s.asserted 0xD8 = false)
    (hlone : ∀ m, m < 64 → m / 8 = n / 8 → s.getF (F.HOB_ENGINE_STATE m) = 3 → m = n) {t : State} (ht : s.rollLasting n = t) :
    t.sticky 0xD8 = true ∧ t.getF F.BST_ROLL_LAST_RESULT = s.getF F.BST_ROLL_LAST_RESULT ∧
      t.getF F.BST_ROLL_LASTING_CNT_COUNT = min (2 ^ 32 - 1) (s.getF F.BST_ROLL_LASTING_CNT_COUNT + 1) ∧
      s.SameRegs (0x4004 :: 0x4005 :: 0x4015 :: raiseBlocks) t := by
  obtain ⟨o1, o2, o3, o4, o5⟩ := s.hobOut_shows hn (st := 3) (by decide)
  unfold State.rollLasting at ht
  generalize s.hobOut n 3 = u at o1 o2 o3 o4 o5 ht
  obtain ⟨q1, q2, -⟩ := u.refreshQueues_shows
  have hg := (State.GraphKept.refl [0x4005] u).refreshQueues (by decide)
  extract_lets s1 s2 at ht
  have h1 : s.Within [0x4004, 0x4005] s1 := o1.trans (q2.mono (by decide))
  have h1s : s1.sys = s.sys ∧ s1.flt = s.flt := ⟨hg.sys.trans o2, hg.flt.trans o3⟩
  have h1e (m : Nat) (hm : m < 64) : s1.getF (F.HOB_ENGINE_STATE m) = u.getF (F.HOB_ENGINE_STATE m) := by
    obtain ⟨-, b2, -, -, -, -⟩ := hobRegs_apart hm (h := 0) (by decide)
    exact State.getF_congr (q1 _ (queueRegs_apart (.inr b2)))
  have h2 : s2 = ((s1.incF F.BST_ROLL_LASTING_CNT_COUNT).event Ev.bst 1).raise 0xD8 := rfl
  clear_value s2 s1
  generalize hv : (s1.incF F.BST_ROLL_LASTING_CNT_COUNT).event Ev.bst 1 = v at h2
  have hvw : s1.GraphKept [0x4015] v := by
    rw [← hv]
    exact ((State.GraphKept.refl _ s1).incF _ (by decide)).event _ _ (by decide)
  have hw : s.Within [0x4004, 0x4005, 0x4015] v := (h1.mono (by decide)).trans (hvw.within.mono (by decide))
  have hvq : v.Quiet 0xD8 := hw.quiet (by decide) (by decide) (congrArg Sys.phase (hvw.sys.trans h1s.1)) (by decide) hq
  have hc : v.Confined raiseBlocks s2 := h2 ▸ v.confined_raise 0xD8 none (by decide) hvq
  have hst : s2.sticky 0xD8 = true := h2 ▸ v.sticky_raise 0xD8 none (by decide) hvq
    ((State.asserted_of_asserting (State.asserting_congr (hvw.flt.trans h1s.2)) 0xD8).trans ha)
  have hcount : v.getF F.BST_ROLL_LASTING_CNT_COUNT = min (2 ^ 32 - 1) (s.getF F.BST_ROLL_LASTING_CNT_COUNT + 1) := by
    rw [← hv, State.getF_event_other _ _ _ _ (by decide), State.getF_incF_same _ _ (by decide), h1.getF _ (by decide)]
    rfl
  have hresult : v.getF F.BST_ROLL_LAST_RESULT = s.getF F.BST_ROLL_LAST_RESULT := by
    rw [← hv, State.getF_event_other _ _ _ _ (by decide), State.getF_incF_other _ _ _ (by decide), h1.getF _ (by decide)]
  have hle : s2.hobsLost (n / 8) ≤ 1 := State.hobsLost_le_one hn fun m hm h8 h3 => by
    by_contra hne
    obtain ⟨b1, -, -, -, -, -⟩ := hobRegs_apart hm (h := 0) (by decide)
    rw [hc.getF _ (by rw [b1]; decide), hvw.within.getF _ (by rw [b1]; decide), h1e m hm, o5 m hm hne] at h3
    exact hne (hlone m hm h8 h3)
  rw [decide_eq_false (by omega), State.when_false] at ht
  rw [← ht]
  exact ⟨hst, (hc.getF _ (by decide)).trans hresult, (hc.getF _ (by decide)).trans hcount,
    ((hw.mono (by decide)).trans (hc.within.mono (by decide))).1⟩

/-- A test whose failure the repeat confirms. -/
theorem State.rollEnd_failed {s : State} {h : Nat} (hr : s.sys.phase = .run) (hh : h < 2) (hf : s.flag (F.SYS_HALF_ROLLING_BIST h) = true)
    (hq : s.Quiet 0xD8) (ha : s.asserted 0xD8 = false)
    (hlone : ∀ m, m < 64 → m / 8 = s.getF (F.SYS_HALF_ROLLING_HOB h) / 8 → s.getF (F.HOB_ENGINE_STATE m) = 3 →
      m = s.getF (F.SYS_HALF_ROLLING_HOB h)) {t : State} (ht : s.rollEnd h false false = t) :
    t.sticky 0xD8 = true ∧ t.getF F.BST_ROLL_LAST_RESULT = 3 ∧
      t.getF F.BST_ROLL_LASTING_CNT_COUNT = min (2 ^ 32 - 1) (s.getF F.BST_ROLL_LASTING_CNT_COUNT + 1) ∧
      s.SameRegs (0x4000 :: 0x4004 :: 0x4005 :: 0x4015 :: raiseBlocks) t := by
  have hn : s.getF (F.SYS_HALF_ROLLING_HOB h) < 64 := s.getF_lt _
  have hcond : (!s.running || decide (2 ≤ h) || !s.flag (F.SYS_HALF_ROLLING_BIST h)) = false := by
    rw [State.running_of_run hr, hf, decide_eq_false (by omega)]
    rfl
  unfold State.rollEnd at ht
  rw [if_neg (by rw [hcond]; decide)] at ht
  generalize s.getF (F.SYS_HALF_ROLLING_HOB h) = n at hn hlone ht
  obtain ⟨-, -, -, a4, -, -⟩ := hobRegs_apart hn hh
  obtain ⟨-, -, c3, c4, c5⟩ := s.rollCounted_shows hn (res := 3) (by decide)
  change (if (false || false) = true then _ else ((s.rollCounted n 3).setFlag (F.SYS_HALF_ROLLING_BIST h) false).rollLasting n) = t at ht
  rw [if_neg Bool.false_ne_true] at ht
  generalize s.rollCounted n 3 = s1 at c3 c4 c5 ht
  have hset (g : Fld) (hg : (F.SYS_HALF_ROLLING_BIST h).addr ≠ g.addr) : (s1.setFlag (F.SYS_HALF_ROLLING_BIST h) false).getF g = s1.getF g :=
    State.getF_setF_other _ _ _ _ hg
  have hother (x : Nat) (hx : x / 0x10000 ≠ 0x4000) : (F.SYS_HALF_ROLLING_BIST h).addr ≠ x := fun he => hx (he ▸ a4)
  have hkept : s.GraphKept [0x4000, 0x4015] (s1.setFlag (F.SYS_HALF_ROLLING_BIST h) false) :=
    (c5.mono (by decide)).setFlag _ _ (by rw [a4]; decide)
  generalize s1.setFlag (F.SYS_HALF_ROLLING_BIST h) false = u at hset hkept ht
  obtain ⟨hu, hus, huf, -, -⟩ := hkept
  have huq : u.Quiet 0xD8 := by
    have hcode : u.getF F.SYS_MODE_MODE = s.getF F.SYS_MODE_MODE :=
      (hset _ (by simp only [F.SYS_HALF_ROLLING_BIST, F.SYS_MODE_MODE]; omega)).trans (c5.within.getF _ (by decide))
    have hmode : u.mode = s.mode := State.mode_congr (congrArg Sys.phase hus) hcode
    have hact : u.fltAction 0xD8 = s.fltAction 0xD8 := congrArg (· % 16) (hu.getF _ (by decide))
    unfold State.Quiet
    rw [hmode, hact]
    exact hq
  obtain ⟨r1, r2, r3, r4⟩ := State.rollLasting_shows hn huq ((State.asserted_of_asserting (State.asserting_congr huf) 0xD8).trans ha)
    (fun m hm h8 h3 => hlone m hm h8 (by
      obtain ⟨b1, -, -, -, -, -⟩ := hobRegs_apart hm (h := 0) (by decide)
      rwa [hu.getF _ (by rw [b1]; decide)] at h3)) ht
  refine ⟨r1, r2.trans ((hset _ (hother _ (by decide))).trans c3), ?_, fun a hb => ?_⟩
  · rw [r3, hset _ (hother _ (by decide)), State.getF_congr (c4 _ (by decide))]
  · simp only [List.mem_cons, not_or] at hb
    obtain ⟨b0, b4, b5, b15, brest⟩ := hb
    rw [r4 a (by simp only [List.mem_cons, not_or]; exact ⟨b4, b5, b15, brest⟩), hu.1 a (by simp [b0, b15])]

/-- The test of a hob that is due begins at once, or after the instance the hob executes. -/
theorem State.rollStart_due {s : State} {n : Nat} (hr : s.sys.phase = .run) (hn : n < 64) (hm : s.mode.runs = true)
    (hen : s.flag F.BST_CFG_ROLL_EN = true) (hcyc : s.flu.cycle % 16000 = (if n < 32 then 500 * n else 500 * (n - 32) + 250))
    (hfree : s.flag (F.SYS_HALF_ROLLING_BIST (n / 32)) = false) (hserv : bit (s.getF (F.SYS_CLUSTER_HOB_IN_SERVICE (n / 8))) (n % 8) = true)
    (hdue : n ∉ s.age.rollDue) :
    exec .rollingTestStart s = .next (if s.getF (F.HOB_ENGINE_STATE n) = 1 then { s with age := { s.age with rollDue := s.age.rollDue ++ [n] } }
      else s.rollEnter n) := by
  have hhob : rollHob s.flu.cycle = some n := by
    unfold rollHob
    split at hcyc
    · rw [if_pos (by omega)]
      exact congrArg some (by omega)
    · rw [if_neg (by omega), if_pos (by omega)]
      exact congrArg some (by omega)
  have hcond : (!s.running || !s.mode.runs || !s.flag F.BST_CFG_ROLL_EN || s.flag (F.SYS_HALF_ROLLING_BIST (n / 32)) ||
      !bit (s.getF (F.SYS_CLUSTER_HOB_IN_SERVICE (n / 8))) (n % 8) || s.age.rollDue.contains n) = false := by
    rw [State.running_of_run hr, hm, hen, hfree, hserv]
    simpa using hdue
  have hexec : exec .rollingTestStart s = .next s.rollStart := rfl
  rw [hexec]
  unfold State.rollStart
  rw [hhob]
  dsimp only
  rw [hcond]
  rfl

/-- Settles O13, by the registers that the test's start, its passing and its lasting failure write. -/
theorem rollingTest : Obligations.RollingTest := by
  unfold Obligations.RollingTest
  intro s hr
  refine ⟨fun n hn hm hen hcyc hfree hserv hdue => ?_, fun h hh hf => ⟨fun pass1 pass2 hp => ?_, fun hq ha hlone => ?_⟩⟩
  · rw [State.rollStart_due hr hn hm hen hcyc hfree hserv hdue]
    refine ⟨fun hidle => ?_, fun hbusy => ?_⟩
    · rw [if_neg hidle]
      obtain ⟨r1, r2, r3, r4, r5⟩ := s.rollEnter_shows hn rfl
      exact ⟨_, rfl, r1, r2, r3, r4, r5.1, r5.2⟩
    · rw [if_pos hbusy]
  · obtain ⟨r1, r2, r3, r4, r5, r6⟩ := State.rollEnd_passed hr hh hf pass1 pass2 hp rfl
    exact ⟨_, rfl, r1, r2, r3, r4, r5, r6.1, r6.2⟩
  · obtain ⟨r1, r2, r3, r4⟩ := State.rollEnd_failed hr hh hf hq ha hlone rfl
    exact ⟨_, rfl, r1, r2, r3, r4⟩

end Sys2Proof.Machine
end

section
/-!
# The ageing measurements
-/
namespace Sys2Proof.Machine

open Sys2Proof

/-! ### Registers of the measurements, and nothing else -/

/-- Only registers changed. -/
def State.RestKept (r s : State) : Prop := { s with regs := r.regs } = r

section
variable {r s : State} (h : r.RestKept s)

theorem State.RestKept.refl (r : State) : r.RestKept r := rfl

include h in
theorem State.RestKept.setReg (a : Nat) (w : Word) : r.RestKept (s.setReg a w) := h

include h in
theorem State.RestKept.setF (f : Fld) (v : Nat) : r.RestKept (s.setF f v) := h.setReg _ _

include h in
theorem State.RestKept.eq : s = { r with regs := s.regs } := by
  have h' : { s with regs := r.regs } = r := h
  rw [← h']

include h in
theorem State.RestKept.stores : r.SameStores s := by
  rw [h.eq]
  exact ⟨rfl, rfl, rfl, rfl⟩

end

theorem ofInt_lt (w : Nat) (i : Int) : ofInt w i < 2 ^ w := by
  unfold ofInt
  have hpos : (0 : Int) < ((2 ^ w : Nat) : Int) := by positivity
  have := Int.emod_lt_of_pos i hpos
  have := Int.emod_nonneg i hpos.ne'
  omega

theorem toInt_ofInt {w : Nat} (hw : 1 ≤ w) {i : Int} (hlo : -2 ^ (w - 1) ≤ i) (hhi : i < 2 ^ (w - 1)) : toInt w (ofInt w i) = i := by
  obtain ⟨k, rfl⟩ : ∃ k, w = k + 1 := ⟨w - 1, by omega⟩
  have hpow : (2 : Nat) ^ (k + 1) = 2 * 2 ^ k := by ring
  rw [Nat.add_sub_cancel] at hlo hhi
  unfold toInt
  rw [Nat.mod_eq_of_lt (ofInt_lt _ _), Nat.add_sub_cancel]
  unfold ofInt
  have hcast : ((2 ^ (k + 1) : Nat) : Int) = 2 * 2 ^ k := by
    rw [hpow]
    push_cast
    ring
  have hcast' : ((2 ^ k : Nat) : Int) = 2 ^ k := by push_cast; rfl
  rw [hcast]
  by_cases hneg : i < 0
  · have he : i % (2 * 2 ^ k) = i + 2 * 2 ^ k := by
      rw [← Int.add_emod_right]
      exact Int.emod_eq_of_lt (by omega) (by omega)
    rw [he, if_neg (by omega)]
    omega
  · have he : i % (2 * 2 ^ k) = i := Int.emod_eq_of_lt (by omega) (by omega)
    rw [he, if_pos (by omega)]
    omega

/-! The ring oscillators (R515) -/

/-- What the measurement shows of one ring oscillator. -/
def State.roShow (s : State) (ro : List Nat) (r : Nat) : State :=
  (s.setF (F.AGE_RO_MHZ r) (ro.getD r 0)).setF (F.AGE_RO_D r) (ofInt 16 (roD (s.otp.baseRo.getD r 0) (ro.getD r 0)))

theorem State.roShow_shows (s : State) (ro : List Nat) (r : Nat) (hro : ∀ x ∈ ro, x < 65536) :
    s.RestKept (s.roShow ro r) ∧ (∀ a, a ≠ 0x40140080 + 4 * r → (s.roShow ro r).reg a = s.reg a) ∧
      (s.roShow ro r).getF (F.AGE_RO_MHZ r) = ro.getD r 0 ∧
      (s.roShow ro r).getF (F.AGE_RO_D r) = ofInt 16 (roD (s.otp.baseRo.getD r 0) (ro.getD r 0)) := by
  have hadr : (F.AGE_RO_MHZ r).addr = 0x40140080 + 4 * r ∧ (F.AGE_RO_D r).addr = 0x40140080 + 4 * r := ⟨rfl, rfl⟩
  have hf : ro.getD r 0 < 65536 := by
    rw [List.getD_eq_getElem?_getD]
    cases hr : ro[r]? with
    | none => exact (by decide : 0 < 65536)
    | some x => exact hro x (List.mem_of_getElem? hr)
  unfold State.roShow
  refine ⟨((State.RestKept.refl s).setF _ _).setF _ _, fun a ha => ?_, ?_, ?_⟩
  · rw [State.reg_setF_other _ _ _ _ (by rw [hadr.2]; exact ha.symm), State.reg_setF_other _ _ _ _ (by rw [hadr.1]; exact ha.symm)]
  · rw [State.getF_setF_apart _ _ _ _ (by rfl) (by simp [Fld.apart, F.AGE_RO_MHZ, F.AGE_RO_D]), State.getF_setF_same _ _ _ (by rfl)]
    exact Nat.mod_eq_of_lt hf
  · rw [State.getF_setF_same _ _ _ (by rfl)]
    exact Nat.mod_eq_of_lt (ofInt_lt 16 _)

theorem State.each_roShow (s : State) (ro : List Nat) (hro : ∀ x ∈ ro, x < 65536) (l : List Nat) (hnd : l.Nodup) :
    s.RestKept (s.each l (fun s r => s.roShow ro r)) ∧
      (∀ a, (∀ r ∈ l, a ≠ 0x40140080 + 4 * r) → (s.each l (fun s r => s.roShow ro r)).reg a = s.reg a) ∧
      ∀ r ∈ l, (s.each l (fun s r => s.roShow ro r)).getF (F.AGE_RO_MHZ r) = ro.getD r 0 ∧
        (s.each l (fun s r => s.roShow ro r)).getF (F.AGE_RO_D r) = ofInt 16 (roD (s.otp.baseRo.getD r 0) (ro.getD r 0)) := by
  induction l generalizing s with
  | nil => exact ⟨.refl s, fun _ _ => rfl, nofun⟩
  | cons p l ih =>
      obtain ⟨hp, hnd⟩ := List.nodup_cons.1 hnd
      obtain ⟨h1, h2, h3, h4⟩ := s.roShow_shows ro p hro
      have hotp : (s.roShow ro p).otp = s.otp := by rw [h1.eq]
      have hcons : s.each (p :: l) (fun s r => s.roShow ro r) = (s.roShow ro p).each l (fun s r => s.roShow ro r) := rfl
      rw [hcons]
      generalize s.roShow ro p = u at h1 h2 h3 h4 hotp
      obtain ⟨i1, i2, i3⟩ := ih u hnd
      generalize u.each l (fun s r => s.roShow ro r) = t at i1 i2 i3
      have hsame : t.reg (0x40140080 + 4 * p) = u.reg (0x40140080 + 4 * p) := i2 _ fun r hr he => hp (by
        obtain rfl : p = r := by omega
        exact hr)
      refine ⟨?_, fun a ha => ?_, fun r hr => ?_⟩
      · have h1' := h1.eq
        have i1' := i1.eq
        unfold State.RestKept
        rw [i1', h1']
      · rw [i2 a fun r hr => ha r (by simp [hr]), h2 a (ha p (by simp))]
      · by_cases hm : r ∈ l
        · rw [← hotp]
          exact i3 r hm
        · obtain rfl : r = p := (List.mem_cons.1 hr).resolve_right hm
          exact ⟨(State.getF_congr (f := F.AGE_RO_MHZ r) hsame).trans h3, (State.getF_congr (f := F.AGE_RO_D r) hsame).trans h4⟩

/-- A measurement of the ring oscillators changes their registers and margin 0. -/
theorem State.roTake_shows (s : State) {ro : List Nat} (hro : ∀ x ∈ ro, x < 65536) :
    s.RestKept (s.roTake ro) ∧ (∀ a, a < 0x40140080 ∨ 0x40140108 ≤ a → (s.roTake ro).reg a = s.reg a) ∧
      ∀ r, r < 32 → (s.roTake ro).getF (F.AGE_RO_MHZ r) = ro.getD r 0 ∧
        (s.roTake ro).getF (F.AGE_RO_D r) = ofInt 16 (roD (s.otp.baseRo.getD r 0) (ro.getD r 0)) := by
  obtain ⟨h1, h2, h3⟩ := s.each_roShow ro hro (List.range 32) List.nodup_range
  generalize ht : s.roTake ro = t
  unfold State.roTake at ht
  extract_lets s1 at ht
  have hs1 : s1 = s.each (List.range 32) (fun s r => s.roShow ro r) := rfl
  rw [← hs1] at h1 h2 h3
  clear_value s1
  have hregs (a : Nat) (ha : a < 0x40140080 ∨ 0x40140108 ≤ a) : s1.reg a = s.reg a := h2 a fun r hr => by
    have := List.mem_range.1 hr
    omega
  split at ht
  · next d r hw =>
    have hother (a : Nat) (ha : a < 0x40140100 ∨ 0x40140108 ≤ a) : t.reg a = s1.reg a := by
      have hbase : (F.AGE_BASE_BASE 0).addr ≠ a := show (0x40140100 : Nat) ≠ a by omega
      have hvalue : (F.AGE_VALUE_VALUE 0).addr ≠ a := show (0x40140104 : Nat) ≠ a by omega
      rw [← ht]
      exact (State.reg_setF_other _ _ _ _ hbase).trans (State.reg_setReg_other _ _ _ _ hvalue)
    refine ⟨?_, fun a ha => (hother a (by omega)).trans (hregs a ha), fun k hk => ?_⟩
    · rw [← ht]
      exact (h1.setReg _ _).setF _ _
    · have hk' : (0x40140080 + 0x4 * k : Nat) < 0x40140100 := by omega
      exact ⟨(State.getF_congr (f := F.AGE_RO_MHZ k) (hother _ (.inl hk'))).trans (h3 k (List.mem_range.2 hk)).1,
        (State.getF_congr (f := F.AGE_RO_D k) (hother _ (.inl hk'))).trans (h3 k (List.mem_range.2 hk)).2⟩
  · rw [← ht]
    exact ⟨h1, hregs, fun k hk => h3 k (List.mem_range.2 hk)⟩



/-! ### The emergency derate (R521, R522) -/

theorem State.Confined.age {bs : List Nat} {s t : State} (h : s.Confined bs t) : t.age = s.age := by
  obtain ⟨-, r, f, j, g, m, rfl⟩ := h
  rfl

theorem State.Quiet.of_getF {s t : State} {n : Nat} (hq : s.Quiet n) (hp : t.sys.phase = s.sys.phase)
    (hm : t.getF F.SYS_MODE_MODE = s.getF F.SYS_MODE_MODE) (ha : t.getF (F.FLT_SRC_REACTION n) = s.getF (F.FLT_SRC_REACTION n)) : t.Quiet n := by
  have hact : t.fltAction n = s.fltAction n := congrArg (· % 16) ha
  unfold State.Quiet
  rw [State.mode_congr hp hm, hact]
  exact hq

/-- What every derate does besides its step. -/
theorem State.derated_shows (s : State) (hq : s.Quiet 0xDB) (ha : s.asserted 0xDB = false) :
    s.derated.sticky 0xDB = true ∧ s.derated.getF F.AGE_DERATE_CNT_COUNT = min (2 ^ 32 - 1) (s.getF F.AGE_DERATE_CNT_COUNT + 1) ∧
      s.derated.age = s.age ∧ s.Within (0x4014 :: raiseBlocks) s.derated := by
  have h1 : s.Confined [0x4014] ((s.incF F.AGE_DERATE_CNT_COUNT).event Ev.age 1) :=
    (State.confined_incF _ _ _ (by decide)).trans (State.confined_event _ _ _ _ (by decide))
  have hcount : ((s.incF F.AGE_DERATE_CNT_COUNT).event Ev.age 1).getF F.AGE_DERATE_CNT_COUNT =
      min (2 ^ 32 - 1) (s.getF F.AGE_DERATE_CNT_COUNT + 1) := by
    rw [State.getF_event_other _ _ _ _ (by decide), State.getF_incF_same _ _ (by decide)]
    rfl
  have hflt : ((s.incF F.AGE_DERATE_CNT_COUNT).event Ev.age 1).flt = s.flt :=
    (((State.GraphKept.refl [0x4014] s).incF F.AGE_DERATE_CNT_COUNT (by decide)).event Ev.age 1 (by decide)).flt
  unfold State.derated
  generalize (s.incF F.AGE_DERATE_CNT_COUNT).event Ev.age 1 = u at h1 hcount hflt ⊢
  have huq : u.Quiet 0xDB := h1.within.quiet (by decide) (by decide) (congrArg Sys.phase h1.sys) (by decide) hq
  have hst : (u.raise 0xDB).sticky 0xDB = true :=
    u.sticky_raise 0xDB none (by decide) huq ((State.asserted_of_asserting (State.asserting_congr hflt) 0xDB).trans ha)
  have hc : u.Confined raiseBlocks (u.raise 0xDB) := u.confined_raise 0xDB none (by decide) huq
  change (State.ashRequest (u.raise 0xDB) 6 0 ((u.raise 0xDB).marginBody false true)).sticky 0xDB = true ∧
    (State.ashRequest (u.raise 0xDB) 6 0 ((u.raise 0xDB).marginBody false true)).getF F.AGE_DERATE_CNT_COUNT = _ ∧
    (State.ashRequest (u.raise 0xDB) 6 0 ((u.raise 0xDB).marginBody false true)).age = s.age ∧
    s.Within (0x4014 :: raiseBlocks) (State.ashRequest (u.raise 0xDB) 6 0 ((u.raise 0xDB).marginBody false true))
  generalize u.raise 0xDB = v at hst hc ⊢
  exact ⟨hst, (hc.getF _ (by decide)).trans hcount, hc.age.trans h1.age,
    ((h1.within.mono (by decide)).trans (hc.within.mono (by decide))).ashRequest 6 0 _⟩

/-- Setting the trim of a half. -/
theorem State.setTrim_shows (s : State) {h : Nat} (hh : h < 2) {x : Int} (hlo : -128 ≤ x) (hhi : x < 7) {t : State} (ht : s.setTrim h x = t) :
    t.trim h = x ∧ t.trim (1 - h) = s.trim (1 - h) ∧
      t.getF (if h = 0 then F.PWR_CORE_CORE_N else F.PWR_CORE_CORE_S) = (800 + 10 * x).toNat ∧
      t.getF (F.SYS_HALF_HOB_CLK_STEP 0) = s.getF (F.SYS_HALF_HOB_CLK_STEP 0) ∧ t.getF F.SYS_MODE_MODE = s.getF F.SYS_MODE_MODE ∧
      s.GraphKept [0x4000, 0x4001] t := by
  have hvolt : (800 + 10 * x).toNat % 65536 = (800 + 10 * x).toNat := Nat.mod_eq_of_lt (by omega)
  have htrim : toInt 8 (ofInt 8 x % 256) = x := by
    have hlow : ofInt 8 x % 256 = ofInt 8 x := Nat.mod_eq_of_lt (ofInt_lt 8 x)
    rw [hlow]
    exact toInt_ofInt (w := 8) (by decide) (by omega) (by omega)
  have hk : s.GraphKept [0x4000, 0x4001] t := by
    rw [← ht]
    refine ((State.GraphKept.refl _ s).setF _ _ ?_).setF _ _ ?_
    · simp only [F.SYS_HALF_CORE_TRIM, List.mem_cons]
      omega
    · split <;> decide
  refine ⟨?_, ?_, ?_, ?_, ?_, hk⟩ <;> rw [← ht] <;> unfold State.setTrim <;> obtain rfl | rfl : h = 0 ∨ h = 1 := by omega
  iterate 2
    unfold State.trim
    rw [State.getF_setF_other _ _ _ _ (by decide), State.getF_setF_same _ _ _ (by decide)]
    exact htrim
  iterate 2
    unfold State.trim
    rw [State.getF_setF_other _ _ _ _ (by decide), State.getF_setF_other _ _ _ _ (by decide)]
  iterate 2
    rw [State.getF_setF_same _ _ _ (by decide)]
    exact hvolt
  iterate 2
    rw [State.getF_setF_other _ _ _ _ (by decide), State.getF_setF_apart _ _ _ _ (by decide) (by decide)]
  iterate 2
    rw [State.getF_setF_other _ _ _ _ (by decide), State.getF_setF_other _ _ _ _ (by decide)]

/-- Marking that a trim step settles. -/
def State.settlingOn (s : State) : State := { s with age := { s.age with settling := true } }

/-- One trim step of a half. -/
theorem State.derateTrim_shows (s : State) {h : Nat} (hh : h < 2) (hlt : s.trim h < 6) (hq : s.Quiet 0xDB) (ha : s.asserted 0xDB = false)
    {t : State} (ht : s.derateTrim h = t) :
    t.trim h = s.trim h + 1 ∧ t.trim (1 - h) = s.trim (1 - h) ∧
      t.getF (if h = 0 then F.PWR_CORE_CORE_N else F.PWR_CORE_CORE_S) = (800 + 10 * (s.trim h + 1)).toNat ∧
      t.getF (F.SYS_HALF_HOB_CLK_STEP 0) = s.getF (F.SYS_HALF_HOB_CLK_STEP 0) ∧ t.age.settling = true ∧
      t.sticky 0xDB = true ∧ t.getF F.AGE_DERATE_CNT_COUNT = min (2 ^ 32 - 1) (s.getF F.AGE_DERATE_CNT_COUNT + 1) ∧
      s.Within (0x4000 :: 0x4001 :: 0x4014 :: raiseBlocks) t := by
  have hlo : -128 ≤ s.trim h := by
    have := s.getF_lt (F.SYS_HALF_CORE_TRIM h)
    unfold State.trim toInt
    split <;> omega
  obtain ⟨t1, t2, t3, t4, t5, t6⟩ := s.setTrim_shows hh (x := s.trim h + 1) (by omega) (by omega) rfl
  have hder : s.derateTrim h = ((s.setTrim h (s.trim h + 1)).incF F.AGE_DERATE_TRIM_STEPS).settlingOn.derated := rfl
  rw [hder] at ht
  generalize s.setTrim h (s.trim h + 1) = u at t1 t2 t3 t4 t5 t6 ht
  have hsteps := (State.GraphKept.refl [0x4014] u).incF F.AGE_DERATE_TRIM_STEPS (by decide)
  have hcnt : (u.incF F.AGE_DERATE_TRIM_STEPS).getF F.AGE_DERATE_CNT_COUNT = s.getF F.AGE_DERATE_CNT_COUNT :=
    (State.getF_incF_other _ _ _ (by decide)).trans (t6.within.getF _ (by decide))
  generalize u.incF F.AGE_DERATE_TRIM_STEPS = v at hsteps hcnt ht
  have hset : v.settlingOn.regs = v.regs ∧ v.settlingOn.sys = v.sys ∧ v.settlingOn.flt = v.flt ∧ v.settlingOn.age.settling = true ∧
      v.Within [] v.settlingOn := ⟨rfl, rfl, rfl, rfl, (State.Within.refl _ v).hidden ..⟩
  generalize v.settlingOn = w at hset ht
  obtain ⟨w1, w2, w3, w4, w5⟩ := hset
  have hw : u.Within [0x4014] w := hsteps.within.trans (w5.mono nofun)
  have hwq : w.Quiet 0xDB := hq.of_getF (congrArg Sys.phase (w2.trans (hsteps.sys.trans t6.sys))) ((hw.getF _ (by decide)).trans t5)
    ((hw.getF _ (by decide)).trans (t6.within.getF _ (by decide)))
  obtain ⟨d1, d2, d3, d4⟩ := w.derated_shows hwq
    ((State.asserted_of_asserting (State.asserting_congr (w3.trans (hsteps.flt.trans t6.flt))) 0xDB).trans ha)
  rw [ht] at d1 d2 d3 d4
  have hu : u.Within (0x4014 :: raiseBlocks) t := (hw.mono (by decide)).trans d4
  have htrim (g : Nat) (hg : g < 2) : t.trim g = u.trim g := by
    unfold State.trim
    have hb : (F.SYS_HALF_CORE_TRIM g).addr / 0x10000 ∉ 0x4014 :: raiseBlocks := by
      obtain rfl | rfl : g = 0 ∨ g = 1 := by omega
      · decide
      · decide
    rw [hu.getF _ hb]
  refine ⟨(htrim h hh).trans t1, (htrim _ (by omega)).trans t2, (hu.getF _ ?_).trans t3, (hu.getF _ (by decide)).trans t4,
    (congrArg Age.settling d3).trans w4, d1, ?_, (t6.within.mono (by decide)).trans (hu.mono (by decide))⟩
  · split <;> decide
  · rw [d2, State.getF_of_regs w1, hcnt]

theorem State.clockStep_shows (s : State) {x : Nat} (hx : x < 8) {t : State} (ht : s.setStep x = t) :
    (∀ g, g < 2 → t.trim g = s.trim g ∧ t.getF (F.SYS_HALF_HOB_CLK_STEP g) = x) ∧ t.getF F.CLK_HOB_STEP_N = x ∧ t.getF F.CLK_HOB_STEP_S = x ∧
      t.getF F.SYS_MODE_MODE = s.getF F.SYS_MODE_MODE ∧ s.GraphKept [0x4000, 0x4002] t ∧ s.RestKept t := by
  have hmod : x % 8 = x := Nat.mod_eq_of_lt hx
  have heq : s.setStep x = (((((s.setF (F.SYS_HALF_HOB_CLK_STEP 0) x).setF (F.CLK_OUT_STAT_NOMINAL 0) (stepKHz x)).setF
      (F.SYS_HALF_HOB_CLK_STEP 1) x).setF (F.CLK_OUT_STAT_NOMINAL 1) (stepKHz x)).setF F.CLK_HOB_STEP_N x).setF F.CLK_HOB_STEP_S x := rfl
  rw [heq] at ht
  refine ⟨fun g hg => ?_, ?_, ?_, ?_, ?_, ?_⟩ <;> rw [← ht]
  · obtain rfl | rfl : g = 0 ∨ g = 1 := by omega
    · refine ⟨?_, ?_⟩
      · unfold State.trim
        iterate 5 rw [State.getF_setF_other _ _ _ _ (by decide)]
        rw [State.getF_setF_apart _ _ _ _ (by decide) (by decide)]
      · iterate 5 rw [State.getF_setF_other _ _ _ _ (by decide)]
        rw [State.getF_setF_same _ _ _ (by decide)]
        exact hmod
    · refine ⟨?_, ?_⟩
      · unfold State.trim
        iterate 3 rw [State.getF_setF_other _ _ _ _ (by decide)]
        rw [State.getF_setF_apart _ _ _ _ (by decide) (by decide)]
        iterate 2 rw [State.getF_setF_other _ _ _ _ (by decide)]
      · iterate 3 rw [State.getF_setF_other _ _ _ _ (by decide)]
        rw [State.getF_setF_same _ _ _ (by decide)]
        exact hmod
  · rw [State.getF_setF_apart _ _ _ _ (by decide) (by decide), State.getF_setF_same _ _ _ (by decide)]
    exact hmod
  · rw [State.getF_setF_same _ _ _ (by decide)]
    exact hmod
  · iterate 6 rw [State.getF_setF_other _ _ _ _ (by decide)]
  · exact ((((((State.GraphKept.refl _ s).setF _ _ (by decide)).setF _ _ (by decide)).setF _ _ (by decide)).setF _ _ (by decide)).setF _ _
      (by decide)).setF _ _ (by decide)
  · exact ((((((State.RestKept.refl s).setF _ _).setF _ _).setF _ _).setF _ _).setF _ _).setF _ _

/-- One clock step down. -/
theorem State.derateClock_shows (s : State) (hlt : s.getF (F.SYS_HALF_HOB_CLK_STEP 0) < 2) (hq : s.Quiet 0xDB) (ha : s.asserted 0xDB = false)
    {t : State} (ht : s.derateClock = t) :
    (∀ g, g < 2 → t.trim g = s.trim g ∧ t.getF (F.SYS_HALF_HOB_CLK_STEP g) = s.getF (F.SYS_HALF_HOB_CLK_STEP 0) + 1) ∧
      t.getF F.CLK_HOB_STEP_N = s.getF (F.SYS_HALF_HOB_CLK_STEP 0) + 1 ∧ t.getF F.CLK_HOB_STEP_S = s.getF (F.SYS_HALF_HOB_CLK_STEP 0) + 1 ∧
      t.age = s.age ∧ t.sticky 0xDB = true ∧ t.getF F.AGE_DERATE_CNT_COUNT = min (2 ^ 32 - 1) (s.getF F.AGE_DERATE_CNT_COUNT + 1) ∧
      s.Within (0x4000 :: 0x4002 :: 0x4014 :: raiseBlocks) t := by
  obtain ⟨t1, t2, t3, t4, t5, t6⟩ := s.clockStep_shows (x := s.getF (F.SYS_HALF_HOB_CLK_STEP 0) + 1) (by omega) rfl
  have hder : s.derateClock = ((((s.setStep (s.getF (F.SYS_HALF_HOB_CLK_STEP 0) + 1)).incF F.AGE_DERATE_CLK_STEPS).incF
      F.CLK_STEP_CNT_COUNT).event Ev.clk 5).derated := if_neg (by omega)
  rw [hder] at ht
  generalize s.setStep (s.getF (F.SYS_HALF_HOB_CLK_STEP 0) + 1) = u at t1 t2 t3 t4 t5 t6 ht
  have hage : u.age = s.age := by rw [t6.eq]
  have hc : u.Confined [0x4002, 0x4014] (((u.incF F.AGE_DERATE_CLK_STEPS).incF F.CLK_STEP_CNT_COUNT).event Ev.clk 5) :=
    ((State.confined_incF _ _ _ (by decide)).trans (State.confined_incF _ _ _ (by decide))).trans (State.confined_event _ _ _ _ (by decide))
  have hflt := ((((State.GraphKept.refl [0x4002, 0x4014] u).incF F.AGE_DERATE_CLK_STEPS (by decide)).incF F.CLK_STEP_CNT_COUNT (by decide)).event
    Ev.clk 5 (by decide)).flt
  have hget (g : Fld) (h1 : F.AGE_DERATE_CLK_STEPS.addr ≠ g.addr) (h2 : F.CLK_STEP_CNT_COUNT.addr ≠ g.addr) (h3 : Ev.clk.ev.addr ≠ g.addr) :
      (((u.incF F.AGE_DERATE_CLK_STEPS).incF F.CLK_STEP_CNT_COUNT).event Ev.clk 5).getF g = u.getF g := by
    rw [State.getF_event_other _ _ _ _ h3, State.getF_incF_other _ _ _ h2, State.getF_incF_other _ _ _ h1]
  generalize ((u.incF F.AGE_DERATE_CLK_STEPS).incF F.CLK_STEP_CNT_COUNT).event Ev.clk 5 = w at hc hflt hget ht
  have hwq : w.Quiet 0xDB := hq.of_getF (congrArg Sys.phase (hc.sys.trans t5.sys)) ((hc.getF _ (by decide)).trans t4)
    ((hc.getF _ (by decide)).trans (t5.within.getF _ (by decide)))
  obtain ⟨d1, d2, d3, d4⟩ := w.derated_shows hwq ((State.asserted_of_asserting (State.asserting_congr (hflt.trans t5.flt)) 0xDB).trans ha)
  rw [ht] at d1 d2 d3 d4
  have hkeep (g : Fld) (hb : g.addr / 0x10000 ∉ 0x4014 :: raiseBlocks) (h1 : F.AGE_DERATE_CLK_STEPS.addr ≠ g.addr)
      (h2 : F.CLK_STEP_CNT_COUNT.addr ≠ g.addr) (h3 : Ev.clk.ev.addr ≠ g.addr) : t.getF g = u.getF g := (d4.getF g hb).trans (hget g h1 h2 h3)
  refine ⟨fun g hg => ?_, (hkeep _ (by decide) (by decide) (by decide) (by decide)).trans t2,
    (hkeep _ (by decide) (by decide) (by decide) (by decide)).trans t3, d3.trans (hc.age.trans hage), d1, ?_,
    (t5.within.mono (by decide)).trans ((hc.within.mono (by decide)).trans (d4.mono (by decide)))⟩
  · obtain ⟨g1, g2⟩ := t1 g hg
    obtain rfl | rfl : g = 0 ∨ g = 1 := by omega
    · exact ⟨(congrArg (toInt 8) (hkeep (F.SYS_HALF_CORE_TRIM 0) (by decide) (by decide) (by decide) (by decide))).trans g1,
        (hkeep _ (by decide) (by decide) (by decide) (by decide)).trans g2⟩
    · exact ⟨(congrArg (toInt 8) (hkeep (F.SYS_HALF_CORE_TRIM 1) (by decide) (by decide) (by decide) (by decide))).trans g1,
        (hkeep _ (by decide) (by decide) (by decide) (by decide)).trans g2⟩
  · rw [d2, hget _ (by decide) (by decide) (by decide), t5.within.getF _ (by decide)]

/-- With no clock step left the device is exhausted. -/
theorem State.derateClock_exhausts (s : State) (hge : 2 ≤ s.getF (F.SYS_HALF_HOB_CLK_STEP 0)) (hex : s.flag F.AGE_PLAN_EXHAUSTED = false) :
    s.derateClock.flag F.AGE_PLAN_EXHAUSTED = true ∧ s.derateClock.getF F.AGE_DERATE_CNT_COUNT = s.getF F.AGE_DERATE_CNT_COUNT ∧
      s.Within [0x4014] s.derateClock := by
  have hder : s.derateClock = (s.setFlag F.AGE_PLAN_EXHAUSTED true).event Ev.age 2 := by
    have h : s.derateClock = s.exhaust := if_pos hge
    rw [h]
    exact if_neg (by rw [hex]; decide)
  rw [hder]
  refine ⟨?_, ?_, ((State.Within.refl _ s).setFlag _ _ (by decide)).event _ _ (by decide)⟩
  · rw [State.flag_event_other _ _ _ _ (by decide)]
    exact State.flag_setFlag_same _ _ _ (by decide)
  · rw [State.getF_event_other _ _ _ _ (by decide)]
    exact State.getF_setFlag_apart _ _ _ _ (by decide) (by decide)



/-! ### The clock margin (R521) -/

theorem State.worn_one {s : State} {ro : List Nat} {h : Nat} (hh : h < 2) (hworn : s.Worn ro h) (hother : ¬s.Worn ro (1 - h)) :
    [0, 1].filter (fun h => decide (s.Worn ro h)) = [h] := by
  obtain rfl | rfl : h = 0 ∨ h = 1 := by omega
  · rw [List.filter_cons_of_pos (by simpa using hworn), List.filter_cons_of_neg (by simpa using hother), List.filter_nil]
  · rw [List.filter_cons_of_neg (by simpa using hother), List.filter_cons_of_pos (by simpa using hworn), List.filter_nil]

theorem State.clockMargin_settling {s : State} (h : s.age.settling = true) (ro : List Nat) : s.clockMargin ro = s :=
  if_pos (by rw [h, Bool.or_true])

section
variable {s : State} {ro : List Nat} (hr : s.sys.phase = .run) (hm : s.mode.runs = true) (hs : s.age.settling = false)
include hr hm hs

theorem State.clockMargin_of_exhausted (hx : s.flag F.AGE_PLAN_EXHAUSTED = true) : s.clockMargin ro = s.roTake ro := by
  have hcond : (!s.running || !s.mode.runs || s.age.settling) = false := by
    rw [State.running_of_run hr, hm, hs]
    rfl
  unfold State.clockMargin
  rw [if_neg (by rw [hcond]; decide), if_pos hx]

variable (hx : s.flag F.AGE_PLAN_EXHAUSTED = false)
include hx

theorem State.clockMargin_of_fresh {worn : List Nat} (hw : [0, 1].filter (fun h => decide (s.Worn ro h)) = worn) :
    s.clockMargin ro = ((s.roTake ro).each (worn.filter (fun h => decide ((s.roTake ro).trim h < 6))) State.derateTrim).when
      (worn.any (fun h => decide (6 ≤ (s.roTake ro).trim h))) State.derateClock := by
  have hcond : (!s.running || !s.mode.runs || s.age.settling) = false := by
    rw [State.running_of_run hr, hm, hs]
    rfl
  unfold State.clockMargin
  rw [if_neg (by rw [hcond]; decide), if_neg (by rw [hx]; decide), ← hw]

theorem State.clockMargin_of_unworn (h0 : ¬s.Worn ro 0) (h1 : ¬s.Worn ro 1) : s.clockMargin ro = s.roTake ro := by
  have hw : [0, 1].filter (fun h => decide (s.Worn ro h)) = [] := by
    rw [List.filter_cons_of_neg (by simpa using h0), List.filter_cons_of_neg (by simpa using h1), List.filter_nil]
  rw [State.clockMargin_of_fresh hr hm hs hx hw]
  rfl

theorem State.clockMargin_of_trimmable {h : Nat} (hh : h < 2) (hworn : s.Worn ro h) (hother : ¬s.Worn ro (1 - h))
    (htrim : (s.roTake ro).trim h < 6) : s.clockMargin ro = (s.roTake ro).derateTrim h := by
  rw [State.clockMargin_of_fresh hr hm hs hx (State.worn_one hh hworn hother), List.filter_cons_of_pos (by simpa using htrim),
    List.filter_nil, List.any_cons, List.any_nil, decide_eq_false (by omega), Bool.or_false, State.when_false]
  rfl

theorem State.clockMargin_of_trimmed {h : Nat} (hh : h < 2) (hworn : s.Worn ro h) (hother : ¬s.Worn ro (1 - h))
    (htrim : 6 ≤ (s.roTake ro).trim h) : s.clockMargin ro = (s.roTake ro).derateClock := by
  rw [State.clockMargin_of_fresh hr hm hs hx (State.worn_one hh hworn hother), List.filter_cons_of_neg (by simpa using htrim),
    List.filter_nil, List.any_cons, List.any_nil, decide_eq_true htrim, Bool.or_false, State.when_true _ _ _ rfl]
  rfl

end

/-! ### The margins of the board and the crystal (R515, R520) -/

/-- A budget set, with MARGIN_LOW where it is low: the registers of the margins other than the budget stay. -/
theorem State.setBudget_shows (s : State) {m b : Nat} (hm : m < 7) (hb : b < 65536) (hq : s.Quiet 0xDA) :
    s.Confined (0x4014 :: raiseBlocks) (s.setBudget m b) ∧ (s.setBudget m b).getF (F.AGE_BUDGET_PERMILLE m) = b ∧
      ∀ k, k < 7 → (s.setBudget m b).reg (F.AGE_VALUE_VALUE k).addr = s.reg (F.AGE_VALUE_VALUE k).addr := by
  have hblock : (F.AGE_BUDGET_PERMILLE m).addr / 0x10000 = 0x4014 ∧ 0x40140100 ≤ (F.AGE_BUDGET_PERMILLE m).addr := by
    simp only [F.AGE_BUDGET_PERMILLE]
    omega
  have h1 : s.Confined [0x4014] (s.setF (F.AGE_BUDGET_PERMILLE m) b) := State.confined_setF _ _ _ _ (by rw [hblock.1]; decide)
  have hget : (s.setF (F.AGE_BUDGET_PERMILLE m) b).getF (F.AGE_BUDGET_PERMILLE m) = b := by
    rw [State.getF_setF_same _ _ _ (by rfl)]
    exact Nat.mod_eq_of_lt hb
  have hval (k : Nat) : (s.setF (F.AGE_BUDGET_PERMILLE m) b).reg (F.AGE_VALUE_VALUE k).addr = s.reg (F.AGE_VALUE_VALUE k).addr :=
    State.reg_setF_other _ _ _ _ (by simp only [F.AGE_BUDGET_PERMILLE, F.AGE_VALUE_VALUE]; omega)
  unfold State.setBudget State.setBudgetBy
  dsimp only
  generalize s.setF (F.AGE_BUDGET_PERMILLE m) b = u at h1 hget hval ⊢
  split
  · have h2 : u.Confined [0x4014] ((u.incF F.AGE_MARGIN_LOW_CNT_COUNT).event Ev.age 0) :=
      (State.confined_incF _ _ _ (by decide)).trans (State.confined_event _ _ _ _ (by decide))
    have hreg (a : Nat) (ha : 0x40140100 ≤ a) : ((u.incF F.AGE_MARGIN_LOW_CNT_COUNT).event Ev.age 0).reg a = u.reg a := by
      have hev : Ev.age.ev.addr ≠ a := show (0x40140008 : Nat) ≠ a by omega
      have hcnt : F.AGE_MARGIN_LOW_CNT_COUNT.addr ≠ a := by
        have : F.AGE_MARGIN_LOW_CNT_COUNT.addr < 0x40140100 := by decide
        omega
      rw [State.reg_event_other _ _ _ _ hev]
      exact State.reg_setF_other _ _ _ _ hcnt
    generalize (u.incF F.AGE_MARGIN_LOW_CNT_COUNT).event Ev.age 0 = v at h2 hreg ⊢
    have hvq : v.Quiet 0xDA := (h1.trans h2).within.quiet (by decide) (by decide) (congrArg Sys.phase (h2.sys.trans h1.sys)) (by decide) hq
    have h3 : v.Confined raiseBlocks (v.raise 0xDA) := v.confined_raise 0xDA none (by decide) hvq
    have hother (a : Nat) (ha : a / 0x10000 = 0x4014) : (v.raise 0xDA).reg a = v.reg a := h3.1 a (by rw [ha]; decide)
    refine ⟨((h1.trans h2).mono (by decide)).trans (h3.mono (by decide)), ?_, fun k hk => ?_⟩
    · rw [← hget]
      exact State.getF_congr ((hother _ hblock.1).trans (hreg _ hblock.2))
    · have hk' : (F.AGE_VALUE_VALUE k).addr / 0x10000 = 0x4014 ∧ 0x40140100 ≤ (F.AGE_VALUE_VALUE k).addr := by
        simp only [F.AGE_VALUE_VALUE]
        omega
      exact (hother _ hk'.1).trans ((hreg _ hk'.2).trans (hval k))
  · exact ⟨h1.mono (by decide), hget, fun k _ => hval k⟩

theorem budgetOf_lt (limit value : Int) : budgetOf limit value < 65536 := by
  unfold budgetOf
  omega

theorem budgetOf_natCast {limit value : Nat} (h : value ≤ limit) : budgetOf limit value = min 1000 (1000 * (limit - value) / limit) := by
  have hdiv : (1000 * ((limit : Int) - value) / limit) = ((1000 * (limit - value) / limit : Nat) : Int) := by
    push_cast [h]
    rfl
  unfold budgetOf
  rw [hdiv]
  generalize 1000 * (limit - value) / limit = n
  omega

/-- The largest of a list that is not empty. -/
theorem worst_shows : ∀ l : List Int, l ≠ [] → ∃ x i, worst l = some (x, i) ∧ x ∈ l ∧ ∀ y ∈ l, y ≤ x := by
  intro l
  induction l with
  | nil => exact fun h => absurd rfl h
  | cons a l ih =>
      intro _
      unfold worst
      by_cases hl : l = []
      · subst hl
        exact ⟨a, 0, rfl, by simp, by simp⟩
      · obtain ⟨x, i, hw, hx, hmax⟩ := ih hl
        rw [hw]
        dsimp only
        split
        · next hlt =>
          refine ⟨x, i + 1, rfl, by simp [hx], fun y hy => ?_⟩
          rcases List.mem_cons.1 hy with rfl | hy
          · exact hlt.le
          · exact hmax y hy
        · next hge =>
          refine ⟨a, 0, rfl, by simp, fun y hy => ?_⟩
          rcases List.mem_cons.1 hy with rfl | hy
          · exact le_rfl
          · exact (hmax y hy).trans (not_lt.1 hge)

/-- A margin that is measured and, by its rule, given its baseline. -/
theorem State.setValue_shows (s : State) {m : Nat} (hm : m < 7) (v : Int) :
    s.Confined [0x4014] (s.setValue m v) ∧ (s.setValue m v).reg (F.AGE_VALUE_VALUE m).addr = BitVec.ofInt 32 v ∧
      (s.setValue m v).getF (F.AGE_LIMIT_LIMIT m) = s.getF (F.AGE_LIMIT_LIMIT m) := by
  refine ⟨State.confined_setReg _ _ _ _ ?_, State.reg_setReg_same _ _ _, State.getF_setReg_other _ _ _ _ ?_⟩
  · simp only [F.AGE_VALUE_VALUE, List.mem_singleton]
    omega
  · simp only [F.AGE_VALUE_VALUE, F.AGE_LIMIT_LIMIT]
    omega

theorem State.setBase_shows (s : State) {m : Nat} (hm : m < 7) (b : Nat) :
    s.Confined [0x4014] (s.setF (F.AGE_BASE_BASE m) b) ∧
      (s.setF (F.AGE_BASE_BASE m) b).reg (F.AGE_VALUE_VALUE m).addr = s.reg (F.AGE_VALUE_VALUE m).addr ∧
      (s.setF (F.AGE_BASE_BASE m) b).getF (F.AGE_LIMIT_LIMIT m) = s.getF (F.AGE_LIMIT_LIMIT m) := by
  refine ⟨State.confined_setF _ _ _ _ ?_, State.reg_setF_other _ _ _ _ ?_, State.getF_setF_other _ _ _ _ ?_⟩
  · simp only [F.AGE_BASE_BASE, List.mem_singleton]
    omega
  · simp only [F.AGE_VALUE_VALUE, F.AGE_BASE_BASE]
    omega
  · simp only [F.AGE_BASE_BASE, F.AGE_LIMIT_LIMIT]
    omega

/-- A value that has been set shows its budget. -/
theorem State.budget_of_value {s : State} {m v : Nat} (hv : v < 2 ^ 31) (h : s.reg (F.AGE_VALUE_VALUE m).addr = BitVec.ofInt 32 (v : Int)) :
    s.budget m = budgetOf (s.getF (F.AGE_LIMIT_LIMIT m)) v := by
  have hval : (BitVec.ofInt 32 (v : Int)).toInt = v := by
    rw [BitVec.toInt_ofInt]
    exact Int.bmod_eq_of_le (by omega) (by omega)
  unfold State.budget State.marginValue
  rw [h, hval]

theorem State.shuntDrift_shows {s : State} (hr : s.sys.phase = .run) (hq : s.Quiet 0xDA) {b v : Nat} (hb : b < 3)
    (hoff : s.getF (F.MOT_STATUS_STATE b) = 0) (hbase : s.otp.baseBoard.isSome = true) (hv : v < 2 ^ 31)
    (hmax : ∀ k, k < 3 → ((s.getF (F.MOT_ZERO_CODE_CODE k) : Int) - s.boardBase (27 + k)).natAbs ≤ v)
    (hex : ∃ k, k < 3 ∧ ((s.getF (F.MOT_ZERO_CODE_CODE k) : Int) - s.boardBase (27 + k)).natAbs = v) {t : State} (ht : s.shuntDrift = t) :
    t.reg (F.AGE_VALUE_VALUE 4).addr = BitVec.ofNat 32 v ∧ s.Within (0x4014 :: raiseBlocks) t ∧
      (v ≤ s.getF (F.AGE_LIMIT_LIMIT 4) → t.getF (F.AGE_BUDGET_PERMILLE 4) =
        min 1000 (1000 * (s.getF (F.AGE_LIMIT_LIMIT 4) - v) / s.getF (F.AGE_LIMIT_LIMIT 4))) := by
  have hcond : (s.running && (List.range 3).any (fun b => decide (s.getF (F.MOT_STATUS_STATE b) = 0)) && s.otp.baseBoard.isSome) = true := by
    rw [State.running_of_run hr, hbase, List.any_eq_true.2 ⟨b, List.mem_range.2 hb, decide_eq_true hoff⟩]
    rfl
  have hrises : s.shuntRises ((List.range 3).map (fun b => s.getF (F.MOT_ZERO_CODE_CODE b))) =
      (List.range 3).map (fun k => ((((s.getF (F.MOT_ZERO_CODE_CODE k) : Int) - s.boardBase (27 + k)).natAbs : Nat) : Int)) := rfl
  obtain ⟨x, i, hw, hx, hle⟩ := worst_shows
    ((List.range 3).map (fun k => ((((s.getF (F.MOT_ZERO_CODE_CODE k) : Int) - s.boardBase (27 + k)).natAbs : Nat) : Int))) (by simp)
  obtain rfl : x = (v : Int) := by
    obtain ⟨k, hk, hkx⟩ := List.mem_map.1 hx
    obtain ⟨j, hj, hjv⟩ := hex
    have h1 := hmax k (List.mem_range.1 hk)
    have h2 := hle _ (List.mem_map.2 ⟨j, List.mem_range.2 hj, rfl⟩)
    omega
  have hsome : s.otp.baseBoard.isNone = false := by
    rw [Option.isSome_iff_exists] at hbase
    obtain ⟨l, hl⟩ := hbase
    rw [hl]
    rfl
  have hmargin : s.boardMargin 4 27 (s.shuntRises ((List.range 3).map (fun b => s.getF (F.MOT_ZERO_CODE_CODE b)))) =
      (s.setValue 4 v).setF (F.AGE_BASE_BASE 4) (s.boardBase (27 + i)) := by
    unfold State.boardMargin
    rw [if_neg (by rw [hsome]; decide), hrises, hw]
  unfold State.shuntDrift at ht
  rw [if_pos hcond] at ht
  dsimp only at ht
  rw [hmargin] at ht
  obtain ⟨a1, a2, a3⟩ := s.setValue_shows (m := 4) (by decide) v
  obtain ⟨b1, b2, b3⟩ := (s.setValue 4 v).setBase_shows (m := 4) (by decide) (s.boardBase (27 + i))
  generalize (s.setValue 4 v).setF (F.AGE_BASE_BASE 4) (s.boardBase (27 + i)) = u at b1 b2 b3 ht
  have hu : s.Confined [0x4014] u := a1.trans b1
  have huq : u.Quiet 0xDA := hu.within.quiet (by decide) (by decide) (congrArg Sys.phase hu.sys) (by decide) hq
  have hbudget := State.budget_of_value hv (b2.trans a2)
  obtain ⟨c1, c2, c3⟩ := u.setBudget_shows (m := 4) (b := u.budget 4) (by decide) (by rw [hbudget]; exact budgetOf_lt _ _) huq
  rw [ht] at c1 c2 c3
  refine ⟨?_, (hu.within.mono (by decide)).trans c1.within, fun hlim => ?_⟩
  · rw [c3 4 (by decide), b2, a2, BitVec.ofInt_natCast]
  · rw [c2, hbudget, b3, a3]
    exact budgetOf_natCast hlim

theorem State.crystalDrift_shows {s : State} (hr : s.sys.phase = .run) (hq : s.Quiet 0xDA) (hp : s.ppsRuns = true) {dev : Int}
    (hlo : -2 ^ 31 ≤ dev) (hhi : dev < 2 ^ 31) {t : State} (ht : s.crystalDrift dev = t) :
    t.reg F.CLK_DRIFT_DEV.addr = BitVec.ofInt 32 dev ∧ t.reg (F.AGE_VALUE_VALUE 6).addr = BitVec.ofNat 32 (dev.natAbs / 10) ∧
      t.ember.crystal = BitVec.ofNat 32 (dev.natAbs / 10) ∧ s.Within (0x4002 :: 0x4014 :: raiseBlocks) t := by
  unfold State.crystalDrift at ht
  rw [if_pos (by rw [State.running_of_run hr, hp]; rfl)] at ht
  extract_lets v src s1 s2 at ht
  have h1 : s.Within [0x4002] s1 ∧ s1.sys = s.sys ∧ s1.ember.crystal = BitVec.ofNat 32 (dev.natAbs / 10) ∧
      s1.reg F.CLK_DRIFT_DEV.addr = BitVec.ofInt 32 dev :=
    ⟨State.Within.setReg ((State.Within.refl [0x4002] s).hidden ..) _ _ (by decide), rfl, rfl, State.reg_setReg_same _ _ _⟩
  clear_value s1
  obtain ⟨a1, a2, a3⟩ := s1.setValue_shows (m := 6) (by decide) v
  have h2 : s2 = s1.setValue 6 v := rfl
  rw [← h2] at a1 a2 a3
  clear_value s2
  obtain ⟨w1, w2, w3, w4⟩ := h1
  have hw : s.Within [0x4002, 0x4014] s2 := (w1.mono (by decide)).trans (a1.within.mono (by decide))
  have hsq : s2.Quiet 0xDA := hw.quiet (by decide) (by decide) (congrArg Sys.phase (a1.sys.trans w2)) (by decide) hq
  have hvlt : dev.natAbs / 10 < 2 ^ 31 := by omega
  have hbudget : s2.budget 6 = _ := State.budget_of_value hvlt a2
  obtain ⟨c1, -, c3⟩ := s2.setBudget_shows (m := 6) (b := s2.budget 6) (by decide) (by rw [hbudget]; exact budgetOf_lt _ _) hsq
  rw [ht] at c1 c3
  refine ⟨?_, ?_, ?_, (hw.mono (by decide)).trans (c1.within.mono (by decide))⟩
  · rw [c1.1 _ (by decide), a1.1 _ (by decide), w4]
  · rw [c3 6 (by decide), a2]
    exact BitVec.ofInt_natCast ..
  · rw [c1.ember, a1.ember, w3]



/-! ### The low sides of a bridge (R515) -/

theorem State.rdsOn_none {s : State} (b : Nat) {x : Nat × Int}
    (h : outOfRange x.2 = true ∨ ((adcCode x.2 : Int) - 8192).natAbs < 4096 ∨ 8192 < ((adcCode x.2 : Int) - 8192).natAbs) : s.rdsOn b x = none := by
  refine if_pos ?_
  rcases h with h | h | h
  · rw [h]
    rfl
  · rw [decide_eq_true h, Bool.or_true]
    rfl
  · rw [decide_eq_true h, Bool.or_true]
    rfl

theorem State.fetMeasure_none {s : State} {b : Nat} {fets : List (Option (Nat × Int))}
    (h : ∀ p, p < 3 → (fets.getD p none).bind (s.rdsOn b) = none) : s.fetMeasure b fets = s := by
  have hall : ((List.range 3).map (fun p => (fets.getD p none).bind (s.rdsOn b))).all (fun r => r.isNone) = true := by
    rw [List.all_map, List.all_eq_true]
    intro p hp
    exact Option.isNone_iff_eq_none.2 (h p (List.mem_range.1 hp))
  exact if_pos (by rw [hall, Bool.or_true])

/-- The first resistance of a low side is recorded once. -/
def firstSeen (l : List Nat) (x : Nat × Nat) : List Nat := if l.getD x.1 0 = 0 then l.set x.1 x.2 else l

theorem firstSeen_shows (l : List Nat) (x : Nat × Nat) :
    (firstSeen l x).length = l.length ∧ (∀ k, k ≠ x.1 → (firstSeen l x).getD k 0 = l.getD k 0) ∧
      (x.1 < l.length → (firstSeen l x).getD x.1 0 = if l.getD x.1 0 = 0 then x.2 else l.getD x.1 0) := by
  unfold firstSeen
  split
  · refine ⟨List.length_set, fun k hk => ?_, fun hlt => ?_⟩
    · rw [List.getD_eq_getElem?_getD, List.getElem?_set_ne hk.symm, ← List.getD_eq_getElem?_getD]
    · rw [List.getD_eq_getElem?_getD, List.getElem?_set_self hlt]
      rfl
  · exact ⟨rfl, fun _ _ => rfl, fun _ => rfl⟩

/-- The three low sides of a bridge recorded one after another. -/
theorem firstSeen_three {l : List Nat} {b : Nat} (r0 r1 r2 : Nat) (hlen : 3 * b + 2 < l.length) (p : Nat) (hp : p < 3) :
    ([(3 * b, r0), (3 * b + 1, r1), (3 * b + 2, r2)].foldl firstSeen l).getD (3 * b + p) 0 =
      if l.getD (3 * b + p) 0 = 0 then [r0, r1, r2].getD p 0 else l.getD (3 * b + p) 0 := by
  obtain ⟨a1, a2, a3⟩ := firstSeen_shows l (3 * b, r0)
  have hfold : [(3 * b, r0), (3 * b + 1, r1), (3 * b + 2, r2)].foldl firstSeen l =
      firstSeen (firstSeen (firstSeen l (3 * b, r0)) (3 * b + 1, r1)) (3 * b + 2, r2) := rfl
  rw [hfold]
  generalize firstSeen l (3 * b, r0) = l1 at a1 a2 a3
  obtain ⟨b1, b2, b3⟩ := firstSeen_shows l1 (3 * b + 1, r1)
  generalize firstSeen l1 (3 * b + 1, r1) = l2 at b1 b2 b3
  obtain ⟨-, c2, c3⟩ := firstSeen_shows l2 (3 * b + 2, r2)
  obtain rfl | rfl | rfl : p = 0 ∨ p = 1 ∨ p = 2 := by omega
  · rw [c2 _ (by simp), b2 _ (by simp)]
    exact a3 (by simp only; omega)
  · rw [c2 _ (by simp), b3 (by simp only; omega), a2 _ (by simp)]
    rfl
  · rw [c3 (by simp only; omega), b2 _ (by simp), a2 _ (by simp)]
    rfl

section
variable {s : State} {b : Nat} (r0 r1 r2 : Nat)

theorem State.fetTaken_three : (List.range 3).filterMap (fun p => ([some r0, some r1, some r2].getD p none).map (fun r => (3 * b + p, r))) =
    [(3 * b, r0), (3 * b + 1, r1), (3 * b + 2, r2)] := rfl

/-- The first resistances as the measurement leaves them. -/
def State.fetSeen (s : State) (b r0 r1 r2 : Nat) : State :=
  { s with ember := { s.ember with fetFirst := [(3 * b, r0), (3 * b + 1, r1), (3 * b + 2, r2)].foldl firstSeen s.ember.fetFirst } }

theorem State.fetTake_first (hnone : ∀ p, p < 3 → s.otp.baseFet.getD (3 * b + p) 0 = 0) :
    s.fetTake b [some r0, some r1, some r2] = s.fetSeen b r0 r1 r2 := by
  have hall : [(3 * b, r0), (3 * b + 1, r1), (3 * b + 2, r2)].all (fun x => decide (s.otp.baseFet.getD x.1 0 = 0)) = true := by
    have h0 := hnone 0 (by decide)
    have h1 := hnone 1 (by decide)
    have h2 := hnone 2 (by decide)
    simp only [List.all_cons, List.all_nil, Nat.add_zero] at *
    rw [h0, h1, h2]
    rfl
  unfold State.fetTake
  rw [State.fetTaken_three]
  exact if_pos hall

/-- The rise that the bridge shows. -/
def State.fetTop (s : State) (b r0 r1 r2 : Nat) : Nat :=
  max (fetRise (s.otp.baseFet.getD (3 * b) 0) r0)
    (max (fetRise (s.otp.baseFet.getD (3 * b + 1) 0) r1) (fetRise (s.otp.baseFet.getD (3 * b + 2) 0) r2))

/-- The latest rise of the bridge kept. -/
def State.fetKept (s : State) (b top : Nat) : State := { s with ember := { s.ember with vdsOn := s.ember.vdsOn.set b top } }

theorem State.fetTake_rise (hsome : ∀ p, p < 3 → s.otp.baseFet.getD (3 * b + p) 0 ≠ 0) :
    ∃ v k c, s.fetTake b [some r0, some r1, some r2] =
      (((((s.fetSeen b r0 r1 r2).fetKept b (s.fetTop b r0 r1 r2)).setValue 5 v).when c (fun s =>
        s.setF (F.AGE_BASE_BASE 5) (s.otp.baseFet.getD k 0))).setBudget 5
        (((((s.fetSeen b r0 r1 r2).fetKept b (s.fetTop b r0 r1 r2)).setValue 5 v).when c (fun s =>
          s.setF (F.AGE_BASE_BASE 5) (s.otp.baseFet.getD k 0))).budget 5)) := by
  have hall : [(3 * b, r0), (3 * b + 1, r1), (3 * b + 2, r2)].all (fun x => decide (s.otp.baseFet.getD x.1 0 = 0)) = false := by
    have h0 := hsome 0 (by decide)
    simp only [List.all_cons, Nat.add_zero] at *
    rw [decide_eq_false h0, Bool.false_and]
  have htop : ([(3 * b, r0), (3 * b + 1, r1), (3 * b + 2, r2)].map (fun x => (x.1, fetRise (s.otp.baseFet.getD x.1 0) x.2))).foldl
      (fun a x => max a x.2) 0 = s.fetTop b r0 r1 r2 := by
    unfold State.fetTop
    simp only [List.map_cons, List.map_nil, List.foldl_cons, List.foldl_nil]
    omega
  generalize ht : s.fetTake b [some r0, some r1, some r2] = t
  unfold State.fetTake at ht
  rw [State.fetTaken_three] at ht
  extract_lets taken first src s1 rises top on unit src2 s2 v s3 at ht
  have h2 : s2 = (s.fetSeen b r0 r1 r2).fetKept b top := rfl
  have h3 : s3 = (s2.setValue 5 v).when (decide (on.getD b 0 = v)) (fun s => s.setF (F.AGE_BASE_BASE 5) (s.otp.baseFet.getD (unit.getD 0) 0)) := rfl
  have htop' : top = s.fetTop b r0 r1 r2 := htop
  clear_value s3 s2 top
  rw [if_neg (by rw [hall]; decide)] at ht
  refine ⟨v, unit.getD 0, decide (on.getD b 0 = v), ?_⟩
  rw [← htop', ← h2, ← h3]
  exact ht.symm

variable (hr : s.sys.phase = .run) (hb : b < 3) (hrun : s.getF (F.MOT_STATUS_STATE b) = 1)
include hr hb hrun

theorem State.fetMeasure_three {x0 x1 x2 : Nat × Int} (h0 : s.rdsOn b x0 = some r0) (h1 : s.rdsOn b x1 = some r1) (h2 : s.rdsOn b x2 = some r2) :
    s.fetMeasure b [some x0, some x1, some x2] = s.fetTake b [some r0, some r1, some r2] := by
  have hrds : (List.range 3).map (fun p => ([some x0, some x1, some x2].getD p none).bind (s.rdsOn b)) = [some r0, some r1, some r2] := by
    rw [← h0, ← h1, ← h2]
    rfl
  have hcond : (!s.running || decide (3 ≤ b) || decide (s.getF (F.MOT_STATUS_STATE b) ≠ 1) ||
      [some r0, some r1, some r2].all (fun r => r.isNone)) = false := by
    rw [State.running_of_run hr, decide_eq_false (by omega), hrun]
    rfl
  unfold State.fetMeasure
  dsimp only
  rw [hrds, if_neg (by rw [hcond]; decide)]

omit hr hb hrun in
theorem State.fetSeen_shows (hlen : 3 * b + 2 < s.ember.fetFirst.length) :
    (∀ p, p < 3 → (s.fetSeen b r0 r1 r2).ember.fetFirst.getD (3 * b + p) 0 =
        if s.ember.fetFirst.getD (3 * b + p) 0 = 0 then [r0, r1, r2].getD p 0 else s.ember.fetFirst.getD (3 * b + p) 0) ∧
      { s.fetSeen b r0 r1 r2 with ember := s.ember } = s :=
  ⟨firstSeen_three r0 r1 r2 hlen, rfl⟩

omit hr hrun in
theorem State.fetTake_rise_shows (hq : s.Quiet 0xDA) (hv : s.ember.vdsOn.length = 3) (hsome : ∀ p, p < 3 → s.otp.baseFet.getD (3 * b + p) 0 ≠ 0)
    {t : State} (ht : s.fetTake b [some r0, some r1, some r2] = t) :
    t.ember.vdsOn.getD b 0 = s.fetTop b r0 r1 r2 ∧ s.Within (0x4014 :: raiseBlocks) t := by
  obtain ⟨v, k, c, he⟩ := State.fetTake_rise (s := s) r0 r1 r2 hsome
  rw [ht] at he
  have hu : s.Within [] ((s.fetSeen b r0 r1 r2).fetKept b (s.fetTop b r0 r1 r2)) ∧
      ((s.fetSeen b r0 r1 r2).fetKept b (s.fetTop b r0 r1 r2)).sys = s.sys ∧
      ((s.fetSeen b r0 r1 r2).fetKept b (s.fetTop b r0 r1 r2)).ember.vdsOn = s.ember.vdsOn.set b (s.fetTop b r0 r1 r2) :=
    ⟨(State.Within.refl _ s).hidden .., rfl, rfl⟩
  generalize (s.fetSeen b r0 r1 r2).fetKept b (s.fetTop b r0 r1 r2) = u at hu he
  obtain ⟨u1, u2, u3⟩ := hu
  obtain ⟨a1, -, -⟩ := u.setValue_shows (m := 5) (by decide) v
  have hw : u.Confined [0x4014] ((u.setValue 5 v).when c (fun s => s.setF (F.AGE_BASE_BASE 5) (s.otp.baseFet.getD k 0))) :=
    a1.trans (State.confined_when _ _ _ _ ((u.setValue 5 v).setBase_shows (m := 5) (by decide) _).1)
  generalize (u.setValue 5 v).when c (fun s => s.setF (F.AGE_BASE_BASE 5) (s.otp.baseFet.getD k 0)) = w at hw he
  have hwin : s.Within [0x4014] w := (u1.mono nofun).trans hw.within
  have hwq : w.Quiet 0xDA := hwin.quiet (by decide) (by decide) (congrArg Sys.phase (hw.sys.trans u2)) (by decide) hq
  obtain ⟨c1, -, -⟩ := w.setBudget_shows (m := 5) (b := w.budget 5) (by decide) (budgetOf_lt _ _) hwq
  rw [← he] at c1
  refine ⟨?_, (hwin.mono (by decide)).trans c1.within⟩
  rw [c1.ember, hw.ember, u3, List.getD_eq_getElem?_getD, List.getElem?_set_self (by omega)]
  rfl

end

theorem State.trim_eq_of_roTake {s : State} {ro : List Nat} (hro : ∀ x ∈ ro, x < 65536) {h : Nat} (hh : h < 2) :
    (s.roTake ro).trim h = s.trim h :=
  congrArg (toInt 8) (State.getF_congr (f := F.SYS_HALF_CORE_TRIM h) ((s.roTake_shows hro).2.1 _ (.inl (by
    simp only [F.SYS_HALF_CORE_TRIM]
    omega))))

/-- A measurement of the oscillators in the terms of the derates. -/
theorem State.roTake_kept (s : State) {ro : List Nat} (hro : ∀ x ∈ ro, x < 65536) :
    s.Within [0x4014] (s.roTake ro) ∧ (s.roTake ro).sys = s.sys ∧ (s.roTake ro).flt = s.flt ∧ (s.roTake ro).age = s.age ∧
      (∀ g : Fld, g.addr < 0x40140080 → (s.roTake ro).getF g = s.getF g) := by
  obtain ⟨h1, h2, -⟩ := s.roTake_shows hro
  refine ⟨⟨fun a ha => h2 a ?_, h1.stores⟩, ?_, ?_, ?_, fun g hg => State.getF_congr (h2 _ (.inl hg))⟩
  · by_contra hne
    exact ha (List.mem_singleton.2 (by omega))
  all_goals rw [h1.eq]

/-- Settles O14, by the measurement of the oscillators, the two derates and the margins of the board and the crystal. -/
theorem ageingMeasurements : Obligations.AgeingMeasurements := by
  unfold Obligations.AgeingMeasurements
  refine ⟨fun s ro hr hm hro => ⟨fun hset => ?_, fun hset hidle => ?_, fun hset hx => ⟨fun h hh hw ho htrim hq ha => ?_,
    fun h hh hw ho htrim hstep hq ha => ?_, fun h hh hw ho htrim hstep => ?_⟩, ?_⟩, fun s hr hq => ⟨fun b v hb hoff hbase hv hmax hex => ?_,
    fun b x hx => State.rdsOn_none b hx, fun b fets hf => congrArg Host.Outcome.next (State.fetMeasure_none hf),
    fun b x0 x1 x2 r0 r1 r2 hb hrun hlen hv h0 h1 h2 => ?_, fun hp dev => ?_, fun hp dev hlo hhi => ?_⟩⟩
  · exact congrArg Host.Outcome.next (State.clockMargin_settling hset ro)
  · have heq : s.clockMargin ro = s.roTake ro := by
      cases hx : s.flag F.AGE_PLAN_EXHAUSTED
      · obtain ⟨h0, h1⟩ := hidle.resolve_left (by rw [hx]; decide)
        exact State.clockMargin_of_unworn hr hm hset hx h0 h1
      · exact State.clockMargin_of_exhausted hr hm hset hx
    obtain ⟨h1, -, h3⟩ := s.roTake_shows hro
    obtain ⟨k1, -, -, -, k5⟩ := s.roTake_kept hro
    exact ⟨_, congrArg Host.Outcome.next heq, k1.1, h1, k5 _ (by decide), h3⟩
  · obtain ⟨k1, k2, k3, -, k5⟩ := s.roTake_kept hro
    have htr (g : Nat) (hg : g < 2) := State.trim_eq_of_roTake (s := s) hro hg
    obtain ⟨d1, d2, d3, d4, d5, d6, d7, d8⟩ := (s.roTake ro).derateTrim_shows hh (by rw [htr h hh]; exact htrim)
      (k1.quiet (by decide) (by decide) (congrArg Sys.phase k2) (by decide) hq)
      ((State.asserted_of_asserting (State.asserting_congr k3) 0xDB).trans ha) rfl
    have hwin := (k1.mono (cs := 0x4000 :: 0x4001 :: 0x4014 :: raiseBlocks) (by decide)).trans d8
    rw [htr h hh] at d1 d3
    rw [htr _ (by omega)] at d2
    exact ⟨_, congrArg Host.Outcome.next (State.clockMargin_of_trimmable hr hm hset hx hh hw ho (by rw [htr h hh]; exact htrim)), d1, d2, d3,
      d4.trans (k5 _ (by decide)), d5, d6, d7.trans (by rw [k5 _ (by decide)]), hwin.1, hwin.2⟩
  · obtain ⟨k1, k2, k3, k4, k5⟩ := s.roTake_kept hro
    have htr (g : Nat) (hg : g < 2) := State.trim_eq_of_roTake (s := s) hro hg
    have hst : (s.roTake ro).getF (F.SYS_HALF_HOB_CLK_STEP 0) = s.getF (F.SYS_HALF_HOB_CLK_STEP 0) := k5 _ (by decide)
    obtain ⟨d1, d2, d3, d4, d5, d6, d7⟩ := (s.roTake ro).derateClock_shows (by rw [hst]; exact hstep)
      (k1.quiet (by decide) (by decide) (congrArg Sys.phase k2) (by decide) hq)
      ((State.asserted_of_asserting (State.asserting_congr k3) 0xDB).trans ha) rfl
    have hwin := (k1.mono (cs := 0x4000 :: 0x4002 :: 0x4014 :: raiseBlocks) (by decide)).trans d7
    rw [hst] at d1 d2 d3
    exact ⟨_, congrArg Host.Outcome.next (State.clockMargin_of_trimmed hr hm hset hx hh hw ho (by rw [htr h hh]; exact htrim)),
      fun g hg => ⟨(d1 g hg).1.trans (htr g hg), (d1 g hg).2⟩, d2, d3, (congrArg Age.settling (d4.trans k4)).trans hset, d5,
      d6.trans (by rw [k5 _ (by decide)]), hwin.1, hwin.2⟩
  · obtain ⟨k1, k2, k3, k4, k5⟩ := s.roTake_kept hro
    have htr (g : Nat) (hg : g < 2) := State.trim_eq_of_roTake (s := s) hro hg
    have hst : (s.roTake ro).getF (F.SYS_HALF_HOB_CLK_STEP 0) = s.getF (F.SYS_HALF_HOB_CLK_STEP 0) := k5 _ (by decide)
    obtain ⟨d1, d2, d3⟩ := (s.roTake ro).derateClock_exhausts (by rw [hst]; exact hstep) ((State.flag_congr (k5 _ (by decide))).trans hx)
    have hwin := (k1.trans d3).mono (cs := [0x4013, 0x4014]) (by decide)
    exact ⟨_, congrArg Host.Outcome.next (State.clockMargin_of_trimmed hr hm hset hx hh hw ho (by rw [htr h hh]; exact htrim)), d1,
      d2.trans (k5 _ (by decide)), hwin.1, hwin.2⟩
  · exact congrArg Host.Outcome.next (if_pos (State.running_of_run hr))
  · obtain ⟨d1, d2, d3⟩ := State.shuntDrift_shows hr hq hb hoff hbase hv hmax hex rfl
    exact ⟨_, rfl, d1, d2.1, d2.2, fun hl _ => d3 hl⟩
  · have hexec : exec (.fetMeasure b [some x0, some x1, some x2]) s = .next (s.fetTake b [some r0, some r1, some r2]) :=
      congrArg Host.Outcome.next (State.fetMeasure_three r0 r1 r2 hr hb hrun h0 h1 h2)
    refine ⟨fun hnone => ?_, fun hsome => ?_⟩
    · obtain ⟨f1, f2⟩ := s.fetSeen_shows (b := b) r0 r1 r2 (by omega)
      exact ⟨_, hexec.trans (congrArg Host.Outcome.next (State.fetTake_first r0 r1 r2 hnone)), f1, f2⟩
    · obtain ⟨f1, f2⟩ := State.fetTake_rise_shows r0 r1 r2 hb hq hv hsome rfl
      exact ⟨_, hexec, f1, f2.1, f2.2⟩
  · exact congrArg Host.Outcome.next (if_neg (by rw [hp, Bool.and_false]; decide))
  · obtain ⟨d1, d2, d3, d4⟩ := State.crystalDrift_shows hr hq hp hlo hhi rfl
    exact ⟨_, rfl, d1, d2, d3, d4.1, d4.2⟩

end Sys2Proof.Machine
end

section
/-!
# The comparators
-/
namespace Sys2Proof.Machine

open Sys2Proof

/-! ### Work that raises: what stays for the next raise -/

/-- A raise that takes no action leaves how the sources react. -/
theorem State.getF_raise_cfg (s : State) {n : Nat} (hn : n < 256) (hq : s.Quiet n) {g : Fld} (hg : g.srcCfg) : (s.raise n).getF g = s.getF g := by
  have hlow : (s.doRaise n none).getF g = s.getF g := by
    have h3 : g.addr / 0x10000 = 0x4003 ∧ g.addr ≠ 0x40030018 := by
      unfold Fld.srcCfg at hg
      omega
    have hbrake : (((s.fltRecord n).startWait n).fltFreezeAct n).brakeRelease.getF g = (((s.fltRecord n).startWait n).fltFreezeAct n).getF g := by
      unfold State.brakeRelease
      split
      · have hc := ((State.confined_gdr [0x400A, 0x400B, 0x4011] (((s.fltRecord n).startWait n).fltFreezeAct n)
            { (((s.fltRecord n).startWait n).fltFreezeAct n).gdr with
              released := some ((((s.fltRecord n).startWait n).fltFreezeAct n).getF F.LDS_CFG_RELEASE_CH) }).trans
          ((State.confined_setFlag _ _ F.LDS_STATUS_BRAKE_RELEASED true (by decide)).trans (State.confined_event _ _ Ev.lds 10 (by decide)))).trans
            ((State.confined_refreshPower _).mono (by decide))
        exact hc.getF g (by rw [h3.1]; decide)
      · rfl
    rw [State.doRaise_quiet s n none hn hq, hbrake, State.getF_fltFreezeAct _ _ _ h3.1 h3.2, State.getF_startWait_cfg _ _ _ hg,
      State.getF_fltRecord_cfg _ _ _ hn hg]
  unfold State.raise State.raiseTimed
  split
  · rfl
  · unfold State.settle
    split
    · rw [State.getF_setActive_cfg _ _ _ _ hn hg, hlow]
    · exact hlow

/-- A raise that takes no action takes no sticky bit away. -/
theorem State.raise_keeps_sticky (s : State) {n k : Nat} (hn : n < 256) (hk : k < 256) (hq : s.Quiet k) (h : s.sticky n = true) :
    (s.raise k).sticky n = true := by
  have hw : ((((s.fltRecord k).startWait k).fltFreezeAct k)).sticky n = true := by
    refine (congrArg (fun x => bit x (n % 32)) ?_).trans (s.fltRecord_keeps hn hk h)
    have haddr : (F.FLT_STICKY_STICKY (n / 32)).addr / 0x10000 = 0x4003 ∧ (F.FLT_STICKY_STICKY (n / 32)).addr ≠ 0x40030018 ∧
        (F.FLT_STICKY_STICKY (n / 32)).addr < 0x40030400 := by
      simp only [F.FLT_STICKY_STICKY]
      omega
    rw [State.getF_fltFreezeAct _ _ _ haddr.1 haddr.2.1, State.getF_startWait_low _ _ _ haddr.2.2]
  have hbrake : ((((s.fltRecord k).startWait k).fltFreezeAct k)).brakeRelease.sticky n = true := by
    unfold State.brakeRelease
    split
    · refine (State.sticky_confined ?_ n hn).trans hw
      exact (((State.confined_gdr _ _ _).trans (State.confined_setFlag _ _ _ _ (by decide))).trans
        (State.confined_event _ _ _ _ (by decide))).trans ((State.confined_refreshPower _).mono (by decide))
    · exact hw
  unfold State.raise State.raiseTimed
  split
  · exact h
  · rw [State.doRaise_quiet s k none hk hq]
    unfold State.settle
    split
    · rw [State.sticky_setActive _ _ _ _ hk hn]
      exact hbrake
    · exact hbrake

/-- What work that raises leaves for the raises after it: the mode, the sources asserted, how they react, the sticky bits that are set. -/
structure State.Steady (bs : List Nat) (r s : State) : Prop where
  within : r.Within bs s
  sys : s.sys = r.sys
  mode : s.getF F.SYS_MODE_MODE = r.getF F.SYS_MODE_MODE
  asserting : s.asserting = r.asserting
  cfg : ∀ g : Fld, g.srcCfg → s.getF g = r.getF g
  sticky : ∀ n, n < 256 → r.sticky n = true → s.sticky n = true

section
variable {bs cs : List Nat} {r s t : State}

theorem State.Steady.refl (bs : List Nat) (s : State) : s.Steady bs s := ⟨.refl _ s, rfl, rfl, rfl, fun _ _ => rfl, fun _ _ h => h⟩

theorem State.Steady.trans (h : r.Steady bs s) (k : s.Steady bs t) : r.Steady bs t :=
  ⟨h.within.trans k.within, k.sys.trans h.sys, k.mode.trans h.mode, k.asserting.trans h.asserting, fun g hg => (k.cfg g hg).trans (h.cfg g hg),
    fun n hn hs => k.sticky n hn (h.sticky n hn hs)⟩

theorem State.Steady.mono (h : r.Steady bs s) (hsub : ∀ b ∈ bs, b ∈ cs) : r.Steady cs s :=
  ⟨h.within.mono hsub, h.sys, h.mode, h.asserting, h.cfg, h.sticky⟩

/-- Work outside the collector and the chip's own block. -/
theorem State.Steady.of_within (h : s.Within bs t) (h0 : 0x4000 ∉ bs) (h3 : 0x4003 ∉ bs) (hs : t.sys = s.sys) (hf : t.flt = s.flt) :
    s.Steady bs t := by
  refine ⟨h, hs, h.getF _ h0, State.asserting_congr hf, fun g hg => h.getF g ?_, fun n hn hst => (State.sticky_within h h3 hn).trans hst⟩
  have hb : g.addr / 0x10000 = 0x4003 := by
    unfold Fld.srcCfg at hg
    omega
  rw [hb]
  exact h3

theorem State.GraphKept.steady (h : s.GraphKept bs t) (h0 : 0x4000 ∉ bs) (h3 : 0x4003 ∉ bs) : s.Steady bs t :=
  .of_within h.within h0 h3 h.sys h.flt

/-- A counter of the collector, or a register of the chip beside the mode. -/
theorem State.Steady.setF_low (s : State) (f : Fld) (v : Nat) (hb : f.addr / 0x10000 ∈ bs) (hlow : f.addr < 0x40030080)
    (hm : F.SYS_MODE_MODE.addr ≠ f.addr) : s.Steady bs (s.setF f v) := by
  have hk : s.GraphKept bs (s.setF f v) := (State.GraphKept.refl bs s).setF f v hb
  refine ⟨hk.within, hk.sys, State.getF_setF_other _ _ _ _ hm.symm, State.asserting_congr hk.flt, fun g hg => State.getF_setF_other _ _ _ _ ?_,
    fun n hn hs => (congrArg (fun x => bit x (n % 32)) (State.getF_setF_other _ _ _ _ ?_)).trans hs⟩
  · unfold Fld.srcCfg at hg
    omega
  · simp only [F.FLT_STICKY_STICKY]
    omega

section
variable (h : r.Steady bs s)
include h

theorem State.Steady.quiet {n : Nat} (hn : n < 256) (hq : r.Quiet n) : s.Quiet n :=
  hq.of_getF (congrArg Sys.phase h.sys) h.mode (h.cfg _ (Fld.srcCfg_reaction n hn))

theorem State.Steady.asserted (n : Nat) : s.asserted n = r.asserted n := State.asserted_of_asserting h.asserting n

theorem State.Steady.mode_eq : s.mode = r.mode := State.mode_congr (congrArg Sys.phase h.sys) h.mode

/-- A raise without an action. -/
theorem State.Steady.raise (hb : ∀ b ∈ raiseBlocks, b ∈ bs) {n : Nat} (hn : n < 256) (hq : r.Quiet n) : r.Steady bs (s.raise n) := by
  have hsq := h.quiet hn hq
  have hc : s.Confined raiseBlocks (s.raise n) := s.confined_raise n none hn hsq
  exact h.trans ⟨hc.within.mono hb, hc.sys, hc.getF _ (by decide), s.raise_asserting n hn hsq, fun g hg => s.getF_raise_cfg hn hsq hg,
    fun m hm hs => s.raise_keeps_sticky hm hn hsq hs⟩

theorem State.Steady.raised {n : Nat} (hn : n < 256) (hq : r.Quiet n) (ha : r.asserted n = false) : (s.raise n).sticky n = true :=
  s.sticky_raise n none hn (h.quiet hn hq) ((h.asserted n).trans ha)

theorem State.Steady.setF (f : Fld) (v : Nat) (hb : f.addr / 0x10000 ∈ bs) (h0 : f.addr / 0x10000 ≠ 0x4000) (h3 : f.addr / 0x10000 ≠ 0x4003) :
    r.Steady bs (s.setF f v) := by
  have hk := (State.GraphKept.refl [f.addr / 0x10000] s).setF f v (by simp)
  refine h.trans (State.Steady.mono (.of_within hk.within ?_ ?_ hk.sys hk.flt) ?_)
  · simpa using Ne.symm h0
  · simpa using Ne.symm h3
  · simpa using hb

theorem State.Steady.setFlag (f : Fld) (b : Bool) (hb : f.addr / 0x10000 ∈ bs) (h0 : f.addr / 0x10000 ≠ 0x4000)
    (h3 : f.addr / 0x10000 ≠ 0x4003) : r.Steady bs (s.setFlag f b) := h.setF _ _ hb h0 h3

theorem State.Steady.incF (f : Fld) (hb : f.addr / 0x10000 ∈ bs) (h0 : f.addr / 0x10000 ≠ 0x4000)
    (h3 : f.addr / 0x10000 ≠ 0x4003) : r.Steady bs (s.incF f) := h.setF _ _ hb h0 h3

/-- State beside the registers, the chip's and the collector's own. -/
theorem State.Steady.hidden (ht : s.Within [] t) (hs : t.sys = s.sys) (hf : t.flt = s.flt) : r.Steady bs t :=
  h.trans (State.Steady.mono (.of_within ht nofun nofun hs hf) nofun)

theorem State.Steady.marker (k i d : Nat) : r.Steady bs (s.marker k i d) :=
  h.hidden ((State.GraphKept.refl [] s).marker k i d).within rfl rfl

theorem State.Steady.when (c : Bool) (f : State → State) (hf : r.Steady bs (f s)) : r.Steady bs (s.when c f) := by
  rcases State.when_cases s c f with ⟨-, hw⟩ | ⟨-, hw⟩ <;> rw [hw]
  · exact hf
  · exact h

theorem State.Steady.refreshPower (hb : 0x400A ∈ bs ∧ 0x400B ∈ bs) : r.Steady bs s.refreshPower := by
  have hc := State.confined_refreshPower s
  refine h.trans (State.Steady.mono (.of_within hc.within (by decide) (by decide) hc.sys s.refreshPower_flt) fun b hm => ?_)
  simp only [List.mem_cons, List.not_mem_nil, or_false] at hm
  rcases hm with rfl | rfl
  · exact hb.1
  · exact hb.2

end

/-- A retry that a mechanism makes counts towards RETRY_STORM (R434). -/
theorem State.Steady.countRetry (h : r.Steady bs s) (hb : ∀ b ∈ raiseBlocks, b ∈ bs) (hq : r.Quiet 0x30) : r.Steady bs s.countRetry := by
  unfold State.countRetry
  extract_lets fresh n src s1
  have h1 : s.Steady [] s1 :=
    ⟨(State.Within.refl _ s).hidden .., rfl, rfl, rfl, fun _ _ => rfl, fun _ _ hs => hs⟩
  clear_value s1
  have hs1 : r.Steady bs s1 := h.trans (h1.mono nofun)
  exact hs1.when _ _ (hs1.raise hb (by decide) hq)

/-- A retry that failed (R434). -/
theorem State.Steady.lasting (h : r.Steady bs s) (hb : 0x4003 ∈ bs) : r.Steady bs s.lasting := by
  have h1 : s.Steady bs (s.incF F.FLT_LASTING_CNT_COUNT) := State.Steady.setF_low s _ _ hb (by decide) (by decide)
  refine h.trans (h1.trans ?_)
  unfold State.lasting
  generalize s.incF F.FLT_LASTING_CNT_COUNT = u
  have h2 : u.Steady bs (u.setF Ev.flt.ev (u.getF Ev.flt.ev ||| 2 ^ 3)) := State.Steady.setF_low u _ _ hb (by decide) (by decide)
  unfold State.event
  dsimp only
  split
  · exact h2.marker _ _ _
  · exact h2

end



/-! ### The comparators' records -/

/-- The record of a comparator. -/
theorem getD_set_cmps (l : List CmpRun) (i m : Nat) (x : CmpRun) : (l.set i x).getD m {} = if m = i ∧ i < l.length then x else l.getD m {} := by
  rw [List.getD_eq_getElem?_getD, List.getElem?_set, List.getD_eq_getElem?_getD]
  by_cases h : i = m
  · subst h
    by_cases hl : i < l.length
    · rw [if_pos rfl, if_pos hl, if_pos ⟨rfl, hl⟩]
      rfl
    · rw [if_pos rfl, if_neg hl, if_neg fun hc => hl hc.2, List.getElem?_eq_none (by omega)]
  · rw [if_neg h, if_neg fun hc => h hc.1.symm]

/-- A part of the records that the new record keeps is kept everywhere. -/
theorem getD_set_keeps {β : Type} (p : CmpRun → β) {l : List CmpRun} {i : Nat} {x : CmpRun} (hx : p x = p (l.getD i {})) (m : Nat) :
    p ((l.set i x).getD m {}) = p (l.getD m {}) := by
  rw [getD_set_cmps]
  split
  · next h => rw [hx, h.1]
  · rfl

/-- Only the comparators' records changed. -/
def State.CmpsOnly (s t : State) : Prop := { t with cmps := s.cmps } = s

theorem State.CmpsOnly.eq {s t : State} (h : s.CmpsOnly t) : t = { s with cmps := t.cmps } := by
  have h' : { t with cmps := s.cmps } = s := h
  rw [← h']

theorem State.CmpsOnly.kept {s t : State} (h : s.CmpsOnly t) : s.GraphKept [] t := by
  rw [h.eq]
  exact .setCmps (.refl [] s) _

theorem State.enterStalled_none {s : State} {k : Nat} (h : (s.cmps.getD k {}).stalled = []) : s.enterStalled k = s := by
  unfold State.enterStalled
  rw [h]
  rfl

theorem State.each_enterStalled_none {s : State} (l : List Nat) (h : ∀ m ∈ l, (s.cmps.getD m {}).stalled = []) :
    s.each l State.enterStalled = s := State.each_none _ l _ fun m hm => State.enterStalled_none (h m hm)

/-- No entry of the other side waits under the tag and the sample of a write. -/
theorem find_partner_none {l : List (Bool × BusWrite)} {side : Bool} {w : BusWrite}
    (hnone : ∀ e ∈ l, e.1 = side ∨ e.2.tag ≠ w.tag ∨ e.2.sample ≠ w.sample) :
    l.find? (fun e => decide (e.1 ≠ side) && decide (e.2.tag = w.tag) && decide (e.2.sample = w.sample)) = none := by
  refine List.find?_eq_none.2 fun e he hc => ?_
  have := hnone e he
  simp only [Bool.and_eq_true, decide_eq_true_eq] at hc
  obtain ⟨⟨h1, h2⟩, h3⟩ := hc
  tauto

/-- The comparators on which a mismatch of comparator k makes room. -/
def cmpsOf (k : Nat) : List Nat := if andironCmps.contains k then andironCmps else [k]

theorem cmpsOf_subset (k : Nat) : ∀ m ∈ cmpsOf k, m ∈ k :: andironCmps := by
  intro m hm
  unfold cmpsOf at hm
  split at hm
  · exact List.mem_cons_of_mem _ hm
  · rw [List.mem_singleton.1 hm]
    exact List.mem_cons_self ..

theorem State.enterAll_none {s : State} {k : Nat} (h : ∀ m ∈ cmpsOf k, (s.cmps.getD m {}).stalled = []) : s.enterAll k = s :=
  State.each_enterStalled_none (cmpsOf k) h

/-- Storing a comparator's entries. -/
theorem State.setFifo_shows (s : State) {k : Nat} {fifo : List (Bool × BusWrite)} (hlen : fifo.length ≤ 256) :
    (s.setFifo k fifo).cmps = s.cmps.set k { s.cmps.getD k {} with fifo := fifo } ∧
      (s.setFifo k fifo).getF (F.CMP_STAT_DEPTH k) = fifo.length ∧ s.OnlyRegs [(F.CMP_STAT_DEPTH k).addr] (s.setFifo k fifo) ∧
      { s.setFifo k fifo with regs := s.regs, cmps := s.cmps } = s := by
  have hadr : (F.CMP_STAT_PEAK k).addr = (F.CMP_STAT_DEPTH k).addr := rfl
  refine ⟨rfl, ?_, ?_, rfl⟩
  · unfold State.setFifo State.peakF
    rw [State.getF_setF_apart _ _ _ _ (by rfl) (by simp [Fld.apart, F.CMP_STAT_PEAK, F.CMP_STAT_DEPTH]), State.getF_setF_same _ _ _ (by rfl)]
    have hw : 2 ^ (F.CMP_STAT_DEPTH k).width = 512 := rfl
    rw [hw]
    exact Nat.mod_eq_of_lt (by omega)
  · unfold State.setFifo State.peakF
    exact (State.OnlyRegs.setF (r := s) (State.OnlyRegs.refl _ s) _ _ (by simp)).setF _ _ (by rw [hadr]; simp)

theorem State.setFifo_kept (s : State) {k : Nat} (hk : k < 24) (fifo : List (Bool × BusWrite)) : s.GraphKept [0x4004] (s.setFifo k fifo) := by
  have hb : (F.CMP_STAT_DEPTH k).addr / 0x10000 ∈ [0x4004] := by
    simp only [F.CMP_STAT_DEPTH, List.mem_singleton]
    omega
  exact (((State.GraphKept.refl _ s).setCmps _).setF _ _ hb).peakF _ _ hb

/-! ### A write that enters a comparator (R426, R427) -/

section
variable {s : State} {k : Nat} {side : Bool} {w : BusWrite} (hr : s.sys.phase = .run) (hk : k < 24) (hlive : s.tagLive k w = true)
  (hlane : s.liveLane k = k)
include hr hk hlive hlane

theorem State.busOutputWrite_due : exec (.busOutputWrite k side w) s = .next ((s.compare k side w).enterAll k) := by
  have hcond : (!s.running || decide (24 ≤ k) || !s.tagLive k w) = false := by
    rw [State.running_of_run hr, decide_eq_false (by omega), hlive]
    rfl
  have hexec : exec (.busOutputWrite k side w) s = .next (s.busWrite k side w) := rfl
  rw [hexec, State.busWrite, if_neg (by rw [hcond]; decide), hlane]

variable (hlen : s.cmps.length = 24) (hstall : ∀ m ∈ k :: andironCmps, (s.cmps.getD m {}).stalled = [])
include hlen hstall

theorem State.busOutputWrite_holds
    (hnone : ∀ e ∈ (s.cmps.getD k {}).fifo, e.1 = side ∨ e.2.tag ≠ w.tag ∨ e.2.sample ≠ w.sample) (hroom : (s.cmps.getD k {}).fifo.length < 256) :
    ∃ t, exec (.busOutputWrite k side w) s = .next t ∧ (t.cmps.getD k {}).fifo = (s.cmps.getD k {}).fifo ++ [(side, w)] ∧
      t.getF (F.CMP_STAT_DEPTH k) = (s.cmps.getD k {}).fifo.length + 1 ∧ s.OnlyRegs [(F.CMP_STAT_DEPTH k).addr] t ∧
      (∀ m, m ≠ k → t.cmps.getD m {} = s.cmps.getD m {}) ∧ { t with regs := s.regs, cmps := s.cmps } = s := by
  have hcmp : s.compare k side w = s.setFifo k ((s.cmps.getD k {}).fifo ++ [(side, w)]) := by
    unfold State.compare
    dsimp only
    rw [find_partner_none hnone]
    exact if_neg (by omega)
  obtain ⟨h1, h2, h3, h4⟩ := s.setFifo_shows (k := k) (fifo := (s.cmps.getD k {}).fifo ++ [(side, w)])
    (by rw [List.length_append, List.length_singleton]; omega)
  have hst : ∀ m ∈ cmpsOf k, ((s.setFifo k ((s.cmps.getD k {}).fifo ++ [(side, w)])).cmps.getD m {}).stalled = [] := fun m hm => by
    rw [h1, getD_set_keeps CmpRun.stalled (by rfl)]
    exact hstall m (cmpsOf_subset k m hm)
  have hexec := State.busOutputWrite_due (side := side) hr hk hlive hlane
  rw [hcmp, State.enterAll_none hst] at hexec
  refine ⟨_, hexec, ?_, ?_, h3, fun m hm => ?_, h4⟩
  · rw [h1, getD_set_cmps, if_pos ⟨rfl, by omega⟩]
  · rw [h2, List.length_append, List.length_singleton]
  · rw [h1, getD_set_cmps, if_neg fun h => hm h.1]

omit hr hk hlive hlane hlen hstall in
theorem State.compare_full
    (hnone : ∀ e ∈ (s.cmps.getD k {}).fifo, e.1 = side ∨ e.2.tag ≠ w.tag ∨ e.2.sample ≠ w.sample) (hfull : 256 ≤ (s.cmps.getD k {}).fifo.length) :
    s.compare k side w = { s with cmps := s.cmps.set k { s.cmps.getD k {} with stalled := (s.cmps.getD k {}).stalled ++ [(side, w)] } } := by
  unfold State.compare
  dsimp only
  rw [find_partner_none hnone]
  exact if_pos hfull

omit hr hk hlive hlane hlen hstall in
/-- A write that stalls at a full comparator goes on stalling. -/
theorem State.enterStalled_full (hk : k < s.cmps.length) (hst : (s.cmps.getD k {}).stalled = [(side, w)])
    (hnone : ∀ e ∈ (s.cmps.getD k {}).fifo, e.1 = side ∨ e.2.tag ≠ w.tag ∨ e.2.sample ≠ w.sample) (hfull : 256 ≤ (s.cmps.getD k {}).fifo.length) :
    s.enterStalled k = s := by
  have hone : s.enterStalled k =
      ({ s with cmps := s.cmps.set k { s.cmps.getD k {} with stalled := [] } } : State).compare k side w := by
    unfold State.enterStalled
    rw [hst]
    change (({ s with cmps := s.cmps.set k { s.cmps.getD k {} with stalled := [] } } : State).each (s.cmps.getD k {}).stalled
      (fun s e => s.compare k e.1 e.2)) = _
    rw [hst]
    rfl
  have hget : (s.cmps.set k { s.cmps.getD k {} with stalled := [] }).getD k {} = { s.cmps.getD k {} with stalled := [] } := by
    rw [getD_set_cmps, if_pos ⟨rfl, hk⟩]
  have hback : (s.cmps.set k { s.cmps.getD k {} with stalled := [] }).set k { s.cmps.getD k {} with stalled := [(side, w)] } = s.cmps := by
    have hc : ({ s.cmps.getD k {} with stalled := [(side, w)] } : CmpRun) = s.cmps.getD k {} := by rw [← hst]
    rw [List.set_set, hc]
    refine List.ext_getElem (by simp) fun n h1 h2 => ?_
    rw [List.getElem_set]
    split
    · next he =>
      subst he
      rw [List.getD_eq_getElem?_getD, List.getElem?_eq_getElem hk]
      rfl
    · rfl
  rw [hone, State.compare_full (by rw [hget]; exact hnone) (by rw [hget]; exact hfull), hget]
  change ({ s with cmps := (s.cmps.set k { s.cmps.getD k {} with stalled := [] }).set k { s.cmps.getD k {} with stalled := [(side, w)] } } : State) = s
  rw [hback]

theorem State.busOutputWrite_stalls
    (hnone : ∀ e ∈ (s.cmps.getD k {}).fifo, e.1 = side ∨ e.2.tag ≠ w.tag ∨ e.2.sample ≠ w.sample) (hfull : 256 ≤ (s.cmps.getD k {}).fifo.length) :
    ∃ t, exec (.busOutputWrite k side w) s = .next t ∧ (t.cmps.getD k {}).stalled = [(side, w)] ∧
      (t.cmps.getD k {}).fifo = (s.cmps.getD k {}).fifo ∧ { t with cmps := s.cmps } = s := by
  have hexec := State.busOutputWrite_due (side := side) hr hk hlive hlane
  rw [State.compare_full hnone hfull, hstall k (by simp), List.nil_append] at hexec
  have hget (m : Nat) : (s.cmps.set k { s.cmps.getD k {} with stalled := [(side, w)] }).getD m {} =
      if m = k then { s.cmps.getD k {} with stalled := [(side, w)] } else s.cmps.getD m {} := by
    rw [getD_set_cmps]
    by_cases hm : m = k
    · rw [if_pos ⟨hm, by omega⟩, if_pos hm]
    · rw [if_neg fun h => hm h.1, if_neg hm]
  have hsame : ({ s with cmps := s.cmps.set k { s.cmps.getD k {} with stalled := [(side, w)] } } : State).enterAll k =
      { s with cmps := s.cmps.set k { s.cmps.getD k {} with stalled := [(side, w)] } } := by
    refine State.each_none _ (cmpsOf k) _ fun m hm => ?_
    by_cases he : m = k
    · subst he
      refine State.enterStalled_full (side := side) (w := w) ?_ ?_ ?_ ?_
      · change m < (s.cmps.set m _).length
        rw [List.length_set]
        omega
      all_goals
        simp only [hget, if_true]
      · exact hnone
      · exact hfull
    · refine State.enterStalled_none ?_
      change ((s.cmps.set k _).getD m {}).stalled = []
      rw [hget, if_neg he]
      exact hstall m (cmpsOf_subset k m hm)
  rw [hsame] at hexec
  refine ⟨_, hexec, ?_, ?_, rfl⟩
  · change ((s.cmps.set k _).getD k {}).stalled = _
    rw [hget, if_pos rfl]
  · change ((s.cmps.set k _).getD k {}).fifo = _
    rw [hget, if_pos rfl]

end



/-! ### A pair that is equal is released (R426, R430) -/

/-- The records of the comparators agree in what they hold and in what stalls. -/
def State.SameEntries (s t : State) : Prop :=
  ∀ m, (t.cmps.getD m {}).fifo = (s.cmps.getD m {}).fifo ∧ (t.cmps.getD m {}).stalled = (s.cmps.getD m {}).stalled

theorem State.SameEntries.refl (s : State) : s.SameEntries s := fun _ => ⟨rfl, rfl⟩

theorem State.SameEntries.trans {r s t : State} (h : r.SameEntries s) (k : s.SameEntries t) : r.SameEntries t :=
  fun m => ⟨(k m).1.trans (h m).1, (k m).2.trans (h m).2⟩

theorem State.SameEntries.of_cmps {s t : State} (h : t.cmps = s.cmps) : s.SameEntries t := fun m => by rw [h]; exact ⟨rfl, rfl⟩

theorem State.sameEntries_set {s : State} {i : Nat} {x : CmpRun} (hf : x.fifo = (s.cmps.getD i {}).fifo) (hs : x.stalled = (s.cmps.getD i {}).stalled) :
    s.SameEntries { s with cmps := s.cmps.set i x } := fun m =>
  ⟨getD_set_keeps CmpRun.fifo hf m, getD_set_keeps CmpRun.stalled hs m⟩

theorem State.CmpsOnly.rest {r s t : State} (h : s.CmpsOnly t) (hs : { s with regs := r.regs, cmps := r.cmps } = r) :
    { t with regs := r.regs, cmps := r.cmps } = r := by
  rw [h.eq]
  exact hs

theorem State.setRetries_shows (s : State) (k : Nat) (l : List Nat) :
    s.CmpsOnly (s.setRetries k l) ∧ s.SameEntries (s.setRetries k l) ∧
      (∀ m, ((s.setRetries k l).cmps.getD m {}).flagged = (s.cmps.getD m {}).flagged ∧
        ((s.setRetries k l).cmps.getD m {}).passed = (s.cmps.getD m {}).passed) ∧
      (retryHome k < s.cmps.length → (s.setRetries k l).retries k = l) :=
  ⟨rfl, State.sameEntries_set (by rfl) (by rfl), fun m => ⟨getD_set_keeps CmpRun.flagged (by rfl) m, getD_set_keeps CmpRun.passed (by rfl) m⟩, fun h => by
    unfold State.retries State.setRetries
    rw [getD_set_cmps, if_pos ⟨rfl, h⟩]⟩

/-- What the partner of a comparator of a pair has judged the other way. -/
def CmpRun.judged (d : CmpRun) (pass : Bool) : List Nat := if pass then d.flagged else d.passed

/-- The record of a partner whose verdict has been used. -/
def CmpRun.judgedDone (d : CmpRun) (tag : Nat) : CmpRun :=
  { d with passed := d.passed.filter (fun t => decide (t ≠ tag)), flagged := d.flagged.filter (fun t => decide (t ≠ tag)) }

/-- One comparator's record replaced by another with the same entries and retries. -/
theorem State.setCmp_agrees (s : State) (i : Nat) {x : CmpRun} (hf : x.fifo = (s.cmps.getD i {}).fifo)
    (hs : x.stalled = (s.cmps.getD i {}).stalled) (hr : x.retry = (s.cmps.getD i {}).retry) {t : State}
    (ht : { s with cmps := s.cmps.set i x } = t) :
    s.CmpsOnly t ∧ s.SameEntries t ∧ t.cmps.length = s.cmps.length ∧ ∀ m, (t.cmps.getD m {}).retry = (s.cmps.getD m {}).retry := by
  rw [← ht]
  exact ⟨rfl, State.sameEntries_set hf hs, List.length_set, fun m => getD_set_keeps CmpRun.retry hr m⟩

/-- A verdict that the partner has not contradicted only changes what the pair keeps of it. -/
theorem State.pairVerdict_agrees {s : State} {k tag : Nat} {pass : Bool}
    (h : ∀ m, pairOf k = some m → ((s.cmps.getD m {}).judged pass).contains tag = false) {t : State} (ht : s.pairVerdict k tag pass = t) :
    s.CmpsOnly t ∧ s.SameEntries t ∧ t.cmps.length = s.cmps.length ∧ ∀ m, (t.cmps.getD m {}).retry = (s.cmps.getD m {}).retry := by
  unfold State.pairVerdict at ht
  split at ht
  · rw [← ht]
    exact ⟨rfl, .refl s, rfl, fun _ => rfl⟩
  · next m hm =>
    have hno : (if pass = true then (s.cmps.getD m {}).flagged else (s.cmps.getD m {}).passed).contains tag = false := h m hm
    extract_lets d same other done c at ht
    have ho : other.contains tag = false := hno
    rw [ho, if_neg Bool.false_ne_true] at ht
    clear_value same
    split at ht
    · exact s.setCmp_agrees m (x := (s.cmps.getD m {}).judgedDone tag) rfl rfl rfl ht
    · refine s.setCmp_agrees k ?_ ?_ ?_ ht <;> cases pass <;> rfl

/-- A verdict that the partner has contradicted withholds the write. -/
theorem State.pairVerdict_differs {s : State} {k tag m : Nat} {pass : Bool} (hm : pairOf k = some m)
    (h : ((s.cmps.getD m {}).judged pass).contains tag = true) :
    s.pairVerdict k tag pass =
      ((({ s with cmps := s.cmps.set m ((s.cmps.getD m {}).judgedDone tag) } : State)).withheld k).raise 0x19 := by
  unfold State.pairVerdict
  rw [hm]
  unfold CmpRun.judged at h
  dsimp only
  rw [h, if_pos rfl]
  rfl

theorem guards_beside {k : Nat} (h : k ≠ 8 ∧ k ≠ 10 ∧ k ≠ 11) (a : Nat) : guards k a = false := by
  obtain ⟨h8, h10, h11⟩ := h
  unfold guards
  dsimp only
  split
  · exact absurd rfl h8
  · exact absurd rfl h10
  · exact absurd rfl h11
  · rfl

theorem State.released_beside (s : State) {k : Nat} (h : k < 8 ∨ 13 ≤ k) (w : BusWrite) : s.released k w = s := by
  have hnone : (busWords w).filter (fun x => guards k x.1) = [] :=
    List.filter_eq_nil_iff.2 fun x _ => by rw [guards_beside (by omega)]; exact Bool.false_ne_true
  unfold State.released
  rw [if_neg (by omega), if_neg (by omega), hnone]
  rfl

theorem State.mbxRelease_beside (s : State) {k : Nat} (h : k ≠ 10) : s.mbxRelease k = s := by
  unfold State.mbxRelease
  rw [decide_eq_false h, Bool.false_and, State.when_false]

/-- What is withheld with a write of the comparators 16 to 21 (R430). -/
def State.WithheldOf (s : State) (k : Nat) : Prop :=
  (k = 16 ∨ k = 19 → s.flu.withhold = true) ∧ (k = 17 ∨ k = 20 → s.gdr.enOffHalf = true) ∧ (k = 18 ∨ k = 21 → s.ash.withhold = true)

theorem State.withheld_shows (s : State) (k : Nat) : (s.withheld k).WithheldOf k ∧ s.Steady raiseBlocks (s.withheld k) ∧ (s.withheld k).cmps = s.cmps ∧
    (s.withheld k).flu.cycle = s.flu.cycle := by
  by_cases h17 : k = 17 ∨ k = 20
  · have heq : s.withheld k = ({ s with gdr := { s.gdr with enOffHalf := true } } : State).refreshPower := by
      rcases h17 with rfl | rfl <;> rfl
    have hst := (State.Steady.refl raiseBlocks s).hidden (t := { s with gdr := { s.gdr with enOffHalf := true } })
      ((State.Within.refl _ s).hidden ..) rfl rfl
    have hg : ({ s with gdr := { s.gdr with enOffHalf := true } } : State).gdr.enOffHalf = true := rfl
    have hcm : ({ s with gdr := { s.gdr with enOffHalf := true } } : State).cmps = s.cmps := rfl
    have hcy : ({ s with gdr := { s.gdr with enOffHalf := true } } : State).flu.cycle = s.flu.cycle := rfl
    rw [heq]
    generalize ({ s with gdr := { s.gdr with enOffHalf := true } } : State) = u at hst hg hcm hcy
    obtain ⟨-, r, f, j, g, m, hrest⟩ := State.confined_refreshPower u
    refine ⟨⟨fun h => absurd h17 (by omega), fun _ => ?_, fun h => absurd h17 (by omega)⟩, hst.refreshPower (by decide), ?_, ?_⟩
    · rw [State.refreshPower_gdr, hg]
    · rw [← hcm, hrest]
    · rw [← hcy, hrest]
  · by_cases h16 : k = 16 ∨ k = 19
    · have heq : s.withheld k = { s with flu := { s.flu with withhold := true } } := by
        rcases h16 with rfl | rfl <;> rfl
      rw [heq]
      exact ⟨⟨fun _ => rfl, fun h => absurd h h17, fun h => absurd h16 (by omega)⟩,
        (State.Steady.refl raiseBlocks s).hidden ((State.Within.refl _ s).hidden ..) rfl rfl, rfl, rfl⟩
    · by_cases h18 : k = 18 ∨ k = 21
      · have heq : s.withheld k = { s with ash := { s.ash with withhold := true } } := by
          rcases h18 with rfl | rfl <;> rfl
        rw [heq]
        exact ⟨⟨fun h => absurd h h16, fun h => absurd h h17, fun _ => rfl⟩,
          (State.Steady.refl raiseBlocks s).hidden ((State.Within.refl _ s).hidden ..) rfl rfl, rfl, rfl⟩
      · have heq : s.withheld k = s := by
          simp only [not_or] at h16 h17 h18
          unfold State.withheld
          dsimp only
          rw [decide_eq_false h16.1, decide_eq_false h16.2, decide_eq_false h17.1, decide_eq_false h17.2, decide_eq_false h18.1,
            decide_eq_false h18.2]
          rfl
        rw [heq]
        exact ⟨⟨fun h => absurd h h16, fun h => absurd h h17, fun h => absurd h h18⟩, .refl _ s, rfl, rfl⟩

/-- What is withheld stays so through a raise. -/
theorem State.WithheldOf.raise {s : State} {k n : Nat} (h : s.WithheldOf k) (hn : n < 256) (hq : s.Quiet n) : (s.raise n).WithheldOf k := by
  obtain ⟨h1, h2, h3⟩ := h
  obtain ⟨x, hx⟩ := s.raise_sameGdr n hn hq
  obtain ⟨-, r, f, j, g, m, hrest⟩ := s.confined_raise n none hn hq
  have hrest' : s.raise n = { s with regs := r, flt := f, jrn := j, gdr := g, mots := m } := hrest
  refine ⟨fun hk => ?_, fun hk => ?_, fun hk => ?_⟩
  · rw [hrest']
    exact h1 hk
  · rw [hx]
    exact h2 hk
  · rw [hrest']
    exact h3 hk

/-- The lane or pair of a released write after its entries have been taken out. -/
def State.paired (s : State) (k : Nat) (e : Bool × BusWrite) (tag : Nat) : State :=
  (s.setFifo k ((s.cmps.getD k {}).fifo.erase e)).setRetries k (s.retryRest k tag)

section
variable {s : State} {k : Nat} {side : Bool} {w : BusWrite} {e : Bool × BusWrite}

theorem State.paired_shows (hk : k < 24) (he : e ∈ (s.cmps.getD k {}).fifo) (hlen : s.cmps.length = 24) (hle : (s.cmps.getD k {}).fifo.length ≤ 256)
    (tag : Nat) {t : State} (ht : s.paired k e tag = t) :
    (t.cmps.getD k {}).fifo = (s.cmps.getD k {}).fifo.erase e ∧ t.getF (F.CMP_STAT_DEPTH k) = (s.cmps.getD k {}).fifo.length - 1 ∧
      s.OnlyRegs [(F.CMP_STAT_DEPTH k).addr] t ∧ { t with regs := s.regs, cmps := s.cmps } = s ∧ s.GraphKept [0x4004] t ∧
      (∀ m, (t.cmps.getD m {}).stalled = (s.cmps.getD m {}).stalled) ∧
      ∀ m, (t.cmps.getD m {}).flagged = (s.cmps.getD m {}).flagged := by
  have hlt := List.length_erase_of_mem he
  obtain ⟨h1, h2, h3, h4⟩ := s.setFifo_shows (k := k) (fifo := (s.cmps.getD k {}).fifo.erase e) (by omega)
  have hkept := s.setFifo_kept hk ((s.cmps.getD k {}).fifo.erase e)
  have hst (m : Nat) : ((s.setFifo k ((s.cmps.getD k {}).fifo.erase e)).cmps.getD m {}).stalled = (s.cmps.getD m {}).stalled := by
    rw [h1]
    exact getD_set_keeps CmpRun.stalled (by rfl) m
  have hfl (m : Nat) : ((s.setFifo k ((s.cmps.getD k {}).fifo.erase e)).cmps.getD m {}).flagged = (s.cmps.getD m {}).flagged := by
    rw [h1]
    exact getD_set_keeps CmpRun.flagged (by rfl) m
  have hfifo : ((s.setFifo k ((s.cmps.getD k {}).fifo.erase e)).cmps.getD k {}).fifo = (s.cmps.getD k {}).fifo.erase e := by
    rw [h1, getD_set_cmps, if_pos ⟨rfl, by omega⟩]
  unfold State.paired at ht
  generalize s.setFifo k ((s.cmps.getD k {}).fifo.erase e) = u at h2 h3 h4 hkept hst hfl hfifo ht
  obtain ⟨r1, r2, r3, -⟩ := u.setRetries_shows k (s.retryRest k tag)
  rw [ht] at r1 r2 r3
  have hregs : t.regs = u.regs := by rw [r1.eq]
  refine ⟨(r2 k).1.trans hfifo, (State.getF_of_regs hregs _).trans (h2.trans hlt), State.OnlyRegs.of_regs h3 hregs, ?_,
    hkept.trans (r1.kept.mono nofun), fun m => (r2 m).2.trans (hst m), fun m => (r3 m).1.trans (hfl m)⟩
  exact r1.rest h4

variable (hr : s.sys.phase = .run) (hk : k < 24) (hlive : s.tagLive k w = true) (hlane : s.liveLane k = k) (hlen : s.cmps.length = 24)
  (hfind : (s.cmps.getD k {}).fifo.find? (fun e => decide (e.1 ≠ side) && decide (e.2.tag = w.tag) && decide (e.2.sample = w.sample)) = some e)
  (heq : e.2 = w) (hretry : s.isRetry k w.tag = false)
include hfind heq hretry

theorem State.compare_equal :
    s.compare k side w = (((s.paired k e w.tag).pairVerdict k w.tag true).released k w).mbxRelease k := by
  unfold State.compare
  dsimp only
  rw [hfind]
  dsimp only
  rw [if_pos heq, hretry, State.when_false]
  rfl

variable (hstall : ∀ m ∈ k :: andironCmps, (s.cmps.getD m {}).stalled = []) (hle : (s.cmps.getD k {}).fifo.length ≤ 256)

omit heq hretry in
include hk hlen hstall hle in
/-- The state in which an equal pair is released, where no partner has flagged the write. -/
theorem State.judged_shows (hpair : ∀ m, pairOf k = some m → (s.cmps.getD m {}).flagged.contains w.tag = false) {t : State}
    (ht : (s.paired k e w.tag).pairVerdict k w.tag true = t) :
    (t.cmps.getD k {}).fifo = (s.cmps.getD k {}).fifo.erase e ∧ t.getF (F.CMP_STAT_DEPTH k) = (s.cmps.getD k {}).fifo.length - 1 ∧
      s.OnlyRegs [(F.CMP_STAT_DEPTH k).addr] t ∧ { t with regs := s.regs, cmps := s.cmps } = s ∧
      ∀ m ∈ cmpsOf k, (t.cmps.getD m {}).stalled = [] := by
  obtain ⟨p1, p2, p3, p4, -, p6, p7⟩ := State.paired_shows hk (List.mem_of_find?_eq_some hfind) hlen hle w.tag rfl
  generalize s.paired k e w.tag = u at p1 p2 p3 p4 p6 p7 ht
  obtain ⟨v1, v2, -⟩ := State.pairVerdict_agrees (pass := true) (fun m hm => by
    change (u.cmps.getD m {}).flagged.contains w.tag = false
    rw [p7]
    exact hpair m hm) ht
  have hregs : t.regs = u.regs := by rw [v1.eq]
  exact ⟨(v2 k).1.trans p1, (State.getF_of_regs hregs _).trans p2, State.OnlyRegs.of_regs p3 hregs, v1.rest p4,
    fun m hm => (v2 m).2.trans ((p6 m).trans (hstall m (cmpsOf_subset k m hm)))⟩

include hr hk hlive hlane hlen hstall hle

/-- A released write of a lane, an engine or a pin: it leaves the comparator, and nothing else changes. -/
theorem State.busOutputWrite_equal (hbeside : k < 8 ∨ 13 ≤ k)
    (hpair : ∀ m, pairOf k = some m → (s.cmps.getD m {}).flagged.contains w.tag = false) :
    ∃ t, exec (.busOutputWrite k side w) s = .next t ∧ (t.cmps.getD k {}).fifo = (s.cmps.getD k {}).fifo.erase e ∧
      t.getF (F.CMP_STAT_DEPTH k) = (s.cmps.getD k {}).fifo.length - 1 ∧ s.OnlyRegs [(F.CMP_STAT_DEPTH k).addr] t ∧
      { t with regs := s.regs, cmps := s.cmps } = s := by
  obtain ⟨j1, j2, j3, j4, j5⟩ := State.judged_shows hk hlen hfind hstall hle hpair rfl
  have hexec := State.busOutputWrite_due (side := side) hr hk hlive hlane
  rw [State.compare_equal hfind heq hretry, State.released_beside _ hbeside, State.mbxRelease_beside _ (by omega), State.enterAll_none j5] at hexec
  exact ⟨_, hexec, j1, j2, j3, j4⟩

/-- A write that the other comparator of its pair has flagged is withheld (R430). -/
theorem State.busOutputWrite_flagged {m : Nat} (hm : pairOf k = some m) (hflag : (s.cmps.getD m {}).flagged.contains w.tag = true)
    (hq : s.Quiet 0x19) (ha : s.asserted 0x19 = false) :
    ∃ t, exec (.busOutputWrite k side w) s = .next t ∧ t.sticky 0x19 = true ∧ (k = 16 ∨ k = 19 → t.flu.withhold = true) ∧
      (k = 17 ∨ k = 20 → t.gdr.enOffHalf = true) ∧ (k = 18 ∨ k = 21 → t.ash.withhold = true) ∧ t.mode = s.mode ∧
      s.SameRegs (0x4004 :: raiseBlocks) t ∧ s.SameStores t := by
  have hk13 : 13 ≤ k := by
    unfold pairOf at hm
    split at hm
    · omega
    · split at hm
      · omega
      · exact absurd hm nofun
  obtain ⟨-, -, -, -, p5, p6, p7⟩ := State.paired_shows hk (List.mem_of_find?_eq_some hfind) hlen hle w.tag rfl
  have hexec := State.busOutputWrite_due (side := side) hr hk hlive hlane
  rw [State.compare_equal hfind heq hretry, State.released_beside _ (.inr hk13), State.mbxRelease_beside _ (by omega)] at hexec
  generalize s.paired k e w.tag = u at p5 p6 p7 hexec
  rw [State.pairVerdict_differs hm (by change (u.cmps.getD m {}).flagged.contains w.tag = true; rw [p7]; exact hflag)] at hexec
  have hdone : u.CmpsOnly { u with cmps := u.cmps.set m ((u.cmps.getD m {}).judgedDone w.tag) } ∧
      ∀ n, (({ u with cmps := u.cmps.set m ((u.cmps.getD m {}).judgedDone w.tag) } : State).cmps.getD n {}).stalled = (u.cmps.getD n {}).stalled :=
    ⟨rfl, fun n => getD_set_keeps CmpRun.stalled (by rfl) n⟩
  generalize ({ u with cmps := u.cmps.set m ((u.cmps.getD m {}).judgedDone w.tag) } : State) = v at hdone hexec
  obtain ⟨d1, d2⟩ := hdone
  obtain ⟨w1, w2, w3, -⟩ := v.withheld_shows k
  have hst : s.Steady (0x4004 :: raiseBlocks) (v.withheld k) :=
    (((p5.steady (by decide) (by decide)).mono (by decide)).trans ((d1.kept.steady nofun nofun).mono nofun)).trans (w2.mono (by decide))
  generalize v.withheld k = x at w1 w3 hst hexec
  have hraise := hst.raise (by decide) (n := 0x19) (by decide) hq
  have hsticky := hst.raised (n := 0x19) (by decide) hq ha
  have hheld := w1.raise (n := 0x19) (by decide) (hst.quiet (by decide) hq)
  have hcmps : (x.raise 0x19).cmps = v.cmps := by
    obtain ⟨-, r, f, j, g, mo, hrest⟩ := x.confined_raise 0x19 none (by decide) (hst.quiet (by decide) hq)
    have hrest' : x.raise 0x19 = { x with regs := r, flt := f, jrn := j, gdr := g, mots := mo } := hrest
    rw [hrest', ← w3]
  rw [State.enterAll_none fun n hn => by rw [hcmps, d2, p6]; exact hstall n (cmpsOf_subset k n hn)] at hexec
  obtain ⟨h1, h2, h3⟩ := hheld
  exact ⟨_, hexec, hsticky, h1, h2, h3, hraise.mode_eq, hraise.within.1, hraise.within.2⟩

end



/-! ### Where a released write goes (R426) -/

/-- One byte stored in the tiles. -/
def State.putTile (s : State) (x : Nat × Byte) : State := { s with tiles := Store.put s.tiles 0 x.1 x.2 }

/-- Only the tiles changed. -/
def State.TilesOnly (s t : State) : Prop := { t with tiles := s.tiles } = s

theorem State.TilesOnly.eq {s t : State} (h : s.TilesOnly t) : t = { s with tiles := t.tiles } := by
  have h' : { t with tiles := s.tiles } = s := h
  rw [← h']

/-- The bytes of a bus output that the enables name. -/
theorem State.each_putTile (addr data : Nat) (inr : Nat → Bool) (l : List Nat) : ∀ s : State,
    s.TilesOnly (s.each ((l.map (fun n => (addr + n, (BitVec.ofNat 8 (data / 256 ^ n) : Byte)))).filter (fun x => inr x.1)) State.putTile) ∧
      ∀ a, Mem.byte 0 (s.each ((l.map (fun n => (addr + n, (BitVec.ofNat 8 (data / 256 ^ n) : Byte)))).filter (fun x => inr x.1))
        State.putTile).tiles a = if inr a = true ∧ addr ≤ a ∧ a - addr ∈ l then BitVec.ofNat 8 (data / 256 ^ (a - addr)) else Mem.byte 0 s.tiles a := by
  induction l with
  | nil =>
      exact fun s => ⟨rfl, fun a => (if_neg (by simp)).symm⟩
  | cons n l ih =>
      intro s
      rw [List.map_cons]
      by_cases hin : inr (addr + n) = true
      · rw [List.filter_cons_of_pos (p := fun x : Nat × Byte => inr x.1) hin]
        obtain ⟨i1, i2⟩ := ih (s.putTile (addr + n, BitVec.ofNat 8 (data / 256 ^ n)))
        have hcons (m : List (Nat × Byte)) : s.each ((addr + n, (BitVec.ofNat 8 (data / 256 ^ n) : Byte)) :: m) State.putTile =
            (s.putTile (addr + n, BitVec.ofNat 8 (data / 256 ^ n))).each m State.putTile := rfl
        rw [hcons]
        refine ⟨?_, fun a => (i2 a).trans ?_⟩
        · unfold State.TilesOnly
          rw [i1.eq]
          rfl
        · by_cases hl : inr a = true ∧ addr ≤ a ∧ a - addr ∈ l
          · obtain ⟨l1, l2, l3⟩ := hl
            rw [if_pos ⟨l1, l2, l3⟩, if_pos ⟨l1, l2, List.mem_cons_of_mem _ l3⟩]
          · rw [if_neg hl]
            by_cases ha : a = addr + n
            · subst ha
              rw [if_pos ⟨hin, by omega, by simp⟩]
              have hsub : addr + n - addr = n := by omega
              rw [hsub]
              exact Store.get_put_same _ _ _ _
            · rw [if_neg fun hc => ?_]
              · exact Store.get_put_other _ _ _ _ _ _ (Ne.symm ha)
              · obtain ⟨c1, c2, c3⟩ := hc
                rcases List.mem_cons.1 c3 with h | h
                · exact ha (by omega)
                · exact hl ⟨c1, c2, h⟩
      · rw [List.filter_cons_of_neg (p := fun x : Nat × Byte => inr x.1) hin]
        obtain ⟨i1, i2⟩ := ih s
        refine ⟨i1, fun a => (i2 a).trans ?_⟩
        by_cases hl : inr a = true ∧ addr ≤ a ∧ a - addr ∈ l
        · obtain ⟨l1, l2, l3⟩ := hl
          rw [if_pos ⟨l1, l2, l3⟩, if_pos ⟨l1, l2, List.mem_cons_of_mem _ l3⟩]
        · rw [if_neg hl, if_neg fun hc => ?_]
          obtain ⟨c1, c2, c3⟩ := hc
          rcases List.mem_cons.1 c3 with h | h
          · exact hin (by rwa [show addr + n = a by omega])
          · exact hl ⟨c1, c2, h⟩

/-- A released tile write of the andirons. -/
theorem State.released_tiles (s : State) (w : BusWrite) {t : State} (ht : s.released 9 w = t) :
    s.TilesOnly t ∧ ∀ a, Mem.byte 0 t.tiles a =
      if tileBase ≤ a ∧ a < tileBase + 0x800000 ∧ w.addr ≤ a ∧ a < w.addr + 32 ∧ bit w.be (a - w.addr) = true then
        BitVec.ofNat 8 (w.data / 256 ^ (a - w.addr))
      else Mem.byte 0 s.tiles a := by
  have heq : s.released 9 w = s.each ((((List.range 32).filter (fun n => bit w.be n)).map (fun n =>
      (w.addr + n, (BitVec.ofNat 8 (w.data / 256 ^ n) : Byte)))).filter (fun x => decide (tileBase ≤ x.1) && decide (x.1 < tileBase + 0x800000)))
        State.putTile := rfl
  obtain ⟨h1, h2⟩ := State.each_putTile w.addr w.data (fun a => decide (tileBase ≤ a) && decide (a < tileBase + 0x800000))
    ((List.range 32).filter (fun n => bit w.be n)) s
  rw [← heq, ht] at h1 h2
  refine ⟨h1, fun a => (h2 a).trans (if_congr ?_ rfl rfl)⟩
  rw [Bool.and_eq_true, decide_eq_true_eq, decide_eq_true_eq, List.mem_filter, List.mem_range]
  constructor
  · rintro ⟨⟨h1, h2⟩, h3, h4, h5⟩
    exact ⟨h1, h2, h3, by omega, h5⟩
  · rintro ⟨h1, h2, h3, h4, h5⟩
    exact ⟨⟨h1, h2⟩, h3, by omega, h5⟩

/-- A released register write of the andirons. -/
theorem State.released_register (s : State) {w : BusWrite} {a : Nat} {v : Word} {kk : RegKind} {f : Nat} (hw : busWords w = [(a, v)])
    (hg : guards 11 a = true) (hf : findReg a = some (kk, f)) (hrw : kk.rw ≠ 0) (hiso : isoAbsent a = false) (how : ownWrite a = false) :
    s.released 11 w = s.setReg a (mixBits (s.reg a) v kk.rw) := by
  have hone : (busWords w).filter (fun x => guards 11 x.1) = [(a, v)] := by
    rw [hw, List.filter_cons_of_pos (p := fun x : Nat × Word => guards 11 x.1) hg, List.filter_nil]
  have hblock : a / 2 ^ 16 ≠ 0x4016 := by
    intro hb
    unfold guards at hg
    rw [hb] at hg
    exact absurd hg (by decide)
  unfold ownWrite at how
  simp only [Bool.or_eq_false_iff, decide_eq_false_iff_not, List.contains_eq_mem, List.mem_cons, List.not_mem_nil, or_false, not_or] at how
  obtain ⟨⟨⟨⟨-, -, -, -, -, -, hadc, hdb⟩, hmbx⟩, -⟩, -⟩ := how
  have hsel : a ≠ F.MBX_SEL_MAILBOX.addr := by
    rintro rfl
    exact hblock (by decide)
  have hword : s.andironWord a v = s.setReg a (mixBits (s.reg a) v kk.rw) := by
    unfold State.andironWord
    rw [if_neg hadc, if_neg hdb, if_neg hsel, if_neg hmbx, hf]
    dsimp only
    rw [hiso, decide_eq_false hrw]
    rfl
  unfold State.released
  rw [if_neg (by decide), if_neg (by decide), hone]
  exact hword

theorem cmpStat_readOnly : (findReg (F.CMP_STAT_DEPTH 11).addr).map (fun x => x.1.rw) = some 0 := by decide +kernel

section
variable {s : State} {side : Bool} {w : BusWrite} {e : Bool × BusWrite} (hr : s.sys.phase = .run)

include hr

theorem State.busOutputWrite_tiles (hlive : s.tagLive 9 w = true) (hlane : s.liveLane 9 = 9) (hlen : s.cmps.length = 24)
    (hfind : (s.cmps.getD 9 {}).fifo.find? (fun e => decide (e.1 ≠ side) && decide (e.2.tag = w.tag) && decide (e.2.sample = w.sample)) = some e)
    (heq : e.2 = w) (hretry : s.isRetry 9 w.tag = false) (hstall : ∀ m ∈ 9 :: andironCmps, (s.cmps.getD m {}).stalled = [])
    (hle : (s.cmps.getD 9 {}).fifo.length ≤ 256) :
    ∃ t, exec (.busOutputWrite 9 side w) s = .next t ∧
      (∀ a, Mem.byte 0 t.tiles a =
        if tileBase ≤ a ∧ a < tileBase + 0x800000 ∧ w.addr ≤ a ∧ a < w.addr + 32 ∧ bit w.be (a - w.addr) = true then
          BitVec.ofNat 8 (w.data / 256 ^ (a - w.addr))
        else Mem.byte 0 s.tiles a) ∧
      s.OnlyRegs [(F.CMP_STAT_DEPTH 9).addr] t ∧ { t with regs := s.regs, cmps := s.cmps, tiles := s.tiles } = s := by
  obtain ⟨-, -, j3, j4, j5⟩ := State.judged_shows (by decide) hlen hfind hstall hle (fun m hm => absurd hm nofun) rfl
  have hexec := State.busOutputWrite_due (side := side) hr (by decide) hlive hlane
  rw [State.compare_equal hfind heq hretry, State.mbxRelease_beside _ (by decide)] at hexec
  generalize (s.paired 9 e w.tag).pairVerdict 9 w.tag true = u at j3 j4 j5 hexec
  obtain ⟨t1, t2⟩ := u.released_tiles w rfl
  generalize u.released 9 w = t at t1 t2 hexec
  have hcmps : t.cmps = u.cmps := by rw [t1.eq]
  have hregs : t.regs = u.regs := by rw [t1.eq]
  have htiles : u.tiles = s.tiles := (congrArg State.tiles j4 :)
  rw [State.enterAll_none fun m hm => by rw [hcmps]; exact j5 m hm] at hexec
  refine ⟨t, hexec, fun a => ?_, State.OnlyRegs.of_regs j3 hregs, ?_⟩
  · rw [← htiles]
    exact t2 a
  · rw [t1.eq, ← htiles]
    exact j4

theorem State.busOutputWrite_register (hlive : s.tagLive 11 w = true) (hlane : s.liveLane 11 = 11) (hlen : s.cmps.length = 24)
    (hfind : (s.cmps.getD 11 {}).fifo.find? (fun e => decide (e.1 ≠ side) && decide (e.2.tag = w.tag) && decide (e.2.sample = w.sample)) = some e)
    (heq : e.2 = w) (hretry : s.isRetry 11 w.tag = false) (hstall : ∀ m ∈ 11 :: andironCmps, (s.cmps.getD m {}).stalled = [])
    (hle : (s.cmps.getD 11 {}).fifo.length ≤ 256) {a : Nat} {v : Word} {kk : RegKind} {f : Nat} (hw : busWords w = [(a, v)])
    (hg : guards 11 a = true) (hf : findReg a = some (kk, f)) (hrw : kk.rw ≠ 0) (hiso : isoAbsent a = false) (how : ownWrite a = false) :
    ∃ t, exec (.busOutputWrite 11 side w) s = .next t ∧ t.reg a = mixBits (s.reg a) v kk.rw ∧
      s.OnlyRegs [(F.CMP_STAT_DEPTH 11).addr, a] t ∧ { t with regs := s.regs, cmps := s.cmps } = s := by
  obtain ⟨-, -, j3, j4, j5⟩ := State.judged_shows (by decide) hlen hfind hstall hle (fun m hm => absurd hm nofun) rfl
  have hexec := State.busOutputWrite_due (side := side) hr (by decide) hlive hlane
  rw [State.compare_equal hfind heq hretry, State.mbxRelease_beside _ (by decide), State.released_register _ hw hg hf hrw hiso how] at hexec
  generalize (s.paired 11 e w.tag).pairVerdict 11 w.tag true = u at j3 j4 j5 hexec
  have hne : a ≠ (F.CMP_STAT_DEPTH 11).addr := by
    rintro rfl
    have h := cmpStat_readOnly
    rw [hf] at h
    exact hrw (Option.some.inj h)
  have hrega : u.reg a = s.reg a := j3 a (by simpa using hne)
  have hset : u.RestKept (u.setReg a (mixBits (u.reg a) v kk.rw)) := (State.RestKept.refl u).setReg _ _
  have hreg : (u.setReg a (mixBits (u.reg a) v kk.rw)).reg a = mixBits (s.reg a) v kk.rw := by
    rw [State.reg_setReg_same, hrega]
  have honly : s.OnlyRegs [(F.CMP_STAT_DEPTH 11).addr, a] (u.setReg a (mixBits (u.reg a) v kk.rw)) := (j3.mono (by simp)).setReg _ _ (by simp)
  generalize u.setReg a (mixBits (u.reg a) v kk.rw) = t at hset hreg honly hexec
  have hcmps : t.cmps = u.cmps := by rw [hset.eq]
  rw [State.enterAll_none fun m hm => by rw [hcmps]; exact j5 m hm] at hexec
  refine ⟨t, hexec, hreg, honly, ?_⟩
  rw [hset.eq]
  exact j4

end



/-! ### A mismatch takes the write out of its comparators (R427, R429) -/

theorem State.Confined.cmps {bs : List Nat} {s t : State} (h : s.Confined bs t) : t.cmps = s.cmps := by
  obtain ⟨-, r, f, j, g, m, rfl⟩ := h
  rfl

theorem State.Confined.img {bs : List Nat} {s t : State} (h : s.Confined bs t) : t.img = s.img := by
  obtain ⟨-, r, f, j, g, m, rfl⟩ := h
  rfl

theorem State.Confined.flu {bs : List Nat} {s t : State} (h : s.Confined bs t) : t.flu = s.flu := by
  obtain ⟨-, r, f, j, g, m, rfl⟩ := h
  rfl

/-- The entries under a tag have left the comparators of a list. -/
structure State.TagGone (l : List Nat) (tag : Nat) (s t : State) : Prop where
  rest : { t with regs := s.regs, cmps := s.cmps } = s
  kept : s.GraphKept [0x4004] t
  regs : ∀ a, a % 16 ≠ 0 → t.reg a = s.reg a
  len : t.cmps.length = s.cmps.length
  gone : ∀ m ∈ l, ∀ e ∈ (t.cmps.getD m {}).fifo, e.2.tag ≠ tag
  fewer : ∀ m, ∀ e ∈ (t.cmps.getD m {}).fifo, e ∈ (s.cmps.getD m {}).fifo
  free : ∀ m, (s.cmps.getD m {}).stalled = [] → (t.cmps.getD m {}).stalled = []
  retry : ∀ m, (t.cmps.getD m {}).retry = (s.cmps.getD m {}).retry

/-- The record of a comparator from which a tag has been taken. -/
def CmpRun.without (c : CmpRun) (tag : Nat) : CmpRun :=
  { c with stalled := c.stalled.filter (fun e => decide (e.2.tag ≠ tag)), fifo := c.fifo.filter (fun e => decide (e.2.tag ≠ tag)) }

theorem State.dropTag_cmps (s : State) {k : Nat} (hk : k < s.cmps.length) (tag : Nat) :
    (s.dropTag k tag).cmps = s.cmps.set k ((s.cmps.getD k {}).without tag) := by
  have h (x : CmpRun) : (s.cmps.set k x).getD k {} = x := by rw [getD_set_cmps, if_pos ⟨rfl, hk⟩]
  change (s.cmps.set k _).set k { (s.cmps.set k _).getD k {} with fifo := _ } = _
  rw [h, List.set_set]
  rfl

theorem State.setFifo_reg (s : State) {k a : Nat} (fifo : List (Bool × BusWrite)) (hne : (F.CMP_STAT_DEPTH k).addr ≠ a) :
    (s.setFifo k fifo).reg a = s.reg a := by
  have h (u : State) : (u.peakF (F.CMP_STAT_PEAK k) fifo.length).reg a = u.reg a := State.reg_setF_other _ _ _ _ hne
  unfold State.setFifo
  rw [h, State.reg_setF_other _ _ _ _ hne]
  rfl

theorem State.dropTag_shows (s : State) {k : Nat} (hk : k < 24) (hlen : s.cmps.length = 24) (tag : Nat) : s.TagGone [k] tag (s.dropTag k tag) := by
  have hc := s.dropTag_cmps (by omega : k < s.cmps.length) tag
  have hget (m : Nat) : (s.dropTag k tag).cmps.getD m {} = if m = k then (s.cmps.getD k {}).without tag else s.cmps.getD m {} := by
    rw [hc, getD_set_cmps]
    by_cases h : m = k
    · rw [if_pos ⟨h, by omega⟩, if_pos h]
    · rw [if_neg fun x => h x.1, if_neg h]
  have hfew (m : Nat) : ∀ e ∈ ((s.dropTag k tag).cmps.getD m {}).fifo, e ∈ (s.cmps.getD m {}).fifo ∧ (m = k → e.2.tag ≠ tag) := by
    intro e he
    rw [hget] at he
    split at he
    · next h =>
      subst h
      obtain ⟨h1, h2⟩ := List.mem_filter.1 he
      exact ⟨h1, fun _ => of_decide_eq_true h2⟩
    · next h => exact ⟨he, fun x => absurd x h⟩
  refine ⟨rfl, ?_, fun a ha => ?_, ?_, fun m hm e he => (hfew m e he).2 (List.mem_singleton.1 hm), fun m e he => (hfew m e he).1, fun m hm => ?_,
    fun m => ?_⟩
  · unfold State.dropTag
    exact ((State.GraphKept.refl _ s).setCmps _).trans (State.setFifo_kept _ hk _)
  · have hne : (F.CMP_STAT_DEPTH k).addr ≠ a := by
      simp only [F.CMP_STAT_DEPTH]
      omega
    exact State.setFifo_reg _ _ hne
  · rw [hc, List.length_set]
  · rw [hget]
    split
    · next h =>
      subst h
      change (s.cmps.getD m {}).stalled.filter _ = []
      rw [hm]
      rfl
    · exact hm
  · rw [hget]
    split
    · next h =>
      subst h
      rfl
    · rfl

theorem State.TagGone.cons {l : List Nat} {m tag : Nat} {r s t : State} (h : r.TagGone [m] tag s) (k : s.TagGone l tag t) :
    r.TagGone (m :: l) tag t := by
  refine ⟨?_, h.kept.trans k.kept, fun a ha => (k.regs a ha).trans (h.regs a ha), k.len.trans h.len, fun n hn e he => ?_,
    fun n e he => h.fewer n e (k.fewer n e he), fun n hn => k.free n (h.free n hn), fun n => (k.retry n).trans (h.retry n)⟩
  · have hs : t = { s with regs := t.regs, cmps := t.cmps } := by
      rw [← k.rest]
    rw [hs]
    exact h.rest
  · rcases List.mem_cons.1 hn with rfl | hn
    · exact h.gone n (by simp) e (k.fewer n e he)
    · exact k.gone n hn e he

theorem State.each_dropTag (tag : Nat) (l : List Nat) (hl : ∀ m ∈ l, m < 24) : ∀ s : State, s.cmps.length = 24 →
    s.TagGone l tag (s.each l (fun s n => s.dropTag n tag)) := by
  induction l with
  | nil => exact fun s _ => ⟨rfl, .refl _ s, fun _ _ => rfl, rfl, nofun, fun _ _ h => h, fun _ h => h, fun _ => rfl⟩
  | cons m l ih =>
      intro s hlen
      have h1 := s.dropTag_shows (hl m (by simp)) hlen tag
      exact h1.cons (ih (fun n hn => hl n (by simp [hn])) _ (h1.len.trans hlen))

/-- What a mismatch leaves before the mechanism of its comparator acts. -/
structure State.Mismatched (s : State) (k tag : Nat) (t : State) : Prop where
  steady : s.Steady (0x4004 :: raiseBlocks) t
  raised : t.sticky k = true
  count : t.getF (F.CMP_MISMATCH_CNT_COUNT k) = min (2 ^ 32 - 1) (s.getF (F.CMP_MISMATCH_CNT_COUNT k) + 1)
  gone : ∀ m ∈ cmpsOf k, ∀ e ∈ (t.cmps.getD m {}).fifo, e.2.tag ≠ tag
  free : ∀ m ∈ cmpsOf k, (t.cmps.getD m {}).stalled = []
  len : t.cmps.length = 24
  retry : ∀ m, (t.cmps.getD m {}).retry = (s.cmps.getD m {}).retry
  gr : t.gr = s.gr
  img : t.img = s.img
  cycle : t.flu.cycle = s.flu.cycle

theorem State.withheld_graph (s : State) (k : Nat) : (s.withheld k).gr = s.gr ∧ (s.withheld k).img = s.img := by
  unfold State.withheld
  have h0 : (s.when (decide (k = 16) || decide (k = 19)) (fun s => { s with flu := { s.flu with withhold := true } })).gr = s.gr ∧
      (s.when (decide (k = 16) || decide (k = 19)) (fun s => { s with flu := { s.flu with withhold := true } })).img = s.img := by
    unfold State.when
    split <;> exact ⟨rfl, rfl⟩
  generalize s.when (decide (k = 16) || decide (k = 19)) (fun s => { s with flu := { s.flu with withhold := true } }) = u at h0 ⊢
  have h1 : (u.when (decide (k = 18) || decide (k = 21)) (fun s => { s with ash := { s.ash with withhold := true } })).gr = u.gr ∧
      (u.when (decide (k = 18) || decide (k = 21)) (fun s => { s with ash := { s.ash with withhold := true } })).img = u.img := by
    unfold State.when
    split <;> exact ⟨rfl, rfl⟩
  dsimp only
  generalize u.when (decide (k = 18) || decide (k = 21)) (fun s => { s with ash := { s.ash with withhold := true } }) = v at h1 ⊢
  rw [h0.1, h0.2] at h1
  rcases State.when_cases v (decide (k = 17) || decide (k = 20))
    (fun s => (({ s with gdr := { s.gdr with enOffHalf := true } } : State)).refreshPower) with ⟨-, hw⟩ | ⟨-, hw⟩ <;> rw [hw]
  · have hc := State.confined_refreshPower { v with gdr := { v.gdr with enOffHalf := true } }
    exact ⟨hc.gr.trans h1.1, hc.img.trans h1.2⟩
  · exact h1

/-- A failed verdict of one of a pair: it is kept, or it contradicts the partner's and the write is withheld. -/
theorem State.pairVerdict_flags {s : State} {k tag : Nat} (hq : s.Quiet 0x19) {t : State} (ht : s.pairVerdict k tag false = t) :
    s.Steady raiseBlocks t ∧ s.SameEntries t ∧ t.cmps.length = s.cmps.length ∧ (∀ m, (t.cmps.getD m {}).retry = (s.cmps.getD m {}).retry) ∧
      t.gr = s.gr ∧ t.img = s.img ∧ t.flu.cycle = s.flu.cycle := by
  by_cases hp : ∃ m, pairOf k = some m ∧ ((s.cmps.getD m {}).judged false).contains tag = true
  · obtain ⟨m, hm, hj⟩ := hp
    rw [State.pairVerdict_differs hm hj] at ht
    obtain ⟨d1, d2, d3, d4⟩ := s.setCmp_agrees m (x := (s.cmps.getD m {}).judgedDone tag) rfl rfl rfl rfl
    generalize ({ s with cmps := s.cmps.set m ((s.cmps.getD m {}).judgedDone tag) } : State) = v at d1 d2 d3 d4 ht
    obtain ⟨-, w2, w3, w4⟩ := v.withheld_shows k
    obtain ⟨w5, w6⟩ := v.withheld_graph k
    have hv : v.gr = s.gr ∧ v.img = s.img ∧ v.flu.cycle = s.flu.cycle := by
      rw [d1.eq]
      exact ⟨rfl, rfl, rfl⟩
    have hst : s.Steady raiseBlocks (v.withheld k) := ((d1.kept.steady nofun nofun).mono nofun).trans w2
    generalize v.withheld k = x at w3 w4 w5 w6 hst ht
    have hc : x.Confined raiseBlocks (x.raise 0x19) := x.confined_raise 0x19 none (by decide) (hst.quiet (by decide) hq)
    have hraise := hst.raise (fun _ h => h) (n := 0x19) (by decide) hq
    rw [ht] at hc hraise
    have hcm : t.cmps = v.cmps := hc.cmps.trans w3
    exact ⟨hraise, d2.trans (.of_cmps hcm), (congrArg _ hcm).trans d3, fun m => by rw [hcm]; exact d4 m, hc.gr.trans (w5.trans hv.1),
      hc.img.trans (w6.trans hv.2.1), (congrArg Flu.cycle hc.flu).trans (w4.trans hv.2.2)⟩
  · obtain ⟨d1, d2, d3, d4⟩ := State.pairVerdict_agrees (fun m hm => by
      rw [← Bool.not_eq_true]
      exact fun hj => hp ⟨m, hm, hj⟩) ht
    refine ⟨(d1.kept.steady nofun nofun).mono nofun, d2, d3, d4, ?_, ?_, ?_⟩ <;> rw [d1.eq]

/-- A mismatch up to the mechanism of its comparator. -/
def State.noted (s : State) (k tag : Nat) : State :=
  (((s.each (cmpsOf k) (fun s n => s.dropTag n tag)).incF (F.CMP_MISMATCH_CNT_COUNT k)).raise k).pairVerdict k tag false

theorem State.mismatch_eq (s : State) (k tag : Nat) (b : Bool) (data : List BusWrite) :
    s.mismatch k tag b data = if k < 8 ∨ k = 13 then (s.noted k tag).laneMismatch k tag b else (s.noted k tag).rewriteMismatch k tag data := rfl

theorem cmpsOf_lt {k : Nat} (hk : k < 24) : ∀ m ∈ cmpsOf k, m < 24 := by
  intro m hm
  rcases List.mem_cons.1 (cmpsOf_subset k m hm) with rfl | h
  · exact hk
  · have : ∀ m ∈ andironCmps, m < 24 := by decide
    exact this m h

theorem State.noted_shows {s : State} {k tag : Nat} (hk : k < 24) (hlen : s.cmps.length = 24)
    (hstall : ∀ m ∈ k :: andironCmps, (s.cmps.getD m {}).stalled = []) (hq : s.Quiet k) (ha : s.asserted k = false) (hq19 : s.Quiet 0x19)
    {t : State} (ht : s.noted k tag = t) : s.Mismatched k tag t := by
  have hb : (F.CMP_MISMATCH_CNT_COUNT k).addr / 0x10000 = 0x4004 := by
    simp only [F.CMP_MISMATCH_CNT_COUNT]
    omega
  have h1 := State.each_dropTag tag (cmpsOf k) (cmpsOf_lt hk) s hlen
  unfold State.noted at ht
  generalize s.each (cmpsOf k) (fun s n => s.dropTag n tag) = u at h1 ht
  have hcnt0 : u.getF (F.CMP_MISMATCH_CNT_COUNT k) = s.getF (F.CMP_MISMATCH_CNT_COUNT k) := State.getF_congr (h1.regs _ (by
    simp only [F.CMP_MISMATCH_CNT_COUNT]
    omega))
  have hcnt : (u.incF (F.CMP_MISMATCH_CNT_COUNT k)).getF (F.CMP_MISMATCH_CNT_COUNT k) =
      min (2 ^ 32 - 1) (s.getF (F.CMP_MISMATCH_CNT_COUNT k) + 1) := by
    rw [← hcnt0]
    exact State.getF_incF_same _ _ (by rfl)
  have hkept := h1.kept.incF (F.CMP_MISMATCH_CNT_COUNT k) (by rw [hb]; simp)
  have hsame : (u.incF (F.CMP_MISMATCH_CNT_COUNT k)).cmps = u.cmps ∧ (u.incF (F.CMP_MISMATCH_CNT_COUNT k)).flu = u.flu := ⟨rfl, rfl⟩
  generalize u.incF (F.CMP_MISMATCH_CNT_COUNT k) = v at hcnt hkept hsame ht
  have hst : s.Steady (0x4004 :: raiseBlocks) v := (hkept.steady (by decide) (by decide)).mono (by decide)
  have hflu : u.flu = s.flu := (congrArg State.flu h1.rest :)
  have hc : v.Confined raiseBlocks (v.raise k) := v.confined_raise k none (by omega) (hst.quiet (by omega) hq)
  have hst2 := hst.raise (by decide) (n := k) (by omega) hq
  have hstk := hst.raised (n := k) (by omega) hq ha
  generalize v.raise k = w at hc hst2 hstk ht
  have hno : (F.CMP_MISMATCH_CNT_COUNT k).addr / 0x10000 ∉ raiseBlocks := by rw [hb]; decide
  obtain ⟨p1, p2, p3, p4, p5, p6, p7⟩ := State.pairVerdict_flags (hst2.quiet (by decide) hq19) ht
  have hcm : w.cmps = u.cmps := hc.cmps.trans hsame.1
  exact {
    steady := hst2.trans (p1.mono (by decide))
    raised := p1.sticky k (by omega) hstk
    count := (p1.within.getF _ hno).trans ((hc.getF _ hno).trans hcnt)
    gone := fun m hm e he => h1.gone m hm e (by rw [(p2 m).1, hcm] at he; exact he)
    free := fun m hm => (p2 m).2.trans (by rw [hcm]; exact h1.free m (hstall m (cmpsOf_subset k m hm)))
    len := p3.trans (by rw [hcm, h1.len, hlen])
    retry := fun m => (p4 m).trans (by rw [hcm]; exact h1.retry m)
    gr := p5.trans (hc.gr.trans hkept.gr)
    img := p6.trans (hc.img.trans hkept.img)
    cycle := p7.trans (congrArg Flu.cycle (hc.flu.trans (hsame.2.trans hflu))) }



/-! ### What the mechanism of a rewriting comparator does (R429) -/

theorem State.takeAction_records {s : State} (h : s.mode.recordsOnly = true) (n a : Nat) (us : Option Nat) : s.takeAction n a us = s := by
  unfold State.takeAction
  dsimp only
  split
  · rfl
  · split <;> simp_all [Mode.recordsOnly]

theorem State.countRetry_rest {s : State} (hq : s.Quiet 0x30) : s.countRetry.cmps = s.cmps ∧ s.countRetry.gr = s.gr ∧ s.countRetry.img = s.img := by
  generalize hu : s.countRetry = u
  unfold State.countRetry at hu
  extract_lets fresh n src s1 at hu
  have h1 : s1.cmps = s.cmps ∧ s1.gr = s.gr ∧ s1.img = s.img := ⟨rfl, rfl, rfl⟩
  have hs : s.Steady raiseBlocks s1 := ⟨(State.Within.refl _ s).hidden .., rfl, rfl, rfl, fun _ _ => rfl, fun _ _ hs => hs⟩
  clear_value s1
  rw [← hu]
  rcases State.when_cases s1 (decide (n = s.getF F.FLT_CFG_RETRY_LIMIT + 1)) (fun s => s.raise Src.retryStorm) with ⟨-, hw⟩ | ⟨-, hw⟩ <;> rw [hw]
  · have hc : s1.Confined raiseBlocks (s1.raise 0x30) := s1.confined_raise 0x30 none (by decide) (hs.quiet (by decide) hq)
    exact ⟨hc.cmps.trans h1.1, hc.gr.trans h1.2.1, hc.img.trans h1.2.2⟩
  · exact h1

theorem State.lasting_rest (s : State) : s.lasting.cmps = s.cmps ∧ s.lasting.gr = s.gr ∧ s.lasting.img = s.img := by
  have h0 : (s.incF F.FLT_LASTING_CNT_COUNT).cmps = s.cmps ∧ (s.incF F.FLT_LASTING_CNT_COUNT).gr = s.gr ∧
      (s.incF F.FLT_LASTING_CNT_COUNT).img = s.img := ⟨rfl, rfl, rfl⟩
  have hev (u : State) : (u.event Ev.flt 3).cmps = u.cmps ∧ (u.event Ev.flt 3).gr = u.gr ∧ (u.event Ev.flt 3).img = u.img := by
    unfold State.event
    dsimp only
    split <;> exact ⟨rfl, rfl, rfl⟩
  obtain ⟨h1, h2, h3⟩ := hev (s.incF F.FLT_LASTING_CNT_COUNT)
  exact ⟨h1.trans h0.1, h2.trans h0.2.1, h3.trans h0.2.2⟩

/-- What a mismatch does before the account of the retry: what is withheld, the action of comparator 23, the word of comparator 12. -/
def State.acted (s : State) (k tag : Nat) (data : List BusWrite) : State :=
  ((s.withheld k).when (decide (k = 23)) (fun s =>
    s.takeAction (tag % 256) ((data.map (fun w => w.data % 16)).foldl max 0) none)).when (decide (k = 12)) (fun s => match data.getLast? with
    | some w => s.southWord w.addr (w32 w.data)
    | none => s)

/-- The andirons run on without the spare half once a retry of one has failed. -/
def State.andironsOff (s : State) (k : Nat) : State :=
  s.when (andironCmps.contains k) (fun s => s.each [0, 1] (fun s h => s.setFlag (F.SYS_HALF_ANDIRON_OK h) false))

theorem State.rewriteMismatch_eq (s : State) (k tag : Nat) (data : List BusWrite) :
    s.rewriteMismatch k tag data =
      if s.isRetry k tag then ((((s.acted k tag data).setRetries k (s.retryRest k tag)).andironsOff k).lasting.raise 0x18)
      else (((((s.acted k tag data).setRetries k (s.retryRest k tag ++ [s.retryKey k tag])).countRetry.incF F.HOB_RETRY_CNT_COUNT).setFlag
        F.HOB_STATUS_RETRY_SEEN true).marker 1 (tag % 65536) k) := rfl

theorem State.acted_shows {s : State} {k tag : Nat} {data : List BusWrite} (h : k ≠ 23 ∨ s.mode.recordsOnly = true) {t : State}
    (ht : s.acted k tag data = t) : s.Steady raiseBlocks t ∧ t.cmps = s.cmps := by
  obtain ⟨-, w2, w3, -⟩ := s.withheld_shows k
  unfold State.acted at ht
  generalize s.withheld k = u at w2 w3 ht
  have hact : u.when (decide (k = 23)) (fun s => s.takeAction (tag % 256) ((data.map (fun w => w.data % 16)).foldl max 0) none) = u := by
    rcases State.when_cases u (decide (k = 23)) (fun s => s.takeAction (tag % 256) ((data.map (fun w => w.data % 16)).foldl max 0) none) with
      ⟨hk, hw⟩ | ⟨-, hw⟩ <;> rw [hw]
    exact State.takeAction_records (by rw [w2.mode_eq]; exact h.resolve_left fun hne => hne (of_decide_eq_true hk)) _ _ _
  rw [hact] at ht
  rw [← ht]
  rcases State.when_cases u (decide (k = 12)) (fun s => match data.getLast? with
    | some w => s.southWord w.addr (w32 w.data)
    | none => s) with ⟨-, hw⟩ | ⟨-, hw⟩ <;> rw [hw]
  · split
    · exact ⟨w2.hidden ((State.Within.refl _ u).hidden ..) rfl rfl, w3⟩
    · exact ⟨w2, w3⟩
  · exact ⟨w2, w3⟩

theorem State.setFlag_marker (s : State) (f : Fld) (b : Bool) (k i d : Nat) :
    ((s.setFlag f b).marker k i d).cmps = s.cmps ∧ ∀ g, ((s.setFlag f b).marker k i d).getF g = (s.setF f (b2n b)).getF g := ⟨rfl, fun _ => rfl⟩

theorem CMP_MISMATCH_CNT_beside {k : Nat} (hk : k < 24) (bs : List Nat) (h : 0x4004 ∉ bs) : (F.CMP_MISMATCH_CNT_COUNT k).addr / 0x10000 ∉ bs := by
  have hb : (F.CMP_MISMATCH_CNT_COUNT k).addr / 0x10000 = 0x4004 := by
    simp only [F.CMP_MISMATCH_CNT_COUNT]
    omega
  rw [hb]
  exact h

theorem State.andironsOff_shows (s : State) (k : Nat) :
    s.Steady [0x4000] (s.andironsOff k) ∧ (s.andironsOff k).cmps = s.cmps ∧
      (andironCmps.contains k = true → (s.andironsOff k).flag (F.SYS_HALF_ANDIRON_OK 0) = false ∧
        (s.andironsOff k).flag (F.SYS_HALF_ANDIRON_OK 1) = false) := by
  unfold State.andironsOff
  rcases State.when_cases s (andironCmps.contains k) (fun s => s.each [0, 1] (fun s h => s.setFlag (F.SYS_HALF_ANDIRON_OK h) false)) with
    ⟨hk, hw⟩ | ⟨hk, hw⟩ <;> rw [hw]
  · have h1 : s.Steady [0x4000] (s.setFlag (F.SYS_HALF_ANDIRON_OK 0) false) := .setF_low _ _ _ (by decide) (by decide) (by decide)
    have hf : (s.setFlag (F.SYS_HALF_ANDIRON_OK 0) false).flag (F.SYS_HALF_ANDIRON_OK 0) = false := State.flag_setFlag_same _ _ _ (by rfl)
    have hc : (s.setFlag (F.SYS_HALF_ANDIRON_OK 0) false).cmps = s.cmps := s.setF_cmps _ _
    change s.Steady [0x4000] ((s.setFlag (F.SYS_HALF_ANDIRON_OK 0) false).setFlag (F.SYS_HALF_ANDIRON_OK 1) false) ∧
      ((s.setFlag (F.SYS_HALF_ANDIRON_OK 0) false).setFlag (F.SYS_HALF_ANDIRON_OK 1) false).cmps = _ ∧
      (_ → ((s.setFlag (F.SYS_HALF_ANDIRON_OK 0) false).setFlag (F.SYS_HALF_ANDIRON_OK 1) false).flag (F.SYS_HALF_ANDIRON_OK 0) = false ∧
        ((s.setFlag (F.SYS_HALF_ANDIRON_OK 0) false).setFlag (F.SYS_HALF_ANDIRON_OK 1) false).flag (F.SYS_HALF_ANDIRON_OK 1) = false)
    generalize s.setFlag (F.SYS_HALF_ANDIRON_OK 0) false = u at h1 hf hc
    exact ⟨h1.trans (.setF_low _ _ _ (by decide) (by decide) (by decide)), (u.setF_cmps _ _).trans hc, fun _ =>
      ⟨(State.flag_setFlag_apart _ _ _ _ (by rfl) (by rfl)).trans hf, State.flag_setFlag_same _ _ _ (by rfl)⟩⟩
  · exact ⟨.refl _ s, rfl, fun h => absurd h (by rw [hk]; decide)⟩

section
variable {s t : State} {k tag : Nat} (h : s.Mismatched k tag t)
include h

theorem State.Mismatched.retries : t.retries k = s.retries k := h.retry _

theorem State.Mismatched.retryKey : t.retryKey k tag = s.retryKey k tag := by
  unfold State.retryKey
  rw [h.cycle]

theorem State.Mismatched.isRetry : t.isRetry k tag = s.isRetry k tag := by
  unfold State.isRetry
  rw [h.cycle, h.retries, h.retryKey]

/-- The first mismatch of a write: it is kept as one to be retried. -/
theorem State.Mismatched.retried {data : List BusWrite} (hk : k < 24) (hside : 8 ≤ k ∧ k ≠ 13) (h23 : k ≠ 23 ∨ s.mode.recordsOnly = true)
    (hq30 : s.Quiet 0x30) (hr : s.isRetry k tag = false) {x : State} (hx : t.rewriteMismatch k tag data = x) :
    s.Steady (0x4004 :: 0x4005 :: raiseBlocks) x ∧ x.sticky k = true ∧
      x.getF (F.CMP_MISMATCH_CNT_COUNT k) = min (2 ^ 32 - 1) (s.getF (F.CMP_MISMATCH_CNT_COUNT k) + 1) ∧ t.SameEntries x ∧
      s.retryKey k tag ∈ x.retries k ∧ x.getF F.HOB_RETRY_CNT_COUNT = min (2 ^ 32 - 1) (s.getF F.HOB_RETRY_CNT_COUNT + 1) := by
  rw [State.rewriteMismatch_eq, h.isRetry, hr, if_neg Bool.false_ne_true, h.retryKey] at hx
  obtain ⟨a1, a2⟩ := State.acted_shows (tag := tag) (data := data) (s := t) (by rw [h.steady.mode_eq]; exact h23) rfl
  generalize t.acted k tag data = u at a1 a2 hx
  obtain ⟨r1, r2, -, r4⟩ := u.setRetries_shows k (t.retryRest k tag ++ [s.retryKey k tag])
  have hret := r4 (by
    rw [a2, h.len]
    unfold retryHome
    split <;> omega)
  generalize u.setRetries k (t.retryRest k tag ++ [s.retryKey k tag]) = v at r1 r2 hret hx
  have hv : t.Steady raiseBlocks v := a1.trans ((r1.kept.steady nofun nofun).mono nofun)
  have hqv : v.Quiet 0x30 := (h.steady.trans (hv.mono (by decide))).quiet (by decide) hq30
  have hy := hv.countRetry (fun _ h => h) (h.steady.quiet (by decide) hq30)
  obtain ⟨c2, -, -⟩ := State.countRetry_rest hqv
  generalize v.countRetry = y at hy c2 hx
  have hn : y.getF F.HOB_RETRY_CNT_COUNT = s.getF F.HOB_RETRY_CNT_COUNT :=
    (hy.within.getF _ (by decide)).trans (h.steady.within.getF _ (by decide))
  have hcount := State.getF_incF_same y F.HOB_RETRY_CNT_COUNT (by rfl)
  have hinc := (hy.mono (cs := 0x4005 :: raiseBlocks) (by decide)).incF F.HOB_RETRY_CNT_COUNT (by decide) (by decide) (by decide)
  have hcm1 := y.incF_cmps F.HOB_RETRY_CNT_COUNT
  generalize y.incF F.HOB_RETRY_CNT_COUNT = z at hcount hinc hcm1 hx
  have hcount2 := (State.getF_setF_other z F.HOB_STATUS_RETRY_SEEN F.HOB_RETRY_CNT_COUNT (b2n true) (by decide)).trans hcount
  have hend := (hinc.setFlag F.HOB_STATUS_RETRY_SEEN true (by decide) (by decide) (by decide)).marker 1 (tag % 65536) k
  have hcm : x.cmps = v.cmps := by
    rw [← hx, ← c2, ← hcm1]
    exact (State.setFlag_marker _ _ _ _ _ _).1
  have hcnt : x.getF F.HOB_RETRY_CNT_COUNT = min (2 ^ 32 - 1) (s.getF F.HOB_RETRY_CNT_COUNT + 1) := by
    rw [← hn, ← hx]
    exact ((State.setFlag_marker _ _ _ _ _ _).2 _).trans hcount2
  rw [hx] at hend
  refine ⟨(h.steady.mono (by decide)).trans (hend.mono (by decide)), hend.sticky k (by omega) h.raised,
    (hend.within.getF _ (CMP_MISMATCH_CNT_beside hk _ (by decide))).trans h.count,
    (State.SameEntries.of_cmps a2).trans (r2.trans (.of_cmps hcm)), ?_, hcnt⟩
  have hret' : x.retries k = v.retries k := by
    unfold State.retries
    rw [hcm]
  rw [hret', hret]
  simp

/-- The second mismatch of a write is lasting; one of the andirons takes the spare half. -/
theorem State.Mismatched.failed {data : List BusWrite} (hk : k < 24) (h23 : k ≠ 23 ∨ s.mode.recordsOnly = true)
    (hq18 : s.Quiet 0x18) (ha18 : s.asserted 0x18 = false) (hr : s.isRetry k tag = true) {x : State} (hx : t.rewriteMismatch k tag data = x) :
    s.Steady (0x4000 :: 0x4004 :: raiseBlocks) x ∧ x.sticky k = true ∧
      x.getF (F.CMP_MISMATCH_CNT_COUNT k) = min (2 ^ 32 - 1) (s.getF (F.CMP_MISMATCH_CNT_COUNT k) + 1) ∧ t.SameEntries x ∧
      x.sticky 0x18 = true ∧
      (andironCmps.contains k = true → x.flag (F.SYS_HALF_ANDIRON_OK 0) = false ∧ x.flag (F.SYS_HALF_ANDIRON_OK 1) = false) := by
  rw [State.rewriteMismatch_eq, h.isRetry, hr, if_pos rfl] at hx
  obtain ⟨a1, a2⟩ := State.acted_shows (tag := tag) (data := data) (s := t) (by rw [h.steady.mode_eq]; exact h23) rfl
  generalize t.acted k tag data = u at a1 a2 hx
  obtain ⟨r1, r2, -, -⟩ := u.setRetries_shows k (t.retryRest k tag)
  generalize u.setRetries k (t.retryRest k tag) = v at r1 r2 hx
  have hv : t.Steady raiseBlocks v := a1.trans ((r1.kept.steady nofun nofun).mono nofun)
  obtain ⟨o1, o2, o3⟩ := v.andironsOff_shows k
  generalize v.andironsOff k = y at o1 o2 o3 hx
  have hl := (State.Steady.refl raiseBlocks y).lasting (by decide)
  obtain ⟨l2, -, -⟩ := y.lasting_rest
  generalize y.lasting = z at hl l2 hx
  have htz : t.Steady (0x4000 :: raiseBlocks) z := ((hv.mono (by decide)).trans (o1.mono (by decide))).trans (hl.mono (by decide))
  have hsz : s.Steady (0x4000 :: 0x4004 :: raiseBlocks) z := (h.steady.mono (by decide)).trans (htz.mono (by decide))
  have hqt : t.Quiet 0x18 := h.steady.quiet (by decide) hq18
  have hc : z.Confined raiseBlocks (z.raise 0x18) := z.confined_raise 0x18 none (by decide) (hsz.quiet (by decide) hq18)
  have hend := htz.raise (by decide) (n := 0x18) (by decide) hqt
  have hst := hsz.raised (n := 0x18) (by decide) hq18 ha18
  rw [hx] at hc hend hst
  have hflag (i : Nat) (hi : (F.SYS_HALF_ANDIRON_OK i).addr / 0x10000 = 0x4000) :
      x.flag (F.SYS_HALF_ANDIRON_OK i) = y.flag (F.SYS_HALF_ANDIRON_OK i) :=
    State.flag_congr ((hc.getF _ (by rw [hi]; decide)).trans (hl.within.getF _ (by rw [hi]; decide)))
  refine ⟨(h.steady.mono (by decide)).trans (hend.mono (by decide)), hend.sticky k (by omega) h.raised,
    (hend.within.getF _ (CMP_MISMATCH_CNT_beside hk _ (by decide))).trans h.count,
    (State.SameEntries.of_cmps a2).trans (r2.trans (.of_cmps (hc.cmps.trans (l2.trans o2)))), hst, fun hand => ?_⟩
  rw [hflag 0 (by rfl), hflag 1 (by rfl)]
  exact o3 hand

end



/-! ### What the mechanism of a commit lane does (R93) -/

/-- Work after which no write newly stalls, and whose registers of block 0x4004 are those of the entries alone. -/
structure State.Unstalled (s t : State) : Prop where
  free : ∀ m, (s.cmps.getD m {}).stalled = [] → (t.cmps.getD m {}).stalled = []
  regs : ∀ a, a / 0x10000 = 0x4004 → a % 16 ≠ 0 → t.reg a = s.reg a

theorem State.Unstalled.trans {r s t : State} (h : r.Unstalled s) (k : s.Unstalled t) : r.Unstalled t :=
  ⟨fun m hm => k.free m (h.free m hm), fun a ha hb => (k.regs a ha hb).trans (h.regs a ha hb)⟩

theorem State.Unstalled.of_cmps {bs : List Nat} {s t : State} (h : s.Within bs t) (hb : 0x4004 ∉ bs) (hc : t.cmps = s.cmps) : s.Unstalled t :=
  ⟨fun m hm => by rw [hc]; exact hm, fun a ha _ => h.1 a (by rw [ha]; exact hb)⟩

theorem CmpRun.enterStalled_free {c : CmpRun} (h : c.stalled = []) : c.enterStalled.stalled = [] := by
  unfold CmpRun.enterStalled
  rw [h]
  rfl

theorem State.dropWrites_unstalled (s : State) (l : List (Nat × Bool)) : s.Unstalled (s.dropWrites l) := by
  unfold State.dropWrites
  refine State.each_keeps (fun u => s.Unstalled u) _ (fun u k hu => ?_) _ s ⟨fun _ h => h, fun _ _ _ => rfl⟩
  dsimp only
  split
  · exact hu
  · refine ⟨fun m hm => ?_, fun a ha hb => ?_⟩
    · rw [State.setF_cmps, getD_set_cmps]
      split
      · next h =>
        refine CmpRun.enterStalled_free ?_
        have := hu.free k (by rw [← h.1]; exact hm)
        change (u.cmps.getD k {}).stalled.filter _ = []
        rw [this]
        rfl
      · exact hu.free m hm
    · have hne : (F.CMP_STAT_DEPTH k).addr ≠ a := by
        simp only [F.CMP_STAT_DEPTH]
        omega
      exact (State.reg_setF_other _ _ _ _ hne).trans (hu.regs a ha hb)

theorem State.refreshQueues_cmps (s : State) : s.refreshQueues.cmps = s.cmps :=
  State.each_keeps (fun u => u.cmps = s.cmps) _ (fun u c hu => by
    dsimp only
    rw [State.peakF_cmps, State.setF_cmps]
    exact hu) _ s rfl

theorem State.refreshQueues_unstalled (s : State) : s.Unstalled s.refreshQueues :=
  .of_cmps s.refreshQueues_shows.2.1 (by decide) s.refreshQueues_cmps

theorem State.discardCopies_unstalled (s : State) (cs : List (Nat × Bool)) : s.Unstalled (s.discardCopies cs) := by
  rw [s.discardCopies_eq cs]
  obtain ⟨⟨x, -, hs⟩, -, -⟩ := s.each_copyGone (s.dependants cs)
  have hu : s.Unstalled ((s.each (s.dependants cs) State.copyGone).lateCopies (s.dependants cs)) := by
    rw [hs]
    exact ⟨fun _ h => h, fun _ _ _ => rfl⟩
  exact (hu.trans (State.dropWrites_unstalled _ _)).trans (State.refreshQueues_unstalled _)

theorem State.discard_unstalled (s : State) (l : List Nat) : s.Unstalled (s.discard l) := s.discardCopies_unstalled _

theorem State.hobOf_rest (s : State) (i : Nat) (b : Bool) : (s.hobOf i b).2.cmps = s.cmps := by
  unfold State.hobOf
  split <;> rfl

/-- A write that has failed twice, from the state in which its sample is marked as failed. -/
def State.laneLasting (s : State) (i hob : Nat) (b : Bool) : State :=
  ((s.discard [i]).lasting.setFlag F.HOB_STATUS_LASTING_SEEN true).lastEvent 4 b hob i

/-- A write to be retried, from the state in which its instance has dropped both copies. -/
def State.laneAgain (s : State) (k i hob : Nat) (b : Bool) : State :=
  (((s.countRetry.incF F.HOB_RETRY_CNT_COUNT).setFlag F.HOB_STATUS_RETRY_SEEN true).lastEvent 2 b hob i).marker 1 i k |>.refreshQueues

theorem State.laneMismatch_due {s : State} {k i : Nat} {b : Bool} (hdue : (s.inst i).sample = .due) :
    s.laneMismatch k i b =
      if (s.inst i).retried then
        ((((s.hobOf i b).2.setInst i { s.inst i with sample := .failed, a := none, b := none }).laneLasting i (s.hobOf i b).1 b).marker 2 i
          ((((s.hobOf i b).2.setInst i { s.inst i with sample := .failed, a := none, b := none }).laneLasting i (s.hobOf i b).1 b).reg
            F.HOB_LAST_EVENT_KIND.addr).toNat).raise 0x18
      else (((s.hobOf i b).2.discard [i]).setInst i { s.inst i with a := none, b := none, retried := true, cause := some k }).laneAgain k i
        (s.hobOf i b).1 b := by
  unfold State.laneMismatch
  dsimp only
  rw [if_neg fun h => h hdue]
  rfl

theorem State.lastEvent_shows (s : State) (n : Nat) (b : Bool) (hob i : Nat) :
    s.GraphKept [0x4005] (s.lastEvent n b hob i) ∧ (s.lastEvent n b hob i).cmps = s.cmps ∧
      ∀ g : Fld, F.HOB_LAST_EVENT_KIND.addr ≠ g.addr → (s.lastEvent n b hob i).getF g = s.getF g :=
  ⟨(State.GraphKept.refl _ s).setReg _ _ (by decide), s.setReg_cmps _ _, fun _ hg => State.getF_congr (State.reg_setReg_other s _ _ _ hg)⟩

theorem State.CopiesGone.steady {s t : State} {l : List (Nat × Bool)} (h : s.CopiesGone l t) : s.Steady [0x4004, 0x4005] t :=
  .of_within h.within (by decide) (by decide) h.sys h.flt

theorem State.laneLasting_shows {s : State} {i hob : Nat} {b : Bool} {t : State} (ht : s.laneLasting i hob b = t) :
    s.Steady (0x4004 :: 0x4005 :: raiseBlocks) t ∧ s.Unstalled t ∧ (s.inst i).Unstaged (t.inst i) ∧ t.flag F.HOB_STATUS_LASTING_SEEN = true := by
  have hd : s.CopiesGone _ (s.discard [i]) := s.discardCopies_shows _
  have hun := s.discard_unstalled [i]
  unfold State.laneLasting at ht
  generalize s.discard [i] = u at hd hun ht
  have hl := (State.Steady.refl raiseBlocks u).lasting (by decide)
  obtain ⟨l1, l2, -⟩ := u.lasting_rest
  generalize u.lasting = v at hl l1 l2 ht
  have hsv : s.Steady (0x4004 :: 0x4005 :: raiseBlocks) v := (hd.steady.mono (by decide)).trans (hl.mono (by decide))
  have hf := State.flag_setFlag_same v F.HOB_STATUS_LASTING_SEEN true (by rfl)
  have hk : v.GraphKept [0x4005] (v.setFlag F.HOB_STATUS_LASTING_SEEN true) := (State.GraphKept.refl _ v).setFlag _ _ (by decide)
  have hc := v.setFlag_cmps F.HOB_STATUS_LASTING_SEEN true
  generalize v.setFlag F.HOB_STATUS_LASTING_SEEN true = w at hf hk hc ht
  obtain ⟨e1, e2, e3⟩ := w.lastEvent_shows 4 b hob i
  rw [ht] at e1 e2 e3
  have hk2 : v.GraphKept [0x4005] t := hk.trans e1
  have hc2 : t.cmps = v.cmps := e2.trans hc
  have hft : t.flag F.HOB_STATUS_LASTING_SEEN = w.flag F.HOB_STATUS_LASTING_SEEN := State.flag_congr (e3 _ (by decide))
  refine ⟨hsv.trans ((hk2.steady (by decide) (by decide)).mono (by decide)), (hun.trans (.of_cmps hl.within (by decide) l1)).trans
    (.of_cmps hk2.within (by decide) hc2), ?_, hft.trans hf⟩
  have hgr : t.gr = u.gr := hk2.gr.trans l2
  have hinst : t.inst i = u.inst i := by
    unfold State.inst
    rw [hgr]
  rw [hinst]
  exact hd.inst i

theorem State.laneAgain_shows {s : State} {k i hob : Nat} {b : Bool} (hq : s.Quiet 0x30) {t : State} (ht : s.laneAgain k i hob b = t) :
    s.Steady (0x4005 :: raiseBlocks) t ∧ s.Unstalled t ∧ t.gr = s.gr ∧
      t.getF F.HOB_RETRY_CNT_COUNT = min (2 ^ 32 - 1) (s.getF F.HOB_RETRY_CNT_COUNT + 1) := by
  unfold State.laneAgain at ht
  have h1 := (State.Steady.refl raiseBlocks s).countRetry (fun _ h => h) hq
  obtain ⟨c1, c2, -⟩ := State.countRetry_rest hq
  generalize s.countRetry = u at h1 c1 c2 ht
  have hn : u.getF F.HOB_RETRY_CNT_COUNT = s.getF F.HOB_RETRY_CNT_COUNT := h1.within.getF _ (by decide)
  have hcount := State.getF_incF_same u F.HOB_RETRY_CNT_COUNT (by rfl)
  have hk : u.GraphKept [0x4005] (u.incF F.HOB_RETRY_CNT_COUNT) := (State.GraphKept.refl _ u).incF _ (by decide)
  have hc := u.incF_cmps F.HOB_RETRY_CNT_COUNT
  generalize u.incF F.HOB_RETRY_CNT_COUNT = v at hcount hk hc ht
  have hcount2 := State.getF_setF_other v F.HOB_STATUS_RETRY_SEEN F.HOB_RETRY_CNT_COUNT (b2n true) (by decide)
  have hk2 : u.GraphKept [0x4005] (v.setFlag F.HOB_STATUS_RETRY_SEEN true) := hk.setFlag _ _ (by decide)
  have hc2 := (v.setFlag_cmps F.HOB_STATUS_RETRY_SEEN true).trans hc
  have hcount3 : (v.setFlag F.HOB_STATUS_RETRY_SEEN true).getF F.HOB_RETRY_CNT_COUNT = v.getF F.HOB_RETRY_CNT_COUNT := hcount2
  generalize v.setFlag F.HOB_STATUS_RETRY_SEEN true = w at hk2 hc2 hcount3 ht
  obtain ⟨e1, e2, e3⟩ := w.lastEvent_shows 2 b hob i
  generalize w.lastEvent 2 b hob i = w' at e1 e2 e3 ht
  have hx : u.GraphKept [0x4005] (w'.marker 1 i k) := (hk2.trans e1).marker _ _ _
  have hxc : (w'.marker 1 i k).cmps = u.cmps := (w'.marker_cmps 1 i k).trans (e2.trans hc2)
  have hxn : (w'.marker 1 i k).getF F.HOB_RETRY_CNT_COUNT = w.getF F.HOB_RETRY_CNT_COUNT :=
    (w'.marker_getF 1 i k _).trans (e3 _ (by decide))
  generalize w'.marker 1 i k = x at hx hxc hxn ht
  have hend := hx.refreshQueues (by decide)
  have hr := x.refreshQueues_unstalled
  obtain ⟨q1, -, -⟩ := x.refreshQueues_shows
  rw [ht] at hend hr q1
  refine ⟨(h1.mono (by decide)).trans ((hend.steady (by decide) (by decide)).mono (by decide)), ((State.Unstalled.of_cmps h1.within (by decide) c1).trans
    (.of_cmps hx.within (by decide) hxc)).trans hr, hend.gr.trans c2, ?_⟩
  have h0 : t.getF F.HOB_RETRY_CNT_COUNT = x.getF F.HOB_RETRY_CNT_COUNT := State.getF_congr (q1 _ (by decide))
  rw [h0, hxn, hcount3, ← hn]
  exact hcount



theorem State.setInst_shows (s : State) {i : Nat} (hi : i < s.gr.insts.length) (r : InstRun) :
    s.Steady [] (s.setInst i r) ∧ s.Unstalled (s.setInst i r) ∧ (s.setInst i r).inst i = r :=
  ⟨(State.Steady.refl _ s).hidden ((State.Within.refl _ s).hidden ..) rfl rfl, ⟨fun _ hm => hm, fun _ _ _ => rfl⟩,
    (State.inst_set (s := s) (t := s.setInst i r) rfl).1 hi⟩

section
variable {s t : State} {k i : Nat} (h : s.Mismatched k i t) (hk : k < 24)
include h hk

/-- A mismatch at a commit lane: its instance drops both copies and runs once more, or fails for good. -/
theorem State.Mismatched.lane {b : Bool} (hdue : (s.inst i).sample = .due) (hi : i < s.gr.insts.length)
    (hq18 : s.Quiet 0x18) (ha18 : s.asserted 0x18 = false) (hq30 : s.Quiet 0x30) {x : State} (hx : t.laneMismatch k i b = x) :
    s.Steady (0x4004 :: 0x4005 :: raiseBlocks) x ∧ t.Unstalled x ∧ x.sticky k = true ∧ (x.inst i).a = none ∧ (x.inst i).b = none ∧
      ((s.inst i).retried = false → (x.inst i).retried = true ∧ (x.inst i).sample = .due ∧
        x.getF F.HOB_RETRY_CNT_COUNT = min (2 ^ 32 - 1) (s.getF F.HOB_RETRY_CNT_COUNT + 1)) ∧
      ((s.inst i).retried = true → (x.inst i).sample = .failed ∧ x.flag F.HOB_STATUS_LASTING_SEEN = true ∧ x.sticky 0x18 = true) := by
  have hti : t.inst i = s.inst i := by
    unfold State.inst
    rw [h.gr]
  obtain ⟨o1, -⟩ := t.hobOf_kept i b
  have o2 := t.hobOf_rest i b
  rw [State.laneMismatch_due (by rw [hti]; exact hdue), hti] at hx
  generalize (t.hobOf i b).2 = u at o1 o2 hx
  generalize (t.hobOf i b).1 = hob at hx
  have hlen : i < u.gr.insts.length := by rw [o1.gr, h.gr]; exact hi
  have hu : t.Steady [] u := o1.steady nofun nofun
  have hun : t.Unstalled u := .of_cmps o1.within nofun o2
  by_cases hr : (s.inst i).retried = true
  · rw [if_pos hr] at hx
    obtain ⟨g1, g2, hget⟩ := u.setInst_shows hlen { s.inst i with sample := .failed, a := none, b := none }
    generalize u.setInst i { s.inst i with sample := .failed, a := none, b := none } = v at g1 g2 hget hx
    obtain ⟨l1, l2, l3, l4⟩ := State.laneLasting_shows (s := v) (i := i) (hob := hob) (b := b) rfl
    generalize v.laneLasting i hob b = w at l1 l2 l3 l4 hx
    have hm1 : (w.marker 2 i (w.reg F.HOB_LAST_EVENT_KIND.addr).toNat).gr = w.gr := w.marker_gr _ _ _
    have hm2 : (w.marker 2 i (w.reg F.HOB_LAST_EVENT_KIND.addr).toNat).cmps = w.cmps := w.marker_cmps _ _ _
    have hm3 := w.marker_getF 2 i (w.reg F.HOB_LAST_EVENT_KIND.addr).toNat
    have htw : t.Steady (0x4004 :: 0x4005 :: raiseBlocks) (w.marker 2 i (w.reg F.HOB_LAST_EVENT_KIND.addr).toNat) :=
      (((hu.trans g1).mono nofun).trans l1).marker _ _ _
    have hmw : w.Within [] (w.marker 2 i (w.reg F.HOB_LAST_EVENT_KIND.addr).toNat) := (State.Within.refl _ w).hidden ..
    generalize w.marker 2 i (w.reg F.HOB_LAST_EVENT_KIND.addr).toNat = y at hm1 hm2 hm3 htw hmw hx
    have hsy : s.Steady (0x4004 :: 0x4005 :: raiseBlocks) y := (h.steady.mono (by decide)).trans htw
    have hc : y.Confined raiseBlocks (y.raise 0x18) := y.confined_raise 0x18 none (by decide) (hsy.quiet (by decide) hq18)
    have hend := htw.raise (by decide) (n := 0x18) (by decide) (h.steady.quiet (by decide) hq18)
    have hst := hsy.raised (n := 0x18) (by decide) hq18 ha18
    rw [hx] at hc hend hst
    have hxi : x.inst i = w.inst i := by
      unfold State.inst
      rw [hc.gr, hm1]
    have hun2 : t.Unstalled x := (((hun.trans g2).trans l2).trans (.of_cmps hmw nofun hm2)).trans (.of_cmps hc.within (by decide) hc.cmps)
    rw [hget] at l3
    have hflag : x.flag F.HOB_STATUS_LASTING_SEEN = true :=
      (State.flag_congr ((hc.getF _ (by decide)).trans (hm3 _))).trans l4
    refine ⟨(h.steady.mono (by decide)).trans hend, hun2, hend.sticky k (by omega) h.raised, ?_, ?_, fun hn => absurd hr (by rw [hn]; decide),
      fun _ => ⟨?_, hflag, hst⟩⟩
    · rw [hxi]
      exact l3.a.elim id id
    · rw [hxi]
      exact l3.b.elim id id
    · rw [hxi]
      exact l3.sample
  · rw [if_neg hr] at hx
    have hd : u.CopiesGone _ (u.discard [i]) := u.discardCopies_shows _
    have hdu := u.discard_unstalled [i]
    generalize u.discard [i] = v at hd hdu hx
    obtain ⟨g1, g2, hget⟩ := v.setInst_shows (i := i) (by rw [hd.insts]; exact hlen)
      { s.inst i with a := none, b := none, retried := true, cause := some k }
    generalize v.setInst i { s.inst i with a := none, b := none, retried := true, cause := some k } = w at g1 g2 hget hx
    have htw : t.Steady [0x4004, 0x4005] w := ((hu.mono nofun).trans hd.steady).trans (g1.mono nofun)
    obtain ⟨l1, l2, l3, l4⟩ := State.laneAgain_shows ((h.steady.mono (cs := 0x4004 :: 0x4005 :: raiseBlocks) (by decide)).trans
      (htw.mono (by decide)) |>.quiet (by decide) hq30) hx
    have hend : t.Steady (0x4004 :: 0x4005 :: raiseBlocks) x := (htw.mono (by decide)).trans (l1.mono (by decide))
    have hxi : x.inst i = w.inst i := by
      unfold State.inst
      rw [l3]
    have hno : F.HOB_RETRY_CNT_COUNT.addr ∉ queueRegs ∧ F.HOB_RETRY_CNT_COUNT.addr / 0x10000 ≠ 0x4004 := by decide
    have hn : w.getF F.HOB_RETRY_CNT_COUNT = s.getF F.HOB_RETRY_CNT_COUNT :=
      (g1.within.getF _ nofun).trans ((State.getF_congr (hd.regs _ hno.1 hno.2)).trans ((hu.within.getF _ nofun).trans
        (h.steady.within.getF _ (by decide))))
    refine ⟨(h.steady.mono (by decide)).trans hend, ((hun.trans hdu).trans g2).trans l2, hend.sticky k (by omega) h.raised, ?_, ?_, fun _ => ?_,
      fun hy => absurd hy hr⟩
    · rw [hxi, hget]
    · rw [hxi, hget]
    · rw [hxi, hget, l4, hn]
      exact ⟨rfl, hdue, rfl⟩

end

/-! ### A mismatch as a command finds it -/

section
variable {s : State} {k : Nat} {side : Bool} {w : BusWrite} {c : Instr} {e : Bool × BusWrite}

/-- The two ways in which a write of a comparator does not match (R427). -/
theorem State.exec_mismatch (hr : s.sys.phase = .run) (hk : k < 24) (hlive : s.tagLive k w = true) (hlane : s.liveLane k = k)
    (hc : c = .busOutputWrite k side w ∧
        (s.cmps.getD k {}).fifo.find? (fun e => decide (e.1 ≠ side) && decide (e.2.tag = w.tag) && decide (e.2.sample = w.sample)) = some e ∧
        e.2 ≠ w ∨
      c = .cmpTimeout k w.tag ∧ (s.cmps.getD k {}).fifo.find? (fun e => decide (e.2.tag = w.tag)) = some e) :
    ∃ b data, exec c s = .next ((s.mismatch k w.tag b data).enterAll k) ∧
      (c = .busOutputWrite k side w → data = if side then [e.2, w] else [w, e.2]) := by
  rcases hc with ⟨rfl, hfind, hne⟩ | ⟨rfl, hfind⟩
  · refine ⟨side, if side then [e.2, w] else [w, e.2], ?_, fun _ => rfl⟩
    rw [State.busOutputWrite_due hr hk hlive hlane]
    unfold State.compare
    dsimp only
    rw [hfind]
    dsimp only
    rw [if_neg hne]
  · refine ⟨e.1, [e.2], ?_, nofun⟩
    have hexec : exec (.cmpTimeout k w.tag) s = .next (s.cmpTimeout k w.tag) := rfl
    have hcond : (!s.running || decide (24 ≤ k)) = false := by
      rw [State.running_of_run hr, decide_eq_false (by omega)]
      rfl
    rw [hexec]
    unfold State.cmpTimeout
    rw [hcond, if_neg Bool.false_ne_true, hfind]

end



/-! ### A mismatch whose data ask for SAFE-HOLD (R429) -/

theorem State.setActive_true_flt (s : State) (n : Nat) : (s.setActive n true).flt = s.flt := by
  unfold State.setActive
  split <;> rfl

theorem State.fltRecord_flt (s : State) (n : Nat) : (s.fltRecord n).flt = s.flt := by
  have h (u : State) : (((u.setActive n true).incF (classCounter (s.fltClass n))).setReg F.FLT_LAST_TICK.addr
      (w32 (s.tickLo % 2 ^ 16 * 2 ^ 16 + s.fltClass n * 2 ^ 8 + n))).flt = u.flt := by
    rw [State.setReg_flt, State.incF_flt, State.setActive_true_flt]
  unfold State.fltRecord
  dsimp only
  split
  · refine (State.event_flt ..).trans ?_
    split
    · exact h _
    · rw [State.setF_flt, State.setFlag_flt, State.marker_flt]
      exact h (s.setF _ _)
  · exact h _

theorem State.raiseNoted_acting (s : State) (n : Nat) : (s.raiseNoted n).flt.acting = s.flt.acting := by
  have hw (u : State) : (u.startWait n).flt.acting = u.flt.acting := by
    unfold State.startWait
    split
    · split
      · rfl
      · split <;> rfl
    · rfl
  unfold State.raiseNoted
  rw [State.fltFreezeAct_flt, hw, State.fltRecord_flt]

/-- With no source acting a raise without an action leaves FLT_REACT at what it was, or clears it. -/
theorem State.raise_react {s : State} {n : Nat} (hn : n < 256) (hq : s.Quiet n) (hact : s.flt.acting = []) :
    (s.raise n).getF F.FLT_REACT_ACTION ≤ s.getF F.FLT_REACT_ACTION := by
  unfold State.raise State.raiseTimed
  split
  · exact le_refl _
  · rw [State.doRaise_quiet s n none hn hq]
    change (((s.raiseNoted n).brakeRelease).settle n).getF F.FLT_REACT_ACTION ≤ _
    have hreact : (s.raiseNoted n).brakeRelease.getF F.FLT_REACT_ACTION = s.getF F.FLT_REACT_ACTION := by
      unfold State.brakeRelease
      split
      · refine (((State.confined_gdr [0x400A, 0x400B, 0x4011] _ _).trans ((State.confined_setFlag _ _ F.LDS_STATUS_BRAKE_RELEASED true
          (by decide)).trans (State.confined_event _ _ Ev.lds 10 (by decide)))).trans ((State.confined_refreshPower _).mono (by decide))
          |>.getF _ (by decide)).trans (s.raiseNoted_react n)
      · exact s.raiseNoted_react n
    have hacting : (s.raiseNoted n).brakeRelease.flt.acting = [] := by
      rw [State.brakeRelease_flt, State.raiseNoted_acting, hact]
    generalize (s.raiseNoted n).brakeRelease = u at hreact hacting ⊢
    have hzero (v : State) (h : v.flt.acting = []) : v.refreshReact.getF F.FLT_REACT_ACTION = 0 := by
      unfold State.refreshReact
      dsimp only
      rw [h, State.getF_setF_apart _ _ _ _ (by rfl) (by decide), State.getF_setF_same _ _ _ (by rfl)]
      rfl
    unfold State.settle
    split
    · unfold State.setActive
      split
      · exact hreact.le
      · dsimp only
        rw [if_neg Bool.false_ne_true, hzero]
        · exact Nat.zero_le _
        · change List.filter _ u.flt.acting = []
          rw [hacting]
          rfl
    · exact hreact.le

theorem State.noted_react {s : State} {k tag : Nat} (hk : k = 23) (hq : s.Quiet k) (hact : s.flt.acting = []) (hlen : s.cmps.length = 24) :
    (s.noted k tag).getF F.FLT_REACT_ACTION ≤ s.getF F.FLT_REACT_ACTION := by
  have h1 := State.each_dropTag tag (cmpsOf k) (cmpsOf_lt (by omega)) s hlen
  have hkept := h1.kept.incF (F.CMP_MISMATCH_CNT_COUNT k) (by rw [hk]; decide)
  have hst := hkept.steady (by decide) (by decide)
  subst hk
  unfold State.noted
  generalize (s.each (cmpsOf 23) (fun s n => s.dropTag n tag)).incF (F.CMP_MISMATCH_CNT_COUNT 23) = v at hkept hst
  have hpair (u : State) : u.pairVerdict 23 tag false = u := rfl
  rw [hpair]
  refine (State.raise_react (by decide) (hst.quiet (by decide) hq) (by rw [hkept.flt]; exact hact)).trans ?_
  exact (hkept.within.getF _ (by decide)).le

/-- A view of the comparators' records sees nothing of an entry into a mode. -/
theorem enterBlind_cmps : State.EnterBlind (fun s : State => s.cmps) where
  blind _ _ _ h := h.cmps
  doms _ _ := rfl
  cans _ _ := rfl
  sec _ _ := rfl
  xdis _ _ _ := rfl

theorem State.reactSafeHold_cmps (s : State) (n : Nat) (us : Option Nat) (hm : s.mode ≠ .selfTest) : (s.reactSafeHold n us).cmps = s.cmps := by
  have ht := State.enterMode_touches enterBlind_cmps s .safeHold 1 n (.inr ⟨fun _ _ => rfl, fun _ _ => rfl⟩) (.inr fun _ _ => rfl)
  have he : (s.enterMode .safeHold 1 n).cmps = s.cmps := by
    refine ht.same.trans ?_
    unfold State.modeEntered
    dsimp only
    rw [State.marker_cmps, State.ashRequest_cmps, State.setF_cmps, State.setF_cmps, State.setF_cmps]
  have hnote (u : State) (a b : Nat) (c : Bool) : (((u.setF F.SAF_REACT_LAST_US a).peakF F.SAF_REACT_MAX_US b).when c (fun s =>
      ((s.incF F.SAF_REACT_OVERRUN_CNT_COUNT).event Ev.saf 8).raiseInHold Src.reactOverrun)).cmps = u.cmps := by
    have h0 : ((u.setF F.SAF_REACT_LAST_US a).peakF F.SAF_REACT_MAX_US b).cmps = u.cmps := by rw [State.peakF_cmps, State.setF_cmps]
    rcases State.when_cases ((u.setF F.SAF_REACT_LAST_US a).peakF F.SAF_REACT_MAX_US b) c _ with ⟨-, hw⟩ | ⟨-, hw⟩
    · refine (congrArg State.cmps hw).trans ((State.raiseInHold_confined _ _ (by decide)).cmps.trans ?_)
      rw [State.event_cmps, State.incF_cmps, h0]
    · exact (congrArg State.cmps hw).trans h0
  unfold State.reactSafeHold
  rw [decide_eq_false hm, State.when_false]
  generalize s.enterMode .safeHold 1 n = v at he ⊢
  rcases State.when_cases v s.mode.isLead (fun s => s.reactTime us) with ⟨-, hv⟩ | ⟨-, hv⟩ <;> rw [hv]
  · rw [← he]
    unfold State.reactTime
    cases us with
    | some x => exact hnote v _ _ _
    | none => exact (hnote { v with free := v.free + 1 } _ _ _).trans rfl
  · exact he

section
variable {s t : State} {tag : Nat} (h : s.Mismatched 23 tag t)
include h

/-- The action of comparator 23 where the stronger of the two copies is SAFE_HOLD. -/
theorem State.Mismatched.acted_safeHold {data : List BusWrite} (hr : s.sys.phase = .run)
    (hm : s.mode ∈ [.shadow, .lead, .leadDegraded, .limp, .stopping]) (hd : (data.map (fun w => w.data % 16)).foldl max 0 = 6)
    (hre : t.getF F.FLT_REACT_ACTION ≤ 6) {u : State} (hu : t.acted 23 tag data = u) :
    u.mode = .safeHold ∧ u.sticky 23 = true ∧ u.cmps = t.cmps := by
  have hmode := h.steady.mode_eq
  have hnow : t.acted 23 tag data = t.takeAction (tag % 256) 6 none := by
    have hw : t.withheld 23 = t := rfl
    unfold State.acted
    rw [hw, hd]
    rfl
  have hlead : t.mode.isLead = true ∨ t.mode = .shadow ∨ t.mode = .selfTest := by
    rw [hmode]
    simp only [List.mem_cons, List.not_mem_nil, or_false] at hm
    rcases hm with h | h | h | h | h <;> rw [h] <;> decide
  obtain ⟨n1, n2, n3⟩ := t.nowActing_shows (tag % 256)
  have hc : t.Confined [0x4003] (t.nowActing (tag % 256)) := (State.confined_flt _ t _).trans (State.confined_refreshReact _)
  have hns : (t.nowActing (tag % 256)).sticky 23 = true := by
    have hr2 (v : State) : v.refreshReact.sticky 23 = v.sticky 23 := by
      unfold State.refreshReact
      dsimp only
      refine congrArg (fun x => bit x 23) ?_
      exact (State.getF_setF_other _ _ _ _ (by decide)).trans (State.getF_setF_other _ _ _ _ (by decide))
    exact (hr2 _).trans h.raised
  have hcn := hc.cmps
  have hph : (t.nowActing (tag % 256)).sys.phase = .run := by rw [n2, h.steady.sys, hr]
  rw [hnow, (State.takeAction_taken t none (by decide) hre).1 rfl hlead] at hu
  generalize t.nowActing (tag % 256) = v at n3 hns hcn hph hu
  have hself : v.mode ≠ .selfTest := by
    rw [n3, hmode]
    rintro he
    rw [he] at hm
    exact absurd hm (by decide)
  rw [← hu]
  exact ⟨v.reactSafeHold_mode _ _ hph, v.reactSafeHold_sticky _ _ (.inr rfl) hself hns, (v.reactSafeHold_cmps _ _ hself).trans hcn⟩

/-- The account of the retry stays in SAFE-HOLD. -/
theorem State.Mismatched.safeHold {data : List BusWrite} (hr : s.sys.phase = .run)
    (hm : s.mode ∈ [.shadow, .lead, .leadDegraded, .limp, .stopping]) (hd : (data.map (fun w => w.data % 16)).foldl max 0 = 6)
    (hre : t.getF F.FLT_REACT_ACTION ≤ 6) {x : State} (hx : t.rewriteMismatch 23 tag data = x) :
    x.mode = .safeHold ∧ x.sticky 23 = true ∧ t.SameEntries x := by
  obtain ⟨a1, a2, a3⟩ := h.acted_safeHold hr hm hd hre rfl
  rw [State.rewriteMismatch_eq] at hx
  generalize t.acted 23 tag data = u at a1 a2 a3 hx
  have hset (l : List Nat) : u.Steady [] (u.setRetries 23 l) ∧ u.SameEntries (u.setRetries 23 l) := by
    obtain ⟨r1, r2, -, -⟩ := u.setRetries_shows 23 l
    exact ⟨r1.kept.steady nofun nofun, r2⟩
  have hquiet (n : Nat) : u.Quiet n := .inr (by rw [a1]; rfl)
  have hfin {bs : List Nat} (hst : u.Steady bs x) (hsame : t.SameEntries x) : x.mode = .safeHold ∧ x.sticky 23 = true ∧ t.SameEntries x :=
    ⟨hst.mode_eq.trans a1, hst.sticky 23 (by decide) a2, hsame⟩
  split at hx
  · obtain ⟨r1, r2⟩ := hset (t.retryRest 23 tag)
    generalize u.setRetries 23 (t.retryRest 23 tag) = v at r1 r2 hx
    have hoff : v.andironsOff 23 = v := rfl
    rw [hoff] at hx
    have hl := (r1.mono (cs := raiseBlocks) nofun).lasting (by decide)
    obtain ⟨l1, -, -⟩ := v.lasting_rest
    generalize v.lasting = y at hl l1 hx
    have hend := hl.raise (fun _ h => h) (n := 0x18) (by decide) (hquiet _)
    have hc : y.Confined raiseBlocks (y.raise 0x18) := y.confined_raise 0x18 none (by decide) (hl.quiet (by decide) (hquiet _))
    rw [hx] at hend hc
    exact hfin hend ((State.SameEntries.of_cmps a3).trans (r2.trans (.of_cmps (hc.cmps.trans l1))))
  · obtain ⟨r1, r2⟩ := hset (t.retryRest 23 tag ++ [t.retryKey 23 tag])
    generalize u.setRetries 23 (t.retryRest 23 tag ++ [t.retryKey 23 tag]) = v at r1 r2 hx
    have hl := (r1.mono (cs := raiseBlocks) nofun).countRetry (fun _ h => h) (hquiet _)
    obtain ⟨l1, -, -⟩ := State.countRetry_rest (r1.quiet (n := 0x30) (by decide) (hquiet _))
    generalize v.countRetry = y at hl l1 hx
    have hinc := (hl.mono (cs := 0x4005 :: raiseBlocks) (by decide)).incF F.HOB_RETRY_CNT_COUNT (by decide) (by decide) (by decide)
    have hic := y.incF_cmps F.HOB_RETRY_CNT_COUNT
    generalize y.incF F.HOB_RETRY_CNT_COUNT = z at hinc hic hx
    have hend := (hinc.setFlag F.HOB_STATUS_RETRY_SEEN true (by decide) (by decide) (by decide)).marker 1 (tag % 65536) 23
    have hce := (z.setFlag_marker F.HOB_STATUS_RETRY_SEEN true 1 (tag % 65536) 23).1
    rw [hx] at hend hce
    exact hfin hend ((State.SameEntries.of_cmps a3).trans (r2.trans (.of_cmps (hce.trans (hic.trans l1)))))

end



section
variable {s : State} {k : Nat} {side : Bool} {w : BusWrite} {c : Instr} {e : Bool × BusWrite}
  (hr : s.sys.phase = .run) (hk : k < 24) (hlive : s.tagLive k w = true) (hlane : s.liveLane k = k) (hlen : s.cmps.length = 24)
  (hstall : ∀ m ∈ k :: andironCmps, (s.cmps.getD m {}).stalled = [])
  (hc : c = .busOutputWrite k side w ∧
      (s.cmps.getD k {}).fifo.find? (fun e => decide (e.1 ≠ side) && decide (e.2.tag = w.tag) && decide (e.2.sample = w.sample)) = some e ∧
      e.2 ≠ w ∨
    c = .cmpTimeout k w.tag ∧ (s.cmps.getD k {}).fifo.find? (fun e => decide (e.2.tag = w.tag)) = some e)
  (hq : s.Quiet k) (ha : s.asserted k = false) (hq19 : s.Quiet 0x19)
include hr hk hlive hlane hlen hstall hc hq ha hq19

/-- A comparator that writes again: the write is counted, raised and taken out; the first is kept as a retry, the second is lasting. -/
theorem State.mismatch_rewrites (h18 : s.Quiet 0x18 ∧ s.asserted 0x18 = false) (hq30 : s.Quiet 0x30) (h8 : 8 ≤ k) (h13 : k ≠ 13)
    (h23 : k ≠ 23 ∨ s.mode.recordsOnly = true) :
    ∃ t, exec c s = .next t ∧ t.sticky k = true ∧ t.mode = s.mode ∧
      (∀ m ∈ (if andironCmps.contains k = true then andironCmps else [k]), ∀ x ∈ (t.cmps.getD m {}).fifo, x.2.tag ≠ w.tag) ∧
      t.getF (F.CMP_MISMATCH_CNT_COUNT k) = min (2 ^ 32 - 1) (s.getF (F.CMP_MISMATCH_CNT_COUNT k) + 1) ∧
      (s.isRetry k w.tag = false → s.retryKey k w.tag ∈ t.retries k ∧
        t.getF F.HOB_RETRY_CNT_COUNT = min (2 ^ 32 - 1) (s.getF F.HOB_RETRY_CNT_COUNT + 1) ∧
        s.SameRegs (0x4004 :: 0x4005 :: raiseBlocks) t) ∧
      (s.isRetry k w.tag = true → t.sticky 0x18 = true ∧
        (andironCmps.contains k = true → t.flag (F.SYS_HALF_ANDIRON_OK 0) = false ∧ t.flag (F.SYS_HALF_ANDIRON_OK 1) = false)) ∧
      s.SameRegs (0x4000 :: 0x4004 :: 0x4005 :: raiseBlocks) t ∧ s.SameStores t := by
  obtain ⟨b, data, hexec, -⟩ := State.exec_mismatch hr hk hlive hlane hc
  have hm := State.noted_shows (tag := w.tag) hk hlen hstall hq ha hq19 rfl
  rw [State.mismatch_eq, if_neg (by omega)] at hexec
  generalize s.noted k w.tag = t at hm hexec
  have hexec' {x : State} (hx : t.rewriteMismatch k w.tag data = x) (hsame : t.SameEntries x) : exec c s = .next x := by
    rw [hx] at hexec
    rw [hexec, State.enterAll_none fun m hmem => (hsame m).2.trans (hm.free m hmem)]
  have hgone {x : State} (hsame : t.SameEntries x) :
      ∀ m ∈ (if andironCmps.contains k = true then andironCmps else [k]), ∀ y ∈ (x.cmps.getD m {}).fifo, y.2.tag ≠ w.tag :=
    fun m hmem y hy => hm.gone m hmem y ((hsame m).1 ▸ hy)
  by_cases hret : s.isRetry k w.tag = true
  · obtain ⟨f1, f2, f3, f4, f5, f6⟩ := hm.failed (data := data) hk h23 h18.1 h18.2 hret rfl
    have hw := f1.within.mono (cs := 0x4000 :: 0x4004 :: 0x4005 :: raiseBlocks) (by decide)
    exact ⟨_, hexec' rfl f4, f2, f1.mode_eq, hgone f4, f3, fun hn => absurd hret (by rw [hn]; decide), fun _ => ⟨f5, f6⟩, hw.1, hw.2⟩
  · rw [Bool.not_eq_true] at hret
    obtain ⟨f1, f2, f3, f4, f5, f6⟩ := hm.retried (data := data) hk ⟨h8, h13⟩ h23 hq30 hret rfl
    have hw := f1.within.mono (cs := 0x4000 :: 0x4004 :: 0x4005 :: raiseBlocks) (by decide)
    exact ⟨_, hexec' rfl f4, f2, f1.mode_eq, hgone f4, f3, fun _ => ⟨f5, f6, f1.within.1⟩, fun hn => absurd hn (by rw [hret]; decide),
      hw.1, hw.2⟩

/-- Two copies of an action of comparator 23, the stronger of which is SAFE_HOLD. -/
theorem State.mismatch_safeHold (h23 : k = 23) (hm : s.mode ∈ [.shadow, .lead, .leadDegraded, .limp, .stopping])
    (hcw : c = .busOutputWrite k side w) (hmax : max (w.data % 16) (e.2.data % 16) = 6) (hre : s.getF F.FLT_REACT_ACTION ≤ 6)
    (hact : s.flt.acting = []) : ∃ t, exec c s = .next t ∧ t.mode = .safeHold ∧ t.sticky 23 = true := by
  obtain ⟨b, data, hexec, hdata⟩ := State.exec_mismatch hr hk hlive hlane hc
  have hd : (data.map (fun w => w.data % 16)).foldl max 0 = 6 := by
    rw [hdata hcw]
    cases side <;> simp only [Bool.false_eq_true, if_false, if_true, List.map_cons, List.map_nil, List.foldl_cons, List.foldl_nil, Nat.zero_max]
    · exact hmax
    · rw [max_comm]
      exact hmax
  have hnote := State.noted_shows (tag := w.tag) hk hlen hstall hq ha hq19 rfl
  have hreact := (State.noted_react (tag := w.tag) h23 hq hact hlen).trans hre
  rw [State.mismatch_eq, if_neg (by omega)] at hexec
  generalize s.noted k w.tag = t at hnote hreact hexec
  subst h23
  obtain ⟨x1, x2, x3⟩ := hnote.safeHold (data := data) hr hm hd hreact rfl
  rw [State.enterAll_none fun m hmem => (x3 m).2.trans (hnote.free m hmem)] at hexec
  exact ⟨_, hexec, x1, x2⟩

/-- A commit lane: the instance of the write drops both copies and runs once more, or fails for good. -/
theorem State.mismatch_lane (h18 : s.Quiet 0x18 ∧ s.asserted 0x18 = false) (hq30 : s.Quiet 0x30) (hside : k < 8 ∨ k = 13)
    (hdue : (s.inst w.tag).sample = .due) (hi : w.tag < s.gr.insts.length) :
    ∃ t, exec c s = .next t ∧ t.sticky k = true ∧ t.mode = s.mode ∧ (t.inst w.tag).a = none ∧ (t.inst w.tag).b = none ∧
      t.getF (F.CMP_MISMATCH_CNT_COUNT k) = min (2 ^ 32 - 1) (s.getF (F.CMP_MISMATCH_CNT_COUNT k) + 1) ∧
      ((s.inst w.tag).retried = false → (t.inst w.tag).retried = true ∧ (t.inst w.tag).sample = .due ∧
        t.getF F.HOB_RETRY_CNT_COUNT = min (2 ^ 32 - 1) (s.getF F.HOB_RETRY_CNT_COUNT + 1)) ∧
      ((s.inst w.tag).retried = true → (t.inst w.tag).sample = .failed ∧ t.flag F.HOB_STATUS_LASTING_SEEN = true ∧
        t.sticky 0x18 = true) ∧
      s.SameRegs (0x4004 :: 0x4005 :: raiseBlocks) t ∧ s.SameStores t := by
  obtain ⟨b, data, hexec, -⟩ := State.exec_mismatch hr hk hlive hlane hc
  have hm := State.noted_shows (tag := w.tag) hk hlen hstall hq ha hq19 rfl
  rw [State.mismatch_eq, if_pos hside] at hexec
  generalize s.noted k w.tag = t at hm hexec
  obtain ⟨x1, x2, x3, x4, x5, x6, x7⟩ := hm.lane (b := b) hk hdue hi h18.1 h18.2 hq30 rfl
  rw [State.enterAll_none fun m hmem => x2.free m (hm.free m hmem)] at hexec
  have hcnt : (t.laneMismatch k w.tag b).getF (F.CMP_MISMATCH_CNT_COUNT k) = t.getF (F.CMP_MISMATCH_CNT_COUNT k) :=
    State.getF_congr (x2.regs _ (by simp only [F.CMP_MISMATCH_CNT_COUNT]; omega) (by simp only [F.CMP_MISMATCH_CNT_COUNT]; omega))
  exact ⟨_, hexec, x3, x1.mode_eq, x4, x5, hcnt.trans hm.count, x6, x7, x1.within.1, x1.within.2⟩

end

/-- Settles O44, from what each comparator's record holds before and after the command: a write waits, stalls, is released or withheld, and a
mismatch is noted on all its comparators before the mechanism that owns the write keeps, retries or fails it. -/
theorem busOutputs : Obligations.BusOutputs := by
  unfold Obligations.BusOutputs
  refine ⟨fun s k side w hr hk hlive hlane hlen hstall => ⟨fun hnone => ⟨fun hroom => ?_, fun hfull => ?_⟩, fun e hfind heq hle hret => ?_⟩,
    fun s k side w c e hr hk hlive hlane hlen hstall hc hq ha hq18 ha18 hq19 hq30 => ⟨fun h8 h13 h23 => ?_,
      fun h23 hm hcw hmax hre hact => ?_, fun hside hdue _ hi => ?_⟩⟩
  · exact State.busOutputWrite_holds hr hk hlive hlane hlen hstall hnone hroom
  · exact State.busOutputWrite_stalls hr hk hlive hlane hlen hstall hnone hfull
  · refine ⟨fun hside hflag => State.busOutputWrite_equal hr hk hlive hlane hlen hfind heq hret hstall hle hside hflag,
      fun m hm hflag hq ha => State.busOutputWrite_flagged hr hk hlive hlane hlen hfind heq hret hstall hle hm hflag hq ha, fun h9 => ?_,
      fun a v kk f h11 hwords hg hf hrw hiso hown => ?_⟩
    · subst h9
      exact State.busOutputWrite_tiles hr hlive hlane hlen hfind heq hret hstall hle
    · subst h11
      exact State.busOutputWrite_register hr hlive hlane hlen hfind heq hret hstall hle hwords hg hf hrw hiso hown
  · exact State.mismatch_rewrites hr hk hlive hlane hlen hstall hc hq ha hq19 ⟨hq18, ha18⟩ hq30 h8 h13 h23
  · exact State.mismatch_safeHold hr hk hlive hlane hlen hstall hc hq ha hq19 h23 hm hcw hmax hre hact
  · exact State.mismatch_lane hr hk hlive hlane hlen hstall hc hq ha hq19 ⟨hq18, ha18⟩ hq30 hside hdue hi

end Sys2Proof.Machine
end

section
/-!
# Lanes and tiles
-/
namespace Sys2Proof.Machine

open Sys2Proof

/-! ### Work beside the graph's records, the image, the map and the comparators -/

/-- The counters of verifying, of spare tiles and of lanes. -/
def Fld.repairCount (g : Fld) : Prop := g.addr = 0x40030044 ∨ g.addr = 0x40030048 ∨ g.addr = 0x4003004C

theorem State.getF_raise_count (s : State) {n : Nat} (hn : n < 256) (hq : s.Quiet n) {g : Fld} (hg : g.repairCount) :
    (s.raise n).getF g = s.getF g := by
  have hu : g.unrecorded := by
    unfold Fld.repairCount at hg
    unfold Fld.unrecorded Fld.recordOnly
    omega
  have h0 : g.addr ≠ 0x40030008 ∧ g.addr ≠ 0x40030014 := by
    unfold Fld.repairCount at hg
    omega
  unfold State.raise State.raiseTimed
  split
  · rfl
  · rw [State.getF_settle_record _ _ _ hu.1, State.getF_doRaise_record _ _ _ _ hn hq hu.1, State.getF_fltRecord_low _ _ _ h0.1 h0.2,
      State.getF_recorded_unrecorded _ _ _ hu]

/-- What the repairs read: the instances, the image, the map and the comparators. -/
def State.held (s : State) : List InstRun × Img × MapSt × List CmpRun := (s.gr.insts, s.img, s.map, s.cmps)

/-- Work that raises and leaves what the repairs read and count. -/
structure State.Still (bs : List Nat) (r s : State) : Prop where
  steady : r.Steady bs s
  held : s.held = r.held
  count : ∀ g : Fld, g.repairCount → s.getF g = r.getF g

section
variable {bs cs : List Nat} {r s t : State}

theorem State.Still.refl (bs : List Nat) (s : State) : s.Still bs s := ⟨.refl _ s, rfl, fun _ _ => rfl⟩

theorem State.Still.trans (h : r.Still bs s) (k : s.Still bs t) : r.Still bs t :=
  ⟨h.steady.trans k.steady, k.held.trans h.held, fun g hg => (k.count g hg).trans (h.count g hg)⟩

theorem State.Still.mono (h : r.Still bs s) (hsub : ∀ b ∈ bs, b ∈ cs) : r.Still cs s := ⟨h.steady.mono hsub, h.held, h.count⟩

theorem State.held_eq (h : t.held = s.held) : t.gr.insts = s.gr.insts ∧ t.img = s.img ∧ t.map = s.map ∧ t.cmps = s.cmps := by
  unfold State.held at h
  simpa only [Prod.mk.injEq] using h

theorem State.Confined.held (h : s.Confined bs t) : t.held = s.held := by
  obtain ⟨-, r, f, j, g, m, rfl⟩ := h
  rfl

section
variable (h : r.Still bs s)
include h

theorem State.Still.setF (f : Fld) (v : Nat) (hb : f.addr / 0x10000 ∈ bs) (h0 : f.addr / 0x10000 ≠ 0x4000) (h3 : f.addr / 0x10000 ≠ 0x4003) :
    r.Still bs (s.setF f v) :=
  ⟨h.steady.setF f v hb h0 h3, h.held, fun g hg => (State.getF_setF_other _ _ _ _ (by
    unfold Fld.repairCount at hg
    omega)).trans (h.count g hg)⟩

theorem State.Still.setFlag (f : Fld) (b : Bool) (hb : f.addr / 0x10000 ∈ bs) (h0 : f.addr / 0x10000 ≠ 0x4000)
    (h3 : f.addr / 0x10000 ≠ 0x4003) : r.Still bs (s.setFlag f b) := h.setF _ _ hb h0 h3

theorem State.Still.incF (f : Fld) (hb : f.addr / 0x10000 ∈ bs) (h0 : f.addr / 0x10000 ≠ 0x4000) (h3 : f.addr / 0x10000 ≠ 0x4003) :
    r.Still bs (s.incF f) := h.setF _ _ hb h0 h3

/-- Another counter of the collector. -/
theorem State.Still.incLow (f : Fld) (hb : f.addr / 0x10000 ∈ bs) (hlow : f.addr < 0x40030080) (hm : F.SYS_MODE_MODE.addr ≠ f.addr)
    (hc : ¬f.repairCount) : r.Still bs (s.incF f) :=
  ⟨h.steady.trans (.setF_low _ _ _ hb hlow hm), h.held, fun g hg => (State.getF_setF_other _ _ _ _ (by
    unfold Fld.repairCount at hg hc
    omega)).trans (h.count g hg)⟩

theorem State.Still.hidden (ht : s.Within [] t) (hs : t.sys = s.sys) (hf : t.flt = s.flt) (hh : t.held = s.held) : r.Still bs t :=
  ⟨h.steady.hidden ht hs hf, hh.trans h.held, fun g hg => (ht.getF g nofun).trans (h.count g hg)⟩

theorem State.Still.marker (k i d : Nat) : r.Still bs (s.marker k i d) := h.hidden ((State.Within.refl _ s).hidden ..) rfl rfl rfl

theorem State.Still.raise (hb : ∀ b ∈ raiseBlocks, b ∈ bs) {n : Nat} (hn : n < 256) (hq : r.Quiet n) : r.Still bs (s.raise n) :=
  ⟨h.steady.raise hb hn hq, (s.confined_raise n none hn (h.steady.quiet hn hq)).held.trans h.held,
    fun g hg => (s.getF_raise_count hn (h.steady.quiet hn hq) hg).trans (h.count g hg)⟩

theorem State.Still.when (c : Bool) (f : State → State) (hf : r.Still bs (f s)) : r.Still bs (s.when c f) := by
  rcases State.when_cases s c f with ⟨-, hw⟩ | ⟨-, hw⟩ <;> rw [hw]
  · exact hf
  · exact h

theorem State.Still.countRetry (hb : ∀ b ∈ raiseBlocks, b ∈ bs) (hq : r.Quiet 0x30) : r.Still bs s.countRetry := by
  unfold State.countRetry
  extract_lets fresh n src s1
  have h1 : s.Still bs s1 :=
    ⟨⟨(State.Within.refl _ s).hidden .., rfl, rfl, rfl, fun _ _ => rfl, fun _ _ hs => hs⟩, rfl, fun _ _ => rfl⟩
  clear_value s1
  exact (h.trans h1).when _ _ ((h.trans h1).raise hb (by decide) hq)

theorem State.Still.lastEvent (n : Nat) (b : Bool) (hob i : Nat) (hb : 0x4005 ∈ bs) : r.Still bs (s.lastEvent n b hob i) := by
  obtain ⟨e1, e2, e3⟩ := s.lastEvent_shows n b hob i
  refine h.trans (State.Still.mono (bs := [0x4005]) ⟨e1.steady (by decide) (by decide), ?_, fun g hg => e3 g ?_⟩ (by simpa using hb))
  · unfold State.held
    rw [e1.gr, e1.img, e2]
    exact congrArg (fun m => (s.gr.insts, s.img, m, s.cmps)) (s.setReg_map _ _)
  · unfold Fld.repairCount at hg
    simp only [F.HOB_LAST_EVENT_KIND]
    omega

theorem State.Still.event (e : EvBlk) (b : Nat) (hb : e.ev.addr / 0x10000 ∈ bs) (hlow : e.ev.addr < 0x40030080)
    (hm : F.SYS_MODE_MODE.addr ≠ e.ev.addr) (hc : ¬e.ev.repairCount) : r.Still bs (s.event e b) := by
  have h1 : r.Still bs (s.setF e.ev (s.getF e.ev ||| 2 ^ b)) :=
    ⟨h.steady.trans (.setF_low _ _ _ hb hlow hm), h.held, fun g hg => (State.getF_setF_other _ _ _ _ (by
      unfold Fld.repairCount at hg hc
      omega)).trans (h.count g hg)⟩
  unfold State.event
  dsimp only
  split
  · exact h1.marker _ _ _
  · exact h1

theorem State.Still.lasting (hb : 0x4003 ∈ bs) : r.Still bs s.lasting :=
  (h.incLow F.FLT_LASTING_CNT_COUNT hb (by decide) (by decide) (by unfold Fld.repairCount; decide)).event Ev.flt 3 hb (by decide) (by decide)
    (by unfold Fld.repairCount; decide)

end

end



/-! ### A verdict pair that disagrees (R430) -/

section
variable {s : State} (hr : s.sys.phase = .run)
include hr

theorem State.exec_verdict (k : Nat) (d : Bool) (hk : k < 24) :
    exec (.cmpVerdictDisagree k d) s = .next (if d then (if 16 ≤ k ∧ k ≤ 21 then (s.withheld k).raise 0x19 else s)
      else if 8 ≤ k then s.raise 0x19
      else if s.flag (F.CMP_STAT_RETIRED k) then s
      else (s.when (decide (1 < ((List.range 8).filter (fun n => !s.flag (F.CMP_STAT_RETIRED n))).length)) (fun s => s.retireLane k)).raise 0x1A) := by
  have hexec : exec (.cmpVerdictDisagree k d) s = .next (s.verdictDisagree k d) := rfl
  have hcond : (!s.running || decide (24 ≤ k)) = false := by
    rw [State.running_of_run hr, decide_eq_false (by omega)]
    rfl
  rw [hexec, State.verdictDisagree, hcond, if_neg Bool.false_ne_true]
  rfl

theorem State.verdict_fails {k : Nat} {d : Bool} (hk : 8 ≤ k ∧ k < 24 ∧ d = false ∨ 16 ≤ k ∧ k ≤ 21 ∧ d = true) (hq : s.Quiet 0x19)
    (ha : s.asserted 0x19 = false) :
    ∃ t, exec (.cmpVerdictDisagree k d) s = .next t ∧ t.sticky 0x19 = true ∧ t.mode = s.mode ∧ t.cmps = s.cmps ∧
      (d = true → (k = 16 ∨ k = 19 → t.flu.withhold = true) ∧ (k = 17 ∨ k = 20 → t.gdr.enOffHalf = true) ∧
        (k = 18 ∨ k = 21 → t.ash.withhold = true)) ∧
      s.SameRegs raiseBlocks t ∧ s.SameStores t := by
  have hfin (u : State) (hu : s.Steady raiseBlocks u) (hcm : u.cmps = s.cmps) :
      (u.raise 0x19).sticky 0x19 = true ∧ (u.raise 0x19).mode = s.mode ∧ (u.raise 0x19).cmps = s.cmps ∧ s.SameRegs raiseBlocks (u.raise 0x19) ∧
        s.SameStores (u.raise 0x19) := by
    have hend := hu.raise (fun _ h => h) (n := 0x19) (by decide) hq
    exact ⟨hu.raised (by decide) hq ha, hend.mode_eq, (u.confined_raise 0x19 none (by decide) (hu.quiet (by decide) hq)).cmps.trans hcm,
      hend.within.1, hend.within.2⟩
  rw [State.exec_verdict hr k d (by omega)]
  rcases hk with ⟨h8, h24, rfl⟩ | ⟨h16, h21, rfl⟩
  · rw [if_neg Bool.false_ne_true, if_pos h8]
    obtain ⟨f1, f2, f3, f4, f5⟩ := hfin s (.refl _ s) rfl
    exact ⟨_, rfl, f1, f2, f3, nofun, f4, f5⟩
  · rw [if_pos rfl, if_pos ⟨h16, h21⟩]
    obtain ⟨w1, w2, w3, -⟩ := s.withheld_shows k
    obtain ⟨f1, f2, f3, f4, f5⟩ := hfin _ w2 w3
    exact ⟨_, rfl, f1, f2, f3, fun _ => w1.raise (by decide) (w2.quiet (by decide) hq), f4, f5⟩

theorem State.verdict_retired {k : Nat} (hk : k < 8) (hf : s.flag (F.CMP_STAT_RETIRED k) = true) :
    exec (.cmpVerdictDisagree k false) s = .next s := by
  rw [State.exec_verdict hr k false (by omega), if_neg Bool.false_ne_true, if_neg (by omega), if_pos hf]

end

/-! Retiring a lane -/

/-- A staged block of a lane that retires is to run once more. -/
def State.retryBlock (k : Nat) (copies : List (Bool × Nat)) (s : State) (i : Nat) : State :=
  ((((s.setInst i { s.inst i with retried := true }).countRetry.incF F.HOB_RETRY_CNT_COUNT).lastEvent 2 (copies.getD i (false, 0)).1
    (copies.getD i (false, 0)).2 i).marker 1 i k)

/-- Blocks to be retried: they keep what they have staged, and those of the list are marked. -/
structure State.Retried (l : List Nat) (s t : State) : Prop where
  steady : s.Steady (0x4005 :: raiseBlocks) t
  count : ∀ g : Fld, g.repairCount → t.getF g = s.getF g
  len : t.gr.insts.length = s.gr.insts.length
  staged : ∀ j, (t.inst j).a = (s.inst j).a ∧ (t.inst j).b = (s.inst j).b
  keeps : ∀ j, (s.inst j).retried = true → (t.inst j).retried = true
  marks : ∀ j ∈ l, j < s.gr.insts.length → (t.inst j).retried = true

theorem State.Retried.cons {r s t : State} {i : Nat} {l : List Nat} (h : r.Retried [i] s) (k : s.Retried l t) : r.Retried (i :: l) t := by
  refine ⟨h.steady.trans k.steady, fun g hg => (k.count g hg).trans (h.count g hg), k.len.trans h.len,
    fun j => ⟨(k.staged j).1.trans (h.staged j).1, (k.staged j).2.trans (h.staged j).2⟩, fun j hj => k.keeps j (h.keeps j hj), fun j hj hlen => ?_⟩
  rcases List.mem_cons.1 hj with rfl | hj
  · exact k.keeps j (h.marks j (by simp) hlen)
  · exact k.marks j hj (by rw [h.len]; exact hlen)

theorem State.retryBlock_shows (k : Nat) (copies : List (Bool × Nat)) {s : State} (hq : s.Quiet 0x30) (i : Nat) :
    s.Retried [i] (State.retryBlock k copies s i) := by
  generalize ht : State.retryBlock k copies s i = t
  unfold State.retryBlock at ht
  generalize hu : s.setInst i { s.inst i with retried := true } = u at ht
  have h1 : s.Steady [] u ∧ u.held.2 = s.held.2 ∧ u.gr.insts = s.gr.insts.set i { s.inst i with retried := true } := by
    rw [← hu]
    exact ⟨(State.Steady.refl _ s).hidden ((State.Within.refl _ s).hidden ..) rfl rfl, rfl, rfl⟩
  obtain ⟨s1, -, s3⟩ := h1
  have hqu := s1.quiet (n := 0x30) (by decide) hq
  have h2 : u.Still (0x4005 :: raiseBlocks) t := by
    rw [← ht]
    exact (((State.Still.refl _ u).countRetry (by decide) hqu).incF _ (by decide) (by decide) (by decide)).lastEvent 2
      (copies.getD i (false, 0)).1 (copies.getD i (false, 0)).2 i (by decide) |>.marker 1 i k
  obtain ⟨e1, -⟩ := State.held_eq h2.held
  obtain ⟨g1, g2⟩ := State.inst_set (e1.trans s3)
  have hj (j : Nat) : t.inst j = if j = i ∧ i < s.gr.insts.length then { s.inst i with retried := true } else s.inst j := by
    by_cases hj : j = i
    · subst hj
      by_cases hl : j < s.gr.insts.length
      · rw [if_pos ⟨rfl, hl⟩, g1 hl]
      · rw [if_neg fun h => hl h.2]
        unfold State.inst
        rw [e1, s3, List.set_eq_of_length_le (by omega)]
    · rw [if_neg fun h => hj h.1, g2 j hj]
  refine ⟨(s1.mono nofun).trans h2.steady, fun g hg => (h2.count g hg).trans (s1.within.getF g nofun), by rw [e1, s3, List.length_set],
    fun j => ?_, fun j hret => ?_, fun j hm hl => ?_⟩
  · rw [hj]
    split
    · next h => rw [h.1]; exact ⟨rfl, rfl⟩
    · exact ⟨rfl, rfl⟩
  · rw [hj]
    split
    · rfl
    · exact hret
  · obtain rfl := List.mem_singleton.1 hm
    rw [hj, if_pos ⟨rfl, hl⟩]

theorem State.each_retryBlock (k : Nat) (copies : List (Bool × Nat)) (l : List Nat) : ∀ s : State, s.Quiet 0x30 →
    s.Retried l (s.each l (State.retryBlock k copies)) := by
  induction l with
  | nil => exact fun s _ => ⟨.refl _ s, fun _ _ => rfl, rfl, fun _ => ⟨rfl, rfl⟩, fun _ h => h, nofun⟩
  | cons i l ih =>
      intro s hq
      have h1 := State.retryBlock_shows k copies hq i
      exact h1.cons (ih _ (h1.steady.quiet (by decide) hq))

/-- The staged and uncommitted blocks of a lane. -/
def State.blocksOf (s : State) (k : Nat) : List Nat :=
  (List.range s.img.nodes.length).filter (fun i =>
    decide ((s.node i).cls = 0) && decide ((s.inst i).sample = .due) && decide (s.laneOf i = k) && ((s.inst i).a.isSome || (s.inst i).b.isSome))

/-- The copies that the instances have staged, A before B, and their hobs. -/
def State.stagedCopies (s : State) : List (Bool × Nat) :=
  (List.range s.img.nodes.length).map (fun i => match (s.inst i).a, (s.inst i).b with
    | some w, _ => (false, w.hob)
    | none, some w => (true, w.hob)
    | none, none => (false, 0))

/-- The comparator of a lane that has retired holds nothing. -/
def State.laneEmptied (s : State) (k : Nat) : State := ({ s with cmps := s.cmps.set k {} } : State).setF (F.CMP_STAT_DEPTH k) 0

theorem State.retireLane_eq (s : State) (k : Nat) :
    s.retireLane k = ((((((s.discard (s.blocksOf k)).each (s.blocksOf k) (State.retryBlock k s.stagedCopies)).laneEmptied k).when
      (!(s.blocksOf k).isEmpty) (fun s => s.setFlag F.HOB_STATUS_RETRY_SEEN true)).setFlag (F.CMP_STAT_RETIRED k) true).incF
        F.FLT_LANE_CNT_COUNT).event Ev.flt 5 := rfl

theorem State.retireLane_shows {s : State} {k : Nat} (hk : k < 8) (hq : s.Quiet 0x30) {t : State} (ht : s.retireLane k = t) :
    s.Steady (0x4004 :: 0x4005 :: raiseBlocks) t ∧ t.flag (F.CMP_STAT_RETIRED k) = true ∧
      t.getF F.FLT_LANE_CNT_COUNT = min (2 ^ 32 - 1) (s.getF F.FLT_LANE_CNT_COUNT + 1) ∧
      ∀ i ∈ s.blocksOf k, i < s.gr.insts.length → (t.inst i).retried = true ∧ (t.inst i).a = none ∧ (t.inst i).b = none := by
  have hb : (F.CMP_STAT_DEPTH k).addr / 0x10000 = 0x4004 := by
    simp only [F.CMP_STAT_DEPTH]
    omega
  rw [State.retireLane_eq] at ht
  have hd : s.CopiesGone _ (s.discard (s.blocksOf k)) := s.discardCopies_shows _
  generalize s.discard (s.blocksOf k) = d at hd ht
  have hr := State.each_retryBlock k s.stagedCopies (s.blocksOf k) d (hd.steady.quiet (by decide) hq)
  generalize d.each (s.blocksOf k) (State.retryBlock k s.stagedCopies) = u at hr ht
  have hsu : s.Steady (0x4004 :: 0x4005 :: raiseBlocks) u := (hd.steady.mono (by decide)).trans (hr.steady.mono (by decide))
  have he : u.GraphKept [0x4004] (u.laneEmptied k) := ((State.GraphKept.refl _ u).setCmps _).setF _ _ (by rw [hb]; simp)
  generalize u.laneEmptied k = v at he ht
  have hw : u.GraphKept [0x4004, 0x4005] (v.when (!(s.blocksOf k).isEmpty) (fun s => s.setFlag F.HOB_STATUS_RETRY_SEEN true)) :=
    (he.mono (by decide)).when _ _ fun x hx => hx.setFlag _ _ (by decide)
  generalize v.when (!(s.blocksOf k).isEmpty) (fun s => s.setFlag F.HOB_STATUS_RETRY_SEEN true) = w at hw ht
  have hx : u.GraphKept [0x4004, 0x4005] (w.setFlag (F.CMP_STAT_RETIRED k) true) :=
    hw.setFlag _ _ (by
      have : (F.CMP_STAT_RETIRED k).addr / 0x10000 = 0x4004 := hb
      rw [this]
      decide)
  have hf := State.flag_setFlag_same w (F.CMP_STAT_RETIRED k) true (by rfl)
  generalize w.setFlag (F.CMP_STAT_RETIRED k) true = x at hx hf ht
  have hcnt : x.getF F.FLT_LANE_CNT_COUNT = s.getF F.FLT_LANE_CNT_COUNT :=
    (hx.within.getF _ (by decide)).trans ((hr.count _ (by unfold Fld.repairCount; decide)).trans (hd.within.getF _ (by decide)))
  have hinc := State.getF_incF_same x F.FLT_LANE_CNT_COUNT (by rfl)
  have hwidth : F.FLT_LANE_CNT_COUNT.width = 32 := rfl
  rw [hwidth] at hinc
  have hi : x.Steady raiseBlocks (x.incF F.FLT_LANE_CNT_COUNT) := .setF_low _ _ _ (by decide) (by decide) (by decide)
  have hfi : (x.incF F.FLT_LANE_CNT_COUNT).flag (F.CMP_STAT_RETIRED k) = x.flag (F.CMP_STAT_RETIRED k) :=
    State.flag_congr (State.getF_setF_other _ _ _ _ (by simp only [F.FLT_LANE_CNT_COUNT, F.CMP_STAT_RETIRED]; omega))
  have hgi := x.incF_gr F.FLT_LANE_CNT_COUNT
  generalize x.incF F.FLT_LANE_CNT_COUNT = y at hinc hi hfi hgi ht
  have hev : y.Still raiseBlocks (y.event Ev.flt 5) :=
    (State.Still.refl _ y).event Ev.flt 5 (by decide) (by decide) (by decide) (by unfold Fld.repairCount; decide)
  have hfe : (y.event Ev.flt 5).flag (F.CMP_STAT_RETIRED k) = y.flag (F.CMP_STAT_RETIRED k) :=
    State.flag_congr (State.getF_event_other _ _ _ _ (by
      change F.FLT_EVENT_SEEN.addr ≠ _
      simp only [F.FLT_EVENT_SEEN, F.CMP_STAT_RETIRED]
      omega))
  rw [ht] at hev hfe
  obtain ⟨e1, -⟩ := State.held_eq hev.held
  have hti (i : Nat) : t.inst i = u.inst i := by
    unfold State.inst
    rw [e1, hgi, hx.gr]
  refine ⟨hsu.trans (((hx.steady (by decide) (by decide)).mono (by decide)).trans ((hi.trans hev.steady).mono (by decide))),
    hfe.trans (hfi.trans hf), ?_, fun i hi hlen => ?_⟩
  · rw [hev.count _ (by unfold Fld.repairCount; decide), hinc, hcnt]
  · obtain ⟨h1, h2⟩ := List.mem_filter.1 hi
    have hnode := List.mem_range.1 h1
    simp only [Bool.and_eq_true, decide_eq_true_eq] at h2
    obtain ⟨⟨⟨-, hdue⟩, -⟩, -⟩ := h2
    have hmem (b : Bool) : (i, b) ∈ s.dependants ((s.blocksOf k).flatMap (fun i => [(i, false), (i, true)])) :=
      s.mem_dependants (List.mem_flatMap.2 ⟨i, hi, by cases b <;> simp⟩) hnode
    rw [hti]
    refine ⟨hr.marks i hi (by rw [hd.insts]; exact hlen), ?_, ?_⟩
    · rw [(hr.staged i).1]
      exact hd.gone (i, false) (hmem false) hdue
    · rw [(hr.staged i).2]
      exact hd.gone (i, true) (hmem true) hdue

theorem State.verdict_retires {s : State} {k n : Nat} (hr : s.sys.phase = .run) (hk : k < 8) (hn : n < 8) (hne : n ≠ k)
    (hfk : s.flag (F.CMP_STAT_RETIRED k) = false) (hfn : s.flag (F.CMP_STAT_RETIRED n) = false) (hq : s.Quiet 0x1A)
    (ha : s.asserted 0x1A = false) (hq30 : s.Quiet 0x30) :
    ∃ t, exec (.cmpVerdictDisagree k false) s = .next t ∧ t.flag (F.CMP_STAT_RETIRED k) = true ∧ t.sticky 0x1A = true ∧
      t.getF F.FLT_LANE_CNT_COUNT = min (2 ^ 32 - 1) (s.getF F.FLT_LANE_CNT_COUNT + 1) ∧ t.mode = s.mode ∧
      (∀ i, i < s.img.nodes.length → i < s.gr.insts.length → (s.node i).cls = 0 → s.laneOf i = k → (s.inst i).sample = .due →
        ((s.inst i).a.isSome || (s.inst i).b.isSome) = true →
        (t.inst i).retried = true ∧ (t.inst i).a = none ∧ (t.inst i).b = none) ∧
      s.SameRegs (0x4004 :: 0x4005 :: raiseBlocks) t ∧ s.SameStores t := by
  have hleft : 1 < ((List.range 8).filter (fun n => !s.flag (F.CMP_STAT_RETIRED n))).length := by
    have hsub : [k, n].Subperm ((List.range 8).filter (fun n => !s.flag (F.CMP_STAT_RETIRED n))) := by
      refine List.Nodup.subperm (by simpa using hne.symm) fun m hm => ?_
      rcases List.mem_pair.1 hm with rfl | rfl
      · exact List.mem_filter.2 ⟨List.mem_range.2 hk, by rw [hfk]; exact rfl⟩
      · exact List.mem_filter.2 ⟨List.mem_range.2 hn, by rw [hfn]; rfl⟩
    exact hsub.length_le
  have hexec : exec (.cmpVerdictDisagree k false) s = .next ((s.retireLane k).raise 0x1A) := by
    rw [State.exec_verdict hr k false (by omega), if_neg Bool.false_ne_true, if_neg (by omega), if_neg (Bool.eq_false_iff.1 hfk),
      State.when_true (h := decide_eq_true hleft)]
  rw [hexec]
  obtain ⟨r1, r2, r3, r4⟩ := State.retireLane_shows hk hq30 rfl
  generalize s.retireLane k = u at r1 r2 r3 r4
  have hend := r1.raise (by decide) (n := 0x1A) (by decide) hq
  have hc : u.Confined raiseBlocks (u.raise 0x1A) := u.confined_raise 0x1A none (by decide) (r1.quiet (by decide) hq)
  have hin (i : Nat) : (u.raise 0x1A).inst i = u.inst i := by
    unfold State.inst
    rw [hc.gr]
  refine ⟨_, rfl, (State.flag_congr (hc.getF _ ?_)).trans r2, r1.raised (by decide) hq ha,
    (u.getF_raise_count (by decide) (r1.quiet (by decide) hq) (by unfold Fld.repairCount; decide)).trans r3, hend.mode_eq,
    fun i hi hlen hcls hlane hdue hst => ?_, hend.within.1, hend.within.2⟩
  · have : (F.CMP_STAT_RETIRED k).addr / 0x10000 = 0x4004 := by
      simp only [F.CMP_STAT_RETIRED]
      omega
    rw [this]
    decide
  · rw [hin]
    refine r4 i (List.mem_filter.2 ⟨List.mem_range.2 hi, ?_⟩) hlen
    rw [decide_eq_true hcls, decide_eq_true hdue, decide_eq_true hlane, hst]
    decide



/-! ### A tile that a verifier finishes (R92, R432) -/

/-- What a verifier's first read leaves. -/
def State.tileRead (s : State) (tile : Nat) : State :=
  ({ s with gr := { s.gr with verified := s.gr.verified ++ [tile] } } : State).incF F.FLT_VERIFY_CNT_COUNT

/-- What the read that is repeated leaves, before its verdict. -/
def State.tileReread (s : State) (tile : Nat) (hob : Option Nat) : State :=
  ((((s.tileRead tile).incF F.FLT_VERIFY_RETRY_CNT_COUNT).incF F.HOB_RETRY_CNT_COUNT).setFlag F.HOB_STATUS_RETRY_SEEN true).countRetry.verifyEvent
    tile hob

section
variable {s : State} {tile : Nat} {hob : Option Nat} {homed : List Nat} (hr : s.sys.phase = .run) (ht : tile < 2048) (hv : tile ∉ s.gr.verified)
include hr ht hv

theorem State.tileVerify_due (pass1 pass2 : Bool) :
    s.tileVerify tile pass1 pass2 hob homed = if pass1 then s.tileRead tile
      else if pass2 then (s.tileReread tile hob).transient.raise (0x1C + regionOf tile)
      else ((((s.tileReread tile hob).lasting.repairTile tile homed).raise (0x22 + regionOf tile)).firstFatal (s.tileReread tile hob)
        [0x22 + regionOf tile]) := by
  have hcond : (!s.running || decide (2048 ≤ tile) || s.gr.verified.contains tile) = false := by
    rw [State.running_of_run hr, decide_eq_false (by omega), List.contains_eq_mem, decide_eq_false hv]
    rfl
  unfold State.tileVerify
  rw [hcond, if_neg Bool.false_ne_true]
  rfl

theorem State.tileVerify_passes (pass2 : Bool) :
    ∃ t, exec (.tileVerify tile true pass2 hob homed) s = .next t ∧ t.gr.verified = s.gr.verified ++ [tile] ∧
      t.getF F.FLT_VERIFY_CNT_COUNT = min (2 ^ 32 - 1) (s.getF F.FLT_VERIFY_CNT_COUNT + 1) ∧
      s.OnlyRegs [F.FLT_VERIFY_CNT_COUNT.addr] t ∧ t.gr.insts = s.gr.insts ∧ s.SameStores t := by
  have hexec : exec (.tileVerify tile true pass2 hob homed) s = .next (s.tileVerify tile true pass2 hob homed) := rfl
  have hw : F.FLT_VERIFY_CNT_COUNT.width = 32 := rfl
  rw [hexec, State.tileVerify_due hr ht hv, if_pos rfl]
  have h0 : ∀ u : State, u.regs = s.regs → u.gr.verified = s.gr.verified ++ [tile] → u.gr.insts = s.gr.insts → s.SameStores u →
      (u.incF F.FLT_VERIFY_CNT_COUNT).gr.verified = s.gr.verified ++ [tile] ∧
      (u.incF F.FLT_VERIFY_CNT_COUNT).getF F.FLT_VERIFY_CNT_COUNT = min (2 ^ 32 - 1) (s.getF F.FLT_VERIFY_CNT_COUNT + 1) ∧
      s.OnlyRegs [F.FLT_VERIFY_CNT_COUNT.addr] (u.incF F.FLT_VERIFY_CNT_COUNT) ∧ (u.incF F.FLT_VERIFY_CNT_COUNT).gr.insts = s.gr.insts ∧
      s.SameStores (u.incF F.FLT_VERIFY_CNT_COUNT) := fun u hregs hver hin hst => by
    have hget := State.getF_incF_same u F.FLT_VERIFY_CNT_COUNT (by rfl)
    rw [hw, State.getF_of_regs hregs] at hget
    refine ⟨?_, hget, fun a ha => ?_, ?_, hst⟩
    · rw [State.incF_gr]
      exact hver
    · refine (State.reg_setF_other _ _ _ _ fun h => ha (h ▸ List.mem_singleton.2 rfl)).trans ?_
      unfold State.reg
      rw [hregs]
    · rw [State.incF_gr]
      exact hin
  exact ⟨_, rfl, h0 _ rfl rfl rfl ⟨rfl, rfl, rfl, rfl⟩⟩

omit hr ht hv in
theorem State.tileRead_shows (s : State) (tile : Nat) : s.Still raiseBlocks (s.tileRead tile) :=
  ((State.Still.refl raiseBlocks s).hidden (t := { s with gr := { s.gr with verified := s.gr.verified ++ [tile] } })
    ((State.Within.refl _ s).hidden ..) rfl rfl rfl).incLow F.FLT_VERIFY_CNT_COUNT (by decide) (by decide) (by decide)
    (by unfold Fld.repairCount; decide)

omit hr ht hv in
theorem State.verifyEvent_still (s : State) (tile : Nat) (hob : Option Nat) : s.Still [0x4005] (s.verifyEvent tile hob) := by
  unfold State.verifyEvent
  extract_lets staged readers
  split
  · exact (State.Still.refl _ s).lastEvent _ _ _ _ (by decide)
  · have hf : s.Still [0x4005] s.fresh.2 := (State.Still.refl _ s).hidden ((State.Within.refl _ s).hidden ..) rfl rfl rfl
    exact hf.lastEvent _ _ _ _ (by decide)

omit hr ht hv in
theorem State.tileReread_shows (hq : s.Quiet 0x30) {t : State} (h : s.tileReread tile hob = t) :
    s.Steady (0x4005 :: raiseBlocks) t ∧ t.held = s.held ∧
      t.getF F.FLT_VERIFY_RETRY_CNT_COUNT = min (2 ^ 32 - 1) (s.getF F.FLT_VERIFY_RETRY_CNT_COUNT + 1) ∧
      t.getF F.FLT_SPARE_CNT_COUNT = s.getF F.FLT_SPARE_CNT_COUNT := by
  have hw : F.FLT_VERIFY_RETRY_CNT_COUNT.width = 32 := rfl
  unfold State.tileReread at h
  have h1 := s.tileRead_shows tile
  generalize s.tileRead tile = u at h1 h
  have hget := State.getF_incF_same u F.FLT_VERIFY_RETRY_CNT_COUNT (by rfl)
  rw [hw, h1.count _ (by unfold Fld.repairCount; decide)] at hget
  have hspare : (u.incF F.FLT_VERIFY_RETRY_CNT_COUNT).getF F.FLT_SPARE_CNT_COUNT = u.getF F.FLT_SPARE_CNT_COUNT :=
    State.getF_setF_other _ _ _ _ (by decide)
  have h2 : u.Steady raiseBlocks (u.incF F.FLT_VERIFY_RETRY_CNT_COUNT) := .setF_low _ _ _ (by decide) (by decide) (by decide)
  have hheld : (u.incF F.FLT_VERIFY_RETRY_CNT_COUNT).held = u.held := by
    unfold State.held
    rw [State.incF_gr, State.incF_img, State.incF_map, State.incF_cmps]
  generalize u.incF F.FLT_VERIFY_RETRY_CNT_COUNT = v at hget hspare h2 hheld h
  have hqv : v.Quiet 0x30 := (h1.steady.trans h2).quiet (by decide) hq
  have h3 := (((State.Still.refl (0x4005 :: raiseBlocks) v).incF F.HOB_RETRY_CNT_COUNT (by decide) (by decide) (by decide)).setFlag
    F.HOB_STATUS_RETRY_SEEN true (by decide) (by decide) (by decide)).countRetry (by decide) hqv
  generalize ((v.incF F.HOB_RETRY_CNT_COUNT).setFlag F.HOB_STATUS_RETRY_SEEN true).countRetry = w at h3 h
  have h4 := h3.trans ((w.verifyEvent_still tile hob).mono (by decide))
  rw [h] at h4
  refine ⟨((h1.steady.trans h2).mono (by decide)).trans h4.steady, h4.held.trans (hheld.trans h1.held), ?_, ?_⟩
  · exact (h4.count _ (by unfold Fld.repairCount; decide)).trans hget
  · exact (h4.count _ (by unfold Fld.repairCount; decide)).trans (hspare.trans (h1.count _ (by unfold Fld.repairCount; decide)))

omit hr ht hv in
theorem regionOf_lt (tile : Nat) : regionOf tile < 6 := by
  unfold regionOf
  cases h : ((List.range 6).filter (fun r => decide ((regionTiles.getD r (0, 0)).1 ≤ tile))).getLast? with
  | none => decide
  | some r => exact List.mem_range.1 (List.mem_of_mem_filter (List.mem_of_getLast? h))

/-- A tile that passes at the second read only was corrected. -/
theorem State.tileVerify_corrected (hq30 : s.Quiet 0x30) (hq : s.Quiet (0x1C + regionOf tile)) (ha : s.asserted (0x1C + regionOf tile) = false) :
    ∃ t, exec (.tileVerify tile false true hob homed) s = .next t ∧ t.sticky (0x1C + regionOf tile) = true ∧
      t.getF F.FLT_VERIFY_RETRY_CNT_COUNT = min (2 ^ 32 - 1) (s.getF F.FLT_VERIFY_RETRY_CNT_COUNT + 1) ∧
      t.gr.insts = s.gr.insts ∧ t.mode = s.mode ∧ s.SameRegs (0x4005 :: raiseBlocks) t ∧ s.SameStores t := by
  have hn : 0x1C + regionOf tile < 256 := by
    have := regionOf_lt tile
    omega
  have hexec : exec (.tileVerify tile false true hob homed) s = .next (s.tileVerify tile false true hob homed) := rfl
  rw [hexec, State.tileVerify_due hr ht hv, if_neg Bool.false_ne_true, if_pos rfl]
  obtain ⟨h1, h2, h3, -⟩ := State.tileReread_shows (tile := tile) (hob := hob) hq30 rfl
  generalize s.tileReread tile hob = u at h1 h2 h3
  have h4 : u.Still raiseBlocks u.transient :=
    (State.Still.refl raiseBlocks u).incLow F.FLT_TRANSIENT_CNT_COUNT (by decide) (by decide) (by decide) (by unfold Fld.repairCount; decide)
  generalize u.transient = v at h4
  have hsv : s.Steady (0x4005 :: raiseBlocks) v := h1.trans (h4.steady.mono (by decide))
  have hend := h4.raise (fun _ h => h) hn (h1.quiet hn hq)
  have hs := hsv.raise (by decide) hn hq
  obtain ⟨e1, -⟩ := State.held_eq (hend.held.trans h2)
  exact ⟨_, rfl, hsv.raised hn hq ha, (hend.count _ (by unfold Fld.repairCount; decide)).trans h3, e1, hs.mode_eq, hs.within.1, hs.within.2⟩

end

/-! ### The end of a lasting failure -/

/-- Work after which the raises that follow find what they found: as `State.Steady`, but for the repaired tile and the spare that repairs it. -/
structure State.Runs (bs : List Nat) (r s : State) : Prop where
  regs : r.SameRegs bs s
  mram : s.mram = r.mram
  flash : s.flash = r.flash
  otp : s.otp = r.otp
  phase : s.sys.phase = r.sys.phase
  mode : s.getF F.SYS_MODE_MODE = r.getF F.SYS_MODE_MODE
  asserting : s.asserting = r.asserting
  cfg : ∀ g : Fld, g.srcCfg → s.getF g = r.getF g

section
variable {bs cs : List Nat} {r s t : State}

theorem State.Runs.trans (h : r.Runs bs s) (k : s.Runs bs t) : r.Runs bs t :=
  ⟨fun a ha => (k.regs a ha).trans (h.regs a ha), k.mram.trans h.mram, k.flash.trans h.flash, k.otp.trans h.otp, k.phase.trans h.phase,
    k.mode.trans h.mode, k.asserting.trans h.asserting, fun g hg => (k.cfg g hg).trans (h.cfg g hg)⟩

theorem State.Runs.mono (h : r.Runs bs s) (hsub : ∀ b ∈ bs, b ∈ cs) : r.Runs cs s :=
  ⟨fun a ha => h.regs a fun hb => ha (hsub _ hb), h.mram, h.flash, h.otp, h.phase, h.mode, h.asserting, h.cfg⟩

theorem State.Steady.runs (h : r.Steady bs s) : r.Runs bs s := by
  obtain ⟨hregs, -, hmram, hflash, hotp⟩ := h.within
  exact ⟨hregs, hmram, hflash, hotp, congrArg Sys.phase h.sys, h.mode, h.asserting, h.cfg⟩

section
variable (h : r.Runs bs s)
include h

theorem State.Runs.quiet {n : Nat} (hn : n < 256) (hq : r.Quiet n) : s.Quiet n :=
  hq.of_getF h.phase h.mode (h.cfg _ (Fld.srcCfg_reaction n hn))

theorem State.Runs.asserted (n : Nat) : s.asserted n = r.asserted n := State.asserted_of_asserting h.asserting n

theorem State.Runs.mode_eq : s.mode = r.mode := State.mode_congr h.phase h.mode

end

theorem State.firstFatal_still (s b : State) (l : List Nat) : s.Still [0x4003] (s.firstFatal b l) := by
  unfold State.firstFatal
  split
  · exact .refl _ s
  · refine State.each_keeps (fun u => s.Still [0x4003] u) _ (fun u n hu => ?_) _ s (.refl _ s)
    refine hu.when _ _ (hu.trans ⟨.setF_low _ _ _ (by decide) (by decide) (by decide), ?_, fun g hg => State.getF_setF_other _ _ _ _ ?_⟩)
    · unfold State.held
      rw [State.setF_gr, State.setF_img, State.setF_map, State.setF_cmps]
    · unfold Fld.repairCount at hg
      simp only [F.FLT_FIRST_FATAL_SOURCE]
      omega

/-- The raise that ends a lasting failure. -/
theorem State.Runs.lastingRaise (h : r.Runs bs s) (hb : ∀ b ∈ raiseBlocks, b ∈ bs) {n : Nat} (hn : n < 256) (hq : r.Quiet n) (ha : r.asserted n = false)
    (b : State) (l : List Nat) {t : State} (ht : (s.raise n).firstFatal b l = t) :
    s.Still raiseBlocks t ∧ t.sticky n = true ∧ r.Runs bs t := by
  have hqs := h.quiet hn hq
  have h1 := (State.Still.refl raiseBlocks s).raise (fun _ h => h) hn hqs
  have hst := s.sticky_raise n none hn hqs ((h.asserted n).trans ha)
  change (s.raise n).sticky n = true at hst
  have h2 := (s.raise n).firstFatal_still b l
  generalize s.raise n = u at h1 h2 hst ht
  rw [ht] at h2
  have h3 := h1.trans (h2.mono (by decide))
  exact ⟨h3, h2.steady.sticky n hn hst, h.trans (h3.steady.runs.mono hb)⟩

end



/-! ### What a repair does, by region (R433) -/

theorem clusterBank_lt {b c k : Nat} (h : clusterBank b = some (c, k)) : c < 8 := by
  unfold clusterBank at h
  split at h
  · obtain ⟨rfl, -⟩ := Prod.mk.inj (Option.some.inj h)
    omega
  · split at h
    · obtain ⟨rfl, -⟩ := Prod.mk.inj (Option.some.inj h)
      omega
    · exact absurd h nofun

/-- The bank's spare tile is in use. -/
def State.spareTaken (s : State) (tile : Nat) : State :=
  { s with sys := { s.sys with spares := s.sys.spares ++ [tile / 16], rowFix := s.sys.rowFix.filter (fun x => decide (x.1 ≠ tile)) } }

theorem State.useSpare_eq (s : State) (tile : Nat) : s.useSpare tile = match clusterBank (tile / 16) with
    | some (c, k) => (((s.spareTaken tile).incF F.FLT_SPARE_CNT_COUNT).event Ev.flt 4).setF (F.SYS_CLUSTER_SPARE_USED c)
        ((((s.spareTaken tile).incF F.FLT_SPARE_CNT_COUNT).event Ev.flt 4).getF (F.SYS_CLUSTER_SPARE_USED c) ||| 2 ^ k)
    | none => ((s.spareTaken tile).incF F.FLT_SPARE_CNT_COUNT).event Ev.flt 4 := rfl

/-- A spare tile that takes a tile's place. -/
theorem State.useSpare_shows (s : State) (tile : Nat) {t : State} (ht : s.useSpare tile = t) :
    s.Runs (0x4000 :: raiseBlocks) t ∧ t.held = s.held ∧ t.tiles = s.tiles ∧ t.sys.spares = s.sys.spares ++ [tile / 16] ∧
      t.getF F.FLT_SPARE_CNT_COUNT = min (2 ^ 32 - 1) (s.getF F.FLT_SPARE_CNT_COUNT + 1) := by
  have hw : F.FLT_SPARE_CNT_COUNT.width = 32 := rfl
  have h1 : s.Runs (0x4000 :: raiseBlocks) (s.spareTaken tile) ∧ (s.spareTaken tile).held = s.held ∧ (s.spareTaken tile).tiles = s.tiles ∧
      (s.spareTaken tile).sys.spares = s.sys.spares ++ [tile / 16] ∧
      (s.spareTaken tile).getF F.FLT_SPARE_CNT_COUNT = s.getF F.FLT_SPARE_CNT_COUNT :=
    ⟨⟨fun _ _ => rfl, rfl, rfl, rfl, rfl, rfl, rfl, fun _ _ => rfl⟩, rfl, rfl, rfl, rfl⟩
  rw [s.useSpare_eq] at ht
  generalize s.spareTaken tile = u at h1 ht
  obtain ⟨u1, u2, u3, u4, u5⟩ := h1
  have hget := State.getF_incF_same u F.FLT_SPARE_CNT_COUNT (by rfl)
  rw [hw, u5] at hget
  have h2 : u.Steady raiseBlocks (u.incF F.FLT_SPARE_CNT_COUNT) := .setF_low _ _ _ (by decide) (by decide) (by decide)
  have hheld : (u.incF F.FLT_SPARE_CNT_COUNT).held = u.held := by
    unfold State.held
    rw [State.incF_gr, State.incF_img, State.incF_map, State.incF_cmps]
  generalize u.incF F.FLT_SPARE_CNT_COUNT = v at hget h2 hheld ht
  have h3 : v.Still (0x4000 :: raiseBlocks) (v.event Ev.flt 4) :=
    (State.Still.refl _ v).event Ev.flt 4 (by decide) (by decide) (by decide) (by unfold Fld.repairCount; decide)
  generalize v.event Ev.flt 4 = w at h3 ht
  have h4 : w.Still (0x4000 :: raiseBlocks) t := by
    rw [← ht]
    split
    · next c k hc =>
      have hlt := clusterBank_lt hc
      refine ⟨.setF_low _ _ _ ?_ ?_ ?_, ?_, fun g hg => State.getF_setF_other _ _ _ _ ?_⟩
      · have : (F.SYS_CLUSTER_SPARE_USED c).addr / 0x10000 = 0x4000 := by
          simp only [F.SYS_CLUSTER_SPARE_USED]
          omega
        rw [this]
        decide
      · simp only [F.SYS_CLUSTER_SPARE_USED]
        omega
      · simp only [F.SYS_CLUSTER_SPARE_USED, F.SYS_MODE_MODE]
        omega
      · unfold State.held
        rw [State.setF_gr, State.setF_img, State.setF_map, State.setF_cmps]
      · unfold Fld.repairCount at hg
        simp only [F.SYS_CLUSTER_SPARE_USED]
        omega
    · exact .refl _ w
  have hv : v.Still (0x4000 :: raiseBlocks) t := h3.trans h4
  have hst := (h2.mono (cs := 0x4000 :: raiseBlocks) (by decide)).trans hv.steady
  exact ⟨u1.trans hst.runs, hv.held.trans (hheld.trans u2), hst.within.2.1.trans u3, (congrArg Sys.spares hst.sys).trans u4,
    (hv.count _ (by unfold Fld.repairCount; decide)).trans hget⟩

/-! Region 0: the state of instances -/

/-- What is left of an instance whose state is reset. -/
def State.StateReset (s : State) (i : Nat) (x : InstRun) : Prop :=
  x.st = List.replicate (s.node i).stateWords 0 ∧ x.fresh = true ∧ x.aged = true

theorem State.lawShow_cmps (s : State) (i : Nat) : (s.lawShow i).cmps = s.cmps := by
  unfold State.lawShow
  split
  · rfl
  · dsimp only
    rw [State.setReg_cmps, State.setF_cmps, State.setFlag_cmps, State.setF_cmps, State.setF_cmps, State.setF_cmps]

theorem State.resetInst_shows (s : State) (i : Nat) :
    s.Steady [0x4006] (s.resetInst i) ∧ (s.resetInst i).cmps = s.cmps ∧ (s.resetInst i).img = s.img ∧
      (s.resetInst i).gr.insts.length = s.gr.insts.length ∧ (i < s.gr.insts.length → s.StateReset i ((s.resetInst i).inst i)) ∧
      ∀ j, (s.resetInst i).inst j = s.inst j ∨ s.StateReset j ((s.resetInst i).inst j) := by
  generalize ht : s.resetInst i = t
  unfold State.resetInst at ht
  extract_lets n x at ht
  have hset (r : InstRun) : s.Steady [] (s.setInst i r) ∧ (s.setInst i r).gr.insts = s.gr.insts.set i r ∧ (s.setInst i r).cmps = s.cmps ∧
      (s.setInst i r).img = s.img := ⟨(State.Steady.refl _ s).hidden ((State.Within.refl _ s).hidden ..) rfl rfl, rfl, rfl, rfl⟩
  generalize hy : ({ x with st := List.replicate n.stateWords 0, fresh := true, bank := n.initSet.2, act := n.initSet.1, pend := none,
                            reseed := false, aged := true } : InstRun) = y at ht
  have hyr : s.StateReset i y := by
    rw [← hy]
    exact ⟨rfl, rfl, rfl⟩
  obtain ⟨g1, g2, g3, g4⟩ := hset y
  generalize s.setInst i y = u at g1 g2 g3 g4 ht
  have hl := u.lawShow_kept i
  have hlc := u.lawShow_cmps i
  rw [ht] at hl hlc
  have hins : t.gr.insts = s.gr.insts.set i y := by rw [hl.gr, g2]
  obtain ⟨i1, i2⟩ := State.inst_set hins
  refine ⟨(g1.mono nofun).trans (hl.steady (by decide) (by decide)), hlc.trans g3, hl.img.trans g4, by rw [hins, List.length_set], fun h => ?_,
    fun j => ?_⟩
  · rw [i1 h]
    exact hyr
  · by_cases hj : j = i
    · subst hj
      by_cases hlen : j < s.gr.insts.length
      · rw [i1 hlen]
        exact .inr hyr
      · refine .inl ?_
        unfold State.inst
        rw [hins, List.set_eq_of_length_le (by omega)]
    · exact .inl (i2 j hj)

theorem State.each_resetInst (l : List Nat) : ∀ s : State,
    s.Steady [0x4006] (s.each l State.resetInst) ∧ (s.each l State.resetInst).cmps = s.cmps ∧
      (∀ i ∈ l, i < s.gr.insts.length → s.StateReset i ((s.each l State.resetInst).inst i)) ∧
      ∀ i, s.StateReset i (s.inst i) → s.StateReset i ((s.each l State.resetInst).inst i) := by
  induction l with
  | nil => exact fun s => ⟨.refl _ s, rfl, nofun, fun _ h => h⟩
  | cons i l ih =>
      intro s
      obtain ⟨h1, h2, h3, h4, h5, h6⟩ := s.resetInst_shows i
      have hcons : s.each (i :: l) State.resetInst = (s.resetInst i).each l State.resetInst := rfl
      have hnode (j : Nat) (x : InstRun) : (s.resetInst i).StateReset j x ↔ s.StateReset j x := by
        unfold State.StateReset State.node
        rw [h3]
      rw [hcons]
      generalize s.resetInst i = u at h1 h2 h4 h5 h6 hnode ⊢
      obtain ⟨k1, k2, k3, k4⟩ := ih u
      refine ⟨h1.trans k1, k2.trans h2, fun j hj hlen => ?_, fun j hj => (hnode _ _).1 (k4 j ((hnode _ _).2 ?_))⟩
      · by_cases hm : j ∈ l
        · exact (hnode _ _).1 (k3 j hm (by rw [h4]; exact hlen))
        · obtain rfl : j = i := (List.mem_cons.1 hj).resolve_right hm
          exact (hnode _ _).1 (k4 j ((hnode _ _).2 (h5 hlen)))
      · exact (h6 j).elim (fun h => h.symm ▸ hj) id

theorem State.restoreState_shows (s : State) (homed : List Nat) {t : State} (ht : s.restoreState homed = t) :
    s.Steady [0x4004, 0x4005, 0x4006] t ∧ s.Unstalled t ∧
      ∀ i ∈ homed, i < s.img.nodes.length → i < s.gr.insts.length → (s.node i).cls ≠ 0 → s.StateReset i (t.inst i) := by
  unfold State.restoreState at ht
  extract_lets l at ht
  have hd : s.CopiesGone _ (s.discard (l.filter (fun i => decide ((s.inst i).sample = .due)))) := s.discardCopies_shows _
  have hun := s.discard_unstalled (l.filter (fun i => decide ((s.inst i).sample = .due)))
  generalize s.discard (l.filter (fun i => decide ((s.inst i).sample = .due))) = u at hd hun ht
  obtain ⟨e1, e2, e3, -⟩ := State.each_resetInst (l.filter (fun i => decide ((s.node i).cls ≠ 0))) u
  rw [ht] at e1 e2 e3
  have hnode (j : Nat) (x : InstRun) : u.StateReset j x ↔ s.StateReset j x := by
    unfold State.StateReset State.node
    rw [hd.img]
  refine ⟨(hd.steady.mono (by decide)).trans (e1.mono (by decide)), hun.trans (.of_cmps e1.within (by decide) e2), fun i hi hn hlen hcls => ?_⟩
  refine (hnode _ _).1 (e3 i (List.mem_filter.2 ⟨List.mem_filter.2 ⟨hi, decide_eq_true hn⟩, decide_eq_true hcls⟩) ?_)
  rw [hd.insts]
  exact hlen



/-! Region 1: tiles of the map -/

/-- Work of the network's units: it leaves the graph, the comparators and what the map has lost. -/
structure State.Sends (bs : List Nat) (s t : State) : Prop where
  kept : s.GraphKept bs t
  cmps : t.cmps = s.cmps
  lost : t.map.lost = s.map.lost
  removed : t.map.removed = s.map.removed

section
variable {bs : List Nat} {r s t : State}

theorem State.Sends.refl (bs : List Nat) (s : State) : s.Sends bs s := ⟨.refl _ s, rfl, rfl, rfl⟩

theorem State.Sends.trans (h : r.Sends bs s) (k : s.Sends bs t) : r.Sends bs t :=
  ⟨h.kept.trans k.kept, k.cmps.trans h.cmps, k.lost.trans h.lost, k.removed.trans h.removed⟩

section
variable (h : r.Sends bs s)
include h

theorem State.Sends.setF (f : Fld) (v : Nat) (hb : f.addr / 0x10000 ∈ bs) : r.Sends bs (s.setF f v) :=
  ⟨h.kept.setF f v hb, h.cmps, h.lost, h.removed⟩

theorem State.Sends.incF (f : Fld) (hb : f.addr / 0x10000 ∈ bs) : r.Sends bs (s.incF f) := h.setF f _ hb

theorem State.Sends.hidden (ht : s.GraphKept [] t) (hc : t.cmps = s.cmps) (hm : t.map.lost = s.map.lost ∧ t.map.removed = s.map.removed) :
    r.Sends bs t := h.trans ⟨ht.mono nofun, hc, hm.1, hm.2⟩

theorem State.Sends.setEth (p : Nat) (e : Eth) : r.Sends bs (s.setEth p e) :=
  h.hidden ⟨(State.Within.refl _ s).hidden .., rfl, rfl, rfl, rfl⟩ rfl ⟨rfl, rfl⟩

theorem State.Sends.event (e : EvBlk) (b : Nat) (hb : e.ev.addr / 0x10000 ∈ bs) : r.Sends bs (s.event e b) := by
  have h1 := h.setF e.ev (s.getF e.ev ||| 2 ^ b) hb
  unfold State.event
  dsimp only
  split
  · exact h1.hidden ⟨(State.Within.refl _ _).hidden .., rfl, rfl, rfl, rfl⟩ rfl ⟨rfl, rfl⟩
  · exact h1

theorem State.Sends.ethSend (h15 : 0x400F ∈ bs) {p : Nat} (hp : p < 2) (o : EthOut) : r.Sends bs (s.ethSend p o) := by
  have hb : (F.ETH_TX_DEFER_CNT_COUNT p).addr / 0x10000 = 0x400F ∧ (F.ETH_TX_OK_CNT_COUNT p).addr / 0x10000 = 0x400F := by
    simp only [F.ETH_TX_DEFER_CNT_COUNT, F.ETH_TX_OK_CNT_COUNT]
    omega
  unfold State.ethSend
  dsimp only
  split
  · exact h
  · split
    · exact (h.setEth p _).incF _ (by rw [hb.1]; exact h15)
    · exact (h.setEth p _).incF _ (by rw [hb.2]; exact h15)

theorem State.Sends.udpSend (h15 : 0x400F ∈ bs) {p : Nat} (hp : p < 2) (f : Bool) (ip port : Nat) (b : List Byte) : r.Sends bs (s.udpSend p f ip port b) := by
  have hb : (F.ETH_ARP_MISS_CNT_COUNT p).addr / 0x10000 = 0x400F ∧ (Ev.eth p).ev.addr / 0x10000 = 0x400F := by
    simp only [F.ETH_ARP_MISS_CNT_COUNT, Ev.eth, F.ETH_EVENT_SEEN]
    omega
  unfold State.udpSend
  split
  · exact h.ethSend h15 hp _
  · have h1 := (h.incF (F.ETH_ARP_MISS_CNT_COUNT p) (by rw [hb.1]; exact h15)).event (Ev.eth p) 4 (by rw [hb.2]; exact h15)
    unfold State.arpAsk
    dsimp only
    split
    · exact h1.setEth p _
    · exact (h1.setEth p _).ethSend h15 hp _

end

/-- A port that the mask takes is one of the two. -/
theorem port_lt_of_mask (s : State) {p : Nat} (h : bit (s.getF F.MAP_CFG_PORT_MASK) p = true) : p < 2 := by
  have hlt : s.getF F.MAP_CFG_PORT_MASK < 2 ^ 2 := s.getF_lt _
  by_contra hp
  rw [bit_eq_testBit, Nat.testBit_lt_two_pow (lt_of_lt_of_le hlt (Nat.pow_le_pow_right (by decide) (by omega)))] at h
  exact absurd h (by decide)

theorem State.Sends.feedSend (h : r.Sends bs s) (h15 : 0x400F ∈ bs) (ty : Nat) (b : List Byte) : r.Sends bs (s.feedSend ty b) := by
  unfold State.feedSend
  split
  · exact h
  · next x _ =>
    dsimp only
    have h1 : r.Sends bs (s.setSession (some { x with tx := (x.tx + 1) % 2 ^ 32 })) :=
      h.hidden ⟨(State.Within.refl _ s).hidden .., rfl, rfl, rfl, rfl⟩ rfl ⟨rfl, rfl⟩
    generalize s.setSession (some { x with tx := (x.tx + 1) % 2 ^ 32 }) = u at h1 ⊢
    have hport (l : List (Nat × Nat × Nat)) (hl : ∀ p ∈ l, p.1 < 2) : ∀ v : State, r.Sends bs v →
        r.Sends bs (v.each l (fun s p => s.udpSend p.1 true p.2.1 p.2.2 (feedBytes ty x.tx x.id b))) := by
      induction l with
      | nil => exact fun _ hv => hv
      | cons p l ih => exact fun v hv => ih (fun q hq => hl q (by simp [hq])) _ (hv.udpSend h15 (hl p (by simp)) true p.2.1 p.2.2 _)
    exact hport _ (fun p hp => port_lt_of_mask s (List.mem_filter.1 hp).2) u h1

theorem State.tileReq_sends (s : State) (l : List TileKey) : s.Sends [0x4008, 0x400F] (s.tileReq l) := by
  unfold State.tileReq
  refine List.foldlRecOn (motive := fun u : State => s.Sends [0x4008, 0x400F] u) _ _ (.refl _ s) fun u hu i _ => ?_
  dsimp only
  rcases State.when_cases u u.map.session.isSome (fun s => (s.feedSend 0x83 (leBytes 2 ((l.drop (64 * i)).take 64).length ++ [0, 0] ++
    ((l.drop (64 * i)).take 64).flatMap TileKey.bytes)).incF F.MAP_TILE_REQ_CNT_COUNT) with ⟨-, hw⟩ | ⟨-, hw⟩ <;> rw [hw]
  · exact (hu.feedSend (by decide) _ _).incF _ (by decide)
  · exact hu

end

theorem State.mapTileLost_shows (s : State) (slot : Nat) (gone : Bool) :
    s.GraphKept [0x4008, 0x400F] (s.mapTileLost slot gone) ∧ (s.mapTileLost slot gone).cmps = s.cmps ∧
      (s.mapTileLost slot gone).map.removed = (if gone then s.map.removed ++ [slot] else s.map.removed) ∧
      ∀ e, s.map.dir.find? (fun e => decide (e.slot = slot)) = some e → (s.mapTileLost slot gone).map.lost = s.map.lost ++ [e.key] := by
  generalize ht : s.mapTileLost slot gone = t
  unfold State.mapTileLost at ht
  extract_lets s0 at ht
  have h0 : s.GraphKept [] s0 ∧ s0.cmps = s.cmps ∧ s0.map.removed = (if gone then s.map.removed ++ [slot] else s.map.removed) ∧
      s0.map.lost = s.map.lost := by
    cases gone
    · exact ⟨.refl _ s, rfl, rfl, rfl⟩
    · exact ⟨⟨(State.Within.refl _ s).hidden .., rfl, rfl, rfl, rfl⟩, rfl, rfl, rfl⟩
  clear_value s0
  obtain ⟨a1, a2, a3, a4⟩ := h0
  split at ht
  · next hnone =>
    rw [← ht]
    exact ⟨a1.mono nofun, a2, a3, fun e he => absurd (hnone.symm.trans he) nofun⟩
  · next e he =>
    generalize hu : ({ s0 with map := { s0.map with lost := s0.map.lost ++ [e.key], unread := s0.map.unread ++ [e.key] } } : State) = u at ht
    have h1 : s0.GraphKept [] u ∧ u.cmps = s0.cmps ∧ u.map.removed = s0.map.removed ∧ u.map.lost = s0.map.lost ++ [e.key] := by
      rw [← hu]
      exact ⟨⟨(State.Within.refl _ s0).hidden .., rfl, rfl, rfl, rfl⟩, rfl, rfl, rfl⟩
    obtain ⟨b1, b2, b3, b4⟩ := h1
    have h2 := u.tileReq_sends [e.key]
    rw [ht] at h2
    refine ⟨((a1.trans b1).mono nofun).trans h2.kept, h2.cmps.trans (b2.trans a2), h2.removed.trans (b3.trans a3), fun e' he' => ?_⟩
    obtain rfl : e = e' := Option.some.inj (he.symm.trans he')
    rw [h2.lost, b4, a4]



/-! Regions 2 to 5: tiles of the andirons, the buffers and the journal -/

theorem regionOf_start {tile r : Nat} (h : regionOf tile = r) (hr : r ≠ 0) : (regionTiles.getD r (0, 0)).1 ≤ tile := by
  unfold regionOf at h
  cases hl : ((List.range 6).filter (fun r => decide ((regionTiles.getD r (0, 0)).1 ≤ tile))).getLast? with
  | none =>
      rw [hl] at h
      exact absurd h.symm hr
  | some x =>
      rw [hl] at h
      obtain rfl : x = r := h
      obtain ⟨-, hx⟩ := List.mem_filter.1 (List.mem_of_getLast? hl)
      exact of_decide_eq_true hx

/-- A string written over a tile. -/
theorem Mem.byte_write_tile (m : List (Nat × Byte)) (tile : Nat) {bs : List Byte} (hl : bs.length = 4096) (a : Nat) :
    Mem.byte 0 (Mem.write 0 m (tileBase + 4096 * tile) bs) a =
      if tileBase + 4096 * tile ≤ a ∧ a < tileBase + 4096 * tile + 4096 then bs.getD (a - (tileBase + 4096 * tile)) 0 else Mem.byte 0 m a := by
  split
  · next h =>
    obtain ⟨i, rfl⟩ := Nat.exists_eq_add_of_le h.1
    rw [Nat.add_sub_cancel_left]
    exact Mem.byte_write_in 0 m _ i bs (by omega)
  · next h => exact Mem.byte_write_out 0 m _ a bs (by omega)

/-- A tile replaced; nothing else changes. -/
theorem State.runs_tiles (s : State) (x : List (Nat × Byte)) :
    s.Runs [] { s with tiles := x } ∧ ({ s with tiles := x } : State).held = s.held ∧ ({ s with tiles := x } : State).sys = s.sys ∧
      ({ s with tiles := x } : State).regs = s.regs :=
  ⟨⟨fun _ _ => rfl, rfl, rfl, rfl, rfl, rfl, rfl, fun _ _ => rfl⟩, rfl, rfl, rfl⟩

theorem State.copyPartner_tiles (s : State) {tile : Nat} (hr : regionOf tile = 2 ∨ regionOf tile = 3) (hwf : Mem.wf 0 s.tiles = true) (a : Nat) :
    Mem.byte 0 (s.copyPartner tile).tiles a = if tileBase + 4096 * tile ≤ a ∧ a < tileBase + 4096 * tile + 4096 then
      Mem.byte 0 s.tiles (if regionOf tile = 2 then a + 4096 * 96 else a - 4096 * 96) else Mem.byte 0 s.tiles a := by
  refine (Mem.byte_write_tile s.tiles tile (Mem.length_read ..) a).trans ?_
  split
  · next h =>
    rw [Mem.read_getD 0 s.tiles _ _ _ hwf (by omega)]
    congr 1
    rcases hr with hr | hr
    · rw [if_pos hr, if_pos hr]
      omega
    · have hs : 1504 ≤ tile := regionOf_start hr (by decide)
      rw [if_neg (by omega), if_neg (by omega)]
      omega
  · rfl

theorem State.clearTile_tiles (s : State) (tile a : Nat) :
    Mem.byte 0 (s.clearTile tile).tiles a =
      if tileBase + 4096 * tile ≤ a ∧ a < tileBase + 4096 * tile + 4096 then 0 else Mem.byte 0 s.tiles a := by
  refine (Mem.byte_write_tile s.tiles tile List.length_replicate a).trans ?_
  split
  · rw [List.getD_eq_getElem?_getD, List.getElem?_replicate_of_lt (by omega)]
    rfl
  · rfl

theorem State.setFifo_unstalled (s : State) (k : Nat) (fifo : List (Bool × BusWrite)) : s.Unstalled (s.setFifo k fifo) := by
  refine ⟨fun m hm => (getD_set_keeps CmpRun.stalled (by rfl) m).trans hm, fun a ha hb => State.setFifo_reg _ _ ?_⟩
  simp only [F.CMP_STAT_DEPTH]
  omega

/-- What an andiron has written on a comparator of its step is taken back. -/
def State.sideTaken (south : Bool) (s : State) (k : Nat) : State :=
  let c := s.cmps.getD k {}
  let s0 : State := { s with cmps := s.cmps.set k { c with stalled := c.stalled.filter (fun e => decide (e.1 ≠ south)) } }
  s0.setFifo k (c.fifo.filter (fun e => decide (e.1 ≠ south)))

theorem State.sideTaken_shows (south : Bool) (s : State) {k : Nat} (hk : k < 24) :
    s.GraphKept [0x4004] (State.sideTaken south s k) ∧ s.Unstalled (State.sideTaken south s k) := by
  generalize ht : State.sideTaken south s k = t
  unfold State.sideTaken at ht
  extract_lets c s0 at ht
  have h0 : s.GraphKept [0x4004] s0 ∧ s.Unstalled s0 := by
    refine ⟨.setCmps (.refl _ s) _, fun m hm => ?_, fun _ _ _ => rfl⟩
    change ((s.cmps.set k _).getD m {}).stalled = []
    rw [getD_set_cmps]
    split
    · next he =>
      rw [he.1] at hm
      change (s.cmps.getD k {}).stalled.filter _ = []
      rw [hm]
      rfl
    · exact hm
  clear_value s0
  rw [← ht]
  exact ⟨h0.1.trans (s0.setFifo_kept hk _), h0.2.trans (s0.setFifo_unstalled k _)⟩

theorem State.Unstalled.each {α : Type} (f : State → α → State) (l : List α) (hf : ∀ u, ∀ x ∈ l, State.Unstalled u (f u x)) : ∀ s : State,
    s.Unstalled (s.each l f) := by
  induction l with
  | nil => exact fun s => ⟨fun _ h => h, fun _ _ _ => rfl⟩
  | cons x l ih => exact fun s => (hf s x (by simp)).trans (ih (fun u y hy => hf u y (by simp [hy])) _)

theorem State.repeatStep_shows (s : State) (south : Bool) : s.Steady [0x4004] (s.repeatStep south) ∧ s.Unstalled (s.repeatStep south) := by
  have hlt : ∀ k ∈ andironCmps, k < 24 := by decide
  have g1 : s.GraphKept [0x4004] (s.each andironCmps (State.sideTaken south)) :=
    (State.GraphKept.refl _ s).each _ _ fun u k hk hu => hu.trans (State.sideTaken_shows south u (hlt k hk)).1
  have g2 := State.Unstalled.each (State.sideTaken south) andironCmps (fun u k hk => (State.sideTaken_shows south u (hlt k hk)).2) s
  unfold State.repeatStep
  extract_lets again s1
  have h1 : s.GraphKept [0x4004] s1 := g1
  have h2 : s.Unstalled s1 := g2
  clear_value s1
  exact ⟨(h1.steady (by decide) (by decide)).hidden ((State.Within.refl _ s1).hidden ..) rfl rfl, h2.free, h2.regs⟩

theorem State.Sends.peakF {bs : List Nat} {r s : State} (h : r.Sends bs s) (f : Fld) (v : Nat) (hb : f.addr / 0x10000 ∈ bs) :
    r.Sends bs (s.peakF f v) := h.setF f _ hb

/-- A buffer's fill that falls may end in a pause frame. -/
theorem State.Sends.setFill {bs : List Nat} {r s : State} (h : r.Sends bs s) (h15 : 0x400F ∈ bs) {p : Nat} (hp : p < 2) (n : Nat) :
    r.Sends bs (s.setFill p n) := by
  have hb : (F.ETH_RXBUF_DEPTH p).addr / 0x10000 = 0x400F ∧ (F.ETH_STATUS_PAUSING p).addr / 0x10000 = 0x400F ∧
      (F.ETH_PAUSE_TX_CNT_COUNT p).addr / 0x10000 = 0x400F ∧ (Ev.eth p).ev.addr / 0x10000 = 0x400F := by
    simp only [F.ETH_RXBUF_DEPTH, F.ETH_STATUS_PAUSING, F.ETH_PAUSE_TX_CNT_COUNT, Ev.eth, F.ETH_EVENT_SEEN]
    omega
  obtain ⟨b1, b2, b3, b4⟩ := hb
  have b1' : (F.ETH_RXBUF_PEAK p).addr / 0x10000 = 0x400F := b1
  unfold State.setFill
  dsimp only
  have h1 := ((h.setEth p { s.eth p with fill := n }).setF (F.ETH_RXBUF_DEPTH p) (min 128 (ceilDiv n 1024)) (by rw [b1]; exact h15)).peakF
    (F.ETH_RXBUF_PEAK p) (min 128 (ceilDiv n 1024)) (by rw [b1']; exact h15)
  generalize ((s.setEth p { s.eth p with fill := n }).setF (F.ETH_RXBUF_DEPTH p) (min 128 (ceilDiv n 1024))).peakF
    (F.ETH_RXBUF_PEAK p) (min 128 (ceilDiv n 1024)) = u at h1 ⊢
  rcases State.when_cases u (decide (1024 * s.getF (F.ETH_PAUSE_HIGH_WATER p) ≤ n) && !s.flag (F.ETH_STATUS_PAUSING p)) (fun s =>
      (s.setFlag (F.ETH_STATUS_PAUSING p) true).pauseSend p (s.getF (F.ETH_PAUSE_QUANTA p))) with ⟨-, hw⟩ | ⟨-, hw⟩ <;> rw [hw]
  · have h2 := h1.setF (F.ETH_STATUS_PAUSING p) (b2n true) (by rw [b2]; exact h15)
    unfold State.pauseSend
    split
    · exact h2
    · exact ((h2.ethSend h15 hp _).incF _ (by rw [b3]; exact h15)).event _ _ (by rw [b4]; exact h15)
  · exact h1

theorem State.buffersLost_sends (s : State) (l : List Nat) : s.Sends [0x400E, 0x400F] (s.buffersLost l) := by
  unfold State.buffersLost
  refine State.each_keeps (fun u => s.Sends [0x400E, 0x400F] u) _ (fun u n hu => ?_) l s (.refl _ s)
  split
  · next hn =>
    have hb : (F.CAN_RXF_STAT_DEPTH n).addr / 0x10000 = 0x400E ∧ (F.CAN_CNT_COUNT_H n 2).addr / 0x10000 = 0x400E ∧
        (Ev.can n).ev.addr / 0x10000 = 0x400E := by
      simp only [F.CAN_RXF_STAT_DEPTH, F.CAN_CNT_COUNT_H, Ev.can, F.CAN_EVENT_SEEN]
      omega
    obtain ⟨b1, b2, b3⟩ := hb
    unfold State.canLost
    split
    · exact hu
    · next f _ =>
      have hset : s.Sends [0x400E, 0x400F] (u.setCan n { u.can n with fifo := f }) :=
        hu.hidden ⟨(State.Within.refl _ u).hidden .., rfl, rfl, rfl, rfl⟩ rfl ⟨rfl, rfl⟩
      exact ((hset.setF _ _ (by rw [b1]; decide)).incF _ (by rw [b2]; decide)).event _ _ (by rw [b3]; decide)
  · split
    · next hn4 hn =>
      have hb : (F.ETH_DROP_FULL_CNT_COUNT (n - 4)).addr / 0x10000 = 0x400F ∧ (Ev.eth (n - 4)).ev.addr / 0x10000 = 0x400F := by
        simp only [F.ETH_DROP_FULL_CNT_COUNT, Ev.eth, F.ETH_EVENT_SEEN]
        omega
      obtain ⟨b1, b2⟩ := hb
      unfold State.ethLost
      split
      · exact hu
      · next d _ =>
        have hset : s.Sends [0x400E, 0x400F] { u with feedq := u.feedq.erase d } :=
          hu.hidden ⟨(State.Within.refl _ u).hidden .., rfl, rfl, rfl, rfl⟩ rfl ⟨rfl, rfl⟩
        exact ((hset.setFill (by decide) (by omega) _).incF (F.ETH_DROP_FULL_CNT_COUNT (n - 4)) (by rw [b1]; decide)).event _ _
          (by rw [b2]; decide)
    · exact hu



/-! Region 0 without a spare: the cluster retires -/

theorem State.domRefuse_power {bs : List Nat} (hb : 0x4001 ∈ bs) (s : State) {d : Nat} (hd : d < 22) (n : Nat) :
    s.Sends bs (s.domRefuse d n) := by
  obtain ⟨-, -, b3, -, -⟩ := PWR_DOM_block hd
  rw [List.mem_singleton] at b3
  have b3' : (F.PWR_DOM_REFUSE_LAST_ID d).addr / 0x10000 = 0x4001 := b3
  exact ((((((State.Sends.refl bs s).incF _ (by rw [b3]; exact hb)).setF _ _ (by rw [b3']; exact hb)).setF F.PWR_LAST_REFUSAL_DOMAIN _ hb).setF
    F.PWR_LAST_REFUSAL_ID _ hb).setF F.PWR_LAST_REFUSAL_ABORT _ hb).event Ev.pwr 6 hb

theorem State.setDomState_power {bs : List Nat} (hb : 0x4001 ∈ bs) (s : State) {d : Nat} (hd : d < 22) (v : Nat) :
    s.Sends bs (s.setDomState d v) := by
  obtain ⟨-, b2, -, -, -⟩ := PWR_DOM_block hd
  rw [List.mem_singleton] at b2
  exact ((State.Sends.refl bs s).setF _ _ (by rw [b2]; exact hb)).setF F.PWR_STATUS_DOM_ON _ hb

theorem State.Sends.setDom {bs : List Nat} {r s : State} (h : r.Sends bs s) (d : Nat) (x : Dom) : r.Sends bs (s.setDom d x) :=
  h.hidden ⟨(State.Within.refl _ s).hidden .., rfl, rfl, rfl, rfl⟩ rfl ⟨rfl, rfl⟩

theorem State.domEnter_power {bs : List Nat} (hb : 0x4001 ∈ bs) (s : State) {d : Nat} (hd : d < 22) : s.Sends bs (s.domEnter d) := by
  unfold State.domEnter
  split
  · exact s.domRefuse_power hb hd _
  · exact (s.setDomState_power hb hd 3).setDom d _

theorem State.putVote_sends {bs : List Nat} (hb : 0x4001 ∈ bs) (s : State) {d : Nat} (hd : d < 22) (c : Nat) (b : Bool) :
    s.Sends bs (s.putVote d c b) := by
  obtain ⟨b1, -, -, -, -⟩ := PWR_DOM_block hd
  rw [List.mem_singleton] at b1
  have b1' : (F.PWR_DOM_VOTE_SVC_VOTE d).addr / 0x10000 = 0x4001 := b1
  unfold State.putVote
  dsimp only
  split
  · exact ((State.Sends.refl bs s).setF _ _ (by rw [b1]; exact hb)).setF _ _ (by rw [b1']; exact hb)
  · exact (State.Sends.refl bs s).setF _ _ (by rw [b1]; exact hb)

theorem State.domUnvote_power {bs : List Nat} (hb : 0x4001 ∈ bs) (s : State) {d : Nat} (hd : d < 22) (c : Nat) :
    s.Sends bs (s.domUnvote d c none) := by
  unfold State.domUnvote
  split
  · exact .refl bs s
  · have h1 := s.putVote_sends hb hd c false
    dsimp only
    split
    · exact h1.trans (State.domEnter_power hb _ hd)
    · exact h1

theorem State.domRetired_power {bs : List Nat} (hb : 0x4001 ∈ bs) (s : State) {d : Nat} (hd : d < 22) : s.Sends bs (s.domRetired d) := by
  unfold State.domRetired
  split
  · exact (s.setDomState_power hb hd 0).setDom d _
  · exact .refl bs s

theorem State.setF_unstalled (s : State) (f : Fld) (v : Nat) (hb : f.addr / 0x10000 ≠ 0x4004) : s.Unstalled (s.setF f v) :=
  ⟨fun m hm => by rw [State.setF_cmps]; exact hm, fun a ha _ => State.reg_setF_other _ _ _ _ fun h => hb (h ▸ ha)⟩

/-- A hob that runs and tests nothing any more. -/
def State.hobIdle (s : State) (n : Nat) : State :=
  { s with gr := { s.gr with exec := s.gr.exec.filter (fun x => decide (x.hob ≠ n)) },
           age := { s.age with rollDue := s.age.rollDue.filter (fun m => decide (m ≠ n)) } }

theorem State.hobIdle_unstalled (s : State) (n : Nat) : s.Unstalled (s.hobIdle n) := ⟨fun _ h => h, fun _ _ _ => rfl⟩

theorem State.hobOut_eq (s : State) (n st : Nat) : ∃ l, s.hobOut n st = ((s.discardCopies l).hobIdle n).setF (F.HOB_ENGINE_STATE n) st := ⟨_, rfl⟩

theorem State.hobOut_unstalled (s : State) {n st : Nat} (hn : n < 64) : s.Unstalled (s.hobOut n st) := by
  obtain ⟨l, hl⟩ := s.hobOut_eq n st
  rw [hl]
  refine ((s.discardCopies_unstalled l).trans (State.hobIdle_unstalled _ n)).trans (State.setF_unstalled _ _ st ?_)
  simp only [F.HOB_ENGINE_STATE]
  omega

theorem State.Steady.each {bs : List Nat} {α : Type} (f : State → α → State) (l : List α) (hf : ∀ u, ∀ x ∈ l, State.Steady bs u (f u x)) :
    ∀ s : State, s.Steady bs (s.each l f) := by
  induction l with
  | nil => exact fun s => .refl bs s
  | cons x l ih => exact fun s => (hf s x (by simp)).trans (ih (fun u y hy => hf u y (by simp [hy])) _)

theorem State.hobOut_steady (s : State) {n : Nat} (hn : n < 64) : s.Steady [0x4004, 0x4005] (s.hobOut n 3) := by
  obtain ⟨h1, h2, h3, -, -⟩ := s.hobOut_shows hn (st := 3) (by decide)
  exact .of_within h1 (by decide) (by decide) h2 h3

theorem State.Steady.flag_low {bs : List Nat} {s t : State} (h : s.Steady bs t) (hb : 0x4000 ∉ bs) (f : Fld) (hf : f.addr / 0x10000 = 0x4000) :
    t.flag f = s.flag f := State.flag_congr (h.within.getF f (by rw [hf]; exact hb))

theorem State.retireCluster_shows {s : State} {c : Nat} (hc : c < 8) (hf : s.flag (F.SYS_CLUSTER_RETIRED c) = false) (hq : s.Quiet 0x28)
    (ha : s.asserted 0x28 = false) {t : State} (ht : s.retireCluster c = t) :
    s.Steady (0x4000 :: 0x4001 :: 0x4004 :: 0x4005 :: raiseBlocks) t ∧ s.Unstalled t ∧ t.flag (F.SYS_CLUSTER_RETIRED c) = true ∧
      t.sticky 0x28 = true := by
  have hb : (F.SYS_CLUSTER_RETIRED c).addr / 0x10000 = 0x4000 ∧ (F.SYS_CLUSTER_RETIRED c).addr < 0x40030080 ∧
      F.SYS_MODE_MODE.addr ≠ (F.SYS_CLUSTER_RETIRED c).addr := by
    simp only [F.SYS_CLUSTER_RETIRED, F.SYS_MODE_MODE]
    omega
  obtain ⟨b1, b2, b3⟩ := hb
  have b1' : (F.SYS_CLUSTER_HOB_IN_SERVICE c).addr / 0x10000 = 0x4000 := b1
  unfold State.retireCluster at ht
  rw [if_neg (by
    rw [hf]
    simp only [Bool.false_eq_true, false_or]
    omega)] at ht
  dsimp only at ht
  have s1 : s.Steady [0x4000] (s.setFlag (F.SYS_CLUSTER_RETIRED c) true) := .setF_low _ _ _ (by rw [b1]; decide) b2 b3
  have f1 := State.flag_setFlag_same s (F.SYS_CLUSTER_RETIRED c) true (by rfl)
  have c1 := s.setFlag_cmps (F.SYS_CLUSTER_RETIRED c) true
  generalize s.setFlag (F.SYS_CLUSTER_RETIRED c) true = u at s1 f1 c1 ht
  have s2 : u.Steady [0x4000] (u.setF (F.SYS_CLUSTER_HOB_IN_SERVICE c) 0) :=
    .setF_low _ _ _ (by rw [b1']; decide) b2 b3
  have f2 : (u.setF (F.SYS_CLUSTER_HOB_IN_SERVICE c) 0).flag (F.SYS_CLUSTER_RETIRED c) = u.flag (F.SYS_CLUSTER_RETIRED c) :=
    State.flag_congr (State.getF_setF_apart _ _ _ _ (by rfl) ((Fld.apart_iff _ _).2
      (by simp [F.SYS_CLUSTER_HOB_IN_SERVICE, F.SYS_CLUSTER_RETIRED])))
  have c2 := u.setF_cmps (F.SYS_CLUSTER_HOB_IN_SERVICE c) 0
  generalize u.setF (F.SYS_CLUSTER_HOB_IN_SERVICE c) 0 = v at s2 f2 c2 ht
  have hlt : ∀ n ∈ List.range' (8 * c) 8, n < 64 := fun n hn => by
    have := List.mem_range'_1.1 hn
    omega
  have s3 := State.Steady.each (fun s n => s.hobOut n 3) (List.range' (8 * c) 8) (fun u n hn => u.hobOut_steady (hlt n hn)) v
  have n3 := State.Unstalled.each (fun s n => s.hobOut n 3) (List.range' (8 * c) 8) (fun u n hn => u.hobOut_unstalled (hlt n hn)) v
  generalize v.each (List.range' (8 * c) 8) (fun s n => s.hobOut n 3) = w at s3 n3 ht
  have s4 : w.Sends [0x4001, 0x4005] ((w.refreshHobs.domUnvote (9 + c) 0 none).domRetired (9 + c)) :=
    (((State.Sends.refl _ w).setF _ _ (by decide)).trans (State.domUnvote_power (by decide) _ (by omega) 0)).trans
      (State.domRetired_power (by decide) _ (by omega))
  generalize (w.refreshHobs.domUnvote (9 + c) 0 none).domRetired (9 + c) = x at s4 ht
  have s5 : x.GraphKept [0x4005] x.refreshQueues := (State.GraphKept.refl _ x).refreshQueues (by decide)
  have n5 := x.refreshQueues_unstalled
  generalize x.refreshQueues = y at s5 n5 ht
  have hwy : w.Steady [0x4001, 0x4005] y := (s4.kept.steady (by decide) (by decide)).trans ((s5.steady (by decide) (by decide)).mono (by decide))
  have hvy : v.Steady (0x4001 :: 0x4004 :: 0x4005 :: raiseBlocks) y := (s3.mono (by decide)).trans (hwy.mono (by decide))
  have hsv : s.Steady [0x4000] v := s1.trans s2
  have hsy : s.Steady (0x4000 :: 0x4001 :: 0x4004 :: 0x4005 :: raiseBlocks) y := (hsv.mono (by decide)).trans (hvy.mono (by decide))
  have hcon : y.Confined raiseBlocks (y.raise 0x28) := y.confined_raise 0x28 none (by decide) (hsy.quiet (by decide) hq)
  have hvt := hvy.raise (by decide) (n := 0x28) (by decide) (hsv.quiet (by decide) hq)
  have hst := hsy.raised (n := 0x28) (by decide) hq ha
  have ht' : y.raise 0x28 = t := ht
  rw [ht'] at hcon hvt hst
  refine ⟨(hsv.mono (by decide)).trans (hvt.mono (by decide)), ?_, (hvt.flag_low (by decide) _ b1).trans (f2.trans f1), hst⟩
  exact ((((State.Unstalled.of_cmps (bs := [0x4000]) hsv.within (by decide) (c2.trans c1)).trans n3).trans
    (.of_cmps s4.kept.within (by decide) s4.cmps)).trans n5).trans (.of_cmps hcon.within (by decide) hcon.cmps)



/-! ### The repair of a tile as a whole -/

/-- What a spare tile's repair does in a region. -/
def State.repairBy (s : State) (tile : Nat) (homed : List Nat) (r : Nat) : State :=
  match r with
  | 0 => s.restoreState homed
  | 1 => (s.mapTileLost (tile - 384) false).discard (homed.filter (fun i => decide ((s.inst i).sample = .due)))
  | 2 | 3 => (s.copyPartner tile).repeatStep (decide (r = 3))
  | 4 => (s.clearTile tile).buffersLost homed
  | 5 => (s.clearTile tile).marker 5 5 0
  | _ => s

/-- What is lost in a region where the bank's spare tile is in use. -/
def State.loseBy (s : State) (tile : Nat) (homed : List Nat) (r : Nat) : State :=
  match r with
  | 0 => (s.restoreState (homed ++ s.homedIn (tile / 16 / 3))).retireCluster (tile / 16 / 3)
  | 1 => (s.mapTileLost (tile - 384) true).discard (homed.filter (fun i => decide ((s.inst i).sample = .due)))
  | _ => s.raise 0x29

theorem State.repairTile_eq (s : State) (tile : Nat) (homed : List Nat) : s.repairTile tile homed =
    if s.sys.spares.contains (tile / 16) then s.loseBy tile homed (regionOf tile) else (s.useSpare tile).repairBy tile homed (regionOf tile) := rfl

/-- The blocks in which a repair may write. -/
abbrev repairBlocks : List Nat := 0x4000 :: 0x4004 :: 0x4005 :: 0x4006 :: 0x4008 :: 0x400E :: 0x400F :: raiseBlocks

/-- What a repair with a spare tile leaves, by region. -/
structure State.Repaired (s : State) (tile : Nat) (homed : List Nat) (v : State) : Prop where
  runs : s.Runs repairBlocks v
  free : ∀ m, (s.cmps.getD m {}).stalled = [] → (v.cmps.getD m {}).stalled = []
  spares : v.sys.spares = s.sys.spares ++ [tile / 16]
  count : v.getF F.FLT_SPARE_CNT_COUNT = min (2 ^ 32 - 1) (s.getF F.FLT_SPARE_CNT_COUNT + 1)
  state : regionOf tile = 0 → ∀ i ∈ homed, i < s.img.nodes.length → i < s.gr.insts.length → (s.node i).cls ≠ 0 → s.StateReset i (v.inst i)
  lost : regionOf tile = 1 → ∀ e, s.map.dir.find? (fun x => decide (x.slot = tile - 384)) = some e →
    v.map.lost = s.map.lost ++ [e.key] ∧ v.map.removed = s.map.removed
  copied : regionOf tile = 2 ∨ regionOf tile = 3 → Mem.wf 0 s.tiles = true → ∀ a, Mem.byte 0 v.tiles a =
    if tileBase + 4096 * tile ≤ a ∧ a < tileBase + 4096 * tile + 4096 then
      Mem.byte 0 s.tiles (if regionOf tile = 2 then a + 4096 * 96 else a - 4096 * 96)
    else Mem.byte 0 s.tiles a
  cleared : regionOf tile = 4 ∨ regionOf tile = 5 → ∀ a, Mem.byte 0 v.tiles a =
    if tileBase + 4096 * tile ≤ a ∧ a < tileBase + 4096 * tile + 4096 then 0 else Mem.byte 0 s.tiles a
  tiles : regionOf tile = 0 ∨ regionOf tile = 1 → v.tiles = s.tiles

theorem State.discard_map (s : State) (l : List Nat) : (s.discard l).map = s.map := by
  unfold State.discard
  generalize l.flatMap (fun i => [(i, false), (i, true)]) = cs
  rw [s.discardCopies_eq cs]
  obtain ⟨⟨x, -, hs⟩, -, -⟩ := s.each_copyGone (s.dependants cs)
  have h1 : ((s.each (s.dependants cs) State.copyGone).lateCopies (s.dependants cs)).map = s.map := by
    rw [hs]
    rfl
  have h2 (u : State) (l : List (Nat × Bool)) : (u.dropWrites l).map = u.map := by
    unfold State.dropWrites
    refine State.each_keeps (fun v => v.map = u.map) _ (fun v k hv => ?_) _ u rfl
    dsimp only
    split
    · exact hv
    · rw [State.setF_map]
      exact hv
  have h3 (u : State) : u.refreshQueues.map = u.map := State.each_keeps (fun v => v.map = u.map) _ (fun v c hv => by
    dsimp only
    rw [State.peakF_map, State.setF_map]
    exact hv) _ u rfl
  rw [h3, h2, h1]

theorem State.count_of_within {bs : List Nat} {s t : State} (h : s.Within bs t) (hb : 0x4003 ∉ bs) :
    t.getF F.FLT_SPARE_CNT_COUNT = s.getF F.FLT_SPARE_CNT_COUNT := h.getF _ hb

theorem State.repairTile_repaired {s : State} {tile : Nat} (homed : List Nat) (hns : tile / 16 ∉ s.sys.spares) {v : State}
    (hv : s.repairTile tile homed = v) : s.Repaired tile homed v := by
  rw [State.repairTile_eq, if_neg (by rwa [List.contains_eq_mem, decide_eq_true_eq])] at hv
  obtain ⟨d1, d2, d3, d4, d5⟩ := State.useSpare_shows s tile rfl
  generalize s.useSpare tile = d at d1 d2 d3 d4 d5 hv
  obtain ⟨i1, i2, i3, i4⟩ := State.held_eq d2
  have hfree0 (m : Nat) (hm : (s.cmps.getD m {}).stalled = []) : (d.cmps.getD m {}).stalled = [] := by
    rw [i4]
    exact hm
  have hd : s.Runs repairBlocks d := d1.mono (by decide)
  have hlt := regionOf_lt tile
  have hcases : regionOf tile = 0 ∨ regionOf tile = 1 ∨ regionOf tile = 2 ∨ regionOf tile = 3 ∨ regionOf tile = 4 ∨ regionOf tile = 5 := by omega
  have hcopy (south : Bool) (hreg : regionOf tile = 2 ∨ regionOf tile = 3) (hv : (d.copyPartner tile).repeatStep south = v) :
      s.Repaired tile homed v := by
    have hc := State.copyPartner_tiles d hreg
    obtain ⟨c1, c2, c3, c4⟩ := d.runs_tiles (d.copyPartner tile).tiles
    change d.Runs [] (d.copyPartner tile) at c1
    change (d.copyPartner tile).held = d.held at c2
    change (d.copyPartner tile).sys = d.sys at c3
    change (d.copyPartner tile).regs = d.regs at c4
    generalize d.copyPartner tile = e at c1 c2 c3 c4 hc hv
    obtain ⟨r1, r2⟩ := e.repeatStep_shows south
    rw [hv] at r1 r2
    obtain ⟨-, -, -, e4⟩ := State.held_eq c2
    exact {
      runs := hd.trans ((c1.mono nofun).trans (r1.runs.mono (by decide)))
      free := fun m hm => r2.free m (by rw [e4]; exact hfree0 m hm)
      spares := (congrArg Sys.spares (r1.sys.trans c3)).trans d4
      count := (State.count_of_within r1.within (by decide)).trans ((State.getF_of_regs c4 _).trans d5)
      state := fun h => absurd h (by omega)
      lost := fun h => absurd h (by omega)
      copied := fun _ hwf a => by
        obtain ⟨ht, -⟩ := r1.within.2
        rw [ht, hc (by rw [d3]; exact hwf) a, d3]
      cleared := fun h => absurd h (by omega)
      tiles := fun h => absurd h (by omega) }
  have hclear (w : State) (hreg : regionOf tile = 4 ∨ regionOf tile = 5) (hw : (d.clearTile tile).GraphKept [0x400E, 0x400F] w)
      (hwc : w.cmps = (d.clearTile tile).cmps) (hv : w = v) : s.Repaired tile homed v := by
    have hc := d.clearTile_tiles tile
    obtain ⟨c1, c2, c3, c4⟩ := d.runs_tiles (d.clearTile tile).tiles
    change d.Runs [] (d.clearTile tile) at c1
    change (d.clearTile tile).held = d.held at c2
    change (d.clearTile tile).sys = d.sys at c3
    change (d.clearTile tile).regs = d.regs at c4
    generalize d.clearTile tile = e at c1 c2 c3 c4 hc hw hwc
    have r1 : e.Steady [0x400E, 0x400F] v := hv ▸ hw.steady (by decide) (by decide)
    obtain ⟨-, -, -, e4⟩ := State.held_eq c2
    exact {
      runs := hd.trans ((c1.mono nofun).trans (r1.runs.mono (by decide)))
      free := fun m hm => by
        rw [← hv, hwc, e4]
        exact hfree0 m hm
      spares := (congrArg Sys.spares (r1.sys.trans c3)).trans d4
      count := (State.count_of_within r1.within (by decide)).trans ((State.getF_of_regs c4 _).trans d5)
      state := fun h => absurd h (by omega)
      lost := fun h => absurd h (by omega)
      copied := fun h => absurd h (by omega)
      cleared := fun _ a => by
        obtain ⟨ht, -⟩ := r1.within.2
        rw [ht, hc a, d3]
      tiles := fun h => absurd h (by omega) }
  rcases hcases with h | h | h | h | h | h <;> rw [h] at hv
  · obtain ⟨r1, r2, r3⟩ := State.restoreState_shows d homed hv
    have hnode (j : Nat) (x : InstRun) : d.StateReset j x ↔ s.StateReset j x := by
      unfold State.StateReset State.node
      rw [i2]
    obtain ⟨ht, -⟩ := r1.within.2
    exact {
      runs := hd.trans (r1.runs.mono (by decide))
      free := fun m hm => r2.free m (hfree0 m hm)
      spares := (congrArg Sys.spares r1.sys).trans d4
      count := (State.count_of_within r1.within (by decide)).trans d5
      state := fun _ i hi hn hlen hcls => (hnode _ _).1 (r3 i hi (by rw [i2]; exact hn) (by rw [i1]; exact hlen) (by
        unfold State.node
        rw [i2]
        exact hcls))
      lost := fun h => absurd h (by omega)
      copied := fun h => absurd h (by omega)
      cleared := fun h => absurd h (by omega)
      tiles := fun _ => ht.trans d3 }
  · change (d.mapTileLost (tile - 384) false).discard (homed.filter (fun i => decide ((d.inst i).sample = .due))) = v at hv
    obtain ⟨m1, m2, m3, m4⟩ := d.mapTileLost_shows (tile - 384) false
    generalize d.mapTileLost (tile - 384) false = e at m1 m2 m3 m4 hv
    have hg : e.CopiesGone _ (e.discard (homed.filter (fun i => decide ((d.inst i).sample = .due)))) := e.discardCopies_shows _
    have hu := e.discard_unstalled (homed.filter (fun i => decide ((d.inst i).sample = .due)))
    have hmap := e.discard_map (homed.filter (fun i => decide ((d.inst i).sample = .due)))
    rw [hv] at hg hu hmap
    have r1 : d.Steady [0x4004, 0x4005, 0x4008, 0x400F] v := ((m1.steady (by decide) (by decide)).mono (by decide)).trans (hg.steady.mono (by decide))
    obtain ⟨ht, -⟩ := r1.within.2
    exact {
      runs := hd.trans (r1.runs.mono (by decide))
      free := fun m hm => hu.free m (by rw [m2]; exact hfree0 m hm)
      spares := (congrArg Sys.spares r1.sys).trans d4
      count := (State.count_of_within r1.within (by decide)).trans d5
      state := fun h => absurd h (by omega)
      lost := fun _ x hx => by
        rw [hmap, m4 x (by rw [i3]; exact hx), m3, i3]
        exact ⟨rfl, rfl⟩
      copied := fun h => absurd h (by omega)
      cleared := fun h => absurd h (by omega)
      tiles := fun _ => ht.trans d3 }
  · exact hcopy _ (.inl h) hv
  · exact hcopy _ (.inr h) hv
  · have hs := (d.clearTile tile).buffersLost_sends homed
    exact hclear _ (.inl h) hs.kept hs.cmps hv
  · exact hclear _ (.inr h) ((State.GraphKept.refl _ (d.clearTile tile)).marker 5 5 0) (State.marker_cmps _ _ _ _) hv



section
variable {s : State} {tile : Nat} {hob : Option Nat} {homed : List Nat} (hr : s.sys.phase = .run) (ht : tile < 2048) (hv : tile ∉ s.gr.verified)
  (hq30 : s.Quiet 0x30)
include hr ht hv hq30

/-- A tile that fails both reads is repaired from a state that the failures have counted. -/
theorem State.tileVerify_fails :
    ∃ u b, s.Steady (0x4005 :: raiseBlocks) u ∧ u.held = s.held ∧ u.getF F.FLT_SPARE_CNT_COUNT = s.getF F.FLT_SPARE_CNT_COUNT ∧
      exec (.tileVerify tile false false hob homed) s = .next ((((u.repairTile tile homed).raise (0x22 + regionOf tile)).firstFatal b
        [0x22 + regionOf tile]).each andironCmps State.enterStalled) := by
  have hexec : exec (.tileVerify tile false false hob homed) s =
      .next ((s.tileVerify tile false false hob homed).each andironCmps State.enterStalled) := rfl
  rw [State.tileVerify_due hr ht hv, if_neg Bool.false_ne_true, if_neg Bool.false_ne_true] at hexec
  obtain ⟨h1, h2, -, h4⟩ := State.tileReread_shows (tile := tile) (hob := hob) hq30 rfl
  generalize s.tileReread tile hob = x at h1 h2 h4 hexec
  have h5 := (State.Still.refl raiseBlocks x).lasting (by decide)
  exact ⟨x.lasting, x, h1.trans (h5.steady.mono (by decide)), h5.held.trans h2, (h5.count _ (by unfold Fld.repairCount; decide)).trans h4, hexec⟩

variable (hq : s.Quiet (0x22 + regionOf tile)) (ha : s.asserted (0x22 + regionOf tile) = false)
  (hstall : ∀ m ∈ andironCmps, (s.cmps.getD m {}).stalled = [])
include hq ha hstall

omit ht hv hr hq30 in
/-- The raise of a lasting failure, after which nothing newly enters a comparator. -/
theorem State.tileVerify_ends {bs : List Nat} (hb : ∀ b ∈ raiseBlocks, b ∈ bs) {v : State} (hrun : s.Runs bs v)
    (hfree : ∀ m, (s.cmps.getD m {}).stalled = [] → (v.cmps.getD m {}).stalled = []) (b : State) {t : State}
    (h : ((v.raise (0x22 + regionOf tile)).firstFatal b [0x22 + regionOf tile]).each andironCmps State.enterStalled = t) :
    v.Still raiseBlocks t ∧ t.sticky (0x22 + regionOf tile) = true ∧ s.Runs bs t := by
  have hn : 0x22 + regionOf tile < 256 := by
    have := regionOf_lt tile
    omega
  obtain ⟨e1, e2, e3⟩ := hrun.lastingRaise hb hn hq ha b [0x22 + regionOf tile] rfl
  obtain ⟨-, -, -, c⟩ := State.held_eq e1.held
  rw [State.each_enterStalled_none andironCmps fun m hm => by
    rw [c]
    exact hfree m (hstall m hm)] at h
  rw [← h]
  exact ⟨e1, e2, e3⟩

/-- A tile whose bank has its spare free. -/
theorem State.tileVerify_spared (hns : tile / 16 ∉ s.sys.spares) :
    ∃ t, exec (.tileVerify tile false false hob homed) s = .next t ∧ t.sticky (0x22 + regionOf tile) = true ∧ t.mode = s.mode ∧
      t.sys.spares = s.sys.spares ++ [tile / 16] ∧
      t.getF F.FLT_SPARE_CNT_COUNT = min (2 ^ 32 - 1) (s.getF F.FLT_SPARE_CNT_COUNT + 1) ∧
      (regionOf tile = 0 → (∀ i ∈ homed, i < s.img.nodes.length → i < s.gr.insts.length → (s.node i).cls ≠ 0 →
        (t.inst i).st = List.replicate (s.node i).stateWords 0 ∧ (t.inst i).fresh = true ∧ (t.inst i).aged = true)) ∧
      (regionOf tile = 1 → ∀ en, s.map.dir.find? (fun x => decide (x.slot = tile - 384)) = some en →
        t.map.lost = s.map.lost ++ [en.key] ∧ t.map.removed = s.map.removed) ∧
      (regionOf tile = 2 ∨ regionOf tile = 3 → Mem.wf 0 s.tiles = true → ∀ a, Mem.byte 0 t.tiles a =
        if tileBase + 4096 * tile ≤ a ∧ a < tileBase + 4096 * tile + 4096 then
          Mem.byte 0 s.tiles (if regionOf tile = 2 then a + 4096 * 96 else a - 4096 * 96)
        else Mem.byte 0 s.tiles a) ∧
      (regionOf tile = 4 ∨ regionOf tile = 5 → ∀ a, Mem.byte 0 t.tiles a =
        if tileBase + 4096 * tile ≤ a ∧ a < tileBase + 4096 * tile + 4096 then 0 else Mem.byte 0 s.tiles a) ∧
      (regionOf tile = 0 ∨ regionOf tile = 1 → t.tiles = s.tiles) ∧ t.mram = s.mram ∧ t.flash = s.flash ∧ t.otp = s.otp ∧
      s.SameRegs repairBlocks t := by
  obtain ⟨u, b, u1, u2, u3, hexec⟩ := State.tileVerify_fails (hob := hob) (homed := homed) hr ht hv hq30
  obtain ⟨i1, i2, i3, i4⟩ := State.held_eq u2
  obtain ⟨utiles, -⟩ := u1.within.2
  have hrep := State.repairTile_repaired (s := u) homed (by rw [u1.sys]; exact hns) rfl
  generalize u.repairTile tile homed = v at hrep hexec
  have hrun : s.Runs repairBlocks v := (u1.runs.mono (by decide)).trans hrep.runs
  obtain ⟨e1, e2, e3⟩ := State.tileVerify_ends hq ha hstall (by decide) hrun (fun m hm => hrep.free m (by rw [i4]; exact hm)) b rfl
  generalize ((v.raise (0x22 + regionOf tile)).firstFatal b [0x22 + regionOf tile]).each andironCmps State.enterStalled = t at e1 e2 e3 hexec
  obtain ⟨vtiles, -⟩ := e1.steady.within.2
  obtain ⟨j1, -, j3, -⟩ := State.held_eq e1.held
  have hspares : t.sys.spares = s.sys.spares ++ [tile / 16] := by rw [e1.steady.sys, hrep.spares, u1.sys]
  refine ⟨t, hexec, e2, e3.mode_eq, hspares, ?_, fun h0 i hi hn hlen hcls => ?_, fun h1 en hen => ?_, fun h23 hwf a => ?_, fun h45 a => ?_,
    fun h01 => ?_, e3.mram, e3.flash, e3.otp, e3.regs⟩
  · rw [e1.count _ (by unfold Fld.repairCount; decide), hrep.count, u3]
  · have hst := hrep.state h0 i hi (by rw [i2]; exact hn) (by rw [i1]; exact hlen) (by
      unfold State.node
      rw [i2]
      exact hcls)
    have hti : t.inst i = v.inst i := by
      unfold State.inst
      rw [j1]
    rw [hti]
    unfold State.StateReset State.node at hst
    rw [i2] at hst
    exact hst
  · have := hrep.lost h1 en (by rw [i3]; exact hen)
    rw [j3, ← i3]
    exact this
  · rw [vtiles, hrep.copied h23 (by rw [utiles]; exact hwf) a, utiles]
  · rw [vtiles, hrep.cleared h45 a, utiles]
  · rw [vtiles, hrep.tiles h01, utiles]

variable (hs : tile / 16 ∈ s.sys.spares)
include hs

omit ht hv hr hq30 hq ha hstall in
theorem State.repairTile_lost {u : State} (hu : u.sys = s.sys) {r : Nat} (hreg : regionOf tile = r) : u.repairTile tile homed = u.loseBy tile homed r := by
  rw [State.repairTile_eq, if_pos (by rw [hu, List.contains_eq_mem, decide_eq_true hs]), hreg]

/-- The region of a tile of an andiron, a buffer or the journal is lost. -/
theorem State.tileVerify_region (h2 : 2 ≤ regionOf tile) (hq29 : s.Quiet 0x29) (ha29 : s.asserted 0x29 = false) :
    ∃ t, exec (.tileVerify tile false false hob homed) s = .next t ∧ t.sticky (0x22 + regionOf tile) = true ∧ t.sticky 0x29 = true ∧
      t.mode = s.mode ∧ s.SameRegs (0x4004 :: 0x4005 :: raiseBlocks) t ∧ s.SameStores t := by
  obtain ⟨u, b, u1, u2, -, hexec⟩ := State.tileVerify_fails (hob := hob) (homed := homed) hr ht hv hq30
  obtain ⟨-, -, -, i4⟩ := State.held_eq u2
  have hlose (r : Nat) (h : 2 ≤ r) : u.loseBy tile homed r = u.raise 0x29 := by
    unfold State.loseBy
    split
    · omega
    · omega
    · rfl
  rw [State.repairTile_lost hs u1.sys rfl, hlose _ h2] at hexec
  have hst := u1.raised (n := 0x29) (by decide) hq29 ha29
  have hsv := u1.raise (by decide) (n := 0x29) (by decide) hq29
  have hc : u.Confined raiseBlocks (u.raise 0x29) := u.confined_raise 0x29 none (by decide) (u1.quiet (by decide) hq29)
  generalize u.raise 0x29 = v at hst hsv hc hexec
  obtain ⟨e1, e2, -⟩ := State.tileVerify_ends hq ha hstall (by decide) hsv.runs (fun m hm => by rw [hc.cmps, i4]; exact hm) b rfl
  have hend : s.Steady (0x4004 :: 0x4005 :: raiseBlocks) _ := (hsv.mono (by decide)).trans (e1.steady.mono (by decide))
  exact ⟨_, hexec, e2, e1.steady.sticky _ (by decide) hst, hend.mode_eq, hend.within.1, hend.within.2⟩

/-- The slot of a tile of the map takes no tile any more. -/
theorem State.tileVerify_map (h1 : regionOf tile = 1) :
    ∃ t, exec (.tileVerify tile false false hob homed) s = .next t ∧ t.sticky (0x22 + regionOf tile) = true ∧
      t.map.removed = s.map.removed ++ [tile - 384] ∧ t.mode = s.mode ∧
      s.SameRegs (0x4004 :: 0x4005 :: 0x4008 :: 0x400F :: raiseBlocks) t ∧ s.SameStores t := by
  obtain ⟨u, b, u1, u2, -, hexec⟩ := State.tileVerify_fails (hob := hob) (homed := homed) hr ht hv hq30
  obtain ⟨-, -, i3, i4⟩ := State.held_eq u2
  have hlose : u.loseBy tile homed 1 = (u.mapTileLost (tile - 384) true).discard (homed.filter (fun i => decide ((u.inst i).sample = .due))) := rfl
  rw [State.repairTile_lost hs u1.sys h1, hlose] at hexec
  obtain ⟨m1, m2, m3, -⟩ := u.mapTileLost_shows (tile - 384) true
  generalize u.mapTileLost (tile - 384) true = e at m1 m2 m3 hexec
  have hg : e.CopiesGone _ (e.discard (homed.filter (fun i => decide ((u.inst i).sample = .due)))) := e.discardCopies_shows _
  have hun := e.discard_unstalled (homed.filter (fun i => decide ((u.inst i).sample = .due)))
  have hmap := e.discard_map (homed.filter (fun i => decide ((u.inst i).sample = .due)))
  generalize e.discard (homed.filter (fun i => decide ((u.inst i).sample = .due))) = v at hg hun hmap hexec
  have r1 : u.Steady [0x4004, 0x4005, 0x4008, 0x400F] v := ((m1.steady (by decide) (by decide)).mono (by decide)).trans (hg.steady.mono (by decide))
  have hsv : s.Steady (0x4004 :: 0x4005 :: 0x4008 :: 0x400F :: raiseBlocks) v := (u1.mono (by decide)).trans (r1.mono (by decide))
  obtain ⟨e1, e2, -⟩ := State.tileVerify_ends hq ha hstall (by decide) hsv.runs (fun m hm => hun.free m (by rw [m2, i4]; exact hm)) b rfl
  obtain ⟨-, -, j3, -⟩ := State.held_eq e1.held
  have hend := hsv.trans (e1.steady.mono (by decide))
  have hremoved : v.map.removed = s.map.removed ++ [tile - 384] := by rw [hmap, m3, if_pos rfl, i3]
  exact ⟨_, hexec, e2, (congrArg MapSt.removed j3).trans hremoved, hend.mode_eq, hend.within.1, hend.within.2⟩

/-- The cluster of a tile of the engines retires. -/
theorem State.tileVerify_cluster (h0 : regionOf tile = 0) (hf : s.flag (F.SYS_CLUSTER_RETIRED (tile / 48)) = false) (hc : tile / 48 < 8)
    (hq28 : s.Quiet 0x28) (ha28 : s.asserted 0x28 = false) :
    ∃ t, exec (.tileVerify tile false false hob homed) s = .next t ∧ t.sticky (0x22 + regionOf tile) = true ∧ t.sticky 0x28 = true ∧
      t.flag (F.SYS_CLUSTER_RETIRED (tile / 48)) = true ∧ t.mode = s.mode ∧ s.SameStores t := by
  obtain ⟨u, b, u1, u2, -, hexec⟩ := State.tileVerify_fails (hob := hob) (homed := homed) hr ht hv hq30
  obtain ⟨-, -, -, i4⟩ := State.held_eq u2
  have hdiv : tile / 16 / 3 = tile / 48 := Nat.div_div_eq_div_mul ..
  have hlose : u.loseBy tile homed 0 = (u.restoreState (homed ++ u.homedIn (tile / 16 / 3))).retireCluster (tile / 16 / 3) := rfl
  rw [State.repairTile_lost hs u1.sys h0, hlose, hdiv] at hexec
  obtain ⟨r1, r2, -⟩ := u.restoreState_shows (homed ++ u.homedIn (tile / 48)) rfl
  generalize u.restoreState (homed ++ u.homedIn (tile / 48)) = e at r1 r2 hexec
  have hse : s.Steady (0x4004 :: 0x4005 :: 0x4006 :: raiseBlocks) e := (u1.mono (by decide)).trans (r1.mono (by decide))
  have hblock : (F.SYS_CLUSTER_RETIRED (tile / 48)).addr / 0x10000 = 0x4000 := by
    simp only [F.SYS_CLUSTER_RETIRED]
    omega
  obtain ⟨c1, c2, c3, c4⟩ := State.retireCluster_shows hc ((hse.flag_low (by decide) _ hblock).trans hf) (hse.quiet (by decide) hq28)
    ((hse.asserted _).trans ha28) rfl
  generalize e.retireCluster (tile / 48) = v at c1 c2 c3 c4 hexec
  have hsv : s.Steady (0x4000 :: 0x4001 :: 0x4004 :: 0x4005 :: 0x4006 :: raiseBlocks) v := (hse.mono (by decide)).trans (c1.mono (by decide))
  obtain ⟨e1, e2, -⟩ := State.tileVerify_ends hq ha hstall (by decide) hsv.runs (fun m hm => c2.free m (r2.free m (by rw [i4]; exact hm))) b rfl
  have hend := hsv.trans (e1.steady.mono (by decide))
  exact ⟨_, hexec, e2, e1.steady.sticky _ (by decide) c4, (e1.steady.flag_low (by decide) _ hblock).trans c3, hend.mode_eq, hend.within.2⟩

end

/-- Settles O45, from what a lane's retirement and each region's repair leave for the raise that ends them. -/
theorem lanesAndTiles : Obligations.LanesAndTiles := by
  unfold Obligations.LanesAndTiles
  refine ⟨fun s hr => ⟨fun k d hk hq ha => ?_, fun k hk hf => ?_, fun k n hk hn hne hfk hfn hq ha hq30 => ?_⟩,
    fun s hr => ⟨fun tile pass2 hob homed ht hv => ?_, fun tile hob homed ht hv hq30 hq ha => ?_,
      fun tile hob homed ht hv hq30 hq ha hstall => ⟨fun hns => ?_, fun hs h2 hq29 ha29 => ?_, fun hs h1 => ?_,
        fun hs h0 hf hc hq28 ha28 => ?_⟩⟩⟩
  · exact State.verdict_fails hr hk hq ha
  · exact State.verdict_retired hr hk hf
  · exact State.verdict_retires hr hk hn hne hfk hfn hq ha hq30
  · exact State.tileVerify_passes hr ht hv pass2
  · exact State.tileVerify_corrected hr ht hv hq30 hq ha
  · exact State.tileVerify_spared hr ht hv hq30 hq ha hstall hns
  · exact State.tileVerify_region hr ht hv hq30 hq ha hstall hs h2 hq29 ha29
  · exact State.tileVerify_map hr ht hv hq30 hq ha hstall hs h1
  · exact State.tileVerify_cluster hr ht hv hq30 hq ha hstall hs h0 hf hc hq28 ha28

end Sys2Proof.Machine
end

section
/-!
# What a device keeps besides its mode

`State.Abides q r t` says that from `r` to `t` the device keeps the word of SYS_MODE, the flag ISOLATED, and its course: phase, ticks, the
modes asked for, the Flue cycle with its votes, and the tick, boundary and sample cycle of the graph. Where `q` holds, the mode is one that
only records faults, so that a raise takes no action. The section follows it through what a tick and a Flue cycle boundary do, as
`State.Leads` was followed above, by the lemmas of the operations that each one calls.
-/
namespace Sys2Proof.Machine

open Sys2Proof

/-! ### The relation -/

/-- A register other than SYS_MODE, which it lies above, and LDS_STATUS. -/
def aside (a : Nat) : Bool := decide (0x4000000C < a) && decide (a ≠ 0x40110000)

theorem aside_iff {a : Nat} : aside a = true ↔ 0x4000000C < a ∧ a ≠ 0x40110000 := by
  simp only [aside, Bool.and_eq_true, decide_eq_true_eq]

/-- An array of registers of which none can be LDS_STATUS, however long it is. -/
def asideStrided (b k : Nat) : Bool := decide (0x4000000C < b) && (decide (0x40110000 < b) || decide ((0x40110000 - b) % k ≠ 0))

theorem aside_strided {b k i : Nat} (h : asideStrided b k = true) : aside (b + k * i) = true := by
  simp only [asideStrided, Bool.and_eq_true, Bool.or_eq_true, decide_eq_true_eq] at h
  obtain ⟨h0, h1⟩ := h
  refine aside_iff.2 ⟨by omega, fun he => ?_⟩
  have hk : 0x40110000 - b = k * i := by omega
  rcases h1 with h1 | h1
  · omega
  · exact h1 (hk ▸ Nat.mul_mod_right k i)

/-- Phase and ticks, the modes asked for, and where the Flue cycle and the graph stand. -/
def State.course (s : State) : (Phase × Nat × List (Mode × Nat × Nat)) × (Nat × Nat × List (Nat × Nat) × List (Nat × Nat)) ×
    (Nat × Bool × Option Nat) :=
  ((s.sys.phase, s.sys.tick, s.sys.next), (s.flu.cycle, s.flu.time, s.flu.votes, s.flu.votesPrev), (s.gr.j, s.gr.boundary, s.gr.s))

/-- From `r` to `t` the device keeps its mode, the flag ISOLATED and its course; where `records` holds, its mode only records faults. -/
structure State.Abides (records : Bool) (r t : State) : Prop where
  records : records = true → r.mode.recordsOnly = true
  role : t.reg 0x4000000C = r.reg 0x4000000C
  isolated : t.flag F.LDS_STATUS_ISOLATED = r.flag F.LDS_STATUS_ISOLATED
  course : t.course = r.course

section
variable {q : Bool} {r s t : State}

theorem State.Abides.refl (s : State) : s.Abides false s := ⟨nofun, rfl, rfl, rfl⟩

theorem State.Abides.start (h : s.mode.recordsOnly = true) : s.Abides true s := ⟨fun _ => h, rfl, rfl, rfl⟩

theorem State.Abides.phase (h : r.Abides q s) : s.sys.phase = r.sys.phase := congrArg (fun c => c.1.1) h.course

theorem State.Abides.tick (h : r.Abides q s) : s.sys.tick = r.sys.tick := congrArg (fun c => c.1.2.1) h.course
theorem State.Abides.next (h : r.Abides q s) : s.sys.next = r.sys.next := congrArg (fun c => c.1.2.2) h.course
theorem State.Abides.cycle (h : r.Abides q s) : s.flu.cycle = r.flu.cycle := congrArg (fun c => c.2.1.1) h.course
theorem State.Abides.time (h : r.Abides q s) : s.flu.time = r.flu.time := congrArg (fun c => c.2.1.2.1) h.course
theorem State.Abides.votes (h : r.Abides q s) : s.flu.votes = r.flu.votes := congrArg (fun c => c.2.1.2.2.1) h.course
theorem State.Abides.votesPrev (h : r.Abides q s) : s.flu.votesPrev = r.flu.votesPrev := congrArg (fun c => c.2.1.2.2.2) h.course
theorem State.Abides.j (h : r.Abides q s) : s.gr.j = r.gr.j := congrArg (fun c => c.2.2.1) h.course
theorem State.Abides.boundary (h : r.Abides q s) : s.gr.boundary = r.gr.boundary := congrArg (fun c => c.2.2.2.1) h.course
theorem State.Abides.sample (h : r.Abides q s) : s.gr.s = r.gr.s := congrArg (fun c => c.2.2.2.2) h.course

theorem State.Abides.mode (h : r.Abides q s) : s.mode = r.mode := State.mode_congr h.phase (State.getF_congr h.role)

theorem State.Abides.recordsOnly (h : r.Abides true s) : s.mode.recordsOnly = true := by
  rw [h.mode]
  exact h.records rfl

theorem State.Abides.then (h : r.Abides q s) (hr : t.reg 0x4000000C = s.reg 0x4000000C)
    (hi : t.flag F.LDS_STATUS_ISOLATED = s.flag F.LDS_STATUS_ISOLATED) (hc : t.course = s.course) : r.Abides q t :=
  ⟨h.records, hr.trans h.role, hi.trans h.isolated, hc.trans h.course⟩

end

section
variable {q : Bool} {old s : State} (hs : old.Abides q s)
include hs

/-- New hidden state but for phase, ticks, the Flue and the graph. -/
theorem State.Abides.fields (tiles : List Host.Cell) (mram flash : List Host.Cell) (otp : Otp) (ember : Ember) (doms : List Dom) (img : Img)
    (lds : Lds) (flt : Flt) (gdr : Gdr) (mots : List Mot) (adc : Adc) (poss : List Pos) (sps : List Sp) (cans : List Can) (eths : List Eth)
    (feedq : List Dgram) (map : MapSt) (sec : Sec) (saf : Saf) (cmps : List CmpRun) (jrn : Jrn) (ash : Ash) (age : Age) (mbx : Mbx)
    (svc : Svc) (free : Nat) (pending : List Instr) :
    old.Abides q ⟨s.regs, tiles, mram, flash, otp, ember, s.sys, doms, s.flu, img, s.gr, lds, flt, gdr, mots, adc, poss, sps, cans, eths,
      feedq, map, sec, saf, cmps, jrn, ash, age, mbx, svc, free, pending⟩ :=
  hs.then rfl rfl rfl

/-- New state of the Flue but for its cycle, time and votes. -/
theorem State.Abides.flue (integ : Integ) (rx : List RxFrame) (seen : List (Nat × Nat × Nat)) (sync : List (Nat × Nat × Int))
    (syncSched : List (Nat × Nat)) (syncSent : Bool) (lostRun : Nat) (sumM ppsR : Int) (ppsE : Option Int) (heardPrev : List Nat)
    (tx : List TxBuf) (out : List (Hdr × List Byte)) (sent : List (Hdr × Nat)) (wire : List Byte) (dynReq : Nat) (withhold : Bool)
    (fwd : Option (Nat × Nat)) (fwdFrame : List Byte) (fwdAbort : Bool) :
    old.Abides q { s with flu := ⟨s.flu.cycle, s.flu.time, integ, rx, seen, sync, syncSched, s.flu.votes, s.flu.votesPrev, syncSent, lostRun,
      sumM, ppsR, ppsE, heardPrev, tx, out, sent, wire, dynReq, withhold, fwd, fwdFrame, fwdAbort⟩ } :=
  hs.then rfl rfl rfl

/-- New state of the graph, and of what lies behind it, but for its tick, its boundary and its sample cycle. -/
theorem State.Abides.graph (before : Option (Nat × List InstRun × List SigRun)) (skipping : Bool) (noCommit : List (Nat × Nat))
    (insts : List InstRun) (sigs : List SigRun) (exec : List Exec) (intake south : List (Nat × Word × Bool)) (stamp : Nat)
    (repeats : List (Bool × Nat)) (verified : List Nat) (open_ skip : List Bool) (slack : List (Option Nat)) (digest : Word)
    (taps : List (Nat × List (Word × Bool))) (status : List (Nat × Word)) (edits : List (Nat × Nat × Nat × Word)) (adc : Adc) :
    old.Abides q { s with gr := ⟨before, s.gr.j, s.gr.boundary, s.gr.s, skipping, noCommit, insts, sigs, exec, intake, south, stamp, repeats,
      verified, open_, skip, slack, digest, taps, status, edits⟩, adc := adc } :=
  hs.then rfl rfl rfl

theorem State.Abides.ite (c : Prop) [Decidable c] {t : State} (k : old.Abides q t) : old.Abides q (if c then s else t) := by
  split
  · exact hs
  · exact k

theorem State.Abides.when (c : Bool) (f : State → State) (hf : ∀ u, old.Abides q u → old.Abides q (f u)) : old.Abides q (s.when c f) := by
  cases c
  · exact hs
  · exact hf s hs

theorem State.Abides.foldl {α : Type} (l : List α) (f : State → α → State) (hf : ∀ u, ∀ a ∈ l, old.Abides q u → old.Abides q (f u a)) :
    old.Abides q (l.foldl f s) := by
  induction l generalizing s with
  | nil => exact hs
  | cons a l ih => exact ih (hf s a List.mem_cons_self hs) fun u b hb => hf u b (List.mem_cons_of_mem a hb)

theorem State.Abides.each {α : Type} (l : List α) (f : State → α → State) (hf : ∀ u, ∀ a ∈ l, old.Abides q u → old.Abides q (f u a)) :
    old.Abides q (s.each l f) := hs.foldl l f hf

/-! ### Registers (Machine/Ops.lean)

The forms that end in `At` are for the arrays of registers of `aside_strided`. -/

theorem State.Abides.setReg (a : Nat) (w : Word) (h : aside a = true) : old.Abides q (s.setReg a w) :=
  hs.then (State.reg_setReg_other s a _ w (aside_iff.1 h).1.ne')
    (State.flag_congr (State.getF_congr (State.reg_setReg_other s a _ w (aside_iff.1 h).2))) rfl

section
variable {b k i : Nat}

theorem State.Abides.setRegAt (a : Nat) (w : Word) (ha : a = b + k * i) (h : asideStrided b k = true) : old.Abides q (s.setReg a w) :=
  hs.setReg a w (ha ▸ aside_strided h)

theorem State.Abides.setFAt (f : Fld) (v : Nat) (ha : f.addr = b + k * i) (h : asideStrided b k = true) : old.Abides q (s.setF f v) :=
  hs.setRegAt _ _ ha h

theorem State.Abides.setFlagAt (f : Fld) (c : Bool) (ha : f.addr = b + k * i) (h : asideStrided b k = true) : old.Abides q (s.setFlag f c) :=
  hs.setRegAt _ _ ha h

theorem State.Abides.incFAt (f : Fld) (ha : f.addr = b + k * i) (h : asideStrided b k = true) : old.Abides q (s.incF f) := hs.setRegAt _ _ ha h

end

theorem State.Abides.setF (f : Fld) (v : Nat) (h : aside f.addr = true) : old.Abides q (s.setF f v) := hs.setReg _ _ h
theorem State.Abides.setFlag (f : Fld) (b : Bool) (h : aside f.addr = true) : old.Abides q (s.setFlag f b) := hs.setReg _ _ h
theorem State.Abides.addF (f : Fld) (n : Nat) (h : aside f.addr = true) : old.Abides q (s.addF f n) := hs.setReg _ _ h
theorem State.Abides.incF (f : Fld) (h : aside f.addr = true) : old.Abides q (s.incF f) := hs.setReg _ _ h

/-- A field beside ISOLATED, whatever its register. -/
theorem State.Abides.beside (f : Fld) (v : Nat) (h0 : 0x4000000C < f.addr) (hf : f.ok = true) (hd : f.apart F.LDS_STATUS_ISOLATED = true) :
    old.Abides q (s.setF f v) :=
  hs.then (State.reg_setReg_other s _ _ _ h0.ne') (State.flag_setF_apart s f _ v hf hd) rfl

/-- Another field of LDS_STATUS. -/
theorem State.Abides.status (f : Fld) (v : Nat) (h0 : f.addr = 0x40110000) (hf : f.ok = true)
    (hd : f.apart F.LDS_STATUS_ISOLATED = true) : old.Abides q (s.setF f v) :=
  hs.beside f v (h0 ▸ by decide) hf hd

theorem State.Abides.statusFlag (f : Fld) (b : Bool) (h0 : f.addr = 0x40110000) (hf : f.ok = true)
    (hd : f.apart F.LDS_STATUS_ISOLATED = true) : old.Abides q (s.setFlag f b) :=
  hs.status f _ h0 hf hd
end

section
variable {q : Bool} {old s : State} (hs : old.Abides q s)
include hs

theorem State.Abides.marker (kind id data : Nat) : old.Abides q (s.marker kind id data) := hs.fields ..

theorem State.Abides.event (e : EvBlk) (b : Nat) (h : aside e.ev.addr = true) : old.Abides q (s.event e b) :=
  ((hs.setF _ _ h).marker ..).ite _ (hs.setF _ _ h)

theorem State.Abides.eventAt (e : EvBlk) (b : Nat) {a k i : Nat} (ha : e.ev.addr = a + k * i) (h : asideStrided a k = true) :
    old.Abides q (s.event e b) :=
  hs.event e b (ha ▸ aside_strided h)

theorem State.Abides.pushLog (fld : Nat → Fld) (n : Nat) (h : ∀ k, aside (fld k).addr = true) :
    old.Abides q (s.pushLog fld n) := by
  induction n generalizing s with
  | zero => exact hs
  | succ n ih => exact ih (hs.setReg _ _ (h _))

theorem State.Abides.ashRequest (type flags : Nat) (body : List Byte) : old.Abides q (s.ashRequest type flags body) := hs.fields ..

/-! ### Power domains (Machine/Domains.lean) -/

theorem State.Abides.setDom (d : Nat) (x : Dom) : old.Abides q (s.setDom d x) := hs.fields ..

theorem State.Abides.setDomState (d v : Nat) : old.Abides q (s.setDomState d v) := (hs.setFAt _ _ rfl rfl).setF _ _ rfl

theorem State.Abides.putVote (d client : Nat) (b : Bool) : old.Abides q (s.putVote d client b) :=
  ((hs.setFAt _ _ rfl rfl).setFlagAt _ _ rfl rfl).ite _ (hs.setFAt _ _ rfl rfl)

theorem State.Abides.domRefuse (d id : Nat) : old.Abides q (s.domRefuse d id) :=
  (((((hs.incFAt _ rfl rfl).setFAt _ _ rfl rfl).setF _ _ rfl).setF _ _ rfl).setF _ _ rfl).event _ _ rfl

theorem State.Abides.domAbort (d id : Nat) : old.Abides q (s.domAbort d id) :=
  (((((hs.incFAt _ rfl rfl).setFAt _ _ rfl rfl).setF _ _ rfl).setF _ _ rfl).setF _ _ rfl).event _ _ rfl

theorem State.Abides.domEnter (d : Nat) : old.Abides q (s.domEnter d) := by
  unfold State.domEnter
  dsimp only
  split
  · exact hs.domRefuse ..
  · exact (hs.setDomState ..).setDom ..

theorem State.Abides.domRestore (d : Nat) (retried : Bool) : old.Abides q (s.domRestore d retried) :=
  ((hs.setDomState ..).setDom ..).setFAt _ _ rfl rfl

theorem State.Abides.domVote (d client : Nat) : old.Abides q (s.domVote d client) := by
  unfold State.domVote
  dsimp only
  split
  · exact hs
  · split
    · exact hs.putVote ..
    · exact ((((hs.putVote ..).domAbort ..).setDom ..).setFAt _ _ rfl rfl).ite _ (hs.putVote ..)
    · exact (hs.putVote ..).ite _ ((hs.putVote ..).domRestore ..)

theorem State.Abides.domUnvote (d client : Nat) (coincident : Option Nat) : old.Abides q (s.domUnvote d client coincident) := by
  unfold State.domUnvote
  dsimp only
  split
  · exact hs
  · split
    · exact (((hs.putVote ..).putVote ..).domRefuse ..).ite _ ((hs.putVote ..).putVote ..)
    · exact ((hs.putVote ..).domEnter ..).ite _ (hs.putVote ..)

theorem State.Abides.modeVotes (m : Mode) : old.Abides q (s.modeVotes m) := by
  have h : old.Abides q ((s.each (List.range 8) fun s c =>
      if m = .safeHold ∨ m = .dormant ∨ s.flag (F.SYS_CLUSTER_RETIRED c) then s.domUnvote (9 + c) 0 none else s.domVote (9 + c) 0).when
        (decide (m = .dormant)) fun s => s.each [18, 19, 21, 20, 17, 8, 7, 6, 5, 4, 3, 2, 1] fun s d => s.domUnvote d 0 none) :=
    (hs.each _ _ fun _ _ _ hu => (hu.domUnvote ..).ite _ (hu.domVote ..)).when _ _ fun _ hu => hu.each _ _ fun _ _ _ hw => hw.domUnvote ..
  exact (h.domVote ..).ite _ h

/-! ### Power stage and journal (Machine/Modes.lean) -/

theorem State.Abides.setMot (b : Nat) (m : Mot) : old.Abides q (s.setMot b m) := hs.fields ..

theorem State.Abides.statePlan (b : Nat) : old.Abides q (s.statePlan b) := hs.setMot ..

theorem State.Abides.refreshBridge (b : Nat) (hb : b < 3) : old.Abides q (s.refreshBridge b) := by
  unfold State.refreshBridge
  extract_lets imp st was forced s1 s2 s3 s4 s5
  have h2 : old.Abides q s2 := ((hs.setFAt _ _ rfl rfl).setFAt _ _ rfl rfl).when _ _ fun _ hu => (hu.incFAt _ rfl rfl).eventAt _ _ rfl rfl
  have h4 : old.Abides q s4 := (h2.when _ _ fun _ hu => hu.incFAt _ rfl rfl).when _ _ fun _ hu => (hu.incFAt _ rfl rfl).eventAt _ _ rfl rfl
  have h5 : old.Abides q s5 := ((h4.setFlagAt _ _ rfl rfl).setFlagAt _ _ rfl rfl).setFAt _ _ rfl rfl
  refine .each (h5.when _ _ fun _ hu => hu.statePlan ..) _ _ fun _ g hg hu => ?_
  have ha : aside (F.GDR_GATE_CMD g).addr = true := by
    rw [aside_iff]
    simp only [F.GDR_GATE_CMD, List.mem_range'_1] at hg ⊢
    omega
  exact (hu.setFlag (F.GDR_GATE_CMD g) _ ha).setFlag (F.GDR_GATE_SENSE g) _ ha

theorem State.Abides.refreshSol (k : Nat) : old.Abides q (s.refreshSol k) :=
  (((hs.setFAt _ _ rfl rfl).setFAt _ _ rfl rfl).setFlagAt _ _ rfl rfl).when _ _ fun _ hu => hu.setFAt _ _ rfl rfl

theorem State.Abides.refreshEn (e : Nat) : old.Abides q (s.refreshEn e) := hs.setFlagAt _ _ rfl rfl
theorem State.Abides.refreshSupply (i : Nat) : old.Abides q (s.refreshSupply i) := hs.setFlagAt _ _ rfl rfl

theorem State.Abides.refreshPower : old.Abides q s.refreshPower :=
  (((((hs.each _ _ fun _ _ hb hu => hu.refreshBridge _ (List.mem_range.1 hb)).each _ _ fun _ _ _ hu => hu.refreshSol ..).each _ _
    fun _ _ _ hu => hu.refreshEn ..).setF _ _ rfl).setFlag _ _ rfl).setFlag _ _ rfl

/-- New level of XDIS_OUT. -/
theorem State.Abides.xdisOut (l : Level) (n : Nat) : old.Abides q { s with sys := { s.sys with xdisOut := l, xdisOutCnt := n } } :=
  hs.then rfl rfl rfl

theorem State.Abides.refreshXdis : old.Abides q s.refreshXdis := ((hs.xdisOut ..).setFlag _ _ rfl).setFlag _ _ rfl

theorem State.Abides.logTrigger (kind source : Nat) : old.Abides q (s.logTrigger kind source) :=
  (hs.pushLog _ _ (fun _ => aside_strided rfl)).setReg _ _ rfl

theorem State.Abides.trigger (kind source : Nat) : old.Abides q (s.trigger kind source) :=
  (((((hs.logTrigger ..).fields ..).incF _ rfl).incF _ rfl).event _ _ rfl).ite _ ((((((hs.logTrigger ..).fields ..).setF _ _ rfl).setF _ _ rfl).setF
    _ _ rfl).ite _ (hs.logTrigger ..))

theorem State.Abides.refreshReact : old.Abides q s.refreshReact := (hs.setF _ _ rfl).setF _ _ rfl

/-! ### Networks (Machine/Modes.lean) -/

theorem State.Abides.isoSend (a : Nat) : old.Abides q (s.isoSend a) := hs.ite _ ((hs.fields ..).incF _ rfl)

theorem State.Abides.isoClaim (a next : Nat) : old.Abides q (s.isoClaim a next) := hs.ite _ ((hs.isoSend ..).fields ..)

theorem State.Abides.refreshSec : old.Abides q s.refreshSec := hs.ite _ (((hs.fields ..).setFlag _ _ rfl).setF _ _ rfl)

theorem State.Abides.startCan : old.Abides q s.startCan := by
  refine hs.each _ _ fun u n _ hu => hu.ite _ (((hu.setFlagAt _ _ rfl rfl).setFAt _ _ rfl rfl).ite _ (.setFAt (.fields
    (.each ((hu.setRegAt _ _ rfl rfl).setFAt _ _ rfl rfl) _ _ fun w b hb hw => ?_) ..) _ _ rfl rfl))
  have ha : aside (F.CAN_TXBUF_STATE n b).addr = true := by
    rw [aside_iff]
    simp only [F.CAN_TXBUF_STATE, List.mem_range] at hb ⊢
    omega
  exact (hw.setFlag (F.CAN_TXBUF_HELD n b) _ ha).setF (F.CAN_TXBUF_STATE n b) _ ha

theorem State.Abides.refreshEth (p : Nat) : old.Abides q (s.refreshEth p) := (hs.setFlagAt _ _ rfl rfl).setFlagAt _ _ rfl rfl

theorem State.Abides.refreshNet : old.Abides q s.refreshNet := by
  unfold State.refreshNet
  extract_lets lead iso s1 s2 c
  have h1 : old.Abides q s1 := hs.startCan.each _ _ fun _ _ _ hu => hu.setFlagAt _ _ rfl rfl
  have h2 : old.Abides q s2 := h1.each _ _ fun _ _ _ hu => hu.refreshEth ..
  exact (h2.ite _ (h2.isoClaim ..)).ite _ ((((h2.fields ..).setFlag _ _ rfl).setFlag _ _ rfl).setF _ _ rfl)

theorem State.Abides.refreshMon : old.Abides q s.refreshMon := (hs.setFlag _ _ rfl).setFlag _ _ rfl

/-! ### Fault collector (Machine/Collector.lean) -/

theorem State.Abides.setActive (n : Nat) (b : Bool) (hn : n < 256) : old.Abides q (s.setActive n b) := by
  have ha : aside (F.FLT_ACTIVE_ACTIVE (n / 32)).addr = true := aside_iff.2 (by simp only [F.FLT_ACTIVE_ACTIVE]; omega)
  have hb : aside (F.FLT_SRC_ACTIVE n).addr = true := aside_iff.2 (by simp only [F.FLT_SRC_ACTIVE]; omega)
  have h := fun (v w : Nat) (b : Bool) => (((hs.setF _ v ha).setFlag _ b hb).setF F.FLT_STATUS_ACTIVE_COUNT w rfl)
  exact hs.ite _ ((h ..).ite _ ((h ..).fields ..).refreshReact)

theorem State.Abides.fltRecord (n : Nat) (hn : n < 256) : old.Abides q (s.fltRecord n) := by
  have ha : aside (F.FLT_STICKY_STICKY (n / 32)).addr = true := aside_iff.2 (by simp only [F.FLT_STICKY_STICKY]; omega)
  have hc : aside (classCounter (s.fltClass n)).addr = true := by unfold classCounter; split <;> rfl
  have h := ((((hs.setF _ (s.getF (F.FLT_STICKY_STICKY (n / 32)) ||| 2 ^ (n % 32)) ha).setActive n true hn).incF _ hc).setReg
    F.FLT_LAST_TICK.addr (w32 (s.tickLo % 2 ^ 16 * 2 ^ 16 + s.fltClass n * 2 ^ 8 + n)) rfl).marker 3 n (s.fltClass n)
  exact .ite ((h.ite _ ((h.setFlag _ _ rfl).setF _ _ rfl)).event _ _ rfl) _ h

theorem State.Abides.startWait (n : Nat) (hn : n < 256) : old.Abides q (s.startWait n) :=
  ((hs.setFlag _ _ (aside_iff.2 (by simp only [F.FLT_SRC_HELD]; omega))).ite _ (hs.ite _ (hs.fields ..))).ite _ hs

theorem State.Abides.fltFreezeAct (n : Nat) : old.Abides q (s.fltFreezeAct n) :=
  hs.when _ _ fun _ hu => (hu.trigger ..).when _ _ fun _ hw => hw.setFlag _ _ rfl

theorem State.Abides.settle (n : Nat) (hn : n < 256) : old.Abides q (s.settle n) := (hs.setActive _ _ hn).ite _ hs

theorem State.Abides.clearLevel (n : Nat) (hn : n < 256) : old.Abides q (s.clearLevel n) := (hs.fields ..).settle _ hn

theorem State.Abides.transient : old.Abides q s.transient := hs.incF _ rfl

theorem State.Abides.lasting : old.Abides q s.lasting := (hs.incF _ rfl).event _ _ rfl

end

section
variable {old s : State} (hs : old.Abides true s)
include hs

/-- A mode that only records has no brake to release (R440). -/
theorem State.Abides.brakeRelease : old.Abides true s.brakeRelease := by
  unfold State.brakeRelease
  split
  · next h =>
    have hr := hs.recordsOnly
    rw [h.1] at hr
    cases hr
  · exact hs

theorem State.Abides.doRaise (n : Nat) (us : Option Nat) (hn : n < 256) : old.Abides true (s.doRaise n us) := by
  have h : old.Abides true (((s.fltRecord n).startWait n).fltFreezeAct n) := ((hs.fltRecord n hn).startWait n hn).fltFreezeAct n
  unfold State.doRaise State.fltAct
  rw [State.takeAction_records h.recordsOnly]
  exact h.brakeRelease

theorem State.Abides.raise (n : Nat) (hn : n < 256) : old.Abides true (s.raise n) :=
  hs.ite _ ((hs.doRaise _ _ hn).settle _ hn)

theorem State.Abides.raiseLevel (n : Nat) (hn : n < 256) : old.Abides true (s.raiseLevel n) :=
  (hs.fields ..).ite _ ((hs.fields ..).doRaise _ _ hn)

end

section
variable {q : Bool} {old s : State} (hs : old.Abides q s)
include hs

/-! ### Set-points, networks and the ADC at a tick start -/

theorem State.Abides.setSp (c : Nat) (x : Sp) : old.Abides q (s.setSp c x) := hs.fields ..
theorem State.Abides.refreshAlt : old.Abides q s.refreshAlt := hs.setFlag _ _ rfl

theorem State.Abides.spUse (c : Nat) (alt : Bool) : old.Abides q (s.spUse c alt) := ((hs.setSp ..).setFlagAt _ _ rfl rfl).refreshAlt ..

theorem State.Abides.spLoss (c : Nat) (alt : Bool) : old.Abides q (s.spLoss c alt) :=
  hs.ite _ ((((hs.setSp ..).incFAt _ rfl rfl).incF _ rfl).setFlag _ _ rfl)

theorem State.Abides.spIntake (c : Nat) : old.Abides q (s.spIntake c) := by
  unfold State.spIntake
  extract_lets alt x src other s1 back change s2 use
  have h : old.Abides q s2 := (hs.when _ _ fun _ hu => hu.spLoss ..).when _ _ fun _ hu => hu.spUse ..
  split
  · exact hs
  · split
    · exact (h.setSp ..).setFlagAt _ _ rfl rfl
    · exact h.setFlagAt _ _ rfl rfl

theorem State.Abides.setCan (n : Nat) (c : Can) : old.Abides q (s.setCan n c) := hs.fields ..

theorem State.Abides.isoContend (a : Nat) : old.Abides q (s.isoContend a) := by
  unfold State.isoContend
  dsimp only
  split
  · exact ((hs.setFlag _ _ rfl).setF _ _ rfl).isoClaim ..
  · exact ((((hs.setFlag _ _ rfl).setF _ _ rfl).setFlag _ _ rfl).isoSend ..).setCan ..

theorem State.Abides.isoOther (f : CanMsg) : old.Abides q (s.isoOther f) := ((hs.isoContend ..).ite _ (hs.isoSend ..)).ite _ hs

theorem State.Abides.isoRequest (f : CanMsg) : old.Abides q (s.isoRequest f) :=
  ((hs.isoSend ..).ite _ ((hs.isoSend ..).ite _ hs)).ite _ hs

theorem State.Abides.isoProcess (f : CanMsg) : old.Abides q (s.isoProcess f) := (((hs.setCan ..).setFlag _ _ rfl).setFlag _ _ rfl).ite _ hs

theorem State.Abides.isoFrame (f : CanMsg) : old.Abides q (s.isoFrame f) := by
  unfold State.isoFrame
  split
  · exact hs
  · split
    · exact hs.when _ _ fun _ hu => hu.isoOther ..
    · exact hs.when _ _ fun _ hu => hu.isoRequest ..
    · exact hs.isoProcess ..
    · exact hs

theorem State.Abides.canDrain : old.Abides q s.canDrain := by
  unfold State.canDrain
  refine .when (.when (.each hs _ _ fun _ _ _ hu => ?_) _ _ fun _ hu => ?_) _ _ fun _ hu => ?_
  · exact hu.when _ _ fun _ hw => (hw.setCan ..).setFAt _ _ rfl rfl
  · exact hu.setCan ..
  · exact hu.each _ _ fun _ _ _ hw => hw.isoFrame ..

theorem State.Abides.ethTick : old.Abides q s.ethTick := hs.each _ _ fun _ _ _ hu => hu.when _ _ fun _ hw => hw.fields ..

theorem State.Abides.poseFree : old.Abides q s.poseFree := hs.ite _ (hs.fields ..)
theorem State.Abides.poseTick (t : Nat) : old.Abides q (s.poseTick t) := hs.setF _ _ rfl
theorem State.Abides.adcTrigger (code : Nat) : old.Abides q (s.adcTrigger code) := hs.fields ..

theorem State.Abides.adcTick (t : Nat) : old.Abides q (s.adcTick t) :=
  hs.each _ _ fun _ c hc hu => hu.setReg _ _ (by
    have hc := List.mem_range.1 (List.mem_of_mem_filter hc)
    rw [aside_iff]
    simp only [F.ADC_RESULT_AGE]
    omega)

theorem State.Abides.safTick : old.Abides q s.safTick := (hs.setF _ _ rfl).ite _ hs

/-- The words of the points may lie anywhere above SYS_MODE, but PENDING is beside ISOLATED. -/
theorem State.Abides.pointDone (p : Nat) : old.Abides q (s.setFlag (F.SEC_POINT_PENDING p) false) :=
  hs.beside _ _ (by simp only [F.SEC_POINT_PENDING]; omega) rfl ((Fld.apart_iff _ _).2 (.inr (.inr (show 6 < 30 by decide))))

theorem State.Abides.secTick (now : Nat) : old.Abides q (s.secTick now) := by
  unfold State.secTick
  refine hs.foldl _ _ fun _ _ _ hu => ?_
  split
  · split
    · exact (hu.pointDone _).ite _ hu
    · exact hu.pointDone _
  · exact hu

theorem State.Abides.tickBefore (t : Nat) : old.Abides q (s.tickBefore t) :=
  ((((((hs.canDrain ..).ethTick ..).adcTick ..).each _ _ fun _ _ _ hu => hu.spIntake ..).poseTick ..).secTick ..).safTick ..

/-! ### Position interfaces that raise nothing (Machine/Position.lean) -/

theorem State.Abides.setPos (i : Nat) (p : Pos) : old.Abides q (s.setPos i p) := hs.fields ..

theorem State.Abides.cmpFire (i t : Nat) : old.Abides q (s.cmpFire i t) := by
  unfold State.cmpFire
  extract_lets s1 pulse s1'
  have h : old.Abides q s1' := ((((hs.eventAt _ _ rfl rfl).setRegAt _ _ rfl rfl).incFAt _ rfl rfl).setFlagAt _ _ rfl rfl).when _ _ fun _ hu =>
    hu.setPos ..
  exact ((h.setRegAt _ _ rfl rfl).ite _ (h.setFlagAt _ _ rfl rfl)).adcTrigger ..

theorem State.Abides.setCount (i t : Nat) (w : Word) : old.Abides q (s.setCount i t w) :=
  (hs.setRegAt _ _ rfl rfl).when _ _ fun _ hu => hu.setRegAt _ _ rfl rfl

theorem State.Abides.countStep (i t : Nat) (new : Int) (up setsDir : Bool) : old.Abides q (s.countStep i t new up setsDir) :=
  (((((((hs.setCount ..).setRegAt _ _ rfl rfl).setRegAt _ _ rfl rfl).setPos ..).setFlagAt _ _ rfl rfl).when _ _ fun _ hu => hu.setFlagAt _ _ rfl
    rfl).when _ _ fun _ hu => (hu.eventAt _ _ rfl rfl).incFAt _ rfl rfl).when _ _ fun _ hu => hu.cmpFire ..

theorem State.Abides.countOne (i t : Nat) (up setsDir : Bool) : old.Abides q (s.countOne i t up setsDir) := hs.countStep ..

theorem State.Abides.setRaw (i t v held : Nat) : old.Abides q (s.setRaw i t v held) :=
  ((hs.setFAt _ _ rfl rfl).setPos ..).when _ _ fun _ hu => hu.setPos ..

theorem State.Abides.setLevels (i v : Nat) : old.Abides q (s.setLevels i v) := hs.setFAt _ _ rfl rfl
theorem State.Abides.holdCand (i : Nat) (c : Word) : old.Abides q (s.holdCand i c) := (hs.setPos ..).setFlagAt _ _ rfl rfl

theorem State.Abides.probeEdge (i t : Nat) (rising : Bool) (held : Nat) : old.Abides q (s.probeEdge i t rising held) := by
  unfold State.probeEdge
  extract_lets f s1 s2
  have h1 : old.Abides q s1 := hs.setFAt _ _ rfl rfl
  have h2 : old.Abides q s2 := h1.adcTrigger ..
  exact hs.ite _ (h1.ite _ (((h2.incFAt _ rfl rfl).eventAt _ _ rfl rfl).ite _ ((((((h2.setRegAt _ _ rfl rfl).setRegAt _ _ rfl rfl).setFlagAt
    _ _ rfl rfl).incFAt _ rfl rfl).eventAt _ _ rfl rfl).setPos ..)))

theorem State.Abides.takeAhead (i : Nat) (l : List Instr) : old.Abides q (s.takeAhead i l) := hs.setPos ..

end

theorem State.lt_of_posIn {s : State} {i : Nat} {modes : List Nat} (h : s.posIn i modes = true) : i < 4 := by
  simp only [State.posIn, Bool.and_eq_true, decide_eq_true_eq] at h
  exact h.1.1.2

theorem Src.pos_lt {i k : Nat} (hi : i < 4) (hk : k < 5) : Src.pos i k < 256 := by
  simp only [Src.pos]
  omega

/-! ### Position interfaces -/

section
variable {old s : State} (hs : old.Abides true s) {i : Nat}
include hs

theorem State.Abides.quadError (hi : i < 4) : old.Abides true (s.quadError i) :=
  ((hs.incFAt _ rfl rfl).eventAt _ _ rfl rfl).raise _ (Src.pos_lt hi (by decide))

theorem State.Abides.hallError (hi : i < 4) : old.Abides true (s.hallError i) :=
  ((hs.incFAt _ rfl rfl).eventAt _ _ rfl rfl).raise _ (Src.pos_lt hi (by decide))

theorem State.Abides.indexMismatch (hi : i < 4) : old.Abides true (s.indexMismatch i) :=
  (((hs.setFlagAt _ _ rfl rfl).incFAt _ rfl rfl).eventAt _ _ rfl rfl).raise _ (Src.pos_lt hi (by decide))

theorem State.Abides.indexEdge (t : Nat) (hi : i < 4) : old.Abides true (s.indexEdge i t) := by
  unfold State.indexEdge
  extract_lets cpr gated c d s1 cand homed gap agree
  have h1 : old.Abides true s1 := hs.setRegAt _ _ rfl rfl
  refine hs.ite _ (.ite ?_ _ (.ite ?_ _ ?_))
  · exact (h1.setFlagAt _ _ rfl rfl).setFlagAt _ _ rfl rfl
  · exact ((((((h1.setCount ..).setRegAt _ _ rfl rfl).incFAt _ rfl rfl).eventAt _ _ rfl rfl).setFlagAt _ _ rfl rfl).setFlagAt _ _ rfl
      rfl).setFlagAt _ _ rfl rfl
  · exact (h1.holdCand ..).when _ _ fun _ hu => hu.indexMismatch hi

theorem State.Abides.indexChange (t : Nat) (rising : Bool) (held : Nat) : old.Abides true (s.indexChange i t rising held) := by
  unfold State.indexChange
  split
  · exact hs
  · next hp =>
    have hi : i < 4 := State.lt_of_posIn (by simpa using hp)
    exact (hs.setRaw ..).ite _ ((((hs.setRaw ..).setLevels ..).indexEdge _ hi).ite _ ((hs.setRaw ..).setLevels ..))

theorem State.Abides.inputChange (t v held : Nat) : old.Abides true (s.inputChange i t v held) := by
  unfold State.inputChange
  extract_lets was acc s0 s1 s2 from' sector s1' dir
  have h0 : old.Abides true s0 := hs.setRaw ..
  have h1 : old.Abides true s1 := h0.setLevels ..
  have h1' : old.Abides true s1' := (h1.setFAt _ _ rfl rfl).setFAt _ _ rfl rfl
  split
  · next hp =>
    have hi := State.lt_of_posIn hp
    have h2 : old.Abides true s2 := by
      unfold s2
      split
      · exact h1.countOne ..
      · exact h1.countOne ..
      · exact h1.quadError hi
      · exact h1
    exact (h2.indexEdge _ hi).ite _ h2
  · split
    · next hp =>
      have hi := State.lt_of_posIn hp
      refine h0.ite _ ((h1'.hallError hi).ite _ (h1'.ite _ ?_))
      split
      · exact h1'
      · exact h1'.countOne ..
      · exact h1'.countOne ..
      · exact h1'.hallError hi
    · exact (h1.when _ _ fun _ hu => hu.countOne ..).ite _ (h0.ite _ hs)

theorem State.Abides.serialFail (again : Bool) (hi : i < 4) : old.Abides true (s.serialFail i again) :=
  (((((((hs.setFlagAt _ _ rfl rfl).setPos ..).setFlagAt _ _ rfl rfl).incFAt _ rfl rfl).eventAt _ _ rfl rfl).lasting ..).raiseLevel _ (Src.pos_lt hi
    (by decide))).ite _ ((hs.setFlagAt _ _ rfl rfl).setPos ..)

theorem State.Abides.serialGood (t data : Nat) (hi : i < 4) : old.Abides true (s.serialGood i t data) := by
  unfold State.serialGood
  refine .when ?_ _ _ fun _ hu => (((hu.incFAt _ rfl rfl).eventAt _ _ rfl rfl).transient ..).raise _ (Src.pos_lt hi (by decide))
  refine .clearLevel (.setPos (.setFlagAt (.setFlagAt (.setRegAt ?_ _ _ rfl rfl) _ _ rfl rfl) _ _ rfl rfl) ..) _ (Src.pos_lt hi (by decide))
  exact .ite (hs.countStep ..) _ (hs.setCount ..)

theorem State.Abides.serialWord (t : Nat) (start : Bool) (data : Nat) (err : Bool) (crc : Nat) :
    old.Abides true (s.serialWord i t start data err crc) := by
  have h := fun (w m r : Nat) (p : Pos) => ((((hs.setRaw i t w 1).setFAt (F.POS_SER_STAT_CRC_RX i) m rfl rfl).setFlagAt
    (F.POS_SER_STAT_ERR_BIT i) err rfl rfl).setFAt (F.POS_SER_STAT_RESULT i) r rfl rfl).setPos i p
  unfold State.serialWord
  dsimp only
  split
  · next hp =>
    have hi := State.lt_of_posIn (Bool.and_eq_true_iff.1 hp).1
    split
    · exact (h ..).serialGood _ _ hi
    · exact ((h ..).incFAt _ rfl rfl).serialFail _ hi
    · exact ((h ..).incFAt _ rfl rfl).serialFail _ hi
    · exact ((h ..).incFAt _ rfl rfl).serialFail _ hi
  · exact hs

theorem State.Abides.posAct (c : Instr) : old.Abides true (s.posAct c) := by
  unfold State.posAct
  split
  · exact hs.inputChange ..
  · exact hs.indexChange ..
  · exact hs.probeEdge ..
  · exact hs.serialWord ..
  · exact hs

theorem State.Abides.posLate (t : Nat) : old.Abides true (s.posLate i t) :=
  hs.ite _ (((hs.setPos ..).takeAhead ..).foldl _ _ fun _ _ _ hu => hu.posAct ..)

theorem State.Abides.posBefore (t tick : Nat) (hi : i < 4) : old.Abides true (s.posBefore i t tick) := by
  unfold State.posBefore
  extract_lets p slot s1 s2 s3
  have h1 : old.Abides true s1 := hs.when _ _ fun _ hu => (hu.setFAt _ _ rfl rfl).serialFail _ hi
  have h2 : old.Abides true s2 := by
    unfold s2
    split
    · exact h1.setFAt _ _ rfl rfl
    · exact h1
  have h3 : old.Abides true s3 := h2.when _ _ fun _ hu => hu.each _ _ fun _ k hk hw => hw.setReg _ _ (by
    rw [aside_iff]
    simp only [F.POS_EDGE_LOG_TIME, List.mem_range] at hk ⊢
    omega)
  exact (h3.setPos ..).posLate ..

theorem State.Abides.posAfter : old.Abides true (s.posAfter i) := ((hs.setFlagAt _ _ rfl rfl).setPos ..).each _ _ fun _ _ _ hu => hu.posAct ..

/-! ### The end of a Flue cycle -/

theorem State.Abides.syncLost : old.Abides true s.syncLost := ((((hs.flue ..).setFlag _ _ rfl).incF _ rfl).event _ _ rfl).raise _ (by decide)

end

section
variable {q : Bool} {old s : State} (hs : old.Abides q s)
include hs

theorem State.Abides.gotSync : old.Abides q s.gotSync := (hs.flue ..).setFlag _ _ rfl

theorem State.Abides.correct (own : Bool) : old.Abides q (s.correct own) := ((((hs.setF _ _ rfl).setF _ _ rfl).setF _ _ rfl).setReg _ _ rfl).flue ..

theorem State.Abides.boomFrame (n : Nat) (p : List Byte) (hn : n < 32) : old.Abides q (s.boomFrame n p) :=
  hs.ite _ (hs.setReg _ _ (aside_iff.2 (by simp only [F.FLU_BN_STAT_VALID]; omega)))

theorem State.Abides.bnStat (n : Nat) (hn : n < 32) : old.Abides q (s.bnStat n) := by
  unfold State.bnStat
  extract_lets s0
  have h0 : old.Abides q s0 := hs.setReg _ _ (aside_iff.2 (by simp only [F.FLU_BN_STAT_VALID]; omega))
  split
  · exact h0.boomFrame _ _ hn
  · exact h0

theorem State.Abides.slotRx (sl : Nat) (hsl : sl < 48) : old.Abides q (s.slotRx sl) := by
  have h := fun w => hs.setReg (F.FLU_SLOT_RX_GOOD_A sl).addr w (aside_iff.2 (by simp only [F.FLU_SLOT_RX_GOOD_A]; omega))
  unfold State.slotRx
  dsimp only
  split
  · split
    · exact h _
    · exact h _
  · split
    · exact h _
    · exact h _

theorem State.Abides.rxRegs : old.Abides q s.rxRegs :=
  ((((((((hs.setReg _ _ rfl).setReg _ _ rfl).setF _ _ rfl).setF _ _ rfl).setFlag _ _ rfl).setFlag _ _ rfl).fields ..).each _ _ fun _ _ hl hu =>
    hu.slotRx _ (List.mem_range.1 hl)).each _ _ fun _ _ hl hu => hu.bnStat _ (List.mem_range.1 hl)

theorem State.Abides.dynGrant : old.Abides q s.dynGrant :=
  ((((hs.setF _ _ rfl).setF _ _ rfl).setFlag _ _ rfl).when _ _ fun _ hu => (hu.incF _ rfl).event _ _ rfl).flue ..

theorem State.Abides.xdisJoin : old.Abides q s.xdisJoin := (hs.when _ _ fun _ hu => hu.setFlag _ _ rfl).statusFlag _ _ rfl rfl rfl

theorem State.Abides.xdisOkSeen (leads : List ChFrame) : old.Abides q (s.xdisOkSeen leads) :=
  (((hs.when _ _ fun _ hu => hu.setFlag _ _ rfl).when _ _ fun _ hu => hu.setFlag _ _ rfl).xdisJoin ..).fields ..

theorem State.Abides.peerStat (heard : List ChFrame) : old.Abides q (s.peerStat heard) := by
  unfold State.peerStat
  dsimp only
  refine hs.each _ _ fun _ _ _ hu => ?_
  split
  · exact ((hu.setRegAt _ _ rfl rfl).setRegAt _ _ rfl rfl).setRegAt _ _ rfl rfl
  · exact (hu.setFlagAt _ _ rfl rfl).when _ _ fun _ hw => hw.incF _ rfl

theorem State.Abides.exchangeEnd : old.Abides q s.exchangeEnd := (((hs.peerStat ..).xdisOkSeen ..).fields ..).status _ _ rfl rfl rfl

theorem State.Abides.mapCycle : old.Abides q s.mapCycle := by
  unfold State.mapCycle
  dsimp only
  split
  · exact (hs.fields ..).fields ..
  · exact hs.fields ..

theorem State.Abides.takeoverSeen : old.Abides q s.takeoverSeen := ((hs.graph ..).fields ..).ite _ (hs.graph ..)

theorem State.Abides.clearAligned : old.Abides q s.clearAligned :=
  ((((hs.fields ..).statusFlag _ _ rfl rfl rfl).incF _ rfl).event _ _ rfl).ite _ (hs.fields ..)

end

theorem State.Abides.syncCycleEnd {old s : State} (hs : old.Abides true s) : old.Abides true s.syncCycleEnd := by
  unfold State.syncCycleEnd
  dsimp only
  split
  · exact (((hs.correct ..).flue ..).syncLost ..).ite _ ((hs.correct ..).flue ..)
  · exact hs.correct ..
  · exact (hs.correct ..).flue ..
  · exact ((hs.correct ..).flue ..).ite _ (((hs.correct ..).flue ..).ite _ ((hs.correct ..).gotSync ..))
  · exact (hs.correct ..).flue ..
  · exact ((hs.correct ..).gotSync ..).ite _ ((hs.correct ..).flue ..)
  · exact hs

theorem State.Abides.ringEnd {old s : State} (hs : old.Abides true s) : old.Abides true (s.ringEnd).1 :=
  ((hs.syncCycleEnd ..).rxRegs ..).dynGrant ..
/-! ### The start of a Flue cycle -/

section
variable {q : Bool} {old s : State} (hs : old.Abides q s)
include hs

/-- The words of the own slots, from the schedule in use. -/
theorem State.Abides.ownSlot (i kind len : Nat) (sl : Option Nat) (hi : i < 8) : old.Abides q (match sl with
    | some sl => ((((s.setFlag (F.FLU_OWN_VALID i) true).setF (F.FLU_OWN_KIND i) kind).setF (F.FLU_OWN_LEN i) len).setF
      (F.FLU_OWN_AGE_CNT i) 0).setF (F.FLU_OWN_SLOT i) sl
    | none => s.setReg (F.FLU_OWN_VALID i).addr 0) := by
  have ha : aside (F.FLU_OWN_VALID i).addr = true := by
    rw [aside_iff]
    simp only [F.FLU_OWN_VALID]
    omega
  split
  · exact ((((hs.setFlag (F.FLU_OWN_VALID i) _ ha).setF (F.FLU_OWN_KIND i) _ ha).setF (F.FLU_OWN_LEN i) _ ha).setF (F.FLU_OWN_AGE_CNT i) _
      ha).setF (F.FLU_OWN_SLOT i) _ ha
  · exact hs.setReg _ _ ha

theorem State.Abides.ownSlotRx (own : List Nat) :
    old.Abides q ((List.range 48).foldl (fun s sl => s.setFlag (F.FLU_SLOT_RX_OWN sl) (own.contains sl)) s) :=
  hs.foldl _ _ fun _ sl hl hu => hu.setFlag _ _ (by
    rw [aside_iff]
    simp only [F.FLU_SLOT_RX_OWN, List.mem_range] at hl ⊢
    omega)

theorem State.Abides.useSched (k : Nat) : old.Abides q (s.useSched k) := by
  unfold State.useSched
  extract_lets s1 own s2 cmds cap s3 keep fresh flu s4
  have h1 : old.Abides q s1 := hs.setF _ _ rfl
  have h2 : old.Abides q s2 := by
    refine h1.each _ _ fun u i hi hu => ?_
    have hi := List.mem_range.1 hi
    have h := fun sl => hu.ownSlot i (u.slots.getD sl {}).kind (u.slots.getD sl {}).len (some sl) hi
    split
    · exact h _
    · exact hu.ownSlot i 0 0 none hi
  have h3 : old.Abides q s3 := ((h2.setF _ _ rfl).setF _ _ rfl).setF _ _ rfl
  exact (h3.flue ..).ownSlotRx own

theorem State.Abides.refreshSafTx : old.Abides q s.refreshSafTx := by
  unfold State.refreshSafTx
  refine hs.each _ _ fun _ t ht hu => ?_
  have ha : aside (F.SAF_TX_VALID t).addr = true := by
    rw [aside_iff]
    simp only [F.SAF_TX_VALID, List.mem_range] at ht ⊢
    omega
  split
  · exact (hu.setFlag (F.SAF_TX_VALID t) _ ha).setF (F.SAF_TX_SLOT t) _ ha
  · exact hu.setReg _ _ ha

theorem State.Abides.startHandover : old.Abides q s.startHandover := (((hs.fields ..).statusFlag _ _ rfl rfl rfl).refreshXdis ..).ite _ hs

theorem State.Abides.testWindow : old.Abides q s.testWindow := by
  unfold State.testWindow
  extract_lets c free asked give s1
  have h : old.Abides q s1 := hs.setFlag _ _ rfl
  exact (((h.fields ..).incF _ rfl).ite _ h).refreshXdis

theorem State.Abides.chFrame : old.Abides q (s.chFrame).2 := hs.fields ..

theorem State.Abides.ownRecord : old.Abides q (s.ownRecord).2 := by
  unfold State.ownRecord
  dsimp only
  split
  · exact hs.fields ..
  · split
    · exact hs
    · exact hs.fields ..

theorem State.Abides.takeCmds (n : Nat) : old.Abides q (s.takeCmds n).2 := by
  unfold State.takeCmds
  dsimp only
  refine ((hs.each _ _ fun _ _ _ hu => ?_).fields ..).setF _ _ rfl
  split
  · exact State.Abides.ite (hu.fields ..) _ hu
  · exact hu

theorem State.Abides.freezeBuf (slot : Nat) : old.Abides q (s.freezeBuf slot).2 :=
  (hs.flue ..).when _ _ fun _ hu => (hu.incF _ rfl).event _ _ rfl

theorem State.Abides.freezeSlot (stream : List Byte) (slot : Nat) : old.Abides q (s.freezeSlot stream slot).2 := by
  unfold State.freezeSlot
  dsimp only
  split
  · exact hs.chFrame ..
  · split
    · exact hs
    · split
      · exact hs.takeCmds ..
      · exact hs.freezeBuf ..

theorem State.Abides.freezeStatic (stream : List Byte) (slots : List Nat) : old.Abides q (s.freezeStatic stream slots).2 := by
  induction slots generalizing s with
  | nil => exact hs
  | cons slot t ih => exact ih (hs.freezeSlot ..)

theorem State.Abides.freezeDyn : old.Abides q (s.freezeDyn).2 := by
  unfold State.freezeDyn
  dsimp only
  split
  · exact hs.takeCmds ..
  · exact hs

theorem State.Abides.dynUnused : old.Abides q s.dynUnused := hs.when _ _ fun _ hu => (hu.incF _ rfl).event _ _ rfl

theorem State.Abides.freezeFrames : old.Abides q s.freezeFrames := by
  unfold State.freezeFrames
  extract_lets slots own lds s0 flu r st s1 req low frames dy s2 flu2
  have h0 : old.Abides q s0 := hs.fields ..
  have h1 : old.Abides q s1 := (h0.ownRecord ..).freezeStatic ..
  have hd : old.Abides q dy.2 := by
    unfold dy
    split
    · exact h1.freezeDyn ..
    · exact h1
  exact .ite (((h0.flue ..).setF _ _ rfl).dynUnused ..) _ (((hd.flue ..).setF _ _ rfl).dynUnused ..)

theorem State.Abides.sampleRegs : old.Abides q s.sampleRegs := by
  unfold State.sampleRegs
  extract_lets n align stream s1 s2
  have h2 : old.Abides q s2 := (hs.statusFlag _ _ rfl rfl rfl).when _ _ fun _ hu => hu.setF _ _ rfl
  split
  · exact (h2.setReg _ _ rfl).setFlag _ _ rfl
  · exact h2

theorem State.Abides.ringPush (ckpt : Bool) (sc : Nat) (bs : List Byte) : old.Abides q (s.ringPush ckpt sc bs) :=
  ((((hs.fields ..).fields ..).setF _ _ rfl).setF _ _ rfl).setF _ _ rfl

theorem State.Abides.journalStart : old.Abides q s.journalStart := by
  unfold State.journalStart
  split
  · exact State.Abides.ite (.ite (hs.setFlag _ _ rfl) _ (((hs.setFlag _ _ rfl).ringPush ..).incF _ rfl)) _ hs
  · exact hs

theorem State.Abides.pulseNext : old.Abides q s.pulseNext := hs.setReg _ _ rfl

theorem State.Abides.markSkipped : old.Abides q s.markSkipped := (hs.graph ..).ite _ hs


end
/-! ### What TICK shows and takes in -/

theorem measuredFlds_aside : ∀ f ∈ measuredFlds, aside f.addr = true := by
  unfold measuredFlds
  simp only [List.forall_mem_append]
  refine ⟨⟨⟨⟨⟨⟨⟨⟨?_, ?_⟩, ?_⟩, ?_⟩, ?_⟩, ?_⟩, ?_⟩, ?_⟩, ?_⟩ <;> decide

section
variable {q : Bool} {old s : State} (hs : old.Abides q s)
include hs

theorem State.Abides.show (shown : List (Nat × Word)) : old.Abides q (s.show shown) := by
  unfold State.show
  extract_lets s1 s2 s3 s4
  have h1 : old.Abides q s1 := hs.each _ _ fun _ _ _ hu => hu.each _ _ fun _ f hf hw =>
    hw.setF _ _ (measuredFlds_aside f (List.mem_of_mem_filter hf))
  have h2 : old.Abides q s2 := h1.each _ _ fun _ k hk hu => hu.setF _ _ (by
    rw [aside_iff]
    simp only [F.GDR_GATE_VBS, List.mem_range] at hk ⊢
    omega)
  have h4 : old.Abides q s4 := (h2.each _ _ fun _ _ _ hu => hu.setFAt _ _ rfl rfl).each _ _ fun _ _ _ hu => hu.setFlagAt _ _ rfl rfl
  exact ((h4.each _ _ fun _ _ _ hu => hu.refreshSupply ..).refreshMon ..).when _ _ fun _ hu => hu.setReg _ _ rfl

theorem State.Abides.showMeasured (m : List (Nat × Word)) : old.Abides q (s.showMeasured m) := by
  unfold State.showMeasured
  extract_lets s1
  have h1 : old.Abides q s1 := hs.each _ _ fun _ b hb hu => .when (.each (hu.setRegAt _ _ rfl rfl) _ _ fun _ p hp hw => hw.setReg _ _ (by
    rw [aside_iff]
    simp only [F.MOT_UPH_U, List.mem_range] at hb hp ⊢
    omega)) _ _ fun _ hw => hw.setRegAt _ _ rfl rfl
  exact h1.each _ _ fun _ _ _ hu => hu.setFAt _ _ rfl rfl

end

/-- Outside SHADOW and REPLAY the intake record is the own one, or none. -/
theorem State.Abides.intakeTick {old s : State} (hs : old.Abides true s) (hsh : s.mode ≠ .shadow) (hre : s.mode ≠ .replay) (t j : Nat)
    (m : List (Nat × Word)) : old.Abides true (s.intakeTick t j m) := by
  unfold State.intakeTick
  extract_lets lds s1 own s2 s3 gr s4
  have h1 : old.Abides true s1 := (hs.fields ..).ite _ hs
  have h3 : old.Abides true s3 := ((h1.fields ..).poseFree ..).when _ _ fun _ hu => hu.fields ..
  have h4 : old.Abides true s4 := by
    unfold s4
    rw [if_neg hsh, if_neg hre]
    exact h3.graph ..
  exact (h4.graph ..).each _ _ fun _ _ _ hu => hu.posAfter ..

end Sys2Proof.Machine
end

section
/-!
# Ticks and Flue cycle boundaries (R33, R59, R77, R281, R366, R367)
-/
namespace Sys2Proof.Machine

open Sys2Proof

/-- What TICK shows changes registers alone. -/
theorem blind_clocks : State.Blind fun s : State => (s.sys.tick, s.gr, s.flu) := by
  rintro bs s t ⟨-, r, f, j, g, m, rfl⟩
  rfl

theorem State.show_touches (s : State) (shown : List (Nat × Word)) :
    s.Touches (fun _ => True) (fun s => (s.sys.tick, s.gr, s.flu)) (s.show shown) := by
  unfold State.show
  extract_lets s1 s2 s3 s4
  have h1 : s.Touches (fun _ => True) (fun s => (s.sys.tick, s.gr, s.flu)) s1 :=
    (State.Touches.refl blind_clocks _ s).each _ _ fun _ _ _ hu => hu.each _ _ fun _ _ _ hw => hw.setF _ _ trivial
  have h3 : s.Touches (fun _ => True) (fun s => (s.sys.tick, s.gr, s.flu)) s3 :=
    (h1.each _ _ fun _ _ _ hu => hu.setF _ _ trivial).each _ _ fun _ _ _ hu => hu.setF _ _ trivial
  have h4 : s.Touches (fun _ => True) (fun s => (s.sys.tick, s.gr, s.flu)) s4 := h3.each _ _ fun _ _ _ hu => hu.setFlag _ _ trivial
  exact (((h4.each _ _ fun _ _ _ hu => hu.setFlag _ _ trivial).setFlag _ _ trivial).setFlag _ _ trivial).when _ _ fun _ hu =>
    hu.setReg _ _ trivial

theorem State.showMeasured_touches (s : State) (measured shown : List (Nat × Word)) :
    s.Touches (fun _ => True) (fun s => (s.sys.tick, s.gr, s.flu)) ((s.show shown).showMeasured measured) := by
  unfold State.showMeasured
  extract_lets s1
  have h1 : s.Touches (fun _ => True) (fun s => (s.sys.tick, s.gr, s.flu)) s1 := (s.show_touches shown).each _ _ fun _ _ _ hu =>
    .when (.each (hu.setReg _ _ trivial) _ _ fun _ _ _ hw => hw.setReg _ _ trivial) _ _ fun _ hw => hw.setReg _ _ trivial
  exact h1.each _ _ fun _ _ _ hu => hu.setF _ _ trivial

/-! ### TICK -/

/-- The modes without samples in which a fault is only recorded. -/
abbrev Mode.Stands (m : Mode) : Prop := m = .load ∨ m = .join ∨ m = .safeHold ∨ m = .service

theorem Mode.Stands.recordsOnly {m : Mode} (h : m.Stands) : m.recordsOnly = true := by
  rcases h with rfl | rfl | rfl | rfl <;> rfl

theorem Mode.Stands.ne {m : Mode} (h : m.Stands) : m ≠ .shadow ∧ m ≠ .replay ∧ m.isLead = false := by
  rcases h with rfl | rfl | rfl | rfl <;> decide

/-- SYS_TICK has counted. -/
def State.counted (s : State) : State := { s with sys := { s.sys with tick := (s.sys.tick + 1) % 2 ^ 64 } }

/-- Tick j has begun at Flue time t. -/
def State.tickBegun (s : State) (j t : Nat) : State :=
  (({ s with gr := { s.gr with j := j, boundary := false } } : State).forgetTiles).setTime t

theorem State.setTime_mode (s : State) (t : Nat) : (s.setTime t).mode = s.mode :=
  State.mode_congr rfl (State.getF_congr (State.reg_setReg_other _ _ _ _ (by decide)))

theorem State.tickBegun_mode (s : State) (j t : Nat) : (s.tickBegun j t).mode = s.mode := State.setTime_mode ..

theorem State.tickBegun_shows (s : State) (j t : Nat) : (s.tickBegun j t).sys.tick = s.sys.tick ∧ (s.tickBegun j t).gr.j = j ∧
    (s.tickBegun j t).gr.boundary = false ∧ (s.tickBegun j t).gr.s = s.gr.s ∧ (s.tickBegun j t).flu.time = t % 2 ^ 64 :=
  ⟨rfl, rfl, rfl, rfl, rfl⟩

/-- The tick that starts, after the boundary the first (R77). -/
def State.tickDue (s : State) : Nat := if s.gr.boundary then 0 else s.gr.j + 1

/-- What was accepted before the tick start takes effect. -/
def State.lateTaken (s : State) (t j : Nat) : State :=
  s.each (List.range 4) (fun s i => if s.gr.boundary then s.posLate i t else s.posBefore i t (4 * s.flu.cycle + j))

theorem State.Abides.lateTaken {old s : State} (hs : old.Abides true s) (t j : Nat) : old.Abides true (s.lateTaken t j) :=
  hs.each _ _ fun _ _ hi hu => (hu.posLate ..).ite _ (hu.posBefore _ _ (List.mem_range.1 hi))

theorem State.tickStart_fifth {s : State} (hb : s.gr.boundary = false) (hj : 3 ≤ s.gr.j) (measured shown : List (Nat × Word)) :
    s.tickStart measured shown = (s.counted.show shown).showMeasured measured := by
  unfold State.tickStart
  exact if_pos ⟨hb, hj⟩

/-- The tick of a device without samples, once it is known when it starts. -/
def State.idleTick (s : State) (t j : Nat) (measured : List (Nat × Word)) : State :=
  ((((s.lateTaken t j).tickBegun j t).tickBefore t).intakeTick t j measured)

theorem State.tickStart_idle {s : State} {measured shown : List (Nat × Word)} (hg : s.gr.s = none) (h : s.gr.boundary = true ∨ s.gr.j < 3)
    (t : Nat) (ht : ((s.counted.show shown).showMeasured measured).flu.cycle * 125000 + 31250 * s.tickDue = t)
    (hs : (((s.counted.show shown).showMeasured measured).idleTick t s.tickDue measured).gr.s = none) :
    s.tickStart measured shown = ((s.counted.show shown).showMeasured measured).idleTick t s.tickDue measured := by
  have hf : ¬(s.gr.boundary = false ∧ 3 ≤ s.gr.j) := by
    rintro ⟨hb, hj⟩
    rcases h with h | h
    · rw [hb] at h
      cases h
    · omega
  obtain ⟨w, hw⟩ : ∃ w, (s.counted.show shown).showMeasured measured = w := ⟨_, rfl⟩
  rw [hw] at ht hs ⊢
  unfold State.counted at hw
  unfold State.tickStart
  rw [hw]
  obtain ⟨j, hj⟩ : ∃ j, s.tickDue = j := ⟨_, rfl⟩
  rw [hj] at ht hs ⊢
  unfold State.tickDue at hj
  dsimp only
  rw [if_neg hf, hg, hj, ht]
  dsimp only
  unfold State.idleTick State.lateTaken State.tickBegun at hs ⊢
  rw [hs]

/-- What a tick without samples does after it has begun abides (R77, R424). -/
theorem State.Abides.idleTick {old w : State} (hw : old.Abides true w) (hm : old.mode.Stands) (t j : Nat) (measured : List (Nat × Word)) :
    ((w.lateTaken t j).tickBegun j t).Abides true (w.idleTick t j measured) := by
  have hv : ((w.lateTaken t j).tickBegun j t).mode = old.mode := (State.tickBegun_mode ..).trans (hw.lateTaken t j).mode
  have hb : ((w.lateTaken t j).tickBegun j t).Abides true (((w.lateTaken t j).tickBegun j t).tickBefore t) :=
    (State.Abides.start (by rw [hv]; exact hm.recordsOnly)).tickBefore t
  obtain ⟨h1, h2, -⟩ := hm.ne
  have hm' := hb.mode.trans hv
  exact hb.intakeTick (by rw [hm']; exact h1) (by rw [hm']; exact h2) ..

/-- TICK in a mode without samples (R33, R77). -/
theorem State.tick_idle {s : State} (hm : s.mode.Stands) (hg : s.gr.s = none) (h : s.gr.boundary = true ∨ s.gr.j < 3)
    (measured shown : List (Nat × Word)) {u : State} (hu : s.tickStart measured shown = u) :
    u.mode = s.mode ∧ u.sys.tick = (s.sys.tick + 1) % 2 ^ 64 ∧ u.gr.j = s.tickDue ∧ u.gr.boundary = false ∧
      u.flu.time = (s.flu.cycle * 125000 + 31250 * s.tickDue) % 2 ^ 64 := by
  have hr : s.counted.mode.recordsOnly = true := hm.recordsOnly
  have hm' : s.counted.mode.Stands := hm
  have hw : s.counted.Abides true ((s.counted.show shown).showMeasured measured) := ((State.Abides.start hr).show shown).showMeasured measured
  have hidle := State.tickStart_idle (measured := measured) (shown := shown) hg h
  obtain ⟨w, hw'⟩ : ∃ w, (s.counted.show shown).showMeasured measured = w := ⟨_, rfl⟩
  rw [hw'] at hw hidle
  obtain ⟨t, ht⟩ : ∃ t, s.flu.cycle * 125000 + 31250 * s.tickDue = t := ⟨_, rfl⟩
  have hl := hw.lateTaken t s.tickDue
  have hi := hw.idleTick hm' t s.tickDue measured
  obtain ⟨htick, hj, hb, hs, htime⟩ := (w.lateTaken t s.tickDue).tickBegun_shows s.tickDue t
  have hc : w.flu.cycle = s.flu.cycle := hw.cycle
  rw [hidle t (by rw [hc]; exact ht) (hi.sample.trans (hs.trans (hl.sample.trans hg)))] at hu
  subst hu
  rw [ht]
  exact ⟨hi.mode.trans ((State.tickBegun_mode ..).trans hl.mode), hi.tick.trans (htick.trans hl.tick), hi.j.trans hj, hi.boundary.trans hb,
    hi.time.trans htime⟩

/-! ### CYCLE_BOUNDARY up to the mode it takes -/

/-- The device at the boundary, before it takes a mode (R281, R365, R376). -/
def State.turned (s : State) : State :=
  let t := (s.flu.cycle + 1) * 125000
  let e := (s.each (List.range 4) (fun s i => s.posBefore i t (4 * (s.flu.cycle + 1)))).ringEnd.1
  ((e.sampleEnd.toTick0.exchangeEnd.mapCycle.setTime t).takeoverSeen).digestCompare

theorem State.Abides.sampleEnd {q : Bool} {old s : State} (hs : old.Abides q s) (hg : s.gr.s = none) : old.Abides q s.sampleEnd := by
  unfold State.sampleEnd
  rw [hg]
  exact hs.fields ..

/-- A device that is not SHADOW compares no digests (R370). -/
theorem State.Abides.digestCompare {q : Bool} {old s : State} (hs : old.Abides q s) (hm : s.mode ≠ .shadow) : old.Abides q s.digestCompare := by
  unfold State.digestCompare
  dsimp only
  split
  · rw [if_pos (.inl hm)]
    exact hs.fields ..
  · exact hs.fields ..

/-- The graph stands at tick 0 (R77). -/
theorem State.toTick0_shows (s : State) : s.toTick0.mode = s.mode ∧ s.toTick0.flag F.LDS_STATUS_ISOLATED = s.flag F.LDS_STATUS_ISOLATED ∧
    s.toTick0.sys = s.sys ∧ s.toTick0.flu = s.flu ∧ s.toTick0.gr.s = s.gr.s := ⟨rfl, rfl, rfl, rfl, rfl⟩

theorem State.setTime_shows (s : State) (t : Nat) : (s.setTime t).mode = s.mode ∧
    (s.setTime t).flag F.LDS_STATUS_ISOLATED = s.flag F.LDS_STATUS_ISOLATED ∧ (s.setTime t).sys = s.sys ∧
    (s.setTime t).flu.votes = s.flu.votes ∧ (s.setTime t).gr.s = s.gr.s ∧ (s.setTime t).flu.cycle = t % 2 ^ 64 / 125000 :=
  ⟨State.setTime_mode .., State.flag_congr (State.getF_congr (State.reg_setReg_other _ _ _ _ (by decide))), rfl, rfl, rfl, rfl⟩

/-- A device without samples comes to the boundary in its mode, with the modes asked for (R59, R281). -/
theorem State.turned_shows {s : State} (hm : s.mode.Stands) (hg : s.gr.s = none) (hc : (s.flu.cycle + 1) * 125000 < 2 ^ 64) :
    s.turned.mode = s.mode ∧ s.turned.flag F.LDS_STATUS_ISOLATED = s.flag F.LDS_STATUS_ISOLATED ∧ s.turned.sys.phase = s.sys.phase ∧
      s.turned.sys.next = s.sys.next ∧ s.turned.flu.votes = s.flu.votes ∧ s.turned.flu.cycle = s.flu.cycle + 1 ∧ s.turned.gr.s = none := by
  obtain ⟨t, ht⟩ : ∃ t, (s.flu.cycle + 1) * 125000 = t := ⟨_, rfl⟩
  unfold State.turned
  dsimp only
  rw [ht]
  have h1 : s.Abides true (s.each (List.range 4) fun s i => s.posBefore i t (4 * (s.flu.cycle + 1))) :=
    (State.Abides.start hm.recordsOnly).each _ _ fun _ _ hi hu => hu.posBefore _ _ (List.mem_range.1 hi)
  have h2 := h1.ringEnd
  have h3 := h2.sampleEnd (h2.sample.trans hg)
  generalize (State.ringEnd _).1.sampleEnd = a at h3 ⊢
  obtain ⟨am, ai, as, af, ag⟩ := a.toTick0_shows
  have h4 : a.toTick0.Abides false (a.toTick0.exchangeEnd.mapCycle) := (State.Abides.refl _).exchangeEnd.mapCycle
  generalize a.toTick0.exchangeEnd.mapCycle = b at h4 ⊢
  obtain ⟨bm, bi, bs, bv, bg, bc⟩ := b.setTime_shows t
  have hmode : (b.setTime t).mode = s.mode := bm.trans (h4.mode.trans (am.trans h3.mode))
  have h5 : (b.setTime t).Abides false (b.setTime t).takeoverSeen := (State.Abides.refl _).takeoverSeen
  have h6 := h5.digestCompare (by rw [h5.mode, hmode]; exact hm.ne.1)
  generalize (b.setTime t).takeoverSeen.digestCompare = c at h6 ⊢
  refine ⟨h6.mode.trans hmode, h6.isolated.trans (bi.trans (h4.isolated.trans (ai.trans h3.isolated))), h6.phase.trans ?_, h6.next.trans ?_,
    h6.votes.trans (bv.trans (h4.votes.trans ?_)), h6.cycle.trans (bc.trans ?_), h6.sample.trans (bg.trans (h4.sample.trans
      (ag.trans (h3.sample.trans hg))))⟩
  · rw [bs, h4.phase, as, h3.phase]
  · rw [bs, h4.next, as, h3.next]
  · rw [af, h3.votes]
  · rw [Nat.mod_eq_of_lt (ht ▸ hc), ← ht, Nat.mul_div_cancel _ (by decide)]

/-! ### The mode that a boundary takes -/

theorem State.boundaryMode_none {s : State} (h : s.sys.next = []) : s.boundaryMode = { s with sys := { s.sys with next := [] } } := by
  unfold State.boundaryMode
  rw [h]
  rfl

/-- The two roles that an election gives (R366). -/
abbrev Mode.IsRole (m : Mode) : Prop := m = .lead ∨ m = .shadow

theorem State.Abides.entryUnits {q : Bool} {old s : State} (hs : old.Abides q s) {m : Mode} (hm : m.IsRole) : old.Abides q (s.entryUnits m) := by
  have hr : (!m.runs) = false ∧ decide (m = .join) = false := by rcases hm with rfl | rfl <;> decide
  unfold State.entryUnits
  rw [hr.1, hr.2]
  exact ((hs.setFlag _ _ rfl).setFlag _ _ rfl).setFlag _ _ rfl

/-- Only STOPPING releases a brake (R440). -/
theorem State.brakeRelease_of_ne {s : State} (h : s.mode ≠ .stopping) : s.brakeRelease = s := by
  unfold State.brakeRelease
  exact if_neg fun hc => h hc.1

theorem State.Abides.entryOutputs {q : Bool} {old s : State} (hs : old.Abides q s) (m : Mode) (hm : old.mode ≠ .stopping) :
    old.Abides q (s.entryOutputs m) := by
  have h := ((((hs.modeVotes m).refreshReact.refreshXdis).refreshPower).refreshNet.refreshSec)
  unfold State.entryOutputs
  rwa [State.brakeRelease_of_ne (by rw [h.mode]; exact hm)]

/-- A role is entered, and the rest of its entry abides (R59). -/
theorem State.enterMode_abides (s : State) {m : Mode} (hm : m.IsRole) (cause source : Nat) (hmode : (s.modeEntered m cause source).mode = m) :
    (s.modeEntered m cause source).Abides false (s.enterMode m cause source) := by
  rw [State.enterMode_eq]
  refine .entryOutputs (.entryUnits ?_ hm) m ?_
  · exact (State.Abides.refl _).when _ _ fun _ hu => hu.trigger ..
  · rw [hmode]
    rcases hm with rfl | rfl <;> decide

theorem State.modeEntered_hidden (s : State) {m : Mode} (hm : m.IsRole) (cause source : Nat) :
    (s.modeEntered m cause source).sys.next = s.sys.next ∧ (s.modeEntered m cause source).flu = s.flu ∧
      (s.modeEntered m cause source).gr = s.gr := by
  have h : m ≠ .safeHold := by rcases hm with rfl | rfl <;> decide
  refine ⟨?_, rfl, rfl⟩
  unfold State.modeEntered
  simp only [State.marker_sys, State.ashRequest_sys, State.setF_sys, if_neg h]

theorem State.Abides.boundaryEffects {old s : State} {q : Bool} (hs : old.Abides q s) {m : Mode} (hm : m.IsRole)
    (hi : old.flag F.LDS_STATUS_ISOLATED = false) : old.Abides q (s.boundaryEffects .join m) := by
  have h1 : old.Abides q (s.setFlag F.SYS_STATUS_TIME_COARSE false) := hs.setFlag _ _ rfl
  unfold State.boundaryEffects
  rcases hm with rfl | rfl
  · exact (h1.fields ..).status _ _ rfl rfl rfl
  · dsimp only
    rw [hs.isolated, hi]
    exact ((h1.fields ..).statusFlag _ _ rfl rfl rfl).clearAligned

/-- The role asked for in JOIN is taken (R59, R366). -/
theorem State.boundaryMode_role {s : State} {m : Mode} {cause source : Nat} (hm : m.IsRole) (hj : s.mode = .join)
    (hn : s.sys.next = [(m, cause, source)]) :
    s.boundaryMode = ((({ (s.enterMode m cause source).boundaryEffects .join m with
      sys := { ((s.enterMode m cause source).boundaryEffects .join m).sys with next := [] } } : State).refreshXdis).refreshPower) := by
  unfold State.boundaryMode
  rw [hn, hj]
  rcases hm with rfl | rfl <;> rfl

theorem State.boundaryMode_shows {s : State} {m : Mode} {cause source : Nat} (hm : m.IsRole) (hj : s.mode = .join) (hp : s.sys.phase = .run)
    (hn : s.sys.next = [(m, cause, source)]) (hi : s.flag F.LDS_STATUS_ISOLATED = false) :
    s.boundaryMode.mode = m ∧ s.boundaryMode.getF F.SYS_MODE_PREV_MODE = Mode.join.code ∧ s.boundaryMode.flu.cycle = s.flu.cycle := by
  obtain ⟨hcode, hprev, hwithin⟩ := s.modeEntered_shows m cause source
  obtain ⟨-, hflu, -⟩ := s.modeEntered_hidden hm cause source
  have hphase := s.modeEntered_phase m cause source
  have hmode : (s.modeEntered m cause source).mode = m := State.mode_of_code (by rw [hphase, hp]; decide) hcode
  have hiso : (s.modeEntered m cause source).flag F.LDS_STATUS_ISOLATED = false := (hwithin.flag _ (by decide)).trans hi
  have h := (s.enterMode_abides hm cause source hmode).boundaryEffects hm hiso
  rw [State.boundaryMode_role hm hj hn]
  generalize (s.enterMode m cause source).boundaryEffects .join m = e at h ⊢
  generalize s.modeEntered m cause source = v at *
  obtain ⟨x, hx⟩ : ∃ x : State, { e with sys := { e.sys with next := [] } } = x := ⟨_, rfl⟩
  have hreg : x.reg = e.reg := by subst hx; rfl
  have hsys : x.sys.phase = e.sys.phase ∧ x.flu = e.flu := by subst hx; exact ⟨rfl, rfl⟩
  have hxm : x.mode = e.mode := State.mode_congr hsys.1 (State.getF_congr (congrFun hreg _))
  rw [hx]
  have h' : x.Abides false x.refreshXdis.refreshPower := (State.Abides.refl x).refreshXdis.refreshPower
  refine ⟨h'.mode.trans (hxm.trans (h.mode.trans hmode)), ?_, h'.cycle.trans ?_⟩
  · rw [State.getF_congr (f := F.SYS_MODE_PREV_MODE) (h'.role.trans ((congrFun hreg _).trans h.role)), hprev, hj]
  · rw [hsys.2, h.cycle, hflu]

/-! ### The cycle that begins -/

/-- The sample cycle that follows a boundary (R367, R376). -/
def Mode.sampleAt (m : Mode) (c : Nat) : Option Nat := if m = .shadow then some (c - 2) else if m.isLead then some c else none

/-- The graph goes to another sample cycle. -/
def State.withGraph (s : State) (gr : Gr) : State := { s with gr := gr }

/-- A shadow takes the sample cycle two before, whether it skips it or not (R367, R368). -/
theorem State.shadowSample_abides (s : State) :
    ∃ gr : Gr, gr.s = some (s.flu.cycle - 2) ∧ (s.withGraph gr).Abides false s.shadowSample := by
  unfold State.shadowSample
  extract_lets sc src gr lds skip lost
  have hskip : (s.withGraph (gr true)).Abides false skip := (State.Abides.refl (s.withGraph (gr true))).fields ..
  have hlost : (s.withGraph (gr true)).Abides false lost := ((hskip.incF _ rfl).event _ _ rfl).clearAligned
  split
  · exact ⟨gr true, rfl, hskip⟩
  · split
    · exact ⟨gr true, rfl, hlost⟩
    · split
      · exact ⟨gr true, rfl, hskip⟩
      · split
        · exact ⟨gr false, rfl, .when (.fields (State.Abides.refl (s.withGraph (gr false))) ..) _ _ fun _ hu => hu.statusFlag _ _ rfl rfl rfl⟩
        · exact ⟨gr true, rfl, hlost⟩

theorem State.nextSample_abides {s : State} (hm : s.mode ≠ .replay) :
    ∃ gr : Gr, gr.s = s.mode.sampleAt s.flu.cycle ∧ (s.withGraph gr).Abides false s.nextSample := by
  by_cases hs : s.mode = .shadow
  · unfold State.nextSample Mode.sampleAt
    rw [if_pos hs, hs]
    exact s.shadowSample_abides
  · unfold State.nextSample
    dsimp only
    split
    · next h => exact absurd h hs
    · next h => exact absurd h hm
    · unfold Mode.sampleAt
      rw [if_neg hs]
      split
      · exact ⟨_, rfl, .refl _⟩
      · exact ⟨_, rfl, .refl _⟩

/-- Tick 0 is due. -/
def State.boundaryReached (s : State) : State := { s with gr := { s.gr with boundary := true, j := 0 } }

/-- What follows on the mode that a boundary takes. -/
def State.cycleBegun (s : State) : State :=
  (s.refreshSafTx.startHandover.testWindow.clearCycle.freezeFrames.nextSample).boundaryReached.markSkipped.sampleRegs.journalStart.pulseNext

/-- The schedule that was agreed takes effect at the boundary (R335). -/
def State.schedTaken (s : State) (k : Option Nat) : State := match k with
  | some k => ((s.useSched k).setF F.FLU_SCHED_PENDING k).setFlag F.FLU_SCHED_SWITCHING false
  | none => s

theorem State.schedTaken_abides (s : State) (k : Option Nat) : s.Abides false (s.schedTaken k) := by
  cases k with
  | none => exact .refl s
  | some k => exact (((State.Abides.refl s).useSched k).setF _ _ rfl).setFlag _ _ rfl

theorem State.cycleBoundary_eq (s : State) : ∃ k, s.cycleBoundary = (s.turned.boundaryMode.schedTaken k).cycleBegun := by
  unfold State.cycleBoundary
  extract_lets t e s1 s2 s3 s4 s5 s6 gr s7
  have h3 : s.turned.boundaryMode = s3 := rfl
  clear_value s3 e
  have h4 : s3.schedTaken e.2 = s4 := rfl
  clear_value s4
  have h6 : s4.refreshSafTx.startHandover.testWindow.clearCycle.freezeFrames.nextSample = s6 := rfl
  clear_value s6
  have h7 : s6.boundaryReached.markSkipped = s7 := rfl
  refine ⟨e.2, ?_⟩
  unfold State.cycleBegun
  rw [h3, h4, h6, h7]

/-- The cycle that begins keeps the mode and takes its sample (R281, R367). -/
theorem State.cycleBegun_shows {s : State} (hm : s.mode ≠ .replay) :
    s.cycleBegun.mode = s.mode ∧ s.cycleBegun.reg 0x4000000C = s.reg 0x4000000C ∧ s.cycleBegun.flu.cycle = s.flu.cycle ∧
      s.cycleBegun.flu.votesPrev = s.flu.votes ∧ s.cycleBegun.gr.boundary = true ∧ s.cycleBegun.gr.j = 0 ∧
      s.cycleBegun.gr.s = s.mode.sampleAt s.flu.cycle := by
  unfold State.cycleBegun
  have h1 : s.Abides false s.refreshSafTx.startHandover.testWindow := (State.Abides.refl s).refreshSafTx.startHandover.testWindow
  generalize s.refreshSafTx.startHandover.testWindow = a at h1 ⊢
  have ha : a.clearCycle.mode = a.mode ∧ a.clearCycle.reg = a.reg ∧ a.clearCycle.flu.cycle = a.flu.cycle ∧
    a.clearCycle.flu.votesPrev = a.flu.votes := ⟨rfl, rfl, rfl, rfl⟩
  have h2 : a.clearCycle.Abides false a.clearCycle.freezeFrames := (State.Abides.refl _).freezeFrames
  generalize a.clearCycle = b at *
  generalize b.freezeFrames = c at *
  obtain ⟨am, ar, ac, av⟩ := ha
  have hmode : c.mode = s.mode := h2.mode.trans (am.trans h1.mode)
  obtain ⟨gr, hgr, h3⟩ := State.nextSample_abides (s := c) (by rw [hmode]; exact hm)
  have hcd : (c.withGraph gr).mode = c.mode ∧ (c.withGraph gr).reg = c.reg ∧ (c.withGraph gr).flu = c.flu ∧ (c.withGraph gr).gr = gr :=
    ⟨rfl, rfl, rfl, rfl⟩
  generalize c.withGraph gr = d at *
  generalize c.nextSample = e at *
  obtain ⟨dm, dr, df, dg⟩ := hcd
  have hx : e.boundaryReached.mode = e.mode ∧ e.boundaryReached.reg = e.reg ∧ e.boundaryReached.flu = e.flu ∧
    e.boundaryReached.gr.boundary = true ∧ e.boundaryReached.gr.j = 0 ∧ e.boundaryReached.gr.s = e.gr.s := ⟨rfl, rfl, rfl, rfl, rfl, rfl⟩
  generalize e.boundaryReached = x at *
  obtain ⟨xm, xr, xf, xb, xj, xs⟩ := hx
  have h4 : x.Abides false (x.markSkipped.sampleRegs.journalStart.pulseNext) := (State.Abides.refl x).markSkipped.sampleRegs.journalStart.pulseNext
  generalize x.markSkipped.sampleRegs.journalStart.pulseNext = y at h4 ⊢
  have hcyc : c.flu.cycle = s.flu.cycle := h2.cycle.trans (ac.trans h1.cycle)
  refine ⟨h4.mode.trans (xm.trans (h3.mode.trans (dm.trans hmode))), ?_, h4.cycle.trans ?_, h4.votesPrev.trans ?_, h4.boundary.trans xb,
    h4.j.trans xj, h4.sample.trans ?_⟩
  · rw [h4.role, xr, h3.role, dr, h2.role, ar, h1.role]
  · rw [xf, h3.cycle, df, hcyc]
  · rw [xf, h3.votesPrev, df, h2.votesPrev, av, h1.votes]
  · rw [xs, h3.sample, dg, hgr, hmode, hcyc]

/-- CYCLE_BOUNDARY in a mode without samples, with no mode asked for (R59, R281). -/
theorem State.cycleBoundary_idle {s : State} (hm : s.mode.Stands) (hg : s.gr.s = none) (hc : (s.flu.cycle + 1) * 125000 < 2 ^ 64)
    (hn : s.sys.next = []) :
    s.cycleBoundary.flu.cycle = s.flu.cycle + 1 ∧ s.cycleBoundary.gr.boundary = true ∧ s.cycleBoundary.gr.j = 0 ∧
      s.cycleBoundary.gr.s = none ∧ s.cycleBoundary.mode = s.mode ∧ s.cycleBoundary.flu.votesPrev = s.flu.votes := by
  obtain ⟨k, hk⟩ := s.cycleBoundary_eq
  obtain ⟨tm, -, -, tn, tv, tc, -⟩ := State.turned_shows hm hg hc
  rw [hk, State.boundaryMode_none (tn.trans hn)]
  generalize s.turned = u at *
  obtain ⟨x, hx⟩ : ∃ x : State, { u with sys := { u.sys with next := [] } } = x := ⟨_, rfl⟩
  have hxu : x.mode = u.mode ∧ x.flu = u.flu := by
    subst hx
    exact ⟨rfl, rfl⟩
  obtain ⟨xm, xf⟩ := hxu
  rw [hx]
  have h := x.schedTaken_abides k
  generalize x.schedTaken k = y at *
  have hy : y.mode = s.mode := h.mode.trans (xm.trans tm)
  obtain ⟨h1, h2, h3⟩ := hm.ne
  obtain ⟨zm, -, zc, zv, zb, zj, zs⟩ := State.cycleBegun_shows (s := y) (by rw [hy]; exact h2)
  refine ⟨zc.trans ?_, zb, zj, zs.trans ?_, zm.trans hy, zv.trans ?_⟩
  · rw [h.cycle, xf, tc]
  · rw [hy, Mode.sampleAt, if_neg h1, h3, if_neg (by decide)]
  · rw [h.votes, xf, tv]

/-- CYCLE_BOUNDARY with a role asked for in JOIN (R59, R366, R367). -/
theorem State.cycleBoundary_role {s : State} {m : Mode} {cause source : Nat} (hm : m.IsRole) (hj : s.mode = .join) (hp : s.sys.phase = .run)
    (hg : s.gr.s = none) (hc : (s.flu.cycle + 1) * 125000 < 2 ^ 64) (hn : s.sys.next = [(m, cause, source)])
    (hi : s.flag F.LDS_STATUS_ISOLATED = false) :
    s.cycleBoundary.flu.cycle = s.flu.cycle + 1 ∧ s.cycleBoundary.mode = m ∧
      s.cycleBoundary.getF F.SYS_MODE_PREV_MODE = Mode.join.code ∧ s.cycleBoundary.gr.s = m.sampleAt (s.flu.cycle + 1) := by
  obtain ⟨k, hk⟩ := s.cycleBoundary_eq
  obtain ⟨tm, ti, tp, tn, -, tc, -⟩ := State.turned_shows (.inr (.inl hj)) hg hc
  obtain ⟨bm, bp, bc⟩ := State.boundaryMode_shows hm (tm.trans hj) (tp.trans hp) (tn.trans hn) (ti.trans hi)
  rw [hk]
  have h := s.turned.boundaryMode.schedTaken_abides k
  generalize s.turned.boundaryMode.schedTaken k = y at *
  have hy : y.mode = m := h.mode.trans bm
  have hr : y.mode ≠ .replay := by
    rw [hy]
    rcases hm with rfl | rfl <;> decide
  obtain ⟨zm, zr, zc, -, -, -, zs⟩ := State.cycleBegun_shows hr
  have hcyc : y.flu.cycle = s.flu.cycle + 1 := h.cycle.trans (bc.trans tc)
  exact ⟨zc.trans hcyc, zm.trans hy, (State.getF_congr (f := F.SYS_MODE_PREV_MODE) (zr.trans h.role)).trans bp, by rw [zs, hy, hcyc]⟩

theorem Mode.sampleAt_role {m : Mode} (hm : m.IsRole) (c : Nat) : m.sampleAt (c + 1) = some (if m = .lead then c + 1 else c - 1) := by
  rcases hm with rfl | rfl <;> rfl

/-- Settles O22: what a tick and a boundary do is followed through the relation `State.Abides`. -/
theorem ticksAndCycles : Obligations.TicksAndCycles := by
  unfold Obligations.TicksAndCycles
  refine ⟨fun s measured shown hp => ⟨fun hb hj => ?_, fun hm hg h => ?_⟩,
    fun s hp hg hc => ⟨fun hm hn => ?_, fun m cause src hm hj hn hi => ?_⟩⟩
  · obtain ⟨-, -, hstores, hsame⟩ := s.counted.showMeasured_touches measured shown
    obtain ⟨htick, hrest⟩ := Prod.mk.inj hsame
    obtain ⟨hgr, hflu⟩ := Prod.mk.inj hrest
    exact ⟨_, next_congr ((if_pos (State.running_of_run hp)).trans (State.tickStart_fifth hb hj measured shown)), htick, hgr, hflu, hstores⟩
  · obtain ⟨u, hu⟩ : ∃ u, s.tickStart measured shown = u := ⟨_, rfl⟩
    obtain ⟨hmode, htick, hjd, hbd, htime⟩ := State.tick_idle hm hg h measured shown hu
    exact ⟨u, next_congr ((if_pos (State.running_of_run hp)).trans hu), htick, hmode, hjd, hbd, htime⟩
  · exact ⟨_, next_congr (if_pos (State.running_of_run hp)), State.cycleBoundary_idle hm hg hc hn⟩
  · obtain ⟨hcycle, hmode, hprev, hs⟩ := State.cycleBoundary_role hm hj hp hg hc hn hi
    exact ⟨_, next_congr (if_pos (State.running_of_run hp)), hcycle, hmode, hprev, hs.trans (Mode.sampleAt_role hm _)⟩

end Sys2Proof.Machine
end
